-- ==== Sys2Proof/Word.lean ====
section
/-! DEFINITION. The word types of the block: a register is one aligned 32-bit word, host memory and SPAD are bytes. -/

set_option Elab.async false

namespace Sys2Proof

/-- A register word: every register is one aligned 32-bit word (chapter 2). -/
abbrev Word := BitVec 32

/-- One byte of a descriptor, of SPAD or of flash. -/
abbrev Byte := BitVec 8

end Sys2Proof
end

