-- ==== Sys2Proof/Syntax.lean ====
section
/-! DEFINITION. The commands of the block: one constructor of `Instr` per row of spec/opcode_table.json, with the row's
operands.  A quantity the part measures or receives (a phase, a temperature, a header, a reading) is an operand of the event
that brings it. -/

set_option Elab.async false

namespace Sys2Proof.Machine

/-- The access paths that hold a SYS_KEY unlock of their own (R36), and the boot path of R37, which holds none. -/
inductive Path where
  | pcie
  | i2c
  | eng (e : Nat)
  | boot
  deriving DecidableEq, Repr

/-- Where a command comes from: a host command ring 56 to 63, engine firmware, or a command record of the flash
directory (R37). -/
inductive CmdSrc where
  | ring (n : Nat)
  | eng (e : Nat)
  | boot
  deriving DecidableEq, Repr

/-- A command descriptor of Table HIF-9c without its OPCODE, which the table row names: bytes 2 and 3, TAG, HANDLE,
bytes 12 to 31, and the bytes the part reads at EXT_ADDR when EXT is set (R65). -/
structure CmdDesc where
  src : CmdSrc
  flags : Byte := 0
  rsvd : Byte := 0
  tag : Word := 0
  handle : Word := 0
  args : List Byte := []
  ext : List Byte := []
  deriving DecidableEq, Repr

/-- The registers of a ring whose writes R55 guards. -/
inductive RingReg where
  | baseLo | baseHi | size | ctrl
  deriving DecidableEq, Repr

/-- One mask-and-data group of an I²C write (R28). -/
structure I2cGroup where
  mask : BitVec 16
  data : BitVec 16
  deriving DecidableEq, Repr

/-- The field from which the parser computes the hint length (R156), with its value. -/
inductive HintField where
  | ipv4 (total : Nat)
  | ipv6 (payload : Nat)
  | ecpri (payload : Nat)
  | len8023 (v : Nat)
  deriving DecidableEq, Repr

/-- What the parser finds in a frame (R156, R178, R186, R187): addresses, the TCI of its IEEE 802.1Q tag and the number of tags,
inner Ethertype, IP version (0, 4, 6) with its addresses, protocol and ports, eCPRI and PTP header fields, the R-TAG sequence number, length
in bytes with FCS, the hint field with the bytes in front of its header, and whether it arrives as an express frame (R135). -/
structure FrameHdr where
  dst : Nat
  src : Nat
  tci : Option Nat := none
  tags : Nat := 0
  etype : Nat := 0
  ip : Nat := 0
  /-- Of an IP frame: source and destination address, protocol, and the source port of UDP or TCP. -/
  ipSrc : Nat := 0
  ipDst : Nat := 0
  ipProto : Nat := 0
  l4Src : Nat := 0
  /-- The destination port of UDP or TCP; that of UDP alone. -/
  l4Dst : Nat := 0
  udpDst : Nat := 0
  ecpriRev : Nat := 0
  ecpriType : Nat := 0
  pcId : Nat := 0
  /-- The first byte of the eCPRI SEQ_ID. -/
  seqId : Nat := 0
  ptpDomain : Nat := 0
  ptpType : Nat := 0
  ptpTwoStep : Bool := false
  /-- sourcePortIdentity of a PTP message, 80 bits; and correctionField, signed. -/
  ptpSource : Nat := 0
  ptpCorr : Int := 0
  rtag : Option Nat := none
  len : Nat
  hint : Option (HintField × Nat) := none
  express : Bool := true
  /-- In an RS-FEC mode, what the position of the alignment markers adds to the ingress latch, ps (R215). -/
  marker : Int := 0
  deriving DecidableEq, Repr

/-- Who asks the BPM for a buffer: a copy of a frame, or the engine cluster for a message of `len` bytes. -/
inductive BpmReq where
  | frame (f copy : Nat)
  | engine (len : Nat)
  deriving DecidableEq, Repr

/-- A disturbance of the buffer manager's tables, such as the auditor looks for (R170): the REF bit of a buffer lost, a pool's free
store out of agreement with the STATE bits, a charge of a requester changed to `used` units. -/
inductive BufUpset where
  | unlinked (b : Nat)
  | store (pool : Nat)
  | charge (r used : Nat)
  deriving DecidableEq, Repr

/-- A round of the auditor (R170): what has been disturbed before it, the buffers visited, and whether the visits complete a
pass. -/
structure AuditScan where
  upsets : List BufUpset := []
  bufs : List Nat := []
  passEnd : Bool := false
  deriving DecidableEq, Repr

/-- What the host's enumeration leaves in configuration space: the read request size in bytes, 10-bit tags, Bus Master Enable. -/
structure PcieHost where
  mrrs : Nat
  tag10 : Bool
  bme : Bool
  deriving DecidableEq, Repr

/-- A message that a timing channel sends: its messageType, and the offset of the RS-FEC marker that its timestamp passes. -/
structure ChanSend where
  kind : Nat
  marker : Int := 0
  deriving DecidableEq, Repr

/-- A TIME frame (Table PAIR-2): its transmit time; the transmit time of this part's last TIME frame as the peer received it, with the
peer's receive time (none before the peer has one).  Times in 2^-16 ns. -/
structure TimeExch where
  tx : Nat
  echo : Option (Nat × Nat) := none
  deriving DecidableEq, Repr

/-- The LNK TLV of a received message (Table LNK-2). -/
structure LnkTlv where
  refined : Bool
  active : Bool
  mode : Nat
  pairPort : Nat
  deriving DecidableEq, Repr

/-- A received PTP message.  `kind` is the messageType: 0 Sync, 1 Delay_Req, 8 Follow_Up, 9 Delay_Resp, 11 Announce.  Its
correctionField and twoStepFlag stand in the header of its frame. -/
structure PtpMsg where
  port : Nat
  domain : Nat
  transport : Nat
  kind : Nat
  /-- sourcePortIdentity, 80 bits, and the source address. -/
  srcPort : Nat
  srcAddr : Nat := 0
  /-- The sourcePortIdentity names a port of this part. -/
  own : Bool := false
  /-- Announce: grandmasterIdentity, clockClass, clockAccuracy, offsetScaledLogVariance, stepsRemoved. -/
  gm : Nat := 0
  cls : Nat := 0
  acc : Nat := 0
  var : Nat := 0
  steps : Nat := 0
  tlv : Option LnkTlv := none
  /-- sequenceId; the originTimestamp, preciseOriginTimestamp or receiveTimestamp in ns since the epoch; whether the
  requestingPortIdentity of a Delay_Resp names this channel. -/
  seq : Nat := 0
  time : Nat := 0
  forUs : Bool := true
  deriving DecidableEq, Repr

/-- A detection of a search job at the end of a dwell (R296): C/N0 in 0.01 dB-Hz, code phase in 2^-16 chip, Doppler in mHz. -/
structure GnssDet where
  job : Nat
  svid : Nat
  cn0 : Nat
  codePhase : Nat
  doppler : Int
  deriving DecidableEq, Repr

/-- The end of a dwell: the jobs it searched, and the cells above the threshold, strongest first (R296). -/
structure DwellEnd where
  jobs : List Nat
  dets : List GnssDet
  deriving DecidableEq, Repr

/-- What one channel measured at an epoch (Table GNSS-4). -/
structure GnssMeas where
  chan : Nat
  txTime : Nat
  carrier : Int
  doppler : Int
  lockMs : Nat
  cn0 : Nat
  /-- Carrier cycle slips since the last epoch. -/
  slips : Nat := 0
  deriving DecidableEq, Repr

/-- A satellite that the firmware predicts: elevation in degrees, age of its ephemeris in minutes, whether it sends on band 1. -/
structure GnssSat where
  system : Nat
  svid : Nat
  elev : Nat
  ephMin : Nat
  l5 : Bool := true
  deriving DecidableEq, Repr

/-- The firmware's timing solution of an epoch (R304): o in 2^-16 ns as it is with GNSS_ANT_DLY and GNSS_IFB of 0, frequency in 2^-44,
residual rms in ps, TDOP × 100, position in cm, whether the week is resolved, the estimated 1σ of the survey mean in cm, and the sky. -/
structure GnssSol where
  o : Int
  freq : Int := 0
  rmsPs : Nat
  tdop : Nat := 0
  x : Int := 0
  y : Int := 0
  z : Int := 0
  weekOk : Bool := true
  sigma : Nat := 0
  sky : List GnssSat := []
  deriving DecidableEq, Repr

/-- What port A does to the same SPAD word in the same bank cycle (R353, R354). -/
inductive PortA where
  | idle
  | write (v : Word)
  | set (v : Word)
  | clear (v : Word)
  deriving DecidableEq, Repr

/-- SEQ and ACK of a sequenced Ommund frame (Table PAIR-1). -/
structure OmdHdr where
  seq : Nat
  ack : Nat
  deriving DecidableEq, Repr

/-- The HEARTBEAT payload (Table PAIR-2), and the ACK of the frame that carried it. -/
structure HbPayload where
  pairId : Nat
  unitId : Nat
  role : Nat
  state : Nat
  inbOk : Bool
  tstate : Nat
  primaryS : Nat
  lastSeq : Nat
  ack : Nat := 0
  deriving DecidableEq, Repr

/-- A record of FDB_DELTA. -/
structure FdbRec where
  mac : Nat
  vid : Nat
  dest : Nat
  remove : Bool
  deriving DecidableEq, Repr

/-- A record of FLOW_DELTA: OP 0 to 5, CREATE bytes 12–31, F_f and B. -/
structure FlowRec where
  handle : Word
  op : Nat
  args : List Byte
  f : Nat
  b : Nat
  deriving DecidableEq, Repr

/-- The payload of TIME_STATE. -/
structure TimeStateRec where
  tstate : Nat
  hstage : Nat
  budgetOver : Bool
  stepPending : Bool
  cls : Word
  hoErr : Nat
  hoTime : Nat
  qr : Nat
  deriving DecidableEq, Repr

/-- A record of CB_STATE: function, wrap count, and the sequence source, which the table carries in CB_STATE too (log entry 122). -/
structure CbRec where
  fn : Nat
  wrap : Nat
  src : Nat
  deriving DecidableEq, Repr

/-- The payload of a sequenced Ommund frame (Table PAIR-2). -/
inductive OmdPayload where
  | fdb (l : List FdbRec)
  | flow (l : List FlowRec)
  | timeState (t : TimeStateRec)
  | cb (l : List CbRec)
  | begin (snapshot : Nat)
  | data (fdb : List FdbRec) (flows : List FlowRec) (time : Option TimeStateRec) (cb : List CbRec)
  | done (records : Nat)
  | role (sec : Nat)
  deriving DecidableEq, Repr

/-- The straps sampled at the rise of POR_N or RST_N (chapter 21). -/
structure Straps where
  i2ca : Nat := 0
  noFlash : Bool := false
  test : Bool := false
  deriving DecidableEq, Repr

end Sys2Proof.Machine

namespace Sys2Proof

open Machine

/-- The commands, one constructor per row of spec/opcode_table.json, in the table's order. -/
inductive Instr where
  /-- R23: a plain write over PCIe or by an engine, with its byte enables. -/
  | registerWrite (path : Path) (addr : Nat) (be : BitVec 4) (val : Word)
  /-- R24: a read of a register at its own or an alias address; RC bits returned set are cleared. -/
  | rcRead (path : Path) (addr : Nat) (be : BitVec 4)
  /-- R26: a write to the set alias of the register at BAR0 offset `addr`. -/
  | setAliasWrite (path : Path) (addr : Nat) (val : Word)
  /-- R26: a write to the clear alias of the register at BAR0 offset `addr`. -/
  | clearAliasWrite (path : Path) (addr : Nat) (val : Word)
  /-- R26: a write to the toggle alias of the register at BAR0 offset `addr`. -/
  | toggleAliasWrite (path : Path) (addr : Nat) (val : Word)
  /-- R440: an I²C write from half-word address `addr`, one group per half-word. -/
  | i2cWriteTransfer (addr : Nat) (groups : List I2cGroup)
  /-- R440: an I²C read of `n` half-words from half-word address `addr`. -/
  | i2cReadTransfer (addr : Nat) (n : Nat)
  /-- R44: a write of `val` to the `_MBX_REQ` register at BAR0 offset `addr`. -/
  | mbxRequest (path : Path) (addr : Nat) (val : Word)
  /-- R45: a read of the mailbox data word at BAR0 offset `addr`. -/
  | mbxLastWordRead (path : Path) (addr : Nat) (be : BitVec 4)
  /-- R36: a write of `val` to SYS_KEY. -/
  | sysKeyWrite (path : Path) (val : Word)
  /-- R36: 1 ms has passed since the unlock of the path. -/
  | keyUnlockExpire (path : Path)
  /-- R38: the 1 s block of the path has ended. -/
  | keyBlockExpire (path : Path)
  /-- R35: SYS_COMMIT with COMMIT alone. -/
  | commit
  /-- R35: SYS_COMMIT with COMMIT and AT_SEC. -/
  | commitAtSec
  /-- R35: SYS_COMMIT with DISCARD. -/
  | discard
  /-- R31: no frame is in transfer at the MDI of the port, in the directions named. -/
  | frameBoundaryApply (port : Nat) (rx tx : Bool)
  /-- R31: electrical idle, or 16 idle blocks, on the lane. -/
  | idleApply (lane : Nat)
  /-- R31: the active core reaches its next second boundary. -/
  | secondBoundary
  /-- R48: a plain write to persistent word `word`. -/
  | persWordWrite (path : Path) (word : Nat) (val : Word)
  /-- R47: the store of a busy word ends. -/
  | persStoreDone (word : Nat)
  /-- R39: a scrubber pass; `bad` lists the BAR0 offsets of the words found in mismatch. -/
  | cfgScrubPass (bad : List Nat)
  /-- R422: an uncorrectable error in the applied copy of the word at `addr`; `good` is the parity of its written copy. -/
  | appliedCopyError (addr : Nat) (good : Bool)
  /-- R51, R73: the link trains; the host's enumeration leaves a payload size of `mps` bytes, and `host`. -/
  | pcieLinkUp (gen width mps : Nat) (host : PcieHost)
  /-- R55: a write to a guarded register of a ring. -/
  | ringCfgWrite (ring : Nat) (reg : RingReg) (val : Word)
  /-- R56: EN = 1 written. -/
  | ringEnable (ring : Nat)
  /-- R79: EN = 0 written. -/
  | ringDisable (ring : Nat)
  /-- R81: RST = 1 written. -/
  | ringReset (ring : Nat)
  /-- R79: the drain limit of the ring's role is reached. -/
  | ringDrainLimit (ring : Nat)
  /-- R79: the fetched work of a draining ring is finished. -/
  | ringDrainEnd (ring : Nat)
  /-- R59: a write to the BAR2 page of a ring the host fills. -/
  | doorbell (ring off : Nat) (be : BitVec 4) (val : Word)
  /-- R76: a write to the BAR2 page of a completion ring. -/
  | cplDoorbell (ring off : Nat) (be : BitVec 4) (val : Word)
  /-- R62: the part fetches the next descriptor of the ring: its 32 bytes, and in `ext` the bytes at EXT_ADDR of a command
  descriptor with EXT, or the bytes of the piece of a transmit descriptor. -/
  | descTake (ring : Nat) (raw ext : List Byte)
  /-- R67: the frame at the head of the ring's fetched descriptors, of `n` descriptors, is in packet memory, or is refused. -/
  | txCompletion (ring n : Nat)
  /-- R69: copy `copy` of a frame, the first that waits for the host, is steered and written. -/
  | rxHostDeliver (frame copy : Nat)
  /-- R75: the moderation timer of a completion ring ends. -/
  | intTimerExpire (ring : Nat)
  /-- R76: the host unmasks an MSI-X vector. -/
  | msixUnmask (vec : Nat)
  /-- R80: a DMA read (`write = false`) or write error on the ring. -/
  | dmaError (ring : Nat) (write : Bool)
  /-- R82: a function-level reset. -/
  | functionLevelReset
  /-- R82: entry to D3hot. -/
  | d3hotEntry
  /-- R83: Bus Master Enable is cleared. -/
  | busMasterClear
  /-- R84: CREATE of a guaranteed flow. -/
  | flowCreate (d : CmdDesc)
  /-- R16: the raised fabric rate of a waiting CREATE or MODIFY of flow index `flow` is read back. -/
  | flowBoundConfirm (flow : Nat)
  /-- R84: MODIFY of a guaranteed flow. -/
  | flowModify (d : CmdDesc)
  /-- R84: QUERY of a guaranteed flow. -/
  | flowQuery (d : CmdDesc)
  /-- R84: DESTROY of a guaranteed flow. -/
  | flowDestroy (d : CmdDesc)
  /-- R84: LIST of a guaranteed flow. -/
  | flowList (d : CmdDesc)
  /-- R84: DISABLE of a guaranteed flow. -/
  | flowDisable (d : CmdDesc)
  /-- R84: ENABLE of a guaranteed flow. -/
  | flowEnable (d : CmdDesc)
  /-- R84: CREATE of a timing channel. -/
  | tchanCreate (d : CmdDesc)
  /-- R84: MODIFY of a timing channel. -/
  | tchanModify (d : CmdDesc)
  /-- R84: QUERY of a timing channel. -/
  | tchanQuery (d : CmdDesc)
  /-- R84: DESTROY of a timing channel. -/
  | tchanDestroy (d : CmdDesc)
  /-- R84: LIST of a timing channel. -/
  | tchanList (d : CmdDesc)
  /-- R84: DISABLE of a timing channel. -/
  | tchanDisable (d : CmdDesc)
  /-- R84: ENABLE of a timing channel. -/
  | tchanEnable (d : CmdDesc)
  /-- R84: CREATE of a measurement channel. -/
  | mchanCreate (d : CmdDesc)
  /-- R84: MODIFY of a measurement channel. -/
  | mchanModify (d : CmdDesc)
  /-- R84: QUERY of a measurement channel. -/
  | mchanQuery (d : CmdDesc)
  /-- R84: DESTROY of a measurement channel. -/
  | mchanDestroy (d : CmdDesc)
  /-- R84: LIST of a measurement channel. -/
  | mchanList (d : CmdDesc)
  /-- R84: DISABLE of a measurement channel. -/
  | mchanDisable (d : CmdDesc)
  /-- R84: ENABLE of a measurement channel. -/
  | mchanEnable (d : CmdDesc)
  /-- R84: CREATE of a mirror session. -/
  | mirrorCreate (d : CmdDesc)
  /-- R84: MODIFY of a mirror session. -/
  | mirrorModify (d : CmdDesc)
  /-- R84: QUERY of a mirror session. -/
  | mirrorQuery (d : CmdDesc)
  /-- R84: DESTROY of a mirror session. -/
  | mirrorDestroy (d : CmdDesc)
  /-- R84: LIST of a mirror session. -/
  | mirrorList (d : CmdDesc)
  /-- R84: DISABLE of a mirror session. -/
  | mirrorDisable (d : CmdDesc)
  /-- R84: ENABLE of a mirror session. -/
  | mirrorEnable (d : CmdDesc)
  /-- R84: CREATE of a satellite search job. -/
  | searchJobCreate (d : CmdDesc)
  /-- R84: MODIFY of a satellite search job. -/
  | searchJobModify (d : CmdDesc)
  /-- R84: QUERY of a satellite search job. -/
  | searchJobQuery (d : CmdDesc)
  /-- R84: DESTROY of a satellite search job. -/
  | searchJobDestroy (d : CmdDesc)
  /-- R84: LIST of a satellite search job. -/
  | searchJobList (d : CmdDesc)
  /-- R84: DISABLE of a satellite search job. -/
  | searchJobDisable (d : CmdDesc)
  /-- R84: ENABLE of a satellite search job. -/
  | searchJobEnable (d : CmdDesc)
  /-- R84: CREATE of a calibration job. -/
  | calJobCreate (d : CmdDesc)
  /-- R84: MODIFY of a calibration job. -/
  | calJobModify (d : CmdDesc)
  /-- R84: QUERY of a calibration job. -/
  | calJobQuery (d : CmdDesc)
  /-- R84: DESTROY of a calibration job. -/
  | calJobDestroy (d : CmdDesc)
  /-- R84: LIST of a calibration job. -/
  | calJobList (d : CmdDesc)
  /-- R84: DISABLE of a calibration job. -/
  | calJobDisable (d : CmdDesc)
  /-- R84: ENABLE of a calibration job. -/
  | calJobEnable (d : CmdDesc)
  /-- R94: the work in flight of the draining object `handle` finishes. -/
  | objDrainEnd (handle : Word)
  /-- R94: LIMIT_US of the draining object `handle` ends. -/
  | objDrainLimit (handle : Word)
  /-- R104: LANE_CTRL.RETRAIN written 1. -/
  | laneRetrain (lane : Nat)
  /-- R104: the sweep of a full retrain ends: widest-eye code, its eye width (1/128 UI) and height (mV), junction °C. -/
  | retrainDone (lane code eyeW eyeH : Nat) (temp : Int)
  /-- R119: LANE_CTRL.RX_INV written with a new value. -/
  | rxPolarityChange (lane : Nat) (inv : Bool)
  /-- R105: a window of 2^16 UI ends: transitions per bit in 1/64, block diversity, short-run edges minus long-run edges in
  1/64 UI (positive: lag), and what the PCS counted in it: blocks, invalid headers, corrected and uncorrected codewords,
  HI_BER. -/
  | adaptWindow (lane density diversity : Nat) (lag : Int) (blocks hdrErr fecCorr fecUncorr : Nat) (hiBer : Bool)
  /-- R108: the eye is measured again. -/
  | qualMeasure (lane eyeW eyeH : Nat)
  /-- R109: 100 ms has passed with a released forced code outside BASE ± 3. -/
  | forceStepBack (lane : Nat)
  /-- R110: amplitude below 60 mVppd for 100 ns; junction °C. -/
  | elecIdleEntry (lane : Nat) (temp : Int)
  /-- R111: amplitude above 90 mVppd `idleMs` after entry; junction °C. -/
  | elecIdleExit (lane idleMs : Nat) (temp : Int)
  /-- R112: four times the fast-exit limit has passed without LOCK. -/
  | fastExitFail (lane : Nat)
  /-- R100: block lock (with FEC alignment in RS-FEC modes); the eye measured at it. -/
  | blockLock (lane eyeW eyeH : Nat)
  /-- R146: a lane loses LOCK. -/
  | lockLoss (lane : Nat)
  /-- R104: LOCK has been lost for 10 ms while SIG stays 1. -/
  | lockLossRetrain (lane : Nat)
  /-- R115: 10 µs after LOCK. -/
  | lanePhaseValid (lane : Nat)
  /-- R116: a KW write of LANE_GRP_CTRL with REMOVE. -/
  | laneGrpRemove (path : Path) (grp drainMs : Nat) (pwrOff : Bool)
  /-- R116: the queues of a draining group are empty, or DRAIN_MS has ended. -/
  | laneGrpDrainEnd (grp : Nat)
  /-- R117: a KW write of LANE_GRP_CTRL with RETURN. -/
  | laneGrpReturn (path : Path) (grp : Nat)
  /-- R117: 100 ms without signal on a returning lane. -/
  | laneNoSignalTimeout (lane : Nat)
  /-- R117: the block boundary after the idle blocks of a port. -/
  | portJoin (port : Nat)
  /-- R121: a 10 µs window ends: the stage rate of each ring after its trim, before the guard band, in Mframes/s (0: no
  oscillation), and the load F_LOAD that the part measures (R123). -/
  | canaryWindow (rates : List Nat) (load : Nat)
  /-- R124: 1 ms since the last lowering of VDD_CORE. -/
  | vddLowerTick
  /-- R17: no engine has held voltage scaling for 1 ms. -/
  | vscaleUnheldTimeout
  /-- R127: the voltage write in progress is acknowledged, or not, with its read-back in mV. -/
  | avsWriteDone (acked : Bool) (readMv : Nat)
  /-- R127: 50 µs after a failed attempt. -/
  | avsRetry
  /-- R126: the status read of every 1 ms: read-back in mV and current in mA. -/
  | avsStatusRead (readMv currentMa : Nat)
  /-- R126: an alert, with the status it makes the part read. -/
  | avsAlert (readMv currentMa : Nat)
  /-- R141: cause 0 TEMP or 1 VDD of leaving recommended conditions sets. -/
  | swCondChange (cause : Nat)
  /-- R141: the cause (0 TEMP, 1 VDD, 2 FLOOR) has been absent for 1 s. -/
  | swCondClear (cause : Nat)
  /-- R135, R215: the SFD of a frame crosses the ingress MDI of a user port. -/
  | ingressFrame (port : Nat) (h : FrameHdr)
  /-- R159: a buffer request. -/
  | bpmAlloc (r : BpmReq)
  /-- R178: the lookup of a frame. -/
  | forwardLookup (frame : Nat)
  /-- R14: the last word of a frame is written and its FCS checked. -/
  | frameEligible (frame : Nat) (fcsOk : Bool)
  /-- R200: no frame of the function for RESET_MS. -/
  | cbRecoveryReset (fn : Nat)
  /-- R128: a frame boundary of the port's transmitter. -/
  | schedSelect (port : Nat)
  /-- R215: the SFD of the frame in transfer crosses the egress MDI; `snap` says that the latch lies within the snap tolerance
  of a refined instant (R237). -/
  | egressSfd (port : Nat) (marker : Int)
  /-- R167: a free of a buffer index by a requester. -/
  | bpmFree (buf requester : Nat)
  /-- R143: a PFC frame (`pfc`) with its enabled priorities and their quanta, or a pause frame with its quanta. -/
  | pauseReceive (port : Nat) (pfc : Bool) (enable : Nat) (quanta : List Nat)
  /-- R142: half a quantum has passed since the last flow-control frame of the port. -/
  | pfcRefresh (port : Nat)
  /-- R146: PORT_HOLD.MS has passed since the loss of LOCK. -/
  | portHoldExpire (port : Nat)
  /-- R147: a write to PORT_HOLD. -/
  | portHoldWrite (path : Path) (port : Nat) (val : Word)
  /-- R145: the deadline of an SQ frame copy passes. -/
  | sqDeadlineExpire (copy : Nat)
  /-- R148: RES_MAX_MS since a frame copy became eligible. -/
  | residenceExpire (copy : Nat)
  /-- R148: a write to SW_RES_CFG. -/
  | resCfgWrite (path : Path) (val : Word)
  /-- R130: the operational list of the port reaches the end of an interval. -/
  | gateChange (port : Nat)
  /-- R131: GCL_SET, opcode 0x9801. -/
  | gclSet (d : CmdDesc)
  /-- R131: the change time of the port's pending list. -/
  | gclActivate (port : Nat)
  /-- R152: GCL_GET, opcode 0x9802. -/
  | gclGet (d : CmdDesc)
  /-- R152: BOUND_QUERY, opcode 0xA001. -/
  | boundQuery (d : CmdDesc)
  /-- R133: verification on the port ends. -/
  | preemptVerify (port : Nat) (ok : Bool)
  /-- R163: a write to BPM_QUOTA of a requester. -/
  | bpmQuotaWrite (path : Path) (req : Nat) (val : Word)
  /-- R170: visits of the auditor. -/
  | auditVisit (scan : AuditScan)
  /-- R172: the rebuild of a pool's list ends. -/
  | storeRebuildDone (pool : Nat)
  /-- R173: BPM_CARVE, opcode 0xA401. -/
  | bpmCarve (d : CmdDesc)
  /-- R175: no retiring buffer is allocated any more. -/
  | carveTakeEffect
  /-- R175: LIMIT_MS of the carve ends. -/
  | carveRollback
  /-- R176: BPM_AUDIT_RUN, opcode 0xA402. -/
  | bpmAuditRun (d : CmdDesc)
  /-- R182: the learn at the head of the learn queue of pipeline `pipe`. -/
  | fdbLearn (pipe : Nat)
  /-- R183: the ager visits the entry of a key. -/
  | fdbAgeVisit (mac vid : Nat)
  /-- R201: FDB_ADD, opcode 0xA801. -/
  | fdbAdd (d : CmdDesc)
  /-- R201: FDB_DEL, opcode 0xA802. -/
  | fdbDel (d : CmdDesc)
  /-- R201: FDB_LOOKUP, opcode 0xA803. -/
  | fdbLookup (d : CmdDesc)
  /-- R201: FDB_FLUSH, opcode 0xA804. -/
  | fdbFlush (d : CmdDesc)
  /-- R185: FDB_VLAN_SET, opcode 0xA805. -/
  | fdbVlanSet (d : CmdDesc)
  /-- R193: FDB_MCG_SET, opcode 0xA806. -/
  | fdbMcgSet (d : CmdDesc)
  /-- R187: FDB_CLS_SET, opcode 0xA807. -/
  | fdbClsSet (d : CmdDesc)
  /-- R201: FDB_CLS_DEL, opcode 0xA808. -/
  | fdbClsDel (d : CmdDesc)
  /-- R199: FDB_CB_SET, opcode 0xA809. -/
  | fdbCbSet (d : CmdDesc)
  /-- R214: the residue code of the active core reports a fault. -/
  | coreFault
  /-- R209: a standby comparison of `err` ps (standby minus active), outside 5 ps. -/
  | standbyTrackLoss (err : Int)
  /-- R206: the selected time reference delivers the offset `off`, core minus reference, in 2^-16 ns. -/
  | servoSample (off : Int)
  /-- R208, R233. -/
  | timeStep (d : CmdDesc)
  /-- R208, R233. -/
  | timeSet (d : CmdDesc)
  /-- R211: a KW write of TCORE_SWAP with REQ alone. -/
  | swapReq (path : Path)
  /-- R211: a KW write of TCORE_SWAP with CANCEL alone. -/
  | swapCancel (path : Path)
  /-- R210: a KW write of TCORE_SWAP with STBY_OUT alone. -/
  | stbyOut (path : Path)
  /-- R210: a KW write of TCORE_SWAP with STBY_IN alone. -/
  | stbyIn (path : Path)
  /-- R222: a PTP message is received; `frame` is the frame that carried it. -/
  | ptpMessageReceive (frame : Nat) (m : PtpMsg)
  /-- R221: the interval of channel `chan` for a message expires. -/
  | tchanSend (chan : Nat) (msg : ChanSend)
  /-- R224: eight intervals of the slowest message type of the listening channel have passed. -/
  | tchanQualify (chan : Nat)
  /-- R224: the announce receipt timeout or the sync timeout of the channel expires. -/
  | tchanTimeout (chan : Nat)
  /-- R234: the 64-beat mean of the port: Φ in units of 0.5 ps, and whether the two channels differ by less than 20 ppm. -/
  | lnkPhaseUpdate (port : Nat) (phi : Int) (freqOk : Bool)
  /-- R247: HOLD_S seconds without new solutions of the pair whose plan A port is `port`. -/
  | lnkHoldExpire (port : Nat)
  /-- R256: a sample of a candidate: signal present, frequency error in ppb, offset (core minus reference) in 2^-16 ns. -/
  | refCandSample (cand : Nat) (sig : Bool) (ppb off : Int)
  /-- R255: the qualification time of a candidate ends. -/
  | refQualTimer (cand : Nat)
  /-- R255: HOLDOFF_MS of a candidate ends. -/
  | refHoldoffExpire (cand : Nat)
  /-- R255: WTR_S of a frequency-class candidate ends with every check passing. -/
  | refWtrExpire (cand : Nat)
  /-- R254: an ESMC PDU on a port: SSM code and enhanced SSM code. -/
  | esmcReceive (port ssm : Nat) (essm : Option Nat)
  /-- R256: 5 s without an ESMC PDU on the port. -/
  | esmcTimeout (port : Nat)
  /-- R271: the 1 s ESMC interval of the port ends, or its QR sent changes. -/
  | esmcSend (port : Nat)
  /-- R260: an edge at PPS_IN0 or PPS_IN1: the interval since the previous edge in ns, and the phase offset of the core against it,
  REF_IN_OFS taken in, in 2^-16 ns. -/
  | ppsInEdge (input intervalNs : Nat) (off : Int)
  /-- R256: 1.1 s after the last edge of a PPS input. -/
  | ppsInTimeout (input : Nat)
  /-- R262: a second in holdover; `dieTemp` is the die sensor in 1/256 °C. -/
  | holdoverTick (dieTemp : Int)
  /-- R264: 64 s of learning; `dieTemp` is the mean die temperature in 1/256 °C. -/
  | modelLearn (dieTemp : Int)
  /-- R263: REF_TEMP_EXT has not been written for 10 s. -/
  | tempExtStale
  /-- R263: a write of REF_TEMP_EXT. -/
  | refTempExtWrite (val : Word)
  /-- R258: a write of REF_PREF_F (`freq`) or REF_PREF_T. -/
  | refPrefWrite (freq : Bool) (val : Word)
  /-- R273. -/
  | refCandSet (d : CmdDesc)
  /-- R273, R267. -/
  | refRealign (d : CmdDesc)
  /-- R273, R264. -/
  | refMdlReset (d : CmdDesc)
  /-- R278: the frequency error of PLL `pll` (0 PLL-T, 1 PLL-A, 2 PLL-B, 3 PLL-E) falls below 1 ppm. -/
  | pllFreqAcquired (pll : Nat)
  /-- R279: 256 consecutive samples within LOCK_PS; the last phase error in ps. -/
  | pllLock (pll : Nat) (phErr : Int)
  /-- R280: a bypass cause 1, 2 or 4 of a PLL; the last phase error in ps. -/
  | pllBypassEntry (pll cause : Nat) (phErr : Int)
  /-- R280: REF_CLK has had no edge for 100 ns. -/
  | refclkLoss
  /-- R281: the background loop has been LOCKED for RET_MS with the input present. -/
  | pllAutoReturn (pll : Nat)
  /-- R289: PLL_RETURN, opcode 0xBA04. -/
  | pllReturn (d : CmdDesc)
  /-- R289: PLL_RAMP_LOAD, opcode 0xBA01. -/
  | pllRampLoad (d : CmdDesc)
  /-- R283: PLL_RAMP_CTRL, opcode 0xBA02, with ACTION 0 (an ACTION above 2 is this row too). -/
  | rampStart (d : CmdDesc)
  /-- R283: PLL_RAMP_CTRL with ACTION 1. -/
  | rampStopHold (d : CmdDesc)
  /-- R283: PLL_RAMP_CTRL with ACTION 2. -/
  | rampStopZero (d : CmdDesc)
  /-- R282: DUR_MS of the running segment of a PLL's ramp ends. -/
  | rampSegmentEnd (pll : Nat)
  /-- R285: PLL_ALIGN, opcode 0xBA03. -/
  | pllAlign (d : CmdDesc)
  /-- R287: the pulse of PPS_OUT `out` becomes due. -/
  | ppsOutPulse (out : Nat)
  /-- R286: the pulse of PPS_OUT `out` has run its width. -/
  | ppsPulseEnd (out : Nat)
  /-- R292: GNSS_SCLK is missing for 1 µs or off frequency; its error in 0.1 ppm. -/
  | gnssClockFault (ppm : Int)
  /-- R292: GNSS_SCLK has been within limits for 100 ms. -/
  | gnssClockOk (ppm : Int)
  /-- R292: a second's sample check: how many samples of each band had each of the four codes, and whether a sample bit has stood still
  for 1 ms. -/
  | gnssSampleCheck (codes1 codes5 : List Nat) (stuck1 stuck5 : Bool)
  /-- R294: the start of a dwell. -/
  | gnssDwellStart
  /-- R296: the end of a dwell. -/
  | gnssDwellEnd (r : DwellEnd)
  /-- R298: a write of `val` to GNSS_CH_CFG of a channel; the firmware writes by an engine path. -/
  | gnssChBind (path : Path) (chan : Nat) (val : Word)
  /-- R299: carrier phase lock for 20 ms; whether assistance resolved the transmit time. -/
  | gnssChLock (chan : Nat) (assisted : Bool)
  /-- R299: 1 s of pull-in without lock. -/
  | gnssChPullinTimeout (chan : Nat)
  /-- R299: bit and frame synchronisation. -/
  | gnssChDataSync (chan : Nat)
  /-- R299: C/N0 too low for 1 s, or code error above half a chip. -/
  | gnssChLoss (chan : Nat)
  /-- R299: 10 s in LOST. -/
  | gnssChRelease (chan : Nat)
  /-- R300: an epoch, with what the tracking channels measured and the time from the epoch instant to the latched sample in ps. -/
  | gnssEpoch (meas : List GnssMeas) (delayPs : Nat)
  /-- R305: the firmware's solution of the last epoch. -/
  | gnssSolutionDone (sol : GnssSol)
  /-- R308: a burst begins; the channels whose re-pull finds a phase error above a quarter cycle. -/
  | gnssBurstStart (slips : List Nat)
  /-- R308: the burst ends. -/
  | gnssBurstEnd
  /-- R310: a 200 ms round of the firmware. -/
  | gnssAutoAcqRound
  /-- R297: GNSS_SECT, opcode 0xC001, with ACTION 0 (an ACTION above 2 is this row too). -/
  | gnssSectOut (d : CmdDesc)
  /-- R297: GNSS_SECT with ACTION 1. -/
  | gnssSectIn (d : CmdDesc)
  /-- R297: GNSS_SECT with ACTION 2. -/
  | gnssSectTest (d : CmdDesc)
  /-- R297: the section test ends: correlators whose result differed, and the first of them. -/
  | gnssSectTestDone (bad first : Nat)
  /-- R312: GNSS_SURVEY, opcode 0xC002, with ACTION 0 (an ACTION above 1 is this row too). -/
  | gnssSurveyRestart (d : CmdDesc)
  /-- R312: GNSS_SURVEY with ACTION 1. -/
  | gnssSurveyEnd (d : CmdDesc)
  /-- R320: TIC_ARM, opcode 0xC401. -/
  | ticArm (d : CmdDesc)
  /-- R320: TIC_STOP, opcode 0xC402. -/
  | ticStop (d : CmdDesc)
  /-- R314, R317: an edge on the start (`stop = false`) or stop source of a channel: the count of the period whose edge ends the
  fine conversion, and the converter code. -/
  | ticEdge (chan : Nat) (stop : Bool) (coarse code : Nat)
  /-- R317: 100 ns after a completed sample of the channel. -/
  | ticRearm (chan : Nat)
  /-- R319: TIMEOUT_MS after the arming of the sample. -/
  | ticSampleTimeout (chan : Nat)
  /-- R320: the gate ball TIC_GATE0 or TIC_GATE1 goes high or low. -/
  | ticGateEdge (gate : Nat) (high : Bool)
  /-- R315: a condition of TB_OK fails; `locked` says whether the multiplier keeps its lock. -/
  | ticTbLoss (locked : Bool)
  /-- R315: 100 ms with every condition of TB_OK met. -/
  | ticTbOk
  /-- R327: the measurement of job `job` ends: quality figure, results A and B in 2^-16 ns, the delays of the 32 codes of a lane or
  the corrections of the 1,024 codes of a TIC channel, junction temperature in 1/256 °C. -/
  | calJobEnd (job quality : Nat) (a b : Int) (codes : List Int) (temp : Int)
  /-- R327: TIME_LIMIT of the job passes. -/
  | calJobTimeout (job : Nat)
  /-- R331: the junction has moved by 0.5 °C, to `temp` in 1/256 °C. -/
  | calTempStep (temp : Int)
  /-- R333: STORE_MIN has passed since the last write of persistent word `word`. -/
  | calStore (word : Nat)
  /-- R333: 1 ms after a store of `word` was refused with BUSY. -/
  | calStoreRetry (word : Nat)
  /-- R337: CAL_SAVE, opcode 0xC601. -/
  | calSave (d : CmdDesc)
  /-- R337, R335: CAL_RELOAD, opcode 0xC602. -/
  | calReload (d : CmdDesc)
  /-- R342: the engine has missed check-ins for WDOG_US. -/
  | engWdogExpire (e : Nat)
  /-- R342: cause 2 memory, 3 access or 4 declared. -/
  | engFaultDetect (e cause : Nat)
  /-- R340: the standby of a task takes over; `lost` items were in flight without a journal entry. -/
  | engTakeover (task lost : Nat)
  /-- R341: 1 s since the last try to place the unplaced channels. -/
  | tchanPlaceRetry
  /-- R347: ENG_OUT, opcode 0xC801. -/
  | engOut (d : CmdDesc)
  /-- R347: the drain of ENG_OUT on the engine ends, by its items or by LIMIT_US. -/
  | engDrainEnd (e : Nat)
  /-- R348: ENG_LOAD, opcode 0xC802. -/
  | engLoad (d : CmdDesc)
  /-- R349: ENG_IN, opcode 0xC803. -/
  | engIn (d : CmdDesc)
  /-- R349: replay on the engine ends after `us` microseconds. -/
  | engReplayDone (e us : Nat)
  /-- R364: ENG_TASK_PIN, opcode 0xC804. -/
  | engTaskPin (d : CmdDesc)
  /-- R344: POL_SET, opcode 0xC805. -/
  | polSet (d : CmdDesc)
  /-- R364: POL_GET, opcode 0xC806. -/
  | polGet (d : CmdDesc)
  /-- R345: POL_SAVE, opcode 0xC807. -/
  | polSave (d : CmdDesc)
  /-- R356: SPAD_DMA, opcode 0xC808, with the bytes it reads from host memory (DIR 0) and port A's writes to its words in the
  same bank cycles (offset and value). -/
  | spadDma (d : CmdDesc) (data : List Byte) (clash : List (Nat × Word))
  /-- R351: ENG_IMG_COMMIT, opcode 0xC809. -/
  | engImgCommit (d : CmdDesc)
  /-- R352, R353: a port B write of a word at SPAD offset `off`. -/
  | spadWindowWrite (off : Nat) (be : BitVec 4) (val : Word) (a : PortA)
  /-- R354: a write to the SPAD set alias. -/
  | spadSetAliasWrite (off : Nat) (val : Word) (a : PortA)
  /-- R354: a write to the SPAD clear alias. -/
  | spadClearAliasWrite (off : Nat) (val : Word) (a : PortA)
  /-- R354: a write to the SPAD toggle alias. -/
  | spadToggleWrite (off : Nat) (val : Word)
  /-- R355: a write of ENG_SPAD_PWR0 (`hi = false`) or ENG_SPAD_PWR1. -/
  | engSpadPwrWrite (path : Path) (hi : Bool) (val : Word)
  /-- R355: the power transition of a bank ends. -/
  | spadBankTransitionDone (bank : Nat)
  /-- R357: a write of PERF_CTL of an engine. -/
  | perfCtlClear (e : Nat) (val : Word)
  /-- R357: a write of PERF_SEL0 (`hi = false`) or PERF_SEL1 of an engine. -/
  | perfSelWrite (path : Path) (e : Nat) (hi : Bool) (val : Word)
  /-- R357: counter PC k of an engine wraps. -/
  | perfPcWrap (e k : Nat)
  /-- R361: a sampled engine has retired `n` instructions since its last sample: byte address and latency of the one sampled. -/
  | perfSample (e addr latency n : Nat)
  /-- R366: an Ommund lane has held block lock for 1 ms. -/
  | omdLaneUp (lane : Nat)
  /-- R367: a frame with a failing CRC or an unlisted TYPE. -/
  | omdFrameBad
  /-- R369: a HEARTBEAT frame. -/
  | heartbeat (hb : HbPayload)
  /-- R378: a TIME frame. -/
  | time (x : TimeExch)
  /-- R376: an FDB_DELTA frame. -/
  | fdbDelta (hdr : OmdHdr) (recs : List FdbRec)
  /-- R377: a FLOW_DELTA frame. -/
  | flowDelta (hdr : OmdHdr) (recs : List FlowRec)
  /-- R375: a TIME_STATE frame. -/
  | timeState (hdr : OmdHdr) (ts : TimeStateRec)
  /-- R374: a CB_STATE frame. -/
  | cbState (hdr : OmdHdr) (recs : List CbRec)
  /-- R383: a RESYNC_BEGIN frame. -/
  | resyncBegin (hdr : OmdHdr) (snapshot : Nat)
  /-- R383: a RESYNC_DATA frame. -/
  | resyncData (hdr : OmdHdr) (fdb : List FdbRec) (flows : List FlowRec) (time : Option TimeStateRec) (cb : List CbRec)
  /-- R383: a RESYNC_END frame with the record count. -/
  | resyncEnd (hdr : OmdHdr) (records : Nat)
  /-- R382: a ROLE frame with the second of the switchover. -/
  | role (hdr : OmdHdr) (sec : Nat)
  /-- R368: 100 µs without acknowledgement of the sequenced frame `seq`. -/
  | omdRetransmit (seq : Nat)
  /-- R369: 250 µs: heartbeats are sent. -/
  | pairHbSend
  /-- R369: a 250 µs interval ends. -/
  | pairHbMissCheck
  /-- R370: an in-band heartbeat on a port. -/
  | inbHeartbeatRx (port : Nat) (hb : HbPayload)
  /-- R366: a TIME frame is due. -/
  | pairTimeSend
  /-- R375: a second: TIME_STATE and CB_STATE are due. -/
  | pairStateSend
  /-- R371: 2 s in SEARCH without a heartbeat. -/
  | pairSearchTimeout
  /-- R382: a write to PAIR_ROLE. -/
  | pairRoleWrite (path : Path) (val : Word)
  /-- R377: 10 ms without an answer of the standby. -/
  | pairFlowTimeout
  /-- R384: the oldest queued delta is 10 ms old. -/
  | mirrorDeltaAge
  /-- R385: PAIR_REHEARSE, opcode 0xCC01. -/
  | pairRehearse (d : CmdDesc)
  /-- R385: the rehearsal ends after `ms`; what it found for the acknowledged AVSBus status read and the calibrated rate at
  880 mV (check 3), the loopback of the shadow masters (check 5) and the shadow sequence (check 7). -/
  | rehearsalEnd (avsAck : Bool) (rateMax : Nat) (masters roleLatch : Bool) (ms : Nat)
  /-- R385: REHEARSE_H hours have passed. -/
  | pairRehearseTimer
  /-- R388: PAIR_RESYNC, opcode 0xCC02. -/
  | pairResync (d : CmdDesc)
  /-- R374: PAIR_CB_SET, opcode 0xCC03. -/
  | pairCbSet (d : CmdDesc)
  /-- R392: a write of PWR_REQ. -/
  | pwrRequest (path : Path) (val : Word)
  /-- R394: the queues of step E2 are empty, or its time has ended. -/
  | pwrEntryDrainEnd
  /-- R397: a write of PWR_FORCE. -/
  | pwrForceGo (path : Path) (val : Word)
  /-- R437: WAKE_N falls and stays low for 1 µs. -/
  | wakeNEvent
  /-- R392: PERST# is deasserted after it was asserted. -/
  | perstDeassert
  /-- R392: the active core reaches PWR_WAKE_TIMER. -/
  | pwrWakeTimerMatch
  /-- R399: every power-good and REF_CLK are ready at W2. -/
  | pwrWakeSupplyOk
  /-- R400: 20 ms at W2 without all of them; causes 1 PG_CORE, 2 PG_SRAM, 3 PG_LANE, 4 PG_IO, 5 REF_CLK. -/
  | pwrWakeSupplyTimeout (cause : Nat)
  /-- R399: the power-good of a domain's on-die switch. -/
  | pwrSwitchGood (dom : Nat)
  /-- R400: 20 ms without the power-good of a domain's switch. -/
  | pwrSwitchTimeout (dom : Nat)
  /-- R399: step W6 ends. -/
  | pwrWakeDone
  /-- R398: a write of PWR_PAD_REL. -/
  | padRelease (path : Path) (val : Word)
  /-- R437: POR_N goes low. -/
  | powerOnReset
  /-- R405: the rise of POR_N or RST_N, with the straps sampled at it. -/
  | bootStart (straps : Straps)
  /-- R437: RST_N goes low for `lowNs` nanoseconds. -/
  | partReset (lowNs : Nat)
  /-- R403: a write of SYS_RST. -/
  | sysRstPart (path : Path) (val : Word)
  /-- R408: the next command record: its READY bits are set, or 1 s has passed. -/
  | bootCommandRecord (after1s : Bool)
  /-- R413: FLASH_READ, opcode 0x8001, with its elapsed time in µs. -/
  | flashRead (d : CmdDesc) (us : Nat)
  /-- R413: FLASH_WRITE, opcode 0x8002, with the read-back verification and its elapsed time in ms. -/
  | flashWrite (d : CmdDesc) (verified : Bool) (ms : Nat)
  /-- R417: a 1 ms window of a code and ARG0 ends. -/
  | evtSuppressWindow (code arg0 : Nat)
  /-- R420: EVT_CTRL.FAULT_CLR written 1. -/
  | faultClr (path : Path)
  /-- R419: EVT_CTRL.FIRST_CLR written 1. -/
  | firstClr (path : Path)
  /-- R419: EVT_CTRL.LOG_CLR written 1. -/
  | logClr (path : Path)
  /-- R443: Update-IR with an instruction code of Table PIN-13. -/
  | jtagUpdateIr (code : Nat)
  /-- R409: the PCIe link goes down. -/
  | pcieLinkDown
  /-- R280: REF_CLK has edges again. -/
  | refclkReturn
  /-- R366: an Ommund lane loses block lock. -/
  | omdLaneDown (lane : Nat)
  /-- R299: a LOST channel regains its signal. -/
  | gnssChRegain (chan : Nat)
  /-- R209: a standby comparison of `err` ps within 5 ps, for the first time. -/
  | standbyTrackAcquired (err : Int)
  /-- R143: the pause time runs out of the PFC priorities in bits 0 to 7 of `mask`, and of pause in bit 8. -/
  | pauseQuantaExpire (port mask : Nat)
  /-- R282: x reaches the range of its PLL. -/
  | rampClampReached (pll : Nat)
  /-- R308: RF_LEAD_MS before the next burst. -/
  | gnssRfEnLead
  /-- R344: HI_BER has lasted HIBER_S seconds. -/
  | hiberRetrain (lane : Nat)
  /-- R344: PERIOD_H hours since the last scheduled retrain of the lane. -/
  | scheduledRetrain (lane : Nat)
  deriving DecidableEq, Repr

end Sys2Proof
end

