-- ==== Sys2Proof/Config.lean ====
section
/-! DEFINITION. What an implementation fixes and the spec leaves open: free values.  A free value is an opaque constant
applied to the counter `State.free`, which every use advances, so that nothing can be proved about it (log entry 3). -/

set_option Elab.async false

namespace Sys2Proof.Config

/-- RATE after a servo sample or a frequency sample: R206 and R259 give the loop bandwidth, not the filter.  Log entry 10. -/
opaque freeRate : Nat → BitVec 32

/-- TCORE_CLASS while LOCKED to a reference that is neither PTP nor PRTC-traceable: Table TCORE-8 has no such row.  Log entry 11. -/
opaque freeClass : Nat → BitVec 32

/-- The CRC-16 of a stored calibration set: R332 gives no polynomial.  Log entry 17. -/
opaque crc16 : List Nat → BitVec 16

/-- The CRC-32 of an entry of the boot directory: R407 gives no polynomial.  Log entry 46. -/
opaque crc32 : List Nat → BitVec 32

/-- An elapsed time that a command reports and no operand brings.  Log entry 18. -/
opaque freeTime : Nat → BitVec 32

/-- A choice between two outcomes that the spec leaves open.  Log entry 3. -/
opaque freeBit : Nat → Bool

/-- A word that the spec leaves open.  Log entry 3. -/
opaque freeWord : Nat → BitVec 32

/-- The hash h of receive steering over the fields that R71 names, which gives no function.  Log entry 103. -/
opaque rxHash : List Nat → BitVec 32

/-- Trelvon's assigned Vendor ID (Table HIF-1 names it and gives no number).  Log entry 103. -/
opaque vendorId : BitVec 16

/-- Trelvon's assigned JEDEC manufacturer identity (R442 names it and gives no number).  Log entry 103. -/
opaque jedecId : BitVec 11

/-- The depth of a pipeline's learn queue: R182 names the queue without its length.  Log entry 22. -/
opaque learnDepth : Nat

/-- The bucket that way `w` gives the key of a MAC and VID: R181 does not disclose the hash functions.  Log entry 23. -/
opaque fdbHash : Nat → Nat → Nat → BitVec 16

/-- The way whose occupant an insert moves, by the MAC and VID that need a place and the moves left: R181 does not disclose the
choice.  Log entry 23. -/
opaque fdbVictim : Nat → Nat → Nat → BitVec 2

/-- The lowest set point in mV that the calibrated voltage-to-rate curve places at or above a rate in 0.01 Mframes/s (R124
names the curve and gives none).  Log entry 25. -/
opaque curveMv : Nat → Nat

/-- The revocation fuse of a verification key (Table ENG-6, check 4).  Log entry 43. -/
opaque keyRevoked : Nat → Bool

/-- SIGNATURE verifies over header bytes 0 to 159 against the key of KEY_ID (check 5): header bytes, signature, key.  Log
entry 43. -/
opaque signatureOk : List Nat → List Nat → Nat → Bool

/-- SHA-384 of a body (check 6).  Log entry 43. -/
opaque sha384 : List Nat → List Nat

end Sys2Proof.Config
end

