-- ==== Sys2Proof/Machine/Tab.lean ====
section
/-! DEFINITION. Finite tables as plain data (a list of key and value pairs over a default), bit fields of words, byte order
and two's complement helpers.  Nothing here is specific to one unit. -/

set_option Elab.async false

namespace Sys2Proof.Machine

/-- A table of values by key: what is not listed has the default of the reader. -/
abbrev Tab (κ α : Type) := List (κ × α)

/-- The value under key `k`, or the default `d`. -/
def Tab.get {κ α : Type} [DecidableEq κ] (d : α) (t : Tab κ α) (k : κ) : α :=
  match t with
  | [] => d
  | (k', v) :: t' => if k' = k then v else Tab.get d t' k

/-- The value under key `k`, if the table lists one. -/
def Tab.find {κ α : Type} [DecidableEq κ] (t : Tab κ α) (k : κ) : Option α :=
  match t with
  | [] => none
  | (k', v) :: t' => if k' = k then some v else Tab.find t' k

/-- The table with key `k` bound to `v`. -/
def Tab.set {κ α : Type} [DecidableEq κ] (t : Tab κ α) (k : κ) (v : α) : Tab κ α :=
  (k, v) :: t.filter (fun e => decide (e.1 ≠ k))

/-- The table without key `k`. -/
def Tab.erase {κ α : Type} [DecidableEq κ] (t : Tab κ α) (k : κ) : Tab κ α :=
  t.filter (fun e => decide (e.1 ≠ k))

/-- Bits `lo` to `lo + w - 1` of a number. -/
def bitsOf (v lo w : Nat) : Nat := v / 2 ^ lo % 2 ^ w

/-- Bit `n` of a number. -/
def bitAt (v n : Nat) : Bool := v / 2 ^ n % 2 = 1

/-- Field `f` (lowest bit `lo`, width `w`) of a word, as a number. -/
def fieldOf (v : Word) (lo w : Nat) : Nat := bitsOf v.toNat lo w

/-- The mask with ones in bits `lo` to `lo + w - 1`. -/
def maskOf (lo w : Nat) : Word := BitVec.ofNat 32 ((2 ^ w - 1) * 2 ^ lo)

/-- A word with a field replaced. -/
def putField (v : Word) (lo w x : Nat) : Word :=
  (v &&& ~~~ maskOf lo w) ||| (BitVec.ofNat 32 (x % 2 ^ w * 2 ^ lo))

/-- 1 for true, 0 for false. -/
def b2n (b : Bool) : Nat := if b then 1 else 0

/-- A number of `w` bits read as two's complement. -/
def signed (w v : Nat) : Int :=
  if v % 2 ^ w < 2 ^ (w - 1) then (v % 2 ^ w : Nat) else ((v % 2 ^ w : Nat) : Int) - (2 ^ w : Nat)

/-- The low `w` bits of an integer, in two's complement. -/
def unsigned (w : Nat) (x : Int) : Nat := (x % (2 ^ w : Nat)).toNat

/-- An integer held inside `lo` to `hi`. -/
def clampInt (lo hi x : Int) : Int := if x < lo then lo else if hi < x then hi else x

/-- A number held inside `lo` to `hi`. -/
def clampNat (lo hi x : Nat) : Nat := if x < lo then lo else if hi < x then hi else x

/-- An integer as a signed field of `w` bits that saturates. -/
def satSigned (w : Nat) (x : Int) : Nat :=
  unsigned w (clampInt (1 - (2 ^ (w - 1) : Nat)) ((2 ^ (w - 1) : Nat) - 1) x)

/-- `a + b`, held at the largest number of `w` bits. -/
def satAdd (w a b : Nat) : Nat := min (a + b) (2 ^ w - 1)

/-- Byte `n` of a byte list; 0 beyond its end. -/
def byteAt (l : List Byte) (n : Nat) : Nat := (l.getD n 0).toNat

/-- `k` bytes from offset `n`, little-endian (chapter 3: all multi-byte fields are little-endian). -/
def leAt (l : List Byte) (n : Nat) : Nat → Nat
  | 0 => 0
  | k + 1 => byteAt l n + 256 * leAt l (n + 1) k

/-- A number as `k` bytes, little-endian. -/
def leBytes (v : Nat) : Nat → List Byte
  | 0 => []
  | k + 1 => BitVec.ofNat 8 v :: leBytes (v / 256) k

/-- The number of true entries. -/
def countTrue (l : List Bool) : Nat := (l.filter id).length

/-- The bits of a predicate over `0 … n-1`, entry `k` in bit `k`. -/
def bitMap (p : Nat → Bool) : Nat → Nat
  | 0 => 0
  | n + 1 => bitMap p n + b2n (p n) * 2 ^ n

/-- Inserts a number in an ascending list without repeats. -/
def insertAsc (x : Nat) : List Nat → List Nat
  | [] => [x]
  | y :: l => if x < y then x :: y :: l else if x = y then y :: l else y :: insertAsc x l

end Sys2Proof.Machine
end

