-- ==== Sys2Proof/Machine/RegTable.lean ====
section
/-! DEFINITION. The register map of BAR0 as data: one constructor of `RegName` per register of Tables MAP-3 to
MAP-22, its place (base, strides, counts) and its fields with type, reset value and apply point, taken from the register
tables of the chapters (R9, R10, R423, R424, R427).  A field of type RO is no row here: what an RO field reads is computed from
the state (Machine/RegView.lean). -/

set_option Elab.async false

namespace Sys2Proof.Machine

/-- The blocks of Table MAP-2. -/
inductive Block where
  | sys | hif | pwr | evt | pers | lane | port | sw | bpm | fdb | tcore | lnk | ref | pll | gnss | tic | cal | eng | pair | perf
  deriving DecidableEq, Repr

/-- The block ID of Table MAP-2, the high byte of the block's event codes (R424). -/
def Block.id : Block → Nat
  | .sys => 0x00
  | .hif => 0x01
  | .pwr => 0x02
  | .evt => 0x03
  | .pers => 0x04
  | .lane => 0x10
  | .port => 0x18
  | .sw => 0x20
  | .bpm => 0x24
  | .fdb => 0x28
  | .tcore => 0x30
  | .lnk => 0x34
  | .ref => 0x38
  | .pll => 0x3A
  | .gnss => 0x40
  | .tic => 0x44
  | .cal => 0x46
  | .eng => 0x48
  | .pair => 0x4C
  | .perf => 0x4E

/-- All blocks, in address order. -/
def Block.all : List Block :=
  [.sys, .hif, .pwr, .evt, .pers, .lane, .port, .sw, .bpm, .fdb, .tcore, .lnk, .ref, .pll, .gnss, .tic, .cal, .eng, .pair, .perf]

/-- The mailbox page of the block: the last 4 KiB of its range (R43, Table MAP-2). -/
def Block.mailbox : Block → Nat
  | .sys => 0x00F000
  | .hif => 0x01F000
  | .pwr => 0x02F000
  | .evt => 0x03F000
  | .pers => 0x0FF000
  | .lane => 0x17F000
  | .port => 0x1FF000
  | .sw => 0x23F000
  | .bpm => 0x27F000
  | .fdb => 0x2FF000
  | .tcore => 0x33F000
  | .lnk => 0x37F000
  | .ref => 0x39F000
  | .pll => 0x3FF000
  | .gnss => 0x43F000
  | .tic => 0x45F000
  | .cal => 0x47F000
  | .eng => 0x4BF000
  | .pair => 0x4DF000
  | .perf => 0x7FF000

/-- The field types of R9 that hold or take bits; RO fields are computed and MB values are read through mailboxes. -/
inductive FieldType where
  | rw | rc | wo | pw | kw
  deriving DecidableEq, Repr

/-- The apply points of R10. -/
inductive ApplyPoint where
  | imm | frm | idl | sec | epo | cmt
  deriving DecidableEq, Repr

/-- One field of a register table: bits `lo` to `lo + width - 1`. -/
structure Field where
  lo : Nat
  width : Nat
  type : FieldType
  reset : Nat
  apply : ApplyPoint
  deriving DecidableEq, Repr

/-- The registers of Tables MAP-3 to MAP-22. -/
inductive RegName where
  | sysId | sysCap | sysReady | sysRst | sysBootStat | sysKey | sysCommit | sysApplyStat | sysCfgerrCnt 
  | sysBadAccess 
  | hifGlbCtrl | hifDrain | hifDbBad | hifEvtLost | hifRxDisc | hifHostStat | hifRxMap | hifRingBaseLo 
  | hifRingBaseHi | hifRingSize | hifRingCtrl | hifRingStat | hifRingIdx | hifRingMod | hifRingAborted 
  | pwrReq | pwrStat | pwrTrimCfg0 | pwrTrimCfg1 | pwrCfg | pwrWakeEn | pwrWakeSrc | pwrWakeTimer 
  | pwrPadHeld | pwrPadRel | pwrDomStat0 | pwrDomStat1 | pwrEngStat | pwrForce | pwrAborted | pwrFailCnt 
  | evtCfg | evtCtrl | evtStat | evtSuppressed | evtPinStat | evtRoute 
  | persWord | persStat 
  | laneCtrl | laneStat | lanePeak | laneAdptCfg | laneAdptStat | laneQual | laneTxEq | laneHdrErr 
  | laneFecCorr | laneFecUncorr | laneExitCnt | laneGrpMode | laneGrpCtrl | laneGrpStat | laneGrpAborted 
  | portCfg | portHold | portSchedCap | portExpress | portTcMode | portStat | portDrrQuant 
  | portDeadlineExpired | portHoldFlush | portHoldResume | portDownDisc | portFlowNonconf | portMtuDisc 
  | portPauseTx | portPauseRx | portIngOvf | portResExpired 
  | swAssured | swCanaryValid | swReq | swBoundRate | swVsCtrl | swVsStat | swCond | swFlowCnt 
  | swResCfg 
  | bpmCfg | bpmPCnt | bpmPFree | bpmPRsv | bpmPStat | bpmSharedFree | bpmAlpha | bpmAuditCfg 
  | bpmAuditStat | bpmDoubleFreeCnt | bpmForeignFreeCnt | bpmLeakCnt | bpmHrOvf | bpmPoolEmptyCnt 
  | bpmPromoteCnt | bpmHintMiss | bpmMirrorSkip | bpmRsvOver | bpmHrTotal | bpmQuota | bpmHeadroom 
  | bpmUsed | bpmReqStat 
  | fdbCfg | fdbAge | fdbStat | fdbVerStat | fdbClsCfg | fdbLearnCnt | fdbLearnFail | fdbLearnSkip 
  | fdbMoveCnt | fdbStaticViol | fdbAgedCnt | fdbStateDisc | fdbVlanDisc | fdbMcEmpty | fdbPtpDisc 
  | fdbPortCfg | fdbMirCfg | fdbMirCopies 
  | tcoreCtrl | tcoreStat | tcoreSwap | tcoreRate | tcoreTrackErr | tcoreClass | tcoreClassOvr 
  | tcoreChStat | tcoreMsgDrop | tcoreOnestepSkip | tcorePortTs | tcorePortTstat 
  | lnkCfg | lnkActiveMap | lnkPortCfg | lnkAsymCoef | lnkFixRt | lnkFixAsym | lnkStat | lnkPhase 
  | lnkSnapErr | lnkExchDrop | lnkSlipCnt 
  | refCfg | refQlCfg | refPrefT | refPrefF | refTsel | refFsel | refStat | refRetCfg | refHoCfg 
  | refHoUnc0 | refHoUnc1 | refHoUnc2 | refHoErr | refHoTime | refBw0 | refBw1 | refBw2 | refMdlCfg 
  | refTempExt | refSquelch | refHoldoffCnt | refCandCfg | refCandStat | refInCfg | refInOfs 
  | pllRampStat | pllCfg | pllRatioN | pllRatioNum | pllRatioDen | pllStat | pllPhaseTgt | pllLockCfg 
  | pllSrcCand | pllCnt | pllOutCfg | pllOutDly | pllPpsCfg | pllPpsDly | pllPpsLate 
  | gnssCfg | gnssStat | gnssFeCfg | gnssFeStat | gnssIfL1 | gnssIfL5 | gnssAntDly | gnssIfb | gnssBurst 
  | gnssSolCfg | gnssPosCfg | gnssPosX | gnssPosY | gnssPosZ | gnssSolStat | gnssSectStat 
  | gnssSampleErr | gnssLossCnt | gnssSlipCnt | gnssDetDrop | gnssChCfg | gnssChStat 
  | ticCfg | ticStat | ticChCfg | ticChOfs | ticChStat | ticOrderCnt | ticNearCnt | ticTmoCnt 
  | calCfg | calStat | calThr0 | calThr1 | calValidTs | calValidLane | calValidTic | calAbortCnt 
  | calStoreFail 
  | engCfg | engStat | engJfmt | engSecVer | engSpadPwr | engSpadFw | engSpadLost | engSpadBankErr 
  | engTask | engEStat | engEVer | engELoad | engEAborted 
  | pairCfg | pairId | pairRole | pairStat | pairTenure | pairTimeDiff | pairInbPort | pairInbMacLo 
  | pairInbMacHi | pairOmdAsym | pairHbMiss | pairOmdErr | pairMirOvf | pairPromoteCnt 
  | perfTagCfg | perfUserEn | perfTagStat | perfTagDrop | perfSampCfg | perfSampStat | perfSampDrop 
  | perfCycLo | perfCycHi | perfCtl | perfSel | perfPcLo | perfPcHi 
  deriving DecidableEq, Repr

/-- One register of a replicated range: `i` is the instance (lane, port, ring, …) and `j` the second index
(traffic class, counter) where the table has one. -/
structure RegKey where
  name : RegName
  i : Nat := 0
  j : Nat := 0
  deriving DecidableEq, Repr

/-- One row of Tables MAP-3 to MAP-22: the BAR0 offset of the first instance, the strides and counts of the instances. -/
structure RegDef where
  block : Block
  base : Nat
  stride : Nat := 0
  count : Nat := 1
  stride2 : Nat := 0
  count2 : Nat := 1
  fields : List Field := []
  deriving DecidableEq, Repr

/-- The row of a register: Tables MAP-3 to MAP-22 and the field tables of the chapters. -/
def RegName.row : RegName → RegDef
  | .sysId =>
    { block := .sys, base := 0x000000 }
  | .sysCap =>
    { block := .sys, base := 0x000004 }
  | .sysReady =>
    { block := .sys, base := 0x000008 }
  | .sysRst =>
    { block := .sys, base := 0x000010,
      fields := [⟨0, 1, .kw, 0, .imm⟩, ⟨1, 1, .kw, 0, .imm⟩] }
  | .sysBootStat =>
    { block := .sys, base := 0x000014 }
  | .sysKey =>
    { block := .sys, base := 0x000020,
      fields := [⟨0, 32, .wo, 0, .imm⟩] }
  | .sysCommit =>
    { block := .sys, base := 0x000024,
      fields := [⟨0, 1, .wo, 0, .imm⟩, ⟨1, 1, .wo, 0, .imm⟩, ⟨2, 1, .wo, 0, .imm⟩] }
  | .sysApplyStat =>
    { block := .sys, base := 0x000028,
      fields := [⟨31, 1, .rc, 0, .imm⟩] }
  | .sysCfgerrCnt =>
    { block := .sys, base := 0x00002C }
  | .sysBadAccess =>
    { block := .sys, base := 0x000030,
      fields := [⟨0, 32, .rc, 0, .imm⟩] }
  | .hifGlbCtrl =>
    { block := .hif, base := 0x010000,
      fields := [⟨0, 3, .rw, 0, .imm⟩, ⟨3, 1, .rw, 0, .imm⟩, ⟨4, 1, .rw, 0, .sec⟩, ⟨5, 6, .rw, 0, .imm⟩, ⟨11, 1, .rw, 0, .imm⟩, ⟨12, 5, .rw, 0, .imm⟩, ⟨17, 1, .rw, 0, .frm⟩] }
  | .hifDrain =>
    { block := .hif, base := 0x010004,
      fields := [⟨0, 16, .rw, 100, .imm⟩, ⟨16, 16, .rw, 100, .imm⟩] }
  | .hifDbBad =>
    { block := .hif, base := 0x010008,
      fields := [⟨0, 32, .rc, 0, .imm⟩] }
  | .hifEvtLost =>
    { block := .hif, base := 0x01000C,
      fields := [⟨0, 32, .rc, 0, .imm⟩] }
  | .hifRxDisc =>
    { block := .hif, base := 0x010010,
      fields := [⟨0, 32, .rc, 0, .imm⟩] }
  | .hifHostStat =>
    { block := .hif, base := 0x010014 }
  | .hifRxMap =>
    { block := .hif, base := 0x010100, stride := 0x4, count := 64,
      fields := [⟨0, 5, .rw, 0, .frm⟩, ⟨5, 2, .rw, 0, .frm⟩] }
  | .hifRingBaseLo =>
    { block := .hif, base := 0x011000, stride := 0x40, count := 64,
      fields := [⟨12, 20, .rw, 0, .imm⟩] }
  | .hifRingBaseHi =>
    { block := .hif, base := 0x011004, stride := 0x40, count := 64,
      fields := [⟨0, 32, .rw, 0, .imm⟩] }
  | .hifRingSize =>
    { block := .hif, base := 0x011008, stride := 0x40, count := 64,
      fields := [⟨0, 4, .rw, 0, .imm⟩] }
  | .hifRingCtrl =>
    { block := .hif, base := 0x01100C, stride := 0x40, count := 64,
      fields := [⟨0, 1, .rw, 0, .imm⟩, ⟨1, 1, .wo, 0, .imm⟩, ⟨2, 3, .rw, 0, .imm⟩, ⟨5, 6, .rw, 0, .imm⟩, ⟨11, 4, .rw, 1, .imm⟩] }
  | .hifRingStat =>
    { block := .hif, base := 0x011010, stride := 0x40, count := 64 }
  | .hifRingIdx =>
    { block := .hif, base := 0x011014, stride := 0x40, count := 64 }
  | .hifRingMod =>
    { block := .hif, base := 0x011018, stride := 0x40, count := 64,
      fields := [⟨0, 8, .rw, 1, .imm⟩, ⟨8, 10, .rw, 0, .imm⟩, ⟨18, 3, .rw, 0, .imm⟩] }
  | .hifRingAborted =>
    { block := .hif, base := 0x01101C, stride := 0x40, count := 64,
      fields := [⟨0, 32, .rc, 0, .imm⟩] }
  | .pwrReq =>
    { block := .pwr, base := 0x020000,
      fields := [⟨0, 2, .wo, 0, .imm⟩] }
  | .pwrStat =>
    { block := .pwr, base := 0x020004 }
  | .pwrTrimCfg0 =>
    { block := .pwr, base := 0x020008,
      fields := [⟨0, 12, .rw, 0, .imm⟩, ⟨12, 1, .rw, 0, .imm⟩, ⟨13, 1, .rw, 0, .imm⟩, ⟨14, 1, .rw, 0, .imm⟩, ⟨15, 1, .rw, 0, .imm⟩, ⟨16, 16, .rw, 0, .imm⟩] }
  | .pwrTrimCfg1 =>
    { block := .pwr, base := 0x02000C,
      fields := [⟨0, 32, .rw, 0, .imm⟩] }
  | .pwrCfg =>
    { block := .pwr, base := 0x020010,
      fields := [⟨0, 10, .rw, 20, .imm⟩, ⟨16, 1, .rw, 0, .imm⟩] }
  | .pwrWakeEn =>
    { block := .pwr, base := 0x020014,
      fields := [⟨0, 5, .rw, 3, .imm⟩] }
  | .pwrWakeSrc =>
    { block := .pwr, base := 0x020018,
      fields := [⟨0, 5, .rc, 0, .imm⟩] }
  | .pwrWakeTimer =>
    { block := .pwr, base := 0x02001C,
      fields := [⟨0, 32, .rw, 0, .imm⟩] }
  | .pwrPadHeld =>
    { block := .pwr, base := 0x020020 }
  | .pwrPadRel =>
    { block := .pwr, base := 0x020024,
      fields := [⟨0, 17, .wo, 0, .imm⟩] }
  | .pwrDomStat0 =>
    { block := .pwr, base := 0x020028 }
  | .pwrDomStat1 =>
    { block := .pwr, base := 0x02002C }
  | .pwrEngStat =>
    { block := .pwr, base := 0x020030 }
  | .pwrForce =>
    { block := .pwr, base := 0x020034,
      fields := [⟨0, 2, .kw, 0, .imm⟩, ⟨2, 1, .kw, 0, .imm⟩] }
  | .pwrAborted =>
    { block := .pwr, base := 0x020038,
      fields := [⟨0, 32, .rc, 0, .imm⟩] }
  | .pwrFailCnt =>
    { block := .pwr, base := 0x02003C,
      fields := [⟨0, 32, .rc, 0, .imm⟩] }
  | .evtCfg =>
    { block := .evt, base := 0x030000,
      fields := [⟨0, 3, .rw, 5, .imm⟩, ⟨8, 8, .rw, 16, .imm⟩] }
  | .evtCtrl =>
    { block := .evt, base := 0x030004,
      fields := [⟨0, 1, .wo, 0, .imm⟩, ⟨1, 1, .wo, 0, .imm⟩, ⟨2, 1, .wo, 0, .imm⟩] }
  | .evtStat =>
    { block := .evt, base := 0x030008 }
  | .evtSuppressed =>
    { block := .evt, base := 0x03000C,
      fields := [⟨0, 32, .rc, 0, .imm⟩] }
  | .evtPinStat =>
    { block := .evt, base := 0x030010, stride := 0x4, count := 3,
      fields := [⟨0, 32, .rc, 0, .imm⟩] }
  | .evtRoute =>
    { block := .evt, base := 0x030100, stride := 0x4, count := 79,
      fields := [⟨0, 3, .rw, 0, .imm⟩, ⟨3, 1, .rw, 0, .imm⟩, ⟨4, 3, .rw, 1, .imm⟩, ⟨8, 3, .rw, 4, .imm⟩] }
  | .persWord =>
    { block := .pers, base := 0x040000, stride := 0x4, count := 512,
      fields := [⟨0, 32, .pw, 0, .imm⟩] }
  | .persStat =>
    { block := .pers, base := 0x040800 }
  | .laneCtrl =>
    { block := .lane, base := 0x100000, stride := 0x1000, count := 96,
      fields := [⟨0, 1, .wo, 0, .imm⟩, ⟨1, 1, .rw, 0, .frm⟩, ⟨2, 1, .rw, 1, .imm⟩, ⟨3, 1, .rw, 0, .imm⟩, ⟨4, 1, .rw, 0, .imm⟩, ⟨5, 1, .rw, 1, .imm⟩] }
  | .laneStat =>
    { block := .lane, base := 0x100004, stride := 0x1000, count := 96 }
  | .lanePeak =>
    { block := .lane, base := 0x100008, stride := 0x1000, count := 96,
      fields := [⟨16, 5, .rw, 0, .idl⟩, ⟨24, 1, .rw, 0, .idl⟩] }
  | .laneAdptCfg =>
    { block := .lane, base := 0x10000C, stride := 0x1000, count := 96,
      fields := [⟨0, 6, .rw, 19, .imm⟩, ⟨8, 8, .rw, 192, .imm⟩, ⟨16, 8, .rw, 100, .imm⟩, ⟨24, 1, .rw, 0, .imm⟩] }
  | .laneAdptStat =>
    { block := .lane, base := 0x100010, stride := 0x1000, count := 96,
      fields := [⟨4, 1, .rc, 0, .imm⟩, ⟨8, 8, .rc, 0, .imm⟩] }
  | .laneQual =>
    { block := .lane, base := 0x100014, stride := 0x1000, count := 96 }
  | .laneTxEq =>
    { block := .lane, base := 0x100018, stride := 0x1000, count := 96,
      fields := [⟨0, 4, .rw, 0, .frm⟩, ⟨4, 6, .rw, 0, .frm⟩, ⟨10, 5, .rw, 0, .frm⟩] }
  | .laneHdrErr =>
    { block := .lane, base := 0x10001C, stride := 0x1000, count := 96,
      fields := [⟨0, 32, .rc, 0, .imm⟩] }
  | .laneFecCorr =>
    { block := .lane, base := 0x100020, stride := 0x1000, count := 96,
      fields := [⟨0, 32, .rc, 0, .imm⟩] }
  | .laneFecUncorr =>
    { block := .lane, base := 0x100024, stride := 0x1000, count := 96,
      fields := [⟨0, 32, .rc, 0, .imm⟩] }
  | .laneExitCnt =>
    { block := .lane, base := 0x100028, stride := 0x1000, count := 96,
      fields := [⟨0, 8, .rc, 0, .imm⟩, ⟨8, 8, .rc, 0, .imm⟩, ⟨16, 8, .rc, 0, .imm⟩] }
  | .laneGrpMode =>
    { block := .lane, base := 0x160000, stride := 0x100, count := 12,
      fields := [⟨0, 3, .rw, 0, .cmt⟩, ⟨3, 2, .rw, 0, .cmt⟩, ⟨8, 3, .rw, 0, .cmt⟩, ⟨11, 2, .rw, 0, .cmt⟩] }
  | .laneGrpCtrl =>
    { block := .lane, base := 0x160004, stride := 0x100, count := 12,
      fields := [⟨0, 1, .kw, 0, .imm⟩, ⟨1, 1, .kw, 0, .imm⟩, ⟨2, 1, .kw, 0, .imm⟩, ⟨8, 8, .kw, 0, .imm⟩] }
  | .laneGrpStat =>
    { block := .lane, base := 0x160008, stride := 0x100, count := 12 }
  | .laneGrpAborted =>
    { block := .lane, base := 0x16000C, stride := 0x100, count := 12,
      fields := [⟨0, 32, .rc, 0, .imm⟩] }
  | .portCfg =>
    { block := .port, base := 0x180000, stride := 0x100, count := 97,
      fields := [⟨0, 2, .rw, 2, .imm⟩, ⟨2, 1, .rw, 0, .cmt⟩, ⟨3, 2, .rw, 0, .cmt⟩, ⟨5, 1, .rw, 1, .cmt⟩, ⟨8, 3, .rw, 6, .cmt⟩, ⟨16, 14, .rw, 1522, .cmt⟩] }
  | .portHold =>
    { block := .port, base := 0x180004, stride := 0x100, count := 97,
      fields := [⟨0, 10, .rw, 20, .imm⟩] }
  | .portSchedCap =>
    { block := .port, base := 0x180008, stride := 0x100, count := 97,
      fields := [⟨0, 16, .rw, 8192, .cmt⟩, ⟨16, 7, .rw, 75, .cmt⟩] }
  | .portExpress =>
    { block := .port, base := 0x18000C, stride := 0x100, count := 97,
      fields := [⟨0, 8, .rw, 0, .frm⟩] }
  | .portTcMode =>
    { block := .port, base := 0x180010, stride := 0x100, count := 97,
      fields := [⟨0, 8, .rw, 0, .frm⟩] }
  | .portStat =>
    { block := .port, base := 0x180014, stride := 0x100, count := 97 }
  | .portDrrQuant =>
    { block := .port, base := 0x180020, stride := 0x100, count := 97, stride2 := 4, count2 := 8,
      fields := [⟨0, 14, .rw, 2048, .frm⟩] }
  | .portDeadlineExpired =>
    { block := .port, base := 0x180040, stride := 0x100, count := 97,
      fields := [⟨0, 32, .rc, 0, .imm⟩] }
  | .portHoldFlush =>
    { block := .port, base := 0x180044, stride := 0x100, count := 97,
      fields := [⟨0, 32, .rc, 0, .imm⟩] }
  | .portHoldResume =>
    { block := .port, base := 0x180048, stride := 0x100, count := 97,
      fields := [⟨0, 32, .rc, 0, .imm⟩] }
  | .portDownDisc =>
    { block := .port, base := 0x18004C, stride := 0x100, count := 97,
      fields := [⟨0, 32, .rc, 0, .imm⟩] }
  | .portFlowNonconf =>
    { block := .port, base := 0x180050, stride := 0x100, count := 97,
      fields := [⟨0, 32, .rc, 0, .imm⟩] }
  | .portMtuDisc =>
    { block := .port, base := 0x180054, stride := 0x100, count := 97,
      fields := [⟨0, 32, .rc, 0, .imm⟩] }
  | .portPauseTx =>
    { block := .port, base := 0x180058, stride := 0x100, count := 97,
      fields := [⟨0, 32, .rc, 0, .imm⟩] }
  | .portPauseRx =>
    { block := .port, base := 0x18005C, stride := 0x100, count := 97,
      fields := [⟨0, 32, .rc, 0, .imm⟩] }
  | .portIngOvf =>
    { block := .port, base := 0x180060, stride := 0x100, count := 97,
      fields := [⟨0, 32, .rc, 0, .imm⟩] }
  | .portResExpired =>
    { block := .port, base := 0x180064, stride := 0x100, count := 97,
      fields := [⟨0, 32, .rc, 0, .imm⟩] }
  | .swAssured =>
    { block := .sw, base := 0x200000 }
  | .swCanaryValid =>
    { block := .sw, base := 0x200004 }
  | .swReq =>
    { block := .sw, base := 0x200008 }
  | .swBoundRate =>
    { block := .sw, base := 0x20000C,
      fields := [⟨0, 16, .rw, 4096, .cmt⟩] }
  | .swVsCtrl =>
    { block := .sw, base := 0x200010,
      fields := [⟨0, 1, .rw, 1, .imm⟩, ⟨8, 5, .rw, 8, .imm⟩, ⟨16, 4, .rw, 5, .imm⟩, ⟨20, 12, .rw, 680, .imm⟩] }
  | .swVsStat =>
    { block := .sw, base := 0x200014 }
  | .swCond =>
    { block := .sw, base := 0x200018 }
  | .swFlowCnt =>
    { block := .sw, base := 0x20001C }
  | .swResCfg =>
    { block := .sw, base := 0x200020,
      fields := [⟨0, 12, .rw, 500, .imm⟩] }
  | .bpmCfg =>
    { block := .bpm, base := 0x240000,
      fields := [⟨0, 7, .rw, 25, .cmt⟩, ⟨7, 1, .rw, 1, .imm⟩, ⟨8, 1, .rw, 1, .imm⟩] }
  | .bpmPCnt =>
    { block := .bpm, base := 0x240010, stride := 0x10, count := 5 }
  | .bpmPFree =>
    { block := .bpm, base := 0x240014, stride := 0x10, count := 5 }
  | .bpmPRsv =>
    { block := .bpm, base := 0x240018, stride := 0x10, count := 5 }
  | .bpmPStat =>
    { block := .bpm, base := 0x24001C, stride := 0x10, count := 5 }
  | .bpmSharedFree =>
    { block := .bpm, base := 0x240060 }
  | .bpmAlpha =>
    { block := .bpm, base := 0x240064,
      fields := [⟨0, 3, .rw, 3, .imm⟩, ⟨3, 3, .rw, 3, .imm⟩, ⟨6, 3, .rw, 3, .imm⟩, ⟨9, 3, .rw, 3, .imm⟩, ⟨12, 3, .rw, 3, .imm⟩, ⟨15, 3, .rw, 3, .imm⟩, ⟨18, 3, .rw, 3, .imm⟩, ⟨21, 3, .rw, 3, .imm⟩] }
  | .bpmAuditCfg =>
    { block := .bpm, base := 0x240068,
      fields := [⟨0, 1, .rw, 1, .imm⟩, ⟨1, 1, .rw, 0, .imm⟩, ⟨4, 12, .rw, 16, .imm⟩] }
  | .bpmAuditStat =>
    { block := .bpm, base := 0x24006C }
  | .bpmDoubleFreeCnt =>
    { block := .bpm, base := 0x240070,
      fields := [⟨0, 32, .rc, 0, .imm⟩] }
  | .bpmForeignFreeCnt =>
    { block := .bpm, base := 0x240074,
      fields := [⟨0, 32, .rc, 0, .imm⟩] }
  | .bpmLeakCnt =>
    { block := .bpm, base := 0x240078,
      fields := [⟨0, 32, .rc, 0, .imm⟩] }
  | .bpmHrOvf =>
    { block := .bpm, base := 0x24007C,
      fields := [⟨0, 32, .rc, 0, .imm⟩] }
  | .bpmPoolEmptyCnt =>
    { block := .bpm, base := 0x240080,
      fields := [⟨0, 32, .rc, 0, .imm⟩] }
  | .bpmPromoteCnt =>
    { block := .bpm, base := 0x240084,
      fields := [⟨0, 32, .rc, 0, .imm⟩] }
  | .bpmHintMiss =>
    { block := .bpm, base := 0x240088,
      fields := [⟨0, 32, .rc, 0, .imm⟩] }
  | .bpmMirrorSkip =>
    { block := .bpm, base := 0x24008C,
      fields := [⟨0, 32, .rc, 0, .imm⟩] }
  | .bpmRsvOver =>
    { block := .bpm, base := 0x240090,
      fields := [⟨0, 32, .rc, 0, .imm⟩] }
  | .bpmHrTotal =>
    { block := .bpm, base := 0x240094 }
  | .bpmQuota =>
    { block := .bpm, base := 0x241000, stride := 0x10, count := 106,
      fields := [⟨0, 19, .rw, 32768, .imm⟩] }
  | .bpmHeadroom =>
    { block := .bpm, base := 0x241004, stride := 0x10, count := 106,
      fields := [⟨0, 10, .rw, 80, .cmt⟩] }
  | .bpmUsed =>
    { block := .bpm, base := 0x241008, stride := 0x10, count := 106 }
  | .bpmReqStat =>
    { block := .bpm, base := 0x24100C, stride := 0x10, count := 106 }
  | .fdbCfg =>
    { block := .fdb, base := 0x280000,
      fields := [⟨0, 1, .rw, 1, .imm⟩, ⟨1, 1, .rw, 1, .imm⟩] }
  | .fdbAge =>
    { block := .fdb, base := 0x280004,
      fields := [⟨0, 16, .rw, 300, .imm⟩] }
  | .fdbStat =>
    { block := .fdb, base := 0x280008 }
  | .fdbVerStat =>
    { block := .fdb, base := 0x28000C }
  | .fdbClsCfg =>
    { block := .fdb, base := 0x280010,
      fields := [⟨0, 16, .rw, 0, .imm⟩, ⟨16, 2, .rw, 1, .imm⟩] }
  | .fdbLearnCnt =>
    { block := .fdb, base := 0x280020,
      fields := [⟨0, 32, .rc, 0, .imm⟩] }
  | .fdbLearnFail =>
    { block := .fdb, base := 0x280024,
      fields := [⟨0, 32, .rc, 0, .imm⟩] }
  | .fdbLearnSkip =>
    { block := .fdb, base := 0x280028,
      fields := [⟨0, 32, .rc, 0, .imm⟩] }
  | .fdbMoveCnt =>
    { block := .fdb, base := 0x28002C,
      fields := [⟨0, 32, .rc, 0, .imm⟩] }
  | .fdbStaticViol =>
    { block := .fdb, base := 0x280030,
      fields := [⟨0, 32, .rc, 0, .imm⟩] }
  | .fdbAgedCnt =>
    { block := .fdb, base := 0x280034,
      fields := [⟨0, 32, .rc, 0, .imm⟩] }
  | .fdbStateDisc =>
    { block := .fdb, base := 0x280038,
      fields := [⟨0, 32, .rc, 0, .imm⟩] }
  | .fdbVlanDisc =>
    { block := .fdb, base := 0x28003C,
      fields := [⟨0, 32, .rc, 0, .imm⟩] }
  | .fdbMcEmpty =>
    { block := .fdb, base := 0x280040,
      fields := [⟨0, 32, .rc, 0, .imm⟩] }
  | .fdbPtpDisc =>
    { block := .fdb, base := 0x280044,
      fields := [⟨0, 32, .rc, 0, .imm⟩] }
  | .fdbPortCfg =>
    { block := .fdb, base := 0x280100, stride := 0x4, count := 97,
      fields := [⟨0, 2, .rw, 0, .frm⟩, ⟨2, 1, .rw, 1, .imm⟩, ⟨3, 1, .rw, 0, .imm⟩, ⟨4, 1, .rw, 1, .imm⟩, ⟨8, 12, .rw, 1, .frm⟩] }
  | .fdbMirCfg =>
    { block := .fdb, base := 0x280300, stride := 0x8, count := 8,
      fields := [⟨0, 3, .rw, 0, .imm⟩, ⟨3, 1, .rw, 0, .imm⟩] }
  | .fdbMirCopies =>
    { block := .fdb, base := 0x280304, stride := 0x8, count := 8,
      fields := [⟨0, 32, .rc, 0, .imm⟩] }
  | .tcoreCtrl =>
    { block := .tcore, base := 0x300000,
      fields := [⟨0, 1, .rw, 1, .imm⟩, ⟨1, 1, .rw, 1, .imm⟩, ⟨2, 1, .rw, 1, .imm⟩, ⟨3, 2, .rw, 1, .sec⟩, ⟨5, 1, .rw, 0, .sec⟩, ⟨8, 8, .rw, 50, .imm⟩] }
  | .tcoreStat =>
    { block := .tcore, base := 0x300004 }
  | .tcoreSwap =>
    { block := .tcore, base := 0x300008,
      fields := [⟨0, 1, .kw, 0, .imm⟩, ⟨1, 1, .kw, 0, .imm⟩, ⟨2, 1, .kw, 0, .imm⟩, ⟨3, 1, .kw, 0, .imm⟩] }
  | .tcoreRate =>
    { block := .tcore, base := 0x30000C,
      fields := [⟨0, 32, .rw, 0, .imm⟩] }
  | .tcoreTrackErr =>
    { block := .tcore, base := 0x300010 }
  | .tcoreClass =>
    { block := .tcore, base := 0x300014 }
  | .tcoreClassOvr =>
    { block := .tcore, base := 0x300018,
      fields := [⟨0, 8, .rw, 248, .sec⟩, ⟨8, 8, .rw, 254, .sec⟩, ⟨16, 16, .rw, 65535, .sec⟩] }
  | .tcoreChStat =>
    { block := .tcore, base := 0x30001C }
  | .tcoreMsgDrop =>
    { block := .tcore, base := 0x300020,
      fields := [⟨0, 32, .rc, 0, .imm⟩] }
  | .tcoreOnestepSkip =>
    { block := .tcore, base := 0x300024,
      fields := [⟨0, 32, .rc, 0, .imm⟩] }
  | .tcorePortTs =>
    { block := .tcore, base := 0x301000, stride := 0x10, count := 96,
      fields := [⟨0, 16, .rw, 0, .frm⟩, ⟨16, 16, .rw, 0, .frm⟩] }
  | .tcorePortTstat =>
    { block := .tcore, base := 0x301004, stride := 0x10, count := 96 }
  | .lnkCfg =>
    { block := .lnk, base := 0x340000,
      fields := [⟨0, 8, .rw, 16, .imm⟩, ⟨8, 8, .rw, 50, .imm⟩, ⟨16, 16, .rw, 3600, .imm⟩] }
  | .lnkActiveMap =>
    { block := .lnk, base := 0x340004, stride := 0x4, count := 3 }
  | .lnkPortCfg =>
    { block := .lnk, base := 0x341000, stride := 0x40, count := 96,
      fields := [⟨0, 1, .rw, 0, .imm⟩, ⟨1, 2, .rw, 0, .cmt⟩, ⟨8, 7, .rw, 0, .cmt⟩] }
  | .lnkAsymCoef =>
    { block := .lnk, base := 0x341004, stride := 0x40, count := 96,
      fields := [⟨0, 32, .rw, 0, .sec⟩] }
  | .lnkFixRt =>
    { block := .lnk, base := 0x341008, stride := 0x40, count := 96,
      fields := [⟨0, 24, .rw, 0, .sec⟩] }
  | .lnkFixAsym =>
    { block := .lnk, base := 0x34100C, stride := 0x40, count := 96,
      fields := [⟨0, 16, .rw, 0, .sec⟩] }
  | .lnkStat =>
    { block := .lnk, base := 0x341010, stride := 0x40, count := 96 }
  | .lnkPhase =>
    { block := .lnk, base := 0x341014, stride := 0x40, count := 96 }
  | .lnkSnapErr =>
    { block := .lnk, base := 0x341018, stride := 0x40, count := 96,
      fields := [⟨0, 32, .rc, 0, .imm⟩] }
  | .lnkExchDrop =>
    { block := .lnk, base := 0x34101C, stride := 0x40, count := 96,
      fields := [⟨0, 32, .rc, 0, .imm⟩] }
  | .lnkSlipCnt =>
    { block := .lnk, base := 0x341020, stride := 0x40, count := 96,
      fields := [⟨0, 32, .rc, 0, .imm⟩] }
  | .refCfg =>
    { block := .ref, base := 0x380000,
      fields := [⟨0, 12, .rw, 500, .imm⟩, ⟨12, 1, .rw, 1, .imm⟩, ⟨16, 12, .rw, 300, .imm⟩] }
  | .refQlCfg =>
    { block := .ref, base := 0x380004,
      fields := [⟨0, 4, .rw, 7, .imm⟩, ⟨4, 4, .rw, 7, .imm⟩, ⟨8, 8, .rw, 10, .imm⟩, ⟨16, 4, .rw, 1, .imm⟩] }
  | .refPrefT =>
    { block := .ref, base := 0x380008,
      fields := [⟨0, 32, .rw, 4294967295, .imm⟩] }
  | .refPrefF =>
    { block := .ref, base := 0x38000C,
      fields := [⟨0, 32, .rw, 4294967295, .imm⟩] }
  | .refTsel =>
    { block := .ref, base := 0x380010 }
  | .refFsel =>
    { block := .ref, base := 0x380014 }
  | .refStat =>
    { block := .ref, base := 0x380018 }
  | .refRetCfg =>
    { block := .ref, base := 0x38001C,
      fields := [⟨0, 16, .rw, 50, .imm⟩, ⟨16, 10, .rw, 20, .imm⟩, ⟨26, 1, .rw, 0, .imm⟩] }
  | .refHoCfg =>
    { block := .ref, base := 0x380020,
      fields := [⟨0, 9, .rw, 300, .imm⟩, ⟨9, 7, .rw, 12, .imm⟩, ⟨16, 16, .rw, 1100, .imm⟩] }
  | .refHoUnc0 =>
    { block := .ref, base := 0x380024,
      fields := [⟨0, 16, .rw, 10, .imm⟩, ⟨16, 16, .rw, 30, .imm⟩] }
  | .refHoUnc1 =>
    { block := .ref, base := 0x380028,
      fields := [⟨0, 16, .rw, 20, .imm⟩, ⟨16, 16, .rw, 200, .imm⟩] }
  | .refHoUnc2 =>
    { block := .ref, base := 0x38002C,
      fields := [⟨0, 16, .rw, 10, .imm⟩] }
  | .refHoErr =>
    { block := .ref, base := 0x380030 }
  | .refHoTime =>
    { block := .ref, base := 0x380034 }
  | .refBw0 =>
    { block := .ref, base := 0x380038,
      fields := [⟨0, 16, .rw, 1000, .imm⟩, ⟨16, 16, .rw, 50, .imm⟩] }
  | .refBw1 =>
    { block := .ref, base := 0x38003C,
      fields := [⟨0, 16, .rw, 10, .imm⟩, ⟨16, 16, .rw, 10000, .imm⟩] }
  | .refBw2 =>
    { block := .ref, base := 0x380040,
      fields := [⟨0, 16, .rw, 100, .imm⟩] }
  | .refMdlCfg =>
    { block := .ref, base := 0x380044,
      fields := [⟨0, 8, .rw, 216, .sec⟩, ⟨8, 8, .rw, 20, .sec⟩, ⟨16, 1, .rw, 0, .sec⟩, ⟨17, 1, .rw, 1, .sec⟩] }
  | .refTempExt =>
    { block := .ref, base := 0x380048,
      fields := [⟨0, 16, .rw, 0, .imm⟩] }
  | .refSquelch =>
    { block := .ref, base := 0x38004C,
      fields := [⟨0, 2, .rw, 0, .sec⟩, ⟨2, 2, .rw, 0, .sec⟩] }
  | .refHoldoffCnt =>
    { block := .ref, base := 0x380050,
      fields := [⟨0, 32, .rc, 0, .imm⟩] }
  | .refCandCfg =>
    { block := .ref, base := 0x381000, stride := 0x10, count := 103,
      fields := [⟨0, 1, .rw, 1, .imm⟩, ⟨1, 1, .rw, 0, .imm⟩, ⟨4, 4, .rw, 7, .imm⟩, ⟨8, 4, .rw, 8, .imm⟩] }
  | .refCandStat =>
    { block := .ref, base := 0x381004, stride := 0x10, count := 103 }
  | .refInCfg =>
    { block := .ref, base := 0x381008, stride := 0x10, count := 103,
      fields := [⟨0, 2, .rw, 0, .imm⟩] }
  | .refInOfs =>
    { block := .ref, base := 0x38100C, stride := 0x10, count := 103,
      fields := [⟨0, 32, .rw, 0, .sec⟩] }
  | .pllRampStat =>
    { block := .pll, base := 0x3A0000 }
  | .pllCfg =>
    { block := .pll, base := 0x3A1000, stride := 0x40, count := 4,
      fields := [⟨0, 2, .rw, 0, .cmt⟩, ⟨2, 5, .rw, 8, .imm⟩, ⟨7, 2, .rw, 1, .imm⟩, ⟨9, 1, .rw, 1, .imm⟩, ⟨10, 1, .rw, 0, .cmt⟩] }
  | .pllRatioN =>
    { block := .pll, base := 0x3A1004, stride := 0x40, count := 4,
      fields := [⟨0, 9, .rw, 16, .cmt⟩] }
  | .pllRatioNum =>
    { block := .pll, base := 0x3A1008, stride := 0x40, count := 4,
      fields := [⟨0, 24, .rw, 0, .cmt⟩] }
  | .pllRatioDen =>
    { block := .pll, base := 0x3A100C, stride := 0x40, count := 4,
      fields := [⟨0, 24, .rw, 1, .cmt⟩] }
  | .pllStat =>
    { block := .pll, base := 0x3A1010, stride := 0x40, count := 4 }
  | .pllPhaseTgt =>
    { block := .pll, base := 0x3A1014, stride := 0x40, count := 4,
      fields := [⟨0, 16, .rw, 0, .cmt⟩] }
  | .pllLockCfg =>
    { block := .pll, base := 0x3A1018, stride := 0x40, count := 4,
      fields := [⟨0, 8, .rw, 50, .imm⟩, ⟨8, 8, .rw, 100, .imm⟩, ⟨16, 16, .rw, 100, .imm⟩] }
  | .pllSrcCand =>
    { block := .pll, base := 0x3A101C, stride := 0x40, count := 4,
      fields := [⟨0, 32, .rw, 4294967295, .cmt⟩] }
  | .pllCnt =>
    { block := .pll, base := 0x3A1020, stride := 0x40, count := 4,
      fields := [⟨0, 16, .rc, 0, .imm⟩, ⟨16, 16, .rc, 0, .imm⟩] }
  | .pllOutCfg =>
    { block := .pll, base := 0x3A2000, stride := 0x10, count := 6,
      fields := [⟨0, 1, .rw, 0, .imm⟩, ⟨1, 1, .rw, 0, .cmt⟩, ⟨2, 1, .rw, 0, .cmt⟩, ⟨4, 12, .rw, 250, .cmt⟩, ⟨16, 8, .rw, 0, .sec⟩] }
  | .pllOutDly =>
    { block := .pll, base := 0x3A2004, stride := 0x10, count := 6,
      fields := [⟨0, 10, .rw, 0, .sec⟩] }
  | .pllPpsCfg =>
    { block := .pll, base := 0x3A2100, stride := 0x10, count := 2,
      fields := [⟨0, 1, .rw, 1, .sec⟩, ⟨1, 19, .rw, 100000, .sec⟩, ⟨20, 10, .rw, 0, .sec⟩] }
  | .pllPpsDly =>
    { block := .pll, base := 0x3A2104, stride := 0x10, count := 2,
      fields := [⟨0, 32, .rw, 0, .sec⟩] }
  | .pllPpsLate =>
    { block := .pll, base := 0x3A2108, stride := 0x10, count := 2,
      fields := [⟨0, 32, .rc, 0, .imm⟩] }
  | .gnssCfg =>
    { block := .gnss, base := 0x400000,
      fields := [⟨0, 2, .rw, 2, .sec⟩, ⟨2, 1, .rw, 1, .imm⟩, ⟨3, 1, .rw, 1, .imm⟩, ⟨4, 1, .rw, 1, .imm⟩, ⟨5, 1, .rw, 1, .imm⟩, ⟨6, 1, .rw, 1, .imm⟩, ⟨7, 1, .rw, 1, .imm⟩, ⟨8, 2, .rw, 3, .sec⟩] }
  | .gnssStat =>
    { block := .gnss, base := 0x400004 }
  | .gnssFeCfg =>
    { block := .gnss, base := 0x400008,
      fields := [⟨0, 1, .rw, 0, .epo⟩, ⟨1, 1, .rw, 0, .epo⟩, ⟨2, 1, .rw, 0, .epo⟩, ⟨3, 1, .rw, 0, .epo⟩, ⟨4, 1, .rw, 0, .epo⟩, ⟨5, 1, .rw, 0, .epo⟩, ⟨6, 1, .rw, 0, .imm⟩] }
  | .gnssFeStat =>
    { block := .gnss, base := 0x40000C }
  | .gnssIfL1 =>
    { block := .gnss, base := 0x400010,
      fields := [⟨0, 24, .rw, 0, .epo⟩] }
  | .gnssIfL5 =>
    { block := .gnss, base := 0x400014,
      fields := [⟨0, 24, .rw, 0, .epo⟩] }
  | .gnssAntDly =>
    { block := .gnss, base := 0x400018,
      fields := [⟨0, 32, .rw, 0, .epo⟩] }
  | .gnssIfb =>
    { block := .gnss, base := 0x40001C,
      fields := [⟨0, 16, .rw, 0, .epo⟩] }
  | .gnssBurst =>
    { block := .gnss, base := 0x400020,
      fields := [⟨0, 10, .rw, 0, .sec⟩, ⟨16, 8, .rw, 2, .imm⟩, ⟨24, 1, .rw, 1, .imm⟩] }
  | .gnssSolCfg =>
    { block := .gnss, base := 0x400024,
      fields := [⟨0, 4, .rw, 4, .imm⟩, ⟨8, 8, .rw, 20, .imm⟩, ⟨16, 7, .rw, 10, .imm⟩, ⟨24, 6, .rw, 30, .imm⟩] }
  | .gnssPosCfg =>
    { block := .gnss, base := 0x400028,
      fields := [⟨0, 2, .rw, 1, .imm⟩, ⟨8, 12, .rw, 60, .imm⟩, ⟨20, 12, .rw, 50, .imm⟩] }
  | .gnssPosX =>
    { block := .gnss, base := 0x40002C,
      fields := [⟨0, 32, .rw, 0, .epo⟩] }
  | .gnssPosY =>
    { block := .gnss, base := 0x400030,
      fields := [⟨0, 32, .rw, 0, .epo⟩] }
  | .gnssPosZ =>
    { block := .gnss, base := 0x400034,
      fields := [⟨0, 32, .rw, 0, .epo⟩] }
  | .gnssSolStat =>
    { block := .gnss, base := 0x400038 }
  | .gnssSectStat =>
    { block := .gnss, base := 0x40003C }
  | .gnssSampleErr =>
    { block := .gnss, base := 0x400040,
      fields := [⟨0, 32, .rc, 0, .imm⟩] }
  | .gnssLossCnt =>
    { block := .gnss, base := 0x400044,
      fields := [⟨0, 32, .rc, 0, .imm⟩] }
  | .gnssSlipCnt =>
    { block := .gnss, base := 0x400048,
      fields := [⟨0, 32, .rc, 0, .imm⟩] }
  | .gnssDetDrop =>
    { block := .gnss, base := 0x40004C,
      fields := [⟨0, 32, .rc, 0, .imm⟩] }
  | .gnssChCfg =>
    { block := .gnss, base := 0x401000, stride := 0x10, count := 64,
      fields := [⟨0, 8, .rw, 0, .imm⟩, ⟨8, 1, .rw, 0, .imm⟩, ⟨9, 1, .rw, 0, .imm⟩, ⟨10, 1, .rw, 0, .imm⟩, ⟨16, 8, .rw, 5, .imm⟩, ⟨24, 8, .rw, 10, .imm⟩] }
  | .gnssChStat =>
    { block := .gnss, base := 0x401004, stride := 0x10, count := 64 }
  | .ticCfg =>
    { block := .tic, base := 0x440000,
      fields := [⟨0, 1, .rw, 0, .imm⟩, ⟨1, 2, .rw, 0, .imm⟩] }
  | .ticStat =>
    { block := .tic, base := 0x440004 }
  | .ticChCfg =>
    { block := .tic, base := 0x441000, stride := 0x20, count := 16,
      fields := [⟨0, 1, .rw, 0, .imm⟩, ⟨1, 1, .rw, 0, .imm⟩, ⟨16, 16, .rw, 2000, .imm⟩] }
  | .ticChOfs =>
    { block := .tic, base := 0x441004, stride := 0x20, count := 16,
      fields := [⟨0, 32, .rw, 0, .imm⟩] }
  | .ticChStat =>
    { block := .tic, base := 0x441008, stride := 0x20, count := 16 }
  | .ticOrderCnt =>
    { block := .tic, base := 0x44100C, stride := 0x20, count := 16,
      fields := [⟨0, 32, .rc, 0, .imm⟩] }
  | .ticNearCnt =>
    { block := .tic, base := 0x441010, stride := 0x20, count := 16,
      fields := [⟨0, 32, .rc, 0, .imm⟩] }
  | .ticTmoCnt =>
    { block := .tic, base := 0x441014, stride := 0x20, count := 16,
      fields := [⟨0, 32, .rc, 0, .imm⟩] }
  | .calCfg =>
    { block := .cal, base := 0x460000,
      fields := [⟨0, 1, .rw, 1, .imm⟩, ⟨1, 1, .rw, 1, .imm⟩, ⟨8, 8, .rw, 60, .imm⟩] }
  | .calStat =>
    { block := .cal, base := 0x460004 }
  | .calThr0 =>
    { block := .cal, base := 0x460008,
      fields := [⟨0, 8, .rw, 32, .imm⟩, ⟨8, 8, .rw, 40, .imm⟩, ⟨16, 8, .rw, 20, .imm⟩, ⟨24, 8, .rw, 10, .imm⟩] }
  | .calThr1 =>
    { block := .cal, base := 0x46000C,
      fields := [⟨0, 16, .rw, 500, .imm⟩] }
  | .calValidTs =>
    { block := .cal, base := 0x460010, stride := 0x4, count := 3 }
  | .calValidLane =>
    { block := .cal, base := 0x46001C, stride := 0x4, count := 3 }
  | .calValidTic =>
    { block := .cal, base := 0x460028 }
  | .calAbortCnt =>
    { block := .cal, base := 0x46002C,
      fields := [⟨0, 32, .rc, 0, .imm⟩] }
  | .calStoreFail =>
    { block := .cal, base := 0x460030,
      fields := [⟨0, 32, .rc, 0, .imm⟩] }
  | .engCfg =>
    { block := .eng, base := 0x480000,
      fields := [⟨0, 16, .rw, 500, .imm⟩, ⟨16, 1, .rw, 1, .imm⟩] }
  | .engStat =>
    { block := .eng, base := 0x480004 }
  | .engJfmt =>
    { block := .eng, base := 0x480008 }
  | .engSecVer =>
    { block := .eng, base := 0x48000C }
  | .engSpadPwr =>
    { block := .eng, base := 0x480010, stride := 0x4, count := 2,
      fields := [⟨0, 32, .rw, 0, .imm⟩] }
  | .engSpadFw =>
    { block := .eng, base := 0x480018 }
  | .engSpadLost =>
    { block := .eng, base := 0x48001C,
      fields := [⟨0, 32, .rc, 0, .imm⟩] }
  | .engSpadBankErr =>
    { block := .eng, base := 0x480020,
      fields := [⟨0, 32, .rc, 0, .imm⟩] }
  | .engTask =>
    { block := .eng, base := 0x480100, stride := 0x4, count := 11 }
  | .engEStat =>
    { block := .eng, base := 0x481000, stride := 0x40, count := 16 }
  | .engEVer =>
    { block := .eng, base := 0x481004, stride := 0x40, count := 16 }
  | .engELoad =>
    { block := .eng, base := 0x481008, stride := 0x40, count := 16 }
  | .engEAborted =>
    { block := .eng, base := 0x48100C, stride := 0x40, count := 16,
      fields := [⟨0, 32, .rc, 0, .imm⟩] }
  | .pairCfg =>
    { block := .pair, base := 0x4C0000,
      fields := [⟨0, 1, .rw, 0, .cmt⟩, ⟨1, 1, .rw, 0, .cmt⟩, ⟨2, 1, .rw, 0, .cmt⟩, ⟨3, 1, .rw, 1, .imm⟩, ⟨8, 8, .rw, 1, .sec⟩, ⟨16, 8, .rw, 24, .imm⟩] }
  | .pairId =>
    { block := .pair, base := 0x4C0004,
      fields := [⟨0, 16, .rw, 0, .cmt⟩] }
  | .pairRole =>
    { block := .pair, base := 0x4C0008,
      fields := [⟨0, 2, .kw, 0, .imm⟩] }
  | .pairStat =>
    { block := .pair, base := 0x4C000C }
  | .pairTenure =>
    { block := .pair, base := 0x4C0010 }
  | .pairTimeDiff =>
    { block := .pair, base := 0x4C0014 }
  | .pairInbPort =>
    { block := .pair, base := 0x4C0018,
      fields := [⟨0, 32, .rw, 4294967295, .cmt⟩] }
  | .pairInbMacLo =>
    { block := .pair, base := 0x4C001C,
      fields := [⟨0, 32, .rw, 0, .cmt⟩] }
  | .pairInbMacHi =>
    { block := .pair, base := 0x4C0020,
      fields := [⟨0, 16, .rw, 0, .cmt⟩, ⟨16, 12, .rw, 1, .cmt⟩] }
  | .pairOmdAsym =>
    { block := .pair, base := 0x4C0024,
      fields := [⟨0, 16, .rw, 0, .sec⟩] }
  | .pairHbMiss =>
    { block := .pair, base := 0x4C0030,
      fields := [⟨0, 16, .rc, 0, .imm⟩, ⟨16, 16, .rc, 0, .imm⟩] }
  | .pairOmdErr =>
    { block := .pair, base := 0x4C0034,
      fields := [⟨0, 16, .rc, 0, .imm⟩, ⟨16, 16, .rc, 0, .imm⟩] }
  | .pairMirOvf =>
    { block := .pair, base := 0x4C0038,
      fields := [⟨0, 32, .rc, 0, .imm⟩] }
  | .pairPromoteCnt =>
    { block := .pair, base := 0x4C003C,
      fields := [⟨0, 32, .rc, 0, .imm⟩] }
  | .perfTagCfg =>
    { block := .perf, base := 0x4E0000,
      fields := [⟨0, 1, .rw, 0, .imm⟩, ⟨1, 5, .rw, 16, .imm⟩, ⟨6, 1, .rw, 0, .imm⟩] }
  | .perfUserEn =>
    { block := .perf, base := 0x4E0004,
      fields := [⟨0, 1, .rw, 0, .imm⟩] }
  | .perfTagStat =>
    { block := .perf, base := 0x4E0008 }
  | .perfTagDrop =>
    { block := .perf, base := 0x4E000C,
      fields := [⟨0, 32, .rc, 0, .imm⟩] }
  | .perfSampCfg =>
    { block := .perf, base := 0x4E0010,
      fields := [⟨0, 16, .rw, 0, .imm⟩, ⟨16, 5, .rw, 16, .imm⟩, ⟨24, 1, .rw, 0, .imm⟩, ⟨25, 1, .rw, 0, .imm⟩] }
  | .perfSampStat =>
    { block := .perf, base := 0x4E0014 }
  | .perfSampDrop =>
    { block := .perf, base := 0x4E0018,
      fields := [⟨0, 32, .rc, 0, .imm⟩] }
  | .perfCycLo =>
    { block := .perf, base := 0x4E1000, stride := 0x80, count := 16 }
  | .perfCycHi =>
    { block := .perf, base := 0x4E1004, stride := 0x80, count := 16 }
  | .perfCtl =>
    { block := .perf, base := 0x4E1008, stride := 0x80, count := 16,
      fields := [⟨0, 8, .wo, 0, .imm⟩, ⟨8, 8, .rc, 0, .imm⟩] }
  | .perfSel =>
    { block := .perf, base := 0x4E1010, stride := 0x80, count := 16, stride2 := 4, count2 := 2,
      fields := [⟨0, 32, .rw, 0, .imm⟩] }
  | .perfPcLo =>
    { block := .perf, base := 0x4E1020, stride := 0x80, count := 16, stride2 := 8, count2 := 8 }
  | .perfPcHi =>
    { block := .perf, base := 0x4E1024, stride := 0x80, count := 16, stride2 := 8, count2 := 8 }

/-- Every register, block by block. -/
def RegName.ofSys : List RegName :=
  [.sysId, .sysCap, .sysReady, .sysRst, .sysBootStat, .sysKey,
   .sysCommit, .sysApplyStat, .sysCfgerrCnt, .sysBadAccess]

def RegName.ofHif : List RegName :=
  [.hifGlbCtrl, .hifDrain, .hifDbBad, .hifEvtLost, .hifRxDisc, .hifHostStat,
   .hifRxMap, .hifRingBaseLo, .hifRingBaseHi, .hifRingSize, .hifRingCtrl, .hifRingStat,
   .hifRingIdx, .hifRingMod, .hifRingAborted]

def RegName.ofPwr : List RegName :=
  [.pwrReq, .pwrStat, .pwrTrimCfg0, .pwrTrimCfg1, .pwrCfg, .pwrWakeEn,
   .pwrWakeSrc, .pwrWakeTimer, .pwrPadHeld, .pwrPadRel, .pwrDomStat0, .pwrDomStat1,
   .pwrEngStat, .pwrForce, .pwrAborted, .pwrFailCnt]

def RegName.ofEvt : List RegName :=
  [.evtCfg, .evtCtrl, .evtStat, .evtSuppressed, .evtPinStat, .evtRoute]

def RegName.ofPers : List RegName :=
  [.persWord, .persStat]

def RegName.ofLane : List RegName :=
  [.laneCtrl, .laneStat, .lanePeak, .laneAdptCfg, .laneAdptStat, .laneQual,
   .laneTxEq, .laneHdrErr, .laneFecCorr, .laneFecUncorr, .laneExitCnt, .laneGrpMode,
   .laneGrpCtrl, .laneGrpStat, .laneGrpAborted]

def RegName.ofPort : List RegName :=
  [.portCfg, .portHold, .portSchedCap, .portExpress, .portTcMode, .portStat,
   .portDrrQuant, .portDeadlineExpired, .portHoldFlush, .portHoldResume, .portDownDisc, .portFlowNonconf,
   .portMtuDisc, .portPauseTx, .portPauseRx, .portIngOvf, .portResExpired]

def RegName.ofSw : List RegName :=
  [.swAssured, .swCanaryValid, .swReq, .swBoundRate, .swVsCtrl, .swVsStat,
   .swCond, .swFlowCnt, .swResCfg]

def RegName.ofBpm : List RegName :=
  [.bpmCfg, .bpmPCnt, .bpmPFree, .bpmPRsv, .bpmPStat, .bpmSharedFree,
   .bpmAlpha, .bpmAuditCfg, .bpmAuditStat, .bpmDoubleFreeCnt, .bpmForeignFreeCnt, .bpmLeakCnt,
   .bpmHrOvf, .bpmPoolEmptyCnt, .bpmPromoteCnt, .bpmHintMiss, .bpmMirrorSkip, .bpmRsvOver,
   .bpmHrTotal, .bpmQuota, .bpmHeadroom, .bpmUsed, .bpmReqStat]

def RegName.ofFdb : List RegName :=
  [.fdbCfg, .fdbAge, .fdbStat, .fdbVerStat, .fdbClsCfg, .fdbLearnCnt,
   .fdbLearnFail, .fdbLearnSkip, .fdbMoveCnt, .fdbStaticViol, .fdbAgedCnt, .fdbStateDisc,
   .fdbVlanDisc, .fdbMcEmpty, .fdbPtpDisc, .fdbPortCfg, .fdbMirCfg, .fdbMirCopies]

def RegName.ofTcore : List RegName :=
  [.tcoreCtrl, .tcoreStat, .tcoreSwap, .tcoreRate, .tcoreTrackErr, .tcoreClass,
   .tcoreClassOvr, .tcoreChStat, .tcoreMsgDrop, .tcoreOnestepSkip, .tcorePortTs, .tcorePortTstat]

def RegName.ofLnk : List RegName :=
  [.lnkCfg, .lnkActiveMap, .lnkPortCfg, .lnkAsymCoef, .lnkFixRt, .lnkFixAsym,
   .lnkStat, .lnkPhase, .lnkSnapErr, .lnkExchDrop, .lnkSlipCnt]

def RegName.ofRef : List RegName :=
  [.refCfg, .refQlCfg, .refPrefT, .refPrefF, .refTsel, .refFsel,
   .refStat, .refRetCfg, .refHoCfg, .refHoUnc0, .refHoUnc1, .refHoUnc2,
   .refHoErr, .refHoTime, .refBw0, .refBw1, .refBw2, .refMdlCfg,
   .refTempExt, .refSquelch, .refHoldoffCnt, .refCandCfg, .refCandStat, .refInCfg,
   .refInOfs]

def RegName.ofPll : List RegName :=
  [.pllRampStat, .pllCfg, .pllRatioN, .pllRatioNum, .pllRatioDen, .pllStat,
   .pllPhaseTgt, .pllLockCfg, .pllSrcCand, .pllCnt, .pllOutCfg, .pllOutDly,
   .pllPpsCfg, .pllPpsDly, .pllPpsLate]

def RegName.ofGnss : List RegName :=
  [.gnssCfg, .gnssStat, .gnssFeCfg, .gnssFeStat, .gnssIfL1, .gnssIfL5,
   .gnssAntDly, .gnssIfb, .gnssBurst, .gnssSolCfg, .gnssPosCfg, .gnssPosX,
   .gnssPosY, .gnssPosZ, .gnssSolStat, .gnssSectStat, .gnssSampleErr, .gnssLossCnt,
   .gnssSlipCnt, .gnssDetDrop, .gnssChCfg, .gnssChStat]

def RegName.ofTic : List RegName :=
  [.ticCfg, .ticStat, .ticChCfg, .ticChOfs, .ticChStat, .ticOrderCnt,
   .ticNearCnt, .ticTmoCnt]

def RegName.ofCal : List RegName :=
  [.calCfg, .calStat, .calThr0, .calThr1, .calValidTs, .calValidLane,
   .calValidTic, .calAbortCnt, .calStoreFail]

def RegName.ofEng : List RegName :=
  [.engCfg, .engStat, .engJfmt, .engSecVer, .engSpadPwr, .engSpadFw,
   .engSpadLost, .engSpadBankErr, .engTask, .engEStat, .engEVer, .engELoad,
   .engEAborted]

def RegName.ofPair : List RegName :=
  [.pairCfg, .pairId, .pairRole, .pairStat, .pairTenure, .pairTimeDiff,
   .pairInbPort, .pairInbMacLo, .pairInbMacHi, .pairOmdAsym, .pairHbMiss, .pairOmdErr,
   .pairMirOvf, .pairPromoteCnt]

def RegName.ofPerf : List RegName :=
  [.perfTagCfg, .perfUserEn, .perfTagStat, .perfTagDrop, .perfSampCfg, .perfSampStat,
   .perfSampDrop, .perfCycLo, .perfCycHi, .perfCtl, .perfSel, .perfPcLo,
   .perfPcHi]

/-- All registers of the map. -/
def RegName.all : List RegName :=
  RegName.ofSys ++ RegName.ofHif ++ RegName.ofPwr ++ RegName.ofEvt ++ RegName.ofPers ++
  RegName.ofLane ++ RegName.ofPort ++ RegName.ofSw ++ RegName.ofBpm ++ RegName.ofFdb ++
  RegName.ofTcore ++ RegName.ofLnk ++ RegName.ofRef ++ RegName.ofPll ++ RegName.ofGnss ++
  RegName.ofTic ++ RegName.ofCal ++ RegName.ofEng ++ RegName.ofPair ++ RegName.ofPerf

/-- A field reference: a register, the lowest bit and the width. -/
structure FieldRef where
  reg : RegName
  lo : Nat
  width : Nat
  deriving DecidableEq, Repr

/-! The fields of the register tables under the names of the spec: `Fld.<register>_<FIELD>`. -/

abbrev Fld.sysRst_PART : FieldRef := ⟨.sysRst, 0, 1⟩
abbrev Fld.sysRst_KEEP_TIME : FieldRef := ⟨.sysRst, 1, 1⟩
abbrev Fld.sysKey_KEY : FieldRef := ⟨.sysKey, 0, 32⟩
abbrev Fld.sysCommit_COMMIT : FieldRef := ⟨.sysCommit, 0, 1⟩
abbrev Fld.sysCommit_AT_SEC : FieldRef := ⟨.sysCommit, 1, 1⟩
abbrev Fld.sysCommit_DISCARD : FieldRef := ⟨.sysCommit, 2, 1⟩
abbrev Fld.sysApplyStat_OVF : FieldRef := ⟨.sysApplyStat, 31, 1⟩
abbrev Fld.sysBadAccess_VAL : FieldRef := ⟨.sysBadAccess, 0, 32⟩
abbrev Fld.hifGlbCtrl_EVT_RING : FieldRef := ⟨.hifGlbCtrl, 0, 3⟩
abbrev Fld.hifGlbCtrl_EVT_EN : FieldRef := ⟨.hifGlbCtrl, 3, 1⟩
abbrev Fld.hifGlbCtrl_BEACON_EN : FieldRef := ⟨.hifGlbCtrl, 4, 1⟩
abbrev Fld.hifGlbCtrl_FAULT_VEC : FieldRef := ⟨.hifGlbCtrl, 5, 6⟩
abbrev Fld.hifGlbCtrl_RX_FB_EN : FieldRef := ⟨.hifGlbCtrl, 11, 1⟩
abbrev Fld.hifGlbCtrl_RX_FB : FieldRef := ⟨.hifGlbCtrl, 12, 5⟩
abbrev Fld.hifGlbCtrl_RX_BANK : FieldRef := ⟨.hifGlbCtrl, 17, 1⟩
abbrev Fld.hifDrain_TX_US : FieldRef := ⟨.hifDrain, 0, 16⟩
abbrev Fld.hifDrain_CMD_MS : FieldRef := ⟨.hifDrain, 16, 16⟩
abbrev Fld.hifDbBad_VAL : FieldRef := ⟨.hifDbBad, 0, 32⟩
abbrev Fld.hifEvtLost_VAL : FieldRef := ⟨.hifEvtLost, 0, 32⟩
abbrev Fld.hifRxDisc_VAL : FieldRef := ⟨.hifRxDisc, 0, 32⟩
abbrev Fld.hifRxMap_BASE : FieldRef := ⟨.hifRxMap, 0, 5⟩
abbrev Fld.hifRxMap_SPREAD : FieldRef := ⟨.hifRxMap, 5, 2⟩
abbrev Fld.hifRingBaseLo_BASE : FieldRef := ⟨.hifRingBaseLo, 12, 20⟩
abbrev Fld.hifRingBaseHi_VAL : FieldRef := ⟨.hifRingBaseHi, 0, 32⟩
abbrev Fld.hifRingSize_LOG2 : FieldRef := ⟨.hifRingSize, 0, 4⟩
abbrev Fld.hifRingCtrl_EN : FieldRef := ⟨.hifRingCtrl, 0, 1⟩
abbrev Fld.hifRingCtrl_RST : FieldRef := ⟨.hifRingCtrl, 1, 1⟩
abbrev Fld.hifRingCtrl_CPL : FieldRef := ⟨.hifRingCtrl, 2, 3⟩
abbrev Fld.hifRingCtrl_VEC : FieldRef := ⟨.hifRingCtrl, 5, 6⟩
abbrev Fld.hifRingCtrl_WEIGHT : FieldRef := ⟨.hifRingCtrl, 11, 4⟩
abbrev Fld.hifRingMod_CNT : FieldRef := ⟨.hifRingMod, 0, 8⟩
abbrev Fld.hifRingMod_USEC : FieldRef := ⟨.hifRingMod, 8, 10⟩
abbrev Fld.hifRingMod_SEV : FieldRef := ⟨.hifRingMod, 18, 3⟩
abbrev Fld.hifRingAborted_VAL : FieldRef := ⟨.hifRingAborted, 0, 32⟩
abbrev Fld.pwrReq_TARGET : FieldRef := ⟨.pwrReq, 0, 2⟩
abbrev Fld.pwrTrimCfg0_LANE_GRP : FieldRef := ⟨.pwrTrimCfg0, 0, 12⟩
abbrev Fld.pwrTrimCfg0_GNSS : FieldRef := ⟨.pwrTrimCfg0, 12, 1⟩
abbrev Fld.pwrTrimCfg0_TIC : FieldRef := ⟨.pwrTrimCfg0, 13, 1⟩
abbrev Fld.pwrTrimCfg0_OFF_SEL : FieldRef := ⟨.pwrTrimCfg0, 14, 1⟩
abbrev Fld.pwrTrimCfg0_ENG_FORCE : FieldRef := ⟨.pwrTrimCfg0, 15, 1⟩
abbrev Fld.pwrTrimCfg0_ENG : FieldRef := ⟨.pwrTrimCfg0, 16, 16⟩
abbrev Fld.pwrTrimCfg1_BANKS : FieldRef := ⟨.pwrTrimCfg1, 0, 32⟩
abbrev Fld.pwrCfg_DRAIN_MS : FieldRef := ⟨.pwrCfg, 0, 10⟩
abbrev Fld.pwrCfg_WAKE_TGT : FieldRef := ⟨.pwrCfg, 16, 1⟩
abbrev Fld.pwrWakeEn_VAL : FieldRef := ⟨.pwrWakeEn, 0, 5⟩
abbrev Fld.pwrWakeSrc_VAL : FieldRef := ⟨.pwrWakeSrc, 0, 5⟩
abbrev Fld.pwrWakeTimer_VAL : FieldRef := ⟨.pwrWakeTimer, 0, 32⟩
abbrev Fld.pwrPadRel_VAL : FieldRef := ⟨.pwrPadRel, 0, 17⟩
abbrev Fld.pwrForce_TARGET : FieldRef := ⟨.pwrForce, 0, 2⟩
abbrev Fld.pwrForce_GO : FieldRef := ⟨.pwrForce, 2, 1⟩
abbrev Fld.pwrAborted_VAL : FieldRef := ⟨.pwrAborted, 0, 32⟩
abbrev Fld.pwrFailCnt_VAL : FieldRef := ⟨.pwrFailCnt, 0, 32⟩
abbrev Fld.evtCfg_FAULT_SEV : FieldRef := ⟨.evtCfg, 0, 3⟩
abbrev Fld.evtCfg_RATE : FieldRef := ⟨.evtCfg, 8, 8⟩
abbrev Fld.evtCtrl_FAULT_CLR : FieldRef := ⟨.evtCtrl, 0, 1⟩
abbrev Fld.evtCtrl_FIRST_CLR : FieldRef := ⟨.evtCtrl, 1, 1⟩
abbrev Fld.evtCtrl_LOG_CLR : FieldRef := ⟨.evtCtrl, 2, 1⟩
abbrev Fld.evtSuppressed_VAL : FieldRef := ⟨.evtSuppressed, 0, 32⟩
abbrev Fld.evtPinStat_VAL : FieldRef := ⟨.evtPinStat, 0, 32⟩
abbrev Fld.evtRoute_RING : FieldRef := ⟨.evtRoute, 0, 3⟩
abbrev Fld.evtRoute_OVR : FieldRef := ⟨.evtRoute, 3, 1⟩
abbrev Fld.evtRoute_MIN_SEV : FieldRef := ⟨.evtRoute, 4, 3⟩
abbrev Fld.evtRoute_PIN_SEV : FieldRef := ⟨.evtRoute, 8, 3⟩
abbrev Fld.persWord_VAL : FieldRef := ⟨.persWord, 0, 32⟩
abbrev Fld.laneCtrl_RETRAIN : FieldRef := ⟨.laneCtrl, 0, 1⟩
abbrev Fld.laneCtrl_TX_SQUELCH : FieldRef := ⟨.laneCtrl, 1, 1⟩
abbrev Fld.laneCtrl_ADPT_EN : FieldRef := ⟨.laneCtrl, 2, 1⟩
abbrev Fld.laneCtrl_RX_INV : FieldRef := ⟨.laneCtrl, 3, 1⟩
abbrev Fld.laneCtrl_TX_INV : FieldRef := ⟨.laneCtrl, 4, 1⟩
abbrev Fld.laneCtrl_REF_EN : FieldRef := ⟨.laneCtrl, 5, 1⟩
abbrev Fld.lanePeak_FORCE : FieldRef := ⟨.lanePeak, 16, 5⟩
abbrev Fld.lanePeak_FORCE_EN : FieldRef := ⟨.lanePeak, 24, 1⟩
abbrev Fld.laneAdptCfg_TD_MIN : FieldRef := ⟨.laneAdptCfg, 0, 6⟩
abbrev Fld.laneAdptCfg_DIV_MIN : FieldRef := ⟨.laneAdptCfg, 8, 8⟩
abbrev Fld.laneAdptCfg_FAST_MAX : FieldRef := ⟨.laneAdptCfg, 16, 8⟩
abbrev Fld.laneAdptCfg_QUAL_EVT : FieldRef := ⟨.laneAdptCfg, 24, 1⟩
abbrev Fld.laneAdptStat_LIMIT_HIT : FieldRef := ⟨.laneAdptStat, 4, 1⟩
abbrev Fld.laneAdptStat_STEPS : FieldRef := ⟨.laneAdptStat, 8, 8⟩
abbrev Fld.laneTxEq_PRE : FieldRef := ⟨.laneTxEq, 0, 4⟩
abbrev Fld.laneTxEq_MAIN : FieldRef := ⟨.laneTxEq, 4, 6⟩
abbrev Fld.laneTxEq_POST : FieldRef := ⟨.laneTxEq, 10, 5⟩
abbrev Fld.laneHdrErr_VAL : FieldRef := ⟨.laneHdrErr, 0, 32⟩
abbrev Fld.laneFecCorr_VAL : FieldRef := ⟨.laneFecCorr, 0, 32⟩
abbrev Fld.laneFecUncorr_VAL : FieldRef := ⟨.laneFecUncorr, 0, 32⟩
abbrev Fld.laneExitCnt_EXITS : FieldRef := ⟨.laneExitCnt, 0, 8⟩
abbrev Fld.laneExitCnt_FAILS : FieldRef := ⟨.laneExitCnt, 8, 8⟩
abbrev Fld.laneExitCnt_RETRAINS : FieldRef := ⟨.laneExitCnt, 16, 8⟩
abbrev Fld.laneGrpMode_Q0_MODE : FieldRef := ⟨.laneGrpMode, 0, 3⟩
abbrev Fld.laneGrpMode_Q0_FEC : FieldRef := ⟨.laneGrpMode, 3, 2⟩
abbrev Fld.laneGrpMode_Q1_MODE : FieldRef := ⟨.laneGrpMode, 8, 3⟩
abbrev Fld.laneGrpMode_Q1_FEC : FieldRef := ⟨.laneGrpMode, 11, 2⟩
abbrev Fld.laneGrpCtrl_REMOVE : FieldRef := ⟨.laneGrpCtrl, 0, 1⟩
abbrev Fld.laneGrpCtrl_RETURN : FieldRef := ⟨.laneGrpCtrl, 1, 1⟩
abbrev Fld.laneGrpCtrl_PWR_OFF : FieldRef := ⟨.laneGrpCtrl, 2, 1⟩
abbrev Fld.laneGrpCtrl_DRAIN_MS : FieldRef := ⟨.laneGrpCtrl, 8, 8⟩
abbrev Fld.laneGrpAborted_VAL : FieldRef := ⟨.laneGrpAborted, 0, 32⟩
abbrev Fld.portCfg_FC_MODE : FieldRef := ⟨.portCfg, 0, 2⟩
abbrev Fld.portCfg_PREEMPT_EN : FieldRef := ⟨.portCfg, 2, 1⟩
abbrev Fld.portCfg_ADD_FRAG : FieldRef := ⟨.portCfg, 3, 2⟩
abbrev Fld.portCfg_VERIFY_EN : FieldRef := ⟨.portCfg, 5, 1⟩
abbrev Fld.portCfg_SCHED_PCP : FieldRef := ⟨.portCfg, 8, 3⟩
abbrev Fld.portCfg_MTU : FieldRef := ⟨.portCfg, 16, 14⟩
abbrev Fld.portHold_MS : FieldRef := ⟨.portHold, 0, 10⟩
abbrev Fld.portSchedCap_BURST : FieldRef := ⟨.portSchedCap, 0, 16⟩
abbrev Fld.portSchedCap_UTIL : FieldRef := ⟨.portSchedCap, 16, 7⟩
abbrev Fld.portExpress_VAL : FieldRef := ⟨.portExpress, 0, 8⟩
abbrev Fld.portTcMode_VAL : FieldRef := ⟨.portTcMode, 0, 8⟩
abbrev Fld.portDrrQuant_VAL : FieldRef := ⟨.portDrrQuant, 0, 14⟩
abbrev Fld.portDeadlineExpired_VAL : FieldRef := ⟨.portDeadlineExpired, 0, 32⟩
abbrev Fld.portHoldFlush_VAL : FieldRef := ⟨.portHoldFlush, 0, 32⟩
abbrev Fld.portHoldResume_VAL : FieldRef := ⟨.portHoldResume, 0, 32⟩
abbrev Fld.portDownDisc_VAL : FieldRef := ⟨.portDownDisc, 0, 32⟩
abbrev Fld.portFlowNonconf_VAL : FieldRef := ⟨.portFlowNonconf, 0, 32⟩
abbrev Fld.portMtuDisc_VAL : FieldRef := ⟨.portMtuDisc, 0, 32⟩
abbrev Fld.portPauseTx_VAL : FieldRef := ⟨.portPauseTx, 0, 32⟩
abbrev Fld.portPauseRx_VAL : FieldRef := ⟨.portPauseRx, 0, 32⟩
abbrev Fld.portIngOvf_VAL : FieldRef := ⟨.portIngOvf, 0, 32⟩
abbrev Fld.portResExpired_VAL : FieldRef := ⟨.portResExpired, 0, 32⟩
abbrev Fld.swBoundRate_RATE : FieldRef := ⟨.swBoundRate, 0, 16⟩
abbrev Fld.swVsCtrl_EN : FieldRef := ⟨.swVsCtrl, 0, 1⟩
abbrev Fld.swVsCtrl_MARGIN : FieldRef := ⟨.swVsCtrl, 8, 5⟩
abbrev Fld.swVsCtrl_STEP_MV : FieldRef := ⟨.swVsCtrl, 16, 4⟩
abbrev Fld.swVsCtrl_VMIN : FieldRef := ⟨.swVsCtrl, 20, 12⟩
abbrev Fld.swResCfg_RES_MAX_MS : FieldRef := ⟨.swResCfg, 0, 12⟩
abbrev Fld.bpmCfg_RSV_PCT : FieldRef := ⟨.bpmCfg, 0, 7⟩
abbrev Fld.bpmCfg_HINT_EN : FieldRef := ⟨.bpmCfg, 7, 1⟩
abbrev Fld.bpmCfg_PROMOTE_EN : FieldRef := ⟨.bpmCfg, 8, 1⟩
abbrev Fld.bpmAlpha_A0 : FieldRef := ⟨.bpmAlpha, 0, 3⟩
abbrev Fld.bpmAlpha_A1 : FieldRef := ⟨.bpmAlpha, 3, 3⟩
abbrev Fld.bpmAlpha_A2 : FieldRef := ⟨.bpmAlpha, 6, 3⟩
abbrev Fld.bpmAlpha_A3 : FieldRef := ⟨.bpmAlpha, 9, 3⟩
abbrev Fld.bpmAlpha_A4 : FieldRef := ⟨.bpmAlpha, 12, 3⟩
abbrev Fld.bpmAlpha_A5 : FieldRef := ⟨.bpmAlpha, 15, 3⟩
abbrev Fld.bpmAlpha_A6 : FieldRef := ⟨.bpmAlpha, 18, 3⟩
abbrev Fld.bpmAlpha_A7 : FieldRef := ⟨.bpmAlpha, 21, 3⟩
abbrev Fld.bpmAuditCfg_EN : FieldRef := ⟨.bpmAuditCfg, 0, 1⟩
abbrev Fld.bpmAuditCfg_RECLAIM : FieldRef := ⟨.bpmAuditCfg, 1, 1⟩
abbrev Fld.bpmAuditCfg_RATE_64 : FieldRef := ⟨.bpmAuditCfg, 4, 12⟩
abbrev Fld.bpmDoubleFreeCnt_VAL : FieldRef := ⟨.bpmDoubleFreeCnt, 0, 32⟩
abbrev Fld.bpmForeignFreeCnt_VAL : FieldRef := ⟨.bpmForeignFreeCnt, 0, 32⟩
abbrev Fld.bpmLeakCnt_VAL : FieldRef := ⟨.bpmLeakCnt, 0, 32⟩
abbrev Fld.bpmHrOvf_VAL : FieldRef := ⟨.bpmHrOvf, 0, 32⟩
abbrev Fld.bpmPoolEmptyCnt_VAL : FieldRef := ⟨.bpmPoolEmptyCnt, 0, 32⟩
abbrev Fld.bpmPromoteCnt_VAL : FieldRef := ⟨.bpmPromoteCnt, 0, 32⟩
abbrev Fld.bpmHintMiss_VAL : FieldRef := ⟨.bpmHintMiss, 0, 32⟩
abbrev Fld.bpmMirrorSkip_VAL : FieldRef := ⟨.bpmMirrorSkip, 0, 32⟩
abbrev Fld.bpmRsvOver_VAL : FieldRef := ⟨.bpmRsvOver, 0, 32⟩
abbrev Fld.bpmQuota_LIMIT : FieldRef := ⟨.bpmQuota, 0, 19⟩
abbrev Fld.bpmHeadroom_UNITS : FieldRef := ⟨.bpmHeadroom, 0, 10⟩
abbrev Fld.fdbCfg_LEARN_EN : FieldRef := ⟨.fdbCfg, 0, 1⟩
abbrev Fld.fdbCfg_MOVE_EN : FieldRef := ⟨.fdbCfg, 1, 1⟩
abbrev Fld.fdbAge_AGE_S : FieldRef := ⟨.fdbAge, 0, 16⟩
abbrev Fld.fdbClsCfg_ECPRI_UDP : FieldRef := ⟨.fdbClsCfg, 0, 16⟩
abbrev Fld.fdbClsCfg_PTP_UNBOUND : FieldRef := ⟨.fdbClsCfg, 16, 2⟩
abbrev Fld.fdbLearnCnt_VAL : FieldRef := ⟨.fdbLearnCnt, 0, 32⟩
abbrev Fld.fdbLearnFail_VAL : FieldRef := ⟨.fdbLearnFail, 0, 32⟩
abbrev Fld.fdbLearnSkip_VAL : FieldRef := ⟨.fdbLearnSkip, 0, 32⟩
abbrev Fld.fdbMoveCnt_VAL : FieldRef := ⟨.fdbMoveCnt, 0, 32⟩
abbrev Fld.fdbStaticViol_VAL : FieldRef := ⟨.fdbStaticViol, 0, 32⟩
abbrev Fld.fdbAgedCnt_VAL : FieldRef := ⟨.fdbAgedCnt, 0, 32⟩
abbrev Fld.fdbStateDisc_VAL : FieldRef := ⟨.fdbStateDisc, 0, 32⟩
abbrev Fld.fdbVlanDisc_VAL : FieldRef := ⟨.fdbVlanDisc, 0, 32⟩
abbrev Fld.fdbMcEmpty_VAL : FieldRef := ⟨.fdbMcEmpty, 0, 32⟩
abbrev Fld.fdbPtpDisc_VAL : FieldRef := ⟨.fdbPtpDisc, 0, 32⟩
abbrev Fld.fdbPortCfg_STATE : FieldRef := ⟨.fdbPortCfg, 0, 2⟩
abbrev Fld.fdbPortCfg_LEARN : FieldRef := ⟨.fdbPortCfg, 2, 1⟩
abbrev Fld.fdbPortCfg_ORAN : FieldRef := ⟨.fdbPortCfg, 3, 1⟩
abbrev Fld.fdbPortCfg_UNK_FLOOD : FieldRef := ⟨.fdbPortCfg, 4, 1⟩
abbrev Fld.fdbPortCfg_PVID : FieldRef := ⟨.fdbPortCfg, 8, 12⟩
abbrev Fld.fdbMirCfg_TC : FieldRef := ⟨.fdbMirCfg, 0, 3⟩
abbrev Fld.fdbMirCfg_TC_OVR : FieldRef := ⟨.fdbMirCfg, 3, 1⟩
abbrev Fld.fdbMirCopies_VAL : FieldRef := ⟨.fdbMirCopies, 0, 32⟩
abbrev Fld.tcoreCtrl_SERVO_EN : FieldRef := ⟨.tcoreCtrl, 0, 1⟩
abbrev Fld.tcoreCtrl_AUTO_STEP : FieldRef := ⟨.tcoreCtrl, 1, 1⟩
abbrev Fld.tcoreCtrl_TC_EN : FieldRef := ⟨.tcoreCtrl, 2, 1⟩
abbrev Fld.tcoreCtrl_CLOCK_TYPE : FieldRef := ⟨.tcoreCtrl, 3, 2⟩
abbrev Fld.tcoreCtrl_CLASS_OVR_EN : FieldRef := ⟨.tcoreCtrl, 5, 1⟩
abbrev Fld.tcoreCtrl_LOCK_NS : FieldRef := ⟨.tcoreCtrl, 8, 8⟩
abbrev Fld.tcoreSwap_REQ : FieldRef := ⟨.tcoreSwap, 0, 1⟩
abbrev Fld.tcoreSwap_CANCEL : FieldRef := ⟨.tcoreSwap, 1, 1⟩
abbrev Fld.tcoreSwap_STBY_OUT : FieldRef := ⟨.tcoreSwap, 2, 1⟩
abbrev Fld.tcoreSwap_STBY_IN : FieldRef := ⟨.tcoreSwap, 3, 1⟩
abbrev Fld.tcoreRate_VAL : FieldRef := ⟨.tcoreRate, 0, 32⟩
abbrev Fld.tcoreClassOvr_CLASS : FieldRef := ⟨.tcoreClassOvr, 0, 8⟩
abbrev Fld.tcoreClassOvr_ACC : FieldRef := ⟨.tcoreClassOvr, 8, 8⟩
abbrev Fld.tcoreClassOvr_VAR : FieldRef := ⟨.tcoreClassOvr, 16, 16⟩
abbrev Fld.tcoreMsgDrop_VAL : FieldRef := ⟨.tcoreMsgDrop, 0, 32⟩
abbrev Fld.tcoreOnestepSkip_VAL : FieldRef := ⟨.tcoreOnestepSkip, 0, 32⟩
abbrev Fld.tcorePortTs_BOARD_RX : FieldRef := ⟨.tcorePortTs, 0, 16⟩
abbrev Fld.tcorePortTs_BOARD_TX : FieldRef := ⟨.tcorePortTs, 16, 16⟩
abbrev Fld.lnkCfg_SOLVE_N : FieldRef := ⟨.lnkCfg, 0, 8⟩
abbrev Fld.lnkCfg_RTT_TOL : FieldRef := ⟨.lnkCfg, 8, 8⟩
abbrev Fld.lnkCfg_HOLD_S : FieldRef := ⟨.lnkCfg, 16, 16⟩
abbrev Fld.lnkPortCfg_EN : FieldRef := ⟨.lnkPortCfg, 0, 1⟩
abbrev Fld.lnkPortCfg_MODE : FieldRef := ⟨.lnkPortCfg, 1, 2⟩
abbrev Fld.lnkPortCfg_PAIR : FieldRef := ⟨.lnkPortCfg, 8, 7⟩
abbrev Fld.lnkAsymCoef_VAL : FieldRef := ⟨.lnkAsymCoef, 0, 32⟩
abbrev Fld.lnkFixRt_VAL : FieldRef := ⟨.lnkFixRt, 0, 24⟩
abbrev Fld.lnkFixAsym_VAL : FieldRef := ⟨.lnkFixAsym, 0, 16⟩
abbrev Fld.lnkSnapErr_VAL : FieldRef := ⟨.lnkSnapErr, 0, 32⟩
abbrev Fld.lnkExchDrop_VAL : FieldRef := ⟨.lnkExchDrop, 0, 32⟩
abbrev Fld.lnkSlipCnt_VAL : FieldRef := ⟨.lnkSlipCnt, 0, 32⟩
abbrev Fld.refCfg_HOLDOFF_MS : FieldRef := ⟨.refCfg, 0, 12⟩
abbrev Fld.refCfg_REVERT : FieldRef := ⟨.refCfg, 12, 1⟩
abbrev Fld.refCfg_WTR_S : FieldRef := ⟨.refCfg, 16, 12⟩
abbrev Fld.refQlCfg_T_QL_MIN : FieldRef := ⟨.refQlCfg, 0, 4⟩
abbrev Fld.refQlCfg_F_QL_MIN : FieldRef := ⟨.refQlCfg, 4, 4⟩
abbrev Fld.refQlCfg_QUAL_S : FieldRef := ⟨.refQlCfg, 8, 8⟩
abbrev Fld.refQlCfg_LEARN_QL : FieldRef := ⟨.refQlCfg, 16, 4⟩
abbrev Fld.refPrefT_VAL : FieldRef := ⟨.refPrefT, 0, 32⟩
abbrev Fld.refPrefF_VAL : FieldRef := ⟨.refPrefF, 0, 32⟩
abbrev Fld.refRetCfg_PHASE_STEP_LIMIT : FieldRef := ⟨.refRetCfg, 0, 16⟩
abbrev Fld.refRetCfg_THAW_RATE : FieldRef := ⟨.refRetCfg, 16, 10⟩
abbrev Fld.refRetCfg_SLEW_BIG : FieldRef := ⟨.refRetCfg, 26, 1⟩
abbrev Fld.refHoCfg_EARLY_S : FieldRef := ⟨.refHoCfg, 0, 9⟩
abbrev Fld.refHoCfg_ENTRY_NS : FieldRef := ⟨.refHoCfg, 9, 7⟩
abbrev Fld.refHoCfg_BUDGET : FieldRef := ⟨.refHoCfg, 16, 16⟩
abbrev Fld.refHoUnc0_U_F : FieldRef := ⟨.refHoUnc0, 0, 16⟩
abbrev Fld.refHoUnc0_U_A : FieldRef := ⟨.refHoUnc0, 16, 16⟩
abbrev Fld.refHoUnc1_U_TN : FieldRef := ⟨.refHoUnc1, 0, 16⟩
abbrev Fld.refHoUnc1_U_TX : FieldRef := ⟨.refHoUnc1, 16, 16⟩
abbrev Fld.refHoUnc2_U_ASSIST : FieldRef := ⟨.refHoUnc2, 0, 16⟩
abbrev Fld.refBw0_LINE : FieldRef := ⟨.refBw0, 0, 16⟩
abbrev Fld.refBw0_PTP : FieldRef := ⟨.refBw0, 16, 16⟩
abbrev Fld.refBw1_SAT : FieldRef := ⟨.refBw1, 0, 16⟩
abbrev Fld.refBw1_EXT : FieldRef := ⟨.refBw1, 16, 16⟩
abbrev Fld.refBw2_PPS : FieldRef := ⟨.refBw2, 0, 16⟩
abbrev Fld.refMdlCfg_T0 : FieldRef := ⟨.refMdlCfg, 0, 8⟩
abbrev Fld.refMdlCfg_STEP : FieldRef := ⟨.refMdlCfg, 8, 8⟩
abbrev Fld.refMdlCfg_TEMP_SRC : FieldRef := ⟨.refMdlCfg, 16, 1⟩
abbrev Fld.refMdlCfg_LEARN_EN : FieldRef := ⟨.refMdlCfg, 17, 1⟩
abbrev Fld.refTempExt_VAL : FieldRef := ⟨.refTempExt, 0, 16⟩
abbrev Fld.refSquelch_PPS0 : FieldRef := ⟨.refSquelch, 0, 2⟩
abbrev Fld.refSquelch_PPS1 : FieldRef := ⟨.refSquelch, 2, 2⟩
abbrev Fld.refHoldoffCnt_VAL : FieldRef := ⟨.refHoldoffCnt, 0, 32⟩
abbrev Fld.refCandCfg_EN : FieldRef := ⟨.refCandCfg, 0, 1⟩
abbrev Fld.refCandCfg_QL_OVR_EN : FieldRef := ⟨.refCandCfg, 1, 1⟩
abbrev Fld.refCandCfg_QL_OVR : FieldRef := ⟨.refCandCfg, 4, 4⟩
abbrev Fld.refCandCfg_PRIO : FieldRef := ⟨.refCandCfg, 8, 4⟩
abbrev Fld.refInCfg_FREQ : FieldRef := ⟨.refInCfg, 0, 2⟩
abbrev Fld.refInOfs_VAL : FieldRef := ⟨.refInOfs, 0, 32⟩
abbrev Fld.pllCfg_SRC : FieldRef := ⟨.pllCfg, 0, 2⟩
abbrev Fld.pllCfg_BW : FieldRef := ⟨.pllCfg, 2, 5⟩
abbrev Fld.pllCfg_DAMP : FieldRef := ⟨.pllCfg, 7, 2⟩
abbrev Fld.pllCfg_AUTO_RET : FieldRef := ⟨.pllCfg, 9, 1⟩
abbrev Fld.pllCfg_EN : FieldRef := ⟨.pllCfg, 10, 1⟩
abbrev Fld.pllRatioN_N : FieldRef := ⟨.pllRatioN, 0, 9⟩
abbrev Fld.pllRatioNum_NUM : FieldRef := ⟨.pllRatioNum, 0, 24⟩
abbrev Fld.pllRatioDen_DEN : FieldRef := ⟨.pllRatioDen, 0, 24⟩
abbrev Fld.pllPhaseTgt_VAL : FieldRef := ⟨.pllPhaseTgt, 0, 16⟩
abbrev Fld.pllLockCfg_LOCK_PS : FieldRef := ⟨.pllLockCfg, 0, 8⟩
abbrev Fld.pllLockCfg_UNLOCK_PS : FieldRef := ⟨.pllLockCfg, 8, 8⟩
abbrev Fld.pllLockCfg_RET_MS : FieldRef := ⟨.pllLockCfg, 16, 16⟩
abbrev Fld.pllSrcCand_VAL : FieldRef := ⟨.pllSrcCand, 0, 32⟩
abbrev Fld.pllCnt_BYP : FieldRef := ⟨.pllCnt, 0, 16⟩
abbrev Fld.pllCnt_UNLOCK : FieldRef := ⟨.pllCnt, 16, 16⟩
abbrev Fld.pllOutCfg_EN : FieldRef := ⟨.pllOutCfg, 0, 1⟩
abbrev Fld.pllOutCfg_SRC_PLL : FieldRef := ⟨.pllOutCfg, 1, 1⟩
abbrev Fld.pllOutCfg_ALIGN : FieldRef := ⟨.pllOutCfg, 2, 1⟩
abbrev Fld.pllOutCfg_DIV : FieldRef := ⟨.pllOutCfg, 4, 12⟩
abbrev Fld.pllOutCfg_DLY_CYC : FieldRef := ⟨.pllOutCfg, 16, 8⟩
abbrev Fld.pllOutDly_DLY_FINE : FieldRef := ⟨.pllOutDly, 0, 10⟩
abbrev Fld.pllPpsCfg_EN : FieldRef := ⟨.pllPpsCfg, 0, 1⟩
abbrev Fld.pllPpsCfg_WIDTH_US : FieldRef := ⟨.pllPpsCfg, 1, 19⟩
abbrev Fld.pllPpsCfg_DLY_PS : FieldRef := ⟨.pllPpsCfg, 20, 10⟩
abbrev Fld.pllPpsDly_DLY_NS : FieldRef := ⟨.pllPpsDly, 0, 32⟩
abbrev Fld.pllPpsLate_VAL : FieldRef := ⟨.pllPpsLate, 0, 32⟩
abbrev Fld.gnssCfg_TRACK_MODE : FieldRef := ⟨.gnssCfg, 0, 2⟩
abbrev Fld.gnssCfg_AUTO_ACQ : FieldRef := ⟨.gnssCfg, 2, 1⟩
abbrev Fld.gnssCfg_AUTO_TRACK : FieldRef := ⟨.gnssCfg, 3, 1⟩
abbrev Fld.gnssCfg_GPS_EN : FieldRef := ⟨.gnssCfg, 4, 1⟩
abbrev Fld.gnssCfg_GAL_EN : FieldRef := ⟨.gnssCfg, 5, 1⟩
abbrev Fld.gnssCfg_L5_EN : FieldRef := ⟨.gnssCfg, 6, 1⟩
abbrev Fld.gnssCfg_ION_SF : FieldRef := ⟨.gnssCfg, 7, 1⟩
abbrev Fld.gnssCfg_EPOCH : FieldRef := ⟨.gnssCfg, 8, 2⟩
abbrev Fld.gnssFeCfg_L1_FMT : FieldRef := ⟨.gnssFeCfg, 0, 1⟩
abbrev Fld.gnssFeCfg_L5_FMT : FieldRef := ⟨.gnssFeCfg, 1, 1⟩
abbrev Fld.gnssFeCfg_L1_IQ_SWAP : FieldRef := ⟨.gnssFeCfg, 2, 1⟩
abbrev Fld.gnssFeCfg_L5_IQ_SWAP : FieldRef := ⟨.gnssFeCfg, 3, 1⟩
abbrev Fld.gnssFeCfg_L1_Q_INV : FieldRef := ⟨.gnssFeCfg, 4, 1⟩
abbrev Fld.gnssFeCfg_L5_Q_INV : FieldRef := ⟨.gnssFeCfg, 5, 1⟩
abbrev Fld.gnssFeCfg_RF_EN_POL : FieldRef := ⟨.gnssFeCfg, 6, 1⟩
abbrev Fld.gnssIfL1_VAL : FieldRef := ⟨.gnssIfL1, 0, 24⟩
abbrev Fld.gnssIfL5_VAL : FieldRef := ⟨.gnssIfL5, 0, 24⟩
abbrev Fld.gnssAntDly_VAL : FieldRef := ⟨.gnssAntDly, 0, 32⟩
abbrev Fld.gnssIfb_VAL : FieldRef := ⟨.gnssIfb, 0, 16⟩
abbrev Fld.gnssBurst_OFS_MS : FieldRef := ⟨.gnssBurst, 0, 10⟩
abbrev Fld.gnssBurst_RF_LEAD_MS : FieldRef := ⟨.gnssBurst, 16, 8⟩
abbrev Fld.gnssBurst_RF_GATE : FieldRef := ⟨.gnssBurst, 24, 1⟩
abbrev Fld.gnssSolCfg_MIN_SV : FieldRef := ⟨.gnssSolCfg, 0, 4⟩
abbrev Fld.gnssSolCfg_RES_MAX : FieldRef := ⟨.gnssSolCfg, 8, 8⟩
abbrev Fld.gnssSolCfg_ELEV_MASK : FieldRef := ⟨.gnssSolCfg, 16, 7⟩
abbrev Fld.gnssSolCfg_CN0_MIN : FieldRef := ⟨.gnssSolCfg, 24, 6⟩
abbrev Fld.gnssPosCfg_POS_MODE : FieldRef := ⟨.gnssPosCfg, 0, 2⟩
abbrev Fld.gnssPosCfg_SURVEY_MIN : FieldRef := ⟨.gnssPosCfg, 8, 12⟩
abbrev Fld.gnssPosCfg_SURVEY_CM : FieldRef := ⟨.gnssPosCfg, 20, 12⟩
abbrev Fld.gnssPosX_VAL : FieldRef := ⟨.gnssPosX, 0, 32⟩
abbrev Fld.gnssPosY_VAL : FieldRef := ⟨.gnssPosY, 0, 32⟩
abbrev Fld.gnssPosZ_VAL : FieldRef := ⟨.gnssPosZ, 0, 32⟩
abbrev Fld.gnssSampleErr_VAL : FieldRef := ⟨.gnssSampleErr, 0, 32⟩
abbrev Fld.gnssLossCnt_VAL : FieldRef := ⟨.gnssLossCnt, 0, 32⟩
abbrev Fld.gnssSlipCnt_VAL : FieldRef := ⟨.gnssSlipCnt, 0, 32⟩
abbrev Fld.gnssDetDrop_VAL : FieldRef := ⟨.gnssDetDrop, 0, 32⟩
abbrev Fld.gnssChCfg_SVID : FieldRef := ⟨.gnssChCfg, 0, 8⟩
abbrev Fld.gnssChCfg_SYSTEM : FieldRef := ⟨.gnssChCfg, 8, 1⟩
abbrev Fld.gnssChCfg_MANUAL : FieldRef := ⟨.gnssChCfg, 9, 1⟩
abbrev Fld.gnssChCfg_EN : FieldRef := ⟨.gnssChCfg, 10, 1⟩
abbrev Fld.gnssChCfg_DLL_BW : FieldRef := ⟨.gnssChCfg, 16, 8⟩
abbrev Fld.gnssChCfg_PLL_BW : FieldRef := ⟨.gnssChCfg, 24, 8⟩
abbrev Fld.ticCfg_TB_EN : FieldRef := ⟨.ticCfg, 0, 1⟩
abbrev Fld.ticCfg_TB_FREQ : FieldRef := ⟨.ticCfg, 1, 2⟩
abbrev Fld.ticChCfg_PAIR : FieldRef := ⟨.ticChCfg, 0, 1⟩
abbrev Fld.ticChCfg_GATE_SEL : FieldRef := ⟨.ticChCfg, 1, 1⟩
abbrev Fld.ticChCfg_TIMEOUT_MS : FieldRef := ⟨.ticChCfg, 16, 16⟩
abbrev Fld.ticChOfs_VAL : FieldRef := ⟨.ticChOfs, 0, 32⟩
abbrev Fld.ticOrderCnt_VAL : FieldRef := ⟨.ticOrderCnt, 0, 32⟩
abbrev Fld.ticNearCnt_VAL : FieldRef := ⟨.ticNearCnt, 0, 32⟩
abbrev Fld.ticTmoCnt_VAL : FieldRef := ⟨.ticTmoCnt, 0, 32⟩
abbrev Fld.calCfg_AUTO_STORE : FieldRef := ⟨.calCfg, 0, 1⟩
abbrev Fld.calCfg_RESTORE_EN : FieldRef := ⟨.calCfg, 1, 1⟩
abbrev Fld.calCfg_STORE_MIN : FieldRef := ⟨.calCfg, 8, 8⟩
abbrev Fld.calThr0_LANE_EYE : FieldRef := ⟨.calThr0, 0, 8⟩
abbrev Fld.calThr0_TS_RMS : FieldRef := ⟨.calThr0, 8, 8⟩
abbrev Fld.calThr0_TIC_INL : FieldRef := ⟨.calThr0, 16, 8⟩
abbrev Fld.calThr0_LNK_SIG : FieldRef := ⟨.calThr0, 24, 8⟩
abbrev Fld.calThr1_GNSS_RMS : FieldRef := ⟨.calThr1, 0, 16⟩
abbrev Fld.calAbortCnt_VAL : FieldRef := ⟨.calAbortCnt, 0, 32⟩
abbrev Fld.calStoreFail_VAL : FieldRef := ⟨.calStoreFail, 0, 32⟩
abbrev Fld.engCfg_WDOG_US : FieldRef := ⟨.engCfg, 0, 16⟩
abbrev Fld.engCfg_AUTO_RELOAD : FieldRef := ⟨.engCfg, 16, 1⟩
abbrev Fld.engSpadPwr_VAL : FieldRef := ⟨.engSpadPwr, 0, 32⟩
abbrev Fld.engSpadLost_VAL : FieldRef := ⟨.engSpadLost, 0, 32⟩
abbrev Fld.engSpadBankErr_VAL : FieldRef := ⟨.engSpadBankErr, 0, 32⟩
abbrev Fld.engEAborted_VAL : FieldRef := ⟨.engEAborted, 0, 32⟩
abbrev Fld.pairCfg_EN : FieldRef := ⟨.pairCfg, 0, 1⟩
abbrev Fld.pairCfg_UNIT_ID : FieldRef := ⟨.pairCfg, 1, 1⟩
abbrev Fld.pairCfg_INB_EN : FieldRef := ⟨.pairCfg, 2, 1⟩
abbrev Fld.pairCfg_FOLLOW_EN : FieldRef := ⟨.pairCfg, 3, 1⟩
abbrev Fld.pairCfg_PRIO2_OFS : FieldRef := ⟨.pairCfg, 8, 8⟩
abbrev Fld.pairCfg_REHEARSE_H : FieldRef := ⟨.pairCfg, 16, 8⟩
abbrev Fld.pairId_VAL : FieldRef := ⟨.pairId, 0, 16⟩
abbrev Fld.pairRole_REQ : FieldRef := ⟨.pairRole, 0, 2⟩
abbrev Fld.pairInbPort_VAL : FieldRef := ⟨.pairInbPort, 0, 32⟩
abbrev Fld.pairInbMacLo_VAL : FieldRef := ⟨.pairInbMacLo, 0, 32⟩
abbrev Fld.pairInbMacHi_MAC : FieldRef := ⟨.pairInbMacHi, 0, 16⟩
abbrev Fld.pairInbMacHi_VID : FieldRef := ⟨.pairInbMacHi, 16, 12⟩
abbrev Fld.pairOmdAsym_VAL : FieldRef := ⟨.pairOmdAsym, 0, 16⟩
abbrev Fld.pairHbMiss_OMD : FieldRef := ⟨.pairHbMiss, 0, 16⟩
abbrev Fld.pairHbMiss_INB : FieldRef := ⟨.pairHbMiss, 16, 16⟩
abbrev Fld.pairOmdErr_CRC : FieldRef := ⟨.pairOmdErr, 0, 16⟩
abbrev Fld.pairOmdErr_RETX : FieldRef := ⟨.pairOmdErr, 16, 16⟩
abbrev Fld.pairMirOvf_VAL : FieldRef := ⟨.pairMirOvf, 0, 32⟩
abbrev Fld.pairPromoteCnt_VAL : FieldRef := ⟨.pairPromoteCnt, 0, 32⟩
abbrev Fld.perfTagCfg_EN : FieldRef := ⟨.perfTagCfg, 0, 1⟩
abbrev Fld.perfTagCfg_K : FieldRef := ⟨.perfTagCfg, 1, 5⟩
abbrev Fld.perfTagCfg_STOP_FULL : FieldRef := ⟨.perfTagCfg, 6, 1⟩
abbrev Fld.perfUserEn_EN : FieldRef := ⟨.perfUserEn, 0, 1⟩
abbrev Fld.perfTagDrop_VAL : FieldRef := ⟨.perfTagDrop, 0, 32⟩
abbrev Fld.perfSampCfg_ENG : FieldRef := ⟨.perfSampCfg, 0, 16⟩
abbrev Fld.perfSampCfg_P : FieldRef := ⟨.perfSampCfg, 16, 5⟩
abbrev Fld.perfSampCfg_EN : FieldRef := ⟨.perfSampCfg, 24, 1⟩
abbrev Fld.perfSampCfg_STOP_FULL : FieldRef := ⟨.perfSampCfg, 25, 1⟩
abbrev Fld.perfSampDrop_VAL : FieldRef := ⟨.perfSampDrop, 0, 32⟩
abbrev Fld.perfCtl_CLR : FieldRef := ⟨.perfCtl, 0, 8⟩
abbrev Fld.perfCtl_OVF : FieldRef := ⟨.perfCtl, 8, 8⟩
abbrev Fld.perfSel_VAL : FieldRef := ⟨.perfSel, 0, 32⟩

end Sys2Proof.Machine
end

