-- ==== Sys2Proof/Machine/State.lean ====
section
/-! DEFINITION. The state of the block as plain data: every register, store, counter, mode and pin the spec names, and the
queue of waiting commands.  The default of a field is its value after a power-on reset, from the register tables of the
chapters; a default that the spec does not give carries the number of its entry in the assumption log. -/

set_option Elab.async false

namespace Sys2Proof.Machine

/-- The variants of Table DOC-1. -/
inductive Variant where
  | hd9648gx | hd9648nx | hd9632nx
  deriving DecidableEq, Repr

/-- Stops that the model raises by itself.  No command of the table ends in a fault: the block has no stop of its own
(R421: raising an event never stops a unit). -/
inductive Fault where
  /-- Raised by nobody; a fault type must have a name.  Safe. -/
  | unreachable
  deriving DecidableEq, Repr

/-- Commands that are refused. -/
inductive Refusal where
  /-- The arm of a command that has no meaning yet.  Safe: the block stops. -/
  | notModelled (mnemonic : String)
  /-- An operand names an instance that no variant of the part has, or is malformed (`Instr.wf` of WellFormed.lean is
  false): no such event can happen.  Raised by the guard of every command.  Safe: the block stops. -/
  | illFormed
  deriving DecidableEq, Repr

/-- The command status codes of Table DOC-8. -/
inductive Status where
  | ok | busy | unsupported | handleStale | noResource | quota | drainedAbort | parity | locked | badArg | wearOut
  | notReady | poolEmpty | boundRefused
  deriving DecidableEq, Repr

/-- TS48 with its flags TSF (R66, R77). -/
structure Ts48 where
  ns : Nat := 0
  frac : Nat := 0
  valid : Bool := false
  unlocked : Bool := false
  core : Bool := false
  deriving DecidableEq, Repr

/-- The unlock of one access path (R36, R38, Table REG-5). -/
structure KeySt where
  unlocked : Bool := false
  blocked : Bool := false
  failCnt : Nat := 0
  /-- The instants (model clock, ps) of the wrong keys of the last second, newest first. -/
  wrong : List Nat := []
  deriving DecidableEq, Repr

/-- One word of the pending store (R32, R34): the apply points its pending fields wait for, and whether it is held for a
domain that is off or in retention (R33). -/
structure Pend where
  key : RegKey
  points : List ApplyPoint
  dom : Bool := false
  /-- The WO bits that a held write carries, and the path of the last held write: they act when the domain is on again. -/
  wo : Word := 0
  path : Path := .pcie
  deriving DecidableEq, Repr

/-- The RW, KW and RC bits of the registers: written and applied copies (R10), RC words, the pending store (R34), the
waiting AT_SEC commit (R35), the listed words of SYS_CFGERR (R39), the stopped instances of R422. -/
structure RegFile where
  written : Tab RegKey Word := []
  applied : Tab RegKey Word := []
  pend : List Pend := []
  cmtAtSec : Bool := false
  cfgErr : List Nat := []
  stopped : List RegKey := []
  deriving DecidableEq, Repr

/-- What a mailbox page holds for one path (R44). -/
structure MbxSt where
  valid : Bool := false
  status : Nat := 0
  data : List Word := []
  deriving DecidableEq, Repr

/-- One entry of the event log or of the first-fault record (R419, Table EVT-3). -/
structure EvtEntry where
  code : Nat
  sev : Nat
  ts : Ts48
  arg0 : Nat
  arg1 : Nat
  arg2 : Nat
  host : Bool
  seq : Nat
  deriving DecidableEq, Repr

/-- The suppression record of one code and ARG0 (R417). -/
structure Suppress where
  code : Nat
  arg0 : Nat
  /-- The 1 ms window of the model clock in which it last occurred, and the occurrences in it. -/
  win : Nat := 0
  count : Nat := 0
  /-- Suppression is in force. -/
  active : Bool := false
  /-- Occurrences suppressed since suppression began. -/
  total : Nat := 0
  deriving DecidableEq, Repr

/-- EVT (chapter 19): the log, newest first, the first-fault record, EVT_FAULT_N and the suppression records. -/
structure EvtState where
  log : List EvtEntry := []
  first : Option EvtEntry := none
  faultN : Bool := false
  sup : List Suppress := []
  /-- The next SEQ (R70). -/
  seq : Nat := 0
  deriving DecidableEq, Repr

/-- PERS (R47 to R50): stored words, wear counts, busy words with the value a power loss may leave (R49), and per path the last
word and status of PERS_STAT. -/
structure PersState where
  words : Tab Nat Word := []
  wear : Tab Nat Nat := []
  busy : List (Nat × Word) := []
  last : Tab Path (Nat × Status) := []
  deriving DecidableEq, Repr

/-- The time cores' counters (R203): time since the epoch in units of 2^-45 ps, so that one ns is 125 × 2^48 units and one
TIME period at any RATE is a whole number of them.  `rate` is RATE in units of 2^-44; `now` is the model's own clock, ps
since power-on. -/
structure Clock where
  tcA : Nat := 0
  tcB : Nat := 0
  /-- TCORE_STAT.ACTIVE: false for TC-A, true for TC-B. -/
  active : Bool := false
  rate : Int := 0
  now : Nat := 0
  /-- The number of the last second whose boundary has been taken, counted from the epoch: a swap to a core that stands just before
  the boundary does not take it again (R212). -/
  secDone : Nat := 0
  deriving DecidableEq, Repr

/-- The states of a ring (Table HIF-7). -/
inductive RingState where
  | disabled | run | draining | error
  deriving DecidableEq, Repr

/-- The body of a descriptor that the part writes (Table HIF-9d). -/
inductive CplBody where
  | tx (ring : Nat) (status : Status) (cookie cidx : Nat)
  | txTs (ring : Nat) (status : Status) (cookie : Nat) (ts : Ts48) (outcome port : Nat)
  | rx (ring : Nat) (status : Status) (cookie : Nat) (ts : Ts48) (reason port len tci cls flags flow cidx : Nat)
  | cmd (ring : Nat) (status : Status) (tag handle : Word) (opcode cidx : Nat) (result : List Byte)
  | evt (code sev : Nat) (ts : Ts48) (arg0 arg1 arg2 seq : Nat)
  deriving DecidableEq, Repr

/-- A slot of a completion ring that the part has written and the host has not released (R63). -/
structure Slot where
  phase : Bool
  body : CplBody
  deriving DecidableEq, Repr

/-- A descriptor that the part has fetched and not finished (R61). -/
structure Fetched where
  raw : List Byte
  ext : List Byte
  started : Bool := false
  /-- Completion slots reserved for it in the bound completion ring (R62). -/
  slots : Nat := 0
  /-- The completion ring whose slots those are. -/
  cpl : Nat := 48
  /-- The frame whose last piece it is, in the fabric; its FCS, supplied by the host, has failed (R14, R68). -/
  frame : Option Nat := none
  fcsBad : Bool := false
  deriving DecidableEq, Repr

/-- One ring (Table HIF-7, R58 to R63). -/
structure Ring where
  state : RingState := .disabled
  errCause : Nat := 0
  disStatus : Status := .ok
  pidx : Nat := 0
  cidx : Nat := 0
  phase : Bool := true
  armed : Bool := false
  cplWait : Bool := false
  /-- A doorbell that came while the ring was DISABLED (R59): INDEX and ARM. -/
  dbStored : Option (Nat × Bool) := none
  /-- Bytes that a transmit ring may still take in its turn (R74). -/
  deficit : Nat := 0
  fetched : List Fetched := []
  /-- Slots of this completion ring that source rings have reserved (R62). -/
  reserved : Nat := 0
  /-- Descriptors written since the last message (R75). -/
  sinceMsg : Nat := 0
  /-- The moderation timer runs (R75). -/
  timer : Bool := false
  slots : List Slot := []
  /-- Descriptors aborted in the drain in progress (R79). -/
  aborting : Nat := 0
  deriving DecidableEq, Repr

/-- The completion of a command (R12, R84): what the part reports for it, on whatever path it came. -/
structure Cpl where
  src : CmdSrc
  tag : Word
  opcode : Nat
  handle : Word
  status : Status
  result : List Byte
  /-- What the part wrote over the EXT buffer (R65). -/
  extOut : List Byte
  deriving DecidableEq, Repr

/-- HIF (chapter 3). -/
structure HifState where
  rings : Tab Nat Ring := []
  linkUp : Bool := false
  gen : Nat := 0
  width : Nat := 0
  mps : Nat := 0
  /-- Max read request size in bytes, and 10-bit tags enabled (Table HIF-1). -/
  mrrs : Nat := 0
  tag10 : Bool := false
  busMaster : Bool := false
  /-- MSI-X table (R52): message address low and high and message data by vector; the vectors that are not masked: every vector is
  masked at reset (PCIe; log entry 21). -/
  vecs : Tab Nat (Word × Word × Word) := []
  unmasked : List Nat := []
  pba : List Nat := []
  /-- The transmit ring, and the command ring from 56 on, whose turn it is (R74, R92). -/
  txTurn : Nat := 0
  cmdTurn : Nat := 0
  /-- Messages sent since power-on, and the vector of the last. -/
  msgs : Nat := 0
  lastVec : Option Nat := none
  /-- The completion of the last command that ran, as its source sees it. -/
  lastCpl : Option Cpl := none
  deriving DecidableEq, Repr

/-- The object types of R11 that commands create. -/
inductive ObjType where
  | flow | tchan | mchan | mirror | search | cal
  deriving DecidableEq, Repr

/-- The states of an object (R91). -/
inductive ObjPhase where
  | active | draining | suspended
  deriving DecidableEq, Repr

/-- A DESTROY or DISABLE that has started and waits for its drain to end (R94). -/
structure Drain where
  desc : CmdDesc
  destroy : Bool
  limitUs : Nat
  /-- Model clock at acceptance, ps. -/
  start : Nat
  /-- Items in flight at acceptance. -/
  items : Nat := 0
  /-- LIMIT_US has ended. -/
  timedOut : Bool := false
  deriving DecidableEq, Repr

/-- A command that waits for a draining object (R92). -/
structure WaitingCmd where
  verb : Nat
  desc : CmdDesc
  deriving DecidableEq, Repr

/-- What every object has (R91): its phase, the current CREATE arguments (bytes 12 to 31, and the EXT extension), the drain
in progress and the commands that wait for its end. -/
structure Obj where
  phase : ObjPhase := .active
  args : List Byte := []
  extra : List Byte := []
  drain : Option Drain := none
  waiting : List WaitingCmd := []
  deriving DecidableEq, Repr

/-- The handle index table of one object type (R88): generations, and the free list as the indexes put back at its head,
the indexes from `fresh` on that were never taken, and the destroyed indexes in order of destruction. -/
structure IndexTab where
  gens : Tab Nat Nat := []
  head : List Nat := []
  fresh : Nat := 0
  freed : List Nat := []
  deriving DecidableEq, Repr

/-- The training states of LANE_STAT.TRAIN (Table LANE-12). -/
inductive TrainSt where
  | down | full | fast | running
  deriving DecidableEq, Repr

/-- One serial lane (chapter 5). -/
structure Lane where
  sig : Bool := false
  cdr : Bool := false
  lock : Bool := false
  fecLock : Bool := false
  hiBer : Bool := false
  train : TrainSt := .down
  /-- The transmitter is squelched by the part: at return until LOCK or 100 ms without signal (R117), and at removal. -/
  txSq : Bool := false
  /-- Model clock (ps) when TX_SQUELCH was last cleared (R113). -/
  unsqAt : Option Nat := none
  /-- Junction temperature at the last full retrain, °C. -/
  temp : Int := 0
  base : Nat := 0
  cur : Nat := 0
  /-- A step proposed and not yet applied: `some true` up, `some false` down (R105). -/
  proposed : Option Bool := none
  /-- The step above was put back by the release of a forced code (R109). -/
  stepBack : Bool := false
  /-- LANE_ADPT_LIMIT has been raised since AT_LIMIT set (R107). -/
  limitRaised : Bool := false
  /-- FRZ_CAUSE; 0 while adaptation runs. -/
  frozen : Nat := 0
  /-- Consecutive windows in which no freeze condition holds. -/
  calm : Nat := 0
  /-- Model clock (ps) of the last peaking move by adaptation (R107). -/
  movedAt : Option Nat := none
  /-- Transition density of the last window, 1/64. -/
  density : Nat := 0
  eyeW : Nat := 0
  eyeH : Nat := 0
  qPeak : Nat := 0
  qValid : Bool := false
  qSeq : Nat := 0
  /-- Electrical idle: start (model clock, ps), junction temperature (°C) and quad mode at entry (R110). -/
  idleAt : Nat := 0
  idleTemp : Int := 0
  idleMode : Nat := 0
  /-- A RETRAIN written during electrical idle (R111). -/
  retrainPend : Bool := false
  /-- The recovered clock is offered to REF (R114), the phase output to LNK is valid (R115). -/
  offered : Bool := false
  phase : Bool := false
  /-- The lane went 100 ms without signal in this training (R117). -/
  noSignal : Bool := false
  /-- Totals for the mailbox: blocks, invalid headers, corrected and uncorrected FEC codewords. -/
  blocks : Nat := 0
  hdrErr : Nat := 0
  fecCorr : Nat := 0
  fecUncorr : Nat := 0
  /-- The last full retrain: eye and second, and the number of full retrains. -/
  trainW : Nat := 0
  trainH : Nat := 0
  trainSec : Nat := 0
  retrains : Nat := 0
  /-- HI_BER has held since (model clock, ps). -/
  hiBerAt : Option Nat := none
  deriving DecidableEq, Repr

/-- The states of LANE_GRP_STAT (Table LANE-9). -/
inductive GrpSt where
  | inService | draining | removed | training | joining
  deriving DecidableEq, Repr

/-- One lane group. -/
structure Grp where
  st : GrpSt := .inService
  disStatus : Status := .ok
  pwrOff : Bool := false
  /-- A committed LANE_GRP_MODE that waits for the group's next training (R102). -/
  next : Option Word := none
  deriving DecidableEq, Repr

/-- One canary ring (R121, R122): valid, excluded, and the consecutive windows inside the limit while excluded. -/
structure Canary where
  valid : Bool := false
  excluded : Bool := false
  good : Nat := 0
  /-- The rate of the last window, guard band taken. -/
  rate : Nat := 0
  deriving DecidableEq, Repr

/-- A guaranteed flow beside its object (R135 to R138, R158). -/
structure Flow where
  bound : Nat := 0
  rate : Nat := 0
  nf : Nat := 0
  pool : Nat := 0
  /-- Reserved buffers in use. -/
  rsvUsed : Nat := 0
  /-- The policer: MAX_FRAME and RATE in kb/s in force, and the ones that wait for a frame boundary. -/
  maxFrame : Nat := 0
  kbps : Nat := 0
  newPolicer : Option (Nat × Nat) := none
  /-- Tokens in 10^-9 bit, as of model clock `tokAt` (ps). -/
  tokens : Nat := 0
  tokAt : Nat := 0
  /-- Matching frames return to SQ at the next frame boundary of the ingress port (R95). -/
  rejoin : Bool := false
  /-- Preemption was active on its egress port at admission. -/
  preempt : Bool := false
  deriving DecidableEq, Repr

/-- A CREATE or MODIFY of a guaranteed flow that waits, with what admission chose: `stage` 0 for the fabric rate (R16), 1 for
the standby's answer (R377); `mirror` for a flow that the standby checks for its primary. -/
structure FlowWait where
  desc : CmdDesc
  modify : Bool
  stage : Nat
  mirror : Bool
  index : Nat
  f : Nat
  bound : Nat
  nf : Nat
  pool : Nat
  deriving DecidableEq, Repr

/-- What waits for the admission in progress (R139): 0 CREATE, 1 MODIFY, 2 BOUND_QUERY, 3 GCL_SET, 4 a flow of the primary; 5 DESTROY,
6 DISABLE, 7 ENABLE behind a MODIFY of the same flow; 8 the committed word `word`. -/
structure AdmWait where
  kind : Nat
  desc : CmdDesc
  word : Option RegKey := none
  deriving DecidableEq, Repr

/-- SW: canary rings, voltage scaling, conditions and admission (chapter 6). -/
structure SwState where
  rings : List Canary := List.replicate 24 {}
  /-- The smallest valid rate of each of the last four windows, newest first. -/
  mins : List Nat := []
  assured : Nat := 0
  lowest : Nat := 0
  fLoad : Nat := 0
  vset : Nat := 880
  atMax : Bool := false
  hwMax : Bool := false
  avsFail : Bool := false
  /-- VoutTransRate, written once at boot with the slew from the PERS words (Table SW-1). -/
  transRate : Option Nat := none
  /-- A voltage write in progress, with the attempts made; a failed attempt waits for its retry. -/
  writing : Bool := false
  retrying : Bool := false
  attempts : Nat := 0
  currentMa : Nat := 0
  cond : Nat := 0
  /-- Fewer than 20 valid rings: R17 applies at once (R122). -/
  canaryLow : Bool := false
  flows : Tab Nat Flow := []
  wait : Option FlowWait := none
  admQ : List AdmWait := []
  deriving DecidableEq, Repr

/-- One entry of a gate control list (Table SW-13). -/
structure GclEntry where
  gates : Nat
  op : Nat
  interval : Nat
  deriving DecidableEq, Repr

/-- A gate control list; `start` is the active-core time (ns) of its first cycle. -/
structure Gcl where
  cycle : Nat
  baseS : Nat
  baseNs : Nat
  cycExt : Nat
  entries : List GclEntry
  start : Nat
  deriving DecidableEq, Repr

/-- A flow-control frame to be sent: the priorities it names (bit t; all bits for pause), and quanta 0xFFFF or 0. -/
structure FcFrame where
  prios : Nat
  stop : Bool
  deriving DecidableEq, Repr

/-- Where a frame copy is. -/
inductive CopySt where
  | wait | queued | tx | sent | host
  deriving DecidableEq, Repr

/-- The timestamp record that a TS_REQ frame asks for (R67): its source ring and COOKIE, and the completion ring with the reserved
slot. -/
structure TsReq where
  ring : Nat
  cookie : Nat
  cpl : Nat
  deriving DecidableEq, Repr

/-- One copy of a frame on its way to a port (R161, R195): the queue, 8 for SQ; buffers; times. -/
structure Copy where
  frame : Nat
  port : Nat
  q : Nat
  st : CopySt := .wait
  bufs : List Nat := []
  /-- A buffer request for it was refused: its further buffers follow steps 2 to 4 of R163. -/
  refused : Bool := false
  /-- Length at the egress port, with FCS. -/
  len : Nat := 0
  /-- The IEEE 802.1Q TCI that it leaves with; none when it leaves untagged (R180). -/
  tag : Option Nat := none
  /-- Its first buffer was chosen by a hint, and nothing of it has been counted in BPM_HINT_MISS (R156). -/
  hinted : Bool := false
  /-- The copy of mirror session m, of the frame as received (R196); REASON of a copy for the host. -/
  mirror : Option Nat := none
  asRecv : Bool := false
  reason : Nat := 0
  /-- The guaranteed flow whose SQ copy this is. -/
  flow : Option Nat := none
  /-- The sequence number of the R-TAG that the copy leaves with. -/
  rtag : Option Nat := none
  /-- Model clock (ps) at eligibility, and at selection by the scheduler. -/
  elig : Nat := 0
  selAt : Option Nat := none
  /-- Model clock (ps) at which its transfer began or went on, and the bytes sent before that (R133). -/
  txAt : Nat := 0
  txDone : Nat := 0
  /-- Deadline of an SQ copy, active core, ns (R145). -/
  deadline : Option Nat := none
  tsReq : Option TsReq := none
  oneStep : Bool := false
  deriving DecidableEq, Repr

/-- The keys of the entries that have versions (R190). -/
inductive EntryKey where
  | fdb (mac vid : Nat)
  | vlan (v : Nat)
  | cls (i : Nat)
  | mcg (g : Nat)
  | mir (m : Nat)
  | cb (f : Nat)
  deriving DecidableEq, Repr

/-- A frame in the part. -/
structure Frame where
  port : Nat
  h : FrameHdr
  ts : Ts48 := {}
  /-- Active-core time at the ingress latch, 2^-45 ps, and the steps applied before it: their sum and their number (R219, R240). -/
  tod : Nat := 0
  stepSum : Int := 0
  stepN : Nat := 0
  /-- The ingress latch is refined (R236); Φ of the port and the model clock (ps) at it. -/
  refined : Bool := false
  phi : Option Int := none
  latchAt : Nat := 0
  /-- Of a frame of the host: the traffic class of QUEUE; the flow of SCHED; the model clock (ps) when it was taken from its ring;
  its FCS is inserted by the part (R64, R148). -/
  hostTc : Option Nat := none
  sched : Option Nat := none
  takenAt : Nat := 0
  fcsIns : Bool := false
  /-- The flow it was policed for, and whether it conforms. -/
  flow : Option Nat := none
  conforms : Bool := false
  decided : Bool := false
  eligible : Bool := false
  /-- Discarded by its decision. -/
  drop : Bool := false
  /-- To be learned. -/
  learn : Bool := false
  vid : Nat := 0
  tc : Nat := 0
  /-- The engine side takes it: a TRAP or a timing channel's claim. -/
  toEngine : Bool := false
  /-- The recovery function that decides at eligibility (R200), and the generation function (R199). -/
  cbFn : Option Nat := none
  genFn : Option Nat := none
  /-- The entries that its lookup read, each with the VERSION it read (R190, R191). -/
  uses : List (EntryKey × Nat) := []
  deriving DecidableEq, Repr

/-- The transmit side of a port and its PORT state (chapter 6). -/
structure PortSt where
  /-- The queues TC0 to TC7 and SQ (8): copy numbers, oldest first. -/
  queues : Tab Nat (List Nat) := []
  credit : Tab Nat Nat := []
  /-- The DRR TC whose turn it is. -/
  turn : Nat := 0
  /-- The copy in transfer. -/
  tx : Option Nat := none
  /-- The preempted copy whose next fragment waits, and the hold of a gate list's operations (R133, R134). -/
  frag : Option Nat := none
  hold : Bool := false
  fc : List FcFrame := []
  /-- XOFF last signalled, per priority. -/
  xoff : Nat := 0
  /-- The ingress ports that assert cause QUEUE for TC t (R164). -/
  holders : Tab Nat (List Nat) := []
  /-- Priorities held by PFC, and all held by pause (R143). -/
  pfcHeld : Nat := 0
  paused : Bool := false
  /-- LOCK and joined. -/
  up : Bool := false
  holding : Bool := false
  flushed : Bool := false
  /-- Model clock (ps) at the loss of LOCK. -/
  lossAt : Nat := 0
  /-- PORT_DEADLINE has been raised in this episode. -/
  deadlineRaised : Bool := false
  /-- Verification has succeeded since the last LOCK; it has failed. -/
  verified : Bool := false
  verifyFailed : Bool := false
  gcl : Option Gcl := none
  gclPend : Option Gcl := none
  /-- The entry in force and its gates; the SQ gate is held open until the end of the cycle (R132). -/
  gateIx : Nat := 0
  gates : Nat := 0x1FF
  sqOpen : Bool := false
  /-- The last cycle of a list that a pending list replaces is extended (R131). -/
  gateExt : Bool := false
  sent : Tab Nat Nat := []
  /-- Residence discards of the last second: model clock, ps; and when PORT_RES_LIMIT was last raised. -/
  resTimes : List Nat := []
  resRaised : Option Nat := none
  /-- Frames discarded at this ingress port: a failed FCS (R14, R147), a draining lane group (R116). -/
  ingDisc : Nat := 0
  /-- The last egress latch: TS48, the correctionField sent, and originTimestamp inserted. -/
  lastTx : Ts48 := {}
  lastCorr : Int := 0
  lastOrigin : Option Nat := none
  deriving DecidableEq, Repr

/-- The frames and copies in the part. -/
structure FabState where
  frames : Tab Nat Frame := []
  copies : Tab Nat Copy := []
  nextFrame : Nat := 0
  nextCopy : Nat := 0
  ports : Tab Nat PortSt := []
  /-- All steps applied to the cores so far, 2^-45 ps (R219). -/
  stepSum : Int := 0
  deriving DecidableEq, Repr

/-- One pool (R153, R154): `fresh` and `freed` are the list store, the indexes from `fresh` on that are free and not in `freed`,
then `freed` in order. -/
structure Pool where
  base : Nat
  count : Nat
  fresh : Nat := 0
  freed : List Nat := []
  rsv : Nat := 0
  rebuild : Bool := false
  /-- Frees that wait for the rebuild: index in pool and requester. -/
  waiting : List (Nat × Nat) := []
  /-- The store disagrees with the STATE bits (R172). -/
  bad : Bool := false
  deriving DecidableEq, Repr

/-- An allocated buffer (R155). -/
structure Buf where
  owner : Nat
  ref : Bool := true
  /-- From the headroom part; from a flow's reservation. -/
  hr : Bool := false
  flow : Option Nat := none
  /-- The allocation count at an auditor visit that found REF 0. -/
  seen : Option Nat := none
  deriving DecidableEq, Repr

/-- A requester's charges and causes. -/
structure ReqSt where
  used : Nat := 0
  hrUsed : Nat := 0
  quota : Bool := false
  empty : Bool := false
  /-- BPM_HR_EXHAUSTED has been raised in this episode. -/
  exhausted : Bool := false
  hrDisc : Nat := 0
  deriving DecidableEq, Repr

/-- A carve in progress (R173 to R175): new base and count of each pool. -/
structure Carve where
  desc : CmdDesc
  pools : List (Nat × Nat)
  start : Nat
  initial : Nat
  /-- Buffers withheld when freed: pool and index. -/
  withheld : List Nat := []
  deriving DecidableEq, Repr

/-- BPM (chapter 7). -/
structure BpmState where
  pools : List Pool := [{ base := 0, count := 65536 }, { base := 131072, count := 65536 }, { base := 393216, count := 8192 },
    { base := 524288, count := 6144 }, { base := 720896, count := 409 }]
  bufs : Tab Nat Buf := []
  /-- Allocation counts by buffer index. -/
  allocs : Tab Nat Nat := []
  reqs : Tab Nat ReqSt := []
  /-- Engine messages whose request waits for a free (R162). -/
  engWait : List Nat := []
  carve : Option Carve := none
  /-- The auditor: pass number, and visits, leaks, reclaimed and store faults of the pass, the results of the last one. -/
  pass : Nat := 0
  visited : Nat := 0
  leaks : Nat := 0
  reclaimed : Nat := 0
  faults : Nat := 0
  passStart : Nat := 0
  lastPass : List Nat := [0, 0, 0, 0, 0, 0]
  /-- The BPM_AUDIT_RUN commands that complete at the end of the pass. -/
  auditRun : List CmdDesc := []
  deriving DecidableEq, Repr

/-- An FDB entry (R182): DEST is a port, or 2^15 + group; `loc` is the location that FDB_ADD reports. -/
structure FdbEntry where
  dest : Nat
  static : Bool := false
  hit : Bool := true
  /-- Entered by the peer's delta (R376). -/
  mirrored : Bool := false
  loc : Word := 0
  deriving DecidableEq, Repr

/-- A classifier entry (Table FDB-3). -/
structure ClsEntry where
  port : Nat
  kind : Nat
  action : Nat
  vid : Nat
  key : Nat
  mask : Nat
  cbFn : Nat
  macHi : Nat
  deriving DecidableEq, Repr

/-- An IEEE 802.1CB function (R199, R200). -/
structure CbFn where
  /-- 0 generation, 1 vector, 2 match. -/
  type : Nat
  hist : Nat
  resetMs : Nat
  pop : Bool
  ports : Nat
  nextSeq : Nat := 0
  /-- SEQ_SRC of R374, the wrap count W, and the last Sequence ID byte. -/
  src : Nat := 0
  wrap : Nat := 0
  lastId : Nat := 0
  recov : Option Nat := none
  /-- History bits, bit 0 the newest; and how many of them numbers since the reset have reached. -/
  history : Nat := 0
  histLen : Nat := 0
  passed : Nat := 0
  discarded : Nat := 0
  outOfOrder : Nat := 0
  rogue : Nat := 0
  lost : Nat := 0
  tagless : Nat := 0
  resets : Nat := 0
  deriving DecidableEq, Repr

/-- A queued learn. -/
structure Learn where
  mac : Nat
  vid : Nat
  port : Nat
  deriving DecidableEq, Repr

/-- FDB: the tables of chapter 8. -/
structure FdbState where
  entries : Tab (Nat × Nat) FdbEntry := []
  /-- Member and untag sets by VID; a VID not listed is empty, but for VID 1 (R185). -/
  vlans : Tab Nat (Nat × Nat) := []
  groups : Tab Nat Nat := []
  cls : Tab Nat ClsEntry := []
  /-- The flow that a classifier entry is bound to (R189). -/
  bound : Tab Nat Nat := []
  cb : Tab Nat CbFn := []
  versions : Tab EntryKey Nat := []
  /-- Retired copies: key, version and the frames that used it (R190). -/
  retired : List (EntryKey × Nat × List Nat) := []
  /-- The 802.1CB functions among them: function, version and what it was. -/
  oldCb : Tab (Nat × Nat) CbFn := []
  verRaised : Bool := false
  /-- Model clock (ps) at the last FDB_FULL. -/
  fullAt : Option Nat := none
  learnQ : Tab Nat (List Learn) := []
  deriving DecidableEq, Repr

/-- The time states of Table TCORE-1. -/
inductive TState where
  | freerun | acquire | locked | holdover
  deriving DecidableEq, Repr

/-- An announced quality: the fields of TCORE_CLASS. -/
structure ClockQuality where
  cls : Nat
  acc : Nat
  var : Nat
  deriving DecidableEq, Repr

/-- A TIME_STEP or TIME_SET that waits for its second boundary (R208). -/
structure WaitingStep where
  desc : CmdDesc
  /-- TIME_SET; TIME_STEP otherwise. -/
  set : Bool
  deriving DecidableEq, Repr

/-- The last PTP latches and message counts of a port (Table TCORE-13). -/
structure PortPtp where
  lastIn : Ts48 := {}
  lastOut : Ts48 := {}
  rx : Nat := 0
  tx : Nat := 0
  deriving DecidableEq, Repr

/-- TCORE (chapter 9), without the counters of `Clock`. -/
structure TcoreState where
  tstate : TState := .freerun
  /-- ACQUIRE was entered from FREERUN (R231). -/
  acqFromFree : Bool := false
  /-- No sample has been taken since ACQUIRE was entered (R206). -/
  acqFirst : Bool := false
  /-- Consecutive samples within LOCK_NS. -/
  lockCnt : Nat := 0
  /-- The standby core is in service (R210). -/
  stbyIn : Bool := true
  /-- STBY_TRACK. -/
  track : Bool := false
  /-- The latest comparison, standby minus active, ps; none before the first and while out of service. -/
  trackErr : Option Int := none
  trackS : Nat := 0
  /-- Every comparison since the last second boundary stayed within 5 ps. -/
  trackWhole : Bool := false
  /-- A pending swap: the earliest instant of its boundary, in units of the active core (R211). -/
  swapPend : Option Nat := none
  steps : List WaitingStep := []
  /-- clockClass when ACQUIRE was entered from HOLDOVER (Table TCORE-8, last row), by column: T-GM, T-BC, PROFILE 0. -/
  entryCls : Nat × Nat × Nat := (248, 248, 248)
  /-- Steps and sets applied. -/
  stepN : Nat := 0
  /-- The phase correction is limited to THAW_RATE about this rate: during Thaw, and after a switch to the main path (R268). -/
  thaw : Option Int := none
  /-- TCORE_CLASS as announced. -/
  quality : ClockQuality := ⟨248, 0xFE, 0xFFFF⟩
  /-- The last offset the servo took, 2^-16 ns, and the samples taken. -/
  lastOff : Int := 0
  samples : Nat := 0
  ports : Tab Nat PortPtp := []
  deriving DecidableEq, Repr

/-- The channel states of Table TCORE-4, and SENDING of a master. -/
inductive ChanState where
  | listening | qualified | selected | lost | sending
  deriving DecidableEq, Repr

/-- A Sync of a channel: sequenceId, t1 with the correctionFields and t2 in 2^-16 ns, what R240 asks of it, and Φ and the model clock
(ps) at the t2 latch. -/
structure SyncRx where
  seq : Nat
  t1 : Int
  t2 : Int
  refined : Bool
  peerRefined : Bool
  stepN : Nat
  phi : Option Int
  at' : Nat
  deriving DecidableEq, Repr

/-- The last Delay_Req of a channel: t3 in 2^-16 ns, whether its latch is refined, and the steps applied before it. -/
structure ReqTx where
  t3 : Int
  refined : Bool
  stepN : Nat
  deriving DecidableEq, Repr

/-- A Delay_Req that a master channel owes an answer: requesting portIdentity, sequenceId, correctionField, t4 in ns with its frac,
refined or not. -/
structure DelayAsk where
  srcPort : Nat
  seq : Nat
  corr : Int
  ns : Nat
  frac : Nat
  refined : Bool
  deriving DecidableEq, Repr

/-- What a channel sent last (R218, R224, R228, R230, R238): messageType, destination address on Ethernet, the timestamp that it
carries as total ns, correctionField, sequenceId, the requesting portIdentity of a Delay_Resp, the quality and stepsRemoved of an
Announce, and the LNK TLV. -/
structure PtpSent where
  kind : Nat
  dst : Nat
  time : Nat := 0
  corr : Int := 0
  seq : Nat := 0
  reqPort : Nat := 0
  quality : ClockQuality := ⟨0, 0, 0⟩
  /-- priority1 and priority2 of an Announce. -/
  prio1 : Nat := 0
  prio2 : Nat := 0
  steps : Nat := 0
  tlv : Option LnkTlv := none
  deriving DecidableEq, Repr

/-- The run-time state of a timing channel (R221 to R226). -/
structure TChan where
  state : ChanState := .listening
  /-- Announce and Sync received since the channel began to listen. -/
  heardAnnounce : Bool := false
  heardSync : Bool := false
  cls : Nat := 0
  acc : Nat := 0
  var : Nat := 0
  steps : Nat := 0
  gm : Nat := 0
  syncSrc : Option Nat := none
  /-- Mean path delay and last offset, 2^-16 ns. -/
  delay : Int := 0
  off : Int := 0
  exchanged : Bool := false
  tx : Nat := 0
  rx : Nat := 0
  /-- Delay_Req sent and not answered. -/
  outstanding : Bool := false
  /-- The exchange that is open: the last Sync, one whose Follow_Up is due, the last Delay_Req, and the sequenceIds of the messages
  sent, by messageType. -/
  sync : Option SyncRx := none
  syncPend : Option SyncRx := none
  req : Option ReqTx := none
  seqs : Tab Nat Nat := []
  /-- Delay_Req messages that a master has not answered yet, oldest first. -/
  asks : List DelayAsk := []
  /-- The Ethernet address that the partner last used (Table TCORE-6), and the last message sent. -/
  dst : Nat := 0x011B19000000
  last : Option PtpSent := none
  /-- The last Announce that task 4 had a holder for (Table ENG-1). -/
  announced : Option PtpSent := none
  /-- Arrival instants (model clock, ps) of the event messages of the last second, with their messageType (R223). -/
  recent : List (Nat × Nat) := []
  /-- The role in force, which the policy may force (R344): 0 master, 1 slave, 2 passive. -/
  role : Nat := 0
  /-- QR of the partner's clockClass, as task 3 last judged it (Table ENG-1). -/
  qr : Nat := 15
  /-- The engine that runs it; none while it is unplaced (R341). -/
  engine : Option Nat := none
  deriving DecidableEq, Repr

/-- The states of Table LNK-3. -/
inductive LnkSt where
  | off | wait | tracking | active
  deriving DecidableEq, Repr

/-- What LNK keeps for the return of a port under R250. -/
structure LnkLoss where
  /-- Model clock at the loss, ps. -/
  at' : Nat
  r : Int
  partner : Nat
  mode : Nat
  deriving DecidableEq, Repr

/-- One LNK unit (chapter 10).  Times are in 2^-16 ns, Φ in 0.5 ps. -/
structure LnkPort where
  st : LnkSt := .off
  cause : Nat := 0
  phi : Option Int := none
  /-- Φ is valid and its first update has not come. -/
  fresh : Bool := true
  /-- Consecutive updates within 10 ps, and within 20 ppm. -/
  calm : Nat := 0
  tlv : Bool := false
  partnerRefined : Bool := false
  noTlv : Nat := 0
  snapBad : Nat := 0
  /-- The last receive and transmit latches were refined. -/
  rxRefined : Bool := false
  txRefined : Bool := false
  /-- r of the consecutive refined exchanges in TRACKING, newest first, at most eight. -/
  rs : List Int := []
  /-- Of a mode whose grid is no whole part of the LTX period: the odd LTX edges are the ones aligned to a block boundary (log entry
  114). -/
  blk : Bool := false
  /-- Sync messages sent by a master-only port in TRACKING without a snap failure. -/
  masterRun : Nat := 0
  r : Int := 0
  th0 : Int := 0
  a : Int := 0
  th : Int := 0
  exchanged : Bool := false
  /-- Offset and Φ at the last contributing exchange (R241). -/
  base : Option (Int × Int) := none
  partner : Nat := 0
  loss : Option LnkLoss := none
  deriving DecidableEq, Repr

/-- A pair, kept under its plan A port (R243 to R247). -/
structure LnkPair where
  /-- The plan B port. -/
  q : Nat := 0
  /-- The latest th0 of each plan, with Φ and the model clock (ps) at its t2 latch. -/
  thA : Option (Int × Int × Nat) := none
  thB : Option (Int × Int × Nat) := none
  rA : Int := 0
  rB : Int := 0
  /-- The last solutions, newest first, at most SOLVE_N. -/
  sols : List Int := []
  taken : Nat := 0
  abar : Option Int := none
  ok : Bool := false
  hold : Bool := false
  suspended : Bool := false
  /-- Consecutive solutions within the tolerance while suspended. -/
  good : Nat := 0
  l1 : Int := 0
  l2 : Int := 0
  holdS : Nat := 0
  deriving DecidableEq, Repr

/-- LNK. -/
structure LnkState where
  ports : Tab Nat LnkPort := []
  /-- Formed pairs by their plan A port. -/
  pairs : Tab Nat LnkPair := []
  deriving DecidableEq, Repr

/-- The candidate states of Table REF-3. -/
inductive CandSt where
  | absent | qualifying | qualified | selected | holdoff | failed | disabled
  deriving DecidableEq, Repr

/-- One candidate (R255); a timing channel stands under its handle. -/
structure Cand where
  st : CandSt := .absent
  /-- Last cause (R256). -/
  cause : Nat := 0
  /-- A check fails now. -/
  failing : Bool := false
  off : Int := 0
  ppb : Int := 0
  samples : Nat := 0
  /-- Good PPS pulses in this qualification. -/
  pulses : Nat := 0
  /-- The last 16 offsets, newest first. -/
  last : List Int := []
  /-- Sum and number of the offsets since qualification began (R267). -/
  qsum : Int := 0
  qn : Nat := 0
  deriving DecidableEq, Repr

/-- Settings of a handle made by REF_CAND_SET; the fixed candidates have REF_CAND_CFG. -/
structure CandSet where
  en : Bool := true
  ovrEn : Bool := false
  ovr : Nat := 7
  prio : Nat := 8
  deriving DecidableEq, Repr

/-- One node of the model (R264). -/
structure MdlNode where
  y : Int := 0
  n : Nat := 0
  deriving DecidableEq, Repr

/-- The oscillator model (R264): nodes, A in 2^-44 per day, the second of the first sample, and the residuals of the last
seven days as (second, residual). -/
structure Model where
  nodes : List MdlNode := List.replicate 8 {}
  a : Int := 0
  first : Option Nat := none
  resid : List (Nat × Int) := []
  deriving DecidableEq, Repr

/-- A holdover episode (R262, R269).  Temperatures are in 1/256 °C, E in ps/172,800, offsets in 2^-16 ns. -/
structure Episode where
  fe : Int
  te : Int
  e0 : Nat
  e : Nat
  t : Nat := 0
  stage : Nat := 1
  /-- The model as it was at entry. -/
  mdl : Model
  /-- MODEL_VALID and the learned range at entry. -/
  mdlValid : Bool
  deriving DecidableEq, Repr

/-- REF (chapter 11). -/
structure RefState where
  cands : Tab Nat Cand := []
  sets : Tab Nat CandSet := []
  tsel : Option Nat := none
  fsel : Option Nat := none
  /-- The preferred candidate of each class has not been deselected since REF_PREF_T or REF_PREF_F was written (R258, rule 5). -/
  armT : Bool := true
  armF : Bool := true
  /-- The time candidate whose return offset waits (R267). -/
  stepPend : Option Nat := none
  /-- A time candidate has qualified in HOLDOVER in the current second: the selection is made at its end (R269; log entry 115). -/
  selDue : Bool := false
  /-- The bias b (R261), 2^-16 ns. -/
  bias : Int := 0
  /-- b is being slewed to zero by REF_REALIGN MODE 0. -/
  biasSlew : Bool := false
  ep : Option Episode := none
  budgetOver : Bool := false
  mdl : Model := {}
  tempStale : Bool := false
  dieTemp : Int := 0
  /-- Seconds that TSTATE has been LOCKED. -/
  lockedS : Nat := 0
  /-- One entry per second, newest first, at most 64: RATE, temperature, |offset| base of TSEL. -/
  hist : List (Int × Int × Int) := []
  /-- `hist` as it was at the start of the fault (R262). -/
  faultHist : Option (List (Int × Int × Int)) := none
  /-- QR from ESMC by port; none before the first PDU and after a timeout. -/
  esmc : Tab Nat Nat := []
  /-- ESMC PDUs sent by port, and the QR last sent. -/
  esmcTx : Tab Nat (Nat × Nat) := []
  deriving DecidableEq, Repr

/-- The states of Table PLL-2. -/
inductive PllSt where
  | off | acq | phase | locked | bypass
  deriving DecidableEq, Repr

/-- One segment of a ramp profile (Table PLL-9): slope in 2^-40 per ms. -/
structure RampSeg where
  slope : Int
  durMs : Nat
  hold : Bool
  deriving DecidableEq, Repr

/-- The ramp of a PLL (R282, R283); x in 2^-40. -/
structure Ramp where
  segs : List RampSeg := []
  endAct : Nat := 0
  groups : Nat := 0
  run : Bool := false
  suspended : Bool := false
  seg : Nat := 0
  /-- x at the start of the segment, or at the last stop, clamp or suspension. -/
  x : Int := 0
  /-- Time into the segment when it was last suspended, and the model clock (ps) since when it runs. -/
  doneMs : Nat := 0
  since : Nat := 0
  /-- x is held at its range for the rest of the segment; PLL_RAMP_CLAMP has been raised in this run. -/
  held : Bool := false
  clamped : Bool := false
  deriving DecidableEq, Repr

/-- One PLL (chapter 12). -/
structure Pll where
  st : PllSt := .off
  bypOsc : Bool := false
  aligned : Bool := false
  /-- BG_STATE. -/
  bg : PllSt := .off
  cause : Nat := 0
  phErr : Int := 0
  /-- Time in BYPASS so far, ps, and the model clock (ps) at the entry. -/
  bypPs : Nat := 0
  bypAt : Nat := 0
  /-- LOCKED was entered from PHASE and its first SEC point has not come (R285). -/
  alignDue : Bool := false
  ramp : Ramp := {}
  deriving DecidableEq, Repr

/-- One PPS output (R286, R287): the ball's level, a pulse that became due during the last one, the squelch, the end of the last
pulse (model clock, ps), and the rising edge (active-core time, units) and the width of the last pulse. -/
structure PpsOut where
  high : Bool := false
  due : Bool := false
  squelched : Bool := false
  ended : Option Nat := none
  edge : Int := 0
  widthUs : Nat := 0
  deriving DecidableEq, Repr

/-- The PLLs, clock outputs and PPS outputs. -/
structure PllState where
  plls : Tab Nat Pll := []
  refclkOk : Bool := false
  /-- The PLL of the last started ramp (PLL_RAMP_STAT). -/
  rampPll : Nat := 0
  /-- CLKOUTs that are stopped low until their next alignment (R284). -/
  stopped : List Nat := []
  /-- Offset of the LTX edges of each lane group (12 is the time path) from the multiples of 12.8 ns of the active core, in 2^-45 ps (R277), with the
  ramp of PLL-T folded in up to model clock `ltxAt` (ps). -/
  ltx : Tab Nat Int := []
  ltxAt : Nat := 0
  /-- PLL_ALIGN commands that wait for the next SEC point. -/
  aligns : List CmdDesc := []
  pps : Tab Nat PpsOut := []
  deriving DecidableEq, Repr

/-- The channel states of Table GNSS-3. -/
inductive GnssChSt where
  | idle | pullIn | track | data | lost
  deriving DecidableEq, Repr

/-- One tracking channel (R298 to R301). -/
structure GnssCh where
  st : GnssChSt := .idle
  txValid : Bool := false
  slip : Bool := false
  cn0 : Nat := 0
  /-- The measurement of the last epoch, and word 0 of Table GNSS-4 as it was then. -/
  meas : Option GnssMeas := none
  word0 : Nat := 0
  deriving DecidableEq, Repr

/-- A search job beside its object (R293 to R296). -/
structure SearchJob where
  /-- Order of CREATE acceptance. -/
  order : Nat
  assisted : Bool := false
  cells : Nat := 0
  searched : Nat := 0
  /-- Sections held in the dwell in progress. -/
  sects : List Nat := []
  /-- GNSS_SEARCH_DONE has been raised. -/
  done : Bool := false
  found : Nat := 0
  /-- The four strongest detections. -/
  dets : List GnssDet := []
  deriving DecidableEq, Repr

/-- The latch of the last epoch (mailbox selector 0x0100). -/
structure GnssEpochRec where
  ts : Nat := 0
  latched : Nat := 0
  core : Bool := false
  unlocked : Bool := false
  delayPs : Nat := 0
  /-- GNSS_ANT_DLY and GNSS_IFB in force at the latch, ps. -/
  ant : Int := 0
  ifb : Int := 0
  deriving DecidableEq, Repr

/-- The survey of POS_MODE 1 (R306): valid epochs averaged, sums of positions in cm, estimated 1σ in cm. -/
structure GnssSurvey where
  run : Bool := false
  n : Nat := 0
  sx : Int := 0
  sy : Int := 0
  sz : Int := 0
  sigma : Nat := 0
  /-- Model clock at the start, time paused so far, and since when it pauses, ps. -/
  since : Nat := 0
  paused : Nat := 0
  pauseAt : Option Nat := none
  deriving DecidableEq, Repr

/-- GNSS (chapter 13). -/
structure GnssState where
  chans : Tab Nat GnssCh := []
  jobs : Tab Nat SearchJob := []
  nextOrder : Nat := 0
  /-- Job indexes that the firmware holds under AUTO_ACQ. -/
  fwJobs : List Nat := []
  /-- Sections that are OUT, and GNSS_SECT commands with ACTION 0 that wait for the dwell on their section. -/
  out : List Nat := []
  outWait : List (Nat × CmdDesc) := []
  /-- The section tests in progress, oldest first. -/
  testing : List (Nat × CmdDesc) := []
  clkOk : Bool := false
  clkPpm : Int := 0
  mag1 : Nat := 0
  mag5 : Nat := 0
  fault1 : Bool := false
  fault5 : Bool := false
  epochs : Nat := 0
  epoch : GnssEpochRec := {}
  valid : Bool := false
  sol : GnssSol := { o := 0, rmsPs := 0, weekOk := false }
  /-- Satellites that the last solution uses, and the paired ones among them (R303). -/
  used : Nat := 0
  paired : Nat := 0
  solEpoch : Nat := 0
  /-- Consecutive valid epochs, and the model clock (ps) since when the solution is invalid. -/
  validRun : Nat := 0
  invalidAt : Nat := 0
  everValid : Bool := false
  /-- Second of the core at the last valid solution. -/
  posSec : Option Nat := none
  survey : GnssSurvey := {}
  bursting : Bool := false
  inBurst : Bool := false
  /-- The epoch of the burst in progress has been (R308). -/
  burstEpoch : Bool := false
  /-- GNSS_RF_EN asserted. -/
  rfEn : Bool := false
  deriving DecidableEq, Repr

/-- The arguments that a block of a measurement channel runs under (Table HDL-3). -/
structure TicArgs where
  start : Nat := 0
  stop : Nat := 0
  base : Nat := 0
  n : Nat := 1
  nearKeep : Bool := false
  gate : Bool := false
  deriving DecidableEq, Repr

/-- A published block (Table TIC-3, mailbox). Values in 2^-16 ns. -/
structure TicResult where
  mean : Int
  sd : Int
  lo : Int
  hi : Int
  kept : Nat
  order : Nat
  near : Nat
  timeout : Nat
  /-- Time of day of the active core at the end: seconds, ns, frac. -/
  sec : Nat
  ns : Nat
  frac : Nat
  partialBlk : Bool
  core : Bool
  unlocked : Bool
  block : Nat
  deriving DecidableEq, Repr

/-- One TIC channel.  Stamps and reported values are in 2^-45 ps. -/
structure TicCh where
  armed : Bool := false
  rep : Bool := false
  args : TicArgs := {}
  /-- The gate ball has risen since the block was armed (R320). -/
  begun : Bool := false
  /-- A sample is armed and takes edges; after a completed sample false until the re-arm. -/
  live : Bool := false
  /-- The 100 ns between a completed sample and the re-arm. -/
  dead : Bool := false
  /-- PAIR and TIC_CH_OFS as the sample began. -/
  pair : Bool := false
  ofs : Int := 0
  /-- Coarse count and corrected fine part (2^-45 ps) of the edges of the sample in progress. -/
  startAt : Option (Nat × Int) := none
  stopAt : Option (Nat × Int) := none
  waitBase : Bool := false
  /-- The block waits for the end of a calibration job (R322). -/
  calWait : Bool := false
  kept : Nat := 0
  sum : Int := 0
  sumSq : Int := 0
  lo : Int := 0
  hi : Int := 0
  order : Nat := 0
  near : Nat := 0
  timeout : Nat := 0
  /-- The number of the current block, and of the next one to be armed. -/
  block : Nat := 0
  nextBlock : Nat := 0
  result : Option TicResult := none
  /-- Last sample as reported, NEAR, ORDER, index in its block. -/
  lastVal : Int := 0
  lastNear : Bool := false
  lastOrder : Bool := false
  lastIndex : Nat := 0
  deriving DecidableEq, Repr

/-- TIC (chapter 14). -/
structure TicState where
  chans : Tab Nat TicCh := []
  tbOk : Bool := false
  tbLock : Bool := false
  /-- Levels of TIC_GATE0 and TIC_GATE1. -/
  gate0 : Bool := false
  gate1 : Bool := false
  deriving DecidableEq, Repr

/-- One filled node of a calibration set (R330): results A and B in 2^-16 ns, the quality figure when stored, and for a lane
the delays of the 32 codes. -/
structure CalNode where
  a : Int := 0
  b : Int := 0
  quality : Nat := 0
  codes : List Int := []
  deriving DecidableEq, Repr

/-- A correction on its way or in force: results and the junction temperature it was made for, 1/256 °C; `live` when it is not
backed by a node (R330). -/
structure CalCorr where
  a : Int := 0
  b : Int := 0
  codes : List Int := []
  temp : Int := 0
  live : Bool := false
  deriving DecidableEq, Repr

/-- A calibration job beside its object: it runs, or has ended with an outcome of Table CAL-2. -/
structure CalJob where
  running : Bool := true
  outcome : Nat := 0
  quality : Nat := 0
  temp : Int := 0
  /-- The node stored, or 0xFF. -/
  node : Nat := 0xFF
  result : Int := 0
  /-- A TIC job waits for the channel's block to end (R322). -/
  waitBlock : Bool := false
  deriving DecidableEq, Repr

/-- A key of the sets: target, instance, node. -/
structure CalKey where
  target : Nat
  inst : Nat
  node : Nat := 0
  deriving DecidableEq, Repr

/-- One flash image slot (R332): the nodes of targets 0 to 2 that it holds, whether its CRC is valid, and the delay sets of the
time cores (R335). -/
structure CalSlot where
  nodes : List (CalKey × CalNode) := []
  valid : Bool := false
  deriving DecidableEq, Repr

/-- CAL (chapter 15). -/
structure CalState where
  jobs : Tab Nat CalJob := []
  /-- The filled nodes that jobs, reloads or the restore made; the factory nodes 3 and 6 of targets 0 to 2 stand beside them
  (R331; log entry 14). -/
  nodes : Tab CalKey CalNode := []
  /-- Corrections that wait for the boundary of their target (R329), and corrections in force; key node 0. -/
  pend : Tab CalKey CalCorr := []
  force : Tab CalKey CalCorr := []
  /-- Junction temperature, 1/256 °C. -/
  temp : Int := 0
  restored : Bool := false
  setBad : Bool := false
  /-- The CAL_SAVE in progress. -/
  saving : Option CmdDesc := none
  slotA : CalSlot := {}
  slotB : CalSlot := {}
  /-- PERS words that CAL wrote within the last STORE_MIN minutes, words whose new contents wait, and words refused with BUSY. -/
  recent : List Nat := []
  waiting : List (Nat × Word) := []
  retry : List (Nat × Word) := []
  /-- CAL_RELOAD with TARGET 6 has put a core's delay set in place; it takes effect at the first comparison (R335). -/
  coreSet : Bool := false
  deriving DecidableEq, Repr

/-- The engine states of Table ENG-4. -/
inductive EngSt where
  | off | idle | loaded | replay | run | draining | fault
  deriving DecidableEq, Repr

/-- What the part keeps of a verified image (Table ENG-5). -/
structure EngImage where
  /-- Header bytes 0 to 63. -/
  header : List Byte := []
  version : Nat := 0
  secVer : Nat := 0
  fmt : Nat := 0
  rdMin : Nat := 0
  banks : Nat := 0
  deriving DecidableEq, Repr

/-- One engine (chapter 16). -/
structure Eng where
  st : EngSt := .off
  image : Option EngImage := none
  cause : Nat := 0
  /-- Model clocks (ps) of the AUTO_RELOAD reloads of the last hour. -/
  reloads : List Nat := []
  /-- ENG_OUT in progress: descriptor (none when a power entry asked), model clock at its start, items finished. -/
  out : Option CmdDesc := none
  outAt : Nat := 0
  drained : Nat := 0
  /-- ENG_IN that waits for the end of replay. -/
  inCmd : Option CmdDesc := none
  deriving DecidableEq, Repr

/-- One single-holder task (R340). -/
structure EngTask where
  holder : Option Nat := none
  standby : Option Nat := none
  /-- ENG_TASK_PIN: the pinned holder, and the standby named with it. -/
  pin : Option Nat := none
  pinStby : Option Nat := none
  /-- A takeover is in progress: the old engine. -/
  moving : Option Nat := none
  /-- Journal: size in bytes, number of the last entry, its time (ns). -/
  size : Nat := 0
  entry : Nat := 0
  entryNs : Nat := 0
  deriving DecidableEq, Repr

/-- The power of a SPAD bank (R355): 0 on, 1 retention, 2 off, and the mode it is moving to. -/
structure SpadBank where
  mode : Nat := 0
  target : Option Nat := none
  deriving DecidableEq, Repr

/-- A tag record (Table PERF-2): times of the stages in 0.1 ns of the model clock, as reached. -/
structure TagRec where
  ingress : Nat
  egress : Nat
  q : Nat
  len : Nat
  ns : Nat
  /-- Offsets of stages 1 to 7 in 0.1 ns; none for a stage never reached. -/
  stages : List (Option Nat)
  deriving DecidableEq, Repr

/-- ENG, SPAD and PERF. -/
structure EngState where
  engs : Tab Nat Eng := []
  tasks : Tab Nat EngTask := []
  /-- The copy of the image in the firmware banks, and ENG_SPAD_FW. -/
  copy : Option EngImage := none
  fwBanks : Nat := 0
  /-- Policy entries that differ from their reset value: (table, index) and the 8 bytes as a number. -/
  pol : Tab (Nat × Nat) Nat := []
  banks : Tab Nat SpadBank := []
  /-- CREATE commands of calibration jobs that wait for the takeover of task 9 (R340). -/
  calWait : List CmdDesc := []
  /-- Model clock (ps) of the last ENG_SPAD_BANK_OFF. -/
  bankOffAt : Option Nat := none
  /-- SPAD bytes, canonical, unlisted bytes are 0 (log entry 15). -/
  spad : List Host.Cell := []
  /-- Bytes that the last SPAD_DMA read for the host. -/
  dmaOut : List Byte := []
  tags : List TagRec := []
  samples : List (Nat × Nat × Nat × Nat) := []
  /-- Engine time of each engine since its CYC was cleared, in 2^-40 ps, up to model clock `cycAt` (ps). -/
  cyc : Tab Nat Int := []
  cycAt : Nat := 0
  /-- The programmable counters (engine, counter): a value that stands still, or none while an event is counted; not listed: 0. -/
  pcs : Tab (Nat × Nat) (Option Nat) := []
  /-- Frames that are tagged: frame, and the model clock (ps) of its stages 0 to 4. -/
  tagged : Tab Nat (List (Option Nat)) := []
  deriving DecidableEq, Repr

/-- The roles of R371. -/
inductive PairRole where
  | alone | primary | standby
  deriving DecidableEq, Repr

/-- The pair states of Table PAIR-3. -/
inductive PairSt where
  | off | search | resync | synced | isolated | alone
  deriving DecidableEq, Repr

/-- A sequenced frame that waits for its acknowledgement (R368). -/
structure OmdTx where
  seq : Nat
  payload : OmdPayload
  sends : Nat := 1
  deriving DecidableEq, Repr

/-- One path (R369). -/
structure HbPath where
  ok : Bool := false
  misses : Nat := 0
  beats : Nat := 0
  /-- A heartbeat counted in the current interval. -/
  heard : Bool := false
  deriving DecidableEq, Repr

/-- The in-band heartbeat frame sent on every port of PAIR_INB_PORT, ahead of TC0 to TC7, with PCP 7 and Ethertype 0x88B5
(R370). -/
structure InbFrame where
  ports : List Nat
  dst : Nat
  vid : Nat
  payload : HbPayload
  deriving DecidableEq, Repr

/-- PAIR (chapter 17). -/
structure PairState where
  role : PairRole := .alone
  st : PairSt := .off
  omd : HbPath := {}
  inb : HbPath := {}
  mirrorOk : Bool := false
  follow : Bool := false
  /-- The second of the planned switchover. -/
  switchAt : Option Nat := none
  lanes : Nat := 0
  primaryS : Nat := 0
  peer : Option HbPayload := none
  rxSeq : Nat := 0
  held : List (Nat × OmdPayload) := []
  txSeq : Nat := 0
  txq : List OmdTx := []
  /-- Deltas that wait for the mirroring task, oldest first, with the model clock (ps). -/
  queue : List (OmdPayload × Nat) := []
  overflow : Bool := false
  /-- Resynchronisation: model clock at its start, flows destroyed, records, waiting PAIR_RESYNC. -/
  resyncAt : Nat := 0
  destroyed : Nat := 0
  records : Nat := 0
  resyncMs : Nat := 0
  resyncCmd : Option CmdDesc := none
  /-- Rehearsal in progress: its command (none for the firmware's own); RESULT of the last one. -/
  rehearsing : Bool := false
  rehearseCmd : Option CmdDesc := none
  rehearsal : List Byte := List.replicate 16 0
  /-- Last TIME offset (own minus primary) and round trip, 2^-16 ns, and offsets of the last 64 s, newest first. -/
  timeOff : Int := 0
  timeRtt : Int := 0
  diffs : List Int := []
  /-- The primary's mirrored time state. -/
  mirror : Option TimeStateRec := none
  /-- Rounds of heartbeats sent, and the payload of the last; the in-band frame last sent (R370). -/
  hbSent : Nat := 0
  hbOut : Option HbPayload := none
  inbOut : Option InbFrame := none
  /-- Since the lowest lane that is up changed: TIME frames sent, the transmit times of the last two, the peer's last TIME frame
  (its transmit time and the receive time here), and the frame last sent (its transmit time, and that pair). -/
  timeSent : Nat := 0
  timeTx : List Nat := []
  timeRx : Option (Nat × Nat) := none
  timeOut : Option (Nat × Option (Nat × Nat)) := none
  /-- The TIME_STATE last sent (Table PAIR-2: it is sent again at each change). -/
  timeLast : Option TimeStateRec := none
  /-- The primary has streamed its state to the standby's RESYNC in progress. -/
  streamed : Bool := false
  deriving DecidableEq, Repr

/-- The mode of a power domain (PWR_DOM_STAT0). -/
inductive DomMode where
  | on | retention | off | moving
  deriving DecidableEq, Repr

/-- The power sequence in progress (R394, R399), with the step it has reached; step 9 of an entry is its abandonment (R395). -/
inductive PwrSeq where
  | idle
  | entry (step : Nat)
  | wake (step : Nat)
  deriving DecidableEq, Repr

/-- PWR (chapter 18).  States are numbered as Table PWR-2: 0 RUN, 1 TRIM, 2 REST, 3 OFF. -/
structure PwrState where
  state : Nat := 0
  target : Nat := 0
  seq : PwrSeq := .idle
  /-- The state that the entry in progress started from (R396). -/
  from' : Nat := 0
  /-- An opposite request or a wake event waits for the next abort point: its target, and whether it is a wake event. -/
  opposite : Option (Nat × Bool) := none
  pend : Option Nat := none
  wakeFail : Bool := false
  trimPart : Bool := false
  failCause : Nat := 0
  failDom : Nat := 0
  ap : Nat := 0
  forced : Bool := false
  /-- Modes of the domains by the IDs of Table PWR-1; a domain not listed is on. -/
  dom : Tab Nat DomMode := []
  /-- PWR_PAD_HELD. -/
  padHeld : Word := 0
  /-- Sources of the wake in progress, PWR_WAKE_EN layout. -/
  wakeSrc : Nat := 0
  /-- The TRIM set in force: PWR_TRIM_CFG0 and PWR_TRIM_CFG1 as read at acceptance (R392). -/
  trim : Word × Word := (0, 0)
  /-- The TRIM set and TRIM_PART as the entry in progress found them, for its abandonment (R395). -/
  prior : (Word × Word) × Bool := ((0, 0), false)
  /-- Engines that the entry in progress took out, and lane groups that it removed (R395). -/
  outEngines : List Nat := []
  outGroups : List Nat := []
  /-- The AON clock runs from the bypass oscillator (R400). -/
  aonBypass : Bool := false
  /-- REG_EN_CORE and PWRDN_REQ_N at the balls. -/
  regEnCore : Bool := true
  pwrdnReqN : Bool := true
  /-- Lane groups and SPAD banks that a power state holds down (R390). -/
  downGroups : List Nat := []
  downBanks : List Nat := []
  /-- Domains whose switch the wake in progress still awaits, and whether one of its switches has failed (R399, R400). -/
  wakeDoms : List Nat := []
  wakeBad : Bool := false
  /-- POR_N or RST_N holds the part in reset (R437); RST_N with KEEP_TIME leaves the cores and the PPS outputs running (R404). -/
  inReset : Bool := false
  keepTime : Bool := false
  /-- The balls follow the boundary register (R443), and the current JTAG instruction. -/
  scan : Bool := false
  jtagIr : Nat := 1
  deriving DecidableEq, Repr

/-- A boot (R405 to R408): the sampled straps, SYS_BOOT_STAT and the command records that have not run. -/
structure BootState where
  straps : Straps := {}
  dirOk : Bool := false
  cfgApplied : Bool := false
  imgOk : Bool := false
  imgEntry : Bool := false
  cmdDone : Bool := false
  refused : Nat := 0
  cmdFail : Nat := 0
  /-- The command descriptors of the default configuration that have not started, in record order; one of them runs. -/
  cmds : List (List Byte) := []
  running : Bool := false
  deriving DecidableEq, Repr

/-- The machine. -/
structure State where
  /-- The ordering variant (Table DOC-1); SYS_ID and SYS_CAP follow from it.  Log entry 1. -/
  variant : Variant := .hd9648gx
  /-- Engines fused out at test (R6). -/
  fused : List Nat := []
  clk : Clock := {}
  /-- SYS_READY (Table PWR-12). -/
  ready : Word := 0
  keys : Tab Path KeySt := []
  regs : RegFile := {}
  /-- The RC bits of every register that has them, by register. -/
  rc : Tab RegKey Word := []
  /-- The mailbox pages, one for each block and path (R43). -/
  mbx : Tab (Block × Path) MbxSt := []
  /-- The word that the last read access returned, and the half-words of the last I²C read. -/
  rd : Word := 0
  /-- The upper half that a 64-bit read of BAR4 returns beside `rd` (R359). -/
  rdHi : Word := 0
  rdI2c : List (BitVec 16) := []
  evt : EvtState := {}
  pers : PersState := {}
  hif : HifState := {}
  /-- Handle tables and objects of each type (chapter 4). -/
  index : Tab ObjType IndexTab := []
  objs : Tab (ObjType × Nat) Obj := []
  lanes : Tab Nat Lane := []
  grps : Tab Nat Grp := []
  sw : SwState := {}
  fab : FabState := {}
  bpm : BpmState := {}
  fdb : FdbState := {}
  tcore : TcoreState := {}
  tchans : Tab Nat TChan := []
  lnk : LnkState := {}
  ref : RefState := {}
  /-- Advances with every free value taken (log entry 3). -/
  free : Nat := 0
  pll : PllState := {}
  gnss : GnssState := {}
  tic : TicState := {}
  cal : CalState := {}
  eng : EngState := {}
  pair : PairState := {}
  pwr : PwrState := {}
  boot : BootState := {}
  /-- The boot flash (R406): (address, byte) in canonical form, an erased byte reads 0xFF.  Log entry 7. -/
  flash : List Host.Cell := []
  /-- The commands that wait, first in, first out. -/
  pending : List Instr := []
  deriving DecidableEq, Repr

/-- The machine right after a power-on reset (R437, Table PWR-7): every field at its reset value. -/
def State.reset : State := {}

end Sys2Proof.Machine
end

