-- ==== Sys2Proof/Machine/Ops.lean ====
section
/-! DEFINITION. The named operations over registers, time and byte memories that every unit uses: the register map's
address arithmetic (R423 to R427), the written and applied copies (R10), RC counters, the time of the active core (R18,
R203), the memories as canonical lists. -/

set_option Elab.async false

namespace Sys2Proof.Machine

/-! ## Instances of the variants (R2 to R6) -/

/-- Lane groups of the variant: G0 to G11, or G0 to G7 (Table DOC-1). -/
def Variant.groups : Variant → Nat
  | .hd9632nx => 8
  | _ => 12

/-- User ports and lanes of the variant. -/
def Variant.ports (v : Variant) : Nat := 8 * v.groups

/-- Satellite baseband present. -/
def Variant.gnss : Variant → Bool
  | .hd9648gx => true
  | _ => false

/-- Pair link present. -/
def Variant.pair : Variant → Bool
  | .hd9632nx => false
  | _ => true

/-- Interval counter channels of the variant. -/
def Variant.tic : Variant → Nat
  | .hd9632nx => 8
  | _ => 16

/-- User port or host port exists on the variant (R5). -/
def State.portExists (s : State) (p : Nat) : Bool := p < s.variant.ports || p == 96

/-- Engine present: not fused out (R6). -/
def State.engPresent (s : State) (e : Nat) : Bool := e < 16 && !(s.fused.contains e)

/-! ## Registers -/

/-- The block IDs that have an EVT_ROUTE register (Table EVT-3). -/
def blockIds : List Nat := Block.all.map Block.id

/-- The instance stands in the replicated ranges of the tables. -/
def RegKey.inRange (k : RegKey) : Bool := k.i < k.name.row.count && k.j < k.name.row.count2

/-- Listed offsets whose instance is not implemented: they read zero, and writes are not counted (the notes at Tables MAP-9,
HIF-4, BPM-4, REF-8, EVT-3). -/
def RegKey.implemented (k : RegKey) : Bool :=
  match k.name with
  | .hifRingMod => 48 ≤ k.i && k.i ≤ 55
  | .bpmHeadroom => k.i ≤ 95
  | .refInCfg => 96 ≤ k.i && k.i ≤ 99
  | .refInOfs => k.i == 100 || k.i == 101
  | .evtRoute => blockIds.contains k.i
  | .portDownDisc => true
  | .portMtuDisc => true
  | .portResExpired => true
  | n => !(decide (n.row.block = .port) && k.i == 96)

/-- The unit or instance of the register is present on the part (R3, R5).  REF's candidate registers are REF's own. -/
def State.regPresent (s : State) (k : RegKey) : Bool :=
  match k.name.row.block with
  | .gnss => s.variant.gnss
  | .pair => s.variant.pair
  | .tic => k.name.row.count ≤ 1 || k.i < s.variant.tic
  | .lane => if k.name.row.count = 12 then k.i < s.variant.groups else k.i < s.variant.ports
  | .port => s.portExists k.i
  | .lnk => k.name.row.count ≤ 3 || k.i < s.variant.ports
  | .tcore => k.name.row.count ≤ 1 || k.i < s.variant.ports
  | .fdb => k.name ≠ .fdbPortCfg || s.portExists k.i
  | .bpm => k.name.row.count < 106 || k.i ≥ 96 || k.i < s.variant.ports
  | .eng => k.name.row.count ≠ 16 || s.engPresent k.i
  | .perf => k.name.row.count ≠ 16 || s.engPresent k.i
  | _ => true

/-- The BAR0 offset of a register (R427). -/
def RegKey.addr (k : RegKey) : Nat := k.name.row.base + k.name.row.stride * k.i + k.name.row.stride2 * k.j

/-- The instance of a row at BAR0 offset `a`, if the row has one there. -/
def RegName.at? (n : RegName) (a : Nat) : Option RegKey :=
  let d := n.row
  if a < d.base then none
  else
    let o := a - d.base
    let i := if d.stride = 0 then 0 else min (o / d.stride) (d.count - 1)
    let r := o - d.stride * i
    let j := if d.stride2 = 0 then 0 else r / d.stride2
    if d.stride * i + d.stride2 * j = o ∧ i < d.count ∧ j < d.count2 then some ⟨n, i, j⟩ else none

/-- The register at BAR0 offset `a` (R423, R425). -/
def regAt (a : Nat) : Option RegKey := RegName.all.findSome? (fun n => n.at? a)

/-- The fields of an instance: those of its row, without the fields that are RO for PLL-T and PLL-E (Tables PLL-4 and
PLL-5, R275). -/
def RegKey.fields (k : RegKey) : List Field :=
  match k.name with
  | .pllCfg => if k.i = 0 ∨ k.i = 3 then k.name.row.fields.filter (fun f => decide (f.lo ≠ 0 ∧ f.lo ≠ 10)) else k.name.row.fields
  | .pllRatioN => if k.i = 0 ∨ k.i = 3 then [] else k.name.row.fields
  | .pllRatioNum => if k.i = 0 ∨ k.i = 3 then [] else k.name.row.fields
  | .pllRatioDen => if k.i = 0 ∨ k.i = 3 then [] else k.name.row.fields
  | _ => if k.implemented then k.name.row.fields else []

/-- The bits of the fields that satisfy `p`. -/
def RegKey.mask (k : RegKey) (p : Field → Bool) : Word :=
  k.fields.foldl (fun m f => if p f then m ||| maskOf f.lo f.width else m) 0

/-- The bits of the fields of one type. -/
def RegKey.typeMask (k : RegKey) (t : FieldType) : Word := k.mask (fun f => decide (f.type = t))

/-- The RW and KW bits: those with a written copy. -/
def RegKey.storedMask (k : RegKey) : Word := k.mask (fun f => decide (f.type = .rw) || decide (f.type = .kw))

/-- The reset word of a row, from the Reset columns. -/
def RegName.resetRow (n : RegName) : Word := n.row.fields.foldl (fun w f => putField w f.lo f.width f.reset) 0

/-- The reset word of an instance: the row's, or the value its table gives by instance (BPM_QUOTA, Table BPM-8;
REF_CAND_CFG, Table REF-13; PLL_CFG, Table PLL-5; PLL_RATIO_N, Table PLL-4; LANE_TX_EQ, R452, in 10GBASE-R). -/
def RegKey.reset (k : RegKey) : Word :=
  match k.name with
  | .bpmQuota =>
    if k.i < 96 then 32768 else if k.i = 96 then 65536 else if k.i = 97 then 8192 else 4096
  | .refCandCfg => if k.i < 96 ∨ k.i = 102 then 0x871 else 0x870
  | .pllCfg => if k.i = 0 then 0x6B2 else if k.i = 3 then 0x6C6 else 0x2A0
  | .pllRatioN => if k.i = 0 then 50 else if k.i = 3 then 24 else 16
  | .laneTxEq => 0x2304
  | n => if k.implemented then n.resetRow else 0

/-- The mode a quad runs (Table LANE-1): quad `q` of 24 holds lanes 4q to 4q + 3. -/
def State.quadMode (s : State) (q : Nat) : Nat :=
  fieldOf (Tab.get 0 s.regs.applied ⟨.laneGrpMode, q / 2, 0⟩) (8 * (q % 2)) 3

/-- The FEC of a quad. -/
def State.quadFec (s : State) (q : Nat) : Nat :=
  fieldOf (Tab.get 0 s.regs.applied ⟨.laneGrpMode, q / 2, 0⟩) (8 * (q % 2) + 3) 2

/-- The port a lane belongs to: the first lane's number in the four-lane mode (R96, R98). -/
def State.portOfLane (s : State) (n : Nat) : Nat := if s.quadMode (n / 4) = 4 then 4 * (n / 4) else n

/-- A port's transmit side. -/
def State.port (s : State) (p : Nat) : PortSt := Tab.get {} s.fab.ports p

/-- The value a register has until it is written: its reset word; LANE_TX_EQ by the mode of its quad (R452). -/
def State.dflt (s : State) (k : RegKey) : Word :=
  if k.name = .laneTxEq ∧ s.quadMode (k.i / 4) = 1 then 0x3F0 else k.reset

/-- The written copy of a register (R10): its RW and KW bits as last written. -/
def State.written (s : State) (k : RegKey) : Word := Tab.get (s.dflt k) s.regs.written k

/-- The applied copy as it is stored. -/
def State.stored (s : State) (k : RegKey) : Word := Tab.get (s.dflt k) s.regs.applied k

/-- The applied copy of a register (R10): what its function runs on.  A stopped instance of REF, TCORE or PLL runs on the
reset value of the word (R422). -/
def State.applied (s : State) (k : RegKey) : Word :=
  if s.regs.stopped.contains k ∧ (k.name.row.block = .ref ∨ k.name.row.block = .tcore ∨ k.name.row.block = .pll) then k.reset
  else s.stored k

/-- The applied value of a field. -/
def State.ap (s : State) (f : FieldRef) (i : Nat := 0) (j : Nat := 0) : Nat :=
  fieldOf (s.applied ⟨f.reg, i, j⟩) f.lo f.width

/-- The applied value of a one-bit field. -/
def State.apB (s : State) (f : FieldRef) (i : Nat := 0) (j : Nat := 0) : Bool := s.ap f i j = 1

/-- The applied value of a signed field. -/
def State.apI (s : State) (f : FieldRef) (i : Nat := 0) (j : Nat := 0) : Int := signed f.width (s.ap f i j)

/-- The written value of a field. -/
def State.wr (s : State) (f : FieldRef) (i : Nat := 0) (j : Nat := 0) : Nat :=
  fieldOf (s.written ⟨f.reg, i, j⟩) f.lo f.width

/-- Writes a field in both copies, as the part itself does for a field it clears or changes. -/
def State.putBoth (s : State) (f : FieldRef) (x : Nat) (i : Nat := 0) (j : Nat := 0) : State :=
  let k : RegKey := ⟨f.reg, i, j⟩
  { s with regs := { s.regs with
      written := Tab.set s.regs.written k (putField (s.written k) f.lo f.width x)
      applied := Tab.set s.regs.applied k (putField (s.stored k) f.lo f.width x) } }

/-- Takes the bits of `m` of a word from the written into the applied copy. -/
def State.copyBits (s : State) (k : RegKey) (m : Word) : State :=
  { s with regs := { s.regs with
      applied := Tab.set s.regs.applied k ((s.stored k &&& ~~~ m) ||| (s.written k &&& m)) } }

/-- Takes the bits of `m` of a word back from the applied into the written copy (a value that is kept, a DISCARD). -/
def State.revertBits (s : State) (k : RegKey) (m : Word) : State :=
  { s with regs := { s.regs with
      written := Tab.set s.regs.written k ((s.written k &&& ~~~ m) ||| (s.stored k &&& m)) } }

/-- The RC bits of a register. -/
def State.rcWord (s : State) (k : RegKey) : Word := Tab.get 0 s.rc k

/-- Adds to an RC counter field, which saturates. -/
def State.bump (s : State) (f : FieldRef) (i : Nat := 0) (n : Nat := 1) : State :=
  let k : RegKey := ⟨f.reg, i, 0⟩
  { s with rc := Tab.set s.rc k (putField (s.rcWord k) f.lo f.width (satAdd f.width (fieldOf (s.rcWord k) f.lo f.width) n)) }

/-- Sets the bits `v` in the RC field of a register. -/
def State.rcSet (s : State) (f : FieldRef) (v : Nat) (i : Nat := 0) : State :=
  let k : RegKey := ⟨f.reg, i, 0⟩
  { s with rc := Tab.set s.rc k (s.rcWord k ||| (BitVec.ofNat 32 (v % 2 ^ f.width * 2 ^ f.lo))) }

/-- Clears bits of the RC field of a register. -/
def State.rcClear (s : State) (k : RegKey) (m : Word) : State :=
  { s with rc := Tab.set s.rc k (s.rcWord k &&& ~~~ m) }

/-! ## Power domains (Table PWR-1) -/

/-- The unit of a domain is absent under SYS_CAP: a lane group, the satellite baseband, the pair link or an engine (R3, R389). -/
def State.domAbsent (s : State) (d : Nat) : Bool :=
  (decide (s.variant.groups ≤ d) && decide (d < 12)) || (d == 14 && !s.variant.gnss) || (d == 19 && !s.variant.pair) ||
    (decide (32 ≤ d) && decide (d < 48) && !(s.engPresent (d - 32)))

/-- The mode of a domain; one whose unit is absent stays off (R389). -/
def State.domMode (s : State) (d : Nat) : DomMode := if s.domAbsent d then .off else Tab.get .on s.pwr.dom d

/-- The domain is on. -/
def State.domOn (s : State) (d : Nat) : Bool := decide (s.domMode d = .on)

/-- The domain of a register, or none for the registers of AON, for the control and status registers of a lane group (log entry
27) and for those whose domain Table PWR-1 does not name (log entry 5). -/
def RegKey.domain (k : RegKey) : Option Nat :=
  match k.name.row.block with
  | .lane => if k.name = .laneGrpMode then some k.i else if k.name.row.count = 12 then none else some (k.i / 8)
  | .port => some 12
  | .sw => some 12
  | .bpm => some 12
  | .fdb => some 12
  | .lnk => if k.name.row.count = 96 then some (k.i / 8) else none
  | .gnss => some 14
  | .tic => some 15
  | .hif => some 18
  | .pair => some 19
  | .eng => if k.name.row.count = 16 then some (32 + k.i) else if k.name = .engSpadPwr then none else some 17
  | .perf => some 17
  | _ => none

/-- The register's domain is not on (R33, R426). -/
def State.regDown (s : State) (k : RegKey) : Bool :=
  match k.domain with
  | none => false
  | some d => !(s.domOn d)

/-! ## Instances that an applied-copy error stops (R422) -/

/-- What a register word governs: the instance that stops with it. -/
inductive RegUnit where
  | lane (n : Nat)
  | grp (g : Nat)
  | port (p : Nat)
  | lnk (p : Nat)
  | gnssCh (c : Nat)
  | ticCh (c : Nat)
  | eng (e : Nat)
  | block (b : Block)
  deriving DecidableEq, Repr

/-- The instance that holds a word. -/
def RegKey.unit (k : RegKey) : RegUnit :=
  match k.name.row.block with
  | .lane => if k.name.row.count = 12 then .grp k.i else .lane k.i
  | .port => .port k.i
  | .fdb => if k.name = .fdbPortCfg then .port k.i else .block .fdb
  | .bpm => if k.name.row.count = 106 ∧ k.i < 96 then .port k.i else .block .bpm
  | .lnk => if k.name.row.count = 96 then .lnk k.i else .block .lnk
  | .gnss => if k.name.row.count = 64 then .gnssCh k.i else .block .gnss
  | .tic => if k.name.row.count = 16 then .ticCh k.i else .block .tic
  | .perf => if k.name.row.count = 16 then .eng k.i else .block .perf
  | b => .block b

/-- The instance has stopped and waits for a write of the word. -/
def State.halted (s : State) (u : RegUnit) : Bool := s.regs.stopped.any (fun k => decide (k.unit = u))

/-- A word from its fields: lowest bit, width, value. -/
def packed (l : List (Nat × Nat × Nat)) : Nat := (l.map (fun f => f.2.2 % 2 ^ f.2.1 * 2 ^ f.1)).sum

/-! ## Time -/

/-- Units of the cores' counters: 2^-45 ps. -/
def unitsPerPs : Nat := 2 ^ 45

/-- Units per nanosecond. -/
def unitsPerNs : Nat := 1000 * 2 ^ 45

/-- Units per second. -/
def unitsPerS : Nat := 1000000000 * unitsPerNs

/-- Units of one frac step, 2^-16 ns. -/
def unitsPerFrac : Nat := 125 * 2 ^ 32

/-- One TIME period at RATE `r`: 1.6 ns × (1 + r × 2^-44), a whole number of units (R203). -/
def periodUnits (r : Int) : Nat := (3200 * ((2 ^ 44 : Nat) + r)).toNat

/-- The counter of the active core (R18). -/
def State.tod (s : State) : Nat := if s.clk.active then s.clk.tcB else s.clk.tcA

/-- The counter of the standby core. -/
def State.standbyTod (s : State) : Nat := if s.clk.active then s.clk.tcA else s.clk.tcB

/-- Seconds of a counter, 48 bits. -/
def secOf (t : Nat) : Nat := t / unitsPerS % 2 ^ 48

/-- Nanoseconds within the second. -/
def nsOf (t : Nat) : Nat := t % unitsPerS / unitsPerNs

/-- The top 16 bits of the accumulator below the nanosecond. -/
def fracOf (t : Nat) : Nat := t % unitsPerNs / unitsPerFrac

/-- Total nanoseconds of a counter. -/
def totalNs (t : Nat) : Nat := t / unitsPerNs

/-- The clock with both cores moved by `d` units, never below the epoch. -/
def Clock.shift (c : Clock) (d : Int) : Clock :=
  { c with tcA := ((c.tcA : Int) + d).toNat, tcB := ((c.tcB : Int) + d).toNat }

/-! ## Byte memories in canonical form: addresses strictly rising, no entry with the byte an unlisted address reads as -/

/-- The form: addresses strictly rise and no entry holds the default byte `d`. -/
def Memory.wf (d : Byte) : List Host.Cell → Bool
  | [] => true
  | [(_, b)] => decide (b ≠ d)
  | (a, b) :: (a', b') :: m => decide (b ≠ d) && decide (a < a') && Memory.wf d ((a', b') :: m)

/-- The byte at an address. -/
def Memory.read (d : Byte) (m : List Host.Cell) (a : Nat) : Byte := Tab.get d m a

/-- Writes one byte: the default byte removes the entry. -/
def Memory.write (d : Byte) (m : List Host.Cell) (a : Nat) (b : Byte) : List Host.Cell :=
  match m with
  | [] => if b = d then [] else [(a, b)]
  | (a', b') :: m' =>
    if a < a' then (if b = d then (a', b') :: m' else (a, b) :: (a', b') :: m')
    else if a = a' then (if b = d then m' else (a, b) :: m')
    else (a', b') :: Memory.write d m' a b

/-- Writes consecutive bytes in ascending order. -/
def Memory.writes (d : Byte) (m : List Host.Cell) (a : Nat) : List Byte → List Host.Cell
  | [] => m
  | b :: l => Memory.writes d (Memory.write d m a b) (a + 1) l

/-- Reads `n` consecutive bytes. -/
def Memory.reads (d : Byte) (m : List Host.Cell) (a : Nat) : Nat → List Byte
  | 0 => []
  | n + 1 => Memory.read d m a :: Memory.reads d m (a + 1) n

/-- Removes every entry from address `lo` up to, not including, `hi`: those bytes read as the default again. -/
def Memory.clear (m : List Host.Cell) (lo hi : Nat) : List Host.Cell :=
  m.filter (fun c => decide (c.1 < lo ∨ hi ≤ c.1))

/-- What a byte of erased flash reads as (log entry 7). -/
def flashErased : Byte := 0xFF

/-! ## Keys (R36) -/

/-- The unlock state of a path. -/
def State.key (s : State) (p : Path) : KeySt := Tab.get {} s.keys p

/-- The path may make a KW or PW write: it is unlocked; the boot path never is (R37). -/
def State.unlocked (s : State) (p : Path) : Bool := decide (p ≠ .boot) && (s.key p).unlocked

/-- The path locks again: one KW or PW write, or one key-guarded command, consumes the unlock (R36, R37). -/
def State.consumeKey (s : State) (p : Path) : State :=
  { s with keys := Tab.set s.keys p { s.key p with unlocked := false } }

/-- The path a command acts on (R37). -/
def CmdSrc.path : CmdSrc → Path
  | .ring _ => .pcie
  | .eng e => .eng e
  | .boot => .boot

end Sys2Proof.Machine
end

