-- ==== Sys2Proof/Machine/Flags.lean ====
section
/-! DEFINITION. The flags that the part raises to the outside: events with suppression, log, pins and host delivery (chapter
19, R70), interrupt messages (R75), SYS_READY (R409), and the writing of completion ring slots (R63). -/

set_option Elab.async false

namespace Sys2Proof.Machine

/-- An event of Table EVT-2: its code and severity. -/
structure Evt where
  code : Nat
  sev : Nat
  deriving DecidableEq, Repr

/-! The catalogue of Table EVT-2: code and severity of each event. -/

/-- SYS_CFG_PARITY. -/
abbrev Ev.sysCfgParity : Evt := ⟨0x0001, 4⟩
/-- SYS_APPLY_OVF. -/
abbrev Ev.sysApplyOvf : Evt := ⟨0x0002, 3⟩
/-- SYS_KEY_REJECT. -/
abbrev Ev.sysKeyReject : Evt := ⟨0x0003, 3⟩
/-- SYS_OBJ_ABORT. -/
abbrev Ev.sysObjAbort : Evt := ⟨0x0004, 2⟩
/-- SYS_READY_CHG. -/
abbrev Ev.sysReadyChg : Evt := ⟨0x0005, 1⟩
/-- SYS_BOOT_FAULT. -/
abbrev Ev.sysBootFault : Evt := ⟨0x0006, 5⟩
/-- HIF_CFG_BUSY. -/
abbrev Ev.hifCfgBusy : Evt := ⟨0x0101, 2⟩
/-- HIF_TIME_BEACON. -/
abbrev Ev.hifTimeBeacon : Evt := ⟨0x0102, 1⟩
/-- HIF_RING_STOPPED. -/
abbrev Ev.hifRingStopped : Evt := ⟨0x0103, 1⟩
/-- HIF_RING_ERR. -/
abbrev Ev.hifRingErr : Evt := ⟨0x0104, 4⟩
/-- PWR_STATE. -/
abbrev Ev.pwrState : Evt := ⟨0x0201, 1⟩
/-- PWR_REQ_REFUSED. -/
abbrev Ev.pwrReqRefused : Evt := ⟨0x0202, 2⟩
/-- PWR_REQ_DROPPED. -/
abbrev Ev.pwrReqDropped : Evt := ⟨0x0203, 2⟩
/-- PWR_ENTRY_ABORT. -/
abbrev Ev.pwrEntryAbort : Evt := ⟨0x0204, 2⟩
/-- PWR_TRIM_PARTIAL. -/
abbrev Ev.pwrTrimPartial : Evt := ⟨0x0205, 2⟩
/-- PWR_WAKE_DONE. -/
abbrev Ev.pwrWakeDone : Evt := ⟨0x0206, 1⟩
/-- PWR_WAKE_FAIL. -/
abbrev Ev.pwrWakeFail : Evt := ⟨0x0207, 6⟩
/-- EVT_SUPPRESS. -/
abbrev Ev.evtSuppress : Evt := ⟨0x0301, 3⟩
/-- PERS_WRITE_REFUSED. -/
abbrev Ev.persWriteRefused : Evt := ⟨0x0401, 2⟩
/-- PERS_WEAR_LIMIT. -/
abbrev Ev.persWearLimit : Evt := ⟨0x0402, 4⟩
/-- LANE_MODE_BAD. -/
abbrev Ev.laneModeBad : Evt := ⟨0x1001, 3⟩
/-- LANE_ADPT_LIMIT. -/
abbrev Ev.laneAdptLimit : Evt := ⟨0x1002, 3⟩
/-- LANE_QUAL_CHG. -/
abbrev Ev.laneQualChg : Evt := ⟨0x1003, 1⟩
/-- LANE_GRP_STATE. -/
abbrev Ev.laneGrpState : Evt := ⟨0x1004, 1⟩
/-- LANE_GRP_BUSY. -/
abbrev Ev.laneGrpBusy : Evt := ⟨0x1005, 2⟩
/-- PORT_GCL_ACTIVE. -/
abbrev Ev.portGclActive : Evt := ⟨0x1801, 1⟩
/-- PORT_PREEMPT_LOST. -/
abbrev Ev.portPreemptLost : Evt := ⟨0x1802, 4⟩
/-- PORT_DEADLINE. -/
abbrev Ev.portDeadline : Evt := ⟨0x1803, 4⟩
/-- PORT_HOLD_END. -/
abbrev Ev.portHoldEnd : Evt := ⟨0x1804, 3⟩
/-- PORT_RES_LIMIT. -/
abbrev Ev.portResLimit : Evt := ⟨0x1805, 3⟩
/-- SW_CANARY_FAULT. -/
abbrev Ev.swCanaryFault : Evt := ⟨0x2001, 4⟩
/-- SW_FLOOR_VIOL. -/
abbrev Ev.swFloorViol : Evt := ⟨0x2002, 6⟩
/-- SW_AVS_FAIL. -/
abbrev Ev.swAvsFail : Evt := ⟨0x2003, 5⟩
/-- SW_CAP_REFUSED. -/
abbrev Ev.swCapRefused : Evt := ⟨0x2004, 3⟩
/-- SW_COND_LEFT. -/
abbrev Ev.swCondLeft : Evt := ⟨0x2005, 5⟩
/-- SW_CFG_BAD. -/
abbrev Ev.swCfgBad : Evt := ⟨0x2006, 3⟩
/-- BPM_HR_EXHAUSTED. -/
abbrev Ev.bpmHrExhausted : Evt := ⟨0x2401, 4⟩
/-- BPM_DOUBLE_FREE. -/
abbrev Ev.bpmDoubleFree : Evt := ⟨0x2402, 4⟩
/-- BPM_FOREIGN_FREE. -/
abbrev Ev.bpmForeignFree : Evt := ⟨0x2403, 4⟩
/-- BPM_LEAK. -/
abbrev Ev.bpmLeak : Evt := ⟨0x2404, 4⟩
/-- BPM_STORE_FAULT. -/
abbrev Ev.bpmStoreFault : Evt := ⟨0x2405, 5⟩
/-- BPM_CARVE_DONE. -/
abbrev Ev.bpmCarveDone : Evt := ⟨0x2406, 1⟩
/-- BPM_CFG_BAD. -/
abbrev Ev.bpmCfgBad : Evt := ⟨0x2407, 3⟩
/-- FDB_FULL. -/
abbrev Ev.fdbFull : Evt := ⟨0x2801, 3⟩
/-- FDB_VER_FULL. -/
abbrev Ev.fdbVerFull : Evt := ⟨0x2802, 3⟩
/-- TCORE_STATE. -/
abbrev Ev.tcoreState : Evt := ⟨0x3001, 2⟩
/-- TCORE_STEP_DONE. -/
abbrev Ev.tcoreStepDone : Evt := ⟨0x3002, 2⟩
/-- TCORE_TRACK_LOST. -/
abbrev Ev.tcoreTrackLost : Evt := ⟨0x3003, 3⟩
/-- TCORE_SWAP_REFUSED. -/
abbrev Ev.tcoreSwapRefused : Evt := ⟨0x3004, 2⟩
/-- TCORE_SWAP_DONE. -/
abbrev Ev.tcoreSwapDone : Evt := ⟨0x3005, 1⟩
/-- TCORE_FAULT. -/
abbrev Ev.tcoreFault : Evt := ⟨0x3006, 5⟩
/-- TCORE_CH_STATE. -/
abbrev Ev.tcoreChState : Evt := ⟨0x3007, 1⟩
/-- TCORE_MASTER_CHG. -/
abbrev Ev.tcoreMasterChg : Evt := ⟨0x3008, 2⟩
/-- TCORE_CLASS_CHG. -/
abbrev Ev.tcoreClassChg : Evt := ⟨0x3009, 2⟩
/-- LNK_STATE. -/
abbrev Ev.lnkState : Evt := ⟨0x3401, 1⟩
/-- LNK_PHASE_SLIP. -/
abbrev Ev.lnkPhaseSlip : Evt := ⟨0x3402, 3⟩
/-- LNK_SNAP_FAULT. -/
abbrev Ev.lnkSnapFault : Evt := ⟨0x3403, 3⟩
/-- LNK_PAIR_BAD. -/
abbrev Ev.lnkPairBad : Evt := ⟨0x3404, 3⟩
/-- LNK_PAIR_MISMATCH. -/
abbrev Ev.lnkPairMismatch : Evt := ⟨0x3405, 3⟩
/-- LNK_ASYM_HOLD. -/
abbrev Ev.lnkAsymHold : Evt := ⟨0x3406, 2⟩
/-- REF_CAND_STATE. -/
abbrev Ev.refCandState : Evt := ⟨0x3801, 1⟩
/-- REF_SEL_CHG. -/
abbrev Ev.refSelChg : Evt := ⟨0x3802, 2⟩
/-- REF_HOLDOVER. -/
abbrev Ev.refHoldover : Evt := ⟨0x3803, 3⟩
/-- REF_BUDGET. -/
abbrev Ev.refBudget : Evt := ⟨0x3804, 4⟩
/-- REF_STEP_PENDING. -/
abbrev Ev.refStepPending : Evt := ⟨0x3805, 3⟩
/-- REF_TEMP_STALE. -/
abbrev Ev.refTempStale : Evt := ⟨0x3806, 3⟩
/-- REF_CFG_BAD. -/
abbrev Ev.refCfgBad : Evt := ⟨0x3807, 3⟩
/-- PLL_STATE. -/
abbrev Ev.pllState : Evt := ⟨0x3A01, 1⟩
/-- PLL_BYPASS. -/
abbrev Ev.pllBypass : Evt := ⟨0x3A02, 4⟩
/-- PLL_REFCLK_LOST. -/
abbrev Ev.pllRefclkLost : Evt := ⟨0x3A03, 5⟩
/-- PLL_RETURN. -/
abbrev Ev.pllReturn : Evt := ⟨0x3A04, 2⟩
/-- PLL_RAMP_CLAMP. -/
abbrev Ev.pllRampClamp : Evt := ⟨0x3A05, 2⟩
/-- PLL_RAMP_DONE. -/
abbrev Ev.pllRampDone : Evt := ⟨0x3A06, 1⟩
/-- PLL_ALIGN_DONE. -/
abbrev Ev.pllAlignDone : Evt := ⟨0x3A07, 1⟩
/-- PLL_ALIGN_BAD. -/
abbrev Ev.pllAlignBad : Evt := ⟨0x3A08, 3⟩
/-- PLL_CFG_BAD. -/
abbrev Ev.pllCfgBad : Evt := ⟨0x3A09, 3⟩
/-- GNSS_NOCLK. -/
abbrev Ev.gnssNoclk : Evt := ⟨0x4001, 4⟩
/-- GNSS_SAMPLE_FAULT. -/
abbrev Ev.gnssSampleFault : Evt := ⟨0x4002, 4⟩
/-- GNSS_SEARCH_DONE. -/
abbrev Ev.gnssSearchDone : Evt := ⟨0x4003, 1⟩
/-- GNSS_SECT_STATE. -/
abbrev Ev.gnssSectState : Evt := ⟨0x4004, 1⟩
/-- GNSS_CH_STATE. -/
abbrev Ev.gnssChState : Evt := ⟨0x4005, 1⟩
/-- GNSS_SOLUTION. -/
abbrev Ev.gnssSolution : Evt := ⟨0x4006, 2⟩
/-- GNSS_SURVEY_DONE. -/
abbrev Ev.gnssSurveyDone : Evt := ⟨0x4007, 2⟩
/-- GNSS_MODE. -/
abbrev Ev.gnssMode : Evt := ⟨0x4008, 1⟩
/-- GNSS_REACQ. -/
abbrev Ev.gnssReacq : Evt := ⟨0x4009, 2⟩
/-- GNSS_CFG_BAD. -/
abbrev Ev.gnssCfgBad : Evt := ⟨0x400A, 3⟩
/-- TIC_TB_STATE. -/
abbrev Ev.ticTbState : Evt := ⟨0x4401, 2⟩
/-- TIC_RESULT. -/
abbrev Ev.ticResult : Evt := ⟨0x4402, 1⟩
/-- CAL_JOB_DONE. -/
abbrev Ev.calJobDone : Evt := ⟨0x4601, 1⟩
/-- CAL_STORE_FAIL. -/
abbrev Ev.calStoreFail : Evt := ⟨0x4602, 4⟩
/-- CAL_SET_BAD. -/
abbrev Ev.calSetBad : Evt := ⟨0x4603, 4⟩
/-- ENG_STATE. -/
abbrev Ev.engState : Evt := ⟨0x4801, 1⟩
/-- ENG_TASK_MOVE. -/
abbrev Ev.engTaskMove : Evt := ⟨0x4802, 2⟩
/-- ENG_FAULT. -/
abbrev Ev.engFault : Evt := ⟨0x4803, 5⟩
/-- ENG_TCHAN_UNPLACED. -/
abbrev Ev.engTchanUnplaced : Evt := ⟨0x4804, 4⟩
/-- ENG_JFMT_CHG. -/
abbrev Ev.engJfmtChg : Evt := ⟨0x4805, 1⟩
/-- ENG_POL_BAD. -/
abbrev Ev.engPolBad : Evt := ⟨0x4806, 4⟩
/-- ENG_SPAD_FW_WRITE. -/
abbrev Ev.engSpadFwWrite : Evt := ⟨0x4807, 3⟩
/-- ENG_SPAD_WRITE_LOST. -/
abbrev Ev.engSpadWriteLost : Evt := ⟨0x4808, 3⟩
/-- ENG_SPAD_BANK_OFF. -/
abbrev Ev.engSpadBankOff : Evt := ⟨0x4809, 3⟩
/-- ENG_CFG_BAD. -/
abbrev Ev.engCfgBad : Evt := ⟨0x480A, 3⟩
/-- PAIR_STATE. -/
abbrev Ev.pairState : Evt := ⟨0x4C01, 2⟩
/-- PAIR_PATH_LOST. -/
abbrev Ev.pairPathLost : Evt := ⟨0x4C02, 4⟩
/-- PAIR_PATH_UP. -/
abbrev Ev.pairPathUp : Evt := ⟨0x4C03, 2⟩
/-- PAIR_PROMOTE. -/
abbrev Ev.pairPromote : Evt := ⟨0x4C04, 5⟩
/-- PAIR_ROLE_REFUSED. -/
abbrev Ev.pairRoleRefused : Evt := ⟨0x4C05, 3⟩
/-- PAIR_SYNCED. -/
abbrev Ev.pairSynced : Evt := ⟨0x4C06, 2⟩
/-- PAIR_MIR_OVERFLOW. -/
abbrev Ev.pairMirOverflow : Evt := ⟨0x4C07, 4⟩
/-- PAIR_FLOW_DIVERGE. -/
abbrev Ev.pairFlowDiverge : Evt := ⟨0x4C08, 4⟩
/-- PAIR_REHEARSE_DONE. -/
abbrev Ev.pairRehearseDone : Evt := ⟨0x4C09, 2⟩
/-- PERF_CFG_BAD. -/
abbrev Ev.perfCfgBad : Evt := ⟨0x4E01, 3⟩

/-- *prefix*_APPLIED_ERR of a block (R414). -/
def Ev.appliedErr (b : Block) (reloaded : Bool) : Evt := ⟨256 * b.id + 0xFF, if reloaded then 4 else 5⟩

/-! ## Timestamps -/

/-- UNLOCKED of TSF (R231). -/
def State.unlockedTime (s : State) : Bool :=
  match s.tcore.tstate with
  | .freerun => true
  | .acquire => s.tcore.acqFromFree
  | _ => false

/-- A latch of the active core now (R77, R66). -/
def State.ts48 (s : State) : Ts48 :=
  { ns := totalNs s.tod % 2 ^ 32, frac := fracOf s.tod, valid := true, unlocked := s.unlockedTime, core := s.clk.active }

/-! ## Rings the part fills -/

/-- A ring. -/
def State.ring (s : State) (n : Nat) : Ring := Tab.get {} s.hif.rings n

/-- A ring of the host interface. -/
def HifState.ring (h : HifState) (n : Nat) : Ring := Tab.get {} h.rings n

/-- A ring replaced. -/
def HifState.setRing (h : HifState) (n : Nat) (r : Ring) : HifState := { h with rings := Tab.set h.rings n r }

/-- A ring replaced. -/
def State.setRing (s : State) (n : Nat) (r : Ring) : State := { s with hif := s.hif.setRing n r }

/-- Descriptors that the ring holds: (PIDX − CIDX) mod 65,536. -/
def Ring.count (r : Ring) : Nat := (r.pidx + 65536 - r.cidx) % 65536

/-- The size S of a ring: 2^LOG2. -/
def State.ringSize (s : State) (n : Nat) : Nat := 2 ^ s.ap Fld.hifRingSize_LOG2 n

/-- Slots of a completion ring that are neither written nor reserved (R62). -/
def State.freeSlots (s : State) (n : Nat) : Nat := s.ringSize n - ((s.ring n).count + (s.ring n).reserved)

/-- Sends an MSI-X message, or sets the PBA bit of a masked vector (R76).  It is sent while Bus Master Enable is clear too, where the
spec does not say: DESIGN CHOICE, log entry 102. -/
def HifState.sendVec (h : HifState) (v : Nat) : HifState :=
  if h.unmasked.contains v then { h with msgs := h.msgs + 1, lastVec := some v }
  else { h with pba := insertAsc v h.pba }

/-- Sends the message of a completion ring: clears ARMED, restarts the count and the timer (R75). -/
def State.ringMessage (s : State) (n : Nat) (h : HifState) : HifState :=
  (h.setRing n { h.ring n with armed := false, sinceMsg := 0, timer := false }).sendVec (s.ap Fld.hifRingCtrl_VEC n)

/-- Writes one descriptor into a completion ring and sends its message when R75 asks for it; `bypass` says that an event of
severity SEV or higher has been written. -/
def State.writeSlot (s : State) (n : Nat) (body : CplBody) (bypass : Bool) (h : HifState) : HifState :=
  let r := h.ring n
  let p := (r.pidx + 1) % 65536
  let r' : Ring := { r with
    pidx := p
    phase := if p % s.ringSize n = 0 then !r.phase else r.phase
    slots := r.slots ++ [⟨r.phase, body⟩]
    sinceMsg := r.sinceMsg + 1
    timer := true }
  let h' := h.setRing n r'
  if r'.armed && (bypass || decide (max 1 (s.ap Fld.hifRingMod_CNT n) ≤ r'.sinceMsg) || s.ap Fld.hifRingMod_USEC n == 0)
  then s.ringMessage n h' else h'

/-! ## Events (R417) -/

/-- The suppression record of a code and ARG0. -/
def EvtState.supOf (e : EvtState) (code a0 : Nat) : Suppress :=
  (e.sup.find? (fun r => r.code == code && r.arg0 == a0)).getD { code := code, arg0 := a0 }

/-- A suppression record replaced. -/
def EvtState.setSup (e : EvtState) (r : Suppress) : EvtState :=
  { e with sup := r :: e.sup.filter (fun x => !(x.code == r.code && x.arg0 == r.arg0)) }

/-- The count of an occurrence in window `w`, and whether it is suppressed (R417, stage 1; EVT_SUPPRESS never is). -/
def Suppress.count' (r : Suppress) (rate w : Nat) : Suppress × Bool :=
  let n := if r.win = w then r.count + 1 else 1
  if r.active then ({ r with win := w, count := n, total := min (r.total + 1) (2 ^ 32 - 1) }, true)
  else if max 1 rate < n then ({ r with win := w, count := n, active := true, total := 1 }, true)
  else ({ r with win := w, count := n }, false)

/-- The event ring of a block (R417, stage 4). -/
def State.evtRing (s : State) (blk : Nat) : Nat :=
  48 + (if s.apB Fld.evtRoute_OVR blk then s.ap Fld.evtRoute_RING blk else s.ap Fld.hifGlbCtrl_EVT_RING)

/-- The event reaches the host stage: severity at or above MIN_SEV of its block. -/
def State.evtForHost (s : State) (e : Evt) : Bool := max 1 (s.ap Fld.evtRoute_MIN_SEV (e.code / 256)) ≤ e.sev

/-- The event finds its ring in RUN with a free slot, and events enabled (R70). -/
def State.evtDeliverable (s : State) (e : Evt) : Bool :=
  let n := s.evtRing (e.code / 256)
  s.apB Fld.hifGlbCtrl_EVT_EN && decide ((s.ring n).state = .run) && decide (0 < s.freeSlots n)

/-- The log entry of an occurrence that passed suppression. -/
def State.evtEntry (s : State) (e : Evt) (a0 a1 a2 : Nat) : EvtEntry :=
  { code := e.code, sev := e.sev, ts := s.ts48, arg0 := a0, arg1 := a1, arg2 := a2
    host := s.evtForHost e, seq := if s.evtForHost e then s.evt.seq else 0xFFFF }

/-- Stages 2 to 4 on EVT: the log, the first-fault record, EVT_FAULT_N and SEQ. -/
def State.evtLogged (s : State) (e : Evt) (a0 a1 a2 : Nat) : EvtState :=
  let x := s.evtEntry e a0 a1 a2
  let fsev := s.ap Fld.evtCfg_FAULT_SEV
  { s.evt with
    log := (x :: s.evt.log).take 64
    first := if s.evt.first.isNone && decide (5 ≤ e.sev) then some x else s.evt.first
    faultN := s.evt.faultN || (decide (fsev ≠ 0) && decide (fsev ≤ e.sev))
    seq := if s.evtForHost e then (s.evt.seq + 1) % 65536 else s.evt.seq }

/-- Stages 3 and 4 on the RC words: the block bit of EVT_PIN_STAT, and HIF_EVT_LOST. -/
def State.evtRc (s : State) (e : Evt) : Tab RegKey Word :=
  let b := e.code / 256
  let psev := s.ap Fld.evtRoute_PIN_SEV b
  let s1 := if psev ≠ 0 ∧ psev ≤ e.sev then s.rcSet Fld.evtPinStat_VAL (2 ^ (b % 32)) (b / 32) else s
  (if s.evtForHost e && !(s.evtDeliverable e) then s1.bump Fld.hifEvtLost_VAL else s1).rc

/-- Stage 4 on the host interface: the event descriptor, or FAULT_VEC for a lost event of the fault level. -/
def State.evtHif (s : State) (e : Evt) (a0 a1 a2 : Nat) : HifState :=
  let n := s.evtRing (e.code / 256)
  if !(s.evtForHost e) then s.hif
  else if s.evtDeliverable e then
    s.writeSlot n (.evt e.code e.sev s.ts48 a0 a1 a2 s.evt.seq)
      (decide (s.ap Fld.hifRingMod_SEV n ≠ 0) && decide (s.ap Fld.hifRingMod_SEV n ≤ e.sev)) s.hif
  else if 5 ≤ e.sev then s.hif.sendVec (s.ap Fld.hifGlbCtrl_FAULT_VEC) else s.hif

/-- An occurrence that is not suppressed: log, pins and host (R417, stages 2 to 4). -/
def State.emit (s : State) (e : Evt) (a0 a1 a2 : Nat) : State :=
  { s with evt := s.evtLogged e a0 a1 a2, rc := s.evtRc e, hif := s.evtHif e a0 a1 a2 }

/-- Raises an event (R417).  Only EVT, RC bits and the host interface change. -/
def State.raise (s : State) (e : Evt) (a0 : Nat := 0) (a1 : Nat := 0) (a2 : Nat := 0) : State :=
  let a0 := a0 % 2 ^ 32
  let r := (s.evt.supOf e.code a0).count' (s.ap Fld.evtCfg_RATE) (s.clk.now / 10 ^ 9)
  let counted : State := { s with evt := s.evt.setSup r.1 }
  let t := if r.2 then counted.bump Fld.evtSuppressed_VAL else counted.emit e a0 (a1 % 2 ^ 32) (a2 % 2 ^ 32)
  { s with evt := t.evt, rc := t.rc, hif := t.hif }

/-- Raises an event when a condition holds. -/
def State.raiseIf (s : State) (c : Bool) (e : Evt) (a0 : Nat := 0) (a1 : Nat := 0) (a2 : Nat := 0) : State :=
  { s with
    evt := (if c then (s.raise e a0 a1 a2) else s).evt
    rc := (if c then (s.raise e a0 a1 a2) else s).rc
    hif := (if c then (s.raise e a0 a1 a2) else s).hif }

/-! ## SYS_READY (R409) -/

/-- The bits of Table PWR-12. -/
abbrev Rdy.sys : Nat := 0
abbrev Rdy.hif : Nat := 1
abbrev Rdy.fabric : Nat := 2
abbrev Rdy.bpm : Nat := 3
abbrev Rdy.fdb : Nat := 4
abbrev Rdy.tcore : Nat := 5
abbrev Rdy.ref : Nat := 6
abbrev Rdy.pll : Nat := 7
abbrev Rdy.lnk : Nat := 8
abbrev Rdy.gnss : Nat := 9
abbrev Rdy.tic : Nat := 10
abbrev Rdy.cal : Nat := 11
abbrev Rdy.eng : Nat := 12
abbrev Rdy.pair : Nat := 13
abbrev Rdy.cfg : Nat := 14
abbrev Rdy.admission : Nat := 15
abbrev Rdy.grp (g : Nat) : Nat := 16 + g

/-- A bit of SYS_READY. -/
def State.isReady (s : State) (b : Nat) : Bool := bitAt s.ready.toNat b

/-- Sets or clears a bit of SYS_READY; a change raises SYS_READY_CHG with the new value (R409). -/
def State.setReady (s : State) (b : Nat) (v : Bool) : State :=
  let w := putField s.ready b 1 (b2n v)
  let t := { s with ready := w }.raiseIf (decide (w ≠ s.ready)) Ev.sysReadyChg w.toNat
  { s with ready := w, evt := t.evt, rc := t.rc, hif := t.hif }

/-- The SYS_READY bit of a block, or none where the block has none of its own (R422). -/
def Block.readyBit : Block → Option Nat
  | .sys => some Rdy.sys
  | .hif => some Rdy.hif
  | .sw => some Rdy.fabric
  | .port => some Rdy.fabric
  | .bpm => some Rdy.bpm
  | .fdb => some Rdy.fdb
  | .lnk => some Rdy.lnk
  | .gnss => some Rdy.gnss
  | .tic => some Rdy.tic
  | .cal => some Rdy.cal
  | .eng => some Rdy.eng
  | .pair => some Rdy.pair
  | _ => none

end Sys2Proof.Machine
end

