-- ==== Sys2Proof/Machine/Operands.lean ====
section
/-! DEFINITION. The operand forms of commands: the bytes of a descriptor (Table HIF-9c, R65), handles (R11), the check order
of Table HDL-4, the completion (R84, R85) and the free list of handle indexes (R88). -/

set_option Elab.async false

namespace Sys2Proof.Machine

/-! ## Status codes -/

/-- The code of a status (Table DOC-8). -/
def Status.code : Status → Nat
  | .ok => 0x00 | .busy => 0x01 | .unsupported => 0x02 | .handleStale => 0x03 | .noResource => 0x04 | .quota => 0x05
  | .drainedAbort => 0x06 | .parity => 0x07 | .locked => 0x08 | .badArg => 0x09 | .wearOut => 0x0A | .notReady => 0x0B
  | .poolEmpty => 0x0C | .boundRefused => 0x0D

/-! ## Descriptors -/

/-- FENCE of the descriptor. -/
def CmdDesc.fence (d : CmdDesc) : Bool := bitAt d.flags.toNat 0

/-- EXT of the descriptor. -/
def CmdDesc.hasExt (d : CmdDesc) : Bool := bitAt d.flags.toNat 1

/-- EXT_ADDR, bytes 12 to 19. -/
def CmdDesc.extAddr (d : CmdDesc) : Nat := leAt d.args 0 8

/-- EXT_LEN, bytes 20 to 21. -/
def CmdDesc.extLen (d : CmdDesc) : Nat := leAt d.args 8 2

/-- The arguments: bytes 12 on of the descriptor, or the buffer at EXT_ADDR (R65, R86). -/
def CmdDesc.argBytes (d : CmdDesc) : List Byte := if d.hasExt then d.ext.take d.extLen else d.args

/-- Argument bytes `n` to `n + k - 1` in the numbering of the descriptor, little-endian. -/
def CmdDesc.arg (d : CmdDesc) (n k : Nat) : Nat := leAt d.argBytes (n - 12) k

/-- An argument as a signed number. -/
def CmdDesc.argI (d : CmdDesc) (n k : Nat) : Int := signed (8 * k) (d.arg n k)

/-- Bytes `n` to `n + k - 1` of the EXT buffer. -/
def CmdDesc.buf (d : CmdDesc) (n k : Nat) : Nat := leAt (d.ext.take d.extLen) n k

/-- Argument bytes from `n` to `m - 1` are all zero (a reserved range). -/
def CmdDesc.zero (d : CmdDesc) (n m : Nat) : Bool :=
  ((d.argBytes.drop (n - 12)).take (m - n)).all (fun b => decide (b = 0))

/-- The form errors that every command shares (check 2 of Table HDL-4): a reserved bit of bytes 2 and 3, a bad EXT address or
length, a reserved byte beside EXT (R65), EXT missing where it is required. -/
def CmdDesc.badForm (d : CmdDesc) (extRequired : Bool) : Bool :=
  decide (d.rsvd ≠ 0) || decide (4 ≤ d.flags.toNat) ||
  (d.hasExt && (decide (d.extAddr % 64 ≠ 0) || decide (d.extLen < 32) || decide (4096 < d.extLen) ||
    decide (d.extLen % 4 ≠ 0) || !((d.args.drop 10).all (fun b => decide (b = 0))))) ||
  (extRequired && !d.hasExt)

/-! ## Handles (R11, R87) -/

/-- The TYPE code of R11. -/
def ObjType.code : ObjType → Nat
  | .flow => 1 | .tchan => 2 | .mchan => 3 | .mirror => 4 | .search => 5 | .cal => 6

/-- The number of indexes (Table HDL-2). -/
def ObjType.indexes : ObjType → Nat
  | .flow => 16384 | .tchan => 4096 | .mchan => 16 | .mirror => 8 | .search => 32 | .cal => 16

/-- The blocks tested at check 3 (Table HDL-2). -/
def ObjType.blocks : ObjType → List Block
  | .flow => [.sw, .port, .bpm] | .tchan => [.tcore] | .mchan => [.tic] | .mirror => [.fdb] | .search => [.gnss]
  | .cal => [.cal]

/-- The SYS_READY bits tested at check 4 (Table HDL-2). -/
def ObjType.ready : ObjType → List Nat
  | .flow => [Rdy.fabric] | .tchan => [Rdy.tcore, Rdy.eng] | .mchan => [Rdy.tic] | .mirror => [Rdy.fdb]
  | .search => [Rdy.gnss] | .cal => [Rdy.cal]

/-- The fields of a handle. -/
def hType (h : Word) : Nat := fieldOf h 28 4
def hGen (h : Word) : Nat := fieldOf h 20 8
def hIndex (h : Word) : Nat := fieldOf h 0 20

/-- The type of a handle. -/
def hObjType (h : Word) : Option ObjType :=
  [ObjType.flow, .tchan, .mchan, .mirror, .search, .cal].find? (fun t => t.code == hType h)

/-- A handle from its fields. -/
def mkHandle (t : ObjType) (gen i : Nat) : Word := BitVec.ofNat 32 (t.code * 2 ^ 28 + gen % 256 * 2 ^ 20 + i % 2 ^ 20)

/-- The index table of a type. -/
def State.indexTab (s : State) (t : ObjType) : IndexTab := Tab.get {} s.index t

/-- The object under an index, if the index is in use. -/
def State.obj? (s : State) (t : ObjType) (i : Nat) : Option Obj := Tab.find s.objs (t, i)

/-- The object under an index. -/
def State.obj (s : State) (t : ObjType) (i : Nat) : Obj := Tab.get {} s.objs (t, i)

/-- An object replaced. -/
def State.setObj (s : State) (t : ObjType) (i : Nat) (o : Obj) : State := { s with objs := Tab.set s.objs (t, i) o }

/-- The current generation of an index (R88). -/
def State.gen (s : State) (t : ObjType) (i : Nat) : Nat := Tab.get 0 (s.indexTab t).gens i

/-- The current handle of an index. -/
def State.handleOf (s : State) (t : ObjType) (i : Nat) : Word := mkHandle t (s.gen t i) i

/-- The handle names no object in use: its index is free or its generation is not current (check 5). -/
def State.stale (s : State) (t : ObjType) (h : Word) : Bool :=
  (s.obj? t (hIndex h)).isNone || decide (hGen h ≠ s.gen t (hIndex h))

/-- The indexes of a type in use. -/
def State.inUse (s : State) (t : ObjType) : List Nat :=
  (s.objs.filter (fun e => decide (e.1.1 = t))).map (fun e => e.1.2)

/-- Objects of a type. -/
def State.objCount (s : State) (t : ObjType) : Nat := (s.inUse t).length

/-- The index a part-chosen CREATE takes: one put back at the head of the free list, then the lowest never taken, then the
one destroyed least recently (R88). -/
def IndexTab.next? (x : IndexTab) (n : Nat) : Option Nat :=
  match x.head with
  | i :: _ => some i
  | [] => if x.fresh < n then some x.fresh else x.freed.head?

/-- The free list without the index that `next?` gives. -/
def IndexTab.take (x : IndexTab) (n : Nat) : IndexTab :=
  match x.head with
  | _ :: l => { x with head := l }
  | [] => if x.fresh < n then { x with fresh := x.fresh + 1 } else { x with freed := x.freed.tail }

/-- The index table of a type replaced. -/
def State.setIndexTab (s : State) (t : ObjType) (x : IndexTab) : State := { s with index := Tab.set s.index t x }

/-- A CREATE takes index `i` for good: the object exists and is ACTIVE (R91).  The part-chosen types take it from the free
list. -/
def State.addObj (s : State) (t : ObjType) (i : Nat) (o : Obj) : State :=
  { s with
    index := Tab.set s.index t (match t with
      | .mchan => s.indexTab t
      | .mirror => s.indexTab t
      | _ => (s.indexTab t).take t.indexes)
    objs := Tab.set s.objs (t, i) o }

/-- A DESTROY completes: the generation advances by one modulo 256 and the index joins the tail of the free list (R88). -/
def State.dropObj (s : State) (t : ObjType) (i : Nat) : State :=
  let x := s.indexTab t
  { s with
    index := Tab.set s.index t { x with
      gens := Tab.set x.gens i ((s.gen t i + 1) % 256)
      freed := match t with
        | .mchan => x.freed
        | .mirror => x.freed
        | _ => x.freed ++ [i] }
    objs := Tab.erase s.objs (t, i) }

/-! ## Completion -/

/-- The opcodes that the families and verbs of Table HDL-1 and the unit chapters list. -/
def opcodes : List Nat :=
  ((List.range 6).map (fun t => (List.range 7).map (fun v => (t + 1) * 256 + v + 1))).flatten ++
  [0x8001, 0x8002, 0x9801, 0x9802, 0xA001, 0xA401, 0xA402, 0xA801, 0xA802, 0xA803, 0xA804, 0xA805, 0xA806, 0xA807, 0xA808, 0xA809,
   0xB001, 0xB002, 0xB801, 0xB802, 0xB803, 0xBA01, 0xBA02, 0xBA03, 0xBA04, 0xC001, 0xC002, 0xC401, 0xC402, 0xC601,
   0xC602, 0xC801, 0xC802, 0xC803, 0xC804, 0xC805, 0xC806, 0xC807, 0xC808, 0xC809, 0xCC01, 0xCC02, 0xCC03]

/-- OPCODE of the descriptor of a command. -/
def Fetched.opcode (f : Fetched) : Nat := leAt f.raw 0 2

/-- The command in a descriptor of command ring `n`. -/
def Fetched.cmd (n : Nat) (f : Fetched) : CmdDesc :=
  { src := .ring n, flags := f.raw.getD 2 0, rsvd := f.raw.getD 3 0, tag := BitVec.ofNat 32 (leAt f.raw 4 4)
    handle := BitVec.ofNat 32 (leAt f.raw 8 4), args := f.raw.drop 12, ext := f.ext }

/-- The descriptor holds this command. -/
def Fetched.isCmd (n : Nat) (d : CmdDesc) (op : Nat) (f : Fetched) : Bool := decide (f.opcode = op) && decide (f.cmd n = d)

/-- The unit of a command family is absent (R3). -/
def State.familyAbsent (s : State) (op : Nat) : Bool :=
  (decide (op / 256 = 5) && !s.variant.gnss) || (decide (op / 256 = 128 + Block.gnss.id) && !s.variant.gnss) ||
  (decide (op / 256 = 128 + Block.pair.id) && !s.variant.pair)

/-- The completion ring bound to a ring (HIF_RING_CTRL.CPL). -/
def State.cplRing (s : State) (n : Nat) : Nat := 48 + s.ap Fld.hifRingCtrl_CPL n

/-- A completion of ring `n` uses the slot that it has reserved in ring `m`: it is written while that ring is in RUN, and counted in
HIF_RING_ABORTED otherwise (R62, R80). -/
def State.slotUse (s : State) (n m : Nat) (b : CplBody) : State :=
  let s1 := s.setRing m { s.ring m with reserved := (s.ring m).reserved - 1 }
  if (s.ring m).state = .run then { s1 with hif := s1.writeSlot m b false s1.hif } else s1.bump Fld.hifRingAborted_VAL n

/-- The completion of the command in a fetched descriptor: the descriptor leaves the ring, CIDX advances, its slot is used. -/
def State.cplPut (s : State) (n : Nat) (f : Fetched) (c : Cpl) : State :=
  let i := ((s.ring n).cidx + 1) % 65536
  let s1 := s.setRing n { s.ring n with fetched := (s.ring n).fetched.erase f, cidx := i }
  s1.slotUse n f.cpl (.cmd n c.status c.tag c.handle c.opcode i c.result)

/-- The completion without result of a fetched command. -/
def Fetched.plainCpl (n : Nat) (f : Fetched) (st : Status) : Cpl :=
  { src := .ring n, tag := (f.cmd n).tag, opcode := f.opcode, handle := 0, status := st, result := [], extOut := [] }

/-- The command of a ring that may start next: commands of one ring start in ring order, and one with FENCE only when every earlier
command of the ring has completed (R65). -/
def Ring.nextCmd (r : Ring) : Option Fetched :=
  (r.fetched.find? (fun f => !f.started)).bind (fun f =>
    if bitAt (byteAt f.raw 2) 0 && r.fetched.any (fun x => x.started) then none else some f)

/-- Commands next in ring `n` whose opcode is not listed complete at once (R84, check 2; check 1 for the family of an absent unit). -/
def State.unlistedGo (s : State) (n : Nat) : Nat → State
  | 0 => s
  | k + 1 => match (s.ring n).nextCmd with
    | none => s
    | some f =>
      if opcodes.contains f.opcode then s
      else (s.cplPut n f (f.plainCpl n (if s.familyAbsent f.opcode then .unsupported else .badArg))).unlistedGo n k

/-- The command ring whose turn it is among rings 56 to 63, which are served in round robin: the next one that has a command to start
(R92; log entry 93). -/
def State.cmdRing (s : State) : Option Nat :=
  ((List.range 8).map (fun k => 56 + (s.hif.cmdTurn + k) % 8)).find? (fun n => (s.ring n).nextCmd.isSome)

/-- A command of a host ring may not start: the ring has not fetched it, it is not the ring's next, or it is another ring's turn (R65,
R92).  A command of the firmware or of the boot starts as it comes. -/
def State.startBlocked (s : State) (d : CmdDesc) (op : Nat) : Bool :=
  match d.src with
  | .ring n => decide (s.cmdRing ≠ some n) || !((s.ring n).nextCmd.any (fun f => f.isCmd n d op))
  | _ => false

/-- The next command of a ring starts (R79); the turn passes to the next ring, one command per ring per turn (R92). -/
def State.startCmd (s : State) (d : CmdDesc) : State :=
  match d.src with
  | .ring n =>
    let r := s.ring n
    let i := (r.fetched.takeWhile (fun f => f.started)).length
    let s1 := s.setRing n { r with fetched := r.fetched.modify i (fun f => { f with started := true }) }
    ({ s1 with hif := { s1.hif with cmdTurn := (n - 55) % 8 } } : State).unlistedGo n 16
  | _ => s

/-- The completion of a started command of ring `n`; the commands behind it that it lets go.  A command that the ring no longer holds
writes nothing: a function-level reset has come between (R82). -/
def State.cplToRing (s : State) (n : Nat) (d : CmdDesc) (c : Cpl) : State :=
  match (s.ring n).fetched.find? (fun f => f.started && f.isCmd n d c.opcode) with
  | some f => (s.cplPut n f c).unlistedGo n 16
  | none => s

/-- Completes a command: the last completion is shown, a host command gets its completion descriptor, a command record of the
default configuration counts in CMD_FAIL when its status is not OK (R408).  Only the host interface, RC words and the boot
state change. -/
def State.complete (s : State) (d : CmdDesc) (opcode : Nat) (st : Status) (handle : Word := 0) (result : List Byte := [])
    (extOut : List Byte := []) : State :=
  let c : Cpl := { src := d.src, tag := d.tag, opcode := opcode, handle := handle, status := st, result := result, extOut := extOut }
  let t : State := match d.src with
    | .ring n => s.cplToRing n d c
    | _ => s
  { s with
    hif := { t.hif with lastCpl := some c }
    rc := t.rc
    boot := match d.src with
      | .boot => if !s.boot.running then s.boot
                 else { s.boot with running := false, cmdDone := decide (s.boot.cmds = [])
                                    cmdFail := if st = .ok then s.boot.cmdFail else satAdd 16 s.boot.cmdFail 1 }
      | _ => s.boot }

/-! ## The check order of Table HDL-4 -/

/-- SYS_CFGERR lists a word of one of the blocks. -/
def State.parityIn (s : State) (bs : List Block) : Bool :=
  s.regs.cfgErr.any (fun a => match regAt a with
    | some k => bs.contains k.name.row.block
    | none => false)

/-- What the checks of a command test. -/
structure Checks where
  /-- Check 1: the unit, or an instance named, is absent. -/
  absent : Bool := false
  /-- Check 2: the form. -/
  badForm : Bool := false
  /-- Check 3: the blocks of R42 when the command changes state (empty otherwise), and whether it is key-guarded. -/
  blocks : List Block := []
  guarded : Bool := false
  /-- Check 4: the SYS_READY bits. -/
  ready : List Nat := []
  /-- Check 5: the handle. -/
  stale : Bool := false
  /-- Check 6: the arguments. -/
  badArg : Bool := false
  deriving DecidableEq, Repr

/-- The first check that fails, with its number (Table HDL-4). -/
def State.check (s : State) (d : CmdDesc) (c : Checks) : Option (Nat × Status) :=
  if c.absent then some (1, .unsupported)
  else if c.badForm then some (2, .badArg)
  else if s.parityIn c.blocks then some (3, .parity)
  else if c.guarded && !(s.unlocked d.src.path) then some (3, .locked)
  else if c.ready.any (fun b => !(s.isReady b)) then some (4, .notReady)
  else if c.stale then some (5, .handleStale)
  else if c.badArg then some (6, .badArg)
  else none

/-- A command is checked in order, consumes the unlock of its path when it is key-guarded and passes check 3 (R37), and then takes its
type-specific outcome. -/
def State.checked (s : State) (d : CmdDesc) (opcode : Nat) (c : Checks) (body : State → State) : State :=
  match s.check d c with
  | some (k, st) => (if c.guarded && decide (3 < k) then s.consumeKey d.src.path else s).complete d opcode st
  | none => body (if c.guarded then s.consumeKey d.src.path else s)

/-- Runs a command: it starts when it may, and is checked. -/
def State.runCmd (s : State) (d : CmdDesc) (opcode : Nat) (c : Checks) (body : State → State) : State :=
  if s.startBlocked d opcode then s else (s.startCmd d).checked d opcode c body

/-! ## Commands that name an object run one at a time (R92) -/

/-- The object that a handle names, while a DESTROY or DISABLE of it runs. -/
def State.drainingObj (s : State) (t : ObjType) (h : Word) : Option Nat :=
  if hType h = t.code ∧ !(s.stale t h) ∧ (s.obj t (hIndex h)).phase = .draining then some (hIndex h) else none

/-- A command waits behind the drain of the object that it names. -/
def State.waitDrain (s : State) (t : ObjType) (i verb : Nat) (d : CmdDesc) : State :=
  s.setObj t i { s.obj t i with waiting := (s.obj t i).waiting ++ [⟨verb, d⟩] }

/-- A started command that names an object waits while a DESTROY or DISABLE of the object runs; it is checked when it runs (R92). -/
def State.namedGo (s : State) (t : ObjType) (verb : Nat) (d : CmdDesc) (opcode : Nat) (c : Checks) (body : State → State) : State :=
  match s.drainingObj t d.handle with
  | some i => s.waitDrain t i verb d
  | none => s.checked d opcode c body

/-- A command that names an object is taken; `again` marks one that has waited, and started before. -/
def State.runNamed (s : State) (again : Bool) (t : ObjType) (verb : Nat) (d : CmdDesc) (opcode : Nat) (c : Checks)
    (body : State → State) : State :=
  if again then s.namedGo t verb d opcode c body
  else if s.startBlocked d opcode then s
  else (s.startCmd d).namedGo t verb d opcode c body

/-- The checks that all unit commands share: HANDLE 0, the form, the family's block and READY bits (R87). -/
def unitChecks (d : CmdDesc) (extRequired : Bool) (blk : Block) (changes : Bool) (ready : List Nat) : Checks :=
  { badForm := d.badForm extRequired || decide (d.handle ≠ 0), blocks := if changes then [blk] else [], ready := ready }

end Sys2Proof.Machine
end

