-- ==== Sys2Proof/Machine/Regs.lean ====
section
/-! DEFINITION. Buffered register writes (R10, R31 to R34): the store of a write in the written copy, the pending store, and
the taking of pending fields at an apply point.  What a function does with a new value stands with its unit. -/

set_option Elab.async false

namespace Sys2Proof.Machine

/-- The pending entry of a word. -/
def State.pendOf (s : State) (k : RegKey) : Option Pend := s.regs.pend.find? (fun p => decide (p.key = k))

/-- The RW and KW fields of a register that a write with touched bits `m` addresses. -/
def RegKey.touched (k : RegKey) (m : Word) : List Field :=
  k.fields.filter (fun f => (decide (f.type = .rw) || decide (f.type = .kw)) && decide (maskOf f.lo f.width &&& m ≠ 0))

/-- The apply points that touched fields wait for; in a domain that is down every touched field waits (R33). -/
def State.waitPoints (s : State) (k : RegKey) (m : Word) : List ApplyPoint :=
  (((k.touched m).map (fun f => f.apply)).filter (fun p => s.regDown k || decide (p ≠ .imm))).dedup

/-- Merges pending points for a word into the pending store (R32). -/
def addPend (l : List Pend) (k : RegKey) (ps : List ApplyPoint) (dom : Bool) : List Pend :=
  match l with
  | [] => [{ key := k, points := ps, dom := dom }]
  | p :: l' =>
    if p.key = k then { p with points := (p.points ++ ps).dedup, dom := dom } :: l' else p :: addPend l' k ps dom

/-! ## Frame boundaries of a port (Table REG-2) -/

/-- The port whose frame boundary a register's FRM fields wait for. -/
def State.frmPort (s : State) (k : RegKey) : Option Nat :=
  match k.name with
  | .laneCtrl => some (s.portOfLane k.i)
  | .laneTxEq => some (s.portOfLane k.i)
  | .portExpress => some k.i
  | .portTcMode => some k.i
  | .portDrrQuant => some k.i
  | .fdbPortCfg => some k.i
  | .tcorePortTs => some k.i
  | .hifRxMap => some 96
  | .hifGlbCtrl => some 96
  | _ => none

/-- The FRM words of a port that a boundary in the given directions takes: transmit settings at the transmitter's, settings of the
lookup and of the timestamp unit when neither direction carries a frame.  PORT_EXPRESS is the transmitter's, under R139. -/
def State.frmWord (s : State) (p : Nat) (rx tx : Bool) (k : RegKey) : Bool :=
  match k.name with
  | .laneCtrl => tx && s.portOfLane k.i == p
  | .laneTxEq => tx && s.portOfLane k.i == p
  | .portExpress => tx && k.i == p
  | .portTcMode => tx && k.i == p
  | .portDrrQuant => tx && k.i == p
  | .fdbPortCfg => rx && tx && k.i == p
  | .tcorePortTs => rx && tx && k.i == p
  | .hifRxMap => p == 96 && tx
  | .hifGlbCtrl => p == 96 && tx
  | _ => false

/-- No frame is in transfer at the receiver, and at the transmitter, of a port. -/
def State.rxIdle (s : State) (p : Nat) : Bool := s.fab.frames.all (fun e => e.2.port != p || e.2.eligible || e.2.drop)
def State.txIdle (s : State) (p : Nat) : Bool := (s.port p).tx.isNone

/-- The FRM fields of a register apply at once: their port has no frame in transfer in the direction they govern (Table REG-2). -/
def State.frmAtOnce (s : State) (k : RegKey) : Bool :=
  !(s.regDown k) && (match s.frmPort k with
    | some p => s.frmWord p (s.rxIdle p) (s.txIdle p) k
    | none => false)

/-! ## The store of a write -/

/-- The write would need a 1,025th pending word (R34); a FRM field that applies at once needs none. -/
def State.pendOverflow (s : State) (k : RegKey) (ps : List ApplyPoint) : Bool :=
  decide (ps.filter (fun p => decide (p ≠ .frm) || !(s.frmAtOnce k)) ≠ []) && (s.pendOf k).isNone &&
    decide (1024 ≤ s.regs.pend.length)

/-- A write of a word takes its address out of SYS_CFGERR (R40), and lets an instance that it stopped resume (R422). -/
def RegFile.wordWritten (r : RegFile) (k : RegKey) : RegFile :=
  { r with cfgErr := r.cfgErr.filter (fun a => decide (a ≠ k.addr)), stopped := r.stopped.filter (fun x => decide (x ≠ k)) }

/-- The register file after an accepted write of the bits `m` of word `v`: the written copy takes them, IMM fields are applied
at once, the others wait; the word leaves SYS_CFGERR (R40) and a stopped instance resumes (R422). -/
def State.regsAfterWrite (s : State) (k : RegKey) (v m : Word) : RegFile :=
  let w := (s.written k &&& ~~~ (m &&& k.storedMask)) ||| (v &&& (m &&& k.storedMask))
  let ps := s.waitPoints k m
  let im := if s.regDown k then 0 else k.mask (fun f => decide (f.apply = .imm)) &&& k.storedMask
  let a := s.stored k
  ({ s.regs with
    written := Tab.set s.regs.written k w
    applied := Tab.set s.regs.applied k ((a &&& ~~~ im) ||| (w &&& im))
    pend := if ps = [] then s.regs.pend else addPend s.regs.pend k ps (s.regDown k) } : RegFile).wordWritten k

/-- Stores a write of the bits `m` of word `v` (R23, R31 to R34, R40). -/
def State.storeReg (s : State) (k : RegKey) (v m : Word) : State :=
  if s.pendOverflow k (s.waitPoints k m) then
    (s.rcSet Fld.sysApplyStat_OVF 1).raise Ev.sysApplyOvf k.addr
  else { s with regs := s.regsAfterWrite k v m }

/-- Registers whose write is judged, or acts, by a rule of its own when it reaches the unit: a write held for their domain runs that
rule when the domain is on again (R33; log entry 89). -/
def RegName.heldRule (n : RegName) : Bool :=
  [RegName.hifRingCtrl, .hifRingBaseLo, .hifRingBaseHi, .hifRingSize, .laneCtrl, .portHold, .swResCfg, .bpmQuota, .gnssPosCfg,
    .gnssChCfg, .perfSel, .perfCtl, .pairRole].contains n

/-- Holds a write in a domain that is off or in retention (R33): its RW and KW bits in the written copy, its WO bits beside them. -/
def State.holdReg (s : State) (p : Path) (k : RegKey) (v m : Word) : State :=
  let wo := v &&& m &&& k.typeMask .wo
  if m &&& k.storedMask = 0 ∧ wo = 0 then s
  else
    let ps := s.waitPoints k m ++ (if wo = 0 then [] else [.imm])
    if s.pendOverflow k ps then (s.rcSet Fld.sysApplyStat_OVF 1).raise Ev.sysApplyOvf k.addr
    else
      let r := s.regsAfterWrite k v m
      { s with regs := { r with pend := (addPend s.regs.pend k ps true).map (fun x =>
          if x.key = k then { x with wo := x.wo ||| wo, path := p } else x) } }

/-- The bits of the fields of a register with apply point `p`. -/
def RegKey.pointMask (k : RegKey) (p : ApplyPoint) : Word := k.mask (fun f => decide (f.apply = p)) &&& k.storedMask

/-- A pending word is ready at point `p`: it waits for it and its domain is on. -/
def Pend.waits (x : Pend) (p : ApplyPoint) : Bool := !x.dom && x.points.contains p

/-- Drops point `p` from the pending entries that `sel` selects; an entry that waits for nothing more leaves the store. -/
def dropPoint (l : List Pend) (p : ApplyPoint) (sel : RegKey → Bool) : List Pend :=
  (l.map (fun x => if x.waits p && sel x.key then { x with points := x.points.filter (fun q => decide (q ≠ p)) } else x)).filter
    (fun x => decide (x.points ≠ []))

/-- The words that wait for point `p` among those selected. -/
def State.waitingAt (s : State) (p : ApplyPoint) (sel : RegKey → Bool) : List RegKey :=
  (s.regs.pend.filter (fun x => x.waits p && sel x.key)).map (fun x => x.key)

/-- Takes apply point `p` for the selected words: all their pending fields of that point take effect together (R32). -/
def State.applyAt (s : State) (p : ApplyPoint) (sel : RegKey → Bool) : State :=
  let ks := s.waitingAt p sel
  let t := ks.foldl (fun s k => s.copyBits k (k.pointMask p)) s
  { s with regs := { t.regs with pend := dropPoint s.regs.pend p sel } }

/-- A domain leaves retention: the writes held for it wait for their apply points again, and IMM fields apply (R33).  A register with
a rule of its own stays held until that rule has run. -/
def State.domRelease (s : State) (d : Nat) : State :=
  let mine := fun (k : RegKey) => decide (k.domain = some d) && !k.name.heldRule
  let s1 := { s with regs := { s.regs with
      pend := s.regs.pend.map (fun (x : Pend) => if mine x.key then { x with dom := false } else x) } }
  let t := s1.applyAt .imm mine
  { s with regs := t.regs }

/-- A domain powers up from off: the written copies of its RW registers are applied again, with every pending write (R391); the held
writes of a register with a rule of its own wait for that rule. -/
def State.domRestore (s : State) (d : Nat) : State :=
  let mine := fun (k : RegKey) => decide (k.domain = some d)
  let held := fun (k : RegKey) => k.name.heldRule && (s.pendOf k).isSome
  let ks := (s.regs.written.map (fun e => e.1)).filter (fun k => mine k && !(held k))
  let t := ks.foldl (fun s k => s.copyBits k k.storedMask) s
  { s with regs := { t.regs with pend := s.regs.pend.filter (fun x => !(mine x.key) || held x.key) } }

/-- Removes the pending writes of the selected words (R39, R82). -/
def State.dropPending (s : State) (sel : RegKey → Bool) : State :=
  { s with regs := { s.regs with pend := s.regs.pend.filter (fun x => !(sel x.key)) } }

/-- A write is pending for point `p`. -/
def State.pendingAt (s : State) (p : ApplyPoint) : Bool := s.regs.pend.any (fun x => x.waits p)

/-- A write is held for a domain (SYS_APPLY_STAT.DOM). -/
def State.pendingDom (s : State) : Bool := s.regs.pend.any (fun x => x.dom)

end Sys2Proof.Machine
end

