-- ==== Sys2Proof/Machine/PwrOps.lean ====
section
/-! DEFINITION. Wake events (R392, R396), shared by the wake balls, the wake timer and REF. -/

set_option Elab.async false

namespace Sys2Proof.Machine

/-- The target of a wake event: WAKE_TGT, 0 RUN or 1 TRIM (R392). -/
def State.wakeTarget (s : State) : Nat := s.ap Fld.pwrCfg_WAKE_TGT

/-- The TRIM set that PWR_TRIM_CFG0 and PWR_TRIM_CFG1 name. -/
def State.trimWords (s : State) : Word × Word := (s.applied ⟨.pwrTrimCfg0, 0, 0⟩, s.applied ⟨.pwrTrimCfg1, 0, 0⟩)

/-- A SPAD bank that holds firmware (ENG_SPAD_FW). -/
def State.bankFw (s : State) (b : Nat) : Bool := bitAt s.eng.fwBanks b

/-- The TRIM set names a bank of ENG_SPAD_FW: it stays on, and ENG_CFG_BAD is raised (R393). -/
def State.trimFw (s : State) (tgt : Nat) : Bool :=
  decide (tgt = 1) && (List.range 32).any (fun b => bitAt s.trimWords.2.toNat b && s.bankFw b)

/-- Steps W1 and W2 of a wake: BUSY, and REG_EN_CORE asserted; the wake then waits for supplies and REF_CLK (R399). -/
def State.startWake (s : State) (tgt src : Nat) : State :=
  ({ s with pwr := { s.pwr with
      seq := .wake 2, target := tgt, wakeSrc := src, from' := s.pwr.state, regEnCore := true, pwrdnReqN := true, ap := 0
      opposite := none, trim := if tgt = 1 then s.trimWords else s.pwr.trim } } : State).raiseIf (s.trimFw tgt) Ev.engCfgBad

/-- A request goes to the single pending slot; the one it replaces raises PWR_REQ_DROPPED (R396). -/
def State.pendRequest (s : State) (tgt : Nat) : State :=
  let t := s.raiseIf s.pwr.pend.isSome Ev.pwrReqDropped (s.pwr.pend.getD 0)
  { t with pwr := { s.pwr with pend := some tgt } }

/-- A wake event of source bit `b` of PWR_WAKE_EN (R392): ignored while its source is not enabled or a forced sequence runs; it
starts a wake from a lower state, takes up a changed TRIM set in TRIM, and lowers no state (log entry 123); it is opposite to an entry
in progress and empties the pending slot, and waits behind a wake or an abandonment.  OFF is left by a power-on only (R402). -/
def State.wakeEvent (s : State) (b : Nat) : State :=
  if !(bitAt (s.ap Fld.pwrWakeEn_VAL) b) || s.pwr.forced then s
  else
    let s := s.rcSet Fld.pwrWakeSrc_VAL (2 ^ b)
    match s.pwr.seq with
    | .idle =>
      if s.wakeTarget < s.pwr.state ∧ s.pwr.state ≠ 3 then s.startWake s.wakeTarget (2 ^ b)
      else if s.wakeTarget = 1 ∧ s.pwr.state = 1 ∧ s.trimWords ≠ s.pwr.trim then (s.pendRequest 1).startWake 1 (2 ^ b)
      else s
    | .entry k =>
      if k = 9 then s.pendRequest s.wakeTarget
      else
        let t := s.raiseIf s.pwr.pend.isSome Ev.pwrReqDropped (s.pwr.pend.getD 0)
        { t with pwr := { s.pwr with opposite := some (s.wakeTarget, true), wakeSrc := s.pwr.wakeSrc ||| 2 ^ b, pend := none } }
    | .wake _ => s.pendRequest s.wakeTarget

/-! ## Domains (R391) -/

/-- A domain in a new mode. -/
def State.setDom (s : State) (d : Nat) (m : DomMode) : State :=
  { s with pwr := { s.pwr with dom := if m = .on then Tab.erase s.pwr.dom d else Tab.set s.pwr.dom d m } }

/-- A domain is on again: from off its registers are applied anew, from retention its held writes go on (R33, R391). -/
def State.domWake (s : State) (d : Nat) : State :=
  let s1 := s.setDom d .on
  if s.domMode d = .off then s1.domRestore d else s1.domRelease d

/-- A domain leaves on, for off when `off` says so: it then loses its RC counters (R391). -/
def State.domSleep (s : State) (d : Nat) (off : Bool) : State :=
  let s1 := s.setDom d (if off then .off else .retention)
  { s1 with rc := if off then s.rc.filter (fun e => decide (e.1.domain ≠ some d)) else s.rc
            regs := { s1.regs with pend := s.regs.pend.map (fun (x : Pend) => if x.key.domain = some d then { x with dom := true } else x) } }

/-- The inputs at the edge of a domain reach it: its pads, bit `b` of PWR_PAD_HELD, are not held (R398, Table PIN-12). -/
def State.padIn (s : State) (b : Nat) : Bool := !(bitAt s.pwr.padHeld.toNat b)

/-- The pads at the edge of a domain are held or released, PWR_PAD_HELD layout (R398). -/
def State.padHold (s : State) (b : Nat) (on : Bool) : State :=
  { s with pwr := { s.pwr with padHeld := putField s.pwr.padHeld b 1 (b2n on) } }

end Sys2Proof.Machine
end

