-- ==== Sys2Proof/Machine/RefOps.lean ====
section
/-! DEFINITION. The shared operations of REF and of the time states (chapters 9 and 11): the states of candidates and timing
channels, the selections (R258), TSTATE (R205), holdover entry (R262) and the announced quality (R230). -/

set_option Elab.async false

namespace Sys2Proof.Machine

/-! ## Candidates -/

/-- The ID that means no candidate (R253). -/
def noCand : Nat := 0xFFFFFFFF

/-- The ID as a register word. -/
def candWord (c : Option Nat) : Nat := c.getD noCand

/-- The time that a boundary clock announces to be removed from its grandmaster: one more than its parent's (Table TCORE-8). -/
def State.announcedSteps (s : State) : Nat :=
  match s.tcore.tstate, s.ref.tsel with
  | .locked, some id => if hType (BitVec.ofNat 32 id) = 2 ∧ 103 ≤ id then (Tab.get {} s.tchans (id % 2 ^ 20) : TChan).steps + 1 else 0
  | _, _ => 0

/-- A candidate ID of the time class: PPS inputs, the satellite receiver, timing channels. -/
def candIsTime (id : Nat) : Bool := 100 ≤ id

/-- The ID is a timing channel handle with an index of Table HDL-2. -/
def candIsChan (id : Nat) : Bool := hType (BitVec.ofNat 32 id) == 2 && decide (103 ≤ id) && decide (id % 2 ^ 20 < 4096)

/-- The ID stands in Table REF-1; a handle must be current. -/
def State.candKnown (s : State) (id : Nat) : Bool :=
  id < 103 || (candIsChan id && !(s.stale .tchan (BitVec.ofNat 32 id)))

/-- A candidate. -/
def State.cand (s : State) (id : Nat) : Cand := Tab.get {} s.ref.cands id

/-- A timing channel. -/
def State.tchan (s : State) (i : Nat) : TChan := Tab.get {} s.tchans i

/-- Settings of a handle. -/
def State.candSet (s : State) (id : Nat) : CandSet := Tab.get {} s.ref.sets id

/-- EN of a candidate. -/
def State.candEn (s : State) (id : Nat) : Bool := if id < 103 then s.apB Fld.refCandCfg_EN id else (s.candSet id).en

/-- PRIO of a candidate. -/
def State.candPrio (s : State) (id : Nat) : Nat := if id < 103 then s.ap Fld.refCandCfg_PRIO id else (s.candSet id).prio

/-- The entered rank, when one is entered. -/
def State.candOvr (s : State) (id : Nat) : Option Nat :=
  if id < 103 then (if s.apB Fld.refCandCfg_QL_OVR_EN id then some (s.ap Fld.refCandCfg_QL_OVR id) else none)
  else if (s.candSet id).ovrEn then some (s.candSet id).ovr else none

/-- The port number is inactive: a later lane of a four-lane port (R98). -/
def State.portInactive (s : State) (p : Nat) : Bool := p < 96 && s.quadMode (p / 4) == 4 && p % 4 != 0

/-- The rank of a PTP clockClass (Table REF-2). -/
def qrOfClass (c : Nat) : Nat :=
  if c = 6 then 1 else if c = 7 then 2 else if c = 135 then 3 else if c = 140 then 4 else if c = 150 then 5
  else if c = 160 then 6 else if c = 165 ∨ c = 52 ∨ c = 187 then 7 else if c = 248 then 14 else 15

/-- The rank of an SSM and an enhanced SSM code (Table REF-2, option 1). -/
def qrOfSsm (ssm : Nat) (essm : Option Nat) : Nat :=
  let e := essm.getD 0xFF
  if ssm = 0x2 ∧ e = 0x21 then 0 else if ssm = 0x2 ∧ e = 0x20 then 1 else if ssm = 0x2 ∧ e = 0x23 then 2
  else if ssm = 0x2 ∧ e = 0xFF then 3 else if ssm = 0x4 then 4 else if ssm = 0x8 then 5
  else if ssm = 0xB ∧ e = 0x22 then 6 else if ssm = 0xB ∧ e = 0xFF then 7 else 15

/-- The unit of a candidate is absent on the variant (R253). -/
def State.candUnitAbsent (s : State) (id : Nat) : Bool := (id < 96 && decide (s.variant.ports ≤ id)) || (id == 102 && !s.variant.gnss)

/-- The quality rank QR of a candidate (R254, Table REF-1); 15 while its unit is absent (R253). -/
def State.candQr (s : State) (id : Nat) : Nat :=
  match s.candOvr id with
  | some q => if s.candUnitAbsent id then 15 else q
  | none =>
    if s.candUnitAbsent id then 15
    else if id < 96 then (Tab.find s.ref.esmc (s.portOfLane id)).getD 15
    else if id < 102 then 7
    else if id = 102 then 1
    else (s.tchan (id % 2 ^ 20)).qr

/-- A lane group. -/
def State.grp (s : State) (g : Nat) : Grp := Tab.get {} s.grps g

/-- The candidate's unit is there: lane group IN_SERVICE and on, satellite baseband on (Table REF-3, STATE 0). -/
def State.candAvail (s : State) (id : Nat) : Bool :=
  if id < 96 then decide (id < s.variant.ports) && decide ((s.grp (id / 8)).st = .inService) && s.domOn (id / 8)
  else if id = 102 then s.variant.gnss && s.domOn 14 && !(s.halted (.block .gnss))
  else true

/-- The mean of a list of offsets, rounded down; 0 of none. -/
def meanInt (l : List Int) : Int := if l = [] then 0 else l.sum / l.length

/-- The code of a candidate state (Table REF-3). -/
def CandSt.code : CandSt → Nat
  | .absent => 0 | .qualifying => 1 | .qualified => 2 | .selected => 3 | .holdoff => 4 | .failed => 5 | .disabled => 6

/-- The code of a channel state (Table TCORE-4, R226). -/
def ChanState.code : ChanState → Nat
  | .listening => 0 | .qualified => 1 | .selected => 2 | .lost => 3 | .sending => 4

/-! ## PLLs (chapter 12): their ramps, and the switch to BYPASS -/

/-- A PLL. -/
def State.pllOf (s : State) (n : Nat) : Pll := Tab.get {} s.pll.plls n

/-- The segment that runs. -/
def Ramp.now? (r : Ramp) : Option RampSeg := if r.run && !r.suspended then r.segs[r.seg]? else none

/-- x at the model clock `now`, before the clamp (R282). -/
def Ramp.at' (r : Ramp) (now : Nat) : Int :=
  match r.now? with
  | some g => if g.hold || r.held then r.x else r.x + g.slope * (min ((now - r.since) / 10 ^ 9) (g.durMs - r.doneMs) : Nat)
  | none => r.x

/-- The range of x in 2^-40 (Table PLL-3): ±100 ppm, ±500 ppm, −10,000 ppm to 0. -/
def rampRange (pll : Nat) : Int × Int :=
  if pll = 0 then (-109951162, 109951162) else if pll = 3 then (-10995116277, 0) else (-549755813, 549755813)

/-- x of a PLL now. -/
def State.rampX (s : State) (pll : Nat) : Int :=
  clampInt (rampRange pll).1 (rampRange pll).2 ((s.pllOf pll).ramp.at' s.clk.now)

/-- A PLL replaced. -/
def State.setPll (s : State) (x : Nat) (p : Pll) : State := { s with pll := { s.pll with plls := Tab.set s.pll.plls x p } }

/-- The code of a PLL state (Table PLL-2). -/
def PllSt.code : PllSt → Nat
  | .off => 0 | .acq => 1 | .phase => 2 | .locked => 3 | .bypass => 4

/-- A PLL in a new state: PLL_STATE is raised (R278). -/
def State.goPll (s : State) (x : Nat) (st : PllSt) : State :=
  let p := s.pllOf x
  (s.setPll x { p with st := st }).raiseIf (decide (p.st ≠ st)) Ev.pllState x st.code

/-- SRC; 3 acts as 2. -/
def State.pllSrc (s : State) (x : Nat) : Nat := min 2 (s.ap Fld.pllCfg_SRC x)

/-- The ramp is suspended: x and the segment time are held (R283). -/
def Ramp.suspend (r : Ramp) (now : Nat) (x : Int) : Ramp :=
  match r.now? with
  | some g => { r with suspended := true, x := x, doneMs := min g.durMs (r.doneMs + (now - r.since) / 10 ^ 9) }
  | none => r

/-- ∫ x dt of a ramp over the `d` ps since its segment began to run, in 2^-40 ps. -/
def Ramp.area (r : Ramp) (d : Nat) : Int :=
  match r.now? with
  | some g =>
    if g.hold || r.held then r.x * d
    else
      let k := min (d / 10 ^ 9) (g.durMs - r.doneMs)
      (r.x * k + g.slope * ((k * (k - 1) / 2 : Nat) : Int)) * 10 ^ 9 + (r.x + g.slope * k) * ((d - k * 10 ^ 9 : Nat) : Int)
  | none => r.x * d

/-- Engine time since the counters were last brought up to date, in 2^-40 ps: the ramp of PLL-E moves it, and the bypass carries no offset
(Table PLL-3, R283, R357). -/
def State.cycRun (s : State) : Int :=
  let p := s.pllOf 3
  let d := s.clk.now - s.eng.cycAt
  d * 2 ^ 40 + (if p.st = .bypass then 0 else p.ramp.area (s.clk.now - p.ramp.since) - p.ramp.area (s.eng.cycAt - p.ramp.since))

/-- Every cycle counter is brought up to date: before the ramp or the bypass of PLL-E changes. -/
def State.cycFold (s : State) : State :=
  { s with eng := { s.eng with
    cycAt := s.clk.now, cyc := (List.range 16).foldl (fun l e => Tab.set l e (Tab.get 0 s.eng.cyc e + s.cycRun)) s.eng.cyc } }

/-- CYC of an engine begins at 0. -/
def State.cycClear (s : State) (e : Nat) : State :=
  let t := s.cycFold
  { t with eng := { t.eng with cyc := Tab.erase t.eng.cyc e } }

/-- CYC of an engine: cycles of 1.2 GHz (R274, R357). -/
def State.cycOf (s : State) (e : Nat) : Nat := ((Tab.get 0 s.eng.cyc e + s.cycRun).toNat * 12 / (10000 * 2 ^ 40)) % 2 ^ 64

/-- A PLL in LOCKED switches to BYPASS (R280); under cause 3, and without REF_CLK, it runs from the bypass oscillator. -/
def State.pllToBypass (s : State) (x cause : Nat) (phErr : Int) : State :=
  let s := if x = 3 then s.cycFold else s
  let p := s.pllOf x
  let s1 := s.setPll x { p with
    cause := cause, phErr := phErr, bg := .acq, bypOsc := !s.pll.refclkOk || cause == 3, bypAt := s.clk.now, alignDue := false
    ramp := p.ramp.suspend s.clk.now (s.rampX x) }
  let s2 := (s1.bump Fld.pllCnt_BYP x).bump Fld.pllCnt_UNLOCK x (b2n (cause == 2))
  (s2.goPll x .bypass).raise Ev.pllBypass x cause

/-- Candidate `id` leaves QUALIFIED and SELECTED: the input of PLL-A or PLL-B is lost where SRC is 1 and names it (R280 cause 1, R281). -/
def State.pllInputLost (s : State) (id : Nat) : State :=
  [1, 2].foldl (fun s x =>
    let p := s.pllOf x
    if s.pllSrc x ≠ 1 ∨ s.ap Fld.pllSrcCand_VAL x ≠ id then s
    else if p.st = .locked then s.pllToBypass x 1 p.phErr
    else if p.st = .bypass then s.setPll x { p with bg := .acq }
    else s) s

/-- A candidate in a new state: a change raises REF_CAND_STATE with the ID, the state and the cause (R255).  Entering QUALIFYING
restarts the qualification; leaving QUALIFIED and SELECTED takes the input of a PLL away. -/
def State.setCandSt (s : State) (id : Nat) (st : CandSt) (cause : Nat) : State :=
  let c := s.cand id
  let c' : Cand := if st = .qualifying then { c with st := st, cause := cause, pulses := 0, qsum := 0, qn := 0 }
    else { c with st := st, cause := cause }
  let t := s.raiseIf (decide (c.st ≠ st)) Ev.refCandState id st.code cause
  let u : State := { t with ref := { s.ref with cands := Tab.set s.ref.cands id c' } }
  if (c.st = .qualified ∨ c.st = .selected) ∧ st ≠ .qualified ∧ st ≠ .selected then u.pllInputLost id else u

/-- A timing channel in a new state: a change raises TCORE_CH_STATE with the handle and the state (R224). -/
def State.setChanSt (s : State) (i : Nat) (st : ChanState) : State :=
  let c := s.tchan i
  let c' : TChan := if st = .listening then { c with state := st, heardAnnounce := false, heardSync := false }
    else { c with state := st }
  let t := s.raiseIf (decide (c.state ≠ st)) Ev.tcoreChState (s.handleOf .tchan i).toNat st.code
  { t with tchans := Tab.set s.tchans i c' }

/-! ## Announced quality (R230) -/

/-- The selected time reference is not a timing channel and has QR ≤ 1 (REF_STAT.PRTC). -/
def State.prtc (s : State) : Bool :=
  match s.ref.tsel with
  | some id => !(candIsChan id) && decide (s.candQr id ≤ 1)
  | none => false

/-- The selected frequency reference has QR ≤ 3 (REF_STAT.PRC). -/
def State.prc (s : State) : Bool :=
  match s.ref.fsel with
  | some id => s.candQr id ≤ 3
  | none => false

/-- The column of Table TCORE-8: PROFILE 0, or the G.8275 profiles with T-GM or T-BC by CLOCK_TYPE. -/
inductive ClassCol where
  | gm | bc | p0
  deriving DecidableEq, Repr

/-- A row of Table TCORE-8 with one clockClass per column. -/
def classRow (c : ClassCol) (gm bc p0 : Nat) : Nat :=
  match c with
  | .gm => gm
  | .bc => bc
  | .p0 => p0

/-- The announced quality by state (Table TCORE-8), without the override. -/
def State.stateQuality (s : State) (c : ClassCol) : ClockQuality :=
  match s.tcore.tstate with
  | .freerun => ⟨248, 0xFE, 0xFFFF⟩
  | .acquire =>
    let e := s.tcore.entryCls
    ⟨if s.tcore.acqFromFree then 248 else classRow c e.1 e.2.1 e.2.2, 0xFE, 0xFFFF⟩
  | .locked =>
    match s.ref.tsel with
    | some id =>
      if candIsChan id then
        let ch := s.tchan (id % 2 ^ 20)
        ⟨ch.cls, ch.acc, ch.var⟩
      else if s.prtc then ⟨6, 0x21, 0x4E5D⟩
      else
        let w := Config.freeClass id
        ⟨fieldOf w 0 8, fieldOf w 8 8, fieldOf w 16 16⟩
    | none => s.tcore.quality
  | .holdover =>
    if !s.ref.budgetOver then ⟨classRow c 7 135 7, 0xFE, 0xFFFF⟩
    else if s.prc then ⟨classRow c 140 165 52, 0xFE, 0xFFFF⟩
    else if s.ref.fsel.isSome then ⟨classRow c 150 165 52, 0xFE, 0xFFFF⟩
    else ⟨classRow c 160 165 52, 0xFE, 0xFFFF⟩

/-- CLOCK_TYPE; 3 acts as 1 (Table TCORE-10). -/
def State.clockType (s : State) : Nat :=
  if s.ap Fld.tcoreCtrl_CLOCK_TYPE = 3 then 1 else s.ap Fld.tcoreCtrl_CLOCK_TYPE

/-- The quality that master channels announce (R230): 255 as slave-only, the override, or the state's row. -/
def State.announced (s : State) (p0 : Bool) : ClockQuality :=
  if s.apB Fld.tcoreCtrl_CLASS_OVR_EN then
    ⟨s.ap Fld.tcoreClassOvr_CLASS, s.ap Fld.tcoreClassOvr_ACC, s.ap Fld.tcoreClassOvr_VAR⟩
  else
    let q := s.stateQuality (if p0 then .p0 else if s.clockType = 0 then .gm else .bc)
    if s.clockType = 2 then { q with cls := 255 } else q

/-- A quality as the word of TCORE_CLASS. -/
def ClockQuality.word (q : ClockQuality) : Nat := q.cls % 256 + q.acc % 256 * 256 + q.var % 65536 * 65536

/-! ## What is mirrored to the other part of a pair (R368, R375, R384) -/

/-- An engine holds the task (Table ENG-1). -/
def State.taskHeld (s : State) (t : Nat) : Bool := (Tab.get {} s.eng.tasks t).holder.isSome

/-- A sequenced frame is sent and waits for its acknowledgement (R368). -/
def State.omdSend (s : State) (p : OmdPayload) : State :=
  { s with pair := { s.pair with
    txq := s.pair.txq ++ [{ seq := s.pair.txSeq, payload := p }], txSeq := (s.pair.txSeq + 1) % 2 ^ 32 } }

/-- Deltas are mirrored: the part is one of a pair and its link carries mirroring (R375). -/
def State.mirroring (s : State) : Bool := decide (s.pair.st = .synced) || decide (s.pair.st = .resync)

/-- A delta: sent at once while task 10 has a holder, queued otherwise; an overflow of 65,536 records is counted and raised
(R384). -/
def State.pairDelta (s : State) (p : OmdPayload) : State :=
  if !(s.mirroring) then s
  else if s.taskHeld 10 && decide (s.pair.queue = []) then s.omdSend p
  else if s.pair.queue.length < 65536 then { s with pair := { s.pair with queue := s.pair.queue ++ [(p, s.clk.now)] } }
  else
    let s1 := (s.bump Fld.pairMirOvf_VAL).raiseIf (!s.pair.overflow) Ev.pairMirOverflow
    { s1 with pair := { s1.pair with overflow := true, mirrorOk := false } }

/-- The code of a time state (Table TCORE-1). -/
def TState.code : TState → Nat
  | .freerun => 0 | .acquire => 1 | .locked => 2 | .holdover => 3

/-- The time state as TIME_STATE carries it (Table PAIR-2). -/
def State.timeStateRec (s : State) : TimeStateRec :=
  { tstate := s.tcore.tstate.code, hstage := s.ref.ep.elim 0 (fun e => if s.tcore.tstate = .holdover then e.stage else 0)
    budgetOver := s.ref.budgetOver, stepPending := s.ref.stepPend.isSome, cls := BitVec.ofNat 32 s.tcore.quality.word
    hoErr := s.ref.ep.elim 0 (fun e => min (e.e / (1000 * 172800)) (2 ^ 32 - 1)), hoTime := s.ref.ep.elim 0 (fun e => e.t)
    qr := s.ref.tsel.elim 15 (fun c => s.candQr c) }

/-- The time state with E and the holdover time left out: they move every second. -/
def TimeStateRec.fixed (t : TimeStateRec) : TimeStateRec := { t with hoErr := 0, hoTime := 0 }

/-- A primary sends TIME_STATE at each change of its time state (Table PAIR-2). -/
def State.timeStateOut (s : State) : State :=
  let t := s.timeStateRec
  if s.pair.role ≠ .primary ∨ !s.mirroring ∨ s.pair.timeLast.any (fun x => decide (x.fixed = t.fixed)) then s
  else ({ s with pair := { s.pair with timeLast := some t } } : State).pairDelta (.timeState t)

/-! ## The announced quality (R230) -/

/-- A new announced quality; a change raises TCORE_CLASS_CHG. -/
def State.setQuality (s : State) (q : ClockQuality) : State :=
  let t := s.raiseIf (decide (q ≠ s.tcore.quality)) Ev.tcoreClassChg q.word s.tcore.quality.word
  { t with tcore := { s.tcore with quality := q } }

/-- TCORE_CLASS follows the state (R230); a standby that follows shows the primary's (R378), a primary sends its time state. -/
def State.updateClass (s : State) : State := if s.pair.follow then s else (s.setQuality (s.announced false)).timeStateOut

/-! ## The model (R264) -/

/-- STEP of the model; 0 acts as 1. -/
def State.mdlStep (s : State) : Nat := max 1 (s.ap Fld.refMdlCfg_STEP)

/-- The temperature of node `k` in 1/256 °C. -/
def State.nodeTemp (s : State) (k : Nat) : Int := (s.apI Fld.refMdlCfg_T0 + k * s.mdlStep) * 256

/-- The model temperature T (R263): REF_TEMP_EXT while it is selected and fresh, the die sensor otherwise. -/
def State.modelTemp (s : State) : Int :=
  if s.apB Fld.refMdlCfg_TEMP_SRC && !s.ref.tempStale then s.apI Fld.refTempExt_VAL else s.ref.dieTemp

/-- The nodes with at least 16 samples. -/
def Model.learned (m : Model) : List Nat := (List.range 8).filter (fun k => decide (16 ≤ (m.nodes.getD k {}).n))

/-- MODEL_VALID: two nodes with 16 samples, the first sample at least 72 h old (R264). -/
def Model.valid (m : Model) (sec : Nat) : Bool :=
  decide (2 ≤ m.learned.length) && (match m.first with
    | some f => decide (f + 72 * 3600 ≤ sec)
    | none => false)

/-- M(T): linear between nodes, extended from the last two nodes beyond the ends; 2^-44, rounded down. -/
def State.modelAt (s : State) (m : Model) (t : Int) : Int :=
  let k := (List.range 7).foldl (fun k j => if s.nodeTemp j ≤ t then j else k) 0
  let y0 := (m.nodes.getD k {}).y
  let y1 := (m.nodes.getD (k + 1) {}).y
  y0 + (y1 - y0) * (t - s.nodeTemp k) / (s.mdlStep * 256)

/-- T lies within the learned range. -/
def State.inLearned (s : State) (m : Model) (t : Int) : Bool :=
  match m.learned.head?, m.learned.getLast? with
  | some a, some b => decide (s.nodeTemp a ≤ t) && decide (t ≤ s.nodeTemp b)
  | _, _ => false

/-! ## TSTATE (R205) -/

/-- The holdover stage at `t` seconds (Table REF-4). -/
def State.hoStage (s : State) (t : Nat) : Nat :=
  if t < min 300 (s.ap Fld.refHoCfg_EARLY_S) then 1 else if s.prc then 3 else 2

/-- A fresh holdover episode from the means of the 64 s before the fault (R262). -/
def State.newEpisode (s : State) : Episode :=
  let h := s.ref.faultHist.getD s.ref.hist
  let fe := if h = [] then s.clk.rate else meanInt (h.map (fun x => x.1))
  let te := if h = [] then s.modelTemp else meanInt (h.map (fun x => x.2.1))
  let off := (meanInt (h.map (fun x => x.2.2))).natAbs
  let e0 := (s.ap Fld.refHoCfg_ENTRY_NS * 1000 + off * 1000 / 65536) * 172800
  { fe := fe, te := te, e0 := e0, e := e0, stage := s.hoStage 0, mdl := s.ref.mdl, mdlValid := s.ref.mdl.valid (secOf s.tod) }

/-- RATE as a signed 32-bit word (R204). -/
def State.setRate (s : State) (r : Int) : State := { s with clk := { s.clk with rate := clampInt (-2147483648) 2147483647 r } }

/-- RATE is 0 in FREERUN without a frequency reference, while the servo is on and the part does not follow (Table TCORE-1). -/
def State.freerunRate (s : State) : State :=
  if s.tcore.tstate = .freerun ∧ s.ref.fsel = none ∧ s.apB Fld.tcoreCtrl_SERVO_EN ∧ !s.pair.follow then s.setRate 0 else s

/-- The slew that begins now is limited to THAW_RATE about the present RATE (R268; log entry 116). -/
def State.startThaw (s : State) : State := { s with tcore := { s.tcore with thaw := some s.clk.rate } }

/-- TSTATE changes: TCORE_STATE is raised with the old and the new state, LOCKED ends a holdover episode and clears
BUDGET_OVER (R265), HOLDOVER begins one or continues the interrupted one (R262, R269), ACQUIRE out of HOLDOVER limits the slew
(R268), and the announced quality follows.  It holds its value with SERVO_EN 0 (R207), and shows the primary's while the part
follows (R378). -/
def State.setTstate (s : State) (st : TState) (fromFree : Bool := false) : State :=
  if !(s.apB Fld.tcoreCtrl_SERVO_EN) || s.pair.follow || decide (s.tcore.tstate = st) then s
  else
    let s1 := s.raise Ev.tcoreState s.tcore.tstate.code st.code
    let s2 : State := { s1 with
      tcore := { s.tcore with
        tstate := st, acqFromFree := fromFree, acqFirst := decide (st = .acquire), lockCnt := 0
        entryCls := ((s.stateQuality .gm).cls, (s.stateQuality .bc).cls, (s.stateQuality .p0).cls)
        thaw := if st = .acquire ∧ !fromFree then some s.clk.rate else none }
      ref := { s.ref with
        lockedS := 0
        budgetOver := if st = .locked then false else s.ref.budgetOver
        faultHist := if st = .holdover then none else s.ref.faultHist
        ep := match st with
          | .locked => none
          | .freerun => none
          | .holdover => some (s.ref.ep.getD s.newEpisode)
          | .acquire => s.ref.ep } }
    let s3 := s2.updateClass.freerunRate
    if st = .holdover then
      (s3.raise Ev.refHoldover ((s3.ref.ep.map (fun e => e.stage)).getD 1)).wakeEvent 3
    else s3

/-! ## Selection (R258) -/

/-- A port's LNK unit. -/
def State.lnkPort (s : State) (p : Nat) : LnkPort := Tab.get {} s.lnk.ports p

/-- The port argument of a timing channel (Table HDL-3, bytes 12–13). -/
def Obj.chanPort (o : Obj) : Nat := leAt o.args 0 2

/-- The sort key of a candidate under rule 2 of R258: QR, LNK ACTIVE first, PRIO, stepsRemoved, fixed IDs before handles. -/
def State.candKey (s : State) (id : Nat) : Nat :=
  let i := id % 2 ^ 20
  let isC := candIsChan id
  let lnk := if isC && decide ((s.lnkPort (s.obj .tchan i).chanPort).st ≠ .active) then 1 else 0
  let steps := if isC then (s.tchan i).steps else 0
  let order := if isC then 2 ^ 20 + i else id
  (((s.candQr id * 2 + lnk) * 16 + s.candPrio id) * 65536 + steps) * 2 ^ 21 + order

/-- The candidate may be selected: QUALIFIED or SELECTED, PRIO not 15. -/
def State.candUsable (s : State) (id : Nat) : Bool :=
  (decide ((s.cand id).st = .qualified) || decide ((s.cand id).st = .selected)) && decide (s.candPrio id ≠ 15)

/-- The best usable candidate of a class in the order of R258. -/
def State.bestCand (s : State) (time : Bool) : Option Nat :=
  ((s.ref.cands.map (fun e => e.1)).filter (fun id => candIsTime id == time && s.candUsable id)).foldl
    (fun b id => match b with
      | none => some id
      | some x => if s.candKey id < s.candKey x then some id else some x) none

/-- The selection is kept: its candidate is SELECTED or in HOLDOFF, or is a channel that listens again after a master change
(R225). -/
def State.selKept (s : State) (sel : Option Nat) : Bool :=
  match sel with
  | some id => decide ((s.cand id).st = .selected) || decide ((s.cand id).st = .holdoff) ||
      (candIsChan id && decide ((s.cand id).st = .qualifying))
  | none => false

/-- The selection that the rules of R258 give: the preferred candidate when it is usable, and either REVERT is 1 or it has not been
deselected since it was written; a kept selection; the best fall-back. -/
def State.wantedSel (s : State) (time : Bool) : Option Nat :=
  let cur := if time then s.ref.tsel else s.ref.fsel
  let pref := if time then s.ap Fld.refPrefT_VAL else s.ap Fld.refPrefF_VAL
  if candIsTime pref == time && s.candUsable pref && (s.apB Fld.refCfg_REVERT || (if time then s.ref.armT else s.ref.armF)) then some pref
  else if s.selKept cur then cur
  else s.bestCand time

/-- A candidate becomes SELECTED, or is deselected to QUALIFIED, out of HOLDOFF to FAILED; a timing channel follows (Table
TCORE-4). -/
def State.markSel (s : State) (c : Option Nat) (on : Bool) : State :=
  match c with
  | none => s
  | some id =>
    let st := (s.cand id).st
    if on then
      let s1 := s.setCandSt id .selected 0
      if candIsChan id then s1.setChanSt (id % 2 ^ 20) .selected else s1
    else
      let s1 := if st = .selected then s.setCandSt id .qualified 0
        else if st = .holdoff then s.setCandSt id .failed (s.cand id).cause else s
      if candIsChan id && decide ((s.tchan (id % 2 ^ 20)).state = .selected) then s1.setChanSt (id % 2 ^ 20) .qualified else s1

/-- TSEL changes (R258): REF_SEL_CHG with class 0.  The fault that a fall-back answers is over: its history is no longer kept
(R262). -/
def State.selectT (s : State) (c : Option Nat) : State :=
  let old := s.ref.tsel
  let s1 := (s.markSel old false)
  let s2 : State := { s1 with ref := { s1.ref with 
    tsel := c, armT := s1.ref.armT && old != some (s.ap Fld.refPrefT_VAL)
    faultHist := if c.isSome then none else s1.ref.faultHist } }
  let s3 := s2.markSel c true
  (s3.raise Ev.refSelChg 0 (candWord old) (candWord c)).updateClass

/-- FSEL changes (R258): REF_SEL_CHG with class 1. -/
def State.selectF (s : State) (c : Option Nat) : State :=
  let old := s.ref.fsel
  let s1 := (s.markSel old false)
  let s2 : State := { s1 with ref := { s1.ref with fsel := c, armF := s1.ref.armF && old != some (s.ap Fld.refPrefF_VAL) } }
  let s3 := s2.markSel c true
  ((s3.raise Ev.refSelChg 1 (candWord old) (candWord c)).updateClass).freerunRate

/-- PHASE_STEP_LIMIT in 2^-16 ns. -/
def State.stepLimit (s : State) : Nat := s.ap Fld.refRetCfg_PHASE_STEP_LIMIT * 65536

/-- A return offset may be slewed: within the limit, or SLEW_BIG (R267). -/
def State.slewOk (s : State) (o : Int) : Bool := s.apB Fld.refRetCfg_SLEW_BIG || decide (o.natAbs ≤ s.stepLimit)

/-- The mean offset of a candidate during its qualification (R267). -/
def Cand.returnOff (c : Cand) : Int := if c.qn = 0 then c.off else c.qsum / c.qn

/-- STEP_PENDING sets for a candidate with return offset `o` in 2^-16 ns (R267). -/
def State.setStepPending (s : State) (id : Nat) (o : Int) : State :=
  let t := s.raise Ev.refStepPending (unsigned 32 (o / 65536))
  ({ t with ref := { s.ref with stepPend := some id } } : State).timeStateOut

/-- TSEL changes, with bias `b` (R261); a return of this candidate waits no longer. -/
def State.selectBias (s : State) (id : Nat) (b : Int) : State :=
  let s1 := s.selectT (some id)
  ({ s1 with ref := { s1.ref with
    bias := b, biasSlew := false, stepPend := s1.ref.stepPend.filter (fun c => c != id) } } : State).timeStateOut

/-- A new time candidate is taken, by the state that the part is in (R258, R261, R267, R268); a standby that follows only selects
(R378).  A preferred candidate that is taken after TSEL was lost is taken as a fall-back (log entry 33). -/
def State.takeT (s : State) (id : Nat) : State :=
  if s.pair.follow then s.selectT (some id)
  else match s.tcore.tstate with
  | .freerun => ((s.selectBias id 0).setTstate .acquire true)
  | .acquire => s.selectT (some id)
  | .holdover =>
    let o := (s.cand id).returnOff
    let s1 := s.selectBias id 0
    if s.slewOk o then s1.setTstate .acquire false else s1.setStepPending id o
  | .locked =>
    let o := meanInt (s.cand id).last
    if id = s.ap Fld.refPrefT_VAL ∧ s.selKept s.ref.tsel then
      (if s.slewOk o then
         let s1 := (s.selectBias id 0).startThaw
         ({ s1 with ref := { s1.ref with stepPend := none } } : State).timeStateOut
       else if s.ref.stepPend = some id then s else s.setStepPending id o)
    else s.selectBias id o

/-- No time candidate is left (Table TCORE-1). -/
def State.loseT (s : State) : State :=
  let s1 := ({ (s.selectT none) with ref := { (s.selectT none).ref with stepPend := none } } : State).timeStateOut
  match s.tcore.tstate with
  | .freerun => s1
  | .holdover => s1
  | .acquire => if s.tcore.acqFromFree then s1.setTstate .freerun else s1.setTstate .holdover
  | .locked => s1.setTstate .holdover

/-- The selections are made again after a change (R258).  A pending return whose candidate is no longer usable clears
(R267).  Time candidates that qualify in HOLDOVER wait for the end of their second (R269). -/
def State.reselect (s : State) : State :=
  let s0 : State := match s.ref.stepPend with
    | some id => if s.candUsable id then s else ({ s with ref := { s.ref with stepPend := none } } : State).timeStateOut
    | none => s
  let wf := s0.wantedSel false
  let s1 := if wf = s0.ref.fsel then s0 else s0.selectF wf
  let wt := s1.wantedSel true
  if wt = s1.ref.tsel ∨ s1.ref.selDue then s1
  else match wt with
    | some id => s1.takeT id
    | none => s1.loseT

/-- A candidate has become QUALIFIED.  In HOLDOVER a time candidate is selected at the end of the current second, so that those
that qualify in one second are ordered by R258 (R269). -/
def State.qualified (s : State) (id : Nat) : State :=
  if candIsTime id ∧ s.tcore.tstate = .holdover ∧ s.ref.tsel = none ∧ !s.pair.follow then { s with ref := { s.ref with selDue := true } }
  else s.reselect

/-- The second in which time candidates qualified has ended (R269). -/
def State.selSec (s : State) : State :=
  if s.ref.selDue then ({ s with ref := { s.ref with selDue := false } } : State).reselect else s

/-! ## Checks of a candidate (R255, R256) -/

/-- A check of the candidate fails with `cause`: QUALIFYING and QUALIFIED fail at once, SELECTED enters HOLDOFF (a packet
candidate fails), and the 64 s before the fault are kept (R262). -/
def State.candFail (s : State) (id cause : Nat) : State :=
  let c := s.cand id
  let s := { s with ref := { s.ref with cands := Tab.set s.ref.cands id { c with failing := true } } }
  match c.st with
  | .qualifying => (s.setCandSt id .failed cause).reselect
  | .qualified => (s.setCandSt id .failed cause).reselect
  | .selected =>
    let s : State := if s.ref.tsel = some id then { s with ref := { s.ref with faultHist := some s.ref.hist } } else s
    if candIsChan id || s.ap Fld.refCfg_HOLDOFF_MS == 0 then (s.setCandSt id .failed cause).reselect else s.setCandSt id .holdoff cause
  | _ => s

/-- Every check of the candidate passes: ABSENT and FAILED candidates begin to qualify (a frequency-class candidate after its
wait-to-restore), a candidate in HOLDOFF is SELECTED again and counts (R255, R257). -/
def State.candPass (s : State) (id : Nat) : State :=
  let c := s.cand id
  let s := { s with ref := { s.ref with cands := Tab.set s.ref.cands id { c with failing := false } } }
  match c.st with
  | .absent => s.setCandSt id .qualifying 0
  | .failed => if candIsTime id || s.ap Fld.refCfg_WTR_S == 0 then s.setCandSt id .qualifying c.cause else s
  | .holdoff =>
    let s : State := if s.ref.tsel = some id then { s with ref := { s.ref with faultHist := none } } else s
    ((s.bump Fld.refHoldoffCnt_VAL).setCandSt id .selected c.cause)
  | _ => s

/-- The candidate's unit goes away: ABSENT with cause 7, and the selections are made again. -/
def State.candAbsent (s : State) (id : Nat) : State :=
  if (s.cand id).st = .absent ∨ (s.cand id).st = .disabled then s
  else
    let s : State := if s.ref.tsel = some id then { s with ref := { s.ref with faultHist := some s.ref.hist } } else s
    (s.setCandSt id .absent 7).reselect

/-- EN of the candidate is 0: DISABLED; 1: QUALIFYING when its unit is there (Table REF-3).  On an absent unit it has no effect
(R253). -/
def State.candEnable (s : State) (id : Nat) : State :=
  let c := s.cand id
  if s.candUnitAbsent id then s
  else if !(s.candEn id) then
    if c.st = .disabled then s else (s.setCandSt id .disabled 0).reselect
  else if c.st = .disabled then s.setCandSt id (if s.candAvail id then .qualifying else .absent) (if s.candAvail id then 0 else 7)
  else s

/-- A timing channel is no packet candidate any more (cause 5). -/
def State.chanCandFail (s : State) (i : Nat) : State := s.candFail (s.handleOf .tchan i).toNat 5

/-- A timing channel enters LOST (Table TCORE-4), and REF falls back or holds over (R225). -/
def State.chanLost (s : State) (i : Nat) : State :=
  let id := (s.handleOf .tchan i).toNat
  (s.setChanSt i .lost).candFail id 5

/-- The timing channels on a port that are in use. -/
def State.chansOn (s : State) (p : Nat) : List Nat :=
  (s.inUse .tchan).filter (fun i => decide ((s.obj .tchan i).chanPort = p))

/-- The slave and passive channels of a port enter LOST: loss of LOCK, lane group out of service (Table TCORE-4). -/
def State.portChansLost (s : State) (p : Nat) : State :=
  (s.chansOn p).foldl (fun s i =>
    if (s.tchan i).state = .sending ∨ (s.tchan i).state = .lost then s else s.chanLost i) s

/-- LOCK returns on the port: its slave and passive channels listen (Table TCORE-4). -/
def State.portChansListen (s : State) (p : Nat) : State :=
  (s.chansOn p).foldl (fun s i => if (s.tchan i).state = .lost then s.setChanSt i .listening else s) s

end Sys2Proof.Machine
end

