-- ==== Sys2Proof/WellFormed.lean ====
section
/-! DEFINITION. Well-formed commands: operands name instances that some variant of the part has, and descriptors have the
lengths of chapter 3.  No event or command of the hardware is ill-formed; the model refuses an ill-formed one. -/

set_option Elab.async false

namespace Sys2Proof

namespace Machine

/-- An engine E0 to E15. -/
def engineNo (e : Nat) : Bool := decide (e < 16)

/-- A path names an engine of the part. -/
def Path.wf : Path → Bool
  | .eng e => engineNo e
  | _ => true

/-- A source names a command ring (R54) or an engine. -/
def CmdSrc.wf : CmdSrc → Bool
  | .ring n => decide (56 ≤ n) && decide (n < 64)
  | .eng e => engineNo e
  | .boot => true

/-- A descriptor: 20 argument bytes, and an EXT buffer of at most 4,096 bytes (Table HIF-9c). -/
def CmdDesc.wf (d : CmdDesc) : Bool :=
  d.src.wf && decide (d.args.length = 20) && decide (d.ext.length ≤ 4096)

/-- Argument byte `n` of a descriptor without EXT, in the numbering of the descriptor: the ACTION byte that selects a row. -/
def CmdDesc.argAct (d : CmdDesc) (n : Nat) : Nat :=
  ((if d.flags.toNat / 2 % 2 = 1 then d.ext else d.args).getD (n - 12) 0).toNat

/-- A lane, user port or their LNK and timestamp units: 0 to 95. -/
def lanePort (n : Nat) : Bool := decide (n < 96)

/-- A user port or port 96. -/
def portNo (n : Nat) : Bool := decide (n < 97)

/-- A lane group G0 to G11. -/
def group (g : Nat) : Bool := decide (g < 12)

/-- What the PCIe link can train to and the host can set (Table HIF-1): generation, width, payload size, read request size. -/
def pcieLink (gen width mps mrrs : Nat) : Bool :=
  decide (1 ≤ gen) && decide (gen ≤ 4) && [1, 2, 4, 8].contains width && [128, 256, 512].contains mps &&
    [128, 256, 512, 1024, 2048, 4096].contains mrrs

/-- A ring 0 to 63. -/
def ringNo (n : Nat) : Bool := decide (n < 64)

/-- PLL-T, PLL-A, PLL-B or PLL-E. -/
def pllNo (n : Nat) : Bool := decide (n < 4)

/-- One of a pair of balls: PPS outputs, PPS inputs, TIC gates. -/
def ppsOut (n : Nat) : Bool := decide (n < 2)

/-- A satellite channel. -/
def gnssChan (c : Nat) : Bool := decide (c < 64)

/-- A search job. -/
def searchJob (j : Nat) : Bool := decide (j < 32)

/-- A TIC channel. -/
def ticChan (c : Nat) : Bool := decide (c < 16)

/-- A timing channel index. -/
def timingChan (c : Nat) : Bool := decide (c < 4096)

/-- A calibration job. -/
def calJob (j : Nat) : Bool := decide (j < 16)

/-- A firmware task (Table ENG-1). -/
def taskNo (t : Nat) : Bool := decide (t < 11)

/-- A SPAD bank. -/
def spadBank (b : Nat) : Bool := decide (b < 32)

/-- A SPAD word offset: aligned, inside 8 MiB. -/
def spadWord (o : Nat) : Bool := decide (o < 8388608) && decide (o % 4 = 0)

/-- A buffer pool. -/
def poolNo (p : Nat) : Bool := decide (p < 5)

/-- A BPM requester. -/
def requesterNo (r : Nat) : Bool := decide (r < 106)

/-- A disturbance names a pool or a requester. -/
def BufUpset.wf : BufUpset → Bool
  | .unlinked _ => true
  | .store p => poolNo p
  | .charge r _ => requesterNo r

/-- A persistent word. -/
def persNo (w : Nat) : Bool := decide (w < 512)

/-- An MSI-X vector. -/
def msixVec (v : Nat) : Bool := decide (v < 64)

/-- A guaranteed flow index. -/
def flowIndex (f : Nat) : Bool := decide (f < 16384)

/-- An IEEE 802.1CB function. -/
def cbFnNo (f : Nat) : Bool := decide (f < 1024)

/-- An Ommund lane. -/
def ommund (n : Nat) : Bool := decide (n < 4)

/-- A performance counter of an engine. -/
def perfCtr (k : Nat) : Bool := decide (k < 8)

/-- A lookup pipeline. -/
def pipeline (p : Nat) : Bool := decide (p < 4)

/-- A power domain of Table PWR-1. -/
def domainNo (d : Nat) : Bool := decide (d < 20) || (decide (32 ≤ d) && decide (d < 48)) || (decide (64 ≤ d) && decide (d < 96))

/-- A candidate of Table REF-1: a fixed ID, or a handle of type 2. -/
def candNo (c : Nat) : Bool := decide (c < 103) || (decide (536870912 ≤ c) && decide (c < 805306368))

end Machine

open Machine

/-- Well-formed commands. -/
def Instr.wf : Instr → Bool
  | .registerWrite path _ _ _ => path.wf
  | .rcRead path _ _ => path.wf
  | .setAliasWrite path _ _ => path.wf
  | .clearAliasWrite path _ _ => path.wf
  | .toggleAliasWrite path _ _ => path.wf
  | .i2cWriteTransfer _ _ => true
  | .i2cReadTransfer _ n => decide (n ≤ 4096)
  | .mbxRequest path _ _ => path.wf
  | .mbxLastWordRead path _ _ => path.wf
  | .sysKeyWrite path _ => path.wf
  | .keyUnlockExpire path => path.wf
  | .keyBlockExpire path => path.wf
  | .commit => true
  | .commitAtSec => true
  | .discard => true
  | .frameBoundaryApply port _ _ => portNo port
  | .idleApply lane => lanePort lane
  | .secondBoundary => true
  | .persWordWrite path word _ => path.wf && persNo word
  | .persStoreDone word => persNo word
  | .cfgScrubPass _ => true
  | .appliedCopyError _ _ => true
  | .pcieLinkUp gen width mps host => pcieLink gen width mps host.mrrs
  | .ringCfgWrite ring _ _ => ringNo ring
  | .ringEnable ring => ringNo ring
  | .ringDisable ring => ringNo ring
  | .ringReset ring => ringNo ring
  | .ringDrainLimit ring => ringNo ring
  | .ringDrainEnd ring => ringNo ring
  | .doorbell ring _ _ _ => ringNo ring && decide (ring < 48 ∨ 56 ≤ ring)
  | .cplDoorbell ring _ _ _ => ringNo ring && decide (48 ≤ ring) && decide (ring < 56)
  | .descTake ring raw _ => ringNo ring && decide (raw.length = 32) && decide (ring < 48 ∨ 56 ≤ ring)
  | .txCompletion ring _ => ringNo ring && decide (ring < 24)
  | .rxHostDeliver _ _ => true
  | .intTimerExpire ring => ringNo ring && decide (48 ≤ ring) && decide (ring < 56)
  | .msixUnmask vec => msixVec vec
  | .dmaError ring _ => ringNo ring
  | .functionLevelReset => true
  | .d3hotEntry => true
  | .busMasterClear => true
  | .flowCreate d => d.wf
  | .flowBoundConfirm flow => flowIndex flow
  | .flowModify d => d.wf
  | .flowQuery d => d.wf
  | .flowDestroy d => d.wf
  | .flowList d => d.wf
  | .flowDisable d => d.wf
  | .flowEnable d => d.wf
  | .tchanCreate d => d.wf
  | .tchanModify d => d.wf
  | .tchanQuery d => d.wf
  | .tchanDestroy d => d.wf
  | .tchanList d => d.wf
  | .tchanDisable d => d.wf
  | .tchanEnable d => d.wf
  | .mchanCreate d => d.wf
  | .mchanModify d => d.wf
  | .mchanQuery d => d.wf
  | .mchanDestroy d => d.wf
  | .mchanList d => d.wf
  | .mchanDisable d => d.wf
  | .mchanEnable d => d.wf
  | .mirrorCreate d => d.wf
  | .mirrorModify d => d.wf
  | .mirrorQuery d => d.wf
  | .mirrorDestroy d => d.wf
  | .mirrorList d => d.wf
  | .mirrorDisable d => d.wf
  | .mirrorEnable d => d.wf
  | .searchJobCreate d => d.wf
  | .searchJobModify d => d.wf
  | .searchJobQuery d => d.wf
  | .searchJobDestroy d => d.wf
  | .searchJobList d => d.wf
  | .searchJobDisable d => d.wf
  | .searchJobEnable d => d.wf
  | .calJobCreate d => d.wf
  | .calJobModify d => d.wf
  | .calJobQuery d => d.wf
  | .calJobDestroy d => d.wf
  | .calJobList d => d.wf
  | .calJobDisable d => d.wf
  | .calJobEnable d => d.wf
  | .objDrainEnd _ => true
  | .objDrainLimit _ => true
  | .laneRetrain lane => lanePort lane
  | .retrainDone lane _ _ _ _ => lanePort lane
  | .rxPolarityChange lane _ => lanePort lane
  | .adaptWindow lane _ _ _ _ _ _ _ _ => lanePort lane
  | .qualMeasure lane _ _ => lanePort lane
  | .forceStepBack lane => lanePort lane
  | .elecIdleEntry lane _ => lanePort lane
  | .elecIdleExit lane _ _ => lanePort lane
  | .fastExitFail lane => lanePort lane
  | .blockLock lane _ _ => lanePort lane
  | .lockLoss lane => lanePort lane
  | .lockLossRetrain lane => lanePort lane
  | .lanePhaseValid lane => lanePort lane
  | .laneGrpRemove path grp _ _ => path.wf && group grp
  | .laneGrpDrainEnd grp => group grp
  | .laneGrpReturn path grp => path.wf && group grp
  | .laneNoSignalTimeout lane => lanePort lane
  | .portJoin port => lanePort port
  | .canaryWindow rates _ => decide (rates.length = 24)
  | .vddLowerTick => true
  | .vscaleUnheldTimeout => true
  | .avsWriteDone _ _ => true
  | .avsRetry => true
  | .avsStatusRead _ _ => true
  | .avsAlert _ _ => true
  | .swCondChange cause => decide (cause < 2)
  | .swCondClear cause => decide (cause < 3)
  | .ingressFrame port _ => lanePort port
  | .bpmAlloc _ => true
  | .forwardLookup _ => true
  | .frameEligible _ _ => true
  | .cbRecoveryReset fn => cbFnNo fn
  | .schedSelect port => lanePort port
  | .egressSfd port _ => lanePort port
  | .bpmFree _ requester => requesterNo requester
  | .pauseReceive port _ _ quanta => lanePort port && decide (quanta.length = 8)
  | .pfcRefresh port => lanePort port
  | .portHoldExpire port => lanePort port
  | .portHoldWrite path port _ => path.wf && lanePort port
  | .sqDeadlineExpire _ => true
  | .residenceExpire _ => true
  | .resCfgWrite path _ => path.wf
  | .gateChange port => lanePort port
  | .gclSet d => d.wf
  | .gclActivate port => lanePort port
  | .gclGet d => d.wf
  | .boundQuery d => d.wf
  | .preemptVerify port _ => lanePort port
  | .bpmQuotaWrite path req _ => path.wf && requesterNo req
  | .auditVisit scan => scan.upsets.all BufUpset.wf
  | .storeRebuildDone pool => poolNo pool
  | .bpmCarve d => d.wf
  | .carveTakeEffect => true
  | .carveRollback => true
  | .bpmAuditRun d => d.wf
  | .fdbLearn pipe => pipeline pipe
  | .fdbAgeVisit _ _ => true
  | .fdbAdd d => d.wf
  | .fdbDel d => d.wf
  | .fdbLookup d => d.wf
  | .fdbFlush d => d.wf
  | .fdbVlanSet d => d.wf
  | .fdbMcgSet d => d.wf
  | .fdbClsSet d => d.wf
  | .fdbClsDel d => d.wf
  | .fdbCbSet d => d.wf
  | .coreFault => true
  | .standbyTrackLoss _ => true
  | .servoSample _ => true
  | .timeStep d => d.wf
  | .timeSet d => d.wf
  | .swapReq path => path.wf
  | .swapCancel path => path.wf
  | .stbyOut path => path.wf
  | .stbyIn path => path.wf
  | .ptpMessageReceive _ m => lanePort m.port
  | .tchanSend chan _ => timingChan chan
  | .tchanQualify chan => timingChan chan
  | .tchanTimeout chan => timingChan chan
  | .lnkPhaseUpdate port _ _ => lanePort port
  | .lnkHoldExpire port => lanePort port
  | .refCandSample cand _ _ _ => candNo cand
  | .refQualTimer cand => candNo cand
  | .refHoldoffExpire cand => candNo cand
  | .refWtrExpire cand => decide (cand < 100)
  | .esmcReceive port ssm _ => lanePort port && decide (ssm < 16)
  | .esmcTimeout port => lanePort port
  | .esmcSend port => lanePort port
  | .ppsInEdge input _ _ => ppsOut input
  | .ppsInTimeout input => ppsOut input
  | .holdoverTick _ => true
  | .modelLearn _ => true
  | .tempExtStale => true
  | .refTempExtWrite _ => true
  | .refPrefWrite _ _ => true
  | .refCandSet d => d.wf
  | .refRealign d => d.wf
  | .refMdlReset d => d.wf
  | .pllFreqAcquired pll => pllNo pll
  | .pllLock pll _ => pllNo pll
  | .pllBypassEntry pll cause _ => pllNo pll && (decide (cause = 1) || decide (cause = 2) || decide (cause = 4))
  | .refclkLoss => true
  | .pllAutoReturn pll => pllNo pll
  | .pllReturn d => d.wf
  | .pllRampLoad d => d.wf
  | .rampStart d => d.wf && decide (d.argAct 13 ≠ 1) && decide (d.argAct 13 ≠ 2)
  | .rampStopHold d => d.wf && decide (d.argAct 13 = 1)
  | .rampStopZero d => d.wf && decide (d.argAct 13 = 2)
  | .rampSegmentEnd pll => pllNo pll
  | .pllAlign d => d.wf
  | .ppsOutPulse out => ppsOut out
  | .ppsPulseEnd out => ppsOut out
  | .gnssClockFault _ => true
  | .gnssClockOk _ => true
  | .gnssSampleCheck codes1 codes5 _ _ => decide (codes1.length = 4) && decide (codes5.length = 4)
  | .gnssDwellStart => true
  | .gnssDwellEnd r => r.jobs.all searchJob && r.dets.all (fun x => searchJob x.job)
  | .gnssChBind path chan _ => path.wf && gnssChan chan
  | .gnssChLock chan _ => gnssChan chan
  | .gnssChPullinTimeout chan => gnssChan chan
  | .gnssChDataSync chan => gnssChan chan
  | .gnssChLoss chan => gnssChan chan
  | .gnssChRelease chan => gnssChan chan
  | .gnssEpoch meas delayPs => meas.all (fun x => gnssChan x.chan) && decide (delayPs ≤ 15274)
  | .gnssSolutionDone _ => true
  | .gnssBurstStart _ => true
  | .gnssBurstEnd => true
  | .gnssAutoAcqRound => true
  | .gnssSectOut d => d.wf && decide (d.argAct 13 ≠ 1) && decide (d.argAct 13 ≠ 2)
  | .gnssSectIn d => d.wf && decide (d.argAct 13 = 1)
  | .gnssSectTest d => d.wf && decide (d.argAct 13 = 2)
  | .gnssSectTestDone _ _ => true
  | .gnssSurveyRestart d => d.wf && decide (d.argAct 12 ≠ 1)
  | .gnssSurveyEnd d => d.wf && decide (d.argAct 12 = 1)
  | .ticArm d => d.wf
  | .ticStop d => d.wf
  | .ticEdge chan _ _ code => ticChan chan && decide (code < 1024)
  | .ticRearm chan => ticChan chan
  | .ticSampleTimeout chan => ticChan chan
  | .ticGateEdge gate _ => ppsOut gate
  | .ticTbLoss _ => true
  | .ticTbOk => true
  | .calJobEnd job _ _ _ codes _ => calJob job && decide (codes = [] ∨ codes.length = 32 ∨ codes.length = 1024)
  | .calJobTimeout job => calJob job
  | .calTempStep _ => true
  | .calStore word => persNo word
  | .calStoreRetry word => persNo word
  | .calSave d => d.wf
  | .calReload d => d.wf
  | .engWdogExpire e => engineNo e
  | .engFaultDetect e cause => engineNo e && decide (1 < cause) && decide (cause ≤ 4)
  | .engTakeover task _ => taskNo task
  | .tchanPlaceRetry => true
  | .engOut d => d.wf
  | .engDrainEnd e => engineNo e
  | .engLoad d => d.wf
  | .engIn d => d.wf
  | .engReplayDone e _ => engineNo e
  | .engTaskPin d => d.wf
  | .polSet d => d.wf
  | .polGet d => d.wf
  | .polSave d => d.wf
  | .spadDma d _ _ => d.wf
  | .engImgCommit d => d.wf
  | .spadWindowWrite off _ _ _ => spadWord off
  | .spadSetAliasWrite off _ _ => spadWord off
  | .spadClearAliasWrite off _ _ => spadWord off
  | .spadToggleWrite off _ => spadWord off
  | .engSpadPwrWrite path _ _ => path.wf
  | .spadBankTransitionDone bank => spadBank bank
  | .perfCtlClear e _ => engineNo e
  | .perfSelWrite path e _ _ => path.wf && engineNo e
  | .perfPcWrap e k => engineNo e && perfCtr k
  | .perfSample e _ _ _ => engineNo e
  | .omdLaneUp lane => ommund lane
  | .omdFrameBad => true
  | .heartbeat _ => true
  | .time x => decide (x.tx < 2 ^ 96) && x.echo.all (fun e => decide (e.1 < 2 ^ 96) && decide (e.2 < 2 ^ 96))
  | .fdbDelta _ _ => true
  | .flowDelta _ _ => true
  | .timeState _ _ => true
  | .cbState _ _ => true
  | .resyncBegin _ _ => true
  | .resyncData _ _ _ _ _ => true
  | .resyncEnd _ _ => true
  | .role _ _ => true
  | .omdRetransmit _ => true
  | .pairHbSend => true
  | .pairHbMissCheck => true
  | .inbHeartbeatRx port _ => lanePort port
  | .pairTimeSend => true
  | .pairStateSend => true
  | .pairSearchTimeout => true
  | .pairRoleWrite path _ => path.wf
  | .pairFlowTimeout => true
  | .mirrorDeltaAge => true
  | .pairRehearse d => d.wf
  | .rehearsalEnd _ _ _ _ _ => true
  | .pairRehearseTimer => true
  | .pairResync d => d.wf
  | .pairCbSet d => d.wf
  | .pwrRequest path _ => path.wf
  | .pwrEntryDrainEnd => true
  | .pwrForceGo path _ => path.wf
  | .wakeNEvent => true
  | .perstDeassert => true
  | .pwrWakeTimerMatch => true
  | .pwrWakeSupplyOk => true
  | .pwrWakeSupplyTimeout cause => decide (1 ≤ cause) && decide (cause ≤ 5)
  | .pwrSwitchGood dom => domainNo dom
  | .pwrSwitchTimeout dom => domainNo dom
  | .pwrWakeDone => true
  | .padRelease path _ => path.wf
  | .powerOnReset => true
  | .bootStart _ => true
  | .partReset _ => true
  | .sysRstPart path _ => path.wf
  | .bootCommandRecord _ => true
  | .flashRead d _ => d.wf
  | .flashWrite d _ _ => d.wf
  | .evtSuppressWindow _ _ => true
  | .faultClr path => path.wf
  | .firstClr path => path.wf
  | .logClr path => path.wf
  | .jtagUpdateIr code => decide (code < 256)
  | .pcieLinkDown => true
  | .refclkReturn => true
  | .omdLaneDown lane => ommund lane
  | .gnssChRegain chan => gnssChan chan
  | .standbyTrackAcquired _ => true
  | .pauseQuantaExpire port _ => lanePort port
  | .rampClampReached pll => pllNo pll
  | .gnssRfEnLead => true
  | .hiberRetrain lane => lanePort lane
  | .scheduledRetrain lane => lanePort lane

end Sys2Proof
end

