-- ==== Sys2Proof/Machine/Effect.lean ====
section
/-! DEFINITION. How a command's effect becomes its outcome, and the key guard of KW and PW writes (R36, R37). -/

set_option Elab.async false

namespace Sys2Proof.Machine

/-- A command has its effect on everything but the queue, and no command changes what the part is: its variant and its fused engines
(R3, R6). -/
def State.carry (t s : State) : State := { t with pending := s.pending, variant := s.variant, fused := s.fused }

/-- The outcome of a command with effect `t`: an ill-formed command is refused; while a reset holds the part nothing has an effect
(R437).  `ok` is the command's line of `Instr.wf`. -/
def effect (ok : Bool) (s t : State) : Host.Outcome State Fault Refusal :=
  if ok then (if s.pwr.inReset then .next s else .next (t.carry s)) else .refused .illFormed

/-- The outcome of an event that reaches the part in reset too: the reset inputs, and what KEEP_TIME leaves running (R404,
R437). -/
def effectInReset (ok : Bool) (s t : State) : Host.Outcome State Fault Refusal :=
  if ok then .next (t.carry s) else .refused .illFormed

/-- A KW or PW write (R36, R37): on a locked path it is ignored and SYS_KEY_REJECT carries the address; otherwise the unlock is
consumed and the write acts. -/
def State.keyed (s : State) (p : Path) (addr : Nat) (act : State → State) : State :=
  if s.unlocked p then act (s.consumeKey p) else s.raise Ev.sysKeyReject addr

end Sys2Proof.Machine
end

