-- ==== Sys2Proof/Machine/Pers.lean ====
section
/-! DEFINITION. Persistent words (R46 to R50). -/

set_option Elab.async false

namespace Sys2Proof.Machine

/-- The value of a persistent word. -/
def State.pers! (s : State) (w : Nat) : Word := Tab.get 0 s.pers.words w

/-- The wear count of a word. -/
def State.wear (s : State) (w : Nat) : Nat := Tab.get 0 s.pers.wear w

/-- BAR0 offset of a persistent word. -/
def persAddr (w : Nat) : Nat := RegKey.addr ⟨.persWord, w, 0⟩

/-- The word is being stored. -/
def State.persBusy (s : State) (w : Nat) : Bool := s.pers.busy.any (fun b => b.1 == w)

/-- The outcome of a write of `v` to word `w` (R48, items 2 to 5; R50). -/
def State.persStatus (s : State) (w : Nat) (v : Word) : Status :=
  if s.pers! w = v then .ok
  else if 200000 ≤ s.wear w then .wearOut
  else if s.persBusy w || decide (8 ≤ s.pers.busy.length) then .busy
  else .ok

/-- A write that passed the key guard, or a store by the firmware: the new value reads at once, the word is busy until its store
ends, and one write is counted (R47). -/
def State.persStore (s : State) (w : Nat) (v : Word) : State :=
  match s.persStatus w v with
  | .ok =>
    if s.pers! w = v then s
    else { s with pers := { s.pers with
      words := Tab.set s.pers.words w v
      wear := Tab.set s.pers.wear w (s.wear w + 1)
      busy := s.pers.busy ++ [(w, s.pers! w)] } }
  | .wearOut => s.raise Ev.persWearLimit (persAddr w) (s.wear w)
  | _ => s.raise Ev.persWriteRefused (persAddr w) Status.busy.code

/-- A plain write to a persistent word (R48). -/
def State.persWrite (s : State) (p : Path) (w : Nat) (v : Word) : State :=
  let st := if s.unlocked p then s.persStatus w v else .locked
  let t := s.keyed p (persAddr w) (fun s => s.persStore w v)
  { t with pers := { t.pers with last := Tab.set t.pers.last p (w, st) } }

/-- PERS_WORD_WRITE (R48); an I²C write of a PW word is ignored without any key check (R36). -/
def execPersWordWrite (p : Path) (w : Nat) (v : Word) (s : State) : Host.Outcome State Fault Refusal :=
  effect (p.wf && persNo w) s (if p = .i2c then s else s.persWrite p w v)

/-- PERS_STORE_DONE (R47): the word is no longer busy. -/
def execPersStoreDone (w : Nat) (s : State) : Host.Outcome State Fault Refusal :=
  effect (persNo w) s { s with pers := { s.pers with busy := s.pers.busy.filter (fun b => b.1 != w) } }

end Sys2Proof.Machine
end

