-- ==== Sys2Proof/Machine/CalOps.lean ====
section
/-! DEFINITION. The calibration sets (R329 to R333): nodes, interpolation over temperature, corrections on their way to a
boundary, the end of a job, and the persistent words of the sets. -/

set_option Elab.async false

namespace Sys2Proof.Machine

/-! ## Units -/

/-- `a / b` rounded to nearest, halves up (log entry 12). -/
def roundDiv (a : Int) (b : Nat) : Int := (2 * a + b) / (2 * b)

/-- Picoseconds as 2^-16 ns. -/
def psToFrac (p : Int) : Int := roundDiv (p * 65536) 1000

/-- 2^-16 ns as picoseconds. -/
def fracToPs (x : Int) : Int := roundDiv (x * 1000) 65536

/-! ## Tasks -/

/-- A takeover of the task is in progress: commands that need it wait (R340). -/
def State.taskMoving (s : State) (t : Nat) : Bool := (Tab.get {} s.eng.tasks t).moving.isSome

/-! ## Policy tables (R344) -/

/-- The reset value of a policy entry, 8 bytes as a number (Table ENG-3). -/
def polReset (t i : Nat) : Nat :=
  if t = 1 then 0x8000
  else if t = 2 then 0x808080 + (if 24 ≤ i ∧ i ≤ 63 then 2 ^ 24 else 0)
  else if t = 3 then 0x1F
  else if t = 4 then 0x503
  else 0

/-- A policy entry. -/
def State.polEntry (s : State) (t i : Nat) : Nat := Tab.get (polReset t i) s.eng.pol (t, i)

/-! ## Sets -/

/-- The temperature of node `k`, −40 + 20 k °C, in 1/256 °C (R330). -/
def calNodeTemp (k : Nat) : Int := (20 * k - 40) * 256

/-- The nodes of factory test: +20 °C and +80 °C of every lane, timestamp unit and TIC channel, with the values of log entry
14 (R331). -/
def calFactory (k : CalKey) : Option CalNode :=
  if k.target ≤ 2 ∧ (k.node = 3 ∨ k.node = 6) then some {} else none

/-- A node of a set, if it is filled. -/
def State.calNode? (s : State) (k : CalKey) : Option CalNode :=
  match Tab.find s.cal.nodes k with
  | some n => some n
  | none => calFactory k

/-- The filled nodes of a set, ascending. -/
def State.calFilled (s : State) (t i : Nat) : List Nat := (List.range 8).filter (fun k => (s.calNode? ⟨t, i, k⟩).isSome)

/-- The value at `x` of the line through (x0, y0) and (x1, y1). -/
def lerp (x0 y0 x1 y1 x : Int) : Int := if x0 = x1 then y0 else y0 + roundDiv ((y1 - y0) * (x - x0)) (x1 - x0).toNat

/-- The correction that a set gives at junction temperature `x`: linear between the two nearest filled nodes, the end node
outside the filled range (R331). -/
def State.calInterp (s : State) (t i : Nat) (x : Int) : Option CalCorr :=
  let l := s.calFilled t i
  let below := l.filter (fun k => decide (calNodeTemp k ≤ x))
  let above := l.filter (fun k => decide (x ≤ calNodeTemp k))
  match below.getLast?.orElse (fun _ => l.head?), above.head?.orElse (fun _ => l.getLast?) with
  | some j, some k =>
    let p := (s.calNode? ⟨t, i, j⟩).getD {}
    let q := (s.calNode? ⟨t, i, k⟩).getD {}
    let f := fun (y z : Int) => lerp (calNodeTemp j) y (calNodeTemp k) z x
    some { a := f p.a q.a, b := f p.b q.b, temp := x
           codes := (List.range (max p.codes.length q.codes.length)).map (fun c => f (p.codes.getD c 0) (q.codes.getD c 0)) }
  | _, _ => none

/-- The correction in force. -/
def State.calForce (s : State) (t i : Nat) : CalCorr := Tab.get {} s.cal.force ⟨t, i, 0⟩

/-- The newest correction of an instance, in force or on its way. -/
def State.calNewest (s : State) (t i : Nat) : CalCorr := Tab.get (s.calForce t i) s.cal.pend ⟨t, i, 0⟩

/-- CAL_VALID of an instance: its set has a filled node and CAL has loaded the sets (R331, R334). -/
def State.calValid (s : State) (t i : Nat) : Bool :=
  (s.cal.restored || s.isReady Rdy.cal) && decide (s.calFilled t i ≠ [])

/-- Puts a correction in force: target 3 is the register LNK_FIX_ASYM, target 4 the register GNSS_IFB (Table CAL-1). -/
def State.calApply (s : State) (t i : Nat) (c : CalCorr) : State :=
  let s1 : State := { s with cal := { s.cal with force := Tab.set s.cal.force ⟨t, i, 0⟩ c } }
  if t = 3 then s1.putBoth Fld.lnkFixAsym_VAL (satSigned 16 (fracToPs c.a)) i
  else if t = 4 then s1.putBoth Fld.gnssIfb_VAL (satSigned 16 (fracToPs c.a))
  else s1

/-- The boundary of a target instance: the pending correction takes effect (R329). -/
def State.calBoundary (s : State) (t i : Nat) : State :=
  match Tab.find s.cal.pend ⟨t, i, 0⟩ with
  | none => s
  | some c => ({ s with cal := { s.cal with pend := Tab.erase s.cal.pend ⟨t, i, 0⟩ } } : State).calApply t i c

/-- A correction waits for its boundary, and replaces one that waits (R329); a TIC channel without an armed block is between
blocks. -/
def State.calOffer (s : State) (t i : Nat) (c : CalCorr) : State :=
  let s1 : State := { s with cal := { s.cal with pend := Tab.set s.cal.pend ⟨t, i, 0⟩ c } }
  if t = 2 ∧ !(Tab.get {} s.tic.chans i).armed then s1.calBoundary 2 i else s1

/-- The instances that have sets over temperature. -/
def State.calInstances (s : State) : List (Nat × Nat) :=
  (List.range s.variant.ports).map (fun i => (0, i)) ++ (List.range s.variant.ports).map (fun i => (1, i)) ++
  (List.range s.variant.tic).map (fun i => (2, i)) ++ (if s.variant.gnss then [(4, 0)] else [])

/-- The interpolated correction of an instance is recomputed; a live correction stays until the junction has moved 5 °C from
its job's temperature (R330, R331). -/
def State.calRecompute (s : State) (t i : Nat) : State :=
  let c := s.calNewest t i
  if c.live ∧ (s.cal.temp - c.temp).natAbs < 5 * 256 then s
  else match s.calInterp t i s.cal.temp with
    | none => s
    | some n => if n.a = c.a ∧ n.b = c.b ∧ n.codes = c.codes ∧ !c.live then s else s.calOffer t i n

/-- Every set is recomputed. -/
def State.calRecomputeAll (s : State) : State := s.calInstances.foldl (fun s x => s.calRecompute x.1 x.2) s

/-! ## Persistent words of the sets (Table CAL-3, R333) -/

/-- The persistent words that a directory word covers. -/
def calDirWords (t : Nat) : List Nat :=
  if t = 2 then List.range' 106 64 else if t = 3 then List.range' 58 48 else if t = 4 then List.range' 54 4
  else if t = 5 then List.range' 40 14 else []

/-- The CRC-16 of a stored set (log entry 17). -/
def State.calCrc (s : State) (t : Nat) : Nat := (Config.crc16 ((calDirWords t).map (fun w => (s.pers! w).toNat))).toNat

/-- Nodes filled in any instance of a target. -/
def State.calMask (s : State) (t : Nat) : Nat :=
  if t = 5 then bitMap (fun k => decide (0 < (s.ref.mdl.nodes.getD k {}).n)) 8
  else bitMap (fun k => s.cal.nodes.any (fun e => e.1.target == t && e.1.node == k) || (calFactory ⟨t, 0, k⟩).isSome) 8

/-- The directory word of a target. -/
def State.calDirWord (s : State) (t : Nat) : Word := BitVec.ofNat 32 (s.calMask t + 0x100 + s.calCrc t * 65536)

/-- One attempt of CAL to write a persistent word: BUSY is tried again after 1 ms, WEAR_OUT is abandoned (R333). -/
def State.calTry (s : State) (w : Nat) (v : Word) : State :=
  let st := s.persStatus w v
  let t := s.persStore w v
  if st = .busy then { t with cal := { t.cal with retry := (w, v) :: t.cal.retry.filter (fun e => e.1 != w) } }
  else if st = .wearOut then (t.bump Fld.calStoreFail_VAL).raise Ev.calStoreFail w
  else { t with cal := { t.cal with
      retry := t.cal.retry.filter (fun e => e.1 != w)
      recent := if s.pers! w = v then t.cal.recent else insertAsc w t.cal.recent } }

/-- CAL writes one word at most once in STORE_MIN minutes: a sooner result waits (R333). -/
def State.calWrite (s : State) (w : Nat) (v : Word) : State :=
  if s.cal.recent.contains w then
    { s with cal := { s.cal with waiting := (w, v) :: s.cal.waiting.filter (fun e => e.1 != w) } }
  else s.calTry w v

/-- The contents that a word has or will have: a value that waits, or the stored one. -/
def State.calWord (s : State) (w : Nat) : Word :=
  ((s.cal.waiting ++ s.cal.retry).find? (fun e => e.1 == w)).elim (s.pers! w) (fun e => e.2)

/-- Half `h` of a word replaced by a signed 16-bit value. -/
def putHalf (w : Word) (h : Nat) (x : Int) : Word := putField w (16 * h) 16 (satSigned 16 x)

/-- Stores a 16-bit value in the words from `base` on, two per word, and the directory word of its target. -/
def State.calStoreHalf (s : State) (t base n : Nat) (x : Int) : State :=
  let w := base + n / 2
  let s1 := s.calWrite w (putHalf (s.calWord w) (n % 2) x)
  s1.calWrite (32 + t) (s1.calDirWord t)

/-- The words of the holdover model (words 40 to 53). -/
def State.calModelWords (s : State) : List (Nat × Word) :=
  let m := s.ref.mdl
  let nd := fun k => m.nodes.getD k {}
  (List.range 8).map (fun k => (40 + k, BitVec.ofInt 32 (nd k).y)) ++
  (List.range 4).map (fun k => (48 + k, BitVec.ofNat 32 ((nd (2 * k)).n % 65536 + (nd (2 * k + 1)).n % 65536 * 65536))) ++
  [(52, BitVec.ofInt 32 m.a), (53, BitVec.ofNat 32 (m.first.getD 0))]

/-- An APPLIED result is stored in its persistent words (R333). -/
def State.calAutoStore (s : State) (t i : Nat) (node : Option Nat) : State :=
  if !(s.apB Fld.calCfg_AUTO_STORE) then s
  else match t, node with
    | 2, some k => s.calStoreHalf 2 106 (8 * i + k) (fracToPs ((s.calNode? ⟨2, i, k⟩).getD {}).a)
    | 3, _ => s.calStoreHalf 3 58 i (fracToPs ((s.calNode? ⟨3, i, 0⟩).getD {}).a)
    | 4, some k => s.calStoreHalf 4 54 k (fracToPs ((s.calNode? ⟨4, 0, k⟩).getD {}).a)
    | 5, _ =>
      let s1 := s.calModelWords.foldl (fun s e => s.calWrite e.1 e.2) s
      s1.calWrite 37 (s1.calDirWord 5)
    | _, _ => s

/-! ## Saving (R332, R337) -/

/-- A flash slot: false A, true B. -/
def State.calSlot (s : State) (b : Bool) : CalSlot := if b then s.cal.slotB else s.cal.slotA
def State.setCalSlot (s : State) (b : Bool) (x : CalSlot) : State :=
  { s with cal := if b then { s.cal with slotB := x } else { s.cal with slotA := x } }

/-- The slot that holds the newest valid image, or none; with STRAP_NOFLASH both are absent (R435). -/
def State.calNewSlot (s : State) : Option Bool :=
  let b := bitAt (s.pers! 38).toNat 0
  if s.boot.straps.noFlash then none
  else if (s.calSlot b).valid then some b else if (s.calSlot (!b)).valid then some (!b) else none

/-- The slot that a save writes: the one without the newest valid image. -/
def State.calSaveSlot (s : State) : Bool := !(s.calNewSlot.getD true)

/-- A second boundary: the CAL_SAVE in progress ends (log entry 121).  Its image is valid, and only then are the directory words
written. -/
def State.calSaveEnd (s : State) : State :=
  match s.cal.saving with
  | none => s
  | some d =>
    let b := s.calSaveSlot
    let n := (fieldOf (s.pers! 38) 8 24 + 1) % 2 ^ 24
    let s1 := s.setCalSlot b { nodes := s.cal.nodes.filter (fun e => decide (e.1.target ≤ 2)), valid := true }
    let s2 := [0, 1, 2].foldl (fun s t => s.calTry (32 + t) (s.calDirWord t)) s1
    let s3 := s2.calTry 38 (BitVec.ofNat 32 (b2n b + n * 256))
    ({ s3 with free := s3.free + 1, cal := { s3.cal with saving := none } } : State).complete d 0xC601 .ok 0
      (leBytes (b2n b) 1 ++ leBytes 0 3 ++ leBytes n 4 ++ leBytes (Config.freeTime s3.free).toNat 4)

/-! ## Jobs -/

/-- TARGET and instance of a job (Table HDL-3). -/
def State.calTarget (s : State) (j : Nat) : Nat := byteAt (s.obj .cal j).args 0
def State.calInst (s : State) (j : Nat) : Nat := leAt (s.obj .cal j).args 2 2

/-- A running calibration job of a target and instance (R326). -/
def State.calJobOn (s : State) (target inst : Nat) : Bool :=
  s.cal.jobs.any (fun e => e.2.running && s.calTarget e.1 == target && s.calInst e.1 == inst)

/-- A job. -/
def State.calJob (s : State) (j : Nat) : CalJob := Tab.get {} s.cal.jobs j

/-- The TIC channel of an ended job samples again (R322). -/
def State.calRelease (s : State) (t i : Nat) : State :=
  if t = 2 then { s with tic := { s.tic with chans := Tab.set s.tic.chans i { Tab.get {} s.tic.chans i with calWait := false } } } else s

/-- A job ends with an outcome of Table CAL-2: CAL_JOB_DONE is raised, outcomes 3 and 4 are counted, and the target is released
(R327). -/
def State.calFinish (s : State) (j outcome : Nat) (notStored : Bool := false) : State :=
  let x := s.calJob j
  let s1 : State := { s with cal := { s.cal with jobs := Tab.set s.cal.jobs j { x with running := false, outcome := outcome, waitBlock := false } } }
  let s2 := if 3 ≤ outcome then s1.bump Fld.calAbortCnt_VAL else s1
  (s2.raise Ev.calJobDone (s.handleOf .cal j).toNat (outcome + 128 * b2n notStored) x.quality).calRelease (s.calTarget j) (s.calInst j)

/-- The running jobs of the targets that `p` selects end LOST (R327). -/
def State.calLose (s : State) (p : Nat → Nat → Bool) : State :=
  (s.cal.jobs.filter (fun e => e.2.running && p (s.calTarget e.1) (s.calInst e.1))).foldl (fun s e => s.calFinish e.1 4) s

/-- A running job is aborted, outcome 3. -/
def State.calAbort (s : State) (j : Nat) : State := if (s.calJob j).running then s.calFinish j 3 else s

end Sys2Proof.Machine
end

