-- ==== Sys2Proof/Machine/LnkOps.lean ====
section
/-! DEFINITION. The LNK units (chapter 10): states (R249), validity of Φ (R235), pairs (R243 to R247), the asymmetry (R239, R242).
The commands that bring updates and exchanges stand with the servo. -/

set_option Elab.async false

namespace Sys2Proof.Machine

/-- A serial lane. -/
def State.lane (s : State) (n : Nat) : Lane := Tab.get {} s.lanes n

/-- A serial lane replaced. -/
def State.setLane (s : State) (n : Nat) (l : Lane) : State := { s with lanes := Tab.set s.lanes n l }

/-- The ramp of PLL-T moves the line clock of a port, or holds it off (Table PLL-3). -/
def State.rampOn (s : State) (p : Nat) : Bool :=
  let r := (s.pllOf 0).ramp
  bitAt r.groups (p / 8) && (decide (s.rampX 0 ≠ 0) || (match r.now? with
    | some g => !g.hold && decide (g.slope ≠ 0)
    | none => false))

/-! ## LTX edges (R277) -/

/-- 12.8 ns, the shortest time in which the edges of LTX and the blocks of every mode repeat. -/
def ltxSpan : Nat := 12800 * unitsPerPs

/-- The ramp of PLL-T moves the LTX edges of its groups: a higher frequency brings them earlier (R277, R282). -/
def State.ltxFold (s : State) : State :=
  let r := (s.pllOf 0).ramp
  let a := r.area (s.clk.now - r.since) - r.area (s.pll.ltxAt - r.since)
  { s with pll := { s.pll with
    ltxAt := s.clk.now
    ltx := (List.range 12).foldl (fun l g => if bitAt r.groups g then Tab.set l g ((Tab.get 0 l g - 32 * a) % (ltxSpan : Int)) else l) s.pll.ltx } }

/-- The recorded edges of the twelve groups and of the time path (12) move by `d` units against the active core: at a step or set, and
at a swap (R277). -/
def State.ltxMove (s : State) (d : Int) : State :=
  { s with pll := { s.pll with
    ltx := (List.range 13).foldl (fun l g => Tab.set l g ((Tab.get 0 l g + d) % (ltxSpan : Int))) s.pll.ltx } }

/-- Every lock of PLL-T loads the accumulators: edges at whole multiples of 6.4 ns (R277). -/
def State.ltxLoad (s : State) : State := { s with pll := { s.pll with ltx := [], ltxAt := s.clk.now } }

/-- An instant of the active core at which an LTX edge of group `g` falls. -/
def State.ltxPhase (s : State) (g : Nat) : Int := Tab.get 0 s.ltxFold.pll.ltx g

/-- The active-core time of the last LTX edge of group `g`, in units; never before the epoch. -/
def State.ltxEdge (s : State) (g : Nat) : Nat :=
  ((s.tod : Int) - ((s.tod : Int) - s.ltxPhase g) % ((ltxSpan / 2 : Nat) : Int)).toNat

/-- A LNK unit replaced. -/
def State.setLnk (s : State) (p : Nat) (x : LnkPort) : State := { s with lnk := { s.lnk with ports := Tab.set s.lnk.ports p x } }

/-- A LNK pair, under its plan A port. -/
def State.lnkPair (s : State) (p : Nat) : LnkPair := Tab.get {} s.lnk.pairs p

/-- A LNK pair replaced. -/
def State.setPair (s : State) (p : Nat) (x : LnkPair) : State := { s with lnk := { s.lnk with pairs := Tab.set s.lnk.pairs p x } }

/-- The mode of a port's quad. -/
def State.portMode (s : State) (p : Nat) : Nat := s.quadMode (p / 4)

/-! ## Channels of a port -/

/-- ROLE of a timing channel (Table HDL-3): 0 master, 1 slave, 2 passive. -/
def Obj.chanRole (o : Obj) : Nat := byteAt o.args 3

/-- The partner portIdentity of a timing channel, read little-endian: the clockIdentity stands above its low 16 bits (log entry
19). -/
def Obj.chanPartner (o : Obj) : Nat := leAt o.args 8 10

/-- The channels of a port that are ACTIVE objects. -/
def State.liveChans (s : State) (p : Nat) : List Nat := (s.chansOn p).filter (fun i => decide ((s.obj .tchan i).phase = .active))

/-- The partner's clockIdentity of a channel: from its arguments, or from the Sync it hears. -/
def State.chanClock (s : State) (i : Nat) : Option Nat :=
  let q := (s.obj .tchan i).chanPartner
  if q = 2 ^ 80 - 1 then (s.tchan i).syncSrc.map (fun x => x / 65536) else some (q / 65536)

/-- The clockIdentities of the partners of the port's slave and passive channels. -/
def State.portPartners (s : State) (p : Nat) : List Nat :=
  ((s.liveChans p).filter (fun i => decide ((s.tchan i).role ≠ 0))).filterMap (fun i => s.chanClock i)

/-! ## Pairs (R243 to R247) -/

/-- The pair that a port belongs to, by its plan A port. -/
def State.pairOf (s : State) (p : Nat) : Option Nat := (s.lnk.pairs.find? (fun e => e.1 == p || e.2.q == p)).map (fun e => e.1)

/-- The first item of R243 that fails for plan A port `p`, or 0. -/
def State.pairFault (s : State) (p : Nat) : Nat :=
  let q := s.ap Fld.lnkPortCfg_PAIR p
  if s.ap Fld.lnkPortCfg_MODE p ≠ 2 ∨ s.ap Fld.lnkPortCfg_MODE q ≠ 3 ∨ s.ap Fld.lnkPortCfg_PAIR q ≠ p then 1
  else if p = q ∨ s.portInactive p ∨ s.portInactive q then 2
  else if s.portMode p ≠ s.portMode q then 3
  else if (s.portPartners p).any (fun c => (s.portPartners q).contains c) then 0 else 4

/-- A pair forms, dissolves or stays for plan A port `p`; a pair whose PAIR names another port now is dissolved, and the new one
formed (R251).  At a commit, and when a pair dissolves, a failing item is raised. -/
def State.pairEval (s : State) (commit : Bool) (p : Nat) : State :=
  let f := s.pairFault p
  let q := s.ap Fld.lnkPortCfg_PAIR p
  let formed := (Tab.find s.lnk.pairs p).isSome
  if f = 0 then (if formed && (s.lnkPair p).q == q then s else s.setPair p { q := q })
  else
    let s1 : State := { s with lnk := { s.lnk with pairs := Tab.erase s.lnk.pairs p } }
    s1.raiseIf (formed || (commit && decide (s.ap Fld.lnkPortCfg_MODE p = 2))) Ev.lnkPairBad p f

/-- At a commit, a plan B port whose PAIR is no plan A port that names it fails item 1 (R243). -/
def State.planBEval (s : State) (p : Nat) : State :=
  let a := s.ap Fld.lnkPortCfg_PAIR p
  s.raiseIf (decide (s.ap Fld.lnkPortCfg_MODE p = 3) && !(decide (s.ap Fld.lnkPortCfg_MODE a = 2) && s.ap Fld.lnkPortCfg_PAIR a == p)) Ev.lnkPairBad p 1

/-- Every pair that exists or is asked for is looked at. -/
def State.pairsEval (s : State) (commit : Bool) : State :=
  let s1 := ((List.range 96).filter (fun p => s.ap Fld.lnkPortCfg_MODE p == 2 || (Tab.find s.lnk.pairs p).isSome)).foldl
    (fun s p => s.pairEval commit p) s
  if commit then (List.range 96).foldl (fun s p => s.planBEval p) s1 else s1

/-- ā is frozen: HOLD sets, or ends at once with HOLD_S = 0 (R247). -/
def State.pairHold (s : State) (a : Nat) : State :=
  let x := s.lnkPair a
  if !x.ok then s
  else
    let s0 := s.calLose (fun t i => t == 3 && i == a)
    let s1 := (s0.setPair a { x with ok := false, hold := true, holdS := 0 }).raise Ev.lnkAsymHold 0
    if s.ap Fld.lnkCfg_HOLD_S = 0 then (s1.setPair a { s1.lnkPair a with hold := false }).raise Ev.lnkAsymHold 1 else s1

/-- The hold ends: single-plan values from here on (R247). -/
def State.pairHoldEnd (s : State) (a : Nat) : State :=
  if (s.lnkPair a).hold then (s.setPair a { s.lnkPair a with hold := false }).raise Ev.lnkAsymHold 1 else s

/-- A second passes: pairs in hold count it (Table LNK-9, SEL 0x100). -/
def State.lnkSec (s : State) : State :=
  { s with lnk := { s.lnk with pairs := s.lnk.pairs.map (fun (e : Nat × LnkPair) =>
      (e.1, if e.2.hold then { e.2 with holdS := e.2.holdS + 1 } else e.2)) } }

/-- The single-plan value of R242 in 2^-16 ns, rounded to nearest (log entry 12). -/
def State.singlePlan (s : State) (p : Nat) (r : Int) : Int :=
  let α := s.apI Fld.lnkAsymCoef_VAL p
  roundDiv ((r - psToFrac (s.ap Fld.lnkFixRt_VAL p)) * α) (2 * 10 ^ 10 + α).toNat + psToFrac (s.apI Fld.lnkFixAsym_VAL p)

/-- The pair's solved value as it applies to a port, while the pair uses the solve. -/
def State.solved (s : State) (p : Nat) : Option Int :=
  match s.pairOf p with
  | none => none
  | some a =>
    let x := s.lnkPair a
    if x.ok || x.hold then x.abar.map (fun v => if p = a then v else -v) else none

/-- The single-plan value is in use on the port (Table LNK-8, SP_USED): under MODE 1, and under MODE 2 or 3 without a solved value. -/
def State.spUsed (s : State) (p : Nat) : Bool :=
  decide (s.ap Fld.lnkPortCfg_MODE p = 1) || (decide (2 ≤ s.ap Fld.lnkPortCfg_MODE p) && (s.solved p).isNone)

/-- asym(p, r) of R239. -/
def State.asym (s : State) (p : Nat) (r : Int) : Int :=
  if s.ap Fld.lnkPortCfg_MODE p = 0 then 0
  else if s.ap Fld.lnkPortCfg_MODE p = 1 then s.singlePlan p r
  else (s.solved p).getD (s.singlePlan p r)

/-! ## States (R249) -/

/-- The code of a LNK state. -/
def LnkSt.code : LnkSt → Nat
  | .off => 0 | .wait => 1 | .tracking => 2 | .active => 3

/-- The port may refine (Table LNK-1): 1000BASE-X never, 100GBASE-R with CAL_VALID. -/
def State.lnkModeOk (s : State) (p : Nat) : Bool :=
  s.portMode p != 1 && (s.portMode p != 4 || s.calValid 1 p)

/-- LNK is OFF on the port: EN = 0, MODE 0 of the quad, an inactive port, or an unsupported mode. -/
def State.lnkOff (s : State) (p : Nat) : Bool :=
  !(s.apB Fld.lnkPortCfg_EN p) || s.portMode p == 0 || s.portInactive p || !(s.lnkModeOk p) || s.halted (.lnk p) ||
    s.halted (.block .lnk)

/-- The cause shown in OFF: 5 for a mode that is not supported. -/
def State.lnkOffCause (s : State) (p : Nat) : Nat :=
  if s.apB Fld.lnkPortCfg_EN p && s.portMode p != 0 && !(s.portInactive p) then 5 else 0

/-- A condition of WAIT that is unmet, in the order of the causes, or 0. -/
def State.lnkWaitCause (s : State) (p : Nat) : Nat :=
  let x := s.lnkPort p
  if x.phi.isNone then 1 else if (s.liveChans p).isEmpty then 2 else if !x.tlv then 3 else if x.calm < 16 then 4 else 0

/-- A LNK unit in a new state: LNK_STATE is raised; leaving ACTIVE ends the refined contribution and holds the pair; a new
TRACKING counts its exchanges from zero. -/
def State.lnkGo (s : State) (p : Nat) (st : LnkSt) (cause : Nat) : State :=
  let x := s.lnkPort p
  let y : LnkPort := if x.st = st then { x with cause := cause }
    else { x with st := st, cause := cause, rs := [], masterRun := 0, snapBad := if st = .tracking then 0 else x.snapBad
                  base := if st = .active then x.base else none }
  let s1 := (s.setLnk p y).raiseIf (decide (x.st ≠ st)) Ev.lnkState p st.code
  if x.st = .active ∧ st ≠ .active then (match s1.pairOf p with
    | some a => s1.pairHold a
    | none => s1) else s1

/-- The state of a LNK unit follows its conditions (Table LNK-3). -/
def State.lnkEval (s : State) (p : Nat) : State :=
  let x := s.lnkPort p
  if s.lnkOff p then
    (if x.st = .off then s.setLnk p { x with cause := s.lnkOffCause p }
     else (s.setLnk p { x with phi := none, fresh := true, calm := 0, tlv := false }).lnkGo p .off (s.lnkOffCause p))
  else
    let c := s.lnkWaitCause p
    if c ≠ 0 then s.lnkGo p .wait c
    else if x.st = .off ∨ x.st = .wait then s.lnkGo p .tracking 0
    else s

/-- Every LNK unit of the part is looked at (a commit, an image of CAL). -/
def State.lnkEvalAll (s : State) : State := (List.range 96).foldl (fun s p => s.lnkEval p) s

/-- What was recorded against Φ of a port goes with its unwrapping (R241, R245). -/
def State.phiForget (s : State) (p : Nat) : State :=
  { s with
    lnk := { s.lnk with pairs := s.lnk.pairs.map (fun e =>
      (e.1, if e.1 = p then { e.2 with thA := none } else if e.2.q = p then { e.2 with thB := none } else e.2)) }
    tchans := (s.chansOn p).foldl (fun l i =>
      let c : TChan := Tab.get {} l i
      let un := fun (y : SyncRx) => { y with phi := none }
      Tab.set l i { c with sync := c.sync.map un, syncPend := c.syncPend.map un }) s.tchans }

/-- Φ of a port becomes invalid (R235); an ACTIVE port keeps what R250 compares. -/
def State.lnkPhiLost (s : State) (p : Nat) : State :=
  let x := s.lnkPort p
  if x.phi.isNone then s
  else
    let y : LnkPort := { x with
      phi := none, fresh := true, calm := 0
      loss := if x.st = .active then some { at' := s.clk.now, r := x.r, partner := x.partner, mode := s.portMode p } else x.loss }
    ((s.setLnk p y).phiForget p).lnkEval p

/-- Φ of a port becomes valid when the lane's phase output is valid, PLL-T is not in bypass, no ramp moves the line clock and
LNK is on (R235, Table PLL-3); after more than 10 s the quick return of R250 is off.  Which LTX edges are aligned to a block
boundary is open where both cannot be (log entry 114). -/
def State.lnkPhiValid (s : State) (p : Nat) : State :=
  let x := s.lnkPort p
  if s.lnkOff p || !((s.lane p).phase) || decide ((s.pllOf 0).st = .bypass) || s.rampOn p || x.phi.isSome then s
  else
    let y : LnkPort := { x with
      phi := some 0, fresh := true, calm := 0, blk := Config.freeBit s.free
      loss := x.loss.filter (fun l => decide (s.clk.now ≤ l.at' + 10 ^ 13)) }
    (({ s with free := s.free + 1 } : State).setLnk p y).lnkEval p

/-- PLL-T enters bypass: Φ is invalid on every port at once (R251). -/
def State.lnkBypass (s : State) : State := (List.range 96).foldl (fun s p => s.lnkPhiLost p) s

/-- PLL-T leaves bypass. -/
def State.lnkBypassEnd (s : State) : State := (List.range 96).foldl (fun s p => s.lnkPhiValid p) s

/-- A latch differs from its refined instant by more than the snap tolerance (R237): counted; three in a row raise
LNK_SNAP_FAULT and end ACTIVE. -/
def State.lnkSnapBad (s : State) (p : Nat) : State :=
  let x := s.lnkPort p
  let s1 := (s.bump Fld.lnkSnapErr_VAL p).setLnk p { x with snapBad := x.snapBad + 1, masterRun := 0, rs := [] }
  if x.snapBad + 1 = 3 then
    let s2 := s1.raise Ev.lnkSnapFault p
    if x.st = .active then s2.lnkGo p .tracking 0 else s2
  else s1

/-! ## Refinement (R236) and the peaking code (R103) -/

/-- The block grid G of a port's mode in ps (Table LNK-1). -/
def State.lnkGrid (s : State) (p : Nat) : Option Nat :=
  match s.portMode p with
  | 2 => some 6400
  | 3 => some 2560
  | 4 => some 640
  | _ => none

/-- The instant of the form E + Φ + n × G (receive) or E + n × G (transmit) nearest to `t`, and G, in units; E is an LTX edge that
is aligned to a block boundary. -/
def State.refined (s : State) (p : Nat) (rx : Bool) (t : Int) : Option (Int × Nat) :=
  let x := s.lnkPort p
  if x.st = .tracking ∨ x.st = .active then
    (s.lnkGrid p).map (fun ps =>
      let g := ps * unitsPerPs
      let e := s.ltxPhase (p / 8) + (if x.blk then ((ltxSpan / 2 : Nat) : Int) else 0) + (if rx then x.phi.getD 0 * ((unitsPerPs / 2 : Nat) : Int) else 0)
      (e + roundDiv (t - e) g * (g : Int), g))
  else none

/-- The delay of a lane at peaking code `c`, in 2^-16 ns, from the lane's CAL set in force (R103). -/
def State.codeDelay (s : State) (n c : Nat) : Int := (s.calForce 0 n).codes.getD c 0

/-- 2^-16 ns as units of Φ, 0.5 ps. -/
def fracToPhi (x : Int) : Int := roundDiv (x * 2000) 65536

/-- Φ of a port moves by `d` with everything that was recorded against it: no offset, and no slip, comes of it (R251). -/
def State.phiMove (s : State) (p : Nat) (d : Int) : State :=
  let x := s.lnkPort p
  let s1 := s.setLnk p { x with phi := x.phi.map (fun f => f + d), base := x.base.map (fun b => (b.1, b.2 + d)) }
  let th : Option (Int × Int × Nat) → Option (Int × Int × Nat) := fun t => t.map (fun v => (v.1, v.2.1 + d, v.2.2))
  { s1 with
    lnk := { s1.lnk with pairs := s1.lnk.pairs.map (fun e =>
      (e.1, if e.1 = p then { e.2 with thA := th e.2.thA } else if e.2.q = p then { e.2 with thB := th e.2.thB } else e.2)) }
    tchans := (s.chansOn p).foldl (fun l i =>
      let c : TChan := Tab.get {} l i
      let mv := fun (y : SyncRx) => { y with phi := y.phi.map (fun f => f + d) }
      Tab.set l i { c with sync := c.sync.map mv, syncPend := c.syncPend.map mv }) s1.tchans }

end Sys2Proof.Machine
end

