-- ==== Sys2Proof/Machine/FabOps.lean ====
section
/-! DEFINITION. Frames, copies and ports as the fabric keeps them (chapters 6 and 8): queues, the timestamp records of TS_REQ
(R67), and the leaving of a frame with its retired entry versions (R190). -/

set_option Elab.async false

namespace Sys2Proof.Machine

/-- A port's transmit side replaced. -/
def State.setPort (s : State) (p : Nat) (x : PortSt) : State := { s with fab := { s.fab with ports := Tab.set s.fab.ports p x } }

/-- A frame in the part. -/
def State.frame? (s : State) (f : Nat) : Option Frame := Tab.find s.fab.frames f

/-- A copy. -/
def State.copy? (s : State) (c : Nat) : Option Copy := Tab.find s.fab.copies c

/-- A frame replaced. -/
def State.setFrame (s : State) (f : Nat) (x : Frame) : State := { s with fab := { s.fab with frames := Tab.set s.fab.frames f x } }

/-- A copy replaced. -/
def State.setCopy (s : State) (c : Nat) (x : Copy) : State := { s with fab := { s.fab with copies := Tab.set s.fab.copies c x } }

/-- A new copy; answers its number in `nextCopy - 1`. -/
def State.addCopy (s : State) (x : Copy) : State :=
  { s with fab := { s.fab with copies := Tab.set s.fab.copies s.fab.nextCopy x, nextCopy := s.fab.nextCopy + 1 } }

/-- The copies of a frame, oldest first. -/
def State.copiesOf (s : State) (f : Nat) : List Nat :=
  (s.fab.copies.filter (fun e => e.2.frame == f)).foldl (fun l e => insertAsc e.1 l) []

/-- A queue of a port: TC0 to TC7, or 8 for SQ. -/
def PortSt.queue (x : PortSt) (q : Nat) : List Nat := Tab.get [] x.queues q

/-- A queue of a port. -/
def State.queue (s : State) (p q : Nat) : List Nat := (s.port p).queue q

/-- A queue replaced. -/
def State.setQueue (s : State) (p q : Nat) (l : List Nat) : State :=
  s.setPort p { s.port p with queues := Tab.set (s.port p).queues q l }

/-- A copy leaves its queue; a queue that empties loses its DRR credit (R129). -/
def State.unqueue (s : State) (c : Nat) : State :=
  match s.copy? c with
  | none => s
  | some x =>
    let l := (s.queue x.port x.q).filter (fun y => y != c)
    let s1 := s.setQueue x.port x.q l
    let p := s1.port x.port
    s1.setPort x.port { p with
      credit := if l = [] then Tab.erase p.credit x.q else p.credit
      tx := if p.tx = some c then none else p.tx, frag := if p.frag = some c then none else p.frag }

/-- The timestamp record of a TS_REQ frame, in the slot reserved for it (R67). -/
def State.tsRecord (s : State) (q : TsReq) (ts : Ts48) (outcome port : Nat) : State :=
  s.slotUse q.ring q.cpl (.txTs q.ring .ok q.cookie ts outcome port)

/-- The record of a copy that leaves without being sent. -/
def State.tsLost (s : State) (x : Copy) (outcome : Nat) : State := x.tsReq.elim s (fun q => s.tsRecord q {} outcome x.port)

/-! ## Entry versions (R190 to R192) -/

/-- A frame has left: every retired copy that only it used leaves the version store; the store is full no more. -/
def FdbState.leave (d : FdbState) (f : Nat) : FdbState :=
  let l := (d.retired.map (fun e => (e.1, e.2.1, e.2.2.filter (fun x => x != f)))).filter (fun e => decide (e.2.2 ≠ []))
  { d with
    retired := l, verRaised := d.verRaised && decide (4096 ≤ l.length)
    oldCb := d.oldCb.filter (fun e => l.any (fun r => r.1 == .cb e.1.1 && r.2.1 == e.1.2)) }

/-- The version store is full (R192). -/
def FdbState.verFull (d : FdbState) : Bool := decide (4096 ≤ d.retired.length)

/-- The VERSION of an entry. -/
def FdbState.version (d : FdbState) (k : EntryKey) : Nat := Tab.get 0 d.versions k

/-- The frames that have read an entry at the version that it has now (R190, R191). -/
def State.usersOf (s : State) (k : EntryKey) : List Nat :=
  (s.fab.frames.filter (fun e => e.2.uses.contains (k, s.fdb.version k))).map (fun e => e.1)

/-- What the version store keeps of an 802.1CB function beside its key. -/
def FdbState.keepCb (d : FdbState) (k : EntryKey) : Tab (Nat × Nat) CbFn :=
  match k with
  | .cb f => (Tab.find d.cb f).elim d.oldCb (fun x => Tab.set d.oldCb (f, d.version k) x)
  | _ => d.oldCb

/-- The version store has filled: FDB_VER_FULL, once per episode (R192). -/
def State.verFullSeen (s : State) : State :=
  if s.fdb.verFull && !s.fdb.verRaised then
    let t := s.raise Ev.fdbVerFull
    { t with fdb := { s.fdb with verRaised := true } }
  else s

/-- An entry changes: its version advances, and the copy it replaces is kept for the frames that used it (R190). -/
def State.bumpVersion (s : State) (k : EntryKey) : State :=
  let users := s.usersOf k
  let v := s.fdb.version k
  ({ s with fdb := { s.fdb with
      versions := Tab.set s.fdb.versions k ((v + 1) % 65536)
      retired := if users = [] then s.fdb.retired else (k, v, users) :: s.fdb.retired
      oldCb := if users = [] then s.fdb.oldCb else s.fdb.keepCb k } } : State).verFullSeen

/-! ## Tag records (R360) -/

/-- A tagged frame reaches stage `k`, 1 to 4. -/
def State.tagStage (s : State) (f k : Nat) : State :=
  match Tab.find s.eng.tagged f with
  | none => s
  | some l => if (l.getD k none).isSome then s
    else { s with eng := { s.eng with tagged := Tab.set s.eng.tagged f (l.set k (some s.clk.now)) } }

/-- A tag record joins the buffer of 4,096; when it is full the oldest is overwritten, or the new one discarded. -/
def State.tagPush (s : State) (r : TagRec) : State :=
  if s.eng.tags.length < 4096 then { s with eng := { s.eng with tags := s.eng.tags ++ [r] } }
  else
    let t := s.bump Fld.perfTagDrop_VAL
    if s.apB Fld.perfTagCfg_STOP_FULL then t else { t with eng := { t.eng with tags := t.eng.tags.drop 1 ++ [r] } }

/-- A copy of a tagged frame ends: its record, with stages 6 and 7 when its SFD has crossed the egress MDI. No command shows the
first block in the transmit PCS: its time is a free value (log entry 18). -/
def State.tagCopy (s : State) (x : Copy) (sent : Bool) : State :=
  match Tab.find s.eng.tagged x.frame, s.frame? x.frame with
  | some l, some f =>
    let t0 := (l.getD 0 none).getD 0
    let off := fun (t : Nat) => min 0xFFFFFFFF ((t - t0) / 100)
    let st := (((l.drop 1).take 4).map (fun o => o.map off)) ++ [x.selAt.map off] ++
      (if sent then [some (Config.freeTime s.free).toNat, some (off s.clk.now)] else [none, none])
    ({ s with free := s.free + 1 } : State).tagPush
      { ingress := f.port, egress := x.port, q := x.q, len := x.len, ns := f.ts.ns, stages := st }
  | _, _ => s

/-- A frame with no copies left has left the part, once its lookup has been made or it was discarded. -/
def State.frameGone (s : State) (f : Nat) : State :=
  match s.frame? f with
  | none => s
  | some x =>
    if (s.copiesOf f).isEmpty && (x.drop || (x.decided && x.eligible)) then
      { s with fab := { s.fab with frames := Tab.erase s.fab.frames f }, fdb := s.fdb.leave f,
               eng := { s.eng with tagged := Tab.erase s.eng.tagged f } }
    else s

/-! ## Ports -/

/-- The lanes of a port (R96, R98). -/
def State.portLanes (s : State) (p : Nat) : List Nat :=
  if s.quadMode (p / 4) = 4 then (List.range 4).map (fun k => 4 * (p / 4) + k) else [p]

/-- The time in ps of 1,024 idle control blocks, or /I2/ ordered sets, in a port mode (R113). -/
def idleRunPs (mode : Nat) : Nat := if mode = 1 then 16384000 else if mode = 2 then 6553600 else 2621440

/-- The transmitter of a port starts no frame: a lane is squelched, by the part or by TX_SQUELCH (Table LANE-11), or has not sent the
idle of R113 since it left squelch, or a timestamp-unit job holds it (R328). -/
def State.txQuiet (s : State) (p : Nat) : Bool :=
  decide (p < 96) && (s.calJobOn 1 p || (s.portLanes p).any (fun n =>
    (s.lane n).txSq || s.apB Fld.laneCtrl_TX_SQUELCH n ||
      (s.lane n).unsqAt.any (fun t => decide (s.clk.now < t + idleRunPs (s.quadMode (n / 4))))))

/-- The egress port is down: no LOCK or not joined; its lane group is not in service; port 96 while SYS_READY.HIF is 0 (R146,
R151). -/
def State.portDown (s : State) (p : Nat) : Bool :=
  if p = 96 then !(s.isReady Rdy.hif)
  else !((s.port p).up) || decide ((s.grp (p / 8)).st = .draining) || decide ((s.grp (p / 8)).st = .removed) || s.halted (.port p) ||
    s.halted (.block .sw) || s.halted (.block .bpm) || s.halted (.block .fdb)

/-- Intake has stopped on a user port: its lane group drains (R116), or the part enters REST or OFF (R394). -/
def State.intakeStopped (s : State) (p : Nat) : Bool :=
  decide ((s.grp (p / 8)).st = .draining) ||
    (match s.pwr.seq with
     | .entry k => decide (2 ≤ k) && decide (k ≤ 4) && decide (2 ≤ s.pwr.target)
     | _ => false)

/-- RES_MAX_MS as it acts (Table SW-6). -/
def State.resMaxMs (s : State) : Nat := clampNat 10 2000 (s.ap Fld.swResCfg_RES_MAX_MS)

/-- MTU of an egress port: fixed for port 96 (R151). -/
def State.mtu (s : State) (p : Nat) : Nat := if p = 96 then 10240 else s.ap Fld.portCfg_MTU p

/-- FC_MODE; 3 acts as 2. -/
def State.fcMode (s : State) (p : Nat) : Nat := min 2 (s.ap Fld.portCfg_FC_MODE p)

/-- PORT_HOLD.MS as it acts. -/
def State.holdMs (s : State) (p : Nat) : Nat := min 500 (s.ap Fld.portHold_MS p)

end Sys2Proof.Machine
end

