-- ==== Sys2Proof/Machine/Bpm.lean ====
section
/-! DEFINITION. The buffer pool manager (chapter 7): pools and free stores, requests and the race for the last buffer,
back-pressure, frees, the auditor and re-carving. -/

set_option Elab.async false

namespace Sys2Proof.Machine

/-! ## Pools -/

/-- Bytes of a buffer of pool `p` (Table BPM-1). -/
def bufSize (p : Nat) : Nat := [128, 256, 1024, 2048, 10240].getD p 0

/-- 128-byte units of a buffer. -/
def bufUnits (p : Nat) : Nat := bufSize p / 128

/-- Words of a buffer. -/
def bufWords (p : Nat) : Nat := bufSize p / 64

/-- A pool. -/
def State.pool (s : State) (p : Nat) : Pool := s.bpm.pools.getD p { base := 0, count := 0 }

/-- A pool replaced. -/
def State.setPool (s : State) (p : Nat) (x : Pool) : State := { s with bpm := { s.bpm with pools := s.bpm.pools.set p x } }

/-- A requester. -/
def State.req (s : State) (r : Nat) : ReqSt := Tab.get {} s.bpm.reqs r

/-- A requester replaced. -/
def State.setReq (s : State) (r : Nat) (x : ReqSt) : State := { s with bpm := { s.bpm with reqs := Tab.set s.bpm.reqs r x } }

/-- Pool and index of a buffer index (R155). -/
def bufPool (b : Nat) : Nat := b / 2 ^ 19
def bufIn (b : Nat) : Nat := b % 2 ^ 19
def bufIndex (p i : Nat) : Nat := p * 2 ^ 19 + i

/-- An allocated buffer. -/
def State.buf? (s : State) (b : Nat) : Option Buf := Tab.find s.bpm.bufs b

/-- Indexes of pool `p` from here on retire in the carve in progress (R174). -/
def State.keepLimit (s : State) (p : Nat) : Nat :=
  let x := s.pool p
  match s.bpm.carve with
  | none => x.count
  | some c =>
    let n := c.pools.getD p (0, 0)
    if n.1 = x.base then min x.count n.2 else 0

/-- Allocated buffers of a pool that do not retire. -/
def State.heldIn (s : State) (p : Nat) : Nat :=
  (s.bpm.bufs.filter (fun e => bufPool e.1 == p && decide (bufIn e.1 < s.keepLimit p))).length

/-- Free buffers in the store of a pool. -/
def State.freeIn (s : State) (p : Nat) : Nat := s.keepLimit p - s.heldIn p

/-- Headroom part of an ingress port, P3 buffers (R157). -/
def State.hrPart (s : State) (r : Nat) : Nat :=
  if r < s.variant.ports then (s.ap Fld.bpmHeadroom_UNITS r * 128 + 2047) / 2048 else 0

/-- BPM_HR_TOTAL. -/
def State.hrTotal (s : State) : Nat := ((List.range s.variant.ports).map (fun r => s.hrPart r)).sum

/-- Headroom buffers in use. -/
def State.hrInUse (s : State) : Nat := (s.bpm.reqs.map (fun e => e.2.hrUsed)).sum

/-- Reserved buffers of a pool that their flows do not use. -/
def State.rsvIdle (s : State) (p : Nat) : Nat :=
  ((s.sw.flows.filter (fun e => e.2.pool == p)).map (fun e => e.2.nf - e.2.rsvUsed)).sum

/-- Free shared buffers of a pool (R157); none while its store is rebuilt (R172). -/
def State.sharedFree (s : State) (p : Nat) : Nat :=
  if (s.pool p).rebuild then 0
  else s.freeIn p - (s.rsvIdle p + (if p = 3 then s.hrTotal - s.hrInUse else 0))

/-- F in bytes (R157). -/
def State.freeBytes (s : State) : Nat := ((List.range 5).map (fun p => s.sharedFree p * bufSize p)).sum

/-- A pool keeps a bitmap (R154). -/
def Pool.bitmap (x : Pool) : Bool := decide (16384 < x.count)

/-- The first free index from `i` on. -/
def State.firstFree (s : State) (p : Nat) (skip : List Nat) : Nat → Nat → Option Nat
  | _, 0 => none
  | i, n + 1 => if (s.buf? (bufIndex p i)).isNone && !(skip.contains i) then some i else s.firstFree p skip (i + 1) n

/-- The index that the store of a pool gives next: the lowest of a bitmap, the head of a list (R154). -/
def State.nextBuf (s : State) (p : Nat) : Option Nat :=
  let x := s.pool p
  let n := s.keepLimit p
  if x.rebuild then none
  else if x.bitmap then s.firstFree p [] 0 n
  else (s.firstFree p x.freed x.fresh (n - x.fresh)).orElse (fun _ => x.freed.head?)

/-- Takes a buffer of pool `p` for requester `r`: from the headroom part, from a flow's reservation, or shared and charged; the
charge, and the buffer's number. -/
def State.takeBuf (s : State) (p r : Nat) (hr : Bool) (flow : Option Nat) : Option (Nat × State) :=
  match s.nextBuf p with
  | none => none
  | some i =>
    let x := s.pool p
    let b := bufIndex p i
    let q := s.req r
    let s1 := if x.bitmap then s
      else if x.freed.head? = some i ∧ (s.firstFree p x.freed x.fresh (s.keepLimit p - x.fresh)).isNone
      then s.setPool p { x with freed := x.freed.tail }
      else s.setPool p { x with fresh := i + 1 }
    let s2 : State := match flow with
      | some k =>
        let fl : Flow := Tab.get {} s1.sw.flows k
        { s1 with sw := { s1.sw with flows := Tab.set s1.sw.flows k { fl with rsvUsed := fl.rsvUsed + 1 } } }
      | none => s1.setReq r (if hr then { q with hrUsed := q.hrUsed + 1 } else { q with used := q.used + bufUnits p })
    some (b, { s2 with bpm := { s2.bpm with
      bufs := Tab.set s2.bpm.bufs b { owner := r, hr := hr, flow := flow }
      allocs := Tab.set s2.bpm.allocs b ((Tab.get 0 s2.bpm.allocs b + 1) % 16) } })

/-- Gives one buffer of pool `p` to a copy. -/
def State.giveBuf (s : State) (p r : Nat) (hr : Bool) (flow : Option Nat) (c : Nat) : State :=
  match s.takeBuf p r hr flow, s.copy? c with
  | some (b, t), some x => t.setCopy c { x with bufs := x.bufs ++ [b] }
  | _, _ => s

/-! ## Choosing a pool (R156) -/

/-- The hint length of a frame. -/
def FrameHdr.hintLen (h : FrameHdr) : Option Nat :=
  h.hint.map (fun x => (match x.1 with
    | .ipv4 n => n
    | .ipv6 n => n + 40
    | .ecpri n => n + 4
    | .len8023 n => n) + x.2 + 4)

/-- The smallest carved pool whose buffers hold `n` bytes. -/
def State.fitPool (s : State) (n : Nat) : Option Nat :=
  (List.range 5).find? (fun p => decide (0 < (s.pool p).count) && decide (n ≤ bufSize p))

/-- The pool of a frame's first buffer. -/
def State.firstPool (s : State) (h : FrameHdr) : Nat :=
  if s.apB Fld.bpmCfg_HINT_EN then (h.hintLen.bind (fun n => s.fitPool n)).getD 3 else 3

/-- The first buffer was chosen by a hint. -/
def State.hinted (s : State) (h : FrameHdr) : Bool :=
  s.apB Fld.bpmCfg_HINT_EN && (h.hintLen.bind (fun n => s.fitPool n)).isSome

/-- The next larger pool with a non-zero count. -/
def State.nextPool (s : State) (p : Nat) : Option Nat :=
  (List.range 5).find? (fun q => decide (p < q) && decide (0 < (s.pool q).count))

/-! ## Causes and flow control (R163 to R165) -/

/-- LIMIT of a requester. -/
def State.quotaLimit (s : State) (r : Nat) : Nat := s.ap Fld.bpmQuota_LIMIT r

/-- Bytes of buffers held by the frames of a queue. -/
def State.queueBytes (s : State) (e t : Nat) : Nat :=
  ((s.queue e t).map (fun c => match s.copy? c with
    | some x => (x.bufs.map (fun b => bufSize (bufPool b))).sum
    | none => 0)).sum

/-- The code A*t* of BPM_ALPHA. -/
def State.alphaCode (s : State) (t : Nat) : Nat := bitsOf (s.applied ⟨.bpmAlpha, 0, 0⟩).toNat (3 * t) 3

/-- The ports with any state. -/
def State.activePorts (s : State) : List Nat :=
  ((s.fab.ports.map (fun e => e.1)) ++ (s.bpm.reqs.map (fun e => e.1)).filter (fun r => decide (r < 96)) ++
    (s.fab.frames.map (fun e => e.2.port))).foldl (fun l p => insertAsc p l) []

/-- An ingress port has a frame in a queue. -/
def State.inQueue (s : State) (p e t : Nat) : Bool :=
  (s.queue e t).any (fun c => match s.copy? c with
    | some x => x.mirror.isNone && ((s.frame? x.frame).elim false (fun f => f.port == p))
    | none => false)

/-- The ingress ports that assert cause QUEUE for a queue: none while it is empty or Q ≤ 3/4 T; else those with a frame in it that
asserted it before, or all of them when Q ≥ T (R164). -/
def State.queueHolders (s : State) (e t : Nat) : List Nat :=
  let q := s.queueBytes e t
  let f := s.freeBytes * 2 ^ s.alphaCode t
  if 64 * q ≤ 3 * f then []
  else (s.activePorts.filter (fun p => s.inQueue p e t)).filter
    (fun p => decide (f ≤ 16 * q) || (Tab.get [] (s.port e).holders t).contains p)

/-- XOFF of an ingress port per priority: the OR of its causes (R165); a draining lane group stops its ports (R116). -/
def State.xoffOf (s : State) (p : Nat) : Nat :=
  if (s.req p).quota ∨ (s.req p).empty ∨ (p < 96 ∧ s.intakeStopped p) then 0xFF
  else bitMap (fun t => s.fab.ports.any (fun e => (Tab.get [] e.2.holders t).contains p)) 8

/-- The flow-control frames that a change of XOFF asks for (R142, R165). -/
def fcFrames (mode old new : Nat) : List FcFrame :=
  if mode = 2 then
    let set := bitMap (fun t => bitAt new t && !(bitAt old t)) 8
    let clr := bitMap (fun t => bitAt old t && !(bitAt new t)) 8
    (if set = 0 then [] else [⟨set, true⟩]) ++ (if clr = 0 then [] else [⟨clr, false⟩])
  else if mode = 1 then
    (if old = 0 ∧ new ≠ 0 then [⟨0xFF, true⟩] else if old ≠ 0 ∧ new = 0 then [⟨0xFF, false⟩] else [])
  else []

/-- Cause QUEUE of every queue and XOFF of every ingress port are brought up to date. -/
def State.xoffUpdate (s : State) : State :=
  let s1 := (s.fab.ports.map (fun e => e.1)).foldl (fun s e => if e = 96 then s
    else s.setPort e { s.port e with
        holders := (List.range 8).foldl (fun h t => if s.queueHolders e t = [] then Tab.erase h t else Tab.set h t (s.queueHolders e t))
          (s.port e).holders }) s
  s1.activePorts.foldl (fun s p =>
    if 96 ≤ p then s
    else
      let x := s.port p
      let n := s.xoffOf p
      if n = x.xoff then s else s.setPort p { x with xoff := n, fc := x.fc ++ fcFrames (s.fcMode p) x.xoff n }) s1

/-- Causes EMPTY and QUOTA clear when their conditions hold (Table BPM-2); an episode without either has ended.  Those of the host
port end with the return of a buffer (R74). -/
def State.causesClear (s : State) : State :=
  ((s.bpm.reqs.map (fun e => e.1)).filter (fun r => decide (r ≠ 96))).foldl (fun s r =>
    let x := s.req r
    let e := x.empty && !(decide (x.hrUsed = 0) && decide (2 * s.ap Fld.bpmHeadroom_UNITS r * 128 ≤ s.freeBytes))
    let q := x.quota && !(decide (8 * x.used ≤ 7 * s.quotaLimit r))
    s.setReq r { x with empty := e, quota := q, exhausted := x.exhausted && (e || q) }) s

/-! ## Frees (R167 to R169) -/

/-- A buffer returns: the transmit rings take descriptors again (R74). -/
def State.hostResume (s : State) : State :=
  let h := s.req 96
  if h.quota || h.empty then s.setReq 96 { h with quota := false, empty := false } else s

/-- A buffer returns: to its store, to the retiring ones that are withheld (R175), or to the frees that wait for a rebuild. -/
def State.returnBuf (s : State) (b : Nat) (x : Buf) : State :=
  let p := bufPool b
  let i := bufIn b
  let q := s.req x.owner
  let s1 : State := match x.flow with
    | some k => { s with sw := { s.sw with flows := match Tab.find s.sw.flows k with
        | some fl => Tab.set s.sw.flows k { fl with rsvUsed := fl.rsvUsed - 1 }
        | none => s.sw.flows } }
    | none => s.setReq x.owner (if x.hr then { q with hrUsed := q.hrUsed - 1 } else { q with used := q.used - bufUnits p })
  let s2 : State := { s1 with bpm := { s1.bpm with bufs := Tab.erase s1.bpm.bufs b } }.hostResume
  match s2.bpm.carve with
  | some c =>
    if i < s2.keepLimit p then
      (if (s2.pool p).bitmap then s2 else s2.setPool p { s2.pool p with freed := (s2.pool p).freed ++ [i] })
    else { s2 with bpm := { s2.bpm with carve := some { c with withheld := c.withheld ++ [b] } } }
  | none => if (s2.pool p).bitmap then s2 else s2.setPool p { s2.pool p with freed := (s2.pool p).freed ++ [i] }

/-- A buffer leaves the copy that holds it. -/
def State.unlinkBuf (s : State) (b : Nat) : State :=
  { s with fab := { s.fab with copies := s.fab.copies.map (fun e => (e.1, { e.2 with bufs := e.2.bufs.filter (fun x => x != b) })) } }

/-- A free of buffer `b` by requester `r` that the arbiter checks; `true` when it is accepted or queued. -/
def State.freeBuf (s : State) (b r : Nat) : State × Bool :=
  match s.buf? b with
  | none => ((s.bump Fld.bpmDoubleFreeCnt_VAL).raise Ev.bpmDoubleFree b r, false)
  | some x =>
    if x.owner ≠ r then ((s.bump Fld.bpmForeignFreeCnt_VAL).raise Ev.bpmForeignFree b r x.owner, false)
    else if (s.pool (bufPool b)).rebuild then
      let t := s.setPool (bufPool b) { s.pool (bufPool b) with waiting := (s.pool (bufPool b)).waiting ++ [(bufIn b, r)] }
      ({ t with bpm := { t.bpm with bufs := Tab.set t.bpm.bufs b { x with ref := false } } }, true)
    else (s.returnBuf b x, true)

/-- A copy leaves the part: its queue, its buffers (freed by their owners), and the frame with its last copy. -/
def State.removeCopy (s : State) (c : Nat) : State :=
  match s.copy? c with
  | none => s
  | some x =>
    let s0 := if x.st = .sent ∨ x.mirror.isSome then s else s.tagCopy x false
    let s1 := x.bufs.foldl (fun s b => (s.freeBuf b ((s.buf? b).elim 0 (fun y => y.owner))).1) (s0.unqueue c)
    ({ s1 with fab := { s1.fab with copies := Tab.erase s1.fab.copies c } } : State).frameGone x.frame

/-- A frame is discarded whole. -/
def State.dropFrame (s : State) (f : Nat) : State :=
  match s.frame? f with
  | none => s
  | some x => ((s.copiesOf f).foldl (fun s c => s.removeCopy c) (s.setFrame f { x with drop := true })).frameGone f

/-! ## Requests (R159 to R163) -/

/-- The answer to a best-effort request of requester `r` for `n` buffers of pool `p`: OK with the pool that serves it, QUOTA, or
POOL_EMPTY. -/
def State.bpmAnswer (s : State) (r p n : Nat) : Status × Nat :=
  let covers := fun q => decide ((s.req r).used + n * bufUnits q ≤ s.quotaLimit r)
  if !(covers p) then (.quota, p)
  else if n ≤ s.sharedFree p then (.ok, p)
  else if !(s.apB Fld.bpmCfg_PROMOTE_EN) then (.poolEmpty, p)
  else match s.nextPool p with
    | some q => if covers q && decide (n ≤ s.sharedFree q) then (.ok, q) else (.poolEmpty, p)
    | none => (.poolEmpty, p)

/-- The counts of an answer: promotions and POOL_EMPTY (R159). -/
def State.countAnswer (s : State) (p : Nat) (a : Status × Nat) : State :=
  if a.1 = .poolEmpty then s.bump Fld.bpmPoolEmptyCnt_VAL
  else if a.1 = .ok ∧ a.2 ≠ p then s.bump Fld.bpmPromoteCnt_VAL
  else s

/-- The largest pool with a free shared buffer. -/
def State.largestFree (s : State) : Option Nat := (List.range 5).reverse.find? (fun p => decide (0 < s.sharedFree p))

/-- The cause of a refusal is asserted for a requester; an episode begins (R163). -/
def State.assertCause (s : State) (r : Nat) (st : Status) : State :=
  let x := s.req r
  s.setReq r (if st = .quota then { x with quota := true } else { x with empty := true })

/-- A copy takes a buffer under steps 2 or 3 of R163; what it needs beyond that buffer is taken so too. -/
def State.giveRefused (s : State) (p r : Nat) (hr : Bool) (c : Nat) : State :=
  let s1 := s.giveBuf p r hr none c
  match s1.copy? c with
  | some x => s1.setCopy c { x with refused := true }
  | none => s1

/-- One copy under steps 2 and 3 of R163: a headroom buffer while the port's part lasts and the store of P3 gives one, else a shared
buffer of the largest pool that has one; none when no pool has one. -/
def State.refusedBuf (s : State) (r c : Nat) : Option State :=
  if (s.req r).hrUsed < s.hrPart r ∧ (s.nextBuf 3).isSome then some (s.giveRefused 3 r true c)
  else s.largestFree.map (fun p => s.giveRefused p r false c)

/-- The copies `cs` of a frame, all of them or none (R161). -/
def State.refusedGive (s : State) (r : Nat) : List Nat → Option State
  | [] => some s
  | c :: cs => (s.refusedBuf r c).bind (fun t => t.refusedGive r cs)

/-- Step 4 of R163: the copies are discarded and counted; the first discard of an episode raises BPM_HR_EXHAUSTED. -/
def State.refusedDrop (s1 : State) (r : Nat) (cs : List Nat) : State :=
  let n := cs.length
  let x := s1.req r
  let s2 := (if s1.fcMode r = 0 then s1.bump Fld.portIngOvf_VAL r n else s1.bump Fld.bpmHrOvf_VAL 0 n).raiseIf
    (!x.exhausted) Ev.bpmHrExhausted r
  let s3 := s2.setReq r { s2.req r with exhausted := true, hrDisc := satAdd 32 x.hrDisc n }
  cs.foldl (fun s c => s.removeCopy c) s3

/-- Steps 2 to 4 of R163 for the copies `cs` of a frame of ingress port `r`: headroom, overdraft, or discard of them all (R161). -/
def State.refusedBufs (s : State) (r : Nat) (cs : List Nat) : State := (s.refusedGive r cs).getD (s.refusedDrop r cs)

/-- A refusal: step 1 of R163 asserts the cause, and the copies follow steps 2 to 4. -/
def State.ingressRefused (s : State) (r : Nat) (cs : List Nat) (st : Status) : State := (s.assertCause r st).refusedBufs r cs

/-- Bytes that a copy must hold: its frame as received, cut by a mirror session. -/
def State.copyBytes (s : State) (x : Copy) : Nat :=
  match s.frame? x.frame with
  | none => 0
  | some f => if x.mirror.isSome then min f.h.len x.len else f.h.len

/-- Bytes that the buffers of a copy hold. -/
def Copy.capacity (x : Copy) : Nat := (x.bufs.map (fun b => bufSize (bufPool b))).sum

/-- A request of an ingress or host requester for one buffer of each copy, from pool `p` (R161); `hint` marks first buffers chosen by
a hint (R156). -/
def State.requestFor (s : State) (r p : Nat) (hint : Bool) (cs : List Nat) : State :=
  let a := s.bpmAnswer r p cs.length
  let s1 := s.countAnswer p a
  if a.1 = .ok then cs.foldl (fun s c =>
      let t := s.giveBuf a.2 r false none c
      match t.copy? c with
      | some x => t.setCopy c { x with hinted := hint }
      | none => t) s1
  else if r < 96 then s1.ingressRefused r cs a.1
  else s1.assertCause r a.1

/-- The pool of a shared buffer for a conforming frame whose reservation is used up: `p`, else the next larger pool that has one,
else the largest below it (R158 names no pool; log entry 106). -/
def State.sharedFrom (s : State) (p : Nat) : Option Nat :=
  if 0 < s.sharedFree p then some p
  else ((List.range 5).find? (fun q => decide (p < q) && decide (0 < s.sharedFree q))).orElse
    (fun _ => (List.range 5).reverse.find? (fun q => decide (q < p) && decide (0 < s.sharedFree q)))

/-- The SQ copy of a flow draws on the flow's reservation, then on a shared buffer; without one it is discarded (R158).  A frame that
outgrows a buffer goes on in P3 (R156), and in its reservation when P3 has no shared buffer (log entry 106). -/
def State.flowBuf (s : State) (r k c : Nat) : State :=
  let fl : Flow := Tab.get {} s.sw.flows k
  let first := (s.copy? c).any (fun x => decide (x.bufs = []))
  let own := decide (fl.rsvUsed < fl.nf) && (s.nextBuf fl.pool).isSome
  if own && (first || decide (s.sharedFree 3 = 0)) then s.giveBuf fl.pool r false (some k) c
  else match s.sharedFrom (if first then fl.pool else 3) with
    | some q => s.giveBuf q r false none c
    | none => ((match s.copy? c with
        | some x => s.tsLost x 3
        | none => s).bump Fld.bpmRsvOver_VAL).removeCopy c

/-- A mirror copy's buffer, asked for by the session's requester; refused, the copy is not made (R162). -/
def State.mirrorBuf (s : State) (m c p : Nat) : State :=
  let r := 98 + m
  let a := s.bpmAnswer r p 1
  let s1 := s.countAnswer p a
  if a.1 = .ok then s1.giveBuf a.2 r false none c else (s1.bump Fld.bpmMirrorSkip_VAL).removeCopy c

/-- The further P3 buffers of a mirror copy of `n` bytes, at most `k`; the whole copy is counted (R156, R197). -/
def State.mirrorMore (s : State) (m c n : Nat) : Nat → State
  | 0 => s
  | k + 1 => match s.copy? c with
    | none => s
    | some x => if n ≤ x.capacity then s.bump Fld.fdbMirCopies_VAL m else (s.mirrorBuf m c 3).mirrorMore m c n k

/-- A mirror copy: all its buffers, or it is not made (R162, R197). -/
def State.mirrorBufs (s : State) (m c p n : Nat) : State := (s.mirrorBuf m c p).mirrorMore m c n 100

/-- A conforming frame of an admitted flow waits for a first buffer (R120). -/
def State.sqWaits (s : State) (f : Nat) : Bool :=
  (s.frame? f).any (fun x => x.conforms) && (s.copiesOf f).any (fun c => (s.copy? c).any (fun x => x.flow.isSome && decide (x.bufs = [])))

/-- The request arbiter serves conforming frames before all others, and among themselves in order of arrival (R120, R160): nothing
that goes before a request of frame `f` waits; `none` is a request of no frame. -/
def State.bpmTurn (s : State) (f : Option Nat) : Bool :=
  let w := (s.fab.frames.map (fun e => e.1)).filter (fun g => s.sqWaits g)
  match f.filter (fun g => (s.frame? g).any (fun x => x.conforms)) with
  | some g => w.all (fun h => decide (g ≤ h))
  | none => decide (w = [])

/-- The first buffers of the copies of a frame made at the input (R158, R161). -/
def State.firstBufs (s : State) (fr : Frame) (cs : List Nat) : State :=
  let sq := cs.filter (fun d => ((s.copy? d).bind (fun y => y.flow)).isSome)
  let be := cs.filter (fun d => ((s.copy? d).bind (fun y => y.flow)).isNone)
  let s1 := sq.foldl (fun s d => s.flowBuf fr.port (((s.copy? d).bind (fun y => y.flow)).getD 0) d) s
  if be = [] then s1 else s1.requestFor fr.port (s1.firstPool fr.h) (s1.hinted fr.h) be

/-- Copy `c` of frame `f` outgrows its buffer: a first buffer chosen by a hint is counted once for the frame (R156), and the copy goes
on by itself (R161). -/
def State.moreBuf (s : State) (f : Nat) (fr : Frame) (c : Nat) (x : Copy) : State :=
  let s1 := if x.hinted then (s.copiesOf f).foldl (fun s d => match s.copy? d with
      | some y => s.setCopy d { y with hinted := false }
      | none => s) (s.bump Fld.bpmHintMiss_VAL) else s
  match x.flow with
  | some k => s1.flowBuf fr.port k c
  | none => if x.refused then s1.refusedBufs fr.port [c] else s1.requestFor fr.port 3 false [c]

/-- A buffer request for a frame, in its turn (R120): the first buffers of all copies made at the input, or a continuation buffer of
copy `c`. -/
def State.bpmFrame (s : State) (f c : Nat) : State :=
  match s.frame? f, s.copy? c with
  | some fr, some x =>
    if x.frame ≠ f ∨ !(s.bpmTurn (some f)) then s
    else match x.mirror with
      | some m => if x.bufs = [] then s.mirrorBufs m c (s.firstPool fr.h) (s.copyBytes x) else s
      | none =>
        let firsts := (s.copiesOf f).filter (fun d => match s.copy? d with
          | some y => y.mirror.isNone && decide (y.bufs = []) && decide (y.st ≠ .sent)
          | none => false)
        if firsts ≠ [] then s.firstBufs fr firsts
        else if s.copyBytes x ≤ x.capacity then s
        else s.moreBuf f fr c x
  | _, _ => s

/-- A request of the engine cluster for a message of `len` bytes: P3 buffers; none when it is refused (R162). -/
def State.engRequest (s : State) (len : Nat) : State × Bool :=
  let n := max 1 ((len + 2047) / 2048)
  let a := s.bpmAnswer 97 3 n
  let s1 := s.countAnswer 3 a
  if a.1 = .ok then ((List.range n).foldl (fun s _ => match s.takeBuf a.2 97 false none with
    | some (_, t) => t
    | none => s) s1, true)
  else (s1, false)

/-- A refused message is held behind those held before (R162). -/
def State.bpmEngine (s : State) (len : Nat) : State :=
  let t := s.engRequest len
  if t.2 then t.1 else { t.1 with bpm := { t.1.bpm with engWait := t.1.bpm.engWait ++ [len] } }

/-- A buffer has been freed: the engine cluster repeats the requests of the messages it holds, in order (R162). -/
def State.engRetry (s : State) : State :=
  s.bpm.engWait.foldl (fun s n => s.bpmEngine n) { s with bpm := { s.bpm with engWait := [] } }

/-- BPM_ALLOC. -/
def State.bpmAlloc (s : State) (r : BpmReq) : State :=
  match r with
  | .frame f c => ((s.bpmFrame f c).tagStage f 2).xoffUpdate
  | .engine n => if s.bpmTurn none then (s.bpmEngine n).xoffUpdate else s

/-- A sent copy whose buffers have all been freed has left the part. -/
def State.sweepSent (s : State) : State :=
  ((s.fab.copies.filter (fun e => decide (e.2.st = .sent) && decide (e.2.bufs = []))).map (fun e => e.1)).foldl
    (fun s c => s.removeCopy c) s

/-- After frees: causes clear, held requests repeat, XOFF follows. -/
def State.afterFree (s : State) : State := (s.causesClear.engRetry).xoffUpdate

/-- BPM_FREE (R167). -/
def State.bpmFree (s : State) (b r : Nat) : State :=
  let x := s.freeBuf b r
  if x.2 then ((x.1.unlinkBuf b).sweepSent).afterFree else x.1

/-! ## Quota (Table BPM-8) -/

/-- A write of BPM_QUOTA: LIMIT below USED asserts QUOTA at once and frees nothing; the causes that the new LIMIT ends clear (Table
BPM-2). -/
def State.bpmQuotaWrite (s : State) (r : Nat) (v : Word) : State :=
  let s1 := s.storeReg ⟨.bpmQuota, r, 0⟩ v 0xFFFFFFFF
  (if s1.quotaLimit r < (s1.req r).used then s1.assertCause r .quota else s1.causesClear).xoffUpdate

/-! ## Auditor (R170 to R172) -/

/-- USED plus HR_USED of a requester, in 128-byte units. -/
def State.chargeOf (s : State) (r : Nat) : Nat := (s.req r).used + (s.req r).hrUsed * 16

/-- The allocated buffers that bear requester `r` as OWNER and are charged to it: all but those of a flow's reservation, which R158
charges to nobody (DEDUCED: log entry 107). -/
def State.charged (s : State) (r : Nat) : List (Nat × Buf) := s.bpm.bufs.filter (fun e => e.2.owner == r && e.2.flow.isNone)

/-- The audited USED, in units, and HR_USED, in buffers, of a requester. -/
def State.auditUsed (s : State) (r : Nat) : Nat := (((s.charged r).filter (fun e => !e.2.hr)).map (fun e => bufUnits (bufPool e.1))).sum
def State.auditHr (s : State) (r : Nat) : Nat := ((s.charged r).filter (fun e => e.2.hr)).length

/-- A disturbance comes about. -/
def State.upset (s : State) (u : BufUpset) : State :=
  match u with
  | .unlinked b => match s.buf? b with
    | some x => ({ s with bpm := { s.bpm with bufs := Tab.set s.bpm.bufs b { x with ref := false } } } : State).unlinkBuf b
    | none => s
  | .store p => s.setPool p { s.pool p with bad := true }
  | .charge r n => s.setReq r { s.req r with used := n }

/-- A visit finds buffer `b` allocated with REF 0: leaked when the visit before found the same, with the same allocation count
(R171). -/
def State.auditLeak (s : State) (b : Nat) (x : Buf) : State :=
  let n := Tab.get 0 s.bpm.allocs b
  if x.seen = some n then
    let s1 := (s.bump Fld.bpmLeakCnt_VAL).raise Ev.bpmLeak b x.owner
    let s2 : State := { s1 with bpm := { s1.bpm with leaks := s1.bpm.leaks + 1 } }
    if s2.apB Fld.bpmAuditCfg_RECLAIM then
      let s3 := s2.returnBuf b x
      { s3 with bpm := { s3.bpm with reclaimed := s3.bpm.reclaimed + 1 } }
    else s2
  else { s with bpm := { s.bpm with bufs := Tab.set s.bpm.bufs b { x with seen := some n } } }

/-- A free store that disagrees with the STATE bits: BPM_STORE_FAULT; a bitmap is corrected, a list is rebuilt (R172). -/
def State.storeFault (s : State) (p : Nat) : State :=
  let s1 := (s.setPool p { s.pool p with bad := false }).raise Ev.bpmStoreFault p
  let s2 : State := { s1 with bpm := { s1.bpm with faults := s1.bpm.faults + 1 } }
  if (s2.pool p).bitmap then s2 else s2.setPool p { s2.pool p with rebuild := true }

/-- The auditor visits a buffer: the store of its pool, and REF while it is allocated (R170, R171). -/
def State.auditBuf (s : State) (b : Nat) : State :=
  let s1 : State := { s with bpm := { s.bpm with visited := s.bpm.visited + 1 } }
  let s2 := if (s1.pool (bufPool b)).bad then s1.storeFault (bufPool b) else s1
  match s2.buf? b with
  | none => s2
  | some x =>
    if x.ref then { s2 with bpm := { s2.bpm with bufs := Tab.set s2.bpm.bufs b { x with seen := none } } } else s2.auditLeak b x

/-- The audited sum of a requester against its charge (R171). -/
def State.auditSum (s : State) (r : Nat) : State :=
  let sum := s.auditUsed r + s.auditHr r * 16
  if s.chargeOf r = sum then s
  else
    let s1 := s.raise Ev.bpmLeak 0xFFFFFFFF r (unsigned 32 ((sum : Int) - (s.chargeOf r : Int)))
    if s1.apB Fld.bpmAuditCfg_RECLAIM then s1.setReq r { s1.req r with used := s1.auditUsed r, hrUsed := s1.auditHr r } else s1

/-- A new pass begins. -/
def BpmState.newPass (b : BpmState) (now : Nat) : BpmState :=
  { b with pass := b.pass + 1, visited := 0, leaks := 0, reclaimed := 0, faults := 0, passStart := now }

/-- A pass ends: the requesters' sums are compared, its results are published, every waiting BPM_AUDIT_RUN completes, the next pass
begins (R170, R176). -/
def State.auditPassEnd (s : State) : State :=
  let s0 := (List.range 106).foldl (fun s r => s.auditSum r) s
  let b := s0.bpm
  let s1 : State := { s0 with bpm := { b.newPass s.clk.now with
    lastPass := [b.pass, b.visited, b.leaks, b.reclaimed, b.faults, (s.clk.now - b.passStart) / 1000000], auditRun := [] } }
  b.auditRun.foldl (fun s d => s.complete d 0xA402 .ok 0 (leBytes b.visited 4 ++ leBytes b.leaks 4 ++ leBytes b.faults 4)) s1

/-- AUDIT_VISIT (R170): what has been disturbed stands, whether the auditor runs or not; without EN and without a commanded run it
visits nothing. -/
def State.auditVisit (s : State) (a : AuditScan) : State :=
  let s0 := a.upsets.foldl (fun s u => s.upset u) s
  if !(s0.apB Fld.bpmAuditCfg_EN) && decide (s0.bpm.auditRun = []) then s0
  else
    let s1 := (a.bufs.foldl (fun s b => s.auditBuf b) s0).afterFree
    if a.passEnd then s1.auditPassEnd.afterFree else s1

/-- The frees queued for a pool's rebuild are made (R172). -/
def State.queuedFrees (s : State) (p : Nat) : State :=
  let x := s.pool p
  x.waiting.foldl (fun s w => (s.freeBuf (bufIndex p w.1) w.2).1) (s.setPool p { x with waiting := [] })

/-- The rebuild of a list ends: the store agrees with the STATE bits, in ascending order, and queued frees are made (R172). -/
def State.storeRebuildDone (s : State) (p : Nat) : State :=
  let x := s.pool p
  if !x.rebuild then s else ((s.setPool p { x with rebuild := false, fresh := 0, freed := [] }).queuedFrees p).afterFree

/-! ## Re-carving (R173 to R175) -/

/-- LIMIT_MS of a carve, from its buffer. -/
def CmdDesc.carveLimitMs (d : CmdDesc) : Nat := if d.buf 0 2 = 0 then 100 else min 10000 (d.buf 0 2)

/-- BASE_W and COUNT of the pools of a carve. -/
def CmdDesc.carvePools (d : CmdDesc) : List (Nat × Nat) := (List.range 5).map (fun n => (d.buf (8 + 8 * n) 4, d.buf (12 + 8 * n) 4))

/-- The end word of pool `n` of a carve. -/
def carveEnd (l : List (Nat × Nat)) (n : Nat) : Nat := (l.getD n (0, 0)).1 + (l.getD n (0, 0)).2 * bufWords n

/-- Regions overlap, or one ends beyond word 786,431. -/
def carveOverlap (l : List (Nat × Nat)) : Bool :=
  (List.range 5).any (fun a => decide (0 < (l.getD a (0, 0)).2) && (decide (786432 < carveEnd l a) ||
    (List.range 5).any (fun b => a != b && decide (0 < (l.getD b (0, 0)).2) &&
      decide ((l.getD a (0, 0)).1 < carveEnd l b) && decide ((l.getD b (0, 0)).1 < carveEnd l a))))

/-- RSV_PCT as it acts. -/
def State.rsvPct (s : State) : Nat := min 50 (s.ap Fld.bpmCfg_RSV_PCT)

/-- Retiring buffers that are allocated. -/
def State.retiring (s : State) : Nat :=
  (s.bpm.bufs.filter (fun e => decide (s.keepLimit (bufPool e.1) ≤ bufIn e.1))).length

/-- Pool `n` of a new carve, from what it was: a list is rebuilt from the STATE bits, a bitmap at once; frees that waited for a rebuild
still wait for one (R172, R175). -/
def Pool.carved (x : Pool) (c : Nat × Nat) : Pool :=
  { base := c.1, count := c.2, rsv := x.rsv, waiting := x.waiting, rebuild := decide (0 < c.2) && decide (c.2 ≤ 16384) }

/-- The new carve takes effect: bases, counts, rebuilt stores, and the completion (R175). -/
def State.carveEffect (s : State) : State :=
  match s.bpm.carve with
  | none => s
  | some c =>
    let s1 : State := { s with bpm := { s.bpm with
      carve := none, pools := (List.range 5).map (fun n => (s.pool n).carved (c.pools.getD n (0, 0))) } }
    let s2 := ((List.range 5).filter (fun n => !((s1.pool n).rebuild))).foldl (fun s n => s.queuedFrees n) s1
    ((s2.raise Ev.bpmCarveDone).complete c.desc 0xA401 .ok 0
      (leBytes c.initial 4 ++ leBytes 0 4 ++ leBytes ((s.clk.now - c.start) / 1000000) 4)).afterFree

/-- BPM_CARVE. -/
def State.bpmCarve (s : State) (d : CmdDesc) : State :=
  let l := d.carvePools
  let c : Checks := { unitChecks d true .bpm true [Rdy.bpm] with
    badForm := (unitChecks d true .bpm true [Rdy.bpm]).badForm ||
      !((d.ext.take d.extLen).drop 2 |>.take 6 |>.all (fun b => decide (b = 0)))
    badArg := decide (d.extLen < 48) || l.any (fun x => decide (524287 < x.2)) || carveOverlap l || decide ((l.getD 3 (0, 0)).2 = 0) }
  s.runCmd d 0xA401 c (fun s =>
    if (l.getD 3 (0, 0)).2 < s.hrTotal + 256 ∨
        (List.range 5).any (fun n => decide ((l.getD n (0, 0)).2 * s.rsvPct < (s.pool n).rsv * 100)) then
      s.complete d 0xA401 .noResource
    else if s.bpm.carve.isSome then s.complete d 0xA401 .busy
    else
      let s1 : State := { s with bpm := { s.bpm with carve := some ⟨d, l, s.clk.now, 0, []⟩ } }
      let n := s1.retiring
      let s2 : State := { s1 with bpm := { s1.bpm with
        carve := some ⟨d, l, s.clk.now, n, []⟩
        pools := (List.range 5).map (fun p => { s1.pool p with freed := (s1.pool p).freed.filter (fun i => decide (i < s1.keepLimit p)) }) } }
      if n = 0 then s2.carveEffect else s2.xoffUpdate)

/-- CARVE_TAKE_EFFECT: only when no retiring buffer is allocated. -/
def State.carveTakeEffect (s : State) : State := if s.bpm.carve.isSome && s.retiring == 0 then s.carveEffect else s

/-- CARVE_ROLLBACK: withheld buffers return to their old store, and the command completes with DRAINED_ABORT. -/
def State.carveRollback (s : State) : State :=
  match s.bpm.carve with
  | none => s
  | some c =>
    let n := s.retiring
    if n = 0 then s.carveEffect
    else
      let s1 : State := { s with bpm := { s.bpm with carve := none } }
      let back := fun (p : Nat) => (c.withheld.filter (fun b => bufPool b == p)).map bufIn
      let s2 : State := { s1 with bpm := { s1.bpm with
        pools := (List.range 5).map (fun p => if (s1.pool p).bitmap then s1.pool p
          else { s1.pool p with fresh := 0, freed := (s1.pool p).freed ++ back p }) } }
      (s2.complete c.desc 0xA401 .drainedAbort 0
        (leBytes c.initial 4 ++ leBytes n 4 ++ leBytes ((s.clk.now - c.start) / 1000000) 4)).afterFree

/-- BPM_AUDIT_RUN (R176): a new pass starts at once, and the pass in progress is abandoned; every run that waits completes at its end
(log entry 108). -/
def State.bpmAuditRun (s : State) (d : CmdDesc) : State :=
  let c := unitChecks d false .bpm true [Rdy.bpm]
  s.runCmd d 0xA402 { c with badForm := c.badForm || !(d.zero 12 32) } (fun s =>
    { s with bpm := { s.bpm.newPass s.clk.now with auditRun := s.bpm.auditRun ++ [d] } })

/-! ## Meanings -/

/-- BPM_ALLOC (R159, R161, R163). -/
def execBpmAlloc (r : BpmReq) (s : State) : Host.Outcome State Fault Refusal :=
  effect true s (s.bpmAlloc r)

/-- BPM_FREE (R167). -/
def execBpmFree (buf requester : Nat) (s : State) : Host.Outcome State Fault Refusal :=
  effect (requesterNo requester) s (s.bpmFree buf requester)

/-- AUDIT_VISIT (R170, R171). -/
def execAuditVisit (scan : AuditScan) (s : State) : Host.Outcome State Fault Refusal :=
  effect (scan.upsets.all BufUpset.wf) s (s.auditVisit scan)

/-- STORE_REBUILD_DONE (R172). -/
def execStoreRebuildDone (pool : Nat) (s : State) : Host.Outcome State Fault Refusal :=
  effect (poolNo pool) s (s.storeRebuildDone pool)

/-- BPM_CARVE (R173, R174). -/
def execBpmCarve (d : CmdDesc) (s : State) : Host.Outcome State Fault Refusal :=
  effect (d.wf) s (s.bpmCarve d)

/-- CARVE_TAKE_EFFECT (R175). -/
def execCarveTakeEffect (s : State) : Host.Outcome State Fault Refusal :=
  effect true s (s.carveTakeEffect)

/-- CARVE_ROLLBACK (R175). -/
def execCarveRollback (s : State) : Host.Outcome State Fault Refusal :=
  effect true s (s.carveRollback)

/-- BPM_AUDIT_RUN (R176). -/
def execBpmAuditRun (d : CmdDesc) (s : State) : Host.Outcome State Fault Refusal :=
  effect (d.wf) s (s.bpmAuditRun d)

end Sys2Proof.Machine
end

