-- ==== Sys2Proof/Machine/PairOps.lean ====
section
/-! DEFINITION. The deltas that waited for the mirroring task (R384). -/

set_option Elab.async false

namespace Sys2Proof.Machine

/-- The queued deltas are sent when task 10 is held again. -/
def State.pairDrainQueue (s : State) : State :=
  (s.pair.queue.map (fun e => e.1)).foldl (fun s p => s.omdSend p)
    { s with pair := { s.pair with queue := [], mirrorOk := decide (s.pair.st = .synced) } }

end Sys2Proof.Machine
end

