-- ==== Sys2Proof/Machine/Fdb.lean ====
section
/-! DEFINITION. The forwarding tables (chapter 8): entries and learning (R181 to R183), the VLAN table, groups, the classifier,
802.1CB functions, and the commands of Table FDB-5. -/

set_option Elab.async false

namespace Sys2Proof.Machine

/-! ## Operands -/

/-- `k` bytes from offset `n`, most significant first. -/
def beAt (l : List Byte) (n : Nat) : Nat → Nat
  | 0 => 0
  | k + 1 => byteAt l n * 256 ^ k + beAt l (n + 1) k

/-- The MAC at argument byte `n` (R201: most significant byte first). -/
def CmdDesc.mac (d : CmdDesc) (n : Nat) : Nat := beAt d.argBytes (n - 12) 6

/-- Members of a port set, bit `p` for port `p`. -/
def portsOf (v : Nat) : List Nat := (List.range 97).filter (fun p => bitAt v p)

/-- A port set names a port that the variant lacks (R5). -/
def State.setAbsent (s : State) (v : Nat) : Bool := (portsOf v).any (fun p => !(s.portExists p))

/-- A free value is taken (log entry 3). -/
def State.tick (s : State) : State := { s with free := s.free + 1 }

/-! ## Entries (R181 to R183) -/

/-- An FDB entry. -/
def State.fdbEntry? (s : State) (mac vid : Nat) : Option FdbEntry := Tab.find s.fdb.entries (mac, vid)

/-- The four buckets of a key, one in each way, as FDB_ADD reports them (R181, R201; log entry 23). -/
def fdbBuckets (k : Nat × Nat) : List Nat := (List.range 4).map (fun w => w * 65536 + (Config.fdbHash w k.1 k.2).toNat)

/-- The entry at a location. -/
def fdbAt (es : Tab (Nat × Nat) FdbEntry) (loc : Nat) : Option ((Nat × Nat) × FdbEntry) := es.find? (fun e => decide (e.2.loc.toNat = loc))

/-- An entry that all its buckets have turned away goes to the first empty of the 64 slots of the stash (R181). -/
def fdbStashPut (es : Tab (Nat × Nat) FdbEntry) (k : Nat × Nat) (e : FdbEntry) : Option (Tab (Nat × Nat) FdbEntry) :=
  (((List.range 64).map (fun i => 0x40000 + i)).find? (fun l => (fdbAt es l).isNone)).map
    (fun l => Tab.set es k { e with loc := BitVec.ofNat 32 l })

/-- The table after entry `e` of key `k` has found a place with at most so many moves (R181): its first empty bucket; else it takes the
bucket of an occupant, which looks for a place in turn; after the last move, the stash.  None when the stash is full. -/
def fdbPlace (es : Tab (Nat × Nat) FdbEntry) (k : Nat × Nat) (e : FdbEntry) (moves : Nat) : Option (Tab (Nat × Nat) FdbEntry) :=
  match (fdbBuckets k).find? (fun l => (fdbAt es l).isNone) with
  | some l => some (Tab.set es k { e with loc := BitVec.ofNat 32 l })
  | none => match moves with
    | 0 => fdbStashPut es k e
    | n + 1 =>
      let l := (fdbBuckets k).getD (Config.fdbVictim k.1 k.2 n).toNat 0
      (fdbAt es l).bind (fun o => fdbPlace (Tab.set (Tab.erase es o.1) k { e with loc := BitVec.ofNat 32 l }) o.1 o.2 n)

/-- An entry is written, and its version advances. -/
def State.fdbPut (s : State) (mac vid : Nat) (e : FdbEntry) : State :=
  let s1 := s.bumpVersion (.fdb mac vid)
  { s1 with fdb := { s1.fdb with entries := Tab.set s1.fdb.entries (mac, vid) e } }

/-- An entry is removed, and its version advances. -/
def State.fdbRemove (s : State) (mac vid : Nat) : State :=
  let s1 := s.bumpVersion (.fdb mac vid)
  { s1 with fdb := { s1.fdb with entries := Tab.erase s1.fdb.entries (mac, vid) } }

/-- A new entry finds a place, with up to 64 moves of others, or the insert fails (R181). -/
def State.fdbInsert (s : State) (mac vid : Nat) (e : FdbEntry) : Option State :=
  (fdbPlace s.fdb.entries (mac, vid) e 64).map (fun es =>
    let s1 := s.bumpVersion (.fdb mac vid)
    { s1 with fdb := { s1.fdb with entries := es } })

/-- Entries and stash slots in use, as FDB_STAT shows them. -/
def State.fdbStash (s : State) : Nat := (s.fdb.entries.filter (fun e => decide (0x40000 ≤ e.2.loc.toNat))).length
def State.fdbInUse (s : State) : Nat := s.fdb.entries.length - s.fdbStash

/-- A failed insert: counted, and FDB_FULL at most once per second (R181). -/
def State.fdbFull (s : State) : State :=
  let s1 := s.bump Fld.fdbLearnFail_VAL
  let due := match s.fdb.fullAt with
    | none => true
    | some t => decide (t + 10 ^ 12 ≤ s.clk.now)
  let s2 := s1.raiseIf due Ev.fdbFull s.fdbInUse s.fdbStash
  { s2 with fdb := { s2.fdb with fullAt := if due then some s.clk.now else s2.fdb.fullAt } }

/-- A learn, move or removal as a delta for the peer (R376). -/
def State.fdbMirror (s : State) (mac vid dest : Nat) (remove : Bool) : State := s.pairDelta (.fdb [⟨mac, vid, dest, remove⟩])

/-- A learn (R182). -/
def State.learn (s : State) (l : Learn) : State :=
  match s.fdbEntry? l.mac l.vid with
  | none =>
    if s.fdb.verFull then s.bump Fld.fdbLearnSkip_VAL
    else match s.fdbInsert l.mac l.vid { dest := l.port } with
      | some t => (t.bump Fld.fdbLearnCnt_VAL).fdbMirror l.mac l.vid l.port false
      | none => s.fdbFull
  | some e =>
    if e.static then (if e.dest = l.port then { s with fdb := { s.fdb with entries := Tab.set s.fdb.entries (l.mac, l.vid) { e with hit := true } } }
      else s.bump Fld.fdbStaticViol_VAL)
    else if e.dest = l.port then
      let s1 : State := { s with fdb := { s.fdb with entries := Tab.set s.fdb.entries (l.mac, l.vid) { e with hit := true, mirrored := false } } }
      if e.mirrored then s1.fdbMirror l.mac l.vid l.port false else s1
    else if !(s.apB Fld.fdbCfg_MOVE_EN) then s.bump Fld.fdbMoveCnt_VAL
    else if s.fdb.verFull then s.bump Fld.fdbLearnSkip_VAL
    else ((s.fdbPut l.mac l.vid { e with dest := l.port, hit := true, mirrored := false }).bump Fld.fdbMoveCnt_VAL).fdbMirror l.mac l.vid l.port false

/-- The pipeline of a port: four pipelines share the 96 ports, 24 each; port 96 uses the last (log entry 24). -/
def pipeOf (p : Nat) : Nat := min 3 (p / 24)

/-- A learn joins its pipeline's queue, or is skipped when the queue is full (R182). -/
def State.queueLearn (s : State) (l : Learn) : State :=
  let q := Tab.get [] s.fdb.learnQ (pipeOf l.port)
  if q.length < Config.learnDepth then { s with fdb := { s.fdb with learnQ := Tab.set s.fdb.learnQ (pipeOf l.port) (q ++ [l]) } }
  else s.bump Fld.fdbLearnSkip_VAL

/-- FDB_LEARN: the head of a pipeline's learn queue. -/
def State.fdbLearn (s : State) (pipe : Nat) : State :=
  match Tab.get [] s.fdb.learnQ pipe with
  | [] => s
  | l :: q => ({ s with fdb := { s.fdb with learnQ := Tab.set s.fdb.learnQ pipe q } } : State).learn l

/-- FDB_AGE_VISIT (R183); a MIRRORED entry is not aged here (R376). -/
def State.fdbAgeVisit (s : State) (mac vid : Nat) : State :=
  match s.fdbEntry? mac vid with
  | none => s
  | some e =>
    if s.ap Fld.fdbAge_AGE_S = 0 ∨ e.mirrored then s
    else if e.hit then { s with fdb := { s.fdb with entries := Tab.set s.fdb.entries (mac, vid) { e with hit := false } } }
    else if e.static then s
    else if s.fdb.verFull then s.bump Fld.fdbLearnSkip_VAL
    else ((s.fdbRemove mac vid).bump Fld.fdbAgedCnt_VAL).fdbMirror mac vid e.dest true

/-! ## Tables -/

/-- The reset sets of a VLAN: VID 1 has every port of the variant and port 96 in both (R185). -/
def State.vlanReset (s : State) (v : Nat) : Nat × Nat :=
  let all := 2 ^ s.variant.ports - 1 + 2 ^ 96
  if v = 1 then (all, all) else (0, 0)

/-- Member and untag set of a VLAN. -/
def State.vlan (s : State) (v : Nat) : Nat × Nat := Tab.get (s.vlanReset v) s.fdb.vlans v

/-- A multicast group. -/
def State.mcGroup (s : State) (g : Nat) : Nat := Tab.get 0 s.fdb.groups g

/-! ## Commands (Table FDB-5) -/

/-- The version store cannot take the copies that changes of `ks` retire (R192). -/
def State.verBusy (s : State) (ks : List EntryKey) : Bool :=
  s.fdb.verFull || decide (4096 < s.fdb.retired.length + (ks.filter (fun k => decide (s.usersOf k ≠ []))).length)

/-- The checks of an FDB command: reserved bytes from `n` on. -/
def fdbChecks (d : CmdDesc) (ext : Bool) (n : Nat) (changes : Bool) : Checks :=
  let c := unitChecks d ext .fdb changes [Rdy.fdb]
  { c with badForm := c.badForm || (!ext && !(d.zero n 32)) }

/-- FDB_ADD. -/
def State.fdbAdd (s : State) (d : CmdDesc) : State :=
  let mac := d.mac 12
  let vid := d.arg 18 2
  let dest := d.arg 20 2
  let grp := bitAt dest 15
  let p := dest % 128
  let c := fdbChecks d false 23 true
  s.runCmd d 0xA801 { c with
      absent := !grp && decide (p < 96) && !(s.portExists p)
      badForm := c.badForm || (if grp then decide (bitsOf dest 12 3 ≠ 0) else decide (bitsOf dest 7 8 ≠ 0)) || decide (2 ≤ d.arg 22 1)
      badArg := decide (4096 ≤ vid) || (!grp && (decide (96 < p) || s.portInactive p)) } (fun s =>
    let e : FdbEntry := { dest := dest, static := d.arg 22 1 == 1 }
    let k := EntryKey.fdb mac vid
    let done := fun (t : State) => t.complete d 0xA801 .ok 0
      (leBytes ((t.fdbEntry? mac vid).elim 0 (fun e => e.loc.toNat)) 4 ++ leBytes (t.fdb.version k) 2)
    if s.verBusy [k] then s.complete d 0xA801 .busy
    else match s.fdbEntry? mac vid with
      | some old => done (s.fdbPut mac vid { e with loc := old.loc })
      | none => match s.fdbInsert mac vid e with
        | some t => done t
        | none => s.fdbFull.complete d 0xA801 .noResource)

/-- FDB_DEL. -/
def State.fdbDel (s : State) (d : CmdDesc) : State :=
  let mac := d.mac 12
  let vid := d.arg 18 2
  s.runCmd d 0xA802 { fdbChecks d false 20 true with badArg := decide (4096 ≤ vid) || (s.fdbEntry? mac vid).isNone } (fun s =>
    if s.verBusy [.fdb mac vid] then s.complete d 0xA802 .busy
    else
      let t := s.fdbRemove mac vid
      t.complete d 0xA802 .ok 0 (leBytes (t.fdb.version (.fdb mac vid)) 2))

/-- FDB_LOOKUP: HIT is read and left. -/
def State.fdbLookup (s : State) (d : CmdDesc) : State :=
  let mac := d.mac 12
  let vid := d.arg 18 2
  s.runCmd d 0xA803 { fdbChecks d false 20 false with badArg := decide (4096 ≤ vid) } (fun s =>
    s.complete d 0xA803 .ok 0 (match s.fdbEntry? mac vid with
      | some e => leBytes e.dest 2 ++ leBytes (b2n e.static + 2 * b2n e.hit) 2 ++ leBytes (s.fdb.version (.fdb mac vid)) 2
      | none => leBytes 0xFFFFFFFF 4))

/-- FDB_FLUSH. -/
def State.fdbFlush (s : State) (d : CmdDesc) : State :=
  let p := d.arg 12 2
  let v := d.arg 14 2
  let c := fdbChecks d false 17 true
  s.runCmd d 0xA804 { c with
      absent := decide (p < 96) && !(s.portExists p)
      badForm := c.badForm || decide (2 ≤ d.arg 16 1)
      badArg := (decide (96 < p) && decide (p ≠ 0xFFFF)) || (decide (p < 96) && s.portInactive p) ||
        (decide (4096 ≤ v) && decide (v ≠ 0xFFFF)) } (fun s =>
    let ks := (s.fdb.entries.filter (fun e => (p == 0xFFFF || e.2.dest == p) && (v == 0xFFFF || e.1.2 == v) &&
      (d.arg 16 1 == 1 || !e.2.static))).map (fun e => e.1)
    if s.verBusy (ks.map (fun k => .fdb k.1 k.2)) then s.complete d 0xA804 .busy
    else (ks.foldl (fun s k => s.fdbRemove k.1 k.2) s).complete d 0xA804 .ok 0 (leBytes ks.length 4))

/-- FDB_VLAN_SET. -/
def State.fdbVlanSet (s : State) (d : CmdDesc) : State :=
  let v := d.buf 0 2
  let m := d.buf 2 13
  let u := d.buf 15 13
  let c := fdbChecks d true 0 true
  s.runCmd d 0xA805 { c with
      absent := !(d.badForm true) && (s.setAbsent m || s.setAbsent u)
      badForm := c.badForm || decide (2 ^ 97 ≤ m) || decide (2 ^ 97 ≤ u)
      badArg := decide (4096 ≤ v) } (fun s =>
    if s.verBusy [.vlan v] then s.complete d 0xA805 .busy
    else
      let t := s.bumpVersion (.vlan v)
      ({ t with fdb := { t.fdb with vlans := Tab.set t.fdb.vlans v (m, u) } } : State).complete d 0xA805 .ok 0
        (leBytes (t.fdb.version (.vlan v)) 2))

/-- FDB_MCG_SET. -/
def State.fdbMcgSet (s : State) (d : CmdDesc) : State :=
  let g := d.buf 0 2
  let m := d.buf 2 13
  let c := fdbChecks d true 0 true
  s.runCmd d 0xA806 { c with
      absent := !(d.badForm true) && s.setAbsent m
      badForm := c.badForm || decide (2 ^ 97 ≤ m)
      badArg := decide (4096 ≤ g) } (fun s =>
    if s.verBusy [.mcg g] then s.complete d 0xA806 .busy
    else
      let t := s.bumpVersion (.mcg g)
      ({ t with fdb := { t.fdb with groups := Tab.set t.fdb.groups g m } } : State).complete d 0xA806 .ok 0
        (leBytes (t.fdb.version (.mcg g)) 2))

/-- The KEY bits of a kind (Table FDB-3). -/
def keyBits (kind : Nat) : Word := if kind ≤ 2 then 0xFF00FFFF else if kind ≤ 5 then 0xFF0F0000 else 0xFFFFFFFF

/-- The classifier entry of a buffer. -/
def CmdDesc.clsEntry (d : CmdDesc) : ClsEntry :=
  { port := d.buf 2 2, kind := d.buf 4 1, action := d.buf 5 1, vid := d.buf 6 2, key := d.buf 8 4, mask := d.buf 12 4
    cbFn := d.buf 16 2, macHi := d.buf 18 2 }

/-- FDB_CLS_SET (R187, R189). -/
def State.fdbClsSet (s : State) (d : CmdDesc) : State :=
  let i := d.buf 0 2
  let e := d.clsEntry
  let c := fdbChecks d true 0 true
  s.runCmd d 0xA807 { c with
      absent := !(d.badForm true) && decide (e.port < 96) && !(s.portExists e.port)
      badForm := c.badForm || bitAt e.action 7 || decide (d.buf 20 12 ≠ 0)
      badArg := decide (16384 ≤ i) || (decide (96 < e.port) && decide (e.port ≠ 0xFFFF)) || (decide (e.port < 96) && s.portInactive e.port) ||
        decide (e.kind = 0) || decide (6 < e.kind) || (decide (4096 ≤ e.vid) && decide (e.vid ≠ 0xFFFF)) ||
        decide (BitVec.ofNat 32 e.key &&& ~~~ keyBits e.kind ≠ 0) || decide (BitVec.ofNat 32 e.mask &&& ~~~ keyBits e.kind ≠ 0) ||
        decide (1024 ≤ e.cbFn) || (decide (e.kind < 6) && decide (e.macHi ≠ 0)) } (fun s =>
    if (Tab.find s.fdb.bound i).isSome then s.complete d 0xA807 .busy
    else if s.verBusy [.cls i] then s.complete d 0xA807 .busy
    else
      let t := s.bumpVersion (.cls i)
      ({ t with fdb := { t.fdb with cls := Tab.set t.fdb.cls i e } } : State).complete d 0xA807 .ok 0
        (leBytes (t.fdb.version (.cls i)) 2))

/-- FDB_CLS_DEL. -/
def State.fdbClsDel (s : State) (d : CmdDesc) : State :=
  let i := d.arg 12 2
  s.runCmd d 0xA808 { fdbChecks d false 14 true with badArg := (Tab.find s.fdb.cls i).isNone } (fun s =>
    if (Tab.find s.fdb.bound i).isSome then s.complete d 0xA808 .busy
    else if s.verBusy [.cls i] then s.complete d 0xA808 .busy
    else
      let t := s.bumpVersion (.cls i)
      ({ t with fdb := { t.fdb with cls := Tab.erase t.fdb.cls i } } : State).complete d 0xA808 .ok 0
        (leBytes (t.fdb.version (.cls i)) 2))

/-- An 802.1CB function. -/
def State.cbFn? (s : State) (f : Nat) : Option CbFn := Tab.find s.fdb.cb f

/-- An 802.1CB function replaced. -/
def State.setCb (s : State) (f : Nat) (x : CbFn) : State := { s with fdb := { s.fdb with cb := Tab.set s.fdb.cb f x } }

/-- FDB_CB_SET (R199, R200): the function starts anew, a recovery function counts a reset; TYPE 3 frees it. -/
def State.fdbCbSet (s : State) (d : CmdDesc) : State :=
  let f := d.arg 12 2
  let ty := d.arg 14 1
  let ports := d.arg 20 10
  let c := fdbChecks d false 30 true
  s.runCmd d 0xA809 { c with
      absent := s.setAbsent ports
      badForm := c.badForm || decide (2 ≤ d.arg 18 1) || decide (d.arg 19 1 ≠ 0)
      badArg := decide (1024 ≤ f) || decide (3 < ty) || decide (d.arg 15 1 < 2) || decide (128 < d.arg 15 1) || decide (d.arg 16 2 = 0) ||
        decide (4 < (portsOf ports).length) } (fun s =>
    if s.verBusy [.cb f] then s.complete d 0xA809 .busy
    else
      let old := (s.cbFn? f).getD { type := 3, hist := 0, resetMs := 0, pop := false, ports := 0 }
      let t := s.bumpVersion (.cb f)
      let u : State := if ty = 3 then { t with fdb := { t.fdb with cb := Tab.erase t.fdb.cb f } }
        else t.setCb f { old with type := ty, hist := d.arg 15 1, resetMs := d.arg 16 2, pop := d.arg 18 1 == 1, ports := ports
                                  nextSeq := 0, recov := none, history := 0, histLen := 0, wrap := 0, lastId := 0
                                  resets := if ty = 0 then old.resets else satAdd 32 old.resets 1 }
      u.complete d 0xA809 .ok 0 (leBytes (t.fdb.version (.cb f)) 2))

/-- CB_RECOVERY_RESET (R200): a recovery function without a frame for RESET_MS. -/
def State.cbRecoveryReset (s : State) (f : Nat) : State :=
  match s.cbFn? f with
  | none => s
  | some x => if x.type = 0 then s else s.setCb f { x with recov := none, history := 0, histLen := 0, resets := satAdd 32 x.resets 1 }

/-! ## Meanings -/

/-- FDB_LEARN (R182). -/
def execFdbLearn (pipe : Nat) (s : State) : Host.Outcome State Fault Refusal :=
  effect (pipeline pipe) s (s.fdbLearn pipe)

/-- FDB_AGE_VISIT (R183). -/
def execFdbAgeVisit (mac vid : Nat) (s : State) : Host.Outcome State Fault Refusal :=
  effect true s (s.fdbAgeVisit mac vid)

/-- FDB_ADD (R201). -/
def execFdbAdd (d : CmdDesc) (s : State) : Host.Outcome State Fault Refusal :=
  effect (d.wf) s (s.fdbAdd d)

/-- FDB_DEL (R201). -/
def execFdbDel (d : CmdDesc) (s : State) : Host.Outcome State Fault Refusal :=
  effect (d.wf) s (s.fdbDel d)

/-- FDB_LOOKUP (R201). -/
def execFdbLookup (d : CmdDesc) (s : State) : Host.Outcome State Fault Refusal :=
  effect (d.wf) s (s.fdbLookup d)

/-- FDB_FLUSH (R201). -/
def execFdbFlush (d : CmdDesc) (s : State) : Host.Outcome State Fault Refusal :=
  effect (d.wf) s (s.fdbFlush d)

/-- FDB_VLAN_SET (R185). -/
def execFdbVlanSet (d : CmdDesc) (s : State) : Host.Outcome State Fault Refusal :=
  effect (d.wf) s (s.fdbVlanSet d)

/-- FDB_MCG_SET (R193). -/
def execFdbMcgSet (d : CmdDesc) (s : State) : Host.Outcome State Fault Refusal :=
  effect (d.wf) s (s.fdbMcgSet d)

/-- FDB_CLS_SET (R187). -/
def execFdbClsSet (d : CmdDesc) (s : State) : Host.Outcome State Fault Refusal :=
  effect (d.wf) s (s.fdbClsSet d)

/-- FDB_CLS_DEL (R201). -/
def execFdbClsDel (d : CmdDesc) (s : State) : Host.Outcome State Fault Refusal :=
  effect (d.wf) s (s.fdbClsDel d)

/-- FDB_CB_SET (R199). -/
def execFdbCbSet (d : CmdDesc) (s : State) : Host.Outcome State Fault Refusal :=
  effect (d.wf) s (s.fdbCbSet d)

/-- CB_RECOVERY_RESET (R200). -/
def execCbRecoveryReset (fn : Nat) (s : State) : Host.Outcome State Fault Refusal :=
  effect (cbFnNo fn) s (s.cbRecoveryReset fn)

end Sys2Proof.Machine
end

