-- ==== Sys2Proof/Machine/Tic.lean ====
section
/-! DEFINITION. The interval counter (chapter 14): sources, samples, blocks, arming and statistics. -/

set_option Elab.async false

namespace Sys2Proof.Machine

/-! ## Arithmetic -/

/-- The integer square root by bits from `2^k` down. -/
def isqrtBits (n : Nat) : Nat → Nat → Nat
  | 0, r => if (r + 1) * (r + 1) ≤ n then r + 1 else r
  | k + 1, r => isqrtBits n k (if (r + 2 ^ (k + 1)) * (r + 2 ^ (k + 1)) ≤ n then r + 2 ^ (k + 1) else r)

/-- The integer square root of a number below 2^256. -/
def isqrt (n : Nat) : Nat := isqrtBits n 127 0

/-- A duration in 2^-45 ps as 2^-16 ns, rounded to nearest (R321). -/
def toFrac (u : Int) : Int := roundDiv u unitsPerFrac

/-- One converter code, 1.5625 ps, in 2^-45 ps (R314). -/
def ticCode : Int := 25 * 2 ^ 41

/-- The 400 ps of the dead zone in 2^-45 ps (R318). -/
def ticNear : Int := 400 * 2 ^ 45

/-! ## Channels and arguments -/

/-- A TIC channel. -/
def State.ticCh (s : State) (c : Nat) : TicCh := Tab.get {} s.tic.chans c

/-- A TIC channel replaced. -/
def State.setTicCh (s : State) (c : Nat) (x : TicCh) : State := { s with tic := { s.tic with chans := Tab.set s.tic.chans c x } }

/-- The arguments of a measurement channel (Table HDL-3). -/
def Obj.ticArgs (o : Obj) : TicArgs :=
  let b := byteAt o.args
  { start := b 1, stop := b 2, base := b 3, n := leAt o.args 4 4, nearKeep := bitAt (b 8) 0, gate := bitAt (b 8) 1 }

/-- A source code of Table TIC-1. -/
def ticSource (c : Nat) : Bool :=
  c < 0x24 || (0x30 ≤ c && c ≤ 0x35) || c == 0x40 || (0x50 ≤ c && c ≤ 0x5B) || (0x80 ≤ c && c ≤ 0xDF) || (0xE0 ≤ c && c ≤ 0xE3)

/-- A source code whose lane, lane group or input is absent on the variant (R316, R433). -/
def State.ticSourceAbsent (s : State) (c : Nat) : Bool :=
  (0x80 ≤ c && c ≤ 0xDF && s.variant.ports ≤ c - 0x80) || (0x50 ≤ c && c ≤ 0x5B && s.variant.groups ≤ c - 0x50) ||
  (c < 0x20 && s.variant.tic ≤ c % 16)

/-- The level of the gate ball that GATE_SEL names, low while the pads are held (log entry 123). -/
def State.ticGate (s : State) (c : Nat) : Bool := s.padIn 13 && if s.apB Fld.ticChCfg_GATE_SEL c then s.tic.gate1 else s.tic.gate0

/-- Sampling may start on the channel: a block is armed, neither paused nor waiting, its domain is on, and its gate has risen and is
high. -/
def State.ticMay (s : State) (c : Nat) : Bool :=
  let x := s.ticCh c
  x.armed && !x.waitBase && !x.calWait && !x.dead && s.domOn 15 && (!x.args.gate || (x.begun && s.ticGate c)) &&
  decide ((s.obj .mchan c).phase ≠ .suspended) && !(s.halted (.ticCh c)) && !(s.halted (.block .tic))

/-- Arms a sample on the channel where sampling may start (R317). -/
def State.ticSample (s : State) (c : Nat) : State :=
  if s.ticMay c && !(s.ticCh c).live then
    s.setTicCh c { s.ticCh c with
      live := true, startAt := none, stopAt := none
      pair := s.apB Fld.ticChCfg_PAIR c, ofs := s.apI Fld.ticChOfs_VAL c }
  else s

/-- The sample in progress is abandoned and counted (R319, R322). -/
def State.ticAbandon (s : State) (c : Nat) : State :=
  let x := s.ticCh c
  if x.live then (s.bump Fld.ticTmoCnt_VAL c).setTicCh c { x with live := false, timeout := x.timeout + 1 } else s

/-- Arms a block under the object's current arguments (R320, R322). -/
def State.ticArmBlock (s : State) (c : Nat) (rep : Bool) : State :=
  let x := s.ticCh c
  let a := (s.obj .mchan c).ticArgs
  (s.setTicCh c { x with
    armed := true, rep := rep, args := a, begun := false, live := false
    waitBase := decide (a.base = 1) && !s.tic.tbOk, calWait := s.calJobOn 2 c
    kept := 0, sum := 0, sumSq := 0, lo := 0, hi := 0, order := 0, near := 0, timeout := 0
    block := x.nextBlock, nextBlock := x.nextBlock + 1 }).ticSample c

/-! ## Statistics and the end of a block -/

/-- The standard deviation in 2^-16 ns, rounded to nearest: √(Σ(x − mean)² / (n − 1)), 0 for n = 1 (R321). -/
def ticSd (n : Nat) (sum sumSq : Int) : Nat :=
  if n ≤ 1 then 0
  else (isqrt (4 * ((n * sumSq - sum * sum).toNat) / (n * (n - 1) * unitsPerFrac * unitsPerFrac)) + 1) / 2

/-- The samples that do not enter the statistics (R318). -/
def TicCh.excluded (x : TicCh) : Nat := x.order + (if x.args.nearKeep then 0 else x.near)

/-- The published result of a block, stamped by the active core (R320, R321). -/
def State.ticResultOf (s : State) (x : TicCh) (part : Bool) : TicResult :=
  { mean := roundDiv x.sum (max 1 x.kept * unitsPerFrac), sd := ticSd x.kept x.sum x.sumSq, lo := toFrac x.lo, hi := toFrac x.hi
    kept := x.kept, order := x.order, near := x.near, timeout := x.timeout
    sec := secOf s.tod, ns := nsOf s.tod, frac := fracOf s.tod
    partialBlk := part, core := s.clk.active, unlocked := s.unlockedTime, block := x.block % 65536 }

/-- Jobs that waited for the channel's block may measure (R322). -/
def State.ticCalGo (s : State) (c : Nat) : State :=
  { s with cal := { s.cal with jobs := s.cal.jobs.map (fun e =>
      if byteAt (s.obj .cal e.1).args 0 = 2 ∧ leAt (s.obj .cal e.1).args 2 2 = c then (e.1, { e.2 with waitBlock := false }) else e) } }

/-- A block ends: the result is published and TIC_RESULT raised (R320). -/
def State.ticEnd (s : State) (c : Nat) (part : Bool) : State :=
  let x := s.ticCh c
  let s1 := (s.setTicCh c { x with armed := false, live := false, waitBase := false, result := some (s.ticResultOf x part) }).calBoundary 2 c
  let s2 := s1.raise Ev.ticResult (s.handleOf .mchan c).toNat x.kept x.excluded
  let s3 := s2.ticCalGo c
  if x.rep && !part && decide ((s.obj .mchan c).phase = .active) then s3.ticArmBlock c true else s3

/-- A complete sample of raw interval `d` (R318): counted, reported, and taken into the statistics. -/
def State.ticTake (s : State) (c : Nat) (d : Int) : State :=
  let x := s.ticCh c
  let near := decide (-ticNear < d) && decide (d < ticNear)
  let order := decide (d ≤ -ticNear)
  let v := (if near then ticNear else d) + x.ofs * 2 ^ 45
  let keep := !order && (!near || x.args.nearKeep)
  let s1 := if near then s.bump Fld.ticNearCnt_VAL c else if order then s.bump Fld.ticOrderCnt_VAL c else s
  let y : TicCh := { x with
    live := false, dead := true, near := x.near + b2n near, order := x.order + b2n order
    lastVal := v, lastNear := near, lastOrder := order, lastIndex := x.kept + x.order + x.near
    kept := x.kept + b2n keep
    sum := if keep then x.sum + v else x.sum
    sumSq := if keep then x.sumSq + v * v else x.sumSq
    lo := if keep then (if x.kept = 0 then v else min x.lo v) else x.lo
    hi := if keep then (if x.kept = 0 then v else max x.hi v) else x.hi }
  let s2 := s1.setTicCh c y
  if y.kept = x.args.n then s2.ticEnd c false else s2

/-- The fine part of a converter code, corrected by the linearity set in force (R314, R330). -/
def State.ticFine (s : State) (c code : Nat) : Int := code * ticCode + (s.calForce 2 c).codes.getD code 0 * unitsPerFrac

/-- d of two stamps (R314): whole periods of the base less the fine parts, without the offset of the channel's set; RATE as it is at the
second edge (log entry 120). -/
def State.ticInterval (s : State) (c : Nat) (start stop : Nat × Int) : Int :=
  let p : Int := if (s.ticCh c).args.base = 0 then (periodUnits s.clk.rate : Int) else 1600 * 2 ^ 45
  ((stop.1 : Int) - start.1) * p - (stop.2 - start.2) - (s.calForce 2 c).a * unitsPerFrac

/-- A source has edges: a recovered clock only while its lane offers it (R316), a TIC_IN ball while its pads are not held (R398). -/
def State.ticSourceOn (s : State) (src : Nat) : Bool :=
  (s.padIn 13 || decide (0x20 ≤ src)) && (!(decide (0x80 ≤ src) && decide (src ≤ 0xDF)) || (Tab.get {} s.lanes (src - 0x80) : Lane).offered)

/-- An edge of the start or the stop source with its stamp (R314, R317). -/
def State.ticEdge (s : State) (c : Nat) (stop : Bool) (coarse code : Nat) : State :=
  let x := s.ticCh c
  let t := (coarse, s.ticFine c code)
  if !x.live || !(s.ticSourceOn (if stop then x.args.stop else x.args.start)) then s
  else if stop then
    if x.stopAt.isSome || (x.pair && x.startAt.isNone) then s
    else match x.startAt with
      | some a => (s.setTicCh c { x with stopAt := some t }).ticTake c (s.ticInterval c a t)
      | none => s.setTicCh c { x with stopAt := some t }
  else if x.startAt.isSome then s
  else match x.stopAt with
    | some b => (s.setTicCh c { x with startAt := some t }).ticTake c (s.ticInterval c t b)
    | none => s.setTicCh c { x with startAt := some t }

/-! ## Gate, time base, power, calibration -/

/-- Every channel, folded. -/
def State.forTic (s : State) (f : State → Nat → State) : State := (List.range 16).foldl f s

/-- A gate edge (R320): high starts sampling; low leaves a sample with an edge to complete and withdraws one without, which is not in
progress (DEDUCED, log entry 120). -/
def State.ticGateEdge (s : State) (g : Nat) (high : Bool) : State :=
  let s1 : State := { s with tic := if g = 0 then { s.tic with gate0 := high } else { s.tic with gate1 := high } }
  s1.forTic (fun s c =>
    let x := s.ticCh c
    if !s.padIn 13 || !x.armed || !x.args.gate || s.ap Fld.ticChCfg_GATE_SEL c != g then s
    else if high then (s.setTicCh c { x with begun := true }).ticSample c
    else if x.live && x.startAt.isNone && x.stopAt.isNone then s.setTicCh c { x with live := false }
    else s)

/-- TB_OK clears (R315, R322). -/
def State.ticTbLoss (s : State) (locked : Bool) : State :=
  let s1 := s.raiseIf s.tic.tbOk Ev.ticTbState 0
  let s2 : State := { s1 with tic := { s.tic with tbOk := false, tbLock := locked } }
  s2.forTic (fun s c =>
    if (s.ticCh c).armed && decide ((s.ticCh c).args.base = 1) then
      let s := s.ticAbandon c
      s.setTicCh c { s.ticCh c with waitBase := true }
    else s)

/-- TB_OK sets, when TB_EN is 1 (R315). -/
def State.ticTbOk (s : State) : State :=
  if !(s.apB Fld.ticCfg_TB_EN) || !s.padIn 13 then s
  else
    let s1 := s.raiseIf (!s.tic.tbOk) Ev.ticTbState 1
    let s2 : State := { s1 with tic := { s.tic with tbOk := true, tbLock := true } }
    s2.forTic (fun s c => (s.setTicCh c { s.ticCh c with waitBase := false }).ticSample c)

/-- The TIC domain leaves on: samples in progress are abandoned and counted, blocks pause (R322). -/
def State.ticDown (s : State) : State := s.forTic (fun s c => s.ticAbandon c)

/-- The TIC domain is on again: blocks resume (R322). -/
def State.ticUp (s : State) : State := s.forTic (fun s c => s.ticSample c)

/-- A calibration job on the channel has ended: blocks that waited begin (R322). -/
def State.ticCalEnd (s : State) (c : Nat) : State := (s.setTicCh c { s.ticCh c with calWait := false }).ticSample c

/-! ## Commands -/

/-- The checks of a command that carries a measurement channel's handle (R325, Table HDL-4). -/
def State.ticChecks (s : State) (d : CmdDesc) (reserved : Bool) : Checks :=
  { absent := decide (s.variant.tic ≤ hIndex d.handle) && decide (hIndex d.handle < 16)
    badForm := d.badForm false || reserved || decide (hType d.handle ≠ 3) || decide (16 ≤ hIndex d.handle)
    blocks := [.tic], ready := [Rdy.tic], stale := s.stale .mchan d.handle }

/-- TIC_ARM (R320): BUSY on an armed channel; NOT_READY on a suspended one (log entry 16). -/
def State.ticArm (s : State) (again : Bool) (d : CmdDesc) : State :=
  s.runNamed again .mchan 0x10 d 0xC401 (s.ticChecks d (decide (2 ≤ d.arg 12 1) || !(d.zero 13 32))) (fun s =>
    let c := hIndex d.handle
    if (s.obj .mchan c).phase = .suspended then s.complete d 0xC401 .notReady
    else if (s.ticCh c).armed then s.complete d 0xC401 .busy
    else
      let t := s.ticArmBlock c (bitAt (d.arg 12 1) 0)
      t.complete d 0xC401 .ok 0 (leBytes (t.ticCh c).block 4))

/-- TIC_STOP (R320): the block ends with what has been kept. -/
def State.ticStop (s : State) (again : Bool) (d : CmdDesc) : State :=
  s.runNamed again .mchan 0x11 d 0xC402 (s.ticChecks d (!(d.zero 12 32))) (fun s =>
    let c := hIndex d.handle
    let x := s.ticCh c
    if !x.armed then s.complete d 0xC402 .ok 0 (leBytes 0 4)
    else
      let t := if x.kept = 0 then ((s.setTicCh c { x with armed := false, live := false, waitBase := false }).calBoundary 2 c).ticCalGo c
        else s.ticEnd c true
      t.complete d 0xC402 .ok 0 (leBytes x.kept 4))

/-! ## The measurement channel object -/

/-- CREATE and MODIFY arguments: reserved bits, absent sources, ranges (R316, Table HDL-3). -/
def mchanReserved (d : CmdDesc) : Bool := decide (4 ≤ d.arg 20 1) || !(d.zero 21 32)
def State.mchanAbsent (s : State) (d : CmdDesc) : Bool :=
  (decide (s.variant.tic ≤ d.arg 12 1) && decide (d.arg 12 1 < 16)) || s.ticSourceAbsent (d.arg 13 1) || s.ticSourceAbsent (d.arg 14 1)
def mchanBad (d : CmdDesc) : Bool :=
  decide (16 ≤ d.arg 12 1) || !(ticSource (d.arg 13 1)) || !(ticSource (d.arg 14 1)) || decide (d.arg 13 1 = d.arg 14 1) ||
  decide (2 ≤ d.arg 15 1) || decide (d.arg 16 4 = 0) || decide (2 ^ 20 < d.arg 16 4)

/-- BASE 1 needs TB_OK at CREATE and MODIFY (R315). -/
def State.mchanNotReady (s : State) (d : CmdDesc) : Bool := decide (d.arg 15 1 = 1) && !s.tic.tbOk

/-- The work in flight of a measurement channel: the samples of N not yet taken (Table HDL-5). -/
def State.mchanFlight (s : State) (c : Nat) : Nat := if (s.ticCh c).armed then (s.ticCh c).args.n - (s.ticCh c).kept else 0

/-- Samples not taken are aborted; a DESTROY discards the statistics, a DISABLE keeps them (Table HDL-5). -/
def State.mchanAbort (s : State) (c : Nat) (destroy : Bool) : State :=
  let s1 := s.ticAbandon c
  if destroy then ((s1.setTicCh c {}).calBoundary 2 c).ticCalGo c else s1

/-- A measurement channel resumes after an ENABLE (R95). -/
def State.mchanResume (s : State) (c : Nat) : State := s.ticSample c

/-- RESULT bytes 4 to 15 of a QUERY (R325). -/
def State.mchanQuery (s : State) (c : Nat) : List Byte :=
  let x := s.ticCh c
  let b := b2n x.armed + 2 * b2n (x.armed && x.args.gate && !(s.ticGate c)) + 4 * b2n x.waitBase
  leBytes b 4 ++ leBytes x.kept 4 ++ leBytes x.block 4

/-! ## Meanings -/

/-- TIC_ARM. -/
def execTicArm (d : CmdDesc) (s : State) : Host.Outcome State Fault Refusal := effect (d.wf) s (s.ticArm false d)

/-- TIC_STOP. -/
def execTicStop (d : CmdDesc) (s : State) : Host.Outcome State Fault Refusal := effect (d.wf) s (s.ticStop false d)

/-- TIC_EDGE (R317). -/
def execTicEdge (c : Nat) (stop : Bool) (coarse code : Nat) (s : State) : Host.Outcome State Fault Refusal :=
  effect (ticChan c && decide (code < 1024)) s (s.ticEdge c stop coarse code)

/-- TIC_REARM (R317). -/
def execTicRearm (c : Nat) (s : State) : Host.Outcome State Fault Refusal :=
  effect (ticChan c) s ((s.setTicCh c { s.ticCh c with dead := false }).ticSample c)

/-- TIC_SAMPLE_TIMEOUT (R319): the sample is abandoned and counted, and the channel re-arms at once. -/
def execTicSampleTimeout (c : Nat) (s : State) : Host.Outcome State Fault Refusal :=
  effect (ticChan c) s (if (s.ticCh c).live then (s.ticAbandon c).ticSample c else s)

/-- TIC_GATE_EDGE (R320). -/
def execTicGateEdge (g : Nat) (high : Bool) (s : State) : Host.Outcome State Fault Refusal :=
  effect (ppsOut g) s (s.ticGateEdge g high)

/-- TIC_TB_LOSS (R315). -/
def execTicTbLoss (locked : Bool) (s : State) : Host.Outcome State Fault Refusal :=
  effect true s (s.ticTbLoss locked)

/-- TIC_TB_OK (R315). -/
def execTicTbOk (s : State) : Host.Outcome State Fault Refusal := effect true s s.ticTbOk

end Sys2Proof.Machine
end

