-- ==== Sys2Proof/Machine/ObjOps.lean ====
section
/-! DEFINITION. What the object commands of every type share before their type's outcome: the checks of Table HDL-4 and the
arguments as they are kept (R86, R90). -/

set_option Elab.async false

namespace Sys2Proof.Machine

/-- The checks of a CREATE (Table HDL-4). -/
def createChecks (t : ObjType) (d : CmdDesc) (extRequired absent reserved bad : Bool) : Checks :=
  { absent := absent, badForm := d.badForm extRequired || decide (d.handle ≠ 0) || reserved
    blocks := t.blocks, ready := t.ready, badArg := bad }

/-- The unit of a type, or the TIC channel that a handle names, is absent (R3, R4). -/
def State.objAbsent (s : State) (t : ObjType) (h : Word) : Bool :=
  match t with
  | .search => !s.variant.gnss
  | .mchan => decide (s.variant.tic ≤ hIndex h) && decide (hIndex h < 16)
  | _ => false

/-- The checks of a command that names an object (Table HDL-4). -/
def State.targetChecks (s : State) (t : ObjType) (d : CmdDesc) (changes extRequired absent reserved bad : Bool) : Checks :=
  { absent := s.objAbsent t d.handle || absent
    badForm := d.badForm extRequired || decide (hType d.handle ≠ t.code) || decide (t.indexes ≤ hIndex d.handle) || reserved
    blocks := if changes then t.blocks else [], ready := t.ready, stale := s.stale t d.handle, badArg := bad }

/-- CREATE bytes 12 to 31 of a command, and the extension of its buffer (R86). -/
def CmdDesc.objArgs (d : CmdDesc) : List Byte := (d.argBytes ++ List.replicate 20 0).take 20
def CmdDesc.objExtra (d : CmdDesc) : List Byte := if d.hasExt then (d.ext.take d.extLen).drop 20 else []

/-- An index is free for a CREATE of a type whose index the part chooses (R88). -/
def State.nextIndex (s : State) (t : ObjType) : Option Nat := (s.indexTab t).next? t.indexes

/-- An object appears under an index and a generation that another part chose (R377): the index leaves the free list. -/
def State.addNamed (s : State) (t : ObjType) (i gen : Nat) (o : Obj) : State :=
  let x := s.indexTab t
  { s with
    index := Tab.set s.index t { x with
      gens := Tab.set x.gens i gen
      head := x.head.filter (fun j => j != i) ++ (if x.fresh ≤ i then List.range' x.fresh (i - x.fresh) else [])
      fresh := max x.fresh (i + 1)
      freed := x.freed.filter (fun j => j != i) }
    objs := Tab.set s.objs (t, i) o }

/-! ## The end of an object (R92, R94) -/

/-- The reserved bits of a DESTROY or DISABLE, its NOW, and its LIMIT_US: 0 selects the default, and a value above the maximum acts as
the maximum. -/
def drainReserved (d : CmdDesc) : Bool := decide (2 ≤ d.arg 16 1) || !(d.zero 17 32)
def CmdDesc.drainNow (d : CmdDesc) : Bool := bitAt (d.arg 16 1) 0
def CmdDesc.drainLimit (d : CmdDesc) (dflt most : Nat) : Nat := if d.arg 12 4 = 0 then dflt else min (d.arg 12 4) most

/-- RESULT of a DESTROY or DISABLE: DRAINED, ABORTED, elapsed microseconds. -/
def State.drainBytes (s : State) (x : Drain) (aborted : Nat) : List Byte :=
  leBytes (x.items - aborted) 4 ++ leBytes aborted 4 ++ leBytes (if x.timedOut then x.limitUs else (s.clk.now - x.start) / 1000000) 4

/-- The DESTROY or DISABLE in progress completes: SYS_OBJ_ABORT when items were aborted. -/
def State.drainDone (s : State) (t : ObjType) (i : Nat) (x : Drain) (aborted : Nat) : State :=
  (s.raiseIf (decide (0 < aborted)) Ev.sysObjAbort (s.handleOf t i).toNat aborted).complete x.desc
    (t.code * 256 + (if x.destroy then 4 else 6)) (if aborted = 0 then .ok else .drainedAbort) 0 (s.drainBytes x aborted)

end Sys2Proof.Machine
end

