-- ==== Sys2Proof/Machine/Pll.lean ====
section
/-! DEFINITION. The PLLs, clock outputs and PPS outputs (chapter 12). -/

set_option Elab.async false

namespace Sys2Proof.Machine

/-! ## States (R278 to R281) -/

/-- The ramp resumes. -/
def Ramp.resume (r : Ramp) (now : Nat) : Ramp := if r.suspended then { r with suspended := false, since := now } else r

/-- A PLL in LOCKED switches to BYPASS (R280); PLL-T with the LNK units. -/
def State.pllBypass (s : State) (x cause : Nat) (phErr : Int) : State :=
  if x = 0 then (s.ltxFold.pllToBypass x cause phErr).lnkBypass else s.pllToBypass x cause phErr

/-- PLL_BYPASS_ENTRY: in BYPASS a cause restarts the background loop, and RET_MS with it (R281). -/
def State.pllBypassEntry (s : State) (x cause : Nat) (phErr : Int) : State :=
  let p := s.pllOf x
  match p.st with
  | .locked => s.pllBypass x cause phErr
  | .bypass => s.setPll x { p with bg := .acq, phErr := phErr, bypOsc := p.bypOsc || cause == 3 }
  | _ => s

/-- PLL_FREQ_ACQUIRED: ACQ ends. -/
def State.pllFreqAcquired (s : State) (x : Nat) : State :=
  let p := s.pllOf x
  if p.st = .acq then s.goPll x .phase
  else if p.st = .bypass ∧ p.bg = .acq then s.setPll x { p with bg := .phase }
  else s

/-- What becomes usable when PLL-T locks at a boot (Sequence PWR-1); a candidate with EN = 0 is DISABLED from then on (Table REF-3). -/
def State.pllTReady (s : State) : State :=
  let s1 := ((s.setReady Rdy.tcore true).setReady Rdy.ref true).setReady Rdy.pll true
  let s2 := (List.range 6).foldl (fun s k => s.candEnable (96 + k)) ((s1.setReady Rdy.lnk true).setReady Rdy.tic true)
  if s.variant.gnss then
    ({ s2 with gnss := { s2.gnss with rfEn := true, survey := { run := true, since := s.clk.now } } } : State).setReady Rdy.gnss true
  else s2

/-- PLL_LOCK: the first SEC point after this entry to LOCKED aligns (R285); at that of PLL-T the LTX edges are loaded (R277). -/
def State.pllLock (s : State) (x : Nat) (phErr : Int) : State :=
  let p := s.pllOf x
  if p.st = .phase then
    let s0 := (s.setPll x { p with phErr := phErr, alignDue := true }).goPll x .locked
    let s1 := if x = 0 then s0.ltxLoad else s0
    if x = 0 ∧ !(s.isReady Rdy.tcore) then s1.pllTReady else s1
  else if p.st = .bypass ∧ p.bg = .phase then s.setPll x { p with bg := .locked, phErr := phErr }
  else s

/-- The input of a PLL is present, as far as the part's state shows it (R281). -/
def State.pllInput (s : State) (x : Nat) : Bool :=
  if s.pllSrc x = 2 then s.pll.refclkOk
  else if s.pllSrc x = 1 then
    let c := s.cand (s.ap Fld.pllSrcCand_VAL x)
    decide (c.st = .qualified) || decide (c.st = .selected)
  else true

/-- A PLL returns from BYPASS (R281, R283): ALIGNED clears, its ramp resumes, and PLL-T loads the LTX edges (R277; log entry 114). -/
def State.pllReturn' (s : State) (x : Nat) : State :=
  let s := if x = 3 then s.cycFold else s
  let p := s.pllOf x
  let d := s.clk.now - p.bypAt
  let s1 := s.setPll x { p with
    bg := .off, bypOsc := false, bypPs := p.bypPs + d, aligned := false, ramp := p.ramp.resume s.clk.now }
  let s2 := (s1.goPll x .locked).raise Ev.pllReturn (d / 10 ^ 9)
  if x = 0 then s2.ltxLoad.lnkBypassEnd else s2

/-- PLL_AUTO_RETURN. -/
def State.pllAutoReturn (s : State) (x : Nat) : State :=
  let p := s.pllOf x
  if p.st = .bypass ∧ p.bg = .locked ∧ s.apB Fld.pllCfg_AUTO_RET x ∧ s.pllInput x then s.pllReturn' x else s

/-- REFCLK_LOSS: every PLL in LOCKED switches with cause 3, every bypass runs from the bypass oscillator (R280). -/
def State.refclkLoss (s : State) : State :=
  if !s.pll.refclkOk then s
  else
    let s1 := ({ s with pll := { s.pll with refclkOk := false } } : State).raise Ev.pllRefclkLost
    (List.range 4).foldl (fun s x =>
      let p := s.pllOf x
      if p.st = .locked then s.pllBypass x 3 p.phErr
      else if p.st = .bypass then s.setPll x { p with bypOsc := true, bg := .acq }
      else s) s1

/-- REFCLK_RETURN: the bypass multipliers run from REF_CLK again. -/
def State.refclkReturn (s : State) : State :=
  (List.range 4).foldl (fun s x => s.setPll x { s.pllOf x with bypOsc := false }) { s with pll := { s.pll with refclkOk := true } }

/-! ## Ramps (R282, R283) -/

/-- Φ of every port follows the ramp of PLL-T (Table PLL-3). -/
def State.rampEffects (s : State) (x : Nat) : State :=
  if x ≠ 0 then s
  else (List.range 96).foldl (fun s p => if s.rampOn p then s.lnkPhiLost p else s.lnkPhiValid p) s

/-- A ramp replaced; that of PLL-T has moved the LTX edges of its groups until now, that of PLL-E the cycle counters. -/
def State.setRamp (s : State) (x : Nat) (r : Ramp) : State :=
  let s := if x = 0 then s.ltxFold else if x = 3 then s.cycFold else s
  s.setPll x { s.pllOf x with ramp := r }

/-- RAMP_SEGMENT_END: the next segment, or END (R282). -/
def State.rampSegmentEnd (s : State) (x : Nat) : State :=
  let r := (s.pllOf x).ramp
  match r.now? with
  | none => s
  | some g =>
    let e := if g.hold || r.held then r.x else r.x + g.slope * ((g.durMs - r.doneMs : Nat) : Int)
    let e' := clampInt (rampRange x).1 (rampRange x).2 e
    let r1 : Ramp := { r with x := e', doneMs := 0, since := s.clk.now, held := false }
    if r.seg + 1 < r.segs.length then (s.setRamp x { r1 with seg := r.seg + 1 }).rampEffects x
    else if r.endAct = 1 then (s.setRamp x { r1 with seg := 0 }).rampEffects x
    else ((s.setRamp x { r1 with run := false, x := if r.endAct = 2 then 0 else e' }).rampEffects x).raise Ev.pllRampDone

/-- RAMP_CLAMP_REACHED: x is held at its range for the rest of the segment; PLL_RAMP_CLAMP once per run. -/
def State.rampClampReached (s : State) (x : Nat) : State :=
  let r := (s.pllOf x).ramp
  match r.now? with
  | none => s
  | some g =>
    if g.hold ∨ g.slope = 0 ∨ r.held then s
    else
      let v := if g.slope < 0 then (rampRange x).1 else (rampRange x).2
      let r1 : Ramp := { r with
        x := v, held := true, clamped := true
        doneMs := min g.durMs (r.doneMs + (s.clk.now - r.since) / 10 ^ 9), since := s.clk.now }
      (s.setRamp x r1).raiseIf (!r.clamped) Ev.pllRampClamp

/-- The largest |x| that a profile reaches before clamping, from x. -/
def rampPeak : List RampSeg → Int → Nat
  | [], x => x.natAbs
  | g :: l, x => max x.natAbs (rampPeak l (if g.hold then x else x + g.slope * (g.durMs : Int)))

/-- Segment `k` of a PLL_RAMP_LOAD buffer. -/
def CmdDesc.rampSeg (d : CmdDesc) (k : Nat) : RampSeg :=
  { slope := signed 32 (d.buf (8 + 8 * k) 4), durMs := d.buf (12 + 8 * k) 2, hold := bitAt (d.buf (14 + 8 * k) 1) 0 }

/-- Reserved bytes and bits of a PLL_RAMP_LOAD buffer are set. -/
def CmdDesc.rampReserved (d : CmdDesc) : Bool :=
  d.buf 3 1 != 0 || decide (4096 ≤ d.buf 4 2) || d.buf 6 2 != 0 ||
    (List.range (min 16 (d.buf 1 1))).any (fun k => decide (1 < d.buf (14 + 8 * k) 1) || d.buf (15 + 8 * k) 1 != 0)

/-- PLL_RAMP_LOAD (R289). -/
def State.pllRampLoad (s : State) (d : CmdDesc) : State :=
  let x := d.buf 0 1
  let n := d.buf 1 1
  let gs := d.buf 4 2
  let segs := (List.range n).map d.rampSeg
  s.runCmd d 0xBA01 { unitChecks d true .pll true [Rdy.pll] with
      absent := x == 0 && (List.range 12).any (fun g => bitAt gs g && decide (s.variant.groups ≤ g))
      badForm := d.badForm true || decide (d.handle ≠ 0) || d.rampReserved
      badArg := decide (3 < x) || n == 0 || decide (16 < n) || decide (2 < d.buf 2 1) || decide (d.extLen < 8 + 8 * n) ||
        (x != 0 && gs != 0) || segs.any (fun g => g.durMs == 0) } (fun s =>
    let r := (s.pllOf x).ramp
    if r.run then s.complete d 0xBA01 .busy
    else
      let v : Ramp := { segs := segs, endAct := d.buf 2 1, groups := gs, x := r.x }
      ((s.setRamp x v).rampEffects x).complete d 0xBA01 .ok 0 (leBytes (rampPeak segs 0) 8))

/-- PLL_RAMP_CTRL (R283, R289): START begins at x = 0, and only PLL_ALIGN aligns PLL-A or PLL-B after it (Table PLL-3). -/
def State.rampCtrl (s : State) (d : CmdDesc) : State :=
  let x := d.arg 12 1
  let act := d.arg 13 1
  s.runCmd d 0xBA02 { unitChecks d false .pll true [Rdy.pll] with
      badForm := d.badForm false || decide (d.handle ≠ 0) || !(d.zero 14 32)
      badArg := decide (3 < x) || decide (2 < act) || (act == 0 && (s.pllOf x).ramp.segs.isEmpty) } (fun s =>
    let r := (s.pllOf x).ramp
    if act = 0 ∧ (s.pllOf x).st ≠ .locked then s.complete d 0xBA02 .notReady
    else
      let v := s.rampX x
      let r' : Ramp :=
        if act = 0 then { r with run := true, suspended := false, seg := 0, x := 0, doneMs := 0, since := s.clk.now, held := false, clamped := false }
        else { r with run := false, suspended := false, x := if act = 1 then v else 0 }
      let s0 := s.setRamp x r'
      let s1 := s0.setPll x { s0.pllOf x with
        aligned := (s.pllOf x).aligned && act != 0, alignDue := (s.pllOf x).alignDue && (act != 0 || x == 0) }
      let s2 : State := if act = 0 then { s1 with pll := { s1.pll with rampPll := x } } else s1
      let s3 := s2.rampEffects x
      s3.complete d 0xBA02 .ok 0 (leBytes (unsigned 64 (s3.rampX x)) 8))

/-! ## Clock outputs (R284, R285) -/

/-- The frequency of CLKOUT `k` is a whole number of Hz and its PLL has SRC 0. -/
def State.outAlignable (s : State) (k : Nat) : Bool :=
  let x := 1 + s.ap Fld.pllOutCfg_SRC_PLL k
  let den := max 1 (s.ap Fld.pllRatioDen_DEN x)
  let num := 156250000 * (s.ap Fld.pllRatioN_N x * den + s.ap Fld.pllRatioNum_NUM x)
  s.pllSrc x == 0 && num % (den * max 4 (s.ap Fld.pllOutCfg_DIV k)) == 0

/-- The outputs of a PLL. -/
def State.outsOf (s : State) (x : Nat) : List Nat := (List.range 6).filter (fun k => 1 + s.ap Fld.pllOutCfg_SRC_PLL k == x)

/-- The alignment of PLL-A or PLL-B at a SEC point (R285): the state after it, and the mask of the outputs aligned. -/
def State.pllAlignNow (s : State) (x : Nat) : State × Nat :=
  let outs := s.outsOf x
  let want := outs.filter (fun k => s.apB Fld.pllOutCfg_ALIGN k)
  let good := want.filter (fun k => s.outAlignable k)
  let bad := want.filter (fun k => !(s.outAlignable k))
  if (s.pllOf x).st ≠ .locked then (s, 0)
  else
    let s1 : State := { s with pll := { s.pll with stopped := s.pll.stopped.filter (fun k => !(outs.contains k)) } }
    let s2 := s1.setPll x { s1.pllOf x with aligned := decide (good ≠ []) && decide (bad = []) }
    let s3 := s2.raiseIf (decide (good ≠ [])) Ev.pllAlignDone
    (bad.foldl (fun s k => s.raise Ev.pllAlignBad k) s3, bitMap (fun k => good.contains k) 6)

/-- PLL_ALIGN waits for the SEC point (R289). -/
def State.pllAlign (s : State) (d : CmdDesc) : State :=
  let x := d.arg 12 1
  s.runCmd d 0xBA03 { unitChecks d false .pll true [Rdy.pll] with
      badForm := d.badForm false || decide (d.handle ≠ 0) || !(d.zero 13 32)
      badArg := !(x == 1 || x == 2) || s.pllSrc x != 0 } (fun s =>
    { s with pll := { s.pll with aligns := s.pll.aligns ++ [d] } })

/-- The alignments of a SEC point: first entries to LOCKED, then the waiting PLL_ALIGN commands; the largest edge move is
measured and comes with no operand: a free value. -/
def State.pllSec (s : State) : State :=
  let s1 := [1, 2].foldl (fun s x =>
    if (s.pllOf x).alignDue then
      let t := (s.pllAlignNow x).1
      t.setPll x { t.pllOf x with alignDue := false }
    else s) s
  let s2 : State := { s1 with pll := { s1.pll with aligns := [] } }
  s1.pll.aligns.foldl (fun s d =>
    let r := s.pllAlignNow (d.arg 12 1)
    ({ r.1 with free := r.1.free + 1 } : State).complete d 0xBA03 .ok 0
      (leBytes r.2 4 ++ leBytes (Config.freeTime r.1.free).toNat 4)) s2

/-- A step or set of the cores clears ALIGNED (R285). -/
def State.pllStepped (s : State) : State :=
  [1, 2].foldl (fun s x => s.setPll x { s.pllOf x with aligned := false }) s

/-- PLL_RETURN (R281, R289). -/
def State.pllReturnCmd (s : State) (d : CmdDesc) : State :=
  let x := d.arg 12 1
  s.runCmd d 0xBA04 { unitChecks d false .pll true [Rdy.pll] with
      badForm := d.badForm false || decide (d.handle ≠ 0) || !(d.zero 13 32)
      badArg := decide (3 < x) } (fun s =>
    let p := s.pllOf x
    if p.st = .bypass ∧ p.bg = .locked then (s.pllReturn' x).complete d 0xBA04 .ok
    else s.complete d 0xBA04 .notReady)

/-! ## Commit (R275, R284) -/

/-- The frequency of REF candidate `c` in Hz, or none for an ID outside 0 to 99. -/
def State.candHz (s : State) (c : Nat) : Option Nat :=
  if c < 96 then some 156250000
  else if c < 100 then some (if s.ap Fld.refInCfg_FREQ c = 1 then 25000000 else if s.ap Fld.refInCfg_FREQ c = 2 then 100000000 else 10000000)
  else none

/-- The written settings of PLL-A or PLL-B are refused at a commit (R275). -/
def State.pllCfgBad (s : State) (x : Nat) : Bool :=
  let src := min 2 (s.wr Fld.pllCfg_SRC x)
  let n := s.wr Fld.pllRatioN_N x
  let num := s.wr Fld.pllRatioNum_NUM x
  let den := max 1 (s.wr Fld.pllRatioDen_DEN x)
  match (if src = 0 then some 156250000 else if src = 1 then s.candHz (s.wr Fld.pllSrcCand_VAL x) else some 100000000) with
  | none => true
  | some f =>
    let dco := f * (n * den + num)
    decide (n < 8) || decide (den ≤ num) || decide (dco < 2400000000 * den) || decide (3200000000 * den < dco)

/-- The words of a PLL that R275 names. -/
def pllWords (x : Nat) : List (RegKey × Word) :=
  [(⟨.pllCfg, x, 0⟩, maskOf 0 2), (⟨.pllRatioN, x, 0⟩, 0xFFFFFFFF), (⟨.pllRatioNum, x, 0⟩, 0xFFFFFFFF),
    (⟨.pllRatioDen, x, 0⟩, 0xFFFFFFFF), (⟨.pllSrcCand, x, 0⟩, 0xFFFFFFFF)]

/-- Before the commit of the words `ks`: refused settings of PLL-A and PLL-B keep the applied values. -/
def State.pllCommitPre (s : State) (ks : List RegKey) : State :=
  [1, 2].foldl (fun s x =>
    if ks.any (fun k => (pllWords x).any (fun e => decide (e.1 = k))) && s.pllCfgBad x then
      ((pllWords x).foldl (fun s e => s.revertBits e.1 e.2) s).raise Ev.pllCfgBad
    else s) s

/-- The ratio and input that a PLL runs on. -/
def State.pllSetting (s : State) (x : Nat) : List Nat :=
  [s.pllSrc x, s.ap Fld.pllRatioN_N x, s.ap Fld.pllRatioNum_NUM x, max 1 (s.ap Fld.pllRatioDen_DEN x),
    if s.pllSrc x = 1 then s.ap Fld.pllSrcCand_VAL x else 0]

/-- What a PLL that stops or relocks loses: its alignment, its background loop and its ramp. -/
def State.pllClear (s : State) (x : Nat) : State :=
  let s := if x = 0 then s.ltxFold else if x = 3 then s.cycFold else s
  let p := s.pllOf x
  s.setPll x { p with
    aligned := false, alignDue := false, bg := .off, bypOsc := false
    bypPs := p.bypPs + (if p.st = .bypass then s.clk.now - p.bypAt else 0)
    ramp := { p.ramp with run := false, suspended := false, x := 0 } }

/-- A PLL stops (EN = 0, its domain leaves on). -/
def State.pllOff (s : State) (x : Nat) : State := (s.pllClear x).goPll x .off

/-- A PLL begins to lock, or relocks: its ramp stops with x = 0 (R275, R283). -/
def State.pllStart (s : State) (x : Nat) : State := (s.pllClear x).goPll x .acq

/-- PLL-A and PLL-B after a commit from `old`. -/
def State.pllCommitPost (s old : State) : State :=
  let s1 := [1, 2].foldl (fun s x =>
    if !(s.apB Fld.pllCfg_EN x) || !(s.domOn 16) then (if (s.pllOf x).st = .off then s else s.pllOff x)
    else if (s.pllOf x).st = .off ∨ s.pllSetting x ≠ old.pllSetting x then s.pllStart x
    else s) s
  let chg := (List.range 6).filter (fun k =>
    s.ap Fld.pllOutCfg_SRC_PLL k != old.ap Fld.pllOutCfg_SRC_PLL k || s.ap Fld.pllOutCfg_DIV k != old.ap Fld.pllOutCfg_DIV k)
  { s1 with pll := { s1.pll with stopped := chg.foldl (fun l k => insertAsc k l) s1.pll.stopped } }

/-! ## PPS outputs (R266, R286, R287) -/

/-- A PPS output. -/
def State.ppsOut (s : State) (j : Nat) : PpsOut := Tab.get {} s.pll.pps j

/-- A PPS output replaced. -/
def State.setPps (s : State) (j : Nat) (x : PpsOut) : State := { s with pll := { s.pll with pps := Tab.set s.pll.pps j x } }

/-- The squelch condition of an output holds (R266). -/
def State.squelchCond (s : State) (j : Nat) : Bool :=
  let p := if j = 0 then s.ap Fld.refSquelch_PPS0 else s.ap Fld.refSquelch_PPS1
  (bitAt p 0 && s.ref.budgetOver) || (bitAt p 1 && s.unlockedTime)

/-- A second boundary: a squelched output resumes once its condition has cleared. -/
def State.ppsSec (s : State) : State :=
  [0, 1].foldl (fun s j => s.setPps j { s.ppsOut j with squelched := s.squelchCond j }) s

/-- The PPS outputs run: no reset holds the part, or KEEP_TIME leaves them running (R404). -/
def State.ppsRun (s : State) : Bool := !s.pwr.inReset || s.pwr.keepTime

/-- The delay of an output against the second boundary, in ps: DLY_NS and DLY_PS, of which more than 999 acts as 999. -/
def State.ppsDelay (s : State) (j : Nat) : Int :=
  1000 * signed 32 (s.ap Fld.pllPpsDly_DLY_NS j) + (min 999 (s.ap Fld.pllPpsCfg_DLY_PS j) : Nat)

/-- The width of a pulse in µs: 0 acts as 1, more than 500,000 as 500,000. -/
def State.ppsWidth (s : State) (j : Nat) : Nat := min 500000 (max 1 (s.ap Fld.pllPpsCfg_WIDTH_US j))

/-- The due instant that the active core has reached: the second boundary nearest to it, shifted by the delay. -/
def State.ppsDue (s : State) (j : Nat) : Int :=
  let u : Int := 1000000000000 * unitsPerPs
  let d := s.ppsDelay j * unitsPerPs
  ((s.tod : Int) - d + u / 2) / u * u + d

/-- A pulse starts with its rising edge at `edge` of the active core. -/
def State.ppsRise (s : State) (j : Nat) (edge : Int) : State :=
  s.setPps j { s.ppsOut j with high := true, due := false, edge := edge, widthUs := s.ppsWidth j }

/-- PPS_OUT_PULSE: one due less than 1 µs after the end of the last pulse is issued 1 µs after that end, and one due while a pulse
lasts follows it so (R287). -/
def State.ppsOutPulse (s : State) (j : Nat) : State :=
  let x := s.ppsOut j
  if !s.ppsRun || !(s.apB Fld.pllPpsCfg_EN j) then s
  else if x.squelched || s.squelchCond j then s.setPps j { x with squelched := true }
  else if x.high then (s.bump Fld.pllPpsLate_VAL j).setPps j { x with due := true }
  else match x.ended with
    | some t =>
      if s.clk.now < t + 10 ^ 6 then
        (s.bump Fld.pllPpsLate_VAL j).ppsRise j ((s.tod : Int) + ((t + 10 ^ 6 - s.clk.now) * unitsPerPs : Nat))
      else s.ppsRise j (s.ppsDue j)
    | none => s.ppsRise j (s.ppsDue j)

/-- PPS_PULSE_END; a pulse that became due meanwhile follows. -/
def State.ppsPulseEnd (s : State) (j : Nat) : State :=
  let x := s.ppsOut j
  if !s.ppsRun || !x.high then s
  else
    let t := s.setPps j { x with high := false, due := false, ended := some s.clk.now }
    if x.due then t.ppsRise j ((s.tod : Int) + (10 ^ 6 * unitsPerPs : Nat)) else t

/-! ## Meanings -/

/-- PLL_FREQ_ACQUIRED (R278). -/
def execPllFreqAcquired (pll : Nat) (s : State) : Host.Outcome State Fault Refusal :=
  effect (pllNo pll) s (s.pllFreqAcquired pll)

/-- PLL_LOCK (R278, R279, R281). -/
def execPllLock (pll : Nat) (phErr : Int) (s : State) : Host.Outcome State Fault Refusal :=
  effect (pllNo pll) s (s.pllLock pll phErr)

/-- PLL_BYPASS_ENTRY (R280, R281). -/
def execPllBypassEntry (pll cause : Nat) (phErr : Int) (s : State) : Host.Outcome State Fault Refusal :=
  effect (pllNo pll && (decide (cause = 1) || decide (cause = 2) || decide (cause = 4))) s (s.pllBypassEntry pll cause phErr)

/-- REFCLK_LOSS (R280). -/
def execRefclkLoss (s : State) : Host.Outcome State Fault Refusal :=
  effect true s (s.refclkLoss)

/-- REFCLK_RETURN (R280). -/
def execRefclkReturn (s : State) : Host.Outcome State Fault Refusal :=
  effect true s (s.refclkReturn)

/-- PLL_AUTO_RETURN (R281). -/
def execPllAutoReturn (pll : Nat) (s : State) : Host.Outcome State Fault Refusal :=
  effect (pllNo pll) s (s.pllAutoReturn pll)

/-- PLL_RETURN (R281, R289). -/
def execPllReturn (d : CmdDesc) (s : State) : Host.Outcome State Fault Refusal :=
  effect (d.wf) s (s.pllReturnCmd d)

/-- PLL_RAMP_LOAD (R289). -/
def execPllRampLoad (d : CmdDesc) (s : State) : Host.Outcome State Fault Refusal :=
  effect (d.wf) s (s.pllRampLoad d)

/-- RAMP_START (R282, R283, R289). -/
def execRampStart (d : CmdDesc) (s : State) : Host.Outcome State Fault Refusal :=
  effect (d.wf && decide (d.argAct 13 ≠ 1) && decide (d.argAct 13 ≠ 2)) s (s.rampCtrl d)

/-- RAMP_STOP_HOLD (R283, R289). -/
def execRampStopHold (d : CmdDesc) (s : State) : Host.Outcome State Fault Refusal :=
  effect (d.wf && decide (d.argAct 13 = 1)) s (s.rampCtrl d)

/-- RAMP_STOP_ZERO (R283, R289). -/
def execRampStopZero (d : CmdDesc) (s : State) : Host.Outcome State Fault Refusal :=
  effect (d.wf && decide (d.argAct 13 = 2)) s (s.rampCtrl d)

/-- RAMP_SEGMENT_END (R282). -/
def execRampSegmentEnd (pll : Nat) (s : State) : Host.Outcome State Fault Refusal :=
  effect (pllNo pll) s (s.rampSegmentEnd pll)

/-- RAMP_CLAMP_REACHED (R282). -/
def execRampClampReached (pll : Nat) (s : State) : Host.Outcome State Fault Refusal :=
  effect (pllNo pll) s (s.rampClampReached pll)

/-- PLL_ALIGN (R285, R289). -/
def execPllAlign (d : CmdDesc) (s : State) : Host.Outcome State Fault Refusal :=
  effect (d.wf) s (s.pllAlign d)

/-- PPS_OUT_PULSE (R286, R287). -/
def execPpsOutPulse (out : Nat) (s : State) : Host.Outcome State Fault Refusal :=
  effectInReset (ppsOut out) s (s.ppsOutPulse out)

/-- PPS_PULSE_END (R286, R287). -/
def execPpsPulseEnd (out : Nat) (s : State) : Host.Outcome State Fault Refusal :=
  effectInReset (ppsOut out) s (s.ppsPulseEnd out)

end Sys2Proof.Machine
end

