-- ==== Sys2Proof/Machine/Gnss.lean ====
section
/-! DEFINITION. The satellite baseband (chapter 13): sample checks, search jobs and sections, channels, epochs, bursts, survey. The
timing solution, which gives REF its sample, stands in Sol.lean. -/

set_option Elab.async false

namespace Sys2Proof.Machine

/-! ## Channels (R298, R299) -/

/-- The baseband runs: present and its domain on. -/
def State.gnssOn (s : State) : Bool := s.variant.gnss && s.domOn 14 && !(s.halted (.block .gnss))

/-- A tracking channel. -/
def State.gnssCh (s : State) (c : Nat) : GnssCh := Tab.get {} s.gnss.chans c

/-- A tracking channel replaced. -/
def State.setGnssCh (s : State) (c : Nat) (x : GnssCh) : State := { s with gnss := { s.gnss with chans := Tab.set s.gnss.chans c x } }

/-- The code of a channel state (Table GNSS-3). -/
def GnssChSt.code : GnssChSt → Nat
  | .idle => 0 | .pullIn => 1 | .track => 2 | .data => 3 | .lost => 4

/-- TRACK or DATA. -/
def GnssCh.tracking (x : GnssCh) : Bool := decide (x.st = .track) || decide (x.st = .data)

/-- The largest SVID of a system. -/
def svMax (sys : Nat) : Nat := if sys = 0 then 32 else 36

/-- The satellite that a channel is bound to: system and SVID. -/
def State.gnssSat (s : State) (c : Nat) : Option (Nat × Nat) :=
  let v := s.ap Fld.gnssChCfg_SVID c
  let y := s.ap Fld.gnssChCfg_SYSTEM c
  if s.apB Fld.gnssChCfg_EN c && decide (1 ≤ v) && decide (v ≤ svMax y) && !(s.halted (.gnssCh c)) then some (y, v) else none

/-- The channels of a band. -/
def bandChans (b : Nat) : List Nat := (List.range 32).map (fun k => 32 * b + k)

/-- A channel of band `b` other than `c` is bound to the satellite. -/
def State.gnssHeld (s : State) (b : Nat) (sat : Nat × Nat) (c : Option Nat) : Bool :=
  (bandChans b).any (fun k => decide (some k ≠ c) && decide (s.gnssSat k = some sat))

/-- PAIRED: the same satellite is tracked on the other band. -/
def State.gnssPaired (s : State) (c : Nat) : Bool :=
  (s.gnssSat c).isSome && (s.gnssCh c).tracking &&
    (bandChans (1 - c / 32)).any (fun k => decide (s.gnssSat k = s.gnssSat c) && (s.gnssCh k).tracking)

/-- A channel in a new state: GNSS_CH_STATE is raised, an entry to LOST is counted (R299); TX_VALID is known only in TRACK and
DATA. -/
def State.goGnssCh (s : State) (c : Nat) (st : GnssChSt) : State :=
  let x := s.gnssCh c
  if x.st = st then s
  else
    let keep := decide (st = .track) || decide (st = .data)
    let y : GnssCh := if keep then { x with st := st } else { x with st := st, txValid := false, slip := false, meas := none, cn0 := 0 }
    let s1 := (s.setGnssCh c y).raise Ev.gnssChState c st.code
    if st = .lost then s1.bump Fld.gnssLossCnt_VAL else s1

/-- A channel that is bound and runs enters LOST. -/
def State.gnssLose (s : State) (c : Nat) : State :=
  if (s.gnssCh c).st = .idle then s else s.goGnssCh c .lost

/-- A channel follows its binding: unbound or disabled it is IDLE, newly bound it pulls in. -/
def State.gnssRebind (s old : State) (c : Nat) : State :=
  if !s.gnssOn then s
  else if s.gnssSat c = old.gnssSat c then s
  else if (s.gnssSat c).isNone then s.goGnssCh c .idle
  else (s.setGnssCh c { s.gnssCh c with st := .idle, txValid := false, slip := false, meas := none, cn0 := 0 }).goGnssCh c .pullIn

/-- A write of the bits `m` of GNSS_CH_CFG (R298); a write over an engine path is the firmware's. -/
def State.gnssChWrite (s : State) (p : Path) (c : Nat) (v m : Word) : State :=
  let t := s.storeReg ⟨.gnssChCfg, c, 0⟩ v m
  let fw := match p with
    | .eng _ => true
    | _ => false
  let dup := (t.gnssSat c).any (fun x => s.gnssHeld (c / 32) x (some c))
  if fw && s.apB Fld.gnssChCfg_MANUAL c then s
  else if dup then (if fw then s.bump Fld.gnssDetDrop_VAL else s.raise Ev.gnssCfgBad)
  else t.gnssRebind s c

/-- The firmware binds a free channel (R296). -/
def State.gnssBind (s : State) (c sys svid : Nat) : State :=
  let t := ((s.putBoth Fld.gnssChCfg_SVID svid c).putBoth Fld.gnssChCfg_SYSTEM sys c).putBoth Fld.gnssChCfg_EN 1 c
  t.gnssRebind s c

/-- A band has samples to track: the input pads are not held, the sample clock is within limits and the band is not faulty (R292,
R398). -/
def State.gnssSignal (s : State) (c : Nat) : Bool := s.padIn 12 && s.gnss.clkOk && !(if c < 32 then s.gnss.fault1 else s.gnss.fault5)

/-- GNSS_CH_LOCK. -/
def State.gnssChLock (s : State) (c : Nat) (assisted : Bool) : State :=
  if (s.gnssCh c).st = .pullIn ∧ s.gnssSignal c then (s.setGnssCh c { s.gnssCh c with txValid := assisted }).goGnssCh c .track else s

/-- GNSS_CH_PULLIN_TIMEOUT. -/
def State.gnssChPullinTimeout (s : State) (c : Nat) : State := if (s.gnssCh c).st = .pullIn then s.goGnssCh c .lost else s

/-- GNSS_CH_DATA_SYNC. -/
def State.gnssChDataSync (s : State) (c : Nat) : State :=
  if (s.gnssCh c).st = .track then (s.setGnssCh c { s.gnssCh c with txValid := true }).goGnssCh c .data else s

/-- GNSS_CH_LOSS. -/
def State.gnssChLoss (s : State) (c : Nat) : State := if (s.gnssCh c).tracking then s.goGnssCh c .lost else s

/-- GNSS_CH_RELEASE: an AUTO_TRACK channel is unbound, a MANUAL channel stays in LOST. -/
def State.gnssChRelease (s : State) (c : Nat) : State :=
  if (s.gnssCh c).st ≠ .lost ∨ s.apB Fld.gnssChCfg_MANUAL c then s else (s.putBoth Fld.gnssChCfg_EN 0 c).goGnssCh c .idle

/-- GNSS_CH_REGAIN. -/
def State.gnssChRegain (s : State) (c : Nat) : State := if (s.gnssCh c).st = .lost ∧ s.gnssSignal c then s.goGnssCh c .pullIn else s

/-! ## Sample checks (R292) -/

/-- The solution is invalid: GNSS_SOLUTION at a change, candidate 102 fails with cause 6, the survey pauses (R305, R306). -/
def State.gnssInvalid (s : State) : State :=
  let g := s.gnss
  let s1 : State := { s with gnss := { g with
    valid := false, validRun := 0, invalidAt := if g.valid then s.clk.now else g.invalidAt
    survey := { g.survey with pauseAt := some (g.survey.pauseAt.getD s.clk.now) } } }
  (s1.raiseIf g.valid Ev.gnssSolution 0 g.used).candFail 102 6

/-- GNSS_CLOCK_FAULT. -/
def State.gnssClockFault (s : State) (ppm : Int) : State :=
  if !s.gnssOn then s
  else
    let s1 : State := { s with gnss := { s.gnss with clkOk := false, clkPpm := ppm } }
    let s2 := s1.raiseIf s.gnss.clkOk Ev.gnssNoclk
    ((List.range 64).foldl (fun s c => s.gnssLose c) s2).gnssInvalid

/-- GNSS_CLOCK_OK: within ±50 ppm (`ppm` in 0.1 ppm). -/
def State.gnssClockOk (s : State) (ppm : Int) : State :=
  if !s.gnssOn || !s.padIn 12 || decide (500 < ppm.natAbs) then s else { s with gnss := { s.gnss with clkOk := true, clkPpm := ppm } }

/-- A band is faulty in this second. -/
def bandFaulty (mag : Nat) (stuck : Bool) : Bool := stuck || decide (mag < 10) || decide (60 < mag)

/-- A faulty second of a band: counted; the fault is raised as it begins, and the band's channels are LOST. -/
def State.gnssBandFault (s : State) (b : Nat) (fault was : Bool) : State :=
  if !fault then s
  else (bandChans b).foldl (fun s c => s.gnssLose c) ((s.bump Fld.gnssSampleErr_VAL).raiseIf (!was) Ev.gnssSampleFault b)

/-- The value of a 2-bit sample under format FMT (Table GNSS-1). -/
def sampleVal (fmt code : Nat) : Int := (if fmt = 0 then [1, 3, -1, -3] else [-3, -1, 1, 3]).getD code 0

/-- MAG: the share, in whole percent, of the samples with magnitude 3, from the number of samples with each code. -/
def sampleMag (fmt : Nat) (codes : List Nat) : Nat :=
  100 * ((List.range 4).map (fun k => if (sampleVal fmt k).natAbs = 3 then codes.getD k 0 else 0)).sum / max 1 codes.sum

/-- GNSS_SAMPLE_CHECK: the samples of a second, I and Q of each band by code, and whether a bit of a band has not changed for 1 ms. -/
def State.gnssSampleCheck (s : State) (codes1 codes5 : List Nat) (stuck1 stuck5 : Bool) : State :=
  if !s.gnssOn || !s.padIn 12 then s
  else
    let m1 := sampleMag (s.ap Fld.gnssFeCfg_L1_FMT) codes1
    let m5 := sampleMag (s.ap Fld.gnssFeCfg_L5_FMT) codes5
    let f1 := bandFaulty m1 stuck1
    let f5 := bandFaulty m5 stuck5
    let s1 : State := { s with gnss := { s.gnss with mag1 := m1, mag5 := m5, fault1 := f1, fault5 := f5 } }
    (s1.gnssBandFault 0 f1 s.gnss.fault1).gnssBandFault 1 f5 s.gnss.fault5

/-! ## Search jobs (R293 to R296) -/

/-- Code bins, Doppler bin in Hz and coherent period in ms of a band and system (Table GNSS-2). -/
def codeBins (b y : Nat) : Nat := if b = 1 then 20460 else if y = 0 then 2046 else 16368
def dopplerBin (b y : Nat) : Nat := if b = 0 ∧ y = 1 then 125 else 500
def cohMs (b y : Nat) : Nat := if b = 0 ∧ y = 1 then 4 else 1

/-- Cells of an assisted grid for one satellite (R295). -/
def assistCells (b : Nat) : Nat := if b = 0 then 9 else 27

/-- ELEV_MASK as it acts. -/
def State.elevMask (s : State) : Nat := min 90 (s.ap Fld.gnssSolCfg_ELEV_MASK)

/-- ASSIST_OK: time is known to 100 ns (R295). -/
def State.assistOk (s : State) : Bool :=
  match s.tcore.tstate with
  | .locked => true
  | .holdover => s.ref.ep.any (fun e => decide (e.e ≤ 100 * 1000 * 172800))
  | _ => false

/-- POS_MODE; 3 acts as 0. -/
def State.posMode (s : State) : Nat := s.ap Fld.gnssPosCfg_POS_MODE % 3

/-- A position is known: held, or from a solution of the last 24 h (R295). -/
def State.posKnown (s : State) : Bool := s.posMode == 2 || s.gnss.posSec.any (fun t => decide (secOf s.tod ≤ t + 86400))

/-- The policy keeps a satellite out of solutions and jobs (SV_EXCL, Table ENG-3); a job that names it searches it (log entry 119). -/
def State.svExcl (s : State) (y v : Nat) : Bool := bitAt (s.polEntry 5 y) (v - 1)

/-- The satellites that an assisted grid of a band and system covers; SVID 0 for all. -/
def State.assistSats (s : State) (b y v : Nat) : List GnssSat :=
  s.gnss.sol.sky.filter (fun x => x.system == y && (if v = 0 then !(s.svExcl y x.svid) else x.svid == v) && decide (x.ephMin ≤ 240) && decide (s.elevMask < x.elev) &&
    (b == 0 || x.l5))

/-- The arguments of a search job (Table HDL-3): band, system, SVID, ASSIST, Doppler centre and span, DWELL_MS. -/
structure SearchArgs where
  band : Nat
  sys : Nat
  svid : Nat
  assist : Bool
  centre : Int
  span : Nat
  dwell : Nat
  deriving DecidableEq, Repr

/-- CREATE bytes 12 to 31 as search arguments. -/
def searchArgsOf (l : List Byte) : SearchArgs :=
  { band := byteAt l 0, sys := byteAt l 1, svid := byteAt l 2, assist := bitAt (byteAt l 3) 0
    centre := signed 32 (leAt l 4 4), span := leAt l 8 2, dwell := leAt l 10 2 }

/-- A reserved byte or bit of a search CREATE is set. -/
def searchReserved (d : CmdDesc) : Bool := decide (1 < byteAt d.argBytes 3) || !(d.zero 24 32)

/-- Arguments that R293 refuses. -/
def SearchArgs.bad (a : SearchArgs) : Bool :=
  decide (1 < a.band) || decide (1 < a.sys) || decide (svMax a.sys < a.svid) || decide (50000 < a.centre.natAbs) ||
    decide (20000 < a.span) || a.dwell == 0 || decide (1000 < a.dwell) || a.dwell % cohMs a.band a.sys != 0

/-- The grid of a job created or restarted now: whether it is assisted, and its cells. -/
def State.searchGrid (s : State) (a : SearchArgs) : Bool × Nat :=
  let l := s.assistSats a.band a.sys a.svid
  if a.assist && s.assistOk && s.posKnown && decide (l ≠ []) then (true, l.length * assistCells a.band)
  else
    let bin := dopplerBin a.band a.sys
    (false, codeBins a.band a.sys * ((a.span + bin - 1) / bin + 1) * (if a.svid = 0 then ((List.range (svMax a.sys)).filter (fun v => !(s.svExcl a.sys (v + 1)))).length else 1))

/-- A search job, and the job replaced. -/
def State.searchJob (s : State) (j : Nat) : SearchJob := Tab.get { order := 0 } s.gnss.jobs j
def State.setSearchJob (s : State) (j : Nat) (x : SearchJob) : State := { s with gnss := { s.gnss with jobs := Tab.set s.gnss.jobs j x } }

/-- A job begins at the beginning of its grid. -/
def State.searchBegin (s : State) (j order : Nat) : State :=
  let g := s.searchGrid (searchArgsOf (s.obj .search j).args)
  s.setSearchJob j { order := order, assisted := g.1, cells := g.2 }

/-- A job appears under index `j`. -/
def State.searchMake (s : State) (j : Nat) (args : List Byte) : State :=
  let n := s.gnss.nextOrder
  ({ s.addObj .search j { args := args } with gnss := { s.gnss with nextOrder := n + 1 } } : State).searchBegin j n

/-- The jobs in the order of R294. -/
def State.searchOrder (s : State) : List Nat :=
  let key := fun (j : Nat) => (if (s.searchJob j).assisted then 0 else 2 ^ 64) + (s.searchJob j).order
  ((s.inUse .search).foldl (fun l j => (l.takeWhile (fun k => decide (key k ≤ key j))) ++ j :: l.dropWhile (fun k => decide (key k ≤ key j))) [])

/-- The sections that a dwell may use. -/
def State.freeSects (s : State) : List Nat :=
  (List.range 24).filter (fun n => !(s.gnss.out.contains n) && !(s.gnss.outWait.any (fun e => e.1 == n)) &&
    !(s.gnss.jobs.any (fun e => e.2.sects.contains n)))

/-- A job takes sections for a dwell. -/
def State.searchDeal (s : State) (j : Nat) : State :=
  let x := s.searchJob j
  if (s.obj .search j).phase ≠ .active ∨ x.sects ≠ [] then s
  else s.setSearchJob j { x with sects := s.freeSects.take ((x.cells - x.searched + 511) / 512) }

/-- GNSS_DWELL_START: no dwell runs between bursts (R308). -/
def State.gnssDwellStart (s : State) : State :=
  if !s.gnssOn || (s.gnss.bursting && !s.gnss.inBurst) then s
  else s.searchOrder.foldl (fun s j => s.searchDeal j) s

/-- The four strongest detections. -/
def topDets : List GnssDet → GnssDet → List GnssDet
  | [], d => [d]
  | x :: l, d => if x.cn0 < d.cn0 then (d :: x :: l).take 4 else x :: (topDets l d).take 3

/-- A free channel of a band. -/
def State.freeGnssCh (s : State) (b : Nat) : Option Nat :=
  (bandChans b).find? (fun c => decide ((s.gnssCh c).st = .idle) && !(s.apB Fld.gnssChCfg_EN c) && !(s.apB Fld.gnssChCfg_MANUAL c) &&
    !(s.halted (.gnssCh c)))

/-- A detection is handed to a channel, or discarded and counted (R296). -/
def State.gnssHand (s : State) (d : GnssDet) : State :=
  let a := searchArgsOf (s.obj .search d.job).args
  if !(s.apB Fld.gnssCfg_AUTO_TRACK) || !(s.taskHeld 7) then s
  else if s.gnssHeld a.band (a.sys, d.svid) none then s.bump Fld.gnssDetDrop_VAL
  else match s.freeGnssCh a.band with
    | some c => s.gnssBind c a.sys d.svid
    | none => s.bump Fld.gnssDetDrop_VAL

/-- A detection joins its job. -/
def State.gnssDetect (s : State) (d : GnssDet) : State :=
  let x := s.searchJob d.job
  if x.sects = [] then s
  else (s.setSearchJob d.job { x with found := x.found + 1, dets := topDets x.dets d }).gnssHand d

/-- The cells that section `n` searches in the dwell of a job. -/
def SearchJob.cellsOn (x : SearchJob) (n : Nat) : Nat := min 512 (x.cells - x.searched - 512 * (x.sects.takeWhile (fun k => k != n)).length)

/-- The dwell of a job ends; a job that has searched all its cells is done (R294). -/
def State.dwellEndJob (s : State) (j : Nat) : State :=
  let x := s.searchJob j
  if x.sects = [] then s
  else
    let n := min x.cells (x.searched + 512 * x.sects.length)
    let fin := decide (x.cells ≤ n) && !x.done
    (s.setSearchJob j { x with searched := n, sects := [], done := x.done || fin }).raiseIf fin Ev.gnssSearchDone
      (s.handleOf .search j).toNat x.found

/-- A section leaves service: OUT (R297). -/
def State.sectOut (s : State) (n : Nat) : State :=
  if s.gnss.out.contains n then s
  else ({ s with gnss := { s.gnss with out := insertAsc n s.gnss.out } } : State).raise Ev.gnssSectState

/-- The sections that wait to leave and are held by no dwell any more leave, and their commands complete with the cells that `cells`
says their last dwell searched (R297). -/
def State.sectsSettle (s : State) (cells : Nat → Nat) : State :=
  let held := fun (n : Nat) => s.gnss.jobs.any (fun e => e.2.sects.contains n)
  (s.gnss.outWait.filter (fun e => !(held e.1))).foldl (fun t e => (t.sectOut e.1).complete e.2 0xC001 .ok 0 (leBytes (cells e.1) 4))
    { s with gnss := { s.gnss with outWait := s.gnss.outWait.filter (fun e => held e.1) } }

/-- GNSS_DWELL_END of the jobs `l`: their detections in job order, the cells of the dwell, and the sections that wait to leave. -/
def State.gnssDwellEnd (s : State) (l : List Nat) (dets : List GnssDet) : State :=
  if !s.gnssOn then s
  else
    let order := s.searchOrder.filter (fun j => l.contains j)
    let cells := fun (n : Nat) => (s.gnss.jobs.find? (fun e => e.2.sects.contains n)).elim 0 (fun e => e.2.cellsOn n)
    let s1 := (order.flatMap (fun j => dets.filter (fun d => s.padIn 12 && d.job == j))).foldl (fun s d => s.gnssDetect d) s
    (order.foldl (fun s j => s.dwellEndJob j) s1).sectsSettle cells

/-! ## Sections (R297, R312) -/

/-- The checks of a baseband command. -/
def State.gnssChecks (s : State) (d : CmdDesc) (from' : Nat) (bad : Bool) : Checks :=
  { unitChecks d false .gnss true [Rdy.gnss] with
    absent := !s.variant.gnss, badForm := d.badForm false || decide (d.handle ≠ 0) || !(d.zero from' 32), badArg := bad }

/-- GNSS_SECT. -/
def State.gnssSect (s : State) (d : CmdDesc) : State :=
  let n := d.arg 12 1
  let act := d.arg 13 1
  s.runCmd d 0xC001 (s.gnssChecks d 14 (decide (23 < n) || decide (2 < act))) (fun s =>
    let isOut := s.gnss.out.contains n
    if act = 0 then
      (if isOut then s.complete d 0xC001 .ok 0 (leBytes 0 4)
       else if s.gnss.jobs.any (fun e => e.2.sects.contains n) then
         { s with gnss := { s.gnss with outWait := s.gnss.outWait ++ [(n, d)] } }
       else (s.sectOut n).complete d 0xC001 .ok 0 (leBytes 0 4))
    else if act = 1 then
      ({ s with gnss := { s.gnss with out := s.gnss.out.filter (fun k => k != n) } } : State).complete d 0xC001 .ok
    else if isOut then { s with gnss := { s.gnss with testing := s.gnss.testing ++ [(n, d)] } }
    else s.complete d 0xC001 .badArg)

/-- GNSS_SECT_TEST_DONE: the section stays OUT. -/
def State.gnssSectTestDone (s : State) (bad first : Nat) : State :=
  match s.gnss.testing with
  | [] => s
  | (_, d) :: l =>
    ({ s with gnss := { s.gnss with testing := l } } : State).complete d 0xC001 (if bad = 0 then .ok else .parity) 0
      (leBytes bad 4 ++ leBytes (if bad = 0 then 0xFFFF else first) 2)

/-! ## Survey (R306, R312) -/

/-- The mean of the survey. -/
def GnssSurvey.mean (v : GnssSurvey) : Int × Int × Int :=
  if v.n = 0 then (0, 0, 0) else (roundDiv v.sx v.n, roundDiv v.sy v.n, roundDiv v.sz v.n)

/-- The mean is held: the position registers take it, and POS_MODE becomes 2. -/
def State.surveyHold (s : State) : State :=
  let m := s.gnss.survey.mean
  let s1 := (s.putBoth Fld.gnssPosX_VAL (unsigned 32 m.1)).putBoth Fld.gnssPosY_VAL (unsigned 32 m.2.1)
  let s2 := (s1.putBoth Fld.gnssPosZ_VAL (unsigned 32 m.2.2)).putBoth Fld.gnssPosCfg_POS_MODE 2
  { s2 with gnss := { s2.gnss with survey := { s2.gnss.survey with run := false } } }

/-- Survey-in starts anew. -/
def State.surveyStart (s : State) : State := { s with gnss := { s.gnss with survey := { run := true, since := s.clk.now } } }

/-- The survey-in target is met: the mean is held (R306). -/
def State.surveyCheck (s : State) : State :=
  let v := s.gnss.survey
  let t := v.pauseAt.getD s.clk.now - v.since - v.paused
  if v.run && s.posMode == 1 && decide (0 < v.n) && decide (max 1 (s.ap Fld.gnssPosCfg_SURVEY_MIN) * 60 * 10 ^ 12 ≤ t) &&
      decide (v.sigma ≤ max 1 (s.ap Fld.gnssPosCfg_SURVEY_CM)) then s.surveyHold.raise Ev.gnssSurveyDone
  else s

/-- A write of the bits `m` of GNSS_POS_CFG: POS_MODE 1 restarts the survey (R306). -/
def State.posCfgWrite (s : State) (v m : Word) : State :=
  let t := s.storeReg ⟨.gnssPosCfg, 0, 0⟩ v m
  if m &&& maskOf 0 2 ≠ 0 ∧ t.posMode = 1 then t.surveyStart
  else if t.posMode ≠ 1 then { t with gnss := { t.gnss with survey := { t.gnss.survey with run := false } } }
  else t.surveyCheck

/-- RESULT of GNSS_SURVEY. -/
def GnssSurvey.bytes (v : GnssSurvey) : List Byte :=
  leBytes (unsigned 32 v.mean.1) 4 ++ leBytes (unsigned 32 v.mean.2.1) 4 ++ leBytes (unsigned 32 v.mean.2.2) 4 ++ leBytes v.sigma 4

/-- GNSS_SURVEY. -/
def State.gnssSurvey (s : State) (d : CmdDesc) : State :=
  let act := d.arg 12 1
  s.runCmd d 0xC002 (s.gnssChecks d 13 (decide (1 < act))) (fun s =>
    if act = 0 then
      let s1 := (s.putBoth Fld.gnssPosCfg_POS_MODE 1).surveyStart
      s1.complete d 0xC002 .ok 0 s1.gnss.survey.bytes
    else if s.gnss.survey.n = 0 then s.complete d 0xC002 .notReady
    else s.surveyHold.complete d 0xC002 .ok 0 s.gnss.survey.bytes)

/-! ## Epochs and bursts (R300, R308, R309) -/

/-- Word 0 of Table GNSS-4. -/
def State.gnssWord0 (s : State) (c : Nat) (slip : Bool) : Nat :=
  let x := s.gnssCh c
  let sat := (s.gnssSat c).getD (0, 0)
  packed [(0, 8, sat.2), (8, 1, sat.1), (9, 1, c / 32), (10, 3, x.st.code), (13, 1, b2n x.txValid), (14, 1, b2n slip),
    (15, 1, b2n (s.gnssPaired c)), (16, 16, x.cn0)]

/-- A channel latches its measurement; SLIP collects what happened since the last epoch. -/
def State.gnssLatch (s : State) (m : GnssMeas) : State :=
  let x := s.gnssCh m.chan
  if !x.tracking then s
  else
    let y : GnssCh := { x with meas := some m, slip := false, cn0 := m.cn0 }
    let t := (s.bump Fld.gnssSlipCnt_VAL 0 m.slips).setGnssCh m.chan y
    t.setGnssCh m.chan { y with word0 := t.gnssWord0 m.chan (x.slip || decide (0 < m.slips)) }

/-- The epoch period in ms (GNSS_CFG.EPOCH). -/
def State.epochMs (s : State) : Nat := [100, 200, 500, 1000].getD (s.ap Fld.gnssCfg_EPOCH) 1000

/-- The epoch instant that the active core has reached: a whole multiple of the period in the second, or in a burst 90 ms after its
start at OFS_MS (R300, R308). -/
def State.epochInstant (s : State) : Nat :=
  let ms := s.tod % unitsPerS / (unitsPerNs * 1000000)
  let at' := if s.gnss.bursting then min 900 (s.ap Fld.gnssBurst_OFS_MS) + 90 else ms / s.epochMs * s.epochMs
  s.tod / unitsPerS * unitsPerS + at' * (unitsPerNs * 1000000)

/-- GNSS_EPOCH: every channel in TRACK or DATA latches, then the EPO writes and corrections apply (R31, R329); bursts have one epoch
each (R308). -/
def State.gnssEpoch (s : State) (meas : List GnssMeas) (delayPs : Nat) : State :=
  if !s.gnssOn || (s.gnss.bursting && (!s.gnss.inBurst || s.gnss.burstEpoch)) then s
  else
    let s0 := (List.range 64).foldl (fun s c => if (s.gnssCh c).tracking then s.setGnssCh c { s.gnssCh c with meas := none } else s) s
    let s1 := meas.foldl (fun s m => s.gnssLatch m) s0
    let s2 : State := { s1 with gnss := { s1.gnss with
      epochs := (s1.gnss.epochs + 1) % 2 ^ 32
      burstEpoch := s1.gnss.inBurst
      epoch := {
        ts := s.epochInstant
        latched := ((List.range 64).filter (fun c => (s.gnssCh c).tracking)).length
        core := s.clk.active, unlocked := s.unlockedTime, delayPs := delayPs
        ant := s.apI Fld.gnssAntDly_VAL, ifb := s.apI Fld.gnssIfb_VAL } } }
    (s2.applyAt .epo (fun k => decide (k.name.row.block = .gnss))).calBoundary 4 0

/-- GNSS_BURST_START: a re-pull above a quarter cycle sets SLIP. -/
def State.gnssBurstStart (s : State) (slips : List Nat) : State :=
  if !s.gnssOn || !s.gnss.bursting then s
  else
    let s1 := slips.foldl (fun s c => if (s.gnssCh c).tracking then s.setGnssCh c { s.gnssCh c with slip := true } else s) s
    { s1 with gnss := { s1.gnss with inBurst := true, burstEpoch := false, rfEn := true } }

/-- GNSS_BURST_END. -/
def State.gnssBurstEnd (s : State) : State :=
  if !s.gnss.inBurst then s
  else { s with gnss := { s.gnss with inBurst := false, rfEn := s.gnss.rfEn && !(s.apB Fld.gnssBurst_RF_GATE) } }

/-- GNSS_RF_EN_LEAD. -/
def State.gnssRfEnLead (s : State) : State :=
  if s.gnssOn && s.gnss.bursting && s.apB Fld.gnssBurst_RF_GATE then { s with gnss := { s.gnss with rfEn := true } } else s

/-- Burst tracking is asked for (R309). -/
def State.burstWanted (s : State) : Bool :=
  let m := s.ap Fld.gnssCfg_TRACK_MODE
  m == 1 || (decide (2 ≤ m) && s.ref.tsel.any (fun c => c != 102) && decide (10 ≤ s.gnss.validRun))

/-- A second boundary: the mode changes (R309). -/
def State.gnssModeSec (s : State) : State :=
  let w := s.burstWanted
  if !s.gnssOn || w == s.gnss.bursting then s
  else ({ s with gnss := { s.gnss with bursting := w, inBurst := false, rfEn := true } } : State).raise Ev.gnssMode

/-! ## AUTO_ACQ (R310) -/

/-- Bytes 12 to 31 of the CREATE that the firmware makes: every satellite of a system on a band, DWELL_MS 20. -/
def autoArgs (b y : Nat) (assist : Bool) : List Byte :=
  [BitVec.ofNat 8 b, BitVec.ofNat 8 y, 0, BitVec.ofNat 8 (b2n assist)] ++ leBytes 0 4 ++ leBytes (if assist then 0 else 10000) 2 ++
    leBytes 20 2 ++ leBytes 0 8

/-- A finished job of the firmware leaves. -/
def State.autoDrop (s : State) (j : Nat) : State :=
  if (s.searchJob j).done then
    let t := s.dropObj .search j
    { t with gnss := { t.gnss with jobs := Tab.erase t.gnss.jobs j, fwJobs := t.gnss.fwJobs.filter (fun k => k != j) } }
  else s

/-- The satellites of a system that are predicted above ELEV_MASK and not tracked on a band. -/
def State.autoSats (s : State) (b y : Nat) : List GnssSat :=
  s.gnss.sol.sky.filter (fun x => x.system == y && decide (s.elevMask < x.elev) && (b == 0 || x.l5) && !(s.svExcl y x.svid) &&
    !(s.gnssHeld b (y, x.svid) none))

/-- The firmware creates a job for a band and system, unless one is running: assisted for the satellites that are predicted and not
tracked and meet R295, else full-grid where ASSIST_OK is 0 or a satellite is left (R310). -/
def State.autoJob (s : State) (b y : Nat) : State :=
  let has := s.gnss.fwJobs.any (fun j => let a := searchArgsOf (s.obj .search j).args; a.band == b && a.sys == y)
  let on := (if y = 0 then s.apB Fld.gnssCfg_GPS_EN else s.apB Fld.gnssCfg_GAL_EN) && (b == 0 || s.apB Fld.gnssCfg_L5_EN)
  let want := s.autoSats b y
  let fresh := want.filter (fun x => decide (x.ephMin ≤ 240))
  let assist := s.assistOk && s.posKnown && decide (fresh ≠ [])
  let full := !s.assistOk || decide (want ≠ []) || !(s.gnss.sol.sky.any (fun x => x.system == y))
  if has || !on || !(assist || full) || decide (8 ≤ s.gnss.fwJobs.length) then s
  else match s.nextIndex .search with
    | none => s
    | some j =>
      let t := s.searchMake j (autoArgs b y assist)
      let u := if assist then t.setSearchJob j { t.searchJob j with assisted := true, cells := fresh.length * assistCells b } else t
      { u with gnss := { u.gnss with fwJobs := u.gnss.fwJobs ++ [j] } }

/-- GNSS_AUTO_ACQ_ROUND. -/
def State.gnssAutoAcqRound (s : State) : State :=
  if !s.gnssOn || !(s.apB Fld.gnssCfg_AUTO_ACQ) || !(s.taskHeld 7) || s.gnss.valid then s
  else
    let s1 := s.gnss.fwJobs.foldl (fun s j => s.autoDrop j) s
    [(0, 0), (0, 1), (1, 0), (1, 1)].foldl (fun s x => s.autoJob x.1 x.2) s1

/-! ## The job object (R94, R95) and the domain (R313) -/

/-- What a job has in flight (Table HDL-5): the dwell in progress, and the cells not searched and not in it. -/
def State.searchFlight (s : State) (j : Nat) : Nat :=
  let x := s.searchJob j
  if x.sects = [] then x.cells - x.searched else 1 + (x.cells - x.searched - 512 * x.sects.length)

/-- A job's sections are released, unsearched. -/
def State.searchAbort (s : State) (j : Nat) : State := (s.setSearchJob j { s.searchJob j with sects := [] }).sectsSettle (fun _ => 0)

/-- A destroyed job leaves. -/
def State.searchGone (s : State) (j : Nat) : State :=
  { s with gnss := { s.gnss with jobs := Tab.erase s.gnss.jobs j, fwJobs := s.gnss.fwJobs.filter (fun k => k != j) } }

/-- An enabled job restarts from its beginning. -/
def State.searchResume (s : State) (j : Nat) : State := s.searchBegin j (s.searchJob j).order

/-- The baseband is switched off or put in retention; the epoch count, which never repeats, and the sections OUT are kept. -/
def State.gnssDown (s : State) (off : Bool) : State :=
  let s1 := (List.range 64).foldl (fun s c => s.goGnssCh c .idle) s
  let s2 := (s.inUse .search).foldl (fun s j => s.searchAbort j) s1
  let s3 := (s2.gnssInvalid.candAbsent 102).setReady Rdy.gnss false
  let g := s3.gnss
  { s3 with gnss := if off then { jobs := g.jobs, nextOrder := g.nextOrder, fwJobs := g.fwJobs, invalidAt := g.invalidAt, epochs := g.epochs
                                  out := g.out, testing := g.testing }
                    else { g with rfEn := false, inBurst := false } }

/-- The baseband is on again: EPO-pending writes apply before any channel runs, and bound channels pull in. -/
def State.gnssUp (s : State) : State :=
  let s1 := ((s.applyAt .epo (fun k => decide (k.name.row.block = .gnss))).calBoundary 4 0).setReady Rdy.gnss true
  let s2 : State := { s1 with gnss := { s1.gnss with rfEn := true } }
  (List.range 64).foldl (fun s c => if (s.gnssSat c).isSome then s.goGnssCh c .pullIn else s) s2

/-! ## Meanings -/

/-- GNSS_CLOCK_FAULT (R292). -/
def execGnssClockFault (ppm : Int) (s : State) : Host.Outcome State Fault Refusal :=
  effect true s (s.gnssClockFault ppm)

/-- GNSS_CLOCK_OK (R292). -/
def execGnssClockOk (ppm : Int) (s : State) : Host.Outcome State Fault Refusal :=
  effect true s (s.gnssClockOk ppm)

/-- GNSS_SAMPLE_CHECK (R292). -/
def execGnssSampleCheck (codes1 codes5 : List Nat) (stuck1 stuck5 : Bool) (s : State) : Host.Outcome State Fault Refusal :=
  effect (decide (codes1.length = 4) && decide (codes5.length = 4)) s (s.gnssSampleCheck codes1 codes5 stuck1 stuck5)

/-- GNSS_DWELL_START (R294, R308). -/
def execGnssDwellStart (s : State) : Host.Outcome State Fault Refusal :=
  effect true s (s.gnssDwellStart)

/-- GNSS_DWELL_END (R294, R296, R297). -/
def execGnssDwellEnd (r : DwellEnd) (s : State) : Host.Outcome State Fault Refusal :=
  effect (r.jobs.all searchJob && r.dets.all (fun x => searchJob x.job)) s (s.gnssDwellEnd r.jobs r.dets)

/-- GNSS_CH_LOCK (R299). -/
def execGnssChLock (chan : Nat) (assisted : Bool) (s : State) : Host.Outcome State Fault Refusal :=
  effect (gnssChan chan) s (s.gnssChLock chan assisted)

/-- GNSS_CH_PULLIN_TIMEOUT (R299). -/
def execGnssChPullinTimeout (chan : Nat) (s : State) : Host.Outcome State Fault Refusal :=
  effect (gnssChan chan) s (s.gnssChPullinTimeout chan)

/-- GNSS_CH_DATA_SYNC (R299). -/
def execGnssChDataSync (chan : Nat) (s : State) : Host.Outcome State Fault Refusal :=
  effect (gnssChan chan) s (s.gnssChDataSync chan)

/-- GNSS_CH_LOSS (R299). -/
def execGnssChLoss (chan : Nat) (s : State) : Host.Outcome State Fault Refusal :=
  effect (gnssChan chan) s (s.gnssChLoss chan)

/-- GNSS_CH_RELEASE (R299). -/
def execGnssChRelease (chan : Nat) (s : State) : Host.Outcome State Fault Refusal :=
  effect (gnssChan chan) s (s.gnssChRelease chan)

/-- GNSS_CH_REGAIN (R299). -/
def execGnssChRegain (chan : Nat) (s : State) : Host.Outcome State Fault Refusal :=
  effect (gnssChan chan) s (s.gnssChRegain chan)

/-- GNSS_EPOCH (R300, R301, R31). -/
def execGnssEpoch (meas : List GnssMeas) (delayPs : Nat) (s : State) : Host.Outcome State Fault Refusal :=
  effect (meas.all (fun x => gnssChan x.chan) && decide (delayPs ≤ 15274)) s (s.gnssEpoch meas delayPs)

/-- GNSS_BURST_START (R308). -/
def execGnssBurstStart (slips : List Nat) (s : State) : Host.Outcome State Fault Refusal :=
  effect true s (s.gnssBurstStart slips)

/-- GNSS_BURST_END (R308). -/
def execGnssBurstEnd (s : State) : Host.Outcome State Fault Refusal :=
  effect true s (s.gnssBurstEnd)

/-- GNSS_RF_EN_LEAD (R308). -/
def execGnssRfEnLead (s : State) : Host.Outcome State Fault Refusal :=
  effect true s (s.gnssRfEnLead)

/-- GNSS_AUTO_ACQ_ROUND (R310). -/
def execGnssAutoAcqRound (s : State) : Host.Outcome State Fault Refusal :=
  effect true s (s.gnssAutoAcqRound)

/-- GNSS_SECT_OUT (R297, R312). -/
def execGnssSectOut (d : CmdDesc) (s : State) : Host.Outcome State Fault Refusal :=
  effect (d.wf && decide (d.argAct 13 ≠ 1) && decide (d.argAct 13 ≠ 2)) s (s.gnssSect d)

/-- GNSS_SECT_IN (R297, R312). -/
def execGnssSectIn (d : CmdDesc) (s : State) : Host.Outcome State Fault Refusal :=
  effect (d.wf && decide (d.argAct 13 = 1)) s (s.gnssSect d)

/-- GNSS_SECT_TEST (R297, R312). -/
def execGnssSectTest (d : CmdDesc) (s : State) : Host.Outcome State Fault Refusal :=
  effect (d.wf && decide (d.argAct 13 = 2)) s (s.gnssSect d)

/-- GNSS_SECT_TEST_DONE (R297, R312). -/
def execGnssSectTestDone (bad first : Nat) (s : State) : Host.Outcome State Fault Refusal :=
  effect true s (s.gnssSectTestDone bad first)

/-- GNSS_SURVEY_RESTART (R306, R312). -/
def execGnssSurveyRestart (d : CmdDesc) (s : State) : Host.Outcome State Fault Refusal :=
  effect (d.wf && decide (d.argAct 12 ≠ 1)) s (s.gnssSurvey d)

/-- GNSS_SURVEY_END (R306, R312). -/
def execGnssSurveyEnd (d : CmdDesc) (s : State) : Host.Outcome State Fault Refusal :=
  effect (d.wf && decide (d.argAct 12 = 1)) s (s.gnssSurvey d)

end Sys2Proof.Machine
end

