-- ==== Sys2Proof/Machine/Sw.lean ====
section
/-! DEFINITION. The latency promise (chapter 6): the bound of a flow (R136), admission (R137 to R139), canary rings (R121, R122),
voltage scaling (R123 to R127), the conditions (R141), gate control lists (R130 to R132). -/

set_option Elab.async false

namespace Sys2Proof.Machine

/-! ## Gate control lists -/

/-- The list of a port, operational or pending; an empty pending list removes the operational one. -/
def Gcl.live (g : Option Gcl) : Option Gcl := g.filter (fun x => decide (x.entries ≠ []))

/-- Maximal runs of entries whose SQ gate is in one state, in list order. -/
def gclRuns : List GclEntry → List (Bool × Nat)
  | [] => []
  | e :: l =>
    let o := bitAt e.gates 8
    match gclRuns l with
    | (p, n) :: r => if p = o then (o, e.interval + n) :: r else (o, e.interval) :: (p, n) :: r
    | [] => [(o, e.interval)]

/-- The runs with the last joined to the first across the cycle's end. -/
def gclCyclic (l : List (Bool × Nat)) : List (Bool × Nat) :=
  match l, l.getLast? with
  | (p, n) :: r, some (q, m) => if r ≠ [] ∧ p = q then (p, n + m) :: r.dropLast else l
  | _, _ => l

/-- φ as a fraction, and G in 1/100 ns, of a list with F_m in 1/100 ns (Table SW-3). -/
def gclTerms (g : Option Gcl) (fm : Nat) : (Nat × Nat) × Nat :=
  match g with
  | none => ((1, 1), 0)
  | some x =>
    let l := gclCyclic (gclRuns x.entries)
    ((((l.filter (fun r => r.1)).map (fun r => 100 * r.2 - fm)).sum, 100 * x.cycle),
      100 * ((l.filter (fun r => !r.1)).map (fun r => r.2)).foldl max 0 + fm)

/-- The worse of two φ and of two G. -/
def worseTerms (a b : (Nat × Nat) × Nat) : (Nat × Nat) × Nat :=
  (if a.1.1 * b.1.2 ≤ b.1.1 * a.1.2 then a.1 else b.1, max a.2 b.2)

/-! ## The bound (R136) -/

/-- Data rate in Gb/s of a quad mode. -/
def modeRate (m : Nat) : Nat := [0, 1, 10, 25, 100].getD m 0

/-- T_RX and T_TX in ns by mode and FEC (Table SW-4). -/
def latencyTerms (mode fec : Nat) : Nat × Nat :=
  match mode, fec with
  | 1, _ => (180, 260)
  | 2, _ => (90, 120)
  | 3, 0 => (60, 80)
  | 3, 1 => (140, 130)
  | 3, _ => (240, 136)
  | 4, 0 => (70, 90)
  | 4, _ => (120, 95)
  | _, _ => (0, 0)

/-- T_RX and T_TX of a port. -/
def State.portLatency (s : State) (p : Nat) : Nat × Nat := latencyTerms (s.portMode p) (s.quadFec (p / 4))

/-- Data rate of a port in Gb/s. -/
def State.portRate (s : State) (p : Nat) : Nat := modeRate (s.portMode p)

/-- Preemption is active on a port (R133). -/
def State.portPreempt (s : State) (p : Nat) : Bool :=
  s.apB Fld.portCfg_PREEMPT_EN p && (!(s.apB Fld.portCfg_VERIFY_EN p) || (s.port p).verified)

/-- L_e in bytes. -/
def State.lTerm (s : State) (p : Nat) : Nat :=
  if s.portPreempt p && s.ap Fld.portExpress_VAL p == 0 then 143 + 64 * s.ap Fld.portCfg_ADD_FRAG p else s.mtu p + 20

/-- S_e in bytes, and UTIL in percent. -/
def State.capBurst (s : State) (p : Nat) : Nat := max 1024 (s.ap Fld.portSchedCap_BURST p)
def State.capUtil (s : State) (p : Nat) : Nat := min 90 (s.ap Fld.portSchedCap_UTIL p)

/-- The arguments of a guaranteed flow (Table HDL-3). -/
structure FlowArgs where
  inp : Nat
  out : Nat
  cls : Nat
  maxFrame : Nat
  kbps : Nat
  boundReq : Nat
  entry : Nat
  deriving DecidableEq, Repr

/-- CREATE bytes 12 to 31 as flow arguments. -/
def flowArgsOf (l : List Byte) : FlowArgs :=
  { inp := leAt l 0 2, out := leAt l 2 2, cls := byteAt l 4, maxFrame := leAt l 6 2, kbps := leAt l 8 4, boundReq := leAt l 12 4
    entry := leAt l 16 4 }

/-- The arguments of a flow. -/
def State.flowArgs (s : State) (i : Nat) : FlowArgs := flowArgsOf (s.obj .flow i).args

/-- A flow beside its object. -/
def State.flow (s : State) (i : Nat) : Flow := Tab.get {} s.sw.flows i

/-- A flow replaced. -/
def State.setFlow (s : State) (i : Nat) (x : Flow) : State := { s with sw := { s.sw with flows := Tab.set s.sw.flows i x } }

/-- Existing flows to an egress port in index order, but for the one left out, and the one that waits (R139). -/
def State.flowsTo (s : State) (e : Nat) (skip : Option Nat) : List FlowArgs :=
  let own := (((s.inUse .flow).foldl (fun l i => insertAsc i l) []).filter (fun i => decide (some i ≠ skip))).map (fun i => s.flowArgs i)
  let w := match s.sw.wait with
    | some w => if some w.index = skip then [] else if w.modify then [] else [flowArgsOf w.desc.objArgs]
    | none => []
  (own ++ w).filter (fun a => a.out == e)

/-- φ_e and G_e with MAXF the largest MAX_FRAME given. -/
def State.gateTerms (s : State) (e maxF : Nat) : (Nat × Nat) × Nat :=
  let fm := 8 * (maxF + 20) * (100 / max 1 (s.portRate e))
  let x := s.port e
  let a := gclTerms (Gcl.live x.gcl) fm
  match x.gclPend with
  | some g => worseTerms a (gclTerms (Gcl.live (some g)) fm)
  | none => a

/-- The bound of a flow at admission rate `f` in ns, rounded up (R136); none when SQ never opens long enough. -/
def State.boundOf (s : State) (a : FlowArgs) (others : List FlowArgs) (f : Nat) : Option Nat :=
  let t := s.gateTerms a.out ((others.map (fun x => x.maxFrame)).foldl max a.maxFrame)
  let φn := t.1.1
  let φd := t.1.2
  let re := 100 / max 1 (s.portRate a.out)
  let rx := if a.inp = 96 then 0 else 100 * (s.portLatency a.inp).1 + 8 * a.maxFrame * (100 / max 1 (s.portRate a.inp))
  let fixed := rx + t.2 + 100 * (s.portLatency a.out).2
  if φn = 0 ∨ f = 0 then none
  else
    let num := fixed * φn * f + 8 * (s.capBurst a.out + s.lTerm a.out) * re * φd * f + 4800000 * φn
    let den := 100 * φn * f
    some ((num + den - 1) / den)

/-! ## Admission (R137, R138) -/

/-- F_ADM (R123), leaving out one flow. -/
def State.fAdm (s : State) (skip : Option Nat := none) : Nat :=
  ((s.sw.flows.filter (fun e => decide (some e.1 ≠ skip))).map (fun e => e.2.rate)).foldl max 0

/-- The rates that admission tries, in order (R138). -/
def State.tryRates (s : State) (skip : Option Nat) : List Nat :=
  let f0 := max (s.ap Fld.swBoundRate_RATE) (s.fAdm skip)
  (((List.range 42).map (fun k => f0 + 64 * k)).filter (fun f => decide (f < 5715))) ++ [5715]

/-- Conditions 1 to 3 of R137: the first that fails, or 0. -/
def State.capFault (s : State) (a : FlowArgs) (others : List FlowArgs) : Nat :=
  let l := a :: others
  let φ := (s.gateTerms a.out ((l.map (fun x => x.maxFrame)).foldl max 0)).1
  if s.capBurst a.out < (l.map (fun x => x.maxFrame + 20)).sum then 1
  else if s.capUtil a.out * s.portRate a.out * 1000000 * φ.1 < (l.map (fun x => x.kbps)).sum * 100 * φ.2 then 2
  else if s.mtu a.out < a.maxFrame then 3
  else 0

/-- N_f (R158). -/
def flowReserve (a : FlowArgs) (b : Nat) : Nat := 2 + a.kbps * b / (8 * 1000000 * (a.maxFrame + 20))

/-- The pool of a flow's reservation, and whether `n` buffers can be reserved, leaving out flow `skip` (R158). -/
def State.reservePool (s : State) (a : FlowArgs) : Nat := (s.fitPool a.maxFrame).getD 5
def State.canReserve (s : State) (p n : Nat) (skip : Option Nat) : Bool :=
  let own := match skip with
    | some i => if (s.flow i).pool = p then (s.flow i).nf else 0
    | none => 0
  decide (p < 5) && decide (((s.pool p).rsv - own + n) * 100 ≤ (s.pool p).count * s.rsvPct)

/-- What admission found: the rate, bound, reservation and pool that it chose; the first condition of R137 that fails, or 0; whether
condition 5 fails; the bound at 5,715. -/
structure Admitted where
  f : Nat := 5715
  b : Option Nat := none
  nf : Nat := 0
  pool : Nat := 5
  fault : Nat := 0
  noRes : Bool := false
  keep : Option Nat := none
  deriving DecidableEq, Repr

/-- Admission of a flow, with the flow being modified left out of the others (R137, R138). -/
def State.admission (s : State) (a : FlowArgs) (skip : Option Nat) : Admitted :=
  let others := s.flowsTo a.out skip
  let f? := (s.tryRates skip).find? (fun f => match s.boundOf a others f with
    | some b => decide (b ≤ a.boundReq)
    | none => false)
  let keep := s.boundOf a others 5715
  let cap := s.capFault a others
  match f? with
  | none => { fault := if cap ≠ 0 then cap else 4, keep := keep }
  | some f =>
    let b := (s.boundOf a others f).getD 0
    let n := flowReserve a b
    let p := s.reservePool a
    let rise := decide (s.fAdm < max f (s.fAdm skip)) && (decide (s.sw.cond ≠ 0) || s.sw.avsFail)
    let no := !(s.canReserve p n skip)
    { f := f, b := some b, nf := n, pool := p, keep := keep, noRes := no
      fault := if cap ≠ 0 then cap else if no then 5 else if rise then 6 else 0 }

/-- The admission class of a flow refuses it (Table ENG-3, 0x06). -/
def State.classRefuses (s : State) (a : FlowArgs) (skip : Option Nat) : Bool :=
  let e := s.polEntry 6 (a.cls % 8)
  let n := ((s.flowsTo a.out skip).filter (fun x => x.cls % 8 == a.cls % 8)).length
  bitAt e 48 || decide (a.boundReq < bitsOf e 0 32) || (decide (bitsOf e 32 16 ≠ 0) && decide (bitsOf e 32 16 < n + 1))

/-- A flow breaks conditions 1 to 4 of R137 at its F_f, or its result (R139). -/
def State.flowBroken (s : State) (i : Nat) : Bool :=
  let a := s.flowArgs i
  let others := s.flowsTo a.out (some i)
  decide (s.capFault a others ≠ 0) || (match s.boundOf a others (s.flow i).rate with
    | some b => decide (a.boundReq < b) || decide ((s.flow i).bound < b)
    | none => true)

/-- The first flow to a port that is broken. -/
def State.firstBroken (s : State) (p : Nat) : Option Nat :=
  ((s.inUse .flow).foldl (fun l i => insertAsc i l) []).find? (fun i => (s.flowArgs i).out == p && s.flowBroken i)

/-- The largest B of any flow in ns. -/
def State.largestBound (s : State) : Nat := (s.sw.flows.map (fun e => e.2.bound)).foldl max 0

/-! ## Voltage (R123 to R127) -/

/-- MARGIN as it acts. -/
def State.margin (s : State) : Nat := max 5 (s.ap Fld.swVsCtrl_MARGIN)

/-- VMIN as it acts. -/
def State.vmin (s : State) : Nat := clampNat 680 880 (s.ap Fld.swVsCtrl_VMIN)

/-- F_REQ, with the rate of a command that waits under R16. -/
def State.fReq (s : State) : Nat :=
  max (max s.fAdm s.sw.fLoad) (match s.sw.wait with
    | some w => if w.stage = 0 then w.f else 0
    | none => 0)

/-- The rate that a command waiting under R16 needs before it completes: for a MODIFY, F_ADM leaves out the flow that it changes
(R138). -/
def State.waitReq (s : State) (w : FlowWait) : Nat :=
  max (max (s.fAdm (if w.modify then some w.index else none)) s.sw.fLoad) w.f

/-- SW_ASSURED meets the target of a command that waits under R16 (R124, R138). -/
def State.waitMet (s : State) (w : FlowWait) : Bool := decide (s.waitReq w * (100 + s.margin) ≤ s.sw.assured * 100)

/-- SW_ASSURED meets the target (R123). -/
def State.meetsTarget (s : State) : Bool := decide (s.fReq * (100 + s.margin) ≤ s.sw.assured * 100)

/-- A voltage write with commit of a new set point (R126, R127). -/
def State.vddWrite (s : State) (mv : Nat) : State :=
  { s with sw := { s.sw with vset := mv, writing := true, retrying := false, attempts := 1 } }

/-- The voltage task acts: EN is 1, an engine holds task 1, R17 is not in force (R124). -/
def State.vsActs (s : State) : Bool :=
  s.apB Fld.swVsCtrl_EN && s.taskHeld 1 && !s.sw.hwMax && !s.sw.canaryLow && !s.sw.writing && !s.sw.retrying

/-- SW_ASSURED below the target raises VDD_CORE in one write to the lowest set point of the curve (R124; log entry 25). -/
def State.vddRaise (s : State) : State :=
  if s.vsActs && !(s.meetsTarget) && decide (s.sw.vset < 880) then
    s.vddWrite (min 880 (max (s.sw.vset + 1) (Config.curveMv (s.fReq * (100 + s.margin)))))
  else s

/-- The highest set point is requested by hardware, or because EN is 0 (R17, R124). -/
def State.vddMax (s : State) : State := if s.sw.vset = 880 then s else s.vddWrite 880

/-- The set point has been reached and read back. -/
def State.vddSettled (s : State) : Bool := !s.sw.writing && !s.sw.retrying

/-- A cause of SW_COND sets (R141): bit 0 TEMP, 1 VDD, 2 FLOOR. -/
def State.condSet (s : State) (b : Nat) : State :=
  if bitAt s.sw.cond b then s
  else
    let c := s.sw.cond + 2 ^ b
    ({ s with sw := { s.sw with cond := c } } : State).raise Ev.swCondLeft (2 ^ b) c

/-- AT_MAX and the floor (R125, R127). -/
def State.floorCheck (s : State) : State :=
  let atMax := decide (s.sw.vset = 880) && s.vddSettled && !s.meetsTarget
  let low := (decide (s.sw.vset = 880) && s.vddSettled || s.sw.avsFail) && decide (s.sw.assured < s.fAdm)
  let s1 : State := { s with sw := { s.sw with atMax := atMax } }
  if low && !(bitAt s.sw.cond 2) then (s1.raise Ev.swFloorViol s1.sw.assured s1.fAdm).condSet 2 else s1

/-! ## Grants and refusals -/

/-- A bound as RESULT bytes 0 to 3; 0xFFFFFFFF for none. -/
def boundBytes (b : Option Nat) : List Byte := leBytes (min (b.getD 0xFFFFFFFF) 0xFFFFFFFF) 4

/-- The opcode of a flow command. -/
def flowOp (modify : Bool) : Nat := if modify then 0x0102 else 0x0101

/-- RSV of a pool changes. -/
def State.addRsv (s : State) (p : Nat) (d : Int) : State :=
  if p < 5 then s.setPool p { s.pool p with rsv := (((s.pool p).rsv : Int) + d).toNat } else s

/-- F has changed with a reservation: causes and XOFF follow (R157, R164). -/
def State.rsvChanged (s : State) : State := s.causesClear.xoffUpdate

/-- The bucket depth of R135 in 10^-9 bit. -/
def bucketFull (maxFrame : Nat) : Nat := (maxFrame + 20) * 8 * 1000000000

/-- A CREATE takes effect: the object, its reservation, its classifier entry and its full bucket (R135, R158, R189). -/
def State.flowMake (s : State) (w : FlowWait) : State :=
  let a := flowArgsOf w.desc.objArgs
  let o : Obj := { args := w.desc.objArgs, extra := [] }
  let s0 := if w.mirror then s.addNamed .flow w.index (hGen w.desc.handle) o else s.addObj .flow w.index o
  let s1 := s0.setFlow w.index
    { bound := w.bound, rate := w.f, nf := w.nf, pool := w.pool, maxFrame := a.maxFrame, kbps := a.kbps
      tokens := bucketFull a.maxFrame, tokAt := s.clk.now, preempt := s.portPreempt a.out }
  let s2 := s1.addRsv w.pool w.nf
  ({ s2 with fdb := { s2.fdb with bound := Tab.set s2.fdb.bound a.entry w.index } } : State).rsvChanged

/-- A MODIFY takes effect: the policer at the next frame boundary, the reservation at once (R137, R158). -/
def State.flowChange (s : State) (w : FlowWait) : State :=
  let a := flowArgsOf w.desc.objArgs
  let o := s.obj .flow w.index
  let x := s.flow w.index
  (((((s.addRsv x.pool (-(x.nf : Int))).addRsv w.pool w.nf).setObj .flow w.index { o with args := w.desc.objArgs })).setFlow w.index
    { x with bound := w.bound, rate := w.f, nf := w.nf, pool := w.pool, newPolicer := some (a.maxFrame, a.kbps)
             preempt := s.portPreempt a.out }).rsvChanged

/-- A flow record for the peer (Table PAIR-2). -/
def State.flowRec (s : State) (i op : Nat) : FlowRec :=
  { handle := s.handleOf .flow i, op := op, args := (s.obj .flow i).args, f := (s.flow i).rate, b := (s.flow i).bound }

/-- A granted command takes effect and completes (R137); a flow checked for the primary is accepted to it (R377). -/
def State.flowGrant (s : State) (w : FlowWait) : State :=
  let s0 : State := { s with sw := { s.sw with wait := none } }
  let t := if w.modify then s0.flowChange w else s0.flowMake w
  if w.mirror then t.pairDelta (.flow [t.flowRec w.index 4])
  else t.complete w.desc (flowOp w.modify) .ok (if w.modify then 0 else t.handleOf .flow w.index) (boundBytes (some w.bound))

/-- A refused command (R137); a refusal of the standby goes to the primary (R377). -/
def State.flowRefuse (s : State) (w : FlowWait) (b : Option Nat) : State :=
  let s0 : State := { s with sw := { s.sw with wait := none } }
  if w.mirror then s0.pairDelta (.flow [{ handle := w.desc.handle, op := 5, args := w.desc.objArgs
                                          f := w.f, b := b.getD 0xFFFFFFFF }])
  else s0.complete w.desc (flowOp w.modify) .boundRefused 0 (boundBytes b)

/-- The part is a SYNCED primary (R377). -/
def State.syncedPrimary (s : State) : Bool := decide (s.pair.role = .primary) && decide (s.pair.st = .synced)

/-- A command that this part can keep: a SYNCED primary asks its standby first (R377), others grant. -/
def State.flowLocal (s : State) (w : FlowWait) : State :=
  if s.syncedPrimary && !w.mirror then
    let t : State := { s with sw := { s.sw with wait := some { w with stage := 1 } } }
    t.pairDelta (.flow [{ handle := mkHandle .flow (s.gen .flow w.index) w.index, op := 0, args := w.desc.objArgs, f := w.f, b := w.bound }])
  else s.flowGrant w

/-- The rate of a chosen command: it waits under R16 when F_f exceeds F_ADM and SW_ASSURED is short. -/
def State.flowRate (s : State) (w : FlowWait) : State :=
  let t : State := { s with sw := { s.sw with wait := some { w with stage := 0 } } }
  if s.fAdm (if w.modify then some w.index else none) < w.f ∧ !(t.waitMet w) then t.vddRaise
  else t.flowLocal w

/-- What admission decides of a CREATE or MODIFY (R137, R148, R344). -/
def State.flowDecide (s : State) (d : CmdDesc) (modify : Bool) (i : Nat) : State :=
  let a := flowArgsOf d.objArgs
  let skip := if modify then some i else none
  let r := s.admission a skip
  let op := flowOp modify
  if r.noRes then s.complete d op .noResource
  else if s.classRefuses a skip then s.complete d op .boundRefused 0 (boundBytes none)
  else if r.fault = 4 then s.complete d op .boundRefused 0 (boundBytes r.keep)
  else if r.fault ≠ 0 then s.complete d op .boundRefused 0 (boundBytes none)
  else match r.b with
    | none => s.complete d op .boundRefused 0 (boundBytes none)
    | some b =>
      if s.resMaxMs * 1000000 < b then s.complete d op .boundRefused 0 (boundBytes (some b))
      else s.flowRate { desc := d, modify := modify, stage := 0, mirror := false, index := i, f := r.f, bound := b, nf := r.nf, pool := r.pool }

/-- A flow that the primary creates or modifies, checked by the standby at the primary's F_f (R377): conditions 1 to 6 of R137, then
R16.  `d` holds the handle and the arguments of the record, and F_f as its TAG. -/
def State.flowMirrored (s : State) (d : CmdDesc) : State :=
  let i := hIndex d.handle
  let a := flowArgsOf d.objArgs
  let own := !(s.stale .flow d.handle)
  let skip := if own then some i else none
  let f := d.tag.toNat
  let others := s.flowsTo a.out skip
  let b := s.boundOf a others f
  let n := flowReserve a (b.getD 0)
  let p := s.reservePool a
  let rise := decide (s.fAdm < max f (s.fAdm skip)) && (decide (s.sw.cond ≠ 0) || s.sw.avsFail)
  let w : FlowWait := { desc := d, modify := own, stage := 0, mirror := true, index := i, f := f, bound := b.getD 0, nf := n, pool := p }
  if s.capFault a others ≠ 0 ∨ (!own && (s.obj? .flow i).isSome) then s.flowRefuse w none
  else if b.isNone ∨ a.boundReq < b.getD 0 then s.flowRefuse w (s.boundOf a others 5715)
  else if !(s.canReserve p n skip) || rise then s.flowRefuse w none
  else s.flowRate w

/-! ## The commands that admission evaluates one at a time (R139) -/

/-- Reserved bits, absent ports and ranges of flow arguments (Table HDL-3, R137, R189); `own` is the flow being modified. -/
def flowReserved (d : CmdDesc) : Bool := decide (8 ≤ d.arg 16 1) || decide (d.arg 17 1 ≠ 0)
def State.flowAbsent (s : State) (d : CmdDesc) : Bool :=
  let a := flowArgsOf d.objArgs
  (decide (a.inp < 96) && !(s.portExists a.inp)) || (decide (a.out < 96) && !(s.portExists a.out))
def State.flowBad (s : State) (d : CmdDesc) (own : Option Nat) : Bool :=
  let a := flowArgsOf d.objArgs
  decide (96 < a.inp) || decide (95 < a.out) || decide (a.maxFrame < 64) || decide (10240 < a.maxFrame) ||
  (decide (a.inp < 96) && (s.portMode a.inp == 0 || s.portInactive a.inp)) || s.portMode a.out == 0 || s.portInactive a.out ||
  (match Tab.find s.fdb.cls a.entry with
    | none => true
    | some e => decide (e.port ≠ a.inp)) ||
  (match Tab.find s.fdb.bound a.entry with
    | none => false
    | some j => decide (some j ≠ own))

/-- A command waits for the admission in progress, or for a takeover of task 0 (R139, R340). -/
def State.admBusy (s : State) : Bool := s.sw.wait.isSome || s.taskMoving 0

/-- The command came from the host. -/
def CmdSrc.host : CmdSrc → Bool
  | .ring _ => true
  | _ => false

/-- The part is a standby, and the command is the host's (R377). -/
def State.standbyHost (s : State) (d : CmdDesc) : Bool := decide (s.pair.role = .standby) && d.src.host

/-- What stops a CREATE or MODIFY of a flow with NOT_READY at check 7 (Table ENG-1, R377, R384). -/
def State.flowNotReady (s : State) (d : CmdDesc) : Bool :=
  s.standbyHost d || !(s.taskHeld 0) || (s.syncedPrimary && !(s.taskHeld 10))

/-- CREATE of a guaranteed flow, when its turn has come. -/
def State.flowCreateNow (s : State) (d : CmdDesc) : State :=
  s.checked d 0x0101 (createChecks .flow d false (s.flowAbsent d) (flowReserved d) (s.flowBad d none)) (fun s =>
    match s.nextIndex .flow with
    | none => s.complete d 0x0101 .noResource
    | some i => if s.flowNotReady d then s.complete d 0x0101 .notReady else s.flowDecide d false i)

/-- MODIFY of a guaranteed flow, when its turn has come: the ports and MATCH are fixed (Table HDL-3). -/
def State.flowModifyNow (s : State) (d : CmdDesc) : State :=
  let i := hIndex d.handle
  let a := flowArgsOf d.objArgs
  let o := s.flowArgs i
  s.namedGo .flow 2 d 0x0102 (s.targetChecks .flow d true false (s.flowAbsent d) (flowReserved d)
      (s.flowBad d (some i) || decide (a.inp ≠ o.inp) || decide (a.out ≠ o.out) || decide (a.entry ≠ o.entry))) (fun s =>
    if s.flowNotReady d then s.complete d 0x0102 .notReady
    else s.flowDecide d true i)

/-- BOUND_QUERY (Table SW-12). -/
def State.boundQueryNow (s : State) (d : CmdDesc) : State :=
  let c := unitChecks d true .sw false [Rdy.fabric, Rdy.admission]
  s.checked d 0xA001 { c with absent := s.flowAbsent d, badForm := c.badForm || flowReserved d, badArg := s.flowBad d none } (fun s =>
    let r := s.admission (flowArgsOf d.objArgs) none
    match r.b with
    | some b => s.complete d 0xA001 .ok 0 (leBytes b 4 ++ leBytes r.f 4 ++ leBytes r.fault 1)
    | none => (s.tick).complete d 0xA001 .ok 0 (leBytes 0xFFFFFFFF 4 ++ leBytes (Config.freeWord s.free).toNat 4 ++ leBytes r.fault 1))

/-- Entry `k` of a GCL_SET buffer. -/
def CmdDesc.gclEntry (d : CmdDesc) (k : Nat) : GclEntry :=
  { gates := d.buf (32 + 8 * k) 2 % 512, op := bitsOf (d.buf (32 + 8 * k) 2) 9 2, interval := d.buf (36 + 8 * k) 4 }

/-- The instant of change of a list in units of the active core (R131). -/
def State.gclChange (s : State) (cycle base : Nat) : Nat :=
  if s.tod ≤ base * unitsPerNs then base
  else
    let t := s.tod + 1000000 * unitsPerNs
    let c := cycle * unitsPerNs
    base + (t - base * unitsPerNs + c - 1) / c * cycle

/-- GCL_SET (R131, R139). -/
def State.gclSetNow (s : State) (d : CmdDesc) : State :=
  let p := d.buf 0 2
  let n := d.buf 2 2
  let cycle := d.buf 4 4
  let baseS := d.buf 8 6
  let baseNs := d.buf 14 4
  let es := (List.range (min n 256)).map (fun k => d.gclEntry k)
  let c := unitChecks d true .port true [Rdy.fabric]
  s.checked d 0x9801 { c with
      absent := !(d.badForm true) && decide (p < 96) && !(s.portExists p)
      badForm := c.badForm || !(((d.ext.take d.extLen).drop 20).take 12 |>.all (fun b => decide (b = 0))) ||
        (List.range (min n 256)).any (fun k => decide (d.buf (32 + 8 * k) 2 / 2048 ≠ 0) || decide (d.buf (34 + 8 * k) 2 ≠ 0))
      badArg := decide (95 < p) || s.portInactive p || decide (256 < n) || decide (d.extLen < 32 + 8 * n) || decide (cycle < 1000) ||
        decide (4000000000 < cycle) || decide (1000000000 ≤ baseNs) ||
        es.any (fun e => decide (e.interval < 64) || decide (1000000000 < e.interval) || decide (2 < e.op)) ||
        (decide (n ≠ 0) && decide ((es.map (fun e => e.interval)).sum ≠ cycle)) } (fun s =>
    let base := baseS * 1000000000 + baseNs
    let at' := s.gclChange cycle base
    let g : Gcl := { cycle := cycle, baseS := baseS, baseNs := baseNs, cycExt := d.buf 18 2, entries := es, start := at' }
    let t := s.setPort p { s.port p with gclPend := some g }
    match t.firstBroken p with
    | some i => s.complete d 0x9801 .boundRefused 0 (leBytes (s.handleOf .flow i).toNat 4)
    | none => t.complete d 0x9801 .ok 0 (leBytes 0 4 ++ leBytes (at' / 1000000000) 6 ++ leBytes (at' % 1000000000) 4))

/-- Copies leave without being sent, with an OUTCOME for their records. -/
def State.flushCopies (s : State) (l : List Nat) (outcome : Nat) : State :=
  l.foldl (fun s c => match s.copy? c with
    | some x => (s.tsLost x outcome).removeCopy c
    | none => s) s

/-! ## The flow object (R94, R95, R459) -/

/-- The SQ copies of a flow that wait. -/
def State.flowCopies (s : State) (i : Nat) : List Nat :=
  (s.fab.copies.filter (fun e => decide (e.2.flow = some i) && (decide (e.2.st = .queued) || decide (e.2.st = .wait)))).foldl
    (fun l e => insertAsc e.1 l) []

/-- Frames of the flow that are left are discarded, their records with OUTCOME 3 (Table HDL-5). -/
def State.flowAbort (s : State) (i : Nat) : State := ((s.flowCopies i).foldl (fun s c => s.flushCopies [c] 3) s).afterFree

/-- A DESTROY completes: the reservation and the classifier entry are released (R158, R189). -/
def State.flowDrop (s : State) (i : Nat) : State :=
  let x := s.flow i
  let s1 := s.addRsv x.pool (-(x.nf : Int))
  ({ s1 with
    sw := { s1.sw with flows := Tab.erase s1.sw.flows i }
    fdb := { s1.fdb with bound := s1.fdb.bound.filter (fun e => e.2 != i) }
    bpm := { s1.bpm with bufs := s1.bpm.bufs.map (fun e => if e.2.flow = some i then (e.1, { e.2 with flow := none }) else e)
                         reqs := (s1.bpm.bufs.filter (fun e => decide (e.2.flow = some i))).foldl
                           (fun t e => let q : ReqSt := Tab.get {} t e.2.owner
                             Tab.set t e.2.owner { q with used := q.used + bufUnits (bufPool e.1) }) s1.bpm.reqs } } : State).rsvChanged

/-- An ENABLE completes (R95, R135): a full bucket, and SQ from the next frame boundary of the ingress port. -/
def State.flowResume (s : State) (i : Nat) : State :=
  let x := s.flow i
  s.setFlow i { x with tokens := bucketFull x.maxFrame, tokAt := s.clk.now, rejoin := true }

/-- RESULT bytes 4 to 15 of a QUERY, and the status in the buffer from byte 20 (R459). -/
def State.flowQuery (s : State) (i : Nat) : List Byte :=
  leBytes (s.flow i).bound 4 ++ leBytes (s.flow i).rate 4 ++ leBytes (s.flow i).nf 4
def State.flowStatus (s : State) (i : Nat) : List Byte := s.flowQuery i ++ leBytes (s.flow i).pool 1 ++ leBytes 0 3

/-- A flow stops its intake, then its frames drain (R94, Table HDL-5); `limit` of the command, the default being the flow's bound. -/
def State.flowEnd (s : State) (i : Nat) (x : Drain) (aborted : Nat) : State :=
  let o := s.obj .flow i
  let s1 := s.drainDone .flow i x aborted
  if x.destroy then
    let r := s1.flowRec i 1
    ((s1.flowDrop i).dropObj .flow i).pairDelta (.flow [r])
  else (s1.setObj .flow i { o with phase := .suspended, drain := none, waiting := [] }).pairDelta (.flow [s1.flowRec i 2])

/-- DESTROY or DISABLE of a flow, when its turn has come. -/
def State.flowDrainNow (s : State) (d : CmdDesc) (destroy : Bool) : State :=
  let i := hIndex d.handle
  let op := if destroy then 0x0104 else 0x0106
  s.namedGo .flow (op % 256) d op (s.targetChecks .flow d true false false (drainReserved d) false) (fun s =>
    let o := s.obj .flow i
    if s.standbyHost d then s.complete d op .notReady
    else if o.phase = .suspended ∧ !destroy then s.complete d op .ok
    else
      let n := if o.phase = .suspended then 0 else (s.flowCopies i).length
      let x : Drain := { desc := d, destroy := destroy, limitUs := d.drainLimit ((s.flow i).bound / 1000) 500000, start := s.clk.now, items := n }
      let t := s.setObj .flow i { o with phase := .draining, drain := some x }
      if n = 0 then t.flowEnd i x 0 else if d.drainNow then (t.flowAbort i).flowEnd i x n else t)

/-- ENABLE of a flow, when its turn has come (R95). -/
def State.flowEnableNow (s : State) (d : CmdDesc) : State :=
  let i := hIndex d.handle
  s.namedGo .flow 7 d 0x0107 (s.targetChecks .flow d true false false (!(d.zero 12 32)) false) (fun s =>
    let o := s.obj .flow i
    if s.standbyHost d then s.complete d 0x0107 .notReady
    else match o.phase with
      | .suspended =>
        let t := (s.setObj .flow i { o with phase := .active }).flowResume i
        (t.pairDelta (.flow [t.flowRec i 3])).complete d 0x0107 .ok
      | _ => s.complete d 0x0107 .ok)

/-- A change of a scheduling word of port `k.i` under which an admitted flow would lose its promise keeps the applied value of the
word (R139); `t` is the state with the change. -/
def State.capCheck (s t : State) (k : RegKey) (m : Word) : State :=
  match t.firstBroken k.i with
  | some f => (s.revertBits k m).raise Ev.swCapRefused k.i (s.handleOf .flow f).toNat
  | none => t

/-- A committed scheduling word takes effect, or keeps its applied value (R139). -/
def State.capWord (s : State) (k : RegKey) : State :=
  let m := k.pointMask .cmt
  if (k.name ≠ .portCfg ∧ k.name ≠ .portSchedCap) ∨ (s.waitingAt .cmt (fun x => decide (x = k))) = [] then s
  else
    let t := s.capCheck (s.copyBits k m) k m
    { t with regs := { t.regs with pend := dropPoint t.regs.pend .cmt (fun x => decide (x = k)) } }

/-- What waited, when its turn has come: 0 CREATE, 1 MODIFY, 2 BOUND_QUERY, 4 a flow of the primary, 5 DESTROY, 6 DISABLE, 7 ENABLE of a
flow that a MODIFY before it names, 8 a committed scheduling word, else GCL_SET. -/
def State.admRun (s : State) (w : AdmWait) : State :=
  match w.kind with
  | 0 => s.flowCreateNow w.desc
  | 1 => s.flowModifyNow w.desc
  | 2 => s.boundQueryNow w.desc
  | 4 => s.flowMirrored w.desc
  | 5 => s.flowDrainNow w.desc true
  | 6 => s.flowDrainNow w.desc false
  | 7 => s.flowEnableNow w.desc
  | 8 => w.word.elim s (fun k => s.capWord k)
  | _ => s.gclSetNow w.desc

/-- A committed scheduling word is evaluated, or waits for the admission in progress (R139; log entry 94). -/
def State.capNext (s : State) (k : RegKey) : State :=
  if s.admBusy then { s with sw := { s.sw with admQ := s.sw.admQ ++ [⟨8, { src := .boot }, some k⟩] } } else s.capWord k

/-- The commands that wait run in order until one waits under R16 itself. -/
def State.admDrain (s : State) : Nat → State
  | 0 => s
  | n + 1 =>
    if s.admBusy then s
    else match s.sw.admQ with
      | [] => s
      | w :: l => (({ s with sw := { s.sw with admQ := l } } : State).admRun w).admDrain n

/-- Every command that can run now. -/
def State.admGo (s : State) : State := s.admDrain (s.sw.admQ.length + 1)

/-- A command of R139 that has started waits while another is evaluated, else it runs. -/
def State.admNext (s : State) (kind : Nat) (d : CmdDesc) : State :=
  if s.admBusy then { s with sw := { s.sw with admQ := s.sw.admQ ++ [⟨kind, d, none⟩] } } else s.admRun ⟨kind, d, none⟩

/-- A command of R139 is taken. -/
def State.admTake (s : State) (kind op : Nat) (d : CmdDesc) : State :=
  if s.startBlocked d op then s else (s.startCmd d).admNext kind d

/-- A command that names a flow waits behind a MODIFY of the same flow that waits itself (R92). -/
def State.flowNext (s : State) (kind : Nat) (d : CmdDesc) : State :=
  let i := hIndex d.handle
  if s.sw.wait.any (fun w => w.modify && w.index == i) ||
      s.sw.admQ.any (fun w => (w.kind == 1 || decide (5 ≤ w.kind)) && decide (w.desc.handle = d.handle)) then s.admNext kind d
  else s.admRun ⟨kind, d, none⟩

/-- A command that waited behind the drain of its flow runs (R92). -/
def State.flowAgain (s : State) (w : WaitingCmd) : State :=
  match w.verb with
  | 2 => s.admNext 1 w.desc
  | 4 => s.flowNext 5 w.desc
  | 6 => s.flowNext 6 w.desc
  | _ => s.flowNext 7 w.desc

/-- A command that names a flow is taken. -/
def State.flowTake (s : State) (kind op : Nat) (d : CmdDesc) : State :=
  if s.startBlocked d op then s else (s.startCmd d).flowNext kind d

/-- FLOW_BOUND_CONFIRM (R16): SW_ASSURED meets the new target, or VDD_CORE is at its highest set point and it does not. -/
def State.flowBoundConfirm (s : State) (i : Nat) : State :=
  match s.sw.wait with
  | none => s
  | some w =>
    if w.index ≠ i ∨ w.stage ≠ 0 then s
    else if s.waitMet w then (s.flowLocal w).admGo
    else if s.sw.vset = 880 ∧ s.vddSettled then
      let a := flowArgsOf w.desc.objArgs
      (s.flowRefuse w (s.boundOf a (s.flowsTo a.out (some w.index)) 5715)).admGo
    else s

/-! ## Canary rings (R121, R122) -/

/-- The sum of the two middle values of a sorted list: twice its median. -/
def median2 (l : List Nat) : Nat := l.getD ((l.length - 1) / 2) 0 + l.getD (l.length / 2) 0

/-- A value inserted in an ascending list, repeats kept. -/
def insertSorted (x : Nat) : List Nat → List Nat
  | [] => [x]
  | y :: l => if x ≤ y then x :: y :: l else y :: insertSorted x l

/-- A ring's window: `r` its rate before the guard band, `m2` twice the median of the valid rings. -/
def Canary.window (c : Canary) (r m2 : Nat) : Canary :=
  let inside := decide (r ≠ 0) && decide (8 * (2 * (r : Int) - (m2 : Int)).natAbs ≤ m2)
  if c.excluded then
    if !inside then { c with good := 0, rate := r * 15 / 16 }
    else if 100 ≤ c.good + 1 then { valid := true, excluded := false, good := 0, rate := r * 15 / 16 }
    else { c with good := c.good + 1, rate := r * 15 / 16 }
  else { valid := inside, excluded := !inside, good := 0, rate := r * 15 / 16 }

/-- CANARY_WINDOW. -/
def State.canaryWindow (s : State) (rates : List Nat) (load : Nat) : State :=
  let sorted := ((List.range 24).filter (fun k => !((s.sw.rings.getD k {}).excluded) && decide (0 < rates.getD k 0))).foldl
    (fun l k => insertSorted (rates.getD k 0) l) []
  let m2 := median2 sorted
  let rings := (List.range 24).map (fun k => (s.sw.rings.getD k {}).window (rates.getD k 0) m2)
  let bad := (List.range 24).filter (fun k => (rings.getD k {}).excluded && !((s.sw.rings.getD k {}).excluded))
  let valid := rings.filter (fun c => c.valid)
  let mins := if valid = [] then s.sw.mins else (valid.map (fun c => c.rate)).foldl min 0xFFFF :: s.sw.mins |>.take 4
  let low := decide (valid.length < 20)
  let assured := if low && s.sw.assured == 0 then 0 else mins.foldl min 0xFFFF
  let s1 : State := { s with sw := { s.sw with
    rings := rings, mins := mins, assured := assured, lowest := min s.sw.lowest assured, fLoad := load, canaryLow := low } }
  let s2 := bad.foldl (fun s k => s.raise Ev.swCanaryFault k) s1
  let s3 := if low then s2.vddMax else ((s2.setReady Rdy.fabric true).setReady Rdy.bpm true).setReady Rdy.fdb true
  (s3.vddRaise).floorCheck

/-- VDD_LOWER_TICK (R124, R127). -/
def State.vddLowerTick (s : State) : State :=
  if s.vsActs && !s.sw.avsFail && decide (s.fReq * (104 + s.margin) < s.sw.assured * 100) && decide (s.vmin < s.sw.vset) then
    s.vddWrite (max s.vmin (s.sw.vset - max 1 (s.ap Fld.swVsCtrl_STEP_MV)))
  else s

/-- VSCALE_UNHELD_TIMEOUT (R17). -/
def State.vscaleUnheldTimeout (s : State) : State :=
  if s.taskHeld 1 then s else ({ s with sw := { s.sw with hwMax := true } } : State).vddMax

/-- An engine takes the voltage task again (R17). -/
def State.vscaleTaken (s : State) : State := { s with sw := { s.sw with hwMax := false } }

/-- A write of SW_VS_CTRL has applied: with EN 0 the set point is 880 mV (R124). -/
def State.vsCtrlApplied (s : State) : State := if s.apB Fld.swVsCtrl_EN then s else s.vddMax

/-- A read-back more than 20 mV below the set point (R141, R445). -/
def State.vddRead (s : State) (mv : Nat) : State := if mv + 20 < s.sw.vset then s.condSet 1 else s

/-- AVS_WRITE_DONE (R127). -/
def State.avsWriteDone (s : State) (acked : Bool) (mv : Nat) : State :=
  if !s.sw.writing then s
  else
  let s := if acked then s.vddRead mv else s
  if acked && decide (mv ≤ s.sw.vset + 10) && decide (s.sw.vset ≤ mv + 10) then
    ({ s with sw := { s.sw with writing := false, attempts := 0, avsFail := false } } : State).floorCheck
  else if s.sw.attempts < 4 then { s with sw := { s.sw with writing := false, retrying := true } }
  else
    let s1 := ({ s with sw := { s.sw with writing := false, retrying := false, avsFail := true } } : State).raise Ev.swAvsFail
    (match s1.sw.wait with
      | some w => if w.stage = 0 then (s1.flowRefuse w none).admGo else s1
      | none => s1).floorCheck

/-- AVS_RETRY (R127). -/
def State.avsRetry (s : State) : State :=
  if s.sw.retrying then { s with sw := { s.sw with retrying := false, writing := true, attempts := s.sw.attempts + 1 } } else s

/-- AVS_STATUS_READ and AVS_ALERT (R126, R141). -/
def State.avsStatus (s : State) (mv ma : Nat) : State := ({ s with sw := { s.sw with currentMa := ma } } : State).vddRead mv

/-- SW_COND_CLEAR (R141): FLOOR only while SW_ASSURED covers F_ADM. -/
def State.swCondClear (s : State) (b : Nat) : State :=
  if bitAt s.sw.cond b ∧ !(decide (b = 2) && decide (s.sw.assured < s.fAdm)) then { s with sw := { s.sw with cond := s.sw.cond - 2 ^ b } }
  else s

/-! ## Gates (R130 to R132) -/

/-- The gates of a port before any list: all open. -/
def allGates : Nat := 0x1FF

/-- The gates that entry `k` of the operational list gives. -/
def PortSt.entryGates (x : PortSt) (k : Nat) : Nat :=
  match Gcl.live x.gcl with
  | some g => ((g.entries[k]?).map (fun e => e.gates)).getD allGates
  | none => allGates

/-! Preemption (R133, R134; the sizes of 802.3br fragments: log entry 110). -/

/-- A queue of a port is preemptable: preemption is active and its TC is not express. -/
def State.preemptable (s : State) (p q : Nat) : Bool :=
  q != 8 && !(bitAt (s.ap Fld.portExpress_VAL p) q) && s.portPreempt p

/-- Bytes of a copy in transfer on port `p` that have been sent. -/
def State.txBytes (s : State) (p : Nat) (x : Copy) : Nat := x.txDone + (s.clk.now - x.txAt) * s.portRate p / 8000

/-- The copy in transfer on a port, when it is preemptable and not yet sent to its end. -/
def State.midTx (s : State) (p : Nat) : Option (Nat × Copy) :=
  (((s.port p).tx).bind (fun c => (s.copy? c).map (fun x => (c, x)))).filter
    (fun e => s.preemptable p e.2.q && decide (s.txBytes p e.2 < e.2.len))

/-- 802.3br lets the copy be preempted now: this fragment has 64 × (1 + ADD_FRAG) bytes with its check sequence, and at least 64 bytes
are left (PRESUMED: log entry 110). -/
def State.preemptPoint (s : State) (p : Nat) (x : Copy) : Bool :=
  decide (64 * (1 + s.ap Fld.portCfg_ADD_FRAG p) ≤ s.txBytes p x - x.txDone + 4) && decide (s.txBytes p x + 64 ≤ x.len)

/-- The preemptable copy in transfer is preempted when its gate is closed, preemptable traffic is held, or an express frame is ready;
its next fragment waits. -/
def State.preempt (s : State) (p : Nat) (express : Bool) : State :=
  match s.midTx p with
  | none => s
  | some (c, x) =>
    if (express || (s.port p).hold || !(bitAt (s.port p).gates x.q)) && s.preemptPoint p x then
      let t := s.setCopy c { x with txDone := s.txBytes p x }
      t.setPort p { t.port p with tx := none, frag := some c }
    else s

/-- The hold of preemptable traffic after an entry's operation: Set-And-Hold-MAC, Set-And-Release-MAC (Table SW-2). -/
def holdAfter (hold : Bool) (op : Nat) : Bool := if op = 1 then true else if op = 2 then false else hold

/-- Entry `k` of the operational list takes force: its gates and its operation. -/
def PortSt.enterEntry (x : PortSt) (k : Nat) : PortSt :=
  { x with gateIx := k, gates := x.entryGates k
           hold := holdAfter x.hold ((Gcl.live x.gcl).elim 0 (fun g => (g.entries.getD k ⟨0, 0, 0⟩).op)) }

/-- Nanoseconds from now to the cycle end at which the operational list stops for the pending one, when its last cycle is extended: the
end of this cycle is `r` ns away, the change `d` ns; none when the last cycle is cut short (R131; log entry 111). -/
def Gcl.lastEnd (g : Gcl) (r d : Nat) : Option Nat :=
  let b := r + (d - g.cycExt - r + g.cycle - 1) / g.cycle * g.cycle
  if b ≤ d then some b else none

/-- Nanoseconds to the change to a pending list. -/
def State.gclLeft (s : State) (g : Gcl) : Nat := g.start - totalNs s.tod

/-- GATE_CHANGE (R130): the next entry; the SQ gate held open by R132 follows the list again at the end of the cycle; the last cycle
before a pending list is extended by at most CYC_EXT (R131).  A preemptable frame whose gate has closed is preempted (R133). -/
def State.gateChange (s : State) (p : Nat) : State :=
  let x := s.port p
  match Gcl.live x.gcl with
  | none => s
  | some g =>
    let k := if x.gateIx + 1 < g.entries.length then x.gateIx + 1 else 0
    if x.gateExt then s
    else if k = 0 ∧ x.gclPend.any (fun y => decide (s.gclLeft y ≤ g.cycExt)) then s.setPort p { x with gateExt := true, sqOpen := false }
    else (s.setPort p { x.enterEntry k with sqOpen := x.sqOpen && decide (k ≠ 0) }).preempt p false

/-- GCL_ACTIVATE (R131). -/
def State.gclActivate (s : State) (p : Nat) : State :=
  let x := s.port p
  match x.gclPend with
  | none => s
  | some g =>
    let y : PortSt := { x with gcl := Gcl.live (some g), gclPend := none, sqOpen := false, gateExt := false
                               hold := x.hold && decide (g.entries ≠ []) }
    ((s.setPort p (y.enterEntry 0)).preempt p false).raise Ev.portGclActive

/-- The entry in force at offset `t` ns of the cycle. -/
def entryAt (l : List GclEntry) (t k : Nat) : Nat :=
  match l with
  | [] => 0
  | e :: l' => if t < e.interval then k else entryAt l' (t - e.interval) (k + 1)

/-- The hold that the operations of a cyclic list leave at entry `k`. -/
def Gcl.holdAt (g : Gcl) (hold : Bool) (k : Nat) : Bool :=
  ((g.entries.drop (k + 1)) ++ (g.entries.take (k + 1))).foldl (fun h e => holdAfter h e.op) hold

/-- The active core has stepped, or the other core has taken over: the gates take the state of the new time, and SQ stays open
until the end of the cycle (R132). -/
def State.gateResync (s : State) (p : Nat) : State :=
  let x := s.port p
  match Gcl.live x.gcl with
  | none => s
  | some g =>
    let t := (((totalNs s.tod : Int) - (g.start : Int)) % (g.cycle : Int)).toNat
    let k := entryAt g.entries t 0
    s.setPort p { x with gateIx := k, gates := x.entryGates k, hold := g.holdAt x.hold k, sqOpen := true, gateExt := false }

/-- Every port's gates after a step or a swap. -/
def State.gatesResync (s : State) : State := (s.fab.ports.map (fun e => e.1)).foldl (fun s p => s.gateResync p) s

/-- GCL_GET (Table SW-12). -/
def State.gclGet (s : State) (d : CmdDesc) : State :=
  let p := d.buf 0 2
  let pend := bitAt (d.buf 2 1) 0
  let c := unitChecks d true .port false [Rdy.fabric]
  s.runCmd d 0x9802 { c with
      absent := !(d.badForm true) && decide (p < 96) && !(s.portExists p)
      badForm := c.badForm || decide (2 ≤ d.buf 2 1) || !(((d.ext.take d.extLen).drop 3).take 29 |>.all (fun b => decide (b = 0)))
      badArg := decide (95 < p) || s.portInactive p || decide (d.extLen < 2080) } (fun s =>
    match if pend then (s.port p).gclPend else (s.port p).gcl with
    | none => s.complete d 0x9802 .ok 0 (leBytes 0 2) (leBytes p 2 ++ leBytes 0 30)
    | some g => s.complete d 0x9802 .ok 0 (leBytes g.entries.length 2)
        (leBytes p 2 ++ leBytes g.entries.length 2 ++ leBytes g.cycle 4 ++ leBytes g.baseS 6 ++ leBytes g.baseNs 4 ++ leBytes g.cycExt 2 ++
          leBytes 0 12 ++ (g.entries.map (fun e => leBytes (e.gates + e.op * 512) 2 ++ leBytes 0 2 ++ leBytes e.interval 4)).flatten))

/-- PREEMPT_VERIFY (R133). -/
def State.preemptVerify (s : State) (p : Nat) (ok : Bool) : State :=
  let x := s.port p
  let lost := (s.sw.flows.any (fun e => e.2.preempt && (s.flowArgs e.1).out == p)) && !x.verifyFailed
  (s.setPort p { x with verified := ok, verifyFailed := !ok }).raiseIf (!ok && lost) Ev.portPreemptLost

/-! ## Meanings -/

/-- CANARY_WINDOW (R121, R122). -/
def execCanaryWindow (rates : List Nat) (load : Nat) (s : State) : Host.Outcome State Fault Refusal :=
  effect (decide (rates.length = 24)) s (s.canaryWindow rates load)

/-- VDD_LOWER_TICK (R124). -/
def execVddLowerTick (s : State) : Host.Outcome State Fault Refusal :=
  effect true s (s.vddLowerTick)

/-- VSCALE_UNHELD_TIMEOUT (R17). -/
def execVscaleUnheldTimeout (s : State) : Host.Outcome State Fault Refusal :=
  effect true s (s.vscaleUnheldTimeout)

/-- AVS_WRITE_DONE (R127). -/
def execAvsWriteDone (acked : Bool) (readMv : Nat) (s : State) : Host.Outcome State Fault Refusal :=
  effect true s (s.avsWriteDone acked readMv)

/-- AVS_RETRY (R127). -/
def execAvsRetry (s : State) : Host.Outcome State Fault Refusal :=
  effect true s (s.avsRetry)

/-- AVS_STATUS_READ (R126). -/
def execAvsStatusRead (readMv currentMa : Nat) (s : State) : Host.Outcome State Fault Refusal :=
  effect true s (s.avsStatus readMv currentMa)

/-- AVS_ALERT (R126). -/
def execAvsAlert (readMv currentMa : Nat) (s : State) : Host.Outcome State Fault Refusal :=
  effect true s (s.avsStatus readMv currentMa)

/-- SW_COND_CHANGE (R141). -/
def execSwCondChange (cause : Nat) (s : State) : Host.Outcome State Fault Refusal :=
  effect (decide (cause < 2)) s (s.condSet cause)

/-- SW_COND_CLEAR (R141). -/
def execSwCondClear (cause : Nat) (s : State) : Host.Outcome State Fault Refusal :=
  effect (decide (cause < 3)) s (s.swCondClear cause)

/-- FLOW_CREATE (R84, R137). -/
def execFlowCreate (d : CmdDesc) (s : State) : Host.Outcome State Fault Refusal :=
  effect (d.wf) s (s.admTake 0 0x0101 d)

/-- FLOW_MODIFY (R84, R137). -/
def execFlowModify (d : CmdDesc) (s : State) : Host.Outcome State Fault Refusal :=
  effect (d.wf) s (s.admTake 1 0x0102 d)

/-- FLOW_DESTROY (R94, R377). -/
def execFlowDestroy (d : CmdDesc) (s : State) : Host.Outcome State Fault Refusal :=
  effect (d.wf) s (s.flowTake 5 0x0104 d)

/-- FLOW_DISABLE (R94, R377). -/
def execFlowDisable (d : CmdDesc) (s : State) : Host.Outcome State Fault Refusal :=
  effect (d.wf) s (s.flowTake 6 0x0106 d)

/-- FLOW_ENABLE (R95, R377). -/
def execFlowEnable (d : CmdDesc) (s : State) : Host.Outcome State Fault Refusal :=
  effect (d.wf) s (s.flowTake 7 0x0107 d)

/-- FLOW_BOUND_CONFIRM (R16). -/
def execFlowBoundConfirm (flow : Nat) (s : State) : Host.Outcome State Fault Refusal :=
  effect (flowIndex flow) s (s.flowBoundConfirm flow)

/-- BOUND_QUERY (R152). -/
def execBoundQuery (d : CmdDesc) (s : State) : Host.Outcome State Fault Refusal :=
  effect (d.wf) s (s.admTake 2 0xA001 d)

/-- GCL_SET (R131). -/
def execGclSet (d : CmdDesc) (s : State) : Host.Outcome State Fault Refusal :=
  effect (d.wf) s (s.admTake 3 0x9801 d)

/-- GATE_CHANGE (R130). -/
def execGateChange (port : Nat) (s : State) : Host.Outcome State Fault Refusal :=
  effect (lanePort port) s (s.gateChange port)

/-- GCL_ACTIVATE (R131). -/
def execGclActivate (port : Nat) (s : State) : Host.Outcome State Fault Refusal :=
  effect (lanePort port) s (s.gclActivate port)

/-- GCL_GET (R152). -/
def execGclGet (d : CmdDesc) (s : State) : Host.Outcome State Fault Refusal :=
  effect (d.wf) s (s.gclGet d)

/-- PREEMPT_VERIFY (R133). -/
def execPreemptVerify (port : Nat) (ok : Bool) (s : State) : Host.Outcome State Fault Refusal :=
  effect (lanePort port) s (s.preemptVerify port ok)

end Sys2Proof.Machine
end

