-- ==== Sys2Proof/Machine/Look.lean ====
section
/-! DEFINITION. The arrival of a frame and its forwarding decision (chapter 8): kinds, the classifier, policing (R135), the steps of
Table FDB-1, the copies, mirror sessions. -/

set_option Elab.async false

namespace Sys2Proof.Machine

/-! ## What the parser finds -/

/-- The kind of a frame on a port (Table FDB-2). -/
def State.frameKind (s : State) (p : Nat) (h : FrameHdr) : Nat :=
  let udp := h.ip ≠ 0 ∧ (h.udpDst = 319 ∨ h.udpDst = 320)
  let e := s.ap Fld.fdbClsCfg_ECPRI_UDP
  if 2 ≤ h.tags then 6
  else if udp then (if h.ip = 4 then 4 else 5)
  else if (h.etype = 0xAEFE ∨ (h.ip ≠ 0 ∧ e ≠ 0 ∧ h.udpDst = e)) ∧ h.ecpriRev = 1 then
    (if s.apB Fld.fdbPortCfg_ORAN p && (h.ecpriType == 0 || h.ecpriType == 2) then 2 else 1)
  else if h.etype = 0x88F7 then 3
  else 6

/-- A kind of PTP. -/
def kindPtp (k : Nat) : Bool := 3 ≤ k && k ≤ 5

/-- The key of a frame in the layout of its kind (Table FDB-3). -/
def FrameHdr.key (h : FrameHdr) (kind : Nat) : Word :=
  if kind ≤ 2 then BitVec.ofNat 32 (h.ecpriType % 256 * 2 ^ 24 + h.pcId % 65536)
  else if kind ≤ 5 then BitVec.ofNat 32 (h.ptpDomain % 256 * 2 ^ 24 + h.ptpType % 16 * 2 ^ 16)
  else BitVec.ofNat 32 (h.dst % 2 ^ 32)

/-- The VID of a frame (R179): PVID for untagged and priority-tagged frames, 0 acting as 1. -/
def State.frameVid (s : State) (p : Nat) (h : FrameHdr) : Nat :=
  let v := (h.tci.getD 0) % 4096
  if v = 0 then max 1 (s.ap Fld.fdbPortCfg_PVID p) else v

/-- The traffic class: PCP of the tag one to one (Table SW-2), 0 for an untagged frame (log entry 26). -/
def FrameHdr.pcp (h : FrameHdr) : Nat := (h.tci.getD 0) / 8192 % 8

/-- Destination 01-80-C2-00-00-00 to -0F. -/
def FrameHdr.linkLocal (h : FrameHdr) : Bool := h.dst / 16 == 0x0180C200000

/-- A group address. -/
def macGroup (m : Nat) : Bool := bitAt m 40

/-- A frame hits a classifier entry (R187). -/
def clsHits (p kind vid : Nat) (h : FrameHdr) (e : ClsEntry) : Bool :=
  (e.port == p || e.port == 0xFFFF) && e.kind == kind && (e.vid == vid || e.vid == 0xFFFF) &&
  decide ((h.key kind ^^^ BitVec.ofNat 32 e.key) &&& BitVec.ofNat 32 e.mask = 0) && (kind != 6 || h.dst / 2 ^ 32 == e.macHi)

/-- The lowest entry that a frame hits. -/
def State.clsHit (s : State) (p kind vid : Nat) (h : FrameHdr) : Option (Nat × ClsEntry) :=
  (s.fdb.cls.filter (fun e => clsHits p kind vid h e.2)).foldl
    (fun b e => match b with
      | none => some e
      | some x => if e.1 < x.1 then some e else some x) none

/-- STATE of a port (R184). -/
def State.fdbState (s : State) (p : Nat) : Nat := s.ap Fld.fdbPortCfg_STATE p

/-! ## Policing (R135) -/

/-- The tokens of a flow now, in 10^-9 bit. -/
def State.tokensNow (s : State) (x : Flow) : Nat := min (bucketFull x.maxFrame) (x.tokens + x.kbps * (s.clk.now - x.tokAt))

/-- The flow of a frame admits it to policing: its object is ACTIVE and its frames do not wait to rejoin (R94, R95). -/
def State.flowLive (s : State) (i : Nat) : Bool := decide ((s.obj .flow i).phase = .active) && !((s.flow i).rejoin)

/-- A frame that matches flow `i` is policed at port `p`: conforming frames take their count, others are counted. -/
def State.police (s : State) (i p : Nat) (h : FrameHdr) : State × Bool :=
  let x := s.flow i
  let t := s.tokensNow x
  let need := (h.len + 20) * 8 * 1000000000
  if h.express && decide (h.len ≤ x.maxFrame) && decide (need ≤ t) then (s.setFlow i { x with tokens := t - need, tokAt := s.clk.now }, true)
  else (s.bump Fld.portFlowNonconf_VAL p, false)

/-! ## Arrival -/

/-- What a latch at the internal plane of a port takes to its MDI, in units (R215): the board delay, the CAL set of the timestamp unit,
the delay of the peaking code (receive), and in an RS-FEC mode the position of the alignment markers.  On a four-lane port the first
lane counts.  Signs: log entry 114. -/
def State.mdiDelay (s : State) (p : Nat) (rx : Bool) (marker : Int) : Int :=
  let am := if s.quadFec (p / 4) = 2 then marker else 0
  let c := s.calForce 1 p
  if rx then (am - s.apI Fld.tcorePortTs_BOARD_RX p) * (unitsPerPs : Int) + (c.a - s.codeDelay p (s.lane p).cur) * (unitsPerFrac : Int)
  else (am + s.apI Fld.tcorePortTs_BOARD_TX p) * (unitsPerPs : Int) + c.b * (unitsPerFrac : Int)

/-- A latch of the active core at the MDI of a port, now: the instant, whether it is refined, and the state after it.  A port that
refines takes the nearest instant of its grid; one farther from it than G/4 keeps the coarse latch and counts (R215, R236, R237). -/
def State.latchAt (s : State) (p : Nat) (rx : Bool) (marker : Int) : State × Nat × Bool :=
  let x := s.lnkPort p
  let t : Int := s.tod
  let d := s.mdiDelay p rx marker
  let mark := fun (s : State) (ok : Bool) =>
    let y := s.lnkPort p
    s.setLnk p (if rx then { y with rxRefined := ok } else { y with txRefined := ok })
  match s.refined p rx t with
  | none => (mark s false, (t + d).toNat, false)
  | some (f, g) =>
    if 4 * (f - t).natAbs ≤ g then (mark (s.setLnk p { x with snapBad := 0 }) true, (f + d).toNat, true)
    else (mark (s.lnkSnapBad p) false, (t + d).toNat, false)

/-- TS48 of an instant, with the flags of the active core. -/
def State.tsAt (s : State) (t : Nat) : Ts48 :=
  { ns := totalNs t % 2 ^ 32, frac := fracOf t, valid := true, unlocked := s.unlockedTime, core := s.clk.active }

/-- The PTP latches and event message counts of a port (Table TCORE-13). -/
def State.portPtp (s : State) (p : Nat) : PortPtp := Tab.get {} s.tcore.ports p
def State.setPortPtp (s : State) (p : Nat) (x : PortPtp) : State := { s with tcore := { s.tcore with ports := Tab.set s.tcore.ports p x } }

/-- The flow that the classifier gives a frame before any other step stops it (Table FDB-1, steps 1 to 4). -/
def State.boundFlow (s : State) (p : Nat) (h : FrameHdr) : Option Nat :=
  let vid := s.frameVid p h
  if s.fdbState p ≠ 0 ∨ h.linkLocal ∨ !(bitAt (s.vlan vid).1 p) then none
  else match s.clsHit p (s.frameKind p h) vid h with
    | some (i, e) => if bitAt e.action 0 then none else Tab.find s.fdb.bound i
    | none => none

/-- INGRESS_FRAME: the ingress latch, policing at the SFD, the tag of R360; a port that is not up receives nothing, one
whose intake has stopped discards (R116). -/
def State.ingressFrame (s : State) (p : Nat) (h : FrameHdr) : State :=
  if !((s.port p).up) then s
  else if s.intakeStopped p then s.setPort p { s.port p with ingDisc := satAdd 32 (s.port p).ingDisc 1 }
  else
    let l := s.latchAt p true h.marker
    let s1 := l.1
    let ts := s.tsAt l.2.1
    let k := s1.frameKind p h
    let s2 := if kindPtp k then s1.setPortPtp p { s1.portPtp p with
        lastIn := ts, rx := satAdd 32 (s1.portPtp p).rx (b2n (decide (h.ptpType < 4))) } else s1
    let fl := (s2.boundFlow p h).filter (fun i => s2.flowLive i)
    let r := match fl with
      | some i => s2.police i p h
      | none => (s2, false)
    let s3 := r.1
    let n := s3.fab.nextFrame
    let f : Frame := {
      port := p, h := h, ts := ts, tod := l.2.1, stepSum := s3.fab.stepSum, stepN := s3.tcore.stepN, refined := l.2.2
      phi := (s.lnkPort p).phi, latchAt := s.clk.now, flow := fl, conforms := r.2 }
    let tag := s3.apB Fld.perfTagCfg_EN && (s3.ap Fld.perfTagCfg_K == 0 || Config.freeBit s3.free)
    { s3 with
      free := s3.free + 1
      fab := { s3.fab with frames := Tab.set s3.fab.frames n f, nextFrame := n + 1 }
      eng := if tag then { s3.eng with tagged := Tab.set s3.eng.tagged n [some s.clk.now, some s.clk.now, none, none, none] } else s3.eng }

/-! ## 802.1CB functions (R199, R200, R374) -/

/-- What a recovery function does with a frame's sequence number: the function after it, and whether the frame passes.  A clear bit that
no number since the reset has reached is not lost when it moves out (Example FDB-1). -/
def CbFn.recover (x : CbFn) (seq : Option Nat) : CbFn × Bool :=
  match seq with
  | none => ({ x with tagless := satAdd 32 x.tagless 1 }, true)
  | some n =>
    match x.recov with
    | none => ({ x with recov := some n, history := 1, histLen := 1, passed := satAdd 32 x.passed 1 }, true)
    | some r =>
      if x.type = 2 then
        if n = r then ({ x with discarded := satAdd 32 x.discarded 1 }, false)
        else ({ x with recov := some n, passed := satAdd 32 x.passed 1 }, true)
      else
        let d := signed 16 ((n + 65536 - r) % 65536)
        if (x.hist : Int) ≤ d.natAbs then ({ x with rogue := satAdd 32 x.rogue 1 }, false)
        else if 0 < d then
          let k := d.toNat
          let lost := (List.range k).filter (fun j => decide (x.hist - 1 - j < x.histLen) && !(bitAt x.history (x.hist - 1 - j)))
          ({ x with recov := some n, history := (x.history * 2 ^ k + 1) % 2 ^ x.hist, histLen := min x.hist (x.histLen + k)
                    passed := satAdd 32 x.passed 1, lost := satAdd 32 x.lost lost.length }, true)
        else
          let b := (-d).toNat
          if bitAt x.history b then ({ x with discarded := satAdd 32 x.discarded 1 }, false)
          else ({ x with history := x.history + 2 ^ b, passed := satAdd 32 x.passed 1, outOfOrder := satAdd 32 x.outOfOrder 1 }, true)

/-- What a generation function gives a frame: the function after it, and the number that its copies carry. -/
def CbFn.generate (x : CbFn) (h : FrameHdr) : CbFn × Option Nat :=
  if x.src = 1 then (if h.rtag.isSome then x else { x with tagless := satAdd 32 x.tagless 1 }, none)
  else if x.src = 2 then
    if h.etype = 0xAEFE ∨ h.ecpriRev = 1 then
      let w := if h.seqId + 128 < x.lastId then (x.wrap + 1) % 256 else x.wrap
      ({ x with wrap := w, lastId := h.seqId }, some (w * 256 + h.seqId))
    else ({ x with tagless := satAdd 32 x.tagless 1 }, none)
  else ({ x with nextSeq := (x.nextSeq + 1) % 65536 }, some x.nextSeq)

/-! ## The decision (Table FDB-1) -/

/-- A destination: port, queue (8 for SQ), REASON for the host, flow whose SQ copy it is. -/
structure Dest where
  port : Nat
  q : Nat
  reason : Nat := 0
  flow : Option Nat := none
  deriving DecidableEq, Repr

/-- What a lookup gives: destinations, what is counted, whether the frame is learned, the functions that act at eligibility, the
entries used, the traffic class and VID, the classifier entry hit, and whether the engine side takes it. -/
structure Decision where
  dests : List Dest := []
  count : Option FieldRef := none
  learn : Bool := false
  cbFn : Option Nat := none
  genFn : Option Nat := none
  uses : List EntryKey := []
  tc : Nat := 0
  vid : Nat := 0
  hit : Option Nat := none
  mark : Option (Nat × Nat) := none
  deriving DecidableEq, Repr

/-- A port may send a frame of a VID received on port `p`: present, active, FORWARDING, a member, not the ingress port. -/
def State.egressOk (s : State) (p members e : Nat) : Bool :=
  s.portExists e && !(s.portInactive e) && e != p && bitAt members e && s.fdbState e == 0

/-- Step 6: the destinations of the FDB, or of a flood. -/
def State.fdbDests (s : State) (p vid tc : Nat) (h : FrameHdr) (d : Decision) : Decision :=
  let m := (s.vlan vid).1
  let some' := fun (set : Nat) => ((List.range 97).filter (fun e => bitAt set e && s.egressOk p m e)).map (fun e => ({ port := e, q := tc } : Dest))
  match s.fdbEntry? h.dst vid with
  | some e =>
    let d := { d with uses := .fdb h.dst vid :: d.uses, mark := some (h.dst, vid) }
    if bitAt e.dest 15 then
      let g := e.dest % 4096
      let set := s.mcGroup g
      let d := { d with uses := .mcg g :: d.uses }
      if (List.range 97).any (fun x => bitAt set x && bitAt m x && x != p && s.portExists x && !(s.portInactive x)) then { d with dests := some' set }
      else { d with count := some Fld.fdbMcEmpty_VAL }
    else if !(bitAt m e.dest) then { d with count := some Fld.fdbVlanDisc_VAL }
    else if s.egressOk p m e.dest then { d with dests := [{ port := e.dest, q := tc }] }
    else d
  | none =>
    let all := bitMap (fun e => macGroup h.dst || s.apB Fld.fdbPortCfg_UNK_FLOOD e) 97
    { d with dests := some' all }

/-- The ports of a generation function that may send the frame (R199). -/
def State.replDests (s : State) (p vid tc f : Nat) : List Dest :=
  match s.cbFn? f with
  | some x => if x.type = 0 then ((portsOf x.ports).filter (fun e => s.egressOk p (s.vlan vid).1 e)).map (fun e => ({ port := e, q := tc } : Dest)) else []
  | none => []

/-- Steps 4 to 6 for a frame with classifier entry `i`; a frame of the host with SCHED belongs to the flow that its descriptor names
(R64; log entry 112). -/
def State.routeDests (s : State) (fr : Frame) (p vid tc : Nat) (hit : Option (Nat × ClsEntry)) (d : Decision) : Decision :=
  let h := fr.h
  let repl := hit.bind (fun e => if bitAt e.2.action 5 && (s.cbFn? e.2.cbFn).any (fun x => x.type == 0) then some e.2.cbFn else none)
  let rcvy := hit.bind (fun e => if bitAt e.2.action 6 && (s.cbFn? e.2.cbFn).any (fun x => x.type != 0) then some e.2.cbFn else none)
  let uses := d.uses ++ (repl.toList ++ rcvy.toList).map EntryKey.cb
  let d := { d with cbFn := rcvy, genFn := repl, uses := uses }
  match fr.sched.orElse (fun _ => hit.bind (fun e => Tab.find s.fdb.bound e.1)) with
  | some k =>
    let a := s.flowArgs k
    let cls := a.cls % 8
    let sq := s.flowLive k && (p == 96 || (decide (fr.flow = some k) && fr.conforms))
    let main := if s.egressOk p (s.vlan vid).1 a.out then
        [({ port := a.out, q := if sq then 8 else cls, flow := if sq then some k else none } : Dest)] else []
    let rest := (repl.map (fun f => (s.replDests p vid cls f).filter (fun x => x.port != a.out))).getD []
    { d with
      dests := main ++ rest, tc := cls
      count := if main = [] ∧ rest = [] ∧ !(bitAt (s.vlan vid).1 a.out) then some Fld.fdbVlanDisc_VAL else none }
  | none =>
    match repl with
    | some f => { d with dests := s.replDests p vid tc f }
    | none => s.fdbDests p vid tc h d

/-- The decision for a frame: the host's trap only while port 96 is FORWARDING (R184); a frame of the host without SCHED has the traffic
class of its descriptor (R64). -/
def State.decide' (s : State) (fr : Frame) : Decision :=
  let p := fr.port
  let h := fr.h
  let st := s.fdbState p
  let vid := s.frameVid p h
  let kind := s.frameKind p h
  let canLearn := s.apB Fld.fdbCfg_LEARN_EN && s.apB Fld.fdbPortCfg_LEARN p && decide (st < 2) && !(macGroup h.src)
  let d0 : Decision := { vid := vid, tc := fr.hostTc.getD h.pcp, uses := [.vlan vid] }
  let host := fun (d : Decision) (r : Nat) => if s.fdbState 96 = 0 then { d with dests := [{ port := 96, q := d.tc, reason := r }] } else d
  if st ≠ 0 ∧ !h.linkLocal then { d0 with learn := canLearn, count := some Fld.fdbStateDisc_VAL }
  else if h.linkLocal && !(kindPtp kind) then (if h.etype = 0x8808 then d0 else host d0 2)
  else
    let hit := s.clsHit p kind vid h
    let d1 : Decision := match hit with
      | some (i, e) => { d0 with hit := some i, uses := .cls i :: d0.uses, tc := if bitAt e.action 1 then bitsOf e.action 2 3 else d0.tc }
      | none => d0
    let trap := hit.any (fun e => bitAt e.2.action 0)
    if trap then host d1 1
    else
      let ptp := min 2 (s.ap Fld.fdbClsCfg_PTP_UNBOUND)
      if kindPtp kind && ptp == 1 then host d1 1
      else if kindPtp kind && (ptp == 2 || h.linkLocal) then { d1 with count := some Fld.fdbPtpDisc_VAL }
      else if !(bitAt (s.vlan vid).1 p) then { d1 with count := some Fld.fdbVlanDisc_VAL }
      else { s.routeDests fr p vid d1.tc hit d1 with learn := canLearn }

/-! ## Copies -/

/-- The port is treated as down by the forwarding stage: best-effort frames for it are discarded (R116, R146, R151). -/
def State.lookupDown (s : State) (e : Nat) : Bool :=
  if e = 96 then !(s.isReady Rdy.hif)
  else decide ((s.grp (e / 8)).st = .draining) || decide ((s.grp (e / 8)).st = .removed) || (!((s.port e).up) && !((s.port e).holding))

/-- A conforming frame still enters the SQ of a port that has lost LOCK, not of a group out of service (R116, R146). -/
def State.sqTakes (s : State) (e : Nat) : Bool :=
  !(decide ((s.grp (e / 8)).st = .draining)) && !(decide ((s.grp (e / 8)).st = .removed))

/-- The TCI with which a copy leaves: none on a port in the untag set; else the frame's own, its VID field set, or one made of the
traffic class (R180). -/
def FrameHdr.outTag (h : FrameHdr) (untag : Bool) (vid tc : Nat) : Option Nat :=
  if untag then none
  else match h.tci with
    | none => some (tc % 8 * 8192 + vid)
    | some t => some (if t % 4096 = 0 then t + vid else t)

/-- The copy of frame `f` for a destination, or a count in PORT_DOWN_DISC. -/
def State.makeCopy (s : State) (f : Nat) (fr : Frame) (d : Decision) (x : Dest) : State :=
  if s.lookupDown x.port && !(x.q == 8 && s.sqTakes x.port) then s.bump Fld.portDownDisc_VAL x.port
  else s.addCopy { frame := f, port := x.port, q := x.q, reason := x.reason, flow := x.flow
                   tag := fr.h.outTag (bitAt (s.vlan d.vid).2 x.port) d.vid d.tc
                   elig := if fr.port = 96 then fr.takenAt else s.clk.now }

/-- Session arguments (Table HDL-3). -/
def Obj.mirKind (o : Obj) : Nat := byteAt o.args 0
def Obj.mirPort (o : Obj) : Nat := leAt o.args 2 2
def Obj.mirFlow (o : Obj) : Word := BitVec.ofNat 32 (leAt o.args 4 4)
def Obj.mirTo (o : Obj) : Nat := leAt o.args 8 2
def Obj.mirTrunc (o : Obj) : Nat := leAt o.args 10 2

/-- Sessions that copy: their object is ACTIVE. -/
def State.mirrors (s : State) : List Nat :=
  (List.range 8).filter (fun m => match s.obj? .mirror m with
    | some o => decide (o.phase = .active)
    | none => false)

/-- A mirror copy joins the frame (R197): `len` bytes with tag `tag`, of queue `q`; `asRecv` when it is the frame as received. -/
def State.mirrorCopy (s : State) (f m q tc len : Nat) (tag : Option Nat) (asRecv : Bool) : State :=
  let o := s.obj .mirror m
  let e := o.mirTo
  if s.fdbState e ≠ 0 ∨ s.portInactive e then s
  else if s.lookupDown e then s.bump Fld.portDownDisc_VAL e
  else
    let c := if s.apB Fld.fdbMirCfg_TC_OVR m then s.ap Fld.fdbMirCfg_TC m else if q < 8 then q else tc
    s.addCopy { frame := f, port := e, q := c, len := if o.mirTrunc = 0 then len else min len o.mirTrunc, mirror := some m
                asRecv := asRecv, tag := tag, reason := 16 + m
                elig := ((s.frame? f).filter (fun x => x.port == 96)).elim s.clk.now (fun x => x.takenAt) }

/-- The length of a copy at its egress port with its tag as R180 has it; `rtag` an R-TAG added, `pop` one removed. -/
def FrameHdr.outLen (h : FrameHdr) (tag : Option Nat) (rtag pop : Bool) : Nat :=
  h.len + (if h.tci.isNone && tag.isSome then 4 else 0) + (if rtag then 6 else 0) - (if h.tci.isSome && tag.isNone then 4 else 0) -
    (if pop && h.rtag.isSome then 6 else 0)

/-- The length that a copy of a looked-up frame is queued with: its generation function adds an R-TAG, its recovery function removes
one. -/
def State.queuedLen (s : State) (fr : Frame) (x : Copy) : Nat :=
  if x.len ≠ 0 then x.len
  else fr.h.outLen x.tag ((fr.genFn.bind (fun k => s.cbFn? k)).any (fun g => (g.generate fr.h).2.isSome))
    ((fr.cbFn.bind (fun k => s.cbFn? k)).any (fun g => g.type != 0 && g.pop))

/-- Step 8: the copies of the sessions that the frame matches, as received (R196) and as queued for a source port; `hit` is the flow of
its classifier entry. -/
def State.mirrorFrame (s : State) (f tc : Nat) (hit : Option Nat) : State :=
  match s.frame? f with
  | none => s
  | some fr =>
    let made := (s.copiesOf f).filterMap (fun c => s.copy? c)
    s.mirrors.foldl (fun s m =>
      let o := s.obj .mirror m
      let k := o.mirKind
      let flow := decide (k = 3) && decide (hit = some (hIndex o.mirFlow)) && !(s.stale .flow o.mirFlow)
      let t := if ((k = 0 ∨ k = 2) ∧ o.mirPort = fr.port) ∨ flow = true then s.mirrorCopy f m 9 tc fr.h.len fr.h.tci true else s
      if k = 1 ∨ k = 2 then
        (made.filter (fun x => x.port == o.mirPort && x.mirror.isNone)).foldl
          (fun s x => s.mirrorCopy f m x.q tc (s.queuedLen fr x) x.tag false) t
      else t) s

/-- The entries of a list with the versions they have now (R191). -/
def State.withVersions (s : State) (l : List EntryKey) : List (EntryKey × Nat) := l.map (fun k => (k, s.fdb.version k))

/-- The pipeline of a frame serves conforming frames of admitted flows before all others, and among themselves in order of arrival
(R120): none of them that goes before frame `f` waits. -/
def State.lookupTurn (s : State) (f : Nat) (fr : Frame) : Bool :=
  (s.fab.frames.filter (fun e => e.2.conforms && !e.2.decided && !e.2.drop && pipeOf e.2.port == pipeOf fr.port)).all
    (fun e => fr.conforms && decide (f ≤ e.1))

/-- The decision of a looked-up frame: counts, HIT of the entry, the copies of all destinations (R178, R183, R195). -/
def State.lookupDone (s : State) (f : Nat) (fr : Frame) (d : Decision) : State :=
  let s1 := (match d.count with
    | some c => s.bump c
    | none => s).tagStage f 3
  let s2 : State := match d.mark.bind (fun k => (s1.fdbEntry? k.1 k.2).map (fun e => (k, e))) with
    | some (k, e) => { s1 with fdb := { s1.fdb with entries := Tab.set s1.fdb.entries k { e with hit := true } } }
    | none => s1
  let s3 := s2.setFrame f { fr with decided := true, learn := d.learn, vid := d.vid, tc := d.tc, cbFn := d.cbFn, genFn := d.genFn
                                    uses := s2.withVersions (d.uses ++ s2.mirrors.map EntryKey.mir) }
  d.dests.foldl (fun s x => s.makeCopy f fr d x) s3

/-- FORWARD_LOOKUP: one decision in the pipeline's order, the copies of all destinations, and the mirror copies; a frame that a timing
channel has claimed takes step 8 only (R120, R178, R195 to R197). -/
def State.forwardLookup (s : State) (f : Nat) : State :=
  match s.frame? f with
  | none => s
  | some fr =>
    if fr.decided ∨ fr.drop ∨ !(s.lookupTurn f fr) then s
    else if fr.toEngine then
      let k := (s.clsHit fr.port (s.frameKind fr.port fr.h) (s.frameVid fr.port fr.h) fr.h).bind (fun e => Tab.find s.fdb.bound e.1)
      (s.setFrame f { fr with decided := true, uses := s.withVersions (s.mirrors.map EntryKey.mir) }).mirrorFrame f fr.h.pcp k
    else
      let d := s.decide' fr
      (s.lookupDone f fr d).mirrorFrame f d.tc (d.hit.bind (fun i => Tab.find s.fdb.bound i))

/-! ## Meanings -/

/-- INGRESS_FRAME (R135, R215). -/
def execIngressFrame (port : Nat) (h : FrameHdr) (s : State) : Host.Outcome State Fault Refusal :=
  effect (lanePort port) s (s.ingressFrame port h)

/-- FORWARD_LOOKUP (R178). -/
def execForwardLookup (frame : Nat) (s : State) : Host.Outcome State Fault Refusal :=
  effect true s (s.forwardLookup frame)

end Sys2Proof.Machine
end

