-- ==== Sys2Proof/Machine/Fab.lean ====
section
/-! DEFINITION. Eligibility, queues, transmission and the ports (chapters 6 and 8): 802.1CB decisions (R199, R200), the scheduler
(R128 to R130), the egress latch (R215 to R219), flow control (R142, R143), ports down (R145 to R148). -/

set_option Elab.async false

namespace Sys2Proof.Machine

/-! ## Eligibility -/

/-- A copy enters its queue, or waits for the host; one over the egress MTU does not (R144, R164). -/
def State.enqueue (s : State) (fr : Frame) (c : Nat) (pop : Bool) : State :=
  match s.copy? c with
  | none => s
  | some x =>
    let len := if x.len ≠ 0 then x.len else fr.h.outLen x.tag x.rtag.isSome pop
    if s.mtu x.port < len then ((s.tsLost x 3).bump Fld.portMtuDisc_VAL x.port).removeCopy c
    else
      let dl := match x.flow with
        | some i => some (fr.tod / unitsPerNs + (s.flow i).bound - (s.portLatency x.port).2)
        | none => none
      let y : Copy := { x with
        len := if x.port = 96 ∧ x.mirror.isNone then len - 4 else len, st := if x.port = 96 then .host else .queued
        elig := if fr.port = 96 then x.elig else s.clk.now, deadline := if x.q = 8 then dl else none }
      let s1 := s.setCopy c y
      if x.port = 96 then s1 else s1.setQueue x.port x.q (s1.queue x.port x.q ++ [c])

/-- A frame from port 96 is policed where it becomes eligible (R135); a copy that does not conform leaves SQ. -/
def State.policeHost (s : State) (fr : Frame) (c : Nat) : State :=
  match (s.copy? c).bind (fun x => x.flow) with
  | none => s
  | some i =>
    let r := if s.flowLive i then s.police i 96 fr.h else (s, false)
    if r.2 then r.1
    else match r.1.copy? c with
      | some x => r.1.setCopy c { x with q := (r.1.flowArgs i).cls % 8, flow := none }
      | none => r.1

/-- The counters of an 802.1CB function, taken from `y`. -/
def CbFn.counts (x y : CbFn) : CbFn :=
  { x with passed := y.passed, discarded := y.discarded, outOfOrder := y.outOfOrder, rogue := y.rogue, lost := y.lost, tagless := y.tagless }

/-- The function of number `k` as the frame's lookup read it (R191): the one in force, or its retired copy, which counts in the one in
force. -/
def State.cbRead (s : State) (fr : Frame) (k : Nat) : Option CbFn :=
  match fr.uses.find? (fun e => e.1 == .cb k) with
  | none => none
  | some e =>
    if e.2 = s.fdb.version (.cb k) then s.cbFn? k
    else (Tab.find s.fdb.oldCb (k, e.2)).map (fun x => (s.cbFn? k).elim x (fun y => x.counts y))

/-- What that function has become is kept where it was read. -/
def State.cbKeep (s : State) (fr : Frame) (k : Nat) (x : CbFn) : State :=
  match fr.uses.find? (fun e => e.1 == .cb k) with
  | none => s
  | some e =>
    if e.2 = s.fdb.version (.cb k) then s.setCb k x
    else
      let t := (s.cbFn? k).elim s (fun y => s.setCb k (y.counts x))
      { t with fdb := { t.fdb with oldCb := Tab.set t.fdb.oldCb (k, e.2) x } }

/-- The recovery function of a frame decides (R200): the state after it, whether the frame passes, and whether its R-TAG is
removed. -/
def State.cbRecover (s : State) (fr : Frame) : State × Bool × Bool :=
  match fr.cbFn.bind (fun k => (s.cbRead fr k).map (fun x => (k, x))) with
  | some (k, x) => if x.type = 0 then (s, true, false) else
      let y := x.recover fr.h.rtag
      (s.cbKeep fr k y.1, y.2, x.pop)
  | none => (s, true, false)

/-- The generation function of a frame numbers it, and all its copies but those of mirror sessions carry the number (R199). -/
def State.cbGenerate (s : State) (fr : Frame) (cs : List Nat) : State :=
  match fr.genFn.bind (fun k => (s.cbRead fr k).map (fun x => (k, x))) with
  | some (k, x) =>
    let y := x.generate fr.h
    cs.foldl (fun s c => match s.copy? c with
      | some z => if z.mirror.isSome then s else s.setCopy c { z with rtag := y.2 }
      | none => s) (s.cbKeep fr k y.1)
  | none => s

/-- A failing FCS discards the frame (R14): its buffers return, and a frame of the host that brought its own FCS ends with BAD_ARG
(R68). -/
def State.fcsFail (s : State) (f : Nat) (fr : Frame) : State :=
  let s1 := s.setPort fr.port { s.port fr.port with ingDisc := satAdd 32 (s.port fr.port).ingDisc 1 }
  let s2 := if fr.port ≠ 96 then s1 else (List.range 24).foldl (fun s n => s.setRing n { s.ring n with
    fetched := (s.ring n).fetched.map (fun e => if e.frame = some f then { e with fcsBad := true } else e) }) s1
  (s2.dropFrame f).afterFree

/-- Every copy of a frame has the buffers that its bytes need. -/
def State.covered (s : State) (f : Nat) : Bool :=
  (s.copiesOf f).all (fun c => (s.copy? c).all (fun x => decide (s.copyBytes x ≤ x.capacity)))

/-- FRAME_ELIGIBLE (R14): a failing FCS discards the frame; the recovery function decides; copies enter their queues; the frame is
learned; a frame of the engine side is handed over.  The FCS that the part appends to a frame of the host does not fail. -/
def State.frameEligible (s : State) (f : Nat) (ok : Bool) : State :=
  match s.frame? f with
  | none => s
  | some fr =>
    if fr.eligible then s
    else if !ok && !fr.fcsIns then s.fcsFail f fr
    else if !fr.decided || !(s.covered f) then s
    else
      let fr1 := { fr with eligible := true, tod := if fr.port = 96 then s.tod else fr.tod }
      let r := ((s.setFrame f fr1).tagStage f 4).cbRecover fr
      let cs := r.1.copiesOf f
      let s3 := if r.2.1 then r.1.cbGenerate fr cs else cs.foldl (fun s c => match s.copy? c with
        | some x => if x.asRecv then s else s.removeCopy c
        | none => s) r.1
      let s4 := if fr.port = 96 then cs.foldl (fun s c => s.policeHost fr1 c) s3 else s3
      let s5 := cs.foldl (fun s c => s.enqueue fr1 c r.2.2) s4
      let s6 := if fr.learn && r.2.1 then s5.queueLearn ⟨fr.h.src, fr.vid, fr.port⟩ else s5
      (s6.frameGone f).afterFree

/-! ## Transmission selection (R128 to R133) -/

/-- Nanoseconds until the gate of queue `q` closes, from entries `l`, with the current entry `left` ns from its end; `none` when
the gate stays open. -/
def gateLeft (q : Nat) : List GclEntry → Nat → Option Nat
  | [], _ => none
  | e :: l, acc => if bitAt e.gates q then gateLeft q l (acc + e.interval) else some acc

/-- Nanoseconds until the operational list alone closes the gate of queue `q`, and until the end of its cycle (R130, R132). -/
def State.ownCloses (s : State) (p q : Nat) (g : Gcl) : Option Nat × Nat :=
  let x := s.port p
  let t := (((totalNs s.tod : Int) - (g.start : Int)) % (g.cycle : Int)).toNat
  let start := ((g.entries.take x.gateIx).map (fun e => e.interval)).sum
  let cur := (g.entries.getD x.gateIx ⟨0, 0, 0⟩).interval
  (if q = 8 ∧ x.sqOpen then gateLeft 8 g.entries (g.cycle - t)
   else gateLeft q (g.entries.drop (x.gateIx + 1) ++ g.entries.take (x.gateIx + 1)) (start + cur - t), g.cycle - t)

/-- The same up to the change to a pending list, `d` ns away: none when the gate stays open to the change.  In the extension of the last
cycle its last entry stays in force (R131). -/
def State.closesBefore (s : State) (p q d : Nat) : Option Nat :=
  match Gcl.live (s.port p).gcl with
  | none => none
  | some g =>
    let own := s.ownCloses p q g
    let lim := if (s.port p).gateExt then 0 else min d ((g.lastEnd own.2 d).getD d)
    own.1.filter (fun t => decide (t < lim))

/-- Nanoseconds until the gate of queue `q` of a port closes, under the operational list and then the pending one (R130 to R132); none
while nothing closes it. -/
def State.gateCloses (s : State) (p q : Nat) : Option Nat :=
  let x := s.port p
  match x.gclPend with
  | none => (Gcl.live x.gcl).bind (fun g => (s.ownCloses p q g).1)
  | some n =>
    let d := s.gclLeft n
    (s.closesBefore p q d).orElse (fun _ => (Gcl.live (some n)).bind (fun g => gateLeft q g.entries d))

/-- The gate of a queue is open. -/
def State.gateOpen (s : State) (p q : Nat) : Bool := bitAt (s.port p).gates q || (q == 8 && (s.port p).sqOpen)

/-- Nanoseconds from the start of a frame of `len` bytes to its last byte, rounded up. -/
def frameNs (rate len : Nat) : Nat := (8 * len + rate - 1) / max 1 rate

/-- A queue is held by received flow control (R143). -/
def State.queueHeld (s : State) (p q : Nat) : Bool :=
  let x := s.port p
  x.paused || (if q = 8 then bitAt x.pfcHeld (s.ap Fld.portCfg_SCHED_PCP p) else bitAt x.pfcHeld q)

/-- A preemptable TC may not send: flows of the port were admitted with preemption and verification has not succeeded since the
last LOCK (R133). -/
def State.preemptStops (s : State) (p q : Nat) : Bool :=
  q != 8 && !(bitAt (s.ap Fld.portExpress_VAL p) q) && s.apB Fld.portCfg_PREEMPT_EN p && !(s.portPreempt p) &&
  s.sw.flows.any (fun e => e.2.preempt && (s.flowArgs e.1).out == p)

/-- The copy at the head of a queue, if the scheduler may start it (R128, R130); no preemptable frame starts while another is preempted
or preemptable traffic is held (R133, R134). -/
def State.headOf (s : State) (p q : Nat) : Option (Nat × Copy) :=
  if !(s.gateOpen p q) || s.queueHeld p q || s.preemptStops p q || (s.preemptable p q && ((s.port p).frag.isSome || (s.port p).hold)) then none
  else ((s.queue p q).head?).bind (fun c => (s.copy? c).bind (fun x =>
    match s.gateCloses p q with
    | some t => if frameNs (s.portRate p) x.len < t then some (c, x) else none
    | none => some (c, x)))

/-- The TCs of a port in strict priority, highest first, and in DRR. -/
def State.strictTcs (s : State) (p : Nat) : List Nat := ((List.range 8).filter (fun t => !(bitAt (s.ap Fld.portTcMode_VAL p) t))).reverse
def State.drrTc (s : State) (p t : Nat) : Bool := bitAt (s.ap Fld.portTcMode_VAL p) t

/-- The turn passes to the next TC, which gains its quantum when it is in DRR and may start a frame (R129). -/
def State.drrTurn (s : State) (p : Nat) (x : PortSt) : PortSt :=
  let t := (x.turn + 1) % 8
  let gain := s.drrTc p t && (s.headOf p t).isSome
  { x with turn := t, credit := (if gain then Tab.set x.credit t (Tab.get 0 x.credit t + max 64 (s.ap Fld.portDrrQuant_VAL p t)) else x.credit) }

/-- Deficit round robin (R129): the TC whose turn it is sends while its credit covers its head frame. -/
def State.drrPick (s : State) (p : Nat) : Nat → PortSt → Option (Nat × PortSt)
  | 0, _ => none
  | n + 1, x =>
    let k := Tab.get 0 x.credit x.turn
    match (if s.drrTc p x.turn then s.headOf p x.turn else none : Option (Nat × Copy)) with
    | some (c, y) =>
      if y.len ≤ k then some (c, { x with credit := Tab.set x.credit x.turn (k - y.len) }) else s.drrPick p n (s.drrTurn p x)
    | none => s.drrPick p n (s.drrTurn p x)

/-- A copy starts its transfer. -/
def State.startTx (s : State) (p c : Nat) : State :=
  match s.copy? c with
  | none => s
  | some x =>
    let s1 := (s.setCopy c { x with st := .tx, selAt := some s.clk.now, txAt := s.clk.now, txDone := 0 }).unqueue c
    (s1.setPort p { s1.port p with tx := some c }).xoffUpdate

/-- An express frame is ready on a port: in SQ, a flow-control frame, or in an express TC (R133). -/
def State.expressReady (s : State) (p : Nat) : Bool :=
  (s.headOf p 8).isSome || decide ((s.port p).fc ≠ []) ||
    (List.range 8).any (fun t => bitAt (s.ap Fld.portExpress_VAL p) t && (s.headOf p t).isSome)

/-- The preempted frame goes on, unless its gate is closed or preemptable traffic is held (R133, R134). -/
def State.resumeTx (s : State) (p : Nat) : State :=
  match ((s.port p).frag).bind (fun c => (s.copy? c).map (fun x => (c, x))) with
  | none => s
  | some (c, x) =>
    if !(s.gateOpen p x.q) || ((s.port p).hold && s.portPreempt p) then s
    else
      let t := s.setCopy c { x with txAt := s.clk.now }
      t.setPort p { t.port p with tx := some c, frag := none }

/-- The frame that the scheduler picks at a frame boundary (R128): SQ, flow-control frames, strict TCs, DRR TCs; then the frame that is
preempted. -/
def State.pickTx (s : State) (p : Nat) : State :=
  match s.headOf p 8 with
  | some (c, _) => s.startTx p c
  | none =>
    match (s.port p).fc with
    | _ :: l => (s.bump Fld.portPauseTx_VAL p).setPort p { s.port p with fc := l }
    | [] =>
      match (s.strictTcs p).findSome? (fun t => s.headOf p t) with
      | some (c, _) => s.startTx p c
      | none =>
        match s.drrPick p 1300 (s.port p) with
        | some (c, x) => (s.setPort p x).startTx p c
        | none => s.resumeTx p

/-- SCHED_SELECT (R113, R128, R133): a preemptable frame in transfer gives way to express traffic or goes on; at a frame boundary the next
frame is picked.  A port that is not up, or whose transmitter is quiet, starts nothing. -/
def State.schedSelect (s : State) (p : Nat) : State :=
  if !((s.port p).up) || decide (p = 96) then s
  else
    let s0 := s.preempt p (s.expressReady p)
    if (s0.midTx p).isSome then s0
    else
      let s1 := s0.setPort p { s0.port p with tx := none }
      if s1.txQuiet p then s1 else s1.pickTx p

/-! ## The egress latch (R215 to R219) -/

/-- TS48 as a number of 2^-16 ns, 48 bits. -/
def Ts48.num (t : Ts48) : Nat := t.ns * 65536 + t.frac

/-- The residence time that a forwarded event message's correctionField takes up (R219): modulo 2^48, less the steps between. -/
def State.residence (s : State) (fr : Frame) (out : Ts48) : Int :=
  ((out.num : Int) - (fr.ts.num : Int) - roundDiv (s.fab.stepSum - fr.stepSum) unitsPerFrac) % (2 ^ 48 : Nat)

/-- EGRESS_SFD. -/
def State.egressSfd (s : State) (p : Nat) (marker : Int) : State :=
  match ((s.port p).tx).bind (fun c => (s.copy? c).map (fun x => (c, x))) with
  | none => s
  | some (c, x) =>
    match s.frame? x.frame with
    | none => s
    | some fr =>
      if x.st ≠ .tx then s
      else
        let l := s.latchAt p false marker
        let s1 := l.1
        let ts := s.tsAt l.2.1
        let kind := s1.frameKind fr.port fr.h
        let event := decide (fr.h.ptpType < 2)
        let oneStep := x.oneStep && event && !fr.h.ptpTwoStep
        let s2 := if x.oneStep && !oneStep then s1.bump Fld.tcoreOnestepSkip_VAL else s1
        let tc := !x.oneStep && s2.apB Fld.tcoreCtrl_TC_EN && kindPtp kind && event && fr.port != 96 && x.mirror.isNone
        let s3 := if kindPtp kind || x.oneStep then s2.setPortPtp p { s2.portPtp p with
            lastOut := ts, tx := satAdd 32 (s2.portPtp p).tx (b2n (decide (fr.h.ptpType < 4))) } else s2
        let y := s3.port p
        let s4 := s3.setPort p { y with
          sent := Tab.set y.sent x.q (Tab.get 0 y.sent x.q + 1), lastTx := ts
          lastCorr := if oneStep then fr.h.ptpCorr + ts.frac else if tc then fr.h.ptpCorr + s3.residence fr ts else fr.h.ptpCorr
          lastOrigin := if oneStep then some (secOf l.2.1 * 2 ^ 32 + nsOf l.2.1) else none }
        let s5 := match x.tsReq with
          | some q => s4.tsRecord q ts 0 p
          | none => s4
        (if x.mirror.isSome then s5 else s5.tagCopy x true).setCopy c { x with st := .sent, tsReq := none }

/-! ## Received and sent flow control (R142, R143) -/

/-- SQ or a TC is held, or the port is down, no more: the episode of PORT_DEADLINE ends (R145). -/
def State.deadlineEpisode (s : State) (p : Nat) : State :=
  if (s.port p).up && !(s.queueHeld p 8) then s.setPort p { s.port p with deadlineRaised := false } else s

/-- PAUSE_RECEIVE. -/
def State.pauseReceive (s : State) (p : Nat) (pfc : Bool) (enable : Nat) (quanta : List Nat) : State :=
  if s.fcMode p = 0 then s
  else
    let s1 := s.bump Fld.portPauseRx_VAL p
    let x := s1.port p
    (s1.setPort p (if pfc then
        { x with pfcHeld := bitMap (fun t => if bitAt enable t then decide (0 < quanta.getD t 0) else bitAt x.pfcHeld t) 8 }
      else { x with paused := decide (0 < quanta.getD 0 0) })).deadlineEpisode p

/-- PAUSE_QUANTA_EXPIRE. -/
def State.pauseQuantaExpire (s : State) (p mask : Nat) : State :=
  let x := s.port p
  (s.setPort p { x with pfcHeld := bitMap (fun t => bitAt x.pfcHeld t && !(bitAt mask t)) 8
                        paused := x.paused && !(bitAt mask 8) }).deadlineEpisode p

/-- PFC_REFRESH: the frame is repeated while the state lasts. -/
def State.pfcRefresh (s : State) (p : Nat) : State :=
  let x := s.port p
  if x.xoff = 0 ∨ s.fcMode p = 0 then s
  else s.setPort p { x with fc := x.fc ++ [⟨if s.fcMode p = 2 then x.xoff else 0xFF, true⟩] }

/-! ## Ports down (R145 to R148) -/

/-- The queued best-effort copies of a port. -/
def State.beQueued (s : State) (p : Nat) : List Nat := ((List.range 8).map (fun t => s.queue p t)).flatten

/-- The window ends with a flush (R146). -/
def State.portFlush (s : State) (p : Nat) : State :=
  let l := s.beQueued p
  let s1 := (s.flushCopies l 1).bump Fld.portHoldFlush_VAL p l.length
  ((s1.setPort p { s1.port p with holding := false, flushed := true }).raise Ev.portHoldEnd p 1 l.length).afterFree

/-- A port goes down (R146, R147): the frame in transfer ends, frames being received are discarded, best-effort frames are held
or flushed. -/
def State.portLoss (s : State) (p : Nat) : State :=
  let x := s.port p
  if !x.up then s
  else
    let s1 := (x.tx.toList ++ x.frag.toList).foldl (fun s c => match s.copy? c with
      | some y => ((s.tsLost y 1).bump Fld.portHoldFlush_VAL p).removeCopy c
      | none => s) s
    let part := (s1.fab.frames.filter (fun e => e.2.port == p && !e.2.eligible)).map (fun e => e.1)
    let s2 := part.foldl (fun s f => s.dropFrame f) s1
    let y := s2.port p
    let s3 := s2.setPort p { y with up := false, tx := none, frag := none, holding := true, flushed := false, lossAt := s.clk.now, verified := false
                                    ingDisc := satAdd 32 y.ingDisc part.length }
    if s3.holdMs p = 0 then s3.portFlush p else s3.afterFree

/-- A port comes up: LOCK has returned or the port has joined (R146, R117). -/
def State.portUp (s : State) (p : Nat) : State :=
  let x := s.port p
  if x.up then s
  else
    let s1 := s.setPort p { x with up := true, holding := false, flushed := false, deadlineRaised := false, verified := false
                                   verifyFailed := false }
    if x.holding then (s1.bump Fld.portHoldResume_VAL p).raise Ev.portHoldEnd p 0 else s1

/-- PORT_HOLD_EXPIRE. -/
def State.portHoldExpire (s : State) (p : Nat) : State := if (s.port p).holding then s.portFlush p else s

/-- PORT_HOLD_WRITE (R147): the window ends at the loss of LOCK plus the new value, at once when that has passed. -/
def State.portHoldWrite (s : State) (p : Nat) (v m : Word) : State :=
  let t := s.storeReg ⟨.portHold, p, 0⟩ v m
  if (t.port p).holding && decide ((t.port p).lossAt + t.holdMs p * 10 ^ 9 ≤ t.clk.now) then t.portFlush p else t

/-- SQ_DEADLINE_EXPIRE (R145): only while the egress port is down or SQ is held. -/
def State.sqDeadlineExpire (s : State) (c : Nat) : State :=
  match s.copy? c with
  | none => s
  | some x =>
    if x.st ≠ .queued ∨ x.q ≠ 8 ∨ ((s.port x.port).up ∧ !(s.queueHeld x.port 8)) then s
    else
      let s1 := ((s.tsLost x 2).bump Fld.portDeadlineExpired_VAL x.port).removeCopy c
      let y := s1.port x.port
      ((s1.setPort x.port { y with deadlineRaised := true }).raiseIf (!y.deadlineRaised) Ev.portDeadline).afterFree

/-- RESIDENCE_EXPIRE (R148): a copy in transfer completes; a conforming SQ copy stays until its deadline. -/
def State.residenceExpire (s : State) (c : Nat) : State :=
  match s.copy? c with
  | none => s
  | some x =>
    let early : Bool := match x.deadline with
      | some t => decide (totalNs s.tod < t)
      | none => false
    let from96 := (s.frame? x.frame).any (fun f => f.port == 96)
    if x.st = .tx ∨ x.st = .sent ∨ (x.st = .wait ∧ !from96) ∨ early = true then s
    else
      let s1 := ((s.tsLost x 3).bump Fld.portResExpired_VAL x.port).removeCopy c
      let y := s1.port x.port
      let l := s.clk.now :: y.resTimes.filter (fun t => decide (s.clk.now < t + 10 ^ 12))
      let due := match y.resRaised with
        | none => true
        | some t => decide (t + 10 ^ 12 ≤ s.clk.now)
      ((s1.setPort x.port { y with resTimes := l, resRaised := if due then some s.clk.now else y.resRaised }).raiseIf due
        Ev.portResLimit x.port l.length).afterFree

/-- RES_CFG_WRITE (R148): a limit below the largest B of any flow is refused. -/
def State.resCfgWrite (s : State) (v m : Word) : State :=
  let t := s.storeReg ⟨.swResCfg, 0, 0⟩ v m
  if t.resMaxMs * 1000000 < s.largestBound then s.raise Ev.swCfgBad else t

/-- A frame boundary of an ingress port: policers change and flows rejoin (R95, R137). -/
def State.flowBoundary (s : State) (p : Nat) : State :=
  (s.sw.flows.filter (fun e => (s.flowArgs e.1).inp == p)).foldl (fun s e =>
    let x := s.flow e.1
    s.setFlow e.1 (match x.newPolicer with
      | some (m, k) => { x with rejoin := false, newPolicer := none, maxFrame := m, kbps := k, tokens := min (s.tokensNow x) (bucketFull m)
                                tokAt := s.clk.now }
      | none => { x with rejoin := false })) s

/-! ## Meanings -/

/-- FRAME_ELIGIBLE (R14, R164, R199, R200). -/
def execFrameEligible (frame : Nat) (fcsOk : Bool) (s : State) : Host.Outcome State Fault Refusal :=
  effect true s (s.frameEligible frame fcsOk)

/-- SCHED_SELECT (R128, R129, R130). -/
def execSchedSelect (port : Nat) (s : State) : Host.Outcome State Fault Refusal :=
  effect (lanePort port) s (s.schedSelect port)

/-- EGRESS_SFD (R215, R218, R219). -/
def execEgressSfd (port : Nat) (marker : Int) (s : State) : Host.Outcome State Fault Refusal :=
  effect (lanePort port) s (s.egressSfd port marker)

/-- PAUSE_RECEIVE (R143). -/
def execPauseReceive (port : Nat) (pfc : Bool) (enable : Nat) (quanta : List Nat)
    (s : State) : Host.Outcome State Fault Refusal :=
  effect (lanePort port && decide (quanta.length = 8)) s (s.pauseReceive port pfc enable quanta)

/-- PAUSE_QUANTA_EXPIRE (R143). -/
def execPauseQuantaExpire (port mask : Nat) (s : State) : Host.Outcome State Fault Refusal :=
  effect (lanePort port) s (s.pauseQuantaExpire port mask)

/-- PFC_REFRESH (R142). -/
def execPfcRefresh (port : Nat) (s : State) : Host.Outcome State Fault Refusal :=
  effect (lanePort port) s (s.pfcRefresh port)

/-- PORT_HOLD_EXPIRE (R146). -/
def execPortHoldExpire (port : Nat) (s : State) : Host.Outcome State Fault Refusal :=
  effect (lanePort port) s (s.portHoldExpire port)

/-- SQ_DEADLINE_EXPIRE (R145). -/
def execSqDeadlineExpire (copy : Nat) (s : State) : Host.Outcome State Fault Refusal :=
  effect true s (s.sqDeadlineExpire copy)

/-- RESIDENCE_EXPIRE (R148). -/
def execResidenceExpire (copy : Nat) (s : State) : Host.Outcome State Fault Refusal :=
  effect true s (s.residenceExpire copy)

end Sys2Proof.Machine
end

