-- ==== Sys2Proof/Machine/Lane.lean ====
section
/-! DEFINITION. Serial lanes and lane groups (chapter 5): lock, retraining, equalisation, electrical idle, the recovered clock,
and the removal and return of a group. -/

set_option Elab.async false

namespace Sys2Proof.Machine

/-! ## Lanes and ports -/

/-- The lane works: present, its domain on, its group not removed, its quad not off (R97). -/
def State.laneOn (s : State) (n : Nat) : Bool :=
  decide (n < s.variant.ports) && s.domOn (n / 8) && decide ((s.grp (n / 8)).st ≠ .removed) && s.quadMode (n / 4) != 0 &&
    !(s.halted (.lane n)) && !(s.halted (.grp (n / 8))) && !s.pwr.scan

/-- Every lane of the port has LOCK. -/
def State.portLocked (s : State) (p : Nat) : Bool := (s.portLanes p).all (fun n => (s.lane n).lock)

/-- CUR = BASE + 3 or BASE − 3 (Table LANE-6). -/
def Lane.atLimit (l : Lane) : Bool := decide (((l.cur : Int) - l.base).natAbs = 3)

/-- The lane withdraws its recovered clock (R114): a check of its candidate fails with cause 1. -/
def State.laneWithdraw (s : State) (n : Nat) : State :=
  if (s.lane n).offered then (s.setLane n { s.lane n with offered := false }).candFail n 1 else s

/-- LOCK is lost: the port goes down, the recovered clock is withdrawn, the phase output is invalid (R100, R114, R115), and the
port's channels are lost (R224). -/
def State.laneUnlock (s : State) (n : Nat) : State :=
  let l := s.lane n
  if !l.lock then s
  else
    let s1 := s.setLane n { l with lock := false, fecLock := false, hiBer := false, hiBerAt := none, phase := false }
    let p := s.portOfLane n
    (((s1.laneWithdraw n).lnkPhiLost n).portLoss p).portChansLost p

/-! ## Quality and peaking (R103 to R109) -/

/-- LANE_QUAL is republished (R108). -/
def State.lanePublish (s : State) (n w h : Nat) : State :=
  let l := s.lane n
  (s.setLane n { l with eyeW := w % 256, eyeH := h % 1024, qPeak := l.cur, qSeq := (l.qSeq + 1) % 256 }).raiseIf
    (s.apB Fld.laneAdptCfg_QUAL_EVT n) Ev.laneQualChg

/-- A peaking change is applied; the eye measured at it comes with no operand and is a free value.  The delay of the new code holds
for the timestamps from here on, and moves Φ (R103, R251). -/
def State.laneSetCode (s : State) (n c : Nat) : State :=
  let l := s.lane n
  let l' : Lane := { l with cur := c, proposed := none, stepBack := false }
  let s1 := s.setLane n { l' with limitRaised := l.limitRaised && l'.atLimit }
  let s2 := s1.phiMove n (fracToPhi (s.codeDelay n c) - fracToPhi (s.codeDelay n l.cur))
  let w := Config.freeWord s.free
  ({ s2 with free := s.free + 1 } : State).lanePublish n (fieldOf w 0 8) (fieldOf w 8 10)

/-- A step is refused at BASE ± 3 (R107). -/
def State.laneRefuseStep (s : State) (n : Nat) : State :=
  let l := s.lane n
  let due := l.atLimit && !l.limitRaised
  ((s.rcSet Fld.laneAdptStat_LIMIT_HIT 1 n).setLane n
    { l with proposed := none, stepBack := false, limitRaised := l.limitRaised || due }).raiseIf due Ev.laneAdptLimit

/-- The code after one step. -/
def Lane.stepped (l : Lane) (up : Bool) : Int := if up then (l.cur : Int) + 1 else (l.cur : Int) - 1

/-- A step would leave BASE ± 3. -/
def Lane.outOfRange (l : Lane) (up : Bool) : Bool := decide (3 < (l.stepped up - l.base).natAbs)

/-- A proposed step is applied at an IDL point: at most one in 100 ms, inside BASE ± 3 unless it steps a released forced code
back (R105, R107, R109). -/
def State.laneStep (s : State) (n : Nat) (up : Bool) : State :=
  let l := s.lane n
  if l.outOfRange up && !l.stepBack then s.laneRefuseStep n
  else if !l.stepBack && l.movedAt.any (fun t => decide (s.clk.now < t + 10 ^ 11)) then s
  else
    let s1 := (s.bump Fld.laneAdptStat_STEPS n).laneSetCode n (l.stepped up).toNat
    s1.setLane n { s1.lane n with movedAt := some s.clk.now }

/-- The words of a lane. -/
def laneKey (n : Nat) (k : RegKey) : Bool := decide (k.name.row.block = .lane) && k.name.row.count == 96 && k.i == n

/-- An IDL point of the lane: pending writes and the pending correction take effect (R31, R329). -/
def State.laneIdl (s : State) (n : Nat) : State := (s.applyAt .idl (laneKey n)).calBoundary 0 n

/-- IDLE_APPLY: an IDL point outside a full retrain, with a forced code or a proposed step (R103, R105, R109). -/
def State.idleApply (s : State) (n : Nat) : State :=
  if !(s.laneOn n) then s
  else
    let s1 := s.laneIdl n
    let l := s1.lane n
    if l.train = .full then s1
    else if s1.apB Fld.lanePeak_FORCE_EN n then
      (if l.cur = s1.ap Fld.lanePeak_FORCE n then s1.setLane n { l with proposed := none, stepBack := false }
       else s1.laneSetCode n (s1.ap Fld.lanePeak_FORCE n))
    else match l.proposed with
      | some up => s1.laneStep n up
      | none => s1

/-- A freeze condition that holds in a window, or 0 (R106). -/
def State.freezeCause (s : State) (n density diversity : Nat) : Nat :=
  if density < s.ap Fld.laneAdptCfg_TD_MIN n then 1
  else if diversity < s.ap Fld.laneAdptCfg_DIV_MIN n then 2
  else if !(s.lane n).sig then 3 else 0

/-- The lane after the freeze conditions of a window. -/
def Lane.freeze (l : Lane) (cause : Nat) : Lane :=
  if cause ≠ 0 then { l with frozen := if l.frozen = 0 then cause else l.frozen, calm := 0, proposed := none, stepBack := false }
  else { l with calm := l.calm + 1, frozen := if 10 ≤ l.calm + 1 then 0 else l.frozen }

/-- The lane adapts: outside a full retrain, while no freeze condition holds (R105, R106, R109). -/
def State.laneAdapts (s : State) (n : Nat) : Bool :=
  let l := s.lane n
  l.frozen == 0 && decide (l.train ≠ .full) && s.apB Fld.laneCtrl_ADPT_EN n && !(s.apB Fld.lanePeak_FORCE_EN n)

/-- What the PCS counted in a window (R100). -/
def State.laneCounts (s : State) (n blocks hdrErr fecCorr fecUncorr : Nat) (hiBer : Bool) : State :=
  let l := s.lane n
  let s1 := ((s.bump Fld.laneHdrErr_VAL n hdrErr).bump Fld.laneFecCorr_VAL n fecCorr).bump Fld.laneFecUncorr_VAL n fecUncorr
  s1.setLane n { l with
    blocks := l.blocks + blocks, hdrErr := l.hdrErr + hdrErr, fecCorr := l.fecCorr + fecCorr, fecUncorr := l.fecUncorr + fecUncorr
    hiBer := hiBer, hiBerAt := if hiBer then some (l.hiBerAt.getD s.clk.now) else none }

/-- ADAPT_WINDOW (R105 to R107); a lane job whose transition density is too low is LOST (R327). -/
def State.adaptWindow (s : State) (n density diversity : Nat) (lag : Int) (blocks hdrErr fecCorr fecUncorr : Nat) (hiBer : Bool) : State :=
  if !(s.laneOn n) then s
  else
    let s1 := if (s.lane n).lock then s.laneCounts n blocks hdrErr fecCorr fecUncorr hiBer else s
    let s2 := s1.setLane n { (s1.lane n).freeze (s1.freezeCause n density diversity) with density := density }
    let s3 := if density < s2.ap Fld.laneAdptCfg_TD_MIN n then s2.calLose (fun t i => t == 0 && i == n) else s2
    let l := s3.lane n
    let up := decide (1 < lag)
    if !(s3.laneAdapts n) || l.stepBack || (!up && decide (-1 ≤ lag)) then s3
    else if l.outOfRange up then s3.laneRefuseStep n
    else if l.stepped up < 0 ∨ 31 < l.stepped up then s3
    else s3.setLane n { l with proposed := some up }

/-- QUAL_MEASURE (R108). -/
def State.qualMeasure (s : State) (n w h : Nat) : State :=
  let l := s.lane n
  if s.laneOn n && s.laneAdapts n &&
      (decide (2 ≤ ((w : Int) - l.eyeW).natAbs) || decide (8 ≤ ((h : Int) - l.eyeH).natAbs)) then s.lanePublish n w h
  else s

/-- FORCE_STEP_BACK (R109): a step towards BASE ± 3 is applied at the next IDL point. -/
def State.forceStepBack (s : State) (n : Nat) : State :=
  let l := s.lane n
  if s.laneOn n && !(s.apB Fld.lanePeak_FORCE_EN n) && l.frozen == 0 && decide (3 < ((l.cur : Int) - l.base).natAbs) then
    s.setLane n { l with proposed := some (decide (l.cur < l.base)), stepBack := true }
  else s

/-! ## Retraining (R104) -/

/-- A full retrain starts or restarts; pending IDL writes take effect (R31). -/
def State.retrain (s : State) (n : Nat) : State :=
  if !(s.laneOn n) then s
  else
    let s1 := (s.laneUnlock n).laneIdl n
    s1.setLane n { s1.lane n with train := .full, cdr := false, qValid := false, proposed := none, stepBack := false, retrainPend := false }

/-- LANE_RETRAIN: a RETRAIN written in electrical idle waits for its exit (R111). -/
def State.laneRetrain (s : State) (n : Nat) : State :=
  let l := s.lane n
  if !l.sig && decide (l.train = .down) then
    (if s.laneOn n then s.setLane n { l with retrainPend := true } else s)
  else s.retrain n

/-- RETRAIN_DONE: BASE and CUR are the widest-eye code (R104). -/
def State.retrainDone (s : State) (n code w h : Nat) (temp : Int) : State :=
  let l := s.lane n
  if !(s.laneOn n) || decide (l.train ≠ .full) then s
  else
    (s.bump Fld.laneExitCnt_RETRAINS n).setLane n { l with
      sig := true, cdr := true, base := code % 32, cur := code % 32, limitRaised := false, temp := temp
      trainW := w, trainH := h, trainSec := secOf s.tod % 2 ^ 32, retrains := l.retrains + 1 }

/-! ## Groups -/

/-- The lanes, and user ports, of a group. -/
def grpLanes (g : Nat) : List Nat := (List.range 8).map (fun k => 8 * g + k)

/-- A group replaced. -/
def State.setGrp (s : State) (g : Nat) (x : Grp) : State := { s with grps := Tab.set s.grps g x }

/-- A group whose lanes have all joined or gone 100 ms without signal is IN_SERVICE (R117). -/
def State.grpCheck (s : State) (g : Nat) : State :=
  let x := s.grp g
  let busy := (grpLanes g).filter (fun n => s.quadMode (n / 4) != 0)
  if (x.st = .training ∨ x.st = .joining) ∧ busy.all (fun n => (s.lane n).noSignal || (s.port (s.portOfLane n)).up) then
    let s1 := (grpLanes g).foldl (fun s n => s.laneIdl n) s
    ((s1.setGrp g { s1.grp g with st := .inService }).setReady (Rdy.grp g) true).raise Ev.laneGrpState
  else s

/-- Training of a group begins (R102, R117): a committed mode takes effect, and every lane with MODE ≠ 0 retrains with its
transmitter squelched; LNK looks at the ports in their new mode. -/
def State.grpTrain (s : State) (g : Nat) : State :=
  let x := s.grp g
  let k : RegKey := ⟨.laneGrpMode, g, 0⟩
  let s1 : State := match x.next with
    | some w => { s with regs := { s.regs with applied := Tab.set s.regs.applied k w } }
    | none => s
  let s2 := s1.setGrp g { x with st := .training, next := none }
  let s3 := ((grpLanes g).filter (fun n => s2.quadMode (n / 4) != 0)).foldl
    (fun s n => (s.setLane n { s.lane n with txSq := true, noSignal := false }).retrain n) s2
  (((grpLanes g).foldl (fun s n => s.lnkEval n) s3).pairsEval false).grpCheck g

/-- The copies that wait at the ports of a group. -/
def State.grpCopies (s : State) (g : Nat) : List Nat :=
  (s.fab.copies.filter (fun e => decide (e.2.port / 8 = g) && decide (e.2.st ≠ .sent) && decide (e.2.st ≠ .host))).foldl
    (fun l e => insertAsc e.1 l) []

/-- The ports of a group stop: frames being received are discarded, and no hold window runs. -/
def State.grpPortsDown (s : State) (g : Nat) : State :=
  let part := (s.fab.frames.filter (fun e => decide (e.2.port / 8 = g) && !e.2.eligible)).map (fun e => e.1)
  let s1 := part.foldl (fun s f => s.dropFrame f) s
  (grpLanes g).foldl (fun s p => s.setPort p { s.port p with
    up := false, tx := none, holding := false, flushed := false, verified := false, lossAt := s.clk.now, fc := [] }) s1

/-- A lane that leaves service: everything of R114 and R115 is withdrawn, its transmitter is squelched. -/
def State.laneStop (s : State) (n : Nat) : State :=
  let s1 := (s.laneUnlock n).lnkPhiLost n
  s1.setLane n { s1.lane n with
    sig := false, cdr := false, train := .down, txSq := true, proposed := none, stepBack := false, retrainPend := false, qValid := false }

/-- What the lanes, timestamp units and LNK units of a group lose with their supply (R391). -/
def State.grpLose (s : State) (g : Nat) : State :=
  (grpLanes g).foldl (fun s n =>
    let x := s.lnkPort n
    let s1 := (s.setLane n { txSq := true }).setLnk n { st := x.st, cause := x.cause }
    { s1 with tcore := { s1.tcore with ports := Tab.erase s1.tcore.ports n } }) s

/-- Steps 4 to 6 of a removal (R116): frames still queued are aborted, the transmitters are squelched, the domain leaves on. -/
def State.grpRemoved (s : State) (g : Nat) (count : Bool) : State :=
  let l := s.grpCopies g
  let n := if count then l.length else 0
  let s1 := ((s.flushCopies l 1).bump Fld.laneGrpAborted_VAL g n).grpPortsDown g
  let s2 := (grpLanes g).foldl (fun s n => s.laneStop n) s1
  let x := s2.grp g
  let s3 := s2.setGrp g { x with st := .removed, disStatus := if n = 0 then .ok else .drainedAbort }
  let s4 := s3.calLose (fun t i => decide (t < 2) && decide (i / 8 = g))
  let s5 := if x.pwrOff then s4.grpLose g else s4
  (((s5.domSleep g x.pwrOff).padHold g true).raise Ev.laneGrpState).afterFree

/-- Steps 1 and 2 of a removal (R116): the group leaves service. -/
def State.grpDrain (s : State) (g : Nat) : State :=
  let s1 := (s.setGrp g { s.grp g with st := .draining }).setReady (Rdy.grp g) false
  let s2 := (grpLanes g).foldl (fun s n =>
    ((s.setLane n { s.lane n with offered := false }).candAbsent n).portChansLost n) s1
  (s2.calLose (fun t i => t == 0 && i / 8 == g)).xoffUpdate

/-- A group is taken out of service: by drain from IN_SERVICE, at once from TRAINING and JOINING (R116, R118). -/
def State.grpRemove (s : State) (g : Nat) (off : Bool) : State :=
  let s1 := s.setGrp g { s.grp g with pwrOff := off }
  if (s.grp g).st = .inService then s1.grpDrain g
  else ((grpLanes g).foldl (fun s n => (s.setLane n { s.lane n with offered := false }).candAbsent n) s1).grpRemoved g false

/-- MODE and FEC of a quad are valid (Table LANE-1). -/
def quadValid (mode fec : Nat) : Bool :=
  (fec == 0 && decide (mode ≤ 4)) || (mode == 3 && decide (fec ≤ 2)) || (mode == 4 && fec == 2)

/-- The bits of quad `q` in LANE_GRP_MODE. -/
def quadMask (q : Nat) : Word := maskOf (8 * q) 5

/-- A quad whose written setting is invalid keeps its applied one, and LANE_MODE_BAD is raised (R101). -/
def State.grpModeCheck (s : State) (g : Nat) : State :=
  let k : RegKey := ⟨.laneGrpMode, g, 0⟩
  let w := s.written k
  let ok := fun (q : Nat) => quadValid (fieldOf w (8 * q) 3) (fieldOf w (8 * q + 3) 2)
  (List.range 2).foldl (fun s q => if ok q then s else (s.revertBits k (quadMask q)).raise Ev.laneModeBad g q) s

/-- The domain of a group is powered: what it applies again from off passes the check of R101 (R391). -/
def State.grpWake (s : State) (g : Nat) : State := (if s.domMode g = .off then s.grpModeCheck g else s).domWake g

/-- A group returns: its pads are released, its domain powered, and training begins (R117). -/
def State.grpReturn (s : State) (g : Nat) : State := ((s.padHold g false).grpWake g).grpTrain g

/-- Both copies of LANE_GRP_CTRL take a write. -/
def State.grpCtrlStore (s : State) (g : Nat) (v m : Word) : State :=
  let k : RegKey := ⟨.laneGrpCtrl, g, 0⟩
  let w := (s.written k &&& ~~~ (m &&& k.storedMask)) ||| (v &&& (m &&& k.storedMask))
  { s with regs := ({ s.regs with written := Tab.set s.regs.written k w, applied := Tab.set s.regs.applied k w } : RegFile).wordWritten k }

/-- A write of the bits `m` of LANE_GRP_CTRL whose unlock has been consumed (R116 to R118). -/
def State.grpCtrl (s : State) (g : Nat) (v m : Word) : State :=
  let rem := bitAt (v &&& m).toNat 0
  let ret := bitAt (v &&& m).toNat 1
  let st := (s.grp g).st
  if s.variant.groups ≤ g then s
  else if (rem && ret) || (rem && (decide (st = .draining) || decide (st = .removed))) || (ret && decide (st ≠ .removed)) then
    s.raise Ev.laneGrpBusy
  else
    let s1 := s.grpCtrlStore g v m
    if rem then s1.grpRemove g (bitAt (v &&& m).toNat 2) else if ret then s1.grpReturn g else s1

/-- A KW write of LANE_GRP_CTRL. -/
def State.grpCtrlWrite (s : State) (p : Path) (g : Nat) (v m : Word) : State :=
  s.keyed p (RegKey.addr ⟨.laneGrpCtrl, g, 0⟩) (fun s => s.grpCtrl g v m)

/-- LANE_GRP_DRAIN_END. -/
def State.laneGrpDrainEnd (s : State) (g : Nat) : State := if (s.grp g).st = .draining then s.grpRemoved g true else s

/-- LANE_NO_SIGNAL_TIMEOUT: the transmitter sends idle anyway, and the lane keeps training (R117). -/
def State.laneNoSignalTimeout (s : State) (n : Nat) : State :=
  let l := s.lane n
  if !(s.laneOn n) || !l.txSq || l.sig then s
  else (s.setLane n { l with txSq := false, noSignal := true }).grpCheck (n / 8)

/-- PORT_JOIN (R117). -/
def State.portJoin (s : State) (p : Nat) : State :=
  if s.portInactive p || !((s.portLanes p).all (fun n => s.laneOn n)) || !(s.portLocked p) ||
      (s.portLanes p).any (fun n => (s.lane n).txSq) || decide ((s.grp (p / 8)).st = .draining) then s
  else (s.portUp p).grpCheck (p / 8)

/-! ## LOCK and electrical idle -/

/-- BLOCK_LOCK (R100, R108, R114, R117): the port comes up, or waits for its join while the lane returns. -/
def State.blockLock (s : State) (n w h : Nat) : State :=
  let l := s.lane n
  let g := n / 8
  if !(s.laneOn n) || l.lock || !l.sig || decide (l.train = .down) then s
  else
    let s1 := if l.train = .fast then s.bump Fld.laneExitCnt_EXITS n else s
    let s2 := s1.setLane n { l with
      lock := true, cdr := true, fecLock := decide (s.quadFec (n / 4) ≠ 0), train := .running, txSq := false, qValid := true
      offered := s.apB Fld.laneCtrl_REF_EN n && decide ((s.grp g).st ≠ .draining) }
    let s3 := s2.lanePublish n w h
    let s4 := if (s3.grp g).st = .training then s3.setGrp g { s3.grp g with st := .joining } else s3
    let p := s4.portOfLane n
    let s5 := if s4.apB Fld.laneCtrl_TX_SQUELCH n then s4 else s4.calLose (fun t i => t == 1 && i == p)
    if !(s5.portLocked p) || decide ((s5.grp g).st = .draining) then s5
    else
      let s6 := s5.portChansListen p
      if l.txSq then s6 else (s6.portUp p).grpCheck g

/-- LANE_PHASE_VALID (R115). -/
def State.lanePhaseValid (s : State) (n : Nat) : State :=
  if !((s.lane n).lock) || (s.lane n).phase then s
  else (s.setLane n { s.lane n with phase := true }).lnkPhiValid n

/-- LOCK_LOSS_RETRAIN (R104). -/
def State.lockLossRetrain (s : State) (n : Nat) : State :=
  let l := s.lane n
  if l.sig && !l.lock && decide (l.train = .running) then s.retrain n else s

/-- RX_POLARITY_CHANGE (Table LANE-11): a change on a locked lane drops LOCK; peaking code and CDR are kept. -/
def State.rxPolarity (s t : State) (n : Nat) : State :=
  if s.apB Fld.laneCtrl_RX_INV n = t.apB Fld.laneCtrl_RX_INV n then t else t.laneUnlock n

/-- A write of the bits `m` of LANE_CTRL: RETRAIN, polarity and the offer of the recovered clock act. -/
def State.laneCtrlWrite (s : State) (n : Nat) (v m : Word) : State :=
  let k : RegKey := ⟨.laneCtrl, n, 0⟩
  let t := s.rxPolarity (s.storeReg k v m) n
  let t1 := if t.apB Fld.laneCtrl_REF_EN n then
      (if (t.lane n).lock && decide ((t.grp (n / 8)).st ≠ .draining) then t.setLane n { t.lane n with offered := true } else t)
    else t.laneWithdraw n
  if bitAt (v &&& m).toNat 0 then t1.laneRetrain n else t1

/-- ELEC_IDLE_ENTRY (R110); it is an IDL point, and a lane job is LOST (R327). -/
def State.elecIdleEntry (s : State) (n : Nat) (temp : Int) : State :=
  if !(s.laneOn n) || !((s.lane n).sig) then s
  else
    let s1 := s.laneUnlock n
    let l := s1.lane n
    let s2 := s1.setLane n { l with
      sig := false, cdr := false, frozen := if l.frozen = 0 then 3 else l.frozen, calm := 0, proposed := none, stepBack := false
      train := if l.train = .full then .full else .down, idleAt := s.clk.now, idleTemp := temp, idleMode := s.quadMode (n / 4) }
    (s2.calLose (fun t i => t == 0 && i == n)).idleApply n

/-- The exit qualifies for a fast exit (R111). -/
def State.fastExitOk (s : State) (n idleMs : Nat) (temp : Int) : Bool :=
  let l := s.lane n
  let m := s.ap Fld.laneAdptCfg_FAST_MAX n
  decide (m ≠ 0) && decide (idleMs ≤ m * 100) && decide ((temp - l.idleTemp).natAbs ≤ 5) && decide (l.idleMode = s.quadMode (n / 4)) &&
    !l.retrainPend

/-- ELEC_IDLE_EXIT (R111): a fast exit restores code and CDR frequency; a lane in a full retrain goes on with it. -/
def State.elecIdleExit (s : State) (n idleMs : Nat) (temp : Int) : State :=
  let l := s.lane n
  if !(s.laneOn n) || l.sig then s
  else
    let s1 := s.setLane n { l with sig := true }
    if l.train = .full then s1
    else if s.fastExitOk n idleMs temp then s1.setLane n { s1.lane n with train := .fast, cdr := true }
    else s1.retrain n

/-- FAST_EXIT_FAIL (R112). -/
def State.fastExitFail (s : State) (n : Nat) : State :=
  if (s.lane n).train = .fast then (s.bump Fld.laneExitCnt_FAILS n).retrain n else s

/-! ## Policy retrains (R344) -/

/-- HIBER_RETRAIN: the firmware writes RETRAIN while HI_BER lasts, if the policy and task 8 ask for it. -/
def State.hiberRetrain (s : State) (n : Nat) : State :=
  if (s.lane n).hiBer && bitAt (s.polEntry 4 n) 0 && s.taskHeld 8 then s.laneRetrain n else s

/-- SCHEDULED_RETRAIN: unless SKIP_FLOWS leaves out a port that carries admitted flows. -/
def State.scheduledRetrain (s : State) (n : Nat) : State :=
  let e := s.polEntry 4 n
  let p := s.portOfLane n
  let carries := s.sw.flows.any (fun x => (s.flowArgs x.1).inp == p || (s.flowArgs x.1).out == p)
  if bitsOf e 16 16 = 0 ∨ !(s.taskHeld 8) ∨ (bitAt e 1 ∧ carries) then s else s.laneRetrain n

/-! ## Commit of LANE_GRP_MODE (R101, R102) -/

/-- A quad of a group in service takes its committed setting: its ports go down, and its lanes retrain with their transmitters
squelched, or power down (R97, R102). -/
def State.quadChange (s0 : State) (g q : Nat) (w : Word) : State :=
  let k : RegKey := ⟨.laneGrpMode, g, 0⟩
  let l := (List.range 4).map (fun j => 8 * g + 4 * q + j)
  let s1 := l.foldl (fun s n => s.laneStop n) s0
  let s2 : State := { s1 with regs := { s1.regs with
    applied := Tab.set s1.regs.applied k ((s1.stored k &&& ~~~ (quadMask q)) ||| (w &&& quadMask q)) } }
  l.foldl (fun s n => if s.quadMode (n / 4) = 0 then s
    else (s.setLane n { s.lane n with sig := (s0.lane n).sig, noSignal := false }).retrain n) s2

/-- The commit of LANE_GRP_MODE of a group: an invalid quad keeps its setting and raises LANE_MODE_BAD; a group out of service
takes the rest at its next training. -/
def State.commitGrpMode (s : State) (g : Nat) : State :=
  let k : RegKey := ⟨.laneGrpMode, g, 0⟩
  let s1 := s.grpModeCheck g
  let cur := s1.stored k
  let new := s1.written k
  if (s1.grp g).st ≠ .inService then s1.setGrp g { s1.grp g with next := some new }
  else (List.range 2).foldl (fun s q => if cur &&& quadMask q = new &&& quadMask q then s else s.quadChange g q new) s1

/-! ## Meanings -/

/-- IDLE_APPLY (R31, R103, R105, R109). -/
def execIdleApply (lane : Nat) (s : State) : Host.Outcome State Fault Refusal :=
  effect (lanePort lane) s (s.idleApply lane)

/-- RETRAIN_DONE (R104). -/
def execRetrainDone (lane code eyeW eyeH : Nat) (temp : Int) (s : State) : Host.Outcome State Fault Refusal :=
  effect (lanePort lane) s (s.retrainDone lane code eyeW eyeH temp)

/-- ADAPT_WINDOW (R105, R106, R107). -/
def execAdaptWindow (lane density diversity : Nat) (lag : Int) (blocks hdrErr fecCorr fecUncorr : Nat) (hiBer : Bool)
    (s : State) : Host.Outcome State Fault Refusal :=
  effect (lanePort lane) s (s.adaptWindow lane density diversity lag blocks hdrErr fecCorr fecUncorr hiBer)

/-- QUAL_MEASURE (R108). -/
def execQualMeasure (lane eyeW eyeH : Nat) (s : State) : Host.Outcome State Fault Refusal :=
  effect (lanePort lane) s (s.qualMeasure lane eyeW eyeH)

/-- FORCE_STEP_BACK (R109). -/
def execForceStepBack (lane : Nat) (s : State) : Host.Outcome State Fault Refusal :=
  effect (lanePort lane) s (s.forceStepBack lane)

/-- ELEC_IDLE_ENTRY (R110). -/
def execElecIdleEntry (lane : Nat) (temp : Int) (s : State) : Host.Outcome State Fault Refusal :=
  effect (lanePort lane) s (s.elecIdleEntry lane temp)

/-- ELEC_IDLE_EXIT (R111). -/
def execElecIdleExit (lane idleMs : Nat) (temp : Int) (s : State) : Host.Outcome State Fault Refusal :=
  effect (lanePort lane) s (s.elecIdleExit lane idleMs temp)

/-- FAST_EXIT_FAIL (R112). -/
def execFastExitFail (lane : Nat) (s : State) : Host.Outcome State Fault Refusal :=
  effect (lanePort lane) s (s.fastExitFail lane)

/-- BLOCK_LOCK (R100, R108, R114, R115, R117). -/
def execBlockLock (lane eyeW eyeH : Nat) (s : State) : Host.Outcome State Fault Refusal :=
  effect (lanePort lane) s (s.blockLock lane eyeW eyeH)

/-- LOCK_LOSS (R100, R146). -/
def execLockLoss (lane : Nat) (s : State) : Host.Outcome State Fault Refusal :=
  effect (lanePort lane) s (s.laneUnlock lane)

/-- LOCK_LOSS_RETRAIN (R104). -/
def execLockLossRetrain (lane : Nat) (s : State) : Host.Outcome State Fault Refusal :=
  effect (lanePort lane) s (s.lockLossRetrain lane)

/-- LANE_PHASE_VALID (R115). -/
def execLanePhaseValid (lane : Nat) (s : State) : Host.Outcome State Fault Refusal :=
  effect (lanePort lane) s (s.lanePhaseValid lane)

/-- LANE_GRP_DRAIN_END (R116). -/
def execLaneGrpDrainEnd (grp : Nat) (s : State) : Host.Outcome State Fault Refusal :=
  effect (group grp) s (s.laneGrpDrainEnd grp)

/-- LANE_NO_SIGNAL_TIMEOUT (R117). -/
def execLaneNoSignalTimeout (lane : Nat) (s : State) : Host.Outcome State Fault Refusal :=
  effect (lanePort lane) s (s.laneNoSignalTimeout lane)

/-- PORT_JOIN (R117). -/
def execPortJoin (port : Nat) (s : State) : Host.Outcome State Fault Refusal :=
  effect (lanePort port) s (s.portJoin port)

/-- HIBER_RETRAIN (R344). -/
def execHiberRetrain (lane : Nat) (s : State) : Host.Outcome State Fault Refusal :=
  effect (lanePort lane) s (s.hiberRetrain lane)

/-- SCHEDULED_RETRAIN (R344). -/
def execScheduledRetrain (lane : Nat) (s : State) : Host.Outcome State Fault Refusal :=
  effect (lanePort lane) s (s.scheduledRetrain lane)

end Sys2Proof.Machine
end

