-- ==== Sys2Proof/Machine/PairSt.lean ====
section
/-! DEFINITION. Roles and states of a pair (chapter 17): following, promotion, path loss, resynchronisation, the planned
switchover. -/

set_option Elab.async false

namespace Sys2Proof.Machine

/-- The codes of PAIR_STAT. -/
def PairRole.code : PairRole → Nat
  | .alone => 0 | .primary => 1 | .standby => 2
def PairSt.code : PairSt → Nat
  | .off => 0 | .search => 1 | .resync => 2 | .synced => 3 | .isolated => 4 | .alone => 5

/-- The ports that PAIR_INB_PORT names (R370). -/
def State.inbPorts (s : State) : List Nat :=
  ((List.range 4).map (fun k => s.ap Fld.pairInbPort_VAL / 256 ^ k % 256)).filter (fun p => s.portExists p)

/-- The PAIR block runs: present, its domain on, EN committed (R365). -/
def State.pairOn (s : State) : Bool := s.variant.pair && s.domOn 19 && s.apB Fld.pairCfg_EN && !(s.halted (.block .pair))

/-- A time state from its code. -/
def TState.ofCode : Nat → TState
  | 1 => .acquire
  | 2 => .locked
  | 3 => .holdover
  | _ => .freerun

/-! ## Following (R378, R379) -/

/-- The primary's mirrored time state shows while the part follows. -/
def State.showMirror (s : State) (t : TimeStateRec) : State :=
  let st := TState.ofCode (t.tstate % 4)
  let q : ClockQuality := ⟨fieldOf t.cls 0 8, fieldOf t.cls 8 8, fieldOf t.cls 16 16⟩
  let s1 := s.raiseIf (decide (s.tcore.tstate ≠ st)) Ev.tcoreState s.tcore.tstate.code st.code
  ({ s1 with
    tcore := { s.tcore with tstate := st, acqFromFree := decide (st = .acquire) && q.cls == 248 }
    ref := { s.ref with budgetOver := t.budgetOver, lockedS := if s.tcore.tstate = st then s.ref.lockedS else 0 } } : State).setQuality q

/-- A standby in SYNCED follows the primary while FOLLOW_EN is 1, slewing at THAW_RATE; a step is made only from FREERUN. -/
def State.startFollow (s : State) : State :=
  if s.pair.follow || !(s.apB Fld.pairCfg_FOLLOW_EN) || decide (s.pair.role ≠ .standby) || decide (s.pair.st ≠ .synced) then s
  else
    let s0 := if s.tcore.tstate = .freerun then s else s.startThaw
    let s1 : State := { s0 with
      pair := { s.pair with follow := true, diffs := [] }
      tcore := { s0.tcore with acqFirst := decide (s.tcore.tstate = .freerun), lockCnt := 0 }
      ref := { s.ref with ep := none, stepPend := none, bias := 0, biasSlew := false, lockedS := 0 } }
    match s1.pair.mirror with
    | some t => s1.showMirror t
    | none => s1

/-- The holdover episode that a part continues when following ends without a time reference: the primary's, or one that begins with
the mean of PAIR_TIME_DIFF (2^-16 ns) over the last 64 s. -/
def State.followEpisode (s : State) : Episode :=
  let b := ({ s with ref := { s.ref with faultHist := none } } : State).newEpisode
  let e0 := s.ap Fld.refHoCfg_ENTRY_NS * 1000 * 172800 + (meanInt s.pair.diffs).natAbs * 1000 * 172800 / 65536
  match s.pair.mirror with
  | some t =>
    if t.tstate % 4 = 3 then { b with e0 := t.hoErr * 1000 * 172800, e := t.hoErr * 1000 * 172800, t := t.hoTime, stage := t.hstage }
    else { b with e0 := e0, e := e0 }
  | none => { b with e0 := e0, e := e0 }

/-- Following ends (R379): a bias is taken from a qualified TSEL, or the part holds over. -/
def State.stopFollow (s : State) : State :=
  if !s.pair.follow then s
  else
    let s1 : State := { s with pair := { s.pair with follow := false } }
    match s1.ref.tsel with
    | some id =>
      let s2 : State := { s1 with ref := { s1.ref with bias := meanInt (s1.cand id).last, biasSlew := false } }
      (s2.setTstate .locked).updateClass
    | none =>
      let e := s1.followEpisode
      if s1.tcore.tstate = .holdover then
        (({ s1 with ref := { s1.ref with ep := some e } } : State).raise Ev.refHoldover e.stage).updateClass
      else
        let s2 := ({ s1 with ref := { s1.ref with ep := some e } } : State).setTstate .holdover
        if s2.tcore.tstate = .holdover then s2 else { s2 with ref := { s2.ref with ep := none } }

/-! ## States (R372) -/

/-- MIRRORED entries become ordinary ones, aged from that moment (R376). -/
def State.unmirror (s : State) : State :=
  { s with fdb := { s.fdb with
    entries := s.fdb.entries.map (fun e => (e.1, if e.2.mirrored then { e.2 with mirrored := false, hit := true } else e.2)) } }

/-- A rehearsal in progress ends at once; which checks have finished is not known: a free mask (R385). -/
def State.rehearseAbort (s : State) : State :=
  if !s.pair.rehearsing then s
  else
    let mask := (Config.freeWord s.free).toNat % 256
    let res := leBytes mask 1 ++ leBytes 0 15
    let s1 : State := { s with
      free := s.free + 1, pair := { s.pair with rehearsing := false, rehearseCmd := none, rehearsal := res } }
    let s2 := s1.raise Ev.pairRehearseDone mask
    match s.pair.rehearseCmd with
    | some d => s2.complete d 0xCC01 .drainedAbort 0 res
    | none => s2

/-- The pair enters a state: PAIR_STATE is raised; leaving SYNCED ends following, a rehearsal and a planned switchover; in ISOLATED
and ALONE nothing is mirrored. -/
def State.goPair (s : State) (st : PairSt) : State :=
  if s.pair.st = st then s
  else
    let s1 := if s.pair.st = .synced then s.stopFollow.rehearseAbort else s
    let cut := decide (st = .isolated) || decide (st = .alone) || decide (st = .off)
    let p := s1.pair
    let s2 : State := { s1 with pair := { p with
      st := st, mirrorOk := decide (st = .synced), switchAt := none
      queue := if cut then [] else p.queue, txq := if cut then [] else p.txq, held := if cut then [] else p.held
      overflow := if cut then false else p.overflow } }
    let s3 := s2.raise Ev.pairState st.code s2.pair.role.code
    if st = .isolated ∨ st = .alone then s3.unmirror else if st = .synced then s3.startFollow else s3

/-! ## Resynchronisation (R383) -/

/-- A flow is destroyed with NOW by the resynchronisation. -/
def State.flowKill (s : State) (i : Nat) : State :=
  let o := s.obj .flow i
  let n := (s.flowCopies i).length
  let s1 := s.flowAbort i
  let s2 := match o.drain with
    | some x => s1.drainDone .flow i x n
    | none => s1.raiseIf (decide (0 < n)) Ev.sysObjAbort (s.handleOf .flow i).toNat n
  o.waiting.foldl (fun s w => s.flowAgain w) ((s2.flowDrop i).dropObj .flow i)

/-- A standby begins to resynchronise: MIRRORED entries and every flow leave. -/
def State.resyncStart (s : State) : State :=
  let n := s.objCount .flow
  let s1 := ((s.fdb.entries.filter (fun e => e.2.mirrored)).map (fun e => e.1)).foldl
    (fun s k => if s.fdb.verFull then s else s.fdbRemove k.1 k.2) s
  let s2 := ((s1.inUse .flow).foldl (fun s i => s.flowKill i) s1).goPair .resync
  { s2 with
    pair := { s2.pair with resyncAt := s.clk.now, destroyed := n, records := 0, mirrorOk := false, queue := [], overflow := false }
    sw := { s2.sw with wait := s2.sw.wait.filter (fun w => !w.mirror), admQ := s2.sw.admQ.filter (fun w => w.kind != 4) } }

/-- W and the sequence source of the generation functions (Table PAIR-4). -/
def State.cbRecs (s : State) : List CbRec :=
  (s.fdb.cb.filter (fun e => e.2.type == 0)).map (fun e => ⟨e.1, e.2.wrap, e.2.src⟩)

/-- The stream of a resynchronisation is sent. -/
def State.resyncSend (s : State) : State :=
  let f := (s.fdb.entries.filter (fun e => !e.2.static && !e.2.mirrored)).map (fun e => (⟨e.1.1, e.1.2, e.2.dest, false⟩ : FdbRec))
  let fl := (s.inUse .flow).map (fun i => s.flowRec i 0)
  let cb := s.cbRecs
  (((({ s with pair := { s.pair with
      overflow := false, queue := [], streamed := true, mirrorOk := decide (s.pair.st = .synced) } } : State).omdSend
    (.begin s.pair.txSeq)).omdSend
    (.data f fl (some s.timeStateRec) cb)).omdSend (.done (f.length + fl.length + 1 + cb.length)))

/-- RESYNC_END is applied: SYNCED, MIRROR_OK, following, PAIR_SYNCED, and a waiting PAIR_RESYNC completes. -/
def State.resyncDone (s : State) : State :=
  let ms := (s.clk.now - s.pair.resyncAt) / 10 ^ 9
  let s1 := (s.goPair .synced).raise Ev.pairSynced ms s.pair.records s.pair.destroyed
  let s2 : State := { s1 with pair := { s1.pair with resyncMs := ms, resyncCmd := none } }
  match s.pair.resyncCmd with
  | some d => s2.complete d 0xCC02 .ok 0 (leBytes s.pair.records 4 ++ leBytes ms 4)
  | none => s2

/-- A PAIR_RESYNC that waits ends without its RESYNC_END: the part is a standby no more (log entry 34). -/
def State.resyncDrop (s : State) : State :=
  match s.pair.resyncCmd with
  | some d =>
    ({ s with pair := { s.pair with resyncCmd := none } } : State).complete d 0xCC02 .drainedAbort 0
      (leBytes s.pair.records 4 ++ leBytes ((s.clk.now - s.pair.resyncAt) / 10 ^ 9) 4)
  | none => s

/-! ## Roles (R371, R380 to R382) -/

/-- Promotion; `good` says whether the part was in SYNCED with MIRROR_OK at that moment. -/
def State.pairPromote (s : State) (cause : Nat) (good : Bool) : State :=
  let s1 := ((({ s with pair := { s.pair with role := .primary, primaryS := 0 } } : State).stopFollow.rehearseAbort).unmirror).resyncDrop
  (s1.bump Fld.pairPromoteCnt_VAL).raise Ev.pairPromote cause (s1.objCount .flow) (b2n (!good))

/-- A part becomes standby and resynchronises. -/
def State.pairStandby (s : State) : State :=
  ({ s with pair := { s.pair with role := .standby, primaryS := 0 } } : State).resyncStart

/-- A part becomes primary out of SEARCH. -/
def State.pairPrimary (s : State) (heard : Bool) : State :=
  ({ s with pair := { s.pair with role := .primary, primaryS := 0 } } : State).goPair (if heard then .synced else .alone)

/-- ALONE is entered: a standby with two witnesses promotes itself (R380). -/
def State.pairAlone (s : State) : State :=
  let good := decide (s.pair.st = .synced) && s.pair.mirrorOk
  let s1 := s.goPair .alone
  if s.pair.role = .standby ∧ s.apB Fld.pairCfg_INB_EN then s1.pairPromote 0 good else s1

/-- The Ommund path is back while the part is ALONE: roles are compared (R381). -/
def State.pairCompare (s : State) : State :=
  let peerPrimary := s.pair.peer.any (fun h => h.role == 1)
  let theirs := s.pair.peer.elim 0 (fun h => h.primaryS)
  if s.pair.role = .standby then s.resyncStart
  else if peerPrimary && (decide (s.pair.primaryS < theirs) || (s.pair.primaryS == theirs && s.apB Fld.pairCfg_UNIT_ID)) then s.pairStandby
  else s.goPair .synced

/-- A path that has never been heard, or has missed three heartbeats in a row (R369). -/
def HbPath.lost (x : HbPath) : Bool := !x.ok && (decide (3 ≤ x.misses) || (x.beats == 0 && x.misses == 0))

/-- The paths have changed (Table PAIR-3); RESYNC takes the exits of SYNCED. -/
def State.pairPaths (s : State) : State :=
  let cut := fun (s : State) => if s.pair.inb.lost then s.pairAlone else s.goPair .isolated
  match s.pair.st with
  | .synced => if s.pair.omd.lost then cut s else s
  | .resync => if s.pair.omd.lost then cut s else s
  | .isolated =>
    if s.pair.omd.ok then (if s.pair.role = .standby then s.resyncStart else s.goPair .synced)
    else if s.pair.inb.lost then s.pairAlone else s
  | .alone => if s.pair.omd.ok then s.pairCompare else s
  | _ => s

/-- A role is decided in SEARCH from a heartbeat of the peer (R371).  The heartbeat does not carry the peer's REQ: whether it is 1 is
a free choice. -/
def State.pairDecide (s : State) (hb : HbPayload) : State :=
  if hb.role = 1 then s.pairStandby
  else if hb.state ≠ 1 then s
  else
    let mine := s.ap Fld.pairRole_REQ == 1
    let peer := Config.freeBit s.free
    let s1 : State := { s with free := s.free + 1 }
    if (mine && !peer) || (mine == peer && !(s.apB Fld.pairCfg_UNIT_ID)) then s1.pairPrimary true else s1.pairStandby

/-- The boundary of a planned switchover: both parts change role (R382). -/
def State.pairSwitch (s : State) : State :=
  match s.pair.switchAt with
  | none => s
  | some t =>
    if secOf s.tod < t then s
    else
      let good := decide (s.pair.st = .synced) && s.pair.mirrorOk
      let s1 : State := { s with pair := { s.pair with switchAt := none } }
      if s.pair.role = .standby then s1.pairPromote 1 good
      else ({ s1 with pair := { s1.pair with role := .standby, primaryS := 0 } } : State).startFollow

/-- A commit of PAIR_CFG (R371, Table PAIR-3): EN starts the search, or makes the part standalone; INB_EN 0 loses the in-band
path. -/
def State.pairCommit (s : State) : State :=
  if !s.pairOn then
    (if s.pair.st = .off then s
     else
       let s1 := ({ s with pair := { s.pair with role := .alone, primaryS := 0 } } : State).goPair .off
       let s2 := s1.unmirror.resyncDrop
       { s2 with pair := { s2.pair with omd := {}, inb := {}, peer := none, mirror := none, rxSeq := 0, txSeq := 0, streamed := false } })
  else
    let s1 : State := if s.apB Fld.pairCfg_INB_EN then s else { s with pair := { s.pair with inb := {} } }
    if s.pair.st = .off then s1.goPair .search else s1.pairPaths

/-- A second boundary: PRIMARY_S counts. -/
def State.pairSec (s : State) : State :=
  if s.pair.role = .primary then { s with pair := { s.pair with primaryS := min (s.pair.primaryS + 1) (2 ^ 32 - 1) } } else s

end Sys2Proof.Machine
end

