-- ==== Sys2Proof/Machine/Commit.lean ====
section
/-! DEFINITION. Apply points that several units share (R31, R35): the commit with the checks that R101, R139, R177, R243 and R275
put on it, the SEC point, and the frame boundary of a port. -/

set_option Elab.async false

namespace Sys2Proof.Machine

/-! ## Commit -/

/-- A committed word is kept at its applied value. -/
def State.keepWord (s : State) (k : RegKey) (e : Evt) (a0 a1 : Nat) : State := (s.revertBits k (k.pointMask .cmt)).raise e a0 a1

/-- One word of the CMT set takes effect, unless its rule keeps the applied value (R101, R139, R177, Tables SW-9 and BPM-8). -/
def State.commitWord (s : State) (k : RegKey) : State :=
  let t := s.copyBits k (k.pointMask .cmt)
  match k.name with
  | .laneGrpMode => s.commitGrpMode k.i
  | .portCfg => s.capNext k
  | .portSchedCap => s.capNext k
  | .swBoundRate =>
    if t.ap Fld.swBoundRate_RATE < 3072 ∨ 5715 < t.ap Fld.swBoundRate_RATE then s.keepWord k Ev.swCfgBad 0 0 else t
  | .bpmCfg =>
    if (List.range 5).any (fun n => decide ((t.pool n).count * t.rsvPct < (t.pool n).rsv * 100)) then
      s.keepWord k Ev.bpmCfgBad k.addr 0
    else t
  | .bpmHeadroom =>
    if s.hrPart k.i < t.hrPart k.i ∧ s.sharedFree 3 < t.hrPart k.i - s.hrPart k.i then s.keepWord k Ev.bpmCfgBad k.addr 0 else t
  | _ => t

/-- A committed word stays pending: it waits behind the admission in progress (R139; log entry 94). -/
def State.capDeferred (s : State) (k : RegKey) : Bool :=
  s.admBusy && (decide (k.name = .portCfg) || decide (k.name = .portSchedCap))

/-- SYS_COMMIT with COMMIT: every CMT-pending write takes effect (R35), then the units whose settings changed act. -/
def State.commit (s : State) : State :=
  let ks := s.waitingAt .cmt (fun _ => true)
  let s1 := ks.foldl (fun s k => s.commitWord k) (s.pllCommitPre ks)
  let s2 : State := { s1 with regs := { s1.regs with pend := dropPoint s1.regs.pend .cmt (fun k => !(s1.capDeferred k)), cmtAtSec := false } }
  (((s2.pllCommitPost s).pairsEval true).lnkEvalAll.pairCommit).causesClear.xoffUpdate

/-- SYS_COMMIT with COMMIT and AT_SEC: the commit waits for the next SEC point. -/
def State.commitAtSec (s : State) : State := { s with regs := { s.regs with cmtAtSec := true } }

/-- SYS_COMMIT with DISCARD: every CMT-pending write is dropped, written copies revert (R35).  A waiting AT_SEC commit goes with the set
it was to take: DESIGN CHOICE, log entry 92. -/
def State.discard (s : State) : State :=
  let ks := (s.regs.pend.filter (fun x => x.points.contains .cmt)).map (fun x => x.key)
  let t := ks.foldl (fun s k => s.revertBits k (k.pointMask .cmt)) s
  { s with regs := { t.regs with
      cmtAtSec := false
      pend := (s.regs.pend.map (fun (x : Pend) => { x with points := x.points.filter (fun q => decide (q ≠ .cmt)) })).filter
        (fun x => decide (x.points ≠ []) || (x.dom && !(ks.contains x.key))) } }

/-! ## SEC points -/

/-- HIF_TIME_BEACON at a SEC point (R78). -/
def State.beacon (s : State) : State :=
  s.raiseIf (s.apB Fld.hifGlbCtrl_BEACON_EN) Ev.hifTimeBeacon (secOf s.tod % 2 ^ 32) (secOf s.tod / 2 ^ 32)

/-- A SEC point (R31): a waiting commit, the SEC-pending writes, LNK corrections on their way, alignments, the beacon. -/
def State.secPoint (s : State) : State :=
  let s1 := if s.regs.cmtAtSec then s.commit else s
  let s2 := s1.applyAt .sec (fun _ => true)
  let s3 := (List.range 96).foldl (fun s p => s.calBoundary 3 p) s2
  (s3.updateClass.pllSec).beacon

/-! ## Frame boundaries -/

/-- PORT_EXPRESS at its frame boundary, under R139: it waits for the next one while an admission is in progress (log entry 94); a
refused one no longer waits. -/
def State.expressApply (s : State) (p : Nat) : State :=
  let k : RegKey := ⟨.portExpress, p, 0⟩
  if (s.waitingAt .frm (fun x => decide (x = k))) = [] ∨ s.admBusy then s
  else
    let t := s.capCheck (s.applyAt .frm (fun x => decide (x = k))) k (k.pointMask .frm)
    { t with regs := { t.regs with pend := dropPoint t.regs.pend .frm (fun x => decide (x = k)) } }

/-- Lanes of a port whose TX_SQUELCH has been cleared since `old` leave squelch: they send idle first (R113), and a timestamp-unit job of
a locked port has lost its precondition (R327). -/
def State.leaveSquelch (s old : State) (p : Nat) : State :=
  match (s.portLanes p).filter (fun n => old.apB Fld.laneCtrl_TX_SQUELCH n && !(s.apB Fld.laneCtrl_TX_SQUELCH n)) with
  | [] => s
  | l => (l.foldl (fun s n => s.setLane n { s.lane n with unsqAt := some s.clk.now }) s).calLose (fun t i => t == 1 && i == p && (s.lane p).lock)

/-- FRAME_BOUNDARY_APPLY (R31, R329): FRM writes; policers and returning flows at the receiver; the timestamp unit's correction when
neither direction carries a frame. -/
def State.frameBoundaryApply (s : State) (p : Nat) (rx tx : Bool) : State :=
  let s1 := (s.applyAt .frm (fun k => s.frmWord p rx tx k && decide (k.name ≠ .portExpress))).leaveSquelch s p
  let s2 := if tx then s1.expressApply p else s1
  let s3 := if rx then s2.flowBoundary p else s2
  if rx && tx then s3.calBoundary 1 p else s3

/-- A FRM write reaches a port: with no frame in transfer it applies at once (Table REG-2). -/
def State.frmNow (s : State) (p : Nat) : State :=
  if s.rxIdle p || s.txIdle p then s.frameBoundaryApply p (s.rxIdle p) (s.txIdle p) else s

/-! ## Meanings -/

/-- FRAME_BOUNDARY_APPLY (R31, R329). -/
def execFrameBoundaryApply (port : Nat) (rx tx : Bool) (s : State) : Host.Outcome State Fault Refusal :=
  effect (portNo port) s (s.frameBoundaryApply port rx tx)

end Sys2Proof.Machine
end

