-- ==== Sys2Proof/Machine/Servo.lean ====
section
/-! DEFINITION. The time cores (chapter 9): steps and sets (R208), the servo's samples (R206), the standby core and the swaps (R209
to R214), the second boundary, and the TIME period. -/

set_option Elab.async false

namespace Sys2Proof.Machine

/-! ## Steps (R208) -/

/-- A time-class candidate measured against a core that has moved by `x` (2^-16 ns). -/
def Cand.moved (c : Cand) (x : Int) : Cand :=
  { c with off := c.off + x, last := c.last.map (fun v => v + x), qsum := c.qsum + x * c.qn }

/-- 1 ms of the cores. -/
def msUnits : Nat := 1000000 * unitsPerNs

/-- A swap that is pending moves behind a step: the first second boundary at least 1 ms after it (R213). -/
def State.swapAfterStep (s : State) : State :=
  { s with tcore := { s.tcore with swapPend := s.tcore.swapPend.map (fun _ => s.tod + msUnits) } }

/-- The second that the active core stands in counts as taken (R208, R212). -/
def State.markSecond (s : State) : State := { s with clk := { s.clk with secDone := s.tod / unitsPerS } }

/-- Both cores move in the same TIME period, to the counts of `c`, the active one by `d` units: a SEC point, the gates follow,
alignments end, the recorded LTX edges and the offsets against the core move with it, and TCORE_STEP_DONE carries the offset in ns
(R208, R277). -/
def State.moveCores (s : State) (c : Clock) (d : Int) : State :=
  let x := roundDiv d unitsPerFrac
  let ns := roundDiv d unitsPerNs
  let s0 := (({ s with clk := c } : State).markSecond).ltxMove d
  let s1 : State := { s0 with
    tcore := { s.tcore with stepN := s.tcore.stepN + 1 }
    fab := { s.fab with stepSum := s.fab.stepSum + d }
    lnk := { s.lnk with ports := s.lnk.ports.map (fun e => (e.1, { e.2 with base := e.2.base.map (fun b => (b.1 + x, b.2)) })) }
    ref := { s.ref with cands := s.ref.cands.map (fun e => (e.1, if candIsTime e.1 then e.2.moved x else e.2)) } }
  let s2 := ((s1.swapAfterStep).gatesResync).pllStepped
  (s2.raise Ev.tcoreStepDone (unsigned 64 ns % 2 ^ 32) (unsigned 64 ns / 2 ^ 32)).secPoint

/-- A step of both cores by `d` units (R208). -/
def State.applyStep (s : State) (d : Int) : State := s.moveCores (s.clk.shift d) d

/-- A step commanded in HOLDOVER with no return pending: TSTATE becomes ACQUIRE, |step| joins E for a return to HOLDOVER, which
comes at once while no time reference is selected (R269). -/
def State.stepInHoldover (s : State) (d : Int) : State :=
  if s.tcore.tstate ≠ .holdover ∨ s.ref.stepPend.isSome ∨ s.pair.follow then s
  else
    let e := (roundDiv d unitsPerPs).natAbs * 172800
    let s1 : State := { s with ref := { s.ref with ep := s.ref.ep.map (fun x => { x with e := x.e + e }) } }
    let s2 := s1.setTstate .acquire false
    if s2.ref.tsel.isNone then s2.setTstate .holdover else s2

/-- The return that waits has been stepped out: STEP_PENDING clears; in HOLDOVER TSTATE becomes ACQUIRE, in LOCKED the preferred
candidate takes over (R267, R268). -/
def State.returnStepped (s : State) (id : Nat) : State :=
  let s1 := ({ s with ref := { s.ref with stepPend := none } } : State).timeStateOut
  if s1.tcore.tstate = .holdover then s1.setTstate .acquire false
  else if s1.ref.tsel = some id then s1
  else s1.selectBias id 0

/-- REF's offset is stepped out: the cores move by its negative. -/
def State.stepToRef (s : State) (id : Nat) : State × Int :=
  let o := (s.cand id).off
  ((s.applyStep (-o * (unitsPerFrac : Int))).returnStepped id, -o)

/-- Flags of TIME_STEP. -/
def CmdDesc.toRef (d : CmdDesc) : Bool := bitAt (d.arg 20 1) 0
def CmdDesc.atSec (d : CmdDesc) : Bool := bitAt (d.arg 20 1) 1

/-- RESULT of TIME_STEP. -/
def State.stepBytes (s : State) (x : Int) : List Byte := leBytes (unsigned 64 x) 8 ++ leBytes (secOf s.tod) 6 ++ leBytes 0 2

/-- A TIME_STEP is applied and completes. -/
def State.stepNow (s : State) (d : CmdDesc) : State :=
  if d.toRef then
    match s.ref.stepPend with
    | some id =>
      let r := s.stepToRef id
      r.1.complete d 0xB001 .ok 0 (r.1.stepBytes r.2)
    | none => s.complete d 0xB001 .badArg
  else
    let x := d.argI 12 8
    let u := x * (unitsPerFrac : Int)
    let t := (s.applyStep u).stepInHoldover u
    t.complete d 0xB001 .ok 0 (t.stepBytes x)

/-- A TIME_SET is applied at its boundary and completes: both cores read SECONDS s, 0 ns. -/
def State.setNow (s : State) (d : CmdDesc) : State :=
  let x := d.arg 12 6 * unitsPerS
  let s1 := s.moveCores { s.clk with tcA := x, tcB := x } ((x : Int) - (s.tod : Int))
  let t : State := { s1 with tcore := { s1.tcore with trackErr := s1.tcore.trackErr.map (fun _ => 0) } }
  t.complete d 0xB002 .ok 0 (leBytes (secOf t.tod) 6)

/-- TIME_STEP (R208, R233). -/
def State.timeStep (s : State) (d : CmdDesc) : State :=
  let c := unitChecks d false .tcore true [Rdy.tcore]
  s.runCmd d 0xB001 { c with
      badForm := c.badForm || decide (4 ≤ d.arg 20 1) || !(d.zero 21 32)
      badArg := d.toRef && s.ref.stepPend.isNone } (fun s =>
    if s.tcore.steps ≠ [] then s.complete d 0xB001 .busy
    else if d.atSec then { s with tcore := { s.tcore with steps := [⟨d, false⟩] } }
    else s.stepNow d)

/-- TIME_SET (R208, R233). -/
def State.timeSet (s : State) (d : CmdDesc) : State :=
  let c := unitChecks d false .tcore true [Rdy.tcore]
  s.runCmd d 0xB002 { c with badForm := c.badForm || !(d.zero 18 32) } (fun s =>
    if s.apB Fld.tcoreCtrl_SERVO_EN ∧ (s.tcore.tstate = .locked ∨ s.tcore.tstate = .holdover) then s.complete d 0xB002 .busy
    else { s with tcore := { s.tcore with steps := s.tcore.steps ++ [⟨d, true⟩] } })

/-- The steps and sets that waited for the second boundary. -/
def State.waitingSteps (s : State) : State :=
  s.tcore.steps.foldl (fun s w => if w.set then s.setNow w.desc else s.stepNow w.desc)
    { s with tcore := { s.tcore with steps := [] } }

/-! ## The servo (R206, R207) -/

/-- LOCK_NS in 2^-16 ns. -/
def State.lockNs (s : State) : Nat := max 1 (s.ap Fld.tcoreCtrl_LOCK_NS) * 65536

/-- THAW_RATE in 2^-16 ns per second. -/
def State.thawRate (s : State) : Nat := max 1 (s.ap Fld.refRetCfg_THAW_RATE) * 65536

/-- THAW_RATE as a rate, 2^-44: ns per second, rounded down. -/
def State.thawLimit (s : State) : Nat := max 1 (s.ap Fld.refRetCfg_THAW_RATE) * 2 ^ 44 / 10 ^ 9

/-- RATE after a phase sample comes from the loop filter, which the spec leaves to the part: a free value (log entry 10).  While the
slew is limited its correction stays within THAW_RATE (R268). -/
def State.freeRate (s : State) : State :=
  let r := (Config.freeRate s.free).toInt
  let l : Int := s.thawLimit
  let t : State := { s with free := s.free + 1 }
  match s.tcore.thaw with
  | none => t.setRate r
  | some b => t.setRate (b + clampInt (-l) l (r - b))

/-- RATE after a sample of the frequency reference: a free value; a limited phase correction goes on about it. -/
def State.freeFreq (s : State) : State :=
  let r := (Config.freeRate s.free).toInt
  let t : State := { s with free := s.free + 1 }
  match s.tcore.thaw with
  | none => t.setRate r
  | some b => ({ t with tcore := { t.tcore with thaw := some r } } : State).setRate (r + (s.clk.rate - b))

/-- The first sample after ACQUIRE was entered from FREERUN, or after a standby began to follow out of FREERUN, may step (R206,
R378). -/
def State.autoStep (s : State) (off : Int) : Bool :=
  s.tcore.acqFirst && (s.pair.follow || (decide (s.tcore.tstate = .acquire) && s.tcore.acqFromFree)) && s.apB Fld.tcoreCtrl_AUTO_STEP &&
    decide (s.lockNs < off.natAbs)

/-- The servo takes a sample (R206): an automatic step, or RATE moves, and 16 consecutive samples within LOCK_NS lock.  In LOCKED a
limited slew ends with the first sample within LOCK_NS (log entry 116). -/
def State.servoTake (s : State) (off : Int) : State :=
  if !(s.apB Fld.tcoreCtrl_SERVO_EN) then s
  else if !s.pair.follow && decide (s.tcore.tstate ≠ .acquire) && decide (s.tcore.tstate ≠ .locked) then s
  else
    let n := if off.natAbs ≤ s.lockNs then s.tcore.lockCnt + 1 else 0
    let s1 : State := { s with tcore := { s.tcore with samples := satAdd 32 s.tcore.samples 1, lastOff := off, acqFirst := false, lockCnt := n } }
    if s.autoStep off then
      ({ s1 with tcore := { s1.tcore with lockCnt := 0 } } : State).applyStep (-off * (unitsPerFrac : Int))
    else
      let s2 := s1.freeRate
      let s2 : State := if n ≠ 0 ∧ s2.tcore.tstate = .locked then { s2 with tcore := { s2.tcore with thaw := none } } else s2
      if s2.tcore.tstate = .acquire ∧ 16 ≤ n then s2.setTstate .locked else s2

/-- The measured offset joins the candidate's history (R261, R267). -/
def Cand.measured (c : Cand) (off : Int) : Cand :=
  let q := decide (c.st = .qualifying)
  { c with off := off, samples := c.samples + 1, last := (off :: c.last).take 16
           qsum := if q then c.qsum + off else c.qsum, qn := if q then c.qn + 1 else c.qn }

/-- The return that waits is looked at again with the current offset (R267, R269). -/
def State.returnCheck (s : State) (id : Nat) (off : Int) : State :=
  if s.ref.stepPend = some id ∧ s.slewOk off then s.returnStepped id else s

/-- An offset sample of a time-class candidate: REF measures it while it qualifies or is usable, and the servo takes the selected
one's, less the bias (R206, R257, R261). -/
def State.timeSample (s : State) (id : Nat) (off : Int) : State :=
  let c := s.cand id
  if c.st = .qualifying ∨ c.st = .qualified ∨ c.st = .selected then
    let s1 : State := { s with ref := { s.ref with cands := Tab.set s.ref.cands id (c.measured off) } }
    let s2 := s1.returnCheck id off
    if s2.ref.tsel = some id ∧ (s2.cand id).st = .selected ∧ s2.ref.stepPend ≠ some id ∧ !s2.pair.follow then
      s2.servoTake (off - s2.ref.bias)
    else s2
  else s

/-- SERVO_SAMPLE (R206): the selected time reference delivers an offset. -/
def State.servoSample (s : State) (off : Int) : State :=
  match s.ref.tsel with
  | some id => s.timeSample id off
  | none => s

/-! ## The standby core (R209, R210) -/

/-- The standby core's count, by its error in ps against the active core. -/
def State.putStandby (s : State) (err : Int) : State :=
  let t := ((s.tod : Int) + err * (unitsPerPs : Int)).toNat
  { s with clk := if s.clk.active then { s.clk with tcA := t } else { s.clk with tcB := t } }

/-- A pending swap is cancelled with a cause. -/
def State.swapDrop (s : State) (cause : Nat) : State :=
  if s.tcore.swapPend.isNone then s
  else ({ s with tcore := { s.tcore with swapPend := none } } : State).raise Ev.tcoreSwapRefused cause

/-- A comparison: a delay set that CAL has put in place takes effect (R335). -/
def State.compared (s : State) (err : Int) : State :=
  let s1 := s.putStandby err
  { s1 with tcore := { s1.tcore with trackErr := some err }, cal := { s1.cal with coreSet := false } }

/-- STANDBY_TRACK_ACQUIRED. -/
def State.standbyTrackAcquired (s : State) (err : Int) : State :=
  if !s.tcore.stbyIn || decide (5 < err.natAbs) then s
  else
    let s1 := s.compared err
    if s.tcore.track then s1 else { s1 with tcore := { s1.tcore with track := true, trackS := 0, trackWhole := false } }

/-- STANDBY_TRACK_LOSS: a pending swap is cancelled (R209, R213). -/
def State.standbyTrackLoss (s : State) (err : Int) : State :=
  if !s.tcore.stbyIn || decide (err.natAbs ≤ 5) then s
  else
    let s1 := s.compared err
    let s2 : State := { s1 with tcore := { s1.tcore with track := false, trackS := 0, trackWhole := false } }
    (s2.raiseIf s.tcore.track Ev.tcoreTrackLost (b2n (!s.clk.active)) (satSigned 32 err)).swapDrop 1

/-- The standby goes out of service. -/
def State.stbyOut (s : State) : State :=
  ({ s with tcore := { s.tcore with stbyIn := false, track := false, trackErr := none, trackS := 0, trackWhole := false } } : State).swapDrop 1

/-- The standby returns to service with the active core's time. -/
def State.stbyIn (s : State) : State :=
  if s.tcore.stbyIn then s
  else
    let s1 := s.putStandby 0
    { s1 with tcore := { s1.tcore with stbyIn := true, track := false, trackErr := some 0, trackS := 0, trackWhole := false } }

/-! ## Swaps (R211 to R214) -/

/-- ELIGIBLE. -/
def State.eligible (s : State) : Bool := decide (60 ≤ s.tcore.trackS)

/-- The other core takes over, the gates follow, the recorded LTX edges are those of the new core's time (R277), TCORE_SWAP_DONE
(R212). -/
def State.swapCores (s : State) : State :=
  let err := s.tcore.trackErr.getD 0
  let s1 : State := { s with
    clk := { s.clk with active := !s.clk.active }
    tcore := { s.tcore with swapPend := none, trackS := 0, trackWhole := s.tcore.track, trackErr := some (-err) } }
  ((s1.ltxMove ((s1.tod : Int) - (s.tod : Int))).gatesResync).raise Ev.tcoreSwapDone (b2n s1.clk.active) (satSigned 32 err)

/-- REQ. -/
def State.swapReq (s : State) : State :=
  if !s.tcore.stbyIn then s.raise Ev.tcoreSwapRefused 2
  else if s.tcore.swapPend.isSome then s.raise Ev.tcoreSwapRefused 3
  else if !s.eligible then s.raise Ev.tcoreSwapRefused 1
  else { s with tcore := { s.tcore with swapPend := some (s.tod + msUnits) } }

/-- CANCEL. -/
def State.swapCancel (s : State) : State :=
  if s.tcore.swapPend.isSome then { s with tcore := { s.tcore with swapPend := none } } else s.raise Ev.tcoreSwapRefused 3

/-- The action bits of a TCORE_SWAP write whose unlock has been consumed; they read 0 once taken. -/
def State.swapAct (s : State) (bits : Nat) : State :=
  let s := { s with regs := { s.regs with cfgErr := s.regs.cfgErr.filter (fun a => decide (a ≠ RegKey.addr ⟨.tcoreSwap, 0, 0⟩)) } }
  match bits % 16 with
  | 0 => s
  | 1 => s.swapReq
  | 2 => s.swapCancel
  | 4 => s.stbyOut
  | 8 => s.stbyIn
  | _ => s.raise Ev.tcoreSwapRefused 4

/-- A KW write of the bits `v` of TCORE_SWAP. -/
def State.swapWrite (s : State) (p : Path) (v : Nat) : State :=
  s.keyed p (RegKey.addr ⟨.tcoreSwap, 0, 0⟩) (fun s => s.swapAct v)

/-- CORE_FAULT (R214). -/
def State.coreFault (s : State) : State :=
  let bad := b2n s.clk.active
  if s.tcore.stbyIn && s.tcore.track then
    let s1 := (s.swapDrop 1).swapCores
    ({ s1 with tcore := { s1.tcore with stbyIn := false, track := false, trackErr := none, trackWhole := false } } : State).raise Ev.tcoreFault
      bad 1
  else s.raise Ev.tcoreFault bad 0

/-! ## The second boundary -/

/-- TRACK_S counts the seconds in which every comparison stayed within 5 ps. -/
def State.trackSec (s : State) : State :=
  if s.tcore.stbyIn && s.tcore.track then
    { s with tcore := { s.tcore with trackS := if s.tcore.trackWhole then satAdd 16 s.tcore.trackS 1 else s.tcore.trackS, trackWhole := true } }
  else s

/-- REF's bookkeeping of a second: the history of 64 s (R262), the time LOCKED (R264), a bias that is slewed out (R261). -/
def State.refSec (s : State) : State :=
  let off := s.ref.tsel.elim 0 (fun id => (s.cand id).off)
  let b := s.ref.bias
  let b' := if s.ref.biasSlew then (if b < 0 then min 0 (b + s.thawRate) else max 0 (b - s.thawRate)) else b
  { s with ref := { s.ref with
    hist := ((s.clk.rate, s.modelTemp, off) :: s.ref.hist).take 64
    lockedS := if s.tcore.tstate = .locked then s.ref.lockedS + 1 else s.ref.lockedS
    bias := b', biasSlew := s.ref.biasSlew && decide (b' ≠ 0) } }

/-- The active core is at a second boundary (R31): a swap that is due, the SEC point, the units that act once a second, and then
the steps that waited, which a swap never meets (R213). -/
def State.atSecond (s0 : State) : State :=
  let s := s0.markSecond
  let due := s.tcore.swapPend.any (fun t => decide (t ≤ s.tod)) && decide (s.tcore.steps = [])
  let s1 := if due then s.swapCores else s.trackSec
  let s2 := (((s1.secPoint).pairSwitch).pairSec).refSec
  (((((s2.gnssModeSec).ppsSec).lnkSec).selSec).calSaveEnd).waitingSteps

/-- What the active core has to count to its next second boundary (R31, R212). -/
def State.toBoundary (s : State) : Int := (((max (s.tod / unitsPerS) s.clk.secDone + 1) * unitsPerS : Nat) : Int) - (s.tod : Int)

/-- SECOND_BOUNDARY: both cores, and the model clock, move to the next boundary of the active core (log entry 35). -/
def State.secondBoundary (s : State) : State :=
  let d := s.toBoundary
  ({ s with clk := { s.clk.shift d with now := s.clk.now + d.toNat / unitsPerPs } } : State).atSecond

/-- A second boundary while RST_N holds the part with KEEP_TIME: the cores and the PPS outputs alone run on (R404). -/
def State.heldSecond (s : State) : State :=
  if !s.pwr.keepTime then s
  else
    let d := s.toBoundary
    (({ s with clk := { s.clk.shift d with now := s.clk.now + d.toNat / unitsPerPs } } : State).markSecond).ppsSec

/-- One TIME period (R203): both cores advance; a second boundary that the active core crosses is taken. -/
def State.timePeriod (s : State) : State :=
  let c := s.clk.shift (periodUnits s.clk.rate : Nat)
  let t : State := { s with clk := { c with now := s.clk.now + 1600 } }
  if t.clk.secDone < t.tod / unitsPerS then t.atSecond else t

/-- SECOND_BOUNDARY in every condition of the part: the cores count from the first lock of PLL-T on, and in a reset with KEEP_TIME. -/
def State.secondEvent (s : State) : State :=
  if s.pwr.inReset then s.heldSecond else if s.isReady Rdy.tcore then s.secondBoundary else s

/-- What happens while no command waits: one TIME period of 1.6 ns passes (log entry 2). -/
def State.idleTick (s : State) : State :=
  if s.pwr.inReset then
    (if s.pwr.keepTime then { s with clk := { s.clk.shift (periodUnits s.clk.rate : Nat) with now := s.clk.now + 1600 } }
     else { s with clk := { s.clk with now := s.clk.now + 1600 } })
  else if s.isReady Rdy.tcore then s.timePeriod
  else { s with clk := { s.clk with now := s.clk.now + 1600 } }

/-! ## Meanings -/

/-- SERVO_SAMPLE (R206, R257, R261). -/
def execServoSample (off : Int) (s : State) : Host.Outcome State Fault Refusal :=
  effect true s (s.servoSample off)

/-- TIME_STEP (R208, R233). -/
def execTimeStep (d : CmdDesc) (s : State) : Host.Outcome State Fault Refusal :=
  effect (d.wf) s (s.timeStep d)

/-- TIME_SET (R208, R233). -/
def execTimeSet (d : CmdDesc) (s : State) : Host.Outcome State Fault Refusal :=
  effect (d.wf) s (s.timeSet d)

/-- STANDBY_TRACK_ACQUIRED (R209). -/
def execStandbyTrackAcquired (err : Int) (s : State) : Host.Outcome State Fault Refusal :=
  effect true s (s.standbyTrackAcquired err)

/-- STANDBY_TRACK_LOSS (R209, R213). -/
def execStandbyTrackLoss (err : Int) (s : State) : Host.Outcome State Fault Refusal :=
  effect true s (s.standbyTrackLoss err)

/-- CORE_FAULT (R214). -/
def execCoreFault (s : State) : Host.Outcome State Fault Refusal :=
  effect true s (s.coreFault)

/-- SECOND_BOUNDARY (R31, R208, R212). -/
def execSecondBoundary (s : State) : Host.Outcome State Fault Refusal :=
  effectInReset true s (s.secondEvent)

end Sys2Proof.Machine
end

