-- ==== Sys2Proof/Machine/Lnk.lean ====
section
/-! DEFINITION. The LNK units at work (chapter 10): phase updates (R234, R235, R241), exchanges (R239, R240, R245), pairs (R245 to
R247), and the TLV (R238). -/

set_option Elab.async false

namespace Sys2Proof.Machine

/-- Φ units of 0.5 ps as 2^-16 ns. -/
def phiToFrac (x : Int) : Int := roundDiv (x * 65536) 2000

/-- A number of ps as a limit on a 2^-16 ns difference. -/
def withinPs (x : Int) (ps : Nat) : Bool := decide (x.natAbs * 1000 ≤ ps * 65536)

/-- The SELECTED channel of a port. -/
def State.selChan (s : State) (p : Nat) : Option Nat :=
  (s.liveChans p).find? (fun i => decide ((s.tchan i).state = .selected))

/-! ## Phase updates -/

/-- A phase slip (R235): the unwrapping restarts, in WAIT the run of calm updates with it, and an ACTIVE port returns to TRACKING. -/
def State.lnkSlip (s : State) (p : Nat) (phi : Int) : State :=
  let x := s.lnkPort p
  let s1 := (((s.bump Fld.lnkSlipCnt_VAL p).raise Ev.lnkPhaseSlip p).phiForget p).setLnk p { x with
    phi := some phi, rs := [], calm := if x.st = .wait then 0 else x.calm }
  if x.st = .active then s1.lnkGo p .tracking 0 else s1

/-- A servo sample between exchanges (R241). -/
def State.lnkBetween (s : State) (p : Nat) (phi : Int) : State :=
  let x := s.lnkPort p
  match s.selChan p, x.base with
  | some i, some b =>
    if x.st = .active then s.timeSample (s.handleOf .tchan i).toNat (b.1 + phiToFrac (phi - b.2)) else s
  | _, _ => s

/-- LNK_PHASE_UPDATE (R234, R235): the first update after Φ became valid counts as one that has not moved. -/
def State.lnkPhaseUpdate (s : State) (p : Nat) (phi : Int) (freqOk : Bool) : State :=
  if !freqOk then s.lnkPhiLost p
  else
    let s := if (s.lnkPort p).phi.isNone then s.lnkPhiValid p else s
    let x := s.lnkPort p
    match x.phi with
    | none => s
    | some old =>
      if x.fresh then (s.setLnk p { x with phi := some phi, fresh := false, calm := 1 }).lnkEval p
      else if 1600 < (phi - old).natAbs then s.lnkSlip p phi
      else
        let n := if (phi - old).natAbs ≤ 20 then min 16 (x.calm + 1) else 0
        ((s.setLnk p { x with phi := some phi, calm := n }).lnkEval p).lnkBetween p phi

/-! ## Pairs -/

/-- SOLVE_N. -/
def State.solveN (s : State) : Nat := max 1 (s.ap Fld.lnkCfg_SOLVE_N)

/-- A pair solution within the tolerance (R245 to R247): with SOLVE_N of them ā is formed, and a suspended pair resumes. -/
def State.pairGood (s : State) (a : Nat) (ai : Int) : State :=
  let x := s.lnkPair a
  let n := s.solveN
  let sols := (ai :: x.sols).take n
  let susp := x.suspended && decide (x.good + 1 < n)
  let y : LnkPair := { x with sols := sols, taken := min (x.taken + 1) (2 ^ 32 - 1), good := x.good + 1, suspended := susp }
  if susp || decide (sols.length < n) then s.setPair a y
  else
    let m := roundDiv sols.sum n
    s.setPair a { y with
      abar := some m, ok := true, hold := false, holdS := 0
      l1 := roundDiv (x.rA + x.rB + 2 * m) 4, l2 := roundDiv (x.rA + x.rB - 2 * m) 4 }

/-- The closure is outside RTT_TOL: the pair is suspended (R246). -/
def State.pairSuspend (s : State) (a : Nat) : State :=
  let x := s.lnkPair a
  let y : LnkPair := { x with suspended := true, good := 0, sols := [] }
  if x.suspended then s.setPair a y
  else ((s.setPair a y).raise Ev.lnkPairMismatch).pairHold a

/-- A refined exchange on a port of a formed pair (R245), with Φ and the clock at its t2 latch: the other port's value is carried by its
Φ, for at most 2 s. -/
def State.pairExchange (s : State) (p : Nat) (th0 r : Int) (phi : Option Int) (at2 : Nat) : State :=
  match s.pairOf p with
  | none => s
  | some a =>
    let x := s.lnkPair a
    let q := x.q
    let mine := phi.map (fun f => (th0, f, at2))
    let y : LnkPair := if p = a then { x with thA := mine, rA := r } else { x with thB := mine, rB := r }
    let s1 := s.setPair a y
    let o := if p = a then q else a
    match (if p = a then x.thB else x.thA), (s.lnkPort o).phi with
    | some (t, f, at'), some now =>
      if s.clk.now ≤ at' + 2 * 10 ^ 12 then
        let other := t + phiToFrac (now - f)
        let ai := if p = a then th0 - other else other - th0
        if max 1 (s.ap Fld.lnkCfg_RTT_TOL) * 65536 < (y.rA - y.rB).natAbs then s1.pairSuspend a else s1.pairGood a ai
      else s1
    | _, _ => s1

/-- LNK_HOLD_EXPIRE (R247). -/
def State.lnkHoldExpire (s : State) (p : Nat) : State := s.pairHoldEnd p

/-! ## The TLV (R238) -/

/-- A message of the partner on a port whose LNK runs: three in a row without the TLV end the refinement (Table LNK-3). -/
def State.lnkTlv (s : State) (p : Nat) (t : Option LnkTlv) : State :=
  let x := s.lnkPort p
  if !(s.apB Fld.lnkPortCfg_EN p) then s
  else match t with
    | some t => (s.setLnk p { x with tlv := true, noTlv := 0, partnerRefined := t.refined }).lnkEval p
    | none =>
      let n := x.noTlv + 1
      (s.setLnk p { x with noTlv := n, tlv := x.tlv && decide (n < 3) }).lnkEval p

/-! ## Exchanges -/

/-- The quick return of R250 for an exchange with round trip `r`. -/
def State.quickReturn (s : State) (p partner : Nat) (r : Int) : Bool :=
  ((s.lnkPort p).loss).any (fun l => l.partner == partner && l.mode == s.portMode p && withinPs (r - l.r) 20)

/-- A refined exchange on a port in TRACKING: eight in a row with r within 20 ps, or one under R250, make it ACTIVE. -/
def State.lnkTrack (s : State) (p partner : Nat) (r : Int) : State :=
  let x := s.lnkPort p
  if x.st ≠ .tracking then s
  else
    let rs := (r :: x.rs).take 8
    let calm := rs.length == 8 && withinPs (rs.foldl max r - rs.foldl min r) 20
    let s1 := s.setLnk p { x with rs := rs, loss := if calm || s.quickReturn p partner r then none else x.loss }
    if calm ∨ s.quickReturn p partner r then s1.lnkGo p .active 0 else s1

/-- A complete exchange of a slave or passive channel `i` (R239 to R241): its Sync `y`, its Delay_Req `q`, t4 less the correctionField
in 2^-16 ns, and REFINED of the Delay_Resp. -/
def State.chanExchange (s : State) (i : Nat) (y : SyncRx) (q : ReqTx) (t4 : Int) (peer : Bool) : State :=
  let p := (s.obj .tchan i).chanPort
  let l := s.lnkPort p
  let run := decide (l.st = .tracking) || decide (l.st = .active)
  let refined := run && y.refined && q.refined && y.peerRefined && peer
  if y.stepN ≠ q.stepN ∨ (l.st = .active ∧ !refined) then s.bump Fld.lnkExchDrop_VAL p
  else
    let ms := y.t2 - y.t1
    let sm := t4 - q.t3
    let r := ms + sm
    let th0 := roundDiv (ms - sm) 2
    let partner := (s.chanClock i).getD 0
    let s1 := if refined then s.pairExchange p th0 r y.phi y.at' else s.setLnk p { l with rs := [] }
    let a := s1.asym p r
    let th := roundDiv (ms - sm - a) 2
    let s2 := s1.setLnk p { s1.lnkPort p with
      r := r, th0 := th0, a := a, th := th, exchanged := true, partner := partner, base := y.phi.map (fun f => (th, f)) }
    let s3 := if refined then s2.lnkTrack p partner r else s2
    let c := s3.tchan i
    let s4 : State := { s3 with tchans := Tab.set s3.tchans i { c with delay := roundDiv r 2, off := th, exchanged := true } }
    s4.timeSample (s.handleOf .tchan i).toNat th

/-! ## Meanings -/

/-- LNK_PHASE_UPDATE (R234, R235, R241). -/
def execLnkPhaseUpdate (port : Nat) (phi : Int) (freqOk : Bool) (s : State) : Host.Outcome State Fault Refusal :=
  effect (lanePort port) s (s.lnkPhaseUpdate port phi freqOk)

/-- LNK_HOLD_EXPIRE (R247). -/
def execLnkHoldExpire (port : Nat) (s : State) : Host.Outcome State Fault Refusal :=
  effect (lanePort port) s (s.lnkHoldExpire port)

end Sys2Proof.Machine
end

