-- ==== Sys2Proof/Machine/Tchan.lean ====
section
/-! DEFINITION. Timing channels (R220 to R226) and their placement on engines (R341). -/

set_option Elab.async false

namespace Sys2Proof.Machine

/-! ## Arguments (Table HDL-3, Table TCORE-3) -/

/-- Fields of a timing channel's arguments. -/
def Obj.chanDomain (o : Obj) : Nat := byteAt o.args 2
def Obj.chanProfile (o : Obj) : Nat := byteAt o.args 4
def Obj.chanTransport (o : Obj) : Nat := byteAt o.args 5
def Obj.chanSync (o : Obj) : Int := signed 8 (byteAt o.args 6)
def Obj.chanDelay (o : Obj) : Int := signed 8 (byteAt o.args 7)
def Obj.chanAddr (o : Obj) : Nat := leAt o.extra 0 16

/-- 2^-k messages per second in half messages per second. -/
def halfRate (k : Int) : Nat := 2 ^ (1 - k).toNat

/-- The event-message load of a channel in half messages per second (R221). -/
def Obj.chanLoad (o : Obj) (role : Nat) : Nat := halfRate o.chanSync + (if role = 2 then 0 else halfRate o.chanDelay)

/-- The load of a port in half messages per second, one channel left out. -/
def State.portLoad (s : State) (p : Nat) (but : Option Nat) : Nat :=
  (((s.chansOn p).filter (fun i => some i != but)).map (fun i => (s.obj .tchan i).chanLoad (s.tchan i).role)).sum

/-- LOAD of TCORE_PORT_TSTAT. -/
def State.portLoadShown (s : State) (p : Nat) : Nat := s.portLoad p none / 2

/-- The arguments lie outside the limits of their PROFILE (Table TCORE-3). -/
def chanProfileBad (o : Obj) : Bool :=
  let lim := fun (lo hi x : Int) => decide (lo ≤ x) && decide (x ≤ hi)
  match o.chanProfile with
  | 0 => !(decide (o.chanTransport ≤ 2) && decide (o.chanDomain ≤ 127) && lim (-7) 1 o.chanSync && lim (-7) 1 o.chanDelay)
  | 1 => !(decide (o.chanTransport = 0) && decide (24 ≤ o.chanDomain) && decide (o.chanDomain ≤ 43) &&
      decide (o.chanSync = -4) && decide (o.chanDelay = -4))
  | 2 => !((o.chanTransport == 1 || o.chanTransport == 2) && decide (44 ≤ o.chanDomain) && decide (o.chanDomain ≤ 63) &&
      lim (-7) 0 o.chanSync && lim (-7) 0 o.chanDelay)
  | _ => true

/-- The object that a command's arguments describe. -/
def CmdDesc.asObj (d : CmdDesc) : Obj := { args := d.objArgs, extra := d.objExtra }

/-- Transports 1 and 2 need EXT; an unused byte of the arguments is set. -/
def tchanExt (d : CmdDesc) : Bool := d.asObj.chanTransport == 1 || d.asObj.chanTransport == 2
def tchanReserved (d : CmdDesc) : Bool := decide (leAt d.objArgs 18 2 ≠ 0)

/-- The port named does not exist on the variant (R5). -/
def State.tchanAbsent (s : State) (d : CmdDesc) : Bool := decide (d.asObj.chanPort < 96) && !(s.portExists d.asObj.chanPort)

/-- An argument is out of range (R98, R220, R230). -/
def State.tchanBad (s : State) (d : CmdDesc) : Bool :=
  let o := d.asObj
  decide (96 ≤ o.chanPort) || s.portInactive o.chanPort || decide (2 < o.chanRole) || chanProfileBad o ||
  (tchanExt d && decide (d.extLen < 36)) || (decide (o.chanRole = 0) && decide (s.clockType = 2))

/-- An existing channel has the same port, domain, transport and partner (R222). -/
def State.tchanTwin (s : State) (o : Obj) : Bool :=
  (s.chansOn o.chanPort).any (fun i =>
    let x := s.obj .tchan i
    x.chanDomain == o.chanDomain && x.chanTransport == o.chanTransport && x.chanPartner == o.chanPartner)

/-- The role that the policy of the port gives a channel of role `r` (PTP_PORT, Table ENG-3; log entry 37). -/
def State.forcedRole (s : State) (p r : Nat) : Nat :=
  let e := s.polEntry 1 p
  if bitAt e 2 ∧ bitsOf e 3 2 ≠ 3 then bitsOf e 3 2 else if bitAt e 0 then 0 else if bitAt e 1 ∧ r = 1 then 2 else r

/-! ## Placement (R341) -/

/-- The channels that an engine carries. -/
def State.chansOfEng (s : State) (e : Nat) : List Nat :=
  (s.inUse .tchan).filter (fun i => decide ((s.tchan i).engine = some e))

/-- An engine is in RUN. -/
def State.engRuns (s : State) (e : Nat) : Bool := decide ((Tab.get {} s.eng.engs e).st = .run)

/-- An engine in RUN has room for a channel of `load`: 512 channels and 131,072 messages/s. -/
def State.engRoom (s : State) (load e : Nat) : Bool :=
  let l := s.chansOfEng e
  s.engRuns e && decide (l.length < 512) &&
  decide ((l.map (fun i => (s.obj .tchan i).chanLoad (s.tchan i).role)).sum + load ≤ 262144)

/-- The engine that a channel goes to: the one the placement table names, or the one with the fewest channels. -/
def State.placeFor (s : State) (i load : Nat) : Option Nat :=
  let want := s.polEntry 3 i % 32
  if want < 16 ∧ s.engRoom load want then some want
  else ((List.range 16).filter (fun e => s.engRoom load e)).foldl
    (fun b e => match b with
      | none => some e
      | some x => if (s.chansOfEng e).length < (s.chansOfEng x).length then some e else some x) none

/-- A channel replaced. -/
def State.setTchan (s : State) (i : Nat) (x : TChan) : State := { s with tchans := Tab.set s.tchans i x }

/-- A channel moves to another engine, or fits nowhere: LOST and ENG_TCHAN_UNPLACED (R341). -/
def State.tchanMove (s : State) (i : Nat) : State :=
  let o := s.obj .tchan i
  let x := s.tchan i
  let s0 := s.setTchan i { x with engine := none }
  match s0.placeFor i (o.chanLoad x.role) with
  | some e =>
    let s1 := s0.setTchan i { x with engine := some e }
    if x.state = .selected then s1.setLnk o.chanPort { s1.lnkPort o.chanPort with base := none } else s1
  | none =>
    let s1 := s0.setTchan i { x with engine := none, outstanding := false }
    (s1.chanLost i).raise Ev.engTchanUnplaced

/-- The channels of an engine that leaves RUN move, in index order. -/
def State.tchansLeave (s : State) (e : Nat) : State := (s.chansOfEng e).mergeSort.foldl (fun s i => s.tchanMove i) s

/-- TCHAN_PLACE_RETRY: the unplaced channels are tried again; a master sends again, the others listen at the next message. -/
def State.tchanPlaceRetry (s : State) : State :=
  ((s.inUse .tchan).filter (fun i => (s.tchan i).engine.isNone)).mergeSort.foldl (fun s i =>
    let x := s.tchan i
    match s.placeFor i ((s.obj .tchan i).chanLoad x.role) with
    | some e =>
      let s1 := s.setTchan i { x with engine := some e }
      if x.role = 0 then s1.setChanSt i .sending else s1
    | none => s) s

/-! ## Candidates of REF -/

/-- The candidate ID of a channel: its handle. -/
def State.chanId (s : State) (i : Nat) : Nat := (s.handleOf .tchan i).toNat

/-- The rank check of a time candidate (R256, cause 3). -/
def State.timeRankOk (s : State) (id : Nat) : Bool := decide (s.candQr id < 15) && decide (s.candQr id ≤ s.ap Fld.refQlCfg_T_QL_MIN)

/-- The packet candidate of a slave channel follows the channel (R224, R255; log entry 113): QUALIFYING while it listens and has heard an
Announce, QUALIFIED with it, DISABLED by its enable, FAILED by its rank. -/
def State.chanCand (s : State) (i : Nat) : State :=
  let id := s.chanId i
  let st := (s.cand id).st
  if (s.tchan i).role ≠ 1 then s
  else if !(s.candEn id) then (if st = .disabled then s else s.setCandSt id .disabled 0)
  else match (s.tchan i).state with
    | .listening =>
      if !((s.tchan i).heardAnnounce) ∨ (st = .qualifying ∧ s.timeRankOk id) then s
      else if s.timeRankOk id then s.setCandSt id .qualifying 0
      else if st = .qualifying then s.candFail id 3
      else if st = .failed then s else s.setCandSt id .failed 3
    | .qualified =>
      if st = .qualified ∨ st = .selected then s
      else if s.timeRankOk id then (if st = .qualifying then s else s.setCandSt id .qualifying 0).setCandSt id .qualified 0
      else if st = .qualifying then s.candFail id 3
      else if st = .failed then s else s.setCandSt id .failed 3
    | .lost => if st = .disabled then s.setCandSt id .failed 5 else s
    | _ => s

/-- Contribution to REF stops: the candidate fails with cause 5, and a SELECTED channel is deselected. -/
def State.chanStop (s : State) (i : Nat) : State :=
  let id := s.chanId i
  (if (s.tchan i).state = .selected then s.setChanSt i .qualified else s).candFail id 5

/-- A change of master on a SELECTED channel (R225): it listens, its samples are discarded, the servo holds. -/
def State.masterChange (s : State) (i : Nat) : State :=
  let id := s.chanId i
  let s1 := (s.setChanSt i .listening).raise Ev.tcoreMasterChg id
  let s2 := s1.setCandSt id .qualifying 0
  { s2 with ref := { s2.ref with cands := Tab.set s2.ref.cands id { s2.cand id with last := [], qsum := 0, qn := 0 } } }

/-- The rank of a channel is judged anew by task 3 after an Announce (R254, R256); without it the last QR stays. -/
def State.chanRank (s : State) (i : Nat) : State :=
  let id := s.chanId i
  if !(s.taskHeld 3) then s
  else
    let s1 := s.setTchan i { s.tchan i with qr := qrOfClass (s.tchan i).cls }
    let st := (s1.cand id).st
    if st = .qualified ∨ st = .selected then (if s1.timeRankOk id then s1.reselect.updateClass else s1.candFail id 3)
    else
      let s2 := s1.chanCand i
      if (s2.cand id).st = .qualified then s2.qualified id else s2

/-! ## Reception (R222 to R225) -/

/-- The channel that claims a message (R222). -/
def State.claim (s : State) (m : PtpMsg) : Option Nat :=
  let l := (s.chansOn m.port).mergeSort.filter (fun i =>
    (s.obj .tchan i).chanDomain == m.domain && (s.obj .tchan i).chanTransport == m.transport)
  (l.find? (fun i => (s.obj .tchan i).chanPartner == m.srcPort &&
      (m.transport == 0 || (s.obj .tchan i).chanAddr == m.srcAddr))).orElse
    (fun _ => l.find? (fun i => (s.obj .tchan i).chanPartner == 2 ^ 80 - 1))

/-- A channel has had its two messages per interval of an event message type in the last second (R223). -/
def State.overRate (s : State) (i kind : Nat) : Bool :=
  let o := s.obj .tchan i
  let n := ((s.tchan i).recent.filter (fun e => decide (s.clk.now < e.1 + 10 ^ 12) && e.2 == kind)).length
  kind < 4 && decide (halfRate (if kind = 0 then o.chanSync else o.chanDelay) ≤ n)

/-- An Announce or a Sync of the partner brings a LOST channel back to LISTENING while the port is up (Table TCORE-4). -/
def State.chanHears (s : State) (i : Nat) : State :=
  if (s.tchan i).state = .lost ∧ (s.tchan i).engine.isSome ∧ (s.lane (s.obj .tchan i).chanPort).lock then s.setChanSt i .listening else s

/-- An Announce of the partner. -/
def State.chanAnnounce (s : State) (i : Nat) (m : PtpMsg) : State :=
  let s1 := s.chanHears i
  let c := s1.tchan i
  let s2 := if c.state = .selected ∧ c.gm ≠ m.gm then s1.masterChange i else s1
  (s2.setTchan i { s2.tchan i with
    heardAnnounce := true, cls := m.cls, acc := m.acc, var := m.var, steps := m.steps, gm := m.gm }).chanRank i

/-- A TLV says REFINED. -/
def PtpMsg.refined (m : PtpMsg) : Bool := m.tlv.any (fun t => t.refined)

/-- The t1 and t2 of a Sync in frame `fr`: its origin time with its correctionField, and the frame's ingress latch (R239). -/
def PtpMsg.syncRx (m : PtpMsg) (fr : Frame) : SyncRx :=
  { seq := m.seq, t1 := (m.time : Int) * 65536 + fr.h.ptpCorr, t2 := ((fr.tod / unitsPerFrac : Nat) : Int), refined := fr.refined
    peerRefined := m.refined, stepN := fr.stepN, phi := fr.phi, at' := fr.latchAt }

/-- A Sync of the partner; one of two steps waits for its Follow_Up. -/
def State.chanSyncRx (s : State) (i : Nat) (m : PtpMsg) (fr : Frame) : State :=
  let s1 := s.chanHears i
  let c := s1.tchan i
  let s2 := if c.state = .selected ∧ c.syncSrc.any (fun x => x != m.srcPort) then s1.masterChange i else s1
  let y := m.syncRx fr
  let x := s2.tchan i
  let s3 := s2.setTchan i (if fr.h.ptpTwoStep then { x with heardSync := true, syncSrc := some m.srcPort, syncPend := some { y with t1 := fr.h.ptpCorr } }
    else { x with heardSync := true, syncSrc := some m.srcPort, sync := some y, syncPend := none })
  if c.syncSrc = some m.srcPort then s3 else s3.pairsEval false

/-- The Follow_Up of the Sync that waits for it: its origin time and correctionField give t1. -/
def State.chanFollowUp (s : State) (i : Nat) (m : PtpMsg) (fr : Frame) : State :=
  let c := s.tchan i
  match c.syncPend with
  | some y =>
    if y.seq = m.seq then
      s.setTchan i { c with sync := some { y with t1 := y.t1 + (m.time : Int) * 65536 + fr.h.ptpCorr }, syncPend := none }
    else s
  | none => s

/-- The Delay_Resp to the last Delay_Req completes the exchange. -/
def State.chanResp (s : State) (i : Nat) (m : PtpMsg) (fr : Frame) : State :=
  let c := s.tchan i
  if !c.outstanding || !m.forUs || decide (m.seq ≠ Tab.get 0 c.seqs 1) then s
  else
    let s1 := s.setTchan i { c with outstanding := false }
    match c.sync, c.req with
    | some y, some q => s1.chanExchange i y q ((m.time : Int) * 65536 - fr.h.ptpCorr) m.refined
    | _, _ => s1

/-- A Delay_Req to a master channel waits for its answer, with its ingress latch as t4 (R239). -/
def State.chanAsk (s : State) (i : Nat) (m : PtpMsg) (fr : Frame) : State :=
  let c := s.tchan i
  s.setTchan i { c with asks := c.asks ++ [{ srcPort := m.srcPort, seq := m.seq, corr := fr.h.ptpCorr, ns := totalNs fr.tod
                                             frac := fracOf fr.tod, refined := fr.refined }] }

/-- A message for a channel that runs, in frame `fr`; on Ethernet its destination is the address that the partner last used. -/
def State.chanMessage (s : State) (i : Nat) (m : PtpMsg) (fr : Frame) : State :=
  let c := s.tchan i
  if s.overRate i m.kind then s.bump Fld.tcoreMsgDrop_VAL
  else
    let now := s.clk.now
    let s1 := s.setTchan i { c with
      rx := satAdd 32 c.rx 1, dst := fr.h.dst
      recent := if m.kind < 4 then (now, m.kind) :: c.recent.filter (fun e => decide (now < e.1 + 10 ^ 12)) else c.recent }
    let s2 := if m.kind = 0 ∨ m.kind = 1 ∨ m.kind = 9 ∨ m.kind = 11 then s1.lnkTlv m.port m.tlv else s1
    if c.role = 0 then (if m.kind = 1 then s2.chanAsk i m fr else s2)
    else match m.kind with
      | 0 => s2.chanSyncRx i m fr
      | 8 => s2.chanFollowUp i m fr
      | 9 => s2.chanResp i m fr
      | 11 => s2.chanAnnounce i m
      | _ => s2

/-- A channel of an engine that drains moves as its open exchange closes (R347). -/
def State.chanClosed (s : State) (i : Nat) : State :=
  let x := s.tchan i
  if x.engine.any (fun e => !(s.engRuns e)) && !x.outstanding then s.tchanMove i else s

/-- PTP_MESSAGE_RECEIVE: a message of this part is discarded; a claimed one goes to the channel's engine, and is discarded while
the channel drains, is suspended or has no engine; an unclaimed one follows R188.  Step 1 of the forwarding decision stands before
it: a port that is not FORWARDING takes link-local frames alone (R178); the mirror step still follows. -/
def State.ptpMessageReceive (s : State) (f : Nat) (m : PtpMsg) : State :=
  match s.frame? f with
  | none => s
  | some fr =>
    if fr.decided ∨ fr.toEngine ∨ fr.port ≠ m.port ∨ (s.fdbState m.port ≠ 0 ∧ !fr.h.linkLocal) then s
    else if m.own then (s.bump Fld.fdbPtpDisc_VAL).setFrame f { fr with toEngine := true }
    else match s.claim m with
      | none => s
      | some i =>
        let s1 := s.setFrame f { fr with toEngine := true }
        match (s.obj .tchan i).phase with
        | .active => if (s1.tchan i).engine.isSome then (s1.chanMessage i m fr).chanClosed i else s1
        | .draining => if m.kind = 9 ∧ m.forUs ∧ m.seq = Tab.get 0 (s1.tchan i).seqs 1 then s1.setTchan i { s1.tchan i with outstanding := false } else s1
        | .suspended => s1

/-! ## Sending, qualification, timeout -/

/-- A master-only port in TRACKING sends a Sync: the eighth without a snap failure makes it ACTIVE (Table LNK-3). -/
def State.lnkMasterSync (s : State) (p : Nat) : State :=
  let x := s.lnkPort p
  if x.st = .tracking ∧ (s.liveChans p).all (fun i => (s.tchan i).role == 0) then
    (if 8 ≤ x.masterRun + 1 then s.lnkGo p .active 0 else s.setLnk p { x with masterRun := x.masterRun + 1 })
  else s

/-- The channel sends messages of this type: a master Sync, Announce and the Delay_Resp it owes, a slave or passive channel Delay_Req
(log entry 113). -/
def State.chanSends (s : State) (i kind : Nat) : Bool :=
  let x := s.tchan i
  decide ((s.obj? .tchan i).isSome) && decide ((s.obj .tchan i).phase = .active) && x.engine.any (fun e => s.engRuns e) &&
  (s.lane (s.obj .tchan i).chanPort).lock &&
  (if x.role = 0 then decide (x.state = .sending) && decide (s.clockType ≠ 2) && (kind == 0 || kind == 11 || (kind == 9 && decide (x.asks ≠ [])))
   else decide (x.state ≠ .lost) && kind == 1)

/-- The LNK TLV that a channel on port `p` appends while EN = 1 (R238). -/
def State.lnkTlvOut (s : State) (p : Nat) (refined : Bool) : Option LnkTlv :=
  let m := s.ap Fld.lnkPortCfg_MODE p
  if s.apB Fld.lnkPortCfg_EN p then
    some { refined := refined, active := decide ((s.lnkPort p).st = .active), mode := m
           pairPort := if 2 ≤ m then s.ap Fld.lnkPortCfg_PAIR p else 0xFFFF }
  else none

/-- The message that a channel sends, latched at `t`: Sync and Delay_Req carry the egress latch in one step (R218), Delay_Resp the t4 of
the oldest Delay_Req (R239), Announce the announced quality (R230) and the domain's priorities (Table ENG-3), which stay frozen while task 4
has no holder (Table ENG-1). -/
def State.chanMsg (s : State) (i kind t : Nat) (refined : Bool) : PtpSent :=
  let o := s.obj .tchan i
  let x := s.tchan i
  let m : PtpSent := { kind := kind, dst := if o.chanTransport = 0 then x.dst else o.chanAddr, seq := (Tab.get 65535 x.seqs kind + 1) % 65536 }
  match kind, x.asks with
  | 9, a :: _ =>
    { m with time := a.ns, corr := a.corr - a.frac, seq := a.seq, reqPort := a.srcPort, tlv := s.lnkTlvOut o.chanPort a.refined }
  | 11, _ =>
    let e := s.polEntry 2 o.chanDomain
    let now : PtpSent := { m with
      quality := s.announced (o.chanProfile == 0), prio1 := e % 256, prio2 := e / 256 % 256, steps := s.announcedSteps
      tlv := s.lnkTlvOut o.chanPort false }
    if s.taskHeld 4 then now
    else x.announced.elim now (fun a => { now with quality := a.quality, prio1 := a.prio1, prio2 := a.prio2, steps := a.steps })
  | _, _ => { m with time := totalNs t, corr := fracOf t, tlv := s.lnkTlvOut o.chanPort refined }

/-- A standby announces priority2 + PRIO2_OFS, at most 255 (R378, R380). -/
def State.prio2Out (s : State) (m : PtpSent) : PtpSent :=
  if m.kind = 11 ∧ s.pair.role = .standby then { m with prio2 := min 255 (m.prio2 + s.ap Fld.pairCfg_PRIO2_OFS) } else m

/-- TCHAN_SEND (R218, R221, R224): the message leaves with its egress latch; a Delay_Req opens an exchange, a Delay_Resp answers the
oldest Delay_Req. -/
def State.tchanSend (s : State) (i kind : Nat) (marker : Int) : State :=
  if !(s.chanSends i kind) then s
  else
    let p := (s.obj .tchan i).chanPort
    let l := s.latchAt p false marker
    let x := s.tchan i
    let m := s.chanMsg i kind l.2.1 l.2.2
    let y : TChan := { x with tx := satAdd 32 x.tx 1, seqs := Tab.set x.seqs kind m.seq, last := some (s.prio2Out m) }
    let s1 := l.1.setTchan i (if kind = 1 then { y with
        outstanding := true, req := some { t3 := ((l.2.1 / unitsPerFrac : Nat) : Int), refined := l.2.2, stepN := s.tcore.stepN } }
      else if kind = 9 then { y with asks := x.asks.tail }
      else if kind = 11 then { y with announced := some m } else y)
    let q := s1.portPtp p
    let s2 := s1.setPortPtp p { q with lastOut := s.tsAt l.2.1, tx := satAdd 32 q.tx (if kind < 4 then 1 else 0) }
    if kind = 0 then s2.lnkMasterSync p else s2

/-- TCHAN_QUALIFY: a listening channel that has heard Announce and Sync is QUALIFIED.  A channel that was SELECTED before its master
changed is SELECTED again, and its offset is treated as a return (R225, R267). -/
def State.tchanQualify (s : State) (i : Nat) : State :=
  let c := s.tchan i
  if (s.obj? .tchan i).isNone ∨ (s.obj .tchan i).phase ≠ .active ∨ c.state ≠ .listening ∨ !c.heardAnnounce ∨ !c.heardSync then s
  else
    let id := s.chanId i
    let o := (s.cand id).returnOff
    let s1 := (s.setChanSt i .qualified).chanCand i
    if s1.ref.tsel = some id ∧ (s1.cand id).st = .qualified then
      let s2 := (s1.markSel (some id) true)
      let s3 := if s2.slewOk o then s2.startThaw else s2.setStepPending id o
      s3.reselect.updateClass
    else if (s1.cand id).st = .qualified then s1.qualified id else s1.reselect

/-- TCHAN_TIMEOUT: the channel is LOST (Table TCORE-4). -/
def State.tchanTimeout (s : State) (i : Nat) : State :=
  let c := s.tchan i
  if (s.obj? .tchan i).isNone ∨ c.state = .sending ∨ c.state = .lost then s else s.chanLost i

/-! ## The object -/

/-- The channels of a port have changed: LNK and its pairs are looked at again. -/
def State.chansChanged (s : State) (p : Nat) : State := (s.lnkEval p).pairsEval false

/-- A channel in a role: a master sends, the others listen. -/
def State.setRole (s : State) (i r : Nat) : State :=
  let x := s.tchan i
  if x.role = r then s
  else
    let s1 := if x.state = .sending then s else s.chanStop i
    let s2 := s1.setTchan i { s1.tchan i with role := r, asks := [] }
    let s3 := if x.state = .lost ∨ x.engine.isNone then s2 else s2.setChanSt i (if r = 0 then .sending else .listening)
    s3.chansChanged (s.obj .tchan i).chanPort

/-- Task 4 applies the policy of the ports to the roles (Table ENG-1, R344). -/
def State.rolesEval (s : State) : State :=
  if !(s.taskHeld 4) then s
  else (s.inUse .tchan).mergeSort.foldl (fun s i =>
    let o := s.obj .tchan i
    s.setRole i (s.forcedRole o.chanPort o.chanRole)) s

/-- TCHAN_CREATE past its checks: load, placement, then the channel listens, or sends. -/
def State.tchanMake (s : State) (d : CmdDesc) : State :=
  let o := d.asObj
  let role := if s.taskHeld 4 then s.forcedRole o.chanPort o.chanRole else o.chanRole
  let load := o.chanLoad role
  match s.nextIndex .tchan with
  | none => s.complete d 0x0201 .noResource
  | some i =>
    if 131072 < s.portLoad o.chanPort none + load then s.complete d 0x0201 .noResource
    else match s.placeFor i load with
      | none => s.complete d 0x0201 .noResource
      | some e =>
        let s1 := (s.addObj .tchan i o).setTchan i { state := if role = 0 then .sending else .listening, role := role, engine := some e }
        let s2 := s1.chansChanged o.chanPort
        s2.complete d 0x0201 .ok (s2.handleOf .tchan i) (leBytes e 4)

/-- Fields that a MODIFY must repeat (Table HDL-3). -/
def State.tchanFixed (s : State) (d : CmdDesc) : Bool :=
  let o := d.asObj
  let x := s.obj .tchan (hIndex d.handle)
  decide (o.chanPort ≠ x.chanPort) || decide (o.chanDomain ≠ x.chanDomain) || decide (o.chanProfile ≠ x.chanProfile) ||
  decide (o.chanTransport ≠ x.chanTransport)

/-- TCHAN_MODIFY past its checks. -/
def State.tchanModify (s : State) (d : CmdDesc) : State :=
  let i := hIndex d.handle
  let o := s.obj .tchan i
  let n := d.asObj
  let role := if s.taskHeld 4 then s.forcedRole n.chanPort n.chanRole else n.chanRole
  if 131072 < s.portLoad o.chanPort (some i) + n.chanLoad role then s.complete d 0x0202 .noResource
  else
    let s1 := (s.setObj .tchan i { o with args := n.args, extra := n.extra }).setRole i role
    let s2 := s1.chansChanged o.chanPort
    s2.complete d 0x0202 .ok 0 (leBytes ((s2.tchan i).engine.getD 0) 4)

/-- At acceptance of a DESTROY or DISABLE nothing contributes any more (Table HDL-5). -/
def State.tchanAccept (s : State) (i : Nat) : State :=
  ((if (s.tchan i).role = 0 then s.setTchan i { s.tchan i with asks := [] } else s.chanStop i)).chansChanged (s.obj .tchan i).chanPort

/-- The exchange that awaits a reply, and its abort. -/
def State.tchanFlight (s : State) (i : Nat) : Nat := b2n (s.tchan i).outstanding
def State.tchanAbort (s : State) (i : Nat) : State := s.setTchan i { s.tchan i with outstanding := false }

/-- A channel that is destroyed: its candidate and its settings end with it (R273). -/
def State.tchanDrop (s : State) (i : Nat) : State :=
  { s with
    tchans := Tab.erase s.tchans i
    ref := { s.ref with cands := Tab.erase s.ref.cands (s.chanId i), sets := Tab.erase s.ref.sets (s.chanId i) } }

/-- A channel is enabled: it listens before it contributes (R95). -/
def State.tchanResume (s : State) (i : Nat) : State :=
  let s1 := if (s.tchan i).role = 0 ∨ (s.tchan i).engine.isNone then s else s.setChanSt i .listening
  s1.chansChanged (s.obj .tchan i).chanPort

/-- QUERY bytes 4 to 15 (R226). -/
def State.tchanQuery (s : State) (i : Nat) : List Byte :=
  let c := s.tchan i
  leBytes c.state.code 1 ++ leBytes c.cls 1 ++ leBytes c.acc 1 ++ leBytes (min 255 c.steps) 1 ++
  leBytes (unsigned 32 (roundDiv c.delay 65536)) 4 ++
  leBytes (unsigned 32 (clampInt (-2147483648) 2147483647 (roundDiv c.off 65536))) 4

/-- The words of a channel's mailbox record (Table TCORE-13; log entry 38). -/
def State.tchanWords (s : State) (i : Nat) : List Nat :=
  let c := s.tchan i
  let two := fun (x : Int) => [unsigned 64 x % 2 ^ 32, unsigned 64 x / 2 ^ 32]
  [c.state.code, c.cls % 256 + c.acc % 256 * 256 + c.var % 65536 * 65536, c.steps, c.gm % 2 ^ 32, c.gm / 2 ^ 32 % 2 ^ 32] ++
    two c.delay ++ two c.off ++ [c.tx, c.rx, 0]
def State.tchanStatus (s : State) (i : Nat) : List Byte := ((s.tchanWords i).map (fun w => leBytes w 4)).flatten

/-! ## Meanings -/

/-- PTP_MESSAGE_RECEIVE (R222, R223, R224, R225, R239). -/
def execPtpMessageReceive (frame : Nat) (m : PtpMsg) (s : State) : Host.Outcome State Fault Refusal :=
  effect (lanePort m.port) s (s.ptpMessageReceive frame m)

/-- TCHAN_SEND (R221, R224). -/
def execTchanSend (chan : Nat) (msg : ChanSend) (s : State) : Host.Outcome State Fault Refusal :=
  effect (timingChan chan) s (s.tchanSend chan msg.kind msg.marker)

/-- TCHAN_QUALIFY (R224, R225). -/
def execTchanQualify (chan : Nat) (s : State) : Host.Outcome State Fault Refusal :=
  effect (timingChan chan) s (s.tchanQualify chan)

/-- TCHAN_TIMEOUT (R224). -/
def execTchanTimeout (chan : Nat) (s : State) : Host.Outcome State Fault Refusal :=
  effect (timingChan chan) s (s.tchanTimeout chan)

/-- TCHAN_PLACE_RETRY (R341). -/
def execTchanPlaceRetry (s : State) : Host.Outcome State Fault Refusal :=
  effect true s (s.tchanPlaceRetry)

end Sys2Proof.Machine
end

