-- ==== Sys2Proof/Machine/Ref.lean ====
section
/-! DEFINITION. References and holdover (chapter 11): checks, qualification, ESMC, PPS inputs, holdover stages, the model, and the
commands of REF. -/

set_option Elab.async false

namespace Sys2Proof.Machine

/-! ## Checks (R256) -/

/-- The rank check of a candidate (cause 3). -/
def State.rankOk (s : State) (id : Nat) : Bool :=
  if candIsTime id then s.timeRankOk id else decide (s.candQr id < 15) && decide (s.candQr id ≤ s.ap Fld.refQlCfg_F_QL_MIN)

/-- The causes that do not come with a sample: 4 no ESMC on the lane's port, 3 rank, or 0. -/
def State.standingCause (s : State) (id : Nat) : Nat :=
  if id < 96 ∧ (Tab.find s.ref.esmc (s.portOfLane id)).isNone then 4 else if s.rankOk id then 0 else 3

/-- The outcome of a candidate's checks, 0 when all pass; one that is not enabled is DISABLED (Table REF-3). -/
def State.candCheck (s : State) (id cause : Nat) : State :=
  let c := s.cand id
  if !(s.candEn id) then s.candEnable id
  else if !(s.candAvail id) then s.candAbsent id
  else if cause = 0 then s.candPass id
  else match c.st with
    | .absent => s.setCandSt id .failed cause
    | .failed => { s with ref := { s.ref with cands := Tab.set s.ref.cands id { c with cause := cause, failing := true } } }
    | _ => s.candFail id cause

/-- The rank or the ESMC of a candidate has changed: a candidate in use that now fails leaves at once, and one in HOLDOFF for its rank
or its ESMC that passes again is SELECTED (R255). -/
def State.recheck (s : State) (id : Nat) : State :=
  let x := s.cand id
  let c := s.standingCause id
  if c ≠ 0 ∧ (x.st = .qualifying ∨ x.st = .qualified ∨ x.st = .selected) then s.candFail id c
  else if c = 0 ∧ x.st = .holdoff ∧ (x.cause = 3 ∨ x.cause = 4) then s.candPass id
  else s

/-- A candidate becomes QUALIFIED, and the selections are made (R258). -/
def State.candQualify (s : State) (id : Nat) : State := (s.setCandSt id .qualified 0).qualified id

/-- The frequency loop takes a sample of FSEL (R259): with the servo on, and in HOLDOVER only in ASSISTED (R262). -/
def State.freqSample (s : State) (id : Nat) : State :=
  if s.ref.fsel = some id ∧ (s.cand id).st = .selected ∧ s.apB Fld.tcoreCtrl_SERVO_EN ∧ !s.pair.follow ∧
      (s.tcore.tstate ≠ .holdover ∨ s.ref.ep.any (fun e => e.stage == 3)) then s.freeFreq
  else s

/-- A signal fails its checks: no signal, or out of ±4.6 ppm; a lane must be offered (R114). -/
def State.sampleCause (s : State) (id : Nat) (sig : Bool) (ppb : Int) : Nat :=
  if !sig || (id < 96 && !((s.lane id).offered)) then 1 else if 4600 < ppb.natAbs then 2 else s.standingCause id

/-- REF_CAND_SAMPLE (R256, R257, R259). -/
def State.refCandSample (s : State) (id : Nat) (sig : Bool) (ppb off : Int) : State :=
  let c := s.cand id
  let s1 : State := { s with ref := { s.ref with cands := Tab.set s.ref.cands id { c with
      ppb := ppb, samples := if candIsTime id then c.samples else c.samples + 1, off := if candIsTime id then c.off else off } } }
  let s2 := s1.candCheck id (s.sampleCause id sig ppb)
  if !sig then s2 else if candIsTime id then s2.timeSample id off else s2.freqSample id

/-- REF_QUAL_TIMER (R255): a PPS input has counted its 16 pulses. -/
def State.refQualTimer (s : State) (id : Nat) : State :=
  let c := s.cand id
  if c.st ≠ .qualifying ∨ c.failing ∨ s.standingCause id ≠ 0 ∨ ((id = 100 ∨ id = 101) ∧ c.pulses < 16) then s else s.candQualify id

/-- REF_HOLDOFF_EXPIRE (R255, R262). -/
def State.refHoldoffExpire (s : State) (id : Nat) : State :=
  if (s.cand id).st = .holdoff then (s.setCandSt id .failed (s.cand id).cause).reselect else s

/-- REF_WTR_EXPIRE (R255). -/
def State.refWtrExpire (s : State) (id : Nat) : State :=
  let c := s.cand id
  if c.st = .failed ∧ !c.failing ∧ s.candAvail id ∧ s.standingCause id = 0 then s.setCandSt id .qualifying 0 else s

/-! ## ESMC (R254, R256, R271) -/

/-- The lanes of a port. -/
def State.lanesOfPort (s : State) (p : Nat) : List Nat := (List.range 96).filter (fun n => s.portOfLane n == p)

/-- ESMC_RECEIVE: the port's lanes take the rank. -/
def State.esmcReceive (s : State) (p ssm : Nat) (essm : Option Nat) : State :=
  if !((s.lane p).lock) then s
  else
    let s1 : State := { s with ref := { s.ref with esmc := Tab.set s.ref.esmc p (qrOfSsm ssm essm) } }
    ((s1.lanesOfPort p).foldl (fun s n => s.recheck n) s1).updateClass

/-- ESMC_TIMEOUT: QL-FAILED. -/
def State.esmcTimeout (s : State) (p : Nat) : State :=
  let s1 : State := { s with ref := { s.ref with esmc := Tab.erase s.ref.esmc p } }
  ((s1.lanesOfPort p).foldl (fun s n => s.recheck n) s1).updateClass

/-- The QR that the part sends on a port (Table REF-5); 15 while a ramp of PLL-T moves its clock (Table PLL-3). -/
def State.esmcQr (s : State) (p : Nat) : Nat :=
  if s.rampOn p then 15
  else match s.ref.fsel with
  | some f => if s.tcore.tstate = .holdover then 6 else if f < 96 ∧ s.portOfLane f = p then 15 else s.candQr f
  | none => 6

/-- ESMC_SEND (R271): on ports with REF_EN. -/
def State.esmcSend (s : State) (p : Nat) : State :=
  if s.apB Fld.laneCtrl_REF_EN p && (s.lane p).lock then
    { s with ref := { s.ref with esmcTx := Tab.set s.ref.esmcTx p ((Tab.get (0, 6) s.ref.esmcTx p).1 + 1, s.esmcQr p) } }
  else s

/-! ## PPS inputs -/

/-- An offset modulo 1 s, in −0.5 s to +0.5 s (R253). -/
def modSecond (off : Int) : Int := (off + 32768000000000) % 65536000000000 - 32768000000000

/-- PPS_IN_EDGE (R253, R256, R260): an interval outside 1 s ± 10 µs fails; 16 good pulses qualify.  The reference's second begins
REF_IN_OFS after the edge, so the core's offset from it is its offset from the edge and that. -/
def State.ppsInEdge (s : State) (input interval : Nat) (off : Int) : State :=
  let id := 100 + input
  let cause := if 10000 < ((interval : Int) - 1000000000).natAbs then 8 else s.standingCause id
  let s1 := s.candCheck id cause
  let c := s1.cand id
  let s2 : State := if cause = 0 ∧ c.st = .qualifying then
      { s1 with ref := { s1.ref with cands := Tab.set s1.ref.cands id { c with pulses := c.pulses + 1 } } } else s1
  let s3 := if cause = 0 then s2.timeSample id (modSecond (off + psToFrac (s2.apI Fld.refInOfs_VAL id))) else s2
  if (s3.cand id).st = .qualifying ∧ 16 ≤ (s3.cand id).pulses then s3.candQualify id else s3

/-- PPS_IN_TIMEOUT. -/
def State.ppsInTimeout (s : State) (input : Nat) : State := s.candCheck (100 + input) 1

/-! ## Holdover (R262, R265) -/

/-- The growth of E in the second that begins at `t` seconds, in ps/172,800: U_A's share is the integral over the second. -/
def State.hoSlope (s : State) (e : Episode) : Nat :=
  if e.stage = 3 then s.ap Fld.refHoUnc2_U_ASSIST * 172800
  else
    let ut := if s.inLearned e.mdl s.modelTemp then s.ap Fld.refHoUnc1_U_TN else s.ap Fld.refHoUnc1_U_TX
    (s.ap Fld.refHoUnc0_U_F + ut) * 172800 + s.ap Fld.refHoUnc0_U_A * (2 * e.t + 1)

/-- E in ns. -/
def Episode.errNs (e : Episode) : Nat := e.e / 172800000

/-- RATE of a stage that the part applies by itself (Table REF-4). -/
def State.hoRate (s : State) (e : Episode) : Option Int :=
  if e.stage = 3 then none
  else if e.stage = 1 ∨ !e.mdlValid then some e.fe
  else some (e.fe + s.modelAt e.mdl s.modelTemp - s.modelAt e.mdl e.te + roundDiv (e.mdl.a * e.t) 86400)

/-- E passes the budget: BUDGET_OVER, REF_BUDGET, a wake event, the announced quality. -/
def State.budgetCheck (s : State) (e : Episode) : State :=
  if s.ref.budgetOver ∨ e.e ≤ s.ap Fld.refHoCfg_BUDGET * 172800000 then s
  else ((({ s with ref := { s.ref with budgetOver := true } } : State).raise Ev.refBudget e.errNs).wakeEvent 4).updateClass

/-- HOLDOVER_TICK (R262, R265); a standby that follows continues the primary's episode instead (R378). -/
def State.holdoverTick (s0 : State) (dieTemp : Int) : State :=
  let s : State := { s0 with ref := { s0.ref with dieTemp := dieTemp } }
  if s.tcore.tstate ≠ .holdover ∨ s.pair.follow then s
  else match s.ref.ep with
    | none => s
    | some e =>
      let e1 : Episode := { e with e := e.e + s.hoSlope e, t := e.t + 1, stage := s.hoStage (e.t + 1) }
      let s1 : State := { s with ref := { s.ref with ep := some e1 } }
      let s2 := s1.raiseIf (decide (e1.stage ≠ e.stage)) Ev.refHoldover e1.stage
      let s3 : State := match (if s.apB Fld.tcoreCtrl_SERVO_EN then s2.hoRate e1 else none) with
        | some r => s2.setRate r
        | none => s2
      (s3.budgetCheck e1).timeStateOut

/-! ## The model (R263, R264) -/

/-- Learning runs: LEARN_EN, task 2 held, LOCKED for 600 s, and QR of TSEL — the primary's while the part follows (R264). -/
def State.learning (s : State) : Bool :=
  s.apB Fld.refMdlCfg_LEARN_EN && s.taskHeld 2 && decide (s.tcore.tstate = .locked) && decide (600 ≤ s.ref.lockedS) &&
  (if s.pair.follow then s.pair.mirror.any (fun m => decide (m.qr ≤ s.ap Fld.refQlCfg_LEARN_QL))
   else s.ref.tsel.any (fun id => decide (s.candQr id ≤ s.ap Fld.refQlCfg_LEARN_QL)))

/-- A node takes `y` with weight `w` of `d`: a running mean of at most 1,024 samples (log entry 39). -/
def MdlNode.take (n : MdlNode) (y : Int) (w d : Nat) : MdlNode :=
  if w = 0 then n
  else if n.n = 0 then { y := y, n := 1 }
  else
    let k := min 1024 (n.n + 1)
    { y := n.y + roundDiv ((y - n.y) * w) (k * d), n := k }

/-- The slope per day of a least-squares fit of (second, value) points, rounded to nearest; `old` while all seconds are equal. -/
def fitSlope (l : List (Nat × Int)) (old : Int) : Int :=
  let n : Int := l.length
  let st : Int := (l.map (fun x => (x.1 : Int))).sum
  let sx := (l.map (fun x => x.2)).sum
  let stx := (l.map (fun x => (x.1 : Int) * x.2)).sum
  let stt := (l.map (fun x => (x.1 : Int) * x.1)).sum
  let den := n * stt - st * st
  if den = 0 then old else roundDiv ((n * stx - st * sx) * 86400) den.toNat

/-- A learning step with mean RATE `rate` and mean temperature `t` at second `sec`. -/
def State.learnStep (s : State) (rate t : Int) (sec : Nat) : Model :=
  let m := s.ref.mdl
  let first := m.first.getD sec
  let y := rate - roundDiv (m.a * ((sec : Int) - first)) 86400
  let d := s.mdlStep * 256
  let x := clampInt 0 (7 * d : Nat) (t - s.nodeTemp 0)
  let k := min 6 (x.toNat / d)
  let w := x.toNat - k * d
  let nodes := (m.nodes.set k ((m.nodes.getD k {}).take y (d - w) d)).set (k + 1) ((m.nodes.getD (k + 1) {}).take y w d)
  let m1 : Model := { m with nodes := nodes, first := some first }
  let resid := ((sec, rate - s.modelAt m1 t) :: m.resid).filter (fun r => decide (sec ≤ r.1 + 7 * 86400))
  { m1 with resid := resid, a := fitSlope resid m.a }

/-- MODEL_LEARN (R264). -/
def State.modelLearn (s0 : State) (dieTemp : Int) : State :=
  let ext := s0.apB Fld.refMdlCfg_TEMP_SRC && !s0.ref.tempStale
  let s : State := if ext then s0 else { s0 with ref := { s0.ref with dieTemp := dieTemp } }
  if !s.learning then s
  else
    let h := s.ref.hist
    let rate := if h = [] then s.clk.rate else meanInt (h.map (fun x => x.1))
    let t := if ext && decide (h ≠ []) then meanInt (h.map (fun x => x.2.1)) else s.modelTemp
    { s with ref := { s.ref with mdl := s.learnStep rate t (secOf s.tod) } }

/-- TEMP_EXT_STALE (R263). -/
def State.tempExtStale (s : State) : State :=
  if !(s.apB Fld.refMdlCfg_TEMP_SRC) ∨ s.ref.tempStale then s
  else ({ s with ref := { s.ref with tempStale := true } } : State).raise Ev.refTempStale

/-- A write of REF_TEMP_EXT (R263). -/
def State.tempExtWrite (s : State) (v m : Word) : State :=
  let s1 := s.storeReg ⟨.refTempExt, 0, 0⟩ v m
  { s1 with ref := { s1.ref with tempStale := false } }

/-! ## Preferences and settings (R253, R258) -/

/-- A preference that names no candidate of Table REF-1. -/
def State.prefBad (s : State) (v : Nat) : Bool := decide (v ≠ noCand) && !(s.candKnown v)

/-- A write of REF_PREF_T or REF_PREF_F: an unknown ID keeps the applied value (R253); the preferred candidate counts anew
(R258). -/
def State.prefWrite (s : State) (freq : Bool) (v m : Word) : State :=
  let k : RegKey := ⟨if freq then .refPrefF else .refPrefT, 0, 0⟩
  let s1 := s.storeReg k v m
  let new := (s1.written k).toNat
  if s1.prefBad new then
    let old := s.stored k
    ({ s1 with regs := { s1.regs with
        written := Tab.set s1.regs.written k old, applied := Tab.set s1.regs.applied k old } } : State).raise Ev.refCfgBad k.addr new
  else
    let s2 : State := { s1 with ref := if freq then { s1.ref with armF := true } else { s1.ref with armT := true } }
    s2.reselect

/-- The settings of a candidate have changed: enable, rank, priority. -/
def State.candChanged (s : State) (id : Nat) : State :=
  let s2 := (if candIsChan id then s.chanCand (id % 2 ^ 20) else s.candEnable id).recheck id
  -- a candidate of PRIO 15 is never selected
  let drop := (s2.cand id).st == .selected && s2.candPrio id == 15
  let s3 := if drop then s2.setCandSt id .qualified 0 else s2
  (s3.reselect).updateClass

/-- Every candidate is looked at again after a change of the rank limits. -/
def State.limitsChanged (s : State) : State :=
  ((s.ref.cands.map (fun e => e.1)).foldl (fun s id => s.recheck id) s).reselect

/-- REF_CAND_SET (R273). -/
def State.refCandSet (s : State) (d : CmdDesc) : State :=
  let id := d.arg 12 4
  let prio := d.arg 16 1
  let fl := d.arg 17 1
  let ovr := d.arg 18 1
  let c := unitChecks d false .ref true [Rdy.ref]
  s.runCmd d 0xB801 { c with
      absent := s.candUnitAbsent id
      badForm := c.badForm || decide (4 ≤ fl) || !(d.zero 19 32)
      stale := candIsChan id && s.stale .tchan (BitVec.ofNat 32 id)
      badArg := !(decide (id < 103) || candIsChan id) || decide (15 < prio) || decide (15 < ovr) } (fun s =>
    let s1 : State := if id < 103 then
        (((s.putBoth Fld.refCandCfg_EN (fl % 2) id).putBoth Fld.refCandCfg_QL_OVR_EN (fl / 2) id).putBoth Fld.refCandCfg_QL_OVR ovr id).putBoth
          Fld.refCandCfg_PRIO prio id
      else { s with ref := { s.ref with sets := Tab.set s.ref.sets id { en := bitAt fl 0, ovrEn := bitAt fl 1, ovr := ovr, prio := prio } } }
    let s2 := s1.candChanged id
    s2.complete d 0xB801 .ok 0 (leBytes (s2.cand id).st.code 1 ++ leBytes (s2.candQr id) 1))

/-- REF_REALIGN (R261, R267, R273): a pending return first, then the bias. -/
def State.refRealign (s : State) (d : CmdDesc) : State :=
  let step := bitAt (d.arg 12 1) 0
  let c := unitChecks d false .ref true [Rdy.ref]
  s.runCmd d 0xB802 { c with
      badForm := c.badForm || decide (2 ≤ d.arg 12 1) || !(d.zero 13 32)
      badArg := s.ref.stepPend.isNone && decide (s.ref.bias = 0) } (fun s =>
    if step ∧ s.tcore.steps ≠ [] then s.complete d 0xB802 .busy
    else match s.ref.stepPend with
      | some id =>
        let o := (s.cand id).off
        let t := if step then (s.stepToRef id).1 else s.returnStepped id
        t.complete d 0xB802 .ok 0 (leBytes (unsigned 64 o) 8)
      | none =>
        let b := s.ref.bias
        let t : State := if step then
            let t := s.applyStep (-b * (unitsPerFrac : Int))
            { t with ref := { t.ref with bias := 0, biasSlew := false } }
          else { s with ref := { s.ref with biasSlew := true } }
        t.complete d 0xB802 .ok 0 (leBytes (unsigned 64 b) 8))

/-- REF_MDL_RESET (R264). -/
def State.refMdlReset (s : State) (d : CmdDesc) : State :=
  let c := unitChecks d false .ref true [Rdy.ref]
  s.runCmd d 0xB803 { c with badForm := c.badForm || !(d.zero 12 32) } (fun s =>
    ({ s with ref := { s.ref with mdl := {} } } : State).complete d 0xB803 .ok)

/-! ## Meanings -/

/-- REF_CAND_SAMPLE (R256, R257, R259). -/
def execRefCandSample (cand : Nat) (sig : Bool) (ppb off : Int) (s : State) : Host.Outcome State Fault Refusal :=
  effect (candNo cand) s (s.refCandSample cand sig ppb off)

/-- REF_QUAL_TIMER (R255). -/
def execRefQualTimer (cand : Nat) (s : State) : Host.Outcome State Fault Refusal :=
  effect (candNo cand) s (s.refQualTimer cand)

/-- REF_HOLDOFF_EXPIRE (R255). -/
def execRefHoldoffExpire (cand : Nat) (s : State) : Host.Outcome State Fault Refusal :=
  effect (candNo cand) s (s.refHoldoffExpire cand)

/-- REF_WTR_EXPIRE (R255). -/
def execRefWtrExpire (cand : Nat) (s : State) : Host.Outcome State Fault Refusal :=
  effect (decide (cand < 100)) s (s.refWtrExpire cand)

/-- ESMC_RECEIVE (R254, R256). -/
def execEsmcReceive (port ssm : Nat) (essm : Option Nat) (s : State) : Host.Outcome State Fault Refusal :=
  effect (lanePort port && decide (ssm < 16)) s (s.esmcReceive port ssm essm)

/-- ESMC_TIMEOUT (R256). -/
def execEsmcTimeout (port : Nat) (s : State) : Host.Outcome State Fault Refusal :=
  effect (lanePort port) s (s.esmcTimeout port)

/-- ESMC_SEND (R271). -/
def execEsmcSend (port : Nat) (s : State) : Host.Outcome State Fault Refusal :=
  effect (lanePort port) s (s.esmcSend port)

/-- PPS_IN_EDGE (R253, R260). -/
def execPpsInEdge (input intervalNs : Nat) (off : Int) (s : State) : Host.Outcome State Fault Refusal :=
  effect (ppsOut input) s (s.ppsInEdge input intervalNs off)

/-- PPS_IN_TIMEOUT (R256). -/
def execPpsInTimeout (input : Nat) (s : State) : Host.Outcome State Fault Refusal :=
  effect (ppsOut input) s (s.ppsInTimeout input)

/-- HOLDOVER_TICK (R262, R265). -/
def execHoldoverTick (dieTemp : Int) (s : State) : Host.Outcome State Fault Refusal :=
  effect true s (s.holdoverTick dieTemp)

/-- MODEL_LEARN (R264). -/
def execModelLearn (dieTemp : Int) (s : State) : Host.Outcome State Fault Refusal :=
  effect true s (s.modelLearn dieTemp)

/-- TEMP_EXT_STALE (R263). -/
def execTempExtStale (s : State) : Host.Outcome State Fault Refusal :=
  effect true s (s.tempExtStale)

/-- REF_CAND_SET (R273). -/
def execRefCandSet (d : CmdDesc) (s : State) : Host.Outcome State Fault Refusal :=
  effect (d.wf) s (s.refCandSet d)

/-- REF_REALIGN (R267, R273). -/
def execRefRealign (d : CmdDesc) (s : State) : Host.Outcome State Fault Refusal :=
  effect (d.wf) s (s.refRealign d)

/-- REF_MDL_RESET (R264, R273). -/
def execRefMdlReset (d : CmdDesc) (s : State) : Host.Outcome State Fault Refusal :=
  effect (d.wf) s (s.refMdlReset d)

end Sys2Proof.Machine
end

