-- ==== Sys2Proof/Machine/Sol.lean ====
section
/-! DEFINITION. The timing solution of the satellite receiver (R304 to R306, R310) and its sample for REF. -/

set_option Elab.async false

namespace Sys2Proof.Machine

/-- MIN_SV: 0 acts as 1, above 12 as 12. -/
def State.minSv (s : State) : Nat := clampNat 1 12 (s.ap Fld.gnssSolCfg_MIN_SV)

/-- RES_MAX in ps; 0 acts as 1 ns. -/
def State.resMax (s : State) : Nat := 1000 * max 1 (s.ap Fld.gnssSolCfg_RES_MAX)

/-- The satellites that channels of band `b` may contribute: tracked with TX_VALID, of a system and band in use, C/N0 of at least
CN0_MIN, above ELEV_MASK in the sky of the solution. -/
def State.solSats (s : State) (sky : List GnssSat) (b : Nat) : List (Nat × Nat) :=
  ((bandChans b).filter (fun c =>
    let x := s.gnssCh c
    x.tracking && x.txValid && (b == 0 || s.apB Fld.gnssCfg_L5_EN) &&
      decide (100 * s.ap Fld.gnssSolCfg_CN0_MIN ≤ x.cn0))).filterMap (fun c => (s.gnssSat c).filter (fun v =>
        (if v.1 = 0 then s.apB Fld.gnssCfg_GPS_EN else s.apB Fld.gnssCfg_GAL_EN) && !(s.svExcl v.1 v.2) &&
          sky.any (fun e => e.system == v.1 && e.svid == v.2 && decide (s.elevMask < e.elev))))

/-- The satellites that the solution uses, and how many of them are paired: unpaired ones only where there is no paired one, and only
with ION_SF (R303). -/
def State.solUse (s : State) (sky : List GnssSat) : Nat × Nat :=
  let a := s.solSats sky 0
  let b := s.solSats sky 1
  let p := (a.filter (fun v => b.contains v)).length
  (if p ≠ 0 then p else if s.apB Fld.gnssCfg_ION_SF then (a ++ b).dedup.length else 0, p)

/-- The solution of an epoch is valid (R305); navigating takes four satellites (R306). -/
def State.solValid (s : State) (x : GnssSol) : Bool :=
  let n := (s.solUse x.sky).1
  s.gnss.clkOk && !(s.gnss.fault1 && decide (s.solSats x.sky 0 ≠ [])) && !(s.gnss.fault5 && decide (s.solSats x.sky 1 ≠ [])) &&
  s.taskHeld 7 && decide (s.minSv ≤ n) && (s.posMode == 2 || decide (4 ≤ n)) && decide (x.rmsPs ≤ s.resMax) && x.weekOk

/-- o of a solution: the arrival at the antenna is GNSS_ANT_DLY earlier, and GNSS_IFB enters τ_IF with 1.260604 (R303, R304), both as
they were at the epoch. -/
def State.solOffset (s : State) (x : GnssSol) : Int :=
  let e := s.gnss.epoch
  let ifb := if (s.solUse x.sky).2 = 0 then 0 else roundDiv (e.ifb * 1260604 * 65536) 1000000000
  x.o - psToFrac e.ant + ifb

/-- A valid epoch joins the survey (R306). -/
def State.surveyAdd (s : State) (x : GnssSol) : State :=
  let v := s.gnss.survey
  if !v.run || s.posMode != 1 then s
  else
    let p := v.pauseAt.elim 0 (fun t => s.clk.now - t)
    ({ s with gnss := { s.gnss with survey := { v with
        n := v.n + 1, sx := v.sx + x.x, sy := v.sy + x.y, sz := v.sz + x.z, sigma := x.sigma
        paused := v.paused + p, pauseAt := none } } } : State).surveyCheck

/-- GNSS_SOLUTION_DONE: a valid solution is a sample of candidate 102, an invalid one its check cause 6 (R305). -/
def State.gnssSolutionDone (s : State) (x : GnssSol) : State :=
  if !s.gnssOn then s
  else
    let y : GnssSol := { x with o := s.solOffset x }
    let n := s.solUse x.sky
    let g : GnssState := { s.gnss with sol := y, used := n.1, paired := n.2, solEpoch := s.gnss.epochs }
    if !(s.solValid x) then (({ s with gnss := g } : State).gnssInvalid).candCheck 102 6
    else
    let s1 : State := { s with gnss := { g with
      valid := true, validRun := g.validRun + 1, everValid := true, posSec := some (secOf s.tod) } }
    let s2 := s1.raiseIf (!g.valid) Ev.gnssSolution 1 n.1
    let s3 := s2.raiseIf (!g.valid && g.everValid) Ev.gnssReacq ((s.clk.now - g.invalidAt) / 10 ^ 9)
    let s4 := s3.surveyAdd x
    (s4.candCheck 102 (s4.standingCause 102)).timeSample 102 y.o

/-- GNSS_SOLUTION_DONE (R304, R305, R306). -/
def execGnssSolutionDone (sol : GnssSol) (s : State) : Host.Outcome State Fault Refusal :=
  effect true s (s.gnssSolutionDone sol)

end Sys2Proof.Machine
end

