-- ==== Sys2Proof/Machine/Cal.lean ====
section
/-! DEFINITION. Calibration jobs, storage and restore (chapter 15). -/

set_option Elab.async false

namespace Sys2Proof.Machine

/-! ## Arguments and preconditions (Tables HDL-3 and CAL-1) -/

/-- The instance lies beyond the target's range, or names an inactive port (R98). -/
def State.calInstBad (s : State) (t i : Nat) : Bool :=
  match t with
  | 0 => decide (96 ≤ i)
  | 1 => decide (96 ≤ i) || s.portInactive i
  | 2 => decide (16 ≤ i)
  | 3 => decide (96 ≤ i) || s.portInactive i
  | _ => decide (i ≠ 0)

/-- The instance or its unit is absent on the variant (R3, R328). -/
def State.calInstAbsent (s : State) (t i : Nat) : Bool :=
  ((t == 0 || t == 1 || t == 3) && decide (s.variant.ports ≤ i) && decide (i < 96)) ||
  (t == 2 && decide (s.variant.tic ≤ i) && decide (i < 16)) || (t == 4 && !s.variant.gnss)

/-- The lane's group is REMOVED or DRAINING (R328). -/
def State.calLaneOut (s : State) (i : Nat) : Bool :=
  decide ((s.grp (i / 8)).st = .removed) || decide ((s.grp (i / 8)).st = .draining)

/-- The precondition of a target instance (Table CAL-1); a TIC job waits for the channel's block instead (R322). -/
def State.calPre (s : State) (t i : Nat) : Bool :=
  match t with
  | 0 => (s.lane i).sig && decide (s.ap Fld.laneAdptCfg_TD_MIN i ≤ (s.lane i).density)
  | 1 => !((s.lane i).lock) || s.apB Fld.laneCtrl_TX_SQUELCH i
  | 2 => true
  | 3 => decide (s.ap Fld.lnkPortCfg_MODE i = 2) && (s.lnkPair i).ok
  | 4 => decide (s.tcore.tstate = .locked) && decide (600 ≤ s.ref.lockedS) &&
      s.ref.tsel.any (fun c => c != 102 && decide (s.candQr c ≤ 1)) && s.gnss.valid && decide (0 < s.gnss.paired)
  | _ => s.ref.mdl.valid (secOf s.tod)

/-- A precondition that a job can lose while it runs; a lane's group stays in service and powered (R327, R328). -/
def State.calHolds (s : State) (t i : Nat) : Bool :=
  match t with
  | 0 => s.calPre 0 i && !(s.calLaneOut i) && s.domOn (i / 8)
  | _ => s.calPre t i

/-- APPLY of a job. -/
def State.calApplies (s : State) (j : Nat) : Bool := bitAt (byteAt (s.obj .cal j).args 1) 0

/-- The quality figure passes its threshold (Table CAL-1). -/
def State.calPass (s : State) (t q : Nat) : Bool :=
  match t with
  | 0 => decide (s.ap Fld.calThr0_LANE_EYE ≤ q)
  | 1 => decide (q ≤ s.ap Fld.calThr0_TS_RMS)
  | 2 => decide (q ≤ s.ap Fld.calThr0_TIC_INL)
  | 3 => decide (q ≤ s.ap Fld.calThr0_LNK_SIG)
  | 4 => decide (q ≤ s.ap Fld.calThr1_GNSS_RMS)
  | _ => true

/-! ## The job object -/

/-- Checks of the arguments of CREATE and MODIFY. -/
def calReserved (d : CmdDesc) : Bool := decide (2 ≤ d.arg 13 1) || !(d.zero 20 32)
def State.calAbsent (s : State) (d : CmdDesc) : Bool := s.calInstAbsent (d.arg 12 1) (d.arg 14 2)
def State.calBad (s : State) (d : CmdDesc) : Bool := decide (5 < d.arg 12 1) || s.calInstBad (d.arg 12 1) (d.arg 14 2)

/-- A job begins: a lane job forces the full retrain, a TIC job waits for the channel's block, a lane out of service loses the job at
once (R328).  What QUERY shows as its outcome before its end is not stated: a free value (log entry 40). -/
def State.calBegin (s : State) (j : Nat) : State :=
  let t := s.calTarget j
  let i := s.calInst j
  let x : CalJob := { outcome := (Config.freeWord s.free).toNat % 256, waitBlock := decide (t = 2) && (s.ticCh i).armed }
  let s1 : State := { s with free := s.free + 1, cal := { s.cal with jobs := Tab.set s.cal.jobs j x } }
  if t = 0 then (if s1.calLaneOut i then s1.calFinish j 4 else s1.retrain i) else s1

/-- A running job whose precondition does not hold any more is LOST (R327); looked at when the job ends, is queried or is destroyed. -/
def State.calCheckLost (s : State) (j : Nat) : State :=
  if (s.calJob j).running && !(s.calHolds (s.calTarget j) (s.calInst j)) then s.calFinish j 4 else s

/-- RESULT of CREATE and MODIFY: the expected duration, which no rule gives (log entry 13). -/
def State.calExpected (s : State) : List Byte := leBytes (Config.freeTime s.free).toNat 4

/-- CAL_JOB_CREATE past its checks (R326): index, task 9, a running job of the target, its precondition. -/
def State.calMake (s : State) (d : CmdDesc) : State :=
  let t := d.arg 12 1
  let i := d.arg 14 2
  if s.taskMoving 9 then { s with eng := { s.eng with calWait := s.eng.calWait ++ [d] } }
  else match s.nextIndex .cal with
    | none => s.complete d 0x0601 .noResource
    | some j =>
      if s.calJobOn t i then s.complete d 0x0601 .busy
      else if !(s.taskHeld 9) || !(s.calPre t i) then s.complete d 0x0601 .notReady
      else
        let s1 := (s.addObj .cal j { args := d.objArgs }).calBegin j
        { s1 with free := s1.free + 1 }.complete d 0x0601 .ok (s1.handleOf .cal j) s1.calExpected

/-- TARGET and instance stand fixed (Table HDL-3). -/
def State.calFixed (s : State) (d : CmdDesc) : Bool :=
  decide (d.arg 12 1 ≠ s.calTarget (hIndex d.handle)) || decide (d.arg 14 2 ≠ s.calInst (hIndex d.handle))

/-- CAL_JOB_MODIFY past its checks. -/
def State.calModify (s : State) (d : CmdDesc) : State :=
  let j := hIndex d.handle
  let s1 := s.setObj .cal j { s.obj .cal j with args := d.objArgs }
  { s1 with free := s1.free + 1 }.complete d 0x0602 .ok 0 s1.calExpected

/-- The job in flight, its abort, its end with the object, its restart (Table HDL-5, R95). -/
def State.calFlight (s : State) (j : Nat) : Nat := b2n (s.calJob j).running
def State.calAbortJob (s : State) (j : Nat) : State :=
  let t := s.calAbort j
  if s.calTarget j = 2 then t.ticSample (s.calInst j) else t
def State.calDrop (s : State) (j : Nat) : State := { s with cal := { s.cal with jobs := Tab.erase s.cal.jobs j } }
def State.calResume (s : State) (j : Nat) : State :=
  let s1 := s.calBegin j
  if (s1.calJob j).running ∧ (!(s.taskHeld 9) ∨ !(s.calPre (s.calTarget j) (s.calInst j))) then s1.calFinish j 4 else s1

/-- RESULT bytes 4 to 15 of a QUERY (R327), and the mailbox record of a job. -/
def State.calQuery (s : State) (j : Nat) : List Byte :=
  leBytes (s.calJob j).outcome 1 ++ leBytes 0 3 ++ leBytes (s.calJob j).quality 4 ++ leBytes 0 4
def State.calWords (s : State) (j : Nat) : List Nat :=
  let x := s.calJob j
  [x.outcome, x.quality, unsigned 32 x.temp, x.node, unsigned 64 x.result % 2 ^ 32, unsigned 64 x.result / 2 ^ 32]
def State.calStatus (s : State) (j : Nat) : List Byte := ((s.calWords j).map (fun w => leBytes w 4)).flatten

/-! ## The end of a job (R327, R330) -/

/-- The node that a result goes to: the nearest one, when it lies within ±5 °C (R330). -/
def calNearNode (temp : Int) : Option Nat := (List.range 8).find? (fun k => decide ((temp - calNodeTemp k).natAbs ≤ 1280))

/-- The asymmetry entry that makes R242 give ā at the current round trip (R247), in 2^-16 ns. -/
def State.calAsym (s : State) (p : Nat) : Int :=
  let α := s.apI Fld.lnkAsymCoef_VAL p
  (s.lnkPair p).abar.getD 0 - roundDiv (((s.lnkPort p).r - psToFrac (s.ap Fld.lnkFixRt_VAL p)) * α) (2 * 10 ^ 10 + α).toNat

/-- Result A of a job as its correction: the asymmetry entry for target 3, the corrected GNSS_IFB for target 4 (R303). -/
def State.calResult (s : State) (t i : Nat) (a : Int) : Int :=
  if t = 3 then s.calAsym i
  else if t = 4 then psToFrac (s.apI Fld.gnssIfb_VAL) - roundDiv (a * 1000000) 1260604
  else a

/-- An APPLIED result: into the nearest node, from which the correction in force follows, or live (R330). -/
def State.calStoreResult (s : State) (j : Nat) (n : CalNode) : State :=
  let t := s.calTarget j
  let i := s.calInst j
  let x := s.calJob j
  if t = 5 then (s.calFinish j 0).calAutoStore 5 0 none
  else if t = 3 then
    let s1 := ({ s with cal := { s.cal with nodes := Tab.set s.cal.nodes ⟨3, i, 0⟩ n } } : State).calOffer 3 i { a := n.a }
    (s1.calFinish j 0).calAutoStore 3 i none
  else match calNearNode x.temp with
    | some k =>
      let s1 : State := { s with cal := { s.cal with
        nodes := Tab.set s.cal.nodes ⟨t, i, k⟩ n, jobs := Tab.set s.cal.jobs j { x with node := k } } }
      let s2 := match s1.calInterp t i x.temp with
        | some c => s1.calOffer t i c
        | none => s1
      (s2.calFinish j 0).calAutoStore t i (some k)
    | none => (s.calOffer t i { a := n.a, b := n.b, codes := n.codes, temp := x.temp, live := true }).calFinish j 0 true

/-- CAL_JOB_END (R327): LOST, FAILED, MEASURED or APPLIED. -/
def State.calJobEnd (s : State) (j quality : Nat) (a b : Int) (codes : List Int) (temp : Int) : State :=
  let x := s.calJob j
  let t := s.calTarget j
  let i := s.calInst j
  if (s.obj? .cal j).isNone ∨ !x.running ∨ x.waitBlock then s
  else if !(s.calHolds t i) then s.calFinish j 4
  else
    let r := s.calResult t i a
    let s1 : State := { s with cal := { s.cal with temp := temp, jobs := Tab.set s.cal.jobs j { x with quality := quality, temp := temp, result := r } } }
    let s2 := if !(s.calPass t quality) then s1.calFinish j 2
      else if !(s.calApplies j) then s1.calFinish j 1
      else s1.calStoreResult j { a := r, b := b, quality := quality, codes := if (t = 0 ∧ codes.length = 32) ∨ (t = 2 ∧ codes.length = 1024) then codes else [] }
    if t = 2 then s2.ticSample i else s2

/-- CAL_JOB_TIMEOUT: TIME_LIMIT has passed. -/
def State.calJobTimeout (s : State) (j : Nat) : State := if (s.obj? .cal j).isNone then s else (s.calCheckLost j).calAbortJob j

/-- CAL_TEMP_STEP (R331). -/
def State.calTempStep (s : State) (temp : Int) : State := ({ s with cal := { s.cal with temp := temp } } : State).calRecomputeAll

/-! ## Storage (R332, R333) -/

/-- The target whose set a persistent word belongs to. -/
def calWordTarget (w : Nat) : Option Nat := [2, 3, 4, 5].find? (fun t => (calDirWords t).contains w)

/-- A word is written, and with a word of a set its directory word. -/
def State.calPut (s : State) (w : Nat) (v : Word) : State :=
  let s1 := s.calTry w v
  match calWordTarget w with
  | some t => s1.calWrite (32 + t) (s1.calDirWord t)
  | none => s1

/-- CAL_STORE: STORE_MIN has passed since the last write of the word. -/
def State.calStore (s : State) (w : Nat) : State :=
  let s1 : State := { s with cal := { s.cal with recent := s.cal.recent.filter (fun x => x != w) } }
  match s.cal.waiting.find? (fun e => e.1 == w) with
  | some e => ({ s1 with cal := { s1.cal with waiting := s1.cal.waiting.filter (fun e => e.1 != w) } } : State).calPut w e.2
  | none => s1

/-- CAL_STORE_RETRY. -/
def State.calStoreRetry (s : State) (w : Nat) : State :=
  match s.cal.retry.find? (fun e => e.1 == w) with
  | some e => s.calPut w e.2
  | none => s

/-- CAL_SAVE (R332, R337): the slot without the newest valid image is erased and written; the end comes with a second boundary. -/
def State.calSave (s : State) (d : CmdDesc) : State :=
  let c := unitChecks d false .cal true [Rdy.cal]
  s.runCmd d 0xC601 { c with badForm := c.badForm || !(d.zero 12 32) } (fun s =>
    if s.boot.straps.noFlash then s.complete d 0xC601 .notReady
    else if s.cal.saving.isSome then s.complete d 0xC601 .busy
    else
      let t := s.setCalSlot s.calSaveSlot {}
      { t with cal := { t.cal with saving := some d } })

/-! ## Reload and restore (R334, R335, R337) -/

/-- What the directory says of a set: never stored, stored, or its CRC fails. -/
inductive SetState where
  | none | good | bad
  deriving DecidableEq, Repr

/-- The state of a stored set; the sets of targets 0 and 1 lie in the flash image alone. -/
def State.calSetState (s : State) (t : Nat) : SetState :=
  let w := s.pers! (32 + t)
  if fieldOf w 8 8 ≠ 1 ∨ (t < 2 ∧ s.boot.straps.noFlash) then .none
  else if t < 2 ∧ s.calNewSlot.isNone then .bad
  else if fieldOf w 16 16 = s.calCrc t then .good else .bad

/-- A 16-bit half of the words from `base` on, in 2^-16 ns. -/
def State.calHalf (s : State) (base n : Nat) : Int := psToFrac (signed 16 (fieldOf (s.pers! (base + n / 2)) (16 * (n % 2)) 16))

/-- The stored nodes of an instance. -/
def State.calStored (s : State) (t i : Nat) : List (CalKey × CalNode) :=
  let flash := match s.calNewSlot with
    | some b => (s.calSlot b).nodes.filter (fun e => e.1.target == t && e.1.inst == i)
    | none => []
  let mask := fieldOf (s.pers! (32 + t)) 0 8
  if t < 2 then flash
  else if t = 2 then ((List.range 8).filter (fun k => bitAt mask k)).map (fun k =>
    (⟨2, i, k⟩, { ((Tab.find flash ⟨2, i, k⟩).getD {}) with a := s.calHalf 106 (8 * i + k) }))
  else if t = 3 then [(⟨3, i, 0⟩, { a := s.calHalf 58 i })]
  else if t = 4 then ((List.range 8).filter (fun k => bitAt mask k)).map (fun k => (⟨4, 0, k⟩, { a := s.calHalf 54 k }))
  else []

/-- The stored model (words 40 to 53). -/
def State.calStoredModel (s : State) : Model :=
  let w := fun (n : Nat) => s.pers! n
  { nodes := (List.range 8).map (fun k => { y := (w (40 + k)).toInt, n := fieldOf (w (48 + k / 2)) (16 * (k % 2)) 16 })
    a := (w 52).toInt, first := some (w 53).toNat }

/-- A stored set is loaded: its correction waits for the boundary of its target; a model is REF's at once. -/
def State.calLoad (s : State) (t i : Nat) : State :=
  if t = 5 then { s with ref := { s.ref with mdl := s.calStoredModel } }
  else
    let s1 : State := { s with cal := { s.cal with
      nodes := s.calStored t i ++ s.cal.nodes.filter (fun e => !(e.1.target == t && e.1.inst == i)) } }
    if t = 3 then s1.calOffer 3 i { a := s.calHalf 58 i }
    else match s1.calInterp t i s1.cal.temp with
      | some c => s1.calOffer t i c
      | none => s1

/-- The instances of a target on the part. -/
def State.calAll (s : State) (t : Nat) : List Nat :=
  match t with
  | 0 => List.range s.variant.ports
  | 1 => List.range s.variant.ports
  | 2 => List.range s.variant.tic
  | 3 => List.range s.variant.ports
  | 4 => if s.variant.gnss then [0] else []
  | _ => [0]

/-- The restore at boot (R334): sets whose CRC matches load, the others raise CAL_SET_BAD; both slots bad sets SET_BAD. -/
def State.calRestore (s : State) : State :=
  if !(s.apB Fld.calCfg_RESTORE_EN) then s
  else
    let s1 := (List.range 6).foldl (fun s t => match s.calSetState t with
      | .none => s
      | .good => (s.calAll t).foldl (fun s i => s.calLoad t i) s
      | .bad => s.raise Ev.calSetBad t) s
    { s1 with cal := { s1.cal with restored := true, setBad := s1.calNewSlot.isNone && !s1.boot.straps.noFlash } }

/-- CAL_RELOAD (R335, R337). -/
def State.calReload (s : State) (d : CmdDesc) : State :=
  let t := d.arg 12 1
  let i := d.arg 14 2
  let c := unitChecks d false .cal true [Rdy.cal]
  s.runCmd d 0xC602 { c with
      absent := s.calInstAbsent t i
      badForm := c.badForm || !(d.zero 13 14) || !(d.zero 16 32)
      badArg := decide (6 < t) || (if t = 6 then decide (1 < i) else s.calInstBad t i) } (fun s =>
    if t = 6 then
      if s.tcore.stbyIn || (s.clk.active == (i == 1)) then s.complete d 0xC602 .busy
      else ({ s with cal := { s.cal with coreSet := true } } : State).complete d 0xC602 .ok
    else match s.calSetState t with
      | .bad => (s.raise Ev.calSetBad t).complete d 0xC602 .ok
      | .good => (s.calLoad t i).complete d 0xC602 .ok
      | .none => s.complete d 0xC602 .ok)

/-! ## Meanings -/

/-- CAL_JOB_END (R327, R330). -/
def execCalJobEnd (job quality : Nat) (a b : Int) (codes : List Int) (temp : Int)
    (s : State) : Host.Outcome State Fault Refusal :=
  effect (calJob job && decide (codes = [] ∨ codes.length = 32 ∨ codes.length = 1024)) s (s.calJobEnd job quality a b codes temp)

/-- CAL_JOB_TIMEOUT (R327). -/
def execCalJobTimeout (job : Nat) (s : State) : Host.Outcome State Fault Refusal :=
  effect (calJob job) s (s.calJobTimeout job)

/-- CAL_TEMP_STEP (R331). -/
def execCalTempStep (temp : Int) (s : State) : Host.Outcome State Fault Refusal :=
  effect true s (s.calTempStep temp)

/-- CAL_STORE (R333). -/
def execCalStore (word : Nat) (s : State) : Host.Outcome State Fault Refusal :=
  effect (persNo word) s (s.calStore word)

/-- CAL_STORE_RETRY (R333). -/
def execCalStoreRetry (word : Nat) (s : State) : Host.Outcome State Fault Refusal :=
  effect (persNo word) s (s.calStoreRetry word)

/-- CAL_SAVE (R332, R337). -/
def execCalSave (d : CmdDesc) (s : State) : Host.Outcome State Fault Refusal :=
  effect (d.wf) s (s.calSave d)

/-- CAL_RELOAD (R334, R335, R337). -/
def execCalReload (d : CmdDesc) (s : State) : Host.Outcome State Fault Refusal :=
  effect (d.wf) s (s.calReload d)

end Sys2Proof.Machine
end

