-- ==== Sys2Proof/Machine/Eng.lean ====
section
/-! DEFINITION. The Idras engines (chapter 16): states, tasks and takeovers, images, and policy tables. -/

set_option Elab.async false

namespace Sys2Proof.Machine

/-! ## Engines -/

/-- An engine. -/
def State.engOf (s : State) (e : Nat) : Eng := Tab.get {} s.eng.engs e
def State.setEng (s : State) (e : Nat) (x : Eng) : State := { s with eng := { s.eng with engs := Tab.set s.eng.engs e x } }

/-- The code of an engine state (Table ENG-4). -/
def EngSt.code : EngSt → Nat
  | .off => 0 | .idle => 1 | .loaded => 2 | .replay => 3 | .run => 4 | .draining => 5 | .fault => 6

/-- The engines in RUN. -/
def State.runners (s : State) : List Nat := (List.range 16).filter (fun e => s.engRuns e)

/-- ENG_JFMT: the smallest STATE_FMT among engines in REPLAY and RUN, 0 with none (R350). -/
def State.jfmt (s : State) : Nat :=
  ((((List.range 16).filter (fun e => decide ((s.engOf e).st = .run) || decide ((s.engOf e).st = .replay))).map
    (fun e => (s.engOf e).image.elim 0 (fun x => x.fmt))).min?).getD 0

/-- The smallest SEC_VER among engines in RUN, 0 with none. -/
def State.secVerRun (s : State) : Nat := ((s.runners.map (fun e => (s.engOf e).image.elim 0 (fun x => x.secVer))).min?).getD 0

/-- The floor of check 7, from word 288 (R351). -/
def State.secFloor (s : State) : Nat := fieldOf (s.pers! 288) 0 16

/-- An engine in a new state: ENG_STATE; a rise of ENG_JFMT raises ENG_JFMT_CHG (R347, R350). -/
def State.goEng (s : State) (e : Nat) (st : EngSt) : State :=
  let x := s.engOf e
  let s := if x.st = .off then s.cycClear e else s
  let s1 := (s.setEng e { x with st := st }).raiseIf (decide (x.st ≠ st)) Ev.engState e st.code
  s1.raiseIf (decide (0 < s.jfmt) && decide (s.jfmt < s1.jfmt)) Ev.engJfmtChg

/-! ## Tasks (R339, R340) -/

/-- A task. -/
def State.task (s : State) (t : Nat) : EngTask := Tab.get {} s.eng.tasks t
def State.setTask (s : State) (t : Nat) (x : EngTask) : State := { s with eng := { s.eng with tasks := Tab.set s.eng.tasks t x } }

/-- The single-holder tasks that the variant places (R339). -/
def State.singleTasks (s : State) : List Nat :=
  [0, 1, 2, 3, 4, 6, 8, 9] ++ (if s.variant.gnss then [7] else []) ++ (if s.variant.pair then [10] else [])

/-- The engine that the firmware names as standby of a task: the pinned one, or one of the other engines in RUN, which one the spec
leaves open (log entry 41). -/
def State.pickStandby (s : State) (t holder : Nat) : Option Nat :=
  let l := s.runners.filter (fun e => e != holder)
  match (s.task t).pinStby.filter (fun e => l.contains e) with
  | some e => some e
  | none => if l = [] then none else l[(Config.freeWord s.free).toNat % l.length]?

/-- A task gets a standby where one is missing. -/
def State.nameStandby (s : State) (t : Nat) : State :=
  let x := s.task t
  match x.holder with
  | some h =>
    if x.standby.any (fun e => e != h && s.engRuns e) then s
    else ({ s with free := s.free + 1 } : State).setTask t { x with standby := s.pickStandby t h }
  | none => s

/-- READY bits of the engines: ENG while one is in RUN, ADMIT while task 0 has a holder or is being taken over (R409). -/
def State.engReady (s : State) : State :=
  (s.setReady Rdy.eng (decide (s.runners ≠ []))).setReady Rdy.admission (s.taskHeld 0 || s.taskMoving 0)

/-- What waited for a task goes on when an engine holds it again (R340, Table ENG-1). -/
def State.taskGained (s : State) (t : Nat) : State :=
  match t with
  | 0 => s.admGo
  | 1 => s.vscaleTaken
  | 3 => (s.inUse .tchan).mergeSort.foldl (fun s i => s.chanRank i) s
  | 4 => s.rolesEval
  | 9 => s.eng.calWait.foldl (fun s d => s.calMake d) { s with eng := { s.eng with calWait := [] } }
  | 10 =>
    if !s.pair.overflow then s.pairDrainQueue
    else if s.pair.role = .primary then s.resyncSend
    else if s.pair.role = .standby then s.resyncStart else s
  | _ => s

/-- No engine holds a task any more, and none takes it over (Table ENG-1). -/
def State.taskLost (s : State) (t : Nat) : State :=
  match t with
  | 7 => if s.gnss.valid then s.gnssInvalid else s
  | 9 =>
    let s1 := s.calLose (fun _ _ => true)
    s.eng.calWait.foldl (fun s d => s.complete d 0x0601 .notReady) { s1 with eng := { s1.eng with calWait := [] } }
  | _ => s

/-- A handover or takeover of a task from `old` to `new` begins: until it ends nobody holds the task. -/
def State.taskMove (s : State) (t old new : Nat) : State :=
  s.setTask t { s.task t with holder := none, standby := some new, moving := some old }

/-- An engine leaves RUN, as one task sees it: its standby takes over, or with both lost the engine in RUN with the lowest number
(R340, R343). -/
def State.taskLeave (s : State) (e t : Nat) : State :=
  let x := s.task t
  let next := match x.standby with
    | some b => if s.engRuns b then some b else s.runners.head?
    | none => s.runners.head?
  if x.holder = some e then
    match next with
    | some b => s.taskMove t e b
    | none => (s.setTask t { x with holder := none, standby := none }).taskLost t
  else if x.standby = some e then
    match x.moving with
    | some old => (match s.runners.head? with
      | some b => s.taskMove t old b
      | none => (s.setTask t { x with holder := none, standby := none, moving := none }).taskLost t)
    | none => (s.setTask t { x with standby := none }).nameStandby t
  else s

/-- An engine has left RUN: its tasks and its channels go to others. -/
def State.engLeaves (s : State) (e : Nat) (chans : Bool) : State :=
  let s1 := s.singleTasks.foldl (fun s t => s.taskLeave e t) s
  (if chans then s1.tchansLeave e else s1).engReady

/-- ENG_TAKEOVER (R340): the standby is the holder; `lost` items are aborted and counted in the old engine. -/
def State.engTakeover (s : State) (t lost : Nat) : State :=
  let x := s.task t
  match x.moving, x.standby with
  | some old, some b =>
    if !(s.engRuns b) then s
    else
      let s1 := ((s.setTask t { x with holder := some b, standby := none, moving := none }).nameStandby t).bump Fld.engEAborted_VAL old lost
      ((s1.raise Ev.engTaskMove t (old * 256 + b) lost).taskGained t).engReady
  | _, _ => s

/-- An engine enters RUN: it takes every unheld task, is standby where one is missing, and receives the tasks pinned to it
(R343, R349). -/
def State.engEnters (s : State) (e : Nat) : State :=
  (s.singleTasks.foldl (fun s t =>
    let x := s.task t
    match x.holder, x.moving with
    | none, none => (s.setTask t { x with holder := some e, standby := none }).taskGained t
    | some h, _ =>
      if x.pin = some e ∧ h ≠ e then s.taskMove t h e
      else if x.standby.isNone then s.setTask t { x with standby := some e } else s
    | none, some _ => s) s).engReady

/-! ## Faults (R342) -/

/-- Aborted exchanges of the channels of an engine. -/
def State.openExchanges (s : State) (e : Nat) : Nat := ((s.chansOfEng e).filter (fun i => (s.tchan i).outstanding)).length

/-- ENG_OUT of an engine ends: exchanges still open are aborted, the channels move, the command completes (R347). -/
def State.outDone (s : State) (e : Nat) (st : EngSt) : State :=
  let x := s.engOf e
  let n := s.openExchanges e
  let s1 := (s.chansOfEng e).foldl (fun s i => s.setTchan i { s.tchan i with outstanding := false }) s
  let s2 := ((s1.setEng e { x with out := none, drained := 0 }).goEng e st).bump Fld.engEAborted_VAL e n
  let s3 := s2.tchansLeave e
  match x.out with
  | some d => s3.complete d 0xC801 (if n = 0 then .ok else .drainedAbort) 0
      (leBytes (x.drained - n) 4 ++ leBytes n 4 ++ leBytes ((s.clk.now - x.outAt) / 1000000) 4)
  | none => s3

/-- AUTO_RELOAD: from the copy in the firmware banks, at most three times in an hour (R342). -/
def State.autoReload (s : State) (e : Nat) : State :=
  let x := s.engOf e
  let l := x.reloads.filter (fun t => decide (s.clk.now < t + 3600 * 10 ^ 12))
  match s.eng.copy with
  | some c =>
    if s.apB Fld.engCfg_AUTO_RELOAD ∧ l.length < 3 then
      let s1 := (s.setEng e { x with image := some c, reloads := s.clk.now :: l }).goEng e .loaded
      s1.goEng e .replay
    else s
  | none => s

/-- An engine halts in FAULT (R342, R343). -/
def State.engFault (s : State) (e cause : Nat) : State :=
  let x := s.engOf e
  if x.st ≠ .run ∧ x.st ≠ .draining then s
  else
    let s1 := (s.raise Ev.engFault e cause).setEng e { x with cause := cause }
    let s2 := if x.st = .draining then s1.outDone e .fault else (s1.goEng e .fault).engLeaves e true
    s2.autoReload e

/-! ## Out and in (R347, R349) -/

/-- A command of the ENG family that names an engine in byte 12. -/
def State.engChecks (s : State) (d : CmdDesc) (reserved bad : Bool) : Checks :=
  let c := unitChecks d false .eng true []
  { c with absent := decide (d.arg 12 1 < 16) && !(s.engPresent (d.arg 12 1))
           badForm := c.badForm || reserved, badArg := decide (16 ≤ d.arg 12 1) || bad }

/-- An engine begins to drain: its tasks go to their standbys, its channels without an open exchange to other engines. -/
def State.outBegin (s : State) (e : Nat) (d : Option CmdDesc) : State :=
  let x := s.engOf e
  let s1 := (s.setEng e { x with out := d, outAt := s.clk.now, drained := s.openExchanges e }).goEng e .draining
  let s2 := s1.engLeaves e false
  ((s2.chansOfEng e).mergeSort.filter (fun i => !((s2.tchan i).outstanding))).foldl (fun s i => s.tchanMove i) s2

/-- An ENG_OUT without FORCE would leave a task without a holder or a channel without room. -/
def State.outRefused (s : State) (e : Nat) : Bool :=
  let others := s.runners.filter (fun x => x != e)
  let t := (s.setEng e { s.engOf e with st := .draining }).tchansLeave e
  (others == [] && s.singleTasks.any (fun k => (s.task k).holder == some e)) ||
  (s.chansOfEng e).any (fun i => (t.tchan i).engine.isNone)

/-- The ENG_IN of an engine that leaves REPLAY before its end (log entry 41). -/
def State.inDropped (s : State) (e : Nat) : State :=
  match (s.engOf e).inCmd with
  | some d => (s.setEng e { s.engOf e with inCmd := none }).complete d 0xC803 .drainedAbort
  | none => s

/-- ENG_OUT. -/
def State.engOut (s : State) (d : CmdDesc) : State :=
  let e := d.arg 12 1
  let st := (s.engOf e).st
  s.runCmd d 0xC801 (s.engChecks d (decide (2 ≤ d.arg 13 1) || !(d.zero 14 16) || !(d.zero 20 32))
      (decide (st ≠ .run) && decide (st ≠ .replay) && decide (st ≠ .draining))) (fun s =>
    match (s.engOf e).st with
    | .draining => s.complete d 0xC801 .busy
    | .replay =>
      ((s.inDropped e).goEng e .loaded).complete d 0xC801 .ok 0 (leBytes 0 12)
    | _ =>
      if !(bitAt (d.arg 13 1) 0) && s.outRefused e then s.complete d 0xC801 .noResource else s.outBegin e (some d))

/-- ENG_DRAIN_END. -/
def State.engDrainEnd (s : State) (e : Nat) : State := if (s.engOf e).st = .draining then s.outDone e .loaded else s

/-- ENG_IN. -/
def State.engIn (s : State) (d : CmdDesc) : State :=
  let e := d.arg 12 1
  s.runCmd d 0xC803 (s.engChecks d (!(d.zero 13 32)) (decide ((s.engOf e).st ≠ .loaded))) (fun s =>
    (s.setEng e { s.engOf e with inCmd := some d }).goEng e .replay)

/-- ENG_REPLAY_DONE. -/
def State.engReplayDone (s : State) (e us : Nat) : State :=
  let x := s.engOf e
  if x.st ≠ .replay then s
  else
    let s1 := ((s.setEng e { x with inCmd := none }).goEng e .run).engEnters e
    match x.inCmd with
    | some d => s1.complete d 0xC803 .ok 0 (leBytes us 4)
    | none => s1

/-! ## Images (R348, R351) -/

/-- Bytes of SPAD. -/
def State.spadBytes (s : State) (o n : Nat) : List Byte := Memory.reads 0 s.eng.spad o n

/-- The first check of Table ENG-6 that an image fails, or 0: header `h`, body `b`. -/
def State.imageCheck (s : State) (h b : List Byte) : Nat :=
  let f := fun (o n : Nat) => leAt h o n
  let z := fun (o n : Nat) => ((h.drop o).take n).all (fun x => decide (x = 0))
  let nats := fun (l : List Byte) => l.map (fun x => x.toNat)
  let run := decide (s.runners ≠ [])
  if f 0 4 ≠ 0x4F565045 ∨ f 4 2 ≠ 1 ∨ f 6 2 ≠ 256 ∨ !(z 13 3) ∨ !(z 23 1) ∨ !(z 40 8) ∨ !(z 96 64) then 1
  else if f 8 2 ≠ 1 ∨ f 10 2 ≠ 0x9648 ∨ f 32 4 < 4096 ∨ 196608 < f 32 4 ∨ f 32 4 % 64 ≠ 0 then 2
  else if 0x11 < f 12 1 then 3
  else if f 22 1 < 4 ∧ Config.keyRevoked (f 22 1) then 4
  else if 4 ≤ f 22 1 ∨ !(Config.signatureOk (nats (h.take 160)) (nats ((h.drop 160).take 96)) (f 22 1)) then 5
  else if Config.sha384 (nats b) ≠ nats ((h.drop 48).take 48) then 6
  else if f 20 2 < s.secFloor then 7
  else if run ∧ (s.jfmt < f 26 2 ∨ f 24 2 < s.jfmt) then 8
  else if run ∧ f 28 4 ≠ s.eng.fwBanks then 9
  else 0

/-- What the part keeps of an image. -/
def imageOf (h : List Byte) : EngImage :=
  { header := h.take 64, version := leAt h 16 4, secVer := leAt h 20 2, fmt := leAt h 24 2, rdMin := leAt h 26 2, banks := leAt h 28 4 }

/-- A verified image is loaded into an engine, copied into the firmware banks, and gives ENG_SPAD_FW; CYC is cleared (R357). -/
def State.imageLoad (s : State) (e : Nat) (x : EngImage) : State :=
  let s1 : State := { s with eng := { s.eng with copy := some x, fwBanks := x.banks % 2 ^ 32 } }
  ((s1.setEng e { s1.engOf e with image := some x }).goEng e .loaded).cycClear e

/-- A SPAD bank. -/
def State.bank (s : State) (b : Nat) : SpadBank := Tab.get {} s.eng.banks b

/-- A bank is on and in no transition. -/
def State.bankOn (s : State) (b : Nat) : Bool := decide ((s.bank b).mode = 0) && (s.bank b).target.isNone

/-- ENG_LOAD. -/
def State.engLoad (s : State) (d : CmdDesc) : State :=
  let e := d.arg 12 1
  let o := d.arg 16 4
  s.runCmd d 0xC802 (s.engChecks d (!(d.zero 13 16) || !(d.zero 20 32))
      (decide (o % 4096 ≠ 0) || decide (8388608 ≤ o) || !(s.bankOn (o / 262144)) || s.bankFw (o / 262144) ||
        decide ((s.engOf e).st = .off))) (fun s =>
    if (s.engOf e).st = .run ∨ (s.engOf e).st = .replay ∨ (s.engOf e).st = .draining then s.complete d 0xC802 .busy
    else
      let h := s.spadBytes o 256
      let c := s.imageCheck h (s.spadBytes (o + 256) (min 196608 (leAt h 32 4)))
      if c ≠ 0 then s.complete d 0xC802 .badArg 0 (leBytes 0 4 ++ leBytes c 1)
      else (s.imageLoad e (imageOf h)).complete d 0xC802 .ok 0 (leBytes (imageOf h).version 4))

/-- ENG_IMG_COMMIT (R351): key-guarded; the floor rises to the smallest SEC_VER in RUN. -/
def State.engImgCommit (s : State) (d : CmdDesc) : State :=
  let c := unitChecks d false .eng true []
  s.runCmd d 0xC809 { c with badForm := c.badForm || !(d.zero 12 32), guarded := true } (fun s =>
    if s.runners = [] then s.complete d 0xC809 .notReady
    else
      let v := s.secVerRun
      let w : Word := BitVec.ofNat 32 v
      let st := s.persStatus 288 w
      (s.persStore 288 w).complete d 0xC809 st 0 (if st = .ok then leBytes v 2 else []))

/-- ENG_TASK_PIN (R349, R364): the named holder takes the task by a planned handover. -/
def State.engTaskPin (s : State) (d : CmdDesc) : State :=
  let t := d.arg 12 1
  let h := d.arg 13 1
  let b := d.arg 14 1
  let c := unitChecks d false .eng true []
  let gone := fun (e : Nat) => decide (e < 16) && !(s.engPresent e)
  s.runCmd d 0xC804 { c with
      absent := gone h || gone b || (t == 7 && !s.variant.gnss) || (t == 10 && !s.variant.pair)
      badForm := c.badForm || !(d.zero 15 32)
      badArg := decide (10 < t) || t == 5 || (decide (16 ≤ h) && h != 0x1F) || (decide (16 ≤ b) && b != 0x1F) || (decide (h < 16) && h == b) }
      (fun s =>
    let x := s.task t
    if h = 0x1F then (s.setTask t { x with pin := none, pinStby := none }).complete d 0xC804 .ok
    else if !(s.engRuns h) then s.complete d 0xC804 .notReady
    else
      let s1 := s.setTask t { x with pin := some h, pinStby := if b < 16 then some b else none }
      let s2 := match x.holder with
        | some old => if old = h then (s1.setTask t { s1.task t with standby := none }).nameStandby t else s1.taskMove t old h
        | none => (match x.moving with
          | some old => s1.taskMove t old h
          | none => (((s1.setTask t { s1.task t with holder := some h, standby := none }).nameStandby t).taskGained t).engReady)
      s2.complete d 0xC804 .ok)

/-! ## Policy tables (R344, R345) -/

/-- Entries of a policy table. -/
def polSize (t : Nat) : Nat :=
  match t with
  | 1 => 96 | 2 => 128 | 3 => 4096 | 4 => 96 | 5 => 2 | 6 => 8 | _ => 0

/-- An entry with a reserved bit set or a value out of its range (Table ENG-3). -/
def polBad (t e : Nat) : Bool :=
  let z := fun (lo w : Nat) => decide (bitsOf e lo w ≠ 0)
  match t with
  | 1 => z 5 3 || decide (bitsOf e 8 8 = 0) || z 16 48 || decide (bitsOf e 3 2 = 3)
  | 2 => z 25 7 || z 32 32
  | 3 => z 5 59 || (decide (16 ≤ bitsOf e 0 5) && decide (bitsOf e 0 5 ≠ 0x1F))
  | 4 => z 2 6 || decide (bitsOf e 8 8 = 0) || z 32 32
  | 5 => z 40 24
  | _ => z 49 15

/-- Table, first index and count of POL_SET and POL_GET. -/
def CmdDesc.polTable (d : CmdDesc) : Nat := d.buf 0 1
def CmdDesc.polFirst (d : CmdDesc) : Nat := d.buf 2 2
def CmdDesc.polCount (d : CmdDesc) : Nat := d.buf 4 2

/-- The checks that both share. Entries 64 to 95 of PTP_PORT and LANE_SUP are indexes of a table that every variant holds; on an
HD9632-NX they name no absent port and are taken with OK (DESIGN CHOICE, log entry 118). -/
def polChecks (d : CmdDesc) (changes bad : Bool) : Checks :=
  let c := unitChecks d true .eng changes []
  { c with badForm := c.badForm || decide (d.buf 1 1 ≠ 0) || decide (d.buf 6 2 ≠ 0)
           badArg := decide (polSize d.polTable < d.polFirst + d.polCount) || decide (polSize d.polTable = 0) ||
             decide (d.extLen < 8 + 8 * d.polCount) || bad }

/-- An entry replaced; one with its reset value is not listed. -/
def State.setPol (s : State) (t i v : Nat) : State :=
  { s with eng := { s.eng with pol := if v = polReset t i then Tab.erase s.eng.pol (t, i) else Tab.set s.eng.pol (t, i) v } }

/-- POL_SET: all entries together; the roles of channels follow at once. -/
def State.polSet (s : State) (d : CmdDesc) : State :=
  let l := List.range d.polCount
  s.runCmd d 0xC805 (polChecks d true (l.any (fun k => polBad d.polTable (d.buf (8 + 8 * k) 8)))) (fun s =>
    let s1 := l.foldl (fun s k => s.setPol d.polTable (d.polFirst + k) (d.buf (8 + 8 * k) 8)) s
    let s2 := if d.polTable = 1 then s1.rolesEval else s1
    s2.complete d 0xC805 .ok)

/-- POL_GET. -/
def State.polGet (s : State) (d : CmdDesc) : State :=
  s.runCmd d 0xC806 (polChecks d false false) (fun s =>
    s.complete d 0xC806 .ok 0 [] (d.ext.take 8 ++
      ((List.range d.polCount).map (fun k => leBytes (s.polEntry d.polTable (d.polFirst + k)) 8)).flatten))

/-- The words that POL_SAVE stores, but the last (R345). -/
def State.polWords (s : State) : List (Nat × Word) :=
  (List.range 48).map (fun k => (289 + k, BitVec.ofNat 32 (s.polEntry 1 (2 * k) % 65536 + s.polEntry 1 (2 * k + 1) % 65536 * 65536))) ++
  (List.range 16).map (fun k => (337 + k, BitVec.ofNat 32 (s.polEntry 6 (k / 2) / 2 ^ (32 * (k % 2))))) ++
  (List.range 4).map (fun k => (353 + k, BitVec.ofNat 32 (s.polEntry 5 (k / 2) / 2 ^ (32 * (k % 2)))))

/-- Word 357: CRC-16 and format. -/
def polCrcWord (l : List Word) : Word := BitVec.ofNat 32 ((Config.crc16 (l.map (fun w => w.toNat))).toNat + 0x10000)

/-- One word of POL_SAVE: its store has ended before the next begins (log entry 42). -/
def State.polStore (s : State) (w : Nat) (v : Word) : State :=
  let t := s.persStore w v
  if s.persStatus w v = .ok then { t with pers := { t.pers with busy := s.pers.busy } } else t

/-- Stores words in order until one is refused: the state, the words written, and the refusal. -/
def State.polStoreAll (s : State) (n : Nat) : List (Nat × Word) → State × Nat × Status
  | [] => (s, n, .ok)
  | (w, v) :: l =>
    if s.persStatus w v ≠ .ok then (s.polStore w v, n, s.persStatus w v)
    else (s.polStore w v).polStoreAll (n + (if s.pers! w = v then 0 else 1)) l

/-- POL_SAVE. -/
def State.polSave (s : State) (d : CmdDesc) : State :=
  let c := unitChecks d false .eng true []
  s.runCmd d 0xC807 { c with badForm := c.badForm || !(d.zero 12 32) } (fun s =>
    let l := s.polWords
    let r := s.polStoreAll 0 (l ++ [(357, polCrcWord (l.map (fun e => e.2)))])
    r.1.complete d 0xC807 r.2.2 0 (if r.2.2 = .ok then leBytes r.2.1 4 else []))

/-- The restore of the saved tables at boot; a CRC mismatch of a stored image raises ENG_POL_BAD (R345). -/
def State.polRestore (s : State) : State :=
  let w := fun (n : Nat) => (s.pers! n).toNat
  let l := (List.range 68).map (fun k => s.pers! (289 + k))
  if s.pers! 357 = 0 ∧ l.all (fun x => decide (x = 0)) then s
  else if s.pers! 357 ≠ polCrcWord l then s.raise Ev.engPolBad
  else
    let s1 := (List.range 96).foldl (fun s p => s.setPol 1 p (bitsOf (w (289 + p / 2)) (16 * (p % 2)) 16)) s
    let s2 := (List.range 8).foldl (fun s k => s.setPol 6 k (w (337 + 2 * k) + w (338 + 2 * k) * 2 ^ 32)) s1
    (List.range 2).foldl (fun s k => s.setPol 5 k (w (353 + 2 * k) + w (354 + 2 * k) * 2 ^ 32)) s2

/-! ## Meanings -/

/-- ENG_WDOG_EXPIRE (R342, R343). -/
def execEngWdogExpire (e : Nat) (s : State) : Host.Outcome State Fault Refusal :=
  effect (engineNo e) s (s.engFault e 1)

/-- ENG_FAULT_DETECT (R342, R343). -/
def execEngFaultDetect (e cause : Nat) (s : State) : Host.Outcome State Fault Refusal :=
  effect (engineNo e && decide (1 < cause) && decide (cause ≤ 4)) s (s.engFault e cause)

/-- ENG_TAKEOVER (R340). -/
def execEngTakeover (task lost : Nat) (s : State) : Host.Outcome State Fault Refusal :=
  effect (taskNo task) s (s.engTakeover task lost)

/-- ENG_OUT (R347). -/
def execEngOut (d : CmdDesc) (s : State) : Host.Outcome State Fault Refusal :=
  effect (d.wf) s (s.engOut d)

/-- ENG_LOAD (R348). -/
def execEngLoad (d : CmdDesc) (s : State) : Host.Outcome State Fault Refusal :=
  effect (d.wf) s (s.engLoad d)

/-- ENG_IN (R349). -/
def execEngIn (d : CmdDesc) (s : State) : Host.Outcome State Fault Refusal :=
  effect (d.wf) s (s.engIn d)

/-- ENG_TASK_PIN (R364). -/
def execEngTaskPin (d : CmdDesc) (s : State) : Host.Outcome State Fault Refusal :=
  effect (d.wf) s (s.engTaskPin d)

/-- POL_SET (R344). -/
def execPolSet (d : CmdDesc) (s : State) : Host.Outcome State Fault Refusal :=
  effect (d.wf) s (s.polSet d)

/-- POL_GET (R364). -/
def execPolGet (d : CmdDesc) (s : State) : Host.Outcome State Fault Refusal :=
  effect (d.wf) s (s.polGet d)

/-- POL_SAVE (R345). -/
def execPolSave (d : CmdDesc) (s : State) : Host.Outcome State Fault Refusal :=
  effect (d.wf) s (s.polSave d)

/-- ENG_IMG_COMMIT (R351). -/
def execEngImgCommit (d : CmdDesc) (s : State) : Host.Outcome State Fault Refusal :=
  effect (d.wf) s (s.engImgCommit d)

end Sys2Proof.Machine
end

