-- ==== Sys2Proof/Machine/Spad.lean ====
section
/-! DEFINITION. The scratchpad (R352 to R356) and the performance counters (R357 to R361). -/

set_option Elab.async false

namespace Sys2Proof.Machine

/-! ## Words of SPAD -/

/-- The word at a SPAD offset. -/
def State.spadWord (s : State) (o : Nat) : Nat := leAt (s.spadBytes o 4) 0 4

/-- A word of SPAD replaced. -/
def State.putSpad (s : State) (o v : Nat) : State := { s with eng := { s.eng with spad := Memory.writes 0 s.eng.spad o (leBytes v 4) } }

/-- What an access does to a word. -/
def PortA.apply (a : PortA) (w : Nat) : Nat :=
  match a with
  | .idle => w
  | .write v => v.toNat
  | .set v => (BitVec.ofNat 32 w ||| v).toNat
  | .clear v => (BitVec.ofNat 32 w &&& ~~~ v).toNat

/-- A port B access to a bank that is not on: counted, and ENG_SPAD_BANK_OFF at most once in 1 ms (R355). -/
def State.bankOffAccess (s : State) (o : Nat) : State :=
  let s1 := s.bump Fld.engSpadBankErr_VAL
  if s.eng.bankOffAt.any (fun t => decide (s.clk.now < t + 10 ^ 9)) then s1
  else ({ s1 with eng := { s1.eng with bankOffAt := some s.clk.now } } : State).raise Ev.engSpadBankOff o

/-- Port A's access alone; a bank that is not on takes none. -/
def State.portA (s : State) (o : Nat) (a : PortA) : State :=
  if !(s.bankOn (o / 262144)) || decide (a = .idle) then s else s.putSpad o (a.apply (s.spadWord o))

/-- A port B write `b` beside port A's access `a` in the same bank cycle (R352 to R355): the firmware's banks and banks that are not
on take none; port A's plain write wins; otherwise both act, port A's first. -/
def State.spadWrite (s : State) (o : Nat) (a b : PortA) : State :=
  let k := o / 262144
  if s.bankFw k then ((s.portA o a).bump Fld.engSpadBankErr_VAL).raise Ev.engSpadFwWrite o
  else if !(s.bankOn k) then s.bankOffAccess o
  else match a with
    | .write _ => ((s.portA o a).bump Fld.engSpadLost_VAL).raise Ev.engSpadWriteLost o
    | _ => (s.portA o a).putSpad o (b.apply ((s.portA o a).spadWord o))

/-- A plain write by the host: with partial byte enables it is ignored and counted (R21). -/
def State.spadPlain (s : State) (o : Nat) (be : BitVec 4) (v : Word) (a : PortA) : State :=
  if be ≠ 15 then (s.portA o a).bump Fld.sysBadAccess_VAL else s.spadWrite o a (.write v)

/-! ## SPAD_DMA (R356) -/

/-- One word of a copy into SPAD: the state, words lost, the first lost offset, words dropped. -/
def State.dmaWord (x : State × Nat × Option Nat × Nat) (o v : Nat) (clash : Option Word) : State × Nat × Option Nat × Nat :=
  let s := x.1
  if !(s.bankOn (o / 262144)) then (s.bankOffAccess o, x.2.1, x.2.2.1, x.2.2.2 + 1)
  else match clash with
    | some w => (((s.putSpad o w.toNat).bump Fld.engSpadLost_VAL).raise Ev.engSpadWriteLost o, x.2.1 + 1, some (x.2.2.1.getD o), x.2.2.2)
    | none => (s.putSpad o v, x.2)

/-- The words of a copy into SPAD in ascending order. -/
def State.dmaIn (x : State × Nat × Option Nat × Nat) (o : Nat) (data : List Byte) (clash : List (Nat × Word)) :
    Nat → State × Nat × Option Nat × Nat
  | 0 => x
  | n + 1 => State.dmaIn (State.dmaWord x o (leAt data 0 4) (Tab.find clash o)) (o + 4) (data.drop 4) clash n

/-- The bytes that a copy out of SPAD reads: zero from a bank that is not on. -/
def State.dmaRead (s : State) (o : Nat) : Nat → List Byte
  | 0 => []
  | n + 1 => (if s.bankOn (o / 262144) then s.spadBytes o 64 else List.replicate 64 0) ++ s.dmaRead (o + 64) n

/-- Accesses of a copy out of SPAD that meet a bank that is not on. -/
def State.dmaOff (s : State) (o : Nat) : Nat → State
  | 0 => s
  | n + 1 => (if s.bankOn (o / 262144) then s else s.bankOffAccess o).dmaOff (o + 4) n

/-- SPAD_DMA. -/
def State.spadDma (s : State) (d : CmdDesc) (data : List Byte) (clash : List (Nat × Word)) : State :=
  let out := bitAt (d.arg 12 1) 0
  let o := d.arg 16 4
  let n := d.arg 28 4
  let c := unitChecks d false .eng true []
  s.runCmd d 0xC808 { c with
      badForm := c.badForm || decide (2 ≤ d.arg 12 1) || !(d.zero 13 16)
      badArg := decide (o % 64 ≠ 0) || decide (d.arg 20 8 % 64 ≠ 0) || decide (n % 64 ≠ 0) || decide (n < 64) || decide (8388608 < n) ||
        decide (8388608 < o + n) ||
        (!out && (List.range 32).any (fun b => s.bankFw b && decide (b * 262144 < o + n) && decide (o < (b + 1) * 262144))) } (fun s =>
    if out then
      let t : State := { (s.dmaOff o (n / 4)) with eng := { (s.dmaOff o (n / 4)).eng with dmaOut := s.dmaRead o (n / 64) } }
      t.complete d 0xC808 .ok 0 (leBytes 0 4 ++ leBytes 0xFFFFFFFF 4 ++ leBytes 0 4)
    else
      let r := State.dmaIn (s, 0, none, 0) o data clash (n / 4)
      r.1.complete d 0xC808 .ok 0 (leBytes r.2.1 4 ++ leBytes (r.2.2.1.getD 0xFFFFFFFF) 4 ++ leBytes r.2.2.2 4))

/-! ## Bank power (R355) -/

/-- A bank is asked into a mode. -/
def State.bankGo (s : State) (b m : Nat) : State :=
  let x := s.bank b
  if x.target.getD x.mode = m then s
  else { s with eng := { s.eng with banks := Tab.set s.eng.banks b { x with target := some m } } }

/-- SPAD_BANK_TRANSITION_DONE: a bank that was off or goes off has lost its contents. -/
def State.spadBankTransitionDone (s : State) (b : Nat) : State :=
  let x := s.bank b
  match x.target with
  | none => s
  | some m =>
    { s with eng := { s.eng with
      banks := if m = 0 then Tab.erase s.eng.banks b else Tab.set s.eng.banks b { mode := m }
      spad := if m = 2 ∨ x.mode = 2 then Memory.clear s.eng.spad (b * 262144) ((b + 1) * 262144) else s.eng.spad } }

/-- The mode that a word of ENG_SPAD_PWR asks of bank `k` of the word; 3 acts as 1. -/
def bankMode (w : Word) (k : Nat) : Nat := if fieldOf w (2 * k) 2 = 3 then 1 else fieldOf w (2 * k) 2

/-- A write of ENG_SPAD_PWR0 or ENG_SPAD_PWR1: a firmware bank stays on, the others apply at once. -/
def State.spadPwrWrite (s : State) (hi : Bool) (v m : Word) : State :=
  let k : RegKey := ⟨.engSpadPwr, b2n hi, 0⟩
  let s1 := s.storeReg k v m
  let w := s1.written k
  let bad := (List.range 16).filter (fun j => s1.bankFw (16 * b2n hi + j) && bankMode w j != 0)
  let keep : Word := bad.foldl (fun x j => x ||| maskOf (2 * j) 2) 0
  let w' := w &&& ~~~ keep
  let s2 : State := { s1 with regs := { s1.regs with
    written := Tab.set s1.regs.written k w', applied := Tab.set s1.regs.applied k w' } }
  let s3 := (List.range 16).foldl (fun s j => s.bankGo (16 * b2n hi + j) (bankMode w' j)) s2
  s3.raiseIf (decide (bad ≠ [])) Ev.engCfgBad

/-! ## PERF (R357 to R361) -/

/-- The event that counter `k` of an engine counts. -/
def State.perfEvent (s : State) (e k : Nat) : Nat := fieldOf (s.applied ⟨.perfSel, e, k / 4⟩) (8 * (k % 4)) 8

/-- Counter `k` of an engine; the count of events is a free value (log entry 44). -/
def State.pcKnown (s : State) (e k : Nat) : Option Nat := Tab.get (some 0) s.eng.pcs (e, k)

/-- A counter set. -/
def State.setPc (s : State) (e k : Nat) (v : Option Nat) : State := { s with eng := { s.eng with pcs := Tab.set s.eng.pcs (e, k) v } }

/-- CLR of the counters in `bits`: they read 0, and those that count go on. -/
def State.perfClr (s : State) (e bits : Nat) : State :=
  ((List.range 8).filter (fun k => bitAt bits k)).foldl (fun s k => s.setPc e k (if s.perfEvent e k = 0 then some 0 else none)) s

/-- A write of PERF_SEL0 or PERF_SEL1: a reserved code keeps the applied one; a counter whose event ends stands still at a value that
is not known, one whose event begins counts. -/
def State.perfSel (s : State) (e : Nat) (hi : Bool) (v m : Word) : State :=
  let k : RegKey := ⟨.perfSel, e, b2n hi⟩
  let s1 := s.storeReg k v m
  let w := s1.written k
  let bad := (List.range 4).filter (fun j => decide (0x0C ≤ fieldOf w (8 * j) 8))
  let keep : Word := bad.foldl (fun x j => x ||| maskOf (8 * j) 8) 0
  let w' := (w &&& ~~~ keep) ||| (s.stored k &&& keep)
  let s2 : State := { s1 with regs := { s1.regs with
    written := Tab.set s1.regs.written k w', applied := Tab.set s1.regs.applied k w' } }
  let s3 := (List.range 4).foldl (fun s2 j =>
    let c := 4 * b2n hi + j
    if s2.perfEvent e c ≠ 0 then s2.setPc e c none
    else if (s2.pcKnown e c).isSome then s2
    else { s2 with free := s2.free + 1 }.setPc e c (some ((Config.freeWord s2.free).toNat))) s2
  s3.raiseIf (decide (bad ≠ [])) Ev.perfCfgBad

/-- PERF_PC_WRAP: OVF sets. -/
def State.perfPcWrap (s : State) (e k : Nat) : State :=
  if s.perfEvent e k = 0 then s
  else { s with rc := (s.rcSet Fld.perfCtl_OVF (2 ^ k) e).rc }

/-- A record joins a buffer of 4,096, oldest first: the buffer, and whether a record was lost. -/
def joinRecord {α : Type} (l : List α) (x : α) (stopFull : Bool) : List α × Bool :=
  if l.length < 4096 then (l ++ [x], false) else if stopFull then (l, true) else (l.tail ++ [x], true)

/-- PERF_SAMPLE: with CYC[31:0] at the retirement. -/
def State.perfSample (s : State) (e addr latency : Nat) : State :=
  if !(s.apB Fld.perfSampCfg_EN) || !(bitAt (s.ap Fld.perfSampCfg_ENG) e) || !(s.engRuns e) then s
  else
    let r := joinRecord s.eng.samples (e, addr, latency, s.cycOf e % 2 ^ 32) (s.apB Fld.perfSampCfg_STOP_FULL)
    let s1 : State := { s with eng := { s.eng with samples := r.1 } }
    if r.2 then s1.bump Fld.perfSampDrop_VAL else s1

/-- The counts of retired instructions after which an engine may be sampled (R361). -/
def State.sampleCount (s : State) (n : Nat) : Bool :=
  let p := 2 ^ min 24 (max 8 (s.ap Fld.perfSampCfg_P))
  decide (p - p / 4 ≤ n) && decide (n ≤ p + p / 4)

/-- A sample taken after `n` instructions: one outside the range is none (R361). -/
def State.perfSampled (s : State) (e addr latency n : Nat) : State := if s.sampleCount n then s.perfSample e addr latency else s

/-! ## Meanings -/

/-- SPAD_DMA (R356). -/
def execSpadDma (d : CmdDesc) (data : List Byte) (clash : List (Nat × Word))
    (s : State) : Host.Outcome State Fault Refusal :=
  effect (d.wf) s (s.spadDma d data clash)

/-- SPAD_WINDOW_WRITE (R352, R353). -/
def execSpadWindowWrite (off : Nat) (be : BitVec 4) (val : Word) (a : PortA)
    (s : State) : Host.Outcome State Fault Refusal :=
  effect (spadWord off) s (s.spadPlain off be val a)

/-- SPAD_SET_ALIAS_WRITE (R354). -/
def execSpadSetAliasWrite (off : Nat) (val : Word) (a : PortA) (s : State) : Host.Outcome State Fault Refusal :=
  effect (spadWord off) s (s.spadWrite off a (.set val))

/-- SPAD_CLEAR_ALIAS_WRITE (R354). -/
def execSpadClearAliasWrite (off : Nat) (val : Word) (a : PortA) (s : State) : Host.Outcome State Fault Refusal :=
  effect (spadWord off) s (s.spadWrite off a (.clear val))

/-- SPAD_TOGGLE_WRITE (R354). -/
def execSpadToggleWrite (off : Nat) (val : Word) (s : State) : Host.Outcome State Fault Refusal :=
  effect (spadWord off) s (s.bump Fld.engSpadBankErr_VAL)

/-- SPAD_BANK_TRANSITION_DONE (R355). -/
def execSpadBankTransitionDone (bank : Nat) (s : State) : Host.Outcome State Fault Refusal :=
  effect (spadBank bank) s (s.spadBankTransitionDone bank)

/-- PERF_PC_WRAP (R357). -/
def execPerfPcWrap (e k : Nat) (s : State) : Host.Outcome State Fault Refusal :=
  effect (engineNo e && perfCtr k) s (s.perfPcWrap e k)

/-- PERF_SAMPLE (R361). -/
def execPerfSample (e addr latency n : Nat) (s : State) : Host.Outcome State Fault Refusal :=
  effect (engineNo e) s (s.perfSampled e addr latency n)

end Sys2Proof.Machine
end

