-- ==== Sys2Proof/Machine/Pair.lean ====
section
/-! DEFINITION. The commands of the pair link (chapter 17): lanes and frames of the Ommund link, heartbeats, mirrored state, roles,
resynchronisation, rehearsal. -/

set_option Elab.async false

namespace Sys2Proof.Machine

/-! ## The Ommund link (R366 to R368) -/

/-- The PAIR block is present and its domain is on. -/
def State.pairPowered (s : State) : Bool := s.variant.pair && s.domOn 19

/-- Frames pass on the link: the block runs and a lane is up. -/
def State.omdUp (s : State) : Bool := s.pairOn && decide (s.pair.lanes ≠ 0)

/-- The lowest lane that is up. -/
def lowestLane (l : Nat) : Option Nat := (List.range 4).find? (fun k => bitAt l k)

/-- The time exchange begins anew (R366). -/
def State.timeRestart (s : State) : State :=
  { s with pair := { s.pair with timeSent := 0, timeTx := [], timeRx := none, timeOut := none } }

/-- LANES_UP changes; a change of the lowest lane restarts the TIME exchange; SYS_READY.PAIR is one lane up. -/
def State.setLanes (s : State) (l : Nat) : State :=
  let s1 := if lowestLane l = lowestLane s.pair.lanes then s else s.timeRestart
  ({ s1 with pair := { s1.pair with lanes := l } } : State).setReady Rdy.pair (decide (l ≠ 0))

/-- OMD_LANE_UP: not while the pads of the link are held (R398). -/
def State.omdLaneUp (s : State) (n : Nat) : State := if s.pairPowered && s.padIn 16 then s.setLanes (s.pair.lanes ||| 2 ^ n) else s

/-- OMD_LANE_DOWN. -/
def State.omdLaneDown (s : State) (n : Nat) : State :=
  if s.pairPowered && bitAt s.pair.lanes n then s.setLanes (s.pair.lanes - 2 ^ n) else s

/-- OMD_FRAME_BAD. -/
def State.omdFrameBad (s : State) : State := if s.pairPowered then s.bump Fld.pairOmdErr_CRC else s

/-- `a` stands before `b` in the numbering of 32-bit sequence numbers. -/
def seqBefore (a b : Nat) : Bool := decide (0 < (b + 2 ^ 32 - a) % 2 ^ 32) && decide ((b + 2 ^ 32 - a) % 2 ^ 32 < 2 ^ 31)

/-- An ACK of the peer: the frames before it are acknowledged. -/
def State.omdAck (s : State) (ack : Nat) : State :=
  { s with pair := { s.pair with txq := s.pair.txq.filter (fun x => !(seqBefore x.seq ack)) } }

/-- OMD_RETRANSMIT (R368): sent again, or after 8 sends the link counts as down, its lanes retrain, and the sends count anew on the
lanes that come up. -/
def State.omdRetransmit (s : State) (seq : Nat) : State :=
  match s.pair.txq.find? (fun x => x.seq == seq) with
  | none => s
  | some x =>
    if !s.omdUp then s
    else if 8 ≤ x.sends then
      ({ s with pair := { s.pair with txq := s.pair.txq.map (fun y => { y with sends := 0 }) } } : State).setLanes 0
    else
      ({ s with pair := { s.pair with
          txq := s.pair.txq.map (fun y => if y.seq = seq then { y with sends := y.sends + 1 } else y) } } : State).bump Fld.pairOmdErr_RETX

/-! ## Mirrored state (R374 to R377) -/

/-- A delta of this part for the entry is under way: it crosses the peer's (R376). -/
def State.fdbCrosses (s : State) (mac vid : Nat) : Bool :=
  s.pair.txq.any (fun x => match x.payload with
    | .fdb l => l.any (fun r => r.mac == mac && r.vid == vid)
    | _ => false)

/-- A record of FDB_DELTA (R376): where two deltas cross, the primary's is applied on both parts.  While the version store is full
it is skipped as a learn is (R192). -/
def State.fdbRec (s : State) (r : FdbRec) : State :=
  let cross := s.fdbCrosses r.mac r.vid
  if cross ∧ s.pair.role = .primary then s
  else if s.fdb.verFull then s.bump Fld.fdbLearnSkip_VAL
  else match s.fdbEntry? r.mac r.vid with
    | some e =>
      if e.static then s
      else if r.remove then (if e.mirrored || cross then s.fdbRemove r.mac r.vid else s)
      else s.fdbPut r.mac r.vid { e with dest := r.dest, mirrored := true }
    | none =>
      if r.remove then s
      else (s.fdbInsert r.mac r.vid { dest := r.dest, mirrored := true }).getD s.fdbFull

/-- The record of a flow as the command that its checks name. -/
def FlowRec.desc (r : FlowRec) : CmdDesc :=
  { src := .boot, tag := BitVec.ofNat 32 r.f, flags := 0, rsvd := 0, handle := r.handle, args := r.args, ext := [] }

/-- The standby disables a flow with the primary: its frames in flight are flushed (log entry 34). -/
def State.flowMirrorPhase (s : State) (h : Word) (on : Bool) : State :=
  let i := hIndex h
  if s.stale .flow h then s
  else
    let s1 := if on then s.flowResume i else s.flowAbort i
    s1.setObj .flow i { s1.obj .flow i with phase := if on then .active else .suspended }

/-- The standby's answer to the flow that waits on the primary (R377): accepted with the larger B, or refused with the standby's.
A refusal that no command waits for leaves the flow on the primary only. -/
def State.flowAnswer (s : State) (r : FlowRec) : State :=
  let mine := match s.sw.wait with
    | some w => if w.stage = 1 ∧ mkHandle .flow (s.gen .flow w.index) w.index = r.handle then some w else none
    | none => none
  match mine with
  | some w =>
    if r.op = 4 then (s.flowGrant { w with bound := max w.bound r.b }).admGo
    else (s.flowRefuse w (if r.b = 0xFFFFFFFF then none else some r.b)).admGo
  | none => s.raiseIf (decide (r.op = 5)) Ev.pairFlowDiverge r.handle.toNat

/-- A record of FLOW_DELTA. -/
def State.flowRecTake (s : State) (r : FlowRec) : State :=
  if s.pair.role = .primary then (if r.op = 4 ∨ r.op = 5 then s.flowAnswer r else s)
  else if s.pair.role ≠ .standby then s
  else match r.op with
    | 0 => s.admNext 4 r.desc
    | 1 => if s.stale .flow r.handle then s
      else ({ s with sw := { s.sw with wait := s.sw.wait.filter (fun w => w.index != hIndex r.handle) } } : State).flowKill (hIndex r.handle)
    | 2 => s.flowMirrorPhase r.handle false
    | 3 => s.flowMirrorPhase r.handle true
    | _ => s

/-- The primary's time state (Table PAIR-4). -/
def State.timeStateTake (s : State) (t : TimeStateRec) : State :=
  if s.pair.role ≠ .standby then s
  else
    let s1 : State := { s with pair := { s.pair with mirror := some t } }
    if s1.pair.follow then s1.showMirror t else s1

/-- A record of CB_STATE (R374): the wrap count is the function's run-time state; another source changes the function, which takes a
version (R190) and is skipped while the version store is full (R192). -/
def State.cbRec (s : State) (r : CbRec) : State :=
  match Tab.find s.fdb.cb r.fn with
  | none => s
  | some x =>
    let y := { x with wrap := r.wrap % 256 }
    if x.src = r.src ∨ x.type ≠ 0 then s.setCb r.fn y
    else if s.verBusy [.cb r.fn] then s.setCb r.fn y
    else (s.bumpVersion (.cb r.fn)).setCb r.fn { y with src := r.src }

/-- The primary's wrap counts and sequence sources (R374). -/
def State.cbTake (s : State) (l : List CbRec) : State :=
  if s.pair.role ≠ .standby then s else l.foldl (fun s r => s.cbRec r) s

/-- The payload of a sequenced frame takes effect, in the states in which state is mirrored. -/
def State.omdApply (s : State) (p : OmdPayload) : State :=
  if !s.mirroring then s
  else match p with
    | .fdb l => l.foldl (fun s r => s.fdbRec r) s
    | .flow l => l.foldl (fun s r => s.flowRecTake r) s
    | .timeState t => s.timeStateTake t
    | .cb l => s.cbTake l
    | .begin _ => if s.pair.role = .standby ∧ s.pair.st = .synced then s.resyncStart else s
    | .data f fl t c =>
      if s.pair.role = .standby ∧ s.pair.st = .resync then
        let n := f.length + fl.length + (if t.isSome then 1 else 0) + c.length
        let s1 : State := { s with pair := { s.pair with records := s.pair.records + n } }
        let s2 := fl.foldl (fun s r => s.flowRecTake r) (f.foldl (fun s r => s.fdbRec r) s1)
        (match t with
          | some x => s2.timeStateTake x
          | none => s2).cbTake c
      else s
    | .done _ => if s.pair.role = .standby ∧ s.pair.st = .resync then s.resyncDone else s
    | .role t =>
      if s.pair.role = .standby ∧ s.pair.st = .synced ∧ s.pair.mirrorOk then { s with pair := { s.pair with switchAt := some t } } else s

/-- The frames that a gap held back are applied once it has closed. -/
def State.omdHeld (s : State) : Nat → State
  | 0 => s
  | n + 1 =>
    match s.pair.held.find? (fun x => x.1 == s.pair.rxSeq) with
    | none => s
    | some x =>
      (({ s with pair := { s.pair with
          held := s.pair.held.filter (fun y => y.1 != x.1), rxSeq := (s.pair.rxSeq + 1) % 2 ^ 32 } } : State).omdApply x.2).omdHeld n

/-- A sequenced frame is received (R368): applied in SEQ order; one behind a gap waits, one already applied is dropped. -/
def State.omdSeq (s : State) (h : OmdHdr) (p : OmdPayload) : State :=
  if !s.omdUp then s
  else
    let s := s.omdAck h.ack
    let q := h.seq % 2 ^ 32
    if q = s.pair.rxSeq then
      (({ s with pair := { s.pair with rxSeq := (s.pair.rxSeq + 1) % 2 ^ 32 } } : State).omdApply p).omdHeld s.pair.held.length
    else if seqBefore s.pair.rxSeq q && !(s.pair.held.any (fun x => x.1 == q)) then
      { s with pair := { s.pair with held := s.pair.held ++ [(q, p)] } }
    else s

/-- PAIR_STATE_SEND (Table PAIR-2): TIME_STATE and CB_STATE of the primary. -/
def State.pairStateSend (s : State) : State :=
  if s.omdUp && decide (s.pair.role = .primary) then
    (({ s with pair := { s.pair with timeLast := some s.timeStateRec } } : State).pairDelta (.timeState s.timeStateRec)).pairDelta
      (.cb s.cbRecs)
  else s

/-- MIRROR_DELTA_AGE (R384). -/
def State.mirrorDeltaAge (s : State) : State :=
  if s.pair.queue ≠ [] then { s with pair := { s.pair with mirrorOk := false } } else s

/-- PAIR_FLOW_TIMEOUT (R377): the primary proceeds as in ISOLATED. -/
def State.pairFlowTimeout (s : State) : State :=
  match s.sw.wait with
  | some w => if w.stage = 1 then (s.flowGrant w).admGo else s
  | none => s

/-! ## Heartbeats (R369, R370) -/

/-- The HEARTBEAT payload that the part sends. -/
def State.heartbeatOut (s : State) : HbPayload :=
  { pairId := s.ap Fld.pairId_VAL, unitId := s.ap Fld.pairCfg_UNIT_ID, role := s.pair.role.code, state := s.pair.st.code
    inbOk := s.pair.inb.ok, tstate := s.tcore.tstate.code, primaryS := s.pair.primaryS
    lastSeq := (s.pair.rxSeq + 2 ^ 32 - 1) % 2 ^ 32, ack := s.pair.rxSeq }

/-- The in-band heartbeat frame (R370). -/
def State.inbFrame (s : State) : InbFrame :=
  { ports := s.inbPorts, dst := s.ap Fld.pairInbMacLo_VAL + 2 ^ 32 * s.ap Fld.pairInbMacHi_MAC
    vid := s.ap Fld.pairInbMacHi_VID, payload := s.heartbeatOut }

/-- PAIR_HB_SEND: on the Ommund lanes that are up, and in-band while INB_EN is 1. -/
def State.pairHbSend (s : State) : State :=
  if s.pairOn then
    { s with pair := { s.pair with
      hbSent := s.pair.hbSent + 1, hbOut := some s.heartbeatOut
      inbOut := if s.apB Fld.pairCfg_INB_EN then some s.inbFrame else s.pair.inbOut } }
  else s

/-- A heartbeat counts for a path: 8 in a row restore it. -/
def HbPath.hear (x : HbPath) : HbPath :=
  { x with misses := 0, heard := true, beats := x.beats + 1, ok := x.ok || decide (8 ≤ x.beats + 1) }

/-- A counted heartbeat: the peer's last payload, the path, the role in SEARCH, the stream to a standby in RESYNC. -/
def State.hbTake (s : State) (inb : Bool) (hb : HbPayload) : State :=
  let old := if inb then s.pair.inb else s.pair.omd
  let was2 := s.pair.peer.any (fun h => h.state == 2)
  let s1 : State := { s with pair := { s.pair with
    peer := some hb
    streamed := s.pair.streamed && !(was2 && hb.state != 2)
    omd := if inb then s.pair.omd else s.pair.omd.hear
    inb := if inb then s.pair.inb.hear else s.pair.inb } }
  let s2 := s1.raiseIf (!old.ok && old.hear.ok) Ev.pairPathUp
  let s3 := if s2.pair.st = .search then s2.pairDecide hb else s2
  let s4 := s3.pairPaths
  if s4.pair.role = .primary ∧ s4.pair.st = .synced ∧ hb.state = 2 ∧ s4.pair.streamed = false ∧ s4.taskHeld 10 then s4.resyncSend else s4

/-- HEARTBEAT: a frame with another PAIR_ID does not count.  With nothing unacknowledged, SEQ goes on from the peer's ACK (log
entry 34). -/
def State.heartbeat (s : State) (hb : HbPayload) : State :=
  if !s.omdUp || decide (hb.pairId ≠ s.ap Fld.pairId_VAL) then s
  else
    let s1 := s.omdAck hb.ack
    (if s1.pair.txq = [] then { s1 with pair := { s1.pair with txSeq := hb.ack % 2 ^ 32 } } else s1).hbTake false hb

/-- INB_HEARTBEAT_RX: consumed whatever the port's state; it counts on an in-band port, and one with the part's own UNIT_ID is
discarded (R369, R370). -/
def State.inbHeartbeatRx (s : State) (p : Nat) (hb : HbPayload) : State :=
  if !s.pairOn || !(s.apB Fld.pairCfg_INB_EN) || !(s.inbPorts.contains p) || decide (hb.pairId ≠ s.ap Fld.pairId_VAL) ||
      decide (hb.unitId = s.ap Fld.pairCfg_UNIT_ID) then s
  else s.hbTake true hb

/-- An interval of 250 µs ends on a path. -/
def HbPath.interval (x : HbPath) : HbPath :=
  if x.heard then { x with heard := false }
  else { x with misses := x.misses + 1, beats := 0, ok := x.ok && decide (x.misses + 1 < 3) }

/-- PAIR_HB_MISS_CHECK; a path lost cancels a planned switchover (R382). -/
def State.pairHbMissCheck (s : State) : State :=
  if !s.pairOn then s
  else
    let o := s.pair.omd
    let i := s.pair.inb
    let inb := s.apB Fld.pairCfg_INB_EN
    let s1 : State := { s with pair := { s.pair with omd := o.interval, inb := if inb then i.interval else i } }
    let s2 := if o.heard then s1 else s1.bump Fld.pairHbMiss_OMD
    let s3 := if !inb || i.heard then s2 else s2.bump Fld.pairHbMiss_INB
    let s4 := s3.raiseIf (o.ok && !o.interval.ok) Ev.pairPathLost 0
    let s5 := s4.raiseIf (inb && i.ok && !i.interval.ok) Ev.pairPathLost 1
    let gone := (o.ok && !o.interval.ok) || (inb && i.ok && !i.interval.ok)
    (if gone then { s5 with pair := { s5.pair with switchAt := none } } else s5).pairPaths

/-- PAIR_SEARCH_TIMEOUT (R371). -/
def State.pairSearchTimeout (s : State) : State := if s.pairOn && decide (s.pair.st = .search) then s.pairPrimary false else s

/-! ## Time (R366, R378) -/

/-- The clock as a TIME frame carries it: 2^-16 ns. -/
def State.todFrac (s : State) : Nat := s.tod / unitsPerFrac

/-- PAIR_TIME_SEND: the frame carries its transmit time and the peer's last frame. -/
def State.pairTimeSend (s : State) : State :=
  if s.omdUp then
    { s with pair := { s.pair with
      timeSent := s.pair.timeSent + 1, timeTx := (s.todFrac :: s.pair.timeTx).take 2
      timeOut := some (s.todFrac, s.pair.timeRx) } }
  else s

/-- TIME: the frame is received now; with the echo of a frame of this part sent since the exchange began it gives the offset of R239
with a = PAIR_OMD_ASYM (own minus peer time), which a following standby's servo takes. -/
def State.pairTime (s : State) (tx : Nat) (echo : Option (Nat × Nat)) : State :=
  if !s.omdUp then s
  else
    let s1 : State := { s with pair := { s.pair with timeRx := some (tx, s.todFrac) } }
    match echo.filter (fun e => s.pair.timeTx.contains e.1) with
    | none => s1
    | some e =>
      let x : Int := (s.todFrac : Int) - tx
      let y : Int := (e.2 : Int) - e.1
      let off := roundDiv (x - y - psToFrac (s.apI Fld.pairOmdAsym_VAL)) 2
      let s2 : State := { s1 with pair := { s1.pair with
        timeOff := off, timeRtt := x + y, diffs := if s.pair.follow then (off :: s.pair.diffs).take 64000 else s.pair.diffs } }
      if s2.pair.follow then s2.servoTake off else s2

/-! ## Roles (R382) -/

/-- The first second boundary at least 10 ms ahead. -/
def State.switchSecond (s : State) : Nat := secOf (s.tod + 10000000 * unitsPerNs + unitsPerS - 1)

/-- An accepted request of REQ: stored. -/
def State.putReq (s : State) (v : Nat) : State :=
  let t := s.putBoth Fld.pairRole_REQ v
  let k : RegKey := ⟨.pairRole, 0, 0⟩
  { t with regs := { t.regs with
      cfgErr := t.regs.cfgErr.filter (fun a => decide (a ≠ k.addr)), stopped := t.regs.stopped.filter (fun x => decide (x ≠ k)) } }

/-- A role write whose unlock has been consumed. -/
def State.roleReq (s : State) (v : Nat) : State :=
  let ready := decide (s.pair.st = .synced) && s.pair.mirrorOk
  if v = 3 then s
  else if v = 0 ∨ !s.pairOn ∨ s.pair.st = .search ∨ s.pair.st = .off then s.putReq v
  else if v = 1 ∧ s.pair.role = .standby ∧ (s.pair.st = .isolated ∨ s.pair.st = .alone) then (s.putReq v).pairPromote 2 false
  else if v = 1 ∧ s.pair.role = .standby ∧ ready then s.putReq v
  else if v = 2 ∧ s.pair.role = .primary ∧ ready then
    let s1 := s.putReq v
    if s1.pair.switchAt.isSome then s1
    else
      let t := s1.switchSecond
      ({ s1 with pair := { s1.pair with switchAt := some t } } : State).omdSend (.role t)
  else s.raise Ev.pairRoleRefused

/-- PAIR_ROLE_WRITE: a KW write; the write path of an absent unit is ignored (R365). -/
def State.pairRoleWrite (s : State) (p : Path) (val : Word) : State :=
  if !s.variant.pair then s
  else s.keyed p (RegKey.addr ⟨.pairRole, 0, 0⟩) (fun s =>
    if s.domOn 19 then s.roleReq (fieldOf val 0 2) else s.storeReg ⟨.pairRole, 0, 0⟩ val 3)

/-! ## Commands (R385, R388) -/

/-- The checks of the PAIR family: no bit of SYS_READY (R87). -/
def State.pairChecks (s : State) (d : CmdDesc) (n : Nat) (changes bad : Bool) : Checks :=
  let c := unitChecks d false .pair changes []
  { c with absent := !s.variant.pair, badForm := c.badForm || !(d.zero n 32), badArg := bad }

/-- A rehearsal begins. -/
def State.rehearseStart (s : State) (d : Option CmdDesc) : State :=
  { s with pair := { s.pair with rehearsing := true, rehearseCmd := d } }

/-- PAIR_REHEARSE. -/
def State.pairRehearse (s : State) (d : CmdDesc) : State :=
  s.runCmd d 0xCC01 (s.pairChecks d 12 false (decide (s.pair.role = .primary))) (fun s =>
    if s.pair.role ≠ .standby ∨ s.pair.st ≠ .synced then s.complete d 0xCC01 .notReady
    else if s.pair.rehearsing then s.complete d 0xCC01 .busy
    else s.rehearseStart (some d))

/-- PAIR_REHEARSE_TIMER: the firmware's own rehearsal. -/
def State.pairRehearseTimer (s : State) : State :=
  if s.pairOn && decide (s.ap Fld.pairCfg_REHEARSE_H ≠ 0) && decide (s.pair.role = .standby) && decide (s.pair.st = .synced) &&
    !s.pair.rehearsing then s.rehearseStart none else s

/-- A flow that breaks conditions 1 to 4 of R137 at its F_f. -/
def State.flowFails (s : State) (i : Nat) : Bool :=
  let a := s.flowArgs i
  let others := s.flowsTo a.out (some i)
  decide (s.capFault a others ≠ 0) || (match s.boundOf a others (s.flow i).rate with
    | some b => decide (a.boundReq < b)
    | none => true)

/-- Task `t` has a holder in RUN and a standby in RUN. -/
def State.taskDouble (s : State) (t : Nat) : Bool :=
  (s.task t).holder.any (fun e => s.engRuns e) && (s.task t).standby.any (fun e => s.engRuns e)

/-- The bias that R379 would take, 2^-16 ns. -/
def State.rehearseBias (s : State) : Int := s.ref.tsel.elim 0 (fun id => meanInt (s.cand id).last)

/-- A time candidate is QUALIFIED, or selected. -/
def State.timeCandOk (s : State) : Bool :=
  s.ref.cands.any (fun e => candIsTime e.1 && (decide (e.2.st = .qualified) || decide (e.2.st = .selected)))

/-- The checks of Table PAIR-5 in order; what the AVSBus, the calibration and the shadow domain answered are operands. -/
def State.rehearseChecks (s : State) (avsAck : Bool) (rateMax : Nat) (masters roleLatch : Bool) : List Bool :=
  [s.pair.mirrorOk,
   (s.inUse .flow).all (fun i => !(s.flowFails i)),
   !s.sw.avsFail && avsAck && decide (s.fAdm * (100 + s.margin) ≤ rateMax * 100),
   s.timeCandOk || s.ref.mdl.valid (secOf s.tod),
   masters,
   s.taskDouble 0 && s.taskDouble 4,
   roleLatch,
   decide (s.rehearseBias.natAbs ≤ s.stepLimit)]

/-- The pass mask. -/
def passMask (l : List Bool) : Nat := (List.range l.length).foldl (fun m k => m + (if l.getD k false then 2 ^ k else 0)) 0

/-- REHEARSAL_END. -/
def State.rehearsalEnd (s : State) (avsAck : Bool) (rateMax : Nat) (masters roleLatch : Bool) (ms : Nat) : State :=
  if !s.pair.rehearsing then s
  else
    let l := s.rehearseChecks avsAck rateMax masters roleLatch
    let mask := passMask l
    let first := ((List.range 8).find? (fun k => !(l.getD k false))).elim 0 (fun k => k + 1)
    let fails := ((s.inUse .flow).filter (fun i => s.flowFails i)).length
    let res := leBytes mask 1 ++ leBytes first 1 ++ leBytes 0 2 ++ leBytes fails 4 ++ leBytes (unsigned 32 (fracToPs s.rehearseBias)) 4 ++
      leBytes ms 4
    let s1 : State := { s with pair := { s.pair with rehearsing := false, rehearseCmd := none, rehearsal := res } }
    let s2 := s1.raise (if mask = 255 then Ev.pairRehearseDone else { Ev.pairRehearseDone with sev := 4 }) mask
    match s.pair.rehearseCmd with
    | some d => s2.complete d 0xCC01 .ok 0 res
    | none => s2

/-- PAIR_RESYNC: completes at RESYNC_END; in ISOLATED it waits for the Ommund path (log entry 34). -/
def State.pairResync (s : State) (d : CmdDesc) : State :=
  s.runCmd d 0xCC02 (s.pairChecks d 12 true (decide (s.pair.role = .primary))) (fun s =>
    if s.pair.role ≠ .standby ∨ (s.pair.st ≠ .synced ∧ s.pair.st ≠ .isolated) then s.complete d 0xCC02 .notReady
    else if s.pair.resyncCmd.isSome then s.complete d 0xCC02 .busy
    else
      let s1 : State := { s with pair := { s.pair with resyncCmd := some d } }
      if s.pair.st = .synced then s1.resyncStart else s1)

/-- PAIR_CB_SET (R374): the setting is mirrored to the standby. -/
def State.pairCbSet (s : State) (d : CmdDesc) : State :=
  let f := d.arg 12 2
  let v := d.arg 14 1
  s.runCmd d 0xCC03 (s.pairChecks d 15 true (decide (1024 ≤ f) || decide (2 < v) ||
      !((Tab.find s.fdb.cb f).any (fun x => x.type == 0)))) (fun s =>
    if s.pair.role = .standby then s.complete d 0xCC03 .notReady
    else if s.verBusy [.cb f] then s.complete d 0xCC03 .busy
    else match Tab.find s.fdb.cb f with
      | some x =>
        (((s.bumpVersion (.cb f)).setCb f { x with src := v }).pairDelta (.cb [⟨f, x.wrap, v⟩])).complete d 0xCC03 .ok
      | none => s.complete d 0xCC03 .badArg)

/-! ## Meanings -/

/-- OMD_LANE_UP (R366). -/
def execOmdLaneUp (lane : Nat) (s : State) : Host.Outcome State Fault Refusal :=
  effect (ommund lane) s (s.omdLaneUp lane)

/-- OMD_LANE_DOWN (R366). -/
def execOmdLaneDown (lane : Nat) (s : State) : Host.Outcome State Fault Refusal :=
  effect (ommund lane) s (s.omdLaneDown lane)

/-- OMD_FRAME_BAD (R367). -/
def execOmdFrameBad (s : State) : Host.Outcome State Fault Refusal :=
  effect true s (s.omdFrameBad)

/-- OMD_RETRANSMIT (R368). -/
def execOmdRetransmit (seq : Nat) (s : State) : Host.Outcome State Fault Refusal :=
  effect true s (s.omdRetransmit seq)

/-- HEARTBEAT (R369). -/
def execHeartbeat (hb : HbPayload) (s : State) : Host.Outcome State Fault Refusal :=
  effect true s (s.heartbeat hb)

/-- INB_HEARTBEAT_RX (R370). -/
def execInbHeartbeatRx (port : Nat) (hb : HbPayload) (s : State) : Host.Outcome State Fault Refusal :=
  effect (lanePort port) s (s.inbHeartbeatRx port hb)

/-- PAIR_HB_SEND (R369). -/
def execPairHbSend (s : State) : Host.Outcome State Fault Refusal :=
  effect true s (s.pairHbSend)

/-- PAIR_HB_MISS_CHECK (R369). -/
def execPairHbMissCheck (s : State) : Host.Outcome State Fault Refusal :=
  effect true s (s.pairHbMissCheck)

/-- TIME (R378). -/
def execTime (x : TimeExch) (s : State) : Host.Outcome State Fault Refusal :=
  effect (decide (x.tx < 2 ^ 96) && x.echo.all (fun e => decide (e.1 < 2 ^ 96) && decide (e.2 < 2 ^ 96))) s (s.pairTime x.tx x.echo)

/-- PAIR_TIME_SEND (R366). -/
def execPairTimeSend (s : State) : Host.Outcome State Fault Refusal :=
  effect true s (s.pairTimeSend)

/-- FDB_DELTA (R376). -/
def execFdbDelta (hdr : OmdHdr) (recs : List FdbRec) (s : State) : Host.Outcome State Fault Refusal :=
  effect true s (s.omdSeq hdr (.fdb recs))

/-- FLOW_DELTA (R377). -/
def execFlowDelta (hdr : OmdHdr) (recs : List FlowRec) (s : State) : Host.Outcome State Fault Refusal :=
  effect true s (s.omdSeq hdr (.flow recs))

/-- TIME_STATE (R375). -/
def execTimeState (hdr : OmdHdr) (ts : TimeStateRec) (s : State) : Host.Outcome State Fault Refusal :=
  effect true s (s.omdSeq hdr (.timeState ts))

/-- CB_STATE (R374). -/
def execCbState (hdr : OmdHdr) (recs : List CbRec) (s : State) : Host.Outcome State Fault Refusal :=
  effect true s (s.omdSeq hdr (.cb recs))

/-- RESYNC_BEGIN (R383). -/
def execResyncBegin (hdr : OmdHdr) (snapshot : Nat) (s : State) : Host.Outcome State Fault Refusal :=
  effect true s (s.omdSeq hdr (.begin snapshot))

/-- RESYNC_DATA (R383). -/
def execResyncData (hdr : OmdHdr) (fdb : List FdbRec) (flows : List FlowRec) (time : Option TimeStateRec) (cb : List CbRec)
    (s : State) : Host.Outcome State Fault Refusal :=
  effect true s (s.omdSeq hdr (.data fdb flows time cb))

/-- RESYNC_END (R383). -/
def execResyncEnd (hdr : OmdHdr) (records : Nat) (s : State) : Host.Outcome State Fault Refusal :=
  effect true s (s.omdSeq hdr (.done records))

/-- ROLE (R382). -/
def execRole (hdr : OmdHdr) (sec : Nat) (s : State) : Host.Outcome State Fault Refusal :=
  effect true s (s.omdSeq hdr (.role sec))

/-- PAIR_STATE_SEND (R375). -/
def execPairStateSend (s : State) : Host.Outcome State Fault Refusal :=
  effect true s (s.pairStateSend)

/-- PAIR_SEARCH_TIMEOUT (R371). -/
def execPairSearchTimeout (s : State) : Host.Outcome State Fault Refusal :=
  effect true s (s.pairSearchTimeout)

/-- PAIR_FLOW_TIMEOUT (R377). -/
def execPairFlowTimeout (s : State) : Host.Outcome State Fault Refusal :=
  effect true s (s.pairFlowTimeout)

/-- MIRROR_DELTA_AGE (R384). -/
def execMirrorDeltaAge (s : State) : Host.Outcome State Fault Refusal :=
  effect true s (s.mirrorDeltaAge)

/-- PAIR_REHEARSE (R385). -/
def execPairRehearse (d : CmdDesc) (s : State) : Host.Outcome State Fault Refusal :=
  effect (d.wf) s (s.pairRehearse d)

/-- REHEARSAL_END (R385). -/
def execRehearsalEnd (avsAck : Bool) (rateMax : Nat) (masters roleLatch : Bool) (ms : Nat)
    (s : State) : Host.Outcome State Fault Refusal :=
  effect true s (s.rehearsalEnd avsAck rateMax masters roleLatch ms)

/-- PAIR_REHEARSE_TIMER (R385). -/
def execPairRehearseTimer (s : State) : Host.Outcome State Fault Refusal :=
  effect true s (s.pairRehearseTimer)

/-- PAIR_RESYNC (R388). -/
def execPairResync (d : CmdDesc) (s : State) : Host.Outcome State Fault Refusal :=
  effect (d.wf) s (s.pairResync d)

/-- PAIR_CB_SET (R374). -/
def execPairCbSet (d : CmdDesc) (s : State) : Host.Outcome State Fault Refusal :=
  effect (d.wf) s (s.pairCbSet d)

end Sys2Proof.Machine
end

