-- ==== Sys2Proof/Machine/Hif.lean ====
section
/-! DEFINITION. The host interface (chapter 3): rings and doorbells, transmit and receive descriptors, interrupts, disable, errors and
the function-level reset. -/

set_option Elab.async false

namespace Sys2Proof.Machine

/-! ## Ring registers (R55 to R57, R79 to R81) -/

/-- The address of a register of ring `n`. -/
def ringAddr (r : RegName) (n : Nat) : Nat := RegKey.addr ⟨r, n, 0⟩

/-- A ring enters ERROR, where its EN reads 1 (R80). -/
def State.ringErr (s : State) (n cause : Nat) : State :=
  ((s.putBoth Fld.hifRingCtrl_EN 1 n).setRing n { s.ring n with state := .error, errCause := cause }).raise Ev.hifRingErr n cause

/-- A ring from 48 on to 55 is a completion ring. -/
def cplRingNo (n : Nat) : Bool := decide (48 ≤ n) && decide (n < 56)

/-- The index rule of R59 for a new index. -/
def State.indexOk (s : State) (n i : Nat) : Bool :=
  let r := s.ring n
  if cplRingNo n then decide ((i + 65536 - r.cidx) % 65536 ≤ r.count)
  else decide ((i + 65536 - r.cidx) % 65536 ≤ s.ringSize n) && decide ((i + 65536 - r.pidx) % 65536 ≤ s.ringSize n)

/-- The host releases the slots of a completion ring up to `i`; source rings bound to it need wait no longer. -/
def State.releaseTo (s : State) (n i : Nat) : State :=
  let r := s.ring n
  let s1 := s.setRing n { r with cidx := i, slots := r.slots.drop ((i + 65536 - r.cidx) % 65536) }
  if 0 < s1.freeSlots n then
    ((List.range 64).filter (fun k => !(cplRingNo k) && (s1.ring k).cplWait && s1.cplRing k == n)).foldl
      (fun s k => s.setRing k { s.ring k with cplWait := false }) s1
  else s1

/-- A doorbell's INDEX takes effect, or breaks the rule; one that arms a completion ring then sends the message at once when slots are
waiting to be read (R59, R76). -/
def State.takeIndex (s : State) (n i : Nat) (arm : Bool) : State :=
  if !(s.indexOk n i) then s.ringErr n 1
  else if cplRingNo n then
    let s1 := s.releaseTo n i
    if !arm then s1
    else
      let s2 := s1.setRing n { s1.ring n with armed := true }
      if (s2.ring n).pidx ≠ (s2.ring n).cidx then { s2 with hif := s2.ringMessage n s2.hif } else s2
  else s.setRing n { s.ring n with pidx := i }

/-- EN = 1 on a DISABLED ring (R56); a doorbell stored before takes effect. -/
def State.ringStart (s : State) (n : Nat) : State :=
  let l := s.ap Fld.hifRingSize_LOG2 n
  if !s.hif.busMaster then s.ringErr n 6
  else if l < 6 ∨ 15 < l then s.ringErr n 4
  else if !(cplRingNo n) && decide ((s.ring (s.cplRing n)).state ≠ .run) then s.ringErr n 5
  else
    let s1 := s.setRing n { s.ring n with state := .run, dbStored := none, cplWait := false }
    match (s.ring n).dbStored with
    | some (i, arm) => s1.takeIndex n i arm
    | none => s1

/-- An enabled ring names the completion ring (R57).  Every ring that is not DISABLED counts as enabled: DESIGN CHOICE, log entry 97. -/
def State.cplInUse (s : State) (n : Nat) : Bool :=
  cplRingNo n && (List.range 64).any (fun k => !(cplRingNo k) && decide ((s.ring k).state ≠ .disabled) && s.cplRing k == n)

/-! ## Fetched descriptors -/

/-- FLAGS of a transmit descriptor (Table HIF-9a). -/
def Fetched.txFlags (f : Fetched) : Nat := leAt f.raw 10 2

/-- The descriptors at the head of a transmit ring that form a frame: up to the first EOF; sixteen without one are malformed. -/
def txGroup (l : List Fetched) : Option (List Fetched) :=
  let g := l.takeWhile (fun f => !(bitAt f.txFlags 1))
  match l[g.length]? with
  | some e => some (g ++ [e])
  | none => if 16 ≤ l.length then some l else none

/-- The next descriptor of a transmit ring begins a frame: nothing is fetched before it, or an EOF. -/
def Ring.frameStarts (r : Ring) : Bool := (r.fetched.getLast?).elim true (fun f => bitAt f.txFlags 1)

/-- Bytes of a frame with FCS. -/
def txLen (g : List Fetched) : Nat :=
  let n := (g.map (fun f => leAt f.raw 8 2)).sum
  if bitAt ((g.headD { raw := [], ext := [] }).txFlags) 2 then max 60 n + 4 else n

/-- The FLOW field names a flow that is ACTIVE (R68, R90, Table HDL-5). -/
def State.txFlowOk (s : State) (h : Word) : Bool :=
  !(s.stale .flow h) && decide ((s.obj .flow (hIndex h)).phase = .active)

/-- What is wrong with the descriptors of a frame before its FCS is known, in the order of Table HDL-4 (R5, R64, R67, R68, R90, R218):
an absent port, a malformed descriptor, a stale flow, an inactive port or a flow of other ports. -/
def State.txStatus (s : State) (g : List Fetched) : Status :=
  let f := g.headD { raw := [], ext := [] }
  let fl := f.txFlags
  let port := leAt f.raw 12 2
  let q := byteAt f.raw 14
  let h := BitVec.ofNat 32 (leAt f.raw 16 4)
  let lookup := decide (port = 0xFFFF)
  let bad := g.any (fun x => decide (leAt x.raw 8 2 = 0) || decide (10240 < leAt x.raw 8 2) || decide (64 ≤ x.txFlags) ||
    decide (16 ≤ byteAt x.raw 14) || decide (leAt x.raw 24 8 ≠ 0))
  if port < 96 ∧ !(s.portExists port) then .unsupported
  else if bad || !(bitAt fl 0) || (g.tail.any (fun x => bitAt x.txFlags 0)) || !(g.any (fun x => bitAt x.txFlags 1)) ||
      decide (txLen g < 64) || decide (10240 < txLen g) || (lookup && (bitAt fl 3 || bitAt fl 4)) || (!lookup && decide (95 < port)) ||
      (bitAt q 3 && decide (h = 0)) || (decide (h ≠ 0) && (decide (hType h ≠ 1) || decide (16384 ≤ hIndex h))) then .badArg
  else if h ≠ 0 ∧ !(s.txFlowOk h) then .handleStale
  else if !lookup && s.portInactive port then .badArg
  else if h ≠ 0 ∧ ((s.flowArgs (hIndex h)).inp ≠ 96 ∨ (!lookup ∧ (s.flowArgs (hIndex h)).out ≠ port)) then .badArg
  else .ok

/-! ## Frames from the host -/

/-- Number of IEEE 802.1Q tags at `n`, at most two. -/
def tagsAt (l : List Byte) (n : Nat) : Nat :=
  if beAt l n 2 = 0x8100 then (if beAt l (n + 4) 2 = 0x8100 then 2 else 1) else 0

/-- The header of a frame of the host, as the parser reads it from the frame's bytes; `ptpOff` is the PTP header's offset where the
descriptor gives one. -/
def hdrOf (l : List Byte) (len : Nat) (ptpOff : Option Nat) : FrameHdr :=
  let tags := tagsAt l 12
  let o := 12 + 4 * tags
  let r := decide (beAt l o 2 = 0xF1C1)
  let o := if r then o + 6 else o
  let et := beAt l o 2
  let pl := o + 2
  let ip := if et = 0x0800 then 4 else if et = 0x86DD then 6 else 0
  let l4 := if ip = 4 then pl + 4 * (byteAt l pl % 16) else pl + 40
  let proto := if ip = 4 then byteAt l (pl + 9) else if ip = 6 then byteAt l (pl + 6) else 0
  let udp := proto == 17
  let ports := udp || proto == 6
  let body := if udp then l4 + 8 else pl
  let pt := ptpOff.getD body
  { dst := beAt l 0 6, src := beAt l 6 6, tci := if tags = 0 then none else some (beAt l 14 2), tags := tags, etype := et, ip := ip
    ipSrc := if ip = 4 then beAt l (pl + 12) 4 else if ip = 6 then beAt l (pl + 8) 16 else 0
    ipDst := if ip = 4 then beAt l (pl + 16) 4 else if ip = 6 then beAt l (pl + 24) 16 else 0
    ipProto := proto, l4Src := if ports then beAt l l4 2 else 0, l4Dst := if ports then beAt l (l4 + 2) 2 else 0
    udpDst := if udp then beAt l (l4 + 2) 2 else 0
    ecpriRev := byteAt l body / 16, ecpriType := byteAt l (body + 1), pcId := beAt l (body + 4) 2, seqId := byteAt l (body + 6)
    ptpDomain := byteAt l (pt + 4), ptpType := byteAt l pt % 16, ptpTwoStep := bitAt (byteAt l (pt + 6)) 1
    ptpSource := beAt l (pt + 20) 10, ptpCorr := signed 64 (beAt l (pt + 8) 8)
    rtag := if r then some (beAt l (o - 2) 2) else none, len := len
    hint := if ip = 4 then some (.ipv4 (beAt l (pl + 2) 2), pl) else if ip = 6 then some (.ipv6 (beAt l (pl + 4) 2), pl)
            else if et = 0xAEFE then some (.ecpri (beAt l (pl + 2) 2), pl) else if et < 1536 then some (.len8023 et, pl) else none }

/-- A frame of the host appears as ingress on port 96: sent to its port without lookup, or to be looked up (R64); answers its number. -/
def State.txFrame (s : State) (n : Nat) (g : List Fetched) : State × Nat :=
  let f := g.headD { raw := [], ext := [] }
  let fl := f.txFlags
  let port := leAt f.raw 12 2
  let q := byteAt f.raw 14
  let h := BitVec.ofNat 32 (leAt f.raw 16 4)
  let bytes := (g.map (fun x => x.ext.take (leAt x.raw 8 2))).flatten
  let hdr := hdrOf bytes (txLen g) (if bitAt fl 4 then some (2 * byteAt f.raw 15) else none)
  let k := s.fab.nextFrame
  let lookup := decide (port = 0xFFFF)
  let flow := if bitAt q 3 then some (hIndex h) else none
  let fr : Frame := { port := 96, h := hdr, tod := s.tod, stepSum := s.fab.stepSum, decided := !lookup, tc := q % 8, hostTc := some (q % 8)
                      sched := flow, takenAt := s.clk.now, fcsIns := bitAt fl 2
                      uses := if lookup then [] else s.withVersions (s.mirrors.map EntryKey.mir) }
  let s1 : State := { s with fab := { s.fab with frames := Tab.set s.fab.frames k fr, nextFrame := k + 1 } }
  let ts : Option TsReq := if bitAt fl 3 then some ⟨n, leAt f.raw 20 4, f.cpl⟩ else none
  let c : Copy := { frame := k, port := port, q := if bitAt q 3 then 8 else q % 8, len := txLen g, elig := s.clk.now, tag := hdr.tci
                    flow := flow, tsReq := ts, oneStep := bitAt fl 4 }
  if lookup then (s1, k)
  else if s.lookupDown port && !(bitAt q 3 && s.sqTakes port) then
    (((s1.bump Fld.portDownDisc_VAL port).tsLost c 1).mirrorFrame k (q % 8) none, k)
  else ((s1.addCopy c).mirrorFrame k (q % 8) none, k)

/-! ## Taking descriptors (R61, R62, R65, R69, R84) -/

/-- A receive buffer descriptor that the part cannot use (R69). -/
def rxBad (raw : List Byte) : Bool :=
  decide (leAt raw 0 8 % 64 ≠ 0) || decide (leAt raw 8 2 < 1024) || decide (16320 < leAt raw 8 2) || decide (leAt raw 8 2 % 64 ≠ 0) ||
  decide (leAt raw 10 6 ≠ 0) || decide (leAt raw 20 12 ≠ 0)

/-- `k` descriptors of a ring are finished. -/
def State.advance (s : State) (n k : Nat) : State := s.setRing n { s.ring n with cidx := ((s.ring n).cidx + k) % 65536 }

/-- The receive completion of one buffer. -/
def State.rxCpl (s : State) (n : Nat) (f : Fetched) (st : Status) (ts : Ts48) (reason port len tci cls flags flow : Nat) : State :=
  let s1 := s.advance n 1
  s1.slotUse n f.cpl (.rx n st (leAt f.raw 16 4) ts reason port len tci cls flags flow (s1.ring n).cidx)

/-- Completion slots that a descriptor needs (R62); a transmit frame's are those of its first descriptor. -/
def Ring.need (r : Ring) (n : Nat) (f : Fetched) : Nat :=
  if n < 24 then (if r.frameStarts then b2n (bitAt f.txFlags 5) + b2n (bitAt f.txFlags 3) else 0) else 1

/-- Transmit rings stop for want of buffers (R74). -/
def State.txStopped (s : State) : Bool := (s.req 96).quota || (s.req 96).empty

/-! Deficit round robin of the transmit rings (R74; log entry 98). -/

/-- A transmit ring has a descriptor that it can take. -/
def State.txReady (s : State) (n : Nat) : Bool :=
  let r := s.ring n
  decide (r.state = .run) && decide (r.fetched.length < min r.count 16) && !r.cplWait

/-- The turn passes to the next transmit ring, which gains its quantum; a ring without descriptors loses what it had left. -/
def State.txPass (s : State) : State :=
  let n := s.hif.txTurn
  let m := (n + 1) % 24
  let s1 := if s.txReady n then s else s.setRing n { s.ring n with deficit := 0 }
  let s2 := s1.setRing m { s1.ring m with deficit := (s1.ring m).deficit + 1024 * max 1 (s1.ap Fld.hifRingCtrl_WEIGHT m) }
  { s2 with hif := { s2.hif with txTurn := m } }

/-- Ring `n` may take `len` bytes: the turn has come round to it and its deficit covers them; the turn stops at any other ring with a
descriptor to take.  At most `k` passes. -/
def State.txTurnGo (s : State) (n len : Nat) : Nat → State × Bool
  | 0 => (s, false)
  | k + 1 =>
    let t := s.hif.txTurn
    if t = n ∧ len ≤ (s.ring n).deficit then (s.setRing n { s.ring n with deficit := (s.ring n).deficit - len }, true)
    else if t ≠ n ∧ s.txReady t then (s, false)
    else s.txPass.txTurnGo n len k

/-- The turn of the rings for a descriptor: transmit rings by deficit round robin, others at any time. -/
def State.takeTurn (s : State) (n : Nat) (f : Fetched) : State × Bool :=
  if n < 24 then s.txTurnGo n (min 10240 (leAt f.raw 8 2)) 300 else (s, true)

/-- A transmit descriptor has been fetched; with EOF its frame, unless it is refused, appears as ingress on port 96. -/
def State.txTaken (s : State) (n : Nat) (f : Fetched) : State :=
  let l := (s.ring n).fetched
  let g := ((l.reverse.tail.takeWhile (fun x => !(bitAt x.txFlags 1))).reverse) ++ [f]
  if !(bitAt f.txFlags 1) ∨ s.txStatus g ≠ .ok then s
  else
    let t := s.txFrame n g
    t.1.setRing n { t.1.ring n with fetched := l.dropLast ++ [{ f with frame := some t.2 }] }

/-- A fetched receive descriptor that the part cannot use is returned at once (R69). -/
def State.rxTaken (s : State) (n : Nat) (f : Fetched) : State :=
  if rxBad f.raw then (s.setRing n { s.ring n with fetched := (s.ring n).fetched.dropLast }).rxCpl n f .badArg {} 0 0 0 0 0 0 0 else s

/-- DESC_TAKE (R61, R62, R74). -/
def State.descTake (s : State) (n : Nat) (raw ext : List Byte) : State :=
  let r := s.ring n
  let m := s.cplRing n
  let k := r.need n { raw := raw, ext := ext }
  let f : Fetched := { raw := raw, ext := ext, slots := k, cpl := m }
  if r.state ≠ .run ∨ r.count ≤ r.fetched.length ∨ 16 ≤ r.fetched.length ∨ (n < 24 ∧ s.txStopped) then s
  else if 0 < k ∧ ((s.ring m).state ≠ .run ∨ s.freeSlots m < k) then s.setRing n { r with cplWait := true }
  else
    let u := (s.setRing n { r with cplWait := false }).takeTurn n f
    if !u.2 then u.1
    else
      let s1 := u.1.setRing n { u.1.ring n with fetched := r.fetched ++ [f] }
      let s2 := s1.setRing m { s1.ring m with reserved := (s1.ring m).reserved + k }
      if n < 24 then s2.txTaken n f else if n < 48 then s2.rxTaken n f else s2.unlistedGo n 16

/-! ## Transmit completions (R67, R68) -/

/-- The frame of a group is in packet memory whole: its last word is written (R14), or it has left the part. -/
def State.inMemory (s : State) (f : Nat) : Bool := (s.frame? f).elim true (fun x => x.eligible || x.drop)

/-- The descriptors at the head of a transmit ring end with a status; a refused frame is not sent, and the slot of its timestamp
record is given back. -/
def State.txEnd (s : State) (n : Nat) (g : List Fetched) (st : Status) : State :=
  let f := g.headD { raw := [], ext := [] }
  let e := g.getLastD f
  let s1 := if st = .ok then s else match e.frame with
    | some k => ((s.copiesOf k).foldl (fun s c => match s.copy? c with
        | some x => s.setCopy c { x with tsReq := none }
        | none => s) s).dropFrame k |>.afterFree
    | none => s
  let r := s1.ring n
  let s2 := (s1.setRing n { r with fetched := r.fetched.drop g.length }).advance n g.length
  let s3 := if bitAt f.txFlags 3 && decide (st ≠ .ok) then s2.setRing f.cpl { s2.ring f.cpl with reserved := (s2.ring f.cpl).reserved - 1 }
    else s2
  if bitAt f.txFlags 5 then s3.slotUse n f.cpl (.tx n st (leAt e.raw 20 4) (s3.ring n).cidx) else s3

/-- The status with which a group ends, once its frame is in packet memory or refused; none while it is being copied. -/
def State.txResult (s : State) (g : List Fetched) : Option Status :=
  let e := g.getLastD { raw := [], ext := [] }
  match e.frame with
  | none => some (if s.txStatus g = .ok then .badArg else s.txStatus g)
  | some k => if e.fcsBad then some .badArg else if s.inMemory k then some .ok else none

/-- TX_COMPLETION. -/
def State.txCompletion (s : State) (n : Nat) : State :=
  match txGroup (s.ring n).fetched with
  | none => s
  | some g => match s.txResult g with
    | none => s
    | some st => s.txEnd n g st

/-- The frame of `k` descriptors at the head of a transmit ring completes; no other frame does (R67). -/
def State.txFrameDone (s : State) (n k : Nat) : State :=
  if (txGroup (s.ring n).fetched).any (fun g => decide (g.length = k)) then s.txCompletion n else s

/-! ## Receive (R69, R71, R72) -/

/-- The fields of a frame over which its steering hash is taken (R71): MAC addresses and VLAN; addresses, protocol and ports of IP. -/
def FrameHdr.hashed (h : FrameHdr) : List Nat :=
  [h.dst, h.src, h.tci.elim 4096 (fun t => t % 4096)] ++ (if h.ip = 0 then [] else [h.ipSrc, h.ipDst, h.ipProto, h.l4Src, h.l4Dst])

/-- The ring that a copy for the host is steered to: REASON, class and the hash (R71).  A BASE of 24 to 31 selects ring 47: DESIGN
CHOICE, log entry 99. -/
def State.rxRing (s : State) (reason tc hash : Nat) : Nat :=
  let grp := if 16 ≤ reason then 3 else min 2 reason
  let i := 32 * s.ap Fld.hifGlbCtrl_RX_BANK + grp * 8 + tc
  let base := s.ap Fld.hifRxMap_BASE i
  let n := 2 ^ s.ap Fld.hifRxMap_SPREAD i
  if 23 < base + n - 1 then min 47 (24 + base) else 24 + base + hash % n

/-- The buffers that a frame fills, in order, with the bytes in each. -/
def rxFill : List Fetched → Nat → List (Fetched × Nat)
  | [], _ => []
  | f :: l, len => if len = 0 then [] else
      let k := min len (leAt f.raw 8 2)
      (f, k) :: rxFill l (len - k)

/-- One receive completion per buffer. -/
def State.rxWrite (s : State) (n : Nat) (fr : Frame) (x : Copy) (l : List (Fetched × Nat)) : State :=
  let last := l.length - 1
  let kind := s.frameKind fr.port fr.h
  let flow := fr.flow.elim 0 (fun i => (s.handleOf .flow i).toNat)
  (l.zipIdx).foldl (fun s e =>
    let ts : Ts48 := if e.2 = 0 then fr.ts else {}
    let flags := b2n (e.2 == 0) + 2 * b2n (e.2 == last) + 4 * b2n fr.h.tci.isSome
    s.rxCpl n e.1.1 .ok ts x.reason fr.port e.1.2 (fr.h.tci.getD 0) (if kind = 6 then 0 else kind) flags flow) s

/-- RX_HOST_DELIVER: into posted buffers, else the frame waits; a frame whose ring is not in RUN falls back or is discarded.  An RX_FB of
24 to 31 selects ring 47: DESIGN CHOICE, log entry 99. -/
def State.rxHostDeliver (s : State) (f : Nat) : State :=
  match s.frame? f, (s.copiesOf f).find? (fun c => (s.copy? c).any (fun x => decide (x.st = .host))) with
  | some fr, some c =>
    match s.copy? c with
    | none => s
    | some x =>
      if !s.hif.linkUp then s
      else
        let n0 := s.rxRing x.reason (min 7 (if x.q = 8 then fr.tc else x.q)) (Config.rxHash fr.h.hashed).toNat
        let fb := 24 + min 23 (s.ap Fld.hifGlbCtrl_RX_FB)
        let n := if (s.ring n0).state ≠ .run ∧ s.apB Fld.hifGlbCtrl_RX_FB_EN ∧ (s.ring fb).state = .run then fb else n0
        if (s.ring n).state ≠ .run then ((s.bump Fld.hifRxDisc_VAL).removeCopy c).afterFree
        else
          let l := rxFill (s.ring n).fetched x.len
          if (l.map (fun e => e.2)).sum < x.len then s
          else
            let r := s.ring n
            let s1 := (s.setRing n { r with fetched := r.fetched.drop l.length }).rxWrite n fr x l
            s1.setCopy c { x with st := .sent, tsReq := none }
  | _, _ => s

/-- The first copy of a frame that waits for the host. -/
def State.hostCopy (s : State) (f : Nat) : Option Nat :=
  (s.copiesOf f).find? (fun c => (s.copy? c).any (fun x => decide (x.st = .host)))

/-- Copies of one frame for the host are delivered in their order. -/
def State.rxHostCopy (s : State) (f c : Nat) : State := if s.hostCopy f = some c then s.rxHostDeliver f else s

/-! ## Disable, errors, reset (R79 to R83) -/

/-- The frames of a transmit ring that are not whole in packet memory are aborted; the others have left the ring (R79).  At most `k`
groups. -/
def State.txAbort (s : State) (n : Nat) : Nat → State × Nat
  | 0 => (s, 0)
  | k + 1 =>
    let l := (s.ring n).fetched
    if l = [] then (s, 0)
    else
      let g := (txGroup l).getD l
      let whole := (g.getLast?).any (fun e => !e.fcsBad && e.frame.any (fun f => s.inMemory f))
      let t := (s.txEnd n g (if whole then .ok else .drainedAbort)).txAbort n k
      (t.1, t.2 + if whole then 0 else g.length)

/-- Fetched descriptors that have not finished are aborted: unstarted commands, receive buffers, transmit frames (R79). -/
def State.ringAbort (s : State) (n : Nat) : State :=
  let l := (s.ring n).fetched
  let t : State × Nat :=
    if n < 24 then s.txAbort n 16
    else if n < 48 then
      (l.foldl (fun s f => (s.setRing n { s.ring n with fetched := (s.ring n).fetched.tail }).rxCpl n f .drainedAbort {} 0 0 0 0 0 0 0) s,
       l.length)
    else
      let u := l.filter (fun f => !f.started)
      (u.foldl (fun s f => s.cplPut n f (f.plainCpl n .drainedAbort)) s, u.length)
  t.1.setRing n { t.1.ring n with aborting := (t.1.ring n).aborting + t.2 }

/-- RING_DRAIN_LIMIT: in ERROR the aborted descriptors are counted at once. -/
def State.ringDrainLimit (s : State) (n : Nat) : State :=
  match (s.ring n).state with
  | .draining => s.ringAbort n
  | .error =>
    let t := s.ringAbort n
    (t.setRing n { t.ring n with aborting := 0 }).bump Fld.hifRingAborted_VAL n (t.ring n).aborting
  | _ => s

/-- RING_DRAIN_END: nothing fetched is left. -/
def State.ringDrainEnd (s : State) (n : Nat) : State :=
  let r := s.ring n
  if r.state ≠ .draining ∨ r.fetched ≠ [] then s
  else
    let k := r.aborting
    ((s.setRing n { r with state := .disabled, aborting := 0, disStatus := if k = 0 then .ok else .drainedAbort }).bump
      Fld.hifRingAborted_VAL n k).raise Ev.hifRingStopped n k r.cidx

/-- EN = 0 (R57, R79, R80). -/
def State.ringStop (s : State) (n : Nat) : State :=
  if s.cplInUse n ∧ (s.ring n).state ≠ .disabled then s.raise Ev.hifCfgBusy (ringAddr .hifRingCtrl n)
  else match (s.ring n).state with
  | .run => (s.putBoth Fld.hifRingCtrl_EN 0 n).setRing n { s.ring n with state := .draining, aborting := 0 }
  | .error =>
    let t := (s.ringDrainLimit n).putBoth Fld.hifRingCtrl_EN 0 n
    t.setRing n { t.ring n with state := .disabled }
  | _ => s

/-- RST (R81); a doorbell stored before it goes with the index: DESIGN CHOICE, log entry 100. -/
def State.ringRst (s : State) (n : Nat) : State :=
  if (s.ring n).state = .disabled then
    s.setRing n { s.ring n with pidx := 0, cidx := 0, phase := true, armed := false, errCause := 0, dbStored := none, slots := [], sinceMsg := 0
                                timer := false, deficit := 0 }
  else s.raise Ev.hifCfgBusy (ringAddr .hifRingCtrl n)

/-- A write of the bits `m` of HIF_RING_CTRL (R55 to R57, R79 to R81). -/
def State.ringCtrlWrite (s : State) (n : Nat) (v m : Word) : State :=
  let k : RegKey := ⟨.hifRingCtrl, n, 0⟩
  let other : Word := (k.storedMask &&& ~~~ 1) &&& m
  let down := decide ((s.ring n).state = .disabled)
  let same := decide ((s.written k ^^^ v) &&& other = 0)
  let s1 := if down then s.storeReg k v other
            else if same then { s with regs := s.regs.wordWritten k }
            else s.raise Ev.hifCfgBusy k.addr
  let s2 := if bitAt (v &&& m).toNat 1 then s1.ringRst n else s1
  if !(bitAt m.toNat 0) then s2
  else if bitAt v.toNat 0 then
    match (s2.ring n).state with
    | .disabled => (s2.putBoth Fld.hifRingCtrl_EN 1 n).ringStart n
    | .draining => s2.raise Ev.hifCfgBusy k.addr
    | _ => s2
  else s2.ringStop n

/-- A write of the bits `m` of the base or size of a ring (R55). -/
def State.ringBaseWrite (s : State) (k : RegKey) (v m : Word) : State :=
  if (s.ring k.i).state = .disabled then s.storeReg k v m else s.raise Ev.hifCfgBusy k.addr

/-- A doorbell (R58, R59, R76). -/
def State.doorbell (s : State) (n off : Nat) (be : BitVec 4) (v : Word) : State :=
  let r := s.ring n
  let i := fieldOf v 0 16
  if off ≠ 0 ∨ be ≠ 0xF ∨ r.state = .error then s.bump Fld.hifDbBad_VAL
  else if r.state = .disabled then s.setRing n { r with dbStored := some (i, bitAt v.toNat 31) }
  else s.takeIndex n i (bitAt v.toNat 31)

/-- INT_TIMER_EXPIRE. -/
def State.intTimerExpire (s : State) (n : Nat) : State :=
  let r := s.ring n
  if r.armed && r.timer then { s with hif := s.ringMessage n s.hif } else s

/-- MSIX_UNMASK. -/
def State.msixUnmask (s : State) (v : Nat) : State :=
  let h : HifState := { s.hif with unmasked := insertAsc v s.hif.unmasked, pba := s.hif.pba.filter (fun x => x != v) }
  { s with hif := if s.hif.pba.contains v then h.sendVec v else h }

/-- DMA_ERROR. -/
def State.dmaError (s : State) (n : Nat) (write : Bool) : State :=
  if (s.ring n).state = .run ∨ (s.ring n).state = .draining then s.ringErr n (if write then 3 else 2) else s

/-- BUS_MASTER_CLEAR (R83). -/
def State.busMasterClear (s : State) : State :=
  let s1 : State := { s with hif := { s.hif with busMaster := false } }
  ((List.range 64).filter (fun n => decide ((s.ring n).state ≠ .disabled))).foldl (fun s n => s.ringErr n 6) s1

/-- Frames of the host that are only partly in packet memory. -/
def State.partFrames (s : State) : List Nat :=
  (((List.range 24).map (fun n => (s.ring n).fetched.filterMap (fun f => f.frame))).flatten).filter (fun f => !(s.inMemory f))

/-- Copies for the host. -/
def State.hostCopies (s : State) : List Nat :=
  (s.fab.copies.filter (fun e => decide (e.2.port = 96) && decide (e.2.st ≠ .sent))).foldl (fun l e => insertAsc e.1 l) []

/-- Every ring is DISABLED at once, without drain or completions (R82, R397): partly copied frames are dropped, timestamp records are
not written any more. -/
def State.ringsKill (s : State) : State :=
  let s1 := s.partFrames.foldl (fun s f => s.dropFrame f) s
  let s2 : State := { s1 with fab := { s1.fab with copies := s1.fab.copies.map (fun e => (e.1, { e.2 with tsReq := none })) } }
  ({ s2 with hif := { s2.hif with rings := s2.hif.rings.map (fun e => (e.1, { e.2 with
      state := .disabled, fetched := [], reserved := 0, slots := [], aborting := 0, armed := false, timer := false, sinceMsg := 0
      cplWait := false, dbStored := none, deficit := 0 })) } } : State).afterFree

/-- A register of HIF. -/
def isHif (k : RegKey) : Bool := decide (k.name.row.block = .hif)

/-- FUNCTION_LEVEL_RESET and D3HOT_ENTRY (R82). -/
def State.functionReset (s : State) : State :=
  let s1 := s.ringsKill
  let l := s1.hostCopies
  let s2 := (l.foldl (fun s c => s.removeCopy c) s1).dropPending isHif
  let s3 : State := { s2 with
    regs := { s2.regs with
      written := s2.regs.written.filter (fun e => !(isHif e.1)), applied := s2.regs.applied.filter (fun e => !(isHif e.1)) }
    rc := s2.rc.filter (fun e => !(isHif e.1))
    hif := { s2.hif with rings := [], vecs := [], unmasked := [], pba := [], busMaster := false, txTurn := 0, cmdTurn := 0 } }
  (s3.bump Fld.hifRxDisc_VAL 0 l.length).afterFree

/-- PCIE_LINK_UP (R51, R73). -/
def State.pcieLinkUp (s : State) (gen width mps mrrs : Nat) (tag10 bme : Bool) : State :=
  if !(s.domOn 18) then s
  else
    let s1 : State := { s with hif := { s.hif with
      linkUp := true, gen := gen, width := width, mps := mps, mrrs := mrrs, tag10 := tag10, busMaster := bme } }
    s1.setReady Rdy.hif true

/-- PCIE_LINK_DOWN (R409, R151).  HIF_HOST_STAT reads GEN, WIDTH and RATE 0 while the link is down: DESIGN CHOICE, log entry 101. -/
def State.pcieLinkDown (s : State) : State :=
  ({ s with hif := { s.hif with linkUp := false, gen := 0, width := 0 } } : State).setReady Rdy.hif false

/-! ## The function's identity (Table HIF-1) -/

/-- Device ID and class code; Config.vendorId is Trelvon's Vendor ID. -/
def Variant.deviceId : Variant → Nat
  | .hd9648gx => 0x9648
  | .hd9648nx => 0x9649
  | .hd9632nx => 0x9632
def classCode : Nat := 0x020000

/-- Non-posted requests that may be outstanding. -/
def HifState.tagCount (h : HifState) : Nat := if h.tag10 then 512 else 256

/-! ## The bytes of a written descriptor (R66, Table HIF-9d) -/

/-- TSF. -/
def Ts48.tsf (t : Ts48) : Nat := b2n t.valid + 2 * b2n t.unlocked + 4 * b2n t.core

/-- TS48 in bytes 8 to 14. -/
def Ts48.bytes (t : Ts48) : List Byte := leBytes t.ns 4 ++ leBytes t.frac 2 ++ leBytes t.tsf 1

/-- TYPE, source ring and STATUS of the header, and the body from byte 4 on. -/
def CplBody.parts : CplBody → Nat × Nat × Nat × List Byte
  | .tx n st cookie cidx => (1, n, st.code, leBytes cookie 4 ++ leBytes cidx 2 ++ leBytes 0 22)
  | .txTs n st cookie ts outcome port =>
    (5, n, st.code, leBytes cookie 4 ++ ts.bytes ++ leBytes outcome 1 ++ leBytes port 2 ++ leBytes 0 14)
  | .rx n st cookie ts reason port len tci cls flags flow cidx =>
    (2, n, st.code, leBytes cookie 4 ++ ts.bytes ++ leBytes reason 1 ++ leBytes port 2 ++ leBytes len 2 ++ leBytes tci 2 ++ leBytes cls 1 ++
      leBytes flags 1 ++ leBytes flow 4 ++ leBytes cidx 2 ++ leBytes 0 2)
  | .cmd n st tag h op cidx res =>
    (3, n, st.code, leBytes tag.toNat 4 ++ leBytes h.toNat 4 ++ leBytes op 2 ++ leBytes cidx 2 ++ (res ++ List.replicate 16 0).take 16)
  | .evt code sev ts a0 a1 a2 seq =>
    (4, 0xFF, 0, leBytes code 2 ++ leBytes sev 1 ++ leBytes 0 1 ++ ts.bytes ++ leBytes 0 1 ++ leBytes a0 4 ++ leBytes a1 4 ++ leBytes a2 4 ++
      leBytes seq 2 ++ leBytes 0 2)

/-- The 32 bytes that a slot holds in host memory: TYPE, PHASE, source ring, STATUS, then the body. -/
def Slot.bytes (x : Slot) : List Byte :=
  let p := x.body.parts
  leBytes p.1 1 ++ leBytes (b2n x.phase) 1 ++ leBytes p.2.1 1 ++ leBytes p.2.2.1 1 ++ p.2.2.2

/-! ## Meanings -/

/-- PCIE_LINK_UP (R51, R73). -/
def execPcieLinkUp (gen width mps : Nat) (host : PcieHost) (s : State) : Host.Outcome State Fault Refusal :=
  effect (pcieLink gen width mps host.mrrs) s (s.pcieLinkUp gen width mps host.mrrs host.tag10 host.bme)

/-- PCIE_LINK_DOWN (R409). -/
def execPcieLinkDown (s : State) : Host.Outcome State Fault Refusal :=
  effect true s (s.pcieLinkDown)

/-- RING_DRAIN_LIMIT (R79). -/
def execRingDrainLimit (ring : Nat) (s : State) : Host.Outcome State Fault Refusal :=
  effect (ringNo ring) s (s.ringDrainLimit ring)

/-- RING_DRAIN_END (R79). -/
def execRingDrainEnd (ring : Nat) (s : State) : Host.Outcome State Fault Refusal :=
  effect (ringNo ring) s (s.ringDrainEnd ring)

/-- DOORBELL (R58, R59). -/
def execDoorbell (ring off : Nat) (be : BitVec 4) (val : Word) (s : State) : Host.Outcome State Fault Refusal :=
  effect (ringNo ring && decide (ring < 48 ∨ 56 ≤ ring)) s (s.doorbell ring off be val)

/-- CPL_DOORBELL (R58, R59, R76). -/
def execCplDoorbell (ring off : Nat) (be : BitVec 4) (val : Word) (s : State) : Host.Outcome State Fault Refusal :=
  effect (ringNo ring && decide (48 ≤ ring) && decide (ring < 56)) s (s.doorbell ring off be val)

/-- DESC_TAKE (R61, R62). -/
def execDescTake (ring : Nat) (raw ext : List Byte) (s : State) : Host.Outcome State Fault Refusal :=
  effect (ringNo ring && decide (raw.length = 32) && decide (ring < 48 ∨ 56 ≤ ring)) s (s.descTake ring raw ext)

/-- TX_COMPLETION (R67, R68). -/
def execTxCompletion (ring n : Nat) (s : State) : Host.Outcome State Fault Refusal :=
  effect (ringNo ring && decide (ring < 24)) s (s.txFrameDone ring n)

/-- RX_HOST_DELIVER (R69, R71, R72). -/
def execRxHostDeliver (frame copy : Nat) (s : State) : Host.Outcome State Fault Refusal :=
  effect true s (s.rxHostCopy frame copy)

/-- INT_TIMER_EXPIRE (R75). -/
def execIntTimerExpire (ring : Nat) (s : State) : Host.Outcome State Fault Refusal :=
  effect (ringNo ring && decide (48 ≤ ring) && decide (ring < 56)) s (s.intTimerExpire ring)

/-- MSIX_UNMASK (R76). -/
def execMsixUnmask (vec : Nat) (s : State) : Host.Outcome State Fault Refusal :=
  effect (msixVec vec) s (s.msixUnmask vec)

/-- DMA_ERROR (R80). -/
def execDmaError (ring : Nat) (write : Bool) (s : State) : Host.Outcome State Fault Refusal :=
  effect (ringNo ring) s (s.dmaError ring write)

/-- FUNCTION_LEVEL_RESET (R82). -/
def execFunctionLevelReset (s : State) : Host.Outcome State Fault Refusal :=
  effect true s (s.functionReset)

/-- D3HOT_ENTRY (R82). -/
def execD3hotEntry (s : State) : Host.Outcome State Fault Refusal :=
  effect true s (s.functionReset)

/-- BUS_MASTER_CLEAR (R83). -/
def execBusMasterClear (s : State) : Host.Outcome State Fault Refusal :=
  effect true s (s.busMasterClear)

end Sys2Proof.Machine
end

