-- ==== Sys2Proof/Machine/Evt.lean ====
section
/-! DEFINITION. The commands of EVT (chapter 19): the end of a suppression, and the clears of EVT_CTRL. -/

set_option Elab.async false

namespace Sys2Proof.Machine

/-- EVT_SUPPRESS_WINDOW (R417): the window passed without an occurrence; a suppression in force ends and is raised, itself never
suppressed. -/
def State.evtSuppressWindow (s : State) (code arg0 : Nat) : State :=
  match s.evt.sup.find? (fun r => r.code == code && r.arg0 == arg0) with
  | none => s
  | some r =>
    let s1 : State := { s with evt := { s.evt with sup := s.evt.sup.filter (fun x => !(x.code == code && x.arg0 == arg0)) } }
    if r.active then s1.emit Ev.evtSuppress (code % 2 ^ 32) (arg0 % 2 ^ 32) r.total else s1

/-- A write of the bits `v` of EVT_CTRL (R419, R420). -/
def State.evtCtrlWrite (s : State) (v : Nat) : State :=
  { s with evt := { s.evt with
      faultN := s.evt.faultN && !(bitAt v 0)
      first := if bitAt v 1 then none else s.evt.first
      log := if bitAt v 2 then [] else s.evt.log } }

/-! ## Meanings -/

/-- EVT_SUPPRESS_WINDOW (R417). -/
def execEvtSuppressWindow (code arg0 : Nat) (s : State) : Host.Outcome State Fault Refusal :=
  effect true s (s.evtSuppressWindow code arg0)

end Sys2Proof.Machine
end

