-- ==== Sys2Proof/Machine/Pwr.lean ====
section
/-! DEFINITION. Power states (chapter 18, R389 to R402): requests, entry with its abort points, forced sequences, wake. -/

set_option Elab.async false

namespace Sys2Proof.Machine

/-! ## Domains (Tables PWR-1 and PWR-2) -/

/-- The domain stands in Table PWR-1 and its unit is present (R389). -/
def State.domPresent (s : State) (d : Nat) : Bool :=
  (decide (d < 20) || (decide (32 ≤ d) && decide (d < 48)) || (decide (64 ≤ d) && decide (d < 96))) && !(s.domAbsent d)

/-- Every domain of the variant. -/
def State.allDoms (s : State) : List Nat := (List.range 96).filter (fun d => s.domPresent d)

/-- The domain is down in a power state, with the TRIM set `w` (Table PWR-2, R393). -/
def State.downIn (s : State) (tgt : Nat) (w : Word × Word) (d : Nat) : Bool :=
  if tgt = 0 then false
  else if 2 ≤ tgt then true
  else if d < 12 then bitAt w.1.toNat d
  else if d = 14 then bitAt w.1.toNat 12
  else if d = 15 then bitAt w.1.toNat 13
  else if 32 ≤ d ∧ d < 48 then bitAt w.1.toNat (d - 16)
  else if 64 ≤ d ∧ d < 96 then bitAt w.2.toNat (d - 64) && !(s.bankFw (d - 64))
  else false

/-- A power state holds the domain down. -/
def State.heldDown (s : State) (d : Nat) : Bool :=
  if d < 12 then s.pwr.downGroups.contains d && !(s.domOn d)
  else if 64 ≤ d then s.pwr.downBanks.contains (d - 64)
  else !(s.domOn d)

/-- The domain is down by a control of its own: a lane group in REMOVED, a SPAD bank (R390). -/
def State.ownDown (s : State) (d : Nat) : Bool :=
  if d < 12 then decide ((s.grp d).st = .removed) else if 64 ≤ d then decide ((s.bank (d - 64)).mode ≠ 0) else false

/-- A domain would have to power down, or to wake, for a power state. -/
def State.needsDown (s : State) (tgt : Nat) (w : Word × Word) : Bool :=
  s.allDoms.any (fun d => s.downIn tgt w d && !(s.heldDown d) && !(s.ownDown d))
def State.needsWake (s : State) (tgt : Nat) (w : Word × Word) : Bool := s.allDoms.any (fun d => !(s.downIn tgt w d) && s.heldDown d)

/-- OFF_SEL of the TRIM set in force. -/
def State.trimOff (s : State) (tgt : Nat) : Bool := decide (tgt = 1) && bitAt s.pwr.trim.1.toNat 14

/-! ## Step E4 -/

/-- A SPAD bank goes into a mode; off loses its contents (R391). -/
def State.setBankMode (s : State) (b m : Nat) : State :=
  { s with eng := { s.eng with
    banks := if m = 0 then Tab.erase s.eng.banks b else Tab.set s.eng.banks b { mode := m }
    spad := if m = 2 ∨ (s.bank b).mode = 2 then Memory.clear s.eng.spad (b * 262144) ((b + 1) * 262144) else s.eng.spad } }

/-- The mode that ENG_SPAD_PWR asks of a bank. -/
def State.bankWant (s : State) (b : Nat) : Nat := bankMode (s.stored ⟨.engSpadPwr, b / 16, 0⟩) (b % 16)

/-- An engine loses its image with its supply. -/
def State.engOff (s : State) (e : Nat) : State := (s.setEng e { s.engOf e with image := none }).goEng e .off

/-- The PAIR block goes into retention: heartbeats stop, and the role is kept for the wake (R401). -/
def State.pairDown (s : State) : State :=
  let s1 := if s.pair.lanes = 0 then s else s.setLanes 0
  if s1.pair.st = .off ∨ s1.pair.st = .search then s1
  else (({ s1 with pair := { s1.pair with omd := {}, inb := {} } } : State).goPair .alone)

/-- One domain leaves on at E4 or E5, with its pads latched (R394, R398, R401); `off` says that it goes off. -/
def State.domDown (s : State) (d : Nat) (off : Bool) : State :=
  match d with
  | 12 => (((s.setReady Rdy.fabric false).setReady Rdy.bpm false).setReady Rdy.fdb false).domSleep 12 false
  | 13 => s.domSleep 13 false
  | 14 => ((s.gnssDown off).domSleep 14 off).padHold 12 true
  | 15 => (((s.ticDown).setReady Rdy.tic false).domSleep 15 off).padHold 13 true
  | 16 => (((s.pllOff 1).pllOff 2).domSleep 16 true).padHold 14 true
  | 17 => (s.pllOff 3).domSleep 17 false
  | 18 => ((s.pcieLinkDown).domSleep 18 false).padHold 15 true
  | 19 => ((s.pairDown).domSleep 19 false).padHold 16 true
  | _ =>
    if 32 ≤ d ∧ d < 48 then (if off then s.engOff (d - 32) else s).domSleep d off
    else if 64 ≤ d then
      let t := s.setBankMode (d - 64) (if off then 2 else 1)
      { t with pwr := { t.pwr with downBanks := insertAsc (d - 64) t.pwr.downBanks } }
    else s

/-- The engine of a domain still works, or drains. -/
def State.engBusy (s : State) (e : Nat) : Bool :=
  decide ((s.engOf e).st = .run) || decide ((s.engOf e).st = .draining) || decide ((s.engOf e).st = .replay)

/-- Steps E4 and E5: the domains of the request leave on; for REST the core supplies go; the state is reached (R394, R402). -/
def State.entryDown (s : State) : State :=
  let tgt := s.pwr.target
  let ds := s.allDoms.filter (fun d => decide (12 ≤ d) && s.downIn tgt s.pwr.trim d && !(s.heldDown d) && !(s.ownDown d) &&
    !(decide (32 ≤ d) && decide (d < 48) && s.engBusy (d - 32)))
  let s1 := ds.foldl (fun s d => s.domDown d (s.trimOff tgt)) s
  let s2 := if 2 ≤ tgt then s1.setReady Rdy.lnk false else s1
  let s3 : State := { s2 with pwr := { s2.pwr with
    state := tgt, seq := .idle, ap := 3, opposite := none, forced := false
    regEnCore := s2.pwr.regEnCore && decide (tgt < 2), pwrdnReqN := decide (tgt ≠ 3) } }
  s3.raise Ev.pwrState tgt

/-! ## Requests (R392, R393, R396) -/

/-- Every ring is DISABLED. -/
def State.ringsDown (s : State) : Bool := (List.range 64).all (fun n => decide ((s.ring n).state = .disabled))

/-- Lane groups that the request removes: not removed already. -/
def State.entryGroups (s : State) (tgt : Nat) (w : Word × Word) : List Nat :=
  (List.range 12).filter (fun g => s.domPresent g && s.downIn tgt w g && decide ((s.grp g).st ≠ .removed))

/-- Frames still queued in a lane group that drains are aborted and counted (E3). -/
def State.entryAbort (s : State) (g : Nat) : State :=
  if (s.grp g).st ≠ .draining then s
  else (s.bump Fld.pwrAborted_VAL 0 (s.grpCopies g).length).grpRemoved g false

/-- An engine of the request leaves RUN; in TRIM one whose ENG_OUT would be refused stays unless ENG_FORCE asks otherwise (R393). -/
def State.entryEngine (s : State) (e : Nat) : State :=
  let note := fun (s : State) => ({ s with pwr := { s.pwr with outEngines := insertAsc e s.pwr.outEngines } } : State)
  match (s.engOf e).st with
  | .run =>
    if s.pwr.target = 1 ∧ !(bitAt s.pwr.trim.1.toNat 15) ∧ s.outRefused e then
      (({ s with pwr := { s.pwr with trimPart := true } } : State).raise Ev.pwrTrimPartial e)
    else (note s).outBegin e none
  | .replay => (note (s.inDropped e)).goEng e .loaded
  | _ => s

/-- The engines that the request takes out. -/
def State.entryEngines (s : State) : List Nat :=
  (List.range 16).filter (fun e => s.engPresent e && s.downIn s.pwr.target s.pwr.trim (32 + e) && s.domOn (32 + e))

/-- A removal is taken back at an abort point: a group whose drain has not ended is in service again (R395). -/
def State.grpUndrain (s : State) (g : Nat) : State :=
  let s1 := (s.setGrp g { s.grp g with st := .inService }).setReady (Rdy.grp g) true
  ((grpLanes g).foldl (fun s n => (s.setLane n { s.lane n with
    offered := s.apB Fld.laneCtrl_REF_EN n && (s.lane n).lock }).portChansListen n) s1).raise Ev.laneGrpState

/-- Entry is abandoned at an abort point: the completed steps are undone in reverse order, and the TRIM set and TRIM_PART are as if entry
had not begun (R395). -/
def State.abandon (s : State) (ap : Nat) : State :=
  let s1 : State := { s with pwr := { s.pwr with seq := .entry 9, ap := ap, trim := s.pwr.prior.1, trimPart := s.pwr.prior.2 } }
  let s2 := s1.pwr.outEngines.foldl (fun s e => if (s.engOf e).st = .loaded then s.goEng e .replay else s) s1
  let s3 := s2.pwr.outGroups.foldl (fun s g =>
    if (s.grp g).st = .draining then s.grpUndrain g else if (s.grp g).st = .removed then s.grpReturn g else s) s2
  { s3 with pwr := { s3.pwr with
    downGroups := s3.pwr.downGroups.filter (fun g => !(s3.pwr.outGroups.contains g)), outGroups := [] } }

/-- The E3 step has ended once no engine of the request drains: abort point 3, then E4 and E5. -/
def State.entryE3 (s : State) : State :=
  match s.pwr.seq with
  | .entry 3 =>
    if s.entryEngines.any (fun e => decide ((s.engOf e).st = .draining)) then s
    else if s.pwr.opposite.isSome then s.abandon 3 else s.entryDown
  | _ => s

/-- The E2 step has ended: abort point 2, then E3: frames are aborted, engines leave (R394). -/
def State.entryE2 (s : State) : State :=
  match s.pwr.seq with
  | .entry 2 =>
    if s.pwr.opposite.isSome then s.abandon 2
    else
      let s1 : State := { s with pwr := { s.pwr with ap := 2, seq := .entry 3 } }
      let s2 := s1.pwr.outGroups.foldl (fun s g => s.entryAbort g) s1
      (s2.entryEngines.foldl (fun s e => s.entryEngine e) s2).entryE3
  | _ => s

/-- A request for a lower state, or for a TRIM set with domains added, is accepted: E1, and intake stops (E2). -/
def State.entryBegin (s : State) (tgt : Nat) : State :=
  let w := s.trimWords
  let l := s.entryGroups tgt w
  let s1 : State := { s with pwr := { s.pwr with
    target := tgt, seq := .entry 2, from' := s.pwr.state, ap := 1, opposite := none, trimPart := false
    prior := (s.pwr.trim, s.pwr.trimPart)
    trim := if tgt = 1 then w else s.pwr.trim, outGroups := l
    downGroups := l.foldl (fun a g => insertAsc g a) s.pwr.downGroups } }
  let s2 := s1.raiseIf (s.trimFw tgt) Ev.engCfgBad
  let s3 := l.foldl (fun s g => s.grpRemove g (s.trimOff tgt)) s2
  if s3.pwr.outGroups.any (fun g => decide ((s3.grp g).st = .draining)) then s3 else s3.entryE2

/-- A request with no sequence in progress (R392, R393): entry, a wake, or nothing to do. -/
def State.requestTake (s : State) (tgt : Nat) : State :=
  let w := if tgt = 1 then s.trimWords else s.pwr.trim
  if s.pwr.state = 3 then s
  else if 2 ≤ tgt ∧ !s.ringsDown then s.raise Ev.pwrReqRefused 1
  else if s.pwr.state < tgt ∨ (tgt = 1 ∧ s.pwr.state = 1 ∧ s.needsDown 1 w) then s.entryBegin tgt
  else if tgt < s.pwr.state ∨ s.needsWake tgt w then s.startWake tgt 0
  else s

/-- A TRIM entry wakes the domains that left the set; the pending request is taken when the sequence has ended (R392, R396). -/
def State.pwrSettle (s : State) : State :=
  if s.pwr.seq ≠ .idle then s
  else if s.pwr.state = 1 ∧ s.needsWake 1 s.pwr.trim ∧ !s.pwr.wakeFail then s.startWake 1 0
  else match s.pwr.pend with
    | none => s
    | some t => ({ s with pwr := { s.pwr with pend := none } } : State).requestTake t

/-- The undoing of an abandoned entry has ended once no engine replays: PWR_ENTRY_ABORT, and the request behind it is taken
(R395, R396). -/
def State.abandonEnd (s : State) : State :=
  if s.pwr.seq ≠ .entry 9 ∨ s.pwr.outEngines.any (fun e => decide ((s.engOf e).st = .replay)) then s
  else
    let p := s.pwr
    let s1 := ({ s with pwr := { p with seq := .idle, opposite := none, outEngines := [] } } : State).raise Ev.pwrEntryAbort p.ap p.target
    let s2 := match p.opposite with
      | some (t, wake) => if t < p.state ∨ (t = p.state ∧ !wake) then s1.requestTake t else s1
      | none => s1
    s2.pwrSettle

/-- PWR_REQUEST (R392, R396, R397). -/
def State.pwrRequest (s : State) (p : Path) (val : Word) : State :=
  let tgt := fieldOf val 0 2
  if p ≠ .pcie ∧ p ≠ .i2c then s
  else if s.pwr.forced then s.raise Ev.pwrReqRefused 2
  else match s.pwr.seq with
    | .idle => ((s.requestTake tgt).abandonEnd).pwrSettle
    | .entry k =>
      if k ≠ 9 ∧ tgt ≤ s.pwr.from' then { s with pwr := { s.pwr with opposite := some (tgt, false) } }
      else s.pendRequest tgt
    | .wake _ => s.pendRequest tgt

/-- PWR_ENTRY_DRAIN_END. -/
def State.pwrEntryDrainEnd (s : State) : State := ((s.entryE2).abandonEnd).pwrSettle

/-- ENG_DRAIN_END, and what a power entry does next. -/
def State.engDrained (s : State) (e : Nat) : State := (((s.engDrainEnd e).entryE3).abandonEnd).pwrSettle

/-- ENG_REPLAY_DONE, and what an abandoned entry does next. -/
def State.engReplayed (s : State) (e us : Nat) : State := (s.engReplayDone e us).abandonEnd

/-! ## Wake (R398 to R400) -/

/-- A domain leaves retention, or is powered up from off (W4). -/
def State.domUp (s : State) (d : Nat) : State :=
  match d with
  | 12 => s.domWake 12
  | 13 => s.domWake 13
  | 14 => (s.domWake 14).gnssUp
  | 15 => ((s.domWake 15).setReady Rdy.tic true).ticUp
  | 16 =>
    let t := s.domWake 16
    [1, 2].foldl (fun s x => if s.apB Fld.pllCfg_EN x then s.pllStart x else s) t
  | 17 => (s.domWake 17).pllStart 3
  | 18 =>
    let t := (s.domWake 18).padHold 15 false
    ((List.range 64).filter (fun n => t.apB Fld.hifRingCtrl_EN n && decide ((t.ring n).state = .disabled))).foldl (fun s n => s.ringStart n) t
  | 19 => s.domWake 19
  | _ =>
    if d < 12 then s.grpWake d
    else if d < 48 then
      let t := s.domWake d
      if (t.engOf (d - 32)).st = .off then t.goEng (d - 32) .idle else t
    else
      let t := s.setBankMode (d - 64) (s.bankWant (d - 64))
      { t with pwr := { t.pwr with downBanks := t.pwr.downBanks.filter (fun b => b != d - 64) } }

/-- A domain of the TRIM set that comes out of REST goes off when OFF_SEL asks for it (Table PWR-2). -/
def State.domTrimOff (s : State) (d : Nat) : State :=
  if d < 12 then (if s.domMode d = .retention then (s.grpLose d).domSleep d true else s)
  else if 64 ≤ d then s.setBankMode (d - 64) 2
  else if s.domMode d ≠ .retention then s
  else if d = 14 then (s.gnssDown true).domSleep 14 true
  else if d = 15 then s.domSleep 15 true
  else (s.engOff (d - 32)).domSleep d true

/-- W5 and W6: engines taken out replay, one that was off from the copy in the firmware banks; lane groups return. -/
def State.wakeUnits (s : State) : State :=
  let tgt := s.pwr.target
  let s1 := if s.trimOff tgt then (s.allDoms.filter (fun d => s.downIn 1 s.pwr.trim d && s.heldDown d)).foldl (fun s d => s.domTrimOff d) s else s
  let es := s1.pwr.outEngines.filter (fun e => s1.domOn (32 + e))
  let s2 := es.foldl (fun s e =>
    match (s.engOf e).st with
    | .loaded => s.goEng e .replay
    | .idle => (match s.eng.copy with
      | some c => ((s.setEng e { s.engOf e with image := some c }).goEng e .loaded).goEng e .replay
      | none => s)
    | _ => s) s1
  let gs := s2.pwr.downGroups.filter (fun g => !(s2.downIn tgt s2.pwr.trim g) && s2.domOn g)
  let s3 := gs.foldl (fun s g => if (s.grp g).st = .removed then s.grpReturn g else s) s2
  { s3 with pwr := { s3.pwr with
    seq := .wake 6, wakeDoms := [], outEngines := s3.pwr.outEngines.filter (fun e => !(es.contains e))
    downGroups := s3.pwr.downGroups.filter (fun g => !(gs.contains g)) } }

/-- PWR_WAKE_SUPPLY_OK (W2): VDD_CORE restarts at 880 mV when it had been off, and the switches of the domains close (W3). -/
def State.pwrWakeSupplyOk (s : State) : State :=
  match s.pwr.seq with
  | .wake 2 =>
    let l := s.allDoms.filter (fun d => s.heldDown d && !(s.downIn s.pwr.target s.pwr.trim d))
    let s1 : State := { s with
      pwr := { s.pwr with seq := .wake 3, wakeDoms := l, wakeBad := false }
      sw := if 2 ≤ s.pwr.from' then { s.sw with vset := 880, writing := false, retrying := false } else s.sw }
    if l = [] then s1.wakeUnits else s1
  | _ => s

/-- A wake fails, in whole or for one domain (R400). -/
def State.wakeFailed (s : State) (cause dom : Nat) : State :=
  let s1 : State := { s with pwr := { s.pwr with wakeFail := true, failCause := cause, failDom := dom, aonBypass := true } }
  (s1.bump Fld.pwrFailCnt_VAL).raise Ev.pwrWakeFail cause dom

/-- PWR_WAKE_SUPPLY_TIMEOUT. -/
def State.pwrWakeSupplyTimeout (s : State) (cause : Nat) : State :=
  match s.pwr.seq with
  | .wake 2 =>
    let s1 := s.wakeFailed cause 0
    ({ s1 with pwr := { s1.pwr with seq := .idle, forced := false } } : State).pwrSettle
  | _ => s

/-- A switch that the wake awaits has an outcome. -/
def State.switchDone (s : State) (d : Nat) : State :=
  let s1 : State := { s with pwr := { s.pwr with wakeDoms := s.pwr.wakeDoms.filter (fun x => x != d) } }
  if s1.pwr.wakeDoms = [] then s1.wakeUnits else s1

/-- The wake awaits the switch of a domain. -/
def State.awaits (s : State) (d : Nat) : Bool := decide (s.pwr.seq = .wake 3) && s.pwr.wakeDoms.contains d

/-- PWR_SWITCH_GOOD. -/
def State.pwrSwitchGood (s : State) (d : Nat) : State := if s.awaits d then (s.domUp d).switchDone d else s

/-- PWR_SWITCH_TIMEOUT. -/
def State.pwrSwitchTimeout (s : State) (d : Nat) : State :=
  if s.awaits d then
    let s1 := s.wakeFailed 6 d
    ({ s1 with pwr := { s1.pwr with wakeBad := true } } : State).switchDone d
  else s

/-- PWR_WAKE_DONE (W6). -/
def State.pwrWakeDone (s : State) : State :=
  match s.pwr.seq with
  | .wake 6 =>
    let p := s.pwr
    let s1 : State := { s with pwr := { p with
      state := p.target, seq := .idle, forced := false, wakeFail := p.wakeFail && p.wakeBad, aonBypass := p.aonBypass && p.wakeBad } }
    let s2 := if s1.isReady Rdy.pll && !(s1.isReady Rdy.lnk) then s1.setReady Rdy.lnk true else s1
    (s2.raise Ev.pwrWakeDone p.wakeSrc).pwrSettle
  | _ => s

/-- PWR_WAKE_TIMER_MATCH. -/
def State.pwrWakeTimerMatch (s : State) : State := if s.ap Fld.pwrWakeTimer_VAL = 0 then s else s.wakeEvent 2

/-- The domain of a bit of PWR_PAD_HELD. -/
def padDom (b : Nat) : Nat := if b < 12 then b else [14, 15, 16, 18, 19].getD (b - 12) 0

/-- A write of PWR_PAD_REL (R398): a bit for a domain that is not on is ignored. -/
def State.padRelease (s : State) (v : Nat) : State :=
  ((List.range 17).filter (fun b => bitAt v b && s.domOn (padDom b))).foldl (fun s b => s.padHold b false) s

/-! ## Forced sequences (R397) -/

/-- Every ring goes to DISABLED as R82 has it. -/
def State.forceRings (s : State) : State :=
  let l := (List.range 64).filter (fun n => decide ((s.ring n).state ≠ .disabled))
  l.foldl (fun s n => s.putBoth Fld.hifRingCtrl_EN 0 n) (if l = [] then s else s.ringsKill)

/-- The domains of a forced request go down without a drain: frames and exchanges in flight are aborted at once. -/
def State.forceDown (s : State) (tgt : Nat) : State :=
  let w := s.trimWords
  let l := s.entryGroups tgt w
  let s1 : State := { s with pwr := { s.pwr with
    target := tgt, trim := if tgt = 1 then w else s.pwr.trim, ap := 0
    downGroups := (l ++ s.pwr.outGroups).foldl (fun a g => insertAsc g a) s.pwr.downGroups } }
  let s1 := s1.raiseIf (s.trimFw tgt) Ev.engCfgBad
  let s2 := l.foldl (fun s g => (if (s.grp g).st = .draining then s else s.grpRemove g (s.trimOff tgt)).entryAbort g) s1
  let s3 := s2.entryEngines.foldl (fun s e =>
    let t := match (s.engOf e).st with
      | .draining => s
      | .run => ({ s with pwr := { s.pwr with outEngines := insertAsc e s.pwr.outEngines } } : State).outBegin e none
      | _ => s.entryEngine e
    if (t.engOf e).st = .draining then t.outDone e .loaded else t) s2
  s3.entryDown

/-- GO: the forced sequence replaces the one in progress and empties the pending slot. -/
def State.forceGo (s : State) (tgt : Nat) : State :=
  let busy := decide (s.pwr.seq ≠ .idle)
  let s1 : State := { s.forceRings with pwr := { s.pwr with pend := none, opposite := none, seq := .idle } }
  let s2 := s1.pwr.outGroups.foldl (fun s g => s.entryAbort g) s1
  let w := if tgt = 1 then s2.trimWords else s2.pwr.trim
  let s3 := if 1 ≤ tgt ∧ (s2.needsDown tgt w ∨ s2.pwr.state < tgt) then s2.forceDown tgt else s2
  let s4 : State := { s3 with pwr := { s3.pwr with
    outGroups := [], downGroups := s3.pwr.outGroups.foldl (fun a g => if (s3.grp g).st = .removed then insertAsc g a else a) s3.pwr.downGroups } }
  if s4.pwr.state = 3 then s4
  else if s4.needsWake tgt w ∨ (tgt < s4.pwr.state ∨ (busy ∧ tgt < 2)) then
    let s5 := s4.startWake tgt 0
    { s5 with pwr := { s5.pwr with forced := true } }
  else s4

/-- PWR_FORCE_GO. -/
def State.pwrForce (s : State) (p : Path) (v m : Word) : State :=
  let k : RegKey := ⟨.pwrForce, 0, 0⟩
  s.keyed p k.addr (fun s =>
    let t := s.storeReg k v m
    if bitAt (v &&& m).toNat 2 ∧ t.pwr.state ≠ 3 then t.forceGo (fieldOf (t.written k) 0 2) else t)

/-! ## Meanings -/

/-- ENG_REPLAY_DONE (R349, R395). -/
def execEngReplayDone (e us : Nat) (s : State) : Host.Outcome State Fault Refusal :=
  effect (engineNo e) s (s.engReplayed e us)

/-- WAKE_N_EVENT (R392, R437). -/
def execWakeNEvent (s : State) : Host.Outcome State Fault Refusal :=
  effect true s (s.wakeEvent 0)

/-- PERST_DEASSERT (R392). -/
def execPerstDeassert (s : State) : Host.Outcome State Fault Refusal :=
  effect true s (s.wakeEvent 1)

/-- PWR_WAKE_TIMER_MATCH (R392). -/
def execPwrWakeTimerMatch (s : State) : Host.Outcome State Fault Refusal :=
  effect true s (s.pwrWakeTimerMatch)

/-- PWR_WAKE_SUPPLY_TIMEOUT (R400). -/
def execPwrWakeSupplyTimeout (cause : Nat) (s : State) : Host.Outcome State Fault Refusal :=
  effect (decide (1 ≤ cause) && decide (cause ≤ 5)) s (s.pwrWakeSupplyTimeout cause)

/-- PWR_WAKE_DONE (R399). -/
def execPwrWakeDone (s : State) : Host.Outcome State Fault Refusal :=
  effect true s (s.pwrWakeDone)

end Sys2Proof.Machine
end

