-- ==== Sys2Proof/Machine/Objects.lean ====
section
/-! DEFINITION. The object commands of chapter 4 for every type: CREATE, MODIFY, QUERY, LIST, DESTROY, DISABLE, ENABLE, and the ends
of a drain (R84 to R95). -/

set_option Elab.async false

namespace Sys2Proof.Machine

/-- The opcode of a verb (R84). -/
def ObjType.op (t : ObjType) (verb : Nat) : Nat := t.code * 256 + verb

/-- Words as bytes, little-endian. -/
def wordBytes (l : List Nat) : List Byte := (l.map (fun w => leBytes w 4)).flatten

/-- The two words of a signed 64-bit value. -/
def words64 (x : Int) : List Nat := [unsigned 64 x % 2 ^ 32, unsigned 64 x / 2 ^ 32]

/-! ## Mailbox records of the types, which are also the status of a QUERY with EXT (log entry 38) -/

/-- The last block of a TIC channel, 16 words. -/
def State.ticWords (s : State) (c : Nat) : List Nat :=
  match (s.ticCh c).result with
  | none => List.replicate 16 0
  | some r => words64 r.mean ++ words64 r.sd ++ words64 r.lo ++ words64 r.hi ++
      [r.kept, r.order, r.near, r.timeout, r.ns, r.sec % 2 ^ 32, r.sec / 2 ^ 32 % 65536 + r.frac * 65536,
       b2n r.partialBlk + 2 * b2n r.core + 4 * b2n r.unlocked + r.block % 65536 * 65536]

/-- The last sample of a TIC channel, 4 words. -/
def State.ticLast (s : State) (c : Nat) : List Nat :=
  let x := s.ticCh c
  words64 (toFrac x.lastVal) ++ [b2n x.lastNear + 2 * b2n x.lastOrder, x.lastIndex]

/-- A search job, 13 words. -/
def State.searchWords (s : State) (j : Nat) : List Nat :=
  let x := s.searchJob j
  let a := searchArgsOf (s.obj .search j).args
  x.searched :: (List.range 4).flatMap (fun k => match x.dets[k]? with
    | some d => [d.svid % 256 + a.sys % 2 * 256 + a.band % 2 * 512 + d.cn0 % 65536 * 65536, d.codePhase % 2 ^ 32, unsigned 32 d.doppler]
    | none => [0, 0, 0])

/-! ## Mirror sessions (R196, R197) -/

/-- The arguments of a session (an index that CREATE names beyond Table HDL-2 fails at check 6, as the range of an argument: DESIGN
CHOICE, log entry 95): reserved bytes, absent ports, ranges, the flow handle of KIND 3. -/
def mirReserved (d : CmdDesc) : Bool :=
  !(d.zero 24 32) || (decide (d.arg 12 1 = 3) && decide (hType (BitVec.ofNat 32 (d.arg 16 4)) ≠ 1)) ||
  (decide (d.arg 12 1 = 3) && decide (16384 ≤ hIndex (BitVec.ofNat 32 (d.arg 16 4))))
def State.mirAbsent (s : State) (d : CmdDesc) : Bool :=
  (decide (d.arg 14 2 < 96) && !(s.portExists (d.arg 14 2))) || (decide (d.arg 20 2 < 96) && !(s.portExists (d.arg 20 2)))
def State.mirBad (s : State) (d : CmdDesc) : Bool :=
  let tr := d.arg 22 2
  decide (3 < d.arg 12 1) || decide (8 ≤ d.arg 13 1) || decide (96 < d.arg 14 2) || decide (96 < d.arg 20 2) ||
  decide (d.arg 14 2 = d.arg 20 2) || s.portInactive (d.arg 14 2) || s.portInactive (d.arg 20 2) || (decide (tr ≠ 0) && (decide (tr < 64) || decide (10240 < tr)))

/-- The flow of a KIND 3 session is stale (R90). -/
def State.mirStale (s : State) (d : CmdDesc) : Bool :=
  decide (d.arg 12 1 = 3) && s.stale .flow (BitVec.ofNat 32 (d.arg 16 4))

/-- The copies of a session that wait for the analysis port. -/
def State.mirQueued (s : State) (m : Nat) : List Nat :=
  (s.fab.copies.filter (fun e => decide (e.2.mirror = some m) && (decide (e.2.st = .queued) || decide (e.2.st = .wait)))).foldl
    (fun l e => insertAsc e.1 l) []

/-! ## Work in flight (Table HDL-5) -/

/-- Items in flight; a suspended object has none. -/
def State.objFlight (s : State) (t : ObjType) (i : Nat) : Nat :=
  match t with
  | .flow => (s.flowCopies i).length
  | .tchan => s.tchanFlight i
  | .mchan => s.mchanFlight i
  | .mirror => (s.mirQueued i).length
  | .search => s.searchFlight i
  | .cal => s.calFlight i

/-- A drain still waits for something: a search job only for the dwell in progress, since no new dwell starts and the cells outside it
cannot finish (DEDUCED, log entry 117); else whatever is in flight. -/
def State.objBusy (s : State) (t : ObjType) (i : Nat) : Bool :=
  match t with
  | .search => decide ((s.searchJob i).sects ≠ [])
  | _ => decide (s.objFlight t i ≠ 0)

/-- The default limit and the maximum in microseconds; a flow's default is its bound, in whole microseconds (rounded down: DESIGN CHOICE,
log entry 96). -/
def State.drainMax (s : State) (t : ObjType) (i : Nat) : Nat × Nat :=
  match t with
  | .flow => ((s.flow i).bound / 1000, 500000)
  | .tchan => (1000000, 16000000)
  | .mchan => (10000, 1000000)
  | .mirror => (10000, 500000)
  | .search => (100000, 1000000)
  | .cal => (2000000, 60000000)

/-- What stops at acceptance beyond the phase: a timing channel's contribution; a session's entry has changed (R190). -/
def State.objAccept (s : State) (t : ObjType) (i : Nat) : State :=
  match t with
  | .tchan => s.tchanAccept i
  | .mirror => s.bumpVersion (.mir i)
  | _ => s

/-- Unfinished items are aborted. -/
def State.objAbort (s : State) (t : ObjType) (i : Nat) : State :=
  match t with
  | .flow => s.flowAbort i
  | .tchan => s.tchanAbort i
  | .mchan => s.mchanAbort i false
  | .mirror => (s.flushCopies (s.mirQueued i) 3).afterFree
  | .search => s.searchAbort i
  | .cal => s.calAbortJob i

/-- What a destroyed object of a type leaves behind. -/
def State.objGone (s : State) (t : ObjType) (i : Nat) : State :=
  match t with
  | .flow => s.flowDrop i
  | .tchan => s.tchanDrop i
  | .mchan => s.mchanAbort i true
  | .mirror => s
  | .search => s.searchGone i
  | .cal => s.calDrop i

/-- The type's part of an ENABLE (R95). -/
def State.objResume (s : State) (t : ObjType) (i : Nat) : State :=
  match t with
  | .flow => s.flowResume i
  | .tchan => s.tchanResume i
  | .mchan => s.mchanResume i
  | .mirror => s.bumpVersion (.mir i)
  | .search => s.searchResume i
  | .cal => s.calResume i

/-- Commands of a session's object that change its entry find the version store full (R192). -/
def State.objVerBusy (s : State) (t : ObjType) (i : Nat) : Bool :=
  match t with
  | .mirror => s.verBusy [.mir i]
  | _ => false

/-! ## MODIFY -/

/-- MODIFY of a session: the session number is fixed. -/
def State.mirrorModify (s : State) (d : CmdDesc) : State :=
  let i := hIndex d.handle
  if s.verBusy [.mir i] then s.complete d 0x0402 .busy
  else ((s.bumpVersion (.mir i)).setObj .mirror i { s.obj .mirror i with args := d.objArgs }).complete d 0x0402 .ok

/-- MODIFY of a measurement channel takes effect from the next block (R322). -/
def State.mchanModify (s : State) (d : CmdDesc) : State :=
  let c := hIndex d.handle
  if s.mchanNotReady d then s.complete d 0x0302 .notReady
  else (s.setObj .mchan c { s.obj .mchan c with args := d.objArgs }).complete d 0x0302 .ok

/-- MODIFY of a search job: BAND and SYSTEM are fixed; the job's grid is planned again from its beginning (log entry 45). -/
def State.searchModify (s : State) (d : CmdDesc) : State :=
  let j := hIndex d.handle
  let t := (s.setObj .search j { s.obj .search j with args := d.objArgs }).searchBegin j (s.searchJob j).order
  t.complete d 0x0502 .ok 0 (leBytes (t.searchJob j).cells 4)

/-- The checks of a MODIFY beside the handle's: extension, absence, reserved bits, ranges and fixed fields (R86). -/
def State.modifyChecks (s : State) (t : ObjType) (d : CmdDesc) : Checks :=
  let i := hIndex d.handle
  match t with
  | .flow => {}
  | .tchan => s.targetChecks .tchan d true (tchanExt d) (s.tchanAbsent d) (tchanReserved d) (s.tchanBad d || s.tchanFixed d)
  | .mchan => s.targetChecks .mchan d true false (s.mchanAbsent d) (mchanReserved d) (mchanBad d || decide (d.arg 12 1 ≠ i))
  | .mirror =>
    let c := s.targetChecks .mirror d true false (s.mirAbsent d) (mirReserved d) (s.mirBad d || decide (d.arg 13 1 ≠ i))
    { c with stale := c.stale || s.mirStale d }
  | .search =>
    let a := searchArgsOf d.objArgs
    let o := searchArgsOf (s.obj .search i).args
    s.targetChecks .search d true false false (searchReserved d) (a.bad || decide (a.band ≠ o.band) || decide (a.sys ≠ o.sys))
  | .cal => s.targetChecks .cal d true false (s.calAbsent d) (calReserved d) (s.calBad d || s.calFixed d)

/-- MODIFY (R86, R91): allowed in ACTIVE and SUSPENDED; behind a drain it waits. -/
def State.objModify (s : State) (again : Bool) (t : ObjType) (d : CmdDesc) : State :=
  match t with
  | .flow => s.admTake 1 0x0102 d
  | _ =>
    s.runNamed again t 2 d (t.op 2) (s.modifyChecks t d) (fun s =>
      match t with
      | .flow => s
      | .tchan => s.tchanModify d
      | .mchan => s.mchanModify d
      | .mirror => s.mirrorModify d
      | .search => s.searchModify d
      | .cal => s.calModify d)

/-! ## QUERY and LIST -/

/-- STATE of a QUERY. -/
def ObjPhase.code : ObjPhase → Nat
  | .active => 0 | .draining => 1 | .suspended => 2

/-- RESULT bytes 4 to 15 of a QUERY, and the full status from byte 20 of its buffer. -/
def State.objDetail (s : State) (t : ObjType) (i : Nat) : List Byte :=
  match t with
  | .flow => s.flowQuery i
  | .tchan => s.tchanQuery i
  | .mchan => s.mchanQuery i
  | .cal => s.calQuery i
  | _ => List.replicate 12 0
def State.objStatus (s : State) (t : ObjType) (i : Nat) : List Byte :=
  match t with
  | .flow => s.flowStatus i
  | .tchan => s.tchanStatus i
  | .mchan => wordBytes (s.ticWords i ++ s.ticLast i)
  | .mirror => []
  | .search => wordBytes (s.searchWords i)
  | .cal => s.calStatus i

/-- QUERY runs at once (R92); of a flow it needs a buffer of 36 bytes when it has one (R459). -/
def State.objQuery (s : State) (t : ObjType) (d : CmdDesc) : State :=
  let short := decide (t = .flow) && d.hasExt && decide (d.extLen < 36)
  s.runCmd d (t.op 3) (s.targetChecks t d false false false (short || (!d.hasExt && !(d.zero 12 32))) false) (fun s =>
    let i := hIndex d.handle
    let s := if t = .cal then s.calCheckLost i else s
    let o := s.obj t i
    s.complete d (t.op 3) .ok 0 (leBytes o.phase.code 1 ++ leBytes 0 3 ++ s.objDetail t i)
      (if d.hasExt then ((o.args ++ List.replicate 20 0).take 20 ++ s.objStatus t i).take d.extLen else []))

/-- LIST: the handles in use from START_INDEX, in index order, as many as the buffer holds. -/
def State.objList (s : State) (t : ObjType) (d : CmdDesc) : State :=
  s.runCmd d (t.op 5) { absent := decide (t = .search) && !s.variant.gnss
                        badForm := d.badForm true || decide (d.handle ≠ 0), ready := t.ready } (fun s =>
    let l := ((s.inUse t).filter (fun i => decide (d.buf 0 4 ≤ i))).mergeSort
    let n := (d.extLen - 8) / 4
    let head := leBytes (l.take n).length 4 ++ leBytes ((l.drop n).head?.getD 0xFFFFFFFF) 4
    s.complete d (t.op 5) .ok 0 head (head ++ wordBytes ((l.take n).map (fun i => (s.handleOf t i).toNat))))

/-! ## DESTROY, DISABLE, ENABLE (R91, R94, R95) -/

/-- A drain ends: the command completes, and the object leaves or is SUSPENDED. -/
def State.objEnd (s : State) (t : ObjType) (i : Nat) (x : Drain) (aborted : Nat) : State :=
  match t with
  | .flow => s.flowEnd i x aborted
  | _ =>
    let o := s.obj t i
    let s1 := s.drainDone t i x aborted
    if x.destroy then (s1.objGone t i).dropObj t i
    else s1.setObj t i { o with phase := .suspended, drain := none, waiting := [] }

/-- DESTROY or DISABLE. -/
def State.objDrain (s : State) (again : Bool) (t : ObjType) (d : CmdDesc) (destroy : Bool) : State :=
  let verb := if destroy then 4 else 6
  match t with
  | .flow => s.flowTake (if destroy then 5 else 6) (t.op verb) d
  | _ =>
    let i := hIndex d.handle
    let op := t.op verb
    s.runNamed again t verb d op (s.targetChecks t d true false false (drainReserved d) false) (fun s =>
      let o := s.obj t i
      if o.phase = .suspended ∧ !destroy then s.complete d op .ok
      else if s.objVerBusy t i then s.complete d op .busy
      else
        let m := s.drainMax t i
        let s := if t = .cal then s.calCheckLost i else s
        let n := if o.phase = .suspended then 0 else s.objFlight t i
        let busy := decide (o.phase ≠ .suspended) && s.objBusy t i
        let x : Drain := { desc := d, destroy := destroy, limitUs := d.drainLimit m.1 m.2, start := s.clk.now, items := n }
        let u := (s.setObj t i { o with phase := .draining, drain := some x }).objAccept t i
        if n = 0 then u.objEnd t i x 0 else if d.drainNow || !busy then (u.objAbort t i).objEnd t i x n else u)

/-- ENABLE (R91, R95). -/
def State.objEnable (s : State) (again : Bool) (t : ObjType) (d : CmdDesc) : State :=
  match t with
  | .flow => s.flowTake 7 0x0107 d
  | _ =>
    let i := hIndex d.handle
    s.runNamed again t 7 d (t.op 7) (s.targetChecks t d true false false (!(d.zero 12 32)) false) (fun s =>
      let o := s.obj t i
      if o.phase ≠ .suspended then s.complete d (t.op 7) .ok
      else if s.objVerBusy t i then s.complete d (t.op 7) .busy
      else ((s.setObj t i { o with phase := .active }).objResume t i).complete d (t.op 7) .ok)

/-- A command that waited for a drain runs, and is checked now: after a DESTROY its handle is stale (R92). -/
def State.objVerb (s : State) (t : ObjType) (w : WaitingCmd) : State :=
  if t = .flow then s.flowAgain w
  else match w.verb with
  | 2 => s.objModify true t w.desc
  | 4 => s.objDrain true t w.desc true
  | 6 => s.objDrain true t w.desc false
  | 7 => s.objEnable true t w.desc
  | 0x10 => s.ticArm true w.desc
  | _ => s.ticStop true w.desc

/-- The end of a drain: with nothing in flight, or at the limit, where what is left is aborted (R94). -/
def State.drainEnd (s : State) (h : Word) (limit : Bool) : State :=
  match hObjType h with
  | none => s
  | some t =>
    let i := hIndex h
    if s.stale t h then s
    else match (s.obj t i).drain with
      | none => s
      | some x =>
        let n := s.objFlight t i
        if !limit ∧ s.objBusy t i then s
        else
          let w := (s.obj t i).waiting
          let s1 := if n = 0 then s else s.objAbort t i
          let s2 := s1.objEnd t i { x with timedOut := limit } n
          w.foldl (fun s c => s.objVerb t c) s2

/-! ## CREATE -/

/-- MCHAN_CREATE (R315, R316): the channel's index is named, and its time base must be there. -/
def State.mchanCreate (s : State) (d : CmdDesc) : State :=
  s.runCmd d 0x0301 (createChecks .mchan d false (s.mchanAbsent d) (mchanReserved d) (mchanBad d)) (fun s =>
    let c := d.arg 12 1
    if (s.obj? .mchan c).isSome then s.complete d 0x0301 .noResource
    else if s.mchanNotReady d then s.complete d 0x0301 .notReady
    else
      let t := s.addObj .mchan c { args := d.objArgs }
      t.complete d 0x0301 .ok (t.handleOf .mchan c))

/-- MIRROR_CREATE (R196, R197). -/
def State.mirrorCreate (s : State) (d : CmdDesc) : State :=
  s.runCmd d 0x0401 { createChecks .mirror d false (s.mirAbsent d) (mirReserved d) (s.mirBad d) with stale := s.mirStale d } (fun s =>
    let m := d.arg 13 1
    if (s.obj? .mirror m).isSome then s.complete d 0x0401 .noResource
    else if s.verBusy [.mir m] then s.complete d 0x0401 .busy
    else
      let t := (s.bumpVersion (.mir m)).addObj .mirror m { args := d.objArgs }
      t.complete d 0x0401 .ok (t.handleOf .mirror m))

/-- SEARCH_JOB_CREATE (R293). -/
def State.searchCreate (s : State) (d : CmdDesc) : State :=
  s.runCmd d 0x0501 (createChecks .search d false (!s.variant.gnss) (searchReserved d) (searchArgsOf d.objArgs).bad) (fun s =>
    match s.nextIndex .search with
    | none => s.complete d 0x0501 .noResource
    | some j =>
      let t := s.searchMake j d.objArgs
      t.complete d 0x0501 .ok (t.handleOf .search j) (leBytes (t.searchJob j).cells 4))

/-- TCHAN_CREATE (R220). -/
def State.tchanCreate (s : State) (d : CmdDesc) : State :=
  s.runCmd d 0x0201 (createChecks .tchan d (tchanExt d) (s.tchanAbsent d) (tchanReserved d) (s.tchanBad d)) (fun s =>
    if s.tchanTwin d.asObj then s.complete d 0x0201 .badArg else s.tchanMake d)

/-- CAL_JOB_CREATE (R326). -/
def State.calCreate (s : State) (d : CmdDesc) : State :=
  s.runCmd d 0x0601 (createChecks .cal d false (s.calAbsent d) (calReserved d) (s.calBad d)) (fun s => s.calMake d)

/-! ## Meanings -/

/-- FLOW_QUERY (R84, R85, R92, R459). -/
def execFlowQuery (d : CmdDesc) (s : State) : Host.Outcome State Fault Refusal :=
  effect (d.wf) s (s.objQuery .flow d)

/-- FLOW_LIST (R84, R85). -/
def execFlowList (d : CmdDesc) (s : State) : Host.Outcome State Fault Refusal :=
  effect (d.wf) s (s.objList .flow d)

/-- TCHAN_CREATE (R86, R90, R220). -/
def execTchanCreate (d : CmdDesc) (s : State) : Host.Outcome State Fault Refusal :=
  effect (d.wf) s (s.tchanCreate d)

/-- TCHAN_MODIFY (R86, R90, R220). -/
def execTchanModify (d : CmdDesc) (s : State) : Host.Outcome State Fault Refusal :=
  effect (d.wf) s (s.objModify false .tchan d)

/-- TCHAN_QUERY (R84, R226). -/
def execTchanQuery (d : CmdDesc) (s : State) : Host.Outcome State Fault Refusal :=
  effect (d.wf) s (s.objQuery .tchan d)

/-- TCHAN_DESTROY (R94). -/
def execTchanDestroy (d : CmdDesc) (s : State) : Host.Outcome State Fault Refusal :=
  effect (d.wf) s (s.objDrain false .tchan d true)

/-- TCHAN_LIST (R84, R85). -/
def execTchanList (d : CmdDesc) (s : State) : Host.Outcome State Fault Refusal :=
  effect (d.wf) s (s.objList .tchan d)

/-- TCHAN_DISABLE (R91, R94). -/
def execTchanDisable (d : CmdDesc) (s : State) : Host.Outcome State Fault Refusal :=
  effect (d.wf) s (s.objDrain false .tchan d false)

/-- TCHAN_ENABLE (R91, R95). -/
def execTchanEnable (d : CmdDesc) (s : State) : Host.Outcome State Fault Refusal :=
  effect (d.wf) s (s.objEnable false .tchan d)

/-- MCHAN_CREATE (R86, R90, R316). -/
def execMchanCreate (d : CmdDesc) (s : State) : Host.Outcome State Fault Refusal :=
  effect (d.wf) s (s.mchanCreate d)

/-- MCHAN_MODIFY (R86, R90, R322). -/
def execMchanModify (d : CmdDesc) (s : State) : Host.Outcome State Fault Refusal :=
  effect (d.wf) s (s.objModify false .mchan d)

/-- MCHAN_QUERY (R84, R325). -/
def execMchanQuery (d : CmdDesc) (s : State) : Host.Outcome State Fault Refusal :=
  effect (d.wf) s (s.objQuery .mchan d)

/-- MCHAN_DESTROY (R94). -/
def execMchanDestroy (d : CmdDesc) (s : State) : Host.Outcome State Fault Refusal :=
  effect (d.wf) s (s.objDrain false .mchan d true)

/-- MCHAN_LIST (R84, R85). -/
def execMchanList (d : CmdDesc) (s : State) : Host.Outcome State Fault Refusal :=
  effect (d.wf) s (s.objList .mchan d)

/-- MCHAN_DISABLE (R91, R94). -/
def execMchanDisable (d : CmdDesc) (s : State) : Host.Outcome State Fault Refusal :=
  effect (d.wf) s (s.objDrain false .mchan d false)

/-- MCHAN_ENABLE (R91, R95). -/
def execMchanEnable (d : CmdDesc) (s : State) : Host.Outcome State Fault Refusal :=
  effect (d.wf) s (s.objEnable false .mchan d)

/-- MIRROR_CREATE (R86, R90, R196, R197). -/
def execMirrorCreate (d : CmdDesc) (s : State) : Host.Outcome State Fault Refusal :=
  effect (d.wf) s (s.mirrorCreate d)

/-- MIRROR_MODIFY (R86, R90, R197). -/
def execMirrorModify (d : CmdDesc) (s : State) : Host.Outcome State Fault Refusal :=
  effect (d.wf) s (s.objModify false .mirror d)

/-- MIRROR_QUERY (R84). -/
def execMirrorQuery (d : CmdDesc) (s : State) : Host.Outcome State Fault Refusal :=
  effect (d.wf) s (s.objQuery .mirror d)

/-- MIRROR_DESTROY (R94). -/
def execMirrorDestroy (d : CmdDesc) (s : State) : Host.Outcome State Fault Refusal :=
  effect (d.wf) s (s.objDrain false .mirror d true)

/-- MIRROR_LIST (R84, R85). -/
def execMirrorList (d : CmdDesc) (s : State) : Host.Outcome State Fault Refusal :=
  effect (d.wf) s (s.objList .mirror d)

/-- MIRROR_DISABLE (R91, R94). -/
def execMirrorDisable (d : CmdDesc) (s : State) : Host.Outcome State Fault Refusal :=
  effect (d.wf) s (s.objDrain false .mirror d false)

/-- MIRROR_ENABLE (R91, R95). -/
def execMirrorEnable (d : CmdDesc) (s : State) : Host.Outcome State Fault Refusal :=
  effect (d.wf) s (s.objEnable false .mirror d)

/-- SEARCH_JOB_CREATE (R86, R90, R293). -/
def execSearchJobCreate (d : CmdDesc) (s : State) : Host.Outcome State Fault Refusal :=
  effect (d.wf) s (s.searchCreate d)

/-- SEARCH_JOB_MODIFY (R86, R90, R293). -/
def execSearchJobModify (d : CmdDesc) (s : State) : Host.Outcome State Fault Refusal :=
  effect (d.wf) s (s.objModify false .search d)

/-- SEARCH_JOB_QUERY (R84). -/
def execSearchJobQuery (d : CmdDesc) (s : State) : Host.Outcome State Fault Refusal :=
  effect (d.wf) s (s.objQuery .search d)

/-- SEARCH_JOB_DESTROY (R94). -/
def execSearchJobDestroy (d : CmdDesc) (s : State) : Host.Outcome State Fault Refusal :=
  effect (d.wf) s (s.objDrain false .search d true)

/-- SEARCH_JOB_LIST (R84, R85). -/
def execSearchJobList (d : CmdDesc) (s : State) : Host.Outcome State Fault Refusal :=
  effect (d.wf) s (s.objList .search d)

/-- SEARCH_JOB_DISABLE (R91, R94). -/
def execSearchJobDisable (d : CmdDesc) (s : State) : Host.Outcome State Fault Refusal :=
  effect (d.wf) s (s.objDrain false .search d false)

/-- SEARCH_JOB_ENABLE (R91, R95). -/
def execSearchJobEnable (d : CmdDesc) (s : State) : Host.Outcome State Fault Refusal :=
  effect (d.wf) s (s.objEnable false .search d)

/-- CAL_JOB_CREATE (R86, R90, R326). -/
def execCalJobCreate (d : CmdDesc) (s : State) : Host.Outcome State Fault Refusal :=
  effect (d.wf) s (s.calCreate d)

/-- CAL_JOB_MODIFY (R86, R90, R326). -/
def execCalJobModify (d : CmdDesc) (s : State) : Host.Outcome State Fault Refusal :=
  effect (d.wf) s (s.objModify false .cal d)

/-- CAL_JOB_QUERY (R84, R327). -/
def execCalJobQuery (d : CmdDesc) (s : State) : Host.Outcome State Fault Refusal :=
  effect (d.wf) s (s.objQuery .cal d)

/-- CAL_JOB_DESTROY (R94). -/
def execCalJobDestroy (d : CmdDesc) (s : State) : Host.Outcome State Fault Refusal :=
  effect (d.wf) s (s.objDrain false .cal d true)

/-- CAL_JOB_LIST (R84, R85). -/
def execCalJobList (d : CmdDesc) (s : State) : Host.Outcome State Fault Refusal :=
  effect (d.wf) s (s.objList .cal d)

/-- CAL_JOB_DISABLE (R91, R94). -/
def execCalJobDisable (d : CmdDesc) (s : State) : Host.Outcome State Fault Refusal :=
  effect (d.wf) s (s.objDrain false .cal d false)

/-- CAL_JOB_ENABLE (R91, R95). -/
def execCalJobEnable (d : CmdDesc) (s : State) : Host.Outcome State Fault Refusal :=
  effect (d.wf) s (s.objEnable false .cal d)

/-- OBJ_DRAIN_END (R94). -/
def execObjDrainEnd (handle : Word) (s : State) : Host.Outcome State Fault Refusal :=
  effect true s (s.drainEnd handle false)

/-- OBJ_DRAIN_LIMIT (R94). -/
def execObjDrainLimit (handle : Word) (s : State) : Host.Outcome State Fault Refusal :=
  effect true s (s.drainEnd handle true)

end Sys2Proof.Machine
end

