-- ==== Sys2Proof/Machine/RegView.lean ====
section
/-! DEFINITION. What a read returns: the RO fields of every register, computed from the state (Tables MAP-3 to MAP-22 and the field
tables of the chapters), and the snapshots of the mailbox pages (R43, R44). -/

set_option Elab.async false

namespace Sys2Proof.Machine

/-- A signed value saturated into `w` bits, two's complement. -/
def satInt (w : Nat) (x : Int) : Nat := unsigned w (clampInt (-(2 ^ (w - 1) : Nat)) ((2 ^ (w - 1) : Nat) - 1) x)

/-! ## SYS, HIF, PWR, EVT, PERS -/

/-- SYS_ID: VARIANT and DEVICE (Table PWR-11). -/
def Variant.idCode : Variant → Nat × Nat
  | .hd9648gx => (1, 0x9648)
  | .hd9648nx => (2, 0x9649)
  | .hd9632nx => (3, 0x9632)

/-- SYS_CAP (Table DOC-2). -/
def State.sysCap (s : State) : Nat :=
  packed [(0, 12, 2 ^ s.variant.groups - 1), (12, 1, b2n s.variant.gnss), (13, 1, b2n s.variant.pair), (14, 1, 1),
    (15, 1, b2n (decide (8 < s.variant.tic))), (16, 16, bitMap (fun e => s.engPresent e) 16)]

/-- HIF_HOST_STAT.RATE (R73). -/
def State.hostRate (s : State) : Nat :=
  let w := s.hif.width * s.hif.mps
  let m := s.hif.mps + 24
  min 100 (match s.hif.gen with
    | 1 => 2 * w / m
    | 2 => 4 * w / m
    | 3 => 8 * 128 * w / (130 * m)
    | 4 => 16 * 128 * w / (130 * m)
    | _ => 0)

/-- The code of a ring state (Table HIF-7). -/
def RingState.code : RingState → Nat
  | .disabled => 0 | .run => 1 | .draining => 2 | .error => 3

/-- The code of a domain mode (PWR_DOM_STAT0). -/
def DomMode.code : DomMode → Nat
  | .on => 0 | .retention => 1 | .off => 2 | .moving => 3

/-- Modes of 16 domains from `d`. -/
def State.domWord (s : State) (d n : Nat) : Nat := packed ((List.range n).map (fun k => (2 * k, 2, (s.domMode (d + k)).code)))

/-- The RO fields of SYS, HIF, PWR, EVT and PERS. -/
def State.roSys (s : State) (p : Path) (k : RegKey) : Nat :=
  let r := s.ring k.i
  match k.name with
  | .sysId => packed [(0, 8, 0x11), (8, 8, s.variant.idCode.1), (16, 16, s.variant.idCode.2)]
  | .sysCap => s.sysCap
  | .sysReady => s.ready.toNat
  | .sysBootStat => packed [(0, 1, b2n s.boot.dirOk), (1, 1, b2n s.boot.cfgApplied), (2, 1, b2n s.boot.imgOk), (3, 1, b2n s.boot.imgEntry),
      (4, 1, b2n s.boot.cmdDone), (8, 8, s.boot.refused), (16, 16, s.boot.cmdFail)]
  | .sysKey => packed [(0, 1, b2n (s.key p).unlocked), (1, 1, b2n (s.key p).blocked), (8, 8, (s.key p).failCnt)]
  | .sysApplyStat => packed [(0, 1, b2n (s.pendingAt .frm)), (1, 1, b2n (s.pendingAt .idl)), (2, 1, b2n (s.pendingAt .sec)),
      (3, 1, b2n (s.pendingAt .epo)), (4, 1, b2n (s.pendingAt .cmt)), (5, 1, b2n s.pendingDom), (6, 1, b2n s.regs.cmtAtSec),
      (16, 11, s.regs.pend.length)]
  | .sysCfgerrCnt => packed [(0, 20, s.regs.cfgErr.length)]
  | .hifHostStat => if s.hif.linkUp then packed [(0, 4, s.hif.gen), (4, 4, s.hif.width), (8, 8, s.hostRate)] else 0
  | .hifRingStat => packed [(0, 2, r.state.code), (4, 4, r.errCause), (8, 8, r.disStatus.code), (16, 1, b2n r.phase), (17, 1, b2n r.armed),
      (18, 1, b2n r.cplWait)]
  | .hifRingIdx => packed [(0, 16, r.pidx), (16, 16, r.cidx)]
  | .pwrStat => packed [(0, 2, s.pwr.state), (2, 2, if s.pwr.seq = .idle then 0 else s.pwr.target), (4, 1, b2n (decide (s.pwr.seq ≠ .idle))),
      (5, 1, b2n s.pwr.pend.isSome), (6, 2, s.pwr.pend.getD 0), (8, 1, b2n s.pwr.wakeFail), (9, 1, b2n s.pwr.trimPart),
      (12, 4, s.pwr.failCause), (16, 8, s.pwr.failDom), (24, 2, s.pwr.ap)]
  | .pwrPadHeld => s.pwr.padHeld.toNat
  | .pwrDomStat0 => s.domWord 0 16
  | .pwrDomStat1 => s.domWord 16 4
  | .pwrEngStat => s.domWord 32 16
  | .evtStat => packed [(0, 1, b2n s.evt.faultN), (1, 1, b2n s.evt.first.isSome), (2, 7, s.evt.log.length)]
  | .persWord => (s.pers! k.i).toNat
  | .persStat =>
    let x := Tab.get (0, Status.ok) s.pers.last p
    packed [(0, 1, b2n (decide (s.pers.busy ≠ []))), (1, 4, s.pers.busy.length), (8, 9, x.1), (24, 8, x.2.code)]
  | _ => 0

/-! ## Lanes, ports, fabric, buffers, forwarding -/

/-- The code of a training state (Table LANE-12) and of a group state (Table LANE-9). -/
def TrainSt.code : TrainSt → Nat
  | .down => 0 | .full => 1 | .fast => 2 | .running => 3
def GrpSt.code : GrpSt → Nat
  | .inService => 0 | .draining => 1 | .removed => 2 | .training => 3 | .joining => 4

/-- The RO fields of LANE. -/
def State.roLane (s : State) (k : RegKey) : Nat :=
  let l := s.lane k.i
  match k.name with
  | .laneStat => packed [(0, 1, b2n l.sig), (1, 1, b2n l.cdr), (2, 1, b2n l.lock), (3, 1, b2n l.fecLock), (4, 1, b2n l.hiBer),
      (5, 2, l.train.code), (7, 1, b2n (l.txSq || s.apB Fld.laneCtrl_TX_SQUELCH k.i || s.calJobOn 1 (s.portOfLane k.i))), (16, 8, unsigned 8 l.temp)]
  | .lanePeak => packed [(0, 5, l.base), (8, 5, l.cur)]
  | .laneAdptStat => packed [(0, 1, b2n (decide (l.frozen ≠ 0))), (1, 2, l.frozen), (3, 1, b2n l.atLimit)]
  | .laneQual => packed [(0, 8, l.eyeW), (8, 10, l.eyeH), (18, 5, l.qPeak), (23, 1, b2n l.qValid), (24, 8, l.qSeq)]
  | .laneGrpStat => packed [(0, 3, (s.grp k.i).st.code), (8, 8, (s.grp k.i).disStatus.code)]
  | _ => 0

/-- The RO fields of PORT and SW. -/
def State.roFab (s : State) (k : RegKey) : Nat :=
  let x := s.port k.i
  let w := s.sw
  match k.name with
  | .portStat => if k.i = 96 then 0 else packed [(0, 1, b2n x.up), (1, 1, b2n x.holding), (2, 1, b2n x.flushed), (3, 1, b2n (s.portPreempt k.i)),
      (4, 1, b2n (s.queueHeld k.i 8)), (8, 8, bitMap (fun t => s.queueHeld k.i t) 8)]
  | .swAssured => packed [(0, 16, w.assured), (16, 5, (w.rings.filter (fun c => c.valid)).length)]
  | .swCanaryValid => bitMap (fun n => (w.rings.getD n {}).valid) 24
  | .swReq => packed [(0, 16, s.fAdm), (16, 16, w.fLoad)]
  | .swVsStat => packed [(0, 12, w.vset), (12, 1, b2n w.atMax), (13, 1, b2n (w.hwMax || w.canaryLow)), (14, 1, b2n w.avsFail)]
  | .swCond => packed [(0, 3, w.cond)]
  | .swFlowCnt => packed [(0, 15, s.objCount .flow)]
  | _ => 0

/-- F of R157 in 128-byte units. -/
def State.sharedUnits (s : State) : Nat := ((List.range 5).map (fun p => s.sharedFree p * bufUnits p)).sum

/-- A pool has buffers that retire under a carve in progress. -/
def State.poolRetiring (s : State) (p : Nat) : Bool :=
  match s.bpm.carve with
  | some _ => decide (s.keepLimit p < (s.pool p).count)
  | none => false

/-- The RO fields of BPM and FDB. -/
def State.roBpm (s : State) (k : RegKey) : Nat :=
  let q := s.req k.i
  match k.name with
  | .bpmPCnt => packed [(0, 19, (s.pool k.i).count)]
  | .bpmPFree => packed [(0, 19, s.freeIn k.i)]
  | .bpmPRsv => packed [(0, 19, (s.pool k.i).rsv)]
  | .bpmPStat => packed [(0, 1, b2n (s.pool k.i).bitmap), (1, 1, b2n (s.poolRetiring k.i)), (2, 1, b2n (s.pool k.i).rebuild)]
  | .bpmSharedFree => packed [(0, 20, s.sharedUnits)]
  | .bpmAuditStat => packed [(0, 1, b2n (s.apB Fld.bpmAuditCfg_EN || decide (s.bpm.auditRun ≠ []))), (8, 8, s.bpm.pass),
      (16, 16, s.bpm.lastPass.getD 2 0)]
  | .bpmHrTotal => packed [(0, 13, s.hrTotal)]
  | .bpmUsed => packed [(0, 19, q.used), (19, 7, q.hrUsed)]
  | .bpmReqStat => packed [(0, 8, if k.i < 96 then (s.port k.i).xoff else 0), (8, 1, b2n q.quota), (9, 1, b2n q.empty),
      (10, 1, b2n (decide (0 < s.hrPart k.i) && decide (s.hrPart k.i ≤ q.hrUsed)))]
  | .fdbStat => packed [(0, 19, s.fdbInUse), (19, 7, s.fdbStash)]
  | .fdbVerStat => packed [(0, 13, s.fdb.retired.length), (13, 1, b2n s.fdb.verFull)]
  | _ => 0

/-! ## Time, phase links, references, PLLs -/

/-- The RO fields of TCORE. -/
def State.roTcore (s : State) (k : RegKey) : Nat :=
  let t := s.tcore
  match k.name with
  | .tcoreStat => packed [(0, 1, b2n s.clk.active), (1, 2, t.tstate.code), (3, 1, b2n s.unlockedTime), (4, 1, b2n t.track),
      (5, 1, b2n (decide (60 ≤ t.trackS))), (6, 1, b2n t.swapPend.isSome), (7, 1, b2n (decide (t.steps ≠ []))), (8, 16, min 65535 t.trackS)]
  | .tcoreTrackErr => match t.trackErr with
    | none => 0x8000
    | some e => satSigned 16 e
  | .tcoreClass => t.quality.word
  | .tcoreChStat => packed [(0, 13, s.objCount .tchan)]
  | .tcorePortTstat => packed [(0, 1, b2n (s.calValid 1 k.i)), (8, 17, s.portLoadShown k.i)]
  | _ => 0

/-- The RO fields of LNK and REF. -/
def State.roRef (s : State) (k : RegKey) : Nat :=
  let x := s.lnkPort k.i
  let pr := (s.pairOf k.i).elim {} (fun a => s.lnkPair a)
  let c := s.cand k.i
  match k.name with
  | .lnkActiveMap => bitMap (fun n => decide ((s.lnkPort (32 * k.i + n)).st = .active)) 32
  | .lnkStat => packed [(0, 2, x.st.code), (2, 3, x.cause), (5, 1, b2n pr.ok), (6, 1, b2n pr.hold),
      (7, 1, b2n (s.spUsed k.i)), (8, 1, b2n x.partnerRefined)]
  | .lnkPhase => x.phi.elim 0 (fun p => unsigned 32 p)
  | .refTsel => candWord s.ref.tsel
  | .refFsel => candWord s.ref.fsel
  | .refStat => packed [(0, 1, b2n s.ref.stepPend.isSome), (1, 2, if s.tcore.tstate = .holdover then s.ref.ep.elim 0 (fun e => e.stage) else 0),
      (3, 1, b2n s.ref.budgetOver), (4, 1, b2n (s.ref.mdl.valid (secOf s.tod))), (5, 1, b2n s.prtc), (6, 1, b2n s.prc),
      (7, 1, b2n (decide (s.ref.bias ≠ 0))), (8, 1, b2n (s.ref.tsel.any (fun c => c != s.ap Fld.refPrefT_VAL))),
      (9, 1, b2n (s.ref.fsel.any (fun c => c != s.ap Fld.refPrefF_VAL))), (10, 1, b2n s.ref.tempStale)]
  | .refHoErr => if s.pair.follow then s.pair.mirror.elim 0 (fun t => t.hoErr)
      else if s.tcore.tstate = .holdover then s.ref.ep.elim 0 (fun e => min e.errNs (2 ^ 32 - 1)) else 0
  | .refHoTime => if s.tcore.tstate = .holdover then s.ref.ep.elim 0 (fun e => e.t) else 0
  | .refCandStat => packed [(0, 3, c.st.code), (4, 4, if s.candUnitAbsent k.i then 7 else c.cause), (8, 4, s.candQr k.i)]
  | _ => 0

/-- The RO fields of PLL; the settings that PLL-T and PLL-E hold fixed read their values (R275). -/
def State.roPll (s : State) (k : RegKey) : Nat :=
  let x := Tab.get {} s.pll.plls k.i
  let fixed := k.i = 0 ∨ k.i = 3
  match k.name with
  | .pllRampStat =>
    let r := (Tab.get {} s.pll.plls s.pll.rampPll : Pll).ramp
    packed [(0, 2, s.pll.rampPll), (2, 1, b2n (r.run && !r.suspended)), (3, 1, b2n r.suspended), (4, 4, r.seg)]
  | .pllCfg => if fixed then fieldOf k.reset 0 2 + fieldOf k.reset 10 1 * 1024 else 0
  | .pllRatioN => if fixed then k.reset.toNat else 0
  | .pllRatioNum => if fixed then k.reset.toNat else 0
  | .pllRatioDen => if fixed then k.reset.toNat else 0
  | .pllStat => packed [(0, 3, x.st.code), (3, 1, b2n x.bypOsc), (4, 1, b2n s.pll.refclkOk), (5, 1, b2n x.ramp.run), (6, 1, b2n x.aligned),
      (8, 3, if x.st = .bypass then x.bg.code else 0), (12, 4, x.cause), (16, 16, satInt 16 x.phErr)]
  | _ => 0

/-! ## GNSS, TIC, CAL -/

/-- The RO fields of GNSS. -/
def State.roGnss (s : State) (k : RegKey) : Nat :=
  let g := s.gnss
  let x := s.gnssCh k.i
  match k.name with
  | .gnssStat => packed [(0, 1, b2n g.valid), (1, 1, b2n g.bursting), (2, 1, b2n s.assistOk), (3, 1, b2n g.clkOk), (4, 1, b2n g.survey.run),
      (5, 1, b2n g.sol.weekOk), (8, 7, ((List.range 64).filter (fun c => (s.gnssCh c).tracking)).length), (16, 5, 24 - g.out.length)]
  | .gnssFeStat => packed [(0, 7, g.mag1), (8, 7, g.mag5), (16, 1, b2n g.fault1), (17, 1, b2n g.fault5), (20, 12, satInt 12 g.clkPpm)]
  | .gnssSolStat => packed [(0, 1, b2n g.valid), (1, 1, b2n (decide (0 < g.paired))), (8, 6, g.used), (16, 6, g.paired),
      (24, 8, min 255 (g.sol.rmsPs / 1000))]
  | .gnssSectStat => bitMap (fun n => !(g.out.contains n)) 24
  | .gnssChStat => packed [(0, 3, x.st.code), (3, 1, b2n (s.gnssPaired k.i)), (4, 1, b2n x.txValid), (8, 8, x.cn0 / 100)]
  | _ => 0

/-- The RO fields of TIC and CAL. -/
def State.roTic (s : State) (k : RegKey) : Nat :=
  let x := s.ticCh k.i
  match k.name with
  | .ticStat => packed [(0, 16, bitMap (fun c => (s.ticCh c).armed) 16), (16, 1, b2n s.tic.tbOk), (17, 1, b2n s.tic.tbLock)]
  | .ticChStat => packed [(0, 1, b2n x.armed), (1, 1, b2n (x.armed && x.args.gate && !(s.ticGate k.i))), (2, 1, b2n x.waitBase),
      (3, 1, b2n (s.calValid 2 k.i)), (4, 1, b2n (s.calJobOn 2 k.i))]
  | .calStat => packed [(0, 5, (s.cal.jobs.filter (fun e => e.2.running)).length), (8, 8, unsigned 8 (s.cal.temp / 256)),
      (16, 1, b2n s.cal.restored), (17, 1, b2n s.cal.setBad), (18, 1, b2n s.cal.saving.isSome)]
  | .calValidTs => bitMap (fun n => s.calValid 1 (32 * k.i + n)) 32
  | .calValidLane => bitMap (fun n => s.calValid 0 (32 * k.i + n)) 32
  | .calValidTic => bitMap (fun c => s.calValid 2 c) 16
  | _ => 0

/-! ## ENG, PAIR, PERF -/

/-- The reloads of the last hour. -/
def State.reloadCount (s : State) (e : Nat) : Nat :=
  ((s.engOf e).reloads.filter (fun t => decide (s.clk.now < t + 3600 * 10 ^ 12))).length

/-- Messages per second of an engine's channels in units of 4. -/
def State.engMsgs (s : State) (e : Nat) : Nat :=
  ((s.chansOfEng e).map (fun i => (s.obj .tchan i).chanLoad (s.tchan i).role)).sum / 8

/-- The RO fields of ENG. -/
def State.roEng (s : State) (k : RegKey) : Nat :=
  let e := s.engOf k.i
  match k.name with
  | .engStat => packed [(0, 16, bitMap (fun e => decide ((s.engOf e).st = .run)) 16), (16, 16, bitMap (fun e => decide ((s.engOf e).st = .fault)) 16)]
  | .engJfmt => packed [(0, 16, s.jfmt)]
  | .engSecVer => packed [(0, 16, s.secFloor), (16, 16, s.secVerRun)]
  | .engSpadFw => s.eng.fwBanks
  | .engTask =>
    let t := s.task k.i
    packed [(0, 5, t.holder.getD 0x1F), (8, 5, t.standby.getD 0x1F), (16, 1, b2n t.pin.isSome)]
  | .engEStat => packed [(0, 3, e.st.code), (4, 4, e.cause), (8, 8, min 255 (s.reloadCount k.i)), (16, 16, e.image.elim 0 (fun x => x.fmt))]
  | .engEVer => if e.st = .off ∨ e.st = .idle then 0 else e.image.elim 0 (fun x => x.version)
  | .engELoad => packed [(0, 10, (s.chansOfEng k.i).length), (16, 16, s.engMsgs k.i)]
  | _ => 0

/-- The RO fields of PAIR. -/
def State.roPair (s : State) (k : RegKey) : Nat :=
  let p := s.pair
  match k.name with
  | .pairStat => packed [(0, 2, p.role.code), (2, 3, p.st.code), (5, 1, b2n p.omd.ok), (6, 1, b2n p.inb.ok), (7, 1, b2n p.mirrorOk),
      (8, 1, b2n p.follow), (9, 1, b2n p.switchAt.isSome), (10, 1, b2n p.rehearsing), (12, 4, p.lanes)]
  | .pairTenure => packed [(0, 32, p.primaryS)]
  | .pairTimeDiff => if p.follow then satInt 32 (fracToPs p.timeOff) else 0x80000000
  | _ => 0

/-- CYC reads 0 in OFF; a counter of events is a free value while it counts (log entry 44). -/
def State.cycNow (s : State) (e : Nat) : Nat := if (s.engOf e).st = .off then 0 else s.cycOf e
def State.pcWord (s : State) (e k : Nat) (hi : Bool) (n : Nat) : Nat :=
  match s.pcKnown e k with
  | some v => if hi then v / 2 ^ 32 % 65536 else v % 2 ^ 32
  | none => if hi then (Config.freeWord (s.free + n)).toNat % 65536 else (Config.freeWord (s.free + n)).toNat

/-- The RO fields of PERF. -/
def State.roPerf (s : State) (k : RegKey) : Nat :=
  match k.name with
  | .perfTagStat => packed [(0, 13, s.eng.tags.length)]
  | .perfSampStat => packed [(0, 13, s.eng.samples.length)]
  | .perfCycLo => s.cycNow k.i % 2 ^ 32
  | .perfCycHi => s.cycNow k.i / 2 ^ 32
  | .perfPcLo => s.pcWord k.i k.j false 0
  | .perfPcHi => s.pcWord k.i k.j true 0
  | _ => 0

/-! ## The word that a read returns -/

/-- The RO bits of a register, for the reading path. -/
def State.roBits (s : State) (p : Path) (k : RegKey) : Nat :=
  match k.name.row.block with
  | .lane => s.roLane k
  | .port => s.roFab k
  | .sw => s.roFab k
  | .bpm => s.roBpm k
  | .fdb => s.roBpm k
  | .tcore => s.roTcore k
  | .lnk => s.roRef k
  | .ref => s.roRef k
  | .pll => s.roPll k
  | .gnss => s.roGnss k
  | .tic => s.roTic k
  | .cal => s.roTic k
  | .eng => s.roEng k
  | .pair => s.roPair k
  | .perf => s.roPerf k
  | _ => s.roSys p k

/-- What a read of a register returns (R23): the written copy of RW and KW fields, the RO fields, the RC bits; zero where the unit
is absent (R3), and only the written copy while the domain is not on (R426). -/
def State.readReg (s : State) (p : Path) (k : RegKey) : Word :=
  if !(s.regPresent k) then 0
  else
    let w := if k.name = .persWord then 0 else s.written k &&& k.storedMask
    if s.regDown k then w else w ||| s.rcWord k ||| BitVec.ofNat 32 (s.roBits p k)

/-! ## Mailbox pages (R43, R44) -/

/-- What a request captures: the state after it, the status, the words. -/
abbrev Snap := State × Status × List Nat
def State.snapOk (s : State) (l : List Nat) : Snap := (s, .ok, l)
def State.snapNo (s : State) (st : Status) : Snap := (s, st, [])

/-- The two words of a TS48 (Table HIF-9d layout of its parts: ns; frac and TSF). -/
def Ts48.words (t : Ts48) : List Nat := [t.ns, packed [(0, 16, t.frac), (16, 1, b2n t.valid), (17, 1, b2n t.unlocked), (18, 1, b2n t.core)]]

/-- Time of a core: ns, seconds, the high seconds with frac. -/
def todWords (t : Nat) : List Nat := [nsOf t, secOf t % 2 ^ 32, packed [(0, 16, secOf t / 2 ^ 32), (16, 16, fracOf t)]]

/-- A number as two words. -/
def nat64 (x : Nat) : List Nat := [x % 2 ^ 32, x / 2 ^ 32 % 2 ^ 32]

/-- A 97-bit port set as four words. -/
def setWords (x : Nat) : List Nat := (List.range 4).map (fun k => x / 2 ^ (32 * k) % 2 ^ 32)

/-- A log entry (EVT mailbox). -/
def EvtEntry.words (e : EvtEntry) : List Nat :=
  packed [(0, 16, e.code), (16, 8, e.sev)] :: (e.ts.words ++ [e.arg0, e.arg1, e.arg2, packed [(0, 16, if e.host then e.seq else 0xFFFF), (16, 1, b2n e.host)]])

/-- SYS, EVT and PERS mailboxes. -/
def State.mbxSys (s : State) (b : Block) (sel : Nat) : Snap :=
  match b with
  | .sys =>
    let l := s.regs.cfgErr.mergeSort
    if sel < 4 then s.snapOk ((List.range 16).map (fun k => l.getD (16 * sel + k) 0))
    else if sel = 4 then s.snapOk [packed [(0, 20, l.length), (31, 1, b2n (decide (64 < l.length)))]]
    else s.snapNo .badArg
  | .evt =>
    if sel < 64 then match s.evt.log[sel]? with
      | some e => s.snapOk e.words
      | none => s.snapNo .notReady
    else if sel = 0x100 then match s.evt.first with
      | some e => s.snapOk e.words
      | none => s.snapNo .notReady
    else s.snapNo .badArg
  | _ =>
    if sel < 0x200 then s.snapOk [s.wear sel]
    else if sel = 0x200 then s.snapOk [((List.range 512).filter (fun w => decide (200000 ≤ s.wear w))).length]
    else s.snapNo .badArg

/-- LANE, PORT and SW mailboxes. -/
def State.mbxLane (s : State) (b : Block) (sel : Nat) : Snap :=
  let n := sel % 256
  let h := sel / 256
  let l := s.lane n
  match b with
  | .lane =>
    if 96 ≤ n ∨ 2 ≤ h then s.snapNo .badArg
    else if s.variant.ports ≤ n then s.snapNo .unsupported
    else if h = 0 then s.snapOk (nat64 l.blocks ++ nat64 l.hdrErr ++ nat64 l.fecCorr ++ nat64 l.fecUncorr)
    else s.snapOk [packed [(0, 8, l.base), (8, 8, unsigned 8 l.temp)], packed [(0, 16, l.trainW), (16, 16, l.trainH)], l.trainSec, l.retrains]
  | .port =>
    if 97 ≤ n ∨ 3 ≤ h then s.snapNo .badArg
    else if !(s.portExists n) then s.snapNo .unsupported
    else
      let x := s.port n
      if h = 0 then s.snapOk ((List.range 8).flatMap (fun q => nat64 (Tab.get 0 x.sent q)))
      else if h = 2 then s.snapOk (nat64 (Tab.get 0 x.sent 8))
      else match x.gcl with
        | none => s.snapOk [n, 0, 0, 0, 0, 0, 0, 0]
        | some g =>
          let bytes := leBytes n 2 ++ leBytes g.entries.length 2 ++ leBytes g.cycle 4 ++ leBytes g.baseS 6 ++ leBytes g.baseNs 4 ++
            leBytes g.cycExt 2
          s.snapOk ((List.range 8).map (fun k => leAt bytes (4 * k) 4))
  | _ =>
    if sel = 0 then s.snapOk ((List.range 12).map (fun i => packed [(0, 16, (s.sw.rings.getD (2 * i) {}).rate), (16, 16, (s.sw.rings.getD (2 * i + 1) {}).rate)]))
    else if sel = 1 then (({ s with sw := { s.sw with lowest := s.sw.assured } } : State).snapOk [s.sw.lowest, s.sw.currentMa])
    else if h ≠ 1 ∨ 96 ≤ n then s.snapNo .badArg
    else if !(s.portExists n) then s.snapNo .unsupported
    else
      let fl := s.flowsTo n none
      let t := s.gateTerms n ((fl.map (fun x => x.maxFrame)).foldl max 0)
      s.snapOk [(fl.map (fun a => a.maxFrame + 20)).sum, (fl.map (fun a => a.kbps)).sum, fl.length, t.2 / 100, t.1.1 * 65536 / t.1.2, s.lTerm n]

/-- Buffers of pool `p` that requester `r` holds. -/
def State.heldBy (s : State) (r p : Nat) : Nat :=
  (s.bpm.bufs.filter (fun e => e.2.owner == r && bufPool e.1 == p)).length

/-- BPM and FDB mailboxes. -/
def State.mbxBpm (s : State) (b : Block) (sel : Nat) : Snap :=
  match b with
  | .bpm =>
    if sel < 106 then
      if sel < 96 ∧ s.variant.ports ≤ sel then s.snapNo .unsupported
      else s.snapOk ((List.range 5).map (fun p => s.heldBy sel p) ++ [(s.req sel).hrDisc])
    else if 0x100 ≤ sel ∧ sel < 0x105 then
      let p := sel - 0x100
      let x := s.pool p
      s.snapOk [x.base, x.count, s.freeIn p, x.rsv, if p = 3 then s.hrTotal else 0, s.sharedFree p, b2n x.bitmap]
    else if sel = 0x200 then s.snapOk s.bpm.lastPass
    else s.snapNo .badArg
  | _ =>
    if sel < 0x400 then
      let x := (s.cbFn? sel).getD { type := 3, hist := 0, resetMs := 0, pop := false, ports := 0 }
      s.snapOk [x.passed, x.discarded, x.outOfOrder, x.rogue, x.lost, x.tagless, x.resets, packed [(0, 16, x.recov.getD 0), (16, 16, x.nextSeq)]]
    else if 0x1000 ≤ sel ∧ sel < 0x2000 then
      let v := s.vlan (sel - 0x1000)
      s.snapOk (setWords v.1 ++ setWords v.2)
    else if 0x2000 ≤ sel ∧ sel < 0x3000 then s.snapOk (setWords (s.mcGroup (sel - 0x2000)))
    else s.snapNo .badArg

/-- TCORE and LNK mailboxes. -/
def State.mbxTcore (s : State) (b : Block) (sel : Nat) : Snap :=
  let t := s.tcore
  match b with
  | .tcore =>
    if sel = 0 then s.snapOk (todWords s.tod ++ [packed [(0, 1, b2n s.clk.active), (1, 1, b2n s.unlockedTime), (2, 2, t.tstate.code)]])
    else if sel = 1 then s.snapOk (todWords s.clk.tcA ++ todWords s.clk.tcB ++ [b2n s.clk.active + 2 * b2n t.track])
    else if sel = 2 then s.snapOk ([unsigned 32 s.clk.rate] ++ words64 t.lastOff ++ [t.samples, t.tstate.code])
    else if 0x100 ≤ sel ∧ sel < 0x160 then
      let p := sel - 0x100
      if s.variant.ports ≤ p then s.snapNo .unsupported
      else
        let x := s.portPtp p
        s.snapOk (x.lastIn.words ++ x.lastOut.words ++ [x.rx, x.tx])
    else if 0x1000 ≤ sel ∧ sel < 0x2000 then
      if (s.obj? .tchan (sel - 0x1000)).isNone then s.snapNo .handleStale else s.snapOk (s.tchanWords (sel - 0x1000))
    else s.snapNo .badArg
  | _ =>
    let p := sel % 256
    if 0x200 ≤ sel ∨ 96 ≤ p then s.snapNo .badArg
    else if s.variant.ports ≤ p then s.snapNo .unsupported
    else if sel < 0x100 then
      let x := s.lnkPort p
      s.snapOk (words64 x.r ++ words64 x.th0 ++ words64 x.a ++ words64 x.th)
    else if s.ap Fld.lnkPortCfg_MODE p ≠ 2 then s.snapNo .badArg
    else
      let x := s.lnkPair p
      s.snapOk (words64 x.rA ++ words64 x.rB ++ words64 (x.rA - x.rB) ++ words64 (x.abar.getD 0) ++ words64 x.l1 ++ words64 x.l2 ++
        [min x.taken (2 ^ 32 - 1), x.holdS])

/-- REF and PLL mailboxes. -/
def State.mbxRef (s : State) (b : Block) (sel : Nat) : Snap :=
  match b with
  | .ref =>
    if sel < 103 then
      let c := s.cand sel
      s.snapOk (words64 c.off ++ [unsigned 32 (c.ppb * 17592186044416 / 1000000000), c.samples])
    else if sel = 0x200 then s.snapOk (s.ref.mdl.nodes.flatMap (fun n => [unsigned 32 n.y, n.n]))
    else if sel = 0x201 then
      let e := s.ref.ep
      s.snapOk [unsigned 32 s.ref.mdl.a, e.elim 0 (fun e => unsigned 32 e.fe), e.elim 0 (fun e => unsigned 32 e.te),
        e.elim 0 (fun e => e.e0 / (1000 * 172800)), unsigned 32 (s.ref.bias / 65536)]
    else if sel = 0x202 then
      let id := s.ref.stepPend
      s.snapOk (words64 (id.elim 0 (fun c => (s.cand c).off)) ++ [candWord id])
    else if 0x1000 ≤ sel ∧ sel < 0x2000 then
      let i := sel - 0x1000
      if (s.obj? .tchan i).isNone then s.snapNo .handleStale
      else
        let id := s.chanId i
        let c := s.cand id
        s.snapOk ([packed [(0, 8, c.st.code), (8, 8, c.cause), (16, 8, s.candQr id)], s.candPrio id] ++ words64 c.off)
    else s.snapNo .badArg
  | _ =>
    if sel < 4 then
      let x := Tab.get {} s.pll.plls sel
      ({ s with free := s.free + 2 } : State).snapOk ([(Config.freeWord s.free).toNat, (Config.freeWord (s.free + 1)).toNat] ++
        words64 (psToFrac x.phErr) ++ [(x.bypPs + (if x.st = .bypass then s.clk.now - x.bypAt else 0)) / 10 ^ 12])
    else if 0x10 ≤ sel ∧ sel < 0x14 then
      let r := (Tab.get {} s.pll.plls (sel - 0x10) : Pll).ramp
      let ms := r.doneMs + (if r.run && !r.suspended then (s.clk.now - r.since) / 10 ^ 9 else 0)
      s.snapOk (words64 (s.rampX (sel - 0x10)) ++ [r.seg, ms])
    else if 0x20 ≤ sel ∧ sel < 0x2C then
      if s.variant.groups ≤ sel - 0x20 then s.snapNo .unsupported
      else s.snapOk (todWords (s.ltxEdge (sel - 0x20)))
    else s.snapNo .badArg

/-- GNSS mailbox (Tables GNSS-4 and GNSS-8). -/
def State.mbxGnss (s : State) (sel : Nat) : Snap :=
  let g := s.gnss
  if sel < 64 then
    let x := s.gnssCh sel
    match x.tracking, x.meas with
    | true, some m => s.snapOk ([x.word0] ++ nat64 m.txTime ++ words64 m.carrier ++ [unsigned 32 m.doppler, min m.lockMs (2 ^ 32 - 1), g.epochs])
    | true, none => s.snapOk (s.gnssWord0 sel x.slip :: List.replicate 6 0 ++ [g.epochs])
    | false, _ => s.snapOk (s.gnssWord0 sel x.slip :: List.replicate 7 0)
  else if sel = 0x100 then
    s.snapOk ([g.epochs] ++ todWords g.epoch.ts ++
      [packed [(0, 7, g.epoch.latched), (8, 1, b2n g.epoch.core), (9, 1, b2n g.epoch.unlocked)], g.epoch.delayPs])
  else if sel = 0x101 then
    let v := g.sol
    s.snapOk (words64 v.o ++ [unsigned 32 v.freq, packed [(0, 8, g.used), (8, 8, g.paired), (16, 16, min 65535 v.rmsPs)], v.tdop, unsigned 32 v.x,
      unsigned 32 v.y, unsigned 32 v.z, g.solEpoch])
  else if 0x200 ≤ sel ∧ sel < 0x220 then
    if (s.obj? .search (sel - 0x200)).isNone then s.snapNo .handleStale else s.snapOk (s.searchWords (sel - 0x200))
  else if sel = 0x300 then
    let m := g.survey.mean
    s.snapOk [g.survey.n, g.survey.sigma, unsigned 32 m.1, unsigned 32 m.2.1, unsigned 32 m.2.2]
  else s.snapNo .badArg

/-- A node of a calibration set (CAL mailbox). -/
def State.calNodeWords (s : State) (t i k : Nat) : List Nat :=
  let n := s.calNode? ⟨t, i, k⟩
  let x := n.getD {}
  let b : Int := if t = 1 ∨ t = 2 then x.b else 0
  words64 x.a ++ words64 b ++ [packed [(0, 1, b2n n.isSome), (8, 8, unsigned 8 (calNodeTemp k / 256))], x.quality]

/-- TIC and CAL mailboxes. -/
def State.mbxTic (s : State) (b : Block) (sel : Nat) : Snap :=
  match b with
  | .tic =>
    let c := sel % 256
    if 16 ≤ c ∨ 0x200 ≤ sel then s.snapNo .badArg
    else if s.variant.tic ≤ c then s.snapNo .unsupported
    else if sel < 0x100 then s.snapOk (s.ticWords c)
    else s.snapOk (s.ticLast c)
  | _ =>
    if sel < 16 then (if (s.obj? .cal sel).isNone then s.snapNo .handleStale else s.snapOk (s.calWords sel))
    else if 0x1000 ≤ sel ∧ sel < 0x2400 then
      let t := (sel - 0x1000) / 0x400
      let i := (sel - 0x1000) % 0x400 / 8
      let k := sel % 8
      if (if t = 4 then 1 else if t = 2 then 16 else 96) ≤ i ∨ (t = 3 ∧ k ≠ 0) then s.snapNo .badArg
      else if s.calInstAbsent t i then s.snapNo .unsupported
      else s.snapOk (s.calNodeWords t i k)
    else if 0x4000 ≤ sel ∧ sel < 0x4000 + 0x100 * 96 then
      let n := (sel - 0x4000) / 0x100
      if s.variant.ports ≤ n then s.snapNo .unsupported
      else s.snapOk (words64 (((s.calNode? ⟨0, n, sel % 0x100 / 0x20⟩).getD {}).codes.getD (sel % 0x20) 0))
    else s.snapNo .badArg

/-- ENG and PAIR mailboxes. -/
def State.mbxEng (s : State) (b : Block) (sel : Nat) : Snap :=
  match b with
  | .eng =>
    if sel < 16 then
      if !(s.engPresent sel) then s.snapNo .unsupported
      else
        let h := (s.engOf sel).image.elim [] (fun x => x.header)
        s.snapOk ((List.range 16).map (fun k => leAt h (4 * k) 4))
    else if 0x100 ≤ sel ∧ sel < 0x10B then
      let t := s.task (sel - 0x100)
      s.snapOk [t.size, t.entry, t.entryNs % 1000000000, t.entryNs / 1000000000 % 2 ^ 32]
    else s.snapNo .badArg
  | _ =>
    let p := s.pair
    match sel with
    | 0 => match p.peer with
      | none => s.snapOk [0, 0, 0, 0]
      | some h => s.snapOk [packed [(0, 16, h.pairId), (16, 1, h.unitId), (17, 2, h.role), (19, 3, h.state), (22, 1, b2n h.inbOk), (24, 8, h.tstate)],
          h.primaryS % 2 ^ 32, h.lastSeq % 2 ^ 32, 0]
    | 1 =>
      let age := p.queue.head?.elim 0 (fun e => (s.clk.now - e.2) / 1000000)
      s.snapOk [p.queue.length, min age (2 ^ 32 - 1), p.resyncMs, (s.fdb.entries.filter (fun e => e.2.mirrored)).length, s.objCount .flow]
    | 2 => s.snapOk ((List.range 4).map (fun k => leAt p.rehearsal (4 * k) 4))
    | 3 => s.snapOk (words64 p.timeOff ++ words64 p.timeRtt)
    | _ => s.snapNo .badArg

/-- A tag record (Table PERF-2). -/
def TagRec.words (r : TagRec) : List Nat :=
  [packed [(0, 7, r.ingress), (7, 7, r.egress), (14, 4, r.q), (18, 14, r.len)], r.ns] ++
    (List.range 7).map (fun k => ((r.stages.getD k none).getD 0xFFFFFFFF))

/-- PERF mailbox: a request for a record removes the oldest. -/
def State.mbxPerf (s : State) (sel : Nat) : Snap :=
  if sel = 0 then match s.eng.tags with
    | [] => s.snapNo .notReady
    | r :: l => ({ s with eng := { s.eng with tags := l } } : State).snapOk r.words
  else if sel = 1 then match s.eng.samples with
    | [] => s.snapNo .notReady
    | r :: l => ({ s with eng := { s.eng with samples := l } } : State).snapOk [r.1 % 16, r.2.1, r.2.2.1, r.2.2.2]
  else if 0x100 ≤ sel ∧ sel < 0x110 then
    let e := sel - 0x100
    if !(s.engPresent e) then s.snapNo .unsupported
    else
      let pcs := (List.range 8).map (fun k => s.pcWord e k false (2 + 2 * k) + s.pcWord e k true (3 + 2 * k) * 2 ^ 32)
      let bytes := (pcs.map (fun v => leBytes v 6)).flatten
      ({ s with free := s.free + 18 } : State).snapOk ([s.cycNow e % 2 ^ 32, s.cycNow e / 2 ^ 32] ++ (List.range 12).map (fun k => leAt bytes (4 * k) 4))
  else if sel = 0x200 then
    s.snapOk ((List.range 16).map (fun e => if s.engPresent e then s.cycNow e % 2 ^ 32 else 0))
  else s.snapNo .badArg

/-- The block has a mailbox: HIF and PWR have no wide values (Table MAP-2). -/
def Block.hasMbx (b : Block) : Bool := decide (b ≠ .hif) && decide (b ≠ .pwr)

/-- The unit of a block is present. -/
def State.blockPresent (s : State) (b : Block) : Bool :=
  match b with
  | .gnss => s.variant.gnss
  | .pair => s.variant.pair
  | _ => true

/-- The domain that a request of a block needs is on (R426): a lane's, or the block's. -/
def State.mbxDown (s : State) (b : Block) (sel : Nat) : Bool :=
  let d : Option Nat := match b with
    | .lane => if sel % 256 < 96 then some (sel % 256 / 8) else none
    | .port => some 12
    | .sw => some 12
    | .bpm => some 12
    | .fdb => some 12
    | .lnk => if sel % 256 < 96 then some (sel % 256 / 8) else none
    | .gnss => some 14
    | .tic => some 15
    | .eng => some 17
    | .perf => some 17
    | .pair => some 19
    | _ => none
  d.any (fun n => !(s.domOn n))

/-- The snapshot of a selector. -/
def State.mbxSnap (s : State) (b : Block) (sel : Nat) : Snap :=
  if s.mbxDown b sel then s.snapNo .notReady
  else match b with
    | .lane => s.mbxLane b sel
    | .port => s.mbxLane b sel
    | .sw => s.mbxLane b sel
    | .bpm => s.mbxBpm b sel
    | .fdb => s.mbxBpm b sel
    | .tcore => s.mbxTcore b sel
    | .lnk => s.mbxTcore b sel
    | .ref => s.mbxRef b sel
    | .pll => s.mbxRef b sel
    | .gnss => s.mbxGnss sel
    | .tic => s.mbxTic b sel
    | .cal => s.mbxTic b sel
    | .eng => s.mbxEng b sel
    | .pair => s.mbxEng b sel
    | .perf => s.mbxPerf sel
    | _ => s.mbxSys b sel

/-- A write of _MBX_REQ (R44): the path's page holds the new snapshot; an absent unit ignores the write (R3). -/
def State.mbxAsk (s : State) (p : Path) (b : Block) (v : Word) : State :=
  if !(s.blockPresent b) then s
  else
    let x := s.mbxSnap b (fieldOf v 0 16)
    { x.1 with mbx := Tab.set x.1.mbx (b, p) { valid := true, status := x.2.1.code, data := x.2.2.map (fun w => BitVec.ofNat 32 w) } }

/-- A page. -/
def State.mbxPage (s : State) (p : Path) (b : Block) : MbxSt := Tab.get {} s.mbx (b, p)

/-- What offset `o` of a page reads (Table REG-6, R45). -/
def State.mbxRead (s : State) (p : Path) (b : Block) (o : Nat) : Word :=
  let x := s.mbxPage p b
  if o = 4 then BitVec.ofNat 32 (packed [(0, 1, b2n x.valid), (8, 8, x.data.length), (16, 8, x.status)])
  else if 0x40 ≤ o ∧ o < 0x80 ∧ x.valid then x.data.getD ((o - 0x40) / 4) 0
  else 0

/-- The last data word has been returned with its byte 3: VALID clears (R45). -/
def State.mbxTaken (s : State) (p : Path) (b : Block) (o : Nat) : State :=
  let x := s.mbxPage p b
  if x.valid ∧ 0x40 ≤ o ∧ (o - 0x40) / 4 + 1 = x.data.length then { s with mbx := Tab.set s.mbx (b, p) { x with valid := false } } else s

end Sys2Proof.Machine
end

