-- ==== Sys2Proof/Machine/RegSet.lean ====
section
/-! DEFINITION. Accesses to BAR0 (R21 to R45): plain, alias and masked writes, SYS_KEY, the mailbox requests, reads with the clearing
of RC bits, and what an applied-copy error stops (R422). -/

set_option Elab.async false

namespace Sys2Proof.Machine

/-! ## Instances that stop and resume (R422) -/

/-- READY of a block whose function runs again. -/
def State.blockUsable (s : State) (b : Block) : Bool :=
  match b with
  | .hif => s.hif.linkUp
  | .eng => decide (s.runners ≠ [])
  | .pair => s.pair.lanes != 0
  | b => s.blockPresent b

/-- The instance that holds a word has stopped; the units that depend on it act as Table ARC-2 says (R421): candidate 102 is
disqualified with the baseband, pair operation ends with PAIR. -/
def State.unitStop (s : State) (k : RegKey) : State :=
  let t : State := { s with regs := { s.regs with stopped := k :: s.regs.stopped.filter (fun x => decide (x ≠ k)) } }
  let halt := fun (s : State) (e : Nat) => if s.engRuns e then (s.goEng e .fault).engLeaves e true else s
  match k.unit with
  | .lane n => t.laneStop n
  | .grp g => (grpLanes g).foldl (fun s n => s.laneStop n) t
  | .port p => t.portLoss p
  | .lnk p => t.chansChanged p
  | .gnssCh c => t.gnssRebind s c
  | .ticCh c => t.ticAbandon c
  | .eng e => (halt t e).engReady
  | .block .lnk => (t.lnkEvalAll).setReady Rdy.lnk false
  | .block .tic => (t.ticDown).setReady Rdy.tic false
  | .block .gnss => t.gnssDown false
  | .block .pair => t.pairCommit.setReady Rdy.pair false
  | .block .eng => ((List.range 16).foldl halt t).setReady Rdy.eng false
  | .block .perf => t
  | .block b =>
    if b = .ref ∨ b = .tcore ∨ b = .pll then t
    else match b.readyBit with
      | some r => t.setReady r false
      | none => t

/-- The write of a stopped word has let its instance run again, unless another of its words is in error. -/
def State.unitResume (s : State) (k : RegKey) : State :=
  if s.halted k.unit then s
  else match k.unit with
    | .lane n => s.laneRetrain n
    | .grp g => (grpLanes g).foldl (fun s n => s.laneRetrain n) s
    | .port p => if s.portLocked p then s.portUp p else s
    | .lnk p => s.chansChanged p
    | .gnssCh c => if (s.gnssSat c).isSome ∧ s.gnssOn then s.goGnssCh c .pullIn else s
    | .ticCh c => s.ticSample c
    | .eng e => if (s.engOf e).st = .fault then s.goEng e .replay else s
    | .block .tic => (s.setReady Rdy.tic (s.domOn 15)).ticUp
    | .block .gnss => if s.gnssOn then s.gnssUp else s
    | .block .pair => (s.setReady Rdy.pair (s.blockUsable .pair)).pairCommit
    | .block .lnk => (s.setReady Rdy.lnk true).lnkEvalAll
    | .block .eng => (List.range 16).foldl (fun s e => if (s.engOf e).st = .fault then s.goEng e .replay else s) s
    | .block b =>
      if b = .ref ∨ b = .tcore ∨ b = .pll then s
      else match b.readyBit with
        | some r => s.setReady r (s.blockUsable b)
        | none => s

/-! ## What follows a write -/

/-- The unit acts on settings that took effect with the write; `old` is the state before it. -/
def State.regActs (s old : State) (k : RegKey) : State :=
  match k.name with
  | .tcoreCtrl =>
    if !(s.apB Fld.tcoreCtrl_SERVO_EN) then { s with clk := { s.clk with rate := s.apI Fld.tcoreRate_VAL } }
    else if !(old.apB Fld.tcoreCtrl_SERVO_EN) then s.reselect else s
  | .tcoreRate =>
    if !(s.apB Fld.tcoreCtrl_SERVO_EN) then { s with clk := { s.clk with rate := s.apI Fld.tcoreRate_VAL } } else s
  | .refCandCfg => s.candChanged k.i
  | .refCfg => s.reselect
  | .refQlCfg => s.limitsChanged
  | .lnkPortCfg => s.chansChanged k.i
  | .swVsCtrl => s.vsCtrlApplied
  | .bpmAlpha => s.xoffUpdate
  | .portCfg => s.xoffUpdate
  | .ticCfg => if s.tic.tbOk && !(s.apB Fld.ticCfg_TB_EN) then s.ticTbLoss s.tic.tbLock else s
  | _ => s

/-- After a write has been stored: the unit acts, FRM fields of a port without a frame in transfer apply, a stopped instance
resumes. -/
def State.regAfter (s old : State) (k : RegKey) : State :=
  let s1 := s.regActs old k
  let s2 := match s1.frmPort k with
    | some p => s1.frmNow p
    | none => s1
  if old.regs.stopped.contains k ∧ !(s2.regs.stopped.contains k) then s2.unitResume k else s2

/-! ## Writes of words -/

/-- A write of the bits `v` of SYS_COMMIT (R35): a write with COMMIT and DISCARD is ignored. -/
def State.commitWrite (s : State) (v : Nat) : State :=
  if bitAt v 0 && bitAt v 2 then s
  else if bitAt v 2 then s.discard
  else if !(bitAt v 0) then s
  else if bitAt v 1 then s.commitAtSec
  else s.commit

/-- The write of a register with a rule of its own. -/
def State.regOwn (s : State) (p : Path) (k : RegKey) (v m : Word) : Option State :=
  let x := v &&& m
  let merged := (s.written k &&& ~~~ m) ||| x
  match k.name with
  | .sysCommit => some (s.commitWrite x.toNat)
  | .persWord => some (if p = .i2c then s else s.persWrite p k.i v)
  | .pwrReq => some (if m &&& 3 = 0 then s else s.pwrRequest p x)
  | .pwrPadRel => some (s.padRelease x.toNat)
  | .pwrForce => some (s.pwrForce p v m)
  | .evtCtrl => some (s.evtCtrlWrite x.toNat)
  | .hifRingCtrl => some (s.ringCtrlWrite k.i v m)
  | .hifRingBaseLo => some (s.ringBaseWrite k v m)
  | .hifRingBaseHi => some (s.ringBaseWrite k v m)
  | .hifRingSize => some (s.ringBaseWrite k v m)
  | .laneCtrl => some (s.laneCtrlWrite k.i v m)
  | .laneGrpCtrl => some (s.grpCtrlWrite p k.i v m)
  | .portHold => some (s.portHoldWrite k.i v m)
  | .swResCfg => some (s.resCfgWrite v m)
  | .bpmQuota => some (s.bpmQuotaWrite k.i merged)
  | .tcoreSwap => some (s.swapWrite p x.toNat)
  | .refPrefT => some (s.prefWrite false v m)
  | .refPrefF => some (s.prefWrite true v m)
  | .refTempExt => some (s.tempExtWrite v m)
  | .gnssPosCfg => some (s.posCfgWrite v m)
  | .gnssChCfg => some (s.gnssChWrite p k.i v m)
  | .engSpadPwr => some (s.spadPwrWrite (k.i = 1) v m)
  | .perfSel => some (s.perfSel k.i (k.j = 1) v m)
  | .perfCtl => some (s.perfClr k.i (fieldOf x 0 8))
  | .pairRole => some (if m &&& 3 = 0 then s.keyed p k.addr id else s.pairRoleWrite p merged)
  | _ => none

/-- The write held for a register with a rule of its own reaches the unit (R33): the register holds its last value until the rule takes the
write.  The unlock of PAIR_ROLE was consumed when it was written. -/
def State.heldRun (s : State) (x : Pend) : State :=
  let v := s.written x.key
  let s1 := (s.dropPending (fun k => decide (k = x.key))).revertBits x.key x.key.storedMask
  let t := match x.key.name with
    | .pairRole => s1.roleReq (fieldOf v 0 2)
    | _ => (s1.regOwn x.path x.key (v ||| x.wo) (x.key.storedMask ||| x.wo)).getD s1
  t.regAfter s x.key

/-- Domains may have come on between `s` and `t`: the writes held for them reach their units (R33, R391). -/
def State.heldGo (t s : State) : State :=
  (s.regs.pend.filter (fun x => x.dom && s.regDown x.key && !(t.regDown x.key))).foldl
    (fun u x => if x.key.name.heldRule then u.heldRun x else u.regAfter s x.key) t

/-- A write of the bits `m` of a register that is neither SYS_KEY nor SYS_RST (R3, R23, R33): an absent unit ignores it, a domain that
is down holds it; a write that wakes a domain lets the writes held for it go on. -/
def State.regSet (s : State) (p : Path) (k : RegKey) (v m : Word) : State :=
  if !(s.regPresent k) || !k.implemented then s
  else
    let t :=
      if s.regDown k then
        (if k.typeMask .kw ≠ 0 then s.keyed p k.addr (fun s => s.holdReg p k v m) else s.holdReg p k v m)
      else match s.regOwn p k v m with
        | some t => t
        | none => if k.storedMask = 0 then s else s.storeReg k v m
    (t.regAfter s k).heldGo s

/-- The whole word is written. -/
def allBits : Word := 0xFFFFFFFF

/-! ## SYS_KEY (R36, R38) -/

/-- A write of SYS_KEY on a path. -/
def State.keyWrite (s : State) (p : Path) (v : Word) : State :=
  let x := s.key p
  if p = .boot ∨ x.blocked then s
  else if v = 0x7E1A then { s with keys := Tab.set s.keys p { x with unlocked := true } }
  else
    let w := s.clk.now :: x.wrong.filter (fun t => decide (s.clk.now < t + 10 ^ 12))
    let full := decide (16 ≤ w.length)
    let y : KeySt := { unlocked := false, blocked := full, failCnt := min 255 (x.failCnt + 1), wrong := if full then [] else w }
    { s with keys := Tab.set s.keys p y }

/-- 1 ms has passed since the unlock (R36). -/
def State.keyUnlockExpire (s : State) (p : Path) : State := { s with keys := Tab.set s.keys p { s.key p with unlocked := false } }

/-- The block of a path ends (R38). -/
def State.keyBlockExpire (s : State) (p : Path) : State := { s with keys := Tab.set s.keys p { s.key p with blocked := false } }

/-! ## Addresses -/

/-- The mailbox register at a BAR0 offset: its block and its offset in the page (R43, Table REG-6). -/
def mbxAt (a : Nat) : Option (Block × Nat) :=
  (Block.all.find? (fun b => b.hasMbx && decide (b.mailbox ≤ a) && decide (a < b.mailbox + 0x1000))).bind (fun b =>
    let o := a - b.mailbox
    if o = 0 ∨ o = 4 ∨ (0x40 ≤ o ∧ o < 0x80) then some (b, o) else none)

/-- An access that is ignored and counted (R21, R425). -/
def State.badAccess (s : State) : State := s.bump Fld.sysBadAccess_VAL

/-- What an alias does to the RW bits `w` (R26). -/
inductive Alias where
  | set | clear | toggle
  deriving DecidableEq, Repr

def Alias.apply (a : Alias) (w v : Word) : Word :=
  match a with
  | .set => w ||| v
  | .clear => w &&& ~~~ v
  | .toggle => w ^^^ v

/-- A write of `v` to an alias of offset `a` (R23, R26): only RW bits that are one in `v` change. -/
def State.aliasWrite (s : State) (p : Path) (al : Alias) (a : Nat) (v : Word) : State :=
  match regAt a with
  | some k =>
    let m := k.typeMask .rw
    if m = 0 then s else s.regSet p k (al.apply (s.written k) v) (v &&& m)
  | none => if (mbxAt a).isSome then s else s.badAccess

/-- Firmware, the host or the boot writes the bits `m` of the word at offset `a` of the register region; SYS_RST is not here (R403).  A
masked write of `_MBX_REQ` that selects no bit of SEL makes no request (R44): DESIGN CHOICE, log entry 91. -/
def State.wordWrite (s : State) (p : Path) (a : Nat) (v m : Word) : State :=
  match regAt a with
  | some k =>
    if k.name = .sysKey then s.keyWrite p v
    else if k.name = .sysRst then s
    else s.regSet p k v m
  | none => match mbxAt a with
    | some (b, 0) => if m &&& 0xFFFF = 0 then s else s.mbxAsk p b (v &&& m)
    | some _ => s
    | none => s.badAccess

/-- The alias that an offset of BAR0 belongs to (Table MAP-1). -/
def aliasOf (a : Nat) : Option Alias :=
  match a / 0x1000000 with
  | 1 => some .set
  | 2 => some .clear
  | 3 => some .toggle
  | _ => none

/-! ## BAR2 and BAR4 (R52, R58, R359): at 0x0400_0000 and 0x0800_0000 of a command's address (log entry 104) -/

/-- A word of PERF's user window at offset `o` of BAR4. -/
def State.userWord (s : State) (o : Nat) : Nat :=
  let e := o / 128
  let r := o % 128
  let k := (r - 32) / 8
  if !(s.apB Fld.perfUserEn_EN) || s.regDown ⟨.perfCycLo, e, 0⟩ then 0
  else if o = 0x800 then (s.readReg .pcie ⟨.perfTagStat, 0, 0⟩).toNat
  else if o = 0x804 then (s.readReg .pcie ⟨.perfSampStat, 0, 0⟩).toNat
  else if 0x800 ≤ o ∨ !(s.engPresent e) then 0
  else if r = 0 then s.cycNow e % 2 ^ 32
  else if r = 4 then s.cycNow e / 2 ^ 32
  else if 32 ≤ r ∧ r < 96 then s.pcWord e k (r % 8 = 4) (if r % 8 = 4 then 3 + 2 * k else 2 + 2 * k)
  else 0

/-- An entry of the MSI-X table. -/
def HifState.vec (h : HifState) (v : Nat) : Word × Word × Word := Tab.get (0, 0, 0) h.vecs v

/-- The word at offset `o` of BAR4: the user window, the MSI-X table, the PBA. -/
def State.bar4Word (s : State) (o : Nat) : Word :=
  let v := (o - 0x1000) / 16
  let x := s.hif.vec v
  if o < 0x1000 then BitVec.ofNat 32 (s.userWord o)
  else if o < 0x1400 then
    (if o % 16 = 0 then x.1 else if o % 16 = 4 then x.2.1 else if o % 16 = 8 then x.2.2
     else if s.hif.unmasked.contains v then 0 else 1)
  else if o = 0x2000 ∨ o = 0x2004 then BitVec.ofNat 32 (bitMap (fun i => s.hif.pba.contains (32 * ((o - 0x2000) / 4) + i)) 32)
  else 0

/-- A write of BAR4: the MSI-X table takes it; the user window and the PBA ignore it. -/
def State.bar4Write (s : State) (o : Nat) (m v : Word) : State :=
  let n := (o - 0x1000) / 16
  let x := s.hif.vec n
  let put := fun (w : Word) => (w &&& ~~~ m) ||| (v &&& m)
  let keep := fun (y : Word × Word × Word) => ({ s with hif := { s.hif with vecs := Tab.set s.hif.vecs n y } } : State)
  if o < 0x1000 ∨ 0x1400 ≤ o then s
  else if o % 16 = 0 then keep (put x.1 &&& ~~~ 3, x.2.1, x.2.2)
  else if o % 16 = 4 then keep (x.1, put x.2.1, x.2.2)
  else if o % 16 = 8 then keep (x.1, x.2.1, put x.2.2)
  else if m &&& 1 = 0 then s
  else if v &&& 1 = 0 then s.msixUnmask n
  else { s with hif := { s.hif with unmasked := s.hif.unmasked.filter (fun y => y != n) } }

/-- The bytes that byte enables name. -/
def beMask (be : BitVec 4) : Word :=
  BitVec.ofNat 32 (bitMap (fun i => bitAt be.toNat (i / 8)) 32)

/-- A write of the host beyond BAR0: a doorbell page of BAR2, or BAR4. -/
def State.barWrite (s : State) (a : Nat) (be : BitVec 4) (v : Word) : State :=
  if a < 0x4040000 then s.doorbell ((a - 0x4000000) / 0x1000) (a % 0x1000) be v
  else if 0x8000000 ≤ a ∧ a < 0x8004000 then s.bar4Write ((a - 0x8000000) / 4 * 4) (beMask be) v
  else s

/-- A read of the host beyond BAR0: BAR2 reads zero; a 64-bit read of BAR4 takes its upper half from the same sample (R359). -/
def State.barRead (s : State) (a : Nat) (be : BitVec 4) : State :=
  let o := (a - 0x8000000) / 4 * 4
  if a < 0x8000000 ∨ 0x8004000 ≤ a then { s with rd := 0 }
  else { s with rd := s.bar4Word o &&& beMask be, rdHi := if o % 8 = 0 then s.bar4Word (o + 4) else 0
                free := if o < 0x1000 then s.free + 18 else s.free }

/-- A write by the host or an engine at a BAR0 offset (R21, R26, R354, R423); the SPAD window is the host's. -/
def State.busWrite (s : State) (p : Path) (a : Nat) (be : BitVec 4) (v : Word) : State :=
  let o := a % 0x1000000 / 4 * 4
  if 0x4000000 ≤ a then (if p = .pcie then s.barWrite a be v else s)
  else if 0x800000 ≤ o then
    (if p ≠ .pcie then s
     else match aliasOf a with
      | none => s.spadPlain (o - 0x800000) be v .idle
      | some .set => s.spadWrite (o - 0x800000) .idle (.set v)
      | some .clear => s.spadWrite (o - 0x800000) .idle (.clear v)
      | some .toggle => s.bump Fld.engSpadBankErr_VAL)
  else if be ≠ 15 then s.badAccess
  else match aliasOf a with
    | none => s.wordWrite p o v allBits
    | some al => s.aliasWrite p al o v

/-! ## Reads (R24, R26, R45) -/

/-- A read of the bytes `be` at BAR0 offset `a`: the word goes to `rd`, RC bits returned as set are cleared, and byte 3 of the last
mailbox word clears VALID.  An alias read clears nothing. -/
def State.busRead (s : State) (p : Path) (a : Nat) (be : BitVec 4) : State :=
  let o := a % 0x1000000 / 4 * 4
  let own := decide (a / 0x1000000 = 0)
  let m := beMask be
  if 0x4000000 ≤ a then (if p = .pcie then s.barRead a be else { s with rd := 0 })
  else match regAt o with
  | some k =>
    let t : State := { s with rd := s.readReg p k &&& m, free := if k.name.row.block = .perf then s.free + 18 else s.free }
    if !own || !(s.regPresent k) || s.regDown k then t
    else if k.name = .sysKey then
      (if bitAt be.toNat 1 then { t with keys := Tab.set s.keys p { s.key p with failCnt := 0 } } else t)
    else if k.typeMask .rc = 0 then t
    else t.rcClear k (s.rcWord k &&& k.typeMask .rc &&& m)
  | none => match mbxAt o with
    | some (b, x) =>
      let t : State := { s with rd := s.mbxRead p b x &&& m }
      if own && bitAt be.toNat 3 then t.mbxTaken p b x else t
    | none => { s with rd := 0 }

/-! ## Scrubber and applied copies (R39, R41, R422) -/

/-- One word that the scrubber finds in mismatch: it is listed, and its pending write is removed (R39).  A word that holds KW fields
alone is scrubbed as an RW word is: DESIGN CHOICE, log entry 90. -/
def State.scrubWord (s : State) (a : Nat) : State :=
  match regAt a with
  | none => s
  | some k =>
    if k.storedMask = 0 ∨ !(s.regPresent k) then s
    else
      let t := if s.regs.cfgErr.contains a then s
        else ({ s with regs := { s.regs with cfgErr := insertAsc a s.regs.cfgErr } } : State).raise Ev.sysCfgParity a
      t.dropPending (fun x => decide (x = k))

/-- CFG_SCRUB_PASS. -/
def State.cfgScrubPass (s : State) (bad : List Nat) : State := bad.foldl (fun s a => s.scrubWord a) s

/-- APPLIED_COPY_ERROR: a good written copy reloads the applied copy, otherwise the instance stops. -/
def State.appliedCopyError (s : State) (a : Nat) (good : Bool) : State :=
  match regAt a with
  | none => s
  | some k =>
    if k.storedMask = 0 ∨ !(s.regPresent k) then s
    else if good then ((s.copyBits k k.storedMask).regActs s k).raise (Ev.appliedErr k.name.row.block true) a 1
    else ((s.unitStop k).regActs s k).raise (Ev.appliedErr k.name.row.block false) a 0

end Sys2Proof.Machine
end

