-- ==== Sys2Proof/Machine/Boot.lean ====
section
/-! DEFINITION. Resets, boot, the flash commands and the test access port (R402 to R408, R413, R435 to R437, R443). -/

set_option Elab.async false

namespace Sys2Proof.Machine

/-! ## Resets (Table PWR-5) -/

/-- Everything in reset, but PERS words, flash, what was fused at test, and the commands that wait. -/
def State.hardReset (s : State) : State :=
  { State.reset with
    variant := s.variant, fused := s.fused, clk := { now := s.clk.now }, free := s.free, pending := s.pending, flash := s.flash
    pers := { words := s.pers.words, wear := s.pers.wear, busy := s.pers.busy }
    cal := { slotA := s.cal.slotA, slotB := s.cal.slotB } }

/-- Power lost while words are busy: each holds the old or the new value in full (R49). -/
def State.persLoss (s : State) : State :=
  s.pers.busy.foldl (fun s b =>
    let old := Config.freeBit s.free
    { s with free := s.free + 1
             pers := { s.pers with words := if old then Tab.set s.pers.words b.1 b.2 else s.pers.words
                                   busy := s.pers.busy.filter (fun x => decide (x ≠ b)) } }) s

/-- POWER_ON_RESET: POR_N is low; the test access port is reset too. -/
def State.powerOnReset (s : State) : State :=
  let t := s.persLoss.hardReset
  { t with pwr := { t.pwr with inReset := true } }

/-- The registers of the units that KEEP_TIME keeps: PLL-T and the PPS outputs. -/
def keptReg (k : RegKey) : Bool :=
  decide (k.name = .pllPpsCfg) || decide (k.name = .pllPpsDly) ||
  (decide (k.name.row.block = .pll) && k.name.row.count == 4 && k.i == 0)

/-- The holdover that LOCKED becomes: f_e = RATE at the reset, E_0 = ENTRY_NS (R404). -/
def State.resetEpisode (s : State) : Episode :=
  let e0 := s.ap Fld.refHoCfg_ENTRY_NS * 1000 * 172800
  { fe := s.clk.rate, te := s.modelTemp, e0 := e0, e := e0, stage := s.hoStage 0, mdl := s.ref.mdl, mdlValid := s.ref.mdl.valid (secOf s.tod) }

/-- TSTATE and the episode after a reset with KEEP_TIME. -/
def State.keptTime (s : State) : TState × Option Episode :=
  match s.tcore.tstate with
  | .holdover => (.holdover, s.ref.ep)
  | .locked => (.holdover, some s.resetEpisode)
  | .acquire => if s.tcore.acqFromFree then (.freerun, none) else (.holdover, some s.resetEpisode)
  | .freerun => (.freerun, none)

/-- What KEEP_TIME leaves running: the cores, RATE, PLL-T and the PPS outputs (R403, R404). -/
def State.keepTimeOver (t s : State) : State :=
  let x := s.keptTime
  let t1 : State := { t with
    clk := s.clk
    regs := { t.regs with written := s.regs.written.filter (fun e => keptReg e.1), applied := s.regs.applied.filter (fun e => keptReg e.1) }
    pll := { t.pll with plls := Tab.set t.pll.plls 0 (s.pllOf 0), refclkOk := s.pll.refclkOk, pps := s.pll.pps, ltx := s.pll.ltx, ltxAt := s.pll.ltxAt }
    tcore := { t.tcore with tstate := x.1, quality := s.tcore.quality }
    ref := { t.ref with ep := x.2 } }
  { t1 with tcore := t1.updateClass.tcore }

/-- A part reset begins: every unit is reset and the part is held; the test access port keeps its instruction. -/
def State.partResetHold (s : State) (keep : Bool) : State :=
  let t := if keep then s.hardReset.keepTimeOver s else s.hardReset
  { t with pwr := { t.pwr with inReset := true, keepTime := keep, jtagIr := s.pwr.jtagIr, scan := s.pwr.scan } }

/-- RST_N low (R437): 0.5 µs or less is ignored, 1 µs or more resets, between the two either; KEEP_TIME is bit 2 of word 0. -/
def State.partReset (s : State) (lowNs : Nat) : State :=
  let keep := bitAt (s.pers! 0).toNat 2
  if lowNs ≤ 500 then s
  else if 1000 ≤ lowNs then s.partResetHold keep
  else
    let t : State := { s with free := s.free + 1 }
    if Config.freeBit s.free then t.partResetHold keep else t

/-! ## Flash -/

/-- Bytes of the flash. -/
def State.flashBytes (s : State) (a n : Nat) : List Byte := Memory.reads flashErased s.flash a n

/-- An entry of the boot directory (R407). -/
structure DirEntry where
  type : Nat
  off : Nat
  len : Nat
  crc : Nat
  deriving DecidableEq, Repr

/-- The boot directory at the address in word 1, or none where its header is not one. -/
def State.bootDir (s : State) : Option (List DirEntry) :=
  let a := (s.pers! 1).toNat
  let h := s.flashBytes a 16
  let n := leAt h 4 4
  if leAt h 0 4 ≠ 0x52444248 ∨ 8 < n then none
  else some ((List.range n).map (fun i =>
    let e := s.flashBytes (a + 16 + 16 * i) 16
    ⟨leAt e 0 4, leAt e 4 4, leAt e 8 4, leAt e 12 4⟩))

/-- The content of an entry whose CRC matches. -/
def State.entryBytes (s : State) (e : DirEntry) : Option (List Byte) :=
  let l := s.flashBytes e.off e.len
  if (Config.crc32 (l.map (fun b => b.toNat))).toNat = e.crc then some l else none

/-! ## Boot (R405 to R408) -/

/-- The first image entry that passes, with its place among the image entries. -/
def State.bootImage (s : State) (l : List DirEntry) : Option (EngImage × Nat) :=
  ((l.filter (fun e => e.type == 1)).zipIdx).findSome? (fun e =>
    (s.entryBytes e.1).bind (fun b =>
      let n := leAt b 32 4
      if b.length < 256 + n ∨ s.imageCheck (b.take 256) ((b.drop 256).take n) ≠ 0 then none else some (imageOf (b.take 256), e.2)))

/-- The image goes into every present engine, which then passes ENG_IN. -/
def State.bootEngines (s : State) (skip : Bool) (l : List DirEntry) : State :=
  if skip then s
  else match s.bootImage l with
    | none => s.raise Ev.sysBootFault 1
    | some (x, n) =>
      let s1 := ((List.range 16).filter (fun e => s.engPresent e)).foldl (fun s e => (s.imageLoad e x).goEng e .replay) s
      { s1 with boot := { s1.boot with imgOk := true, imgEntry := n != 0 } }

/-- The records of a configuration: register records and command descriptors, each in record order. -/
def cfgRecords : Nat → List Byte → List (Nat × Nat) × List (List Byte)
  | 0, _ => ([], [])
  | n + 1, l =>
    if l.length < 8 then ([], [])
    else if leAt l 0 4 = 0xFFFFFFFE then
      let r := cfgRecords n (l.drop 40)
      (r.1, (l.drop 8).take 32 :: r.2)
    else
      let r := cfgRecords n (l.drop 8)
      ((leAt l 0 4, leAt l 4 4) :: r.1, r.2)

/-- A register record: a plain write on the PCIe path; a KW or PW register refuses it. -/
def State.cfgWrite (s : State) (e : Nat × Nat) : State :=
  let guarded := decide (e.1 < 0x800000) && (match regAt (e.1 / 4 * 4) with
    | some k => decide (k.typeMask .kw ≠ 0) || decide (k.name = .persWord)
    | none => false)
  if guarded then { s with boot := { s.boot with refused := satAdd 8 s.boot.refused 1 } }
  else s.busWrite .pcie e.1 15 (BitVec.ofNat 32 e.2)

/-- The register pass, and the command records kept for the command pass. -/
def State.bootConfig (s : State) (skip : Bool) (l : List DirEntry) : State :=
  let none' : State := { s with boot := { s.boot with cmdDone := true } }
  if skip then none'
  else match l.find? (fun e => e.type == 2) with
    | none => none'
    | some e => match s.entryBytes e with
      | none => none'.raise Ev.sysBootFault 2
      | some b =>
        if leAt b 0 4 ≠ 0x47464344 then none'.raise Ev.sysBootFault 2
        else
          let r := cfgRecords (leAt b 4 4) (b.drop 16)
          let t := r.1.foldl (fun s e => s.cfgWrite e) s
          { t with boot := { t.boot with cfgApplied := true, cmds := r.2, cmdDone := decide (r.2 = []) } }

/-- AVS_SLEW of PERS word 2 as it acts, in mV/ms. -/
def State.avsSlew (s : State) : Nat :=
  let n := (s.pers! 2).toNat % 65536
  if n = 0 then 10 else n

/-- The boot of a part whose units are in reset (R405, R435): VoutTransRate is written to the regulator (R126); PLL-T runs on under
KEEP_TIME. -/
def State.boot! (s : State) (straps : Straps) : State :=
  let w := (s.pers! 0).toNat
  let s0 : State := { s with boot := { straps := straps }, pwr := { s.pwr with inReset := false, keepTime := false }
                             pll := { s.pll with refclkOk := true }, sw := { s.sw with transRate := some s.avsSlew } }
  let s1 := s0.setReady Rdy.sys true
  let s2 := if (s1.pllOf 0).st = .off then s1.pllStart 0
            else if (s1.pllOf 0).st = .locked ∨ (s1.pllOf 0).st = .bypass then s1.pllTReady else s1
  let s3 := s2.pllStart 3
  let dir := if straps.noFlash then none else s3.bootDir
  let s4 : State := { s3 with boot := { s3.boot with dirOk := dir.isSome } }
  let s5 := (s4.bootConfig (straps.noFlash || bitAt w 0) (dir.getD [])).setReady Rdy.cfg true
  let s6 := (List.range s5.variant.groups).foldl (fun s g => s.grpTrain g) s5
  let s7 := s6.bootEngines (straps.noFlash || bitAt w 1) (dir.getD [])
  (s7.calRestore.setReady Rdy.cal true).polRestore

/-- BOOT_START: with STRAP_TEST the part stays in reset (R436). -/
def State.bootStart (s : State) (straps : Straps) : State :=
  if !s.pwr.inReset && s.isReady Rdy.sys then s
  else if straps.test then { s with boot := { s.boot with straps := straps }, pwr := { s.pwr with inReset := true } }
  else s.boot! straps

/-- A write of the bits `m` of SYS_RST (R403): PART resets the part, which boots with the straps it holds (R434). -/
def State.sysRst (s : State) (p : Path) (v m : Word) : State :=
  let k : RegKey := ⟨.sysRst, 0, 0⟩
  s.keyed p k.addr (fun s =>
    let t := s.storeReg k v m
    if bitAt (v &&& m).toNat 0 then (t.partResetHold (bitAt (t.written k).toNat 1)).boot! s.boot.straps else t)

/-! ## Flash commands (R413) -/

/-- The checks that both share: alignment to `al`, at most 1 MiB, inside the flash (R406) and inside SPAD. -/
def State.flashChecks (s : State) (d : CmdDesc) (changes : Bool) (al : Nat) : Checks :=
  let a := d.arg 12 4
  let o := d.arg 16 4
  let n := d.arg 20 4
  let size := if bitAt (s.pers! 0).toNat 3 then 2 ^ 28 else 2 ^ 24
  let c := unitChecks d false .sys changes [Rdy.sys]
  { c with badForm := c.badForm || !(d.zero 24 32)
           badArg := decide (a % al ≠ 0) || decide (o % al ≠ 0) || decide (n % al ≠ 0) || decide (1048576 < n) || decide (8388608 < o + n) ||
             decide (size < a + n) }

/-- The ranges of two flash regions meet. -/
def rangesMeet (a n b m : Nat) : Bool := decide (a < b + m) && decide (b < a + n)

/-- A calibration slot's range in the flash (word 39). -/
def State.slotAt (s : State) (b : Bool) : Nat := (s.pers! 39).toNat + (if b then 262144 else 0)

/-- What FLASH_READ finds at an address: the bytes of a calibration image are free (log entry 46). -/
def State.flashByte (s : State) (a n : Nat) : Byte :=
  let inSlot := fun (b : Bool) => (s.calSlot b).valid && decide (s.slotAt b ≤ a) && decide (a < s.slotAt b + 262144)
  if inSlot false || inSlot true then BitVec.ofNat 8 (Config.freeWord n).toNat else Memory.read flashErased s.flash a

/-- FLASH_READ; `us` is its elapsed time. -/
def State.flashReadCmd (s : State) (d : CmdDesc) (us : Nat) : State :=
  let a := d.arg 12 4
  let o := d.arg 16 4
  let n := d.arg 20 4
  let c := s.flashChecks d true 64
  let fw := (List.range 32).any (fun b => s.bankFw b && rangesMeet o n (b * 262144) 262144)
  s.runCmd d 0x8001 { c with badArg := c.badArg || fw } (fun s =>
    if s.boot.straps.noFlash then s.complete d 0x8001 .notReady
    else
      let data := (List.range n).map (fun i => s.flashByte (a + i) (s.free + i))
      let r := State.dmaIn ({ s with free := s.free + n }, 0, none, 0) o data [] (n / 4)
      r.1.complete d 0x8001 .ok 0 (leBytes us 4))

/-- FLASH_WRITE; `ok` is the outcome of the read-back.  After a mismatch the bytes are free. -/
def State.flashWriteCmd (s : State) (d : CmdDesc) (ok : Bool) (ms : Nat) : State :=
  let a := d.arg 12 4
  let o := d.arg 16 4
  let n := d.arg 20 4
  let c := s.flashChecks d true 4096
  s.runCmd d 0x8002 { c with guarded := true } (fun s =>
    if s.boot.straps.noFlash then s.complete d 0x8002 .notReady
    else if s.cal.saving.isSome then s.complete d 0x8002 .busy
    else
      let data := if ok then s.dmaRead o (n / 64) else (List.range n).map (fun i => BitVec.ofNat 8 (Config.freeWord (s.free + i)).toNat)
      let s1 := s.dmaOff o (n / 4)
      let s2 : State := { s1 with flash := Memory.writes flashErased s1.flash a data, free := if ok then s1.free else s1.free + n }
      let s3 := [false, true].foldl (fun s b => if rangesMeet a n (s.slotAt b) 262144 then s.setCalSlot b {} else s) s2
      s3.complete d 0x8002 (if ok then .ok else .parity) 0 (if ok then leBytes (n / 4096) 4 ++ leBytes ms 4 else []))

/-! ## Command records (R408) -/

/-- The SYS_READY bits of check 4 for an opcode (R87, Table HDL-2). -/
def opReady (op : Nat) : List Nat :=
  match op / 256 with
  | 0x01 => ObjType.flow.ready
  | 0x02 => ObjType.tchan.ready
  | 0x03 => ObjType.mchan.ready
  | 0x04 => ObjType.mirror.ready
  | 0x05 => ObjType.search.ready
  | 0x06 => ObjType.cal.ready
  | 0x80 => [Rdy.sys]
  | 0x98 => [Rdy.fabric]
  | 0xA0 => [Rdy.fabric, Rdy.admission]
  | 0xA4 => [Rdy.bpm]
  | 0xA8 => [Rdy.fdb]
  | 0xB0 => [Rdy.tcore]
  | 0xB8 => [Rdy.ref]
  | 0xBA => [Rdy.pll]
  | 0xC0 => [Rdy.gnss]
  | 0xC4 => [Rdy.tic]
  | 0xC6 => [Rdy.cal]
  | _ => []

/-- The verbs 2 to 7 of an object type other than the flows. -/
def State.verbRun (s : State) (t : ObjType) (d : CmdDesc) (verb : Nat) : State :=
  match verb with
  | 2 => s.objModify false t d
  | 3 => s.objQuery t d
  | 4 => s.objDrain false t d true
  | 5 => s.objList t d
  | 6 => s.objDrain false t d false
  | _ => s.objEnable false t d

/-- The unit commands by opcode; a command that reports an elapsed time takes a free one. -/
def State.unitRun (s : State) (op : Nat) (d : CmdDesc) : State :=
  let tm := (Config.freeTime s.free).toNat
  let s' : State := { s with free := s.free + 1 }
  match op with
  | 0x8001 => s'.flashReadCmd d tm
  | 0x8002 => s'.flashWriteCmd d true tm
  | 0x9801 => s.admTake 3 0x9801 d
  | 0x9802 => s.gclGet d
  | 0xA001 => s.admTake 2 0xA001 d
  | 0xA401 => s.bpmCarve d
  | 0xA402 => s.bpmAuditRun d
  | 0xA801 => s.fdbAdd d
  | 0xA802 => s.fdbDel d
  | 0xA803 => s.fdbLookup d
  | 0xA804 => s.fdbFlush d
  | 0xA805 => s.fdbVlanSet d
  | 0xA806 => s.fdbMcgSet d
  | 0xA807 => s.fdbClsSet d
  | 0xA808 => s.fdbClsDel d
  | 0xA809 => s.fdbCbSet d
  | 0xB001 => s.timeStep d
  | 0xB002 => s.timeSet d
  | 0xB801 => s.refCandSet d
  | 0xB802 => s.refRealign d
  | 0xB803 => s.refMdlReset d
  | 0xBA01 => s.pllRampLoad d
  | 0xBA02 => s.rampCtrl d
  | 0xBA03 => s.pllAlign d
  | 0xBA04 => s.pllReturnCmd d
  | 0xC001 => s.gnssSect d
  | 0xC002 => s.gnssSurvey d
  | 0xC401 => s.ticArm false d
  | 0xC402 => s.ticStop false d
  | 0xC601 => s.calSave d
  | 0xC602 => s.calReload d
  | 0xC801 => s.engOut d
  | 0xC802 => s.engLoad d
  | 0xC803 => s.engIn d
  | 0xC804 => s.engTaskPin d
  | 0xC805 => s.polSet d
  | 0xC806 => s.polGet d
  | 0xC807 => s.polSave d
  | 0xC808 =>
    let n := d.arg 28 4
    ({ s with free := s.free + n } : State).spadDma d
      ((List.range n).map (fun i => BitVec.ofNat 8 (Config.freeWord (s.free + i)).toNat)) []
  | 0xC809 => s.engImgCommit d
  | 0xCC01 => s.pairRehearse d
  | 0xCC02 => s.pairResync d
  | 0xCC03 => s.pairCbSet d
  | _ => s.complete d op .badArg

/-- A command by its opcode. -/
def State.cmdRun (s : State) (op : Nat) (d : CmdDesc) : State :=
  if !(opcodes.contains op) then s.complete d op (if s.familyAbsent op then .unsupported else .badArg)
  else match op / 256, op % 256 with
    | 1, 1 => s.admTake 0 0x0101 d
    | 1, 2 => s.admTake 1 0x0102 d
    | 1, 3 => s.objQuery .flow d
    | 1, 4 => s.flowTake 5 0x0104 d
    | 1, 5 => s.objList .flow d
    | 1, 6 => s.flowTake 6 0x0106 d
    | 1, 7 => s.flowTake 7 0x0107 d
    | 2, 1 => s.tchanCreate d
    | 2, v => s.verbRun .tchan d v
    | 3, 1 => s.mchanCreate d
    | 3, v => s.verbRun .mchan d v
    | 4, 1 => s.mirrorCreate d
    | 4, v => s.verbRun .mirror d v
    | 5, 1 => s.searchCreate d
    | 5, v => s.verbRun .search d v
    | 6, 1 => s.calCreate d
    | 6, v => s.verbRun .cal d v
    | _, _ => s.unitRun op d

/-- BOOT_COMMAND_RECORD: the next record starts once the one before it has completed, its READY bits are set or 1 s has passed. -/
def State.bootCommandRecord (s : State) (after1s : Bool) : State :=
  match s.boot.cmds with
  | [] => s
  | raw :: l =>
    let op := leAt raw 0 2
    if s.boot.running || (!after1s && (opReady op).any (fun b => !(s.isReady b))) then s
    else
      let d : CmdDesc := { src := .boot, flags := raw.getD 2 0, rsvd := raw.getD 3 0, tag := BitVec.ofNat 32 (leAt raw 4 4)
                           handle := BitVec.ofNat 32 (leAt raw 8 4), args := raw.drop 12 }
      let t : State := { s with boot := { s.boot with cmds := l, running := true } }
      if d.hasExt then t.complete d op (if t.familyAbsent op then .unsupported else .badArg) else t.cmdRun op d

/-! ## Test access port (R442, R443) -/

/-- The instructions under which the balls follow the boundary register. -/
def scanCode (c : Nat) : Bool := [0x00, 0x04, 0x05, 0x06, 0x07].contains c

/-- JTAG_UPDATE_IR: lanes lose LOCK while the balls follow the boundary register, and recover afterwards. -/
def State.jtagUpdateIr (s : State) (c : Nat) : State :=
  let t : State := { s with pwr := { s.pwr with scan := scanCode c, jtagIr := c } }
  if s.pwr.inReset ∨ scanCode c = s.pwr.scan then t
  else if scanCode c then (List.range s.variant.ports).foldl (fun s n => s.laneUnlock n) t
  else (List.range s.variant.ports).foldl (fun s n => s.lockLossRetrain n) t

/-! ## Meanings -/

/-- POWER_ON_RESET (R403, R437). -/
def execPowerOnReset (s : State) : Host.Outcome State Fault Refusal :=
  effectInReset true s (s.powerOnReset)

/-- BOOT_START (R405, R407, R408, R434, R435, R436). -/
def execBootStart (straps : Straps) (s : State) : Host.Outcome State Fault Refusal :=
  effectInReset true s (s.bootStart straps)

/-- PART_RESET (R403, R404, R437). -/
def execPartReset (lowNs : Nat) (s : State) : Host.Outcome State Fault Refusal :=
  effect true s (s.partReset lowNs)

/-- SYS_RST_PART (R403, R404). -/
def execSysRstPart (path : Path) (val : Word) (s : State) : Host.Outcome State Fault Refusal :=
  effect (path.wf) s (s.sysRst path val allBits)

/-- BOOT_COMMAND_RECORD (R408). -/
def execBootCommandRecord (after1s : Bool) (s : State) : Host.Outcome State Fault Refusal :=
  effect true s (s.bootCommandRecord after1s)

/-- FLASH_READ (R406, R413). -/
def execFlashRead (d : CmdDesc) (us : Nat) (s : State) : Host.Outcome State Fault Refusal :=
  effect (d.wf) s (s.flashReadCmd d us)

/-- FLASH_WRITE (R406, R413). -/
def execFlashWrite (d : CmdDesc) (verified : Bool) (ms : Nat) (s : State) : Host.Outcome State Fault Refusal :=
  effect (d.wf) s (s.flashWriteCmd d verified ms)

/-- JTAG_UPDATE_IR (R442, R443). -/
def execJtagUpdateIr (code : Nat) (s : State) : Host.Outcome State Fault Refusal :=
  effectInReset (decide (code < 256)) s (s.jtagUpdateIr code)

end Sys2Proof.Machine
end

