-- ==== Sys2Proof/Machine/RegAccess.lean ====
section
/-! DEFINITION. The register accesses as commands (R23 to R45, R440), and the writes of registers with a row of their own, which take
the same way. -/

set_option Elab.async false

namespace Sys2Proof.Machine

/-- A write at a BAR0 offset, SYS_RST included. -/
def State.anyWrite (s : State) (p : Path) (a : Nat) (be : BitVec 4) (v : Word) : State :=
  if regAt a = some ⟨.sysRst, 0, 0⟩ ∧ be = 15 then s.sysRst p v allBits else s.busWrite p a be v

/-! ## I²C (R28, R29, R36, R440) -/

/-- A masked write of the half-word at `a`: mask 0 has no effect, SYS_KEY takes the key whole in its low half. -/
def State.i2cWrite (s : State) (a : Nat) (g : I2cGroup) : State :=
  let w := a / 4 * 4
  let hi := decide (a % 4 = 2)
  let put := fun (x : BitVec 16) => BitVec.ofNat 32 (x.toNat * (if hi then 65536 else 1))
  if g.mask = 0 then s
  else match regAt w with
    | some k =>
      if k.name = .sysKey then s.keyWrite .i2c (if !hi && decide (g.mask = 0xFFFF) then put g.data else 0)
      else if k.name = .sysRst then s.sysRst .i2c (put g.data) (put g.mask)
      else s.wordWrite .i2c w (put g.data) (put g.mask)
    | none => s.wordWrite .i2c w (put g.data) (put g.mask)

/-- The groups of a transfer in order; a group that would pass 0x7F_FFFF is not taken. -/
def State.i2cWrites (s : State) (a : Nat) : List I2cGroup → State
  | [] => s
  | g :: l => if 0x800000 ≤ a then s else (s.i2cWrite a g).i2cWrites (a + 2) l

/-- `n` half-words from `a`: a register read from its low half on is one sample. -/
def State.i2cReads (s : State) (a : Nat) : Nat → State × List (BitVec 16)
  | 0 => (s, [])
  | 1 =>
    let t := s.busRead .i2c a (if a % 4 = 2 then 12 else 3)
    (t, [BitVec.ofNat 16 (fieldOf t.rd (if a % 4 = 2 then 16 else 0) 16)])
  | n + 2 =>
    if a % 4 = 2 then
      let t := s.busRead .i2c a 12
      let r := t.i2cReads (a + 2) (n + 1)
      (r.1, BitVec.ofNat 16 (fieldOf t.rd 16 16) :: r.2)
    else
      let t := s.busRead .i2c a 15
      let r := t.i2cReads (a + 4) n
      (r.1, BitVec.ofNat 16 (fieldOf t.rd 0 16) :: BitVec.ofNat 16 (fieldOf t.rd 16 16) :: r.2)

/-- I2C_READ_TRANSFER: half-words past 0x7F_FFFF read zero. -/
def State.i2cRead (s : State) (a n : Nat) : State :=
  let a := a / 2 * 2
  if 0x800000 ≤ a then s
  else
    let m := min n ((0x800000 - a) / 2)
    let r := s.i2cReads a m
    { r.1 with rd := s.rd, rdI2c := r.2 ++ List.replicate (n - m) 0 }

/-! ## Keys of replicated registers -/

/-- The register of a ring that R55 guards. -/
def RingReg.key (r : RingReg) (n : Nat) : RegKey :=
  match r with
  | .baseLo => ⟨.hifRingBaseLo, n, 0⟩
  | .baseHi => ⟨.hifRingBaseHi, n, 0⟩
  | .size => ⟨.hifRingSize, n, 0⟩
  | .ctrl => ⟨.hifRingCtrl, n, 0⟩

/-! ## Meanings -/

/-- REGISTER_WRITE (R21, R22, R23, R425). -/
def execRegisterWrite (path : Path) (addr : Nat) (be : BitVec 4) (val : Word)
    (s : State) : Host.Outcome State Fault Refusal :=
  effect (path.wf) s (s.anyWrite path addr be val)

/-- RC_READ (R21, R24, R26, R425, R426). -/
def execRcRead (path : Path) (addr : Nat) (be : BitVec 4) (s : State) : Host.Outcome State Fault Refusal :=
  effect (path.wf) s (s.busRead path addr be)

/-- SET_ALIAS_WRITE (R23, R26). -/
def execSetAliasWrite (path : Path) (addr : Nat) (val : Word) (s : State) : Host.Outcome State Fault Refusal :=
  effect (path.wf) s (s.aliasWrite path .set (addr / 4 * 4) val)

/-- CLEAR_ALIAS_WRITE (R23, R26). -/
def execClearAliasWrite (path : Path) (addr : Nat) (val : Word) (s : State) : Host.Outcome State Fault Refusal :=
  effect (path.wf) s (s.aliasWrite path .clear (addr / 4 * 4) val)

/-- TOGGLE_ALIAS_WRITE (R23, R26). -/
def execToggleAliasWrite (path : Path) (addr : Nat) (val : Word) (s : State) : Host.Outcome State Fault Refusal :=
  effect (path.wf) s (s.aliasWrite path .toggle (addr / 4 * 4) val)

/-- I2C_WRITE_TRANSFER (R28, R29, R36, R440). -/
def execI2cWriteTransfer (addr : Nat) (groups : List I2cGroup) (s : State) : Host.Outcome State Fault Refusal :=
  effect true s (s.i2cWrites (addr / 2 * 2) groups)

/-- I2C_READ_TRANSFER (R24, R45, R440). -/
def execI2cReadTransfer (addr : Nat) (n : Nat) (s : State) : Host.Outcome State Fault Refusal :=
  effect (decide (n ≤ 4096)) s (s.i2cRead addr n)

/-- MBX_REQUEST (R43, R44). -/
def execMbxRequest (path : Path) (addr : Nat) (val : Word) (s : State) : Host.Outcome State Fault Refusal :=
  effect (path.wf) s (s.anyWrite path addr 15 val)

/-- MBX_LAST_WORD_READ (R45). -/
def execMbxLastWordRead (path : Path) (addr : Nat) (be : BitVec 4) (s : State) : Host.Outcome State Fault Refusal :=
  effect (path.wf) s (s.busRead path addr be)

/-- SYS_KEY_WRITE (R36, R38). -/
def execSysKeyWrite (path : Path) (val : Word) (s : State) : Host.Outcome State Fault Refusal :=
  effect (path.wf) s (s.keyWrite path val)

/-- KEY_UNLOCK_EXPIRE (R36). -/
def execKeyUnlockExpire (path : Path) (s : State) : Host.Outcome State Fault Refusal :=
  effect (path.wf) s (s.keyUnlockExpire path)

/-- KEY_BLOCK_EXPIRE (R38). -/
def execKeyBlockExpire (path : Path) (s : State) : Host.Outcome State Fault Refusal :=
  effect (path.wf) s (s.keyBlockExpire path)

/-- CFG_SCRUB_PASS (R39). -/
def execCfgScrubPass (bad : List Nat) (s : State) : Host.Outcome State Fault Refusal :=
  effect true s (s.cfgScrubPass bad)

/-- APPLIED_COPY_ERROR (R41, R422). -/
def execAppliedCopyError (addr : Nat) (good : Bool) (s : State) : Host.Outcome State Fault Refusal :=
  effect true s (s.appliedCopyError addr good)

/-- COMMIT (R35, R101, R139, R275). -/
def execCommit (s : State) : Host.Outcome State Fault Refusal :=
  effect true s (s.commitWrite 1)

/-- COMMIT_AT_SEC (R35). -/
def execCommitAtSec (s : State) : Host.Outcome State Fault Refusal :=
  effect true s (s.commitWrite 3)

/-- DISCARD (R35). -/
def execDiscard (s : State) : Host.Outcome State Fault Refusal :=
  effect true s (s.commitWrite 4)

/-- RING_CFG_WRITE (R55). -/
def execRingCfgWrite (ring : Nat) (reg : RingReg) (val : Word) (s : State) : Host.Outcome State Fault Refusal :=
  effect (ringNo ring) s (s.regSet .pcie (reg.key ring) val allBits)

/-- RING_ENABLE (R56). -/
def execRingEnable (ring : Nat) (s : State) : Host.Outcome State Fault Refusal :=
  effect (ringNo ring) s (s.regSet .pcie ⟨.hifRingCtrl, ring, 0⟩ 1 1)

/-- RING_DISABLE (R57, R79, R80). -/
def execRingDisable (ring : Nat) (s : State) : Host.Outcome State Fault Refusal :=
  effect (ringNo ring) s (s.regSet .pcie ⟨.hifRingCtrl, ring, 0⟩ 0 1)

/-- RING_RESET (R81). -/
def execRingReset (ring : Nat) (s : State) : Host.Outcome State Fault Refusal :=
  effect (ringNo ring) s (s.regSet .pcie ⟨.hifRingCtrl, ring, 0⟩ 2 2)

/-- LANE_RETRAIN (R104). -/
def execLaneRetrain (lane : Nat) (s : State) : Host.Outcome State Fault Refusal :=
  effect (lanePort lane) s (s.regSet .pcie ⟨.laneCtrl, lane, 0⟩ 1 1)

/-- RX_POLARITY_CHANGE (R119). -/
def execRxPolarityChange (lane : Nat) (inv : Bool) (s : State) : Host.Outcome State Fault Refusal :=
  effect (lanePort lane) s (s.regSet .pcie ⟨.laneCtrl, lane, 0⟩ (BitVec.ofNat 32 (8 * b2n inv)) 8)

/-- LANE_GRP_REMOVE (R116, R118). -/
def execLaneGrpRemove (path : Path) (grp drainMs : Nat) (pwrOff : Bool) (s : State) : Host.Outcome State Fault Refusal :=
  effect (path.wf && group grp) s (s.regSet path ⟨.laneGrpCtrl, grp, 0⟩ (BitVec.ofNat 32 (1 + 4 * b2n pwrOff + drainMs % 256 * 256)) allBits)

/-- LANE_GRP_RETURN (R117, R118). -/
def execLaneGrpReturn (path : Path) (grp : Nat) (s : State) : Host.Outcome State Fault Refusal :=
  effect (path.wf && group grp) s (s.regSet path ⟨.laneGrpCtrl, grp, 0⟩ 2 allBits)

/-- PORT_HOLD_WRITE (R147). -/
def execPortHoldWrite (path : Path) (port : Nat) (val : Word) (s : State) : Host.Outcome State Fault Refusal :=
  effect (path.wf && lanePort port) s (s.regSet path ⟨.portHold, port, 0⟩ val allBits)

/-- RES_CFG_WRITE (R148). -/
def execResCfgWrite (path : Path) (val : Word) (s : State) : Host.Outcome State Fault Refusal :=
  effect (path.wf) s (s.regSet path ⟨.swResCfg, 0, 0⟩ val allBits)

/-- BPM_QUOTA_WRITE (R163). -/
def execBpmQuotaWrite (path : Path) (req : Nat) (val : Word) (s : State) : Host.Outcome State Fault Refusal :=
  effect (path.wf && requesterNo req) s (s.regSet path ⟨.bpmQuota, req, 0⟩ val allBits)

/-- SWAP_REQ (R211). -/
def execSwapReq (path : Path) (s : State) : Host.Outcome State Fault Refusal :=
  effect (path.wf) s (s.regSet path ⟨.tcoreSwap, 0, 0⟩ 1 allBits)

/-- SWAP_CANCEL (R211). -/
def execSwapCancel (path : Path) (s : State) : Host.Outcome State Fault Refusal :=
  effect (path.wf) s (s.regSet path ⟨.tcoreSwap, 0, 0⟩ 2 allBits)

/-- STBY_OUT (R210). -/
def execStbyOut (path : Path) (s : State) : Host.Outcome State Fault Refusal :=
  effect (path.wf) s (s.regSet path ⟨.tcoreSwap, 0, 0⟩ 4 allBits)

/-- STBY_IN (R210). -/
def execStbyIn (path : Path) (s : State) : Host.Outcome State Fault Refusal :=
  effect (path.wf) s (s.regSet path ⟨.tcoreSwap, 0, 0⟩ 8 allBits)

/-- REF_TEMP_EXT_WRITE (R263). -/
def execRefTempExtWrite (val : Word) (s : State) : Host.Outcome State Fault Refusal :=
  effect true s (s.regSet .pcie ⟨.refTempExt, 0, 0⟩ val allBits)

/-- REF_PREF_WRITE (R258). -/
def execRefPrefWrite (freq : Bool) (val : Word) (s : State) : Host.Outcome State Fault Refusal :=
  effect true s (s.regSet .pcie ⟨if freq then .refPrefF else .refPrefT, 0, 0⟩ val allBits)

/-- GNSS_CH_BIND (R298). -/
def execGnssChBind (path : Path) (chan : Nat) (val : Word) (s : State) : Host.Outcome State Fault Refusal :=
  effect (path.wf && gnssChan chan) s (s.regSet path ⟨.gnssChCfg, chan, 0⟩ val allBits)

/-- ENG_SPAD_PWR_WRITE (R355). -/
def execEngSpadPwrWrite (path : Path) (hi : Bool) (val : Word) (s : State) : Host.Outcome State Fault Refusal :=
  effect (path.wf) s (s.regSet path ⟨.engSpadPwr, b2n hi, 0⟩ val allBits)

/-- PERF_CTL_CLEAR (R357). -/
def execPerfCtlClear (e : Nat) (val : Word) (s : State) : Host.Outcome State Fault Refusal :=
  effect (engineNo e) s (s.regSet .pcie ⟨.perfCtl, e, 0⟩ val allBits)

/-- PERF_SEL_WRITE (R357). -/
def execPerfSelWrite (path : Path) (e : Nat) (hi : Bool) (val : Word) (s : State) : Host.Outcome State Fault Refusal :=
  effect (path.wf && engineNo e) s (s.regSet path ⟨.perfSel, e, b2n hi⟩ val allBits)

/-- PAIR_ROLE_WRITE (R382). -/
def execPairRoleWrite (path : Path) (val : Word) (s : State) : Host.Outcome State Fault Refusal :=
  effect (path.wf) s (s.regSet path ⟨.pairRole, 0, 0⟩ val allBits)

/-- PWR_REQUEST (R392, R393, R396). -/
def execPwrRequest (path : Path) (val : Word) (s : State) : Host.Outcome State Fault Refusal :=
  effect (path.wf) s (s.regSet path ⟨.pwrReq, 0, 0⟩ val allBits)

/-- PWR_FORCE_GO (R397). -/
def execPwrForceGo (path : Path) (val : Word) (s : State) : Host.Outcome State Fault Refusal :=
  effect (path.wf) s (s.regSet path ⟨.pwrForce, 0, 0⟩ val allBits)

/-- PAD_RELEASE (R398). -/
def execPadRelease (path : Path) (val : Word) (s : State) : Host.Outcome State Fault Refusal :=
  effect (path.wf) s (s.regSet path ⟨.pwrPadRel, 0, 0⟩ val allBits)

/-- FAULT_CLR (R420). -/
def execFaultClr (path : Path) (s : State) : Host.Outcome State Fault Refusal :=
  effect (path.wf) s (s.regSet path ⟨.evtCtrl, 0, 0⟩ 1 allBits)

/-- FIRST_CLR (R419). -/
def execFirstClr (path : Path) (s : State) : Host.Outcome State Fault Refusal :=
  effect (path.wf) s (s.regSet path ⟨.evtCtrl, 0, 0⟩ 2 allBits)

/-- LOG_CLR (R419). -/
def execLogClr (path : Path) (s : State) : Host.Outcome State Fault Refusal :=
  effect (path.wf) s (s.regSet path ⟨.evtCtrl, 0, 0⟩ 4 allBits)

/-! The commands that may bring a domain up, beside the register writes: the writes held for it go on (R33). -/

/-- ENG_DRAIN_END (R347, R394). -/
def execEngDrainEnd (e : Nat) (s : State) : Host.Outcome State Fault Refusal :=
  effect (engineNo e) s ((s.engDrained e).heldGo s)

/-- PWR_ENTRY_DRAIN_END (R394, R395). -/
def execPwrEntryDrainEnd (s : State) : Host.Outcome State Fault Refusal :=
  effect true s (s.pwrEntryDrainEnd.heldGo s)

/-- PWR_WAKE_SUPPLY_OK (R399). -/
def execPwrWakeSupplyOk (s : State) : Host.Outcome State Fault Refusal :=
  effect true s (s.pwrWakeSupplyOk.heldGo s)

/-- PWR_SWITCH_GOOD (R399). -/
def execPwrSwitchGood (dom : Nat) (s : State) : Host.Outcome State Fault Refusal :=
  effect (domainNo dom) s ((s.pwrSwitchGood dom).heldGo s)

/-- PWR_SWITCH_TIMEOUT (R400). -/
def execPwrSwitchTimeout (dom : Nat) (s : State) : Host.Outcome State Fault Refusal :=
  effect (domainNo dom) s ((s.pwrSwitchTimeout dom).heldGo s)

end Sys2Proof.Machine
end

