-- ==== Sys2Proof/Machine/Dispatch.lean ====
section
/-! DEFINITION. One arm per command of spec/opcode_table.json. -/

namespace Sys2Proof.Machine

/-- The effect of a command on everything but the queue. -/
def exec (i : Instr) (s : State) : Host.Outcome State Fault Refusal :=
  match i with
  | .registerWrite path addr be val => Sys2Proof.Machine.execRegisterWrite path addr be val s
  | .rcRead path addr be => Sys2Proof.Machine.execRcRead path addr be s
  | .setAliasWrite path addr val => Sys2Proof.Machine.execSetAliasWrite path addr val s
  | .clearAliasWrite path addr val => Sys2Proof.Machine.execClearAliasWrite path addr val s
  | .toggleAliasWrite path addr val => Sys2Proof.Machine.execToggleAliasWrite path addr val s
  | .i2cWriteTransfer addr groups => Sys2Proof.Machine.execI2cWriteTransfer addr groups s
  | .i2cReadTransfer addr n => Sys2Proof.Machine.execI2cReadTransfer addr n s
  | .mbxRequest path addr val => Sys2Proof.Machine.execMbxRequest path addr val s
  | .mbxLastWordRead path addr be => Sys2Proof.Machine.execMbxLastWordRead path addr be s
  | .sysKeyWrite path val => Sys2Proof.Machine.execSysKeyWrite path val s
  | .keyUnlockExpire path => Sys2Proof.Machine.execKeyUnlockExpire path s
  | .keyBlockExpire path => Sys2Proof.Machine.execKeyBlockExpire path s
  | .commit => Sys2Proof.Machine.execCommit s
  | .commitAtSec => Sys2Proof.Machine.execCommitAtSec s
  | .discard => Sys2Proof.Machine.execDiscard s
  | .frameBoundaryApply port rx tx => Sys2Proof.Machine.execFrameBoundaryApply port rx tx s
  | .idleApply lane => Sys2Proof.Machine.execIdleApply lane s
  | .secondBoundary => Sys2Proof.Machine.execSecondBoundary s
  | .persWordWrite path word val => Sys2Proof.Machine.execPersWordWrite path word val s
  | .persStoreDone word => Sys2Proof.Machine.execPersStoreDone word s
  | .cfgScrubPass bad => Sys2Proof.Machine.execCfgScrubPass bad s
  | .appliedCopyError addr good => Sys2Proof.Machine.execAppliedCopyError addr good s
  | .pcieLinkUp gen width mps host => Sys2Proof.Machine.execPcieLinkUp gen width mps host s
  | .ringCfgWrite ring reg val => Sys2Proof.Machine.execRingCfgWrite ring reg val s
  | .ringEnable ring => Sys2Proof.Machine.execRingEnable ring s
  | .ringDisable ring => Sys2Proof.Machine.execRingDisable ring s
  | .ringReset ring => Sys2Proof.Machine.execRingReset ring s
  | .ringDrainLimit ring => Sys2Proof.Machine.execRingDrainLimit ring s
  | .ringDrainEnd ring => Sys2Proof.Machine.execRingDrainEnd ring s
  | .doorbell ring off be val => Sys2Proof.Machine.execDoorbell ring off be val s
  | .cplDoorbell ring off be val => Sys2Proof.Machine.execCplDoorbell ring off be val s
  | .descTake ring raw ext => Sys2Proof.Machine.execDescTake ring raw ext s
  | .txCompletion ring n => Sys2Proof.Machine.execTxCompletion ring n s
  | .rxHostDeliver frame copy => Sys2Proof.Machine.execRxHostDeliver frame copy s
  | .intTimerExpire ring => Sys2Proof.Machine.execIntTimerExpire ring s
  | .msixUnmask vec => Sys2Proof.Machine.execMsixUnmask vec s
  | .dmaError ring write => Sys2Proof.Machine.execDmaError ring write s
  | .functionLevelReset => Sys2Proof.Machine.execFunctionLevelReset s
  | .d3hotEntry => Sys2Proof.Machine.execD3hotEntry s
  | .busMasterClear => Sys2Proof.Machine.execBusMasterClear s
  | .flowCreate d => Sys2Proof.Machine.execFlowCreate d s
  | .flowBoundConfirm flow => Sys2Proof.Machine.execFlowBoundConfirm flow s
  | .flowModify d => Sys2Proof.Machine.execFlowModify d s
  | .flowQuery d => Sys2Proof.Machine.execFlowQuery d s
  | .flowDestroy d => Sys2Proof.Machine.execFlowDestroy d s
  | .flowList d => Sys2Proof.Machine.execFlowList d s
  | .flowDisable d => Sys2Proof.Machine.execFlowDisable d s
  | .flowEnable d => Sys2Proof.Machine.execFlowEnable d s
  | .tchanCreate d => Sys2Proof.Machine.execTchanCreate d s
  | .tchanModify d => Sys2Proof.Machine.execTchanModify d s
  | .tchanQuery d => Sys2Proof.Machine.execTchanQuery d s
  | .tchanDestroy d => Sys2Proof.Machine.execTchanDestroy d s
  | .tchanList d => Sys2Proof.Machine.execTchanList d s
  | .tchanDisable d => Sys2Proof.Machine.execTchanDisable d s
  | .tchanEnable d => Sys2Proof.Machine.execTchanEnable d s
  | .mchanCreate d => Sys2Proof.Machine.execMchanCreate d s
  | .mchanModify d => Sys2Proof.Machine.execMchanModify d s
  | .mchanQuery d => Sys2Proof.Machine.execMchanQuery d s
  | .mchanDestroy d => Sys2Proof.Machine.execMchanDestroy d s
  | .mchanList d => Sys2Proof.Machine.execMchanList d s
  | .mchanDisable d => Sys2Proof.Machine.execMchanDisable d s
  | .mchanEnable d => Sys2Proof.Machine.execMchanEnable d s
  | .mirrorCreate d => Sys2Proof.Machine.execMirrorCreate d s
  | .mirrorModify d => Sys2Proof.Machine.execMirrorModify d s
  | .mirrorQuery d => Sys2Proof.Machine.execMirrorQuery d s
  | .mirrorDestroy d => Sys2Proof.Machine.execMirrorDestroy d s
  | .mirrorList d => Sys2Proof.Machine.execMirrorList d s
  | .mirrorDisable d => Sys2Proof.Machine.execMirrorDisable d s
  | .mirrorEnable d => Sys2Proof.Machine.execMirrorEnable d s
  | .searchJobCreate d => Sys2Proof.Machine.execSearchJobCreate d s
  | .searchJobModify d => Sys2Proof.Machine.execSearchJobModify d s
  | .searchJobQuery d => Sys2Proof.Machine.execSearchJobQuery d s
  | .searchJobDestroy d => Sys2Proof.Machine.execSearchJobDestroy d s
  | .searchJobList d => Sys2Proof.Machine.execSearchJobList d s
  | .searchJobDisable d => Sys2Proof.Machine.execSearchJobDisable d s
  | .searchJobEnable d => Sys2Proof.Machine.execSearchJobEnable d s
  | .calJobCreate d => Sys2Proof.Machine.execCalJobCreate d s
  | .calJobModify d => Sys2Proof.Machine.execCalJobModify d s
  | .calJobQuery d => Sys2Proof.Machine.execCalJobQuery d s
  | .calJobDestroy d => Sys2Proof.Machine.execCalJobDestroy d s
  | .calJobList d => Sys2Proof.Machine.execCalJobList d s
  | .calJobDisable d => Sys2Proof.Machine.execCalJobDisable d s
  | .calJobEnable d => Sys2Proof.Machine.execCalJobEnable d s
  | .objDrainEnd handle => Sys2Proof.Machine.execObjDrainEnd handle s
  | .objDrainLimit handle => Sys2Proof.Machine.execObjDrainLimit handle s
  | .laneRetrain lane => Sys2Proof.Machine.execLaneRetrain lane s
  | .retrainDone lane code eyeW eyeH temp => Sys2Proof.Machine.execRetrainDone lane code eyeW eyeH temp s
  | .rxPolarityChange lane inv => Sys2Proof.Machine.execRxPolarityChange lane inv s
  | .adaptWindow lane density diversity lag blocks hdrErr fecCorr fecUncorr hiBer => Sys2Proof.Machine.execAdaptWindow lane density diversity lag blocks hdrErr fecCorr fecUncorr hiBer s
  | .qualMeasure lane eyeW eyeH => Sys2Proof.Machine.execQualMeasure lane eyeW eyeH s
  | .forceStepBack lane => Sys2Proof.Machine.execForceStepBack lane s
  | .elecIdleEntry lane temp => Sys2Proof.Machine.execElecIdleEntry lane temp s
  | .elecIdleExit lane idleMs temp => Sys2Proof.Machine.execElecIdleExit lane idleMs temp s
  | .fastExitFail lane => Sys2Proof.Machine.execFastExitFail lane s
  | .blockLock lane eyeW eyeH => Sys2Proof.Machine.execBlockLock lane eyeW eyeH s
  | .lockLoss lane => Sys2Proof.Machine.execLockLoss lane s
  | .lockLossRetrain lane => Sys2Proof.Machine.execLockLossRetrain lane s
  | .lanePhaseValid lane => Sys2Proof.Machine.execLanePhaseValid lane s
  | .laneGrpRemove path grp drainMs pwrOff => Sys2Proof.Machine.execLaneGrpRemove path grp drainMs pwrOff s
  | .laneGrpDrainEnd grp => Sys2Proof.Machine.execLaneGrpDrainEnd grp s
  | .laneGrpReturn path grp => Sys2Proof.Machine.execLaneGrpReturn path grp s
  | .laneNoSignalTimeout lane => Sys2Proof.Machine.execLaneNoSignalTimeout lane s
  | .portJoin port => Sys2Proof.Machine.execPortJoin port s
  | .canaryWindow rates load => Sys2Proof.Machine.execCanaryWindow rates load s
  | .vddLowerTick => Sys2Proof.Machine.execVddLowerTick s
  | .vscaleUnheldTimeout => Sys2Proof.Machine.execVscaleUnheldTimeout s
  | .avsWriteDone acked readMv => Sys2Proof.Machine.execAvsWriteDone acked readMv s
  | .avsRetry => Sys2Proof.Machine.execAvsRetry s
  | .avsStatusRead readMv currentMa => Sys2Proof.Machine.execAvsStatusRead readMv currentMa s
  | .avsAlert readMv currentMa => Sys2Proof.Machine.execAvsAlert readMv currentMa s
  | .swCondChange cause => Sys2Proof.Machine.execSwCondChange cause s
  | .swCondClear cause => Sys2Proof.Machine.execSwCondClear cause s
  | .ingressFrame port h => Sys2Proof.Machine.execIngressFrame port h s
  | .bpmAlloc r => Sys2Proof.Machine.execBpmAlloc r s
  | .forwardLookup frame => Sys2Proof.Machine.execForwardLookup frame s
  | .frameEligible frame fcsOk => Sys2Proof.Machine.execFrameEligible frame fcsOk s
  | .cbRecoveryReset fn => Sys2Proof.Machine.execCbRecoveryReset fn s
  | .schedSelect port => Sys2Proof.Machine.execSchedSelect port s
  | .egressSfd port marker => Sys2Proof.Machine.execEgressSfd port marker s
  | .bpmFree buf requester => Sys2Proof.Machine.execBpmFree buf requester s
  | .pauseReceive port pfc enable quanta => Sys2Proof.Machine.execPauseReceive port pfc enable quanta s
  | .pfcRefresh port => Sys2Proof.Machine.execPfcRefresh port s
  | .portHoldExpire port => Sys2Proof.Machine.execPortHoldExpire port s
  | .portHoldWrite path port val => Sys2Proof.Machine.execPortHoldWrite path port val s
  | .sqDeadlineExpire copy => Sys2Proof.Machine.execSqDeadlineExpire copy s
  | .residenceExpire copy => Sys2Proof.Machine.execResidenceExpire copy s
  | .resCfgWrite path val => Sys2Proof.Machine.execResCfgWrite path val s
  | .gateChange port => Sys2Proof.Machine.execGateChange port s
  | .gclSet d => Sys2Proof.Machine.execGclSet d s
  | .gclActivate port => Sys2Proof.Machine.execGclActivate port s
  | .gclGet d => Sys2Proof.Machine.execGclGet d s
  | .boundQuery d => Sys2Proof.Machine.execBoundQuery d s
  | .preemptVerify port ok => Sys2Proof.Machine.execPreemptVerify port ok s
  | .bpmQuotaWrite path req val => Sys2Proof.Machine.execBpmQuotaWrite path req val s
  | .auditVisit scan => Sys2Proof.Machine.execAuditVisit scan s
  | .storeRebuildDone pool => Sys2Proof.Machine.execStoreRebuildDone pool s
  | .bpmCarve d => Sys2Proof.Machine.execBpmCarve d s
  | .carveTakeEffect => Sys2Proof.Machine.execCarveTakeEffect s
  | .carveRollback => Sys2Proof.Machine.execCarveRollback s
  | .bpmAuditRun d => Sys2Proof.Machine.execBpmAuditRun d s
  | .fdbLearn pipe => Sys2Proof.Machine.execFdbLearn pipe s
  | .fdbAgeVisit mac vid => Sys2Proof.Machine.execFdbAgeVisit mac vid s
  | .fdbAdd d => Sys2Proof.Machine.execFdbAdd d s
  | .fdbDel d => Sys2Proof.Machine.execFdbDel d s
  | .fdbLookup d => Sys2Proof.Machine.execFdbLookup d s
  | .fdbFlush d => Sys2Proof.Machine.execFdbFlush d s
  | .fdbVlanSet d => Sys2Proof.Machine.execFdbVlanSet d s
  | .fdbMcgSet d => Sys2Proof.Machine.execFdbMcgSet d s
  | .fdbClsSet d => Sys2Proof.Machine.execFdbClsSet d s
  | .fdbClsDel d => Sys2Proof.Machine.execFdbClsDel d s
  | .fdbCbSet d => Sys2Proof.Machine.execFdbCbSet d s
  | .coreFault => Sys2Proof.Machine.execCoreFault s
  | .standbyTrackLoss err => Sys2Proof.Machine.execStandbyTrackLoss err s
  | .servoSample off => Sys2Proof.Machine.execServoSample off s
  | .timeStep d => Sys2Proof.Machine.execTimeStep d s
  | .timeSet d => Sys2Proof.Machine.execTimeSet d s
  | .swapReq path => Sys2Proof.Machine.execSwapReq path s
  | .swapCancel path => Sys2Proof.Machine.execSwapCancel path s
  | .stbyOut path => Sys2Proof.Machine.execStbyOut path s
  | .stbyIn path => Sys2Proof.Machine.execStbyIn path s
  | .ptpMessageReceive frame m => Sys2Proof.Machine.execPtpMessageReceive frame m s
  | .tchanSend chan msg => Sys2Proof.Machine.execTchanSend chan msg s
  | .tchanQualify chan => Sys2Proof.Machine.execTchanQualify chan s
  | .tchanTimeout chan => Sys2Proof.Machine.execTchanTimeout chan s
  | .lnkPhaseUpdate port phi freqOk => Sys2Proof.Machine.execLnkPhaseUpdate port phi freqOk s
  | .lnkHoldExpire port => Sys2Proof.Machine.execLnkHoldExpire port s
  | .refCandSample cand sig ppb off => Sys2Proof.Machine.execRefCandSample cand sig ppb off s
  | .refQualTimer cand => Sys2Proof.Machine.execRefQualTimer cand s
  | .refHoldoffExpire cand => Sys2Proof.Machine.execRefHoldoffExpire cand s
  | .refWtrExpire cand => Sys2Proof.Machine.execRefWtrExpire cand s
  | .esmcReceive port ssm essm => Sys2Proof.Machine.execEsmcReceive port ssm essm s
  | .esmcTimeout port => Sys2Proof.Machine.execEsmcTimeout port s
  | .esmcSend port => Sys2Proof.Machine.execEsmcSend port s
  | .ppsInEdge input intervalNs off => Sys2Proof.Machine.execPpsInEdge input intervalNs off s
  | .ppsInTimeout input => Sys2Proof.Machine.execPpsInTimeout input s
  | .holdoverTick dieTemp => Sys2Proof.Machine.execHoldoverTick dieTemp s
  | .modelLearn dieTemp => Sys2Proof.Machine.execModelLearn dieTemp s
  | .tempExtStale => Sys2Proof.Machine.execTempExtStale s
  | .refTempExtWrite val => Sys2Proof.Machine.execRefTempExtWrite val s
  | .refPrefWrite freq val => Sys2Proof.Machine.execRefPrefWrite freq val s
  | .refCandSet d => Sys2Proof.Machine.execRefCandSet d s
  | .refRealign d => Sys2Proof.Machine.execRefRealign d s
  | .refMdlReset d => Sys2Proof.Machine.execRefMdlReset d s
  | .pllFreqAcquired pll => Sys2Proof.Machine.execPllFreqAcquired pll s
  | .pllLock pll phErr => Sys2Proof.Machine.execPllLock pll phErr s
  | .pllBypassEntry pll cause phErr => Sys2Proof.Machine.execPllBypassEntry pll cause phErr s
  | .refclkLoss => Sys2Proof.Machine.execRefclkLoss s
  | .pllAutoReturn pll => Sys2Proof.Machine.execPllAutoReturn pll s
  | .pllReturn d => Sys2Proof.Machine.execPllReturn d s
  | .pllRampLoad d => Sys2Proof.Machine.execPllRampLoad d s
  | .rampStart d => Sys2Proof.Machine.execRampStart d s
  | .rampStopHold d => Sys2Proof.Machine.execRampStopHold d s
  | .rampStopZero d => Sys2Proof.Machine.execRampStopZero d s
  | .rampSegmentEnd pll => Sys2Proof.Machine.execRampSegmentEnd pll s
  | .pllAlign d => Sys2Proof.Machine.execPllAlign d s
  | .ppsOutPulse out => Sys2Proof.Machine.execPpsOutPulse out s
  | .ppsPulseEnd out => Sys2Proof.Machine.execPpsPulseEnd out s
  | .gnssClockFault ppm => Sys2Proof.Machine.execGnssClockFault ppm s
  | .gnssClockOk ppm => Sys2Proof.Machine.execGnssClockOk ppm s
  | .gnssSampleCheck codes1 codes5 stuck1 stuck5 => Sys2Proof.Machine.execGnssSampleCheck codes1 codes5 stuck1 stuck5 s
  | .gnssDwellStart => Sys2Proof.Machine.execGnssDwellStart s
  | .gnssDwellEnd r => Sys2Proof.Machine.execGnssDwellEnd r s
  | .gnssChBind path chan val => Sys2Proof.Machine.execGnssChBind path chan val s
  | .gnssChLock chan assisted => Sys2Proof.Machine.execGnssChLock chan assisted s
  | .gnssChPullinTimeout chan => Sys2Proof.Machine.execGnssChPullinTimeout chan s
  | .gnssChDataSync chan => Sys2Proof.Machine.execGnssChDataSync chan s
  | .gnssChLoss chan => Sys2Proof.Machine.execGnssChLoss chan s
  | .gnssChRelease chan => Sys2Proof.Machine.execGnssChRelease chan s
  | .gnssEpoch meas delayPs => Sys2Proof.Machine.execGnssEpoch meas delayPs s
  | .gnssSolutionDone sol => Sys2Proof.Machine.execGnssSolutionDone sol s
  | .gnssBurstStart slips => Sys2Proof.Machine.execGnssBurstStart slips s
  | .gnssBurstEnd => Sys2Proof.Machine.execGnssBurstEnd s
  | .gnssAutoAcqRound => Sys2Proof.Machine.execGnssAutoAcqRound s
  | .gnssSectOut d => Sys2Proof.Machine.execGnssSectOut d s
  | .gnssSectIn d => Sys2Proof.Machine.execGnssSectIn d s
  | .gnssSectTest d => Sys2Proof.Machine.execGnssSectTest d s
  | .gnssSectTestDone bad first => Sys2Proof.Machine.execGnssSectTestDone bad first s
  | .gnssSurveyRestart d => Sys2Proof.Machine.execGnssSurveyRestart d s
  | .gnssSurveyEnd d => Sys2Proof.Machine.execGnssSurveyEnd d s
  | .ticArm d => Sys2Proof.Machine.execTicArm d s
  | .ticStop d => Sys2Proof.Machine.execTicStop d s
  | .ticEdge chan stop coarse code => Sys2Proof.Machine.execTicEdge chan stop coarse code s
  | .ticRearm chan => Sys2Proof.Machine.execTicRearm chan s
  | .ticSampleTimeout chan => Sys2Proof.Machine.execTicSampleTimeout chan s
  | .ticGateEdge gate high => Sys2Proof.Machine.execTicGateEdge gate high s
  | .ticTbLoss locked => Sys2Proof.Machine.execTicTbLoss locked s
  | .ticTbOk => Sys2Proof.Machine.execTicTbOk s
  | .calJobEnd job quality a b codes temp => Sys2Proof.Machine.execCalJobEnd job quality a b codes temp s
  | .calJobTimeout job => Sys2Proof.Machine.execCalJobTimeout job s
  | .calTempStep temp => Sys2Proof.Machine.execCalTempStep temp s
  | .calStore word => Sys2Proof.Machine.execCalStore word s
  | .calStoreRetry word => Sys2Proof.Machine.execCalStoreRetry word s
  | .calSave d => Sys2Proof.Machine.execCalSave d s
  | .calReload d => Sys2Proof.Machine.execCalReload d s
  | .engWdogExpire e => Sys2Proof.Machine.execEngWdogExpire e s
  | .engFaultDetect e cause => Sys2Proof.Machine.execEngFaultDetect e cause s
  | .engTakeover task lost => Sys2Proof.Machine.execEngTakeover task lost s
  | .tchanPlaceRetry => Sys2Proof.Machine.execTchanPlaceRetry s
  | .engOut d => Sys2Proof.Machine.execEngOut d s
  | .engDrainEnd e => Sys2Proof.Machine.execEngDrainEnd e s
  | .engLoad d => Sys2Proof.Machine.execEngLoad d s
  | .engIn d => Sys2Proof.Machine.execEngIn d s
  | .engReplayDone e us => Sys2Proof.Machine.execEngReplayDone e us s
  | .engTaskPin d => Sys2Proof.Machine.execEngTaskPin d s
  | .polSet d => Sys2Proof.Machine.execPolSet d s
  | .polGet d => Sys2Proof.Machine.execPolGet d s
  | .polSave d => Sys2Proof.Machine.execPolSave d s
  | .spadDma d data clash => Sys2Proof.Machine.execSpadDma d data clash s
  | .engImgCommit d => Sys2Proof.Machine.execEngImgCommit d s
  | .spadWindowWrite off be val a => Sys2Proof.Machine.execSpadWindowWrite off be val a s
  | .spadSetAliasWrite off val a => Sys2Proof.Machine.execSpadSetAliasWrite off val a s
  | .spadClearAliasWrite off val a => Sys2Proof.Machine.execSpadClearAliasWrite off val a s
  | .spadToggleWrite off val => Sys2Proof.Machine.execSpadToggleWrite off val s
  | .engSpadPwrWrite path hi val => Sys2Proof.Machine.execEngSpadPwrWrite path hi val s
  | .spadBankTransitionDone bank => Sys2Proof.Machine.execSpadBankTransitionDone bank s
  | .perfCtlClear e val => Sys2Proof.Machine.execPerfCtlClear e val s
  | .perfSelWrite path e hi val => Sys2Proof.Machine.execPerfSelWrite path e hi val s
  | .perfPcWrap e k => Sys2Proof.Machine.execPerfPcWrap e k s
  | .perfSample e addr latency n => Sys2Proof.Machine.execPerfSample e addr latency n s
  | .omdLaneUp lane => Sys2Proof.Machine.execOmdLaneUp lane s
  | .omdFrameBad => Sys2Proof.Machine.execOmdFrameBad s
  | .heartbeat hb => Sys2Proof.Machine.execHeartbeat hb s
  | .time x => Sys2Proof.Machine.execTime x s
  | .fdbDelta hdr recs => Sys2Proof.Machine.execFdbDelta hdr recs s
  | .flowDelta hdr recs => Sys2Proof.Machine.execFlowDelta hdr recs s
  | .timeState hdr ts => Sys2Proof.Machine.execTimeState hdr ts s
  | .cbState hdr recs => Sys2Proof.Machine.execCbState hdr recs s
  | .resyncBegin hdr snapshot => Sys2Proof.Machine.execResyncBegin hdr snapshot s
  | .resyncData hdr fdb flows time cb => Sys2Proof.Machine.execResyncData hdr fdb flows time cb s
  | .resyncEnd hdr records => Sys2Proof.Machine.execResyncEnd hdr records s
  | .role hdr sec => Sys2Proof.Machine.execRole hdr sec s
  | .omdRetransmit seq => Sys2Proof.Machine.execOmdRetransmit seq s
  | .pairHbSend => Sys2Proof.Machine.execPairHbSend s
  | .pairHbMissCheck => Sys2Proof.Machine.execPairHbMissCheck s
  | .inbHeartbeatRx port hb => Sys2Proof.Machine.execInbHeartbeatRx port hb s
  | .pairTimeSend => Sys2Proof.Machine.execPairTimeSend s
  | .pairStateSend => Sys2Proof.Machine.execPairStateSend s
  | .pairSearchTimeout => Sys2Proof.Machine.execPairSearchTimeout s
  | .pairRoleWrite path val => Sys2Proof.Machine.execPairRoleWrite path val s
  | .pairFlowTimeout => Sys2Proof.Machine.execPairFlowTimeout s
  | .mirrorDeltaAge => Sys2Proof.Machine.execMirrorDeltaAge s
  | .pairRehearse d => Sys2Proof.Machine.execPairRehearse d s
  | .rehearsalEnd avsAck rateMax masters roleLatch ms => Sys2Proof.Machine.execRehearsalEnd avsAck rateMax masters roleLatch ms s
  | .pairRehearseTimer => Sys2Proof.Machine.execPairRehearseTimer s
  | .pairResync d => Sys2Proof.Machine.execPairResync d s
  | .pairCbSet d => Sys2Proof.Machine.execPairCbSet d s
  | .pwrRequest path val => Sys2Proof.Machine.execPwrRequest path val s
  | .pwrEntryDrainEnd => Sys2Proof.Machine.execPwrEntryDrainEnd s
  | .pwrForceGo path val => Sys2Proof.Machine.execPwrForceGo path val s
  | .wakeNEvent => Sys2Proof.Machine.execWakeNEvent s
  | .perstDeassert => Sys2Proof.Machine.execPerstDeassert s
  | .pwrWakeTimerMatch => Sys2Proof.Machine.execPwrWakeTimerMatch s
  | .pwrWakeSupplyOk => Sys2Proof.Machine.execPwrWakeSupplyOk s
  | .pwrWakeSupplyTimeout cause => Sys2Proof.Machine.execPwrWakeSupplyTimeout cause s
  | .pwrSwitchGood dom => Sys2Proof.Machine.execPwrSwitchGood dom s
  | .pwrSwitchTimeout dom => Sys2Proof.Machine.execPwrSwitchTimeout dom s
  | .pwrWakeDone => Sys2Proof.Machine.execPwrWakeDone s
  | .padRelease path val => Sys2Proof.Machine.execPadRelease path val s
  | .powerOnReset => Sys2Proof.Machine.execPowerOnReset s
  | .bootStart straps => Sys2Proof.Machine.execBootStart straps s
  | .partReset lowNs => Sys2Proof.Machine.execPartReset lowNs s
  | .sysRstPart path val => Sys2Proof.Machine.execSysRstPart path val s
  | .bootCommandRecord after1s => Sys2Proof.Machine.execBootCommandRecord after1s s
  | .flashRead d us => Sys2Proof.Machine.execFlashRead d us s
  | .flashWrite d verified ms => Sys2Proof.Machine.execFlashWrite d verified ms s
  | .evtSuppressWindow code arg0 => Sys2Proof.Machine.execEvtSuppressWindow code arg0 s
  | .faultClr path => Sys2Proof.Machine.execFaultClr path s
  | .firstClr path => Sys2Proof.Machine.execFirstClr path s
  | .logClr path => Sys2Proof.Machine.execLogClr path s
  | .jtagUpdateIr code => Sys2Proof.Machine.execJtagUpdateIr code s
  | .pcieLinkDown => Sys2Proof.Machine.execPcieLinkDown s
  | .refclkReturn => Sys2Proof.Machine.execRefclkReturn s
  | .omdLaneDown lane => Sys2Proof.Machine.execOmdLaneDown lane s
  | .gnssChRegain chan => Sys2Proof.Machine.execGnssChRegain chan s
  | .standbyTrackAcquired err => Sys2Proof.Machine.execStandbyTrackAcquired err s
  | .pauseQuantaExpire port mask => Sys2Proof.Machine.execPauseQuantaExpire port mask s
  | .rampClampReached pll => Sys2Proof.Machine.execRampClampReached pll s
  | .gnssRfEnLead => Sys2Proof.Machine.execGnssRfEnLead s
  | .hiberRetrain lane => Sys2Proof.Machine.execHiberRetrain lane s
  | .scheduledRetrain lane => Sys2Proof.Machine.execScheduledRetrain lane s

end Sys2Proof.Machine
end

