-- ==== Sys2Proof/Safety.lean ====
section
/-! DEFINITION. What counts as a safe run, and the terms in which statements speak of a step: what it answers and what it leaves
unchanged. -/

set_option Elab.async false

namespace Sys2Proof.Machine

/-- A step that answers a next state: neither a fault nor a refusal. -/
def Completes (s : State) : Prop := ∃ t, step s = .next t

/-- No reset holds the part: neither POR_N nor RST_N is asserted (R437). -/
def State.Up (s : State) : Prop := s.pwr.inReset = false

/-- The command answers a next state, and that state satisfies `P`. -/
def Gives (c : Instr) (s : State) (P : State → Prop) : Prop := ∃ t, exec c s = .next t ∧ P t

/-- The byte memories keep their canonical form: SPAD reads 0 and the flash 0xFF where nothing is listed. -/
def State.memWf (s : State) : Prop := Memory.wf 0 s.eng.spad = true ∧ Memory.wf flashErased s.flash = true

/-- The part's identity does not change: its ordering variant and its fused engines (R3, R6). -/
def SameId (s t : State) : Prop := t.variant = s.variant ∧ t.fused = s.fused

/-! ## Frames -/

/-- The parts of the state that frames name: the groups of `State`, with the RC bits told apart by register (`counters` is all of
them) and the bytes of SPAD told apart from the engines. -/
inductive Part where
  | variant | fused | clk | ready | keys | regs | counters | rc (n : RegName) | mbx | rd | rdI2c | evt | pers | hif | index | objs
  | lanes | grps | sw | fab | bpm | fdb | tcore | tchans | lnk | ref | free | pll | gnss | tic | cal | eng | spad | pair | pwr
  | boot | flash | pending
  deriving DecidableEq, Repr

/-- Part `p` is the same in two states; memories are compared byte by byte, as they read. -/
def Part.same (p : Part) (s t : State) : Prop :=
  match p with
  | .variant => t.variant = s.variant
  | .fused => t.fused = s.fused
  | .clk => t.clk = s.clk
  | .ready => t.ready = s.ready
  | .keys => t.keys = s.keys
  | .regs => t.regs = s.regs
  | .counters => True
  | .rc n => ∀ i j, t.rcWord ⟨n, i, j⟩ = s.rcWord ⟨n, i, j⟩
  | .mbx => t.mbx = s.mbx
  | .rd => t.rd = s.rd ∧ t.rdHi = s.rdHi
  | .rdI2c => t.rdI2c = s.rdI2c
  | .evt => t.evt = s.evt
  | .pers => t.pers = s.pers
  | .hif => t.hif = s.hif
  | .index => t.index = s.index
  | .objs => t.objs = s.objs
  | .lanes => t.lanes = s.lanes
  | .grps => t.grps = s.grps
  | .sw => t.sw = s.sw
  | .fab => t.fab = s.fab
  | .bpm => t.bpm = s.bpm
  | .fdb => t.fdb = s.fdb
  | .tcore => t.tcore = s.tcore
  | .tchans => t.tchans = s.tchans
  | .lnk => t.lnk = s.lnk
  | .ref => t.ref = s.ref
  | .free => t.free = s.free
  | .pll => t.pll = s.pll
  | .gnss => t.gnss = s.gnss
  | .tic => t.tic = s.tic
  | .cal => t.cal = s.cal
  | .eng => { t.eng with spad := [] } = { s.eng with spad := [] }
  | .spad => ∀ a, Memory.read 0 t.eng.spad a = Memory.read 0 s.eng.spad a
  | .pair => t.pair = s.pair
  | .pwr => t.pwr = s.pwr
  | .boot => t.boot = s.boot
  | .flash => ∀ a, Memory.read flashErased t.flash a = Memory.read flashErased s.flash a
  | .pending => t.pending = s.pending

/-- Part `q` takes in part `p`. -/
def Part.covers (q p : Part) : Bool :=
  decide (q = p) || (decide (q = .counters) && (match p with | .rc _ => true | _ => false))

/-- The step from `s` to `t` touches only the parts `ps`: every other part is the same after it. -/
def Touches (ps : List Part) (s t : State) : Prop := ∀ p, ps.any (fun q => q.covers p) = false → p.same s t

/-- What raising events may touch besides EVT itself: the pin status, the suppressed and lost counts, and the rings and messages of
the host interface (R417, R419). -/
abbrev evtParts : List Part := [.evt, .hif, .rc .evtPinStat, .rc .evtSuppressed, .rc .hifEvtLost]

/-- The value of a counter field of a register that reads clear (R24). -/
def State.count (s : State) (f : FieldRef) (i : Nat := 0) : Nat := fieldOf (s.rcWord ⟨f.reg, i, 0⟩) f.lo f.width

/-- That value after `n` more, saturated (R24). -/
def State.counted (s : State) (f : FieldRef) (i : Nat := 0) (n : Nat := 1) : Nat := satAdd f.width (s.count f i) n

/-- What freed or discarded copies may touch: the buffers, the engines that wait for them, the records of the transmit rings (R167, R176). -/
abbrev copyParts : List Part := evtParts ++ [.sw, .fab, .bpm, .fdb, .free, .eng, .rc .bpmDoubleFreeCnt, .rc .bpmForeignFreeCnt,
  .rc .bpmPoolEmptyCnt, .rc .bpmPromoteCnt, .rc .hifRingAborted, .rc .perfTagDrop]

/-- What a change of the selected references may touch: the servo and the rate, the PLL that follows, the pair, which is told at once, and a
wake (R205, R258, R280, R375, R396). -/
abbrev refParts : List Part := evtParts ++ [.clk, .tcore, .ref, .free, .pll, .pair, .pwr, .rc .pairMirOvf, .rc .pllCnt, .rc .pwrWakeSrc]

/-- What the bypass of PLL-T and its ramps may touch: the phases of the ports, what synchronises to them and what is calibrated over them
(R251, R283). -/
abbrev bypParts : List Part := evtParts ++ [.lnk, .pll, .tchans, .tic, .cal, .rc .calAbortCnt]

/-- What the loss of LOCK may take with it besides the lane: the copies and buffers of its port, the channels on it, its recovered
clock, what synchronises to it and what is calibrated over it (R100, R114, R115, R224, R227, R327). -/
abbrev lossParts : List Part := copyParts ++ refParts ++ [.lanes, .tchans, .lnk, .tic, .cal, .rc .calAbortCnt, .rc .portHoldFlush]

/-- What a retrain may take with it: that, and the writes and corrections that take effect at its IDL point (R31, R329). -/
abbrev retrainParts : List Part := lossParts ++ [.regs]

/-- No lane but `n` changes. -/
def OtherLanes (n : Nat) (s t : State) : Prop := ∀ m, m ≠ n → t.lane m = s.lane m

/-! ## Registers -/

/-- The registers whose writes do more than store the word: the unit acts on them at once, or a rule of their own governs the write. -/
def RegName.acts (n : RegName) : Bool :=
  [.sysKey, .sysRst, .sysCommit, .persWord, .pwrReq, .pwrPadRel, .pwrForce, .evtCtrl, .hifRingCtrl, .hifRingBaseLo, .hifRingBaseHi,
   .hifRingSize, .laneCtrl, .laneGrpCtrl, .portHold, .swResCfg, .bpmQuota, .tcoreSwap, .refPrefT, .refPrefF, .refTempExt, .gnssPosCfg,
   .gnssChCfg, .engSpadPwr, .perfSel, .perfCtl, .pairRole, .tcoreCtrl, .tcoreRate, .refCandCfg, .refCfg, .refQlCfg, .lnkPortCfg,
   .swVsCtrl, .bpmAlpha, .portCfg, .ticCfg, .laneTxEq, .portExpress, .portTcMode, .portDrrQuant, .fdbPortCfg, .tcorePortTs, .hifRxMap,
   .hifGlbCtrl].contains n

/-- The words whose commit has a rule of its own (R101, R139, R177, R275). -/
def RegName.commitRule (n : RegName) : Bool :=
  [.laneGrpMode, .portCfg, .portSchedCap, .swBoundRate, .bpmCfg, .bpmHeadroom, .pllCfg, .pllRatioN, .pllRatioNum, .pllRatioDen, .pllSrcCand,
   .pllOutCfg].contains n

/-- A write of the register finds its unit present and on, and no instance stopped. -/
def State.Writable (s : State) (k : RegKey) : Prop :=
  s.regPresent k = true ∧ k.implemented = true ∧ s.regDown k = false ∧ s.regs.stopped.contains k = false

/-- No copy of a register other than `k` changes. -/
def OtherRegs (k : RegKey) (s t : State) : Prop := ∀ k', k' ≠ k → t.written k' = s.written k' ∧ t.stored k' = s.stored k'

/-- Word `w` stands in the written copy of `k`; the IMM fields run on it at once, and for every other field that the mask `m` touches
the register waits at the field's apply point (R10, R31, R32). -/
def Stored (k : RegKey) (m w : Word) (s t : State) : Prop :=
  t.written k = w ∧
  t.stored k = ((s.stored k &&& ~~~ (k.mask (fun f => decide (f.apply = .imm)) &&& k.storedMask)) |||
    (w &&& (k.mask (fun f => decide (f.apply = .imm)) &&& k.storedMask))) ∧
  (∀ p, p ∈ s.waitPoints k m → ∃ x, x ∈ t.regs.pend ∧ x.key = k ∧ p ∈ x.points) ∧
  OtherRegs k s t ∧ Touches [.regs] s t

/-! ## Commands of a ring, an engine, the boot or the peer -/

/-- The command `op` starts (its ring's turn, the next of its ring, no FENCE: R65, R92) and passes the checks `c` of Table HDL-4. -/
def State.Accepts (s : State) (d : CmdDesc) (op : Nat) (c : Checks) : Prop := s.startBlocked d op = false ∧ s.check d c = none

/-- The command has completed with this status, HANDLE, RESULT and bytes for its buffer. -/
def CompletedExt (d : CmdDesc) (opcode : Nat) (st : Status) (handle : Word) (result ext : List Byte) (t : State) : Prop :=
  t.hif.lastCpl = some { src := d.src, tag := d.tag, opcode := opcode, handle := handle, status := st, result := result, extOut := ext }

/-- The command has completed and writes no buffer. -/
abbrev Completed (d : CmdDesc) (opcode : Nat) (st : Status) (handle : Word) (result : List Byte) (t : State) : Prop :=
  CompletedExt d opcode st handle result [] t

/-- What a completion may touch: the rings, the boot's count of failed commands, and the unlock of the path that a key-guarded command
consumes (R37, R62, R408). -/
abbrev cplParts : List Part := [.hif, .boot, .rc .hifRingAborted, .keys]

/-- What a commit may touch: every unit whose settings take effect at it (R31, R35). -/
abbrev commitParts : List Part := retrainParts ++ [.keys, .index, .objs, .grps, .boot, .rc .pairPromoteCnt]

/-- What a second boundary may touch: that, and the units that act once a second (R31). -/
abbrev secParts : List Part := commitParts ++ [.pers, .gnss, .rc .calStoreFail]

/-! ## The commands of the object types (Table HDL-1) -/

/-- MODIFY of a type. -/
def modifyCmd (t : ObjType) (d : CmdDesc) : Instr :=
  match t with
  | .flow => .flowModify d | .tchan => .tchanModify d | .mchan => .mchanModify d | .mirror => .mirrorModify d
  | .search => .searchJobModify d | .cal => .calJobModify d

/-- QUERY of a type. -/
def queryCmd (t : ObjType) (d : CmdDesc) : Instr :=
  match t with
  | .flow => .flowQuery d | .tchan => .tchanQuery d | .mchan => .mchanQuery d | .mirror => .mirrorQuery d
  | .search => .searchJobQuery d | .cal => .calJobQuery d

/-- DESTROY of a type. -/
def destroyCmd (t : ObjType) (d : CmdDesc) : Instr :=
  match t with
  | .flow => .flowDestroy d | .tchan => .tchanDestroy d | .mchan => .mchanDestroy d | .mirror => .mirrorDestroy d
  | .search => .searchJobDestroy d | .cal => .calJobDestroy d

/-- LIST of a type. -/
def listCmd (t : ObjType) (d : CmdDesc) : Instr :=
  match t with
  | .flow => .flowList d | .tchan => .tchanList d | .mchan => .mchanList d | .mirror => .mirrorList d
  | .search => .searchJobList d | .cal => .calJobList d

/-- DISABLE of a type. -/
def disableCmd (t : ObjType) (d : CmdDesc) : Instr :=
  match t with
  | .flow => .flowDisable d | .tchan => .tchanDisable d | .mchan => .mchanDisable d | .mirror => .mirrorDisable d
  | .search => .searchJobDisable d | .cal => .calJobDisable d

/-- ENABLE of a type. -/
def enableCmd (t : ObjType) (d : CmdDesc) : Instr :=
  match t with
  | .flow => .flowEnable d | .tchan => .tchanEnable d | .mchan => .mchanEnable d | .mirror => .mirrorEnable d
  | .search => .searchJobEnable d | .cal => .calJobEnable d

/-- What the commands on objects may touch: the object and its unit, and what its unit stops or starts. -/
abbrev objParts : List Part := retrainParts ++ cplParts ++ [.index, .objs, .gnss, .rc .ticTmoCnt]

/-- A command `op` of R139 is taken at once: it starts, and none is evaluated. -/
def State.AdmFree (s : State) (d : CmdDesc) (op : Nat) : Prop := s.startBlocked d op = false ∧ s.admBusy = false

/-- No reference is selected, none waits for its return, and no candidate but `id` may be selected. -/
def State.Alone (s : State) (id : Nat) : Prop :=
  s.ref.tsel = none ∧ s.ref.fsel = none ∧ s.ref.stepPend = none ∧ ∀ j, j ≠ id → s.candUsable j = false

/-- A sequenced frame of the peer is the next one in order, none is held back, and the link carries mirroring (R368, R375). -/
def State.InOrder (s : State) (h : OmdHdr) : Prop :=
  s.omdUp = true ∧ h.seq % 2 ^ 32 = s.pair.rxSeq ∧ s.pair.held = [] ∧ s.mirroring = true

/-- The entries of the database that are left when those learned from the peer go (R376, R383). -/
def State.unmirrored (s : State) : Tab (Nat × Nat) FdbEntry :=
  s.fdb.entries.filter (fun e => !(s.fdb.entries.any (fun x => x.2.mirrored && decide (x.1 = e.1))))

/-- The version store can take the copies of the entries learned from the peer (R192). -/
def State.MirroredFit (s : State) : Prop :=
  s.fdb.retired.length + (s.fdb.entries.filter (fun e => e.2.mirrored)).length ≤ 4096

/-- That frame has been taken: the expected number is one on (R368). -/
def State.TookFrame (s t : State) : Prop := t.pair.rxSeq = (s.pair.rxSeq + 1) % 2 ^ 32 ∧ t.pair.held = []

/-- What a sequenced frame may touch (R374 to R377, R382, R383). -/
abbrev omdParts : List Part := copyParts ++ cplParts ++ [.clk, .regs, .index, .objs, .tcore, .ref, .pair, .pwr, .rc .fdbLearnFail,
  .rc .fdbLearnSkip, .rc .pairMirOvf, .rc .pwrWakeSrc]

/-- FDB_FLUSH takes an entry: its port, its VLAN and whether it is static, as the operands say (Table FDB-5). -/
def fdbFlushTakes (d : CmdDesc) (x : (Nat × Nat) × FdbEntry) : Bool :=
  (decide (d.arg 12 2 = 0xFFFF) || decide (x.2.dest = d.arg 12 2)) && (decide (d.arg 14 2 = 0xFFFF) || decide (x.1.2 = d.arg 14 2)) &&
    (decide (d.arg 16 1 = 1) || !x.2.static)

end Sys2Proof.Machine
end

