-- ==== Sys2Proof/Certificates/Slice0/Obligations.lean ====
section
/-! DEFINITION. The statements for the provers.  Each says, command by command, in which states it completes, what the state then holds,
and (Touches) that no other part of the state changes. -/

set_option Elab.async false

open Sys2Proof Sys2Proof.Machine

/-- The step takes the command at the front of the queue: step is exec of it on the state with the queue's rest. -/
def Obligations.StepTakesFront : Prop :=
  ∀ (s : State) (c : Instr) (l : List Instr), step { s with pending := c :: l } = exec c { s with pending := l }

/-- Log entry 2 (the model's choice): on an empty queue one period of TIME passes. Held in reset without KEEP_TIME, or before TCORE is
READY, only the model clock moves; with KEEP_TIME both cores count on (R404); otherwise, inside a second, they advance by one period of
the rate and nothing else changes; a second boundary that they cross is taken. -/
def Obligations.EmptyQueueTick : Prop :=
  ∀ s : State, s.pending = [] → ∃ t, step s = .next t ∧ t.pending = [] ∧
    ((s.pwr.inReset = true ∧ s.pwr.keepTime = false) ∨ (s.pwr.inReset = false ∧ s.isReady Rdy.tcore = false) →
      t = { s with clk := { s.clk with now := s.clk.now + 1600 } }) ∧
    ((s.pwr.inReset = true ∧ s.pwr.keepTime = true) ∨ (s.pwr.inReset = false ∧ s.isReady Rdy.tcore = true ∧
        (s.tod + periodUnits s.clk.rate) / unitsPerS ≤ s.clk.secDone) →
      t = { s with clk := { s.clk with
              tcA := s.clk.tcA + periodUnits s.clk.rate, tcB := s.clk.tcB + periodUnits s.clk.rate, now := s.clk.now + 1600 } }) ∧
    (s.pwr.inReset = false → s.isReady Rdy.tcore = true → s.clk.secDone < (s.tod + periodUnits s.clk.rate) / unitsPerS →
      t = (({ s with clk := { s.clk with
              tcA := s.clk.tcA + periodUnits s.clk.rate, tcB := s.clk.tcB + periodUnits s.clk.rate, now := s.clk.now + 1600 } } : State).atSecond))

/-- R35, R81, R88, R203, R248, R371, R437: after reset no command waits, nothing is ready, unlocked or pending, every ring is DISABLED,
no object exists and every generation is 0, time stands at zero in FREERUN, the pair is standalone, the power state is RUN, and every
register holds the reset value of its table in both copies; the byte memories list nothing. -/
def Obligations.ResetState : Prop :=
  State.reset.pending = [] ∧ State.reset.ready = 0 ∧ State.reset.memWf ∧ (∀ p, State.reset.unlocked p = false) ∧
  State.reset.regs.pend = [] ∧ State.reset.regs.cfgErr = [] ∧
  (∀ n, State.reset.ring n = { state := .disabled, pidx := 0, cidx := 0, phase := true, armed := false, errCause := 0 }) ∧
  (∀ y, State.reset.inUse y = [] ∧ ∀ i, State.reset.gen y i = 0) ∧
  State.reset.tod = 0 ∧ State.reset.tcore.tstate = .freerun ∧ State.reset.pair.role = .alone ∧ State.reset.pair.st = .off ∧
  State.reset.pwr.state = 0 ∧ State.reset.pwr.seq = .idle ∧
  (∀ k, State.reset.written k = State.reset.stored k) ∧
  (∀ k, k.name ≠ .laneTxEq → State.reset.written k = k.reset) ∧
  (∀ k, State.reset.rcWord k = 0)

/-- An invariant of every step, from every state: the byte memories of SPAD and the flash keep their canonical form, the ordering
variant and the fused engines stay what they are (R2, R6), and the queue loses the command at its front and nothing else. -/
def Obligations.StepKeepsMemoryForm : Prop :=
  ∀ s t : State, step s = .next t → SameId s t ∧ t.pending = s.pending.tail ∧ (s.memWf → t.memWf)

/-- Every command whose operands are well formed answers a next state, in every state: none faults, and only ill-formed operands are
refused. While a reset holds the part (R437) the state stays, but for the reset inputs, the test access port and what KEEP_TIME leaves
running (R404, R442). -/
def Obligations.EveryCommandCompletes : Prop :=
  ∀ (c : Instr) (s : State),
    (Instr.wf c = true → Gives c s (fun t => SameId s t ∧ t.pending = s.pending)) ∧
    (Instr.wf c = false → exec c s = .refused .illFormed) ∧
    (Instr.wf c = true → s.pwr.inReset = true → (exec c s = .next s ∨ c = .powerOnReset ∨ (∃ x, c = .bootStart x) ∨
      (∃ n, c = .jtagUpdateIr n) ∨ (∃ n, c = .ppsOutPulse n) ∨ (∃ n, c = .ppsPulseEnd n) ∨ c = .secondBoundary))

/-- R4, R37, R42, R90: the checks of Table HDL-4 in their order, shown on QUERY and DESTROY of every type, on FLASH_WRITE (key-guarded)
and on PAIR_CB_SET: a command completes with the first status that applies and has no other effect; an absent unit is UNSUPPORTED
whatever else fails. -/
def Obligations.CommandChecks : Prop :=
  (∀ (s : State) (y : ObjType) (d : CmdDesc), s.Up → d.wf = true → s.startBlocked d (y.op 3) = false → s.objAbsent y d.handle = true →
    Gives (queryCmd y d) s (fun t => Completed d (y.op 3) .unsupported 0 [] t ∧ Touches cplParts s t)) ∧
  (∀ (s : State) (y : ObjType) (d : CmdDesc), s.Up → d.wf = true → s.startBlocked d (y.op 3) = false → s.objAbsent y d.handle = false →
    (hType d.handle ≠ y.code ∨ y.indexes ≤ hIndex d.handle) →
    Gives (queryCmd y d) s (fun t => Completed d (y.op 3) .badArg 0 [] t ∧ Touches cplParts s t)) ∧
  (∀ (s : State) (y : ObjType) (d : CmdDesc) (st : Status), s.Up → d.wf = true → s.startBlocked d (y.op 4) = false → y ≠ .flow →
    s.drainingObj y d.handle = none →
    s.objAbsent y d.handle = false → d.badForm false = false → hType d.handle = y.code → hIndex d.handle < y.indexes →
    drainReserved d = false →
    st = (if s.parityIn y.blocks then .parity else if y.ready.any (fun b => !(s.isReady b)) then .notReady else .handleStale) →
    s.stale y d.handle = true →
    Gives (destroyCmd y d) s (fun t => Completed d (y.op 4) st 0 [] t ∧ Touches cplParts s t)) ∧
  (∀ (s : State) (d : CmdDesc) (ok : Bool) (ms k : Nat) (st : Status), s.Up → d.wf = true → s.startBlocked d 0x8002 = false →
    s.check d { s.flashChecks d true 4096 with guarded := true } = some (k, st) →
    Gives (.flashWrite d ok ms) s (fun t =>
      Completed d 0x8002 st 0 [] t ∧ t.flash = s.flash ∧
      (k ≤ 3 → t.keys = s.keys) ∧ (3 < k → t.unlocked d.src.path = false) ∧ Touches cplParts s t)) ∧
  (∀ (s : State) (d : CmdDesc), s.Up → d.wf = true → s.startBlocked d 0xCC03 = false →
    (s.variant.pair = false → Gives (.pairCbSet d) s (fun t => Completed d 0xCC03 .unsupported 0 [] t ∧ Touches cplParts s t)) ∧
    (s.variant.pair = true → d.badForm false = false → d.handle = 0 → d.zero 15 32 = true → s.parityIn [.pair] = true →
      Gives (.pairCbSet d) s (fun t => Completed d 0xCC03 .parity 0 [] t ∧ Touches cplParts s t)))

/-- R10, R23, R31, R32, R34: a plain write of a register that only stores its word; with the pending store full the word is discarded; a
write to no register is counted (R21, R425). R26: the set, clear and toggle aliases change the RW bits that are one in the value
written, and only those. -/
def Obligations.RegisterWrites : Prop :=
  (∀ (s : State) (p : Path) (a : Nat) (v : Word) (k : RegKey), s.Up → p.wf = true → a < 0x800000 → regAt (a / 4 * 4) = some k →
    k.name.acts = false → s.Writable k → k.storedMask ≠ 0 → s.pendOverflow k (s.waitPoints k allBits) = false →
    Gives (.registerWrite p a 15 v) s (Stored k allBits ((s.written k &&& ~~~ k.storedMask) ||| (v &&& k.storedMask)) s)) ∧
  (∀ (s : State) (p : Path) (a : Nat) (v : Word) (k : RegKey), s.Up → p.wf = true → a < 0x800000 → regAt (a / 4 * 4) = some k →
    k.name.acts = false → s.Writable k → k.storedMask ≠ 0 → s.pendOverflow k (s.waitPoints k allBits) = true →
    Gives (.registerWrite p a 15 v) s (fun t => t.count Fld.sysApplyStat_OVF = 1 ∧ Touches (.rc .sysApplyStat :: evtParts) s t)) ∧
  (∀ (s : State) (p : Path) (a : Nat) (v : Word), s.Up → p.wf = true → a < 0x800000 → regAt (a / 4 * 4) = none →
    mbxAt (a / 4 * 4) = none →
    Gives (.registerWrite p a 15 v) s (fun t =>
      t.count Fld.sysBadAccess_VAL = s.counted Fld.sysBadAccess_VAL ∧ Touches [.rc .sysBadAccess] s t)) ∧
  (∀ (s : State) (p : Path) (a : Nat) (v : Word) (k : RegKey), s.Up → p.wf = true → regAt (a / 4 * 4) = some k →
    k.name.acts = false → s.Writable k → k.typeMask .rw ≠ 0 →
    s.pendOverflow k (s.waitPoints k (v &&& k.typeMask .rw)) = false →
    Gives (.setAliasWrite p a v) s (Stored k (v &&& k.typeMask .rw) (s.written k ||| (v &&& k.typeMask .rw)) s)) ∧
  (∀ (s : State) (p : Path) (a : Nat) (v : Word) (k : RegKey), s.Up → p.wf = true → regAt (a / 4 * 4) = some k →
    k.name.acts = false → s.Writable k → k.typeMask .rw ≠ 0 →
    s.pendOverflow k (s.waitPoints k (v &&& k.typeMask .rw)) = false →
    Gives (.clearAliasWrite p a v) s (Stored k (v &&& k.typeMask .rw) (s.written k &&& ~~~ (v &&& k.typeMask .rw)) s)) ∧
  (∀ (s : State) (p : Path) (a : Nat) (v : Word) (k : RegKey), s.Up → p.wf = true → regAt (a / 4 * 4) = some k →
    k.name.acts = false → s.Writable k → k.typeMask .rw ≠ 0 →
    s.pendOverflow k (s.waitPoints k (v &&& k.typeMask .rw)) = false →
    Gives (.toggleAliasWrite p a v) s (Stored k (v &&& k.typeMask .rw) (s.written k ^^^ (v &&& k.typeMask .rw)) s)) ∧
  (∀ (s : State) (p : Path) (a : Nat) (v : Word) (k : RegKey), s.Up → p.wf = true → regAt (a / 4 * 4) = some k →
    k.typeMask .rw = 0 →
    Gives (.setAliasWrite p a v) s (fun t => Touches [] s t) ∧ Gives (.clearAliasWrite p a v) s (fun t => Touches [] s t) ∧
    Gives (.toggleAliasWrite p a v) s (fun t => Touches [] s t))

/-- R24, R26, R45, R52, R58, R359: a read returns the bytes asked for and clears the RC bits that it returns, in the same step; an alias
read clears nothing; byte 3 of the last mailbox word clears VALID; BAR2 reads zero, BAR4 the user window, the MSI-X table and the PBA.
-/
def Obligations.ReadClears : Prop :=
  (∀ (s : State) (p : Path) (a : Nat) (be : BitVec 4) (k : RegKey), s.Up → p.wf = true → a < 0x800000 →
    regAt (a / 4 * 4) = some k → k.name ≠ .sysKey → k.name.row.block ≠ .perf → s.regPresent k = true → s.regDown k = false →
    Gives (.rcRead p a be) s (fun t =>
      t.rd = s.readReg p k &&& beMask be ∧
      t.rcWord k = s.rcWord k &&& ~~~ (k.typeMask .rc &&& beMask be) ∧
      (∀ k', k' ≠ k → t.rcWord k' = s.rcWord k') ∧
      Touches [.rd, .rc k.name] s t)) ∧
  (∀ (s : State) (a : Nat) (be : BitVec 4), s.Up →
    (0x4000000 ≤ a → a < 0x8000000 → Gives (.rcRead .pcie a be) s (fun t => t.rd = 0 ∧ Touches [.rd] s t)) ∧
    (0x8000000 ≤ a → a < 0x8004000 → Gives (.rcRead .pcie a be) s (fun t =>
      t.rd = s.bar4Word ((a - 0x8000000) / 4 * 4) &&& beMask be ∧ Touches [.rd, .free] s t))) ∧
  (∀ (s : State) (p : Path) (a : Nat) (be : BitVec 4) (k : RegKey), s.Up → p.wf = true → 0x1000000 ≤ a → a < 0x4000000 →
    regAt (a % 0x1000000 / 4 * 4) = some k → k.name.row.block ≠ .perf →
    Gives (.rcRead p a be) s (fun t => t.rd = s.readReg p k &&& beMask be ∧ Touches [.rd] s t)) ∧
  (∀ (s : State) (p : Path) (a : Nat) (be : BitVec 4) (b : Block), s.Up → p.wf = true → a < 0x800000 → regAt (a / 4 * 4) = none →
    mbxAt (a / 4 * 4) = some (b, 0x3C + 4 * (s.mbxPage p b).data.length) → (s.mbxPage p b).data ≠ [] → (s.mbxPage p b).valid = true →
    bitAt be.toNat 3 = true →
    Gives (.mbxLastWordRead p a be) s (fun t =>
      t.mbxPage p b = { s.mbxPage p b with valid := false } ∧
      t.rd = s.mbxRead p b (0x3C + 4 * (s.mbxPage p b).data.length) &&& beMask be ∧
      (∀ q c, (c, q) ≠ (b, p) → t.mbxPage q c = s.mbxPage q c) ∧ Touches [.rd, .mbx] s t)) ∧
  (∀ (s : State) (a n : Nat), s.Up → n ≤ 4096 → a < 0x800000 →
    Gives (.i2cReadTransfer a n) s (fun t =>
      t.rdI2c.length = n ∧ t.rd = s.rd ∧ Touches [.rdI2c, .keys, .mbx, .free, .counters] s t))

/-- R28, R29, R43, R44: a masked I²C write changes the bits under its mask, mask 0 has no effect; a mailbox request fills its page. -/
def Obligations.I2cAndMailbox : Prop :=
  (∀ (s : State) (a : Nat) (g : I2cGroup) (k : RegKey), s.Up → a % 4 = 0 → a < 0x800000 → regAt a = some k → k.name.acts = false →
    s.Writable k → k.storedMask ≠ 0 → g.mask ≠ 0 → s.pendOverflow k (s.waitPoints k (BitVec.ofNat 32 g.mask.toNat)) = false →
    Gives (.i2cWriteTransfer a [g]) s
      (Stored k (BitVec.ofNat 32 g.mask.toNat) ((s.written k &&& ~~~ (BitVec.ofNat 32 g.mask.toNat &&& k.storedMask)) |||
        (BitVec.ofNat 32 g.data.toNat &&& (BitVec.ofNat 32 g.mask.toNat &&& k.storedMask))) s)) ∧
  (∀ (s : State) (a : Nat) (g : I2cGroup), s.Up → g.mask = 0 →
    Gives (.i2cWriteTransfer a [g]) s (fun t => Touches [] s t)) ∧
  (∀ (s : State) (p : Path) (b : Block) (v : Word), s.Up → p.wf = true → b.hasMbx = true → b.mailbox < 0x800000 →
    regAt b.mailbox = none → mbxAt b.mailbox = some (b, 0) → s.blockPresent b = true →
    Gives (.mbxRequest p b.mailbox v) s (fun t =>
      t.mbxPage p b = { valid := true, status := (s.mbxSnap b (fieldOf v 0 16)).2.1.code
                        data := (s.mbxSnap b (fieldOf v 0 16)).2.2.map (fun w => BitVec.ofNat 32 w) } ∧
      (∀ q c, (c, q) ≠ (b, p) → t.mbxPage q c = s.mbxPage q c) ∧ Touches [.sw, .free, .eng, .mbx] s t)) ∧
  (∀ (s : State) (p : Path) (b : Block) (v : Word), s.Up → p.wf = true → b.hasMbx = true → b.mailbox < 0x800000 →
    regAt b.mailbox = none → mbxAt b.mailbox = some (b, 0) → s.blockPresent b = false →
    Gives (.mbxRequest p b.mailbox v) s (fun t => Touches [] s t))

/-- R36, R38: each path has its own unlock; a wrong key locks and counts, the sixteenth within 1 s blocks the path, and a blocked path
takes no key. -/
def Obligations.KeyPerPath : Prop :=
  (∀ (s : State) (p : Path), s.Up → p.wf = true → p ≠ .boot → (s.key p).blocked = false →
    Gives (.sysKeyWrite p 0x7E1A) s (fun t =>
      t.key p = { s.key p with unlocked := true } ∧ (∀ q, q ≠ p → t.key q = s.key q) ∧ Touches [.keys] s t)) ∧
  (∀ (s : State) (p : Path) (v : Word), s.Up → p.wf = true → p ≠ .boot → (s.key p).blocked = false → v ≠ 0x7E1A →
    Gives (.sysKeyWrite p v) s (fun t =>
      (t.key p).unlocked = false ∧ (t.key p).failCnt = min 255 ((s.key p).failCnt + 1) ∧
      (t.key p).blocked = decide (15 ≤ ((s.key p).wrong.filter (fun x => decide (s.clk.now < x + 10 ^ 12))).length) ∧
      (∀ q, q ≠ p → t.key q = s.key q) ∧ Touches [.keys] s t)) ∧
  (∀ (s : State) (p : Path) (v : Word), s.Up → p.wf = true → (s.key p).blocked = true →
    Gives (.sysKeyWrite p v) s (fun t => Touches [] s t)) ∧
  (∀ (s : State) (p : Path), s.Up → p.wf = true →
    Gives (.keyUnlockExpire p) s (fun t =>
      t.key p = { s.key p with unlocked := false } ∧ (∀ q, q ≠ p → t.key q = s.key q) ∧ Touches [.keys] s t)) ∧
  (∀ (s : State) (p : Path), s.Up → p.wf = true →
    Gives (.keyBlockExpire p) s (fun t =>
      t.key p = { s.key p with blocked := false } ∧ (∀ q, q ≠ p → t.key q = s.key q) ∧ Touches [.keys] s t))

/-- R31, R32, R35, R101, R139, R177, R275: COMMIT gives every waiting CMT field its written value, but for the words that a rule keeps
at their applied value; AT_SEC defers it to the next SEC point, DISCARD drops what waits and the written copies go back; a frame
boundary applies the FRM fields of its port. -/
def Obligations.ApplyPoints : Prop :=
  (∀ s : State, s.Up →
    Gives .commit s (fun t =>
      (s.admBusy = false → t.waitingAt .cmt (fun _ => true) = []) ∧
      (∀ k, k ∈ t.waitingAt .cmt (fun _ => true) → k.name = .portCfg ∨ k.name = .portSchedCap) ∧
      t.regs.cmtAtSec = false ∧ Touches commitParts s t)) ∧
  (∀ (s : State) (k : RegKey), s.Up → k ∈ s.waitingAt .cmt (fun _ => true) → k.name.commitRule = false → k.pointMask .cmt ≠ 0 →
    Gives .commit s (fun t =>
      t.stored k = ((s.stored k &&& ~~~ k.pointMask .cmt) ||| (s.written k &&& k.pointMask .cmt)) ∧ t.written k = s.written k)) ∧
  (∀ (s : State) (k : RegKey) (w : Word), s.Up → s.waitingAt .cmt (fun _ => true) = [k] →
    w = ((s.stored k &&& ~~~ k.pointMask .cmt) ||| (s.written k &&& k.pointMask .cmt)) →
    (k = ⟨.swBoundRate, 0, 0⟩ → Gives .commit s (fun t =>
      t.stored k = (if fieldOf w 0 16 < 3072 ∨ 5715 < fieldOf w 0 16 then s.stored k else w) ∧
      t.written k &&& k.pointMask .cmt = t.stored k &&& k.pointMask .cmt)) ∧
    (k.name = .bpmCfg ∨ k.name = .bpmHeadroom → Gives .commit s (fun t =>
      (t.stored k = w ∨ t.stored k = s.stored k) ∧ t.written k &&& k.pointMask .cmt = t.stored k &&& k.pointMask .cmt)) ∧
    (k.name = .portCfg ∨ k.name = .portSchedCap → s.admBusy = false → Gives .commit s (fun t =>
      t.stored k = (if ((s.copyBits k (k.pointMask .cmt)).firstBroken k.i).isSome then s.stored k else w) ∧
      t.written k &&& k.pointMask .cmt = t.stored k &&& k.pointMask .cmt)) ∧
    (∀ g q, k = ⟨.laneGrpMode, g, 0⟩ → g < 12 → q < 2 → Gives .commit s (fun t =>
      t.written k &&& quadMask q = (if quadValid (fieldOf (s.written k) (8 * q) 3) (fieldOf (s.written k) (8 * q + 3) 2)
        then s.written k else s.stored k) &&& quadMask q ∧
      ((s.grp g).st = .inService → t.stored k &&& quadMask q = t.written k &&& quadMask q) ∧
      ((s.grp g).st ≠ .inService → t.stored k = s.stored k ∧ (t.grp g).next = some (t.written k)))) ∧
    (∀ x m, x = 1 ∨ x = 2 → (k, m) ∈ pllWords x → Gives .commit s (fun t =>
      t.stored k &&& (m &&& k.pointMask .cmt) = (if s.pllCfgBad x then s.stored k else w) &&& (m &&& k.pointMask .cmt) ∧
      t.written k &&& (m &&& k.pointMask .cmt) = t.stored k &&& (m &&& k.pointMask .cmt)))) ∧
  (∀ s : State, s.Up →
    Gives .commitAtSec s (fun t => t.regs = { s.regs with cmtAtSec := true } ∧ Touches [.regs] s t)) ∧
  (∀ s : State, s.Up →
    Gives .discard s (fun t =>
      t.regs.applied = s.regs.applied ∧ (∀ x, x ∈ t.regs.pend → x.points.contains .cmt = false) ∧ t.regs.cmtAtSec = false ∧
      (∀ k, t.written k = if s.regs.pend.any (fun x => decide (x.key = k) && x.points.contains .cmt)
        then (s.written k &&& ~~~ k.pointMask .cmt) ||| (s.stored k &&& k.pointMask .cmt) else s.written k) ∧
      (∀ p k, p ≠ .cmt → (k ∈ t.waitingAt p (fun _ => true) ↔ k ∈ s.waitingAt p (fun _ => true))) ∧
      Touches [.regs] s t)) ∧
  (∀ (s : State) (p : Nat) (rx tx : Bool), s.Up → p ≤ 96 →
    Gives (.frameBoundaryApply p rx tx) s (fun t =>
      (∀ k, k ∈ s.waitingAt .frm (s.frmWord p rx tx) → k.name ≠ .portExpress →
        t.stored k = ((s.stored k &&& ~~~ k.pointMask .frm) ||| (s.written k &&& k.pointMask .frm)) ∧
        k ∉ t.waitingAt .frm (fun _ => true)) ∧
      (∀ k, k ∉ s.waitingAt .frm (s.frmWord p rx tx) → t.stored k = s.stored k ∧ t.written k = s.written k) ∧
      Touches (evtParts ++ [Part.regs, .lanes, .sw, .tic, .cal, .rc .calAbortCnt]) s t)) ∧
  (∀ (s : State) (p : Nat) (rx : Bool) (k : RegKey), s.Up → p ≤ 96 → k = ⟨.portExpress, p, 0⟩ → k ∈ s.waitingAt .frm (fun _ => true) →
    Gives (.frameBoundaryApply p rx true) s (fun t =>
      (s.admBusy = false → k ∉ t.waitingAt .frm (fun _ => true) ∧ t.written k &&& k.pointMask .frm = t.stored k &&& k.pointMask .frm) ∧
      (s.admBusy = true → k ∈ t.waitingAt .frm (fun _ => true) ∧ t.stored k = s.stored k ∧ t.written k = s.written k)))

/-- R39, R41, R422: the scrubber lists a word in mismatch, raises SYS_CFG_PARITY and removes its pending write; an applied-copy error
over a good written copy reloads the applied copy, over a bad one the instance stops. -/
def Obligations.ConfigParity : Prop :=
  (∀ (s : State) (a : Nat) (k : RegKey), s.Up → regAt a = some k → k.storedMask ≠ 0 → s.regPresent k = true →
    s.regs.cfgErr.contains a = false →
    Gives (.cfgScrubPass [a]) s (fun t =>
      a ∈ t.regs.cfgErr ∧ (∀ x, x ∈ t.regs.pend → x.key ≠ k) ∧ t.evt = (s.raise Ev.sysCfgParity a).evt ∧
      Touches (.regs :: evtParts) s t)) ∧
  (∀ (s : State) (a : Nat) (k : RegKey), s.Up → regAt a = some k → k.storedMask ≠ 0 → s.regPresent k = true → k.name.acts = false →
    k.name.row.block ≠ .evt →
    Gives (.appliedCopyError a true) s (fun t =>
      t.stored k = ((s.stored k &&& ~~~ k.storedMask) ||| (s.written k &&& k.storedMask)) ∧ t.written k = s.written k ∧
      t.evt = (s.raise (Ev.appliedErr k.name.row.block true) a 1).evt ∧ Touches (.regs :: evtParts) s t)) ∧
  (∀ (s : State) (a n : Nat) (k : RegKey), s.Up → regAt a = some k → k.storedMask ≠ 0 → s.regPresent k = true →
    k.name.acts = false → k.unit = .lane n →
    Gives (.appliedCopyError a false) s (fun t =>
      t.regs.stopped.contains k = true ∧ (t.lane n).lock = false ∧ (t.lane n).train = .down ∧ (t.lane n).txSq = true ∧
      OtherLanes n s t ∧ Touches (.regs :: lossParts) s t))

/-- R55 to R57, R79 to R81: the registers of a ring may be written while it is DISABLED; EN = 1 runs it or, where R56 refuses, puts it
in ERROR; EN = 0 drains it, or ends an ERROR; RST clears its indexes. -/
def Obligations.RingControl : Prop :=
  (∀ (s : State) (n : Nat) (r : RingReg) (v : Word), s.Up → n < 64 → r ≠ .ctrl → s.Writable (r.key n) → (s.ring n).state = .disabled →
    s.pendOverflow (r.key n) (s.waitPoints (r.key n) allBits) = false →
    Gives (.ringCfgWrite n r v) s (Stored (r.key n) allBits
      ((s.written (r.key n) &&& ~~~ (r.key n).storedMask) ||| (v &&& (r.key n).storedMask)) s)) ∧
  (∀ (s : State) (n : Nat) (r : RingReg) (v : Word), s.Up → n < 64 → r ≠ .ctrl → s.Writable (r.key n) → (s.ring n).state ≠ .disabled →
    Gives (.ringCfgWrite n r v) s (fun t =>
      t.evt = (s.raise Ev.hifCfgBusy (r.key n).addr).evt ∧ Touches evtParts s t)) ∧
  (∀ (s : State) (n : Nat), s.Up → n < 64 → s.Writable ⟨.hifRingCtrl, n, 0⟩ → (s.ring n).state = .disabled →
    s.hif.busMaster = true → 6 ≤ s.ap Fld.hifRingSize_LOG2 n → s.ap Fld.hifRingSize_LOG2 n ≤ 15 → (s.ring n).dbStored = none →
    (cplRingNo n = true ∨ (s.ring (s.cplRing n)).state = .run) →
    Gives (.ringEnable n) s (fun t =>
      t.ring n = { s.ring n with state := .run, cplWait := false } ∧ t.ap Fld.hifRingCtrl_EN n = 1 ∧
      (∀ m, m ≠ n → t.ring m = s.ring m) ∧ OtherRegs ⟨.hifRingCtrl, n, 0⟩ s t ∧ Touches [.regs, .hif] s t)) ∧
  (∀ (s : State) (n c : Nat), s.Up → n < 64 → s.Writable ⟨.hifRingCtrl, n, 0⟩ → (s.ring n).state = .disabled →
    c = (if s.hif.busMaster = false then 6 else if s.ap Fld.hifRingSize_LOG2 n < 6 ∨ 15 < s.ap Fld.hifRingSize_LOG2 n then 4 else 5) →
    (c = 5 → cplRingNo n = false ∧ (s.ring (s.cplRing n)).state ≠ .run) →
    Gives (.ringEnable n) s (fun t =>
      (t.ring n).state = .error ∧ (t.ring n).errCause = c ∧ t.ap Fld.hifRingCtrl_EN n = 1 ∧
      t.evt = (s.raise Ev.hifRingErr n c).evt ∧ Touches (.regs :: evtParts) s t)) ∧
  (∀ (s : State) (n : Nat), s.Up → n < 64 → s.Writable ⟨.hifRingCtrl, n, 0⟩ → (s.ring n).state = .run → s.cplInUse n = false →
    Gives (.ringDisable n) s (fun t =>
      t.ring n = { s.ring n with state := .draining, aborting := 0 } ∧ t.ap Fld.hifRingCtrl_EN n = 0 ∧
      (∀ m, m ≠ n → t.ring m = s.ring m) ∧ OtherRegs ⟨.hifRingCtrl, n, 0⟩ s t ∧ Touches [.regs, .hif] s t)) ∧
  (∀ (s : State) (n : Nat), s.Up → n < 64 → s.Writable ⟨.hifRingCtrl, n, 0⟩ → (s.ring n).state = .run → s.cplInUse n = true →
    s.ap Fld.hifRingCtrl_EN n = 1 →
    Gives (.ringDisable n) s (fun t =>
      t.ap Fld.hifRingCtrl_EN n = 1 ∧ (t.ring n).state = .run ∧ t.evt = (s.raise Ev.hifCfgBusy (ringAddr .hifRingCtrl n)).evt ∧
      Touches (.regs :: evtParts) s t)) ∧
  (∀ (s : State) (n : Nat), s.Up → n < 64 → s.Writable ⟨.hifRingCtrl, n, 0⟩ → (s.ring n).state = .error → s.cplInUse n = false →
    Gives (.ringDisable n) s (fun t =>
      (t.ring n).state = .disabled ∧ t.ap Fld.hifRingCtrl_EN n = 0 ∧ OtherRegs ⟨.hifRingCtrl, n, 0⟩ s t ∧
      Touches (.regs :: copyParts) s t)) ∧
  (∀ (s : State) (n : Nat), s.Up → n < 64 → s.Writable ⟨.hifRingCtrl, n, 0⟩ → (s.ring n).state = .disabled →
    Gives (.ringReset n) s (fun t =>
      t.ring n = { s.ring n with pidx := 0, cidx := 0, phase := true, armed := false, errCause := 0, dbStored := none, slots := []
                                 sinceMsg := 0, timer := false, deficit := 0 } ∧
      (∀ m, m ≠ n → t.ring m = s.ring m) ∧ OtherRegs ⟨.hifRingCtrl, n, 0⟩ s t ∧ Touches [.regs, .hif] s t)) ∧
  (∀ (s : State) (n : Nat), s.Up → n < 64 → s.Writable ⟨.hifRingCtrl, n, 0⟩ → (s.ring n).state ≠ .disabled →
    Gives (.ringReset n) s (fun t =>
      t.evt = (s.raise Ev.hifCfgBusy (ringAddr .hifRingCtrl n)).evt ∧ Touches (.regs :: evtParts) s t)) ∧
  (∀ (s : State) (n : Nat), s.Up → 24 ≤ n → n < 48 → (s.ring n).state = .draining →
    Gives (.ringDrainLimit n) s (fun t =>
      (t.ring n).fetched = [] ∧ (t.ring n).state = .draining ∧
      (t.ring n).aborting = (s.ring n).aborting + (s.ring n).fetched.length ∧ Touches [.hif, .rc .hifRingAborted] s t)) ∧
  (∀ (s : State) (n : Nat), s.Up → 56 ≤ n → n < 64 → (s.ring n).state = .draining →
    Gives (.ringDrainLimit n) s (fun t =>
      (t.ring n).fetched = (s.ring n).fetched.filter (fun x => x.started) ∧ (t.ring n).state = .draining ∧
      (t.ring n).aborting = (s.ring n).aborting + ((s.ring n).fetched.filter (fun x => !x.started)).length ∧
      Touches [.hif, .rc .hifRingAborted] s t)) ∧
  (∀ (s : State) (n : Nat), s.Up → n < 24 → (s.ring n).state = .draining → (s.ring n).fetched.length ≤ 16 →
    Gives (.ringDrainLimit n) s (fun t =>
      (t.ring n).fetched = [] ∧ (t.ring n).state = .draining ∧ Touches copyParts s t)) ∧
  (∀ (s : State) (n : Nat), s.Up → n < 64 → (s.ring n).state = .draining → (s.ring n).fetched = [] →
    Gives (.ringDrainEnd n) s (fun t =>
      (t.ring n).state = .disabled ∧ (t.ring n).disStatus = (if (s.ring n).aborting = 0 then .ok else .drainedAbort) ∧
      t.count Fld.hifRingAborted_VAL n = s.counted Fld.hifRingAborted_VAL n (s.ring n).aborting ∧
      Touches (.rc .hifRingAborted :: evtParts) s t))

/-- R58, R59, R61, R62, R65, R67, R69, R71, R72, R74, R75, R76, R84: doorbells, descriptors taken, frames sent and delivered, messages.
-/
def Obligations.RingTraffic : Prop :=
  (∀ (s : State) (n : Nat) (v : Word), s.Up → n < 64 → cplRingNo n = false →
    ((s.ring n).state = .run ∨ (s.ring n).state = .draining) →
    (s.indexOk n (fieldOf v 0 16) = true → Gives (.doorbell n 0 0xF v) s (fun t =>
      t.ring n = { s.ring n with pidx := fieldOf v 0 16 } ∧ (∀ m, m ≠ n → t.ring m = s.ring m) ∧ Touches [.hif] s t)) ∧
    (s.indexOk n (fieldOf v 0 16) = false → Gives (.doorbell n 0 0xF v) s (fun t =>
      (t.ring n).state = .error ∧ (t.ring n).errCause = 1 ∧ (t.ring n).pidx = (s.ring n).pidx ∧ Touches (.regs :: evtParts) s t))) ∧
  (∀ (s : State) (n : Nat) (v : Word), s.Up → n < 64 → (s.ring n).state = .disabled →
    ∀ c, c = (if cplRingNo n then Instr.cplDoorbell n 0 0xF v else .doorbell n 0 0xF v) →
    Gives c s (fun t =>
      t.ring n = { s.ring n with dbStored := some (fieldOf v 0 16, bitAt v.toNat 31) } ∧ (∀ m, m ≠ n → t.ring m = s.ring m) ∧
      Touches [.hif] s t)) ∧
  (∀ (s : State) (n off : Nat) (be : BitVec 4) (v : Word), s.Up → n < 64 → (off ≠ 0 ∨ be ≠ 0xF ∨ (s.ring n).state = .error) →
    ∀ c, c = (if cplRingNo n then Instr.cplDoorbell n off be v else .doorbell n off be v) →
    Gives c s (fun t => t.count Fld.hifDbBad_VAL = s.counted Fld.hifDbBad_VAL ∧ Touches [.rc .hifDbBad] s t)) ∧
  (∀ (s : State) (n : Nat) (v : Word), s.Up → 48 ≤ n → n < 56 → ((s.ring n).state = .run ∨ (s.ring n).state = .draining) →
    s.indexOk n (fieldOf v 0 16) = true →
    Gives (.cplDoorbell n 0 0xF v) s (fun t =>
      (t.ring n).cidx = fieldOf v 0 16 ∧ (t.ring n).pidx = (s.ring n).pidx ∧ (t.ring n).state = (s.ring n).state ∧
      (t.ring n).slots = (s.ring n).slots.drop ((fieldOf v 0 16 + 65536 - (s.ring n).cidx) % 65536) ∧
      (t.ring n).armed = (if bitAt v.toNat 31 then decide ((s.ring n).pidx = fieldOf v 0 16) else (s.ring n).armed) ∧
      Touches [.hif] s t)) ∧
  (∀ (s : State) (n : Nat) (raw ext : List Byte), s.Up → 56 ≤ n → n < 64 → raw.length = 32 → (s.ring n).state = .run →
    (s.ring n).fetched.length < (s.ring n).count → (s.ring n).fetched.length < 16 → (s.ring (s.cplRing n)).state = .run →
    0 < s.freeSlots (s.cplRing n) → (s.ring n).fetched.all (fun x => opcodes.contains x.opcode) = true →
    (opcodes.contains (leAt raw 0 2) = true → Gives (.descTake n raw ext) s (fun t =>
      (t.ring n).fetched = (s.ring n).fetched ++ [{ raw := raw, ext := ext, slots := 1, cpl := s.cplRing n }] ∧
      (t.ring (s.cplRing n)).reserved = (s.ring (s.cplRing n)).reserved + 1 ∧ Touches [.hif] s t)) ∧
    (opcodes.contains (leAt raw 0 2) = false → (s.ring n).fetched = [] → Gives (.descTake n raw ext) s (fun t =>
      (t.ring n).fetched = [] ∧ (t.ring n).cidx = ((s.ring n).cidx + 1) % 65536 ∧
      (t.ring (s.cplRing n)).pidx = ((s.ring (s.cplRing n)).pidx + 1) % 65536 ∧ Touches [.hif, .rc .hifRingAborted] s t))) ∧
  (∀ (s : State) (n : Nat) (raw ext : List Byte), s.Up → 24 ≤ n → n < 48 → raw.length = 32 → (s.ring n).state = .run →
    (s.ring n).fetched.length < (s.ring n).count → (s.ring n).fetched.length < 16 → (s.ring (s.cplRing n)).state = .run →
    0 < s.freeSlots (s.cplRing n) → rxBad raw = false →
    Gives (.descTake n raw ext) s (fun t =>
      (t.ring n).fetched = (s.ring n).fetched ++ [{ raw := raw, ext := ext, slots := 1, cpl := s.cplRing n }] ∧
      (t.ring (s.cplRing n)).reserved = (s.ring (s.cplRing n)).reserved + 1 ∧ Touches [.hif] s t)) ∧
  (∀ (s : State) (n : Nat) (raw ext : List Byte), s.Up → n < 24 → raw.length = 32 → (s.ring n).state = .run →
    (s.ring n).fetched = [] → 0 < (s.ring n).count → (s.ring (s.cplRing n)).state = .run → 2 ≤ s.freeSlots (s.cplRing n) →
    s.txStopped = false → s.hif.txTurn = n → min 10240 (leAt raw 8 2) ≤ (s.ring n).deficit →
    Gives (.descTake n raw ext) s (fun t =>
      (t.ring n).fetched.map (fun x => x.raw) = [raw] ∧ (t.ring n).deficit = (s.ring n).deficit - min 10240 (leAt raw 8 2) ∧
      (bitAt (leAt raw 10 2) 1 = true → s.txStatus [{ raw := raw, ext := ext }] = .ok → t.fab.nextFrame = s.fab.nextFrame + 1) ∧
      (bitAt (leAt raw 10 2) 1 = false → Touches [.hif] s t) ∧ Touches [.hif, .fab, .rc .hifRingAborted, .rc .portDownDisc] s t)) ∧
  (∀ (s : State) (n : Nat) (g : List Fetched) (st : Status), s.Up → n < 24 → txGroup (s.ring n).fetched = some g → s.txResult g = some st →
    Gives (.txCompletion n g.length) s (fun t =>
      (t.ring n).fetched = (s.ring n).fetched.drop g.length ∧ (t.ring n).cidx = ((s.ring n).cidx + g.length) % 65536 ∧
      (st = .ok → Touches [.hif, .rc .hifRingAborted] s t) ∧ Touches copyParts s t)) ∧
  (∀ (s : State) (f c n : Nat) (fr : Frame) (x : Copy), s.Up → s.frame? f = some fr →
    s.hostCopy f = some c → s.copy? c = some x →
    s.hif.linkUp = true → n = s.rxRing x.reason (min 7 (if x.q = 8 then fr.tc else x.q)) (Config.rxHash fr.h.hashed).toNat →
    ((s.ring n).state = .run → x.len ≤ ((rxFill (s.ring n).fetched x.len).map (fun e => e.2)).sum → Gives (.rxHostDeliver f c) s (fun t =>
      t.copy? c = some { x with st := .sent, tsReq := none } ∧
      (t.ring n).fetched = (s.ring n).fetched.drop (rxFill (s.ring n).fetched x.len).length ∧
      Touches [.hif, .fab, .rc .hifRingAborted] s t)) ∧
    ((s.ring n).state ≠ .run → s.apB Fld.hifGlbCtrl_RX_FB_EN = false → Gives (.rxHostDeliver f c) s (fun t =>
      t.copy? c = none ∧ t.count Fld.hifRxDisc_VAL = s.counted Fld.hifRxDisc_VAL ∧ Touches (.rc .hifRxDisc :: copyParts) s t))) ∧
  (∀ (s : State) (n : Nat), s.Up → 48 ≤ n → n < 56 → (s.ring n).armed = true → (s.ring n).timer = true →
    Gives (.intTimerExpire n) s (fun t =>
      t.ring n = { s.ring n with armed := false, sinceMsg := 0, timer := false } ∧ (∀ m, m ≠ n → t.ring m = s.ring m) ∧
      (s.hif.unmasked.contains (s.ap Fld.hifRingCtrl_VEC n) = true →
        t.hif.msgs = s.hif.msgs + 1 ∧ t.hif.lastVec = some (s.ap Fld.hifRingCtrl_VEC n)) ∧
      (s.hif.unmasked.contains (s.ap Fld.hifRingCtrl_VEC n) = false →
        t.hif.msgs = s.hif.msgs ∧ t.hif.pba = insertAsc (s.ap Fld.hifRingCtrl_VEC n) s.hif.pba) ∧ Touches [.hif] s t)) ∧
  (∀ (s : State) (v : Nat), s.Up → v < 64 →
    Gives (.msixUnmask v) s (fun t =>
      v ∈ t.hif.unmasked ∧ t.hif.pba.contains v = false ∧
      t.hif.msgs = s.hif.msgs + (if s.hif.pba.contains v then 1 else 0) ∧ (∀ n, t.ring n = s.ring n) ∧ Touches [.hif] s t))

/-- R51, R73, R80, R82, R83: the PCIe link, errors of a ring, and the resets of the function. -/
def Obligations.HostFunction : Prop :=
  (∀ (s : State) (gen width mps : Nat) (h : PcieHost), s.Up → Instr.wf (.pcieLinkUp gen width mps h) = true →
    s.domOn 18 = true →
    Gives (.pcieLinkUp gen width mps h) s (fun t =>
      t.hif.linkUp = true ∧ t.hif.gen = gen ∧ t.hif.width = width ∧ t.hif.mps = mps ∧ t.hif.mrrs = h.mrrs ∧ t.hif.tag10 = h.tag10 ∧
      t.hif.busMaster = h.bme ∧ t.isReady Rdy.hif = true ∧ Touches (evtParts ++ [Part.ready]) s t)) ∧
  (∀ s : State, s.Up →
    Gives .pcieLinkDown s (fun t =>
      t.hif.linkUp = false ∧ t.isReady Rdy.hif = false ∧ t.hif.busMaster = s.hif.busMaster ∧ Touches (evtParts ++ [Part.ready]) s t)) ∧
  (∀ (s : State) (n : Nat) (w : Bool), s.Up → n < 64 → ((s.ring n).state = .run ∨ (s.ring n).state = .draining) →
    Gives (.dmaError n w) s (fun t =>
      (t.ring n).state = .error ∧ (t.ring n).errCause = (if w then 3 else 2) ∧ t.ap Fld.hifRingCtrl_EN n = 1 ∧
      OtherRegs ⟨.hifRingCtrl, n, 0⟩ s t ∧ Touches (.regs :: evtParts) s t)) ∧
  (∀ s : State, s.Up →
    Gives .busMasterClear s (fun t =>
      t.hif.busMaster = false ∧
      (∀ n, n < 64 → (t.ring n).state = (if (s.ring n).state = .disabled then .disabled else .error)) ∧
      Touches (.regs :: evtParts) s t)) ∧
  (∀ (s : State) (c : Instr), s.Up → (c = .functionLevelReset ∨ c = .d3hotEntry) →
    Gives c s (fun t =>
      (∀ n, t.ring n = {}) ∧ t.hif.vecs = [] ∧ t.hif.unmasked = [] ∧ t.hif.pba = [] ∧ t.hif.busMaster = false ∧
      t.hif.linkUp = s.hif.linkUp ∧
      (∀ k, isHif k = true → t.written k = t.dflt k ∧ t.stored k = t.dflt k) ∧
      (∀ k, isHif k = false → t.written k = s.written k ∧ t.stored k = s.stored k) ∧
      Touches [.regs, .evt, .hif, .sw, .fab, .bpm, .fdb, .free, .eng, .counters] s t))

/-- R84, R85, R92, R459: QUERY and LIST of every type complete at once with OK; QUERY returns the phase, the arguments and the status of
the object, LIST the handles in use from START_INDEX on, as many as the buffer holds; nothing but the completion changes. -/
def Obligations.ObjectQueryAndList : Prop :=
  (∀ (s : State) (y : ObjType) (d : CmdDesc), s.Up → d.wf = true →
    s.Accepts d (y.op 3) (s.targetChecks y d false false false
      ((decide (y = .flow) && d.hasExt && decide (d.extLen < 36)) || (!d.hasExt && !(d.zero 12 32))) false) →
    Gives (queryCmd y d) s (fun t =>
      (∃ r e, CompletedExt d (y.op 3) .ok 0 (leBytes (s.obj y (hIndex d.handle)).phase.code 1 ++ leBytes 0 3 ++ r) e t ∧
        (d.hasExt = false → e = []) ∧
        (d.hasExt = true → 20 ≤ d.extLen → e.take 20 = ((s.obj y (hIndex d.handle)).args ++ List.replicate 20 0).take 20)) ∧
      (y ≠ .cal → Touches cplParts s t) ∧ Touches (evtParts ++ cplParts ++ [Part.tic, .cal, .rc .calAbortCnt]) s t)) ∧
  (∀ (s : State) (y : ObjType) (d : CmdDesc), s.Up → d.wf = true →
    s.Accepts d (y.op 5) { absent := decide (y = .search) && !s.variant.gnss, badForm := d.badForm true || decide (d.handle ≠ 0), ready := y.ready } →
    Gives (listCmd y d) s (fun t =>
      ∃ l, l = ((s.inUse y).filter (fun i => decide (d.buf 0 4 ≤ i))).mergeSort ∧
      CompletedExt d (y.op 5) .ok 0
        (leBytes (l.take ((d.extLen - 8) / 4)).length 4 ++ leBytes ((l.drop ((d.extLen - 8) / 4)).head?.getD 0xFFFFFFFF) 4)
        (leBytes (l.take ((d.extLen - 8) / 4)).length 4 ++ leBytes ((l.drop ((d.extLen - 8) / 4)).head?.getD 0xFFFFFFFF) 4 ++
          wordBytes ((l.take ((d.extLen - 8) / 4)).map (fun i => (s.handleOf y i).toNat))) t ∧ Touches cplParts s t))

/-- R88, R91, R94, R95, for every type but the guaranteed flow: DESTROY of an object with nothing in flight completes at once, the index
is free and its generation one on; DISABLE of an ACTIVE one suspends it; with items in flight the object drains, or with NOW they are
aborted; the end of the drain and its limit complete the command; ENABLE of a SUSPENDED one makes it ACTIVE. -/
def Obligations.ObjectDrainAndEnable : Prop :=
  (∀ (s : State) (y : ObjType) (d : CmdDesc) (i n : Nat), s.Up → d.wf = true → y ≠ .flow → i = hIndex d.handle → n = s.objFlight y i →
    s.Accepts d (y.op 4) (s.targetChecks y d true false false (drainReserved d) false) → s.objVerBusy y i = false →
    (s.obj y i).waiting = [] → (y = .cal → s.calHolds (s.calTarget i) (s.calInst i) = true) →
    ((s.obj y i).phase = .suspended ∨ ((s.obj y i).phase = .active ∧ n = 0) → Gives (destroyCmd y d) s (fun t =>
      t.obj? y i = none ∧ t.gen y i = (s.gen y i + 1) % 256 ∧
      Completed d (y.op 4) .ok 0 (leBytes 0 4 ++ leBytes 0 4 ++ leBytes 0 4) t ∧ Touches objParts s t)) ∧
    ((s.obj y i).phase = .active → n ≠ 0 → d.drainNow = true ∨ s.objBusy y i = false → Gives (destroyCmd y d) s (fun t =>
      t.obj? y i = none ∧ t.gen y i = (s.gen y i + 1) % 256 ∧
      Completed d (y.op 4) .drainedAbort 0 (leBytes 0 4 ++ leBytes n 4 ++ leBytes 0 4) t ∧ Touches objParts s t)) ∧
    ((s.obj y i).phase = .active → n ≠ 0 → d.drainNow = false → s.objBusy y i = true → Gives (destroyCmd y d) s (fun t =>
      t.obj? y i = some { s.obj y i with
        phase := .draining
        drain := some { desc := d, destroy := true, limitUs := d.drainLimit (s.drainMax y i).1 (s.drainMax y i).2
                        start := s.clk.now, items := n } } ∧ Touches objParts s t))) ∧
  (∀ (s : State) (y : ObjType) (d : CmdDesc) (i n : Nat), s.Up → d.wf = true → y ≠ .flow → i = hIndex d.handle → n = s.objFlight y i →
    s.Accepts d (y.op 6) (s.targetChecks y d true false false (drainReserved d) false) → s.objVerBusy y i = false →
    (s.obj y i).phase = .active → (s.obj y i).waiting = [] → (y = .cal → s.calHolds (s.calTarget i) (s.calInst i) = true) →
    (n = 0 ∨ d.drainNow = true ∨ s.objBusy y i = false → Gives (disableCmd y d) s (fun t =>
      t.obj? y i = some { s.obj y i with phase := .suspended, drain := none, waiting := [] } ∧
      Completed d (y.op 6) (if n = 0 then .ok else .drainedAbort) 0 (leBytes 0 4 ++ leBytes n 4 ++ leBytes 0 4) t ∧
      Touches objParts s t)) ∧
    (n ≠ 0 → d.drainNow = false → s.objBusy y i = true → Gives (disableCmd y d) s (fun t =>
      t.obj? y i = some { s.obj y i with
        phase := .draining
        drain := some { desc := d, destroy := false, limitUs := d.drainLimit (s.drainMax y i).1 (s.drainMax y i).2
                        start := s.clk.now, items := n } } ∧ Touches objParts s t))) ∧
  (∀ (s : State) (y : ObjType) (d : CmdDesc), s.Up → d.wf = true → y ≠ .flow →
    s.Accepts d (y.op 7) (s.targetChecks y d true false false (!(d.zero 12 32)) false) →
    (s.obj y (hIndex d.handle)).phase = .suspended → s.objVerBusy y (hIndex d.handle) = false →
    Gives (enableCmd y d) s (fun t =>
      (t.obj y (hIndex d.handle)).phase = .active ∧ (t.obj y (hIndex d.handle)).args = (s.obj y (hIndex d.handle)).args ∧
      Completed d (y.op 7) .ok 0 [] t ∧ Touches objParts s t)) ∧
  (∀ (s : State) (h : Word) (y : ObjType) (x : Drain) (i n : Nat), s.Up → Instr.wf (.objDrainEnd h) = true → y ≠ .flow →
    hObjType h = some y → i = hIndex h → n = s.objFlight y i → s.stale y h = false → (s.obj y i).drain = some x →
    s.objBusy y i = false → (s.obj y i).waiting = [] →
    Gives (.objDrainEnd h) s (fun t =>
      (x.destroy = false → (t.obj y i).phase = .suspended ∧ (t.obj y i).drain = none) ∧
      (x.destroy = true → t.obj? y i = none ∧ t.gen y i = (s.gen y i + 1) % 256) ∧
      Completed x.desc (y.op (if x.destroy then 4 else 6)) (if n = 0 then .ok else .drainedAbort) 0
        (s.drainBytes { x with timedOut := false } n) t ∧ Touches objParts s t)) ∧
  (∀ (s : State) (h : Word) (y : ObjType) (x : Drain) (i n : Nat), s.Up → Instr.wf (.objDrainLimit h) = true → y ≠ .flow →
    hObjType h = some y → i = hIndex h → n = s.objFlight y i → s.stale y h = false → (s.obj y i).drain = some x →
    (s.obj y i).waiting = [] →
    Gives (.objDrainLimit h) s (fun t =>
      (x.destroy = false → (t.obj y i).phase = .suspended ∧ (t.obj y i).drain = none) ∧
      (x.destroy = true → t.obj? y i = none ∧ t.gen y i = (s.gen y i + 1) % 256) ∧
      Completed x.desc (y.op (if x.destroy then 4 else 6)) (if n = 0 then .ok else .drainedAbort) 0
        (s.drainBytes { x with timedOut := true } n) t ∧ Touches objParts s t))

/-- R86, R88, R90, R196, R220, R293, R316, R326: what CREATE of each type but the guaranteed flow leaves when a place is free: the
object under its index, with its arguments, and its handle in the completion. -/
def Obligations.ObjectCreate : Prop :=
  (∀ (s : State) (d : CmdDesc), s.Up → d.wf = true →
    s.Accepts d 0x0301 (createChecks .mchan d false (s.mchanAbsent d) (mchanReserved d) (mchanBad d)) → s.obj? .mchan (d.arg 12 1) = none →
    s.mchanNotReady d = false →
    Gives (.mchanCreate d) s (fun t =>
      t.obj? .mchan (d.arg 12 1) = some { args := d.objArgs } ∧
      Completed d 0x0301 .ok (s.handleOf .mchan (d.arg 12 1)) [] t ∧ Touches (cplParts ++ [Part.index, .objs]) s t)) ∧
  (∀ (s : State) (d : CmdDesc), s.Up → d.wf = true →
    s.Accepts d 0x0401 { createChecks .mirror d false (s.mirAbsent d) (mirReserved d) (s.mirBad d) with stale := s.mirStale d } →
    s.obj? .mirror (d.arg 13 1) = none → s.verBusy [.mir (d.arg 13 1)] = false →
    Gives (.mirrorCreate d) s (fun t =>
      t.obj? .mirror (d.arg 13 1) = some { args := d.objArgs } ∧
      t.fdb.version (.mir (d.arg 13 1)) = (s.fdb.version (.mir (d.arg 13 1)) + 1) % 65536 ∧
      Completed d 0x0401 .ok (s.handleOf .mirror (d.arg 13 1)) [] t ∧ Touches (evtParts ++ cplParts ++ [Part.index, .objs, .fdb]) s t)) ∧
  (∀ (s : State) (d : CmdDesc) (j : Nat), s.Up → d.wf = true →
    s.Accepts d 0x0501 (createChecks .search d false (!s.variant.gnss) (searchReserved d) (searchArgsOf d.objArgs).bad) →
    s.nextIndex .search = some j →
    Gives (.searchJobCreate d) s (fun t =>
      (t.obj? .search j).isSome = true ∧ (∃ r, Completed d 0x0501 .ok (s.handleOf .search j) r t) ∧
      Touches (cplParts ++ [Part.index, .objs, .gnss]) s t)) ∧
  (∀ (s : State) (d : CmdDesc) (i e role : Nat), s.Up → d.wf = true →
    s.Accepts d 0x0201 (createChecks .tchan d (tchanExt d) (s.tchanAbsent d) (tchanReserved d) (s.tchanBad d)) → s.tchanTwin d.asObj = false →
    role = (if s.taskHeld 4 then s.forcedRole d.asObj.chanPort d.asObj.chanRole else d.asObj.chanRole) →
    s.nextIndex .tchan = some i → s.portLoad d.asObj.chanPort none + d.asObj.chanLoad role ≤ 131072 →
    s.placeFor i (d.asObj.chanLoad role) = some e →
    Gives (.tchanCreate d) s (fun t =>
      t.obj? .tchan i = some d.asObj ∧ (t.tchan i).role = role ∧ (t.tchan i).engine = some e ∧
      Completed d 0x0201 .ok (s.handleOf .tchan i) (leBytes e 4) t ∧
      Touches (evtParts ++ cplParts ++ [Part.index, .objs, .tchans, .lnk, .tic, .cal, .rc .calAbortCnt]) s t)) ∧
  (∀ (s : State) (d : CmdDesc) (j : Nat), s.Up → d.wf = true →
    s.Accepts d 0x0601 (createChecks .cal d false (s.calAbsent d) (calReserved d) (s.calBad d)) → s.taskMoving 9 = false →
    s.nextIndex .cal = some j → s.calJobOn (d.arg 12 1) (d.arg 14 2) = false → s.taskHeld 9 = true →
    s.calPre (d.arg 12 1) (d.arg 14 2) = true →
    Gives (.calJobCreate d) s (fun t =>
      (t.obj? .cal j).isSome = true ∧ (∃ r, Completed d 0x0601 .ok (s.handleOf .cal j) r t) ∧
      Touches objParts s t))

/-- R86, R91, R197, R220, R293, R322, R326: MODIFY of an object that is not draining keeps the new arguments under the same handle. -/
def Obligations.ObjectModify : Prop :=
  (∀ (s : State) (d : CmdDesc), s.Up → d.wf = true → s.Accepts d 0x0302 (s.modifyChecks .mchan d) →
    (s.obj .mchan (hIndex d.handle)).phase ≠ .draining → s.mchanNotReady d = false →
    Gives (.mchanModify d) s (fun t =>
      t.obj .mchan (hIndex d.handle) = { s.obj .mchan (hIndex d.handle) with args := d.objArgs } ∧
      Completed d 0x0302 .ok 0 [] t ∧ Touches (cplParts ++ [Part.objs]) s t)) ∧
  (∀ (s : State) (d : CmdDesc), s.Up → d.wf = true → s.Accepts d 0x0402 (s.modifyChecks .mirror d) →
    (s.obj .mirror (hIndex d.handle)).phase ≠ .draining → s.verBusy [.mir (hIndex d.handle)] = false →
    Gives (.mirrorModify d) s (fun t =>
      t.obj .mirror (hIndex d.handle) = { s.obj .mirror (hIndex d.handle) with args := d.objArgs } ∧
      t.fdb.version (.mir (hIndex d.handle)) = (s.fdb.version (.mir (hIndex d.handle)) + 1) % 65536 ∧
      Completed d 0x0402 .ok 0 [] t ∧ Touches (evtParts ++ cplParts ++ [Part.objs, .fdb]) s t)) ∧
  (∀ (s : State) (d : CmdDesc), s.Up → d.wf = true → s.Accepts d 0x0502 (s.modifyChecks .search d) →
    (s.obj .search (hIndex d.handle)).phase ≠ .draining →
    Gives (.searchJobModify d) s (fun t =>
      t.obj .search (hIndex d.handle) = { s.obj .search (hIndex d.handle) with args := d.objArgs } ∧
      (∃ r, Completed d 0x0502 .ok 0 r t) ∧ Touches (cplParts ++ [Part.objs, .gnss]) s t)) ∧
  (∀ (s : State) (d : CmdDesc) (role : Nat), s.Up → d.wf = true → s.Accepts d 0x0202 (s.modifyChecks .tchan d) →
    (s.obj .tchan (hIndex d.handle)).phase ≠ .draining →
    role = (if s.taskHeld 4 then s.forcedRole d.asObj.chanPort d.asObj.chanRole else d.asObj.chanRole) →
    s.portLoad (s.obj .tchan (hIndex d.handle)).chanPort (some (hIndex d.handle)) + d.asObj.chanLoad role ≤ 131072 →
    Gives (.tchanModify d) s (fun t =>
      t.obj .tchan (hIndex d.handle) = { s.obj .tchan (hIndex d.handle) with args := d.asObj.args, extra := d.asObj.extra } ∧
      (t.tchan (hIndex d.handle)).role = role ∧ (∃ r, Completed d 0x0202 .ok 0 r t) ∧ Touches objParts s t)) ∧
  (∀ (s : State) (d : CmdDesc), s.Up → d.wf = true → s.Accepts d 0x0602 (s.modifyChecks .cal d) →
    (s.obj .cal (hIndex d.handle)).phase ≠ .draining →
    Gives (.calJobModify d) s (fun t =>
      t.obj .cal (hIndex d.handle) = { s.obj .cal (hIndex d.handle) with args := d.objArgs } ∧ t.free = s.free + 1 ∧
      (∃ r, Completed d 0x0602 .ok 0 r t) ∧ Touches (cplParts ++ [Part.objs, .free]) s t))

/-- R16, R94, R95, R135, R137, R138, R158: guaranteed flows: what CREATE, MODIFY, DESTROY, DISABLE and ENABLE leave, and what the
confirmation of a waiting command does. -/
def Obligations.GuaranteedFlows : Prop :=
  (∀ (s : State) (d : CmdDesc) (i b : Nat), s.Up → d.wf = true → s.AdmFree d 0x0101 →
    s.Accepts d 0x0101 (createChecks .flow d false (s.flowAbsent d) (flowReserved d) (s.flowBad d none)) → s.nextIndex .flow = some i →
    s.flowNotReady d = false → s.classRefuses (flowArgsOf d.objArgs) none = false →
    (s.admission (flowArgsOf d.objArgs) none).fault = 0 → (s.admission (flowArgsOf d.objArgs) none).b = some b →
    b ≤ s.resMaxMs * 1000000 → (s.admission (flowArgsOf d.objArgs) none).f ≤ s.fAdm → s.syncedPrimary = false →
    Gives (.flowCreate d) s (fun t =>
      t.obj? .flow i = some { args := d.objArgs, extra := [] } ∧ (t.flow i).bound = b ∧
      (t.flow i).tokens = bucketFull (flowArgsOf d.objArgs).maxFrame ∧
      Tab.find t.fdb.bound (flowArgsOf d.objArgs).entry = some i ∧
      Completed d 0x0101 .ok (s.handleOf .flow i) (boundBytes (some b)) t ∧
      Touches (cplParts ++ [Part.index, .objs, .sw, .fab, .bpm, .fdb]) s t)) ∧
  (∀ (s : State) (d : CmdDesc) (b : Nat), s.Up → d.wf = true → s.AdmFree d 0x0102 →
    s.Accepts d 0x0102 (s.targetChecks .flow d true false (s.flowAbsent d) (flowReserved d)
      (s.flowBad d (some (hIndex d.handle)) || decide ((flowArgsOf d.objArgs).inp ≠ (s.flowArgs (hIndex d.handle)).inp) ||
        decide ((flowArgsOf d.objArgs).out ≠ (s.flowArgs (hIndex d.handle)).out) ||
        decide ((flowArgsOf d.objArgs).entry ≠ (s.flowArgs (hIndex d.handle)).entry))) →
    (s.obj .flow (hIndex d.handle)).phase ≠ .draining → s.flowNotReady d = false →
    s.classRefuses (flowArgsOf d.objArgs) (some (hIndex d.handle)) = false →
    (s.admission (flowArgsOf d.objArgs) (some (hIndex d.handle))).fault = 0 →
    (s.admission (flowArgsOf d.objArgs) (some (hIndex d.handle))).b = some b → b ≤ s.resMaxMs * 1000000 →
    (s.admission (flowArgsOf d.objArgs) (some (hIndex d.handle))).f ≤ s.fAdm (some (hIndex d.handle)) → s.syncedPrimary = false →
    Gives (.flowModify d) s (fun t =>
      t.obj .flow (hIndex d.handle) = { s.obj .flow (hIndex d.handle) with args := d.objArgs } ∧
      (t.flow (hIndex d.handle)).bound = b ∧
      (t.flow (hIndex d.handle)).newPolicer = some ((flowArgsOf d.objArgs).maxFrame, (flowArgsOf d.objArgs).kbps) ∧
      Completed d 0x0102 .ok 0 (boundBytes (some b)) t ∧ Touches (cplParts ++ [Part.objs, .sw, .fab, .bpm]) s t)) ∧
  (∀ (s : State) (d : CmdDesc) (i n : Nat), s.Up → d.wf = true → s.sw.wait = none → s.sw.admQ = [] → i = hIndex d.handle →
    n = (s.flowCopies i).length → s.standbyHost d = false → (s.obj .flow i).phase = .active → (s.obj .flow i).waiting = [] →
    (s.Accepts d 0x0104 (s.targetChecks .flow d true false false (drainReserved d) false) →
      (n = 0 → Gives (.flowDestroy d) s (fun t =>
        t.obj? .flow i = none ∧ t.gen .flow i = (s.gen .flow i + 1) % 256 ∧
        Completed d 0x0104 .ok 0 (leBytes 0 4 ++ leBytes 0 4 ++ leBytes 0 4) t ∧
        Touches (evtParts ++ cplParts ++ [Part.index, .objs, .sw, .fab, .bpm, .fdb, .pair, .rc .pairMirOvf]) s t)) ∧
      (n ≠ 0 → d.drainNow = false → Gives (.flowDestroy d) s (fun t =>
        (t.obj .flow i).phase = .draining ∧ (t.obj .flow i).drain = some {
          desc := d, destroy := true, limitUs := d.drainLimit ((s.flow i).bound / 1000) 500000, start := s.clk.now, items := n } ∧
        Touches (cplParts ++ [Part.objs]) s t))) ∧
    (s.Accepts d 0x0106 (s.targetChecks .flow d true false false (drainReserved d) false) →
      (n = 0 → Gives (.flowDisable d) s (fun t =>
        (t.obj .flow i).phase = .suspended ∧ (t.obj .flow i).drain = none ∧
        Completed d 0x0106 .ok 0 (leBytes 0 4 ++ leBytes 0 4 ++ leBytes 0 4) t ∧
        Touches (evtParts ++ cplParts ++ [Part.objs, .pair, .rc .pairMirOvf]) s t)) ∧
      (n ≠ 0 → d.drainNow = true → Gives (.flowDisable d) s (fun t =>
        (t.obj .flow i).phase = .suspended ∧ (t.obj .flow i).drain = none ∧
        Completed d 0x0106 .drainedAbort 0 (leBytes 0 4 ++ leBytes n 4 ++ leBytes 0 4) t ∧
        Touches (copyParts ++ cplParts ++ [Part.objs, .pair, .rc .pairMirOvf]) s t)))) ∧
  (∀ (s : State) (d : CmdDesc), s.Up → d.wf = true → s.sw.wait = none → s.sw.admQ = [] →
    s.Accepts d 0x0107 (s.targetChecks .flow d true false false (!(d.zero 12 32)) false) → s.standbyHost d = false →
    (s.obj .flow (hIndex d.handle)).phase = .suspended →
    Gives (.flowEnable d) s (fun t =>
      (t.obj .flow (hIndex d.handle)).phase = .active ∧
      (t.flow (hIndex d.handle)).tokens = bucketFull (s.flow (hIndex d.handle)).maxFrame ∧
      (t.flow (hIndex d.handle)).rejoin = true ∧ Completed d 0x0107 .ok 0 [] t ∧
      Touches (evtParts ++ cplParts ++ [Part.objs, .sw, .pair, .rc .pairMirOvf]) s t)) ∧
  (∀ (s : State) (i : Nat) (w : FlowWait), s.Up → i < 16384 → s.sw.wait = some w → w.index = i → w.stage = 0 → w.mirror = false →
    w.modify = false → s.sw.admQ = [] →
    (s.waitMet w = true → s.syncedPrimary = false → Gives (.flowBoundConfirm i) s (fun t =>
      t.sw.wait = none ∧ t.obj? .flow i = some { args := w.desc.objArgs, extra := [] } ∧ (t.flow i).bound = w.bound ∧
      Completed w.desc 0x0101 .ok (s.handleOf .flow i) (boundBytes (some w.bound)) t ∧
      Touches (cplParts ++ [Part.index, .objs, .sw, .fab, .bpm, .fdb]) s t)) ∧
    (s.waitMet w = false → s.sw.vset = 880 → s.vddSettled = true → Gives (.flowBoundConfirm i) s (fun t =>
      t.sw.wait = none ∧ (∃ b, Completed w.desc 0x0101 .boundRefused 0 (boundBytes b) t) ∧ Touches (cplParts ++ [Part.sw]) s t)))

/-- R100, R104, R114, R115: what a lane that works holds after it gains LOCK, loses it, or its phase output becomes valid; and R117: a
port whose lanes are all locked and squelched by nothing joins. -/
def Obligations.LaneLock : Prop :=
  (∀ (s : State) (n w h : Nat), s.Up → n < 96 → s.laneOn n = true → (s.lane n).sig = true → (s.lane n).lock = false →
    (s.lane n).train ≠ .down →
    Gives (.blockLock n w h) s (fun t =>
      t.lane n = { s.lane n with
        lock := true, cdr := true, fecLock := decide (s.quadFec (n / 4) ≠ 0), train := .running, txSq := false, qValid := true
        offered := s.apB Fld.laneCtrl_REF_EN n && decide ((s.grp (n / 8)).st ≠ .draining)
        eyeW := w % 256, eyeH := h % 1024, qPeak := (s.lane n).cur, qSeq := ((s.lane n).qSeq + 1) % 256 } ∧
      OtherLanes n s t ∧
      Touches (evtParts ++ [Part.ready, .regs, .lanes, .grps, .fab, .tchans, .tic, .cal, .rc .calAbortCnt, .rc .laneExitCnt,
        .rc .portHoldResume]) s t)) ∧
  (∀ (s : State) (n : Nat), s.Up → n < 96 → (s.lane n).lock = true →
    Gives (.lockLoss n) s (fun t =>
      t.lane n = { s.lane n with
        lock := false, fecLock := false, hiBer := false, hiBerAt := none, phase := false, offered := false } ∧
      OtherLanes n s t ∧ Touches lossParts s t)) ∧
  (∀ (s : State) (n : Nat), s.Up → n < 96 → (s.lane n).lock = true →
    Gives (.lanePhaseValid n) s (fun t =>
      t.lane n = { s.lane n with phase := true } ∧ OtherLanes n s t ∧
      Touches (evtParts ++ [Part.lanes, .lnk, .tic, .cal, .free, .rc .calAbortCnt]) s t)) ∧
  (∀ (s : State) (p : Nat), s.Up → p < 96 → s.portInactive p = false → (s.portLanes p).all (fun n => s.laneOn n) = true →
    s.portLocked p = true → (s.portLanes p).any (fun n => (s.lane n).txSq) = false → (s.grp (p / 8)).st ≠ .draining →
    Gives (.portJoin p) s (fun t =>
      (t.port p).up = true ∧
      Touches (evtParts ++ [Part.ready, .regs, .grps, .fab, .cal, .rc .portHoldResume]) s t))

/-- R110, R111, R112: electrical idle, the fast exit and its failure. -/
def Obligations.LaneIdle : Prop :=
  (∀ (s : State) (n : Nat) (temp : Int), s.Up → n < 96 → s.laneOn n = true → (s.lane n).sig = true →
    Gives (.elecIdleEntry n temp) s (fun t =>
      (t.lane n).sig = false ∧ (t.lane n).lock = false ∧ (t.lane n).cdr = false ∧ (t.lane n).base = (s.lane n).base ∧
      (t.lane n).idleAt = s.clk.now ∧ (t.lane n).idleTemp = temp ∧ (t.lane n).idleMode = s.quadMode (n / 4) ∧
      OtherLanes n s t ∧ Touches (retrainParts ++ [Part.tic, .rc .calAbortCnt, .rc .laneAdptStat]) s t)) ∧
  (∀ (s : State) (n ms : Nat) (temp : Int), s.Up → n < 96 → s.laneOn n = true → (s.lane n).sig = false →
    (s.lane n).train ≠ .full → s.fastExitOk n ms temp = true →
    Gives (.elecIdleExit n ms temp) s (fun t =>
      t.lane n = { s.lane n with sig := true, train := .fast, cdr := true } ∧ OtherLanes n s t ∧ Touches [.lanes] s t)) ∧
  (∀ (s : State) (n ms : Nat) (temp : Int), s.Up → n < 96 → s.laneOn n = true → (s.lane n).sig = false →
    s.fastExitOk n ms temp = false →
    Gives (.elecIdleExit n ms temp) s (fun t =>
      (t.lane n).sig = true ∧ (t.lane n).train = .full ∧ OtherLanes n s t ∧ Touches retrainParts s t)) ∧
  (∀ (s : State) (n : Nat), s.Up → n < 96 → s.laneOn n = true → (s.lane n).train = .fast →
    Gives (.fastExitFail n) s (fun t =>
      (t.lane n).train = .full ∧ (t.lane n).cdr = false ∧ (t.lane n).qValid = false ∧
      t.count Fld.laneExitCnt_FAILS n = s.counted Fld.laneExitCnt_FAILS n ∧
      OtherLanes n s t ∧ Touches (retrainParts ++ [Part.rc .laneExitCnt]) s t))

/-- R104, R117, R118, R344: full retrains and what starts them, a lane without signal, and the end of a group's drain. -/
def Obligations.LaneRetrain : Prop :=
  (∀ (s : State) (n code w h : Nat) (temp : Int), s.Up → n < 96 → code < 32 → s.laneOn n = true → (s.lane n).train = .full →
    Gives (.retrainDone n code w h temp) s (fun t =>
      t.lane n = { s.lane n with
        sig := true, cdr := true, base := code, cur := code, limitRaised := false, temp := temp
        trainW := w, trainH := h, trainSec := secOf s.tod % 2 ^ 32, retrains := (s.lane n).retrains + 1 } ∧
      t.count Fld.laneExitCnt_RETRAINS n = s.counted Fld.laneExitCnt_RETRAINS n ∧
      OtherLanes n s t ∧ Touches [.lanes, .rc .laneExitCnt] s t)) ∧
  (∀ (s : State) (n : Nat), s.Up → n < 96 → s.laneOn n = true → (s.lane n).sig = true → (s.lane n).lock = false →
    (s.lane n).train = .running →
    Gives (.lockLossRetrain n) s (fun t =>
      (t.lane n).train = .full ∧ (t.lane n).cdr = false ∧ (t.lane n).cur = (s.lane n).cur ∧
      OtherLanes n s t ∧ Touches retrainParts s t)) ∧
  (∀ (s : State) (n : Nat), s.Up → n < 96 → s.laneOn n = true → (s.lane n).sig = true → (s.lane n).hiBer = true →
    bitAt (s.polEntry 4 n) 0 = true → s.taskHeld 8 = true →
    Gives (.hiberRetrain n) s (fun t =>
      (t.lane n).train = .full ∧ (t.lane n).lock = false ∧ OtherLanes n s t ∧ Touches retrainParts s t)) ∧
  (∀ (s : State) (n : Nat), s.Up → n < 96 → s.laneOn n = true → (s.lane n).sig = true →
    bitsOf (s.polEntry 4 n) 16 16 ≠ 0 → bitAt (s.polEntry 4 n) 1 = false → s.taskHeld 8 = true →
    Gives (.scheduledRetrain n) s (fun t =>
      (t.lane n).train = .full ∧ (t.lane n).lock = false ∧ OtherLanes n s t ∧ Touches retrainParts s t)) ∧
  (∀ (s : State) (n : Nat), s.Up → n < 96 → s.laneOn n = true → (s.lane n).txSq = true → (s.lane n).sig = false →
    Gives (.laneNoSignalTimeout n) s (fun t =>
      t.lane n = { s.lane n with txSq := false, noSignal := true } ∧ OtherLanes n s t ∧
      Touches (evtParts ++ [Part.ready, .regs, .lanes, .grps, .cal]) s t)) ∧
  (∀ (s : State) (g : Nat), s.Up → g < 12 → (s.grp g).st = .draining →
    Gives (.laneGrpDrainEnd g) s (fun t =>
      (t.grp g).st = .removed ∧ (∀ k, k ≠ g → t.grp k = s.grp k) ∧
      Touches (lossParts ++ [Part.regs, .grps, .tic, .cal, .counters]) s t))

/-- R105 to R109: adaptation, forced codes and published quality, inside BASE ± 3. -/
def Obligations.LaneAdapt : Prop :=
  (∀ (s : State) (n density diversity : Nat) (lag : Int) (b he fc fu : Nat) (hb : Bool), s.Up →
    Instr.wf (.adaptWindow n density diversity lag b he fc fu hb) = true → s.laneOn n = true → (s.lane n).lock = true →
    Gives (.adaptWindow n density diversity lag b he fc fu hb) s (fun t =>
      (t.lane n).density = density ∧ (t.lane n).hiBer = hb ∧ (t.lane n).blocks = (s.lane n).blocks + b ∧
      (t.lane n).cur = (s.lane n).cur ∧ (t.lane n).base = (s.lane n).base ∧
      (s.freezeCause n density diversity ≠ 0 → (t.lane n).frozen ≠ 0 ∧ (t.lane n).proposed = none) ∧
      OtherLanes n s t ∧
      Touches (evtParts ++ [Part.lanes, .tic, .cal, .rc .calAbortCnt, .rc .laneAdptStat, .rc .laneFecCorr, .rc .laneFecUncorr,
        .rc .laneHdrErr]) s t)) ∧
  (∀ (s : State) (n w h : Nat), s.Up → n < 96 → s.laneOn n = true → s.laneAdapts n = true →
    2 ≤ ((w : Int) - (s.lane n).eyeW).natAbs →
    Gives (.qualMeasure n w h) s (fun t =>
      t.lane n = { s.lane n with eyeW := w % 256, eyeH := h % 1024, qPeak := (s.lane n).cur, qSeq := ((s.lane n).qSeq + 1) % 256 } ∧
      OtherLanes n s t ∧ Touches (evtParts ++ [Part.lanes]) s t)) ∧
  (∀ (s : State) (n : Nat), s.Up → n < 96 → s.laneOn n = true → s.apB Fld.lanePeak_FORCE_EN n = false → (s.lane n).frozen = 0 →
    3 < (((s.lane n).cur : Int) - (s.lane n).base).natAbs →
    Gives (.forceStepBack n) s (fun t =>
      t.lane n = { s.lane n with proposed := some (decide ((s.lane n).cur < (s.lane n).base)), stepBack := true } ∧
      OtherLanes n s t ∧ Touches [.lanes] s t)) ∧
  (∀ (s : State) (n : Nat), s.Up → n < 96 → s.laneOn n = true → (s.lane n).train ≠ .full →
    (s.laneIdl n).apB Fld.lanePeak_FORCE_EN n = true →
    Gives (.idleApply n) s (fun t =>
      (t.lane n).cur = (s.laneIdl n).ap Fld.lanePeak_FORCE n ∧ (t.lane n).proposed = none ∧ (t.lane n).base = (s.lane n).base ∧
      OtherLanes n s t ∧
      Touches (evtParts ++ [Part.regs, .lanes, .free, .cal, .lnk, .tchans, .rc .laneAdptStat]) s t)) ∧
  (∀ (s : State) (n : Nat) (up : Bool), s.Up → n < 96 → s.laneOn n = true → (s.lane n).train ≠ .full →
    (s.laneIdl n).apB Fld.lanePeak_FORCE_EN n = false → (s.lane n).proposed = some up → (s.lane n).stepBack = false →
    (s.lane n).outOfRange up = false → (s.lane n).movedAt.any (fun x => decide (s.clk.now < x + 10 ^ 11)) = false →
    Gives (.idleApply n) s (fun t =>
      (t.lane n).cur = ((s.lane n).stepped up).toNat ∧ (t.lane n).movedAt = some s.clk.now ∧ OtherLanes n s t ∧
      Touches (evtParts ++ [Part.regs, .lanes, .free, .cal, .lnk, .tchans, .rc .laneAdptStat]) s t))

/-- R36, R104, R116 to R119: what a write starts in LANE_CTRL and LANE_GRP_CTRL: a full retrain, a change of polarity, and a group's
removal and return. -/
def Obligations.LaneAndGroupControl : Prop :=
  (∀ (s : State) (n : Nat), s.Up → n < 96 → s.Writable ⟨.laneCtrl, n, 0⟩ → s.laneOn n = true → (s.lane n).sig = true →
    s.pendOverflow ⟨.laneCtrl, n, 0⟩ (s.waitPoints ⟨.laneCtrl, n, 0⟩ 1) = false →
    Gives (.laneRetrain n) s (fun t =>
      (t.lane n).train = .full ∧ (t.lane n).lock = false ∧ (t.lane n).cdr = false ∧ (t.lane n).qValid = false ∧ OtherLanes n s t ∧
      Touches retrainParts s t)) ∧
  (∀ (s : State) (n : Nat) (inv : Bool), s.Up → n < 96 → s.Writable ⟨.laneCtrl, n, 0⟩ → s.apB Fld.laneCtrl_RX_INV n ≠ inv →
    s.pendOverflow ⟨.laneCtrl, n, 0⟩ (s.waitPoints ⟨.laneCtrl, n, 0⟩ 8) = false →
    Gives (.rxPolarityChange n inv) s (fun t =>
      t.apB Fld.laneCtrl_RX_INV n = inv ∧ (t.lane n).lock = false ∧ (t.lane n).cdr = (s.lane n).cdr ∧ (t.lane n).cur = (s.lane n).cur ∧
      (t.lane n).train = (s.lane n).train ∧ OtherLanes n s t ∧ Touches retrainParts s t)) ∧
  (∀ (s : State) (p : Path) (g ms : Nat) (off : Bool), s.Up → p.wf = true → g < 12 → g < s.variant.groups →
    s.Writable ⟨.laneGrpCtrl, g, 0⟩ →
    (s.unlocked p = false → Gives (.laneGrpRemove p g ms off) s (fun t =>
      t.evt = (s.raise Ev.sysKeyReject (RegKey.addr ⟨.laneGrpCtrl, g, 0⟩)).evt ∧ Touches evtParts s t)) ∧
    (s.unlocked p = true → (s.grp g).st = .inService → Gives (.laneGrpRemove p g ms off) s (fun t =>
      t.grp g = { s.grp g with pwrOff := off, st := .draining } ∧ (∀ k, k ≠ g → t.grp k = s.grp k) ∧
      t.ready = putField s.ready (Rdy.grp g) 1 0 ∧ t.ap Fld.laneGrpCtrl_DRAIN_MS g = ms % 256 ∧ t.unlocked p = false ∧
      Touches (retrainParts ++ [Part.keys, .ready, .grps, .tic, .rc .calAbortCnt]) s t)) ∧
    (s.unlocked p = true → (s.grp g).st = .draining ∨ (s.grp g).st = .removed → Gives (.laneGrpRemove p g ms off) s (fun t =>
      t.evt = (s.raise Ev.laneGrpBusy).evt ∧ t.unlocked p = false ∧ Touches (.keys :: evtParts) s t)) ∧
    (s.unlocked p = true → (s.grp g).st = .removed → Gives (.laneGrpReturn p g) s (fun t =>
      ((t.grp g).st = .training ∨ (t.grp g).st = .inService) ∧ (t.grp g).next = none ∧ (∀ k, k ≠ g → t.grp k = s.grp k) ∧
      t.unlocked p = false ∧ Touches (retrainParts ++ [Part.keys, .ready, .grps]) s t)) ∧
    (s.unlocked p = true → (s.grp g).st ≠ .removed → Gives (.laneGrpReturn p g) s (fun t =>
      t.evt = (s.raise Ev.laneGrpBusy).evt ∧ t.unlocked p = false ∧ Touches (.keys :: evtParts) s t)))

/-- R17, R121, R122, R124, R126, R127, R141: canary windows, the set point of VDD_CORE, and the causes of SW_COND. -/
def Obligations.VoltageAndCanary : Prop :=
  (∀ (s : State) (rates : List Nat) (load : Nat), s.Up → Instr.wf (.canaryWindow rates load) = true →
    Gives (.canaryWindow rates load) s (fun t =>
      t.sw.fLoad = load ∧ t.sw.rings.length = 24 ∧
      (∀ k, k < 24 → (t.sw.rings.getD k {}).rate = rates.getD k 0 * 15 / 16) ∧
      (∀ k, k < 24 → rates.getD k 0 = 0 → (t.sw.rings.getD k {}).valid = ((s.sw.rings.getD k {}).valid && (s.sw.rings.getD k {}).excluded)) ∧
      t.sw.canaryLow = decide ((t.sw.rings.filter (fun c => c.valid)).length < 20) ∧
      (t.sw.canaryLow = false → t.isReady Rdy.fabric = true ∧ t.isReady Rdy.bpm = true ∧ t.isReady Rdy.fdb = true) ∧
      Touches (evtParts ++ [Part.ready, .sw]) s t)) ∧
  (∀ s : State, s.Up → s.vsActs = true → s.sw.avsFail = false → s.fReq * (104 + s.margin) < s.sw.assured * 100 → s.vmin < s.sw.vset →
    Gives .vddLowerTick s (fun t =>
      t.sw = { s.sw with vset := max s.vmin (s.sw.vset - max 1 (s.ap Fld.swVsCtrl_STEP_MV)), writing := true, retrying := false, attempts := 1 } ∧
      Touches [.sw] s t)) ∧
  (∀ s : State, s.Up → s.taskHeld 1 = false → s.sw.vset ≠ 880 →
    Gives .vscaleUnheldTimeout s (fun t =>
      t.sw = { s.sw with hwMax := true, vset := 880, writing := true, retrying := false, attempts := 1 } ∧ Touches [.sw] s t)) ∧
  (∀ (s : State) (mv : Nat), s.Up → Instr.wf (.avsWriteDone true mv) = true → s.sw.writing = true → mv ≤ s.sw.vset + 10 →
    s.sw.vset ≤ mv + 10 →
    Gives (.avsWriteDone true mv) s (fun t =>
      t.sw.writing = false ∧ t.sw.attempts = 0 ∧ t.sw.avsFail = false ∧ t.sw.vset = s.sw.vset ∧ Touches (.sw :: evtParts) s t)) ∧
  (∀ (s : State) (mv : Nat), s.Up → Instr.wf (.avsWriteDone false mv) = true → s.sw.writing = true → s.sw.attempts < 4 →
    Gives (.avsWriteDone false mv) s (fun t =>
      t.sw = { s.sw with writing := false, retrying := true } ∧ Touches [.sw] s t)) ∧
  (∀ (s : State) (mv : Nat), s.Up → Instr.wf (.avsWriteDone true mv) = true → s.sw.writing = true → s.sw.attempts < 4 →
    mv + 20 < s.sw.vset →
    Gives (.avsWriteDone true mv) s (fun t =>
      t.sw.writing = false ∧ t.sw.retrying = true ∧ t.sw.vset = s.sw.vset ∧
      (bitAt s.sw.cond 1 = false → t.sw.cond = s.sw.cond + 2) ∧ (bitAt s.sw.cond 1 = true → t.sw.cond = s.sw.cond) ∧
      Touches (.sw :: evtParts) s t)) ∧
  (∀ (s : State) (mv : Nat), s.Up → Instr.wf (.avsWriteDone false mv) = true → s.sw.writing = true → 4 ≤ s.sw.attempts →
    s.sw.wait = none →
    Gives (.avsWriteDone false mv) s (fun t =>
      t.sw.avsFail = true ∧ t.sw.writing = false ∧ t.sw.retrying = false ∧ t.sw.vset = s.sw.vset ∧
      Touches (.sw :: evtParts) s t)) ∧
  (∀ s : State, s.Up → s.sw.retrying = true →
    Gives .avsRetry s (fun t =>
      t.sw = { s.sw with retrying := false, writing := true, attempts := s.sw.attempts + 1 } ∧ Touches [.sw] s t)) ∧
  (∀ (s : State) (mv ma : Nat), s.Up → Instr.wf (.avsStatusRead mv ma) = true →
    (Gives (.avsStatusRead mv ma) s (fun t =>
      t.sw.currentMa = ma ∧ t.sw.vset = s.sw.vset ∧
      (mv + 20 < s.sw.vset → bitAt s.sw.cond 1 = false → t.sw.cond = s.sw.cond + 2) ∧
      (s.sw.vset ≤ mv + 20 → t.sw.cond = s.sw.cond) ∧ Touches (.sw :: evtParts) s t)) ∧
    (Gives (.avsAlert mv ma) s (fun t =>
      t.sw.currentMa = ma ∧ t.sw.vset = s.sw.vset ∧
      (mv + 20 < s.sw.vset → bitAt s.sw.cond 1 = false → t.sw.cond = s.sw.cond + 2) ∧
      (s.sw.vset ≤ mv + 20 → t.sw.cond = s.sw.cond) ∧ Touches (.sw :: evtParts) s t))) ∧
  (∀ (s : State) (b : Nat), s.Up → Instr.wf (.swCondChange b) = true → bitAt s.sw.cond b = false →
    Gives (.swCondChange b) s (fun t =>
      t.sw = { s.sw with cond := s.sw.cond + 2 ^ b } ∧ t.evt = (s.raise Ev.swCondLeft (2 ^ b) (s.sw.cond + 2 ^ b)).evt ∧
      Touches (.sw :: evtParts) s t)) ∧
  (∀ (s : State) (b : Nat), s.Up → Instr.wf (.swCondClear b) = true → bitAt s.sw.cond b = true → (b = 2 → s.fAdm ≤ s.sw.assured) →
    Gives (.swCondClear b) s (fun t => t.sw = { s.sw with cond := s.sw.cond - 2 ^ b } ∧ Touches [.sw] s t))

/-- R130, R131, R133, R134, R152: gate control lists, their activation and their queries, the hold and preemption they bring, and
preemption's verification. -/
def Obligations.GatesAndBounds : Prop :=
  (∀ (s : State) (p : Nat) (g : Gcl), s.Up → p < 96 → Gcl.live (s.port p).gcl = some g → (s.port p).gateExt = false →
    ((s.port p).gateIx + 1 < g.entries.length ∨ (s.port p).gclPend.any (fun y => decide (s.gclLeft y ≤ g.cycExt)) = false) →
    Gives (.gateChange p) s (fun t =>
      (t.port p).gateIx = (if (s.port p).gateIx + 1 < g.entries.length then (s.port p).gateIx + 1 else 0) ∧
      (t.port p).gates = (s.port p).entryGates (t.port p).gateIx ∧
      (t.port p).hold = holdAfter (s.port p).hold ((g.entries.getD (t.port p).gateIx ⟨0, 0, 0⟩).op) ∧
      (∀ q, q ≠ p → t.port q = s.port q) ∧ Touches [.fab] s t)) ∧
  (∀ (s : State) (p : Nat) (g y : Gcl), s.Up → p < 96 → Gcl.live (s.port p).gcl = some g → (s.port p).gateExt = false →
    g.entries.length ≤ (s.port p).gateIx + 1 → (s.port p).gclPend = some y → s.gclLeft y ≤ g.cycExt →
    Gives (.gateChange p) s (fun t =>
      t.port p = { s.port p with gateExt := true, sqOpen := false } ∧ (∀ q, q ≠ p → t.port q = s.port q) ∧ Touches [.fab] s t)) ∧
  (∀ (s : State) (p c : Nat) (x : Copy) (g : Gcl), s.Up → p < 96 → Gcl.live (s.port p).gcl = some g → (s.port p).gateExt = false →
    (s.port p).gateIx + 1 < g.entries.length → s.midTx p = some (c, x) → s.preemptPoint p x = true →
    bitAt ((s.port p).entryGates ((s.port p).gateIx + 1)) x.q = false →
    Gives (.gateChange p) s (fun t =>
      t.copy? c = some { x with txDone := s.txBytes p x } ∧ (t.port p).tx = none ∧ (t.port p).frag = some c ∧ Touches [.fab] s t)) ∧
  (∀ (s : State) (p : Nat) (g : Gcl), s.Up → p < 96 → (s.port p).gclPend = some g →
    Gives (.gclActivate p) s (fun t =>
      (t.port p).gcl = Gcl.live (some g) ∧ (t.port p).gclPend = none ∧ (t.port p).gateIx = 0 ∧
      (t.port p).gates = (t.port p).entryGates 0 ∧
      (∀ q, q ≠ p → t.port q = s.port q) ∧ Touches (.fab :: evtParts) s t)) ∧
  (∀ (s : State) (p : Nat) (ok : Bool), s.Up → p < 96 →
    Gives (.preemptVerify p ok) s (fun t =>
      t.port p = { s.port p with verified := ok, verifyFailed := !ok } ∧ (∀ q, q ≠ p → t.port q = s.port q) ∧
      Touches (.fab :: evtParts) s t)) ∧
  (∀ (s : State) (d : CmdDesc) (g : Gcl), s.Up → d.wf = true →
    s.Accepts d 0x9802 { unitChecks d true .port false [Rdy.fabric] with
      absent := !(d.badForm true) && decide (d.buf 0 2 < 96) && !(s.portExists (d.buf 0 2))
      badForm := (unitChecks d true .port false [Rdy.fabric]).badForm || decide (2 ≤ d.buf 2 1) ||
        !(((d.ext.take d.extLen).drop 3).take 29 |>.all (fun b => decide (b = 0)))
      badArg := decide (95 < d.buf 0 2) || s.portInactive (d.buf 0 2) || decide (d.extLen < 2080) } →
    bitAt (d.buf 2 1) 0 = false → (s.port (d.buf 0 2)).gcl = some g →
    Gives (.gclGet d) s (fun t =>
      (∃ e, CompletedExt d 0x9802 .ok 0 (leBytes g.entries.length 2) e t ∧
        e.take 8 = leBytes (d.buf 0 2) 2 ++ leBytes g.entries.length 2 ++ leBytes g.cycle 4) ∧
      Touches cplParts s t)) ∧
  (∀ (s : State) (d : CmdDesc) (b : Nat), s.Up → d.wf = true → s.AdmFree d 0xA001 →
    s.Accepts d 0xA001 { unitChecks d true .sw false [Rdy.fabric, Rdy.admission] with
      absent := s.flowAbsent d, badForm := (unitChecks d true .sw false [Rdy.fabric, Rdy.admission]).badForm || flowReserved d
      badArg := s.flowBad d none } →
    (s.admission (flowArgsOf d.objArgs) none).b = some b →
    Gives (.boundQuery d) s (fun t =>
      Completed d 0xA001 .ok 0 (leBytes b 4 ++ leBytes (s.admission (flowArgsOf d.objArgs) none).f 4 ++
        leBytes (s.admission (flowArgsOf d.objArgs) none).fault 1) t ∧ Touches cplParts s t)) ∧
  (∀ (s : State) (d : CmdDesc) (g : Gcl), s.Up → d.wf = true → s.AdmFree d 0x9801 →
    s.Accepts d 0x9801 { unitChecks d true .port true [Rdy.fabric] with
      absent := !(d.badForm true) && decide (d.buf 0 2 < 96) && !(s.portExists (d.buf 0 2))
      badForm := (unitChecks d true .port true [Rdy.fabric]).badForm ||
        !(((d.ext.take d.extLen).drop 20).take 12 |>.all (fun b => decide (b = 0))) ||
        (List.range (min (d.buf 2 2) 256)).any (fun k => decide (d.buf (32 + 8 * k) 2 / 2048 ≠ 0) || decide (d.buf (34 + 8 * k) 2 ≠ 0))
      badArg := decide (95 < d.buf 0 2) || s.portInactive (d.buf 0 2) || decide (256 < d.buf 2 2) ||
        decide (d.extLen < 32 + 8 * d.buf 2 2) || decide (d.buf 4 4 < 1000) || decide (4000000000 < d.buf 4 4) ||
        decide (1000000000 ≤ d.buf 14 4) ||
        ((List.range (min (d.buf 2 2) 256)).map (fun k => d.gclEntry k)).any
          (fun e => decide (e.interval < 64) || decide (1000000000 < e.interval) || decide (2 < e.op)) ||
        (decide (d.buf 2 2 ≠ 0) &&
          decide ((((List.range (min (d.buf 2 2) 256)).map (fun k => d.gclEntry k)).map (fun e => e.interval)).sum ≠ d.buf 4 4)) } →
    g = { cycle := d.buf 4 4, baseS := d.buf 8 6, baseNs := d.buf 14 4, cycExt := d.buf 18 2
          entries := (List.range (min (d.buf 2 2) 256)).map (fun k => d.gclEntry k)
          start := s.gclChange (d.buf 4 4) (d.buf 8 6 * 1000000000 + d.buf 14 4) } →
    (s.setPort (d.buf 0 2) { s.port (d.buf 0 2) with gclPend := some g }).firstBroken (d.buf 0 2) = none →
    Gives (.gclSet d) s (fun t =>
      t.port (d.buf 0 2) = { s.port (d.buf 0 2) with gclPend := some g } ∧ (∀ q, q ≠ d.buf 0 2 → t.port q = s.port q) ∧
      Completed d 0x9801 .ok 0 (leBytes 0 4 ++ leBytes (g.start / 1000000000) 6 ++ leBytes (g.start % 1000000000) 4) t ∧
      Touches (.fab :: cplParts) s t))

/-- R113, R128, R130, R133, R164, R167, R199, R215, R218: a frame becomes eligible and is queued, a damaged one is discarded; the
scheduler takes the SQ first; the timestamp point marks the copy sent. -/
def Obligations.QueueAndSend : Prop :=
  (∀ (s : State) (f c : Nat) (fr : Frame) (x : Copy), s.Up → s.frame? f = some fr → fr.decided = true → fr.eligible = false →
    fr.port ≠ 96 → fr.cbFn = none → fr.genFn = none → s.copiesOf f = [c] → s.copy? c = some x → x.frame = f → s.copyBytes x ≤ x.capacity →
    x.port < 96 → x.mirror = none →
    (if x.len ≠ 0 then x.len else fr.h.outLen x.tag x.rtag.isSome false) ≤ s.mtu x.port →
    Gives (.frameEligible f true) s (fun t =>
      (∃ y, t.copy? c = some y ∧ y.st = .queued ∧ y.elig = s.clk.now ∧ y.frame = x.frame ∧ y.port = x.port ∧ y.q = x.q) ∧
      t.queue x.port x.q = s.queue x.port x.q ++ [c] ∧ (∃ g, t.frame? f = some g ∧ g.eligible = true ∧ g.h = fr.h) ∧
      Touches [.fab, .fdb, .eng, .free, .bpm, .sw, .evt, .hif, .counters] s t)) ∧
  (∀ (s : State) (f : Nat) (fr : Frame), s.Up → s.frame? f = some fr → fr.eligible = false → fr.fcsIns = false → s.copiesOf f = [] →
    Gives (.frameEligible f false) s (fun t =>
      t.frame? f = none ∧ (t.port fr.port).ingDisc = satAdd 32 (s.port fr.port).ingDisc 1 ∧ Touches copyParts s t)) ∧
  (∀ (s : State) (p c : Nat) (x : Copy), s.Up → p < 96 → (s.port p).up = true → s.midTx p = none →
    (s.setPort p { s.port p with tx := none }).txQuiet p = false →
    (s.setPort p { s.port p with tx := none }).headOf p 8 = some (c, x) →
    Gives (.schedSelect p) s (fun t =>
      (t.port p).tx = some c ∧ t.copy? c = some { x with st := .tx, selAt := some s.clk.now, txAt := s.clk.now, txDone := 0 } ∧
      Touches [.fab] s t)) ∧
  (∀ (s : State) (p c : Nat) (x : Copy), s.Up → p < 96 → (s.port p).up = true → s.midTx p = some (c, x) →
    (s.expressReady p = false ∨ s.preemptPoint p x = false) → (s.port p).hold = false → bitAt (s.port p).gates x.q = true →
    Gives (.schedSelect p) s (fun t => Touches [] s t)) ∧
  (∀ (s : State) (p : Nat) (a : FcFrame) (l : List FcFrame), s.Up → p < 96 → (s.port p).up = true → s.midTx p = none →
    (s.setPort p { s.port p with tx := none }).txQuiet p = false →
    (s.setPort p { s.port p with tx := none }).headOf p 8 = none → (s.port p).fc = a :: l →
    Gives (.schedSelect p) s (fun t =>
      t.port p = { s.port p with tx := none, fc := l } ∧ t.count Fld.portPauseTx_VAL p = s.counted Fld.portPauseTx_VAL p ∧
      (∀ q, q ≠ p → t.port q = s.port q) ∧ Touches [.fab, .rc .portPauseTx] s t)) ∧
  (∀ (s : State) (p c : Nat) (marker : Int) (x : Copy) (fr : Frame), s.Up → p ≤ 96 → Instr.wf (.egressSfd p marker) = true →
    (s.port p).tx = some c → s.copy? c = some x → s.frame? x.frame = some fr → x.st = .tx →
    Gives (.egressSfd p marker) s (fun t =>
      t.copy? c = some { x with st := .sent, tsReq := none } ∧ (t.port p).lastTx = s.tsAt (s.latchAt p false marker).2.1 ∧
      Tab.get 0 (t.port p).sent x.q = Tab.get 0 (s.port p).sent x.q + 1 ∧
      Touches (evtParts ++ [Part.fab, .tcore, .lnk, .tic, .cal, .free, .eng, .rc .calAbortCnt, .rc .hifRingAborted, .rc .lnkSnapErr, .rc .perfTagDrop,
        .rc .tcoreOnestepSkip]) s t))

/-- R142, R143, R145 to R148: flow control, the hold window, the SQ deadline and the residence limit. -/
def Obligations.PauseHoldAndLimits : Prop :=
  (∀ (s : State) (p e : Nat) (l : List Nat), s.Up → Instr.wf (.pauseReceive p true e l) = true → s.fcMode p ≠ 0 →
    Gives (.pauseReceive p true e l) s (fun t =>
      (t.port p).pfcHeld = bitMap (fun k => if bitAt e k then decide (0 < l.getD k 0) else bitAt (s.port p).pfcHeld k) 8 ∧
      (t.port p).paused = (s.port p).paused ∧ t.count Fld.portPauseRx_VAL p = s.counted Fld.portPauseRx_VAL p ∧
      (∀ q, q ≠ p → t.port q = s.port q) ∧ Touches [.fab, .rc .portPauseRx] s t)) ∧
  (∀ (s : State) (p e : Nat) (l : List Nat), s.Up → Instr.wf (.pauseReceive p false e l) = true → s.fcMode p ≠ 0 →
    Gives (.pauseReceive p false e l) s (fun t =>
      (t.port p).paused = decide (0 < l.getD 0 0) ∧ (t.port p).pfcHeld = (s.port p).pfcHeld ∧
      t.count Fld.portPauseRx_VAL p = s.counted Fld.portPauseRx_VAL p ∧ (∀ q, q ≠ p → t.port q = s.port q) ∧
      Touches [.fab, .rc .portPauseRx] s t)) ∧
  (∀ (s : State) (p m : Nat), s.Up → Instr.wf (.pauseQuantaExpire p m) = true →
    Gives (.pauseQuantaExpire p m) s (fun t =>
      (t.port p).pfcHeld = bitMap (fun k => bitAt (s.port p).pfcHeld k && !(bitAt m k)) 8 ∧
      (t.port p).paused = ((s.port p).paused && !(bitAt m 8)) ∧ (∀ q, q ≠ p → t.port q = s.port q) ∧ Touches [.fab] s t)) ∧
  (∀ (s : State) (p : Nat), s.Up → p < 96 → (s.port p).xoff ≠ 0 → s.fcMode p ≠ 0 →
    Gives (.pfcRefresh p) s (fun t =>
      t.port p = { s.port p with fc := (s.port p).fc ++ [⟨if s.fcMode p = 2 then (s.port p).xoff else 0xFF, true⟩] } ∧
      (∀ q, q ≠ p → t.port q = s.port q) ∧ Touches [.fab] s t)) ∧
  (∀ (s : State) (p : Nat), s.Up → p < 96 → (s.port p).holding = true →
    Gives (.portHoldExpire p) s (fun t =>
      (t.port p).holding = false ∧ (t.port p).flushed = true ∧
      t.count Fld.portHoldFlush_VAL p = s.counted Fld.portHoldFlush_VAL p (s.beQueued p).length ∧
      Touches (copyParts ++ [Part.rc .portHoldFlush]) s t)) ∧
  (∀ (s : State) (c : Nat) (x : Copy), s.Up → s.copy? c = some x → x.st = .queued → x.q = 8 →
    ((s.port x.port).up = false ∨ s.queueHeld x.port 8 = true) →
    Gives (.sqDeadlineExpire c) s (fun t =>
      t.copy? c = none ∧ (t.port x.port).deadlineRaised = true ∧
      t.count Fld.portDeadlineExpired_VAL x.port = s.counted Fld.portDeadlineExpired_VAL x.port ∧
      Touches (copyParts ++ [Part.rc .portDeadlineExpired]) s t)) ∧
  (∀ (s : State) (c : Nat) (x : Copy), s.Up → s.copy? c = some x → x.st = .queued → x.deadline = none →
    Gives (.residenceExpire c) s (fun t =>
      t.copy? c = none ∧ t.count Fld.portResExpired_VAL x.port = s.counted Fld.portResExpired_VAL x.port ∧
      (t.port x.port).resTimes.head? = some s.clk.now ∧ Touches (copyParts ++ [Part.rc .portResExpired]) s t)) ∧
  (∀ (s : State) (q : Path) (p : Nat) (v : Word), s.Up → q.wf = true → p < 96 → s.Writable ⟨.portHold, p, 0⟩ →
    s.pendOverflow ⟨.portHold, p, 0⟩ (s.waitPoints ⟨.portHold, p, 0⟩ allBits) = false → (s.port p).holding = false →
    Gives (.portHoldWrite q p v) s (Stored ⟨.portHold, p, 0⟩ allBits
      ((s.written ⟨.portHold, p, 0⟩ &&& ~~~ RegKey.storedMask ⟨.portHold, p, 0⟩) ||| (v &&& RegKey.storedMask ⟨.portHold, p, 0⟩)) s)) ∧
  (∀ (s : State) (q : Path) (v : Word), s.Up → q.wf = true → s.Writable ⟨.swResCfg, 0, 0⟩ →
    s.pendOverflow ⟨.swResCfg, 0, 0⟩ (s.waitPoints ⟨.swResCfg, 0, 0⟩ allBits) = false → s.largestBound = 0 →
    Gives (.resCfgWrite q v) s (Stored ⟨.swResCfg, 0, 0⟩ allBits
      ((s.written ⟨.swResCfg, 0, 0⟩ &&& ~~~ RegKey.storedMask ⟨.swResCfg, 0, 0⟩) ||| (v &&& RegKey.storedMask ⟨.swResCfg, 0, 0⟩)) s))

/-- R120, R135, R178, R195, R215: a frame received on a port that is up is taken with its timestamp and waits for its lookup; the lookup
decides once and makes a copy for every destination that is not down. -/
def Obligations.FrameReceivedAndForwarded : Prop :=
  (∀ (s : State) (p : Nat) (h : FrameHdr), s.Up → p < 96 → (s.port p).up = true → s.intakeStopped p = false →
    Gives (.ingressFrame p h) s (fun t =>
      (∃ fr, t.frame? s.fab.nextFrame = some fr ∧ fr.port = p ∧ fr.h = h ∧ fr.decided = false ∧
        fr.tod = (s.latchAt p true h.marker).2.1 ∧ fr.ts = s.tsAt fr.tod) ∧
      t.fab.nextFrame = s.fab.nextFrame + 1 ∧
      (∀ f, f ≠ s.fab.nextFrame → t.frame? f = s.frame? f) ∧
      Touches (evtParts ++ [Part.sw, .fab, .tcore, .lnk, .tic, .cal, .free, .eng, .rc .calAbortCnt, .rc .lnkSnapErr,
        .rc .portFlowNonconf]) s t)) ∧
  (∀ (s : State) (p : Nat) (h : FrameHdr), s.Up → p < 96 → (s.port p).up = true → s.intakeStopped p = true →
    Gives (.ingressFrame p h) s (fun t =>
      t.port p = { s.port p with ingDisc := satAdd 32 (s.port p).ingDisc 1 } ∧ t.fab.nextFrame = s.fab.nextFrame ∧
      Touches [.fab] s t)) ∧
  (∀ (s : State) (f : Nat) (fr : Frame), s.Up → s.frame? f = some fr → fr.decided = false → fr.drop = false →
    fr.toEngine = false → s.lookupTurn f fr = true →
    Gives (.forwardLookup f) s (fun t =>
      (∃ x, t.frame? f = some x ∧ x.decided = true ∧ x.vid = (s.decide' fr).vid ∧ x.tc = (s.decide' fr).tc ∧
        x.learn = (s.decide' fr).learn ∧ x.h = fr.h) ∧
      (∀ x, x ∈ (s.decide' fr).dests → s.lookupDown x.port = false →
        ∃ c y, t.copy? c = some y ∧ y.frame = f ∧ y.port = x.port ∧ y.q = x.q ∧ y.flow = x.flow) ∧
      Touches [.fab, .fdb, .eng, .counters] s t)) ∧
  (∀ (s : State) (f : Nat) (fr : Frame), s.Up → s.frame? f = some fr → fr.decided = false → fr.drop = false →
    fr.toEngine = true → s.lookupTurn f fr = true →
    Gives (.forwardLookup f) s (fun t =>
      (∃ x, t.frame? f = some x ∧ x.decided = true ∧ x.h = fr.h) ∧
      (∀ c y, t.copy? c = some y → s.copy? c = some y ∨ (y.frame = f ∧ y.mirror.isSome = true)) ∧
      Touches [.fab, .counters] s t)) ∧
  (∀ (s : State) (f : Nat) (fr : Frame), s.Up → s.frame? f = some fr → s.lookupTurn f fr = false →
    Gives (.forwardLookup f) s (fun t => Touches [] s t))

/-- R120, R159, R163, R167, R170, R171, R172, R176: buffers: the request of an engine message of one buffer, and of a frame, in their
turn, frees by the owner, by another and of a buffer that is free, the auditor's visits and run, and a quota. -/
def Obligations.Buffers : Prop :=
  (∀ (s : State) (len p i : Nat), s.Up → len ≤ 2048 → s.bpmTurn none = true → s.bpmAnswer 97 3 1 = (.ok, p) → s.nextBuf p = some i →
    Gives (.bpmAlloc (.engine len)) s (fun t =>
      t.buf? (bufIndex p i) = some { owner := 97 } ∧ (t.req 97).used = (s.req 97).used + bufUnits p ∧
      (∀ b, b ≠ bufIndex p i → t.buf? b = s.buf? b) ∧
      Touches [.fab, .bpm, .rc .bpmPoolEmptyCnt, .rc .bpmPromoteCnt] s t)) ∧
  (∀ (s : State) (f c p i : Nat) (fr : Frame) (x : Copy), s.Up → s.frame? f = some fr → s.copiesOf f = [c] → s.copy? c = some x →
    x.frame = f → x.flow = none → x.mirror = none → x.st ≠ .sent → x.bufs = [] → s.bpmTurn (some f) = true →
    s.bpmAnswer fr.port (s.firstPool fr.h) 1 = (.ok, p) → s.nextBuf p = some i →
    Gives (.bpmAlloc (.frame f c)) s (fun t =>
      t.copy? c = some { x with bufs := [bufIndex p i], hinted := s.hinted fr.h } ∧
      t.buf? (bufIndex p i) = some { owner := fr.port } ∧
      (t.req fr.port).used = (s.req fr.port).used + bufUnits p ∧ (∀ b, b ≠ bufIndex p i → t.buf? b = s.buf? b) ∧
      Touches [.fab, .bpm, .eng, .rc .bpmPromoteCnt] s t)) ∧
  (∀ (s : State) (f c : Nat), s.Up → s.bpmTurn (some f) = false →
    Gives (.bpmAlloc (.frame f c)) s (fun t => (∀ b, t.buf? b = s.buf? b) ∧ (∀ d, t.copy? d = s.copy? d) ∧ Touches [.fab, .eng] s t)) ∧
  (∀ (s : State) (b r : Nat) (x : Buf), s.Up → r < 106 → s.buf? b = some x → x.owner = r → (s.pool (bufPool b)).rebuild = false →
    s.bpm.engWait = [] → (∀ e, e ∈ s.fab.copies → e.2.st ≠ .sent) →
    Gives (.bpmFree b r) s (fun t =>
      t.buf? b = none ∧ (∀ b', b' ≠ b → t.buf? b' = s.buf? b') ∧ (∀ c y, t.copy? c = some y → b ∉ y.bufs) ∧
      Touches [.sw, .fab, .bpm] s t)) ∧
  (∀ (s : State) (b r : Nat), s.Up → r < 106 → s.buf? b = none →
    Gives (.bpmFree b r) s (fun t =>
      t.count Fld.bpmDoubleFreeCnt_VAL = s.counted Fld.bpmDoubleFreeCnt_VAL ∧
      Touches (.rc .bpmDoubleFreeCnt :: evtParts) s t)) ∧
  (∀ (s : State) (b r : Nat) (x : Buf), s.Up → r < 106 → s.buf? b = some x → x.owner ≠ r →
    Gives (.bpmFree b r) s (fun t =>
      t.count Fld.bpmForeignFreeCnt_VAL = s.counted Fld.bpmForeignFreeCnt_VAL ∧ t.buf? b = some x ∧
      Touches (.rc .bpmForeignFreeCnt :: evtParts) s t)) ∧
  (∀ (s : State) (b : Nat) (x : Buf), s.Up → s.apB Fld.bpmAuditCfg_EN = true → s.bpm.engWait = [] → s.buf? b = some x →
    (s.pool (bufPool b)).bad = false →
    (x.ref = true → Gives (.auditVisit ⟨[], [b], false⟩) s (fun t =>
      t.buf? b = some { x with seen := none } ∧ t.bpm.visited = s.bpm.visited + 1 ∧ t.bpm.leaks = s.bpm.leaks ∧
      Touches [.fab, .bpm] s t)) ∧
    (x.ref = false → x.seen ≠ some (Tab.get 0 s.bpm.allocs b) → Gives (.auditVisit ⟨[], [b], false⟩) s (fun t =>
      t.buf? b = some { x with seen := some (Tab.get 0 s.bpm.allocs b) } ∧ t.bpm.leaks = s.bpm.leaks ∧ Touches [.fab, .bpm] s t)) ∧
    (x.ref = false → x.seen = some (Tab.get 0 s.bpm.allocs b) → Gives (.auditVisit ⟨[], [b], false⟩) s (fun t =>
      t.count Fld.bpmLeakCnt_VAL = s.counted Fld.bpmLeakCnt_VAL ∧ t.bpm.leaks = s.bpm.leaks + 1 ∧
      t.buf? b = (if s.apB Fld.bpmAuditCfg_RECLAIM then none else some x) ∧
      Touches (evtParts ++ [Part.sw, .fab, .bpm, .rc .bpmLeakCnt]) s t))) ∧
  (∀ (s : State) (b p : Nat), s.Up → s.apB Fld.bpmAuditCfg_EN = true → s.bpm.engWait = [] → s.buf? b = none → bufPool b = p → p < 5 →
    (s.pool p).bad = true →
    Gives (.auditVisit ⟨[], [b], false⟩) s (fun t =>
      t.pool p = { s.pool p with bad := false, rebuild := (s.pool p).rebuild || !(s.pool p).bitmap } ∧ t.bpm.faults = s.bpm.faults + 1 ∧
      Touches (evtParts ++ [Part.fab, .bpm]) s t)) ∧
  (∀ (s : State), s.Up → (∀ r, r < 106 → s.chargeOf r = s.auditUsed r + s.auditHr r * 16) → s.apB Fld.bpmAuditCfg_EN = true →
    s.bpm.engWait = [] →
    Gives (.auditVisit ⟨[], [], true⟩) s (fun t =>
      t.bpm.lastPass = [s.bpm.pass, s.bpm.visited, s.bpm.leaks, s.bpm.reclaimed, s.bpm.faults, (s.clk.now - s.bpm.passStart) / 1000000] ∧
      t.bpm.pass = s.bpm.pass + 1 ∧ t.bpm.visited = 0 ∧ t.bpm.auditRun = [] ∧
      (∀ d, s.bpm.auditRun = [d] → Completed d 0xA402 .ok 0
        (leBytes s.bpm.visited 4 ++ leBytes s.bpm.leaks 4 ++ leBytes s.bpm.faults 4) t) ∧
      (∀ b, t.buf? b = s.buf? b) ∧ Touches [.fab, .bpm, .hif, .boot, .rc .hifRingAborted] s t)) ∧
  (∀ (s : State) (d : CmdDesc), s.Up → d.wf = true → s.Accepts d 0xA402 { unitChecks d false .bpm true [Rdy.bpm] with
      badForm := (unitChecks d false .bpm true [Rdy.bpm]).badForm || !(d.zero 12 32) } →
    Gives (.bpmAuditRun d) s (fun t =>
      t.bpm = { s.bpm with auditRun := s.bpm.auditRun ++ [d], pass := s.bpm.pass + 1, visited := 0, leaks := 0, reclaimed := 0
                           faults := 0, passStart := s.clk.now } ∧
      Touches (.bpm :: cplParts) s t)) ∧
  (∀ (s : State) (p : Path) (r : Nat) (v : Word), s.Up → p.wf = true → r < 106 → s.Writable ⟨.bpmQuota, r, 0⟩ →
    s.pendOverflow ⟨.bpmQuota, r, 0⟩ (s.waitPoints ⟨.bpmQuota, r, 0⟩ allBits) = false →
    Gives (.bpmQuotaWrite p r v) s (fun t =>
      t.written ⟨.bpmQuota, r, 0⟩ = ((s.written ⟨.bpmQuota, r, 0⟩ &&& ~~~ RegKey.storedMask ⟨.bpmQuota, r, 0⟩) |||
        (v &&& RegKey.storedMask ⟨.bpmQuota, r, 0⟩)) ∧
      OtherRegs ⟨.bpmQuota, r, 0⟩ s t ∧ (∀ b, t.buf? b = s.buf? b) ∧ Touches (evtParts ++ [Part.regs, .fab, .bpm]) s t))

/-- R172 to R175: the rebuild of a pool, and a carve: it takes effect once no retiring buffer is in use, or rolls back. -/
def Obligations.CarveAndRebuild : Prop :=
  (∀ (s : State) (p : Nat), s.Up → p < 5 → (s.pool p).rebuild = true → (s.pool p).waiting = [] → s.bpm.engWait = [] →
    (∀ e, e ∈ s.fab.copies → e.2.st ≠ .sent) →
    Gives (.storeRebuildDone p) s (fun t =>
      t.pool p = { s.pool p with rebuild := false, fresh := 0, freed := [], waiting := [] } ∧
      (∀ q, q ≠ p → t.pool q = s.pool q) ∧ (∀ b, t.buf? b = s.buf? b) ∧ Touches [.fab, .bpm] s t)) ∧
  (∀ (s : State) (d : CmdDesc), s.Up → d.wf = true →
    s.Accepts d 0xA401 { unitChecks d true .bpm true [Rdy.bpm] with
      badForm := (unitChecks d true .bpm true [Rdy.bpm]).badForm ||
        !((d.ext.take d.extLen).drop 2 |>.take 6 |>.all (fun b => decide (b = 0)))
      badArg := decide (d.extLen < 48) || d.carvePools.any (fun x => decide (524287 < x.2)) || carveOverlap d.carvePools ||
        decide ((d.carvePools.getD 3 (0, 0)).2 = 0) } →
    s.hrTotal + 256 ≤ (d.carvePools.getD 3 (0, 0)).2 →
    (∀ n, n < 5 → (s.pool n).rsv * 100 ≤ (d.carvePools.getD n (0, 0)).2 * s.rsvPct) → s.bpm.carve = none → s.bpm.bufs = [] →
    s.bpm.engWait = [] → (∀ n, n < 5 → (s.pool n).waiting = []) →
    Gives (.bpmCarve d) s (fun t =>
      (∀ n, n < 5 → (t.pool n).base = (d.carvePools.getD n (0, 0)).1 ∧ (t.pool n).count = (d.carvePools.getD n (0, 0)).2 ∧
        (t.pool n).rsv = (s.pool n).rsv ∧
        (t.pool n).rebuild = (decide (0 < (t.pool n).count) && decide ((t.pool n).count ≤ 16384))) ∧
      t.bpm.carve = none ∧ Completed d 0xA401 .ok 0 (leBytes 0 4 ++ leBytes 0 4 ++ leBytes 0 4) t ∧
      Touches (evtParts ++ cplParts ++ [Part.fab, .bpm]) s t)) ∧
  (∀ (s : State) (c : Carve), s.Up → s.bpm.carve = some c → s.retiring = 0 → s.bpm.engWait = [] →
    (∀ n, n < 5 → (s.pool n).waiting = []) →
    Gives .carveTakeEffect s (fun t =>
      (∀ n, n < 5 → (t.pool n).base = (c.pools.getD n (0, 0)).1 ∧ (t.pool n).count = (c.pools.getD n (0, 0)).2) ∧
      t.bpm.carve = none ∧ (∃ r, Completed c.desc 0xA401 .ok 0 r t) ∧ Touches (evtParts ++ cplParts ++ [Part.fab, .bpm]) s t)) ∧
  (∀ (s : State) (c : Carve), s.Up → s.bpm.carve = some c → s.retiring = 0 → s.bpm.engWait = [] →
    (∀ n, n < 5 → (s.pool n).waiting = []) →
    Gives .carveRollback s (fun t =>
      (∀ n, n < 5 → (t.pool n).base = (c.pools.getD n (0, 0)).1 ∧ (t.pool n).count = (c.pools.getD n (0, 0)).2) ∧
      t.bpm.carve = none ∧ (∃ r, Completed c.desc 0xA401 .ok 0 r t) ∧ Touches (evtParts ++ cplParts ++ [Part.fab, .bpm]) s t)) ∧
  (∀ (s : State) (c : Carve), s.Up → s.bpm.carve = some c → s.retiring ≠ 0 → s.bpm.engWait = [] →
    Gives .carveRollback s (fun t =>
      (∀ n, n < 5 → (t.pool n).base = (s.pool n).base ∧ (t.pool n).count = (s.pool n).count) ∧ t.bpm.carve = none ∧
      (∃ r, Completed c.desc 0xA401 .drainedAbort 0 r t) ∧ Touches (cplParts ++ [Part.fab, .bpm]) s t))

/-- R181 to R183, R192, R201: an unknown source is learned on its port in its first empty bucket, with the moves of R181 or not at all;
a known one on its port gets HIT; an age visit clears HIT first and removes the entry at the next; the entry commands add, delete, look
up and flush. -/
def Obligations.FdbEntries : Prop :=
  (∀ (s : State) (pipe : Nat) (l : Learn) (q : List Learn), s.Up → Instr.wf (.fdbLearn pipe) = true →
    Tab.get [] s.fdb.learnQ pipe = l :: q →
    Gives (.fdbLearn pipe) s (fun t =>
      (∀ a, s.fdbEntry? l.mac l.vid = none → s.fdb.verFull = false →
        (fdbBuckets (l.mac, l.vid)).find? (fun b => (fdbAt s.fdb.entries b).isNone) = some a →
        t.fdbEntry? l.mac l.vid = some { dest := l.port, loc := BitVec.ofNat 32 a } ∧
        t.fdb.version (.fdb l.mac l.vid) = (s.fdb.version (.fdb l.mac l.vid) + 1) % 65536 ∧
        t.count Fld.fdbLearnCnt_VAL = s.counted Fld.fdbLearnCnt_VAL ∧
        (∀ m v, (m, v) ≠ (l.mac, l.vid) → t.fdbEntry? m v = s.fdbEntry? m v)) ∧
      (∀ es, s.fdbEntry? l.mac l.vid = none → s.fdb.verFull = false →
        fdbPlace s.fdb.entries (l.mac, l.vid) { dest := l.port } 64 = some es →
        t.fdb.entries = es ∧ t.count Fld.fdbLearnCnt_VAL = s.counted Fld.fdbLearnCnt_VAL) ∧
      (s.fdbEntry? l.mac l.vid = none → s.fdb.verFull = false →
        fdbPlace s.fdb.entries (l.mac, l.vid) { dest := l.port } 64 = none →
        t.fdb.entries = s.fdb.entries ∧ t.count Fld.fdbLearnFail_VAL = s.counted Fld.fdbLearnFail_VAL) ∧
      (∀ e, s.fdbEntry? l.mac l.vid = some e → e.dest = l.port → e.static = false →
        t.fdbEntry? l.mac l.vid = some { e with hit := true, mirrored := false }) ∧
      (∀ e, s.fdbEntry? l.mac l.vid = some e → e.dest ≠ l.port → e.static = true →
        t.fdbEntry? l.mac l.vid = some e ∧ t.count Fld.fdbStaticViol_VAL = s.counted Fld.fdbStaticViol_VAL) ∧
      (∀ e, s.fdbEntry? l.mac l.vid = some e → e.dest ≠ l.port → e.static = false → s.apB Fld.fdbCfg_MOVE_EN = true →
        s.fdb.verFull = false →
        t.fdbEntry? l.mac l.vid = some { e with dest := l.port, hit := true, mirrored := false } ∧
        t.count Fld.fdbMoveCnt_VAL = s.counted Fld.fdbMoveCnt_VAL) ∧
      Tab.get [] t.fdb.learnQ pipe = q ∧
      (s.fdbEntry? l.mac l.vid ≠ none → ∀ m v, (m, v) ≠ (l.mac, l.vid) → t.fdbEntry? m v = s.fdbEntry? m v) ∧
      Touches (evtParts ++ [Part.fdb, .pair, .rc .fdbLearnCnt, .rc .fdbLearnFail, .rc .fdbLearnSkip, .rc .fdbMoveCnt,
        .rc .fdbStaticViol, .rc .pairMirOvf]) s t)) ∧
  (∀ (s : State) (mac vid : Nat) (e : FdbEntry), s.Up → s.fdbEntry? mac vid = some e → s.ap Fld.fdbAge_AGE_S ≠ 0 →
    e.mirrored = false →
    Gives (.fdbAgeVisit mac vid) s (fun t =>
      (e.hit = true → t.fdbEntry? mac vid = some { e with hit := false }) ∧
      (e.hit = false → e.static = true → t.fdbEntry? mac vid = some e) ∧
      (e.hit = false → e.static = false → s.fdb.verFull = false →
        t.fdbEntry? mac vid = none ∧ t.count Fld.fdbAgedCnt_VAL = s.counted Fld.fdbAgedCnt_VAL) ∧
      (∀ m v, (m, v) ≠ (mac, vid) → t.fdbEntry? m v = s.fdbEntry? m v) ∧
      Touches (evtParts ++ [Part.fdb, .pair, .rc .fdbLearnSkip, .rc .fdbAgedCnt, .rc .pairMirOvf]) s t)) ∧
  (∀ (s : State) (d : CmdDesc), s.Up → d.wf = true →
    s.Accepts d 0xA801 { fdbChecks d false 23 true with
      absent := !(bitAt (d.arg 20 2) 15) && decide (d.arg 20 2 % 128 < 96) && !(s.portExists (d.arg 20 2 % 128))
      badForm := (fdbChecks d false 23 true).badForm || (if bitAt (d.arg 20 2) 15 then decide (bitsOf (d.arg 20 2) 12 3 ≠ 0)
        else decide (bitsOf (d.arg 20 2) 7 8 ≠ 0)) || decide (2 ≤ d.arg 22 1)
      badArg := decide (4096 ≤ d.arg 18 2) ||
        (!(bitAt (d.arg 20 2) 15) && (decide (96 < d.arg 20 2 % 128) || s.portInactive (d.arg 20 2 % 128))) } →
    s.verBusy [.fdb (d.mac 12) (d.arg 18 2)] = false →
    ((s.fdbEntry? (d.mac 12) (d.arg 18 2)).isSome = true ∨
      (fdbBuckets (d.mac 12, d.arg 18 2)).any (fun b => (fdbAt s.fdb.entries b).isNone) = true) →
    Gives (.fdbAdd d) s (fun t =>
      (∃ a, t.fdbEntry? (d.mac 12) (d.arg 18 2) = some { dest := d.arg 20 2, static := d.arg 22 1 == 1, loc := a } ∧
        (∀ e, s.fdbEntry? (d.mac 12) (d.arg 18 2) = some e → a = e.loc) ∧
        Completed d 0xA801 .ok 0 (leBytes a.toNat 4 ++ leBytes ((s.fdb.version (.fdb (d.mac 12) (d.arg 18 2)) + 1) % 65536) 2) t) ∧
      (∀ m v, (m, v) ≠ (d.mac 12, d.arg 18 2) → t.fdbEntry? m v = s.fdbEntry? m v) ∧
      Touches (evtParts ++ cplParts ++ [Part.fdb]) s t)) ∧
  (∀ (s : State) (d : CmdDesc), s.Up → d.wf = true →
    s.Accepts d 0xA802 { fdbChecks d false 20 true with
      badArg := decide (4096 ≤ d.arg 18 2) || (s.fdbEntry? (d.mac 12) (d.arg 18 2)).isNone } →
    s.verBusy [.fdb (d.mac 12) (d.arg 18 2)] = false →
    Gives (.fdbDel d) s (fun t =>
      t.fdbEntry? (d.mac 12) (d.arg 18 2) = none ∧
      Completed d 0xA802 .ok 0 (leBytes ((s.fdb.version (.fdb (d.mac 12) (d.arg 18 2)) + 1) % 65536) 2) t ∧
      (∀ m v, (m, v) ≠ (d.mac 12, d.arg 18 2) → t.fdbEntry? m v = s.fdbEntry? m v) ∧ Touches (evtParts ++ cplParts ++ [Part.fdb]) s t)) ∧
  (∀ (s : State) (d : CmdDesc), s.Up → d.wf = true →
    s.Accepts d 0xA803 { fdbChecks d false 20 false with badArg := decide (4096 ≤ d.arg 18 2) } →
    Gives (.fdbLookup d) s (fun t =>
      (∀ e, s.fdbEntry? (d.mac 12) (d.arg 18 2) = some e →
        Completed d 0xA803 .ok 0 (leBytes e.dest 2 ++ leBytes (b2n e.static + 2 * b2n e.hit) 2 ++
          leBytes (s.fdb.version (.fdb (d.mac 12) (d.arg 18 2))) 2) t) ∧
      (s.fdbEntry? (d.mac 12) (d.arg 18 2) = none → Completed d 0xA803 .ok 0 (leBytes 0xFFFFFFFF 4) t) ∧ Touches cplParts s t)) ∧
  (∀ (s : State) (d : CmdDesc), s.Up → d.wf = true →
    s.Accepts d 0xA804 { fdbChecks d false 17 true with
      absent := decide (d.arg 12 2 < 96) && !(s.portExists (d.arg 12 2))
      badForm := (fdbChecks d false 17 true).badForm || decide (2 ≤ d.arg 16 1)
      badArg := (decide (96 < d.arg 12 2) && decide (d.arg 12 2 ≠ 0xFFFF)) || (decide (d.arg 12 2 < 96) && s.portInactive (d.arg 12 2)) ||
        (decide (4096 ≤ d.arg 14 2) && decide (d.arg 14 2 ≠ 0xFFFF)) } →
    s.fdb.retired = [] → s.fdb.entries.length ≤ 4096 → s.fdb.verFull = false →
    Gives (.fdbFlush d) s (fun t =>
      (∀ x, x ∈ s.fdb.entries → fdbFlushTakes d x = true → t.fdbEntry? x.1.1 x.1.2 = none) ∧
      (∀ m v, (∀ x, x ∈ s.fdb.entries → x.1 = (m, v) → fdbFlushTakes d x = false) → t.fdbEntry? m v = s.fdbEntry? m v) ∧
      (∃ r, Completed d 0xA804 .ok 0 r t) ∧ Touches (evtParts ++ cplParts ++ [Part.fdb]) s t))

/-- R185, R187, R193, R199 to R201: the commands that set the VLAN table, a group, a classifier entry and an 802.1CB function take the
operands as they are and advance the version of what they set by one; a function's recovery timer forgets what it recovered. -/
def Obligations.FdbTables : Prop :=
  (∀ (s : State) (d : CmdDesc), s.Up → d.wf = true →
    s.Accepts d 0xA805 { fdbChecks d true 0 true with
      absent := !(d.badForm true) && (s.setAbsent (d.buf 2 13) || s.setAbsent (d.buf 15 13))
      badForm := (fdbChecks d true 0 true).badForm || decide (2 ^ 97 ≤ d.buf 2 13) || decide (2 ^ 97 ≤ d.buf 15 13)
      badArg := decide (4096 ≤ d.buf 0 2) } → s.verBusy [.vlan (d.buf 0 2)] = false →
    Gives (.fdbVlanSet d) s (fun t =>
      t.vlan (d.buf 0 2) = (d.buf 2 13, d.buf 15 13) ∧ (∀ v, v ≠ d.buf 0 2 → t.vlan v = s.vlan v) ∧
      Completed d 0xA805 .ok 0 (leBytes ((s.fdb.version (.vlan (d.buf 0 2)) + 1) % 65536) 2) t ∧
      Touches (evtParts ++ cplParts ++ [Part.fdb]) s t)) ∧
  (∀ (s : State) (d : CmdDesc), s.Up → d.wf = true →
    s.Accepts d 0xA806 { fdbChecks d true 0 true with
      absent := !(d.badForm true) && s.setAbsent (d.buf 2 13)
      badForm := (fdbChecks d true 0 true).badForm || decide (2 ^ 97 ≤ d.buf 2 13)
      badArg := decide (4096 ≤ d.buf 0 2) } → s.verBusy [.mcg (d.buf 0 2)] = false →
    Gives (.fdbMcgSet d) s (fun t =>
      t.mcGroup (d.buf 0 2) = d.buf 2 13 ∧ (∀ g, g ≠ d.buf 0 2 → t.mcGroup g = s.mcGroup g) ∧
      Completed d 0xA806 .ok 0 (leBytes ((s.fdb.version (.mcg (d.buf 0 2)) + 1) % 65536) 2) t ∧
      Touches (evtParts ++ cplParts ++ [Part.fdb]) s t)) ∧
  (∀ (s : State) (d : CmdDesc), s.Up → d.wf = true →
    s.Accepts d 0xA807 { fdbChecks d true 0 true with
      absent := !(d.badForm true) && decide (d.clsEntry.port < 96) && !(s.portExists d.clsEntry.port)
      badForm := (fdbChecks d true 0 true).badForm || bitAt d.clsEntry.action 7 || decide (d.buf 20 12 ≠ 0)
      badArg := decide (16384 ≤ d.buf 0 2) || (decide (96 < d.clsEntry.port) && decide (d.clsEntry.port ≠ 0xFFFF)) ||
        (decide (d.clsEntry.port < 96) && s.portInactive d.clsEntry.port) ||
        decide (d.clsEntry.kind = 0) || decide (6 < d.clsEntry.kind) ||
        (decide (4096 ≤ d.clsEntry.vid) && decide (d.clsEntry.vid ≠ 0xFFFF)) ||
        decide (BitVec.ofNat 32 d.clsEntry.key &&& ~~~ keyBits d.clsEntry.kind ≠ 0) ||
        decide (BitVec.ofNat 32 d.clsEntry.mask &&& ~~~ keyBits d.clsEntry.kind ≠ 0) ||
        decide (1024 ≤ d.clsEntry.cbFn) || (decide (d.clsEntry.kind < 6) && decide (d.clsEntry.macHi ≠ 0)) } →
    s.verBusy [.cls (d.buf 0 2)] = false →
    Gives (.fdbClsSet d) s (fun t =>
      (Tab.find s.fdb.bound (d.buf 0 2) = none →
        Tab.find t.fdb.cls (d.buf 0 2) = some d.clsEntry ∧ (∀ i, i ≠ d.buf 0 2 → Tab.find t.fdb.cls i = Tab.find s.fdb.cls i) ∧
        Completed d 0xA807 .ok 0 (leBytes ((s.fdb.version (.cls (d.buf 0 2)) + 1) % 65536) 2) t) ∧
      (Tab.find s.fdb.bound (d.buf 0 2) ≠ none → t.fdb = s.fdb ∧ Completed d 0xA807 .busy 0 [] t) ∧
      Touches (evtParts ++ cplParts ++ [Part.fdb]) s t)) ∧
  (∀ (s : State) (d : CmdDesc), s.Up → d.wf = true →
    s.Accepts d 0xA808 { fdbChecks d false 14 true with badArg := (Tab.find s.fdb.cls (d.arg 12 2)).isNone } →
    Tab.find s.fdb.bound (d.arg 12 2) = none → s.verBusy [.cls (d.arg 12 2)] = false →
    Gives (.fdbClsDel d) s (fun t =>
      Tab.find t.fdb.cls (d.arg 12 2) = none ∧ (∀ i, i ≠ d.arg 12 2 → Tab.find t.fdb.cls i = Tab.find s.fdb.cls i) ∧
      Completed d 0xA808 .ok 0 (leBytes ((s.fdb.version (.cls (d.arg 12 2)) + 1) % 65536) 2) t ∧
      Touches (evtParts ++ cplParts ++ [Part.fdb]) s t)) ∧
  (∀ (s : State) (d : CmdDesc), s.Up → d.wf = true →
    s.Accepts d 0xA809 { fdbChecks d false 30 true with
      absent := s.setAbsent (d.arg 20 10)
      badForm := (fdbChecks d false 30 true).badForm || decide (2 ≤ d.arg 18 1) || decide (d.arg 19 1 ≠ 0)
      badArg := decide (1024 ≤ d.arg 12 2) || decide (3 < d.arg 14 1) || decide (d.arg 15 1 < 2) || decide (128 < d.arg 15 1) ||
        decide (d.arg 16 2 = 0) ||
        decide (4 < (portsOf (d.arg 20 10)).length) } → s.verBusy [.cb (d.arg 12 2)] = false →
    Gives (.fdbCbSet d) s (fun t =>
      (d.arg 14 1 = 3 → t.cbFn? (d.arg 12 2) = none) ∧
      (d.arg 14 1 ≠ 3 → ∃ x, t.cbFn? (d.arg 12 2) = some x ∧ x.type = d.arg 14 1 ∧ x.hist = d.arg 15 1 ∧ x.resetMs = d.arg 16 2 ∧
        x.pop = (d.arg 18 1 == 1) ∧ x.ports = d.arg 20 10 ∧ x.nextSeq = 0 ∧ x.recov = none ∧ x.history = 0 ∧ x.histLen = 0) ∧
      (∀ f, f ≠ d.arg 12 2 → t.cbFn? f = s.cbFn? f) ∧
      Completed d 0xA809 .ok 0 (leBytes ((s.fdb.version (.cb (d.arg 12 2)) + 1) % 65536) 2) t ∧
      Touches (evtParts ++ cplParts ++ [Part.fdb]) s t)) ∧
  (∀ (s : State) (f : Nat) (x : CbFn), s.Up → Instr.wf (.cbRecoveryReset f) = true → s.cbFn? f = some x → x.type ≠ 0 →
    Gives (.cbRecoveryReset f) s (fun t =>
      t.cbFn? f = some { x with recov := none, history := 0, histLen := 0, resets := satAdd 32 x.resets 1 } ∧
      (∀ g, g ≠ f → t.cbFn? g = s.cbFn? g) ∧ Touches [.fdb] s t))

/-- R206, R207: the servo takes the selected reference's offset less the bias, and the sixteenth sample in a row within LOCK_NS locks;
the first sample after FREERUN may step both cores instead; with SERVO_EN 0 the sample is only measured. R31, R208, R212, R213, R233:
TIME_STEP and TIME_SET move both cores in the same TIME period, at once or at the next second boundary, which they wait for; one step
waits at a time. At a second boundary of the active core the cores stand at the next whole second, the SEC writes take effect, a due
swap is made, and then the steps that waited. -/
def Obligations.ServoAndTimeSteps : Prop :=
  (∀ (s : State) (off : Int) (id : Nat), s.Up → s.ref.tsel = some id → (s.cand id).st = .selected → s.ref.stepPend = none →
    s.pair.follow = false → s.apB Fld.tcoreCtrl_SERVO_EN = true → (s.tcore.tstate = .acquire ∨ s.tcore.tstate = .locked) →
    (s.autoStep (off - s.ref.bias) = false → Gives (.servoSample off) s (fun t =>
      t.tcore.samples = satAdd 32 s.tcore.samples 1 ∧ t.tcore.lastOff = off - s.ref.bias ∧
      (s.tcore.tstate = .acquire → (off - s.ref.bias).natAbs ≤ s.lockNs → 15 ≤ s.tcore.lockCnt → t.tcore.tstate = .locked) ∧
      (s.lockNs < (off - s.ref.bias).natAbs → t.tcore.tstate = s.tcore.tstate ∧ t.tcore.lockCnt = 0) ∧
      t.clk.tcA = s.clk.tcA ∧ t.clk.tcB = s.clk.tcB ∧ Touches refParts s t)) ∧
    (s.autoStep (off - s.ref.bias) = true → Gives (.servoSample off) s (fun t =>
      t.clk.tcA = (s.clk.shift (-(off - s.ref.bias) * (unitsPerFrac : Int))).tcA ∧
      t.clk.tcB = (s.clk.shift (-(off - s.ref.bias) * (unitsPerFrac : Int))).tcB ∧ Touches commitParts s t))) ∧
  (∀ (s : State) (off : Int) (id : Nat), s.Up → s.ref.tsel = some id → (s.cand id).st = .selected → s.ref.stepPend = none →
    s.apB Fld.tcoreCtrl_SERVO_EN = false →
    Gives (.servoSample off) s (fun t =>
      (t.cand id).off = off ∧ (t.cand id).samples = (s.cand id).samples + 1 ∧ Touches [.ref] s t)) ∧
  (∀ (s : State) (d : CmdDesc), s.Up → d.wf = true → s.Accepts d 0xB001 { unitChecks d false .tcore true [Rdy.tcore] with
      badForm := (unitChecks d false .tcore true [Rdy.tcore]).badForm || decide (4 ≤ d.arg 20 1) || !(d.zero 21 32)
      badArg := d.toRef && s.ref.stepPend.isNone } →
    (s.tcore.steps = [] → d.atSec = false → d.toRef = false → Gives (.timeStep d) s (fun t =>
      t.clk.tcA = (s.clk.shift (d.argI 12 8 * (unitsPerFrac : Int))).tcA ∧
      t.clk.tcB = (s.clk.shift (d.argI 12 8 * (unitsPerFrac : Int))).tcB ∧
      Completed d 0xB001 .ok 0 (t.stepBytes (d.argI 12 8)) t ∧ Touches commitParts s t)) ∧
    (∀ id, s.tcore.steps = [] → d.atSec = false → d.toRef = true → s.ref.stepPend = some id → Gives (.timeStep d) s (fun t =>
      t.clk.tcA = (s.clk.shift (-(s.cand id).off * (unitsPerFrac : Int))).tcA ∧
      t.clk.tcB = (s.clk.shift (-(s.cand id).off * (unitsPerFrac : Int))).tcB ∧
      Completed d 0xB001 .ok 0 (t.stepBytes (-(s.cand id).off)) t ∧ Touches commitParts s t)) ∧
    (s.tcore.steps = [] → d.atSec = true → Gives (.timeStep d) s (fun t =>
      t.tcore = { s.tcore with steps := [⟨d, false⟩] } ∧ Touches (cplParts ++ [Part.tcore]) s t)) ∧
    (s.tcore.steps ≠ [] → Gives (.timeStep d) s (fun t => Completed d 0xB001 .busy 0 [] t ∧ Touches cplParts s t))) ∧
  (∀ (s : State) (d : CmdDesc), s.Up → d.wf = true → s.Accepts d 0xB002 { unitChecks d false .tcore true [Rdy.tcore] with
      badForm := (unitChecks d false .tcore true [Rdy.tcore]).badForm || !(d.zero 18 32) } →
    (s.apB Fld.tcoreCtrl_SERVO_EN = false ∨ (s.tcore.tstate ≠ .locked ∧ s.tcore.tstate ≠ .holdover) → Gives (.timeSet d) s (fun t =>
      t.tcore = { s.tcore with steps := s.tcore.steps ++ [⟨d, true⟩] } ∧ Touches (cplParts ++ [Part.tcore]) s t)) ∧
    (s.apB Fld.tcoreCtrl_SERVO_EN = true → s.tcore.tstate = .locked ∨ s.tcore.tstate = .holdover → Gives (.timeSet d) s (fun t =>
      Completed d 0xB002 .busy 0 [] t ∧ Touches cplParts s t))) ∧
  (∀ s : State, s.Up → s.isReady Rdy.tcore = true →
    Gives .secondBoundary s (fun t =>
      t.clk.now = s.clk.now + s.toBoundary.toNat / unitsPerPs ∧ t.waitingAt .sec (fun _ => true) = [] ∧
      (s.regs.cmtAtSec = true → t.regs.cmtAtSec = false) ∧ Touches secParts s t)) ∧
  (∀ (s : State) (k : RegKey), s.Up → s.isReady Rdy.tcore = true → k ∈ s.waitingAt .sec (fun _ => true) → k.pointMask .sec ≠ 0 →
    k.name ≠ .lnkFixAsym →
    Gives .secondBoundary s (fun t =>
      t.stored k &&& k.pointMask .sec = s.written k &&& k.pointMask .sec ∧ t.written k &&& k.pointMask .sec = s.written k &&& k.pointMask .sec)) ∧
  (∀ s : State, s.Up → s.isReady Rdy.tcore = true → s.tcore.steps = [] →
    Gives .secondBoundary s (fun t =>
      t.clk.tcA = (s.clk.shift s.toBoundary).tcA ∧ t.clk.tcB = (s.clk.shift s.toBoundary).tcB ∧
      t.clk.secDone = max (s.tod / unitsPerS) s.clk.secDone + 1 ∧
      t.clk.active = (if s.tcore.swapPend.any (fun x => decide (x ≤ (max (s.tod / unitsPerS) s.clk.secDone + 1) * unitsPerS))
        then !s.clk.active else s.clk.active))) ∧
  (∀ (s : State) (d : CmdDesc) (set : Bool), s.Up → s.isReady Rdy.tcore = true → s.tcore.steps = [⟨d, set⟩] → (set = false → d.toRef = false) →
    Gives .secondBoundary s (fun t =>
      t.tcore.steps = [] ∧
      (set = true → t.clk.tcA = d.arg 12 6 * unitsPerS ∧ t.clk.tcB = d.arg 12 6 * unitsPerS ∧
        Completed d 0xB002 .ok 0 (leBytes (secOf (d.arg 12 6 * unitsPerS)) 6) t) ∧
      (set = false →
        t.clk.tcA = ((s.clk.shift s.toBoundary).shift (d.argI 12 8 * (unitsPerFrac : Int))).tcA ∧
        t.clk.tcB = ((s.clk.shift s.toBoundary).shift (d.argI 12 8 * (unitsPerFrac : Int))).tcB ∧
        Completed d 0xB001 .ok 0 (t.stepBytes (d.argI 12 8)) t)))

/-- R209 to R214: the standby core tracks within 5 ps, a swap is requested by an unlocked path once the standby is eligible, and a fault
of the active core hands over to a standby that tracks. -/
def Obligations.StandbyAndSwap : Prop :=
  (∀ (s : State) (err : Int), s.Up → s.tcore.stbyIn = true → err.natAbs ≤ 5 → s.tcore.track = false →
    Gives (.standbyTrackAcquired err) s (fun t =>
      t.tcore = { s.tcore with track := true, trackS := 0, trackWhole := false, trackErr := some err } ∧
      t.tod = s.tod ∧ t.standbyTod = ((s.tod : Int) + err * (unitsPerPs : Int)).toNat ∧ Touches [.clk, .tcore, .cal] s t)) ∧
  (∀ (s : State) (err : Int), s.Up → s.tcore.stbyIn = true → err.natAbs ≤ 5 → s.tcore.track = true →
    Gives (.standbyTrackAcquired err) s (fun t =>
      t.tcore = { s.tcore with trackErr := some err } ∧ t.tod = s.tod ∧
      t.standbyTod = ((s.tod : Int) + err * (unitsPerPs : Int)).toNat ∧ Touches [.clk, .tcore, .cal] s t)) ∧
  (∀ (s : State) (err : Int), s.Up → s.tcore.stbyIn = true → 5 < err.natAbs →
    Gives (.standbyTrackLoss err) s (fun t =>
      t.tcore = { s.tcore with track := false, trackS := 0, trackWhole := false, trackErr := some err, swapPend := none } ∧
      t.tod = s.tod ∧ Touches (evtParts ++ [Part.clk, .tcore, .cal]) s t)) ∧
  (∀ s : State, s.Up → s.tcore.stbyIn = true → s.tcore.track = true →
    Gives .coreFault s (fun t =>
      t.clk.active = !s.clk.active ∧ t.clk.tcA = s.clk.tcA ∧ t.clk.tcB = s.clk.tcB ∧ t.tcore.stbyIn = false ∧
      t.tcore.track = false ∧ t.tcore.swapPend = none ∧ Touches (evtParts ++ [Part.clk, .fab, .tcore, .pll]) s t)) ∧
  (∀ s : State, s.Up → (s.tcore.stbyIn && s.tcore.track) = false →
    Gives .coreFault s (fun t => t.evt = (s.raise Ev.tcoreFault (b2n s.clk.active) 0).evt ∧ Touches evtParts s t)) ∧
  (∀ (s : State) (p : Path), s.Up → p.wf = true → s.Writable ⟨.tcoreSwap, 0, 0⟩ → s.unlocked p = true → s.tcore.stbyIn = true →
    s.tcore.swapPend = none → 60 ≤ s.tcore.trackS →
    Gives (.swapReq p) s (fun t =>
      t.tcore = { s.tcore with swapPend := some (s.tod + msUnits) } ∧ (t.key p).unlocked = false ∧
      Touches [.keys, .regs, .tcore] s t)) ∧
  (∀ (s : State) (p : Path), s.Up → p.wf = true → s.Writable ⟨.tcoreSwap, 0, 0⟩ → s.unlocked p = true →
    (s.tcore.stbyIn = false ∨ s.tcore.swapPend ≠ none ∨ s.tcore.trackS < 60) →
    Gives (.swapReq p) s (fun t =>
      t.evt = (s.raise Ev.tcoreSwapRefused (if s.tcore.stbyIn = false then 2 else if s.tcore.swapPend ≠ none then 3 else 1)).evt ∧
      t.tcore = s.tcore ∧ (t.key p).unlocked = false ∧ Touches (evtParts ++ [Part.keys, .regs]) s t)) ∧
  (∀ (s : State) (p : Path), s.Up → p.wf = true → s.Writable ⟨.tcoreSwap, 0, 0⟩ → s.unlocked p = true → s.tcore.swapPend ≠ none →
    Gives (.swapCancel p) s (fun t =>
      t.tcore = { s.tcore with swapPend := none } ∧ (t.key p).unlocked = false ∧ Touches [.keys, .regs, .tcore] s t)) ∧
  (∀ (s : State) (p : Path), s.Up → p.wf = true → s.Writable ⟨.tcoreSwap, 0, 0⟩ → s.unlocked p = true →
    Gives (.stbyOut p) s (fun t =>
      t.tcore = { s.tcore with stbyIn := false, track := false, trackErr := none, trackS := 0, trackWhole := false, swapPend := none } ∧
      (s.tcore.swapPend ≠ none → t.evt = (s.raise Ev.tcoreSwapRefused 1).evt) ∧
      (t.key p).unlocked = false ∧ Touches (evtParts ++ [Part.keys, .regs, .tcore]) s t)) ∧
  (∀ (s : State) (p : Path), s.Up → p.wf = true → s.Writable ⟨.tcoreSwap, 0, 0⟩ → s.unlocked p = true → s.tcore.stbyIn = false →
    Gives (.stbyIn p) s (fun t =>
      t.tcore = { s.tcore with stbyIn := true, track := false, trackErr := some 0, trackS := 0, trackWhole := false } ∧
      t.tod = s.tod ∧ t.standbyTod = s.tod ∧ (t.key p).unlocked = false ∧ Touches [.clk, .keys, .regs, .tcore] s t)) ∧
  (∀ (s : State) (p : Path) (c : Instr), s.Up → p.wf = true → s.Writable ⟨.tcoreSwap, 0, 0⟩ → s.unlocked p = false →
    (c = .swapReq p ∨ c = .swapCancel p ∨ c = .stbyOut p ∨ c = .stbyIn p) →
    Gives c s (fun t =>
      t.evt = (s.raise Ev.sysKeyReject (RegKey.addr ⟨.tcoreSwap, 0, 0⟩)).evt ∧ Touches evtParts s t))

/-- R36, R37, R46 to R48, R50: a write of a persistent word on an unlocked path is stored, counted and busy until its store ends; an
equal value stores nothing, a worn word and a busy one are refused, a locked path is ignored, and so is I²C. R417, R419, R420: a
suppression whose window has passed ends and is raised, never itself suppressed; EVT_CTRL clears FAULT_N, the first-fault record and the
log, each alone. -/
def Obligations.PersistentWordsAndEventControl : Prop :=
  (∀ (s : State) (p : Path) (w : Nat) (v : Word), s.Up → p.wf = true → w < 512 → p ≠ .i2c → s.unlocked p = true →
    Gives (.persWordWrite p w v) s (fun t =>
      (s.persStatus w v = .ok → t.pers! w = v ∧ (s.pers! w ≠ v → t.wear w = s.wear w + 1 ∧ t.persBusy w = true) ∧
        (s.pers! w = v → t.wear w = s.wear w ∧ t.persBusy w = s.persBusy w)) ∧
      (s.persStatus w v ≠ .ok → t.pers! w = s.pers! w ∧ t.wear w = s.wear w) ∧
      (s.persStatus w v = .wearOut → t.evt = (s.raise Ev.persWearLimit (persAddr w) (s.wear w)).evt) ∧
      (s.persStatus w v = .busy → t.evt = (s.raise Ev.persWriteRefused (persAddr w) Status.busy.code).evt) ∧
      (∀ x, x ≠ w → t.pers! x = s.pers! x ∧ t.wear x = s.wear x ∧ t.persBusy x = s.persBusy x) ∧
      Tab.find t.pers.last p = some (w, s.persStatus w v) ∧
      (t.key p).unlocked = false ∧ Touches (evtParts ++ [Part.keys, .pers]) s t)) ∧
  (∀ (s : State) (p : Path) (w : Nat) (v : Word), s.Up → p.wf = true → w < 512 → p ≠ .i2c → s.unlocked p = false →
    Gives (.persWordWrite p w v) s (fun t =>
      t.evt = (s.raise Ev.sysKeyReject (persAddr w)).evt ∧ (∀ x, t.pers! x = s.pers! x ∧ t.wear x = s.wear x ∧ t.persBusy x = s.persBusy x) ∧
      Tab.find t.pers.last p = some (w, .locked) ∧ Touches (.pers :: evtParts) s t)) ∧
  (∀ (s : State) (w : Nat) (v : Word), s.Up → w < 512 → Gives (.persWordWrite .i2c w v) s (fun t => Touches [] s t)) ∧
  (∀ (s : State) (w : Nat), s.Up → w < 512 →
    Gives (.persStoreDone w) s (fun t =>
      t.persBusy w = false ∧ (∀ x, t.pers! x = s.pers! x ∧ t.wear x = s.wear x) ∧ (∀ x, x ≠ w → t.persBusy x = s.persBusy x) ∧
      Touches [.pers] s t)) ∧
  (∀ (s : State) (code arg0 : Nat), s.Up → Instr.wf (.evtSuppressWindow code arg0) = true →
    Gives (.evtSuppressWindow code arg0) s (fun t =>
      (s.evt.sup.find? (fun r => r.code == code && r.arg0 == arg0) = none → t.evt = s.evt) ∧
      (∀ r, s.evt.sup.find? (fun r => r.code == code && r.arg0 == arg0) = some r →
        t.evt.sup = s.evt.sup.filter (fun x => !(x.code == code && x.arg0 == arg0)) ∧
        (r.active = false → t.evt = { s.evt with sup := s.evt.sup.filter (fun x => !(x.code == code && x.arg0 == arg0)) }) ∧
        (r.active = true → t.evt = (({ s with evt := { s.evt with
          sup := s.evt.sup.filter (fun x => !(x.code == code && x.arg0 == arg0)) } } : State).emit Ev.evtSuppress (code % 2 ^ 32)
            (arg0 % 2 ^ 32) r.total).evt)) ∧
      Touches evtParts s t)) ∧
  (∀ (s : State) (p : Path), s.Up → p.wf = true → s.Writable ⟨.evtCtrl, 0, 0⟩ →
    Gives (.faultClr p) s (fun t => t.evt = { s.evt with faultN := false } ∧ Touches [.evt] s t)) ∧
  (∀ (s : State) (p : Path), s.Up → p.wf = true → s.Writable ⟨.evtCtrl, 0, 0⟩ →
    Gives (.firstClr p) s (fun t => t.evt = { s.evt with first := none } ∧ Touches [.evt] s t)) ∧
  (∀ (s : State) (p : Path), s.Up → p.wf = true → s.Writable ⟨.evtCtrl, 0, 0⟩ →
    Gives (.logClr p) s (fun t => t.evt = { s.evt with log := [] } ∧ Touches [.evt] s t))

/-- R178, R218, R222 to R225, R228, R230, R238, R239: a message of this part is discarded; a claimed one goes to its channel's engine: a
master keeps a Delay_Req for its answer, a slave that listens notes the Sync with its latch, and the Announce with what it carries; a
send counts and leaves with its latch and what it says, a Delay_Req opens an exchange, a Delay_Resp answers the oldest Delay_Req. -/
def Obligations.TimingMessages : Prop :=
  (∀ (s : State) (f : Nat) (m : PtpMsg) (fr : Frame), s.Up → Instr.wf (.ptpMessageReceive f m) = true → s.frame? f = some fr →
    fr.decided = false → fr.toEngine = false → fr.port = m.port → (s.fdbState m.port = 0 ∨ fr.h.linkLocal = true) → m.own = true →
    Gives (.ptpMessageReceive f m) s (fun t =>
      t.count Fld.fdbPtpDisc_VAL = s.counted Fld.fdbPtpDisc_VAL ∧ t.frame? f = some { fr with toEngine := true } ∧
      (∀ g, g ≠ f → t.frame? g = s.frame? g) ∧ Touches [.fab, .rc .fdbPtpDisc] s t)) ∧
  (∀ (s : State) (f i e : Nat) (m : PtpMsg) (fr : Frame), s.Up → Instr.wf (.ptpMessageReceive f m) = true → s.frame? f = some fr →
    fr.decided = false → fr.toEngine = false → fr.port = m.port → (s.fdbState m.port = 0 ∨ fr.h.linkLocal = true) → m.own = false →
    s.claim m = some i → (s.obj .tchan i).phase = .active → (s.tchan i).engine = some e → s.engRuns e = true →
    s.overRate i m.kind = false →
    ((s.tchan i).role = 0 ∨ (m.kind = 0 ∧ (s.tchan i).state = .listening) ∨
      (m.kind = 11 ∧ (s.tchan i).state = .listening ∧ s.taskHeld 3 = false)) →
    Gives (.ptpMessageReceive f m) s (fun t =>
      t.frame? f = some { fr with toEngine := true } ∧
      (t.tchan i).rx = satAdd 32 (s.tchan i).rx 1 ∧ (t.tchan i).dst = fr.h.dst ∧ (t.tchan i).state = (s.tchan i).state ∧
      (t.tchan i).tx = (s.tchan i).tx ∧
      ((s.tchan i).role = 0 → m.kind = 1 → (t.tchan i).asks = (s.tchan i).asks ++
        [{ srcPort := m.srcPort, seq := m.seq, corr := fr.h.ptpCorr, ns := totalNs fr.tod, frac := fracOf fr.tod, refined := fr.refined }]) ∧
      ((s.tchan i).role ≠ 0 → m.kind = 0 → (t.tchan i).heardSync = true ∧ (t.tchan i).syncSrc = some m.srcPort ∧
        (fr.h.ptpTwoStep = false → (t.tchan i).sync = some (m.syncRx fr))) ∧
      ((s.tchan i).role ≠ 0 → m.kind = 11 → (t.tchan i).heardAnnounce = true ∧ (t.tchan i).cls = m.cls ∧ (t.tchan i).acc = m.acc ∧
        (t.tchan i).var = m.var ∧ (t.tchan i).steps = m.steps ∧ (t.tchan i).gm = m.gm) ∧
      (∀ j, j ≠ i → t.tchan j = s.tchan j) ∧ Touches (evtParts ++ [Part.fab, .tchans, .lnk, .tic, .cal, .rc .calAbortCnt]) s t)) ∧
  (∀ (s : State) (f i : Nat) (m : PtpMsg) (fr : Frame), s.Up → Instr.wf (.ptpMessageReceive f m) = true → s.frame? f = some fr →
    fr.decided = false → fr.toEngine = false → fr.port = m.port → (s.fdbState m.port = 0 ∨ fr.h.linkLocal = true) → m.own = false →
    s.claim m = some i → (s.obj .tchan i).phase = .suspended →
    Gives (.ptpMessageReceive f m) s (fun t =>
      t.frame? f = some { fr with toEngine := true } ∧ Touches [.fab] s t)) ∧
  (∀ (s : State) (f : Nat) (m : PtpMsg) (fr : Frame), s.Up → Instr.wf (.ptpMessageReceive f m) = true → s.frame? f = some fr →
    ((s.fdbState m.port ≠ 0 ∧ fr.h.linkLocal = false) ∨ (m.own = false ∧ s.claim m = none)) →
    Gives (.ptpMessageReceive f m) s (fun t => Touches [] s t)) ∧
  (∀ (s : State) (i : Nat) (m : ChanSend), s.Up → Instr.wf (.tchanSend i m) = true → s.chanSends i m.kind = true →
    Gives (.tchanSend i m) s (fun t =>
      (t.tchan i).tx = satAdd 32 (s.tchan i).tx 1 ∧ (t.tchan i).state = (s.tchan i).state ∧
      (t.tchan i).last = some (s.prio2Out (s.chanMsg i m.kind (s.latchAt (s.obj .tchan i).chanPort false m.marker).2.1
        (s.latchAt (s.obj .tchan i).chanPort false m.marker).2.2)) ∧
      (t.tchan i).outstanding = ((s.tchan i).outstanding || m.kind == 1) ∧
      (t.tchan i).asks = (if m.kind = 9 then (s.tchan i).asks.tail else (s.tchan i).asks) ∧
      (∀ j, j ≠ i → t.tchan j = s.tchan j) ∧
      (∃ q, Tab.find t.tcore.ports (s.obj .tchan i).chanPort = some q ∧
        q.lastOut = s.tsAt (s.latchAt (s.obj .tchan i).chanPort false m.marker).2.1 ∧
        q.tx = satAdd 32 (s.portPtp (s.obj .tchan i).chanPort).tx (if m.kind < 4 then 1 else 0)) ∧
      Touches (evtParts ++ [Part.tcore, .tchans, .lnk, .tic, .cal, .rc .calAbortCnt, .rc .lnkSnapErr]) s t))

/-- R205, R224, R225, R258, R341: the first slave channel to qualify is selected, and a part in FREERUN begins to acquire; a channel
that times out is LOST, and with it the only reference, so that a locked part holds over; an unplaced channel is placed again. R234,
R235, R247: a phase update of a lane whose clock is not a few ppm away counts as calm within 10 ps, as a slip beyond 800 ps, and ends Φ
when it is; a pair's hold ends when it expires. -/
def Obligations.TimingChannelsAndPhases : Prop :=
  (∀ (s : State) (i : Nat), s.Up → i < 4096 → (s.obj? .tchan i).isSome = true → (s.obj .tchan i).phase = .active →
    (s.tchan i).state = .listening → (s.tchan i).heardAnnounce = true → (s.tchan i).heardSync = true → (s.tchan i).role = 1 →
    s.candEn (s.chanId i) = true → s.timeRankOk (s.chanId i) = true → s.candPrio (s.chanId i) ≠ 15 →
    s.ref.tsel = none → s.ref.fsel = none → s.ref.stepPend = none → s.ref.selDue = false → (∀ id, s.candUsable id = false) →
    s.pair.follow = false → s.tcore.tstate = .freerun → s.apB Fld.tcoreCtrl_SERVO_EN = true →
    Gives (.tchanQualify i) s (fun t =>
      (t.tchan i).state = .selected ∧ (t.cand (s.chanId i)).st = .selected ∧ t.ref.tsel = some (s.chanId i) ∧ t.ref.fsel = none ∧
      t.ref.bias = 0 ∧ t.tcore.tstate = .acquire ∧ (∀ j, j ≠ i → t.tchan j = s.tchan j) ∧
      Touches (refParts ++ [Part.tchans, .eng]) s t)) ∧
  (∀ (s : State) (i : Nat), s.Up → i < 4096 → (s.obj? .tchan i).isSome = true →
    ((s.tchan i).state = .listening ∨ (s.tchan i).state = .qualified) → (s.cand (s.chanId i)).st = .disabled →
    Gives (.tchanTimeout i) s (fun t =>
      t.tchan i = { s.tchan i with state := .lost } ∧ t.ref.tsel = s.ref.tsel ∧ t.ref.fsel = s.ref.fsel ∧
      (∀ j, j ≠ i → t.tchan j = s.tchan j) ∧ Touches (evtParts ++ [Part.tchans, .ref]) s t)) ∧
  (∀ (s : State) (i : Nat), s.Up → i < 4096 → (s.obj? .tchan i).isSome = true → (s.tchan i).state = .selected →
    s.ref.tsel = some (s.chanId i) → (s.cand (s.chanId i)).st = .selected → s.ref.fsel = none → s.ref.stepPend = none →
    s.ref.selDue = false → (∀ id, id ≠ s.chanId i → s.candUsable id = false) → s.pair.follow = false → s.tcore.tstate = .locked →
    s.apB Fld.tcoreCtrl_SERVO_EN = true →
    Gives (.tchanTimeout i) s (fun t =>
      t.tchan i = { s.tchan i with state := .lost } ∧ (t.cand (s.chanId i)).st = .failed ∧ t.ref.tsel = none ∧
      t.tcore.tstate = .holdover ∧ t.ref.ep.isSome = true ∧ (∀ j, j ≠ i → t.tchan j = s.tchan j) ∧
      Touches (refParts ++ [Part.tchans, .eng]) s t)) ∧
  (∀ (s : State) (i e : Nat), s.Up → (s.inUse .tchan).filter (fun i => (s.tchan i).engine.isNone) = [i] →
    s.placeFor i ((s.obj .tchan i).chanLoad (s.tchan i).role) = some e →
    Gives .tchanPlaceRetry s (fun t =>
      (t.tchan i).engine = some e ∧ ((s.tchan i).role = 0 → (t.tchan i).state = .sending) ∧
      ((s.tchan i).role ≠ 0 → (t.tchan i).state = (s.tchan i).state) ∧ (∀ j, j ≠ i → t.tchan j = s.tchan j) ∧
      Touches (evtParts ++ [Part.tchans]) s t)) ∧
  (∀ (s : State) (p : Nat) (phi old : Int), s.Up → p < 96 → (s.lnkPort p).phi = some old → (s.lnkPort p).fresh = false →
    s.lnkOff p = false → (s.lnkPort p).st ≠ .active → (phi - old).natAbs ≤ 1600 →
    Gives (.lnkPhaseUpdate p phi true) s (fun t =>
      (t.lnkPort p).phi = some phi ∧
      (t.lnkPort p).calm = (if (phi - old).natAbs ≤ 20 then min 16 ((s.lnkPort p).calm + 1) else 0) ∧
      (∀ q, q ≠ p → t.lnkPort q = s.lnkPort q) ∧ Touches (evtParts ++ [Part.lnk]) s t)) ∧
  (∀ (s : State) (p : Nat) (phi old : Int), s.Up → p < 96 → (s.lnkPort p).phi = some old → (s.lnkPort p).fresh = false →
    1600 < (phi - old).natAbs →
    Gives (.lnkPhaseUpdate p phi true) s (fun t =>
      (t.lnkPort p).phi = some phi ∧ t.count Fld.lnkSlipCnt_VAL p = s.counted Fld.lnkSlipCnt_VAL p ∧
      (t.lnkPort p).st = (if (s.lnkPort p).st = .active then .tracking else (s.lnkPort p).st) ∧
      (∀ q, q ≠ p → t.lnkPort q = s.lnkPort q) ∧ Touches (evtParts ++ [Part.lnk, .tchans, .tic, .cal, .rc .calAbortCnt, .rc .lnkSlipCnt]) s t)) ∧
  (∀ (s : State) (p : Nat) (phi : Int), s.Up → p < 96 →
    Gives (.lnkPhaseUpdate p phi false) s (fun t =>
      (t.lnkPort p).phi = none ∧ (∀ q, q ≠ p → t.lnkPort q = s.lnkPort q) ∧
      Touches (evtParts ++ [Part.lnk, .tchans, .tic, .cal, .rc .calAbortCnt]) s t)) ∧
  (∀ (s : State) (a : Nat), s.Up → a < 96 → (s.lnkPair a).hold = true →
    Gives (.lnkHoldExpire a) s (fun t =>
      t.lnkPair a = { s.lnkPair a with hold := false } ∧ (∀ q, q ≠ a → t.lnkPair q = s.lnkPair q) ∧
      t.lnk.ports = s.lnk.ports ∧ Touches (evtParts ++ [Part.lnk]) s t))

/-- R253 to R258, R271: a candidate: its first good sample begins its qualification and a bad one ends it, its qualification ends
selected when nothing else is, HOLDOFF and wait-to-restore end, and ESMC sets the rank of the lanes of its port, which ends a HOLDOFF
that the lack of it began. -/
def Obligations.Candidates : Prop :=
  (∀ (s : State) (id : Nat) (ppb off : Int), s.Up → id < 100 → s.candEn id = true → s.candAvail id = true →
    s.sampleCause id true ppb = 0 →
    (s.cand id).st = .absent →
    Gives (.refCandSample id true ppb off) s (fun t =>
      t.cand id = { s.cand id with st := .qualifying, cause := 0, failing := false, ppb := ppb, off := off
                                   samples := (s.cand id).samples + 1, pulses := 0, qsum := 0, qn := 0 } ∧
      (∀ j, j ≠ id → t.cand j = s.cand j) ∧ Touches (evtParts ++ [Part.ref]) s t)) ∧
  (∀ (s : State) (id : Nat) (ppb off : Int), s.Up → id < 100 → s.candEn id = true → s.candAvail id = true →
    (s.cand id).st = .qualified → s.Alone id →
    Gives (.refCandSample id false ppb off) s (fun t =>
      (t.cand id).st = .failed ∧ (t.cand id).cause = 1 ∧ (t.cand id).failing = true ∧ (t.cand id).ppb = ppb ∧
      t.ref.tsel = none ∧ t.ref.fsel = none ∧ (∀ j, j ≠ id → t.cand j = s.cand j) ∧
      Touches (evtParts ++ [Part.ref, .pll, .rc .pllCnt]) s t)) ∧
  (∀ (s : State) (id : Nat) (ppb off : Int), s.Up → id < 100 → s.candEn id = true → s.candAvail id = true →
    (s.cand id).st = .selected → s.ref.tsel ≠ some id → s.ap Fld.refCfg_HOLDOFF_MS ≠ 0 →
    Gives (.refCandSample id false ppb off) s (fun t =>
      (t.cand id).st = .holdoff ∧ (t.cand id).cause = 1 ∧ t.ref.fsel = s.ref.fsel ∧ t.ref.tsel = s.ref.tsel ∧
      (∀ j, j ≠ id → t.cand j = s.cand j) ∧ Touches (evtParts ++ [Part.ref, .pll, .rc .pllCnt]) s t)) ∧
  (∀ (s : State) (id : Nat), s.Up → id < 100 → (s.cand id).st = .qualifying → (s.cand id).failing = false → s.standingCause id = 0 →
    s.candPrio id ≠ 15 → s.Alone id →
    Gives (.refQualTimer id) s (fun t =>
      (t.cand id).st = .selected ∧ t.ref.fsel = some id ∧ t.ref.tsel = none ∧ (∀ j, j ≠ id → t.cand j = s.cand j) ∧
      Touches (evtParts ++ [Part.ref, .tcore, .pair, .rc .pairMirOvf]) s t)) ∧
  (∀ (s : State) (id : Nat), s.Up → id < 100 → (s.cand id).st = .holdoff → s.ref.fsel = some id → s.ref.tsel = none →
    s.ref.stepPend = none → (∀ j, j ≠ id → s.candUsable j = false) →
    Gives (.refHoldoffExpire id) s (fun t =>
      (t.cand id).st = .failed ∧ (t.cand id).cause = (s.cand id).cause ∧ t.ref.fsel = none ∧ t.ref.tsel = none ∧
      (∀ j, j ≠ id → t.cand j = s.cand j) ∧ Touches (evtParts ++ [Part.clk, .ref, .tcore, .pair, .rc .pairMirOvf]) s t)) ∧
  (∀ (s : State) (id : Nat), s.Up → id < 100 → (s.cand id).st = .failed → (s.cand id).failing = false → s.candAvail id = true →
    s.standingCause id = 0 →
    Gives (.refWtrExpire id) s (fun t =>
      t.cand id = { s.cand id with st := .qualifying, cause := 0, pulses := 0, qsum := 0, qn := 0 } ∧
      (∀ j, j ≠ id → t.cand j = s.cand j) ∧ Touches (evtParts ++ [Part.ref]) s t)) ∧
  (∀ (s : State) (p ssm : Nat) (essm : Option Nat), s.Up → p < 96 → ssm < 16 → (s.lane p).lock = true →
    (∀ n, n < 96 → s.portOfLane n = p → (s.cand n).st ≠ .qualifying ∧ (s.cand n).st ≠ .qualified ∧
      (s.cand n).st ≠ .selected ∧ (s.cand n).st ≠ .holdoff) →
    Gives (.esmcReceive p ssm essm) s (fun t =>
      Tab.find t.ref.esmc p = some (qrOfSsm ssm essm) ∧ (∀ q, q ≠ p → Tab.find t.ref.esmc q = Tab.find s.ref.esmc q) ∧
      t.ref.cands = s.ref.cands ∧ Touches (evtParts ++ [Part.ref, .tcore, .pair, .rc .pairMirOvf]) s t)) ∧
  (∀ (s : State) (p : Nat), s.Up → p < 96 → s.lanesOfPort p = [p] → (s.cand p).st = .qualified → s.Alone p →
    Gives (.esmcTimeout p) s (fun t =>
      Tab.find t.ref.esmc p = none ∧ (∀ q, q ≠ p → Tab.find t.ref.esmc q = Tab.find s.ref.esmc q) ∧
      (t.cand p).st = .failed ∧ (t.cand p).cause = 4 ∧ (∀ j, j ≠ p → t.cand j = s.cand j) ∧
      Touches (evtParts ++ [Part.ref, .tcore, .pll, .pair, .rc .pllCnt, .rc .pairMirOvf]) s t)) ∧
  (∀ (s : State) (p n : Nat) (ssm : Nat) (essm : Option Nat), s.Up → p < 96 → ssm < 16 → (s.lane p).lock = true →
    s.lanesOfPort p = [n] → s.ref.fsel = some n → (s.cand n).st = .holdoff → (s.cand n).cause = 4 → s.candOvr n = none →
    s.candUnitAbsent n = false → qrOfSsm ssm essm < 15 → qrOfSsm ssm essm ≤ s.ap Fld.refQlCfg_F_QL_MIN →
    Gives (.esmcReceive p ssm essm) s (fun t =>
      (t.cand n).st = .selected ∧ t.ref.fsel = some n ∧ t.count Fld.refHoldoffCnt_VAL = s.counted Fld.refHoldoffCnt_VAL ∧
      (∀ j, j ≠ n → t.cand j = s.cand j) ∧
      Touches (evtParts ++ [Part.ref, .tcore, .pair, .rc .refHoldoffCnt, .rc .pairMirOvf]) s t)) ∧
  (∀ (s : State) (p : Nat), s.Up → p < 96 →
    Gives (.esmcSend p) s (fun t =>
      t.ref = (if s.apB Fld.laneCtrl_REF_EN p && (s.lane p).lock then { s.ref with
        esmcTx := Tab.set s.ref.esmcTx p ((Tab.get (0, 6) s.ref.esmcTx p).1 + 1, s.esmcQr p) } else s.ref) ∧ Touches [.ref] s t)) ∧
  (∀ (s : State) (n i : Nat) (off x : Int), s.Up → n < 2 → x = modSecond (off + psToFrac (s.apI Fld.refInOfs_VAL (100 + n))) →
    (s.cand (100 + n)).st = .qualifying → (s.cand (100 + n)).pulses < 15 →
    s.candEn (100 + n) = true → s.ref.tsel ≠ some (100 + n) → s.ref.stepPend = none → ((i : Int) - 1000000000).natAbs ≤ 10000 → s.standingCause (100 + n) = 0 →
    Gives (.ppsInEdge n i off) s (fun t =>
      t.cand (100 + n) = { s.cand (100 + n) with
        failing := false, pulses := (s.cand (100 + n)).pulses + 1, off := x, samples := (s.cand (100 + n)).samples + 1
        last := (x :: (s.cand (100 + n)).last).take 16, qsum := (s.cand (100 + n)).qsum + x, qn := (s.cand (100 + n)).qn + 1 } ∧
      (∀ j, j ≠ 100 + n → t.cand j = s.cand j) ∧ Touches [.ref] s t)) ∧
  (∀ (s : State) (n i : Nat) (off : Int), s.Up → n < 2 → (s.cand (100 + n)).st = .qualifying → s.candEn (100 + n) = true →
    s.Alone (100 + n) →
    Gives (.ppsInTimeout n) s (fun t =>
      (t.cand (100 + n)).st = .failed ∧ (t.cand (100 + n)).cause = 1 ∧ t.ref.tsel = none ∧ Touches (evtParts ++ [Part.ref]) s t) ∧
    (10000 < ((i : Int) - 1000000000).natAbs → Gives (.ppsInEdge n i off) s (fun t =>
      (t.cand (100 + n)).st = .failed ∧ (t.cand (100 + n)).cause = 8 ∧ t.ref.tsel = none ∧ Touches (evtParts ++ [Part.ref]) s t)))

/-- R253, R258, R261 to R265, R267, R273: a second of holdover adds to the error, the model learns, the temperature goes stale, and what
the writes and commands of REF set. -/
def Obligations.HoldoverAndRefCommands : Prop :=
  (∀ (s : State) (temp : Int) (e : Episode) (s' : State), s.Up → s.tcore.tstate = .holdover → s.pair.follow = false →
    s.ref.ep = some e → s' = { s with ref := { s.ref with dieTemp := temp } } →
    Gives (.holdoverTick temp) s (fun t =>
      t.ref.ep = some { e with e := e.e + s'.hoSlope e, t := e.t + 1, stage := s'.hoStage (e.t + 1) } ∧
      t.ref.budgetOver = (s.ref.budgetOver || decide (s.ap Fld.refHoCfg_BUDGET * 172800000 < e.e + s'.hoSlope e)) ∧
      t.ref.dieTemp = temp ∧ t.clk.tcA = s.clk.tcA ∧ t.clk.tcB = s.clk.tcB ∧
      Touches (evtParts ++ [Part.clk, .ref, .tcore, .pair, .pwr, .rc .pairMirOvf, .rc .pwrWakeSrc]) s t)) ∧
  (∀ (s : State) (temp : Int), s.Up → s.tcore.tstate ≠ .holdover →
    Gives (.holdoverTick temp) s (fun t => t.ref = { s.ref with dieTemp := temp } ∧ Touches [.ref] s t)) ∧
  (∀ (s s' : State) (temp : Int), s.Up → s.apB Fld.refMdlCfg_TEMP_SRC = false → s.learning = true →
    s' = { s with ref := { s.ref with dieTemp := temp } } →
    Gives (.modelLearn temp) s (fun t =>
      t.ref = { s.ref with
        dieTemp := temp
        mdl := s'.learnStep (if s.ref.hist = [] then s.clk.rate else meanInt (s.ref.hist.map (fun x => x.1))) temp (secOf s.tod) } ∧
      Touches [.ref] s t)) ∧
  (∀ s : State, s.Up → s.apB Fld.refMdlCfg_TEMP_SRC = true →
    Gives .tempExtStale s (fun t => t.ref = { s.ref with tempStale := true } ∧ Touches (evtParts ++ [Part.ref]) s t)) ∧
  (∀ (s : State) (v : Word), s.Up → s.Writable ⟨.refTempExt, 0, 0⟩ →
    Gives (.refTempExtWrite v) s (fun t =>
      t.ap Fld.refTempExt_VAL = fieldOf v 0 16 ∧ t.ref = { s.ref with tempStale := false } ∧
      OtherRegs ⟨.refTempExt, 0, 0⟩ s t ∧ Touches [.regs, .ref] s t)) ∧
  (∀ (s : State) (freq : Bool) (v : Word) (k : RegKey), s.Up → k = ⟨if freq then .refPrefF else .refPrefT, 0, 0⟩ → s.Writable k →
    s.prefBad v.toNat = false → s.Alone noCand → s.candUsable noCand = false →
    Gives (.refPrefWrite freq v) s (fun t =>
      t.written k = v ∧ t.stored k = v ∧ t.ref.armF = (freq || s.ref.armF) ∧ t.ref.armT = (!freq || s.ref.armT) ∧
      OtherRegs k s t ∧ Touches [.regs, .ref] s t)) ∧
  (∀ (s : State) (freq : Bool) (v : Word) (k : RegKey), s.Up → k = ⟨if freq then .refPrefF else .refPrefT, 0, 0⟩ → s.Writable k →
    s.prefBad v.toNat = true →
    Gives (.refPrefWrite freq v) s (fun t =>
      t.stored k = s.stored k ∧ OtherRegs k s t ∧ Touches (evtParts ++ [Part.regs]) s t)) ∧
  (∀ (s : State) (d : CmdDesc), s.Up → d.wf = true →
    s.Accepts d 0xB801 { unitChecks d false .ref true [Rdy.ref] with
      absent := s.candUnitAbsent (d.arg 12 4)
      badForm := (unitChecks d false .ref true [Rdy.ref]).badForm || decide (4 ≤ d.arg 17 1) || !(d.zero 19 32)
      stale := candIsChan (d.arg 12 4) && s.stale .tchan (BitVec.ofNat 32 (d.arg 12 4))
      badArg := !(decide (d.arg 12 4 < 103) || candIsChan (d.arg 12 4)) || decide (15 < d.arg 16 1) || decide (15 < d.arg 18 1) } →
    (d.arg 12 4 < 103 → s.regs.stopped.contains ⟨.refCandCfg, d.arg 12 4, 0⟩ = false) →
    Gives (.refCandSet d) s (fun t =>
      t.candEn (d.arg 12 4) = bitAt (d.arg 17 1) 0 ∧ t.candPrio (d.arg 12 4) = d.arg 16 1 ∧
      t.candOvr (d.arg 12 4) = (if bitAt (d.arg 17 1) 1 then some (d.arg 18 1) else none) ∧
      Completed d 0xB801 .ok 0 (leBytes (t.cand (d.arg 12 4)).st.code 1 ++ leBytes (t.candQr (d.arg 12 4)) 1) t ∧
      Touches (refParts ++ cplParts ++ [Part.regs, .tchans, .eng, .rc .refHoldoffCnt]) s t)) ∧
  (∀ (s : State) (d : CmdDesc), s.Up → d.wf = true → s.Accepts d 0xB802 { unitChecks d false .ref true [Rdy.ref] with
      badForm := (unitChecks d false .ref true [Rdy.ref]).badForm || decide (2 ≤ d.arg 12 1) || !(d.zero 13 32)
      badArg := s.ref.stepPend.isNone && decide (s.ref.bias = 0) } → s.ref.stepPend = none →
    Gives (.refRealign d) s (fun t =>
      (bitAt (d.arg 12 1) 0 = false → t.ref = { s.ref with biasSlew := true } ∧ t.clk = s.clk ∧
        Completed d 0xB802 .ok 0 (leBytes (unsigned 64 s.ref.bias) 8) t) ∧
      (bitAt (d.arg 12 1) 0 = true → s.tcore.steps = [] → t.ref.bias = 0 ∧ t.ref.biasSlew = false ∧
        t.clk.tcA = (s.clk.shift (-s.ref.bias * (unitsPerFrac : Int))).tcA ∧
        t.clk.tcB = (s.clk.shift (-s.ref.bias * (unitsPerFrac : Int))).tcB ∧
        Completed d 0xB802 .ok 0 (leBytes (unsigned 64 s.ref.bias) 8) t) ∧
      (bitAt (d.arg 12 1) 0 = true → s.tcore.steps ≠ [] → t.ref = s.ref ∧ t.clk = s.clk ∧ Completed d 0xB802 .busy 0 [] t) ∧
      Touches commitParts s t)) ∧
  (∀ (s : State) (d : CmdDesc), s.Up → d.wf = true → s.Accepts d 0xB803 { unitChecks d false .ref true [Rdy.ref] with
      badForm := (unitChecks d false .ref true [Rdy.ref]).badForm || !(d.zero 12 32) } →
    Gives (.refMdlReset d) s (fun t =>
      t.ref = { s.ref with mdl := {} } ∧ Completed d 0xB803 .ok 0 [] t ∧ Touches (cplParts ++ [Part.ref]) s t))

/-- R278 to R281, R289: the states of the PLLs: acquisition, lock, bypass on a cause and on the loss of REF_CLK, and the return. R266,
R286, R287, R404: a PPS output that is enabled pulses, its edge at its due instant; a pulse that comes due while the last one stands, or
less than 1 µs after its end, is late and follows 1 µs after that end; under its squelch condition the output gives none. -/
def Obligations.PllStatesAndPpsOutputs : Prop :=
  (∀ (s : State) (x : Nat), s.Up → x < 4 →
    Gives (.pllFreqAcquired x) s (fun t =>
      ((s.pllOf x).st = .acq → t.pllOf x = { s.pllOf x with st := .phase }) ∧
      ((s.pllOf x).st = .bypass → (s.pllOf x).bg = .acq → t.pllOf x = { s.pllOf x with bg := .phase }) ∧
      ((s.pllOf x).st ≠ .acq → (s.pllOf x).st ≠ .bypass → t.pllOf x = s.pllOf x) ∧
      (∀ y, y ≠ x → t.pllOf y = s.pllOf y) ∧ Touches (evtParts ++ [Part.pll]) s t)) ∧
  (∀ (s : State) (x : Nat) (e : Int), s.Up → x < 4 →
    Gives (.pllLock x e) s (fun t =>
      ((s.pllOf x).st = .phase → t.pllOf x = { s.pllOf x with st := .locked, phErr := e, alignDue := true } ∧
        (x = 0 → t.isReady Rdy.tcore = true ∧ t.pll.ltx = [])) ∧
      ((s.pllOf x).st = .bypass → (s.pllOf x).bg = .phase → t.pllOf x = { s.pllOf x with bg := .locked, phErr := e }) ∧
      ((s.pllOf x).st ≠ .phase ∨ x ≠ 0 ∨ s.isReady Rdy.tcore = true →
        (∀ y, y ≠ x → t.pllOf y = s.pllOf y) ∧ Touches (evtParts ++ [Part.pll]) s t) ∧
      Touches (refParts ++ [Part.ready, .gnss, .tchans, .eng]) s t)) ∧
  (∀ (s : State) (x cause : Nat) (e : Int), s.Up → Instr.wf (.pllBypassEntry x cause e) = true →
    Gives (.pllBypassEntry x cause e) s (fun t =>
      ((s.pllOf x).st = .locked →
        t.pllOf x = { s.pllOf x with
          st := .bypass, cause := cause, phErr := e, bg := .acq, bypOsc := !s.pll.refclkOk || cause == 3, bypAt := s.clk.now
          alignDue := false
          ramp := (s.pllOf x).ramp.suspend s.clk.now (s.rampX x) } ∧
        t.count Fld.pllCnt_BYP x = s.counted Fld.pllCnt_BYP x ∧
        t.count Fld.pllCnt_UNLOCK x = s.counted Fld.pllCnt_UNLOCK x (b2n (cause == 2)) ∧
        (x = 0 → ∀ p, p < 96 → (t.lnkPort p).phi = none)) ∧
      ((s.pllOf x).st = .bypass → t.pllOf x = { s.pllOf x with bg := .acq, phErr := e, bypOsc := (s.pllOf x).bypOsc || cause == 3 }) ∧
      (∀ y, y ≠ x → t.pllOf y = s.pllOf y) ∧ (x = 1 ∨ x = 2 → Touches (evtParts ++ [Part.pll, .rc .pllCnt]) s t) ∧
      Touches (bypParts ++ [Part.eng, .rc .pllCnt]) s t)) ∧
  (∀ s : State, s.Up → s.pll.refclkOk = true →
    Gives .refclkLoss s (fun t =>
      t.pll.refclkOk = false ∧
      (∀ x, x < 4 → (s.pllOf x).st = .locked → (t.pllOf x).st = .bypass ∧ (t.pllOf x).cause = 3 ∧ (t.pllOf x).bypOsc = true) ∧
      (∀ x, x < 4 → (s.pllOf x).st = .bypass → t.pllOf x = { s.pllOf x with bypOsc := true, bg := .acq }) ∧
      (∀ x, (s.pllOf x).st ≠ .locked → (s.pllOf x).st ≠ .bypass → t.pllOf x = s.pllOf x) ∧
      Touches (bypParts ++ [Part.eng, .rc .pllCnt]) s t)) ∧
  (∀ s : State, s.Up →
    Gives .refclkReturn s (fun t =>
      t.pll.refclkOk = true ∧ (∀ x, x < 4 → t.pllOf x = { s.pllOf x with bypOsc := false }) ∧ Touches [.pll] s t)) ∧
  (∀ (s : State) (x : Nat) (d : CmdDesc), s.Up → x < 4 → d.wf = true → (s.pllOf x).st = .bypass → (s.pllOf x).bg = .locked →
    (s.apB Fld.pllCfg_AUTO_RET x = true → s.pllInput x = true → Gives (.pllAutoReturn x) s (fun t =>
      t.pllOf x = { s.pllOf x with
        st := .locked, bg := .off, bypOsc := false, bypPs := (s.pllOf x).bypPs + (s.clk.now - (s.pllOf x).bypAt), aligned := false
        ramp := (s.pllOf x).ramp.resume s.clk.now } ∧
      (∀ y, y ≠ x → t.pllOf y = s.pllOf y) ∧ Touches (bypParts ++ [Part.free, .eng]) s t)) ∧
    (d.arg 12 1 = x → s.Accepts d 0xBA04 { unitChecks d false .pll true [Rdy.pll] with
        badForm := d.badForm false || decide (d.handle ≠ 0) || !(d.zero 13 32), badArg := decide (3 < d.arg 12 1) } →
      Gives (.pllReturn d) s (fun t =>
        (t.pllOf x).st = .locked ∧ (t.pllOf x).bg = .off ∧ (t.pllOf x).aligned = false ∧ Completed d 0xBA04 .ok 0 [] t ∧
        (∀ y, y ≠ x → t.pllOf y = s.pllOf y) ∧ Touches (bypParts ++ cplParts ++ [Part.free, .eng]) s t))) ∧
  (∀ (s : State) (d : CmdDesc), s.Up → d.wf = true → s.Accepts d 0xBA04 { unitChecks d false .pll true [Rdy.pll] with
      badForm := d.badForm false || decide (d.handle ≠ 0) || !(d.zero 13 32), badArg := decide (3 < d.arg 12 1) } →
    ¬ ((s.pllOf (d.arg 12 1)).st = .bypass ∧ (s.pllOf (d.arg 12 1)).bg = .locked) →
    Gives (.pllReturn d) s (fun t => Completed d 0xBA04 .notReady 0 [] t ∧ Touches cplParts s t)) ∧
  (∀ (s : State) (j : Nat), s.Up → j < 2 →
    Gives (.ppsOutPulse j) s (fun t =>
      (s.apB Fld.pllPpsCfg_EN j = false → t.ppsOut j = s.ppsOut j) ∧
      (s.apB Fld.pllPpsCfg_EN j = true → (s.ppsOut j).squelched || s.squelchCond j = true →
        t.ppsOut j = { s.ppsOut j with squelched := true }) ∧
      (s.apB Fld.pllPpsCfg_EN j = true → s.squelchCond j = false → (s.ppsOut j).squelched = false → (s.ppsOut j).high = true →
        t.ppsOut j = { s.ppsOut j with due := true } ∧ t.count Fld.pllPpsLate_VAL j = s.counted Fld.pllPpsLate_VAL j) ∧
      (s.apB Fld.pllPpsCfg_EN j = true → s.squelchCond j = false → (s.ppsOut j).squelched = false → (s.ppsOut j).high = false →
        (∀ e, (s.ppsOut j).ended = some e → e + 10 ^ 6 ≤ s.clk.now) →
        t.ppsOut j = { s.ppsOut j with high := true, due := false, edge := s.ppsDue j, widthUs := s.ppsWidth j } ∧
        t.count Fld.pllPpsLate_VAL j = s.count Fld.pllPpsLate_VAL j) ∧
      (∀ e, s.apB Fld.pllPpsCfg_EN j = true → s.squelchCond j = false → (s.ppsOut j).squelched = false → (s.ppsOut j).high = false →
        (s.ppsOut j).ended = some e → s.clk.now < e + 10 ^ 6 →
        t.ppsOut j = { s.ppsOut j with
          high := true, due := false, edge := (s.tod : Int) + ((e + 10 ^ 6 - s.clk.now) * unitsPerPs : Nat)
          widthUs := s.ppsWidth j } ∧
        t.count Fld.pllPpsLate_VAL j = s.counted Fld.pllPpsLate_VAL j) ∧
      (∀ i, i ≠ j → t.ppsOut i = s.ppsOut i) ∧ Touches [.pll, .rc .pllPpsLate] s t)) ∧
  (∀ (s : State) (j : Nat), s.Up → j < 2 → (s.ppsOut j).high = true →
    Gives (.ppsPulseEnd j) s (fun t =>
      ((s.ppsOut j).due = false → t.ppsOut j = { s.ppsOut j with high := false, ended := some s.clk.now }) ∧
      ((s.ppsOut j).due = true → t.ppsOut j = { s.ppsOut j with
        high := true, due := false, ended := some s.clk.now, edge := (s.tod : Int) + (10 ^ 6 * unitsPerPs : Nat)
        widthUs := s.ppsWidth j }) ∧
      (∀ i, i ≠ j → t.ppsOut i = s.ppsOut i) ∧ Touches [.pll] s t)) ∧
  (∀ (s : State) (j : Nat), j < 2 → s.pwr.inReset = true → s.pwr.keepTime = true → s.apB Fld.pllPpsCfg_EN j = true →
    s.squelchCond j = false → (s.ppsOut j).squelched = false → (s.ppsOut j).high = false → (s.ppsOut j).ended = none →
    Gives (.ppsOutPulse j) s (fun t =>
      t.ppsOut j = { s.ppsOut j with high := true, due := false, edge := s.ppsDue j, widthUs := s.ppsWidth j } ∧ Touches [.pll] s t))

/-- R282, R283, R285, R289: a profile is loaded while none runs, starts at x = 0, stops where it is or at zero, goes through its
segments to its END, and is held at its range. -/
def Obligations.Ramps : Prop :=
  (∀ (s : State) (d : CmdDesc), s.Up → d.wf = true → s.Accepts d 0xBA01 { unitChecks d true .pll true [Rdy.pll] with
      absent := d.buf 0 1 == 0 && (List.range 12).any (fun g => bitAt (d.buf 4 2) g && decide (s.variant.groups ≤ g))
      badForm := d.badForm true || decide (d.handle ≠ 0) || d.rampReserved
      badArg := decide (3 < d.buf 0 1) || d.buf 1 1 == 0 || decide (16 < d.buf 1 1) || decide (2 < d.buf 2 1) ||
        decide (d.extLen < 8 + 8 * d.buf 1 1) || (d.buf 0 1 != 0 && d.buf 4 2 != 0) ||
        ((List.range (d.buf 1 1)).map d.rampSeg).any (fun g => g.durMs == 0) } →
    Gives (.pllRampLoad d) s (fun t =>
      ((s.pllOf (d.buf 0 1)).ramp.run = false →
        t.pllOf (d.buf 0 1) = { s.pllOf (d.buf 0 1) with
          ramp := { segs := (List.range (d.buf 1 1)).map d.rampSeg, endAct := d.buf 2 1, groups := d.buf 4 2
                    x := (s.pllOf (d.buf 0 1)).ramp.x } } ∧
        Completed d 0xBA01 .ok 0 (leBytes (rampPeak ((List.range (d.buf 1 1)).map d.rampSeg) 0) 8) t) ∧
      ((s.pllOf (d.buf 0 1)).ramp.run = true → t.pll = s.pll ∧ Completed d 0xBA01 .busy 0 [] t) ∧
      (∀ y, y ≠ d.buf 0 1 → t.pllOf y = s.pllOf y) ∧ Touches (bypParts ++ cplParts ++ [Part.free, .eng]) s t)) ∧
  (∀ (s : State) (d : CmdDesc), s.Up → s.Accepts d 0xBA02 { unitChecks d false .pll true [Rdy.pll] with
      badForm := d.badForm false || decide (d.handle ≠ 0) || !(d.zero 14 32)
      badArg := decide (3 < d.arg 12 1) || decide (2 < d.arg 13 1) ||
        (d.arg 13 1 == 0 && (s.pllOf (d.arg 12 1)).ramp.segs.isEmpty) } →
    (Instr.wf (.rampStart d) = true → d.arg 13 1 = 0 → (s.pllOf (d.arg 12 1)).st = .locked → Gives (.rampStart d) s (fun t =>
      t.pllOf (d.arg 12 1) = { s.pllOf (d.arg 12 1) with
        aligned := false, alignDue := (s.pllOf (d.arg 12 1)).alignDue && d.arg 12 1 == 0
        ramp := { (s.pllOf (d.arg 12 1)).ramp with
          run := true, suspended := false, seg := 0, x := 0, doneMs := 0, since := s.clk.now, held := false, clamped := false } } ∧
      t.pll.rampPll = d.arg 12 1 ∧ Completed d 0xBA02 .ok 0 (leBytes (unsigned 64 (t.rampX (d.arg 12 1))) 8) t ∧
      (∀ y, y ≠ d.arg 12 1 → t.pllOf y = s.pllOf y) ∧ Touches (bypParts ++ cplParts ++ [Part.free, .eng]) s t)) ∧
    (Instr.wf (.rampStopHold d) = true → d.arg 13 1 = 1 → Gives (.rampStopHold d) s (fun t =>
      t.pllOf (d.arg 12 1) = { s.pllOf (d.arg 12 1) with
        ramp := { (s.pllOf (d.arg 12 1)).ramp with run := false, suspended := false, x := s.rampX (d.arg 12 1) } } ∧
      Completed d 0xBA02 .ok 0 (leBytes (unsigned 64 (t.rampX (d.arg 12 1))) 8) t ∧
      (∀ y, y ≠ d.arg 12 1 → t.pllOf y = s.pllOf y) ∧ Touches (bypParts ++ cplParts ++ [Part.free, .eng]) s t)) ∧
    (Instr.wf (.rampStopZero d) = true → d.arg 13 1 = 2 → Gives (.rampStopZero d) s (fun t =>
      t.pllOf (d.arg 12 1) = { s.pllOf (d.arg 12 1) with
        ramp := { (s.pllOf (d.arg 12 1)).ramp with run := false, suspended := false, x := 0 } } ∧
      Completed d 0xBA02 .ok 0 (leBytes 0 8) t ∧
      (∀ y, y ≠ d.arg 12 1 → t.pllOf y = s.pllOf y) ∧ Touches (bypParts ++ cplParts ++ [Part.free, .eng]) s t))) ∧
  (∀ (s : State) (x : Nat) (r : Ramp) (g : RampSeg) (e : Int), s.Up → x < 4 → r = (s.pllOf x).ramp → r.now? = some g →
    e = clampInt (rampRange x).1 (rampRange x).2
      (if g.hold || r.held then r.x else r.x + g.slope * ((g.durMs - r.doneMs : Nat) : Int)) →
    Gives (.rampSegmentEnd x) s (fun t =>
      (r.seg + 1 < r.segs.length → t.pllOf x = { s.pllOf x with
        ramp := { r with x := e, doneMs := 0, since := s.clk.now, held := false, seg := r.seg + 1 } }) ∧
      (r.segs.length ≤ r.seg + 1 → r.endAct = 1 → t.pllOf x = { s.pllOf x with
        ramp := { r with x := e, doneMs := 0, since := s.clk.now, held := false, seg := 0 } }) ∧
      (r.segs.length ≤ r.seg + 1 → r.endAct ≠ 1 → t.pllOf x = { s.pllOf x with
        ramp := { r with x := if r.endAct = 2 then 0 else e, doneMs := 0, since := s.clk.now, held := false, run := false } }) ∧
      (∀ y, y ≠ x → t.pllOf y = s.pllOf y) ∧ Touches (bypParts ++ [Part.free, .eng]) s t)) ∧
  (∀ (s : State) (x : Nat) (r : Ramp) (g : RampSeg), s.Up → x < 4 → r = (s.pllOf x).ramp → r.now? = some g → g.hold = false →
    g.slope ≠ 0 → r.held = false →
    Gives (.rampClampReached x) s (fun t =>
      t.pllOf x = { s.pllOf x with ramp := { r with
        x := if g.slope < 0 then (rampRange x).1 else (rampRange x).2, held := true, clamped := true
        doneMs := min g.durMs (r.doneMs + (s.clk.now - r.since) / 10 ^ 9), since := s.clk.now } } ∧
      (∀ y, y ≠ x → t.pllOf y = s.pllOf y) ∧ Touches (evtParts ++ [Part.pll, .eng]) s t)) ∧
  (∀ (s : State) (d : CmdDesc), s.Up → d.wf = true → s.Accepts d 0xBA03 { unitChecks d false .pll true [Rdy.pll] with
      badForm := d.badForm false || decide (d.handle ≠ 0) || !(d.zero 13 32)
      badArg := !(d.arg 12 1 == 1 || d.arg 12 1 == 2) || s.pllSrc (d.arg 12 1) != 0 } →
    Gives (.pllAlign d) s (fun t =>
      t.pll = { s.pll with aligns := s.pll.aligns ++ [d] } ∧ Touches (cplParts ++ [Part.pll]) s t))

/-- R296, R298, R299: a tracking channel pulls in when it is bound, tracks at lock, decodes at data sync, is LOST when it loses its
signal, is released by the firmware and pulls in again when it regains it; a binding that another channel of the band holds is refused.
-/
def Obligations.SatelliteChannels : Prop :=
  (∀ (s : State) (c : Nat) (a : Bool), s.Up → c < 64 → (s.gnssCh c).st = .pullIn →
    (s.gnssSignal c = true → Gives (.gnssChLock c a) s (fun t =>
      t.gnssCh c = { s.gnssCh c with st := .track, txValid := a } ∧ (∀ k, k ≠ c → t.gnssCh k = s.gnssCh k) ∧
      Touches (evtParts ++ [Part.gnss]) s t)) ∧
    Gives (.gnssChPullinTimeout c) s (fun t =>
      t.gnssCh c = { s.gnssCh c with st := .lost, txValid := false, slip := false, meas := none, cn0 := 0 } ∧
      t.count Fld.gnssLossCnt_VAL = s.counted Fld.gnssLossCnt_VAL ∧ (∀ k, k ≠ c → t.gnssCh k = s.gnssCh k) ∧
      Touches (evtParts ++ [Part.gnss, .rc .gnssLossCnt]) s t)) ∧
  (∀ (s : State) (c : Nat), s.Up → c < 64 → (s.gnssCh c).st = .track →
    Gives (.gnssChDataSync c) s (fun t =>
      t.gnssCh c = { s.gnssCh c with st := .data, txValid := true } ∧ (∀ k, k ≠ c → t.gnssCh k = s.gnssCh k) ∧
      Touches (evtParts ++ [Part.gnss]) s t)) ∧
  (∀ (s : State) (c : Nat), s.Up → c < 64 → (s.gnssCh c).tracking = true →
    Gives (.gnssChLoss c) s (fun t =>
      t.gnssCh c = { s.gnssCh c with st := .lost, txValid := false, slip := false, meas := none, cn0 := 0 } ∧
      t.count Fld.gnssLossCnt_VAL = s.counted Fld.gnssLossCnt_VAL ∧ (∀ k, k ≠ c → t.gnssCh k = s.gnssCh k) ∧
      Touches (evtParts ++ [Part.gnss, .rc .gnssLossCnt]) s t)) ∧
  (∀ (s : State) (c : Nat), s.Up → c < 64 → (s.gnssCh c).st = .lost →
    Gives (.gnssChRelease c) s (fun t =>
      (s.apB Fld.gnssChCfg_MANUAL c = false → (t.gnssCh c).st = .idle ∧ t.apB Fld.gnssChCfg_EN c = false) ∧
      (s.apB Fld.gnssChCfg_MANUAL c = true → t.gnss = s.gnss ∧ t.regs = s.regs) ∧
      (∀ k, k ≠ c → t.gnssCh k = s.gnssCh k) ∧ OtherRegs ⟨.gnssChCfg, c, 0⟩ s t ∧ Touches (evtParts ++ [Part.regs, .gnss]) s t) ∧
    (s.gnssSignal c = true → Gives (.gnssChRegain c) s (fun t =>
      (t.gnssCh c).st = .pullIn ∧ (∀ k, k ≠ c → t.gnssCh k = s.gnssCh k) ∧ Touches (evtParts ++ [Part.gnss]) s t))) ∧
  (∀ (s : State) (c : Nat) (v : Word), s.Up → c < 64 → s.Writable ⟨.gnssChCfg, c, 0⟩ → s.gnssOn = true →
    (∀ k, k ∈ bandChans (c / 32) → k ≠ c → s.gnssSat k = none) →
    Gives (.gnssChBind .pcie c v) s (fun t =>
      t.written ⟨.gnssChCfg, c, 0⟩ = ((s.written ⟨.gnssChCfg, c, 0⟩ &&& ~~~ RegKey.storedMask ⟨.gnssChCfg, c, 0⟩) |||
        (v &&& RegKey.storedMask ⟨.gnssChCfg, c, 0⟩)) ∧ OtherRegs ⟨.gnssChCfg, c, 0⟩ s t ∧
      (t.gnssSat c = s.gnssSat c → t.gnssCh c = s.gnssCh c) ∧
      (t.gnssSat c ≠ s.gnssSat c → t.gnssSat c = none → (t.gnssCh c).st = .idle) ∧
      (t.gnssSat c ≠ s.gnssSat c → t.gnssSat c ≠ none →
        t.gnssCh c = { s.gnssCh c with st := .pullIn, txValid := false, slip := false, meas := none, cn0 := 0 }) ∧
      (∀ k, k ≠ c → t.gnssCh k = s.gnssCh k) ∧ Touches (evtParts ++ [Part.regs, .gnss]) s t)) ∧
  (∀ (s : State) (c k : Nat) (v : Word), s.Up → c < 64 → k ∈ bandChans (c / 32) → k ≠ c → s.Writable ⟨.gnssChCfg, c, 0⟩ →
    s.gnssSat k = some (fieldOf v 8 1, fieldOf v 0 8) → s.regs.stopped = [] → fieldOf v 10 1 = 1 →
    Gives (.gnssChBind .pcie c v) s (fun t =>
      t.evt = (s.raise Ev.gnssCfgBad).evt ∧ t.gnss = s.gnss ∧ t.regs = s.regs ∧ Touches evtParts s t)) ∧
  (∀ (s : State) (e c : Nat) (v : Word), s.Up → Instr.wf (.gnssChBind (.eng e) c v) = true → s.Writable ⟨.gnssChCfg, c, 0⟩ →
    s.apB Fld.gnssChCfg_MANUAL c = true →
    Gives (.gnssChBind (.eng e) c v) s (fun t => Touches [] s t))

/-- R31, R292, R300, R301, R308: the sample checks lose the channels of a faulty clock or band; an epoch latches what the channels
measured; a burst starts, has one epoch, ends, and its front end is switched on ahead of it. -/
def Obligations.SatelliteReception : Prop :=
  (∀ (s : State) (ppm : Int), s.Up → s.gnssOn = true →
    Gives (.gnssClockFault ppm) s (fun t =>
      t.gnss.clkOk = false ∧ t.gnss.clkPpm = ppm ∧ t.gnss.valid = false ∧
      (∀ c, c < 64 → (s.gnssCh c).st ≠ .idle → (t.gnssCh c).st = .lost) ∧
      (∀ c, (s.gnssCh c).st = .idle → t.gnssCh c = s.gnssCh c) ∧
      Touches (refParts ++ [Part.tchans, .gnss, .eng, .rc .gnssLossCnt]) s t) ∧
    (s.padIn 12 = true → ppm.natAbs ≤ 500 →
      Gives (.gnssClockOk ppm) s (fun t => t.gnss = { s.gnss with clkOk := true, clkPpm := ppm } ∧ Touches [.gnss] s t))) ∧
  (∀ (s : State) (l1 l5 : List Nat) (k1 k5 : Bool) (m1 m5 : Nat), s.Up → s.gnssOn = true → s.padIn 12 = true →
    l1.length = 4 → l5.length = 4 →
    m1 = sampleMag (s.ap Fld.gnssFeCfg_L1_FMT) l1 → m5 = sampleMag (s.ap Fld.gnssFeCfg_L5_FMT) l5 →
    Gives (.gnssSampleCheck l1 l5 k1 k5) s (fun t =>
      t.gnss.mag1 = m1 ∧ t.gnss.mag5 = m5 ∧ t.gnss.fault1 = bandFaulty m1 k1 ∧ t.gnss.fault5 = bandFaulty m5 k5 ∧
      t.count Fld.gnssSampleErr_VAL = s.counted Fld.gnssSampleErr_VAL 0 (b2n (bandFaulty m1 k1) + b2n (bandFaulty m5 k5)) ∧
      (∀ c, c < 32 → bandFaulty m1 k1 = true → (s.gnssCh c).st ≠ .idle → (t.gnssCh c).st = .lost) ∧
      (∀ c, 32 ≤ c → c < 64 → bandFaulty m5 k5 = true → (s.gnssCh c).st ≠ .idle → (t.gnssCh c).st = .lost) ∧
      (∀ c, c < 32 → bandFaulty m1 k1 = false → t.gnssCh c = s.gnssCh c) ∧
      (∀ c, 32 ≤ c → bandFaulty m5 k5 = false → t.gnssCh c = s.gnssCh c) ∧
      Touches (evtParts ++ [Part.gnss, .rc .gnssLossCnt, .rc .gnssSampleErr]) s t)) ∧
  (∀ (s : State) (m : GnssMeas) (ps : Nat) (x : GnssCh), s.Up → m.chan < 64 → ps ≤ 15274 → s.gnssOn = true →
    (s.gnss.bursting = true → s.gnss.inBurst = true ∧ s.gnss.burstEpoch = false) →
    x = s.gnssCh m.chan → x.tracking = true →
    Gives (.gnssEpoch [m] ps) s (fun t =>
      t.gnssCh m.chan = { x with
        meas := some m, slip := false, cn0 := m.cn0
        word0 := (s.setGnssCh m.chan { x with cn0 := m.cn0 }).gnssWord0 m.chan (x.slip || decide (0 < m.slips)) } ∧
      (∀ k, k ≠ m.chan → (s.gnssCh k).tracking = false → t.gnssCh k = s.gnssCh k) ∧
      (∀ k, k < 64 → k ≠ m.chan → (s.gnssCh k).tracking = true → t.gnssCh k = { s.gnssCh k with meas := none }) ∧
      t.gnss.epochs = (s.gnss.epochs + 1) % 2 ^ 32 ∧ t.gnss.burstEpoch = s.gnss.inBurst ∧
      t.gnss.epoch.ts = s.epochInstant ∧ t.gnss.epoch.core = s.clk.active ∧ t.gnss.epoch.unlocked = s.unlockedTime ∧
      t.gnss.epoch.delayPs = ps ∧ t.gnss.epoch.ant = s.apI Fld.gnssAntDly_VAL ∧ t.gnss.epoch.ifb = s.apI Fld.gnssIfb_VAL ∧
      t.count Fld.gnssSlipCnt_VAL = s.counted Fld.gnssSlipCnt_VAL 0 m.slips ∧
      t.waitingAt .epo (fun k => decide (k.name.row.block = .gnss)) = [] ∧
      Touches [.regs, .gnss, .cal, .rc .gnssSlipCnt] s t)) ∧
  (∀ (s : State) (ms : List GnssMeas) (ps : Nat), s.Up → Instr.wf (.gnssEpoch ms ps) = true → s.gnss.bursting = true →
    (s.gnss.inBurst = false ∨ s.gnss.burstEpoch = true) → Gives (.gnssEpoch ms ps) s (fun t => Touches [] s t)) ∧
  (∀ (s : State) (l : List Nat), s.Up → s.gnssOn = true → s.gnss.bursting = true →
    Gives (.gnssBurstStart l) s (fun t =>
      t.gnss.inBurst = true ∧ t.gnss.burstEpoch = false ∧ t.gnss.rfEn = true ∧
      (∀ c, c ∈ l → (s.gnssCh c).tracking = true → t.gnssCh c = { s.gnssCh c with slip := true }) ∧
      (∀ c, c ∉ l → t.gnssCh c = s.gnssCh c) ∧ Touches [.gnss] s t)) ∧
  (∀ s : State, s.Up → s.gnss.inBurst = true →
    Gives .gnssBurstEnd s (fun t =>
      t.gnss = { s.gnss with inBurst := false, rfEn := s.gnss.rfEn && !(s.apB Fld.gnssBurst_RF_GATE) } ∧ Touches [.gnss] s t)) ∧
  (∀ s : State, s.Up →
    Gives .gnssRfEnLead s (fun t =>
      t.gnss = { s.gnss with rfEn := s.gnss.rfEn || (s.gnssOn && s.gnss.bursting && s.apB Fld.gnssBurst_RF_GATE) } ∧
      Touches [.gnss] s t))

/-- R294, R296, R297, R310, R312: a dwell gives its job free sections and takes their cells when it ends; the firmware's acquisition
round makes a job; sections leave service, at the end of their dwell when they are in use, are tested outside, and return. -/
def Obligations.SearchAndSections : Prop :=
  (∀ (s : State) (j : Nat), s.Up → s.gnssOn = true → (s.gnss.bursting && !s.gnss.inBurst) = false → s.searchOrder = [j] →
    (s.obj .search j).phase = .active → (s.searchJob j).sects = [] →
    Gives .gnssDwellStart s (fun t =>
      t.searchJob j = { s.searchJob j with
        sects := s.freeSects.take (((s.searchJob j).cells - (s.searchJob j).searched + 511) / 512) } ∧
      (∀ i, i ≠ j → t.searchJob i = s.searchJob i) ∧ Touches [.gnss] s t)) ∧
  (∀ (s : State) (j : Nat) (d : GnssDet), s.Up → Instr.wf (.gnssDwellEnd ⟨[j], [d]⟩) = true → s.gnssOn = true →
    s.padIn 12 = true → s.searchOrder = [j] →
    d.job = j → (s.searchJob j).sects ≠ [] → s.apB Fld.gnssCfg_AUTO_TRACK = false → s.gnss.outWait = [] →
    Gives (.gnssDwellEnd ⟨[j], [d]⟩) s (fun t =>
      t.searchJob j = { s.searchJob j with
        found := (s.searchJob j).found + 1, dets := topDets (s.searchJob j).dets d, sects := []
        searched := min (s.searchJob j).cells ((s.searchJob j).searched + 512 * (s.searchJob j).sects.length)
        done := (s.searchJob j).done ||
          decide ((s.searchJob j).cells ≤ (s.searchJob j).searched + 512 * (s.searchJob j).sects.length) } ∧
      (∀ i, i ≠ j → t.searchJob i = s.searchJob i) ∧ Touches (evtParts ++ [Part.gnss]) s t)) ∧
  (∀ (s : State) (j : Nat), s.Up → s.gnssOn = true → s.apB Fld.gnssCfg_AUTO_ACQ = true → s.taskHeld 7 = true →
    s.gnss.valid = false → s.gnss.fwJobs = [] → s.assistOk = false → s.apB Fld.gnssCfg_GPS_EN = true →
    s.apB Fld.gnssCfg_GAL_EN = false → s.apB Fld.gnssCfg_L5_EN = false → s.nextIndex .search = some j →
    Gives .gnssAutoAcqRound s (fun t =>
      t.gnss.fwJobs = [j] ∧ (t.obj? .search j).map (fun o => o.args) = some (autoArgs 0 0 false) ∧
      t.searchJob j = { order := s.gnss.nextOrder, assisted := (s.searchGrid (searchArgsOf (autoArgs 0 0 false))).1
                        cells := (s.searchGrid (searchArgsOf (autoArgs 0 0 false))).2 } ∧ Touches [.index, .objs, .gnss] s t)) ∧
  (∀ (s : State) (d : CmdDesc), s.Up → Instr.wf (.gnssSectOut d) = true → d.arg 13 1 = 0 →
    s.Accepts d 0xC001 (s.gnssChecks d 14 (decide (23 < d.arg 12 1) || decide (2 < d.arg 13 1))) →
    Gives (.gnssSectOut d) s (fun t =>
      (s.gnss.out.contains (d.arg 12 1) = false → s.gnss.jobs.any (fun e => e.2.sects.contains (d.arg 12 1)) = true →
        t.gnss = { s.gnss with outWait := s.gnss.outWait ++ [(d.arg 12 1, d)] } ∧ t.hif = s.hif) ∧
      (s.gnss.out.contains (d.arg 12 1) = false → s.gnss.jobs.any (fun e => e.2.sects.contains (d.arg 12 1)) = false →
        t.gnss = { s.gnss with out := insertAsc (d.arg 12 1) s.gnss.out } ∧ Completed d 0xC001 .ok 0 (leBytes 0 4) t) ∧
      (s.gnss.out.contains (d.arg 12 1) = true → t.gnss = s.gnss ∧ Completed d 0xC001 .ok 0 (leBytes 0 4) t) ∧
      Touches (evtParts ++ cplParts ++ [Part.gnss]) s t)) ∧
  (∀ (s : State) (d : CmdDesc), s.Up → Instr.wf (.gnssSectIn d) = true → d.arg 13 1 = 1 →
    s.Accepts d 0xC001 (s.gnssChecks d 14 (decide (23 < d.arg 12 1) || decide (2 < d.arg 13 1))) →
    Gives (.gnssSectIn d) s (fun t =>
      t.gnss = { s.gnss with out := s.gnss.out.filter (fun k => k != d.arg 12 1) } ∧ Completed d 0xC001 .ok 0 [] t ∧
      Touches (cplParts ++ [Part.gnss]) s t)) ∧
  (∀ (s : State) (d : CmdDesc), s.Up → Instr.wf (.gnssSectTest d) = true → d.arg 13 1 = 2 →
    s.Accepts d 0xC001 (s.gnssChecks d 14 (decide (23 < d.arg 12 1) || decide (2 < d.arg 13 1))) →
    Gives (.gnssSectTest d) s (fun t =>
      (s.gnss.out.contains (d.arg 12 1) = true → t.gnss = { s.gnss with testing := s.gnss.testing ++ [(d.arg 12 1, d)] } ∧
        t.hif = s.hif) ∧
      (s.gnss.out.contains (d.arg 12 1) = false → t.gnss = s.gnss ∧ Completed d 0xC001 .badArg 0 [] t) ∧
      Touches (cplParts ++ [Part.gnss]) s t)) ∧
  (∀ (s : State) (d : CmdDesc) (n bad first : Nat) (l : List (Nat × CmdDesc)), s.Up → s.gnss.testing = (n, d) :: l →
    Gives (.gnssSectTestDone bad first) s (fun t =>
      t.gnss = { s.gnss with testing := l } ∧
      Completed d 0xC001 (if bad = 0 then .ok else .parity) 0 (leBytes bad 4 ++ leBytes (if bad = 0 then 0xFFFF else first) 2) t ∧
      Touches (cplParts ++ [Part.gnss]) s t))

/-- R304 to R306, R312: a valid solution stands as the solution of its epoch, an invalid one ends validity; survey-in restarts, and its
mean is held when it is ended. -/
def Obligations.SolutionAndSurvey : Prop :=
  (∀ (s : State) (x y : GnssSol) (n : Nat × Nat), s.Up → s.gnssOn = true → s.gnss.survey.run = false →
    y = { x with o := s.solOffset x } → n = s.solUse x.sky →
    Gives (.gnssSolutionDone x) s (fun t =>
      (s.solValid x = true → t.gnss = { s.gnss with
        sol := y, used := n.1, paired := n.2, solEpoch := s.gnss.epochs, valid := true, validRun := s.gnss.validRun + 1
        everValid := true, posSec := some (secOf s.tod) }) ∧
      (s.solValid x = false → t.gnss.sol = y ∧ t.gnss.used = n.1 ∧ t.gnss.paired = n.2 ∧ t.gnss.solEpoch = s.gnss.epochs ∧
        t.gnss.valid = false ∧ t.gnss.validRun = 0 ∧ t.gnss.everValid = s.gnss.everValid ∧ t.gnss.chans = s.gnss.chans) ∧
      ((s.cand 102).st = .disabled → s.candEn 102 = false → s.solValid x = true → Touches (evtParts ++ [Part.gnss]) s t) ∧
      ((s.cand 102).st = .qualifying → s.candEn 102 = true → s.candAvail 102 = true → s.standingCause 102 = 0 →
        s.solValid x = true → s.ref.tsel ≠ some 102 → s.ref.stepPend = none →
        t.cand 102 = ({ s.cand 102 with failing := false } : Cand).measured y.o ∧ Touches (evtParts ++ [Part.gnss, .ref]) s t) ∧
      Touches (secParts ++ [Part.clk, .gnss, .rc .refHoldoffCnt]) s t)) ∧
  (∀ (s : State) (d : CmdDesc), s.Up → Instr.wf (.gnssSurveyRestart d) = true → d.arg 12 1 = 0 →
    s.Accepts d 0xC002 (s.gnssChecks d 13 (decide (1 < d.arg 12 1))) →
    Gives (.gnssSurveyRestart d) s (fun t =>
      t.ap Fld.gnssPosCfg_POS_MODE = 1 ∧ t.gnss = { s.gnss with survey := { run := true, since := s.clk.now } } ∧
      Completed d 0xC002 .ok 0 (leBytes 0 4 ++ leBytes 0 4 ++ leBytes 0 4 ++ leBytes t.gnss.survey.sigma 4) t ∧
      OtherRegs ⟨.gnssPosCfg, 0, 0⟩ s t ∧ Touches (cplParts ++ [Part.regs, .gnss]) s t)) ∧
  (∀ (s : State) (d : CmdDesc), s.Up → Instr.wf (.gnssSurveyEnd d) = true → d.arg 12 1 = 1 →
    s.Accepts d 0xC002 (s.gnssChecks d 13 (decide (1 < d.arg 12 1))) →
    Gives (.gnssSurveyEnd d) s (fun t =>
      (s.gnss.survey.n = 0 → t.gnss = s.gnss ∧ t.regs = s.regs ∧ Completed d 0xC002 .notReady 0 [] t) ∧
      (s.gnss.survey.n ≠ 0 →
        t.ap Fld.gnssPosX_VAL = unsigned 32 s.gnss.survey.mean.1 ∧ t.ap Fld.gnssPosY_VAL = unsigned 32 s.gnss.survey.mean.2.1 ∧
        t.ap Fld.gnssPosZ_VAL = unsigned 32 s.gnss.survey.mean.2.2 ∧ t.ap Fld.gnssPosCfg_POS_MODE = 2 ∧
        t.gnss = { s.gnss with survey := { s.gnss.survey with run := false } } ∧
        Completed d 0xC002 .ok 0 s.gnss.survey.bytes t) ∧
      Touches (cplParts ++ [Part.regs, .gnss]) s t))

/-- R314 to R322, R325: the interval counter: arming, edges and the sample they make, the dead time, the time-out, the gate, the time
base, and the end of a block with its result. -/
def Obligations.IntervalCounter : Prop :=
  (∀ (s : State) (d : CmdDesc) (c : Nat), s.Up → d.wf = true → c = hIndex d.handle →
    s.Accepts d 0xC401 (s.ticChecks d (decide (2 ≤ d.arg 12 1) || !(d.zero 13 32))) →
    Gives (.ticArm d) s (fun t =>
      ((s.obj .mchan c).phase = .active → (s.ticCh c).armed = false →
        (t.ticCh c).armed = true ∧ (t.ticCh c).rep = bitAt (d.arg 12 1) 0 ∧ (t.ticCh c).args = (s.obj .mchan c).ticArgs ∧
        (t.ticCh c).kept = 0 ∧ (t.ticCh c).sum = 0 ∧ (t.ticCh c).order = 0 ∧ (t.ticCh c).near = 0 ∧ (t.ticCh c).timeout = 0 ∧
        (t.ticCh c).block = (s.ticCh c).nextBlock ∧ (t.ticCh c).nextBlock = (s.ticCh c).nextBlock + 1 ∧
        ((s.ticCh c).dead = false → (s.obj .mchan c).ticArgs.gate = false → (s.obj .mchan c).ticArgs.base = 0 →
          s.calJobOn 2 c = false → s.domOn 15 = true → s.regs.stopped = [] →
          (t.ticCh c).live = true ∧ (t.ticCh c).startAt = none ∧ (t.ticCh c).stopAt = none) ∧
        Completed d 0xC401 .ok 0 (leBytes (s.ticCh c).nextBlock 4) t) ∧
      ((s.obj .mchan c).phase = .active → (s.ticCh c).armed = true → t.tic = s.tic ∧ Completed d 0xC401 .busy 0 [] t) ∧
      ((s.obj .mchan c).phase = .suspended → t.tic = s.tic ∧ Completed d 0xC401 .notReady 0 [] t) ∧
      ((s.obj .mchan c).phase = .draining → t.tic = s.tic ∧
        (t.obj .mchan c).waiting = (s.obj .mchan c).waiting ++ [⟨0x10, d⟩]) ∧
      (∀ k, k ≠ c → t.ticCh k = s.ticCh k) ∧ Touches (cplParts ++ [Part.tic, .objs]) s t)) ∧
  (∀ (s : State) (d : CmdDesc) (c : Nat), s.Up → d.wf = true → c = hIndex d.handle → (s.obj .mchan c).phase ≠ .draining →
    s.Accepts d 0xC402 (s.ticChecks d (!(d.zero 12 32))) →
    Gives (.ticStop d) s (fun t =>
      ((s.ticCh c).armed = true → (s.ticCh c).kept ≠ 0 →
        t.ticCh c = { s.ticCh c with
          armed := false, live := false, waitBase := false, result := some (s.ticResultOf (s.ticCh c) true) }) ∧
      ((s.ticCh c).armed = true → (s.ticCh c).kept = 0 →
        t.ticCh c = { s.ticCh c with armed := false, live := false, waitBase := false }) ∧
      ((s.ticCh c).armed = true → Completed d 0xC402 .ok 0 (leBytes (s.ticCh c).kept 4) t) ∧
      ((s.ticCh c).armed = false → t.ticCh c = s.ticCh c ∧ Completed d 0xC402 .ok 0 (leBytes 0 4) t) ∧
      (∀ k, k ≠ c → t.ticCh k = s.ticCh k) ∧ Touches (evtParts ++ cplParts ++ [Part.regs, .tic, .cal]) s t)) ∧
  (∀ (s : State) (c n code : Nat) (x : TicCh), s.Up → Instr.wf (.ticEdge c false n code) = true → x = s.ticCh c → x.live = true →
    x.startAt = none → x.stopAt = none → s.ticSourceOn x.args.start = true →
    Gives (.ticEdge c false n code) s (fun t =>
      t.ticCh c = { x with startAt := some (n, s.ticFine c code) } ∧ (∀ k, k ≠ c → t.ticCh k = s.ticCh k) ∧ Touches [.tic] s t)) ∧
  (∀ (s : State) (c n code : Nat) (x : TicCh), s.Up → Instr.wf (.ticEdge c true n code) = true → x = s.ticCh c → x.live = true →
    x.startAt = none → x.stopAt = none → s.ticSourceOn x.args.stop = true →
    Gives (.ticEdge c true n code) s (fun t =>
      (x.pair = true → t.tic = s.tic) ∧ (x.pair = false → t.ticCh c = { x with stopAt := some (n, s.ticFine c code) }) ∧
      (∀ k, k ≠ c → t.ticCh k = s.ticCh k) ∧ Touches [.tic] s t)) ∧
  (∀ (s : State) (c n code : Nat) (a : Nat × Int) (x : TicCh) (d v : Int), s.Up → Instr.wf (.ticEdge c true n code) = true →
    x = s.ticCh c → x.live = true → x.startAt = some a → x.stopAt = none → s.ticSourceOn x.args.stop = true →
    d = s.ticInterval c a (n, s.ticFine c code) →
    (ticNear ≤ d → v = d + x.ofs * 2 ^ 45 → x.kept + 1 ≠ x.args.n → 0 < x.kept → Gives (.ticEdge c true n code) s (fun t =>
      t.ticCh c = { x with
        stopAt := some (n, s.ticFine c code), live := false, dead := true
        lastVal := v, lastNear := false, lastOrder := false, lastIndex := x.kept + x.order + x.near
        kept := x.kept + 1, sum := x.sum + v, sumSq := x.sumSq + v * v, lo := min x.lo v, hi := max x.hi v } ∧
      (∀ k, k ≠ c → t.ticCh k = s.ticCh k) ∧ Touches [.tic] s t)) ∧
    (d ≤ -ticNear → x.kept < x.args.n → Gives (.ticEdge c true n code) s (fun t =>
      (t.ticCh c).order = x.order + 1 ∧ (t.ticCh c).kept = x.kept ∧ (t.ticCh c).sum = x.sum ∧
      (t.ticCh c).dead = true ∧ t.count Fld.ticOrderCnt_VAL c = s.counted Fld.ticOrderCnt_VAL c ∧
      (∀ k, k ≠ c → t.ticCh k = s.ticCh k) ∧ Touches [.tic, .rc .ticOrderCnt] s t)) ∧
    (-ticNear < d → d < ticNear → x.args.nearKeep = false → x.kept < x.args.n → Gives (.ticEdge c true n code) s (fun t =>
      (t.ticCh c).near = x.near + 1 ∧ (t.ticCh c).kept = x.kept ∧ (t.ticCh c).lastVal = ticNear + x.ofs * 2 ^ 45 ∧
      t.count Fld.ticNearCnt_VAL c = s.counted Fld.ticNearCnt_VAL c ∧ (∀ k, k ≠ c → t.ticCh k = s.ticCh k) ∧
      Touches [.tic, .rc .ticNearCnt] s t)) ∧
    (ticNear ≤ d → x.kept + 1 = x.args.n → x.rep = false → Gives (.ticEdge c true n code) s (fun t =>
      (t.ticCh c).armed = false ∧ (t.ticCh c).live = false ∧ (t.ticCh c).kept = x.args.n ∧
      (t.ticCh c).result = some (s.ticResultOf { t.ticCh c with result := x.result } false) ∧
      (∀ k, k ≠ c → t.ticCh k = s.ticCh k) ∧ Touches (evtParts ++ [Part.regs, .tic, .cal]) s t))) ∧
  (∀ (s : State) (c : Nat), s.Up → c < 16 →
    Gives (.ticRearm c) s (fun t =>
      (t.ticCh c).dead = false ∧ (t.ticCh c).kept = (s.ticCh c).kept ∧ (t.ticCh c).armed = (s.ticCh c).armed ∧
      ((s.ticCh c).armed = false → t.ticCh c = { s.ticCh c with dead := false }) ∧
      (∀ k, k ≠ c → t.ticCh k = s.ticCh k) ∧ Touches [.tic] s t)) ∧
  (∀ (s : State) (c : Nat), s.Up → c < 16 → (s.ticCh c).live = true →
    Gives (.ticSampleTimeout c) s (fun t =>
      (t.ticCh c).timeout = (s.ticCh c).timeout + 1 ∧ t.count Fld.ticTmoCnt_VAL c = s.counted Fld.ticTmoCnt_VAL c ∧
      (s.ticMay c = true → (t.ticCh c).live = true ∧ (t.ticCh c).startAt = none ∧ (t.ticCh c).stopAt = none) ∧
      (s.ticMay c = false → (t.ticCh c).live = false) ∧ (t.ticCh c).kept = (s.ticCh c).kept ∧
      (∀ k, k ≠ c → t.ticCh k = s.ticCh k) ∧ Touches [.tic, .rc .ticTmoCnt] s t)) ∧
  (∀ (s : State) (g : Nat) (high : Bool), s.Up → g < 2 →
    Gives (.ticGateEdge g high) s (fun t =>
      (g = 0 → t.tic.gate0 = high ∧ t.tic.gate1 = s.tic.gate1) ∧ (g = 1 → t.tic.gate1 = high ∧ t.tic.gate0 = s.tic.gate0) ∧
      (∀ c, c < 16 → s.padIn 13 = true → high = true → (s.ticCh c).armed = true → (s.ticCh c).args.gate = true →
        s.ap Fld.ticChCfg_GATE_SEL c = g → (t.ticCh c).begun = true) ∧
      (∀ c, c < 16 → s.padIn 13 = true → high = false → (s.ticCh c).armed = true → (s.ticCh c).args.gate = true → s.ap Fld.ticChCfg_GATE_SEL c = g →
        (s.ticCh c).startAt = none → (s.ticCh c).stopAt = none → (t.ticCh c) = { s.ticCh c with live := false }) ∧
      (∀ c, c < 16 → (s.padIn 13 = false ∨ (s.ticCh c).armed = false ∨ (s.ticCh c).args.gate = false ∨ s.ap Fld.ticChCfg_GATE_SEL c ≠ g) →
        t.ticCh c = s.ticCh c) ∧ Touches [.tic] s t)) ∧
  (∀ (s : State) (locked : Bool), s.Up →
    Gives (.ticTbLoss locked) s (fun t =>
      t.tic.tbOk = false ∧ t.tic.tbLock = locked ∧
      (∀ c, c < 16 → (s.ticCh c).armed = true → (s.ticCh c).args.base = 1 → (t.ticCh c).waitBase = true ∧ (t.ticCh c).live = false) ∧
      (∀ c, c < 16 → ((s.ticCh c).armed = false ∨ (s.ticCh c).args.base ≠ 1) → t.ticCh c = s.ticCh c) ∧
      Touches (evtParts ++ [Part.tic, .rc .ticTmoCnt]) s t)) ∧
  (∀ s : State, s.Up → s.apB Fld.ticCfg_TB_EN = true → s.padIn 13 = true →
    Gives .ticTbOk s (fun t =>
      t.tic.tbOk = true ∧ t.tic.tbLock = true ∧ (∀ c, c < 16 → (t.ticCh c).waitBase = false) ∧ Touches (evtParts ++ [Part.tic]) s t))

/-- R327, R329 to R333, R335, R337: a calibration job ends LOST, FAILED, MEASURED or APPLIED, or with its time limit; what CAL stores,
saves and reloads. -/
def Obligations.Calibration : Prop :=
  (∀ (s : State) (j q : Nat) (a b temp : Int) (codes : List Int), s.Up → Instr.wf (.calJobEnd j q a b codes temp) = true →
    (s.obj? .cal j).isSome = true → (s.calJob j).running = true → (s.calJob j).waitBlock = false →
    Gives (.calJobEnd j q a b codes temp) s (fun t =>
      (s.calHolds (s.calTarget j) (s.calInst j) = false →
        (t.calJob j).outcome = 4 ∧ (t.calJob j).quality = (s.calJob j).quality ∧ t.cal.nodes = s.cal.nodes ∧
        t.count Fld.calAbortCnt_VAL = s.counted Fld.calAbortCnt_VAL) ∧
      (s.calHolds (s.calTarget j) (s.calInst j) = true → s.calPass (s.calTarget j) q = false →
        (t.calJob j).outcome = 2 ∧ (t.calJob j).quality = q ∧ (t.calJob j).temp = temp ∧ t.cal.nodes = s.cal.nodes) ∧
      (s.calHolds (s.calTarget j) (s.calInst j) = true → s.calPass (s.calTarget j) q = true → s.calApplies j = false →
        (t.calJob j).outcome = 1 ∧ (t.calJob j).quality = q ∧ (t.calJob j).temp = temp ∧ t.cal.nodes = s.cal.nodes ∧
        (t.calJob j).result = s.calResult (s.calTarget j) (s.calInst j) a) ∧
      (∀ k, s.calHolds (s.calTarget j) (s.calInst j) = true → s.calPass (s.calTarget j) q = true → s.calApplies j = true →
        s.calTarget j ≤ 2 → calNearNode temp = some k → s.apB Fld.calCfg_AUTO_STORE = false →
        (t.calJob j).outcome = 0 ∧ (t.calJob j).quality = q ∧ (t.calJob j).node = k ∧
        Tab.find t.cal.nodes ⟨s.calTarget j, s.calInst j, k⟩ = some {
          a := a, b := b, quality := q
          codes := if (s.calTarget j = 0 ∧ codes.length = 32) ∨ (s.calTarget j = 2 ∧ codes.length = 1024) then codes else [] } ∧
        (∀ x, x ≠ ⟨s.calTarget j, s.calInst j, k⟩ → Tab.find t.cal.nodes x = Tab.find s.cal.nodes x)) ∧
      (t.calJob j).running = false ∧ (∀ i, i ≠ j → t.calJob i = s.calJob i) ∧
      Touches (evtParts ++ [Part.regs, .pers, .tic, .cal, .rc .calAbortCnt, .rc .calStoreFail]) s t)) ∧
  (∀ (s : State) (j : Nat), s.Up → Instr.wf (.calJobTimeout j) = true → (s.obj? .cal j).isSome = true → (s.calJob j).running = true →
    Gives (.calJobTimeout j) s (fun t =>
      t.calJob j = { s.calJob j with
        running := false, outcome := (if s.calHolds (s.calTarget j) (s.calInst j) then 3 else 4), waitBlock := false } ∧
      t.count Fld.calAbortCnt_VAL = s.counted Fld.calAbortCnt_VAL ∧ (∀ i, i ≠ j → t.calJob i = s.calJob i) ∧
      Touches (evtParts ++ [Part.tic, .cal, .rc .calAbortCnt]) s t)) ∧
  (∀ (s : State) (temp : Int), s.Up →
    Gives (.calTempStep temp) s (fun t =>
      t.cal.temp = temp ∧ t.cal.nodes = s.cal.nodes ∧ t.cal.jobs = s.cal.jobs ∧ Touches [.regs, .cal] s t)) ∧
  (∀ (s : State) (w : Nat) (v : Word), s.Up → w < 512 → s.cal.waiting = [(w, v)] → s.persStatus w v = .ok →
    Gives (.calStore w) s (fun t =>
      t.pers! w = v ∧ (calWordTarget w = none → t.cal.waiting = []) ∧
      (∀ x, x ≠ w → (x < 34 ∨ 37 < x) → t.pers! x = s.pers! x) ∧
      Touches (evtParts ++ [Part.pers, .cal, .rc .calStoreFail]) s t)) ∧
  (∀ (s : State) (w : Nat) (v : Word), s.Up → w < 512 → s.cal.retry = [(w, v)] →
    Gives (.calStoreRetry w) s (fun t =>
      (s.persStatus w v = .ok → t.pers! w = v ∧ (calWordTarget w = none → t.cal.retry = [])) ∧
      (s.persStatus w v = .busy → calWordTarget w = none → t.pers = s.pers ∧ t.cal.retry = [(w, v)]) ∧
      (s.persStatus w v = .wearOut → calWordTarget w = none →
        t.pers! w = s.pers! w ∧ t.count Fld.calStoreFail_VAL = s.counted Fld.calStoreFail_VAL) ∧
      Touches (evtParts ++ [Part.pers, .cal, .rc .calStoreFail]) s t)) ∧
  (∀ (s : State) (d : CmdDesc), s.Up → d.wf = true → s.Accepts d 0xC601 { unitChecks d false .cal true [Rdy.cal] with
      badForm := (unitChecks d false .cal true [Rdy.cal]).badForm || !(d.zero 12 32) } →
    Gives (.calSave d) s (fun t =>
      (s.boot.straps.noFlash = true → t.cal = s.cal ∧ Completed d 0xC601 .notReady 0 [] t) ∧
      (s.boot.straps.noFlash = false → s.cal.saving ≠ none → t.cal = s.cal ∧ Completed d 0xC601 .busy 0 [] t) ∧
      (∀ b, s.boot.straps.noFlash = false → s.cal.saving = none → b = !(s.calNewSlot.getD true) →
        t.cal.saving = some d ∧ t.calSlot b = {} ∧ t.calSlot (!b) = s.calSlot (!b) ∧ t.cal.nodes = s.cal.nodes ∧
        t.hif.lastCpl = s.hif.lastCpl) ∧
      Touches (cplParts ++ [Part.cal]) s t)) ∧
  (∀ (s : State) (d : CmdDesc), s.Up → s.isReady Rdy.tcore = true → s.tcore.steps = [] → s.cal.saving = some d →
    Gives .secondBoundary s (fun t =>
      t.cal.saving = none ∧ (t.calSlot s.calSaveSlot).valid = true ∧ (∃ r, Completed d 0xC601 .ok 0 r t) ∧ Touches secParts s t)) ∧
  (∀ (s : State) (d : CmdDesc), s.Up → d.wf = true → s.Accepts d 0xC602 { unitChecks d false .cal true [Rdy.cal] with
      absent := s.calInstAbsent (d.arg 12 1) (d.arg 14 2)
      badForm := (unitChecks d false .cal true [Rdy.cal]).badForm || !(d.zero 13 14) || !(d.zero 16 32)
      badArg := decide (6 < d.arg 12 1) || (if d.arg 12 1 = 6 then decide (1 < d.arg 14 2) else s.calInstBad (d.arg 12 1) (d.arg 14 2)) } →
    Gives (.calReload d) s (fun t =>
      (d.arg 12 1 = 6 → s.tcore.stbyIn = false → s.clk.active = !(d.arg 14 2 == 1) →
        t.cal = { s.cal with coreSet := true } ∧ Completed d 0xC602 .ok 0 [] t) ∧
      (d.arg 12 1 = 6 → (s.tcore.stbyIn = true ∨ s.clk.active = (d.arg 14 2 == 1)) → t.cal = s.cal ∧ Completed d 0xC602 .busy 0 [] t) ∧
      (d.arg 12 1 ≠ 6 → s.calSetState (d.arg 12 1) = .none → t.cal = s.cal ∧ t.ref = s.ref ∧ Completed d 0xC602 .ok 0 [] t) ∧
      (d.arg 12 1 ≠ 6 → s.calSetState (d.arg 12 1) = .bad →
        t.cal = s.cal ∧ t.evt = (s.raise Ev.calSetBad (d.arg 12 1)).evt ∧ Completed d 0xC602 .ok 0 [] t) ∧
      (d.arg 12 1 = 5 → s.calSetState 5 = .good → t.ref = { s.ref with mdl := s.calStoredModel } ∧ t.cal = s.cal ∧
        Completed d 0xC602 .ok 0 [] t) ∧
      (d.arg 12 1 < 5 → s.calSetState (d.arg 12 1) = .good →
        t.cal.nodes = s.calStored (d.arg 12 1) (d.arg 14 2) ++
          s.cal.nodes.filter (fun e => !(e.1.target == d.arg 12 1 && e.1.inst == d.arg 14 2)) ∧ Completed d 0xC602 .ok 0 [] t) ∧
      Touches (evtParts ++ cplParts ++ [Part.regs, .ref, .cal]) s t))

/-- R339, R340, R342, R343, R347, R349: an engine faults, drains, replays and runs: its tasks move to their standbys, which take over;
an engine that enters RUN takes the tasks that nobody holds. -/
def Obligations.EngineStates : Prop :=
  (∀ (s : State) (e cause k b : Nat), s.Up → s.eng.copy = none → (s.engOf e).st = .run →
    k ∈ s.singleTasks → (s.task k).holder = some e → (s.task k).standby = some b → b ≠ e → b < 16 → s.engRuns b = true →
    (Instr.wf (.engFaultDetect e cause) = true → Gives (.engFaultDetect e cause) s (fun t =>
      (t.engOf e).st = .fault ∧ (t.engOf e).cause = cause ∧
      t.task k = { s.task k with holder := none, standby := some b, moving := some e } ∧ t.isReady Rdy.eng = true)) ∧
    (e < 16 → Gives (.engWdogExpire e) s (fun t =>
      (t.engOf e).st = .fault ∧ (t.engOf e).cause = 1 ∧
      t.task k = { s.task k with holder := none, standby := some b, moving := some e }))) ∧
  (∀ (s : State) (e : Nat), s.Up → e < 16 → (s.engOf e).st ≠ .run → (s.engOf e).st ≠ .draining →
    Gives (.engWdogExpire e) s (fun t => Touches [] s t)) ∧
  (∀ (s : State) (k old b n : Nat), s.Up → k ∈ [2, 6, 7, 8] → (s.task k).moving = some old → (s.task k).standby = some b →
    s.engRuns b = true →
    Gives (.engTakeover k n) s (fun t =>
      (t.task k).holder = some b ∧ (t.task k).moving = none ∧ (t.task k).pin = (s.task k).pin ∧
      t.count Fld.engEAborted_VAL old = s.counted Fld.engEAborted_VAL old n ∧ (∀ j, j ≠ k → t.task j = s.task j) ∧
      Touches (evtParts ++ [Part.ready, .free, .eng, .rc .engEAborted]) s t)) ∧
  (∀ (s : State) (d : CmdDesc) (e : Nat), s.Up → d.wf = true → e = d.arg 12 1 →
    s.Accepts d 0xC801 (s.engChecks d (decide (2 ≤ d.arg 13 1) || !(d.zero 14 16) || !(d.zero 20 32))
      (decide ((s.engOf e).st ≠ .run) && decide ((s.engOf e).st ≠ .replay) && decide ((s.engOf e).st ≠ .draining))) →
    (bitAt (d.arg 13 1) 0 = true ∨ s.outRefused e = false) →
    (∀ k, k ∈ s.singleTasks → (s.task k).holder ≠ some e ∧ (s.task k).standby ≠ some e) →
    Gives (.engOut d) s (fun t =>
      ((s.engOf e).st = .run → s.chansOfEng e = [] → (t.engOf e).st = .draining ∧ (t.engOf e).out = some d ∧
        (t.engOf e).drained = 0 ∧ (t.engOf e).outAt = s.clk.now) ∧
      ((s.engOf e).st = .replay → (t.engOf e).st = .loaded ∧ Completed d 0xC801 .ok 0 (leBytes 0 12) t) ∧
      ((s.engOf e).st = .draining → t.eng = s.eng ∧ Completed d 0xC801 .busy 0 [] t) ∧
      (∀ j, j ≠ e → t.engOf j = s.engOf j))) ∧
  (∀ (s : State) (e : Nat), s.Up → e < 16 → (s.engOf e).st = .draining → s.chansOfEng e = [] →
    s.pwr.seq = .idle → s.pwr.state = 0 → s.pwr.pend = none →
    Gives (.engDrainEnd e) s (fun t =>
      (t.engOf e).st = .loaded ∧ (t.engOf e).out = none ∧ (t.engOf e).drained = 0 ∧
      (∀ d, (s.engOf e).out = some d →
        Completed d 0xC801 .ok 0 (leBytes (s.engOf e).drained 4 ++ leBytes 0 4 ++ leBytes ((s.clk.now - (s.engOf e).outAt) / 1000000) 4) t) ∧
      (∀ j, j ≠ e → t.engOf j = s.engOf j) ∧ Touches (evtParts ++ cplParts ++ [Part.eng]) s t)) ∧
  (∀ (s : State) (d : CmdDesc) (e : Nat), s.Up → d.wf = true → e = d.arg 12 1 →
    s.Accepts d 0xC803 (s.engChecks d (!(d.zero 13 32)) (decide ((s.engOf e).st ≠ .loaded))) →
    Gives (.engIn d) s (fun t =>
      t.engOf e = { s.engOf e with st := .replay, inCmd := some d } ∧ (∀ j, j ≠ e → t.engOf j = s.engOf j) ∧
      Touches (evtParts ++ cplParts ++ [Part.eng]) s t)) ∧
  (∀ (s : State) (e us : Nat), s.Up → e < 16 → (s.engOf e).st = .replay → s.pwr.seq ≠ .entry 9 →
    (∀ k, k ∈ s.singleTasks → ((s.task k).holder.isSome = true ∧ (s.task k).standby.isSome = true ∧ (s.task k).pin ≠ some e) ∨
      (k ∈ [2, 6, 7, 8] ∧ (s.task k).holder = none ∧ (s.task k).moving = none)) →
    Gives (.engReplayDone e us) s (fun t =>
      t.engOf e = { s.engOf e with st := .run, inCmd := none } ∧ t.isReady Rdy.eng = true ∧
      (∀ k, k ∈ s.singleTasks → (s.task k).holder = none → t.task k = { s.task k with holder := some e, standby := none }) ∧
      (∀ k, k ∈ s.singleTasks → (s.task k).holder.isSome = true → t.task k = s.task k) ∧
      (∀ d, (s.engOf e).inCmd = some d → Completed d 0xC803 .ok 0 (leBytes us 4) t) ∧
      Touches (evtParts ++ cplParts ++ [Part.ready, .eng]) s t))

/-- R344, R345, R348, R349, R351, R364: an image is checked and loaded; the floor rises; a task is pinned; and the policy tables are
set, read and saved. -/
def Obligations.EngineCommands : Prop :=
  (∀ (s : State) (d : CmdDesc) (e o : Nat), s.Up → d.wf = true → e = d.arg 12 1 → o = d.arg 16 4 →
    s.Accepts d 0xC802 (s.engChecks d (!(d.zero 13 16) || !(d.zero 20 32))
      (decide (o % 4096 ≠ 0) || decide (8388608 ≤ o) || !(s.bankOn (o / 262144)) || s.bankFw (o / 262144) ||
        decide ((s.engOf e).st = .off))) →
    Gives (.engLoad d) s (fun t =>
      (((s.engOf e).st = .run ∨ (s.engOf e).st = .replay ∨ (s.engOf e).st = .draining) →
        t.eng = s.eng ∧ Completed d 0xC802 .busy 0 [] t) ∧
      (∀ h c, ((s.engOf e).st = .idle ∨ (s.engOf e).st = .loaded ∨ (s.engOf e).st = .fault) → h = s.spadBytes o 256 →
        c = s.imageCheck h (s.spadBytes (o + 256) (min 196608 (leAt h 32 4))) →
        (c ≠ 0 → t.eng = s.eng ∧ Completed d 0xC802 .badArg 0 (leBytes 0 4 ++ leBytes c 1) t) ∧
        (c = 0 → (t.engOf e).st = .loaded ∧ (t.engOf e).image = some (imageOf h) ∧ t.eng.copy = some (imageOf h) ∧
          t.eng.fwBanks = (imageOf h).banks % 2 ^ 32 ∧ Completed d 0xC802 .ok 0 (leBytes (imageOf h).version 4) t)) ∧
      (∀ j, j ≠ e → t.engOf j = s.engOf j) ∧ Touches (evtParts ++ cplParts ++ [Part.eng]) s t)) ∧
  (∀ (s : State) (d : CmdDesc), s.Up → d.wf = true → s.Accepts d 0xC809 { unitChecks d false .eng true [] with
      badForm := (unitChecks d false .eng true []).badForm || !(d.zero 12 32), guarded := true } →
    Gives (.engImgCommit d) s (fun t =>
      (s.runners = [] → t.pers = s.pers ∧ Completed d 0xC809 .notReady 0 [] t) ∧
      (s.runners ≠ [] → s.persStatus 288 (BitVec.ofNat 32 s.secVerRun) = .ok →
        t.pers! 288 = BitVec.ofNat 32 s.secVerRun ∧ (∀ x, x ≠ 288 → t.pers! x = s.pers! x) ∧
        Completed d 0xC809 .ok 0 (leBytes s.secVerRun 2) t) ∧
      (t.key d.src.path).unlocked = false ∧ Touches (evtParts ++ cplParts ++ [Part.pers]) s t)) ∧
  (∀ (s : State) (d : CmdDesc) (k h b : Nat), s.Up → d.wf = true → k = d.arg 12 1 → h = d.arg 13 1 → b = d.arg 14 1 →
    s.Accepts d 0xC804 { unitChecks d false .eng true [] with
      absent := (decide (h < 16) && !(s.engPresent h)) || (decide (b < 16) && !(s.engPresent b)) || (k == 7 && !s.variant.gnss) ||
        (k == 10 && !s.variant.pair)
      badForm := (unitChecks d false .eng true []).badForm || !(d.zero 15 32)
      badArg := decide (10 < k) || k == 5 || (decide (16 ≤ h) && h != 0x1F) || (decide (16 ≤ b) && b != 0x1F) ||
        (decide (h < 16) && h == b) } →
    Gives (.engTaskPin d) s (fun t =>
      (h = 0x1F → t.task k = { s.task k with pin := none, pinStby := none } ∧ Completed d 0xC804 .ok 0 [] t) ∧
      (h ≠ 0x1F → s.engRuns h = false → t.eng = s.eng ∧ Completed d 0xC804 .notReady 0 [] t) ∧
      (∀ old, h ≠ 0x1F → s.engRuns h = true → (s.task k).holder = some old → old ≠ h →
        t.task k = { s.task k with
          pin := some h, pinStby := if b < 16 then some b else none, holder := none, standby := some h, moving := some old } ∧
        Completed d 0xC804 .ok 0 [] t))) ∧
  (∀ (s : State) (d : CmdDesc), s.Up → d.wf = true →
    s.Accepts d 0xC805 (polChecks d true ((List.range d.polCount).any (fun k => polBad d.polTable (d.buf (8 + 8 * k) 8)))) →
    Gives (.polSet d) s (fun t =>
      (∀ k, k < d.polCount → t.polEntry d.polTable (d.polFirst + k) = d.buf (8 + 8 * k) 8) ∧
      (∀ p i, (p ≠ d.polTable ∨ i < d.polFirst ∨ d.polFirst + d.polCount ≤ i) → t.polEntry p i = s.polEntry p i) ∧
      Completed d 0xC805 .ok 0 [] t ∧ (d.polTable ≠ 1 → Touches (cplParts ++ [Part.eng]) s t))) ∧
  (∀ (s : State) (d : CmdDesc), s.Up → d.wf = true → s.Accepts d 0xC806 (polChecks d false false) →
    Gives (.polGet d) s (fun t =>
      CompletedExt d 0xC806 .ok 0 [] (d.ext.take 8 ++
        ((List.range d.polCount).map (fun k => leBytes (s.polEntry d.polTable (d.polFirst + k)) 8)).flatten) t ∧
      Touches cplParts s t)) ∧
  (∀ (s : State) (d : CmdDesc), s.Up → d.wf = true → s.Accepts d 0xC807 { unitChecks d false .eng true [] with
      badForm := (unitChecks d false .eng true []).badForm || !(d.zero 12 32) } →
    (∀ w, 289 ≤ w → w ≤ 357 → s.wear w < 200000 ∧ s.persBusy w = false) → s.pers.busy.length < 8 →
    Gives (.polSave d) s (fun t =>
      (∀ e, e ∈ s.polWords → t.pers! e.1 = e.2) ∧ t.pers! 357 = polCrcWord (s.polWords.map (fun e => e.2)) ∧
      (∀ w, (w < 289 ∨ 357 < w) → t.pers! w = s.pers! w) ∧
      (∃ n, Completed d 0xC807 .ok 0 (leBytes n 4) t) ∧ Touches (cplParts ++ [Part.pers]) s t))

/-- R21, R352 to R356: writes of SPAD: a word of a bank that is on and not the firmware's takes them, beside port A's access in the same
cycle; a copy brings its bytes; a bank goes into its new mode, and off loses its contents. -/
def Obligations.Scratchpad : Prop :=
  (∀ (s : State) (o : Nat) (v : Word), s.Up → s.memWf → spadWord o = true → s.bankOn (o / 262144) = true → s.bankFw (o / 262144) = false →
    Gives (.spadWindowWrite o 15 v .idle) s (fun t =>
      t.spadWord o = v.toNat ∧ (∀ a, (a < o ∨ o + 4 ≤ a) → Memory.read 0 t.eng.spad a = Memory.read 0 s.eng.spad a) ∧
      Touches [.spad] s t) ∧
    Gives (.spadSetAliasWrite o v .idle) s (fun t =>
      t.spadWord o = (BitVec.ofNat 32 (s.spadWord o) ||| v).toNat ∧
      (∀ a, (a < o ∨ o + 4 ≤ a) → Memory.read 0 t.eng.spad a = Memory.read 0 s.eng.spad a) ∧ Touches [.spad] s t) ∧
    Gives (.spadClearAliasWrite o v .idle) s (fun t =>
      t.spadWord o = (BitVec.ofNat 32 (s.spadWord o) &&& ~~~ v).toNat ∧
      (∀ a, (a < o ∨ o + 4 ≤ a) → Memory.read 0 t.eng.spad a = Memory.read 0 s.eng.spad a) ∧ Touches [.spad] s t)) ∧
  (∀ (s : State) (o : Nat) (v w : Word), s.Up → s.memWf → spadWord o = true → s.bankOn (o / 262144) = true → s.bankFw (o / 262144) = false →
    Gives (.spadWindowWrite o 15 v (.write w)) s (fun t =>
      t.spadWord o = w.toNat ∧ t.count Fld.engSpadLost_VAL = s.counted Fld.engSpadLost_VAL ∧
      t.evt = (s.raise Ev.engSpadWriteLost o).evt ∧ Touches (evtParts ++ [Part.spad, .rc .engSpadLost]) s t) ∧
    Gives (.spadSetAliasWrite o v (.clear w)) s (fun t =>
      t.spadWord o = ((BitVec.ofNat 32 (s.spadWord o) &&& ~~~ w) ||| v).toNat ∧ Touches [.spad] s t)) ∧
  (∀ (s : State) (o : Nat) (be : BitVec 4) (v : Word), s.Up → spadWord o = true → be ≠ 15 →
    Gives (.spadWindowWrite o be v .idle) s (fun t =>
      t.count Fld.sysBadAccess_VAL = s.counted Fld.sysBadAccess_VAL ∧ Touches [.rc .sysBadAccess] s t)) ∧
  (∀ (s : State) (o : Nat) (v : Word), s.Up → spadWord o = true → s.bankFw (o / 262144) = true →
    Gives (.spadWindowWrite o 15 v .idle) s (fun t =>
      t.count Fld.engSpadBankErr_VAL = s.counted Fld.engSpadBankErr_VAL ∧ t.evt = (s.raise Ev.engSpadFwWrite o).evt ∧
      Touches (evtParts ++ [Part.rc .engSpadBankErr]) s t)) ∧
  (∀ (s : State) (o : Nat) (v : Word), s.Up → spadWord o = true → s.bankFw (o / 262144) = false → s.bankOn (o / 262144) = false →
    s.eng.bankOffAt = none →
    Gives (.spadWindowWrite o 15 v .idle) s (fun t =>
      t.count Fld.engSpadBankErr_VAL = s.counted Fld.engSpadBankErr_VAL ∧ t.evt = (s.raise Ev.engSpadBankOff o).evt ∧
      t.eng = { s.eng with bankOffAt := some s.clk.now } ∧ Touches (evtParts ++ [Part.eng, .rc .engSpadBankErr]) s t)) ∧
  (∀ (s : State) (o : Nat) (v : Word), s.Up → spadWord o = true →
    Gives (.spadToggleWrite o v) s (fun t =>
      t.count Fld.engSpadBankErr_VAL = s.counted Fld.engSpadBankErr_VAL ∧ Touches [.rc .engSpadBankErr] s t)) ∧
  (∀ (s : State) (d : CmdDesc) (data : List Byte) (o n : Nat), s.Up → s.memWf → d.wf = true → o = d.arg 16 4 → n = d.arg 28 4 →
    s.Accepts d 0xC808 { unitChecks d false .eng true [] with
      badForm := (unitChecks d false .eng true []).badForm || decide (2 ≤ d.arg 12 1) || !(d.zero 13 16)
      badArg := decide (o % 64 ≠ 0) || decide (d.arg 20 8 % 64 ≠ 0) || decide (n % 64 ≠ 0) || decide (n < 64) ||
        decide (8388608 < n) || decide (8388608 < o + n) ||
        (!(bitAt (d.arg 12 1) 0) && (List.range 32).any (fun b => s.bankFw b && decide (b * 262144 < o + n) &&
          decide (o < (b + 1) * 262144))) } →
    (∀ b, b < 32 → s.bankOn b = true) →
    Gives (.spadDma d data []) s (fun t =>
      (bitAt (d.arg 12 1) 0 = false →
        (∀ i, i < n / 4 → t.spadWord (o + 4 * i) = leAt data (4 * i) 4) ∧
        (∀ a, (a < o ∨ o + n ≤ a) → Memory.read 0 t.eng.spad a = Memory.read 0 s.eng.spad a)) ∧
      (bitAt (d.arg 12 1) 0 = true → t.eng.dmaOut = s.spadBytes o n ∧ ∀ a, Memory.read 0 t.eng.spad a = Memory.read 0 s.eng.spad a) ∧
      Completed d 0xC808 .ok 0 (leBytes 0 4 ++ leBytes 0xFFFFFFFF 4 ++ leBytes 0 4) t ∧
      Touches (cplParts ++ [Part.eng, .spad]) s t)) ∧
  (∀ (s : State) (b m : Nat), s.Up → s.memWf → Instr.wf (.spadBankTransitionDone b) = true → (s.bank b).target = some m →
    Gives (.spadBankTransitionDone b) s (fun t =>
      t.bank b = { mode := m } ∧ (∀ k, k ≠ b → t.bank k = s.bank k) ∧
      ((m = 2 ∨ (s.bank b).mode = 2) → ∀ a, b * 262144 ≤ a → a < (b + 1) * 262144 → Memory.read 0 t.eng.spad a = 0) ∧
      (m ≠ 2 → (s.bank b).mode ≠ 2 → ∀ a, Memory.read 0 t.eng.spad a = Memory.read 0 s.eng.spad a) ∧
      (∀ a, (a < b * 262144 ∨ (b + 1) * 262144 ≤ a) → Memory.read 0 t.eng.spad a = Memory.read 0 s.eng.spad a) ∧
      Touches [.eng, .spad] s t)) ∧
  (∀ (s : State) (p : Path) (hi : Bool) (v : Word), s.Up → p.wf = true → s.Writable ⟨.engSpadPwr, b2n hi, 0⟩ →
    Gives (.engSpadPwrWrite p hi v) s (fun t =>
      (∀ j, j < 16 → s.bankFw (16 * b2n hi + j) = false →
        (t.bank (16 * b2n hi + j)).target.getD (t.bank (16 * b2n hi + j)).mode = bankMode v j) ∧
      (∀ j, j < 16 → s.bankFw (16 * b2n hi + j) = true → s.bankOn (16 * b2n hi + j) = true →
        t.bank (16 * b2n hi + j) = s.bank (16 * b2n hi + j)) ∧
      ((∀ j, j < 16 → s.bankFw (16 * b2n hi + j) = false) → t.stored ⟨.engSpadPwr, b2n hi, 0⟩ = v ∧ t.evt = s.evt) ∧
      ((∃ j, j < 16 ∧ s.bankFw (16 * b2n hi + j) = true ∧ bankMode v j ≠ 0) → t.evt = (s.raise Ev.engCfgBad).evt) ∧
      OtherRegs ⟨.engSpadPwr, b2n hi, 0⟩ s t ∧ Touches (evtParts ++ [Part.regs, .eng]) s t))

/-- R357 to R361: the performance counters: clearing, the choice of what they count, a wrap, and the sample records. -/
def Obligations.PerformanceCounters : Prop :=
  (∀ (s : State) (e : Nat) (v : Word), s.Up → e < 16 → s.Writable ⟨.perfCtl, e, 0⟩ →
    Gives (.perfCtlClear e v) s (fun t =>
      (∀ k, k < 8 → bitAt v.toNat k = true → t.pcKnown e k = (if s.perfEvent e k = 0 then some 0 else none)) ∧
      (∀ k, (bitAt v.toNat k = false ∨ 8 ≤ k) → t.pcKnown e k = s.pcKnown e k) ∧
      (∀ x k, x ≠ e → t.pcKnown x k = s.pcKnown x k) ∧ Touches [.eng] s t)) ∧
  (∀ (s : State) (p : Path) (e : Nat) (hi : Bool) (v : Word), s.Up → p.wf = true → e < 16 → s.Writable ⟨.perfSel, e, b2n hi⟩ →
    (∀ j, j < 4 → fieldOf v (8 * j) 8 < 0x0C) →
    Gives (.perfSelWrite p e hi v) s (fun t =>
      t.stored ⟨.perfSel, e, b2n hi⟩ = v ∧
      (∀ j, j < 4 → fieldOf v (8 * j) 8 ≠ 0 → t.pcKnown e (4 * b2n hi + j) = none) ∧
      (∀ j, j < 4 → fieldOf v (8 * j) 8 = 0 → (t.pcKnown e (4 * b2n hi + j)).isSome = true ∧
        ((s.pcKnown e (4 * b2n hi + j)).isSome = true → t.pcKnown e (4 * b2n hi + j) = s.pcKnown e (4 * b2n hi + j))) ∧
      OtherRegs ⟨.perfSel, e, b2n hi⟩ s t ∧ Touches [.regs, .free, .eng] s t)) ∧
  (∀ (s : State) (e k : Nat), s.Up → e < 16 → k < 8 → s.perfEvent e k ≠ 0 →
    Gives (.perfPcWrap e k) s (fun t => bitAt (t.count Fld.perfCtl_OVF e) k = true ∧ Touches [.rc .perfCtl] s t)) ∧
  (∀ (s : State) (e a l n c : Nat), s.Up → e < 16 → s.sampleCount n = true → c = s.cycOf e % 2 ^ 32 → s.apB Fld.perfSampCfg_EN = true → bitAt (s.ap Fld.perfSampCfg_ENG) e = true →
    s.engRuns e = true →
    Gives (.perfSample e a l n) s (fun t =>
      (s.eng.samples.length < 4096 → t.eng = { s.eng with samples := s.eng.samples ++ [(e, a, l, c)] }) ∧
      (4096 ≤ s.eng.samples.length → s.apB Fld.perfSampCfg_STOP_FULL = true →
        t.eng = s.eng ∧ t.count Fld.perfSampDrop_VAL = s.counted Fld.perfSampDrop_VAL) ∧
      (4096 ≤ s.eng.samples.length → s.apB Fld.perfSampCfg_STOP_FULL = false →
        t.eng = { s.eng with samples := s.eng.samples.tail ++ [(e, a, l, c)] } ∧
        t.count Fld.perfSampDrop_VAL = s.counted Fld.perfSampDrop_VAL) ∧
      Touches [.eng, .rc .perfSampDrop] s t))

/-- R366 to R371, R378, R380: the lanes and frames of the Ommund link, the heartbeats that keep its paths, and the time exchange. That
SYS_READY.PAIR is one lane up follows R422. -/
def Obligations.PairLink : Prop :=
  (∀ (s : State) (n : Nat), s.Up → Instr.wf (.omdLaneUp n) = true → s.pairPowered = true →
    (s.padIn 16 = true → Gives (.omdLaneUp n) s (fun t =>
      t.pair.lanes = s.pair.lanes ||| 2 ^ n ∧ t.ready = putField s.ready Rdy.pair 1 1 ∧
      (s.pair.lanes = 0 → t.pair.timeSent = 0 ∧ t.pair.timeTx = [] ∧ t.pair.timeRx = none) ∧
      Touches (evtParts ++ [Part.ready, .pair]) s t)) ∧
    (bitAt s.pair.lanes n = true → Gives (.omdLaneDown n) s (fun t =>
      t.pair.lanes = s.pair.lanes - 2 ^ n ∧ t.ready = putField s.ready Rdy.pair 1 (b2n (decide (s.pair.lanes ≠ 2 ^ n))) ∧
      Touches (evtParts ++ [Part.ready, .pair]) s t))) ∧
  (∀ s : State, s.Up → s.pairPowered = true →
    Gives .omdFrameBad s (fun t => t.count Fld.pairOmdErr_CRC = s.counted Fld.pairOmdErr_CRC ∧ Touches [.rc .pairOmdErr] s t)) ∧
  (∀ (s : State) (q : Nat) (x : OmdTx), s.Up → s.omdUp = true → s.pair.txq.find? (fun x => x.seq == q) = some x →
    Gives (.omdRetransmit q) s (fun t =>
      (x.sends < 8 →
        t.pair = { s.pair with txq := s.pair.txq.map (fun y => if y.seq = q then { y with sends := y.sends + 1 } else y) } ∧
        t.count Fld.pairOmdErr_RETX = s.counted Fld.pairOmdErr_RETX ∧ Touches [.pair, .rc .pairOmdErr] s t) ∧
      (8 ≤ x.sends → t.pair.lanes = 0 ∧ t.pair.txq = s.pair.txq.map (fun y => { y with sends := 0 }) ∧ t.ready = putField s.ready Rdy.pair 1 0 ∧
        Touches (evtParts ++ [Part.ready, .pair]) s t))) ∧
  (∀ (s : State) (hb : HbPayload), s.Up → s.omdUp = true → hb.pairId = s.ap Fld.pairId_VAL → s.pair.st = .synced → hb.state ≠ 2 →
    Gives (.heartbeat hb) s (fun t =>
      t.pair.peer = some hb ∧ t.pair.omd.misses = 0 ∧ t.pair.omd.heard = true ∧ (s.pair.omd.ok = true → t.pair.omd.ok = true) ∧
      (s.pair.omd.ok = false → t.pair.omd.ok = decide (8 ≤ s.pair.omd.beats + 1)) ∧
      t.pair.txq = s.pair.txq.filter (fun x => !(seqBefore x.seq hb.ack)) ∧ (t.pair.txq = [] → t.pair.txSeq = hb.ack % 2 ^ 32) ∧
      (t.pair.txq ≠ [] → t.pair.txSeq = s.pair.txSeq) ∧ t.pair.st = .synced ∧ t.pair.role = s.pair.role ∧
      Touches (evtParts ++ [Part.pair]) s t)) ∧
  (∀ (s : State) (hb : HbPayload), s.Up → s.omdUp = true → hb.pairId = s.ap Fld.pairId_VAL → s.pair.st = .search → hb.role = 1 →
    s.inUse .flow = [] →
    Gives (.heartbeat hb) s (fun t =>
      (s.MirroredFit → t.fdb.entries = s.unmirrored) ∧
      t.pair.role = .standby ∧ t.pair.st = .resync ∧ t.pair.peer = some hb ∧ t.pair.mirrorOk = false ∧
      Touches (evtParts ++ [Part.sw, .fdb, .pair]) s t)) ∧
  (∀ (s : State) (p : Nat) (hb : HbPayload), s.Up → Instr.wf (.inbHeartbeatRx p hb) = true → s.pairOn = true →
    s.apB Fld.pairCfg_INB_EN = true → hb.pairId = s.ap Fld.pairId_VAL → s.pair.st = .synced → s.pair.omd.lost = false → hb.state ≠ 2 →
    s.inbPorts.contains p = true →
    (hb.unitId ≠ s.ap Fld.pairCfg_UNIT_ID → Gives (.inbHeartbeatRx p hb) s (fun t =>
      t.pair.peer = some hb ∧ t.pair.inb.misses = 0 ∧ t.pair.inb.heard = true ∧ t.pair.omd = s.pair.omd ∧
      Touches (evtParts ++ [Part.pair]) s t)) ∧
    (hb.unitId = s.ap Fld.pairCfg_UNIT_ID → Gives (.inbHeartbeatRx p hb) s (fun t => t = s))) ∧
  (∀ s : State, s.Up → s.pairOn = true →
    Gives .pairHbSend s (fun t =>
      t.pair = { s.pair with hbSent := s.pair.hbSent + 1, hbOut := t.pair.hbOut, inbOut := t.pair.inbOut } ∧
      t.pair.hbOut = some {
        pairId := s.ap Fld.pairId_VAL, unitId := s.ap Fld.pairCfg_UNIT_ID, role := s.pair.role.code, state := s.pair.st.code
        inbOk := s.pair.inb.ok, tstate := s.tcore.tstate.code, primaryS := s.pair.primaryS
        lastSeq := (s.pair.rxSeq + 2 ^ 32 - 1) % 2 ^ 32, ack := s.pair.rxSeq } ∧
      (s.apB Fld.pairCfg_INB_EN = false → t.pair.inbOut = s.pair.inbOut) ∧
      (s.apB Fld.pairCfg_INB_EN = true → ∃ x, t.pair.inbOut = some x ∧ some x.payload = t.pair.hbOut ∧ x.ports = s.inbPorts ∧
        x.dst = s.ap Fld.pairInbMacLo_VAL + 2 ^ 32 * s.ap Fld.pairInbMacHi_MAC ∧ x.vid = s.ap Fld.pairInbMacHi_VID) ∧
      Touches [.pair] s t)) ∧
  (∀ s : State, s.Up → s.pairOn = true → s.pair.st = .synced → s.pair.role = .primary → s.apB Fld.pairCfg_INB_EN = true →
    s.pair.follow = false → s.pair.rehearsing = false → s.pair.inb.heard = true → s.pair.inb.ok = true →
    (s.pair.omd.heard = true → s.pair.omd.ok = true → Gives .pairHbMissCheck s (fun t =>
      t.pair = { s.pair with omd := { s.pair.omd with heard := false }, inb := { s.pair.inb with heard := false } } ∧
      Touches [.pair] s t)) ∧
    (s.pair.omd.heard = false → s.pair.omd.ok = true → s.pair.omd.misses = 2 → Gives .pairHbMissCheck s (fun t =>
      t.pair.omd.ok = false ∧ t.pair.omd.misses = 3 ∧ t.pair.st = .isolated ∧ t.pair.role = .primary ∧ t.pair.mirrorOk = false ∧
      t.pair.txq = [] ∧ t.count Fld.pairHbMiss_OMD = s.counted Fld.pairHbMiss_OMD ∧
      Touches (evtParts ++ [Part.fdb, .pair, .rc .pairHbMiss]) s t))) ∧
  (∀ s : State, s.Up → s.omdUp = true →
    Gives .pairTimeSend s (fun t =>
      t.pair = { s.pair with
        timeSent := s.pair.timeSent + 1, timeTx := (s.todFrac :: s.pair.timeTx).take 2
        timeOut := some (s.todFrac, s.pair.timeRx) } ∧ Touches [.pair] s t)) ∧
  (∀ (s : State) (x : TimeExch), s.Up → Instr.wf (.time x) = true → s.omdUp = true →
    s.pair.follow = false →
    Gives (.time x) s (fun t =>
      ((∀ e, x.echo = some e → s.pair.timeTx.contains e.1 = false) → t.pair = { s.pair with timeRx := some (x.tx, s.todFrac) }) ∧
      (∀ e, x.echo = some e → s.pair.timeTx.contains e.1 = true → t.pair = { s.pair with
        timeRx := some (x.tx, s.todFrac)
        timeOff := roundDiv ((s.todFrac : Int) - x.tx - ((e.2 : Int) - e.1) - psToFrac (s.apI Fld.pairOmdAsym_VAL)) 2
        timeRtt := (s.todFrac : Int) - x.tx + ((e.2 : Int) - e.1) }) ∧
      Touches [.pair] s t)) ∧
  (∀ s : State, s.Up → s.pairOn = true → s.pair.st = .search →
    Gives .pairSearchTimeout s (fun t =>
      t.pair.role = .primary ∧ t.pair.st = .alone ∧ t.pair.primaryS = 0 ∧ t.evt = (s.raise Ev.pairState 5 1).evt ∧
      Touches (evtParts ++ [Part.fdb, .pair]) s t))

/-- R368, R374 to R377, R382, R383: frames of the link apply in order, one behind a gap is held and one already applied is dropped; what
each kind of frame brings to the standby, and what the primary sends. -/
def Obligations.PairMirror : Prop :=
  (∀ (s : State) (h : OmdHdr) (l : List FdbRec), s.Up → s.omdUp = true → h.seq % 2 ^ 32 ≠ s.pair.rxSeq →
    Gives (.fdbDelta h l) s (fun t =>
      t.pair.rxSeq = s.pair.rxSeq ∧ t.fdb = s.fdb ∧
      (seqBefore s.pair.rxSeq (h.seq % 2 ^ 32) = true → s.pair.held.any (fun x => x.1 == h.seq % 2 ^ 32) = false →
        t.pair.held = s.pair.held ++ [(h.seq % 2 ^ 32, OmdPayload.fdb l)]) ∧
      (seqBefore s.pair.rxSeq (h.seq % 2 ^ 32) = false → t.pair.held = s.pair.held) ∧ Touches [.pair] s t)) ∧
  (∀ (s : State) (h : OmdHdr) (r : FdbRec), s.Up → s.InOrder h → (s.omdAck h.ack).fdbCrosses r.mac r.vid = false →
    s.fdb.verFull = false →
    (∀ a, r.remove = false → s.fdbEntry? r.mac r.vid = none →
      (fdbBuckets (r.mac, r.vid)).find? (fun b => (fdbAt s.fdb.entries b).isNone) = some a → Gives (.fdbDelta h [r]) s (fun t =>
      s.TookFrame t ∧ t.fdbEntry? r.mac r.vid = some { dest := r.dest, mirrored := true, loc := BitVec.ofNat 32 a } ∧
      (∀ m v, (m, v) ≠ (r.mac, r.vid) → t.fdbEntry? m v = s.fdbEntry? m v) ∧ Touches (evtParts ++ [Part.fdb, .pair]) s t)) ∧
    (∀ e, r.remove = false → s.fdbEntry? r.mac r.vid = some e → e.static = false → Gives (.fdbDelta h [r]) s (fun t =>
      s.TookFrame t ∧ t.fdbEntry? r.mac r.vid = some { e with dest := r.dest, mirrored := true } ∧
      (∀ m v, (m, v) ≠ (r.mac, r.vid) → t.fdbEntry? m v = s.fdbEntry? m v) ∧ Touches (evtParts ++ [Part.fdb, .pair]) s t)) ∧
    (∀ e, r.remove = true → s.fdbEntry? r.mac r.vid = some e → e.mirrored = true → e.static = false →
      Gives (.fdbDelta h [r]) s (fun t =>
        s.TookFrame t ∧ t.fdbEntry? r.mac r.vid = none ∧
        (∀ m v, (m, v) ≠ (r.mac, r.vid) → t.fdbEntry? m v = s.fdbEntry? m v) ∧ Touches (evtParts ++ [Part.fdb, .pair]) s t)) ∧
    (∀ e, s.fdbEntry? r.mac r.vid = some e → e.static = true →
      Gives (.fdbDelta h [r]) s (fun t => s.TookFrame t ∧ t.fdb = s.fdb ∧ Touches [.pair] s t))) ∧
  (∀ (s : State) (h : OmdHdr) (r : FdbRec), s.Up → s.InOrder h → s.fdb.verFull = true → s.pair.role ≠ .primary →
    Gives (.fdbDelta h [r]) s (fun t =>
      s.TookFrame t ∧ t.fdb = s.fdb ∧ t.count Fld.fdbLearnSkip_VAL = s.counted Fld.fdbLearnSkip_VAL ∧
      Touches [.pair, .rc .fdbLearnSkip] s t)) ∧
  (∀ (s : State) (h : OmdHdr) (r : FlowRec), s.Up → s.InOrder h → s.pair.role = .standby → s.stale .flow r.handle = false →
    s.flowCopies (hIndex r.handle) = [] →
    (r.op = 2 → Gives (.flowDelta h [r]) s (fun t =>
      s.TookFrame t ∧ (t.obj .flow (hIndex r.handle)).phase = .suspended ∧ Touches omdParts s t)) ∧
    (r.op = 3 → Gives (.flowDelta h [r]) s (fun t =>
      s.TookFrame t ∧ (t.obj .flow (hIndex r.handle)).phase = .active ∧
      (t.flow (hIndex r.handle)).tokens = bucketFull (s.flow (hIndex r.handle)).maxFrame ∧ Touches omdParts s t)) ∧
    (r.op = 1 → (s.obj .flow (hIndex r.handle)).waiting = [] → (s.obj .flow (hIndex r.handle)).drain = none →
      Gives (.flowDelta h [r]) s (fun t =>
        s.TookFrame t ∧ t.obj? .flow (hIndex r.handle) = none ∧ Touches omdParts s t))) ∧
  (∀ (s : State) (h : OmdHdr) (r : FlowRec) (b : Nat), s.Up → s.InOrder h → s.pair.role = .standby → r.op = 0 → s.admBusy = false →
    s.stale .flow r.handle = true → s.obj? .flow (hIndex r.handle) = none →
    s.capFault (flowArgsOf r.desc.objArgs) (s.flowsTo (flowArgsOf r.desc.objArgs).out none) = 0 →
    s.boundOf (flowArgsOf r.desc.objArgs) (s.flowsTo (flowArgsOf r.desc.objArgs).out none) (r.f % 2 ^ 32) = some b →
    b ≤ (flowArgsOf r.desc.objArgs).boundReq →
    s.canReserve (s.reservePool (flowArgsOf r.desc.objArgs)) (flowReserve (flowArgsOf r.desc.objArgs) b) none = true →
    r.f % 2 ^ 32 ≤ s.fAdm → s.taskHeld 10 = true → s.pair.queue = [] →
    Gives (.flowDelta h [r]) s (fun t =>
      s.TookFrame t ∧ t.obj? .flow (hIndex r.handle) = some { args := r.desc.objArgs, extra := [] } ∧
      (t.flow (hIndex r.handle)).bound = b ∧ t.sw.wait = none ∧
      (∃ x : OmdTx, t.pair.txq = s.pair.txq.filter (fun x => !(seqBefore x.seq h.ack)) ++ [x] ∧ x.seq = s.pair.txSeq ∧
        x.payload = .flow [t.flowRec (hIndex r.handle) 4]) ∧ Touches omdParts s t)) ∧
  (∀ (s : State) (h : OmdHdr) (x : TimeStateRec), s.Up → s.InOrder h → s.pair.role = .standby → s.pair.follow = false →
    Gives (.timeState h x) s (fun t => s.TookFrame t ∧ t.pair.mirror = some x ∧ Touches [.pair] s t)) ∧
  (∀ (s : State) (h : OmdHdr) (r : CbRec) (f : CbFn), s.Up → s.InOrder h → s.pair.role = .standby → Tab.find s.fdb.cb r.fn = some f →
    Gives (.cbState h [r]) s (fun t =>
      s.TookFrame t ∧
      (f.src = r.src ∨ f.type ≠ 0 ∨ s.verBusy [.cb r.fn] = true →
        Tab.find t.fdb.cb r.fn = some { f with wrap := r.wrap % 256 } ∧ Touches [.fdb, .pair] s t) ∧
      (f.src ≠ r.src → f.type = 0 → s.verBusy [.cb r.fn] = false →
        Tab.find t.fdb.cb r.fn = some { f with wrap := r.wrap % 256, src := r.src } ∧
        t.fdb.version (.cb r.fn) = (s.fdb.version (.cb r.fn) + 1) % 65536) ∧
      (∀ n, n ≠ r.fn → Tab.find t.fdb.cb n = Tab.find s.fdb.cb n) ∧ Touches (evtParts ++ [Part.fdb, .pair]) s t)) ∧
  (∀ (s : State) (h : OmdHdr) (n : Nat), s.Up → s.InOrder h → s.pair.role = .standby → s.pair.st = .synced → s.pair.follow = false →
    s.pair.rehearsing = false → s.inUse .flow = [] → s.MirroredFit →
    Gives (.resyncBegin h n) s (fun t =>
      t.pair.rxSeq = (s.pair.rxSeq + 1) % 2 ^ 32 ∧ t.pair.st = .resync ∧ t.pair.mirrorOk = false ∧ t.pair.destroyed = 0 ∧
      t.fdb.entries = s.unmirrored ∧ Touches omdParts s t)) ∧
  (∀ (s : State) (h : OmdHdr) (x : TimeStateRec), s.Up → s.InOrder h → s.pair.role = .standby → s.pair.st = .resync →
    s.pair.follow = false →
    Gives (.resyncData h [] [] (some x) []) s (fun t =>
      s.TookFrame t ∧ t.pair.mirror = some x ∧ t.pair.records = s.pair.records + 1 ∧ Touches omdParts s t)) ∧
  (∀ (s : State) (h : OmdHdr) (n : Nat), s.Up → s.InOrder h → s.pair.role = .standby → s.pair.st = .resync →
    s.apB Fld.pairCfg_FOLLOW_EN = false → s.pair.resyncCmd = none →
    Gives (.resyncEnd h n) s (fun t =>
      t.pair.rxSeq = (s.pair.rxSeq + 1) % 2 ^ 32 ∧ t.pair.st = .synced ∧ t.pair.mirrorOk = true ∧ t.pair.role = .standby ∧
      Touches omdParts s t)) ∧
  (∀ (s : State) (h : OmdHdr) (sec : Nat), s.Up → s.InOrder h → s.pair.role = .standby → s.pair.st = .synced → s.pair.mirrorOk = true →
    Gives (.role h sec) s (fun t => s.TookFrame t ∧ t.pair.switchAt = some sec ∧ Touches [.pair] s t)) ∧
  (∀ s : State, s.Up → s.omdUp = true → s.pair.role = .primary → s.pair.st = .synced → s.taskHeld 10 = true → s.pair.queue = [] →
    Gives .pairStateSend s (fun t =>
      t.pair.txq = s.pair.txq ++ [{ seq := s.pair.txSeq, payload := .timeState s.timeStateRec },
        { seq := (s.pair.txSeq + 1) % 2 ^ 32, payload := .cb s.cbRecs }] ∧
      t.pair.txSeq = (s.pair.txSeq + 1 + 1) % 2 ^ 32 ∧ Touches [.pair] s t)) ∧
  (∀ s : State, s.Up → s.pair.queue ≠ [] →
    Gives .mirrorDeltaAge s (fun t => t.pair = { s.pair with mirrorOk := false } ∧ Touches [.pair] s t)) ∧
  (∀ (s : State) (w : FlowWait), s.Up → s.sw.wait = some w → w.stage = 1 → w.mirror = false → w.modify = false → s.sw.admQ = [] →
    Gives .pairFlowTimeout s (fun t =>
      t.sw.wait = none ∧ t.obj? .flow w.index = some { args := w.desc.objArgs, extra := [] } ∧ (t.flow w.index).bound = w.bound ∧
      Completed w.desc 0x0101 .ok (s.handleOf .flow w.index) (boundBytes (some w.bound)) t ∧
      Touches (cplParts ++ [Part.index, .objs, .sw, .fab, .bpm, .fdb]) s t))

/-- R36, R374, R382, R385, R388: role requests, rehearsals, and the commands of the PAIR family. -/
def Obligations.PairRequests : Prop :=
  (∀ (s : State) (p : Path) (v : Word), s.Up → p.wf = true → s.variant.pair = true →
    (s.unlocked p = false → Gives (.pairRoleWrite p v) s (fun t =>
      t.evt = (s.raise Ev.sysKeyReject (RegKey.addr ⟨.pairRole, 0, 0⟩)).evt ∧ Touches evtParts s t)) ∧
    (s.unlocked p = true → s.pairOn = true → fieldOf v 0 2 = 2 → s.pair.role = .primary → s.pair.st = .synced → s.pair.mirrorOk = true →
      s.pair.switchAt = none → Gives (.pairRoleWrite p v) s (fun t =>
        t.ap Fld.pairRole_REQ = 2 ∧ t.pair.switchAt = some s.switchSecond ∧
        t.pair.txq = s.pair.txq ++ [{ seq := s.pair.txSeq, payload := .role s.switchSecond }] ∧ t.unlocked p = false ∧
        Touches [.keys, .regs, .pair] s t)) ∧
    (s.unlocked p = true → s.pairOn = true → fieldOf v 0 2 = 1 → s.pair.role = .standby → s.pair.st = .resync →
      Gives (.pairRoleWrite p v) s (fun t =>
        t.evt = (s.raise Ev.pairRoleRefused).evt ∧ t.unlocked p = false ∧ t.regs = s.regs ∧ t.pair = s.pair ∧
        Touches (.keys :: evtParts) s t)) ∧
    (s.unlocked p = true → s.pairOn = true → fieldOf v 0 2 = 1 → s.pair.role = .standby → s.pair.st = .alone →
      s.pair.follow = false → s.pair.rehearsing = false → s.pair.resyncCmd = none → Gives (.pairRoleWrite p v) s (fun t =>
        t.pair.role = .primary ∧ t.pair.st = .alone ∧ t.count Fld.pairPromoteCnt_VAL = s.counted Fld.pairPromoteCnt_VAL ∧
        t.evt = (s.raise Ev.pairPromote 2 (s.objCount .flow) 1).evt ∧
        Touches (evtParts ++ [Part.keys, .regs, .fdb, .pair, .rc .pairPromoteCnt]) s t))) ∧
  (∀ (s : State) (d : CmdDesc), s.Up → d.wf = true → s.pair.role = .standby → s.pair.st = .synced → s.pair.rehearsing = false →
    s.Accepts d 0xCC01 (s.pairChecks d 12 false false) →
    Gives (.pairRehearse d) s (fun t => t.pair = { s.pair with rehearsing := true, rehearseCmd := some d } ∧ Touches [.hif, .pair, .boot] s t)) ∧
  (∀ s : State, s.Up → s.pairOn = true → s.ap Fld.pairCfg_REHEARSE_H ≠ 0 → s.pair.role = .standby → s.pair.st = .synced →
    s.pair.rehearsing = false →
    Gives .pairRehearseTimer s (fun t => t.pair = { s.pair with rehearsing := true, rehearseCmd := none } ∧ Touches [.pair] s t)) ∧
  (∀ (s : State) (a m r : Bool) (rate ms : Nat) (d : CmdDesc), s.Up → Instr.wf (.rehearsalEnd a rate m r ms) = true →
    s.pair.rehearsing = true → s.pair.rehearseCmd = some d →
    Gives (.rehearsalEnd a rate m r ms) s (fun t =>
      t.pair.rehearsing = false ∧
      (s.pair.mirrorOk = false → t.pair.rehearsal.getD 1 0 = 1 ∧ (t.pair.rehearsal.getD 0 0).getLsbD 0 = false) ∧
      Completed d 0xCC01 .ok 0 t.pair.rehearsal t ∧ Touches (evtParts ++ cplParts ++ [Part.pair]) s t)) ∧
  (∀ (s : State) (d : CmdDesc), s.Up → d.wf = true → s.pair.role = .standby → s.pair.resyncCmd = none →
    s.Accepts d 0xCC02 (s.pairChecks d 12 true false) →
    (s.pair.st = .isolated → Gives (.pairResync d) s (fun t =>
      t.pair = { s.pair with resyncCmd := some d } ∧ Touches [.hif, .pair, .boot] s t)) ∧
    (s.pair.st = .synced → s.pair.follow = false → s.pair.rehearsing = false → s.inUse .flow = [] → s.MirroredFit →
      Gives (.pairResync d) s (fun t =>
        t.pair.st = .resync ∧ t.pair.resyncCmd = some d ∧ t.pair.mirrorOk = false ∧
        t.fdb.entries = s.unmirrored ∧ Touches omdParts s t))) ∧
  (∀ (s : State) (d : CmdDesc) (x : CbFn), s.Up → d.wf = true → s.pair.role ≠ .standby → Tab.find s.fdb.cb (d.arg 12 2) = some x →
    x.type = 0 → d.arg 12 2 < 1024 → d.arg 14 1 ≤ 2 → s.Accepts d 0xCC03 (s.pairChecks d 15 true false) →
    s.verBusy [.cb (d.arg 12 2)] = false →
    Gives (.pairCbSet d) s (fun t =>
      Tab.find t.fdb.cb (d.arg 12 2) = some { x with src := d.arg 14 1 } ∧
      (∀ n, n ≠ d.arg 12 2 → Tab.find t.fdb.cb n = Tab.find s.fdb.cb n) ∧ Completed d 0xCC03 .ok 0 [] t ∧
      (s.mirroring = true → s.taskHeld 10 = true → s.pair.queue = [] → t.pair.txq = s.pair.txq ++
        [{ seq := s.pair.txSeq, payload := .cb [⟨d.arg 12 2, x.wrap, d.arg 14 1⟩] }]) ∧
      Touches (evtParts ++ cplParts ++ [Part.fdb, .pair, .rc .pairMirOvf]) s t))

/-- R392, R393, R396 to R398: a power request: refused, taken at once, opposite to an entry or pending behind a wake; the forced request
is key-guarded; pads are released for domains that are on. -/
def Obligations.PowerRequests : Prop :=
  (∀ (s : State) (p : Path) (v : Word), s.Up → p.wf = true → s.Writable ⟨.pwrReq, 0, 0⟩ → (p = .pcie ∨ p = .i2c) →
    Gives (.pwrRequest p v) s (fun t =>
      (s.pwr.forced = true → t.pwr = s.pwr ∧ t.evt = (s.raise Ev.pwrReqRefused 2).evt) ∧
      (s.pwr.forced = false → s.pwr.seq = .idle → s.pwr.state = 0 → s.pwr.pend = none → 2 ≤ fieldOf v 0 2 → s.ringsDown = false →
        t.pwr = s.pwr ∧ t.evt = (s.raise Ev.pwrReqRefused 1).evt) ∧
      (s.pwr.forced = false → s.pwr.seq = .idle → s.pwr.state = 1 → fieldOf v 0 2 = 0 → t.pwr = (s.startWake 0 0).pwr) ∧
      (s.pwr.forced = false → s.pwr.seq = .idle → s.pwr.state = 0 → s.pwr.pend = none → fieldOf v 0 2 = 1 → s.trimWords = (0, 0) →
        (∀ d, s.heldDown d = false) → t.pwr.state = 1 ∧ t.pwr.seq = .idle ∧ t.pwr.ap = 3 ∧ t.pwr.target = 1) ∧
      (∀ k, s.pwr.forced = false → s.pwr.seq = .entry k → k ≠ 9 → fieldOf v 0 2 ≤ s.pwr.from' →
        t.pwr = { s.pwr with opposite := some (fieldOf v 0 2, false) }) ∧
      (∀ k, s.pwr.forced = false → s.pwr.seq = .wake k → t.pwr = { s.pwr with pend := some (fieldOf v 0 2) }))) ∧
  (∀ (s : State) (e : Nat) (v : Word), s.Up → Instr.wf (.pwrRequest (.eng e) v) = true → s.Writable ⟨.pwrReq, 0, 0⟩ →
    Gives (.pwrRequest (.eng e) v) s (fun t => Touches [] s t)) ∧
  (∀ (s : State) (p : Path) (v : Word), s.Up → p.wf = true → s.Writable ⟨.pwrForce, 0, 0⟩ → s.unlocked p = false →
    Gives (.pwrForceGo p v) s (fun t =>
      t.pwr = s.pwr ∧ t.regs = s.regs ∧ t.evt = (s.raise Ev.sysKeyReject (RegKey.addr ⟨.pwrForce, 0, 0⟩)).evt ∧
      Touches evtParts s t)) ∧
  (∀ (s : State) (p : Path) (v : Word), s.Up → p.wf = true → s.Writable ⟨.pwrForce, 0, 0⟩ → s.unlocked p = true →
    Gives (.pwrForceGo p v) s (fun t =>
      (bitAt v.toNat 2 = false → fieldOf (t.stored ⟨.pwrForce, 0, 0⟩) 0 2 = fieldOf v 0 2 ∧ t.pwr = s.pwr ∧ OtherRegs ⟨.pwrForce, 0, 0⟩ s t) ∧
      (bitAt v.toNat 2 = true → fieldOf v 0 2 = 0 → s.pwr.state = 0 → s.pwr.seq = .idle → s.pwr.outGroups = [] → s.ringsDown = true →
        (∀ d, s.heldDown d = false) → t.pwr = { s.pwr with pend := none, opposite := none }) ∧
      (t.key p).unlocked = false)) ∧
  (∀ (s : State) (p : Path) (v : Word), s.Up → p.wf = true → s.Writable ⟨.pwrPadRel, 0, 0⟩ →
    Gives (.padRelease p v) s (fun t =>
      (∀ b, b < 17 → bitAt v.toNat b = true → s.domOn (padDom b) = true → fieldOf t.pwr.padHeld b 1 = 0) ∧
      (∀ b, b < 32 → (bitAt v.toNat b = false ∨ 17 ≤ b ∨ s.domOn (padDom b) = false) →
        fieldOf t.pwr.padHeld b 1 = fieldOf s.pwr.padHeld b 1) ∧
      t.pwr = { s.pwr with padHeld := t.pwr.padHeld } ∧ Touches [.pwr] s t))

/-- R392, R394, R395, R399, R400: an entry whose drains have ended reaches its state, or is given up for a wake; a wake event starts a
wake, which goes through its supplies and switches to its end, or fails. -/
def Obligations.EntryAndWake : Prop :=
  (∀ s : State, s.Up → s.pwr.seq = .entry 2 → s.pwr.outGroups = [] → s.pwr.pend = none → (∀ d, s.heldDown d = false) →
    Gives .pwrEntryDrainEnd s (fun t =>
      (s.pwr.opposite = none → s.pwr.target = 1 → s.pwr.trim = (0, 0) →
        t.pwr.state = 1 ∧ t.pwr.seq = .idle ∧ t.pwr.ap = 3 ∧ t.pwr.forced = false ∧ t.pwr.pwrdnReqN = true) ∧
      (s.pwr.opposite = some (0, true) → s.pwr.state = 0 → s.pwr.outEngines = [] →
        t.pwr.state = 0 ∧ t.pwr.seq = .idle ∧ t.pwr.ap = 2 ∧ t.pwr.opposite = none))) ∧
  (∀ s : State, s.Up → s.pwr.forced = false → s.pwr.seq = .idle → s.wakeTarget < s.pwr.state → s.pwr.state ≠ 3 →
    (bitAt (s.ap Fld.pwrWakeEn_VAL) 0 = true → Gives .wakeNEvent s (fun t =>
      t.pwr = (s.startWake s.wakeTarget 1).pwr ∧ bitAt (t.count Fld.pwrWakeSrc_VAL) 0 = true ∧ Touches (evtParts ++ [Part.pwr, .rc .pwrWakeSrc]) s t)) ∧
    (bitAt (s.ap Fld.pwrWakeEn_VAL) 1 = true → Gives .perstDeassert s (fun t =>
      t.pwr = (s.startWake s.wakeTarget 2).pwr ∧ bitAt (t.count Fld.pwrWakeSrc_VAL) 1 = true ∧ Touches (evtParts ++ [Part.pwr, .rc .pwrWakeSrc]) s t)) ∧
    (bitAt (s.ap Fld.pwrWakeEn_VAL) 2 = true → s.ap Fld.pwrWakeTimer_VAL ≠ 0 → Gives .pwrWakeTimerMatch s (fun t =>
      t.pwr = (s.startWake s.wakeTarget 4).pwr ∧ bitAt (t.count Fld.pwrWakeSrc_VAL) 2 = true ∧ Touches (evtParts ++ [Part.pwr, .rc .pwrWakeSrc]) s t))) ∧
  (∀ s : State, s.Up → bitAt (s.ap Fld.pwrWakeEn_VAL) 0 = false → Gives .wakeNEvent s (fun t => Touches [] s t)) ∧
  (∀ (s : State) (l : List Nat), s.Up → s.pwr.seq = .wake 2 → l ≠ [] →
    l = s.allDoms.filter (fun d => s.heldDown d && !(s.downIn s.pwr.target s.pwr.trim d)) →
    Gives .pwrWakeSupplyOk s (fun t =>
      t.pwr = { s.pwr with seq := .wake 3, wakeDoms := l, wakeBad := false } ∧
      (2 ≤ s.pwr.from' → t.sw.vset = 880) ∧ (s.pwr.from' < 2 → t.sw = s.sw) ∧ Touches [.pwr, .sw] s t)) ∧
  (∀ (s : State) (cause : Nat), s.Up → Instr.wf (.pwrWakeSupplyTimeout cause) = true → s.pwr.seq = .wake 2 → s.pwr.pend = none →
    Gives (.pwrWakeSupplyTimeout cause) s (fun t =>
      t.pwr = { s.pwr with
        seq := .idle, forced := false, wakeFail := true, failCause := cause, failDom := 0, aonBypass := true } ∧
      t.count Fld.pwrFailCnt_VAL = s.counted Fld.pwrFailCnt_VAL ∧ Touches (evtParts ++ [Part.pwr, .rc .pwrFailCnt]) s t)) ∧
  (∀ (s : State) (d x : Nat), s.Up → Instr.wf (.pwrSwitchTimeout d) = true → s.pwr.seq = .wake 3 → d ∈ s.pwr.wakeDoms →
    x ∈ s.pwr.wakeDoms → x ≠ d →
    Gives (.pwrSwitchTimeout d) s (fun t =>
      t.pwr = { s.pwr with
        wakeDoms := s.pwr.wakeDoms.filter (fun y => y != d), wakeBad := true
        wakeFail := true, failCause := 6, failDom := d, aonBypass := true } ∧
      t.count Fld.pwrFailCnt_VAL = s.counted Fld.pwrFailCnt_VAL ∧ Touches (evtParts ++ [Part.pwr, .rc .pwrFailCnt]) s t) ∧
    (d < 14 → Gives (.pwrSwitchGood d) s (fun t =>
      t.domOn d = true ∧ t.pwr.wakeDoms = s.pwr.wakeDoms.filter (fun y => y != d) ∧ t.pwr.seq = .wake 3 ∧
      (∀ y, y ≠ d → t.domOn y = s.domOn y)))) ∧
  (∀ s : State, s.Up → s.pwr.seq = .wake 6 → s.pwr.target = 0 → s.pwr.pend = none →
    Gives .pwrWakeDone s (fun t =>
      t.pwr = { s.pwr with
        state := 0, seq := .idle, forced := false
        wakeFail := s.pwr.wakeFail && s.pwr.wakeBad, aonBypass := s.pwr.aonBypass && s.pwr.wakeBad } ∧
      Touches (evtParts ++ [Part.ready, .pwr]) s t))

/-- R49, R403, R404, R437: what each reset leaves: everything as after reset, but the flash, the persistent words, the identity and the
waiting commands; a pulse on RST_N of 0.5 µs or less is ignored, one of 1 µs or more resets; KEEP_TIME keeps the cores and PLL-T. -/
def Obligations.Resets : Prop :=
  (∀ s : State, s.pers.busy = [] →
    Gives .powerOnReset s (fun t =>
      t.pwr = { State.reset.pwr with inReset := true } ∧ t.pers.words = s.pers.words ∧ t.flash = s.flash ∧ SameId s t ∧
      t.pending = s.pending ∧ Touches [.variant, .fused, .clk, .free, .pending, .flash, .pers, .cal, .pwr] State.reset t)) ∧
  (∀ (s : State) (ns : Nat), s.Up →
    (ns ≤ 500 → Gives (.partReset ns) s (fun t => t = s)) ∧
    (1000 ≤ ns → bitAt (s.pers! 0).toNat 2 = false → Gives (.partReset ns) s (fun t =>
      t.pwr.inReset = true ∧ t.pwr.jtagIr = s.pwr.jtagIr ∧ t.pers.words = s.pers.words ∧ t.flash = s.flash ∧ SameId s t ∧
      t.pending = s.pending ∧ Touches [.variant, .fused, .clk, .free, .pending, .flash, .pers, .cal, .pwr] State.reset t)) ∧
    (1000 ≤ ns → bitAt (s.pers! 0).toNat 2 = true → Gives (.partReset ns) s (fun t =>
      t.pwr.inReset = true ∧ t.pwr.keepTime = true ∧ t.clk = s.clk ∧ t.pllOf 0 = s.pllOf 0 ∧
      (s.tcore.tstate = .locked ∨ s.tcore.tstate = .holdover → t.tcore.tstate = .holdover) ∧
      (s.tcore.tstate = .freerun → t.tcore.tstate = .freerun) ∧
      Touches [.variant, .fused, .clk, .free, .pending, .flash, .pers, .cal, .pwr, .regs, .pll, .tcore, .ref] State.reset t))) ∧
  (∀ (s : State) (p : Path) (v : Word), s.Up → p.wf = true →
    (s.unlocked p = false → Gives (.sysRstPart p v) s (fun t =>
      t.evt = (s.raise Ev.sysKeyReject (RegKey.addr ⟨.sysRst, 0, 0⟩)).evt ∧ Touches evtParts s t)) ∧
    (s.unlocked p = true → bitAt v.toNat 0 = true → s.boot.straps.noFlash = true → Gives (.sysRstPart p v) s (fun t =>
      t.boot = { straps := s.boot.straps, cmdDone := true } ∧ t.flash = s.flash ∧ t.objs = State.reset.objs ∧
      t.index = State.reset.index ∧ (t.pllOf 3).st = .acq ∧ t.pers.words = s.pers.words ∧ t.tic = State.reset.tic ∧
      SameId s t ∧ t.pending = s.pending)))

/-- R405 to R408, R413, R434 to R436, R442, R443: the boot without a flash and under STRAP_TEST, the command records of the
configuration, the flash commands, and the test access port. -/
def Obligations.BootAndFlash : Prop :=
  (∀ (s : State) (x : Straps),
    (s.pwr.inReset = false → s.isReady Rdy.sys = true → Gives (.bootStart x) s (fun t => t = s)) ∧
    (s.pwr.inReset = true → x.test = true → Gives (.bootStart x) s (fun t =>
      t.pwr.inReset = true ∧ t.boot = { s.boot with straps := x } ∧ Touches [.boot, .pwr] s t)) ∧
    (s.pwr.inReset = true → x.test = false → x.noFlash = true → Gives (.bootStart x) s (fun t =>
      t.boot = { straps := x, cmdDone := true } ∧ (t.pllOf 3).st = .acq ∧ t.pll.refclkOk = true ∧ t.flash = s.flash ∧
      t.pers = s.pers))) ∧
  (∀ (s : State) (late : Bool), s.Up → (s.boot.cmds = [] ∨ s.boot.running = true) →
    Gives (.bootCommandRecord late) s (fun t => t = s)) ∧
  (∀ (s : State) (raw : List Byte) (l : List (List Byte)), s.Up → s.boot.cmds = raw :: l → s.boot.running = false →
    (opReady (leAt raw 0 2)).any (fun b => !(s.isReady b)) = true → Gives (.bootCommandRecord false) s (fun t => t = s)) ∧
  (∀ (s : State) (late : Bool) (raw : List Byte) (l : List (List Byte)) (d : CmdDesc) (c : CmdDesc → Instr), s.Up →
    s.boot.cmds = raw :: l → s.boot.running = false →
    (late = true ∨ (opReady (leAt raw 0 2)).all (fun b => s.isReady b) = true) →
    d = { src := .boot, flags := raw.getD 2 0, rsvd := raw.getD 3 0, tag := BitVec.ofNat 32 (leAt raw 4 4)
          handle := BitVec.ofNat 32 (leAt raw 8 4), args := raw.drop 12 } → d.wf = true → d.hasExt = false →
    (leAt raw 0 2, c) ∈ [(0x0101, Instr.flowCreate), (0x0102, .flowModify), (0x0104, .flowDestroy), (0x0201, .tchanCreate),
      (0x0202, .tchanModify), (0x0204, .tchanDestroy), (0x0301, .mchanCreate), (0x0401, .mirrorCreate), (0x0501, .searchJobCreate),
      (0x0601, .calJobCreate), (0x9802, .gclGet), (0xA001, .boundQuery), (0xA401, .bpmCarve), (0xA801, .fdbAdd), (0xA802, .fdbDel),
      (0xA804, .fdbFlush), (0xA807, .fdbClsSet), (0xA809, .fdbCbSet), (0xB001, .timeStep), (0xB002, .timeSet), (0xB801, .refCandSet),
      (0xC401, .ticArm), (0xC402, .ticStop), (0xC804, .engTaskPin), (0xC805, .polSet), (0xCC03, .pairCbSet)] →
    Gives (.bootCommandRecord late) s (fun t =>
      exec (c d) { s with boot := { s.boot with cmds := l, running := true } } = .next t)) ∧
  (∀ (s : State) (d : CmdDesc) (us : Nat), s.Up → s.memWf → d.wf = true → s.boot.straps.noFlash = false →
    (s.calSlot false).valid = false → (s.calSlot true).valid = false → (∀ b, b < 32 → s.bankOn b = true) →
    (∀ b, b < 32 → s.bankFw b = true → rangesMeet (d.arg 16 4) (d.arg 20 4) (b * 262144) 262144 = false) →
    s.Accepts d 0x8001 (s.flashChecks d true 64) →
    Gives (.flashRead d us) s (fun t =>
      (∀ i, i < d.arg 20 4 → Memory.read 0 t.eng.spad (d.arg 16 4 + i) = Memory.read flashErased s.flash (d.arg 12 4 + i)) ∧
      (∀ a, (a < d.arg 16 4 ∨ d.arg 16 4 + d.arg 20 4 ≤ a) → Memory.read 0 t.eng.spad a = Memory.read 0 s.eng.spad a) ∧
      Completed d 0x8001 .ok 0 (leBytes us 4) t ∧ t.flash = s.flash)) ∧
  (∀ (s : State) (d : CmdDesc) (ms : Nat), s.Up → s.memWf → d.wf = true → s.boot.straps.noFlash = false → s.cal.saving = none →
    (∀ b, b < 32 → s.bankOn b = true) → s.Accepts d 0x8002 { s.flashChecks d true 4096 with guarded := true } →
    Gives (.flashWrite d true ms) s (fun t =>
      (∀ i, i < d.arg 20 4 → Memory.read flashErased t.flash (d.arg 12 4 + i) = Memory.read 0 s.eng.spad (d.arg 16 4 + i)) ∧
      (∀ a, (a < d.arg 12 4 ∨ d.arg 12 4 + d.arg 20 4 ≤ a) → Memory.read flashErased t.flash a = Memory.read flashErased s.flash a) ∧
      Completed d 0x8002 .ok 0 (leBytes (d.arg 20 4 / 4096) 4 ++ leBytes ms 4) t ∧ t.unlocked d.src.path = false ∧
      t.eng = s.eng)) ∧
  (∀ (s : State) (c : Nat), c < 256 →
    (s.pwr.inReset = true ∨ scanCode c = s.pwr.scan → Gives (.jtagUpdateIr c) s (fun t =>
      t.pwr = { s.pwr with scan := scanCode c, jtagIr := c } ∧ Touches [.pwr] s t)) ∧
    (s.pwr.inReset = false → scanCode c = true → s.pwr.scan = false → Gives (.jtagUpdateIr c) s (fun t =>
      ∀ n, n < s.variant.ports → (t.lane n).lock = false)))
end

