-- ==== Sys2Proof/Laws/Tab.lean ====
section
/-! SUPPORT. Laws of finite tables and of the byte memories: a read after a write, and the canonical form. -/

set_option Elab.async false

namespace Sys2Proof.Machine

theorem Tab.get_filter_ne {κ α : Type} [DecidableEq κ] (d : α) (t : Tab κ α) (k k' : κ) (h : k' ≠ k) :
    Tab.get d (t.filter (fun e => !decide (e.1 = k))) k' = Tab.get d t k' := by
  induction t with
  | nil => rfl
  | cons e t ih =>
    obtain ⟨a, b⟩ := e
    by_cases ha : a = k
    · subst ha
      simp [Tab.get, ih, Ne.symm h]
    · simp [Tab.get, ha, ih]

/-- A read after a write of the same key gives the value written. -/
@[simp] theorem Tab.get_set_self {κ α : Type} [DecidableEq κ] (d : α) (t : Tab κ α) (k : κ) (v : α) :
    Tab.get d (Tab.set t k v) k = v := by
  simp [Tab.set, Tab.get]

/-- A write leaves every other key alone. -/
theorem Tab.get_set_ne {κ α : Type} [DecidableEq κ] (d : α) (t : Tab κ α) (k k' : κ) (v : α) (h : k' ≠ k) :
    Tab.get d (Tab.set t k v) k' = Tab.get d t k' := by
  simp [Tab.set, Tab.get, Ne.symm h, Tab.get_filter_ne d t k k' h]

theorem Tab.get_set {κ α : Type} [DecidableEq κ] (d : α) (t : Tab κ α) (k k' : κ) (v : α) :
    Tab.get d (Tab.set t k v) k' = if k' = k then v else Tab.get d t k' := by
  split
  · next h => subst h; simp
  · next h => exact Tab.get_set_ne d t k k' v h

theorem Tab.find_filter_ne {κ α : Type} [DecidableEq κ] (t : Tab κ α) (k k' : κ) (h : k' ≠ k) :
    Tab.find (t.filter (fun e => !decide (e.1 = k))) k' = Tab.find t k' := by
  induction t with
  | nil => rfl
  | cons e t ih =>
    obtain ⟨a, b⟩ := e
    by_cases ha : a = k
    · subst ha
      simp [Tab.find, ih, Ne.symm h]
    · simp [Tab.find, ha, ih]

@[simp] theorem Tab.find_set_self {κ α : Type} [DecidableEq κ] (t : Tab κ α) (k : κ) (v : α) :
    Tab.find (Tab.set t k v) k = some v := by
  simp [Tab.set, Tab.find]

theorem Tab.find_set_ne {κ α : Type} [DecidableEq κ] (t : Tab κ α) (k k' : κ) (v : α) (h : k' ≠ k) :
    Tab.find (Tab.set t k v) k' = Tab.find t k' := by
  simp [Tab.set, Tab.find, Ne.symm h, Tab.find_filter_ne t k k' h]

@[simp] theorem Tab.find_erase_self {κ α : Type} [DecidableEq κ] (t : Tab κ α) (k : κ) : Tab.find (Tab.erase t k) k = none := by
  induction t with
  | nil => rfl
  | cons e t ih =>
    obtain ⟨a, b⟩ := e
    by_cases ha : a = k
    · subst ha; simpa [Tab.erase] using ih
    · simp only [Tab.erase, ne_eq, decide_not] at ih
      simp [Tab.erase, ha, Tab.find, ih]

/-! ## Byte memories -/

/-- Every entry lies above `lo`, and the form holds. -/
theorem Memory.wf_cons {d : Byte} {a : Nat} {b : Byte} {m : List Host.Cell} :
    Memory.wf d ((a, b) :: m) = true ↔ b ≠ d ∧ (∀ e ∈ m.head?, a < e.1) ∧ Memory.wf d m = true := by
  cases m with
  | nil => simp [Memory.wf]
  | cons e m =>
    obtain ⟨a', b'⟩ := e
    simp [Memory.wf, and_assoc]

theorem Memory.wf_tail {d : Byte} {e : Host.Cell} {m : List Host.Cell} (h : Memory.wf d (e :: m) = true) : Memory.wf d m = true := by
  obtain ⟨a, b⟩ := e
  exact (Memory.wf_cons.mp h).2.2

/-- In canonical form every address of the rest lies above the first. -/
theorem Memory.wf_lt {d : Byte} {a : Nat} {b : Byte} {m : List Host.Cell} (h : Memory.wf d ((a, b) :: m) = true) :
    ∀ e ∈ m, a < e.1 := by
  induction m generalizing a b with
  | nil => simp
  | cons e m ih =>
    obtain ⟨a', b'⟩ := e
    have h1 := Memory.wf_cons.mp h
    intro x hx
    simp only [List.mem_cons] at hx
    have h2 : a < a' := h1.2.1 (a', b') (by simp)
    obtain rfl | hx := hx
    · exact h2
    · exact lt_trans h2 (ih h1.2.2 x hx)

theorem Memory.write_head {d : Byte} {m : List Host.Cell} {a lo : Nat} {b : Byte} (hlo : lo < a)
    (h : ∀ e ∈ m, lo < e.1) : ∀ e ∈ Memory.write d m a b, lo < e.1 := by
  induction m with
  | nil =>
    intro e he
    simp only [Memory.write] at he
    split at he <;> simp at he
    subst he; exact hlo
  | cons e m ih =>
    obtain ⟨a', b'⟩ := e
    have h1 := h (a', b') (by simp)
    have h2 : ∀ e ∈ m, lo < e.1 := fun e he => h e (by simp [he])
    intro x hx
    simp only [Memory.write] at hx
    split at hx
    · split at hx
      · exact h x hx
      · simp only [List.mem_cons] at hx
        obtain rfl | hx := hx
        · exact hlo
        · exact h x (by simpa using hx)
    · split at hx
      · split at hx
        · exact h2 x hx
        · simp only [List.mem_cons] at hx
          obtain rfl | hx := hx
          · exact hlo
          · exact h2 x hx
      · simp only [List.mem_cons] at hx
        obtain rfl | hx := hx
        · exact h1
        · exact ih h2 x hx

/-- A write keeps the canonical form. -/
theorem Memory.write_wf (d : Byte) (m : List Host.Cell) (a : Nat) (b : Byte) (h : Memory.wf d m = true) :
    Memory.wf d (Memory.write d m a b) = true := by
  induction m with
  | nil =>
    simp only [Memory.write]
    split
    · rfl
    · simpa [Memory.wf]
  | cons e m ih =>
    obtain ⟨a', b'⟩ := e
    have h1 := Memory.wf_cons.mp h
    simp only [Memory.write]
    split
    · next hlt =>
      split
      · exact h
      · next hb => exact Memory.wf_cons.mpr ⟨hb, by simpa using hlt, h⟩
    · next hnlt =>
      split
      · next heq =>
        subst heq
        split
        · exact h1.2.2
        · next hb => exact Memory.wf_cons.mpr ⟨hb, h1.2.1, h1.2.2⟩
      · next hne =>
        have hlt : a' < a := by omega
        refine Memory.wf_cons.mpr ⟨h1.1, ?_, ih h1.2.2⟩
        intro e he
        have := Memory.write_head (d := d) (b := b) hlt (Memory.wf_lt h) e
        exact this (List.mem_of_mem_head? he)

theorem Memory.writes_wf (d : Byte) (m : List Host.Cell) (a : Nat) (l : List Byte) (h : Memory.wf d m = true) :
    Memory.wf d (Memory.writes d m a l) = true := by
  induction l generalizing m a with
  | nil => exact h
  | cons b l ih => exact ih _ _ (Memory.write_wf d m a b h)

/-- Clearing a range keeps the canonical form. -/
theorem Memory.clear_wf (d : Byte) (m : List Host.Cell) (lo hi : Nat) (h : Memory.wf d m = true) :
    Memory.wf d (Memory.clear m lo hi) = true := by
  induction m with
  | nil => rfl
  | cons e m ih =>
    obtain ⟨a, b⟩ := e
    have h1 := Memory.wf_cons.mp h
    have h2 := ih h1.2.2
    simp only [Memory.clear] at h2 ⊢
    by_cases hc : a < lo ∨ hi ≤ a
    · rw [List.filter_cons_of_pos (by simpa using hc)]
      refine Memory.wf_cons.mpr ⟨h1.1, ?_, h2⟩
      intro e he
      exact Memory.wf_lt h e (List.mem_of_mem_filter (List.mem_of_mem_head? he))
    · rw [List.filter_cons_of_neg (by simpa using hc)]
      exact h2

/-- A byte read after it is written is the byte written. -/
theorem Memory.read_write_self (d : Byte) (m : List Host.Cell) (a : Nat) (b : Byte) (h : Memory.wf d m = true) :
    Memory.read d (Memory.write d m a b) a = b := by
  induction m with
  | nil =>
    simp only [Memory.write, Memory.read]
    split
    · next hb => subst hb; rfl
    · simp [Tab.get]
  | cons e m ih =>
    obtain ⟨a', b'⟩ := e
    have h1 := Memory.wf_cons.mp h
    have low : ∀ (n : List Host.Cell) (x : Nat), (∀ e ∈ n, x < e.1) → Tab.get d n x = d := by
      intro n x hn
      induction n with
      | nil => rfl
      | cons e n ih =>
        obtain ⟨y, z⟩ := e
        have := hn (y, z) (by simp)
        simp only [Tab.get]
        rw [if_neg (by simp at this; omega)]
        exact ih (fun e he => hn e (by simp [he]))
    simp only [Memory.write, Memory.read] at ih ⊢
    split
    · next hlt =>
      split
      · next hb =>
        subst hb
        refine low _ _ (fun e he => ?_)
        simp only [List.mem_cons] at he
        obtain rfl | he := he
        · exact hlt
        · exact lt_trans hlt (Memory.wf_lt h e he)
      · simp [Tab.get]
    · split
      · next heq =>
        subst heq
        split
        · next hb => subst hb; exact low _ _ (Memory.wf_lt h)
        · simp [Tab.get]
      · next hne =>
        simp only [Tab.get]
        rw [if_neg (by omega)]
        exact ih h1.2.2

/-- A byte write leaves every other byte as it was. -/
theorem Memory.read_write_ne (d : Byte) (m : List Host.Cell) (a a' : Nat) (b : Byte) (hne : a' ≠ a) :
    Memory.read d (Memory.write d m a b) a' = Memory.read d m a' := by
  induction m with
  | nil =>
    simp only [Memory.write, Memory.read]
    split
    · rfl
    · simp [Tab.get, Ne.symm hne]
  | cons e m ih =>
    obtain ⟨x, y⟩ := e
    simp only [Memory.write, Memory.read] at ih ⊢
    split
    · split
      · rfl
      · simp [Tab.get, Ne.symm hne]
    · split
      · next heq =>
        subst heq
        split
        · simp [Tab.get, Ne.symm hne]
        · simp [Tab.get, Ne.symm hne]
      · simp only [Tab.get]
        split
        · rfl
        · exact ih

/-- Writing consecutive bytes leaves every byte outside them as it was. -/
theorem Memory.read_writes_out (d : Byte) (m : List Host.Cell) (a : Nat) (l : List Byte) (x : Nat)
    (h : x < a ∨ a + l.length ≤ x) : Memory.read d (Memory.writes d m a l) x = Memory.read d m x := by
  induction l generalizing m a with
  | nil => rfl
  | cons b l ih =>
    simp only [Memory.writes, List.length_cons] at h ⊢
    rw [ih (Memory.write d m a b) (a + 1) (by omega), Memory.read_write_ne d m a x b (by omega)]

end Sys2Proof.Machine
end

