-- ==== Sys2Proof/Laws/Bits.lean ====
section
/-! SUPPORT. A bit field after it is replaced, and a counter after it counts. -/

set_option Elab.async false

namespace Sys2Proof.Machine


theorem maskOf_getLsbD (lo w i : Nat) (h : lo + w ≤ 32) : (maskOf lo w).getLsbD i = (decide (lo ≤ i) && decide (i < lo + w)) := by
  unfold maskOf
  rw [BitVec.getLsbD_ofNat, Nat.testBit_mul_two_pow, Nat.testBit_two_pow_sub_one]
  by_cases h1 : lo ≤ i
  · by_cases h2 : i < lo + w
    · simp [h1, h2, show i < 32 by omega, show i - lo < w by omega]
    · simp [h1, h2, show ¬ (i - lo < w) by omega]
  · simp [h1]

theorem fieldOf_putField_self (v : Word) (lo w x : Nat) (h : lo + w ≤ 32) : fieldOf (putField v lo w x) lo w = x % 2 ^ w := by
  apply Nat.eq_of_testBit_eq
  intro i
  unfold fieldOf bitsOf putField
  rw [Nat.testBit_mod_two_pow, Nat.testBit_div_two_pow, Nat.testBit_mod_two_pow]
  by_cases hi : i < w
  · simp only [hi, decide_true, Bool.true_and, BitVec.testBit_toNat, BitVec.getLsbD_or, BitVec.getLsbD_and, BitVec.getLsbD_not,
      maskOf_getLsbD _ _ _ h, BitVec.getLsbD_ofNat, Nat.testBit_mul_two_pow, Nat.testBit_mod_two_pow]
    have h1 : lo ≤ i + lo := by omega
    have h2 : i + lo < lo + w := by omega
    have h3 : i + lo < 32 := by omega
    simp [h1, h2, h3, hi]
  · simp [hi]

theorem fieldOf_putField_ne (v : Word) (lo w x lo' w' : Nat) (h : lo + w ≤ 32) (hd : lo + w ≤ lo' ∨ lo' + w' ≤ lo) :
    fieldOf (putField v lo w x) lo' w' = fieldOf v lo' w' := by
  apply Nat.eq_of_testBit_eq
  intro i
  unfold fieldOf bitsOf putField
  rw [Nat.testBit_mod_two_pow, Nat.testBit_div_two_pow, Nat.testBit_mod_two_pow, Nat.testBit_div_two_pow]
  by_cases hi : i < w'
  · simp only [hi, decide_true, Bool.true_and, BitVec.testBit_toNat, BitVec.getLsbD_or, BitVec.getLsbD_and, BitVec.getLsbD_not,
      maskOf_getLsbD _ _ _ h, BitVec.getLsbD_ofNat, Nat.testBit_mul_two_pow, Nat.testBit_mod_two_pow]
    rcases hd with hd | hd
    · have h2 : ¬ (i + lo' < lo + w) := by omega
      have h3 : ¬ (i + lo' - lo < w) := by omega
      by_cases h4 : i + lo' < 32 
      · simp [h2, h3, h4]
      · have h5 : v.getLsbD (i + lo') = false := BitVec.getLsbD_of_ge _ _ (by omega)
        simp [h3, h5]
    · have h2 : ¬ (lo ≤ i + lo') := by omega
      have h4 : i + lo' < 32 := by omega
      simp [h2, h4]
  · simp [hi]

/-- A counter counts and saturates (R24). -/
theorem State.count_bump (s : State) (f : FieldRef) (i n : Nat) (h : f.lo + f.width ≤ 32) :
    (s.bump f i n).count f i = s.counted f i n := by
  have hs : satAdd f.width (s.count f i) n < 2 ^ f.width := by
    have := Nat.two_pow_pos f.width
    unfold satAdd; omega
  simp only [State.bump, State.count, State.rcWord, Tab.get_set_self]
  rw [fieldOf_putField_self _ _ _ _ h]
  exact Nat.mod_eq_of_lt hs

/-- Another counter of the same register does not move. -/
theorem State.count_bump_ne (s : State) (f f' : FieldRef) (i n : Nat) (h : f.lo + f.width ≤ 32)
    (hd : f.lo + f.width ≤ f'.lo ∨ f'.lo + f'.width ≤ f.lo) (hr : f'.reg = f.reg) : (s.bump f i n).count f' i = s.count f' i := by
  simp only [State.bump, State.count, State.rcWord, hr, Tab.get_set_self]
  exact fieldOf_putField_ne _ _ _ _ _ _ h hd

/-- Counters of other registers and other instances do not move. -/
theorem State.count_bump_other (s : State) (f f' : FieldRef) (i j n : Nat) (h : f'.reg ≠ f.reg ∨ j ≠ i) :
    (s.bump f i n).count f' j = s.count f' j := by
  simp only [State.bump, State.count, State.rcWord]
  rw [Tab.get_set_ne]
  intro he
  injection he with h1 h2
  exact h.elim (fun k => k h1) (fun k => k h2)

theorem State.count_of_rc {s t : State} {f : FieldRef} {i : Nat} (h : (Part.rc f.reg).same s t) : t.count f i = s.count f i := by
  simp only [State.count, h i 0]

end Sys2Proof.Machine
end

