-- ==== Sys2Proof/Laws/Touches.lean ====
section
/-! SUPPORT. The relation `Touches` (what a step may change) composes: laws for one field, for a conditional and for a fold, and the
lemma of each shared operation that raises, completes or checks. -/

set_option Elab.async false

namespace Sys2Proof.Machine

theorem Part.same_refl (p : Part) (s : State) : p.same s s := by
  cases p <;> simp [Part.same]

theorem Part.same_trans {p : Part} {s t u : State} (h : p.same s t) (k : p.same t u) : p.same s u := by
  cases p <;> simp_all [Part.same]

theorem Touches.refl (ps : List Part) (s : State) : Touches ps s s := fun p _ => p.same_refl s

theorem Touches.step {ps : List Part} {s t u : State} (h : Touches ps s t) (k : Touches ps t u) : Touches ps s u :=
  fun p hp => Part.same_trans (h p hp) (k p hp)

theorem Touches.ite {ps : List Part} {s t u : State} {c : Prop} [Decidable c] (h : Touches ps s t) (k : Touches ps s u) :
    Touches ps s (if c then t else u) := by split <;> assumption

theorem Touches.foldl {α : Type} {ps : List Part} {f : State → α → State} (hf : ∀ s x, Touches ps s (f s x)) (l : List α)
    {s t : State} (h : Touches ps s t) : Touches ps s (l.foldl f t) := by
  induction l generalizing t with
  | nil => exact h
  | cons x l ih => exact ih (h.step (hf t x))

theorem Touches.elim {α : Type} {ps : List Part} {s t : State} {o : Option α} {f : α → State} (h : Touches ps s t)
    (k : ∀ a, Touches ps s (f a)) : Touches ps s (o.elim t f) := by cases o <;> [exact h; exact k _]

theorem Touches.getD {ps : List Part} {s t : State} {o : Option State} (h : Touches ps s t)
    (k : ∀ u, o = some u → Touches ps s u) : Touches ps s (o.getD t) := by cases o <;> [exact h; exact k _ rfl]

theorem Touches.haveS {ps : List Part} {s t u : State} (h : Touches ps s t) (k : Touches ps s t → Touches ps s u) :
    Touches ps s u := k h

/-- `ps` takes in every part that `ws` does. -/
def Part.within (ws ps : List Part) : Bool := ws.all (fun p => ps.any (fun q => q.covers p))

theorem Part.covers_trans {a b c : Part} (h : a.covers b = true) (k : b.covers c = true) : a.covers c = true := by
  simp only [Part.covers, Bool.or_eq_true, decide_eq_true_eq, Bool.and_eq_true] at h k ⊢
  obtain rfl | ⟨rfl, h⟩ := h
  · exact k
  · obtain rfl | ⟨rfl, k⟩ := k
    · exact Or.inr ⟨rfl, h⟩
    · simp at h

theorem Part.covers_self (p : Part) : p.covers p = true := by simp [Part.covers]

theorem Part.within_mem {p : Part} {ws ps : List Part} (h : ws.any (fun q => q.covers p) = true) (hw : Part.within ws ps = true) :
    ps.any (fun q => q.covers p) = true := by
  obtain ⟨q, hq, hc⟩ := List.any_eq_true.mp h
  obtain ⟨x, hx, hd⟩ := List.any_eq_true.mp (List.all_eq_true.mp hw q hq)
  exact List.any_eq_true.mpr ⟨x, hx, Part.covers_trans hd hc⟩

theorem Part.within_trans {as bs cs : List Part} (h : Part.within as bs = true) (k : Part.within bs cs = true) :
    Part.within as cs = true :=
  List.all_eq_true.mpr (fun p hp => Part.within_mem (List.all_eq_true.mp h p hp) k)

theorem Touches.mono {ws ps : List Part} {s t : State} (h : Touches ws s t) (hw : Part.within ws ps = true) : Touches ps s t := by
  intro p hp
  refine h p (Bool.eq_false_iff.mpr (fun hc => ?_))
  rw [Part.within_mem hc hw] at hp
  exact absurd hp (by decide)

theorem Touches.mk {ws ps : List Part} {s t : State} {xfused} {xclk} {xready} {xkeys} {xregs} {xrc} {xmbx} {xrd} {xrdHi} {xrdI2c} {xevt} {xpers} {xhif} {xindex} {xobjs} {xlanes} {xgrps} {xsw} {xfab} {xbpm} {xfdb} {xtcore} {xtchans} {xlnk} {xref} {xfree} {xpll} {xgnss} {xtic} {xcal} {xeng} {xpair} {xpwr} {xboot} {xflash} {xpending} (hw : Part.within ws ps = true) (h : Touches ps s t)
    (hfused : xfused = t.fused ∨ ps.any (fun q => q.covers .fused) = true := by first | exact .inl rfl | exact .inr (Part.within_mem rfl hw))
    (hclk : xclk = t.clk ∨ ps.any (fun q => q.covers .clk) = true := by first | exact .inl rfl | exact .inr (Part.within_mem rfl hw))
    (hready : xready = t.ready ∨ ps.any (fun q => q.covers .ready) = true := by first | exact .inl rfl | exact .inr (Part.within_mem rfl hw))
    (hkeys : xkeys = t.keys ∨ ps.any (fun q => q.covers .keys) = true := by first | exact .inl rfl | exact .inr (Part.within_mem rfl hw))
    (hregs : xregs = t.regs ∨ ps.any (fun q => q.covers .regs) = true := by first | exact .inl rfl | exact .inr (Part.within_mem rfl hw))
    (hrc : xrc = t.rc ∨ ps.any (fun q => q.covers .counters) = true := by first | exact .inl rfl | exact .inr (Part.within_mem rfl hw))
    (hmbx : xmbx = t.mbx ∨ ps.any (fun q => q.covers .mbx) = true := by first | exact .inl rfl | exact .inr (Part.within_mem rfl hw))
    (hrd : xrd = t.rd ∨ ps.any (fun q => q.covers .rd) = true := by first | exact .inl rfl | exact .inr (Part.within_mem rfl hw))
    (hrdHi : xrdHi = t.rdHi ∨ ps.any (fun q => q.covers .rd) = true := by first | exact .inl rfl | exact .inr (Part.within_mem rfl hw))
    (hrdI2c : xrdI2c = t.rdI2c ∨ ps.any (fun q => q.covers .rdI2c) = true := by first | exact .inl rfl | exact .inr (Part.within_mem rfl hw))
    (hevt : xevt = t.evt ∨ ps.any (fun q => q.covers .evt) = true := by first | exact .inl rfl | exact .inr (Part.within_mem rfl hw))
    (hpers : xpers = t.pers ∨ ps.any (fun q => q.covers .pers) = true := by first | exact .inl rfl | exact .inr (Part.within_mem rfl hw))
    (hhif : xhif = t.hif ∨ ps.any (fun q => q.covers .hif) = true := by first | exact .inl rfl | exact .inr (Part.within_mem rfl hw))
    (hindex : xindex = t.index ∨ ps.any (fun q => q.covers .index) = true := by first | exact .inl rfl | exact .inr (Part.within_mem rfl hw))
    (hobjs : xobjs = t.objs ∨ ps.any (fun q => q.covers .objs) = true := by first | exact .inl rfl | exact .inr (Part.within_mem rfl hw))
    (hlanes : xlanes = t.lanes ∨ ps.any (fun q => q.covers .lanes) = true := by first | exact .inl rfl | exact .inr (Part.within_mem rfl hw))
    (hgrps : xgrps = t.grps ∨ ps.any (fun q => q.covers .grps) = true := by first | exact .inl rfl | exact .inr (Part.within_mem rfl hw))
    (hsw : xsw = t.sw ∨ ps.any (fun q => q.covers .sw) = true := by first | exact .inl rfl | exact .inr (Part.within_mem rfl hw))
    (hfab : xfab = t.fab ∨ ps.any (fun q => q.covers .fab) = true := by first | exact .inl rfl | exact .inr (Part.within_mem rfl hw))
    (hbpm : xbpm = t.bpm ∨ ps.any (fun q => q.covers .bpm) = true := by first | exact .inl rfl | exact .inr (Part.within_mem rfl hw))
    (hfdb : xfdb = t.fdb ∨ ps.any (fun q => q.covers .fdb) = true := by first | exact .inl rfl | exact .inr (Part.within_mem rfl hw))
    (htcore : xtcore = t.tcore ∨ ps.any (fun q => q.covers .tcore) = true := by first | exact .inl rfl | exact .inr (Part.within_mem rfl hw))
    (htchans : xtchans = t.tchans ∨ ps.any (fun q => q.covers .tchans) = true := by first | exact .inl rfl | exact .inr (Part.within_mem rfl hw))
    (hlnk : xlnk = t.lnk ∨ ps.any (fun q => q.covers .lnk) = true := by first | exact .inl rfl | exact .inr (Part.within_mem rfl hw))
    (href : xref = t.ref ∨ ps.any (fun q => q.covers .ref) = true := by first | exact .inl rfl | exact .inr (Part.within_mem rfl hw))
    (hfree : xfree = t.free ∨ ps.any (fun q => q.covers .free) = true := by first | exact .inl rfl | exact .inr (Part.within_mem rfl hw))
    (hpll : xpll = t.pll ∨ ps.any (fun q => q.covers .pll) = true := by first | exact .inl rfl | exact .inr (Part.within_mem rfl hw))
    (hgnss : xgnss = t.gnss ∨ ps.any (fun q => q.covers .gnss) = true := by first | exact .inl rfl | exact .inr (Part.within_mem rfl hw))
    (htic : xtic = t.tic ∨ ps.any (fun q => q.covers .tic) = true := by first | exact .inl rfl | exact .inr (Part.within_mem rfl hw))
    (hcal : xcal = t.cal ∨ ps.any (fun q => q.covers .cal) = true := by first | exact .inl rfl | exact .inr (Part.within_mem rfl hw))
    (heng : xeng = t.eng ∨ (ps.any (fun q => q.covers .eng) = true ∧ (xeng.spad = t.eng.spad ∨ ps.any (fun q => q.covers .spad) = true)) := by first | exact .inl rfl | exact .inr ⟨Part.within_mem rfl hw, .inl rfl⟩ | exact .inr ⟨Part.within_mem rfl hw, .inr (Part.within_mem rfl hw)⟩)
    (hpair : xpair = t.pair ∨ ps.any (fun q => q.covers .pair) = true := by first | exact .inl rfl | exact .inr (Part.within_mem rfl hw))
    (hpwr : xpwr = t.pwr ∨ ps.any (fun q => q.covers .pwr) = true := by first | exact .inl rfl | exact .inr (Part.within_mem rfl hw))
    (hboot : xboot = t.boot ∨ ps.any (fun q => q.covers .boot) = true := by first | exact .inl rfl | exact .inr (Part.within_mem rfl hw))
    (hflash : xflash = t.flash ∨ ps.any (fun q => q.covers .flash) = true := by first | exact .inl rfl | exact .inr (Part.within_mem rfl hw))
    (hpending : xpending = t.pending ∨ ps.any (fun q => q.covers .pending) = true := by first | exact .inl rfl | exact .inr (Part.within_mem rfl hw))
    : Touches ps s (State.mk t.variant xfused xclk xready xkeys xregs xrc xmbx xrd xrdHi xrdI2c xevt xpers xhif xindex xobjs xlanes xgrps xsw xfab xbpm xfdb xtcore xtchans xlnk xref xfree xpll xgnss xtic xcal xeng xpair xpwr xboot xflash xpending) := by
  apply h.step
  intro p hp
  cases p
  all_goals simp only [Part.same]
  case fused => 
      rcases hfused with h1 | h1
      · exact h1
      · simp [h1] at hp
  case clk => 
      rcases hclk with h1 | h1
      · exact h1
      · simp [h1] at hp
  case ready => 
      rcases hready with h1 | h1
      · exact h1
      · simp [h1] at hp
  case keys => 
      rcases hkeys with h1 | h1
      · exact h1
      · simp [h1] at hp
  case regs => 
      rcases hregs with h1 | h1
      · exact h1
      · simp [h1] at hp
  case rc n => 
    rcases hrc with hrc | hrc
    · subst hrc; intros; rfl
    · exfalso; simp only [List.any_eq_false, List.any_eq_true, Part.covers] at hp hrc; obtain ⟨x, hx, hc⟩ := hrc; simp at hc; subst hc; exact hp _ hx (by simp)
  case mbx => 
      rcases hmbx with h1 | h1
      · exact h1
      · simp [h1] at hp
  case rd => 
      rcases hrd with h1 | h1
      · rcases hrdHi with h2 | h2
        · exact ⟨h1, h2⟩
        · simp [h2] at hp
      · simp [h1] at hp
  case rdI2c => 
      rcases hrdI2c with h1 | h1
      · exact h1
      · simp [h1] at hp
  case evt => 
      rcases hevt with h1 | h1
      · exact h1
      · simp [h1] at hp
  case pers => 
      rcases hpers with h1 | h1
      · exact h1
      · simp [h1] at hp
  case hif => 
      rcases hhif with h1 | h1
      · exact h1
      · simp [h1] at hp
  case index => 
      rcases hindex with h1 | h1
      · exact h1
      · simp [h1] at hp
  case objs => 
      rcases hobjs with h1 | h1
      · exact h1
      · simp [h1] at hp
  case lanes => 
      rcases hlanes with h1 | h1
      · exact h1
      · simp [h1] at hp
  case grps => 
      rcases hgrps with h1 | h1
      · exact h1
      · simp [h1] at hp
  case sw => 
      rcases hsw with h1 | h1
      · exact h1
      · simp [h1] at hp
  case fab => 
      rcases hfab with h1 | h1
      · exact h1
      · simp [h1] at hp
  case bpm => 
      rcases hbpm with h1 | h1
      · exact h1
      · simp [h1] at hp
  case fdb => 
      rcases hfdb with h1 | h1
      · exact h1
      · simp [h1] at hp
  case tcore => 
      rcases htcore with h1 | h1
      · exact h1
      · simp [h1] at hp
  case tchans => 
      rcases htchans with h1 | h1
      · exact h1
      · simp [h1] at hp
  case lnk => 
      rcases hlnk with h1 | h1
      · exact h1
      · simp [h1] at hp
  case ref => 
      rcases href with h1 | h1
      · exact h1
      · simp [h1] at hp
  case free => 
      rcases hfree with h1 | h1
      · exact h1
      · simp [h1] at hp
  case pll => 
      rcases hpll with h1 | h1
      · exact h1
      · simp [h1] at hp
  case gnss => 
      rcases hgnss with h1 | h1
      · exact h1
      · simp [h1] at hp
  case tic => 
      rcases htic with h1 | h1
      · exact h1
      · simp [h1] at hp
  case cal => 
      rcases hcal with h1 | h1
      · exact h1
      · simp [h1] at hp
  case eng => 
      rcases heng with h1 | ⟨h1, h2⟩
      · subst h1; rfl
      · simp [h1] at hp
  case spad => 
      rcases heng with h1 | ⟨h1, h2 | h2⟩
      · subst h1; intros; rfl
      · rw [h2]; intros; rfl
      · simp [h2] at hp
  case pair => 
      rcases hpair with h1 | h1
      · exact h1
      · simp [h1] at hp
  case pwr => 
      rcases hpwr with h1 | h1
      · exact h1
      · simp [h1] at hp
  case boot => 
      rcases hboot with h1 | h1
      · exact h1
      · simp [h1] at hp
  case flash => 
      rcases hflash with h1 | h1
      · subst h1; intros; rfl
      · simp [h1] at hp
  case pending => 
      rcases hpending with h1 | h1
      · exact h1
      · simp [h1] at hp
theorem Touches.set_fused {ps : List Part} {s t : State} {x} (h : Touches ps s t) (hm : ps.any (fun q => q.covers .fused) = true) :
    Touches ps s (State.mk t.variant x t.clk t.ready t.keys t.regs t.rc t.mbx t.rd t.rdHi t.rdI2c t.evt t.pers t.hif t.index t.objs t.lanes t.grps t.sw t.fab t.bpm t.fdb t.tcore t.tchans t.lnk t.ref t.free t.pll t.gnss t.tic t.cal t.eng t.pair t.pwr t.boot t.flash t.pending) := Touches.mk (ws := []) rfl h (hfused := .inr hm)
theorem Touches.set_clk {ps : List Part} {s t : State} {x} (h : Touches ps s t) (hm : ps.any (fun q => q.covers .clk) = true) :
    Touches ps s (State.mk t.variant t.fused x t.ready t.keys t.regs t.rc t.mbx t.rd t.rdHi t.rdI2c t.evt t.pers t.hif t.index t.objs t.lanes t.grps t.sw t.fab t.bpm t.fdb t.tcore t.tchans t.lnk t.ref t.free t.pll t.gnss t.tic t.cal t.eng t.pair t.pwr t.boot t.flash t.pending) := Touches.mk (ws := []) rfl h (hclk := .inr hm)
theorem Touches.set_ready {ps : List Part} {s t : State} {x} (h : Touches ps s t) (hm : ps.any (fun q => q.covers .ready) = true) :
    Touches ps s (State.mk t.variant t.fused t.clk x t.keys t.regs t.rc t.mbx t.rd t.rdHi t.rdI2c t.evt t.pers t.hif t.index t.objs t.lanes t.grps t.sw t.fab t.bpm t.fdb t.tcore t.tchans t.lnk t.ref t.free t.pll t.gnss t.tic t.cal t.eng t.pair t.pwr t.boot t.flash t.pending) := Touches.mk (ws := []) rfl h (hready := .inr hm)
theorem Touches.set_keys {ps : List Part} {s t : State} {x} (h : Touches ps s t) (hm : ps.any (fun q => q.covers .keys) = true) :
    Touches ps s (State.mk t.variant t.fused t.clk t.ready x t.regs t.rc t.mbx t.rd t.rdHi t.rdI2c t.evt t.pers t.hif t.index t.objs t.lanes t.grps t.sw t.fab t.bpm t.fdb t.tcore t.tchans t.lnk t.ref t.free t.pll t.gnss t.tic t.cal t.eng t.pair t.pwr t.boot t.flash t.pending) := Touches.mk (ws := []) rfl h (hkeys := .inr hm)
theorem Touches.set_regs {ps : List Part} {s t : State} {x} (h : Touches ps s t) (hm : ps.any (fun q => q.covers .regs) = true) :
    Touches ps s (State.mk t.variant t.fused t.clk t.ready t.keys x t.rc t.mbx t.rd t.rdHi t.rdI2c t.evt t.pers t.hif t.index t.objs t.lanes t.grps t.sw t.fab t.bpm t.fdb t.tcore t.tchans t.lnk t.ref t.free t.pll t.gnss t.tic t.cal t.eng t.pair t.pwr t.boot t.flash t.pending) := Touches.mk (ws := []) rfl h (hregs := .inr hm)
theorem Touches.set_mbx {ps : List Part} {s t : State} {x} (h : Touches ps s t) (hm : ps.any (fun q => q.covers .mbx) = true) :
    Touches ps s (State.mk t.variant t.fused t.clk t.ready t.keys t.regs t.rc x t.rd t.rdHi t.rdI2c t.evt t.pers t.hif t.index t.objs t.lanes t.grps t.sw t.fab t.bpm t.fdb t.tcore t.tchans t.lnk t.ref t.free t.pll t.gnss t.tic t.cal t.eng t.pair t.pwr t.boot t.flash t.pending) := Touches.mk (ws := []) rfl h (hmbx := .inr hm)
theorem Touches.set_rd {ps : List Part} {s t : State} {x} (h : Touches ps s t) (hm : ps.any (fun q => q.covers .rd) = true) :
    Touches ps s (State.mk t.variant t.fused t.clk t.ready t.keys t.regs t.rc t.mbx x t.rdHi t.rdI2c t.evt t.pers t.hif t.index t.objs t.lanes t.grps t.sw t.fab t.bpm t.fdb t.tcore t.tchans t.lnk t.ref t.free t.pll t.gnss t.tic t.cal t.eng t.pair t.pwr t.boot t.flash t.pending) := Touches.mk (ws := []) rfl h (hrd := .inr hm)
theorem Touches.set_rdHi {ps : List Part} {s t : State} {x} (h : Touches ps s t) (hm : ps.any (fun q => q.covers .rd) = true) :
    Touches ps s (State.mk t.variant t.fused t.clk t.ready t.keys t.regs t.rc t.mbx t.rd x t.rdI2c t.evt t.pers t.hif t.index t.objs t.lanes t.grps t.sw t.fab t.bpm t.fdb t.tcore t.tchans t.lnk t.ref t.free t.pll t.gnss t.tic t.cal t.eng t.pair t.pwr t.boot t.flash t.pending) := Touches.mk (ws := []) rfl h (hrdHi := .inr hm)
theorem Touches.set_rdI2c {ps : List Part} {s t : State} {x} (h : Touches ps s t) (hm : ps.any (fun q => q.covers .rdI2c) = true) :
    Touches ps s (State.mk t.variant t.fused t.clk t.ready t.keys t.regs t.rc t.mbx t.rd t.rdHi x t.evt t.pers t.hif t.index t.objs t.lanes t.grps t.sw t.fab t.bpm t.fdb t.tcore t.tchans t.lnk t.ref t.free t.pll t.gnss t.tic t.cal t.eng t.pair t.pwr t.boot t.flash t.pending) := Touches.mk (ws := []) rfl h (hrdI2c := .inr hm)
theorem Touches.set_evt {ps : List Part} {s t : State} {x} (h : Touches ps s t) (hm : ps.any (fun q => q.covers .evt) = true) :
    Touches ps s (State.mk t.variant t.fused t.clk t.ready t.keys t.regs t.rc t.mbx t.rd t.rdHi t.rdI2c x t.pers t.hif t.index t.objs t.lanes t.grps t.sw t.fab t.bpm t.fdb t.tcore t.tchans t.lnk t.ref t.free t.pll t.gnss t.tic t.cal t.eng t.pair t.pwr t.boot t.flash t.pending) := Touches.mk (ws := []) rfl h (hevt := .inr hm)
theorem Touches.set_pers {ps : List Part} {s t : State} {x} (h : Touches ps s t) (hm : ps.any (fun q => q.covers .pers) = true) :
    Touches ps s (State.mk t.variant t.fused t.clk t.ready t.keys t.regs t.rc t.mbx t.rd t.rdHi t.rdI2c t.evt x t.hif t.index t.objs t.lanes t.grps t.sw t.fab t.bpm t.fdb t.tcore t.tchans t.lnk t.ref t.free t.pll t.gnss t.tic t.cal t.eng t.pair t.pwr t.boot t.flash t.pending) := Touches.mk (ws := []) rfl h (hpers := .inr hm)
theorem Touches.set_hif {ps : List Part} {s t : State} {x} (h : Touches ps s t) (hm : ps.any (fun q => q.covers .hif) = true) :
    Touches ps s (State.mk t.variant t.fused t.clk t.ready t.keys t.regs t.rc t.mbx t.rd t.rdHi t.rdI2c t.evt t.pers x t.index t.objs t.lanes t.grps t.sw t.fab t.bpm t.fdb t.tcore t.tchans t.lnk t.ref t.free t.pll t.gnss t.tic t.cal t.eng t.pair t.pwr t.boot t.flash t.pending) := Touches.mk (ws := []) rfl h (hhif := .inr hm)
theorem Touches.set_index {ps : List Part} {s t : State} {x} (h : Touches ps s t) (hm : ps.any (fun q => q.covers .index) = true) :
    Touches ps s (State.mk t.variant t.fused t.clk t.ready t.keys t.regs t.rc t.mbx t.rd t.rdHi t.rdI2c t.evt t.pers t.hif x t.objs t.lanes t.grps t.sw t.fab t.bpm t.fdb t.tcore t.tchans t.lnk t.ref t.free t.pll t.gnss t.tic t.cal t.eng t.pair t.pwr t.boot t.flash t.pending) := Touches.mk (ws := []) rfl h (hindex := .inr hm)
theorem Touches.set_objs {ps : List Part} {s t : State} {x} (h : Touches ps s t) (hm : ps.any (fun q => q.covers .objs) = true) :
    Touches ps s (State.mk t.variant t.fused t.clk t.ready t.keys t.regs t.rc t.mbx t.rd t.rdHi t.rdI2c t.evt t.pers t.hif t.index x t.lanes t.grps t.sw t.fab t.bpm t.fdb t.tcore t.tchans t.lnk t.ref t.free t.pll t.gnss t.tic t.cal t.eng t.pair t.pwr t.boot t.flash t.pending) := Touches.mk (ws := []) rfl h (hobjs := .inr hm)
theorem Touches.set_lanes {ps : List Part} {s t : State} {x} (h : Touches ps s t) (hm : ps.any (fun q => q.covers .lanes) = true) :
    Touches ps s (State.mk t.variant t.fused t.clk t.ready t.keys t.regs t.rc t.mbx t.rd t.rdHi t.rdI2c t.evt t.pers t.hif t.index t.objs x t.grps t.sw t.fab t.bpm t.fdb t.tcore t.tchans t.lnk t.ref t.free t.pll t.gnss t.tic t.cal t.eng t.pair t.pwr t.boot t.flash t.pending) := Touches.mk (ws := []) rfl h (hlanes := .inr hm)
theorem Touches.set_grps {ps : List Part} {s t : State} {x} (h : Touches ps s t) (hm : ps.any (fun q => q.covers .grps) = true) :
    Touches ps s (State.mk t.variant t.fused t.clk t.ready t.keys t.regs t.rc t.mbx t.rd t.rdHi t.rdI2c t.evt t.pers t.hif t.index t.objs t.lanes x t.sw t.fab t.bpm t.fdb t.tcore t.tchans t.lnk t.ref t.free t.pll t.gnss t.tic t.cal t.eng t.pair t.pwr t.boot t.flash t.pending) := Touches.mk (ws := []) rfl h (hgrps := .inr hm)
theorem Touches.set_sw {ps : List Part} {s t : State} {x} (h : Touches ps s t) (hm : ps.any (fun q => q.covers .sw) = true) :
    Touches ps s (State.mk t.variant t.fused t.clk t.ready t.keys t.regs t.rc t.mbx t.rd t.rdHi t.rdI2c t.evt t.pers t.hif t.index t.objs t.lanes t.grps x t.fab t.bpm t.fdb t.tcore t.tchans t.lnk t.ref t.free t.pll t.gnss t.tic t.cal t.eng t.pair t.pwr t.boot t.flash t.pending) := Touches.mk (ws := []) rfl h (hsw := .inr hm)
theorem Touches.set_fab {ps : List Part} {s t : State} {x} (h : Touches ps s t) (hm : ps.any (fun q => q.covers .fab) = true) :
    Touches ps s (State.mk t.variant t.fused t.clk t.ready t.keys t.regs t.rc t.mbx t.rd t.rdHi t.rdI2c t.evt t.pers t.hif t.index t.objs t.lanes t.grps t.sw x t.bpm t.fdb t.tcore t.tchans t.lnk t.ref t.free t.pll t.gnss t.tic t.cal t.eng t.pair t.pwr t.boot t.flash t.pending) := Touches.mk (ws := []) rfl h (hfab := .inr hm)
theorem Touches.set_bpm {ps : List Part} {s t : State} {x} (h : Touches ps s t) (hm : ps.any (fun q => q.covers .bpm) = true) :
    Touches ps s (State.mk t.variant t.fused t.clk t.ready t.keys t.regs t.rc t.mbx t.rd t.rdHi t.rdI2c t.evt t.pers t.hif t.index t.objs t.lanes t.grps t.sw t.fab x t.fdb t.tcore t.tchans t.lnk t.ref t.free t.pll t.gnss t.tic t.cal t.eng t.pair t.pwr t.boot t.flash t.pending) := Touches.mk (ws := []) rfl h (hbpm := .inr hm)
theorem Touches.set_fdb {ps : List Part} {s t : State} {x} (h : Touches ps s t) (hm : ps.any (fun q => q.covers .fdb) = true) :
    Touches ps s (State.mk t.variant t.fused t.clk t.ready t.keys t.regs t.rc t.mbx t.rd t.rdHi t.rdI2c t.evt t.pers t.hif t.index t.objs t.lanes t.grps t.sw t.fab t.bpm x t.tcore t.tchans t.lnk t.ref t.free t.pll t.gnss t.tic t.cal t.eng t.pair t.pwr t.boot t.flash t.pending) := Touches.mk (ws := []) rfl h (hfdb := .inr hm)
theorem Touches.set_tcore {ps : List Part} {s t : State} {x} (h : Touches ps s t) (hm : ps.any (fun q => q.covers .tcore) = true) :
    Touches ps s (State.mk t.variant t.fused t.clk t.ready t.keys t.regs t.rc t.mbx t.rd t.rdHi t.rdI2c t.evt t.pers t.hif t.index t.objs t.lanes t.grps t.sw t.fab t.bpm t.fdb x t.tchans t.lnk t.ref t.free t.pll t.gnss t.tic t.cal t.eng t.pair t.pwr t.boot t.flash t.pending) := Touches.mk (ws := []) rfl h (htcore := .inr hm)
theorem Touches.set_tchans {ps : List Part} {s t : State} {x} (h : Touches ps s t) (hm : ps.any (fun q => q.covers .tchans) = true) :
    Touches ps s (State.mk t.variant t.fused t.clk t.ready t.keys t.regs t.rc t.mbx t.rd t.rdHi t.rdI2c t.evt t.pers t.hif t.index t.objs t.lanes t.grps t.sw t.fab t.bpm t.fdb t.tcore x t.lnk t.ref t.free t.pll t.gnss t.tic t.cal t.eng t.pair t.pwr t.boot t.flash t.pending) := Touches.mk (ws := []) rfl h (htchans := .inr hm)
theorem Touches.set_lnk {ps : List Part} {s t : State} {x} (h : Touches ps s t) (hm : ps.any (fun q => q.covers .lnk) = true) :
    Touches ps s (State.mk t.variant t.fused t.clk t.ready t.keys t.regs t.rc t.mbx t.rd t.rdHi t.rdI2c t.evt t.pers t.hif t.index t.objs t.lanes t.grps t.sw t.fab t.bpm t.fdb t.tcore t.tchans x t.ref t.free t.pll t.gnss t.tic t.cal t.eng t.pair t.pwr t.boot t.flash t.pending) := Touches.mk (ws := []) rfl h (hlnk := .inr hm)
theorem Touches.set_ref {ps : List Part} {s t : State} {x} (h : Touches ps s t) (hm : ps.any (fun q => q.covers .ref) = true) :
    Touches ps s (State.mk t.variant t.fused t.clk t.ready t.keys t.regs t.rc t.mbx t.rd t.rdHi t.rdI2c t.evt t.pers t.hif t.index t.objs t.lanes t.grps t.sw t.fab t.bpm t.fdb t.tcore t.tchans t.lnk x t.free t.pll t.gnss t.tic t.cal t.eng t.pair t.pwr t.boot t.flash t.pending) := Touches.mk (ws := []) rfl h (href := .inr hm)
theorem Touches.set_free {ps : List Part} {s t : State} {x} (h : Touches ps s t) (hm : ps.any (fun q => q.covers .free) = true) :
    Touches ps s (State.mk t.variant t.fused t.clk t.ready t.keys t.regs t.rc t.mbx t.rd t.rdHi t.rdI2c t.evt t.pers t.hif t.index t.objs t.lanes t.grps t.sw t.fab t.bpm t.fdb t.tcore t.tchans t.lnk t.ref x t.pll t.gnss t.tic t.cal t.eng t.pair t.pwr t.boot t.flash t.pending) := Touches.mk (ws := []) rfl h (hfree := .inr hm)
theorem Touches.set_pll {ps : List Part} {s t : State} {x} (h : Touches ps s t) (hm : ps.any (fun q => q.covers .pll) = true) :
    Touches ps s (State.mk t.variant t.fused t.clk t.ready t.keys t.regs t.rc t.mbx t.rd t.rdHi t.rdI2c t.evt t.pers t.hif t.index t.objs t.lanes t.grps t.sw t.fab t.bpm t.fdb t.tcore t.tchans t.lnk t.ref t.free x t.gnss t.tic t.cal t.eng t.pair t.pwr t.boot t.flash t.pending) := Touches.mk (ws := []) rfl h (hpll := .inr hm)
theorem Touches.set_gnss {ps : List Part} {s t : State} {x} (h : Touches ps s t) (hm : ps.any (fun q => q.covers .gnss) = true) :
    Touches ps s (State.mk t.variant t.fused t.clk t.ready t.keys t.regs t.rc t.mbx t.rd t.rdHi t.rdI2c t.evt t.pers t.hif t.index t.objs t.lanes t.grps t.sw t.fab t.bpm t.fdb t.tcore t.tchans t.lnk t.ref t.free t.pll x t.tic t.cal t.eng t.pair t.pwr t.boot t.flash t.pending) := Touches.mk (ws := []) rfl h (hgnss := .inr hm)
theorem Touches.set_tic {ps : List Part} {s t : State} {x} (h : Touches ps s t) (hm : ps.any (fun q => q.covers .tic) = true) :
    Touches ps s (State.mk t.variant t.fused t.clk t.ready t.keys t.regs t.rc t.mbx t.rd t.rdHi t.rdI2c t.evt t.pers t.hif t.index t.objs t.lanes t.grps t.sw t.fab t.bpm t.fdb t.tcore t.tchans t.lnk t.ref t.free t.pll t.gnss x t.cal t.eng t.pair t.pwr t.boot t.flash t.pending) := Touches.mk (ws := []) rfl h (htic := .inr hm)
theorem Touches.set_cal {ps : List Part} {s t : State} {x} (h : Touches ps s t) (hm : ps.any (fun q => q.covers .cal) = true) :
    Touches ps s (State.mk t.variant t.fused t.clk t.ready t.keys t.regs t.rc t.mbx t.rd t.rdHi t.rdI2c t.evt t.pers t.hif t.index t.objs t.lanes t.grps t.sw t.fab t.bpm t.fdb t.tcore t.tchans t.lnk t.ref t.free t.pll t.gnss t.tic x t.eng t.pair t.pwr t.boot t.flash t.pending) := Touches.mk (ws := []) rfl h (hcal := .inr hm)
theorem Touches.set_pair {ps : List Part} {s t : State} {x} (h : Touches ps s t) (hm : ps.any (fun q => q.covers .pair) = true) :
    Touches ps s (State.mk t.variant t.fused t.clk t.ready t.keys t.regs t.rc t.mbx t.rd t.rdHi t.rdI2c t.evt t.pers t.hif t.index t.objs t.lanes t.grps t.sw t.fab t.bpm t.fdb t.tcore t.tchans t.lnk t.ref t.free t.pll t.gnss t.tic t.cal t.eng x t.pwr t.boot t.flash t.pending) := Touches.mk (ws := []) rfl h (hpair := .inr hm)
theorem Touches.set_pwr {ps : List Part} {s t : State} {x} (h : Touches ps s t) (hm : ps.any (fun q => q.covers .pwr) = true) :
    Touches ps s (State.mk t.variant t.fused t.clk t.ready t.keys t.regs t.rc t.mbx t.rd t.rdHi t.rdI2c t.evt t.pers t.hif t.index t.objs t.lanes t.grps t.sw t.fab t.bpm t.fdb t.tcore t.tchans t.lnk t.ref t.free t.pll t.gnss t.tic t.cal t.eng t.pair x t.boot t.flash t.pending) := Touches.mk (ws := []) rfl h (hpwr := .inr hm)
theorem Touches.set_boot {ps : List Part} {s t : State} {x} (h : Touches ps s t) (hm : ps.any (fun q => q.covers .boot) = true) :
    Touches ps s (State.mk t.variant t.fused t.clk t.ready t.keys t.regs t.rc t.mbx t.rd t.rdHi t.rdI2c t.evt t.pers t.hif t.index t.objs t.lanes t.grps t.sw t.fab t.bpm t.fdb t.tcore t.tchans t.lnk t.ref t.free t.pll t.gnss t.tic t.cal t.eng t.pair t.pwr x t.flash t.pending) := Touches.mk (ws := []) rfl h (hboot := .inr hm)
theorem Touches.set_flash {ps : List Part} {s t : State} {x} (h : Touches ps s t) (hm : ps.any (fun q => q.covers .flash) = true) :
    Touches ps s (State.mk t.variant t.fused t.clk t.ready t.keys t.regs t.rc t.mbx t.rd t.rdHi t.rdI2c t.evt t.pers t.hif t.index t.objs t.lanes t.grps t.sw t.fab t.bpm t.fdb t.tcore t.tchans t.lnk t.ref t.free t.pll t.gnss t.tic t.cal t.eng t.pair t.pwr t.boot x t.pending) := Touches.mk (ws := []) rfl h (hflash := .inr hm)
theorem Touches.set_pending {ps : List Part} {s t : State} {x} (h : Touches ps s t) (hm : ps.any (fun q => q.covers .pending) = true) :
    Touches ps s (State.mk t.variant t.fused t.clk t.ready t.keys t.regs t.rc t.mbx t.rd t.rdHi t.rdI2c t.evt t.pers t.hif t.index t.objs t.lanes t.grps t.sw t.fab t.bpm t.fdb t.tcore t.tchans t.lnk t.ref t.free t.pll t.gnss t.tic t.cal t.eng t.pair t.pwr t.boot t.flash x) := Touches.mk (ws := []) rfl h (hpending := .inr hm)
theorem Touches.setEng {ps : List Part} {s t : State} {x : EngState} (h : Touches ps s t) (hm : ps.any (fun q => q.covers .eng) = true)
    (hs : x.spad = t.eng.spad) : Touches ps s (State.mk t.variant t.fused t.clk t.ready t.keys t.regs t.rc t.mbx t.rd t.rdHi t.rdI2c t.evt t.pers t.hif t.index t.objs t.lanes t.grps t.sw t.fab t.bpm t.fdb t.tcore t.tchans t.lnk t.ref t.free t.pll t.gnss t.tic t.cal x t.pair t.pwr t.boot t.flash t.pending) := Touches.mk (ws := []) rfl h (heng := .inr ⟨hm, .inl hs⟩)

/-! ## RC words -/

theorem State.rcPut_touches {ps : List Part} (s : State) (k : RegKey) (w : Word) (hw : Part.within [.rc k.name] ps = true) :
    Touches ps s { s with rc := Tab.set s.rc k w } := by
  intro p hp
  cases p <;> simp only [Part.same, implies_true, and_self]
  case rc n =>
    intro i j
    by_cases h : n = k.name
    · subst h
      exact absurd (Part.within_mem (p := .rc k.name) (by simp [Part.covers]) hw) (by rw [hp]; decide)
    · exact Tab.get_set_ne _ _ _ _ _ (fun e => h (by rw [← e]))

theorem State.bump_touches {ps : List Part} (s : State) (f : FieldRef) (i n : Nat) (hw : Part.within [.rc f.reg] ps = true) :
    Touches ps s (s.bump f i n) := State.rcPut_touches s ⟨f.reg, i, 0⟩ _ hw

theorem State.rcSet_touches {ps : List Part} (s : State) (f : FieldRef) (v i : Nat) (hw : Part.within [.rc f.reg] ps = true) :
    Touches ps s (s.rcSet f v i) := State.rcPut_touches s ⟨f.reg, i, 0⟩ _ hw

/-- Every register's RC bits. -/
theorem Part.within_counters (n : RegName) {ps : List Part} (hw : Part.within [.counters] ps = true) :
    Part.within [.rc n] ps = true := Part.within_trans (by simp [Part.within, Part.covers]) hw

theorem State.rcClear_touches {ps : List Part} (s : State) (k : RegKey) (m : Word) (hw : Part.within [.counters] ps = true) :
    Touches ps s (s.rcClear k m) := State.rcPut_touches s k _ (Part.within_counters k.name hw)

/-! ## Events -/

/-- A state whose EVT, RC words and host interface come from a step that touches nothing else. -/
theorem Touches.events {ps : List Part} {s t : State} (h : Touches ps s t) (he : ps.any (fun q => q.covers .evt) = true)
    (hh : ps.any (fun q => q.covers .hif) = true) : Touches ps s { s with evt := t.evt, rc := t.rc, hif := t.hif } := by
  intro p hp
  cases p <;> simp only [Part.same, implies_true, and_self]
  case rc n => exact h (.rc n) hp
  case evt => rw [he] at hp; exact absurd hp (by decide)
  case hif => rw [hh] at hp; exact absurd hp (by decide)

theorem State.emit_touches {ps : List Part} (s : State) (e : Evt) (a0 a1 a2 : Nat) (hw : Part.within evtParts ps = true) :
    Touches ps s (s.emit e a0 a1 a2) := by
  have hpin : ∀ v i, Touches ps s (s.rcSet Fld.evtPinStat_VAL v i) :=
    fun v i => State.rcSet_touches _ _ _ _ (Part.within_trans (by decide) hw)
  have hlost : ∀ (t : State) i n, Touches ps t (t.bump Fld.hifEvtLost_VAL i n) :=
    fun t i n => State.bump_touches _ _ _ _ (Part.within_trans (by decide) hw)
  have hrc : ∃ t, Touches ps s t ∧ s.evtRc e = t.rc := by
    unfold State.evtRc
    extract_lets b psev s1
    have h1 : Touches ps s s1 := by
      unfold s1; split
      · exact hpin _ _
      · exact Touches.refl _ _
    split
    · exact ⟨_, h1.step (hlost _ _ _), rfl⟩
    · exact ⟨_, h1, rfl⟩
  obtain ⟨t, ht, hrc⟩ := hrc
  unfold State.emit
  rw [hrc]
  exact Touches.events (t := { t with evt := s.evtLogged e a0 a1 a2, hif := s.evtHif e a0 a1 a2 })
    (ht.step (Touches.mk hw (Touches.refl _ _))) (Part.within_mem (by decide) hw) (Part.within_mem (by decide) hw)

theorem State.raise_touches {ps : List Part} (s : State) (e : Evt) (a0 a1 a2 : Nat) (hw : Part.within evtParts ps = true) :
    Touches ps s (s.raise e a0 a1 a2) := by
  unfold State.raise
  extract_lets a0 r counted t
  have hc : Touches ps s counted := Touches.mk hw (Touches.refl _ _)
  refine Touches.events (t := t) ?_ (Part.within_mem (by decide) hw) (Part.within_mem (by decide) hw)
  unfold t
  split
  · exact hc.step (State.bump_touches _ _ _ _ (Part.within_trans (by decide) hw))
  · exact hc.step (State.emit_touches _ _ _ _ _ hw)

theorem State.raiseIf_touches {ps : List Part} (s : State) (c : Bool) (e : Evt) (a0 a1 a2 : Nat)
    (hw : Part.within evtParts ps = true) : Touches ps s (s.raiseIf c e a0 a1 a2) := by
  unfold State.raiseIf
  exact Touches.events (Touches.ite (State.raise_touches _ _ _ _ _ hw) (Touches.refl _ _)) (Part.within_mem (by decide) hw)
    (Part.within_mem (by decide) hw)

theorem State.setReady_touches {ps : List Part} (s : State) (b : Nat) (v : Bool) (hw : Part.within (.ready :: evtParts) ps = true) :
    Touches ps s (s.setReady b v) := by
  unfold State.setReady
  extract_lets w t
  have he : Part.within evtParts ps = true := Part.within_trans (by decide) hw
  have ht : Touches ps s t :=
    (Touches.set_ready (Touches.refl _ _) (Part.within_mem (by decide) hw)).step (State.raiseIf_touches _ _ _ _ _ _ he)
  have h2 := Touches.events (ps := ps) (t := t) ht (Part.within_mem (by decide) hw) (Part.within_mem (by decide) hw)
  exact h2.step (Touches.set_ready (Touches.refl _ _) (Part.within_mem (by decide) hw))

/-! ## Commands -/

theorem State.keyed_touches {ps : List Part} (s : State) (p : Path) (a : Nat) (f : State → State)
    (hw : Part.within (.keys :: evtParts) ps = true) (h : ∀ t, Touches ps t (f t)) : Touches ps s (s.keyed p a f) := by
  unfold State.keyed
  refine Touches.ite (Touches.step ?_ (h _)) (State.raise_touches _ _ _ _ _ (Part.within_trans (by decide) hw))
  exact Touches.set_keys (Touches.refl _ _) (Part.within_mem (by decide) hw)

end Sys2Proof.Machine
end

