-- ==== Sys2Proof/Laws/State.lean ====
section
/-! SUPPORT. Each field after each update, and each record after the update that replaces it. -/

set_option Elab.async false

namespace Sys2Proof.Machine

/-! ## The outcome's `carry` -/

@[simp] theorem State.carry_variant (t s : State) : (t.carry s).variant = s.variant := rfl
@[simp] theorem State.carry_fused (t s : State) : (t.carry s).fused = s.fused := rfl
@[simp] theorem State.carry_clk (t s : State) : (t.carry s).clk = t.clk := rfl
@[simp] theorem State.carry_ready (t s : State) : (t.carry s).ready = t.ready := rfl
@[simp] theorem State.carry_keys (t s : State) : (t.carry s).keys = t.keys := rfl
@[simp] theorem State.carry_regs (t s : State) : (t.carry s).regs = t.regs := rfl
@[simp] theorem State.carry_rc (t s : State) : (t.carry s).rc = t.rc := rfl
@[simp] theorem State.carry_mbx (t s : State) : (t.carry s).mbx = t.mbx := rfl
@[simp] theorem State.carry_rd (t s : State) : (t.carry s).rd = t.rd := rfl
@[simp] theorem State.carry_rdHi (t s : State) : (t.carry s).rdHi = t.rdHi := rfl
@[simp] theorem State.carry_rdI2c (t s : State) : (t.carry s).rdI2c = t.rdI2c := rfl
@[simp] theorem State.carry_evt (t s : State) : (t.carry s).evt = t.evt := rfl
@[simp] theorem State.carry_pers (t s : State) : (t.carry s).pers = t.pers := rfl
@[simp] theorem State.carry_hif (t s : State) : (t.carry s).hif = t.hif := rfl
@[simp] theorem State.carry_index (t s : State) : (t.carry s).index = t.index := rfl
@[simp] theorem State.carry_objs (t s : State) : (t.carry s).objs = t.objs := rfl
@[simp] theorem State.carry_lanes (t s : State) : (t.carry s).lanes = t.lanes := rfl
@[simp] theorem State.carry_grps (t s : State) : (t.carry s).grps = t.grps := rfl
@[simp] theorem State.carry_sw (t s : State) : (t.carry s).sw = t.sw := rfl
@[simp] theorem State.carry_fab (t s : State) : (t.carry s).fab = t.fab := rfl
@[simp] theorem State.carry_bpm (t s : State) : (t.carry s).bpm = t.bpm := rfl
@[simp] theorem State.carry_fdb (t s : State) : (t.carry s).fdb = t.fdb := rfl
@[simp] theorem State.carry_tcore (t s : State) : (t.carry s).tcore = t.tcore := rfl
@[simp] theorem State.carry_tchans (t s : State) : (t.carry s).tchans = t.tchans := rfl
@[simp] theorem State.carry_lnk (t s : State) : (t.carry s).lnk = t.lnk := rfl
@[simp] theorem State.carry_ref (t s : State) : (t.carry s).ref = t.ref := rfl
@[simp] theorem State.carry_free (t s : State) : (t.carry s).free = t.free := rfl
@[simp] theorem State.carry_pll (t s : State) : (t.carry s).pll = t.pll := rfl
@[simp] theorem State.carry_gnss (t s : State) : (t.carry s).gnss = t.gnss := rfl
@[simp] theorem State.carry_tic (t s : State) : (t.carry s).tic = t.tic := rfl
@[simp] theorem State.carry_cal (t s : State) : (t.carry s).cal = t.cal := rfl
@[simp] theorem State.carry_eng (t s : State) : (t.carry s).eng = t.eng := rfl
@[simp] theorem State.carry_pair (t s : State) : (t.carry s).pair = t.pair := rfl
@[simp] theorem State.carry_pwr (t s : State) : (t.carry s).pwr = t.pwr := rfl
@[simp] theorem State.carry_boot (t s : State) : (t.carry s).boot = t.boot := rfl
@[simp] theorem State.carry_flash (t s : State) : (t.carry s).flash = t.flash := rfl
@[simp] theorem State.carry_pending (t s : State) : (t.carry s).pending = s.pending := rfl
@[simp] theorem State.carry_lane (t s : State) (n : Nat) : (t.carry s).lane n = t.lane n := rfl
@[simp] theorem State.carry_grp (t s : State) (g : Nat) : (t.carry s).grp g = t.grp g := rfl
@[simp] theorem State.carry_obj (t s : State) (y : ObjType) (i : Nat) : (t.carry s).obj y i = t.obj y i := rfl
@[simp] theorem State.carry_port (t s : State) (p : Nat) : (t.carry s).port p = t.port p := rfl
@[simp] theorem State.carry_pllOf (t s : State) (n : Nat) : (t.carry s).pllOf n = t.pllOf n := rfl
@[simp] theorem State.carry_gnssCh (t s : State) (c : Nat) : (t.carry s).gnssCh c = t.gnssCh c := rfl
@[simp] theorem State.carry_tchan (t s : State) (i : Nat) : (t.carry s).tchan i = t.tchan i := rfl
@[simp] theorem State.carry_flow (t s : State) (i : Nat) : (t.carry s).flow i = t.flow i := rfl
@[simp] theorem State.carry_ticCh (t s : State) (c : Nat) : (t.carry s).ticCh c = t.ticCh c := rfl
@[simp] theorem State.carry_engOf (t s : State) (e : Nat) : (t.carry s).engOf e = t.engOf e := rfl
@[simp] theorem State.carry_task (t s : State) (k : Nat) : (t.carry s).task k = t.task k := rfl
@[simp] theorem State.carry_lnkPort (t s : State) (p : Nat) : (t.carry s).lnkPort p = t.lnkPort p := rfl
@[simp] theorem State.carry_req (t s : State) (r : Nat) : (t.carry s).req r = t.req r := rfl

/-! ## `setLane` -/

@[simp] theorem State.setLane_variant (s : State) (n : Nat) (x : Lane) : (s.setLane n x).variant = s.variant := rfl
@[simp] theorem State.setLane_fused (s : State) (n : Nat) (x : Lane) : (s.setLane n x).fused = s.fused := rfl
@[simp] theorem State.setLane_clk (s : State) (n : Nat) (x : Lane) : (s.setLane n x).clk = s.clk := rfl
@[simp] theorem State.setLane_ready (s : State) (n : Nat) (x : Lane) : (s.setLane n x).ready = s.ready := rfl
@[simp] theorem State.setLane_keys (s : State) (n : Nat) (x : Lane) : (s.setLane n x).keys = s.keys := rfl
@[simp] theorem State.setLane_regs (s : State) (n : Nat) (x : Lane) : (s.setLane n x).regs = s.regs := rfl
@[simp] theorem State.setLane_rc (s : State) (n : Nat) (x : Lane) : (s.setLane n x).rc = s.rc := rfl
@[simp] theorem State.setLane_mbx (s : State) (n : Nat) (x : Lane) : (s.setLane n x).mbx = s.mbx := rfl
@[simp] theorem State.setLane_rd (s : State) (n : Nat) (x : Lane) : (s.setLane n x).rd = s.rd := rfl
@[simp] theorem State.setLane_rdHi (s : State) (n : Nat) (x : Lane) : (s.setLane n x).rdHi = s.rdHi := rfl
@[simp] theorem State.setLane_rdI2c (s : State) (n : Nat) (x : Lane) : (s.setLane n x).rdI2c = s.rdI2c := rfl
@[simp] theorem State.setLane_evt (s : State) (n : Nat) (x : Lane) : (s.setLane n x).evt = s.evt := rfl
@[simp] theorem State.setLane_pers (s : State) (n : Nat) (x : Lane) : (s.setLane n x).pers = s.pers := rfl
@[simp] theorem State.setLane_hif (s : State) (n : Nat) (x : Lane) : (s.setLane n x).hif = s.hif := rfl
@[simp] theorem State.setLane_index (s : State) (n : Nat) (x : Lane) : (s.setLane n x).index = s.index := rfl
@[simp] theorem State.setLane_objs (s : State) (n : Nat) (x : Lane) : (s.setLane n x).objs = s.objs := rfl
@[simp] theorem State.setLane_grps (s : State) (n : Nat) (x : Lane) : (s.setLane n x).grps = s.grps := rfl
@[simp] theorem State.setLane_sw (s : State) (n : Nat) (x : Lane) : (s.setLane n x).sw = s.sw := rfl
@[simp] theorem State.setLane_fab (s : State) (n : Nat) (x : Lane) : (s.setLane n x).fab = s.fab := rfl
@[simp] theorem State.setLane_bpm (s : State) (n : Nat) (x : Lane) : (s.setLane n x).bpm = s.bpm := rfl
@[simp] theorem State.setLane_fdb (s : State) (n : Nat) (x : Lane) : (s.setLane n x).fdb = s.fdb := rfl
@[simp] theorem State.setLane_tcore (s : State) (n : Nat) (x : Lane) : (s.setLane n x).tcore = s.tcore := rfl
@[simp] theorem State.setLane_tchans (s : State) (n : Nat) (x : Lane) : (s.setLane n x).tchans = s.tchans := rfl
@[simp] theorem State.setLane_lnk (s : State) (n : Nat) (x : Lane) : (s.setLane n x).lnk = s.lnk := rfl
@[simp] theorem State.setLane_ref (s : State) (n : Nat) (x : Lane) : (s.setLane n x).ref = s.ref := rfl
@[simp] theorem State.setLane_free (s : State) (n : Nat) (x : Lane) : (s.setLane n x).free = s.free := rfl
@[simp] theorem State.setLane_pll (s : State) (n : Nat) (x : Lane) : (s.setLane n x).pll = s.pll := rfl
@[simp] theorem State.setLane_gnss (s : State) (n : Nat) (x : Lane) : (s.setLane n x).gnss = s.gnss := rfl
@[simp] theorem State.setLane_tic (s : State) (n : Nat) (x : Lane) : (s.setLane n x).tic = s.tic := rfl
@[simp] theorem State.setLane_cal (s : State) (n : Nat) (x : Lane) : (s.setLane n x).cal = s.cal := rfl
@[simp] theorem State.setLane_eng (s : State) (n : Nat) (x : Lane) : (s.setLane n x).eng = s.eng := rfl
@[simp] theorem State.setLane_pair (s : State) (n : Nat) (x : Lane) : (s.setLane n x).pair = s.pair := rfl
@[simp] theorem State.setLane_pwr (s : State) (n : Nat) (x : Lane) : (s.setLane n x).pwr = s.pwr := rfl
@[simp] theorem State.setLane_boot (s : State) (n : Nat) (x : Lane) : (s.setLane n x).boot = s.boot := rfl
@[simp] theorem State.setLane_flash (s : State) (n : Nat) (x : Lane) : (s.setLane n x).flash = s.flash := rfl
@[simp] theorem State.setLane_pending (s : State) (n : Nat) (x : Lane) : (s.setLane n x).pending = s.pending := rfl
@[simp] theorem State.lane_setLane (s : State) (n : Nat) (x : Lane) : (s.setLane n x).lane n = x := by
  simp [State.lane, State.setLane]
theorem State.lane_setLane_ne (s : State) (n : Nat) (m : Nat) (x : Lane) (h : m ≠ n) :
    (s.setLane n x).lane m = s.lane m := by simp [State.lane, State.setLane, Tab.get_set_ne _ _ _ _ _ h]

/-! ## `setGrp` -/

@[simp] theorem State.setGrp_variant (s : State) (g : Nat) (x : Grp) : (s.setGrp g x).variant = s.variant := rfl
@[simp] theorem State.setGrp_fused (s : State) (g : Nat) (x : Grp) : (s.setGrp g x).fused = s.fused := rfl
@[simp] theorem State.setGrp_clk (s : State) (g : Nat) (x : Grp) : (s.setGrp g x).clk = s.clk := rfl
@[simp] theorem State.setGrp_ready (s : State) (g : Nat) (x : Grp) : (s.setGrp g x).ready = s.ready := rfl
@[simp] theorem State.setGrp_keys (s : State) (g : Nat) (x : Grp) : (s.setGrp g x).keys = s.keys := rfl
@[simp] theorem State.setGrp_regs (s : State) (g : Nat) (x : Grp) : (s.setGrp g x).regs = s.regs := rfl
@[simp] theorem State.setGrp_rc (s : State) (g : Nat) (x : Grp) : (s.setGrp g x).rc = s.rc := rfl
@[simp] theorem State.setGrp_mbx (s : State) (g : Nat) (x : Grp) : (s.setGrp g x).mbx = s.mbx := rfl
@[simp] theorem State.setGrp_rd (s : State) (g : Nat) (x : Grp) : (s.setGrp g x).rd = s.rd := rfl
@[simp] theorem State.setGrp_rdHi (s : State) (g : Nat) (x : Grp) : (s.setGrp g x).rdHi = s.rdHi := rfl
@[simp] theorem State.setGrp_rdI2c (s : State) (g : Nat) (x : Grp) : (s.setGrp g x).rdI2c = s.rdI2c := rfl
@[simp] theorem State.setGrp_evt (s : State) (g : Nat) (x : Grp) : (s.setGrp g x).evt = s.evt := rfl
@[simp] theorem State.setGrp_pers (s : State) (g : Nat) (x : Grp) : (s.setGrp g x).pers = s.pers := rfl
@[simp] theorem State.setGrp_hif (s : State) (g : Nat) (x : Grp) : (s.setGrp g x).hif = s.hif := rfl
@[simp] theorem State.setGrp_index (s : State) (g : Nat) (x : Grp) : (s.setGrp g x).index = s.index := rfl
@[simp] theorem State.setGrp_objs (s : State) (g : Nat) (x : Grp) : (s.setGrp g x).objs = s.objs := rfl
@[simp] theorem State.setGrp_lanes (s : State) (g : Nat) (x : Grp) : (s.setGrp g x).lanes = s.lanes := rfl
@[simp] theorem State.setGrp_sw (s : State) (g : Nat) (x : Grp) : (s.setGrp g x).sw = s.sw := rfl
@[simp] theorem State.setGrp_fab (s : State) (g : Nat) (x : Grp) : (s.setGrp g x).fab = s.fab := rfl
@[simp] theorem State.setGrp_bpm (s : State) (g : Nat) (x : Grp) : (s.setGrp g x).bpm = s.bpm := rfl
@[simp] theorem State.setGrp_fdb (s : State) (g : Nat) (x : Grp) : (s.setGrp g x).fdb = s.fdb := rfl
@[simp] theorem State.setGrp_tcore (s : State) (g : Nat) (x : Grp) : (s.setGrp g x).tcore = s.tcore := rfl
@[simp] theorem State.setGrp_tchans (s : State) (g : Nat) (x : Grp) : (s.setGrp g x).tchans = s.tchans := rfl
@[simp] theorem State.setGrp_lnk (s : State) (g : Nat) (x : Grp) : (s.setGrp g x).lnk = s.lnk := rfl
@[simp] theorem State.setGrp_ref (s : State) (g : Nat) (x : Grp) : (s.setGrp g x).ref = s.ref := rfl
@[simp] theorem State.setGrp_free (s : State) (g : Nat) (x : Grp) : (s.setGrp g x).free = s.free := rfl
@[simp] theorem State.setGrp_pll (s : State) (g : Nat) (x : Grp) : (s.setGrp g x).pll = s.pll := rfl
@[simp] theorem State.setGrp_gnss (s : State) (g : Nat) (x : Grp) : (s.setGrp g x).gnss = s.gnss := rfl
@[simp] theorem State.setGrp_tic (s : State) (g : Nat) (x : Grp) : (s.setGrp g x).tic = s.tic := rfl
@[simp] theorem State.setGrp_cal (s : State) (g : Nat) (x : Grp) : (s.setGrp g x).cal = s.cal := rfl
@[simp] theorem State.setGrp_eng (s : State) (g : Nat) (x : Grp) : (s.setGrp g x).eng = s.eng := rfl
@[simp] theorem State.setGrp_pair (s : State) (g : Nat) (x : Grp) : (s.setGrp g x).pair = s.pair := rfl
@[simp] theorem State.setGrp_pwr (s : State) (g : Nat) (x : Grp) : (s.setGrp g x).pwr = s.pwr := rfl
@[simp] theorem State.setGrp_boot (s : State) (g : Nat) (x : Grp) : (s.setGrp g x).boot = s.boot := rfl
@[simp] theorem State.setGrp_flash (s : State) (g : Nat) (x : Grp) : (s.setGrp g x).flash = s.flash := rfl
@[simp] theorem State.setGrp_pending (s : State) (g : Nat) (x : Grp) : (s.setGrp g x).pending = s.pending := rfl
@[simp] theorem State.grp_setGrp (s : State) (g : Nat) (x : Grp) : (s.setGrp g x).grp g = x := by
  simp [State.grp, State.setGrp]
theorem State.grp_setGrp_ne (s : State) (g : Nat) (m : Nat) (x : Grp) (h : m ≠ g) :
    (s.setGrp g x).grp m = s.grp m := by simp [State.grp, State.setGrp, Tab.get_set_ne _ _ _ _ _ h]

/-! ## `setObj` -/

@[simp] theorem State.setObj_variant (s : State) (y : ObjType) (i : Nat) (x : Obj) : (s.setObj y i x).variant = s.variant := rfl
@[simp] theorem State.setObj_fused (s : State) (y : ObjType) (i : Nat) (x : Obj) : (s.setObj y i x).fused = s.fused := rfl
@[simp] theorem State.setObj_clk (s : State) (y : ObjType) (i : Nat) (x : Obj) : (s.setObj y i x).clk = s.clk := rfl
@[simp] theorem State.setObj_ready (s : State) (y : ObjType) (i : Nat) (x : Obj) : (s.setObj y i x).ready = s.ready := rfl
@[simp] theorem State.setObj_keys (s : State) (y : ObjType) (i : Nat) (x : Obj) : (s.setObj y i x).keys = s.keys := rfl
@[simp] theorem State.setObj_regs (s : State) (y : ObjType) (i : Nat) (x : Obj) : (s.setObj y i x).regs = s.regs := rfl
@[simp] theorem State.setObj_rc (s : State) (y : ObjType) (i : Nat) (x : Obj) : (s.setObj y i x).rc = s.rc := rfl
@[simp] theorem State.setObj_mbx (s : State) (y : ObjType) (i : Nat) (x : Obj) : (s.setObj y i x).mbx = s.mbx := rfl
@[simp] theorem State.setObj_rd (s : State) (y : ObjType) (i : Nat) (x : Obj) : (s.setObj y i x).rd = s.rd := rfl
@[simp] theorem State.setObj_rdHi (s : State) (y : ObjType) (i : Nat) (x : Obj) : (s.setObj y i x).rdHi = s.rdHi := rfl
@[simp] theorem State.setObj_rdI2c (s : State) (y : ObjType) (i : Nat) (x : Obj) : (s.setObj y i x).rdI2c = s.rdI2c := rfl
@[simp] theorem State.setObj_evt (s : State) (y : ObjType) (i : Nat) (x : Obj) : (s.setObj y i x).evt = s.evt := rfl
@[simp] theorem State.setObj_pers (s : State) (y : ObjType) (i : Nat) (x : Obj) : (s.setObj y i x).pers = s.pers := rfl
@[simp] theorem State.setObj_hif (s : State) (y : ObjType) (i : Nat) (x : Obj) : (s.setObj y i x).hif = s.hif := rfl
@[simp] theorem State.setObj_index (s : State) (y : ObjType) (i : Nat) (x : Obj) : (s.setObj y i x).index = s.index := rfl
@[simp] theorem State.setObj_lanes (s : State) (y : ObjType) (i : Nat) (x : Obj) : (s.setObj y i x).lanes = s.lanes := rfl
@[simp] theorem State.setObj_grps (s : State) (y : ObjType) (i : Nat) (x : Obj) : (s.setObj y i x).grps = s.grps := rfl
@[simp] theorem State.setObj_sw (s : State) (y : ObjType) (i : Nat) (x : Obj) : (s.setObj y i x).sw = s.sw := rfl
@[simp] theorem State.setObj_fab (s : State) (y : ObjType) (i : Nat) (x : Obj) : (s.setObj y i x).fab = s.fab := rfl
@[simp] theorem State.setObj_bpm (s : State) (y : ObjType) (i : Nat) (x : Obj) : (s.setObj y i x).bpm = s.bpm := rfl
@[simp] theorem State.setObj_fdb (s : State) (y : ObjType) (i : Nat) (x : Obj) : (s.setObj y i x).fdb = s.fdb := rfl
@[simp] theorem State.setObj_tcore (s : State) (y : ObjType) (i : Nat) (x : Obj) : (s.setObj y i x).tcore = s.tcore := rfl
@[simp] theorem State.setObj_tchans (s : State) (y : ObjType) (i : Nat) (x : Obj) : (s.setObj y i x).tchans = s.tchans := rfl
@[simp] theorem State.setObj_lnk (s : State) (y : ObjType) (i : Nat) (x : Obj) : (s.setObj y i x).lnk = s.lnk := rfl
@[simp] theorem State.setObj_ref (s : State) (y : ObjType) (i : Nat) (x : Obj) : (s.setObj y i x).ref = s.ref := rfl
@[simp] theorem State.setObj_free (s : State) (y : ObjType) (i : Nat) (x : Obj) : (s.setObj y i x).free = s.free := rfl
@[simp] theorem State.setObj_pll (s : State) (y : ObjType) (i : Nat) (x : Obj) : (s.setObj y i x).pll = s.pll := rfl
@[simp] theorem State.setObj_gnss (s : State) (y : ObjType) (i : Nat) (x : Obj) : (s.setObj y i x).gnss = s.gnss := rfl
@[simp] theorem State.setObj_tic (s : State) (y : ObjType) (i : Nat) (x : Obj) : (s.setObj y i x).tic = s.tic := rfl
@[simp] theorem State.setObj_cal (s : State) (y : ObjType) (i : Nat) (x : Obj) : (s.setObj y i x).cal = s.cal := rfl
@[simp] theorem State.setObj_eng (s : State) (y : ObjType) (i : Nat) (x : Obj) : (s.setObj y i x).eng = s.eng := rfl
@[simp] theorem State.setObj_pair (s : State) (y : ObjType) (i : Nat) (x : Obj) : (s.setObj y i x).pair = s.pair := rfl
@[simp] theorem State.setObj_pwr (s : State) (y : ObjType) (i : Nat) (x : Obj) : (s.setObj y i x).pwr = s.pwr := rfl
@[simp] theorem State.setObj_boot (s : State) (y : ObjType) (i : Nat) (x : Obj) : (s.setObj y i x).boot = s.boot := rfl
@[simp] theorem State.setObj_flash (s : State) (y : ObjType) (i : Nat) (x : Obj) : (s.setObj y i x).flash = s.flash := rfl
@[simp] theorem State.setObj_pending (s : State) (y : ObjType) (i : Nat) (x : Obj) : (s.setObj y i x).pending = s.pending := rfl
@[simp] theorem State.obj_setObj (s : State) (y : ObjType) (i : Nat) (x : Obj) : (s.setObj y i x).obj y i = x := by
  simp [State.obj, State.setObj]

/-! ## `setPort` -/

@[simp] theorem State.setPort_variant (s : State) (p : Nat) (x : PortSt) : (s.setPort p x).variant = s.variant := rfl
@[simp] theorem State.setPort_fused (s : State) (p : Nat) (x : PortSt) : (s.setPort p x).fused = s.fused := rfl
@[simp] theorem State.setPort_clk (s : State) (p : Nat) (x : PortSt) : (s.setPort p x).clk = s.clk := rfl
@[simp] theorem State.setPort_ready (s : State) (p : Nat) (x : PortSt) : (s.setPort p x).ready = s.ready := rfl
@[simp] theorem State.setPort_keys (s : State) (p : Nat) (x : PortSt) : (s.setPort p x).keys = s.keys := rfl
@[simp] theorem State.setPort_regs (s : State) (p : Nat) (x : PortSt) : (s.setPort p x).regs = s.regs := rfl
@[simp] theorem State.setPort_rc (s : State) (p : Nat) (x : PortSt) : (s.setPort p x).rc = s.rc := rfl
@[simp] theorem State.setPort_mbx (s : State) (p : Nat) (x : PortSt) : (s.setPort p x).mbx = s.mbx := rfl
@[simp] theorem State.setPort_rd (s : State) (p : Nat) (x : PortSt) : (s.setPort p x).rd = s.rd := rfl
@[simp] theorem State.setPort_rdHi (s : State) (p : Nat) (x : PortSt) : (s.setPort p x).rdHi = s.rdHi := rfl
@[simp] theorem State.setPort_rdI2c (s : State) (p : Nat) (x : PortSt) : (s.setPort p x).rdI2c = s.rdI2c := rfl
@[simp] theorem State.setPort_evt (s : State) (p : Nat) (x : PortSt) : (s.setPort p x).evt = s.evt := rfl
@[simp] theorem State.setPort_pers (s : State) (p : Nat) (x : PortSt) : (s.setPort p x).pers = s.pers := rfl
@[simp] theorem State.setPort_hif (s : State) (p : Nat) (x : PortSt) : (s.setPort p x).hif = s.hif := rfl
@[simp] theorem State.setPort_index (s : State) (p : Nat) (x : PortSt) : (s.setPort p x).index = s.index := rfl
@[simp] theorem State.setPort_objs (s : State) (p : Nat) (x : PortSt) : (s.setPort p x).objs = s.objs := rfl
@[simp] theorem State.setPort_lanes (s : State) (p : Nat) (x : PortSt) : (s.setPort p x).lanes = s.lanes := rfl
@[simp] theorem State.setPort_grps (s : State) (p : Nat) (x : PortSt) : (s.setPort p x).grps = s.grps := rfl
@[simp] theorem State.setPort_sw (s : State) (p : Nat) (x : PortSt) : (s.setPort p x).sw = s.sw := rfl
@[simp] theorem State.setPort_bpm (s : State) (p : Nat) (x : PortSt) : (s.setPort p x).bpm = s.bpm := rfl
@[simp] theorem State.setPort_fdb (s : State) (p : Nat) (x : PortSt) : (s.setPort p x).fdb = s.fdb := rfl
@[simp] theorem State.setPort_tcore (s : State) (p : Nat) (x : PortSt) : (s.setPort p x).tcore = s.tcore := rfl
@[simp] theorem State.setPort_tchans (s : State) (p : Nat) (x : PortSt) : (s.setPort p x).tchans = s.tchans := rfl
@[simp] theorem State.setPort_lnk (s : State) (p : Nat) (x : PortSt) : (s.setPort p x).lnk = s.lnk := rfl
@[simp] theorem State.setPort_ref (s : State) (p : Nat) (x : PortSt) : (s.setPort p x).ref = s.ref := rfl
@[simp] theorem State.setPort_free (s : State) (p : Nat) (x : PortSt) : (s.setPort p x).free = s.free := rfl
@[simp] theorem State.setPort_pll (s : State) (p : Nat) (x : PortSt) : (s.setPort p x).pll = s.pll := rfl
@[simp] theorem State.setPort_gnss (s : State) (p : Nat) (x : PortSt) : (s.setPort p x).gnss = s.gnss := rfl
@[simp] theorem State.setPort_tic (s : State) (p : Nat) (x : PortSt) : (s.setPort p x).tic = s.tic := rfl
@[simp] theorem State.setPort_cal (s : State) (p : Nat) (x : PortSt) : (s.setPort p x).cal = s.cal := rfl
@[simp] theorem State.setPort_eng (s : State) (p : Nat) (x : PortSt) : (s.setPort p x).eng = s.eng := rfl
@[simp] theorem State.setPort_pair (s : State) (p : Nat) (x : PortSt) : (s.setPort p x).pair = s.pair := rfl
@[simp] theorem State.setPort_pwr (s : State) (p : Nat) (x : PortSt) : (s.setPort p x).pwr = s.pwr := rfl
@[simp] theorem State.setPort_boot (s : State) (p : Nat) (x : PortSt) : (s.setPort p x).boot = s.boot := rfl
@[simp] theorem State.setPort_flash (s : State) (p : Nat) (x : PortSt) : (s.setPort p x).flash = s.flash := rfl
@[simp] theorem State.setPort_pending (s : State) (p : Nat) (x : PortSt) : (s.setPort p x).pending = s.pending := rfl
@[simp] theorem State.port_setPort (s : State) (p : Nat) (x : PortSt) : (s.setPort p x).port p = x := by
  simp [State.port, State.setPort]
theorem State.port_setPort_ne (s : State) (p : Nat) (m : Nat) (x : PortSt) (h : m ≠ p) :
    (s.setPort p x).port m = s.port m := by simp [State.port, State.setPort, Tab.get_set_ne _ _ _ _ _ h]

/-! ## `setFrame` -/

@[simp] theorem State.setFrame_variant (s : State) (f : Nat) (x : Frame) : (s.setFrame f x).variant = s.variant := rfl
@[simp] theorem State.setFrame_fused (s : State) (f : Nat) (x : Frame) : (s.setFrame f x).fused = s.fused := rfl
@[simp] theorem State.setFrame_clk (s : State) (f : Nat) (x : Frame) : (s.setFrame f x).clk = s.clk := rfl
@[simp] theorem State.setFrame_ready (s : State) (f : Nat) (x : Frame) : (s.setFrame f x).ready = s.ready := rfl
@[simp] theorem State.setFrame_keys (s : State) (f : Nat) (x : Frame) : (s.setFrame f x).keys = s.keys := rfl
@[simp] theorem State.setFrame_regs (s : State) (f : Nat) (x : Frame) : (s.setFrame f x).regs = s.regs := rfl
@[simp] theorem State.setFrame_rc (s : State) (f : Nat) (x : Frame) : (s.setFrame f x).rc = s.rc := rfl
@[simp] theorem State.setFrame_mbx (s : State) (f : Nat) (x : Frame) : (s.setFrame f x).mbx = s.mbx := rfl
@[simp] theorem State.setFrame_rd (s : State) (f : Nat) (x : Frame) : (s.setFrame f x).rd = s.rd := rfl
@[simp] theorem State.setFrame_rdHi (s : State) (f : Nat) (x : Frame) : (s.setFrame f x).rdHi = s.rdHi := rfl
@[simp] theorem State.setFrame_rdI2c (s : State) (f : Nat) (x : Frame) : (s.setFrame f x).rdI2c = s.rdI2c := rfl
@[simp] theorem State.setFrame_evt (s : State) (f : Nat) (x : Frame) : (s.setFrame f x).evt = s.evt := rfl
@[simp] theorem State.setFrame_pers (s : State) (f : Nat) (x : Frame) : (s.setFrame f x).pers = s.pers := rfl
@[simp] theorem State.setFrame_hif (s : State) (f : Nat) (x : Frame) : (s.setFrame f x).hif = s.hif := rfl
@[simp] theorem State.setFrame_index (s : State) (f : Nat) (x : Frame) : (s.setFrame f x).index = s.index := rfl
@[simp] theorem State.setFrame_objs (s : State) (f : Nat) (x : Frame) : (s.setFrame f x).objs = s.objs := rfl
@[simp] theorem State.setFrame_lanes (s : State) (f : Nat) (x : Frame) : (s.setFrame f x).lanes = s.lanes := rfl
@[simp] theorem State.setFrame_grps (s : State) (f : Nat) (x : Frame) : (s.setFrame f x).grps = s.grps := rfl
@[simp] theorem State.setFrame_sw (s : State) (f : Nat) (x : Frame) : (s.setFrame f x).sw = s.sw := rfl
@[simp] theorem State.setFrame_bpm (s : State) (f : Nat) (x : Frame) : (s.setFrame f x).bpm = s.bpm := rfl
@[simp] theorem State.setFrame_fdb (s : State) (f : Nat) (x : Frame) : (s.setFrame f x).fdb = s.fdb := rfl
@[simp] theorem State.setFrame_tcore (s : State) (f : Nat) (x : Frame) : (s.setFrame f x).tcore = s.tcore := rfl
@[simp] theorem State.setFrame_tchans (s : State) (f : Nat) (x : Frame) : (s.setFrame f x).tchans = s.tchans := rfl
@[simp] theorem State.setFrame_lnk (s : State) (f : Nat) (x : Frame) : (s.setFrame f x).lnk = s.lnk := rfl
@[simp] theorem State.setFrame_ref (s : State) (f : Nat) (x : Frame) : (s.setFrame f x).ref = s.ref := rfl
@[simp] theorem State.setFrame_free (s : State) (f : Nat) (x : Frame) : (s.setFrame f x).free = s.free := rfl
@[simp] theorem State.setFrame_pll (s : State) (f : Nat) (x : Frame) : (s.setFrame f x).pll = s.pll := rfl
@[simp] theorem State.setFrame_gnss (s : State) (f : Nat) (x : Frame) : (s.setFrame f x).gnss = s.gnss := rfl
@[simp] theorem State.setFrame_tic (s : State) (f : Nat) (x : Frame) : (s.setFrame f x).tic = s.tic := rfl
@[simp] theorem State.setFrame_cal (s : State) (f : Nat) (x : Frame) : (s.setFrame f x).cal = s.cal := rfl
@[simp] theorem State.setFrame_eng (s : State) (f : Nat) (x : Frame) : (s.setFrame f x).eng = s.eng := rfl
@[simp] theorem State.setFrame_pair (s : State) (f : Nat) (x : Frame) : (s.setFrame f x).pair = s.pair := rfl
@[simp] theorem State.setFrame_pwr (s : State) (f : Nat) (x : Frame) : (s.setFrame f x).pwr = s.pwr := rfl
@[simp] theorem State.setFrame_boot (s : State) (f : Nat) (x : Frame) : (s.setFrame f x).boot = s.boot := rfl
@[simp] theorem State.setFrame_flash (s : State) (f : Nat) (x : Frame) : (s.setFrame f x).flash = s.flash := rfl
@[simp] theorem State.setFrame_pending (s : State) (f : Nat) (x : Frame) : (s.setFrame f x).pending = s.pending := rfl

/-! ## `setCopy` -/

@[simp] theorem State.setCopy_variant (s : State) (c : Nat) (x : Copy) : (s.setCopy c x).variant = s.variant := rfl
@[simp] theorem State.setCopy_fused (s : State) (c : Nat) (x : Copy) : (s.setCopy c x).fused = s.fused := rfl
@[simp] theorem State.setCopy_clk (s : State) (c : Nat) (x : Copy) : (s.setCopy c x).clk = s.clk := rfl
@[simp] theorem State.setCopy_ready (s : State) (c : Nat) (x : Copy) : (s.setCopy c x).ready = s.ready := rfl
@[simp] theorem State.setCopy_keys (s : State) (c : Nat) (x : Copy) : (s.setCopy c x).keys = s.keys := rfl
@[simp] theorem State.setCopy_regs (s : State) (c : Nat) (x : Copy) : (s.setCopy c x).regs = s.regs := rfl
@[simp] theorem State.setCopy_rc (s : State) (c : Nat) (x : Copy) : (s.setCopy c x).rc = s.rc := rfl
@[simp] theorem State.setCopy_mbx (s : State) (c : Nat) (x : Copy) : (s.setCopy c x).mbx = s.mbx := rfl
@[simp] theorem State.setCopy_rd (s : State) (c : Nat) (x : Copy) : (s.setCopy c x).rd = s.rd := rfl
@[simp] theorem State.setCopy_rdHi (s : State) (c : Nat) (x : Copy) : (s.setCopy c x).rdHi = s.rdHi := rfl
@[simp] theorem State.setCopy_rdI2c (s : State) (c : Nat) (x : Copy) : (s.setCopy c x).rdI2c = s.rdI2c := rfl
@[simp] theorem State.setCopy_evt (s : State) (c : Nat) (x : Copy) : (s.setCopy c x).evt = s.evt := rfl
@[simp] theorem State.setCopy_pers (s : State) (c : Nat) (x : Copy) : (s.setCopy c x).pers = s.pers := rfl
@[simp] theorem State.setCopy_hif (s : State) (c : Nat) (x : Copy) : (s.setCopy c x).hif = s.hif := rfl
@[simp] theorem State.setCopy_index (s : State) (c : Nat) (x : Copy) : (s.setCopy c x).index = s.index := rfl
@[simp] theorem State.setCopy_objs (s : State) (c : Nat) (x : Copy) : (s.setCopy c x).objs = s.objs := rfl
@[simp] theorem State.setCopy_lanes (s : State) (c : Nat) (x : Copy) : (s.setCopy c x).lanes = s.lanes := rfl
@[simp] theorem State.setCopy_grps (s : State) (c : Nat) (x : Copy) : (s.setCopy c x).grps = s.grps := rfl
@[simp] theorem State.setCopy_sw (s : State) (c : Nat) (x : Copy) : (s.setCopy c x).sw = s.sw := rfl
@[simp] theorem State.setCopy_bpm (s : State) (c : Nat) (x : Copy) : (s.setCopy c x).bpm = s.bpm := rfl
@[simp] theorem State.setCopy_fdb (s : State) (c : Nat) (x : Copy) : (s.setCopy c x).fdb = s.fdb := rfl
@[simp] theorem State.setCopy_tcore (s : State) (c : Nat) (x : Copy) : (s.setCopy c x).tcore = s.tcore := rfl
@[simp] theorem State.setCopy_tchans (s : State) (c : Nat) (x : Copy) : (s.setCopy c x).tchans = s.tchans := rfl
@[simp] theorem State.setCopy_lnk (s : State) (c : Nat) (x : Copy) : (s.setCopy c x).lnk = s.lnk := rfl
@[simp] theorem State.setCopy_ref (s : State) (c : Nat) (x : Copy) : (s.setCopy c x).ref = s.ref := rfl
@[simp] theorem State.setCopy_free (s : State) (c : Nat) (x : Copy) : (s.setCopy c x).free = s.free := rfl
@[simp] theorem State.setCopy_pll (s : State) (c : Nat) (x : Copy) : (s.setCopy c x).pll = s.pll := rfl
@[simp] theorem State.setCopy_gnss (s : State) (c : Nat) (x : Copy) : (s.setCopy c x).gnss = s.gnss := rfl
@[simp] theorem State.setCopy_tic (s : State) (c : Nat) (x : Copy) : (s.setCopy c x).tic = s.tic := rfl
@[simp] theorem State.setCopy_cal (s : State) (c : Nat) (x : Copy) : (s.setCopy c x).cal = s.cal := rfl
@[simp] theorem State.setCopy_eng (s : State) (c : Nat) (x : Copy) : (s.setCopy c x).eng = s.eng := rfl
@[simp] theorem State.setCopy_pair (s : State) (c : Nat) (x : Copy) : (s.setCopy c x).pair = s.pair := rfl
@[simp] theorem State.setCopy_pwr (s : State) (c : Nat) (x : Copy) : (s.setCopy c x).pwr = s.pwr := rfl
@[simp] theorem State.setCopy_boot (s : State) (c : Nat) (x : Copy) : (s.setCopy c x).boot = s.boot := rfl
@[simp] theorem State.setCopy_flash (s : State) (c : Nat) (x : Copy) : (s.setCopy c x).flash = s.flash := rfl
@[simp] theorem State.setCopy_pending (s : State) (c : Nat) (x : Copy) : (s.setCopy c x).pending = s.pending := rfl

/-! ## `setPll` -/

@[simp] theorem State.setPll_variant (s : State) (n : Nat) (x : Pll) : (s.setPll n x).variant = s.variant := rfl
@[simp] theorem State.setPll_fused (s : State) (n : Nat) (x : Pll) : (s.setPll n x).fused = s.fused := rfl
@[simp] theorem State.setPll_clk (s : State) (n : Nat) (x : Pll) : (s.setPll n x).clk = s.clk := rfl
@[simp] theorem State.setPll_ready (s : State) (n : Nat) (x : Pll) : (s.setPll n x).ready = s.ready := rfl
@[simp] theorem State.setPll_keys (s : State) (n : Nat) (x : Pll) : (s.setPll n x).keys = s.keys := rfl
@[simp] theorem State.setPll_regs (s : State) (n : Nat) (x : Pll) : (s.setPll n x).regs = s.regs := rfl
@[simp] theorem State.setPll_rc (s : State) (n : Nat) (x : Pll) : (s.setPll n x).rc = s.rc := rfl
@[simp] theorem State.setPll_mbx (s : State) (n : Nat) (x : Pll) : (s.setPll n x).mbx = s.mbx := rfl
@[simp] theorem State.setPll_rd (s : State) (n : Nat) (x : Pll) : (s.setPll n x).rd = s.rd := rfl
@[simp] theorem State.setPll_rdHi (s : State) (n : Nat) (x : Pll) : (s.setPll n x).rdHi = s.rdHi := rfl
@[simp] theorem State.setPll_rdI2c (s : State) (n : Nat) (x : Pll) : (s.setPll n x).rdI2c = s.rdI2c := rfl
@[simp] theorem State.setPll_evt (s : State) (n : Nat) (x : Pll) : (s.setPll n x).evt = s.evt := rfl
@[simp] theorem State.setPll_pers (s : State) (n : Nat) (x : Pll) : (s.setPll n x).pers = s.pers := rfl
@[simp] theorem State.setPll_hif (s : State) (n : Nat) (x : Pll) : (s.setPll n x).hif = s.hif := rfl
@[simp] theorem State.setPll_index (s : State) (n : Nat) (x : Pll) : (s.setPll n x).index = s.index := rfl
@[simp] theorem State.setPll_objs (s : State) (n : Nat) (x : Pll) : (s.setPll n x).objs = s.objs := rfl
@[simp] theorem State.setPll_lanes (s : State) (n : Nat) (x : Pll) : (s.setPll n x).lanes = s.lanes := rfl
@[simp] theorem State.setPll_grps (s : State) (n : Nat) (x : Pll) : (s.setPll n x).grps = s.grps := rfl
@[simp] theorem State.setPll_sw (s : State) (n : Nat) (x : Pll) : (s.setPll n x).sw = s.sw := rfl
@[simp] theorem State.setPll_fab (s : State) (n : Nat) (x : Pll) : (s.setPll n x).fab = s.fab := rfl
@[simp] theorem State.setPll_bpm (s : State) (n : Nat) (x : Pll) : (s.setPll n x).bpm = s.bpm := rfl
@[simp] theorem State.setPll_fdb (s : State) (n : Nat) (x : Pll) : (s.setPll n x).fdb = s.fdb := rfl
@[simp] theorem State.setPll_tcore (s : State) (n : Nat) (x : Pll) : (s.setPll n x).tcore = s.tcore := rfl
@[simp] theorem State.setPll_tchans (s : State) (n : Nat) (x : Pll) : (s.setPll n x).tchans = s.tchans := rfl
@[simp] theorem State.setPll_lnk (s : State) (n : Nat) (x : Pll) : (s.setPll n x).lnk = s.lnk := rfl
@[simp] theorem State.setPll_ref (s : State) (n : Nat) (x : Pll) : (s.setPll n x).ref = s.ref := rfl
@[simp] theorem State.setPll_free (s : State) (n : Nat) (x : Pll) : (s.setPll n x).free = s.free := rfl
@[simp] theorem State.setPll_gnss (s : State) (n : Nat) (x : Pll) : (s.setPll n x).gnss = s.gnss := rfl
@[simp] theorem State.setPll_tic (s : State) (n : Nat) (x : Pll) : (s.setPll n x).tic = s.tic := rfl
@[simp] theorem State.setPll_cal (s : State) (n : Nat) (x : Pll) : (s.setPll n x).cal = s.cal := rfl
@[simp] theorem State.setPll_eng (s : State) (n : Nat) (x : Pll) : (s.setPll n x).eng = s.eng := rfl
@[simp] theorem State.setPll_pair (s : State) (n : Nat) (x : Pll) : (s.setPll n x).pair = s.pair := rfl
@[simp] theorem State.setPll_pwr (s : State) (n : Nat) (x : Pll) : (s.setPll n x).pwr = s.pwr := rfl
@[simp] theorem State.setPll_boot (s : State) (n : Nat) (x : Pll) : (s.setPll n x).boot = s.boot := rfl
@[simp] theorem State.setPll_flash (s : State) (n : Nat) (x : Pll) : (s.setPll n x).flash = s.flash := rfl
@[simp] theorem State.setPll_pending (s : State) (n : Nat) (x : Pll) : (s.setPll n x).pending = s.pending := rfl
@[simp] theorem State.pllOf_setPll (s : State) (n : Nat) (x : Pll) : (s.setPll n x).pllOf n = x := by
  simp [State.pllOf, State.setPll]
theorem State.pllOf_setPll_ne (s : State) (n : Nat) (m : Nat) (x : Pll) (h : m ≠ n) :
    (s.setPll n x).pllOf m = s.pllOf m := by simp [State.pllOf, State.setPll, Tab.get_set_ne _ _ _ _ _ h]

/-! ## `setGnssCh` -/

@[simp] theorem State.setGnssCh_variant (s : State) (c : Nat) (x : GnssCh) : (s.setGnssCh c x).variant = s.variant := rfl
@[simp] theorem State.setGnssCh_fused (s : State) (c : Nat) (x : GnssCh) : (s.setGnssCh c x).fused = s.fused := rfl
@[simp] theorem State.setGnssCh_clk (s : State) (c : Nat) (x : GnssCh) : (s.setGnssCh c x).clk = s.clk := rfl
@[simp] theorem State.setGnssCh_ready (s : State) (c : Nat) (x : GnssCh) : (s.setGnssCh c x).ready = s.ready := rfl
@[simp] theorem State.setGnssCh_keys (s : State) (c : Nat) (x : GnssCh) : (s.setGnssCh c x).keys = s.keys := rfl
@[simp] theorem State.setGnssCh_regs (s : State) (c : Nat) (x : GnssCh) : (s.setGnssCh c x).regs = s.regs := rfl
@[simp] theorem State.setGnssCh_rc (s : State) (c : Nat) (x : GnssCh) : (s.setGnssCh c x).rc = s.rc := rfl
@[simp] theorem State.setGnssCh_mbx (s : State) (c : Nat) (x : GnssCh) : (s.setGnssCh c x).mbx = s.mbx := rfl
@[simp] theorem State.setGnssCh_rd (s : State) (c : Nat) (x : GnssCh) : (s.setGnssCh c x).rd = s.rd := rfl
@[simp] theorem State.setGnssCh_rdHi (s : State) (c : Nat) (x : GnssCh) : (s.setGnssCh c x).rdHi = s.rdHi := rfl
@[simp] theorem State.setGnssCh_rdI2c (s : State) (c : Nat) (x : GnssCh) : (s.setGnssCh c x).rdI2c = s.rdI2c := rfl
@[simp] theorem State.setGnssCh_evt (s : State) (c : Nat) (x : GnssCh) : (s.setGnssCh c x).evt = s.evt := rfl
@[simp] theorem State.setGnssCh_pers (s : State) (c : Nat) (x : GnssCh) : (s.setGnssCh c x).pers = s.pers := rfl
@[simp] theorem State.setGnssCh_hif (s : State) (c : Nat) (x : GnssCh) : (s.setGnssCh c x).hif = s.hif := rfl
@[simp] theorem State.setGnssCh_index (s : State) (c : Nat) (x : GnssCh) : (s.setGnssCh c x).index = s.index := rfl
@[simp] theorem State.setGnssCh_objs (s : State) (c : Nat) (x : GnssCh) : (s.setGnssCh c x).objs = s.objs := rfl
@[simp] theorem State.setGnssCh_lanes (s : State) (c : Nat) (x : GnssCh) : (s.setGnssCh c x).lanes = s.lanes := rfl
@[simp] theorem State.setGnssCh_grps (s : State) (c : Nat) (x : GnssCh) : (s.setGnssCh c x).grps = s.grps := rfl
@[simp] theorem State.setGnssCh_sw (s : State) (c : Nat) (x : GnssCh) : (s.setGnssCh c x).sw = s.sw := rfl
@[simp] theorem State.setGnssCh_fab (s : State) (c : Nat) (x : GnssCh) : (s.setGnssCh c x).fab = s.fab := rfl
@[simp] theorem State.setGnssCh_bpm (s : State) (c : Nat) (x : GnssCh) : (s.setGnssCh c x).bpm = s.bpm := rfl
@[simp] theorem State.setGnssCh_fdb (s : State) (c : Nat) (x : GnssCh) : (s.setGnssCh c x).fdb = s.fdb := rfl
@[simp] theorem State.setGnssCh_tcore (s : State) (c : Nat) (x : GnssCh) : (s.setGnssCh c x).tcore = s.tcore := rfl
@[simp] theorem State.setGnssCh_tchans (s : State) (c : Nat) (x : GnssCh) : (s.setGnssCh c x).tchans = s.tchans := rfl
@[simp] theorem State.setGnssCh_lnk (s : State) (c : Nat) (x : GnssCh) : (s.setGnssCh c x).lnk = s.lnk := rfl
@[simp] theorem State.setGnssCh_ref (s : State) (c : Nat) (x : GnssCh) : (s.setGnssCh c x).ref = s.ref := rfl
@[simp] theorem State.setGnssCh_free (s : State) (c : Nat) (x : GnssCh) : (s.setGnssCh c x).free = s.free := rfl
@[simp] theorem State.setGnssCh_pll (s : State) (c : Nat) (x : GnssCh) : (s.setGnssCh c x).pll = s.pll := rfl
@[simp] theorem State.setGnssCh_tic (s : State) (c : Nat) (x : GnssCh) : (s.setGnssCh c x).tic = s.tic := rfl
@[simp] theorem State.setGnssCh_cal (s : State) (c : Nat) (x : GnssCh) : (s.setGnssCh c x).cal = s.cal := rfl
@[simp] theorem State.setGnssCh_eng (s : State) (c : Nat) (x : GnssCh) : (s.setGnssCh c x).eng = s.eng := rfl
@[simp] theorem State.setGnssCh_pair (s : State) (c : Nat) (x : GnssCh) : (s.setGnssCh c x).pair = s.pair := rfl
@[simp] theorem State.setGnssCh_pwr (s : State) (c : Nat) (x : GnssCh) : (s.setGnssCh c x).pwr = s.pwr := rfl
@[simp] theorem State.setGnssCh_boot (s : State) (c : Nat) (x : GnssCh) : (s.setGnssCh c x).boot = s.boot := rfl
@[simp] theorem State.setGnssCh_flash (s : State) (c : Nat) (x : GnssCh) : (s.setGnssCh c x).flash = s.flash := rfl
@[simp] theorem State.setGnssCh_pending (s : State) (c : Nat) (x : GnssCh) : (s.setGnssCh c x).pending = s.pending := rfl
@[simp] theorem State.gnssCh_setGnssCh (s : State) (c : Nat) (x : GnssCh) : (s.setGnssCh c x).gnssCh c = x := by
  simp [State.gnssCh, State.setGnssCh]
theorem State.gnssCh_setGnssCh_ne (s : State) (c : Nat) (m : Nat) (x : GnssCh) (h : m ≠ c) :
    (s.setGnssCh c x).gnssCh m = s.gnssCh m := by simp [State.gnssCh, State.setGnssCh, Tab.get_set_ne _ _ _ _ _ h]

/-! ## `setTchan` -/

@[simp] theorem State.setTchan_variant (s : State) (i : Nat) (x : TChan) : (s.setTchan i x).variant = s.variant := rfl
@[simp] theorem State.setTchan_fused (s : State) (i : Nat) (x : TChan) : (s.setTchan i x).fused = s.fused := rfl
@[simp] theorem State.setTchan_clk (s : State) (i : Nat) (x : TChan) : (s.setTchan i x).clk = s.clk := rfl
@[simp] theorem State.setTchan_ready (s : State) (i : Nat) (x : TChan) : (s.setTchan i x).ready = s.ready := rfl
@[simp] theorem State.setTchan_keys (s : State) (i : Nat) (x : TChan) : (s.setTchan i x).keys = s.keys := rfl
@[simp] theorem State.setTchan_regs (s : State) (i : Nat) (x : TChan) : (s.setTchan i x).regs = s.regs := rfl
@[simp] theorem State.setTchan_rc (s : State) (i : Nat) (x : TChan) : (s.setTchan i x).rc = s.rc := rfl
@[simp] theorem State.setTchan_mbx (s : State) (i : Nat) (x : TChan) : (s.setTchan i x).mbx = s.mbx := rfl
@[simp] theorem State.setTchan_rd (s : State) (i : Nat) (x : TChan) : (s.setTchan i x).rd = s.rd := rfl
@[simp] theorem State.setTchan_rdHi (s : State) (i : Nat) (x : TChan) : (s.setTchan i x).rdHi = s.rdHi := rfl
@[simp] theorem State.setTchan_rdI2c (s : State) (i : Nat) (x : TChan) : (s.setTchan i x).rdI2c = s.rdI2c := rfl
@[simp] theorem State.setTchan_evt (s : State) (i : Nat) (x : TChan) : (s.setTchan i x).evt = s.evt := rfl
@[simp] theorem State.setTchan_pers (s : State) (i : Nat) (x : TChan) : (s.setTchan i x).pers = s.pers := rfl
@[simp] theorem State.setTchan_hif (s : State) (i : Nat) (x : TChan) : (s.setTchan i x).hif = s.hif := rfl
@[simp] theorem State.setTchan_index (s : State) (i : Nat) (x : TChan) : (s.setTchan i x).index = s.index := rfl
@[simp] theorem State.setTchan_objs (s : State) (i : Nat) (x : TChan) : (s.setTchan i x).objs = s.objs := rfl
@[simp] theorem State.setTchan_lanes (s : State) (i : Nat) (x : TChan) : (s.setTchan i x).lanes = s.lanes := rfl
@[simp] theorem State.setTchan_grps (s : State) (i : Nat) (x : TChan) : (s.setTchan i x).grps = s.grps := rfl
@[simp] theorem State.setTchan_sw (s : State) (i : Nat) (x : TChan) : (s.setTchan i x).sw = s.sw := rfl
@[simp] theorem State.setTchan_fab (s : State) (i : Nat) (x : TChan) : (s.setTchan i x).fab = s.fab := rfl
@[simp] theorem State.setTchan_bpm (s : State) (i : Nat) (x : TChan) : (s.setTchan i x).bpm = s.bpm := rfl
@[simp] theorem State.setTchan_fdb (s : State) (i : Nat) (x : TChan) : (s.setTchan i x).fdb = s.fdb := rfl
@[simp] theorem State.setTchan_tcore (s : State) (i : Nat) (x : TChan) : (s.setTchan i x).tcore = s.tcore := rfl
@[simp] theorem State.setTchan_lnk (s : State) (i : Nat) (x : TChan) : (s.setTchan i x).lnk = s.lnk := rfl
@[simp] theorem State.setTchan_ref (s : State) (i : Nat) (x : TChan) : (s.setTchan i x).ref = s.ref := rfl
@[simp] theorem State.setTchan_free (s : State) (i : Nat) (x : TChan) : (s.setTchan i x).free = s.free := rfl
@[simp] theorem State.setTchan_pll (s : State) (i : Nat) (x : TChan) : (s.setTchan i x).pll = s.pll := rfl
@[simp] theorem State.setTchan_gnss (s : State) (i : Nat) (x : TChan) : (s.setTchan i x).gnss = s.gnss := rfl
@[simp] theorem State.setTchan_tic (s : State) (i : Nat) (x : TChan) : (s.setTchan i x).tic = s.tic := rfl
@[simp] theorem State.setTchan_cal (s : State) (i : Nat) (x : TChan) : (s.setTchan i x).cal = s.cal := rfl
@[simp] theorem State.setTchan_eng (s : State) (i : Nat) (x : TChan) : (s.setTchan i x).eng = s.eng := rfl
@[simp] theorem State.setTchan_pair (s : State) (i : Nat) (x : TChan) : (s.setTchan i x).pair = s.pair := rfl
@[simp] theorem State.setTchan_pwr (s : State) (i : Nat) (x : TChan) : (s.setTchan i x).pwr = s.pwr := rfl
@[simp] theorem State.setTchan_boot (s : State) (i : Nat) (x : TChan) : (s.setTchan i x).boot = s.boot := rfl
@[simp] theorem State.setTchan_flash (s : State) (i : Nat) (x : TChan) : (s.setTchan i x).flash = s.flash := rfl
@[simp] theorem State.setTchan_pending (s : State) (i : Nat) (x : TChan) : (s.setTchan i x).pending = s.pending := rfl
@[simp] theorem State.tchan_setTchan (s : State) (i : Nat) (x : TChan) : (s.setTchan i x).tchan i = x := by
  simp [State.tchan, State.setTchan]
theorem State.tchan_setTchan_ne (s : State) (i : Nat) (m : Nat) (x : TChan) (h : m ≠ i) :
    (s.setTchan i x).tchan m = s.tchan m := by simp [State.tchan, State.setTchan, Tab.get_set_ne _ _ _ _ _ h]

/-! ## `setFlow` -/

@[simp] theorem State.setFlow_variant (s : State) (i : Nat) (x : Flow) : (s.setFlow i x).variant = s.variant := rfl
@[simp] theorem State.setFlow_fused (s : State) (i : Nat) (x : Flow) : (s.setFlow i x).fused = s.fused := rfl
@[simp] theorem State.setFlow_clk (s : State) (i : Nat) (x : Flow) : (s.setFlow i x).clk = s.clk := rfl
@[simp] theorem State.setFlow_ready (s : State) (i : Nat) (x : Flow) : (s.setFlow i x).ready = s.ready := rfl
@[simp] theorem State.setFlow_keys (s : State) (i : Nat) (x : Flow) : (s.setFlow i x).keys = s.keys := rfl
@[simp] theorem State.setFlow_regs (s : State) (i : Nat) (x : Flow) : (s.setFlow i x).regs = s.regs := rfl
@[simp] theorem State.setFlow_rc (s : State) (i : Nat) (x : Flow) : (s.setFlow i x).rc = s.rc := rfl
@[simp] theorem State.setFlow_mbx (s : State) (i : Nat) (x : Flow) : (s.setFlow i x).mbx = s.mbx := rfl
@[simp] theorem State.setFlow_rd (s : State) (i : Nat) (x : Flow) : (s.setFlow i x).rd = s.rd := rfl
@[simp] theorem State.setFlow_rdHi (s : State) (i : Nat) (x : Flow) : (s.setFlow i x).rdHi = s.rdHi := rfl
@[simp] theorem State.setFlow_rdI2c (s : State) (i : Nat) (x : Flow) : (s.setFlow i x).rdI2c = s.rdI2c := rfl
@[simp] theorem State.setFlow_evt (s : State) (i : Nat) (x : Flow) : (s.setFlow i x).evt = s.evt := rfl
@[simp] theorem State.setFlow_pers (s : State) (i : Nat) (x : Flow) : (s.setFlow i x).pers = s.pers := rfl
@[simp] theorem State.setFlow_hif (s : State) (i : Nat) (x : Flow) : (s.setFlow i x).hif = s.hif := rfl
@[simp] theorem State.setFlow_index (s : State) (i : Nat) (x : Flow) : (s.setFlow i x).index = s.index := rfl
@[simp] theorem State.setFlow_objs (s : State) (i : Nat) (x : Flow) : (s.setFlow i x).objs = s.objs := rfl
@[simp] theorem State.setFlow_lanes (s : State) (i : Nat) (x : Flow) : (s.setFlow i x).lanes = s.lanes := rfl
@[simp] theorem State.setFlow_grps (s : State) (i : Nat) (x : Flow) : (s.setFlow i x).grps = s.grps := rfl
@[simp] theorem State.setFlow_fab (s : State) (i : Nat) (x : Flow) : (s.setFlow i x).fab = s.fab := rfl
@[simp] theorem State.setFlow_bpm (s : State) (i : Nat) (x : Flow) : (s.setFlow i x).bpm = s.bpm := rfl
@[simp] theorem State.setFlow_fdb (s : State) (i : Nat) (x : Flow) : (s.setFlow i x).fdb = s.fdb := rfl
@[simp] theorem State.setFlow_tcore (s : State) (i : Nat) (x : Flow) : (s.setFlow i x).tcore = s.tcore := rfl
@[simp] theorem State.setFlow_tchans (s : State) (i : Nat) (x : Flow) : (s.setFlow i x).tchans = s.tchans := rfl
@[simp] theorem State.setFlow_lnk (s : State) (i : Nat) (x : Flow) : (s.setFlow i x).lnk = s.lnk := rfl
@[simp] theorem State.setFlow_ref (s : State) (i : Nat) (x : Flow) : (s.setFlow i x).ref = s.ref := rfl
@[simp] theorem State.setFlow_free (s : State) (i : Nat) (x : Flow) : (s.setFlow i x).free = s.free := rfl
@[simp] theorem State.setFlow_pll (s : State) (i : Nat) (x : Flow) : (s.setFlow i x).pll = s.pll := rfl
@[simp] theorem State.setFlow_gnss (s : State) (i : Nat) (x : Flow) : (s.setFlow i x).gnss = s.gnss := rfl
@[simp] theorem State.setFlow_tic (s : State) (i : Nat) (x : Flow) : (s.setFlow i x).tic = s.tic := rfl
@[simp] theorem State.setFlow_cal (s : State) (i : Nat) (x : Flow) : (s.setFlow i x).cal = s.cal := rfl
@[simp] theorem State.setFlow_eng (s : State) (i : Nat) (x : Flow) : (s.setFlow i x).eng = s.eng := rfl
@[simp] theorem State.setFlow_pair (s : State) (i : Nat) (x : Flow) : (s.setFlow i x).pair = s.pair := rfl
@[simp] theorem State.setFlow_pwr (s : State) (i : Nat) (x : Flow) : (s.setFlow i x).pwr = s.pwr := rfl
@[simp] theorem State.setFlow_boot (s : State) (i : Nat) (x : Flow) : (s.setFlow i x).boot = s.boot := rfl
@[simp] theorem State.setFlow_flash (s : State) (i : Nat) (x : Flow) : (s.setFlow i x).flash = s.flash := rfl
@[simp] theorem State.setFlow_pending (s : State) (i : Nat) (x : Flow) : (s.setFlow i x).pending = s.pending := rfl
@[simp] theorem State.flow_setFlow (s : State) (i : Nat) (x : Flow) : (s.setFlow i x).flow i = x := by
  simp [State.flow, State.setFlow]
theorem State.flow_setFlow_ne (s : State) (i : Nat) (m : Nat) (x : Flow) (h : m ≠ i) :
    (s.setFlow i x).flow m = s.flow m := by simp [State.flow, State.setFlow, Tab.get_set_ne _ _ _ _ _ h]

/-! ## `setTicCh` -/

@[simp] theorem State.setTicCh_variant (s : State) (c : Nat) (x : TicCh) : (s.setTicCh c x).variant = s.variant := rfl
@[simp] theorem State.setTicCh_fused (s : State) (c : Nat) (x : TicCh) : (s.setTicCh c x).fused = s.fused := rfl
@[simp] theorem State.setTicCh_clk (s : State) (c : Nat) (x : TicCh) : (s.setTicCh c x).clk = s.clk := rfl
@[simp] theorem State.setTicCh_ready (s : State) (c : Nat) (x : TicCh) : (s.setTicCh c x).ready = s.ready := rfl
@[simp] theorem State.setTicCh_keys (s : State) (c : Nat) (x : TicCh) : (s.setTicCh c x).keys = s.keys := rfl
@[simp] theorem State.setTicCh_regs (s : State) (c : Nat) (x : TicCh) : (s.setTicCh c x).regs = s.regs := rfl
@[simp] theorem State.setTicCh_rc (s : State) (c : Nat) (x : TicCh) : (s.setTicCh c x).rc = s.rc := rfl
@[simp] theorem State.setTicCh_mbx (s : State) (c : Nat) (x : TicCh) : (s.setTicCh c x).mbx = s.mbx := rfl
@[simp] theorem State.setTicCh_rd (s : State) (c : Nat) (x : TicCh) : (s.setTicCh c x).rd = s.rd := rfl
@[simp] theorem State.setTicCh_rdHi (s : State) (c : Nat) (x : TicCh) : (s.setTicCh c x).rdHi = s.rdHi := rfl
@[simp] theorem State.setTicCh_rdI2c (s : State) (c : Nat) (x : TicCh) : (s.setTicCh c x).rdI2c = s.rdI2c := rfl
@[simp] theorem State.setTicCh_evt (s : State) (c : Nat) (x : TicCh) : (s.setTicCh c x).evt = s.evt := rfl
@[simp] theorem State.setTicCh_pers (s : State) (c : Nat) (x : TicCh) : (s.setTicCh c x).pers = s.pers := rfl
@[simp] theorem State.setTicCh_hif (s : State) (c : Nat) (x : TicCh) : (s.setTicCh c x).hif = s.hif := rfl
@[simp] theorem State.setTicCh_index (s : State) (c : Nat) (x : TicCh) : (s.setTicCh c x).index = s.index := rfl
@[simp] theorem State.setTicCh_objs (s : State) (c : Nat) (x : TicCh) : (s.setTicCh c x).objs = s.objs := rfl
@[simp] theorem State.setTicCh_lanes (s : State) (c : Nat) (x : TicCh) : (s.setTicCh c x).lanes = s.lanes := rfl
@[simp] theorem State.setTicCh_grps (s : State) (c : Nat) (x : TicCh) : (s.setTicCh c x).grps = s.grps := rfl
@[simp] theorem State.setTicCh_sw (s : State) (c : Nat) (x : TicCh) : (s.setTicCh c x).sw = s.sw := rfl
@[simp] theorem State.setTicCh_fab (s : State) (c : Nat) (x : TicCh) : (s.setTicCh c x).fab = s.fab := rfl
@[simp] theorem State.setTicCh_bpm (s : State) (c : Nat) (x : TicCh) : (s.setTicCh c x).bpm = s.bpm := rfl
@[simp] theorem State.setTicCh_fdb (s : State) (c : Nat) (x : TicCh) : (s.setTicCh c x).fdb = s.fdb := rfl
@[simp] theorem State.setTicCh_tcore (s : State) (c : Nat) (x : TicCh) : (s.setTicCh c x).tcore = s.tcore := rfl
@[simp] theorem State.setTicCh_tchans (s : State) (c : Nat) (x : TicCh) : (s.setTicCh c x).tchans = s.tchans := rfl
@[simp] theorem State.setTicCh_lnk (s : State) (c : Nat) (x : TicCh) : (s.setTicCh c x).lnk = s.lnk := rfl
@[simp] theorem State.setTicCh_ref (s : State) (c : Nat) (x : TicCh) : (s.setTicCh c x).ref = s.ref := rfl
@[simp] theorem State.setTicCh_free (s : State) (c : Nat) (x : TicCh) : (s.setTicCh c x).free = s.free := rfl
@[simp] theorem State.setTicCh_pll (s : State) (c : Nat) (x : TicCh) : (s.setTicCh c x).pll = s.pll := rfl
@[simp] theorem State.setTicCh_gnss (s : State) (c : Nat) (x : TicCh) : (s.setTicCh c x).gnss = s.gnss := rfl
@[simp] theorem State.setTicCh_cal (s : State) (c : Nat) (x : TicCh) : (s.setTicCh c x).cal = s.cal := rfl
@[simp] theorem State.setTicCh_eng (s : State) (c : Nat) (x : TicCh) : (s.setTicCh c x).eng = s.eng := rfl
@[simp] theorem State.setTicCh_pair (s : State) (c : Nat) (x : TicCh) : (s.setTicCh c x).pair = s.pair := rfl
@[simp] theorem State.setTicCh_pwr (s : State) (c : Nat) (x : TicCh) : (s.setTicCh c x).pwr = s.pwr := rfl
@[simp] theorem State.setTicCh_boot (s : State) (c : Nat) (x : TicCh) : (s.setTicCh c x).boot = s.boot := rfl
@[simp] theorem State.setTicCh_flash (s : State) (c : Nat) (x : TicCh) : (s.setTicCh c x).flash = s.flash := rfl
@[simp] theorem State.setTicCh_pending (s : State) (c : Nat) (x : TicCh) : (s.setTicCh c x).pending = s.pending := rfl
@[simp] theorem State.ticCh_setTicCh (s : State) (c : Nat) (x : TicCh) : (s.setTicCh c x).ticCh c = x := by
  simp [State.ticCh, State.setTicCh]
theorem State.ticCh_setTicCh_ne (s : State) (c : Nat) (m : Nat) (x : TicCh) (h : m ≠ c) :
    (s.setTicCh c x).ticCh m = s.ticCh m := by simp [State.ticCh, State.setTicCh, Tab.get_set_ne _ _ _ _ _ h]

/-! ## `setEng` -/

@[simp] theorem State.setEng_variant (s : State) (e : Nat) (x : Eng) : (s.setEng e x).variant = s.variant := rfl
@[simp] theorem State.setEng_fused (s : State) (e : Nat) (x : Eng) : (s.setEng e x).fused = s.fused := rfl
@[simp] theorem State.setEng_clk (s : State) (e : Nat) (x : Eng) : (s.setEng e x).clk = s.clk := rfl
@[simp] theorem State.setEng_ready (s : State) (e : Nat) (x : Eng) : (s.setEng e x).ready = s.ready := rfl
@[simp] theorem State.setEng_keys (s : State) (e : Nat) (x : Eng) : (s.setEng e x).keys = s.keys := rfl
@[simp] theorem State.setEng_regs (s : State) (e : Nat) (x : Eng) : (s.setEng e x).regs = s.regs := rfl
@[simp] theorem State.setEng_rc (s : State) (e : Nat) (x : Eng) : (s.setEng e x).rc = s.rc := rfl
@[simp] theorem State.setEng_mbx (s : State) (e : Nat) (x : Eng) : (s.setEng e x).mbx = s.mbx := rfl
@[simp] theorem State.setEng_rd (s : State) (e : Nat) (x : Eng) : (s.setEng e x).rd = s.rd := rfl
@[simp] theorem State.setEng_rdHi (s : State) (e : Nat) (x : Eng) : (s.setEng e x).rdHi = s.rdHi := rfl
@[simp] theorem State.setEng_rdI2c (s : State) (e : Nat) (x : Eng) : (s.setEng e x).rdI2c = s.rdI2c := rfl
@[simp] theorem State.setEng_evt (s : State) (e : Nat) (x : Eng) : (s.setEng e x).evt = s.evt := rfl
@[simp] theorem State.setEng_pers (s : State) (e : Nat) (x : Eng) : (s.setEng e x).pers = s.pers := rfl
@[simp] theorem State.setEng_hif (s : State) (e : Nat) (x : Eng) : (s.setEng e x).hif = s.hif := rfl
@[simp] theorem State.setEng_index (s : State) (e : Nat) (x : Eng) : (s.setEng e x).index = s.index := rfl
@[simp] theorem State.setEng_objs (s : State) (e : Nat) (x : Eng) : (s.setEng e x).objs = s.objs := rfl
@[simp] theorem State.setEng_lanes (s : State) (e : Nat) (x : Eng) : (s.setEng e x).lanes = s.lanes := rfl
@[simp] theorem State.setEng_grps (s : State) (e : Nat) (x : Eng) : (s.setEng e x).grps = s.grps := rfl
@[simp] theorem State.setEng_sw (s : State) (e : Nat) (x : Eng) : (s.setEng e x).sw = s.sw := rfl
@[simp] theorem State.setEng_fab (s : State) (e : Nat) (x : Eng) : (s.setEng e x).fab = s.fab := rfl
@[simp] theorem State.setEng_bpm (s : State) (e : Nat) (x : Eng) : (s.setEng e x).bpm = s.bpm := rfl
@[simp] theorem State.setEng_fdb (s : State) (e : Nat) (x : Eng) : (s.setEng e x).fdb = s.fdb := rfl
@[simp] theorem State.setEng_tcore (s : State) (e : Nat) (x : Eng) : (s.setEng e x).tcore = s.tcore := rfl
@[simp] theorem State.setEng_tchans (s : State) (e : Nat) (x : Eng) : (s.setEng e x).tchans = s.tchans := rfl
@[simp] theorem State.setEng_lnk (s : State) (e : Nat) (x : Eng) : (s.setEng e x).lnk = s.lnk := rfl
@[simp] theorem State.setEng_ref (s : State) (e : Nat) (x : Eng) : (s.setEng e x).ref = s.ref := rfl
@[simp] theorem State.setEng_free (s : State) (e : Nat) (x : Eng) : (s.setEng e x).free = s.free := rfl
@[simp] theorem State.setEng_pll (s : State) (e : Nat) (x : Eng) : (s.setEng e x).pll = s.pll := rfl
@[simp] theorem State.setEng_gnss (s : State) (e : Nat) (x : Eng) : (s.setEng e x).gnss = s.gnss := rfl
@[simp] theorem State.setEng_tic (s : State) (e : Nat) (x : Eng) : (s.setEng e x).tic = s.tic := rfl
@[simp] theorem State.setEng_cal (s : State) (e : Nat) (x : Eng) : (s.setEng e x).cal = s.cal := rfl
@[simp] theorem State.setEng_pair (s : State) (e : Nat) (x : Eng) : (s.setEng e x).pair = s.pair := rfl
@[simp] theorem State.setEng_pwr (s : State) (e : Nat) (x : Eng) : (s.setEng e x).pwr = s.pwr := rfl
@[simp] theorem State.setEng_boot (s : State) (e : Nat) (x : Eng) : (s.setEng e x).boot = s.boot := rfl
@[simp] theorem State.setEng_flash (s : State) (e : Nat) (x : Eng) : (s.setEng e x).flash = s.flash := rfl
@[simp] theorem State.setEng_pending (s : State) (e : Nat) (x : Eng) : (s.setEng e x).pending = s.pending := rfl
@[simp] theorem State.engOf_setEng (s : State) (e : Nat) (x : Eng) : (s.setEng e x).engOf e = x := by
  simp [State.engOf, State.setEng]
theorem State.engOf_setEng_ne (s : State) (e : Nat) (m : Nat) (x : Eng) (h : m ≠ e) :
    (s.setEng e x).engOf m = s.engOf m := by simp [State.engOf, State.setEng, Tab.get_set_ne _ _ _ _ _ h]

/-! ## `setTask` -/

@[simp] theorem State.setTask_variant (s : State) (k : Nat) (x : EngTask) : (s.setTask k x).variant = s.variant := rfl
@[simp] theorem State.setTask_fused (s : State) (k : Nat) (x : EngTask) : (s.setTask k x).fused = s.fused := rfl
@[simp] theorem State.setTask_clk (s : State) (k : Nat) (x : EngTask) : (s.setTask k x).clk = s.clk := rfl
@[simp] theorem State.setTask_ready (s : State) (k : Nat) (x : EngTask) : (s.setTask k x).ready = s.ready := rfl
@[simp] theorem State.setTask_keys (s : State) (k : Nat) (x : EngTask) : (s.setTask k x).keys = s.keys := rfl
@[simp] theorem State.setTask_regs (s : State) (k : Nat) (x : EngTask) : (s.setTask k x).regs = s.regs := rfl
@[simp] theorem State.setTask_rc (s : State) (k : Nat) (x : EngTask) : (s.setTask k x).rc = s.rc := rfl
@[simp] theorem State.setTask_mbx (s : State) (k : Nat) (x : EngTask) : (s.setTask k x).mbx = s.mbx := rfl
@[simp] theorem State.setTask_rd (s : State) (k : Nat) (x : EngTask) : (s.setTask k x).rd = s.rd := rfl
@[simp] theorem State.setTask_rdHi (s : State) (k : Nat) (x : EngTask) : (s.setTask k x).rdHi = s.rdHi := rfl
@[simp] theorem State.setTask_rdI2c (s : State) (k : Nat) (x : EngTask) : (s.setTask k x).rdI2c = s.rdI2c := rfl
@[simp] theorem State.setTask_evt (s : State) (k : Nat) (x : EngTask) : (s.setTask k x).evt = s.evt := rfl
@[simp] theorem State.setTask_pers (s : State) (k : Nat) (x : EngTask) : (s.setTask k x).pers = s.pers := rfl
@[simp] theorem State.setTask_hif (s : State) (k : Nat) (x : EngTask) : (s.setTask k x).hif = s.hif := rfl
@[simp] theorem State.setTask_index (s : State) (k : Nat) (x : EngTask) : (s.setTask k x).index = s.index := rfl
@[simp] theorem State.setTask_objs (s : State) (k : Nat) (x : EngTask) : (s.setTask k x).objs = s.objs := rfl
@[simp] theorem State.setTask_lanes (s : State) (k : Nat) (x : EngTask) : (s.setTask k x).lanes = s.lanes := rfl
@[simp] theorem State.setTask_grps (s : State) (k : Nat) (x : EngTask) : (s.setTask k x).grps = s.grps := rfl
@[simp] theorem State.setTask_sw (s : State) (k : Nat) (x : EngTask) : (s.setTask k x).sw = s.sw := rfl
@[simp] theorem State.setTask_fab (s : State) (k : Nat) (x : EngTask) : (s.setTask k x).fab = s.fab := rfl
@[simp] theorem State.setTask_bpm (s : State) (k : Nat) (x : EngTask) : (s.setTask k x).bpm = s.bpm := rfl
@[simp] theorem State.setTask_fdb (s : State) (k : Nat) (x : EngTask) : (s.setTask k x).fdb = s.fdb := rfl
@[simp] theorem State.setTask_tcore (s : State) (k : Nat) (x : EngTask) : (s.setTask k x).tcore = s.tcore := rfl
@[simp] theorem State.setTask_tchans (s : State) (k : Nat) (x : EngTask) : (s.setTask k x).tchans = s.tchans := rfl
@[simp] theorem State.setTask_lnk (s : State) (k : Nat) (x : EngTask) : (s.setTask k x).lnk = s.lnk := rfl
@[simp] theorem State.setTask_ref (s : State) (k : Nat) (x : EngTask) : (s.setTask k x).ref = s.ref := rfl
@[simp] theorem State.setTask_free (s : State) (k : Nat) (x : EngTask) : (s.setTask k x).free = s.free := rfl
@[simp] theorem State.setTask_pll (s : State) (k : Nat) (x : EngTask) : (s.setTask k x).pll = s.pll := rfl
@[simp] theorem State.setTask_gnss (s : State) (k : Nat) (x : EngTask) : (s.setTask k x).gnss = s.gnss := rfl
@[simp] theorem State.setTask_tic (s : State) (k : Nat) (x : EngTask) : (s.setTask k x).tic = s.tic := rfl
@[simp] theorem State.setTask_cal (s : State) (k : Nat) (x : EngTask) : (s.setTask k x).cal = s.cal := rfl
@[simp] theorem State.setTask_pair (s : State) (k : Nat) (x : EngTask) : (s.setTask k x).pair = s.pair := rfl
@[simp] theorem State.setTask_pwr (s : State) (k : Nat) (x : EngTask) : (s.setTask k x).pwr = s.pwr := rfl
@[simp] theorem State.setTask_boot (s : State) (k : Nat) (x : EngTask) : (s.setTask k x).boot = s.boot := rfl
@[simp] theorem State.setTask_flash (s : State) (k : Nat) (x : EngTask) : (s.setTask k x).flash = s.flash := rfl
@[simp] theorem State.setTask_pending (s : State) (k : Nat) (x : EngTask) : (s.setTask k x).pending = s.pending := rfl
@[simp] theorem State.task_setTask (s : State) (k : Nat) (x : EngTask) : (s.setTask k x).task k = x := by
  simp [State.task, State.setTask]
theorem State.task_setTask_ne (s : State) (k : Nat) (m : Nat) (x : EngTask) (h : m ≠ k) :
    (s.setTask k x).task m = s.task m := by simp [State.task, State.setTask, Tab.get_set_ne _ _ _ _ _ h]

/-! ## `setLnk` -/

@[simp] theorem State.setLnk_variant (s : State) (p : Nat) (x : LnkPort) : (s.setLnk p x).variant = s.variant := rfl
@[simp] theorem State.setLnk_fused (s : State) (p : Nat) (x : LnkPort) : (s.setLnk p x).fused = s.fused := rfl
@[simp] theorem State.setLnk_clk (s : State) (p : Nat) (x : LnkPort) : (s.setLnk p x).clk = s.clk := rfl
@[simp] theorem State.setLnk_ready (s : State) (p : Nat) (x : LnkPort) : (s.setLnk p x).ready = s.ready := rfl
@[simp] theorem State.setLnk_keys (s : State) (p : Nat) (x : LnkPort) : (s.setLnk p x).keys = s.keys := rfl
@[simp] theorem State.setLnk_regs (s : State) (p : Nat) (x : LnkPort) : (s.setLnk p x).regs = s.regs := rfl
@[simp] theorem State.setLnk_rc (s : State) (p : Nat) (x : LnkPort) : (s.setLnk p x).rc = s.rc := rfl
@[simp] theorem State.setLnk_mbx (s : State) (p : Nat) (x : LnkPort) : (s.setLnk p x).mbx = s.mbx := rfl
@[simp] theorem State.setLnk_rd (s : State) (p : Nat) (x : LnkPort) : (s.setLnk p x).rd = s.rd := rfl
@[simp] theorem State.setLnk_rdHi (s : State) (p : Nat) (x : LnkPort) : (s.setLnk p x).rdHi = s.rdHi := rfl
@[simp] theorem State.setLnk_rdI2c (s : State) (p : Nat) (x : LnkPort) : (s.setLnk p x).rdI2c = s.rdI2c := rfl
@[simp] theorem State.setLnk_evt (s : State) (p : Nat) (x : LnkPort) : (s.setLnk p x).evt = s.evt := rfl
@[simp] theorem State.setLnk_pers (s : State) (p : Nat) (x : LnkPort) : (s.setLnk p x).pers = s.pers := rfl
@[simp] theorem State.setLnk_hif (s : State) (p : Nat) (x : LnkPort) : (s.setLnk p x).hif = s.hif := rfl
@[simp] theorem State.setLnk_index (s : State) (p : Nat) (x : LnkPort) : (s.setLnk p x).index = s.index := rfl
@[simp] theorem State.setLnk_objs (s : State) (p : Nat) (x : LnkPort) : (s.setLnk p x).objs = s.objs := rfl
@[simp] theorem State.setLnk_lanes (s : State) (p : Nat) (x : LnkPort) : (s.setLnk p x).lanes = s.lanes := rfl
@[simp] theorem State.setLnk_grps (s : State) (p : Nat) (x : LnkPort) : (s.setLnk p x).grps = s.grps := rfl
@[simp] theorem State.setLnk_sw (s : State) (p : Nat) (x : LnkPort) : (s.setLnk p x).sw = s.sw := rfl
@[simp] theorem State.setLnk_fab (s : State) (p : Nat) (x : LnkPort) : (s.setLnk p x).fab = s.fab := rfl
@[simp] theorem State.setLnk_bpm (s : State) (p : Nat) (x : LnkPort) : (s.setLnk p x).bpm = s.bpm := rfl
@[simp] theorem State.setLnk_fdb (s : State) (p : Nat) (x : LnkPort) : (s.setLnk p x).fdb = s.fdb := rfl
@[simp] theorem State.setLnk_tcore (s : State) (p : Nat) (x : LnkPort) : (s.setLnk p x).tcore = s.tcore := rfl
@[simp] theorem State.setLnk_tchans (s : State) (p : Nat) (x : LnkPort) : (s.setLnk p x).tchans = s.tchans := rfl
@[simp] theorem State.setLnk_ref (s : State) (p : Nat) (x : LnkPort) : (s.setLnk p x).ref = s.ref := rfl
@[simp] theorem State.setLnk_free (s : State) (p : Nat) (x : LnkPort) : (s.setLnk p x).free = s.free := rfl
@[simp] theorem State.setLnk_pll (s : State) (p : Nat) (x : LnkPort) : (s.setLnk p x).pll = s.pll := rfl
@[simp] theorem State.setLnk_gnss (s : State) (p : Nat) (x : LnkPort) : (s.setLnk p x).gnss = s.gnss := rfl
@[simp] theorem State.setLnk_tic (s : State) (p : Nat) (x : LnkPort) : (s.setLnk p x).tic = s.tic := rfl
@[simp] theorem State.setLnk_cal (s : State) (p : Nat) (x : LnkPort) : (s.setLnk p x).cal = s.cal := rfl
@[simp] theorem State.setLnk_eng (s : State) (p : Nat) (x : LnkPort) : (s.setLnk p x).eng = s.eng := rfl
@[simp] theorem State.setLnk_pair (s : State) (p : Nat) (x : LnkPort) : (s.setLnk p x).pair = s.pair := rfl
@[simp] theorem State.setLnk_pwr (s : State) (p : Nat) (x : LnkPort) : (s.setLnk p x).pwr = s.pwr := rfl
@[simp] theorem State.setLnk_boot (s : State) (p : Nat) (x : LnkPort) : (s.setLnk p x).boot = s.boot := rfl
@[simp] theorem State.setLnk_flash (s : State) (p : Nat) (x : LnkPort) : (s.setLnk p x).flash = s.flash := rfl
@[simp] theorem State.setLnk_pending (s : State) (p : Nat) (x : LnkPort) : (s.setLnk p x).pending = s.pending := rfl
@[simp] theorem State.lnkPort_setLnk (s : State) (p : Nat) (x : LnkPort) : (s.setLnk p x).lnkPort p = x := by
  simp [State.lnkPort, State.setLnk]
theorem State.lnkPort_setLnk_ne (s : State) (p : Nat) (m : Nat) (x : LnkPort) (h : m ≠ p) :
    (s.setLnk p x).lnkPort m = s.lnkPort m := by simp [State.lnkPort, State.setLnk, Tab.get_set_ne _ _ _ _ _ h]

/-! ## `setPool` -/

@[simp] theorem State.setPool_variant (s : State) (p : Nat) (x : Pool) : (s.setPool p x).variant = s.variant := rfl
@[simp] theorem State.setPool_fused (s : State) (p : Nat) (x : Pool) : (s.setPool p x).fused = s.fused := rfl
@[simp] theorem State.setPool_clk (s : State) (p : Nat) (x : Pool) : (s.setPool p x).clk = s.clk := rfl
@[simp] theorem State.setPool_ready (s : State) (p : Nat) (x : Pool) : (s.setPool p x).ready = s.ready := rfl
@[simp] theorem State.setPool_keys (s : State) (p : Nat) (x : Pool) : (s.setPool p x).keys = s.keys := rfl
@[simp] theorem State.setPool_regs (s : State) (p : Nat) (x : Pool) : (s.setPool p x).regs = s.regs := rfl
@[simp] theorem State.setPool_rc (s : State) (p : Nat) (x : Pool) : (s.setPool p x).rc = s.rc := rfl
@[simp] theorem State.setPool_mbx (s : State) (p : Nat) (x : Pool) : (s.setPool p x).mbx = s.mbx := rfl
@[simp] theorem State.setPool_rd (s : State) (p : Nat) (x : Pool) : (s.setPool p x).rd = s.rd := rfl
@[simp] theorem State.setPool_rdHi (s : State) (p : Nat) (x : Pool) : (s.setPool p x).rdHi = s.rdHi := rfl
@[simp] theorem State.setPool_rdI2c (s : State) (p : Nat) (x : Pool) : (s.setPool p x).rdI2c = s.rdI2c := rfl
@[simp] theorem State.setPool_evt (s : State) (p : Nat) (x : Pool) : (s.setPool p x).evt = s.evt := rfl
@[simp] theorem State.setPool_pers (s : State) (p : Nat) (x : Pool) : (s.setPool p x).pers = s.pers := rfl
@[simp] theorem State.setPool_hif (s : State) (p : Nat) (x : Pool) : (s.setPool p x).hif = s.hif := rfl
@[simp] theorem State.setPool_index (s : State) (p : Nat) (x : Pool) : (s.setPool p x).index = s.index := rfl
@[simp] theorem State.setPool_objs (s : State) (p : Nat) (x : Pool) : (s.setPool p x).objs = s.objs := rfl
@[simp] theorem State.setPool_lanes (s : State) (p : Nat) (x : Pool) : (s.setPool p x).lanes = s.lanes := rfl
@[simp] theorem State.setPool_grps (s : State) (p : Nat) (x : Pool) : (s.setPool p x).grps = s.grps := rfl
@[simp] theorem State.setPool_sw (s : State) (p : Nat) (x : Pool) : (s.setPool p x).sw = s.sw := rfl
@[simp] theorem State.setPool_fab (s : State) (p : Nat) (x : Pool) : (s.setPool p x).fab = s.fab := rfl
@[simp] theorem State.setPool_fdb (s : State) (p : Nat) (x : Pool) : (s.setPool p x).fdb = s.fdb := rfl
@[simp] theorem State.setPool_tcore (s : State) (p : Nat) (x : Pool) : (s.setPool p x).tcore = s.tcore := rfl
@[simp] theorem State.setPool_tchans (s : State) (p : Nat) (x : Pool) : (s.setPool p x).tchans = s.tchans := rfl
@[simp] theorem State.setPool_lnk (s : State) (p : Nat) (x : Pool) : (s.setPool p x).lnk = s.lnk := rfl
@[simp] theorem State.setPool_ref (s : State) (p : Nat) (x : Pool) : (s.setPool p x).ref = s.ref := rfl
@[simp] theorem State.setPool_free (s : State) (p : Nat) (x : Pool) : (s.setPool p x).free = s.free := rfl
@[simp] theorem State.setPool_pll (s : State) (p : Nat) (x : Pool) : (s.setPool p x).pll = s.pll := rfl
@[simp] theorem State.setPool_gnss (s : State) (p : Nat) (x : Pool) : (s.setPool p x).gnss = s.gnss := rfl
@[simp] theorem State.setPool_tic (s : State) (p : Nat) (x : Pool) : (s.setPool p x).tic = s.tic := rfl
@[simp] theorem State.setPool_cal (s : State) (p : Nat) (x : Pool) : (s.setPool p x).cal = s.cal := rfl
@[simp] theorem State.setPool_eng (s : State) (p : Nat) (x : Pool) : (s.setPool p x).eng = s.eng := rfl
@[simp] theorem State.setPool_pair (s : State) (p : Nat) (x : Pool) : (s.setPool p x).pair = s.pair := rfl
@[simp] theorem State.setPool_pwr (s : State) (p : Nat) (x : Pool) : (s.setPool p x).pwr = s.pwr := rfl
@[simp] theorem State.setPool_boot (s : State) (p : Nat) (x : Pool) : (s.setPool p x).boot = s.boot := rfl
@[simp] theorem State.setPool_flash (s : State) (p : Nat) (x : Pool) : (s.setPool p x).flash = s.flash := rfl
@[simp] theorem State.setPool_pending (s : State) (p : Nat) (x : Pool) : (s.setPool p x).pending = s.pending := rfl

/-! ## `setReq` -/

@[simp] theorem State.setReq_variant (s : State) (r : Nat) (x : ReqSt) : (s.setReq r x).variant = s.variant := rfl
@[simp] theorem State.setReq_fused (s : State) (r : Nat) (x : ReqSt) : (s.setReq r x).fused = s.fused := rfl
@[simp] theorem State.setReq_clk (s : State) (r : Nat) (x : ReqSt) : (s.setReq r x).clk = s.clk := rfl
@[simp] theorem State.setReq_ready (s : State) (r : Nat) (x : ReqSt) : (s.setReq r x).ready = s.ready := rfl
@[simp] theorem State.setReq_keys (s : State) (r : Nat) (x : ReqSt) : (s.setReq r x).keys = s.keys := rfl
@[simp] theorem State.setReq_regs (s : State) (r : Nat) (x : ReqSt) : (s.setReq r x).regs = s.regs := rfl
@[simp] theorem State.setReq_rc (s : State) (r : Nat) (x : ReqSt) : (s.setReq r x).rc = s.rc := rfl
@[simp] theorem State.setReq_mbx (s : State) (r : Nat) (x : ReqSt) : (s.setReq r x).mbx = s.mbx := rfl
@[simp] theorem State.setReq_rd (s : State) (r : Nat) (x : ReqSt) : (s.setReq r x).rd = s.rd := rfl
@[simp] theorem State.setReq_rdHi (s : State) (r : Nat) (x : ReqSt) : (s.setReq r x).rdHi = s.rdHi := rfl
@[simp] theorem State.setReq_rdI2c (s : State) (r : Nat) (x : ReqSt) : (s.setReq r x).rdI2c = s.rdI2c := rfl
@[simp] theorem State.setReq_evt (s : State) (r : Nat) (x : ReqSt) : (s.setReq r x).evt = s.evt := rfl
@[simp] theorem State.setReq_pers (s : State) (r : Nat) (x : ReqSt) : (s.setReq r x).pers = s.pers := rfl
@[simp] theorem State.setReq_hif (s : State) (r : Nat) (x : ReqSt) : (s.setReq r x).hif = s.hif := rfl
@[simp] theorem State.setReq_index (s : State) (r : Nat) (x : ReqSt) : (s.setReq r x).index = s.index := rfl
@[simp] theorem State.setReq_objs (s : State) (r : Nat) (x : ReqSt) : (s.setReq r x).objs = s.objs := rfl
@[simp] theorem State.setReq_lanes (s : State) (r : Nat) (x : ReqSt) : (s.setReq r x).lanes = s.lanes := rfl
@[simp] theorem State.setReq_grps (s : State) (r : Nat) (x : ReqSt) : (s.setReq r x).grps = s.grps := rfl
@[simp] theorem State.setReq_sw (s : State) (r : Nat) (x : ReqSt) : (s.setReq r x).sw = s.sw := rfl
@[simp] theorem State.setReq_fab (s : State) (r : Nat) (x : ReqSt) : (s.setReq r x).fab = s.fab := rfl
@[simp] theorem State.setReq_fdb (s : State) (r : Nat) (x : ReqSt) : (s.setReq r x).fdb = s.fdb := rfl
@[simp] theorem State.setReq_tcore (s : State) (r : Nat) (x : ReqSt) : (s.setReq r x).tcore = s.tcore := rfl
@[simp] theorem State.setReq_tchans (s : State) (r : Nat) (x : ReqSt) : (s.setReq r x).tchans = s.tchans := rfl
@[simp] theorem State.setReq_lnk (s : State) (r : Nat) (x : ReqSt) : (s.setReq r x).lnk = s.lnk := rfl
@[simp] theorem State.setReq_ref (s : State) (r : Nat) (x : ReqSt) : (s.setReq r x).ref = s.ref := rfl
@[simp] theorem State.setReq_free (s : State) (r : Nat) (x : ReqSt) : (s.setReq r x).free = s.free := rfl
@[simp] theorem State.setReq_pll (s : State) (r : Nat) (x : ReqSt) : (s.setReq r x).pll = s.pll := rfl
@[simp] theorem State.setReq_gnss (s : State) (r : Nat) (x : ReqSt) : (s.setReq r x).gnss = s.gnss := rfl
@[simp] theorem State.setReq_tic (s : State) (r : Nat) (x : ReqSt) : (s.setReq r x).tic = s.tic := rfl
@[simp] theorem State.setReq_cal (s : State) (r : Nat) (x : ReqSt) : (s.setReq r x).cal = s.cal := rfl
@[simp] theorem State.setReq_eng (s : State) (r : Nat) (x : ReqSt) : (s.setReq r x).eng = s.eng := rfl
@[simp] theorem State.setReq_pair (s : State) (r : Nat) (x : ReqSt) : (s.setReq r x).pair = s.pair := rfl
@[simp] theorem State.setReq_pwr (s : State) (r : Nat) (x : ReqSt) : (s.setReq r x).pwr = s.pwr := rfl
@[simp] theorem State.setReq_boot (s : State) (r : Nat) (x : ReqSt) : (s.setReq r x).boot = s.boot := rfl
@[simp] theorem State.setReq_flash (s : State) (r : Nat) (x : ReqSt) : (s.setReq r x).flash = s.flash := rfl
@[simp] theorem State.setReq_pending (s : State) (r : Nat) (x : ReqSt) : (s.setReq r x).pending = s.pending := rfl
@[simp] theorem State.req_setReq (s : State) (r : Nat) (x : ReqSt) : (s.setReq r x).req r = x := by
  simp [State.req, State.setReq]
theorem State.req_setReq_ne (s : State) (r : Nat) (m : Nat) (x : ReqSt) (h : m ≠ r) :
    (s.setReq r x).req m = s.req m := by simp [State.req, State.setReq, Tab.get_set_ne _ _ _ _ _ h]

/-! ## `raise` -/

@[simp] theorem State.raise_variant (s : State) (e : Evt) (a b c : Nat) : (s.raise e a b c).variant = s.variant := rfl
@[simp] theorem State.raise_fused (s : State) (e : Evt) (a b c : Nat) : (s.raise e a b c).fused = s.fused := rfl
@[simp] theorem State.raise_clk (s : State) (e : Evt) (a b c : Nat) : (s.raise e a b c).clk = s.clk := rfl
@[simp] theorem State.raise_ready (s : State) (e : Evt) (a b c : Nat) : (s.raise e a b c).ready = s.ready := rfl
@[simp] theorem State.raise_keys (s : State) (e : Evt) (a b c : Nat) : (s.raise e a b c).keys = s.keys := rfl
@[simp] theorem State.raise_regs (s : State) (e : Evt) (a b c : Nat) : (s.raise e a b c).regs = s.regs := rfl
@[simp] theorem State.raise_mbx (s : State) (e : Evt) (a b c : Nat) : (s.raise e a b c).mbx = s.mbx := rfl
@[simp] theorem State.raise_rd (s : State) (e : Evt) (a b c : Nat) : (s.raise e a b c).rd = s.rd := rfl
@[simp] theorem State.raise_rdHi (s : State) (e : Evt) (a b c : Nat) : (s.raise e a b c).rdHi = s.rdHi := rfl
@[simp] theorem State.raise_rdI2c (s : State) (e : Evt) (a b c : Nat) : (s.raise e a b c).rdI2c = s.rdI2c := rfl
@[simp] theorem State.raise_pers (s : State) (e : Evt) (a b c : Nat) : (s.raise e a b c).pers = s.pers := rfl
@[simp] theorem State.raise_index (s : State) (e : Evt) (a b c : Nat) : (s.raise e a b c).index = s.index := rfl
@[simp] theorem State.raise_objs (s : State) (e : Evt) (a b c : Nat) : (s.raise e a b c).objs = s.objs := rfl
@[simp] theorem State.raise_lanes (s : State) (e : Evt) (a b c : Nat) : (s.raise e a b c).lanes = s.lanes := rfl
@[simp] theorem State.raise_grps (s : State) (e : Evt) (a b c : Nat) : (s.raise e a b c).grps = s.grps := rfl
@[simp] theorem State.raise_sw (s : State) (e : Evt) (a b c : Nat) : (s.raise e a b c).sw = s.sw := rfl
@[simp] theorem State.raise_fab (s : State) (e : Evt) (a b c : Nat) : (s.raise e a b c).fab = s.fab := rfl
@[simp] theorem State.raise_bpm (s : State) (e : Evt) (a b c : Nat) : (s.raise e a b c).bpm = s.bpm := rfl
@[simp] theorem State.raise_fdb (s : State) (e : Evt) (a b c : Nat) : (s.raise e a b c).fdb = s.fdb := rfl
@[simp] theorem State.raise_tcore (s : State) (e : Evt) (a b c : Nat) : (s.raise e a b c).tcore = s.tcore := rfl
@[simp] theorem State.raise_tchans (s : State) (e : Evt) (a b c : Nat) : (s.raise e a b c).tchans = s.tchans := rfl
@[simp] theorem State.raise_lnk (s : State) (e : Evt) (a b c : Nat) : (s.raise e a b c).lnk = s.lnk := rfl
@[simp] theorem State.raise_ref (s : State) (e : Evt) (a b c : Nat) : (s.raise e a b c).ref = s.ref := rfl
@[simp] theorem State.raise_free (s : State) (e : Evt) (a b c : Nat) : (s.raise e a b c).free = s.free := rfl
@[simp] theorem State.raise_pll (s : State) (e : Evt) (a b c : Nat) : (s.raise e a b c).pll = s.pll := rfl
@[simp] theorem State.raise_gnss (s : State) (e : Evt) (a b c : Nat) : (s.raise e a b c).gnss = s.gnss := rfl
@[simp] theorem State.raise_tic (s : State) (e : Evt) (a b c : Nat) : (s.raise e a b c).tic = s.tic := rfl
@[simp] theorem State.raise_cal (s : State) (e : Evt) (a b c : Nat) : (s.raise e a b c).cal = s.cal := rfl
@[simp] theorem State.raise_eng (s : State) (e : Evt) (a b c : Nat) : (s.raise e a b c).eng = s.eng := rfl
@[simp] theorem State.raise_pair (s : State) (e : Evt) (a b c : Nat) : (s.raise e a b c).pair = s.pair := rfl
@[simp] theorem State.raise_pwr (s : State) (e : Evt) (a b c : Nat) : (s.raise e a b c).pwr = s.pwr := rfl
@[simp] theorem State.raise_boot (s : State) (e : Evt) (a b c : Nat) : (s.raise e a b c).boot = s.boot := rfl
@[simp] theorem State.raise_flash (s : State) (e : Evt) (a b c : Nat) : (s.raise e a b c).flash = s.flash := rfl
@[simp] theorem State.raise_pending (s : State) (e : Evt) (a b c : Nat) : (s.raise e a b c).pending = s.pending := rfl

/-! ## `raiseIf` -/

@[simp] theorem State.raiseIf_variant (s : State) (q : Bool) (e : Evt) (a b c : Nat) : (s.raiseIf q e a b c).variant = s.variant := rfl
@[simp] theorem State.raiseIf_fused (s : State) (q : Bool) (e : Evt) (a b c : Nat) : (s.raiseIf q e a b c).fused = s.fused := rfl
@[simp] theorem State.raiseIf_clk (s : State) (q : Bool) (e : Evt) (a b c : Nat) : (s.raiseIf q e a b c).clk = s.clk := rfl
@[simp] theorem State.raiseIf_ready (s : State) (q : Bool) (e : Evt) (a b c : Nat) : (s.raiseIf q e a b c).ready = s.ready := rfl
@[simp] theorem State.raiseIf_keys (s : State) (q : Bool) (e : Evt) (a b c : Nat) : (s.raiseIf q e a b c).keys = s.keys := rfl
@[simp] theorem State.raiseIf_regs (s : State) (q : Bool) (e : Evt) (a b c : Nat) : (s.raiseIf q e a b c).regs = s.regs := rfl
@[simp] theorem State.raiseIf_mbx (s : State) (q : Bool) (e : Evt) (a b c : Nat) : (s.raiseIf q e a b c).mbx = s.mbx := rfl
@[simp] theorem State.raiseIf_rd (s : State) (q : Bool) (e : Evt) (a b c : Nat) : (s.raiseIf q e a b c).rd = s.rd := rfl
@[simp] theorem State.raiseIf_rdHi (s : State) (q : Bool) (e : Evt) (a b c : Nat) : (s.raiseIf q e a b c).rdHi = s.rdHi := rfl
@[simp] theorem State.raiseIf_rdI2c (s : State) (q : Bool) (e : Evt) (a b c : Nat) : (s.raiseIf q e a b c).rdI2c = s.rdI2c := rfl
@[simp] theorem State.raiseIf_pers (s : State) (q : Bool) (e : Evt) (a b c : Nat) : (s.raiseIf q e a b c).pers = s.pers := rfl
@[simp] theorem State.raiseIf_index (s : State) (q : Bool) (e : Evt) (a b c : Nat) : (s.raiseIf q e a b c).index = s.index := rfl
@[simp] theorem State.raiseIf_objs (s : State) (q : Bool) (e : Evt) (a b c : Nat) : (s.raiseIf q e a b c).objs = s.objs := rfl
@[simp] theorem State.raiseIf_lanes (s : State) (q : Bool) (e : Evt) (a b c : Nat) : (s.raiseIf q e a b c).lanes = s.lanes := rfl
@[simp] theorem State.raiseIf_grps (s : State) (q : Bool) (e : Evt) (a b c : Nat) : (s.raiseIf q e a b c).grps = s.grps := rfl
@[simp] theorem State.raiseIf_sw (s : State) (q : Bool) (e : Evt) (a b c : Nat) : (s.raiseIf q e a b c).sw = s.sw := rfl
@[simp] theorem State.raiseIf_fab (s : State) (q : Bool) (e : Evt) (a b c : Nat) : (s.raiseIf q e a b c).fab = s.fab := rfl
@[simp] theorem State.raiseIf_bpm (s : State) (q : Bool) (e : Evt) (a b c : Nat) : (s.raiseIf q e a b c).bpm = s.bpm := rfl
@[simp] theorem State.raiseIf_fdb (s : State) (q : Bool) (e : Evt) (a b c : Nat) : (s.raiseIf q e a b c).fdb = s.fdb := rfl
@[simp] theorem State.raiseIf_tcore (s : State) (q : Bool) (e : Evt) (a b c : Nat) : (s.raiseIf q e a b c).tcore = s.tcore := rfl
@[simp] theorem State.raiseIf_tchans (s : State) (q : Bool) (e : Evt) (a b c : Nat) : (s.raiseIf q e a b c).tchans = s.tchans := rfl
@[simp] theorem State.raiseIf_lnk (s : State) (q : Bool) (e : Evt) (a b c : Nat) : (s.raiseIf q e a b c).lnk = s.lnk := rfl
@[simp] theorem State.raiseIf_ref (s : State) (q : Bool) (e : Evt) (a b c : Nat) : (s.raiseIf q e a b c).ref = s.ref := rfl
@[simp] theorem State.raiseIf_free (s : State) (q : Bool) (e : Evt) (a b c : Nat) : (s.raiseIf q e a b c).free = s.free := rfl
@[simp] theorem State.raiseIf_pll (s : State) (q : Bool) (e : Evt) (a b c : Nat) : (s.raiseIf q e a b c).pll = s.pll := rfl
@[simp] theorem State.raiseIf_gnss (s : State) (q : Bool) (e : Evt) (a b c : Nat) : (s.raiseIf q e a b c).gnss = s.gnss := rfl
@[simp] theorem State.raiseIf_tic (s : State) (q : Bool) (e : Evt) (a b c : Nat) : (s.raiseIf q e a b c).tic = s.tic := rfl
@[simp] theorem State.raiseIf_cal (s : State) (q : Bool) (e : Evt) (a b c : Nat) : (s.raiseIf q e a b c).cal = s.cal := rfl
@[simp] theorem State.raiseIf_eng (s : State) (q : Bool) (e : Evt) (a b c : Nat) : (s.raiseIf q e a b c).eng = s.eng := rfl
@[simp] theorem State.raiseIf_pair (s : State) (q : Bool) (e : Evt) (a b c : Nat) : (s.raiseIf q e a b c).pair = s.pair := rfl
@[simp] theorem State.raiseIf_pwr (s : State) (q : Bool) (e : Evt) (a b c : Nat) : (s.raiseIf q e a b c).pwr = s.pwr := rfl
@[simp] theorem State.raiseIf_boot (s : State) (q : Bool) (e : Evt) (a b c : Nat) : (s.raiseIf q e a b c).boot = s.boot := rfl
@[simp] theorem State.raiseIf_flash (s : State) (q : Bool) (e : Evt) (a b c : Nat) : (s.raiseIf q e a b c).flash = s.flash := rfl
@[simp] theorem State.raiseIf_pending (s : State) (q : Bool) (e : Evt) (a b c : Nat) : (s.raiseIf q e a b c).pending = s.pending := rfl

/-! ## `bump` -/

@[simp] theorem State.bump_variant (s : State) (f : FieldRef) (i n : Nat) : (s.bump f i n).variant = s.variant := rfl
@[simp] theorem State.bump_fused (s : State) (f : FieldRef) (i n : Nat) : (s.bump f i n).fused = s.fused := rfl
@[simp] theorem State.bump_clk (s : State) (f : FieldRef) (i n : Nat) : (s.bump f i n).clk = s.clk := rfl
@[simp] theorem State.bump_ready (s : State) (f : FieldRef) (i n : Nat) : (s.bump f i n).ready = s.ready := rfl
@[simp] theorem State.bump_keys (s : State) (f : FieldRef) (i n : Nat) : (s.bump f i n).keys = s.keys := rfl
@[simp] theorem State.bump_regs (s : State) (f : FieldRef) (i n : Nat) : (s.bump f i n).regs = s.regs := rfl
@[simp] theorem State.bump_mbx (s : State) (f : FieldRef) (i n : Nat) : (s.bump f i n).mbx = s.mbx := rfl
@[simp] theorem State.bump_rd (s : State) (f : FieldRef) (i n : Nat) : (s.bump f i n).rd = s.rd := rfl
@[simp] theorem State.bump_rdHi (s : State) (f : FieldRef) (i n : Nat) : (s.bump f i n).rdHi = s.rdHi := rfl
@[simp] theorem State.bump_rdI2c (s : State) (f : FieldRef) (i n : Nat) : (s.bump f i n).rdI2c = s.rdI2c := rfl
@[simp] theorem State.bump_evt (s : State) (f : FieldRef) (i n : Nat) : (s.bump f i n).evt = s.evt := rfl
@[simp] theorem State.bump_pers (s : State) (f : FieldRef) (i n : Nat) : (s.bump f i n).pers = s.pers := rfl
@[simp] theorem State.bump_hif (s : State) (f : FieldRef) (i n : Nat) : (s.bump f i n).hif = s.hif := rfl
@[simp] theorem State.bump_index (s : State) (f : FieldRef) (i n : Nat) : (s.bump f i n).index = s.index := rfl
@[simp] theorem State.bump_objs (s : State) (f : FieldRef) (i n : Nat) : (s.bump f i n).objs = s.objs := rfl
@[simp] theorem State.bump_lanes (s : State) (f : FieldRef) (i n : Nat) : (s.bump f i n).lanes = s.lanes := rfl
@[simp] theorem State.bump_grps (s : State) (f : FieldRef) (i n : Nat) : (s.bump f i n).grps = s.grps := rfl
@[simp] theorem State.bump_sw (s : State) (f : FieldRef) (i n : Nat) : (s.bump f i n).sw = s.sw := rfl
@[simp] theorem State.bump_fab (s : State) (f : FieldRef) (i n : Nat) : (s.bump f i n).fab = s.fab := rfl
@[simp] theorem State.bump_bpm (s : State) (f : FieldRef) (i n : Nat) : (s.bump f i n).bpm = s.bpm := rfl
@[simp] theorem State.bump_fdb (s : State) (f : FieldRef) (i n : Nat) : (s.bump f i n).fdb = s.fdb := rfl
@[simp] theorem State.bump_tcore (s : State) (f : FieldRef) (i n : Nat) : (s.bump f i n).tcore = s.tcore := rfl
@[simp] theorem State.bump_tchans (s : State) (f : FieldRef) (i n : Nat) : (s.bump f i n).tchans = s.tchans := rfl
@[simp] theorem State.bump_lnk (s : State) (f : FieldRef) (i n : Nat) : (s.bump f i n).lnk = s.lnk := rfl
@[simp] theorem State.bump_ref (s : State) (f : FieldRef) (i n : Nat) : (s.bump f i n).ref = s.ref := rfl
@[simp] theorem State.bump_free (s : State) (f : FieldRef) (i n : Nat) : (s.bump f i n).free = s.free := rfl
@[simp] theorem State.bump_pll (s : State) (f : FieldRef) (i n : Nat) : (s.bump f i n).pll = s.pll := rfl
@[simp] theorem State.bump_gnss (s : State) (f : FieldRef) (i n : Nat) : (s.bump f i n).gnss = s.gnss := rfl
@[simp] theorem State.bump_tic (s : State) (f : FieldRef) (i n : Nat) : (s.bump f i n).tic = s.tic := rfl
@[simp] theorem State.bump_cal (s : State) (f : FieldRef) (i n : Nat) : (s.bump f i n).cal = s.cal := rfl
@[simp] theorem State.bump_eng (s : State) (f : FieldRef) (i n : Nat) : (s.bump f i n).eng = s.eng := rfl
@[simp] theorem State.bump_pair (s : State) (f : FieldRef) (i n : Nat) : (s.bump f i n).pair = s.pair := rfl
@[simp] theorem State.bump_pwr (s : State) (f : FieldRef) (i n : Nat) : (s.bump f i n).pwr = s.pwr := rfl
@[simp] theorem State.bump_boot (s : State) (f : FieldRef) (i n : Nat) : (s.bump f i n).boot = s.boot := rfl
@[simp] theorem State.bump_flash (s : State) (f : FieldRef) (i n : Nat) : (s.bump f i n).flash = s.flash := rfl
@[simp] theorem State.bump_pending (s : State) (f : FieldRef) (i n : Nat) : (s.bump f i n).pending = s.pending := rfl

/-! ## `rcSet` -/

@[simp] theorem State.rcSet_variant (s : State) (f : FieldRef) (v i : Nat) : (s.rcSet f v i).variant = s.variant := rfl
@[simp] theorem State.rcSet_fused (s : State) (f : FieldRef) (v i : Nat) : (s.rcSet f v i).fused = s.fused := rfl
@[simp] theorem State.rcSet_clk (s : State) (f : FieldRef) (v i : Nat) : (s.rcSet f v i).clk = s.clk := rfl
@[simp] theorem State.rcSet_ready (s : State) (f : FieldRef) (v i : Nat) : (s.rcSet f v i).ready = s.ready := rfl
@[simp] theorem State.rcSet_keys (s : State) (f : FieldRef) (v i : Nat) : (s.rcSet f v i).keys = s.keys := rfl
@[simp] theorem State.rcSet_regs (s : State) (f : FieldRef) (v i : Nat) : (s.rcSet f v i).regs = s.regs := rfl
@[simp] theorem State.rcSet_mbx (s : State) (f : FieldRef) (v i : Nat) : (s.rcSet f v i).mbx = s.mbx := rfl
@[simp] theorem State.rcSet_rd (s : State) (f : FieldRef) (v i : Nat) : (s.rcSet f v i).rd = s.rd := rfl
@[simp] theorem State.rcSet_rdHi (s : State) (f : FieldRef) (v i : Nat) : (s.rcSet f v i).rdHi = s.rdHi := rfl
@[simp] theorem State.rcSet_rdI2c (s : State) (f : FieldRef) (v i : Nat) : (s.rcSet f v i).rdI2c = s.rdI2c := rfl
@[simp] theorem State.rcSet_evt (s : State) (f : FieldRef) (v i : Nat) : (s.rcSet f v i).evt = s.evt := rfl
@[simp] theorem State.rcSet_pers (s : State) (f : FieldRef) (v i : Nat) : (s.rcSet f v i).pers = s.pers := rfl
@[simp] theorem State.rcSet_hif (s : State) (f : FieldRef) (v i : Nat) : (s.rcSet f v i).hif = s.hif := rfl
@[simp] theorem State.rcSet_index (s : State) (f : FieldRef) (v i : Nat) : (s.rcSet f v i).index = s.index := rfl
@[simp] theorem State.rcSet_objs (s : State) (f : FieldRef) (v i : Nat) : (s.rcSet f v i).objs = s.objs := rfl
@[simp] theorem State.rcSet_lanes (s : State) (f : FieldRef) (v i : Nat) : (s.rcSet f v i).lanes = s.lanes := rfl
@[simp] theorem State.rcSet_grps (s : State) (f : FieldRef) (v i : Nat) : (s.rcSet f v i).grps = s.grps := rfl
@[simp] theorem State.rcSet_sw (s : State) (f : FieldRef) (v i : Nat) : (s.rcSet f v i).sw = s.sw := rfl
@[simp] theorem State.rcSet_fab (s : State) (f : FieldRef) (v i : Nat) : (s.rcSet f v i).fab = s.fab := rfl
@[simp] theorem State.rcSet_bpm (s : State) (f : FieldRef) (v i : Nat) : (s.rcSet f v i).bpm = s.bpm := rfl
@[simp] theorem State.rcSet_fdb (s : State) (f : FieldRef) (v i : Nat) : (s.rcSet f v i).fdb = s.fdb := rfl
@[simp] theorem State.rcSet_tcore (s : State) (f : FieldRef) (v i : Nat) : (s.rcSet f v i).tcore = s.tcore := rfl
@[simp] theorem State.rcSet_tchans (s : State) (f : FieldRef) (v i : Nat) : (s.rcSet f v i).tchans = s.tchans := rfl
@[simp] theorem State.rcSet_lnk (s : State) (f : FieldRef) (v i : Nat) : (s.rcSet f v i).lnk = s.lnk := rfl
@[simp] theorem State.rcSet_ref (s : State) (f : FieldRef) (v i : Nat) : (s.rcSet f v i).ref = s.ref := rfl
@[simp] theorem State.rcSet_free (s : State) (f : FieldRef) (v i : Nat) : (s.rcSet f v i).free = s.free := rfl
@[simp] theorem State.rcSet_pll (s : State) (f : FieldRef) (v i : Nat) : (s.rcSet f v i).pll = s.pll := rfl
@[simp] theorem State.rcSet_gnss (s : State) (f : FieldRef) (v i : Nat) : (s.rcSet f v i).gnss = s.gnss := rfl
@[simp] theorem State.rcSet_tic (s : State) (f : FieldRef) (v i : Nat) : (s.rcSet f v i).tic = s.tic := rfl
@[simp] theorem State.rcSet_cal (s : State) (f : FieldRef) (v i : Nat) : (s.rcSet f v i).cal = s.cal := rfl
@[simp] theorem State.rcSet_eng (s : State) (f : FieldRef) (v i : Nat) : (s.rcSet f v i).eng = s.eng := rfl
@[simp] theorem State.rcSet_pair (s : State) (f : FieldRef) (v i : Nat) : (s.rcSet f v i).pair = s.pair := rfl
@[simp] theorem State.rcSet_pwr (s : State) (f : FieldRef) (v i : Nat) : (s.rcSet f v i).pwr = s.pwr := rfl
@[simp] theorem State.rcSet_boot (s : State) (f : FieldRef) (v i : Nat) : (s.rcSet f v i).boot = s.boot := rfl
@[simp] theorem State.rcSet_flash (s : State) (f : FieldRef) (v i : Nat) : (s.rcSet f v i).flash = s.flash := rfl
@[simp] theorem State.rcSet_pending (s : State) (f : FieldRef) (v i : Nat) : (s.rcSet f v i).pending = s.pending := rfl

/-! ## `rcClear` -/

@[simp] theorem State.rcClear_variant (s : State) (k : RegKey) (m : Word) : (s.rcClear k m).variant = s.variant := rfl
@[simp] theorem State.rcClear_fused (s : State) (k : RegKey) (m : Word) : (s.rcClear k m).fused = s.fused := rfl
@[simp] theorem State.rcClear_clk (s : State) (k : RegKey) (m : Word) : (s.rcClear k m).clk = s.clk := rfl
@[simp] theorem State.rcClear_ready (s : State) (k : RegKey) (m : Word) : (s.rcClear k m).ready = s.ready := rfl
@[simp] theorem State.rcClear_keys (s : State) (k : RegKey) (m : Word) : (s.rcClear k m).keys = s.keys := rfl
@[simp] theorem State.rcClear_regs (s : State) (k : RegKey) (m : Word) : (s.rcClear k m).regs = s.regs := rfl
@[simp] theorem State.rcClear_mbx (s : State) (k : RegKey) (m : Word) : (s.rcClear k m).mbx = s.mbx := rfl
@[simp] theorem State.rcClear_rd (s : State) (k : RegKey) (m : Word) : (s.rcClear k m).rd = s.rd := rfl
@[simp] theorem State.rcClear_rdHi (s : State) (k : RegKey) (m : Word) : (s.rcClear k m).rdHi = s.rdHi := rfl
@[simp] theorem State.rcClear_rdI2c (s : State) (k : RegKey) (m : Word) : (s.rcClear k m).rdI2c = s.rdI2c := rfl
@[simp] theorem State.rcClear_evt (s : State) (k : RegKey) (m : Word) : (s.rcClear k m).evt = s.evt := rfl
@[simp] theorem State.rcClear_pers (s : State) (k : RegKey) (m : Word) : (s.rcClear k m).pers = s.pers := rfl
@[simp] theorem State.rcClear_hif (s : State) (k : RegKey) (m : Word) : (s.rcClear k m).hif = s.hif := rfl
@[simp] theorem State.rcClear_index (s : State) (k : RegKey) (m : Word) : (s.rcClear k m).index = s.index := rfl
@[simp] theorem State.rcClear_objs (s : State) (k : RegKey) (m : Word) : (s.rcClear k m).objs = s.objs := rfl
@[simp] theorem State.rcClear_lanes (s : State) (k : RegKey) (m : Word) : (s.rcClear k m).lanes = s.lanes := rfl
@[simp] theorem State.rcClear_grps (s : State) (k : RegKey) (m : Word) : (s.rcClear k m).grps = s.grps := rfl
@[simp] theorem State.rcClear_sw (s : State) (k : RegKey) (m : Word) : (s.rcClear k m).sw = s.sw := rfl
@[simp] theorem State.rcClear_fab (s : State) (k : RegKey) (m : Word) : (s.rcClear k m).fab = s.fab := rfl
@[simp] theorem State.rcClear_bpm (s : State) (k : RegKey) (m : Word) : (s.rcClear k m).bpm = s.bpm := rfl
@[simp] theorem State.rcClear_fdb (s : State) (k : RegKey) (m : Word) : (s.rcClear k m).fdb = s.fdb := rfl
@[simp] theorem State.rcClear_tcore (s : State) (k : RegKey) (m : Word) : (s.rcClear k m).tcore = s.tcore := rfl
@[simp] theorem State.rcClear_tchans (s : State) (k : RegKey) (m : Word) : (s.rcClear k m).tchans = s.tchans := rfl
@[simp] theorem State.rcClear_lnk (s : State) (k : RegKey) (m : Word) : (s.rcClear k m).lnk = s.lnk := rfl
@[simp] theorem State.rcClear_ref (s : State) (k : RegKey) (m : Word) : (s.rcClear k m).ref = s.ref := rfl
@[simp] theorem State.rcClear_free (s : State) (k : RegKey) (m : Word) : (s.rcClear k m).free = s.free := rfl
@[simp] theorem State.rcClear_pll (s : State) (k : RegKey) (m : Word) : (s.rcClear k m).pll = s.pll := rfl
@[simp] theorem State.rcClear_gnss (s : State) (k : RegKey) (m : Word) : (s.rcClear k m).gnss = s.gnss := rfl
@[simp] theorem State.rcClear_tic (s : State) (k : RegKey) (m : Word) : (s.rcClear k m).tic = s.tic := rfl
@[simp] theorem State.rcClear_cal (s : State) (k : RegKey) (m : Word) : (s.rcClear k m).cal = s.cal := rfl
@[simp] theorem State.rcClear_eng (s : State) (k : RegKey) (m : Word) : (s.rcClear k m).eng = s.eng := rfl
@[simp] theorem State.rcClear_pair (s : State) (k : RegKey) (m : Word) : (s.rcClear k m).pair = s.pair := rfl
@[simp] theorem State.rcClear_pwr (s : State) (k : RegKey) (m : Word) : (s.rcClear k m).pwr = s.pwr := rfl
@[simp] theorem State.rcClear_boot (s : State) (k : RegKey) (m : Word) : (s.rcClear k m).boot = s.boot := rfl
@[simp] theorem State.rcClear_flash (s : State) (k : RegKey) (m : Word) : (s.rcClear k m).flash = s.flash := rfl
@[simp] theorem State.rcClear_pending (s : State) (k : RegKey) (m : Word) : (s.rcClear k m).pending = s.pending := rfl

/-! ## `setReady` -/

@[simp] theorem State.setReady_variant (s : State) (b : Nat) (v : Bool) : (s.setReady b v).variant = s.variant := rfl
@[simp] theorem State.setReady_fused (s : State) (b : Nat) (v : Bool) : (s.setReady b v).fused = s.fused := rfl
@[simp] theorem State.setReady_clk (s : State) (b : Nat) (v : Bool) : (s.setReady b v).clk = s.clk := rfl
@[simp] theorem State.setReady_keys (s : State) (b : Nat) (v : Bool) : (s.setReady b v).keys = s.keys := rfl
@[simp] theorem State.setReady_regs (s : State) (b : Nat) (v : Bool) : (s.setReady b v).regs = s.regs := rfl
@[simp] theorem State.setReady_mbx (s : State) (b : Nat) (v : Bool) : (s.setReady b v).mbx = s.mbx := rfl
@[simp] theorem State.setReady_rd (s : State) (b : Nat) (v : Bool) : (s.setReady b v).rd = s.rd := rfl
@[simp] theorem State.setReady_rdHi (s : State) (b : Nat) (v : Bool) : (s.setReady b v).rdHi = s.rdHi := rfl
@[simp] theorem State.setReady_rdI2c (s : State) (b : Nat) (v : Bool) : (s.setReady b v).rdI2c = s.rdI2c := rfl
@[simp] theorem State.setReady_pers (s : State) (b : Nat) (v : Bool) : (s.setReady b v).pers = s.pers := rfl
@[simp] theorem State.setReady_index (s : State) (b : Nat) (v : Bool) : (s.setReady b v).index = s.index := rfl
@[simp] theorem State.setReady_objs (s : State) (b : Nat) (v : Bool) : (s.setReady b v).objs = s.objs := rfl
@[simp] theorem State.setReady_lanes (s : State) (b : Nat) (v : Bool) : (s.setReady b v).lanes = s.lanes := rfl
@[simp] theorem State.setReady_grps (s : State) (b : Nat) (v : Bool) : (s.setReady b v).grps = s.grps := rfl
@[simp] theorem State.setReady_sw (s : State) (b : Nat) (v : Bool) : (s.setReady b v).sw = s.sw := rfl
@[simp] theorem State.setReady_fab (s : State) (b : Nat) (v : Bool) : (s.setReady b v).fab = s.fab := rfl
@[simp] theorem State.setReady_bpm (s : State) (b : Nat) (v : Bool) : (s.setReady b v).bpm = s.bpm := rfl
@[simp] theorem State.setReady_fdb (s : State) (b : Nat) (v : Bool) : (s.setReady b v).fdb = s.fdb := rfl
@[simp] theorem State.setReady_tcore (s : State) (b : Nat) (v : Bool) : (s.setReady b v).tcore = s.tcore := rfl
@[simp] theorem State.setReady_tchans (s : State) (b : Nat) (v : Bool) : (s.setReady b v).tchans = s.tchans := rfl
@[simp] theorem State.setReady_lnk (s : State) (b : Nat) (v : Bool) : (s.setReady b v).lnk = s.lnk := rfl
@[simp] theorem State.setReady_ref (s : State) (b : Nat) (v : Bool) : (s.setReady b v).ref = s.ref := rfl
@[simp] theorem State.setReady_free (s : State) (b : Nat) (v : Bool) : (s.setReady b v).free = s.free := rfl
@[simp] theorem State.setReady_pll (s : State) (b : Nat) (v : Bool) : (s.setReady b v).pll = s.pll := rfl
@[simp] theorem State.setReady_gnss (s : State) (b : Nat) (v : Bool) : (s.setReady b v).gnss = s.gnss := rfl
@[simp] theorem State.setReady_tic (s : State) (b : Nat) (v : Bool) : (s.setReady b v).tic = s.tic := rfl
@[simp] theorem State.setReady_cal (s : State) (b : Nat) (v : Bool) : (s.setReady b v).cal = s.cal := rfl
@[simp] theorem State.setReady_eng (s : State) (b : Nat) (v : Bool) : (s.setReady b v).eng = s.eng := rfl
@[simp] theorem State.setReady_pair (s : State) (b : Nat) (v : Bool) : (s.setReady b v).pair = s.pair := rfl
@[simp] theorem State.setReady_pwr (s : State) (b : Nat) (v : Bool) : (s.setReady b v).pwr = s.pwr := rfl
@[simp] theorem State.setReady_boot (s : State) (b : Nat) (v : Bool) : (s.setReady b v).boot = s.boot := rfl
@[simp] theorem State.setReady_flash (s : State) (b : Nat) (v : Bool) : (s.setReady b v).flash = s.flash := rfl
@[simp] theorem State.setReady_pending (s : State) (b : Nat) (v : Bool) : (s.setReady b v).pending = s.pending := rfl

end Sys2Proof.Machine
end

