-- ==== Sys2Proof/Laws/Effect.lean ====
section
/-! SUPPORT. From a command's effect to its outcome: when `effect` answers a next state, and what the frame of an effect says of it. -/

set_option Elab.async false

namespace Sys2Proof.Machine

theorem effect_next {ok : Bool} {s t : State} (hup : s.Up) (hok : ok = true) : effect ok s t = .next (t.carry s) := by
  simp [effect, hok, show s.pwr.inReset = false from hup]

theorem effectInReset_next {ok : Bool} {s t : State} (hok : ok = true) : effectInReset ok s t = .next (t.carry s) := by
  simp [effectInReset, hok]

theorem effect_held {ok : Bool} {s t : State} (hr : s.pwr.inReset = true) (hok : ok = true) : effect ok s t = .next s := by
  simp [effect, hok, hr]

theorem effect_ill {ok : Bool} {s t : State} (hok : ok = false) : effect ok s t = .refused .illFormed := by simp [effect, hok]

theorem effectInReset_ill {ok : Bool} {s t : State} (hok : ok = false) : effectInReset ok s t = .refused .illFormed := by
  simp [effectInReset, hok]

theorem State.rcWord_carry (s t : State) (k : RegKey) : (t.carry s).rcWord k = t.rcWord k := rfl

/-- The queue and the identity go back to what they were; every other part is as the effect left it. -/
theorem Touches.carry {ps : List Part} {s t : State} (h : Touches ps s t) : Touches ps s (t.carry s) := by
  intro p hp
  have hq := h p hp
  cases p <;> first | rfl | exact hq

/-- A command with effect `t` that finds the part up and its operands well formed answers a next state of which `P` holds. -/
theorem gives_effect {c : Instr} {ok : Bool} {s t : State} {P : State → Prop} (hc : exec c s = effect ok s t) (hup : s.Up)
    (hok : ok = true) (hp : P (t.carry s)) : Gives c s P := ⟨t.carry s, hc.trans (effect_next hup hok), hp⟩

theorem gives_effectInReset {c : Instr} {ok : Bool} {s t : State} {P : State → Prop} (hc : exec c s = effectInReset ok s t)
    (hok : ok = true) (hp : P (t.carry s)) : Gives c s P := ⟨t.carry s, hc.trans (effectInReset_next hok), hp⟩

/-- Every part but `p`: a frame over these says that `p` is the same. -/
def Part.others (p : Part) : List Part :=
  [.variant, .fused, .clk, .ready, .keys, .regs, .counters, .mbx, .rd, .rdI2c, .evt, .pers, .hif, .index, .objs, .lanes, .grps, .sw,
   .fab, .bpm, .fdb, .tcore, .tchans, .lnk, .ref, .free, .pll, .gnss, .tic, .cal, .eng, .spad, .pair, .pwr, .boot, .flash,
   .pending].filter (fun q => decide (q ≠ p))

/-- What `Gives` says of a stronger property it says of a weaker one. -/
theorem Gives.imp {c : Instr} {s : State} {P Q : State → Prop} (h : Gives c s P) (hi : ∀ t, P t → Q t) : Gives c s Q := by
  obtain ⟨t, e, hp⟩ := h
  exact ⟨t, e, hi t hp⟩

end Sys2Proof.Machine
end

