-- ==== Sys2Proof/Laws/Frames1.lean ====
section
/-! SUPPORT. What each operation of the machine may change, part 1 of 6: one lemma for one operation, in the order in which the
operations build on one another.  Every other part of the state is the same after it. -/

set_option Elab.async false

namespace Sys2Proof.Machine

theorem State.putBoth_touches {ps : List Part} s a1 a2 a3 a4 (hw : Part.within [.regs] ps = true) : Touches ps s (State.putBoth s a1 a2 a3 a4) := by
  unfold State.putBoth
  try extract_lets -merge -underBinder t0 t1
  try clear_value t0
  with_reducible refine Touches.set_regs ?_ ?_
  on_goal 2 => exact Part.within_mem rfl hw
  with_reducible exact Touches.refl _ _

theorem State.calApply_touches {ps : List Part} s a1 a2 a3 (hw : Part.within [.regs, .cal] ps = true) : Touches ps s (State.calApply s a1 a2 a3) := by
  unfold State.calApply
  try extract_lets -merge -underBinder t0 t1
  refine Touches.haveS (t := t1) ?_ (fun ht1 => ?_)
  ·
    unfold t1
    with_reducible refine Touches.set_cal ?_ ?_
    on_goal 2 => exact Part.within_mem rfl hw
    with_reducible exact Touches.refl _ _
  try clear_value t1
  with_reducible refine Touches.ite ?_ ?_
  ·
    with_reducible refine Touches.step ?_ (State.putBoth_touches _ _ _ _ _ ?_)
    on_goal 2 => exact Part.within_trans rfl hw
    with_reducible exact ht1
  ·
    with_reducible refine Touches.ite ?_ ?_
    ·
      with_reducible refine Touches.step ?_ (State.putBoth_touches _ _ _ _ _ ?_)
      on_goal 2 => exact Part.within_trans rfl hw
      with_reducible exact ht1
    ·
      with_reducible exact ht1

theorem State.calBoundary_touches {ps : List Part} s a1 a2 (hw : Part.within [.regs, .cal] ps = true) : Touches ps s (State.calBoundary s a1 a2) := by
  unfold State.calBoundary
  split
  ·
    with_reducible exact Touches.refl _ _
  ·
    try extract_lets -merge -underBinder t0
    with_reducible refine Touches.step ?_ (State.calApply_touches _ _ _ _ ?_)
    on_goal 2 => exact Part.within_trans rfl hw
    with_reducible refine Touches.set_cal ?_ ?_
    on_goal 2 => exact Part.within_mem rfl hw
    with_reducible exact Touches.refl _ _

theorem State.calOffer_touches {ps : List Part} s a1 a2 a3 (hw : Part.within [.regs, .cal] ps = true) : Touches ps s (State.calOffer s a1 a2 a3) := by
  unfold State.calOffer
  try extract_lets -merge -underBinder t0 t1
  refine Touches.haveS (t := t1) ?_ (fun ht1 => ?_)
  ·
    unfold t1
    with_reducible refine Touches.set_cal ?_ ?_
    on_goal 2 => exact Part.within_mem rfl hw
    with_reducible exact Touches.refl _ _
  try clear_value t1
  with_reducible refine Touches.ite ?_ ?_
  ·
    with_reducible refine Touches.step ?_ (State.calBoundary_touches _ _ _ ?_)
    on_goal 2 => exact Part.within_trans rfl hw
    with_reducible exact ht1
  ·
    with_reducible exact ht1

theorem State.calRecompute_touches {ps : List Part} s a1 a2 (hw : Part.within [.regs, .cal] ps = true) : Touches ps s (State.calRecompute s a1 a2) := by
  unfold State.calRecompute
  try extract_lets -merge -underBinder t0
  try clear_value t0
  with_reducible refine Touches.ite ?_ ?_
  ·
    with_reducible exact Touches.refl _ _
  ·
    split
    ·
      with_reducible exact Touches.refl _ _
    ·
      with_reducible refine Touches.ite ?_ ?_
      ·
        with_reducible exact Touches.refl _ _
      ·
        with_reducible refine Touches.step ?_ (State.calOffer_touches _ _ _ _ ?_)
        on_goal 2 => exact Part.within_trans rfl hw
        with_reducible exact Touches.refl _ _

theorem State.calRecomputeAll_touches {ps : List Part} s (hw : Part.within [.regs, .cal] ps = true) : Touches ps s (State.calRecomputeAll s) := by
  unfold State.calRecomputeAll
  with_reducible refine Touches.foldl (fun _ _ => ?_) _ ?_
  ·
    with_reducible refine Touches.step ?_ (State.calRecompute_touches _ _ _ ?_)
    on_goal 2 => exact Part.within_trans rfl hw
    with_reducible exact Touches.refl _ _
  ·
    with_reducible exact Touches.refl _ _

theorem State.setRing_touches {ps : List Part} s a1 a2 (hw : Part.within [.hif] ps = true) : Touches ps s (State.setRing s a1 a2) := by
  unfold State.setRing
  with_reducible refine Touches.set_hif ?_ ?_
  on_goal 2 => exact Part.within_mem rfl hw
  with_reducible exact Touches.refl _ _

theorem State.slotUse_touches {ps : List Part} s a1 a2 a3 (hw : Part.within [.hif, .rc .hifRingAborted] ps = true) : Touches ps s (State.slotUse s a1 a2 a3) := by
  unfold State.slotUse
  try extract_lets -merge -underBinder t0 t1
  refine Touches.haveS (t := t1) ?_ (fun ht1 => ?_)
  ·
    unfold t1
    with_reducible refine Touches.step ?_ (State.setRing_touches _ _ _ ?_)
    on_goal 2 => exact Part.within_trans rfl hw
    with_reducible exact Touches.refl _ _
  try clear_value t1
  with_reducible refine Touches.ite ?_ ?_
  ·
    with_reducible refine Touches.set_hif ?_ ?_
    on_goal 2 => exact Part.within_mem rfl hw
    with_reducible exact ht1
  ·
    with_reducible refine Touches.step ?_ (State.bump_touches _ _ _ _ ?_)
    on_goal 2 => exact Part.within_trans rfl hw
    with_reducible exact ht1

theorem State.cplPut_touches {ps : List Part} s a1 a2 a3 (hw : Part.within [.hif, .rc .hifRingAborted] ps = true) : Touches ps s (State.cplPut s a1 a2 a3) := by
  unfold State.cplPut
  try extract_lets -merge -underBinder t0 t1 t2
  try clear_value t0
  refine Touches.haveS (t := t2) ?_ (fun ht2 => ?_)
  ·
    unfold t2
    with_reducible refine Touches.step ?_ (State.setRing_touches _ _ _ ?_)
    on_goal 2 => exact Part.within_trans rfl hw
    with_reducible exact Touches.refl _ _
  try clear_value t2
  with_reducible refine Touches.step ?_ (State.slotUse_touches _ _ _ _ ?_)
  on_goal 2 => exact Part.within_trans rfl hw
  with_reducible exact ht2

theorem State.unlistedGo_touches {ps : List Part} (s : State) (n k : Nat) (hw : Part.within [.hif, .rc .hifRingAborted] ps = true) :
    Touches ps s (s.unlistedGo n k) := by
  induction k generalizing s with
  | zero => exact Touches.refl _ _
  | succ k ih =>
    unfold State.unlistedGo
    split
    · exact Touches.refl _ _
    · refine Touches.ite (Touches.refl _ _) (Touches.step ?_ (ih _))
      exact State.cplPut_touches _ _ _ _ (Part.within_trans rfl hw)

theorem State.cplToRing_touches {ps : List Part} (s : State) (n : Nat) (d : CmdDesc) (c : Cpl) (hw : Part.within [.hif, .rc .hifRingAborted] ps = true) :
    Touches ps s (s.cplToRing n d c) := by
  unfold State.cplToRing
  split
  · exact (State.cplPut_touches _ _ _ _ (Part.within_trans rfl hw)).step (State.unlistedGo_touches _ _ _ (Part.within_trans rfl hw))
  · exact Touches.refl _ _

theorem State.complete_touches {ps : List Part} (s : State) (d : CmdDesc) (o : Nat) (st : Status) (h : Word) (r e : List Byte)
    (hw : Part.within [.hif, .boot, .rc .hifRingAborted] ps = true) : Touches ps s (s.complete d o st h r e) := by
  unfold State.complete
  extract_lets c t
  have ht : Touches ps s t := by
    unfold t; split
    · exact State.cplToRing_touches _ _ _ _ (Part.within_trans rfl hw)
    · exact Touches.refl _ _
  have h1 := Touches.events (t := { t with evt := s.evt }) (s := s) (ps := .evt :: ps)
    ((ht.mono (by simp [Part.within, Part.covers]; intro x hx; exact Or.inr ⟨x, hx, Or.inl rfl⟩)).step (Touches.set_evt (Touches.refl _ _) rfl)) rfl
    (by have := Part.within_mem (p := .hif) rfl hw; simp only [List.any_cons, this, Bool.or_true])
  intro p hp
  by_cases he : p = .evt
  · subst he; rfl
  · have := h1 p (by simp only [List.any_cons, hp, Bool.or_false]; simp [Part.covers]; exact fun x => he x.symm)
    cases p <;> first | exact this | rfl | skip
    · rw [Part.within_mem (p := .hif) rfl hw] at hp; exact absurd hp (by decide)
    · rw [Part.within_mem (p := .boot) rfl hw] at hp; exact absurd hp (by decide)

theorem State.consumeKey_touches {ps : List Part} s a1 (hw : Part.within [.keys] ps = true) : Touches ps s (State.consumeKey s a1) := by
  unfold State.consumeKey
  try extract_lets -merge -underBinder t0
  with_reducible refine Touches.set_keys ?_ ?_
  on_goal 2 => exact Part.within_mem rfl hw
  with_reducible exact Touches.refl _ _

theorem State.checked_touches {ps : List Part} (s : State) (d : CmdDesc) (o : Nat) (c : Checks) (f : State → State)
    (hw : Part.within [.keys, .hif, .boot, .rc .hifRingAborted] ps = true) (h : ∀ t, Touches ps t (f t)) : Touches ps s (s.checked d o c f) := by
  unfold State.checked
  have hk : ∀ (c : Prop) [Decidable c], Touches ps s (if c then s.consumeKey d.src.path else s) := fun c _ =>
    Touches.ite (State.consumeKey_touches _ _ (Part.within_trans rfl hw)) (Touches.refl _ _)
  split
  · exact (hk _).step (State.complete_touches _ _ _ _ _ _ _ (Part.within_trans rfl hw))
  · exact (hk _).step (h _)

theorem State.vddWrite_touches {ps : List Part} s a1 (hw : Part.within [.sw] ps = true) : Touches ps s (State.vddWrite s a1) := by
  unfold State.vddWrite
  try extract_lets -merge -underBinder t0
  with_reducible refine Touches.set_sw ?_ ?_
  on_goal 2 => exact Part.within_mem rfl hw
  with_reducible exact Touches.refl _ _

theorem State.vddRaise_touches {ps : List Part} s (hw : Part.within [.sw] ps = true) : Touches ps s (State.vddRaise s) := by
  unfold State.vddRaise
  with_reducible refine Touches.ite ?_ ?_
  ·
    with_reducible refine Touches.step ?_ (State.vddWrite_touches _ _ ?_)
    on_goal 2 => exact Part.within_trans rfl hw
    with_reducible exact Touches.refl _ _
  ·
    with_reducible exact Touches.refl _ _

theorem State.omdSend_touches {ps : List Part} s a1 (hw : Part.within [.pair] ps = true) : Touches ps s (State.omdSend s a1) := by
  unfold State.omdSend
  try extract_lets -merge -underBinder t0
  with_reducible refine Touches.set_pair ?_ ?_
  on_goal 2 => exact Part.within_mem rfl hw
  with_reducible exact Touches.refl _ _

theorem State.pairDelta_touches {ps : List Part} s a1 (hw : Part.within [.evt, .hif, .pair, .rc .evtPinStat, .rc .evtSuppressed, .rc .hifEvtLost, .rc .pairMirOvf] ps = true) : Touches ps s (State.pairDelta s a1) := by
  unfold State.pairDelta
  try extract_lets -merge -underBinder t0 t1 t2
  refine Touches.haveS (t := t1) ?_ (fun ht1 => ?_)
  ·
    unfold t1
    with_reducible refine Touches.step ?_ (State.raiseIf_touches _ _ _ _ _ _ ?_)
    on_goal 2 => exact Part.within_trans rfl hw
    with_reducible refine Touches.step ?_ (State.bump_touches _ _ _ _ ?_)
    on_goal 2 => exact Part.within_trans rfl hw
    with_reducible exact Touches.refl _ _
  try clear_value t1
  with_reducible refine Touches.ite ?_ ?_
  ·
    with_reducible exact Touches.refl _ _
  ·
    with_reducible refine Touches.ite ?_ ?_
    ·
      with_reducible refine Touches.step ?_ (State.omdSend_touches _ _ ?_)
      on_goal 2 => exact Part.within_trans rfl hw
      with_reducible exact Touches.refl _ _
    ·
      with_reducible refine Touches.ite ?_ ?_
      ·
        with_reducible refine Touches.set_pair ?_ ?_
        on_goal 2 => exact Part.within_mem rfl hw
        with_reducible exact Touches.refl _ _
      ·
        with_reducible refine Touches.set_pair ?_ ?_
        on_goal 2 => exact Part.within_mem rfl hw
        with_reducible exact ht1

theorem State.setPort_touches {ps : List Part} s a1 a2 (hw : Part.within [.fab] ps = true) : Touches ps s (State.setPort s a1 a2) := by
  unfold State.setPort
  try extract_lets -merge -underBinder t0
  with_reducible refine Touches.set_fab ?_ ?_
  on_goal 2 => exact Part.within_mem rfl hw
  with_reducible exact Touches.refl _ _

theorem State.xoffUpdate_touches {ps : List Part} s (hw : Part.within [.fab] ps = true) : Touches ps s (State.xoffUpdate s) := by
  unfold State.xoffUpdate
  try extract_lets -merge -underBinder t0
  refine Touches.haveS (t := t0) ?_ (fun ht0 => ?_)
  ·
    unfold t0
    with_reducible refine Touches.foldl (fun _ _ => ?_) _ ?_
    ·
      try extract_lets -merge -underBinder t1
      with_reducible refine Touches.ite ?_ ?_
      ·
        with_reducible exact Touches.refl _ _
      ·
        with_reducible refine Touches.step ?_ (State.setPort_touches _ _ _ ?_)
        on_goal 2 => exact Part.within_trans rfl hw
        with_reducible exact Touches.refl _ _
    ·
      with_reducible exact Touches.refl _ _
  try clear_value t0
  with_reducible refine Touches.foldl (fun _ _ => ?_) _ ?_
  ·
    try extract_lets -merge -underBinder t2 t3
    try clear_value t2
    try clear_value t3
    with_reducible refine Touches.ite ?_ ?_
    ·
      with_reducible exact Touches.refl _ _
    ·
      with_reducible refine Touches.ite ?_ ?_
      ·
        with_reducible exact Touches.refl _ _
      ·
        with_reducible refine Touches.step ?_ (State.setPort_touches _ _ _ ?_)
        on_goal 2 => exact Part.within_trans rfl hw
        with_reducible exact Touches.refl _ _
  ·
    with_reducible exact ht0

theorem State.setReq_touches {ps : List Part} s a1 a2 (hw : Part.within [.bpm] ps = true) : Touches ps s (State.setReq s a1 a2) := by
  unfold State.setReq
  try extract_lets -merge -underBinder t0
  with_reducible refine Touches.set_bpm ?_ ?_
  on_goal 2 => exact Part.within_mem rfl hw
  with_reducible exact Touches.refl _ _

theorem State.causesClear_touches {ps : List Part} s (hw : Part.within [.bpm] ps = true) : Touches ps s (State.causesClear s) := by
  unfold State.causesClear
  with_reducible refine Touches.foldl (fun _ _ => ?_) _ ?_
  ·
    try extract_lets -merge -underBinder t0 t1 t2
    try clear_value t0
    try clear_value t1
    try clear_value t2
    with_reducible refine Touches.step ?_ (State.setReq_touches _ _ _ ?_)
    on_goal 2 => exact Part.within_trans rfl hw
    with_reducible exact Touches.refl _ _
  ·
    with_reducible exact Touches.refl _ _

theorem State.rsvChanged_touches {ps : List Part} s (hw : Part.within [.fab, .bpm] ps = true) : Touches ps s (State.rsvChanged s) := by
  unfold State.rsvChanged
  with_reducible refine Touches.step ?_ (State.xoffUpdate_touches _ ?_)
  on_goal 2 => exact Part.within_trans rfl hw
  with_reducible refine Touches.step ?_ (State.causesClear_touches _ ?_)
  on_goal 2 => exact Part.within_trans rfl hw
  with_reducible exact Touches.refl _ _

theorem State.setFlow_touches {ps : List Part} s a1 a2 (hw : Part.within [.sw] ps = true) : Touches ps s (State.setFlow s a1 a2) := by
  unfold State.setFlow
  try extract_lets -merge -underBinder t0
  with_reducible refine Touches.set_sw ?_ ?_
  on_goal 2 => exact Part.within_mem rfl hw
  with_reducible exact Touches.refl _ _

theorem State.setObj_touches {ps : List Part} s a1 a2 a3 (hw : Part.within [.objs] ps = true) : Touches ps s (State.setObj s a1 a2 a3) := by
  unfold State.setObj
  with_reducible refine Touches.set_objs ?_ ?_
  on_goal 2 => exact Part.within_mem rfl hw
  with_reducible exact Touches.refl _ _

theorem State.setPool_touches {ps : List Part} s a1 a2 (hw : Part.within [.bpm] ps = true) : Touches ps s (State.setPool s a1 a2) := by
  unfold State.setPool
  try extract_lets -merge -underBinder t0
  with_reducible refine Touches.set_bpm ?_ ?_
  on_goal 2 => exact Part.within_mem rfl hw
  with_reducible exact Touches.refl _ _

theorem State.addRsv_touches {ps : List Part} s a1 a2 (hw : Part.within [.bpm] ps = true) : Touches ps s (State.addRsv s a1 a2) := by
  unfold State.addRsv
  try extract_lets -merge -underBinder t0
  with_reducible refine Touches.ite ?_ ?_
  ·
    with_reducible refine Touches.step ?_ (State.setPool_touches _ _ _ ?_)
    on_goal 2 => exact Part.within_trans rfl hw
    with_reducible exact Touches.refl _ _
  ·
    with_reducible exact Touches.refl _ _

theorem State.flowChange_touches {ps : List Part} s a1 (hw : Part.within [.objs, .sw, .fab, .bpm] ps = true) : Touches ps s (State.flowChange s a1) := by
  unfold State.flowChange
  try extract_lets -merge -underBinder t0 t1 t2
  try clear_value t0
  try clear_value t1
  try clear_value t2
  with_reducible refine Touches.step ?_ (State.rsvChanged_touches _ ?_)
  on_goal 2 => exact Part.within_trans rfl hw
  with_reducible refine Touches.step ?_ (State.setFlow_touches _ _ _ ?_)
  on_goal 2 => exact Part.within_trans rfl hw
  with_reducible refine Touches.step ?_ (State.setObj_touches _ _ _ _ ?_)
  on_goal 2 => exact Part.within_trans rfl hw
  with_reducible refine Touches.step ?_ (State.addRsv_touches _ _ _ ?_)
  on_goal 2 => exact Part.within_trans rfl hw
  with_reducible refine Touches.step ?_ (State.addRsv_touches _ _ _ ?_)
  on_goal 2 => exact Part.within_trans rfl hw
  with_reducible exact Touches.refl _ _

theorem State.addNamed_touches {ps : List Part} s a1 a2 a3 a4 (hw : Part.within [.index, .objs] ps = true) : Touches ps s (State.addNamed s a1 a2 a3 a4) := by
  unfold State.addNamed
  try extract_lets -merge -underBinder t0
  try clear_value t0
  refine Touches.mk hw ?_
  with_reducible exact Touches.refl _ _

theorem State.addObj_touches {ps : List Part} s a1 a2 a3 (hw : Part.within [.index, .objs] ps = true) : Touches ps s (State.addObj s a1 a2 a3) := by
  unfold State.addObj
  refine Touches.mk hw ?_
  with_reducible exact Touches.refl _ _

theorem State.flowMake_touches {ps : List Part} s a1 (hw : Part.within [.index, .objs, .sw, .fab, .bpm, .fdb] ps = true) : Touches ps s (State.flowMake s a1) := by
  unfold State.flowMake
  try extract_lets -merge -underBinder t0 t1 t2 t3 t4 t5
  try clear_value t0
  try clear_value t1
  refine Touches.haveS (t := t2) ?_ (fun ht2 => ?_)
  ·
    unfold t2
    with_reducible refine Touches.ite ?_ ?_
    ·
      with_reducible refine Touches.step ?_ (State.addNamed_touches _ _ _ _ _ ?_)
      on_goal 2 => exact Part.within_trans rfl hw
      with_reducible exact Touches.refl _ _
    ·
      with_reducible refine Touches.step ?_ (State.addObj_touches _ _ _ _ ?_)
      on_goal 2 => exact Part.within_trans rfl hw
      with_reducible exact Touches.refl _ _
  try clear_value t2
  refine Touches.haveS (t := t3) ?_ (fun ht3 => ?_)
  ·
    unfold t3
    with_reducible refine Touches.step ?_ (State.setFlow_touches _ _ _ ?_)
    on_goal 2 => exact Part.within_trans rfl hw
    with_reducible exact ht2
  try clear_value t3
  refine Touches.haveS (t := t4) ?_ (fun ht4 => ?_)
  ·
    unfold t4
    with_reducible refine Touches.step ?_ (State.addRsv_touches _ _ _ ?_)
    on_goal 2 => exact Part.within_trans rfl hw
    with_reducible exact ht3
  try clear_value t4
  with_reducible refine Touches.step ?_ (State.rsvChanged_touches _ ?_)
  on_goal 2 => exact Part.within_trans rfl hw
  with_reducible refine Touches.set_fdb ?_ ?_
  on_goal 2 => exact Part.within_mem rfl hw
  with_reducible exact ht4

theorem State.flowGrant_touches {ps : List Part} s a1 (hw : Part.within [.evt, .hif, .index, .objs, .sw, .fab, .bpm, .fdb, .pair, .boot, .rc .evtPinStat, .rc .evtSuppressed, .rc .hifEvtLost, .rc .hifRingAborted, .rc .pairMirOvf] ps = true) : Touches ps s (State.flowGrant s a1) := by
  unfold State.flowGrant
  try extract_lets -merge -underBinder t0 t1 t2
  refine Touches.haveS (t := t1) ?_ (fun ht1 => ?_)
  ·
    unfold t1
    with_reducible refine Touches.set_sw ?_ ?_
    on_goal 2 => exact Part.within_mem rfl hw
    with_reducible exact Touches.refl _ _
  try clear_value t1
  refine Touches.haveS (t := t2) ?_ (fun ht2 => ?_)
  ·
    unfold t2
    with_reducible refine Touches.ite ?_ ?_
    ·
      with_reducible refine Touches.step ?_ (State.flowChange_touches _ _ ?_)
      on_goal 2 => exact Part.within_trans rfl hw
      with_reducible exact ht1
    ·
      with_reducible refine Touches.step ?_ (State.flowMake_touches _ _ ?_)
      on_goal 2 => exact Part.within_trans rfl hw
      with_reducible exact ht1
  try clear_value t2
  with_reducible refine Touches.ite ?_ ?_
  ·
    with_reducible refine Touches.step ?_ (State.pairDelta_touches _ _ ?_)
    on_goal 2 => exact Part.within_trans rfl hw
    with_reducible exact ht2
  ·
    with_reducible refine Touches.step ?_ (State.complete_touches _ _ _ _ _ _ _ ?_)
    on_goal 2 => exact Part.within_trans rfl hw
    with_reducible exact ht2

theorem State.flowLocal_touches {ps : List Part} s a1 (hw : Part.within [.evt, .hif, .index, .objs, .sw, .fab, .bpm, .fdb, .pair, .boot, .rc .evtPinStat, .rc .evtSuppressed, .rc .hifEvtLost, .rc .hifRingAborted, .rc .pairMirOvf] ps = true) : Touches ps s (State.flowLocal s a1) := by
  unfold State.flowLocal
  try extract_lets -merge -underBinder t0 t1
  refine Touches.haveS (t := t1) ?_ (fun ht1 => ?_)
  ·
    unfold t1
    with_reducible refine Touches.set_sw ?_ ?_
    on_goal 2 => exact Part.within_mem rfl hw
    with_reducible exact Touches.refl _ _
  try clear_value t1
  with_reducible refine Touches.ite ?_ ?_
  ·
    with_reducible refine Touches.step ?_ (State.pairDelta_touches _ _ ?_)
    on_goal 2 => exact Part.within_trans rfl hw
    with_reducible exact ht1
  ·
    with_reducible refine Touches.step ?_ (State.flowGrant_touches _ _ ?_)
    on_goal 2 => exact Part.within_trans rfl hw
    with_reducible exact Touches.refl _ _

theorem State.flowRate_touches {ps : List Part} s a1 (hw : Part.within [.evt, .hif, .index, .objs, .sw, .fab, .bpm, .fdb, .pair, .boot, .rc .evtPinStat, .rc .evtSuppressed, .rc .hifEvtLost, .rc .hifRingAborted, .rc .pairMirOvf] ps = true) : Touches ps s (State.flowRate s a1) := by
  unfold State.flowRate
  try extract_lets -merge -underBinder t0 t1
  refine Touches.haveS (t := t1) ?_ (fun ht1 => ?_)
  ·
    unfold t1
    with_reducible refine Touches.set_sw ?_ ?_
    on_goal 2 => exact Part.within_mem rfl hw
    with_reducible exact Touches.refl _ _
  try clear_value t1
  with_reducible refine Touches.ite ?_ ?_
  ·
    with_reducible refine Touches.step ?_ (State.vddRaise_touches _ ?_)
    on_goal 2 => exact Part.within_trans rfl hw
    with_reducible exact ht1
  ·
    with_reducible refine Touches.step ?_ (State.flowLocal_touches _ _ ?_)
    on_goal 2 => exact Part.within_trans rfl hw
    with_reducible exact ht1

theorem State.flowDecide_touches {ps : List Part} s a1 a2 a3 (hw : Part.within [.evt, .hif, .index, .objs, .sw, .fab, .bpm, .fdb, .pair, .boot, .rc .evtPinStat, .rc .evtSuppressed, .rc .hifEvtLost, .rc .hifRingAborted, .rc .pairMirOvf] ps = true) : Touches ps s (State.flowDecide s a1 a2 a3) := by
  unfold State.flowDecide
  try extract_lets -merge -underBinder t0 t1 t2 t3
  try clear_value t0
  try clear_value t1
  try clear_value t2
  try clear_value t3
  with_reducible refine Touches.ite ?_ ?_
  ·
    with_reducible refine Touches.step ?_ (State.complete_touches _ _ _ _ _ _ _ ?_)
    on_goal 2 => exact Part.within_trans rfl hw
    with_reducible exact Touches.refl _ _
  ·
    with_reducible refine Touches.ite ?_ ?_
    ·
      with_reducible refine Touches.step ?_ (State.complete_touches _ _ _ _ _ _ _ ?_)
      on_goal 2 => exact Part.within_trans rfl hw
      with_reducible exact Touches.refl _ _
    ·
      with_reducible refine Touches.ite ?_ ?_
      ·
        with_reducible refine Touches.step ?_ (State.complete_touches _ _ _ _ _ _ _ ?_)
        on_goal 2 => exact Part.within_trans rfl hw
        with_reducible exact Touches.refl _ _
      ·
        with_reducible refine Touches.ite ?_ ?_
        ·
          with_reducible refine Touches.step ?_ (State.complete_touches _ _ _ _ _ _ _ ?_)
          on_goal 2 => exact Part.within_trans rfl hw
          with_reducible exact Touches.refl _ _
        ·
          split
          ·
            with_reducible refine Touches.step ?_ (State.complete_touches _ _ _ _ _ _ _ ?_)
            on_goal 2 => exact Part.within_trans rfl hw
            with_reducible exact Touches.refl _ _
          ·
            with_reducible refine Touches.ite ?_ ?_
            ·
              with_reducible refine Touches.step ?_ (State.complete_touches _ _ _ _ _ _ _ ?_)
              on_goal 2 => exact Part.within_trans rfl hw
              with_reducible exact Touches.refl _ _
            ·
              with_reducible refine Touches.step ?_ (State.flowRate_touches _ _ ?_)
              on_goal 2 => exact Part.within_trans rfl hw
              with_reducible exact Touches.refl _ _

theorem State.flowCreateNow_touches {ps : List Part} s a1 (hw : Part.within [.keys, .evt, .hif, .index, .objs, .sw, .fab, .bpm, .fdb, .pair, .boot, .rc .evtPinStat, .rc .evtSuppressed, .rc .hifEvtLost, .rc .hifRingAborted, .rc .pairMirOvf] ps = true) : Touches ps s (State.flowCreateNow s a1) := by
  unfold State.flowCreateNow
  with_reducible refine Touches.step ?_ (State.checked_touches _ _ _ _ _ ?_ (fun _ => ?_))
  on_goal 2 => exact Part.within_trans rfl hw
  ·
    with_reducible exact Touches.refl _ _
  ·
    split
    ·
      with_reducible refine Touches.step ?_ (State.complete_touches _ _ _ _ _ _ _ ?_)
      on_goal 2 => exact Part.within_trans rfl hw
      with_reducible exact Touches.refl _ _
    ·
      with_reducible refine Touches.ite ?_ ?_
      ·
        with_reducible refine Touches.step ?_ (State.complete_touches _ _ _ _ _ _ _ ?_)
        on_goal 2 => exact Part.within_trans rfl hw
        with_reducible exact Touches.refl _ _
      ·
        with_reducible refine Touches.step ?_ (State.flowDecide_touches _ _ _ _ ?_)
        on_goal 2 => exact Part.within_trans rfl hw
        with_reducible exact Touches.refl _ _

theorem State.waitDrain_touches {ps : List Part} s a1 a2 a3 a4 (hw : Part.within [.objs] ps = true) : Touches ps s (State.waitDrain s a1 a2 a3 a4) := by
  unfold State.waitDrain
  try extract_lets -merge -underBinder t0
  with_reducible refine Touches.step ?_ (State.setObj_touches _ _ _ _ ?_)
  on_goal 2 => exact Part.within_trans rfl hw
  with_reducible exact Touches.refl _ _

theorem State.namedGo_touches {ps : List Part} (s : State) (t : ObjType) (v : Nat) (d : CmdDesc) (o : Nat) (c : Checks) (f : State → State)
    (hw : Part.within [.keys, .hif, .objs, .boot, .rc .hifRingAborted] ps = true) (h : ∀ t, Touches ps t (f t)) : Touches ps s (s.namedGo t v d o c f) := by
  unfold State.namedGo
  split
  · exact State.waitDrain_touches _ _ _ _ _ (Part.within_trans rfl hw)
  · exact State.checked_touches _ _ _ _ _ (Part.within_trans rfl hw) h

theorem State.flowModifyNow_touches {ps : List Part} s a1 (hw : Part.within [.keys, .evt, .hif, .index, .objs, .sw, .fab, .bpm, .fdb, .pair, .boot, .rc .evtPinStat, .rc .evtSuppressed, .rc .hifEvtLost, .rc .hifRingAborted, .rc .pairMirOvf] ps = true) : Touches ps s (State.flowModifyNow s a1) := by
  unfold State.flowModifyNow
  try extract_lets -merge -underBinder t0 t1 t2
  try clear_value t0
  try clear_value t1
  try clear_value t2
  with_reducible refine Touches.step ?_ (State.namedGo_touches _ _ _ _ _ _ _ ?_ (fun _ => ?_))
  on_goal 2 => exact Part.within_trans rfl hw
  ·
    with_reducible exact Touches.refl _ _
  ·
    with_reducible refine Touches.ite ?_ ?_
    ·
      with_reducible refine Touches.step ?_ (State.complete_touches _ _ _ _ _ _ _ ?_)
      on_goal 2 => exact Part.within_trans rfl hw
      with_reducible exact Touches.refl _ _
    ·
      with_reducible refine Touches.step ?_ (State.flowDecide_touches _ _ _ _ ?_)
      on_goal 2 => exact Part.within_trans rfl hw
      with_reducible exact Touches.refl _ _

theorem State.tick_touches {ps : List Part} s (hw : Part.within [.free] ps = true) : Touches ps s (State.tick s) := by
  unfold State.tick
  with_reducible refine Touches.set_free ?_ ?_
  on_goal 2 => exact Part.within_mem rfl hw
  with_reducible exact Touches.refl _ _

theorem State.boundQueryNow_touches {ps : List Part} s a1 (hw : Part.within [.keys, .hif, .free, .boot, .rc .hifRingAborted] ps = true) : Touches ps s (State.boundQueryNow s a1) := by
  unfold State.boundQueryNow
  try extract_lets -merge -underBinder t0
  try clear_value t0
  with_reducible refine Touches.step ?_ (State.checked_touches _ _ _ _ _ ?_ (fun _ => ?_))
  on_goal 2 => exact Part.within_trans rfl hw
  ·
    with_reducible exact Touches.refl _ _
  ·
    try extract_lets -merge -underBinder t1
    try clear_value t1
    split
    ·
      with_reducible refine Touches.step ?_ (State.complete_touches _ _ _ _ _ _ _ ?_)
      on_goal 2 => exact Part.within_trans rfl hw
      with_reducible exact Touches.refl _ _
    ·
      with_reducible refine Touches.step ?_ (State.complete_touches _ _ _ _ _ _ _ ?_)
      on_goal 2 => exact Part.within_trans rfl hw
      with_reducible refine Touches.step ?_ (State.tick_touches _ ?_)
      on_goal 2 => exact Part.within_trans rfl hw
      with_reducible exact Touches.refl _ _

theorem State.flowRefuse_touches {ps : List Part} s a1 a2 (hw : Part.within [.evt, .hif, .sw, .pair, .boot, .rc .evtPinStat, .rc .evtSuppressed, .rc .hifEvtLost, .rc .hifRingAborted, .rc .pairMirOvf] ps = true) : Touches ps s (State.flowRefuse s a1 a2) := by
  unfold State.flowRefuse
  try extract_lets -merge -underBinder t0 t1
  refine Touches.haveS (t := t1) ?_ (fun ht1 => ?_)
  ·
    unfold t1
    with_reducible refine Touches.set_sw ?_ ?_
    on_goal 2 => exact Part.within_mem rfl hw
    with_reducible exact Touches.refl _ _
  try clear_value t1
  with_reducible refine Touches.ite ?_ ?_
  ·
    with_reducible refine Touches.step ?_ (State.pairDelta_touches _ _ ?_)
    on_goal 2 => exact Part.within_trans rfl hw
    with_reducible exact ht1
  ·
    with_reducible refine Touches.step ?_ (State.complete_touches _ _ _ _ _ _ _ ?_)
    on_goal 2 => exact Part.within_trans rfl hw
    with_reducible exact ht1

theorem State.flowMirrored_touches {ps : List Part} s a1 (hw : Part.within [.evt, .hif, .index, .objs, .sw, .fab, .bpm, .fdb, .pair, .boot, .rc .evtPinStat, .rc .evtSuppressed, .rc .hifEvtLost, .rc .hifRingAborted, .rc .pairMirOvf] ps = true) : Touches ps s (State.flowMirrored s a1) := by
  unfold State.flowMirrored
  try extract_lets -merge -underBinder t0 t1 t2 t3 t4 t5 t6 t7 t8 t9 t10
  try clear_value t0
  try clear_value t1
  try clear_value t2
  try clear_value t3
  try clear_value t4
  try clear_value t5
  try clear_value t6
  try clear_value t7
  try clear_value t8
  try clear_value t9
  try clear_value t10
  with_reducible refine Touches.ite ?_ ?_
  ·
    with_reducible refine Touches.step ?_ (State.flowRefuse_touches _ _ _ ?_)
    on_goal 2 => exact Part.within_trans rfl hw
    with_reducible exact Touches.refl _ _
  ·
    with_reducible refine Touches.ite ?_ ?_
    ·
      with_reducible refine Touches.step ?_ (State.flowRefuse_touches _ _ _ ?_)
      on_goal 2 => exact Part.within_trans rfl hw
      with_reducible exact Touches.refl _ _
    ·
      with_reducible refine Touches.ite ?_ ?_
      ·
        with_reducible refine Touches.step ?_ (State.flowRefuse_touches _ _ _ ?_)
        on_goal 2 => exact Part.within_trans rfl hw
        with_reducible exact Touches.refl _ _
      ·
        with_reducible refine Touches.step ?_ (State.flowRate_touches _ _ ?_)
        on_goal 2 => exact Part.within_trans rfl hw
        with_reducible exact Touches.refl _ _

theorem State.drainDone_touches {ps : List Part} s a1 a2 a3 a4 (hw : Part.within [.evt, .hif, .boot, .rc .evtPinStat, .rc .evtSuppressed, .rc .hifEvtLost, .rc .hifRingAborted] ps = true) : Touches ps s (State.drainDone s a1 a2 a3 a4) := by
  unfold State.drainDone
  with_reducible refine Touches.step ?_ (State.complete_touches _ _ _ _ _ _ _ ?_)
  on_goal 2 => exact Part.within_trans rfl hw
  with_reducible refine Touches.step ?_ (State.raiseIf_touches _ _ _ _ _ _ ?_)
  on_goal 2 => exact Part.within_trans rfl hw
  with_reducible exact Touches.refl _ _

theorem State.dropObj_touches {ps : List Part} s a1 a2 (hw : Part.within [.index, .objs] ps = true) : Touches ps s (State.dropObj s a1 a2) := by
  unfold State.dropObj
  try extract_lets -merge -underBinder t0
  try clear_value t0
  refine Touches.mk hw ?_
  with_reducible exact Touches.refl _ _

theorem State.flowDrop_touches {ps : List Part} s a1 (hw : Part.within [.sw, .fab, .bpm, .fdb] ps = true) : Touches ps s (State.flowDrop s a1) := by
  unfold State.flowDrop
  try extract_lets -merge -underBinder t0 t1 t2 t3 t4
  try clear_value t0
  refine Touches.haveS (t := t1) ?_ (fun ht1 => ?_)
  ·
    unfold t1
    with_reducible refine Touches.step ?_ (State.addRsv_touches _ _ _ ?_)
    on_goal 2 => exact Part.within_trans rfl hw
    with_reducible exact Touches.refl _ _
  try clear_value t1
  with_reducible refine Touches.step ?_ (State.rsvChanged_touches _ ?_)
  on_goal 2 => exact Part.within_trans rfl hw
  refine Touches.mk hw ?_
  with_reducible exact ht1

theorem State.flowEnd_touches {ps : List Part} s a1 a2 a3 (hw : Part.within [.evt, .hif, .index, .objs, .sw, .fab, .bpm, .fdb, .pair, .boot, .rc .evtPinStat, .rc .evtSuppressed, .rc .hifEvtLost, .rc .hifRingAborted, .rc .pairMirOvf] ps = true) : Touches ps s (State.flowEnd s a1 a2 a3) := by
  unfold State.flowEnd
  try extract_lets -merge -underBinder t0 t1 t2
  try clear_value t0
  refine Touches.haveS (t := t1) ?_ (fun ht1 => ?_)
  ·
    unfold t1
    with_reducible refine Touches.step ?_ (State.drainDone_touches _ _ _ _ _ ?_)
    on_goal 2 => exact Part.within_trans rfl hw
    with_reducible exact Touches.refl _ _
  try clear_value t1
  try clear_value t2
  with_reducible refine Touches.ite ?_ ?_
  ·
    with_reducible refine Touches.step ?_ (State.pairDelta_touches _ _ ?_)
    on_goal 2 => exact Part.within_trans rfl hw
    with_reducible refine Touches.step ?_ (State.dropObj_touches _ _ _ ?_)
    on_goal 2 => exact Part.within_trans rfl hw
    with_reducible refine Touches.step ?_ (State.flowDrop_touches _ _ ?_)
    on_goal 2 => exact Part.within_trans rfl hw
    with_reducible exact ht1
  ·
    with_reducible refine Touches.step ?_ (State.pairDelta_touches _ _ ?_)
    on_goal 2 => exact Part.within_trans rfl hw
    with_reducible refine Touches.step ?_ (State.setObj_touches _ _ _ _ ?_)
    on_goal 2 => exact Part.within_trans rfl hw
    with_reducible exact ht1

theorem State.countAnswer_touches {ps : List Part} s a1 a2 (hw : Part.within [.rc .bpmPoolEmptyCnt, .rc .bpmPromoteCnt] ps = true) : Touches ps s (State.countAnswer s a1 a2) := by
  unfold State.countAnswer
  with_reducible refine Touches.ite ?_ ?_
  ·
    with_reducible refine Touches.step ?_ (State.bump_touches _ _ _ _ ?_)
    on_goal 2 => exact Part.within_trans rfl hw
    with_reducible exact Touches.refl _ _
  ·
    with_reducible refine Touches.ite ?_ ?_
    ·
      with_reducible refine Touches.step ?_ (State.bump_touches _ _ _ _ ?_)
      on_goal 2 => exact Part.within_trans rfl hw
      with_reducible exact Touches.refl _ _
    ·
      with_reducible exact Touches.refl _ _

theorem State.takeBuf_touches {ps : List Part} (s : State) (p r : Nat) (hr : Bool) (flow : Option Nat)
    (hw : Part.within [.sw, .bpm] ps = true) {b : Nat} {t : State} (h : s.takeBuf p r hr flow = some (b, t)) : Touches ps s t := by
  unfold State.takeBuf at h
  split at h
  · cases h
  · simp only [Option.some.injEq, Prod.mk.injEq] at h
    rw [← h.2]
    refine Touches.set_bpm ?_ (Part.within_mem rfl hw)
    have h1 : ∀ i : Nat, Touches ps s (if (s.pool p).bitmap = true then s
      else if (s.pool p).freed.head? = some i ∧ (s.firstFree p (s.pool p).freed (s.pool p).fresh (s.keepLimit p - (s.pool p).fresh)).isNone = true
      then s.setPool p { s.pool p with freed := (s.pool p).freed.tail }
      else s.setPool p { s.pool p with fresh := i + 1 }) := fun i =>
      Touches.ite (Touches.refl _ _) (Touches.ite (State.setPool_touches _ _ _ (Part.within_trans rfl hw))
        (State.setPool_touches _ _ _ (Part.within_trans rfl hw)))
    cases flow with
    | some k => exact Touches.set_sw (h1 _) (Part.within_mem rfl hw)
    | none => exact (h1 _).step (State.setReq_touches _ _ _ (Part.within_trans rfl hw))

theorem State.engRequest_touches {ps : List Part} (s : State) (len : Nat) (hw : Part.within [.sw, .bpm, .rc .bpmPoolEmptyCnt, .rc .bpmPromoteCnt] ps = true) :
    Touches ps s (s.engRequest len).1 := by
  unfold State.engRequest
  extract_lets n a s1
  have h1 : Touches ps s s1 := State.countAnswer_touches _ _ _ (Part.within_trans rfl hw)
  split
  · refine Touches.foldl (fun u _ => ?_) _ h1
    split
    · next ht => exact State.takeBuf_touches u _ _ _ _ (Part.within_trans rfl hw) ht
    · exact Touches.refl _ _
  · exact h1

theorem State.bpmEngine_touches {ps : List Part} (s : State) (len : Nat) (hw : Part.within [.sw, .bpm, .rc .bpmPoolEmptyCnt, .rc .bpmPromoteCnt] ps = true) :
    Touches ps s (s.bpmEngine len) := by
  unfold State.bpmEngine
  extract_lets t
  have ht : Touches ps s t.1 := State.engRequest_touches _ _ (Part.within_trans rfl hw)
  exact Touches.ite ht (Touches.set_bpm ht (Part.within_mem rfl hw))

theorem State.engRetry_touches {ps : List Part} s (hw : Part.within [.sw, .bpm, .rc .bpmPoolEmptyCnt, .rc .bpmPromoteCnt] ps = true) : Touches ps s (State.engRetry s) := by
  unfold State.engRetry
  try extract_lets -merge -underBinder t0
  with_reducible refine Touches.foldl (fun _ _ => ?_) _ ?_
  ·
    with_reducible refine Touches.step ?_ (State.bpmEngine_touches _ _ ?_)
    on_goal 2 => exact Part.within_trans rfl hw
    with_reducible exact Touches.refl _ _
  ·
    with_reducible refine Touches.set_bpm ?_ ?_
    on_goal 2 => exact Part.within_mem rfl hw
    with_reducible exact Touches.refl _ _

theorem State.afterFree_touches {ps : List Part} s (hw : Part.within [.sw, .fab, .bpm, .rc .bpmPoolEmptyCnt, .rc .bpmPromoteCnt] ps = true) : Touches ps s (State.afterFree s) := by
  unfold State.afterFree
  with_reducible refine Touches.step ?_ (State.xoffUpdate_touches _ ?_)
  on_goal 2 => exact Part.within_trans rfl hw
  with_reducible refine Touches.step ?_ (State.engRetry_touches _ ?_)
  on_goal 2 => exact Part.within_trans rfl hw
  with_reducible refine Touches.step ?_ (State.causesClear_touches _ ?_)
  on_goal 2 => exact Part.within_trans rfl hw
  with_reducible exact Touches.refl _ _

theorem State.tagPush_touches {ps : List Part} s a1 (hw : Part.within [.eng, .rc .perfTagDrop] ps = true) : Touches ps s (State.tagPush s a1) := by
  unfold State.tagPush
  try extract_lets -merge -underBinder t0 t1 t2
  refine Touches.haveS (t := t1) ?_ (fun ht1 => ?_)
  ·
    unfold t1
    with_reducible refine Touches.step ?_ (State.bump_touches _ _ _ _ ?_)
    on_goal 2 => exact Part.within_trans rfl hw
    with_reducible exact Touches.refl _ _
  try clear_value t1
  with_reducible refine Touches.ite ?_ ?_
  ·
    with_reducible refine Touches.setEng ?_ ?_ ?_
    on_goal 2 => exact Part.within_mem rfl hw
    on_goal 2 => rfl
    with_reducible exact Touches.refl _ _
  ·
    with_reducible refine Touches.ite ?_ ?_
    ·
      with_reducible exact ht1
    ·
      with_reducible refine Touches.setEng ?_ ?_ ?_
      on_goal 2 => exact Part.within_mem rfl hw
      on_goal 2 => rfl
      with_reducible exact ht1

theorem State.tagCopy_touches {ps : List Part} s a1 a2 (hw : Part.within [.free, .eng, .rc .perfTagDrop] ps = true) : Touches ps s (State.tagCopy s a1 a2) := by
  unfold State.tagCopy
  split
  ·
    try extract_lets -merge -underBinder t0 t1 t2
    try clear_value t0
    try clear_value t1
    try clear_value t2
    with_reducible refine Touches.step ?_ (State.tagPush_touches _ _ ?_)
    on_goal 2 => exact Part.within_trans rfl hw
    with_reducible refine Touches.set_free ?_ ?_
    on_goal 2 => exact Part.within_mem rfl hw
    with_reducible exact Touches.refl _ _
  ·
    with_reducible exact Touches.refl _ _

theorem State.hostResume_touches {ps : List Part} s (hw : Part.within [.bpm] ps = true) : Touches ps s (State.hostResume s) := by
  unfold State.hostResume
  try extract_lets -merge -underBinder t0
  try clear_value t0
  with_reducible refine Touches.ite ?_ ?_
  ·
    with_reducible refine Touches.step ?_ (State.setReq_touches _ _ _ ?_)
    on_goal 2 => exact Part.within_trans rfl hw
    with_reducible exact Touches.refl _ _
  ·
    with_reducible exact Touches.refl _ _

theorem State.returnBuf_touches {ps : List Part} s a1 a2 (hw : Part.within [.sw, .bpm] ps = true) : Touches ps s (State.returnBuf s a1 a2) := by
  unfold State.returnBuf
  try extract_lets -merge -underBinder t0 t1 t2 t3 t4 t5
  try clear_value t0
  try clear_value t1
  try clear_value t2
  refine Touches.haveS (t := t3) ?_ (fun ht3 => ?_)
  ·
    unfold t3
    split
    ·
      try extract_lets -merge -underBinder t6
      with_reducible refine Touches.set_sw ?_ ?_
      on_goal 2 => exact Part.within_mem rfl hw
      with_reducible exact Touches.refl _ _
    ·
      with_reducible refine Touches.step ?_ (State.setReq_touches _ _ _ ?_)
      on_goal 2 => exact Part.within_trans rfl hw
      with_reducible exact Touches.refl _ _
  try clear_value t3
  refine Touches.haveS (t := t5) ?_ (fun ht5 => ?_)
  ·
    unfold t5
    with_reducible refine Touches.step ?_ (State.hostResume_touches _ ?_)
    on_goal 2 => exact Part.within_trans rfl hw
    with_reducible refine Touches.set_bpm ?_ ?_
    on_goal 2 => exact Part.within_mem rfl hw
    with_reducible exact ht3
  try clear_value t5
  split
  ·
    try extract_lets -merge -underBinder t7 t8
    with_reducible refine Touches.ite ?_ ?_
    ·
      with_reducible refine Touches.ite ?_ ?_
      ·
        with_reducible exact ht5
      ·
        with_reducible refine Touches.step ?_ (State.setPool_touches _ _ _ ?_)
        on_goal 2 => exact Part.within_trans rfl hw
        with_reducible exact ht5
    ·
      with_reducible refine Touches.set_bpm ?_ ?_
      on_goal 2 => exact Part.within_mem rfl hw
      with_reducible exact ht5
  ·
    try extract_lets -merge -underBinder t9
    with_reducible refine Touches.ite ?_ ?_
    ·
      with_reducible exact ht5
    ·
      with_reducible refine Touches.step ?_ (State.setPool_touches _ _ _ ?_)
      on_goal 2 => exact Part.within_trans rfl hw
      with_reducible exact ht5

theorem State.freeBuf_touches {ps : List Part} (s : State) (b r : Nat) (hw : Part.within [.evt, .hif, .sw, .bpm, .rc .bpmDoubleFreeCnt, .rc .bpmForeignFreeCnt, .rc .evtPinStat, .rc .evtSuppressed, .rc .hifEvtLost] ps = true) :
    Touches ps s (s.freeBuf b r).1 := by
  unfold State.freeBuf
  split
  · exact (State.bump_touches _ _ _ _ (Part.within_trans rfl hw)).step (State.raise_touches _ _ _ _ _ (Part.within_trans rfl hw))
  · split
    · exact (State.bump_touches _ _ _ _ (Part.within_trans rfl hw)).step (State.raise_touches _ _ _ _ _ (Part.within_trans rfl hw))
    · split
      · exact Touches.set_bpm (State.setPool_touches s _ _ (Part.within_trans rfl hw)) (Part.within_mem rfl hw)
      · exact State.returnBuf_touches _ _ _ (Part.within_trans rfl hw)

theorem State.setQueue_touches {ps : List Part} s a1 a2 a3 (hw : Part.within [.fab] ps = true) : Touches ps s (State.setQueue s a1 a2 a3) := by
  unfold State.setQueue
  try extract_lets -merge -underBinder t0
  with_reducible refine Touches.step ?_ (State.setPort_touches _ _ _ ?_)
  on_goal 2 => exact Part.within_trans rfl hw
  with_reducible exact Touches.refl _ _

theorem State.unqueue_touches {ps : List Part} s a1 (hw : Part.within [.fab] ps = true) : Touches ps s (State.unqueue s a1) := by
  unfold State.unqueue
  split
  ·
    with_reducible exact Touches.refl _ _
  ·
    try extract_lets -merge -underBinder t0 t1 t2
    try clear_value t0
    refine Touches.haveS (t := t1) ?_ (fun ht1 => ?_)
    ·
      unfold t1
      with_reducible refine Touches.step ?_ (State.setQueue_touches _ _ _ _ ?_)
      on_goal 2 => exact Part.within_trans rfl hw
      with_reducible exact Touches.refl _ _
    try clear_value t1
    try clear_value t2
    with_reducible refine Touches.step ?_ (State.setPort_touches _ _ _ ?_)
    on_goal 2 => exact Part.within_trans rfl hw
    with_reducible exact ht1

theorem State.frameGone_touches {ps : List Part} s a1 (hw : Part.within [.fab, .fdb, .eng] ps = true) : Touches ps s (State.frameGone s a1) := by
  unfold State.frameGone
  split
  ·
    with_reducible exact Touches.refl _ _
  ·
    try extract_lets -merge -underBinder t0 t1
    with_reducible refine Touches.ite ?_ ?_
    ·
      refine Touches.mk hw ?_
      with_reducible exact Touches.refl _ _
    ·
      with_reducible exact Touches.refl _ _

theorem State.removeCopy_touches {ps : List Part} s a1 (hw : Part.within [.evt, .hif, .sw, .fab, .bpm, .fdb, .free, .eng, .rc .bpmDoubleFreeCnt, .rc .bpmForeignFreeCnt, .rc .evtPinStat, .rc .evtSuppressed, .rc .hifEvtLost, .rc .perfTagDrop] ps = true) : Touches ps s (State.removeCopy s a1) := by
  unfold State.removeCopy
  split
  ·
    with_reducible exact Touches.refl _ _
  ·
    try extract_lets -merge -underBinder t0 t1 t2
    refine Touches.haveS (t := t0) ?_ (fun ht0 => ?_)
    ·
      unfold t0
      with_reducible refine Touches.ite ?_ ?_
      ·
        with_reducible exact Touches.refl _ _
      ·
        with_reducible refine Touches.step ?_ (State.tagCopy_touches _ _ _ ?_)
        on_goal 2 => exact Part.within_trans rfl hw
        with_reducible exact Touches.refl _ _
    try clear_value t0
    refine Touches.haveS (t := t1) ?_ (fun ht1 => ?_)
    ·
      unfold t1
      with_reducible refine Touches.foldl (fun _ _ => ?_) _ ?_
      ·
        with_reducible refine Touches.step ?_ (State.freeBuf_touches _ _ _ ?_)
        on_goal 2 => exact Part.within_trans rfl hw
        with_reducible exact Touches.refl _ _
      ·
        with_reducible refine Touches.step ?_ (State.unqueue_touches _ _ ?_)
        on_goal 2 => exact Part.within_trans rfl hw
        with_reducible exact ht0
    try clear_value t1
    with_reducible refine Touches.step ?_ (State.frameGone_touches _ _ ?_)
    on_goal 2 => exact Part.within_trans rfl hw
    with_reducible refine Touches.set_fab ?_ ?_
    on_goal 2 => exact Part.within_mem rfl hw
    with_reducible exact ht1

theorem State.tsRecord_touches {ps : List Part} s a1 a2 a3 a4 (hw : Part.within [.hif, .rc .hifRingAborted] ps = true) : Touches ps s (State.tsRecord s a1 a2 a3 a4) := by
  unfold State.tsRecord
  with_reducible refine Touches.step ?_ (State.slotUse_touches _ _ _ _ ?_)
  on_goal 2 => exact Part.within_trans rfl hw
  with_reducible exact Touches.refl _ _

theorem State.tsLost_touches {ps : List Part} (s : State) (x : Copy) (o : Nat) (hw : Part.within [.hif, .rc .hifRingAborted] ps = true) : Touches ps s (s.tsLost x o) := by
  unfold State.tsLost
  exact Touches.elim (Touches.refl _ _) (fun q => State.tsRecord_touches _ _ _ _ _ (Part.within_trans rfl hw))

theorem State.flushCopies_touches {ps : List Part} s a1 a2 (hw : Part.within [.evt, .hif, .sw, .fab, .bpm, .fdb, .free, .eng, .rc .bpmDoubleFreeCnt, .rc .bpmForeignFreeCnt, .rc .evtPinStat, .rc .evtSuppressed, .rc .hifEvtLost, .rc .hifRingAborted, .rc .perfTagDrop] ps = true) : Touches ps s (State.flushCopies s a1 a2) := by
  unfold State.flushCopies
  with_reducible refine Touches.foldl (fun _ _ => ?_) _ ?_
  ·
    split
    ·
      with_reducible refine Touches.step ?_ (State.removeCopy_touches _ _ ?_)
      on_goal 2 => exact Part.within_trans rfl hw
      with_reducible refine Touches.step ?_ (State.tsLost_touches _ _ _ ?_)
      on_goal 2 => exact Part.within_trans rfl hw
      with_reducible exact Touches.refl _ _
    ·
      with_reducible exact Touches.refl _ _
  ·
    with_reducible exact Touches.refl _ _

theorem State.flowAbort_touches {ps : List Part} s a1 (hw : Part.within [.evt, .hif, .sw, .fab, .bpm, .fdb, .free, .eng, .rc .bpmDoubleFreeCnt, .rc .bpmForeignFreeCnt, .rc .bpmPoolEmptyCnt, .rc .bpmPromoteCnt, .rc .evtPinStat, .rc .evtSuppressed, .rc .hifEvtLost, .rc .hifRingAborted, .rc .perfTagDrop] ps = true) : Touches ps s (State.flowAbort s a1) := by
  unfold State.flowAbort
  with_reducible refine Touches.step ?_ (State.afterFree_touches _ ?_)
  on_goal 2 => exact Part.within_trans rfl hw
  with_reducible refine Touches.foldl (fun _ _ => ?_) _ ?_
  ·
    with_reducible refine Touches.step ?_ (State.flushCopies_touches _ _ _ ?_)
    on_goal 2 => exact Part.within_trans rfl hw
    with_reducible exact Touches.refl _ _
  ·
    with_reducible exact Touches.refl _ _

theorem State.flowDrainNow_touches {ps : List Part} s a1 a2 (hw : Part.within [.keys, .evt, .hif, .index, .objs, .sw, .fab, .bpm, .fdb, .free, .eng, .pair, .boot, .rc .bpmDoubleFreeCnt, .rc .bpmForeignFreeCnt, .rc .bpmPoolEmptyCnt, .rc .bpmPromoteCnt, .rc .evtPinStat, .rc .evtSuppressed, .rc .hifEvtLost, .rc .hifRingAborted, .rc .pairMirOvf, .rc .perfTagDrop] ps = true) : Touches ps s (State.flowDrainNow s a1 a2) := by
  unfold State.flowDrainNow
  try extract_lets -merge -underBinder t0 t1
  try clear_value t0
  try clear_value t1
  with_reducible refine Touches.step ?_ (State.namedGo_touches _ _ _ _ _ _ _ ?_ (fun _ => ?_))
  on_goal 2 => exact Part.within_trans rfl hw
  ·
    with_reducible exact Touches.refl _ _
  ·
    try extract_lets -merge -underBinder t2 t3 t4 t5
    try clear_value t2
    try clear_value t3
    try clear_value t4
    refine Touches.haveS (t := t5) ?_ (fun ht5 => ?_)
    ·
      unfold t5
      with_reducible refine Touches.step ?_ (State.setObj_touches _ _ _ _ ?_)
      on_goal 2 => exact Part.within_trans rfl hw
      with_reducible exact Touches.refl _ _
    try clear_value t5
    with_reducible refine Touches.ite ?_ ?_
    ·
      with_reducible refine Touches.step ?_ (State.complete_touches _ _ _ _ _ _ _ ?_)
      on_goal 2 => exact Part.within_trans rfl hw
      with_reducible exact Touches.refl _ _
    ·
      with_reducible refine Touches.ite ?_ ?_
      ·
        with_reducible refine Touches.step ?_ (State.complete_touches _ _ _ _ _ _ _ ?_)
        on_goal 2 => exact Part.within_trans rfl hw
        with_reducible exact Touches.refl _ _
      ·
        with_reducible refine Touches.ite ?_ ?_
        ·
          with_reducible refine Touches.step ?_ (State.flowEnd_touches _ _ _ _ ?_)
          on_goal 2 => exact Part.within_trans rfl hw
          with_reducible exact ht5
        ·
          with_reducible refine Touches.ite ?_ ?_
          ·
            with_reducible refine Touches.step ?_ (State.flowEnd_touches _ _ _ _ ?_)
            on_goal 2 => exact Part.within_trans rfl hw
            with_reducible refine Touches.step ?_ (State.flowAbort_touches _ _ ?_)
            on_goal 2 => exact Part.within_trans rfl hw
            with_reducible exact ht5
          ·
            with_reducible exact ht5

theorem State.flowResume_touches {ps : List Part} s a1 (hw : Part.within [.sw] ps = true) : Touches ps s (State.flowResume s a1) := by
  unfold State.flowResume
  try extract_lets -merge -underBinder t0
  try clear_value t0
  with_reducible refine Touches.step ?_ (State.setFlow_touches _ _ _ ?_)
  on_goal 2 => exact Part.within_trans rfl hw
  with_reducible exact Touches.refl _ _

theorem State.flowEnableNow_touches {ps : List Part} s a1 (hw : Part.within [.keys, .evt, .hif, .objs, .sw, .pair, .boot, .rc .evtPinStat, .rc .evtSuppressed, .rc .hifEvtLost, .rc .hifRingAborted, .rc .pairMirOvf] ps = true) : Touches ps s (State.flowEnableNow s a1) := by
  unfold State.flowEnableNow
  try extract_lets -merge -underBinder t0
  try clear_value t0
  with_reducible refine Touches.step ?_ (State.namedGo_touches _ _ _ _ _ _ _ ?_ (fun _ => ?_))
  on_goal 2 => exact Part.within_trans rfl hw
  ·
    with_reducible exact Touches.refl _ _
  ·
    try extract_lets -merge -underBinder t1
    try clear_value t1
    with_reducible refine Touches.ite ?_ ?_
    ·
      with_reducible refine Touches.step ?_ (State.complete_touches _ _ _ _ _ _ _ ?_)
      on_goal 2 => exact Part.within_trans rfl hw
      with_reducible exact Touches.refl _ _
    ·
      split
      ·
        try extract_lets -merge -underBinder t2
        refine Touches.haveS (t := t2) ?_ (fun ht2 => ?_)
        ·
          unfold t2
          with_reducible refine Touches.step ?_ (State.flowResume_touches _ _ ?_)
          on_goal 2 => exact Part.within_trans rfl hw
          with_reducible refine Touches.step ?_ (State.setObj_touches _ _ _ _ ?_)
          on_goal 2 => exact Part.within_trans rfl hw
          with_reducible exact Touches.refl _ _
        try clear_value t2
        with_reducible refine Touches.step ?_ (State.complete_touches _ _ _ _ _ _ _ ?_)
        on_goal 2 => exact Part.within_trans rfl hw
        with_reducible refine Touches.step ?_ (State.pairDelta_touches _ _ ?_)
        on_goal 2 => exact Part.within_trans rfl hw
        with_reducible exact ht2
      ·
        with_reducible refine Touches.step ?_ (State.complete_touches _ _ _ _ _ _ _ ?_)
        on_goal 2 => exact Part.within_trans rfl hw
        with_reducible exact Touches.refl _ _

theorem State.revertBits_touches {ps : List Part} s a1 a2 (hw : Part.within [.regs] ps = true) : Touches ps s (State.revertBits s a1 a2) := by
  unfold State.revertBits
  try extract_lets -merge -underBinder t0
  with_reducible refine Touches.set_regs ?_ ?_
  on_goal 2 => exact Part.within_mem rfl hw
  with_reducible exact Touches.refl _ _

theorem State.capCheck_touches {ps : List Part} (r s t : State) (k : RegKey) (m : Word) (hw : Part.within (.regs :: evtParts) ps = true)
    (hs : Touches ps r s) (ht : Touches ps r t) : Touches ps r (s.capCheck t k m) := by
  unfold State.capCheck
  split
  · exact (hs.step (State.revertBits_touches _ _ _ (Part.within_trans rfl hw))).step (State.raise_touches _ _ _ _ _ (Part.within_trans rfl hw))
  · exact ht

theorem State.copyBits_touches {ps : List Part} s a1 a2 (hw : Part.within [.regs] ps = true) : Touches ps s (State.copyBits s a1 a2) := by
  unfold State.copyBits
  try extract_lets -merge -underBinder t0
  with_reducible refine Touches.set_regs ?_ ?_
  on_goal 2 => exact Part.within_mem rfl hw
  with_reducible exact Touches.refl _ _

theorem State.capWord_touches {ps : List Part} (s : State) (k : RegKey) (hw : Part.within [.regs, .evt, .hif, .rc .evtPinStat, .rc .evtSuppressed, .rc .hifEvtLost] ps = true) : Touches ps s (s.capWord k) := by
  unfold State.capWord
  extract_lets m t
  refine Touches.ite (Touches.refl _ _) ?_
  have ht : Touches ps s t :=
    State.capCheck_touches _ _ _ _ _ (Part.within_trans rfl hw) (Touches.refl _ _)
      (State.copyBits_touches _ _ _ (Part.within_trans rfl hw))
  clear_value t
  exact Touches.set_regs ht (Part.within_mem rfl hw)

theorem State.gclSetNow_touches {ps : List Part} s a1 (hw : Part.within [.keys, .hif, .fab, .boot, .rc .hifRingAborted] ps = true) : Touches ps s (State.gclSetNow s a1) := by
  unfold State.gclSetNow
  try extract_lets -merge -underBinder t0 t1 t2 t3 t4 t5 t6
  try clear_value t0
  try clear_value t1
  try clear_value t2
  try clear_value t3
  try clear_value t4
  try clear_value t5
  try clear_value t6
  with_reducible refine Touches.step ?_ (State.checked_touches _ _ _ _ _ ?_ (fun _ => ?_))
  on_goal 2 => exact Part.within_trans rfl hw
  ·
    with_reducible exact Touches.refl _ _
  ·
    try extract_lets -merge -underBinder t7 t8 t9 t10 t11
    try clear_value t7
    try clear_value t8
    try clear_value t9
    refine Touches.haveS (t := t11) ?_ (fun ht11 => ?_)
    ·
      unfold t11
      with_reducible refine Touches.step ?_ (State.setPort_touches _ _ _ ?_)
      on_goal 2 => exact Part.within_trans rfl hw
      with_reducible exact Touches.refl _ _
    try clear_value t11
    split
    ·
      with_reducible refine Touches.step ?_ (State.complete_touches _ _ _ _ _ _ _ ?_)
      on_goal 2 => exact Part.within_trans rfl hw
      with_reducible exact Touches.refl _ _
    ·
      with_reducible refine Touches.step ?_ (State.complete_touches _ _ _ _ _ _ _ ?_)
      on_goal 2 => exact Part.within_trans rfl hw
      with_reducible exact ht11

theorem State.admRun_touches {ps : List Part} (s : State) (w : AdmWait) (hw : Part.within [.keys, .regs, .evt, .hif, .index, .objs, .sw, .fab, .bpm, .fdb, .free, .eng, .pair, .boot, .rc .bpmDoubleFreeCnt, .rc .bpmForeignFreeCnt, .rc .bpmPoolEmptyCnt, .rc .bpmPromoteCnt, .rc .evtPinStat, .rc .evtSuppressed, .rc .hifEvtLost, .rc .hifRingAborted, .rc .pairMirOvf, .rc .perfTagDrop] ps = true) : Touches ps s (s.admRun w) := by
  unfold State.admRun
  split
  · exact State.flowCreateNow_touches _ _ (Part.within_trans rfl hw)
  · exact State.flowModifyNow_touches _ _ (Part.within_trans rfl hw)
  · exact State.boundQueryNow_touches _ _ (Part.within_trans rfl hw)
  · exact State.flowMirrored_touches _ _ (Part.within_trans rfl hw)
  · exact State.flowDrainNow_touches _ _ _ (Part.within_trans rfl hw)
  · exact State.flowDrainNow_touches _ _ _ (Part.within_trans rfl hw)
  · exact State.flowEnableNow_touches _ _ (Part.within_trans rfl hw)
  · exact Touches.elim (Touches.refl _ _) (fun k => State.capWord_touches _ _ (Part.within_trans rfl hw))
  · exact State.gclSetNow_touches _ _ (Part.within_trans rfl hw)

theorem State.admNext_touches {ps : List Part} s a1 a2 (hw : Part.within [.keys, .regs, .evt, .hif, .index, .objs, .sw, .fab, .bpm, .fdb, .free, .eng, .pair, .boot, .rc .bpmDoubleFreeCnt, .rc .bpmForeignFreeCnt, .rc .bpmPoolEmptyCnt, .rc .bpmPromoteCnt, .rc .evtPinStat, .rc .evtSuppressed, .rc .hifEvtLost, .rc .hifRingAborted, .rc .pairMirOvf, .rc .perfTagDrop] ps = true) : Touches ps s (State.admNext s a1 a2) := by
  unfold State.admNext
  try extract_lets -merge -underBinder t0
  with_reducible refine Touches.ite ?_ ?_
  ·
    with_reducible refine Touches.set_sw ?_ ?_
    on_goal 2 => exact Part.within_mem rfl hw
    with_reducible exact Touches.refl _ _
  ·
    with_reducible refine Touches.step ?_ (State.admRun_touches _ _ ?_)
    on_goal 2 => exact Part.within_trans rfl hw
    with_reducible exact Touches.refl _ _

theorem State.flowNext_touches {ps : List Part} s a1 a2 (hw : Part.within [.keys, .regs, .evt, .hif, .index, .objs, .sw, .fab, .bpm, .fdb, .free, .eng, .pair, .boot, .rc .bpmDoubleFreeCnt, .rc .bpmForeignFreeCnt, .rc .bpmPoolEmptyCnt, .rc .bpmPromoteCnt, .rc .evtPinStat, .rc .evtSuppressed, .rc .hifEvtLost, .rc .hifRingAborted, .rc .pairMirOvf, .rc .perfTagDrop] ps = true) : Touches ps s (State.flowNext s a1 a2) := by
  unfold State.flowNext
  try extract_lets -merge -underBinder t0
  try clear_value t0
  with_reducible refine Touches.ite ?_ ?_
  ·
    with_reducible refine Touches.step ?_ (State.admNext_touches _ _ _ ?_)
    on_goal 2 => exact Part.within_trans rfl hw
    with_reducible exact Touches.refl _ _
  ·
    with_reducible refine Touches.step ?_ (State.admRun_touches _ _ ?_)
    on_goal 2 => exact Part.within_trans rfl hw
    with_reducible exact Touches.refl _ _

theorem State.startCmd_touches {ps : List Part} (s : State) (d : CmdDesc) (hw : Part.within [.hif, .rc .hifRingAborted] ps = true) :
    Touches ps s (s.startCmd d) := by
  unfold State.startCmd
  split
  · extract_lets r i s1
    have h1 : Touches ps s s1 := State.setRing_touches _ _ _ (Part.within_trans rfl hw)
    exact (Touches.set_hif h1 (Part.within_mem rfl hw)).step (State.unlistedGo_touches _ _ _ (Part.within_trans rfl hw))
  · exact Touches.refl _ _

theorem State.flowTake_touches {ps : List Part} s a1 a2 a3 (hw : Part.within [.keys, .regs, .evt, .hif, .index, .objs, .sw, .fab, .bpm, .fdb, .free, .eng, .pair, .boot, .rc .bpmDoubleFreeCnt, .rc .bpmForeignFreeCnt, .rc .bpmPoolEmptyCnt, .rc .bpmPromoteCnt, .rc .evtPinStat, .rc .evtSuppressed, .rc .hifEvtLost, .rc .hifRingAborted, .rc .pairMirOvf, .rc .perfTagDrop] ps = true) : Touches ps s (State.flowTake s a1 a2 a3) := by
  unfold State.flowTake
  with_reducible refine Touches.ite ?_ ?_
  ·
    with_reducible exact Touches.refl _ _
  ·
    with_reducible refine Touches.step ?_ (State.flowNext_touches _ _ _ ?_)
    on_goal 2 => exact Part.within_trans rfl hw
    with_reducible refine Touches.step ?_ (State.startCmd_touches _ _ ?_)
    on_goal 2 => exact Part.within_trans rfl hw
    with_reducible exact Touches.refl _ _

theorem State.runNamed_touches {ps : List Part} (s : State) (again : Bool) (t : ObjType) (v : Nat) (d : CmdDesc) (o : Nat) (c : Checks)
    (f : State → State) (hw : Part.within [.keys, .hif, .objs, .boot, .rc .hifRingAborted] ps = true) (h : ∀ t, Touches ps t (f t)) :
    Touches ps s (s.runNamed again t v d o c f) := by
  unfold State.runNamed
  refine Touches.ite (State.namedGo_touches _ _ _ _ _ _ _ (Part.within_trans rfl hw) h) (Touches.ite (Touches.refl _ _) ?_)
  exact (State.startCmd_touches _ _ (Part.within_trans rfl hw)).step (State.namedGo_touches _ _ _ _ _ _ _ (Part.within_trans rfl hw) h)

theorem State.calRelease_touches {ps : List Part} s a1 a2 (hw : Part.within [.tic] ps = true) : Touches ps s (State.calRelease s a1 a2) := by
  unfold State.calRelease
  try extract_lets -merge -underBinder t0 t1
  with_reducible refine Touches.ite ?_ ?_
  ·
    with_reducible refine Touches.set_tic ?_ ?_
    on_goal 2 => exact Part.within_mem rfl hw
    with_reducible exact Touches.refl _ _
  ·
    with_reducible exact Touches.refl _ _

theorem State.calFinish_touches {ps : List Part} s a1 a2 a3 (hw : Part.within [.evt, .hif, .tic, .cal, .rc .calAbortCnt, .rc .evtPinStat, .rc .evtSuppressed, .rc .hifEvtLost] ps = true) : Touches ps s (State.calFinish s a1 a2 a3) := by
  unfold State.calFinish
  try extract_lets -merge -underBinder t0 t1 t2 t3
  try clear_value t0
  refine Touches.haveS (t := t2) ?_ (fun ht2 => ?_)
  ·
    unfold t2
    with_reducible refine Touches.set_cal ?_ ?_
    on_goal 2 => exact Part.within_mem rfl hw
    with_reducible exact Touches.refl _ _
  try clear_value t2
  refine Touches.haveS (t := t3) ?_ (fun ht3 => ?_)
  ·
    unfold t3
    with_reducible refine Touches.ite ?_ ?_
    ·
      with_reducible refine Touches.step ?_ (State.bump_touches _ _ _ _ ?_)
      on_goal 2 => exact Part.within_trans rfl hw
      with_reducible exact ht2
    ·
      with_reducible exact ht2
  try clear_value t3
  with_reducible refine Touches.step ?_ (State.calRelease_touches _ _ _ ?_)
  on_goal 2 => exact Part.within_trans rfl hw
  with_reducible refine Touches.step ?_ (State.raise_touches _ _ _ _ _ ?_)
  on_goal 2 => exact Part.within_trans rfl hw
  with_reducible exact ht3

theorem State.calCheckLost_touches {ps : List Part} s a1 (hw : Part.within [.evt, .hif, .tic, .cal, .rc .calAbortCnt, .rc .evtPinStat, .rc .evtSuppressed, .rc .hifEvtLost] ps = true) : Touches ps s (State.calCheckLost s a1) := by
  unfold State.calCheckLost
  with_reducible refine Touches.ite ?_ ?_
  ·
    with_reducible refine Touches.step ?_ (State.calFinish_touches _ _ _ _ ?_)
    on_goal 2 => exact Part.within_trans rfl hw
    with_reducible exact Touches.refl _ _
  ·
    with_reducible exact Touches.refl _ _

theorem State.setPair_touches {ps : List Part} s a1 a2 (hw : Part.within [.lnk] ps = true) : Touches ps s (State.setPair s a1 a2) := by
  unfold State.setPair
  try extract_lets -merge -underBinder t0
  with_reducible refine Touches.set_lnk ?_ ?_
  on_goal 2 => exact Part.within_mem rfl hw
  with_reducible exact Touches.refl _ _

theorem State.pairEval_touches {ps : List Part} s a1 a2 (hw : Part.within [.evt, .hif, .lnk, .rc .evtPinStat, .rc .evtSuppressed, .rc .hifEvtLost] ps = true) : Touches ps s (State.pairEval s a1 a2) := by
  unfold State.pairEval
  try extract_lets -merge -underBinder t0 t1 t2 t3 t4
  try clear_value t0
  try clear_value t1
  try clear_value t2
  refine Touches.haveS (t := t4) ?_ (fun ht4 => ?_)
  ·
    unfold t4
    with_reducible refine Touches.set_lnk ?_ ?_
    on_goal 2 => exact Part.within_mem rfl hw
    with_reducible exact Touches.refl _ _
  try clear_value t4
  with_reducible refine Touches.ite ?_ ?_
  ·
    with_reducible refine Touches.ite ?_ ?_
    ·
      with_reducible exact Touches.refl _ _
    ·
      with_reducible refine Touches.step ?_ (State.setPair_touches _ _ _ ?_)
      on_goal 2 => exact Part.within_trans rfl hw
      with_reducible exact Touches.refl _ _
  ·
    with_reducible refine Touches.step ?_ (State.raiseIf_touches _ _ _ _ _ _ ?_)
    on_goal 2 => exact Part.within_trans rfl hw
    with_reducible exact ht4

theorem State.planBEval_touches {ps : List Part} s a1 (hw : Part.within [.evt, .hif, .rc .evtPinStat, .rc .evtSuppressed, .rc .hifEvtLost] ps = true) : Touches ps s (State.planBEval s a1) := by
  unfold State.planBEval
  try extract_lets -merge -underBinder t0
  try clear_value t0
  with_reducible refine Touches.step ?_ (State.raiseIf_touches _ _ _ _ _ _ ?_)
  on_goal 2 => exact Part.within_trans rfl hw
  with_reducible exact Touches.refl _ _

theorem State.pairsEval_touches {ps : List Part} s a1 (hw : Part.within [.evt, .hif, .lnk, .rc .evtPinStat, .rc .evtSuppressed, .rc .hifEvtLost] ps = true) : Touches ps s (State.pairsEval s a1) := by
  unfold State.pairsEval
  try extract_lets -merge -underBinder t0
  refine Touches.haveS (t := t0) ?_ (fun ht0 => ?_)
  ·
    unfold t0
    with_reducible refine Touches.foldl (fun _ _ => ?_) _ ?_
    ·
      with_reducible refine Touches.step ?_ (State.pairEval_touches _ _ _ ?_)
      on_goal 2 => exact Part.within_trans rfl hw
      with_reducible exact Touches.refl _ _
    ·
      with_reducible exact Touches.refl _ _
  try clear_value t0
  with_reducible refine Touches.ite ?_ ?_
  ·
    with_reducible refine Touches.foldl (fun _ _ => ?_) _ ?_
    ·
      with_reducible refine Touches.step ?_ (State.planBEval_touches _ _ ?_)
      on_goal 2 => exact Part.within_trans rfl hw
      with_reducible exact Touches.refl _ _
    ·
      with_reducible exact ht0
  ·
    with_reducible exact ht0

theorem State.setLnk_touches {ps : List Part} s a1 a2 (hw : Part.within [.lnk] ps = true) : Touches ps s (State.setLnk s a1 a2) := by
  unfold State.setLnk
  try extract_lets -merge -underBinder t0
  with_reducible refine Touches.set_lnk ?_ ?_
  on_goal 2 => exact Part.within_mem rfl hw
  with_reducible exact Touches.refl _ _

theorem State.calLose_touches {ps : List Part} s a1 (hw : Part.within [.evt, .hif, .tic, .cal, .rc .calAbortCnt, .rc .evtPinStat, .rc .evtSuppressed, .rc .hifEvtLost] ps = true) : Touches ps s (State.calLose s a1) := by
  unfold State.calLose
  with_reducible refine Touches.foldl (fun _ _ => ?_) _ ?_
  ·
    with_reducible refine Touches.step ?_ (State.calFinish_touches _ _ _ _ ?_)
    on_goal 2 => exact Part.within_trans rfl hw
    with_reducible exact Touches.refl _ _
  ·
    with_reducible exact Touches.refl _ _

theorem State.pairHold_touches {ps : List Part} s a1 (hw : Part.within [.evt, .hif, .lnk, .tic, .cal, .rc .calAbortCnt, .rc .evtPinStat, .rc .evtSuppressed, .rc .hifEvtLost] ps = true) : Touches ps s (State.pairHold s a1) := by
  unfold State.pairHold
  try extract_lets -merge -underBinder t0 t1 t2 t3
  try clear_value t0
  refine Touches.haveS (t := t1) ?_ (fun ht1 => ?_)
  ·
    unfold t1
    with_reducible refine Touches.step ?_ (State.calLose_touches _ _ ?_)
    on_goal 2 => exact Part.within_trans rfl hw
    with_reducible exact Touches.refl _ _
  try clear_value t1
  refine Touches.haveS (t := t2) ?_ (fun ht2 => ?_)
  ·
    unfold t2
    with_reducible refine Touches.step ?_ (State.raise_touches _ _ _ _ _ ?_)
    on_goal 2 => exact Part.within_trans rfl hw
    with_reducible refine Touches.step ?_ (State.setPair_touches _ _ _ ?_)
    on_goal 2 => exact Part.within_trans rfl hw
    with_reducible exact ht1
  try clear_value t2
  with_reducible refine Touches.ite ?_ ?_
  ·
    with_reducible exact Touches.refl _ _
  ·
    with_reducible refine Touches.ite ?_ ?_
    ·
      with_reducible refine Touches.step ?_ (State.raise_touches _ _ _ _ _ ?_)
      on_goal 2 => exact Part.within_trans rfl hw
      with_reducible refine Touches.step ?_ (State.setPair_touches _ _ _ ?_)
      on_goal 2 => exact Part.within_trans rfl hw
      with_reducible exact ht2
    ·
      with_reducible exact ht2

theorem State.lnkGo_touches {ps : List Part} s a1 a2 a3 (hw : Part.within [.evt, .hif, .lnk, .tic, .cal, .rc .calAbortCnt, .rc .evtPinStat, .rc .evtSuppressed, .rc .hifEvtLost] ps = true) : Touches ps s (State.lnkGo s a1 a2 a3) := by
  unfold State.lnkGo
  try extract_lets -merge -underBinder t0 t1 t2
  try clear_value t0
  try clear_value t1
  refine Touches.haveS (t := t2) ?_ (fun ht2 => ?_)
  ·
    unfold t2
    with_reducible refine Touches.step ?_ (State.raiseIf_touches _ _ _ _ _ _ ?_)
    on_goal 2 => exact Part.within_trans rfl hw
    with_reducible refine Touches.step ?_ (State.setLnk_touches _ _ _ ?_)
    on_goal 2 => exact Part.within_trans rfl hw
    with_reducible exact Touches.refl _ _
  try clear_value t2
  with_reducible refine Touches.ite ?_ ?_
  ·
    split
    ·
      with_reducible refine Touches.step ?_ (State.pairHold_touches _ _ ?_)
      on_goal 2 => exact Part.within_trans rfl hw
      with_reducible exact ht2
    ·
      with_reducible exact ht2
  ·
    with_reducible exact ht2

theorem State.lnkEval_touches {ps : List Part} s a1 (hw : Part.within [.evt, .hif, .lnk, .tic, .cal, .rc .calAbortCnt, .rc .evtPinStat, .rc .evtSuppressed, .rc .hifEvtLost] ps = true) : Touches ps s (State.lnkEval s a1) := by
  unfold State.lnkEval
  try extract_lets -merge -underBinder t0 t1
  try clear_value t0
  try clear_value t1
  with_reducible refine Touches.ite ?_ ?_
  ·
    with_reducible refine Touches.ite ?_ ?_
    ·
      with_reducible refine Touches.step ?_ (State.setLnk_touches _ _ _ ?_)
      on_goal 2 => exact Part.within_trans rfl hw
      with_reducible exact Touches.refl _ _
    ·
      with_reducible refine Touches.step ?_ (State.lnkGo_touches _ _ _ _ ?_)
      on_goal 2 => exact Part.within_trans rfl hw
      with_reducible refine Touches.step ?_ (State.setLnk_touches _ _ _ ?_)
      on_goal 2 => exact Part.within_trans rfl hw
      with_reducible exact Touches.refl _ _
  ·
    with_reducible refine Touches.ite ?_ ?_
    ·
      with_reducible refine Touches.step ?_ (State.lnkGo_touches _ _ _ _ ?_)
      on_goal 2 => exact Part.within_trans rfl hw
      with_reducible exact Touches.refl _ _
    ·
      with_reducible refine Touches.ite ?_ ?_
      ·
        with_reducible refine Touches.step ?_ (State.lnkGo_touches _ _ _ _ ?_)
        on_goal 2 => exact Part.within_trans rfl hw
        with_reducible exact Touches.refl _ _
      ·
        with_reducible exact Touches.refl _ _

theorem State.chansChanged_touches {ps : List Part} s a1 (hw : Part.within [.evt, .hif, .lnk, .tic, .cal, .rc .calAbortCnt, .rc .evtPinStat, .rc .evtSuppressed, .rc .hifEvtLost] ps = true) : Touches ps s (State.chansChanged s a1) := by
  unfold State.chansChanged
  with_reducible refine Touches.step ?_ (State.pairsEval_touches _ _ ?_)
  on_goal 2 => exact Part.within_trans rfl hw
  with_reducible refine Touches.step ?_ (State.lnkEval_touches _ _ ?_)
  on_goal 2 => exact Part.within_trans rfl hw
  with_reducible exact Touches.refl _ _

theorem State.setTchan_touches {ps : List Part} s a1 a2 (hw : Part.within [.tchans] ps = true) : Touches ps s (State.setTchan s a1 a2) := by
  unfold State.setTchan
  with_reducible refine Touches.set_tchans ?_ ?_
  on_goal 2 => exact Part.within_mem rfl hw
  with_reducible exact Touches.refl _ _

theorem State.timeStateOut_touches {ps : List Part} s (hw : Part.within [.evt, .hif, .pair, .rc .evtPinStat, .rc .evtSuppressed, .rc .hifEvtLost, .rc .pairMirOvf] ps = true) : Touches ps s (State.timeStateOut s) := by
  unfold State.timeStateOut
  try extract_lets -merge -underBinder t0 t1
  try clear_value t0
  with_reducible refine Touches.ite ?_ ?_
  ·
    with_reducible exact Touches.refl _ _
  ·
    with_reducible refine Touches.step ?_ (State.pairDelta_touches _ _ ?_)
    on_goal 2 => exact Part.within_trans rfl hw
    with_reducible refine Touches.set_pair ?_ ?_
    on_goal 2 => exact Part.within_mem rfl hw
    with_reducible exact Touches.refl _ _

theorem State.cycFold_touches {ps : List Part} s (hw : Part.within [.eng] ps = true) : Touches ps s (State.cycFold s) := by
  unfold State.cycFold
  try extract_lets -merge -underBinder t0
  with_reducible refine Touches.setEng ?_ ?_ ?_
  on_goal 2 => exact Part.within_mem rfl hw
  on_goal 2 => rfl
  with_reducible exact Touches.refl _ _

theorem State.setPll_touches {ps : List Part} s a1 a2 (hw : Part.within [.pll] ps = true) : Touches ps s (State.setPll s a1 a2) := by
  unfold State.setPll
  try extract_lets -merge -underBinder t0
  with_reducible refine Touches.set_pll ?_ ?_
  on_goal 2 => exact Part.within_mem rfl hw
  with_reducible exact Touches.refl _ _

theorem State.goPll_touches {ps : List Part} s a1 a2 (hw : Part.within [.evt, .hif, .pll, .rc .evtPinStat, .rc .evtSuppressed, .rc .hifEvtLost] ps = true) : Touches ps s (State.goPll s a1 a2) := by
  unfold State.goPll
  try extract_lets -merge -underBinder t0
  try clear_value t0
  with_reducible refine Touches.step ?_ (State.raiseIf_touches _ _ _ _ _ _ ?_)
  on_goal 2 => exact Part.within_trans rfl hw
  with_reducible refine Touches.step ?_ (State.setPll_touches _ _ _ ?_)
  on_goal 2 => exact Part.within_trans rfl hw
  with_reducible exact Touches.refl _ _

theorem State.pllToBypass_touches {ps : List Part} s a1 a2 a3 (hw : Part.within [.evt, .hif, .pll, .eng, .rc .evtPinStat, .rc .evtSuppressed, .rc .hifEvtLost, .rc .pllCnt] ps = true) : Touches ps s (State.pllToBypass s a1 a2 a3) := by
  unfold State.pllToBypass
  try extract_lets -merge -underBinder t0 t1 t2 t3
  refine Touches.haveS (t := t0) ?_ (fun ht0 => ?_)
  ·
    unfold t0
    with_reducible refine Touches.ite ?_ ?_
    ·
      with_reducible refine Touches.step ?_ (State.cycFold_touches _ ?_)
      on_goal 2 => exact Part.within_trans rfl hw
      with_reducible exact Touches.refl _ _
    ·
      with_reducible exact Touches.refl _ _
  try clear_value t0
  try clear_value t1
  refine Touches.haveS (t := t2) ?_ (fun ht2 => ?_)
  ·
    unfold t2
    with_reducible refine Touches.step ?_ (State.setPll_touches _ _ _ ?_)
    on_goal 2 => exact Part.within_trans rfl hw
    with_reducible exact ht0
  try clear_value t2
  refine Touches.haveS (t := t3) ?_ (fun ht3 => ?_)
  ·
    unfold t3
    with_reducible refine Touches.step ?_ (State.bump_touches _ _ _ _ ?_)
    on_goal 2 => exact Part.within_trans rfl hw
    with_reducible refine Touches.step ?_ (State.bump_touches _ _ _ _ ?_)
    on_goal 2 => exact Part.within_trans rfl hw
    with_reducible exact ht2
  try clear_value t3
  with_reducible refine Touches.step ?_ (State.raise_touches _ _ _ _ _ ?_)
  on_goal 2 => exact Part.within_trans rfl hw
  with_reducible refine Touches.step ?_ (State.goPll_touches _ _ _ ?_)
  on_goal 2 => exact Part.within_trans rfl hw
  with_reducible exact ht3

theorem State.pllInputLost_touches {ps : List Part} s a1 (hw : Part.within [.evt, .hif, .pll, .eng, .rc .evtPinStat, .rc .evtSuppressed, .rc .hifEvtLost, .rc .pllCnt] ps = true) : Touches ps s (State.pllInputLost s a1) := by
  unfold State.pllInputLost
  with_reducible refine Touches.foldl (fun _ _ => ?_) _ ?_
  ·
    try extract_lets -merge -underBinder t0
    try clear_value t0
    with_reducible refine Touches.ite ?_ ?_
    ·
      with_reducible exact Touches.refl _ _
    ·
      with_reducible refine Touches.ite ?_ ?_
      ·
        with_reducible refine Touches.step ?_ (State.pllToBypass_touches _ _ _ _ ?_)
        on_goal 2 => exact Part.within_trans rfl hw
        with_reducible exact Touches.refl _ _
      ·
        with_reducible refine Touches.ite ?_ ?_
        ·
          with_reducible refine Touches.step ?_ (State.setPll_touches _ _ _ ?_)
          on_goal 2 => exact Part.within_trans rfl hw
          with_reducible exact Touches.refl _ _
        ·
          with_reducible exact Touches.refl _ _
  ·
    with_reducible exact Touches.refl _ _

theorem State.setCandSt_touches {ps : List Part} s a1 a2 a3 (hw : Part.within [.evt, .hif, .ref, .pll, .eng, .rc .evtPinStat, .rc .evtSuppressed, .rc .hifEvtLost, .rc .pllCnt] ps = true) : Touches ps s (State.setCandSt s a1 a2 a3) := by
  unfold State.setCandSt
  try extract_lets -merge -underBinder t0 t1 t2 t3 t4
  try clear_value t0
  try clear_value t1
  refine Touches.haveS (t := t2) ?_ (fun ht2 => ?_)
  ·
    unfold t2
    with_reducible refine Touches.step ?_ (State.raiseIf_touches _ _ _ _ _ _ ?_)
    on_goal 2 => exact Part.within_trans rfl hw
    with_reducible exact Touches.refl _ _
  try clear_value t2
  refine Touches.haveS (t := t4) ?_ (fun ht4 => ?_)
  ·
    unfold t4
    with_reducible refine Touches.set_ref ?_ ?_
    on_goal 2 => exact Part.within_mem rfl hw
    with_reducible exact ht2
  try clear_value t4
  with_reducible refine Touches.ite ?_ ?_
  ·
    with_reducible refine Touches.step ?_ (State.pllInputLost_touches _ _ ?_)
    on_goal 2 => exact Part.within_trans rfl hw
    with_reducible exact ht4
  ·
    with_reducible exact ht4

theorem State.setChanSt_touches {ps : List Part} s a1 a2 (hw : Part.within [.evt, .hif, .tchans, .rc .evtPinStat, .rc .evtSuppressed, .rc .hifEvtLost] ps = true) : Touches ps s (State.setChanSt s a1 a2) := by
  unfold State.setChanSt
  try extract_lets -merge -underBinder t0 t1 t2
  try clear_value t0
  try clear_value t1
  refine Touches.haveS (t := t2) ?_ (fun ht2 => ?_)
  ·
    unfold t2
    with_reducible refine Touches.step ?_ (State.raiseIf_touches _ _ _ _ _ _ ?_)
    on_goal 2 => exact Part.within_trans rfl hw
    with_reducible exact Touches.refl _ _
  try clear_value t2
  with_reducible refine Touches.set_tchans ?_ ?_
  on_goal 2 => exact Part.within_mem rfl hw
  with_reducible exact ht2

theorem State.markSel_touches {ps : List Part} s a1 a2 (hw : Part.within [.evt, .hif, .tchans, .ref, .pll, .eng, .rc .evtPinStat, .rc .evtSuppressed, .rc .hifEvtLost, .rc .pllCnt] ps = true) : Touches ps s (State.markSel s a1 a2) := by
  unfold State.markSel
  split
  ·
    with_reducible exact Touches.refl _ _
  ·
    try extract_lets -merge -underBinder t0 t1 t2
    try clear_value t0
    refine Touches.haveS (t := t1) ?_ (fun ht1 => ?_)
    ·
      unfold t1
      with_reducible refine Touches.step ?_ (State.setCandSt_touches _ _ _ _ ?_)
      on_goal 2 => exact Part.within_trans rfl hw
      with_reducible exact Touches.refl _ _
    try clear_value t1
    refine Touches.haveS (t := t2) ?_ (fun ht2 => ?_)
    ·
      unfold t2
      with_reducible refine Touches.ite ?_ ?_
      ·
        with_reducible refine Touches.step ?_ (State.setCandSt_touches _ _ _ _ ?_)
        on_goal 2 => exact Part.within_trans rfl hw
        with_reducible exact Touches.refl _ _
      ·
        with_reducible refine Touches.ite ?_ ?_
        ·
          with_reducible refine Touches.step ?_ (State.setCandSt_touches _ _ _ _ ?_)
          on_goal 2 => exact Part.within_trans rfl hw
          with_reducible exact Touches.refl _ _
        ·
          with_reducible exact Touches.refl _ _
    try clear_value t2
    with_reducible refine Touches.ite ?_ ?_
    ·
      with_reducible refine Touches.ite ?_ ?_
      ·
        with_reducible refine Touches.step ?_ (State.setChanSt_touches _ _ _ ?_)
        on_goal 2 => exact Part.within_trans rfl hw
        with_reducible exact ht1
      ·
        with_reducible exact ht1
    ·
      with_reducible refine Touches.ite ?_ ?_
      ·
        with_reducible refine Touches.step ?_ (State.setChanSt_touches _ _ _ ?_)
        on_goal 2 => exact Part.within_trans rfl hw
        with_reducible exact ht2
      ·
        with_reducible exact ht2

theorem State.setRate_touches {ps : List Part} s a1 (hw : Part.within [.clk] ps = true) : Touches ps s (State.setRate s a1) := by
  unfold State.setRate
  try extract_lets -merge -underBinder t0
  with_reducible refine Touches.set_clk ?_ ?_
  on_goal 2 => exact Part.within_mem rfl hw
  with_reducible exact Touches.refl _ _

theorem State.freerunRate_touches {ps : List Part} s (hw : Part.within [.clk] ps = true) : Touches ps s (State.freerunRate s) := by
  unfold State.freerunRate
  with_reducible refine Touches.ite ?_ ?_
  ·
    with_reducible refine Touches.step ?_ (State.setRate_touches _ _ ?_)
    on_goal 2 => exact Part.within_trans rfl hw
    with_reducible exact Touches.refl _ _
  ·
    with_reducible exact Touches.refl _ _

theorem State.setQuality_touches {ps : List Part} s a1 (hw : Part.within [.evt, .hif, .tcore, .rc .evtPinStat, .rc .evtSuppressed, .rc .hifEvtLost] ps = true) : Touches ps s (State.setQuality s a1) := by
  unfold State.setQuality
  try extract_lets -merge -underBinder t0 t1
  refine Touches.haveS (t := t0) ?_ (fun ht0 => ?_)
  ·
    unfold t0
    with_reducible refine Touches.step ?_ (State.raiseIf_touches _ _ _ _ _ _ ?_)
    on_goal 2 => exact Part.within_trans rfl hw
    with_reducible exact Touches.refl _ _
  try clear_value t0
  with_reducible refine Touches.set_tcore ?_ ?_
  on_goal 2 => exact Part.within_mem rfl hw
  with_reducible exact ht0

theorem State.updateClass_touches {ps : List Part} s (hw : Part.within [.evt, .hif, .tcore, .pair, .rc .evtPinStat, .rc .evtSuppressed, .rc .hifEvtLost, .rc .pairMirOvf] ps = true) : Touches ps s (State.updateClass s) := by
  unfold State.updateClass
  with_reducible refine Touches.ite ?_ ?_
  ·
    with_reducible exact Touches.refl _ _
  ·
    with_reducible refine Touches.step ?_ (State.timeStateOut_touches _ ?_)
    on_goal 2 => exact Part.within_trans rfl hw
    with_reducible refine Touches.step ?_ (State.setQuality_touches _ _ ?_)
    on_goal 2 => exact Part.within_trans rfl hw
    with_reducible exact Touches.refl _ _

theorem State.selectF_touches {ps : List Part} s a1 (hw : Part.within [.clk, .evt, .hif, .tcore, .tchans, .ref, .pll, .eng, .pair, .rc .evtPinStat, .rc .evtSuppressed, .rc .hifEvtLost, .rc .pairMirOvf, .rc .pllCnt] ps = true) : Touches ps s (State.selectF s a1) := by
  unfold State.selectF
  try extract_lets -merge -underBinder t0 t1 t2 t3 t4
  try clear_value t0
  refine Touches.haveS (t := t1) ?_ (fun ht1 => ?_)
  ·
    unfold t1
    with_reducible refine Touches.step ?_ (State.markSel_touches _ _ _ ?_)
    on_goal 2 => exact Part.within_trans rfl hw
    with_reducible exact Touches.refl _ _
  try clear_value t1
  refine Touches.haveS (t := t3) ?_ (fun ht3 => ?_)
  ·
    unfold t3
    with_reducible refine Touches.set_ref ?_ ?_
    on_goal 2 => exact Part.within_mem rfl hw
    with_reducible exact ht1
  try clear_value t3
  refine Touches.haveS (t := t4) ?_ (fun ht4 => ?_)
  ·
    unfold t4
    with_reducible refine Touches.step ?_ (State.markSel_touches _ _ _ ?_)
    on_goal 2 => exact Part.within_trans rfl hw
    with_reducible exact ht3
  try clear_value t4
  with_reducible refine Touches.step ?_ (State.freerunRate_touches _ ?_)
  on_goal 2 => exact Part.within_trans rfl hw
  with_reducible refine Touches.step ?_ (State.updateClass_touches _ ?_)
  on_goal 2 => exact Part.within_trans rfl hw
  with_reducible refine Touches.step ?_ (State.raise_touches _ _ _ _ _ ?_)
  on_goal 2 => exact Part.within_trans rfl hw
  with_reducible exact ht4

theorem State.selectT_touches {ps : List Part} s a1 (hw : Part.within [.evt, .hif, .tcore, .tchans, .ref, .pll, .eng, .pair, .rc .evtPinStat, .rc .evtSuppressed, .rc .hifEvtLost, .rc .pairMirOvf, .rc .pllCnt] ps = true) : Touches ps s (State.selectT s a1) := by
  unfold State.selectT
  try extract_lets -merge -underBinder t0 t1 t2 t3 t4
  try clear_value t0
  refine Touches.haveS (t := t1) ?_ (fun ht1 => ?_)
  ·
    unfold t1
    with_reducible refine Touches.step ?_ (State.markSel_touches _ _ _ ?_)
    on_goal 2 => exact Part.within_trans rfl hw
    with_reducible exact Touches.refl _ _
  try clear_value t1
  refine Touches.haveS (t := t3) ?_ (fun ht3 => ?_)
  ·
    unfold t3
    with_reducible refine Touches.set_ref ?_ ?_
    on_goal 2 => exact Part.within_mem rfl hw
    with_reducible exact ht1
  try clear_value t3
  refine Touches.haveS (t := t4) ?_ (fun ht4 => ?_)
  ·
    unfold t4
    with_reducible refine Touches.step ?_ (State.markSel_touches _ _ _ ?_)
    on_goal 2 => exact Part.within_trans rfl hw
    with_reducible exact ht3
  try clear_value t4
  with_reducible refine Touches.step ?_ (State.updateClass_touches _ ?_)
  on_goal 2 => exact Part.within_trans rfl hw
  with_reducible refine Touches.step ?_ (State.raise_touches _ _ _ _ _ ?_)
  on_goal 2 => exact Part.within_trans rfl hw
  with_reducible exact ht4

theorem State.startWake_touches {ps : List Part} s a1 a2 (hw : Part.within [.evt, .hif, .pwr, .rc .evtPinStat, .rc .evtSuppressed, .rc .hifEvtLost] ps = true) : Touches ps s (State.startWake s a1 a2) := by
  unfold State.startWake
  try extract_lets -merge -underBinder t0
  with_reducible refine Touches.step ?_ (State.raiseIf_touches _ _ _ _ _ _ ?_)
  on_goal 2 => exact Part.within_trans rfl hw
  with_reducible refine Touches.set_pwr ?_ ?_
  on_goal 2 => exact Part.within_mem rfl hw
  with_reducible exact Touches.refl _ _

theorem State.pendRequest_touches {ps : List Part} s a1 (hw : Part.within [.evt, .hif, .pwr, .rc .evtPinStat, .rc .evtSuppressed, .rc .hifEvtLost] ps = true) : Touches ps s (State.pendRequest s a1) := by
  unfold State.pendRequest
  try extract_lets -merge -underBinder t0 t1
  refine Touches.haveS (t := t0) ?_ (fun ht0 => ?_)
  ·
    unfold t0
    with_reducible refine Touches.step ?_ (State.raiseIf_touches _ _ _ _ _ _ ?_)
    on_goal 2 => exact Part.within_trans rfl hw
    with_reducible exact Touches.refl _ _
  try clear_value t0
  with_reducible refine Touches.set_pwr ?_ ?_
  on_goal 2 => exact Part.within_mem rfl hw
  with_reducible exact ht0

theorem State.wakeEvent_touches {ps : List Part} s a1 (hw : Part.within [.evt, .hif, .pwr, .rc .evtPinStat, .rc .evtSuppressed, .rc .hifEvtLost, .rc .pwrWakeSrc] ps = true) : Touches ps s (State.wakeEvent s a1) := by
  unfold State.wakeEvent
  try extract_lets -merge -underBinder t0
  refine Touches.haveS (t := t0) ?_ (fun ht0 => ?_)
  ·
    unfold t0
    with_reducible refine Touches.step ?_ (State.rcSet_touches _ _ _ _ ?_)
    on_goal 2 => exact Part.within_trans rfl hw
    with_reducible exact Touches.refl _ _
  try clear_value t0
  with_reducible refine Touches.ite ?_ ?_
  ·
    with_reducible exact Touches.refl _ _
  ·
    split
    ·
      with_reducible refine Touches.ite ?_ ?_
      ·
        with_reducible refine Touches.step ?_ (State.startWake_touches _ _ _ ?_)
        on_goal 2 => exact Part.within_trans rfl hw
        with_reducible exact ht0
      ·
        with_reducible refine Touches.ite ?_ ?_
        ·
          with_reducible refine Touches.step ?_ (State.startWake_touches _ _ _ ?_)
          on_goal 2 => exact Part.within_trans rfl hw
          with_reducible refine Touches.step ?_ (State.pendRequest_touches _ _ ?_)
          on_goal 2 => exact Part.within_trans rfl hw
          with_reducible exact ht0
        ·
          with_reducible exact ht0
    ·
      try extract_lets -merge -underBinder t1 t2
      refine Touches.haveS (t := t1) ?_ (fun ht1 => ?_)
      ·
        unfold t1
        with_reducible refine Touches.step ?_ (State.raiseIf_touches _ _ _ _ _ _ ?_)
        on_goal 2 => exact Part.within_trans rfl hw
        with_reducible exact ht0
      try clear_value t1
      with_reducible refine Touches.ite ?_ ?_
      ·
        with_reducible refine Touches.step ?_ (State.pendRequest_touches _ _ ?_)
        on_goal 2 => exact Part.within_trans rfl hw
        with_reducible exact ht0
      ·
        with_reducible refine Touches.set_pwr ?_ ?_
        on_goal 2 => exact Part.within_mem rfl hw
        with_reducible exact ht1
    ·
      with_reducible refine Touches.step ?_ (State.pendRequest_touches _ _ ?_)
      on_goal 2 => exact Part.within_trans rfl hw
      with_reducible exact ht0

theorem State.setTstate_touches {ps : List Part} s a1 a2 (hw : Part.within [.clk, .evt, .hif, .tcore, .ref, .pair, .pwr, .rc .evtPinStat, .rc .evtSuppressed, .rc .hifEvtLost, .rc .pairMirOvf, .rc .pwrWakeSrc] ps = true) : Touches ps s (State.setTstate s a1 a2) := by
  unfold State.setTstate
  try extract_lets -merge -underBinder t0 t1 t2 t3 t4
  refine Touches.haveS (t := t0) ?_ (fun ht0 => ?_)
  ·
    unfold t0
    with_reducible refine Touches.step ?_ (State.raise_touches _ _ _ _ _ ?_)
    on_goal 2 => exact Part.within_trans rfl hw
    with_reducible exact Touches.refl _ _
  try clear_value t0
  refine Touches.haveS (t := t3) ?_ (fun ht3 => ?_)
  ·
    unfold t3
    refine Touches.mk hw ?_
    with_reducible exact ht0
  try clear_value t3
  refine Touches.haveS (t := t4) ?_ (fun ht4 => ?_)
  ·
    unfold t4
    with_reducible refine Touches.step ?_ (State.freerunRate_touches _ ?_)
    on_goal 2 => exact Part.within_trans rfl hw
    with_reducible refine Touches.step ?_ (State.updateClass_touches _ ?_)
    on_goal 2 => exact Part.within_trans rfl hw
    with_reducible exact ht3
  try clear_value t4
  with_reducible refine Touches.ite ?_ ?_
  ·
    with_reducible exact Touches.refl _ _
  ·
    with_reducible refine Touches.ite ?_ ?_
    ·
      with_reducible refine Touches.step ?_ (State.wakeEvent_touches _ _ ?_)
      on_goal 2 => exact Part.within_trans rfl hw
      with_reducible refine Touches.step ?_ (State.raise_touches _ _ _ _ _ ?_)
      on_goal 2 => exact Part.within_trans rfl hw
      with_reducible exact ht4
    ·
      with_reducible exact ht4

theorem State.selectBias_touches {ps : List Part} s a1 a2 (hw : Part.within [.evt, .hif, .tcore, .tchans, .ref, .pll, .eng, .pair, .rc .evtPinStat, .rc .evtSuppressed, .rc .hifEvtLost, .rc .pairMirOvf, .rc .pllCnt] ps = true) : Touches ps s (State.selectBias s a1 a2) := by
  unfold State.selectBias
  try extract_lets -merge -underBinder t0 t1
  refine Touches.haveS (t := t0) ?_ (fun ht0 => ?_)
  ·
    unfold t0
    with_reducible refine Touches.step ?_ (State.selectT_touches _ _ ?_)
    on_goal 2 => exact Part.within_trans rfl hw
    with_reducible exact Touches.refl _ _
  try clear_value t0
  with_reducible refine Touches.step ?_ (State.timeStateOut_touches _ ?_)
  on_goal 2 => exact Part.within_trans rfl hw
  with_reducible refine Touches.set_ref ?_ ?_
  on_goal 2 => exact Part.within_mem rfl hw
  with_reducible exact ht0

theorem State.setStepPending_touches {ps : List Part} s a1 a2 (hw : Part.within [.evt, .hif, .ref, .pair, .rc .evtPinStat, .rc .evtSuppressed, .rc .hifEvtLost, .rc .pairMirOvf] ps = true) : Touches ps s (State.setStepPending s a1 a2) := by
  unfold State.setStepPending
  try extract_lets -merge -underBinder t0 t1
  refine Touches.haveS (t := t0) ?_ (fun ht0 => ?_)
  ·
    unfold t0
    with_reducible refine Touches.step ?_ (State.raise_touches _ _ _ _ _ ?_)
    on_goal 2 => exact Part.within_trans rfl hw
    with_reducible exact Touches.refl _ _
  try clear_value t0
  with_reducible refine Touches.step ?_ (State.timeStateOut_touches _ ?_)
  on_goal 2 => exact Part.within_trans rfl hw
  with_reducible refine Touches.set_ref ?_ ?_
  on_goal 2 => exact Part.within_mem rfl hw
  with_reducible exact ht0

theorem State.startThaw_touches {ps : List Part} s (hw : Part.within [.tcore] ps = true) : Touches ps s (State.startThaw s) := by
  unfold State.startThaw
  try extract_lets -merge -underBinder t0
  with_reducible refine Touches.set_tcore ?_ ?_
  on_goal 2 => exact Part.within_mem rfl hw
  with_reducible exact Touches.refl _ _

theorem State.takeT_touches {ps : List Part} s a1 (hw : Part.within [.clk, .evt, .hif, .tcore, .tchans, .ref, .pll, .eng, .pair, .pwr, .rc .evtPinStat, .rc .evtSuppressed, .rc .hifEvtLost, .rc .pairMirOvf, .rc .pllCnt, .rc .pwrWakeSrc] ps = true) : Touches ps s (State.takeT s a1) := by
  unfold State.takeT
  with_reducible refine Touches.ite ?_ ?_
  ·
    with_reducible refine Touches.step ?_ (State.selectT_touches _ _ ?_)
    on_goal 2 => exact Part.within_trans rfl hw
    with_reducible exact Touches.refl _ _
  ·
    split
    ·
      with_reducible refine Touches.step ?_ (State.setTstate_touches _ _ _ ?_)
      on_goal 2 => exact Part.within_trans rfl hw
      with_reducible refine Touches.step ?_ (State.selectBias_touches _ _ _ ?_)
      on_goal 2 => exact Part.within_trans rfl hw
      with_reducible exact Touches.refl _ _
    ·
      with_reducible refine Touches.step ?_ (State.selectT_touches _ _ ?_)
      on_goal 2 => exact Part.within_trans rfl hw
      with_reducible exact Touches.refl _ _
    ·
      try extract_lets -merge -underBinder t0 t1
      try clear_value t0
      refine Touches.haveS (t := t1) ?_ (fun ht1 => ?_)
      ·
        unfold t1
        with_reducible refine Touches.step ?_ (State.selectBias_touches _ _ _ ?_)
        on_goal 2 => exact Part.within_trans rfl hw
        with_reducible exact Touches.refl _ _
      try clear_value t1
      with_reducible refine Touches.ite ?_ ?_
      ·
        with_reducible refine Touches.step ?_ (State.setTstate_touches _ _ _ ?_)
        on_goal 2 => exact Part.within_trans rfl hw
        with_reducible exact ht1
      ·
        with_reducible refine Touches.step ?_ (State.setStepPending_touches _ _ _ ?_)
        on_goal 2 => exact Part.within_trans rfl hw
        with_reducible exact ht1
    ·
      try extract_lets -merge -underBinder t2 t3 t4
      try clear_value t2
      refine Touches.haveS (t := t3) ?_ (fun ht3 => ?_)
      ·
        unfold t3
        with_reducible refine Touches.step ?_ (State.startThaw_touches _ ?_)
        on_goal 2 => exact Part.within_trans rfl hw
        with_reducible refine Touches.step ?_ (State.selectBias_touches _ _ _ ?_)
        on_goal 2 => exact Part.within_trans rfl hw
        with_reducible exact Touches.refl _ _
      try clear_value t3
      with_reducible refine Touches.ite ?_ ?_
      ·
        with_reducible refine Touches.ite ?_ ?_
        ·
          with_reducible refine Touches.step ?_ (State.timeStateOut_touches _ ?_)
          on_goal 2 => exact Part.within_trans rfl hw
          with_reducible refine Touches.set_ref ?_ ?_
          on_goal 2 => exact Part.within_mem rfl hw
          with_reducible exact ht3
        ·
          with_reducible refine Touches.ite ?_ ?_
          ·
            with_reducible exact Touches.refl _ _
          ·
            with_reducible refine Touches.step ?_ (State.setStepPending_touches _ _ _ ?_)
            on_goal 2 => exact Part.within_trans rfl hw
            with_reducible exact Touches.refl _ _
      ·
        with_reducible refine Touches.step ?_ (State.selectBias_touches _ _ _ ?_)
        on_goal 2 => exact Part.within_trans rfl hw
        with_reducible exact Touches.refl _ _

theorem State.loseT_touches {ps : List Part} s (hw : Part.within [.clk, .evt, .hif, .tcore, .tchans, .ref, .pll, .eng, .pair, .pwr, .rc .evtPinStat, .rc .evtSuppressed, .rc .hifEvtLost, .rc .pairMirOvf, .rc .pllCnt, .rc .pwrWakeSrc] ps = true) : Touches ps s (State.loseT s) := by
  unfold State.loseT
  try extract_lets -merge -underBinder t0 t1 t2
  refine Touches.haveS (t := t0) ?_ (fun ht0 => ?_)
  ·
    unfold t0
    with_reducible refine Touches.step ?_ (State.selectT_touches _ _ ?_)
    on_goal 2 => exact Part.within_trans rfl hw
    with_reducible exact Touches.refl _ _
  try clear_value t0
  refine Touches.haveS (t := t2) ?_ (fun ht2 => ?_)
  ·
    unfold t2
    with_reducible refine Touches.step ?_ (State.timeStateOut_touches _ ?_)
    on_goal 2 => exact Part.within_trans rfl hw
    with_reducible refine Touches.set_ref ?_ ?_
    on_goal 2 => exact Part.within_mem rfl hw
    with_reducible exact ht0
  try clear_value t2
  split
  ·
    with_reducible exact ht2
  ·
    with_reducible exact ht2
  ·
    with_reducible refine Touches.ite ?_ ?_
    ·
      with_reducible refine Touches.step ?_ (State.setTstate_touches _ _ _ ?_)
      on_goal 2 => exact Part.within_trans rfl hw
      with_reducible exact ht2
    ·
      with_reducible refine Touches.step ?_ (State.setTstate_touches _ _ _ ?_)
      on_goal 2 => exact Part.within_trans rfl hw
      with_reducible exact ht2
  ·
    with_reducible refine Touches.step ?_ (State.setTstate_touches _ _ _ ?_)
    on_goal 2 => exact Part.within_trans rfl hw
    with_reducible exact ht2

theorem State.reselect_touches {ps : List Part} s (hw : Part.within [.clk, .evt, .hif, .tcore, .tchans, .ref, .pll, .eng, .pair, .pwr, .rc .evtPinStat, .rc .evtSuppressed, .rc .hifEvtLost, .rc .pairMirOvf, .rc .pllCnt, .rc .pwrWakeSrc] ps = true) : Touches ps s (State.reselect s) := by
  unfold State.reselect
  try extract_lets -merge -underBinder t0 t1 t2 t3
  refine Touches.haveS (t := t0) ?_ (fun ht0 => ?_)
  ·
    unfold t0
    split
    ·
      try extract_lets -merge -underBinder t4
      with_reducible refine Touches.ite ?_ ?_
      ·
        with_reducible exact Touches.refl _ _
      ·
        with_reducible refine Touches.step ?_ (State.timeStateOut_touches _ ?_)
        on_goal 2 => exact Part.within_trans rfl hw
        with_reducible refine Touches.set_ref ?_ ?_
        on_goal 2 => exact Part.within_mem rfl hw
        with_reducible exact Touches.refl _ _
    ·
      with_reducible exact Touches.refl _ _
  try clear_value t0
  try clear_value t1
  refine Touches.haveS (t := t2) ?_ (fun ht2 => ?_)
  ·
    unfold t2
    with_reducible refine Touches.ite ?_ ?_
    ·
      with_reducible exact ht0
    ·
      with_reducible refine Touches.step ?_ (State.selectF_touches _ _ ?_)
      on_goal 2 => exact Part.within_trans rfl hw
      with_reducible exact ht0
  try clear_value t2
  try clear_value t3
  with_reducible refine Touches.ite ?_ ?_
  ·
    with_reducible exact ht2
  ·
    split
    ·
      with_reducible refine Touches.step ?_ (State.takeT_touches _ _ ?_)
      on_goal 2 => exact Part.within_trans rfl hw
      with_reducible exact ht2
    ·
      with_reducible refine Touches.step ?_ (State.loseT_touches _ ?_)
      on_goal 2 => exact Part.within_trans rfl hw
      with_reducible exact ht2

theorem State.candFail_touches {ps : List Part} s a1 a2 (hw : Part.within [.clk, .evt, .hif, .tcore, .tchans, .ref, .pll, .eng, .pair, .pwr, .rc .evtPinStat, .rc .evtSuppressed, .rc .hifEvtLost, .rc .pairMirOvf, .rc .pllCnt, .rc .pwrWakeSrc] ps = true) : Touches ps s (State.candFail s a1 a2) := by
  unfold State.candFail
  try extract_lets -merge -underBinder t0 t1 t2
  try clear_value t0
  refine Touches.haveS (t := t2) ?_ (fun ht2 => ?_)
  ·
    unfold t2
    with_reducible refine Touches.set_ref ?_ ?_
    on_goal 2 => exact Part.within_mem rfl hw
    with_reducible exact Touches.refl _ _
  try clear_value t2
  split
  ·
    with_reducible refine Touches.step ?_ (State.reselect_touches _ ?_)
    on_goal 2 => exact Part.within_trans rfl hw
    with_reducible refine Touches.step ?_ (State.setCandSt_touches _ _ _ _ ?_)
    on_goal 2 => exact Part.within_trans rfl hw
    with_reducible exact ht2
  ·
    with_reducible refine Touches.step ?_ (State.reselect_touches _ ?_)
    on_goal 2 => exact Part.within_trans rfl hw
    with_reducible refine Touches.step ?_ (State.setCandSt_touches _ _ _ _ ?_)
    on_goal 2 => exact Part.within_trans rfl hw
    with_reducible exact ht2
  ·
    try extract_lets -merge -underBinder t3 t4
    refine Touches.haveS (t := t4) ?_ (fun ht4 => ?_)
    ·
      unfold t4
      with_reducible refine Touches.ite ?_ ?_
      ·
        with_reducible refine Touches.set_ref ?_ ?_
        on_goal 2 => exact Part.within_mem rfl hw
        with_reducible exact ht2
      ·
        with_reducible exact ht2
    try clear_value t4
    with_reducible refine Touches.ite ?_ ?_
    ·
      with_reducible refine Touches.step ?_ (State.reselect_touches _ ?_)
      on_goal 2 => exact Part.within_trans rfl hw
      with_reducible refine Touches.step ?_ (State.setCandSt_touches _ _ _ _ ?_)
      on_goal 2 => exact Part.within_trans rfl hw
      with_reducible exact ht4
    ·
      with_reducible refine Touches.step ?_ (State.setCandSt_touches _ _ _ _ ?_)
      on_goal 2 => exact Part.within_trans rfl hw
      with_reducible exact ht4
  ·
    with_reducible exact ht2

theorem State.chanStop_touches {ps : List Part} s a1 (hw : Part.within [.clk, .evt, .hif, .tcore, .tchans, .ref, .pll, .eng, .pair, .pwr, .rc .evtPinStat, .rc .evtSuppressed, .rc .hifEvtLost, .rc .pairMirOvf, .rc .pllCnt, .rc .pwrWakeSrc] ps = true) : Touches ps s (State.chanStop s a1) := by
  unfold State.chanStop
  try extract_lets -merge -underBinder t0
  try clear_value t0
  with_reducible refine Touches.step ?_ (State.candFail_touches _ _ _ ?_)
  on_goal 2 => exact Part.within_trans rfl hw
  with_reducible refine Touches.ite ?_ ?_
  ·
    with_reducible refine Touches.step ?_ (State.setChanSt_touches _ _ _ ?_)
    on_goal 2 => exact Part.within_trans rfl hw
    with_reducible exact Touches.refl _ _
  ·
    with_reducible exact Touches.refl _ _

theorem State.tchanAccept_touches {ps : List Part} s a1 (hw : Part.within [.clk, .evt, .hif, .tcore, .tchans, .lnk, .ref, .pll, .tic, .cal, .eng, .pair, .pwr, .rc .calAbortCnt, .rc .evtPinStat, .rc .evtSuppressed, .rc .hifEvtLost, .rc .pairMirOvf, .rc .pllCnt, .rc .pwrWakeSrc] ps = true) : Touches ps s (State.tchanAccept s a1) := by
  unfold State.tchanAccept
  try extract_lets -merge -underBinder t0
  with_reducible refine Touches.step ?_ (State.chansChanged_touches _ _ ?_)
  on_goal 2 => exact Part.within_trans rfl hw
  with_reducible refine Touches.ite ?_ ?_
  ·
    with_reducible refine Touches.step ?_ (State.setTchan_touches _ _ _ ?_)
    on_goal 2 => exact Part.within_trans rfl hw
    with_reducible exact Touches.refl _ _
  ·
    with_reducible refine Touches.step ?_ (State.chanStop_touches _ _ ?_)
    on_goal 2 => exact Part.within_trans rfl hw
    with_reducible exact Touches.refl _ _

theorem State.verFullSeen_touches {ps : List Part} s (hw : Part.within [.evt, .hif, .fdb, .rc .evtPinStat, .rc .evtSuppressed, .rc .hifEvtLost] ps = true) : Touches ps s (State.verFullSeen s) := by
  unfold State.verFullSeen
  try extract_lets -merge -underBinder t0 t1
  refine Touches.haveS (t := t0) ?_ (fun ht0 => ?_)
  ·
    unfold t0
    with_reducible refine Touches.step ?_ (State.raise_touches _ _ _ _ _ ?_)
    on_goal 2 => exact Part.within_trans rfl hw
    with_reducible exact Touches.refl _ _
  try clear_value t0
  with_reducible refine Touches.ite ?_ ?_
  ·
    with_reducible refine Touches.set_fdb ?_ ?_
    on_goal 2 => exact Part.within_mem rfl hw
    with_reducible exact ht0
  ·
    with_reducible exact Touches.refl _ _

theorem State.bumpVersion_touches {ps : List Part} s a1 (hw : Part.within [.evt, .hif, .fdb, .rc .evtPinStat, .rc .evtSuppressed, .rc .hifEvtLost] ps = true) : Touches ps s (State.bumpVersion s a1) := by
  unfold State.bumpVersion
  try extract_lets -merge -underBinder t0 t1 t2
  try clear_value t0
  try clear_value t1
  with_reducible refine Touches.step ?_ (State.verFullSeen_touches _ ?_)
  on_goal 2 => exact Part.within_trans rfl hw
  with_reducible refine Touches.set_fdb ?_ ?_
  on_goal 2 => exact Part.within_mem rfl hw
  with_reducible exact Touches.refl _ _

theorem State.objAccept_touches {ps : List Part} s a1 a2 (hw : Part.within [.clk, .evt, .hif, .fdb, .tcore, .tchans, .lnk, .ref, .pll, .tic, .cal, .eng, .pair, .pwr, .rc .calAbortCnt, .rc .evtPinStat, .rc .evtSuppressed, .rc .hifEvtLost, .rc .pairMirOvf, .rc .pllCnt, .rc .pwrWakeSrc] ps = true) : Touches ps s (State.objAccept s a1 a2) := by
  unfold State.objAccept
  split
  ·
    with_reducible refine Touches.step ?_ (State.tchanAccept_touches _ _ ?_)
    on_goal 2 => exact Part.within_trans rfl hw
    with_reducible exact Touches.refl _ _
  ·
    with_reducible refine Touches.step ?_ (State.bumpVersion_touches _ _ ?_)
    on_goal 2 => exact Part.within_trans rfl hw
    with_reducible exact Touches.refl _ _
  ·
    with_reducible exact Touches.refl _ _

theorem State.tchanDrop_touches {ps : List Part} s a1 (hw : Part.within [.tchans, .ref] ps = true) : Touches ps s (State.tchanDrop s a1) := by
  unfold State.tchanDrop
  try extract_lets -merge -underBinder t0
  refine Touches.mk hw ?_
  with_reducible exact Touches.refl _ _

theorem State.setTicCh_touches {ps : List Part} s a1 a2 (hw : Part.within [.tic] ps = true) : Touches ps s (State.setTicCh s a1 a2) := by
  unfold State.setTicCh
  try extract_lets -merge -underBinder t0
  with_reducible refine Touches.set_tic ?_ ?_
  on_goal 2 => exact Part.within_mem rfl hw
  with_reducible exact Touches.refl _ _

theorem State.ticAbandon_touches {ps : List Part} s a1 (hw : Part.within [.tic, .rc .ticTmoCnt] ps = true) : Touches ps s (State.ticAbandon s a1) := by
  unfold State.ticAbandon
  try extract_lets -merge -underBinder t0
  try clear_value t0
  with_reducible refine Touches.ite ?_ ?_
  ·
    with_reducible refine Touches.step ?_ (State.setTicCh_touches _ _ _ ?_)
    on_goal 2 => exact Part.within_trans rfl hw
    with_reducible refine Touches.step ?_ (State.bump_touches _ _ _ _ ?_)
    on_goal 2 => exact Part.within_trans rfl hw
    with_reducible exact Touches.refl _ _
  ·
    with_reducible exact Touches.refl _ _

theorem State.ticCalGo_touches {ps : List Part} s a1 (hw : Part.within [.cal] ps = true) : Touches ps s (State.ticCalGo s a1) := by
  unfold State.ticCalGo
  try extract_lets -merge -underBinder t0
  with_reducible refine Touches.set_cal ?_ ?_
  on_goal 2 => exact Part.within_mem rfl hw
  with_reducible exact Touches.refl _ _

theorem State.mchanAbort_touches {ps : List Part} s a1 a2 (hw : Part.within [.regs, .tic, .cal, .rc .ticTmoCnt] ps = true) : Touches ps s (State.mchanAbort s a1 a2) := by
  unfold State.mchanAbort
  try extract_lets -merge -underBinder t0
  refine Touches.haveS (t := t0) ?_ (fun ht0 => ?_)
  ·
    unfold t0
    with_reducible refine Touches.step ?_ (State.ticAbandon_touches _ _ ?_)
    on_goal 2 => exact Part.within_trans rfl hw
    with_reducible exact Touches.refl _ _
  try clear_value t0
  with_reducible refine Touches.ite ?_ ?_
  ·
    with_reducible refine Touches.step ?_ (State.ticCalGo_touches _ _ ?_)
    on_goal 2 => exact Part.within_trans rfl hw
    with_reducible refine Touches.step ?_ (State.calBoundary_touches _ _ _ ?_)
    on_goal 2 => exact Part.within_trans rfl hw
    with_reducible refine Touches.step ?_ (State.setTicCh_touches _ _ _ ?_)
    on_goal 2 => exact Part.within_trans rfl hw
    with_reducible exact ht0
  ·
    with_reducible exact ht0

theorem State.searchGone_touches {ps : List Part} s a1 (hw : Part.within [.gnss] ps = true) : Touches ps s (State.searchGone s a1) := by
  unfold State.searchGone
  try extract_lets -merge -underBinder t0
  with_reducible refine Touches.set_gnss ?_ ?_
  on_goal 2 => exact Part.within_mem rfl hw
  with_reducible exact Touches.refl _ _

theorem State.calDrop_touches {ps : List Part} s a1 (hw : Part.within [.cal] ps = true) : Touches ps s (State.calDrop s a1) := by
  unfold State.calDrop
  try extract_lets -merge -underBinder t0
  with_reducible refine Touches.set_cal ?_ ?_
  on_goal 2 => exact Part.within_mem rfl hw
  with_reducible exact Touches.refl _ _

theorem State.objGone_touches {ps : List Part} s a1 a2 (hw : Part.within [.regs, .sw, .fab, .bpm, .fdb, .tchans, .ref, .gnss, .tic, .cal, .rc .ticTmoCnt] ps = true) : Touches ps s (State.objGone s a1 a2) := by
  unfold State.objGone
  split
  ·
    with_reducible refine Touches.step ?_ (State.flowDrop_touches _ _ ?_)
    on_goal 2 => exact Part.within_trans rfl hw
    with_reducible exact Touches.refl _ _
  ·
    with_reducible refine Touches.step ?_ (State.tchanDrop_touches _ _ ?_)
    on_goal 2 => exact Part.within_trans rfl hw
    with_reducible exact Touches.refl _ _
  ·
    with_reducible refine Touches.step ?_ (State.mchanAbort_touches _ _ _ ?_)
    on_goal 2 => exact Part.within_trans rfl hw
    with_reducible exact Touches.refl _ _
  ·
    with_reducible exact Touches.refl _ _
  ·
    with_reducible refine Touches.step ?_ (State.searchGone_touches _ _ ?_)
    on_goal 2 => exact Part.within_trans rfl hw
    with_reducible exact Touches.refl _ _
  ·
    with_reducible refine Touches.step ?_ (State.calDrop_touches _ _ ?_)
    on_goal 2 => exact Part.within_trans rfl hw
    with_reducible exact Touches.refl _ _

theorem State.objEnd_touches {ps : List Part} s a1 a2 a3 a4 (hw : Part.within [.regs, .evt, .hif, .index, .objs, .sw, .fab, .bpm, .fdb, .tchans, .ref, .gnss, .tic, .cal, .pair, .boot, .rc .evtPinStat, .rc .evtSuppressed, .rc .hifEvtLost, .rc .hifRingAborted, .rc .pairMirOvf, .rc .ticTmoCnt] ps = true) : Touches ps s (State.objEnd s a1 a2 a3 a4) := by
  unfold State.objEnd
  split
  ·
    with_reducible refine Touches.step ?_ (State.flowEnd_touches _ _ _ _ ?_)
    on_goal 2 => exact Part.within_trans rfl hw
    with_reducible exact Touches.refl _ _
  ·
    try extract_lets -merge -underBinder t0 t1
    try clear_value t0
    refine Touches.haveS (t := t1) ?_ (fun ht1 => ?_)
    ·
      unfold t1
      with_reducible refine Touches.step ?_ (State.drainDone_touches _ _ _ _ _ ?_)
      on_goal 2 => exact Part.within_trans rfl hw
      with_reducible exact Touches.refl _ _
    try clear_value t1
    with_reducible refine Touches.ite ?_ ?_
    ·
      with_reducible refine Touches.step ?_ (State.dropObj_touches _ _ _ ?_)
      on_goal 2 => exact Part.within_trans rfl hw
      with_reducible refine Touches.step ?_ (State.objGone_touches _ _ _ ?_)
      on_goal 2 => exact Part.within_trans rfl hw
      with_reducible exact ht1
    ·
      with_reducible refine Touches.step ?_ (State.setObj_touches _ _ _ _ ?_)
      on_goal 2 => exact Part.within_trans rfl hw
      with_reducible exact ht1

theorem State.tchanAbort_touches {ps : List Part} s a1 (hw : Part.within [.tchans] ps = true) : Touches ps s (State.tchanAbort s a1) := by
  unfold State.tchanAbort
  try extract_lets -merge -underBinder t0
  with_reducible refine Touches.step ?_ (State.setTchan_touches _ _ _ ?_)
  on_goal 2 => exact Part.within_trans rfl hw
  with_reducible exact Touches.refl _ _

theorem State.sectOut_touches {ps : List Part} s a1 (hw : Part.within [.evt, .hif, .gnss, .rc .evtPinStat, .rc .evtSuppressed, .rc .hifEvtLost] ps = true) : Touches ps s (State.sectOut s a1) := by
  unfold State.sectOut
  try extract_lets -merge -underBinder t0
  with_reducible refine Touches.ite ?_ ?_
  ·
    with_reducible exact Touches.refl _ _
  ·
    with_reducible refine Touches.step ?_ (State.raise_touches _ _ _ _ _ ?_)
    on_goal 2 => exact Part.within_trans rfl hw
    with_reducible refine Touches.set_gnss ?_ ?_
    on_goal 2 => exact Part.within_mem rfl hw
    with_reducible exact Touches.refl _ _

theorem State.sectsSettle_touches {ps : List Part} s a1 (hw : Part.within [.evt, .hif, .gnss, .boot, .rc .evtPinStat, .rc .evtSuppressed, .rc .hifEvtLost, .rc .hifRingAborted] ps = true) : Touches ps s (State.sectsSettle s a1) := by
  unfold State.sectsSettle
  try extract_lets -merge -underBinder t0 t1
  try clear_value t0
  with_reducible refine Touches.foldl (fun _ _ => ?_) _ ?_
  ·
    with_reducible refine Touches.step ?_ (State.complete_touches _ _ _ _ _ _ _ ?_)
    on_goal 2 => exact Part.within_trans rfl hw
    with_reducible refine Touches.step ?_ (State.sectOut_touches _ _ ?_)
    on_goal 2 => exact Part.within_trans rfl hw
    with_reducible exact Touches.refl _ _
  ·
    with_reducible refine Touches.set_gnss ?_ ?_
    on_goal 2 => exact Part.within_mem rfl hw
    with_reducible exact Touches.refl _ _

theorem State.setSearchJob_touches {ps : List Part} s a1 a2 (hw : Part.within [.gnss] ps = true) : Touches ps s (State.setSearchJob s a1 a2) := by
  unfold State.setSearchJob
  try extract_lets -merge -underBinder t0
  with_reducible refine Touches.set_gnss ?_ ?_
  on_goal 2 => exact Part.within_mem rfl hw
  with_reducible exact Touches.refl _ _

theorem State.searchAbort_touches {ps : List Part} s a1 (hw : Part.within [.evt, .hif, .gnss, .boot, .rc .evtPinStat, .rc .evtSuppressed, .rc .hifEvtLost, .rc .hifRingAborted] ps = true) : Touches ps s (State.searchAbort s a1) := by
  unfold State.searchAbort
  try extract_lets -merge -underBinder t0
  with_reducible refine Touches.step ?_ (State.sectsSettle_touches _ _ ?_)
  on_goal 2 => exact Part.within_trans rfl hw
  with_reducible refine Touches.step ?_ (State.setSearchJob_touches _ _ _ ?_)
  on_goal 2 => exact Part.within_trans rfl hw
  with_reducible exact Touches.refl _ _

theorem State.calAbort_touches {ps : List Part} s a1 (hw : Part.within [.evt, .hif, .tic, .cal, .rc .calAbortCnt, .rc .evtPinStat, .rc .evtSuppressed, .rc .hifEvtLost] ps = true) : Touches ps s (State.calAbort s a1) := by
  unfold State.calAbort
  with_reducible refine Touches.ite ?_ ?_
  ·
    with_reducible refine Touches.step ?_ (State.calFinish_touches _ _ _ _ ?_)
    on_goal 2 => exact Part.within_trans rfl hw
    with_reducible exact Touches.refl _ _
  ·
    with_reducible exact Touches.refl _ _

theorem State.ticSample_touches {ps : List Part} s a1 (hw : Part.within [.tic] ps = true) : Touches ps s (State.ticSample s a1) := by
  unfold State.ticSample
  try extract_lets -merge -underBinder t0
  with_reducible refine Touches.ite ?_ ?_
  ·
    with_reducible refine Touches.step ?_ (State.setTicCh_touches _ _ _ ?_)
    on_goal 2 => exact Part.within_trans rfl hw
    with_reducible exact Touches.refl _ _
  ·
    with_reducible exact Touches.refl _ _

theorem State.calAbortJob_touches {ps : List Part} s a1 (hw : Part.within [.evt, .hif, .tic, .cal, .rc .calAbortCnt, .rc .evtPinStat, .rc .evtSuppressed, .rc .hifEvtLost] ps = true) : Touches ps s (State.calAbortJob s a1) := by
  unfold State.calAbortJob
  try extract_lets -merge -underBinder t0
  refine Touches.haveS (t := t0) ?_ (fun ht0 => ?_)
  ·
    unfold t0
    with_reducible refine Touches.step ?_ (State.calAbort_touches _ _ ?_)
    on_goal 2 => exact Part.within_trans rfl hw
    with_reducible exact Touches.refl _ _
  try clear_value t0
  with_reducible refine Touches.ite ?_ ?_
  ·
    with_reducible refine Touches.step ?_ (State.ticSample_touches _ _ ?_)
    on_goal 2 => exact Part.within_trans rfl hw
    with_reducible exact ht0
  ·
    with_reducible exact ht0

theorem State.objAbort_touches {ps : List Part} s a1 a2 (hw : Part.within [.regs, .evt, .hif, .sw, .fab, .bpm, .fdb, .tchans, .free, .gnss, .tic, .cal, .eng, .boot, .rc .bpmDoubleFreeCnt, .rc .bpmForeignFreeCnt, .rc .bpmPoolEmptyCnt, .rc .bpmPromoteCnt, .rc .calAbortCnt, .rc .evtPinStat, .rc .evtSuppressed, .rc .hifEvtLost, .rc .hifRingAborted, .rc .perfTagDrop, .rc .ticTmoCnt] ps = true) : Touches ps s (State.objAbort s a1 a2) := by
  unfold State.objAbort
  split
  ·
    with_reducible refine Touches.step ?_ (State.flowAbort_touches _ _ ?_)
    on_goal 2 => exact Part.within_trans rfl hw
    with_reducible exact Touches.refl _ _
  ·
    with_reducible refine Touches.step ?_ (State.tchanAbort_touches _ _ ?_)
    on_goal 2 => exact Part.within_trans rfl hw
    with_reducible exact Touches.refl _ _
  ·
    with_reducible refine Touches.step ?_ (State.mchanAbort_touches _ _ _ ?_)
    on_goal 2 => exact Part.within_trans rfl hw
    with_reducible exact Touches.refl _ _
  ·
    with_reducible refine Touches.step ?_ (State.afterFree_touches _ ?_)
    on_goal 2 => exact Part.within_trans rfl hw
    with_reducible refine Touches.step ?_ (State.flushCopies_touches _ _ _ ?_)
    on_goal 2 => exact Part.within_trans rfl hw
    with_reducible exact Touches.refl _ _
  ·
    with_reducible refine Touches.step ?_ (State.searchAbort_touches _ _ ?_)
    on_goal 2 => exact Part.within_trans rfl hw
    with_reducible exact Touches.refl _ _
  ·
    with_reducible refine Touches.step ?_ (State.calAbortJob_touches _ _ ?_)
    on_goal 2 => exact Part.within_trans rfl hw
    with_reducible exact Touches.refl _ _

theorem State.objDrain_touches {ps : List Part} s a1 a2 a3 a4 (hw : Part.within [.clk, .keys, .regs, .evt, .hif, .index, .objs, .sw, .fab, .bpm, .fdb, .tcore, .tchans, .lnk, .ref, .free, .pll, .gnss, .tic, .cal, .eng, .pair, .pwr, .boot, .rc .bpmDoubleFreeCnt, .rc .bpmForeignFreeCnt, .rc .bpmPoolEmptyCnt, .rc .bpmPromoteCnt, .rc .calAbortCnt, .rc .evtPinStat, .rc .evtSuppressed, .rc .hifEvtLost, .rc .hifRingAborted, .rc .pairMirOvf, .rc .perfTagDrop, .rc .pllCnt, .rc .pwrWakeSrc, .rc .ticTmoCnt] ps = true) : Touches ps s (State.objDrain s a1 a2 a3 a4) := by
  unfold State.objDrain
  try extract_lets -merge -underBinder t0
  try clear_value t0
  split
  ·
    with_reducible refine Touches.step ?_ (State.flowTake_touches _ _ _ _ ?_)
    on_goal 2 => exact Part.within_trans rfl hw
    with_reducible exact Touches.refl _ _
  ·
    try extract_lets -merge -underBinder t1 t2
    try clear_value t1
    try clear_value t2
    with_reducible refine Touches.step ?_ (State.runNamed_touches _ _ _ _ _ _ _ _ ?_ (fun _ => ?_))
    on_goal 2 => exact Part.within_trans rfl hw
    ·
      with_reducible exact Touches.refl _ _
    ·
      try extract_lets -merge -underBinder t3 t4 t5 t6 t7 t8 t9
      try clear_value t3
      try clear_value t4
      refine Touches.haveS (t := t5) ?_ (fun ht5 => ?_)
      ·
        unfold t5
        with_reducible refine Touches.ite ?_ ?_
        ·
          with_reducible refine Touches.step ?_ (State.calCheckLost_touches _ _ ?_)
          on_goal 2 => exact Part.within_trans rfl hw
          with_reducible exact Touches.refl _ _
        ·
          with_reducible exact Touches.refl _ _
      try clear_value t5
      try clear_value t6
      try clear_value t7
      try clear_value t8
      refine Touches.haveS (t := t9) ?_ (fun ht9 => ?_)
      ·
        unfold t9
        with_reducible refine Touches.step ?_ (State.objAccept_touches _ _ _ ?_)
        on_goal 2 => exact Part.within_trans rfl hw
        with_reducible refine Touches.step ?_ (State.setObj_touches _ _ _ _ ?_)
        on_goal 2 => exact Part.within_trans rfl hw
        with_reducible exact ht5
      try clear_value t9
      with_reducible refine Touches.ite ?_ ?_
      ·
        with_reducible refine Touches.step ?_ (State.complete_touches _ _ _ _ _ _ _ ?_)
        on_goal 2 => exact Part.within_trans rfl hw
        with_reducible exact Touches.refl _ _
      ·
        with_reducible refine Touches.ite ?_ ?_
        ·
          with_reducible refine Touches.step ?_ (State.complete_touches _ _ _ _ _ _ _ ?_)
          on_goal 2 => exact Part.within_trans rfl hw
          with_reducible exact Touches.refl _ _
        ·
          with_reducible refine Touches.ite ?_ ?_
          ·
            with_reducible refine Touches.step ?_ (State.objEnd_touches _ _ _ _ _ ?_)
            on_goal 2 => exact Part.within_trans rfl hw
            with_reducible exact ht9
          ·
            with_reducible refine Touches.ite ?_ ?_
            ·
              with_reducible refine Touches.step ?_ (State.objEnd_touches _ _ _ _ _ ?_)
              on_goal 2 => exact Part.within_trans rfl hw
              with_reducible refine Touches.step ?_ (State.objAbort_touches _ _ _ ?_)
              on_goal 2 => exact Part.within_trans rfl hw
              with_reducible exact ht9
            ·
              with_reducible exact ht9

theorem State.mchanResume_touches {ps : List Part} s a1 (hw : Part.within [.tic] ps = true) : Touches ps s (State.mchanResume s a1) := by
  unfold State.mchanResume
  with_reducible refine Touches.step ?_ (State.ticSample_touches _ _ ?_)
  on_goal 2 => exact Part.within_trans rfl hw
  with_reducible exact Touches.refl _ _

theorem State.holdReg_touches {ps : List Part} s a1 a2 a3 a4 (hw : Part.within [.regs, .evt, .hif, .rc .evtPinStat, .rc .evtSuppressed, .rc .hifEvtLost, .rc .sysApplyStat] ps = true) : Touches ps s (State.holdReg s a1 a2 a3 a4) := by
  unfold State.holdReg
  try extract_lets -merge -underBinder t0 t1 t2
  try clear_value t0
  try clear_value t1
  try clear_value t2
  with_reducible refine Touches.ite ?_ ?_
  ·
    with_reducible exact Touches.refl _ _
  ·
    with_reducible refine Touches.ite ?_ ?_
    ·
      with_reducible refine Touches.step ?_ (State.raise_touches _ _ _ _ _ ?_)
      on_goal 2 => exact Part.within_trans rfl hw
      with_reducible refine Touches.step ?_ (State.rcSet_touches _ _ _ _ ?_)
      on_goal 2 => exact Part.within_trans rfl hw
      with_reducible exact Touches.refl _ _
    ·
      with_reducible refine Touches.set_regs ?_ ?_
      on_goal 2 => exact Part.within_mem rfl hw
      with_reducible exact Touches.refl _ _

theorem State.discard_touches {ps : List Part} s (hw : Part.within [.regs] ps = true) : Touches ps s (State.discard s) := by
  unfold State.discard
  try extract_lets -merge -underBinder t0 t1 t2
  try clear_value t0
  refine Touches.haveS (t := t1) ?_ (fun ht1 => ?_)
  ·
    unfold t1
    with_reducible refine Touches.foldl (fun _ _ => ?_) _ ?_
    ·
      with_reducible refine Touches.step ?_ (State.revertBits_touches _ _ _ ?_)
      on_goal 2 => exact Part.within_trans rfl hw
      with_reducible exact Touches.refl _ _
    ·
      with_reducible exact Touches.refl _ _
  try clear_value t1
  with_reducible refine Touches.set_regs ?_ ?_
  on_goal 2 => exact Part.within_mem rfl hw
  with_reducible exact Touches.refl _ _

theorem State.commitAtSec_touches {ps : List Part} s (hw : Part.within [.regs] ps = true) : Touches ps s (State.commitAtSec s) := by
  unfold State.commitAtSec
  try extract_lets -merge -underBinder t0
  with_reducible refine Touches.set_regs ?_ ?_
  on_goal 2 => exact Part.within_mem rfl hw
  with_reducible exact Touches.refl _ _

theorem State.grpModeCheck_touches {ps : List Part} s a1 (hw : Part.within [.regs, .evt, .hif, .rc .evtPinStat, .rc .evtSuppressed, .rc .hifEvtLost] ps = true) : Touches ps s (State.grpModeCheck s a1) := by
  unfold State.grpModeCheck
  try extract_lets -merge -underBinder t0 t1 t2
  try clear_value t0
  try clear_value t1
  try clear_value t2
  with_reducible refine Touches.foldl (fun _ _ => ?_) _ ?_
  ·
    with_reducible refine Touches.ite ?_ ?_
    ·
      with_reducible exact Touches.refl _ _
    ·
      with_reducible refine Touches.step ?_ (State.raise_touches _ _ _ _ _ ?_)
      on_goal 2 => exact Part.within_trans rfl hw
      with_reducible refine Touches.step ?_ (State.revertBits_touches _ _ _ ?_)
      on_goal 2 => exact Part.within_trans rfl hw
      with_reducible exact Touches.refl _ _
  ·
    with_reducible exact Touches.refl _ _

theorem State.setGrp_touches {ps : List Part} s a1 a2 (hw : Part.within [.grps] ps = true) : Touches ps s (State.setGrp s a1 a2) := by
  unfold State.setGrp
  with_reducible refine Touches.set_grps ?_ ?_
  on_goal 2 => exact Part.within_mem rfl hw
  with_reducible exact Touches.refl _ _

theorem State.phiForget_touches {ps : List Part} s a1 (hw : Part.within [.tchans, .lnk] ps = true) : Touches ps s (State.phiForget s a1) := by
  unfold State.phiForget
  try extract_lets -merge -underBinder t0
  refine Touches.mk hw ?_
  with_reducible exact Touches.refl _ _

theorem State.lnkPhiLost_touches {ps : List Part} s a1 (hw : Part.within [.evt, .hif, .tchans, .lnk, .tic, .cal, .rc .calAbortCnt, .rc .evtPinStat, .rc .evtSuppressed, .rc .hifEvtLost] ps = true) : Touches ps s (State.lnkPhiLost s a1) := by
  unfold State.lnkPhiLost
  try extract_lets -merge -underBinder t0 t1
  try clear_value t0
  try clear_value t1
  with_reducible refine Touches.ite ?_ ?_
  ·
    with_reducible exact Touches.refl _ _
  ·
    with_reducible refine Touches.step ?_ (State.lnkEval_touches _ _ ?_)
    on_goal 2 => exact Part.within_trans rfl hw
    with_reducible refine Touches.step ?_ (State.phiForget_touches _ _ ?_)
    on_goal 2 => exact Part.within_trans rfl hw
    with_reducible refine Touches.step ?_ (State.setLnk_touches _ _ _ ?_)
    on_goal 2 => exact Part.within_trans rfl hw
    with_reducible exact Touches.refl _ _

theorem State.setLane_touches {ps : List Part} s a1 a2 (hw : Part.within [.lanes] ps = true) : Touches ps s (State.setLane s a1 a2) := by
  unfold State.setLane
  with_reducible refine Touches.set_lanes ?_ ?_
  on_goal 2 => exact Part.within_mem rfl hw
  with_reducible exact Touches.refl _ _

theorem State.chanLost_touches {ps : List Part} s a1 (hw : Part.within [.clk, .evt, .hif, .tcore, .tchans, .ref, .pll, .eng, .pair, .pwr, .rc .evtPinStat, .rc .evtSuppressed, .rc .hifEvtLost, .rc .pairMirOvf, .rc .pllCnt, .rc .pwrWakeSrc] ps = true) : Touches ps s (State.chanLost s a1) := by
  unfold State.chanLost
  try extract_lets -merge -underBinder t0
  try clear_value t0
  with_reducible refine Touches.step ?_ (State.candFail_touches _ _ _ ?_)
  on_goal 2 => exact Part.within_trans rfl hw
  with_reducible refine Touches.step ?_ (State.setChanSt_touches _ _ _ ?_)
  on_goal 2 => exact Part.within_trans rfl hw
  with_reducible exact Touches.refl _ _

theorem State.portChansLost_touches {ps : List Part} s a1 (hw : Part.within [.clk, .evt, .hif, .tcore, .tchans, .ref, .pll, .eng, .pair, .pwr, .rc .evtPinStat, .rc .evtSuppressed, .rc .hifEvtLost, .rc .pairMirOvf, .rc .pllCnt, .rc .pwrWakeSrc] ps = true) : Touches ps s (State.portChansLost s a1) := by
  unfold State.portChansLost
  with_reducible refine Touches.foldl (fun _ _ => ?_) _ ?_
  ·
    with_reducible refine Touches.ite ?_ ?_
    ·
      with_reducible exact Touches.refl _ _
    ·
      with_reducible refine Touches.step ?_ (State.chanLost_touches _ _ ?_)
      on_goal 2 => exact Part.within_trans rfl hw
      with_reducible exact Touches.refl _ _
  ·
    with_reducible exact Touches.refl _ _

theorem State.setFrame_touches {ps : List Part} s a1 a2 (hw : Part.within [.fab] ps = true) : Touches ps s (State.setFrame s a1 a2) := by
  unfold State.setFrame
  try extract_lets -merge -underBinder t0
  with_reducible refine Touches.set_fab ?_ ?_
  on_goal 2 => exact Part.within_mem rfl hw
  with_reducible exact Touches.refl _ _

theorem State.dropFrame_touches {ps : List Part} s a1 (hw : Part.within [.evt, .hif, .sw, .fab, .bpm, .fdb, .free, .eng, .rc .bpmDoubleFreeCnt, .rc .bpmForeignFreeCnt, .rc .evtPinStat, .rc .evtSuppressed, .rc .hifEvtLost, .rc .perfTagDrop] ps = true) : Touches ps s (State.dropFrame s a1) := by
  unfold State.dropFrame
  split
  ·
    with_reducible exact Touches.refl _ _
  ·
    with_reducible refine Touches.step ?_ (State.frameGone_touches _ _ ?_)
    on_goal 2 => exact Part.within_trans rfl hw
    with_reducible refine Touches.foldl (fun _ _ => ?_) _ ?_
    ·
      with_reducible refine Touches.step ?_ (State.removeCopy_touches _ _ ?_)
      on_goal 2 => exact Part.within_trans rfl hw
      with_reducible exact Touches.refl _ _
    ·
      with_reducible refine Touches.step ?_ (State.setFrame_touches _ _ _ ?_)
      on_goal 2 => exact Part.within_trans rfl hw
      with_reducible exact Touches.refl _ _

theorem State.portFlush_touches {ps : List Part} s a1 (hw : Part.within [.evt, .hif, .sw, .fab, .bpm, .fdb, .free, .eng, .rc .bpmDoubleFreeCnt, .rc .bpmForeignFreeCnt, .rc .bpmPoolEmptyCnt, .rc .bpmPromoteCnt, .rc .evtPinStat, .rc .evtSuppressed, .rc .hifEvtLost, .rc .hifRingAborted, .rc .perfTagDrop, .rc .portHoldFlush] ps = true) : Touches ps s (State.portFlush s a1) := by
  unfold State.portFlush
  try extract_lets -merge -underBinder t0 t1 t2
  try clear_value t0
  refine Touches.haveS (t := t1) ?_ (fun ht1 => ?_)
  ·
    unfold t1
    with_reducible refine Touches.step ?_ (State.bump_touches _ _ _ _ ?_)
    on_goal 2 => exact Part.within_trans rfl hw
    with_reducible refine Touches.step ?_ (State.flushCopies_touches _ _ _ ?_)
    on_goal 2 => exact Part.within_trans rfl hw
    with_reducible exact Touches.refl _ _
  try clear_value t1
  with_reducible refine Touches.step ?_ (State.afterFree_touches _ ?_)
  on_goal 2 => exact Part.within_trans rfl hw
  with_reducible refine Touches.step ?_ (State.raise_touches _ _ _ _ _ ?_)
  on_goal 2 => exact Part.within_trans rfl hw
  with_reducible refine Touches.step ?_ (State.setPort_touches _ _ _ ?_)
  on_goal 2 => exact Part.within_trans rfl hw
  with_reducible exact ht1

theorem State.portLoss_touches {ps : List Part} s a1 (hw : Part.within [.evt, .hif, .sw, .fab, .bpm, .fdb, .free, .eng, .rc .bpmDoubleFreeCnt, .rc .bpmForeignFreeCnt, .rc .bpmPoolEmptyCnt, .rc .bpmPromoteCnt, .rc .evtPinStat, .rc .evtSuppressed, .rc .hifEvtLost, .rc .hifRingAborted, .rc .perfTagDrop, .rc .portHoldFlush] ps = true) : Touches ps s (State.portLoss s a1) := by
  unfold State.portLoss
  try extract_lets -merge -underBinder t0 t1 t2 t3 t4 t5
  try clear_value t0
  refine Touches.haveS (t := t1) ?_ (fun ht1 => ?_)
  ·
    unfold t1
    with_reducible refine Touches.foldl (fun _ _ => ?_) _ ?_
    ·
      split
      ·
        with_reducible refine Touches.step ?_ (State.removeCopy_touches _ _ ?_)
        on_goal 2 => exact Part.within_trans rfl hw
        with_reducible refine Touches.step ?_ (State.bump_touches _ _ _ _ ?_)
        on_goal 2 => exact Part.within_trans rfl hw
        with_reducible refine Touches.step ?_ (State.tsLost_touches _ _ _ ?_)
        on_goal 2 => exact Part.within_trans rfl hw
        with_reducible exact Touches.refl _ _
      ·
        with_reducible exact Touches.refl _ _
    ·
      with_reducible exact Touches.refl _ _
  try clear_value t1
  try clear_value t2
  refine Touches.haveS (t := t3) ?_ (fun ht3 => ?_)
  ·
    unfold t3
    with_reducible refine Touches.foldl (fun _ _ => ?_) _ ?_
    ·
      with_reducible refine Touches.step ?_ (State.dropFrame_touches _ _ ?_)
      on_goal 2 => exact Part.within_trans rfl hw
      with_reducible exact Touches.refl _ _
    ·
      with_reducible exact ht1
  try clear_value t3
  try clear_value t4
  refine Touches.haveS (t := t5) ?_ (fun ht5 => ?_)
  ·
    unfold t5
    with_reducible refine Touches.step ?_ (State.setPort_touches _ _ _ ?_)
    on_goal 2 => exact Part.within_trans rfl hw
    with_reducible exact ht3
  try clear_value t5
  with_reducible refine Touches.ite ?_ ?_
  ·
    with_reducible exact Touches.refl _ _
  ·
    with_reducible refine Touches.ite ?_ ?_
    ·
      with_reducible refine Touches.step ?_ (State.portFlush_touches _ _ ?_)
      on_goal 2 => exact Part.within_trans rfl hw
      with_reducible exact ht5
    ·
      with_reducible refine Touches.step ?_ (State.afterFree_touches _ ?_)
      on_goal 2 => exact Part.within_trans rfl hw
      with_reducible exact ht5

theorem State.laneWithdraw_touches {ps : List Part} s a1 (hw : Part.within [.clk, .evt, .hif, .lanes, .tcore, .tchans, .ref, .pll, .eng, .pair, .pwr, .rc .evtPinStat, .rc .evtSuppressed, .rc .hifEvtLost, .rc .pairMirOvf, .rc .pllCnt, .rc .pwrWakeSrc] ps = true) : Touches ps s (State.laneWithdraw s a1) := by
  unfold State.laneWithdraw
  try extract_lets -merge -underBinder t0
  with_reducible refine Touches.ite ?_ ?_
  ·
    with_reducible refine Touches.step ?_ (State.candFail_touches _ _ _ ?_)
    on_goal 2 => exact Part.within_trans rfl hw
    with_reducible refine Touches.step ?_ (State.setLane_touches _ _ _ ?_)
    on_goal 2 => exact Part.within_trans rfl hw
    with_reducible exact Touches.refl _ _
  ·
    with_reducible exact Touches.refl _ _

theorem State.laneUnlock_touches {ps : List Part} s a1 (hw : Part.within [.clk, .evt, .hif, .lanes, .sw, .fab, .bpm, .fdb, .tcore, .tchans, .lnk, .ref, .free, .pll, .tic, .cal, .eng, .pair, .pwr, .rc .bpmDoubleFreeCnt, .rc .bpmForeignFreeCnt, .rc .bpmPoolEmptyCnt, .rc .bpmPromoteCnt, .rc .calAbortCnt, .rc .evtPinStat, .rc .evtSuppressed, .rc .hifEvtLost, .rc .hifRingAborted, .rc .pairMirOvf, .rc .perfTagDrop, .rc .pllCnt, .rc .portHoldFlush, .rc .pwrWakeSrc] ps = true) : Touches ps s (State.laneUnlock s a1) := by
  unfold State.laneUnlock
  try extract_lets -merge -underBinder t0 t1 t2
  try clear_value t0
  refine Touches.haveS (t := t1) ?_ (fun ht1 => ?_)
  ·
    unfold t1
    with_reducible refine Touches.step ?_ (State.setLane_touches _ _ _ ?_)
    on_goal 2 => exact Part.within_trans rfl hw
    with_reducible exact Touches.refl _ _
  try clear_value t1
  try clear_value t2
  with_reducible refine Touches.ite ?_ ?_
  ·
    with_reducible exact Touches.refl _ _
  ·
    with_reducible refine Touches.step ?_ (State.portChansLost_touches _ _ ?_)
    on_goal 2 => exact Part.within_trans rfl hw
    with_reducible refine Touches.step ?_ (State.portLoss_touches _ _ ?_)
    on_goal 2 => exact Part.within_trans rfl hw
    with_reducible refine Touches.step ?_ (State.lnkPhiLost_touches _ _ ?_)
    on_goal 2 => exact Part.within_trans rfl hw
    with_reducible refine Touches.step ?_ (State.laneWithdraw_touches _ _ ?_)
    on_goal 2 => exact Part.within_trans rfl hw
    with_reducible exact ht1

theorem State.laneStop_touches {ps : List Part} s a1 (hw : Part.within [.clk, .evt, .hif, .lanes, .sw, .fab, .bpm, .fdb, .tcore, .tchans, .lnk, .ref, .free, .pll, .tic, .cal, .eng, .pair, .pwr, .rc .bpmDoubleFreeCnt, .rc .bpmForeignFreeCnt, .rc .bpmPoolEmptyCnt, .rc .bpmPromoteCnt, .rc .calAbortCnt, .rc .evtPinStat, .rc .evtSuppressed, .rc .hifEvtLost, .rc .hifRingAborted, .rc .pairMirOvf, .rc .perfTagDrop, .rc .pllCnt, .rc .portHoldFlush, .rc .pwrWakeSrc] ps = true) : Touches ps s (State.laneStop s a1) := by
  unfold State.laneStop
  try extract_lets -merge -underBinder t0 t1
  refine Touches.haveS (t := t0) ?_ (fun ht0 => ?_)
  ·
    unfold t0
    with_reducible refine Touches.step ?_ (State.lnkPhiLost_touches _ _ ?_)
    on_goal 2 => exact Part.within_trans rfl hw
    with_reducible refine Touches.step ?_ (State.laneUnlock_touches _ _ ?_)
    on_goal 2 => exact Part.within_trans rfl hw
    with_reducible exact Touches.refl _ _
  try clear_value t0
  with_reducible refine Touches.step ?_ (State.setLane_touches _ _ _ ?_)
  on_goal 2 => exact Part.within_trans rfl hw
  with_reducible exact ht0

theorem State.applyAt_touches {ps : List Part} s a1 a2 (hw : Part.within [.regs] ps = true) : Touches ps s (State.applyAt s a1 a2) := by
  unfold State.applyAt
  try extract_lets -merge -underBinder t0 t1 t2
  try clear_value t0
  refine Touches.haveS (t := t1) ?_ (fun ht1 => ?_)
  ·
    unfold t1
    with_reducible refine Touches.foldl (fun _ _ => ?_) _ ?_
    ·
      with_reducible refine Touches.step ?_ (State.copyBits_touches _ _ _ ?_)
      on_goal 2 => exact Part.within_trans rfl hw
      with_reducible exact Touches.refl _ _
    ·
      with_reducible exact Touches.refl _ _
  try clear_value t1
  with_reducible refine Touches.set_regs ?_ ?_
  on_goal 2 => exact Part.within_mem rfl hw
  with_reducible exact Touches.refl _ _

theorem State.laneIdl_touches {ps : List Part} s a1 (hw : Part.within [.regs, .cal] ps = true) : Touches ps s (State.laneIdl s a1) := by
  unfold State.laneIdl
  with_reducible refine Touches.step ?_ (State.calBoundary_touches _ _ _ ?_)
  on_goal 2 => exact Part.within_trans rfl hw
  with_reducible refine Touches.step ?_ (State.applyAt_touches _ _ _ ?_)
  on_goal 2 => exact Part.within_trans rfl hw
  with_reducible exact Touches.refl _ _

theorem State.retrain_touches {ps : List Part} s a1 (hw : Part.within [.clk, .regs, .evt, .hif, .lanes, .sw, .fab, .bpm, .fdb, .tcore, .tchans, .lnk, .ref, .free, .pll, .tic, .cal, .eng, .pair, .pwr, .rc .bpmDoubleFreeCnt, .rc .bpmForeignFreeCnt, .rc .bpmPoolEmptyCnt, .rc .bpmPromoteCnt, .rc .calAbortCnt, .rc .evtPinStat, .rc .evtSuppressed, .rc .hifEvtLost, .rc .hifRingAborted, .rc .pairMirOvf, .rc .perfTagDrop, .rc .pllCnt, .rc .portHoldFlush, .rc .pwrWakeSrc] ps = true) : Touches ps s (State.retrain s a1) := by
  unfold State.retrain
  try extract_lets -merge -underBinder t0 t1
  refine Touches.haveS (t := t0) ?_ (fun ht0 => ?_)
  ·
    unfold t0
    with_reducible refine Touches.step ?_ (State.laneIdl_touches _ _ ?_)
    on_goal 2 => exact Part.within_trans rfl hw
    with_reducible refine Touches.step ?_ (State.laneUnlock_touches _ _ ?_)
    on_goal 2 => exact Part.within_trans rfl hw
    with_reducible exact Touches.refl _ _
  try clear_value t0
  with_reducible refine Touches.ite ?_ ?_
  ·
    with_reducible exact Touches.refl _ _
  ·
    with_reducible refine Touches.step ?_ (State.setLane_touches _ _ _ ?_)
    on_goal 2 => exact Part.within_trans rfl hw
    with_reducible exact ht0

theorem State.quadChange_touches {ps : List Part} s a1 a2 a3 (hw : Part.within [.clk, .regs, .evt, .hif, .lanes, .sw, .fab, .bpm, .fdb, .tcore, .tchans, .lnk, .ref, .free, .pll, .tic, .cal, .eng, .pair, .pwr, .rc .bpmDoubleFreeCnt, .rc .bpmForeignFreeCnt, .rc .bpmPoolEmptyCnt, .rc .bpmPromoteCnt, .rc .calAbortCnt, .rc .evtPinStat, .rc .evtSuppressed, .rc .hifEvtLost, .rc .hifRingAborted, .rc .pairMirOvf, .rc .perfTagDrop, .rc .pllCnt, .rc .portHoldFlush, .rc .pwrWakeSrc] ps = true) : Touches ps s (State.quadChange s a1 a2 a3) := by
  unfold State.quadChange
  try extract_lets -merge -underBinder t0 t1 t2 t3 t4
  try clear_value t0
  try clear_value t1
  refine Touches.haveS (t := t2) ?_ (fun ht2 => ?_)
  ·
    unfold t2
    with_reducible refine Touches.foldl (fun _ _ => ?_) _ ?_
    ·
      with_reducible refine Touches.step ?_ (State.laneStop_touches _ _ ?_)
      on_goal 2 => exact Part.within_trans rfl hw
      with_reducible exact Touches.refl _ _
    ·
      with_reducible exact Touches.refl _ _
  try clear_value t2
  refine Touches.haveS (t := t4) ?_ (fun ht4 => ?_)
  ·
    unfold t4
    with_reducible refine Touches.set_regs ?_ ?_
    on_goal 2 => exact Part.within_mem rfl hw
    with_reducible exact ht2
  try clear_value t4
  with_reducible refine Touches.foldl (fun _ _ => ?_) _ ?_
  ·
    try extract_lets -merge -underBinder t5
    with_reducible refine Touches.ite ?_ ?_
    ·
      with_reducible exact Touches.refl _ _
    ·
      with_reducible refine Touches.step ?_ (State.retrain_touches _ _ ?_)
      on_goal 2 => exact Part.within_trans rfl hw
      with_reducible refine Touches.step ?_ (State.setLane_touches _ _ _ ?_)
      on_goal 2 => exact Part.within_trans rfl hw
      with_reducible exact Touches.refl _ _
  ·
    with_reducible exact ht4

theorem State.commitGrpMode_touches {ps : List Part} s a1 (hw : Part.within [.clk, .regs, .evt, .hif, .lanes, .grps, .sw, .fab, .bpm, .fdb, .tcore, .tchans, .lnk, .ref, .free, .pll, .tic, .cal, .eng, .pair, .pwr, .rc .bpmDoubleFreeCnt, .rc .bpmForeignFreeCnt, .rc .bpmPoolEmptyCnt, .rc .bpmPromoteCnt, .rc .calAbortCnt, .rc .evtPinStat, .rc .evtSuppressed, .rc .hifEvtLost, .rc .hifRingAborted, .rc .pairMirOvf, .rc .perfTagDrop, .rc .pllCnt, .rc .portHoldFlush, .rc .pwrWakeSrc] ps = true) : Touches ps s (State.commitGrpMode s a1) := by
  unfold State.commitGrpMode
  try extract_lets -merge -underBinder t0 t1 t2 t3 t4
  try clear_value t0
  refine Touches.haveS (t := t1) ?_ (fun ht1 => ?_)
  ·
    unfold t1
    with_reducible refine Touches.step ?_ (State.grpModeCheck_touches _ _ ?_)
    on_goal 2 => exact Part.within_trans rfl hw
    with_reducible exact Touches.refl _ _
  try clear_value t1
  try clear_value t2
  try clear_value t3
  with_reducible refine Touches.ite ?_ ?_
  ·
    with_reducible refine Touches.step ?_ (State.setGrp_touches _ _ _ ?_)
    on_goal 2 => exact Part.within_trans rfl hw
    with_reducible exact ht1
  ·
    with_reducible refine Touches.foldl (fun _ _ => ?_) _ ?_
    ·
      with_reducible refine Touches.ite ?_ ?_
      ·
        with_reducible exact Touches.refl _ _
      ·
        with_reducible refine Touches.step ?_ (State.quadChange_touches _ _ _ _ ?_)
        on_goal 2 => exact Part.within_trans rfl hw
        with_reducible exact Touches.refl _ _
    ·
      with_reducible exact ht1

theorem State.capNext_touches {ps : List Part} s a1 (hw : Part.within [.regs, .evt, .hif, .sw, .rc .evtPinStat, .rc .evtSuppressed, .rc .hifEvtLost] ps = true) : Touches ps s (State.capNext s a1) := by
  unfold State.capNext
  try extract_lets -merge -underBinder t0
  with_reducible refine Touches.ite ?_ ?_
  ·
    with_reducible refine Touches.set_sw ?_ ?_
    on_goal 2 => exact Part.within_mem rfl hw
    with_reducible exact Touches.refl _ _
  ·
    with_reducible refine Touches.step ?_ (State.capWord_touches _ _ ?_)
    on_goal 2 => exact Part.within_trans rfl hw
    with_reducible exact Touches.refl _ _

theorem State.keepWord_touches {ps : List Part} s a1 a2 a3 a4 (hw : Part.within [.regs, .evt, .hif, .rc .evtPinStat, .rc .evtSuppressed, .rc .hifEvtLost] ps = true) : Touches ps s (State.keepWord s a1 a2 a3 a4) := by
  unfold State.keepWord
  with_reducible refine Touches.step ?_ (State.raise_touches _ _ _ _ _ ?_)
  on_goal 2 => exact Part.within_trans rfl hw
  with_reducible refine Touches.step ?_ (State.revertBits_touches _ _ _ ?_)
  on_goal 2 => exact Part.within_trans rfl hw
  with_reducible exact Touches.refl _ _

theorem State.commitWord_touches {ps : List Part} (s : State) (k : RegKey) (hw : Part.within [.clk, .regs, .evt, .hif, .lanes, .grps, .sw, .fab, .bpm, .fdb, .tcore, .tchans, .lnk, .ref, .free, .pll, .tic, .cal, .eng, .pair, .pwr, .rc .bpmDoubleFreeCnt, .rc .bpmForeignFreeCnt, .rc .bpmPoolEmptyCnt, .rc .bpmPromoteCnt, .rc .calAbortCnt, .rc .evtPinStat, .rc .evtSuppressed, .rc .hifEvtLost, .rc .hifRingAborted, .rc .pairMirOvf, .rc .perfTagDrop, .rc .pllCnt, .rc .portHoldFlush, .rc .pwrWakeSrc] ps = true) : Touches ps s (s.commitWord k) := by
  unfold State.commitWord
  extract_lets t
  have ht : Touches ps s t := State.copyBits_touches _ _ _ (Part.within_trans rfl hw)
  have hk : ∀ e a b, Touches ps s (s.keepWord k e a b) := fun e a b => State.keepWord_touches _ _ _ _ _ (Part.within_trans rfl hw)
  have hc : Touches ps s (s.capNext k) := State.capNext_touches _ _ (Part.within_trans rfl hw)
  split
  · exact State.commitGrpMode_touches _ _ (Part.within_trans rfl hw)
  · exact hc
  · exact hc
  · exact Touches.ite (hk _ _ _) ht
  · exact Touches.ite (hk _ _ _) ht
  · exact Touches.ite (hk _ _ _) ht
  · exact ht

theorem State.pllCommitPre_touches {ps : List Part} s a1 (hw : Part.within [.regs, .evt, .hif, .rc .evtPinStat, .rc .evtSuppressed, .rc .hifEvtLost] ps = true) : Touches ps s (State.pllCommitPre s a1) := by
  unfold State.pllCommitPre
  with_reducible refine Touches.foldl (fun _ _ => ?_) _ ?_
  ·
    with_reducible refine Touches.ite ?_ ?_
    ·
      with_reducible refine Touches.step ?_ (State.raise_touches _ _ _ _ _ ?_)
      on_goal 2 => exact Part.within_trans rfl hw
      with_reducible refine Touches.foldl (fun _ _ => ?_) _ ?_
      ·
        with_reducible refine Touches.step ?_ (State.revertBits_touches _ _ _ ?_)
        on_goal 2 => exact Part.within_trans rfl hw
        with_reducible exact Touches.refl _ _
      ·
        with_reducible exact Touches.refl _ _
    ·
      with_reducible exact Touches.refl _ _
  ·
    with_reducible exact Touches.refl _ _

end Sys2Proof.Machine
end

