-- ==== Sys2Proof/Laws/Frames2.lean ====
section
/-! SUPPORT. What each operation of the machine may change, part 2 of 6: one lemma for one operation, in the order in which the
operations build on one another.  Every other part of the state is the same after it. -/

set_option Elab.async false

namespace Sys2Proof.Machine

theorem State.rehearseAbort_touches {ps : List Part} s (hw : Part.within [.evt, .hif, .free, .pair, .boot, .rc .evtPinStat, .rc .evtSuppressed, .rc .hifEvtLost, .rc .hifRingAborted] ps = true) : Touches ps s (State.rehearseAbort s) := by
  unfold State.rehearseAbort
  try extract_lets -merge -underBinder t0 t1 t2 t3 t4
  try clear_value t0
  try clear_value t1
  refine Touches.haveS (t := t3) ?_ (fun ht3 => ?_)
  ·
    unfold t3
    refine Touches.mk hw ?_
    with_reducible exact Touches.refl _ _
  try clear_value t3
  refine Touches.haveS (t := t4) ?_ (fun ht4 => ?_)
  ·
    unfold t4
    with_reducible refine Touches.step ?_ (State.raise_touches _ _ _ _ _ ?_)
    on_goal 2 => exact Part.within_trans rfl hw
    with_reducible exact ht3
  try clear_value t4
  with_reducible refine Touches.ite ?_ ?_
  ·
    with_reducible exact Touches.refl _ _
  ·
    split
    ·
      with_reducible refine Touches.step ?_ (State.complete_touches _ _ _ _ _ _ _ ?_)
      on_goal 2 => exact Part.within_trans rfl hw
      with_reducible exact ht4
    ·
      with_reducible exact ht4

theorem State.stopFollow_touches {ps : List Part} s (hw : Part.within [.clk, .evt, .hif, .tcore, .ref, .pair, .pwr, .rc .evtPinStat, .rc .evtSuppressed, .rc .hifEvtLost, .rc .pairMirOvf, .rc .pwrWakeSrc] ps = true) : Touches ps s (State.stopFollow s) := by
  unfold State.stopFollow
  try extract_lets -merge -underBinder t0 t1
  refine Touches.haveS (t := t1) ?_ (fun ht1 => ?_)
  ·
    unfold t1
    with_reducible refine Touches.set_pair ?_ ?_
    on_goal 2 => exact Part.within_mem rfl hw
    with_reducible exact Touches.refl _ _
  try clear_value t1
  with_reducible refine Touches.ite ?_ ?_
  ·
    with_reducible exact Touches.refl _ _
  ·
    split
    ·
      try extract_lets -merge -underBinder t2 t3
      refine Touches.haveS (t := t3) ?_ (fun ht3 => ?_)
      ·
        unfold t3
        with_reducible refine Touches.set_ref ?_ ?_
        on_goal 2 => exact Part.within_mem rfl hw
        with_reducible exact ht1
      try clear_value t3
      with_reducible refine Touches.step ?_ (State.updateClass_touches _ ?_)
      on_goal 2 => exact Part.within_trans rfl hw
      with_reducible refine Touches.step ?_ (State.setTstate_touches _ _ _ ?_)
      on_goal 2 => exact Part.within_trans rfl hw
      with_reducible exact ht3
    ·
      try extract_lets -merge -underBinder t4 t5 t6 t7 t8
      try clear_value t4
      refine Touches.haveS (t := t7) ?_ (fun ht7 => ?_)
      ·
        unfold t7
        with_reducible refine Touches.step ?_ (State.setTstate_touches _ _ _ ?_)
        on_goal 2 => exact Part.within_trans rfl hw
        with_reducible refine Touches.set_ref ?_ ?_
        on_goal 2 => exact Part.within_mem rfl hw
        with_reducible exact ht1
      try clear_value t7
      with_reducible refine Touches.ite ?_ ?_
      ·
        with_reducible refine Touches.step ?_ (State.updateClass_touches _ ?_)
        on_goal 2 => exact Part.within_trans rfl hw
        with_reducible refine Touches.step ?_ (State.raise_touches _ _ _ _ _ ?_)
        on_goal 2 => exact Part.within_trans rfl hw
        with_reducible refine Touches.set_ref ?_ ?_
        on_goal 2 => exact Part.within_mem rfl hw
        with_reducible exact ht1
      ·
        with_reducible refine Touches.ite ?_ ?_
        ·
          with_reducible exact ht7
        ·
          with_reducible refine Touches.set_ref ?_ ?_
          on_goal 2 => exact Part.within_mem rfl hw
          with_reducible exact ht7

theorem State.unmirror_touches {ps : List Part} s (hw : Part.within [.fdb] ps = true) : Touches ps s (State.unmirror s) := by
  unfold State.unmirror
  try extract_lets -merge -underBinder t0
  with_reducible refine Touches.set_fdb ?_ ?_
  on_goal 2 => exact Part.within_mem rfl hw
  with_reducible exact Touches.refl _ _

theorem State.showMirror_touches {ps : List Part} s a1 (hw : Part.within [.evt, .hif, .tcore, .ref, .rc .evtPinStat, .rc .evtSuppressed, .rc .hifEvtLost] ps = true) : Touches ps s (State.showMirror s a1) := by
  unfold State.showMirror
  try extract_lets -merge -underBinder t0 t1 t2 t3 t4
  try clear_value t0
  try clear_value t1
  refine Touches.haveS (t := t2) ?_ (fun ht2 => ?_)
  ·
    unfold t2
    with_reducible refine Touches.step ?_ (State.raiseIf_touches _ _ _ _ _ _ ?_)
    on_goal 2 => exact Part.within_trans rfl hw
    with_reducible exact Touches.refl _ _
  try clear_value t2
  with_reducible refine Touches.step ?_ (State.setQuality_touches _ _ ?_)
  on_goal 2 => exact Part.within_trans rfl hw
  refine Touches.mk hw ?_
  with_reducible exact ht2

theorem State.startFollow_touches {ps : List Part} s (hw : Part.within [.evt, .hif, .tcore, .ref, .pair, .rc .evtPinStat, .rc .evtSuppressed, .rc .hifEvtLost] ps = true) : Touches ps s (State.startFollow s) := by
  unfold State.startFollow
  try extract_lets -merge -underBinder t0 t1 t2 t3 t4
  refine Touches.haveS (t := t0) ?_ (fun ht0 => ?_)
  ·
    unfold t0
    with_reducible refine Touches.ite ?_ ?_
    ·
      with_reducible exact Touches.refl _ _
    ·
      with_reducible refine Touches.step ?_ (State.startThaw_touches _ ?_)
      on_goal 2 => exact Part.within_trans rfl hw
      with_reducible exact Touches.refl _ _
  try clear_value t0
  refine Touches.haveS (t := t4) ?_ (fun ht4 => ?_)
  ·
    unfold t4
    refine Touches.mk hw ?_
    with_reducible exact ht0
  try clear_value t4
  with_reducible refine Touches.ite ?_ ?_
  ·
    with_reducible exact Touches.refl _ _
  ·
    split
    ·
      with_reducible refine Touches.step ?_ (State.showMirror_touches _ _ ?_)
      on_goal 2 => exact Part.within_trans rfl hw
      with_reducible exact ht4
    ·
      with_reducible exact ht4

theorem State.goPair_touches {ps : List Part} s a1 (hw : Part.within [.clk, .evt, .hif, .fdb, .tcore, .ref, .free, .pair, .pwr, .boot, .rc .evtPinStat, .rc .evtSuppressed, .rc .hifEvtLost, .rc .hifRingAborted, .rc .pairMirOvf, .rc .pwrWakeSrc] ps = true) : Touches ps s (State.goPair s a1) := by
  unfold State.goPair
  try extract_lets -merge -underBinder t0 t1 t2 t3 t4
  refine Touches.haveS (t := t0) ?_ (fun ht0 => ?_)
  ·
    unfold t0
    with_reducible refine Touches.ite ?_ ?_
    ·
      with_reducible refine Touches.step ?_ (State.rehearseAbort_touches _ ?_)
      on_goal 2 => exact Part.within_trans rfl hw
      with_reducible refine Touches.step ?_ (State.stopFollow_touches _ ?_)
      on_goal 2 => exact Part.within_trans rfl hw
      with_reducible exact Touches.refl _ _
    ·
      with_reducible exact Touches.refl _ _
  try clear_value t0
  try clear_value t1
  try clear_value t2
  refine Touches.haveS (t := t3) ?_ (fun ht3 => ?_)
  ·
    unfold t3
    with_reducible refine Touches.set_pair ?_ ?_
    on_goal 2 => exact Part.within_mem rfl hw
    with_reducible exact ht0
  try clear_value t3
  refine Touches.haveS (t := t4) ?_ (fun ht4 => ?_)
  ·
    unfold t4
    with_reducible refine Touches.step ?_ (State.raise_touches _ _ _ _ _ ?_)
    on_goal 2 => exact Part.within_trans rfl hw
    with_reducible exact ht3
  try clear_value t4
  with_reducible refine Touches.ite ?_ ?_
  ·
    with_reducible exact Touches.refl _ _
  ·
    with_reducible refine Touches.ite ?_ ?_
    ·
      with_reducible refine Touches.step ?_ (State.unmirror_touches _ ?_)
      on_goal 2 => exact Part.within_trans rfl hw
      with_reducible exact ht4
    ·
      with_reducible refine Touches.ite ?_ ?_
      ·
        with_reducible refine Touches.step ?_ (State.startFollow_touches _ ?_)
        on_goal 2 => exact Part.within_trans rfl hw
        with_reducible exact ht4
      ·
        with_reducible exact ht4

theorem State.resyncDrop_touches {ps : List Part} s (hw : Part.within [.hif, .pair, .boot, .rc .hifRingAborted] ps = true) : Touches ps s (State.resyncDrop s) := by
  unfold State.resyncDrop
  split
  ·
    try extract_lets -merge -underBinder t0
    with_reducible refine Touches.step ?_ (State.complete_touches _ _ _ _ _ _ _ ?_)
    on_goal 2 => exact Part.within_trans rfl hw
    with_reducible refine Touches.set_pair ?_ ?_
    on_goal 2 => exact Part.within_mem rfl hw
    with_reducible exact Touches.refl _ _
  ·
    with_reducible exact Touches.refl _ _

theorem State.pairPromote_touches {ps : List Part} s a1 a2 (hw : Part.within [.clk, .evt, .hif, .fdb, .tcore, .ref, .free, .pair, .pwr, .boot, .rc .evtPinStat, .rc .evtSuppressed, .rc .hifEvtLost, .rc .hifRingAborted, .rc .pairMirOvf, .rc .pairPromoteCnt, .rc .pwrWakeSrc] ps = true) : Touches ps s (State.pairPromote s a1 a2) := by
  unfold State.pairPromote
  try extract_lets -merge -underBinder t0 t1
  refine Touches.haveS (t := t1) ?_ (fun ht1 => ?_)
  ·
    unfold t1
    with_reducible refine Touches.step ?_ (State.resyncDrop_touches _ ?_)
    on_goal 2 => exact Part.within_trans rfl hw
    with_reducible refine Touches.step ?_ (State.unmirror_touches _ ?_)
    on_goal 2 => exact Part.within_trans rfl hw
    with_reducible refine Touches.step ?_ (State.rehearseAbort_touches _ ?_)
    on_goal 2 => exact Part.within_trans rfl hw
    with_reducible refine Touches.step ?_ (State.stopFollow_touches _ ?_)
    on_goal 2 => exact Part.within_trans rfl hw
    with_reducible refine Touches.set_pair ?_ ?_
    on_goal 2 => exact Part.within_mem rfl hw
    with_reducible exact Touches.refl _ _
  try clear_value t1
  with_reducible refine Touches.step ?_ (State.raise_touches _ _ _ _ _ ?_)
  on_goal 2 => exact Part.within_trans rfl hw
  with_reducible refine Touches.step ?_ (State.bump_touches _ _ _ _ ?_)
  on_goal 2 => exact Part.within_trans rfl hw
  with_reducible exact ht1

theorem State.pairAlone_touches {ps : List Part} s (hw : Part.within [.clk, .evt, .hif, .fdb, .tcore, .ref, .free, .pair, .pwr, .boot, .rc .evtPinStat, .rc .evtSuppressed, .rc .hifEvtLost, .rc .hifRingAborted, .rc .pairMirOvf, .rc .pairPromoteCnt, .rc .pwrWakeSrc] ps = true) : Touches ps s (State.pairAlone s) := by
  unfold State.pairAlone
  try extract_lets -merge -underBinder t0 t1
  try clear_value t0
  refine Touches.haveS (t := t1) ?_ (fun ht1 => ?_)
  ·
    unfold t1
    with_reducible refine Touches.step ?_ (State.goPair_touches _ _ ?_)
    on_goal 2 => exact Part.within_trans rfl hw
    with_reducible exact Touches.refl _ _
  try clear_value t1
  with_reducible refine Touches.ite ?_ ?_
  ·
    with_reducible refine Touches.step ?_ (State.pairPromote_touches _ _ _ ?_)
    on_goal 2 => exact Part.within_trans rfl hw
    with_reducible exact ht1
  ·
    with_reducible exact ht1

theorem State.fdbRemove_touches {ps : List Part} s a1 a2 (hw : Part.within [.evt, .hif, .fdb, .rc .evtPinStat, .rc .evtSuppressed, .rc .hifEvtLost] ps = true) : Touches ps s (State.fdbRemove s a1 a2) := by
  unfold State.fdbRemove
  try extract_lets -merge -underBinder t0 t1
  refine Touches.haveS (t := t0) ?_ (fun ht0 => ?_)
  ·
    unfold t0
    with_reducible refine Touches.step ?_ (State.bumpVersion_touches _ _ ?_)
    on_goal 2 => exact Part.within_trans rfl hw
    with_reducible exact Touches.refl _ _
  try clear_value t0
  with_reducible refine Touches.set_fdb ?_ ?_
  on_goal 2 => exact Part.within_mem rfl hw
  with_reducible exact ht0

theorem State.flowAgain_touches {ps : List Part} s a1 (hw : Part.within [.keys, .regs, .evt, .hif, .index, .objs, .sw, .fab, .bpm, .fdb, .free, .eng, .pair, .boot, .rc .bpmDoubleFreeCnt, .rc .bpmForeignFreeCnt, .rc .bpmPoolEmptyCnt, .rc .bpmPromoteCnt, .rc .evtPinStat, .rc .evtSuppressed, .rc .hifEvtLost, .rc .hifRingAborted, .rc .pairMirOvf, .rc .perfTagDrop] ps = true) : Touches ps s (State.flowAgain s a1) := by
  unfold State.flowAgain
  split
  ·
    with_reducible refine Touches.step ?_ (State.admNext_touches _ _ _ ?_)
    on_goal 2 => exact Part.within_trans rfl hw
    with_reducible exact Touches.refl _ _
  ·
    with_reducible refine Touches.step ?_ (State.flowNext_touches _ _ _ ?_)
    on_goal 2 => exact Part.within_trans rfl hw
    with_reducible exact Touches.refl _ _
  ·
    with_reducible refine Touches.step ?_ (State.flowNext_touches _ _ _ ?_)
    on_goal 2 => exact Part.within_trans rfl hw
    with_reducible exact Touches.refl _ _
  ·
    with_reducible refine Touches.step ?_ (State.flowNext_touches _ _ _ ?_)
    on_goal 2 => exact Part.within_trans rfl hw
    with_reducible exact Touches.refl _ _

theorem State.flowKill_touches {ps : List Part} s a1 (hw : Part.within [.keys, .regs, .evt, .hif, .index, .objs, .sw, .fab, .bpm, .fdb, .free, .eng, .pair, .boot, .rc .bpmDoubleFreeCnt, .rc .bpmForeignFreeCnt, .rc .bpmPoolEmptyCnt, .rc .bpmPromoteCnt, .rc .evtPinStat, .rc .evtSuppressed, .rc .hifEvtLost, .rc .hifRingAborted, .rc .pairMirOvf, .rc .perfTagDrop] ps = true) : Touches ps s (State.flowKill s a1) := by
  unfold State.flowKill
  try extract_lets -merge -underBinder t0 t1 t2 t3
  try clear_value t0
  try clear_value t1
  refine Touches.haveS (t := t2) ?_ (fun ht2 => ?_)
  ·
    unfold t2
    with_reducible refine Touches.step ?_ (State.flowAbort_touches _ _ ?_)
    on_goal 2 => exact Part.within_trans rfl hw
    with_reducible exact Touches.refl _ _
  try clear_value t2
  refine Touches.haveS (t := t3) ?_ (fun ht3 => ?_)
  ·
    unfold t3
    split
    ·
      with_reducible refine Touches.step ?_ (State.drainDone_touches _ _ _ _ _ ?_)
      on_goal 2 => exact Part.within_trans rfl hw
      with_reducible exact ht2
    ·
      with_reducible refine Touches.step ?_ (State.raiseIf_touches _ _ _ _ _ _ ?_)
      on_goal 2 => exact Part.within_trans rfl hw
      with_reducible exact ht2
  try clear_value t3
  with_reducible refine Touches.foldl (fun _ _ => ?_) _ ?_
  ·
    with_reducible refine Touches.step ?_ (State.flowAgain_touches _ _ ?_)
    on_goal 2 => exact Part.within_trans rfl hw
    with_reducible exact Touches.refl _ _
  ·
    with_reducible refine Touches.step ?_ (State.dropObj_touches _ _ _ ?_)
    on_goal 2 => exact Part.within_trans rfl hw
    with_reducible refine Touches.step ?_ (State.flowDrop_touches _ _ ?_)
    on_goal 2 => exact Part.within_trans rfl hw
    with_reducible exact ht3

theorem State.resyncStart_touches {ps : List Part} s (hw : Part.within [.clk, .keys, .regs, .evt, .hif, .index, .objs, .sw, .fab, .bpm, .fdb, .tcore, .ref, .free, .eng, .pair, .pwr, .boot, .rc .bpmDoubleFreeCnt, .rc .bpmForeignFreeCnt, .rc .bpmPoolEmptyCnt, .rc .bpmPromoteCnt, .rc .evtPinStat, .rc .evtSuppressed, .rc .hifEvtLost, .rc .hifRingAborted, .rc .pairMirOvf, .rc .perfTagDrop, .rc .pwrWakeSrc] ps = true) : Touches ps s (State.resyncStart s) := by
  unfold State.resyncStart
  try extract_lets -merge -underBinder t0 t1 t2 t3 t4
  try clear_value t0
  refine Touches.haveS (t := t1) ?_ (fun ht1 => ?_)
  ·
    unfold t1
    with_reducible refine Touches.foldl (fun _ _ => ?_) _ ?_
    ·
      with_reducible refine Touches.ite ?_ ?_
      ·
        with_reducible exact Touches.refl _ _
      ·
        with_reducible refine Touches.step ?_ (State.fdbRemove_touches _ _ _ ?_)
        on_goal 2 => exact Part.within_trans rfl hw
        with_reducible exact Touches.refl _ _
    ·
      with_reducible exact Touches.refl _ _
  try clear_value t1
  refine Touches.haveS (t := t2) ?_ (fun ht2 => ?_)
  ·
    unfold t2
    with_reducible refine Touches.step ?_ (State.goPair_touches _ _ ?_)
    on_goal 2 => exact Part.within_trans rfl hw
    with_reducible refine Touches.foldl (fun _ _ => ?_) _ ?_
    ·
      with_reducible refine Touches.step ?_ (State.flowKill_touches _ _ ?_)
      on_goal 2 => exact Part.within_trans rfl hw
      with_reducible exact Touches.refl _ _
    ·
      with_reducible exact ht1
  try clear_value t2
  refine Touches.mk hw ?_
  with_reducible exact ht2

theorem State.pairStandby_touches {ps : List Part} s (hw : Part.within [.clk, .keys, .regs, .evt, .hif, .index, .objs, .sw, .fab, .bpm, .fdb, .tcore, .ref, .free, .eng, .pair, .pwr, .boot, .rc .bpmDoubleFreeCnt, .rc .bpmForeignFreeCnt, .rc .bpmPoolEmptyCnt, .rc .bpmPromoteCnt, .rc .evtPinStat, .rc .evtSuppressed, .rc .hifEvtLost, .rc .hifRingAborted, .rc .pairMirOvf, .rc .perfTagDrop, .rc .pwrWakeSrc] ps = true) : Touches ps s (State.pairStandby s) := by
  unfold State.pairStandby
  try extract_lets -merge -underBinder t0
  with_reducible refine Touches.step ?_ (State.resyncStart_touches _ ?_)
  on_goal 2 => exact Part.within_trans rfl hw
  with_reducible refine Touches.set_pair ?_ ?_
  on_goal 2 => exact Part.within_mem rfl hw
  with_reducible exact Touches.refl _ _

theorem State.pairCompare_touches {ps : List Part} s (hw : Part.within [.clk, .keys, .regs, .evt, .hif, .index, .objs, .sw, .fab, .bpm, .fdb, .tcore, .ref, .free, .eng, .pair, .pwr, .boot, .rc .bpmDoubleFreeCnt, .rc .bpmForeignFreeCnt, .rc .bpmPoolEmptyCnt, .rc .bpmPromoteCnt, .rc .evtPinStat, .rc .evtSuppressed, .rc .hifEvtLost, .rc .hifRingAborted, .rc .pairMirOvf, .rc .perfTagDrop, .rc .pwrWakeSrc] ps = true) : Touches ps s (State.pairCompare s) := by
  unfold State.pairCompare
  try extract_lets -merge -underBinder t0 t1
  try clear_value t0
  try clear_value t1
  with_reducible refine Touches.ite ?_ ?_
  ·
    with_reducible refine Touches.step ?_ (State.resyncStart_touches _ ?_)
    on_goal 2 => exact Part.within_trans rfl hw
    with_reducible exact Touches.refl _ _
  ·
    with_reducible refine Touches.ite ?_ ?_
    ·
      with_reducible refine Touches.step ?_ (State.pairStandby_touches _ ?_)
      on_goal 2 => exact Part.within_trans rfl hw
      with_reducible exact Touches.refl _ _
    ·
      with_reducible refine Touches.step ?_ (State.goPair_touches _ _ ?_)
      on_goal 2 => exact Part.within_trans rfl hw
      with_reducible exact Touches.refl _ _

theorem State.pairPaths_touches {ps : List Part} s (hw : Part.within [.clk, .keys, .regs, .evt, .hif, .index, .objs, .sw, .fab, .bpm, .fdb, .tcore, .ref, .free, .eng, .pair, .pwr, .boot, .rc .bpmDoubleFreeCnt, .rc .bpmForeignFreeCnt, .rc .bpmPoolEmptyCnt, .rc .bpmPromoteCnt, .rc .evtPinStat, .rc .evtSuppressed, .rc .hifEvtLost, .rc .hifRingAborted, .rc .pairMirOvf, .rc .pairPromoteCnt, .rc .perfTagDrop, .rc .pwrWakeSrc] ps = true) : Touches ps s (State.pairPaths s) := by
  unfold State.pairPaths
  try extract_lets -merge -underBinder t0
  try dsimp only [t0]
  split
  ·
    with_reducible refine Touches.ite ?_ ?_
    ·
      with_reducible refine Touches.ite ?_ ?_
      ·
        with_reducible refine Touches.step ?_ (State.pairAlone_touches _ ?_)
        on_goal 2 => exact Part.within_trans rfl hw
        with_reducible exact Touches.refl _ _
      ·
        with_reducible refine Touches.step ?_ (State.goPair_touches _ _ ?_)
        on_goal 2 => exact Part.within_trans rfl hw
        with_reducible exact Touches.refl _ _
    ·
      with_reducible exact Touches.refl _ _
  ·
    with_reducible refine Touches.ite ?_ ?_
    ·
      with_reducible refine Touches.ite ?_ ?_
      ·
        with_reducible refine Touches.step ?_ (State.pairAlone_touches _ ?_)
        on_goal 2 => exact Part.within_trans rfl hw
        with_reducible exact Touches.refl _ _
      ·
        with_reducible refine Touches.step ?_ (State.goPair_touches _ _ ?_)
        on_goal 2 => exact Part.within_trans rfl hw
        with_reducible exact Touches.refl _ _
    ·
      with_reducible exact Touches.refl _ _
  ·
    with_reducible refine Touches.ite ?_ ?_
    ·
      with_reducible refine Touches.ite ?_ ?_
      ·
        with_reducible refine Touches.step ?_ (State.resyncStart_touches _ ?_)
        on_goal 2 => exact Part.within_trans rfl hw
        with_reducible exact Touches.refl _ _
      ·
        with_reducible refine Touches.step ?_ (State.goPair_touches _ _ ?_)
        on_goal 2 => exact Part.within_trans rfl hw
        with_reducible exact Touches.refl _ _
    ·
      with_reducible refine Touches.ite ?_ ?_
      ·
        with_reducible refine Touches.step ?_ (State.pairAlone_touches _ ?_)
        on_goal 2 => exact Part.within_trans rfl hw
        with_reducible exact Touches.refl _ _
      ·
        with_reducible exact Touches.refl _ _
  ·
    with_reducible refine Touches.ite ?_ ?_
    ·
      with_reducible refine Touches.step ?_ (State.pairCompare_touches _ ?_)
      on_goal 2 => exact Part.within_trans rfl hw
      with_reducible exact Touches.refl _ _
    ·
      with_reducible exact Touches.refl _ _
  ·
    with_reducible exact Touches.refl _ _

theorem State.pairCommit_touches {ps : List Part} s (hw : Part.within [.clk, .keys, .regs, .evt, .hif, .index, .objs, .sw, .fab, .bpm, .fdb, .tcore, .ref, .free, .eng, .pair, .pwr, .boot, .rc .bpmDoubleFreeCnt, .rc .bpmForeignFreeCnt, .rc .bpmPoolEmptyCnt, .rc .bpmPromoteCnt, .rc .evtPinStat, .rc .evtSuppressed, .rc .hifEvtLost, .rc .hifRingAborted, .rc .pairMirOvf, .rc .pairPromoteCnt, .rc .perfTagDrop, .rc .pwrWakeSrc] ps = true) : Touches ps s (State.pairCommit s) := by
  unfold State.pairCommit
  try extract_lets -merge -underBinder t0 t1 t2 t3 t4 t5
  refine Touches.haveS (t := t1) ?_ (fun ht1 => ?_)
  ·
    unfold t1
    with_reducible refine Touches.step ?_ (State.goPair_touches _ _ ?_)
    on_goal 2 => exact Part.within_trans rfl hw
    with_reducible refine Touches.set_pair ?_ ?_
    on_goal 2 => exact Part.within_mem rfl hw
    with_reducible exact Touches.refl _ _
  try clear_value t1
  refine Touches.haveS (t := t2) ?_ (fun ht2 => ?_)
  ·
    unfold t2
    with_reducible refine Touches.step ?_ (State.resyncDrop_touches _ ?_)
    on_goal 2 => exact Part.within_trans rfl hw
    with_reducible refine Touches.step ?_ (State.unmirror_touches _ ?_)
    on_goal 2 => exact Part.within_trans rfl hw
    with_reducible exact ht1
  try clear_value t2
  refine Touches.haveS (t := t5) ?_ (fun ht5 => ?_)
  ·
    unfold t5
    with_reducible refine Touches.ite ?_ ?_
    ·
      with_reducible exact Touches.refl _ _
    ·
      with_reducible refine Touches.set_pair ?_ ?_
      on_goal 2 => exact Part.within_mem rfl hw
      with_reducible exact Touches.refl _ _
  try clear_value t5
  with_reducible refine Touches.ite ?_ ?_
  ·
    with_reducible refine Touches.ite ?_ ?_
    ·
      with_reducible exact Touches.refl _ _
    ·
      with_reducible refine Touches.set_pair ?_ ?_
      on_goal 2 => exact Part.within_mem rfl hw
      with_reducible exact ht2
  ·
    with_reducible refine Touches.ite ?_ ?_
    ·
      with_reducible refine Touches.step ?_ (State.goPair_touches _ _ ?_)
      on_goal 2 => exact Part.within_trans rfl hw
      with_reducible exact ht5
    ·
      with_reducible refine Touches.step ?_ (State.pairPaths_touches _ ?_)
      on_goal 2 => exact Part.within_trans rfl hw
      with_reducible exact ht5

theorem State.lnkEvalAll_touches {ps : List Part} s (hw : Part.within [.evt, .hif, .lnk, .tic, .cal, .rc .calAbortCnt, .rc .evtPinStat, .rc .evtSuppressed, .rc .hifEvtLost] ps = true) : Touches ps s (State.lnkEvalAll s) := by
  unfold State.lnkEvalAll
  with_reducible refine Touches.foldl (fun _ _ => ?_) _ ?_
  ·
    with_reducible refine Touches.step ?_ (State.lnkEval_touches _ _ ?_)
    on_goal 2 => exact Part.within_trans rfl hw
    with_reducible exact Touches.refl _ _
  ·
    with_reducible exact Touches.refl _ _

theorem State.ltxFold_touches {ps : List Part} s (hw : Part.within [.pll] ps = true) : Touches ps s (State.ltxFold s) := by
  unfold State.ltxFold
  try extract_lets -merge -underBinder t0 t1 t2
  try clear_value t0
  try clear_value t1
  with_reducible refine Touches.set_pll ?_ ?_
  on_goal 2 => exact Part.within_mem rfl hw
  with_reducible exact Touches.refl _ _

theorem State.pllClear_touches {ps : List Part} s a1 (hw : Part.within [.pll, .eng] ps = true) : Touches ps s (State.pllClear s a1) := by
  unfold State.pllClear
  try extract_lets -merge -underBinder t0 t1 t2
  refine Touches.haveS (t := t0) ?_ (fun ht0 => ?_)
  ·
    unfold t0
    with_reducible refine Touches.ite ?_ ?_
    ·
      with_reducible refine Touches.step ?_ (State.ltxFold_touches _ ?_)
      on_goal 2 => exact Part.within_trans rfl hw
      with_reducible exact Touches.refl _ _
    ·
      with_reducible refine Touches.ite ?_ ?_
      ·
        with_reducible refine Touches.step ?_ (State.cycFold_touches _ ?_)
        on_goal 2 => exact Part.within_trans rfl hw
        with_reducible exact Touches.refl _ _
      ·
        with_reducible exact Touches.refl _ _
  try clear_value t0
  try clear_value t1
  with_reducible refine Touches.step ?_ (State.setPll_touches _ _ _ ?_)
  on_goal 2 => exact Part.within_trans rfl hw
  with_reducible exact ht0

theorem State.pllOff_touches {ps : List Part} s a1 (hw : Part.within [.evt, .hif, .pll, .eng, .rc .evtPinStat, .rc .evtSuppressed, .rc .hifEvtLost] ps = true) : Touches ps s (State.pllOff s a1) := by
  unfold State.pllOff
  with_reducible refine Touches.step ?_ (State.goPll_touches _ _ _ ?_)
  on_goal 2 => exact Part.within_trans rfl hw
  with_reducible refine Touches.step ?_ (State.pllClear_touches _ _ ?_)
  on_goal 2 => exact Part.within_trans rfl hw
  with_reducible exact Touches.refl _ _

theorem State.pllStart_touches {ps : List Part} s a1 (hw : Part.within [.evt, .hif, .pll, .eng, .rc .evtPinStat, .rc .evtSuppressed, .rc .hifEvtLost] ps = true) : Touches ps s (State.pllStart s a1) := by
  unfold State.pllStart
  with_reducible refine Touches.step ?_ (State.goPll_touches _ _ _ ?_)
  on_goal 2 => exact Part.within_trans rfl hw
  with_reducible refine Touches.step ?_ (State.pllClear_touches _ _ ?_)
  on_goal 2 => exact Part.within_trans rfl hw
  with_reducible exact Touches.refl _ _

theorem State.pllCommitPost_touches {ps : List Part} s a1 (hw : Part.within [.evt, .hif, .pll, .eng, .rc .evtPinStat, .rc .evtSuppressed, .rc .hifEvtLost] ps = true) : Touches ps s (State.pllCommitPost s a1) := by
  unfold State.pllCommitPost
  try extract_lets -merge -underBinder t0 t1 t2
  refine Touches.haveS (t := t0) ?_ (fun ht0 => ?_)
  ·
    unfold t0
    with_reducible refine Touches.foldl (fun _ _ => ?_) _ ?_
    ·
      with_reducible refine Touches.ite ?_ ?_
      ·
        with_reducible refine Touches.ite ?_ ?_
        ·
          with_reducible exact Touches.refl _ _
        ·
          with_reducible refine Touches.step ?_ (State.pllOff_touches _ _ ?_)
          on_goal 2 => exact Part.within_trans rfl hw
          with_reducible exact Touches.refl _ _
      ·
        with_reducible refine Touches.ite ?_ ?_
        ·
          with_reducible refine Touches.step ?_ (State.pllStart_touches _ _ ?_)
          on_goal 2 => exact Part.within_trans rfl hw
          with_reducible exact Touches.refl _ _
        ·
          with_reducible exact Touches.refl _ _
    ·
      with_reducible exact Touches.refl _ _
  try clear_value t0
  try clear_value t1
  with_reducible refine Touches.set_pll ?_ ?_
  on_goal 2 => exact Part.within_mem rfl hw
  with_reducible exact ht0

theorem State.commit_touches {ps : List Part} s (hw : Part.within [.clk, .keys, .regs, .evt, .hif, .index, .objs, .lanes, .grps, .sw, .fab, .bpm, .fdb, .tcore, .tchans, .lnk, .ref, .free, .pll, .tic, .cal, .eng, .pair, .pwr, .boot, .rc .bpmDoubleFreeCnt, .rc .bpmForeignFreeCnt, .rc .bpmPoolEmptyCnt, .rc .bpmPromoteCnt, .rc .calAbortCnt, .rc .evtPinStat, .rc .evtSuppressed, .rc .hifEvtLost, .rc .hifRingAborted, .rc .pairMirOvf, .rc .pairPromoteCnt, .rc .perfTagDrop, .rc .pllCnt, .rc .portHoldFlush, .rc .pwrWakeSrc] ps = true) : Touches ps s (State.commit s) := by
  unfold State.commit
  try extract_lets -merge -underBinder t0 t1 t2 t3
  try clear_value t0
  refine Touches.haveS (t := t1) ?_ (fun ht1 => ?_)
  ·
    unfold t1
    with_reducible refine Touches.foldl (fun _ _ => ?_) _ ?_
    ·
      with_reducible refine Touches.step ?_ (State.commitWord_touches _ _ ?_)
      on_goal 2 => exact Part.within_trans rfl hw
      with_reducible exact Touches.refl _ _
    ·
      with_reducible refine Touches.step ?_ (State.pllCommitPre_touches _ _ ?_)
      on_goal 2 => exact Part.within_trans rfl hw
      with_reducible exact Touches.refl _ _
  try clear_value t1
  refine Touches.haveS (t := t3) ?_ (fun ht3 => ?_)
  ·
    unfold t3
    with_reducible refine Touches.set_regs ?_ ?_
    on_goal 2 => exact Part.within_mem rfl hw
    with_reducible exact ht1
  try clear_value t3
  with_reducible refine Touches.step ?_ (State.xoffUpdate_touches _ ?_)
  on_goal 2 => exact Part.within_trans rfl hw
  with_reducible refine Touches.step ?_ (State.causesClear_touches _ ?_)
  on_goal 2 => exact Part.within_trans rfl hw
  with_reducible refine Touches.step ?_ (State.pairCommit_touches _ ?_)
  on_goal 2 => exact Part.within_trans rfl hw
  with_reducible refine Touches.step ?_ (State.lnkEvalAll_touches _ ?_)
  on_goal 2 => exact Part.within_trans rfl hw
  with_reducible refine Touches.step ?_ (State.pairsEval_touches _ _ ?_)
  on_goal 2 => exact Part.within_trans rfl hw
  with_reducible refine Touches.step ?_ (State.pllCommitPost_touches _ _ ?_)
  on_goal 2 => exact Part.within_trans rfl hw
  with_reducible exact ht3

theorem State.commitWrite_touches {ps : List Part} s a1 (hw : Part.within [.clk, .keys, .regs, .evt, .hif, .index, .objs, .lanes, .grps, .sw, .fab, .bpm, .fdb, .tcore, .tchans, .lnk, .ref, .free, .pll, .tic, .cal, .eng, .pair, .pwr, .boot, .rc .bpmDoubleFreeCnt, .rc .bpmForeignFreeCnt, .rc .bpmPoolEmptyCnt, .rc .bpmPromoteCnt, .rc .calAbortCnt, .rc .evtPinStat, .rc .evtSuppressed, .rc .hifEvtLost, .rc .hifRingAborted, .rc .pairMirOvf, .rc .pairPromoteCnt, .rc .perfTagDrop, .rc .pllCnt, .rc .portHoldFlush, .rc .pwrWakeSrc] ps = true) : Touches ps s (State.commitWrite s a1) := by
  unfold State.commitWrite
  with_reducible refine Touches.ite ?_ ?_
  ·
    with_reducible exact Touches.refl _ _
  ·
    with_reducible refine Touches.ite ?_ ?_
    ·
      with_reducible refine Touches.step ?_ (State.discard_touches _ ?_)
      on_goal 2 => exact Part.within_trans rfl hw
      with_reducible exact Touches.refl _ _
    ·
      with_reducible refine Touches.ite ?_ ?_
      ·
        with_reducible exact Touches.refl _ _
      ·
        with_reducible refine Touches.ite ?_ ?_
        ·
          with_reducible refine Touches.step ?_ (State.commitAtSec_touches _ ?_)
          on_goal 2 => exact Part.within_trans rfl hw
          with_reducible exact Touches.refl _ _
        ·
          with_reducible refine Touches.step ?_ (State.commit_touches _ ?_)
          on_goal 2 => exact Part.within_trans rfl hw
          with_reducible exact Touches.refl _ _

theorem State.persStore_touches {ps : List Part} s a1 a2 (hw : Part.within [.evt, .pers, .hif, .rc .evtPinStat, .rc .evtSuppressed, .rc .hifEvtLost] ps = true) : Touches ps s (State.persStore s a1 a2) := by
  unfold State.persStore
  split
  ·
    try extract_lets -merge -underBinder t0
    with_reducible refine Touches.ite ?_ ?_
    ·
      with_reducible exact Touches.refl _ _
    ·
      with_reducible refine Touches.set_pers ?_ ?_
      on_goal 2 => exact Part.within_mem rfl hw
      with_reducible exact Touches.refl _ _
  ·
    with_reducible refine Touches.step ?_ (State.raise_touches _ _ _ _ _ ?_)
    on_goal 2 => exact Part.within_trans rfl hw
    with_reducible exact Touches.refl _ _
  ·
    with_reducible refine Touches.step ?_ (State.raise_touches _ _ _ _ _ ?_)
    on_goal 2 => exact Part.within_trans rfl hw
    with_reducible exact Touches.refl _ _

theorem State.persWrite_touches {ps : List Part} s a1 a2 a3 (hw : Part.within [.keys, .evt, .pers, .hif, .rc .evtPinStat, .rc .evtSuppressed, .rc .hifEvtLost] ps = true) : Touches ps s (State.persWrite s a1 a2 a3) := by
  unfold State.persWrite
  try extract_lets -merge -underBinder t0 t1 t2
  try clear_value t0
  refine Touches.haveS (t := t1) ?_ (fun ht1 => ?_)
  ·
    unfold t1
    with_reducible refine Touches.step ?_ (State.keyed_touches _ _ _ _ ?_ (fun _ => ?_))
    on_goal 2 => exact Part.within_trans rfl hw
    ·
      with_reducible exact Touches.refl _ _
    ·
      with_reducible refine Touches.step ?_ (State.persStore_touches _ _ _ ?_)
      on_goal 2 => exact Part.within_trans rfl hw
      with_reducible exact Touches.refl _ _
  try clear_value t1
  with_reducible refine Touches.set_pers ?_ ?_
  on_goal 2 => exact Part.within_mem rfl hw
  with_reducible exact ht1

theorem State.candAbsent_touches {ps : List Part} s a1 (hw : Part.within [.clk, .evt, .hif, .tcore, .tchans, .ref, .pll, .eng, .pair, .pwr, .rc .evtPinStat, .rc .evtSuppressed, .rc .hifEvtLost, .rc .pairMirOvf, .rc .pllCnt, .rc .pwrWakeSrc] ps = true) : Touches ps s (State.candAbsent s a1) := by
  unfold State.candAbsent
  try extract_lets -merge -underBinder t0 t1
  refine Touches.haveS (t := t1) ?_ (fun ht1 => ?_)
  ·
    unfold t1
    with_reducible refine Touches.ite ?_ ?_
    ·
      with_reducible refine Touches.set_ref ?_ ?_
      on_goal 2 => exact Part.within_mem rfl hw
      with_reducible exact Touches.refl _ _
    ·
      with_reducible exact Touches.refl _ _
  try clear_value t1
  with_reducible refine Touches.ite ?_ ?_
  ·
    with_reducible exact Touches.refl _ _
  ·
    with_reducible refine Touches.step ?_ (State.reselect_touches _ ?_)
    on_goal 2 => exact Part.within_trans rfl hw
    with_reducible refine Touches.step ?_ (State.setCandSt_touches _ _ _ _ ?_)
    on_goal 2 => exact Part.within_trans rfl hw
    with_reducible exact ht1

theorem State.grpDrain_touches {ps : List Part} s a1 (hw : Part.within [.clk, .ready, .evt, .hif, .lanes, .grps, .fab, .tcore, .tchans, .ref, .pll, .tic, .cal, .eng, .pair, .pwr, .rc .calAbortCnt, .rc .evtPinStat, .rc .evtSuppressed, .rc .hifEvtLost, .rc .pairMirOvf, .rc .pllCnt, .rc .pwrWakeSrc] ps = true) : Touches ps s (State.grpDrain s a1) := by
  unfold State.grpDrain
  try extract_lets -merge -underBinder t0 t1 t2
  refine Touches.haveS (t := t1) ?_ (fun ht1 => ?_)
  ·
    unfold t1
    with_reducible refine Touches.step ?_ (State.setReady_touches _ _ _ ?_)
    on_goal 2 => exact Part.within_trans rfl hw
    with_reducible refine Touches.step ?_ (State.setGrp_touches _ _ _ ?_)
    on_goal 2 => exact Part.within_trans rfl hw
    with_reducible exact Touches.refl _ _
  try clear_value t1
  refine Touches.haveS (t := t2) ?_ (fun ht2 => ?_)
  ·
    unfold t2
    with_reducible refine Touches.foldl (fun _ _ => ?_) _ ?_
    ·
      try extract_lets -merge -underBinder t3
      with_reducible refine Touches.step ?_ (State.portChansLost_touches _ _ ?_)
      on_goal 2 => exact Part.within_trans rfl hw
      with_reducible refine Touches.step ?_ (State.candAbsent_touches _ _ ?_)
      on_goal 2 => exact Part.within_trans rfl hw
      with_reducible refine Touches.step ?_ (State.setLane_touches _ _ _ ?_)
      on_goal 2 => exact Part.within_trans rfl hw
      with_reducible exact Touches.refl _ _
    ·
      with_reducible exact ht1
  try clear_value t2
  with_reducible refine Touches.step ?_ (State.xoffUpdate_touches _ ?_)
  on_goal 2 => exact Part.within_trans rfl hw
  with_reducible refine Touches.step ?_ (State.calLose_touches _ _ ?_)
  on_goal 2 => exact Part.within_trans rfl hw
  with_reducible exact ht2

theorem State.grpPortsDown_touches {ps : List Part} s a1 (hw : Part.within [.evt, .hif, .sw, .fab, .bpm, .fdb, .free, .eng, .rc .bpmDoubleFreeCnt, .rc .bpmForeignFreeCnt, .rc .evtPinStat, .rc .evtSuppressed, .rc .hifEvtLost, .rc .perfTagDrop] ps = true) : Touches ps s (State.grpPortsDown s a1) := by
  unfold State.grpPortsDown
  try extract_lets -merge -underBinder t0 t1
  try clear_value t0
  refine Touches.haveS (t := t1) ?_ (fun ht1 => ?_)
  ·
    unfold t1
    with_reducible refine Touches.foldl (fun _ _ => ?_) _ ?_
    ·
      with_reducible refine Touches.step ?_ (State.dropFrame_touches _ _ ?_)
      on_goal 2 => exact Part.within_trans rfl hw
      with_reducible exact Touches.refl _ _
    ·
      with_reducible exact Touches.refl _ _
  try clear_value t1
  with_reducible refine Touches.foldl (fun _ _ => ?_) _ ?_
  ·
    try extract_lets -merge -underBinder t2
    with_reducible refine Touches.step ?_ (State.setPort_touches _ _ _ ?_)
    on_goal 2 => exact Part.within_trans rfl hw
    with_reducible exact Touches.refl _ _
  ·
    with_reducible exact ht1

theorem State.grpLose_touches {ps : List Part} s a1 (hw : Part.within [.lanes, .tcore, .lnk] ps = true) : Touches ps s (State.grpLose s a1) := by
  unfold State.grpLose
  with_reducible refine Touches.foldl (fun _ _ => ?_) _ ?_
  ·
    try extract_lets -merge -underBinder t0 t1 t2
    try clear_value t0
    refine Touches.haveS (t := t1) ?_ (fun ht1 => ?_)
    ·
      unfold t1
      with_reducible refine Touches.step ?_ (State.setLnk_touches _ _ _ ?_)
      on_goal 2 => exact Part.within_trans rfl hw
      with_reducible refine Touches.step ?_ (State.setLane_touches _ _ _ ?_)
      on_goal 2 => exact Part.within_trans rfl hw
      with_reducible exact Touches.refl _ _
    try clear_value t1
    with_reducible refine Touches.set_tcore ?_ ?_
    on_goal 2 => exact Part.within_mem rfl hw
    with_reducible exact ht1
  ·
    with_reducible exact Touches.refl _ _

theorem State.padHold_touches {ps : List Part} s a1 a2 (hw : Part.within [.pwr] ps = true) : Touches ps s (State.padHold s a1 a2) := by
  unfold State.padHold
  try extract_lets -merge -underBinder t0
  with_reducible refine Touches.set_pwr ?_ ?_
  on_goal 2 => exact Part.within_mem rfl hw
  with_reducible exact Touches.refl _ _

theorem State.setDom_touches {ps : List Part} s a1 a2 (hw : Part.within [.pwr] ps = true) : Touches ps s (State.setDom s a1 a2) := by
  unfold State.setDom
  try extract_lets -merge -underBinder t0
  with_reducible refine Touches.set_pwr ?_ ?_
  on_goal 2 => exact Part.within_mem rfl hw
  with_reducible exact Touches.refl _ _

theorem State.domSleep_touches {ps : List Part} s a1 a2 (hw : Part.within [.regs, .pwr, .counters] ps = true) : Touches ps s (State.domSleep s a1 a2) := by
  unfold State.domSleep
  try extract_lets -merge -underBinder t0 t1
  refine Touches.haveS (t := t0) ?_ (fun ht0 => ?_)
  ·
    unfold t0
    with_reducible refine Touches.step ?_ (State.setDom_touches _ _ _ ?_)
    on_goal 2 => exact Part.within_trans rfl hw
    with_reducible exact Touches.refl _ _
  try clear_value t0
  refine Touches.mk hw ?_
  with_reducible exact ht0

theorem State.grpRemoved_touches {ps : List Part} s a1 a2 (hw : Part.within [.clk, .regs, .evt, .hif, .lanes, .grps, .sw, .fab, .bpm, .fdb, .tcore, .tchans, .lnk, .ref, .free, .pll, .tic, .cal, .eng, .pair, .pwr, .counters] ps = true) : Touches ps s (State.grpRemoved s a1 a2) := by
  unfold State.grpRemoved
  try extract_lets -merge -underBinder t0 t1 t2 t3 t4 t5 t6 t7
  try clear_value t0
  try clear_value t1
  refine Touches.haveS (t := t2) ?_ (fun ht2 => ?_)
  ·
    unfold t2
    with_reducible refine Touches.step ?_ (State.grpPortsDown_touches _ _ ?_)
    on_goal 2 => exact Part.within_trans rfl hw
    with_reducible refine Touches.step ?_ (State.bump_touches _ _ _ _ ?_)
    on_goal 2 => exact Part.within_trans rfl hw
    with_reducible refine Touches.step ?_ (State.flushCopies_touches _ _ _ ?_)
    on_goal 2 => exact Part.within_trans rfl hw
    with_reducible exact Touches.refl _ _
  try clear_value t2
  refine Touches.haveS (t := t3) ?_ (fun ht3 => ?_)
  ·
    unfold t3
    with_reducible refine Touches.foldl (fun _ _ => ?_) _ ?_
    ·
      with_reducible refine Touches.step ?_ (State.laneStop_touches _ _ ?_)
      on_goal 2 => exact Part.within_trans rfl hw
      with_reducible exact Touches.refl _ _
    ·
      with_reducible exact ht2
  try clear_value t3
  try clear_value t4
  refine Touches.haveS (t := t5) ?_ (fun ht5 => ?_)
  ·
    unfold t5
    with_reducible refine Touches.step ?_ (State.setGrp_touches _ _ _ ?_)
    on_goal 2 => exact Part.within_trans rfl hw
    with_reducible exact ht3
  try clear_value t5
  refine Touches.haveS (t := t6) ?_ (fun ht6 => ?_)
  ·
    unfold t6
    with_reducible refine Touches.step ?_ (State.calLose_touches _ _ ?_)
    on_goal 2 => exact Part.within_trans rfl hw
    with_reducible exact ht5
  try clear_value t6
  refine Touches.haveS (t := t7) ?_ (fun ht7 => ?_)
  ·
    unfold t7
    with_reducible refine Touches.ite ?_ ?_
    ·
      with_reducible refine Touches.step ?_ (State.grpLose_touches _ _ ?_)
      on_goal 2 => exact Part.within_trans rfl hw
      with_reducible exact ht6
    ·
      with_reducible exact ht6
  try clear_value t7
  with_reducible refine Touches.step ?_ (State.afterFree_touches _ ?_)
  on_goal 2 => exact Part.within_trans rfl hw
  with_reducible refine Touches.step ?_ (State.raise_touches _ _ _ _ _ ?_)
  on_goal 2 => exact Part.within_trans rfl hw
  with_reducible refine Touches.step ?_ (State.padHold_touches _ _ _ ?_)
  on_goal 2 => exact Part.within_trans rfl hw
  with_reducible refine Touches.step ?_ (State.domSleep_touches _ _ _ ?_)
  on_goal 2 => exact Part.within_trans rfl hw
  with_reducible exact ht7

theorem State.grpRemove_touches {ps : List Part} s a1 a2 (hw : Part.within [.clk, .ready, .regs, .evt, .hif, .lanes, .grps, .sw, .fab, .bpm, .fdb, .tcore, .tchans, .lnk, .ref, .free, .pll, .tic, .cal, .eng, .pair, .pwr, .counters] ps = true) : Touches ps s (State.grpRemove s a1 a2) := by
  unfold State.grpRemove
  try extract_lets -merge -underBinder t0 t1
  refine Touches.haveS (t := t1) ?_ (fun ht1 => ?_)
  ·
    unfold t1
    with_reducible refine Touches.step ?_ (State.setGrp_touches _ _ _ ?_)
    on_goal 2 => exact Part.within_trans rfl hw
    with_reducible exact Touches.refl _ _
  try clear_value t1
  with_reducible refine Touches.ite ?_ ?_
  ·
    with_reducible refine Touches.step ?_ (State.grpDrain_touches _ _ ?_)
    on_goal 2 => exact Part.within_trans rfl hw
    with_reducible exact ht1
  ·
    with_reducible refine Touches.step ?_ (State.grpRemoved_touches _ _ _ ?_)
    on_goal 2 => exact Part.within_trans rfl hw
    with_reducible refine Touches.foldl (fun _ _ => ?_) _ ?_
    ·
      try extract_lets -merge -underBinder t2
      with_reducible refine Touches.step ?_ (State.candAbsent_touches _ _ ?_)
      on_goal 2 => exact Part.within_trans rfl hw
      with_reducible refine Touches.step ?_ (State.setLane_touches _ _ _ ?_)
      on_goal 2 => exact Part.within_trans rfl hw
      with_reducible exact Touches.refl _ _
    ·
      with_reducible exact ht1

theorem State.cycClear_touches {ps : List Part} s a1 (hw : Part.within [.eng] ps = true) : Touches ps s (State.cycClear s a1) := by
  unfold State.cycClear
  try extract_lets -merge -underBinder t0 t1
  refine Touches.haveS (t := t0) ?_ (fun ht0 => ?_)
  ·
    unfold t0
    with_reducible refine Touches.step ?_ (State.cycFold_touches _ ?_)
    on_goal 2 => exact Part.within_trans rfl hw
    with_reducible exact Touches.refl _ _
  try clear_value t0
  with_reducible refine Touches.setEng ?_ ?_ ?_
  on_goal 2 => exact Part.within_mem rfl hw
  on_goal 2 => rfl
  with_reducible exact ht0

theorem State.setEng_touches {ps : List Part} s a1 a2 (hw : Part.within [.eng] ps = true) : Touches ps s (State.setEng s a1 a2) := by
  unfold State.setEng
  try extract_lets -merge -underBinder t0
  with_reducible refine Touches.setEng ?_ ?_ ?_
  on_goal 2 => exact Part.within_mem rfl hw
  on_goal 2 => rfl
  with_reducible exact Touches.refl _ _

theorem State.goEng_touches {ps : List Part} s a1 a2 (hw : Part.within [.evt, .hif, .eng, .rc .evtPinStat, .rc .evtSuppressed, .rc .hifEvtLost] ps = true) : Touches ps s (State.goEng s a1 a2) := by
  unfold State.goEng
  try extract_lets -merge -underBinder t0 t1 t2
  try clear_value t0
  refine Touches.haveS (t := t1) ?_ (fun ht1 => ?_)
  ·
    unfold t1
    with_reducible refine Touches.ite ?_ ?_
    ·
      with_reducible refine Touches.step ?_ (State.cycClear_touches _ _ ?_)
      on_goal 2 => exact Part.within_trans rfl hw
      with_reducible exact Touches.refl _ _
    ·
      with_reducible exact Touches.refl _ _
  try clear_value t1
  refine Touches.haveS (t := t2) ?_ (fun ht2 => ?_)
  ·
    unfold t2
    with_reducible refine Touches.step ?_ (State.raiseIf_touches _ _ _ _ _ _ ?_)
    on_goal 2 => exact Part.within_trans rfl hw
    with_reducible refine Touches.step ?_ (State.setEng_touches _ _ _ ?_)
    on_goal 2 => exact Part.within_trans rfl hw
    with_reducible exact ht1
  try clear_value t2
  with_reducible refine Touches.step ?_ (State.raiseIf_touches _ _ _ _ _ _ ?_)
  on_goal 2 => exact Part.within_trans rfl hw
  with_reducible exact ht2

theorem State.portChansListen_touches {ps : List Part} s a1 (hw : Part.within [.evt, .hif, .tchans, .rc .evtPinStat, .rc .evtSuppressed, .rc .hifEvtLost] ps = true) : Touches ps s (State.portChansListen s a1) := by
  unfold State.portChansListen
  with_reducible refine Touches.foldl (fun _ _ => ?_) _ ?_
  ·
    with_reducible refine Touches.ite ?_ ?_
    ·
      with_reducible refine Touches.step ?_ (State.setChanSt_touches _ _ _ ?_)
      on_goal 2 => exact Part.within_trans rfl hw
      with_reducible exact Touches.refl _ _
    ·
      with_reducible exact Touches.refl _ _
  ·
    with_reducible exact Touches.refl _ _

theorem State.grpUndrain_touches {ps : List Part} s a1 (hw : Part.within [.ready, .evt, .hif, .lanes, .grps, .tchans, .rc .evtPinStat, .rc .evtSuppressed, .rc .hifEvtLost] ps = true) : Touches ps s (State.grpUndrain s a1) := by
  unfold State.grpUndrain
  try extract_lets -merge -underBinder t0 t1
  refine Touches.haveS (t := t1) ?_ (fun ht1 => ?_)
  ·
    unfold t1
    with_reducible refine Touches.step ?_ (State.setReady_touches _ _ _ ?_)
    on_goal 2 => exact Part.within_trans rfl hw
    with_reducible refine Touches.step ?_ (State.setGrp_touches _ _ _ ?_)
    on_goal 2 => exact Part.within_trans rfl hw
    with_reducible exact Touches.refl _ _
  try clear_value t1
  with_reducible refine Touches.step ?_ (State.raise_touches _ _ _ _ _ ?_)
  on_goal 2 => exact Part.within_trans rfl hw
  with_reducible refine Touches.foldl (fun _ _ => ?_) _ ?_
  ·
    try extract_lets -merge -underBinder t2
    with_reducible refine Touches.step ?_ (State.portChansListen_touches _ _ ?_)
    on_goal 2 => exact Part.within_trans rfl hw
    with_reducible refine Touches.step ?_ (State.setLane_touches _ _ _ ?_)
    on_goal 2 => exact Part.within_trans rfl hw
    with_reducible exact Touches.refl _ _
  ·
    with_reducible exact ht1

theorem State.grpCheck_touches {ps : List Part} s a1 (hw : Part.within [.ready, .regs, .evt, .hif, .grps, .cal, .rc .evtPinStat, .rc .evtSuppressed, .rc .hifEvtLost] ps = true) : Touches ps s (State.grpCheck s a1) := by
  unfold State.grpCheck
  try extract_lets -merge -underBinder t0 t1 t2 t3
  try clear_value t0
  try clear_value t1
  refine Touches.haveS (t := t2) ?_ (fun ht2 => ?_)
  ·
    unfold t2
    with_reducible refine Touches.foldl (fun _ _ => ?_) _ ?_
    ·
      with_reducible refine Touches.step ?_ (State.laneIdl_touches _ _ ?_)
      on_goal 2 => exact Part.within_trans rfl hw
      with_reducible exact Touches.refl _ _
    ·
      with_reducible exact Touches.refl _ _
  try clear_value t2
  with_reducible refine Touches.ite ?_ ?_
  ·
    with_reducible refine Touches.step ?_ (State.raise_touches _ _ _ _ _ ?_)
    on_goal 2 => exact Part.within_trans rfl hw
    with_reducible refine Touches.step ?_ (State.setReady_touches _ _ _ ?_)
    on_goal 2 => exact Part.within_trans rfl hw
    with_reducible refine Touches.step ?_ (State.setGrp_touches _ _ _ ?_)
    on_goal 2 => exact Part.within_trans rfl hw
    with_reducible exact ht2
  ·
    with_reducible exact Touches.refl _ _

theorem State.grpTrain_touches {ps : List Part} s a1 (hw : Part.within [.clk, .ready, .regs, .evt, .hif, .lanes, .grps, .sw, .fab, .bpm, .fdb, .tcore, .tchans, .lnk, .ref, .free, .pll, .tic, .cal, .eng, .pair, .pwr, .rc .bpmDoubleFreeCnt, .rc .bpmForeignFreeCnt, .rc .bpmPoolEmptyCnt, .rc .bpmPromoteCnt, .rc .calAbortCnt, .rc .evtPinStat, .rc .evtSuppressed, .rc .hifEvtLost, .rc .hifRingAborted, .rc .pairMirOvf, .rc .perfTagDrop, .rc .pllCnt, .rc .portHoldFlush, .rc .pwrWakeSrc] ps = true) : Touches ps s (State.grpTrain s a1) := by
  unfold State.grpTrain
  try extract_lets -merge -underBinder t0 t1 t2 t3 t4
  try clear_value t0
  try clear_value t1
  refine Touches.haveS (t := t2) ?_ (fun ht2 => ?_)
  ·
    unfold t2
    split
    ·
      try extract_lets -merge -underBinder t5
      with_reducible refine Touches.set_regs ?_ ?_
      on_goal 2 => exact Part.within_mem rfl hw
      with_reducible exact Touches.refl _ _
    ·
      with_reducible exact Touches.refl _ _
  try clear_value t2
  refine Touches.haveS (t := t3) ?_ (fun ht3 => ?_)
  ·
    unfold t3
    with_reducible refine Touches.step ?_ (State.setGrp_touches _ _ _ ?_)
    on_goal 2 => exact Part.within_trans rfl hw
    with_reducible exact ht2
  try clear_value t3
  refine Touches.haveS (t := t4) ?_ (fun ht4 => ?_)
  ·
    unfold t4
    with_reducible refine Touches.foldl (fun _ _ => ?_) _ ?_
    ·
      try extract_lets -merge -underBinder t6
      with_reducible refine Touches.step ?_ (State.retrain_touches _ _ ?_)
      on_goal 2 => exact Part.within_trans rfl hw
      with_reducible refine Touches.step ?_ (State.setLane_touches _ _ _ ?_)
      on_goal 2 => exact Part.within_trans rfl hw
      with_reducible exact Touches.refl _ _
    ·
      with_reducible exact ht3
  try clear_value t4
  with_reducible refine Touches.step ?_ (State.grpCheck_touches _ _ ?_)
  on_goal 2 => exact Part.within_trans rfl hw
  with_reducible refine Touches.step ?_ (State.pairsEval_touches _ _ ?_)
  on_goal 2 => exact Part.within_trans rfl hw
  with_reducible refine Touches.foldl (fun _ _ => ?_) _ ?_
  ·
    with_reducible refine Touches.step ?_ (State.lnkEval_touches _ _ ?_)
    on_goal 2 => exact Part.within_trans rfl hw
    with_reducible exact Touches.refl _ _
  ·
    with_reducible exact ht4

theorem State.domRestore_touches {ps : List Part} s a1 (hw : Part.within [.regs] ps = true) : Touches ps s (State.domRestore s a1) := by
  unfold State.domRestore
  try extract_lets -merge -underBinder t0 t1 t2 t3 t4
  try clear_value t0
  try clear_value t1
  try clear_value t2
  refine Touches.haveS (t := t3) ?_ (fun ht3 => ?_)
  ·
    unfold t3
    with_reducible refine Touches.foldl (fun _ _ => ?_) _ ?_
    ·
      with_reducible refine Touches.step ?_ (State.copyBits_touches _ _ _ ?_)
      on_goal 2 => exact Part.within_trans rfl hw
      with_reducible exact Touches.refl _ _
    ·
      with_reducible exact Touches.refl _ _
  try clear_value t3
  with_reducible refine Touches.set_regs ?_ ?_
  on_goal 2 => exact Part.within_mem rfl hw
  with_reducible exact Touches.refl _ _

theorem State.domRelease_touches {ps : List Part} s a1 (hw : Part.within [.regs] ps = true) : Touches ps s (State.domRelease s a1) := by
  unfold State.domRelease
  try extract_lets -merge -underBinder t0 t1 t2 t3
  try clear_value t0
  refine Touches.haveS (t := t2) ?_ (fun ht2 => ?_)
  ·
    unfold t2
    with_reducible refine Touches.set_regs ?_ ?_
    on_goal 2 => exact Part.within_mem rfl hw
    with_reducible exact Touches.refl _ _
  try clear_value t2
  refine Touches.haveS (t := t3) ?_ (fun ht3 => ?_)
  ·
    unfold t3
    with_reducible refine Touches.step ?_ (State.applyAt_touches _ _ _ ?_)
    on_goal 2 => exact Part.within_trans rfl hw
    with_reducible exact ht2
  try clear_value t3
  with_reducible refine Touches.set_regs ?_ ?_
  on_goal 2 => exact Part.within_mem rfl hw
  with_reducible exact Touches.refl _ _

theorem State.domWake_touches {ps : List Part} s a1 (hw : Part.within [.regs, .pwr] ps = true) : Touches ps s (State.domWake s a1) := by
  unfold State.domWake
  try extract_lets -merge -underBinder t0
  refine Touches.haveS (t := t0) ?_ (fun ht0 => ?_)
  ·
    unfold t0
    with_reducible refine Touches.step ?_ (State.setDom_touches _ _ _ ?_)
    on_goal 2 => exact Part.within_trans rfl hw
    with_reducible exact Touches.refl _ _
  try clear_value t0
  with_reducible refine Touches.ite ?_ ?_
  ·
    with_reducible refine Touches.step ?_ (State.domRestore_touches _ _ ?_)
    on_goal 2 => exact Part.within_trans rfl hw
    with_reducible exact ht0
  ·
    with_reducible refine Touches.step ?_ (State.domRelease_touches _ _ ?_)
    on_goal 2 => exact Part.within_trans rfl hw
    with_reducible exact ht0

theorem State.grpWake_touches {ps : List Part} s a1 (hw : Part.within [.regs, .evt, .hif, .pwr, .rc .evtPinStat, .rc .evtSuppressed, .rc .hifEvtLost] ps = true) : Touches ps s (State.grpWake s a1) := by
  unfold State.grpWake
  with_reducible refine Touches.step ?_ (State.domWake_touches _ _ ?_)
  on_goal 2 => exact Part.within_trans rfl hw
  with_reducible refine Touches.ite ?_ ?_
  ·
    with_reducible refine Touches.step ?_ (State.grpModeCheck_touches _ _ ?_)
    on_goal 2 => exact Part.within_trans rfl hw
    with_reducible exact Touches.refl _ _
  ·
    with_reducible exact Touches.refl _ _

theorem State.grpReturn_touches {ps : List Part} s a1 (hw : Part.within [.clk, .ready, .regs, .evt, .hif, .lanes, .grps, .sw, .fab, .bpm, .fdb, .tcore, .tchans, .lnk, .ref, .free, .pll, .tic, .cal, .eng, .pair, .pwr, .rc .bpmDoubleFreeCnt, .rc .bpmForeignFreeCnt, .rc .bpmPoolEmptyCnt, .rc .bpmPromoteCnt, .rc .calAbortCnt, .rc .evtPinStat, .rc .evtSuppressed, .rc .hifEvtLost, .rc .hifRingAborted, .rc .pairMirOvf, .rc .perfTagDrop, .rc .pllCnt, .rc .portHoldFlush, .rc .pwrWakeSrc] ps = true) : Touches ps s (State.grpReturn s a1) := by
  unfold State.grpReturn
  with_reducible refine Touches.step ?_ (State.grpTrain_touches _ _ ?_)
  on_goal 2 => exact Part.within_trans rfl hw
  with_reducible refine Touches.step ?_ (State.grpWake_touches _ _ ?_)
  on_goal 2 => exact Part.within_trans rfl hw
  with_reducible refine Touches.step ?_ (State.padHold_touches _ _ _ ?_)
  on_goal 2 => exact Part.within_trans rfl hw
  with_reducible exact Touches.refl _ _

theorem State.abandon_touches {ps : List Part} s a1 (hw : Part.within [.clk, .ready, .regs, .evt, .hif, .lanes, .grps, .sw, .fab, .bpm, .fdb, .tcore, .tchans, .lnk, .ref, .free, .pll, .tic, .cal, .eng, .pair, .pwr, .rc .bpmDoubleFreeCnt, .rc .bpmForeignFreeCnt, .rc .bpmPoolEmptyCnt, .rc .bpmPromoteCnt, .rc .calAbortCnt, .rc .evtPinStat, .rc .evtSuppressed, .rc .hifEvtLost, .rc .hifRingAborted, .rc .pairMirOvf, .rc .perfTagDrop, .rc .pllCnt, .rc .portHoldFlush, .rc .pwrWakeSrc] ps = true) : Touches ps s (State.abandon s a1) := by
  unfold State.abandon
  try extract_lets -merge -underBinder t0 t1 t2 t3 t4
  refine Touches.haveS (t := t1) ?_ (fun ht1 => ?_)
  ·
    unfold t1
    with_reducible refine Touches.set_pwr ?_ ?_
    on_goal 2 => exact Part.within_mem rfl hw
    with_reducible exact Touches.refl _ _
  try clear_value t1
  refine Touches.haveS (t := t2) ?_ (fun ht2 => ?_)
  ·
    unfold t2
    with_reducible refine Touches.foldl (fun _ _ => ?_) _ ?_
    ·
      with_reducible refine Touches.ite ?_ ?_
      ·
        with_reducible refine Touches.step ?_ (State.goEng_touches _ _ _ ?_)
        on_goal 2 => exact Part.within_trans rfl hw
        with_reducible exact Touches.refl _ _
      ·
        with_reducible exact Touches.refl _ _
    ·
      with_reducible exact ht1
  try clear_value t2
  refine Touches.haveS (t := t3) ?_ (fun ht3 => ?_)
  ·
    unfold t3
    with_reducible refine Touches.foldl (fun _ _ => ?_) _ ?_
    ·
      with_reducible refine Touches.ite ?_ ?_
      ·
        with_reducible refine Touches.step ?_ (State.grpUndrain_touches _ _ ?_)
        on_goal 2 => exact Part.within_trans rfl hw
        with_reducible exact Touches.refl _ _
      ·
        with_reducible refine Touches.ite ?_ ?_
        ·
          with_reducible refine Touches.step ?_ (State.grpReturn_touches _ _ ?_)
          on_goal 2 => exact Part.within_trans rfl hw
          with_reducible exact Touches.refl _ _
        ·
          with_reducible exact Touches.refl _ _
    ·
      with_reducible exact ht2
  try clear_value t3
  with_reducible refine Touches.set_pwr ?_ ?_
  on_goal 2 => exact Part.within_mem rfl hw
  with_reducible exact ht3

theorem State.entryAbort_touches {ps : List Part} s a1 (hw : Part.within [.clk, .regs, .evt, .hif, .lanes, .grps, .sw, .fab, .bpm, .fdb, .tcore, .tchans, .lnk, .ref, .free, .pll, .tic, .cal, .eng, .pair, .pwr, .counters] ps = true) : Touches ps s (State.entryAbort s a1) := by
  unfold State.entryAbort
  with_reducible refine Touches.ite ?_ ?_
  ·
    with_reducible exact Touches.refl _ _
  ·
    with_reducible refine Touches.step ?_ (State.grpRemoved_touches _ _ _ ?_)
    on_goal 2 => exact Part.within_trans rfl hw
    with_reducible refine Touches.step ?_ (State.bump_touches _ _ _ _ ?_)
    on_goal 2 => exact Part.within_trans rfl hw
    with_reducible exact Touches.refl _ _

theorem State.setGnssCh_touches {ps : List Part} s a1 a2 (hw : Part.within [.gnss] ps = true) : Touches ps s (State.setGnssCh s a1 a2) := by
  unfold State.setGnssCh
  try extract_lets -merge -underBinder t0
  with_reducible refine Touches.set_gnss ?_ ?_
  on_goal 2 => exact Part.within_mem rfl hw
  with_reducible exact Touches.refl _ _

theorem State.goGnssCh_touches {ps : List Part} s a1 a2 (hw : Part.within [.evt, .hif, .gnss, .rc .evtPinStat, .rc .evtSuppressed, .rc .gnssLossCnt, .rc .hifEvtLost] ps = true) : Touches ps s (State.goGnssCh s a1 a2) := by
  unfold State.goGnssCh
  try extract_lets -merge -underBinder t0 t1 t2 t3
  try clear_value t0
  try clear_value t1
  try clear_value t2
  refine Touches.haveS (t := t3) ?_ (fun ht3 => ?_)
  ·
    unfold t3
    with_reducible refine Touches.step ?_ (State.raise_touches _ _ _ _ _ ?_)
    on_goal 2 => exact Part.within_trans rfl hw
    with_reducible refine Touches.step ?_ (State.setGnssCh_touches _ _ _ ?_)
    on_goal 2 => exact Part.within_trans rfl hw
    with_reducible exact Touches.refl _ _
  try clear_value t3
  with_reducible refine Touches.ite ?_ ?_
  ·
    with_reducible exact Touches.refl _ _
  ·
    with_reducible refine Touches.ite ?_ ?_
    ·
      with_reducible refine Touches.step ?_ (State.bump_touches _ _ _ _ ?_)
      on_goal 2 => exact Part.within_trans rfl hw
      with_reducible exact ht3
    ·
      with_reducible exact ht3

theorem State.gnssInvalid_touches {ps : List Part} s (hw : Part.within [.clk, .evt, .hif, .tcore, .tchans, .ref, .pll, .gnss, .eng, .pair, .pwr, .rc .evtPinStat, .rc .evtSuppressed, .rc .hifEvtLost, .rc .pairMirOvf, .rc .pllCnt, .rc .pwrWakeSrc] ps = true) : Touches ps s (State.gnssInvalid s) := by
  unfold State.gnssInvalid
  try extract_lets -merge -underBinder t0 t1 t2
  try clear_value t0
  refine Touches.haveS (t := t2) ?_ (fun ht2 => ?_)
  ·
    unfold t2
    with_reducible refine Touches.set_gnss ?_ ?_
    on_goal 2 => exact Part.within_mem rfl hw
    with_reducible exact Touches.refl _ _
  try clear_value t2
  with_reducible refine Touches.step ?_ (State.candFail_touches _ _ _ ?_)
  on_goal 2 => exact Part.within_trans rfl hw
  with_reducible refine Touches.step ?_ (State.raiseIf_touches _ _ _ _ _ _ ?_)
  on_goal 2 => exact Part.within_trans rfl hw
  with_reducible exact ht2

theorem State.gnssDown_touches {ps : List Part} s a1 (hw : Part.within [.clk, .ready, .evt, .hif, .tcore, .tchans, .ref, .pll, .gnss, .eng, .pair, .pwr, .boot, .rc .evtPinStat, .rc .evtSuppressed, .rc .gnssLossCnt, .rc .hifEvtLost, .rc .hifRingAborted, .rc .pairMirOvf, .rc .pllCnt, .rc .pwrWakeSrc] ps = true) : Touches ps s (State.gnssDown s a1) := by
  unfold State.gnssDown
  try extract_lets -merge -underBinder t0 t1 t2 t3
  refine Touches.haveS (t := t0) ?_ (fun ht0 => ?_)
  ·
    unfold t0
    with_reducible refine Touches.foldl (fun _ _ => ?_) _ ?_
    ·
      with_reducible refine Touches.step ?_ (State.goGnssCh_touches _ _ _ ?_)
      on_goal 2 => exact Part.within_trans rfl hw
      with_reducible exact Touches.refl _ _
    ·
      with_reducible exact Touches.refl _ _
  try clear_value t0
  refine Touches.haveS (t := t1) ?_ (fun ht1 => ?_)
  ·
    unfold t1
    with_reducible refine Touches.foldl (fun _ _ => ?_) _ ?_
    ·
      with_reducible refine Touches.step ?_ (State.searchAbort_touches _ _ ?_)
      on_goal 2 => exact Part.within_trans rfl hw
      with_reducible exact Touches.refl _ _
    ·
      with_reducible exact ht0
  try clear_value t1
  refine Touches.haveS (t := t2) ?_ (fun ht2 => ?_)
  ·
    unfold t2
    with_reducible refine Touches.step ?_ (State.setReady_touches _ _ _ ?_)
    on_goal 2 => exact Part.within_trans rfl hw
    with_reducible refine Touches.step ?_ (State.candAbsent_touches _ _ ?_)
    on_goal 2 => exact Part.within_trans rfl hw
    with_reducible refine Touches.step ?_ (State.gnssInvalid_touches _ ?_)
    on_goal 2 => exact Part.within_trans rfl hw
    with_reducible exact ht1
  try clear_value t2
  try clear_value t3
  with_reducible refine Touches.set_gnss ?_ ?_
  on_goal 2 => exact Part.within_mem rfl hw
  with_reducible exact ht2

theorem State.ticDown_touches {ps : List Part} s (hw : Part.within [.tic, .rc .ticTmoCnt] ps = true) : Touches ps s (State.ticDown s) := by
  unfold State.ticDown
  unfold State.forTic
  with_reducible refine Touches.foldl (fun _ _ => ?_) _ ?_
  ·
    with_reducible refine Touches.step ?_ (State.ticAbandon_touches _ _ ?_)
    on_goal 2 => exact Part.within_trans rfl hw
    with_reducible exact Touches.refl _ _
  ·
    with_reducible exact Touches.refl _ _

theorem State.pcieLinkDown_touches {ps : List Part} s (hw : Part.within [.ready, .evt, .hif, .rc .evtPinStat, .rc .evtSuppressed, .rc .hifEvtLost] ps = true) : Touches ps s (State.pcieLinkDown s) := by
  unfold State.pcieLinkDown
  try extract_lets -merge -underBinder t0
  with_reducible refine Touches.step ?_ (State.setReady_touches _ _ _ ?_)
  on_goal 2 => exact Part.within_trans rfl hw
  with_reducible refine Touches.set_hif ?_ ?_
  on_goal 2 => exact Part.within_mem rfl hw
  with_reducible exact Touches.refl _ _

theorem State.timeRestart_touches {ps : List Part} s (hw : Part.within [.pair] ps = true) : Touches ps s (State.timeRestart s) := by
  unfold State.timeRestart
  try extract_lets -merge -underBinder t0
  with_reducible refine Touches.set_pair ?_ ?_
  on_goal 2 => exact Part.within_mem rfl hw
  with_reducible exact Touches.refl _ _

theorem State.setLanes_touches {ps : List Part} s a1 (hw : Part.within [.ready, .evt, .hif, .pair, .rc .evtPinStat, .rc .evtSuppressed, .rc .hifEvtLost] ps = true) : Touches ps s (State.setLanes s a1) := by
  unfold State.setLanes
  try extract_lets -merge -underBinder t0 t1
  refine Touches.haveS (t := t0) ?_ (fun ht0 => ?_)
  ·
    unfold t0
    with_reducible refine Touches.ite ?_ ?_
    ·
      with_reducible exact Touches.refl _ _
    ·
      with_reducible refine Touches.step ?_ (State.timeRestart_touches _ ?_)
      on_goal 2 => exact Part.within_trans rfl hw
      with_reducible exact Touches.refl _ _
  try clear_value t0
  with_reducible refine Touches.step ?_ (State.setReady_touches _ _ _ ?_)
  on_goal 2 => exact Part.within_trans rfl hw
  with_reducible refine Touches.set_pair ?_ ?_
  on_goal 2 => exact Part.within_mem rfl hw
  with_reducible exact ht0

theorem State.pairDown_touches {ps : List Part} s (hw : Part.within [.clk, .ready, .evt, .hif, .fdb, .tcore, .ref, .free, .pair, .pwr, .boot, .rc .evtPinStat, .rc .evtSuppressed, .rc .hifEvtLost, .rc .hifRingAborted, .rc .pairMirOvf, .rc .pwrWakeSrc] ps = true) : Touches ps s (State.pairDown s) := by
  unfold State.pairDown
  try extract_lets -merge -underBinder t0 t1
  refine Touches.haveS (t := t0) ?_ (fun ht0 => ?_)
  ·
    unfold t0
    with_reducible refine Touches.ite ?_ ?_
    ·
      with_reducible exact Touches.refl _ _
    ·
      with_reducible refine Touches.step ?_ (State.setLanes_touches _ _ ?_)
      on_goal 2 => exact Part.within_trans rfl hw
      with_reducible exact Touches.refl _ _
  try clear_value t0
  with_reducible refine Touches.ite ?_ ?_
  ·
    with_reducible exact ht0
  ·
    with_reducible refine Touches.step ?_ (State.goPair_touches _ _ ?_)
    on_goal 2 => exact Part.within_trans rfl hw
    with_reducible refine Touches.set_pair ?_ ?_
    on_goal 2 => exact Part.within_mem rfl hw
    with_reducible exact ht0

theorem State.engOff_touches {ps : List Part} s a1 (hw : Part.within [.evt, .hif, .eng, .rc .evtPinStat, .rc .evtSuppressed, .rc .hifEvtLost] ps = true) : Touches ps s (State.engOff s a1) := by
  unfold State.engOff
  try extract_lets -merge -underBinder t0
  with_reducible refine Touches.step ?_ (State.goEng_touches _ _ _ ?_)
  on_goal 2 => exact Part.within_trans rfl hw
  with_reducible refine Touches.step ?_ (State.setEng_touches _ _ _ ?_)
  on_goal 2 => exact Part.within_trans rfl hw
  with_reducible exact Touches.refl _ _

theorem State.setBankMode_touches {ps : List Part} s a1 a2 (hw : Part.within [.eng, .spad] ps = true) : Touches ps s (State.setBankMode s a1 a2) := by
  unfold State.setBankMode
  try extract_lets -merge -underBinder t0
  refine Touches.mk hw ?_
  with_reducible exact Touches.refl _ _

theorem State.domDown_touches {ps : List Part} s a1 a2 (hw : Part.within [.clk, .ready, .regs, .evt, .hif, .fdb, .tcore, .tchans, .ref, .free, .pll, .gnss, .tic, .eng, .spad, .pair, .pwr, .boot, .counters] ps = true) : Touches ps s (State.domDown s a1 a2) := by
  unfold State.domDown
  split
  ·
    with_reducible refine Touches.step ?_ (State.domSleep_touches _ _ _ ?_)
    on_goal 2 => exact Part.within_trans rfl hw
    with_reducible refine Touches.step ?_ (State.setReady_touches _ _ _ ?_)
    on_goal 2 => exact Part.within_trans rfl hw
    with_reducible refine Touches.step ?_ (State.setReady_touches _ _ _ ?_)
    on_goal 2 => exact Part.within_trans rfl hw
    with_reducible refine Touches.step ?_ (State.setReady_touches _ _ _ ?_)
    on_goal 2 => exact Part.within_trans rfl hw
    with_reducible exact Touches.refl _ _
  ·
    with_reducible refine Touches.step ?_ (State.domSleep_touches _ _ _ ?_)
    on_goal 2 => exact Part.within_trans rfl hw
    with_reducible exact Touches.refl _ _
  ·
    with_reducible refine Touches.step ?_ (State.padHold_touches _ _ _ ?_)
    on_goal 2 => exact Part.within_trans rfl hw
    with_reducible refine Touches.step ?_ (State.domSleep_touches _ _ _ ?_)
    on_goal 2 => exact Part.within_trans rfl hw
    with_reducible refine Touches.step ?_ (State.gnssDown_touches _ _ ?_)
    on_goal 2 => exact Part.within_trans rfl hw
    with_reducible exact Touches.refl _ _
  ·
    with_reducible refine Touches.step ?_ (State.padHold_touches _ _ _ ?_)
    on_goal 2 => exact Part.within_trans rfl hw
    with_reducible refine Touches.step ?_ (State.domSleep_touches _ _ _ ?_)
    on_goal 2 => exact Part.within_trans rfl hw
    with_reducible refine Touches.step ?_ (State.setReady_touches _ _ _ ?_)
    on_goal 2 => exact Part.within_trans rfl hw
    with_reducible refine Touches.step ?_ (State.ticDown_touches _ ?_)
    on_goal 2 => exact Part.within_trans rfl hw
    with_reducible exact Touches.refl _ _
  ·
    with_reducible refine Touches.step ?_ (State.padHold_touches _ _ _ ?_)
    on_goal 2 => exact Part.within_trans rfl hw
    with_reducible refine Touches.step ?_ (State.domSleep_touches _ _ _ ?_)
    on_goal 2 => exact Part.within_trans rfl hw
    with_reducible refine Touches.step ?_ (State.pllOff_touches _ _ ?_)
    on_goal 2 => exact Part.within_trans rfl hw
    with_reducible refine Touches.step ?_ (State.pllOff_touches _ _ ?_)
    on_goal 2 => exact Part.within_trans rfl hw
    with_reducible exact Touches.refl _ _
  ·
    with_reducible refine Touches.step ?_ (State.domSleep_touches _ _ _ ?_)
    on_goal 2 => exact Part.within_trans rfl hw
    with_reducible refine Touches.step ?_ (State.pllOff_touches _ _ ?_)
    on_goal 2 => exact Part.within_trans rfl hw
    with_reducible exact Touches.refl _ _
  ·
    with_reducible refine Touches.step ?_ (State.padHold_touches _ _ _ ?_)
    on_goal 2 => exact Part.within_trans rfl hw
    with_reducible refine Touches.step ?_ (State.domSleep_touches _ _ _ ?_)
    on_goal 2 => exact Part.within_trans rfl hw
    with_reducible refine Touches.step ?_ (State.pcieLinkDown_touches _ ?_)
    on_goal 2 => exact Part.within_trans rfl hw
    with_reducible exact Touches.refl _ _
  ·
    with_reducible refine Touches.step ?_ (State.padHold_touches _ _ _ ?_)
    on_goal 2 => exact Part.within_trans rfl hw
    with_reducible refine Touches.step ?_ (State.domSleep_touches _ _ _ ?_)
    on_goal 2 => exact Part.within_trans rfl hw
    with_reducible refine Touches.step ?_ (State.pairDown_touches _ ?_)
    on_goal 2 => exact Part.within_trans rfl hw
    with_reducible exact Touches.refl _ _
  ·
    try extract_lets -merge -underBinder t0 t1
    refine Touches.haveS (t := t0) ?_ (fun ht0 => ?_)
    ·
      unfold t0
      with_reducible refine Touches.step ?_ (State.setBankMode_touches _ _ _ ?_)
      on_goal 2 => exact Part.within_trans rfl hw
      with_reducible exact Touches.refl _ _
    try clear_value t0
    with_reducible refine Touches.ite ?_ ?_
    ·
      with_reducible refine Touches.step ?_ (State.domSleep_touches _ _ _ ?_)
      on_goal 2 => exact Part.within_trans rfl hw
      with_reducible refine Touches.ite ?_ ?_
      ·
        with_reducible refine Touches.step ?_ (State.engOff_touches _ _ ?_)
        on_goal 2 => exact Part.within_trans rfl hw
        with_reducible exact Touches.refl _ _
      ·
        with_reducible exact Touches.refl _ _
    ·
      with_reducible refine Touches.ite ?_ ?_
      ·
        with_reducible refine Touches.set_pwr ?_ ?_
        on_goal 2 => exact Part.within_mem rfl hw
        with_reducible exact ht0
      ·
        with_reducible exact Touches.refl _ _

theorem State.entryDown_touches {ps : List Part} s (hw : Part.within [.clk, .ready, .regs, .evt, .hif, .fdb, .tcore, .tchans, .ref, .free, .pll, .gnss, .tic, .eng, .spad, .pair, .pwr, .boot, .counters] ps = true) : Touches ps s (State.entryDown s) := by
  unfold State.entryDown
  try extract_lets -merge -underBinder t0 t1 t2 t3 t4 t5
  try clear_value t0
  try clear_value t1
  refine Touches.haveS (t := t2) ?_ (fun ht2 => ?_)
  ·
    unfold t2
    with_reducible refine Touches.foldl (fun _ _ => ?_) _ ?_
    ·
      with_reducible refine Touches.step ?_ (State.domDown_touches _ _ _ ?_)
      on_goal 2 => exact Part.within_trans rfl hw
      with_reducible exact Touches.refl _ _
    ·
      with_reducible exact Touches.refl _ _
  try clear_value t2
  refine Touches.haveS (t := t3) ?_ (fun ht3 => ?_)
  ·
    unfold t3
    with_reducible refine Touches.ite ?_ ?_
    ·
      with_reducible refine Touches.step ?_ (State.setReady_touches _ _ _ ?_)
      on_goal 2 => exact Part.within_trans rfl hw
      with_reducible exact ht2
    ·
      with_reducible exact ht2
  try clear_value t3
  refine Touches.haveS (t := t5) ?_ (fun ht5 => ?_)
  ·
    unfold t5
    with_reducible refine Touches.set_pwr ?_ ?_
    on_goal 2 => exact Part.within_mem rfl hw
    with_reducible exact ht3
  try clear_value t5
  with_reducible refine Touches.step ?_ (State.raise_touches _ _ _ _ _ ?_)
  on_goal 2 => exact Part.within_trans rfl hw
  with_reducible exact ht5

theorem State.entryE3_touches {ps : List Part} s (hw : Part.within [.clk, .ready, .regs, .evt, .hif, .lanes, .grps, .sw, .fab, .bpm, .fdb, .tcore, .tchans, .lnk, .ref, .free, .pll, .gnss, .tic, .cal, .eng, .spad, .pair, .pwr, .boot, .counters] ps = true) : Touches ps s (State.entryE3 s) := by
  unfold State.entryE3
  split
  ·
    with_reducible refine Touches.ite ?_ ?_
    ·
      with_reducible exact Touches.refl _ _
    ·
      with_reducible refine Touches.ite ?_ ?_
      ·
        with_reducible refine Touches.step ?_ (State.abandon_touches _ _ ?_)
        on_goal 2 => exact Part.within_trans rfl hw
        with_reducible exact Touches.refl _ _
      ·
        with_reducible refine Touches.step ?_ (State.entryDown_touches _ ?_)
        on_goal 2 => exact Part.within_trans rfl hw
        with_reducible exact Touches.refl _ _
  ·
    with_reducible exact Touches.refl _ _

theorem State.setTask_touches {ps : List Part} s a1 a2 (hw : Part.within [.eng] ps = true) : Touches ps s (State.setTask s a1 a2) := by
  unfold State.setTask
  try extract_lets -merge -underBinder t0
  with_reducible refine Touches.setEng ?_ ?_ ?_
  on_goal 2 => exact Part.within_mem rfl hw
  on_goal 2 => rfl
  with_reducible exact Touches.refl _ _

theorem State.taskMove_touches {ps : List Part} s a1 a2 a3 (hw : Part.within [.eng] ps = true) : Touches ps s (State.taskMove s a1 a2 a3) := by
  unfold State.taskMove
  try extract_lets -merge -underBinder t0
  with_reducible refine Touches.step ?_ (State.setTask_touches _ _ _ ?_)
  on_goal 2 => exact Part.within_trans rfl hw
  with_reducible exact Touches.refl _ _

theorem State.taskLost_touches {ps : List Part} s a1 (hw : Part.within [.clk, .evt, .hif, .tcore, .tchans, .ref, .pll, .gnss, .tic, .cal, .eng, .pair, .pwr, .boot, .rc .calAbortCnt, .rc .evtPinStat, .rc .evtSuppressed, .rc .hifEvtLost, .rc .hifRingAborted, .rc .pairMirOvf, .rc .pllCnt, .rc .pwrWakeSrc] ps = true) : Touches ps s (State.taskLost s a1) := by
  unfold State.taskLost
  split
  ·
    with_reducible refine Touches.ite ?_ ?_
    ·
      with_reducible refine Touches.step ?_ (State.gnssInvalid_touches _ ?_)
      on_goal 2 => exact Part.within_trans rfl hw
      with_reducible exact Touches.refl _ _
    ·
      with_reducible exact Touches.refl _ _
  ·
    try extract_lets -merge -underBinder t0 t1
    refine Touches.haveS (t := t0) ?_ (fun ht0 => ?_)
    ·
      unfold t0
      with_reducible refine Touches.step ?_ (State.calLose_touches _ _ ?_)
      on_goal 2 => exact Part.within_trans rfl hw
      with_reducible exact Touches.refl _ _
    try clear_value t0
    with_reducible refine Touches.foldl (fun _ _ => ?_) _ ?_
    ·
      with_reducible refine Touches.step ?_ (State.complete_touches _ _ _ _ _ _ _ ?_)
      on_goal 2 => exact Part.within_trans rfl hw
      with_reducible exact Touches.refl _ _
    ·
      with_reducible refine Touches.setEng ?_ ?_ ?_
      on_goal 2 => exact Part.within_mem rfl hw
      on_goal 2 => rfl
      with_reducible exact ht0
  ·
    with_reducible exact Touches.refl _ _

theorem State.nameStandby_touches {ps : List Part} s a1 (hw : Part.within [.free, .eng] ps = true) : Touches ps s (State.nameStandby s a1) := by
  unfold State.nameStandby
  try extract_lets -merge -underBinder t0
  try clear_value t0
  split
  ·
    with_reducible refine Touches.ite ?_ ?_
    ·
      with_reducible exact Touches.refl _ _
    ·
      with_reducible refine Touches.step ?_ (State.setTask_touches _ _ _ ?_)
      on_goal 2 => exact Part.within_trans rfl hw
      with_reducible refine Touches.set_free ?_ ?_
      on_goal 2 => exact Part.within_mem rfl hw
      with_reducible exact Touches.refl _ _
  ·
    with_reducible exact Touches.refl _ _

theorem State.taskLeave_touches {ps : List Part} s a1 a2 (hw : Part.within [.clk, .evt, .hif, .tcore, .tchans, .ref, .free, .pll, .gnss, .tic, .cal, .eng, .pair, .pwr, .boot, .rc .calAbortCnt, .rc .evtPinStat, .rc .evtSuppressed, .rc .hifEvtLost, .rc .hifRingAborted, .rc .pairMirOvf, .rc .pllCnt, .rc .pwrWakeSrc] ps = true) : Touches ps s (State.taskLeave s a1 a2) := by
  unfold State.taskLeave
  try extract_lets -merge -underBinder t0 t1
  try clear_value t0
  try clear_value t1
  with_reducible refine Touches.ite ?_ ?_
  ·
    split
    ·
      with_reducible refine Touches.step ?_ (State.taskMove_touches _ _ _ _ ?_)
      on_goal 2 => exact Part.within_trans rfl hw
      with_reducible exact Touches.refl _ _
    ·
      with_reducible refine Touches.step ?_ (State.taskLost_touches _ _ ?_)
      on_goal 2 => exact Part.within_trans rfl hw
      with_reducible refine Touches.step ?_ (State.setTask_touches _ _ _ ?_)
      on_goal 2 => exact Part.within_trans rfl hw
      with_reducible exact Touches.refl _ _
  ·
    with_reducible refine Touches.ite ?_ ?_
    ·
      split
      ·
        split
        ·
          with_reducible refine Touches.step ?_ (State.taskMove_touches _ _ _ _ ?_)
          on_goal 2 => exact Part.within_trans rfl hw
          with_reducible exact Touches.refl _ _
        ·
          with_reducible refine Touches.step ?_ (State.taskLost_touches _ _ ?_)
          on_goal 2 => exact Part.within_trans rfl hw
          with_reducible refine Touches.step ?_ (State.setTask_touches _ _ _ ?_)
          on_goal 2 => exact Part.within_trans rfl hw
          with_reducible exact Touches.refl _ _
      ·
        with_reducible refine Touches.step ?_ (State.nameStandby_touches _ _ ?_)
        on_goal 2 => exact Part.within_trans rfl hw
        with_reducible refine Touches.step ?_ (State.setTask_touches _ _ _ ?_)
        on_goal 2 => exact Part.within_trans rfl hw
        with_reducible exact Touches.refl _ _
    ·
      with_reducible exact Touches.refl _ _

theorem State.engReady_touches {ps : List Part} s (hw : Part.within [.ready, .evt, .hif, .rc .evtPinStat, .rc .evtSuppressed, .rc .hifEvtLost] ps = true) : Touches ps s (State.engReady s) := by
  unfold State.engReady
  with_reducible refine Touches.step ?_ (State.setReady_touches _ _ _ ?_)
  on_goal 2 => exact Part.within_trans rfl hw
  with_reducible refine Touches.step ?_ (State.setReady_touches _ _ _ ?_)
  on_goal 2 => exact Part.within_trans rfl hw
  with_reducible exact Touches.refl _ _

theorem State.tchanMove_touches {ps : List Part} s a1 (hw : Part.within [.clk, .evt, .hif, .tcore, .tchans, .lnk, .ref, .pll, .eng, .pair, .pwr, .rc .evtPinStat, .rc .evtSuppressed, .rc .hifEvtLost, .rc .pairMirOvf, .rc .pllCnt, .rc .pwrWakeSrc] ps = true) : Touches ps s (State.tchanMove s a1) := by
  unfold State.tchanMove
  try extract_lets -merge -underBinder t0 t1 t2
  try clear_value t0
  try clear_value t1
  refine Touches.haveS (t := t2) ?_ (fun ht2 => ?_)
  ·
    unfold t2
    with_reducible refine Touches.step ?_ (State.setTchan_touches _ _ _ ?_)
    on_goal 2 => exact Part.within_trans rfl hw
    with_reducible exact Touches.refl _ _
  try clear_value t2
  split
  ·
    try extract_lets -merge -underBinder t3 t4
    refine Touches.haveS (t := t3) ?_ (fun ht3 => ?_)
    ·
      unfold t3
      with_reducible refine Touches.step ?_ (State.setTchan_touches _ _ _ ?_)
      on_goal 2 => exact Part.within_trans rfl hw
      with_reducible exact ht2
    try clear_value t3
    with_reducible refine Touches.ite ?_ ?_
    ·
      with_reducible refine Touches.step ?_ (State.setLnk_touches _ _ _ ?_)
      on_goal 2 => exact Part.within_trans rfl hw
      with_reducible exact ht3
    ·
      with_reducible exact ht3
  ·
    try extract_lets -merge -underBinder t5
    refine Touches.haveS (t := t5) ?_ (fun ht5 => ?_)
    ·
      unfold t5
      with_reducible refine Touches.step ?_ (State.setTchan_touches _ _ _ ?_)
      on_goal 2 => exact Part.within_trans rfl hw
      with_reducible exact ht2
    try clear_value t5
    with_reducible refine Touches.step ?_ (State.raise_touches _ _ _ _ _ ?_)
    on_goal 2 => exact Part.within_trans rfl hw
    with_reducible refine Touches.step ?_ (State.chanLost_touches _ _ ?_)
    on_goal 2 => exact Part.within_trans rfl hw
    with_reducible exact ht5

theorem State.tchansLeave_touches {ps : List Part} s a1 (hw : Part.within [.clk, .evt, .hif, .tcore, .tchans, .lnk, .ref, .pll, .eng, .pair, .pwr, .rc .evtPinStat, .rc .evtSuppressed, .rc .hifEvtLost, .rc .pairMirOvf, .rc .pllCnt, .rc .pwrWakeSrc] ps = true) : Touches ps s (State.tchansLeave s a1) := by
  unfold State.tchansLeave
  with_reducible refine Touches.foldl (fun _ _ => ?_) _ ?_
  ·
    with_reducible refine Touches.step ?_ (State.tchanMove_touches _ _ ?_)
    on_goal 2 => exact Part.within_trans rfl hw
    with_reducible exact Touches.refl _ _
  ·
    with_reducible exact Touches.refl _ _

theorem State.engLeaves_touches {ps : List Part} s a1 a2 (hw : Part.within [.clk, .ready, .evt, .hif, .tcore, .tchans, .lnk, .ref, .free, .pll, .gnss, .tic, .cal, .eng, .pair, .pwr, .boot, .rc .calAbortCnt, .rc .evtPinStat, .rc .evtSuppressed, .rc .hifEvtLost, .rc .hifRingAborted, .rc .pairMirOvf, .rc .pllCnt, .rc .pwrWakeSrc] ps = true) : Touches ps s (State.engLeaves s a1 a2) := by
  unfold State.engLeaves
  try extract_lets -merge -underBinder t0
  refine Touches.haveS (t := t0) ?_ (fun ht0 => ?_)
  ·
    unfold t0
    with_reducible refine Touches.foldl (fun _ _ => ?_) _ ?_
    ·
      with_reducible refine Touches.step ?_ (State.taskLeave_touches _ _ _ ?_)
      on_goal 2 => exact Part.within_trans rfl hw
      with_reducible exact Touches.refl _ _
    ·
      with_reducible exact Touches.refl _ _
  try clear_value t0
  with_reducible refine Touches.step ?_ (State.engReady_touches _ ?_)
  on_goal 2 => exact Part.within_trans rfl hw
  with_reducible refine Touches.ite ?_ ?_
  ·
    with_reducible refine Touches.step ?_ (State.tchansLeave_touches _ _ ?_)
    on_goal 2 => exact Part.within_trans rfl hw
    with_reducible exact ht0
  ·
    with_reducible exact ht0

theorem State.outBegin_touches {ps : List Part} s a1 a2 (hw : Part.within [.clk, .ready, .evt, .hif, .tcore, .tchans, .lnk, .ref, .free, .pll, .gnss, .tic, .cal, .eng, .pair, .pwr, .boot, .rc .calAbortCnt, .rc .evtPinStat, .rc .evtSuppressed, .rc .hifEvtLost, .rc .hifRingAborted, .rc .pairMirOvf, .rc .pllCnt, .rc .pwrWakeSrc] ps = true) : Touches ps s (State.outBegin s a1 a2) := by
  unfold State.outBegin
  try extract_lets -merge -underBinder t0 t1 t2
  try clear_value t0
  refine Touches.haveS (t := t1) ?_ (fun ht1 => ?_)
  ·
    unfold t1
    with_reducible refine Touches.step ?_ (State.goEng_touches _ _ _ ?_)
    on_goal 2 => exact Part.within_trans rfl hw
    with_reducible refine Touches.step ?_ (State.setEng_touches _ _ _ ?_)
    on_goal 2 => exact Part.within_trans rfl hw
    with_reducible exact Touches.refl _ _
  try clear_value t1
  refine Touches.haveS (t := t2) ?_ (fun ht2 => ?_)
  ·
    unfold t2
    with_reducible refine Touches.step ?_ (State.engLeaves_touches _ _ _ ?_)
    on_goal 2 => exact Part.within_trans rfl hw
    with_reducible exact ht1
  try clear_value t2
  with_reducible refine Touches.foldl (fun _ _ => ?_) _ ?_
  ·
    with_reducible refine Touches.step ?_ (State.tchanMove_touches _ _ ?_)
    on_goal 2 => exact Part.within_trans rfl hw
    with_reducible exact Touches.refl _ _
  ·
    with_reducible exact ht2

theorem State.inDropped_touches {ps : List Part} s a1 (hw : Part.within [.hif, .eng, .boot, .rc .hifRingAborted] ps = true) : Touches ps s (State.inDropped s a1) := by
  unfold State.inDropped
  split
  ·
    try extract_lets -merge -underBinder t0
    with_reducible refine Touches.step ?_ (State.complete_touches _ _ _ _ _ _ _ ?_)
    on_goal 2 => exact Part.within_trans rfl hw
    with_reducible refine Touches.step ?_ (State.setEng_touches _ _ _ ?_)
    on_goal 2 => exact Part.within_trans rfl hw
    with_reducible exact Touches.refl _ _
  ·
    with_reducible exact Touches.refl _ _

theorem State.entryEngine_touches {ps : List Part} s a1 (hw : Part.within [.clk, .ready, .evt, .hif, .tcore, .tchans, .lnk, .ref, .free, .pll, .gnss, .tic, .cal, .eng, .pair, .pwr, .boot, .rc .calAbortCnt, .rc .evtPinStat, .rc .evtSuppressed, .rc .hifEvtLost, .rc .hifRingAborted, .rc .pairMirOvf, .rc .pllCnt, .rc .pwrWakeSrc] ps = true) : Touches ps s (State.entryEngine s a1) := by
  unfold State.entryEngine
  try extract_lets -merge -underBinder t0
  try dsimp only [t0]
  split
  ·
    try extract_lets -merge -underBinder t1 t2
    with_reducible refine Touches.ite ?_ ?_
    ·
      with_reducible refine Touches.step ?_ (State.raise_touches _ _ _ _ _ ?_)
      on_goal 2 => exact Part.within_trans rfl hw
      with_reducible refine Touches.set_pwr ?_ ?_
      on_goal 2 => exact Part.within_mem rfl hw
      with_reducible exact Touches.refl _ _
    ·
      with_reducible refine Touches.step ?_ (State.outBegin_touches _ _ _ ?_)
      on_goal 2 => exact Part.within_trans rfl hw
      with_reducible refine Touches.set_pwr ?_ ?_
      on_goal 2 => exact Part.within_mem rfl hw
      with_reducible exact Touches.refl _ _
  ·
    try extract_lets -merge -underBinder t3
    with_reducible refine Touches.step ?_ (State.goEng_touches _ _ _ ?_)
    on_goal 2 => exact Part.within_trans rfl hw
    with_reducible refine Touches.set_pwr ?_ ?_
    on_goal 2 => exact Part.within_mem rfl hw
    with_reducible refine Touches.step ?_ (State.inDropped_touches _ _ ?_)
    on_goal 2 => exact Part.within_trans rfl hw
    with_reducible exact Touches.refl _ _
  ·
    with_reducible exact Touches.refl _ _

theorem State.entryE2_touches {ps : List Part} s (hw : Part.within [.clk, .ready, .regs, .evt, .hif, .lanes, .grps, .sw, .fab, .bpm, .fdb, .tcore, .tchans, .lnk, .ref, .free, .pll, .gnss, .tic, .cal, .eng, .spad, .pair, .pwr, .boot, .counters] ps = true) : Touches ps s (State.entryE2 s) := by
  unfold State.entryE2
  split
  ·
    try extract_lets -merge -underBinder t0 t1 t2
    refine Touches.haveS (t := t1) ?_ (fun ht1 => ?_)
    ·
      unfold t1
      with_reducible refine Touches.set_pwr ?_ ?_
      on_goal 2 => exact Part.within_mem rfl hw
      with_reducible exact Touches.refl _ _
    try clear_value t1
    refine Touches.haveS (t := t2) ?_ (fun ht2 => ?_)
    ·
      unfold t2
      with_reducible refine Touches.foldl (fun _ _ => ?_) _ ?_
      ·
        with_reducible refine Touches.step ?_ (State.entryAbort_touches _ _ ?_)
        on_goal 2 => exact Part.within_trans rfl hw
        with_reducible exact Touches.refl _ _
      ·
        with_reducible exact ht1
    try clear_value t2
    with_reducible refine Touches.ite ?_ ?_
    ·
      with_reducible refine Touches.step ?_ (State.abandon_touches _ _ ?_)
      on_goal 2 => exact Part.within_trans rfl hw
      with_reducible exact Touches.refl _ _
    ·
      with_reducible refine Touches.step ?_ (State.entryE3_touches _ ?_)
      on_goal 2 => exact Part.within_trans rfl hw
      with_reducible refine Touches.foldl (fun _ _ => ?_) _ ?_
      ·
        with_reducible refine Touches.step ?_ (State.entryEngine_touches _ _ ?_)
        on_goal 2 => exact Part.within_trans rfl hw
        with_reducible exact Touches.refl _ _
      ·
        with_reducible exact ht2
  ·
    with_reducible exact Touches.refl _ _

theorem State.entryBegin_touches {ps : List Part} s a1 (hw : Part.within [.clk, .ready, .regs, .evt, .hif, .lanes, .grps, .sw, .fab, .bpm, .fdb, .tcore, .tchans, .lnk, .ref, .free, .pll, .gnss, .tic, .cal, .eng, .spad, .pair, .pwr, .boot, .counters] ps = true) : Touches ps s (State.entryBegin s a1) := by
  unfold State.entryBegin
  try extract_lets -merge -underBinder t0 t1 t2 t3 t4 t5
  try clear_value t0
  try clear_value t1
  refine Touches.haveS (t := t3) ?_ (fun ht3 => ?_)
  ·
    unfold t3
    with_reducible refine Touches.set_pwr ?_ ?_
    on_goal 2 => exact Part.within_mem rfl hw
    with_reducible exact Touches.refl _ _
  try clear_value t3
  refine Touches.haveS (t := t4) ?_ (fun ht4 => ?_)
  ·
    unfold t4
    with_reducible refine Touches.step ?_ (State.raiseIf_touches _ _ _ _ _ _ ?_)
    on_goal 2 => exact Part.within_trans rfl hw
    with_reducible exact ht3
  try clear_value t4
  refine Touches.haveS (t := t5) ?_ (fun ht5 => ?_)
  ·
    unfold t5
    with_reducible refine Touches.foldl (fun _ _ => ?_) _ ?_
    ·
      with_reducible refine Touches.step ?_ (State.grpRemove_touches _ _ _ ?_)
      on_goal 2 => exact Part.within_trans rfl hw
      with_reducible exact Touches.refl _ _
    ·
      with_reducible exact ht4
  try clear_value t5
  with_reducible refine Touches.ite ?_ ?_
  ·
    with_reducible exact ht5
  ·
    with_reducible refine Touches.step ?_ (State.entryE2_touches _ ?_)
    on_goal 2 => exact Part.within_trans rfl hw
    with_reducible exact ht5

theorem State.requestTake_touches {ps : List Part} s a1 (hw : Part.within [.clk, .ready, .regs, .evt, .hif, .lanes, .grps, .sw, .fab, .bpm, .fdb, .tcore, .tchans, .lnk, .ref, .free, .pll, .gnss, .tic, .cal, .eng, .spad, .pair, .pwr, .boot, .counters] ps = true) : Touches ps s (State.requestTake s a1) := by
  unfold State.requestTake
  try extract_lets -merge -underBinder t0
  try clear_value t0
  with_reducible refine Touches.ite ?_ ?_
  ·
    with_reducible exact Touches.refl _ _
  ·
    with_reducible refine Touches.ite ?_ ?_
    ·
      with_reducible refine Touches.step ?_ (State.raise_touches _ _ _ _ _ ?_)
      on_goal 2 => exact Part.within_trans rfl hw
      with_reducible exact Touches.refl _ _
    ·
      with_reducible refine Touches.ite ?_ ?_
      ·
        with_reducible refine Touches.step ?_ (State.entryBegin_touches _ _ ?_)
        on_goal 2 => exact Part.within_trans rfl hw
        with_reducible exact Touches.refl _ _
      ·
        with_reducible refine Touches.ite ?_ ?_
        ·
          with_reducible refine Touches.step ?_ (State.startWake_touches _ _ _ ?_)
          on_goal 2 => exact Part.within_trans rfl hw
          with_reducible exact Touches.refl _ _
        ·
          with_reducible exact Touches.refl _ _

theorem State.pwrSettle_touches {ps : List Part} s (hw : Part.within [.clk, .ready, .regs, .evt, .hif, .lanes, .grps, .sw, .fab, .bpm, .fdb, .tcore, .tchans, .lnk, .ref, .free, .pll, .gnss, .tic, .cal, .eng, .spad, .pair, .pwr, .boot, .counters] ps = true) : Touches ps s (State.pwrSettle s) := by
  unfold State.pwrSettle
  with_reducible refine Touches.ite ?_ ?_
  ·
    with_reducible exact Touches.refl _ _
  ·
    with_reducible refine Touches.ite ?_ ?_
    ·
      with_reducible refine Touches.step ?_ (State.startWake_touches _ _ _ ?_)
      on_goal 2 => exact Part.within_trans rfl hw
      with_reducible exact Touches.refl _ _
    ·
      split
      ·
        with_reducible exact Touches.refl _ _
      ·
        try extract_lets -merge -underBinder t0
        with_reducible refine Touches.step ?_ (State.requestTake_touches _ _ ?_)
        on_goal 2 => exact Part.within_trans rfl hw
        with_reducible refine Touches.set_pwr ?_ ?_
        on_goal 2 => exact Part.within_mem rfl hw
        with_reducible exact Touches.refl _ _

theorem State.abandonEnd_touches {ps : List Part} s (hw : Part.within [.clk, .ready, .regs, .evt, .hif, .lanes, .grps, .sw, .fab, .bpm, .fdb, .tcore, .tchans, .lnk, .ref, .free, .pll, .gnss, .tic, .cal, .eng, .spad, .pair, .pwr, .boot, .counters] ps = true) : Touches ps s (State.abandonEnd s) := by
  unfold State.abandonEnd
  try extract_lets -merge -underBinder t0 t1 t2
  try clear_value t0
  refine Touches.haveS (t := t1) ?_ (fun ht1 => ?_)
  ·
    unfold t1
    with_reducible refine Touches.step ?_ (State.raise_touches _ _ _ _ _ ?_)
    on_goal 2 => exact Part.within_trans rfl hw
    with_reducible refine Touches.set_pwr ?_ ?_
    on_goal 2 => exact Part.within_mem rfl hw
    with_reducible exact Touches.refl _ _
  try clear_value t1
  refine Touches.haveS (t := t2) ?_ (fun ht2 => ?_)
  ·
    unfold t2
    split
    ·
      with_reducible refine Touches.ite ?_ ?_
      ·
        with_reducible refine Touches.step ?_ (State.requestTake_touches _ _ ?_)
        on_goal 2 => exact Part.within_trans rfl hw
        with_reducible exact ht1
      ·
        with_reducible exact ht1
    ·
      with_reducible exact ht1
  try clear_value t2
  with_reducible refine Touches.ite ?_ ?_
  ·
    with_reducible exact Touches.refl _ _
  ·
    with_reducible refine Touches.step ?_ (State.pwrSettle_touches _ ?_)
    on_goal 2 => exact Part.within_trans rfl hw
    with_reducible exact ht2

theorem State.pwrRequest_touches {ps : List Part} s a1 a2 (hw : Part.within [.clk, .ready, .regs, .evt, .hif, .lanes, .grps, .sw, .fab, .bpm, .fdb, .tcore, .tchans, .lnk, .ref, .free, .pll, .gnss, .tic, .cal, .eng, .spad, .pair, .pwr, .boot, .counters] ps = true) : Touches ps s (State.pwrRequest s a1 a2) := by
  unfold State.pwrRequest
  try extract_lets -merge -underBinder t0
  try clear_value t0
  with_reducible refine Touches.ite ?_ ?_
  ·
    with_reducible exact Touches.refl _ _
  ·
    with_reducible refine Touches.ite ?_ ?_
    ·
      with_reducible refine Touches.step ?_ (State.raise_touches _ _ _ _ _ ?_)
      on_goal 2 => exact Part.within_trans rfl hw
      with_reducible exact Touches.refl _ _
    ·
      split
      ·
        with_reducible refine Touches.step ?_ (State.pwrSettle_touches _ ?_)
        on_goal 2 => exact Part.within_trans rfl hw
        with_reducible refine Touches.step ?_ (State.abandonEnd_touches _ ?_)
        on_goal 2 => exact Part.within_trans rfl hw
        with_reducible refine Touches.step ?_ (State.requestTake_touches _ _ ?_)
        on_goal 2 => exact Part.within_trans rfl hw
        with_reducible exact Touches.refl _ _
      ·
        try extract_lets -merge -underBinder t1
        with_reducible refine Touches.ite ?_ ?_
        ·
          with_reducible refine Touches.set_pwr ?_ ?_
          on_goal 2 => exact Part.within_mem rfl hw
          with_reducible exact Touches.refl _ _
        ·
          with_reducible refine Touches.step ?_ (State.pendRequest_touches _ _ ?_)
          on_goal 2 => exact Part.within_trans rfl hw
          with_reducible exact Touches.refl _ _
      ·
        with_reducible refine Touches.step ?_ (State.pendRequest_touches _ _ ?_)
        on_goal 2 => exact Part.within_trans rfl hw
        with_reducible exact Touches.refl _ _

theorem State.padRelease_touches {ps : List Part} s a1 (hw : Part.within [.pwr] ps = true) : Touches ps s (State.padRelease s a1) := by
  unfold State.padRelease
  with_reducible refine Touches.foldl (fun _ _ => ?_) _ ?_
  ·
    with_reducible refine Touches.step ?_ (State.padHold_touches _ _ _ ?_)
    on_goal 2 => exact Part.within_trans rfl hw
    with_reducible exact Touches.refl _ _
  ·
    with_reducible exact Touches.refl _ _

theorem State.storeReg_touches {ps : List Part} s a1 a2 a3 (hw : Part.within [.regs, .evt, .hif, .rc .evtPinStat, .rc .evtSuppressed, .rc .hifEvtLost, .rc .sysApplyStat] ps = true) : Touches ps s (State.storeReg s a1 a2 a3) := by
  unfold State.storeReg
  with_reducible refine Touches.ite ?_ ?_
  ·
    with_reducible refine Touches.step ?_ (State.raise_touches _ _ _ _ _ ?_)
    on_goal 2 => exact Part.within_trans rfl hw
    with_reducible refine Touches.step ?_ (State.rcSet_touches _ _ _ _ ?_)
    on_goal 2 => exact Part.within_trans rfl hw
    with_reducible exact Touches.refl _ _
  ·
    with_reducible refine Touches.set_regs ?_ ?_
    on_goal 2 => exact Part.within_mem rfl hw
    with_reducible exact Touches.refl _ _

theorem State.ringsKill_touches {ps : List Part} s (hw : Part.within [.evt, .hif, .sw, .fab, .bpm, .fdb, .free, .eng, .rc .bpmDoubleFreeCnt, .rc .bpmForeignFreeCnt, .rc .bpmPoolEmptyCnt, .rc .bpmPromoteCnt, .rc .evtPinStat, .rc .evtSuppressed, .rc .hifEvtLost, .rc .perfTagDrop] ps = true) : Touches ps s (State.ringsKill s) := by
  unfold State.ringsKill
  try extract_lets -merge -underBinder t0 t1 t2 t3
  refine Touches.haveS (t := t0) ?_ (fun ht0 => ?_)
  ·
    unfold t0
    with_reducible refine Touches.foldl (fun _ _ => ?_) _ ?_
    ·
      with_reducible refine Touches.step ?_ (State.dropFrame_touches _ _ ?_)
      on_goal 2 => exact Part.within_trans rfl hw
      with_reducible exact Touches.refl _ _
    ·
      with_reducible exact Touches.refl _ _
  try clear_value t0
  refine Touches.haveS (t := t2) ?_ (fun ht2 => ?_)
  ·
    unfold t2
    with_reducible refine Touches.set_fab ?_ ?_
    on_goal 2 => exact Part.within_mem rfl hw
    with_reducible exact ht0
  try clear_value t2
  with_reducible refine Touches.step ?_ (State.afterFree_touches _ ?_)
  on_goal 2 => exact Part.within_trans rfl hw
  with_reducible refine Touches.set_hif ?_ ?_
  on_goal 2 => exact Part.within_mem rfl hw
  with_reducible exact ht2

theorem State.forceRings_touches {ps : List Part} s (hw : Part.within [.regs, .evt, .hif, .sw, .fab, .bpm, .fdb, .free, .eng, .rc .bpmDoubleFreeCnt, .rc .bpmForeignFreeCnt, .rc .bpmPoolEmptyCnt, .rc .bpmPromoteCnt, .rc .evtPinStat, .rc .evtSuppressed, .rc .hifEvtLost, .rc .perfTagDrop] ps = true) : Touches ps s (State.forceRings s) := by
  unfold State.forceRings
  try extract_lets -merge -underBinder t0
  try clear_value t0
  with_reducible refine Touches.foldl (fun _ _ => ?_) _ ?_
  ·
    with_reducible refine Touches.step ?_ (State.putBoth_touches _ _ _ _ _ ?_)
    on_goal 2 => exact Part.within_trans rfl hw
    with_reducible exact Touches.refl _ _
  ·
    with_reducible refine Touches.ite ?_ ?_
    ·
      with_reducible exact Touches.refl _ _
    ·
      with_reducible refine Touches.step ?_ (State.ringsKill_touches _ ?_)
      on_goal 2 => exact Part.within_trans rfl hw
      with_reducible exact Touches.refl _ _

theorem State.outDone_touches {ps : List Part} s a1 a2 (hw : Part.within [.clk, .evt, .hif, .tcore, .tchans, .lnk, .ref, .pll, .eng, .pair, .pwr, .boot, .rc .engEAborted, .rc .evtPinStat, .rc .evtSuppressed, .rc .hifEvtLost, .rc .hifRingAborted, .rc .pairMirOvf, .rc .pllCnt, .rc .pwrWakeSrc] ps = true) : Touches ps s (State.outDone s a1 a2) := by
  unfold State.outDone
  try extract_lets -merge -underBinder t0 t1 t2 t3 t4
  try clear_value t0
  try clear_value t1
  refine Touches.haveS (t := t2) ?_ (fun ht2 => ?_)
  ·
    unfold t2
    with_reducible refine Touches.foldl (fun _ _ => ?_) _ ?_
    ·
      try extract_lets -merge -underBinder t5
      with_reducible refine Touches.step ?_ (State.setTchan_touches _ _ _ ?_)
      on_goal 2 => exact Part.within_trans rfl hw
      with_reducible exact Touches.refl _ _
    ·
      with_reducible exact Touches.refl _ _
  try clear_value t2
  refine Touches.haveS (t := t3) ?_ (fun ht3 => ?_)
  ·
    unfold t3
    with_reducible refine Touches.step ?_ (State.bump_touches _ _ _ _ ?_)
    on_goal 2 => exact Part.within_trans rfl hw
    with_reducible refine Touches.step ?_ (State.goEng_touches _ _ _ ?_)
    on_goal 2 => exact Part.within_trans rfl hw
    with_reducible refine Touches.step ?_ (State.setEng_touches _ _ _ ?_)
    on_goal 2 => exact Part.within_trans rfl hw
    with_reducible exact ht2
  try clear_value t3
  refine Touches.haveS (t := t4) ?_ (fun ht4 => ?_)
  ·
    unfold t4
    with_reducible refine Touches.step ?_ (State.tchansLeave_touches _ _ ?_)
    on_goal 2 => exact Part.within_trans rfl hw
    with_reducible exact ht3
  try clear_value t4
  split
  ·
    with_reducible refine Touches.step ?_ (State.complete_touches _ _ _ _ _ _ _ ?_)
    on_goal 2 => exact Part.within_trans rfl hw
    with_reducible exact ht4
  ·
    with_reducible exact ht4

theorem State.forceDown_touches {ps : List Part} s a1 (hw : Part.within [.clk, .ready, .regs, .evt, .hif, .lanes, .grps, .sw, .fab, .bpm, .fdb, .tcore, .tchans, .lnk, .ref, .free, .pll, .gnss, .tic, .cal, .eng, .spad, .pair, .pwr, .boot, .counters] ps = true) : Touches ps s (State.forceDown s a1) := by
  unfold State.forceDown
  try extract_lets -merge -underBinder t0 t1 t2 t3 t4 t5 t6
  try clear_value t0
  try clear_value t1
  refine Touches.haveS (t := t3) ?_ (fun ht3 => ?_)
  ·
    unfold t3
    with_reducible refine Touches.set_pwr ?_ ?_
    on_goal 2 => exact Part.within_mem rfl hw
    with_reducible exact Touches.refl _ _
  try clear_value t3
  refine Touches.haveS (t := t4) ?_ (fun ht4 => ?_)
  ·
    unfold t4
    with_reducible refine Touches.step ?_ (State.raiseIf_touches _ _ _ _ _ _ ?_)
    on_goal 2 => exact Part.within_trans rfl hw
    with_reducible exact ht3
  try clear_value t4
  refine Touches.haveS (t := t5) ?_ (fun ht5 => ?_)
  ·
    unfold t5
    with_reducible refine Touches.foldl (fun _ _ => ?_) _ ?_
    ·
      with_reducible refine Touches.step ?_ (State.entryAbort_touches _ _ ?_)
      on_goal 2 => exact Part.within_trans rfl hw
      with_reducible refine Touches.ite ?_ ?_
      ·
        with_reducible exact Touches.refl _ _
      ·
        with_reducible refine Touches.step ?_ (State.grpRemove_touches _ _ _ ?_)
        on_goal 2 => exact Part.within_trans rfl hw
        with_reducible exact Touches.refl _ _
    ·
      with_reducible exact ht4
  try clear_value t5
  refine Touches.haveS (t := t6) ?_ (fun ht6 => ?_)
  ·
    unfold t6
    with_reducible refine Touches.foldl (fun _ _ => ?_) _ ?_
    ·
      try extract_lets -merge -underBinder t7
      refine Touches.haveS (t := t7) ?_ (fun ht7 => ?_)
      ·
        unfold t7
        split
        ·
          with_reducible exact Touches.refl _ _
        ·
          try extract_lets -merge -underBinder t8
          with_reducible refine Touches.step ?_ (State.outBegin_touches _ _ _ ?_)
          on_goal 2 => exact Part.within_trans rfl hw
          with_reducible refine Touches.set_pwr ?_ ?_
          on_goal 2 => exact Part.within_mem rfl hw
          with_reducible exact Touches.refl _ _
        ·
          with_reducible refine Touches.step ?_ (State.entryEngine_touches _ _ ?_)
          on_goal 2 => exact Part.within_trans rfl hw
          with_reducible exact Touches.refl _ _
      try clear_value t7
      with_reducible refine Touches.ite ?_ ?_
      ·
        with_reducible refine Touches.step ?_ (State.outDone_touches _ _ _ ?_)
        on_goal 2 => exact Part.within_trans rfl hw
        with_reducible exact ht7
      ·
        with_reducible exact ht7
    ·
      with_reducible exact ht5
  try clear_value t6
  with_reducible refine Touches.step ?_ (State.entryDown_touches _ ?_)
  on_goal 2 => exact Part.within_trans rfl hw
  with_reducible exact ht6

theorem State.forceGo_touches {ps : List Part} s a1 (hw : Part.within [.clk, .ready, .regs, .evt, .hif, .lanes, .grps, .sw, .fab, .bpm, .fdb, .tcore, .tchans, .lnk, .ref, .free, .pll, .gnss, .tic, .cal, .eng, .spad, .pair, .pwr, .boot, .counters] ps = true) : Touches ps s (State.forceGo s a1) := by
  unfold State.forceGo
  try extract_lets -merge -underBinder t0 t1 t2 t3 t4 t5 t6 t7 t8 t9 t10
  try clear_value t0
  refine Touches.haveS (t := t1) ?_ (fun ht1 => ?_)
  ·
    unfold t1
    with_reducible refine Touches.step ?_ (State.forceRings_touches _ ?_)
    on_goal 2 => exact Part.within_trans rfl hw
    with_reducible exact Touches.refl _ _
  try clear_value t1
  refine Touches.haveS (t := t3) ?_ (fun ht3 => ?_)
  ·
    unfold t3
    with_reducible refine Touches.set_pwr ?_ ?_
    on_goal 2 => exact Part.within_mem rfl hw
    with_reducible exact ht1
  try clear_value t3
  refine Touches.haveS (t := t4) ?_ (fun ht4 => ?_)
  ·
    unfold t4
    with_reducible refine Touches.foldl (fun _ _ => ?_) _ ?_
    ·
      with_reducible refine Touches.step ?_ (State.entryAbort_touches _ _ ?_)
      on_goal 2 => exact Part.within_trans rfl hw
      with_reducible exact Touches.refl _ _
    ·
      with_reducible exact ht3
  try clear_value t4
  try clear_value t5
  refine Touches.haveS (t := t6) ?_ (fun ht6 => ?_)
  ·
    unfold t6
    with_reducible refine Touches.ite ?_ ?_
    ·
      with_reducible refine Touches.step ?_ (State.forceDown_touches _ _ ?_)
      on_goal 2 => exact Part.within_trans rfl hw
      with_reducible exact ht4
    ·
      with_reducible exact ht4
  try clear_value t6
  refine Touches.haveS (t := t8) ?_ (fun ht8 => ?_)
  ·
    unfold t8
    with_reducible refine Touches.set_pwr ?_ ?_
    on_goal 2 => exact Part.within_mem rfl hw
    with_reducible exact ht6
  try clear_value t8
  refine Touches.haveS (t := t9) ?_ (fun ht9 => ?_)
  ·
    unfold t9
    with_reducible refine Touches.step ?_ (State.startWake_touches _ _ _ ?_)
    on_goal 2 => exact Part.within_trans rfl hw
    with_reducible exact ht8
  try clear_value t9
  with_reducible refine Touches.ite ?_ ?_
  ·
    with_reducible exact ht8
  ·
    with_reducible refine Touches.ite ?_ ?_
    ·
      with_reducible refine Touches.set_pwr ?_ ?_
      on_goal 2 => exact Part.within_mem rfl hw
      with_reducible exact ht9
    ·
      with_reducible exact ht8

theorem State.pwrForce_touches {ps : List Part} s a1 a2 a3 (hw : Part.within [.clk, .ready, .keys, .regs, .evt, .hif, .lanes, .grps, .sw, .fab, .bpm, .fdb, .tcore, .tchans, .lnk, .ref, .free, .pll, .gnss, .tic, .cal, .eng, .spad, .pair, .pwr, .boot, .counters] ps = true) : Touches ps s (State.pwrForce s a1 a2 a3) := by
  unfold State.pwrForce
  try extract_lets -merge -underBinder t0
  try clear_value t0
  with_reducible refine Touches.step ?_ (State.keyed_touches _ _ _ _ ?_ (fun _ => ?_))
  on_goal 2 => exact Part.within_trans rfl hw
  ·
    with_reducible exact Touches.refl _ _
  ·
    try extract_lets -merge -underBinder t1
    refine Touches.haveS (t := t1) ?_ (fun ht1 => ?_)
    ·
      unfold t1
      with_reducible refine Touches.step ?_ (State.storeReg_touches _ _ _ _ ?_)
      on_goal 2 => exact Part.within_trans rfl hw
      with_reducible exact Touches.refl _ _
    try clear_value t1
    with_reducible refine Touches.ite ?_ ?_
    ·
      with_reducible refine Touches.step ?_ (State.forceGo_touches _ _ ?_)
      on_goal 2 => exact Part.within_trans rfl hw
      with_reducible exact ht1
    ·
      with_reducible exact ht1

theorem State.evtCtrlWrite_touches {ps : List Part} s a1 (hw : Part.within [.evt] ps = true) : Touches ps s (State.evtCtrlWrite s a1) := by
  unfold State.evtCtrlWrite
  try extract_lets -merge -underBinder t0
  with_reducible refine Touches.set_evt ?_ ?_
  on_goal 2 => exact Part.within_mem rfl hw
  with_reducible exact Touches.refl _ _

theorem State.ringRst_touches {ps : List Part} s a1 (hw : Part.within [.evt, .hif, .rc .evtPinStat, .rc .evtSuppressed, .rc .hifEvtLost] ps = true) : Touches ps s (State.ringRst s a1) := by
  unfold State.ringRst
  try extract_lets -merge -underBinder t0
  with_reducible refine Touches.ite ?_ ?_
  ·
    with_reducible refine Touches.step ?_ (State.setRing_touches _ _ _ ?_)
    on_goal 2 => exact Part.within_trans rfl hw
    with_reducible exact Touches.refl _ _
  ·
    with_reducible refine Touches.step ?_ (State.raise_touches _ _ _ _ _ ?_)
    on_goal 2 => exact Part.within_trans rfl hw
    with_reducible exact Touches.refl _ _

theorem State.ringErr_touches {ps : List Part} s a1 a2 (hw : Part.within [.regs, .evt, .hif, .rc .evtPinStat, .rc .evtSuppressed, .rc .hifEvtLost] ps = true) : Touches ps s (State.ringErr s a1 a2) := by
  unfold State.ringErr
  try extract_lets -merge -underBinder t0
  with_reducible refine Touches.step ?_ (State.raise_touches _ _ _ _ _ ?_)
  on_goal 2 => exact Part.within_trans rfl hw
  with_reducible refine Touches.step ?_ (State.setRing_touches _ _ _ ?_)
  on_goal 2 => exact Part.within_trans rfl hw
  with_reducible refine Touches.step ?_ (State.putBoth_touches _ _ _ _ _ ?_)
  on_goal 2 => exact Part.within_trans rfl hw
  with_reducible exact Touches.refl _ _

theorem State.releaseTo_touches {ps : List Part} s a1 a2 (hw : Part.within [.hif] ps = true) : Touches ps s (State.releaseTo s a1 a2) := by
  unfold State.releaseTo
  try extract_lets -merge -underBinder t0 t1
  try clear_value t0
  refine Touches.haveS (t := t1) ?_ (fun ht1 => ?_)
  ·
    unfold t1
    with_reducible refine Touches.step ?_ (State.setRing_touches _ _ _ ?_)
    on_goal 2 => exact Part.within_trans rfl hw
    with_reducible exact Touches.refl _ _
  try clear_value t1
  with_reducible refine Touches.ite ?_ ?_
  ·
    with_reducible refine Touches.foldl (fun _ _ => ?_) _ ?_
    ·
      try extract_lets -merge -underBinder t2
      with_reducible refine Touches.step ?_ (State.setRing_touches _ _ _ ?_)
      on_goal 2 => exact Part.within_trans rfl hw
      with_reducible exact Touches.refl _ _
    ·
      with_reducible exact ht1
  ·
    with_reducible exact ht1

theorem State.takeIndex_touches {ps : List Part} s a1 a2 a3 (hw : Part.within [.regs, .evt, .hif, .rc .evtPinStat, .rc .evtSuppressed, .rc .hifEvtLost] ps = true) : Touches ps s (State.takeIndex s a1 a2 a3) := by
  unfold State.takeIndex
  try extract_lets -merge -underBinder t0 t1 t2 t3
  refine Touches.haveS (t := t0) ?_ (fun ht0 => ?_)
  ·
    unfold t0
    with_reducible refine Touches.step ?_ (State.releaseTo_touches _ _ _ ?_)
    on_goal 2 => exact Part.within_trans rfl hw
    with_reducible exact Touches.refl _ _
  try clear_value t0
  refine Touches.haveS (t := t2) ?_ (fun ht2 => ?_)
  ·
    unfold t2
    with_reducible refine Touches.step ?_ (State.setRing_touches _ _ _ ?_)
    on_goal 2 => exact Part.within_trans rfl hw
    with_reducible exact ht0
  try clear_value t2
  with_reducible refine Touches.ite ?_ ?_
  ·
    with_reducible refine Touches.step ?_ (State.ringErr_touches _ _ _ ?_)
    on_goal 2 => exact Part.within_trans rfl hw
    with_reducible exact Touches.refl _ _
  ·
    with_reducible refine Touches.ite ?_ ?_
    ·
      with_reducible refine Touches.ite ?_ ?_
      ·
        with_reducible exact ht0
      ·
        with_reducible refine Touches.ite ?_ ?_
        ·
          with_reducible refine Touches.set_hif ?_ ?_
          on_goal 2 => exact Part.within_mem rfl hw
          with_reducible exact ht2
        ·
          with_reducible exact ht2
    ·
      with_reducible refine Touches.step ?_ (State.setRing_touches _ _ _ ?_)
      on_goal 2 => exact Part.within_trans rfl hw
      with_reducible exact Touches.refl _ _

theorem State.ringStart_touches {ps : List Part} s a1 (hw : Part.within [.regs, .evt, .hif, .rc .evtPinStat, .rc .evtSuppressed, .rc .hifEvtLost] ps = true) : Touches ps s (State.ringStart s a1) := by
  unfold State.ringStart
  try extract_lets -merge -underBinder t0 t1 t2
  try clear_value t0
  refine Touches.haveS (t := t2) ?_ (fun ht2 => ?_)
  ·
    unfold t2
    with_reducible refine Touches.step ?_ (State.setRing_touches _ _ _ ?_)
    on_goal 2 => exact Part.within_trans rfl hw
    with_reducible exact Touches.refl _ _
  try clear_value t2
  with_reducible refine Touches.ite ?_ ?_
  ·
    with_reducible refine Touches.step ?_ (State.ringErr_touches _ _ _ ?_)
    on_goal 2 => exact Part.within_trans rfl hw
    with_reducible exact Touches.refl _ _
  ·
    with_reducible refine Touches.ite ?_ ?_
    ·
      with_reducible refine Touches.step ?_ (State.ringErr_touches _ _ _ ?_)
      on_goal 2 => exact Part.within_trans rfl hw
      with_reducible exact Touches.refl _ _
    ·
      with_reducible refine Touches.ite ?_ ?_
      ·
        with_reducible refine Touches.step ?_ (State.ringErr_touches _ _ _ ?_)
        on_goal 2 => exact Part.within_trans rfl hw
        with_reducible exact Touches.refl _ _
      ·
        split
        ·
          with_reducible refine Touches.step ?_ (State.takeIndex_touches _ _ _ _ ?_)
          on_goal 2 => exact Part.within_trans rfl hw
          with_reducible exact ht2
        ·
          with_reducible exact ht2

theorem State.advance_touches {ps : List Part} s a1 a2 (hw : Part.within [.hif] ps = true) : Touches ps s (State.advance s a1 a2) := by
  unfold State.advance
  try extract_lets -merge -underBinder t0
  with_reducible refine Touches.step ?_ (State.setRing_touches _ _ _ ?_)
  on_goal 2 => exact Part.within_trans rfl hw
  with_reducible exact Touches.refl _ _

theorem State.rxCpl_touches {ps : List Part} s a1 a2 a3 a4 a5 a6 a7 a8 a9 a10 a11 (hw : Part.within [.hif, .rc .hifRingAborted] ps = true) : Touches ps s (State.rxCpl s a1 a2 a3 a4 a5 a6 a7 a8 a9 a10 a11) := by
  unfold State.rxCpl
  try extract_lets -merge -underBinder t0
  refine Touches.haveS (t := t0) ?_ (fun ht0 => ?_)
  ·
    unfold t0
    with_reducible refine Touches.step ?_ (State.advance_touches _ _ _ ?_)
    on_goal 2 => exact Part.within_trans rfl hw
    with_reducible exact Touches.refl _ _
  try clear_value t0
  with_reducible refine Touches.step ?_ (State.slotUse_touches _ _ _ _ ?_)
  on_goal 2 => exact Part.within_trans rfl hw
  with_reducible exact ht0

theorem State.setCopy_touches {ps : List Part} s a1 a2 (hw : Part.within [.fab] ps = true) : Touches ps s (State.setCopy s a1 a2) := by
  unfold State.setCopy
  try extract_lets -merge -underBinder t0
  with_reducible refine Touches.set_fab ?_ ?_
  on_goal 2 => exact Part.within_mem rfl hw
  with_reducible exact Touches.refl _ _

theorem State.txEnd_touches {ps : List Part} s a1 a2 a3 (hw : Part.within [.evt, .hif, .sw, .fab, .bpm, .fdb, .free, .eng, .rc .bpmDoubleFreeCnt, .rc .bpmForeignFreeCnt, .rc .bpmPoolEmptyCnt, .rc .bpmPromoteCnt, .rc .evtPinStat, .rc .evtSuppressed, .rc .hifEvtLost, .rc .hifRingAborted, .rc .perfTagDrop] ps = true) : Touches ps s (State.txEnd s a1 a2 a3) := by
  unfold State.txEnd
  try extract_lets -merge -underBinder t0 t1 t2 t3 t4 t5 t6
  try clear_value t0
  try clear_value t1
  refine Touches.haveS (t := t2) ?_ (fun ht2 => ?_)
  ·
    unfold t2
    with_reducible refine Touches.ite ?_ ?_
    ·
      with_reducible exact Touches.refl _ _
    ·
      split
      ·
        with_reducible refine Touches.step ?_ (State.afterFree_touches _ ?_)
        on_goal 2 => exact Part.within_trans rfl hw
        with_reducible refine Touches.step ?_ (State.dropFrame_touches _ _ ?_)
        on_goal 2 => exact Part.within_trans rfl hw
        with_reducible refine Touches.foldl (fun _ _ => ?_) _ ?_
        ·
          split
          ·
            with_reducible refine Touches.step ?_ (State.setCopy_touches _ _ _ ?_)
            on_goal 2 => exact Part.within_trans rfl hw
            with_reducible exact Touches.refl _ _
          ·
            with_reducible exact Touches.refl _ _
        ·
          with_reducible exact Touches.refl _ _
      ·
        with_reducible exact Touches.refl _ _
  try clear_value t2
  try clear_value t3
  refine Touches.haveS (t := t4) ?_ (fun ht4 => ?_)
  ·
    unfold t4
    with_reducible refine Touches.step ?_ (State.advance_touches _ _ _ ?_)
    on_goal 2 => exact Part.within_trans rfl hw
    with_reducible refine Touches.step ?_ (State.setRing_touches _ _ _ ?_)
    on_goal 2 => exact Part.within_trans rfl hw
    with_reducible exact ht2
  try clear_value t4
  refine Touches.haveS (t := t6) ?_ (fun ht6 => ?_)
  ·
    unfold t6
    with_reducible refine Touches.ite ?_ ?_
    ·
      with_reducible refine Touches.step ?_ (State.setRing_touches _ _ _ ?_)
      on_goal 2 => exact Part.within_trans rfl hw
      with_reducible exact ht4
    ·
      with_reducible exact ht4
  try clear_value t6
  with_reducible refine Touches.ite ?_ ?_
  ·
    with_reducible refine Touches.step ?_ (State.slotUse_touches _ _ _ _ ?_)
    on_goal 2 => exact Part.within_trans rfl hw
    with_reducible exact ht6
  ·
    with_reducible exact ht6

theorem State.txAbort_touches {ps : List Part} (s : State) (n k : Nat) (hw : Part.within (evtParts ++ [.sw, .fab, .bpm, .fdb, .free, .eng,
    .rc .bpmDoubleFreeCnt, .rc .bpmForeignFreeCnt, .rc .bpmPoolEmptyCnt, .rc .bpmPromoteCnt, .rc .hifRingAborted, .rc .perfTagDrop]) ps = true) :
    Touches ps s (s.txAbort n k).1 := by
  induction k generalizing s with
  | zero => exact Touches.refl _ _
  | succ k ih =>
    unfold State.txAbort
    extract_lets l g whole t
    split
    · exact Touches.refl _ _
    · exact (State.txEnd_touches _ _ _ _ (Part.within_trans rfl hw)).step (ih _)
theorem State.ringAbort_touches {ps : List Part} (s : State) (n : Nat) (hw : Part.within [.evt, .hif, .sw, .fab, .bpm, .fdb, .free, .eng, .rc .bpmDoubleFreeCnt, .rc .bpmForeignFreeCnt, .rc .bpmPoolEmptyCnt, .rc .bpmPromoteCnt, .rc .evtPinStat, .rc .evtSuppressed, .rc .hifEvtLost, .rc .hifRingAborted, .rc .perfTagDrop] ps = true) : Touches ps s (s.ringAbort n) := by
  unfold State.ringAbort
  extract_lets -underBinder l u t
  have ht : Touches ps s t.1 := by
    unfold t
    split
    · exact State.txAbort_touches _ _ _ (Part.within_trans rfl hw)
    · split
      · refine Touches.foldl (fun u f => ?_) _ (Touches.refl _ _)
        exact (State.setRing_touches _ _ _ (Part.within_trans rfl hw)).step (State.rxCpl_touches _ _ _ _ _ _ _ _ _ _ _ _ (Part.within_trans rfl hw))
      · exact Touches.foldl (fun u f => State.cplPut_touches _ _ _ _ (Part.within_trans rfl hw)) _ (Touches.refl _ _)
  exact ht.step (State.setRing_touches _ _ _ (Part.within_trans rfl hw))

theorem State.ringDrainLimit_touches {ps : List Part} s a1 (hw : Part.within [.evt, .hif, .sw, .fab, .bpm, .fdb, .free, .eng, .rc .bpmDoubleFreeCnt, .rc .bpmForeignFreeCnt, .rc .bpmPoolEmptyCnt, .rc .bpmPromoteCnt, .rc .evtPinStat, .rc .evtSuppressed, .rc .hifEvtLost, .rc .hifRingAborted, .rc .perfTagDrop] ps = true) : Touches ps s (State.ringDrainLimit s a1) := by
  unfold State.ringDrainLimit
  split
  ·
    with_reducible refine Touches.step ?_ (State.ringAbort_touches _ _ ?_)
    on_goal 2 => exact Part.within_trans rfl hw
    with_reducible exact Touches.refl _ _
  ·
    try extract_lets -merge -underBinder t0 t1
    refine Touches.haveS (t := t0) ?_ (fun ht0 => ?_)
    ·
      unfold t0
      with_reducible refine Touches.step ?_ (State.ringAbort_touches _ _ ?_)
      on_goal 2 => exact Part.within_trans rfl hw
      with_reducible exact Touches.refl _ _
    try clear_value t0
    with_reducible refine Touches.step ?_ (State.bump_touches _ _ _ _ ?_)
    on_goal 2 => exact Part.within_trans rfl hw
    with_reducible refine Touches.step ?_ (State.setRing_touches _ _ _ ?_)
    on_goal 2 => exact Part.within_trans rfl hw
    with_reducible exact ht0
  ·
    with_reducible exact Touches.refl _ _

theorem State.ringStop_touches {ps : List Part} s a1 (hw : Part.within [.regs, .evt, .hif, .sw, .fab, .bpm, .fdb, .free, .eng, .rc .bpmDoubleFreeCnt, .rc .bpmForeignFreeCnt, .rc .bpmPoolEmptyCnt, .rc .bpmPromoteCnt, .rc .evtPinStat, .rc .evtSuppressed, .rc .hifEvtLost, .rc .hifRingAborted, .rc .perfTagDrop] ps = true) : Touches ps s (State.ringStop s a1) := by
  unfold State.ringStop
  with_reducible refine Touches.ite ?_ ?_
  ·
    with_reducible refine Touches.step ?_ (State.raise_touches _ _ _ _ _ ?_)
    on_goal 2 => exact Part.within_trans rfl hw
    with_reducible exact Touches.refl _ _
  ·
    split
    ·
      try extract_lets -merge -underBinder t0
      with_reducible refine Touches.step ?_ (State.setRing_touches _ _ _ ?_)
      on_goal 2 => exact Part.within_trans rfl hw
      with_reducible refine Touches.step ?_ (State.putBoth_touches _ _ _ _ _ ?_)
      on_goal 2 => exact Part.within_trans rfl hw
      with_reducible exact Touches.refl _ _
    ·
      try extract_lets -merge -underBinder t1 t2
      refine Touches.haveS (t := t1) ?_ (fun ht1 => ?_)
      ·
        unfold t1
        with_reducible refine Touches.step ?_ (State.putBoth_touches _ _ _ _ _ ?_)
        on_goal 2 => exact Part.within_trans rfl hw
        with_reducible refine Touches.step ?_ (State.ringDrainLimit_touches _ _ ?_)
        on_goal 2 => exact Part.within_trans rfl hw
        with_reducible exact Touches.refl _ _
      try clear_value t1
      with_reducible refine Touches.step ?_ (State.setRing_touches _ _ _ ?_)
      on_goal 2 => exact Part.within_trans rfl hw
      with_reducible exact ht1
    ·
      with_reducible exact Touches.refl _ _

theorem State.ringCtrlWrite_touches {ps : List Part} s a1 a2 a3 (hw : Part.within [.regs, .evt, .hif, .sw, .fab, .bpm, .fdb, .free, .eng, .rc .bpmDoubleFreeCnt, .rc .bpmForeignFreeCnt, .rc .bpmPoolEmptyCnt, .rc .bpmPromoteCnt, .rc .evtPinStat, .rc .evtSuppressed, .rc .hifEvtLost, .rc .hifRingAborted, .rc .perfTagDrop, .rc .sysApplyStat] ps = true) : Touches ps s (State.ringCtrlWrite s a1 a2 a3) := by
  unfold State.ringCtrlWrite
  try extract_lets -merge -underBinder t0 t1 t2 t3 t4 t5
  try clear_value t0
  try clear_value t1
  try clear_value t2
  try clear_value t3
  refine Touches.haveS (t := t4) ?_ (fun ht4 => ?_)
  ·
    unfold t4
    with_reducible refine Touches.ite ?_ ?_
    ·
      with_reducible refine Touches.step ?_ (State.storeReg_touches _ _ _ _ ?_)
      on_goal 2 => exact Part.within_trans rfl hw
      with_reducible exact Touches.refl _ _
    ·
      with_reducible refine Touches.ite ?_ ?_
      ·
        with_reducible refine Touches.set_regs ?_ ?_
        on_goal 2 => exact Part.within_mem rfl hw
        with_reducible exact Touches.refl _ _
      ·
        with_reducible refine Touches.step ?_ (State.raise_touches _ _ _ _ _ ?_)
        on_goal 2 => exact Part.within_trans rfl hw
        with_reducible exact Touches.refl _ _
  try clear_value t4
  refine Touches.haveS (t := t5) ?_ (fun ht5 => ?_)
  ·
    unfold t5
    with_reducible refine Touches.ite ?_ ?_
    ·
      with_reducible refine Touches.step ?_ (State.ringRst_touches _ _ ?_)
      on_goal 2 => exact Part.within_trans rfl hw
      with_reducible exact ht4
    ·
      with_reducible exact ht4
  try clear_value t5
  with_reducible refine Touches.ite ?_ ?_
  ·
    with_reducible exact ht5
  ·
    with_reducible refine Touches.ite ?_ ?_
    ·
      split
      ·
        with_reducible refine Touches.step ?_ (State.ringStart_touches _ _ ?_)
        on_goal 2 => exact Part.within_trans rfl hw
        with_reducible refine Touches.step ?_ (State.putBoth_touches _ _ _ _ _ ?_)
        on_goal 2 => exact Part.within_trans rfl hw
        with_reducible exact ht5
      ·
        with_reducible refine Touches.step ?_ (State.raise_touches _ _ _ _ _ ?_)
        on_goal 2 => exact Part.within_trans rfl hw
        with_reducible exact ht5
      ·
        with_reducible exact ht5
    ·
      with_reducible refine Touches.step ?_ (State.ringStop_touches _ _ ?_)
      on_goal 2 => exact Part.within_trans rfl hw
      with_reducible exact ht5

theorem State.ringBaseWrite_touches {ps : List Part} s a1 a2 a3 (hw : Part.within [.regs, .evt, .hif, .rc .evtPinStat, .rc .evtSuppressed, .rc .hifEvtLost, .rc .sysApplyStat] ps = true) : Touches ps s (State.ringBaseWrite s a1 a2 a3) := by
  unfold State.ringBaseWrite
  with_reducible refine Touches.ite ?_ ?_
  ·
    with_reducible refine Touches.step ?_ (State.storeReg_touches _ _ _ _ ?_)
    on_goal 2 => exact Part.within_trans rfl hw
    with_reducible exact Touches.refl _ _
  ·
    with_reducible refine Touches.step ?_ (State.raise_touches _ _ _ _ _ ?_)
    on_goal 2 => exact Part.within_trans rfl hw
    with_reducible exact Touches.refl _ _

theorem State.laneRetrain_touches {ps : List Part} s a1 (hw : Part.within [.clk, .regs, .evt, .hif, .lanes, .sw, .fab, .bpm, .fdb, .tcore, .tchans, .lnk, .ref, .free, .pll, .tic, .cal, .eng, .pair, .pwr, .rc .bpmDoubleFreeCnt, .rc .bpmForeignFreeCnt, .rc .bpmPoolEmptyCnt, .rc .bpmPromoteCnt, .rc .calAbortCnt, .rc .evtPinStat, .rc .evtSuppressed, .rc .hifEvtLost, .rc .hifRingAborted, .rc .pairMirOvf, .rc .perfTagDrop, .rc .pllCnt, .rc .portHoldFlush, .rc .pwrWakeSrc] ps = true) : Touches ps s (State.laneRetrain s a1) := by
  unfold State.laneRetrain
  try extract_lets -merge -underBinder t0
  try clear_value t0
  with_reducible refine Touches.ite ?_ ?_
  ·
    with_reducible refine Touches.ite ?_ ?_
    ·
      with_reducible refine Touches.step ?_ (State.setLane_touches _ _ _ ?_)
      on_goal 2 => exact Part.within_trans rfl hw
      with_reducible exact Touches.refl _ _
    ·
      with_reducible exact Touches.refl _ _
  ·
    with_reducible refine Touches.step ?_ (State.retrain_touches _ _ ?_)
    on_goal 2 => exact Part.within_trans rfl hw
    with_reducible exact Touches.refl _ _

theorem State.laneCtrlWrite_touches {ps : List Part} (s : State) (n : Nat) (v m : Word) (hw : Part.within [.clk, .regs, .evt, .hif, .lanes, .sw, .fab, .bpm, .fdb, .tcore, .tchans, .lnk, .ref, .free, .pll, .tic, .cal, .eng, .pair, .pwr, .rc .bpmDoubleFreeCnt, .rc .bpmForeignFreeCnt, .rc .bpmPoolEmptyCnt, .rc .bpmPromoteCnt, .rc .calAbortCnt, .rc .evtPinStat, .rc .evtSuppressed, .rc .hifEvtLost, .rc .hifRingAborted, .rc .pairMirOvf, .rc .perfTagDrop, .rc .pllCnt, .rc .portHoldFlush, .rc .pwrWakeSrc, .rc .sysApplyStat] ps = true) :
    Touches ps s (s.laneCtrlWrite n v m) := by
  unfold State.laneCtrlWrite
  extract_lets k t src t1
  have ht : Touches ps s t := by
    unfold t State.rxPolarity
    have h0 : Touches ps s (s.storeReg k v m) := State.storeReg_touches _ _ _ _ (Part.within_trans rfl hw)
    exact Touches.ite h0 (h0.step (State.laneUnlock_touches _ _ (Part.within_trans rfl hw)))
  have h1 : Touches ps s t1 := by
    unfold t1
    refine Touches.ite (Touches.ite ?_ ht) ?_
    · exact ht.step (State.setLane_touches _ _ _ (Part.within_trans rfl hw))
    · exact ht.step (State.laneWithdraw_touches _ _ (Part.within_trans rfl hw))
  exact Touches.ite (h1.step (State.laneRetrain_touches _ _ (Part.within_trans rfl hw))) h1

theorem State.grpCtrlStore_touches {ps : List Part} s a1 a2 a3 (hw : Part.within [.regs] ps = true) : Touches ps s (State.grpCtrlStore s a1 a2 a3) := by
  unfold State.grpCtrlStore
  try extract_lets -merge -underBinder t0 t1 t2
  try clear_value t0
  try clear_value t1
  with_reducible refine Touches.set_regs ?_ ?_
  on_goal 2 => exact Part.within_mem rfl hw
  with_reducible exact Touches.refl _ _

theorem State.grpCtrl_touches {ps : List Part} s a1 a2 a3 (hw : Part.within [.clk, .ready, .regs, .evt, .hif, .lanes, .grps, .sw, .fab, .bpm, .fdb, .tcore, .tchans, .lnk, .ref, .free, .pll, .tic, .cal, .eng, .pair, .pwr, .counters] ps = true) : Touches ps s (State.grpCtrl s a1 a2 a3) := by
  unfold State.grpCtrl
  try extract_lets -merge -underBinder t0 t1 t2 t3
  try clear_value t0
  try clear_value t1
  try clear_value t2
  refine Touches.haveS (t := t3) ?_ (fun ht3 => ?_)
  ·
    unfold t3
    with_reducible refine Touches.step ?_ (State.grpCtrlStore_touches _ _ _ _ ?_)
    on_goal 2 => exact Part.within_trans rfl hw
    with_reducible exact Touches.refl _ _
  try clear_value t3
  with_reducible refine Touches.ite ?_ ?_
  ·
    with_reducible exact Touches.refl _ _
  ·
    with_reducible refine Touches.ite ?_ ?_
    ·
      with_reducible refine Touches.step ?_ (State.raise_touches _ _ _ _ _ ?_)
      on_goal 2 => exact Part.within_trans rfl hw
      with_reducible exact Touches.refl _ _
    ·
      with_reducible refine Touches.ite ?_ ?_
      ·
        with_reducible refine Touches.step ?_ (State.grpRemove_touches _ _ _ ?_)
        on_goal 2 => exact Part.within_trans rfl hw
        with_reducible exact ht3
      ·
        with_reducible refine Touches.ite ?_ ?_
        ·
          with_reducible refine Touches.step ?_ (State.grpReturn_touches _ _ ?_)
          on_goal 2 => exact Part.within_trans rfl hw
          with_reducible exact ht3
        ·
          with_reducible exact ht3

theorem State.grpCtrlWrite_touches {ps : List Part} s a1 a2 a3 a4 (hw : Part.within [.clk, .ready, .keys, .regs, .evt, .hif, .lanes, .grps, .sw, .fab, .bpm, .fdb, .tcore, .tchans, .lnk, .ref, .free, .pll, .tic, .cal, .eng, .pair, .pwr, .counters] ps = true) : Touches ps s (State.grpCtrlWrite s a1 a2 a3 a4) := by
  unfold State.grpCtrlWrite
  with_reducible refine Touches.step ?_ (State.keyed_touches _ _ _ _ ?_ (fun _ => ?_))
  on_goal 2 => exact Part.within_trans rfl hw
  ·
    with_reducible exact Touches.refl _ _
  ·
    with_reducible refine Touches.step ?_ (State.grpCtrl_touches _ _ _ _ ?_)
    on_goal 2 => exact Part.within_trans rfl hw
    with_reducible exact Touches.refl _ _

theorem State.portHoldWrite_touches {ps : List Part} s a1 a2 a3 (hw : Part.within [.regs, .evt, .hif, .sw, .fab, .bpm, .fdb, .free, .eng, .rc .bpmDoubleFreeCnt, .rc .bpmForeignFreeCnt, .rc .bpmPoolEmptyCnt, .rc .bpmPromoteCnt, .rc .evtPinStat, .rc .evtSuppressed, .rc .hifEvtLost, .rc .hifRingAborted, .rc .perfTagDrop, .rc .portHoldFlush, .rc .sysApplyStat] ps = true) : Touches ps s (State.portHoldWrite s a1 a2 a3) := by
  unfold State.portHoldWrite
  try extract_lets -merge -underBinder t0
  refine Touches.haveS (t := t0) ?_ (fun ht0 => ?_)
  ·
    unfold t0
    with_reducible refine Touches.step ?_ (State.storeReg_touches _ _ _ _ ?_)
    on_goal 2 => exact Part.within_trans rfl hw
    with_reducible exact Touches.refl _ _
  try clear_value t0
  with_reducible refine Touches.ite ?_ ?_
  ·
    with_reducible refine Touches.step ?_ (State.portFlush_touches _ _ ?_)
    on_goal 2 => exact Part.within_trans rfl hw
    with_reducible exact ht0
  ·
    with_reducible exact ht0

theorem State.resCfgWrite_touches {ps : List Part} s a1 a2 (hw : Part.within [.regs, .evt, .hif, .rc .evtPinStat, .rc .evtSuppressed, .rc .hifEvtLost, .rc .sysApplyStat] ps = true) : Touches ps s (State.resCfgWrite s a1 a2) := by
  unfold State.resCfgWrite
  try extract_lets -merge -underBinder t0
  refine Touches.haveS (t := t0) ?_ (fun ht0 => ?_)
  ·
    unfold t0
    with_reducible refine Touches.step ?_ (State.storeReg_touches _ _ _ _ ?_)
    on_goal 2 => exact Part.within_trans rfl hw
    with_reducible exact Touches.refl _ _
  try clear_value t0
  with_reducible refine Touches.ite ?_ ?_
  ·
    with_reducible refine Touches.step ?_ (State.raise_touches _ _ _ _ _ ?_)
    on_goal 2 => exact Part.within_trans rfl hw
    with_reducible exact Touches.refl _ _
  ·
    with_reducible exact ht0

theorem State.assertCause_touches {ps : List Part} s a1 a2 (hw : Part.within [.bpm] ps = true) : Touches ps s (State.assertCause s a1 a2) := by
  unfold State.assertCause
  try extract_lets -merge -underBinder t0
  try clear_value t0
  with_reducible refine Touches.step ?_ (State.setReq_touches _ _ _ ?_)
  on_goal 2 => exact Part.within_trans rfl hw
  with_reducible exact Touches.refl _ _

theorem State.bpmQuotaWrite_touches {ps : List Part} s a1 a2 (hw : Part.within [.regs, .evt, .hif, .fab, .bpm, .rc .evtPinStat, .rc .evtSuppressed, .rc .hifEvtLost, .rc .sysApplyStat] ps = true) : Touches ps s (State.bpmQuotaWrite s a1 a2) := by
  unfold State.bpmQuotaWrite
  try extract_lets -merge -underBinder t0
  refine Touches.haveS (t := t0) ?_ (fun ht0 => ?_)
  ·
    unfold t0
    with_reducible refine Touches.step ?_ (State.storeReg_touches _ _ _ _ ?_)
    on_goal 2 => exact Part.within_trans rfl hw
    with_reducible exact Touches.refl _ _
  try clear_value t0
  with_reducible refine Touches.step ?_ (State.xoffUpdate_touches _ ?_)
  on_goal 2 => exact Part.within_trans rfl hw
  with_reducible refine Touches.ite ?_ ?_
  ·
    with_reducible refine Touches.step ?_ (State.assertCause_touches _ _ _ ?_)
    on_goal 2 => exact Part.within_trans rfl hw
    with_reducible exact ht0
  ·
    with_reducible refine Touches.step ?_ (State.causesClear_touches _ ?_)
    on_goal 2 => exact Part.within_trans rfl hw
    with_reducible exact ht0

theorem State.swapReq_touches {ps : List Part} s (hw : Part.within [.evt, .hif, .tcore, .rc .evtPinStat, .rc .evtSuppressed, .rc .hifEvtLost] ps = true) : Touches ps s (State.swapReq s) := by
  unfold State.swapReq
  try extract_lets -merge -underBinder t0
  with_reducible refine Touches.ite ?_ ?_
  ·
    with_reducible refine Touches.step ?_ (State.raise_touches _ _ _ _ _ ?_)
    on_goal 2 => exact Part.within_trans rfl hw
    with_reducible exact Touches.refl _ _
  ·
    with_reducible refine Touches.ite ?_ ?_
    ·
      with_reducible refine Touches.step ?_ (State.raise_touches _ _ _ _ _ ?_)
      on_goal 2 => exact Part.within_trans rfl hw
      with_reducible exact Touches.refl _ _
    ·
      with_reducible refine Touches.ite ?_ ?_
      ·
        with_reducible refine Touches.step ?_ (State.raise_touches _ _ _ _ _ ?_)
        on_goal 2 => exact Part.within_trans rfl hw
        with_reducible exact Touches.refl _ _
      ·
        with_reducible refine Touches.set_tcore ?_ ?_
        on_goal 2 => exact Part.within_mem rfl hw
        with_reducible exact Touches.refl _ _

theorem State.swapCancel_touches {ps : List Part} s (hw : Part.within [.evt, .hif, .tcore, .rc .evtPinStat, .rc .evtSuppressed, .rc .hifEvtLost] ps = true) : Touches ps s (State.swapCancel s) := by
  unfold State.swapCancel
  try extract_lets -merge -underBinder t0
  with_reducible refine Touches.ite ?_ ?_
  ·
    with_reducible refine Touches.set_tcore ?_ ?_
    on_goal 2 => exact Part.within_mem rfl hw
    with_reducible exact Touches.refl _ _
  ·
    with_reducible refine Touches.step ?_ (State.raise_touches _ _ _ _ _ ?_)
    on_goal 2 => exact Part.within_trans rfl hw
    with_reducible exact Touches.refl _ _

theorem State.swapDrop_touches {ps : List Part} s a1 (hw : Part.within [.evt, .hif, .tcore, .rc .evtPinStat, .rc .evtSuppressed, .rc .hifEvtLost] ps = true) : Touches ps s (State.swapDrop s a1) := by
  unfold State.swapDrop
  try extract_lets -merge -underBinder t0
  with_reducible refine Touches.ite ?_ ?_
  ·
    with_reducible exact Touches.refl _ _
  ·
    with_reducible refine Touches.step ?_ (State.raise_touches _ _ _ _ _ ?_)
    on_goal 2 => exact Part.within_trans rfl hw
    with_reducible refine Touches.set_tcore ?_ ?_
    on_goal 2 => exact Part.within_mem rfl hw
    with_reducible exact Touches.refl _ _

theorem State.stbyOut_touches {ps : List Part} s (hw : Part.within [.evt, .hif, .tcore, .rc .evtPinStat, .rc .evtSuppressed, .rc .hifEvtLost] ps = true) : Touches ps s (State.stbyOut s) := by
  unfold State.stbyOut
  try extract_lets -merge -underBinder t0
  with_reducible refine Touches.step ?_ (State.swapDrop_touches _ _ ?_)
  on_goal 2 => exact Part.within_trans rfl hw
  with_reducible refine Touches.set_tcore ?_ ?_
  on_goal 2 => exact Part.within_mem rfl hw
  with_reducible exact Touches.refl _ _

theorem State.putStandby_touches {ps : List Part} s a1 (hw : Part.within [.clk] ps = true) : Touches ps s (State.putStandby s a1) := by
  unfold State.putStandby
  try extract_lets -merge -underBinder t0 t1 t2
  try clear_value t0
  with_reducible refine Touches.set_clk ?_ ?_
  on_goal 2 => exact Part.within_mem rfl hw
  with_reducible exact Touches.refl _ _

theorem State.stbyIn_touches {ps : List Part} s (hw : Part.within [.clk, .tcore] ps = true) : Touches ps s (State.stbyIn s) := by
  unfold State.stbyIn
  try extract_lets -merge -underBinder t0 t1
  refine Touches.haveS (t := t0) ?_ (fun ht0 => ?_)
  ·
    unfold t0
    with_reducible refine Touches.step ?_ (State.putStandby_touches _ _ ?_)
    on_goal 2 => exact Part.within_trans rfl hw
    with_reducible exact Touches.refl _ _
  try clear_value t0
  with_reducible refine Touches.ite ?_ ?_
  ·
    with_reducible exact Touches.refl _ _
  ·
    with_reducible refine Touches.set_tcore ?_ ?_
    on_goal 2 => exact Part.within_mem rfl hw
    with_reducible exact ht0

theorem State.swapAct_touches {ps : List Part} s a1 (hw : Part.within [.clk, .regs, .evt, .hif, .tcore, .rc .evtPinStat, .rc .evtSuppressed, .rc .hifEvtLost] ps = true) : Touches ps s (State.swapAct s a1) := by
  unfold State.swapAct
  try extract_lets -merge -underBinder t0 t1
  refine Touches.haveS (t := t1) ?_ (fun ht1 => ?_)
  ·
    unfold t1
    with_reducible refine Touches.set_regs ?_ ?_
    on_goal 2 => exact Part.within_mem rfl hw
    with_reducible exact Touches.refl _ _
  try clear_value t1
  split
  ·
    with_reducible exact ht1
  ·
    with_reducible refine Touches.step ?_ (State.swapReq_touches _ ?_)
    on_goal 2 => exact Part.within_trans rfl hw
    with_reducible exact ht1
  ·
    with_reducible refine Touches.step ?_ (State.swapCancel_touches _ ?_)
    on_goal 2 => exact Part.within_trans rfl hw
    with_reducible exact ht1
  ·
    with_reducible refine Touches.step ?_ (State.stbyOut_touches _ ?_)
    on_goal 2 => exact Part.within_trans rfl hw
    with_reducible exact ht1
  ·
    with_reducible refine Touches.step ?_ (State.stbyIn_touches _ ?_)
    on_goal 2 => exact Part.within_trans rfl hw
    with_reducible exact ht1
  ·
    with_reducible refine Touches.step ?_ (State.raise_touches _ _ _ _ _ ?_)
    on_goal 2 => exact Part.within_trans rfl hw
    with_reducible exact ht1

theorem State.swapWrite_touches {ps : List Part} s a1 a2 (hw : Part.within [.clk, .keys, .regs, .evt, .hif, .tcore, .rc .evtPinStat, .rc .evtSuppressed, .rc .hifEvtLost] ps = true) : Touches ps s (State.swapWrite s a1 a2) := by
  unfold State.swapWrite
  with_reducible refine Touches.step ?_ (State.keyed_touches _ _ _ _ ?_ (fun _ => ?_))
  on_goal 2 => exact Part.within_trans rfl hw
  ·
    with_reducible exact Touches.refl _ _
  ·
    with_reducible refine Touches.step ?_ (State.swapAct_touches _ _ ?_)
    on_goal 2 => exact Part.within_trans rfl hw
    with_reducible exact Touches.refl _ _

theorem State.prefWrite_touches {ps : List Part} s a1 a2 a3 (hw : Part.within [.clk, .regs, .evt, .hif, .tcore, .tchans, .ref, .pll, .eng, .pair, .pwr, .rc .evtPinStat, .rc .evtSuppressed, .rc .hifEvtLost, .rc .pairMirOvf, .rc .pllCnt, .rc .pwrWakeSrc, .rc .sysApplyStat] ps = true) : Touches ps s (State.prefWrite s a1 a2 a3) := by
  unfold State.prefWrite
  try extract_lets -merge -underBinder t0 t1 t2 t3 t4 t5 t6 t7
  try clear_value t0
  refine Touches.haveS (t := t1) ?_ (fun ht1 => ?_)
  ·
    unfold t1
    with_reducible refine Touches.step ?_ (State.storeReg_touches _ _ _ _ ?_)
    on_goal 2 => exact Part.within_trans rfl hw
    with_reducible exact Touches.refl _ _
  try clear_value t1
  try clear_value t2
  try clear_value t3
  refine Touches.haveS (t := t7) ?_ (fun ht7 => ?_)
  ·
    unfold t7
    with_reducible refine Touches.set_ref ?_ ?_
    on_goal 2 => exact Part.within_mem rfl hw
    with_reducible exact ht1
  try clear_value t7
  with_reducible refine Touches.ite ?_ ?_
  ·
    with_reducible refine Touches.step ?_ (State.raise_touches _ _ _ _ _ ?_)
    on_goal 2 => exact Part.within_trans rfl hw
    with_reducible refine Touches.set_regs ?_ ?_
    on_goal 2 => exact Part.within_mem rfl hw
    with_reducible exact ht1
  ·
    with_reducible refine Touches.step ?_ (State.reselect_touches _ ?_)
    on_goal 2 => exact Part.within_trans rfl hw
    with_reducible exact ht7

theorem State.tempExtWrite_touches {ps : List Part} s a1 a2 (hw : Part.within [.regs, .evt, .hif, .ref, .rc .evtPinStat, .rc .evtSuppressed, .rc .hifEvtLost, .rc .sysApplyStat] ps = true) : Touches ps s (State.tempExtWrite s a1 a2) := by
  unfold State.tempExtWrite
  try extract_lets -merge -underBinder t0 t1
  refine Touches.haveS (t := t0) ?_ (fun ht0 => ?_)
  ·
    unfold t0
    with_reducible refine Touches.step ?_ (State.storeReg_touches _ _ _ _ ?_)
    on_goal 2 => exact Part.within_trans rfl hw
    with_reducible exact Touches.refl _ _
  try clear_value t0
  with_reducible refine Touches.set_ref ?_ ?_
  on_goal 2 => exact Part.within_mem rfl hw
  with_reducible exact ht0

theorem State.surveyStart_touches {ps : List Part} s (hw : Part.within [.gnss] ps = true) : Touches ps s (State.surveyStart s) := by
  unfold State.surveyStart
  try extract_lets -merge -underBinder t0
  with_reducible refine Touches.set_gnss ?_ ?_
  on_goal 2 => exact Part.within_mem rfl hw
  with_reducible exact Touches.refl _ _

theorem State.surveyHold_touches {ps : List Part} s (hw : Part.within [.regs, .gnss] ps = true) : Touches ps s (State.surveyHold s) := by
  unfold State.surveyHold
  try extract_lets -merge -underBinder t0 t1 t2 t3 t4
  try clear_value t0
  refine Touches.haveS (t := t1) ?_ (fun ht1 => ?_)
  ·
    unfold t1
    with_reducible refine Touches.step ?_ (State.putBoth_touches _ _ _ _ _ ?_)
    on_goal 2 => exact Part.within_trans rfl hw
    with_reducible refine Touches.step ?_ (State.putBoth_touches _ _ _ _ _ ?_)
    on_goal 2 => exact Part.within_trans rfl hw
    with_reducible exact Touches.refl _ _
  try clear_value t1
  refine Touches.haveS (t := t2) ?_ (fun ht2 => ?_)
  ·
    unfold t2
    with_reducible refine Touches.step ?_ (State.putBoth_touches _ _ _ _ _ ?_)
    on_goal 2 => exact Part.within_trans rfl hw
    with_reducible refine Touches.step ?_ (State.putBoth_touches _ _ _ _ _ ?_)
    on_goal 2 => exact Part.within_trans rfl hw
    with_reducible exact ht1
  try clear_value t2
  with_reducible refine Touches.set_gnss ?_ ?_
  on_goal 2 => exact Part.within_mem rfl hw
  with_reducible exact ht2

theorem State.surveyCheck_touches {ps : List Part} s (hw : Part.within [.regs, .evt, .hif, .gnss, .rc .evtPinStat, .rc .evtSuppressed, .rc .hifEvtLost] ps = true) : Touches ps s (State.surveyCheck s) := by
  unfold State.surveyCheck
  try extract_lets -merge -underBinder t0 t1
  try clear_value t0
  try clear_value t1
  with_reducible refine Touches.ite ?_ ?_
  ·
    with_reducible refine Touches.step ?_ (State.raise_touches _ _ _ _ _ ?_)
    on_goal 2 => exact Part.within_trans rfl hw
    with_reducible refine Touches.step ?_ (State.surveyHold_touches _ ?_)
    on_goal 2 => exact Part.within_trans rfl hw
    with_reducible exact Touches.refl _ _
  ·
    with_reducible exact Touches.refl _ _

end Sys2Proof.Machine
end

