-- ==== Sys2Proof/Laws/Frames3.lean ====
section
/-! SUPPORT. What each operation of the machine may change, part 3 of 6: one lemma for one operation, in the order in which the
operations build on one another.  Every other part of the state is the same after it. -/

set_option Elab.async false

namespace Sys2Proof.Machine

theorem State.posCfgWrite_touches {ps : List Part} s a1 a2 (hw : Part.within [.regs, .evt, .hif, .gnss, .rc .evtPinStat, .rc .evtSuppressed, .rc .hifEvtLost, .rc .sysApplyStat] ps = true) : Touches ps s (State.posCfgWrite s a1 a2) := by
  unfold State.posCfgWrite
  try extract_lets -merge -underBinder t0 t1 t2
  refine Touches.haveS (t := t0) ?_ (fun ht0 => ?_)
  ·
    unfold t0
    with_reducible refine Touches.step ?_ (State.storeReg_touches _ _ _ _ ?_)
    on_goal 2 => exact Part.within_trans rfl hw
    with_reducible exact Touches.refl _ _
  try clear_value t0
  with_reducible refine Touches.ite ?_ ?_
  ·
    with_reducible refine Touches.step ?_ (State.surveyStart_touches _ ?_)
    on_goal 2 => exact Part.within_trans rfl hw
    with_reducible exact ht0
  ·
    with_reducible refine Touches.ite ?_ ?_
    ·
      with_reducible refine Touches.set_gnss ?_ ?_
      on_goal 2 => exact Part.within_mem rfl hw
      with_reducible exact ht0
    ·
      with_reducible refine Touches.step ?_ (State.surveyCheck_touches _ ?_)
      on_goal 2 => exact Part.within_trans rfl hw
      with_reducible exact ht0

theorem State.gnssRebind_touches {ps : List Part} s a1 a2 (hw : Part.within [.evt, .hif, .gnss, .rc .evtPinStat, .rc .evtSuppressed, .rc .gnssLossCnt, .rc .hifEvtLost] ps = true) : Touches ps s (State.gnssRebind s a1 a2) := by
  unfold State.gnssRebind
  try extract_lets -merge -underBinder t0
  with_reducible refine Touches.ite ?_ ?_
  ·
    with_reducible exact Touches.refl _ _
  ·
    with_reducible refine Touches.ite ?_ ?_
    ·
      with_reducible exact Touches.refl _ _
    ·
      with_reducible refine Touches.ite ?_ ?_
      ·
        with_reducible refine Touches.step ?_ (State.goGnssCh_touches _ _ _ ?_)
        on_goal 2 => exact Part.within_trans rfl hw
        with_reducible exact Touches.refl _ _
      ·
        with_reducible refine Touches.step ?_ (State.goGnssCh_touches _ _ _ ?_)
        on_goal 2 => exact Part.within_trans rfl hw
        with_reducible refine Touches.step ?_ (State.setGnssCh_touches _ _ _ ?_)
        on_goal 2 => exact Part.within_trans rfl hw
        with_reducible exact Touches.refl _ _

theorem State.gnssChWrite_touches {ps : List Part} s a1 a2 a3 a4 (hw : Part.within [.regs, .evt, .hif, .gnss, .rc .evtPinStat, .rc .evtSuppressed, .rc .gnssDetDrop, .rc .gnssLossCnt, .rc .hifEvtLost, .rc .sysApplyStat] ps = true) : Touches ps s (State.gnssChWrite s a1 a2 a3 a4) := by
  unfold State.gnssChWrite
  try extract_lets -merge -underBinder t0 t1 t2
  refine Touches.haveS (t := t0) ?_ (fun ht0 => ?_)
  ·
    unfold t0
    with_reducible refine Touches.step ?_ (State.storeReg_touches _ _ _ _ ?_)
    on_goal 2 => exact Part.within_trans rfl hw
    with_reducible exact Touches.refl _ _
  try clear_value t0
  try clear_value t1
  try clear_value t2
  with_reducible refine Touches.ite ?_ ?_
  ·
    with_reducible exact Touches.refl _ _
  ·
    with_reducible refine Touches.ite ?_ ?_
    ·
      with_reducible refine Touches.ite ?_ ?_
      ·
        with_reducible refine Touches.step ?_ (State.bump_touches _ _ _ _ ?_)
        on_goal 2 => exact Part.within_trans rfl hw
        with_reducible exact Touches.refl _ _
      ·
        with_reducible refine Touches.step ?_ (State.raise_touches _ _ _ _ _ ?_)
        on_goal 2 => exact Part.within_trans rfl hw
        with_reducible exact Touches.refl _ _
    ·
      with_reducible refine Touches.step ?_ (State.gnssRebind_touches _ _ _ ?_)
      on_goal 2 => exact Part.within_trans rfl hw
      with_reducible exact ht0

theorem State.bankGo_touches {ps : List Part} s a1 a2 (hw : Part.within [.eng] ps = true) : Touches ps s (State.bankGo s a1 a2) := by
  unfold State.bankGo
  try extract_lets -merge -underBinder t0 t1
  try clear_value t0
  with_reducible refine Touches.ite ?_ ?_
  ·
    with_reducible exact Touches.refl _ _
  ·
    with_reducible refine Touches.setEng ?_ ?_ ?_
    on_goal 2 => exact Part.within_mem rfl hw
    on_goal 2 => rfl
    with_reducible exact Touches.refl _ _

theorem State.spadPwrWrite_touches {ps : List Part} s a1 a2 a3 (hw : Part.within [.regs, .evt, .hif, .eng, .rc .evtPinStat, .rc .evtSuppressed, .rc .hifEvtLost, .rc .sysApplyStat] ps = true) : Touches ps s (State.spadPwrWrite s a1 a2 a3) := by
  unfold State.spadPwrWrite
  try extract_lets -merge -underBinder t0 t1 t2 t3 t4 t5 t6 t7 t8
  try clear_value t0
  refine Touches.haveS (t := t1) ?_ (fun ht1 => ?_)
  ·
    unfold t1
    with_reducible refine Touches.step ?_ (State.storeReg_touches _ _ _ _ ?_)
    on_goal 2 => exact Part.within_trans rfl hw
    with_reducible exact Touches.refl _ _
  try clear_value t1
  try clear_value t2
  try clear_value t3
  try clear_value t4
  try clear_value t5
  refine Touches.haveS (t := t7) ?_ (fun ht7 => ?_)
  ·
    unfold t7
    with_reducible refine Touches.set_regs ?_ ?_
    on_goal 2 => exact Part.within_mem rfl hw
    with_reducible exact ht1
  try clear_value t7
  refine Touches.haveS (t := t8) ?_ (fun ht8 => ?_)
  ·
    unfold t8
    with_reducible refine Touches.foldl (fun _ _ => ?_) _ ?_
    ·
      with_reducible refine Touches.step ?_ (State.bankGo_touches _ _ _ ?_)
      on_goal 2 => exact Part.within_trans rfl hw
      with_reducible exact Touches.refl _ _
    ·
      with_reducible exact ht7
  try clear_value t8
  with_reducible refine Touches.step ?_ (State.raiseIf_touches _ _ _ _ _ _ ?_)
  on_goal 2 => exact Part.within_trans rfl hw
  with_reducible exact ht8

theorem State.setPc_touches {ps : List Part} s a1 a2 a3 (hw : Part.within [.eng] ps = true) : Touches ps s (State.setPc s a1 a2 a3) := by
  unfold State.setPc
  try extract_lets -merge -underBinder t0
  with_reducible refine Touches.setEng ?_ ?_ ?_
  on_goal 2 => exact Part.within_mem rfl hw
  on_goal 2 => rfl
  with_reducible exact Touches.refl _ _

theorem State.perfSel_touches {ps : List Part} s a1 a2 a3 a4 (hw : Part.within [.regs, .evt, .hif, .free, .eng, .rc .evtPinStat, .rc .evtSuppressed, .rc .hifEvtLost, .rc .sysApplyStat] ps = true) : Touches ps s (State.perfSel s a1 a2 a3 a4) := by
  unfold State.perfSel
  try extract_lets -merge -underBinder t0 t1 t2 t3 t4 t5 t6 t7 t8
  try clear_value t0
  refine Touches.haveS (t := t1) ?_ (fun ht1 => ?_)
  ·
    unfold t1
    with_reducible refine Touches.step ?_ (State.storeReg_touches _ _ _ _ ?_)
    on_goal 2 => exact Part.within_trans rfl hw
    with_reducible exact Touches.refl _ _
  try clear_value t1
  try clear_value t2
  try clear_value t3
  try clear_value t4
  try clear_value t5
  refine Touches.haveS (t := t7) ?_ (fun ht7 => ?_)
  ·
    unfold t7
    with_reducible refine Touches.set_regs ?_ ?_
    on_goal 2 => exact Part.within_mem rfl hw
    with_reducible exact ht1
  try clear_value t7
  refine Touches.haveS (t := t8) ?_ (fun ht8 => ?_)
  ·
    unfold t8
    with_reducible refine Touches.foldl (fun _ _ => ?_) _ ?_
    ·
      try extract_lets -merge -underBinder t9
      try clear_value t9
      with_reducible refine Touches.ite ?_ ?_
      ·
        with_reducible refine Touches.step ?_ (State.setPc_touches _ _ _ _ ?_)
        on_goal 2 => exact Part.within_trans rfl hw
        with_reducible exact Touches.refl _ _
      ·
        with_reducible refine Touches.ite ?_ ?_
        ·
          with_reducible exact Touches.refl _ _
        ·
          with_reducible refine Touches.step ?_ (State.setPc_touches _ _ _ _ ?_)
          on_goal 2 => exact Part.within_trans rfl hw
          with_reducible refine Touches.set_free ?_ ?_
          on_goal 2 => exact Part.within_mem rfl hw
          with_reducible exact Touches.refl _ _
    ·
      with_reducible exact ht7
  try clear_value t8
  with_reducible refine Touches.step ?_ (State.raiseIf_touches _ _ _ _ _ _ ?_)
  on_goal 2 => exact Part.within_trans rfl hw
  with_reducible exact ht8

theorem State.perfClr_touches {ps : List Part} s a1 a2 (hw : Part.within [.eng] ps = true) : Touches ps s (State.perfClr s a1 a2) := by
  unfold State.perfClr
  with_reducible refine Touches.foldl (fun _ _ => ?_) _ ?_
  ·
    with_reducible refine Touches.step ?_ (State.setPc_touches _ _ _ _ ?_)
    on_goal 2 => exact Part.within_trans rfl hw
    with_reducible exact Touches.refl _ _
  ·
    with_reducible exact Touches.refl _ _

theorem State.putReq_touches {ps : List Part} s a1 (hw : Part.within [.regs] ps = true) : Touches ps s (State.putReq s a1) := by
  unfold State.putReq
  try extract_lets -merge -underBinder t0 t1 t2
  refine Touches.haveS (t := t0) ?_ (fun ht0 => ?_)
  ·
    unfold t0
    with_reducible refine Touches.step ?_ (State.putBoth_touches _ _ _ _ _ ?_)
    on_goal 2 => exact Part.within_trans rfl hw
    with_reducible exact Touches.refl _ _
  try clear_value t0
  try clear_value t1
  with_reducible refine Touches.set_regs ?_ ?_
  on_goal 2 => exact Part.within_mem rfl hw
  with_reducible exact ht0

theorem State.roleReq_touches {ps : List Part} s a1 (hw : Part.within [.clk, .regs, .evt, .hif, .fdb, .tcore, .ref, .free, .pair, .pwr, .boot, .rc .evtPinStat, .rc .evtSuppressed, .rc .hifEvtLost, .rc .hifRingAborted, .rc .pairMirOvf, .rc .pairPromoteCnt, .rc .pwrWakeSrc] ps = true) : Touches ps s (State.roleReq s a1) := by
  unfold State.roleReq
  try extract_lets -merge -underBinder t0 t1 t2 t3
  try clear_value t0
  refine Touches.haveS (t := t1) ?_ (fun ht1 => ?_)
  ·
    unfold t1
    with_reducible refine Touches.step ?_ (State.putReq_touches _ _ ?_)
    on_goal 2 => exact Part.within_trans rfl hw
    with_reducible exact Touches.refl _ _
  try clear_value t1
  try clear_value t2
  with_reducible refine Touches.ite ?_ ?_
  ·
    with_reducible exact Touches.refl _ _
  ·
    with_reducible refine Touches.ite ?_ ?_
    ·
      with_reducible refine Touches.step ?_ (State.putReq_touches _ _ ?_)
      on_goal 2 => exact Part.within_trans rfl hw
      with_reducible exact Touches.refl _ _
    ·
      with_reducible refine Touches.ite ?_ ?_
      ·
        with_reducible refine Touches.step ?_ (State.pairPromote_touches _ _ _ ?_)
        on_goal 2 => exact Part.within_trans rfl hw
        with_reducible refine Touches.step ?_ (State.putReq_touches _ _ ?_)
        on_goal 2 => exact Part.within_trans rfl hw
        with_reducible exact Touches.refl _ _
      ·
        with_reducible refine Touches.ite ?_ ?_
        ·
          with_reducible refine Touches.step ?_ (State.putReq_touches _ _ ?_)
          on_goal 2 => exact Part.within_trans rfl hw
          with_reducible exact Touches.refl _ _
        ·
          with_reducible refine Touches.ite ?_ ?_
          ·
            with_reducible refine Touches.ite ?_ ?_
            ·
              with_reducible exact ht1
            ·
              with_reducible refine Touches.step ?_ (State.omdSend_touches _ _ ?_)
              on_goal 2 => exact Part.within_trans rfl hw
              with_reducible refine Touches.set_pair ?_ ?_
              on_goal 2 => exact Part.within_mem rfl hw
              with_reducible exact ht1
          ·
            with_reducible refine Touches.step ?_ (State.raise_touches _ _ _ _ _ ?_)
            on_goal 2 => exact Part.within_trans rfl hw
            with_reducible exact Touches.refl _ _

theorem State.pairRoleWrite_touches {ps : List Part} s a1 a2 (hw : Part.within [.clk, .keys, .regs, .evt, .hif, .fdb, .tcore, .ref, .free, .pair, .pwr, .boot, .rc .evtPinStat, .rc .evtSuppressed, .rc .hifEvtLost, .rc .hifRingAborted, .rc .pairMirOvf, .rc .pairPromoteCnt, .rc .pwrWakeSrc, .rc .sysApplyStat] ps = true) : Touches ps s (State.pairRoleWrite s a1 a2) := by
  unfold State.pairRoleWrite
  with_reducible refine Touches.ite ?_ ?_
  ·
    with_reducible exact Touches.refl _ _
  ·
    with_reducible refine Touches.step ?_ (State.keyed_touches _ _ _ _ ?_ (fun _ => ?_))
    on_goal 2 => exact Part.within_trans rfl hw
    ·
      with_reducible exact Touches.refl _ _
    ·
      with_reducible refine Touches.ite ?_ ?_
      ·
        with_reducible refine Touches.step ?_ (State.roleReq_touches _ _ ?_)
        on_goal 2 => exact Part.within_trans rfl hw
        with_reducible exact Touches.refl _ _
      ·
        with_reducible refine Touches.step ?_ (State.storeReg_touches _ _ _ _ ?_)
        on_goal 2 => exact Part.within_trans rfl hw
        with_reducible exact Touches.refl _ _

theorem State.regOwn_touches {ps : List Part} (s : State) (p : Path) (k : RegKey) (v m : Word) (hw : Part.within [.clk, .ready, .keys, .regs, .evt, .pers, .hif, .index, .objs, .lanes, .grps, .sw, .fab, .bpm, .fdb, .tcore, .tchans, .lnk, .ref, .free, .pll, .gnss, .tic, .cal, .eng, .spad, .pair, .pwr, .boot, .counters] ps = true) {t : State}
    (h : s.regOwn p k v m = some t) : Touches ps s t := by
  unfold State.regOwn at h
  dsimp only at h
  split at h
  · rw [← Option.some.inj h]; exact State.commitWrite_touches _ _ (Part.within_trans rfl hw)
  · rw [← Option.some.inj h]; exact Touches.ite (Touches.refl _ _) (State.persWrite_touches _ _ _ _ (Part.within_trans rfl hw))
  · rw [← Option.some.inj h]; exact Touches.ite (Touches.refl _ _) (State.pwrRequest_touches _ _ _ (Part.within_trans rfl hw))
  · rw [← Option.some.inj h]; exact State.padRelease_touches _ _ (Part.within_trans rfl hw)
  · rw [← Option.some.inj h]; exact State.pwrForce_touches _ _ _ _ (Part.within_trans rfl hw)
  · rw [← Option.some.inj h]; exact State.evtCtrlWrite_touches _ _ (Part.within_trans rfl hw)
  · rw [← Option.some.inj h]; exact State.ringCtrlWrite_touches _ _ _ _ (Part.within_trans rfl hw)
  · rw [← Option.some.inj h]; exact State.ringBaseWrite_touches _ _ _ _ (Part.within_trans rfl hw)
  · rw [← Option.some.inj h]; exact State.ringBaseWrite_touches _ _ _ _ (Part.within_trans rfl hw)
  · rw [← Option.some.inj h]; exact State.ringBaseWrite_touches _ _ _ _ (Part.within_trans rfl hw)
  · rw [← Option.some.inj h]; exact State.laneCtrlWrite_touches _ _ _ _ (Part.within_trans rfl hw)
  · rw [← Option.some.inj h]; exact State.grpCtrlWrite_touches _ _ _ _ _ (Part.within_trans rfl hw)
  · rw [← Option.some.inj h]; exact State.portHoldWrite_touches _ _ _ _ (Part.within_trans rfl hw)
  · rw [← Option.some.inj h]; exact State.resCfgWrite_touches _ _ _ (Part.within_trans rfl hw)
  · rw [← Option.some.inj h]; exact State.bpmQuotaWrite_touches _ _ _ (Part.within_trans rfl hw)
  · rw [← Option.some.inj h]; exact State.swapWrite_touches _ _ _ (Part.within_trans rfl hw)
  · rw [← Option.some.inj h]; exact State.prefWrite_touches _ _ _ _ (Part.within_trans rfl hw)
  · rw [← Option.some.inj h]; exact State.prefWrite_touches _ _ _ _ (Part.within_trans rfl hw)
  · rw [← Option.some.inj h]; exact State.tempExtWrite_touches _ _ _ (Part.within_trans rfl hw)
  · rw [← Option.some.inj h]; exact State.posCfgWrite_touches _ _ _ (Part.within_trans rfl hw)
  · rw [← Option.some.inj h]; exact State.gnssChWrite_touches _ _ _ _ _ (Part.within_trans rfl hw)
  · rw [← Option.some.inj h]; exact State.spadPwrWrite_touches _ _ _ _ (Part.within_trans rfl hw)
  · rw [← Option.some.inj h]; exact State.perfSel_touches _ _ _ _ _ (Part.within_trans rfl hw)
  · rw [← Option.some.inj h]; exact State.perfClr_touches _ _ _ (Part.within_trans rfl hw)
  · rw [← Option.some.inj h]; exact Touches.ite (State.keyed_touches _ _ _ _ (Part.within_trans rfl hw) (fun _ => Touches.refl _ _)) (State.pairRoleWrite_touches _ _ _ (Part.within_trans rfl hw))
  · cases h

theorem State.dropPending_touches {ps : List Part} s a1 (hw : Part.within [.regs] ps = true) : Touches ps s (State.dropPending s a1) := by
  unfold State.dropPending
  try extract_lets -merge -underBinder t0
  with_reducible refine Touches.set_regs ?_ ?_
  on_goal 2 => exact Part.within_mem rfl hw
  with_reducible exact Touches.refl _ _

theorem State.candPass_touches {ps : List Part} s a1 (hw : Part.within [.evt, .hif, .ref, .pll, .eng, .rc .evtPinStat, .rc .evtSuppressed, .rc .hifEvtLost, .rc .pllCnt, .rc .refHoldoffCnt] ps = true) : Touches ps s (State.candPass s a1) := by
  unfold State.candPass
  try extract_lets -merge -underBinder t0 t1 t2
  try clear_value t0
  refine Touches.haveS (t := t2) ?_ (fun ht2 => ?_)
  ·
    unfold t2
    with_reducible refine Touches.set_ref ?_ ?_
    on_goal 2 => exact Part.within_mem rfl hw
    with_reducible exact Touches.refl _ _
  try clear_value t2
  split
  ·
    with_reducible refine Touches.step ?_ (State.setCandSt_touches _ _ _ _ ?_)
    on_goal 2 => exact Part.within_trans rfl hw
    with_reducible exact ht2
  ·
    with_reducible refine Touches.ite ?_ ?_
    ·
      with_reducible refine Touches.step ?_ (State.setCandSt_touches _ _ _ _ ?_)
      on_goal 2 => exact Part.within_trans rfl hw
      with_reducible exact ht2
    ·
      with_reducible exact ht2
  ·
    try extract_lets -merge -underBinder t3 t4
    refine Touches.haveS (t := t4) ?_ (fun ht4 => ?_)
    ·
      unfold t4
      with_reducible refine Touches.ite ?_ ?_
      ·
        with_reducible refine Touches.set_ref ?_ ?_
        on_goal 2 => exact Part.within_mem rfl hw
        with_reducible exact ht2
      ·
        with_reducible exact ht2
    try clear_value t4
    with_reducible refine Touches.step ?_ (State.setCandSt_touches _ _ _ _ ?_)
    on_goal 2 => exact Part.within_trans rfl hw
    with_reducible refine Touches.step ?_ (State.bump_touches _ _ _ _ ?_)
    on_goal 2 => exact Part.within_trans rfl hw
    with_reducible exact ht4
  ·
    with_reducible exact ht2

theorem State.recheck_touches {ps : List Part} s a1 (hw : Part.within [.clk, .evt, .hif, .tcore, .tchans, .ref, .pll, .eng, .pair, .pwr, .rc .evtPinStat, .rc .evtSuppressed, .rc .hifEvtLost, .rc .pairMirOvf, .rc .pllCnt, .rc .pwrWakeSrc, .rc .refHoldoffCnt] ps = true) : Touches ps s (State.recheck s a1) := by
  unfold State.recheck
  try extract_lets -merge -underBinder t0 t1
  try clear_value t0
  try clear_value t1
  with_reducible refine Touches.ite ?_ ?_
  ·
    with_reducible refine Touches.step ?_ (State.candFail_touches _ _ _ ?_)
    on_goal 2 => exact Part.within_trans rfl hw
    with_reducible exact Touches.refl _ _
  ·
    with_reducible refine Touches.ite ?_ ?_
    ·
      with_reducible refine Touches.step ?_ (State.candPass_touches _ _ ?_)
      on_goal 2 => exact Part.within_trans rfl hw
      with_reducible exact Touches.refl _ _
    ·
      with_reducible exact Touches.refl _ _

theorem State.chanCand_touches {ps : List Part} s a1 (hw : Part.within [.clk, .evt, .hif, .tcore, .tchans, .ref, .pll, .eng, .pair, .pwr, .rc .evtPinStat, .rc .evtSuppressed, .rc .hifEvtLost, .rc .pairMirOvf, .rc .pllCnt, .rc .pwrWakeSrc] ps = true) : Touches ps s (State.chanCand s a1) := by
  unfold State.chanCand
  try extract_lets -merge -underBinder t0 t1
  try clear_value t0
  try clear_value t1
  with_reducible refine Touches.ite ?_ ?_
  ·
    with_reducible exact Touches.refl _ _
  ·
    with_reducible refine Touches.ite ?_ ?_
    ·
      with_reducible refine Touches.ite ?_ ?_
      ·
        with_reducible exact Touches.refl _ _
      ·
        with_reducible refine Touches.step ?_ (State.setCandSt_touches _ _ _ _ ?_)
        on_goal 2 => exact Part.within_trans rfl hw
        with_reducible exact Touches.refl _ _
    ·
      split
      ·
        with_reducible refine Touches.ite ?_ ?_
        ·
          with_reducible exact Touches.refl _ _
        ·
          with_reducible refine Touches.ite ?_ ?_
          ·
            with_reducible refine Touches.step ?_ (State.setCandSt_touches _ _ _ _ ?_)
            on_goal 2 => exact Part.within_trans rfl hw
            with_reducible exact Touches.refl _ _
          ·
            with_reducible refine Touches.ite ?_ ?_
            ·
              with_reducible refine Touches.step ?_ (State.candFail_touches _ _ _ ?_)
              on_goal 2 => exact Part.within_trans rfl hw
              with_reducible exact Touches.refl _ _
            ·
              with_reducible refine Touches.ite ?_ ?_
              ·
                with_reducible exact Touches.refl _ _
              ·
                with_reducible refine Touches.step ?_ (State.setCandSt_touches _ _ _ _ ?_)
                on_goal 2 => exact Part.within_trans rfl hw
                with_reducible exact Touches.refl _ _
      ·
        with_reducible refine Touches.ite ?_ ?_
        ·
          with_reducible exact Touches.refl _ _
        ·
          with_reducible refine Touches.ite ?_ ?_
          ·
            with_reducible refine Touches.step ?_ (State.setCandSt_touches _ _ _ _ ?_)
            on_goal 2 => exact Part.within_trans rfl hw
            with_reducible refine Touches.ite ?_ ?_
            ·
              with_reducible exact Touches.refl _ _
            ·
              with_reducible refine Touches.step ?_ (State.setCandSt_touches _ _ _ _ ?_)
              on_goal 2 => exact Part.within_trans rfl hw
              with_reducible exact Touches.refl _ _
          ·
            with_reducible refine Touches.ite ?_ ?_
            ·
              with_reducible refine Touches.step ?_ (State.candFail_touches _ _ _ ?_)
              on_goal 2 => exact Part.within_trans rfl hw
              with_reducible exact Touches.refl _ _
            ·
              with_reducible refine Touches.ite ?_ ?_
              ·
                with_reducible exact Touches.refl _ _
              ·
                with_reducible refine Touches.step ?_ (State.setCandSt_touches _ _ _ _ ?_)
                on_goal 2 => exact Part.within_trans rfl hw
                with_reducible exact Touches.refl _ _
      ·
        with_reducible refine Touches.ite ?_ ?_
        ·
          with_reducible refine Touches.step ?_ (State.setCandSt_touches _ _ _ _ ?_)
          on_goal 2 => exact Part.within_trans rfl hw
          with_reducible exact Touches.refl _ _
        ·
          with_reducible exact Touches.refl _ _
      ·
        with_reducible exact Touches.refl _ _

theorem State.candEnable_touches {ps : List Part} s a1 (hw : Part.within [.clk, .evt, .hif, .tcore, .tchans, .ref, .pll, .eng, .pair, .pwr, .rc .evtPinStat, .rc .evtSuppressed, .rc .hifEvtLost, .rc .pairMirOvf, .rc .pllCnt, .rc .pwrWakeSrc] ps = true) : Touches ps s (State.candEnable s a1) := by
  unfold State.candEnable
  try extract_lets -merge -underBinder t0
  try clear_value t0
  with_reducible refine Touches.ite ?_ ?_
  ·
    with_reducible exact Touches.refl _ _
  ·
    with_reducible refine Touches.ite ?_ ?_
    ·
      with_reducible refine Touches.ite ?_ ?_
      ·
        with_reducible exact Touches.refl _ _
      ·
        with_reducible refine Touches.step ?_ (State.reselect_touches _ ?_)
        on_goal 2 => exact Part.within_trans rfl hw
        with_reducible refine Touches.step ?_ (State.setCandSt_touches _ _ _ _ ?_)
        on_goal 2 => exact Part.within_trans rfl hw
        with_reducible exact Touches.refl _ _
    ·
      with_reducible refine Touches.ite ?_ ?_
      ·
        with_reducible refine Touches.step ?_ (State.setCandSt_touches _ _ _ _ ?_)
        on_goal 2 => exact Part.within_trans rfl hw
        with_reducible exact Touches.refl _ _
      ·
        with_reducible exact Touches.refl _ _

theorem State.candChanged_touches {ps : List Part} s a1 (hw : Part.within [.clk, .evt, .hif, .tcore, .tchans, .ref, .pll, .eng, .pair, .pwr, .rc .evtPinStat, .rc .evtSuppressed, .rc .hifEvtLost, .rc .pairMirOvf, .rc .pllCnt, .rc .pwrWakeSrc, .rc .refHoldoffCnt] ps = true) : Touches ps s (State.candChanged s a1) := by
  unfold State.candChanged
  try extract_lets -merge -underBinder t0 t1 t2
  refine Touches.haveS (t := t0) ?_ (fun ht0 => ?_)
  ·
    unfold t0
    with_reducible refine Touches.step ?_ (State.recheck_touches _ _ ?_)
    on_goal 2 => exact Part.within_trans rfl hw
    with_reducible refine Touches.ite ?_ ?_
    ·
      with_reducible refine Touches.step ?_ (State.chanCand_touches _ _ ?_)
      on_goal 2 => exact Part.within_trans rfl hw
      with_reducible exact Touches.refl _ _
    ·
      with_reducible refine Touches.step ?_ (State.candEnable_touches _ _ ?_)
      on_goal 2 => exact Part.within_trans rfl hw
      with_reducible exact Touches.refl _ _
  try clear_value t0
  try clear_value t1
  refine Touches.haveS (t := t2) ?_ (fun ht2 => ?_)
  ·
    unfold t2
    with_reducible refine Touches.ite ?_ ?_
    ·
      with_reducible refine Touches.step ?_ (State.setCandSt_touches _ _ _ _ ?_)
      on_goal 2 => exact Part.within_trans rfl hw
      with_reducible exact ht0
    ·
      with_reducible exact ht0
  try clear_value t2
  with_reducible refine Touches.step ?_ (State.updateClass_touches _ ?_)
  on_goal 2 => exact Part.within_trans rfl hw
  with_reducible refine Touches.step ?_ (State.reselect_touches _ ?_)
  on_goal 2 => exact Part.within_trans rfl hw
  with_reducible exact ht2

theorem State.limitsChanged_touches {ps : List Part} s (hw : Part.within [.clk, .evt, .hif, .tcore, .tchans, .ref, .pll, .eng, .pair, .pwr, .rc .evtPinStat, .rc .evtSuppressed, .rc .hifEvtLost, .rc .pairMirOvf, .rc .pllCnt, .rc .pwrWakeSrc, .rc .refHoldoffCnt] ps = true) : Touches ps s (State.limitsChanged s) := by
  unfold State.limitsChanged
  with_reducible refine Touches.step ?_ (State.reselect_touches _ ?_)
  on_goal 2 => exact Part.within_trans rfl hw
  with_reducible refine Touches.foldl (fun _ _ => ?_) _ ?_
  ·
    with_reducible refine Touches.step ?_ (State.recheck_touches _ _ ?_)
    on_goal 2 => exact Part.within_trans rfl hw
    with_reducible exact Touches.refl _ _
  ·
    with_reducible exact Touches.refl _ _

theorem State.vddMax_touches {ps : List Part} s (hw : Part.within [.sw] ps = true) : Touches ps s (State.vddMax s) := by
  unfold State.vddMax
  with_reducible refine Touches.ite ?_ ?_
  ·
    with_reducible exact Touches.refl _ _
  ·
    with_reducible refine Touches.step ?_ (State.vddWrite_touches _ _ ?_)
    on_goal 2 => exact Part.within_trans rfl hw
    with_reducible exact Touches.refl _ _

theorem State.vsCtrlApplied_touches {ps : List Part} s (hw : Part.within [.sw] ps = true) : Touches ps s (State.vsCtrlApplied s) := by
  unfold State.vsCtrlApplied
  with_reducible refine Touches.ite ?_ ?_
  ·
    with_reducible exact Touches.refl _ _
  ·
    with_reducible refine Touches.step ?_ (State.vddMax_touches _ ?_)
    on_goal 2 => exact Part.within_trans rfl hw
    with_reducible exact Touches.refl _ _

theorem State.ticTbLoss_touches {ps : List Part} s a1 (hw : Part.within [.evt, .hif, .tic, .rc .evtPinStat, .rc .evtSuppressed, .rc .hifEvtLost, .rc .ticTmoCnt] ps = true) : Touches ps s (State.ticTbLoss s a1) := by
  unfold State.ticTbLoss
  try extract_lets -merge -underBinder t0 t1 t2
  refine Touches.haveS (t := t0) ?_ (fun ht0 => ?_)
  ·
    unfold t0
    with_reducible refine Touches.step ?_ (State.raiseIf_touches _ _ _ _ _ _ ?_)
    on_goal 2 => exact Part.within_trans rfl hw
    with_reducible exact Touches.refl _ _
  try clear_value t0
  refine Touches.haveS (t := t2) ?_ (fun ht2 => ?_)
  ·
    unfold t2
    with_reducible refine Touches.set_tic ?_ ?_
    on_goal 2 => exact Part.within_mem rfl hw
    with_reducible exact ht0
  try clear_value t2
  unfold State.forTic
  with_reducible refine Touches.foldl (fun _ _ => ?_) _ ?_
  ·
    try extract_lets -merge -underBinder t3 t4
    refine Touches.haveS (t := t3) ?_ (fun ht3 => ?_)
    ·
      unfold t3
      with_reducible refine Touches.step ?_ (State.ticAbandon_touches _ _ ?_)
      on_goal 2 => exact Part.within_trans rfl hw
      with_reducible exact Touches.refl _ _
    try clear_value t3
    with_reducible refine Touches.ite ?_ ?_
    ·
      with_reducible refine Touches.step ?_ (State.setTicCh_touches _ _ _ ?_)
      on_goal 2 => exact Part.within_trans rfl hw
      with_reducible exact ht3
    ·
      with_reducible exact Touches.refl _ _
  ·
    with_reducible exact ht2

theorem State.regActs_touches {ps : List Part} s a1 a2 (hw : Part.within [.clk, .evt, .hif, .sw, .fab, .tcore, .tchans, .lnk, .ref, .pll, .tic, .cal, .eng, .pair, .pwr, .rc .calAbortCnt, .rc .evtPinStat, .rc .evtSuppressed, .rc .hifEvtLost, .rc .pairMirOvf, .rc .pllCnt, .rc .pwrWakeSrc, .rc .refHoldoffCnt, .rc .ticTmoCnt] ps = true) : Touches ps s (State.regActs s a1 a2) := by
  unfold State.regActs
  split
  ·
    try extract_lets -merge -underBinder t0
    with_reducible refine Touches.ite ?_ ?_
    ·
      with_reducible refine Touches.set_clk ?_ ?_
      on_goal 2 => exact Part.within_mem rfl hw
      with_reducible exact Touches.refl _ _
    ·
      with_reducible refine Touches.ite ?_ ?_
      ·
        with_reducible refine Touches.step ?_ (State.reselect_touches _ ?_)
        on_goal 2 => exact Part.within_trans rfl hw
        with_reducible exact Touches.refl _ _
      ·
        with_reducible exact Touches.refl _ _
  ·
    try extract_lets -merge -underBinder t1
    with_reducible refine Touches.ite ?_ ?_
    ·
      with_reducible refine Touches.set_clk ?_ ?_
      on_goal 2 => exact Part.within_mem rfl hw
      with_reducible exact Touches.refl _ _
    ·
      with_reducible exact Touches.refl _ _
  ·
    with_reducible refine Touches.step ?_ (State.candChanged_touches _ _ ?_)
    on_goal 2 => exact Part.within_trans rfl hw
    with_reducible exact Touches.refl _ _
  ·
    with_reducible refine Touches.step ?_ (State.reselect_touches _ ?_)
    on_goal 2 => exact Part.within_trans rfl hw
    with_reducible exact Touches.refl _ _
  ·
    with_reducible refine Touches.step ?_ (State.limitsChanged_touches _ ?_)
    on_goal 2 => exact Part.within_trans rfl hw
    with_reducible exact Touches.refl _ _
  ·
    with_reducible refine Touches.step ?_ (State.chansChanged_touches _ _ ?_)
    on_goal 2 => exact Part.within_trans rfl hw
    with_reducible exact Touches.refl _ _
  ·
    with_reducible refine Touches.step ?_ (State.vsCtrlApplied_touches _ ?_)
    on_goal 2 => exact Part.within_trans rfl hw
    with_reducible exact Touches.refl _ _
  ·
    with_reducible refine Touches.step ?_ (State.xoffUpdate_touches _ ?_)
    on_goal 2 => exact Part.within_trans rfl hw
    with_reducible exact Touches.refl _ _
  ·
    with_reducible refine Touches.step ?_ (State.xoffUpdate_touches _ ?_)
    on_goal 2 => exact Part.within_trans rfl hw
    with_reducible exact Touches.refl _ _
  ·
    with_reducible refine Touches.ite ?_ ?_
    ·
      with_reducible refine Touches.step ?_ (State.ticTbLoss_touches _ _ ?_)
      on_goal 2 => exact Part.within_trans rfl hw
      with_reducible exact Touches.refl _ _
    ·
      with_reducible exact Touches.refl _ _
  ·
    with_reducible exact Touches.refl _ _

theorem State.leaveSquelch_touches {ps : List Part} s a1 a2 (hw : Part.within [.evt, .hif, .lanes, .tic, .cal, .rc .calAbortCnt, .rc .evtPinStat, .rc .evtSuppressed, .rc .hifEvtLost] ps = true) : Touches ps s (State.leaveSquelch s a1 a2) := by
  unfold State.leaveSquelch
  split
  ·
    with_reducible exact Touches.refl _ _
  ·
    with_reducible refine Touches.step ?_ (State.calLose_touches _ _ ?_)
    on_goal 2 => exact Part.within_trans rfl hw
    with_reducible refine Touches.foldl (fun _ _ => ?_) _ ?_
    ·
      try extract_lets -merge -underBinder t0
      with_reducible refine Touches.step ?_ (State.setLane_touches _ _ _ ?_)
      on_goal 2 => exact Part.within_trans rfl hw
      with_reducible exact Touches.refl _ _
    ·
      with_reducible exact Touches.refl _ _

theorem State.expressApply_touches {ps : List Part} (s : State) (p : Nat) (hw : Part.within [.regs, .evt, .hif, .rc .evtPinStat, .rc .evtSuppressed, .rc .hifEvtLost] ps = true) : Touches ps s (s.expressApply p) := by
  unfold State.expressApply
  extract_lets k t
  refine Touches.ite (Touches.refl _ _) ?_
  have ht : Touches ps s t := State.capCheck_touches s s _ k _ (Part.within_trans rfl hw) (Touches.refl _ _)
    (State.applyAt_touches _ _ _ (Part.within_trans rfl hw))
  clear_value t
  exact Touches.set_regs ht (Part.within_mem rfl hw)

theorem State.flowBoundary_touches {ps : List Part} s a1 (hw : Part.within [.sw] ps = true) : Touches ps s (State.flowBoundary s a1) := by
  unfold State.flowBoundary
  with_reducible refine Touches.foldl (fun _ _ => ?_) _ ?_
  ·
    try extract_lets -merge -underBinder t0
    try clear_value t0
    with_reducible refine Touches.step ?_ (State.setFlow_touches _ _ _ ?_)
    on_goal 2 => exact Part.within_trans rfl hw
    with_reducible exact Touches.refl _ _
  ·
    with_reducible exact Touches.refl _ _

theorem State.frameBoundaryApply_touches {ps : List Part} s a1 a2 a3 (hw : Part.within [.regs, .evt, .hif, .lanes, .sw, .tic, .cal, .rc .calAbortCnt, .rc .evtPinStat, .rc .evtSuppressed, .rc .hifEvtLost] ps = true) : Touches ps s (State.frameBoundaryApply s a1 a2 a3) := by
  unfold State.frameBoundaryApply
  try extract_lets -merge -underBinder t0 t1 t2
  refine Touches.haveS (t := t0) ?_ (fun ht0 => ?_)
  ·
    unfold t0
    with_reducible refine Touches.step ?_ (State.leaveSquelch_touches _ _ _ ?_)
    on_goal 2 => exact Part.within_trans rfl hw
    with_reducible refine Touches.step ?_ (State.applyAt_touches _ _ _ ?_)
    on_goal 2 => exact Part.within_trans rfl hw
    with_reducible exact Touches.refl _ _
  try clear_value t0
  refine Touches.haveS (t := t1) ?_ (fun ht1 => ?_)
  ·
    unfold t1
    with_reducible refine Touches.ite ?_ ?_
    ·
      with_reducible refine Touches.step ?_ (State.expressApply_touches _ _ ?_)
      on_goal 2 => exact Part.within_trans rfl hw
      with_reducible exact ht0
    ·
      with_reducible exact ht0
  try clear_value t1
  refine Touches.haveS (t := t2) ?_ (fun ht2 => ?_)
  ·
    unfold t2
    with_reducible refine Touches.ite ?_ ?_
    ·
      with_reducible refine Touches.step ?_ (State.flowBoundary_touches _ _ ?_)
      on_goal 2 => exact Part.within_trans rfl hw
      with_reducible exact ht1
    ·
      with_reducible exact ht1
  try clear_value t2
  with_reducible refine Touches.ite ?_ ?_
  ·
    with_reducible refine Touches.step ?_ (State.calBoundary_touches _ _ _ ?_)
    on_goal 2 => exact Part.within_trans rfl hw
    with_reducible exact ht2
  ·
    with_reducible exact ht2

theorem State.frmNow_touches {ps : List Part} s a1 (hw : Part.within [.regs, .evt, .hif, .lanes, .sw, .tic, .cal, .rc .calAbortCnt, .rc .evtPinStat, .rc .evtSuppressed, .rc .hifEvtLost] ps = true) : Touches ps s (State.frmNow s a1) := by
  unfold State.frmNow
  with_reducible refine Touches.ite ?_ ?_
  ·
    with_reducible refine Touches.step ?_ (State.frameBoundaryApply_touches _ _ _ _ ?_)
    on_goal 2 => exact Part.within_trans rfl hw
    with_reducible exact Touches.refl _ _
  ·
    with_reducible exact Touches.refl _ _

theorem State.portUp_touches {ps : List Part} s a1 (hw : Part.within [.evt, .hif, .fab, .rc .evtPinStat, .rc .evtSuppressed, .rc .hifEvtLost, .rc .portHoldResume] ps = true) : Touches ps s (State.portUp s a1) := by
  unfold State.portUp
  try extract_lets -merge -underBinder t0 t1
  try clear_value t0
  refine Touches.haveS (t := t1) ?_ (fun ht1 => ?_)
  ·
    unfold t1
    with_reducible refine Touches.step ?_ (State.setPort_touches _ _ _ ?_)
    on_goal 2 => exact Part.within_trans rfl hw
    with_reducible exact Touches.refl _ _
  try clear_value t1
  with_reducible refine Touches.ite ?_ ?_
  ·
    with_reducible exact Touches.refl _ _
  ·
    with_reducible refine Touches.ite ?_ ?_
    ·
      with_reducible refine Touches.step ?_ (State.raise_touches _ _ _ _ _ ?_)
      on_goal 2 => exact Part.within_trans rfl hw
      with_reducible refine Touches.step ?_ (State.bump_touches _ _ _ _ ?_)
      on_goal 2 => exact Part.within_trans rfl hw
      with_reducible exact ht1
    ·
      with_reducible exact ht1

theorem State.ticUp_touches {ps : List Part} s (hw : Part.within [.tic] ps = true) : Touches ps s (State.ticUp s) := by
  unfold State.ticUp
  unfold State.forTic
  with_reducible refine Touches.foldl (fun _ _ => ?_) _ ?_
  ·
    with_reducible refine Touches.step ?_ (State.ticSample_touches _ _ ?_)
    on_goal 2 => exact Part.within_trans rfl hw
    with_reducible exact Touches.refl _ _
  ·
    with_reducible exact Touches.refl _ _

theorem State.gnssUp_touches {ps : List Part} s (hw : Part.within [.ready, .regs, .evt, .hif, .gnss, .cal, .rc .evtPinStat, .rc .evtSuppressed, .rc .gnssLossCnt, .rc .hifEvtLost] ps = true) : Touches ps s (State.gnssUp s) := by
  unfold State.gnssUp
  try extract_lets -merge -underBinder t0 t1 t2
  refine Touches.haveS (t := t0) ?_ (fun ht0 => ?_)
  ·
    unfold t0
    with_reducible refine Touches.step ?_ (State.setReady_touches _ _ _ ?_)
    on_goal 2 => exact Part.within_trans rfl hw
    with_reducible refine Touches.step ?_ (State.calBoundary_touches _ _ _ ?_)
    on_goal 2 => exact Part.within_trans rfl hw
    with_reducible refine Touches.step ?_ (State.applyAt_touches _ _ _ ?_)
    on_goal 2 => exact Part.within_trans rfl hw
    with_reducible exact Touches.refl _ _
  try clear_value t0
  refine Touches.haveS (t := t2) ?_ (fun ht2 => ?_)
  ·
    unfold t2
    with_reducible refine Touches.set_gnss ?_ ?_
    on_goal 2 => exact Part.within_mem rfl hw
    with_reducible exact ht0
  try clear_value t2
  with_reducible refine Touches.foldl (fun _ _ => ?_) _ ?_
  ·
    with_reducible refine Touches.ite ?_ ?_
    ·
      with_reducible refine Touches.step ?_ (State.goGnssCh_touches _ _ _ ?_)
      on_goal 2 => exact Part.within_trans rfl hw
      with_reducible exact Touches.refl _ _
    ·
      with_reducible exact Touches.refl _ _
  ·
    with_reducible exact ht2

theorem State.unitResume_touches {ps : List Part} s a1 (hw : Part.within [.clk, .ready, .keys, .regs, .evt, .hif, .index, .objs, .lanes, .sw, .fab, .bpm, .fdb, .tcore, .tchans, .lnk, .ref, .free, .pll, .gnss, .tic, .cal, .eng, .pair, .pwr, .boot, .rc .bpmDoubleFreeCnt, .rc .bpmForeignFreeCnt, .rc .bpmPoolEmptyCnt, .rc .bpmPromoteCnt, .rc .calAbortCnt, .rc .evtPinStat, .rc .evtSuppressed, .rc .gnssLossCnt, .rc .hifEvtLost, .rc .hifRingAborted, .rc .pairMirOvf, .rc .pairPromoteCnt, .rc .perfTagDrop, .rc .pllCnt, .rc .portHoldFlush, .rc .portHoldResume, .rc .pwrWakeSrc] ps = true) : Touches ps s (State.unitResume s a1) := by
  unfold State.unitResume
  with_reducible refine Touches.ite ?_ ?_
  ·
    with_reducible exact Touches.refl _ _
  ·
    split
    ·
      with_reducible refine Touches.step ?_ (State.laneRetrain_touches _ _ ?_)
      on_goal 2 => exact Part.within_trans rfl hw
      with_reducible exact Touches.refl _ _
    ·
      with_reducible refine Touches.foldl (fun _ _ => ?_) _ ?_
      ·
        with_reducible refine Touches.step ?_ (State.laneRetrain_touches _ _ ?_)
        on_goal 2 => exact Part.within_trans rfl hw
        with_reducible exact Touches.refl _ _
      ·
        with_reducible exact Touches.refl _ _
    ·
      with_reducible refine Touches.ite ?_ ?_
      ·
        with_reducible refine Touches.step ?_ (State.portUp_touches _ _ ?_)
        on_goal 2 => exact Part.within_trans rfl hw
        with_reducible exact Touches.refl _ _
      ·
        with_reducible exact Touches.refl _ _
    ·
      with_reducible refine Touches.step ?_ (State.chansChanged_touches _ _ ?_)
      on_goal 2 => exact Part.within_trans rfl hw
      with_reducible exact Touches.refl _ _
    ·
      with_reducible refine Touches.ite ?_ ?_
      ·
        with_reducible refine Touches.step ?_ (State.goGnssCh_touches _ _ _ ?_)
        on_goal 2 => exact Part.within_trans rfl hw
        with_reducible exact Touches.refl _ _
      ·
        with_reducible exact Touches.refl _ _
    ·
      with_reducible refine Touches.step ?_ (State.ticSample_touches _ _ ?_)
      on_goal 2 => exact Part.within_trans rfl hw
      with_reducible exact Touches.refl _ _
    ·
      with_reducible refine Touches.ite ?_ ?_
      ·
        with_reducible refine Touches.step ?_ (State.goEng_touches _ _ _ ?_)
        on_goal 2 => exact Part.within_trans rfl hw
        with_reducible exact Touches.refl _ _
      ·
        with_reducible exact Touches.refl _ _
    ·
      with_reducible refine Touches.step ?_ (State.ticUp_touches _ ?_)
      on_goal 2 => exact Part.within_trans rfl hw
      with_reducible refine Touches.step ?_ (State.setReady_touches _ _ _ ?_)
      on_goal 2 => exact Part.within_trans rfl hw
      with_reducible exact Touches.refl _ _
    ·
      with_reducible refine Touches.ite ?_ ?_
      ·
        with_reducible refine Touches.step ?_ (State.gnssUp_touches _ ?_)
        on_goal 2 => exact Part.within_trans rfl hw
        with_reducible exact Touches.refl _ _
      ·
        with_reducible exact Touches.refl _ _
    ·
      with_reducible refine Touches.step ?_ (State.pairCommit_touches _ ?_)
      on_goal 2 => exact Part.within_trans rfl hw
      with_reducible refine Touches.step ?_ (State.setReady_touches _ _ _ ?_)
      on_goal 2 => exact Part.within_trans rfl hw
      with_reducible exact Touches.refl _ _
    ·
      with_reducible refine Touches.step ?_ (State.lnkEvalAll_touches _ ?_)
      on_goal 2 => exact Part.within_trans rfl hw
      with_reducible refine Touches.step ?_ (State.setReady_touches _ _ _ ?_)
      on_goal 2 => exact Part.within_trans rfl hw
      with_reducible exact Touches.refl _ _
    ·
      with_reducible refine Touches.foldl (fun _ _ => ?_) _ ?_
      ·
        with_reducible refine Touches.ite ?_ ?_
        ·
          with_reducible refine Touches.step ?_ (State.goEng_touches _ _ _ ?_)
          on_goal 2 => exact Part.within_trans rfl hw
          with_reducible exact Touches.refl _ _
        ·
          with_reducible exact Touches.refl _ _
      ·
        with_reducible exact Touches.refl _ _
    ·
      with_reducible refine Touches.ite ?_ ?_
      ·
        with_reducible exact Touches.refl _ _
      ·
        split
        ·
          with_reducible refine Touches.step ?_ (State.setReady_touches _ _ _ ?_)
          on_goal 2 => exact Part.within_trans rfl hw
          with_reducible exact Touches.refl _ _
        ·
          with_reducible exact Touches.refl _ _

theorem State.regAfter_touches {ps : List Part} s a1 a2 (hw : Part.within [.clk, .ready, .keys, .regs, .evt, .hif, .index, .objs, .lanes, .sw, .fab, .bpm, .fdb, .tcore, .tchans, .lnk, .ref, .free, .pll, .gnss, .tic, .cal, .eng, .pair, .pwr, .boot, .rc .bpmDoubleFreeCnt, .rc .bpmForeignFreeCnt, .rc .bpmPoolEmptyCnt, .rc .bpmPromoteCnt, .rc .calAbortCnt, .rc .evtPinStat, .rc .evtSuppressed, .rc .gnssLossCnt, .rc .hifEvtLost, .rc .hifRingAborted, .rc .pairMirOvf, .rc .pairPromoteCnt, .rc .perfTagDrop, .rc .pllCnt, .rc .portHoldFlush, .rc .portHoldResume, .rc .pwrWakeSrc, .rc .refHoldoffCnt, .rc .ticTmoCnt] ps = true) : Touches ps s (State.regAfter s a1 a2) := by
  unfold State.regAfter
  try extract_lets -merge -underBinder t0 t1
  refine Touches.haveS (t := t0) ?_ (fun ht0 => ?_)
  ·
    unfold t0
    with_reducible refine Touches.step ?_ (State.regActs_touches _ _ _ ?_)
    on_goal 2 => exact Part.within_trans rfl hw
    with_reducible exact Touches.refl _ _
  try clear_value t0
  refine Touches.haveS (t := t1) ?_ (fun ht1 => ?_)
  ·
    unfold t1
    split
    ·
      with_reducible refine Touches.step ?_ (State.frmNow_touches _ _ ?_)
      on_goal 2 => exact Part.within_trans rfl hw
      with_reducible exact ht0
    ·
      with_reducible exact ht0
  try clear_value t1
  with_reducible refine Touches.ite ?_ ?_
  ·
    with_reducible refine Touches.step ?_ (State.unitResume_touches _ _ ?_)
    on_goal 2 => exact Part.within_trans rfl hw
    with_reducible exact ht1
  ·
    with_reducible exact ht1

theorem State.heldRun_touches {ps : List Part} (s : State) (x : Pend) (hw : Part.within [.clk, .ready, .keys, .regs, .evt, .pers, .hif, .index, .objs, .lanes, .grps, .sw, .fab, .bpm, .fdb, .tcore, .tchans, .lnk, .ref, .free, .pll, .gnss, .tic, .cal, .eng, .spad, .pair, .pwr, .boot, .counters] ps = true) : Touches ps s (s.heldRun x) := by
  unfold State.heldRun
  extract_lets v s1 t
  have h1 : Touches ps s s1 := (State.dropPending_touches s _ (Part.within_trans rfl hw)).step
    (State.revertBits_touches _ _ _ (Part.within_trans rfl hw))
  have ht : Touches ps s t := by
    unfold t
    split
    · exact h1.step (State.roleReq_touches _ _ (Part.within_trans rfl hw))
    · exact Touches.getD h1 (fun u hu => h1.step (State.regOwn_touches _ _ _ _ _ (Part.within_trans rfl hw) hu))
  exact ht.step (State.regAfter_touches _ _ _ (Part.within_trans rfl hw))

theorem State.heldGo_touches {ps : List Part} s a1 (hw : Part.within [.clk, .ready, .keys, .regs, .evt, .pers, .hif, .index, .objs, .lanes, .grps, .sw, .fab, .bpm, .fdb, .tcore, .tchans, .lnk, .ref, .free, .pll, .gnss, .tic, .cal, .eng, .spad, .pair, .pwr, .boot, .counters] ps = true) : Touches ps s (State.heldGo s a1) := by
  unfold State.heldGo
  with_reducible refine Touches.foldl (fun _ _ => ?_) _ ?_
  ·
    with_reducible refine Touches.ite ?_ ?_
    ·
      with_reducible refine Touches.step ?_ (State.heldRun_touches _ _ ?_)
      on_goal 2 => exact Part.within_trans rfl hw
      with_reducible exact Touches.refl _ _
    ·
      with_reducible refine Touches.step ?_ (State.regAfter_touches _ _ _ ?_)
      on_goal 2 => exact Part.within_trans rfl hw
      with_reducible exact Touches.refl _ _
  ·
    with_reducible exact Touches.refl _ _

theorem State.regSet_touches {ps : List Part} (s : State) (p : Path) (k : RegKey) (v m : Word) (hw : Part.within [.clk, .ready, .keys, .regs, .evt, .pers, .hif, .index, .objs, .lanes, .grps, .sw, .fab, .bpm, .fdb, .tcore, .tchans, .lnk, .ref, .free, .pll, .gnss, .tic, .cal, .eng, .spad, .pair, .pwr, .boot, .counters] ps = true) :
    Touches ps s (s.regSet p k v m) := by
  unfold State.regSet
  refine Touches.ite (Touches.refl _ _) ?_
  extract_lets t
  have hh : ∀ u : State, Touches ps u (u.holdReg p k v m) := fun u => State.holdReg_touches _ _ _ _ _ (Part.within_trans rfl hw)
  have ht : Touches ps s t := by
    unfold t
    refine Touches.ite (Touches.ite (State.keyed_touches _ _ _ _ (Part.within_trans rfl hw) hh) (hh s)) ?_
    split
    · next h => exact State.regOwn_touches _ _ _ _ _ (Part.within_trans rfl hw) h
    · exact Touches.ite (Touches.refl _ _) (State.storeReg_touches _ _ _ _ (Part.within_trans rfl hw))
  exact (ht.step (State.regAfter_touches _ _ _ (Part.within_trans rfl hw))).step (State.heldGo_touches _ _ (Part.within_trans rfl hw))

theorem State.barRead_touches {ps : List Part} s a1 a2 (hw : Part.within [.rd, .free] ps = true) : Touches ps s (State.barRead s a1 a2) := by
  unfold State.barRead
  try extract_lets -merge -underBinder t0
  try clear_value t0
  with_reducible refine Touches.ite ?_ ?_
  ·
    with_reducible refine Touches.set_rd ?_ ?_
    on_goal 2 => exact Part.within_mem rfl hw
    with_reducible exact Touches.refl _ _
  ·
    refine Touches.mk hw ?_
    with_reducible exact Touches.refl _ _

theorem State.mbxTaken_touches {ps : List Part} s a1 a2 a3 (hw : Part.within [.mbx] ps = true) : Touches ps s (State.mbxTaken s a1 a2 a3) := by
  unfold State.mbxTaken
  try extract_lets -merge -underBinder t0
  try clear_value t0
  with_reducible refine Touches.ite ?_ ?_
  ·
    with_reducible refine Touches.set_mbx ?_ ?_
    on_goal 2 => exact Part.within_mem rfl hw
    with_reducible exact Touches.refl _ _
  ·
    with_reducible exact Touches.refl _ _

theorem State.busRead_touches {ps : List Part} s a1 a2 a3 (hw : Part.within [.keys, .mbx, .rd, .free, .counters] ps = true) : Touches ps s (State.busRead s a1 a2 a3) := by
  unfold State.busRead
  try extract_lets -merge -underBinder t0 t1 t2
  try clear_value t0
  try clear_value t1
  try clear_value t2
  with_reducible refine Touches.ite ?_ ?_
  ·
    with_reducible refine Touches.ite ?_ ?_
    ·
      with_reducible refine Touches.step ?_ (State.barRead_touches _ _ _ ?_)
      on_goal 2 => exact Part.within_trans rfl hw
      with_reducible exact Touches.refl _ _
    ·
      with_reducible refine Touches.set_rd ?_ ?_
      on_goal 2 => exact Part.within_mem rfl hw
      with_reducible exact Touches.refl _ _
  ·
    split
    ·
      try extract_lets -merge -underBinder t3 t4
      refine Touches.haveS (t := t3) ?_ (fun ht3 => ?_)
      ·
        unfold t3
        refine Touches.mk hw ?_
        with_reducible exact Touches.refl _ _
      try clear_value t3
      with_reducible refine Touches.ite ?_ ?_
      ·
        with_reducible exact ht3
      ·
        with_reducible refine Touches.ite ?_ ?_
        ·
          with_reducible refine Touches.ite ?_ ?_
          ·
            with_reducible refine Touches.set_keys ?_ ?_
            on_goal 2 => exact Part.within_mem rfl hw
            with_reducible exact ht3
          ·
            with_reducible exact ht3
        ·
          with_reducible refine Touches.ite ?_ ?_
          ·
            with_reducible exact ht3
          ·
            with_reducible refine Touches.step ?_ (State.rcClear_touches _ _ _ ?_)
            on_goal 2 => exact Part.within_trans rfl hw
            with_reducible exact ht3
    ·
      split
      ·
        try extract_lets -merge -underBinder t5
        refine Touches.haveS (t := t5) ?_ (fun ht5 => ?_)
        ·
          unfold t5
          with_reducible refine Touches.set_rd ?_ ?_
          on_goal 2 => exact Part.within_mem rfl hw
          with_reducible exact Touches.refl _ _
        try clear_value t5
        with_reducible refine Touches.ite ?_ ?_
        ·
          with_reducible refine Touches.step ?_ (State.mbxTaken_touches _ _ _ _ ?_)
          on_goal 2 => exact Part.within_trans rfl hw
          with_reducible exact ht5
        ·
          with_reducible exact ht5
      ·
        with_reducible refine Touches.set_rd ?_ ?_
        on_goal 2 => exact Part.within_mem rfl hw
        with_reducible exact Touches.refl _ _

theorem State.enqueue_touches {ps : List Part} s a1 a2 a3 (hw : Part.within [.evt, .hif, .sw, .fab, .bpm, .fdb, .free, .eng, .rc .bpmDoubleFreeCnt, .rc .bpmForeignFreeCnt, .rc .evtPinStat, .rc .evtSuppressed, .rc .hifEvtLost, .rc .hifRingAborted, .rc .perfTagDrop, .rc .portMtuDisc] ps = true) : Touches ps s (State.enqueue s a1 a2 a3) := by
  unfold State.enqueue
  split
  ·
    with_reducible exact Touches.refl _ _
  ·
    try extract_lets -merge -underBinder t0 t1 t2 t3
    try clear_value t0
    try clear_value t1
    try clear_value t2
    refine Touches.haveS (t := t3) ?_ (fun ht3 => ?_)
    ·
      unfold t3
      with_reducible refine Touches.step ?_ (State.setCopy_touches _ _ _ ?_)
      on_goal 2 => exact Part.within_trans rfl hw
      with_reducible exact Touches.refl _ _
    try clear_value t3
    with_reducible refine Touches.ite ?_ ?_
    ·
      with_reducible refine Touches.step ?_ (State.removeCopy_touches _ _ ?_)
      on_goal 2 => exact Part.within_trans rfl hw
      with_reducible refine Touches.step ?_ (State.bump_touches _ _ _ _ ?_)
      on_goal 2 => exact Part.within_trans rfl hw
      with_reducible refine Touches.step ?_ (State.tsLost_touches _ _ _ ?_)
      on_goal 2 => exact Part.within_trans rfl hw
      with_reducible exact Touches.refl _ _
    ·
      with_reducible refine Touches.ite ?_ ?_
      ·
        with_reducible exact ht3
      ·
        with_reducible refine Touches.step ?_ (State.setQueue_touches _ _ _ _ ?_)
        on_goal 2 => exact Part.within_trans rfl hw
        with_reducible exact ht3

theorem State.lnkBypass_touches {ps : List Part} s (hw : Part.within [.evt, .hif, .tchans, .lnk, .tic, .cal, .rc .calAbortCnt, .rc .evtPinStat, .rc .evtSuppressed, .rc .hifEvtLost] ps = true) : Touches ps s (State.lnkBypass s) := by
  unfold State.lnkBypass
  with_reducible refine Touches.foldl (fun _ _ => ?_) _ ?_
  ·
    with_reducible refine Touches.step ?_ (State.lnkPhiLost_touches _ _ ?_)
    on_goal 2 => exact Part.within_trans rfl hw
    with_reducible exact Touches.refl _ _
  ·
    with_reducible exact Touches.refl _ _

theorem State.pllBypass_touches {ps : List Part} s a1 a2 a3 (hw : Part.within [.evt, .hif, .tchans, .lnk, .pll, .tic, .cal, .eng, .rc .calAbortCnt, .rc .evtPinStat, .rc .evtSuppressed, .rc .hifEvtLost, .rc .pllCnt] ps = true) : Touches ps s (State.pllBypass s a1 a2 a3) := by
  unfold State.pllBypass
  with_reducible refine Touches.ite ?_ ?_
  ·
    with_reducible refine Touches.step ?_ (State.lnkBypass_touches _ ?_)
    on_goal 2 => exact Part.within_trans rfl hw
    with_reducible refine Touches.step ?_ (State.pllToBypass_touches _ _ _ _ ?_)
    on_goal 2 => exact Part.within_trans rfl hw
    with_reducible refine Touches.step ?_ (State.ltxFold_touches _ ?_)
    on_goal 2 => exact Part.within_trans rfl hw
    with_reducible exact Touches.refl _ _
  ·
    with_reducible refine Touches.step ?_ (State.pllToBypass_touches _ _ _ _ ?_)
    on_goal 2 => exact Part.within_trans rfl hw
    with_reducible exact Touches.refl _ _

theorem State.refclkLoss_touches {ps : List Part} s (hw : Part.within [.evt, .hif, .tchans, .lnk, .pll, .tic, .cal, .eng, .rc .calAbortCnt, .rc .evtPinStat, .rc .evtSuppressed, .rc .hifEvtLost, .rc .pllCnt] ps = true) : Touches ps s (State.refclkLoss s) := by
  unfold State.refclkLoss
  try extract_lets -merge -underBinder t0 t1
  refine Touches.haveS (t := t1) ?_ (fun ht1 => ?_)
  ·
    unfold t1
    with_reducible refine Touches.step ?_ (State.raise_touches _ _ _ _ _ ?_)
    on_goal 2 => exact Part.within_trans rfl hw
    with_reducible refine Touches.set_pll ?_ ?_
    on_goal 2 => exact Part.within_mem rfl hw
    with_reducible exact Touches.refl _ _
  try clear_value t1
  with_reducible refine Touches.ite ?_ ?_
  ·
    with_reducible exact Touches.refl _ _
  ·
    with_reducible refine Touches.foldl (fun _ _ => ?_) _ ?_
    ·
      try extract_lets -merge -underBinder t2
      try clear_value t2
      with_reducible refine Touches.ite ?_ ?_
      ·
        with_reducible refine Touches.step ?_ (State.pllBypass_touches _ _ _ _ ?_)
        on_goal 2 => exact Part.within_trans rfl hw
        with_reducible exact Touches.refl _ _
      ·
        with_reducible refine Touches.ite ?_ ?_
        ·
          with_reducible refine Touches.step ?_ (State.setPll_touches _ _ _ ?_)
          on_goal 2 => exact Part.within_trans rfl hw
          with_reducible exact Touches.refl _ _
        ·
          with_reducible exact Touches.refl _ _
    ·
      with_reducible exact ht1

theorem State.refHoldoffExpire_touches {ps : List Part} s a1 (hw : Part.within [.clk, .evt, .hif, .tcore, .tchans, .ref, .pll, .eng, .pair, .pwr, .rc .evtPinStat, .rc .evtSuppressed, .rc .hifEvtLost, .rc .pairMirOvf, .rc .pllCnt, .rc .pwrWakeSrc] ps = true) : Touches ps s (State.refHoldoffExpire s a1) := by
  unfold State.refHoldoffExpire
  with_reducible refine Touches.ite ?_ ?_
  ·
    with_reducible refine Touches.step ?_ (State.reselect_touches _ ?_)
    on_goal 2 => exact Part.within_trans rfl hw
    with_reducible refine Touches.step ?_ (State.setCandSt_touches _ _ _ _ ?_)
    on_goal 2 => exact Part.within_trans rfl hw
    with_reducible exact Touches.refl _ _
  ·
    with_reducible exact Touches.refl _ _

theorem State.runCmd_touches {ps : List Part} (s : State) (d : CmdDesc) (o : Nat) (c : Checks) (f : State → State)
    (hw : Part.within [.keys, .hif, .boot, .rc .hifRingAborted] ps = true) (h : ∀ t, Touches ps t (f t)) : Touches ps s (s.runCmd d o c f) := by
  unfold State.runCmd
  exact Touches.ite (Touches.refl _ _) ((State.startCmd_touches s d (Part.within_trans rfl hw)).step
    (State.checked_touches _ _ _ _ _ (Part.within_trans rfl hw) h))

theorem State.fdbLookup_touches {ps : List Part} s a1 (hw : Part.within [.keys, .hif, .boot, .rc .hifRingAborted] ps = true) : Touches ps s (State.fdbLookup s a1) := by
  unfold State.fdbLookup
  try extract_lets -merge -underBinder t0 t1 t2
  try clear_value t0
  try clear_value t1
  with_reducible refine Touches.step ?_ (State.runCmd_touches _ _ _ _ _ ?_ (fun _ => ?_))
  on_goal 2 => exact Part.within_trans rfl hw
  ·
    with_reducible exact Touches.refl _ _
  ·
    with_reducible refine Touches.step ?_ (State.complete_touches _ _ _ _ _ _ _ ?_)
    on_goal 2 => exact Part.within_trans rfl hw
    with_reducible exact Touches.refl _ _

theorem State.lnkTlv_touches {ps : List Part} s a1 a2 (hw : Part.within [.evt, .hif, .lnk, .tic, .cal, .rc .calAbortCnt, .rc .evtPinStat, .rc .evtSuppressed, .rc .hifEvtLost] ps = true) : Touches ps s (State.lnkTlv s a1 a2) := by
  unfold State.lnkTlv
  try extract_lets -merge -underBinder t0
  try clear_value t0
  with_reducible refine Touches.ite ?_ ?_
  ·
    with_reducible exact Touches.refl _ _
  ·
    split
    ·
      with_reducible refine Touches.step ?_ (State.lnkEval_touches _ _ ?_)
      on_goal 2 => exact Part.within_trans rfl hw
      with_reducible refine Touches.step ?_ (State.setLnk_touches _ _ _ ?_)
      on_goal 2 => exact Part.within_trans rfl hw
      with_reducible exact Touches.refl _ _
    ·
      try extract_lets -merge -underBinder t1
      try clear_value t1
      with_reducible refine Touches.step ?_ (State.lnkEval_touches _ _ ?_)
      on_goal 2 => exact Part.within_trans rfl hw
      with_reducible refine Touches.step ?_ (State.setLnk_touches _ _ _ ?_)
      on_goal 2 => exact Part.within_trans rfl hw
      with_reducible exact Touches.refl _ _

theorem State.intTimerExpire_touches {ps : List Part} s a1 (hw : Part.within [.hif] ps = true) : Touches ps s (State.intTimerExpire s a1) := by
  unfold State.intTimerExpire
  try extract_lets -merge -underBinder t0
  try clear_value t0
  with_reducible refine Touches.ite ?_ ?_
  ·
    with_reducible refine Touches.set_hif ?_ ?_
    on_goal 2 => exact Part.within_mem rfl hw
    with_reducible exact Touches.refl _ _
  ·
    with_reducible exact Touches.refl _ _

theorem State.lnkPhiValid_touches {ps : List Part} s a1 (hw : Part.within [.evt, .hif, .lnk, .free, .tic, .cal, .rc .calAbortCnt, .rc .evtPinStat, .rc .evtSuppressed, .rc .hifEvtLost] ps = true) : Touches ps s (State.lnkPhiValid s a1) := by
  unfold State.lnkPhiValid
  try extract_lets -merge -underBinder t0 t1
  try clear_value t0
  try clear_value t1
  with_reducible refine Touches.ite ?_ ?_
  ·
    with_reducible exact Touches.refl _ _
  ·
    with_reducible refine Touches.step ?_ (State.lnkEval_touches _ _ ?_)
    on_goal 2 => exact Part.within_trans rfl hw
    with_reducible refine Touches.step ?_ (State.setLnk_touches _ _ _ ?_)
    on_goal 2 => exact Part.within_trans rfl hw
    with_reducible refine Touches.set_free ?_ ?_
    on_goal 2 => exact Part.within_mem rfl hw
    with_reducible exact Touches.refl _ _

theorem State.lanePhaseValid_touches {ps : List Part} s a1 (hw : Part.within [.evt, .hif, .lanes, .lnk, .free, .tic, .cal, .rc .calAbortCnt, .rc .evtPinStat, .rc .evtSuppressed, .rc .hifEvtLost] ps = true) : Touches ps s (State.lanePhaseValid s a1) := by
  unfold State.lanePhaseValid
  try extract_lets -merge -underBinder t0
  with_reducible refine Touches.ite ?_ ?_
  ·
    with_reducible exact Touches.refl _ _
  ·
    with_reducible refine Touches.step ?_ (State.lnkPhiValid_touches _ _ ?_)
    on_goal 2 => exact Part.within_trans rfl hw
    with_reducible refine Touches.step ?_ (State.setLane_touches _ _ _ ?_)
    on_goal 2 => exact Part.within_trans rfl hw
    with_reducible exact Touches.refl _ _

theorem State.tchanTimeout_touches {ps : List Part} s a1 (hw : Part.within [.clk, .evt, .hif, .tcore, .tchans, .ref, .pll, .eng, .pair, .pwr, .rc .evtPinStat, .rc .evtSuppressed, .rc .hifEvtLost, .rc .pairMirOvf, .rc .pllCnt, .rc .pwrWakeSrc] ps = true) : Touches ps s (State.tchanTimeout s a1) := by
  unfold State.tchanTimeout
  try extract_lets -merge -underBinder t0
  try clear_value t0
  with_reducible refine Touches.ite ?_ ?_
  ·
    with_reducible exact Touches.refl _ _
  ·
    with_reducible refine Touches.step ?_ (State.chanLost_touches _ _ ?_)
    on_goal 2 => exact Part.within_trans rfl hw
    with_reducible exact Touches.refl _ _

theorem State.setCb_touches {ps : List Part} s a1 a2 (hw : Part.within [.fdb] ps = true) : Touches ps s (State.setCb s a1 a2) := by
  unfold State.setCb
  try extract_lets -merge -underBinder t0
  with_reducible refine Touches.set_fdb ?_ ?_
  on_goal 2 => exact Part.within_mem rfl hw
  with_reducible exact Touches.refl _ _

theorem State.cbKeep_touches {ps : List Part} (s : State) (fr : Frame) (k : Nat) (x : CbFn) (hw : Part.within [.fdb] ps = true) :
    Touches ps s (s.cbKeep fr k x) := by
  unfold State.cbKeep
  split
  · exact Touches.refl _ _
  · refine Touches.ite (State.setCb_touches _ _ _ (Part.within_trans rfl hw)) ?_
    extract_lets t
    have ht : Touches ps s t := Touches.elim (Touches.refl _ _) (fun y => State.setCb_touches _ _ _ (Part.within_trans rfl hw))
    clear_value t
    exact Touches.set_fdb ht (Part.within_mem rfl hw)

theorem State.cbGenerate_touches {ps : List Part} s a1 a2 (hw : Part.within [.fab, .fdb] ps = true) : Touches ps s (State.cbGenerate s a1 a2) := by
  unfold State.cbGenerate
  split
  ·
    try extract_lets -merge -underBinder t0
    try clear_value t0
    with_reducible refine Touches.foldl (fun _ _ => ?_) _ ?_
    ·
      split
      ·
        with_reducible refine Touches.ite ?_ ?_
        ·
          with_reducible exact Touches.refl _ _
        ·
          with_reducible refine Touches.step ?_ (State.setCopy_touches _ _ _ ?_)
          on_goal 2 => exact Part.within_trans rfl hw
          with_reducible exact Touches.refl _ _
      ·
        with_reducible exact Touches.refl _ _
    ·
      with_reducible refine Touches.step ?_ (State.cbKeep_touches _ _ _ _ ?_)
      on_goal 2 => exact Part.within_trans rfl hw
      with_reducible exact Touches.refl _ _
  ·
    with_reducible exact Touches.refl _ _

theorem State.domTrimOff_touches {ps : List Part} s a1 (hw : Part.within [.clk, .ready, .regs, .evt, .hif, .lanes, .tcore, .tchans, .lnk, .ref, .pll, .gnss, .eng, .spad, .pair, .pwr, .boot, .counters] ps = true) : Touches ps s (State.domTrimOff s a1) := by
  unfold State.domTrimOff
  with_reducible refine Touches.ite ?_ ?_
  ·
    with_reducible refine Touches.ite ?_ ?_
    ·
      with_reducible refine Touches.step ?_ (State.domSleep_touches _ _ _ ?_)
      on_goal 2 => exact Part.within_trans rfl hw
      with_reducible refine Touches.step ?_ (State.grpLose_touches _ _ ?_)
      on_goal 2 => exact Part.within_trans rfl hw
      with_reducible exact Touches.refl _ _
    ·
      with_reducible exact Touches.refl _ _
  ·
    with_reducible refine Touches.ite ?_ ?_
    ·
      with_reducible refine Touches.step ?_ (State.setBankMode_touches _ _ _ ?_)
      on_goal 2 => exact Part.within_trans rfl hw
      with_reducible exact Touches.refl _ _
    ·
      with_reducible refine Touches.ite ?_ ?_
      ·
        with_reducible exact Touches.refl _ _
      ·
        with_reducible refine Touches.ite ?_ ?_
        ·
          with_reducible refine Touches.step ?_ (State.domSleep_touches _ _ _ ?_)
          on_goal 2 => exact Part.within_trans rfl hw
          with_reducible refine Touches.step ?_ (State.gnssDown_touches _ _ ?_)
          on_goal 2 => exact Part.within_trans rfl hw
          with_reducible exact Touches.refl _ _
        ·
          with_reducible refine Touches.ite ?_ ?_
          ·
            with_reducible refine Touches.step ?_ (State.domSleep_touches _ _ _ ?_)
            on_goal 2 => exact Part.within_trans rfl hw
            with_reducible exact Touches.refl _ _
          ·
            with_reducible refine Touches.step ?_ (State.domSleep_touches _ _ _ ?_)
            on_goal 2 => exact Part.within_trans rfl hw
            with_reducible refine Touches.step ?_ (State.engOff_touches _ _ ?_)
            on_goal 2 => exact Part.within_trans rfl hw
            with_reducible exact Touches.refl _ _

theorem State.wakeUnits_touches {ps : List Part} s (hw : Part.within [.clk, .ready, .regs, .evt, .hif, .lanes, .grps, .sw, .fab, .bpm, .fdb, .tcore, .tchans, .lnk, .ref, .free, .pll, .gnss, .tic, .cal, .eng, .spad, .pair, .pwr, .boot, .counters] ps = true) : Touches ps s (State.wakeUnits s) := by
  unfold State.wakeUnits
  try extract_lets -merge -underBinder t0 t1 t2 t3 t4 t5 t6
  try clear_value t0
  refine Touches.haveS (t := t1) ?_ (fun ht1 => ?_)
  ·
    unfold t1
    with_reducible refine Touches.ite ?_ ?_
    ·
      with_reducible refine Touches.foldl (fun _ _ => ?_) _ ?_
      ·
        with_reducible refine Touches.step ?_ (State.domTrimOff_touches _ _ ?_)
        on_goal 2 => exact Part.within_trans rfl hw
        with_reducible exact Touches.refl _ _
      ·
        with_reducible exact Touches.refl _ _
    ·
      with_reducible exact Touches.refl _ _
  try clear_value t1
  try clear_value t2
  refine Touches.haveS (t := t3) ?_ (fun ht3 => ?_)
  ·
    unfold t3
    with_reducible refine Touches.foldl (fun _ _ => ?_) _ ?_
    ·
      split
      ·
        with_reducible refine Touches.step ?_ (State.goEng_touches _ _ _ ?_)
        on_goal 2 => exact Part.within_trans rfl hw
        with_reducible exact Touches.refl _ _
      ·
        split
        ·
          try extract_lets -merge -underBinder t7
          with_reducible refine Touches.step ?_ (State.goEng_touches _ _ _ ?_)
          on_goal 2 => exact Part.within_trans rfl hw
          with_reducible refine Touches.step ?_ (State.goEng_touches _ _ _ ?_)
          on_goal 2 => exact Part.within_trans rfl hw
          with_reducible refine Touches.step ?_ (State.setEng_touches _ _ _ ?_)
          on_goal 2 => exact Part.within_trans rfl hw
          with_reducible exact Touches.refl _ _
        ·
          with_reducible exact Touches.refl _ _
      ·
        with_reducible exact Touches.refl _ _
    ·
      with_reducible exact ht1
  try clear_value t3
  try clear_value t4
  refine Touches.haveS (t := t5) ?_ (fun ht5 => ?_)
  ·
    unfold t5
    with_reducible refine Touches.foldl (fun _ _ => ?_) _ ?_
    ·
      with_reducible refine Touches.ite ?_ ?_
      ·
        with_reducible refine Touches.step ?_ (State.grpReturn_touches _ _ ?_)
        on_goal 2 => exact Part.within_trans rfl hw
        with_reducible exact Touches.refl _ _
      ·
        with_reducible exact Touches.refl _ _
    ·
      with_reducible exact ht3
  try clear_value t5
  with_reducible refine Touches.set_pwr ?_ ?_
  on_goal 2 => exact Part.within_mem rfl hw
  with_reducible exact ht5

theorem State.pwrWakeSupplyOk_touches {ps : List Part} s (hw : Part.within [.clk, .ready, .regs, .evt, .hif, .lanes, .grps, .sw, .fab, .bpm, .fdb, .tcore, .tchans, .lnk, .ref, .free, .pll, .gnss, .tic, .cal, .eng, .spad, .pair, .pwr, .boot, .counters] ps = true) : Touches ps s (State.pwrWakeSupplyOk s) := by
  unfold State.pwrWakeSupplyOk
  split
  ·
    try extract_lets -merge -underBinder t0 t1 t2 t3
    try clear_value t0
    refine Touches.haveS (t := t3) ?_ (fun ht3 => ?_)
    ·
      unfold t3
      refine Touches.mk hw ?_
      with_reducible exact Touches.refl _ _
    try clear_value t3
    with_reducible refine Touches.ite ?_ ?_
    ·
      with_reducible refine Touches.step ?_ (State.wakeUnits_touches _ ?_)
      on_goal 2 => exact Part.within_trans rfl hw
      with_reducible exact ht3
    ·
      with_reducible exact ht3
  ·
    with_reducible exact Touches.refl _ _

theorem State.calLoad_touches {ps : List Part} s a1 a2 (hw : Part.within [.regs, .ref, .cal] ps = true) : Touches ps s (State.calLoad s a1 a2) := by
  unfold State.calLoad
  try extract_lets -merge -underBinder t0 t1 t2
  refine Touches.haveS (t := t2) ?_ (fun ht2 => ?_)
  ·
    unfold t2
    with_reducible refine Touches.set_cal ?_ ?_
    on_goal 2 => exact Part.within_mem rfl hw
    with_reducible exact Touches.refl _ _
  try clear_value t2
  with_reducible refine Touches.ite ?_ ?_
  ·
    with_reducible refine Touches.set_ref ?_ ?_
    on_goal 2 => exact Part.within_mem rfl hw
    with_reducible exact Touches.refl _ _
  ·
    with_reducible refine Touches.ite ?_ ?_
    ·
      with_reducible refine Touches.step ?_ (State.calOffer_touches _ _ _ _ ?_)
      on_goal 2 => exact Part.within_trans rfl hw
      with_reducible exact ht2
    ·
      split
      ·
        with_reducible refine Touches.step ?_ (State.calOffer_touches _ _ _ _ ?_)
        on_goal 2 => exact Part.within_trans rfl hw
        with_reducible exact ht2
      ·
        with_reducible exact ht2

theorem State.calReload_touches {ps : List Part} s a1 (hw : Part.within [.keys, .regs, .evt, .hif, .ref, .cal, .boot, .rc .evtPinStat, .rc .evtSuppressed, .rc .hifEvtLost, .rc .hifRingAborted] ps = true) : Touches ps s (State.calReload s a1) := by
  unfold State.calReload
  try extract_lets -merge -underBinder t0 t1 t2
  try clear_value t0
  try clear_value t1
  try clear_value t2
  with_reducible refine Touches.step ?_ (State.runCmd_touches _ _ _ _ _ ?_ (fun _ => ?_))
  on_goal 2 => exact Part.within_trans rfl hw
  ·
    with_reducible exact Touches.refl _ _
  ·
    try extract_lets -merge -underBinder t3
    with_reducible refine Touches.ite ?_ ?_
    ·
      with_reducible refine Touches.ite ?_ ?_
      ·
        with_reducible refine Touches.step ?_ (State.complete_touches _ _ _ _ _ _ _ ?_)
        on_goal 2 => exact Part.within_trans rfl hw
        with_reducible exact Touches.refl _ _
      ·
        with_reducible refine Touches.step ?_ (State.complete_touches _ _ _ _ _ _ _ ?_)
        on_goal 2 => exact Part.within_trans rfl hw
        with_reducible refine Touches.set_cal ?_ ?_
        on_goal 2 => exact Part.within_mem rfl hw
        with_reducible exact Touches.refl _ _
    ·
      split
      ·
        with_reducible refine Touches.step ?_ (State.complete_touches _ _ _ _ _ _ _ ?_)
        on_goal 2 => exact Part.within_trans rfl hw
        with_reducible refine Touches.step ?_ (State.raise_touches _ _ _ _ _ ?_)
        on_goal 2 => exact Part.within_trans rfl hw
        with_reducible exact Touches.refl _ _
      ·
        with_reducible refine Touches.step ?_ (State.complete_touches _ _ _ _ _ _ _ ?_)
        on_goal 2 => exact Part.within_trans rfl hw
        with_reducible refine Touches.step ?_ (State.calLoad_touches _ _ _ ?_)
        on_goal 2 => exact Part.within_trans rfl hw
        with_reducible exact Touches.refl _ _
      ·
        with_reducible refine Touches.step ?_ (State.complete_touches _ _ _ _ _ _ _ ?_)
        on_goal 2 => exact Part.within_trans rfl hw
        with_reducible exact Touches.refl _ _

theorem State.doorbell_touches {ps : List Part} s a1 a2 a3 a4 (hw : Part.within [.regs, .evt, .hif, .rc .evtPinStat, .rc .evtSuppressed, .rc .hifDbBad, .rc .hifEvtLost] ps = true) : Touches ps s (State.doorbell s a1 a2 a3 a4) := by
  unfold State.doorbell
  try extract_lets -merge -underBinder t0 t1
  try clear_value t0
  try clear_value t1
  with_reducible refine Touches.ite ?_ ?_
  ·
    with_reducible refine Touches.step ?_ (State.bump_touches _ _ _ _ ?_)
    on_goal 2 => exact Part.within_trans rfl hw
    with_reducible exact Touches.refl _ _
  ·
    with_reducible refine Touches.ite ?_ ?_
    ·
      with_reducible refine Touches.step ?_ (State.setRing_touches _ _ _ ?_)
      on_goal 2 => exact Part.within_trans rfl hw
      with_reducible exact Touches.refl _ _
    ·
      with_reducible refine Touches.step ?_ (State.takeIndex_touches _ _ _ _ ?_)
      on_goal 2 => exact Part.within_trans rfl hw
      with_reducible exact Touches.refl _ _

theorem State.msixUnmask_touches {ps : List Part} s a1 (hw : Part.within [.hif] ps = true) : Touches ps s (State.msixUnmask s a1) := by
  unfold State.msixUnmask
  try extract_lets -merge -underBinder t0 t1
  try clear_value t1
  with_reducible refine Touches.set_hif ?_ ?_
  on_goal 2 => exact Part.within_mem rfl hw
  with_reducible exact Touches.refl _ _

theorem State.bar4Write_touches {ps : List Part} s a1 a2 a3 (hw : Part.within [.hif] ps = true) : Touches ps s (State.bar4Write s a1 a2 a3) := by
  unfold State.bar4Write
  try extract_lets -merge -underBinder t0 t1 t2 t3 t4 t5 t6 t7
  try clear_value t0
  try clear_value t1
  try clear_value t2
  try dsimp only [t3]
  with_reducible refine Touches.ite ?_ ?_
  ·
    with_reducible exact Touches.refl _ _
  ·
    with_reducible refine Touches.ite ?_ ?_
    ·
      with_reducible refine Touches.set_hif ?_ ?_
      on_goal 2 => exact Part.within_mem rfl hw
      with_reducible exact Touches.refl _ _
    ·
      with_reducible refine Touches.ite ?_ ?_
      ·
        with_reducible refine Touches.set_hif ?_ ?_
        on_goal 2 => exact Part.within_mem rfl hw
        with_reducible exact Touches.refl _ _
      ·
        with_reducible refine Touches.ite ?_ ?_
        ·
          with_reducible refine Touches.set_hif ?_ ?_
          on_goal 2 => exact Part.within_mem rfl hw
          with_reducible exact Touches.refl _ _
        ·
          with_reducible refine Touches.ite ?_ ?_
          ·
            with_reducible exact Touches.refl _ _
          ·
            with_reducible refine Touches.ite ?_ ?_
            ·
              with_reducible refine Touches.step ?_ (State.msixUnmask_touches _ _ ?_)
              on_goal 2 => exact Part.within_trans rfl hw
              with_reducible exact Touches.refl _ _
            ·
              with_reducible refine Touches.set_hif ?_ ?_
              on_goal 2 => exact Part.within_mem rfl hw
              with_reducible exact Touches.refl _ _

theorem State.barWrite_touches {ps : List Part} s a1 a2 a3 (hw : Part.within [.regs, .evt, .hif, .rc .evtPinStat, .rc .evtSuppressed, .rc .hifDbBad, .rc .hifEvtLost] ps = true) : Touches ps s (State.barWrite s a1 a2 a3) := by
  unfold State.barWrite
  with_reducible refine Touches.ite ?_ ?_
  ·
    with_reducible refine Touches.step ?_ (State.doorbell_touches _ _ _ _ _ ?_)
    on_goal 2 => exact Part.within_trans rfl hw
    with_reducible exact Touches.refl _ _
  ·
    with_reducible refine Touches.ite ?_ ?_
    ·
      with_reducible refine Touches.step ?_ (State.bar4Write_touches _ _ _ _ ?_)
      on_goal 2 => exact Part.within_trans rfl hw
      with_reducible exact Touches.refl _ _
    ·
      with_reducible exact Touches.refl _ _

theorem State.putSpad_touches {ps : List Part} s a1 a2 (hw : Part.within [.eng, .spad] ps = true) : Touches ps s (State.putSpad s a1 a2) := by
  unfold State.putSpad
  try extract_lets -merge -underBinder t0
  refine Touches.mk hw ?_
  with_reducible exact Touches.refl _ _

theorem State.portA_touches {ps : List Part} s a1 a2 (hw : Part.within [.eng, .spad] ps = true) : Touches ps s (State.portA s a1 a2) := by
  unfold State.portA
  with_reducible refine Touches.ite ?_ ?_
  ·
    with_reducible exact Touches.refl _ _
  ·
    with_reducible refine Touches.step ?_ (State.putSpad_touches _ _ _ ?_)
    on_goal 2 => exact Part.within_trans rfl hw
    with_reducible exact Touches.refl _ _

theorem State.bankOffAccess_touches {ps : List Part} s a1 (hw : Part.within [.evt, .hif, .eng, .rc .engSpadBankErr, .rc .evtPinStat, .rc .evtSuppressed, .rc .hifEvtLost] ps = true) : Touches ps s (State.bankOffAccess s a1) := by
  unfold State.bankOffAccess
  try extract_lets -merge -underBinder t0 t1
  refine Touches.haveS (t := t0) ?_ (fun ht0 => ?_)
  ·
    unfold t0
    with_reducible refine Touches.step ?_ (State.bump_touches _ _ _ _ ?_)
    on_goal 2 => exact Part.within_trans rfl hw
    with_reducible exact Touches.refl _ _
  try clear_value t0
  with_reducible refine Touches.ite ?_ ?_
  ·
    with_reducible exact ht0
  ·
    with_reducible refine Touches.step ?_ (State.raise_touches _ _ _ _ _ ?_)
    on_goal 2 => exact Part.within_trans rfl hw
    with_reducible refine Touches.setEng ?_ ?_ ?_
    on_goal 2 => exact Part.within_mem rfl hw
    on_goal 2 => rfl
    with_reducible exact ht0

theorem State.spadWrite_touches {ps : List Part} s a1 a2 a3 (hw : Part.within [.evt, .hif, .eng, .spad, .rc .engSpadBankErr, .rc .engSpadLost, .rc .evtPinStat, .rc .evtSuppressed, .rc .hifEvtLost] ps = true) : Touches ps s (State.spadWrite s a1 a2 a3) := by
  unfold State.spadWrite
  try extract_lets -merge -underBinder t0
  try clear_value t0
  with_reducible refine Touches.ite ?_ ?_
  ·
    with_reducible refine Touches.step ?_ (State.raise_touches _ _ _ _ _ ?_)
    on_goal 2 => exact Part.within_trans rfl hw
    with_reducible refine Touches.step ?_ (State.bump_touches _ _ _ _ ?_)
    on_goal 2 => exact Part.within_trans rfl hw
    with_reducible refine Touches.step ?_ (State.portA_touches _ _ _ ?_)
    on_goal 2 => exact Part.within_trans rfl hw
    with_reducible exact Touches.refl _ _
  ·
    with_reducible refine Touches.ite ?_ ?_
    ·
      with_reducible refine Touches.step ?_ (State.bankOffAccess_touches _ _ ?_)
      on_goal 2 => exact Part.within_trans rfl hw
      with_reducible exact Touches.refl _ _
    ·
      split
      ·
        with_reducible refine Touches.step ?_ (State.raise_touches _ _ _ _ _ ?_)
        on_goal 2 => exact Part.within_trans rfl hw
        with_reducible refine Touches.step ?_ (State.bump_touches _ _ _ _ ?_)
        on_goal 2 => exact Part.within_trans rfl hw
        with_reducible refine Touches.step ?_ (State.portA_touches _ _ _ ?_)
        on_goal 2 => exact Part.within_trans rfl hw
        with_reducible exact Touches.refl _ _
      ·
        with_reducible refine Touches.step ?_ (State.putSpad_touches _ _ _ ?_)
        on_goal 2 => exact Part.within_trans rfl hw
        with_reducible refine Touches.step ?_ (State.portA_touches _ _ _ ?_)
        on_goal 2 => exact Part.within_trans rfl hw
        with_reducible exact Touches.refl _ _

theorem State.spadPlain_touches {ps : List Part} s a1 a2 a3 a4 (hw : Part.within [.evt, .hif, .eng, .spad, .rc .engSpadBankErr, .rc .engSpadLost, .rc .evtPinStat, .rc .evtSuppressed, .rc .hifEvtLost, .rc .sysBadAccess] ps = true) : Touches ps s (State.spadPlain s a1 a2 a3 a4) := by
  unfold State.spadPlain
  with_reducible refine Touches.ite ?_ ?_
  ·
    with_reducible refine Touches.step ?_ (State.bump_touches _ _ _ _ ?_)
    on_goal 2 => exact Part.within_trans rfl hw
    with_reducible refine Touches.step ?_ (State.portA_touches _ _ _ ?_)
    on_goal 2 => exact Part.within_trans rfl hw
    with_reducible exact Touches.refl _ _
  ·
    with_reducible refine Touches.step ?_ (State.spadWrite_touches _ _ _ _ ?_)
    on_goal 2 => exact Part.within_trans rfl hw
    with_reducible exact Touches.refl _ _

theorem State.badAccess_touches {ps : List Part} s (hw : Part.within [.rc .sysBadAccess] ps = true) : Touches ps s (State.badAccess s) := by
  unfold State.badAccess
  with_reducible refine Touches.step ?_ (State.bump_touches _ _ _ _ ?_)
  on_goal 2 => exact Part.within_trans rfl hw
  with_reducible exact Touches.refl _ _

theorem State.keyWrite_touches {ps : List Part} s a1 a2 (hw : Part.within [.keys] ps = true) : Touches ps s (State.keyWrite s a1 a2) := by
  unfold State.keyWrite
  try extract_lets -merge -underBinder t0 t1 t2 t3
  try clear_value t0
  try clear_value t1
  try clear_value t2
  try clear_value t3
  with_reducible refine Touches.ite ?_ ?_
  ·
    with_reducible exact Touches.refl _ _
  ·
    with_reducible refine Touches.ite ?_ ?_
    ·
      with_reducible refine Touches.set_keys ?_ ?_
      on_goal 2 => exact Part.within_mem rfl hw
      with_reducible exact Touches.refl _ _
    ·
      with_reducible refine Touches.set_keys ?_ ?_
      on_goal 2 => exact Part.within_mem rfl hw
      with_reducible exact Touches.refl _ _

theorem State.mbxSys_touches {ps : List Part} (s : State) (b : Block) (sel : Nat) :
    Touches ps s (s.mbxSys b sel).1 := by
  unfold State.mbxSys
  dsimp only
  repeat' first
    | with_reducible exact Touches.refl _ _
    | split
    | exact Touches.refl _ _
theorem State.mbxLane_touches {ps : List Part} (s : State) (b : Block) (sel : Nat)
    (hw : Part.within [.sw] ps = true) :
    Touches ps s (s.mbxLane b sel).1 := by
  unfold State.mbxLane
  dsimp only
  repeat' first
    | with_reducible exact Touches.refl _ _
    | split
    | exact Touches.refl _ _
    | exact Touches.set_sw (Touches.refl _ _) (Part.within_mem rfl hw)
theorem State.mbxBpm_touches {ps : List Part} (s : State) (b : Block) (sel : Nat) :
    Touches ps s (s.mbxBpm b sel).1 := by
  unfold State.mbxBpm
  dsimp only
  repeat' first
    | with_reducible exact Touches.refl _ _
    | split
    | exact Touches.refl _ _
theorem State.mbxTcore_touches {ps : List Part} (s : State) (b : Block) (sel : Nat) :
    Touches ps s (s.mbxTcore b sel).1 := by
  unfold State.mbxTcore
  dsimp only
  repeat' first
    | with_reducible exact Touches.refl _ _
    | split
    | exact Touches.refl _ _
theorem State.mbxRef_touches {ps : List Part} (s : State) (b : Block) (sel : Nat)
    (hw : Part.within [.free] ps = true) :
    Touches ps s (s.mbxRef b sel).1 := by
  unfold State.mbxRef
  dsimp only
  repeat' first
    | with_reducible exact Touches.refl _ _
    | split
    | exact Touches.refl _ _
    | exact Touches.set_free (Touches.refl _ _) (Part.within_mem rfl hw)
theorem State.mbxGnss_touches {ps : List Part} (s : State) (sel : Nat) :
    Touches ps s (s.mbxGnss sel).1 := by
  unfold State.mbxGnss
  dsimp only
  repeat' first
    | with_reducible exact Touches.refl _ _
    | split
    | exact Touches.refl _ _
theorem State.mbxTic_touches {ps : List Part} (s : State) (b : Block) (sel : Nat) :
    Touches ps s (s.mbxTic b sel).1 := by
  unfold State.mbxTic
  dsimp only
  repeat' first
    | with_reducible exact Touches.refl _ _
    | split
    | exact Touches.refl _ _
theorem State.mbxEng_touches {ps : List Part} (s : State) (b : Block) (sel : Nat) :
    Touches ps s (s.mbxEng b sel).1 := by
  unfold State.mbxEng
  dsimp only
  repeat' first
    | with_reducible exact Touches.refl _ _
    | split
    | exact Touches.refl _ _
theorem State.mbxPerf_touches {ps : List Part} (s : State) (sel : Nat)
    (hw : Part.within [.eng, .free] ps = true) :
    Touches ps s (s.mbxPerf sel).1 := by
  unfold State.mbxPerf
  dsimp only
  repeat' first
    | with_reducible exact Touches.refl _ _
    | split
    | exact Touches.refl _ _
    | exact Touches.setEng (Touches.refl _ _) (Part.within_mem rfl hw) rfl
    | exact Touches.set_free (Touches.refl _ _) (Part.within_mem rfl hw)
theorem State.mbxSnap_touches {ps : List Part} (s : State) (b : Block) (sel : Nat) (hw : Part.within [.sw, .free, .eng] ps = true) :
    Touches ps s (s.mbxSnap b sel).1 := by
  unfold State.mbxSnap
  split
  · exact Touches.refl _ _
  · cases b
    all_goals first
      | exact Touches.refl _ _
      | exact State.mbxSys_touches _ _ _
      | exact State.mbxLane_touches _ _ _ (Part.within_trans rfl hw)
      | exact State.mbxBpm_touches _ _ _
      | exact State.mbxTcore_touches _ _ _
      | exact State.mbxRef_touches _ _ _ (Part.within_trans rfl hw)
      | exact State.mbxGnss_touches _ _
      | exact State.mbxTic_touches _ _ _
      | exact State.mbxEng_touches _ _ _
      | exact State.mbxPerf_touches _ _ (Part.within_trans rfl hw)
theorem State.mbxAsk_touches {ps : List Part} (s : State) (p : Path) (b : Block) (v : Word) (hw : Part.within [.sw, .free, .eng, .mbx] ps = true) :
    Touches ps s (s.mbxAsk p b v) := by
  unfold State.mbxAsk
  exact Touches.ite (Touches.refl _ _) (Touches.set_mbx (State.mbxSnap_touches _ _ _ (Part.within_trans rfl hw)) (Part.within_mem rfl hw))

theorem State.wordWrite_touches {ps : List Part} s a1 a2 a3 a4 (hw : Part.within [.clk, .ready, .keys, .regs, .mbx, .evt, .pers, .hif, .index, .objs, .lanes, .grps, .sw, .fab, .bpm, .fdb, .tcore, .tchans, .lnk, .ref, .free, .pll, .gnss, .tic, .cal, .eng, .spad, .pair, .pwr, .boot, .counters] ps = true) : Touches ps s (State.wordWrite s a1 a2 a3 a4) := by
  unfold State.wordWrite
  split
  ·
    with_reducible refine Touches.ite ?_ ?_
    ·
      with_reducible refine Touches.step ?_ (State.keyWrite_touches _ _ _ ?_)
      on_goal 2 => exact Part.within_trans rfl hw
      with_reducible exact Touches.refl _ _
    ·
      with_reducible refine Touches.ite ?_ ?_
      ·
        with_reducible exact Touches.refl _ _
      ·
        with_reducible refine Touches.step ?_ (State.regSet_touches _ _ _ _ _ ?_)
        on_goal 2 => exact Part.within_trans rfl hw
        with_reducible exact Touches.refl _ _
  ·
    split
    ·
      with_reducible refine Touches.ite ?_ ?_
      ·
        with_reducible exact Touches.refl _ _
      ·
        with_reducible refine Touches.step ?_ (State.mbxAsk_touches _ _ _ _ ?_)
        on_goal 2 => exact Part.within_trans rfl hw
        with_reducible exact Touches.refl _ _
    ·
      with_reducible exact Touches.refl _ _
    ·
      with_reducible refine Touches.step ?_ (State.badAccess_touches _ ?_)
      on_goal 2 => exact Part.within_trans rfl hw
      with_reducible exact Touches.refl _ _

theorem State.aliasWrite_touches {ps : List Part} s a1 a2 a3 a4 (hw : Part.within [.clk, .ready, .keys, .regs, .evt, .pers, .hif, .index, .objs, .lanes, .grps, .sw, .fab, .bpm, .fdb, .tcore, .tchans, .lnk, .ref, .free, .pll, .gnss, .tic, .cal, .eng, .spad, .pair, .pwr, .boot, .counters] ps = true) : Touches ps s (State.aliasWrite s a1 a2 a3 a4) := by
  unfold State.aliasWrite
  split
  ·
    try extract_lets -merge -underBinder t0
    try clear_value t0
    with_reducible refine Touches.ite ?_ ?_
    ·
      with_reducible exact Touches.refl _ _
    ·
      with_reducible refine Touches.step ?_ (State.regSet_touches _ _ _ _ _ ?_)
      on_goal 2 => exact Part.within_trans rfl hw
      with_reducible exact Touches.refl _ _
  ·
    with_reducible refine Touches.ite ?_ ?_
    ·
      with_reducible exact Touches.refl _ _
    ·
      with_reducible refine Touches.step ?_ (State.badAccess_touches _ ?_)
      on_goal 2 => exact Part.within_trans rfl hw
      with_reducible exact Touches.refl _ _

theorem State.busWrite_touches {ps : List Part} s a1 a2 a3 a4 (hw : Part.within [.clk, .ready, .keys, .regs, .mbx, .evt, .pers, .hif, .index, .objs, .lanes, .grps, .sw, .fab, .bpm, .fdb, .tcore, .tchans, .lnk, .ref, .free, .pll, .gnss, .tic, .cal, .eng, .spad, .pair, .pwr, .boot, .counters] ps = true) : Touches ps s (State.busWrite s a1 a2 a3 a4) := by
  unfold State.busWrite
  try extract_lets -merge -underBinder t0
  try clear_value t0
  with_reducible refine Touches.ite ?_ ?_
  ·
    with_reducible refine Touches.ite ?_ ?_
    ·
      with_reducible refine Touches.step ?_ (State.barWrite_touches _ _ _ _ ?_)
      on_goal 2 => exact Part.within_trans rfl hw
      with_reducible exact Touches.refl _ _
    ·
      with_reducible exact Touches.refl _ _
  ·
    with_reducible refine Touches.ite ?_ ?_
    ·
      with_reducible refine Touches.ite ?_ ?_
      ·
        with_reducible exact Touches.refl _ _
      ·
        split
        ·
          with_reducible refine Touches.step ?_ (State.spadPlain_touches _ _ _ _ _ ?_)
          on_goal 2 => exact Part.within_trans rfl hw
          with_reducible exact Touches.refl _ _
        ·
          with_reducible refine Touches.step ?_ (State.spadWrite_touches _ _ _ _ ?_)
          on_goal 2 => exact Part.within_trans rfl hw
          with_reducible exact Touches.refl _ _
        ·
          with_reducible refine Touches.step ?_ (State.spadWrite_touches _ _ _ _ ?_)
          on_goal 2 => exact Part.within_trans rfl hw
          with_reducible exact Touches.refl _ _
        ·
          with_reducible refine Touches.step ?_ (State.bump_touches _ _ _ _ ?_)
          on_goal 2 => exact Part.within_trans rfl hw
          with_reducible exact Touches.refl _ _
    ·
      with_reducible refine Touches.ite ?_ ?_
      ·
        with_reducible refine Touches.step ?_ (State.badAccess_touches _ ?_)
        on_goal 2 => exact Part.within_trans rfl hw
        with_reducible exact Touches.refl _ _
      ·
        split
        ·
          with_reducible refine Touches.step ?_ (State.wordWrite_touches _ _ _ _ _ ?_)
          on_goal 2 => exact Part.within_trans rfl hw
          with_reducible exact Touches.refl _ _
        ·
          with_reducible refine Touches.step ?_ (State.aliasWrite_touches _ _ _ _ _ ?_)
          on_goal 2 => exact Part.within_trans rfl hw
          with_reducible exact Touches.refl _ _

theorem State.cfgWrite_touches {ps : List Part} s a1 (hw : Part.within [.clk, .ready, .keys, .regs, .mbx, .evt, .pers, .hif, .index, .objs, .lanes, .grps, .sw, .fab, .bpm, .fdb, .tcore, .tchans, .lnk, .ref, .free, .pll, .gnss, .tic, .cal, .eng, .spad, .pair, .pwr, .boot, .counters] ps = true) : Touches ps s (State.cfgWrite s a1) := by
  unfold State.cfgWrite
  try extract_lets -merge -underBinder t0 t1
  try clear_value t0
  with_reducible refine Touches.ite ?_ ?_
  ·
    with_reducible refine Touches.set_boot ?_ ?_
    on_goal 2 => exact Part.within_mem rfl hw
    with_reducible exact Touches.refl _ _
  ·
    with_reducible refine Touches.step ?_ (State.busWrite_touches _ _ _ _ _ ?_)
    on_goal 2 => exact Part.within_trans rfl hw
    with_reducible exact Touches.refl _ _

theorem State.ltxMove_touches {ps : List Part} s a1 (hw : Part.within [.pll] ps = true) : Touches ps s (State.ltxMove s a1) := by
  unfold State.ltxMove
  try extract_lets -merge -underBinder t0
  with_reducible refine Touches.set_pll ?_ ?_
  on_goal 2 => exact Part.within_mem rfl hw
  with_reducible exact Touches.refl _ _

theorem State.markSecond_touches {ps : List Part} s (hw : Part.within [.clk] ps = true) : Touches ps s (State.markSecond s) := by
  unfold State.markSecond
  try extract_lets -merge -underBinder t0
  with_reducible refine Touches.set_clk ?_ ?_
  on_goal 2 => exact Part.within_mem rfl hw
  with_reducible exact Touches.refl _ _

theorem State.pllStepped_touches {ps : List Part} s (hw : Part.within [.pll] ps = true) : Touches ps s (State.pllStepped s) := by
  unfold State.pllStepped
  with_reducible refine Touches.foldl (fun _ _ => ?_) _ ?_
  ·
    try extract_lets -merge -underBinder t0
    with_reducible refine Touches.step ?_ (State.setPll_touches _ _ _ ?_)
    on_goal 2 => exact Part.within_trans rfl hw
    with_reducible exact Touches.refl _ _
  ·
    with_reducible exact Touches.refl _ _

theorem State.gateResync_touches {ps : List Part} s a1 (hw : Part.within [.fab] ps = true) : Touches ps s (State.gateResync s a1) := by
  unfold State.gateResync
  try extract_lets -merge -underBinder t0
  try clear_value t0
  split
  ·
    with_reducible exact Touches.refl _ _
  ·
    try extract_lets -merge -underBinder t1 t2
    try clear_value t1
    try clear_value t2
    with_reducible refine Touches.step ?_ (State.setPort_touches _ _ _ ?_)
    on_goal 2 => exact Part.within_trans rfl hw
    with_reducible exact Touches.refl _ _

theorem State.gatesResync_touches {ps : List Part} s (hw : Part.within [.fab] ps = true) : Touches ps s (State.gatesResync s) := by
  unfold State.gatesResync
  with_reducible refine Touches.foldl (fun _ _ => ?_) _ ?_
  ·
    with_reducible refine Touches.step ?_ (State.gateResync_touches _ _ ?_)
    on_goal 2 => exact Part.within_trans rfl hw
    with_reducible exact Touches.refl _ _
  ·
    with_reducible exact Touches.refl _ _

theorem State.swapAfterStep_touches {ps : List Part} s (hw : Part.within [.tcore] ps = true) : Touches ps s (State.swapAfterStep s) := by
  unfold State.swapAfterStep
  try extract_lets -merge -underBinder t0
  with_reducible refine Touches.set_tcore ?_ ?_
  on_goal 2 => exact Part.within_mem rfl hw
  with_reducible exact Touches.refl _ _

theorem State.beacon_touches {ps : List Part} s (hw : Part.within [.evt, .hif, .rc .evtPinStat, .rc .evtSuppressed, .rc .hifEvtLost] ps = true) : Touches ps s (State.beacon s) := by
  unfold State.beacon
  with_reducible refine Touches.step ?_ (State.raiseIf_touches _ _ _ _ _ _ ?_)
  on_goal 2 => exact Part.within_trans rfl hw
  with_reducible exact Touches.refl _ _

theorem State.pllAlignNow_touches {ps : List Part} (s : State) (x : Nat)
    (hw : Part.within (.pll :: evtParts) ps = true) : Touches ps s (s.pllAlignNow x).1 := by
  unfold State.pllAlignNow
  extract_lets outs want good bad s1 s2 s3
  split
  · exact Touches.refl _ _
  · refine Touches.foldl (fun u k => State.raise_touches _ _ _ _ _ (Part.within_trans rfl hw)) _ ?_
    exact ((Touches.set_pll (Touches.refl _ _) (Part.within_mem rfl hw)).step (State.setPll_touches _ _ _ (Part.within_trans rfl hw))).step
      (State.raiseIf_touches _ _ _ _ _ _ (Part.within_trans rfl hw))

theorem State.pllSec_touches {ps : List Part} (s : State) (hw : Part.within [.evt, .hif, .free, .pll, .boot, .rc .evtPinStat, .rc .evtSuppressed, .rc .hifEvtLost, .rc .hifRingAborted] ps = true) : Touches ps s s.pllSec := by
  unfold State.pllSec
  extract_lets -underBinder s1 s2
  have h1 : Touches ps s s1 := by
    refine Touches.foldl (fun u x => Touches.ite ?_ (Touches.refl _ _)) _ (Touches.refl _ _)
    exact (State.pllAlignNow_touches _ _ (Part.within_trans rfl hw)).step (State.setPll_touches _ _ _ (Part.within_trans rfl hw))
  refine Touches.foldl (fun u d => ?_) _ (Touches.set_pll h1 (Part.within_mem rfl hw))
  exact ((State.pllAlignNow_touches _ _ (Part.within_trans rfl hw)).step (Touches.set_free (Touches.refl _ _) (Part.within_mem rfl hw))).step
    (State.complete_touches _ _ _ _ _ _ _ (Part.within_trans rfl hw))

theorem State.secPoint_touches {ps : List Part} s (hw : Part.within [.clk, .keys, .regs, .evt, .hif, .index, .objs, .lanes, .grps, .sw, .fab, .bpm, .fdb, .tcore, .tchans, .lnk, .ref, .free, .pll, .tic, .cal, .eng, .pair, .pwr, .boot, .rc .bpmDoubleFreeCnt, .rc .bpmForeignFreeCnt, .rc .bpmPoolEmptyCnt, .rc .bpmPromoteCnt, .rc .calAbortCnt, .rc .evtPinStat, .rc .evtSuppressed, .rc .hifEvtLost, .rc .hifRingAborted, .rc .pairMirOvf, .rc .pairPromoteCnt, .rc .perfTagDrop, .rc .pllCnt, .rc .portHoldFlush, .rc .pwrWakeSrc] ps = true) : Touches ps s (State.secPoint s) := by
  unfold State.secPoint
  try extract_lets -merge -underBinder t0 t1 t2
  refine Touches.haveS (t := t0) ?_ (fun ht0 => ?_)
  ·
    unfold t0
    with_reducible refine Touches.ite ?_ ?_
    ·
      with_reducible refine Touches.step ?_ (State.commit_touches _ ?_)
      on_goal 2 => exact Part.within_trans rfl hw
      with_reducible exact Touches.refl _ _
    ·
      with_reducible exact Touches.refl _ _
  try clear_value t0
  refine Touches.haveS (t := t1) ?_ (fun ht1 => ?_)
  ·
    unfold t1
    with_reducible refine Touches.step ?_ (State.applyAt_touches _ _ _ ?_)
    on_goal 2 => exact Part.within_trans rfl hw
    with_reducible exact ht0
  try clear_value t1
  refine Touches.haveS (t := t2) ?_ (fun ht2 => ?_)
  ·
    unfold t2
    with_reducible refine Touches.foldl (fun _ _ => ?_) _ ?_
    ·
      with_reducible refine Touches.step ?_ (State.calBoundary_touches _ _ _ ?_)
      on_goal 2 => exact Part.within_trans rfl hw
      with_reducible exact Touches.refl _ _
    ·
      with_reducible exact ht1
  try clear_value t2
  with_reducible refine Touches.step ?_ (State.beacon_touches _ ?_)
  on_goal 2 => exact Part.within_trans rfl hw
  with_reducible refine Touches.step ?_ (State.pllSec_touches _ ?_)
  on_goal 2 => exact Part.within_trans rfl hw
  with_reducible refine Touches.step ?_ (State.updateClass_touches _ ?_)
  on_goal 2 => exact Part.within_trans rfl hw
  with_reducible exact ht2

theorem State.moveCores_touches {ps : List Part} s a1 a2 (hw : Part.within [.clk, .keys, .regs, .evt, .hif, .index, .objs, .lanes, .grps, .sw, .fab, .bpm, .fdb, .tcore, .tchans, .lnk, .ref, .free, .pll, .tic, .cal, .eng, .pair, .pwr, .boot, .rc .bpmDoubleFreeCnt, .rc .bpmForeignFreeCnt, .rc .bpmPoolEmptyCnt, .rc .bpmPromoteCnt, .rc .calAbortCnt, .rc .evtPinStat, .rc .evtSuppressed, .rc .hifEvtLost, .rc .hifRingAborted, .rc .pairMirOvf, .rc .pairPromoteCnt, .rc .perfTagDrop, .rc .pllCnt, .rc .portHoldFlush, .rc .pwrWakeSrc] ps = true) : Touches ps s (State.moveCores s a1 a2) := by
  unfold State.moveCores
  try extract_lets -merge -underBinder t0 t1 t2 t3 t4 t5 t6 t7 t8
  try clear_value t0
  try clear_value t1
  refine Touches.haveS (t := t2) ?_ (fun ht2 => ?_)
  ·
    unfold t2
    with_reducible refine Touches.step ?_ (State.ltxMove_touches _ _ ?_)
    on_goal 2 => exact Part.within_trans rfl hw
    with_reducible refine Touches.step ?_ (State.markSecond_touches _ ?_)
    on_goal 2 => exact Part.within_trans rfl hw
    with_reducible refine Touches.set_clk ?_ ?_
    on_goal 2 => exact Part.within_mem rfl hw
    with_reducible exact Touches.refl _ _
  try clear_value t2
  refine Touches.haveS (t := t7) ?_ (fun ht7 => ?_)
  ·
    unfold t7
    refine Touches.mk hw ?_
    with_reducible exact ht2
  try clear_value t7
  refine Touches.haveS (t := t8) ?_ (fun ht8 => ?_)
  ·
    unfold t8
    with_reducible refine Touches.step ?_ (State.pllStepped_touches _ ?_)
    on_goal 2 => exact Part.within_trans rfl hw
    with_reducible refine Touches.step ?_ (State.gatesResync_touches _ ?_)
    on_goal 2 => exact Part.within_trans rfl hw
    with_reducible refine Touches.step ?_ (State.swapAfterStep_touches _ ?_)
    on_goal 2 => exact Part.within_trans rfl hw
    with_reducible exact ht7
  try clear_value t8
  with_reducible refine Touches.step ?_ (State.secPoint_touches _ ?_)
  on_goal 2 => exact Part.within_trans rfl hw
  with_reducible refine Touches.step ?_ (State.raise_touches _ _ _ _ _ ?_)
  on_goal 2 => exact Part.within_trans rfl hw
  with_reducible exact ht8

theorem State.applyStep_touches {ps : List Part} s a1 (hw : Part.within [.clk, .keys, .regs, .evt, .hif, .index, .objs, .lanes, .grps, .sw, .fab, .bpm, .fdb, .tcore, .tchans, .lnk, .ref, .free, .pll, .tic, .cal, .eng, .pair, .pwr, .boot, .rc .bpmDoubleFreeCnt, .rc .bpmForeignFreeCnt, .rc .bpmPoolEmptyCnt, .rc .bpmPromoteCnt, .rc .calAbortCnt, .rc .evtPinStat, .rc .evtSuppressed, .rc .hifEvtLost, .rc .hifRingAborted, .rc .pairMirOvf, .rc .pairPromoteCnt, .rc .perfTagDrop, .rc .pllCnt, .rc .portHoldFlush, .rc .pwrWakeSrc] ps = true) : Touches ps s (State.applyStep s a1) := by
  unfold State.applyStep
  with_reducible refine Touches.step ?_ (State.moveCores_touches _ _ _ ?_)
  on_goal 2 => exact Part.within_trans rfl hw
  with_reducible exact Touches.refl _ _

theorem State.freeRate_touches {ps : List Part} s (hw : Part.within [.clk, .free] ps = true) : Touches ps s (State.freeRate s) := by
  unfold State.freeRate
  try extract_lets -merge -underBinder t0 t1 t2
  try clear_value t0
  try clear_value t1
  refine Touches.haveS (t := t2) ?_ (fun ht2 => ?_)
  ·
    unfold t2
    with_reducible refine Touches.set_free ?_ ?_
    on_goal 2 => exact Part.within_mem rfl hw
    with_reducible exact Touches.refl _ _
  try clear_value t2
  split
  ·
    with_reducible refine Touches.step ?_ (State.setRate_touches _ _ ?_)
    on_goal 2 => exact Part.within_trans rfl hw
    with_reducible exact ht2
  ·
    with_reducible refine Touches.step ?_ (State.setRate_touches _ _ ?_)
    on_goal 2 => exact Part.within_trans rfl hw
    with_reducible exact ht2

theorem State.servoTake_touches {ps : List Part} s a1 (hw : Part.within [.clk, .keys, .regs, .evt, .hif, .index, .objs, .lanes, .grps, .sw, .fab, .bpm, .fdb, .tcore, .tchans, .lnk, .ref, .free, .pll, .tic, .cal, .eng, .pair, .pwr, .boot, .rc .bpmDoubleFreeCnt, .rc .bpmForeignFreeCnt, .rc .bpmPoolEmptyCnt, .rc .bpmPromoteCnt, .rc .calAbortCnt, .rc .evtPinStat, .rc .evtSuppressed, .rc .hifEvtLost, .rc .hifRingAborted, .rc .pairMirOvf, .rc .pairPromoteCnt, .rc .perfTagDrop, .rc .pllCnt, .rc .portHoldFlush, .rc .pwrWakeSrc] ps = true) : Touches ps s (State.servoTake s a1) := by
  unfold State.servoTake
  try extract_lets -merge -underBinder t0 t1 t2 t3 t4 t5 t6
  try clear_value t0
  refine Touches.haveS (t := t2) ?_ (fun ht2 => ?_)
  ·
    unfold t2
    with_reducible refine Touches.set_tcore ?_ ?_
    on_goal 2 => exact Part.within_mem rfl hw
    with_reducible exact Touches.refl _ _
  try clear_value t2
  refine Touches.haveS (t := t4) ?_ (fun ht4 => ?_)
  ·
    unfold t4
    with_reducible refine Touches.step ?_ (State.freeRate_touches _ ?_)
    on_goal 2 => exact Part.within_trans rfl hw
    with_reducible exact ht2
  try clear_value t4
  refine Touches.haveS (t := t6) ?_ (fun ht6 => ?_)
  ·
    unfold t6
    with_reducible refine Touches.ite ?_ ?_
    ·
      with_reducible refine Touches.set_tcore ?_ ?_
      on_goal 2 => exact Part.within_mem rfl hw
      with_reducible exact ht4
    ·
      with_reducible exact ht4
  try clear_value t6
  with_reducible refine Touches.ite ?_ ?_
  ·
    with_reducible exact Touches.refl _ _
  ·
    with_reducible refine Touches.ite ?_ ?_
    ·
      with_reducible exact Touches.refl _ _
    ·
      with_reducible refine Touches.ite ?_ ?_
      ·
        with_reducible refine Touches.step ?_ (State.applyStep_touches _ _ ?_)
        on_goal 2 => exact Part.within_trans rfl hw
        with_reducible refine Touches.set_tcore ?_ ?_
        on_goal 2 => exact Part.within_mem rfl hw
        with_reducible exact ht2
      ·
        with_reducible refine Touches.ite ?_ ?_
        ·
          with_reducible refine Touches.step ?_ (State.setTstate_touches _ _ _ ?_)
          on_goal 2 => exact Part.within_trans rfl hw
          with_reducible exact ht6
        ·
          with_reducible exact ht6

theorem State.resyncDone_touches {ps : List Part} s (hw : Part.within [.clk, .evt, .hif, .fdb, .tcore, .ref, .free, .pair, .pwr, .boot, .rc .evtPinStat, .rc .evtSuppressed, .rc .hifEvtLost, .rc .hifRingAborted, .rc .pairMirOvf, .rc .pwrWakeSrc] ps = true) : Touches ps s (State.resyncDone s) := by
  unfold State.resyncDone
  try extract_lets -merge -underBinder t0 t1 t2 t3
  try clear_value t0
  refine Touches.haveS (t := t1) ?_ (fun ht1 => ?_)
  ·
    unfold t1
    with_reducible refine Touches.step ?_ (State.raise_touches _ _ _ _ _ ?_)
    on_goal 2 => exact Part.within_trans rfl hw
    with_reducible refine Touches.step ?_ (State.goPair_touches _ _ ?_)
    on_goal 2 => exact Part.within_trans rfl hw
    with_reducible exact Touches.refl _ _
  try clear_value t1
  refine Touches.haveS (t := t3) ?_ (fun ht3 => ?_)
  ·
    unfold t3
    with_reducible refine Touches.set_pair ?_ ?_
    on_goal 2 => exact Part.within_mem rfl hw
    with_reducible exact ht1
  try clear_value t3
  split
  ·
    with_reducible refine Touches.step ?_ (State.complete_touches _ _ _ _ _ _ _ ?_)
    on_goal 2 => exact Part.within_trans rfl hw
    with_reducible exact ht3
  ·
    with_reducible exact ht3

theorem State.calModify_touches {ps : List Part} s a1 (hw : Part.within [.hif, .objs, .free, .boot, .rc .hifRingAborted] ps = true) : Touches ps s (State.calModify s a1) := by
  unfold State.calModify
  try extract_lets -merge -underBinder t0 t1 t2
  try clear_value t0
  refine Touches.haveS (t := t2) ?_ (fun ht2 => ?_)
  ·
    unfold t2
    with_reducible refine Touches.step ?_ (State.setObj_touches _ _ _ _ ?_)
    on_goal 2 => exact Part.within_trans rfl hw
    with_reducible exact Touches.refl _ _
  try clear_value t2
  with_reducible refine Touches.step ?_ (State.complete_touches _ _ _ _ _ _ _ ?_)
  on_goal 2 => exact Part.within_trans rfl hw
  with_reducible refine Touches.set_free ?_ ?_
  on_goal 2 => exact Part.within_mem rfl hw
  with_reducible exact ht2

theorem State.calJobTimeout_touches {ps : List Part} s a1 (hw : Part.within [.evt, .hif, .tic, .cal, .rc .calAbortCnt, .rc .evtPinStat, .rc .evtSuppressed, .rc .hifEvtLost] ps = true) : Touches ps s (State.calJobTimeout s a1) := by
  unfold State.calJobTimeout
  with_reducible refine Touches.ite ?_ ?_
  ·
    with_reducible exact Touches.refl _ _
  ·
    with_reducible refine Touches.step ?_ (State.calAbortJob_touches _ _ ?_)
    on_goal 2 => exact Part.within_trans rfl hw
    with_reducible refine Touches.step ?_ (State.calCheckLost_touches _ _ ?_)
    on_goal 2 => exact Part.within_trans rfl hw
    with_reducible exact Touches.refl _ _

theorem State.giveBuf_touches {ps : List Part} (s : State) (p r : Nat) (hr : Bool) (flow : Option Nat) (c : Nat)
    (hw : Part.within [.sw, .fab, .bpm] ps = true) : Touches ps s (s.giveBuf p r hr flow c) := by
  unfold State.giveBuf
  split
  · next b t x ht hx => exact (State.takeBuf_touches s p r hr flow (Part.within_trans rfl hw) ht).step (State.setCopy_touches _ _ _ (Part.within_trans rfl hw))
  · exact Touches.refl _ _

theorem State.giveRefused_touches {ps : List Part} s a1 a2 a3 a4 (hw : Part.within [.sw, .fab, .bpm] ps = true) : Touches ps s (State.giveRefused s a1 a2 a3 a4) := by
  unfold State.giveRefused
  try extract_lets -merge -underBinder t0
  refine Touches.haveS (t := t0) ?_ (fun ht0 => ?_)
  ·
    unfold t0
    with_reducible refine Touches.step ?_ (State.giveBuf_touches _ _ _ _ _ _ ?_)
    on_goal 2 => exact Part.within_trans rfl hw
    with_reducible exact Touches.refl _ _
  try clear_value t0
  split
  ·
    with_reducible refine Touches.step ?_ (State.setCopy_touches _ _ _ ?_)
    on_goal 2 => exact Part.within_trans rfl hw
    with_reducible exact ht0
  ·
    with_reducible exact ht0

theorem State.refusedBuf_touches {ps : List Part} (s : State) (r c : Nat) (hw : Part.within [.sw, .fab, .bpm] ps = true) {t : State}
    (h : s.refusedBuf r c = some t) : Touches ps s t := by
  unfold State.refusedBuf at h
  split at h
  · cases h; exact State.giveRefused_touches _ _ _ _ _ (Part.within_trans rfl hw)
  · obtain ⟨p, _, rfl⟩ := Option.map_eq_some_iff.mp h
    exact State.giveRefused_touches _ _ _ _ _ (Part.within_trans rfl hw)
theorem State.refusedGive_touches {ps : List Part} (s : State) (r : Nat) (cs : List Nat) (hw : Part.within [.sw, .fab, .bpm] ps = true) {t : State}
    (h : s.refusedGive r cs = some t) : Touches ps s t := by
  induction cs generalizing s with
  | nil => cases h; exact Touches.refl _ _
  | cons c cs ih =>
    unfold State.refusedGive at h
    obtain ⟨u, hu, ht⟩ := Option.bind_eq_some_iff.mp h
    exact (State.refusedBuf_touches _ _ _ hw hu).step (ih _ ht)

theorem State.refusedDrop_touches {ps : List Part} s a1 a2 (hw : Part.within [.evt, .hif, .sw, .fab, .bpm, .fdb, .free, .eng, .rc .bpmDoubleFreeCnt, .rc .bpmForeignFreeCnt, .rc .bpmHrOvf, .rc .evtPinStat, .rc .evtSuppressed, .rc .hifEvtLost, .rc .perfTagDrop, .rc .portIngOvf] ps = true) : Touches ps s (State.refusedDrop s a1 a2) := by
  unfold State.refusedDrop
  try extract_lets -merge -underBinder t0 t1 t2 t3 t4
  try clear_value t0
  try clear_value t1
  refine Touches.haveS (t := t2) ?_ (fun ht2 => ?_)
  ·
    unfold t2
    with_reducible refine Touches.step ?_ (State.raiseIf_touches _ _ _ _ _ _ ?_)
    on_goal 2 => exact Part.within_trans rfl hw
    with_reducible refine Touches.ite ?_ ?_
    ·
      with_reducible refine Touches.step ?_ (State.bump_touches _ _ _ _ ?_)
      on_goal 2 => exact Part.within_trans rfl hw
      with_reducible exact Touches.refl _ _
    ·
      with_reducible refine Touches.step ?_ (State.bump_touches _ _ _ _ ?_)
      on_goal 2 => exact Part.within_trans rfl hw
      with_reducible exact Touches.refl _ _
  try clear_value t2
  refine Touches.haveS (t := t4) ?_ (fun ht4 => ?_)
  ·
    unfold t4
    with_reducible refine Touches.step ?_ (State.setReq_touches _ _ _ ?_)
    on_goal 2 => exact Part.within_trans rfl hw
    with_reducible exact ht2
  try clear_value t4
  with_reducible refine Touches.foldl (fun _ _ => ?_) _ ?_
  ·
    with_reducible refine Touches.step ?_ (State.removeCopy_touches _ _ ?_)
    on_goal 2 => exact Part.within_trans rfl hw
    with_reducible exact Touches.refl _ _
  ·
    with_reducible exact ht4

theorem State.refusedBufs_touches {ps : List Part} (s : State) (r : Nat) (cs : List Nat) (hw : Part.within [.evt, .hif, .sw, .fab, .bpm, .fdb, .free, .eng, .rc .bpmDoubleFreeCnt, .rc .bpmForeignFreeCnt, .rc .bpmHrOvf, .rc .evtPinStat, .rc .evtSuppressed, .rc .hifEvtLost, .rc .perfTagDrop, .rc .portIngOvf] ps = true) :
    Touches ps s (s.refusedBufs r cs) := by
  unfold State.refusedBufs
  exact Touches.getD (State.refusedDrop_touches _ _ _ (Part.within_trans rfl hw))
    (fun t ht => State.refusedGive_touches _ _ _ (Part.within_trans rfl hw) ht)

theorem State.engDrainEnd_touches {ps : List Part} s a1 (hw : Part.within [.clk, .evt, .hif, .tcore, .tchans, .lnk, .ref, .pll, .eng, .pair, .pwr, .boot, .rc .engEAborted, .rc .evtPinStat, .rc .evtSuppressed, .rc .hifEvtLost, .rc .hifRingAborted, .rc .pairMirOvf, .rc .pllCnt, .rc .pwrWakeSrc] ps = true) : Touches ps s (State.engDrainEnd s a1) := by
  unfold State.engDrainEnd
  with_reducible refine Touches.ite ?_ ?_
  ·
    with_reducible refine Touches.step ?_ (State.outDone_touches _ _ _ ?_)
    on_goal 2 => exact Part.within_trans rfl hw
    with_reducible exact Touches.refl _ _
  ·
    with_reducible exact Touches.refl _ _

theorem State.pwrWakeDone_touches {ps : List Part} s (hw : Part.within [.clk, .ready, .regs, .evt, .hif, .lanes, .grps, .sw, .fab, .bpm, .fdb, .tcore, .tchans, .lnk, .ref, .free, .pll, .gnss, .tic, .cal, .eng, .spad, .pair, .pwr, .boot, .counters] ps = true) : Touches ps s (State.pwrWakeDone s) := by
  unfold State.pwrWakeDone
  split
  ·
    try extract_lets -merge -underBinder t0 t1 t2
    try clear_value t0
    refine Touches.haveS (t := t1) ?_ (fun ht1 => ?_)
    ·
      unfold t1
      with_reducible refine Touches.set_pwr ?_ ?_
      on_goal 2 => exact Part.within_mem rfl hw
      with_reducible exact Touches.refl _ _
    try clear_value t1
    refine Touches.haveS (t := t2) ?_ (fun ht2 => ?_)
    ·
      unfold t2
      with_reducible refine Touches.ite ?_ ?_
      ·
        with_reducible refine Touches.step ?_ (State.setReady_touches _ _ _ ?_)
        on_goal 2 => exact Part.within_trans rfl hw
        with_reducible exact ht1
      ·
        with_reducible exact ht1
    try clear_value t2
    with_reducible refine Touches.step ?_ (State.pwrSettle_touches _ ?_)
    on_goal 2 => exact Part.within_trans rfl hw
    with_reducible refine Touches.step ?_ (State.raise_touches _ _ _ _ _ ?_)
    on_goal 2 => exact Part.within_trans rfl hw
    with_reducible exact ht2
  ·
    with_reducible exact Touches.refl _ _

theorem State.vscaleUnheldTimeout_touches {ps : List Part} s (hw : Part.within [.sw] ps = true) : Touches ps s (State.vscaleUnheldTimeout s) := by
  unfold State.vscaleUnheldTimeout
  try extract_lets -merge -underBinder t0
  with_reducible refine Touches.ite ?_ ?_
  ·
    with_reducible exact Touches.refl _ _
  ·
    with_reducible refine Touches.step ?_ (State.vddMax_touches _ ?_)
    on_goal 2 => exact Part.within_trans rfl hw
    with_reducible refine Touches.set_sw ?_ ?_
    on_goal 2 => exact Part.within_mem rfl hw
    with_reducible exact Touches.refl _ _

theorem State.returnStepped_touches {ps : List Part} s a1 (hw : Part.within [.clk, .evt, .hif, .tcore, .tchans, .ref, .pll, .eng, .pair, .pwr, .rc .evtPinStat, .rc .evtSuppressed, .rc .hifEvtLost, .rc .pairMirOvf, .rc .pllCnt, .rc .pwrWakeSrc] ps = true) : Touches ps s (State.returnStepped s a1) := by
  unfold State.returnStepped
  try extract_lets -merge -underBinder t0 t1
  refine Touches.haveS (t := t1) ?_ (fun ht1 => ?_)
  ·
    unfold t1
    with_reducible refine Touches.step ?_ (State.timeStateOut_touches _ ?_)
    on_goal 2 => exact Part.within_trans rfl hw
    with_reducible refine Touches.set_ref ?_ ?_
    on_goal 2 => exact Part.within_mem rfl hw
    with_reducible exact Touches.refl _ _
  try clear_value t1
  with_reducible refine Touches.ite ?_ ?_
  ·
    with_reducible refine Touches.step ?_ (State.setTstate_touches _ _ _ ?_)
    on_goal 2 => exact Part.within_trans rfl hw
    with_reducible exact ht1
  ·
    with_reducible refine Touches.ite ?_ ?_
    ·
      with_reducible exact ht1
    ·
      with_reducible refine Touches.step ?_ (State.selectBias_touches _ _ _ ?_)
      on_goal 2 => exact Part.within_trans rfl hw
      with_reducible exact ht1

theorem State.stepToRef_touches {ps : List Part} (s : State) (id : Nat) (hw : Part.within [.clk, .keys, .regs, .evt, .hif, .index, .objs, .lanes, .grps, .sw, .fab, .bpm, .fdb, .tcore, .tchans, .lnk, .ref, .free, .pll, .tic, .cal, .eng, .pair, .pwr, .boot, .rc .bpmDoubleFreeCnt, .rc .bpmForeignFreeCnt, .rc .bpmPoolEmptyCnt, .rc .bpmPromoteCnt, .rc .calAbortCnt, .rc .evtPinStat, .rc .evtSuppressed, .rc .hifEvtLost, .rc .hifRingAborted, .rc .pairMirOvf, .rc .pairPromoteCnt, .rc .perfTagDrop, .rc .pllCnt, .rc .portHoldFlush, .rc .pwrWakeSrc] ps = true) :
    Touches ps s (s.stepToRef id).1 := by
  unfold State.stepToRef
  dsimp only
  refine Touches.step (t := s.applyStep (-(s.cand id).off * (unitsPerFrac : Int))) ?_ ?_
  · exact State.applyStep_touches _ _ (Part.within_trans rfl hw)
  · exact State.returnStepped_touches _ _ (Part.within_trans rfl hw)

theorem State.stepInHoldover_touches {ps : List Part} s a1 (hw : Part.within [.clk, .evt, .hif, .tcore, .ref, .pair, .pwr, .rc .evtPinStat, .rc .evtSuppressed, .rc .hifEvtLost, .rc .pairMirOvf, .rc .pwrWakeSrc] ps = true) : Touches ps s (State.stepInHoldover s a1) := by
  unfold State.stepInHoldover
  try extract_lets -merge -underBinder t0 t1 t2 t3
  try clear_value t0
  refine Touches.haveS (t := t2) ?_ (fun ht2 => ?_)
  ·
    unfold t2
    with_reducible refine Touches.set_ref ?_ ?_
    on_goal 2 => exact Part.within_mem rfl hw
    with_reducible exact Touches.refl _ _
  try clear_value t2
  refine Touches.haveS (t := t3) ?_ (fun ht3 => ?_)
  ·
    unfold t3
    with_reducible refine Touches.step ?_ (State.setTstate_touches _ _ _ ?_)
    on_goal 2 => exact Part.within_trans rfl hw
    with_reducible exact ht2
  try clear_value t3
  with_reducible refine Touches.ite ?_ ?_
  ·
    with_reducible exact Touches.refl _ _
  ·
    with_reducible refine Touches.ite ?_ ?_
    ·
      with_reducible refine Touches.step ?_ (State.setTstate_touches _ _ _ ?_)
      on_goal 2 => exact Part.within_trans rfl hw
      with_reducible exact ht3
    ·
      with_reducible exact ht3

theorem State.stepNow_touches {ps : List Part} (s : State) (d : CmdDesc) (hw : Part.within [.clk, .keys, .regs, .evt, .hif, .index, .objs, .lanes, .grps, .sw, .fab, .bpm, .fdb, .tcore, .tchans, .lnk, .ref, .free, .pll, .tic, .cal, .eng, .pair, .pwr, .boot, .rc .bpmDoubleFreeCnt, .rc .bpmForeignFreeCnt, .rc .bpmPoolEmptyCnt, .rc .bpmPromoteCnt, .rc .calAbortCnt, .rc .evtPinStat, .rc .evtSuppressed, .rc .hifEvtLost, .rc .hifRingAborted, .rc .pairMirOvf, .rc .pairPromoteCnt, .rc .perfTagDrop, .rc .pllCnt, .rc .portHoldFlush, .rc .pwrWakeSrc] ps = true) :
    Touches ps s (s.stepNow d) := by
  unfold State.stepNow
  split
  · split
    · extract_lets r
      have hr : Touches ps s r.1 := State.stepToRef_touches _ _ (Part.within_trans rfl hw)
      exact hr.step (State.complete_touches _ _ _ _ _ _ _ (Part.within_trans rfl hw))
    · exact State.complete_touches _ _ _ _ _ _ _ (Part.within_trans rfl hw)
  · extract_lets x u t
    have ht : Touches ps s t := by
      unfold t
      exact (State.applyStep_touches _ _ (Part.within_trans rfl hw)).step (State.stepInHoldover_touches _ _ (Part.within_trans rfl hw))
    exact ht.step (State.complete_touches _ _ _ _ _ _ _ (Part.within_trans rfl hw))

theorem State.preempt_touches {ps : List Part} s a1 a2 (hw : Part.within [.fab] ps = true) : Touches ps s (State.preempt s a1 a2) := by
  unfold State.preempt
  split
  ·
    with_reducible exact Touches.refl _ _
  ·
    try extract_lets -merge -underBinder t0 t1
    refine Touches.haveS (t := t0) ?_ (fun ht0 => ?_)
    ·
      unfold t0
      with_reducible refine Touches.step ?_ (State.setCopy_touches _ _ _ ?_)
      on_goal 2 => exact Part.within_trans rfl hw
      with_reducible exact Touches.refl _ _
    try clear_value t0
    with_reducible refine Touches.ite ?_ ?_
    ·
      with_reducible refine Touches.step ?_ (State.setPort_touches _ _ _ ?_)
      on_goal 2 => exact Part.within_trans rfl hw
      with_reducible exact ht0
    ·
      with_reducible exact Touches.refl _ _

theorem State.gateChange_touches {ps : List Part} s a1 (hw : Part.within [.fab] ps = true) : Touches ps s (State.gateChange s a1) := by
  unfold State.gateChange
  try extract_lets -merge -underBinder t0
  try clear_value t0
  split
  ·
    with_reducible exact Touches.refl _ _
  ·
    try extract_lets -merge -underBinder t1 t2
    try clear_value t1
    with_reducible refine Touches.ite ?_ ?_
    ·
      with_reducible exact Touches.refl _ _
    ·
      with_reducible refine Touches.ite ?_ ?_
      ·
        with_reducible refine Touches.step ?_ (State.setPort_touches _ _ _ ?_)
        on_goal 2 => exact Part.within_trans rfl hw
        with_reducible exact Touches.refl _ _
      ·
        with_reducible refine Touches.step ?_ (State.preempt_touches _ _ _ ?_)
        on_goal 2 => exact Part.within_trans rfl hw
        with_reducible refine Touches.step ?_ (State.setPort_touches _ _ _ ?_)
        on_goal 2 => exact Part.within_trans rfl hw
        with_reducible exact Touches.refl _ _

theorem State.admDrain_touches {ps : List Part} (s : State) (n : Nat) (hw : Part.within [.keys, .regs, .evt, .hif, .index, .objs, .sw, .fab, .bpm, .fdb, .free, .eng, .pair, .boot, .rc .bpmDoubleFreeCnt, .rc .bpmForeignFreeCnt, .rc .bpmPoolEmptyCnt, .rc .bpmPromoteCnt, .rc .evtPinStat, .rc .evtSuppressed, .rc .hifEvtLost, .rc .hifRingAborted, .rc .pairMirOvf, .rc .perfTagDrop] ps = true) : Touches ps s (s.admDrain n) := by
  induction n generalizing s with
  | zero => exact Touches.refl _ _
  | succ n ih =>
    unfold State.admDrain
    refine Touches.ite (Touches.refl _ _) ?_
    split
    · exact Touches.refl _ _
    · refine Touches.step (Touches.step ?_ (State.admRun_touches _ _ (Part.within_trans rfl hw))) (ih _)
      exact Touches.set_sw (Touches.refl _ _) (Part.within_mem rfl hw)

theorem State.admGo_touches {ps : List Part} s (hw : Part.within [.keys, .regs, .evt, .hif, .index, .objs, .sw, .fab, .bpm, .fdb, .free, .eng, .pair, .boot, .rc .bpmDoubleFreeCnt, .rc .bpmForeignFreeCnt, .rc .bpmPoolEmptyCnt, .rc .bpmPromoteCnt, .rc .evtPinStat, .rc .evtSuppressed, .rc .hifEvtLost, .rc .hifRingAborted, .rc .pairMirOvf, .rc .perfTagDrop] ps = true) : Touches ps s (State.admGo s) := by
  unfold State.admGo
  with_reducible refine Touches.step ?_ (State.admDrain_touches _ _ ?_)
  on_goal 2 => exact Part.within_trans rfl hw
  with_reducible exact Touches.refl _ _

theorem State.calBegin_touches {ps : List Part} s a1 (hw : Part.within [.clk, .regs, .evt, .hif, .lanes, .sw, .fab, .bpm, .fdb, .tcore, .tchans, .lnk, .ref, .free, .pll, .tic, .cal, .eng, .pair, .pwr, .rc .bpmDoubleFreeCnt, .rc .bpmForeignFreeCnt, .rc .bpmPoolEmptyCnt, .rc .bpmPromoteCnt, .rc .calAbortCnt, .rc .evtPinStat, .rc .evtSuppressed, .rc .hifEvtLost, .rc .hifRingAborted, .rc .pairMirOvf, .rc .perfTagDrop, .rc .pllCnt, .rc .portHoldFlush, .rc .pwrWakeSrc] ps = true) : Touches ps s (State.calBegin s a1) := by
  unfold State.calBegin
  try extract_lets -merge -underBinder t0 t1 t2 t3 t4
  try clear_value t0
  try clear_value t1
  try clear_value t2
  refine Touches.haveS (t := t4) ?_ (fun ht4 => ?_)
  ·
    unfold t4
    refine Touches.mk hw ?_
    with_reducible exact Touches.refl _ _
  try clear_value t4
  with_reducible refine Touches.ite ?_ ?_
  ·
    with_reducible refine Touches.ite ?_ ?_
    ·
      with_reducible refine Touches.step ?_ (State.calFinish_touches _ _ _ _ ?_)
      on_goal 2 => exact Part.within_trans rfl hw
      with_reducible exact ht4
    ·
      with_reducible refine Touches.step ?_ (State.retrain_touches _ _ ?_)
      on_goal 2 => exact Part.within_trans rfl hw
      with_reducible exact ht4
  ·
    with_reducible exact ht4

theorem State.calMake_touches {ps : List Part} s a1 (hw : Part.within [.clk, .regs, .evt, .hif, .index, .objs, .lanes, .sw, .fab, .bpm, .fdb, .tcore, .tchans, .lnk, .ref, .free, .pll, .tic, .cal, .eng, .pair, .pwr, .boot, .rc .bpmDoubleFreeCnt, .rc .bpmForeignFreeCnt, .rc .bpmPoolEmptyCnt, .rc .bpmPromoteCnt, .rc .calAbortCnt, .rc .evtPinStat, .rc .evtSuppressed, .rc .hifEvtLost, .rc .hifRingAborted, .rc .pairMirOvf, .rc .perfTagDrop, .rc .pllCnt, .rc .portHoldFlush, .rc .pwrWakeSrc] ps = true) : Touches ps s (State.calMake s a1) := by
  unfold State.calMake
  try extract_lets -merge -underBinder t0 t1 t2
  try clear_value t0
  try clear_value t1
  with_reducible refine Touches.ite ?_ ?_
  ·
    with_reducible refine Touches.setEng ?_ ?_ ?_
    on_goal 2 => exact Part.within_mem rfl hw
    on_goal 2 => rfl
    with_reducible exact Touches.refl _ _
  ·
    split
    ·
      with_reducible refine Touches.step ?_ (State.complete_touches _ _ _ _ _ _ _ ?_)
      on_goal 2 => exact Part.within_trans rfl hw
      with_reducible exact Touches.refl _ _
    ·
      try extract_lets -merge -underBinder t3
      refine Touches.haveS (t := t3) ?_ (fun ht3 => ?_)
      ·
        unfold t3
        with_reducible refine Touches.step ?_ (State.calBegin_touches _ _ ?_)
        on_goal 2 => exact Part.within_trans rfl hw
        with_reducible refine Touches.step ?_ (State.addObj_touches _ _ _ _ ?_)
        on_goal 2 => exact Part.within_trans rfl hw
        with_reducible exact Touches.refl _ _
      try clear_value t3
      with_reducible refine Touches.ite ?_ ?_
      ·
        with_reducible refine Touches.step ?_ (State.complete_touches _ _ _ _ _ _ _ ?_)
        on_goal 2 => exact Part.within_trans rfl hw
        with_reducible exact Touches.refl _ _
      ·
        with_reducible refine Touches.ite ?_ ?_
        ·
          with_reducible refine Touches.step ?_ (State.complete_touches _ _ _ _ _ _ _ ?_)
          on_goal 2 => exact Part.within_trans rfl hw
          with_reducible exact Touches.refl _ _
        ·
          with_reducible refine Touches.step ?_ (State.complete_touches _ _ _ _ _ _ _ ?_)
          on_goal 2 => exact Part.within_trans rfl hw
          with_reducible refine Touches.set_free ?_ ?_
          on_goal 2 => exact Part.within_mem rfl hw
          with_reducible exact ht3

theorem State.calCreate_touches {ps : List Part} s a1 (hw : Part.within [.clk, .keys, .regs, .evt, .hif, .index, .objs, .lanes, .sw, .fab, .bpm, .fdb, .tcore, .tchans, .lnk, .ref, .free, .pll, .tic, .cal, .eng, .pair, .pwr, .boot, .rc .bpmDoubleFreeCnt, .rc .bpmForeignFreeCnt, .rc .bpmPoolEmptyCnt, .rc .bpmPromoteCnt, .rc .calAbortCnt, .rc .evtPinStat, .rc .evtSuppressed, .rc .hifEvtLost, .rc .hifRingAborted, .rc .pairMirOvf, .rc .perfTagDrop, .rc .pllCnt, .rc .portHoldFlush, .rc .pwrWakeSrc] ps = true) : Touches ps s (State.calCreate s a1) := by
  unfold State.calCreate
  with_reducible refine Touches.step ?_ (State.runCmd_touches _ _ _ _ _ ?_ (fun _ => ?_))
  on_goal 2 => exact Part.within_trans rfl hw
  ·
    with_reducible exact Touches.refl _ _
  ·
    with_reducible refine Touches.step ?_ (State.calMake_touches _ _ ?_)
    on_goal 2 => exact Part.within_trans rfl hw
    with_reducible exact Touches.refl _ _

theorem State.setRole_touches {ps : List Part} s a1 a2 (hw : Part.within [.clk, .evt, .hif, .tcore, .tchans, .lnk, .ref, .pll, .tic, .cal, .eng, .pair, .pwr, .rc .calAbortCnt, .rc .evtPinStat, .rc .evtSuppressed, .rc .hifEvtLost, .rc .pairMirOvf, .rc .pllCnt, .rc .pwrWakeSrc] ps = true) : Touches ps s (State.setRole s a1 a2) := by
  unfold State.setRole
  try extract_lets -merge -underBinder t0 t1 t2 t3 t4
  try clear_value t0
  refine Touches.haveS (t := t1) ?_ (fun ht1 => ?_)
  ·
    unfold t1
    with_reducible refine Touches.ite ?_ ?_
    ·
      with_reducible exact Touches.refl _ _
    ·
      with_reducible refine Touches.step ?_ (State.chanStop_touches _ _ ?_)
      on_goal 2 => exact Part.within_trans rfl hw
      with_reducible exact Touches.refl _ _
  try clear_value t1
  refine Touches.haveS (t := t3) ?_ (fun ht3 => ?_)
  ·
    unfold t3
    with_reducible refine Touches.step ?_ (State.setTchan_touches _ _ _ ?_)
    on_goal 2 => exact Part.within_trans rfl hw
    with_reducible exact ht1
  try clear_value t3
  refine Touches.haveS (t := t4) ?_ (fun ht4 => ?_)
  ·
    unfold t4
    with_reducible refine Touches.ite ?_ ?_
    ·
      with_reducible exact ht3
    ·
      with_reducible refine Touches.step ?_ (State.setChanSt_touches _ _ _ ?_)
      on_goal 2 => exact Part.within_trans rfl hw
      with_reducible exact ht3
  try clear_value t4
  with_reducible refine Touches.ite ?_ ?_
  ·
    with_reducible exact Touches.refl _ _
  ·
    with_reducible refine Touches.step ?_ (State.chansChanged_touches _ _ ?_)
    on_goal 2 => exact Part.within_trans rfl hw
    with_reducible exact ht4

theorem State.rolesEval_touches {ps : List Part} s (hw : Part.within [.clk, .evt, .hif, .tcore, .tchans, .lnk, .ref, .pll, .tic, .cal, .eng, .pair, .pwr, .rc .calAbortCnt, .rc .evtPinStat, .rc .evtSuppressed, .rc .hifEvtLost, .rc .pairMirOvf, .rc .pllCnt, .rc .pwrWakeSrc] ps = true) : Touches ps s (State.rolesEval s) := by
  unfold State.rolesEval
  with_reducible refine Touches.ite ?_ ?_
  ·
    with_reducible exact Touches.refl _ _
  ·
    with_reducible refine Touches.foldl (fun _ _ => ?_) _ ?_
    ·
      try extract_lets -merge -underBinder t0
      try clear_value t0
      with_reducible refine Touches.step ?_ (State.setRole_touches _ _ _ ?_)
      on_goal 2 => exact Part.within_trans rfl hw
      with_reducible exact Touches.refl _ _
    ·
      with_reducible exact Touches.refl _ _

theorem State.gnssLose_touches {ps : List Part} s a1 (hw : Part.within [.evt, .hif, .gnss, .rc .evtPinStat, .rc .evtSuppressed, .rc .gnssLossCnt, .rc .hifEvtLost] ps = true) : Touches ps s (State.gnssLose s a1) := by
  unfold State.gnssLose
  with_reducible refine Touches.ite ?_ ?_
  ·
    with_reducible exact Touches.refl _ _
  ·
    with_reducible refine Touches.step ?_ (State.goGnssCh_touches _ _ _ ?_)
    on_goal 2 => exact Part.within_trans rfl hw
    with_reducible exact Touches.refl _ _

theorem State.gnssBandFault_touches {ps : List Part} s a1 a2 a3 (hw : Part.within [.evt, .hif, .gnss, .rc .evtPinStat, .rc .evtSuppressed, .rc .gnssLossCnt, .rc .gnssSampleErr, .rc .hifEvtLost] ps = true) : Touches ps s (State.gnssBandFault s a1 a2 a3) := by
  unfold State.gnssBandFault
  with_reducible refine Touches.ite ?_ ?_
  ·
    with_reducible exact Touches.refl _ _
  ·
    with_reducible refine Touches.foldl (fun _ _ => ?_) _ ?_
    ·
      with_reducible refine Touches.step ?_ (State.gnssLose_touches _ _ ?_)
      on_goal 2 => exact Part.within_trans rfl hw
      with_reducible exact Touches.refl _ _
    ·
      with_reducible refine Touches.step ?_ (State.raiseIf_touches _ _ _ _ _ _ ?_)
      on_goal 2 => exact Part.within_trans rfl hw
      with_reducible refine Touches.step ?_ (State.bump_touches _ _ _ _ ?_)
      on_goal 2 => exact Part.within_trans rfl hw
      with_reducible exact Touches.refl _ _

theorem State.gnssSampleCheck_touches {ps : List Part} s a1 a2 a3 a4 (hw : Part.within [.evt, .hif, .gnss, .rc .evtPinStat, .rc .evtSuppressed, .rc .gnssLossCnt, .rc .gnssSampleErr, .rc .hifEvtLost] ps = true) : Touches ps s (State.gnssSampleCheck s a1 a2 a3 a4) := by
  unfold State.gnssSampleCheck
  try extract_lets -merge -underBinder t0 t1 t2 t3 t4 t5
  try clear_value t0
  try clear_value t1
  try clear_value t2
  try clear_value t3
  refine Touches.haveS (t := t5) ?_ (fun ht5 => ?_)
  ·
    unfold t5
    with_reducible refine Touches.set_gnss ?_ ?_
    on_goal 2 => exact Part.within_mem rfl hw
    with_reducible exact Touches.refl _ _
  try clear_value t5
  with_reducible refine Touches.ite ?_ ?_
  ·
    with_reducible exact Touches.refl _ _
  ·
    with_reducible refine Touches.step ?_ (State.gnssBandFault_touches _ _ _ _ ?_)
    on_goal 2 => exact Part.within_trans rfl hw
    with_reducible refine Touches.step ?_ (State.gnssBandFault_touches _ _ _ _ ?_)
    on_goal 2 => exact Part.within_trans rfl hw
    with_reducible exact ht5

theorem State.auditLeak_touches {ps : List Part} s a1 a2 (hw : Part.within [.evt, .hif, .sw, .bpm, .rc .bpmLeakCnt, .rc .evtPinStat, .rc .evtSuppressed, .rc .hifEvtLost] ps = true) : Touches ps s (State.auditLeak s a1 a2) := by
  unfold State.auditLeak
  try extract_lets -merge -underBinder t0 t1 t2 t3 t4 t5 t6
  try clear_value t0
  refine Touches.haveS (t := t1) ?_ (fun ht1 => ?_)
  ·
    unfold t1
    with_reducible refine Touches.step ?_ (State.raise_touches _ _ _ _ _ ?_)
    on_goal 2 => exact Part.within_trans rfl hw
    with_reducible refine Touches.step ?_ (State.bump_touches _ _ _ _ ?_)
    on_goal 2 => exact Part.within_trans rfl hw
    with_reducible exact Touches.refl _ _
  try clear_value t1
  refine Touches.haveS (t := t3) ?_ (fun ht3 => ?_)
  ·
    unfold t3
    with_reducible refine Touches.set_bpm ?_ ?_
    on_goal 2 => exact Part.within_mem rfl hw
    with_reducible exact ht1
  try clear_value t3
  refine Touches.haveS (t := t4) ?_ (fun ht4 => ?_)
  ·
    unfold t4
    with_reducible refine Touches.step ?_ (State.returnBuf_touches _ _ _ ?_)
    on_goal 2 => exact Part.within_trans rfl hw
    with_reducible exact ht3
  try clear_value t4
  with_reducible refine Touches.ite ?_ ?_
  ·
    with_reducible refine Touches.ite ?_ ?_
    ·
      with_reducible refine Touches.set_bpm ?_ ?_
      on_goal 2 => exact Part.within_mem rfl hw
      with_reducible exact ht4
    ·
      with_reducible exact ht3
  ·
    with_reducible refine Touches.set_bpm ?_ ?_
    on_goal 2 => exact Part.within_mem rfl hw
    with_reducible exact Touches.refl _ _

theorem State.ltxLoad_touches {ps : List Part} s (hw : Part.within [.pll] ps = true) : Touches ps s (State.ltxLoad s) := by
  unfold State.ltxLoad
  try extract_lets -merge -underBinder t0
  with_reducible refine Touches.set_pll ?_ ?_
  on_goal 2 => exact Part.within_mem rfl hw
  with_reducible exact Touches.refl _ _

theorem State.pllTReady_touches {ps : List Part} s (hw : Part.within [.clk, .ready, .evt, .hif, .tcore, .tchans, .ref, .pll, .gnss, .eng, .pair, .pwr, .rc .evtPinStat, .rc .evtSuppressed, .rc .hifEvtLost, .rc .pairMirOvf, .rc .pllCnt, .rc .pwrWakeSrc] ps = true) : Touches ps s (State.pllTReady s) := by
  unfold State.pllTReady
  try extract_lets -merge -underBinder t0 t1 t2
  refine Touches.haveS (t := t0) ?_ (fun ht0 => ?_)
  ·
    unfold t0
    with_reducible refine Touches.step ?_ (State.setReady_touches _ _ _ ?_)
    on_goal 2 => exact Part.within_trans rfl hw
    with_reducible refine Touches.step ?_ (State.setReady_touches _ _ _ ?_)
    on_goal 2 => exact Part.within_trans rfl hw
    with_reducible refine Touches.step ?_ (State.setReady_touches _ _ _ ?_)
    on_goal 2 => exact Part.within_trans rfl hw
    with_reducible exact Touches.refl _ _
  try clear_value t0
  refine Touches.haveS (t := t1) ?_ (fun ht1 => ?_)
  ·
    unfold t1
    with_reducible refine Touches.foldl (fun _ _ => ?_) _ ?_
    ·
      with_reducible refine Touches.step ?_ (State.candEnable_touches _ _ ?_)
      on_goal 2 => exact Part.within_trans rfl hw
      with_reducible exact Touches.refl _ _
    ·
      with_reducible refine Touches.step ?_ (State.setReady_touches _ _ _ ?_)
      on_goal 2 => exact Part.within_trans rfl hw
      with_reducible refine Touches.step ?_ (State.setReady_touches _ _ _ ?_)
      on_goal 2 => exact Part.within_trans rfl hw
      with_reducible exact ht0
  try clear_value t1
  with_reducible refine Touches.ite ?_ ?_
  ·
    with_reducible refine Touches.step ?_ (State.setReady_touches _ _ _ ?_)
    on_goal 2 => exact Part.within_trans rfl hw
    with_reducible refine Touches.set_gnss ?_ ?_
    on_goal 2 => exact Part.within_mem rfl hw
    with_reducible exact ht1
  ·
    with_reducible exact ht1

theorem State.pllLock_touches {ps : List Part} s a1 a2 (hw : Part.within [.clk, .ready, .evt, .hif, .tcore, .tchans, .ref, .pll, .gnss, .eng, .pair, .pwr, .rc .evtPinStat, .rc .evtSuppressed, .rc .hifEvtLost, .rc .pairMirOvf, .rc .pllCnt, .rc .pwrWakeSrc] ps = true) : Touches ps s (State.pllLock s a1 a2) := by
  unfold State.pllLock
  try extract_lets -merge -underBinder t0 t1 t2
  try clear_value t0
  refine Touches.haveS (t := t1) ?_ (fun ht1 => ?_)
  ·
    unfold t1
    with_reducible refine Touches.step ?_ (State.goPll_touches _ _ _ ?_)
    on_goal 2 => exact Part.within_trans rfl hw
    with_reducible refine Touches.step ?_ (State.setPll_touches _ _ _ ?_)
    on_goal 2 => exact Part.within_trans rfl hw
    with_reducible exact Touches.refl _ _
  try clear_value t1
  refine Touches.haveS (t := t2) ?_ (fun ht2 => ?_)
  ·
    unfold t2
    with_reducible refine Touches.ite ?_ ?_
    ·
      with_reducible refine Touches.step ?_ (State.ltxLoad_touches _ ?_)
      on_goal 2 => exact Part.within_trans rfl hw
      with_reducible exact ht1
    ·
      with_reducible exact ht1
  try clear_value t2
  with_reducible refine Touches.ite ?_ ?_
  ·
    with_reducible refine Touches.ite ?_ ?_
    ·
      with_reducible refine Touches.step ?_ (State.pllTReady_touches _ ?_)
      on_goal 2 => exact Part.within_trans rfl hw
      with_reducible exact ht2
    ·
      with_reducible exact ht2
  ·
    with_reducible refine Touches.ite ?_ ?_
    ·
      with_reducible refine Touches.step ?_ (State.setPll_touches _ _ _ ?_)
      on_goal 2 => exact Part.within_trans rfl hw
      with_reducible exact Touches.refl _ _
    ·
      with_reducible exact Touches.refl _ _

theorem State.laneCounts_touches {ps : List Part} s a1 a2 a3 a4 a5 a6 (hw : Part.within [.lanes, .rc .laneFecCorr, .rc .laneFecUncorr, .rc .laneHdrErr] ps = true) : Touches ps s (State.laneCounts s a1 a2 a3 a4 a5 a6) := by
  unfold State.laneCounts
  try extract_lets -merge -underBinder t0 t1
  try clear_value t0
  refine Touches.haveS (t := t1) ?_ (fun ht1 => ?_)
  ·
    unfold t1
    with_reducible refine Touches.step ?_ (State.bump_touches _ _ _ _ ?_)
    on_goal 2 => exact Part.within_trans rfl hw
    with_reducible refine Touches.step ?_ (State.bump_touches _ _ _ _ ?_)
    on_goal 2 => exact Part.within_trans rfl hw
    with_reducible refine Touches.step ?_ (State.bump_touches _ _ _ _ ?_)
    on_goal 2 => exact Part.within_trans rfl hw
    with_reducible exact Touches.refl _ _
  try clear_value t1
  with_reducible refine Touches.step ?_ (State.setLane_touches _ _ _ ?_)
  on_goal 2 => exact Part.within_trans rfl hw
  with_reducible exact ht1

theorem State.laneRefuseStep_touches {ps : List Part} s a1 (hw : Part.within [.evt, .hif, .lanes, .rc .evtPinStat, .rc .evtSuppressed, .rc .hifEvtLost, .rc .laneAdptStat] ps = true) : Touches ps s (State.laneRefuseStep s a1) := by
  unfold State.laneRefuseStep
  try extract_lets -merge -underBinder t0 t1
  try clear_value t0
  try clear_value t1
  with_reducible refine Touches.step ?_ (State.raiseIf_touches _ _ _ _ _ _ ?_)
  on_goal 2 => exact Part.within_trans rfl hw
  with_reducible refine Touches.step ?_ (State.setLane_touches _ _ _ ?_)
  on_goal 2 => exact Part.within_trans rfl hw
  with_reducible refine Touches.step ?_ (State.rcSet_touches _ _ _ _ ?_)
  on_goal 2 => exact Part.within_trans rfl hw
  with_reducible exact Touches.refl _ _

theorem State.adaptWindow_touches {ps : List Part} s a1 a2 a3 a4 a5 a6 a7 a8 a9 (hw : Part.within [.evt, .hif, .lanes, .tic, .cal, .rc .calAbortCnt, .rc .evtPinStat, .rc .evtSuppressed, .rc .hifEvtLost, .rc .laneAdptStat, .rc .laneFecCorr, .rc .laneFecUncorr, .rc .laneHdrErr] ps = true) : Touches ps s (State.adaptWindow s a1 a2 a3 a4 a5 a6 a7 a8 a9) := by
  unfold State.adaptWindow
  try extract_lets -merge -underBinder t0 t1 t2 t3 t4 t5
  refine Touches.haveS (t := t0) ?_ (fun ht0 => ?_)
  ·
    unfold t0
    with_reducible refine Touches.ite ?_ ?_
    ·
      with_reducible refine Touches.step ?_ (State.laneCounts_touches _ _ _ _ _ _ _ ?_)
      on_goal 2 => exact Part.within_trans rfl hw
      with_reducible exact Touches.refl _ _
    ·
      with_reducible exact Touches.refl _ _
  try clear_value t0
  refine Touches.haveS (t := t2) ?_ (fun ht2 => ?_)
  ·
    unfold t2
    with_reducible refine Touches.step ?_ (State.setLane_touches _ _ _ ?_)
    on_goal 2 => exact Part.within_trans rfl hw
    with_reducible exact ht0
  try clear_value t2
  refine Touches.haveS (t := t3) ?_ (fun ht3 => ?_)
  ·
    unfold t3
    with_reducible refine Touches.ite ?_ ?_
    ·
      with_reducible refine Touches.step ?_ (State.calLose_touches _ _ ?_)
      on_goal 2 => exact Part.within_trans rfl hw
      with_reducible exact ht2
    ·
      with_reducible exact ht2
  try clear_value t3
  try clear_value t4
  try clear_value t5
  with_reducible refine Touches.ite ?_ ?_
  ·
    with_reducible exact Touches.refl _ _
  ·
    with_reducible refine Touches.ite ?_ ?_
    ·
      with_reducible exact ht3
    ·
      with_reducible refine Touches.ite ?_ ?_
      ·
        with_reducible refine Touches.step ?_ (State.laneRefuseStep_touches _ _ ?_)
        on_goal 2 => exact Part.within_trans rfl hw
        with_reducible exact ht3
      ·
        with_reducible refine Touches.ite ?_ ?_
        ·
          with_reducible exact ht3
        ·
          with_reducible refine Touches.step ?_ (State.setLane_touches _ _ _ ?_)
          on_goal 2 => exact Part.within_trans rfl hw
          with_reducible exact ht3

theorem State.qualified_touches {ps : List Part} s a1 (hw : Part.within [.clk, .evt, .hif, .tcore, .tchans, .ref, .pll, .eng, .pair, .pwr, .rc .evtPinStat, .rc .evtSuppressed, .rc .hifEvtLost, .rc .pairMirOvf, .rc .pllCnt, .rc .pwrWakeSrc] ps = true) : Touches ps s (State.qualified s a1) := by
  unfold State.qualified
  try extract_lets -merge -underBinder t0
  with_reducible refine Touches.ite ?_ ?_
  ·
    with_reducible refine Touches.set_ref ?_ ?_
    on_goal 2 => exact Part.within_mem rfl hw
    with_reducible exact Touches.refl _ _
  ·
    with_reducible refine Touches.step ?_ (State.reselect_touches _ ?_)
    on_goal 2 => exact Part.within_trans rfl hw
    with_reducible exact Touches.refl _ _

theorem State.tchanQualify_touches {ps : List Part} s a1 (hw : Part.within [.clk, .evt, .hif, .tcore, .tchans, .ref, .pll, .eng, .pair, .pwr, .rc .evtPinStat, .rc .evtSuppressed, .rc .hifEvtLost, .rc .pairMirOvf, .rc .pllCnt, .rc .pwrWakeSrc] ps = true) : Touches ps s (State.tchanQualify s a1) := by
  unfold State.tchanQualify
  try extract_lets -merge -underBinder t0 t1 t2 t3 t4 t5
  try clear_value t0
  try clear_value t1
  try clear_value t2
  refine Touches.haveS (t := t3) ?_ (fun ht3 => ?_)
  ·
    unfold t3
    with_reducible refine Touches.step ?_ (State.chanCand_touches _ _ ?_)
    on_goal 2 => exact Part.within_trans rfl hw
    with_reducible refine Touches.step ?_ (State.setChanSt_touches _ _ _ ?_)
    on_goal 2 => exact Part.within_trans rfl hw
    with_reducible exact Touches.refl _ _
  try clear_value t3
  refine Touches.haveS (t := t4) ?_ (fun ht4 => ?_)
  ·
    unfold t4
    with_reducible refine Touches.step ?_ (State.markSel_touches _ _ _ ?_)
    on_goal 2 => exact Part.within_trans rfl hw
    with_reducible exact ht3
  try clear_value t4
  refine Touches.haveS (t := t5) ?_ (fun ht5 => ?_)
  ·
    unfold t5
    with_reducible refine Touches.ite ?_ ?_
    ·
      with_reducible refine Touches.step ?_ (State.startThaw_touches _ ?_)
      on_goal 2 => exact Part.within_trans rfl hw
      with_reducible exact ht4
    ·
      with_reducible refine Touches.step ?_ (State.setStepPending_touches _ _ _ ?_)
      on_goal 2 => exact Part.within_trans rfl hw
      with_reducible exact ht4
  try clear_value t5
  with_reducible refine Touches.ite ?_ ?_
  ·
    with_reducible exact Touches.refl _ _
  ·
    with_reducible refine Touches.ite ?_ ?_
    ·
      with_reducible refine Touches.step ?_ (State.updateClass_touches _ ?_)
      on_goal 2 => exact Part.within_trans rfl hw
      with_reducible refine Touches.step ?_ (State.reselect_touches _ ?_)
      on_goal 2 => exact Part.within_trans rfl hw
      with_reducible exact ht5
    ·
      with_reducible refine Touches.ite ?_ ?_
      ·
        with_reducible refine Touches.step ?_ (State.qualified_touches _ _ ?_)
        on_goal 2 => exact Part.within_trans rfl hw
        with_reducible exact ht3
      ·
        with_reducible refine Touches.step ?_ (State.reselect_touches _ ?_)
        on_goal 2 => exact Part.within_trans rfl hw
        with_reducible exact ht3

theorem State.rxWrite_touches {ps : List Part} s a1 a2 a3 a4 (hw : Part.within [.hif, .rc .hifRingAborted] ps = true) : Touches ps s (State.rxWrite s a1 a2 a3 a4) := by
  unfold State.rxWrite
  try extract_lets -merge -underBinder t0 t1 t2
  try clear_value t0
  try clear_value t1
  try clear_value t2
  with_reducible refine Touches.foldl (fun _ _ => ?_) _ ?_
  ·
    try extract_lets -merge -underBinder t3 t4
    try clear_value t3
    try clear_value t4
    with_reducible refine Touches.step ?_ (State.rxCpl_touches _ _ _ _ _ _ _ _ _ _ _ _ ?_)
    on_goal 2 => exact Part.within_trans rfl hw
    with_reducible exact Touches.refl _ _
  ·
    with_reducible exact Touches.refl _ _

theorem State.vscaleTaken_touches {ps : List Part} s (hw : Part.within [.sw] ps = true) : Touches ps s (State.vscaleTaken s) := by
  unfold State.vscaleTaken
  try extract_lets -merge -underBinder t0
  with_reducible refine Touches.set_sw ?_ ?_
  on_goal 2 => exact Part.within_mem rfl hw
  with_reducible exact Touches.refl _ _

end Sys2Proof.Machine
end

