-- ==== Sys2Proof/Laws/Frames4.lean ====
section
/-! SUPPORT. What each operation of the machine may change, part 4 of 6: one lemma for one operation, in the order in which the
operations build on one another.  Every other part of the state is the same after it. -/

set_option Elab.async false

namespace Sys2Proof.Machine

theorem State.chanRank_touches {ps : List Part} s a1 (hw : Part.within [.clk, .evt, .hif, .tcore, .tchans, .ref, .pll, .eng, .pair, .pwr, .rc .evtPinStat, .rc .evtSuppressed, .rc .hifEvtLost, .rc .pairMirOvf, .rc .pllCnt, .rc .pwrWakeSrc] ps = true) : Touches ps s (State.chanRank s a1) := by
  unfold State.chanRank
  try extract_lets -merge -underBinder t0 t1 t2 t3 t4
  try clear_value t0
  refine Touches.haveS (t := t2) ?_ (fun ht2 => ?_)
  ·
    unfold t2
    with_reducible refine Touches.step ?_ (State.setTchan_touches _ _ _ ?_)
    on_goal 2 => exact Part.within_trans rfl hw
    with_reducible exact Touches.refl _ _
  try clear_value t2
  try clear_value t3
  refine Touches.haveS (t := t4) ?_ (fun ht4 => ?_)
  ·
    unfold t4
    with_reducible refine Touches.step ?_ (State.chanCand_touches _ _ ?_)
    on_goal 2 => exact Part.within_trans rfl hw
    with_reducible exact ht2
  try clear_value t4
  with_reducible refine Touches.ite ?_ ?_
  ·
    with_reducible exact Touches.refl _ _
  ·
    with_reducible refine Touches.ite ?_ ?_
    ·
      with_reducible refine Touches.ite ?_ ?_
      ·
        with_reducible refine Touches.step ?_ (State.updateClass_touches _ ?_)
        on_goal 2 => exact Part.within_trans rfl hw
        with_reducible refine Touches.step ?_ (State.reselect_touches _ ?_)
        on_goal 2 => exact Part.within_trans rfl hw
        with_reducible exact ht2
      ·
        with_reducible refine Touches.step ?_ (State.candFail_touches _ _ _ ?_)
        on_goal 2 => exact Part.within_trans rfl hw
        with_reducible exact ht2
    ·
      with_reducible refine Touches.ite ?_ ?_
      ·
        with_reducible refine Touches.step ?_ (State.qualified_touches _ _ ?_)
        on_goal 2 => exact Part.within_trans rfl hw
        with_reducible exact ht4
      ·
        with_reducible exact ht4

theorem State.pairDrainQueue_touches {ps : List Part} s (hw : Part.within [.pair] ps = true) : Touches ps s (State.pairDrainQueue s) := by
  unfold State.pairDrainQueue
  try extract_lets -merge -underBinder t0
  with_reducible refine Touches.foldl (fun _ _ => ?_) _ ?_
  ·
    with_reducible refine Touches.step ?_ (State.omdSend_touches _ _ ?_)
    on_goal 2 => exact Part.within_trans rfl hw
    with_reducible exact Touches.refl _ _
  ·
    with_reducible refine Touches.set_pair ?_ ?_
    on_goal 2 => exact Part.within_mem rfl hw
    with_reducible exact Touches.refl _ _

theorem State.resyncSend_touches {ps : List Part} s (hw : Part.within [.pair] ps = true) : Touches ps s (State.resyncSend s) := by
  unfold State.resyncSend
  try extract_lets -merge -underBinder t0 t1 t2 t3
  try clear_value t0
  try clear_value t1
  try clear_value t2
  with_reducible refine Touches.step ?_ (State.omdSend_touches _ _ ?_)
  on_goal 2 => exact Part.within_trans rfl hw
  with_reducible refine Touches.step ?_ (State.omdSend_touches _ _ ?_)
  on_goal 2 => exact Part.within_trans rfl hw
  with_reducible refine Touches.step ?_ (State.omdSend_touches _ _ ?_)
  on_goal 2 => exact Part.within_trans rfl hw
  with_reducible refine Touches.set_pair ?_ ?_
  on_goal 2 => exact Part.within_mem rfl hw
  with_reducible exact Touches.refl _ _

theorem State.taskGained_touches {ps : List Part} s a1 (hw : Part.within [.clk, .keys, .regs, .evt, .hif, .index, .objs, .lanes, .sw, .fab, .bpm, .fdb, .tcore, .tchans, .lnk, .ref, .free, .pll, .tic, .cal, .eng, .pair, .pwr, .boot, .rc .bpmDoubleFreeCnt, .rc .bpmForeignFreeCnt, .rc .bpmPoolEmptyCnt, .rc .bpmPromoteCnt, .rc .calAbortCnt, .rc .evtPinStat, .rc .evtSuppressed, .rc .hifEvtLost, .rc .hifRingAborted, .rc .pairMirOvf, .rc .perfTagDrop, .rc .pllCnt, .rc .portHoldFlush, .rc .pwrWakeSrc] ps = true) : Touches ps s (State.taskGained s a1) := by
  unfold State.taskGained
  split
  ·
    with_reducible refine Touches.step ?_ (State.admGo_touches _ ?_)
    on_goal 2 => exact Part.within_trans rfl hw
    with_reducible exact Touches.refl _ _
  ·
    with_reducible refine Touches.step ?_ (State.vscaleTaken_touches _ ?_)
    on_goal 2 => exact Part.within_trans rfl hw
    with_reducible exact Touches.refl _ _
  ·
    with_reducible refine Touches.foldl (fun _ _ => ?_) _ ?_
    ·
      with_reducible refine Touches.step ?_ (State.chanRank_touches _ _ ?_)
      on_goal 2 => exact Part.within_trans rfl hw
      with_reducible exact Touches.refl _ _
    ·
      with_reducible exact Touches.refl _ _
  ·
    with_reducible refine Touches.step ?_ (State.rolesEval_touches _ ?_)
    on_goal 2 => exact Part.within_trans rfl hw
    with_reducible exact Touches.refl _ _
  ·
    try extract_lets -merge -underBinder t0
    with_reducible refine Touches.foldl (fun _ _ => ?_) _ ?_
    ·
      with_reducible refine Touches.step ?_ (State.calMake_touches _ _ ?_)
      on_goal 2 => exact Part.within_trans rfl hw
      with_reducible exact Touches.refl _ _
    ·
      with_reducible refine Touches.setEng ?_ ?_ ?_
      on_goal 2 => exact Part.within_mem rfl hw
      on_goal 2 => rfl
      with_reducible exact Touches.refl _ _
  ·
    with_reducible refine Touches.ite ?_ ?_
    ·
      with_reducible refine Touches.step ?_ (State.pairDrainQueue_touches _ ?_)
      on_goal 2 => exact Part.within_trans rfl hw
      with_reducible exact Touches.refl _ _
    ·
      with_reducible refine Touches.ite ?_ ?_
      ·
        with_reducible refine Touches.step ?_ (State.resyncSend_touches _ ?_)
        on_goal 2 => exact Part.within_trans rfl hw
        with_reducible exact Touches.refl _ _
      ·
        with_reducible refine Touches.ite ?_ ?_
        ·
          with_reducible refine Touches.step ?_ (State.resyncStart_touches _ ?_)
          on_goal 2 => exact Part.within_trans rfl hw
          with_reducible exact Touches.refl _ _
        ·
          with_reducible exact Touches.refl _ _
  ·
    with_reducible exact Touches.refl _ _

theorem State.engEnters_touches {ps : List Part} s a1 (hw : Part.within [.clk, .ready, .keys, .regs, .evt, .hif, .index, .objs, .lanes, .sw, .fab, .bpm, .fdb, .tcore, .tchans, .lnk, .ref, .free, .pll, .tic, .cal, .eng, .pair, .pwr, .boot, .rc .bpmDoubleFreeCnt, .rc .bpmForeignFreeCnt, .rc .bpmPoolEmptyCnt, .rc .bpmPromoteCnt, .rc .calAbortCnt, .rc .evtPinStat, .rc .evtSuppressed, .rc .hifEvtLost, .rc .hifRingAborted, .rc .pairMirOvf, .rc .perfTagDrop, .rc .pllCnt, .rc .portHoldFlush, .rc .pwrWakeSrc] ps = true) : Touches ps s (State.engEnters s a1) := by
  unfold State.engEnters
  with_reducible refine Touches.step ?_ (State.engReady_touches _ ?_)
  on_goal 2 => exact Part.within_trans rfl hw
  with_reducible refine Touches.foldl (fun _ _ => ?_) _ ?_
  ·
    try extract_lets -merge -underBinder t0
    try clear_value t0
    split
    ·
      with_reducible refine Touches.step ?_ (State.taskGained_touches _ _ ?_)
      on_goal 2 => exact Part.within_trans rfl hw
      with_reducible refine Touches.step ?_ (State.setTask_touches _ _ _ ?_)
      on_goal 2 => exact Part.within_trans rfl hw
      with_reducible exact Touches.refl _ _
    ·
      with_reducible refine Touches.ite ?_ ?_
      ·
        with_reducible refine Touches.step ?_ (State.taskMove_touches _ _ _ _ ?_)
        on_goal 2 => exact Part.within_trans rfl hw
        with_reducible exact Touches.refl _ _
      ·
        with_reducible refine Touches.ite ?_ ?_
        ·
          with_reducible refine Touches.step ?_ (State.setTask_touches _ _ _ ?_)
          on_goal 2 => exact Part.within_trans rfl hw
          with_reducible exact Touches.refl _ _
        ·
          with_reducible exact Touches.refl _ _
    ·
      with_reducible exact Touches.refl _ _
  ·
    with_reducible exact Touches.refl _ _

theorem State.engReplayDone_touches {ps : List Part} s a1 a2 (hw : Part.within [.clk, .ready, .keys, .regs, .evt, .hif, .index, .objs, .lanes, .sw, .fab, .bpm, .fdb, .tcore, .tchans, .lnk, .ref, .free, .pll, .tic, .cal, .eng, .pair, .pwr, .boot, .rc .bpmDoubleFreeCnt, .rc .bpmForeignFreeCnt, .rc .bpmPoolEmptyCnt, .rc .bpmPromoteCnt, .rc .calAbortCnt, .rc .evtPinStat, .rc .evtSuppressed, .rc .hifEvtLost, .rc .hifRingAborted, .rc .pairMirOvf, .rc .perfTagDrop, .rc .pllCnt, .rc .portHoldFlush, .rc .pwrWakeSrc] ps = true) : Touches ps s (State.engReplayDone s a1 a2) := by
  unfold State.engReplayDone
  try extract_lets -merge -underBinder t0 t1
  try clear_value t0
  refine Touches.haveS (t := t1) ?_ (fun ht1 => ?_)
  ·
    unfold t1
    with_reducible refine Touches.step ?_ (State.engEnters_touches _ _ ?_)
    on_goal 2 => exact Part.within_trans rfl hw
    with_reducible refine Touches.step ?_ (State.goEng_touches _ _ _ ?_)
    on_goal 2 => exact Part.within_trans rfl hw
    with_reducible refine Touches.step ?_ (State.setEng_touches _ _ _ ?_)
    on_goal 2 => exact Part.within_trans rfl hw
    with_reducible exact Touches.refl _ _
  try clear_value t1
  with_reducible refine Touches.ite ?_ ?_
  ·
    with_reducible exact Touches.refl _ _
  ·
    split
    ·
      with_reducible refine Touches.step ?_ (State.complete_touches _ _ _ _ _ _ _ ?_)
      on_goal 2 => exact Part.within_trans rfl hw
      with_reducible exact ht1
    ·
      with_reducible exact ht1

theorem State.tchanResume_touches {ps : List Part} s a1 (hw : Part.within [.evt, .hif, .tchans, .lnk, .tic, .cal, .rc .calAbortCnt, .rc .evtPinStat, .rc .evtSuppressed, .rc .hifEvtLost] ps = true) : Touches ps s (State.tchanResume s a1) := by
  unfold State.tchanResume
  try extract_lets -merge -underBinder t0
  refine Touches.haveS (t := t0) ?_ (fun ht0 => ?_)
  ·
    unfold t0
    with_reducible refine Touches.ite ?_ ?_
    ·
      with_reducible exact Touches.refl _ _
    ·
      with_reducible refine Touches.step ?_ (State.setChanSt_touches _ _ _ ?_)
      on_goal 2 => exact Part.within_trans rfl hw
      with_reducible exact Touches.refl _ _
  try clear_value t0
  with_reducible refine Touches.step ?_ (State.chansChanged_touches _ _ ?_)
  on_goal 2 => exact Part.within_trans rfl hw
  with_reducible exact ht0

theorem State.searchBegin_touches {ps : List Part} s a1 a2 (hw : Part.within [.gnss] ps = true) : Touches ps s (State.searchBegin s a1 a2) := by
  unfold State.searchBegin
  try extract_lets -merge -underBinder t0
  try clear_value t0
  with_reducible refine Touches.step ?_ (State.setSearchJob_touches _ _ _ ?_)
  on_goal 2 => exact Part.within_trans rfl hw
  with_reducible exact Touches.refl _ _

theorem State.searchResume_touches {ps : List Part} s a1 (hw : Part.within [.gnss] ps = true) : Touches ps s (State.searchResume s a1) := by
  unfold State.searchResume
  with_reducible refine Touches.step ?_ (State.searchBegin_touches _ _ _ ?_)
  on_goal 2 => exact Part.within_trans rfl hw
  with_reducible exact Touches.refl _ _

theorem State.calResume_touches {ps : List Part} s a1 (hw : Part.within [.clk, .regs, .evt, .hif, .lanes, .sw, .fab, .bpm, .fdb, .tcore, .tchans, .lnk, .ref, .free, .pll, .tic, .cal, .eng, .pair, .pwr, .rc .bpmDoubleFreeCnt, .rc .bpmForeignFreeCnt, .rc .bpmPoolEmptyCnt, .rc .bpmPromoteCnt, .rc .calAbortCnt, .rc .evtPinStat, .rc .evtSuppressed, .rc .hifEvtLost, .rc .hifRingAborted, .rc .pairMirOvf, .rc .perfTagDrop, .rc .pllCnt, .rc .portHoldFlush, .rc .pwrWakeSrc] ps = true) : Touches ps s (State.calResume s a1) := by
  unfold State.calResume
  try extract_lets -merge -underBinder t0
  refine Touches.haveS (t := t0) ?_ (fun ht0 => ?_)
  ·
    unfold t0
    with_reducible refine Touches.step ?_ (State.calBegin_touches _ _ ?_)
    on_goal 2 => exact Part.within_trans rfl hw
    with_reducible exact Touches.refl _ _
  try clear_value t0
  with_reducible refine Touches.ite ?_ ?_
  ·
    with_reducible refine Touches.step ?_ (State.calFinish_touches _ _ _ _ ?_)
    on_goal 2 => exact Part.within_trans rfl hw
    with_reducible exact ht0
  ·
    with_reducible exact ht0

theorem State.objResume_touches {ps : List Part} s a1 a2 (hw : Part.within [.clk, .regs, .evt, .hif, .lanes, .sw, .fab, .bpm, .fdb, .tcore, .tchans, .lnk, .ref, .free, .pll, .gnss, .tic, .cal, .eng, .pair, .pwr, .rc .bpmDoubleFreeCnt, .rc .bpmForeignFreeCnt, .rc .bpmPoolEmptyCnt, .rc .bpmPromoteCnt, .rc .calAbortCnt, .rc .evtPinStat, .rc .evtSuppressed, .rc .hifEvtLost, .rc .hifRingAborted, .rc .pairMirOvf, .rc .perfTagDrop, .rc .pllCnt, .rc .portHoldFlush, .rc .pwrWakeSrc] ps = true) : Touches ps s (State.objResume s a1 a2) := by
  unfold State.objResume
  split
  ·
    with_reducible refine Touches.step ?_ (State.flowResume_touches _ _ ?_)
    on_goal 2 => exact Part.within_trans rfl hw
    with_reducible exact Touches.refl _ _
  ·
    with_reducible refine Touches.step ?_ (State.tchanResume_touches _ _ ?_)
    on_goal 2 => exact Part.within_trans rfl hw
    with_reducible exact Touches.refl _ _
  ·
    with_reducible refine Touches.step ?_ (State.mchanResume_touches _ _ ?_)
    on_goal 2 => exact Part.within_trans rfl hw
    with_reducible exact Touches.refl _ _
  ·
    with_reducible refine Touches.step ?_ (State.bumpVersion_touches _ _ ?_)
    on_goal 2 => exact Part.within_trans rfl hw
    with_reducible exact Touches.refl _ _
  ·
    with_reducible refine Touches.step ?_ (State.searchResume_touches _ _ ?_)
    on_goal 2 => exact Part.within_trans rfl hw
    with_reducible exact Touches.refl _ _
  ·
    with_reducible refine Touches.step ?_ (State.calResume_touches _ _ ?_)
    on_goal 2 => exact Part.within_trans rfl hw
    with_reducible exact Touches.refl _ _

theorem State.objEnable_touches {ps : List Part} s a1 a2 a3 (hw : Part.within [.clk, .keys, .regs, .evt, .hif, .index, .objs, .lanes, .sw, .fab, .bpm, .fdb, .tcore, .tchans, .lnk, .ref, .free, .pll, .gnss, .tic, .cal, .eng, .pair, .pwr, .boot, .rc .bpmDoubleFreeCnt, .rc .bpmForeignFreeCnt, .rc .bpmPoolEmptyCnt, .rc .bpmPromoteCnt, .rc .calAbortCnt, .rc .evtPinStat, .rc .evtSuppressed, .rc .hifEvtLost, .rc .hifRingAborted, .rc .pairMirOvf, .rc .perfTagDrop, .rc .pllCnt, .rc .portHoldFlush, .rc .pwrWakeSrc] ps = true) : Touches ps s (State.objEnable s a1 a2 a3) := by
  unfold State.objEnable
  split
  ·
    with_reducible refine Touches.step ?_ (State.flowTake_touches _ _ _ _ ?_)
    on_goal 2 => exact Part.within_trans rfl hw
    with_reducible exact Touches.refl _ _
  ·
    try extract_lets -merge -underBinder t0
    try clear_value t0
    with_reducible refine Touches.step ?_ (State.runNamed_touches _ _ _ _ _ _ _ _ ?_ (fun _ => ?_))
    on_goal 2 => exact Part.within_trans rfl hw
    ·
      with_reducible exact Touches.refl _ _
    ·
      try extract_lets -merge -underBinder t1
      try clear_value t1
      with_reducible refine Touches.ite ?_ ?_
      ·
        with_reducible refine Touches.step ?_ (State.complete_touches _ _ _ _ _ _ _ ?_)
        on_goal 2 => exact Part.within_trans rfl hw
        with_reducible exact Touches.refl _ _
      ·
        with_reducible refine Touches.ite ?_ ?_
        ·
          with_reducible refine Touches.step ?_ (State.complete_touches _ _ _ _ _ _ _ ?_)
          on_goal 2 => exact Part.within_trans rfl hw
          with_reducible exact Touches.refl _ _
        ·
          with_reducible refine Touches.step ?_ (State.complete_touches _ _ _ _ _ _ _ ?_)
          on_goal 2 => exact Part.within_trans rfl hw
          with_reducible refine Touches.step ?_ (State.objResume_touches _ _ _ ?_)
          on_goal 2 => exact Part.within_trans rfl hw
          with_reducible refine Touches.step ?_ (State.setObj_touches _ _ _ _ ?_)
          on_goal 2 => exact Part.within_trans rfl hw
          with_reducible exact Touches.refl _ _

theorem State.phiMove_touches {ps : List Part} s a1 a2 (hw : Part.within [.tchans, .lnk] ps = true) : Touches ps s (State.phiMove s a1 a2) := by
  unfold State.phiMove
  try extract_lets -merge -underBinder t0 t1 t2 t3
  try clear_value t0
  refine Touches.haveS (t := t1) ?_ (fun ht1 => ?_)
  ·
    unfold t1
    with_reducible refine Touches.step ?_ (State.setLnk_touches _ _ _ ?_)
    on_goal 2 => exact Part.within_trans rfl hw
    with_reducible exact Touches.refl _ _
  try clear_value t1
  try clear_value t2
  refine Touches.mk hw ?_
  with_reducible exact ht1

theorem State.lanePublish_touches {ps : List Part} s a1 a2 a3 (hw : Part.within [.evt, .hif, .lanes, .rc .evtPinStat, .rc .evtSuppressed, .rc .hifEvtLost] ps = true) : Touches ps s (State.lanePublish s a1 a2 a3) := by
  unfold State.lanePublish
  try extract_lets -merge -underBinder t0
  try clear_value t0
  with_reducible refine Touches.step ?_ (State.raiseIf_touches _ _ _ _ _ _ ?_)
  on_goal 2 => exact Part.within_trans rfl hw
  with_reducible refine Touches.step ?_ (State.setLane_touches _ _ _ ?_)
  on_goal 2 => exact Part.within_trans rfl hw
  with_reducible exact Touches.refl _ _

theorem State.laneSetCode_touches {ps : List Part} s a1 a2 (hw : Part.within [.evt, .hif, .lanes, .tchans, .lnk, .free, .rc .evtPinStat, .rc .evtSuppressed, .rc .hifEvtLost] ps = true) : Touches ps s (State.laneSetCode s a1 a2) := by
  unfold State.laneSetCode
  try extract_lets -merge -underBinder t0 t1 t2 t3 t4
  try clear_value t0
  try clear_value t1
  refine Touches.haveS (t := t2) ?_ (fun ht2 => ?_)
  ·
    unfold t2
    with_reducible refine Touches.step ?_ (State.setLane_touches _ _ _ ?_)
    on_goal 2 => exact Part.within_trans rfl hw
    with_reducible exact Touches.refl _ _
  try clear_value t2
  refine Touches.haveS (t := t3) ?_ (fun ht3 => ?_)
  ·
    unfold t3
    with_reducible refine Touches.step ?_ (State.phiMove_touches _ _ _ ?_)
    on_goal 2 => exact Part.within_trans rfl hw
    with_reducible exact ht2
  try clear_value t3
  try clear_value t4
  with_reducible refine Touches.step ?_ (State.lanePublish_touches _ _ _ _ ?_)
  on_goal 2 => exact Part.within_trans rfl hw
  with_reducible refine Touches.set_free ?_ ?_
  on_goal 2 => exact Part.within_mem rfl hw
  with_reducible exact ht3

theorem State.laneStep_touches {ps : List Part} s a1 a2 (hw : Part.within [.evt, .hif, .lanes, .tchans, .lnk, .free, .rc .evtPinStat, .rc .evtSuppressed, .rc .hifEvtLost, .rc .laneAdptStat] ps = true) : Touches ps s (State.laneStep s a1 a2) := by
  unfold State.laneStep
  try extract_lets -merge -underBinder t0 t1 t2
  try clear_value t0
  refine Touches.haveS (t := t1) ?_ (fun ht1 => ?_)
  ·
    unfold t1
    with_reducible refine Touches.step ?_ (State.laneSetCode_touches _ _ _ ?_)
    on_goal 2 => exact Part.within_trans rfl hw
    with_reducible refine Touches.step ?_ (State.bump_touches _ _ _ _ ?_)
    on_goal 2 => exact Part.within_trans rfl hw
    with_reducible exact Touches.refl _ _
  try clear_value t1
  with_reducible refine Touches.ite ?_ ?_
  ·
    with_reducible refine Touches.step ?_ (State.laneRefuseStep_touches _ _ ?_)
    on_goal 2 => exact Part.within_trans rfl hw
    with_reducible exact Touches.refl _ _
  ·
    with_reducible refine Touches.ite ?_ ?_
    ·
      with_reducible exact Touches.refl _ _
    ·
      with_reducible refine Touches.step ?_ (State.setLane_touches _ _ _ ?_)
      on_goal 2 => exact Part.within_trans rfl hw
      with_reducible exact ht1

theorem State.swCondClear_touches {ps : List Part} s a1 (hw : Part.within [.sw] ps = true) : Touches ps s (State.swCondClear s a1) := by
  unfold State.swCondClear
  try extract_lets -merge -underBinder t0
  with_reducible refine Touches.ite ?_ ?_
  ·
    with_reducible refine Touches.set_sw ?_ ?_
    on_goal 2 => exact Part.within_mem rfl hw
    with_reducible exact Touches.refl _ _
  ·
    with_reducible exact Touches.refl _ _

theorem State.hardReset_touches {ps : List Part} (s : State) (hw : Part.within [.variant, .fused, .clk, .ready, .keys, .regs, .mbx, .rd, .rdI2c, .evt, .pers, .hif, .index, .objs, .lanes, .grps, .sw, .fab, .bpm, .fdb, .tcore, .tchans, .lnk, .ref, .free, .pll, .gnss, .tic, .cal, .eng, .spad, .pair, .pwr, .boot, .flash, .pending, .counters] ps = true) : Touches ps s s.hardReset := by
  unfold State.hardReset
  exact Touches.mk hw (Touches.refl _ _)

theorem State.refWtrExpire_touches {ps : List Part} s a1 (hw : Part.within [.evt, .hif, .ref, .pll, .eng, .rc .evtPinStat, .rc .evtSuppressed, .rc .hifEvtLost, .rc .pllCnt] ps = true) : Touches ps s (State.refWtrExpire s a1) := by
  unfold State.refWtrExpire
  try extract_lets -merge -underBinder t0
  try clear_value t0
  with_reducible refine Touches.ite ?_ ?_
  ·
    with_reducible refine Touches.step ?_ (State.setCandSt_touches _ _ _ _ ?_)
    on_goal 2 => exact Part.within_trans rfl hw
    with_reducible exact Touches.refl _ _
  ·
    with_reducible exact Touches.refl _ _

theorem State.compared_touches {ps : List Part} s a1 (hw : Part.within [.clk, .tcore, .cal] ps = true) : Touches ps s (State.compared s a1) := by
  unfold State.compared
  try extract_lets -merge -underBinder t0 t1 t2
  refine Touches.haveS (t := t0) ?_ (fun ht0 => ?_)
  ·
    unfold t0
    with_reducible refine Touches.step ?_ (State.putStandby_touches _ _ ?_)
    on_goal 2 => exact Part.within_trans rfl hw
    with_reducible exact Touches.refl _ _
  try clear_value t0
  refine Touches.mk hw ?_
  with_reducible exact ht0

theorem State.standbyTrackAcquired_touches {ps : List Part} s a1 (hw : Part.within [.clk, .tcore, .cal] ps = true) : Touches ps s (State.standbyTrackAcquired s a1) := by
  unfold State.standbyTrackAcquired
  try extract_lets -merge -underBinder t0 t1
  refine Touches.haveS (t := t0) ?_ (fun ht0 => ?_)
  ·
    unfold t0
    with_reducible refine Touches.step ?_ (State.compared_touches _ _ ?_)
    on_goal 2 => exact Part.within_trans rfl hw
    with_reducible exact Touches.refl _ _
  try clear_value t0
  with_reducible refine Touches.ite ?_ ?_
  ·
    with_reducible exact Touches.refl _ _
  ·
    with_reducible refine Touches.ite ?_ ?_
    ·
      with_reducible exact ht0
    ·
      with_reducible refine Touches.set_tcore ?_ ?_
      on_goal 2 => exact Part.within_mem rfl hw
      with_reducible exact ht0

theorem State.functionReset_touches {ps : List Part} s (hw : Part.within [.regs, .evt, .hif, .sw, .fab, .bpm, .fdb, .free, .eng, .counters] ps = true) : Touches ps s (State.functionReset s) := by
  unfold State.functionReset
  try extract_lets -merge -underBinder t0 t1 t2 t3 t4 t5
  refine Touches.haveS (t := t0) ?_ (fun ht0 => ?_)
  ·
    unfold t0
    with_reducible refine Touches.step ?_ (State.ringsKill_touches _ ?_)
    on_goal 2 => exact Part.within_trans rfl hw
    with_reducible exact Touches.refl _ _
  try clear_value t0
  try clear_value t1
  refine Touches.haveS (t := t2) ?_ (fun ht2 => ?_)
  ·
    unfold t2
    with_reducible refine Touches.step ?_ (State.dropPending_touches _ _ ?_)
    on_goal 2 => exact Part.within_trans rfl hw
    with_reducible refine Touches.foldl (fun _ _ => ?_) _ ?_
    ·
      with_reducible refine Touches.step ?_ (State.removeCopy_touches _ _ ?_)
      on_goal 2 => exact Part.within_trans rfl hw
      with_reducible exact Touches.refl _ _
    ·
      with_reducible exact ht0
  try clear_value t2
  refine Touches.haveS (t := t5) ?_ (fun ht5 => ?_)
  ·
    unfold t5
    refine Touches.mk hw ?_
    with_reducible exact ht2
  try clear_value t5
  with_reducible refine Touches.step ?_ (State.afterFree_touches _ ?_)
  on_goal 2 => exact Part.within_trans rfl hw
  with_reducible refine Touches.step ?_ (State.bump_touches _ _ _ _ ?_)
  on_goal 2 => exact Part.within_trans rfl hw
  with_reducible exact ht5

theorem State.setPps_touches {ps : List Part} s a1 a2 (hw : Part.within [.pll] ps = true) : Touches ps s (State.setPps s a1 a2) := by
  unfold State.setPps
  try extract_lets -merge -underBinder t0
  with_reducible refine Touches.set_pll ?_ ?_
  on_goal 2 => exact Part.within_mem rfl hw
  with_reducible exact Touches.refl _ _

theorem State.ppsSec_touches {ps : List Part} s (hw : Part.within [.pll] ps = true) : Touches ps s (State.ppsSec s) := by
  unfold State.ppsSec
  with_reducible refine Touches.foldl (fun _ _ => ?_) _ ?_
  ·
    try extract_lets -merge -underBinder t0
    with_reducible refine Touches.step ?_ (State.setPps_touches _ _ _ ?_)
    on_goal 2 => exact Part.within_trans rfl hw
    with_reducible exact Touches.refl _ _
  ·
    with_reducible exact Touches.refl _ _

theorem State.heldSecond_touches {ps : List Part} s (hw : Part.within [.clk, .pll] ps = true) : Touches ps s (State.heldSecond s) := by
  unfold State.heldSecond
  try extract_lets -merge -underBinder t0 t1
  try clear_value t0
  with_reducible refine Touches.ite ?_ ?_
  ·
    with_reducible exact Touches.refl _ _
  ·
    with_reducible refine Touches.step ?_ (State.ppsSec_touches _ ?_)
    on_goal 2 => exact Part.within_trans rfl hw
    with_reducible refine Touches.step ?_ (State.markSecond_touches _ ?_)
    on_goal 2 => exact Part.within_trans rfl hw
    with_reducible refine Touches.set_clk ?_ ?_
    on_goal 2 => exact Part.within_mem rfl hw
    with_reducible exact Touches.refl _ _

theorem State.admTake_touches {ps : List Part} s a1 a2 a3 (hw : Part.within [.keys, .regs, .evt, .hif, .index, .objs, .sw, .fab, .bpm, .fdb, .free, .eng, .pair, .boot, .rc .bpmDoubleFreeCnt, .rc .bpmForeignFreeCnt, .rc .bpmPoolEmptyCnt, .rc .bpmPromoteCnt, .rc .evtPinStat, .rc .evtSuppressed, .rc .hifEvtLost, .rc .hifRingAborted, .rc .pairMirOvf, .rc .perfTagDrop] ps = true) : Touches ps s (State.admTake s a1 a2 a3) := by
  unfold State.admTake
  with_reducible refine Touches.ite ?_ ?_
  ·
    with_reducible exact Touches.refl _ _
  ·
    with_reducible refine Touches.step ?_ (State.admNext_touches _ _ _ ?_)
    on_goal 2 => exact Part.within_trans rfl hw
    with_reducible refine Touches.step ?_ (State.startCmd_touches _ _ ?_)
    on_goal 2 => exact Part.within_trans rfl hw
    with_reducible exact Touches.refl _ _

theorem State.ticArmBlock_touches {ps : List Part} s a1 a2 (hw : Part.within [.tic] ps = true) : Touches ps s (State.ticArmBlock s a1 a2) := by
  unfold State.ticArmBlock
  try extract_lets -merge -underBinder t0 t1
  try clear_value t0
  try clear_value t1
  with_reducible refine Touches.step ?_ (State.ticSample_touches _ _ ?_)
  on_goal 2 => exact Part.within_trans rfl hw
  with_reducible refine Touches.step ?_ (State.setTicCh_touches _ _ _ ?_)
  on_goal 2 => exact Part.within_trans rfl hw
  with_reducible exact Touches.refl _ _

theorem State.ticArm_touches {ps : List Part} s a1 a2 (hw : Part.within [.keys, .hif, .objs, .tic, .boot, .rc .hifRingAborted] ps = true) : Touches ps s (State.ticArm s a1 a2) := by
  unfold State.ticArm
  with_reducible refine Touches.step ?_ (State.runNamed_touches _ _ _ _ _ _ _ _ ?_ (fun _ => ?_))
  on_goal 2 => exact Part.within_trans rfl hw
  ·
    with_reducible exact Touches.refl _ _
  ·
    try extract_lets -merge -underBinder t0 t1
    try clear_value t0
    refine Touches.haveS (t := t1) ?_ (fun ht1 => ?_)
    ·
      unfold t1
      with_reducible refine Touches.step ?_ (State.ticArmBlock_touches _ _ _ ?_)
      on_goal 2 => exact Part.within_trans rfl hw
      with_reducible exact Touches.refl _ _
    try clear_value t1
    with_reducible refine Touches.ite ?_ ?_
    ·
      with_reducible refine Touches.step ?_ (State.complete_touches _ _ _ _ _ _ _ ?_)
      on_goal 2 => exact Part.within_trans rfl hw
      with_reducible exact Touches.refl _ _
    ·
      with_reducible refine Touches.ite ?_ ?_
      ·
        with_reducible refine Touches.step ?_ (State.complete_touches _ _ _ _ _ _ _ ?_)
        on_goal 2 => exact Part.within_trans rfl hw
        with_reducible exact Touches.refl _ _
      ·
        with_reducible refine Touches.step ?_ (State.complete_touches _ _ _ _ _ _ _ ?_)
        on_goal 2 => exact Part.within_trans rfl hw
        with_reducible exact ht1

theorem State.calTempStep_touches {ps : List Part} s a1 (hw : Part.within [.regs, .cal] ps = true) : Touches ps s (State.calTempStep s a1) := by
  unfold State.calTempStep
  try extract_lets -merge -underBinder t0
  with_reducible refine Touches.step ?_ (State.calRecomputeAll_touches _ ?_)
  on_goal 2 => exact Part.within_trans rfl hw
  with_reducible refine Touches.set_cal ?_ ?_
  on_goal 2 => exact Part.within_mem rfl hw
  with_reducible exact Touches.refl _ _

theorem State.calTry_touches {ps : List Part} s a1 a2 (hw : Part.within [.evt, .pers, .hif, .cal, .rc .calStoreFail, .rc .evtPinStat, .rc .evtSuppressed, .rc .hifEvtLost] ps = true) : Touches ps s (State.calTry s a1 a2) := by
  unfold State.calTry
  try extract_lets -merge -underBinder t0 t1 t2 t3
  try clear_value t0
  refine Touches.haveS (t := t1) ?_ (fun ht1 => ?_)
  ·
    unfold t1
    with_reducible refine Touches.step ?_ (State.persStore_touches _ _ _ ?_)
    on_goal 2 => exact Part.within_trans rfl hw
    with_reducible exact Touches.refl _ _
  try clear_value t1
  with_reducible refine Touches.ite ?_ ?_
  ·
    with_reducible refine Touches.set_cal ?_ ?_
    on_goal 2 => exact Part.within_mem rfl hw
    with_reducible exact ht1
  ·
    with_reducible refine Touches.ite ?_ ?_
    ·
      with_reducible refine Touches.step ?_ (State.raise_touches _ _ _ _ _ ?_)
      on_goal 2 => exact Part.within_trans rfl hw
      with_reducible refine Touches.step ?_ (State.bump_touches _ _ _ _ ?_)
      on_goal 2 => exact Part.within_trans rfl hw
      with_reducible exact ht1
    ·
      with_reducible refine Touches.set_cal ?_ ?_
      on_goal 2 => exact Part.within_mem rfl hw
      with_reducible exact ht1

theorem State.calWrite_touches {ps : List Part} s a1 a2 (hw : Part.within [.evt, .pers, .hif, .cal, .rc .calStoreFail, .rc .evtPinStat, .rc .evtSuppressed, .rc .hifEvtLost] ps = true) : Touches ps s (State.calWrite s a1 a2) := by
  unfold State.calWrite
  try extract_lets -merge -underBinder t0
  with_reducible refine Touches.ite ?_ ?_
  ·
    with_reducible refine Touches.set_cal ?_ ?_
    on_goal 2 => exact Part.within_mem rfl hw
    with_reducible exact Touches.refl _ _
  ·
    with_reducible refine Touches.step ?_ (State.calTry_touches _ _ _ ?_)
    on_goal 2 => exact Part.within_trans rfl hw
    with_reducible exact Touches.refl _ _

theorem State.calPut_touches {ps : List Part} s a1 a2 (hw : Part.within [.evt, .pers, .hif, .cal, .rc .calStoreFail, .rc .evtPinStat, .rc .evtSuppressed, .rc .hifEvtLost] ps = true) : Touches ps s (State.calPut s a1 a2) := by
  unfold State.calPut
  try extract_lets -merge -underBinder t0
  refine Touches.haveS (t := t0) ?_ (fun ht0 => ?_)
  ·
    unfold t0
    with_reducible refine Touches.step ?_ (State.calTry_touches _ _ _ ?_)
    on_goal 2 => exact Part.within_trans rfl hw
    with_reducible exact Touches.refl _ _
  try clear_value t0
  split
  ·
    with_reducible refine Touches.step ?_ (State.calWrite_touches _ _ _ ?_)
    on_goal 2 => exact Part.within_trans rfl hw
    with_reducible exact ht0
  ·
    with_reducible exact ht0

theorem State.bootConfig_touches {ps : List Part} s a1 a2 (hw : Part.within [.clk, .ready, .keys, .regs, .mbx, .evt, .pers, .hif, .index, .objs, .lanes, .grps, .sw, .fab, .bpm, .fdb, .tcore, .tchans, .lnk, .ref, .free, .pll, .gnss, .tic, .cal, .eng, .spad, .pair, .pwr, .boot, .counters] ps = true) : Touches ps s (State.bootConfig s a1 a2) := by
  unfold State.bootConfig
  try extract_lets -merge -underBinder t0 t1
  refine Touches.haveS (t := t1) ?_ (fun ht1 => ?_)
  ·
    unfold t1
    with_reducible refine Touches.set_boot ?_ ?_
    on_goal 2 => exact Part.within_mem rfl hw
    with_reducible exact Touches.refl _ _
  try clear_value t1
  with_reducible refine Touches.ite ?_ ?_
  ·
    with_reducible exact ht1
  ·
    split
    ·
      with_reducible exact ht1
    ·
      split
      ·
        with_reducible refine Touches.step ?_ (State.raise_touches _ _ _ _ _ ?_)
        on_goal 2 => exact Part.within_trans rfl hw
        with_reducible exact ht1
      ·
        try extract_lets -merge -underBinder t2 t3 t4
        try clear_value t2
        refine Touches.haveS (t := t3) ?_ (fun ht3 => ?_)
        ·
          unfold t3
          with_reducible refine Touches.foldl (fun _ _ => ?_) _ ?_
          ·
            with_reducible refine Touches.step ?_ (State.cfgWrite_touches _ _ ?_)
            on_goal 2 => exact Part.within_trans rfl hw
            with_reducible exact Touches.refl _ _
          ·
            with_reducible exact Touches.refl _ _
        try clear_value t3
        with_reducible refine Touches.ite ?_ ?_
        ·
          with_reducible refine Touches.step ?_ (State.raise_touches _ _ _ _ _ ?_)
          on_goal 2 => exact Part.within_trans rfl hw
          with_reducible exact ht1
        ·
          with_reducible refine Touches.set_boot ?_ ?_
          on_goal 2 => exact Part.within_mem rfl hw
          with_reducible exact ht3

theorem State.imageLoad_touches {ps : List Part} s a1 a2 (hw : Part.within [.evt, .hif, .eng, .rc .evtPinStat, .rc .evtSuppressed, .rc .hifEvtLost] ps = true) : Touches ps s (State.imageLoad s a1 a2) := by
  unfold State.imageLoad
  try extract_lets -merge -underBinder t0 t1 t2
  refine Touches.haveS (t := t1) ?_ (fun ht1 => ?_)
  ·
    unfold t1
    with_reducible refine Touches.setEng ?_ ?_ ?_
    on_goal 2 => exact Part.within_mem rfl hw
    on_goal 2 => rfl
    with_reducible exact Touches.refl _ _
  try clear_value t1
  with_reducible refine Touches.step ?_ (State.cycClear_touches _ _ ?_)
  on_goal 2 => exact Part.within_trans rfl hw
  with_reducible refine Touches.step ?_ (State.goEng_touches _ _ _ ?_)
  on_goal 2 => exact Part.within_trans rfl hw
  with_reducible refine Touches.step ?_ (State.setEng_touches _ _ _ ?_)
  on_goal 2 => exact Part.within_trans rfl hw
  with_reducible exact ht1

theorem State.bootEngines_touches {ps : List Part} s a1 a2 (hw : Part.within [.evt, .hif, .eng, .boot, .rc .evtPinStat, .rc .evtSuppressed, .rc .hifEvtLost] ps = true) : Touches ps s (State.bootEngines s a1 a2) := by
  unfold State.bootEngines
  with_reducible refine Touches.ite ?_ ?_
  ·
    with_reducible exact Touches.refl _ _
  ·
    split
    ·
      with_reducible refine Touches.step ?_ (State.raise_touches _ _ _ _ _ ?_)
      on_goal 2 => exact Part.within_trans rfl hw
      with_reducible exact Touches.refl _ _
    ·
      try extract_lets -merge -underBinder t0 t1
      refine Touches.haveS (t := t0) ?_ (fun ht0 => ?_)
      ·
        unfold t0
        with_reducible refine Touches.foldl (fun _ _ => ?_) _ ?_
        ·
          with_reducible refine Touches.step ?_ (State.goEng_touches _ _ _ ?_)
          on_goal 2 => exact Part.within_trans rfl hw
          with_reducible refine Touches.step ?_ (State.imageLoad_touches _ _ _ ?_)
          on_goal 2 => exact Part.within_trans rfl hw
          with_reducible exact Touches.refl _ _
        ·
          with_reducible exact Touches.refl _ _
      try clear_value t0
      with_reducible refine Touches.set_boot ?_ ?_
      on_goal 2 => exact Part.within_mem rfl hw
      with_reducible exact ht0

theorem State.setPol_touches {ps : List Part} s a1 a2 a3 (hw : Part.within [.eng] ps = true) : Touches ps s (State.setPol s a1 a2 a3) := by
  unfold State.setPol
  try extract_lets -merge -underBinder t0
  with_reducible refine Touches.setEng ?_ ?_ ?_
  on_goal 2 => exact Part.within_mem rfl hw
  on_goal 2 => rfl
  with_reducible exact Touches.refl _ _

theorem State.polRestore_touches {ps : List Part} s (hw : Part.within [.evt, .hif, .eng, .rc .evtPinStat, .rc .evtSuppressed, .rc .hifEvtLost] ps = true) : Touches ps s (State.polRestore s) := by
  unfold State.polRestore
  try extract_lets -merge -underBinder t0 t1 t2 t3
  try clear_value t0
  try clear_value t1
  refine Touches.haveS (t := t2) ?_ (fun ht2 => ?_)
  ·
    unfold t2
    with_reducible refine Touches.foldl (fun _ _ => ?_) _ ?_
    ·
      with_reducible refine Touches.step ?_ (State.setPol_touches _ _ _ _ ?_)
      on_goal 2 => exact Part.within_trans rfl hw
      with_reducible exact Touches.refl _ _
    ·
      with_reducible exact Touches.refl _ _
  try clear_value t2
  refine Touches.haveS (t := t3) ?_ (fun ht3 => ?_)
  ·
    unfold t3
    with_reducible refine Touches.foldl (fun _ _ => ?_) _ ?_
    ·
      with_reducible refine Touches.step ?_ (State.setPol_touches _ _ _ _ ?_)
      on_goal 2 => exact Part.within_trans rfl hw
      with_reducible exact Touches.refl _ _
    ·
      with_reducible exact ht2
  try clear_value t3
  with_reducible refine Touches.ite ?_ ?_
  ·
    with_reducible exact Touches.refl _ _
  ·
    with_reducible refine Touches.ite ?_ ?_
    ·
      with_reducible refine Touches.step ?_ (State.raise_touches _ _ _ _ _ ?_)
      on_goal 2 => exact Part.within_trans rfl hw
      with_reducible exact Touches.refl _ _
    ·
      with_reducible refine Touches.foldl (fun _ _ => ?_) _ ?_
      ·
        with_reducible refine Touches.step ?_ (State.setPol_touches _ _ _ _ ?_)
        on_goal 2 => exact Part.within_trans rfl hw
        with_reducible exact Touches.refl _ _
      ·
        with_reducible exact ht3

theorem State.calRestore_touches {ps : List Part} s (hw : Part.within [.regs, .evt, .hif, .ref, .cal, .rc .evtPinStat, .rc .evtSuppressed, .rc .hifEvtLost] ps = true) : Touches ps s (State.calRestore s) := by
  unfold State.calRestore
  try extract_lets -merge -underBinder t0 t1
  refine Touches.haveS (t := t0) ?_ (fun ht0 => ?_)
  ·
    unfold t0
    with_reducible refine Touches.foldl (fun _ _ => ?_) _ ?_
    ·
      split
      ·
        with_reducible exact Touches.refl _ _
      ·
        with_reducible refine Touches.foldl (fun _ _ => ?_) _ ?_
        ·
          with_reducible refine Touches.step ?_ (State.calLoad_touches _ _ _ ?_)
          on_goal 2 => exact Part.within_trans rfl hw
          with_reducible exact Touches.refl _ _
        ·
          with_reducible exact Touches.refl _ _
      ·
        with_reducible refine Touches.step ?_ (State.raise_touches _ _ _ _ _ ?_)
        on_goal 2 => exact Part.within_trans rfl hw
        with_reducible exact Touches.refl _ _
    ·
      with_reducible exact Touches.refl _ _
  try clear_value t0
  with_reducible refine Touches.ite ?_ ?_
  ·
    with_reducible exact Touches.refl _ _
  ·
    with_reducible refine Touches.set_cal ?_ ?_
    on_goal 2 => exact Part.within_mem rfl hw
    with_reducible exact ht0

theorem State.boot!_touches {ps : List Part} s a1 (hw : Part.within [.clk, .ready, .keys, .regs, .mbx, .evt, .pers, .hif, .index, .objs, .lanes, .grps, .sw, .fab, .bpm, .fdb, .tcore, .tchans, .lnk, .ref, .free, .pll, .gnss, .tic, .cal, .eng, .spad, .pair, .pwr, .boot, .counters] ps = true) : Touches ps s (State.boot! s a1) := by
  unfold State.boot!
  try extract_lets -merge -underBinder t0 t1 t2 t3 t4 t5 t6 t7 t8 t9 t10 t11 t12 t13
  try clear_value t0
  refine Touches.haveS (t := t4) ?_ (fun ht4 => ?_)
  ·
    unfold t4
    refine Touches.mk hw ?_
    with_reducible exact Touches.refl _ _
  try clear_value t4
  refine Touches.haveS (t := t5) ?_ (fun ht5 => ?_)
  ·
    unfold t5
    with_reducible refine Touches.step ?_ (State.setReady_touches _ _ _ ?_)
    on_goal 2 => exact Part.within_trans rfl hw
    with_reducible exact ht4
  try clear_value t5
  refine Touches.haveS (t := t6) ?_ (fun ht6 => ?_)
  ·
    unfold t6
    with_reducible refine Touches.ite ?_ ?_
    ·
      with_reducible refine Touches.step ?_ (State.pllStart_touches _ _ ?_)
      on_goal 2 => exact Part.within_trans rfl hw
      with_reducible exact ht5
    ·
      with_reducible refine Touches.ite ?_ ?_
      ·
        with_reducible refine Touches.step ?_ (State.pllTReady_touches _ ?_)
        on_goal 2 => exact Part.within_trans rfl hw
        with_reducible exact ht5
      ·
        with_reducible exact ht5
  try clear_value t6
  refine Touches.haveS (t := t7) ?_ (fun ht7 => ?_)
  ·
    unfold t7
    with_reducible refine Touches.step ?_ (State.pllStart_touches _ _ ?_)
    on_goal 2 => exact Part.within_trans rfl hw
    with_reducible exact ht6
  try clear_value t7
  try clear_value t8
  refine Touches.haveS (t := t10) ?_ (fun ht10 => ?_)
  ·
    unfold t10
    with_reducible refine Touches.set_boot ?_ ?_
    on_goal 2 => exact Part.within_mem rfl hw
    with_reducible exact ht7
  try clear_value t10
  refine Touches.haveS (t := t11) ?_ (fun ht11 => ?_)
  ·
    unfold t11
    with_reducible refine Touches.step ?_ (State.setReady_touches _ _ _ ?_)
    on_goal 2 => exact Part.within_trans rfl hw
    with_reducible refine Touches.step ?_ (State.bootConfig_touches _ _ _ ?_)
    on_goal 2 => exact Part.within_trans rfl hw
    with_reducible exact ht10
  try clear_value t11
  refine Touches.haveS (t := t12) ?_ (fun ht12 => ?_)
  ·
    unfold t12
    with_reducible refine Touches.foldl (fun _ _ => ?_) _ ?_
    ·
      with_reducible refine Touches.step ?_ (State.grpTrain_touches _ _ ?_)
      on_goal 2 => exact Part.within_trans rfl hw
      with_reducible exact Touches.refl _ _
    ·
      with_reducible exact ht11
  try clear_value t12
  refine Touches.haveS (t := t13) ?_ (fun ht13 => ?_)
  ·
    unfold t13
    with_reducible refine Touches.step ?_ (State.bootEngines_touches _ _ _ ?_)
    on_goal 2 => exact Part.within_trans rfl hw
    with_reducible exact ht12
  try clear_value t13
  with_reducible refine Touches.step ?_ (State.polRestore_touches _ ?_)
  on_goal 2 => exact Part.within_trans rfl hw
  with_reducible refine Touches.step ?_ (State.setReady_touches _ _ _ ?_)
  on_goal 2 => exact Part.within_trans rfl hw
  with_reducible refine Touches.step ?_ (State.calRestore_touches _ ?_)
  on_goal 2 => exact Part.within_trans rfl hw
  with_reducible exact ht13

theorem State.keepTimeOver_touches {ps : List Part} s a1 (hw : Part.within [.clk, .regs, .tcore, .ref, .pll] ps = true) : Touches ps s (State.keepTimeOver s a1) := by
  unfold State.keepTimeOver
  try extract_lets -merge -underBinder t0 t1 t2 t3 t4 t5
  try clear_value t0
  refine Touches.haveS (t := t5) ?_ (fun ht5 => ?_)
  ·
    unfold t5
    refine Touches.mk hw ?_
    with_reducible exact Touches.refl _ _
  try clear_value t5
  with_reducible refine Touches.set_tcore ?_ ?_
  on_goal 2 => exact Part.within_mem rfl hw
  with_reducible exact ht5

theorem State.partResetHold_touches {ps : List Part} s a1 (hw : Part.within [.variant, .fused, .clk, .ready, .keys, .regs, .mbx, .rd, .rdI2c, .evt, .pers, .hif, .index, .objs, .lanes, .grps, .sw, .fab, .bpm, .fdb, .tcore, .tchans, .lnk, .ref, .free, .pll, .gnss, .tic, .cal, .eng, .spad, .pair, .pwr, .boot, .flash, .pending, .counters] ps = true) : Touches ps s (State.partResetHold s a1) := by
  unfold State.partResetHold
  try extract_lets -merge -underBinder t0 t1
  refine Touches.haveS (t := t0) ?_ (fun ht0 => ?_)
  ·
    unfold t0
    with_reducible refine Touches.ite ?_ ?_
    ·
      with_reducible refine Touches.step ?_ (State.keepTimeOver_touches _ _ ?_)
      on_goal 2 => exact Part.within_trans rfl hw
      with_reducible refine Touches.step ?_ (State.hardReset_touches _ ?_)
      on_goal 2 => exact Part.within_trans rfl hw
      with_reducible exact Touches.refl _ _
    ·
      with_reducible refine Touches.step ?_ (State.hardReset_touches _ ?_)
      on_goal 2 => exact Part.within_trans rfl hw
      with_reducible exact Touches.refl _ _
  try clear_value t0
  with_reducible refine Touches.set_pwr ?_ ?_
  on_goal 2 => exact Part.within_mem rfl hw
  with_reducible exact ht0

theorem State.sysRst_touches {ps : List Part} s a1 a2 a3 (hw : Part.within [.variant, .fused, .clk, .ready, .keys, .regs, .mbx, .rd, .rdI2c, .evt, .pers, .hif, .index, .objs, .lanes, .grps, .sw, .fab, .bpm, .fdb, .tcore, .tchans, .lnk, .ref, .free, .pll, .gnss, .tic, .cal, .eng, .spad, .pair, .pwr, .boot, .flash, .pending, .counters] ps = true) : Touches ps s (State.sysRst s a1 a2 a3) := by
  unfold State.sysRst
  try extract_lets -merge -underBinder t0
  try clear_value t0
  with_reducible refine Touches.step ?_ (State.keyed_touches _ _ _ _ ?_ (fun _ => ?_))
  on_goal 2 => exact Part.within_trans rfl hw
  ·
    with_reducible exact Touches.refl _ _
  ·
    try extract_lets -merge -underBinder t1
    refine Touches.haveS (t := t1) ?_ (fun ht1 => ?_)
    ·
      unfold t1
      with_reducible refine Touches.step ?_ (State.storeReg_touches _ _ _ _ ?_)
      on_goal 2 => exact Part.within_trans rfl hw
      with_reducible exact Touches.refl _ _
    try clear_value t1
    with_reducible refine Touches.ite ?_ ?_
    ·
      with_reducible refine Touches.step ?_ (State.boot!_touches _ _ ?_)
      on_goal 2 => exact Part.within_trans rfl hw
      with_reducible refine Touches.step ?_ (State.partResetHold_touches _ _ ?_)
      on_goal 2 => exact Part.within_trans rfl hw
      with_reducible exact ht1
    ·
      with_reducible exact ht1

theorem State.anyWrite_touches {ps : List Part} s a1 a2 a3 a4 (hw : Part.within [.variant, .fused, .clk, .ready, .keys, .regs, .mbx, .rd, .rdI2c, .evt, .pers, .hif, .index, .objs, .lanes, .grps, .sw, .fab, .bpm, .fdb, .tcore, .tchans, .lnk, .ref, .free, .pll, .gnss, .tic, .cal, .eng, .spad, .pair, .pwr, .boot, .flash, .pending, .counters] ps = true) : Touches ps s (State.anyWrite s a1 a2 a3 a4) := by
  unfold State.anyWrite
  with_reducible refine Touches.ite ?_ ?_
  ·
    with_reducible refine Touches.step ?_ (State.sysRst_touches _ _ _ _ ?_)
    on_goal 2 => exact Part.within_trans rfl hw
    with_reducible exact Touches.refl _ _
  ·
    with_reducible refine Touches.step ?_ (State.busWrite_touches _ _ _ _ _ ?_)
    on_goal 2 => exact Part.within_trans rfl hw
    with_reducible exact Touches.refl _ _

theorem State.dmaOff_touches {ps : List Part} (s : State) (o n : Nat) (hw : Part.within [.evt, .hif, .eng, .rc .engSpadBankErr, .rc .evtPinStat, .rc .evtSuppressed, .rc .hifEvtLost] ps = true) : Touches ps s (s.dmaOff o n) := by
  induction n generalizing s o with
  | zero => exact Touches.refl _ _
  | succ n ih =>
    unfold State.dmaOff
    exact (Touches.ite (Touches.refl _ _) (State.bankOffAccess_touches _ _ (Part.within_trans rfl hw))).step (ih _ _)

theorem State.setCalSlot_touches {ps : List Part} s a1 a2 (hw : Part.within [.cal] ps = true) : Touches ps s (State.setCalSlot s a1 a2) := by
  unfold State.setCalSlot
  try extract_lets -merge -underBinder t0 t1
  with_reducible refine Touches.set_cal ?_ ?_
  on_goal 2 => exact Part.within_mem rfl hw
  with_reducible exact Touches.refl _ _

theorem State.flashWriteCmd_touches {ps : List Part} s a1 a2 a3 (hw : Part.within [.keys, .evt, .hif, .free, .cal, .eng, .boot, .flash, .rc .engSpadBankErr, .rc .evtPinStat, .rc .evtSuppressed, .rc .hifEvtLost, .rc .hifRingAborted] ps = true) : Touches ps s (State.flashWriteCmd s a1 a2 a3) := by
  unfold State.flashWriteCmd
  try extract_lets -merge -underBinder t0 t1 t2 t3
  try clear_value t0
  try clear_value t1
  try clear_value t2
  try clear_value t3
  with_reducible refine Touches.step ?_ (State.runCmd_touches _ _ _ _ _ ?_ (fun _ => ?_))
  on_goal 2 => exact Part.within_trans rfl hw
  ·
    with_reducible exact Touches.refl _ _
  ·
    try extract_lets -merge -underBinder t4 t5 t6 t7
    try clear_value t4
    refine Touches.haveS (t := t5) ?_ (fun ht5 => ?_)
    ·
      unfold t5
      with_reducible refine Touches.step ?_ (State.dmaOff_touches _ _ _ ?_)
      on_goal 2 => exact Part.within_trans rfl hw
      with_reducible exact Touches.refl _ _
    try clear_value t5
    refine Touches.haveS (t := t6) ?_ (fun ht6 => ?_)
    ·
      unfold t6
      refine Touches.mk hw ?_
      with_reducible exact ht5
    try clear_value t6
    refine Touches.haveS (t := t7) ?_ (fun ht7 => ?_)
    ·
      unfold t7
      with_reducible refine Touches.foldl (fun _ _ => ?_) _ ?_
      ·
        with_reducible refine Touches.ite ?_ ?_
        ·
          with_reducible refine Touches.step ?_ (State.setCalSlot_touches _ _ _ ?_)
          on_goal 2 => exact Part.within_trans rfl hw
          with_reducible exact Touches.refl _ _
        ·
          with_reducible exact Touches.refl _ _
      ·
        with_reducible exact ht6
    try clear_value t7
    with_reducible refine Touches.ite ?_ ?_
    ·
      with_reducible refine Touches.step ?_ (State.complete_touches _ _ _ _ _ _ _ ?_)
      on_goal 2 => exact Part.within_trans rfl hw
      with_reducible exact Touches.refl _ _
    ·
      with_reducible refine Touches.ite ?_ ?_
      ·
        with_reducible refine Touches.step ?_ (State.complete_touches _ _ _ _ _ _ _ ?_)
        on_goal 2 => exact Part.within_trans rfl hw
        with_reducible exact Touches.refl _ _
      ·
        with_reducible refine Touches.step ?_ (State.complete_touches _ _ _ _ _ _ _ ?_)
        on_goal 2 => exact Part.within_trans rfl hw
        with_reducible exact ht7

theorem State.fdbInsert_touches {ps : List Part} (s : State) (m v : Nat) (e : FdbEntry) (hw : Part.within [.evt, .hif, .fdb, .rc .evtPinStat, .rc .evtSuppressed, .rc .hifEvtLost] ps = true) {t : State}
    (h : s.fdbInsert m v e = some t) : Touches ps s t := by
  unfold State.fdbInsert at h
  obtain ⟨es, _, rfl⟩ := Option.map_eq_some_iff.mp h
  extract_lets s1
  have h1 : Touches ps s s1 := State.bumpVersion_touches _ _ (Part.within_trans rfl hw)
  exact Touches.set_fdb h1 (Part.within_mem rfl hw)

theorem State.fdbMirror_touches {ps : List Part} s a1 a2 a3 a4 (hw : Part.within [.evt, .hif, .pair, .rc .evtPinStat, .rc .evtSuppressed, .rc .hifEvtLost, .rc .pairMirOvf] ps = true) : Touches ps s (State.fdbMirror s a1 a2 a3 a4) := by
  unfold State.fdbMirror
  with_reducible refine Touches.step ?_ (State.pairDelta_touches _ _ ?_)
  on_goal 2 => exact Part.within_trans rfl hw
  with_reducible exact Touches.refl _ _

theorem State.fdbFull_touches {ps : List Part} s (hw : Part.within [.evt, .hif, .fdb, .rc .evtPinStat, .rc .evtSuppressed, .rc .fdbLearnFail, .rc .hifEvtLost] ps = true) : Touches ps s (State.fdbFull s) := by
  unfold State.fdbFull
  try extract_lets -merge -underBinder t0 t1 t2 t3
  refine Touches.haveS (t := t0) ?_ (fun ht0 => ?_)
  ·
    unfold t0
    with_reducible refine Touches.step ?_ (State.bump_touches _ _ _ _ ?_)
    on_goal 2 => exact Part.within_trans rfl hw
    with_reducible exact Touches.refl _ _
  try clear_value t0
  try clear_value t1
  refine Touches.haveS (t := t2) ?_ (fun ht2 => ?_)
  ·
    unfold t2
    with_reducible refine Touches.step ?_ (State.raiseIf_touches _ _ _ _ _ _ ?_)
    on_goal 2 => exact Part.within_trans rfl hw
    with_reducible exact ht0
  try clear_value t2
  with_reducible refine Touches.set_fdb ?_ ?_
  on_goal 2 => exact Part.within_mem rfl hw
  with_reducible exact ht2

theorem State.fdbPut_touches {ps : List Part} s a1 a2 a3 (hw : Part.within [.evt, .hif, .fdb, .rc .evtPinStat, .rc .evtSuppressed, .rc .hifEvtLost] ps = true) : Touches ps s (State.fdbPut s a1 a2 a3) := by
  unfold State.fdbPut
  try extract_lets -merge -underBinder t0 t1
  refine Touches.haveS (t := t0) ?_ (fun ht0 => ?_)
  ·
    unfold t0
    with_reducible refine Touches.step ?_ (State.bumpVersion_touches _ _ ?_)
    on_goal 2 => exact Part.within_trans rfl hw
    with_reducible exact Touches.refl _ _
  try clear_value t0
  with_reducible refine Touches.set_fdb ?_ ?_
  on_goal 2 => exact Part.within_mem rfl hw
  with_reducible exact ht0

theorem State.learn_touches {ps : List Part} (s : State) (l : Learn) (hw : Part.within [.evt, .hif, .fdb, .pair, .rc .evtPinStat, .rc .evtSuppressed, .rc .fdbLearnCnt, .rc .fdbLearnFail, .rc .fdbLearnSkip, .rc .fdbMoveCnt, .rc .fdbStaticViol, .rc .hifEvtLost, .rc .pairMirOvf] ps = true) : Touches ps s (s.learn l) := by
  unfold State.learn
  have hb : ∀ (u : State) (f : FieldRef) i n, Part.within [.rc f.reg] ps = true → Touches ps u (u.bump f i n) :=
    fun u f i n h => State.bump_touches u f i n h
  have hm : ∀ (u : State) a b c d, Touches ps u (u.fdbMirror a b c d) := fun u a b c d => State.fdbMirror_touches _ _ _ _ _ (Part.within_trans rfl hw)
  split
  · refine Touches.ite (hb _ _ _ _ (Part.within_trans rfl hw)) ?_
    split
    · next t ht =>
      exact ((State.fdbInsert_touches _ _ _ _ (Part.within_trans rfl hw) ht).step (hb _ _ _ _ (Part.within_trans rfl hw))).step (hm _ _ _ _ _)
    · exact State.fdbFull_touches _ (Part.within_trans rfl hw)
  · refine Touches.ite (Touches.ite (Touches.set_fdb (Touches.refl _ _) (Part.within_mem rfl hw)) (hb _ _ _ _ (Part.within_trans rfl hw))) ?_
    refine Touches.ite ?_ (Touches.ite (hb _ _ _ _ (Part.within_trans rfl hw)) (Touches.ite (hb _ _ _ _ (Part.within_trans rfl hw)) ?_))
    · extract_lets src s1
      have h1 : Touches ps s s1 := Touches.set_fdb (Touches.refl _ _) (Part.within_mem rfl hw)
      exact Touches.ite (h1.step (hm _ _ _ _ _)) h1
    · exact ((State.fdbPut_touches _ _ _ _ (Part.within_trans rfl hw)).step (hb _ _ _ _ (Part.within_trans rfl hw))).step (hm _ _ _ _ _)

theorem State.fdbLearn_touches {ps : List Part} s a1 (hw : Part.within [.evt, .hif, .fdb, .pair, .rc .evtPinStat, .rc .evtSuppressed, .rc .fdbLearnCnt, .rc .fdbLearnFail, .rc .fdbLearnSkip, .rc .fdbMoveCnt, .rc .fdbStaticViol, .rc .hifEvtLost, .rc .pairMirOvf] ps = true) : Touches ps s (State.fdbLearn s a1) := by
  unfold State.fdbLearn
  split
  ·
    with_reducible exact Touches.refl _ _
  ·
    try extract_lets -merge -underBinder t0
    with_reducible refine Touches.step ?_ (State.learn_touches _ _ ?_)
    on_goal 2 => exact Part.within_trans rfl hw
    with_reducible refine Touches.set_fdb ?_ ?_
    on_goal 2 => exact Part.within_mem rfl hw
    with_reducible exact Touches.refl _ _

theorem State.queueLearn_touches {ps : List Part} s a1 (hw : Part.within [.fdb, .rc .fdbLearnSkip] ps = true) : Touches ps s (State.queueLearn s a1) := by
  unfold State.queueLearn
  try extract_lets -merge -underBinder t0 t1
  try clear_value t0
  with_reducible refine Touches.ite ?_ ?_
  ·
    with_reducible refine Touches.set_fdb ?_ ?_
    on_goal 2 => exact Part.within_mem rfl hw
    with_reducible exact Touches.refl _ _
  ·
    with_reducible refine Touches.step ?_ (State.bump_touches _ _ _ _ ?_)
    on_goal 2 => exact Part.within_trans rfl hw
    with_reducible exact Touches.refl _ _

theorem State.mchanCreate_touches {ps : List Part} s a1 (hw : Part.within [.keys, .hif, .index, .objs, .boot, .rc .hifRingAborted] ps = true) : Touches ps s (State.mchanCreate s a1) := by
  unfold State.mchanCreate
  with_reducible refine Touches.step ?_ (State.runCmd_touches _ _ _ _ _ ?_ (fun _ => ?_))
  on_goal 2 => exact Part.within_trans rfl hw
  ·
    with_reducible exact Touches.refl _ _
  ·
    try extract_lets -merge -underBinder t0 t1
    try clear_value t0
    refine Touches.haveS (t := t1) ?_ (fun ht1 => ?_)
    ·
      unfold t1
      with_reducible refine Touches.step ?_ (State.addObj_touches _ _ _ _ ?_)
      on_goal 2 => exact Part.within_trans rfl hw
      with_reducible exact Touches.refl _ _
    try clear_value t1
    with_reducible refine Touches.ite ?_ ?_
    ·
      with_reducible refine Touches.step ?_ (State.complete_touches _ _ _ _ _ _ _ ?_)
      on_goal 2 => exact Part.within_trans rfl hw
      with_reducible exact Touches.refl _ _
    ·
      with_reducible refine Touches.ite ?_ ?_
      ·
        with_reducible refine Touches.step ?_ (State.complete_touches _ _ _ _ _ _ _ ?_)
        on_goal 2 => exact Part.within_trans rfl hw
        with_reducible exact Touches.refl _ _
      ·
        with_reducible refine Touches.step ?_ (State.complete_touches _ _ _ _ _ _ _ ?_)
        on_goal 2 => exact Part.within_trans rfl hw
        with_reducible exact ht1

theorem State.lnkMasterSync_touches {ps : List Part} s a1 (hw : Part.within [.evt, .hif, .lnk, .tic, .cal, .rc .calAbortCnt, .rc .evtPinStat, .rc .evtSuppressed, .rc .hifEvtLost] ps = true) : Touches ps s (State.lnkMasterSync s a1) := by
  unfold State.lnkMasterSync
  try extract_lets -merge -underBinder t0
  try clear_value t0
  with_reducible refine Touches.ite ?_ ?_
  ·
    with_reducible refine Touches.ite ?_ ?_
    ·
      with_reducible refine Touches.step ?_ (State.lnkGo_touches _ _ _ _ ?_)
      on_goal 2 => exact Part.within_trans rfl hw
      with_reducible exact Touches.refl _ _
    ·
      with_reducible refine Touches.step ?_ (State.setLnk_touches _ _ _ ?_)
      on_goal 2 => exact Part.within_trans rfl hw
      with_reducible exact Touches.refl _ _
  ·
    with_reducible exact Touches.refl _ _

theorem State.addCopy_touches {ps : List Part} s a1 (hw : Part.within [.fab] ps = true) : Touches ps s (State.addCopy s a1) := by
  unfold State.addCopy
  try extract_lets -merge -underBinder t0
  with_reducible refine Touches.set_fab ?_ ?_
  on_goal 2 => exact Part.within_mem rfl hw
  with_reducible exact Touches.refl _ _

theorem State.mirrorCopy_touches {ps : List Part} s a1 a2 a3 a4 a5 a6 a7 (hw : Part.within [.fab, .rc .portDownDisc] ps = true) : Touches ps s (State.mirrorCopy s a1 a2 a3 a4 a5 a6 a7) := by
  unfold State.mirrorCopy
  try extract_lets -merge -underBinder t0 t1 t2
  try clear_value t0
  try clear_value t1
  try clear_value t2
  with_reducible refine Touches.ite ?_ ?_
  ·
    with_reducible exact Touches.refl _ _
  ·
    with_reducible refine Touches.ite ?_ ?_
    ·
      with_reducible refine Touches.step ?_ (State.bump_touches _ _ _ _ ?_)
      on_goal 2 => exact Part.within_trans rfl hw
      with_reducible exact Touches.refl _ _
    ·
      with_reducible refine Touches.step ?_ (State.addCopy_touches _ _ ?_)
      on_goal 2 => exact Part.within_trans rfl hw
      with_reducible exact Touches.refl _ _

theorem State.mirrorFrame_touches {ps : List Part} s a1 a2 a3 (hw : Part.within [.fab, .rc .portDownDisc] ps = true) : Touches ps s (State.mirrorFrame s a1 a2 a3) := by
  unfold State.mirrorFrame
  split
  ·
    with_reducible exact Touches.refl _ _
  ·
    try extract_lets -merge -underBinder t0
    try clear_value t0
    with_reducible refine Touches.foldl (fun _ _ => ?_) _ ?_
    ·
      try extract_lets -merge -underBinder t1 t2 t3 t4
      try clear_value t1
      try clear_value t2
      try clear_value t3
      refine Touches.haveS (t := t4) ?_ (fun ht4 => ?_)
      ·
        unfold t4
        with_reducible refine Touches.ite ?_ ?_
        ·
          with_reducible refine Touches.step ?_ (State.mirrorCopy_touches _ _ _ _ _ _ _ _ ?_)
          on_goal 2 => exact Part.within_trans rfl hw
          with_reducible exact Touches.refl _ _
        ·
          with_reducible exact Touches.refl _ _
      try clear_value t4
      with_reducible refine Touches.ite ?_ ?_
      ·
        with_reducible refine Touches.foldl (fun _ _ => ?_) _ ?_
        ·
          with_reducible refine Touches.step ?_ (State.mirrorCopy_touches _ _ _ _ _ _ _ _ ?_)
          on_goal 2 => exact Part.within_trans rfl hw
          with_reducible exact Touches.refl _ _
        ·
          with_reducible exact ht4
      ·
        with_reducible exact ht4
    ·
      with_reducible exact Touches.refl _ _

theorem State.lnkSnapBad_touches {ps : List Part} s a1 (hw : Part.within [.evt, .hif, .lnk, .tic, .cal, .rc .calAbortCnt, .rc .evtPinStat, .rc .evtSuppressed, .rc .hifEvtLost, .rc .lnkSnapErr] ps = true) : Touches ps s (State.lnkSnapBad s a1) := by
  unfold State.lnkSnapBad
  try extract_lets -merge -underBinder t0 t1 t2
  try clear_value t0
  refine Touches.haveS (t := t1) ?_ (fun ht1 => ?_)
  ·
    unfold t1
    with_reducible refine Touches.step ?_ (State.setLnk_touches _ _ _ ?_)
    on_goal 2 => exact Part.within_trans rfl hw
    with_reducible refine Touches.step ?_ (State.bump_touches _ _ _ _ ?_)
    on_goal 2 => exact Part.within_trans rfl hw
    with_reducible exact Touches.refl _ _
  try clear_value t1
  refine Touches.haveS (t := t2) ?_ (fun ht2 => ?_)
  ·
    unfold t2
    with_reducible refine Touches.step ?_ (State.raise_touches _ _ _ _ _ ?_)
    on_goal 2 => exact Part.within_trans rfl hw
    with_reducible exact ht1
  try clear_value t2
  with_reducible refine Touches.ite ?_ ?_
  ·
    with_reducible refine Touches.ite ?_ ?_
    ·
      with_reducible refine Touches.step ?_ (State.lnkGo_touches _ _ _ _ ?_)
      on_goal 2 => exact Part.within_trans rfl hw
      with_reducible exact ht2
    ·
      with_reducible exact ht2
  ·
    with_reducible exact ht1

theorem State.latchAt_touches {ps : List Part} (s : State) (p : Nat) (rx : Bool) (m : Int) (hw : Part.within [.evt, .hif, .lnk, .tic, .cal, .rc .calAbortCnt, .rc .evtPinStat, .rc .evtSuppressed, .rc .hifEvtLost, .rc .lnkSnapErr] ps = true) :
    Touches ps s (s.latchAt p rx m).1 := by
  unfold State.latchAt
  extract_lets -underBinder x t d mark
  have hm : ∀ u b, Touches ps u (mark u b) := fun u b => State.setLnk_touches _ _ _ (Part.within_trans rfl hw)
  split
  · exact hm _ _
  · split
    · exact (State.setLnk_touches _ _ _ (Part.within_trans rfl hw)).step (hm _ _)
    · exact (State.lnkSnapBad_touches _ _ (Part.within_trans rfl hw)).step (hm _ _)

theorem State.polGet_touches {ps : List Part} s a1 (hw : Part.within [.keys, .hif, .boot, .rc .hifRingAborted] ps = true) : Touches ps s (State.polGet s a1) := by
  unfold State.polGet
  with_reducible refine Touches.step ?_ (State.runCmd_touches _ _ _ _ _ ?_ (fun _ => ?_))
  on_goal 2 => exact Part.within_trans rfl hw
  ·
    with_reducible exact Touches.refl _ _
  ·
    with_reducible refine Touches.step ?_ (State.complete_touches _ _ _ _ _ _ _ ?_)
    on_goal 2 => exact Part.within_trans rfl hw
    with_reducible exact Touches.refl _ _

theorem State.timeStateTake_touches {ps : List Part} s a1 (hw : Part.within [.evt, .hif, .tcore, .ref, .pair, .rc .evtPinStat, .rc .evtSuppressed, .rc .hifEvtLost] ps = true) : Touches ps s (State.timeStateTake s a1) := by
  unfold State.timeStateTake
  try extract_lets -merge -underBinder t0 t1
  refine Touches.haveS (t := t1) ?_ (fun ht1 => ?_)
  ·
    unfold t1
    with_reducible refine Touches.set_pair ?_ ?_
    on_goal 2 => exact Part.within_mem rfl hw
    with_reducible exact Touches.refl _ _
  try clear_value t1
  with_reducible refine Touches.ite ?_ ?_
  ·
    with_reducible exact Touches.refl _ _
  ·
    with_reducible refine Touches.ite ?_ ?_
    ·
      with_reducible refine Touches.step ?_ (State.showMirror_touches _ _ ?_)
      on_goal 2 => exact Part.within_trans rfl hw
      with_reducible exact ht1
    ·
      with_reducible exact ht1

theorem State.queuedFrees_touches {ps : List Part} s a1 (hw : Part.within [.evt, .hif, .sw, .bpm, .rc .bpmDoubleFreeCnt, .rc .bpmForeignFreeCnt, .rc .evtPinStat, .rc .evtSuppressed, .rc .hifEvtLost] ps = true) : Touches ps s (State.queuedFrees s a1) := by
  unfold State.queuedFrees
  try extract_lets -merge -underBinder t0
  try clear_value t0
  with_reducible refine Touches.foldl (fun _ _ => ?_) _ ?_
  ·
    with_reducible refine Touches.step ?_ (State.freeBuf_touches _ _ _ ?_)
    on_goal 2 => exact Part.within_trans rfl hw
    with_reducible exact Touches.refl _ _
  ·
    with_reducible refine Touches.step ?_ (State.setPool_touches _ _ _ ?_)
    on_goal 2 => exact Part.within_trans rfl hw
    with_reducible exact Touches.refl _ _

theorem State.carveEffect_touches {ps : List Part} s (hw : Part.within [.evt, .hif, .sw, .fab, .bpm, .boot, .rc .bpmDoubleFreeCnt, .rc .bpmForeignFreeCnt, .rc .bpmPoolEmptyCnt, .rc .bpmPromoteCnt, .rc .evtPinStat, .rc .evtSuppressed, .rc .hifEvtLost, .rc .hifRingAborted] ps = true) : Touches ps s (State.carveEffect s) := by
  unfold State.carveEffect
  split
  ·
    with_reducible exact Touches.refl _ _
  ·
    try extract_lets -merge -underBinder t0 t1 t2
    refine Touches.haveS (t := t1) ?_ (fun ht1 => ?_)
    ·
      unfold t1
      with_reducible refine Touches.set_bpm ?_ ?_
      on_goal 2 => exact Part.within_mem rfl hw
      with_reducible exact Touches.refl _ _
    try clear_value t1
    refine Touches.haveS (t := t2) ?_ (fun ht2 => ?_)
    ·
      unfold t2
      with_reducible refine Touches.foldl (fun _ _ => ?_) _ ?_
      ·
        with_reducible refine Touches.step ?_ (State.queuedFrees_touches _ _ ?_)
        on_goal 2 => exact Part.within_trans rfl hw
        with_reducible exact Touches.refl _ _
      ·
        with_reducible exact ht1
    try clear_value t2
    with_reducible refine Touches.step ?_ (State.afterFree_touches _ ?_)
    on_goal 2 => exact Part.within_trans rfl hw
    with_reducible refine Touches.step ?_ (State.complete_touches _ _ _ _ _ _ _ ?_)
    on_goal 2 => exact Part.within_trans rfl hw
    with_reducible refine Touches.step ?_ (State.raise_touches _ _ _ _ _ ?_)
    on_goal 2 => exact Part.within_trans rfl hw
    with_reducible exact ht2

theorem State.carveRollback_touches {ps : List Part} s (hw : Part.within [.evt, .hif, .sw, .fab, .bpm, .boot, .rc .bpmDoubleFreeCnt, .rc .bpmForeignFreeCnt, .rc .bpmPoolEmptyCnt, .rc .bpmPromoteCnt, .rc .evtPinStat, .rc .evtSuppressed, .rc .hifEvtLost, .rc .hifRingAborted] ps = true) : Touches ps s (State.carveRollback s) := by
  unfold State.carveRollback
  split
  ·
    with_reducible exact Touches.refl _ _
  ·
    try extract_lets -merge -underBinder t0 t1 t2 t3 t4 t5
    try clear_value t0
    refine Touches.haveS (t := t2) ?_ (fun ht2 => ?_)
    ·
      unfold t2
      with_reducible refine Touches.set_bpm ?_ ?_
      on_goal 2 => exact Part.within_mem rfl hw
      with_reducible exact Touches.refl _ _
    try clear_value t2
    try clear_value t3
    refine Touches.haveS (t := t5) ?_ (fun ht5 => ?_)
    ·
      unfold t5
      with_reducible refine Touches.set_bpm ?_ ?_
      on_goal 2 => exact Part.within_mem rfl hw
      with_reducible exact ht2
    try clear_value t5
    with_reducible refine Touches.ite ?_ ?_
    ·
      with_reducible refine Touches.step ?_ (State.carveEffect_touches _ ?_)
      on_goal 2 => exact Part.within_trans rfl hw
      with_reducible exact Touches.refl _ _
    ·
      with_reducible refine Touches.step ?_ (State.afterFree_touches _ ?_)
      on_goal 2 => exact Part.within_trans rfl hw
      with_reducible refine Touches.step ?_ (State.complete_touches _ _ _ _ _ _ _ ?_)
      on_goal 2 => exact Part.within_trans rfl hw
      with_reducible exact ht5

theorem State.chanHears_touches {ps : List Part} s a1 (hw : Part.within [.evt, .hif, .tchans, .rc .evtPinStat, .rc .evtSuppressed, .rc .hifEvtLost] ps = true) : Touches ps s (State.chanHears s a1) := by
  unfold State.chanHears
  with_reducible refine Touches.ite ?_ ?_
  ·
    with_reducible refine Touches.step ?_ (State.setChanSt_touches _ _ _ ?_)
    on_goal 2 => exact Part.within_trans rfl hw
    with_reducible exact Touches.refl _ _
  ·
    with_reducible exact Touches.refl _ _

theorem State.masterChange_touches {ps : List Part} (s : State) (i : Nat) (hw : Part.within [.evt, .hif, .tchans, .ref, .pll, .eng, .rc .evtPinStat, .rc .evtSuppressed, .rc .hifEvtLost, .rc .pllCnt] ps = true) : Touches ps s (s.masterChange i) := by
  unfold State.masterChange
  extract_lets id s1 s2
  have h1 : Touches ps s s1 := (State.setChanSt_touches _ _ _ (Part.within_trans rfl hw)).step (State.raise_touches _ _ _ _ _ (Part.within_trans rfl hw))
  have h2 : Touches ps s s2 := h1.step (State.setCandSt_touches _ _ _ _ (Part.within_trans rfl hw))
  clear_value s1 s2
  exact Touches.set_ref h2 (Part.within_mem rfl hw)

theorem State.chanAnnounce_touches {ps : List Part} s a1 a2 (hw : Part.within [.clk, .evt, .hif, .tcore, .tchans, .ref, .pll, .eng, .pair, .pwr, .rc .evtPinStat, .rc .evtSuppressed, .rc .hifEvtLost, .rc .pairMirOvf, .rc .pllCnt, .rc .pwrWakeSrc] ps = true) : Touches ps s (State.chanAnnounce s a1 a2) := by
  unfold State.chanAnnounce
  try extract_lets -merge -underBinder t0 t1 t2 t3
  refine Touches.haveS (t := t0) ?_ (fun ht0 => ?_)
  ·
    unfold t0
    with_reducible refine Touches.step ?_ (State.chanHears_touches _ _ ?_)
    on_goal 2 => exact Part.within_trans rfl hw
    with_reducible exact Touches.refl _ _
  try clear_value t0
  try clear_value t1
  refine Touches.haveS (t := t2) ?_ (fun ht2 => ?_)
  ·
    unfold t2
    with_reducible refine Touches.ite ?_ ?_
    ·
      with_reducible refine Touches.step ?_ (State.masterChange_touches _ _ ?_)
      on_goal 2 => exact Part.within_trans rfl hw
      with_reducible exact ht0
    ·
      with_reducible exact ht0
  try clear_value t2
  with_reducible refine Touches.step ?_ (State.chanRank_touches _ _ ?_)
  on_goal 2 => exact Part.within_trans rfl hw
  with_reducible refine Touches.step ?_ (State.setTchan_touches _ _ _ ?_)
  on_goal 2 => exact Part.within_trans rfl hw
  with_reducible exact ht2

theorem State.gnssChRelease_touches {ps : List Part} s a1 (hw : Part.within [.regs, .evt, .hif, .gnss, .rc .evtPinStat, .rc .evtSuppressed, .rc .gnssLossCnt, .rc .hifEvtLost] ps = true) : Touches ps s (State.gnssChRelease s a1) := by
  unfold State.gnssChRelease
  with_reducible refine Touches.ite ?_ ?_
  ·
    with_reducible exact Touches.refl _ _
  ·
    with_reducible refine Touches.step ?_ (State.goGnssCh_touches _ _ _ ?_)
    on_goal 2 => exact Part.within_trans rfl hw
    with_reducible refine Touches.step ?_ (State.putBoth_touches _ _ _ _ _ ?_)
    on_goal 2 => exact Part.within_trans rfl hw
    with_reducible exact Touches.refl _ _

theorem State.objList_touches {ps : List Part} s a1 a2 (hw : Part.within [.keys, .hif, .boot, .rc .hifRingAborted] ps = true) : Touches ps s (State.objList s a1 a2) := by
  unfold State.objList
  with_reducible refine Touches.step ?_ (State.runCmd_touches _ _ _ _ _ ?_ (fun _ => ?_))
  on_goal 2 => exact Part.within_trans rfl hw
  ·
    with_reducible exact Touches.refl _ _
  ·
    try extract_lets -merge -underBinder t0 t1 t2
    try clear_value t0
    try clear_value t1
    try clear_value t2
    with_reducible refine Touches.step ?_ (State.complete_touches _ _ _ _ _ _ _ ?_)
    on_goal 2 => exact Part.within_trans rfl hw
    with_reducible exact Touches.refl _ _

theorem State.evtSuppressWindow_touches {ps : List Part} s a1 a2 (hw : Part.within [.evt, .hif, .rc .evtPinStat, .rc .evtSuppressed, .rc .hifEvtLost] ps = true) : Touches ps s (State.evtSuppressWindow s a1 a2) := by
  unfold State.evtSuppressWindow
  split
  ·
    with_reducible exact Touches.refl _ _
  ·
    try extract_lets -merge -underBinder t0 t1
    refine Touches.haveS (t := t1) ?_ (fun ht1 => ?_)
    ·
      unfold t1
      with_reducible refine Touches.set_evt ?_ ?_
      on_goal 2 => exact Part.within_mem rfl hw
      with_reducible exact Touches.refl _ _
    try clear_value t1
    with_reducible refine Touches.ite ?_ ?_
    ·
      with_reducible refine Touches.step ?_ (State.emit_touches _ _ _ _ _ ?_)
      on_goal 2 => exact Part.within_trans rfl hw
      with_reducible exact ht1
    ·
      with_reducible exact ht1

theorem State.sweepSent_touches {ps : List Part} s (hw : Part.within [.evt, .hif, .sw, .fab, .bpm, .fdb, .free, .eng, .rc .bpmDoubleFreeCnt, .rc .bpmForeignFreeCnt, .rc .evtPinStat, .rc .evtSuppressed, .rc .hifEvtLost, .rc .perfTagDrop] ps = true) : Touches ps s (State.sweepSent s) := by
  unfold State.sweepSent
  with_reducible refine Touches.foldl (fun _ _ => ?_) _ ?_
  ·
    with_reducible refine Touches.step ?_ (State.removeCopy_touches _ _ ?_)
    on_goal 2 => exact Part.within_trans rfl hw
    with_reducible exact Touches.refl _ _
  ·
    with_reducible exact Touches.refl _ _

theorem State.unlinkBuf_touches {ps : List Part} s a1 (hw : Part.within [.fab] ps = true) : Touches ps s (State.unlinkBuf s a1) := by
  unfold State.unlinkBuf
  try extract_lets -merge -underBinder t0
  with_reducible refine Touches.set_fab ?_ ?_
  on_goal 2 => exact Part.within_mem rfl hw
  with_reducible exact Touches.refl _ _

theorem State.bpmFree_touches {ps : List Part} (s : State) (b r : Nat) (hw : Part.within [.evt, .hif, .sw, .fab, .bpm, .fdb, .free, .eng, .rc .bpmDoubleFreeCnt, .rc .bpmForeignFreeCnt, .rc .bpmPoolEmptyCnt, .rc .bpmPromoteCnt, .rc .evtPinStat, .rc .evtSuppressed, .rc .hifEvtLost, .rc .perfTagDrop] ps = true) : Touches ps s (s.bpmFree b r) := by
  unfold State.bpmFree
  extract_lets x
  have hx : Touches ps s x.1 := State.freeBuf_touches _ _ _ (Part.within_trans rfl hw)
  refine Touches.ite ?_ hx
  exact ((hx.step (State.unlinkBuf_touches _ _ (Part.within_trans rfl hw))).step (State.sweepSent_touches _ (Part.within_trans rfl hw))).step
    (State.afterFree_touches _ (Part.within_trans rfl hw))

theorem State.gnssChDataSync_touches {ps : List Part} s a1 (hw : Part.within [.evt, .hif, .gnss, .rc .evtPinStat, .rc .evtSuppressed, .rc .gnssLossCnt, .rc .hifEvtLost] ps = true) : Touches ps s (State.gnssChDataSync s a1) := by
  unfold State.gnssChDataSync
  try extract_lets -merge -underBinder t0
  with_reducible refine Touches.ite ?_ ?_
  ·
    with_reducible refine Touches.step ?_ (State.goGnssCh_touches _ _ _ ?_)
    on_goal 2 => exact Part.within_trans rfl hw
    with_reducible refine Touches.step ?_ (State.setGnssCh_touches _ _ _ ?_)
    on_goal 2 => exact Part.within_trans rfl hw
    with_reducible exact Touches.refl _ _
  ·
    with_reducible exact Touches.refl _ _

theorem State.rampEffects_touches {ps : List Part} s a1 (hw : Part.within [.evt, .hif, .tchans, .lnk, .free, .tic, .cal, .rc .calAbortCnt, .rc .evtPinStat, .rc .evtSuppressed, .rc .hifEvtLost] ps = true) : Touches ps s (State.rampEffects s a1) := by
  unfold State.rampEffects
  with_reducible refine Touches.ite ?_ ?_
  ·
    with_reducible exact Touches.refl _ _
  ·
    with_reducible refine Touches.foldl (fun _ _ => ?_) _ ?_
    ·
      with_reducible refine Touches.ite ?_ ?_
      ·
        with_reducible refine Touches.step ?_ (State.lnkPhiLost_touches _ _ ?_)
        on_goal 2 => exact Part.within_trans rfl hw
        with_reducible exact Touches.refl _ _
      ·
        with_reducible refine Touches.step ?_ (State.lnkPhiValid_touches _ _ ?_)
        on_goal 2 => exact Part.within_trans rfl hw
        with_reducible exact Touches.refl _ _
    ·
      with_reducible exact Touches.refl _ _

theorem State.setRamp_touches {ps : List Part} s a1 a2 (hw : Part.within [.pll, .eng] ps = true) : Touches ps s (State.setRamp s a1 a2) := by
  unfold State.setRamp
  try extract_lets -merge -underBinder t0 t1
  refine Touches.haveS (t := t0) ?_ (fun ht0 => ?_)
  ·
    unfold t0
    with_reducible refine Touches.ite ?_ ?_
    ·
      with_reducible refine Touches.step ?_ (State.ltxFold_touches _ ?_)
      on_goal 2 => exact Part.within_trans rfl hw
      with_reducible exact Touches.refl _ _
    ·
      with_reducible refine Touches.ite ?_ ?_
      ·
        with_reducible refine Touches.step ?_ (State.cycFold_touches _ ?_)
        on_goal 2 => exact Part.within_trans rfl hw
        with_reducible exact Touches.refl _ _
      ·
        with_reducible exact Touches.refl _ _
  try clear_value t0
  with_reducible refine Touches.step ?_ (State.setPll_touches _ _ _ ?_)
  on_goal 2 => exact Part.within_trans rfl hw
  with_reducible exact ht0

theorem State.rampSegmentEnd_touches {ps : List Part} s a1 (hw : Part.within [.evt, .hif, .tchans, .lnk, .free, .pll, .tic, .cal, .eng, .rc .calAbortCnt, .rc .evtPinStat, .rc .evtSuppressed, .rc .hifEvtLost] ps = true) : Touches ps s (State.rampSegmentEnd s a1) := by
  unfold State.rampSegmentEnd
  try extract_lets -merge -underBinder t0
  try clear_value t0
  split
  ·
    with_reducible exact Touches.refl _ _
  ·
    try extract_lets -merge -underBinder t1 t2 t3
    try clear_value t1
    try clear_value t2
    try clear_value t3
    with_reducible refine Touches.ite ?_ ?_
    ·
      with_reducible refine Touches.step ?_ (State.rampEffects_touches _ _ ?_)
      on_goal 2 => exact Part.within_trans rfl hw
      with_reducible refine Touches.step ?_ (State.setRamp_touches _ _ _ ?_)
      on_goal 2 => exact Part.within_trans rfl hw
      with_reducible exact Touches.refl _ _
    ·
      with_reducible refine Touches.ite ?_ ?_
      ·
        with_reducible refine Touches.step ?_ (State.rampEffects_touches _ _ ?_)
        on_goal 2 => exact Part.within_trans rfl hw
        with_reducible refine Touches.step ?_ (State.setRamp_touches _ _ _ ?_)
        on_goal 2 => exact Part.within_trans rfl hw
        with_reducible exact Touches.refl _ _
      ·
        with_reducible refine Touches.step ?_ (State.raise_touches _ _ _ _ _ ?_)
        on_goal 2 => exact Part.within_trans rfl hw
        with_reducible refine Touches.step ?_ (State.rampEffects_touches _ _ ?_)
        on_goal 2 => exact Part.within_trans rfl hw
        with_reducible refine Touches.step ?_ (State.setRamp_touches _ _ _ ?_)
        on_goal 2 => exact Part.within_trans rfl hw
        with_reducible exact Touches.refl _ _

theorem State.txCompletion_touches {ps : List Part} s a1 (hw : Part.within [.evt, .hif, .sw, .fab, .bpm, .fdb, .free, .eng, .rc .bpmDoubleFreeCnt, .rc .bpmForeignFreeCnt, .rc .bpmPoolEmptyCnt, .rc .bpmPromoteCnt, .rc .evtPinStat, .rc .evtSuppressed, .rc .hifEvtLost, .rc .hifRingAborted, .rc .perfTagDrop] ps = true) : Touches ps s (State.txCompletion s a1) := by
  unfold State.txCompletion
  split
  ·
    with_reducible exact Touches.refl _ _
  ·
    split
    ·
      with_reducible exact Touches.refl _ _
    ·
      with_reducible refine Touches.step ?_ (State.txEnd_touches _ _ _ _ ?_)
      on_goal 2 => exact Part.within_trans rfl hw
      with_reducible exact Touches.refl _ _

theorem State.deadlineEpisode_touches {ps : List Part} s a1 (hw : Part.within [.fab] ps = true) : Touches ps s (State.deadlineEpisode s a1) := by
  unfold State.deadlineEpisode
  try extract_lets -merge -underBinder t0
  with_reducible refine Touches.ite ?_ ?_
  ·
    with_reducible refine Touches.step ?_ (State.setPort_touches _ _ _ ?_)
    on_goal 2 => exact Part.within_trans rfl hw
    with_reducible exact Touches.refl _ _
  ·
    with_reducible exact Touches.refl _ _

theorem State.pauseReceive_touches {ps : List Part} s a1 a2 a3 a4 (hw : Part.within [.fab, .rc .portPauseRx] ps = true) : Touches ps s (State.pauseReceive s a1 a2 a3 a4) := by
  unfold State.pauseReceive
  try extract_lets -merge -underBinder t0 t1
  refine Touches.haveS (t := t0) ?_ (fun ht0 => ?_)
  ·
    unfold t0
    with_reducible refine Touches.step ?_ (State.bump_touches _ _ _ _ ?_)
    on_goal 2 => exact Part.within_trans rfl hw
    with_reducible exact Touches.refl _ _
  try clear_value t0
  try clear_value t1
  with_reducible refine Touches.ite ?_ ?_
  ·
    with_reducible exact Touches.refl _ _
  ·
    with_reducible refine Touches.step ?_ (State.deadlineEpisode_touches _ _ ?_)
    on_goal 2 => exact Part.within_trans rfl hw
    with_reducible refine Touches.step ?_ (State.setPort_touches _ _ _ ?_)
    on_goal 2 => exact Part.within_trans rfl hw
    with_reducible exact ht0

theorem State.portJoin_touches {ps : List Part} s a1 (hw : Part.within [.ready, .regs, .evt, .hif, .grps, .fab, .cal, .rc .evtPinStat, .rc .evtSuppressed, .rc .hifEvtLost, .rc .portHoldResume] ps = true) : Touches ps s (State.portJoin s a1) := by
  unfold State.portJoin
  with_reducible refine Touches.ite ?_ ?_
  ·
    with_reducible exact Touches.refl _ _
  ·
    with_reducible refine Touches.step ?_ (State.grpCheck_touches _ _ ?_)
    on_goal 2 => exact Part.within_trans rfl hw
    with_reducible refine Touches.step ?_ (State.portUp_touches _ _ ?_)
    on_goal 2 => exact Part.within_trans rfl hw
    with_reducible exact Touches.refl _ _

theorem State.swapCores_touches {ps : List Part} s (hw : Part.within [.clk, .evt, .hif, .fab, .tcore, .pll, .rc .evtPinStat, .rc .evtSuppressed, .rc .hifEvtLost] ps = true) : Touches ps s (State.swapCores s) := by
  unfold State.swapCores
  try extract_lets -merge -underBinder t0 t1 t2 t3
  try clear_value t0
  refine Touches.haveS (t := t3) ?_ (fun ht3 => ?_)
  ·
    unfold t3
    refine Touches.mk hw ?_
    with_reducible exact Touches.refl _ _
  try clear_value t3
  with_reducible refine Touches.step ?_ (State.raise_touches _ _ _ _ _ ?_)
  on_goal 2 => exact Part.within_trans rfl hw
  with_reducible refine Touches.step ?_ (State.gatesResync_touches _ ?_)
  on_goal 2 => exact Part.within_trans rfl hw
  with_reducible refine Touches.step ?_ (State.ltxMove_touches _ _ ?_)
  on_goal 2 => exact Part.within_trans rfl hw
  with_reducible exact ht3

theorem State.trackSec_touches {ps : List Part} s (hw : Part.within [.tcore] ps = true) : Touches ps s (State.trackSec s) := by
  unfold State.trackSec
  try extract_lets -merge -underBinder t0
  with_reducible refine Touches.ite ?_ ?_
  ·
    with_reducible refine Touches.set_tcore ?_ ?_
    on_goal 2 => exact Part.within_mem rfl hw
    with_reducible exact Touches.refl _ _
  ·
    with_reducible exact Touches.refl _ _

theorem State.refSec_touches {ps : List Part} s (hw : Part.within [.ref] ps = true) : Touches ps s (State.refSec s) := by
  unfold State.refSec
  try extract_lets -merge -underBinder t0 t1 t2 t3
  try clear_value t0
  try clear_value t1
  try clear_value t2
  with_reducible refine Touches.set_ref ?_ ?_
  on_goal 2 => exact Part.within_mem rfl hw
  with_reducible exact Touches.refl _ _

theorem State.pairSec_touches {ps : List Part} s (hw : Part.within [.pair] ps = true) : Touches ps s (State.pairSec s) := by
  unfold State.pairSec
  try extract_lets -merge -underBinder t0
  with_reducible refine Touches.ite ?_ ?_
  ·
    with_reducible refine Touches.set_pair ?_ ?_
    on_goal 2 => exact Part.within_mem rfl hw
    with_reducible exact Touches.refl _ _
  ·
    with_reducible exact Touches.refl _ _

theorem State.pairSwitch_touches {ps : List Part} s (hw : Part.within [.clk, .evt, .hif, .fdb, .tcore, .ref, .free, .pair, .pwr, .boot, .rc .evtPinStat, .rc .evtSuppressed, .rc .hifEvtLost, .rc .hifRingAborted, .rc .pairMirOvf, .rc .pairPromoteCnt, .rc .pwrWakeSrc] ps = true) : Touches ps s (State.pairSwitch s) := by
  unfold State.pairSwitch
  split
  ·
    with_reducible exact Touches.refl _ _
  ·
    try extract_lets -merge -underBinder t0 t1 t2 t3
    try clear_value t0
    refine Touches.haveS (t := t2) ?_ (fun ht2 => ?_)
    ·
      unfold t2
      with_reducible refine Touches.set_pair ?_ ?_
      on_goal 2 => exact Part.within_mem rfl hw
      with_reducible exact Touches.refl _ _
    try clear_value t2
    with_reducible refine Touches.ite ?_ ?_
    ·
      with_reducible exact Touches.refl _ _
    ·
      with_reducible refine Touches.ite ?_ ?_
      ·
        with_reducible refine Touches.step ?_ (State.pairPromote_touches _ _ _ ?_)
        on_goal 2 => exact Part.within_trans rfl hw
        with_reducible exact ht2
      ·
        with_reducible refine Touches.step ?_ (State.startFollow_touches _ ?_)
        on_goal 2 => exact Part.within_trans rfl hw
        with_reducible refine Touches.set_pair ?_ ?_
        on_goal 2 => exact Part.within_mem rfl hw
        with_reducible exact ht2

theorem State.setNow_touches {ps : List Part} s a1 (hw : Part.within [.clk, .keys, .regs, .evt, .hif, .index, .objs, .lanes, .grps, .sw, .fab, .bpm, .fdb, .tcore, .tchans, .lnk, .ref, .free, .pll, .tic, .cal, .eng, .pair, .pwr, .boot, .rc .bpmDoubleFreeCnt, .rc .bpmForeignFreeCnt, .rc .bpmPoolEmptyCnt, .rc .bpmPromoteCnt, .rc .calAbortCnt, .rc .evtPinStat, .rc .evtSuppressed, .rc .hifEvtLost, .rc .hifRingAborted, .rc .pairMirOvf, .rc .pairPromoteCnt, .rc .perfTagDrop, .rc .pllCnt, .rc .portHoldFlush, .rc .pwrWakeSrc] ps = true) : Touches ps s (State.setNow s a1) := by
  unfold State.setNow
  try extract_lets -merge -underBinder t0 t1 t2 t3 t4
  try clear_value t0
  refine Touches.haveS (t := t2) ?_ (fun ht2 => ?_)
  ·
    unfold t2
    with_reducible refine Touches.step ?_ (State.moveCores_touches _ _ _ ?_)
    on_goal 2 => exact Part.within_trans rfl hw
    with_reducible exact Touches.refl _ _
  try clear_value t2
  refine Touches.haveS (t := t4) ?_ (fun ht4 => ?_)
  ·
    unfold t4
    with_reducible refine Touches.set_tcore ?_ ?_
    on_goal 2 => exact Part.within_mem rfl hw
    with_reducible exact ht2
  try clear_value t4
  with_reducible refine Touches.step ?_ (State.complete_touches _ _ _ _ _ _ _ ?_)
  on_goal 2 => exact Part.within_trans rfl hw
  with_reducible exact ht4

theorem State.waitingSteps_touches {ps : List Part} s (hw : Part.within [.clk, .keys, .regs, .evt, .hif, .index, .objs, .lanes, .grps, .sw, .fab, .bpm, .fdb, .tcore, .tchans, .lnk, .ref, .free, .pll, .tic, .cal, .eng, .pair, .pwr, .boot, .rc .bpmDoubleFreeCnt, .rc .bpmForeignFreeCnt, .rc .bpmPoolEmptyCnt, .rc .bpmPromoteCnt, .rc .calAbortCnt, .rc .evtPinStat, .rc .evtSuppressed, .rc .hifEvtLost, .rc .hifRingAborted, .rc .pairMirOvf, .rc .pairPromoteCnt, .rc .perfTagDrop, .rc .pllCnt, .rc .portHoldFlush, .rc .pwrWakeSrc] ps = true) : Touches ps s (State.waitingSteps s) := by
  unfold State.waitingSteps
  try extract_lets -merge -underBinder t0
  with_reducible refine Touches.foldl (fun _ _ => ?_) _ ?_
  ·
    with_reducible refine Touches.ite ?_ ?_
    ·
      with_reducible refine Touches.step ?_ (State.setNow_touches _ _ ?_)
      on_goal 2 => exact Part.within_trans rfl hw
      with_reducible exact Touches.refl _ _
    ·
      with_reducible refine Touches.step ?_ (State.stepNow_touches _ _ ?_)
      on_goal 2 => exact Part.within_trans rfl hw
      with_reducible exact Touches.refl _ _
  ·
    with_reducible refine Touches.set_tcore ?_ ?_
    on_goal 2 => exact Part.within_mem rfl hw
    with_reducible exact Touches.refl _ _

theorem State.calSaveEnd_touches {ps : List Part} s (hw : Part.within [.evt, .pers, .hif, .free, .cal, .boot, .rc .calStoreFail, .rc .evtPinStat, .rc .evtSuppressed, .rc .hifEvtLost, .rc .hifRingAborted] ps = true) : Touches ps s (State.calSaveEnd s) := by
  unfold State.calSaveEnd
  split
  ·
    with_reducible exact Touches.refl _ _
  ·
    try extract_lets -merge -underBinder t0 t1 t2 t3 t4 t5
    try clear_value t0
    try clear_value t1
    refine Touches.haveS (t := t2) ?_ (fun ht2 => ?_)
    ·
      unfold t2
      with_reducible refine Touches.step ?_ (State.setCalSlot_touches _ _ _ ?_)
      on_goal 2 => exact Part.within_trans rfl hw
      with_reducible exact Touches.refl _ _
    try clear_value t2
    refine Touches.haveS (t := t3) ?_ (fun ht3 => ?_)
    ·
      unfold t3
      with_reducible refine Touches.foldl (fun _ _ => ?_) _ ?_
      ·
        with_reducible refine Touches.step ?_ (State.calTry_touches _ _ _ ?_)
        on_goal 2 => exact Part.within_trans rfl hw
        with_reducible exact Touches.refl _ _
      ·
        with_reducible exact ht2
    try clear_value t3
    refine Touches.haveS (t := t4) ?_ (fun ht4 => ?_)
    ·
      unfold t4
      with_reducible refine Touches.step ?_ (State.calTry_touches _ _ _ ?_)
      on_goal 2 => exact Part.within_trans rfl hw
      with_reducible exact ht3
    try clear_value t4
    with_reducible refine Touches.step ?_ (State.complete_touches _ _ _ _ _ _ _ ?_)
    on_goal 2 => exact Part.within_trans rfl hw
    refine Touches.mk hw ?_
    with_reducible exact ht4

theorem State.selSec_touches {ps : List Part} s (hw : Part.within [.clk, .evt, .hif, .tcore, .tchans, .ref, .pll, .eng, .pair, .pwr, .rc .evtPinStat, .rc .evtSuppressed, .rc .hifEvtLost, .rc .pairMirOvf, .rc .pllCnt, .rc .pwrWakeSrc] ps = true) : Touches ps s (State.selSec s) := by
  unfold State.selSec
  try extract_lets -merge -underBinder t0
  with_reducible refine Touches.ite ?_ ?_
  ·
    with_reducible refine Touches.step ?_ (State.reselect_touches _ ?_)
    on_goal 2 => exact Part.within_trans rfl hw
    with_reducible refine Touches.set_ref ?_ ?_
    on_goal 2 => exact Part.within_mem rfl hw
    with_reducible exact Touches.refl _ _
  ·
    with_reducible exact Touches.refl _ _

theorem State.lnkSec_touches {ps : List Part} s (hw : Part.within [.lnk] ps = true) : Touches ps s (State.lnkSec s) := by
  unfold State.lnkSec
  try extract_lets -merge -underBinder t0
  with_reducible refine Touches.set_lnk ?_ ?_
  on_goal 2 => exact Part.within_mem rfl hw
  with_reducible exact Touches.refl _ _

theorem State.gnssModeSec_touches {ps : List Part} s (hw : Part.within [.evt, .hif, .gnss, .rc .evtPinStat, .rc .evtSuppressed, .rc .hifEvtLost] ps = true) : Touches ps s (State.gnssModeSec s) := by
  unfold State.gnssModeSec
  try extract_lets -merge -underBinder t0 t1
  try clear_value t0
  with_reducible refine Touches.ite ?_ ?_
  ·
    with_reducible exact Touches.refl _ _
  ·
    with_reducible refine Touches.step ?_ (State.raise_touches _ _ _ _ _ ?_)
    on_goal 2 => exact Part.within_trans rfl hw
    with_reducible refine Touches.set_gnss ?_ ?_
    on_goal 2 => exact Part.within_mem rfl hw
    with_reducible exact Touches.refl _ _

theorem State.atSecond_touches {ps : List Part} s (hw : Part.within [.clk, .keys, .regs, .evt, .pers, .hif, .index, .objs, .lanes, .grps, .sw, .fab, .bpm, .fdb, .tcore, .tchans, .lnk, .ref, .free, .pll, .gnss, .tic, .cal, .eng, .pair, .pwr, .boot, .rc .bpmDoubleFreeCnt, .rc .bpmForeignFreeCnt, .rc .bpmPoolEmptyCnt, .rc .bpmPromoteCnt, .rc .calAbortCnt, .rc .calStoreFail, .rc .evtPinStat, .rc .evtSuppressed, .rc .hifEvtLost, .rc .hifRingAborted, .rc .pairMirOvf, .rc .pairPromoteCnt, .rc .perfTagDrop, .rc .pllCnt, .rc .portHoldFlush, .rc .pwrWakeSrc] ps = true) : Touches ps s (State.atSecond s) := by
  unfold State.atSecond
  try extract_lets -merge -underBinder t0 t1 t2 t3
  refine Touches.haveS (t := t0) ?_ (fun ht0 => ?_)
  ·
    unfold t0
    with_reducible refine Touches.step ?_ (State.markSecond_touches _ ?_)
    on_goal 2 => exact Part.within_trans rfl hw
    with_reducible exact Touches.refl _ _
  try clear_value t0
  try clear_value t1
  refine Touches.haveS (t := t2) ?_ (fun ht2 => ?_)
  ·
    unfold t2
    with_reducible refine Touches.ite ?_ ?_
    ·
      with_reducible refine Touches.step ?_ (State.swapCores_touches _ ?_)
      on_goal 2 => exact Part.within_trans rfl hw
      with_reducible exact ht0
    ·
      with_reducible refine Touches.step ?_ (State.trackSec_touches _ ?_)
      on_goal 2 => exact Part.within_trans rfl hw
      with_reducible exact ht0
  try clear_value t2
  refine Touches.haveS (t := t3) ?_ (fun ht3 => ?_)
  ·
    unfold t3
    with_reducible refine Touches.step ?_ (State.refSec_touches _ ?_)
    on_goal 2 => exact Part.within_trans rfl hw
    with_reducible refine Touches.step ?_ (State.pairSec_touches _ ?_)
    on_goal 2 => exact Part.within_trans rfl hw
    with_reducible refine Touches.step ?_ (State.pairSwitch_touches _ ?_)
    on_goal 2 => exact Part.within_trans rfl hw
    with_reducible refine Touches.step ?_ (State.secPoint_touches _ ?_)
    on_goal 2 => exact Part.within_trans rfl hw
    with_reducible exact ht2
  try clear_value t3
  with_reducible refine Touches.step ?_ (State.waitingSteps_touches _ ?_)
  on_goal 2 => exact Part.within_trans rfl hw
  with_reducible refine Touches.step ?_ (State.calSaveEnd_touches _ ?_)
  on_goal 2 => exact Part.within_trans rfl hw
  with_reducible refine Touches.step ?_ (State.selSec_touches _ ?_)
  on_goal 2 => exact Part.within_trans rfl hw
  with_reducible refine Touches.step ?_ (State.lnkSec_touches _ ?_)
  on_goal 2 => exact Part.within_trans rfl hw
  with_reducible refine Touches.step ?_ (State.ppsSec_touches _ ?_)
  on_goal 2 => exact Part.within_trans rfl hw
  with_reducible refine Touches.step ?_ (State.gnssModeSec_touches _ ?_)
  on_goal 2 => exact Part.within_trans rfl hw
  with_reducible exact ht3

theorem State.secondBoundary_touches {ps : List Part} s (hw : Part.within [.clk, .keys, .regs, .evt, .pers, .hif, .index, .objs, .lanes, .grps, .sw, .fab, .bpm, .fdb, .tcore, .tchans, .lnk, .ref, .free, .pll, .gnss, .tic, .cal, .eng, .pair, .pwr, .boot, .rc .bpmDoubleFreeCnt, .rc .bpmForeignFreeCnt, .rc .bpmPoolEmptyCnt, .rc .bpmPromoteCnt, .rc .calAbortCnt, .rc .calStoreFail, .rc .evtPinStat, .rc .evtSuppressed, .rc .hifEvtLost, .rc .hifRingAborted, .rc .pairMirOvf, .rc .pairPromoteCnt, .rc .perfTagDrop, .rc .pllCnt, .rc .portHoldFlush, .rc .pwrWakeSrc] ps = true) : Touches ps s (State.secondBoundary s) := by
  unfold State.secondBoundary
  try extract_lets -merge -underBinder t0 t1
  try clear_value t0
  with_reducible refine Touches.step ?_ (State.atSecond_touches _ ?_)
  on_goal 2 => exact Part.within_trans rfl hw
  with_reducible refine Touches.set_clk ?_ ?_
  on_goal 2 => exact Part.within_mem rfl hw
  with_reducible exact Touches.refl _ _

theorem State.secondEvent_touches {ps : List Part} s (hw : Part.within [.clk, .keys, .regs, .evt, .pers, .hif, .index, .objs, .lanes, .grps, .sw, .fab, .bpm, .fdb, .tcore, .tchans, .lnk, .ref, .free, .pll, .gnss, .tic, .cal, .eng, .pair, .pwr, .boot, .rc .bpmDoubleFreeCnt, .rc .bpmForeignFreeCnt, .rc .bpmPoolEmptyCnt, .rc .bpmPromoteCnt, .rc .calAbortCnt, .rc .calStoreFail, .rc .evtPinStat, .rc .evtSuppressed, .rc .hifEvtLost, .rc .hifRingAborted, .rc .pairMirOvf, .rc .pairPromoteCnt, .rc .perfTagDrop, .rc .pllCnt, .rc .portHoldFlush, .rc .pwrWakeSrc] ps = true) : Touches ps s (State.secondEvent s) := by
  unfold State.secondEvent
  with_reducible refine Touches.ite ?_ ?_
  ·
    with_reducible refine Touches.step ?_ (State.heldSecond_touches _ ?_)
    on_goal 2 => exact Part.within_trans rfl hw
    with_reducible exact Touches.refl _ _
  ·
    with_reducible refine Touches.ite ?_ ?_
    ·
      with_reducible refine Touches.step ?_ (State.secondBoundary_touches _ ?_)
      on_goal 2 => exact Part.within_trans rfl hw
      with_reducible exact Touches.refl _ _
    ·
      with_reducible exact Touches.refl _ _

theorem State.fdbRec_touches {ps : List Part} (s : State) (r : FdbRec) (hw : Part.within [.evt, .hif, .fdb, .rc .evtPinStat, .rc .evtSuppressed, .rc .fdbLearnFail, .rc .fdbLearnSkip, .rc .hifEvtLost] ps = true) : Touches ps s (s.fdbRec r) := by
  unfold State.fdbRec
  extract_lets cross
  refine Touches.ite (Touches.refl _ _) (Touches.ite (State.bump_touches _ _ _ _ (Part.within_trans rfl hw)) ?_)
  split
  · exact Touches.ite (Touches.refl _ _) (Touches.ite
      (Touches.ite (State.fdbRemove_touches _ _ _ (Part.within_trans rfl hw)) (Touches.refl _ _))
      (State.fdbPut_touches _ _ _ _ (Part.within_trans rfl hw)))
  · exact Touches.ite (Touches.refl _ _) (Touches.getD (State.fdbFull_touches _ (Part.within_trans rfl hw))
      (fun t ht => State.fdbInsert_touches _ _ _ _ (Part.within_trans rfl hw) ht))

theorem State.flowAnswer_touches {ps : List Part} s a1 (hw : Part.within [.keys, .regs, .evt, .hif, .index, .objs, .sw, .fab, .bpm, .fdb, .free, .eng, .pair, .boot, .rc .bpmDoubleFreeCnt, .rc .bpmForeignFreeCnt, .rc .bpmPoolEmptyCnt, .rc .bpmPromoteCnt, .rc .evtPinStat, .rc .evtSuppressed, .rc .hifEvtLost, .rc .hifRingAborted, .rc .pairMirOvf, .rc .perfTagDrop] ps = true) : Touches ps s (State.flowAnswer s a1) := by
  unfold State.flowAnswer
  try extract_lets -merge -underBinder t0
  try clear_value t0
  split
  ·
    with_reducible refine Touches.ite ?_ ?_
    ·
      with_reducible refine Touches.step ?_ (State.admGo_touches _ ?_)
      on_goal 2 => exact Part.within_trans rfl hw
      with_reducible refine Touches.step ?_ (State.flowGrant_touches _ _ ?_)
      on_goal 2 => exact Part.within_trans rfl hw
      with_reducible exact Touches.refl _ _
    ·
      with_reducible refine Touches.step ?_ (State.admGo_touches _ ?_)
      on_goal 2 => exact Part.within_trans rfl hw
      with_reducible refine Touches.step ?_ (State.flowRefuse_touches _ _ _ ?_)
      on_goal 2 => exact Part.within_trans rfl hw
      with_reducible exact Touches.refl _ _
  ·
    with_reducible refine Touches.step ?_ (State.raiseIf_touches _ _ _ _ _ _ ?_)
    on_goal 2 => exact Part.within_trans rfl hw
    with_reducible exact Touches.refl _ _

theorem State.flowMirrorPhase_touches {ps : List Part} s a1 a2 (hw : Part.within [.evt, .hif, .objs, .sw, .fab, .bpm, .fdb, .free, .eng, .rc .bpmDoubleFreeCnt, .rc .bpmForeignFreeCnt, .rc .bpmPoolEmptyCnt, .rc .bpmPromoteCnt, .rc .evtPinStat, .rc .evtSuppressed, .rc .hifEvtLost, .rc .hifRingAborted, .rc .perfTagDrop] ps = true) : Touches ps s (State.flowMirrorPhase s a1 a2) := by
  unfold State.flowMirrorPhase
  try extract_lets -merge -underBinder t0 t1 t2
  try clear_value t0
  refine Touches.haveS (t := t1) ?_ (fun ht1 => ?_)
  ·
    unfold t1
    with_reducible refine Touches.ite ?_ ?_
    ·
      with_reducible refine Touches.step ?_ (State.flowResume_touches _ _ ?_)
      on_goal 2 => exact Part.within_trans rfl hw
      with_reducible exact Touches.refl _ _
    ·
      with_reducible refine Touches.step ?_ (State.flowAbort_touches _ _ ?_)
      on_goal 2 => exact Part.within_trans rfl hw
      with_reducible exact Touches.refl _ _
  try clear_value t1
  with_reducible refine Touches.ite ?_ ?_
  ·
    with_reducible exact Touches.refl _ _
  ·
    with_reducible refine Touches.step ?_ (State.setObj_touches _ _ _ _ ?_)
    on_goal 2 => exact Part.within_trans rfl hw
    with_reducible exact ht1

theorem State.flowRecTake_touches {ps : List Part} s a1 (hw : Part.within [.keys, .regs, .evt, .hif, .index, .objs, .sw, .fab, .bpm, .fdb, .free, .eng, .pair, .boot, .rc .bpmDoubleFreeCnt, .rc .bpmForeignFreeCnt, .rc .bpmPoolEmptyCnt, .rc .bpmPromoteCnt, .rc .evtPinStat, .rc .evtSuppressed, .rc .hifEvtLost, .rc .hifRingAborted, .rc .pairMirOvf, .rc .perfTagDrop] ps = true) : Touches ps s (State.flowRecTake s a1) := by
  unfold State.flowRecTake
  with_reducible refine Touches.ite ?_ ?_
  ·
    with_reducible refine Touches.ite ?_ ?_
    ·
      with_reducible refine Touches.step ?_ (State.flowAnswer_touches _ _ ?_)
      on_goal 2 => exact Part.within_trans rfl hw
      with_reducible exact Touches.refl _ _
    ·
      with_reducible exact Touches.refl _ _
  ·
    with_reducible refine Touches.ite ?_ ?_
    ·
      with_reducible exact Touches.refl _ _
    ·
      split
      ·
        with_reducible refine Touches.step ?_ (State.admNext_touches _ _ _ ?_)
        on_goal 2 => exact Part.within_trans rfl hw
        with_reducible exact Touches.refl _ _
      ·
        try extract_lets -merge -underBinder t0
        with_reducible refine Touches.ite ?_ ?_
        ·
          with_reducible exact Touches.refl _ _
        ·
          with_reducible refine Touches.step ?_ (State.flowKill_touches _ _ ?_)
          on_goal 2 => exact Part.within_trans rfl hw
          with_reducible refine Touches.set_sw ?_ ?_
          on_goal 2 => exact Part.within_mem rfl hw
          with_reducible exact Touches.refl _ _
      ·
        with_reducible refine Touches.step ?_ (State.flowMirrorPhase_touches _ _ _ ?_)
        on_goal 2 => exact Part.within_trans rfl hw
        with_reducible exact Touches.refl _ _
      ·
        with_reducible refine Touches.step ?_ (State.flowMirrorPhase_touches _ _ _ ?_)
        on_goal 2 => exact Part.within_trans rfl hw
        with_reducible exact Touches.refl _ _
      ·
        with_reducible exact Touches.refl _ _

theorem State.cbRec_touches {ps : List Part} s a1 (hw : Part.within [.evt, .hif, .fdb, .rc .evtPinStat, .rc .evtSuppressed, .rc .hifEvtLost] ps = true) : Touches ps s (State.cbRec s a1) := by
  unfold State.cbRec
  split
  ·
    with_reducible exact Touches.refl _ _
  ·
    try extract_lets -merge -underBinder t0
    try clear_value t0
    with_reducible refine Touches.ite ?_ ?_
    ·
      with_reducible refine Touches.step ?_ (State.setCb_touches _ _ _ ?_)
      on_goal 2 => exact Part.within_trans rfl hw
      with_reducible exact Touches.refl _ _
    ·
      with_reducible refine Touches.ite ?_ ?_
      ·
        with_reducible refine Touches.step ?_ (State.setCb_touches _ _ _ ?_)
        on_goal 2 => exact Part.within_trans rfl hw
        with_reducible exact Touches.refl _ _
      ·
        with_reducible refine Touches.step ?_ (State.setCb_touches _ _ _ ?_)
        on_goal 2 => exact Part.within_trans rfl hw
        with_reducible refine Touches.step ?_ (State.bumpVersion_touches _ _ ?_)
        on_goal 2 => exact Part.within_trans rfl hw
        with_reducible exact Touches.refl _ _

theorem State.cbTake_touches {ps : List Part} s a1 (hw : Part.within [.evt, .hif, .fdb, .rc .evtPinStat, .rc .evtSuppressed, .rc .hifEvtLost] ps = true) : Touches ps s (State.cbTake s a1) := by
  unfold State.cbTake
  with_reducible refine Touches.ite ?_ ?_
  ·
    with_reducible exact Touches.refl _ _
  ·
    with_reducible refine Touches.foldl (fun _ _ => ?_) _ ?_
    ·
      with_reducible refine Touches.step ?_ (State.cbRec_touches _ _ ?_)
      on_goal 2 => exact Part.within_trans rfl hw
      with_reducible exact Touches.refl _ _
    ·
      with_reducible exact Touches.refl _ _

theorem State.omdApply_touches {ps : List Part} s a1 (hw : Part.within [.clk, .keys, .regs, .evt, .hif, .index, .objs, .sw, .fab, .bpm, .fdb, .tcore, .ref, .free, .eng, .pair, .pwr, .boot, .rc .bpmDoubleFreeCnt, .rc .bpmForeignFreeCnt, .rc .bpmPoolEmptyCnt, .rc .bpmPromoteCnt, .rc .evtPinStat, .rc .evtSuppressed, .rc .fdbLearnFail, .rc .fdbLearnSkip, .rc .hifEvtLost, .rc .hifRingAborted, .rc .pairMirOvf, .rc .perfTagDrop, .rc .pwrWakeSrc] ps = true) : Touches ps s (State.omdApply s a1) := by
  unfold State.omdApply
  with_reducible refine Touches.ite ?_ ?_
  ·
    with_reducible exact Touches.refl _ _
  ·
    split
    ·
      with_reducible refine Touches.foldl (fun _ _ => ?_) _ ?_
      ·
        with_reducible refine Touches.step ?_ (State.fdbRec_touches _ _ ?_)
        on_goal 2 => exact Part.within_trans rfl hw
        with_reducible exact Touches.refl _ _
      ·
        with_reducible exact Touches.refl _ _
    ·
      with_reducible refine Touches.foldl (fun _ _ => ?_) _ ?_
      ·
        with_reducible refine Touches.step ?_ (State.flowRecTake_touches _ _ ?_)
        on_goal 2 => exact Part.within_trans rfl hw
        with_reducible exact Touches.refl _ _
      ·
        with_reducible exact Touches.refl _ _
    ·
      with_reducible refine Touches.step ?_ (State.timeStateTake_touches _ _ ?_)
      on_goal 2 => exact Part.within_trans rfl hw
      with_reducible exact Touches.refl _ _
    ·
      with_reducible refine Touches.step ?_ (State.cbTake_touches _ _ ?_)
      on_goal 2 => exact Part.within_trans rfl hw
      with_reducible exact Touches.refl _ _
    ·
      with_reducible refine Touches.ite ?_ ?_
      ·
        with_reducible refine Touches.step ?_ (State.resyncStart_touches _ ?_)
        on_goal 2 => exact Part.within_trans rfl hw
        with_reducible exact Touches.refl _ _
      ·
        with_reducible exact Touches.refl _ _
    ·
      try extract_lets -merge -underBinder t0 t1 t2 t3
      try clear_value t0
      refine Touches.haveS (t := t2) ?_ (fun ht2 => ?_)
      ·
        unfold t2
        with_reducible refine Touches.set_pair ?_ ?_
        on_goal 2 => exact Part.within_mem rfl hw
        with_reducible exact Touches.refl _ _
      try clear_value t2
      refine Touches.haveS (t := t3) ?_ (fun ht3 => ?_)
      ·
        unfold t3
        with_reducible refine Touches.foldl (fun _ _ => ?_) _ ?_
        ·
          with_reducible refine Touches.step ?_ (State.flowRecTake_touches _ _ ?_)
          on_goal 2 => exact Part.within_trans rfl hw
          with_reducible exact Touches.refl _ _
        ·
          with_reducible refine Touches.foldl (fun _ _ => ?_) _ ?_
          ·
            with_reducible refine Touches.step ?_ (State.fdbRec_touches _ _ ?_)
            on_goal 2 => exact Part.within_trans rfl hw
            with_reducible exact Touches.refl _ _
          ·
            with_reducible exact ht2
      try clear_value t3
      with_reducible refine Touches.ite ?_ ?_
      ·
        with_reducible refine Touches.step ?_ (State.cbTake_touches _ _ ?_)
        on_goal 2 => exact Part.within_trans rfl hw
        split
        ·
          with_reducible refine Touches.step ?_ (State.timeStateTake_touches _ _ ?_)
          on_goal 2 => exact Part.within_trans rfl hw
          with_reducible exact ht3
        ·
          with_reducible exact ht3
      ·
        with_reducible exact Touches.refl _ _
    ·
      with_reducible refine Touches.ite ?_ ?_
      ·
        with_reducible refine Touches.step ?_ (State.resyncDone_touches _ ?_)
        on_goal 2 => exact Part.within_trans rfl hw
        with_reducible exact Touches.refl _ _
      ·
        with_reducible exact Touches.refl _ _
    ·
      try extract_lets -merge -underBinder t4
      with_reducible refine Touches.ite ?_ ?_
      ·
        with_reducible refine Touches.set_pair ?_ ?_
        on_goal 2 => exact Part.within_mem rfl hw
        with_reducible exact Touches.refl _ _
      ·
        with_reducible exact Touches.refl _ _

theorem State.storeFault_touches {ps : List Part} s a1 (hw : Part.within [.evt, .hif, .bpm, .rc .evtPinStat, .rc .evtSuppressed, .rc .hifEvtLost] ps = true) : Touches ps s (State.storeFault s a1) := by
  unfold State.storeFault
  try extract_lets -merge -underBinder t0 t1 t2 t3 t4
  refine Touches.haveS (t := t1) ?_ (fun ht1 => ?_)
  ·
    unfold t1
    with_reducible refine Touches.step ?_ (State.raise_touches _ _ _ _ _ ?_)
    on_goal 2 => exact Part.within_trans rfl hw
    with_reducible refine Touches.step ?_ (State.setPool_touches _ _ _ ?_)
    on_goal 2 => exact Part.within_trans rfl hw
    with_reducible exact Touches.refl _ _
  try clear_value t1
  refine Touches.haveS (t := t3) ?_ (fun ht3 => ?_)
  ·
    unfold t3
    with_reducible refine Touches.set_bpm ?_ ?_
    on_goal 2 => exact Part.within_mem rfl hw
    with_reducible exact ht1
  try clear_value t3
  with_reducible refine Touches.ite ?_ ?_
  ·
    with_reducible exact ht3
  ·
    with_reducible refine Touches.step ?_ (State.setPool_touches _ _ _ ?_)
    on_goal 2 => exact Part.within_trans rfl hw
    with_reducible exact ht3

theorem State.auditBuf_touches {ps : List Part} s a1 (hw : Part.within [.evt, .hif, .sw, .bpm, .rc .bpmLeakCnt, .rc .evtPinStat, .rc .evtSuppressed, .rc .hifEvtLost] ps = true) : Touches ps s (State.auditBuf s a1) := by
  unfold State.auditBuf
  try extract_lets -merge -underBinder t0 t1 t2
  refine Touches.haveS (t := t1) ?_ (fun ht1 => ?_)
  ·
    unfold t1
    with_reducible refine Touches.set_bpm ?_ ?_
    on_goal 2 => exact Part.within_mem rfl hw
    with_reducible exact Touches.refl _ _
  try clear_value t1
  refine Touches.haveS (t := t2) ?_ (fun ht2 => ?_)
  ·
    unfold t2
    with_reducible refine Touches.ite ?_ ?_
    ·
      with_reducible refine Touches.step ?_ (State.storeFault_touches _ _ ?_)
      on_goal 2 => exact Part.within_trans rfl hw
      with_reducible exact ht1
    ·
      with_reducible exact ht1
  try clear_value t2
  split
  ·
    with_reducible exact ht2
  ·
    try extract_lets -merge -underBinder t3
    with_reducible refine Touches.ite ?_ ?_
    ·
      with_reducible refine Touches.set_bpm ?_ ?_
      on_goal 2 => exact Part.within_mem rfl hw
      with_reducible exact ht2
    ·
      with_reducible refine Touches.step ?_ (State.auditLeak_touches _ _ _ ?_)
      on_goal 2 => exact Part.within_trans rfl hw
      with_reducible exact ht2

theorem State.setPortPtp_touches {ps : List Part} s a1 a2 (hw : Part.within [.tcore] ps = true) : Touches ps s (State.setPortPtp s a1 a2) := by
  unfold State.setPortPtp
  try extract_lets -merge -underBinder t0
  with_reducible refine Touches.set_tcore ?_ ?_
  on_goal 2 => exact Part.within_mem rfl hw
  with_reducible exact Touches.refl _ _

theorem State.police_touches {ps : List Part} (s : State) (i p : Nat) (h : FrameHdr)
    (hw : Part.within [.sw, .rc .portFlowNonconf] ps = true) : Touches ps s (s.police i p h).1 := by
  unfold State.police
  extract_lets x t need
  split
  · exact State.setFlow_touches _ _ _ (Part.within_trans rfl hw)
  · exact State.bump_touches _ _ _ _ (Part.within_trans rfl hw)

theorem State.ingressFrame_touches {ps : List Part} (s : State) (p : Nat) (h : FrameHdr) (hw : Part.within [.evt, .hif, .sw, .fab, .tcore, .lnk, .free, .tic, .cal, .eng, .rc .calAbortCnt, .rc .evtPinStat, .rc .evtSuppressed, .rc .hifEvtLost, .rc .lnkSnapErr, .rc .portFlowNonconf] ps = true) :
    Touches ps s (s.ingressFrame p h) := by
  unfold State.ingressFrame
  refine Touches.ite (Touches.refl _ _) (Touches.ite (State.setPort_touches _ _ _ (Part.within_trans rfl hw)) ?_)
  extract_lets -underBinder l s1 ts k src s2 fl r s3 n f tag
  have h1 : Touches ps s s1 := State.latchAt_touches _ _ _ _ (Part.within_trans rfl hw)
  have h2 : Touches ps s s2 := Touches.ite (h1.step (State.setPortPtp_touches _ _ _ (Part.within_trans rfl hw))) h1
  have h3 : Touches ps s s3 := by
    unfold s3 r
    cases fl with
    | some i => exact h2.step (State.police_touches _ _ _ _ (Part.within_trans rfl hw))
    | none => exact h2
  clear_value s3
  refine Touches.mk hw h3 (heng := ?_)
  refine .inr ⟨Part.within_mem rfl hw, .inl ?_⟩
  split <;> rfl

theorem State.pairCbSet_touches {ps : List Part} s a1 (hw : Part.within [.keys, .evt, .hif, .fdb, .pair, .boot, .rc .evtPinStat, .rc .evtSuppressed, .rc .hifEvtLost, .rc .hifRingAborted, .rc .pairMirOvf] ps = true) : Touches ps s (State.pairCbSet s a1) := by
  unfold State.pairCbSet
  try extract_lets -merge -underBinder t0 t1
  try clear_value t0
  try clear_value t1
  with_reducible refine Touches.step ?_ (State.runCmd_touches _ _ _ _ _ ?_ (fun _ => ?_))
  on_goal 2 => exact Part.within_trans rfl hw
  ·
    with_reducible exact Touches.refl _ _
  ·
    with_reducible refine Touches.ite ?_ ?_
    ·
      with_reducible refine Touches.step ?_ (State.complete_touches _ _ _ _ _ _ _ ?_)
      on_goal 2 => exact Part.within_trans rfl hw
      with_reducible exact Touches.refl _ _
    ·
      with_reducible refine Touches.ite ?_ ?_
      ·
        with_reducible refine Touches.step ?_ (State.complete_touches _ _ _ _ _ _ _ ?_)
        on_goal 2 => exact Part.within_trans rfl hw
        with_reducible exact Touches.refl _ _
      ·
        split
        ·
          with_reducible refine Touches.step ?_ (State.complete_touches _ _ _ _ _ _ _ ?_)
          on_goal 2 => exact Part.within_trans rfl hw
          with_reducible refine Touches.step ?_ (State.pairDelta_touches _ _ ?_)
          on_goal 2 => exact Part.within_trans rfl hw
          with_reducible refine Touches.step ?_ (State.setCb_touches _ _ _ ?_)
          on_goal 2 => exact Part.within_trans rfl hw
          with_reducible refine Touches.step ?_ (State.bumpVersion_touches _ _ ?_)
          on_goal 2 => exact Part.within_trans rfl hw
          with_reducible exact Touches.refl _ _
        ·
          with_reducible refine Touches.step ?_ (State.complete_touches _ _ _ _ _ _ _ ?_)
          on_goal 2 => exact Part.within_trans rfl hw
          with_reducible exact Touches.refl _ _

theorem State.pairTimeSend_touches {ps : List Part} s (hw : Part.within [.pair] ps = true) : Touches ps s (State.pairTimeSend s) := by
  unfold State.pairTimeSend
  try extract_lets -merge -underBinder t0
  with_reducible refine Touches.ite ?_ ?_
  ·
    with_reducible refine Touches.set_pair ?_ ?_
    on_goal 2 => exact Part.within_mem rfl hw
    with_reducible exact Touches.refl _ _
  ·
    with_reducible exact Touches.refl _ _

theorem State.txFrame_touches {ps : List Part} (s : State) (n : Nat) (g : List Fetched) (hw : Part.within [.hif, .fab, .rc .hifRingAborted, .rc .portDownDisc] ps = true) :
    Touches ps s (s.txFrame n g).1 := by
  unfold State.txFrame
  extract_lets -underBinder f fl port q h bytes hdr k lookup flow fr src s1 ts c
  have h1 : Touches ps s s1 := Touches.set_fab (Touches.refl _ _) (Part.within_mem rfl hw)
  clear_value s1
  split
  · exact h1
  · split
    · exact ((h1.step (State.bump_touches _ _ _ _ (Part.within_trans rfl hw))).step (State.tsLost_touches _ _ _ (Part.within_trans rfl hw))).step
        (State.mirrorFrame_touches _ _ _ _ (Part.within_trans rfl hw))
    · exact (h1.step (State.addCopy_touches _ _ (Part.within_trans rfl hw))).step (State.mirrorFrame_touches _ _ _ _ (Part.within_trans rfl hw))

theorem State.txTaken_touches {ps : List Part} (s : State) (n : Nat) (f : Fetched) (hw : Part.within [.hif, .fab, .rc .hifRingAborted, .rc .portDownDisc] ps = true) :
    Touches ps s (s.txTaken n f) := by
  unfold State.txTaken
  extract_lets l g
  refine Touches.ite (Touches.refl _ _) ?_
  exact (State.txFrame_touches s n g (Part.within_trans rfl hw)).step (State.setRing_touches _ _ _ (Part.within_trans rfl hw))

theorem State.pllFreqAcquired_touches {ps : List Part} s a1 (hw : Part.within [.evt, .hif, .pll, .rc .evtPinStat, .rc .evtSuppressed, .rc .hifEvtLost] ps = true) : Touches ps s (State.pllFreqAcquired s a1) := by
  unfold State.pllFreqAcquired
  try extract_lets -merge -underBinder t0
  try clear_value t0
  with_reducible refine Touches.ite ?_ ?_
  ·
    with_reducible refine Touches.step ?_ (State.goPll_touches _ _ _ ?_)
    on_goal 2 => exact Part.within_trans rfl hw
    with_reducible exact Touches.refl _ _
  ·
    with_reducible refine Touches.ite ?_ ?_
    ·
      with_reducible refine Touches.step ?_ (State.setPll_touches _ _ _ ?_)
      on_goal 2 => exact Part.within_trans rfl hw
      with_reducible exact Touches.refl _ _
    ·
      with_reducible exact Touches.refl _ _

theorem State.gnssChLoss_touches {ps : List Part} s a1 (hw : Part.within [.evt, .hif, .gnss, .rc .evtPinStat, .rc .evtSuppressed, .rc .gnssLossCnt, .rc .hifEvtLost] ps = true) : Touches ps s (State.gnssChLoss s a1) := by
  unfold State.gnssChLoss
  with_reducible refine Touches.ite ?_ ?_
  ·
    with_reducible refine Touches.step ?_ (State.goGnssCh_touches _ _ _ ?_)
    on_goal 2 => exact Part.within_trans rfl hw
    with_reducible exact Touches.refl _ _
  ·
    with_reducible exact Touches.refl _ _

theorem State.lockLossRetrain_touches {ps : List Part} s a1 (hw : Part.within [.clk, .regs, .evt, .hif, .lanes, .sw, .fab, .bpm, .fdb, .tcore, .tchans, .lnk, .ref, .free, .pll, .tic, .cal, .eng, .pair, .pwr, .rc .bpmDoubleFreeCnt, .rc .bpmForeignFreeCnt, .rc .bpmPoolEmptyCnt, .rc .bpmPromoteCnt, .rc .calAbortCnt, .rc .evtPinStat, .rc .evtSuppressed, .rc .hifEvtLost, .rc .hifRingAborted, .rc .pairMirOvf, .rc .perfTagDrop, .rc .pllCnt, .rc .portHoldFlush, .rc .pwrWakeSrc] ps = true) : Touches ps s (State.lockLossRetrain s a1) := by
  unfold State.lockLossRetrain
  try extract_lets -merge -underBinder t0
  try clear_value t0
  with_reducible refine Touches.ite ?_ ?_
  ·
    with_reducible refine Touches.step ?_ (State.retrain_touches _ _ ?_)
    on_goal 2 => exact Part.within_trans rfl hw
    with_reducible exact Touches.refl _ _
  ·
    with_reducible exact Touches.refl _ _

theorem State.gnssChRegain_touches {ps : List Part} s a1 (hw : Part.within [.evt, .hif, .gnss, .rc .evtPinStat, .rc .evtSuppressed, .rc .gnssLossCnt, .rc .hifEvtLost] ps = true) : Touches ps s (State.gnssChRegain s a1) := by
  unfold State.gnssChRegain
  with_reducible refine Touches.ite ?_ ?_
  ·
    with_reducible refine Touches.step ?_ (State.goGnssCh_touches _ _ _ ?_)
    on_goal 2 => exact Part.within_trans rfl hw
    with_reducible exact Touches.refl _ _
  ·
    with_reducible exact Touches.refl _ _

theorem State.omdAck_touches {ps : List Part} s a1 (hw : Part.within [.pair] ps = true) : Touches ps s (State.omdAck s a1) := by
  unfold State.omdAck
  try extract_lets -merge -underBinder t0
  with_reducible refine Touches.set_pair ?_ ?_
  on_goal 2 => exact Part.within_mem rfl hw
  with_reducible exact Touches.refl _ _

theorem State.omdHeld_touches {ps : List Part} (s : State) (n : Nat) (hw : Part.within [.clk, .keys, .regs, .evt, .hif, .index, .objs, .sw, .fab, .bpm, .fdb, .tcore, .ref, .free, .eng, .pair, .pwr, .boot, .rc .bpmDoubleFreeCnt, .rc .bpmForeignFreeCnt, .rc .bpmPoolEmptyCnt, .rc .bpmPromoteCnt, .rc .evtPinStat, .rc .evtSuppressed, .rc .fdbLearnFail, .rc .fdbLearnSkip, .rc .hifEvtLost, .rc .hifRingAborted, .rc .pairMirOvf, .rc .perfTagDrop, .rc .pwrWakeSrc] ps = true) : Touches ps s (s.omdHeld n) := by
  induction n generalizing s with
  | zero => exact Touches.refl _ _
  | succ n ih =>
    unfold State.omdHeld
    split
    · exact Touches.refl _ _
    · refine Touches.step (Touches.step ?_ (State.omdApply_touches _ _ (Part.within_trans rfl hw))) (ih _)
      exact Touches.set_pair (Touches.refl _ _) (Part.within_mem rfl hw)

theorem State.omdSeq_touches {ps : List Part} s a1 a2 (hw : Part.within [.clk, .keys, .regs, .evt, .hif, .index, .objs, .sw, .fab, .bpm, .fdb, .tcore, .ref, .free, .eng, .pair, .pwr, .boot, .rc .bpmDoubleFreeCnt, .rc .bpmForeignFreeCnt, .rc .bpmPoolEmptyCnt, .rc .bpmPromoteCnt, .rc .evtPinStat, .rc .evtSuppressed, .rc .fdbLearnFail, .rc .fdbLearnSkip, .rc .hifEvtLost, .rc .hifRingAborted, .rc .pairMirOvf, .rc .perfTagDrop, .rc .pwrWakeSrc] ps = true) : Touches ps s (State.omdSeq s a1 a2) := by
  unfold State.omdSeq
  try extract_lets -merge -underBinder t0 t1 t2 t3
  refine Touches.haveS (t := t0) ?_ (fun ht0 => ?_)
  ·
    unfold t0
    with_reducible refine Touches.step ?_ (State.omdAck_touches _ _ ?_)
    on_goal 2 => exact Part.within_trans rfl hw
    with_reducible exact Touches.refl _ _
  try clear_value t0
  try clear_value t1
  with_reducible refine Touches.ite ?_ ?_
  ·
    with_reducible exact Touches.refl _ _
  ·
    with_reducible refine Touches.ite ?_ ?_
    ·
      with_reducible refine Touches.step ?_ (State.omdHeld_touches _ _ ?_)
      on_goal 2 => exact Part.within_trans rfl hw
      with_reducible refine Touches.step ?_ (State.omdApply_touches _ _ ?_)
      on_goal 2 => exact Part.within_trans rfl hw
      with_reducible refine Touches.set_pair ?_ ?_
      on_goal 2 => exact Part.within_mem rfl hw
      with_reducible exact ht0
    ·
      with_reducible refine Touches.ite ?_ ?_
      ·
        with_reducible refine Touches.set_pair ?_ ?_
        on_goal 2 => exact Part.within_mem rfl hw
        with_reducible exact ht0
      ·
        with_reducible exact ht0

theorem State.autoDrop_touches {ps : List Part} s a1 (hw : Part.within [.index, .objs, .gnss] ps = true) : Touches ps s (State.autoDrop s a1) := by
  unfold State.autoDrop
  try extract_lets -merge -underBinder t0 t1
  refine Touches.haveS (t := t0) ?_ (fun ht0 => ?_)
  ·
    unfold t0
    with_reducible refine Touches.step ?_ (State.dropObj_touches _ _ _ ?_)
    on_goal 2 => exact Part.within_trans rfl hw
    with_reducible exact Touches.refl _ _
  try clear_value t0
  with_reducible refine Touches.ite ?_ ?_
  ·
    with_reducible refine Touches.set_gnss ?_ ?_
    on_goal 2 => exact Part.within_mem rfl hw
    with_reducible exact ht0
  ·
    with_reducible exact Touches.refl _ _

theorem State.flowBuf_touches {ps : List Part} s a1 a2 a3 (hw : Part.within [.evt, .hif, .sw, .fab, .bpm, .fdb, .free, .eng, .rc .bpmDoubleFreeCnt, .rc .bpmForeignFreeCnt, .rc .bpmRsvOver, .rc .evtPinStat, .rc .evtSuppressed, .rc .hifEvtLost, .rc .hifRingAborted, .rc .perfTagDrop] ps = true) : Touches ps s (State.flowBuf s a1 a2 a3) := by
  unfold State.flowBuf
  try extract_lets -merge -underBinder t0 t1 t2
  try clear_value t0
  try clear_value t1
  try clear_value t2
  with_reducible refine Touches.ite ?_ ?_
  ·
    with_reducible refine Touches.step ?_ (State.giveBuf_touches _ _ _ _ _ _ ?_)
    on_goal 2 => exact Part.within_trans rfl hw
    with_reducible exact Touches.refl _ _
  ·
    split
    ·
      with_reducible refine Touches.step ?_ (State.giveBuf_touches _ _ _ _ _ _ ?_)
      on_goal 2 => exact Part.within_trans rfl hw
      with_reducible exact Touches.refl _ _
    ·
      with_reducible refine Touches.step ?_ (State.removeCopy_touches _ _ ?_)
      on_goal 2 => exact Part.within_trans rfl hw
      with_reducible refine Touches.step ?_ (State.bump_touches _ _ _ _ ?_)
      on_goal 2 => exact Part.within_trans rfl hw
      split
      ·
        with_reducible refine Touches.step ?_ (State.tsLost_touches _ _ _ ?_)
        on_goal 2 => exact Part.within_trans rfl hw
        with_reducible exact Touches.refl _ _
      ·
        with_reducible exact Touches.refl _ _

theorem State.ingressRefused_touches {ps : List Part} s a1 a2 a3 (hw : Part.within [.evt, .hif, .sw, .fab, .bpm, .fdb, .free, .eng, .rc .bpmDoubleFreeCnt, .rc .bpmForeignFreeCnt, .rc .bpmHrOvf, .rc .evtPinStat, .rc .evtSuppressed, .rc .hifEvtLost, .rc .perfTagDrop, .rc .portIngOvf] ps = true) : Touches ps s (State.ingressRefused s a1 a2 a3) := by
  unfold State.ingressRefused
  with_reducible refine Touches.step ?_ (State.refusedBufs_touches _ _ _ ?_)
  on_goal 2 => exact Part.within_trans rfl hw
  with_reducible refine Touches.step ?_ (State.assertCause_touches _ _ _ ?_)
  on_goal 2 => exact Part.within_trans rfl hw
  with_reducible exact Touches.refl _ _

theorem State.requestFor_touches {ps : List Part} s a1 a2 a3 a4 (hw : Part.within [.evt, .hif, .sw, .fab, .bpm, .fdb, .free, .eng, .rc .bpmDoubleFreeCnt, .rc .bpmForeignFreeCnt, .rc .bpmHrOvf, .rc .bpmPoolEmptyCnt, .rc .bpmPromoteCnt, .rc .evtPinStat, .rc .evtSuppressed, .rc .hifEvtLost, .rc .perfTagDrop, .rc .portIngOvf] ps = true) : Touches ps s (State.requestFor s a1 a2 a3 a4) := by
  unfold State.requestFor
  try extract_lets -merge -underBinder t0 t1
  try clear_value t0
  refine Touches.haveS (t := t1) ?_ (fun ht1 => ?_)
  ·
    unfold t1
    with_reducible refine Touches.step ?_ (State.countAnswer_touches _ _ _ ?_)
    on_goal 2 => exact Part.within_trans rfl hw
    with_reducible exact Touches.refl _ _
  try clear_value t1
  with_reducible refine Touches.ite ?_ ?_
  ·
    with_reducible refine Touches.foldl (fun _ _ => ?_) _ ?_
    ·
      try extract_lets -merge -underBinder t2
      refine Touches.haveS (t := t2) ?_ (fun ht2 => ?_)
      ·
        unfold t2
        with_reducible refine Touches.step ?_ (State.giveBuf_touches _ _ _ _ _ _ ?_)
        on_goal 2 => exact Part.within_trans rfl hw
        with_reducible exact Touches.refl _ _
      try clear_value t2
      split
      ·
        with_reducible refine Touches.step ?_ (State.setCopy_touches _ _ _ ?_)
        on_goal 2 => exact Part.within_trans rfl hw
        with_reducible exact ht2
      ·
        with_reducible exact ht2
    ·
      with_reducible exact ht1
  ·
    with_reducible refine Touches.ite ?_ ?_
    ·
      with_reducible refine Touches.step ?_ (State.ingressRefused_touches _ _ _ _ ?_)
      on_goal 2 => exact Part.within_trans rfl hw
      with_reducible exact ht1
    ·
      with_reducible refine Touches.step ?_ (State.assertCause_touches _ _ _ ?_)
      on_goal 2 => exact Part.within_trans rfl hw
      with_reducible exact ht1

theorem State.firstBufs_touches {ps : List Part} s a1 a2 (hw : Part.within [.evt, .hif, .sw, .fab, .bpm, .fdb, .free, .eng, .rc .bpmDoubleFreeCnt, .rc .bpmForeignFreeCnt, .rc .bpmHrOvf, .rc .bpmPoolEmptyCnt, .rc .bpmPromoteCnt, .rc .bpmRsvOver, .rc .evtPinStat, .rc .evtSuppressed, .rc .hifEvtLost, .rc .hifRingAborted, .rc .perfTagDrop, .rc .portIngOvf] ps = true) : Touches ps s (State.firstBufs s a1 a2) := by
  unfold State.firstBufs
  try extract_lets -merge -underBinder t0 t1 t2
  try clear_value t0
  try clear_value t1
  refine Touches.haveS (t := t2) ?_ (fun ht2 => ?_)
  ·
    unfold t2
    with_reducible refine Touches.foldl (fun _ _ => ?_) _ ?_
    ·
      with_reducible refine Touches.step ?_ (State.flowBuf_touches _ _ _ _ ?_)
      on_goal 2 => exact Part.within_trans rfl hw
      with_reducible exact Touches.refl _ _
    ·
      with_reducible exact Touches.refl _ _
  try clear_value t2
  with_reducible refine Touches.ite ?_ ?_
  ·
    with_reducible exact ht2
  ·
    with_reducible refine Touches.step ?_ (State.requestFor_touches _ _ _ _ _ ?_)
    on_goal 2 => exact Part.within_trans rfl hw
    with_reducible exact ht2

theorem State.candCheck_touches {ps : List Part} s a1 a2 (hw : Part.within [.clk, .evt, .hif, .tcore, .tchans, .ref, .pll, .eng, .pair, .pwr, .rc .evtPinStat, .rc .evtSuppressed, .rc .hifEvtLost, .rc .pairMirOvf, .rc .pllCnt, .rc .pwrWakeSrc, .rc .refHoldoffCnt] ps = true) : Touches ps s (State.candCheck s a1 a2) := by
  unfold State.candCheck
  try extract_lets -merge -underBinder t0
  try clear_value t0
  with_reducible refine Touches.ite ?_ ?_
  ·
    with_reducible refine Touches.step ?_ (State.candEnable_touches _ _ ?_)
    on_goal 2 => exact Part.within_trans rfl hw
    with_reducible exact Touches.refl _ _
  ·
    with_reducible refine Touches.ite ?_ ?_
    ·
      with_reducible refine Touches.step ?_ (State.candAbsent_touches _ _ ?_)
      on_goal 2 => exact Part.within_trans rfl hw
      with_reducible exact Touches.refl _ _
    ·
      with_reducible refine Touches.ite ?_ ?_
      ·
        with_reducible refine Touches.step ?_ (State.candPass_touches _ _ ?_)
        on_goal 2 => exact Part.within_trans rfl hw
        with_reducible exact Touches.refl _ _
      ·
        split
        ·
          with_reducible refine Touches.step ?_ (State.setCandSt_touches _ _ _ _ ?_)
          on_goal 2 => exact Part.within_trans rfl hw
          with_reducible exact Touches.refl _ _
        ·
          try extract_lets -merge -underBinder t1
          with_reducible refine Touches.set_ref ?_ ?_
          on_goal 2 => exact Part.within_mem rfl hw
          with_reducible exact Touches.refl _ _
        ·
          with_reducible refine Touches.step ?_ (State.candFail_touches _ _ _ ?_)
          on_goal 2 => exact Part.within_trans rfl hw
          with_reducible exact Touches.refl _ _

theorem State.ppsInTimeout_touches {ps : List Part} s a1 (hw : Part.within [.clk, .evt, .hif, .tcore, .tchans, .ref, .pll, .eng, .pair, .pwr, .rc .evtPinStat, .rc .evtSuppressed, .rc .hifEvtLost, .rc .pairMirOvf, .rc .pllCnt, .rc .pwrWakeSrc, .rc .refHoldoffCnt] ps = true) : Touches ps s (State.ppsInTimeout s a1) := by
  unfold State.ppsInTimeout
  with_reducible refine Touches.step ?_ (State.candCheck_touches _ _ _ ?_)
  on_goal 2 => exact Part.within_trans rfl hw
  with_reducible exact Touches.refl _ _

theorem State.surveyAdd_touches {ps : List Part} s a1 (hw : Part.within [.regs, .evt, .hif, .gnss, .rc .evtPinStat, .rc .evtSuppressed, .rc .hifEvtLost] ps = true) : Touches ps s (State.surveyAdd s a1) := by
  unfold State.surveyAdd
  try extract_lets -merge -underBinder t0 t1 t2
  try clear_value t0
  try clear_value t1
  with_reducible refine Touches.ite ?_ ?_
  ·
    with_reducible exact Touches.refl _ _
  ·
    with_reducible refine Touches.step ?_ (State.surveyCheck_touches _ ?_)
    on_goal 2 => exact Part.within_trans rfl hw
    with_reducible refine Touches.set_gnss ?_ ?_
    on_goal 2 => exact Part.within_mem rfl hw
    with_reducible exact Touches.refl _ _

theorem State.lnkBypassEnd_touches {ps : List Part} s (hw : Part.within [.evt, .hif, .lnk, .free, .tic, .cal, .rc .calAbortCnt, .rc .evtPinStat, .rc .evtSuppressed, .rc .hifEvtLost] ps = true) : Touches ps s (State.lnkBypassEnd s) := by
  unfold State.lnkBypassEnd
  with_reducible refine Touches.foldl (fun _ _ => ?_) _ ?_
  ·
    with_reducible refine Touches.step ?_ (State.lnkPhiValid_touches _ _ ?_)
    on_goal 2 => exact Part.within_trans rfl hw
    with_reducible exact Touches.refl _ _
  ·
    with_reducible exact Touches.refl _ _

theorem State.pllReturn'_touches {ps : List Part} s a1 (hw : Part.within [.evt, .hif, .lnk, .free, .pll, .tic, .cal, .eng, .rc .calAbortCnt, .rc .evtPinStat, .rc .evtSuppressed, .rc .hifEvtLost] ps = true) : Touches ps s (State.pllReturn' s a1) := by
  unfold State.pllReturn'
  try extract_lets -merge -underBinder t0 t1 t2 t3 t4
  refine Touches.haveS (t := t0) ?_ (fun ht0 => ?_)
  ·
    unfold t0
    with_reducible refine Touches.ite ?_ ?_
    ·
      with_reducible refine Touches.step ?_ (State.cycFold_touches _ ?_)
      on_goal 2 => exact Part.within_trans rfl hw
      with_reducible exact Touches.refl _ _
    ·
      with_reducible exact Touches.refl _ _
  try clear_value t0
  try clear_value t1
  try clear_value t2
  refine Touches.haveS (t := t3) ?_ (fun ht3 => ?_)
  ·
    unfold t3
    with_reducible refine Touches.step ?_ (State.setPll_touches _ _ _ ?_)
    on_goal 2 => exact Part.within_trans rfl hw
    with_reducible exact ht0
  try clear_value t3
  refine Touches.haveS (t := t4) ?_ (fun ht4 => ?_)
  ·
    unfold t4
    with_reducible refine Touches.step ?_ (State.raise_touches _ _ _ _ _ ?_)
    on_goal 2 => exact Part.within_trans rfl hw
    with_reducible refine Touches.step ?_ (State.goPll_touches _ _ _ ?_)
    on_goal 2 => exact Part.within_trans rfl hw
    with_reducible exact ht3
  try clear_value t4
  with_reducible refine Touches.ite ?_ ?_
  ·
    with_reducible refine Touches.step ?_ (State.lnkBypassEnd_touches _ ?_)
    on_goal 2 => exact Part.within_trans rfl hw
    with_reducible refine Touches.step ?_ (State.ltxLoad_touches _ ?_)
    on_goal 2 => exact Part.within_trans rfl hw
    with_reducible exact ht4
  ·
    with_reducible exact ht4

theorem State.pllReturnCmd_touches {ps : List Part} s a1 (hw : Part.within [.keys, .evt, .hif, .lnk, .free, .pll, .tic, .cal, .eng, .boot, .rc .calAbortCnt, .rc .evtPinStat, .rc .evtSuppressed, .rc .hifEvtLost, .rc .hifRingAborted] ps = true) : Touches ps s (State.pllReturnCmd s a1) := by
  unfold State.pllReturnCmd
  try extract_lets -merge -underBinder t0 t1
  try clear_value t0
  with_reducible refine Touches.step ?_ (State.runCmd_touches _ _ _ _ _ ?_ (fun _ => ?_))
  on_goal 2 => exact Part.within_trans rfl hw
  ·
    with_reducible exact Touches.refl _ _
  ·
    try extract_lets -merge -underBinder t2
    try clear_value t2
    with_reducible refine Touches.ite ?_ ?_
    ·
      with_reducible refine Touches.step ?_ (State.complete_touches _ _ _ _ _ _ _ ?_)
      on_goal 2 => exact Part.within_trans rfl hw
      with_reducible refine Touches.step ?_ (State.pllReturn'_touches _ _ ?_)
      on_goal 2 => exact Part.within_trans rfl hw
      with_reducible exact Touches.refl _ _
    ·
      with_reducible refine Touches.step ?_ (State.complete_touches _ _ _ _ _ _ _ ?_)
      on_goal 2 => exact Part.within_trans rfl hw
      with_reducible exact Touches.refl _ _

theorem State.pairStateSend_touches {ps : List Part} s (hw : Part.within [.evt, .hif, .pair, .rc .evtPinStat, .rc .evtSuppressed, .rc .hifEvtLost, .rc .pairMirOvf] ps = true) : Touches ps s (State.pairStateSend s) := by
  unfold State.pairStateSend
  try extract_lets -merge -underBinder t0
  with_reducible refine Touches.ite ?_ ?_
  ·
    with_reducible refine Touches.step ?_ (State.pairDelta_touches _ _ ?_)
    on_goal 2 => exact Part.within_trans rfl hw
    with_reducible refine Touches.step ?_ (State.pairDelta_touches _ _ ?_)
    on_goal 2 => exact Part.within_trans rfl hw
    with_reducible refine Touches.set_pair ?_ ?_
    on_goal 2 => exact Part.within_mem rfl hw
    with_reducible exact Touches.refl _ _
  ·
    with_reducible exact Touches.refl _ _

theorem State.keyBlockExpire_touches {ps : List Part} s a1 (hw : Part.within [.keys] ps = true) : Touches ps s (State.keyBlockExpire s a1) := by
  unfold State.keyBlockExpire
  try extract_lets -merge -underBinder t0
  with_reducible refine Touches.set_keys ?_ ?_
  on_goal 2 => exact Part.within_mem rfl hw
  with_reducible exact Touches.refl _ _

theorem State.ticEnd_touches {ps : List Part} s a1 a2 (hw : Part.within [.regs, .evt, .hif, .tic, .cal, .rc .evtPinStat, .rc .evtSuppressed, .rc .hifEvtLost] ps = true) : Touches ps s (State.ticEnd s a1 a2) := by
  unfold State.ticEnd
  try extract_lets -merge -underBinder t0 t1 t2 t3
  try clear_value t0
  refine Touches.haveS (t := t1) ?_ (fun ht1 => ?_)
  ·
    unfold t1
    with_reducible refine Touches.step ?_ (State.calBoundary_touches _ _ _ ?_)
    on_goal 2 => exact Part.within_trans rfl hw
    with_reducible refine Touches.step ?_ (State.setTicCh_touches _ _ _ ?_)
    on_goal 2 => exact Part.within_trans rfl hw
    with_reducible exact Touches.refl _ _
  try clear_value t1
  refine Touches.haveS (t := t2) ?_ (fun ht2 => ?_)
  ·
    unfold t2
    with_reducible refine Touches.step ?_ (State.raise_touches _ _ _ _ _ ?_)
    on_goal 2 => exact Part.within_trans rfl hw
    with_reducible exact ht1
  try clear_value t2
  refine Touches.haveS (t := t3) ?_ (fun ht3 => ?_)
  ·
    unfold t3
    with_reducible refine Touches.step ?_ (State.ticCalGo_touches _ _ ?_)
    on_goal 2 => exact Part.within_trans rfl hw
    with_reducible exact ht2
  try clear_value t3
  with_reducible refine Touches.ite ?_ ?_
  ·
    with_reducible refine Touches.step ?_ (State.ticArmBlock_touches _ _ _ ?_)
    on_goal 2 => exact Part.within_trans rfl hw
    with_reducible exact ht3
  ·
    with_reducible exact ht3

theorem State.ticTake_touches {ps : List Part} s a1 a2 (hw : Part.within [.regs, .evt, .hif, .tic, .cal, .rc .evtPinStat, .rc .evtSuppressed, .rc .hifEvtLost, .rc .ticNearCnt, .rc .ticOrderCnt] ps = true) : Touches ps s (State.ticTake s a1 a2) := by
  unfold State.ticTake
  try extract_lets -merge -underBinder t0 t1 t2 t3 t4 t5 t6 t7
  try clear_value t0
  try clear_value t1
  try clear_value t2
  try clear_value t3
  try clear_value t4
  refine Touches.haveS (t := t5) ?_ (fun ht5 => ?_)
  ·
    unfold t5
    with_reducible refine Touches.ite ?_ ?_
    ·
      with_reducible refine Touches.step ?_ (State.bump_touches _ _ _ _ ?_)
      on_goal 2 => exact Part.within_trans rfl hw
      with_reducible exact Touches.refl _ _
    ·
      with_reducible refine Touches.ite ?_ ?_
      ·
        with_reducible refine Touches.step ?_ (State.bump_touches _ _ _ _ ?_)
        on_goal 2 => exact Part.within_trans rfl hw
        with_reducible exact Touches.refl _ _
      ·
        with_reducible exact Touches.refl _ _
  try clear_value t5
  try clear_value t6
  refine Touches.haveS (t := t7) ?_ (fun ht7 => ?_)
  ·
    unfold t7
    with_reducible refine Touches.step ?_ (State.setTicCh_touches _ _ _ ?_)
    on_goal 2 => exact Part.within_trans rfl hw
    with_reducible exact ht5
  try clear_value t7
  with_reducible refine Touches.ite ?_ ?_
  ·
    with_reducible refine Touches.step ?_ (State.ticEnd_touches _ _ _ ?_)
    on_goal 2 => exact Part.within_trans rfl hw
    with_reducible exact ht7
  ·
    with_reducible exact ht7

theorem State.ticEdge_touches {ps : List Part} s a1 a2 a3 a4 (hw : Part.within [.regs, .evt, .hif, .tic, .cal, .rc .evtPinStat, .rc .evtSuppressed, .rc .hifEvtLost, .rc .ticNearCnt, .rc .ticOrderCnt] ps = true) : Touches ps s (State.ticEdge s a1 a2 a3 a4) := by
  unfold State.ticEdge
  try extract_lets -merge -underBinder t0 t1
  try clear_value t0
  try clear_value t1
  with_reducible refine Touches.ite ?_ ?_
  ·
    with_reducible exact Touches.refl _ _
  ·
    with_reducible refine Touches.ite ?_ ?_
    ·
      with_reducible refine Touches.ite ?_ ?_
      ·
        with_reducible exact Touches.refl _ _
      ·
        split
        ·
          with_reducible refine Touches.step ?_ (State.ticTake_touches _ _ _ ?_)
          on_goal 2 => exact Part.within_trans rfl hw
          with_reducible refine Touches.step ?_ (State.setTicCh_touches _ _ _ ?_)
          on_goal 2 => exact Part.within_trans rfl hw
          with_reducible exact Touches.refl _ _
        ·
          with_reducible refine Touches.step ?_ (State.setTicCh_touches _ _ _ ?_)
          on_goal 2 => exact Part.within_trans rfl hw
          with_reducible exact Touches.refl _ _
    ·
      with_reducible refine Touches.ite ?_ ?_
      ·
        with_reducible exact Touches.refl _ _
      ·
        split
        ·
          with_reducible refine Touches.step ?_ (State.ticTake_touches _ _ _ ?_)
          on_goal 2 => exact Part.within_trans rfl hw
          with_reducible refine Touches.step ?_ (State.setTicCh_touches _ _ _ ?_)
          on_goal 2 => exact Part.within_trans rfl hw
          with_reducible exact Touches.refl _ _
        ·
          with_reducible refine Touches.step ?_ (State.setTicCh_touches _ _ _ ?_)
          on_goal 2 => exact Part.within_trans rfl hw
          with_reducible exact Touches.refl _ _

theorem State.carveTakeEffect_touches {ps : List Part} s (hw : Part.within [.evt, .hif, .sw, .fab, .bpm, .boot, .rc .bpmDoubleFreeCnt, .rc .bpmForeignFreeCnt, .rc .bpmPoolEmptyCnt, .rc .bpmPromoteCnt, .rc .evtPinStat, .rc .evtSuppressed, .rc .hifEvtLost, .rc .hifRingAborted] ps = true) : Touches ps s (State.carveTakeEffect s) := by
  unfold State.carveTakeEffect
  with_reducible refine Touches.ite ?_ ?_
  ·
    with_reducible refine Touches.step ?_ (State.carveEffect_touches _ ?_)
    on_goal 2 => exact Part.within_trans rfl hw
    with_reducible exact Touches.refl _ _
  ·
    with_reducible exact Touches.refl _ _

theorem State.flowBoundConfirm_touches {ps : List Part} s a1 (hw : Part.within [.keys, .regs, .evt, .hif, .index, .objs, .sw, .fab, .bpm, .fdb, .free, .eng, .pair, .boot, .rc .bpmDoubleFreeCnt, .rc .bpmForeignFreeCnt, .rc .bpmPoolEmptyCnt, .rc .bpmPromoteCnt, .rc .evtPinStat, .rc .evtSuppressed, .rc .hifEvtLost, .rc .hifRingAborted, .rc .pairMirOvf, .rc .perfTagDrop] ps = true) : Touches ps s (State.flowBoundConfirm s a1) := by
  unfold State.flowBoundConfirm
  split
  ·
    with_reducible exact Touches.refl _ _
  ·
    try extract_lets -merge -underBinder t0
    try clear_value t0
    with_reducible refine Touches.ite ?_ ?_
    ·
      with_reducible exact Touches.refl _ _
    ·
      with_reducible refine Touches.ite ?_ ?_
      ·
        with_reducible refine Touches.step ?_ (State.admGo_touches _ ?_)
        on_goal 2 => exact Part.within_trans rfl hw
        with_reducible refine Touches.step ?_ (State.flowLocal_touches _ _ ?_)
        on_goal 2 => exact Part.within_trans rfl hw
        with_reducible exact Touches.refl _ _
      ·
        with_reducible refine Touches.ite ?_ ?_
        ·
          with_reducible refine Touches.step ?_ (State.admGo_touches _ ?_)
          on_goal 2 => exact Part.within_trans rfl hw
          with_reducible refine Touches.step ?_ (State.flowRefuse_touches _ _ _ ?_)
          on_goal 2 => exact Part.within_trans rfl hw
          with_reducible exact Touches.refl _ _
        ·
          with_reducible exact Touches.refl _ _

theorem State.tchanModify_touches {ps : List Part} s a1 (hw : Part.within [.clk, .evt, .hif, .objs, .tcore, .tchans, .lnk, .ref, .pll, .tic, .cal, .eng, .pair, .pwr, .boot, .rc .calAbortCnt, .rc .evtPinStat, .rc .evtSuppressed, .rc .hifEvtLost, .rc .hifRingAborted, .rc .pairMirOvf, .rc .pllCnt, .rc .pwrWakeSrc] ps = true) : Touches ps s (State.tchanModify s a1) := by
  unfold State.tchanModify
  try extract_lets -merge -underBinder t0 t1 t2 t3 t4 t5
  try clear_value t0
  try clear_value t1
  try clear_value t2
  try clear_value t3
  refine Touches.haveS (t := t4) ?_ (fun ht4 => ?_)
  ·
    unfold t4
    with_reducible refine Touches.step ?_ (State.setRole_touches _ _ _ ?_)
    on_goal 2 => exact Part.within_trans rfl hw
    with_reducible refine Touches.step ?_ (State.setObj_touches _ _ _ _ ?_)
    on_goal 2 => exact Part.within_trans rfl hw
    with_reducible exact Touches.refl _ _
  try clear_value t4
  refine Touches.haveS (t := t5) ?_ (fun ht5 => ?_)
  ·
    unfold t5
    with_reducible refine Touches.step ?_ (State.chansChanged_touches _ _ ?_)
    on_goal 2 => exact Part.within_trans rfl hw
    with_reducible exact ht4
  try clear_value t5
  with_reducible refine Touches.ite ?_ ?_
  ·
    with_reducible refine Touches.step ?_ (State.complete_touches _ _ _ _ _ _ _ ?_)
    on_goal 2 => exact Part.within_trans rfl hw
    with_reducible exact Touches.refl _ _
  ·
    with_reducible refine Touches.step ?_ (State.complete_touches _ _ _ _ _ _ _ ?_)
    on_goal 2 => exact Part.within_trans rfl hw
    with_reducible exact ht5

theorem State.mchanModify_touches {ps : List Part} s a1 (hw : Part.within [.hif, .objs, .boot, .rc .hifRingAborted] ps = true) : Touches ps s (State.mchanModify s a1) := by
  unfold State.mchanModify
  try extract_lets -merge -underBinder t0 t1
  try clear_value t0
  with_reducible refine Touches.ite ?_ ?_
  ·
    with_reducible refine Touches.step ?_ (State.complete_touches _ _ _ _ _ _ _ ?_)
    on_goal 2 => exact Part.within_trans rfl hw
    with_reducible exact Touches.refl _ _
  ·
    with_reducible refine Touches.step ?_ (State.complete_touches _ _ _ _ _ _ _ ?_)
    on_goal 2 => exact Part.within_trans rfl hw
    with_reducible refine Touches.step ?_ (State.setObj_touches _ _ _ _ ?_)
    on_goal 2 => exact Part.within_trans rfl hw
    with_reducible exact Touches.refl _ _

theorem State.mirrorModify_touches {ps : List Part} s a1 (hw : Part.within [.evt, .hif, .objs, .fdb, .boot, .rc .evtPinStat, .rc .evtSuppressed, .rc .hifEvtLost, .rc .hifRingAborted] ps = true) : Touches ps s (State.mirrorModify s a1) := by
  unfold State.mirrorModify
  try extract_lets -merge -underBinder t0 t1
  try clear_value t0
  with_reducible refine Touches.ite ?_ ?_
  ·
    with_reducible refine Touches.step ?_ (State.complete_touches _ _ _ _ _ _ _ ?_)
    on_goal 2 => exact Part.within_trans rfl hw
    with_reducible exact Touches.refl _ _
  ·
    with_reducible refine Touches.step ?_ (State.complete_touches _ _ _ _ _ _ _ ?_)
    on_goal 2 => exact Part.within_trans rfl hw
    with_reducible refine Touches.step ?_ (State.setObj_touches _ _ _ _ ?_)
    on_goal 2 => exact Part.within_trans rfl hw
    with_reducible refine Touches.step ?_ (State.bumpVersion_touches _ _ ?_)
    on_goal 2 => exact Part.within_trans rfl hw
    with_reducible exact Touches.refl _ _

end Sys2Proof.Machine
end

