-- ==== Sys2Proof/Laws/Frames5.lean ====
section
/-! SUPPORT. What each operation of the machine may change, part 5 of 6: one lemma for one operation, in the order in which the
operations build on one another.  Every other part of the state is the same after it. -/

set_option Elab.async false

namespace Sys2Proof.Machine

theorem State.searchModify_touches {ps : List Part} s a1 (hw : Part.within [.hif, .objs, .gnss, .boot, .rc .hifRingAborted] ps = true) : Touches ps s (State.searchModify s a1) := by
  unfold State.searchModify
  try extract_lets -merge -underBinder t0 t1 t2
  try clear_value t0
  refine Touches.haveS (t := t2) ?_ (fun ht2 => ?_)
  ·
    unfold t2
    with_reducible refine Touches.step ?_ (State.searchBegin_touches _ _ _ ?_)
    on_goal 2 => exact Part.within_trans rfl hw
    with_reducible refine Touches.step ?_ (State.setObj_touches _ _ _ _ ?_)
    on_goal 2 => exact Part.within_trans rfl hw
    with_reducible exact Touches.refl _ _
  try clear_value t2
  with_reducible refine Touches.step ?_ (State.complete_touches _ _ _ _ _ _ _ ?_)
  on_goal 2 => exact Part.within_trans rfl hw
  with_reducible exact ht2

theorem State.objModify_touches {ps : List Part} s a1 a2 a3 (hw : Part.within [.clk, .keys, .regs, .evt, .hif, .index, .objs, .sw, .fab, .bpm, .fdb, .tcore, .tchans, .lnk, .ref, .free, .pll, .gnss, .tic, .cal, .eng, .pair, .pwr, .boot, .rc .bpmDoubleFreeCnt, .rc .bpmForeignFreeCnt, .rc .bpmPoolEmptyCnt, .rc .bpmPromoteCnt, .rc .calAbortCnt, .rc .evtPinStat, .rc .evtSuppressed, .rc .hifEvtLost, .rc .hifRingAborted, .rc .pairMirOvf, .rc .perfTagDrop, .rc .pllCnt, .rc .pwrWakeSrc] ps = true) : Touches ps s (State.objModify s a1 a2 a3) := by
  unfold State.objModify
  split
  ·
    with_reducible refine Touches.step ?_ (State.admTake_touches _ _ _ _ ?_)
    on_goal 2 => exact Part.within_trans rfl hw
    with_reducible exact Touches.refl _ _
  ·
    with_reducible refine Touches.step ?_ (State.runNamed_touches _ _ _ _ _ _ _ _ ?_ (fun _ => ?_))
    on_goal 2 => exact Part.within_trans rfl hw
    ·
      with_reducible exact Touches.refl _ _
    ·
      split
      ·
        with_reducible exact Touches.refl _ _
      ·
        with_reducible refine Touches.step ?_ (State.tchanModify_touches _ _ ?_)
        on_goal 2 => exact Part.within_trans rfl hw
        with_reducible exact Touches.refl _ _
      ·
        with_reducible refine Touches.step ?_ (State.mchanModify_touches _ _ ?_)
        on_goal 2 => exact Part.within_trans rfl hw
        with_reducible exact Touches.refl _ _
      ·
        with_reducible refine Touches.step ?_ (State.mirrorModify_touches _ _ ?_)
        on_goal 2 => exact Part.within_trans rfl hw
        with_reducible exact Touches.refl _ _
      ·
        with_reducible refine Touches.step ?_ (State.searchModify_touches _ _ ?_)
        on_goal 2 => exact Part.within_trans rfl hw
        with_reducible exact Touches.refl _ _
      ·
        with_reducible refine Touches.step ?_ (State.calModify_touches _ _ ?_)
        on_goal 2 => exact Part.within_trans rfl hw
        with_reducible exact Touches.refl _ _

theorem State.rampClampReached_touches {ps : List Part} s a1 (hw : Part.within [.evt, .hif, .pll, .eng, .rc .evtPinStat, .rc .evtSuppressed, .rc .hifEvtLost] ps = true) : Touches ps s (State.rampClampReached s a1) := by
  unfold State.rampClampReached
  try extract_lets -merge -underBinder t0
  try clear_value t0
  split
  ·
    with_reducible exact Touches.refl _ _
  ·
    try extract_lets -merge -underBinder t1 t2
    try clear_value t1
    try clear_value t2
    with_reducible refine Touches.ite ?_ ?_
    ·
      with_reducible exact Touches.refl _ _
    ·
      with_reducible refine Touches.step ?_ (State.raiseIf_touches _ _ _ _ _ _ ?_)
      on_goal 2 => exact Part.within_trans rfl hw
      with_reducible refine Touches.step ?_ (State.setRamp_touches _ _ _ ?_)
      on_goal 2 => exact Part.within_trans rfl hw
      with_reducible exact Touches.refl _ _

theorem State.pllRampLoad_touches {ps : List Part} s a1 (hw : Part.within [.keys, .evt, .hif, .tchans, .lnk, .free, .pll, .tic, .cal, .eng, .boot, .rc .calAbortCnt, .rc .evtPinStat, .rc .evtSuppressed, .rc .hifEvtLost, .rc .hifRingAborted] ps = true) : Touches ps s (State.pllRampLoad s a1) := by
  unfold State.pllRampLoad
  try extract_lets -merge -underBinder t0 t1 t2 t3 t4
  try clear_value t0
  try clear_value t1
  try clear_value t2
  try clear_value t3
  with_reducible refine Touches.step ?_ (State.runCmd_touches _ _ _ _ _ ?_ (fun _ => ?_))
  on_goal 2 => exact Part.within_trans rfl hw
  ·
    with_reducible exact Touches.refl _ _
  ·
    try extract_lets -merge -underBinder t5 t6
    try clear_value t5
    try clear_value t6
    with_reducible refine Touches.ite ?_ ?_
    ·
      with_reducible refine Touches.step ?_ (State.complete_touches _ _ _ _ _ _ _ ?_)
      on_goal 2 => exact Part.within_trans rfl hw
      with_reducible exact Touches.refl _ _
    ·
      with_reducible refine Touches.step ?_ (State.complete_touches _ _ _ _ _ _ _ ?_)
      on_goal 2 => exact Part.within_trans rfl hw
      with_reducible refine Touches.step ?_ (State.rampEffects_touches _ _ ?_)
      on_goal 2 => exact Part.within_trans rfl hw
      with_reducible refine Touches.step ?_ (State.setRamp_touches _ _ _ ?_)
      on_goal 2 => exact Part.within_trans rfl hw
      with_reducible exact Touches.refl _ _

theorem State.gnssRfEnLead_touches {ps : List Part} s (hw : Part.within [.gnss] ps = true) : Touches ps s (State.gnssRfEnLead s) := by
  unfold State.gnssRfEnLead
  try extract_lets -merge -underBinder t0
  with_reducible refine Touches.ite ?_ ?_
  ·
    with_reducible refine Touches.set_gnss ?_ ?_
    on_goal 2 => exact Part.within_mem rfl hw
    with_reducible exact Touches.refl _ _
  ·
    with_reducible exact Touches.refl _ _

theorem State.forceStepBack_touches {ps : List Part} s a1 (hw : Part.within [.lanes] ps = true) : Touches ps s (State.forceStepBack s a1) := by
  unfold State.forceStepBack
  try extract_lets -merge -underBinder t0
  try clear_value t0
  with_reducible refine Touches.ite ?_ ?_
  ·
    with_reducible refine Touches.step ?_ (State.setLane_touches _ _ _ ?_)
    on_goal 2 => exact Part.within_trans rfl hw
    with_reducible exact Touches.refl _ _
  ·
    with_reducible exact Touches.refl _ _

theorem State.searchDeal_touches {ps : List Part} s a1 (hw : Part.within [.gnss] ps = true) : Touches ps s (State.searchDeal s a1) := by
  unfold State.searchDeal
  try extract_lets -merge -underBinder t0
  try clear_value t0
  with_reducible refine Touches.ite ?_ ?_
  ·
    with_reducible exact Touches.refl _ _
  ·
    with_reducible refine Touches.step ?_ (State.setSearchJob_touches _ _ _ ?_)
    on_goal 2 => exact Part.within_trans rfl hw
    with_reducible exact Touches.refl _ _

theorem State.gnssDwellStart_touches {ps : List Part} s (hw : Part.within [.gnss] ps = true) : Touches ps s (State.gnssDwellStart s) := by
  unfold State.gnssDwellStart
  with_reducible refine Touches.ite ?_ ?_
  ·
    with_reducible exact Touches.refl _ _
  ·
    with_reducible refine Touches.foldl (fun _ _ => ?_) _ ?_
    ·
      with_reducible refine Touches.step ?_ (State.searchDeal_touches _ _ ?_)
      on_goal 2 => exact Part.within_trans rfl hw
      with_reducible exact Touches.refl _ _
    ·
      with_reducible exact Touches.refl _ _

theorem State.refclkReturn_touches {ps : List Part} s (hw : Part.within [.pll] ps = true) : Touches ps s (State.refclkReturn s) := by
  unfold State.refclkReturn
  try extract_lets -merge -underBinder t0
  with_reducible refine Touches.foldl (fun _ _ => ?_) _ ?_
  ·
    try extract_lets -merge -underBinder t1
    with_reducible refine Touches.step ?_ (State.setPll_touches _ _ _ ?_)
    on_goal 2 => exact Part.within_trans rfl hw
    with_reducible exact Touches.refl _ _
  ·
    with_reducible refine Touches.set_pll ?_ ?_
    on_goal 2 => exact Part.within_mem rfl hw
    with_reducible exact Touches.refl _ _

theorem State.searchMake_touches {ps : List Part} s a1 a2 (hw : Part.within [.index, .objs, .gnss] ps = true) : Touches ps s (State.searchMake s a1 a2) := by
  unfold State.searchMake
  try extract_lets -merge -underBinder t0 t1 t2
  try clear_value t0
  refine Touches.haveS (t := t1) ?_ (fun ht1 => ?_)
  ·
    unfold t1
    with_reducible refine Touches.step ?_ (State.addObj_touches _ _ _ _ ?_)
    on_goal 2 => exact Part.within_trans rfl hw
    with_reducible exact Touches.refl _ _
  try clear_value t1
  with_reducible refine Touches.step ?_ (State.searchBegin_touches _ _ _ ?_)
  on_goal 2 => exact Part.within_trans rfl hw
  with_reducible refine Touches.set_gnss ?_ ?_
  on_goal 2 => exact Part.within_mem rfl hw
  with_reducible exact ht1

theorem State.autoJob_touches {ps : List Part} s a1 a2 (hw : Part.within [.index, .objs, .gnss] ps = true) : Touches ps s (State.autoJob s a1 a2) := by
  unfold State.autoJob
  try extract_lets -merge -underBinder t0 t1 t2 t3 t4 t5
  try clear_value t0
  try clear_value t1
  try clear_value t2
  try clear_value t3
  try clear_value t4
  try clear_value t5
  with_reducible refine Touches.ite ?_ ?_
  ·
    with_reducible exact Touches.refl _ _
  ·
    split
    ·
      with_reducible exact Touches.refl _ _
    ·
      try extract_lets -merge -underBinder t6 t7 t8 t9
      refine Touches.haveS (t := t6) ?_ (fun ht6 => ?_)
      ·
        unfold t6
        with_reducible refine Touches.step ?_ (State.searchMake_touches _ _ _ ?_)
        on_goal 2 => exact Part.within_trans rfl hw
        with_reducible exact Touches.refl _ _
      try clear_value t6
      refine Touches.haveS (t := t8) ?_ (fun ht8 => ?_)
      ·
        unfold t8
        with_reducible refine Touches.ite ?_ ?_
        ·
          with_reducible refine Touches.step ?_ (State.setSearchJob_touches _ _ _ ?_)
          on_goal 2 => exact Part.within_trans rfl hw
          with_reducible exact ht6
        ·
          with_reducible exact ht6
      try clear_value t8
      with_reducible refine Touches.set_gnss ?_ ?_
      on_goal 2 => exact Part.within_mem rfl hw
      with_reducible exact ht8

theorem State.gnssAutoAcqRound_touches {ps : List Part} s (hw : Part.within [.index, .objs, .gnss] ps = true) : Touches ps s (State.gnssAutoAcqRound s) := by
  unfold State.gnssAutoAcqRound
  try extract_lets -merge -underBinder t0
  refine Touches.haveS (t := t0) ?_ (fun ht0 => ?_)
  ·
    unfold t0
    with_reducible refine Touches.foldl (fun _ _ => ?_) _ ?_
    ·
      with_reducible refine Touches.step ?_ (State.autoDrop_touches _ _ ?_)
      on_goal 2 => exact Part.within_trans rfl hw
      with_reducible exact Touches.refl _ _
    ·
      with_reducible exact Touches.refl _ _
  try clear_value t0
  with_reducible refine Touches.ite ?_ ?_
  ·
    with_reducible exact Touches.refl _ _
  ·
    with_reducible refine Touches.foldl (fun _ _ => ?_) _ ?_
    ·
      with_reducible refine Touches.step ?_ (State.autoJob_touches _ _ _ ?_)
      on_goal 2 => exact Part.within_trans rfl hw
      with_reducible exact Touches.refl _ _
    ·
      with_reducible exact ht0

theorem State.polSet_touches {ps : List Part} s a1 (hw : Part.within [.clk, .keys, .evt, .hif, .tcore, .tchans, .lnk, .ref, .pll, .tic, .cal, .eng, .pair, .pwr, .boot, .rc .calAbortCnt, .rc .evtPinStat, .rc .evtSuppressed, .rc .hifEvtLost, .rc .hifRingAborted, .rc .pairMirOvf, .rc .pllCnt, .rc .pwrWakeSrc] ps = true) : Touches ps s (State.polSet s a1) := by
  unfold State.polSet
  try extract_lets -merge -underBinder t0
  try clear_value t0
  with_reducible refine Touches.step ?_ (State.runCmd_touches _ _ _ _ _ ?_ (fun _ => ?_))
  on_goal 2 => exact Part.within_trans rfl hw
  ·
    with_reducible exact Touches.refl _ _
  ·
    try extract_lets -merge -underBinder t1 t2
    refine Touches.haveS (t := t1) ?_ (fun ht1 => ?_)
    ·
      unfold t1
      with_reducible refine Touches.foldl (fun _ _ => ?_) _ ?_
      ·
        with_reducible refine Touches.step ?_ (State.setPol_touches _ _ _ _ ?_)
        on_goal 2 => exact Part.within_trans rfl hw
        with_reducible exact Touches.refl _ _
      ·
        with_reducible exact Touches.refl _ _
    try clear_value t1
    refine Touches.haveS (t := t2) ?_ (fun ht2 => ?_)
    ·
      unfold t2
      with_reducible refine Touches.ite ?_ ?_
      ·
        with_reducible refine Touches.step ?_ (State.rolesEval_touches _ ?_)
        on_goal 2 => exact Part.within_trans rfl hw
        with_reducible exact ht1
      ·
        with_reducible exact ht1
    try clear_value t2
    with_reducible refine Touches.step ?_ (State.complete_touches _ _ _ _ _ _ _ ?_)
    on_goal 2 => exact Part.within_trans rfl hw
    with_reducible exact ht2

theorem State.esmcTimeout_touches {ps : List Part} s a1 (hw : Part.within [.clk, .evt, .hif, .tcore, .tchans, .ref, .pll, .eng, .pair, .pwr, .rc .evtPinStat, .rc .evtSuppressed, .rc .hifEvtLost, .rc .pairMirOvf, .rc .pllCnt, .rc .pwrWakeSrc, .rc .refHoldoffCnt] ps = true) : Touches ps s (State.esmcTimeout s a1) := by
  unfold State.esmcTimeout
  try extract_lets -merge -underBinder t0 t1
  refine Touches.haveS (t := t1) ?_ (fun ht1 => ?_)
  ·
    unfold t1
    with_reducible refine Touches.set_ref ?_ ?_
    on_goal 2 => exact Part.within_mem rfl hw
    with_reducible exact Touches.refl _ _
  try clear_value t1
  with_reducible refine Touches.step ?_ (State.updateClass_touches _ ?_)
  on_goal 2 => exact Part.within_trans rfl hw
  with_reducible refine Touches.foldl (fun _ _ => ?_) _ ?_
  ·
    with_reducible refine Touches.step ?_ (State.recheck_touches _ _ ?_)
    on_goal 2 => exact Part.within_trans rfl hw
    with_reducible exact Touches.refl _ _
  ·
    with_reducible exact ht1

theorem State.rehearsalEnd_touches {ps : List Part} s a1 a2 a3 a4 a5 (hw : Part.within [.evt, .hif, .pair, .boot, .rc .evtPinStat, .rc .evtSuppressed, .rc .hifEvtLost, .rc .hifRingAborted] ps = true) : Touches ps s (State.rehearsalEnd s a1 a2 a3 a4 a5) := by
  unfold State.rehearsalEnd
  try extract_lets -merge -underBinder t0 t1 t2 t3 t4 t5 t6 t7 t8
  try clear_value t0
  try clear_value t1
  try clear_value t2
  try clear_value t3
  try clear_value t4
  refine Touches.haveS (t := t6) ?_ (fun ht6 => ?_)
  ·
    unfold t6
    with_reducible refine Touches.set_pair ?_ ?_
    on_goal 2 => exact Part.within_mem rfl hw
    with_reducible exact Touches.refl _ _
  try clear_value t6
  refine Touches.haveS (t := t8) ?_ (fun ht8 => ?_)
  ·
    unfold t8
    with_reducible refine Touches.step ?_ (State.raise_touches _ _ _ _ _ ?_)
    on_goal 2 => exact Part.within_trans rfl hw
    with_reducible exact ht6
  try clear_value t8
  with_reducible refine Touches.ite ?_ ?_
  ·
    with_reducible exact Touches.refl _ _
  ·
    split
    ·
      with_reducible refine Touches.step ?_ (State.complete_touches _ _ _ _ _ _ _ ?_)
      on_goal 2 => exact Part.within_trans rfl hw
      with_reducible exact ht8
    ·
      with_reducible exact ht8

theorem State.dmaWord_touches {ps : List Part} (s : State) (x : Nat × Option Nat × Nat) (o v : Nat) (c : Option Word) (hw : Part.within [.evt, .hif, .eng, .spad, .rc .engSpadBankErr, .rc .engSpadLost, .rc .evtPinStat, .rc .evtSuppressed, .rc .hifEvtLost] ps = true) :
    Touches ps s (State.dmaWord (s, x) o v c).1 := by
  unfold State.dmaWord
  extract_lets s0
  split
  · exact State.bankOffAccess_touches _ _ (Part.within_trans rfl hw)
  · split
    · exact ((State.putSpad_touches _ _ _ (Part.within_trans rfl hw)).step (State.bump_touches _ _ _ _ (Part.within_trans rfl hw))).step
        (State.raise_touches _ _ _ _ _ (Part.within_trans rfl hw))
    · exact State.putSpad_touches _ _ _ (Part.within_trans rfl hw)

theorem State.pairHoldEnd_touches {ps : List Part} s a1 (hw : Part.within [.evt, .hif, .lnk, .rc .evtPinStat, .rc .evtSuppressed, .rc .hifEvtLost] ps = true) : Touches ps s (State.pairHoldEnd s a1) := by
  unfold State.pairHoldEnd
  try extract_lets -merge -underBinder t0
  with_reducible refine Touches.ite ?_ ?_
  ·
    with_reducible refine Touches.step ?_ (State.raise_touches _ _ _ _ _ ?_)
    on_goal 2 => exact Part.within_trans rfl hw
    with_reducible refine Touches.step ?_ (State.setPair_touches _ _ _ ?_)
    on_goal 2 => exact Part.within_trans rfl hw
    with_reducible exact Touches.refl _ _
  ·
    with_reducible exact Touches.refl _ _

theorem State.lnkHoldExpire_touches {ps : List Part} s a1 (hw : Part.within [.evt, .hif, .lnk, .rc .evtPinStat, .rc .evtSuppressed, .rc .hifEvtLost] ps = true) : Touches ps s (State.lnkHoldExpire s a1) := by
  unfold State.lnkHoldExpire
  with_reducible refine Touches.step ?_ (State.pairHoldEnd_touches _ _ ?_)
  on_goal 2 => exact Part.within_trans rfl hw
  with_reducible exact Touches.refl _ _

theorem State.pairPrimary_touches {ps : List Part} s a1 (hw : Part.within [.clk, .evt, .hif, .fdb, .tcore, .ref, .free, .pair, .pwr, .boot, .rc .evtPinStat, .rc .evtSuppressed, .rc .hifEvtLost, .rc .hifRingAborted, .rc .pairMirOvf, .rc .pwrWakeSrc] ps = true) : Touches ps s (State.pairPrimary s a1) := by
  unfold State.pairPrimary
  try extract_lets -merge -underBinder t0
  with_reducible refine Touches.step ?_ (State.goPair_touches _ _ ?_)
  on_goal 2 => exact Part.within_trans rfl hw
  with_reducible refine Touches.set_pair ?_ ?_
  on_goal 2 => exact Part.within_mem rfl hw
  with_reducible exact Touches.refl _ _

theorem State.pairSearchTimeout_touches {ps : List Part} s (hw : Part.within [.clk, .evt, .hif, .fdb, .tcore, .ref, .free, .pair, .pwr, .boot, .rc .evtPinStat, .rc .evtSuppressed, .rc .hifEvtLost, .rc .hifRingAborted, .rc .pairMirOvf, .rc .pwrWakeSrc] ps = true) : Touches ps s (State.pairSearchTimeout s) := by
  unfold State.pairSearchTimeout
  with_reducible refine Touches.ite ?_ ?_
  ·
    with_reducible refine Touches.step ?_ (State.pairPrimary_touches _ _ ?_)
    on_goal 2 => exact Part.within_trans rfl hw
    with_reducible exact Touches.refl _ _
  ·
    with_reducible exact Touches.refl _ _

theorem State.returnCheck_touches {ps : List Part} s a1 a2 (hw : Part.within [.clk, .evt, .hif, .tcore, .tchans, .ref, .pll, .eng, .pair, .pwr, .rc .evtPinStat, .rc .evtSuppressed, .rc .hifEvtLost, .rc .pairMirOvf, .rc .pllCnt, .rc .pwrWakeSrc] ps = true) : Touches ps s (State.returnCheck s a1 a2) := by
  unfold State.returnCheck
  with_reducible refine Touches.ite ?_ ?_
  ·
    with_reducible refine Touches.step ?_ (State.returnStepped_touches _ _ ?_)
    on_goal 2 => exact Part.within_trans rfl hw
    with_reducible exact Touches.refl _ _
  ·
    with_reducible exact Touches.refl _ _

theorem State.ppsRise_touches {ps : List Part} s a1 a2 (hw : Part.within [.pll] ps = true) : Touches ps s (State.ppsRise s a1 a2) := by
  unfold State.ppsRise
  try extract_lets -merge -underBinder t0
  with_reducible refine Touches.step ?_ (State.setPps_touches _ _ _ ?_)
  on_goal 2 => exact Part.within_trans rfl hw
  with_reducible exact Touches.refl _ _

theorem State.ppsOutPulse_touches {ps : List Part} s a1 (hw : Part.within [.pll, .rc .pllPpsLate] ps = true) : Touches ps s (State.ppsOutPulse s a1) := by
  unfold State.ppsOutPulse
  try extract_lets -merge -underBinder t0
  try clear_value t0
  with_reducible refine Touches.ite ?_ ?_
  ·
    with_reducible exact Touches.refl _ _
  ·
    with_reducible refine Touches.ite ?_ ?_
    ·
      with_reducible refine Touches.step ?_ (State.setPps_touches _ _ _ ?_)
      on_goal 2 => exact Part.within_trans rfl hw
      with_reducible exact Touches.refl _ _
    ·
      with_reducible refine Touches.ite ?_ ?_
      ·
        with_reducible refine Touches.step ?_ (State.setPps_touches _ _ _ ?_)
        on_goal 2 => exact Part.within_trans rfl hw
        with_reducible refine Touches.step ?_ (State.bump_touches _ _ _ _ ?_)
        on_goal 2 => exact Part.within_trans rfl hw
        with_reducible exact Touches.refl _ _
      ·
        split
        ·
          with_reducible refine Touches.ite ?_ ?_
          ·
            with_reducible refine Touches.step ?_ (State.ppsRise_touches _ _ _ ?_)
            on_goal 2 => exact Part.within_trans rfl hw
            with_reducible refine Touches.step ?_ (State.bump_touches _ _ _ _ ?_)
            on_goal 2 => exact Part.within_trans rfl hw
            with_reducible exact Touches.refl _ _
          ·
            with_reducible refine Touches.step ?_ (State.ppsRise_touches _ _ _ ?_)
            on_goal 2 => exact Part.within_trans rfl hw
            with_reducible exact Touches.refl _ _
        ·
          with_reducible refine Touches.step ?_ (State.ppsRise_touches _ _ _ ?_)
          on_goal 2 => exact Part.within_trans rfl hw
          with_reducible exact Touches.refl _ _

theorem State.bootStart_touches {ps : List Part} s a1 (hw : Part.within [.clk, .ready, .keys, .regs, .mbx, .evt, .pers, .hif, .index, .objs, .lanes, .grps, .sw, .fab, .bpm, .fdb, .tcore, .tchans, .lnk, .ref, .free, .pll, .gnss, .tic, .cal, .eng, .spad, .pair, .pwr, .boot, .counters] ps = true) : Touches ps s (State.bootStart s a1) := by
  unfold State.bootStart
  try extract_lets -merge -underBinder t0 t1
  with_reducible refine Touches.ite ?_ ?_
  ·
    with_reducible exact Touches.refl _ _
  ·
    with_reducible refine Touches.ite ?_ ?_
    ·
      refine Touches.mk hw ?_
      with_reducible exact Touches.refl _ _
    ·
      with_reducible refine Touches.step ?_ (State.boot!_touches _ _ ?_)
      on_goal 2 => exact Part.within_trans rfl hw
      with_reducible exact Touches.refl _ _

theorem State.fdbClsSet_touches {ps : List Part} s a1 (hw : Part.within [.keys, .evt, .hif, .fdb, .boot, .rc .evtPinStat, .rc .evtSuppressed, .rc .hifEvtLost, .rc .hifRingAborted] ps = true) : Touches ps s (State.fdbClsSet s a1) := by
  unfold State.fdbClsSet
  try extract_lets -merge -underBinder t0 t1 t2
  try clear_value t0
  try clear_value t1
  try clear_value t2
  with_reducible refine Touches.step ?_ (State.runCmd_touches _ _ _ _ _ ?_ (fun _ => ?_))
  on_goal 2 => exact Part.within_trans rfl hw
  ·
    with_reducible exact Touches.refl _ _
  ·
    try extract_lets -merge -underBinder t3 t4
    refine Touches.haveS (t := t3) ?_ (fun ht3 => ?_)
    ·
      unfold t3
      with_reducible refine Touches.step ?_ (State.bumpVersion_touches _ _ ?_)
      on_goal 2 => exact Part.within_trans rfl hw
      with_reducible exact Touches.refl _ _
    try clear_value t3
    with_reducible refine Touches.ite ?_ ?_
    ·
      with_reducible refine Touches.step ?_ (State.complete_touches _ _ _ _ _ _ _ ?_)
      on_goal 2 => exact Part.within_trans rfl hw
      with_reducible exact Touches.refl _ _
    ·
      with_reducible refine Touches.ite ?_ ?_
      ·
        with_reducible refine Touches.step ?_ (State.complete_touches _ _ _ _ _ _ _ ?_)
        on_goal 2 => exact Part.within_trans rfl hw
        with_reducible exact Touches.refl _ _
      ·
        with_reducible refine Touches.step ?_ (State.complete_touches _ _ _ _ _ _ _ ?_)
        on_goal 2 => exact Part.within_trans rfl hw
        with_reducible refine Touches.set_fdb ?_ ?_
        on_goal 2 => exact Part.within_mem rfl hw
        with_reducible exact ht3

theorem State.esmcSend_touches {ps : List Part} s a1 (hw : Part.within [.ref] ps = true) : Touches ps s (State.esmcSend s a1) := by
  unfold State.esmcSend
  try extract_lets -merge -underBinder t0
  with_reducible refine Touches.ite ?_ ?_
  ·
    with_reducible refine Touches.set_ref ?_ ?_
    on_goal 2 => exact Part.within_mem rfl hw
    with_reducible exact Touches.refl _ _
  ·
    with_reducible exact Touches.refl _ _

theorem State.pairHbMissCheck_touches {ps : List Part} s (hw : Part.within [.clk, .keys, .regs, .evt, .hif, .index, .objs, .sw, .fab, .bpm, .fdb, .tcore, .ref, .free, .eng, .pair, .pwr, .boot, .rc .bpmDoubleFreeCnt, .rc .bpmForeignFreeCnt, .rc .bpmPoolEmptyCnt, .rc .bpmPromoteCnt, .rc .evtPinStat, .rc .evtSuppressed, .rc .hifEvtLost, .rc .hifRingAborted, .rc .pairHbMiss, .rc .pairMirOvf, .rc .pairPromoteCnt, .rc .perfTagDrop, .rc .pwrWakeSrc] ps = true) : Touches ps s (State.pairHbMissCheck s) := by
  unfold State.pairHbMissCheck
  try extract_lets -merge -underBinder t0 t1 t2 t3 t4 t5 t6 t7 t8 t9 t10
  try clear_value t0
  try clear_value t1
  try clear_value t2
  refine Touches.haveS (t := t4) ?_ (fun ht4 => ?_)
  ·
    unfold t4
    with_reducible refine Touches.set_pair ?_ ?_
    on_goal 2 => exact Part.within_mem rfl hw
    with_reducible exact Touches.refl _ _
  try clear_value t4
  refine Touches.haveS (t := t5) ?_ (fun ht5 => ?_)
  ·
    unfold t5
    with_reducible refine Touches.ite ?_ ?_
    ·
      with_reducible exact ht4
    ·
      with_reducible refine Touches.step ?_ (State.bump_touches _ _ _ _ ?_)
      on_goal 2 => exact Part.within_trans rfl hw
      with_reducible exact ht4
  try clear_value t5
  refine Touches.haveS (t := t6) ?_ (fun ht6 => ?_)
  ·
    unfold t6
    with_reducible refine Touches.ite ?_ ?_
    ·
      with_reducible exact ht5
    ·
      with_reducible refine Touches.step ?_ (State.bump_touches _ _ _ _ ?_)
      on_goal 2 => exact Part.within_trans rfl hw
      with_reducible exact ht5
  try clear_value t6
  refine Touches.haveS (t := t7) ?_ (fun ht7 => ?_)
  ·
    unfold t7
    with_reducible refine Touches.step ?_ (State.raiseIf_touches _ _ _ _ _ _ ?_)
    on_goal 2 => exact Part.within_trans rfl hw
    with_reducible exact ht6
  try clear_value t7
  refine Touches.haveS (t := t8) ?_ (fun ht8 => ?_)
  ·
    unfold t8
    with_reducible refine Touches.step ?_ (State.raiseIf_touches _ _ _ _ _ _ ?_)
    on_goal 2 => exact Part.within_trans rfl hw
    with_reducible exact ht7
  try clear_value t8
  try clear_value t9
  with_reducible refine Touches.ite ?_ ?_
  ·
    with_reducible exact Touches.refl _ _
  ·
    with_reducible refine Touches.step ?_ (State.pairPaths_touches _ ?_)
    on_goal 2 => exact Part.within_trans rfl hw
    with_reducible refine Touches.ite ?_ ?_
    ·
      with_reducible refine Touches.set_pair ?_ ?_
      on_goal 2 => exact Part.within_mem rfl hw
      with_reducible exact ht8
    ·
      with_reducible exact ht8

theorem State.mirrorBuf_touches {ps : List Part} s a1 a2 a3 (hw : Part.within [.evt, .hif, .sw, .fab, .bpm, .fdb, .free, .eng, .rc .bpmDoubleFreeCnt, .rc .bpmForeignFreeCnt, .rc .bpmMirrorSkip, .rc .bpmPoolEmptyCnt, .rc .bpmPromoteCnt, .rc .evtPinStat, .rc .evtSuppressed, .rc .hifEvtLost, .rc .perfTagDrop] ps = true) : Touches ps s (State.mirrorBuf s a1 a2 a3) := by
  unfold State.mirrorBuf
  try extract_lets -merge -underBinder t0 t1 t2
  try clear_value t0
  try clear_value t1
  refine Touches.haveS (t := t2) ?_ (fun ht2 => ?_)
  ·
    unfold t2
    with_reducible refine Touches.step ?_ (State.countAnswer_touches _ _ _ ?_)
    on_goal 2 => exact Part.within_trans rfl hw
    with_reducible exact Touches.refl _ _
  try clear_value t2
  with_reducible refine Touches.ite ?_ ?_
  ·
    with_reducible refine Touches.step ?_ (State.giveBuf_touches _ _ _ _ _ _ ?_)
    on_goal 2 => exact Part.within_trans rfl hw
    with_reducible exact ht2
  ·
    with_reducible refine Touches.step ?_ (State.removeCopy_touches _ _ ?_)
    on_goal 2 => exact Part.within_trans rfl hw
    with_reducible refine Touches.step ?_ (State.bump_touches _ _ _ _ ?_)
    on_goal 2 => exact Part.within_trans rfl hw
    with_reducible exact ht2

theorem State.mirrorMore_touches {ps : List Part} (s : State) (m c n k : Nat) (hw : Part.within [.evt, .hif, .sw, .fab, .bpm, .fdb, .free, .eng, .rc .bpmDoubleFreeCnt, .rc .bpmForeignFreeCnt, .rc .bpmMirrorSkip, .rc .bpmPoolEmptyCnt, .rc .bpmPromoteCnt, .rc .evtPinStat, .rc .evtSuppressed, .rc .fdbMirCopies, .rc .hifEvtLost, .rc .perfTagDrop] ps = true) :
    Touches ps s (s.mirrorMore m c n k) := by
  induction k generalizing s with
  | zero => exact Touches.refl _ _
  | succ k ih =>
    unfold State.mirrorMore
    split
    · exact Touches.refl _ _
    · exact Touches.ite (State.bump_touches _ _ _ _ (Part.within_trans rfl hw))
        ((State.mirrorBuf_touches _ _ _ _ (Part.within_trans rfl hw)).step (ih _))

theorem State.mirrorBufs_touches {ps : List Part} s a1 a2 a3 a4 (hw : Part.within [.evt, .hif, .sw, .fab, .bpm, .fdb, .free, .eng, .rc .bpmDoubleFreeCnt, .rc .bpmForeignFreeCnt, .rc .bpmMirrorSkip, .rc .bpmPoolEmptyCnt, .rc .bpmPromoteCnt, .rc .evtPinStat, .rc .evtSuppressed, .rc .fdbMirCopies, .rc .hifEvtLost, .rc .perfTagDrop] ps = true) : Touches ps s (State.mirrorBufs s a1 a2 a3 a4) := by
  unfold State.mirrorBufs
  with_reducible refine Touches.step ?_ (State.mirrorMore_touches _ _ _ _ _ ?_)
  on_goal 2 => exact Part.within_trans rfl hw
  with_reducible refine Touches.step ?_ (State.mirrorBuf_touches _ _ _ _ ?_)
  on_goal 2 => exact Part.within_trans rfl hw
  with_reducible exact Touches.refl _ _

theorem State.moreBuf_touches {ps : List Part} s a1 a2 a3 a4 (hw : Part.within [.evt, .hif, .sw, .fab, .bpm, .fdb, .free, .eng, .rc .bpmDoubleFreeCnt, .rc .bpmForeignFreeCnt, .rc .bpmHintMiss, .rc .bpmHrOvf, .rc .bpmPoolEmptyCnt, .rc .bpmPromoteCnt, .rc .bpmRsvOver, .rc .evtPinStat, .rc .evtSuppressed, .rc .hifEvtLost, .rc .hifRingAborted, .rc .perfTagDrop, .rc .portIngOvf] ps = true) : Touches ps s (State.moreBuf s a1 a2 a3 a4) := by
  unfold State.moreBuf
  try extract_lets -merge -underBinder t0
  refine Touches.haveS (t := t0) ?_ (fun ht0 => ?_)
  ·
    unfold t0
    with_reducible refine Touches.ite ?_ ?_
    ·
      with_reducible refine Touches.foldl (fun _ _ => ?_) _ ?_
      ·
        split
        ·
          with_reducible refine Touches.step ?_ (State.setCopy_touches _ _ _ ?_)
          on_goal 2 => exact Part.within_trans rfl hw
          with_reducible exact Touches.refl _ _
        ·
          with_reducible exact Touches.refl _ _
      ·
        with_reducible refine Touches.step ?_ (State.bump_touches _ _ _ _ ?_)
        on_goal 2 => exact Part.within_trans rfl hw
        with_reducible exact Touches.refl _ _
    ·
      with_reducible exact Touches.refl _ _
  try clear_value t0
  split
  ·
    with_reducible refine Touches.step ?_ (State.flowBuf_touches _ _ _ _ ?_)
    on_goal 2 => exact Part.within_trans rfl hw
    with_reducible exact ht0
  ·
    with_reducible refine Touches.ite ?_ ?_
    ·
      with_reducible refine Touches.step ?_ (State.refusedBufs_touches _ _ _ ?_)
      on_goal 2 => exact Part.within_trans rfl hw
      with_reducible exact ht0
    ·
      with_reducible refine Touches.step ?_ (State.requestFor_touches _ _ _ _ _ ?_)
      on_goal 2 => exact Part.within_trans rfl hw
      with_reducible exact ht0

theorem State.bpmFrame_touches {ps : List Part} s a1 a2 (hw : Part.within [.evt, .hif, .sw, .fab, .bpm, .fdb, .free, .eng, .rc .bpmDoubleFreeCnt, .rc .bpmForeignFreeCnt, .rc .bpmHintMiss, .rc .bpmHrOvf, .rc .bpmMirrorSkip, .rc .bpmPoolEmptyCnt, .rc .bpmPromoteCnt, .rc .bpmRsvOver, .rc .evtPinStat, .rc .evtSuppressed, .rc .fdbMirCopies, .rc .hifEvtLost, .rc .hifRingAborted, .rc .perfTagDrop, .rc .portIngOvf] ps = true) : Touches ps s (State.bpmFrame s a1 a2) := by
  unfold State.bpmFrame
  split
  ·
    with_reducible refine Touches.ite ?_ ?_
    ·
      with_reducible exact Touches.refl _ _
    ·
      split
      ·
        with_reducible refine Touches.ite ?_ ?_
        ·
          with_reducible refine Touches.step ?_ (State.mirrorBufs_touches _ _ _ _ _ ?_)
          on_goal 2 => exact Part.within_trans rfl hw
          with_reducible exact Touches.refl _ _
        ·
          with_reducible exact Touches.refl _ _
      ·
        try extract_lets -merge -underBinder t0
        try clear_value t0
        with_reducible refine Touches.ite ?_ ?_
        ·
          with_reducible refine Touches.step ?_ (State.firstBufs_touches _ _ _ ?_)
          on_goal 2 => exact Part.within_trans rfl hw
          with_reducible exact Touches.refl _ _
        ·
          with_reducible refine Touches.ite ?_ ?_
          ·
            with_reducible exact Touches.refl _ _
          ·
            with_reducible refine Touches.step ?_ (State.moreBuf_touches _ _ _ _ _ ?_)
            on_goal 2 => exact Part.within_trans rfl hw
            with_reducible exact Touches.refl _ _
  ·
    with_reducible exact Touches.refl _ _

theorem State.omdLaneDown_touches {ps : List Part} s a1 (hw : Part.within [.ready, .evt, .hif, .pair, .rc .evtPinStat, .rc .evtSuppressed, .rc .hifEvtLost] ps = true) : Touches ps s (State.omdLaneDown s a1) := by
  unfold State.omdLaneDown
  with_reducible refine Touches.ite ?_ ?_
  ·
    with_reducible refine Touches.step ?_ (State.setLanes_touches _ _ ?_)
    on_goal 2 => exact Part.within_trans rfl hw
    with_reducible exact Touches.refl _ _
  ·
    with_reducible exact Touches.refl _ _

theorem State.spadBankTransitionDone_touches {ps : List Part} s a1 (hw : Part.within [.eng, .spad] ps = true) : Touches ps s (State.spadBankTransitionDone s a1) := by
  unfold State.spadBankTransitionDone
  try extract_lets -merge -underBinder t0
  try clear_value t0
  split
  ·
    with_reducible exact Touches.refl _ _
  ·
    try extract_lets -merge -underBinder t1
    refine Touches.mk hw ?_
    with_reducible exact Touches.refl _ _

theorem State.pairFlowTimeout_touches {ps : List Part} s (hw : Part.within [.keys, .regs, .evt, .hif, .index, .objs, .sw, .fab, .bpm, .fdb, .free, .eng, .pair, .boot, .rc .bpmDoubleFreeCnt, .rc .bpmForeignFreeCnt, .rc .bpmPoolEmptyCnt, .rc .bpmPromoteCnt, .rc .evtPinStat, .rc .evtSuppressed, .rc .hifEvtLost, .rc .hifRingAborted, .rc .pairMirOvf, .rc .perfTagDrop] ps = true) : Touches ps s (State.pairFlowTimeout s) := by
  unfold State.pairFlowTimeout
  split
  ·
    with_reducible refine Touches.ite ?_ ?_
    ·
      with_reducible refine Touches.step ?_ (State.admGo_touches _ ?_)
      on_goal 2 => exact Part.within_trans rfl hw
      with_reducible refine Touches.step ?_ (State.flowGrant_touches _ _ ?_)
      on_goal 2 => exact Part.within_trans rfl hw
      with_reducible exact Touches.refl _ _
    ·
      with_reducible exact Touches.refl _ _
  ·
    with_reducible exact Touches.refl _ _

theorem State.ticStop_touches {ps : List Part} s a1 a2 (hw : Part.within [.keys, .regs, .evt, .hif, .objs, .tic, .cal, .boot, .rc .evtPinStat, .rc .evtSuppressed, .rc .hifEvtLost, .rc .hifRingAborted] ps = true) : Touches ps s (State.ticStop s a1 a2) := by
  unfold State.ticStop
  with_reducible refine Touches.step ?_ (State.runNamed_touches _ _ _ _ _ _ _ _ ?_ (fun _ => ?_))
  on_goal 2 => exact Part.within_trans rfl hw
  ·
    with_reducible exact Touches.refl _ _
  ·
    try extract_lets -merge -underBinder t0 t1 t2
    try clear_value t0
    try clear_value t1
    refine Touches.haveS (t := t2) ?_ (fun ht2 => ?_)
    ·
      unfold t2
      with_reducible refine Touches.ite ?_ ?_
      ·
        with_reducible refine Touches.step ?_ (State.ticCalGo_touches _ _ ?_)
        on_goal 2 => exact Part.within_trans rfl hw
        with_reducible refine Touches.step ?_ (State.calBoundary_touches _ _ _ ?_)
        on_goal 2 => exact Part.within_trans rfl hw
        with_reducible refine Touches.step ?_ (State.setTicCh_touches _ _ _ ?_)
        on_goal 2 => exact Part.within_trans rfl hw
        with_reducible exact Touches.refl _ _
      ·
        with_reducible refine Touches.step ?_ (State.ticEnd_touches _ _ _ ?_)
        on_goal 2 => exact Part.within_trans rfl hw
        with_reducible exact Touches.refl _ _
    try clear_value t2
    with_reducible refine Touches.ite ?_ ?_
    ·
      with_reducible refine Touches.step ?_ (State.complete_touches _ _ _ _ _ _ _ ?_)
      on_goal 2 => exact Part.within_trans rfl hw
      with_reducible exact Touches.refl _ _
    ·
      with_reducible refine Touches.step ?_ (State.complete_touches _ _ _ _ _ _ _ ?_)
      on_goal 2 => exact Part.within_trans rfl hw
      with_reducible exact ht2

theorem State.objVerb_touches {ps : List Part} s a1 a2 (hw : Part.within [.clk, .keys, .regs, .evt, .hif, .index, .objs, .lanes, .sw, .fab, .bpm, .fdb, .tcore, .tchans, .lnk, .ref, .free, .pll, .gnss, .tic, .cal, .eng, .pair, .pwr, .boot, .rc .bpmDoubleFreeCnt, .rc .bpmForeignFreeCnt, .rc .bpmPoolEmptyCnt, .rc .bpmPromoteCnt, .rc .calAbortCnt, .rc .evtPinStat, .rc .evtSuppressed, .rc .hifEvtLost, .rc .hifRingAborted, .rc .pairMirOvf, .rc .perfTagDrop, .rc .pllCnt, .rc .portHoldFlush, .rc .pwrWakeSrc, .rc .ticTmoCnt] ps = true) : Touches ps s (State.objVerb s a1 a2) := by
  unfold State.objVerb
  with_reducible refine Touches.ite ?_ ?_
  ·
    with_reducible refine Touches.step ?_ (State.flowAgain_touches _ _ ?_)
    on_goal 2 => exact Part.within_trans rfl hw
    with_reducible exact Touches.refl _ _
  ·
    split
    ·
      with_reducible refine Touches.step ?_ (State.objModify_touches _ _ _ _ ?_)
      on_goal 2 => exact Part.within_trans rfl hw
      with_reducible exact Touches.refl _ _
    ·
      with_reducible refine Touches.step ?_ (State.objDrain_touches _ _ _ _ _ ?_)
      on_goal 2 => exact Part.within_trans rfl hw
      with_reducible exact Touches.refl _ _
    ·
      with_reducible refine Touches.step ?_ (State.objDrain_touches _ _ _ _ _ ?_)
      on_goal 2 => exact Part.within_trans rfl hw
      with_reducible exact Touches.refl _ _
    ·
      with_reducible refine Touches.step ?_ (State.objEnable_touches _ _ _ _ ?_)
      on_goal 2 => exact Part.within_trans rfl hw
      with_reducible exact Touches.refl _ _
    ·
      with_reducible refine Touches.step ?_ (State.ticArm_touches _ _ _ ?_)
      on_goal 2 => exact Part.within_trans rfl hw
      with_reducible exact Touches.refl _ _
    ·
      with_reducible refine Touches.step ?_ (State.ticStop_touches _ _ _ ?_)
      on_goal 2 => exact Part.within_trans rfl hw
      with_reducible exact Touches.refl _ _

theorem State.drainEnd_touches {ps : List Part} s a1 a2 (hw : Part.within [.clk, .keys, .regs, .evt, .hif, .index, .objs, .lanes, .sw, .fab, .bpm, .fdb, .tcore, .tchans, .lnk, .ref, .free, .pll, .gnss, .tic, .cal, .eng, .pair, .pwr, .boot, .rc .bpmDoubleFreeCnt, .rc .bpmForeignFreeCnt, .rc .bpmPoolEmptyCnt, .rc .bpmPromoteCnt, .rc .calAbortCnt, .rc .evtPinStat, .rc .evtSuppressed, .rc .hifEvtLost, .rc .hifRingAborted, .rc .pairMirOvf, .rc .perfTagDrop, .rc .pllCnt, .rc .portHoldFlush, .rc .pwrWakeSrc, .rc .ticTmoCnt] ps = true) : Touches ps s (State.drainEnd s a1 a2) := by
  unfold State.drainEnd
  split
  ·
    with_reducible exact Touches.refl _ _
  ·
    try extract_lets -merge -underBinder t0
    try clear_value t0
    with_reducible refine Touches.ite ?_ ?_
    ·
      with_reducible exact Touches.refl _ _
    ·
      split
      ·
        with_reducible exact Touches.refl _ _
      ·
        try extract_lets -merge -underBinder t1 t2 t3 t4
        try clear_value t1
        try clear_value t2
        refine Touches.haveS (t := t3) ?_ (fun ht3 => ?_)
        ·
          unfold t3
          with_reducible refine Touches.ite ?_ ?_
          ·
            with_reducible exact Touches.refl _ _
          ·
            with_reducible refine Touches.step ?_ (State.objAbort_touches _ _ _ ?_)
            on_goal 2 => exact Part.within_trans rfl hw
            with_reducible exact Touches.refl _ _
        try clear_value t3
        refine Touches.haveS (t := t4) ?_ (fun ht4 => ?_)
        ·
          unfold t4
          with_reducible refine Touches.step ?_ (State.objEnd_touches _ _ _ _ _ ?_)
          on_goal 2 => exact Part.within_trans rfl hw
          with_reducible exact ht3
        try clear_value t4
        with_reducible refine Touches.ite ?_ ?_
        ·
          with_reducible exact Touches.refl _ _
        ·
          with_reducible refine Touches.foldl (fun _ _ => ?_) _ ?_
          ·
            with_reducible refine Touches.step ?_ (State.objVerb_touches _ _ _ ?_)
            on_goal 2 => exact Part.within_trans rfl hw
            with_reducible exact Touches.refl _ _
          ·
            with_reducible exact ht4

theorem State.upset_touches {ps : List Part} s a1 (hw : Part.within [.fab, .bpm] ps = true) : Touches ps s (State.upset s a1) := by
  unfold State.upset
  split
  ·
    split
    ·
      try extract_lets -merge -underBinder t0
      with_reducible refine Touches.step ?_ (State.unlinkBuf_touches _ _ ?_)
      on_goal 2 => exact Part.within_trans rfl hw
      with_reducible refine Touches.set_bpm ?_ ?_
      on_goal 2 => exact Part.within_mem rfl hw
      with_reducible exact Touches.refl _ _
    ·
      with_reducible exact Touches.refl _ _
  ·
    try extract_lets -merge -underBinder t1
    with_reducible refine Touches.step ?_ (State.setPool_touches _ _ _ ?_)
    on_goal 2 => exact Part.within_trans rfl hw
    with_reducible exact Touches.refl _ _
  ·
    try extract_lets -merge -underBinder t2
    with_reducible refine Touches.step ?_ (State.setReq_touches _ _ _ ?_)
    on_goal 2 => exact Part.within_trans rfl hw
    with_reducible exact Touches.refl _ _

theorem State.tagStage_touches {ps : List Part} s a1 a2 (hw : Part.within [.eng] ps = true) : Touches ps s (State.tagStage s a1 a2) := by
  unfold State.tagStage
  split
  ·
    with_reducible exact Touches.refl _ _
  ·
    try extract_lets -merge -underBinder t0
    with_reducible refine Touches.ite ?_ ?_
    ·
      with_reducible exact Touches.refl _ _
    ·
      with_reducible refine Touches.setEng ?_ ?_ ?_
      on_goal 2 => exact Part.within_mem rfl hw
      on_goal 2 => rfl
      with_reducible exact Touches.refl _ _

theorem State.bpmAlloc_touches {ps : List Part} s a1 (hw : Part.within [.evt, .hif, .sw, .fab, .bpm, .fdb, .free, .eng, .rc .bpmDoubleFreeCnt, .rc .bpmForeignFreeCnt, .rc .bpmHintMiss, .rc .bpmHrOvf, .rc .bpmMirrorSkip, .rc .bpmPoolEmptyCnt, .rc .bpmPromoteCnt, .rc .bpmRsvOver, .rc .evtPinStat, .rc .evtSuppressed, .rc .fdbMirCopies, .rc .hifEvtLost, .rc .hifRingAborted, .rc .perfTagDrop, .rc .portIngOvf] ps = true) : Touches ps s (State.bpmAlloc s a1) := by
  unfold State.bpmAlloc
  split
  ·
    with_reducible refine Touches.step ?_ (State.xoffUpdate_touches _ ?_)
    on_goal 2 => exact Part.within_trans rfl hw
    with_reducible refine Touches.step ?_ (State.tagStage_touches _ _ _ ?_)
    on_goal 2 => exact Part.within_trans rfl hw
    with_reducible refine Touches.step ?_ (State.bpmFrame_touches _ _ _ ?_)
    on_goal 2 => exact Part.within_trans rfl hw
    with_reducible exact Touches.refl _ _
  ·
    with_reducible refine Touches.ite ?_ ?_
    ·
      with_reducible refine Touches.step ?_ (State.xoffUpdate_touches _ ?_)
      on_goal 2 => exact Part.within_trans rfl hw
      with_reducible refine Touches.step ?_ (State.bpmEngine_touches _ _ ?_)
      on_goal 2 => exact Part.within_trans rfl hw
      with_reducible exact Touches.refl _ _
    ·
      with_reducible exact Touches.refl _ _

theorem State.esmcReceive_touches {ps : List Part} s a1 a2 a3 (hw : Part.within [.clk, .evt, .hif, .tcore, .tchans, .ref, .pll, .eng, .pair, .pwr, .rc .evtPinStat, .rc .evtSuppressed, .rc .hifEvtLost, .rc .pairMirOvf, .rc .pllCnt, .rc .pwrWakeSrc, .rc .refHoldoffCnt] ps = true) : Touches ps s (State.esmcReceive s a1 a2 a3) := by
  unfold State.esmcReceive
  try extract_lets -merge -underBinder t0 t1
  refine Touches.haveS (t := t1) ?_ (fun ht1 => ?_)
  ·
    unfold t1
    with_reducible refine Touches.set_ref ?_ ?_
    on_goal 2 => exact Part.within_mem rfl hw
    with_reducible exact Touches.refl _ _
  try clear_value t1
  with_reducible refine Touches.ite ?_ ?_
  ·
    with_reducible exact Touches.refl _ _
  ·
    with_reducible refine Touches.step ?_ (State.updateClass_touches _ ?_)
    on_goal 2 => exact Part.within_trans rfl hw
    with_reducible refine Touches.foldl (fun _ _ => ?_) _ ?_
    ·
      with_reducible refine Touches.step ?_ (State.recheck_touches _ _ ?_)
      on_goal 2 => exact Part.within_trans rfl hw
      with_reducible exact Touches.refl _ _
    ·
      with_reducible exact ht1

theorem State.bpmAuditRun_touches {ps : List Part} s a1 (hw : Part.within [.keys, .hif, .bpm, .boot, .rc .hifRingAborted] ps = true) : Touches ps s (State.bpmAuditRun s a1) := by
  unfold State.bpmAuditRun
  try extract_lets -merge -underBinder t0
  try clear_value t0
  with_reducible refine Touches.step ?_ (State.runCmd_touches _ _ _ _ _ ?_ (fun _ => ?_))
  on_goal 2 => exact Part.within_trans rfl hw
  ·
    with_reducible exact Touches.refl _ _
  ·
    try extract_lets -merge -underBinder t1
    with_reducible refine Touches.set_bpm ?_ ?_
    on_goal 2 => exact Part.within_mem rfl hw
    with_reducible exact Touches.refl _ _

theorem State.startTx_touches {ps : List Part} s a1 a2 (hw : Part.within [.fab] ps = true) : Touches ps s (State.startTx s a1 a2) := by
  unfold State.startTx
  split
  ·
    with_reducible exact Touches.refl _ _
  ·
    try extract_lets -merge -underBinder t0 t1
    refine Touches.haveS (t := t0) ?_ (fun ht0 => ?_)
    ·
      unfold t0
      with_reducible refine Touches.step ?_ (State.unqueue_touches _ _ ?_)
      on_goal 2 => exact Part.within_trans rfl hw
      with_reducible refine Touches.step ?_ (State.setCopy_touches _ _ _ ?_)
      on_goal 2 => exact Part.within_trans rfl hw
      with_reducible exact Touches.refl _ _
    try clear_value t0
    with_reducible refine Touches.step ?_ (State.xoffUpdate_touches _ ?_)
    on_goal 2 => exact Part.within_trans rfl hw
    with_reducible refine Touches.step ?_ (State.setPort_touches _ _ _ ?_)
    on_goal 2 => exact Part.within_trans rfl hw
    with_reducible exact ht0

theorem State.pllBypassEntry_touches {ps : List Part} s a1 a2 a3 (hw : Part.within [.evt, .hif, .tchans, .lnk, .pll, .tic, .cal, .eng, .rc .calAbortCnt, .rc .evtPinStat, .rc .evtSuppressed, .rc .hifEvtLost, .rc .pllCnt] ps = true) : Touches ps s (State.pllBypassEntry s a1 a2 a3) := by
  unfold State.pllBypassEntry
  try extract_lets -merge -underBinder t0
  try clear_value t0
  split
  ·
    with_reducible refine Touches.step ?_ (State.pllBypass_touches _ _ _ _ ?_)
    on_goal 2 => exact Part.within_trans rfl hw
    with_reducible exact Touches.refl _ _
  ·
    with_reducible refine Touches.step ?_ (State.setPll_touches _ _ _ ?_)
    on_goal 2 => exact Part.within_trans rfl hw
    with_reducible exact Touches.refl _ _
  ·
    with_reducible exact Touches.refl _ _

theorem State.gnssSurvey_touches {ps : List Part} s a1 (hw : Part.within [.keys, .regs, .hif, .gnss, .boot, .rc .hifRingAborted] ps = true) : Touches ps s (State.gnssSurvey s a1) := by
  unfold State.gnssSurvey
  try extract_lets -merge -underBinder t0
  try clear_value t0
  with_reducible refine Touches.step ?_ (State.runCmd_touches _ _ _ _ _ ?_ (fun _ => ?_))
  on_goal 2 => exact Part.within_trans rfl hw
  ·
    with_reducible exact Touches.refl _ _
  ·
    try extract_lets -merge -underBinder t1
    refine Touches.haveS (t := t1) ?_ (fun ht1 => ?_)
    ·
      unfold t1
      with_reducible refine Touches.step ?_ (State.surveyStart_touches _ ?_)
      on_goal 2 => exact Part.within_trans rfl hw
      with_reducible refine Touches.step ?_ (State.putBoth_touches _ _ _ _ _ ?_)
      on_goal 2 => exact Part.within_trans rfl hw
      with_reducible exact Touches.refl _ _
    try clear_value t1
    with_reducible refine Touches.ite ?_ ?_
    ·
      with_reducible refine Touches.step ?_ (State.complete_touches _ _ _ _ _ _ _ ?_)
      on_goal 2 => exact Part.within_trans rfl hw
      with_reducible exact ht1
    ·
      with_reducible refine Touches.ite ?_ ?_
      ·
        with_reducible refine Touches.step ?_ (State.complete_touches _ _ _ _ _ _ _ ?_)
        on_goal 2 => exact Part.within_trans rfl hw
        with_reducible exact Touches.refl _ _
      ·
        with_reducible refine Touches.step ?_ (State.complete_touches _ _ _ _ _ _ _ ?_)
        on_goal 2 => exact Part.within_trans rfl hw
        with_reducible refine Touches.step ?_ (State.surveyHold_touches _ ?_)
        on_goal 2 => exact Part.within_trans rfl hw
        with_reducible exact Touches.refl _ _

theorem State.calStoreRetry_touches {ps : List Part} s a1 (hw : Part.within [.evt, .pers, .hif, .cal, .rc .calStoreFail, .rc .evtPinStat, .rc .evtSuppressed, .rc .hifEvtLost] ps = true) : Touches ps s (State.calStoreRetry s a1) := by
  unfold State.calStoreRetry
  split
  ·
    with_reducible refine Touches.step ?_ (State.calPut_touches _ _ _ ?_)
    on_goal 2 => exact Part.within_trans rfl hw
    with_reducible exact Touches.refl _ _
  ·
    with_reducible exact Touches.refl _ _

theorem State.objQuery_touches {ps : List Part} s a1 a2 (hw : Part.within [.keys, .evt, .hif, .tic, .cal, .boot, .rc .calAbortCnt, .rc .evtPinStat, .rc .evtSuppressed, .rc .hifEvtLost, .rc .hifRingAborted] ps = true) : Touches ps s (State.objQuery s a1 a2) := by
  unfold State.objQuery
  try extract_lets -merge -underBinder t0
  try clear_value t0
  with_reducible refine Touches.step ?_ (State.runCmd_touches _ _ _ _ _ ?_ (fun _ => ?_))
  on_goal 2 => exact Part.within_trans rfl hw
  ·
    with_reducible exact Touches.refl _ _
  ·
    try extract_lets -merge -underBinder t1 t2 t3
    try clear_value t1
    refine Touches.haveS (t := t2) ?_ (fun ht2 => ?_)
    ·
      unfold t2
      with_reducible refine Touches.ite ?_ ?_
      ·
        with_reducible refine Touches.step ?_ (State.calCheckLost_touches _ _ ?_)
        on_goal 2 => exact Part.within_trans rfl hw
        with_reducible exact Touches.refl _ _
      ·
        with_reducible exact Touches.refl _ _
    try clear_value t2
    try clear_value t3
    with_reducible refine Touches.step ?_ (State.complete_touches _ _ _ _ _ _ _ ?_)
    on_goal 2 => exact Part.within_trans rfl hw
    with_reducible exact ht2

theorem State.verbRun_touches {ps : List Part} s a1 a2 a3 (hw : Part.within [.clk, .keys, .regs, .evt, .hif, .index, .objs, .lanes, .sw, .fab, .bpm, .fdb, .tcore, .tchans, .lnk, .ref, .free, .pll, .gnss, .tic, .cal, .eng, .pair, .pwr, .boot, .rc .bpmDoubleFreeCnt, .rc .bpmForeignFreeCnt, .rc .bpmPoolEmptyCnt, .rc .bpmPromoteCnt, .rc .calAbortCnt, .rc .evtPinStat, .rc .evtSuppressed, .rc .hifEvtLost, .rc .hifRingAborted, .rc .pairMirOvf, .rc .perfTagDrop, .rc .pllCnt, .rc .portHoldFlush, .rc .pwrWakeSrc, .rc .ticTmoCnt] ps = true) : Touches ps s (State.verbRun s a1 a2 a3) := by
  unfold State.verbRun
  split
  ·
    with_reducible refine Touches.step ?_ (State.objModify_touches _ _ _ _ ?_)
    on_goal 2 => exact Part.within_trans rfl hw
    with_reducible exact Touches.refl _ _
  ·
    with_reducible refine Touches.step ?_ (State.objQuery_touches _ _ _ ?_)
    on_goal 2 => exact Part.within_trans rfl hw
    with_reducible exact Touches.refl _ _
  ·
    with_reducible refine Touches.step ?_ (State.objDrain_touches _ _ _ _ _ ?_)
    on_goal 2 => exact Part.within_trans rfl hw
    with_reducible exact Touches.refl _ _
  ·
    with_reducible refine Touches.step ?_ (State.objList_touches _ _ _ ?_)
    on_goal 2 => exact Part.within_trans rfl hw
    with_reducible exact Touches.refl _ _
  ·
    with_reducible refine Touches.step ?_ (State.objDrain_touches _ _ _ _ _ ?_)
    on_goal 2 => exact Part.within_trans rfl hw
    with_reducible exact Touches.refl _ _
  ·
    with_reducible refine Touches.step ?_ (State.objEnable_touches _ _ _ _ ?_)
    on_goal 2 => exact Part.within_trans rfl hw
    with_reducible exact Touches.refl _ _

theorem State.avsRetry_touches {ps : List Part} s (hw : Part.within [.sw] ps = true) : Touches ps s (State.avsRetry s) := by
  unfold State.avsRetry
  try extract_lets -merge -underBinder t0
  with_reducible refine Touches.ite ?_ ?_
  ·
    with_reducible refine Touches.set_sw ?_ ?_
    on_goal 2 => exact Part.within_mem rfl hw
    with_reducible exact Touches.refl _ _
  ·
    with_reducible exact Touches.refl _ _

theorem State.fdbFlush_touches {ps : List Part} s a1 (hw : Part.within [.keys, .evt, .hif, .fdb, .boot, .rc .evtPinStat, .rc .evtSuppressed, .rc .hifEvtLost, .rc .hifRingAborted] ps = true) : Touches ps s (State.fdbFlush s a1) := by
  unfold State.fdbFlush
  try extract_lets -merge -underBinder t0 t1 t2
  try clear_value t0
  try clear_value t1
  try clear_value t2
  with_reducible refine Touches.step ?_ (State.runCmd_touches _ _ _ _ _ ?_ (fun _ => ?_))
  on_goal 2 => exact Part.within_trans rfl hw
  ·
    with_reducible exact Touches.refl _ _
  ·
    try extract_lets -merge -underBinder t3
    try clear_value t3
    with_reducible refine Touches.ite ?_ ?_
    ·
      with_reducible refine Touches.step ?_ (State.complete_touches _ _ _ _ _ _ _ ?_)
      on_goal 2 => exact Part.within_trans rfl hw
      with_reducible exact Touches.refl _ _
    ·
      with_reducible refine Touches.step ?_ (State.complete_touches _ _ _ _ _ _ _ ?_)
      on_goal 2 => exact Part.within_trans rfl hw
      with_reducible refine Touches.foldl (fun _ _ => ?_) _ ?_
      ·
        with_reducible refine Touches.step ?_ (State.fdbRemove_touches _ _ _ ?_)
        on_goal 2 => exact Part.within_trans rfl hw
        with_reducible exact Touches.refl _ _
      ·
        with_reducible exact Touches.refl _ _

theorem State.retrainDone_touches {ps : List Part} s a1 a2 a3 a4 a5 (hw : Part.within [.lanes, .rc .laneExitCnt] ps = true) : Touches ps s (State.retrainDone s a1 a2 a3 a4 a5) := by
  unfold State.retrainDone
  try extract_lets -merge -underBinder t0
  try clear_value t0
  with_reducible refine Touches.ite ?_ ?_
  ·
    with_reducible exact Touches.refl _ _
  ·
    with_reducible refine Touches.step ?_ (State.setLane_touches _ _ _ ?_)
    on_goal 2 => exact Part.within_trans rfl hw
    with_reducible refine Touches.step ?_ (State.bump_touches _ _ _ _ ?_)
    on_goal 2 => exact Part.within_trans rfl hw
    with_reducible exact Touches.refl _ _

theorem State.rehearseStart_touches {ps : List Part} s a1 (hw : Part.within [.pair] ps = true) : Touches ps s (State.rehearseStart s a1) := by
  unfold State.rehearseStart
  try extract_lets -merge -underBinder t0
  with_reducible refine Touches.set_pair ?_ ?_
  on_goal 2 => exact Part.within_mem rfl hw
  with_reducible exact Touches.refl _ _

theorem State.pairRehearse_touches {ps : List Part} s a1 (hw : Part.within [.keys, .hif, .pair, .boot, .rc .hifRingAborted] ps = true) : Touches ps s (State.pairRehearse s a1) := by
  unfold State.pairRehearse
  with_reducible refine Touches.step ?_ (State.runCmd_touches _ _ _ _ _ ?_ (fun _ => ?_))
  on_goal 2 => exact Part.within_trans rfl hw
  ·
    with_reducible exact Touches.refl _ _
  ·
    with_reducible refine Touches.ite ?_ ?_
    ·
      with_reducible refine Touches.step ?_ (State.complete_touches _ _ _ _ _ _ _ ?_)
      on_goal 2 => exact Part.within_trans rfl hw
      with_reducible exact Touches.refl _ _
    ·
      with_reducible refine Touches.ite ?_ ?_
      ·
        with_reducible refine Touches.step ?_ (State.complete_touches _ _ _ _ _ _ _ ?_)
        on_goal 2 => exact Part.within_trans rfl hw
        with_reducible exact Touches.refl _ _
      ·
        with_reducible refine Touches.step ?_ (State.rehearseStart_touches _ _ ?_)
        on_goal 2 => exact Part.within_trans rfl hw
        with_reducible exact Touches.refl _ _

theorem State.pllAutoReturn_touches {ps : List Part} s a1 (hw : Part.within [.evt, .hif, .lnk, .free, .pll, .tic, .cal, .eng, .rc .calAbortCnt, .rc .evtPinStat, .rc .evtSuppressed, .rc .hifEvtLost] ps = true) : Touches ps s (State.pllAutoReturn s a1) := by
  unfold State.pllAutoReturn
  try extract_lets -merge -underBinder t0
  try clear_value t0
  with_reducible refine Touches.ite ?_ ?_
  ·
    with_reducible refine Touches.step ?_ (State.pllReturn'_touches _ _ ?_)
    on_goal 2 => exact Part.within_trans rfl hw
    with_reducible exact Touches.refl _ _
  ·
    with_reducible exact Touches.refl _ _

theorem State.ppsPulseEnd_touches {ps : List Part} s a1 (hw : Part.within [.pll] ps = true) : Touches ps s (State.ppsPulseEnd s a1) := by
  unfold State.ppsPulseEnd
  try extract_lets -merge -underBinder t0 t1
  try clear_value t0
  refine Touches.haveS (t := t1) ?_ (fun ht1 => ?_)
  ·
    unfold t1
    with_reducible refine Touches.step ?_ (State.setPps_touches _ _ _ ?_)
    on_goal 2 => exact Part.within_trans rfl hw
    with_reducible exact Touches.refl _ _
  try clear_value t1
  with_reducible refine Touches.ite ?_ ?_
  ·
    with_reducible exact Touches.refl _ _
  ·
    with_reducible refine Touches.ite ?_ ?_
    ·
      with_reducible refine Touches.step ?_ (State.ppsRise_touches _ _ _ ?_)
      on_goal 2 => exact Part.within_trans rfl hw
      with_reducible exact ht1
    ·
      with_reducible exact ht1

theorem State.switchDone_touches {ps : List Part} s a1 (hw : Part.within [.clk, .ready, .regs, .evt, .hif, .lanes, .grps, .sw, .fab, .bpm, .fdb, .tcore, .tchans, .lnk, .ref, .free, .pll, .gnss, .tic, .cal, .eng, .spad, .pair, .pwr, .boot, .counters] ps = true) : Touches ps s (State.switchDone s a1) := by
  unfold State.switchDone
  try extract_lets -merge -underBinder t0 t1
  refine Touches.haveS (t := t1) ?_ (fun ht1 => ?_)
  ·
    unfold t1
    with_reducible refine Touches.set_pwr ?_ ?_
    on_goal 2 => exact Part.within_mem rfl hw
    with_reducible exact Touches.refl _ _
  try clear_value t1
  with_reducible refine Touches.ite ?_ ?_
  ·
    with_reducible refine Touches.step ?_ (State.wakeUnits_touches _ ?_)
    on_goal 2 => exact Part.within_trans rfl hw
    with_reducible exact ht1
  ·
    with_reducible exact ht1

theorem State.gnssLatch_touches {ps : List Part} s a1 (hw : Part.within [.gnss, .rc .gnssSlipCnt] ps = true) : Touches ps s (State.gnssLatch s a1) := by
  unfold State.gnssLatch
  try extract_lets -merge -underBinder t0 t1 t2
  try clear_value t0
  try clear_value t1
  refine Touches.haveS (t := t2) ?_ (fun ht2 => ?_)
  ·
    unfold t2
    with_reducible refine Touches.step ?_ (State.setGnssCh_touches _ _ _ ?_)
    on_goal 2 => exact Part.within_trans rfl hw
    with_reducible refine Touches.step ?_ (State.bump_touches _ _ _ _ ?_)
    on_goal 2 => exact Part.within_trans rfl hw
    with_reducible exact Touches.refl _ _
  try clear_value t2
  with_reducible refine Touches.ite ?_ ?_
  ·
    with_reducible exact Touches.refl _ _
  ·
    with_reducible refine Touches.step ?_ (State.setGnssCh_touches _ _ _ ?_)
    on_goal 2 => exact Part.within_trans rfl hw
    with_reducible exact ht2

theorem State.gnssEpoch_touches {ps : List Part} s a1 a2 (hw : Part.within [.regs, .gnss, .cal, .rc .gnssSlipCnt] ps = true) : Touches ps s (State.gnssEpoch s a1 a2) := by
  unfold State.gnssEpoch
  try extract_lets -merge -underBinder t0 t1 t2 t3
  refine Touches.haveS (t := t0) ?_ (fun ht0 => ?_)
  ·
    unfold t0
    with_reducible refine Touches.foldl (fun _ _ => ?_) _ ?_
    ·
      try extract_lets -merge -underBinder t4
      with_reducible refine Touches.ite ?_ ?_
      ·
        with_reducible refine Touches.step ?_ (State.setGnssCh_touches _ _ _ ?_)
        on_goal 2 => exact Part.within_trans rfl hw
        with_reducible exact Touches.refl _ _
      ·
        with_reducible exact Touches.refl _ _
    ·
      with_reducible exact Touches.refl _ _
  try clear_value t0
  refine Touches.haveS (t := t1) ?_ (fun ht1 => ?_)
  ·
    unfold t1
    with_reducible refine Touches.foldl (fun _ _ => ?_) _ ?_
    ·
      with_reducible refine Touches.step ?_ (State.gnssLatch_touches _ _ ?_)
      on_goal 2 => exact Part.within_trans rfl hw
      with_reducible exact Touches.refl _ _
    ·
      with_reducible exact ht0
  try clear_value t1
  refine Touches.haveS (t := t3) ?_ (fun ht3 => ?_)
  ·
    unfold t3
    with_reducible refine Touches.set_gnss ?_ ?_
    on_goal 2 => exact Part.within_mem rfl hw
    with_reducible exact ht1
  try clear_value t3
  with_reducible refine Touches.ite ?_ ?_
  ·
    with_reducible exact Touches.refl _ _
  ·
    with_reducible refine Touches.step ?_ (State.calBoundary_touches _ _ _ ?_)
    on_goal 2 => exact Part.within_trans rfl hw
    with_reducible refine Touches.step ?_ (State.applyAt_touches _ _ _ ?_)
    on_goal 2 => exact Part.within_trans rfl hw
    with_reducible exact ht3

theorem State.ringDrainEnd_touches {ps : List Part} s a1 (hw : Part.within [.evt, .hif, .rc .evtPinStat, .rc .evtSuppressed, .rc .hifEvtLost, .rc .hifRingAborted] ps = true) : Touches ps s (State.ringDrainEnd s a1) := by
  unfold State.ringDrainEnd
  try extract_lets -merge -underBinder t0 t1
  try clear_value t0
  try clear_value t1
  with_reducible refine Touches.ite ?_ ?_
  ·
    with_reducible exact Touches.refl _ _
  ·
    with_reducible refine Touches.step ?_ (State.raise_touches _ _ _ _ _ ?_)
    on_goal 2 => exact Part.within_trans rfl hw
    with_reducible refine Touches.step ?_ (State.bump_touches _ _ _ _ ?_)
    on_goal 2 => exact Part.within_trans rfl hw
    with_reducible refine Touches.step ?_ (State.setRing_touches _ _ _ ?_)
    on_goal 2 => exact Part.within_trans rfl hw
    with_reducible exact Touches.refl _ _

theorem State.polStore_touches {ps : List Part} s a1 a2 (hw : Part.within [.evt, .pers, .hif, .rc .evtPinStat, .rc .evtSuppressed, .rc .hifEvtLost] ps = true) : Touches ps s (State.polStore s a1 a2) := by
  unfold State.polStore
  try extract_lets -merge -underBinder t0 t1
  refine Touches.haveS (t := t0) ?_ (fun ht0 => ?_)
  ·
    unfold t0
    with_reducible refine Touches.step ?_ (State.persStore_touches _ _ _ ?_)
    on_goal 2 => exact Part.within_trans rfl hw
    with_reducible exact Touches.refl _ _
  try clear_value t0
  with_reducible refine Touches.ite ?_ ?_
  ·
    with_reducible refine Touches.set_pers ?_ ?_
    on_goal 2 => exact Part.within_mem rfl hw
    with_reducible exact ht0
  ·
    with_reducible exact ht0

theorem State.polStoreAll_touches {ps : List Part} (s : State) (n : Nat) (l : List (Nat × Word)) (hw : Part.within [.evt, .pers, .hif, .rc .evtPinStat, .rc .evtSuppressed, .rc .hifEvtLost] ps = true) :
    Touches ps s (s.polStoreAll n l).1 := by
  induction l generalizing s n with
  | nil => exact Touches.refl _ _
  | cons e l ih =>
    unfold State.polStoreAll
    split
    · exact State.polStore_touches _ _ _ (Part.within_trans rfl hw)
    · exact (State.polStore_touches _ _ _ (Part.within_trans rfl hw)).step (ih _ _)

theorem State.resumeTx_touches {ps : List Part} s a1 (hw : Part.within [.fab] ps = true) : Touches ps s (State.resumeTx s a1) := by
  unfold State.resumeTx
  split
  ·
    with_reducible exact Touches.refl _ _
  ·
    try extract_lets -merge -underBinder t0 t1
    refine Touches.haveS (t := t0) ?_ (fun ht0 => ?_)
    ·
      unfold t0
      with_reducible refine Touches.step ?_ (State.setCopy_touches _ _ _ ?_)
      on_goal 2 => exact Part.within_trans rfl hw
      with_reducible exact Touches.refl _ _
    try clear_value t0
    with_reducible refine Touches.ite ?_ ?_
    ·
      with_reducible exact Touches.refl _ _
    ·
      with_reducible refine Touches.step ?_ (State.setPort_touches _ _ _ ?_)
      on_goal 2 => exact Part.within_trans rfl hw
      with_reducible exact ht0

theorem State.pickTx_touches {ps : List Part} s a1 (hw : Part.within [.fab, .rc .portPauseTx] ps = true) : Touches ps s (State.pickTx s a1) := by
  unfold State.pickTx
  split
  ·
    with_reducible refine Touches.step ?_ (State.startTx_touches _ _ _ ?_)
    on_goal 2 => exact Part.within_trans rfl hw
    with_reducible exact Touches.refl _ _
  ·
    split
    ·
      try extract_lets -merge -underBinder t0
      with_reducible refine Touches.step ?_ (State.setPort_touches _ _ _ ?_)
      on_goal 2 => exact Part.within_trans rfl hw
      with_reducible refine Touches.step ?_ (State.bump_touches _ _ _ _ ?_)
      on_goal 2 => exact Part.within_trans rfl hw
      with_reducible exact Touches.refl _ _
    ·
      split
      ·
        with_reducible refine Touches.step ?_ (State.startTx_touches _ _ _ ?_)
        on_goal 2 => exact Part.within_trans rfl hw
        with_reducible exact Touches.refl _ _
      ·
        split
        ·
          with_reducible refine Touches.step ?_ (State.startTx_touches _ _ _ ?_)
          on_goal 2 => exact Part.within_trans rfl hw
          with_reducible refine Touches.step ?_ (State.setPort_touches _ _ _ ?_)
          on_goal 2 => exact Part.within_trans rfl hw
          with_reducible exact Touches.refl _ _
        ·
          with_reducible refine Touches.step ?_ (State.resumeTx_touches _ _ ?_)
          on_goal 2 => exact Part.within_trans rfl hw
          with_reducible exact Touches.refl _ _

theorem State.schedSelect_touches {ps : List Part} s a1 (hw : Part.within [.fab, .rc .portPauseTx] ps = true) : Touches ps s (State.schedSelect s a1) := by
  unfold State.schedSelect
  try extract_lets -merge -underBinder t0 t1 t2
  refine Touches.haveS (t := t0) ?_ (fun ht0 => ?_)
  ·
    unfold t0
    with_reducible refine Touches.step ?_ (State.preempt_touches _ _ _ ?_)
    on_goal 2 => exact Part.within_trans rfl hw
    with_reducible exact Touches.refl _ _
  try clear_value t0
  refine Touches.haveS (t := t2) ?_ (fun ht2 => ?_)
  ·
    unfold t2
    with_reducible refine Touches.step ?_ (State.setPort_touches _ _ _ ?_)
    on_goal 2 => exact Part.within_trans rfl hw
    with_reducible exact ht0
  try clear_value t2
  with_reducible refine Touches.ite ?_ ?_
  ·
    with_reducible exact Touches.refl _ _
  ·
    with_reducible refine Touches.ite ?_ ?_
    ·
      with_reducible exact ht0
    ·
      with_reducible refine Touches.ite ?_ ?_
      ·
        with_reducible exact ht2
      ·
        with_reducible refine Touches.step ?_ (State.pickTx_touches _ _ ?_)
        on_goal 2 => exact Part.within_trans rfl hw
        with_reducible exact ht2

theorem State.auditSum_touches {ps : List Part} s a1 (hw : Part.within [.evt, .hif, .bpm, .rc .evtPinStat, .rc .evtSuppressed, .rc .hifEvtLost] ps = true) : Touches ps s (State.auditSum s a1) := by
  unfold State.auditSum
  try extract_lets -merge -underBinder t0 t1 t2
  try clear_value t0
  refine Touches.haveS (t := t1) ?_ (fun ht1 => ?_)
  ·
    unfold t1
    with_reducible refine Touches.step ?_ (State.raise_touches _ _ _ _ _ ?_)
    on_goal 2 => exact Part.within_trans rfl hw
    with_reducible exact Touches.refl _ _
  try clear_value t1
  with_reducible refine Touches.ite ?_ ?_
  ·
    with_reducible exact Touches.refl _ _
  ·
    with_reducible refine Touches.ite ?_ ?_
    ·
      with_reducible refine Touches.step ?_ (State.setReq_touches _ _ _ ?_)
      on_goal 2 => exact Part.within_trans rfl hw
      with_reducible exact ht1
    ·
      with_reducible exact ht1

theorem State.auditPassEnd_touches {ps : List Part} s (hw : Part.within [.evt, .hif, .bpm, .boot, .rc .evtPinStat, .rc .evtSuppressed, .rc .hifEvtLost, .rc .hifRingAborted] ps = true) : Touches ps s (State.auditPassEnd s) := by
  unfold State.auditPassEnd
  try extract_lets -merge -underBinder t0 t1 t2 t3
  refine Touches.haveS (t := t0) ?_ (fun ht0 => ?_)
  ·
    unfold t0
    with_reducible refine Touches.foldl (fun _ _ => ?_) _ ?_
    ·
      with_reducible refine Touches.step ?_ (State.auditSum_touches _ _ ?_)
      on_goal 2 => exact Part.within_trans rfl hw
      with_reducible exact Touches.refl _ _
    ·
      with_reducible exact Touches.refl _ _
  try clear_value t0
  try clear_value t1
  refine Touches.haveS (t := t3) ?_ (fun ht3 => ?_)
  ·
    unfold t3
    with_reducible refine Touches.set_bpm ?_ ?_
    on_goal 2 => exact Part.within_mem rfl hw
    with_reducible exact ht0
  try clear_value t3
  with_reducible refine Touches.foldl (fun _ _ => ?_) _ ?_
  ·
    with_reducible refine Touches.step ?_ (State.complete_touches _ _ _ _ _ _ _ ?_)
    on_goal 2 => exact Part.within_trans rfl hw
    with_reducible exact Touches.refl _ _
  ·
    with_reducible exact ht3

theorem State.auditVisit_touches {ps : List Part} s a1 (hw : Part.within [.evt, .hif, .sw, .fab, .bpm, .boot, .rc .bpmLeakCnt, .rc .bpmPoolEmptyCnt, .rc .bpmPromoteCnt, .rc .evtPinStat, .rc .evtSuppressed, .rc .hifEvtLost, .rc .hifRingAborted] ps = true) : Touches ps s (State.auditVisit s a1) := by
  unfold State.auditVisit
  try extract_lets -merge -underBinder t0 t1
  refine Touches.haveS (t := t0) ?_ (fun ht0 => ?_)
  ·
    unfold t0
    with_reducible refine Touches.foldl (fun _ _ => ?_) _ ?_
    ·
      with_reducible refine Touches.step ?_ (State.upset_touches _ _ ?_)
      on_goal 2 => exact Part.within_trans rfl hw
      with_reducible exact Touches.refl _ _
    ·
      with_reducible exact Touches.refl _ _
  try clear_value t0
  refine Touches.haveS (t := t1) ?_ (fun ht1 => ?_)
  ·
    unfold t1
    with_reducible refine Touches.step ?_ (State.afterFree_touches _ ?_)
    on_goal 2 => exact Part.within_trans rfl hw
    with_reducible refine Touches.foldl (fun _ _ => ?_) _ ?_
    ·
      with_reducible refine Touches.step ?_ (State.auditBuf_touches _ _ ?_)
      on_goal 2 => exact Part.within_trans rfl hw
      with_reducible exact Touches.refl _ _
    ·
      with_reducible exact ht0
  try clear_value t1
  with_reducible refine Touches.ite ?_ ?_
  ·
    with_reducible exact ht0
  ·
    with_reducible refine Touches.ite ?_ ?_
    ·
      with_reducible refine Touches.step ?_ (State.afterFree_touches _ ?_)
      on_goal 2 => exact Part.within_trans rfl hw
      with_reducible refine Touches.step ?_ (State.auditPassEnd_touches _ ?_)
      on_goal 2 => exact Part.within_trans rfl hw
      with_reducible exact ht1
    ·
      with_reducible exact ht1

theorem State.dmaError_touches {ps : List Part} s a1 a2 (hw : Part.within [.regs, .evt, .hif, .rc .evtPinStat, .rc .evtSuppressed, .rc .hifEvtLost] ps = true) : Touches ps s (State.dmaError s a1 a2) := by
  unfold State.dmaError
  with_reducible refine Touches.ite ?_ ?_
  ·
    with_reducible refine Touches.step ?_ (State.ringErr_touches _ _ _ ?_)
    on_goal 2 => exact Part.within_trans rfl hw
    with_reducible exact Touches.refl _ _
  ·
    with_reducible exact Touches.refl _ _

theorem State.omdLaneUp_touches {ps : List Part} s a1 (hw : Part.within [.ready, .evt, .hif, .pair, .rc .evtPinStat, .rc .evtSuppressed, .rc .hifEvtLost] ps = true) : Touches ps s (State.omdLaneUp s a1) := by
  unfold State.omdLaneUp
  with_reducible refine Touches.ite ?_ ?_
  ·
    with_reducible refine Touches.step ?_ (State.setLanes_touches _ _ ?_)
    on_goal 2 => exact Part.within_trans rfl hw
    with_reducible exact Touches.refl _ _
  ·
    with_reducible exact Touches.refl _ _

theorem State.rampCtrl_touches {ps : List Part} s a1 (hw : Part.within [.keys, .evt, .hif, .tchans, .lnk, .free, .pll, .tic, .cal, .eng, .boot, .rc .calAbortCnt, .rc .evtPinStat, .rc .evtSuppressed, .rc .hifEvtLost, .rc .hifRingAborted] ps = true) : Touches ps s (State.rampCtrl s a1) := by
  unfold State.rampCtrl
  try extract_lets -merge -underBinder t0 t1 t2
  try clear_value t0
  try clear_value t1
  with_reducible refine Touches.step ?_ (State.runCmd_touches _ _ _ _ _ ?_ (fun _ => ?_))
  on_goal 2 => exact Part.within_trans rfl hw
  ·
    with_reducible exact Touches.refl _ _
  ·
    try extract_lets -merge -underBinder t3 t4 t5 t6 t7 t8 t9 t10 t11
    try clear_value t3
    try clear_value t4
    try clear_value t5
    refine Touches.haveS (t := t6) ?_ (fun ht6 => ?_)
    ·
      unfold t6
      with_reducible refine Touches.step ?_ (State.setRamp_touches _ _ _ ?_)
      on_goal 2 => exact Part.within_trans rfl hw
      with_reducible exact Touches.refl _ _
    try clear_value t6
    refine Touches.haveS (t := t8) ?_ (fun ht8 => ?_)
    ·
      unfold t8
      with_reducible refine Touches.step ?_ (State.setPll_touches _ _ _ ?_)
      on_goal 2 => exact Part.within_trans rfl hw
      with_reducible exact ht6
    try clear_value t8
    refine Touches.haveS (t := t10) ?_ (fun ht10 => ?_)
    ·
      unfold t10
      with_reducible refine Touches.ite ?_ ?_
      ·
        with_reducible refine Touches.set_pll ?_ ?_
        on_goal 2 => exact Part.within_mem rfl hw
        with_reducible exact ht8
      ·
        with_reducible exact ht8
    try clear_value t10
    refine Touches.haveS (t := t11) ?_ (fun ht11 => ?_)
    ·
      unfold t11
      with_reducible refine Touches.step ?_ (State.rampEffects_touches _ _ ?_)
      on_goal 2 => exact Part.within_trans rfl hw
      with_reducible exact ht10
    try clear_value t11
    with_reducible refine Touches.ite ?_ ?_
    ·
      with_reducible refine Touches.step ?_ (State.complete_touches _ _ _ _ _ _ _ ?_)
      on_goal 2 => exact Part.within_trans rfl hw
      with_reducible exact Touches.refl _ _
    ·
      with_reducible refine Touches.step ?_ (State.complete_touches _ _ _ _ _ _ _ ?_)
      on_goal 2 => exact Part.within_trans rfl hw
      with_reducible exact ht11

theorem State.timeSet_touches {ps : List Part} s a1 (hw : Part.within [.keys, .hif, .tcore, .boot, .rc .hifRingAborted] ps = true) : Touches ps s (State.timeSet s a1) := by
  unfold State.timeSet
  try extract_lets -merge -underBinder t0
  try clear_value t0
  with_reducible refine Touches.step ?_ (State.runCmd_touches _ _ _ _ _ ?_ (fun _ => ?_))
  on_goal 2 => exact Part.within_trans rfl hw
  ·
    with_reducible exact Touches.refl _ _
  ·
    try extract_lets -merge -underBinder t1
    with_reducible refine Touches.ite ?_ ?_
    ·
      with_reducible refine Touches.step ?_ (State.complete_touches _ _ _ _ _ _ _ ?_)
      on_goal 2 => exact Part.within_trans rfl hw
      with_reducible exact Touches.refl _ _
    ·
      with_reducible refine Touches.set_tcore ?_ ?_
      on_goal 2 => exact Part.within_mem rfl hw
      with_reducible exact Touches.refl _ _

theorem State.calStoreHalf_touches {ps : List Part} s a1 a2 a3 a4 (hw : Part.within [.evt, .pers, .hif, .cal, .rc .calStoreFail, .rc .evtPinStat, .rc .evtSuppressed, .rc .hifEvtLost] ps = true) : Touches ps s (State.calStoreHalf s a1 a2 a3 a4) := by
  unfold State.calStoreHalf
  try extract_lets -merge -underBinder t0 t1
  try clear_value t0
  refine Touches.haveS (t := t1) ?_ (fun ht1 => ?_)
  ·
    unfold t1
    with_reducible refine Touches.step ?_ (State.calWrite_touches _ _ _ ?_)
    on_goal 2 => exact Part.within_trans rfl hw
    with_reducible exact Touches.refl _ _
  try clear_value t1
  with_reducible refine Touches.step ?_ (State.calWrite_touches _ _ _ ?_)
  on_goal 2 => exact Part.within_trans rfl hw
  with_reducible exact ht1

theorem State.calAutoStore_touches {ps : List Part} s a1 a2 a3 (hw : Part.within [.evt, .pers, .hif, .cal, .rc .calStoreFail, .rc .evtPinStat, .rc .evtSuppressed, .rc .hifEvtLost] ps = true) : Touches ps s (State.calAutoStore s a1 a2 a3) := by
  unfold State.calAutoStore
  with_reducible refine Touches.ite ?_ ?_
  ·
    with_reducible exact Touches.refl _ _
  ·
    split
    ·
      with_reducible refine Touches.step ?_ (State.calStoreHalf_touches _ _ _ _ _ ?_)
      on_goal 2 => exact Part.within_trans rfl hw
      with_reducible exact Touches.refl _ _
    ·
      with_reducible refine Touches.step ?_ (State.calStoreHalf_touches _ _ _ _ _ ?_)
      on_goal 2 => exact Part.within_trans rfl hw
      with_reducible exact Touches.refl _ _
    ·
      with_reducible refine Touches.step ?_ (State.calStoreHalf_touches _ _ _ _ _ ?_)
      on_goal 2 => exact Part.within_trans rfl hw
      with_reducible exact Touches.refl _ _
    ·
      try extract_lets -merge -underBinder t0
      refine Touches.haveS (t := t0) ?_ (fun ht0 => ?_)
      ·
        unfold t0
        with_reducible refine Touches.foldl (fun _ _ => ?_) _ ?_
        ·
          with_reducible refine Touches.step ?_ (State.calWrite_touches _ _ _ ?_)
          on_goal 2 => exact Part.within_trans rfl hw
          with_reducible exact Touches.refl _ _
        ·
          with_reducible exact Touches.refl _ _
      try clear_value t0
      with_reducible refine Touches.step ?_ (State.calWrite_touches _ _ _ ?_)
      on_goal 2 => exact Part.within_trans rfl hw
      with_reducible exact ht0
    ·
      with_reducible exact Touches.refl _ _

theorem State.calStoreResult_touches {ps : List Part} s a1 a2 (hw : Part.within [.regs, .evt, .pers, .hif, .tic, .cal, .rc .calAbortCnt, .rc .calStoreFail, .rc .evtPinStat, .rc .evtSuppressed, .rc .hifEvtLost] ps = true) : Touches ps s (State.calStoreResult s a1 a2) := by
  unfold State.calStoreResult
  try extract_lets -merge -underBinder t0 t1 t2 t3 t4
  try clear_value t0
  try clear_value t1
  try clear_value t2
  refine Touches.haveS (t := t4) ?_ (fun ht4 => ?_)
  ·
    unfold t4
    with_reducible refine Touches.step ?_ (State.calOffer_touches _ _ _ _ ?_)
    on_goal 2 => exact Part.within_trans rfl hw
    with_reducible refine Touches.set_cal ?_ ?_
    on_goal 2 => exact Part.within_mem rfl hw
    with_reducible exact Touches.refl _ _
  try clear_value t4
  with_reducible refine Touches.ite ?_ ?_
  ·
    with_reducible refine Touches.step ?_ (State.calAutoStore_touches _ _ _ _ ?_)
    on_goal 2 => exact Part.within_trans rfl hw
    with_reducible refine Touches.step ?_ (State.calFinish_touches _ _ _ _ ?_)
    on_goal 2 => exact Part.within_trans rfl hw
    with_reducible exact Touches.refl _ _
  ·
    with_reducible refine Touches.ite ?_ ?_
    ·
      with_reducible refine Touches.step ?_ (State.calAutoStore_touches _ _ _ _ ?_)
      on_goal 2 => exact Part.within_trans rfl hw
      with_reducible refine Touches.step ?_ (State.calFinish_touches _ _ _ _ ?_)
      on_goal 2 => exact Part.within_trans rfl hw
      with_reducible exact ht4
    ·
      split
      ·
        try extract_lets -merge -underBinder t5 t6 t7
        refine Touches.haveS (t := t6) ?_ (fun ht6 => ?_)
        ·
          unfold t6
          with_reducible refine Touches.set_cal ?_ ?_
          on_goal 2 => exact Part.within_mem rfl hw
          with_reducible exact Touches.refl _ _
        try clear_value t6
        refine Touches.haveS (t := t7) ?_ (fun ht7 => ?_)
        ·
          unfold t7
          split
          ·
            with_reducible refine Touches.step ?_ (State.calOffer_touches _ _ _ _ ?_)
            on_goal 2 => exact Part.within_trans rfl hw
            with_reducible exact ht6
          ·
            with_reducible exact ht6
        try clear_value t7
        with_reducible refine Touches.step ?_ (State.calAutoStore_touches _ _ _ _ ?_)
        on_goal 2 => exact Part.within_trans rfl hw
        with_reducible refine Touches.step ?_ (State.calFinish_touches _ _ _ _ ?_)
        on_goal 2 => exact Part.within_trans rfl hw
        with_reducible exact ht7
      ·
        with_reducible refine Touches.step ?_ (State.calFinish_touches _ _ _ _ ?_)
        on_goal 2 => exact Part.within_trans rfl hw
        with_reducible refine Touches.step ?_ (State.calOffer_touches _ _ _ _ ?_)
        on_goal 2 => exact Part.within_trans rfl hw
        with_reducible exact Touches.refl _ _

theorem State.calJobEnd_touches {ps : List Part} s a1 a2 a3 a4 a5 a6 (hw : Part.within [.regs, .evt, .pers, .hif, .tic, .cal, .rc .calAbortCnt, .rc .calStoreFail, .rc .evtPinStat, .rc .evtSuppressed, .rc .hifEvtLost] ps = true) : Touches ps s (State.calJobEnd s a1 a2 a3 a4 a5 a6) := by
  unfold State.calJobEnd
  try extract_lets -merge -underBinder t0 t1 t2 t3 t4 t5 t6
  try clear_value t0
  try clear_value t1
  try clear_value t2
  try clear_value t3
  refine Touches.haveS (t := t5) ?_ (fun ht5 => ?_)
  ·
    unfold t5
    with_reducible refine Touches.set_cal ?_ ?_
    on_goal 2 => exact Part.within_mem rfl hw
    with_reducible exact Touches.refl _ _
  try clear_value t5
  refine Touches.haveS (t := t6) ?_ (fun ht6 => ?_)
  ·
    unfold t6
    with_reducible refine Touches.ite ?_ ?_
    ·
      with_reducible refine Touches.step ?_ (State.calFinish_touches _ _ _ _ ?_)
      on_goal 2 => exact Part.within_trans rfl hw
      with_reducible exact ht5
    ·
      with_reducible refine Touches.ite ?_ ?_
      ·
        with_reducible refine Touches.step ?_ (State.calFinish_touches _ _ _ _ ?_)
        on_goal 2 => exact Part.within_trans rfl hw
        with_reducible exact ht5
      ·
        with_reducible refine Touches.step ?_ (State.calStoreResult_touches _ _ _ ?_)
        on_goal 2 => exact Part.within_trans rfl hw
        with_reducible exact ht5
  try clear_value t6
  with_reducible refine Touches.ite ?_ ?_
  ·
    with_reducible exact Touches.refl _ _
  ·
    with_reducible refine Touches.ite ?_ ?_
    ·
      with_reducible refine Touches.step ?_ (State.calFinish_touches _ _ _ _ ?_)
      on_goal 2 => exact Part.within_trans rfl hw
      with_reducible exact Touches.refl _ _
    ·
      with_reducible refine Touches.ite ?_ ?_
      ·
        with_reducible refine Touches.step ?_ (State.ticSample_touches _ _ ?_)
        on_goal 2 => exact Part.within_trans rfl hw
        with_reducible exact ht6
      ·
        with_reducible exact ht6

theorem State.preemptVerify_touches {ps : List Part} s a1 a2 (hw : Part.within [.evt, .hif, .fab, .rc .evtPinStat, .rc .evtSuppressed, .rc .hifEvtLost] ps = true) : Touches ps s (State.preemptVerify s a1 a2) := by
  unfold State.preemptVerify
  try extract_lets -merge -underBinder t0 t1
  try clear_value t0
  try clear_value t1
  with_reducible refine Touches.step ?_ (State.raiseIf_touches _ _ _ _ _ _ ?_)
  on_goal 2 => exact Part.within_trans rfl hw
  with_reducible refine Touches.step ?_ (State.setPort_touches _ _ _ ?_)
  on_goal 2 => exact Part.within_trans rfl hw
  with_reducible exact Touches.refl _ _

theorem State.condSet_touches {ps : List Part} s a1 (hw : Part.within [.evt, .hif, .sw, .rc .evtPinStat, .rc .evtSuppressed, .rc .hifEvtLost] ps = true) : Touches ps s (State.condSet s a1) := by
  unfold State.condSet
  try extract_lets -merge -underBinder t0 t1
  try clear_value t0
  with_reducible refine Touches.ite ?_ ?_
  ·
    with_reducible exact Touches.refl _ _
  ·
    with_reducible refine Touches.step ?_ (State.raise_touches _ _ _ _ _ ?_)
    on_goal 2 => exact Part.within_trans rfl hw
    with_reducible refine Touches.set_sw ?_ ?_
    on_goal 2 => exact Part.within_mem rfl hw
    with_reducible exact Touches.refl _ _

theorem State.vddRead_touches {ps : List Part} s a1 (hw : Part.within [.evt, .hif, .sw, .rc .evtPinStat, .rc .evtSuppressed, .rc .hifEvtLost] ps = true) : Touches ps s (State.vddRead s a1) := by
  unfold State.vddRead
  with_reducible refine Touches.ite ?_ ?_
  ·
    with_reducible refine Touches.step ?_ (State.condSet_touches _ _ ?_)
    on_goal 2 => exact Part.within_trans rfl hw
    with_reducible exact Touches.refl _ _
  ·
    with_reducible exact Touches.refl _ _

theorem State.floorCheck_touches {ps : List Part} s (hw : Part.within [.evt, .hif, .sw, .rc .evtPinStat, .rc .evtSuppressed, .rc .hifEvtLost] ps = true) : Touches ps s (State.floorCheck s) := by
  unfold State.floorCheck
  try extract_lets -merge -underBinder t0 t1 t2 t3
  try clear_value t0
  try clear_value t1
  refine Touches.haveS (t := t3) ?_ (fun ht3 => ?_)
  ·
    unfold t3
    with_reducible refine Touches.set_sw ?_ ?_
    on_goal 2 => exact Part.within_mem rfl hw
    with_reducible exact Touches.refl _ _
  try clear_value t3
  with_reducible refine Touches.ite ?_ ?_
  ·
    with_reducible refine Touches.step ?_ (State.condSet_touches _ _ ?_)
    on_goal 2 => exact Part.within_trans rfl hw
    with_reducible refine Touches.step ?_ (State.raise_touches _ _ _ _ _ ?_)
    on_goal 2 => exact Part.within_trans rfl hw
    with_reducible exact ht3
  ·
    with_reducible exact ht3

theorem State.avsWriteDone_touches {ps : List Part} s a1 a2 (hw : Part.within [.keys, .regs, .evt, .hif, .index, .objs, .sw, .fab, .bpm, .fdb, .free, .eng, .pair, .boot, .rc .bpmDoubleFreeCnt, .rc .bpmForeignFreeCnt, .rc .bpmPoolEmptyCnt, .rc .bpmPromoteCnt, .rc .evtPinStat, .rc .evtSuppressed, .rc .hifEvtLost, .rc .hifRingAborted, .rc .pairMirOvf, .rc .perfTagDrop] ps = true) : Touches ps s (State.avsWriteDone s a1 a2) := by
  unfold State.avsWriteDone
  try extract_lets -merge -underBinder t0 t1 t2 t3 t4
  refine Touches.haveS (t := t0) ?_ (fun ht0 => ?_)
  ·
    unfold t0
    with_reducible refine Touches.ite ?_ ?_
    ·
      with_reducible refine Touches.step ?_ (State.vddRead_touches _ _ ?_)
      on_goal 2 => exact Part.within_trans rfl hw
      with_reducible exact Touches.refl _ _
    ·
      with_reducible exact Touches.refl _ _
  try clear_value t0
  refine Touches.haveS (t := t4) ?_ (fun ht4 => ?_)
  ·
    unfold t4
    with_reducible refine Touches.step ?_ (State.raise_touches _ _ _ _ _ ?_)
    on_goal 2 => exact Part.within_trans rfl hw
    with_reducible refine Touches.set_sw ?_ ?_
    on_goal 2 => exact Part.within_mem rfl hw
    with_reducible exact ht0
  try clear_value t4
  with_reducible refine Touches.ite ?_ ?_
  ·
    with_reducible exact Touches.refl _ _
  ·
    with_reducible refine Touches.ite ?_ ?_
    ·
      with_reducible refine Touches.step ?_ (State.floorCheck_touches _ ?_)
      on_goal 2 => exact Part.within_trans rfl hw
      with_reducible refine Touches.set_sw ?_ ?_
      on_goal 2 => exact Part.within_mem rfl hw
      with_reducible exact ht0
    ·
      with_reducible refine Touches.ite ?_ ?_
      ·
        with_reducible refine Touches.set_sw ?_ ?_
        on_goal 2 => exact Part.within_mem rfl hw
        with_reducible exact ht0
      ·
        with_reducible refine Touches.step ?_ (State.floorCheck_touches _ ?_)
        on_goal 2 => exact Part.within_trans rfl hw
        split
        ·
          with_reducible refine Touches.ite ?_ ?_
          ·
            with_reducible refine Touches.step ?_ (State.admGo_touches _ ?_)
            on_goal 2 => exact Part.within_trans rfl hw
            with_reducible refine Touches.step ?_ (State.flowRefuse_touches _ _ _ ?_)
            on_goal 2 => exact Part.within_trans rfl hw
            with_reducible exact ht4
          ·
            with_reducible exact ht4
        ·
          with_reducible exact ht4

theorem State.perfSample_touches {ps : List Part} s a1 a2 a3 (hw : Part.within [.eng, .rc .perfSampDrop] ps = true) : Touches ps s (State.perfSample s a1 a2 a3) := by
  unfold State.perfSample
  try extract_lets -merge -underBinder t0 t1 t2
  try clear_value t0
  refine Touches.haveS (t := t2) ?_ (fun ht2 => ?_)
  ·
    unfold t2
    with_reducible refine Touches.setEng ?_ ?_ ?_
    on_goal 2 => exact Part.within_mem rfl hw
    on_goal 2 => rfl
    with_reducible exact Touches.refl _ _
  try clear_value t2
  with_reducible refine Touches.ite ?_ ?_
  ·
    with_reducible exact Touches.refl _ _
  ·
    with_reducible refine Touches.ite ?_ ?_
    ·
      with_reducible refine Touches.step ?_ (State.bump_touches _ _ _ _ ?_)
      on_goal 2 => exact Part.within_trans rfl hw
      with_reducible exact ht2
    ·
      with_reducible exact ht2

theorem State.fastExitFail_touches {ps : List Part} s a1 (hw : Part.within [.clk, .regs, .evt, .hif, .lanes, .sw, .fab, .bpm, .fdb, .tcore, .tchans, .lnk, .ref, .free, .pll, .tic, .cal, .eng, .pair, .pwr, .rc .bpmDoubleFreeCnt, .rc .bpmForeignFreeCnt, .rc .bpmPoolEmptyCnt, .rc .bpmPromoteCnt, .rc .calAbortCnt, .rc .evtPinStat, .rc .evtSuppressed, .rc .hifEvtLost, .rc .hifRingAborted, .rc .laneExitCnt, .rc .pairMirOvf, .rc .perfTagDrop, .rc .pllCnt, .rc .portHoldFlush, .rc .pwrWakeSrc] ps = true) : Touches ps s (State.fastExitFail s a1) := by
  unfold State.fastExitFail
  with_reducible refine Touches.ite ?_ ?_
  ·
    with_reducible refine Touches.step ?_ (State.retrain_touches _ _ ?_)
    on_goal 2 => exact Part.within_trans rfl hw
    with_reducible refine Touches.step ?_ (State.bump_touches _ _ _ _ ?_)
    on_goal 2 => exact Part.within_trans rfl hw
    with_reducible exact Touches.refl _ _
  ·
    with_reducible exact Touches.refl _ _

theorem State.pairResync_touches {ps : List Part} s a1 (hw : Part.within [.clk, .keys, .regs, .evt, .hif, .index, .objs, .sw, .fab, .bpm, .fdb, .tcore, .ref, .free, .eng, .pair, .pwr, .boot, .rc .bpmDoubleFreeCnt, .rc .bpmForeignFreeCnt, .rc .bpmPoolEmptyCnt, .rc .bpmPromoteCnt, .rc .evtPinStat, .rc .evtSuppressed, .rc .hifEvtLost, .rc .hifRingAborted, .rc .pairMirOvf, .rc .perfTagDrop, .rc .pwrWakeSrc] ps = true) : Touches ps s (State.pairResync s a1) := by
  unfold State.pairResync
  with_reducible refine Touches.step ?_ (State.runCmd_touches _ _ _ _ _ ?_ (fun _ => ?_))
  on_goal 2 => exact Part.within_trans rfl hw
  ·
    with_reducible exact Touches.refl _ _
  ·
    try extract_lets -merge -underBinder t0 t1
    refine Touches.haveS (t := t1) ?_ (fun ht1 => ?_)
    ·
      unfold t1
      with_reducible refine Touches.set_pair ?_ ?_
      on_goal 2 => exact Part.within_mem rfl hw
      with_reducible exact Touches.refl _ _
    try clear_value t1
    with_reducible refine Touches.ite ?_ ?_
    ·
      with_reducible refine Touches.step ?_ (State.complete_touches _ _ _ _ _ _ _ ?_)
      on_goal 2 => exact Part.within_trans rfl hw
      with_reducible exact Touches.refl _ _
    ·
      with_reducible refine Touches.ite ?_ ?_
      ·
        with_reducible refine Touches.step ?_ (State.complete_touches _ _ _ _ _ _ _ ?_)
        on_goal 2 => exact Part.within_trans rfl hw
        with_reducible exact Touches.refl _ _
      ·
        with_reducible refine Touches.ite ?_ ?_
        ·
          with_reducible refine Touches.step ?_ (State.resyncStart_touches _ ?_)
          on_goal 2 => exact Part.within_trans rfl hw
          with_reducible exact ht1
        ·
          with_reducible exact ht1

theorem State.fdbVlanSet_touches {ps : List Part} s a1 (hw : Part.within [.keys, .evt, .hif, .fdb, .boot, .rc .evtPinStat, .rc .evtSuppressed, .rc .hifEvtLost, .rc .hifRingAborted] ps = true) : Touches ps s (State.fdbVlanSet s a1) := by
  unfold State.fdbVlanSet
  try extract_lets -merge -underBinder t0 t1 t2 t3
  try clear_value t0
  try clear_value t1
  try clear_value t2
  try clear_value t3
  with_reducible refine Touches.step ?_ (State.runCmd_touches _ _ _ _ _ ?_ (fun _ => ?_))
  on_goal 2 => exact Part.within_trans rfl hw
  ·
    with_reducible exact Touches.refl _ _
  ·
    try extract_lets -merge -underBinder t4 t5
    refine Touches.haveS (t := t4) ?_ (fun ht4 => ?_)
    ·
      unfold t4
      with_reducible refine Touches.step ?_ (State.bumpVersion_touches _ _ ?_)
      on_goal 2 => exact Part.within_trans rfl hw
      with_reducible exact Touches.refl _ _
    try clear_value t4
    with_reducible refine Touches.ite ?_ ?_
    ·
      with_reducible refine Touches.step ?_ (State.complete_touches _ _ _ _ _ _ _ ?_)
      on_goal 2 => exact Part.within_trans rfl hw
      with_reducible exact Touches.refl _ _
    ·
      with_reducible refine Touches.step ?_ (State.complete_touches _ _ _ _ _ _ _ ?_)
      on_goal 2 => exact Part.within_trans rfl hw
      with_reducible refine Touches.set_fdb ?_ ?_
      on_goal 2 => exact Part.within_mem rfl hw
      with_reducible exact ht4

theorem State.timePeriod_touches {ps : List Part} s (hw : Part.within [.clk, .keys, .regs, .evt, .pers, .hif, .index, .objs, .lanes, .grps, .sw, .fab, .bpm, .fdb, .tcore, .tchans, .lnk, .ref, .free, .pll, .gnss, .tic, .cal, .eng, .pair, .pwr, .boot, .rc .bpmDoubleFreeCnt, .rc .bpmForeignFreeCnt, .rc .bpmPoolEmptyCnt, .rc .bpmPromoteCnt, .rc .calAbortCnt, .rc .calStoreFail, .rc .evtPinStat, .rc .evtSuppressed, .rc .hifEvtLost, .rc .hifRingAborted, .rc .pairMirOvf, .rc .pairPromoteCnt, .rc .perfTagDrop, .rc .pllCnt, .rc .portHoldFlush, .rc .pwrWakeSrc] ps = true) : Touches ps s (State.timePeriod s) := by
  unfold State.timePeriod
  try extract_lets -merge -underBinder t0 t1
  try clear_value t0
  refine Touches.haveS (t := t1) ?_ (fun ht1 => ?_)
  ·
    unfold t1
    with_reducible refine Touches.set_clk ?_ ?_
    on_goal 2 => exact Part.within_mem rfl hw
    with_reducible exact Touches.refl _ _
  try clear_value t1
  with_reducible refine Touches.ite ?_ ?_
  ·
    with_reducible refine Touches.step ?_ (State.atSecond_touches _ ?_)
    on_goal 2 => exact Part.within_trans rfl hw
    with_reducible exact ht1
  ·
    with_reducible exact ht1

theorem State.idleTick_touches {ps : List Part} s (hw : Part.within [.clk, .keys, .regs, .evt, .pers, .hif, .index, .objs, .lanes, .grps, .sw, .fab, .bpm, .fdb, .tcore, .tchans, .lnk, .ref, .free, .pll, .gnss, .tic, .cal, .eng, .pair, .pwr, .boot, .rc .bpmDoubleFreeCnt, .rc .bpmForeignFreeCnt, .rc .bpmPoolEmptyCnt, .rc .bpmPromoteCnt, .rc .calAbortCnt, .rc .calStoreFail, .rc .evtPinStat, .rc .evtSuppressed, .rc .hifEvtLost, .rc .hifRingAborted, .rc .pairMirOvf, .rc .pairPromoteCnt, .rc .perfTagDrop, .rc .pllCnt, .rc .portHoldFlush, .rc .pwrWakeSrc] ps = true) : Touches ps s (State.idleTick s) := by
  unfold State.idleTick
  try extract_lets -merge -underBinder t0 t1 t2
  with_reducible refine Touches.ite ?_ ?_
  ·
    with_reducible refine Touches.ite ?_ ?_
    ·
      with_reducible refine Touches.set_clk ?_ ?_
      on_goal 2 => exact Part.within_mem rfl hw
      with_reducible exact Touches.refl _ _
    ·
      with_reducible refine Touches.set_clk ?_ ?_
      on_goal 2 => exact Part.within_mem rfl hw
      with_reducible exact Touches.refl _ _
  ·
    with_reducible refine Touches.ite ?_ ?_
    ·
      with_reducible refine Touches.step ?_ (State.timePeriod_touches _ ?_)
      on_goal 2 => exact Part.within_trans rfl hw
      with_reducible exact Touches.refl _ _
    ·
      with_reducible refine Touches.set_clk ?_ ?_
      on_goal 2 => exact Part.within_mem rfl hw
      with_reducible exact Touches.refl _ _

theorem State.engTaskPin_touches {ps : List Part} s a1 (hw : Part.within [.clk, .ready, .keys, .regs, .evt, .hif, .index, .objs, .lanes, .sw, .fab, .bpm, .fdb, .tcore, .tchans, .lnk, .ref, .free, .pll, .tic, .cal, .eng, .pair, .pwr, .boot, .rc .bpmDoubleFreeCnt, .rc .bpmForeignFreeCnt, .rc .bpmPoolEmptyCnt, .rc .bpmPromoteCnt, .rc .calAbortCnt, .rc .evtPinStat, .rc .evtSuppressed, .rc .hifEvtLost, .rc .hifRingAborted, .rc .pairMirOvf, .rc .perfTagDrop, .rc .pllCnt, .rc .portHoldFlush, .rc .pwrWakeSrc] ps = true) : Touches ps s (State.engTaskPin s a1) := by
  unfold State.engTaskPin
  try extract_lets -merge -underBinder t0 t1 t2 t3 t4
  try clear_value t0
  try clear_value t1
  try clear_value t2
  try clear_value t3
  try clear_value t4
  with_reducible refine Touches.step ?_ (State.runCmd_touches _ _ _ _ _ ?_ (fun _ => ?_))
  on_goal 2 => exact Part.within_trans rfl hw
  ·
    with_reducible exact Touches.refl _ _
  ·
    try extract_lets -merge -underBinder t5 t6 t7
    try clear_value t5
    refine Touches.haveS (t := t6) ?_ (fun ht6 => ?_)
    ·
      unfold t6
      with_reducible refine Touches.step ?_ (State.setTask_touches _ _ _ ?_)
      on_goal 2 => exact Part.within_trans rfl hw
      with_reducible exact Touches.refl _ _
    try clear_value t6
    refine Touches.haveS (t := t7) ?_ (fun ht7 => ?_)
    ·
      unfold t7
      split
      ·
        try extract_lets -merge -underBinder t8
        with_reducible refine Touches.ite ?_ ?_
        ·
          with_reducible refine Touches.step ?_ (State.nameStandby_touches _ _ ?_)
          on_goal 2 => exact Part.within_trans rfl hw
          with_reducible refine Touches.step ?_ (State.setTask_touches _ _ _ ?_)
          on_goal 2 => exact Part.within_trans rfl hw
          with_reducible exact ht6
        ·
          with_reducible refine Touches.step ?_ (State.taskMove_touches _ _ _ _ ?_)
          on_goal 2 => exact Part.within_trans rfl hw
          with_reducible exact ht6
      ·
        split
        ·
          with_reducible refine Touches.step ?_ (State.taskMove_touches _ _ _ _ ?_)
          on_goal 2 => exact Part.within_trans rfl hw
          with_reducible exact ht6
        ·
          try extract_lets -merge -underBinder t9
          with_reducible refine Touches.step ?_ (State.engReady_touches _ ?_)
          on_goal 2 => exact Part.within_trans rfl hw
          with_reducible refine Touches.step ?_ (State.taskGained_touches _ _ ?_)
          on_goal 2 => exact Part.within_trans rfl hw
          with_reducible refine Touches.step ?_ (State.nameStandby_touches _ _ ?_)
          on_goal 2 => exact Part.within_trans rfl hw
          with_reducible refine Touches.step ?_ (State.setTask_touches _ _ _ ?_)
          on_goal 2 => exact Part.within_trans rfl hw
          with_reducible exact ht6
    try clear_value t7
    with_reducible refine Touches.ite ?_ ?_
    ·
      with_reducible refine Touches.step ?_ (State.complete_touches _ _ _ _ _ _ _ ?_)
      on_goal 2 => exact Part.within_trans rfl hw
      with_reducible refine Touches.step ?_ (State.setTask_touches _ _ _ ?_)
      on_goal 2 => exact Part.within_trans rfl hw
      with_reducible exact Touches.refl _ _
    ·
      with_reducible refine Touches.ite ?_ ?_
      ·
        with_reducible refine Touches.step ?_ (State.complete_touches _ _ _ _ _ _ _ ?_)
        on_goal 2 => exact Part.within_trans rfl hw
        with_reducible exact Touches.refl _ _
      ·
        with_reducible refine Touches.step ?_ (State.complete_touches _ _ _ _ _ _ _ ?_)
        on_goal 2 => exact Part.within_trans rfl hw
        with_reducible exact ht7

theorem State.gnssSectTestDone_touches {ps : List Part} s a1 a2 (hw : Part.within [.hif, .gnss, .boot, .rc .hifRingAborted] ps = true) : Touches ps s (State.gnssSectTestDone s a1 a2) := by
  unfold State.gnssSectTestDone
  split
  ·
    with_reducible exact Touches.refl _ _
  ·
    try extract_lets -merge -underBinder t0
    with_reducible refine Touches.step ?_ (State.complete_touches _ _ _ _ _ _ _ ?_)
    on_goal 2 => exact Part.within_trans rfl hw
    with_reducible refine Touches.set_gnss ?_ ?_
    on_goal 2 => exact Part.within_mem rfl hw
    with_reducible exact Touches.refl _ _

theorem State.timeSample_touches {ps : List Part} s a1 a2 (hw : Part.within [.clk, .keys, .regs, .evt, .hif, .index, .objs, .lanes, .grps, .sw, .fab, .bpm, .fdb, .tcore, .tchans, .lnk, .ref, .free, .pll, .tic, .cal, .eng, .pair, .pwr, .boot, .rc .bpmDoubleFreeCnt, .rc .bpmForeignFreeCnt, .rc .bpmPoolEmptyCnt, .rc .bpmPromoteCnt, .rc .calAbortCnt, .rc .evtPinStat, .rc .evtSuppressed, .rc .hifEvtLost, .rc .hifRingAborted, .rc .pairMirOvf, .rc .pairPromoteCnt, .rc .perfTagDrop, .rc .pllCnt, .rc .portHoldFlush, .rc .pwrWakeSrc] ps = true) : Touches ps s (State.timeSample s a1 a2) := by
  unfold State.timeSample
  try extract_lets -merge -underBinder t0 t1 t2 t3
  try clear_value t0
  refine Touches.haveS (t := t2) ?_ (fun ht2 => ?_)
  ·
    unfold t2
    with_reducible refine Touches.set_ref ?_ ?_
    on_goal 2 => exact Part.within_mem rfl hw
    with_reducible exact Touches.refl _ _
  try clear_value t2
  refine Touches.haveS (t := t3) ?_ (fun ht3 => ?_)
  ·
    unfold t3
    with_reducible refine Touches.step ?_ (State.returnCheck_touches _ _ _ ?_)
    on_goal 2 => exact Part.within_trans rfl hw
    with_reducible exact ht2
  try clear_value t3
  with_reducible refine Touches.ite ?_ ?_
  ·
    with_reducible refine Touches.ite ?_ ?_
    ·
      with_reducible refine Touches.step ?_ (State.servoTake_touches _ _ ?_)
      on_goal 2 => exact Part.within_trans rfl hw
      with_reducible exact ht3
    ·
      with_reducible exact ht3
  ·
    with_reducible exact Touches.refl _ _

theorem State.freeFreq_touches {ps : List Part} s (hw : Part.within [.clk, .tcore, .free] ps = true) : Touches ps s (State.freeFreq s) := by
  unfold State.freeFreq
  try extract_lets -merge -underBinder t0 t1
  try clear_value t0
  refine Touches.haveS (t := t1) ?_ (fun ht1 => ?_)
  ·
    unfold t1
    with_reducible refine Touches.set_free ?_ ?_
    on_goal 2 => exact Part.within_mem rfl hw
    with_reducible exact Touches.refl _ _
  try clear_value t1
  split
  ·
    with_reducible refine Touches.step ?_ (State.setRate_touches _ _ ?_)
    on_goal 2 => exact Part.within_trans rfl hw
    with_reducible exact ht1
  ·
    try extract_lets -merge -underBinder t2
    with_reducible refine Touches.step ?_ (State.setRate_touches _ _ ?_)
    on_goal 2 => exact Part.within_trans rfl hw
    with_reducible refine Touches.set_tcore ?_ ?_
    on_goal 2 => exact Part.within_mem rfl hw
    with_reducible exact ht1

theorem State.freqSample_touches {ps : List Part} s a1 (hw : Part.within [.clk, .tcore, .free] ps = true) : Touches ps s (State.freqSample s a1) := by
  unfold State.freqSample
  with_reducible refine Touches.ite ?_ ?_
  ·
    with_reducible refine Touches.step ?_ (State.freeFreq_touches _ ?_)
    on_goal 2 => exact Part.within_trans rfl hw
    with_reducible exact Touches.refl _ _
  ·
    with_reducible exact Touches.refl _ _

theorem State.refCandSample_touches {ps : List Part} s a1 a2 a3 a4 (hw : Part.within [.clk, .keys, .regs, .evt, .hif, .index, .objs, .lanes, .grps, .sw, .fab, .bpm, .fdb, .tcore, .tchans, .lnk, .ref, .free, .pll, .tic, .cal, .eng, .pair, .pwr, .boot, .rc .bpmDoubleFreeCnt, .rc .bpmForeignFreeCnt, .rc .bpmPoolEmptyCnt, .rc .bpmPromoteCnt, .rc .calAbortCnt, .rc .evtPinStat, .rc .evtSuppressed, .rc .hifEvtLost, .rc .hifRingAborted, .rc .pairMirOvf, .rc .pairPromoteCnt, .rc .perfTagDrop, .rc .pllCnt, .rc .portHoldFlush, .rc .pwrWakeSrc, .rc .refHoldoffCnt] ps = true) : Touches ps s (State.refCandSample s a1 a2 a3 a4) := by
  unfold State.refCandSample
  try extract_lets -merge -underBinder t0 t1 t2 t3
  try clear_value t0
  refine Touches.haveS (t := t2) ?_ (fun ht2 => ?_)
  ·
    unfold t2
    with_reducible refine Touches.set_ref ?_ ?_
    on_goal 2 => exact Part.within_mem rfl hw
    with_reducible exact Touches.refl _ _
  try clear_value t2
  refine Touches.haveS (t := t3) ?_ (fun ht3 => ?_)
  ·
    unfold t3
    with_reducible refine Touches.step ?_ (State.candCheck_touches _ _ _ ?_)
    on_goal 2 => exact Part.within_trans rfl hw
    with_reducible exact ht2
  try clear_value t3
  with_reducible refine Touches.ite ?_ ?_
  ·
    with_reducible exact ht3
  ·
    with_reducible refine Touches.ite ?_ ?_
    ·
      with_reducible refine Touches.step ?_ (State.timeSample_touches _ _ _ ?_)
      on_goal 2 => exact Part.within_trans rfl hw
      with_reducible exact ht3
    ·
      with_reducible refine Touches.step ?_ (State.freqSample_touches _ _ ?_)
      on_goal 2 => exact Part.within_trans rfl hw
      with_reducible exact ht3

theorem State.lnkSlip_touches {ps : List Part} s a1 a2 (hw : Part.within [.evt, .hif, .tchans, .lnk, .tic, .cal, .rc .calAbortCnt, .rc .evtPinStat, .rc .evtSuppressed, .rc .hifEvtLost, .rc .lnkSlipCnt] ps = true) : Touches ps s (State.lnkSlip s a1 a2) := by
  unfold State.lnkSlip
  try extract_lets -merge -underBinder t0 t1
  try clear_value t0
  refine Touches.haveS (t := t1) ?_ (fun ht1 => ?_)
  ·
    unfold t1
    with_reducible refine Touches.step ?_ (State.setLnk_touches _ _ _ ?_)
    on_goal 2 => exact Part.within_trans rfl hw
    with_reducible refine Touches.step ?_ (State.phiForget_touches _ _ ?_)
    on_goal 2 => exact Part.within_trans rfl hw
    with_reducible refine Touches.step ?_ (State.raise_touches _ _ _ _ _ ?_)
    on_goal 2 => exact Part.within_trans rfl hw
    with_reducible refine Touches.step ?_ (State.bump_touches _ _ _ _ ?_)
    on_goal 2 => exact Part.within_trans rfl hw
    with_reducible exact Touches.refl _ _
  try clear_value t1
  with_reducible refine Touches.ite ?_ ?_
  ·
    with_reducible refine Touches.step ?_ (State.lnkGo_touches _ _ _ _ ?_)
    on_goal 2 => exact Part.within_trans rfl hw
    with_reducible exact ht1
  ·
    with_reducible exact ht1

theorem State.lnkBetween_touches {ps : List Part} s a1 a2 (hw : Part.within [.clk, .keys, .regs, .evt, .hif, .index, .objs, .lanes, .grps, .sw, .fab, .bpm, .fdb, .tcore, .tchans, .lnk, .ref, .free, .pll, .tic, .cal, .eng, .pair, .pwr, .boot, .rc .bpmDoubleFreeCnt, .rc .bpmForeignFreeCnt, .rc .bpmPoolEmptyCnt, .rc .bpmPromoteCnt, .rc .calAbortCnt, .rc .evtPinStat, .rc .evtSuppressed, .rc .hifEvtLost, .rc .hifRingAborted, .rc .pairMirOvf, .rc .pairPromoteCnt, .rc .perfTagDrop, .rc .pllCnt, .rc .portHoldFlush, .rc .pwrWakeSrc] ps = true) : Touches ps s (State.lnkBetween s a1 a2) := by
  unfold State.lnkBetween
  try extract_lets -merge -underBinder t0
  try clear_value t0
  split
  ·
    with_reducible refine Touches.ite ?_ ?_
    ·
      with_reducible refine Touches.step ?_ (State.timeSample_touches _ _ _ ?_)
      on_goal 2 => exact Part.within_trans rfl hw
      with_reducible exact Touches.refl _ _
    ·
      with_reducible exact Touches.refl _ _
  ·
    with_reducible exact Touches.refl _ _

theorem State.lnkPhaseUpdate_touches {ps : List Part} s a1 a2 a3 (hw : Part.within [.clk, .keys, .regs, .evt, .hif, .index, .objs, .lanes, .grps, .sw, .fab, .bpm, .fdb, .tcore, .tchans, .lnk, .ref, .free, .pll, .tic, .cal, .eng, .pair, .pwr, .boot, .rc .bpmDoubleFreeCnt, .rc .bpmForeignFreeCnt, .rc .bpmPoolEmptyCnt, .rc .bpmPromoteCnt, .rc .calAbortCnt, .rc .evtPinStat, .rc .evtSuppressed, .rc .hifEvtLost, .rc .hifRingAborted, .rc .lnkSlipCnt, .rc .pairMirOvf, .rc .pairPromoteCnt, .rc .perfTagDrop, .rc .pllCnt, .rc .portHoldFlush, .rc .pwrWakeSrc] ps = true) : Touches ps s (State.lnkPhaseUpdate s a1 a2 a3) := by
  unfold State.lnkPhaseUpdate
  try extract_lets -merge -underBinder t0 t1
  refine Touches.haveS (t := t0) ?_ (fun ht0 => ?_)
  ·
    unfold t0
    with_reducible refine Touches.ite ?_ ?_
    ·
      with_reducible refine Touches.step ?_ (State.lnkPhiValid_touches _ _ ?_)
      on_goal 2 => exact Part.within_trans rfl hw
      with_reducible exact Touches.refl _ _
    ·
      with_reducible exact Touches.refl _ _
  try clear_value t0
  try clear_value t1
  with_reducible refine Touches.ite ?_ ?_
  ·
    with_reducible refine Touches.step ?_ (State.lnkPhiLost_touches _ _ ?_)
    on_goal 2 => exact Part.within_trans rfl hw
    with_reducible exact Touches.refl _ _
  ·
    split
    ·
      with_reducible exact ht0
    ·
      try extract_lets -merge -underBinder t2
      try clear_value t2
      with_reducible refine Touches.ite ?_ ?_
      ·
        with_reducible refine Touches.step ?_ (State.lnkEval_touches _ _ ?_)
        on_goal 2 => exact Part.within_trans rfl hw
        with_reducible refine Touches.step ?_ (State.setLnk_touches _ _ _ ?_)
        on_goal 2 => exact Part.within_trans rfl hw
        with_reducible exact ht0
      ·
        with_reducible refine Touches.ite ?_ ?_
        ·
          with_reducible refine Touches.step ?_ (State.lnkSlip_touches _ _ _ ?_)
          on_goal 2 => exact Part.within_trans rfl hw
          with_reducible exact ht0
        ·
          with_reducible refine Touches.step ?_ (State.lnkBetween_touches _ _ _ ?_)
          on_goal 2 => exact Part.within_trans rfl hw
          with_reducible refine Touches.step ?_ (State.lnkEval_touches _ _ ?_)
          on_goal 2 => exact Part.within_trans rfl hw
          with_reducible refine Touches.step ?_ (State.setLnk_touches _ _ _ ?_)
          on_goal 2 => exact Part.within_trans rfl hw
          with_reducible exact ht0

theorem State.polSave_touches {ps : List Part} (s : State) (d : CmdDesc) (hw : Part.within [.keys, .evt, .pers, .hif, .boot, .rc .evtPinStat, .rc .evtSuppressed, .rc .hifEvtLost, .rc .hifRingAborted] ps = true) :
    Touches ps s (s.polSave d) := by
  unfold State.polSave
  extract_lets c
  refine State.runCmd_touches _ _ _ _ _ (Part.within_trans rfl hw) (fun u => ?_)
  exact (State.polStoreAll_touches _ _ _ (Part.within_trans rfl hw)).step (State.complete_touches _ _ _ _ _ _ _ (Part.within_trans rfl hw))

theorem State.candQualify_touches {ps : List Part} s a1 (hw : Part.within [.clk, .evt, .hif, .tcore, .tchans, .ref, .pll, .eng, .pair, .pwr, .rc .evtPinStat, .rc .evtSuppressed, .rc .hifEvtLost, .rc .pairMirOvf, .rc .pllCnt, .rc .pwrWakeSrc] ps = true) : Touches ps s (State.candQualify s a1) := by
  unfold State.candQualify
  with_reducible refine Touches.step ?_ (State.qualified_touches _ _ ?_)
  on_goal 2 => exact Part.within_trans rfl hw
  with_reducible refine Touches.step ?_ (State.setCandSt_touches _ _ _ _ ?_)
  on_goal 2 => exact Part.within_trans rfl hw
  with_reducible exact Touches.refl _ _

theorem State.mirrorCreate_touches {ps : List Part} s a1 (hw : Part.within [.keys, .evt, .hif, .index, .objs, .fdb, .boot, .rc .evtPinStat, .rc .evtSuppressed, .rc .hifEvtLost, .rc .hifRingAborted] ps = true) : Touches ps s (State.mirrorCreate s a1) := by
  unfold State.mirrorCreate
  try extract_lets -merge -underBinder t0
  with_reducible refine Touches.step ?_ (State.runCmd_touches _ _ _ _ _ ?_ (fun _ => ?_))
  on_goal 2 => exact Part.within_trans rfl hw
  ·
    with_reducible exact Touches.refl _ _
  ·
    try extract_lets -merge -underBinder t1 t2
    try clear_value t1
    refine Touches.haveS (t := t2) ?_ (fun ht2 => ?_)
    ·
      unfold t2
      with_reducible refine Touches.step ?_ (State.addObj_touches _ _ _ _ ?_)
      on_goal 2 => exact Part.within_trans rfl hw
      with_reducible refine Touches.step ?_ (State.bumpVersion_touches _ _ ?_)
      on_goal 2 => exact Part.within_trans rfl hw
      with_reducible exact Touches.refl _ _
    try clear_value t2
    with_reducible refine Touches.ite ?_ ?_
    ·
      with_reducible refine Touches.step ?_ (State.complete_touches _ _ _ _ _ _ _ ?_)
      on_goal 2 => exact Part.within_trans rfl hw
      with_reducible exact Touches.refl _ _
    ·
      with_reducible refine Touches.ite ?_ ?_
      ·
        with_reducible refine Touches.step ?_ (State.complete_touches _ _ _ _ _ _ _ ?_)
        on_goal 2 => exact Part.within_trans rfl hw
        with_reducible exact Touches.refl _ _
      ·
        with_reducible refine Touches.step ?_ (State.complete_touches _ _ _ _ _ _ _ ?_)
        on_goal 2 => exact Part.within_trans rfl hw
        with_reducible exact ht2

theorem State.jtagUpdateIr_touches {ps : List Part} s a1 (hw : Part.within [.clk, .regs, .evt, .hif, .lanes, .sw, .fab, .bpm, .fdb, .tcore, .tchans, .lnk, .ref, .free, .pll, .tic, .cal, .eng, .pair, .pwr, .rc .bpmDoubleFreeCnt, .rc .bpmForeignFreeCnt, .rc .bpmPoolEmptyCnt, .rc .bpmPromoteCnt, .rc .calAbortCnt, .rc .evtPinStat, .rc .evtSuppressed, .rc .hifEvtLost, .rc .hifRingAborted, .rc .pairMirOvf, .rc .perfTagDrop, .rc .pllCnt, .rc .portHoldFlush, .rc .pwrWakeSrc] ps = true) : Touches ps s (State.jtagUpdateIr s a1) := by
  unfold State.jtagUpdateIr
  try extract_lets -merge -underBinder t0 t1
  refine Touches.haveS (t := t1) ?_ (fun ht1 => ?_)
  ·
    unfold t1
    with_reducible refine Touches.set_pwr ?_ ?_
    on_goal 2 => exact Part.within_mem rfl hw
    with_reducible exact Touches.refl _ _
  try clear_value t1
  with_reducible refine Touches.ite ?_ ?_
  ·
    with_reducible exact ht1
  ·
    with_reducible refine Touches.ite ?_ ?_
    ·
      with_reducible refine Touches.foldl (fun _ _ => ?_) _ ?_
      ·
        with_reducible refine Touches.step ?_ (State.laneUnlock_touches _ _ ?_)
        on_goal 2 => exact Part.within_trans rfl hw
        with_reducible exact Touches.refl _ _
      ·
        with_reducible exact ht1
    ·
      with_reducible refine Touches.foldl (fun _ _ => ?_) _ ?_
      ·
        with_reducible refine Touches.step ?_ (State.lockLossRetrain_touches _ _ ?_)
        on_goal 2 => exact Part.within_trans rfl hw
        with_reducible exact Touches.refl _ _
      ·
        with_reducible exact ht1

theorem State.pairDecide_touches {ps : List Part} s a1 (hw : Part.within [.clk, .keys, .regs, .evt, .hif, .index, .objs, .sw, .fab, .bpm, .fdb, .tcore, .ref, .free, .eng, .pair, .pwr, .boot, .rc .bpmDoubleFreeCnt, .rc .bpmForeignFreeCnt, .rc .bpmPoolEmptyCnt, .rc .bpmPromoteCnt, .rc .evtPinStat, .rc .evtSuppressed, .rc .hifEvtLost, .rc .hifRingAborted, .rc .pairMirOvf, .rc .perfTagDrop, .rc .pwrWakeSrc] ps = true) : Touches ps s (State.pairDecide s a1) := by
  unfold State.pairDecide
  try extract_lets -merge -underBinder t0 t1 t2
  try clear_value t0
  try clear_value t1
  refine Touches.haveS (t := t2) ?_ (fun ht2 => ?_)
  ·
    unfold t2
    with_reducible refine Touches.set_free ?_ ?_
    on_goal 2 => exact Part.within_mem rfl hw
    with_reducible exact Touches.refl _ _
  try clear_value t2
  with_reducible refine Touches.ite ?_ ?_
  ·
    with_reducible refine Touches.step ?_ (State.pairStandby_touches _ ?_)
    on_goal 2 => exact Part.within_trans rfl hw
    with_reducible exact Touches.refl _ _
  ·
    with_reducible refine Touches.ite ?_ ?_
    ·
      with_reducible exact Touches.refl _ _
    ·
      with_reducible refine Touches.ite ?_ ?_
      ·
        with_reducible refine Touches.step ?_ (State.pairPrimary_touches _ _ ?_)
        on_goal 2 => exact Part.within_trans rfl hw
        with_reducible exact ht2
      ·
        with_reducible refine Touches.step ?_ (State.pairStandby_touches _ ?_)
        on_goal 2 => exact Part.within_trans rfl hw
        with_reducible exact ht2

theorem State.hbTake_touches {ps : List Part} s a1 a2 (hw : Part.within [.clk, .keys, .regs, .evt, .hif, .index, .objs, .sw, .fab, .bpm, .fdb, .tcore, .ref, .free, .eng, .pair, .pwr, .boot, .rc .bpmDoubleFreeCnt, .rc .bpmForeignFreeCnt, .rc .bpmPoolEmptyCnt, .rc .bpmPromoteCnt, .rc .evtPinStat, .rc .evtSuppressed, .rc .hifEvtLost, .rc .hifRingAborted, .rc .pairMirOvf, .rc .pairPromoteCnt, .rc .perfTagDrop, .rc .pwrWakeSrc] ps = true) : Touches ps s (State.hbTake s a1 a2) := by
  unfold State.hbTake
  try extract_lets -merge -underBinder t0 t1 t2 t3 t4 t5 t6
  try clear_value t0
  try clear_value t1
  refine Touches.haveS (t := t3) ?_ (fun ht3 => ?_)
  ·
    unfold t3
    with_reducible refine Touches.set_pair ?_ ?_
    on_goal 2 => exact Part.within_mem rfl hw
    with_reducible exact Touches.refl _ _
  try clear_value t3
  refine Touches.haveS (t := t4) ?_ (fun ht4 => ?_)
  ·
    unfold t4
    with_reducible refine Touches.step ?_ (State.raiseIf_touches _ _ _ _ _ _ ?_)
    on_goal 2 => exact Part.within_trans rfl hw
    with_reducible exact ht3
  try clear_value t4
  refine Touches.haveS (t := t5) ?_ (fun ht5 => ?_)
  ·
    unfold t5
    with_reducible refine Touches.ite ?_ ?_
    ·
      with_reducible refine Touches.step ?_ (State.pairDecide_touches _ _ ?_)
      on_goal 2 => exact Part.within_trans rfl hw
      with_reducible exact ht4
    ·
      with_reducible exact ht4
  try clear_value t5
  refine Touches.haveS (t := t6) ?_ (fun ht6 => ?_)
  ·
    unfold t6
    with_reducible refine Touches.step ?_ (State.pairPaths_touches _ ?_)
    on_goal 2 => exact Part.within_trans rfl hw
    with_reducible exact ht5
  try clear_value t6
  with_reducible refine Touches.ite ?_ ?_
  ·
    with_reducible refine Touches.step ?_ (State.resyncSend_touches _ ?_)
    on_goal 2 => exact Part.within_trans rfl hw
    with_reducible exact ht6
  ·
    with_reducible exact ht6

theorem State.rxHostDeliver_touches {ps : List Part} s a1 (hw : Part.within [.evt, .hif, .sw, .fab, .bpm, .fdb, .free, .eng, .rc .bpmDoubleFreeCnt, .rc .bpmForeignFreeCnt, .rc .bpmPoolEmptyCnt, .rc .bpmPromoteCnt, .rc .evtPinStat, .rc .evtSuppressed, .rc .hifEvtLost, .rc .hifRingAborted, .rc .hifRxDisc, .rc .perfTagDrop] ps = true) : Touches ps s (State.rxHostDeliver s a1) := by
  unfold State.rxHostDeliver
  split
  ·
    split
    ·
      with_reducible exact Touches.refl _ _
    ·
      try extract_lets -merge -underBinder t0 t1 t2 t3 t4 t5
      try clear_value t0
      try clear_value t1
      try clear_value t2
      try clear_value t3
      try clear_value t4
      refine Touches.haveS (t := t5) ?_ (fun ht5 => ?_)
      ·
        unfold t5
        with_reducible refine Touches.step ?_ (State.rxWrite_touches _ _ _ _ _ ?_)
        on_goal 2 => exact Part.within_trans rfl hw
        with_reducible refine Touches.step ?_ (State.setRing_touches _ _ _ ?_)
        on_goal 2 => exact Part.within_trans rfl hw
        with_reducible exact Touches.refl _ _
      try clear_value t5
      with_reducible refine Touches.ite ?_ ?_
      ·
        with_reducible exact Touches.refl _ _
      ·
        with_reducible refine Touches.ite ?_ ?_
        ·
          with_reducible refine Touches.step ?_ (State.afterFree_touches _ ?_)
          on_goal 2 => exact Part.within_trans rfl hw
          with_reducible refine Touches.step ?_ (State.removeCopy_touches _ _ ?_)
          on_goal 2 => exact Part.within_trans rfl hw
          with_reducible refine Touches.step ?_ (State.bump_touches _ _ _ _ ?_)
          on_goal 2 => exact Part.within_trans rfl hw
          with_reducible exact Touches.refl _ _
        ·
          with_reducible refine Touches.ite ?_ ?_
          ·
            with_reducible exact Touches.refl _ _
          ·
            with_reducible refine Touches.step ?_ (State.setCopy_touches _ _ _ ?_)
            on_goal 2 => exact Part.within_trans rfl hw
            with_reducible exact ht5
  ·
    with_reducible exact Touches.refl _ _

theorem State.residenceExpire_touches {ps : List Part} s a1 (hw : Part.within [.evt, .hif, .sw, .fab, .bpm, .fdb, .free, .eng, .rc .bpmDoubleFreeCnt, .rc .bpmForeignFreeCnt, .rc .bpmPoolEmptyCnt, .rc .bpmPromoteCnt, .rc .evtPinStat, .rc .evtSuppressed, .rc .hifEvtLost, .rc .hifRingAborted, .rc .perfTagDrop, .rc .portResExpired] ps = true) : Touches ps s (State.residenceExpire s a1) := by
  unfold State.residenceExpire
  split
  ·
    with_reducible exact Touches.refl _ _
  ·
    try extract_lets -merge -underBinder t0 t1 t2 t3 t4 t5
    try clear_value t0
    try clear_value t1
    refine Touches.haveS (t := t2) ?_ (fun ht2 => ?_)
    ·
      unfold t2
      with_reducible refine Touches.step ?_ (State.removeCopy_touches _ _ ?_)
      on_goal 2 => exact Part.within_trans rfl hw
      with_reducible refine Touches.step ?_ (State.bump_touches _ _ _ _ ?_)
      on_goal 2 => exact Part.within_trans rfl hw
      with_reducible refine Touches.step ?_ (State.tsLost_touches _ _ _ ?_)
      on_goal 2 => exact Part.within_trans rfl hw
      with_reducible exact Touches.refl _ _
    try clear_value t2
    try clear_value t3
    try clear_value t4
    try clear_value t5
    with_reducible refine Touches.ite ?_ ?_
    ·
      with_reducible exact Touches.refl _ _
    ·
      with_reducible refine Touches.step ?_ (State.afterFree_touches _ ?_)
      on_goal 2 => exact Part.within_trans rfl hw
      with_reducible refine Touches.step ?_ (State.raiseIf_touches _ _ _ _ _ _ ?_)
      on_goal 2 => exact Part.within_trans rfl hw
      with_reducible refine Touches.step ?_ (State.setPort_touches _ _ _ ?_)
      on_goal 2 => exact Part.within_trans rfl hw
      with_reducible exact ht2

theorem State.portHoldExpire_touches {ps : List Part} s a1 (hw : Part.within [.evt, .hif, .sw, .fab, .bpm, .fdb, .free, .eng, .rc .bpmDoubleFreeCnt, .rc .bpmForeignFreeCnt, .rc .bpmPoolEmptyCnt, .rc .bpmPromoteCnt, .rc .evtPinStat, .rc .evtSuppressed, .rc .hifEvtLost, .rc .hifRingAborted, .rc .perfTagDrop, .rc .portHoldFlush] ps = true) : Touches ps s (State.portHoldExpire s a1) := by
  unfold State.portHoldExpire
  with_reducible refine Touches.ite ?_ ?_
  ·
    with_reducible refine Touches.step ?_ (State.portFlush_touches _ _ ?_)
    on_goal 2 => exact Part.within_trans rfl hw
    with_reducible exact Touches.refl _ _
  ·
    with_reducible exact Touches.refl _ _

theorem State.qualMeasure_touches {ps : List Part} s a1 a2 a3 (hw : Part.within [.evt, .hif, .lanes, .rc .evtPinStat, .rc .evtSuppressed, .rc .hifEvtLost] ps = true) : Touches ps s (State.qualMeasure s a1 a2 a3) := by
  unfold State.qualMeasure
  try extract_lets -merge -underBinder t0
  try clear_value t0
  with_reducible refine Touches.ite ?_ ?_
  ·
    with_reducible refine Touches.step ?_ (State.lanePublish_touches _ _ _ _ ?_)
    on_goal 2 => exact Part.within_trans rfl hw
    with_reducible exact Touches.refl _ _
  ·
    with_reducible exact Touches.refl _ _

theorem State.tchanPlaceRetry_touches {ps : List Part} s (hw : Part.within [.evt, .hif, .tchans, .rc .evtPinStat, .rc .evtSuppressed, .rc .hifEvtLost] ps = true) : Touches ps s (State.tchanPlaceRetry s) := by
  unfold State.tchanPlaceRetry
  with_reducible refine Touches.foldl (fun _ _ => ?_) _ ?_
  ·
    try extract_lets -merge -underBinder t0
    try clear_value t0
    split
    ·
      try extract_lets -merge -underBinder t1
      refine Touches.haveS (t := t1) ?_ (fun ht1 => ?_)
      ·
        unfold t1
        with_reducible refine Touches.step ?_ (State.setTchan_touches _ _ _ ?_)
        on_goal 2 => exact Part.within_trans rfl hw
        with_reducible exact Touches.refl _ _
      try clear_value t1
      with_reducible refine Touches.ite ?_ ?_
      ·
        with_reducible refine Touches.step ?_ (State.setChanSt_touches _ _ _ ?_)
        on_goal 2 => exact Part.within_trans rfl hw
        with_reducible exact ht1
      ·
        with_reducible exact ht1
    ·
      with_reducible exact Touches.refl _ _
  ·
    with_reducible exact Touches.refl _ _

theorem State.busMasterClear_touches {ps : List Part} s (hw : Part.within [.regs, .evt, .hif, .rc .evtPinStat, .rc .evtSuppressed, .rc .hifEvtLost] ps = true) : Touches ps s (State.busMasterClear s) := by
  unfold State.busMasterClear
  try extract_lets -merge -underBinder t0 t1
  refine Touches.haveS (t := t1) ?_ (fun ht1 => ?_)
  ·
    unfold t1
    with_reducible refine Touches.set_hif ?_ ?_
    on_goal 2 => exact Part.within_mem rfl hw
    with_reducible exact Touches.refl _ _
  try clear_value t1
  with_reducible refine Touches.foldl (fun _ _ => ?_) _ ?_
  ·
    with_reducible refine Touches.step ?_ (State.ringErr_touches _ _ _ ?_)
    on_goal 2 => exact Part.within_trans rfl hw
    with_reducible exact Touches.refl _ _
  ·
    with_reducible exact ht1

theorem State.makeCopy_touches {ps : List Part} s a1 a2 a3 a4 (hw : Part.within [.fab, .rc .portDownDisc] ps = true) : Touches ps s (State.makeCopy s a1 a2 a3 a4) := by
  unfold State.makeCopy
  with_reducible refine Touches.ite ?_ ?_
  ·
    with_reducible refine Touches.step ?_ (State.bump_touches _ _ _ _ ?_)
    on_goal 2 => exact Part.within_trans rfl hw
    with_reducible exact Touches.refl _ _
  ·
    with_reducible refine Touches.step ?_ (State.addCopy_touches _ _ ?_)
    on_goal 2 => exact Part.within_trans rfl hw
    with_reducible exact Touches.refl _ _

theorem State.i2cWrite_touches {ps : List Part} s a1 a2 (hw : Part.within [.variant, .fused, .clk, .ready, .keys, .regs, .mbx, .rd, .rdI2c, .evt, .pers, .hif, .index, .objs, .lanes, .grps, .sw, .fab, .bpm, .fdb, .tcore, .tchans, .lnk, .ref, .free, .pll, .gnss, .tic, .cal, .eng, .spad, .pair, .pwr, .boot, .flash, .pending, .counters] ps = true) : Touches ps s (State.i2cWrite s a1 a2) := by
  unfold State.i2cWrite
  try extract_lets -merge -underBinder t0 t1 t2
  try clear_value t0
  try clear_value t1
  try clear_value t2
  with_reducible refine Touches.ite ?_ ?_
  ·
    with_reducible exact Touches.refl _ _
  ·
    split
    ·
      with_reducible refine Touches.ite ?_ ?_
      ·
        with_reducible refine Touches.step ?_ (State.keyWrite_touches _ _ _ ?_)
        on_goal 2 => exact Part.within_trans rfl hw
        with_reducible exact Touches.refl _ _
      ·
        with_reducible refine Touches.ite ?_ ?_
        ·
          with_reducible refine Touches.step ?_ (State.sysRst_touches _ _ _ _ ?_)
          on_goal 2 => exact Part.within_trans rfl hw
          with_reducible exact Touches.refl _ _
        ·
          with_reducible refine Touches.step ?_ (State.wordWrite_touches _ _ _ _ _ ?_)
          on_goal 2 => exact Part.within_trans rfl hw
          with_reducible exact Touches.refl _ _
    ·
      with_reducible refine Touches.step ?_ (State.wordWrite_touches _ _ _ _ _ ?_)
      on_goal 2 => exact Part.within_trans rfl hw
      with_reducible exact Touches.refl _ _

theorem State.i2cWrites_touches {ps : List Part} (s : State) (a : Nat) (l : List I2cGroup) (hw : Part.within [.variant, .fused, .clk, .ready, .keys, .regs, .mbx, .rd, .rdI2c, .evt, .pers, .hif, .index, .objs, .lanes, .grps, .sw, .fab, .bpm, .fdb, .tcore, .tchans, .lnk, .ref, .free, .pll, .gnss, .tic, .cal, .eng, .spad, .pair, .pwr, .boot, .flash, .pending, .counters] ps = true) :
    Touches ps s (s.i2cWrites a l) := by
  induction l generalizing s a with
  | nil => exact Touches.refl _ _
  | cons g l ih =>
    unfold State.i2cWrites
    exact Touches.ite (Touches.refl _ _) ((State.i2cWrite_touches _ _ _ (Part.within_trans rfl hw)).step (ih _ _))

theorem State.i2cReads_touches {ps : List Part} (s : State) (a n : Nat) (hw : Part.within [.keys, .mbx, .rd, .rdI2c, .free, .counters] ps = true) : Touches ps s (s.i2cReads a n).1 := by
  induction n using Nat.strong_induction_on generalizing s a with
  | _ n ih =>
    match n, ih with
    | 0, _ => exact Touches.refl _ _
    | 1, _ => exact State.busRead_touches _ _ _ _ (Part.within_trans rfl hw)
    | n + 2, ih =>
      unfold State.i2cReads
      split
      · exact (State.busRead_touches _ _ _ _ (Part.within_trans rfl hw)).step (ih (n + 1) (by omega) _ _)
      · exact (State.busRead_touches _ _ _ _ (Part.within_trans rfl hw)).step (ih n (by omega) _ _)
theorem State.i2cRead_touches {ps : List Part} (s : State) (a n : Nat) (hw : Part.within [.keys, .mbx, .rd, .rdI2c, .free, .counters] ps = true) : Touches ps s (s.i2cRead a n) := by
  unfold State.i2cRead
  extract_lets b m r
  have hr : Touches ps s r.1 := State.i2cReads_touches _ _ _ hw
  clear_value r
  exact Touches.ite (Touches.refl _ _) (Touches.mk hw hr)

theorem State.keyUnlockExpire_touches {ps : List Part} s a1 (hw : Part.within [.keys] ps = true) : Touches ps s (State.keyUnlockExpire s a1) := by
  unfold State.keyUnlockExpire
  try extract_lets -merge -underBinder t0
  with_reducible refine Touches.set_keys ?_ ?_
  on_goal 2 => exact Part.within_mem rfl hw
  with_reducible exact Touches.refl _ _

theorem State.idleApply_touches {ps : List Part} s a1 (hw : Part.within [.regs, .evt, .hif, .lanes, .tchans, .lnk, .free, .cal, .rc .evtPinStat, .rc .evtSuppressed, .rc .hifEvtLost, .rc .laneAdptStat] ps = true) : Touches ps s (State.idleApply s a1) := by
  unfold State.idleApply
  try extract_lets -merge -underBinder t0 t1
  refine Touches.haveS (t := t0) ?_ (fun ht0 => ?_)
  ·
    unfold t0
    with_reducible refine Touches.step ?_ (State.laneIdl_touches _ _ ?_)
    on_goal 2 => exact Part.within_trans rfl hw
    with_reducible exact Touches.refl _ _
  try clear_value t0
  try clear_value t1
  with_reducible refine Touches.ite ?_ ?_
  ·
    with_reducible exact Touches.refl _ _
  ·
    with_reducible refine Touches.ite ?_ ?_
    ·
      with_reducible exact ht0
    ·
      with_reducible refine Touches.ite ?_ ?_
      ·
        with_reducible refine Touches.ite ?_ ?_
        ·
          with_reducible refine Touches.step ?_ (State.setLane_touches _ _ _ ?_)
          on_goal 2 => exact Part.within_trans rfl hw
          with_reducible exact ht0
        ·
          with_reducible refine Touches.step ?_ (State.laneSetCode_touches _ _ _ ?_)
          on_goal 2 => exact Part.within_trans rfl hw
          with_reducible exact ht0
      ·
        split
        ·
          with_reducible refine Touches.step ?_ (State.laneStep_touches _ _ _ ?_)
          on_goal 2 => exact Part.within_trans rfl hw
          with_reducible exact ht0
        ·
          with_reducible exact ht0

theorem State.scrubWord_touches {ps : List Part} s a1 (hw : Part.within [.regs, .evt, .hif, .rc .evtPinStat, .rc .evtSuppressed, .rc .hifEvtLost] ps = true) : Touches ps s (State.scrubWord s a1) := by
  unfold State.scrubWord
  split
  ·
    with_reducible exact Touches.refl _ _
  ·
    try extract_lets -merge -underBinder t0 t1
    refine Touches.haveS (t := t1) ?_ (fun ht1 => ?_)
    ·
      unfold t1
      with_reducible refine Touches.ite ?_ ?_
      ·
        with_reducible exact Touches.refl _ _
      ·
        with_reducible refine Touches.step ?_ (State.raise_touches _ _ _ _ _ ?_)
        on_goal 2 => exact Part.within_trans rfl hw
        with_reducible refine Touches.set_regs ?_ ?_
        on_goal 2 => exact Part.within_mem rfl hw
        with_reducible exact Touches.refl _ _
    try clear_value t1
    with_reducible refine Touches.ite ?_ ?_
    ·
      with_reducible exact Touches.refl _ _
    ·
      with_reducible refine Touches.step ?_ (State.dropPending_touches _ _ ?_)
      on_goal 2 => exact Part.within_trans rfl hw
      with_reducible exact ht1

theorem State.cfgScrubPass_touches {ps : List Part} s a1 (hw : Part.within [.regs, .evt, .hif, .rc .evtPinStat, .rc .evtSuppressed, .rc .hifEvtLost] ps = true) : Touches ps s (State.cfgScrubPass s a1) := by
  unfold State.cfgScrubPass
  with_reducible refine Touches.foldl (fun _ _ => ?_) _ ?_
  ·
    with_reducible refine Touches.step ?_ (State.scrubWord_touches _ _ ?_)
    on_goal 2 => exact Part.within_trans rfl hw
    with_reducible exact Touches.refl _ _
  ·
    with_reducible exact Touches.refl _ _

theorem State.unitStop_touches {ps : List Part} s a1 (hw : Part.within [.clk, .ready, .keys, .regs, .evt, .hif, .index, .objs, .lanes, .sw, .fab, .bpm, .fdb, .tcore, .tchans, .lnk, .ref, .free, .pll, .gnss, .tic, .cal, .eng, .pair, .pwr, .boot, .rc .bpmDoubleFreeCnt, .rc .bpmForeignFreeCnt, .rc .bpmPoolEmptyCnt, .rc .bpmPromoteCnt, .rc .calAbortCnt, .rc .evtPinStat, .rc .evtSuppressed, .rc .gnssLossCnt, .rc .hifEvtLost, .rc .hifRingAborted, .rc .pairMirOvf, .rc .pairPromoteCnt, .rc .perfTagDrop, .rc .pllCnt, .rc .portHoldFlush, .rc .pwrWakeSrc, .rc .ticTmoCnt] ps = true) : Touches ps s (State.unitStop s a1) := by
  unfold State.unitStop
  try extract_lets -merge -underBinder t0 t1 t2
  refine Touches.haveS (t := t1) ?_ (fun ht1 => ?_)
  ·
    unfold t1
    with_reducible refine Touches.set_regs ?_ ?_
    on_goal 2 => exact Part.within_mem rfl hw
    with_reducible exact Touches.refl _ _
  try clear_value t1
  try dsimp only [t2]
  split
  ·
    with_reducible refine Touches.step ?_ (State.laneStop_touches _ _ ?_)
    on_goal 2 => exact Part.within_trans rfl hw
    with_reducible exact ht1
  ·
    with_reducible refine Touches.foldl (fun _ _ => ?_) _ ?_
    ·
      with_reducible refine Touches.step ?_ (State.laneStop_touches _ _ ?_)
      on_goal 2 => exact Part.within_trans rfl hw
      with_reducible exact Touches.refl _ _
    ·
      with_reducible exact ht1
  ·
    with_reducible refine Touches.step ?_ (State.portLoss_touches _ _ ?_)
    on_goal 2 => exact Part.within_trans rfl hw
    with_reducible exact ht1
  ·
    with_reducible refine Touches.step ?_ (State.chansChanged_touches _ _ ?_)
    on_goal 2 => exact Part.within_trans rfl hw
    with_reducible exact ht1
  ·
    with_reducible refine Touches.step ?_ (State.gnssRebind_touches _ _ _ ?_)
    on_goal 2 => exact Part.within_trans rfl hw
    with_reducible exact ht1
  ·
    with_reducible refine Touches.step ?_ (State.ticAbandon_touches _ _ ?_)
    on_goal 2 => exact Part.within_trans rfl hw
    with_reducible exact ht1
  ·
    with_reducible refine Touches.step ?_ (State.engReady_touches _ ?_)
    on_goal 2 => exact Part.within_trans rfl hw
    with_reducible refine Touches.ite ?_ ?_
    ·
      with_reducible refine Touches.step ?_ (State.engLeaves_touches _ _ _ ?_)
      on_goal 2 => exact Part.within_trans rfl hw
      with_reducible refine Touches.step ?_ (State.goEng_touches _ _ _ ?_)
      on_goal 2 => exact Part.within_trans rfl hw
      with_reducible exact ht1
    ·
      with_reducible exact ht1
  ·
    with_reducible refine Touches.step ?_ (State.setReady_touches _ _ _ ?_)
    on_goal 2 => exact Part.within_trans rfl hw
    with_reducible refine Touches.step ?_ (State.lnkEvalAll_touches _ ?_)
    on_goal 2 => exact Part.within_trans rfl hw
    with_reducible exact ht1
  ·
    with_reducible refine Touches.step ?_ (State.setReady_touches _ _ _ ?_)
    on_goal 2 => exact Part.within_trans rfl hw
    with_reducible refine Touches.step ?_ (State.ticDown_touches _ ?_)
    on_goal 2 => exact Part.within_trans rfl hw
    with_reducible exact ht1
  ·
    with_reducible refine Touches.step ?_ (State.gnssDown_touches _ _ ?_)
    on_goal 2 => exact Part.within_trans rfl hw
    with_reducible exact ht1
  ·
    with_reducible refine Touches.step ?_ (State.setReady_touches _ _ _ ?_)
    on_goal 2 => exact Part.within_trans rfl hw
    with_reducible refine Touches.step ?_ (State.pairCommit_touches _ ?_)
    on_goal 2 => exact Part.within_trans rfl hw
    with_reducible exact ht1
  ·
    with_reducible refine Touches.step ?_ (State.setReady_touches _ _ _ ?_)
    on_goal 2 => exact Part.within_trans rfl hw
    with_reducible refine Touches.foldl (fun _ _ => ?_) _ ?_
    ·
      with_reducible refine Touches.ite ?_ ?_
      ·
        with_reducible refine Touches.step ?_ (State.engLeaves_touches _ _ _ ?_)
        on_goal 2 => exact Part.within_trans rfl hw
        with_reducible refine Touches.step ?_ (State.goEng_touches _ _ _ ?_)
        on_goal 2 => exact Part.within_trans rfl hw
        with_reducible exact Touches.refl _ _
      ·
        with_reducible exact Touches.refl _ _
    ·
      with_reducible exact ht1
  ·
    with_reducible exact ht1
  ·
    with_reducible refine Touches.ite ?_ ?_
    ·
      with_reducible exact ht1
    ·
      split
      ·
        with_reducible refine Touches.step ?_ (State.setReady_touches _ _ _ ?_)
        on_goal 2 => exact Part.within_trans rfl hw
        with_reducible exact ht1
      ·
        with_reducible exact ht1

theorem State.appliedCopyError_touches {ps : List Part} s a1 a2 (hw : Part.within [.clk, .ready, .keys, .regs, .evt, .hif, .index, .objs, .lanes, .sw, .fab, .bpm, .fdb, .tcore, .tchans, .lnk, .ref, .free, .pll, .gnss, .tic, .cal, .eng, .pair, .pwr, .boot, .rc .bpmDoubleFreeCnt, .rc .bpmForeignFreeCnt, .rc .bpmPoolEmptyCnt, .rc .bpmPromoteCnt, .rc .calAbortCnt, .rc .evtPinStat, .rc .evtSuppressed, .rc .gnssLossCnt, .rc .hifEvtLost, .rc .hifRingAborted, .rc .pairMirOvf, .rc .pairPromoteCnt, .rc .perfTagDrop, .rc .pllCnt, .rc .portHoldFlush, .rc .pwrWakeSrc, .rc .refHoldoffCnt, .rc .ticTmoCnt] ps = true) : Touches ps s (State.appliedCopyError s a1 a2) := by
  unfold State.appliedCopyError
  split
  ·
    with_reducible exact Touches.refl _ _
  ·
    with_reducible refine Touches.ite ?_ ?_
    ·
      with_reducible exact Touches.refl _ _
    ·
      with_reducible refine Touches.ite ?_ ?_
      ·
        with_reducible refine Touches.step ?_ (State.raise_touches _ _ _ _ _ ?_)
        on_goal 2 => exact Part.within_trans rfl hw
        with_reducible refine Touches.step ?_ (State.regActs_touches _ _ _ ?_)
        on_goal 2 => exact Part.within_trans rfl hw
        with_reducible refine Touches.step ?_ (State.copyBits_touches _ _ _ ?_)
        on_goal 2 => exact Part.within_trans rfl hw
        with_reducible exact Touches.refl _ _
      ·
        with_reducible refine Touches.step ?_ (State.raise_touches _ _ _ _ _ ?_)
        on_goal 2 => exact Part.within_trans rfl hw
        with_reducible refine Touches.step ?_ (State.regActs_touches _ _ _ ?_)
        on_goal 2 => exact Part.within_trans rfl hw
        with_reducible refine Touches.step ?_ (State.unitStop_touches _ _ ?_)
        on_goal 2 => exact Part.within_trans rfl hw
        with_reducible exact Touches.refl _ _

theorem State.pcieLinkUp_touches {ps : List Part} s a1 a2 a3 a4 a5 a6 (hw : Part.within [.ready, .evt, .hif, .rc .evtPinStat, .rc .evtSuppressed, .rc .hifEvtLost] ps = true) : Touches ps s (State.pcieLinkUp s a1 a2 a3 a4 a5 a6) := by
  unfold State.pcieLinkUp
  try extract_lets -merge -underBinder t0 t1
  refine Touches.haveS (t := t1) ?_ (fun ht1 => ?_)
  ·
    unfold t1
    with_reducible refine Touches.set_hif ?_ ?_
    on_goal 2 => exact Part.within_mem rfl hw
    with_reducible exact Touches.refl _ _
  try clear_value t1
  with_reducible refine Touches.ite ?_ ?_
  ·
    with_reducible exact Touches.refl _ _
  ·
    with_reducible refine Touches.step ?_ (State.setReady_touches _ _ _ ?_)
    on_goal 2 => exact Part.within_trans rfl hw
    with_reducible exact ht1

theorem State.txPass_touches {ps : List Part} s (hw : Part.within [.hif] ps = true) : Touches ps s (State.txPass s) := by
  unfold State.txPass
  try extract_lets -merge -underBinder t0 t1 t2 t3 t4 t5 t6
  try clear_value t0
  try clear_value t1
  refine Touches.haveS (t := t3) ?_ (fun ht3 => ?_)
  ·
    unfold t3
    with_reducible refine Touches.ite ?_ ?_
    ·
      with_reducible exact Touches.refl _ _
    ·
      with_reducible refine Touches.step ?_ (State.setRing_touches _ _ _ ?_)
      on_goal 2 => exact Part.within_trans rfl hw
      with_reducible exact Touches.refl _ _
  try clear_value t3
  refine Touches.haveS (t := t5) ?_ (fun ht5 => ?_)
  ·
    unfold t5
    with_reducible refine Touches.step ?_ (State.setRing_touches _ _ _ ?_)
    on_goal 2 => exact Part.within_trans rfl hw
    with_reducible exact ht3
  try clear_value t5
  with_reducible refine Touches.set_hif ?_ ?_
  on_goal 2 => exact Part.within_mem rfl hw
  with_reducible exact ht5

theorem State.txTurnGo_touches {ps : List Part} (s : State) (n l k : Nat) (hw : Part.within [.hif] ps = true) :
    Touches ps s (s.txTurnGo n l k).1 := by
  induction k generalizing s with
  | zero => exact Touches.refl _ _
  | succ k ih =>
    unfold State.txTurnGo
    extract_lets t
    split
    · exact State.setRing_touches _ _ _ (Part.within_trans rfl hw)
    · split
      · exact Touches.refl _ _
      · exact (State.txPass_touches _ (Part.within_trans rfl hw)).step (ih _)
theorem State.takeTurn_touches {ps : List Part} (s : State) (n : Nat) (f : Fetched) (hw : Part.within [.hif] ps = true) :
    Touches ps s (s.takeTurn n f).1 := by
  unfold State.takeTurn
  split
  · exact State.txTurnGo_touches _ _ _ _ (Part.within_trans rfl hw)
  · exact Touches.refl _ _

theorem State.rxTaken_touches {ps : List Part} s a1 a2 (hw : Part.within [.hif, .rc .hifRingAborted] ps = true) : Touches ps s (State.rxTaken s a1 a2) := by
  unfold State.rxTaken
  try extract_lets -merge -underBinder t0
  with_reducible refine Touches.ite ?_ ?_
  ·
    with_reducible refine Touches.step ?_ (State.rxCpl_touches _ _ _ _ _ _ _ _ _ _ _ _ ?_)
    on_goal 2 => exact Part.within_trans rfl hw
    with_reducible refine Touches.step ?_ (State.setRing_touches _ _ _ ?_)
    on_goal 2 => exact Part.within_trans rfl hw
    with_reducible exact Touches.refl _ _
  ·
    with_reducible exact Touches.refl _ _

theorem State.descTake_touches {ps : List Part} (s : State) (n : Nat) (raw ext : List Byte) (hw : Part.within [.hif, .fab, .rc .hifRingAborted, .rc .portDownDisc] ps = true) :
    Touches ps s (s.descTake n raw ext) := by
  unfold State.descTake
  extract_lets r m k f u src s1 src2 s2
  refine Touches.ite (Touches.refl _ _) (Touches.ite (State.setRing_touches _ _ _ (Part.within_trans rfl hw)) ?_)
  have hu : Touches ps s u.1 := (State.setRing_touches _ _ _ (Part.within_trans rfl hw)).step
    (State.takeTurn_touches _ n f (Part.within_trans rfl hw))
  clear_value u
  refine Touches.ite hu ?_
  have h2 : Touches ps s s2 := (hu.step (State.setRing_touches _ _ _ (Part.within_trans rfl hw))).step
    (State.setRing_touches _ _ _ (Part.within_trans rfl hw))
  clear_value s2
  exact Touches.ite (h2.step (State.txTaken_touches _ _ _ (Part.within_trans rfl hw)))
    (Touches.ite (h2.step (State.rxTaken_touches _ _ _ (Part.within_trans rfl hw))) (h2.step (State.unlistedGo_touches _ _ _ (Part.within_trans rfl hw))))

theorem State.tchanMake_touches {ps : List Part} s a1 (hw : Part.within [.evt, .hif, .index, .objs, .tchans, .lnk, .tic, .cal, .boot, .rc .calAbortCnt, .rc .evtPinStat, .rc .evtSuppressed, .rc .hifEvtLost, .rc .hifRingAborted] ps = true) : Touches ps s (State.tchanMake s a1) := by
  unfold State.tchanMake
  try extract_lets -merge -underBinder t0 t1 t2
  try clear_value t0
  try clear_value t1
  try clear_value t2
  split
  ·
    with_reducible refine Touches.step ?_ (State.complete_touches _ _ _ _ _ _ _ ?_)
    on_goal 2 => exact Part.within_trans rfl hw
    with_reducible exact Touches.refl _ _
  ·
    with_reducible refine Touches.ite ?_ ?_
    ·
      with_reducible refine Touches.step ?_ (State.complete_touches _ _ _ _ _ _ _ ?_)
      on_goal 2 => exact Part.within_trans rfl hw
      with_reducible exact Touches.refl _ _
    ·
      split
      ·
        with_reducible refine Touches.step ?_ (State.complete_touches _ _ _ _ _ _ _ ?_)
        on_goal 2 => exact Part.within_trans rfl hw
        with_reducible exact Touches.refl _ _
      ·
        try extract_lets -merge -underBinder t3 t4
        refine Touches.haveS (t := t3) ?_ (fun ht3 => ?_)
        ·
          unfold t3
          with_reducible refine Touches.step ?_ (State.setTchan_touches _ _ _ ?_)
          on_goal 2 => exact Part.within_trans rfl hw
          with_reducible refine Touches.step ?_ (State.addObj_touches _ _ _ _ ?_)
          on_goal 2 => exact Part.within_trans rfl hw
          with_reducible exact Touches.refl _ _
        try clear_value t3
        refine Touches.haveS (t := t4) ?_ (fun ht4 => ?_)
        ·
          unfold t4
          with_reducible refine Touches.step ?_ (State.chansChanged_touches _ _ ?_)
          on_goal 2 => exact Part.within_trans rfl hw
          with_reducible exact ht3
        try clear_value t4
        with_reducible refine Touches.step ?_ (State.complete_touches _ _ _ _ _ _ _ ?_)
        on_goal 2 => exact Part.within_trans rfl hw
        with_reducible exact ht4

end Sys2Proof.Machine
end

