-- ==== Sys2Proof/Laws/Frames6.lean ====
section
/-! SUPPORT. What each operation of the machine may change, part 6 of 6: one lemma for one operation, in the order in which the
operations build on one another.  Every other part of the state is the same after it. -/

set_option Elab.async false

namespace Sys2Proof.Machine

theorem State.tchanCreate_touches {ps : List Part} s a1 (hw : Part.within [.keys, .evt, .hif, .index, .objs, .tchans, .lnk, .tic, .cal, .boot, .rc .calAbortCnt, .rc .evtPinStat, .rc .evtSuppressed, .rc .hifEvtLost, .rc .hifRingAborted] ps = true) : Touches ps s (State.tchanCreate s a1) := by
  unfold State.tchanCreate
  with_reducible refine Touches.step ?_ (State.runCmd_touches _ _ _ _ _ ?_ (fun _ => ?_))
  on_goal 2 => exact Part.within_trans rfl hw
  ·
    with_reducible exact Touches.refl _ _
  ·
    with_reducible refine Touches.ite ?_ ?_
    ·
      with_reducible refine Touches.step ?_ (State.complete_touches _ _ _ _ _ _ _ ?_)
      on_goal 2 => exact Part.within_trans rfl hw
      with_reducible exact Touches.refl _ _
    ·
      with_reducible refine Touches.step ?_ (State.tchanMake_touches _ _ ?_)
      on_goal 2 => exact Part.within_trans rfl hw
      with_reducible exact Touches.refl _ _

theorem State.searchCreate_touches {ps : List Part} s a1 (hw : Part.within [.keys, .hif, .index, .objs, .gnss, .boot, .rc .hifRingAborted] ps = true) : Touches ps s (State.searchCreate s a1) := by
  unfold State.searchCreate
  with_reducible refine Touches.step ?_ (State.runCmd_touches _ _ _ _ _ ?_ (fun _ => ?_))
  on_goal 2 => exact Part.within_trans rfl hw
  ·
    with_reducible exact Touches.refl _ _
  ·
    split
    ·
      with_reducible refine Touches.step ?_ (State.complete_touches _ _ _ _ _ _ _ ?_)
      on_goal 2 => exact Part.within_trans rfl hw
      with_reducible exact Touches.refl _ _
    ·
      try extract_lets -merge -underBinder t0
      refine Touches.haveS (t := t0) ?_ (fun ht0 => ?_)
      ·
        unfold t0
        with_reducible refine Touches.step ?_ (State.searchMake_touches _ _ _ ?_)
        on_goal 2 => exact Part.within_trans rfl hw
        with_reducible exact Touches.refl _ _
      try clear_value t0
      with_reducible refine Touches.step ?_ (State.complete_touches _ _ _ _ _ _ _ ?_)
      on_goal 2 => exact Part.within_trans rfl hw
      with_reducible exact ht0

theorem State.elecIdleEntry_touches {ps : List Part} s a1 a2 (hw : Part.within [.clk, .regs, .evt, .hif, .lanes, .sw, .fab, .bpm, .fdb, .tcore, .tchans, .lnk, .ref, .free, .pll, .tic, .cal, .eng, .pair, .pwr, .rc .bpmDoubleFreeCnt, .rc .bpmForeignFreeCnt, .rc .bpmPoolEmptyCnt, .rc .bpmPromoteCnt, .rc .calAbortCnt, .rc .evtPinStat, .rc .evtSuppressed, .rc .hifEvtLost, .rc .hifRingAborted, .rc .laneAdptStat, .rc .pairMirOvf, .rc .perfTagDrop, .rc .pllCnt, .rc .portHoldFlush, .rc .pwrWakeSrc] ps = true) : Touches ps s (State.elecIdleEntry s a1 a2) := by
  unfold State.elecIdleEntry
  try extract_lets -merge -underBinder t0 t1 t2
  refine Touches.haveS (t := t0) ?_ (fun ht0 => ?_)
  ·
    unfold t0
    with_reducible refine Touches.step ?_ (State.laneUnlock_touches _ _ ?_)
    on_goal 2 => exact Part.within_trans rfl hw
    with_reducible exact Touches.refl _ _
  try clear_value t0
  try clear_value t1
  refine Touches.haveS (t := t2) ?_ (fun ht2 => ?_)
  ·
    unfold t2
    with_reducible refine Touches.step ?_ (State.setLane_touches _ _ _ ?_)
    on_goal 2 => exact Part.within_trans rfl hw
    with_reducible exact ht0
  try clear_value t2
  with_reducible refine Touches.ite ?_ ?_
  ·
    with_reducible exact Touches.refl _ _
  ·
    with_reducible refine Touches.step ?_ (State.idleApply_touches _ _ ?_)
    on_goal 2 => exact Part.within_trans rfl hw
    with_reducible refine Touches.step ?_ (State.calLose_touches _ _ ?_)
    on_goal 2 => exact Part.within_trans rfl hw
    with_reducible exact ht2

theorem State.elecIdleExit_touches {ps : List Part} s a1 a2 a3 (hw : Part.within [.clk, .regs, .evt, .hif, .lanes, .sw, .fab, .bpm, .fdb, .tcore, .tchans, .lnk, .ref, .free, .pll, .tic, .cal, .eng, .pair, .pwr, .rc .bpmDoubleFreeCnt, .rc .bpmForeignFreeCnt, .rc .bpmPoolEmptyCnt, .rc .bpmPromoteCnt, .rc .calAbortCnt, .rc .evtPinStat, .rc .evtSuppressed, .rc .hifEvtLost, .rc .hifRingAborted, .rc .pairMirOvf, .rc .perfTagDrop, .rc .pllCnt, .rc .portHoldFlush, .rc .pwrWakeSrc] ps = true) : Touches ps s (State.elecIdleExit s a1 a2 a3) := by
  unfold State.elecIdleExit
  try extract_lets -merge -underBinder t0 t1 t2
  try clear_value t0
  refine Touches.haveS (t := t1) ?_ (fun ht1 => ?_)
  ·
    unfold t1
    with_reducible refine Touches.step ?_ (State.setLane_touches _ _ _ ?_)
    on_goal 2 => exact Part.within_trans rfl hw
    with_reducible exact Touches.refl _ _
  try clear_value t1
  with_reducible refine Touches.ite ?_ ?_
  ·
    with_reducible exact Touches.refl _ _
  ·
    with_reducible refine Touches.ite ?_ ?_
    ·
      with_reducible exact ht1
    ·
      with_reducible refine Touches.ite ?_ ?_
      ·
        with_reducible refine Touches.step ?_ (State.setLane_touches _ _ _ ?_)
        on_goal 2 => exact Part.within_trans rfl hw
        with_reducible exact ht1
      ·
        with_reducible refine Touches.step ?_ (State.retrain_touches _ _ ?_)
        on_goal 2 => exact Part.within_trans rfl hw
        with_reducible exact ht1

theorem State.blockLock_touches {ps : List Part} s a1 a2 a3 (hw : Part.within [.ready, .regs, .evt, .hif, .lanes, .grps, .fab, .tchans, .tic, .cal, .rc .calAbortCnt, .rc .evtPinStat, .rc .evtSuppressed, .rc .hifEvtLost, .rc .laneExitCnt, .rc .portHoldResume] ps = true) : Touches ps s (State.blockLock s a1 a2 a3) := by
  unfold State.blockLock
  try extract_lets -merge -underBinder t0 t1 t2 t3 t4 t5 t6 t7 t8 t9
  try clear_value t0
  try clear_value t1
  refine Touches.haveS (t := t2) ?_ (fun ht2 => ?_)
  ·
    unfold t2
    with_reducible refine Touches.ite ?_ ?_
    ·
      with_reducible refine Touches.step ?_ (State.bump_touches _ _ _ _ ?_)
      on_goal 2 => exact Part.within_trans rfl hw
      with_reducible exact Touches.refl _ _
    ·
      with_reducible exact Touches.refl _ _
  try clear_value t2
  refine Touches.haveS (t := t3) ?_ (fun ht3 => ?_)
  ·
    unfold t3
    with_reducible refine Touches.step ?_ (State.setLane_touches _ _ _ ?_)
    on_goal 2 => exact Part.within_trans rfl hw
    with_reducible exact ht2
  try clear_value t3
  refine Touches.haveS (t := t4) ?_ (fun ht4 => ?_)
  ·
    unfold t4
    with_reducible refine Touches.step ?_ (State.lanePublish_touches _ _ _ _ ?_)
    on_goal 2 => exact Part.within_trans rfl hw
    with_reducible exact ht3
  try clear_value t4
  refine Touches.haveS (t := t6) ?_ (fun ht6 => ?_)
  ·
    unfold t6
    with_reducible refine Touches.ite ?_ ?_
    ·
      with_reducible refine Touches.step ?_ (State.setGrp_touches _ _ _ ?_)
      on_goal 2 => exact Part.within_trans rfl hw
      with_reducible exact ht4
    ·
      with_reducible exact ht4
  try clear_value t6
  try clear_value t7
  refine Touches.haveS (t := t8) ?_ (fun ht8 => ?_)
  ·
    unfold t8
    with_reducible refine Touches.ite ?_ ?_
    ·
      with_reducible exact ht6
    ·
      with_reducible refine Touches.step ?_ (State.calLose_touches _ _ ?_)
      on_goal 2 => exact Part.within_trans rfl hw
      with_reducible exact ht6
  try clear_value t8
  refine Touches.haveS (t := t9) ?_ (fun ht9 => ?_)
  ·
    unfold t9
    with_reducible refine Touches.step ?_ (State.portChansListen_touches _ _ ?_)
    on_goal 2 => exact Part.within_trans rfl hw
    with_reducible exact ht8
  try clear_value t9
  with_reducible refine Touches.ite ?_ ?_
  ·
    with_reducible exact Touches.refl _ _
  ·
    with_reducible refine Touches.ite ?_ ?_
    ·
      with_reducible exact ht8
    ·
      with_reducible refine Touches.ite ?_ ?_
      ·
        with_reducible exact ht9
      ·
        with_reducible refine Touches.step ?_ (State.grpCheck_touches _ _ ?_)
        on_goal 2 => exact Part.within_trans rfl hw
        with_reducible refine Touches.step ?_ (State.portUp_touches _ _ ?_)
        on_goal 2 => exact Part.within_trans rfl hw
        with_reducible exact ht9

theorem State.laneGrpDrainEnd_touches {ps : List Part} s a1 (hw : Part.within [.clk, .regs, .evt, .hif, .lanes, .grps, .sw, .fab, .bpm, .fdb, .tcore, .tchans, .lnk, .ref, .free, .pll, .tic, .cal, .eng, .pair, .pwr, .counters] ps = true) : Touches ps s (State.laneGrpDrainEnd s a1) := by
  unfold State.laneGrpDrainEnd
  with_reducible refine Touches.ite ?_ ?_
  ·
    with_reducible refine Touches.step ?_ (State.grpRemoved_touches _ _ _ ?_)
    on_goal 2 => exact Part.within_trans rfl hw
    with_reducible exact Touches.refl _ _
  ·
    with_reducible exact Touches.refl _ _

theorem State.laneNoSignalTimeout_touches {ps : List Part} s a1 (hw : Part.within [.ready, .regs, .evt, .hif, .lanes, .grps, .cal, .rc .evtPinStat, .rc .evtSuppressed, .rc .hifEvtLost] ps = true) : Touches ps s (State.laneNoSignalTimeout s a1) := by
  unfold State.laneNoSignalTimeout
  try extract_lets -merge -underBinder t0
  try clear_value t0
  with_reducible refine Touches.ite ?_ ?_
  ·
    with_reducible exact Touches.refl _ _
  ·
    with_reducible refine Touches.step ?_ (State.grpCheck_touches _ _ ?_)
    on_goal 2 => exact Part.within_trans rfl hw
    with_reducible refine Touches.step ?_ (State.setLane_touches _ _ _ ?_)
    on_goal 2 => exact Part.within_trans rfl hw
    with_reducible exact Touches.refl _ _

theorem State.canaryWindow_touches {ps : List Part} s a1 a2 (hw : Part.within [.ready, .evt, .hif, .sw, .rc .evtPinStat, .rc .evtSuppressed, .rc .hifEvtLost] ps = true) : Touches ps s (State.canaryWindow s a1 a2) := by
  unfold State.canaryWindow
  try extract_lets -merge -underBinder t0 t1 t2 t3 t4 t5 t6 t7 t8 t9 t10 t11
  try clear_value t0
  try clear_value t1
  try clear_value t2
  try clear_value t3
  try clear_value t4
  try clear_value t5
  try clear_value t6
  try clear_value t7
  refine Touches.haveS (t := t9) ?_ (fun ht9 => ?_)
  ·
    unfold t9
    with_reducible refine Touches.set_sw ?_ ?_
    on_goal 2 => exact Part.within_mem rfl hw
    with_reducible exact Touches.refl _ _
  try clear_value t9
  refine Touches.haveS (t := t10) ?_ (fun ht10 => ?_)
  ·
    unfold t10
    with_reducible refine Touches.foldl (fun _ _ => ?_) _ ?_
    ·
      with_reducible refine Touches.step ?_ (State.raise_touches _ _ _ _ _ ?_)
      on_goal 2 => exact Part.within_trans rfl hw
      with_reducible exact Touches.refl _ _
    ·
      with_reducible exact ht9
  try clear_value t10
  refine Touches.haveS (t := t11) ?_ (fun ht11 => ?_)
  ·
    unfold t11
    with_reducible refine Touches.ite ?_ ?_
    ·
      with_reducible refine Touches.step ?_ (State.vddMax_touches _ ?_)
      on_goal 2 => exact Part.within_trans rfl hw
      with_reducible exact ht10
    ·
      with_reducible refine Touches.step ?_ (State.setReady_touches _ _ _ ?_)
      on_goal 2 => exact Part.within_trans rfl hw
      with_reducible refine Touches.step ?_ (State.setReady_touches _ _ _ ?_)
      on_goal 2 => exact Part.within_trans rfl hw
      with_reducible refine Touches.step ?_ (State.setReady_touches _ _ _ ?_)
      on_goal 2 => exact Part.within_trans rfl hw
      with_reducible exact ht10
  try clear_value t11
  with_reducible refine Touches.step ?_ (State.floorCheck_touches _ ?_)
  on_goal 2 => exact Part.within_trans rfl hw
  with_reducible refine Touches.step ?_ (State.vddRaise_touches _ ?_)
  on_goal 2 => exact Part.within_trans rfl hw
  with_reducible exact ht11

theorem State.vddLowerTick_touches {ps : List Part} s (hw : Part.within [.sw] ps = true) : Touches ps s (State.vddLowerTick s) := by
  unfold State.vddLowerTick
  with_reducible refine Touches.ite ?_ ?_
  ·
    with_reducible refine Touches.step ?_ (State.vddWrite_touches _ _ ?_)
    on_goal 2 => exact Part.within_trans rfl hw
    with_reducible exact Touches.refl _ _
  ·
    with_reducible exact Touches.refl _ _

theorem State.avsStatus_touches {ps : List Part} s a1 a2 (hw : Part.within [.evt, .hif, .sw, .rc .evtPinStat, .rc .evtSuppressed, .rc .hifEvtLost] ps = true) : Touches ps s (State.avsStatus s a1 a2) := by
  unfold State.avsStatus
  try extract_lets -merge -underBinder t0
  with_reducible refine Touches.step ?_ (State.vddRead_touches _ _ ?_)
  on_goal 2 => exact Part.within_trans rfl hw
  with_reducible refine Touches.set_sw ?_ ?_
  on_goal 2 => exact Part.within_mem rfl hw
  with_reducible exact Touches.refl _ _

theorem State.lookupDone_touches {ps : List Part} (s : State) (f : Nat) (fr : Frame) (d : Decision) (hw : Part.within [.fab, .fdb, .eng, .counters] ps = true) :
    Touches ps s (s.lookupDone f fr d) := by
  unfold State.lookupDone
  extract_lets -underBinder s1 s2 s3
  have h1 : Touches ps s s1 := by
    unfold s1
    refine Touches.step ?_ (State.tagStage_touches _ _ _ (Part.within_trans rfl hw))
    split
    · exact State.bump_touches _ _ _ _ (Part.within_counters _ (Part.within_trans rfl hw))
    · exact Touches.refl _ _
  have h2 : Touches ps s s2 := by
    unfold s2
    split
    · exact Touches.set_fdb h1 (Part.within_mem rfl hw)
    · exact h1
  exact Touches.foldl (fun _ _ => State.makeCopy_touches _ _ _ _ _ (Part.within_trans rfl hw)) _
    (h2.step (State.setFrame_touches _ _ _ (Part.within_trans rfl hw)))

theorem State.forwardLookup_touches {ps : List Part} (s : State) (f : Nat) (hw : Part.within [.fab, .fdb, .eng, .counters] ps = true) : Touches ps s (s.forwardLookup f) := by
  unfold State.forwardLookup
  split
  · exact Touches.refl _ _
  · refine Touches.ite (Touches.refl _ _) (Touches.ite ?_ ?_)
    · exact (State.setFrame_touches _ _ _ (Part.within_trans rfl hw)).step (State.mirrorFrame_touches _ _ _ _ (Part.within_trans rfl hw))
    · exact (State.lookupDone_touches _ _ _ _ (Part.within_trans rfl hw)).step (State.mirrorFrame_touches _ _ _ _ (Part.within_trans rfl hw))

theorem State.fcsFail_touches {ps : List Part} s a1 a2 (hw : Part.within [.evt, .hif, .sw, .fab, .bpm, .fdb, .free, .eng, .rc .bpmDoubleFreeCnt, .rc .bpmForeignFreeCnt, .rc .bpmPoolEmptyCnt, .rc .bpmPromoteCnt, .rc .evtPinStat, .rc .evtSuppressed, .rc .hifEvtLost, .rc .perfTagDrop] ps = true) : Touches ps s (State.fcsFail s a1 a2) := by
  unfold State.fcsFail
  try extract_lets -merge -underBinder t0 t1 t2
  refine Touches.haveS (t := t1) ?_ (fun ht1 => ?_)
  ·
    unfold t1
    with_reducible refine Touches.step ?_ (State.setPort_touches _ _ _ ?_)
    on_goal 2 => exact Part.within_trans rfl hw
    with_reducible exact Touches.refl _ _
  try clear_value t1
  refine Touches.haveS (t := t2) ?_ (fun ht2 => ?_)
  ·
    unfold t2
    with_reducible refine Touches.ite ?_ ?_
    ·
      with_reducible exact ht1
    ·
      with_reducible refine Touches.foldl (fun _ _ => ?_) _ ?_
      ·
        try extract_lets -merge -underBinder t3
        with_reducible refine Touches.step ?_ (State.setRing_touches _ _ _ ?_)
        on_goal 2 => exact Part.within_trans rfl hw
        with_reducible exact Touches.refl _ _
      ·
        with_reducible exact ht1
  try clear_value t2
  with_reducible refine Touches.step ?_ (State.afterFree_touches _ ?_)
  on_goal 2 => exact Part.within_trans rfl hw
  with_reducible refine Touches.step ?_ (State.dropFrame_touches _ _ ?_)
  on_goal 2 => exact Part.within_trans rfl hw
  with_reducible exact ht2

theorem State.cbRecover_touches {ps : List Part} (s : State) (fr : Frame) (hw : Part.within [.fdb] ps = true) : Touches ps s (s.cbRecover fr).1 := by
  unfold State.cbRecover
  split
  · split
    · exact Touches.refl _ _
    · exact State.cbKeep_touches _ _ _ _ (Part.within_trans rfl hw)
  · exact Touches.refl _ _

theorem State.policeHost_touches {ps : List Part} (s : State) (fr : Frame) (c : Nat)
    (hw : Part.within [.sw, .fab, .rc .portFlowNonconf] ps = true) : Touches ps s (s.policeHost fr c) := by
  unfold State.policeHost
  split
  · exact Touches.refl _ _
  · extract_lets r
    have hr : Touches ps s r.1 := by
      unfold r; split
      · exact State.police_touches _ _ _ _ (Part.within_trans rfl hw)
      · exact Touches.refl _ _
    refine Touches.ite hr ?_
    split
    · exact hr.step (State.setCopy_touches _ _ _ (Part.within_trans rfl hw))
    · exact hr

theorem State.frameEligible_touches {ps : List Part} (s : State) (f : Nat) (ok : Bool) (hw : Part.within [.evt, .hif, .sw, .fab, .bpm, .fdb, .free, .eng, .rc .bpmDoubleFreeCnt, .rc .bpmForeignFreeCnt, .rc .bpmPoolEmptyCnt, .rc .bpmPromoteCnt, .rc .evtPinStat, .rc .evtSuppressed, .rc .fdbLearnSkip, .rc .hifEvtLost, .rc .hifRingAborted, .rc .perfTagDrop, .rc .portFlowNonconf, .rc .portMtuDisc] ps = true) :
    Touches ps s (s.frameEligible f ok) := by
  unfold State.frameEligible
  split
  · exact Touches.refl _ _
  · refine Touches.ite (Touches.refl _ _) (Touches.ite (State.fcsFail_touches _ _ _ (Part.within_trans rfl hw)) (Touches.ite (Touches.refl _ _) ?_))
    extract_lets -underBinder fr1 r cs s3 s4 s5 s6
    have h2 : Touches ps s r.1 := ((State.setFrame_touches _ _ _ (Part.within_trans rfl hw)).step
      (State.tagStage_touches _ _ _ (Part.within_trans rfl hw))).step (State.cbRecover_touches _ _ (Part.within_trans rfl hw))
    clear_value r
    have h3 : Touches ps s s3 := by
      unfold s3
      refine Touches.ite (h2.step (State.cbGenerate_touches _ _ _ (Part.within_trans rfl hw))) (Touches.foldl (fun u c => ?_) _ h2)
      split
      · exact Touches.ite (Touches.refl _ _) (State.removeCopy_touches _ _ (Part.within_trans rfl hw))
      · exact Touches.refl _ _
    clear_value s3
    have h4 : Touches ps s s4 := Touches.ite (Touches.foldl (fun _ _ => State.policeHost_touches _ _ _ (Part.within_trans rfl hw)) _ h3) h3
    have h5 : Touches ps s s5 := Touches.foldl (fun _ _ => State.enqueue_touches _ _ _ _ (Part.within_trans rfl hw)) _ h4
    have h6 : Touches ps s s6 := Touches.ite (h5.step (State.queueLearn_touches _ _ (Part.within_trans rfl hw))) h5
    clear_value s6
    exact (h6.step (State.frameGone_touches _ _ (Part.within_trans rfl hw))).step (State.afterFree_touches _ (Part.within_trans rfl hw))

theorem State.cbRecoveryReset_touches {ps : List Part} s a1 (hw : Part.within [.fdb] ps = true) : Touches ps s (State.cbRecoveryReset s a1) := by
  unfold State.cbRecoveryReset
  split
  ·
    with_reducible exact Touches.refl _ _
  ·
    with_reducible refine Touches.ite ?_ ?_
    ·
      with_reducible exact Touches.refl _ _
    ·
      with_reducible refine Touches.step ?_ (State.setCb_touches _ _ _ ?_)
      on_goal 2 => exact Part.within_trans rfl hw
      with_reducible exact Touches.refl _ _

theorem State.egressSfd_touches {ps : List Part} (s : State) (p : Nat) (m : Int) (hw : Part.within [.evt, .hif, .fab, .tcore, .lnk, .free, .tic, .cal, .eng, .rc .calAbortCnt, .rc .evtPinStat, .rc .evtSuppressed, .rc .hifEvtLost, .rc .hifRingAborted, .rc .lnkSnapErr, .rc .perfTagDrop, .rc .tcoreOnestepSkip] ps = true) :
    Touches ps s (s.egressSfd p m) := by
  unfold State.egressSfd
  split
  · exact Touches.refl _ _
  · split
    · exact Touches.refl _ _
    · refine Touches.ite (Touches.refl _ _) ?_
      extract_lets -underBinder l s1 ts kind event oneStep s2 tc src s3 y s4 s5
      have h1 : Touches ps s s1 := State.latchAt_touches _ _ _ _ (Part.within_trans rfl hw)
      have h2 : Touches ps s s2 := Touches.ite (h1.step (State.bump_touches _ _ _ _ (Part.within_trans rfl hw))) h1
      have h3 : Touches ps s s3 := Touches.ite (h2.step (State.setPortPtp_touches _ _ _ (Part.within_trans rfl hw))) h2
      have h4 : Touches ps s s4 := h3.step (State.setPort_touches _ _ _ (Part.within_trans rfl hw))
      have h5 : Touches ps s s5 := by
        unfold s5
        split
        · exact h4.step (State.tsRecord_touches _ _ _ _ _ (Part.within_trans rfl hw))
        · exact h4
      clear_value s5
      exact (Touches.ite h5 (h5.step (State.tagCopy_touches _ _ _ (Part.within_trans rfl hw)))).step
        (State.setCopy_touches _ _ _ (Part.within_trans rfl hw))

theorem State.pfcRefresh_touches {ps : List Part} s a1 (hw : Part.within [.fab] ps = true) : Touches ps s (State.pfcRefresh s a1) := by
  unfold State.pfcRefresh
  try extract_lets -merge -underBinder t0
  try clear_value t0
  with_reducible refine Touches.ite ?_ ?_
  ·
    with_reducible exact Touches.refl _ _
  ·
    with_reducible refine Touches.step ?_ (State.setPort_touches _ _ _ ?_)
    on_goal 2 => exact Part.within_trans rfl hw
    with_reducible exact Touches.refl _ _

theorem State.sqDeadlineExpire_touches {ps : List Part} s a1 (hw : Part.within [.evt, .hif, .sw, .fab, .bpm, .fdb, .free, .eng, .rc .bpmDoubleFreeCnt, .rc .bpmForeignFreeCnt, .rc .bpmPoolEmptyCnt, .rc .bpmPromoteCnt, .rc .evtPinStat, .rc .evtSuppressed, .rc .hifEvtLost, .rc .hifRingAborted, .rc .perfTagDrop, .rc .portDeadlineExpired] ps = true) : Touches ps s (State.sqDeadlineExpire s a1) := by
  unfold State.sqDeadlineExpire
  split
  ·
    with_reducible exact Touches.refl _ _
  ·
    try extract_lets -merge -underBinder t0 t1
    refine Touches.haveS (t := t0) ?_ (fun ht0 => ?_)
    ·
      unfold t0
      with_reducible refine Touches.step ?_ (State.removeCopy_touches _ _ ?_)
      on_goal 2 => exact Part.within_trans rfl hw
      with_reducible refine Touches.step ?_ (State.bump_touches _ _ _ _ ?_)
      on_goal 2 => exact Part.within_trans rfl hw
      with_reducible refine Touches.step ?_ (State.tsLost_touches _ _ _ ?_)
      on_goal 2 => exact Part.within_trans rfl hw
      with_reducible exact Touches.refl _ _
    try clear_value t0
    try clear_value t1
    with_reducible refine Touches.ite ?_ ?_
    ·
      with_reducible exact Touches.refl _ _
    ·
      with_reducible refine Touches.step ?_ (State.afterFree_touches _ ?_)
      on_goal 2 => exact Part.within_trans rfl hw
      with_reducible refine Touches.step ?_ (State.raiseIf_touches _ _ _ _ _ _ ?_)
      on_goal 2 => exact Part.within_trans rfl hw
      with_reducible refine Touches.step ?_ (State.setPort_touches _ _ _ ?_)
      on_goal 2 => exact Part.within_trans rfl hw
      with_reducible exact ht0

theorem State.gclActivate_touches {ps : List Part} s a1 (hw : Part.within [.evt, .hif, .fab, .rc .evtPinStat, .rc .evtSuppressed, .rc .hifEvtLost] ps = true) : Touches ps s (State.gclActivate s a1) := by
  unfold State.gclActivate
  try extract_lets -merge -underBinder t0
  try clear_value t0
  split
  ·
    with_reducible exact Touches.refl _ _
  ·
    try extract_lets -merge -underBinder t1
    try clear_value t1
    with_reducible refine Touches.step ?_ (State.raise_touches _ _ _ _ _ ?_)
    on_goal 2 => exact Part.within_trans rfl hw
    with_reducible refine Touches.step ?_ (State.preempt_touches _ _ _ ?_)
    on_goal 2 => exact Part.within_trans rfl hw
    with_reducible refine Touches.step ?_ (State.setPort_touches _ _ _ ?_)
    on_goal 2 => exact Part.within_trans rfl hw
    with_reducible exact Touches.refl _ _

theorem State.gclGet_touches {ps : List Part} s a1 (hw : Part.within [.keys, .hif, .boot, .rc .hifRingAborted] ps = true) : Touches ps s (State.gclGet s a1) := by
  unfold State.gclGet
  try extract_lets -merge -underBinder t0 t1 t2
  try clear_value t0
  try clear_value t1
  try clear_value t2
  with_reducible refine Touches.step ?_ (State.runCmd_touches _ _ _ _ _ ?_ (fun _ => ?_))
  on_goal 2 => exact Part.within_trans rfl hw
  ·
    with_reducible exact Touches.refl _ _
  ·
    split
    ·
      with_reducible refine Touches.step ?_ (State.complete_touches _ _ _ _ _ _ _ ?_)
      on_goal 2 => exact Part.within_trans rfl hw
      with_reducible exact Touches.refl _ _
    ·
      with_reducible refine Touches.step ?_ (State.complete_touches _ _ _ _ _ _ _ ?_)
      on_goal 2 => exact Part.within_trans rfl hw
      with_reducible exact Touches.refl _ _

theorem State.storeRebuildDone_touches {ps : List Part} s a1 (hw : Part.within [.evt, .hif, .sw, .fab, .bpm, .rc .bpmDoubleFreeCnt, .rc .bpmForeignFreeCnt, .rc .bpmPoolEmptyCnt, .rc .bpmPromoteCnt, .rc .evtPinStat, .rc .evtSuppressed, .rc .hifEvtLost] ps = true) : Touches ps s (State.storeRebuildDone s a1) := by
  unfold State.storeRebuildDone
  try extract_lets -merge -underBinder t0
  try clear_value t0
  with_reducible refine Touches.ite ?_ ?_
  ·
    with_reducible exact Touches.refl _ _
  ·
    with_reducible refine Touches.step ?_ (State.afterFree_touches _ ?_)
    on_goal 2 => exact Part.within_trans rfl hw
    with_reducible refine Touches.step ?_ (State.queuedFrees_touches _ _ ?_)
    on_goal 2 => exact Part.within_trans rfl hw
    with_reducible refine Touches.step ?_ (State.setPool_touches _ _ _ ?_)
    on_goal 2 => exact Part.within_trans rfl hw
    with_reducible exact Touches.refl _ _

theorem State.bpmCarve_touches {ps : List Part} s a1 (hw : Part.within [.keys, .evt, .hif, .sw, .fab, .bpm, .boot, .rc .bpmDoubleFreeCnt, .rc .bpmForeignFreeCnt, .rc .bpmPoolEmptyCnt, .rc .bpmPromoteCnt, .rc .evtPinStat, .rc .evtSuppressed, .rc .hifEvtLost, .rc .hifRingAborted] ps = true) : Touches ps s (State.bpmCarve s a1) := by
  unfold State.bpmCarve
  try extract_lets -merge -underBinder t0 t1 t2
  try clear_value t0
  try clear_value t2
  with_reducible refine Touches.step ?_ (State.runCmd_touches _ _ _ _ _ ?_ (fun _ => ?_))
  on_goal 2 => exact Part.within_trans rfl hw
  ·
    with_reducible exact Touches.refl _ _
  ·
    try extract_lets -merge -underBinder t3 t4 t5 t6 t7
    refine Touches.haveS (t := t4) ?_ (fun ht4 => ?_)
    ·
      unfold t4
      with_reducible refine Touches.set_bpm ?_ ?_
      on_goal 2 => exact Part.within_mem rfl hw
      with_reducible exact Touches.refl _ _
    try clear_value t4
    try clear_value t5
    refine Touches.haveS (t := t7) ?_ (fun ht7 => ?_)
    ·
      unfold t7
      with_reducible refine Touches.set_bpm ?_ ?_
      on_goal 2 => exact Part.within_mem rfl hw
      with_reducible exact ht4
    try clear_value t7
    with_reducible refine Touches.ite ?_ ?_
    ·
      with_reducible refine Touches.step ?_ (State.complete_touches _ _ _ _ _ _ _ ?_)
      on_goal 2 => exact Part.within_trans rfl hw
      with_reducible exact Touches.refl _ _
    ·
      with_reducible refine Touches.ite ?_ ?_
      ·
        with_reducible refine Touches.step ?_ (State.complete_touches _ _ _ _ _ _ _ ?_)
        on_goal 2 => exact Part.within_trans rfl hw
        with_reducible exact Touches.refl _ _
      ·
        with_reducible refine Touches.ite ?_ ?_
        ·
          with_reducible refine Touches.step ?_ (State.carveEffect_touches _ ?_)
          on_goal 2 => exact Part.within_trans rfl hw
          with_reducible exact ht7
        ·
          with_reducible refine Touches.step ?_ (State.xoffUpdate_touches _ ?_)
          on_goal 2 => exact Part.within_trans rfl hw
          with_reducible exact ht7

theorem State.fdbAgeVisit_touches {ps : List Part} s a1 a2 (hw : Part.within [.evt, .hif, .fdb, .pair, .rc .evtPinStat, .rc .evtSuppressed, .rc .fdbAgedCnt, .rc .fdbLearnSkip, .rc .hifEvtLost, .rc .pairMirOvf] ps = true) : Touches ps s (State.fdbAgeVisit s a1 a2) := by
  unfold State.fdbAgeVisit
  split
  ·
    with_reducible exact Touches.refl _ _
  ·
    try extract_lets -merge -underBinder t0
    with_reducible refine Touches.ite ?_ ?_
    ·
      with_reducible exact Touches.refl _ _
    ·
      with_reducible refine Touches.ite ?_ ?_
      ·
        with_reducible refine Touches.set_fdb ?_ ?_
        on_goal 2 => exact Part.within_mem rfl hw
        with_reducible exact Touches.refl _ _
      ·
        with_reducible refine Touches.ite ?_ ?_
        ·
          with_reducible exact Touches.refl _ _
        ·
          with_reducible refine Touches.ite ?_ ?_
          ·
            with_reducible refine Touches.step ?_ (State.bump_touches _ _ _ _ ?_)
            on_goal 2 => exact Part.within_trans rfl hw
            with_reducible exact Touches.refl _ _
          ·
            with_reducible refine Touches.step ?_ (State.fdbMirror_touches _ _ _ _ _ ?_)
            on_goal 2 => exact Part.within_trans rfl hw
            with_reducible refine Touches.step ?_ (State.bump_touches _ _ _ _ ?_)
            on_goal 2 => exact Part.within_trans rfl hw
            with_reducible refine Touches.step ?_ (State.fdbRemove_touches _ _ _ ?_)
            on_goal 2 => exact Part.within_trans rfl hw
            with_reducible exact Touches.refl _ _

theorem State.fdbAdd_touches {ps : List Part} (s : State) (d : CmdDesc) (hw : Part.within [.keys, .evt, .hif, .fdb, .boot, .rc .evtPinStat, .rc .evtSuppressed, .rc .fdbLearnFail, .rc .hifEvtLost, .rc .hifRingAborted] ps = true) : Touches ps s (s.fdbAdd d) := by
  unfold State.fdbAdd
  extract_lets -underBinder mac vid dest grp p c
  refine State.runCmd_touches _ _ _ _ _ (Part.within_trans rfl hw) (fun u => ?_)
  extract_lets -underBinder e k done
  have hd : ∀ t, Touches ps t (done t) := fun t => State.complete_touches _ _ _ _ _ _ _ (Part.within_trans rfl hw)
  refine Touches.ite (State.complete_touches _ _ _ _ _ _ _ (Part.within_trans rfl hw)) ?_
  split
  · exact (State.fdbPut_touches _ _ _ _ (Part.within_trans rfl hw)).step (hd _)
  · split
    · next t ht => exact (State.fdbInsert_touches _ _ _ _ (Part.within_trans rfl hw) ht).step (hd _)
    · exact (State.fdbFull_touches _ (Part.within_trans rfl hw)).step (State.complete_touches _ _ _ _ _ _ _ (Part.within_trans rfl hw))

theorem State.fdbDel_touches {ps : List Part} s a1 (hw : Part.within [.keys, .evt, .hif, .fdb, .boot, .rc .evtPinStat, .rc .evtSuppressed, .rc .hifEvtLost, .rc .hifRingAborted] ps = true) : Touches ps s (State.fdbDel s a1) := by
  unfold State.fdbDel
  try extract_lets -merge -underBinder t0 t1 t2
  try clear_value t0
  try clear_value t1
  with_reducible refine Touches.step ?_ (State.runCmd_touches _ _ _ _ _ ?_ (fun _ => ?_))
  on_goal 2 => exact Part.within_trans rfl hw
  ·
    with_reducible exact Touches.refl _ _
  ·
    try extract_lets -merge -underBinder t3
    refine Touches.haveS (t := t3) ?_ (fun ht3 => ?_)
    ·
      unfold t3
      with_reducible refine Touches.step ?_ (State.fdbRemove_touches _ _ _ ?_)
      on_goal 2 => exact Part.within_trans rfl hw
      with_reducible exact Touches.refl _ _
    try clear_value t3
    with_reducible refine Touches.ite ?_ ?_
    ·
      with_reducible refine Touches.step ?_ (State.complete_touches _ _ _ _ _ _ _ ?_)
      on_goal 2 => exact Part.within_trans rfl hw
      with_reducible exact Touches.refl _ _
    ·
      with_reducible refine Touches.step ?_ (State.complete_touches _ _ _ _ _ _ _ ?_)
      on_goal 2 => exact Part.within_trans rfl hw
      with_reducible exact ht3

theorem State.fdbMcgSet_touches {ps : List Part} s a1 (hw : Part.within [.keys, .evt, .hif, .fdb, .boot, .rc .evtPinStat, .rc .evtSuppressed, .rc .hifEvtLost, .rc .hifRingAborted] ps = true) : Touches ps s (State.fdbMcgSet s a1) := by
  unfold State.fdbMcgSet
  try extract_lets -merge -underBinder t0 t1 t2
  try clear_value t0
  try clear_value t1
  try clear_value t2
  with_reducible refine Touches.step ?_ (State.runCmd_touches _ _ _ _ _ ?_ (fun _ => ?_))
  on_goal 2 => exact Part.within_trans rfl hw
  ·
    with_reducible exact Touches.refl _ _
  ·
    try extract_lets -merge -underBinder t3 t4
    refine Touches.haveS (t := t3) ?_ (fun ht3 => ?_)
    ·
      unfold t3
      with_reducible refine Touches.step ?_ (State.bumpVersion_touches _ _ ?_)
      on_goal 2 => exact Part.within_trans rfl hw
      with_reducible exact Touches.refl _ _
    try clear_value t3
    with_reducible refine Touches.ite ?_ ?_
    ·
      with_reducible refine Touches.step ?_ (State.complete_touches _ _ _ _ _ _ _ ?_)
      on_goal 2 => exact Part.within_trans rfl hw
      with_reducible exact Touches.refl _ _
    ·
      with_reducible refine Touches.step ?_ (State.complete_touches _ _ _ _ _ _ _ ?_)
      on_goal 2 => exact Part.within_trans rfl hw
      with_reducible refine Touches.set_fdb ?_ ?_
      on_goal 2 => exact Part.within_mem rfl hw
      with_reducible exact ht3

theorem State.fdbClsDel_touches {ps : List Part} s a1 (hw : Part.within [.keys, .evt, .hif, .fdb, .boot, .rc .evtPinStat, .rc .evtSuppressed, .rc .hifEvtLost, .rc .hifRingAborted] ps = true) : Touches ps s (State.fdbClsDel s a1) := by
  unfold State.fdbClsDel
  try extract_lets -merge -underBinder t0 t1
  try clear_value t0
  with_reducible refine Touches.step ?_ (State.runCmd_touches _ _ _ _ _ ?_ (fun _ => ?_))
  on_goal 2 => exact Part.within_trans rfl hw
  ·
    with_reducible exact Touches.refl _ _
  ·
    try extract_lets -merge -underBinder t2 t3
    refine Touches.haveS (t := t2) ?_ (fun ht2 => ?_)
    ·
      unfold t2
      with_reducible refine Touches.step ?_ (State.bumpVersion_touches _ _ ?_)
      on_goal 2 => exact Part.within_trans rfl hw
      with_reducible exact Touches.refl _ _
    try clear_value t2
    with_reducible refine Touches.ite ?_ ?_
    ·
      with_reducible refine Touches.step ?_ (State.complete_touches _ _ _ _ _ _ _ ?_)
      on_goal 2 => exact Part.within_trans rfl hw
      with_reducible exact Touches.refl _ _
    ·
      with_reducible refine Touches.ite ?_ ?_
      ·
        with_reducible refine Touches.step ?_ (State.complete_touches _ _ _ _ _ _ _ ?_)
        on_goal 2 => exact Part.within_trans rfl hw
        with_reducible exact Touches.refl _ _
      ·
        with_reducible refine Touches.step ?_ (State.complete_touches _ _ _ _ _ _ _ ?_)
        on_goal 2 => exact Part.within_trans rfl hw
        with_reducible refine Touches.set_fdb ?_ ?_
        on_goal 2 => exact Part.within_mem rfl hw
        with_reducible exact ht2

theorem State.fdbCbSet_touches {ps : List Part} s a1 (hw : Part.within [.keys, .evt, .hif, .fdb, .boot, .rc .evtPinStat, .rc .evtSuppressed, .rc .hifEvtLost, .rc .hifRingAborted] ps = true) : Touches ps s (State.fdbCbSet s a1) := by
  unfold State.fdbCbSet
  try extract_lets -merge -underBinder t0 t1 t2 t3
  try clear_value t0
  try clear_value t1
  try clear_value t2
  try clear_value t3
  with_reducible refine Touches.step ?_ (State.runCmd_touches _ _ _ _ _ ?_ (fun _ => ?_))
  on_goal 2 => exact Part.within_trans rfl hw
  ·
    with_reducible exact Touches.refl _ _
  ·
    try extract_lets -merge -underBinder t4 t5 t6 t7
    try clear_value t4
    refine Touches.haveS (t := t5) ?_ (fun ht5 => ?_)
    ·
      unfold t5
      with_reducible refine Touches.step ?_ (State.bumpVersion_touches _ _ ?_)
      on_goal 2 => exact Part.within_trans rfl hw
      with_reducible exact Touches.refl _ _
    try clear_value t5
    refine Touches.haveS (t := t7) ?_ (fun ht7 => ?_)
    ·
      unfold t7
      with_reducible refine Touches.ite ?_ ?_
      ·
        with_reducible refine Touches.set_fdb ?_ ?_
        on_goal 2 => exact Part.within_mem rfl hw
        with_reducible exact ht5
      ·
        with_reducible refine Touches.step ?_ (State.setCb_touches _ _ _ ?_)
        on_goal 2 => exact Part.within_trans rfl hw
        with_reducible exact ht5
    try clear_value t7
    with_reducible refine Touches.ite ?_ ?_
    ·
      with_reducible refine Touches.step ?_ (State.complete_touches _ _ _ _ _ _ _ ?_)
      on_goal 2 => exact Part.within_trans rfl hw
      with_reducible exact Touches.refl _ _
    ·
      with_reducible refine Touches.step ?_ (State.complete_touches _ _ _ _ _ _ _ ?_)
      on_goal 2 => exact Part.within_trans rfl hw
      with_reducible exact ht7

theorem State.coreFault_touches {ps : List Part} s (hw : Part.within [.clk, .evt, .hif, .fab, .tcore, .pll, .rc .evtPinStat, .rc .evtSuppressed, .rc .hifEvtLost] ps = true) : Touches ps s (State.coreFault s) := by
  unfold State.coreFault
  try extract_lets -merge -underBinder t0 t1 t2
  try clear_value t0
  refine Touches.haveS (t := t1) ?_ (fun ht1 => ?_)
  ·
    unfold t1
    with_reducible refine Touches.step ?_ (State.swapCores_touches _ ?_)
    on_goal 2 => exact Part.within_trans rfl hw
    with_reducible refine Touches.step ?_ (State.swapDrop_touches _ _ ?_)
    on_goal 2 => exact Part.within_trans rfl hw
    with_reducible exact Touches.refl _ _
  try clear_value t1
  with_reducible refine Touches.ite ?_ ?_
  ·
    with_reducible refine Touches.step ?_ (State.raise_touches _ _ _ _ _ ?_)
    on_goal 2 => exact Part.within_trans rfl hw
    with_reducible refine Touches.set_tcore ?_ ?_
    on_goal 2 => exact Part.within_mem rfl hw
    with_reducible exact ht1
  ·
    with_reducible refine Touches.step ?_ (State.raise_touches _ _ _ _ _ ?_)
    on_goal 2 => exact Part.within_trans rfl hw
    with_reducible exact Touches.refl _ _

theorem State.standbyTrackLoss_touches {ps : List Part} s a1 (hw : Part.within [.clk, .evt, .hif, .tcore, .cal, .rc .evtPinStat, .rc .evtSuppressed, .rc .hifEvtLost] ps = true) : Touches ps s (State.standbyTrackLoss s a1) := by
  unfold State.standbyTrackLoss
  try extract_lets -merge -underBinder t0 t1 t2
  refine Touches.haveS (t := t0) ?_ (fun ht0 => ?_)
  ·
    unfold t0
    with_reducible refine Touches.step ?_ (State.compared_touches _ _ ?_)
    on_goal 2 => exact Part.within_trans rfl hw
    with_reducible exact Touches.refl _ _
  try clear_value t0
  refine Touches.haveS (t := t2) ?_ (fun ht2 => ?_)
  ·
    unfold t2
    with_reducible refine Touches.set_tcore ?_ ?_
    on_goal 2 => exact Part.within_mem rfl hw
    with_reducible exact ht0
  try clear_value t2
  with_reducible refine Touches.ite ?_ ?_
  ·
    with_reducible exact Touches.refl _ _
  ·
    with_reducible refine Touches.step ?_ (State.swapDrop_touches _ _ ?_)
    on_goal 2 => exact Part.within_trans rfl hw
    with_reducible refine Touches.step ?_ (State.raiseIf_touches _ _ _ _ _ _ ?_)
    on_goal 2 => exact Part.within_trans rfl hw
    with_reducible exact ht2

theorem State.servoSample_touches {ps : List Part} s a1 (hw : Part.within [.clk, .keys, .regs, .evt, .hif, .index, .objs, .lanes, .grps, .sw, .fab, .bpm, .fdb, .tcore, .tchans, .lnk, .ref, .free, .pll, .tic, .cal, .eng, .pair, .pwr, .boot, .rc .bpmDoubleFreeCnt, .rc .bpmForeignFreeCnt, .rc .bpmPoolEmptyCnt, .rc .bpmPromoteCnt, .rc .calAbortCnt, .rc .evtPinStat, .rc .evtSuppressed, .rc .hifEvtLost, .rc .hifRingAborted, .rc .pairMirOvf, .rc .pairPromoteCnt, .rc .perfTagDrop, .rc .pllCnt, .rc .portHoldFlush, .rc .pwrWakeSrc] ps = true) : Touches ps s (State.servoSample s a1) := by
  unfold State.servoSample
  split
  ·
    with_reducible refine Touches.step ?_ (State.timeSample_touches _ _ _ ?_)
    on_goal 2 => exact Part.within_trans rfl hw
    with_reducible exact Touches.refl _ _
  ·
    with_reducible exact Touches.refl _ _

theorem State.timeStep_touches {ps : List Part} s a1 (hw : Part.within [.clk, .keys, .regs, .evt, .hif, .index, .objs, .lanes, .grps, .sw, .fab, .bpm, .fdb, .tcore, .tchans, .lnk, .ref, .free, .pll, .tic, .cal, .eng, .pair, .pwr, .boot, .rc .bpmDoubleFreeCnt, .rc .bpmForeignFreeCnt, .rc .bpmPoolEmptyCnt, .rc .bpmPromoteCnt, .rc .calAbortCnt, .rc .evtPinStat, .rc .evtSuppressed, .rc .hifEvtLost, .rc .hifRingAborted, .rc .pairMirOvf, .rc .pairPromoteCnt, .rc .perfTagDrop, .rc .pllCnt, .rc .portHoldFlush, .rc .pwrWakeSrc] ps = true) : Touches ps s (State.timeStep s a1) := by
  unfold State.timeStep
  try extract_lets -merge -underBinder t0
  try clear_value t0
  with_reducible refine Touches.step ?_ (State.runCmd_touches _ _ _ _ _ ?_ (fun _ => ?_))
  on_goal 2 => exact Part.within_trans rfl hw
  ·
    with_reducible exact Touches.refl _ _
  ·
    try extract_lets -merge -underBinder t1
    with_reducible refine Touches.ite ?_ ?_
    ·
      with_reducible refine Touches.step ?_ (State.complete_touches _ _ _ _ _ _ _ ?_)
      on_goal 2 => exact Part.within_trans rfl hw
      with_reducible exact Touches.refl _ _
    ·
      with_reducible refine Touches.ite ?_ ?_
      ·
        with_reducible refine Touches.set_tcore ?_ ?_
        on_goal 2 => exact Part.within_mem rfl hw
        with_reducible exact Touches.refl _ _
      ·
        with_reducible refine Touches.step ?_ (State.stepNow_touches _ _ ?_)
        on_goal 2 => exact Part.within_trans rfl hw
        with_reducible exact Touches.refl _ _

theorem State.chanClosed_touches {ps : List Part} s a1 (hw : Part.within [.clk, .evt, .hif, .tcore, .tchans, .lnk, .ref, .pll, .eng, .pair, .pwr, .rc .evtPinStat, .rc .evtSuppressed, .rc .hifEvtLost, .rc .pairMirOvf, .rc .pllCnt, .rc .pwrWakeSrc] ps = true) : Touches ps s (State.chanClosed s a1) := by
  unfold State.chanClosed
  try extract_lets -merge -underBinder t0
  try clear_value t0
  with_reducible refine Touches.ite ?_ ?_
  ·
    with_reducible refine Touches.step ?_ (State.tchanMove_touches _ _ ?_)
    on_goal 2 => exact Part.within_trans rfl hw
    with_reducible exact Touches.refl _ _
  ·
    with_reducible exact Touches.refl _ _

theorem State.chanAsk_touches {ps : List Part} s a1 a2 a3 (hw : Part.within [.tchans] ps = true) : Touches ps s (State.chanAsk s a1 a2 a3) := by
  unfold State.chanAsk
  try extract_lets -merge -underBinder t0
  try clear_value t0
  with_reducible refine Touches.step ?_ (State.setTchan_touches _ _ _ ?_)
  on_goal 2 => exact Part.within_trans rfl hw
  with_reducible exact Touches.refl _ _

theorem State.chanSyncRx_touches {ps : List Part} s a1 a2 a3 (hw : Part.within [.evt, .hif, .tchans, .lnk, .ref, .pll, .eng, .rc .evtPinStat, .rc .evtSuppressed, .rc .hifEvtLost, .rc .pllCnt] ps = true) : Touches ps s (State.chanSyncRx s a1 a2 a3) := by
  unfold State.chanSyncRx
  try extract_lets -merge -underBinder t0 t1 t2 t3 t4 t5
  refine Touches.haveS (t := t0) ?_ (fun ht0 => ?_)
  ·
    unfold t0
    with_reducible refine Touches.step ?_ (State.chanHears_touches _ _ ?_)
    on_goal 2 => exact Part.within_trans rfl hw
    with_reducible exact Touches.refl _ _
  try clear_value t0
  try clear_value t1
  refine Touches.haveS (t := t2) ?_ (fun ht2 => ?_)
  ·
    unfold t2
    with_reducible refine Touches.ite ?_ ?_
    ·
      with_reducible refine Touches.step ?_ (State.masterChange_touches _ _ ?_)
      on_goal 2 => exact Part.within_trans rfl hw
      with_reducible exact ht0
    ·
      with_reducible exact ht0
  try clear_value t2
  try clear_value t3
  try clear_value t4
  refine Touches.haveS (t := t5) ?_ (fun ht5 => ?_)
  ·
    unfold t5
    with_reducible refine Touches.step ?_ (State.setTchan_touches _ _ _ ?_)
    on_goal 2 => exact Part.within_trans rfl hw
    with_reducible exact ht2
  try clear_value t5
  with_reducible refine Touches.ite ?_ ?_
  ·
    with_reducible exact ht5
  ·
    with_reducible refine Touches.step ?_ (State.pairsEval_touches _ _ ?_)
    on_goal 2 => exact Part.within_trans rfl hw
    with_reducible exact ht5

theorem State.chanFollowUp_touches {ps : List Part} s a1 a2 a3 (hw : Part.within [.tchans] ps = true) : Touches ps s (State.chanFollowUp s a1 a2 a3) := by
  unfold State.chanFollowUp
  try extract_lets -merge -underBinder t0
  try clear_value t0
  split
  ·
    with_reducible refine Touches.ite ?_ ?_
    ·
      with_reducible refine Touches.step ?_ (State.setTchan_touches _ _ _ ?_)
      on_goal 2 => exact Part.within_trans rfl hw
      with_reducible exact Touches.refl _ _
    ·
      with_reducible exact Touches.refl _ _
  ·
    with_reducible exact Touches.refl _ _

theorem State.pairSuspend_touches {ps : List Part} s a1 (hw : Part.within [.evt, .hif, .lnk, .tic, .cal, .rc .calAbortCnt, .rc .evtPinStat, .rc .evtSuppressed, .rc .hifEvtLost] ps = true) : Touches ps s (State.pairSuspend s a1) := by
  unfold State.pairSuspend
  try extract_lets -merge -underBinder t0 t1
  try clear_value t0
  try clear_value t1
  with_reducible refine Touches.ite ?_ ?_
  ·
    with_reducible refine Touches.step ?_ (State.setPair_touches _ _ _ ?_)
    on_goal 2 => exact Part.within_trans rfl hw
    with_reducible exact Touches.refl _ _
  ·
    with_reducible refine Touches.step ?_ (State.pairHold_touches _ _ ?_)
    on_goal 2 => exact Part.within_trans rfl hw
    with_reducible refine Touches.step ?_ (State.raise_touches _ _ _ _ _ ?_)
    on_goal 2 => exact Part.within_trans rfl hw
    with_reducible refine Touches.step ?_ (State.setPair_touches _ _ _ ?_)
    on_goal 2 => exact Part.within_trans rfl hw
    with_reducible exact Touches.refl _ _

theorem State.pairGood_touches {ps : List Part} s a1 a2 (hw : Part.within [.lnk] ps = true) : Touches ps s (State.pairGood s a1 a2) := by
  unfold State.pairGood
  try extract_lets -merge -underBinder t0 t1 t2 t3 t4 t5
  try clear_value t0
  try clear_value t1
  try clear_value t2
  try clear_value t3
  try clear_value t4
  try clear_value t5
  with_reducible refine Touches.ite ?_ ?_
  ·
    with_reducible refine Touches.step ?_ (State.setPair_touches _ _ _ ?_)
    on_goal 2 => exact Part.within_trans rfl hw
    with_reducible exact Touches.refl _ _
  ·
    with_reducible refine Touches.step ?_ (State.setPair_touches _ _ _ ?_)
    on_goal 2 => exact Part.within_trans rfl hw
    with_reducible exact Touches.refl _ _

theorem State.pairExchange_touches {ps : List Part} s a1 a2 a3 a4 a5 (hw : Part.within [.evt, .hif, .lnk, .tic, .cal, .rc .calAbortCnt, .rc .evtPinStat, .rc .evtSuppressed, .rc .hifEvtLost] ps = true) : Touches ps s (State.pairExchange s a1 a2 a3 a4 a5) := by
  unfold State.pairExchange
  split
  ·
    with_reducible exact Touches.refl _ _
  ·
    try extract_lets -merge -underBinder t0 t1 t2 t3 t4 t5
    try clear_value t0
    try clear_value t1
    try clear_value t2
    try clear_value t3
    refine Touches.haveS (t := t4) ?_ (fun ht4 => ?_)
    ·
      unfold t4
      with_reducible refine Touches.step ?_ (State.setPair_touches _ _ _ ?_)
      on_goal 2 => exact Part.within_trans rfl hw
      with_reducible exact Touches.refl _ _
    try clear_value t4
    try clear_value t5
    split
    ·
      try extract_lets -merge -underBinder t6 t7
      try clear_value t6
      try clear_value t7
      with_reducible refine Touches.ite ?_ ?_
      ·
        with_reducible refine Touches.ite ?_ ?_
        ·
          with_reducible refine Touches.step ?_ (State.pairSuspend_touches _ _ ?_)
          on_goal 2 => exact Part.within_trans rfl hw
          with_reducible exact ht4
        ·
          with_reducible refine Touches.step ?_ (State.pairGood_touches _ _ _ ?_)
          on_goal 2 => exact Part.within_trans rfl hw
          with_reducible exact ht4
      ·
        with_reducible exact ht4
    ·
      with_reducible exact ht4

theorem State.lnkTrack_touches {ps : List Part} s a1 a2 a3 (hw : Part.within [.evt, .hif, .lnk, .tic, .cal, .rc .calAbortCnt, .rc .evtPinStat, .rc .evtSuppressed, .rc .hifEvtLost] ps = true) : Touches ps s (State.lnkTrack s a1 a2 a3) := by
  unfold State.lnkTrack
  try extract_lets -merge -underBinder t0 t1 t2 t3
  try clear_value t0
  try clear_value t1
  try clear_value t2
  refine Touches.haveS (t := t3) ?_ (fun ht3 => ?_)
  ·
    unfold t3
    with_reducible refine Touches.step ?_ (State.setLnk_touches _ _ _ ?_)
    on_goal 2 => exact Part.within_trans rfl hw
    with_reducible exact Touches.refl _ _
  try clear_value t3
  with_reducible refine Touches.ite ?_ ?_
  ·
    with_reducible exact Touches.refl _ _
  ·
    with_reducible refine Touches.ite ?_ ?_
    ·
      with_reducible refine Touches.step ?_ (State.lnkGo_touches _ _ _ _ ?_)
      on_goal 2 => exact Part.within_trans rfl hw
      with_reducible exact ht3
    ·
      with_reducible exact ht3

theorem State.chanExchange_touches {ps : List Part} s a1 a2 a3 a4 a5 (hw : Part.within [.clk, .keys, .regs, .evt, .hif, .index, .objs, .lanes, .grps, .sw, .fab, .bpm, .fdb, .tcore, .tchans, .lnk, .ref, .free, .pll, .tic, .cal, .eng, .pair, .pwr, .boot, .rc .bpmDoubleFreeCnt, .rc .bpmForeignFreeCnt, .rc .bpmPoolEmptyCnt, .rc .bpmPromoteCnt, .rc .calAbortCnt, .rc .evtPinStat, .rc .evtSuppressed, .rc .hifEvtLost, .rc .hifRingAborted, .rc .lnkExchDrop, .rc .pairMirOvf, .rc .pairPromoteCnt, .rc .perfTagDrop, .rc .pllCnt, .rc .portHoldFlush, .rc .pwrWakeSrc] ps = true) : Touches ps s (State.chanExchange s a1 a2 a3 a4 a5) := by
  unfold State.chanExchange
  try extract_lets -merge -underBinder t0 t1 t2 t3 t4 t5 t6 t7 t8 t9 t10 t11 t12 t13 t14 t15 t16
  try clear_value t0
  try clear_value t1
  try clear_value t2
  try clear_value t3
  try clear_value t4
  try clear_value t5
  try clear_value t6
  try clear_value t7
  try clear_value t8
  refine Touches.haveS (t := t9) ?_ (fun ht9 => ?_)
  ·
    unfold t9
    with_reducible refine Touches.ite ?_ ?_
    ·
      with_reducible refine Touches.step ?_ (State.pairExchange_touches _ _ _ _ _ _ ?_)
      on_goal 2 => exact Part.within_trans rfl hw
      with_reducible exact Touches.refl _ _
    ·
      with_reducible refine Touches.step ?_ (State.setLnk_touches _ _ _ ?_)
      on_goal 2 => exact Part.within_trans rfl hw
      with_reducible exact Touches.refl _ _
  try clear_value t9
  try clear_value t10
  try clear_value t11
  refine Touches.haveS (t := t13) ?_ (fun ht13 => ?_)
  ·
    unfold t13
    with_reducible refine Touches.step ?_ (State.setLnk_touches _ _ _ ?_)
    on_goal 2 => exact Part.within_trans rfl hw
    with_reducible exact ht9
  try clear_value t13
  refine Touches.haveS (t := t14) ?_ (fun ht14 => ?_)
  ·
    unfold t14
    with_reducible refine Touches.ite ?_ ?_
    ·
      with_reducible refine Touches.step ?_ (State.lnkTrack_touches _ _ _ _ ?_)
      on_goal 2 => exact Part.within_trans rfl hw
      with_reducible exact ht13
    ·
      with_reducible exact ht13
  try clear_value t14
  try clear_value t15
  refine Touches.haveS (t := t16) ?_ (fun ht16 => ?_)
  ·
    unfold t16
    with_reducible refine Touches.set_tchans ?_ ?_
    on_goal 2 => exact Part.within_mem rfl hw
    with_reducible exact ht14
  try clear_value t16
  with_reducible refine Touches.ite ?_ ?_
  ·
    with_reducible refine Touches.step ?_ (State.bump_touches _ _ _ _ ?_)
    on_goal 2 => exact Part.within_trans rfl hw
    with_reducible exact Touches.refl _ _
  ·
    with_reducible refine Touches.step ?_ (State.timeSample_touches _ _ _ ?_)
    on_goal 2 => exact Part.within_trans rfl hw
    with_reducible exact ht16

theorem State.chanResp_touches {ps : List Part} s a1 a2 a3 (hw : Part.within [.clk, .keys, .regs, .evt, .hif, .index, .objs, .lanes, .grps, .sw, .fab, .bpm, .fdb, .tcore, .tchans, .lnk, .ref, .free, .pll, .tic, .cal, .eng, .pair, .pwr, .boot, .rc .bpmDoubleFreeCnt, .rc .bpmForeignFreeCnt, .rc .bpmPoolEmptyCnt, .rc .bpmPromoteCnt, .rc .calAbortCnt, .rc .evtPinStat, .rc .evtSuppressed, .rc .hifEvtLost, .rc .hifRingAborted, .rc .lnkExchDrop, .rc .pairMirOvf, .rc .pairPromoteCnt, .rc .perfTagDrop, .rc .pllCnt, .rc .portHoldFlush, .rc .pwrWakeSrc] ps = true) : Touches ps s (State.chanResp s a1 a2 a3) := by
  unfold State.chanResp
  try extract_lets -merge -underBinder t0 t1
  try clear_value t0
  refine Touches.haveS (t := t1) ?_ (fun ht1 => ?_)
  ·
    unfold t1
    with_reducible refine Touches.step ?_ (State.setTchan_touches _ _ _ ?_)
    on_goal 2 => exact Part.within_trans rfl hw
    with_reducible exact Touches.refl _ _
  try clear_value t1
  with_reducible refine Touches.ite ?_ ?_
  ·
    with_reducible exact Touches.refl _ _
  ·
    split
    ·
      with_reducible refine Touches.step ?_ (State.chanExchange_touches _ _ _ _ _ _ ?_)
      on_goal 2 => exact Part.within_trans rfl hw
      with_reducible exact ht1
    ·
      with_reducible exact ht1

theorem State.chanMessage_touches {ps : List Part} s a1 a2 a3 (hw : Part.within [.clk, .keys, .regs, .evt, .hif, .index, .objs, .lanes, .grps, .sw, .fab, .bpm, .fdb, .tcore, .tchans, .lnk, .ref, .free, .pll, .tic, .cal, .eng, .pair, .pwr, .boot, .rc .bpmDoubleFreeCnt, .rc .bpmForeignFreeCnt, .rc .bpmPoolEmptyCnt, .rc .bpmPromoteCnt, .rc .calAbortCnt, .rc .evtPinStat, .rc .evtSuppressed, .rc .hifEvtLost, .rc .hifRingAborted, .rc .lnkExchDrop, .rc .pairMirOvf, .rc .pairPromoteCnt, .rc .perfTagDrop, .rc .pllCnt, .rc .portHoldFlush, .rc .pwrWakeSrc, .rc .tcoreMsgDrop] ps = true) : Touches ps s (State.chanMessage s a1 a2 a3) := by
  unfold State.chanMessage
  try extract_lets -merge -underBinder t0 t1 t2 t3
  try clear_value t0
  try clear_value t1
  refine Touches.haveS (t := t2) ?_ (fun ht2 => ?_)
  ·
    unfold t2
    with_reducible refine Touches.step ?_ (State.setTchan_touches _ _ _ ?_)
    on_goal 2 => exact Part.within_trans rfl hw
    with_reducible exact Touches.refl _ _
  try clear_value t2
  refine Touches.haveS (t := t3) ?_ (fun ht3 => ?_)
  ·
    unfold t3
    with_reducible refine Touches.ite ?_ ?_
    ·
      with_reducible refine Touches.step ?_ (State.lnkTlv_touches _ _ _ ?_)
      on_goal 2 => exact Part.within_trans rfl hw
      with_reducible exact ht2
    ·
      with_reducible exact ht2
  try clear_value t3
  with_reducible refine Touches.ite ?_ ?_
  ·
    with_reducible refine Touches.step ?_ (State.bump_touches _ _ _ _ ?_)
    on_goal 2 => exact Part.within_trans rfl hw
    with_reducible exact Touches.refl _ _
  ·
    with_reducible refine Touches.ite ?_ ?_
    ·
      with_reducible refine Touches.ite ?_ ?_
      ·
        with_reducible refine Touches.step ?_ (State.chanAsk_touches _ _ _ _ ?_)
        on_goal 2 => exact Part.within_trans rfl hw
        with_reducible exact ht3
      ·
        with_reducible exact ht3
    ·
      split
      ·
        with_reducible refine Touches.step ?_ (State.chanSyncRx_touches _ _ _ _ ?_)
        on_goal 2 => exact Part.within_trans rfl hw
        with_reducible exact ht3
      ·
        with_reducible refine Touches.step ?_ (State.chanFollowUp_touches _ _ _ _ ?_)
        on_goal 2 => exact Part.within_trans rfl hw
        with_reducible exact ht3
      ·
        with_reducible refine Touches.step ?_ (State.chanResp_touches _ _ _ _ ?_)
        on_goal 2 => exact Part.within_trans rfl hw
        with_reducible exact ht3
      ·
        with_reducible refine Touches.step ?_ (State.chanAnnounce_touches _ _ _ ?_)
        on_goal 2 => exact Part.within_trans rfl hw
        with_reducible exact ht3
      ·
        with_reducible exact ht3

theorem State.ptpMessageReceive_touches {ps : List Part} s a1 a2 (hw : Part.within [.clk, .keys, .regs, .evt, .hif, .index, .objs, .lanes, .grps, .sw, .fab, .bpm, .fdb, .tcore, .tchans, .lnk, .ref, .free, .pll, .tic, .cal, .eng, .pair, .pwr, .boot, .rc .bpmDoubleFreeCnt, .rc .bpmForeignFreeCnt, .rc .bpmPoolEmptyCnt, .rc .bpmPromoteCnt, .rc .calAbortCnt, .rc .evtPinStat, .rc .evtSuppressed, .rc .fdbPtpDisc, .rc .hifEvtLost, .rc .hifRingAborted, .rc .lnkExchDrop, .rc .pairMirOvf, .rc .pairPromoteCnt, .rc .perfTagDrop, .rc .pllCnt, .rc .portHoldFlush, .rc .pwrWakeSrc, .rc .tcoreMsgDrop] ps = true) : Touches ps s (State.ptpMessageReceive s a1 a2) := by
  unfold State.ptpMessageReceive
  split
  ·
    with_reducible exact Touches.refl _ _
  ·
    with_reducible refine Touches.ite ?_ ?_
    ·
      with_reducible exact Touches.refl _ _
    ·
      with_reducible refine Touches.ite ?_ ?_
      ·
        with_reducible refine Touches.step ?_ (State.setFrame_touches _ _ _ ?_)
        on_goal 2 => exact Part.within_trans rfl hw
        with_reducible refine Touches.step ?_ (State.bump_touches _ _ _ _ ?_)
        on_goal 2 => exact Part.within_trans rfl hw
        with_reducible exact Touches.refl _ _
      ·
        split
        ·
          with_reducible exact Touches.refl _ _
        ·
          try extract_lets -merge -underBinder t0
          refine Touches.haveS (t := t0) ?_ (fun ht0 => ?_)
          ·
            unfold t0
            with_reducible refine Touches.step ?_ (State.setFrame_touches _ _ _ ?_)
            on_goal 2 => exact Part.within_trans rfl hw
            with_reducible exact Touches.refl _ _
          try clear_value t0
          split
          ·
            with_reducible refine Touches.ite ?_ ?_
            ·
              with_reducible refine Touches.step ?_ (State.chanClosed_touches _ _ ?_)
              on_goal 2 => exact Part.within_trans rfl hw
              with_reducible refine Touches.step ?_ (State.chanMessage_touches _ _ _ _ ?_)
              on_goal 2 => exact Part.within_trans rfl hw
              with_reducible exact ht0
            ·
              with_reducible exact ht0
          ·
            try extract_lets -merge -underBinder t1
            with_reducible refine Touches.ite ?_ ?_
            ·
              with_reducible refine Touches.step ?_ (State.setTchan_touches _ _ _ ?_)
              on_goal 2 => exact Part.within_trans rfl hw
              with_reducible exact ht0
            ·
              with_reducible exact ht0
          ·
            with_reducible exact ht0

theorem State.tchanSend_touches {ps : List Part} (s : State) (i k : Nat) (m : Int) (hw : Part.within [.evt, .hif, .tcore, .tchans, .lnk, .tic, .cal, .rc .calAbortCnt, .rc .evtPinStat, .rc .evtSuppressed, .rc .hifEvtLost, .rc .lnkSnapErr] ps = true) :
    Touches ps s (s.tchanSend i k m) := by
  unfold State.tchanSend
  refine Touches.ite (Touches.refl _ _) ?_
  extract_lets -underBinder p l x msg y s1 q s2
  have h2 : Touches ps s s2 := ((State.latchAt_touches _ _ _ _ (Part.within_trans rfl hw)).step
    (State.setTchan_touches _ _ _ (Part.within_trans rfl hw))).step (State.setPortPtp_touches _ _ _ (Part.within_trans rfl hw))
  clear_value s2
  exact Touches.ite (h2.step (State.lnkMasterSync_touches _ _ (Part.within_trans rfl hw))) h2

theorem State.refQualTimer_touches {ps : List Part} s a1 (hw : Part.within [.clk, .evt, .hif, .tcore, .tchans, .ref, .pll, .eng, .pair, .pwr, .rc .evtPinStat, .rc .evtSuppressed, .rc .hifEvtLost, .rc .pairMirOvf, .rc .pllCnt, .rc .pwrWakeSrc] ps = true) : Touches ps s (State.refQualTimer s a1) := by
  unfold State.refQualTimer
  try extract_lets -merge -underBinder t0
  try clear_value t0
  with_reducible refine Touches.ite ?_ ?_
  ·
    with_reducible exact Touches.refl _ _
  ·
    with_reducible refine Touches.step ?_ (State.candQualify_touches _ _ ?_)
    on_goal 2 => exact Part.within_trans rfl hw
    with_reducible exact Touches.refl _ _

theorem State.ppsInEdge_touches {ps : List Part} s a1 a2 a3 (hw : Part.within [.clk, .keys, .regs, .evt, .hif, .index, .objs, .lanes, .grps, .sw, .fab, .bpm, .fdb, .tcore, .tchans, .lnk, .ref, .free, .pll, .tic, .cal, .eng, .pair, .pwr, .boot, .rc .bpmDoubleFreeCnt, .rc .bpmForeignFreeCnt, .rc .bpmPoolEmptyCnt, .rc .bpmPromoteCnt, .rc .calAbortCnt, .rc .evtPinStat, .rc .evtSuppressed, .rc .hifEvtLost, .rc .hifRingAborted, .rc .pairMirOvf, .rc .pairPromoteCnt, .rc .perfTagDrop, .rc .pllCnt, .rc .portHoldFlush, .rc .pwrWakeSrc, .rc .refHoldoffCnt] ps = true) : Touches ps s (State.ppsInEdge s a1 a2 a3) := by
  unfold State.ppsInEdge
  try extract_lets -merge -underBinder t0 t1 t2 t3 t4 t5 t6
  try clear_value t0
  try clear_value t1
  refine Touches.haveS (t := t2) ?_ (fun ht2 => ?_)
  ·
    unfold t2
    with_reducible refine Touches.step ?_ (State.candCheck_touches _ _ _ ?_)
    on_goal 2 => exact Part.within_trans rfl hw
    with_reducible exact Touches.refl _ _
  try clear_value t2
  try clear_value t3
  refine Touches.haveS (t := t5) ?_ (fun ht5 => ?_)
  ·
    unfold t5
    with_reducible refine Touches.ite ?_ ?_
    ·
      with_reducible refine Touches.set_ref ?_ ?_
      on_goal 2 => exact Part.within_mem rfl hw
      with_reducible exact ht2
    ·
      with_reducible exact ht2
  try clear_value t5
  refine Touches.haveS (t := t6) ?_ (fun ht6 => ?_)
  ·
    unfold t6
    with_reducible refine Touches.ite ?_ ?_
    ·
      with_reducible refine Touches.step ?_ (State.timeSample_touches _ _ _ ?_)
      on_goal 2 => exact Part.within_trans rfl hw
      with_reducible exact ht5
    ·
      with_reducible exact ht5
  try clear_value t6
  with_reducible refine Touches.ite ?_ ?_
  ·
    with_reducible refine Touches.step ?_ (State.candQualify_touches _ _ ?_)
    on_goal 2 => exact Part.within_trans rfl hw
    with_reducible exact ht6
  ·
    with_reducible exact ht6

theorem State.budgetCheck_touches {ps : List Part} s a1 (hw : Part.within [.evt, .hif, .tcore, .ref, .pair, .pwr, .rc .evtPinStat, .rc .evtSuppressed, .rc .hifEvtLost, .rc .pairMirOvf, .rc .pwrWakeSrc] ps = true) : Touches ps s (State.budgetCheck s a1) := by
  unfold State.budgetCheck
  try extract_lets -merge -underBinder t0
  with_reducible refine Touches.ite ?_ ?_
  ·
    with_reducible exact Touches.refl _ _
  ·
    with_reducible refine Touches.step ?_ (State.updateClass_touches _ ?_)
    on_goal 2 => exact Part.within_trans rfl hw
    with_reducible refine Touches.step ?_ (State.wakeEvent_touches _ _ ?_)
    on_goal 2 => exact Part.within_trans rfl hw
    with_reducible refine Touches.step ?_ (State.raise_touches _ _ _ _ _ ?_)
    on_goal 2 => exact Part.within_trans rfl hw
    with_reducible refine Touches.set_ref ?_ ?_
    on_goal 2 => exact Part.within_mem rfl hw
    with_reducible exact Touches.refl _ _

theorem State.holdoverTick_touches {ps : List Part} s a1 (hw : Part.within [.clk, .evt, .hif, .tcore, .ref, .pair, .pwr, .rc .evtPinStat, .rc .evtSuppressed, .rc .hifEvtLost, .rc .pairMirOvf, .rc .pwrWakeSrc] ps = true) : Touches ps s (State.holdoverTick s a1) := by
  unfold State.holdoverTick
  try extract_lets -merge -underBinder t0 t1
  refine Touches.haveS (t := t1) ?_ (fun ht1 => ?_)
  ·
    unfold t1
    with_reducible refine Touches.set_ref ?_ ?_
    on_goal 2 => exact Part.within_mem rfl hw
    with_reducible exact Touches.refl _ _
  try clear_value t1
  with_reducible refine Touches.ite ?_ ?_
  ·
    with_reducible exact ht1
  ·
    split
    ·
      with_reducible exact ht1
    ·
      try extract_lets -merge -underBinder t2 t3 t4 t5 t6
      try clear_value t2
      refine Touches.haveS (t := t4) ?_ (fun ht4 => ?_)
      ·
        unfold t4
        with_reducible refine Touches.set_ref ?_ ?_
        on_goal 2 => exact Part.within_mem rfl hw
        with_reducible exact ht1
      try clear_value t4
      refine Touches.haveS (t := t5) ?_ (fun ht5 => ?_)
      ·
        unfold t5
        with_reducible refine Touches.step ?_ (State.raiseIf_touches _ _ _ _ _ _ ?_)
        on_goal 2 => exact Part.within_trans rfl hw
        with_reducible exact ht4
      try clear_value t5
      refine Touches.haveS (t := t6) ?_ (fun ht6 => ?_)
      ·
        unfold t6
        split
        ·
          with_reducible refine Touches.step ?_ (State.setRate_touches _ _ ?_)
          on_goal 2 => exact Part.within_trans rfl hw
          with_reducible exact ht5
        ·
          with_reducible exact ht5
      try clear_value t6
      with_reducible refine Touches.step ?_ (State.timeStateOut_touches _ ?_)
      on_goal 2 => exact Part.within_trans rfl hw
      with_reducible refine Touches.step ?_ (State.budgetCheck_touches _ _ ?_)
      on_goal 2 => exact Part.within_trans rfl hw
      with_reducible exact ht6

theorem State.modelLearn_touches {ps : List Part} s a1 (hw : Part.within [.ref] ps = true) : Touches ps s (State.modelLearn s a1) := by
  unfold State.modelLearn
  try extract_lets -merge -underBinder t0 t1 t2 t3 t4 t5 t6
  try clear_value t0
  refine Touches.haveS (t := t2) ?_ (fun ht2 => ?_)
  ·
    unfold t2
    with_reducible refine Touches.ite ?_ ?_
    ·
      with_reducible exact Touches.refl _ _
    ·
      with_reducible refine Touches.set_ref ?_ ?_
      on_goal 2 => exact Part.within_mem rfl hw
      with_reducible exact Touches.refl _ _
  try clear_value t2
  try clear_value t3
  try clear_value t4
  try clear_value t5
  with_reducible refine Touches.ite ?_ ?_
  ·
    with_reducible exact ht2
  ·
    with_reducible refine Touches.set_ref ?_ ?_
    on_goal 2 => exact Part.within_mem rfl hw
    with_reducible exact ht2

theorem State.tempExtStale_touches {ps : List Part} s (hw : Part.within [.evt, .hif, .ref, .rc .evtPinStat, .rc .evtSuppressed, .rc .hifEvtLost] ps = true) : Touches ps s (State.tempExtStale s) := by
  unfold State.tempExtStale
  try extract_lets -merge -underBinder t0
  with_reducible refine Touches.ite ?_ ?_
  ·
    with_reducible exact Touches.refl _ _
  ·
    with_reducible refine Touches.step ?_ (State.raise_touches _ _ _ _ _ ?_)
    on_goal 2 => exact Part.within_trans rfl hw
    with_reducible refine Touches.set_ref ?_ ?_
    on_goal 2 => exact Part.within_mem rfl hw
    with_reducible exact Touches.refl _ _

theorem State.refCandSet_touches {ps : List Part} s a1 (hw : Part.within [.clk, .keys, .regs, .evt, .hif, .tcore, .tchans, .ref, .pll, .eng, .pair, .pwr, .boot, .rc .evtPinStat, .rc .evtSuppressed, .rc .hifEvtLost, .rc .hifRingAborted, .rc .pairMirOvf, .rc .pllCnt, .rc .pwrWakeSrc, .rc .refHoldoffCnt] ps = true) : Touches ps s (State.refCandSet s a1) := by
  unfold State.refCandSet
  try extract_lets -merge -underBinder t0 t1 t2 t3 t4
  try clear_value t0
  try clear_value t1
  try clear_value t2
  try clear_value t3
  try clear_value t4
  with_reducible refine Touches.step ?_ (State.runCmd_touches _ _ _ _ _ ?_ (fun _ => ?_))
  on_goal 2 => exact Part.within_trans rfl hw
  ·
    with_reducible exact Touches.refl _ _
  ·
    try extract_lets -merge -underBinder t5 t6 t7
    refine Touches.haveS (t := t6) ?_ (fun ht6 => ?_)
    ·
      unfold t6
      with_reducible refine Touches.ite ?_ ?_
      ·
        with_reducible refine Touches.step ?_ (State.putBoth_touches _ _ _ _ _ ?_)
        on_goal 2 => exact Part.within_trans rfl hw
        with_reducible refine Touches.step ?_ (State.putBoth_touches _ _ _ _ _ ?_)
        on_goal 2 => exact Part.within_trans rfl hw
        with_reducible refine Touches.step ?_ (State.putBoth_touches _ _ _ _ _ ?_)
        on_goal 2 => exact Part.within_trans rfl hw
        with_reducible refine Touches.step ?_ (State.putBoth_touches _ _ _ _ _ ?_)
        on_goal 2 => exact Part.within_trans rfl hw
        with_reducible exact Touches.refl _ _
      ·
        with_reducible refine Touches.set_ref ?_ ?_
        on_goal 2 => exact Part.within_mem rfl hw
        with_reducible exact Touches.refl _ _
    try clear_value t6
    refine Touches.haveS (t := t7) ?_ (fun ht7 => ?_)
    ·
      unfold t7
      with_reducible refine Touches.step ?_ (State.candChanged_touches _ _ ?_)
      on_goal 2 => exact Part.within_trans rfl hw
      with_reducible exact ht6
    try clear_value t7
    with_reducible refine Touches.step ?_ (State.complete_touches _ _ _ _ _ _ _ ?_)
    on_goal 2 => exact Part.within_trans rfl hw
    with_reducible exact ht7

theorem State.refRealign_touches {ps : List Part} s a1 (hw : Part.within [.clk, .keys, .regs, .evt, .hif, .index, .objs, .lanes, .grps, .sw, .fab, .bpm, .fdb, .tcore, .tchans, .lnk, .ref, .free, .pll, .tic, .cal, .eng, .pair, .pwr, .boot, .rc .bpmDoubleFreeCnt, .rc .bpmForeignFreeCnt, .rc .bpmPoolEmptyCnt, .rc .bpmPromoteCnt, .rc .calAbortCnt, .rc .evtPinStat, .rc .evtSuppressed, .rc .hifEvtLost, .rc .hifRingAborted, .rc .pairMirOvf, .rc .pairPromoteCnt, .rc .perfTagDrop, .rc .pllCnt, .rc .portHoldFlush, .rc .pwrWakeSrc] ps = true) : Touches ps s (State.refRealign s a1) := by
  unfold State.refRealign
  try extract_lets -merge -underBinder t0 t1
  try clear_value t0
  try clear_value t1
  with_reducible refine Touches.step ?_ (State.runCmd_touches _ _ _ _ _ ?_ (fun _ => ?_))
  on_goal 2 => exact Part.within_trans rfl hw
  ·
    with_reducible exact Touches.refl _ _
  ·
    with_reducible refine Touches.ite ?_ ?_
    ·
      with_reducible refine Touches.step ?_ (State.complete_touches _ _ _ _ _ _ _ ?_)
      on_goal 2 => exact Part.within_trans rfl hw
      with_reducible exact Touches.refl _ _
    ·
      split
      ·
        try extract_lets -merge -underBinder t2 t3
        try clear_value t2
        refine Touches.haveS (t := t3) ?_ (fun ht3 => ?_)
        ·
          unfold t3
          with_reducible refine Touches.ite ?_ ?_
          ·
            with_reducible refine Touches.step ?_ (State.stepToRef_touches _ _ ?_)
            on_goal 2 => exact Part.within_trans rfl hw
            with_reducible exact Touches.refl _ _
          ·
            with_reducible refine Touches.step ?_ (State.returnStepped_touches _ _ ?_)
            on_goal 2 => exact Part.within_trans rfl hw
            with_reducible exact Touches.refl _ _
        try clear_value t3
        with_reducible refine Touches.step ?_ (State.complete_touches _ _ _ _ _ _ _ ?_)
        on_goal 2 => exact Part.within_trans rfl hw
        with_reducible exact ht3
      ·
        try extract_lets -merge -underBinder t4 t5 t6 t7 t8
        try clear_value t4
        refine Touches.haveS (t := t5) ?_ (fun ht5 => ?_)
        ·
          unfold t5
          with_reducible refine Touches.step ?_ (State.applyStep_touches _ _ ?_)
          on_goal 2 => exact Part.within_trans rfl hw
          with_reducible exact Touches.refl _ _
        try clear_value t5
        refine Touches.haveS (t := t8) ?_ (fun ht8 => ?_)
        ·
          unfold t8
          with_reducible refine Touches.ite ?_ ?_
          ·
            with_reducible refine Touches.set_ref ?_ ?_
            on_goal 2 => exact Part.within_mem rfl hw
            with_reducible exact ht5
          ·
            with_reducible refine Touches.set_ref ?_ ?_
            on_goal 2 => exact Part.within_mem rfl hw
            with_reducible exact Touches.refl _ _
        try clear_value t8
        with_reducible refine Touches.step ?_ (State.complete_touches _ _ _ _ _ _ _ ?_)
        on_goal 2 => exact Part.within_trans rfl hw
        with_reducible exact ht8

theorem State.refMdlReset_touches {ps : List Part} s a1 (hw : Part.within [.keys, .hif, .ref, .boot, .rc .hifRingAborted] ps = true) : Touches ps s (State.refMdlReset s a1) := by
  unfold State.refMdlReset
  try extract_lets -merge -underBinder t0
  try clear_value t0
  with_reducible refine Touches.step ?_ (State.runCmd_touches _ _ _ _ _ ?_ (fun _ => ?_))
  on_goal 2 => exact Part.within_trans rfl hw
  ·
    with_reducible exact Touches.refl _ _
  ·
    try extract_lets -merge -underBinder t1
    with_reducible refine Touches.step ?_ (State.complete_touches _ _ _ _ _ _ _ ?_)
    on_goal 2 => exact Part.within_trans rfl hw
    with_reducible refine Touches.set_ref ?_ ?_
    on_goal 2 => exact Part.within_mem rfl hw
    with_reducible exact Touches.refl _ _

theorem State.pllAlign_touches {ps : List Part} s a1 (hw : Part.within [.keys, .hif, .pll, .boot, .rc .hifRingAborted] ps = true) : Touches ps s (State.pllAlign s a1) := by
  unfold State.pllAlign
  try extract_lets -merge -underBinder t0 t1
  try clear_value t0
  with_reducible refine Touches.step ?_ (State.runCmd_touches _ _ _ _ _ ?_ (fun _ => ?_))
  on_goal 2 => exact Part.within_trans rfl hw
  ·
    with_reducible exact Touches.refl _ _
  ·
    try extract_lets -merge -underBinder t2
    with_reducible refine Touches.set_pll ?_ ?_
    on_goal 2 => exact Part.within_mem rfl hw
    with_reducible exact Touches.refl _ _

theorem State.gnssClockFault_touches {ps : List Part} s a1 (hw : Part.within [.clk, .evt, .hif, .tcore, .tchans, .ref, .pll, .gnss, .eng, .pair, .pwr, .rc .evtPinStat, .rc .evtSuppressed, .rc .gnssLossCnt, .rc .hifEvtLost, .rc .pairMirOvf, .rc .pllCnt, .rc .pwrWakeSrc] ps = true) : Touches ps s (State.gnssClockFault s a1) := by
  unfold State.gnssClockFault
  try extract_lets -merge -underBinder t0 t1 t2
  refine Touches.haveS (t := t1) ?_ (fun ht1 => ?_)
  ·
    unfold t1
    with_reducible refine Touches.set_gnss ?_ ?_
    on_goal 2 => exact Part.within_mem rfl hw
    with_reducible exact Touches.refl _ _
  try clear_value t1
  refine Touches.haveS (t := t2) ?_ (fun ht2 => ?_)
  ·
    unfold t2
    with_reducible refine Touches.step ?_ (State.raiseIf_touches _ _ _ _ _ _ ?_)
    on_goal 2 => exact Part.within_trans rfl hw
    with_reducible exact ht1
  try clear_value t2
  with_reducible refine Touches.ite ?_ ?_
  ·
    with_reducible exact Touches.refl _ _
  ·
    with_reducible refine Touches.step ?_ (State.gnssInvalid_touches _ ?_)
    on_goal 2 => exact Part.within_trans rfl hw
    with_reducible refine Touches.foldl (fun _ _ => ?_) _ ?_
    ·
      with_reducible refine Touches.step ?_ (State.gnssLose_touches _ _ ?_)
      on_goal 2 => exact Part.within_trans rfl hw
      with_reducible exact Touches.refl _ _
    ·
      with_reducible exact ht2

theorem State.gnssClockOk_touches {ps : List Part} s a1 (hw : Part.within [.gnss] ps = true) : Touches ps s (State.gnssClockOk s a1) := by
  unfold State.gnssClockOk
  try extract_lets -merge -underBinder t0
  with_reducible refine Touches.ite ?_ ?_
  ·
    with_reducible exact Touches.refl _ _
  ·
    with_reducible refine Touches.set_gnss ?_ ?_
    on_goal 2 => exact Part.within_mem rfl hw
    with_reducible exact Touches.refl _ _

theorem State.gnssBind_touches {ps : List Part} s a1 a2 a3 (hw : Part.within [.regs, .evt, .hif, .gnss, .rc .evtPinStat, .rc .evtSuppressed, .rc .gnssLossCnt, .rc .hifEvtLost] ps = true) : Touches ps s (State.gnssBind s a1 a2 a3) := by
  unfold State.gnssBind
  try extract_lets -merge -underBinder t0
  refine Touches.haveS (t := t0) ?_ (fun ht0 => ?_)
  ·
    unfold t0
    with_reducible refine Touches.step ?_ (State.putBoth_touches _ _ _ _ _ ?_)
    on_goal 2 => exact Part.within_trans rfl hw
    with_reducible refine Touches.step ?_ (State.putBoth_touches _ _ _ _ _ ?_)
    on_goal 2 => exact Part.within_trans rfl hw
    with_reducible refine Touches.step ?_ (State.putBoth_touches _ _ _ _ _ ?_)
    on_goal 2 => exact Part.within_trans rfl hw
    with_reducible exact Touches.refl _ _
  try clear_value t0
  with_reducible refine Touches.step ?_ (State.gnssRebind_touches _ _ _ ?_)
  on_goal 2 => exact Part.within_trans rfl hw
  with_reducible exact ht0

theorem State.gnssHand_touches {ps : List Part} s a1 (hw : Part.within [.regs, .evt, .hif, .gnss, .rc .evtPinStat, .rc .evtSuppressed, .rc .gnssDetDrop, .rc .gnssLossCnt, .rc .hifEvtLost] ps = true) : Touches ps s (State.gnssHand s a1) := by
  unfold State.gnssHand
  try extract_lets -merge -underBinder t0
  try clear_value t0
  with_reducible refine Touches.ite ?_ ?_
  ·
    with_reducible exact Touches.refl _ _
  ·
    with_reducible refine Touches.ite ?_ ?_
    ·
      with_reducible refine Touches.step ?_ (State.bump_touches _ _ _ _ ?_)
      on_goal 2 => exact Part.within_trans rfl hw
      with_reducible exact Touches.refl _ _
    ·
      split
      ·
        with_reducible refine Touches.step ?_ (State.gnssBind_touches _ _ _ _ ?_)
        on_goal 2 => exact Part.within_trans rfl hw
        with_reducible exact Touches.refl _ _
      ·
        with_reducible refine Touches.step ?_ (State.bump_touches _ _ _ _ ?_)
        on_goal 2 => exact Part.within_trans rfl hw
        with_reducible exact Touches.refl _ _

theorem State.gnssDetect_touches {ps : List Part} s a1 (hw : Part.within [.regs, .evt, .hif, .gnss, .rc .evtPinStat, .rc .evtSuppressed, .rc .gnssDetDrop, .rc .gnssLossCnt, .rc .hifEvtLost] ps = true) : Touches ps s (State.gnssDetect s a1) := by
  unfold State.gnssDetect
  try extract_lets -merge -underBinder t0
  try clear_value t0
  with_reducible refine Touches.ite ?_ ?_
  ·
    with_reducible exact Touches.refl _ _
  ·
    with_reducible refine Touches.step ?_ (State.gnssHand_touches _ _ ?_)
    on_goal 2 => exact Part.within_trans rfl hw
    with_reducible refine Touches.step ?_ (State.setSearchJob_touches _ _ _ ?_)
    on_goal 2 => exact Part.within_trans rfl hw
    with_reducible exact Touches.refl _ _

theorem State.dwellEndJob_touches {ps : List Part} s a1 (hw : Part.within [.evt, .hif, .gnss, .rc .evtPinStat, .rc .evtSuppressed, .rc .hifEvtLost] ps = true) : Touches ps s (State.dwellEndJob s a1) := by
  unfold State.dwellEndJob
  try extract_lets -merge -underBinder t0 t1 t2
  try clear_value t0
  try clear_value t1
  try clear_value t2
  with_reducible refine Touches.ite ?_ ?_
  ·
    with_reducible exact Touches.refl _ _
  ·
    with_reducible refine Touches.step ?_ (State.raiseIf_touches _ _ _ _ _ _ ?_)
    on_goal 2 => exact Part.within_trans rfl hw
    with_reducible refine Touches.step ?_ (State.setSearchJob_touches _ _ _ ?_)
    on_goal 2 => exact Part.within_trans rfl hw
    with_reducible exact Touches.refl _ _

theorem State.gnssDwellEnd_touches {ps : List Part} s a1 a2 (hw : Part.within [.regs, .evt, .hif, .gnss, .boot, .rc .evtPinStat, .rc .evtSuppressed, .rc .gnssDetDrop, .rc .gnssLossCnt, .rc .hifEvtLost, .rc .hifRingAborted] ps = true) : Touches ps s (State.gnssDwellEnd s a1 a2) := by
  unfold State.gnssDwellEnd
  try extract_lets -merge -underBinder t0 t1 t2
  try clear_value t0
  try clear_value t1
  refine Touches.haveS (t := t2) ?_ (fun ht2 => ?_)
  ·
    unfold t2
    with_reducible refine Touches.foldl (fun _ _ => ?_) _ ?_
    ·
      with_reducible refine Touches.step ?_ (State.gnssDetect_touches _ _ ?_)
      on_goal 2 => exact Part.within_trans rfl hw
      with_reducible exact Touches.refl _ _
    ·
      with_reducible exact Touches.refl _ _
  try clear_value t2
  with_reducible refine Touches.ite ?_ ?_
  ·
    with_reducible exact Touches.refl _ _
  ·
    with_reducible refine Touches.step ?_ (State.sectsSettle_touches _ _ ?_)
    on_goal 2 => exact Part.within_trans rfl hw
    with_reducible refine Touches.foldl (fun _ _ => ?_) _ ?_
    ·
      with_reducible refine Touches.step ?_ (State.dwellEndJob_touches _ _ ?_)
      on_goal 2 => exact Part.within_trans rfl hw
      with_reducible exact Touches.refl _ _
    ·
      with_reducible exact ht2

theorem State.gnssChLock_touches {ps : List Part} s a1 a2 (hw : Part.within [.evt, .hif, .gnss, .rc .evtPinStat, .rc .evtSuppressed, .rc .gnssLossCnt, .rc .hifEvtLost] ps = true) : Touches ps s (State.gnssChLock s a1 a2) := by
  unfold State.gnssChLock
  try extract_lets -merge -underBinder t0
  with_reducible refine Touches.ite ?_ ?_
  ·
    with_reducible refine Touches.step ?_ (State.goGnssCh_touches _ _ _ ?_)
    on_goal 2 => exact Part.within_trans rfl hw
    with_reducible refine Touches.step ?_ (State.setGnssCh_touches _ _ _ ?_)
    on_goal 2 => exact Part.within_trans rfl hw
    with_reducible exact Touches.refl _ _
  ·
    with_reducible exact Touches.refl _ _

theorem State.gnssChPullinTimeout_touches {ps : List Part} s a1 (hw : Part.within [.evt, .hif, .gnss, .rc .evtPinStat, .rc .evtSuppressed, .rc .gnssLossCnt, .rc .hifEvtLost] ps = true) : Touches ps s (State.gnssChPullinTimeout s a1) := by
  unfold State.gnssChPullinTimeout
  with_reducible refine Touches.ite ?_ ?_
  ·
    with_reducible refine Touches.step ?_ (State.goGnssCh_touches _ _ _ ?_)
    on_goal 2 => exact Part.within_trans rfl hw
    with_reducible exact Touches.refl _ _
  ·
    with_reducible exact Touches.refl _ _

theorem State.gnssSolutionDone_touches {ps : List Part} s a1 (hw : Part.within [.clk, .keys, .regs, .evt, .hif, .index, .objs, .lanes, .grps, .sw, .fab, .bpm, .fdb, .tcore, .tchans, .lnk, .ref, .free, .pll, .gnss, .tic, .cal, .eng, .pair, .pwr, .boot, .rc .bpmDoubleFreeCnt, .rc .bpmForeignFreeCnt, .rc .bpmPoolEmptyCnt, .rc .bpmPromoteCnt, .rc .calAbortCnt, .rc .evtPinStat, .rc .evtSuppressed, .rc .hifEvtLost, .rc .hifRingAborted, .rc .pairMirOvf, .rc .pairPromoteCnt, .rc .perfTagDrop, .rc .pllCnt, .rc .portHoldFlush, .rc .pwrWakeSrc, .rc .refHoldoffCnt] ps = true) : Touches ps s (State.gnssSolutionDone s a1) := by
  unfold State.gnssSolutionDone
  try extract_lets -merge -underBinder t0 t1 t2 t3 t4 t5 t6 t7
  try clear_value t0
  try clear_value t1
  try clear_value t3
  refine Touches.haveS (t := t4) ?_ (fun ht4 => ?_)
  ·
    unfold t4
    with_reducible refine Touches.set_gnss ?_ ?_
    on_goal 2 => exact Part.within_mem rfl hw
    with_reducible exact Touches.refl _ _
  try clear_value t4
  refine Touches.haveS (t := t5) ?_ (fun ht5 => ?_)
  ·
    unfold t5
    with_reducible refine Touches.step ?_ (State.raiseIf_touches _ _ _ _ _ _ ?_)
    on_goal 2 => exact Part.within_trans rfl hw
    with_reducible exact ht4
  try clear_value t5
  refine Touches.haveS (t := t6) ?_ (fun ht6 => ?_)
  ·
    unfold t6
    with_reducible refine Touches.step ?_ (State.raiseIf_touches _ _ _ _ _ _ ?_)
    on_goal 2 => exact Part.within_trans rfl hw
    with_reducible exact ht5
  try clear_value t6
  refine Touches.haveS (t := t7) ?_ (fun ht7 => ?_)
  ·
    unfold t7
    with_reducible refine Touches.step ?_ (State.surveyAdd_touches _ _ ?_)
    on_goal 2 => exact Part.within_trans rfl hw
    with_reducible exact ht6
  try clear_value t7
  with_reducible refine Touches.ite ?_ ?_
  ·
    with_reducible exact Touches.refl _ _
  ·
    with_reducible refine Touches.ite ?_ ?_
    ·
      with_reducible refine Touches.step ?_ (State.candCheck_touches _ _ _ ?_)
      on_goal 2 => exact Part.within_trans rfl hw
      with_reducible refine Touches.step ?_ (State.gnssInvalid_touches _ ?_)
      on_goal 2 => exact Part.within_trans rfl hw
      with_reducible refine Touches.set_gnss ?_ ?_
      on_goal 2 => exact Part.within_mem rfl hw
      with_reducible exact Touches.refl _ _
    ·
      with_reducible refine Touches.step ?_ (State.timeSample_touches _ _ _ ?_)
      on_goal 2 => exact Part.within_trans rfl hw
      with_reducible refine Touches.step ?_ (State.candCheck_touches _ _ _ ?_)
      on_goal 2 => exact Part.within_trans rfl hw
      with_reducible exact ht7

theorem State.gnssBurstStart_touches {ps : List Part} s a1 (hw : Part.within [.gnss] ps = true) : Touches ps s (State.gnssBurstStart s a1) := by
  unfold State.gnssBurstStart
  try extract_lets -merge -underBinder t0 t1
  refine Touches.haveS (t := t0) ?_ (fun ht0 => ?_)
  ·
    unfold t0
    with_reducible refine Touches.foldl (fun _ _ => ?_) _ ?_
    ·
      try extract_lets -merge -underBinder t2
      with_reducible refine Touches.ite ?_ ?_
      ·
        with_reducible refine Touches.step ?_ (State.setGnssCh_touches _ _ _ ?_)
        on_goal 2 => exact Part.within_trans rfl hw
        with_reducible exact Touches.refl _ _
      ·
        with_reducible exact Touches.refl _ _
    ·
      with_reducible exact Touches.refl _ _
  try clear_value t0
  with_reducible refine Touches.ite ?_ ?_
  ·
    with_reducible exact Touches.refl _ _
  ·
    with_reducible refine Touches.set_gnss ?_ ?_
    on_goal 2 => exact Part.within_mem rfl hw
    with_reducible exact ht0

theorem State.gnssBurstEnd_touches {ps : List Part} s (hw : Part.within [.gnss] ps = true) : Touches ps s (State.gnssBurstEnd s) := by
  unfold State.gnssBurstEnd
  try extract_lets -merge -underBinder t0
  with_reducible refine Touches.ite ?_ ?_
  ·
    with_reducible exact Touches.refl _ _
  ·
    with_reducible refine Touches.set_gnss ?_ ?_
    on_goal 2 => exact Part.within_mem rfl hw
    with_reducible exact Touches.refl _ _

theorem State.gnssSect_touches {ps : List Part} s a1 (hw : Part.within [.keys, .evt, .hif, .gnss, .boot, .rc .evtPinStat, .rc .evtSuppressed, .rc .hifEvtLost, .rc .hifRingAborted] ps = true) : Touches ps s (State.gnssSect s a1) := by
  unfold State.gnssSect
  try extract_lets -merge -underBinder t0 t1
  try clear_value t0
  try clear_value t1
  with_reducible refine Touches.step ?_ (State.runCmd_touches _ _ _ _ _ ?_ (fun _ => ?_))
  on_goal 2 => exact Part.within_trans rfl hw
  ·
    with_reducible exact Touches.refl _ _
  ·
    try extract_lets -merge -underBinder t2 t3 t4 t5
    try clear_value t2
    with_reducible refine Touches.ite ?_ ?_
    ·
      with_reducible refine Touches.ite ?_ ?_
      ·
        with_reducible refine Touches.step ?_ (State.complete_touches _ _ _ _ _ _ _ ?_)
        on_goal 2 => exact Part.within_trans rfl hw
        with_reducible exact Touches.refl _ _
      ·
        with_reducible refine Touches.ite ?_ ?_
        ·
          with_reducible refine Touches.set_gnss ?_ ?_
          on_goal 2 => exact Part.within_mem rfl hw
          with_reducible exact Touches.refl _ _
        ·
          with_reducible refine Touches.step ?_ (State.complete_touches _ _ _ _ _ _ _ ?_)
          on_goal 2 => exact Part.within_trans rfl hw
          with_reducible refine Touches.step ?_ (State.sectOut_touches _ _ ?_)
          on_goal 2 => exact Part.within_trans rfl hw
          with_reducible exact Touches.refl _ _
    ·
      with_reducible refine Touches.ite ?_ ?_
      ·
        with_reducible refine Touches.step ?_ (State.complete_touches _ _ _ _ _ _ _ ?_)
        on_goal 2 => exact Part.within_trans rfl hw
        with_reducible refine Touches.set_gnss ?_ ?_
        on_goal 2 => exact Part.within_mem rfl hw
        with_reducible exact Touches.refl _ _
      ·
        with_reducible refine Touches.ite ?_ ?_
        ·
          with_reducible refine Touches.set_gnss ?_ ?_
          on_goal 2 => exact Part.within_mem rfl hw
          with_reducible exact Touches.refl _ _
        ·
          with_reducible refine Touches.step ?_ (State.complete_touches _ _ _ _ _ _ _ ?_)
          on_goal 2 => exact Part.within_trans rfl hw
          with_reducible exact Touches.refl _ _

theorem State.ticGateEdge_touches {ps : List Part} s a1 a2 (hw : Part.within [.tic] ps = true) : Touches ps s (State.ticGateEdge s a1 a2) := by
  unfold State.ticGateEdge
  try extract_lets -merge -underBinder t0 t1 t2
  refine Touches.haveS (t := t2) ?_ (fun ht2 => ?_)
  ·
    unfold t2
    with_reducible refine Touches.set_tic ?_ ?_
    on_goal 2 => exact Part.within_mem rfl hw
    with_reducible exact Touches.refl _ _
  try clear_value t2
  unfold State.forTic
  with_reducible refine Touches.foldl (fun _ _ => ?_) _ ?_
  ·
    try extract_lets -merge -underBinder t3
    try clear_value t3
    with_reducible refine Touches.ite ?_ ?_
    ·
      with_reducible exact Touches.refl _ _
    ·
      with_reducible refine Touches.ite ?_ ?_
      ·
        with_reducible refine Touches.step ?_ (State.ticSample_touches _ _ ?_)
        on_goal 2 => exact Part.within_trans rfl hw
        with_reducible refine Touches.step ?_ (State.setTicCh_touches _ _ _ ?_)
        on_goal 2 => exact Part.within_trans rfl hw
        with_reducible exact Touches.refl _ _
      ·
        with_reducible refine Touches.ite ?_ ?_
        ·
          with_reducible refine Touches.step ?_ (State.setTicCh_touches _ _ _ ?_)
          on_goal 2 => exact Part.within_trans rfl hw
          with_reducible exact Touches.refl _ _
        ·
          with_reducible exact Touches.refl _ _
  ·
    with_reducible exact ht2

theorem State.ticTbOk_touches {ps : List Part} s (hw : Part.within [.evt, .hif, .tic, .rc .evtPinStat, .rc .evtSuppressed, .rc .hifEvtLost] ps = true) : Touches ps s (State.ticTbOk s) := by
  unfold State.ticTbOk
  try extract_lets -merge -underBinder t0 t1 t2
  refine Touches.haveS (t := t0) ?_ (fun ht0 => ?_)
  ·
    unfold t0
    with_reducible refine Touches.step ?_ (State.raiseIf_touches _ _ _ _ _ _ ?_)
    on_goal 2 => exact Part.within_trans rfl hw
    with_reducible exact Touches.refl _ _
  try clear_value t0
  refine Touches.haveS (t := t2) ?_ (fun ht2 => ?_)
  ·
    unfold t2
    with_reducible refine Touches.set_tic ?_ ?_
    on_goal 2 => exact Part.within_mem rfl hw
    with_reducible exact ht0
  try clear_value t2
  with_reducible refine Touches.ite ?_ ?_
  ·
    with_reducible exact Touches.refl _ _
  ·
    unfold State.forTic
    with_reducible refine Touches.foldl (fun _ _ => ?_) _ ?_
    ·
      try extract_lets -merge -underBinder t3
      with_reducible refine Touches.step ?_ (State.ticSample_touches _ _ ?_)
      on_goal 2 => exact Part.within_trans rfl hw
      with_reducible refine Touches.step ?_ (State.setTicCh_touches _ _ _ ?_)
      on_goal 2 => exact Part.within_trans rfl hw
      with_reducible exact Touches.refl _ _
    ·
      with_reducible exact ht2

theorem State.calStore_touches {ps : List Part} s a1 (hw : Part.within [.evt, .pers, .hif, .cal, .rc .calStoreFail, .rc .evtPinStat, .rc .evtSuppressed, .rc .hifEvtLost] ps = true) : Touches ps s (State.calStore s a1) := by
  unfold State.calStore
  try extract_lets -merge -underBinder t0 t1
  refine Touches.haveS (t := t1) ?_ (fun ht1 => ?_)
  ·
    unfold t1
    with_reducible refine Touches.set_cal ?_ ?_
    on_goal 2 => exact Part.within_mem rfl hw
    with_reducible exact Touches.refl _ _
  try clear_value t1
  split
  ·
    try extract_lets -merge -underBinder t2
    with_reducible refine Touches.step ?_ (State.calPut_touches _ _ _ ?_)
    on_goal 2 => exact Part.within_trans rfl hw
    with_reducible refine Touches.set_cal ?_ ?_
    on_goal 2 => exact Part.within_mem rfl hw
    with_reducible exact ht1
  ·
    with_reducible exact ht1

theorem State.calSave_touches {ps : List Part} s a1 (hw : Part.within [.keys, .hif, .cal, .boot, .rc .hifRingAborted] ps = true) : Touches ps s (State.calSave s a1) := by
  unfold State.calSave
  try extract_lets -merge -underBinder t0
  try clear_value t0
  with_reducible refine Touches.step ?_ (State.runCmd_touches _ _ _ _ _ ?_ (fun _ => ?_))
  on_goal 2 => exact Part.within_trans rfl hw
  ·
    with_reducible exact Touches.refl _ _
  ·
    try extract_lets -merge -underBinder t1 t2
    refine Touches.haveS (t := t1) ?_ (fun ht1 => ?_)
    ·
      unfold t1
      with_reducible refine Touches.step ?_ (State.setCalSlot_touches _ _ _ ?_)
      on_goal 2 => exact Part.within_trans rfl hw
      with_reducible exact Touches.refl _ _
    try clear_value t1
    with_reducible refine Touches.ite ?_ ?_
    ·
      with_reducible refine Touches.step ?_ (State.complete_touches _ _ _ _ _ _ _ ?_)
      on_goal 2 => exact Part.within_trans rfl hw
      with_reducible exact Touches.refl _ _
    ·
      with_reducible refine Touches.ite ?_ ?_
      ·
        with_reducible refine Touches.step ?_ (State.complete_touches _ _ _ _ _ _ _ ?_)
        on_goal 2 => exact Part.within_trans rfl hw
        with_reducible exact Touches.refl _ _
      ·
        with_reducible refine Touches.set_cal ?_ ?_
        on_goal 2 => exact Part.within_mem rfl hw
        with_reducible exact ht1

theorem State.autoReload_touches {ps : List Part} s a1 (hw : Part.within [.evt, .hif, .eng, .rc .evtPinStat, .rc .evtSuppressed, .rc .hifEvtLost] ps = true) : Touches ps s (State.autoReload s a1) := by
  unfold State.autoReload
  try extract_lets -merge -underBinder t0 t1
  try clear_value t0
  try clear_value t1
  split
  ·
    try extract_lets -merge -underBinder t2
    refine Touches.haveS (t := t2) ?_ (fun ht2 => ?_)
    ·
      unfold t2
      with_reducible refine Touches.step ?_ (State.goEng_touches _ _ _ ?_)
      on_goal 2 => exact Part.within_trans rfl hw
      with_reducible refine Touches.step ?_ (State.setEng_touches _ _ _ ?_)
      on_goal 2 => exact Part.within_trans rfl hw
      with_reducible exact Touches.refl _ _
    try clear_value t2
    with_reducible refine Touches.ite ?_ ?_
    ·
      with_reducible refine Touches.step ?_ (State.goEng_touches _ _ _ ?_)
      on_goal 2 => exact Part.within_trans rfl hw
      with_reducible exact ht2
    ·
      with_reducible exact Touches.refl _ _
  ·
    with_reducible exact Touches.refl _ _

theorem State.engFault_touches {ps : List Part} s a1 a2 (hw : Part.within [.clk, .ready, .evt, .hif, .tcore, .tchans, .lnk, .ref, .free, .pll, .gnss, .tic, .cal, .eng, .pair, .pwr, .boot, .rc .calAbortCnt, .rc .engEAborted, .rc .evtPinStat, .rc .evtSuppressed, .rc .hifEvtLost, .rc .hifRingAborted, .rc .pairMirOvf, .rc .pllCnt, .rc .pwrWakeSrc] ps = true) : Touches ps s (State.engFault s a1 a2) := by
  unfold State.engFault
  try extract_lets -merge -underBinder t0 t1 t2
  try clear_value t0
  refine Touches.haveS (t := t1) ?_ (fun ht1 => ?_)
  ·
    unfold t1
    with_reducible refine Touches.step ?_ (State.setEng_touches _ _ _ ?_)
    on_goal 2 => exact Part.within_trans rfl hw
    with_reducible refine Touches.step ?_ (State.raise_touches _ _ _ _ _ ?_)
    on_goal 2 => exact Part.within_trans rfl hw
    with_reducible exact Touches.refl _ _
  try clear_value t1
  refine Touches.haveS (t := t2) ?_ (fun ht2 => ?_)
  ·
    unfold t2
    with_reducible refine Touches.ite ?_ ?_
    ·
      with_reducible refine Touches.step ?_ (State.outDone_touches _ _ _ ?_)
      on_goal 2 => exact Part.within_trans rfl hw
      with_reducible exact ht1
    ·
      with_reducible refine Touches.step ?_ (State.engLeaves_touches _ _ _ ?_)
      on_goal 2 => exact Part.within_trans rfl hw
      with_reducible refine Touches.step ?_ (State.goEng_touches _ _ _ ?_)
      on_goal 2 => exact Part.within_trans rfl hw
      with_reducible exact ht1
  try clear_value t2
  with_reducible refine Touches.ite ?_ ?_
  ·
    with_reducible exact Touches.refl _ _
  ·
    with_reducible refine Touches.step ?_ (State.autoReload_touches _ _ ?_)
    on_goal 2 => exact Part.within_trans rfl hw
    with_reducible exact ht2

theorem State.engTakeover_touches {ps : List Part} s a1 a2 (hw : Part.within [.clk, .ready, .keys, .regs, .evt, .hif, .index, .objs, .lanes, .sw, .fab, .bpm, .fdb, .tcore, .tchans, .lnk, .ref, .free, .pll, .tic, .cal, .eng, .pair, .pwr, .boot, .rc .bpmDoubleFreeCnt, .rc .bpmForeignFreeCnt, .rc .bpmPoolEmptyCnt, .rc .bpmPromoteCnt, .rc .calAbortCnt, .rc .engEAborted, .rc .evtPinStat, .rc .evtSuppressed, .rc .hifEvtLost, .rc .hifRingAborted, .rc .pairMirOvf, .rc .perfTagDrop, .rc .pllCnt, .rc .portHoldFlush, .rc .pwrWakeSrc] ps = true) : Touches ps s (State.engTakeover s a1 a2) := by
  unfold State.engTakeover
  try extract_lets -merge -underBinder t0
  try clear_value t0
  split
  ·
    try extract_lets -merge -underBinder t1
    refine Touches.haveS (t := t1) ?_ (fun ht1 => ?_)
    ·
      unfold t1
      with_reducible refine Touches.step ?_ (State.bump_touches _ _ _ _ ?_)
      on_goal 2 => exact Part.within_trans rfl hw
      with_reducible refine Touches.step ?_ (State.nameStandby_touches _ _ ?_)
      on_goal 2 => exact Part.within_trans rfl hw
      with_reducible refine Touches.step ?_ (State.setTask_touches _ _ _ ?_)
      on_goal 2 => exact Part.within_trans rfl hw
      with_reducible exact Touches.refl _ _
    try clear_value t1
    with_reducible refine Touches.ite ?_ ?_
    ·
      with_reducible exact Touches.refl _ _
    ·
      with_reducible refine Touches.step ?_ (State.engReady_touches _ ?_)
      on_goal 2 => exact Part.within_trans rfl hw
      with_reducible refine Touches.step ?_ (State.taskGained_touches _ _ ?_)
      on_goal 2 => exact Part.within_trans rfl hw
      with_reducible refine Touches.step ?_ (State.raise_touches _ _ _ _ _ ?_)
      on_goal 2 => exact Part.within_trans rfl hw
      with_reducible exact ht1
  ·
    with_reducible exact Touches.refl _ _

theorem State.engOut_touches {ps : List Part} s a1 (hw : Part.within [.clk, .ready, .keys, .evt, .hif, .tcore, .tchans, .lnk, .ref, .free, .pll, .gnss, .tic, .cal, .eng, .pair, .pwr, .boot, .rc .calAbortCnt, .rc .evtPinStat, .rc .evtSuppressed, .rc .hifEvtLost, .rc .hifRingAborted, .rc .pairMirOvf, .rc .pllCnt, .rc .pwrWakeSrc] ps = true) : Touches ps s (State.engOut s a1) := by
  unfold State.engOut
  try extract_lets -merge -underBinder t0 t1
  try clear_value t0
  try clear_value t1
  with_reducible refine Touches.step ?_ (State.runCmd_touches _ _ _ _ _ ?_ (fun _ => ?_))
  on_goal 2 => exact Part.within_trans rfl hw
  ·
    with_reducible exact Touches.refl _ _
  ·
    split
    ·
      with_reducible refine Touches.step ?_ (State.complete_touches _ _ _ _ _ _ _ ?_)
      on_goal 2 => exact Part.within_trans rfl hw
      with_reducible exact Touches.refl _ _
    ·
      with_reducible refine Touches.step ?_ (State.complete_touches _ _ _ _ _ _ _ ?_)
      on_goal 2 => exact Part.within_trans rfl hw
      with_reducible refine Touches.step ?_ (State.goEng_touches _ _ _ ?_)
      on_goal 2 => exact Part.within_trans rfl hw
      with_reducible refine Touches.step ?_ (State.inDropped_touches _ _ ?_)
      on_goal 2 => exact Part.within_trans rfl hw
      with_reducible exact Touches.refl _ _
    ·
      with_reducible refine Touches.ite ?_ ?_
      ·
        with_reducible refine Touches.step ?_ (State.complete_touches _ _ _ _ _ _ _ ?_)
        on_goal 2 => exact Part.within_trans rfl hw
        with_reducible exact Touches.refl _ _
      ·
        with_reducible refine Touches.step ?_ (State.outBegin_touches _ _ _ ?_)
        on_goal 2 => exact Part.within_trans rfl hw
        with_reducible exact Touches.refl _ _

theorem State.engDrained_touches {ps : List Part} s a1 (hw : Part.within [.clk, .ready, .regs, .evt, .hif, .lanes, .grps, .sw, .fab, .bpm, .fdb, .tcore, .tchans, .lnk, .ref, .free, .pll, .gnss, .tic, .cal, .eng, .spad, .pair, .pwr, .boot, .counters] ps = true) : Touches ps s (State.engDrained s a1) := by
  unfold State.engDrained
  with_reducible refine Touches.step ?_ (State.pwrSettle_touches _ ?_)
  on_goal 2 => exact Part.within_trans rfl hw
  with_reducible refine Touches.step ?_ (State.abandonEnd_touches _ ?_)
  on_goal 2 => exact Part.within_trans rfl hw
  with_reducible refine Touches.step ?_ (State.entryE3_touches _ ?_)
  on_goal 2 => exact Part.within_trans rfl hw
  with_reducible refine Touches.step ?_ (State.engDrainEnd_touches _ _ ?_)
  on_goal 2 => exact Part.within_trans rfl hw
  with_reducible exact Touches.refl _ _

theorem State.engLoad_touches {ps : List Part} s a1 (hw : Part.within [.keys, .evt, .hif, .eng, .boot, .rc .evtPinStat, .rc .evtSuppressed, .rc .hifEvtLost, .rc .hifRingAborted] ps = true) : Touches ps s (State.engLoad s a1) := by
  unfold State.engLoad
  try extract_lets -merge -underBinder t0 t1
  try clear_value t0
  try clear_value t1
  with_reducible refine Touches.step ?_ (State.runCmd_touches _ _ _ _ _ ?_ (fun _ => ?_))
  on_goal 2 => exact Part.within_trans rfl hw
  ·
    with_reducible exact Touches.refl _ _
  ·
    try extract_lets -merge -underBinder t2 t3
    try clear_value t2
    try clear_value t3
    with_reducible refine Touches.ite ?_ ?_
    ·
      with_reducible refine Touches.step ?_ (State.complete_touches _ _ _ _ _ _ _ ?_)
      on_goal 2 => exact Part.within_trans rfl hw
      with_reducible exact Touches.refl _ _
    ·
      with_reducible refine Touches.ite ?_ ?_
      ·
        with_reducible refine Touches.step ?_ (State.complete_touches _ _ _ _ _ _ _ ?_)
        on_goal 2 => exact Part.within_trans rfl hw
        with_reducible exact Touches.refl _ _
      ·
        with_reducible refine Touches.step ?_ (State.complete_touches _ _ _ _ _ _ _ ?_)
        on_goal 2 => exact Part.within_trans rfl hw
        with_reducible refine Touches.step ?_ (State.imageLoad_touches _ _ _ ?_)
        on_goal 2 => exact Part.within_trans rfl hw
        with_reducible exact Touches.refl _ _

theorem State.engIn_touches {ps : List Part} s a1 (hw : Part.within [.keys, .evt, .hif, .eng, .boot, .rc .evtPinStat, .rc .evtSuppressed, .rc .hifEvtLost, .rc .hifRingAborted] ps = true) : Touches ps s (State.engIn s a1) := by
  unfold State.engIn
  try extract_lets -merge -underBinder t0
  try clear_value t0
  with_reducible refine Touches.step ?_ (State.runCmd_touches _ _ _ _ _ ?_ (fun _ => ?_))
  on_goal 2 => exact Part.within_trans rfl hw
  ·
    with_reducible exact Touches.refl _ _
  ·
    try extract_lets -merge -underBinder t1
    with_reducible refine Touches.step ?_ (State.goEng_touches _ _ _ ?_)
    on_goal 2 => exact Part.within_trans rfl hw
    with_reducible refine Touches.step ?_ (State.setEng_touches _ _ _ ?_)
    on_goal 2 => exact Part.within_trans rfl hw
    with_reducible exact Touches.refl _ _

theorem State.engReplayed_touches {ps : List Part} s a1 a2 (hw : Part.within [.clk, .ready, .keys, .regs, .evt, .hif, .index, .objs, .lanes, .grps, .sw, .fab, .bpm, .fdb, .tcore, .tchans, .lnk, .ref, .free, .pll, .gnss, .tic, .cal, .eng, .spad, .pair, .pwr, .boot, .counters] ps = true) : Touches ps s (State.engReplayed s a1 a2) := by
  unfold State.engReplayed
  with_reducible refine Touches.step ?_ (State.abandonEnd_touches _ ?_)
  on_goal 2 => exact Part.within_trans rfl hw
  with_reducible refine Touches.step ?_ (State.engReplayDone_touches _ _ _ ?_)
  on_goal 2 => exact Part.within_trans rfl hw
  with_reducible exact Touches.refl _ _

theorem State.dmaIn_touches {ps : List Part} (s : State) (x : Nat × Option Nat × Nat) (o : Nat) (data : List Byte) (clash : List (Nat × Word)) (n : Nat)
    (hw : Part.within [.evt, .hif, .eng, .spad, .rc .engSpadBankErr, .rc .engSpadLost, .rc .evtPinStat, .rc .evtSuppressed, .rc .hifEvtLost] ps = true) : Touches ps s (State.dmaIn (s, x) o data clash n).1 := by
  induction n generalizing s x o data with
  | zero => exact Touches.refl _ _
  | succ n ih =>
    unfold State.dmaIn
    exact (State.dmaWord_touches s x o _ _ hw).step (ih _ _ _ _)

theorem State.spadDma_touches {ps : List Part} (s : State) (d : CmdDesc) (data : List Byte) (clash : List (Nat × Word)) (hw : Part.within [.keys, .evt, .hif, .eng, .spad, .boot, .rc .engSpadBankErr, .rc .engSpadLost, .rc .evtPinStat, .rc .evtSuppressed, .rc .hifEvtLost, .rc .hifRingAborted] ps = true) :
    Touches ps s (s.spadDma d data clash) := by
  unfold State.spadDma
  extract_lets -underBinder out o n c
  refine State.runCmd_touches _ _ _ _ _ (Part.within_trans rfl hw) (fun u => ?_)
  split
  · extract_lets x y t
    have ht : Touches ps u t := (State.dmaOff_touches u o (n / 4) (Part.within_trans rfl hw)).step
      (Touches.mk hw (Touches.refl _ _))
    exact ht.step (State.complete_touches _ _ _ _ _ _ _ (Part.within_trans rfl hw))
  · exact (State.dmaIn_touches u _ _ _ _ _ (Part.within_trans rfl hw)).step (State.complete_touches _ _ _ _ _ _ _ (Part.within_trans rfl hw))

theorem State.engImgCommit_touches {ps : List Part} s a1 (hw : Part.within [.keys, .evt, .pers, .hif, .boot, .rc .evtPinStat, .rc .evtSuppressed, .rc .hifEvtLost, .rc .hifRingAborted] ps = true) : Touches ps s (State.engImgCommit s a1) := by
  unfold State.engImgCommit
  try extract_lets -merge -underBinder t0
  try clear_value t0
  with_reducible refine Touches.step ?_ (State.runCmd_touches _ _ _ _ _ ?_ (fun _ => ?_))
  on_goal 2 => exact Part.within_trans rfl hw
  ·
    with_reducible exact Touches.refl _ _
  ·
    try extract_lets -merge -underBinder t1 t2 t3
    try clear_value t1
    try clear_value t2
    try clear_value t3
    with_reducible refine Touches.ite ?_ ?_
    ·
      with_reducible refine Touches.step ?_ (State.complete_touches _ _ _ _ _ _ _ ?_)
      on_goal 2 => exact Part.within_trans rfl hw
      with_reducible exact Touches.refl _ _
    ·
      with_reducible refine Touches.step ?_ (State.complete_touches _ _ _ _ _ _ _ ?_)
      on_goal 2 => exact Part.within_trans rfl hw
      with_reducible refine Touches.step ?_ (State.persStore_touches _ _ _ ?_)
      on_goal 2 => exact Part.within_trans rfl hw
      with_reducible exact Touches.refl _ _

theorem State.perfPcWrap_touches {ps : List Part} s a1 a2 (hw : Part.within [.counters] ps = true) : Touches ps s (State.perfPcWrap s a1 a2) := by
  unfold State.perfPcWrap
  with_reducible refine Touches.ite ?_ ?_
  ·
    with_reducible exact Touches.refl _ _
  ·
    refine Touches.mk hw ?_
    with_reducible exact Touches.refl _ _

theorem State.omdFrameBad_touches {ps : List Part} s (hw : Part.within [.rc .pairOmdErr] ps = true) : Touches ps s (State.omdFrameBad s) := by
  unfold State.omdFrameBad
  with_reducible refine Touches.ite ?_ ?_
  ·
    with_reducible refine Touches.step ?_ (State.bump_touches _ _ _ _ ?_)
    on_goal 2 => exact Part.within_trans rfl hw
    with_reducible exact Touches.refl _ _
  ·
    with_reducible exact Touches.refl _ _

theorem State.heartbeat_touches {ps : List Part} s a1 (hw : Part.within [.clk, .keys, .regs, .evt, .hif, .index, .objs, .sw, .fab, .bpm, .fdb, .tcore, .ref, .free, .eng, .pair, .pwr, .boot, .rc .bpmDoubleFreeCnt, .rc .bpmForeignFreeCnt, .rc .bpmPoolEmptyCnt, .rc .bpmPromoteCnt, .rc .evtPinStat, .rc .evtSuppressed, .rc .hifEvtLost, .rc .hifRingAborted, .rc .pairMirOvf, .rc .pairPromoteCnt, .rc .perfTagDrop, .rc .pwrWakeSrc] ps = true) : Touches ps s (State.heartbeat s a1) := by
  unfold State.heartbeat
  try extract_lets -merge -underBinder t0 t1
  refine Touches.haveS (t := t0) ?_ (fun ht0 => ?_)
  ·
    unfold t0
    with_reducible refine Touches.step ?_ (State.omdAck_touches _ _ ?_)
    on_goal 2 => exact Part.within_trans rfl hw
    with_reducible exact Touches.refl _ _
  try clear_value t0
  with_reducible refine Touches.ite ?_ ?_
  ·
    with_reducible exact Touches.refl _ _
  ·
    with_reducible refine Touches.step ?_ (State.hbTake_touches _ _ _ ?_)
    on_goal 2 => exact Part.within_trans rfl hw
    with_reducible refine Touches.ite ?_ ?_
    ·
      with_reducible refine Touches.set_pair ?_ ?_
      on_goal 2 => exact Part.within_mem rfl hw
      with_reducible exact ht0
    ·
      with_reducible exact ht0

theorem State.pairTime_touches {ps : List Part} s a1 a2 (hw : Part.within [.clk, .keys, .regs, .evt, .hif, .index, .objs, .lanes, .grps, .sw, .fab, .bpm, .fdb, .tcore, .tchans, .lnk, .ref, .free, .pll, .tic, .cal, .eng, .pair, .pwr, .boot, .rc .bpmDoubleFreeCnt, .rc .bpmForeignFreeCnt, .rc .bpmPoolEmptyCnt, .rc .bpmPromoteCnt, .rc .calAbortCnt, .rc .evtPinStat, .rc .evtSuppressed, .rc .hifEvtLost, .rc .hifRingAborted, .rc .pairMirOvf, .rc .pairPromoteCnt, .rc .perfTagDrop, .rc .pllCnt, .rc .portHoldFlush, .rc .pwrWakeSrc] ps = true) : Touches ps s (State.pairTime s a1 a2) := by
  unfold State.pairTime
  try extract_lets -merge -underBinder t0 t1
  refine Touches.haveS (t := t1) ?_ (fun ht1 => ?_)
  ·
    unfold t1
    with_reducible refine Touches.set_pair ?_ ?_
    on_goal 2 => exact Part.within_mem rfl hw
    with_reducible exact Touches.refl _ _
  try clear_value t1
  with_reducible refine Touches.ite ?_ ?_
  ·
    with_reducible exact Touches.refl _ _
  ·
    split
    ·
      with_reducible exact ht1
    ·
      try extract_lets -merge -underBinder t2 t3 t4 t5 t6
      try clear_value t2
      try clear_value t3
      try clear_value t4
      refine Touches.haveS (t := t6) ?_ (fun ht6 => ?_)
      ·
        unfold t6
        with_reducible refine Touches.set_pair ?_ ?_
        on_goal 2 => exact Part.within_mem rfl hw
        with_reducible exact ht1
      try clear_value t6
      with_reducible refine Touches.ite ?_ ?_
      ·
        with_reducible refine Touches.step ?_ (State.servoTake_touches _ _ ?_)
        on_goal 2 => exact Part.within_trans rfl hw
        with_reducible exact ht6
      ·
        with_reducible exact ht6

theorem State.omdRetransmit_touches {ps : List Part} s a1 (hw : Part.within [.ready, .evt, .hif, .pair, .rc .evtPinStat, .rc .evtSuppressed, .rc .hifEvtLost, .rc .pairOmdErr] ps = true) : Touches ps s (State.omdRetransmit s a1) := by
  unfold State.omdRetransmit
  split
  ·
    with_reducible exact Touches.refl _ _
  ·
    try extract_lets -merge -underBinder t0 t1
    with_reducible refine Touches.ite ?_ ?_
    ·
      with_reducible exact Touches.refl _ _
    ·
      with_reducible refine Touches.ite ?_ ?_
      ·
        with_reducible refine Touches.step ?_ (State.setLanes_touches _ _ ?_)
        on_goal 2 => exact Part.within_trans rfl hw
        with_reducible refine Touches.set_pair ?_ ?_
        on_goal 2 => exact Part.within_mem rfl hw
        with_reducible exact Touches.refl _ _
      ·
        with_reducible refine Touches.step ?_ (State.bump_touches _ _ _ _ ?_)
        on_goal 2 => exact Part.within_trans rfl hw
        with_reducible refine Touches.set_pair ?_ ?_
        on_goal 2 => exact Part.within_mem rfl hw
        with_reducible exact Touches.refl _ _

theorem State.pairHbSend_touches {ps : List Part} s (hw : Part.within [.pair] ps = true) : Touches ps s (State.pairHbSend s) := by
  unfold State.pairHbSend
  try extract_lets -merge -underBinder t0
  with_reducible refine Touches.ite ?_ ?_
  ·
    with_reducible refine Touches.set_pair ?_ ?_
    on_goal 2 => exact Part.within_mem rfl hw
    with_reducible exact Touches.refl _ _
  ·
    with_reducible exact Touches.refl _ _

theorem State.inbHeartbeatRx_touches {ps : List Part} s a1 a2 (hw : Part.within [.clk, .keys, .regs, .evt, .hif, .index, .objs, .sw, .fab, .bpm, .fdb, .tcore, .ref, .free, .eng, .pair, .pwr, .boot, .rc .bpmDoubleFreeCnt, .rc .bpmForeignFreeCnt, .rc .bpmPoolEmptyCnt, .rc .bpmPromoteCnt, .rc .evtPinStat, .rc .evtSuppressed, .rc .hifEvtLost, .rc .hifRingAborted, .rc .pairMirOvf, .rc .pairPromoteCnt, .rc .perfTagDrop, .rc .pwrWakeSrc] ps = true) : Touches ps s (State.inbHeartbeatRx s a1 a2) := by
  unfold State.inbHeartbeatRx
  with_reducible refine Touches.ite ?_ ?_
  ·
    with_reducible exact Touches.refl _ _
  ·
    with_reducible refine Touches.step ?_ (State.hbTake_touches _ _ _ ?_)
    on_goal 2 => exact Part.within_trans rfl hw
    with_reducible exact Touches.refl _ _

theorem State.mirrorDeltaAge_touches {ps : List Part} s (hw : Part.within [.pair] ps = true) : Touches ps s (State.mirrorDeltaAge s) := by
  unfold State.mirrorDeltaAge
  try extract_lets -merge -underBinder t0
  with_reducible refine Touches.ite ?_ ?_
  ·
    with_reducible refine Touches.set_pair ?_ ?_
    on_goal 2 => exact Part.within_mem rfl hw
    with_reducible exact Touches.refl _ _
  ·
    with_reducible exact Touches.refl _ _

theorem State.pairRehearseTimer_touches {ps : List Part} s (hw : Part.within [.pair] ps = true) : Touches ps s (State.pairRehearseTimer s) := by
  unfold State.pairRehearseTimer
  with_reducible refine Touches.ite ?_ ?_
  ·
    with_reducible refine Touches.step ?_ (State.rehearseStart_touches _ _ ?_)
    on_goal 2 => exact Part.within_trans rfl hw
    with_reducible exact Touches.refl _ _
  ·
    with_reducible exact Touches.refl _ _

theorem State.pwrEntryDrainEnd_touches {ps : List Part} s (hw : Part.within [.clk, .ready, .regs, .evt, .hif, .lanes, .grps, .sw, .fab, .bpm, .fdb, .tcore, .tchans, .lnk, .ref, .free, .pll, .gnss, .tic, .cal, .eng, .spad, .pair, .pwr, .boot, .counters] ps = true) : Touches ps s (State.pwrEntryDrainEnd s) := by
  unfold State.pwrEntryDrainEnd
  with_reducible refine Touches.step ?_ (State.pwrSettle_touches _ ?_)
  on_goal 2 => exact Part.within_trans rfl hw
  with_reducible refine Touches.step ?_ (State.abandonEnd_touches _ ?_)
  on_goal 2 => exact Part.within_trans rfl hw
  with_reducible refine Touches.step ?_ (State.entryE2_touches _ ?_)
  on_goal 2 => exact Part.within_trans rfl hw
  with_reducible exact Touches.refl _ _

theorem State.pwrWakeTimerMatch_touches {ps : List Part} s (hw : Part.within [.evt, .hif, .pwr, .rc .evtPinStat, .rc .evtSuppressed, .rc .hifEvtLost, .rc .pwrWakeSrc] ps = true) : Touches ps s (State.pwrWakeTimerMatch s) := by
  unfold State.pwrWakeTimerMatch
  with_reducible refine Touches.ite ?_ ?_
  ·
    with_reducible exact Touches.refl _ _
  ·
    with_reducible refine Touches.step ?_ (State.wakeEvent_touches _ _ ?_)
    on_goal 2 => exact Part.within_trans rfl hw
    with_reducible exact Touches.refl _ _

theorem State.wakeFailed_touches {ps : List Part} s a1 a2 (hw : Part.within [.evt, .hif, .pwr, .rc .evtPinStat, .rc .evtSuppressed, .rc .hifEvtLost, .rc .pwrFailCnt] ps = true) : Touches ps s (State.wakeFailed s a1 a2) := by
  unfold State.wakeFailed
  try extract_lets -merge -underBinder t0 t1
  refine Touches.haveS (t := t1) ?_ (fun ht1 => ?_)
  ·
    unfold t1
    with_reducible refine Touches.set_pwr ?_ ?_
    on_goal 2 => exact Part.within_mem rfl hw
    with_reducible exact Touches.refl _ _
  try clear_value t1
  with_reducible refine Touches.step ?_ (State.raise_touches _ _ _ _ _ ?_)
  on_goal 2 => exact Part.within_trans rfl hw
  with_reducible refine Touches.step ?_ (State.bump_touches _ _ _ _ ?_)
  on_goal 2 => exact Part.within_trans rfl hw
  with_reducible exact ht1

theorem State.pwrWakeSupplyTimeout_touches {ps : List Part} s a1 (hw : Part.within [.clk, .ready, .regs, .evt, .hif, .lanes, .grps, .sw, .fab, .bpm, .fdb, .tcore, .tchans, .lnk, .ref, .free, .pll, .gnss, .tic, .cal, .eng, .spad, .pair, .pwr, .boot, .counters] ps = true) : Touches ps s (State.pwrWakeSupplyTimeout s a1) := by
  unfold State.pwrWakeSupplyTimeout
  split
  ·
    try extract_lets -merge -underBinder t0 t1
    refine Touches.haveS (t := t0) ?_ (fun ht0 => ?_)
    ·
      unfold t0
      with_reducible refine Touches.step ?_ (State.wakeFailed_touches _ _ _ ?_)
      on_goal 2 => exact Part.within_trans rfl hw
      with_reducible exact Touches.refl _ _
    try clear_value t0
    with_reducible refine Touches.step ?_ (State.pwrSettle_touches _ ?_)
    on_goal 2 => exact Part.within_trans rfl hw
    with_reducible refine Touches.set_pwr ?_ ?_
    on_goal 2 => exact Part.within_mem rfl hw
    with_reducible exact ht0
  ·
    with_reducible exact Touches.refl _ _

theorem State.domUp_touches {ps : List Part} s a1 (hw : Part.within [.ready, .regs, .evt, .hif, .pll, .gnss, .tic, .cal, .eng, .spad, .pwr, .rc .evtPinStat, .rc .evtSuppressed, .rc .gnssLossCnt, .rc .hifEvtLost] ps = true) : Touches ps s (State.domUp s a1) := by
  unfold State.domUp
  split
  ·
    with_reducible refine Touches.step ?_ (State.domWake_touches _ _ ?_)
    on_goal 2 => exact Part.within_trans rfl hw
    with_reducible exact Touches.refl _ _
  ·
    with_reducible refine Touches.step ?_ (State.domWake_touches _ _ ?_)
    on_goal 2 => exact Part.within_trans rfl hw
    with_reducible exact Touches.refl _ _
  ·
    with_reducible refine Touches.step ?_ (State.gnssUp_touches _ ?_)
    on_goal 2 => exact Part.within_trans rfl hw
    with_reducible refine Touches.step ?_ (State.domWake_touches _ _ ?_)
    on_goal 2 => exact Part.within_trans rfl hw
    with_reducible exact Touches.refl _ _
  ·
    with_reducible refine Touches.step ?_ (State.ticUp_touches _ ?_)
    on_goal 2 => exact Part.within_trans rfl hw
    with_reducible refine Touches.step ?_ (State.setReady_touches _ _ _ ?_)
    on_goal 2 => exact Part.within_trans rfl hw
    with_reducible refine Touches.step ?_ (State.domWake_touches _ _ ?_)
    on_goal 2 => exact Part.within_trans rfl hw
    with_reducible exact Touches.refl _ _
  ·
    try extract_lets -merge -underBinder t0
    refine Touches.haveS (t := t0) ?_ (fun ht0 => ?_)
    ·
      unfold t0
      with_reducible refine Touches.step ?_ (State.domWake_touches _ _ ?_)
      on_goal 2 => exact Part.within_trans rfl hw
      with_reducible exact Touches.refl _ _
    try clear_value t0
    with_reducible refine Touches.foldl (fun _ _ => ?_) _ ?_
    ·
      with_reducible refine Touches.ite ?_ ?_
      ·
        with_reducible refine Touches.step ?_ (State.pllStart_touches _ _ ?_)
        on_goal 2 => exact Part.within_trans rfl hw
        with_reducible exact Touches.refl _ _
      ·
        with_reducible exact Touches.refl _ _
    ·
      with_reducible exact ht0
  ·
    with_reducible refine Touches.step ?_ (State.pllStart_touches _ _ ?_)
    on_goal 2 => exact Part.within_trans rfl hw
    with_reducible refine Touches.step ?_ (State.domWake_touches _ _ ?_)
    on_goal 2 => exact Part.within_trans rfl hw
    with_reducible exact Touches.refl _ _
  ·
    try extract_lets -merge -underBinder t1
    refine Touches.haveS (t := t1) ?_ (fun ht1 => ?_)
    ·
      unfold t1
      with_reducible refine Touches.step ?_ (State.padHold_touches _ _ _ ?_)
      on_goal 2 => exact Part.within_trans rfl hw
      with_reducible refine Touches.step ?_ (State.domWake_touches _ _ ?_)
      on_goal 2 => exact Part.within_trans rfl hw
      with_reducible exact Touches.refl _ _
    try clear_value t1
    with_reducible refine Touches.foldl (fun _ _ => ?_) _ ?_
    ·
      with_reducible refine Touches.step ?_ (State.ringStart_touches _ _ ?_)
      on_goal 2 => exact Part.within_trans rfl hw
      with_reducible exact Touches.refl _ _
    ·
      with_reducible exact ht1
  ·
    with_reducible refine Touches.step ?_ (State.domWake_touches _ _ ?_)
    on_goal 2 => exact Part.within_trans rfl hw
    with_reducible exact Touches.refl _ _
  ·
    try extract_lets -merge -underBinder t2 t3 t4
    refine Touches.haveS (t := t2) ?_ (fun ht2 => ?_)
    ·
      unfold t2
      with_reducible refine Touches.step ?_ (State.domWake_touches _ _ ?_)
      on_goal 2 => exact Part.within_trans rfl hw
      with_reducible exact Touches.refl _ _
    try clear_value t2
    refine Touches.haveS (t := t3) ?_ (fun ht3 => ?_)
    ·
      unfold t3
      with_reducible refine Touches.step ?_ (State.setBankMode_touches _ _ _ ?_)
      on_goal 2 => exact Part.within_trans rfl hw
      with_reducible exact Touches.refl _ _
    try clear_value t3
    with_reducible refine Touches.ite ?_ ?_
    ·
      with_reducible refine Touches.step ?_ (State.grpWake_touches _ _ ?_)
      on_goal 2 => exact Part.within_trans rfl hw
      with_reducible exact Touches.refl _ _
    ·
      with_reducible refine Touches.ite ?_ ?_
      ·
        with_reducible refine Touches.ite ?_ ?_
        ·
          with_reducible refine Touches.step ?_ (State.goEng_touches _ _ _ ?_)
          on_goal 2 => exact Part.within_trans rfl hw
          with_reducible exact ht2
        ·
          with_reducible exact ht2
      ·
        with_reducible refine Touches.set_pwr ?_ ?_
        on_goal 2 => exact Part.within_mem rfl hw
        with_reducible exact ht3

theorem State.pwrSwitchGood_touches {ps : List Part} s a1 (hw : Part.within [.clk, .ready, .regs, .evt, .hif, .lanes, .grps, .sw, .fab, .bpm, .fdb, .tcore, .tchans, .lnk, .ref, .free, .pll, .gnss, .tic, .cal, .eng, .spad, .pair, .pwr, .boot, .counters] ps = true) : Touches ps s (State.pwrSwitchGood s a1) := by
  unfold State.pwrSwitchGood
  with_reducible refine Touches.ite ?_ ?_
  ·
    with_reducible refine Touches.step ?_ (State.switchDone_touches _ _ ?_)
    on_goal 2 => exact Part.within_trans rfl hw
    with_reducible refine Touches.step ?_ (State.domUp_touches _ _ ?_)
    on_goal 2 => exact Part.within_trans rfl hw
    with_reducible exact Touches.refl _ _
  ·
    with_reducible exact Touches.refl _ _

theorem State.pwrSwitchTimeout_touches {ps : List Part} s a1 (hw : Part.within [.clk, .ready, .regs, .evt, .hif, .lanes, .grps, .sw, .fab, .bpm, .fdb, .tcore, .tchans, .lnk, .ref, .free, .pll, .gnss, .tic, .cal, .eng, .spad, .pair, .pwr, .boot, .counters] ps = true) : Touches ps s (State.pwrSwitchTimeout s a1) := by
  unfold State.pwrSwitchTimeout
  try extract_lets -merge -underBinder t0 t1
  refine Touches.haveS (t := t0) ?_ (fun ht0 => ?_)
  ·
    unfold t0
    with_reducible refine Touches.step ?_ (State.wakeFailed_touches _ _ _ ?_)
    on_goal 2 => exact Part.within_trans rfl hw
    with_reducible exact Touches.refl _ _
  try clear_value t0
  with_reducible refine Touches.ite ?_ ?_
  ·
    with_reducible refine Touches.step ?_ (State.switchDone_touches _ _ ?_)
    on_goal 2 => exact Part.within_trans rfl hw
    with_reducible refine Touches.set_pwr ?_ ?_
    on_goal 2 => exact Part.within_mem rfl hw
    with_reducible exact ht0
  ·
    with_reducible exact Touches.refl _ _

theorem State.persLoss_touches {ps : List Part} s (hw : Part.within [.pers, .free] ps = true) : Touches ps s (State.persLoss s) := by
  unfold State.persLoss
  with_reducible refine Touches.foldl (fun _ _ => ?_) _ ?_
  ·
    try extract_lets -merge -underBinder t0 t1
    try clear_value t0
    refine Touches.mk hw ?_
    with_reducible exact Touches.refl _ _
  ·
    with_reducible exact Touches.refl _ _

theorem State.powerOnReset_touches {ps : List Part} s (hw : Part.within [.variant, .fused, .clk, .ready, .keys, .regs, .mbx, .rd, .rdI2c, .evt, .pers, .hif, .index, .objs, .lanes, .grps, .sw, .fab, .bpm, .fdb, .tcore, .tchans, .lnk, .ref, .free, .pll, .gnss, .tic, .cal, .eng, .spad, .pair, .pwr, .boot, .flash, .pending, .counters] ps = true) : Touches ps s (State.powerOnReset s) := by
  unfold State.powerOnReset
  try extract_lets -merge -underBinder t0 t1
  refine Touches.haveS (t := t0) ?_ (fun ht0 => ?_)
  ·
    unfold t0
    with_reducible refine Touches.step ?_ (State.hardReset_touches _ ?_)
    on_goal 2 => exact Part.within_trans rfl hw
    with_reducible refine Touches.step ?_ (State.persLoss_touches _ ?_)
    on_goal 2 => exact Part.within_trans rfl hw
    with_reducible exact Touches.refl _ _
  try clear_value t0
  with_reducible refine Touches.set_pwr ?_ ?_
  on_goal 2 => exact Part.within_mem rfl hw
  with_reducible exact ht0

theorem State.partReset_touches {ps : List Part} s a1 (hw : Part.within [.variant, .fused, .clk, .ready, .keys, .regs, .mbx, .rd, .rdI2c, .evt, .pers, .hif, .index, .objs, .lanes, .grps, .sw, .fab, .bpm, .fdb, .tcore, .tchans, .lnk, .ref, .free, .pll, .gnss, .tic, .cal, .eng, .spad, .pair, .pwr, .boot, .flash, .pending, .counters] ps = true) : Touches ps s (State.partReset s a1) := by
  unfold State.partReset
  try extract_lets -merge -underBinder t0 t1
  try clear_value t0
  refine Touches.haveS (t := t1) ?_ (fun ht1 => ?_)
  ·
    unfold t1
    with_reducible refine Touches.set_free ?_ ?_
    on_goal 2 => exact Part.within_mem rfl hw
    with_reducible exact Touches.refl _ _
  try clear_value t1
  with_reducible refine Touches.ite ?_ ?_
  ·
    with_reducible exact Touches.refl _ _
  ·
    with_reducible refine Touches.ite ?_ ?_
    ·
      with_reducible refine Touches.step ?_ (State.partResetHold_touches _ _ ?_)
      on_goal 2 => exact Part.within_trans rfl hw
      with_reducible exact Touches.refl _ _
    ·
      with_reducible refine Touches.ite ?_ ?_
      ·
        with_reducible refine Touches.step ?_ (State.partResetHold_touches _ _ ?_)
        on_goal 2 => exact Part.within_trans rfl hw
        with_reducible exact ht1
      ·
        with_reducible exact ht1

theorem State.flashReadCmd_touches {ps : List Part} (s : State) (d : CmdDesc) (us : Nat) (hw : Part.within [.keys, .evt, .hif, .free, .eng, .spad, .boot, .rc .engSpadBankErr, .rc .engSpadLost, .rc .evtPinStat, .rc .evtSuppressed, .rc .hifEvtLost, .rc .hifRingAborted] ps = true) :
    Touches ps s (s.flashReadCmd d us) := by
  unfold State.flashReadCmd
  extract_lets a o n c fw
  refine State.runCmd_touches _ _ _ _ _ (Part.within_trans rfl hw) (fun u => ?_)
  refine Touches.ite (State.complete_touches _ _ _ _ _ _ _ (Part.within_trans rfl hw)) ?_
  have h0 : Touches ps u { u with free := u.free + n } := Touches.set_free (Touches.refl _ _) (Part.within_mem rfl hw)
  exact (h0.step (State.dmaIn_touches _ _ _ _ _ _ (Part.within_trans rfl hw))).step (State.complete_touches _ _ _ _ _ _ _ (Part.within_trans rfl hw))

theorem State.unitRun_touches {ps : List Part} s a1 a2 (hw : Part.within [.clk, .ready, .keys, .regs, .evt, .pers, .hif, .index, .objs, .lanes, .grps, .sw, .fab, .bpm, .fdb, .tcore, .tchans, .lnk, .ref, .free, .pll, .gnss, .tic, .cal, .eng, .spad, .pair, .pwr, .boot, .flash, .rc .bpmDoubleFreeCnt, .rc .bpmForeignFreeCnt, .rc .bpmPoolEmptyCnt, .rc .bpmPromoteCnt, .rc .calAbortCnt, .rc .engSpadBankErr, .rc .engSpadLost, .rc .evtPinStat, .rc .evtSuppressed, .rc .fdbLearnFail, .rc .hifEvtLost, .rc .hifRingAborted, .rc .pairMirOvf, .rc .pairPromoteCnt, .rc .perfTagDrop, .rc .pllCnt, .rc .portHoldFlush, .rc .pwrWakeSrc, .rc .refHoldoffCnt] ps = true) : Touches ps s (State.unitRun s a1 a2) := by
  unfold State.unitRun
  try extract_lets -merge -underBinder t0 t1
  try clear_value t0
  refine Touches.haveS (t := t1) ?_ (fun ht1 => ?_)
  ·
    unfold t1
    with_reducible refine Touches.set_free ?_ ?_
    on_goal 2 => exact Part.within_mem rfl hw
    with_reducible exact Touches.refl _ _
  try clear_value t1
  split
  ·
    with_reducible refine Touches.step ?_ (State.flashReadCmd_touches _ _ _ ?_)
    on_goal 2 => exact Part.within_trans rfl hw
    with_reducible exact ht1
  ·
    with_reducible refine Touches.step ?_ (State.flashWriteCmd_touches _ _ _ _ ?_)
    on_goal 2 => exact Part.within_trans rfl hw
    with_reducible exact ht1
  ·
    with_reducible refine Touches.step ?_ (State.admTake_touches _ _ _ _ ?_)
    on_goal 2 => exact Part.within_trans rfl hw
    with_reducible exact Touches.refl _ _
  ·
    with_reducible refine Touches.step ?_ (State.gclGet_touches _ _ ?_)
    on_goal 2 => exact Part.within_trans rfl hw
    with_reducible exact Touches.refl _ _
  ·
    with_reducible refine Touches.step ?_ (State.admTake_touches _ _ _ _ ?_)
    on_goal 2 => exact Part.within_trans rfl hw
    with_reducible exact Touches.refl _ _
  ·
    with_reducible refine Touches.step ?_ (State.bpmCarve_touches _ _ ?_)
    on_goal 2 => exact Part.within_trans rfl hw
    with_reducible exact Touches.refl _ _
  ·
    with_reducible refine Touches.step ?_ (State.bpmAuditRun_touches _ _ ?_)
    on_goal 2 => exact Part.within_trans rfl hw
    with_reducible exact Touches.refl _ _
  ·
    with_reducible refine Touches.step ?_ (State.fdbAdd_touches _ _ ?_)
    on_goal 2 => exact Part.within_trans rfl hw
    with_reducible exact Touches.refl _ _
  ·
    with_reducible refine Touches.step ?_ (State.fdbDel_touches _ _ ?_)
    on_goal 2 => exact Part.within_trans rfl hw
    with_reducible exact Touches.refl _ _
  ·
    with_reducible refine Touches.step ?_ (State.fdbLookup_touches _ _ ?_)
    on_goal 2 => exact Part.within_trans rfl hw
    with_reducible exact Touches.refl _ _
  ·
    with_reducible refine Touches.step ?_ (State.fdbFlush_touches _ _ ?_)
    on_goal 2 => exact Part.within_trans rfl hw
    with_reducible exact Touches.refl _ _
  ·
    with_reducible refine Touches.step ?_ (State.fdbVlanSet_touches _ _ ?_)
    on_goal 2 => exact Part.within_trans rfl hw
    with_reducible exact Touches.refl _ _
  ·
    with_reducible refine Touches.step ?_ (State.fdbMcgSet_touches _ _ ?_)
    on_goal 2 => exact Part.within_trans rfl hw
    with_reducible exact Touches.refl _ _
  ·
    with_reducible refine Touches.step ?_ (State.fdbClsSet_touches _ _ ?_)
    on_goal 2 => exact Part.within_trans rfl hw
    with_reducible exact Touches.refl _ _
  ·
    with_reducible refine Touches.step ?_ (State.fdbClsDel_touches _ _ ?_)
    on_goal 2 => exact Part.within_trans rfl hw
    with_reducible exact Touches.refl _ _
  ·
    with_reducible refine Touches.step ?_ (State.fdbCbSet_touches _ _ ?_)
    on_goal 2 => exact Part.within_trans rfl hw
    with_reducible exact Touches.refl _ _
  ·
    with_reducible refine Touches.step ?_ (State.timeStep_touches _ _ ?_)
    on_goal 2 => exact Part.within_trans rfl hw
    with_reducible exact Touches.refl _ _
  ·
    with_reducible refine Touches.step ?_ (State.timeSet_touches _ _ ?_)
    on_goal 2 => exact Part.within_trans rfl hw
    with_reducible exact Touches.refl _ _
  ·
    with_reducible refine Touches.step ?_ (State.refCandSet_touches _ _ ?_)
    on_goal 2 => exact Part.within_trans rfl hw
    with_reducible exact Touches.refl _ _
  ·
    with_reducible refine Touches.step ?_ (State.refRealign_touches _ _ ?_)
    on_goal 2 => exact Part.within_trans rfl hw
    with_reducible exact Touches.refl _ _
  ·
    with_reducible refine Touches.step ?_ (State.refMdlReset_touches _ _ ?_)
    on_goal 2 => exact Part.within_trans rfl hw
    with_reducible exact Touches.refl _ _
  ·
    with_reducible refine Touches.step ?_ (State.pllRampLoad_touches _ _ ?_)
    on_goal 2 => exact Part.within_trans rfl hw
    with_reducible exact Touches.refl _ _
  ·
    with_reducible refine Touches.step ?_ (State.rampCtrl_touches _ _ ?_)
    on_goal 2 => exact Part.within_trans rfl hw
    with_reducible exact Touches.refl _ _
  ·
    with_reducible refine Touches.step ?_ (State.pllAlign_touches _ _ ?_)
    on_goal 2 => exact Part.within_trans rfl hw
    with_reducible exact Touches.refl _ _
  ·
    with_reducible refine Touches.step ?_ (State.pllReturnCmd_touches _ _ ?_)
    on_goal 2 => exact Part.within_trans rfl hw
    with_reducible exact Touches.refl _ _
  ·
    with_reducible refine Touches.step ?_ (State.gnssSect_touches _ _ ?_)
    on_goal 2 => exact Part.within_trans rfl hw
    with_reducible exact Touches.refl _ _
  ·
    with_reducible refine Touches.step ?_ (State.gnssSurvey_touches _ _ ?_)
    on_goal 2 => exact Part.within_trans rfl hw
    with_reducible exact Touches.refl _ _
  ·
    with_reducible refine Touches.step ?_ (State.ticArm_touches _ _ _ ?_)
    on_goal 2 => exact Part.within_trans rfl hw
    with_reducible exact Touches.refl _ _
  ·
    with_reducible refine Touches.step ?_ (State.ticStop_touches _ _ _ ?_)
    on_goal 2 => exact Part.within_trans rfl hw
    with_reducible exact Touches.refl _ _
  ·
    with_reducible refine Touches.step ?_ (State.calSave_touches _ _ ?_)
    on_goal 2 => exact Part.within_trans rfl hw
    with_reducible exact Touches.refl _ _
  ·
    with_reducible refine Touches.step ?_ (State.calReload_touches _ _ ?_)
    on_goal 2 => exact Part.within_trans rfl hw
    with_reducible exact Touches.refl _ _
  ·
    with_reducible refine Touches.step ?_ (State.engOut_touches _ _ ?_)
    on_goal 2 => exact Part.within_trans rfl hw
    with_reducible exact Touches.refl _ _
  ·
    with_reducible refine Touches.step ?_ (State.engLoad_touches _ _ ?_)
    on_goal 2 => exact Part.within_trans rfl hw
    with_reducible exact Touches.refl _ _
  ·
    with_reducible refine Touches.step ?_ (State.engIn_touches _ _ ?_)
    on_goal 2 => exact Part.within_trans rfl hw
    with_reducible exact Touches.refl _ _
  ·
    with_reducible refine Touches.step ?_ (State.engTaskPin_touches _ _ ?_)
    on_goal 2 => exact Part.within_trans rfl hw
    with_reducible exact Touches.refl _ _
  ·
    with_reducible refine Touches.step ?_ (State.polSet_touches _ _ ?_)
    on_goal 2 => exact Part.within_trans rfl hw
    with_reducible exact Touches.refl _ _
  ·
    with_reducible refine Touches.step ?_ (State.polGet_touches _ _ ?_)
    on_goal 2 => exact Part.within_trans rfl hw
    with_reducible exact Touches.refl _ _
  ·
    with_reducible refine Touches.step ?_ (State.polSave_touches _ _ ?_)
    on_goal 2 => exact Part.within_trans rfl hw
    with_reducible exact Touches.refl _ _
  ·
    try extract_lets -merge -underBinder t2
    try clear_value t2
    with_reducible refine Touches.step ?_ (State.spadDma_touches _ _ _ _ ?_)
    on_goal 2 => exact Part.within_trans rfl hw
    with_reducible refine Touches.set_free ?_ ?_
    on_goal 2 => exact Part.within_mem rfl hw
    with_reducible exact Touches.refl _ _
  ·
    with_reducible refine Touches.step ?_ (State.engImgCommit_touches _ _ ?_)
    on_goal 2 => exact Part.within_trans rfl hw
    with_reducible exact Touches.refl _ _
  ·
    with_reducible refine Touches.step ?_ (State.pairRehearse_touches _ _ ?_)
    on_goal 2 => exact Part.within_trans rfl hw
    with_reducible exact Touches.refl _ _
  ·
    with_reducible refine Touches.step ?_ (State.pairResync_touches _ _ ?_)
    on_goal 2 => exact Part.within_trans rfl hw
    with_reducible exact Touches.refl _ _
  ·
    with_reducible refine Touches.step ?_ (State.pairCbSet_touches _ _ ?_)
    on_goal 2 => exact Part.within_trans rfl hw
    with_reducible exact Touches.refl _ _
  ·
    with_reducible refine Touches.step ?_ (State.complete_touches _ _ _ _ _ _ _ ?_)
    on_goal 2 => exact Part.within_trans rfl hw
    with_reducible exact Touches.refl _ _

theorem State.cmdRun_touches {ps : List Part} s a1 a2 (hw : Part.within [.clk, .ready, .keys, .regs, .evt, .pers, .hif, .index, .objs, .lanes, .grps, .sw, .fab, .bpm, .fdb, .tcore, .tchans, .lnk, .ref, .free, .pll, .gnss, .tic, .cal, .eng, .spad, .pair, .pwr, .boot, .flash, .rc .bpmDoubleFreeCnt, .rc .bpmForeignFreeCnt, .rc .bpmPoolEmptyCnt, .rc .bpmPromoteCnt, .rc .calAbortCnt, .rc .engSpadBankErr, .rc .engSpadLost, .rc .evtPinStat, .rc .evtSuppressed, .rc .fdbLearnFail, .rc .hifEvtLost, .rc .hifRingAborted, .rc .pairMirOvf, .rc .pairPromoteCnt, .rc .perfTagDrop, .rc .pllCnt, .rc .portHoldFlush, .rc .pwrWakeSrc, .rc .refHoldoffCnt, .rc .ticTmoCnt] ps = true) : Touches ps s (State.cmdRun s a1 a2) := by
  unfold State.cmdRun
  with_reducible refine Touches.ite ?_ ?_
  ·
    with_reducible refine Touches.step ?_ (State.complete_touches _ _ _ _ _ _ _ ?_)
    on_goal 2 => exact Part.within_trans rfl hw
    with_reducible exact Touches.refl _ _
  ·
    split
    ·
      with_reducible refine Touches.step ?_ (State.admTake_touches _ _ _ _ ?_)
      on_goal 2 => exact Part.within_trans rfl hw
      with_reducible exact Touches.refl _ _
    ·
      with_reducible refine Touches.step ?_ (State.admTake_touches _ _ _ _ ?_)
      on_goal 2 => exact Part.within_trans rfl hw
      with_reducible exact Touches.refl _ _
    ·
      with_reducible refine Touches.step ?_ (State.objQuery_touches _ _ _ ?_)
      on_goal 2 => exact Part.within_trans rfl hw
      with_reducible exact Touches.refl _ _
    ·
      with_reducible refine Touches.step ?_ (State.flowTake_touches _ _ _ _ ?_)
      on_goal 2 => exact Part.within_trans rfl hw
      with_reducible exact Touches.refl _ _
    ·
      with_reducible refine Touches.step ?_ (State.objList_touches _ _ _ ?_)
      on_goal 2 => exact Part.within_trans rfl hw
      with_reducible exact Touches.refl _ _
    ·
      with_reducible refine Touches.step ?_ (State.flowTake_touches _ _ _ _ ?_)
      on_goal 2 => exact Part.within_trans rfl hw
      with_reducible exact Touches.refl _ _
    ·
      with_reducible refine Touches.step ?_ (State.flowTake_touches _ _ _ _ ?_)
      on_goal 2 => exact Part.within_trans rfl hw
      with_reducible exact Touches.refl _ _
    ·
      with_reducible refine Touches.step ?_ (State.tchanCreate_touches _ _ ?_)
      on_goal 2 => exact Part.within_trans rfl hw
      with_reducible exact Touches.refl _ _
    ·
      with_reducible refine Touches.step ?_ (State.verbRun_touches _ _ _ _ ?_)
      on_goal 2 => exact Part.within_trans rfl hw
      with_reducible exact Touches.refl _ _
    ·
      with_reducible refine Touches.step ?_ (State.mchanCreate_touches _ _ ?_)
      on_goal 2 => exact Part.within_trans rfl hw
      with_reducible exact Touches.refl _ _
    ·
      with_reducible refine Touches.step ?_ (State.verbRun_touches _ _ _ _ ?_)
      on_goal 2 => exact Part.within_trans rfl hw
      with_reducible exact Touches.refl _ _
    ·
      with_reducible refine Touches.step ?_ (State.mirrorCreate_touches _ _ ?_)
      on_goal 2 => exact Part.within_trans rfl hw
      with_reducible exact Touches.refl _ _
    ·
      with_reducible refine Touches.step ?_ (State.verbRun_touches _ _ _ _ ?_)
      on_goal 2 => exact Part.within_trans rfl hw
      with_reducible exact Touches.refl _ _
    ·
      with_reducible refine Touches.step ?_ (State.searchCreate_touches _ _ ?_)
      on_goal 2 => exact Part.within_trans rfl hw
      with_reducible exact Touches.refl _ _
    ·
      with_reducible refine Touches.step ?_ (State.verbRun_touches _ _ _ _ ?_)
      on_goal 2 => exact Part.within_trans rfl hw
      with_reducible exact Touches.refl _ _
    ·
      with_reducible refine Touches.step ?_ (State.calCreate_touches _ _ ?_)
      on_goal 2 => exact Part.within_trans rfl hw
      with_reducible exact Touches.refl _ _
    ·
      with_reducible refine Touches.step ?_ (State.verbRun_touches _ _ _ _ ?_)
      on_goal 2 => exact Part.within_trans rfl hw
      with_reducible exact Touches.refl _ _
    ·
      with_reducible refine Touches.step ?_ (State.unitRun_touches _ _ _ ?_)
      on_goal 2 => exact Part.within_trans rfl hw
      with_reducible exact Touches.refl _ _

theorem State.bootCommandRecord_touches {ps : List Part} s a1 (hw : Part.within [.clk, .ready, .keys, .regs, .evt, .pers, .hif, .index, .objs, .lanes, .grps, .sw, .fab, .bpm, .fdb, .tcore, .tchans, .lnk, .ref, .free, .pll, .gnss, .tic, .cal, .eng, .spad, .pair, .pwr, .boot, .flash, .rc .bpmDoubleFreeCnt, .rc .bpmForeignFreeCnt, .rc .bpmPoolEmptyCnt, .rc .bpmPromoteCnt, .rc .calAbortCnt, .rc .engSpadBankErr, .rc .engSpadLost, .rc .evtPinStat, .rc .evtSuppressed, .rc .fdbLearnFail, .rc .hifEvtLost, .rc .hifRingAborted, .rc .pairMirOvf, .rc .pairPromoteCnt, .rc .perfTagDrop, .rc .pllCnt, .rc .portHoldFlush, .rc .pwrWakeSrc, .rc .refHoldoffCnt, .rc .ticTmoCnt] ps = true) : Touches ps s (State.bootCommandRecord s a1) := by
  unfold State.bootCommandRecord
  split
  ·
    with_reducible exact Touches.refl _ _
  ·
    try extract_lets -merge -underBinder t0 t1 t2 t3
    try clear_value t0
    try clear_value t1
    refine Touches.haveS (t := t3) ?_ (fun ht3 => ?_)
    ·
      unfold t3
      with_reducible refine Touches.set_boot ?_ ?_
      on_goal 2 => exact Part.within_mem rfl hw
      with_reducible exact Touches.refl _ _
    try clear_value t3
    with_reducible refine Touches.ite ?_ ?_
    ·
      with_reducible exact Touches.refl _ _
    ·
      with_reducible refine Touches.ite ?_ ?_
      ·
        with_reducible refine Touches.step ?_ (State.complete_touches _ _ _ _ _ _ _ ?_)
        on_goal 2 => exact Part.within_trans rfl hw
        with_reducible exact ht3
      ·
        with_reducible refine Touches.step ?_ (State.cmdRun_touches _ _ _ ?_)
        on_goal 2 => exact Part.within_trans rfl hw
        with_reducible exact ht3

theorem State.pauseQuantaExpire_touches {ps : List Part} s a1 a2 (hw : Part.within [.fab] ps = true) : Touches ps s (State.pauseQuantaExpire s a1 a2) := by
  unfold State.pauseQuantaExpire
  try extract_lets -merge -underBinder t0
  try clear_value t0
  with_reducible refine Touches.step ?_ (State.deadlineEpisode_touches _ _ ?_)
  on_goal 2 => exact Part.within_trans rfl hw
  with_reducible refine Touches.step ?_ (State.setPort_touches _ _ _ ?_)
  on_goal 2 => exact Part.within_trans rfl hw
  with_reducible exact Touches.refl _ _

theorem State.hiberRetrain_touches {ps : List Part} s a1 (hw : Part.within [.clk, .regs, .evt, .hif, .lanes, .sw, .fab, .bpm, .fdb, .tcore, .tchans, .lnk, .ref, .free, .pll, .tic, .cal, .eng, .pair, .pwr, .rc .bpmDoubleFreeCnt, .rc .bpmForeignFreeCnt, .rc .bpmPoolEmptyCnt, .rc .bpmPromoteCnt, .rc .calAbortCnt, .rc .evtPinStat, .rc .evtSuppressed, .rc .hifEvtLost, .rc .hifRingAborted, .rc .pairMirOvf, .rc .perfTagDrop, .rc .pllCnt, .rc .portHoldFlush, .rc .pwrWakeSrc] ps = true) : Touches ps s (State.hiberRetrain s a1) := by
  unfold State.hiberRetrain
  with_reducible refine Touches.ite ?_ ?_
  ·
    with_reducible refine Touches.step ?_ (State.laneRetrain_touches _ _ ?_)
    on_goal 2 => exact Part.within_trans rfl hw
    with_reducible exact Touches.refl _ _
  ·
    with_reducible exact Touches.refl _ _

theorem State.scheduledRetrain_touches {ps : List Part} s a1 (hw : Part.within [.clk, .regs, .evt, .hif, .lanes, .sw, .fab, .bpm, .fdb, .tcore, .tchans, .lnk, .ref, .free, .pll, .tic, .cal, .eng, .pair, .pwr, .rc .bpmDoubleFreeCnt, .rc .bpmForeignFreeCnt, .rc .bpmPoolEmptyCnt, .rc .bpmPromoteCnt, .rc .calAbortCnt, .rc .evtPinStat, .rc .evtSuppressed, .rc .hifEvtLost, .rc .hifRingAborted, .rc .pairMirOvf, .rc .perfTagDrop, .rc .pllCnt, .rc .portHoldFlush, .rc .pwrWakeSrc] ps = true) : Touches ps s (State.scheduledRetrain s a1) := by
  unfold State.scheduledRetrain
  try extract_lets -merge -underBinder t0 t1 t2
  try clear_value t0
  try clear_value t1
  try clear_value t2
  with_reducible refine Touches.ite ?_ ?_
  ·
    with_reducible exact Touches.refl _ _
  ·
    with_reducible refine Touches.step ?_ (State.laneRetrain_touches _ _ ?_)
    on_goal 2 => exact Part.within_trans rfl hw
    with_reducible exact Touches.refl _ _

theorem State.chanCandFail_touches {ps : List Part} s a1 (hw : Part.within [.clk, .evt, .hif, .tcore, .tchans, .ref, .pll, .eng, .pair, .pwr, .rc .evtPinStat, .rc .evtSuppressed, .rc .hifEvtLost, .rc .pairMirOvf, .rc .pllCnt, .rc .pwrWakeSrc] ps = true) : Touches ps s (State.chanCandFail s a1) := by
  unfold State.chanCandFail
  with_reducible refine Touches.step ?_ (State.candFail_touches _ _ _ ?_)
  on_goal 2 => exact Part.within_trans rfl hw
  with_reducible exact Touches.refl _ _

theorem State.setIndexTab_touches {ps : List Part} s a1 a2 (hw : Part.within [.index] ps = true) : Touches ps s (State.setIndexTab s a1 a2) := by
  unfold State.setIndexTab
  with_reducible refine Touches.set_index ?_ ?_
  on_goal 2 => exact Part.within_mem rfl hw
  with_reducible exact Touches.refl _ _

theorem State.ticCalEnd_touches {ps : List Part} s a1 (hw : Part.within [.tic] ps = true) : Touches ps s (State.ticCalEnd s a1) := by
  unfold State.ticCalEnd
  try extract_lets -merge -underBinder t0
  with_reducible refine Touches.step ?_ (State.ticSample_touches _ _ ?_)
  on_goal 2 => exact Part.within_trans rfl hw
  with_reducible refine Touches.step ?_ (State.setTicCh_touches _ _ _ ?_)
  on_goal 2 => exact Part.within_trans rfl hw
  with_reducible exact Touches.refl _ _

theorem State.withFetchWord_touches {ps : List Part} s a1 a2 (hw : Part.within [.pending] ps = true) : Touches ps s (State.withFetchWord s a1 a2) := by
  unfold State.withFetchWord
  split
  ·
    with_reducible refine Touches.set_pending ?_ ?_
    on_goal 2 => exact Part.within_mem rfl hw
    with_reducible exact Touches.refl _ _
  ·
    with_reducible exact Touches.refl _ _

end Sys2Proof.Machine
end

