-- ==== Sys2Proof/Laws/Guards.lean ====
section
/-! SUPPORT. What the operations that a condition guards may change: what the operation itself may. -/

set_option Elab.async false

namespace Sys2Proof.Machine

theorem State.txFrameDone_touches {ps : List Part} (s : State) (n k : Nat)
    (hw : Part.within [.evt, .hif, .sw, .fab, .bpm, .fdb, .free, .eng, .rc .bpmDoubleFreeCnt, .rc .bpmForeignFreeCnt, .rc .bpmPoolEmptyCnt, .rc .bpmPromoteCnt, .rc .evtPinStat, .rc .evtSuppressed, .rc .hifEvtLost, .rc .hifRingAborted, .rc .perfTagDrop] ps = true) :
    Touches ps s (s.txFrameDone n k) := by
  unfold State.txFrameDone
  split
  · exact State.txCompletion_touches _ _ hw
  · exact Touches.refl _ _

theorem State.rxHostCopy_touches {ps : List Part} (s : State) (f c : Nat)
    (hw : Part.within [.evt, .hif, .sw, .fab, .bpm, .fdb, .free, .eng, .rc .bpmDoubleFreeCnt, .rc .bpmForeignFreeCnt, .rc .bpmPoolEmptyCnt, .rc .bpmPromoteCnt, .rc .evtPinStat, .rc .evtSuppressed, .rc .hifEvtLost, .rc .hifRingAborted, .rc .hifRxDisc, .rc .perfTagDrop] ps = true) :
    Touches ps s (s.rxHostCopy f c) := by
  unfold State.rxHostCopy
  split
  · exact State.rxHostDeliver_touches _ _ hw
  · exact Touches.refl _ _

theorem State.perfSampled_touches {ps : List Part} (s : State) (e addr latency n : Nat)
    (hw : Part.within [.eng, .rc .perfSampDrop] ps = true) :
    Touches ps s (s.perfSampled e addr latency n) := by
  unfold State.perfSampled
  split
  · exact State.perfSample_touches _ _ _ _ hw
  · exact Touches.refl _ _

end Sys2Proof.Machine
end

