-- ==== Sys2Proof/Laws/Lane.lean ====
section
/-! SUPPORT. What the shared operations on lanes leave in the lane they act on. -/

set_option Elab.async false

namespace Sys2Proof.Machine

theorem State.lane_of_lanes {s t : State} (h : t.lanes = s.lanes) (n : Nat) : t.lane n = s.lane n := by simp [State.lane, h]

@[simp] theorem State.candFail_lanes (s : State) (id c : Nat) : (s.candFail id c).lanes = s.lanes :=
  (State.candFail_touches (ps := Part.others .lanes) s id c rfl) .lanes rfl

@[simp] theorem State.candAbsent_lanes (s : State) (id : Nat) : (s.candAbsent id).lanes = s.lanes :=
  (State.candAbsent_touches (ps := Part.others .lanes) s id rfl) .lanes rfl

@[simp] theorem State.lnkPhiLost_lanes (s : State) (p : Nat) : (s.lnkPhiLost p).lanes = s.lanes :=
  (State.lnkPhiLost_touches (ps := Part.others .lanes) s p rfl) .lanes rfl

@[simp] theorem State.lnkPhiValid_lanes (s : State) (p : Nat) : (s.lnkPhiValid p).lanes = s.lanes :=
  (State.lnkPhiValid_touches (ps := Part.others .lanes) s p rfl) .lanes rfl

@[simp] theorem State.portLoss_lanes (s : State) (p : Nat) : (s.portLoss p).lanes = s.lanes :=
  (State.portLoss_touches (ps := Part.others .lanes) s p rfl) .lanes rfl

@[simp] theorem State.portChansLost_lanes (s : State) (p : Nat) : (s.portChansLost p).lanes = s.lanes :=
  (State.portChansLost_touches (ps := Part.others .lanes) s p rfl) .lanes rfl

@[simp] theorem State.portChansListen_lanes (s : State) (p : Nat) : (s.portChansListen p).lanes = s.lanes :=
  (State.portChansListen_touches (ps := Part.others .lanes) s p rfl) .lanes rfl

@[simp] theorem State.laneIdl_lanes (s : State) (n : Nat) : (s.laneIdl n).lanes = s.lanes :=
  (State.laneIdl_touches (ps := Part.others .lanes) s n rfl) .lanes rfl

@[simp] theorem State.calLose_lanes (s : State) (f : Nat → Nat → Bool) : (s.calLose f).lanes = s.lanes :=
  (State.calLose_touches (ps := Part.others .lanes) s f rfl) .lanes rfl

@[simp] theorem State.portUp_lanes (s : State) (p : Nat) : (s.portUp p).lanes = s.lanes :=
  (State.portUp_touches (ps := Part.others .lanes) s p rfl) .lanes rfl

@[simp] theorem State.grpCheck_lanes (s : State) (g : Nat) : (s.grpCheck g).lanes = s.lanes :=
  (State.grpCheck_touches (ps := Part.others .lanes) s g rfl) .lanes rfl

@[simp] theorem State.afterFree_lanes (s : State) : s.afterFree.lanes = s.lanes :=
  (State.afterFree_touches (ps := Part.others .lanes) s rfl) .lanes rfl

/-- A lane that withdraws its recovered clock no longer offers it; nothing else of any lane changes (R114). -/
theorem State.laneWithdraw_lane (s : State) (n m : Nat) :
    (s.laneWithdraw n).lane m = if m = n then { s.lane n with offered := false } else s.lane m := by
  unfold State.laneWithdraw
  split
  · rw [State.lane_of_lanes (State.candFail_lanes _ _ _)]
    split
    · subst m; simp
    · next h => exact State.lane_setLane_ne s n m _ h
  · next h =>
    split
    · subst m; simp at h; rw [← h]
    · rfl

/-- What the loss of LOCK leaves of a lane (R100, R114, R115). -/
def Lane.unlocked (l : Lane) : Lane :=
  if l.lock then { l with lock := false, fecLock := false, hiBer := false, hiBerAt := none, phase := false, offered := false } else l

/-- The loss of LOCK changes that lane and no other. -/
theorem State.laneUnlock_lane (s : State) (n m : Nat) :
    (s.laneUnlock n).lane m = if m = n then (s.lane n).unlocked else s.lane m := by
  unfold State.laneUnlock Lane.unlocked
  by_cases h : (s.lane n).lock
  · simp only [h, Bool.not_true, Bool.false_eq_true, ↓reduceIte]
    rw [State.lane_of_lanes (State.portChansLost_lanes _ _), State.lane_of_lanes (State.portLoss_lanes _ _),
      State.lane_of_lanes (State.lnkPhiLost_lanes _ _), State.laneWithdraw_lane]
    split
    · simp
    · next hm => exact State.lane_setLane_ne s n m _ hm
  · simp only [h, Bool.false_eq_true, Bool.not_false, ↓reduceIte]
    split
    · subst m; rfl
    · rfl

/-- A full retrain of a lane that works starts without LOCK, CDR lock, quality or proposed step (R104). -/
theorem State.retrain_lane (s : State) (n m : Nat) (hon : s.laneOn n = true) :
    (s.retrain n).lane m = if m = n then { (s.lane n).unlocked with
      train := .full, cdr := false, qValid := false, proposed := none, stepBack := false, retrainPend := false } else s.lane m := by
  unfold State.retrain
  simp only [hon, Bool.not_true, Bool.false_eq_true, ↓reduceIte]
  by_cases hm : m = n
  · subst m
    simp only [State.lane_setLane, ↓reduceIte]
    rw [State.lane_of_lanes (State.laneIdl_lanes _ _), State.laneUnlock_lane, if_pos rfl]
  · rw [State.lane_setLane_ne _ _ _ _ hm, if_neg hm, State.lane_of_lanes (State.laneIdl_lanes _ _), State.laneUnlock_lane, if_neg hm]

/-- LANE_QUAL of one lane is republished (R108). -/
theorem State.lanePublish_lane (s : State) (n w h m : Nat) :
    (s.lanePublish n w h).lane m = if m = n then
      { s.lane n with eyeW := w % 256, eyeH := h % 1024, qPeak := (s.lane n).cur, qSeq := ((s.lane n).qSeq + 1) % 256 }
    else s.lane m := by
  unfold State.lanePublish
  refine (State.lane_of_lanes (State.raiseIf_lanes _ _ _ _ _ _) m).trans ?_
  split
  · subst m; exact State.lane_setLane _ _ _
  · next h => exact State.lane_setLane_ne _ _ _ _ h

/-- What BLOCK_LOCK leaves of the lane that it finds in training (R100, R108, R114). -/
def State.lockedLane (s : State) (n w h : Nat) : Lane :=
  { s.lane n with
    lock := true, cdr := true, fecLock := decide (s.quadFec (n / 4) ≠ 0), train := .running, txSq := false, qValid := true
    offered := s.apB Fld.laneCtrl_REF_EN n && decide ((s.grp (n / 8)).st ≠ .draining)
    eyeW := w % 256, eyeH := h % 1024, qPeak := (s.lane n).cur, qSeq := ((s.lane n).qSeq + 1) % 256 }

theorem State.blockLock_lane (s : State) (n w h m : Nat) (hon : s.laneOn n = true) (hsig : (s.lane n).sig = true)
    (hlk : (s.lane n).lock = false) (htr : (s.lane n).train ≠ .down) :
    (s.blockLock n w h).lane m = if m = n then s.lockedLane n w h else s.lane m := by
  have hs1 : ∀ k, (if (s.lane n).train = .fast then s.bump Fld.laneExitCnt_EXITS n else s).lane k = s.lane k := by
    intro k; split <;> rfl
  have hb : ∀ (x : Lane), ((((if (s.lane n).train = .fast then s.bump Fld.laneExitCnt_EXITS n else s).setLane n x).lanePublish n w h).lane m)
      = if m = n then { x with eyeW := w % 256, eyeH := h % 1024, qPeak := x.cur, qSeq := (x.qSeq + 1) % 256 } else s.lane m := by
    intro x
    rw [State.lanePublish_lane]
    split
    · rw [State.lane_setLane]
    · next hm => rw [State.lane_setLane_ne _ _ _ _ hm, hs1]
  refine (State.lane_of_lanes ?_ m).trans (hb { s.lane n with
    lock := true, cdr := true, fecLock := decide (s.quadFec (n / 4) ≠ 0), train := .running, txSq := false, qValid := true
    offered := s.apB Fld.laneCtrl_REF_EN n && decide ((s.grp (n / 8)).st ≠ .draining) })
  unfold State.blockLock
  simp only [hon, hsig, hlk, htr, Bool.not_true, Bool.or_self, decide_false, Bool.false_eq_true, if_false]
  simp only [apply_ite State.lanes, State.grpCheck_lanes, State.portUp_lanes, State.portChansListen_lanes, State.calLose_lanes,
    State.setGrp_lanes, ite_self]

theorem State.port_of_fab {s t : State} (h : t.fab = s.fab) (p : Nat) : t.port p = s.port p := by simp [State.port, h]

@[simp] theorem State.grpCheck_fab (s : State) (g : Nat) : (s.grpCheck g).fab = s.fab :=
  (State.grpCheck_touches (ps := Part.others .fab) s g rfl) .fab rfl

theorem State.portUp_up (s : State) (p : Nat) : ((s.portUp p).port p).up = true := by
  unfold State.portUp
  simp only
  split
  · assumption
  · split
    · exact congrArg PortSt.up ((State.port_of_fab rfl p).trans (State.port_setPort s p _))
    · simp

@[simp] theorem State.domSleep_lanes (s : State) (d : Nat) (o : Bool) : (s.domSleep d o).lanes = s.lanes :=
  (State.domSleep_touches (ps := Part.others .lanes) s d o rfl) .lanes rfl

theorem State.grp_of_grps {s t : State} (h : t.grps = s.grps) (n : Nat) : t.grp n = s.grp n := by simp [State.grp, h]

@[simp] theorem State.afterFree_grps (s : State) : s.afterFree.grps = s.grps :=
  (State.afterFree_touches (ps := Part.others .grps) s rfl) .grps rfl

@[simp] theorem State.padHold_grps (s : State) (g : Nat) (b : Bool) : (s.padHold g b).grps = s.grps :=
  (State.padHold_touches (ps := Part.others .grps) s g b rfl) .grps rfl

@[simp] theorem State.domSleep_grps (s : State) (d : Nat) (b : Bool) : (s.domSleep d b).grps = s.grps :=
  (State.domSleep_touches (ps := Part.others .grps) s d b rfl) .grps rfl

@[simp] theorem State.grpLose_grps (s : State) (g : Nat) : (s.grpLose g).grps = s.grps :=
  (State.grpLose_touches (ps := Part.others .grps) s g rfl) .grps rfl

@[simp] theorem State.calLose_grps (s : State) (f : Nat → Nat → Bool) : (s.calLose f).grps = s.grps :=
  (State.calLose_touches (ps := Part.others .grps) s f rfl) .grps rfl

@[simp] theorem State.laneStop_grps (s : State) (n : Nat) : (s.laneStop n).grps = s.grps :=
  (State.laneStop_touches (ps := Part.others .grps) s n rfl) .grps rfl

@[simp] theorem State.grpPortsDown_grps (s : State) (g : Nat) : (s.grpPortsDown g).grps = s.grps :=
  (State.grpPortsDown_touches (ps := Part.others .grps) s g rfl) .grps rfl

@[simp] theorem State.flushCopies_grps (s : State) (l : List Nat) (o : Nat) : (s.flushCopies l o).grps = s.grps :=
  (State.flushCopies_touches (ps := Part.others .grps) s l o rfl) .grps rfl

/-- A fold of steps that keep the groups keeps them. -/
theorem State.foldl_grps {α : Type} (f : State → α → State) (hf : ∀ s x, (f s x).grps = s.grps) (l : List α) (s : State) :
    (l.foldl f s).grps = s.grps := by
  induction l generalizing s with
  | nil => rfl
  | cons x l ih => exact (ih _).trans (hf s x)

/-- Step 6 of a removal leaves the group removed and no other group changed (R116). -/
theorem State.grpRemoved_grp (s : State) (g k : Nat) (c : Bool) :
    ((s.grpRemoved g c).grp g).st = .removed ∧ (k ≠ g → (s.grpRemoved g c).grp k = s.grp k) := by
  have hx : ∀ (s1 : State) (l : List Nat), (l.foldl (fun s n => s.laneStop n) s1).grps = s1.grps :=
    fun s1 l => State.foldl_grps _ (fun s n => State.laneStop_grps s n) l s1
  have h : ∃ (s2 : State) (x : Grp), x.st = .removed ∧ s2.grps = s.grps ∧ (s.grpRemoved g c).grps = (s2.setGrp g x).grps := by
    obtain ⟨s2, hs⟩ : ∃ s2, s2 = (grpLanes g).foldl (fun s n => s.laneStop n) (((s.flushCopies (s.grpCopies g) 1).bump
        Fld.laneGrpAborted_VAL g (if c then (s.grpCopies g).length else 0)).grpPortsDown g) := ⟨_, rfl⟩
    refine ⟨s2, { s2.grp g with
      st := .removed, disStatus := if (if c then (s.grpCopies g).length else 0) = 0 then .ok else .drainedAbort }, rfl, ?_, ?_⟩
    · rw [hs, hx]
      simp only [State.grpPortsDown_grps, State.bump_grps, State.flushCopies_grps]
    · rw [hs]
      unfold State.grpRemoved
      simp only [State.afterFree_grps, State.raise_grps, State.padHold_grps, State.domSleep_grps, apply_ite State.grps,
        State.grpLose_grps, State.calLose_grps, ite_self]
  obtain ⟨s2, x, hst, h2, h1⟩ := h
  refine ⟨?_, fun hk => ?_⟩
  · rw [State.grp_of_grps h1, State.grp_setGrp, hst]
  · rw [State.grp_of_grps h1, State.grp_setGrp_ne _ _ _ _ hk, State.grp_of_grps h2]

/-! ## Adaptation changes nothing of a lane but its peaking and its published quality (R105 to R109) -/

/-- A lane without its peaking and its published quality. -/
def Lane.core (l : Lane) : Lane :=
  { l with cur := 0, proposed := none, stepBack := false, limitRaised := false, movedAt := none, eyeW := 0, eyeH := 0, qPeak := 0
           qSeq := 0 }

/-- Only peaking and quality of lane `n` may differ. -/
def AdaptOnly (n : Nat) (s t : State) : Prop := ∀ m, (t.lane m).core = (s.lane m).core ∧ (m ≠ n → t.lane m = s.lane m)

theorem AdaptOnly.of_lanes {n : Nat} {s t : State} (h : t.lanes = s.lanes) : AdaptOnly n s t := by
  intro m
  rw [State.lane_of_lanes h m]
  exact ⟨rfl, fun _ => rfl⟩

theorem AdaptOnly.trans {n : Nat} {s t u : State} (h : AdaptOnly n s t) (k : AdaptOnly n t u) : AdaptOnly n s u :=
  fun m => ⟨(k m).1.trans (h m).1, fun hm => ((k m).2 hm).trans ((h m).2 hm)⟩

theorem AdaptOnly.setLane (s : State) (n : Nat) (x : Lane) (hx : x.core = (s.lane n).core) : AdaptOnly n s (s.setLane n x) := by
  intro m
  by_cases hm : m = n
  · subst m
    rw [State.lane_setLane]
    exact ⟨hx, fun h => absurd rfl h⟩
  · rw [State.lane_setLane_ne _ _ _ _ hm]
    exact ⟨rfl, fun _ => rfl⟩

theorem AdaptOnly.ite {n : Nat} {s t u : State} {c : Prop} [Decidable c] (h : AdaptOnly n s t) (k : AdaptOnly n s u) :
    AdaptOnly n s (if c then t else u) := by split <;> assumption

theorem State.lane_setLane_free (s : State) (n k f : Nat) (x : Lane) :
    State.lane { (s.setLane n x) with free := f } k = if k = n then x else s.lane k := by
  refine (State.lane_of_lanes (s := s.setLane n x) rfl k).trans ?_
  split
  · subst k; exact State.lane_setLane _ _ _
  · next h => exact State.lane_setLane_ne _ _ _ _ h

@[simp] theorem State.phiMove_lanes (s : State) (n : Nat) (d : Int) : (s.phiMove n d).lanes = s.lanes :=
  (State.phiMove_touches (ps := Part.others .lanes) s n d rfl) .lanes rfl

/-- A peaking change moves the phase of its port and publishes the quality anew (R103, R108); of the lanes only this one changes. -/
theorem State.laneSetCode_lanes (s : State) (n c : Nat) : ∃ w h, ∀ m, (s.laneSetCode n c).lane m = if m = n then
    { s.lane n with
      cur := c, proposed := none, stepBack := false, limitRaised := (s.lane n).limitRaised && { s.lane n with cur := c }.atLimit
      eyeW := w, eyeH := h, qPeak := c, qSeq := ((s.lane n).qSeq + 1) % 256 } else s.lane m := by
  refine ⟨fieldOf (Config.freeWord s.free) 0 8 % 256, fieldOf (Config.freeWord s.free) 8 10 % 1024, fun m => ?_⟩
  unfold State.laneSetCode
  extract_lets l l' s1 s2 w
  have h : ∀ k, State.lane { s2 with free := s.free + 1 } k = s1.lane k := fun k =>
    State.lane_of_lanes (show s2.lanes = s1.lanes from State.phiMove_lanes _ _ _) k
  rw [State.lanePublish_lane, h, h]
  by_cases hm : m = n
  · subst m
    rw [if_pos rfl, if_pos rfl, show s1.lane n = _ from State.lane_setLane _ _ _]
    rfl
  · rw [if_neg hm, if_neg hm]
    exact State.lane_setLane_ne _ _ _ _ hm

theorem State.laneSetCode_adapt (s : State) (n c : Nat) : AdaptOnly n s (s.laneSetCode n c) := by
  intro m
  obtain ⟨w, h, hl⟩ := State.laneSetCode_lanes s n c
  rw [hl]
  by_cases hm : m = n
  · subst m
    rw [if_pos rfl]
    exact ⟨rfl, fun h => absurd rfl h⟩
  · rw [if_neg hm]
    exact ⟨rfl, fun _ => rfl⟩

theorem State.laneRefuseStep_adapt (s : State) (n : Nat) : AdaptOnly n s (s.laneRefuseStep n) := by
  unfold State.laneRefuseStep
  refine AdaptOnly.trans ?_ (AdaptOnly.of_lanes (State.raiseIf_lanes _ _ _ _ _ _))
  refine AdaptOnly.trans (AdaptOnly.of_lanes (State.rcSet_lanes _ _ _ _)) (AdaptOnly.setLane _ n _ ?_)
  rfl

theorem State.laneStep_adapt (s : State) (n : Nat) (up : Bool) : AdaptOnly n s (s.laneStep n up) := by
  unfold State.laneStep
  refine AdaptOnly.ite (State.laneRefuseStep_adapt s n) (AdaptOnly.ite (AdaptOnly.of_lanes rfl) ?_)
  refine AdaptOnly.trans (AdaptOnly.trans (AdaptOnly.of_lanes (State.bump_lanes s _ n 1)) (State.laneSetCode_adapt _ n _))
    (AdaptOnly.setLane _ n _ ?_)
  rfl

/-- What `idleApply` does to a lane is a peaking change. -/
theorem State.idleApply_adapt (s : State) (n : Nat) : AdaptOnly n s (s.idleApply n) := by
  unfold State.idleApply
  refine AdaptOnly.ite (AdaptOnly.of_lanes rfl) (AdaptOnly.trans (AdaptOnly.of_lanes (State.laneIdl_lanes s n)) ?_)
  refine AdaptOnly.ite (AdaptOnly.of_lanes rfl) (AdaptOnly.ite (AdaptOnly.ite (AdaptOnly.setLane _ n _ rfl)
    (State.laneSetCode_adapt _ n _)) ?_)
  split
  · exact State.laneStep_adapt _ n _
  · exact AdaptOnly.of_lanes rfl

/-- A peaking change sets the code, and nothing else of the peaking is left proposed. -/
theorem State.laneSetCode_lane (s : State) (n c : Nat) :
    ((s.laneSetCode n c).lane n).cur = c ∧ ((s.laneSetCode n c).lane n).proposed = none := by
  obtain ⟨w, h, hl⟩ := State.laneSetCode_lanes s n c
  simp [hl]

end Sys2Proof.Machine
end

