-- ==== Sys2Proof/Machine/Pins.lean ====
section
/-! DEFINITION. The balls (chapter 21): the ball map (R428 to R431, R433), what the part drives on its output balls in every state
(R420, R441, R443), the IDCODE word (R442), the I²C address (R434) and the transmit taps of a lane (R452). -/

set_option Elab.async false

namespace Sys2Proof.Machine

/-! ## The ball map (R428 to R431) -/

/-- A ball: row and column, 1 to 54. -/
structure Ball where
  row : Nat
  col : Nat
  deriving DecidableEq, Repr

/-- The ball at depth `d`, along `a`, of an edge (Table PIN-3): 0 south, 1 east, 2 north, 3 west. -/
def edgeBall (e d a : Nat) : Ball :=
  match e with
  | 0 => ⟨55 - d, a⟩
  | 1 => ⟨55 - a, 55 - d⟩
  | 2 => ⟨d, 55 - a⟩
  | _ => ⟨a, d⟩

/-- A differential pair: its P ball and its N ball (R429). -/
def pairBalls (e d a : Nat) : Ball × Ball := (edgeBall e d a, edgeBall e d (a + 1))

/-- The pair of lane L`n` (Table PIN-2). -/
def laneBalls (n : Nat) (tx : Bool) : Ball × Ball := pairBalls (n / 24) ((if tx then 1 else 3) + 4 * (n % 24 / 12)) (10 + 3 * (n % 12))

/-- The pair of PCIe lane `j`. -/
def pcieBalls (j : Nat) (tx : Bool) : Ball × Ball := pairBalls 0 (if tx then 9 else 11) (13 + 3 * j)

/-- The pair of Ommund lane `k`. -/
def omdBalls (k : Nat) (tx : Bool) : Ball × Ball := pairBalls 2 (if tx then 9 else 11) (13 + 3 * k)

/-- The regions of Table PIN-1. -/
inductive BallRegion where
  | corner | laneField | band | filler | core
  deriving DecidableEq, Repr

/-- The depth from the nearer edge of a coordinate. -/
def ballDepth (x : Nat) : Nat := min x (55 - x)

/-- The region of a ball. -/
def Ball.region (b : Ball) : BallRegion :=
  let r := ballDepth b.row
  let c := ballDepth b.col
  let lo := min r c
  let hi := max r c
  if hi ≤ 9 then .corner
  else if lo ≤ 8 then .laneField
  else if 13 ≤ lo then .core
  else if 13 ≤ hi then .band
  else .filler

/-- The signals of the corner blocks (Tables PIN-4 to PIN-7): first row, first column, and the names row by row; the grid steps by 2. -/
def cornerBlocks : List (Nat × Nat × List String) :=
  [(1, 1, ["REF_CLK_P", "REF_CLK_N", "PPS_IN0", "PPS_IN1", "EXT0", "PPS_OUT0", "PPS_OUT1", "EXT1", "EXT2", "EXT3",
      "CLKOUT0_P", "CLKOUT0_N", "CLKOUT1_P", "CLKOUT1_N", "TIC_TB", "CLKOUT2_P", "CLKOUT2_N", "CLKOUT3_P", "CLKOUT3_N", "TIC_GATE0",
      "CLKOUT4_P", "CLKOUT4_N", "CLKOUT5_P", "CLKOUT5_N", "TIC_GATE1"]),
   (1, 46, ["GNSS_SCLK", "GNSS_L1_I[0]", "GNSS_L1_I[1]", "GNSS_L1_Q[0]", "GNSS_L1_Q[1]",
      "GNSS_L5_I[0]", "GNSS_L5_I[1]", "GNSS_L5_Q[0]", "GNSS_L5_Q[1]", "TIC_IN0", "TIC_IN1", "TIC_IN2", "TIC_IN3", "TIC_IN4", "TIC_IN5",
      "TIC_IN6", "TIC_IN7", "TIC_IN8", "TIC_IN9", "TIC_IN10", "TIC_IN11", "TIC_IN12", "TIC_IN13", "TIC_IN14", "TIC_IN15"]),
   (46, 1, ["PCIE_REFCLK_P", "PCIE_REFCLK_N", "PERST_N", "RSVD", "RSVD", "SPI_CLK", "SPI_CS_N", "SPI_IO[0]", "SPI_IO[1]", "SPI_IO[2]",
      "SPI_IO[3]", "I2C_SCL", "I2C_SDA", "RSVD", "RSVD", "JTAG_TCK", "JTAG_TMS", "JTAG_TDI", "JTAG_TDO", "JTAG_TRST_N",
      "STRAP_I2CA[0]", "STRAP_I2CA[1]", "STRAP_I2CA[2]", "STRAP_NOFLASH", "STRAP_TEST"]),
   (46, 46, ["POR_N", "RST_N", "WAKE_N", "PWRDN_REQ_N", "REG_EN_CORE", "PG_CORE", "PG_SRAM", "PG_LANE", "PG_IO", "GNSS_RF_EN",
      "AVS_CLK", "AVS_MDATA", "AVS_SDATA", "EVT_INT_N", "EVT_FAULT_N", "VDD_CORE_SENSE_P", "VDD_CORE_SENSE_N", "THERM_DP", "THERM_DN",
      "RSVD", "LANE_RCAL0", "LANE_RCAL1", "RSVD", "RSVD", "RSVD"])]

/-- The signal of a corner block at a ball, or none. -/
def cornerSignal (b : Ball) : Option String :=
  cornerBlocks.findSome? (fun x =>
    let r := b.row - x.1
    let c := b.col - x.2.1
    if x.1 ≤ b.row ∧ x.2.1 ≤ b.col ∧ r % 2 = 0 ∧ c % 2 = 0 ∧ r ≤ 8 ∧ c ≤ 8 then x.2.2[r / 2 * 5 + c / 2]? else none)

/-- The supplies of Table PIN-8. -/
inductive Supply where
  | vss | avddLaneH | avddLaneL | vddAon | vddSram | vddCore | vddio18 | vddio33
  deriving DecidableEq, Repr

/-- Depth and along of a ball of a lane field or a band: the depth is the smaller distance to an edge, and the along position runs so
that the lane pairs of Table PIN-3 stand at it. -/
def Ball.edgePos (b : Ball) : Nat × Nat :=
  if ballDepth b.row ≤ ballDepth b.col then (if b.row ≤ 27 then (b.row, 55 - b.col) else (55 - b.row, b.col))
  else if b.col ≤ 27 then (b.col, b.row) else (55 - b.col, 55 - b.row)

/-- A band ball carries a lane pair: PCIe on the south edge, Ommund on the north. -/
def bandSignal (b : Ball) : Bool :=
  (List.range 8).any (fun j => [true, false].any (fun t => decide ((pcieBalls j t).1 = b) || decide ((pcieBalls j t).2 = b))) ||
  (List.range 4).any (fun k => [true, false].any (fun t => decide ((omdBalls k t).1 = b) || decide ((omdBalls k t).2 = b)))

/-- The supply at a ball (Table PIN-8), or none where a signal or RSVD stands. -/
def Ball.supply (b : Ball) : Option Supply :=
  let p := b.edgePos
  match b.region with
  | .corner => if (cornerSignal b).isSome then none else some .vss
  | .laneField =>
    if p.1 = 2 then some .avddLaneH
    else if p.1 = 6 then some .avddLaneL
    else if p.1 % 4 = 0 ∨ p.2 % 3 = 0 then some .vss
    else none
  | .band => if p.1 = 12 then some .avddLaneH else if p.1 = 10 then some .avddLaneL else if bandSignal b then none else some .vss
  | .filler => if 27 < b.row ∧ 27 < b.col then some .vddio33 else some .vddio18
  | .core =>
    if (b.row + b.col) % 2 = 0 then some .vss
    else if b.row ≤ 14 then some .vddAon
    else if b.row ≤ 24 then some .vddSram
    else some .vddCore

/-! ## Output balls (R420, R433, R441, R443) -/

/-- The output balls of Table PIN-9 that the part's state drives. -/
inductive Pad where
  | laneTx (n : Nat) | omdTx (k : Nat) | pcieTx (j : Nat) | clkout (k : Nat) | ppsOut (j : Nat) | gnssRfEn
  | evtInt | evtFault | regEnCore | pwrdnReq
  deriving DecidableEq, Repr

/-- What stands on an output ball: a level, electrical idle, an open drain that is not pulled low, nothing (unconnected or high
impedance), the boundary register, or the function of its chapter. -/
inductive PadState where
  | low | high | idle | released | off | scan | function
  deriving DecidableEq, Repr

/-- A level. -/
def padLevel (b : Bool) : PadState := if b then .high else .low

/-- The ball is connected on the variant (R433). -/
def State.padThere (s : State) : Pad → Bool
  | .laneTx n => decide (n < s.variant.ports)
  | .omdTx _ => s.variant.pair
  | _ => true

/-- A bit of EVT_PIN_STAT is set: EVT_INT_N is asserted (R420). -/
def State.intPending (s : State) : Bool := (List.range 3).any (fun w => decide (s.rcWord ⟨.evtPinStat, w, 0⟩ ≠ 0))

/-- The function of an output ball outside reset: a domain that is not on, and pads that are held, show the fixed state (Table
PIN-12). -/
def State.padFunction (s : State) : Pad → PadState
  | .laneTx n => if s.domOn (n / 8) && s.padIn (n / 8) then (if (s.lane n).txSq || s.apB Fld.laneCtrl_TX_SQUELCH n then .idle else .function) else .idle
  | .omdTx _ => if s.domOn 19 && s.padIn 16 then .function else .idle
  | .pcieTx _ => if s.domOn 18 && s.padIn 15 then .function else .idle
  | .clkout k =>
    if s.domOn 16 && s.padIn 14 && s.apB Fld.pllOutCfg_EN k && !(s.pll.stopped.contains k) then .function else .low
  | .ppsOut j => padLevel (Tab.get {} s.pll.pps j : PpsOut).high
  | .gnssRfEn =>
    if !s.variant.gnss then .low
    else padLevel ((s.gnss.rfEn && s.domOn 14 && s.padIn 12) != s.apB Fld.gnssFeCfg_RF_EN_POL)
  | .evtInt => if s.intPending then .low else .released
  | .evtFault => if s.evt.faultN then .low else .released
  | .regEnCore => padLevel s.pwr.regEnCore
  | .pwrdnReq => if s.pwr.pwrdnReqN then .released else .low

/-- An output ball while POR_N or RST_N is low (Table PIN-12); the PPS outputs run on under KEEP_TIME (R404). -/
def State.padReset (s : State) : Pad → PadState
  | .ppsOut j => if s.pwr.keepTime then s.padFunction (.ppsOut j) else .low
  | .clkout _ => .low
  | .gnssRfEn => .low
  | .evtInt => .released
  | .evtFault => .released
  | .regEnCore => .high
  | .pwrdnReq => .released
  | _ => .idle

/-- What stands on an output ball.  Under a boundary instruction the balls follow the boundary register (R443), and with STRAP_TEST
the part drives none of them (R436). -/
def State.pad (s : State) (p : Pad) : PadState :=
  if !(s.padThere p) then .off
  else if s.pwr.scan then .scan
  else if s.pwr.inReset then (if s.boot.straps.test then .off else s.padReset p)
  else s.padFunction p

/-! ## IDCODE, I²C address, transmit taps -/

/-- The IDCODE word (R442): version 1 for stepping A1, DEVICE of SYS_ID, the manufacturer identity, 1. -/
def State.idcode (s : State) : Nat := packed [(0, 1, 1), (1, 11, Config.jedecId.toNat), (12, 16, s.variant.idCode.2), (28, 4, 1)]

/-- The 7-bit I²C address (Table PIN-10). -/
def State.i2cAddress (s : State) : Nat := 0x48 + s.boot.straps.i2ca % 8

/-- The taps PRE, MAIN and POST that a lane's transmitter uses, in 1/64 of full swing (R452): MAIN below 32 acts as 32; above a sum of
63 POST is lowered first, then PRE. -/
def txTaps (pre main post : Nat) : Nat × Nat × Nat :=
  let m := max 32 main
  let po := min post (63 - m - min pre (63 - m))
  (min pre (63 - m), m, po)

/-- The taps of lane `n` by the applied LANE_TX_EQ. -/
def State.laneTaps (s : State) (n : Nat) : Nat × Nat × Nat :=
  txTaps (s.ap Fld.laneTxEq_PRE n) (s.ap Fld.laneTxEq_MAIN n) (s.ap Fld.laneTxEq_POST n)

end Sys2Proof.Machine
end

