-- ==== Sys2Proof/Tests/Slice0.lean ====
section
/-! SUPPORT. Tests: commands that the well-formedness check refuses, worked examples of the spec, and for each obligation a witness
that the hypotheses of each of its clauses can hold together.  Every expected value is the spec's own. -/

set_option Elab.async false
set_option maxRecDepth 8000

namespace Sys2Proof.Tests

open Sys2Proof Sys2Proof.Machine

/-! ## States and commands to test with -/

/-- A part that has booted, with every unit ready and every register at its reset value. -/
def wUp : State := { State.reset with ready := 0xFFFFFFFF }

/-- A command of ring 56 with these first argument bytes. -/
def wCmd (l : List Byte) : CmdDesc := { src := .eng 0, args := (l ++ List.replicate 20 0).take 20 }

/-- Both copies of a word. -/
def wReg (s : State) (k : RegKey) (w : Word) : State :=
  { s with regs := { s.regs with written := Tab.set s.regs.written k w, applied := Tab.set s.regs.applied k w } }

/-- Every task has engine 0 as its holder, which runs. -/
def wTasks (s : State) : State :=
  { s with eng := { s.eng with engs := Tab.set s.eng.engs 0 { st := .run }, tasks := (List.range 12).map (fun t => (t, { holder := some 0 })) } }

/-- The path is unlocked. -/
def wKey (s : State) (p : Path) : State := { s with keys := Tab.set s.keys p { unlocked := true } }

/-- Group 0 in a single-lane mode. -/
def wLanes : State := wReg wUp ⟨.laneGrpMode, 0, 0⟩ 0x0202

/-- Arguments of a flow of 8 Mbit/s from port 0 to port 4: 128-byte frames within 100 µs, classifier entry 0. -/
def wFlowArgs : List Byte := [0, 0, 4, 0, 0, 0, 128, 0, 0x40, 0x1F, 0, 0, 0xA0, 0x86, 1, 0, 0, 0, 0, 0]

/-- A part that can admit that flow. -/
def wAdmit : State := { wTasks wLanes with fdb := { cls := [(0, { port := 0, kind := 0, action := 0, vid := 0, key := 0, mask := 0, cbFn := 0, macHi := 0 })] } }

/-- That part with the flow admitted under index 0. -/
def wFlow : State :=
  { (wAdmit.setObj .flow 0 { args := wFlowArgs }).setFlow 0 { bound := 100000, rate := 5000, maxFrame := 128, kbps := 8000 } with
    index := [(.flow, { fresh := 1 })] }

/-- Group 11 in a single-lane mode, lane 95 as given. -/
def wLane95 (l : Lane) : State := (wReg wUp ⟨.laneGrpMode, 11, 0⟩ 0x0202).setLane 95 l

/-- A command of ring 56 with this buffer, padded to `n` bytes. -/
def wExt (l : List Byte) (n : Nat) : CmdDesc :=
  { src := .eng 0, flags := 2, args := List.replicate 8 0 ++ leBytes n 2 ++ List.replicate 10 0, ext := (l ++ List.replicate n 0).take n }

/-- A list that opens every gate for 1 µs of 2 µs. -/
def wGcl : Gcl := { cycle := 2000, baseS := 0, baseNs := 0, cycExt := 0, entries := [⟨0x1FF, 0, 1000⟩, ⟨0x0FF, 0, 1000⟩], start := 0 }

/-- A buffer of GCL_SET with that list for port 95. -/
def wGclBuf : List Byte := leBytes 95 2 ++ leBytes 2 2 ++ leBytes 2000 4 ++ List.replicate 24 0 ++ leBytes 0x1FF 2 ++ [0, 0] ++ leBytes 1000 4 ++
  leBytes 0x0FF 2 ++ [0, 0] ++ leBytes 1000 4

/-- Port 95 up. -/
def wPort95 (x : PortSt) : State := (wLane95 { sig := true, train := .running, lock := true }).setPort 95 { x with up := true }

/-- A frame received at port 0. -/
def wFrame : Frame := { port := 0, h := { dst := 1, src := 2, len := 100 }, decided := true }

/-- Engine 0 runs and holds no task. -/
def wEng0 (s : State) : State := { s with eng := { s.eng with engs := Tab.set s.eng.engs 0 { st := .run } } }

/-- Timing channel 0, a slave at port 3, as given. -/
def wChan (s : State) (x : TChan) : State :=
  (s.setObj .tchan 0 { args := [3, 0, 24, 1, 1, 0, 0xFC, 0xFC] ++ List.replicate 12 0 }).setTchan 0 x

/-- Time candidate `id` is selected. -/
def wSel (s : State) (id : Nat) : State :=
  { s with ref := { s.ref with tsel := some id, cands := Tab.set s.ref.cands id { st := .selected } } }

/-- Frame 0, not yet looked up, at port 3. -/
def wRx (s : State) : State := s.setFrame 0 { wFrame with port := 3, decided := false }

/-- Ring `n` as given. -/
def wRing (s : State) (n : Nat) (r : Ring) : State := { s with hif := { s.hif with rings := Tab.set s.hif.rings n r } }

/-- Descriptor of `l`, padded to 32 bytes. -/
def wDesc (l : List Byte) : List Byte := (l ++ List.replicate 32 0).take 32

/-- That flow with one copy queued. -/
def wFlowCopy : State :=
  { wFlow with fab := { wFlow.fab with frames := [(0, { wFrame with flow := some 0, conforms := true })], copies := [(0, { frame := 0, port := 4, q := 8, st := .queued, flow := some 0, len := 100 })], nextFrame := 1, nextCopy := 1 } }

/-- Buffers as given, of requester 97. -/
def wBuf (x : Buf) : State := { wUp with bpm := { wUp.bpm with bufs := [(bufIndex 3 0, x)], reqs := [(97, { used := 16 })] } }

/-- The auditor runs. -/
def wAudit (s : State) : State := wReg s ⟨.bpmAuditCfg, 0, 0⟩ 0xFFFFFFFF

/-- Candidate `id` as given, with ESMC rank 1 heard at the port of every lane up to 3. -/
def wCand (s : State) (id : Nat) (x : Cand) : State :=
  { s with ref := { s.ref with cands := Tab.set s.ref.cands id x, esmc := [(0, 1), (1, 1), (2, 1), (3, 1)] } }

/-- PLL `x` as given, REFCLK present. -/
def wPll (x : Nat) (p : Pll) : State := ({ wUp with pll := { wUp.pll with refclkOk := true } } : State).setPll x p

/-- A ramp of two segments that runs in its first. -/
def wRampVal : Ramp := { segs := [⟨1000, 100, false⟩, ⟨-1000, 100, false⟩], run := true }

/-- A buffer of PLL_RAMP_LOAD with two segments for PLL-T. -/
def wRampBuf : List Byte := [0, 2, 0, 0, 0, 0, 0, 0] ++ leBytes 1000 4 ++ leBytes 100 2 ++ [0, 0] ++ leBytes 2000 4 ++ leBytes 50 2 ++ [0, 0]

/-- Channel `c` of the receiver as given, with the sampling clock in range. -/
def wGnss (c : Nat) (x : GnssCh) : State :=
  { wReg wUp ⟨.gnssChCfg, c, 0⟩ 0x0A050603 with gnss := { wUp.gnss with clkOk := true, chans := [(c, x)] } }

/-- Search job 0 with its record as given. -/
def wSearch (x : SearchJob) : State :=
  ({ wUp with gnss := { wUp.gnss with clkOk := true, jobs := [(0, x)] } } : State).setObj .search 0 { args := [0, 0, 1, 0, 0, 0, 0, 0, 10, 0, 20, 0] ++ List.replicate 8 0 }

/-- TIC channel 3 as given, armed by its object. -/
def wTic (x : TicCh) : State :=
  ({ wReg wUp ⟨.ticCfg, 0, 0⟩ 1 with tic := { wUp.tic with tbOk := true, chans := [(3, x)] } } : State).setObj .mchan 3 { args := [3, 0, 1, 0, 16] ++ List.replicate 15 0 }

/-- A calibration job 0 of TIC channel 3, with its record as given. -/
def wCal (x : CalJob) : State :=
  ({ wTasks wUp with cal := { wUp.cal with jobs := [(0, x)] } } : State).setObj .cal 0 { args := [2, 0, 3, 0] ++ List.replicate 16 0 }

/-- Engine 1 runs beside engine 0 and is the standby of every task. -/
def wTwo (s : State) : State :=
  { s with eng := { s.eng with engs := Tab.set (Tab.set s.eng.engs 0 { st := .run }) 1 { st := .run }, tasks := (List.range 12).map (fun t => (t, { holder := some 0, standby := some 1 })) } }

/-- The pair enabled with one out-of-band lane, in the given state. -/
def wPairSt (s : State) (x : PairState) : State := wReg { s with pair := { x with lanes := 1 } } ⟨.pairCfg, 0, 0⟩ 0x00180107

/-- A heartbeat of the peer unit 2. -/
def wHb : HbPayload := { pairId := 0, unitId := 2, role := 1, state := 3, inbOk := true, tstate := 2, primaryS := 5, lastSeq := 0 }

/-- A time state of a locked peer. -/
def wTs : TimeStateRec := { tstate := 2, hstage := 0, budgetOver := false, stepPending := false, cls := 0, hoErr := 0, hoTime := 0, qr := 1 }

/-- A window word of bank 0. -/
def wSpad : State := wEng0 wUp

/-- The power controller as given. -/
def wPwr (x : PwrState) : State := { wUp with pwr := x }

/-- Only candidate `id` has a record, so no other may be used. -/
theorem cands_one {s : State} {id : Nat} {x : Cand} (h : s.ref.cands = [(id, x)]) (j : Nat) (hj : j ≠ id) : s.candUsable j = false := by
  simp [State.candUsable, State.cand, h, Tab.get, Ne.symm hj]

/-- No candidate has a record, so none may be used. -/
theorem cands_none {s : State} (h : s.ref.cands = []) (j : Nat) : s.candUsable j = false := by
  simp [State.candUsable, State.cand, h, Tab.get]

/-- With SPREAD 0 the ring of a received frame does not depend on its hash. -/
theorem rxRing_noSpread (s : State) (r tc h : Nat)
    (h0 : s.ap Fld.hifRxMap_SPREAD (32 * s.ap Fld.hifGlbCtrl_RX_BANK + (if 16 ≤ r then 3 else min 2 r) * 8 + tc) = 0) :
    s.rxRing r tc h = s.rxRing r tc 0 := by
  unfold State.rxRing
  simp only [h0, Nat.pow_zero, Nat.mod_one]

/-- No domain is held down in the part as `wUp` has it. -/
theorem held_none {s : State} (hv : s.variant = wUp.variant) (hf : s.fused = wUp.fused) (hd : s.pwr.dom = []) (hg : s.pwr.downGroups = [])
    (hb : s.pwr.downBanks = []) (d : Nat) : s.heldDown d = false := by
  have h : s.domAbsent d = false := by
    rw [show s.domAbsent d = wUp.domAbsent d by simp only [State.domAbsent, State.engPresent, hv, hf]]
    by_cases hl : d < 48
    · interval_cases d <;> decide
    · simp [State.domAbsent, hl, show ¬ d < 12 by omega, show ¬ d = 14 by omega, show ¬ d = 19 by omega]
  simp [State.heldDown, State.domOn, State.domMode, h, hd, hg, hb, Tab.get]

/-! ## Well-formedness: each check refuses an ill-formed command -/

theorem test_wf_paths_and_sources :
    Instr.wf (.sysKeyWrite (.eng 16) 0) = false ∧
    Instr.wf (.flowCreate { wCmd [] with src := .ring 55 }) = false ∧
    Instr.wf (.flowCreate { wCmd [] with src := .ring 64 }) = false ∧
    Instr.wf (.flowCreate { wCmd [] with src := .eng 16 }) = false ∧
    Instr.wf (.flowCreate { wCmd [] with args := [] }) = false ∧
    Instr.wf (.flowCreate { wCmd [] with ext := List.replicate 4097 0 }) = false := by decide +kernel

theorem test_wf_lanes_ports_and_groups :
    Instr.wf (.laneRetrain 96) = false ∧
    Instr.wf (.frameBoundaryApply 97 false false) = false ∧
    Instr.wf (.laneGrpReturn .pcie 12) = false ∧
    Instr.wf (.ingressFrame 96 { dst := 0, src := 0, len := 64 }) = false ∧
    Instr.wf (.hiberRetrain 96) = false := by decide +kernel

theorem test_wf_the_host_interface :
    Instr.wf (.pcieLinkUp 5 4 256 { mrrs := 512, tag10 := false, bme := true }) = false ∧
    Instr.wf (.pcieLinkUp 3 3 256 { mrrs := 512, tag10 := false, bme := true }) = false ∧
    Instr.wf (.pcieLinkUp 3 4 1024 { mrrs := 512, tag10 := false, bme := true }) = false ∧
    Instr.wf (.pcieLinkUp 3 4 256 { mrrs := 64, tag10 := false, bme := true }) = false ∧
    Instr.wf (.ringCfgWrite 64 .ctrl 0) = false ∧
    Instr.wf (.doorbell 48 0 15 0) = false ∧
    Instr.wf (.cplDoorbell 47 0 15 0) = false ∧
    Instr.wf (.cplDoorbell 56 0 15 0) = false ∧
    Instr.wf (.descTake 3 [] []) = false ∧
    Instr.wf (.descTake 48 (List.replicate 32 0) []) = false ∧
    Instr.wf (.txCompletion 24 1) = false ∧
    Instr.wf (.intTimerExpire 47) = false ∧
    Instr.wf (.msixUnmask 64) = false ∧
    Instr.wf (.i2cReadTransfer 0 4097) = false ∧
    Instr.wf (.persStoreDone 512) = false := by decide +kernel

theorem test_wf_flows_forwarding_and_buffers :
    Instr.wf (.flowBoundConfirm 16384) = false ∧
    Instr.wf (.cbRecoveryReset 1024) = false ∧
    Instr.wf (.fdbLearn 4) = false ∧
    Instr.wf (.storeRebuildDone 5) = false ∧
    Instr.wf (.bpmFree 0 106) = false ∧
    Instr.wf (.auditVisit { upsets := [.store 5] }) = false ∧
    Instr.wf (.auditVisit { upsets := [.charge 106 0] }) = false ∧
    Instr.wf (.canaryWindow [] 0) = false ∧
    Instr.wf (.swCondChange 2) = false ∧
    Instr.wf (.pauseReceive 0 false 0 []) = false := by decide +kernel

theorem test_wf_time_references_and_clocks :
    Instr.wf (.tchanTimeout 4096) = false ∧
    Instr.wf (.refCandSample 103 true 0 0) = false ∧
    Instr.wf (.esmcReceive 0 16 none) = false ∧
    Instr.wf (.ppsInEdge 2 0 0) = false ∧
    Instr.wf (.pllLock 4 0) = false ∧
    Instr.wf (.pllBypassEntry 0 3 0) = false ∧
    Instr.wf (.pllBypassEntry 4 1 0) = false := by decide +kernel

theorem test_wf_satellites_intervals_and_calibration :
    Instr.wf (.gnssChRelease 64) = false ∧
    Instr.wf (.gnssSampleCheck [] [] false false) = false ∧
    Instr.wf (.gnssDwellEnd { jobs := [32], dets := [] }) = false ∧
    Instr.wf (.gnssEpoch [] 15275) = false ∧
    Instr.wf (.ticRearm 16) = false ∧
    Instr.wf (.ticEdge 0 true 0 1024) = false ∧
    Instr.wf (.calJobTimeout 16) = false ∧
    Instr.wf (.calJobEnd 0 0 0 0 [0] 0) = false ∧
    Instr.wf (.calStore 512) = false := by decide +kernel

theorem test_wf_engines_the_link_and_power :
    Instr.wf (.engWdogExpire 16) = false ∧
    Instr.wf (.engFaultDetect 0 1) = false ∧
    Instr.wf (.engFaultDetect 0 5) = false ∧
    Instr.wf (.engTakeover 11 0) = false ∧
    Instr.wf (.spadBankTransitionDone 32) = false ∧
    Instr.wf (.spadWindowWrite 2 15 0 .idle) = false ∧
    Instr.wf (.spadWindowWrite 8388608 15 0 .idle) = false ∧
    Instr.wf (.perfPcWrap 0 8) = false ∧
    Instr.wf (.omdLaneUp 4) = false ∧
    Instr.wf (.pwrSwitchGood 20) = false ∧
    Instr.wf (.pwrSwitchGood 48) = false ∧
    Instr.wf (.pwrSwitchGood 96) = false ∧
    Instr.wf (.pwrWakeSupplyTimeout 6) = false ∧
    Instr.wf (.jtagUpdateIr 256) = false := by decide +kernel

theorem test_wf_rows_told_apart_by_ACTION :
    Instr.wf (.rampStart (wCmd [0, 1])) = false ∧
    Instr.wf (.rampStopHold (wCmd [0, 0])) = false ∧
    Instr.wf (.rampStopZero (wCmd [0, 1])) = false ∧
    Instr.wf (.gnssSectOut (wCmd [0, 2])) = false ∧
    Instr.wf (.gnssSectIn (wCmd [0, 0])) = false ∧
    Instr.wf (.gnssSectTest (wCmd [0, 1])) = false ∧
    Instr.wf (.gnssSurveyRestart (wCmd [1])) = false ∧
    Instr.wf (.gnssSurveyEnd (wCmd [0])) = false := by decide +kernel

/-- An ill-formed command is refused by name. -/
theorem test_illFormed_refused : execLaneRetrain 96 wUp = .refused .illFormed := rfl

/-! ## Worked examples of the spec -/

/-- Example DOC-1: handle 0x2030_0A15 is timing channel 0xA15, generation 3. -/
theorem test_handle_DOC1 : hObjType 0x20300A15 = some .tchan ∧ hGen 0x20300A15 = 3 ∧ hIndex 0x20300A15 = 0xA15 := by decide +kernel

/-- Example MAP-1: REF_CAND_CFG of candidate 102 stands at 0x0038_1660. -/
theorem test_address_MAP1_ref : regAt 0x00381660 = some ⟨.refCandCfg, 102, 0⟩ := by decide +kernel

/-- Example MAP-1: persistent word 400 stands at 0x0004_0640. -/
theorem test_address_MAP1_pers : regAt 0x00040640 = some ⟨.persWord, 400, 0⟩ := by decide +kernel

/-- Example FDB-1: the recovery function after frames 100, 100, 101, 101, 103, 102, 103 and 140. -/
theorem test_recovery_FDB1 :
    let x := [100, 100, 101, 101, 103, 102, 103, 140].foldl (fun (f : CbFn) n => (f.recover (some n)).1)
      { type := 1, hist := 16, resetMs := 1, pop := true, ports := 0 }
    x.recov = some 103 ∧ x.history = 15 ∧ x.passed = 4 ∧ x.discarded = 3 ∧ x.outOfOrder = 1 ∧ x.rogue = 1 ∧ x.lost = 0 := by decide +kernel

/-! ## The hypotheses of the statements are met -/

/-- `EmptyQueueTick`: the hypotheses of each clause hold together somewhere. -/
theorem witness_EmptyQueueTick :
    (∃ (s : State), s.pending = [] ∧ s.pwr.inReset = false ∧ s.isReady Rdy.tcore = true ∧ s.clk.secDone < (s.tod + periodUnits
      s.clk.rate) / unitsPerS) :=
  ⟨{ wUp with clk := { wUp.clk with tcA := unitsPerS - 1 } }, by decide +kernel⟩

/-- `CommandChecks`: the hypotheses of each clause hold together somewhere. -/
theorem witness_CommandChecks :
    (∃ (s : State) (y : ObjType) (d : CmdDesc), s.Up ∧ d.wf = true ∧ s.startBlocked d (y.op 3) = false ∧ s.objAbsent y d.handle = true) ∧
    (∃ (s : State) (y : ObjType) (d : CmdDesc), s.Up ∧ d.wf = true ∧ s.startBlocked d (y.op 3) = false ∧ s.objAbsent y d.handle = false
      ∧ (hType d.handle ≠ y.code ∨ y.indexes ≤ hIndex d.handle)) ∧
    (∃ (s : State) (y : ObjType) (d : CmdDesc) (st : Status), s.Up ∧ d.wf = true ∧ s.startBlocked d (y.op 4) = false ∧ y ≠ .flow ∧
      s.drainingObj y d.handle = none ∧ s.objAbsent y d.handle = false ∧ d.badForm false = false ∧ hType d.handle = y.code ∧ hIndex
      d.handle < y.indexes ∧ drainReserved d = false ∧ st = (if s.parityIn y.blocks then .parity else if y.ready.any (fun b =>
      !(s.isReady b)) then .notReady else .handleStale) ∧ s.stale y d.handle = true) ∧
    (∃ (s : State) (d : CmdDesc) (k : Nat) (st : Status), s.Up ∧ d.wf = true ∧ s.startBlocked d 0x8002 = false ∧ s.check d
      { s.flashChecks d true 4096 with guarded := true } = some (k, st)) ∧
    (∃ (s : State) (d : CmdDesc), s.Up ∧ d.wf = true ∧ s.startBlocked d 0xCC03 = false ∧ s.variant.pair = false) ∧
    (∃ (s : State) (d : CmdDesc), s.Up ∧ d.wf = true ∧ s.startBlocked d 0xCC03 = false ∧ s.variant.pair = true ∧ d.badForm false =
      false ∧ d.handle = 0 ∧ d.zero 15 32 = true ∧ s.parityIn [.pair] = true) :=
  ⟨⟨{ wUp with variant := .hd9648nx }, .search, wCmd [], rfl, by decide +kernel⟩,
   ⟨wUp, .cal, { wCmd [] with handle := 0xFFFFFFFF }, rfl, by decide +kernel⟩,
   ⟨wUp, .cal, { wCmd [] with handle := 0x60000000 }, .handleStale, rfl, by decide +kernel⟩,
   ⟨wUp, wCmd [0, 16], 3, .locked, rfl, by decide +kernel⟩,
   ⟨{ wUp with variant := .hd9632nx }, wCmd [], rfl, by decide +kernel⟩,
   ⟨{ wUp with regs := { cfgErr := [0x4C0000] } }, wCmd [], rfl, by decide +kernel⟩⟩

/-- `RegisterWrites`: the hypotheses of each clause hold together somewhere. -/
theorem witness_RegisterWrites :
    (∃ (s : State) (p : Path) (a : Nat) (k : RegKey), s.Up ∧ s.Writable k ∧ p.wf = true ∧ a < 0x800000 ∧ regAt (a / 4 * 4) = some k ∧
      k.name.acts = false ∧ k.storedMask ≠ 0 ∧ s.pendOverflow k (s.waitPoints k allBits) = false) ∧
    (∃ (s : State) (p : Path) (a : Nat) (k : RegKey), s.Up ∧ s.Writable k ∧ p.wf = true ∧ a < 0x800000 ∧ regAt (a / 4 * 4) = some k ∧
      k.name.acts = false ∧ k.storedMask ≠ 0 ∧ s.pendOverflow k (s.waitPoints k allBits) = true) ∧
    (∃ (s : State) (p : Path) (a : Nat), s.Up ∧ p.wf = true ∧ a < 0x800000 ∧ regAt (a / 4 * 4) = none ∧ mbxAt (a / 4 * 4) = none) ∧
    (∃ (s : State) (p : Path) (a : Nat) (v : Word) (k : RegKey), s.Up ∧ s.Writable k ∧ p.wf = true ∧ regAt (a / 4 * 4) = some k ∧
      k.name.acts = false ∧ k.typeMask .rw ≠ 0 ∧ s.pendOverflow k (s.waitPoints k (v &&& k.typeMask .rw)) = false) ∧
    (∃ (s : State) (p : Path) (a : Nat) (v : Word) (k : RegKey), s.Up ∧ s.Writable k ∧ p.wf = true ∧ regAt (a / 4 * 4) = some k ∧
      k.name.acts = false ∧ k.typeMask .rw ≠ 0 ∧ s.pendOverflow k (s.waitPoints k (v &&& k.typeMask .rw)) = false) ∧
    (∃ (s : State) (p : Path) (a : Nat) (v : Word) (k : RegKey), s.Up ∧ s.Writable k ∧ p.wf = true ∧ regAt (a / 4 * 4) = some k ∧
      k.name.acts = false ∧ k.typeMask .rw ≠ 0 ∧ s.pendOverflow k (s.waitPoints k (v &&& k.typeMask .rw)) = false) ∧
    (∃ (s : State) (p : Path) (a : Nat) (k : RegKey), s.Up ∧ p.wf = true ∧ regAt (a / 4 * 4) = some k ∧ k.typeMask .rw = 0) ∧
    (∃ (s : State) (p : Path) (a : Nat) (k : RegKey), s.Up ∧ p.wf = true ∧ regAt (a / 4 * 4) = some k ∧ k.typeMask .rw = 0) ∧
    (∃ (s : State) (p : Path) (a : Nat) (k : RegKey), s.Up ∧ p.wf = true ∧ regAt (a / 4 * 4) = some k ∧ k.typeMask .rw = 0) :=
  ⟨⟨wUp, .pcie, 0x103008, ⟨.lanePeak, 3, 0⟩, rfl, by unfold State.Writable; decide +kernel, by decide +kernel⟩,
   ⟨{ wUp with regs := { pend := (List.range 1024).map (fun i => { key := ⟨.persWord, i, 7⟩, points := [.cmt] }) } }, .pcie, 0x103008,
     ⟨.lanePeak, 3, 0⟩, rfl, by unfold State.Writable; decide +kernel, by decide +kernel⟩,
   ⟨wUp, .pcie, 0x7FFFF0, rfl, by decide +kernel⟩,
   ⟨wUp, .pcie, 0x103008, 0xFFFFFFFF, ⟨.lanePeak, 3, 0⟩, rfl, by unfold State.Writable; decide +kernel, by decide +kernel⟩,
   ⟨wUp, .pcie, 0x103008, 0xFFFFFFFF, ⟨.lanePeak, 3, 0⟩, rfl, by unfold State.Writable; decide +kernel, by decide +kernel⟩,
   ⟨wUp, .pcie, 0x103008, 0xFFFFFFFF, ⟨.lanePeak, 3, 0⟩, rfl, by unfold State.Writable; decide +kernel, by decide +kernel⟩,
   ⟨wUp, .pcie, 0x103014, ⟨.laneQual, 3, 0⟩, rfl, by decide +kernel⟩,
   ⟨wUp, .pcie, 0x103014, ⟨.laneQual, 3, 0⟩, rfl, by decide +kernel⟩,
   ⟨wUp, .pcie, 0x103014, ⟨.laneQual, 3, 0⟩, rfl, by decide +kernel⟩⟩

/-- `ReadClears`: the hypotheses of each clause hold together somewhere. -/
theorem witness_ReadClears :
    (∃ (s : State) (p : Path) (a : Nat) (k : RegKey), s.Up ∧ p.wf = true ∧ a < 0x800000 ∧ regAt (a / 4 * 4) = some k ∧ k.name ≠ .sysKey
      ∧ k.name.row.block ≠ .perf ∧ s.regPresent k = true ∧ s.regDown k = false) ∧
    (∃ (s : State) (a : Nat), s.Up ∧ 0x4000000 ≤ a ∧ a < 0x8000000) ∧
    (∃ (s : State) (a : Nat), s.Up ∧ 0x8000000 ≤ a ∧ a < 0x8004000) ∧
    (∃ (s : State) (p : Path) (a : Nat) (k : RegKey), s.Up ∧ p.wf = true ∧ 0x1000000 ≤ a ∧ a < 0x4000000 ∧ regAt (a % 0x1000000 / 4 *
      4) = some k ∧ k.name.row.block ≠ .perf) ∧
    (∃ (s : State) (p : Path) (a : Nat) (be : BitVec 4) (b : Block), s.Up ∧ p.wf = true ∧ a < 0x800000 ∧ regAt (a / 4 * 4) = none ∧
      mbxAt (a / 4 * 4) = some (b, 0x3C + 4 * (s.mbxPage p b).data.length) ∧ (s.mbxPage p b).data ≠ [] ∧ (s.mbxPage p b).valid = true ∧
      bitAt be.toNat 3 = true) ∧
    (∃ (s : State) (a n : Nat), s.Up ∧ n ≤ 4096 ∧ a < 0x800000) :=
  ⟨⟨wUp.bump Fld.laneExitCnt_FAILS 3, .pcie, 0x103028, ⟨.laneExitCnt, 3, 0⟩, rfl, by decide +kernel⟩,
   ⟨wUp, 0x4000004, rfl, by decide +kernel⟩,
   ⟨wUp, 0x8000004, rfl, by decide +kernel⟩,
   ⟨wUp.bump Fld.laneExitCnt_FAILS 3, .pcie, 0x3103028, ⟨.laneExitCnt, 3, 0⟩, rfl, by decide +kernel⟩,
   ⟨{ wUp with mbx := [((.lane, .pcie), { valid := true, status := 0, data := [5, 6] })] }, .pcie, Block.lane.mailbox + 0x44, 15,
     .lane, rfl, by decide +kernel⟩,
   ⟨wUp, 0x103014, 4, rfl, by decide +kernel⟩⟩

/-- `I2cAndMailbox`: the hypotheses of each clause hold together somewhere. -/
theorem witness_I2cAndMailbox :
    (∃ (s : State) (a : Nat) (g : I2cGroup) (k : RegKey), s.Up ∧ s.Writable k ∧ a % 4 = 0 ∧ a < 0x800000 ∧ regAt a = some k ∧
      k.name.acts = false ∧ k.storedMask ≠ 0 ∧ g.mask ≠ 0 ∧ s.pendOverflow k (s.waitPoints k (BitVec.ofNat 32 g.mask.toNat)) = false) ∧
    (∃ (s : State) (g : I2cGroup), s.Up ∧ g.mask = 0) ∧
    (∃ (s : State) (p : Path) (b : Block), s.Up ∧ p.wf = true ∧ b.hasMbx = true ∧ b.mailbox < 0x800000 ∧ regAt b.mailbox = none ∧ mbxAt
      b.mailbox = some (b, 0) ∧ s.blockPresent b = true) ∧
    (∃ (s : State) (p : Path) (b : Block), s.Up ∧ p.wf = true ∧ b.hasMbx = true ∧ b.mailbox < 0x800000 ∧ regAt b.mailbox = none ∧ mbxAt
      b.mailbox = some (b, 0) ∧ s.blockPresent b = false) :=
  ⟨⟨wUp, 0x10300C, { mask := 0x00FF, data := 0x1234 }, ⟨.laneAdptCfg, 3, 0⟩, rfl, by unfold State.Writable; decide +kernel,
     by decide +kernel⟩,
   ⟨wUp, { mask := 0, data := 0x1234 }, rfl, by decide +kernel⟩,
   ⟨wUp, .pcie, .lane, rfl, by decide +kernel⟩,
   ⟨{ wUp with variant := .hd9648nx }, .pcie, .gnss, rfl, by decide +kernel⟩⟩

/-- `KeyPerPath`: the hypotheses of each clause hold together somewhere. -/
theorem witness_KeyPerPath :
    (∃ (s : State) (p : Path), s.Up ∧ p.wf = true ∧ p ≠ .boot ∧ (s.key p).blocked = false) ∧
    (∃ (s : State) (p : Path) (v : Word), s.Up ∧ p.wf = true ∧ p ≠ .boot ∧ (s.key p).blocked = false ∧ v ≠ 0x7E1A) ∧
    (∃ (s : State) (p : Path), s.Up ∧ p.wf = true ∧ (s.key p).blocked = true) ∧
    (∃ (s : State) (p : Path), s.Up ∧ p.wf = true) ∧
    (∃ (s : State) (p : Path), s.Up ∧ p.wf = true) :=
  ⟨⟨wUp, .pcie, rfl, by decide +kernel⟩,
   ⟨wUp, .pcie, 0, rfl, by decide +kernel⟩,
   ⟨{ wUp with keys := [(.pcie, { blocked := true })] }, .pcie, rfl, by decide +kernel⟩,
   ⟨wUp, .pcie, rfl, by decide +kernel⟩,
   ⟨wUp, .pcie, rfl, by decide +kernel⟩⟩

/-- `ApplyPoints`: the hypotheses of each clause hold together somewhere. -/
theorem witness_ApplyPoints :
    (∃ (s : State) (k : RegKey), s.Up ∧ k ∈ s.waitingAt .cmt (fun _ => true) ∧ k.name.commitRule = false ∧ k.pointMask .cmt ≠ 0) ∧
    (∃ (s : State) (k : RegKey) (w : Word), s.Up ∧ s.waitingAt .cmt (fun _ => true) = [k] ∧ w = ((s.stored k &&& ~~~ k.pointMask .cmt)
      ||| (s.written k &&& k.pointMask .cmt)) ∧ k = ⟨.swBoundRate, 0, 0⟩) ∧
    (∃ (s : State) (k : RegKey) (w : Word), s.Up ∧ s.waitingAt .cmt (fun _ => true) = [k] ∧ w = ((s.stored k &&& ~~~ k.pointMask .cmt)
      ||| (s.written k &&& k.pointMask .cmt)) ∧ (k.name = .bpmCfg ∨ k.name = .bpmHeadroom)) ∧
    (∃ (s : State) (k : RegKey) (w : Word), s.Up ∧ s.waitingAt .cmt (fun _ => true) = [k] ∧ w = ((s.stored k &&& ~~~ k.pointMask .cmt)
      ||| (s.written k &&& k.pointMask .cmt)) ∧ (k.name = .portCfg ∨ k.name = .portSchedCap) ∧ s.admBusy = false) ∧
    (∃ (s : State) (k : RegKey) (w : Word) (g : _) (q : _), s.Up ∧ s.waitingAt .cmt (fun _ => true) = [k] ∧ w = ((s.stored k &&& ~~~
      k.pointMask .cmt) ||| (s.written k &&& k.pointMask .cmt)) ∧ k = ⟨.laneGrpMode, g, 0⟩ ∧ g < 12 ∧ q < 2) ∧
    (∃ (s : State) (k : RegKey) (w : Word) (x : _) (m : _), s.Up ∧ s.waitingAt .cmt (fun _ => true) = [k] ∧ w = ((s.stored k &&& ~~~
      k.pointMask .cmt) ||| (s.written k &&& k.pointMask .cmt)) ∧ (x = 1 ∨ x = 2) ∧ (k, m) ∈ pllWords x) ∧
    (∃ (s : State) (p : Nat), s.Up ∧ p ≤ 96) ∧
    (∃ (s : State) (p : Nat) (k : RegKey), s.Up ∧ p ≤ 96 ∧ k = ⟨.portExpress, p, 0⟩ ∧ k ∈ s.waitingAt .frm (fun _ => true)) :=
  ⟨⟨{ wUp with regs := { written := [(⟨.pairCfg, 0, 0⟩, 1)], pend := [{ key := ⟨.pairCfg, 0, 0⟩, points := [.cmt] }] } }, ⟨.pairCfg, 0,
     0⟩, rfl, by decide +kernel⟩,
   ⟨{ wUp with regs := { written := [(⟨.swBoundRate, 0, 0⟩, 0x00001000)], pend := [{ key := ⟨.swBoundRate, 0, 0⟩, points := [.cmt] }] } },
     ⟨.swBoundRate, 0, 0⟩,
     ((({ wUp with regs := { written := [(⟨.swBoundRate, 0, 0⟩, 0x00001000)], pend := [{ key := ⟨.swBoundRate, 0, 0⟩, points := [.cmt] }] } }
     : State).stored (⟨.swBoundRate, 0, 0⟩ : RegKey) &&& ~~~ (⟨.swBoundRate, 0, 0⟩ : RegKey).pointMask .cmt) |||
     (({ wUp with regs := { written := [(⟨.swBoundRate, 0, 0⟩, 0x00001000)], pend := [{ key := ⟨.swBoundRate, 0, 0⟩, points := [.cmt] }] } }
     : State).written (⟨.swBoundRate, 0, 0⟩ : RegKey) &&& (⟨.swBoundRate, 0, 0⟩ : RegKey).pointMask .cmt)), rfl, by decide +kernel⟩,
   ⟨{ wUp with regs := { written := [(⟨.bpmCfg, 0, 0⟩, 0x1F)], pend := [{ key := ⟨.bpmCfg, 0, 0⟩, points := [.cmt] }] } }, ⟨.bpmCfg, 0,
     0⟩, ((({ wUp with regs := { written := [(⟨.bpmCfg, 0, 0⟩, 0x1F)], pend := [{ key := ⟨.bpmCfg, 0, 0⟩, points := [.cmt] }] } } :
     State).stored (⟨.bpmCfg, 0, 0⟩ : RegKey) &&& ~~~ (⟨.bpmCfg, 0, 0⟩ : RegKey).pointMask .cmt) |||
     (({ wUp with regs := { written := [(⟨.bpmCfg, 0, 0⟩, 0x1F)], pend := [{ key := ⟨.bpmCfg, 0, 0⟩, points := [.cmt] }] } } :
     State).written (⟨.bpmCfg, 0, 0⟩ : RegKey) &&& (⟨.bpmCfg, 0, 0⟩ : RegKey).pointMask .cmt)), rfl, by decide +kernel⟩,
   ⟨{ wUp with regs := { written := [(⟨.portCfg, 3, 0⟩, 0x1)], pend := [{ key := ⟨.portCfg, 3, 0⟩, points := [.cmt] }] } }, ⟨.portCfg,
     3, 0⟩, ((({ wUp with regs := { written := [(⟨.portCfg, 3, 0⟩, 0x1)], pend := [{ key := ⟨.portCfg, 3, 0⟩, points := [.cmt] }] } } :
     State).stored (⟨.portCfg, 3, 0⟩ : RegKey) &&& ~~~ (⟨.portCfg, 3, 0⟩ : RegKey).pointMask .cmt) |||
     (({ wUp with regs := { written := [(⟨.portCfg, 3, 0⟩, 0x1)], pend := [{ key := ⟨.portCfg, 3, 0⟩, points := [.cmt] }] } } :
     State).written (⟨.portCfg, 3, 0⟩ : RegKey) &&& (⟨.portCfg, 3, 0⟩ : RegKey).pointMask .cmt)), rfl, by decide +kernel⟩,
   ⟨{ wUp with regs := { written := [(⟨.laneGrpMode, 1, 0⟩, 0x0202)], pend := [{ key := ⟨.laneGrpMode, 1, 0⟩, points := [.cmt] }] } },
     ⟨.laneGrpMode, 1, 0⟩,
     ((({ wUp with regs := { written := [(⟨.laneGrpMode, 1, 0⟩, 0x0202)], pend := [{ key := ⟨.laneGrpMode, 1, 0⟩, points := [.cmt] }] } }
     : State).stored (⟨.laneGrpMode, 1, 0⟩ : RegKey) &&& ~~~ (⟨.laneGrpMode, 1, 0⟩ : RegKey).pointMask .cmt) |||
     (({ wUp with regs := { written := [(⟨.laneGrpMode, 1, 0⟩, 0x0202)], pend := [{ key := ⟨.laneGrpMode, 1, 0⟩, points := [.cmt] }] } }
     : State).written (⟨.laneGrpMode, 1, 0⟩ : RegKey) &&& (⟨.laneGrpMode, 1, 0⟩ : RegKey).pointMask .cmt)), 1, 1, rfl,
     by decide +kernel⟩,
   ⟨{ wUp with regs := { written := [(⟨.pllCfg, 1, 0⟩, 0x3)], pend := [{ key := ⟨.pllCfg, 1, 0⟩, points := [.cmt] }] } }, ⟨.pllCfg, 1,
     0⟩, ((({ wUp with regs := { written := [(⟨.pllCfg, 1, 0⟩, 0x3)], pend := [{ key := ⟨.pllCfg, 1, 0⟩, points := [.cmt] }] } } :
     State).stored (⟨.pllCfg, 1, 0⟩ : RegKey) &&& ~~~ (⟨.pllCfg, 1, 0⟩ : RegKey).pointMask .cmt) |||
     (({ wUp with regs := { written := [(⟨.pllCfg, 1, 0⟩, 0x3)], pend := [{ key := ⟨.pllCfg, 1, 0⟩, points := [.cmt] }] } } :
     State).written (⟨.pllCfg, 1, 0⟩ : RegKey) &&& (⟨.pllCfg, 1, 0⟩ : RegKey).pointMask .cmt)), 1, maskOf 0 2, rfl, by decide +kernel⟩,
   ⟨wUp, 96, rfl, by decide +kernel⟩,
   ⟨{ wUp with regs := { written := [(⟨.portExpress, 3, 0⟩, 1)], pend := [{ key := ⟨.portExpress, 3, 0⟩, points := [.frm] }] } }, 3,
     ⟨.portExpress, 3, 0⟩, rfl, by decide +kernel⟩⟩

/-- `ConfigParity`: the hypotheses of each clause hold together somewhere. -/
theorem witness_ConfigParity :
    (∃ (s : State) (a : Nat) (k : RegKey), s.Up ∧ regAt a = some k ∧ k.storedMask ≠ 0 ∧ s.regPresent k = true ∧ s.regs.cfgErr.contains
      a = false) ∧
    (∃ (s : State) (a : Nat) (k : RegKey), s.Up ∧ regAt a = some k ∧ k.storedMask ≠ 0 ∧ s.regPresent k = true ∧ k.name.acts = false ∧
      k.name.row.block ≠ .evt) ∧
    (∃ (s : State) (a n : Nat) (k : RegKey), s.Up ∧ regAt a = some k ∧ k.storedMask ≠ 0 ∧ s.regPresent k = true ∧ k.name.acts = false ∧
      k.unit = .lane n) :=
  ⟨⟨wUp, 0x103008, ⟨.lanePeak, 3, 0⟩, rfl, by decide +kernel⟩,
   ⟨{ wUp with regs := { written := [(⟨.laneAdptCfg, 3, 0⟩, 0x0164C020)] } }, 0x10300C, ⟨.laneAdptCfg, 3, 0⟩, rfl, by decide +kernel⟩,
   ⟨wUp, 0x103008, 3, ⟨.lanePeak, 3, 0⟩, rfl, by decide +kernel⟩⟩

/-- `RingControl`: the hypotheses of each clause hold together somewhere. -/
theorem witness_RingControl :
    (∃ (s : State) (n : Nat) (r : RingReg), s.Up ∧ s.Writable (r.key n) ∧ n < 64 ∧ r ≠ .ctrl ∧ (s.ring n).state = .disabled ∧
      s.pendOverflow (r.key n) (s.waitPoints (r.key n) allBits) = false) ∧
    (∃ (s : State) (n : Nat) (r : RingReg), s.Up ∧ s.Writable (r.key n) ∧ n < 64 ∧ r ≠ .ctrl ∧ (s.ring n).state ≠ .disabled) ∧
    (∃ (s : State) (n : Nat), s.Up ∧ s.Writable ⟨.hifRingCtrl, n, 0⟩ ∧ n < 64 ∧ (s.ring n).state = .disabled ∧ s.hif.busMaster = true ∧
      6 ≤ s.ap Fld.hifRingSize_LOG2 n ∧ s.ap Fld.hifRingSize_LOG2 n ≤ 15 ∧ (s.ring n).dbStored = none ∧ (cplRingNo n = true ∨ (s.ring
      (s.cplRing n)).state = .run)) ∧
    (∃ (s : State) (n c : Nat), s.Up ∧ s.Writable ⟨.hifRingCtrl, n, 0⟩ ∧ n < 64 ∧ (s.ring n).state = .disabled ∧ c = (if
      s.hif.busMaster = false then 6 else if s.ap Fld.hifRingSize_LOG2 n < 6 ∨ 15 < s.ap Fld.hifRingSize_LOG2 n then 4 else 5) ∧ (c = 5
      → cplRingNo n = false ∧ (s.ring (s.cplRing n)).state ≠ .run)) ∧
    (∃ (s : State) (n : Nat), s.Up ∧ s.Writable ⟨.hifRingCtrl, n, 0⟩ ∧ n < 64 ∧ (s.ring n).state = .run ∧ s.cplInUse n = false) ∧
    (∃ (s : State) (n : Nat), s.Up ∧ s.Writable ⟨.hifRingCtrl, n, 0⟩ ∧ n < 64 ∧ (s.ring n).state = .run ∧ s.cplInUse n = true ∧ s.ap
      Fld.hifRingCtrl_EN n = 1) ∧
    (∃ (s : State) (n : Nat), s.Up ∧ s.Writable ⟨.hifRingCtrl, n, 0⟩ ∧ n < 64 ∧ (s.ring n).state = .error ∧ s.cplInUse n = false) ∧
    (∃ (s : State) (n : Nat), s.Up ∧ s.Writable ⟨.hifRingCtrl, n, 0⟩ ∧ n < 64 ∧ (s.ring n).state = .disabled) ∧
    (∃ (s : State) (n : Nat), s.Up ∧ s.Writable ⟨.hifRingCtrl, n, 0⟩ ∧ n < 64 ∧ (s.ring n).state ≠ .disabled) ∧
    (∃ (s : State) (n : Nat), s.Up ∧ 24 ≤ n ∧ n < 48 ∧ (s.ring n).state = .draining) ∧
    (∃ (s : State) (n : Nat), s.Up ∧ 56 ≤ n ∧ n < 64 ∧ (s.ring n).state = .draining) ∧
    (∃ (s : State) (n : Nat), s.Up ∧ n < 24 ∧ (s.ring n).state = .draining ∧ (s.ring n).fetched.length ≤ 16) ∧
    (∃ (s : State) (n : Nat), s.Up ∧ n < 64 ∧ (s.ring n).state = .draining ∧ (s.ring n).fetched = []) :=
  ⟨⟨wUp, 0, .size, rfl, by unfold State.Writable; decide +kernel, by decide +kernel⟩,
   ⟨wRing wUp 3 { state := .run }, 3, .size, rfl, by unfold State.Writable; decide +kernel, by decide +kernel⟩,
   ⟨wReg { wUp with hif := { busMaster := true } } ⟨.hifRingSize, 48, 0⟩ 6, 48, rfl, by unfold State.Writable; decide +kernel,
     by decide +kernel⟩,
   ⟨wUp, 0, 6, rfl, by unfold State.Writable; decide +kernel, by decide +kernel⟩,
   ⟨wRing wUp 3 { state := .run }, 3, rfl, by unfold State.Writable; decide +kernel, by decide +kernel⟩,
   ⟨wReg (wRing (wRing wUp 48 { state := .run }) 3 { state := .run }) ⟨.hifRingCtrl, 48, 0⟩ 1, 48, rfl,
     by unfold State.Writable; decide +kernel, by decide +kernel⟩,
   ⟨wRing wUp 3 { state := .error }, 3, rfl, by unfold State.Writable; decide +kernel, by decide +kernel⟩,
   ⟨wUp, 3, rfl, by unfold State.Writable; decide +kernel, by decide +kernel⟩,
   ⟨wRing wUp 3 { state := .run }, 3, rfl, by unfold State.Writable; decide +kernel, by decide +kernel⟩,
   ⟨wRing wUp 24 { state := .draining, fetched := [{ raw := wDesc [], ext := [] }] }, 24, rfl, by decide +kernel⟩,
   ⟨wRing wUp 63 { state := .draining, aborting := 2, fetched := [{ raw := wDesc [], ext := [] }] }, 63, rfl, by decide +kernel⟩,
   ⟨wRing wUp 3 { state := .draining, aborting := 2, fetched := [{ raw := wDesc [], ext := [] }] }, 3, rfl, by decide +kernel⟩,
   ⟨wRing wUp 3 { state := .draining, aborting := 2 }, 3, rfl, by decide +kernel⟩⟩

/-- `RingTraffic`: the hypotheses of each clause hold together somewhere. -/
theorem witness_RingTraffic :
    (∃ (s : State) (n : Nat) (v : Word), s.Up ∧ n < 64 ∧ cplRingNo n = false ∧ ((s.ring n).state = .run ∨ (s.ring n).state = .draining)
      ∧ s.indexOk n (fieldOf v 0 16) = true) ∧
    (∃ (s : State) (n : Nat) (v : Word), s.Up ∧ n < 64 ∧ cplRingNo n = false ∧ ((s.ring n).state = .run ∨ (s.ring n).state = .draining)
      ∧ s.indexOk n (fieldOf v 0 16) = false) ∧
    (∃ (s : State) (n : Nat) (v : Word) (c : _), s.Up ∧ n < 64 ∧ (s.ring n).state = .disabled ∧ c = (if cplRingNo n then
      Instr.cplDoorbell n 0 0xF v else .doorbell n 0 0xF v)) ∧
    (∃ (s : State) (n off : Nat) (be : BitVec 4) (v : Word) (c : _), s.Up ∧ n < 64 ∧ (off ≠ 0 ∨ be ≠ 0xF ∨ (s.ring n).state = .error) ∧
      c = (if cplRingNo n then Instr.cplDoorbell n off be v else .doorbell n off be v)) ∧
    (∃ (s : State) (n : Nat) (v : Word), s.Up ∧ 48 ≤ n ∧ n < 56 ∧ ((s.ring n).state = .run ∨ (s.ring n).state = .draining) ∧ s.indexOk
      n (fieldOf v 0 16) = true) ∧
    (∃ (s : State) (n : Nat) (raw : List Byte), s.Up ∧ 56 ≤ n ∧ n < 64 ∧ raw.length = 32 ∧ (s.ring n).state = .run ∧ (s.ring
      n).fetched.length < (s.ring n).count ∧ (s.ring n).fetched.length < 16 ∧ (s.ring (s.cplRing n)).state = .run ∧ 0 < s.freeSlots
      (s.cplRing n) ∧ (s.ring n).fetched.all (fun x => opcodes.contains x.opcode) = true ∧ opcodes.contains (leAt raw 0 2) = true) ∧
    (∃ (s : State) (n : Nat) (raw : List Byte), s.Up ∧ 56 ≤ n ∧ n < 64 ∧ raw.length = 32 ∧ (s.ring n).state = .run ∧ (s.ring
      n).fetched.length < (s.ring n).count ∧ (s.ring n).fetched.length < 16 ∧ (s.ring (s.cplRing n)).state = .run ∧ 0 < s.freeSlots
      (s.cplRing n) ∧ (s.ring n).fetched.all (fun x => opcodes.contains x.opcode) = true ∧ opcodes.contains (leAt raw 0 2) = false ∧
      (s.ring n).fetched = []) ∧
    (∃ (s : State) (n : Nat) (raw : List Byte), s.Up ∧ 24 ≤ n ∧ n < 48 ∧ raw.length = 32 ∧ (s.ring n).state = .run ∧ (s.ring
      n).fetched.length < (s.ring n).count ∧ (s.ring n).fetched.length < 16 ∧ (s.ring (s.cplRing n)).state = .run ∧ 0 < s.freeSlots
      (s.cplRing n) ∧ rxBad raw = false) ∧
    (∃ (s : State) (n : Nat) (raw : List Byte), s.Up ∧ n < 24 ∧ raw.length = 32 ∧ (s.ring n).state = .run ∧ (s.ring n).fetched = [] ∧ 0
      < (s.ring n).count ∧ (s.ring (s.cplRing n)).state = .run ∧ 2 ≤ s.freeSlots (s.cplRing n) ∧ s.txStopped = false ∧ s.hif.txTurn = n
      ∧ min 10240 (leAt raw 8 2) ≤ (s.ring n).deficit) ∧
    (∃ (s : State) (n : Nat) (g : List Fetched) (st : Status), s.Up ∧ n < 24 ∧ txGroup (s.ring n).fetched = some g ∧ s.txResult g =
      some st) ∧
    (∃ (s : State) (f c n : Nat) (fr : Frame) (x : Copy), s.Up ∧ n = s.rxRing x.reason (min 7 (if x.q = 8 then fr.tc else x.q))
      (Config.rxHash fr.h.hashed).toNat ∧ s.frame? f = some fr ∧ s.hostCopy f = some c ∧ s.copy? c = some x ∧ s.hif.linkUp = true ∧
      (s.ring n).state = .run ∧ x.len ≤ ((rxFill (s.ring n).fetched x.len).map (fun e => e.2)).sum) ∧
    (∃ (s : State) (f c n : Nat) (fr : Frame) (x : Copy), s.Up ∧ n = s.rxRing x.reason (min 7 (if x.q = 8 then fr.tc else x.q))
      (Config.rxHash fr.h.hashed).toNat ∧ s.frame? f = some fr ∧ s.hostCopy f = some c ∧ s.copy? c = some x ∧ s.hif.linkUp = true ∧
      (s.ring n).state ≠ .run ∧ s.apB Fld.hifGlbCtrl_RX_FB_EN = false) ∧
    (∃ (s : State) (n : Nat), s.Up ∧ 48 ≤ n ∧ n < 56 ∧ (s.ring n).armed = true ∧ (s.ring n).timer = true) ∧
    (∃ (s : State) (v : Nat), s.Up ∧ v < 64) :=
  ⟨⟨wReg (wRing wUp 3 { state := .run }) ⟨.hifRingSize, 3, 0⟩ 6, 3, 5, rfl, by decide +kernel⟩,
   ⟨wReg (wRing wUp 3 { state := .run }) ⟨.hifRingSize, 3, 0⟩ 6, 3, 65, rfl, by decide +kernel⟩,
   ⟨wUp, 48, 5, .cplDoorbell (48 : Nat) 0 0xF (5 : Word), rfl, by decide +kernel⟩,
   ⟨wUp, 3, 4, 15, 5, .doorbell (3 : Nat) (4 : Nat) (15 : BitVec 4) (5 : Word), rfl, by decide +kernel⟩,
   ⟨wReg (wRing wUp 48 { state := .run, pidx := 3 }) ⟨.hifRingSize, 48, 0⟩ 6, 48, 1, rfl, by decide +kernel⟩,
   ⟨wReg (wReg (wRing (wRing wUp 48 { state := .run }) 56 { state := .run, pidx := 1 }) ⟨.hifRingSize, 48, 0⟩ 6) ⟨.hifRingSize, 56, 0⟩
     6, 56, wDesc [3, 1], rfl, by decide +kernel⟩,
   ⟨wReg (wReg (wRing (wRing wUp 48 { state := .run }) 56 { state := .run, pidx := 1 }) ⟨.hifRingSize, 48, 0⟩ 6) ⟨.hifRingSize, 56, 0⟩
     6, 56, wDesc [0xFF, 0xEE], rfl, by decide +kernel⟩,
   ⟨wReg (wReg (wRing (wRing wUp 48 { state := .run }) 24 { state := .run, pidx := 1 }) ⟨.hifRingSize, 48, 0⟩ 6) ⟨.hifRingSize, 24, 0⟩
     6, 24, wDesc [0, 0, 0, 0, 0, 0, 0, 0, 0, 8], rfl, by decide +kernel⟩,
   ⟨wReg (wReg (wRing (wRing { wUp with hif := { txTurn := 3 } } 48 { state := .run }) 3 { state := .run, pidx := 1, deficit := 4096 })
     ⟨.hifRingSize, 48, 0⟩ 6) ⟨.hifRingSize, 3, 0⟩ 6, 3, wDesc [0, 0, 0, 0, 0, 0, 0, 0, 100, 0, 3], rfl, by decide +kernel⟩,
   ⟨wRing wUp 3
     { state := .run, fetched := [{ raw := (List.replicate 10 0 ++ [2] ++ List.replicate 21 0), ext := [], frame := some 0 }] }, 3,
     [{ raw := (List.replicate 10 0 ++ [2] ++ List.replicate 21 0), ext := [], frame := some 0 }], .ok, rfl, by decide +kernel⟩,
   ⟨{ (wRing wUp 24 { state := .run, fetched := [{ raw := wDesc [0, 0, 0, 0, 0, 0, 0, 0, 0, 8], ext := [] }] }) with hif := { (wRing wUp 24 { state := .run, fetched := [{ raw := wDesc [0, 0, 0, 0, 0, 0, 0, 0, 0, 8], ext := [] }] }).hif with linkUp := true }, fab := { frames := [(0, wFrame)], copies := [(0, { frame := 0, port := 96, q := 0, st := .host, len := 100 })] } },
     0, 0, 24, wFrame, { frame := 0, port := 96, q := 0, st := .host, len := 100 }, rfl,
     by rw [rxRing_noSpread _ _ _ _ rfl]; decide +kernel, by decide +kernel⟩,
   ⟨{ wUp with hif := { linkUp := true }, fab := { frames := [(0, wFrame)], copies := [(0, { frame := 0, port := 96, q := 0, st := .host, len := 100 })] } },
     0, 0, 24, wFrame, { frame := 0, port := 96, q := 0, st := .host, len := 100 }, rfl,
     by rw [rxRing_noSpread _ _ _ _ rfl]; decide +kernel, by decide +kernel⟩,
   ⟨wRing wUp 48 { armed := true, timer := true }, 48, rfl, by decide +kernel⟩,
   ⟨{ wUp with hif := { pba := [3] } }, 3, rfl, by decide +kernel⟩⟩

/-- `HostFunction`: the hypotheses of each clause hold together somewhere. -/
theorem witness_HostFunction :
    (∃ (s : State) (gen width mps : Nat) (h : PcieHost), s.Up ∧ Instr.wf (.pcieLinkUp gen width mps h) = true ∧ s.domOn 18 = true) ∧
    (∃ (s : State) (n : Nat), s.Up ∧ n < 64 ∧ ((s.ring n).state = .run ∨ (s.ring n).state = .draining)) ∧
    (∃ (s : State) (c : Instr), s.Up ∧ (c = .functionLevelReset ∨ c = .d3hotEntry)) :=
  ⟨⟨wUp, 4, 8, 256, { mrrs := 512, tag10 := false, bme := true }, rfl, by decide +kernel⟩,
   ⟨{ wUp with hif := { rings := [(3, { state := .run })] } }, 3, rfl, by decide +kernel⟩,
   ⟨wUp, .functionLevelReset, rfl, by decide +kernel⟩⟩

/-- `ObjectQueryAndList`: the hypotheses of each clause hold together somewhere. -/
theorem witness_ObjectQueryAndList :
    (∃ (s : State) (y : ObjType) (d : CmdDesc), s.Up ∧ s.Accepts d (y.op 3) (s.targetChecks y d false false false ((decide (y = .flow)
      && d.hasExt && decide (d.extLen < 36)) || (!d.hasExt && !(d.zero 12 32))) false) ∧ d.wf = true) ∧
    (∃ (s : State) (y : ObjType) (d : CmdDesc), s.Up ∧ s.Accepts d (y.op 5)
      { absent := decide (y = .search) && !s.variant.gnss, badForm := d.badForm true || decide (d.handle ≠ 0), ready := y.ready } ∧
      d.wf = true) :=
  ⟨⟨wUp.setObj .cal 0 {}, .cal, { wCmd [] with handle := 0x60000000 }, rfl, by unfold State.Accepts; decide +kernel, by decide +kernel⟩,
   ⟨wUp, .cal, { wCmd ([0, 0, 0, 0, 0, 0, 0, 0, 32] : List Byte) with flags := 2, ext := List.replicate 32 0 }, rfl,
     by unfold State.Accepts; decide +kernel, by decide +kernel⟩⟩

/-- `ObjectDrainAndEnable`: the hypotheses of each clause hold together somewhere. -/
theorem witness_ObjectDrainAndEnable :
    (∃ (s : State) (y : ObjType) (d : CmdDesc) (i n : Nat), s.Up ∧ s.Accepts d (y.op 4) (s.targetChecks y d true false false
      (drainReserved d) false) ∧ d.wf = true ∧ y ≠ .flow ∧ i = hIndex d.handle ∧ n = s.objFlight y i ∧ s.objVerBusy y i = false ∧
      (s.obj y i).waiting = [] ∧ (y = .cal → s.calHolds (s.calTarget i) (s.calInst i) = true) ∧ ((s.obj y i).phase = .suspended ∨
      ((s.obj y i).phase = .active ∧ n = 0))) ∧
    (∃ (s : State) (y : ObjType) (d : CmdDesc) (i n : Nat), s.Up ∧ s.Accepts d (y.op 4) (s.targetChecks y d true false false
      (drainReserved d) false) ∧ d.wf = true ∧ y ≠ .flow ∧ i = hIndex d.handle ∧ n = s.objFlight y i ∧ s.objVerBusy y i = false ∧
      (s.obj y i).waiting = [] ∧ (y = .cal → s.calHolds (s.calTarget i) (s.calInst i) = true) ∧ (s.obj y i).phase = .active ∧ n ≠ 0 ∧
      (d.drainNow = true ∨ s.objBusy y i = false)) ∧
    (∃ (s : State) (y : ObjType) (d : CmdDesc) (i n : Nat), s.Up ∧ s.Accepts d (y.op 4) (s.targetChecks y d true false false
      (drainReserved d) false) ∧ d.wf = true ∧ y ≠ .flow ∧ i = hIndex d.handle ∧ n = s.objFlight y i ∧ s.objVerBusy y i = false ∧
      (s.obj y i).waiting = [] ∧ (y = .cal → s.calHolds (s.calTarget i) (s.calInst i) = true) ∧ (s.obj y i).phase = .active ∧ n ≠ 0 ∧
      d.drainNow = false ∧ s.objBusy y i = true) ∧
    (∃ (s : State) (y : ObjType) (d : CmdDesc) (i n : Nat), s.Up ∧ s.Accepts d (y.op 6) (s.targetChecks y d true false false
      (drainReserved d) false) ∧ d.wf = true ∧ y ≠ .flow ∧ i = hIndex d.handle ∧ n = s.objFlight y i ∧ s.objVerBusy y i = false ∧
      (s.obj y i).phase = .active ∧ (s.obj y i).waiting = [] ∧ (y = .cal → s.calHolds (s.calTarget i) (s.calInst i) = true) ∧ (n = 0 ∨
      d.drainNow = true ∨ s.objBusy y i = false)) ∧
    (∃ (s : State) (y : ObjType) (d : CmdDesc) (i n : Nat), s.Up ∧ s.Accepts d (y.op 6) (s.targetChecks y d true false false
      (drainReserved d) false) ∧ d.wf = true ∧ y ≠ .flow ∧ i = hIndex d.handle ∧ n = s.objFlight y i ∧ s.objVerBusy y i = false ∧
      (s.obj y i).phase = .active ∧ (s.obj y i).waiting = [] ∧ (y = .cal → s.calHolds (s.calTarget i) (s.calInst i) = true) ∧ n ≠ 0 ∧
      d.drainNow = false ∧ s.objBusy y i = true) ∧
    (∃ (s : State) (y : ObjType) (d : CmdDesc), s.Up ∧ s.Accepts d (y.op 7) (s.targetChecks y d true false false (!(d.zero 12 32))
      false) ∧ d.wf = true ∧ y ≠ .flow ∧ (s.obj y (hIndex d.handle)).phase = .suspended ∧ s.objVerBusy y (hIndex d.handle) = false) ∧
    (∃ (s : State) (h : Word) (y : ObjType) (x : Drain) (i n : Nat), s.Up ∧ Instr.wf (.objDrainEnd h) = true ∧ y ≠ .flow ∧ hObjType h =
      some y ∧ i = hIndex h ∧ n = s.objFlight y i ∧ s.stale y h = false ∧ (s.obj y i).drain = some x ∧ s.objBusy y i = false ∧ (s.obj y
      i).waiting = []) ∧
    (∃ (s : State) (h : Word) (y : ObjType) (x : Drain) (i n : Nat), s.Up ∧ Instr.wf (.objDrainLimit h) = true ∧ y ≠ .flow ∧ hObjType h
      = some y ∧ i = hIndex h ∧ n = s.objFlight y i ∧ s.stale y h = false ∧ (s.obj y i).drain = some x ∧ (s.obj y i).waiting = []) :=
  ⟨⟨wUp.setObj .mirror 7 { phase := .suspended }, .mirror, { wCmd [] with handle := 0x40000007 }, 7, 0, rfl,
     by unfold State.Accepts; decide +kernel, by decide +kernel⟩,
   ⟨({ wUp with tic := { chans := [(3, { armed := true, args := { start := 0, stop := 1, base := 0, n := 4 } })] } } : State).setObj
     .mchan 3 {}, .mchan, { wCmd [0, 0, 0, 0, 1] with handle := 0x30000003 }, 3,
     (({ wUp with tic := { chans := [(3, { armed := true, args := { start := 0, stop := 1, base := 0, n := 4 } })] } } : State).setObj
     .mchan 3 {} : State).objFlight (.mchan : ObjType) (3 : Nat), rfl, by unfold State.Accepts; decide +kernel, by decide +kernel⟩,
   ⟨({ wUp with tic := { chans := [(3, { armed := true, args := { start := 0, stop := 1, base := 0, n := 4 } })] } } : State).setObj
     .mchan 3 {}, .mchan, { wCmd [0] with handle := 0x30000003 }, 3,
     (({ wUp with tic := { chans := [(3, { armed := true, args := { start := 0, stop := 1, base := 0, n := 4 } })] } } : State).setObj
     .mchan 3 {} : State).objFlight (.mchan : ObjType) (3 : Nat), rfl, by unfold State.Accepts; decide +kernel, by decide +kernel⟩,
   ⟨({ wUp with tic := { chans := [(3, { armed := true, args := { start := 0, stop := 1, base := 0, n := 4 } })] } } : State).setObj
     .mchan 3 {}, .mchan, { wCmd [0, 0, 0, 0, 1] with handle := 0x30000003 }, 3,
     (({ wUp with tic := { chans := [(3, { armed := true, args := { start := 0, stop := 1, base := 0, n := 4 } })] } } : State).setObj
     .mchan 3 {} : State).objFlight (.mchan : ObjType) (3 : Nat), rfl, by unfold State.Accepts; decide +kernel, by decide +kernel⟩,
   ⟨({ wUp with tic := { chans := [(3, { armed := true, args := { start := 0, stop := 1, base := 0, n := 4 } })] } } : State).setObj
     .mchan 3 {}, .mchan, { wCmd [0] with handle := 0x30000003 }, 3,
     (({ wUp with tic := { chans := [(3, { armed := true, args := { start := 0, stop := 1, base := 0, n := 4 } })] } } : State).setObj
     .mchan 3 {} : State).objFlight (.mchan : ObjType) (3 : Nat), rfl, by unfold State.Accepts; decide +kernel, by decide +kernel⟩,
   ⟨wUp.setObj .mirror 7 { phase := .suspended }, .mirror, { wCmd [] with handle := 0x40000007 }, rfl,
     by unfold State.Accepts; decide +kernel, by decide +kernel⟩,
   ⟨wUp.setObj .mchan 3
     { phase := .draining, drain := some ({ desc := wCmd [], destroy := false, start := 0, limitUs := 5, items := 0, timedOut := false } : Drain) },
     0x30000003, .mchan, { desc := wCmd [], destroy := false, start := 0, limitUs := 5, items := 0, timedOut := false }, 3, (wUp.setObj
     .mchan 3
     { phase := .draining, drain := some ({ desc := wCmd [], destroy := false, start := 0, limitUs := 5, items := 0, timedOut := false } : Drain) }
     : State).objFlight (.mchan : ObjType) (3 : Nat), rfl, by decide +kernel⟩,
   ⟨({ wUp with tic := { chans := [(3, { armed := true, args := { start := 0, stop := 1, base := 0, n := 4 } })] } } : State).setObj
     .mchan 3
     { phase := .draining, drain := some ({ desc := wCmd [], destroy := false, start := 0, limitUs := 5, items := 1, timedOut := false } : Drain) },
     0x30000003, .mchan, { desc := wCmd [], destroy := false, start := 0, limitUs := 5, items := 1, timedOut := false }, 3,
     (({ wUp with tic := { chans := [(3, { armed := true, args := { start := 0, stop := 1, base := 0, n := 4 } })] } } : State).setObj
     .mchan 3
     { phase := .draining, drain := some ({ desc := wCmd [], destroy := false, start := 0, limitUs := 5, items := 1, timedOut := false } : Drain) }
     : State).objFlight (.mchan : ObjType) (3 : Nat), rfl, by decide +kernel⟩⟩

/-- `ObjectCreate`: the hypotheses of each clause hold together somewhere. -/
theorem witness_ObjectCreate :
    (∃ (s : State) (d : CmdDesc), s.Up ∧ s.Accepts d 0x0301 (createChecks .mchan d false (s.mchanAbsent d) (mchanReserved d) (mchanBad
      d)) ∧ d.wf = true ∧ s.obj? .mchan (d.arg 12 1) = none ∧ s.mchanNotReady d = false) ∧
    (∃ (s : State) (d : CmdDesc), s.Up ∧ s.Accepts d 0x0401
      { createChecks .mirror d false (s.mirAbsent d) (mirReserved d) (s.mirBad d) with stale := s.mirStale d } ∧ d.wf = true ∧ s.obj?
      .mirror (d.arg 13 1) = none ∧ s.verBusy [.mir (d.arg 13 1)] = false) ∧
    (∃ (s : State) (d : CmdDesc) (j : Nat), s.Up ∧ s.Accepts d 0x0501 (createChecks .search d false (!s.variant.gnss) (searchReserved
      d) (searchArgsOf d.objArgs).bad) ∧ d.wf = true ∧ s.nextIndex .search = some j) ∧
    (∃ (s : State) (d : CmdDesc) (i e role : Nat), s.Up ∧ s.Accepts d 0x0201 (createChecks .tchan d (tchanExt d) (s.tchanAbsent d)
      (tchanReserved d) (s.tchanBad d)) ∧ d.wf = true ∧ s.tchanTwin d.asObj = false ∧ role = (if s.taskHeld 4 then s.forcedRole
      d.asObj.chanPort d.asObj.chanRole else d.asObj.chanRole) ∧ s.nextIndex .tchan = some i ∧ s.portLoad d.asObj.chanPort none +
      d.asObj.chanLoad role ≤ 131072 ∧ s.placeFor i (d.asObj.chanLoad role) = some e) ∧
    (∃ (s : State) (d : CmdDesc) (j : Nat), s.Up ∧ s.Accepts d 0x0601 (createChecks .cal d false (s.calAbsent d) (calReserved d)
      (s.calBad d)) ∧ d.wf = true ∧ s.taskMoving 9 = false ∧ s.nextIndex .cal = some j ∧ s.calJobOn (d.arg 12 1) (d.arg 14 2) = false ∧
      s.taskHeld 9 = true ∧ s.calPre (d.arg 12 1) (d.arg 14 2) = true) :=
  ⟨⟨wUp, wCmd [3, 0, 1, 0, 16], rfl, by unfold State.Accepts; decide +kernel, by decide +kernel⟩,
   ⟨wUp, wCmd [0, 7, 3, 0, 0, 0, 0, 0, 5, 0], rfl, by unfold State.Accepts; decide +kernel, by decide +kernel⟩,
   ⟨wUp, wCmd [0, 0, 1, 0, 0, 0, 0, 0, 10, 0, 20, 0], 0, rfl, by unfold State.Accepts; decide +kernel, by decide +kernel⟩,
   ⟨wEng0 wLanes, wCmd [3, 0, 24, 1, 1, 0, 0xFC, 0xFC], 0, 0, (if (wEng0 wLanes : State).taskHeld 4 then (wEng0 wLanes :
     State).forcedRole (wCmd [3, 0, 24, 1, 1, 0, 0xFC, 0xFC] : CmdDesc).asObj.chanPort (wCmd [3, 0, 24, 1, 1, 0, 0xFC, 0xFC] :
     CmdDesc).asObj.chanRole else (wCmd [3, 0, 24, 1, 1, 0, 0xFC, 0xFC] : CmdDesc).asObj.chanRole), rfl,
     by unfold State.Accepts; decide +kernel, by decide +kernel⟩,
   ⟨wTasks wUp, wCmd [2, 0, 3, 0], 0, rfl, by unfold State.Accepts; decide +kernel, by decide +kernel⟩⟩

/-- `ObjectModify`: the hypotheses of each clause hold together somewhere. -/
theorem witness_ObjectModify :
    (∃ (s : State) (d : CmdDesc), s.Up ∧ s.Accepts d 0x0302 (s.modifyChecks .mchan d) ∧ d.wf = true ∧ (s.obj .mchan (hIndex
      d.handle)).phase ≠ .draining ∧ s.mchanNotReady d = false) ∧
    (∃ (s : State) (d : CmdDesc), s.Up ∧ s.Accepts d 0x0402 (s.modifyChecks .mirror d) ∧ d.wf = true ∧ (s.obj .mirror (hIndex
      d.handle)).phase ≠ .draining ∧ s.verBusy [.mir (hIndex d.handle)] = false) ∧
    (∃ (s : State) (d : CmdDesc), s.Up ∧ s.Accepts d 0x0502 (s.modifyChecks .search d) ∧ d.wf = true ∧ (s.obj .search (hIndex
      d.handle)).phase ≠ .draining) ∧
    (∃ (s : State) (d : CmdDesc) (role : Nat), s.Up ∧ s.Accepts d 0x0202 (s.modifyChecks .tchan d) ∧ d.wf = true ∧ (s.obj .tchan
      (hIndex d.handle)).phase ≠ .draining ∧ role = (if s.taskHeld 4 then s.forcedRole d.asObj.chanPort d.asObj.chanRole else
      d.asObj.chanRole) ∧ s.portLoad (s.obj .tchan (hIndex d.handle)).chanPort (some (hIndex d.handle)) + d.asObj.chanLoad role ≤
      131072) ∧
    (∃ (s : State) (d : CmdDesc), s.Up ∧ s.Accepts d 0x0602 (s.modifyChecks .cal d) ∧ d.wf = true ∧ (s.obj .cal (hIndex
      d.handle)).phase ≠ .draining) :=
  ⟨⟨wUp.setObj .mchan 3 { args := [3, 0, 1, 0, 16, 0, 0, 0] }, { wCmd [3, 0, 1, 0, 32] with handle := 0x30000003 }, rfl,
     by unfold State.Accepts; decide +kernel, by decide +kernel⟩,
   ⟨wUp.setObj .mirror 7 { args := [0, 7, 3, 0, 0, 0, 0, 0, 5, 0] }, { wCmd [0, 7, 3, 0, 0, 0, 0, 0, 6, 0] with handle := 0x40000007 },
     rfl, by unfold State.Accepts; decide +kernel, by decide +kernel⟩,
   ⟨wUp.setObj .search 0 { args := [0, 0, 1, 0, 0, 0, 0, 0, 10, 0, 20, 0] },
     { wCmd [0, 0, 2, 0, 0, 0, 0, 0, 10, 0, 20, 0] with handle := 0x50000000 }, rfl, by unfold State.Accepts; decide +kernel,
     by decide +kernel⟩,
   ⟨(wEng0 wLanes).setObj .tchan 0 { args := [3, 0, 24, 1, 1, 0, 0xFC, 0xFC] ++ List.replicate 12 0 },
     { wCmd [3, 0, 24, 1, 1, 0, 0xFC, 0xFC] with handle := 0x20000000 }, (if ((wEng0 wLanes).setObj .tchan 0
     { args := [3, 0, 24, 1, 1, 0, 0xFC, 0xFC] ++ List.replicate 12 0 } : State).taskHeld 4 then ((wEng0 wLanes).setObj .tchan 0
     { args := [3, 0, 24, 1, 1, 0, 0xFC, 0xFC] ++ List.replicate 12 0 } : State).forcedRole
     ({ wCmd [3, 0, 24, 1, 1, 0, 0xFC, 0xFC] with handle := 0x20000000 } : CmdDesc).asObj.chanPort
     ({ wCmd [3, 0, 24, 1, 1, 0, 0xFC, 0xFC] with handle := 0x20000000 } : CmdDesc).asObj.chanRole else
     ({ wCmd [3, 0, 24, 1, 1, 0, 0xFC, 0xFC] with handle := 0x20000000 } : CmdDesc).asObj.chanRole), rfl,
     by unfold State.Accepts; decide +kernel, by decide +kernel⟩,
   ⟨wUp.setObj .cal 0 { args := [2, 0, 3, 0] }, { wCmd [2, 1, 3, 0] with handle := 0x60000000 }, rfl,
     by unfold State.Accepts; decide +kernel, by decide +kernel⟩⟩

/-- `GuaranteedFlows`: the hypotheses of each clause hold together somewhere. -/
theorem witness_GuaranteedFlows :
    (∃ (s : State) (d : CmdDesc) (i b : Nat), s.Up ∧ s.AdmFree d 0x0101 ∧ s.Accepts d 0x0101 (createChecks .flow d false (s.flowAbsent
      d) (flowReserved d) (s.flowBad d none)) ∧ d.wf = true ∧ s.nextIndex .flow = some i ∧ s.flowNotReady d = false ∧ s.classRefuses
      (flowArgsOf d.objArgs) none = false ∧ (s.admission (flowArgsOf d.objArgs) none).fault = 0 ∧ (s.admission (flowArgsOf d.objArgs)
      none).b = some b ∧ b ≤ s.resMaxMs * 1000000 ∧ (s.admission (flowArgsOf d.objArgs) none).f ≤ s.fAdm ∧ s.syncedPrimary = false) ∧
    (∃ (s : State) (d : CmdDesc) (b : Nat), s.Up ∧ s.AdmFree d 0x0102 ∧ s.Accepts d 0x0102 (s.targetChecks .flow d true false
      (s.flowAbsent d) (flowReserved d) (s.flowBad d (some (hIndex d.handle)) || decide ((flowArgsOf d.objArgs).inp ≠ (s.flowArgs
      (hIndex d.handle)).inp) || decide ((flowArgsOf d.objArgs).out ≠ (s.flowArgs (hIndex d.handle)).out) || decide ((flowArgsOf
      d.objArgs).entry ≠ (s.flowArgs (hIndex d.handle)).entry))) ∧ d.wf = true ∧ (s.obj .flow (hIndex d.handle)).phase ≠ .draining ∧
      s.flowNotReady d = false ∧ s.classRefuses (flowArgsOf d.objArgs) (some (hIndex d.handle)) = false ∧ (s.admission (flowArgsOf
      d.objArgs) (some (hIndex d.handle))).fault = 0 ∧ (s.admission (flowArgsOf d.objArgs) (some (hIndex d.handle))).b = some b ∧ b ≤
      s.resMaxMs * 1000000 ∧ (s.admission (flowArgsOf d.objArgs) (some (hIndex d.handle))).f ≤ s.fAdm (some (hIndex d.handle)) ∧
      s.syncedPrimary = false) ∧
    (∃ (s : State) (d : CmdDesc) (i n : Nat), s.Up ∧ s.Accepts d 0x0104 (s.targetChecks .flow d true false false (drainReserved d)
      false) ∧ d.wf = true ∧ s.sw.wait = none ∧ s.sw.admQ = [] ∧ i = hIndex d.handle ∧ n = (s.flowCopies i).length ∧ s.standbyHost d =
      false ∧ (s.obj .flow i).phase = .active ∧ (s.obj .flow i).waiting = [] ∧ n = 0) ∧
    (∃ (s : State) (d : CmdDesc) (i n : Nat), s.Up ∧ s.Accepts d 0x0104 (s.targetChecks .flow d true false false (drainReserved d)
      false) ∧ d.wf = true ∧ s.sw.wait = none ∧ s.sw.admQ = [] ∧ i = hIndex d.handle ∧ n = (s.flowCopies i).length ∧ s.standbyHost d =
      false ∧ (s.obj .flow i).phase = .active ∧ (s.obj .flow i).waiting = [] ∧ n ≠ 0 ∧ d.drainNow = false) ∧
    (∃ (s : State) (d : CmdDesc) (i n : Nat), s.Up ∧ s.Accepts d 0x0106 (s.targetChecks .flow d true false false (drainReserved d)
      false) ∧ d.wf = true ∧ s.sw.wait = none ∧ s.sw.admQ = [] ∧ i = hIndex d.handle ∧ n = (s.flowCopies i).length ∧ s.standbyHost d =
      false ∧ (s.obj .flow i).phase = .active ∧ (s.obj .flow i).waiting = [] ∧ n = 0) ∧
    (∃ (s : State) (d : CmdDesc) (i n : Nat), s.Up ∧ s.Accepts d 0x0106 (s.targetChecks .flow d true false false (drainReserved d)
      false) ∧ d.wf = true ∧ s.sw.wait = none ∧ s.sw.admQ = [] ∧ i = hIndex d.handle ∧ n = (s.flowCopies i).length ∧ s.standbyHost d =
      false ∧ (s.obj .flow i).phase = .active ∧ (s.obj .flow i).waiting = [] ∧ n ≠ 0 ∧ d.drainNow = true) ∧
    (∃ (s : State) (d : CmdDesc), s.Up ∧ s.Accepts d 0x0107 (s.targetChecks .flow d true false false (!(d.zero 12 32)) false) ∧ d.wf =
      true ∧ s.sw.wait = none ∧ s.sw.admQ = [] ∧ s.standbyHost d = false ∧ (s.obj .flow (hIndex d.handle)).phase = .suspended) ∧
    (∃ (s : State) (i : Nat) (w : FlowWait), s.Up ∧ i < 16384 ∧ s.sw.wait = some w ∧ w.index = i ∧ w.stage = 0 ∧ w.mirror = false ∧
      w.modify = false ∧ s.sw.admQ = [] ∧ s.waitMet w = true ∧ s.syncedPrimary = false) ∧
    (∃ (s : State) (i : Nat) (w : FlowWait), s.Up ∧ i < 16384 ∧ s.sw.wait = some w ∧ w.index = i ∧ w.stage = 0 ∧ w.mirror = false ∧
      w.modify = false ∧ s.sw.admQ = [] ∧ s.waitMet w = false ∧ s.sw.vset = 880 ∧ s.vddSettled = true) :=
  ⟨⟨wAdmit.setFlow 1 { rate := 5715 }, wCmd wFlowArgs, 0, (((wAdmit.setFlow 1 { rate := 5715 }).admission (flowArgsOf wFlowArgs)
     none).b).getD 0, rfl, by unfold State.AdmFree; decide +kernel, by unfold State.Accepts; decide +kernel, by decide +kernel⟩,
   ⟨wFlow.setFlow 1 { rate := 5715 }, { wCmd wFlowArgs with handle := 0x10000000 }, (((wFlow.setFlow 1 { rate := 5715 }).admission
     (flowArgsOf wFlowArgs) (some 0)).b).getD 0, rfl, by unfold State.AdmFree; decide +kernel, by unfold State.Accepts; decide +kernel,
     by decide +kernel⟩,
   ⟨wFlow, { wCmd [] with handle := 0x10000000 }, 0, 0, rfl, by unfold State.Accepts; decide +kernel, by decide +kernel⟩,
   ⟨wFlowCopy, { wCmd [] with handle := 0x10000000 }, 0, 1, rfl, by unfold State.Accepts; decide +kernel, by decide +kernel⟩,
   ⟨wFlow, { wCmd [] with handle := 0x10000000 }, 0, 0, rfl, by unfold State.Accepts; decide +kernel, by decide +kernel⟩,
   ⟨wFlowCopy, { wCmd [0, 0, 0, 0, 1] with handle := 0x10000000 }, 0, 1, rfl, by unfold State.Accepts; decide +kernel,
     by decide +kernel⟩,
   ⟨wFlow.setObj .flow 0 { args := wFlowArgs, phase := .suspended }, { wCmd [] with handle := 0x10000000 }, rfl,
     by unfold State.Accepts; decide +kernel, by decide +kernel⟩,
   ⟨{ wAdmit with sw := { wAdmit.sw with wait := some ({ desc := wCmd wFlowArgs, modify := false, stage := 0, mirror := false, index := 0, f := 0, bound := 5, nf := 2, pool := 0 } : FlowWait), assured := 6000 } },
     0, { desc := wCmd wFlowArgs, modify := false, stage := 0, mirror := false, index := 0, f := 0, bound := 5, nf := 2, pool := 0 },
     rfl, by decide +kernel⟩,
   ⟨{ wAdmit with sw := { wAdmit.sw with wait := some ({ desc := wCmd wFlowArgs, modify := false, stage := 0, mirror := false, index := 0, f := 9000, bound := 5, nf := 2, pool := 0 } : FlowWait), assured := 6000 } },
     0,
     { desc := wCmd wFlowArgs, modify := false, stage := 0, mirror := false, index := 0, f := 9000, bound := 5, nf := 2, pool := 0 },
     rfl, by decide +kernel⟩⟩

/-- `LaneLock`: the hypotheses of each clause hold together somewhere. -/
theorem witness_LaneLock :
    (∃ (s : State) (n : Nat), s.Up ∧ n < 96 ∧ s.laneOn n = true ∧ (s.lane n).sig = true ∧ (s.lane n).lock = false ∧ (s.lane n).train ≠
      .down) ∧
    (∃ (s : State) (n : Nat), s.Up ∧ n < 96 ∧ (s.lane n).lock = true) ∧
    (∃ (s : State) (n : Nat), s.Up ∧ n < 96 ∧ (s.lane n).lock = true) ∧
    (∃ (s : State) (p : Nat), s.Up ∧ p < 96 ∧ s.portInactive p = false ∧ (s.portLanes p).all (fun n => s.laneOn n) = true ∧
      s.portLocked p = true ∧ (s.portLanes p).any (fun n => (s.lane n).txSq) = false ∧ (s.grp (p / 8)).st ≠ .draining) :=
  ⟨⟨wLane95 { sig := true, train := .full }, 95, rfl, by decide +kernel⟩,
   ⟨wLane95 { sig := true, train := .running, lock := true, phase := true, offered := true }, 95, rfl, by decide +kernel⟩,
   ⟨wLane95 { sig := true, train := .running, lock := true }, 95, rfl, by decide +kernel⟩,
   ⟨wLane95 { sig := true, train := .running, lock := true }, 95, rfl, by decide +kernel⟩⟩

/-- `LaneIdle`: the hypotheses of each clause hold together somewhere. -/
theorem witness_LaneIdle :
    (∃ (s : State) (n : Nat), s.Up ∧ n < 96 ∧ s.laneOn n = true ∧ (s.lane n).sig = true) ∧
    (∃ (s : State) (n ms : Nat) (temp : Int), s.Up ∧ n < 96 ∧ s.laneOn n = true ∧ (s.lane n).sig = false ∧ (s.lane n).train ≠ .full ∧
      s.fastExitOk n ms temp = true) ∧
    (∃ (s : State) (n ms : Nat) (temp : Int), s.Up ∧ n < 96 ∧ s.laneOn n = true ∧ (s.lane n).sig = false ∧ s.fastExitOk n ms temp =
      false) ∧
    (∃ (s : State) (n : Nat), s.Up ∧ n < 96 ∧ s.laneOn n = true ∧ (s.lane n).train = .fast) :=
  ⟨⟨wLane95 { sig := true, train := .running, lock := true }, 95, rfl, by decide +kernel⟩,
   ⟨(wReg (wLane95 { idleMode := 2, idleTemp := 40 }) ⟨.laneAdptCfg, 95, 0⟩ 0xFFFFFFFF), 95, 100, 45, rfl, by decide +kernel⟩,
   ⟨wLane95 { idleTemp := 40, retrainPend := true }, 95, 100, 46, rfl, by decide +kernel⟩,
   ⟨wLane95 { sig := true, train := .fast }, 95, rfl, by decide +kernel⟩⟩

/-- `LaneRetrain`: the hypotheses of each clause hold together somewhere. -/
theorem witness_LaneRetrain :
    (∃ (s : State) (n code : Nat), s.Up ∧ n < 96 ∧ code < 32 ∧ s.laneOn n = true ∧ (s.lane n).train = .full) ∧
    (∃ (s : State) (n : Nat), s.Up ∧ n < 96 ∧ s.laneOn n = true ∧ (s.lane n).sig = true ∧ (s.lane n).lock = false ∧ (s.lane n).train =
      .running) ∧
    (∃ (s : State) (n : Nat), s.Up ∧ n < 96 ∧ s.laneOn n = true ∧ (s.lane n).sig = true ∧ (s.lane n).hiBer = true ∧ bitAt (s.polEntry 4
      n) 0 = true ∧ s.taskHeld 8 = true) ∧
    (∃ (s : State) (n : Nat), s.Up ∧ n < 96 ∧ s.laneOn n = true ∧ (s.lane n).sig = true ∧ bitsOf (s.polEntry 4 n) 16 16 ≠ 0 ∧ bitAt
      (s.polEntry 4 n) 1 = false ∧ s.taskHeld 8 = true) ∧
    (∃ (s : State) (n : Nat), s.Up ∧ n < 96 ∧ s.laneOn n = true ∧ (s.lane n).txSq = true ∧ (s.lane n).sig = false) ∧
    (∃ (s : State) (g : Nat), s.Up ∧ g < 12 ∧ (s.grp g).st = .draining) :=
  ⟨⟨wLane95 { train := .full }, 95, 31, rfl, by decide +kernel⟩,
   ⟨wLane95 { sig := true, train := .running }, 95, rfl, by decide +kernel⟩,
   ⟨wTasks { wLane95 { sig := true, hiBer := true, lock := true, train := .running } with eng := { pol := [((4, 95), 1)] } }, 95, rfl,
     by decide +kernel⟩,
   ⟨wTasks { wLane95 { sig := true, lock := true, train := .running } with eng := { pol := [((4, 95), 0x10000)] } }, 95, rfl,
     by decide +kernel⟩,
   ⟨wLane95 { txSq := true, train := .full }, 95, rfl, by decide +kernel⟩,
   ⟨wUp.setGrp 11 { st := .draining }, 11, rfl, by decide +kernel⟩⟩

/-- `LaneAdapt`: the hypotheses of each clause hold together somewhere. -/
theorem witness_LaneAdapt :
    (∃ (s : State) (n density diversity : Nat) (lag : Int) (b he fc fu : Nat) (hb : Bool), s.Up ∧ Instr.wf (.adaptWindow n density
      diversity lag b he fc fu hb) = true ∧ s.laneOn n = true ∧ (s.lane n).lock = true) ∧
    (∃ (s : State) (n w : Nat), s.Up ∧ n < 96 ∧ s.laneOn n = true ∧ s.laneAdapts n = true ∧ 2 ≤ ((w : Int) - (s.lane n).eyeW).natAbs) ∧
    (∃ (s : State) (n : Nat), s.Up ∧ n < 96 ∧ s.laneOn n = true ∧ s.apB Fld.lanePeak_FORCE_EN n = false ∧ (s.lane n).frozen = 0 ∧ 3 <
      (((s.lane n).cur : Int) - (s.lane n).base).natAbs) ∧
    (∃ (s : State) (n : Nat), s.Up ∧ n < 96 ∧ s.laneOn n = true ∧ (s.lane n).train ≠ .full ∧ (s.laneIdl n).apB Fld.lanePeak_FORCE_EN n
      = true) ∧
    (∃ (s : State) (n : Nat) (up : Bool), s.Up ∧ n < 96 ∧ s.laneOn n = true ∧ (s.lane n).train ≠ .full ∧ (s.laneIdl n).apB
      Fld.lanePeak_FORCE_EN n = false ∧ (s.lane n).proposed = some up ∧ (s.lane n).stepBack = false ∧ (s.lane n).outOfRange up = false
      ∧ (s.lane n).movedAt.any (fun x => decide (s.clk.now < x + 10 ^ 11)) = false) :=
  ⟨⟨wLane95 { sig := true, lock := true, train := .running }, 95, 64, 64, 2, 100, 1, 1, 1, true, rfl, by decide +kernel⟩,
   ⟨wReg (wLane95 { sig := true, lock := true, train := .running, eyeW := 10 }) ⟨.laneCtrl, 95, 0⟩ 0xFFFFFFF6, 95, 12, rfl,
     by decide +kernel⟩,
   ⟨wLane95 { sig := true, cur := 14, base := 10 }, 95, rfl, by decide +kernel⟩,
   ⟨wReg (wLane95 { sig := true, cur := 14, base := 10 }) ⟨.lanePeak, 95, 0⟩ 0xFFFFFFFF, 95, rfl, by decide +kernel⟩,
   ⟨wLane95 { sig := true, cur := 12, base := 10, proposed := some true, train := .running, lock := true }, 95, true, rfl,
     by decide +kernel⟩⟩

/-- `LaneAndGroupControl`: the hypotheses of each clause hold together somewhere. -/
theorem witness_LaneAndGroupControl :
    (∃ (s : State) (n : Nat), s.Up ∧ s.Writable ⟨.laneCtrl, n, 0⟩ ∧ n < 96 ∧ s.laneOn n = true ∧ (s.lane n).sig = true ∧ s.pendOverflow
      ⟨.laneCtrl, n, 0⟩ (s.waitPoints ⟨.laneCtrl, n, 0⟩ 1) = false) ∧
    (∃ (s : State) (n : Nat) (inv : Bool), s.Up ∧ s.Writable ⟨.laneCtrl, n, 0⟩ ∧ n < 96 ∧ s.apB Fld.laneCtrl_RX_INV n ≠ inv ∧
      s.pendOverflow ⟨.laneCtrl, n, 0⟩ (s.waitPoints ⟨.laneCtrl, n, 0⟩ 8) = false) ∧
    (∃ (s : State) (p : Path) (g : Nat), s.Up ∧ s.Writable ⟨.laneGrpCtrl, g, 0⟩ ∧ p.wf = true ∧ g < 12 ∧ g < s.variant.groups ∧
      s.unlocked p = false) ∧
    (∃ (s : State) (p : Path) (g : Nat), s.Up ∧ s.Writable ⟨.laneGrpCtrl, g, 0⟩ ∧ p.wf = true ∧ g < 12 ∧ g < s.variant.groups ∧
      s.unlocked p = true ∧ (s.grp g).st = .inService) ∧
    (∃ (s : State) (p : Path) (g : Nat), s.Up ∧ s.Writable ⟨.laneGrpCtrl, g, 0⟩ ∧ p.wf = true ∧ g < 12 ∧ g < s.variant.groups ∧
      s.unlocked p = true ∧ ((s.grp g).st = .draining ∨ (s.grp g).st = .removed)) ∧
    (∃ (s : State) (p : Path) (g : Nat), s.Up ∧ s.Writable ⟨.laneGrpCtrl, g, 0⟩ ∧ p.wf = true ∧ g < 12 ∧ g < s.variant.groups ∧
      s.unlocked p = true ∧ (s.grp g).st = .removed) ∧
    (∃ (s : State) (p : Path) (g : Nat), s.Up ∧ s.Writable ⟨.laneGrpCtrl, g, 0⟩ ∧ p.wf = true ∧ g < 12 ∧ g < s.variant.groups ∧
      s.unlocked p = true ∧ (s.grp g).st ≠ .removed) :=
  ⟨⟨wLane95 { sig := true, train := .running, lock := true }, 95, rfl, by unfold State.Writable; decide +kernel, by decide +kernel⟩,
   ⟨wLane95 { sig := true, train := .running, lock := true }, 95, true, rfl, by unfold State.Writable; decide +kernel,
     by decide +kernel⟩,
   ⟨wUp, .i2c, 11, rfl, by unfold State.Writable; decide +kernel, by decide +kernel⟩,
   ⟨wKey wUp .pcie, .pcie, 11, rfl, by unfold State.Writable; decide +kernel, by decide +kernel⟩,
   ⟨wKey (wUp.setGrp 11 { st := .draining }) (.eng 0), .eng 0, 11, rfl, by unfold State.Writable; decide +kernel, by decide +kernel⟩,
   ⟨wKey (wUp.setGrp 11 { st := .removed }) .pcie, .pcie, 11, rfl, by unfold State.Writable; decide +kernel, by decide +kernel⟩,
   ⟨wKey (wUp.setGrp 11 { st := .draining }) .i2c, .i2c, 11, rfl, by unfold State.Writable; decide +kernel, by decide +kernel⟩⟩

/-- `VoltageAndCanary`: the hypotheses of each clause hold together somewhere. -/
theorem witness_VoltageAndCanary :
    (∃ (s : State) (rates : List Nat) (load : Nat), s.Up ∧ Instr.wf (.canaryWindow rates load) = true) ∧
    (∃ (s : State), s.Up ∧ s.vsActs = true ∧ s.sw.avsFail = false ∧ s.fReq * (104 + s.margin) < s.sw.assured * 100 ∧ s.vmin <
      s.sw.vset) ∧
    (∃ (s : State), s.Up ∧ s.taskHeld 1 = false ∧ s.sw.vset ≠ 880) ∧
    (∃ (s : State) (mv : Nat), s.Up ∧ Instr.wf (.avsWriteDone true mv) = true ∧ s.sw.writing = true ∧ mv ≤ s.sw.vset + 10 ∧ s.sw.vset ≤
      mv + 10) ∧
    (∃ (s : State) (mv : Nat), s.Up ∧ Instr.wf (.avsWriteDone false mv) = true ∧ s.sw.writing = true ∧ s.sw.attempts < 4) ∧
    (∃ (s : State) (mv : Nat), s.Up ∧ Instr.wf (.avsWriteDone true mv) = true ∧ s.sw.writing = true ∧ s.sw.attempts < 4 ∧ mv + 20 <
      s.sw.vset) ∧
    (∃ (s : State) (mv : Nat), s.Up ∧ Instr.wf (.avsWriteDone false mv) = true ∧ s.sw.writing = true ∧ 4 ≤ s.sw.attempts ∧ s.sw.wait =
      none) ∧
    (∃ (s : State), s.Up ∧ s.sw.retrying = true) ∧
    (∃ (s : State) (mv ma : Nat), s.Up ∧ Instr.wf (.avsStatusRead mv ma) = true) ∧
    (∃ (s : State) (mv ma : Nat), s.Up ∧ Instr.wf (.avsStatusRead mv ma) = true) ∧
    (∃ (s : State) (b : Nat), s.Up ∧ Instr.wf (.swCondChange b) = true ∧ bitAt s.sw.cond b = false) ∧
    (∃ (s : State) (b : Nat), s.Up ∧ Instr.wf (.swCondClear b) = true ∧ bitAt s.sw.cond b = true ∧ (b = 2 → s.fAdm ≤ s.sw.assured)) :=
  ⟨⟨wUp, List.replicate 24 7000, 3000, rfl, by decide +kernel⟩,
   ⟨{ wTasks (wReg wUp ⟨.swVsCtrl, 0, 0⟩ 0x000F0501) with sw := { assured := 65535 } }, rfl, by decide +kernel⟩,
   ⟨{ wUp with sw := { vset := 800 } }, rfl, by decide +kernel⟩,
   ⟨{ wUp with sw := { vset := 800, writing := true, attempts := 1 } }, 790, rfl, by decide +kernel⟩,
   ⟨{ wUp with sw := { vset := 800, writing := true, attempts := 3 } }, 700, rfl, by decide +kernel⟩,
   ⟨{ wUp with sw := { vset := 800, writing := true, attempts := 3 } }, 700, rfl, by decide +kernel⟩,
   ⟨{ wUp with sw := { vset := 800, writing := true, attempts := 4 } }, 700, rfl, by decide +kernel⟩,
   ⟨{ wUp with sw := { vset := 800, retrying := true, attempts := 1 } }, rfl, by decide +kernel⟩,
   ⟨wUp, 859, 5, rfl, by decide +kernel⟩,
   ⟨wUp, 860, 5, rfl, by decide +kernel⟩,
   ⟨wUp, 1, rfl, by decide +kernel⟩,
   ⟨{ wUp with sw := { cond := 7 } }, 2, rfl, by decide +kernel⟩⟩

/-- `GatesAndBounds`: the hypotheses of each clause hold together somewhere. -/
theorem witness_GatesAndBounds :
    (∃ (s : State) (p : Nat) (g : Gcl), s.Up ∧ p < 96 ∧ Gcl.live (s.port p).gcl = some g ∧ (s.port p).gateExt = false ∧ ((s.port
      p).gateIx + 1 < g.entries.length ∨ (s.port p).gclPend.any (fun y => decide (s.gclLeft y ≤ g.cycExt)) = false)) ∧
    (∃ (s : State) (p : Nat) (g y : Gcl), s.Up ∧ p < 96 ∧ Gcl.live (s.port p).gcl = some g ∧ (s.port p).gateExt = false ∧
      g.entries.length ≤ (s.port p).gateIx + 1 ∧ (s.port p).gclPend = some y ∧ s.gclLeft y ≤ g.cycExt) ∧
    (∃ (s : State) (p c : Nat) (x : Copy) (g : Gcl), s.Up ∧ p < 96 ∧ Gcl.live (s.port p).gcl = some g ∧ (s.port p).gateExt = false ∧
      (s.port p).gateIx + 1 < g.entries.length ∧ s.midTx p = some (c, x) ∧ s.preemptPoint p x = true ∧ bitAt ((s.port p).entryGates
      ((s.port p).gateIx + 1)) x.q = false) ∧
    (∃ (s : State) (p : Nat) (g : Gcl), s.Up ∧ p < 96 ∧ (s.port p).gclPend = some g) ∧
    (∃ (s : State) (p : Nat), s.Up ∧ p < 96) ∧
    (∃ (s : State) (d : CmdDesc) (g : Gcl), s.Up ∧ s.Accepts d 0x9802
      { unitChecks d true .port false [Rdy.fabric] with absent := !(d.badForm true) && decide (d.buf 0 2 < 96) && !(s.portExists (d.buf 0 2)), badForm := (unitChecks d true .port false [Rdy.fabric]).badForm || decide (2 ≤ d.buf 2 1) || !(((d.ext.take d.extLen).drop 3).take 29 |>.all (fun b => decide (b = 0))), badArg := decide (95 < d.buf 0 2) || s.portInactive (d.buf 0 2) || decide (d.extLen < 2080) }
      ∧ d.wf = true ∧ bitAt (d.buf 2 1) 0 = false ∧ (s.port (d.buf 0 2)).gcl = some g) ∧
    (∃ (s : State) (d : CmdDesc) (b : Nat), s.Up ∧ s.AdmFree d 0xA001 ∧ s.Accepts d 0xA001
      { unitChecks d true .sw false [Rdy.fabric, Rdy.admission] with absent := s.flowAbsent d, badForm := (unitChecks d true .sw false [Rdy.fabric, Rdy.admission]).badForm || flowReserved d, badArg := s.flowBad d none }
      ∧ d.wf = true ∧ (s.admission (flowArgsOf d.objArgs) none).b = some b) ∧
    (∃ (s : State) (d : CmdDesc) (g : Gcl), s.Up ∧ s.AdmFree d 0x9801 ∧ s.Accepts d 0x9801
      { unitChecks d true .port true [Rdy.fabric] with absent := !(d.badForm true) && decide (d.buf 0 2 < 96) && !(s.portExists (d.buf 0 2)), badForm := (unitChecks d true .port true [Rdy.fabric]).badForm || !(((d.ext.take d.extLen).drop 20).take 12 |>.all (fun b => decide (b = 0))) || (List.range (min (d.buf 2 2) 256)).any (fun k => decide (d.buf (32 + 8 * k) 2 / 2048 ≠ 0) || decide (d.buf (34 + 8 * k) 2 ≠ 0)), badArg := decide (95 < d.buf 0 2) || s.portInactive (d.buf 0 2) || decide (256 < d.buf 2 2) || decide (d.extLen < 32 + 8 * d.buf 2 2) || decide (d.buf 4 4 < 1000) || decide (4000000000 < d.buf 4 4) || decide (1000000000 ≤ d.buf 14 4) || ((List.range (min (d.buf 2 2) 256)).map (fun k => d.gclEntry k)).any (fun e => decide (e.interval < 64) || decide (1000000000 < e.interval) || decide (2 < e.op)) || (decide (d.buf 2 2 ≠ 0) && decide ((((List.range (min (d.buf 2 2) 256)).map (fun k => d.gclEntry k)).map (fun e => e.interval)).sum ≠ d.buf 4 4)) }
      ∧ d.wf = true ∧ g =
      { cycle := d.buf 4 4, baseS := d.buf 8 6, baseNs := d.buf 14 4, cycExt := d.buf 18 2, entries := (List.range (min (d.buf 2 2) 256)).map (fun k => d.gclEntry k), start := s.gclChange (d.buf 4 4) (d.buf 8 6 * 1000000000 + d.buf 14 4) }
      ∧ (s.setPort (d.buf 0 2) { s.port (d.buf 0 2) with gclPend := some g }).firstBroken (d.buf 0 2) = none) :=
  ⟨⟨wPort95 { gcl := some wGcl, gateIx := 1, sqOpen := true }, 95, wGcl, rfl, by decide +kernel⟩,
   ⟨wPort95
     { gcl := some ({ wGcl with cycExt := 10000 } : Gcl), gclPend := some ({ wGcl with start := 500 } : Gcl), gateIx := 1, sqOpen := true },
     95, { wGcl with cycExt := 10000 }, { wGcl with start := 500 }, rfl, by decide +kernel⟩,
   ⟨wReg (wReg
     { (wPort95 { gcl := some ({ wGcl with entries := [⟨0x1FF, 0, 1000⟩, ⟨0x0FF, 2, 1000⟩, ⟨0x0FE, 1, 1000⟩], cycle := 3000 } : Gcl), gateIx := 1, tx := some 0, verified := true }) with clk := { now := 400000 }, fab := { (wPort95 { gcl := some ({ wGcl with entries := [⟨0x1FF, 0, 1000⟩, ⟨0x0FF, 2, 1000⟩, ⟨0x0FE, 1, 1000⟩], cycle := 3000 } : Gcl), gateIx := 1, tx := some 0, verified := true }).fab with frames := [(0, wFrame)], copies := [(0, ({ frame := 0, port := 95, q := 0, st := .tx, len := 1500, txAt := 0 } : Copy))] } }
     ⟨.portExpress, 95, 0⟩ 0xFE) ⟨.portCfg, 95, 0⟩ 0xFFFFFFFF, 95, 0,
     { frame := 0, port := 95, q := 0, st := .tx, len := 1500, txAt := 0 },
     { wGcl with entries := [⟨0x1FF, 0, 1000⟩, ⟨0x0FF, 2, 1000⟩, ⟨0x0FE, 1, 1000⟩], cycle := 3000 }, rfl, by decide +kernel⟩,
   ⟨wPort95 { gclPend := some wGcl }, 95, wGcl, rfl, by decide +kernel⟩,
   ⟨wUp, 95, rfl, by decide +kernel⟩,
   ⟨wPort95 { gcl := some wGcl }, wExt [95, 0, 0, 0] 2080, wGcl, rfl, by unfold State.Accepts; decide +kernel, by decide +kernel⟩,
   ⟨{ wFlow with fdb := { wFlow.fdb with cls := Tab.set wFlow.fdb.cls 1 { port := 0, kind := 1, action := 0, vid := 0, key := 0, mask := 0, cbFn := 0, macHi := 0 } } },
     wExt ([0, 0, 4, 0, 0, 0, 128, 0, 0x40, 0x1F, 0, 0, 0xA0, 0x86, 1, 0, 1]) 32,
     ((({ wFlow with fdb := { wFlow.fdb with cls := Tab.set wFlow.fdb.cls 1 { port := 0, kind := 1, action := 0, vid := 0, key := 0, mask := 0, cbFn := 0, macHi := 0 } } }
     : State).admission (flowArgsOf [0, 0, 4, 0, 0, 0, 128, 0, 0x40, 0x1F, 0, 0, 0xA0, 0x86, 1, 0, 1]) none).b).getD 0, rfl,
     by unfold State.AdmFree; decide +kernel, by unfold State.Accepts; decide +kernel, by decide +kernel⟩,
   ⟨wPort95 {}, wExt wGclBuf 48, { wGcl with start := (wPort95 {} : State).gclChange 2000 0 }, rfl,
     by unfold State.AdmFree; decide +kernel, by unfold State.Accepts; decide +kernel, by decide +kernel⟩⟩

/-- `QueueAndSend`: the hypotheses of each clause hold together somewhere. -/
theorem witness_QueueAndSend :
    (∃ (s : State) (f c : Nat) (fr : Frame) (x : Copy), s.Up ∧ s.frame? f = some fr ∧ fr.decided = true ∧ fr.eligible = false ∧ fr.port
      ≠ 96 ∧ fr.cbFn = none ∧ fr.genFn = none ∧ s.copiesOf f = [c] ∧ s.copy? c = some x ∧ x.frame = f ∧ s.copyBytes x ≤ x.capacity ∧
      x.port < 96 ∧ x.mirror = none ∧ (if x.len ≠ 0 then x.len else fr.h.outLen x.tag x.rtag.isSome false) ≤ s.mtu x.port) ∧
    (∃ (s : State) (f : Nat) (fr : Frame), s.Up ∧ s.frame? f = some fr ∧ fr.eligible = false ∧ fr.fcsIns = false ∧ s.copiesOf f = []) ∧
    (∃ (s : State) (p c : Nat) (x : Copy), s.Up ∧ p < 96 ∧ (s.port p).up = true ∧ s.midTx p = none ∧ (s.setPort p
      { s.port p with tx := none }).txQuiet p = false ∧ (s.setPort p { s.port p with tx := none }).headOf p 8 = some (c, x)) ∧
    (∃ (s : State) (p c : Nat) (x : Copy), s.Up ∧ p < 96 ∧ (s.port p).up = true ∧ s.midTx p = some (c, x) ∧ (s.expressReady p = false ∨
      s.preemptPoint p x = false) ∧ (s.port p).hold = false ∧ bitAt (s.port p).gates x.q = true) ∧
    (∃ (s : State) (p : Nat) (a : FcFrame) (l : List FcFrame), s.Up ∧ p < 96 ∧ (s.port p).up = true ∧ s.midTx p = none ∧ (s.setPort p
      { s.port p with tx := none }).txQuiet p = false ∧ (s.setPort p { s.port p with tx := none }).headOf p 8 = none ∧ (s.port p).fc =
      a :: l) ∧
    (∃ (s : State) (p c : Nat) (marker : Int) (x : Copy) (fr : Frame), s.Up ∧ p ≤ 96 ∧ Instr.wf (.egressSfd p marker) = true ∧ (s.port
      p).tx = some c ∧ s.copy? c = some x ∧ s.frame? x.frame = some fr ∧ x.st = .tx) :=
  ⟨⟨((wPort95 {}).setFrame 0 wFrame).setCopy 0 { frame := 0, port := 95, q := 7, bufs := [bufIndex 3 0], len := 100 }, 0, 0, wFrame,
     { frame := 0, port := 95, q := 7, bufs := [bufIndex 3 0], len := 100 }, rfl, by decide +kernel⟩,
   ⟨(wPort95 {}).setFrame 0 wFrame, 0, wFrame, rfl, by decide +kernel⟩,
   ⟨(((wPort95 {}).setFrame 0 wFrame).setCopy 0 { frame := 0, port := 95, q := 8, len := 100, st := .queued }).setQueue 95 8 [0], 95,
     0, { frame := 0, port := 95, q := 8, len := 100, st := .queued }, rfl, by decide +kernel⟩,
   ⟨wReg (wReg
     { (wPort95 { tx := some 0, verified := true }) with clk := { now := 400000 }, fab := { (wPort95 { tx := some 0, verified := true }).fab with frames := [(0, wFrame)], copies := [(0, ({ frame := 0, port := 95, q := 0, st := .tx, len := 1500, txAt := 0 } : Copy))] } }
     ⟨.portExpress, 95, 0⟩ 0xFE) ⟨.portCfg, 95, 0⟩ 0xFFFFFFFF, 95, 0,
     { frame := 0, port := 95, q := 0, st := .tx, len := 1500, txAt := 0 }, rfl, by decide +kernel⟩,
   ⟨wPort95 { fc := [⟨0xFF, true⟩, ⟨1, false⟩] }, 95, ⟨0xFF, true⟩, [⟨1, false⟩], rfl, by decide +kernel⟩,
   ⟨((wPort95 { tx := some 0 }).setFrame 0 { wFrame with eligible := true }).setCopy 0
     { frame := 0, port := 95, q := 8, len := 100, st := .tx }, 95, 0, 0, { frame := 0, port := 95, q := 8, len := 100, st := .tx },
     { wFrame with eligible := true }, rfl, by decide +kernel⟩⟩

/-- `PauseHoldAndLimits`: the hypotheses of each clause hold together somewhere. -/
theorem witness_PauseHoldAndLimits :
    (∃ (s : State) (p e : Nat) (l : List Nat), s.Up ∧ Instr.wf (.pauseReceive p true e l) = true ∧ s.fcMode p ≠ 0) ∧
    (∃ (s : State) (p e : Nat) (l : List Nat), s.Up ∧ Instr.wf (.pauseReceive p false e l) = true ∧ s.fcMode p ≠ 0) ∧
    (∃ (s : State) (p m : Nat), s.Up ∧ Instr.wf (.pauseQuantaExpire p m) = true) ∧
    (∃ (s : State) (p : Nat), s.Up ∧ p < 96 ∧ (s.port p).xoff ≠ 0 ∧ s.fcMode p ≠ 0) ∧
    (∃ (s : State) (p : Nat), s.Up ∧ p < 96 ∧ (s.port p).holding = true) ∧
    (∃ (s : State) (c : Nat) (x : Copy), s.Up ∧ s.copy? c = some x ∧ x.st = .queued ∧ x.q = 8 ∧ ((s.port x.port).up = false ∨
      s.queueHeld x.port 8 = true)) ∧
    (∃ (s : State) (c : Nat) (x : Copy), s.Up ∧ s.copy? c = some x ∧ x.st = .queued ∧ x.deadline = none) ∧
    (∃ (s : State) (q : Path) (p : Nat), s.Up ∧ s.Writable ⟨.portHold, p, 0⟩ ∧ q.wf = true ∧ p < 96 ∧ s.pendOverflow ⟨.portHold, p, 0⟩
      (s.waitPoints ⟨.portHold, p, 0⟩ allBits) = false ∧ (s.port p).holding = false) ∧
    (∃ (s : State) (q : Path), s.Up ∧ s.Writable ⟨.swResCfg, 0, 0⟩ ∧ q.wf = true ∧ s.pendOverflow ⟨.swResCfg, 0, 0⟩ (s.waitPoints
      ⟨.swResCfg, 0, 0⟩ allBits) = false ∧ s.largestBound = 0) :=
  ⟨⟨wReg wUp ⟨.portCfg, 95, 0⟩ 0xFFFFFFFF, 95, 255, [0, 1, 2, 3, 4, 5, 6, 7], rfl, by decide +kernel⟩,
   ⟨wReg wUp ⟨.portCfg, 95, 0⟩ 0xFFFFFFFF, 95, 0, List.replicate 8 65535, rfl, by decide +kernel⟩,
   ⟨wPort95 { pfcHeld := 255, paused := true }, 95, 257, rfl, by decide +kernel⟩,
   ⟨wReg (wPort95 { xoff := 5 }) ⟨.portCfg, 95, 0⟩ 0xFFFFFFFF, 95, rfl, by decide +kernel⟩,
   ⟨wLanes.setPort 95 { holding := true, lossAt := 0 }, 95, rfl, by decide +kernel⟩,
   ⟨(((wPort95 { paused := true }).setFrame 0 wFrame).setCopy 0 { frame := 0, port := 95, q := 8, len := 100, st := .queued }).setQueue
     95 8 [0], 0, { frame := 0, port := 95, q := 8, len := 100, st := .queued }, rfl, by decide +kernel⟩,
   ⟨(((wPort95 { paused := true }).setFrame 0 wFrame).setCopy 0 { frame := 0, port := 95, q := 0, len := 100, st := .queued }).setQueue
     95 0 [0], 0, { frame := 0, port := 95, q := 0, len := 100, st := .queued }, rfl, by decide +kernel⟩,
   ⟨wUp, .pcie, 95, rfl, by unfold State.Writable; decide +kernel, by decide +kernel⟩,
   ⟨wUp, .i2c, rfl, by unfold State.Writable; decide +kernel, by decide +kernel⟩⟩

/-- `FrameReceivedAndForwarded`: the hypotheses of each clause hold together somewhere. -/
theorem witness_FrameReceivedAndForwarded :
    (∃ (s : State) (p : Nat), s.Up ∧ p < 96 ∧ (s.port p).up = true ∧ s.intakeStopped p = false) ∧
    (∃ (s : State) (p : Nat), s.Up ∧ p < 96 ∧ (s.port p).up = true ∧ s.intakeStopped p = true) ∧
    (∃ (s : State) (f : Nat) (fr : Frame), s.Up ∧ s.frame? f = some fr ∧ fr.decided = false ∧ fr.drop = false ∧ fr.toEngine = false ∧
      s.lookupTurn f fr = true) ∧
    (∃ (s : State) (f : Nat) (fr : Frame), s.Up ∧ s.frame? f = some fr ∧ fr.decided = false ∧ fr.drop = false ∧ fr.toEngine = true ∧
      s.lookupTurn f fr = true) ∧
    (∃ (s : State) (f : Nat) (fr : Frame), s.Up ∧ s.frame? f = some fr ∧ s.lookupTurn f fr = false) :=
  ⟨⟨wPort95 {}, 95, rfl, by decide +kernel⟩,
   ⟨(wPort95 {}).setGrp 11 { st := .draining }, 95, rfl, by decide +kernel⟩,
   ⟨(({ wPort95 {} with fdb := { entries := [((1, 1), { dest := 95 })] } } : State).setFrame 0 { wFrame with decided := false }), 0,
     { wFrame with decided := false }, rfl, by decide +kernel⟩,
   ⟨(({ wPort95 {} with fdb := { entries := [((1, 1), { dest := 95 })] } } : State).setFrame 0
     { wFrame with decided := false, toEngine := true }), 0, { wFrame with decided := false, toEngine := true }, rfl,
     by decide +kernel⟩,
   ⟨(({ wPort95 {} with fdb := { entries := [((1, 1), { dest := 95 })] } } : State).setFrame 0
     { wFrame with decided := false, conforms := true }).setFrame 1 { wFrame with decided := false }, 1,
     { wFrame with decided := false }, rfl, by decide +kernel⟩⟩

/-- `Buffers`: the hypotheses of each clause hold together somewhere. -/
theorem witness_Buffers :
    (∃ (s : State) (len p i : Nat), s.Up ∧ len ≤ 2048 ∧ s.bpmTurn none = true ∧ s.bpmAnswer 97 3 1 = (.ok, p) ∧ s.nextBuf p = some i) ∧
    (∃ (s : State) (f c p i : Nat) (fr : Frame) (x : Copy), s.Up ∧ s.frame? f = some fr ∧ s.copiesOf f = [c] ∧ s.copy? c = some x ∧
      x.frame = f ∧ x.flow = none ∧ x.mirror = none ∧ x.st ≠ .sent ∧ x.bufs = [] ∧ s.bpmTurn (some f) = true ∧ s.bpmAnswer fr.port
      (s.firstPool fr.h) 1 = (.ok, p) ∧ s.nextBuf p = some i) ∧
    (∃ (s : State) (f : Nat), s.Up ∧ s.bpmTurn (some f) = false) ∧
    (∃ (s : State) (b r : Nat) (x : Buf), s.Up ∧ r < 106 ∧ s.buf? b = some x ∧ x.owner = r ∧ (s.pool (bufPool b)).rebuild = false ∧
      s.bpm.engWait = [] ∧ (∀ e, e ∈ s.fab.copies → e.2.st ≠ .sent)) ∧
    (∃ (s : State) (b r : Nat), s.Up ∧ r < 106 ∧ s.buf? b = none) ∧
    (∃ (s : State) (b r : Nat) (x : Buf), s.Up ∧ r < 106 ∧ s.buf? b = some x ∧ x.owner ≠ r) ∧
    (∃ (s : State) (b : Nat) (x : Buf), s.Up ∧ s.apB Fld.bpmAuditCfg_EN = true ∧ s.bpm.engWait = [] ∧ s.buf? b = some x ∧ (s.pool
      (bufPool b)).bad = false ∧ x.ref = true) ∧
    (∃ (s : State) (b : Nat) (x : Buf), s.Up ∧ s.apB Fld.bpmAuditCfg_EN = true ∧ s.bpm.engWait = [] ∧ s.buf? b = some x ∧ (s.pool
      (bufPool b)).bad = false ∧ x.ref = false ∧ x.seen ≠ some (Tab.get 0 s.bpm.allocs b)) ∧
    (∃ (s : State) (b : Nat) (x : Buf), s.Up ∧ s.apB Fld.bpmAuditCfg_EN = true ∧ s.bpm.engWait = [] ∧ s.buf? b = some x ∧ (s.pool
      (bufPool b)).bad = false ∧ x.ref = false ∧ x.seen = some (Tab.get 0 s.bpm.allocs b)) ∧
    (∃ (s : State) (b p : Nat), s.Up ∧ s.apB Fld.bpmAuditCfg_EN = true ∧ s.bpm.engWait = [] ∧ s.buf? b = none ∧ bufPool b = p ∧ p < 5 ∧
      (s.pool p).bad = true) ∧
    (∃ (s : State), s.Up ∧ (∀ r, r < 106 → s.chargeOf r = s.auditUsed r + s.auditHr r * 16) ∧ s.apB Fld.bpmAuditCfg_EN = true ∧
      s.bpm.engWait = []) ∧
    (∃ (s : State) (d : CmdDesc), s.Up ∧ s.Accepts d 0xA402
      { unitChecks d false .bpm true [Rdy.bpm] with badForm := (unitChecks d false .bpm true [Rdy.bpm]).badForm || !(d.zero 12 32) } ∧
      d.wf = true) ∧
    (∃ (s : State) (p : Path) (r : Nat), s.Up ∧ s.Writable ⟨.bpmQuota, r, 0⟩ ∧ p.wf = true ∧ r < 106 ∧ s.pendOverflow ⟨.bpmQuota, r, 0⟩
      (s.waitPoints ⟨.bpmQuota, r, 0⟩ allBits) = false) :=
  ⟨⟨{ wUp with bpm := { wUp.bpm with reqs := [(97, {})] } }, 2048, 3, 0, rfl, by decide +kernel⟩,
   ⟨((wPort95 {}).setFrame 0 wFrame).setCopy 0 ({ frame := 0, port := 95, q := 0, len := 100 } : Copy), 0, 0, ((((wPort95 {}).setFrame
     0 wFrame).setCopy 0 ({ frame := 0, port := 95, q := 0, len := 100 } : Copy) : State).bpmAnswer (wFrame : Frame).port ((((wPort95
     {}).setFrame 0 wFrame).setCopy 0 ({ frame := 0, port := 95, q := 0, len := 100 } : Copy) : State).firstPool (wFrame : Frame).h)
     1).2, ((((wPort95 {}).setFrame 0 wFrame).setCopy 0 ({ frame := 0, port := 95, q := 0, len := 100 } : Copy) : State).nextBuf
     (((((wPort95 {}).setFrame 0 wFrame).setCopy 0 ({ frame := 0, port := 95, q := 0, len := 100 } : Copy) : State).bpmAnswer (wFrame :
     Frame).port ((((wPort95 {}).setFrame 0 wFrame).setCopy 0 ({ frame := 0, port := 95, q := 0, len := 100 } : Copy) :
     State).firstPool (wFrame : Frame).h) 1).2 : Nat)).getD 0, wFrame, { frame := 0, port := 95, q := 0, len := 100 }, rfl,
     by decide +kernel⟩,
   ⟨(((wPort95 {}).setFrame 0 { wFrame with conforms := true }).setCopy 0
     { frame := 0, port := 95, q := 8, len := 100, flow := some 0 }).setFrame 1 wFrame, 1, rfl, by decide +kernel⟩,
   ⟨wBuf ({ owner := 97 } : Buf), bufIndex 3 0, 97, { owner := 97 }, rfl, by decide +kernel⟩,
   ⟨wUp, bufIndex 3 0, 105, rfl, by decide +kernel⟩,
   ⟨wBuf ({ owner := 97 } : Buf), bufIndex 3 0, 105, { owner := 97 }, rfl, by decide +kernel⟩,
   ⟨wAudit (wBuf ({ owner := 97 } : Buf)), bufIndex 3 0, { owner := 97 }, rfl, by decide +kernel⟩,
   ⟨wAudit (wBuf ({ owner := 97, ref := false } : Buf)), bufIndex 3 0, { owner := 97, ref := false }, rfl, by decide +kernel⟩,
   ⟨wAudit (wBuf ({ owner := 97, ref := false, seen := some 0 } : Buf)), bufIndex 3 0, { owner := 97, ref := false, seen := some 0 },
     rfl, by decide +kernel⟩,
   ⟨wAudit (wUp.setPool 3 { wUp.pool 3 with bad := true }), bufIndex 3 0, 3, rfl, by decide +kernel⟩,
   ⟨wAudit { wUp with bpm := { wUp.bpm with auditRun := [wCmd []] } }, rfl, by decide +kernel⟩,
   ⟨wUp, wCmd [], rfl, by unfold State.Accepts; decide +kernel, by decide +kernel⟩,
   ⟨wUp, .pcie, 105, rfl, by unfold State.Writable; decide +kernel, by decide +kernel⟩⟩

/-- `CarveAndRebuild`: the hypotheses of each clause hold together somewhere. -/
theorem witness_CarveAndRebuild :
    (∃ (s : State) (p : Nat), s.Up ∧ p < 5 ∧ (s.pool p).rebuild = true ∧ (s.pool p).waiting = [] ∧ s.bpm.engWait = [] ∧ (∀ e, e ∈
      s.fab.copies → e.2.st ≠ .sent)) ∧
    (∃ (s : State) (d : CmdDesc), s.Up ∧ s.Accepts d 0xA401
      { unitChecks d true .bpm true [Rdy.bpm] with badForm := (unitChecks d true .bpm true [Rdy.bpm]).badForm || !((d.ext.take d.extLen).drop 2 |>.take 6 |>.all (fun b => decide (b = 0))), badArg := decide (d.extLen < 48) || d.carvePools.any (fun x => decide (524287 < x.2)) || carveOverlap d.carvePools || decide ((d.carvePools.getD 3 (0, 0)).2 = 0) }
      ∧ d.wf = true ∧ s.hrTotal + 256 ≤ (d.carvePools.getD 3 (0, 0)).2 ∧ (∀ n, n < 5 → (s.pool n).rsv * 100 ≤ (d.carvePools.getD n (0,
      0)).2 * s.rsvPct) ∧ s.bpm.carve = none ∧ s.bpm.bufs = [] ∧ s.bpm.engWait = [] ∧ (∀ n, n < 5 → (s.pool n).waiting = [])) ∧
    (∃ (s : State) (c : Carve), s.Up ∧ s.bpm.carve = some c ∧ s.retiring = 0 ∧ s.bpm.engWait = [] ∧ (∀ n, n < 5 → (s.pool n).waiting =
      [])) ∧
    (∃ (s : State) (c : Carve), s.Up ∧ s.bpm.carve = some c ∧ s.retiring = 0 ∧ s.bpm.engWait = [] ∧ (∀ n, n < 5 → (s.pool n).waiting =
      [])) ∧
    (∃ (s : State) (c : Carve), s.Up ∧ s.bpm.carve = some c ∧ s.retiring ≠ 0 ∧ s.bpm.engWait = []) :=
  ⟨⟨wUp.setPool 4 { wUp.pool 4 with rebuild := true }, 4, rfl, by decide +kernel⟩,
   ⟨wUp, wExt ([0, 0, 0, 0, 0, 0, 0, 0] ++ leBytes 0 4 ++ leBytes 0 4 ++ leBytes 0 4 ++ leBytes 0 4 ++ leBytes 0 4 ++ leBytes 0 4 ++
     leBytes 0 4 ++ leBytes 24576 4 ++ leBytes 0 4 ++ leBytes 0 4) 48, rfl, by unfold State.Accepts; decide +kernel, by decide +kernel⟩,
   ⟨{ wUp with bpm := { wUp.bpm with carve := some (⟨wCmd [], [(0, 0), (0, 0), (0, 0), (0, 24576), (0, 0)], 0, 3, []⟩ : Carve) } },
     ⟨wCmd [], [(0, 0), (0, 0), (0, 0), (0, 24576), (0, 0)], 0, 3, []⟩, rfl, by decide +kernel⟩,
   ⟨{ wUp with bpm := { wUp.bpm with carve := some (⟨wCmd [], [(0, 0), (0, 0), (0, 0), (0, 24576), (0, 0)], 0, 3, [bufIndex 4 7]⟩ : Carve) } },
     ⟨wCmd [], [(0, 0), (0, 0), (0, 0), (0, 24576), (0, 0)], 0, 3, [bufIndex 4 7]⟩, rfl, by decide +kernel⟩,
   ⟨{ (wBuf { owner := 97 }) with bpm := { (wBuf { owner := 97 }).bpm with carve := some (⟨wCmd [], [(0, 0), (0, 0), (0, 0), (0, 0), (0, 0)], 0, 3, []⟩ : Carve) } },
     ⟨wCmd [], [(0, 0), (0, 0), (0, 0), (0, 0), (0, 0)], 0, 3, []⟩, rfl, by decide +kernel⟩⟩

/-- `FdbEntries`: the hypotheses of each clause hold together somewhere. -/
theorem witness_FdbEntries :
    (∃ (s : State) (pipe : Nat) (l : Learn) (q : List Learn), s.Up ∧ Instr.wf (.fdbLearn pipe) = true ∧ Tab.get [] s.fdb.learnQ pipe =
      l :: q) ∧
    (∃ (s : State) (mac vid : Nat) (e : FdbEntry), s.Up ∧ s.fdbEntry? mac vid = some e ∧ s.ap Fld.fdbAge_AGE_S ≠ 0 ∧ e.mirrored =
      false) ∧
    (∃ (s : State) (d : CmdDesc), s.Up ∧ s.Accepts d 0xA801
      { fdbChecks d false 23 true with absent := !(bitAt (d.arg 20 2) 15) && decide (d.arg 20 2 % 128 < 96) && !(s.portExists (d.arg 20 2 % 128)), badForm := (fdbChecks d false 23 true).badForm || (if bitAt (d.arg 20 2) 15 then decide (bitsOf (d.arg 20 2) 12 3 ≠ 0) else decide (bitsOf (d.arg 20 2) 7 8 ≠ 0)) || decide (2 ≤ d.arg 22 1), badArg := decide (4096 ≤ d.arg 18 2) || (!(bitAt (d.arg 20 2) 15) && (decide (96 < d.arg 20 2 % 128) || s.portInactive (d.arg 20 2 % 128))) }
      ∧ d.wf = true ∧ s.verBusy [.fdb (d.mac 12) (d.arg 18 2)] = false ∧ ((s.fdbEntry? (d.mac 12) (d.arg 18 2)).isSome = true ∨
      (fdbBuckets (d.mac 12, d.arg 18 2)).any (fun b => (fdbAt s.fdb.entries b).isNone) = true)) ∧
    (∃ (s : State) (d : CmdDesc), s.Up ∧ s.Accepts d 0xA802
      { fdbChecks d false 20 true with badArg := decide (4096 ≤ d.arg 18 2) || (s.fdbEntry? (d.mac 12) (d.arg 18 2)).isNone } ∧ d.wf =
      true ∧ s.verBusy [.fdb (d.mac 12) (d.arg 18 2)] = false) ∧
    (∃ (s : State) (d : CmdDesc), s.Up ∧ s.Accepts d 0xA803 { fdbChecks d false 20 false with badArg := decide (4096 ≤ d.arg 18 2) } ∧
      d.wf = true) ∧
    (∃ (s : State) (d : CmdDesc), s.Up ∧ s.Accepts d 0xA804
      { fdbChecks d false 17 true with absent := decide (d.arg 12 2 < 96) && !(s.portExists (d.arg 12 2)), badForm := (fdbChecks d false 17 true).badForm || decide (2 ≤ d.arg 16 1), badArg := (decide (96 < d.arg 12 2) && decide (d.arg 12 2 ≠ 0xFFFF)) || (decide (d.arg 12 2 < 96) && s.portInactive (d.arg 12 2)) || (decide (4096 ≤ d.arg 14 2) && decide (d.arg 14 2 ≠ 0xFFFF)) }
      ∧ d.wf = true ∧ s.fdb.retired = [] ∧ s.fdb.entries.length ≤ 4096 ∧ s.fdb.verFull = false) :=
  ⟨⟨{ wUp with fdb := { learnQ := [(3, [⟨5, 1, 95⟩])] } }, 3, ⟨5, 1, 95⟩, [], rfl, by decide +kernel⟩,
   ⟨{ wUp with fdb := { entries := [((5, 4095), { dest := 95, hit := false })] } }, 5, 4095, { dest := 95, hit := false }, rfl,
     by decide +kernel⟩,
   ⟨wUp, wCmd [0, 1, 2, 3, 4, 5, 0xFF, 0x0F, 95, 0, 1], rfl, by unfold State.Accepts; decide +kernel, by decide +kernel⟩,
   ⟨{ wUp with fdb := { entries := [((0x000102030405, 4095), { dest := 95 })] } }, wCmd [0, 1, 2, 3, 4, 5, 0xFF, 0x0F], rfl,
     by unfold State.Accepts; decide +kernel, by decide +kernel⟩,
   ⟨{ wUp with fdb := { entries := [((0x000102030405, 4095), { dest := 95 })] } }, wCmd [0, 1, 2, 3, 4, 5, 0xFF, 0x0F], rfl,
     by unfold State.Accepts; decide +kernel, by decide +kernel⟩,
   ⟨{ wUp with fdb := { entries := [((1, 4095), { dest := 95 }), ((2, 1), { dest := 96, static := true })] } }, wCmd [0xFF, 0xFF, 0xFF,
     0xFF, 0], rfl, by unfold State.Accepts; decide +kernel, by decide +kernel⟩⟩

/-- `FdbTables`: the hypotheses of each clause hold together somewhere. -/
theorem witness_FdbTables :
    (∃ (s : State) (d : CmdDesc), s.Up ∧ s.Accepts d 0xA805
      { fdbChecks d true 0 true with absent := !(d.badForm true) && (s.setAbsent (d.buf 2 13) || s.setAbsent (d.buf 15 13)), badForm := (fdbChecks d true 0 true).badForm || decide (2 ^ 97 ≤ d.buf 2 13) || decide (2 ^ 97 ≤ d.buf 15 13), badArg := decide (4096 ≤ d.buf 0 2) }
      ∧ d.wf = true ∧ s.verBusy [.vlan (d.buf 0 2)] = false) ∧
    (∃ (s : State) (d : CmdDesc), s.Up ∧ s.Accepts d 0xA806
      { fdbChecks d true 0 true with absent := !(d.badForm true) && s.setAbsent (d.buf 2 13), badForm := (fdbChecks d true 0 true).badForm || decide (2 ^ 97 ≤ d.buf 2 13), badArg := decide (4096 ≤ d.buf 0 2) }
      ∧ d.wf = true ∧ s.verBusy [.mcg (d.buf 0 2)] = false) ∧
    (∃ (s : State) (d : CmdDesc), s.Up ∧ s.Accepts d 0xA807
      { fdbChecks d true 0 true with absent := !(d.badForm true) && decide (d.clsEntry.port < 96) && !(s.portExists d.clsEntry.port), badForm := (fdbChecks d true 0 true).badForm || bitAt d.clsEntry.action 7 || decide (d.buf 20 12 ≠ 0), badArg := decide (16384 ≤ d.buf 0 2) || (decide (96 < d.clsEntry.port) && decide (d.clsEntry.port ≠ 0xFFFF)) || (decide (d.clsEntry.port < 96) && s.portInactive d.clsEntry.port) || decide (d.clsEntry.kind = 0) || decide (6 < d.clsEntry.kind) || (decide (4096 ≤ d.clsEntry.vid) && decide (d.clsEntry.vid ≠ 0xFFFF)) || decide (BitVec.ofNat 32 d.clsEntry.key &&& ~~~ keyBits d.clsEntry.kind ≠ 0) || decide (BitVec.ofNat 32 d.clsEntry.mask &&& ~~~ keyBits d.clsEntry.kind ≠ 0) || decide (1024 ≤ d.clsEntry.cbFn) || (decide (d.clsEntry.kind < 6) && decide (d.clsEntry.macHi ≠ 0)) }
      ∧ d.wf = true ∧ s.verBusy [.cls (d.buf 0 2)] = false) ∧
    (∃ (s : State) (d : CmdDesc), s.Up ∧ s.Accepts d 0xA808
      { fdbChecks d false 14 true with badArg := (Tab.find s.fdb.cls (d.arg 12 2)).isNone } ∧ d.wf = true ∧ Tab.find s.fdb.bound (d.arg
      12 2) = none ∧ s.verBusy [.cls (d.arg 12 2)] = false) ∧
    (∃ (s : State) (d : CmdDesc), s.Up ∧ s.Accepts d 0xA809
      { fdbChecks d false 30 true with absent := s.setAbsent (d.arg 20 10), badForm := (fdbChecks d false 30 true).badForm || decide (2 ≤ d.arg 18 1) || decide (d.arg 19 1 ≠ 0), badArg := decide (1024 ≤ d.arg 12 2) || decide (3 < d.arg 14 1) || decide (d.arg 15 1 < 2) || decide (128 < d.arg 15 1) || decide (d.arg 16 2 = 0) || decide (4 < (portsOf (d.arg 20 10)).length) }
      ∧ d.wf = true ∧ s.verBusy [.cb (d.arg 12 2)] = false) ∧
    (∃ (s : State) (f : Nat) (x : CbFn), s.Up ∧ Instr.wf (.cbRecoveryReset f) = true ∧ s.cbFn? f = some x ∧ x.type ≠ 0) :=
  ⟨⟨wUp, wExt (leBytes 4095 2 ++ leBytes (2 ^ 97 - 1) 13 ++ leBytes 1 13) 32, rfl, by unfold State.Accepts; decide +kernel,
     by decide +kernel⟩,
   ⟨wUp, wExt (leBytes 4095 2 ++ leBytes (2 ^ 97 - 1) 13) 32, rfl, by unfold State.Accepts; decide +kernel, by decide +kernel⟩,
   ⟨wUp, wExt (leBytes 16383 2 ++ leBytes 95 2 ++ [1, 0x7F, 0xFF, 0xFF] ++ leBytes 0xFF00FFFF 4 ++ leBytes 0xFF00FFFF 4 ++ leBytes 1023
     2) 32, rfl, by unfold State.Accepts; decide +kernel, by decide +kernel⟩,
   ⟨{ wUp with fdb := { cls := [(16383, { port := 0, kind := 1, action := 0, vid := 0, key := 0, mask := 0, cbFn := 0, macHi := 0 })] } },
     wCmd (leBytes 16383 2), rfl, by unfold State.Accepts; decide +kernel, by decide +kernel⟩,
   ⟨wUp, wCmd (leBytes 1023 2 ++ [1, 128, 1, 0, 1, 0] ++ leBytes (2 ^ 3 + 2 ^ 95) 10), rfl, by unfold State.Accepts; decide +kernel,
     by decide +kernel⟩,
   ⟨wUp.setCb 1023 { type := 1, hist := 16, resetMs := 1, pop := true, ports := 0, recov := some 5, history := 3 }, 1023,
     { type := 1, hist := 16, resetMs := 1, pop := true, ports := 0, recov := some 5, history := 3 }, rfl, by decide +kernel⟩⟩

/-- `ServoAndTimeSteps`: the hypotheses of each clause hold together somewhere. -/
theorem witness_ServoAndTimeSteps :
    (∃ (s : State) (off : Int) (id : Nat), s.Up ∧ s.ref.tsel = some id ∧ (s.cand id).st = .selected ∧ s.ref.stepPend = none ∧
      s.pair.follow = false ∧ s.apB Fld.tcoreCtrl_SERVO_EN = true ∧ (s.tcore.tstate = .acquire ∨ s.tcore.tstate = .locked) ∧ s.autoStep
      (off - s.ref.bias) = false) ∧
    (∃ (s : State) (off : Int) (id : Nat), s.Up ∧ s.ref.tsel = some id ∧ (s.cand id).st = .selected ∧ s.ref.stepPend = none ∧
      s.pair.follow = false ∧ s.apB Fld.tcoreCtrl_SERVO_EN = true ∧ (s.tcore.tstate = .acquire ∨ s.tcore.tstate = .locked) ∧ s.autoStep
      (off - s.ref.bias) = true) ∧
    (∃ (s : State) (id : Nat), s.Up ∧ s.ref.tsel = some id ∧ (s.cand id).st = .selected ∧ s.ref.stepPend = none ∧ s.apB
      Fld.tcoreCtrl_SERVO_EN = false) ∧
    (∃ (s : State) (d : CmdDesc), s.Up ∧ s.Accepts d 0xB001
      { unitChecks d false .tcore true [Rdy.tcore] with badForm := (unitChecks d false .tcore true [Rdy.tcore]).badForm || decide (4 ≤ d.arg 20 1) || !(d.zero 21 32), badArg := d.toRef && s.ref.stepPend.isNone }
      ∧ d.wf = true ∧ s.tcore.steps = [] ∧ d.atSec = false ∧ d.toRef = false) ∧
    (∃ (s : State) (d : CmdDesc) (id : _), s.Up ∧ s.Accepts d 0xB001
      { unitChecks d false .tcore true [Rdy.tcore] with badForm := (unitChecks d false .tcore true [Rdy.tcore]).badForm || decide (4 ≤ d.arg 20 1) || !(d.zero 21 32), badArg := d.toRef && s.ref.stepPend.isNone }
      ∧ d.wf = true ∧ s.tcore.steps = [] ∧ d.atSec = false ∧ d.toRef = true ∧ s.ref.stepPend = some id) ∧
    (∃ (s : State) (d : CmdDesc), s.Up ∧ s.Accepts d 0xB001
      { unitChecks d false .tcore true [Rdy.tcore] with badForm := (unitChecks d false .tcore true [Rdy.tcore]).badForm || decide (4 ≤ d.arg 20 1) || !(d.zero 21 32), badArg := d.toRef && s.ref.stepPend.isNone }
      ∧ d.wf = true ∧ s.tcore.steps = [] ∧ d.atSec = true) ∧
    (∃ (s : State) (d : CmdDesc), s.Up ∧ s.Accepts d 0xB001
      { unitChecks d false .tcore true [Rdy.tcore] with badForm := (unitChecks d false .tcore true [Rdy.tcore]).badForm || decide (4 ≤ d.arg 20 1) || !(d.zero 21 32), badArg := d.toRef && s.ref.stepPend.isNone }
      ∧ d.wf = true ∧ s.tcore.steps ≠ []) ∧
    (∃ (s : State) (d : CmdDesc), s.Up ∧ s.Accepts d 0xB002
      { unitChecks d false .tcore true [Rdy.tcore] with badForm := (unitChecks d false .tcore true [Rdy.tcore]).badForm || !(d.zero 18 32) }
      ∧ d.wf = true ∧ (s.apB Fld.tcoreCtrl_SERVO_EN = false ∨ (s.tcore.tstate ≠ .locked ∧ s.tcore.tstate ≠ .holdover))) ∧
    (∃ (s : State) (d : CmdDesc), s.Up ∧ s.Accepts d 0xB002
      { unitChecks d false .tcore true [Rdy.tcore] with badForm := (unitChecks d false .tcore true [Rdy.tcore]).badForm || !(d.zero 18 32) }
      ∧ d.wf = true ∧ s.apB Fld.tcoreCtrl_SERVO_EN = true ∧ (s.tcore.tstate = .locked ∨ s.tcore.tstate = .holdover)) ∧
    (∃ (s : State), s.Up ∧ s.isReady Rdy.tcore = true) ∧
    (∃ (s : State) (k : RegKey), s.Up ∧ s.isReady Rdy.tcore = true ∧ k ∈ s.waitingAt .sec (fun _ => true) ∧ k.pointMask .sec ≠ 0 ∧
      k.name ≠ .lnkFixAsym) ∧
    (∃ (s : State), s.Up ∧ s.isReady Rdy.tcore = true ∧ s.tcore.steps = []) ∧
    (∃ (s : State) (d : CmdDesc) (set : Bool), s.Up ∧ s.isReady Rdy.tcore = true ∧ s.tcore.steps = [⟨d, set⟩] ∧ (set = false → d.toRef
      = false)) :=
  ⟨⟨{ wSel wUp 102 with tcore := { tstate := .acquire, lockCnt := 15 } }, 3, 102, rfl, by decide +kernel⟩,
   ⟨wReg { wSel wUp 102 with tcore := { tstate := .acquire, acqFromFree := true, acqFirst := true } } ⟨.tcoreCtrl, 0, 0⟩ 0xFFFFFFFF,
     3000000000, 102, rfl, by decide +kernel⟩,
   ⟨wReg (wSel wUp 102) ⟨.tcoreCtrl, 0, 0⟩ 0, 102, rfl, by decide +kernel⟩,
   ⟨wUp, wCmd [0, 0, 1], rfl, by unfold State.Accepts; decide +kernel, by decide +kernel⟩,
   ⟨{ wSel wUp 102 with ref := { (wSel wUp 102).ref with stepPend := some 102 } }, wCmd [0, 0, 1, 0, 0, 0, 0, 0, 1], 102, rfl,
     by unfold State.Accepts; decide +kernel, by decide +kernel⟩,
   ⟨wUp, wCmd [0, 0, 1, 0, 0, 0, 0, 0, 2], rfl, by unfold State.Accepts; decide +kernel, by decide +kernel⟩,
   ⟨{ wUp with tcore := { steps := [⟨wCmd [], true⟩] } }, wCmd [0, 0, 1], rfl, by unfold State.Accepts; decide +kernel,
     by decide +kernel⟩,
   ⟨wUp, wCmd [1, 2], rfl, by unfold State.Accepts; decide +kernel, by decide +kernel⟩,
   ⟨{ wUp with tcore := { tstate := .locked } }, wCmd [1, 2], rfl, by unfold State.Accepts; decide +kernel, by decide +kernel⟩,
   ⟨{ wUp with clk := { wUp.clk with tcA := unitsPerS } }, rfl, by decide +kernel⟩,
   ⟨{ wUp with regs := { written := [(⟨.tcoreClassOvr, 0, 0⟩, 5)], pend := [{ key := ⟨.tcoreClassOvr, 0, 0⟩, points := [.sec] }] } },
     ⟨.tcoreClassOvr, 0, 0⟩, rfl, by decide +kernel⟩,
   ⟨{ wUp with clk := { wUp.clk with tcA := unitsPerS + 5 } }, rfl, by decide +kernel⟩,
   ⟨{ wUp with tcore := { steps := [⟨(wCmd [0, 0, 1, 0, 0, 0, 0, 0, 2] : CmdDesc), false⟩] } }, wCmd [0, 0, 1, 0, 0, 0, 0, 0, 2],
     false, rfl, by decide +kernel⟩⟩

/-- `StandbyAndSwap`: the hypotheses of each clause hold together somewhere. -/
theorem witness_StandbyAndSwap :
    (∃ (s : State) (err : Int), s.Up ∧ s.tcore.stbyIn = true ∧ err.natAbs ≤ 5 ∧ s.tcore.track = false) ∧
    (∃ (s : State) (err : Int), s.Up ∧ s.tcore.stbyIn = true ∧ err.natAbs ≤ 5 ∧ s.tcore.track = true) ∧
    (∃ (s : State) (err : Int), s.Up ∧ s.tcore.stbyIn = true ∧ 5 < err.natAbs) ∧
    (∃ (s : State), s.Up ∧ s.tcore.stbyIn = true ∧ s.tcore.track = true) ∧
    (∃ (s : State), s.Up ∧ (s.tcore.stbyIn && s.tcore.track) = false) ∧
    (∃ (s : State) (p : Path), s.Up ∧ s.Writable ⟨.tcoreSwap, 0, 0⟩ ∧ p.wf = true ∧ s.unlocked p = true ∧ s.tcore.stbyIn = true ∧
      s.tcore.swapPend = none ∧ 60 ≤ s.tcore.trackS) ∧
    (∃ (s : State) (p : Path), s.Up ∧ s.Writable ⟨.tcoreSwap, 0, 0⟩ ∧ p.wf = true ∧ s.unlocked p = true ∧ (s.tcore.stbyIn = false ∨
      s.tcore.swapPend ≠ none ∨ s.tcore.trackS < 60)) ∧
    (∃ (s : State) (p : Path), s.Up ∧ s.Writable ⟨.tcoreSwap, 0, 0⟩ ∧ p.wf = true ∧ s.unlocked p = true ∧ s.tcore.swapPend ≠ none) ∧
    (∃ (s : State) (p : Path), s.Up ∧ s.Writable ⟨.tcoreSwap, 0, 0⟩ ∧ p.wf = true ∧ s.unlocked p = true) ∧
    (∃ (s : State) (p : Path), s.Up ∧ s.Writable ⟨.tcoreSwap, 0, 0⟩ ∧ p.wf = true ∧ s.unlocked p = true ∧ s.tcore.stbyIn = false) ∧
    (∃ (s : State) (p : Path) (c : Instr), s.Up ∧ s.Writable ⟨.tcoreSwap, 0, 0⟩ ∧ p.wf = true ∧ s.unlocked p = false ∧ (c = .swapReq p
      ∨ c = .swapCancel p ∨ c = .stbyOut p ∨ c = .stbyIn p)) :=
  ⟨⟨wUp, 5, rfl, by decide +kernel⟩,
   ⟨{ wUp with tcore := { track := true, swapPend := some 7 } }, -5, rfl, by decide +kernel⟩,
   ⟨{ wUp with tcore := { track := true, swapPend := some 7 } }, -6, rfl, by decide +kernel⟩,
   ⟨{ wUp with tcore := { track := true, trackErr := some 3, swapPend := some 7 } }, rfl, by decide +kernel⟩,
   ⟨wUp, rfl, by decide +kernel⟩,
   ⟨{ wKey wUp .pcie with tcore := { track := true, trackS := 60 } }, .pcie, rfl, by unfold State.Writable; decide +kernel,
     by decide +kernel⟩,
   ⟨{ wKey wUp .i2c with tcore := { track := true, trackS := 60, swapPend := some 5 } }, .i2c, rfl,
     by unfold State.Writable; decide +kernel, by decide +kernel⟩,
   ⟨{ wKey wUp .i2c with tcore := { track := true, trackS := 60, swapPend := some 5 } }, .i2c, rfl,
     by unfold State.Writable; decide +kernel, by decide +kernel⟩,
   ⟨wKey wUp .pcie, .pcie, rfl, by unfold State.Writable; decide +kernel, by decide +kernel⟩,
   ⟨{ wKey wUp .pcie with tcore := { stbyIn := false } }, .pcie, rfl, by unfold State.Writable; decide +kernel, by decide +kernel⟩,
   ⟨wUp, .eng 0, .stbyOut (.eng 0 : Path), rfl, by unfold State.Writable; decide +kernel, by decide +kernel⟩⟩

/-- `PersistentWordsAndEventControl`: the hypotheses of each clause hold together somewhere. -/
theorem witness_PersistentWordsAndEventControl :
    (∃ (s : State) (p : Path) (w : Nat), s.Up ∧ p.wf = true ∧ w < 512 ∧ p ≠ .i2c ∧ s.unlocked p = true) ∧
    (∃ (s : State) (p : Path) (w : Nat), s.Up ∧ p.wf = true ∧ w < 512 ∧ p ≠ .i2c ∧ s.unlocked p = false) ∧
    (∃ (s : State) (w : Nat), s.Up ∧ w < 512) ∧
    (∃ (s : State) (w : Nat), s.Up ∧ w < 512) ∧
    (∃ (s : State) (code arg0 : Nat), s.Up ∧ Instr.wf (.evtSuppressWindow code arg0) = true) ∧
    (∃ (s : State) (p : Path), s.Up ∧ s.Writable ⟨.evtCtrl, 0, 0⟩ ∧ p.wf = true) ∧
    (∃ (s : State) (p : Path), s.Up ∧ s.Writable ⟨.evtCtrl, 0, 0⟩ ∧ p.wf = true) ∧
    (∃ (s : State) (p : Path), s.Up ∧ s.Writable ⟨.evtCtrl, 0, 0⟩ ∧ p.wf = true) :=
  ⟨⟨{ wKey wUp .pcie with pers := { wear := [(511, 199999)] } }, .pcie, 511, rfl, by decide +kernel⟩,
   ⟨wUp, .pcie, 511, rfl, by decide +kernel⟩,
   ⟨wUp, 511, rfl, by decide +kernel⟩,
   ⟨{ wUp with pers := { busy := [(511, 3), (2, 1)] } }, 511, rfl, by decide +kernel⟩,
   ⟨{ wUp with evt := { sup := [{ code := 0x1003, arg0 := 0, active := true, total := 3 }] } }, 0x1003, 0, rfl, by decide +kernel⟩,
   ⟨wUp, .pcie, rfl, by unfold State.Writable; decide +kernel, by decide +kernel⟩,
   ⟨wUp, .pcie, rfl, by unfold State.Writable; decide +kernel, by decide +kernel⟩,
   ⟨wUp, .pcie, rfl, by unfold State.Writable; decide +kernel, by decide +kernel⟩⟩

/-- `TimingMessages`: the hypotheses of each clause hold together somewhere. -/
theorem witness_TimingMessages :
    (∃ (s : State) (f : Nat) (m : PtpMsg) (fr : Frame), s.Up ∧ Instr.wf (.ptpMessageReceive f m) = true ∧ s.frame? f = some fr ∧
      fr.decided = false ∧ fr.toEngine = false ∧ fr.port = m.port ∧ (s.fdbState m.port = 0 ∨ fr.h.linkLocal = true) ∧ m.own = true) ∧
    (∃ (s : State) (f i e : Nat) (m : PtpMsg) (fr : Frame), s.Up ∧ Instr.wf (.ptpMessageReceive f m) = true ∧ s.frame? f = some fr ∧
      fr.decided = false ∧ fr.toEngine = false ∧ fr.port = m.port ∧ (s.fdbState m.port = 0 ∨ fr.h.linkLocal = true) ∧ m.own = false ∧
      s.claim m = some i ∧ (s.obj .tchan i).phase = .active ∧ (s.tchan i).engine = some e ∧ s.engRuns e = true ∧ s.overRate i m.kind =
      false ∧ ((s.tchan i).role = 0 ∨ (m.kind = 0 ∧ (s.tchan i).state = .listening) ∨ (m.kind = 11 ∧ (s.tchan i).state = .listening ∧
      s.taskHeld 3 = false))) ∧
    (∃ (s : State) (f i : Nat) (m : PtpMsg) (fr : Frame), s.Up ∧ Instr.wf (.ptpMessageReceive f m) = true ∧ s.frame? f = some fr ∧
      fr.decided = false ∧ fr.toEngine = false ∧ fr.port = m.port ∧ (s.fdbState m.port = 0 ∨ fr.h.linkLocal = true) ∧ m.own = false ∧
      s.claim m = some i ∧ (s.obj .tchan i).phase = .suspended) ∧
    (∃ (s : State) (f : Nat) (m : PtpMsg) (fr : Frame), s.Up ∧ Instr.wf (.ptpMessageReceive f m) = true ∧ s.frame? f = some fr ∧
      ((s.fdbState m.port ≠ 0 ∧ fr.h.linkLocal = false) ∨ (m.own = false ∧ s.claim m = none))) ∧
    (∃ (s : State) (i : Nat) (m : ChanSend), s.Up ∧ Instr.wf (.tchanSend i m) = true ∧ s.chanSends i m.kind = true) :=
  ⟨⟨wRx wUp, 0, { port := 3, domain := 24, transport := 0, kind := 0, srcPort := 0, own := true },
     { wFrame with port := 3, decided := false }, rfl, by decide +kernel⟩,
   ⟨wEng0 (wRx (wChan wUp { engine := some 0, role := 1 })), 0, 0, 0,
     { port := 3, domain := 24, transport := 0, kind := 0, srcPort := 0 }, { wFrame with port := 3, decided := false }, rfl,
     by decide +kernel⟩,
   ⟨(wRx (wChan wUp {})).setObj .tchan 0 { phase := .suspended, args := [3, 0, 24, 1, 1, 0, 0xFC, 0xFC] ++ List.replicate 12 0 }, 0, 0,
     { port := 3, domain := 24, transport := 0, kind := 0, srcPort := 0 }, { wFrame with port := 3, decided := false }, rfl,
     by decide +kernel⟩,
   ⟨wRx wUp, 0, { port := 3, domain := 24, transport := 0, kind := 0, srcPort := 0 }, { wFrame with port := 3, decided := false }, rfl,
     by decide +kernel⟩,
   ⟨(wEng0 (wChan wUp { engine := some 0, role := 1, state := .selected })).setLane 3 { lock := true }, 0, { kind := 1 }, rfl,
     by decide +kernel⟩⟩

/-- `TimingChannelsAndPhases`: the hypotheses of each clause hold together somewhere. -/
theorem witness_TimingChannelsAndPhases :
    (∃ (s : State) (i : Nat), s.Up ∧ (∀ id, s.candUsable id = false) ∧ i < 4096 ∧ (s.obj? .tchan i).isSome = true ∧ (s.obj .tchan
      i).phase = .active ∧ (s.tchan i).state = .listening ∧ (s.tchan i).heardAnnounce = true ∧ (s.tchan i).heardSync = true ∧ (s.tchan
      i).role = 1 ∧ s.candEn (s.chanId i) = true ∧ s.timeRankOk (s.chanId i) = true ∧ s.candPrio (s.chanId i) ≠ 15 ∧ s.ref.tsel = none
      ∧ s.ref.fsel = none ∧ s.ref.stepPend = none ∧ s.ref.selDue = false ∧ s.pair.follow = false ∧ s.tcore.tstate = .freerun ∧ s.apB
      Fld.tcoreCtrl_SERVO_EN = true) ∧
    (∃ (s : State) (i : Nat), s.Up ∧ i < 4096 ∧ (s.obj? .tchan i).isSome = true ∧ ((s.tchan i).state = .listening ∨ (s.tchan i).state =
      .qualified) ∧ (s.cand (s.chanId i)).st = .disabled) ∧
    (∃ (s : State) (i : Nat), s.Up ∧ (∀ id, id ≠ s.chanId i → s.candUsable id = false) ∧ i < 4096 ∧ (s.obj? .tchan i).isSome = true ∧
      (s.tchan i).state = .selected ∧ s.ref.tsel = some (s.chanId i) ∧ (s.cand (s.chanId i)).st = .selected ∧ s.ref.fsel = none ∧
      s.ref.stepPend = none ∧ s.ref.selDue = false ∧ s.pair.follow = false ∧ s.tcore.tstate = .locked ∧ s.apB Fld.tcoreCtrl_SERVO_EN =
      true) ∧
    (∃ (s : State) (i e : Nat), s.Up ∧ (s.inUse .tchan).filter (fun i => (s.tchan i).engine.isNone) = [i] ∧ s.placeFor i ((s.obj .tchan
      i).chanLoad (s.tchan i).role) = some e) ∧
    (∃ (s : State) (p : Nat) (phi old : Int), s.Up ∧ p < 96 ∧ (s.lnkPort p).phi = some old ∧ (s.lnkPort p).fresh = false ∧ s.lnkOff p =
      false ∧ (s.lnkPort p).st ≠ .active ∧ (phi - old).natAbs ≤ 1600) ∧
    (∃ (s : State) (p : Nat) (phi old : Int), s.Up ∧ p < 96 ∧ (s.lnkPort p).phi = some old ∧ (s.lnkPort p).fresh = false ∧ 1600 < (phi
      - old).natAbs) ∧
    (∃ (s : State) (p : Nat), s.Up ∧ p < 96) ∧
    (∃ (s : State) (a : Nat), s.Up ∧ a < 96 ∧ (s.lnkPair a).hold = true) :=
  ⟨⟨wChan wUp { role := 1, heardAnnounce := true, heardSync := true, qr := 1 }, 0, rfl, cands_none rfl, by decide +kernel⟩,
   ⟨{ wChan wUp { state := .qualified, role := 1 } with ref := { cands := [(0x20000000, { st := .disabled })] } }, 0, rfl,
     by decide +kernel⟩,
   ⟨{ wSel (wChan wUp { state := .selected, role := 1 }) 0x20000000 with tcore := { tstate := .locked } }, 0, rfl, cands_one rfl,
     by decide +kernel⟩,
   ⟨wEng0 (wChan wUp { state := .lost, role := 1 }), 0, 0, rfl, by decide +kernel⟩,
   ⟨(wReg (wLane95 { sig := true, lock := true, train := .running, phase := true }) ⟨.lnkPortCfg, 95, 0⟩ 1).setLnk 95
     { phi := some 100, fresh := false, st := .tracking }, 95, 1700, 100, rfl, by decide +kernel⟩,
   ⟨wUp.setLnk 95 { phi := some 100, fresh := false }, 95, 1701, 100, rfl, by decide +kernel⟩,
   ⟨wUp.setLnk 95 { phi := some 100, fresh := false }, 95, rfl, by decide +kernel⟩,
   ⟨wUp.setPair 95 { hold := true }, 95, rfl, by decide +kernel⟩⟩

/-- `Candidates`: the hypotheses of each clause hold together somewhere. -/
theorem witness_Candidates :
    (∃ (s : State) (id : Nat) (ppb : Int), s.Up ∧ id < 100 ∧ s.candEn id = true ∧ s.candAvail id = true ∧ s.sampleCause id true ppb = 0
      ∧ (s.cand id).st = .absent) ∧
    (∃ (s : State) (id : Nat), s.Up ∧ s.Alone id ∧ id < 100 ∧ s.candEn id = true ∧ s.candAvail id = true ∧ (s.cand id).st = .qualified) ∧
    (∃ (s : State) (id : Nat), s.Up ∧ id < 100 ∧ s.candEn id = true ∧ s.candAvail id = true ∧ (s.cand id).st = .selected ∧ s.ref.tsel ≠
      some id ∧ s.ap Fld.refCfg_HOLDOFF_MS ≠ 0) ∧
    (∃ (s : State) (id : Nat), s.Up ∧ s.Alone id ∧ id < 100 ∧ (s.cand id).st = .qualifying ∧ (s.cand id).failing = false ∧
      s.standingCause id = 0 ∧ s.candPrio id ≠ 15) ∧
    (∃ (s : State) (id : Nat), s.Up ∧ (∀ j, j ≠ id → s.candUsable j = false) ∧ id < 100 ∧ (s.cand id).st = .holdoff ∧ s.ref.fsel = some
      id ∧ s.ref.tsel = none ∧ s.ref.stepPend = none) ∧
    (∃ (s : State) (id : Nat), s.Up ∧ id < 100 ∧ (s.cand id).st = .failed ∧ (s.cand id).failing = false ∧ s.candAvail id = true ∧
      s.standingCause id = 0) ∧
    (∃ (s : State) (p ssm : Nat), s.Up ∧ p < 96 ∧ ssm < 16 ∧ (s.lane p).lock = true ∧ (∀ n, n < 96 → s.portOfLane n = p → (s.cand n).st
      ≠ .qualifying ∧ (s.cand n).st ≠ .qualified ∧ (s.cand n).st ≠ .selected ∧ (s.cand n).st ≠ .holdoff)) ∧
    (∃ (s : State) (p : Nat), s.Up ∧ s.Alone p ∧ p < 96 ∧ s.lanesOfPort p = [p] ∧ (s.cand p).st = .qualified) ∧
    (∃ (s : State) (p n ssm : Nat) (essm : Option Nat), s.Up ∧ p < 96 ∧ ssm < 16 ∧ (s.lane p).lock = true ∧ s.lanesOfPort p = [n] ∧
      s.ref.fsel = some n ∧ (s.cand n).st = .holdoff ∧ (s.cand n).cause = 4 ∧ s.candOvr n = none ∧ s.candUnitAbsent n = false ∧ qrOfSsm
      ssm essm < 15 ∧ qrOfSsm ssm essm ≤ s.ap Fld.refQlCfg_F_QL_MIN) ∧
    (∃ (s : State) (p : Nat), s.Up ∧ p < 96) ∧
    (∃ (s : State) (n i : Nat) (off x : Int), s.Up ∧ n < 2 ∧ x = modSecond (off + psToFrac (s.apI Fld.refInOfs_VAL (100 + n))) ∧
      (s.cand (100 + n)).st = .qualifying ∧ (s.cand (100 + n)).pulses < 15 ∧ s.candEn (100 + n) = true ∧ s.ref.tsel ≠ some (100 + n) ∧
      s.ref.stepPend = none ∧ ((i : Int) - 1000000000).natAbs ≤ 10000 ∧ s.standingCause (100 + n) = 0) ∧
    (∃ (s : State) (n : Nat), s.Up ∧ s.Alone (100 + n) ∧ n < 2 ∧ (s.cand (100 + n)).st = .qualifying ∧ s.candEn (100 + n) = true) ∧
    (∃ (s : State) (n i : Nat), s.Up ∧ s.Alone (100 + n) ∧ n < 2 ∧ (s.cand (100 + n)).st = .qualifying ∧ s.candEn (100 + n) = true ∧
      10000 < ((i : Int) - 1000000000).natAbs) :=
  ⟨⟨{ (wCand (wLanes.setLane 3 { sig := true, lock := true, offered := true }) 3 {}) with clk := wUp.clk }, 3, 10, rfl,
     by decide +kernel⟩,
   ⟨wCand (wLanes.setLane 3 { sig := true, lock := true, offered := true }) 3 { st := .qualified }, 3, rfl, ⟨rfl, rfl, rfl, cands_one
     rfl⟩, by decide +kernel⟩,
   ⟨{ (wCand (wLanes.setLane 3 { sig := true, lock := true, offered := true }) 3 { st := .selected }) with tcore := { tstate := .locked } },
     3, rfl, by decide +kernel⟩,
   ⟨wCand (wLanes.setLane 3 { sig := true, lock := true, offered := true }) 3 { st := .qualifying, samples := 300 }, 3, rfl, ⟨rfl, rfl,
     rfl, cands_one rfl⟩, by decide +kernel⟩,
   ⟨{ (wCand wLanes 3 { st := .holdoff, cause := 1, failing := true }) with ref := { (wCand wLanes 3 { st := .holdoff, cause := 1, failing := true }).ref with fsel := some 3 } },
     3, rfl, cands_one rfl, by decide +kernel⟩,
   ⟨wCand (wLanes.setLane 3 { sig := true, lock := true, offered := true }) 3 { st := .failed }, 3, rfl, by decide +kernel⟩,
   ⟨wLanes.setLane 3 { sig := true, lock := true, offered := true }, 3, 4, rfl, by decide +kernel⟩,
   ⟨wCand (wLanes.setLane 3 { sig := true, lock := true, offered := true }) 3 { st := .qualified }, 3, rfl, ⟨rfl, rfl, rfl, cands_one
     rfl⟩, by decide +kernel⟩,
   ⟨{ (wCand (wLanes.setLane 3 { sig := true, lock := true }) 3 { st := .holdoff, cause := 4, failing := true }) with ref := { (wCand wLanes 3 { st := .holdoff, cause := 4, failing := true }).ref with fsel := some 3 } },
     3, 3, 2, none, rfl, by decide +kernel⟩,
   ⟨wUp, 3, rfl, by decide +kernel⟩,
   ⟨wCand (wReg wUp ⟨.refCandCfg, 101, 0⟩ 0x871) 101 { st := .qualifying, pulses := 3 }, 1, 1000000000, 65536, modSecond ((65536 : Int)
     + psToFrac ((wCand (wReg wUp ⟨.refCandCfg, 101, 0⟩ 0x871) 101 { st := .qualifying, pulses := 3 } : State).apI Fld.refInOfs_VAL
     (100 + (1 : Nat)))), rfl, by decide +kernel⟩,
   ⟨wCand (wReg wUp ⟨.refCandCfg, 101, 0⟩ 0x871) 101 { st := .qualifying, pulses := 3 }, 1, rfl, ⟨rfl, rfl, rfl, cands_one rfl⟩,
     by decide +kernel⟩,
   ⟨wCand (wReg wUp ⟨.refCandCfg, 101, 0⟩ 0x871) 101 { st := .qualifying, pulses := 3 }, 1, 1000010001, rfl, ⟨rfl, rfl, rfl, cands_one
     rfl⟩, by decide +kernel⟩⟩

/-- `HoldoverAndRefCommands`: the hypotheses of each clause hold together somewhere. -/
theorem witness_HoldoverAndRefCommands :
    (∃ (s : State) (temp : Int) (e : Episode) (s' : State), s.Up ∧ s.tcore.tstate = .holdover ∧ s.pair.follow = false ∧ s.ref.ep = some
      e ∧ s' = { s with ref := { s.ref with dieTemp := temp } }) ∧
    (∃ (s : State), s.Up ∧ s.tcore.tstate ≠ .holdover) ∧
    (∃ (s s' : State) (temp : Int), s.Up ∧ s.apB Fld.refMdlCfg_TEMP_SRC = false ∧ s.learning = true ∧ s' =
      { s with ref := { s.ref with dieTemp := temp } }) ∧
    (∃ (s : State), s.Up ∧ s.apB Fld.refMdlCfg_TEMP_SRC = true) ∧
    (∃ (s : State), s.Up ∧ s.Writable ⟨.refTempExt, 0, 0⟩) ∧
    (∃ (s : State) (freq : Bool) (v : Word) (k : RegKey), s.Up ∧ s.Writable k ∧ s.Alone noCand ∧ k = ⟨if freq then .refPrefF else
      .refPrefT, 0, 0⟩ ∧ s.prefBad v.toNat = false ∧ s.candUsable noCand = false) ∧
    (∃ (s : State) (freq : Bool) (v : Word) (k : RegKey), s.Up ∧ s.Writable k ∧ k = ⟨if freq then .refPrefF else .refPrefT, 0, 0⟩ ∧
      s.prefBad v.toNat = true) ∧
    (∃ (s : State) (d : CmdDesc), s.Up ∧ s.Accepts d 0xB801
      { unitChecks d false .ref true [Rdy.ref] with absent := s.candUnitAbsent (d.arg 12 4), badForm := (unitChecks d false .ref true [Rdy.ref]).badForm || decide (4 ≤ d.arg 17 1) || !(d.zero 19 32), stale := candIsChan (d.arg 12 4) && s.stale .tchan (BitVec.ofNat 32 (d.arg 12 4)), badArg := !(decide (d.arg 12 4 < 103) || candIsChan (d.arg 12 4)) || decide (15 < d.arg 16 1) || decide (15 < d.arg 18 1) }
      ∧ d.wf = true ∧ (d.arg 12 4 < 103 → s.regs.stopped.contains ⟨.refCandCfg, d.arg 12 4, 0⟩ = false)) ∧
    (∃ (s : State) (d : CmdDesc), s.Up ∧ s.Accepts d 0xB802
      { unitChecks d false .ref true [Rdy.ref] with badForm := (unitChecks d false .ref true [Rdy.ref]).badForm || decide (2 ≤ d.arg 12 1) || !(d.zero 13 32), badArg := s.ref.stepPend.isNone && decide (s.ref.bias = 0) }
      ∧ d.wf = true ∧ s.ref.stepPend = none) ∧
    (∃ (s : State) (d : CmdDesc), s.Up ∧ s.Accepts d 0xB803
      { unitChecks d false .ref true [Rdy.ref] with badForm := (unitChecks d false .ref true [Rdy.ref]).badForm || !(d.zero 12 32) } ∧
      d.wf = true) :=
  ⟨⟨{ wUp with tcore := { tstate := .holdover }, ref := { ep := some { fe := 5, te := 30, e0 := 10, e := 10, mdl := {}, mdlValid := false } } },
     31, { fe := 5, te := 30, e0 := 10, e := 10, mdl := {}, mdlValid := false },
     { ({ wUp with tcore := { tstate := .holdover }, ref := { ep := some { fe := 5, te := 30, e0 := 10, e := 10, mdl := {}, mdlValid := false } } } : State) with ref := { ({ wUp with tcore := { tstate := .holdover }, ref := { ep := some { fe := 5, te := 30, e0 := 10, e := 10, mdl := {}, mdlValid := false } } } : State).ref with dieTemp := (31 : Int) } },
     rfl, by decide +kernel⟩,
   ⟨wUp, rfl, by decide +kernel⟩,
   ⟨wReg { wTasks (wSel wUp 102) with tcore := { tstate := .locked }, ref := { (wSel wUp 102).ref with lockedS := 700, sets := [] } }
     ⟨.refQlCfg, 0, 0⟩ 0x000F0AFF,
     { (wReg { wTasks (wSel wUp 102) with tcore := { tstate := .locked }, ref := { (wSel wUp 102).ref with lockedS := 700, sets := [] } } ⟨.refQlCfg, 0, 0⟩ 0x000F0AFF : State) with ref := { (wReg { wTasks (wSel wUp 102) with tcore := { tstate := .locked }, ref := { (wSel wUp 102).ref with lockedS := 700, sets := [] } } ⟨.refQlCfg, 0, 0⟩ 0x000F0AFF : State).ref with dieTemp := (30 : Int) } },
     30, rfl, by decide +kernel⟩,
   ⟨wReg wUp ⟨.refMdlCfg, 0, 0⟩ 0x00030000, rfl, by decide +kernel⟩,
   ⟨wUp, rfl, by unfold State.Writable; decide +kernel⟩,
   ⟨wUp, true, 3, ⟨.refPrefF, 0, 0⟩, rfl, by unfold State.Writable; decide +kernel, ⟨rfl, rfl, rfl, fun j _ => cands_none rfl j⟩,
     by decide +kernel⟩,
   ⟨wUp, false, 200, ⟨.refPrefT, 0, 0⟩, rfl, by unfold State.Writable; decide +kernel, by decide +kernel⟩,
   ⟨wUp, wCmd [3, 0, 0, 0, 5, 1, 9], rfl, by unfold State.Accepts; decide +kernel, by decide +kernel⟩,
   ⟨{ wUp with ref := { bias := 5 } }, wCmd [1], rfl, by unfold State.Accepts; decide +kernel, by decide +kernel⟩,
   ⟨wUp, wCmd [], rfl, by unfold State.Accepts; decide +kernel, by decide +kernel⟩⟩

/-- `PllStatesAndPpsOutputs`: the hypotheses of each clause hold together somewhere. -/
theorem witness_PllStatesAndPpsOutputs :
    (∃ (s : State) (x : Nat), s.Up ∧ x < 4) ∧
    (∃ (s : State) (x : Nat), s.Up ∧ x < 4) ∧
    (∃ (s : State) (x cause : Nat) (e : Int), s.Up ∧ Instr.wf (.pllBypassEntry x cause e) = true) ∧
    (∃ (s : State), s.Up ∧ s.pll.refclkOk = true) ∧
    (∃ (s : State) (x : Nat) (d : CmdDesc), s.Up ∧ x < 4 ∧ d.wf = true ∧ (s.pllOf x).st = .bypass ∧ (s.pllOf x).bg = .locked ∧ s.apB
      Fld.pllCfg_AUTO_RET x = true ∧ s.pllInput x = true) ∧
    (∃ (s : State) (x : Nat) (d : CmdDesc), s.Up ∧ s.Accepts d 0xBA04
      { unitChecks d false .pll true [Rdy.pll] with badForm := d.badForm false || decide (d.handle ≠ 0) || !(d.zero 13 32), badArg := decide (3 < d.arg 12 1) }
      ∧ x < 4 ∧ d.wf = true ∧ (s.pllOf x).st = .bypass ∧ (s.pllOf x).bg = .locked ∧ d.arg 12 1 = x) ∧
    (∃ (s : State) (d : CmdDesc), s.Up ∧ s.Accepts d 0xBA04
      { unitChecks d false .pll true [Rdy.pll] with badForm := d.badForm false || decide (d.handle ≠ 0) || !(d.zero 13 32), badArg := decide (3 < d.arg 12 1) }
      ∧ d.wf = true ∧ ¬ ((s.pllOf (d.arg 12 1)).st = .bypass ∧ (s.pllOf (d.arg 12 1)).bg = .locked)) ∧
    (∃ (s : State) (j : Nat), s.Up ∧ j < 2) ∧
    (∃ (s : State) (j : Nat), s.Up ∧ j < 2 ∧ (s.ppsOut j).high = true) ∧
    (∃ (s : State) (j : Nat), j < 2 ∧ s.pwr.inReset = true ∧ s.pwr.keepTime = true ∧ s.apB Fld.pllPpsCfg_EN j = true ∧ s.squelchCond j
      = false ∧ (s.ppsOut j).squelched = false ∧ (s.ppsOut j).high = false ∧ (s.ppsOut j).ended = none) :=
  ⟨⟨wPll 1 { st := .acq }, 1, rfl, by decide +kernel⟩,
   ⟨wPll 1 { st := .phase }, 1, rfl, by decide +kernel⟩,
   ⟨wPll 1 { st := .locked }, 1, 1, 7, rfl, by decide +kernel⟩,
   ⟨wPll 1 { st := .locked }, rfl, by decide +kernel⟩,
   ⟨wReg (wPll 1 { st := .bypass, bg := .locked }) ⟨.pllCfg, 1, 0⟩ 0xFFFFFFFE, 1, wCmd [], rfl, by decide +kernel⟩,
   ⟨wPll 1 { st := .bypass, bg := .locked }, 1, wCmd [1], rfl, by unfold State.Accepts; decide +kernel, by decide +kernel⟩,
   ⟨wPll 1 { st := .locked }, wCmd [1], rfl, by unfold State.Accepts; decide +kernel, by decide +kernel⟩,
   ⟨wReg wUp ⟨.pllPpsCfg, 1, 0⟩ 0xFFFFFFFF, 1, rfl, by decide +kernel⟩,
   ⟨{ wUp with pll := { wUp.pll with pps := [(1, { high := true })] } }, 1, rfl, by decide +kernel⟩,
   ⟨wReg { wUp with pwr := { wUp.pwr with inReset := true, keepTime := true } } ⟨.pllPpsCfg, 1, 0⟩ 0xFFFFFFFF, 1, by decide +kernel⟩⟩

/-- `Ramps`: the hypotheses of each clause hold together somewhere. -/
theorem witness_Ramps :
    (∃ (s : State) (d : CmdDesc), s.Up ∧ s.Accepts d 0xBA01
      { unitChecks d true .pll true [Rdy.pll] with absent := d.buf 0 1 == 0 && (List.range 12).any (fun g => bitAt (d.buf 4 2) g && decide (s.variant.groups ≤ g)), badForm := d.badForm true || decide (d.handle ≠ 0) || d.rampReserved, badArg := decide (3 < d.buf 0 1) || d.buf 1 1 == 0 || decide (16 < d.buf 1 1) || decide (2 < d.buf 2 1) || decide (d.extLen < 8 + 8 * d.buf 1 1) || (d.buf 0 1 != 0 && d.buf 4 2 != 0) || ((List.range (d.buf 1 1)).map d.rampSeg).any (fun g => g.durMs == 0) }
      ∧ d.wf = true) ∧
    (∃ (s : State) (d : CmdDesc), s.Up ∧ s.Accepts d 0xBA02
      { unitChecks d false .pll true [Rdy.pll] with badForm := d.badForm false || decide (d.handle ≠ 0) || !(d.zero 14 32), badArg := decide (3 < d.arg 12 1) || decide (2 < d.arg 13 1) || (d.arg 13 1 == 0 && (s.pllOf (d.arg 12 1)).ramp.segs.isEmpty) }
      ∧ Instr.wf (.rampStart d) = true ∧ d.arg 13 1 = 0 ∧ (s.pllOf (d.arg 12 1)).st = .locked) ∧
    (∃ (s : State) (d : CmdDesc), s.Up ∧ s.Accepts d 0xBA02
      { unitChecks d false .pll true [Rdy.pll] with badForm := d.badForm false || decide (d.handle ≠ 0) || !(d.zero 14 32), badArg := decide (3 < d.arg 12 1) || decide (2 < d.arg 13 1) || (d.arg 13 1 == 0 && (s.pllOf (d.arg 12 1)).ramp.segs.isEmpty) }
      ∧ Instr.wf (.rampStopHold d) = true ∧ d.arg 13 1 = 1) ∧
    (∃ (s : State) (d : CmdDesc), s.Up ∧ s.Accepts d 0xBA02
      { unitChecks d false .pll true [Rdy.pll] with badForm := d.badForm false || decide (d.handle ≠ 0) || !(d.zero 14 32), badArg := decide (3 < d.arg 12 1) || decide (2 < d.arg 13 1) || (d.arg 13 1 == 0 && (s.pllOf (d.arg 12 1)).ramp.segs.isEmpty) }
      ∧ Instr.wf (.rampStopZero d) = true ∧ d.arg 13 1 = 2) ∧
    (∃ (s : State) (x : Nat) (r : Ramp) (g : RampSeg) (e : Int), s.Up ∧ x < 4 ∧ r = (s.pllOf x).ramp ∧ r.now? = some g ∧ e = clampInt
      (rampRange x).1 (rampRange x).2 (if g.hold || r.held then r.x else r.x + g.slope * ((g.durMs - r.doneMs : Nat) : Int))) ∧
    (∃ (s : State) (x : Nat) (r : Ramp) (g : RampSeg), s.Up ∧ x < 4 ∧ r = (s.pllOf x).ramp ∧ r.now? = some g ∧ g.hold = false ∧ g.slope
      ≠ 0 ∧ r.held = false) ∧
    (∃ (s : State) (d : CmdDesc), s.Up ∧ s.Accepts d 0xBA03
      { unitChecks d false .pll true [Rdy.pll] with badForm := d.badForm false || decide (d.handle ≠ 0) || !(d.zero 13 32), badArg := !(d.arg 12 1 == 1 || d.arg 12 1 == 2) || s.pllSrc (d.arg 12 1) != 0 }
      ∧ d.wf = true) :=
  ⟨⟨wPll 0 { st := .locked }, wExt wRampBuf 32, rfl, by unfold State.Accepts; decide +kernel, by decide +kernel⟩,
   ⟨wPll 0 { st := .locked, ramp := { wRampVal with run := false } }, wCmd [0, 0], rfl, by unfold State.Accepts; decide +kernel,
     by decide +kernel⟩,
   ⟨wPll 0 { st := .locked, ramp := wRampVal }, wCmd [0, 1], rfl, by unfold State.Accepts; decide +kernel, by decide +kernel⟩,
   ⟨wPll 0 { st := .locked, ramp := wRampVal }, wCmd [0, 2], rfl, by unfold State.Accepts; decide +kernel, by decide +kernel⟩,
   ⟨wPll 0 { st := .locked, ramp := wRampVal }, 0, wRampVal, ⟨1000, 100, false⟩, clampInt (rampRange (0 : Nat)).1 (rampRange (0 :
     Nat)).2 (if (⟨1000, 100, false⟩ : RampSeg).hold || (wRampVal : Ramp).held then (wRampVal : Ramp).x else (wRampVal : Ramp).x +
     (⟨1000, 100, false⟩ : RampSeg).slope * (((⟨1000, 100, false⟩ : RampSeg).durMs - (wRampVal : Ramp).doneMs : Nat) : Int)), rfl,
     by decide +kernel⟩,
   ⟨wPll 0 { st := .locked, ramp := wRampVal }, 0, wRampVal, ⟨1000, 100, false⟩, rfl, by decide +kernel⟩,
   ⟨wPll 1 { st := .locked }, wCmd [1], rfl, by unfold State.Accepts; decide +kernel, by decide +kernel⟩⟩

/-- `SatelliteChannels`: the hypotheses of each clause hold together somewhere. -/
theorem witness_SatelliteChannels :
    (∃ (s : State) (c : Nat), s.Up ∧ c < 64 ∧ (s.gnssCh c).st = .pullIn ∧ s.gnssSignal c = true) ∧
    (∃ (s : State) (c : Nat), s.Up ∧ c < 64 ∧ (s.gnssCh c).st = .pullIn) ∧
    (∃ (s : State) (c : Nat), s.Up ∧ c < 64 ∧ (s.gnssCh c).st = .track) ∧
    (∃ (s : State) (c : Nat), s.Up ∧ c < 64 ∧ (s.gnssCh c).tracking = true) ∧
    (∃ (s : State) (c : Nat), s.Up ∧ c < 64 ∧ (s.gnssCh c).st = .lost) ∧
    (∃ (s : State) (c : Nat), s.Up ∧ c < 64 ∧ (s.gnssCh c).st = .lost ∧ s.gnssSignal c = true) ∧
    (∃ (s : State) (c : Nat), s.Up ∧ s.Writable ⟨.gnssChCfg, c, 0⟩ ∧ c < 64 ∧ s.gnssOn = true ∧ (∀ k, k ∈ bandChans (c / 32) → k ≠ c →
      s.gnssSat k = none)) ∧
    (∃ (s : State) (c k : Nat) (v : Word), s.Up ∧ s.Writable ⟨.gnssChCfg, c, 0⟩ ∧ c < 64 ∧ k ∈ bandChans (c / 32) ∧ k ≠ c ∧ s.gnssSat k
      = some (fieldOf v 8 1, fieldOf v 0 8) ∧ s.regs.stopped = [] ∧ fieldOf v 10 1 = 1) ∧
    (∃ (s : State) (e c : Nat) (v : Word), s.Up ∧ s.Writable ⟨.gnssChCfg, c, 0⟩ ∧ Instr.wf (.gnssChBind (.eng e) c v) = true ∧ s.apB
      Fld.gnssChCfg_MANUAL c = true) :=
  ⟨⟨wGnss 3 { st := .pullIn }, 3, rfl, by decide +kernel⟩,
   ⟨wGnss 3 { st := .pullIn }, 3, rfl, by decide +kernel⟩,
   ⟨wGnss 3 { st := .track }, 3, rfl, by decide +kernel⟩,
   ⟨wGnss 3 { st := .track, cn0 := 40 }, 3, rfl, by decide +kernel⟩,
   ⟨wGnss 3 { st := .lost }, 3, rfl, by decide +kernel⟩,
   ⟨wGnss 3 { st := .lost }, 3, rfl, by decide +kernel⟩,
   ⟨wUp, 3, rfl, by unfold State.Writable; decide +kernel, by decide +kernel⟩,
   ⟨wGnss 3 {}, 5, 3, 0x0A050603, rfl, by unfold State.Writable; decide +kernel, by decide +kernel⟩,
   ⟨wReg wUp ⟨.gnssChCfg, 3, 0⟩ 0x0A050603, 1, 3, 5, rfl, by unfold State.Writable; decide +kernel, by decide +kernel⟩⟩

/-- `SatelliteReception`: the hypotheses of each clause hold together somewhere. -/
theorem witness_SatelliteReception :
    (∃ (s : State), s.Up ∧ s.gnssOn = true) ∧
    (∃ (s : State) (ppm : Int), s.Up ∧ s.gnssOn = true ∧ s.padIn 12 = true ∧ ppm.natAbs ≤ 500) ∧
    (∃ (s : State) (l1 l5 : List Nat) (m1 m5 : Nat), s.Up ∧ s.gnssOn = true ∧ s.padIn 12 = true ∧ l1.length = 4 ∧ l5.length = 4 ∧ m1 =
      sampleMag (s.ap Fld.gnssFeCfg_L1_FMT) l1 ∧ m5 = sampleMag (s.ap Fld.gnssFeCfg_L5_FMT) l5) ∧
    (∃ (s : State) (m : GnssMeas) (ps : Nat) (x : GnssCh), s.Up ∧ m.chan < 64 ∧ ps ≤ 15274 ∧ s.gnssOn = true ∧ (s.gnss.bursting = true
      → s.gnss.inBurst = true ∧ s.gnss.burstEpoch = false) ∧ x = s.gnssCh m.chan ∧ x.tracking = true) ∧
    (∃ (s : State) (ms : List GnssMeas) (ps : Nat), s.Up ∧ Instr.wf (.gnssEpoch ms ps) = true ∧ s.gnss.bursting = true ∧
      (s.gnss.inBurst = false ∨ s.gnss.burstEpoch = true)) ∧
    (∃ (s : State), s.Up ∧ s.gnssOn = true ∧ s.gnss.bursting = true) ∧
    (∃ (s : State), s.Up ∧ s.gnss.inBurst = true) :=
  ⟨⟨{ wGnss 3 { st := .track } with gnss := { (wGnss 3 { st := .track }).gnss with clkOk := true } }, rfl, by decide +kernel⟩,
   ⟨wUp, 500, rfl, by decide +kernel⟩,
   ⟨wUp, [10, 20, 30, 40], [0, 0, 0, 0], sampleMag ((wUp : State).ap Fld.gnssFeCfg_L1_FMT) ([10, 20, 30, 40] : List Nat), sampleMag
     ((wUp : State).ap Fld.gnssFeCfg_L5_FMT) ([0, 0, 0, 0] : List Nat), rfl, by decide +kernel⟩,
   ⟨wGnss 3 { st := .data }, { chan := 3, txTime := 5, carrier := 6, doppler := 7, lockMs := 8, cn0 := 45, slips := 1 }, 100, (wGnss 3
     { st := .data } : State).gnssCh ({ chan := 3, txTime := 5, carrier := 6, doppler := 7, lockMs := 8, cn0 := 45, slips := 1 } :
     GnssMeas).chan, rfl, by decide +kernel⟩,
   ⟨{ wUp with gnss := { wUp.gnss with bursting := true } }, [], 0, rfl, by decide +kernel⟩,
   ⟨{ wUp with gnss := { wUp.gnss with bursting := true } }, rfl, by decide +kernel⟩,
   ⟨{ wUp with gnss := { wUp.gnss with bursting := true, inBurst := true } }, rfl, by decide +kernel⟩⟩

/-- `SearchAndSections`: the hypotheses of each clause hold together somewhere. -/
theorem witness_SearchAndSections :
    (∃ (s : State) (j : Nat), s.Up ∧ s.gnssOn = true ∧ (s.gnss.bursting && !s.gnss.inBurst) = false ∧ s.searchOrder = [j] ∧ (s.obj
      .search j).phase = .active ∧ (s.searchJob j).sects = []) ∧
    (∃ (s : State) (j : Nat) (d : GnssDet), s.Up ∧ Instr.wf (.gnssDwellEnd ⟨[j], [d]⟩) = true ∧ s.gnssOn = true ∧ s.padIn 12 = true ∧
      s.searchOrder = [j] ∧ d.job = j ∧ (s.searchJob j).sects ≠ [] ∧ s.apB Fld.gnssCfg_AUTO_TRACK = false ∧ s.gnss.outWait = []) ∧
    (∃ (s : State) (j : Nat), s.Up ∧ s.gnssOn = true ∧ s.apB Fld.gnssCfg_AUTO_ACQ = true ∧ s.taskHeld 7 = true ∧ s.gnss.valid = false ∧
      s.gnss.fwJobs = [] ∧ s.assistOk = false ∧ s.apB Fld.gnssCfg_GPS_EN = true ∧ s.apB Fld.gnssCfg_GAL_EN = false ∧ s.apB
      Fld.gnssCfg_L5_EN = false ∧ s.nextIndex .search = some j) ∧
    (∃ (s : State) (d : CmdDesc), s.Up ∧ s.Accepts d 0xC001 (s.gnssChecks d 14 (decide (23 < d.arg 12 1) || decide (2 < d.arg 13 1))) ∧
      Instr.wf (.gnssSectOut d) = true ∧ d.arg 13 1 = 0) ∧
    (∃ (s : State) (d : CmdDesc), s.Up ∧ s.Accepts d 0xC001 (s.gnssChecks d 14 (decide (23 < d.arg 12 1) || decide (2 < d.arg 13 1))) ∧
      Instr.wf (.gnssSectIn d) = true ∧ d.arg 13 1 = 1) ∧
    (∃ (s : State) (d : CmdDesc), s.Up ∧ s.Accepts d 0xC001 (s.gnssChecks d 14 (decide (23 < d.arg 12 1) || decide (2 < d.arg 13 1))) ∧
      Instr.wf (.gnssSectTest d) = true ∧ d.arg 13 1 = 2) ∧
    (∃ (s : State) (d : CmdDesc) (n : Nat) (l : List (Nat × CmdDesc)), s.Up ∧ s.gnss.testing = (n, d) :: l) :=
  ⟨⟨wSearch { order := 0, cells := 100 }, 0, rfl, by decide +kernel⟩,
   ⟨wReg (wSearch { order := 0, cells := 100, sects := [1, 2] }) ⟨.gnssCfg, 0, 0⟩ 0x32, 0,
     { job := 0, svid := 3, cn0 := 40, codePhase := 5, doppler := 6 }, rfl, by decide +kernel⟩,
   ⟨wReg (wTasks wUp) ⟨.gnssCfg, 0, 0⟩ 0x14, 0, rfl, by decide +kernel⟩,
   ⟨wUp, wCmd [5, 0], rfl, by unfold State.Accepts; decide +kernel, by decide +kernel⟩,
   ⟨{ wUp with gnss := { wUp.gnss with out := [5] } }, wCmd [5, 1], rfl, by unfold State.Accepts; decide +kernel, by decide +kernel⟩,
   ⟨wUp, wCmd [5, 2], rfl, by unfold State.Accepts; decide +kernel, by decide +kernel⟩,
   ⟨{ wUp with gnss := { wUp.gnss with testing := [(5, wCmd [5, 2])] } }, wCmd [5, 2], 5, [], rfl, by decide +kernel⟩⟩

/-- `SolutionAndSurvey`: the hypotheses of each clause hold together somewhere. -/
theorem witness_SolutionAndSurvey :
    (∃ (s : State) (x y : GnssSol) (n : Nat × Nat), s.Up ∧ s.gnssOn = true ∧ s.gnss.survey.run = false ∧ y =
      { x with o := s.solOffset x } ∧ n = s.solUse x.sky) ∧
    (∃ (s : State) (d : CmdDesc), s.Up ∧ s.Accepts d 0xC002 (s.gnssChecks d 13 (decide (1 < d.arg 12 1))) ∧ Instr.wf
      (.gnssSurveyRestart d) = true ∧ d.arg 12 1 = 0) ∧
    (∃ (s : State) (d : CmdDesc), s.Up ∧ s.Accepts d 0xC002 (s.gnssChecks d 13 (decide (1 < d.arg 12 1))) ∧ Instr.wf (.gnssSurveyEnd d)
      = true ∧ d.arg 12 1 = 1) :=
  ⟨⟨wUp, { o := 100, rmsPs := 50, sigma := 30, sky := [] },
     { ({ o := 100, rmsPs := 50, sigma := 30, sky := [] } : GnssSol) with o := (wUp : State).solOffset ({ o := 100, rmsPs := 50, sigma := 30, sky := [] } : GnssSol) },
     (wUp : State).solUse ({ o := 100, rmsPs := 50, sigma := 30, sky := [] } : GnssSol).sky, rfl, by decide +kernel⟩,
   ⟨wUp, wCmd [0], rfl, by unfold State.Accepts; decide +kernel, by decide +kernel⟩,
   ⟨{ wUp with gnss := { wUp.gnss with survey := { run := true, n := 5 } } }, wCmd [1], rfl, by unfold State.Accepts; decide +kernel,
     by decide +kernel⟩⟩

/-- `IntervalCounter`: the hypotheses of each clause hold together somewhere. -/
theorem witness_IntervalCounter :
    (∃ (s : State) (d : CmdDesc) (c : Nat), s.Up ∧ s.Accepts d 0xC401 (s.ticChecks d (decide (2 ≤ d.arg 12 1) || !(d.zero 13 32))) ∧
      d.wf = true ∧ c = hIndex d.handle) ∧
    (∃ (s : State) (d : CmdDesc) (c : Nat), s.Up ∧ s.Accepts d 0xC402 (s.ticChecks d (!(d.zero 12 32))) ∧ d.wf = true ∧ c = hIndex
      d.handle ∧ (s.obj .mchan c).phase ≠ .draining) ∧
    (∃ (s : State) (c n code : Nat) (x : TicCh), s.Up ∧ Instr.wf (.ticEdge c false n code) = true ∧ x = s.ticCh c ∧ x.live = true ∧
      x.startAt = none ∧ x.stopAt = none ∧ s.ticSourceOn x.args.start = true) ∧
    (∃ (s : State) (c n code : Nat) (x : TicCh), s.Up ∧ Instr.wf (.ticEdge c true n code) = true ∧ x = s.ticCh c ∧ x.live = true ∧
      x.startAt = none ∧ x.stopAt = none ∧ s.ticSourceOn x.args.stop = true) ∧
    (∃ (s : State) (c n code : Nat) (a : Nat × Int) (x : TicCh) (d v : Int), s.Up ∧ Instr.wf (.ticEdge c true n code) = true ∧ x =
      s.ticCh c ∧ x.live = true ∧ x.startAt = some a ∧ x.stopAt = none ∧ s.ticSourceOn x.args.stop = true ∧ d = s.ticInterval c a (n,
      s.ticFine c code) ∧ ticNear ≤ d ∧ v = d + x.ofs * 2 ^ 45 ∧ x.kept + 1 ≠ x.args.n ∧ 0 < x.kept) ∧
    (∃ (s : State) (c n code : Nat) (a : Nat × Int) (x : TicCh) (d : Int), s.Up ∧ Instr.wf (.ticEdge c true n code) = true ∧ x =
      s.ticCh c ∧ x.live = true ∧ x.startAt = some a ∧ x.stopAt = none ∧ s.ticSourceOn x.args.stop = true ∧ d = s.ticInterval c a (n,
      s.ticFine c code) ∧ d ≤ -ticNear ∧ x.kept < x.args.n) ∧
    (∃ (s : State) (c n code : Nat) (a : Nat × Int) (x : TicCh) (d : Int), s.Up ∧ Instr.wf (.ticEdge c true n code) = true ∧ x =
      s.ticCh c ∧ x.live = true ∧ x.startAt = some a ∧ x.stopAt = none ∧ s.ticSourceOn x.args.stop = true ∧ d = s.ticInterval c a (n,
      s.ticFine c code) ∧ -ticNear < d ∧ d < ticNear ∧ x.args.nearKeep = false ∧ x.kept < x.args.n) ∧
    (∃ (s : State) (c n code : Nat) (a : Nat × Int) (x : TicCh) (d : Int), s.Up ∧ Instr.wf (.ticEdge c true n code) = true ∧ x =
      s.ticCh c ∧ x.live = true ∧ x.startAt = some a ∧ x.stopAt = none ∧ s.ticSourceOn x.args.stop = true ∧ d = s.ticInterval c a (n,
      s.ticFine c code) ∧ ticNear ≤ d ∧ x.kept + 1 = x.args.n ∧ x.rep = false) ∧
    (∃ (s : State) (c : Nat), s.Up ∧ c < 16) ∧
    (∃ (s : State) (c : Nat), s.Up ∧ c < 16 ∧ (s.ticCh c).live = true) ∧
    (∃ (s : State) (g : Nat), s.Up ∧ g < 2) ∧
    (∃ (s : State), s.Up ∧ s.apB Fld.ticCfg_TB_EN = true ∧ s.padIn 13 = true) :=
  ⟨⟨wTic {}, { wCmd [0] with handle := 0x30000003 }, 3, rfl, by unfold State.Accepts; decide +kernel, by decide +kernel⟩,
   ⟨wTic { armed := true, live := true, args := { start := 0, stop := 1, base := 0, n := 4 } }, { wCmd [] with handle := 0x30000003 },
     3, rfl, by unfold State.Accepts; decide +kernel, by decide +kernel⟩,
   ⟨wTic ({ armed := true, live := true, args := { start := 0, stop := 1, base := 0, n := 4 } } : TicCh), 3, 5, 7,
     { armed := true, live := true, args := { start := 0, stop := 1, base := 0, n := 4 } }, rfl, by decide +kernel⟩,
   ⟨wTic ({ armed := true, live := true, args := { start := 0, stop := 1, base := 0, n := 4 } } : TicCh), 3, 5, 7,
     { armed := true, live := true, args := { start := 0, stop := 1, base := 0, n := 4 } }, rfl, by decide +kernel⟩,
   ⟨wTic ({ armed := true, live := true, args := { start := 0, stop := 1, base := 0, n := 4 }, startAt := some (100, 5), kept := 1 } :
     TicCh), 3, 1000, 7, (100, 5),
     { armed := true, live := true, args := { start := 0, stop := 1, base := 0, n := 4 }, startAt := some (100, 5), kept := 1 }, (wTic
     ({ armed := true, live := true, args := { start := 0, stop := 1, base := 0, n := 4 }, startAt := some (100, 5), kept := 1 } :
     TicCh) : State).ticInterval (3 : Nat) ((100, 5) : Nat × Int) ((1000 : Nat), (wTic
     ({ armed := true, live := true, args := { start := 0, stop := 1, base := 0, n := 4 }, startAt := some (100, 5), kept := 1 } :
     TicCh) : State).ticFine (3 : Nat) (7 : Nat)), ((wTic
     ({ armed := true, live := true, args := { start := 0, stop := 1, base := 0, n := 4 }, startAt := some (100, 5), kept := 1 } :
     TicCh) : State).ticInterval (3 : Nat) ((100, 5) : Nat × Int) ((1000 : Nat), (wTic
     ({ armed := true, live := true, args := { start := 0, stop := 1, base := 0, n := 4 }, startAt := some (100, 5), kept := 1 } :
     TicCh) : State).ticFine (3 : Nat) (7 : Nat)) : Int) +
     ({ armed := true, live := true, args := { start := 0, stop := 1, base := 0, n := 4 }, startAt := some (100, 5), kept := 1 } :
     TicCh).ofs * 2 ^ 45, rfl, by decide +kernel⟩,
   ⟨wTic ({ armed := true, live := true, args := { start := 0, stop := 1, base := 0, n := 4 }, startAt := some (1000, 5), kept := 1 } :
     TicCh), 3, 10, 7, (1000, 5),
     { armed := true, live := true, args := { start := 0, stop := 1, base := 0, n := 4 }, startAt := some (1000, 5), kept := 1 }, (wTic
     ({ armed := true, live := true, args := { start := 0, stop := 1, base := 0, n := 4 }, startAt := some (1000, 5), kept := 1 } :
     TicCh) : State).ticInterval (3 : Nat) ((1000, 5) : Nat × Int) ((10 : Nat), (wTic
     ({ armed := true, live := true, args := { start := 0, stop := 1, base := 0, n := 4 }, startAt := some (1000, 5), kept := 1 } :
     TicCh) : State).ticFine (3 : Nat) (7 : Nat)), rfl, by decide +kernel⟩,
   ⟨wTic ({ armed := true, live := true, args := { start := 0, stop := 1, base := 0, n := 4 }, startAt := some (10, 5), kept := 1 } :
     TicCh), 3, 10, 7, (10, 5),
     { armed := true, live := true, args := { start := 0, stop := 1, base := 0, n := 4 }, startAt := some (10, 5), kept := 1 }, (wTic
     ({ armed := true, live := true, args := { start := 0, stop := 1, base := 0, n := 4 }, startAt := some (10, 5), kept := 1 } :
     TicCh) : State).ticInterval (3 : Nat) ((10, 5) : Nat × Int) ((10 : Nat), (wTic
     ({ armed := true, live := true, args := { start := 0, stop := 1, base := 0, n := 4 }, startAt := some (10, 5), kept := 1 } :
     TicCh) : State).ticFine (3 : Nat) (7 : Nat)), rfl, by decide +kernel⟩,
   ⟨wTic ({ armed := true, live := true, args := { start := 0, stop := 1, base := 0, n := 4 }, startAt := some (100, 5), kept := 3 } :
     TicCh), 3, 1000, 7, (100, 5),
     { armed := true, live := true, args := { start := 0, stop := 1, base := 0, n := 4 }, startAt := some (100, 5), kept := 3 }, (wTic
     ({ armed := true, live := true, args := { start := 0, stop := 1, base := 0, n := 4 }, startAt := some (100, 5), kept := 3 } :
     TicCh) : State).ticInterval (3 : Nat) ((100, 5) : Nat × Int) ((1000 : Nat), (wTic
     ({ armed := true, live := true, args := { start := 0, stop := 1, base := 0, n := 4 }, startAt := some (100, 5), kept := 3 } :
     TicCh) : State).ticFine (3 : Nat) (7 : Nat)), rfl, by decide +kernel⟩,
   ⟨wTic { armed := true, dead := true, args := { start := 0, stop := 1, base := 0, n := 4 } }, 3, rfl, by decide +kernel⟩,
   ⟨wTic { armed := true, live := true, args := { start := 0, stop := 1, base := 0, n := 4 } }, 3, rfl, by decide +kernel⟩,
   ⟨wUp, 1, rfl, by decide +kernel⟩,
   ⟨wTic {}, rfl, by decide +kernel⟩⟩

/-- `Calibration`: the hypotheses of each clause hold together somewhere. -/
theorem witness_Calibration :
    (∃ (s : State) (j q : Nat) (a b temp : Int) (codes : List Int), s.Up ∧ Instr.wf (.calJobEnd j q a b codes temp) = true ∧ (s.obj?
      .cal j).isSome = true ∧ (s.calJob j).running = true ∧ (s.calJob j).waitBlock = false) ∧
    (∃ (s : State) (j : Nat), s.Up ∧ Instr.wf (.calJobTimeout j) = true ∧ (s.obj? .cal j).isSome = true ∧ (s.calJob j).running = true) ∧
    (∃ (s : State) (w : Nat) (v : Word), s.Up ∧ w < 512 ∧ s.cal.waiting = [(w, v)] ∧ s.persStatus w v = .ok) ∧
    (∃ (s : State) (w : Nat) (v : Word), s.Up ∧ w < 512 ∧ s.cal.retry = [(w, v)]) ∧
    (∃ (s : State) (d : CmdDesc), s.Up ∧ s.Accepts d 0xC601
      { unitChecks d false .cal true [Rdy.cal] with badForm := (unitChecks d false .cal true [Rdy.cal]).badForm || !(d.zero 12 32) } ∧
      d.wf = true) ∧
    (∃ (s : State) (d : CmdDesc), s.Up ∧ s.isReady Rdy.tcore = true ∧ s.tcore.steps = [] ∧ s.cal.saving = some d) ∧
    (∃ (s : State) (d : CmdDesc), s.Up ∧ s.Accepts d 0xC602
      { unitChecks d false .cal true [Rdy.cal] with absent := s.calInstAbsent (d.arg 12 1) (d.arg 14 2), badForm := (unitChecks d false .cal true [Rdy.cal]).badForm || !(d.zero 13 14) || !(d.zero 16 32), badArg := decide (6 < d.arg 12 1) || (if d.arg 12 1 = 6 then decide (1 < d.arg 14 2) else s.calInstBad (d.arg 12 1) (d.arg 14 2)) }
      ∧ d.wf = true) :=
  ⟨⟨wCal {}, 0, 3, 100, 1, 300, [], rfl, by decide +kernel⟩,
   ⟨wCal {}, 0, rfl, by decide +kernel⟩,
   ⟨{ wUp with cal := { wUp.cal with waiting := [(300, 5)] } }, 300, 5, rfl, by decide +kernel⟩,
   ⟨{ wUp with cal := { wUp.cal with retry := [(300, 5)] } }, 300, 5, rfl, by decide +kernel⟩,
   ⟨wUp, wCmd [], rfl, by unfold State.Accepts; decide +kernel, by decide +kernel⟩,
   ⟨{ wUp with cal := { wUp.cal with saving := some (wCmd [] : CmdDesc) } }, wCmd [], rfl, by decide +kernel⟩,
   ⟨wUp, wCmd [2, 0, 3], rfl, by unfold State.Accepts; decide +kernel, by decide +kernel⟩⟩

/-- `EngineStates`: the hypotheses of each clause hold together somewhere. -/
theorem witness_EngineStates :
    (∃ (s : State) (e cause k b : Nat), s.Up ∧ s.eng.copy = none ∧ (s.engOf e).st = .run ∧ k ∈ s.singleTasks ∧ (s.task k).holder = some
      e ∧ (s.task k).standby = some b ∧ b ≠ e ∧ b < 16 ∧ s.engRuns b = true ∧ Instr.wf (.engFaultDetect e cause) = true) ∧
    (∃ (s : State) (e k b : Nat), s.Up ∧ s.eng.copy = none ∧ (s.engOf e).st = .run ∧ k ∈ s.singleTasks ∧ (s.task k).holder = some e ∧
      (s.task k).standby = some b ∧ b ≠ e ∧ b < 16 ∧ s.engRuns b = true ∧ e < 16) ∧
    (∃ (s : State) (e : Nat), s.Up ∧ e < 16 ∧ (s.engOf e).st ≠ .run ∧ (s.engOf e).st ≠ .draining) ∧
    (∃ (s : State) (k old b : Nat), s.Up ∧ k ∈ [2, 6, 7, 8] ∧ (s.task k).moving = some old ∧ (s.task k).standby = some b ∧ s.engRuns b
      = true) ∧
    (∃ (s : State) (d : CmdDesc) (e : Nat), s.Up ∧ s.Accepts d 0xC801 (s.engChecks d (decide (2 ≤ d.arg 13 1) || !(d.zero 14 16) ||
      !(d.zero 20 32)) (decide ((s.engOf e).st ≠ .run) && decide ((s.engOf e).st ≠ .replay) && decide ((s.engOf e).st ≠ .draining))) ∧
      d.wf = true ∧ e = d.arg 12 1 ∧ (bitAt (d.arg 13 1) 0 = true ∨ s.outRefused e = false) ∧ (∀ k, k ∈ s.singleTasks → (s.task
      k).holder ≠ some e ∧ (s.task k).standby ≠ some e)) ∧
    (∃ (s : State) (e : Nat), s.Up ∧ e < 16 ∧ (s.engOf e).st = .draining ∧ s.chansOfEng e = [] ∧ s.pwr.seq = .idle ∧ s.pwr.state = 0 ∧
      s.pwr.pend = none) ∧
    (∃ (s : State) (d : CmdDesc) (e : Nat), s.Up ∧ s.Accepts d 0xC803 (s.engChecks d (!(d.zero 13 32)) (decide ((s.engOf e).st ≠
      .loaded))) ∧ d.wf = true ∧ e = d.arg 12 1) ∧
    (∃ (s : State) (e : Nat), s.Up ∧ e < 16 ∧ (s.engOf e).st = .replay ∧ s.pwr.seq ≠ .entry 9 ∧ (∀ k, k ∈ s.singleTasks → ((s.task
      k).holder.isSome = true ∧ (s.task k).standby.isSome = true ∧ (s.task k).pin ≠ some e) ∨ (k ∈ [2, 6, 7, 8] ∧ (s.task k).holder =
      none ∧ (s.task k).moving = none))) :=
  ⟨⟨wTwo wUp, 0, 3, 2, 1, rfl, by decide +kernel⟩,
   ⟨wTwo wUp, 0, 2, 1, rfl, by decide +kernel⟩,
   ⟨wUp, 3, rfl, by decide +kernel⟩,
   ⟨{ (wTwo wUp) with eng := { (wTwo wUp).eng with tasks := [(2, { standby := some 1, moving := some 0 })] } }, 2, 0, 1, rfl,
     by decide +kernel⟩,
   ⟨{ (wTwo wUp) with eng := { (wTwo wUp).eng with engs := [(0, { st := .run }), (1, { st := .run }), (2, { st := .run })] } }, wCmd
     [2, 0], 2, rfl, by unfold State.Accepts; decide +kernel, by decide +kernel⟩,
   ⟨{ wUp with eng := { wUp.eng with engs := [(2, { st := .draining, outAt := 0 })] } }, 2, rfl, by decide +kernel⟩,
   ⟨{ wUp with eng := { wUp.eng with engs := [(2, { st := .loaded })] } }, wCmd [2], 2, rfl, by unfold State.Accepts; decide +kernel,
     by decide +kernel⟩,
   ⟨{ (wTwo wUp) with eng := { (wTwo wUp).eng with engs := [(0, { st := .run }), (1, { st := .run }), (2, { st := .replay })] } }, 2,
     rfl, by decide +kernel⟩⟩

/-- `EngineCommands`: the hypotheses of each clause hold together somewhere. -/
theorem witness_EngineCommands :
    (∃ (s : State) (d : CmdDesc) (e o : Nat), s.Up ∧ s.Accepts d 0xC802 (s.engChecks d (!(d.zero 13 16) || !(d.zero 20 32)) (decide (o
      % 4096 ≠ 0) || decide (8388608 ≤ o) || !(s.bankOn (o / 262144)) || s.bankFw (o / 262144) || decide ((s.engOf e).st = .off))) ∧
      d.wf = true ∧ e = d.arg 12 1 ∧ o = d.arg 16 4) ∧
    (∃ (s : State) (d : CmdDesc), s.Up ∧ s.Accepts d 0xC809
      { unitChecks d false .eng true [] with badForm := (unitChecks d false .eng true []).badForm || !(d.zero 12 32), guarded := true }
      ∧ d.wf = true) ∧
    (∃ (s : State) (d : CmdDesc) (k h b : Nat), s.Up ∧ s.Accepts d 0xC804
      { unitChecks d false .eng true [] with absent := (decide (h < 16) && !(s.engPresent h)) || (decide (b < 16) && !(s.engPresent b)) || (k == 7 && !s.variant.gnss) || (k == 10 && !s.variant.pair), badForm := (unitChecks d false .eng true []).badForm || !(d.zero 15 32), badArg := decide (10 < k) || k == 5 || (decide (16 ≤ h) && h != 0x1F) || (decide (16 ≤ b) && b != 0x1F) || (decide (h < 16) && h == b) }
      ∧ d.wf = true ∧ k = d.arg 12 1 ∧ h = d.arg 13 1 ∧ b = d.arg 14 1) ∧
    (∃ (s : State) (d : CmdDesc), s.Up ∧ s.Accepts d 0xC805 (polChecks d true ((List.range d.polCount).any (fun k => polBad d.polTable
      (d.buf (8 + 8 * k) 8)))) ∧ d.wf = true) ∧
    (∃ (s : State) (d : CmdDesc), s.Up ∧ s.Accepts d 0xC806 (polChecks d false false) ∧ d.wf = true) ∧
    (∃ (s : State) (d : CmdDesc), s.Up ∧ s.Accepts d 0xC807
      { unitChecks d false .eng true [] with badForm := (unitChecks d false .eng true []).badForm || !(d.zero 12 32) } ∧ d.wf = true ∧
      (∀ w, 289 ≤ w → w ≤ 357 → s.wear w < 200000 ∧ s.persBusy w = false) ∧ s.pers.busy.length < 8) :=
  ⟨⟨{ wUp with eng := { wUp.eng with engs := [(2, { st := .idle })] } }, wCmd [2, 0, 0, 0, 0, 0, 4, 0], 2, 262144, rfl,
     by unfold State.Accepts; decide +kernel, by decide +kernel⟩,
   ⟨{ wKey (wTwo wUp) (.eng 0) with eng := { (wTwo wUp).eng with copy := some {}, fwBanks := 1 } }, wCmd [], rfl,
     by unfold State.Accepts; decide +kernel, by decide +kernel⟩,
   ⟨wTwo wUp, wCmd [2, 3, 4], 2, 3, 4, rfl, by unfold State.Accepts; decide +kernel, by decide +kernel⟩,
   ⟨wUp, wExt ([2, 0, 1, 0, 0, 0, 0, 0] ++ [1, 0, 0, 0, 0, 0, 0, 0]) 32, rfl, by unfold State.Accepts; decide +kernel,
     by decide +kernel⟩,
   ⟨wUp, wExt ([2, 0, 1, 0, 0, 0, 0, 0]) 32, rfl, by unfold State.Accepts; decide +kernel, by decide +kernel⟩,
   ⟨wUp, wCmd [], rfl, by unfold State.Accepts; decide +kernel, by decide +kernel⟩⟩

/-- `Scratchpad`: the hypotheses of each clause hold together somewhere. -/
theorem witness_Scratchpad :
    (∃ (s : State) (o : Nat), s.Up ∧ s.memWf ∧ spadWord o = true ∧ s.bankOn (o / 262144) = true ∧ s.bankFw (o / 262144) = false) ∧
    (∃ (s : State) (o : Nat), s.Up ∧ s.memWf ∧ spadWord o = true ∧ s.bankOn (o / 262144) = true ∧ s.bankFw (o / 262144) = false) ∧
    (∃ (s : State) (o : Nat), s.Up ∧ s.memWf ∧ spadWord o = true ∧ s.bankOn (o / 262144) = true ∧ s.bankFw (o / 262144) = false) ∧
    (∃ (s : State) (o : Nat), s.Up ∧ s.memWf ∧ spadWord o = true ∧ s.bankOn (o / 262144) = true ∧ s.bankFw (o / 262144) = false) ∧
    (∃ (s : State) (o : Nat), s.Up ∧ s.memWf ∧ spadWord o = true ∧ s.bankOn (o / 262144) = true ∧ s.bankFw (o / 262144) = false) ∧
    (∃ (s : State) (o : Nat) (be : BitVec 4), s.Up ∧ spadWord o = true ∧ be ≠ 15) ∧
    (∃ (s : State) (o : Nat), s.Up ∧ spadWord o = true ∧ s.bankFw (o / 262144) = true) ∧
    (∃ (s : State) (o : Nat), s.Up ∧ spadWord o = true ∧ s.bankFw (o / 262144) = false ∧ s.bankOn (o / 262144) = false ∧
      s.eng.bankOffAt = none) ∧
    (∃ (s : State) (o : Nat), s.Up ∧ spadWord o = true) ∧
    (∃ (s : State) (d : CmdDesc) (o n : Nat), s.Up ∧ s.memWf ∧ s.Accepts d 0xC808
      { unitChecks d false .eng true [] with badForm := (unitChecks d false .eng true []).badForm || decide (2 ≤ d.arg 12 1) || !(d.zero 13 16), badArg := decide (o % 64 ≠ 0) || decide (d.arg 20 8 % 64 ≠ 0) || decide (n % 64 ≠ 0) || decide (n < 64) || decide (8388608 < n) || decide (8388608 < o + n) || (!(bitAt (d.arg 12 1) 0) && (List.range 32).any (fun b => s.bankFw b && decide (b * 262144 < o + n) && decide (o < (b + 1) * 262144))) }
      ∧ d.wf = true ∧ o = d.arg 16 4 ∧ n = d.arg 28 4 ∧ (∀ b, b < 32 → s.bankOn b = true)) ∧
    (∃ (s : State) (b m : Nat), s.Up ∧ s.memWf ∧ Instr.wf (.spadBankTransitionDone b) = true ∧ (s.bank b).target = some m) ∧
    (∃ (s : State) (p : Path) (hi : Bool), s.Up ∧ s.Writable ⟨.engSpadPwr, b2n hi, 0⟩ ∧ p.wf = true) :=
  ⟨⟨wUp, 64, rfl, by unfold State.memWf; decide +kernel, by decide +kernel⟩,
   ⟨wUp, 64, rfl, by unfold State.memWf; decide +kernel, by decide +kernel⟩,
   ⟨wUp, 64, rfl, by unfold State.memWf; decide +kernel, by decide +kernel⟩,
   ⟨wUp, 64, rfl, by unfold State.memWf; decide +kernel, by decide +kernel⟩,
   ⟨wUp, 64, rfl, by unfold State.memWf; decide +kernel, by decide +kernel⟩,
   ⟨wUp, 64, 3, rfl, by decide +kernel⟩,
   ⟨{ wUp with eng := { wUp.eng with fwBanks := 1 } }, 64, rfl, by decide +kernel⟩,
   ⟨{ wUp with eng := { wUp.eng with banks := [(0, { mode := 2 })] } }, 64, rfl, by decide +kernel⟩,
   ⟨wUp, 64, rfl, by decide +kernel⟩,
   ⟨{ wUp with eng := { wUp.eng with spad := [⟨64, 7⟩] } }, wCmd ([1, 0, 0, 0, 64, 0, 0, 0, 0, 0, 0, 0, 0, 0, 0, 0, 64, 0, 0, 0]), 64,
     64, rfl, by unfold State.memWf; decide +kernel, by unfold State.Accepts; decide +kernel, by decide +kernel⟩,
   ⟨{ wUp with eng := { wUp.eng with banks := [(3, { mode := 0, target := some 2 })] } }, 3, 2, rfl,
     by unfold State.memWf; decide +kernel, by decide +kernel⟩,
   ⟨wUp, .pcie, true, rfl, by unfold State.Writable; decide +kernel, by decide +kernel⟩⟩

/-- `PerformanceCounters`: the hypotheses of each clause hold together somewhere. -/
theorem witness_PerformanceCounters :
    (∃ (s : State) (e : Nat), s.Up ∧ s.Writable ⟨.perfCtl, e, 0⟩ ∧ e < 16) ∧
    (∃ (s : State) (p : Path) (e : Nat) (hi : Bool) (v : Word), s.Up ∧ s.Writable ⟨.perfSel, e, b2n hi⟩ ∧ p.wf = true ∧ e < 16 ∧ (∀ j,
      j < 4 → fieldOf v (8 * j) 8 < 0x0C)) ∧
    (∃ (s : State) (e k : Nat), s.Up ∧ e < 16 ∧ k < 8 ∧ s.perfEvent e k ≠ 0) ∧
    (∃ (s : State) (e n c : Nat), s.Up ∧ e < 16 ∧ s.sampleCount n = true ∧ c = s.cycOf e % 2 ^ 32 ∧ s.apB Fld.perfSampCfg_EN = true ∧
      bitAt (s.ap Fld.perfSampCfg_ENG) e = true ∧ s.engRuns e = true) :=
  ⟨⟨wEng0 wUp, 0, rfl, by unfold State.Writable; decide +kernel, by decide +kernel⟩,
   ⟨wUp, .pcie, 3, true, 0x01020304, rfl, by unfold State.Writable; decide +kernel, by decide +kernel⟩,
   ⟨wReg wUp ⟨.perfSel, 3, 1⟩ 0x01020304, 3, 5, rfl, by decide +kernel⟩,
   ⟨wReg (wEng0 wUp) ⟨.perfSampCfg, 0, 0⟩ 0x01000001, 0, 256, (wReg (wEng0 wUp) ⟨.perfSampCfg, 0, 0⟩ 0x01000001 : State).cycOf (0 :
     Nat) % 2 ^ 32, rfl, by decide +kernel⟩⟩

/-- `PairLink`: the hypotheses of each clause hold together somewhere. -/
theorem witness_PairLink :
    (∃ (s : State) (n : Nat), s.Up ∧ Instr.wf (.omdLaneUp n) = true ∧ s.pairPowered = true ∧ s.padIn 16 = true) ∧
    (∃ (s : State) (n : Nat), s.Up ∧ Instr.wf (.omdLaneUp n) = true ∧ s.pairPowered = true ∧ bitAt s.pair.lanes n = true) ∧
    (∃ (s : State), s.Up ∧ s.pairPowered = true) ∧
    (∃ (s : State) (q : Nat) (x : OmdTx), s.Up ∧ s.omdUp = true ∧ s.pair.txq.find? (fun x => x.seq == q) = some x) ∧
    (∃ (s : State) (hb : HbPayload), s.Up ∧ s.omdUp = true ∧ hb.pairId = s.ap Fld.pairId_VAL ∧ s.pair.st = .synced ∧ hb.state ≠ 2) ∧
    (∃ (s : State) (hb : HbPayload), s.Up ∧ s.omdUp = true ∧ hb.pairId = s.ap Fld.pairId_VAL ∧ s.pair.st = .search ∧ hb.role = 1 ∧
      s.inUse .flow = []) ∧
    (∃ (s : State) (p : Nat) (hb : HbPayload), s.Up ∧ Instr.wf (.inbHeartbeatRx p hb) = true ∧ s.pairOn = true ∧ s.apB
      Fld.pairCfg_INB_EN = true ∧ hb.pairId = s.ap Fld.pairId_VAL ∧ s.pair.st = .synced ∧ s.pair.omd.lost = false ∧ hb.state ≠ 2 ∧
      s.inbPorts.contains p = true ∧ hb.unitId ≠ s.ap Fld.pairCfg_UNIT_ID) ∧
    (∃ (s : State) (p : Nat) (hb : HbPayload), s.Up ∧ Instr.wf (.inbHeartbeatRx p hb) = true ∧ s.pairOn = true ∧ s.apB
      Fld.pairCfg_INB_EN = true ∧ hb.pairId = s.ap Fld.pairId_VAL ∧ s.pair.st = .synced ∧ s.pair.omd.lost = false ∧ hb.state ≠ 2 ∧
      s.inbPorts.contains p = true ∧ hb.unitId = s.ap Fld.pairCfg_UNIT_ID) ∧
    (∃ (s : State), s.Up ∧ s.pairOn = true) ∧
    (∃ (s : State), s.Up ∧ s.pairOn = true ∧ s.pair.st = .synced ∧ s.pair.role = .primary ∧ s.apB Fld.pairCfg_INB_EN = true ∧
      s.pair.follow = false ∧ s.pair.rehearsing = false ∧ s.pair.inb.heard = true ∧ s.pair.inb.ok = true ∧ s.pair.omd.heard = true ∧
      s.pair.omd.ok = true) ∧
    (∃ (s : State), s.Up ∧ s.pairOn = true ∧ s.pair.st = .synced ∧ s.pair.role = .primary ∧ s.apB Fld.pairCfg_INB_EN = true ∧
      s.pair.follow = false ∧ s.pair.rehearsing = false ∧ s.pair.inb.heard = true ∧ s.pair.inb.ok = true ∧ s.pair.omd.heard = false ∧
      s.pair.omd.ok = true ∧ s.pair.omd.misses = 2) ∧
    (∃ (s : State), s.Up ∧ s.omdUp = true) ∧
    (∃ (s : State) (x : TimeExch), s.Up ∧ Instr.wf (.time x) = true ∧ s.omdUp = true ∧ s.pair.follow = false) ∧
    (∃ (s : State), s.Up ∧ s.pairOn = true ∧ s.pair.st = .search) :=
  ⟨⟨wPairSt wUp {}, 3, rfl, by decide +kernel⟩,
   ⟨wPairSt wUp {}, 0, rfl, by decide +kernel⟩,
   ⟨wPairSt wUp {}, rfl, by decide +kernel⟩,
   ⟨wPairSt wUp { st := .synced, txq := [({ seq := 5, payload := .role 3, sends := 2 } : OmdTx)] }, 5,
     { seq := 5, payload := .role 3, sends := 2 }, rfl, by decide +kernel⟩,
   ⟨wPairSt wUp { st := .synced, role := .standby }, wHb, rfl, by decide +kernel⟩,
   ⟨wPairSt wUp { st := .search }, wHb, rfl, by decide +kernel⟩,
   ⟨wReg (wPairSt wLanes { st := .synced, role := .standby, omd := { ok := true } }) ⟨.pairInbPort, 0, 0⟩ 0xFFFFFF03, 3, wHb, rfl,
     by decide +kernel⟩,
   ⟨wReg (wPairSt wLanes { st := .synced, role := .standby, omd := { ok := true } }) ⟨.pairInbPort, 0, 0⟩ 0xFFFFFF03, 3,
     { wHb with unitId := 1 }, rfl, by decide +kernel⟩,
   ⟨wPairSt wUp { st := .synced, role := .primary }, rfl, by decide +kernel⟩,
   ⟨wPairSt wUp
     { st := .synced, role := .primary, omd := { ok := true, heard := true, beats := 3 }, inb := { ok := true, heard := true } }, rfl,
     by decide +kernel⟩,
   ⟨wPairSt wUp
     { st := .synced, role := .primary, omd := { ok := true, misses := 2, beats := 3 }, inb := { ok := true, heard := true } }, rfl,
     by decide +kernel⟩,
   ⟨wPairSt wUp { st := .synced, role := .primary }, rfl, by decide +kernel⟩,
   ⟨wPairSt wUp { st := .synced, role := .standby, timeTx := [5000] }, { tx := 6000, echo := some (5000, 5500) }, rfl,
     by decide +kernel⟩,
   ⟨wPairSt wUp { st := .search }, rfl, by decide +kernel⟩⟩

/-- `PairMirror`: the hypotheses of each clause hold together somewhere. -/
theorem witness_PairMirror :
    (∃ (s : State) (h : OmdHdr), s.Up ∧ s.omdUp = true ∧ h.seq % 2 ^ 32 ≠ s.pair.rxSeq) ∧
    (∃ (s : State) (h : OmdHdr) (r : FdbRec) (a : _), s.Up ∧ s.InOrder h ∧ (fdbBuckets (r.mac, r.vid)).find? (fun b => (fdbAt
      s.fdb.entries b).isNone) = some a ∧ (s.omdAck h.ack).fdbCrosses r.mac r.vid = false ∧ s.fdb.verFull = false ∧ r.remove = false ∧
      s.fdbEntry? r.mac r.vid = none) ∧
    (∃ (s : State) (h : OmdHdr) (r : FdbRec) (e : _), s.Up ∧ s.InOrder h ∧ (s.omdAck h.ack).fdbCrosses r.mac r.vid = false ∧
      s.fdb.verFull = false ∧ r.remove = false ∧ s.fdbEntry? r.mac r.vid = some e ∧ e.static = false) ∧
    (∃ (s : State) (h : OmdHdr) (r : FdbRec) (e : _), s.Up ∧ s.InOrder h ∧ (s.omdAck h.ack).fdbCrosses r.mac r.vid = false ∧
      s.fdb.verFull = false ∧ r.remove = true ∧ s.fdbEntry? r.mac r.vid = some e ∧ e.mirrored = true ∧ e.static = false) ∧
    (∃ (s : State) (h : OmdHdr) (r : FdbRec) (e : _), s.Up ∧ s.InOrder h ∧ (s.omdAck h.ack).fdbCrosses r.mac r.vid = false ∧
      s.fdb.verFull = false ∧ s.fdbEntry? r.mac r.vid = some e ∧ e.static = true) ∧
    (∃ (s : State) (h : OmdHdr), s.Up ∧ s.InOrder h ∧ s.fdb.verFull = true ∧ s.pair.role ≠ .primary) ∧
    (∃ (s : State) (h : OmdHdr) (r : FlowRec), s.Up ∧ s.InOrder h ∧ s.pair.role = .standby ∧ s.stale .flow r.handle = false ∧
      s.flowCopies (hIndex r.handle) = [] ∧ r.op = 2) ∧
    (∃ (s : State) (h : OmdHdr) (r : FlowRec), s.Up ∧ s.InOrder h ∧ s.pair.role = .standby ∧ s.stale .flow r.handle = false ∧
      s.flowCopies (hIndex r.handle) = [] ∧ r.op = 3) ∧
    (∃ (s : State) (h : OmdHdr) (r : FlowRec), s.Up ∧ s.InOrder h ∧ s.pair.role = .standby ∧ s.stale .flow r.handle = false ∧
      s.flowCopies (hIndex r.handle) = [] ∧ r.op = 1 ∧ (s.obj .flow (hIndex r.handle)).waiting = [] ∧ (s.obj .flow (hIndex
      r.handle)).drain = none) ∧
    (∃ (s : State) (h : OmdHdr) (r : FlowRec) (b : Nat), s.Up ∧ s.InOrder h ∧ s.pair.role = .standby ∧ r.op = 0 ∧ s.admBusy = false ∧
      s.stale .flow r.handle = true ∧ s.obj? .flow (hIndex r.handle) = none ∧ s.capFault (flowArgsOf r.desc.objArgs) (s.flowsTo
      (flowArgsOf r.desc.objArgs).out none) = 0 ∧ s.boundOf (flowArgsOf r.desc.objArgs) (s.flowsTo (flowArgsOf r.desc.objArgs).out
      none) (r.f % 2 ^ 32) = some b ∧ b ≤ (flowArgsOf r.desc.objArgs).boundReq ∧ s.canReserve (s.reservePool (flowArgsOf
      r.desc.objArgs)) (flowReserve (flowArgsOf r.desc.objArgs) b) none = true ∧ r.f % 2 ^ 32 ≤ s.fAdm ∧ s.taskHeld 10 = true ∧
      s.pair.queue = []) ∧
    (∃ (s : State) (h : OmdHdr), s.Up ∧ s.InOrder h ∧ s.pair.role = .standby ∧ s.pair.follow = false) ∧
    (∃ (s : State) (h : OmdHdr) (r : CbRec) (f : CbFn), s.Up ∧ s.InOrder h ∧ s.pair.role = .standby ∧ Tab.find s.fdb.cb r.fn = some f) ∧
    (∃ (s : State) (h : OmdHdr), s.Up ∧ s.InOrder h ∧ s.MirroredFit ∧ s.pair.role = .standby ∧ s.pair.st = .synced ∧ s.pair.follow =
      false ∧ s.pair.rehearsing = false ∧ s.inUse .flow = []) ∧
    (∃ (s : State) (h : OmdHdr), s.Up ∧ s.InOrder h ∧ s.pair.role = .standby ∧ s.pair.st = .resync ∧ s.pair.follow = false) ∧
    (∃ (s : State) (h : OmdHdr), s.Up ∧ s.InOrder h ∧ s.pair.role = .standby ∧ s.pair.st = .resync ∧ s.apB Fld.pairCfg_FOLLOW_EN =
      false ∧ s.pair.resyncCmd = none) ∧
    (∃ (s : State) (h : OmdHdr), s.Up ∧ s.InOrder h ∧ s.pair.role = .standby ∧ s.pair.st = .synced ∧ s.pair.mirrorOk = true) ∧
    (∃ (s : State), s.Up ∧ s.omdUp = true ∧ s.pair.role = .primary ∧ s.pair.st = .synced ∧ s.taskHeld 10 = true ∧ s.pair.queue = []) ∧
    (∃ (s : State), s.Up ∧ s.pair.queue ≠ []) ∧
    (∃ (s : State) (w : FlowWait), s.Up ∧ s.sw.wait = some w ∧ w.stage = 1 ∧ w.mirror = false ∧ w.modify = false ∧ s.sw.admQ = []) :=
  ⟨⟨wPairSt wUp { st := .synced, role := .standby }, ⟨5, 0⟩, rfl, by decide +kernel⟩,
   ⟨wPairSt wUp { st := .synced, role := .standby }, ⟨0, 0⟩, ⟨5, 6, 7, false⟩, 0 * 65536 + (Config.fdbHash 0 5 6).toNat, rfl,
     by unfold State.InOrder; decide +kernel, rfl, by decide +kernel⟩,
   ⟨wPairSt { wUp with fdb := { entries := [((5, 6), { dest := 3, loc := 9 })] } } { st := .synced, role := .standby }, ⟨0, 0⟩, ⟨5, 6,
     7, false⟩, { dest := 3, loc := 9 }, rfl, by unfold State.InOrder; decide +kernel, by decide +kernel⟩,
   ⟨wPairSt { wUp with fdb := { entries := [((5, 6), { dest := 3, loc := 9, mirrored := true })] } }
     { st := .synced, role := .standby }, ⟨0, 0⟩, ⟨5, 6, 7, true⟩, { dest := 3, loc := 9, mirrored := true }, rfl,
     by unfold State.InOrder; decide +kernel, by decide +kernel⟩,
   ⟨wPairSt { wUp with fdb := { entries := [((5, 6), { dest := 3, loc := 9, static := true })] } } { st := .synced, role := .standby },
     ⟨0, 0⟩, ⟨5, 6, 7, true⟩, { dest := 3, loc := 9, static := true }, rfl, by unfold State.InOrder; decide +kernel, by decide +kernel⟩,
   ⟨wPairSt { wUp with fdb := { retired := (List.range 4096).map (fun i => (.fdb i 0, 0, [])) } } { st := .synced, role := .standby },
     ⟨0, 0⟩, rfl, by unfold State.InOrder; decide +kernel, by decide +kernel⟩,
   ⟨wPairSt wFlow { st := .synced, role := .standby }, ⟨0, 0⟩, ⟨0x10000000, 2, [], 0, 0⟩, rfl, by unfold State.InOrder; decide +kernel,
     by decide +kernel⟩,
   ⟨wPairSt wFlow { st := .synced, role := .standby }, ⟨0, 0⟩, ⟨0x10000000, 3, [], 0, 0⟩, rfl, by unfold State.InOrder; decide +kernel,
     by decide +kernel⟩,
   ⟨wPairSt wFlow { st := .synced, role := .standby }, ⟨0, 0⟩, ⟨0x10000000, 1, [], 0, 0⟩, rfl, by unfold State.InOrder; decide +kernel,
     by decide +kernel⟩,
   ⟨wPairSt (wAdmit.setFlow 1 { rate := 5715 }) { st := .synced, role := .standby }, ⟨0, 0⟩, ⟨0x10000000, 0, wFlowArgs, 5000, 0⟩,
     ((wPairSt (wAdmit.setFlow 1 { rate := 5715 }) { st := .synced, role := .standby } : State).boundOf (flowArgsOf wFlowArgs) []
     5000).getD 0, rfl, by unfold State.InOrder; decide +kernel, by decide +kernel⟩,
   ⟨wPairSt wUp { st := .synced, role := .standby }, ⟨0, 0⟩, rfl, by unfold State.InOrder; decide +kernel, by decide +kernel⟩,
   ⟨wPairSt { wUp with fdb := { cb := [(7, ({ type := 0, hist := 2, resetMs := 1, pop := false, ports := 6 } : CbFn))] } }
     { st := .synced, role := .standby }, ⟨0, 0⟩, ⟨7, 5, 3⟩, { type := 0, hist := 2, resetMs := 1, pop := false, ports := 6 }, rfl,
     by unfold State.InOrder; decide +kernel, by decide +kernel⟩,
   ⟨wPairSt wUp { st := .synced, role := .standby }, ⟨0, 0⟩, rfl, by unfold State.InOrder; decide +kernel,
     by unfold State.MirroredFit; decide +kernel, by decide +kernel⟩,
   ⟨wPairSt wUp { st := .resync, role := .standby }, ⟨0, 0⟩, rfl, by unfold State.InOrder; decide +kernel, by decide +kernel⟩,
   ⟨wReg (wPairSt wUp { st := .resync, role := .standby }) ⟨.pairCfg, 0, 0⟩ 3, ⟨0, 0⟩, rfl, by unfold State.InOrder; decide +kernel,
     by decide +kernel⟩,
   ⟨wPairSt wUp { st := .synced, role := .standby, mirrorOk := true }, ⟨0, 0⟩, rfl, by unfold State.InOrder; decide +kernel,
     by decide +kernel⟩,
   ⟨wPairSt (wTasks wUp) { st := .synced, role := .primary }, rfl, by decide +kernel⟩,
   ⟨wPairSt wUp { queue := [(.role 3, 0)] }, rfl, by decide +kernel⟩,
   ⟨{ wPairSt wAdmit { st := .synced, role := .primary } with sw := { wAdmit.sw with wait := some ({ desc := wCmd wFlowArgs, modify := false, stage := 1, mirror := false, index := 0, f := 0, bound := 5, nf := 2, pool := 0 } : FlowWait), assured := 6000 } },
     { desc := wCmd wFlowArgs, modify := false, stage := 1, mirror := false, index := 0, f := 0, bound := 5, nf := 2, pool := 0 }, rfl,
     by decide +kernel⟩⟩

/-- `PairRequests`: the hypotheses of each clause hold together somewhere. -/
theorem witness_PairRequests :
    (∃ (s : State) (p : Path), s.Up ∧ p.wf = true ∧ s.variant.pair = true ∧ s.unlocked p = false) ∧
    (∃ (s : State) (p : Path) (v : Word), s.Up ∧ p.wf = true ∧ s.variant.pair = true ∧ s.unlocked p = true ∧ s.pairOn = true ∧ fieldOf
      v 0 2 = 2 ∧ s.pair.role = .primary ∧ s.pair.st = .synced ∧ s.pair.mirrorOk = true ∧ s.pair.switchAt = none) ∧
    (∃ (s : State) (p : Path) (v : Word), s.Up ∧ p.wf = true ∧ s.variant.pair = true ∧ s.unlocked p = true ∧ s.pairOn = true ∧ fieldOf
      v 0 2 = 1 ∧ s.pair.role = .standby ∧ s.pair.st = .resync) ∧
    (∃ (s : State) (p : Path) (v : Word), s.Up ∧ p.wf = true ∧ s.variant.pair = true ∧ s.unlocked p = true ∧ s.pairOn = true ∧ fieldOf
      v 0 2 = 1 ∧ s.pair.role = .standby ∧ s.pair.st = .alone ∧ s.pair.follow = false ∧ s.pair.rehearsing = false ∧ s.pair.resyncCmd =
      none) ∧
    (∃ (s : State) (d : CmdDesc), s.Up ∧ s.Accepts d 0xCC01 (s.pairChecks d 12 false false) ∧ d.wf = true ∧ s.pair.role = .standby ∧
      s.pair.st = .synced ∧ s.pair.rehearsing = false) ∧
    (∃ (s : State), s.Up ∧ s.pairOn = true ∧ s.ap Fld.pairCfg_REHEARSE_H ≠ 0 ∧ s.pair.role = .standby ∧ s.pair.st = .synced ∧
      s.pair.rehearsing = false) ∧
    (∃ (s : State) (a m r : Bool) (rate ms : Nat) (d : CmdDesc), s.Up ∧ Instr.wf (.rehearsalEnd a rate m r ms) = true ∧
      s.pair.rehearsing = true ∧ s.pair.rehearseCmd = some d) ∧
    (∃ (s : State) (d : CmdDesc), s.Up ∧ s.Accepts d 0xCC02 (s.pairChecks d 12 true false) ∧ d.wf = true ∧ s.pair.role = .standby ∧
      s.pair.resyncCmd = none ∧ s.pair.st = .isolated) ∧
    (∃ (s : State) (d : CmdDesc), s.Up ∧ s.Accepts d 0xCC02 (s.pairChecks d 12 true false) ∧ s.MirroredFit ∧ d.wf = true ∧ s.pair.role
      = .standby ∧ s.pair.resyncCmd = none ∧ s.pair.st = .synced ∧ s.pair.follow = false ∧ s.pair.rehearsing = false ∧ s.inUse .flow =
      []) ∧
    (∃ (s : State) (d : CmdDesc) (x : CbFn), s.Up ∧ s.Accepts d 0xCC03 (s.pairChecks d 15 true false) ∧ d.wf = true ∧ s.pair.role ≠
      .standby ∧ Tab.find s.fdb.cb (d.arg 12 2) = some x ∧ x.type = 0 ∧ d.arg 12 2 < 1024 ∧ d.arg 14 1 ≤ 2 ∧ s.verBusy [.cb (d.arg 12
      2)] = false) :=
  ⟨⟨wUp, .i2c, rfl, by decide +kernel⟩,
   ⟨wKey (wPairSt wUp { st := .synced, role := .primary, mirrorOk := true }) .pcie, .pcie, 2, rfl, by decide +kernel⟩,
   ⟨wKey (wPairSt wUp { st := .resync, role := .standby }) .pcie, .pcie, 1, rfl, by decide +kernel⟩,
   ⟨wKey (wPairSt wUp { st := .alone, role := .standby }) .pcie, .pcie, 1, rfl, by decide +kernel⟩,
   ⟨wPairSt wUp { st := .synced, role := .standby }, wCmd [], rfl, by unfold State.Accepts; decide +kernel, by decide +kernel⟩,
   ⟨wReg (wPairSt wUp { st := .synced, role := .standby }) ⟨.pairCfg, 0, 0⟩ 0x00180107, rfl, by decide +kernel⟩,
   ⟨wPairSt wUp { st := .synced, role := .standby, rehearsing := true, rehearseCmd := some (wCmd [] : CmdDesc) }, true, true, true, 5,
     6, wCmd [], rfl, by decide +kernel⟩,
   ⟨wPairSt wUp { st := .isolated, role := .standby }, wCmd [], rfl, by unfold State.Accepts; decide +kernel, by decide +kernel⟩,
   ⟨wPairSt wUp { st := .synced, role := .standby }, wCmd [], rfl, by unfold State.Accepts; decide +kernel,
     by unfold State.MirroredFit; decide +kernel, by decide +kernel⟩,
   ⟨wPairSt { wUp with fdb := { cb := [(7, ({ type := 0, hist := 2, resetMs := 1, pop := false, ports := 6 } : CbFn))] } }
     { st := .synced, role := .primary }, wCmd [7, 0, 1], { type := 0, hist := 2, resetMs := 1, pop := false, ports := 6 }, rfl,
     by unfold State.Accepts; decide +kernel, by decide +kernel⟩⟩

/-- `PowerRequests`: the hypotheses of each clause hold together somewhere. -/
theorem witness_PowerRequests :
    (∃ (s : State) (p : Path), s.Up ∧ s.Writable ⟨.pwrReq, 0, 0⟩ ∧ p.wf = true ∧ (p = .pcie ∨ p = .i2c)) ∧
    (∃ (s : State) (e : Nat) (v : Word), s.Up ∧ s.Writable ⟨.pwrReq, 0, 0⟩ ∧ Instr.wf (.pwrRequest (.eng e) v) = true) ∧
    (∃ (s : State) (p : Path), s.Up ∧ s.Writable ⟨.pwrForce, 0, 0⟩ ∧ p.wf = true ∧ s.unlocked p = false) ∧
    (∃ (s : State) (p : Path), s.Up ∧ s.Writable ⟨.pwrForce, 0, 0⟩ ∧ p.wf = true ∧ s.unlocked p = true) ∧
    (∃ (s : State) (p : Path), s.Up ∧ s.Writable ⟨.pwrPadRel, 0, 0⟩ ∧ p.wf = true) :=
  ⟨⟨wUp, .pcie, rfl, by unfold State.Writable; decide +kernel, by decide +kernel⟩,
   ⟨wUp, 3, 1, rfl, by unfold State.Writable; decide +kernel, by decide +kernel⟩,
   ⟨wUp, .i2c, rfl, by unfold State.Writable; decide +kernel, by decide +kernel⟩,
   ⟨wKey wUp .pcie, .pcie, rfl, by unfold State.Writable; decide +kernel, by decide +kernel⟩,
   ⟨wPwr { wUp.pwr with padHeld := 7 }, .pcie, rfl, by unfold State.Writable; decide +kernel, by decide +kernel⟩⟩

/-- `EntryAndWake`: the hypotheses of each clause hold together somewhere. -/
theorem witness_EntryAndWake :
    (∃ (s : State), s.Up ∧ (∀ d, s.heldDown d = false) ∧ s.pwr.seq = .entry 2 ∧ s.pwr.outGroups = [] ∧ s.pwr.pend = none) ∧
    (∃ (s : State), s.Up ∧ s.pwr.forced = false ∧ s.pwr.seq = .idle ∧ s.wakeTarget < s.pwr.state ∧ s.pwr.state ≠ 3 ∧ bitAt (s.ap
      Fld.pwrWakeEn_VAL) 0 = true) ∧
    (∃ (s : State), s.Up ∧ s.pwr.forced = false ∧ s.pwr.seq = .idle ∧ s.wakeTarget < s.pwr.state ∧ s.pwr.state ≠ 3 ∧ bitAt (s.ap
      Fld.pwrWakeEn_VAL) 1 = true) ∧
    (∃ (s : State), s.Up ∧ s.pwr.forced = false ∧ s.pwr.seq = .idle ∧ s.wakeTarget < s.pwr.state ∧ s.pwr.state ≠ 3 ∧ bitAt (s.ap
      Fld.pwrWakeEn_VAL) 2 = true ∧ s.ap Fld.pwrWakeTimer_VAL ≠ 0) ∧
    (∃ (s : State), s.Up ∧ bitAt (s.ap Fld.pwrWakeEn_VAL) 0 = false) ∧
    (∃ (s : State) (l : List Nat), s.Up ∧ s.pwr.seq = .wake 2 ∧ l ≠ [] ∧ l = s.allDoms.filter (fun d => s.heldDown d && !(s.downIn
      s.pwr.target s.pwr.trim d))) ∧
    (∃ (s : State) (cause : Nat), s.Up ∧ Instr.wf (.pwrWakeSupplyTimeout cause) = true ∧ s.pwr.seq = .wake 2 ∧ s.pwr.pend = none) ∧
    (∃ (s : State) (d x : Nat), s.Up ∧ Instr.wf (.pwrSwitchTimeout d) = true ∧ s.pwr.seq = .wake 3 ∧ d ∈ s.pwr.wakeDoms ∧ x ∈
      s.pwr.wakeDoms ∧ x ≠ d) ∧
    (∃ (s : State) (d x : Nat), s.Up ∧ Instr.wf (.pwrSwitchTimeout d) = true ∧ s.pwr.seq = .wake 3 ∧ d ∈ s.pwr.wakeDoms ∧ x ∈
      s.pwr.wakeDoms ∧ x ≠ d ∧ d < 14) ∧
    (∃ (s : State), s.Up ∧ s.pwr.seq = .wake 6 ∧ s.pwr.target = 0 ∧ s.pwr.pend = none) :=
  ⟨⟨wPwr { wUp.pwr with seq := .entry 2, target := 1 }, rfl, held_none rfl rfl rfl rfl rfl, by decide +kernel⟩,
   ⟨wPwr { wUp.pwr with state := 2, target := 2 }, rfl, by decide +kernel⟩,
   ⟨wReg (wPwr { wUp.pwr with state := 2, target := 2 }) ⟨.pwrWakeEn, 0, 0⟩ 0xF, rfl, by decide +kernel⟩,
   ⟨wReg (wReg (wPwr { wUp.pwr with state := 2, target := 2 }) ⟨.pwrWakeEn, 0, 0⟩ 0xF) ⟨.pwrWakeTimer, 0, 0⟩ 5, rfl, by decide +kernel⟩,
   ⟨wReg (wPwr { wUp.pwr with state := 2, target := 2 }) ⟨.pwrWakeEn, 0, 0⟩ 0xE, rfl, by decide +kernel⟩,
   ⟨wPwr { wUp.pwr with seq := .wake 2, state := 2, dom := [(1, .off), (19, .off)] }, (wPwr
     { wUp.pwr with seq := .wake 2, state := 2, dom := [(1, .off), (19, .off)] } : State).allDoms.filter (fun d => (wPwr
     { wUp.pwr with seq := .wake 2, state := 2, dom := [(1, .off), (19, .off)] } : State).heldDown d && !((wPwr
     { wUp.pwr with seq := .wake 2, state := 2, dom := [(1, .off), (19, .off)] } : State).downIn (wPwr
     { wUp.pwr with seq := .wake 2, state := 2, dom := [(1, .off), (19, .off)] } : State).pwr.target (wPwr
     { wUp.pwr with seq := .wake 2, state := 2, dom := [(1, .off), (19, .off)] } : State).pwr.trim d)), rfl, by decide +kernel⟩,
   ⟨wPwr { wUp.pwr with seq := .wake 2, state := 2 }, 1, rfl, by decide +kernel⟩,
   ⟨wPwr { wUp.pwr with seq := .wake 3, state := 2, wakeDoms := [1, 2], dom := [(1, .off), (2, .off)] }, 1, 2, rfl, by decide +kernel⟩,
   ⟨wPwr { wUp.pwr with seq := .wake 3, state := 2, wakeDoms := [1, 2], dom := [(1, .off), (2, .off)] }, 1, 2, rfl, by decide +kernel⟩,
   ⟨wPwr { wUp.pwr with seq := .wake 6, state := 2 }, rfl, by decide +kernel⟩⟩

/-- `Resets`: the hypotheses of each clause hold together somewhere. -/
theorem witness_Resets :
    (∃ (s : State), s.pers.busy = []) ∧
    (∃ (s : State) (ns : Nat), s.Up ∧ ns ≤ 500) ∧
    (∃ (s : State) (ns : Nat), s.Up ∧ 1000 ≤ ns ∧ bitAt (s.pers! 0).toNat 2 = false) ∧
    (∃ (s : State) (ns : Nat), s.Up ∧ 1000 ≤ ns ∧ bitAt (s.pers! 0).toNat 2 = true) ∧
    (∃ (s : State) (p : Path), s.Up ∧ p.wf = true ∧ s.unlocked p = false) ∧
    (∃ (s : State) (p : Path) (v : Word), s.Up ∧ p.wf = true ∧ s.unlocked p = true ∧ bitAt v.toNat 0 = true ∧ s.boot.straps.noFlash =
      true) :=
  ⟨⟨wUp, by decide +kernel⟩,
   ⟨wUp, 500, rfl, by decide +kernel⟩,
   ⟨wUp, 1000, rfl, by decide +kernel⟩,
   ⟨{ wUp with pers := { words := [(0, 4)] } }, 1000, rfl, by decide +kernel⟩,
   ⟨wUp, .i2c, rfl, by decide +kernel⟩,
   ⟨{ wKey wUp .pcie with boot := { straps := { noFlash := true } } }, .pcie, 1, rfl, by decide +kernel⟩⟩

/-- `BootAndFlash`: the hypotheses of each clause hold together somewhere. -/
theorem witness_BootAndFlash :
    (∃ (s : State), s.pwr.inReset = false ∧ s.isReady Rdy.sys = true) ∧
    (∃ (s : State) (x : Straps), s.pwr.inReset = true ∧ x.test = true) ∧
    (∃ (s : State) (x : Straps), s.pwr.inReset = true ∧ x.test = false ∧ x.noFlash = true) ∧
    (∃ (s : State), s.Up ∧ (s.boot.cmds = [] ∨ s.boot.running = true)) ∧
    (∃ (s : State) (raw : List Byte) (l : List (List Byte)), s.Up ∧ s.boot.cmds = raw :: l ∧ s.boot.running = false ∧ (opReady (leAt
      raw 0 2)).any (fun b => !(s.isReady b)) = true) ∧
    (∃ (s : State) (d : CmdDesc), s.Up ∧ s.memWf ∧ s.Accepts d 0x8001 (s.flashChecks d true 64) ∧ d.wf = true ∧ s.boot.straps.noFlash =
      false ∧ (s.calSlot false).valid = false ∧ (s.calSlot true).valid = false ∧ (∀ b, b < 32 → s.bankOn b = true) ∧ (∀ b, b < 32 →
      s.bankFw b = true → rangesMeet (d.arg 16 4) (d.arg 20 4) (b * 262144) 262144 = false)) ∧
    (∃ (s : State) (d : CmdDesc), s.Up ∧ s.memWf ∧ s.Accepts d 0x8002 { s.flashChecks d true 4096 with guarded := true } ∧ d.wf = true
      ∧ s.boot.straps.noFlash = false ∧ s.cal.saving = none ∧ (∀ b, b < 32 → s.bankOn b = true)) ∧
    (∃ (s : State) (c : Nat), c < 256 ∧ (s.pwr.inReset = true ∨ scanCode c = s.pwr.scan)) ∧
    (∃ (s : State) (c : Nat), c < 256 ∧ s.pwr.inReset = false ∧ scanCode c = true ∧ s.pwr.scan = false) :=
  ⟨⟨wUp, by decide +kernel⟩,
   ⟨wPwr { wUp.pwr with inReset := true }, { test := true }, by decide +kernel⟩,
   ⟨wPwr { wUp.pwr with inReset := true }, { noFlash := true }, by decide +kernel⟩,
   ⟨wUp, rfl, by decide +kernel⟩,
   ⟨{ wUp with ready := 1, boot := { cmds := [([1, 3, 0, 0] ++ List.replicate 28 0 : List Byte)] } }, [1, 3, 0, 0] ++ List.replicate 28
     0, [], rfl, by decide +kernel⟩,
   ⟨wUp, wCmd ([0, 0, 0, 0, 64, 0, 0, 0, 64, 0, 0, 0]), rfl, by unfold State.memWf; decide +kernel,
     by unfold State.Accepts; decide +kernel, by decide +kernel⟩,
   ⟨wKey wUp (.eng 0), { wCmd ([0, 16, 0, 0, 0, 16, 0, 0, 0, 16, 0, 0]) with src := .eng 0 }, rfl,
     by unfold State.memWf; decide +kernel, by unfold State.Accepts; decide +kernel, by decide +kernel⟩,
   ⟨wUp, 10, by decide +kernel⟩,
   ⟨wUp, 0, by decide +kernel⟩⟩

end Sys2Proof.Tests
end

section
/-! ## SYS_KEY of each path (R36, R38)

Every operation of this family rebinds the unlock state of one path. What such a rebinding does is said once (`State.gives_withKey`),
and each operation is shown to be one. -/

namespace Sys2Proof.Machine

/-- The state in which the unlock state of path `p` is `x`. -/
def State.withKey (s : State) (p : Path) (x : KeySt) : State := { s with keys := Tab.set s.keys p x }

@[simp] theorem State.key_withKey_self (s : State) (p : Path) (x : KeySt) : (s.withKey p x).key p = x :=
  Tab.get_set_self _ s.keys p x

theorem State.key_withKey_ne (s : State) {p q : Path} (x : KeySt) (h : q ≠ p) : (s.withKey p x).key q = s.key q :=
  Tab.get_set_ne _ s.keys p q x h

@[simp] theorem State.key_carry (t s : State) (p : Path) : (t.carry s).key p = t.key p := rfl

theorem State.withKey_touches (s : State) (p : Path) (x : KeySt) : Touches [.keys] s (s.withKey p x) :=
  (Touches.refl _ s).set_keys rfl

/-- A command that rebinds the unlock state of one path leaves every other path's, and the rest of the state, alone (R36). -/
theorem State.gives_withKey {c : Instr} {ok : Bool} {s : State} {p : Path} {x : KeySt} (hc : exec c s = effect ok s (s.withKey p x))
    (hup : s.Up) (hok : ok = true) :
    Gives c s (fun t => t.key p = x ∧ (∀ q, q ≠ p → t.key q = s.key q) ∧ Touches [.keys] s t) :=
  gives_effect hc hup hok ⟨by simp, fun _ hq => s.key_withKey_ne x hq, (s.withKey_touches p x).carry⟩

/-! ### What a write of SYS_KEY does -/

/-- The instants of the wrong keys of the second before `now`, with the one that arrives now. -/
def KeySt.window (x : KeySt) (now : Nat) : List Nat := now :: x.wrong.filter (fun a => decide (now < a + 10 ^ 12))

/-- The unlock state that a wrong key at `now` leaves: locked, counted, and blocked when it is the sixteenth of the second (R36, R38). -/
def KeySt.afterWrong (x : KeySt) (now : Nat) : KeySt :=
  { unlocked := false, blocked := decide (16 ≤ (x.window now).length), failCnt := min 255 (x.failCnt + 1)
    wrong := if decide (16 ≤ (x.window now).length) then [] else x.window now }

/-- The wrong key that arrives is one of the sixteen: fifteen before it in the second block the path. -/
theorem KeySt.afterWrong_blocked (x : KeySt) (now : Nat) :
    (x.afterWrong now).blocked = decide (15 ≤ (x.wrong.filter (fun a => decide (now < a + 10 ^ 12))).length) := by
  simp [KeySt.afterWrong, KeySt.window]

/-- A blocked path takes no key (R38). -/
theorem State.keyWrite_of_blocked {s : State} {p : Path} (v : Word) (hb : (s.key p).blocked = true) : s.keyWrite p v = s := by
  simp [State.keyWrite, hb]

theorem State.keyWrite_unlocks {s : State} {p : Path} (hp : p ≠ .boot) (hb : (s.key p).blocked = false) :
    s.keyWrite p 0x7E1A = s.withKey p { s.key p with unlocked := true } := by
  simp [State.keyWrite, State.withKey, hp, hb]

theorem State.keyWrite_of_wrong {s : State} {p : Path} {v : Word} (hp : p ≠ .boot) (hb : (s.key p).blocked = false) (hv : v ≠ 0x7E1A) :
    s.keyWrite p v = s.withKey p ((s.key p).afterWrong s.clk.now) := by
  simp only [State.keyWrite, hp, hb, hv, Bool.false_eq_true, or_self, if_false]
  rfl

/-! ### The statement -/

/-- Settles O10: each command of the family rebinds the unlock state of its own path, and a key on a blocked path rebinds none. -/
theorem keyPerPath : Obligations.KeyPerPath := by
  refine ⟨?unlock, ?wrong, ?blocked, ?unlockExpire, ?blockExpire⟩
  case unlock =>
    intro s p hup hwf hp hb
    exact State.gives_withKey (congrArg (effect p.wf s) (State.keyWrite_unlocks hp hb)) hup hwf
  case wrong =>
    intro s p v hup hwf hp hb hv
    have rebinds := State.gives_withKey (c := .sysKeyWrite p v) (congrArg (effect p.wf s) (State.keyWrite_of_wrong hp hb hv)) hup hwf
    refine rebinds.imp ?_
    rintro t ⟨hkey, hothers, hframe⟩
    exact ⟨by rw [hkey]; rfl, by rw [hkey]; rfl, by rw [hkey, KeySt.afterWrong_blocked], hothers, hframe⟩
  case blocked =>
    intro s p v hup hwf hb
    exact gives_effect (congrArg (effect p.wf s) (State.keyWrite_of_blocked v hb)) hup hwf (Touches.refl [] s).carry
  case unlockExpire =>
    intro s p hup hwf
    exact State.gives_withKey (x := { s.key p with unlocked := false }) rfl hup hwf
  case blockExpire =>
    intro s p hup hwf
    exact State.gives_withKey (x := { s.key p with blocked := false }) rfl hup hwf

end Sys2Proof.Machine
end

section
/-! ## Enabling a ring after a scrubbed word (R33, R39, R56)

HOST is in retention while a write of HIF_RING_CTRL.CPL arrives: it is held (R33), and the written copy alone takes it. The scrubber
then removes the held write (R39), so the applied copy keeps the binding to ring 48 when HOST is on again. Enabling the ring stores
its control word, and that store applies every IMM field of the written copy: the ring starts from the binding that the scrubber had
discarded, not from the one on which the host interface runs. -/

namespace Sys2Proof.Machine

/-- Two properties that a command gives are properties of one next state. -/
theorem Gives.both {c : Instr} {s : State} {P Q : State → Prop} (hp : Gives c s P) (hq : Gives c s Q) : ∃ t, P t ∧ Q t := by
  obtain ⟨t, ht, hP⟩ := hp
  obtain ⟨u, hu, hQ⟩ := hq
  obtain rfl : t = u := Host.Outcome.next.inj (ht.symm.trans hu)
  exact ⟨t, hP, hQ⟩

/-- The state that commands lead to, given by their meanings in order; one that answers no next state changes nothing. -/
def State.afterAll (s : State) (meanings : List (State → Host.Outcome State Fault Refusal)) : State :=
  meanings.foldl (fun s run => match run s with
    | .next t => t
    | _ => s) s

/-- A wake from REST awaits the switch of HOST, domain 18, which is still in retention (R399). -/
def hostWaking : State :=
  { State.reset with pwr := { seq := .wake 3, from' := 2, dom := [(18, .retention)], wakeDoms := [18] } }

/-- A write over I²C binds ring 3 to completion ring 49 and is held for HOST; the scrubber discards it; HOST is on again, the link
trains, rings 48 and 3 get 64 descriptors, and ring 48 runs.  The written copy of ring 3 names ring 49, the applied copy ring 48. -/
def strayBinding : State :=
  hostWaking.afterAll
    [execI2cWriteTransfer (ringAddr .hifRingCtrl 3) [{ mask := 0x1C, data := 0x04 }], execCfgScrubPass [ringAddr .hifRingCtrl 3],
     execPwrSwitchGood 18, execPcieLinkUp 4 8 256 { mrrs := 512, tag10 := false, bme := true },
     execRingCfgWrite 48 .size 6, execRingCfgWrite 3 .size 6, execRingEnable 48]

theorem strayBinding_up : strayBinding.Up := by
  unfold State.Up
  decide +kernel

theorem strayBinding_writable : strayBinding.Writable ⟨.hifRingCtrl, 3, 0⟩ := by
  unfold State.Writable
  decide +kernel

/-- Ring 3 meets the conditions of R56 in the applied copies. -/
theorem strayBinding_meets_enable_conditions :
    (strayBinding.ring 3).state = .disabled ∧ strayBinding.hif.busMaster = true ∧ strayBinding.ap Fld.hifRingSize_LOG2 3 = 6 ∧
    (strayBinding.ring 3).dbStored = none ∧ (strayBinding.ring (strayBinding.cplRing 3)).state = .run := by
  decide +kernel

/-- RING_ENABLE puts ring 3 in ERROR all the same: cause 5, for ring 49, which is DISABLED. -/
theorem strayBinding_enable_errs :
    Gives (.ringEnable 3) strayBinding (fun t => (t.ring 3).state = .error ∧ (t.ring 3).errCause = 5) :=
  gives_effect rfl strayBinding_up rfl (by decide +kernel)

/-! ### The statement -/

/-- Refutes O13: its third clause lets a ring run when its applied CPL names a completion ring in RUN, but the enable goes by the written
CPL, which names another ring once the scrubber has discarded a held write. -/
theorem not_ringControl : ¬ Obligations.RingControl := by
  unfold Obligations.RingControl
  rintro ⟨-, -, enableRuns, -⟩
  obtain ⟨hdisabled, hmaster, hsize, hdoorbell, hbound⟩ := strayBinding_meets_enable_conditions
  have runs := enableRuns strayBinding 3 strayBinding_up (by decide) strayBinding_writable hdisabled hmaster (by omega) (by omega)
    hdoorbell (.inr hbound)
  obtain ⟨t, ⟨hrun, -⟩, herror, -⟩ := runs.both strayBinding_enable_errs
  rw [hrun] at herror
  nomatch herror

end Sys2Proof.Machine
end

section
/-! ## Electrical idle, the fast exit and its failure (R110 to R112)

Each of the three operations is said once, branch by branch, in terms of the loss of LOCK, the full retrain and the IDL point; what
these do to a lane stands in `Laws/Lane.lean`. -/

namespace Sys2Proof.Machine

/-! ### The other lanes -/

theorem OtherLanes.setLane (s : State) (n : Nat) (x : Lane) : OtherLanes n s (s.setLane n x) :=
  fun m hm => s.lane_setLane_ne n m x hm

theorem OtherLanes.trans {n : Nat} {s t u : State} (h : OtherLanes n s t) (k : OtherLanes n t u) : OtherLanes n s u :=
  fun m hm => (k m hm).trans (h m hm)

theorem OtherLanes.retrain {s : State} {n : Nat} (hon : s.laneOn n = true) : OtherLanes n s (s.retrain n) :=
  fun m hm => (s.retrain_lane n m hon).trans (if_neg hm)

theorem OtherLanes.laneUnlock (s : State) (n : Nat) : OtherLanes n s (s.laneUnlock n) :=
  fun m hm => (s.laneUnlock_lane n m).trans (if_neg hm)

theorem AdaptOnly.otherLanes {n : Nat} {s t : State} (h : AdaptOnly n s t) : OtherLanes n s t := fun m => (h m).2

/-! ### The lane itself -/

theorem State.laneOn_setLane (s : State) (n m : Nat) (x : Lane) : (s.setLane n x).laneOn m = s.laneOn m := rfl

theorem State.laneOn_bump (s : State) (f : FieldRef) (i k m : Nat) : (s.bump f i k).laneOn m = s.laneOn m := rfl

@[simp] theorem Lane.unlocked_lock (l : Lane) : l.unlocked.lock = false := by
  unfold Lane.unlocked
  split
  · rfl
  · next hlock => exact Bool.eq_false_iff.mpr hlock

@[simp] theorem Lane.unlocked_base (l : Lane) : l.unlocked.base = l.base := by
  unfold Lane.unlocked
  split <;> rfl

@[simp] theorem Lane.unlocked_sig (l : Lane) : l.unlocked.sig = l.sig := by
  unfold Lane.unlocked
  split <;> rfl

/-- The lane on which a full retrain has started (R104). -/
theorem State.retrain_lane_self {s : State} {n : Nat} (hon : s.laneOn n = true) : (s.retrain n).lane n = { (s.lane n).unlocked with
    train := .full, cdr := false, qValid := false, proposed := none, stepBack := false, retrainPend := false } :=
  (s.retrain_lane n n hon).trans (if_pos rfl)

/-! ### Entry (R110) -/

/-- A lane without LOCK that loses its signal at `now` and temperature `temp`: adaptation is frozen, the idle start is recorded. -/
def Lane.idled (l : Lane) (now : Nat) (temp : Int) (mode : Nat) : Lane :=
  { l with
    sig := false, cdr := false, frozen := if l.frozen = 0 then 3 else l.frozen, calm := 0, proposed := none, stepBack := false
    train := if l.train = .full then .full else .down, idleAt := now, idleTemp := temp, idleMode := mode }

/-- The lane of `s` as the entry leaves it, before what its IDL point applies. -/
def State.idledLane (s : State) (n : Nat) (temp : Int) : Lane := (s.lane n).unlocked.idled s.clk.now temp (s.quadMode (n / 4))

/-- The entry drops LOCK, records the idle start, loses the lane's job, and is an IDL point. -/
theorem State.elecIdleEntry_of_sig {s : State} {n : Nat} {temp : Int} (hon : s.laneOn n = true) (hsig : (s.lane n).sig = true) :
    s.elecIdleEntry n temp =
      (((s.laneUnlock n).setLane n (s.idledLane n temp)).calLose (fun t i => t == 0 && i == n)).idleApply n := by
  have hlane : (s.laneUnlock n).lane n = (s.lane n).unlocked := (s.laneUnlock_lane n n).trans (if_pos rfl)
  simp only [State.elecIdleEntry, hon, hsig, Bool.not_true, Bool.or_self, Bool.false_eq_true, if_false, hlane]
  rfl

/-- After the loss of LOCK and of the signal, the entry changes the lane's peaking and quality alone. -/
theorem State.elecIdleEntry_adapt {s : State} {n : Nat} {temp : Int} (hon : s.laneOn n = true) (hsig : (s.lane n).sig = true) :
    AdaptOnly n ((s.laneUnlock n).setLane n (s.idledLane n temp)) (s.elecIdleEntry n temp) := by
  rw [State.elecIdleEntry_of_sig hon hsig]
  exact (AdaptOnly.of_lanes (State.calLose_lanes _ _)).trans (State.idleApply_adapt _ n)

theorem State.elecIdleEntry_core {s : State} {n : Nat} {temp : Int} (hon : s.laneOn n = true) (hsig : (s.lane n).sig = true) :
    ((s.elecIdleEntry n temp).lane n).core = (s.idledLane n temp).core := by
  have hcore := (State.elecIdleEntry_adapt (temp := temp) hon hsig n).1
  rwa [State.lane_setLane] at hcore

theorem State.elecIdleEntry_others {s : State} {n : Nat} {temp : Int} (hon : s.laneOn n = true) (hsig : (s.lane n).sig = true) :
    OtherLanes n s (s.elecIdleEntry n temp) :=
  ((OtherLanes.laneUnlock s n).trans (OtherLanes.setLane _ n _)).trans (State.elecIdleEntry_adapt hon hsig).otherLanes

/-! ### Exit (R111) -/

section Exit

variable {s : State} {n ms : Nat} {temp : Int} (hon : s.laneOn n = true) (hidle : (s.lane n).sig = false)
include hon hidle

/-- A lane in a full retrain goes on with it. -/
theorem State.elecIdleExit_of_full (hfull : (s.lane n).train = .full) :
    s.elecIdleExit n ms temp = s.setLane n { s.lane n with sig := true } := by
  simp [State.elecIdleExit, hon, hidle, hfull]

/-- An exit that qualifies is fast. -/
theorem State.elecIdleExit_of_fast (htrain : (s.lane n).train ≠ .full) (hfast : s.fastExitOk n ms temp = true) :
    s.elecIdleExit n ms temp =
      (s.setLane n { s.lane n with sig := true }).setLane n { s.lane n with sig := true, train := .fast, cdr := true } := by
  simp [State.elecIdleExit, hon, hidle, htrain, hfast]

/-- An exit that does not qualify runs a full retrain. -/
theorem State.elecIdleExit_of_slow (htrain : (s.lane n).train ≠ .full) (hslow : s.fastExitOk n ms temp = false) :
    s.elecIdleExit n ms temp = (s.setLane n { s.lane n with sig := true }).retrain n := by
  simp [State.elecIdleExit, hon, hidle, htrain, hslow]

/-- Whatever it was doing, the lane is in a full retrain with its signal back after an exit that does not qualify. -/
theorem State.elecIdleExit_full (hslow : s.fastExitOk n ms temp = false) :
    ((s.elecIdleExit n ms temp).lane n).sig = true ∧ ((s.elecIdleExit n ms temp).lane n).train = .full ∧
    OtherLanes n s (s.elecIdleExit n ms temp) := by
  by_cases htrain : (s.lane n).train = .full
  · rw [State.elecIdleExit_of_full hon hidle htrain]
    exact ⟨by simp, by simpa using htrain, OtherLanes.setLane s n _⟩
  · rw [State.elecIdleExit_of_slow hon hidle htrain hslow]
    have hon' := (s.laneOn_setLane n n { s.lane n with sig := true }).trans hon
    exact ⟨by simp [State.retrain_lane_self hon'], by simp [State.retrain_lane_self hon'],
      (OtherLanes.setLane s n _).trans (OtherLanes.retrain hon')⟩

end Exit

/-! ### The abandoned fast exit (R112) -/

theorem State.fastExitFail_of_fast {s : State} {n : Nat} (hfast : (s.lane n).train = .fast) :
    s.fastExitFail n = (s.bump Fld.laneExitCnt_FAILS n).retrain n := by
  simp [State.fastExitFail, hfast]

/-- The start of a retrain counts no failed exit; a full retrain is counted at its end (log entry 29). -/
theorem State.retrain_fails (s : State) (n i : Nat) :
    (s.retrain n).count Fld.laneExitCnt_FAILS i = s.count Fld.laneExitCnt_FAILS i :=
  State.count_of_rc (State.retrain_touches (ps := retrainParts) s n rfl (.rc .laneExitCnt) rfl)

theorem State.fastExitFail_counts {s : State} {n : Nat} (hfast : (s.lane n).train = .fast) :
    (s.fastExitFail n).count Fld.laneExitCnt_FAILS n = s.counted Fld.laneExitCnt_FAILS n := by
  rw [State.fastExitFail_of_fast hfast, State.retrain_fails]
  exact s.count_bump _ n 1 (by decide)

/-! ### The statement -/

/-- Settles O22: an entry drops the signal and LOCK and records where the idle began, an exit is fast exactly when it qualifies, and a
fast exit that fails is counted and becomes a full retrain. -/
theorem laneIdle : Obligations.LaneIdle := by
  refine ⟨?entry, ?fast, ?slow, ?fail⟩
  case entry =>
    intro s n temp hup hn hon hsig
    have hcore := State.elecIdleEntry_core (temp := temp) hon hsig
    have hlock := (s.lane n).unlocked_lock
    have hbase := (s.lane n).unlocked_base
    exact gives_effect rfl hup (decide_eq_true hn)
      ⟨congrArg Lane.sig hcore, (congrArg Lane.lock hcore).trans hlock, congrArg Lane.cdr hcore,
        (congrArg Lane.base hcore).trans hbase, congrArg Lane.idleAt hcore, congrArg Lane.idleTemp hcore,
        congrArg Lane.idleMode hcore, State.elecIdleEntry_others hon hsig, (State.elecIdleEntry_touches s n temp rfl).carry⟩
  case fast =>
    intro s n ms temp hup hn hon hidle htrain hfast
    refine gives_effect (congrArg (effect (lanePort n) s) (State.elecIdleExit_of_fast hon hidle htrain hfast)) hup (decide_eq_true hn) ?_
    exact ⟨State.lane_setLane _ n _, (OtherLanes.setLane s n _).trans (OtherLanes.setLane _ n _),
      ((State.setLane_touches s n _ rfl).step (State.setLane_touches _ n _ rfl)).carry⟩
  case slow =>
    intro s n ms temp hup hn hon hidle hslow
    obtain ⟨hsig, htrain, hothers⟩ := State.elecIdleExit_full hon hidle hslow
    exact gives_effect rfl hup (decide_eq_true hn)
      ⟨hsig, htrain, hothers, (State.elecIdleExit_touches s n ms temp rfl).carry⟩
  case fail =>
    intro s n hup hn hon hfast
    have hon' := (s.laneOn_bump Fld.laneExitCnt_FAILS n 1 n).trans hon
    have hlane := State.retrain_lane_self hon'
    rw [← State.fastExitFail_of_fast hfast] at hlane
    have hothers : OtherLanes n s (s.fastExitFail n) := State.fastExitFail_of_fast hfast ▸ OtherLanes.retrain hon'
    exact gives_effect rfl hup (decide_eq_true hn)
      ⟨congrArg Lane.train hlane, congrArg Lane.cdr hlane, congrArg Lane.qValid hlane, State.fastExitFail_counts hfast, hothers,
        (State.fastExitFail_touches s n rfl).carry⟩

end Sys2Proof.Machine
end

section
/-! ## Every step, and the state after reset -/

set_option Elab.async false

namespace Sys2Proof.Machine

/-- Settles O1: the front command is taken out of the queue before it runs. -/
theorem stepTakesFront : Obligations.StepTakesFront := fun _ _ _ => rfl

/-! ### The state after reset (R437) -/

/-- No path has an unlock in the empty table of keys. -/
theorem State.unlocked_reset (p : Path) : State.reset.unlocked p = false := by
  simp [State.unlocked, show State.reset.key p = {} from rfl]

/-- LANE_TX_EQ apart, a register that nothing has written holds the reset word of its table. -/
theorem State.written_reset {k : RegKey} (hk : k.name ≠ .laneTxEq) : State.reset.written k = k.reset :=
  if_neg (fun h => hk h.1)

/-- Settles O3: each part of `State.reset` is given outright, and the register files list no word, so both copies read as the table's. -/
theorem resetState : Obligations.ResetState :=
  ⟨rfl, rfl, ⟨rfl, rfl⟩, State.unlocked_reset, rfl, rfl, fun _ => rfl, fun _ => ⟨rfl, fun _ => rfl⟩, rfl, rfl, rfl, rfl, rfl, rfl,
    fun _ => rfl, fun _ => State.written_reset, fun _ => rfl⟩

/-! ### What every command answers -/

/-- The commands that reach a part in reset: the reset inputs, the test access port, and what KEEP_TIME leaves running (R404, R437, R442). -/
def reachesReset (c : Instr) : Prop :=
  c = .powerOnReset ∨ (∃ x, c = .bootStart x) ∨ (∃ n, c = .jtagUpdateIr n) ∨ (∃ n, c = .ppsOutPulse n) ∨ (∃ n, c = .ppsPulseEnd n) ∨
    c = .secondBoundary

/-- Every command answers by `effect` under its own well-formedness, or by `effectInReset` when it reaches a part in reset. -/
theorem exec_eq_effect (c : Instr) (s : State) :
    ∃ t, exec c s = effect c.wf s t ∨ (exec c s = effectInReset c.wf s t ∧ reachesReset c) := by
  cases c
  case powerOnReset => exact ⟨_, .inr ⟨rfl, by simp [reachesReset]⟩⟩
  case bootStart => exact ⟨_, .inr ⟨rfl, by simp [reachesReset]⟩⟩
  case jtagUpdateIr => exact ⟨_, .inr ⟨rfl, by simp [reachesReset]⟩⟩
  case ppsOutPulse => exact ⟨_, .inr ⟨rfl, by simp [reachesReset]⟩⟩
  case ppsPulseEnd => exact ⟨_, .inr ⟨rfl, by simp [reachesReset]⟩⟩
  case secondBoundary => exact ⟨_, .inr ⟨rfl, by simp [reachesReset]⟩⟩
  all_goals exact ⟨_, .inl rfl⟩

theorem State.carry_sameId (t s : State) : SameId s (t.carry s) := ⟨rfl, rfl⟩

/-- A next state of a command is the state itself, or its effect with the queue and the identity carried over. -/
theorem exec_next {c : Instr} {s t : State} (h : exec c s = .next t) : SameId s t ∧ t.pending = s.pending := by
  obtain ⟨u, hc | ⟨hc, -⟩⟩ := exec_eq_effect c s <;> rw [hc] at h
  · unfold effect at h
    split at h
    · split at h <;> cases h <;> exact ⟨⟨rfl, rfl⟩, rfl⟩
    · cases h
  · unfold effectInReset at h
    split at h <;> cases h
    exact ⟨u.carry_sameId s, rfl⟩

theorem exec_completes {c : Instr} (s : State) (hok : c.wf = true) : ∃ t, exec c s = .next t := by
  obtain ⟨u, hc | ⟨hc, -⟩⟩ := exec_eq_effect c s
  · by_cases hr : s.pwr.inReset = true
    · exact ⟨s, hc.trans (effect_held hr hok)⟩
    · exact ⟨_, hc.trans (effect_next (Bool.eq_false_iff.mpr hr) hok)⟩
  · exact ⟨_, hc.trans (effectInReset_next hok)⟩

/-- Settles O5, from the form that every command's meaning has. -/
theorem everyCommandCompletes : Obligations.EveryCommandCompletes := by
  intro c s
  obtain ⟨u, hform⟩ := exec_eq_effect c s
  refine ⟨fun hok => ?completes, fun hill => ?refused, fun hok hr => ?held⟩
  case completes =>
    obtain ⟨t, ht⟩ := exec_completes s hok
    exact ⟨t, ht, exec_next ht⟩
  case refused =>
    obtain hc | ⟨hc, -⟩ := hform
    · exact hc.trans (effect_ill hill)
    · exact hc.trans (effectInReset_ill hill)
  case held =>
    obtain hc | ⟨-, hreach⟩ := hform
    · exact .inl (hc.trans (effect_held hr hok))
    · exact .inr hreach

/-! ### An empty queue (log entry 2) -/

/-- Both cores count on by `d` units. -/
theorem Clock.shift_nat (c : Clock) (d : Nat) : c.shift d = { c with tcA := c.tcA + d, tcB := c.tcB + d } := rfl

/-- The state one period of TIME on, before a second boundary is taken. -/
def State.ticked (s : State) : State :=
  { s with clk := { s.clk with
      tcA := s.clk.tcA + periodUnits s.clk.rate, tcB := s.clk.tcB + periodUnits s.clk.rate, now := s.clk.now + 1600 } }

theorem State.ticked_tod (s : State) : s.ticked.tod = s.tod + periodUnits s.clk.rate := by
  unfold State.tod State.ticked
  split <;> rfl

theorem State.timePeriod_eq (s : State) :
    s.timePeriod = if s.clk.secDone < (s.tod + periodUnits s.clk.rate) / unitsPerS then s.ticked.atSecond else s.ticked := by
  rw [← s.ticked_tod]
  rfl

theorem State.atSecond_pending (s : State) : s.atSecond.pending = s.pending :=
  State.atSecond_touches (ps := Part.others .pending) s rfl .pending rfl

theorem State.idleTick_pending (s : State) : s.idleTick.pending = s.pending := by
  unfold State.idleTick
  split
  · split <;> rfl
  · split
    · rw [State.timePeriod_eq]
      split
      · exact s.ticked.atSecond_pending
      · rfl
    · rfl

/-- Settles O2, branch by branch of the idle tick. -/
theorem emptyQueueTick : Obligations.EmptyQueueTick := by
  intro s hempty
  refine ⟨s.idleTick, by simp [step, hempty], s.idleTick_pending.trans hempty, ?clock, ?cores, ?boundary⟩
  case clock =>
    rintro (⟨hr, hk⟩ | ⟨hr, hk⟩) <;> simp [State.idleTick, hr, hk]
  case cores =>
    rintro (⟨hr, hk⟩ | ⟨hr, hready, hinside⟩)
    · simp [State.idleTick, hr, hk, Clock.shift_nat]
    · simp [State.idleTick, hr, hready, State.timePeriod_eq, Nat.not_lt.mpr hinside, State.ticked]
  case boundary =>
    intro hr hready hcross
    simp [State.idleTick, hr, hready, State.timePeriod_eq, hcross, State.ticked]

end Sys2Proof.Machine
end

section
/-! ## Commands: the start, the checks and the completion (R65, R84, R85, R90)

The start of a command and its completion change the host interface and the count of completions that a ring could not take, a
completion beside them the boot's count of failed records.  What each leaves alone is said field by field. -/

set_option Elab.async false

namespace Sys2Proof.Machine

theorem State.slotUse_eq (s : State) (n m : Nat) (b : CplBody) :
    s.slotUse n m b = { s with hif := (s.slotUse n m b).hif, rc := (s.slotUse n m b).rc } := by
  unfold State.slotUse
  dsimp only
  split <;> rfl

theorem State.unlistedGo_eq (s : State) (n k : Nat) :
    s.unlistedGo n k = { s with hif := (s.unlistedGo n k).hif, rc := (s.unlistedGo n k).rc } := by
  induction k generalizing s with
  | zero => rfl
  | succ k ih =>
    unfold State.unlistedGo
    split
    · rfl
    · next f _ =>
      split
      · rfl
      · rw [ih (s.cplPut _ _ _)]
        simp only [State.cplPut]
        rw [State.slotUse_eq]
        rfl

theorem State.startCmd_eq (s : State) (d : CmdDesc) :
    s.startCmd d = { s with hif := (s.startCmd d).hif, rc := (s.startCmd d).rc } := by
  unfold State.startCmd
  split
  · dsimp only
    rw [State.unlistedGo_eq]
    rfl
  · rfl

@[simp] theorem State.startCmd_variant (s : State) (d : CmdDesc) : (s.startCmd d).variant = s.variant := by rw [State.startCmd_eq]
@[simp] theorem State.startCmd_fused (s : State) (d : CmdDesc) : (s.startCmd d).fused = s.fused := by rw [State.startCmd_eq]
@[simp] theorem State.startCmd_clk (s : State) (d : CmdDesc) : (s.startCmd d).clk = s.clk := by rw [State.startCmd_eq]
@[simp] theorem State.startCmd_ready (s : State) (d : CmdDesc) : (s.startCmd d).ready = s.ready := by rw [State.startCmd_eq]
@[simp] theorem State.startCmd_keys (s : State) (d : CmdDesc) : (s.startCmd d).keys = s.keys := by rw [State.startCmd_eq]
@[simp] theorem State.startCmd_regs (s : State) (d : CmdDesc) : (s.startCmd d).regs = s.regs := by rw [State.startCmd_eq]
@[simp] theorem State.startCmd_mbx (s : State) (d : CmdDesc) : (s.startCmd d).mbx = s.mbx := by rw [State.startCmd_eq]
@[simp] theorem State.startCmd_rd (s : State) (d : CmdDesc) : (s.startCmd d).rd = s.rd := by rw [State.startCmd_eq]
@[simp] theorem State.startCmd_rdHi (s : State) (d : CmdDesc) : (s.startCmd d).rdHi = s.rdHi := by rw [State.startCmd_eq]
@[simp] theorem State.startCmd_rdI2c (s : State) (d : CmdDesc) : (s.startCmd d).rdI2c = s.rdI2c := by rw [State.startCmd_eq]
@[simp] theorem State.startCmd_evt (s : State) (d : CmdDesc) : (s.startCmd d).evt = s.evt := by rw [State.startCmd_eq]
@[simp] theorem State.startCmd_pers (s : State) (d : CmdDesc) : (s.startCmd d).pers = s.pers := by rw [State.startCmd_eq]
@[simp] theorem State.startCmd_index (s : State) (d : CmdDesc) : (s.startCmd d).index = s.index := by rw [State.startCmd_eq]
@[simp] theorem State.startCmd_objs (s : State) (d : CmdDesc) : (s.startCmd d).objs = s.objs := by rw [State.startCmd_eq]
@[simp] theorem State.startCmd_lanes (s : State) (d : CmdDesc) : (s.startCmd d).lanes = s.lanes := by rw [State.startCmd_eq]
@[simp] theorem State.startCmd_grps (s : State) (d : CmdDesc) : (s.startCmd d).grps = s.grps := by rw [State.startCmd_eq]
@[simp] theorem State.startCmd_sw (s : State) (d : CmdDesc) : (s.startCmd d).sw = s.sw := by rw [State.startCmd_eq]
@[simp] theorem State.startCmd_fab (s : State) (d : CmdDesc) : (s.startCmd d).fab = s.fab := by rw [State.startCmd_eq]
@[simp] theorem State.startCmd_bpm (s : State) (d : CmdDesc) : (s.startCmd d).bpm = s.bpm := by rw [State.startCmd_eq]
@[simp] theorem State.startCmd_fdb (s : State) (d : CmdDesc) : (s.startCmd d).fdb = s.fdb := by rw [State.startCmd_eq]
@[simp] theorem State.startCmd_tcore (s : State) (d : CmdDesc) : (s.startCmd d).tcore = s.tcore := by rw [State.startCmd_eq]
@[simp] theorem State.startCmd_tchans (s : State) (d : CmdDesc) : (s.startCmd d).tchans = s.tchans := by rw [State.startCmd_eq]
@[simp] theorem State.startCmd_lnk (s : State) (d : CmdDesc) : (s.startCmd d).lnk = s.lnk := by rw [State.startCmd_eq]
@[simp] theorem State.startCmd_ref (s : State) (d : CmdDesc) : (s.startCmd d).ref = s.ref := by rw [State.startCmd_eq]
@[simp] theorem State.startCmd_free (s : State) (d : CmdDesc) : (s.startCmd d).free = s.free := by rw [State.startCmd_eq]
@[simp] theorem State.startCmd_pll (s : State) (d : CmdDesc) : (s.startCmd d).pll = s.pll := by rw [State.startCmd_eq]
@[simp] theorem State.startCmd_gnss (s : State) (d : CmdDesc) : (s.startCmd d).gnss = s.gnss := by rw [State.startCmd_eq]
@[simp] theorem State.startCmd_tic (s : State) (d : CmdDesc) : (s.startCmd d).tic = s.tic := by rw [State.startCmd_eq]
@[simp] theorem State.startCmd_cal (s : State) (d : CmdDesc) : (s.startCmd d).cal = s.cal := by rw [State.startCmd_eq]
@[simp] theorem State.startCmd_eng (s : State) (d : CmdDesc) : (s.startCmd d).eng = s.eng := by rw [State.startCmd_eq]
@[simp] theorem State.startCmd_pair (s : State) (d : CmdDesc) : (s.startCmd d).pair = s.pair := by rw [State.startCmd_eq]
@[simp] theorem State.startCmd_pwr (s : State) (d : CmdDesc) : (s.startCmd d).pwr = s.pwr := by rw [State.startCmd_eq]
@[simp] theorem State.startCmd_boot (s : State) (d : CmdDesc) : (s.startCmd d).boot = s.boot := by rw [State.startCmd_eq]
@[simp] theorem State.startCmd_flash (s : State) (d : CmdDesc) : (s.startCmd d).flash = s.flash := by rw [State.startCmd_eq]
@[simp] theorem State.startCmd_pending (s : State) (d : CmdDesc) : (s.startCmd d).pending = s.pending := by rw [State.startCmd_eq]

@[simp] theorem State.complete_variant (s : State) (d : CmdDesc) (op : Nat) (st : Status) (h : Word) (r e : List Byte) :
    (s.complete d op st h r e).variant = s.variant := rfl
@[simp] theorem State.complete_fused (s : State) (d : CmdDesc) (op : Nat) (st : Status) (h : Word) (r e : List Byte) :
    (s.complete d op st h r e).fused = s.fused := rfl
@[simp] theorem State.complete_clk (s : State) (d : CmdDesc) (op : Nat) (st : Status) (h : Word) (r e : List Byte) :
    (s.complete d op st h r e).clk = s.clk := rfl
@[simp] theorem State.complete_ready (s : State) (d : CmdDesc) (op : Nat) (st : Status) (h : Word) (r e : List Byte) :
    (s.complete d op st h r e).ready = s.ready := rfl
@[simp] theorem State.complete_keys (s : State) (d : CmdDesc) (op : Nat) (st : Status) (h : Word) (r e : List Byte) :
    (s.complete d op st h r e).keys = s.keys := rfl
@[simp] theorem State.complete_regs (s : State) (d : CmdDesc) (op : Nat) (st : Status) (h : Word) (r e : List Byte) :
    (s.complete d op st h r e).regs = s.regs := rfl
@[simp] theorem State.complete_mbx (s : State) (d : CmdDesc) (op : Nat) (st : Status) (h : Word) (r e : List Byte) :
    (s.complete d op st h r e).mbx = s.mbx := rfl
@[simp] theorem State.complete_rd (s : State) (d : CmdDesc) (op : Nat) (st : Status) (h : Word) (r e : List Byte) :
    (s.complete d op st h r e).rd = s.rd := rfl
@[simp] theorem State.complete_rdHi (s : State) (d : CmdDesc) (op : Nat) (st : Status) (h : Word) (r e : List Byte) :
    (s.complete d op st h r e).rdHi = s.rdHi := rfl
@[simp] theorem State.complete_rdI2c (s : State) (d : CmdDesc) (op : Nat) (st : Status) (h : Word) (r e : List Byte) :
    (s.complete d op st h r e).rdI2c = s.rdI2c := rfl
@[simp] theorem State.complete_evt (s : State) (d : CmdDesc) (op : Nat) (st : Status) (h : Word) (r e : List Byte) :
    (s.complete d op st h r e).evt = s.evt := rfl
@[simp] theorem State.complete_pers (s : State) (d : CmdDesc) (op : Nat) (st : Status) (h : Word) (r e : List Byte) :
    (s.complete d op st h r e).pers = s.pers := rfl
@[simp] theorem State.complete_index (s : State) (d : CmdDesc) (op : Nat) (st : Status) (h : Word) (r e : List Byte) :
    (s.complete d op st h r e).index = s.index := rfl
@[simp] theorem State.complete_objs (s : State) (d : CmdDesc) (op : Nat) (st : Status) (h : Word) (r e : List Byte) :
    (s.complete d op st h r e).objs = s.objs := rfl
@[simp] theorem State.complete_lanes (s : State) (d : CmdDesc) (op : Nat) (st : Status) (h : Word) (r e : List Byte) :
    (s.complete d op st h r e).lanes = s.lanes := rfl
@[simp] theorem State.complete_grps (s : State) (d : CmdDesc) (op : Nat) (st : Status) (h : Word) (r e : List Byte) :
    (s.complete d op st h r e).grps = s.grps := rfl
@[simp] theorem State.complete_sw (s : State) (d : CmdDesc) (op : Nat) (st : Status) (h : Word) (r e : List Byte) :
    (s.complete d op st h r e).sw = s.sw := rfl
@[simp] theorem State.complete_fab (s : State) (d : CmdDesc) (op : Nat) (st : Status) (h : Word) (r e : List Byte) :
    (s.complete d op st h r e).fab = s.fab := rfl
@[simp] theorem State.complete_bpm (s : State) (d : CmdDesc) (op : Nat) (st : Status) (h : Word) (r e : List Byte) :
    (s.complete d op st h r e).bpm = s.bpm := rfl
@[simp] theorem State.complete_fdb (s : State) (d : CmdDesc) (op : Nat) (st : Status) (h : Word) (r e : List Byte) :
    (s.complete d op st h r e).fdb = s.fdb := rfl
@[simp] theorem State.complete_tcore (s : State) (d : CmdDesc) (op : Nat) (st : Status) (h : Word) (r e : List Byte) :
    (s.complete d op st h r e).tcore = s.tcore := rfl
@[simp] theorem State.complete_tchans (s : State) (d : CmdDesc) (op : Nat) (st : Status) (h : Word) (r e : List Byte) :
    (s.complete d op st h r e).tchans = s.tchans := rfl
@[simp] theorem State.complete_lnk (s : State) (d : CmdDesc) (op : Nat) (st : Status) (h : Word) (r e : List Byte) :
    (s.complete d op st h r e).lnk = s.lnk := rfl
@[simp] theorem State.complete_ref (s : State) (d : CmdDesc) (op : Nat) (st : Status) (h : Word) (r e : List Byte) :
    (s.complete d op st h r e).ref = s.ref := rfl
@[simp] theorem State.complete_free (s : State) (d : CmdDesc) (op : Nat) (st : Status) (h : Word) (r e : List Byte) :
    (s.complete d op st h r e).free = s.free := rfl
@[simp] theorem State.complete_pll (s : State) (d : CmdDesc) (op : Nat) (st : Status) (h : Word) (r e : List Byte) :
    (s.complete d op st h r e).pll = s.pll := rfl
@[simp] theorem State.complete_gnss (s : State) (d : CmdDesc) (op : Nat) (st : Status) (h : Word) (r e : List Byte) :
    (s.complete d op st h r e).gnss = s.gnss := rfl
@[simp] theorem State.complete_tic (s : State) (d : CmdDesc) (op : Nat) (st : Status) (h : Word) (r e : List Byte) :
    (s.complete d op st h r e).tic = s.tic := rfl
@[simp] theorem State.complete_cal (s : State) (d : CmdDesc) (op : Nat) (st : Status) (h : Word) (r e : List Byte) :
    (s.complete d op st h r e).cal = s.cal := rfl
@[simp] theorem State.complete_eng (s : State) (d : CmdDesc) (op : Nat) (st : Status) (h : Word) (r e : List Byte) :
    (s.complete d op st h r e).eng = s.eng := rfl
@[simp] theorem State.complete_pair (s : State) (d : CmdDesc) (op : Nat) (st : Status) (h : Word) (r e : List Byte) :
    (s.complete d op st h r e).pair = s.pair := rfl
@[simp] theorem State.complete_pwr (s : State) (d : CmdDesc) (op : Nat) (st : Status) (h : Word) (r e : List Byte) :
    (s.complete d op st h r e).pwr = s.pwr := rfl
@[simp] theorem State.complete_flash (s : State) (d : CmdDesc) (op : Nat) (st : Status) (h : Word) (r e : List Byte) :
    (s.complete d op st h r e).flash = s.flash := rfl
@[simp] theorem State.complete_pending (s : State) (d : CmdDesc) (op : Nat) (st : Status) (h : Word) (r e : List Byte) :
    (s.complete d op st h r e).pending = s.pending := rfl

/-- The completion is the one shown. -/
@[simp] theorem State.complete_lastCpl (s : State) (d : CmdDesc) (op : Nat) (st : Status) (h : Word) (r e : List Byte) :
    (s.complete d op st h r e).hif.lastCpl =
      some { src := d.src, tag := d.tag, opcode := op, handle := h, status := st, result := r, extOut := e } := rfl

/-! ### The checks of Table HDL-4 -/

/-- What a command is checked for is nothing that its start changes. -/
@[simp] theorem State.check_startCmd (s : State) (d e : CmdDesc) (c : Checks) : (s.startCmd d).check e c = s.check e c := by
  simp [State.check, State.parityIn, State.unlocked, State.key, State.isReady]

/-- A command that an earlier one of its ring does not block runs from its checks on. -/
theorem State.runCmd_started {s : State} {d : CmdDesc} {op : Nat} {c : Checks} {body : State → State}
    (hstart : s.startBlocked d op = false) : s.runCmd d op c body = (s.startCmd d).checked d op c body := by
  simp [State.runCmd, hstart]

/-- A command whose check fails completes with the status of the first that does (R90). -/
theorem State.runCmd_fails {s : State} {d : CmdDesc} {op k : Nat} {st : Status} {c : Checks} {body : State → State}
    (hstart : s.startBlocked d op = false) (hfail : s.check d c = some (k, st)) :
    s.runCmd d op c body =
      (if c.guarded && decide (3 < k) then (s.startCmd d).consumeKey d.src.path else s.startCmd d).complete d op st := by
  rw [State.runCmd_started hstart]
  simp [State.checked, hfail]

/-- A command that is accepted takes its type-specific outcome (R90). -/
theorem State.runCmd_accepted {s : State} {d : CmdDesc} {op : Nat} {c : Checks} {body : State → State} (h : s.Accepts d op c) :
    s.runCmd d op c body = body (if c.guarded then (s.startCmd d).consumeKey d.src.path else s.startCmd d) := by
  obtain ⟨hstart, hpass⟩ := h
  rw [State.runCmd_started hstart]
  simp [State.checked, hpass]

/-- A command without a key guard that is accepted starts, and takes its type-specific outcome. -/
theorem State.runCmd_accepted_free {s : State} {d : CmdDesc} {op : Nat} {c : Checks} {body : State → State} (h : s.Accepts d op c)
    (hfree : c.guarded = false) : s.runCmd d op c body = body (s.startCmd d) := by
  simp [State.runCmd_accepted h, hfree]

/-- A command whose check fails at any check, and that no key guards, starts and completes, and nothing more. -/
theorem State.runCmd_fails_free {s : State} {d : CmdDesc} {op k : Nat} {st : Status} {c : Checks} {body : State → State}
    (hstart : s.startBlocked d op = false) (hfree : c.guarded = false) (hfail : s.check d c = some (k, st)) :
    s.runCmd d op c body = (s.startCmd d).complete d op st := by
  rw [State.runCmd_fails hstart hfail]
  simp [hfree]

theorem State.startComplete_touches {ps : List Part} (s : State) (d : CmdDesc) (op : Nat) (st : Status) (h : Word) (r e : List Byte)
    (hw : Part.within [.hif, .boot, .rc .hifRingAborted] ps = true) : Touches ps s ((s.startCmd d).complete d op st h r e) :=
  (State.startCmd_touches s d (Part.within_trans rfl hw)).step (State.complete_touches _ d op st h r e hw)

end Sys2Proof.Machine
end

section
/-! ## The checks of Table HDL-4 in their order (R90) -/

set_option Elab.async false

namespace Sys2Proof.Machine

/-! ### Which check decides -/

theorem State.check_absent {s : State} {d : CmdDesc} {c : Checks} (h : c.absent = true) : s.check d c = some (1, .unsupported) := by
  simp [State.check, h]

theorem State.check_badForm {s : State} {d : CmdDesc} {c : Checks} (hpresent : c.absent = false) (h : c.badForm = true) :
    s.check d c = some (2, .badArg) := by
  simp [State.check, hpresent, h]

theorem State.check_parity {s : State} {d : CmdDesc} {c : Checks} (hpresent : c.absent = false) (hform : c.badForm = false)
    (h : s.parityIn c.blocks = true) : s.check d c = some (3, .parity) := by
  simp [State.check, hpresent, hform, h]

/-- With a stale handle and no key guard, checks 3 to 5 decide in their order. -/
theorem State.check_stale {s : State} {d : CmdDesc} {c : Checks} (hpresent : c.absent = false) (hform : c.badForm = false)
    (hfree : c.guarded = false) (h : c.stale = true) :
    ∃ k, s.check d c = some (k, if s.parityIn c.blocks then .parity
      else if c.ready.any (fun b => !(s.isReady b)) then .notReady else .handleStale) := by
  simp only [State.check, hpresent, hform, hfree, h, Bool.false_eq_true, if_false, Bool.false_and, if_true]
  split
  · exact ⟨3, rfl⟩
  · split
    · exact ⟨4, rfl⟩
    · exact ⟨5, rfl⟩

/-! ### What a command whose check fails gives -/

theorem State.gives_runCmd_fails {i : Instr} {s : State} {d : CmdDesc} {op k : Nat} {st : Status} {c : Checks} {body : State → State}
    (hexec : exec i s = effect d.wf s (s.runCmd d op c body)) (hup : s.Up) (hwf : d.wf = true) (hstart : s.startBlocked d op = false)
    (hfree : c.guarded = false) (hfail : s.check d c = some (k, st)) :
    Gives i s (fun t => Completed d op st 0 [] t ∧ Touches cplParts s t) := by
  rw [State.runCmd_fails_free hstart hfree hfail] at hexec
  exact gives_effect hexec hup hwf ⟨rfl, (State.startComplete_touches s d op st 0 [] [] rfl).carry⟩

theorem exec_query (y : ObjType) (d : CmdDesc) (s : State) : exec (queryCmd y d) s = effect d.wf s (s.objQuery y d) := by
  cases y <;> rfl

theorem exec_destroy (y : ObjType) (d : CmdDesc) (s : State) :
    exec (destroyCmd y d) s = effect d.wf s (s.objDrain false y d true) := by
  cases y <;> rfl

@[simp] theorem State.stale_startCmd (s : State) (d : CmdDesc) (y : ObjType) (h : Word) : (s.startCmd d).stale y h = s.stale y h := by
  rw [State.startCmd_eq]
  rfl

@[simp] theorem State.obj_startCmd (s : State) (d : CmdDesc) (y : ObjType) (i : Nat) : (s.startCmd d).obj y i = s.obj y i := by
  simp [State.obj]

@[simp] theorem State.drainingObj_startCmd (s : State) (d : CmdDesc) (y : ObjType) (h : Word) :
    (s.startCmd d).drainingObj y h = s.drainingObj y h := by
  simp [State.drainingObj]

/-- A command on an object that no drain holds up starts and is checked (R92). -/
theorem State.runNamed_started {s : State} {y : ObjType} {verb op : Nat} {d : CmdDesc} {c : Checks} {body : State → State}
    (hstart : s.startBlocked d op = false) (hdrain : s.drainingObj y d.handle = none) :
    s.runNamed false y verb d op c body = s.runCmd d op c body := by
  rw [State.runCmd_started hstart]
  simp [State.runNamed, hstart, State.namedGo, hdrain]

/-! ### The statement -/

/-- Settles O6: each command's checks fail at the check that its hypotheses single out. -/
theorem commandChecks : Obligations.CommandChecks := by
  refine ⟨?queryAbsent, ?queryForm, ?destroyStale, ?flashWrite, ?pairCbSet⟩
  case queryAbsent =>
    intro s y d hup hwf hstart habsent
    exact State.gives_runCmd_fails (exec_query y d s) hup hwf hstart rfl
      (State.check_absent (by simp [State.targetChecks, habsent]))
  case queryForm =>
    intro s y d hup hwf hstart hpresent hbad
    exact State.gives_runCmd_fails (exec_query y d s) hup hwf hstart rfl
      (State.check_badForm (by simp [State.targetChecks, hpresent]) (by
        obtain htype | hindex := hbad
        · simp [State.targetChecks, htype]
        · simp [State.targetChecks, hindex]))
  case destroyStale =>
    intro s y d st hup hwf hstart hy hdrain hpresent hform htype hindex hreserved hst hstale
    have hexec := exec_destroy y d s
    cases y
    case flow => exact absurd rfl hy
    all_goals
      simp only [State.objDrain, if_true] at hexec
      rw [State.runNamed_started hstart hdrain] at hexec
      obtain ⟨k, hk⟩ := State.check_stale (s := s) (d := d)
        (c := s.targetChecks _ d true false false (drainReserved d) false) (by simpa [State.targetChecks] using hpresent)
        (by simpa [State.targetChecks, hform, htype, hreserved] using hindex) rfl hstale
      rw [hst]
      exact State.gives_runCmd_fails hexec hup hwf hstart rfl hk
  case flashWrite =>
    intro s d ok ms k st hup hwf hstart hfail
    have hexec : exec (.flashWrite d ok ms) s = effect d.wf s (s.flashWriteCmd d ok ms) := rfl
    simp only [State.flashWriteCmd, State.runCmd_fails hstart hfail, Bool.true_and] at hexec
    refine gives_effect hexec hup hwf ⟨rfl, ?flash, ?keys, ?locked, ?frame⟩
    case flash => split <;> simp [State.consumeKey]
    case keys =>
      intro hk
      simp [Nat.not_lt.mpr hk]
    case locked =>
      intro hk
      simp [hk, State.unlocked, State.key, State.consumeKey]
    case frame =>
      refine Touches.carry (Touches.step ?_ (State.complete_touches _ _ _ _ _ _ _ rfl))
      have hstarted : Touches cplParts s (s.startCmd d) := State.startCmd_touches s d rfl
      split
      · exact hstarted.step (State.consumeKey_touches _ _ rfl)
      · exact hstarted
  case pairCbSet =>
    intro s d hup hwf hstart
    refine ⟨fun hpair => ?_, fun hpair hform hhandle hzero hparity => ?_⟩
    · exact State.gives_runCmd_fails rfl hup hwf hstart rfl (State.check_absent (by simp [State.pairChecks, hpair]))
    · exact State.gives_runCmd_fails rfl hup hwf hstart rfl
        (State.check_parity (by simp [State.pairChecks, hpair]) (by simp [State.pairChecks, unitChecks, hform, hhandle, hzero]) hparity)

end Sys2Proof.Machine
end

section
/-! ## Registers: masks, addresses, and what a stored write leaves (R10, R23, R31 to R34) -/

set_option Elab.async false

namespace Sys2Proof.Machine

/-! ### Masks -/

theorem getLsbD_foldl_mask (p : Field → Bool) (l : List Field) (m : Word) (i : Nat) :
    (l.foldl (fun m f => if p f then m ||| maskOf f.lo f.width else m) m).getLsbD i =
      (m.getLsbD i || l.any (fun f => p f && (maskOf f.lo f.width).getLsbD i)) := by
  induction l generalizing m with
  | nil => simp
  | cons f l ih =>
    rw [List.foldl_cons, ih, List.any_cons]
    cases p f <;> simp [Bool.or_assoc]

/-- A bit of a register is in a mask when a selected field has it. -/
theorem RegKey.getLsbD_mask (k : RegKey) (p : Field → Bool) (i : Nat) :
    (k.mask p).getLsbD i = k.fields.any (fun f => p f && (maskOf f.lo f.width).getLsbD i) := by
  simp [RegKey.mask, getLsbD_foldl_mask]

/-- The fields of one kind have bits among those of a wider kind. -/
theorem RegKey.mask_and_mask (k : RegKey) {p q : Field → Bool} (h : ∀ f, p f = true → q f = true) : k.mask p &&& k.mask q = k.mask p := by
  refine BitVec.eq_of_getLsbD_eq fun i _ => ?_
  have hin : (k.mask p).getLsbD i = true → (k.mask q).getLsbD i = true := by
    simp only [k.getLsbD_mask, List.any_eq_true, Bool.and_eq_true]
    rintro ⟨f, hf, hp, hi⟩
    exact ⟨f, hf, h f hp, hi⟩
  simpa using hin

/-- The RW bits have a written copy. -/
theorem RegKey.rw_and_stored (k : RegKey) : k.typeMask .rw &&& k.storedMask = k.typeMask .rw :=
  k.mask_and_mask (by simp +contextual)

theorem RegKey.storedMask_ne_zero {k : RegKey} (h : k.typeMask .rw ≠ 0) : k.storedMask ≠ 0 := by
  intro hz
  rw [← k.rw_and_stored, hz] at h
  exact h (by simp)

@[simp] theorem allBits_and (w : Word) : allBits &&& w = w := by
  rw [show allBits = BitVec.allOnes 32 from rfl, BitVec.allOnes_and]

/-- A merge under an empty mask takes nothing. -/
theorem merge_zero (a b : Word) : (a &&& ~~~(0 : Word)) ||| (b &&& 0) = a := by
  refine BitVec.eq_of_getLsbD_eq fun i hi => ?_
  simp only [BitVec.getLsbD_or, BitVec.getLsbD_and, BitVec.getLsbD_not, BitVec.ofNat_eq_ofNat, BitVec.getLsbD_zero, hi, decide_true]
  simp

/-! ### Addresses (R427) -/

theorem RegName.at?_addr {n : RegName} {a : Nat} {k : RegKey} (h : n.at? a = some k) : k.name = n ∧ a = k.addr := by
  simp only [RegName.at?, Option.ite_none_left_eq_some, Option.ite_none_right_eq_some, Option.some.injEq] at h
  obtain ⟨hbase, ⟨hoff, -, -⟩, rfl⟩ := h
  refine ⟨rfl, ?_⟩
  simp only [RegKey.addr]
  omega

/-- The register at an offset stands there. -/
theorem regAt_addr {a : Nat} {k : RegKey} (h : regAt a = some k) : a = k.addr := by
  obtain ⟨n, -, hn⟩ := List.exists_of_findSome?_eq_some h
  exact (RegName.at?_addr hn).2

/-- SYS_RST is the register of its word: an access that reaches another register does not reach it. -/
theorem regAt_ne_sysRst {a : Nat} {o : Option RegKey} (h : regAt (a / 4 * 4) = o) (ho : o ≠ some ⟨.sysRst, 0, 0⟩) :
    regAt a ≠ some ⟨.sysRst, 0, 0⟩ := by
  intro hrst
  have haddr : a = 0x10 := regAt_addr hrst
  subst haddr
  exact ho (h.symm.trans hrst)

/-! ### Registers that only store their word -/

theorem State.regOwn_of_stores {k : RegKey} (h : k.name.acts = false) (s : State) (p : Path) (v m : Word) : s.regOwn p k v m = none := by
  unfold State.regOwn
  dsimp only
  split <;> simp_all [RegName.acts]

theorem State.regActs_of_stores {k : RegKey} (h : k.name.acts = false) (s old : State) : s.regActs old k = s := by
  unfold State.regActs
  split <;> simp_all [RegName.acts]

theorem State.frmPort_of_stores {k : RegKey} (h : k.name.acts = false) (s : State) : s.frmPort k = none := by
  unfold State.frmPort
  split <;> simp_all [RegName.acts]

/-- Nothing follows the write of a register that only stores its word, while no unit has stopped for it. -/
theorem State.regAfter_of_stores {k : RegKey} (h : k.name.acts = false) {old : State} (hrun : old.regs.stopped.contains k = false)
    (s : State) : s.regAfter old k = s := by
  have hnot : k ∉ old.regs.stopped := by simpa using hrun
  simp [State.regAfter, State.regActs_of_stores h, State.frmPort_of_stores h, hnot]

/-! ### Domains -/

theorem State.regDown_congr {s t : State} (hv : t.variant = s.variant) (hf : t.fused = s.fused) (hp : t.pwr.dom = s.pwr.dom) (k : RegKey) :
    t.regDown k = s.regDown k := by
  have habsent : t.domAbsent = s.domAbsent := by
    funext d
    simp only [State.domAbsent, State.engPresent, hv, hf]
  have hmode : t.domMode = s.domMode := by
    funext d
    simp only [State.domMode, habsent, hp]
  unfold State.regDown State.domOn
  rw [hmode]

/-- No held write goes on while no domain comes on (R33). -/
theorem State.heldGo_of_same {s t : State} (h : ∀ k, t.regDown k = s.regDown k) : t.heldGo s = t := by
  have hnone : s.regs.pend.filter (fun x => x.dom && s.regDown x.key && !(t.regDown x.key)) = [] := by
    refine List.filter_eq_nil_iff.mpr fun x _ => ?_
    cases hx : s.regDown x.key <;> simp [h, hx]
  simp [State.heldGo, hnone]

/-! ### The store of a write -/

theorem State.dflt_laneGrpMode (s : State) (g : Nat) : s.dflt ⟨.laneGrpMode, g, 0⟩ = 0 := by
  have hrow : RegName.laneGrpMode.resetRow = 0 := rfl
  simp [State.dflt, RegKey.reset, hrow]

/-- The quad's mode is read from LANE_GRP_MODE, whose reset word is 0. -/
theorem State.quadMode_eq (s : State) (q : Nat) : s.quadMode q = fieldOf (s.stored ⟨.laneGrpMode, q / 2, 0⟩) (8 * (q % 2)) 3 := by
  simp only [State.quadMode, State.stored, State.dflt_laneGrpMode]

/-- A register reads as another state has it when both list it alike and LANE_GRP_MODE stands alike. -/
theorem State.dflt_congr {s t : State} (h : ∀ g, t.stored ⟨.laneGrpMode, g, 0⟩ = s.stored ⟨.laneGrpMode, g, 0⟩) (k : RegKey) :
    t.dflt k = s.dflt k := by
  simp only [State.dflt, State.quadMode_eq, h]

theorem State.dflt_of_ne {k : RegKey} (h : k.name ≠ .laneTxEq) (s : State) : s.dflt k = k.reset := by simp [State.dflt, h]

theorem mem_addPend_points {l : List Pend} {k : RegKey} {ps : List ApplyPoint} {dom : Bool} {p : ApplyPoint} (hp : p ∈ ps) :
    ∃ x, x ∈ addPend l k ps dom ∧ x.key = k ∧ p ∈ x.points := by
  induction l with
  | nil => exact ⟨_, List.mem_singleton_self _, rfl, hp⟩
  | cons y l ih =>
    unfold addPend
    split
    · next hy => exact ⟨_, List.mem_cons_self, hy, by simp [hp]⟩
    · obtain ⟨x, hx, hkey, hpoint⟩ := ih
      exact ⟨x, List.mem_cons_of_mem _ hx, hkey, hpoint⟩

/-- The bits of a register that a write applies at once. -/
def RegKey.immMask (k : RegKey) : Word := k.mask (fun f => decide (f.apply = .imm)) &&& k.storedMask

/-- The fields of LANE_GRP_MODE wait for a commit (R101). -/
theorem laneGrpMode_immMask (g : Nat) : (⟨.laneGrpMode, g, 0⟩ : RegKey).immMask = 0 := by
  have himm : (⟨.laneGrpMode, g, 0⟩ : RegKey).mask (fun f => decide (f.apply = .imm)) = 0 := rfl
  rw [RegKey.immMask, himm, BitVec.ofNat_eq_ofNat, BitVec.zero_and]

section StoreWrite

variable {s : State} {k : RegKey} {v m : Word} (hdown : s.regDown k = false)
include hdown

theorem State.regsAfterWrite_applied : (s.regsAfterWrite k v m).applied =
    Tab.set s.regs.applied k ((s.stored k &&& ~~~ k.immMask) |||
      (((s.written k &&& ~~~ (m &&& k.storedMask)) ||| (v &&& (m &&& k.storedMask))) &&& k.immMask)) := by
  simp [State.regsAfterWrite, RegFile.wordWritten, hdown, RegKey.immMask]

/-- No write that is stored in a domain that is on moves LANE_GRP_MODE's applied copy. -/
theorem State.stored_laneGrpMode_afterWrite (g : Nat) :
    ({ s with regs := s.regsAfterWrite k v m } : State).stored ⟨.laneGrpMode, g, 0⟩ = s.stored ⟨.laneGrpMode, g, 0⟩ := by
  simp only [State.stored, State.regsAfterWrite_applied hdown, State.dflt_laneGrpMode]
  by_cases hk : (⟨.laneGrpMode, g, 0⟩ : RegKey) = k
  · subst hk
    rw [Tab.get_set_self, laneGrpMode_immMask, merge_zero, State.dflt_laneGrpMode]
  · exact Tab.get_set_ne _ _ _ _ _ hk

theorem State.dflt_afterWrite (k' : RegKey) : ({ s with regs := s.regsAfterWrite k v m } : State).dflt k' = s.dflt k' :=
  State.dflt_congr (State.stored_laneGrpMode_afterWrite hdown) k'

/-- What the store of a write leaves: its word in the written copy, the IMM fields applied, the rest waiting (R10, R31, R32). -/
theorem State.stored_regsAfterWrite {w : Word}
    (hw : (s.written k &&& ~~~ (m &&& k.storedMask)) ||| (v &&& (m &&& k.storedMask)) = w) :
    Stored k m w s { s with regs := s.regsAfterWrite k v m } := by
  refine ⟨?written, ?stored, ?waits, ?others, (Touches.refl [.regs] s).set_regs rfl⟩
  case written =>
    simp only [State.written, State.regsAfterWrite, RegFile.wordWritten, Tab.get_set_self]
    exact hw
  case stored =>
    simp only [State.stored, State.regsAfterWrite_applied hdown, Tab.get_set_self, hw]
    rfl
  case waits =>
    intro p hp
    have hne : s.waitPoints k m ≠ [] := List.ne_nil_of_mem hp
    simp only [State.regsAfterWrite, RegFile.wordWritten, hne, if_false]
    exact mem_addPend_points hp
  case others =>
    intro k' hk
    constructor
    · simp only [State.written, State.dflt_afterWrite hdown]
      exact Tab.get_set_ne _ _ _ _ _ hk
    · simp only [State.stored, State.dflt_afterWrite hdown, State.regsAfterWrite_applied hdown]
      exact Tab.get_set_ne _ _ _ _ _ hk

end StoreWrite

theorem Stored.carry {k : RegKey} {m w : Word} {s t : State} (h : Stored k m w s t) : Stored k m w s (t.carry s) := by
  obtain ⟨hwritten, hstored, hwaits, hothers, hframe⟩ := h
  exact ⟨hwritten, hstored, hwaits, hothers, hframe.carry⟩

/-! ### A write of a register that only stores its word -/

section StoringWrite

variable {s : State} {k : RegKey} {p : Path} {v m : Word} (hstores : k.name.acts = false) (hwritable : s.Writable k) (hmask : k.storedMask ≠ 0)
include hstores hwritable hmask

theorem State.regSet_of_stores {t : State} (ht : s.storeReg k v m = t) (hdown : ∀ k, t.regDown k = s.regDown k) :
    s.regSet p k v m = t := by
  obtain ⟨hpresent, himplemented, hup, hrun⟩ := hwritable
  simp only [State.regSet, hpresent, himplemented, hup, State.regOwn_of_stores hstores, hmask, ht, Bool.not_true, Bool.or_self,
    Bool.false_eq_true, if_false, State.regAfter_of_stores hstores hrun]
  exact State.heldGo_of_same hdown

theorem State.regSet_stored (hfits : s.pendOverflow k (s.waitPoints k m) = false) :
    s.regSet p k v m = { s with regs := s.regsAfterWrite k v m } :=
  State.regSet_of_stores hstores hwritable hmask (by simp [State.storeReg, hfits]) (State.regDown_congr rfl rfl rfl)

theorem State.regSet_overflows (hfull : s.pendOverflow k (s.waitPoints k m) = true) :
    s.regSet p k v m = (s.rcSet Fld.sysApplyStat_OVF 1).raise Ev.sysApplyOvf k.addr :=
  State.regSet_of_stores hstores hwritable hmask (by simp [State.storeReg, hfull]) (State.regDown_congr rfl rfl rfl)

end StoringWrite

/-- A full-word access in BAR0 below the SPAD window reaches the register region (R423). -/
theorem State.anyWrite_word {s : State} {p : Path} {a : Nat} {v : Word} (ha : a < 0x800000)
    (hrst : regAt (a / 4 * 4) ≠ some ⟨.sysRst, 0, 0⟩) : s.anyWrite p a 15 v = s.wordWrite p (a / 4 * 4) v allBits := by
  have hmod : a % 0x1000000 = a := Nat.mod_eq_of_lt (by omega)
  have hdiv : a / 0x1000000 = 0 := Nat.div_eq_of_lt (by omega)
  have hlow : ¬ 0x4000000 ≤ a := by omega
  have hreg : ¬ 0x800000 ≤ a / 4 * 4 := by omega
  simp [State.anyWrite, regAt_ne_sysRst rfl hrst, State.busWrite, hmod, hlow, hreg, aliasOf, hdiv]

theorem RegName.stores_ne {n x : RegName} (hstores : n.acts = false) (hx : x.acts = true) : n ≠ x :=
  fun h => Bool.false_ne_true (hstores.symm.trans (h ▸ hx))

/-- SYS_KEY and SYS_RST have rules of their own; a register that only stores its word is neither. -/
theorem State.wordWrite_stores {s : State} {p : Path} {a : Nat} {v m : Word} {k : RegKey} (hk : regAt a = some k)
    (hstores : k.name.acts = false) : s.wordWrite p a v m = s.regSet p k v m := by
  have hkey : k.name ≠ .sysKey := RegName.stores_ne hstores rfl
  have hrst : k.name ≠ .sysRst := RegName.stores_ne hstores rfl
  simp [State.wordWrite, hk, hkey, hrst]

theorem State.anyWrite_stores {s : State} {p : Path} {a : Nat} {v : Word} {k : RegKey} (ha : a < 0x800000)
    (hk : regAt (a / 4 * 4) = some k) (hstores : k.name.acts = false) : s.anyWrite p a 15 v = s.regSet p k v allBits := by
  have hrst : regAt (a / 4 * 4) ≠ some ⟨.sysRst, 0, 0⟩ := by
    rw [hk]
    exact fun h => RegName.stores_ne hstores rfl (congrArg RegKey.name (Option.some.inj h))
  rw [State.anyWrite_word ha hrst, State.wordWrite_stores hk hstores]

/-! ### RC flags -/

/-- A flag that is set reads 1. -/
theorem State.count_rcSet_flag (s : State) (f : FieldRef) (i : Nat) (hf : f.width = 1) (hlo : f.lo < 32) :
    (s.rcSet f 1 i).count f i = 1 := by
  simp only [State.rcSet, State.count, State.rcWord, Tab.get_set_self, hf, fieldOf, bitsOf, pow_one]
  rw [← Nat.toNat_testBit]
  have hlt : 2 ^ f.lo < 4294967296 := Nat.pow_lt_pow_right (a := 2) (by decide) hlo
  simp [Nat.mod_eq_of_lt hlt]

end Sys2Proof.Machine
end

section
/-! ## Writes of registers (R10, R21, R23, R26, R31, R32, R34) -/

set_option Elab.async false

namespace Sys2Proof.Machine

section AliasWrite

variable {s : State} {p : Path} {a : Nat} {v : Word} {k : RegKey} {al : Alias}

theorem State.aliasWrite_rw (hk : regAt (a / 4 * 4) = some k) (hrw : k.typeMask .rw ≠ 0) :
    s.aliasWrite p al (a / 4 * 4) v = s.regSet p k (al.apply (s.written k) v) (v &&& k.typeMask .rw) := by
  simp only [State.aliasWrite, hk, hrw, if_false]

/-- The set, clear and toggle ranges of a word without RW bits do nothing (R26). -/
theorem State.aliasWrite_none (hk : regAt (a / 4 * 4) = some k) (hrw : k.typeMask .rw = 0) : s.aliasWrite p al (a / 4 * 4) v = s := by
  simp [State.aliasWrite, hk, hrw]

/-- A write in the set, clear or toggle range stores the word that it makes of the RW bits named. -/
theorem State.gives_aliasWrite {c : Instr} {w : Word} (hexec : exec c s = effect p.wf s (s.aliasWrite p al (a / 4 * 4) v)) (hup : s.Up)
    (hp : p.wf = true) (hk : regAt (a / 4 * 4) = some k) (hstores : k.name.acts = false) (hwritable : s.Writable k)
    (hrw : k.typeMask .rw ≠ 0) (hfits : s.pendOverflow k (s.waitPoints k (v &&& k.typeMask .rw)) = false)
    (hw : (s.written k &&& ~~~(v &&& k.typeMask .rw)) ||| (al.apply (s.written k) v &&& (v &&& k.typeMask .rw)) = w) :
    Gives c s (Stored k (v &&& k.typeMask .rw) w s) := by
  have hmask := RegKey.storedMask_ne_zero hrw
  obtain ⟨-, -, hon, -⟩ := id hwritable
  rw [State.aliasWrite_rw hk hrw, State.regSet_stored hstores hwritable hmask hfits] at hexec
  refine gives_effect hexec hup hp (Stored.carry (State.stored_regsAfterWrite hon ?_))
  rw [BitVec.and_assoc, k.rw_and_stored]
  exact hw

end AliasWrite

/-! ### The statement -/

/-- Settles O7: a write reaches its register's store, which keeps it, waits with it or discards it. -/
theorem registerWrites : Obligations.RegisterWrites := by
  refine ⟨?plain, ?full, ?nowhere, ?set, ?clear, ?toggle, ?none⟩
  case plain =>
    intro s p a v k hup hp ha hk hstores hwritable hmask hfits
    obtain ⟨-, -, hon, -⟩ := id hwritable
    have hwrite := (State.anyWrite_stores ha hk hstores).trans (State.regSet_stored (p := p) (v := v) hstores hwritable hmask hfits)
    exact gives_effect (congrArg (effect p.wf s) hwrite) hup hp (Stored.carry (State.stored_regsAfterWrite hon (by rw [allBits_and])))
  case full =>
    intro s p a v k hup hp ha hk hstores hwritable hmask hfull
    have hwrite := (State.anyWrite_stores ha hk hstores).trans (State.regSet_overflows (p := p) (v := v) hstores hwritable hmask hfull)
    have hraise := State.raise_touches (ps := evtParts) (s.rcSet Fld.sysApplyStat_OVF 1) Ev.sysApplyOvf k.addr 0 0 rfl
    exact gives_effect (congrArg (effect p.wf s) hwrite) hup hp
      ⟨(State.count_of_rc (hraise (.rc .sysApplyStat) rfl)).trans (s.count_rcSet_flag _ 0 rfl (by decide)),
        ((State.rcSet_touches s _ _ _ rfl).step (State.raise_touches _ _ _ _ _ rfl)).carry⟩
  case nowhere =>
    intro s p a v hup hp ha hreg hmbx
    have hword : s.anyWrite p a 15 v = s.badAccess := by
      rw [State.anyWrite_word ha (by simp [hreg])]
      simp [State.wordWrite, hreg, hmbx]
    exact gives_effect (congrArg (effect p.wf s) hword) hup hp
      ⟨s.count_bump Fld.sysBadAccess_VAL 0 1 (by decide), (State.bump_touches s _ _ _ rfl).carry⟩
  case set =>
    intro s p a v k hup hp hk hstores hwritable hrw hfits
    refine State.gives_aliasWrite (al := .set) rfl hup hp hk hstores hwritable hrw hfits (BitVec.eq_of_getLsbD_eq fun i hi => ?_)
    simp only [Alias.apply, BitVec.getLsbD_or, BitVec.getLsbD_and, BitVec.getLsbD_not, hi, decide_true]
    cases (s.written k).getLsbD i <;> cases v.getLsbD i <;> simp
  case clear =>
    intro s p a v k hup hp hk hstores hwritable hrw hfits
    refine State.gives_aliasWrite (al := .clear) rfl hup hp hk hstores hwritable hrw hfits (BitVec.eq_of_getLsbD_eq fun i hi => ?_)
    simp only [Alias.apply, BitVec.getLsbD_or, BitVec.getLsbD_and, BitVec.getLsbD_not, hi, decide_true]
    cases (s.written k).getLsbD i <;> cases v.getLsbD i <;> simp
  case toggle =>
    intro s p a v k hup hp hk hstores hwritable hrw hfits
    refine State.gives_aliasWrite (al := .toggle) rfl hup hp hk hstores hwritable hrw hfits (BitVec.eq_of_getLsbD_eq fun i hi => ?_)
    simp only [Alias.apply, BitVec.getLsbD_or, BitVec.getLsbD_and, BitVec.getLsbD_not, BitVec.getLsbD_xor, hi, decide_true]
    cases (s.written k).getLsbD i <;> cases v.getLsbD i <;> simp
  case none =>
    intro s p a v k hup hp hk hrw
    have hsame : ∀ c al, exec c s = effect p.wf s (s.aliasWrite p al (a / 4 * 4) v) → Gives c s (fun t => Touches [] s t) := by
      intro c al hexec
      rw [State.aliasWrite_none hk hrw] at hexec
      exact gives_effect hexec hup hp (Touches.refl [] s).carry
    exact ⟨hsame _ .set rfl, hsame _ .clear rfl, hsame _ .toggle rfl⟩

end Sys2Proof.Machine
end

section
/-! ## Reads (R24, R26, R45, R52, R58, R359) -/

set_option Elab.async false

namespace Sys2Proof.Machine

/-- A frame that names the last word read, of a step that leaves it alone. -/
theorem Touches.drop_rd {ps : List Part} {s t : State} (h : Touches (.rd :: ps) s t) (hrd : t.rd = s.rd) (hhi : t.rdHi = s.rdHi) :
    Touches ps s t := by
  intro p hp
  by_cases hpart : p = .rd
  · subst hpart
    exact ⟨hrd, hhi⟩
  · refine h p ?_
    simpa [Part.covers, Ne.symm hpart] using hp

section BusRead

variable {s : State} {p : Path} {a : Nat} {be : BitVec 4}

/-- A read of a register that clears: SYS_KEY has a rule of its own, and PERF's counters are sampled. -/
theorem State.busRead_reg {k : RegKey} (ha : a < 0x800000) (hk : regAt (a / 4 * 4) = some k) (hkey : k.name ≠ .sysKey)
    (hperf : k.name.row.block ≠ .perf) (hpresent : s.regPresent k = true) (hon : s.regDown k = false) :
    s.busRead p a be = if k.typeMask .rc = 0 then { s with rd := s.readReg p k &&& beMask be }
      else ({ s with rd := s.readReg p k &&& beMask be } : State).rcClear k (s.rcWord k &&& k.typeMask .rc &&& beMask be) := by
  have hmod : a % 0x1000000 = a := Nat.mod_eq_of_lt (by omega)
  have hdiv : a / 0x1000000 = 0 := Nat.div_eq_of_lt (by omega)
  have hbar : ¬ 0x4000000 ≤ a := by omega
  simp [State.busRead, hmod, hdiv, hbar, hk, hkey, hperf, hpresent, hon]

/-- A read of the set, clear and toggle ranges clears nothing (R26). -/
theorem State.busRead_alias {k : RegKey} (hlow : 0x1000000 ≤ a) (hhigh : a < 0x4000000) (hk : regAt (a % 0x1000000 / 4 * 4) = some k)
    (hperf : k.name.row.block ≠ .perf) : s.busRead p a be = { s with rd := s.readReg p k &&& beMask be } := by
  have hbar : ¬ 0x4000000 ≤ a := by omega
  simp [State.busRead, hbar, hk, hperf, show ¬ a < 16777216 by omega]

theorem State.busRead_mbx {b : Block} {o : Nat} (ha : a < 0x800000) (hreg : regAt (a / 4 * 4) = none) (hmbx : mbxAt (a / 4 * 4) = some (b, o))
    (hbe : bitAt be.toNat 3 = true) :
    s.busRead p a be = ({ s with rd := s.mbxRead p b o &&& beMask be } : State).mbxTaken p b o := by
  have hmod : a % 0x1000000 = a := Nat.mod_eq_of_lt (by omega)
  have hdiv : a / 0x1000000 = 0 := Nat.div_eq_of_lt (by omega)
  have hbar : ¬ 0x4000000 ≤ a := by omega
  simp [State.busRead, hmod, hdiv, hbar, hreg, hmbx, hbe]

/-- Only the host reads 64 bits. -/
theorem State.busRead_rdHi (hp : p ≠ .pcie) : (s.busRead p a be).rdHi = s.rdHi := by
  unfold State.busRead
  dsimp only
  split
  · simp
  · split
    · split
      · rfl
      · split
        · split <;> rfl
        · split <;> rfl
    · split
      · split
        · unfold State.mbxTaken
          dsimp only
          split <;> rfl
        · rfl
      · rfl

end BusRead

/-- The RC bits that a read returns are cleared, and no others (R24). -/
theorem clear_returned (w c m : Word) : w &&& ~~~(w &&& c &&& m) = w &&& ~~~(c &&& m) := by
  refine BitVec.eq_of_getLsbD_eq fun i hi => ?_
  simp only [BitVec.getLsbD_and, BitVec.getLsbD_not, hi, decide_true]
  cases w.getLsbD i <;> simp

/-- A register without RC bits keeps its word. -/
theorem clear_none (w m : Word) : w &&& ~~~(0 &&& m) = w := by
  refine BitVec.eq_of_getLsbD_eq fun i hi => ?_
  simp only [BitVec.getLsbD_and, BitVec.getLsbD_not, BitVec.ofNat_eq_ofNat, BitVec.getLsbD_zero, hi, decide_true]
  simp

/-! ### Transfers over I²C -/

theorem State.i2cReads_length (s : State) (a n : Nat) : (s.i2cReads a n).2.length = n := by
  induction n using Nat.strong_induction_on generalizing s a with
  | _ n ih =>
    match n with
    | 0 => rfl
    | 1 => rfl
    | n + 2 =>
      unfold State.i2cReads
      split
      · simp [ih (n + 1) (by omega)]
      · simp [ih n (by omega)]

theorem State.i2cReads_rdHi (s : State) (a n : Nat) : (s.i2cReads a n).1.rdHi = s.rdHi := by
  induction n using Nat.strong_induction_on generalizing s a with
  | _ n ih =>
    match n with
    | 0 => rfl
    | 1 => exact State.busRead_rdHi (by decide)
    | n + 2 =>
      unfold State.i2cReads
      split
      · exact (ih (n + 1) (by omega) _ _).trans (State.busRead_rdHi (by decide))
      · exact (ih n (by omega) _ _).trans (State.busRead_rdHi (by decide))

/-- A transfer in the register region leaves the last word read alone and brings as many half-words as it asks for. -/
theorem State.i2cRead_region {s : State} {a n : Nat} (ha : a < 0x800000) :
    (s.i2cRead a n).rdI2c.length = n ∧ (s.i2cRead a n).rd = s.rd ∧ (s.i2cRead a n).rdHi = s.rdHi := by
  have hlow : ¬ 0x800000 ≤ a / 2 * 2 := by omega
  unfold State.i2cRead
  dsimp only
  rw [if_neg hlow]
  refine ⟨?_, rfl, s.i2cReads_rdHi _ _⟩
  rw [List.length_append, State.i2cReads_length, List.length_replicate]
  omega

/-! ### The last word of a mailbox page (R45) -/

theorem State.mbxTaken_last {s : State} {p : Path} {b : Block} (hdata : (s.mbxPage p b).data ≠ []) (hvalid : (s.mbxPage p b).valid = true) :
    s.mbxTaken p b (0x3C + 4 * (s.mbxPage p b).data.length) =
      { s with mbx := Tab.set s.mbx (b, p) { s.mbxPage p b with valid := false } } := by
  have hpos := List.length_pos_iff.mpr hdata
  have hlast : (0x3C + 4 * (s.mbxPage p b).data.length - 0x40) / 4 + 1 = (s.mbxPage p b).data.length := by omega
  have hin : 0x40 ≤ 0x3C + 4 * (s.mbxPage p b).data.length := by omega
  simp only [State.mbxTaken, hvalid, hin, hlast, and_self, if_true]

/-! ### The statement -/

/-- Settles O8: each read by what stands at its address. -/
theorem readClears : Obligations.ReadClears := by
  refine ⟨?register, ?bars, ?aliasRead, ?mailbox, ?i2c⟩
  case register =>
    intro s p a be k hup hp ha hk hkey hperf hpresent hon
    have hread : exec (.rcRead p a be) s = effect p.wf s (s.busRead p a be) := rfl
    rw [State.busRead_reg ha hk hkey hperf hpresent hon] at hread
    have hrd : Touches [.rd, .rc k.name] s { s with rd := s.readReg p k &&& beMask be } := (Touches.refl _ s).set_rd rfl
    split at hread
    · next hrc => exact gives_effect hread hup hp ⟨rfl, by rw [hrc, clear_none]; rfl, fun _ _ => rfl, hrd.carry⟩
    · exact gives_effect hread hup hp ⟨rfl,
        (Tab.get_set_self 0 s.rc k _).trans (clear_returned _ _ _), fun k' hk' => Tab.get_set_ne 0 s.rc k k' _ hk',
        (hrd.step (State.rcPut_touches _ k _ (by simp [Part.within, Part.covers]))).carry⟩
  case bars =>
    intro s a be hup
    have hbus : 0x4000000 ≤ a → s.busRead .pcie a be = s.barRead a be := fun hlow => by simp [State.busRead, hlow]
    have hframe : ∀ ps, Part.within [.rd, .free] ps = true → Touches ps s ((s.barRead a be).carry s) :=
      fun ps hw => (State.barRead_touches s a be hw).carry
    refine ⟨fun hlow hhigh => ?_, fun hlow hhigh => ?_⟩
    · have hzero : s.busRead .pcie a be = { s with rd := 0 } := by simp [hbus hlow, State.barRead, hhigh]
      exact gives_effect (congrArg (effect true s) hzero) hup rfl ⟨rfl, ((Touches.refl _ s).set_rd rfl).carry⟩
    · have hbar : ¬ (a < 0x8000000 ∨ 0x8004000 ≤ a) := by omega
      refine gives_effect (congrArg (effect true s) (hbus (by omega))) hup rfl ⟨?_, hframe _ rfl⟩
      simp only [State.carry_rd, State.barRead, hbar, if_false]
  case aliasRead =>
    intro s p a be k hup hp hlow hhigh hk hperf
    exact gives_effect (congrArg (effect p.wf s) (State.busRead_alias hlow hhigh hk hperf)) hup hp
      ⟨rfl, ((Touches.refl _ s).set_rd rfl).carry⟩
  case mailbox =>
    intro s p a be b hup hp ha hreg hmbx hdata hvalid hbe
    have hframe : Touches [.rd, .mbx] s (s.busRead p a be) := by
      rw [State.busRead_mbx ha hreg hmbx hbe]
      exact ((Touches.refl _ s).set_rd rfl).step (State.mbxTaken_touches _ _ _ _ rfl)
    have hread := (State.busRead_mbx (s := s) (p := p) ha hreg hmbx hbe).trans (State.mbxTaken_last hdata hvalid)
    rw [hread] at hframe
    exact gives_effect (congrArg (effect p.wf s) hread) hup hp
      ⟨Tab.get_set_self _ s.mbx _ _, rfl, fun q c hqc => Tab.get_set_ne _ s.mbx _ _ _ hqc, hframe.carry⟩
  case i2c =>
    intro s a n hup hn ha
    obtain ⟨hlength, hrd, hhi⟩ := State.i2cRead_region (s := s) (n := n) ha
    exact gives_effect rfl hup (decide_eq_true hn)
      ⟨hlength, hrd, ((State.i2cRead_touches s a n rfl).drop_rd hrd hhi).carry⟩

end Sys2Proof.Machine
end

section
/-! ## Masked writes over I²C and mailbox requests (R28, R29, R43, R44) -/

set_option Elab.async false

namespace Sys2Proof.Machine

theorem State.i2cWrites_one {s : State} {a : Nat} (g : I2cGroup) (ha : a < 0x800000) : s.i2cWrites (a / 2 * 2) [g] = s.i2cWrite (a / 2 * 2) g := by
  have hlow : ¬ 0x800000 ≤ a / 2 * 2 := by omega
  simp [State.i2cWrites, hlow]

/-- A group at a word's address writes the low half-word of a register that only stores its word. -/
theorem State.i2cWrite_low {s : State} {a : Nat} {g : I2cGroup} {k : RegKey} (halign : a % 4 = 0) (hk : regAt a = some k)
    (hstores : k.name.acts = false) (hg : g.mask ≠ 0) :
    s.i2cWrite a g = s.regSet .i2c k (BitVec.ofNat 32 g.data.toNat) (BitVec.ofNat 32 g.mask.toNat) := by
  have hword : a / 4 * 4 = a := by omega
  have hk' : regAt (a / 4 * 4) = some k := hword.symm ▸ hk
  have hkey : k.name ≠ .sysKey := RegName.stores_ne hstores rfl
  have hrst : k.name ≠ .sysRst := RegName.stores_ne hstores rfl
  have hhalf : ¬ a % 4 = 2 := by omega
  unfold State.i2cWrite
  rw [if_neg hg]
  simp only [hk', hkey, hrst, hhalf, decide_false, Bool.false_eq_true, if_false, Nat.mul_one]
  exact State.wordWrite_stores hk' hstores

/-- A half-word without a mask bit has no effect (R28). -/
theorem State.i2cWrite_empty {s : State} {a : Nat} {g : I2cGroup} (hg : g.mask = 0) : s.i2cWrite a g = s := by
  unfold State.i2cWrite
  rw [if_pos hg]

theorem State.i2cWrites_empty {s : State} {a : Nat} {g : I2cGroup} (hg : g.mask = 0) : s.i2cWrites a [g] = s := by
  simp only [State.i2cWrites, State.i2cWrite_empty hg, ite_self]

/-- Mailbox pages start at a word. -/
theorem Block.mailbox_aligned (b : Block) : b.mailbox / 4 * 4 = b.mailbox := by
  cases b <;> rfl

/-- A write of a page's request register asks for the record. -/
theorem State.anyWrite_request {s : State} {p : Path} {b : Block} {v : Word} (ha : b.mailbox < 0x800000) (hreg : regAt b.mailbox = none)
    (hmbx : mbxAt b.mailbox = some (b, 0)) : s.anyWrite p b.mailbox 15 v = s.mbxAsk p b v := by
  have hreg' : regAt (b.mailbox / 4 * 4) = none := b.mailbox_aligned.symm ▸ hreg
  have hall : ¬ (allBits &&& 0xFFFF = 0) := by decide
  rw [State.anyWrite_word ha (by simp [hreg']), b.mailbox_aligned]
  simp only [State.wordWrite, hreg, hmbx, hall, if_false]
  rw [BitVec.and_comm, allBits_and]

/-- Settles O9. -/
theorem i2cAndMailbox : Obligations.I2cAndMailbox := by
  refine ⟨?masked, ?empty, ?request, ?absent⟩
  case masked =>
    intro s a g k hup halign ha hk hstores hwritable hmask hg hfits
    have heven : a / 2 * 2 = a := by omega
    have hwrite : s.i2cWrites (a / 2 * 2) [g] = _ :=
      (s.i2cWrites_one g ha).trans (heven.symm ▸ (State.i2cWrite_low halign hk hstores hg).trans
        (State.regSet_stored hstores hwritable hmask hfits))
    obtain ⟨-, -, hon, -⟩ := hwritable
    exact gives_effect (congrArg (effect true s) hwrite) hup rfl (Stored.carry (State.stored_regsAfterWrite hon rfl))
  case empty =>
    intro s a g hup hg
    exact gives_effect (congrArg (effect true s) (State.i2cWrites_empty hg)) hup rfl (Touches.refl [] s).carry
  case request =>
    intro s p b v hup hp hmbx ha hreg hpage hpresent
    have hask : s.mbxAsk p b v = { (s.mbxSnap b (fieldOf v 0 16)).1 with
        mbx := Tab.set (s.mbxSnap b (fieldOf v 0 16)).1.mbx (b, p)
          { valid := true, status := (s.mbxSnap b (fieldOf v 0 16)).2.1.code
            data := (s.mbxSnap b (fieldOf v 0 16)).2.2.map (fun w => BitVec.ofNat 32 w) } } := by
      simp [State.mbxAsk, hpresent]
    have hsnap : (s.mbxSnap b (fieldOf v 0 16)).1.mbx = s.mbx :=
      State.mbxSnap_touches (ps := Part.others .mbx) s b (fieldOf v 0 16) rfl .mbx rfl
    have hframe := State.mbxAsk_touches (ps := [.sw, .free, .eng, .mbx]) s p b v rfl
    rw [hask] at hframe
    refine gives_effect (congrArg (effect p.wf s) ((State.anyWrite_request ha hreg hpage).trans hask)) hup hp
      ⟨Tab.get_set_self _ _ _ _, fun q c hqc => ?_, hframe.carry⟩
    exact (Tab.get_set_ne _ _ _ _ _ hqc).trans (by rw [hsnap]; rfl)
  case absent =>
    intro s p b v hup hp hmbx ha hreg hpage habsent
    have hask : s.mbxAsk p b v = s := by simp [State.mbxAsk, habsent]
    exact gives_effect (congrArg (effect p.wf s) ((State.anyWrite_request ha hreg hpage).trans hask)) hup hp (Touches.refl [] s).carry

end Sys2Proof.Machine
end

section
/-! ## Events: what EVT holds after one is raised (R417) -/

set_option Elab.async false

namespace Sys2Proof.Machine

/-- A word that is not in REF, TCORE or PLL runs on its stored applied copy (R422). -/
theorem State.applied_eq_stored {k : RegKey} (href : k.name.row.block ≠ .ref) (htcore : k.name.row.block ≠ .tcore)
    (hpll : k.name.row.block ≠ .pll) (s : State) : s.applied k = s.stored k := by
  simp [State.applied, href, htcore, hpll]

/-- Two states on which an event leaves EVT alike: EVT, its settings, and the time that an entry carries. -/
structure SameEvt (s t : State) : Prop where
  evt : t.evt = s.evt
  clk : t.clk = s.clk
  tcore : t.tcore = s.tcore
  cfg : t.stored ⟨.evtCfg, 0, 0⟩ = s.stored ⟨.evtCfg, 0, 0⟩
  route : ∀ b, t.stored ⟨.evtRoute, b, 0⟩ = s.stored ⟨.evtRoute, b, 0⟩

theorem State.ap_evtCfg (s : State) {f : FieldRef} (hf : f.reg = .evtCfg) : s.ap f 0 = fieldOf (s.stored ⟨.evtCfg, 0, 0⟩) f.lo f.width := by
  simp only [State.ap, hf]
  rw [State.applied_eq_stored (by decide) (by decide) (by decide)]

theorem State.ap_evtRoute (s : State) {f : FieldRef} (hf : f.reg = .evtRoute) (b : Nat) :
    s.ap f b = fieldOf (s.stored ⟨.evtRoute, b, 0⟩) f.lo f.width := by
  have hblock : (⟨.evtRoute, b, 0⟩ : RegKey).name.row.block = .evt := rfl
  simp only [State.ap, hf]
  rw [State.applied_eq_stored (by rw [hblock]; decide) (by rw [hblock]; decide) (by rw [hblock]; decide)]

/-- The state with this in EVT. -/
def State.withEvt (s : State) (x : EvtState) : State := { s with evt := x }

/-- EVT after an event: the record of its window, or that and the log (R417, stages 1 and 2). -/
theorem State.raise_evt (s : State) (e : Evt) (a0 a1 a2 : Nat) :
    (s.raise e a0 a1 a2).evt =
      if ((s.evt.supOf e.code (a0 % 2 ^ 32)).count' (s.ap Fld.evtCfg_RATE) (s.clk.now / 10 ^ 9)).2 then
        s.evt.setSup ((s.evt.supOf e.code (a0 % 2 ^ 32)).count' (s.ap Fld.evtCfg_RATE) (s.clk.now / 10 ^ 9)).1
      else (s.withEvt (s.evt.setSup ((s.evt.supOf e.code (a0 % 2 ^ 32)).count' (s.ap Fld.evtCfg_RATE) (s.clk.now / 10 ^ 9)).1)).evtLogged e (a0 % 2 ^ 32) (a1 % 2 ^ 32) (a2 % 2 ^ 32) := by
  unfold State.raise
  dsimp only
  split <;> rfl

theorem SameEvt.evtLogged {s t : State} (h : SameEvt s t) (e : Evt) (a0 a1 a2 : Nat) : t.evtLogged e a0 a1 a2 = s.evtLogged e a0 a1 a2 := by
  obtain ⟨hevt, hclk, htcore, hcfg, hroute⟩ := h
  simp only [State.evtLogged, State.evtEntry, State.evtForHost, State.ap_evtCfg (f := Fld.evtCfg_FAULT_SEV) _ rfl,
    State.ap_evtRoute (f := Fld.evtRoute_MIN_SEV) _ rfl, State.ts48, State.tod, State.unlockedTime, hevt, hclk, htcore, hcfg, hroute]

theorem SameEvt.raise_evt {s t : State} (h : SameEvt s t) (e : Evt) (a0 a1 a2 : Nat) : (t.raise e a0 a1 a2).evt = (s.raise e a0 a1 a2).evt := by
  have hlog : ∀ x : EvtState, SameEvt (s.withEvt x) (t.withEvt x) := fun x => ⟨rfl, h.clk, h.tcore, h.cfg, h.route⟩
  rw [t.raise_evt, s.raise_evt]
  simp only [State.ap_evtCfg (f := Fld.evtCfg_RATE) _ rfl, h.evt, h.clk, h.cfg, (hlog _).evtLogged]

/-- EVT's settings stand while the register files list them alike. -/
theorem SameEvt.of_applied {s t : State} (hevt : t.evt = s.evt) (hclk : t.clk = s.clk) (htcore : t.tcore = s.tcore)
    (h : ∀ k : RegKey, k.name.row.block = .evt → Tab.get k.reset t.regs.applied k = Tab.get k.reset s.regs.applied k) : SameEvt s t where
  evt := hevt
  clk := hclk
  tcore := htcore
  cfg := by
    simp only [State.stored, State.dflt_of_ne (k := ⟨.evtCfg, 0, 0⟩) (by decide)]
    exact h _ rfl
  route b := by
    simp only [State.stored, State.dflt_of_ne (k := ⟨.evtRoute, b, 0⟩) (by simp)]
    exact h _ rfl

end Sys2Proof.Machine
end

section
/-! ## The scrubber and applied-copy errors (R39, R41, R422) -/

set_option Elab.async false

namespace Sys2Proof.Machine

theorem mem_insertAsc_self (x : Nat) (l : List Nat) : x ∈ insertAsc x l := by
  induction l with
  | nil => exact List.mem_singleton_self x
  | cons y l ih =>
    unfold insertAsc
    split
    · exact List.mem_cons_self
    · split
      · next h => exact h ▸ List.mem_cons_self
      · exact List.mem_cons_of_mem _ ih

/-- The state in which the scrubber has listed a word. -/
def State.listed (s : State) (a : Nat) : State := { s with regs := { s.regs with cfgErr := insertAsc a s.regs.cfgErr } }

section Word

variable {s : State} {a : Nat} {k : RegKey} (hk : regAt a = some k) (hmask : k.storedMask ≠ 0) (hpresent : s.regPresent k = true)
include hk hmask hpresent

theorem State.scrubWord_new (hnew : s.regs.cfgErr.contains a = false) :
    s.scrubWord a = ((s.listed a).raise Ev.sysCfgParity a).dropPending (fun x => decide (x = k)) := by
  simp only [State.scrubWord, hk, hmask, hpresent, hnew, Bool.not_true, Bool.false_eq_true, or_self, if_false]
  rfl

theorem State.appliedCopyError_good (hstores : k.name.acts = false) :
    s.appliedCopyError a true = (s.copyBits k k.storedMask).raise (Ev.appliedErr k.name.row.block true) a 1 := by
  simp only [State.appliedCopyError, hk, hmask, hpresent, State.regActs_of_stores hstores, Bool.not_true, Bool.false_eq_true, or_self,
    if_false, if_true]

theorem State.appliedCopyError_bad (hstores : k.name.acts = false) :
    s.appliedCopyError a false = (s.unitStop k).raise (Ev.appliedErr k.name.row.block false) a 0 := by
  simp only [State.appliedCopyError, hk, hmask, hpresent, State.regActs_of_stores hstores, Bool.not_true, Bool.false_eq_true, or_self,
    if_false]

end Word

/-- The state in which a word has stopped. -/
def State.withStopped (s : State) (k : RegKey) : State :=
  { s with regs := { s.regs with stopped := k :: s.regs.stopped.filter (fun x => decide (x ≠ k)) } }

/-- The lane of a word that stops leaves service. -/
theorem State.unitStop_lane {s : State} {k : RegKey} {n : Nat} (hunit : k.unit = .lane n) : s.unitStop k = (s.withStopped k).laneStop n := by
  simp only [State.unitStop, hunit]
  rfl

/-- What a lane that leaves service holds. -/
theorem State.laneStop_lane (s : State) (n m : Nat) : (s.laneStop n).lane m = if m = n then { (s.lane n).unlocked with
    sig := false, cdr := false, train := .down, txSq := true, proposed := none, stepBack := false, retrainPend := false, qValid := false }
    else s.lane m := by
  have hlost : ∀ j, ((s.laneUnlock n).lnkPhiLost n).lane j = (s.laneUnlock n).lane j :=
    State.lane_of_lanes (State.lnkPhiLost_lanes _ _)
  unfold State.laneStop
  dsimp only
  by_cases hm : m = n
  · subst hm
    rw [State.lane_setLane, hlost, State.laneUnlock_lane]
    simp
  · rw [State.lane_setLane_ne _ _ _ _ hm, hlost, State.laneUnlock_lane]
    simp [hm]

theorem State.laneStop_regs (s : State) (n : Nat) : (s.laneStop n).regs = s.regs :=
  (State.laneStop_touches (ps := Part.others .regs) s n rfl) .regs rfl

/-! ### The statement -/

/-- Settles O12. -/
theorem configParity : Obligations.ConfigParity := by
  refine ⟨?scrub, ?reload, ?stop⟩
  case scrub =>
    intro s a k hup hk hmask hpresent hnew
    have hword : s.cfgScrubPass [a] = _ := State.scrubWord_new hk hmask hpresent hnew
    refine gives_effect (congrArg (effect true s) hword) hup rfl ⟨mem_insertAsc_self a _, fun x hx => ?_, ?_, ?_⟩
    · simpa using (List.mem_filter.mp hx).2
    · exact (SameEvt.of_applied (s := s) (t := s.listed a) rfl rfl rfl (fun _ _ => rfl)).raise_evt _ _ _ _
    · have hraised := State.raise_touches (ps := .regs :: evtParts) (s.listed a) Ev.sysCfgParity a 0 0 rfl
      exact ((((Touches.refl _ s).set_regs rfl).step hraised).set_regs rfl).carry
  case reload =>
    intro s a k hup hk hmask hpresent hstores hevt
    have hcopy : Touches (.regs :: evtParts) s (s.copyBits k k.storedMask) := (Touches.refl _ s).set_regs rfl
    have hne : k.name ≠ .laneTxEq := RegName.stores_ne hstores rfl
    refine gives_effect (congrArg (effect true s) (State.appliedCopyError_good hk hmask hpresent hstores)) hup rfl ⟨?_, ?_, ?_, ?_⟩
    · exact Tab.get_set_self _ _ _ _
    · simp only [State.written, State.dflt_of_ne hne]
      rfl
    · refine (SameEvt.of_applied (s := s) (t := s.copyBits k k.storedMask) rfl rfl rfl (fun k' hk' => ?_)).raise_evt _ _ _ _
      exact Tab.get_set_ne _ _ _ _ _ (fun h => hevt (h ▸ hk'))
    · exact (hcopy.step (State.raise_touches _ _ _ _ _ rfl)).carry
  case stop =>
    intro s a n k hup hk hmask hpresent hstores hunit
    have hstop := (State.appliedCopyError_bad hk hmask hpresent hstores).trans
      (congrArg (fun t : State => t.raise (Ev.appliedErr k.name.row.block false) a 0) (State.unitStop_lane hunit))
    have hlane : ∀ m, (((s.withStopped k).laneStop n).raise (Ev.appliedErr k.name.row.block false) a 0).lane m =
        ((s.withStopped k).laneStop n).lane m := fun m => rfl
    have hself := (hlane n).trans ((s.withStopped k).laneStop_lane n n)
    rw [if_pos rfl] at hself
    have hstopped : Touches (.regs :: lossParts) s (s.withStopped k) := (Touches.refl _ s).set_regs rfl
    refine gives_effect (congrArg (effect true s) hstop) hup rfl ⟨?_, ?_, ?_, ?_, ?_, ?_⟩
    · simp only [State.carry_regs, State.raise_regs, State.laneStop_regs]
      simp [State.withStopped]
    · exact (congrArg Lane.lock hself).trans (Lane.unlocked_lock _)
    · exact congrArg Lane.train hself
    · exact congrArg Lane.txSq hself
    · exact fun m hm => ((hlane m).trans ((s.withStopped k).laneStop_lane n m)).trans (if_neg hm)
    · exact (hstopped.step ((State.laneStop_touches _ n rfl).step (State.raise_touches _ _ _ _ _ rfl))).carry

end Sys2Proof.Machine
end

section
/-! ## QUERY and LIST of the objects (R84, R85, R92, R459) -/

set_option Elab.async false

namespace Sys2Proof.Machine

theorem State.inUse_startCmd (s : State) (d : CmdDesc) (y : ObjType) : (s.startCmd d).inUse y = s.inUse y := by
  simp [State.inUse]

theorem State.handleOf_startCmd (s : State) (d : CmdDesc) (y : ObjType) (i : Nat) : (s.startCmd d).handleOf y i = s.handleOf y i := by
  simp [State.handleOf, State.gen, State.indexTab]

/-- The loss of a calibration job's target, which a QUERY finds, leaves the objects (R327). -/
theorem State.calCheckLost_objs (s : State) (i : Nat) : (s.calCheckLost i).objs = s.objs :=
  State.calCheckLost_touches (ps := Part.others .objs) s i rfl .objs rfl

/-- The state that a QUERY of the type reads. -/
def State.asQueried (s : State) (y : ObjType) (i : Nat) : State := if y = .cal then s.calCheckLost i else s

theorem State.obj_asQueried (s : State) (y z : ObjType) (i j : Nat) : (s.asQueried y i).obj z j = s.obj z j := by
  unfold State.asQueried
  split
  · simp only [State.obj, State.calCheckLost_objs]
  · rfl

theorem State.asQueried_of_ne {s : State} {y : ObjType} {i : Nat} (h : y ≠ .cal) : s.asQueried y i = s := if_neg h

theorem State.asQueried_touches {ps : List Part} (s : State) (y : ObjType) (i : Nat)
    (hw : Part.within (evtParts ++ [.tic, .cal, .rc .calAbortCnt]) ps = true) : Touches ps s (s.asQueried y i) := by
  unfold State.asQueried
  split
  · exact State.calCheckLost_touches s i (Part.within_trans rfl hw)
  · exact Touches.refl _ s

/-- Bytes 0 to 19 of the buffer of a QUERY stand when the buffer holds them. -/
theorem take_queryBuffer {l m : List Byte} {n : Nat} (hn : 20 ≤ n) :
    ((((l ++ List.replicate 20 0).take 20) ++ m).take n).take 20 = (l ++ List.replicate 20 0).take 20 := by
  rw [List.take_take, Nat.min_eq_left hn, List.take_append_of_le_length (by simp), List.take_take, Nat.min_self]

/-- What a QUERY writes into its buffer. -/
def State.queryBuffer (s : State) (y : ObjType) (d : CmdDesc) : List Byte :=
  if d.hasExt then (((s.obj y (hIndex d.handle)).args ++ List.replicate 20 0).take 20 ++ s.objStatus y (hIndex d.handle)).take d.extLen else []

/-- A QUERY that is accepted completes with the object's phase, detail and buffer. -/
theorem State.objQuery_accepted {s : State} {y : ObjType} {d : CmdDesc}
    (h : s.Accepts d (y.op 3) (s.targetChecks y d false false false
      ((decide (y = .flow) && d.hasExt && decide (d.extLen < 36)) || (!d.hasExt && !(d.zero 12 32))) false)) :
    s.objQuery y d = ((s.startCmd d).asQueried y (hIndex d.handle)).complete d (y.op 3) .ok 0
      (leBytes (s.obj y (hIndex d.handle)).phase.code 1 ++ leBytes 0 3 ++ ((s.startCmd d).asQueried y (hIndex d.handle)).objDetail y (hIndex d.handle))
      (((s.startCmd d).asQueried y (hIndex d.handle)).queryBuffer y d) := by
  have hobj : ((s.startCmd d).asQueried y (hIndex d.handle)).obj y (hIndex d.handle) = s.obj y (hIndex d.handle) := by
    rw [State.obj_asQueried, State.obj_startCmd]
  rw [← hobj]
  exact State.runCmd_accepted_free h rfl

/-- Settles O16. -/
theorem objectQueryAndList : Obligations.ObjectQueryAndList := by
  refine ⟨?query, ?list⟩
  case query =>
    intro s y d hup hwf hacc
    have hstart := State.startCmd_touches (ps := evtParts ++ cplParts ++ [.tic, .cal, .rc .calAbortCnt]) s d rfl
    have hrun := (exec_query y d s).trans (congrArg (effect d.wf s) (State.objQuery_accepted hacc))
    refine gives_effect hrun hup hwf ⟨⟨_, _, rfl, fun hext => if_neg (by simp [hext]), fun hext hlen => ?some⟩, ?frame, ?calFrame⟩
    case some =>
      rw [State.queryBuffer, if_pos hext, State.obj_asQueried, State.obj_startCmd]
      exact take_queryBuffer hlen
    case frame =>
      intro hy
      have hsame : Touches cplParts (s.startCmd d) ((s.startCmd d).asQueried y (hIndex d.handle)) := by
        rw [State.asQueried_of_ne hy]
        exact Touches.refl _ _
      exact (((State.startCmd_touches s d rfl).step hsame).step (State.complete_touches _ _ _ _ _ _ _ rfl)).carry
    case calFrame =>
      exact ((hstart.step (State.asQueried_touches _ y (hIndex d.handle) rfl)).step (State.complete_touches _ _ _ _ _ _ _ rfl)).carry
  case list =>
    intro s y d hup hwf hacc
    have hexec : exec (listCmd y d) s = effect d.wf s (s.objList y d) := by cases y <;> rfl
    have hrun := hexec.trans (congrArg (effect d.wf s) (State.runCmd_accepted_free hacc rfl))
    simp only [State.inUse_startCmd, State.handleOf_startCmd] at hrun
    exact gives_effect hrun hup hwf ⟨_, rfl, rfl, (State.startComplete_touches s d _ _ _ _ _ rfl).carry⟩

end Sys2Proof.Machine
end

section
/-! ## What a change of the references never does: pass time, or wake a domain (R205, R258, R391)

Lanes, channels, candidates and engines that stop reach REF, and REF reaches the rate and a wake event.  None of it moves the model
clock or turns a domain on. -/

set_option Elab.async false

namespace Sys2Proof.Machine

/-- No time passes and no domain comes on. -/
structure Steady (s t : State) : Prop where
  now : t.clk.now = s.clk.now
  dom : ∀ d, Tab.get .on t.pwr.dom d = .on → Tab.get .on s.pwr.dom d = .on

/-- Every part that neither the clock nor the power domains belong to. -/
abbrev Part.unsteady : List Part := (Part.others .clk).filter (fun p => decide (p ≠ .pwr))

namespace Steady

theorem refl (s : State) : Steady s s := ⟨rfl, fun _ h => h⟩

theorem trans {s t u : State} (h : Steady s t) (k : Steady t u) : Steady s u := ⟨k.now.trans h.now, fun d hd => h.dom d (k.dom d hd)⟩

theorem of_eq {s t : State} (hnow : t.clk.now = s.clk.now) (hdom : t.pwr.dom = s.pwr.dom) : Steady s t := ⟨hnow, fun _ h => hdom ▸ h⟩

theorem of_touches {s t : State} (h : Touches Part.unsteady s t) : Steady s t :=
  of_eq (congrArg Clock.now (h .clk rfl)) (congrArg PwrState.dom (h .pwr rfl))

theorem foldl {α : Type} {f : State → α → State} (hf : ∀ s x, Steady s (f s x)) (l : List α) (s : State) : Steady s (l.foldl f s) := by
  induction l generalizing s with
  | nil => exact refl s
  | cons x l ih => exact (hf s x).trans (ih _)

theorem ite {s t u : State} {c : Prop} [Decidable c] (h : Steady s t) (k : Steady s u) : Steady s (if c then t else u) := by
  split
  · exact h
  · exact k

end Steady

/-! ### Wake events and the rate -/

theorem State.startWake_steady (s : State) (a b : Nat) : Steady s (s.startWake a b) := Steady.of_eq (by simp [State.startWake]) (by simp [State.startWake])

theorem State.pendRequest_steady (s : State) (a : Nat) : Steady s (s.pendRequest a) := Steady.of_eq (by simp [State.pendRequest]) rfl

theorem State.freerunRate_steady (s : State) : Steady s s.freerunRate := by
  unfold State.freerunRate
  split
  · exact Steady.of_eq rfl rfl
  · exact Steady.refl s

theorem State.wakeEvent_steady (s : State) (b : Nat) : Steady s (s.wakeEvent b) := by
  unfold State.wakeEvent
  split
  · exact Steady.refl s
  · have hsrc : Steady s (s.rcSet Fld.pwrWakeSrc_VAL (2 ^ b)) := Steady.of_eq rfl rfl
    refine hsrc.trans ?_
    dsimp only
    split
    · split
      · exact State.startWake_steady _ _ _
      · split
        · exact (State.pendRequest_steady _ _).trans (State.startWake_steady _ _ _)
        · exact Steady.refl _
    · split
      · exact State.pendRequest_steady _ _
      · exact Steady.of_eq (by simp) rfl
    · exact State.pendRequest_steady _ _

/-! ### Time states and selections -/

theorem State.setTstate_steady (s : State) (st : TState) (f : Bool) : Steady s (s.setTstate st f) := by
  unfold State.setTstate
  split
  · exact Steady.refl s
  · dsimp only
    refine Steady.ite ?_ ?_
    · refine Steady.trans ?_ (State.wakeEvent_steady _ _)
      refine Steady.trans ?_ (Steady.of_touches (State.raise_touches _ _ _ _ _ rfl))
      refine Steady.trans ?_ (State.freerunRate_steady _)
      refine Steady.trans ?_ (Steady.of_touches (State.updateClass_touches _ rfl))
      exact Steady.of_eq rfl rfl
    · refine Steady.trans ?_ (State.freerunRate_steady _)
      refine Steady.trans ?_ (Steady.of_touches (State.updateClass_touches _ rfl))
      exact Steady.of_eq rfl rfl

theorem State.selectT_steady (s : State) (c : Option Nat) : Steady s (s.selectT c) := Steady.of_touches (State.selectT_touches s c rfl)

theorem State.selectBias_steady (s : State) (id : Nat) (b : Int) : Steady s (s.selectBias id b) :=
  Steady.of_touches (State.selectBias_touches s id b rfl)

theorem State.setStepPending_steady (s : State) (id : Nat) (o : Int) : Steady s (s.setStepPending id o) :=
  Steady.of_touches (State.setStepPending_touches s id o rfl)

theorem State.timeStateOut_steady (s : State) : Steady s s.timeStateOut := Steady.of_touches (State.timeStateOut_touches s rfl)

theorem State.selectF_steady (s : State) (c : Option Nat) : Steady s (s.selectF c) := by
  unfold State.selectF
  dsimp only
  refine Steady.trans ?_ (State.freerunRate_steady _)
  refine Steady.trans ?_ (Steady.of_touches (State.updateClass_touches _ rfl))
  refine Steady.trans ?_ (Steady.of_touches (State.raise_touches _ _ _ _ _ rfl))
  refine Steady.trans ?_ (Steady.of_touches (State.markSel_touches _ _ _ rfl))
  exact (Steady.of_touches (State.markSel_touches s _ _ rfl)).trans (Steady.of_eq rfl rfl)

theorem State.takeT_steady (s : State) (id : Nat) : Steady s (s.takeT id) := by
  unfold State.takeT
  split
  · exact State.selectT_steady _ _
  · split
    · exact (State.selectBias_steady _ _ _).trans (State.setTstate_steady _ _ _)
    · exact State.selectT_steady _ _
    · exact (State.selectBias_steady _ _ _).trans (Steady.ite (State.setTstate_steady _ _ _) (State.setStepPending_steady _ _ _))
    · refine Steady.ite (Steady.ite ?_ ?_) (State.selectBias_steady _ _ _)
      · refine Steady.trans ?_ (State.timeStateOut_steady _)
        exact (State.selectBias_steady s id 0).trans (Steady.of_eq rfl rfl)
      · exact Steady.ite (Steady.refl s) (State.setStepPending_steady _ _ _)

theorem State.loseT_steady (s : State) : Steady s s.loseT := by
  have hnone : Steady s (State.timeStateOut { s.selectT none with ref := { (s.selectT none).ref with stepPend := none } }) := by
    refine Steady.trans ?_ (State.timeStateOut_steady _)
    exact (State.selectT_steady s none).trans (Steady.of_eq rfl rfl)
  unfold State.loseT
  dsimp only
  split
  · exact hnone
  · exact hnone
  · exact hnone.trans (Steady.ite (State.setTstate_steady _ _ _) (State.setTstate_steady _ _ _))
  · exact hnone.trans (State.setTstate_steady _ _ _)

theorem State.reselect_steady (s : State) : Steady s s.reselect := by
  unfold State.reselect
  extract_lets _ s0 wf s1 wt
  have hpend : Steady s s0 := by
    unfold s0
    split
    · refine Steady.ite (Steady.refl s) (Steady.trans ?_ (State.timeStateOut_steady _))
      exact Steady.of_eq rfl rfl
    · exact Steady.refl s
  have hfreq : Steady s0 s1 := Steady.ite (Steady.refl _) (State.selectF_steady _ _)
  clear_value wt
  refine (hpend.trans hfreq).trans (Steady.ite (Steady.refl _) ?_)
  split
  · exact State.takeT_steady _ _
  · exact State.loseT_steady _

/-! ### Candidates and channels that stop -/

theorem State.setCandSt_steady (s : State) (id : Nat) (st : CandSt) (c : Nat) : Steady s (s.setCandSt id st c) :=
  Steady.of_touches (State.setCandSt_touches s id st c rfl)

theorem State.candFail_steady (s : State) (id cause : Nat) : Steady s (s.candFail id cause) := by
  have hdrop : ∀ t : State, Steady t (t.setCandSt id .failed cause).reselect := fun t =>
    (t.setCandSt_steady id .failed cause).trans (State.reselect_steady _)
  unfold State.candFail
  extract_lets c _ t _ u
  have ht : Steady s t := Steady.of_eq rfl rfl
  clear_value c
  refine ht.trans ?_
  split
  · exact hdrop t
  · exact hdrop t
  · have hu : Steady t u := Steady.ite (Steady.of_eq rfl rfl) (Steady.refl t)
    exact hu.trans (Steady.ite (hdrop u) (u.setCandSt_steady _ _ _))
  · exact Steady.refl t

theorem State.candAbsent_steady (s : State) (id : Nat) : Steady s (s.candAbsent id) := by
  unfold State.candAbsent
  refine Steady.ite (Steady.refl s) ?_
  extract_lets _ u
  have hu : Steady s u := Steady.ite (Steady.of_eq rfl rfl) (Steady.refl s)
  exact (hu.trans (u.setCandSt_steady _ _ _)).trans (State.reselect_steady _)

theorem State.setChanSt_steady (s : State) (i : Nat) (st : ChanState) : Steady s (s.setChanSt i st) :=
  Steady.of_touches (State.setChanSt_touches s i st rfl)

theorem State.chanLost_steady (s : State) (i : Nat) : Steady s (s.chanLost i) :=
  (s.setChanSt_steady i .lost).trans (State.candFail_steady _ _ _)

theorem State.chanStop_steady (s : State) (i : Nat) : Steady s (s.chanStop i) :=
  (Steady.ite (s.setChanSt_steady i .qualified) (Steady.refl s)).trans (State.candFail_steady _ _ _)

theorem State.portChansLost_steady (s : State) (p : Nat) : Steady s (s.portChansLost p) :=
  Steady.foldl (fun t i => Steady.ite (Steady.refl t) (t.chanLost_steady i)) _ s

end Sys2Proof.Machine
end

section
/-! ## DESTROY, DISABLE and ENABLE of objects (R88, R91, R94, R95) -/

set_option Elab.async false

namespace Sys2Proof.Machine

/-! ### What the type's part of a drain leaves alone -/

theorem State.objAccept_objs (s : State) (y : ObjType) (i : Nat) : (s.objAccept y i).objs = s.objs :=
  State.objAccept_touches (ps := Part.others .objs) s y i rfl .objs rfl

theorem State.objAccept_index (s : State) (y : ObjType) (i : Nat) : (s.objAccept y i).index = s.index :=
  State.objAccept_touches (ps := Part.others .index) s y i rfl .index rfl

theorem State.objAbort_objs (s : State) (y : ObjType) (i : Nat) : (s.objAbort y i).objs = s.objs :=
  State.objAbort_touches (ps := Part.others .objs) s y i rfl .objs rfl

theorem State.objAbort_index (s : State) (y : ObjType) (i : Nat) : (s.objAbort y i).index = s.index :=
  State.objAbort_touches (ps := Part.others .index) s y i rfl .index rfl

theorem State.objAbort_clk (s : State) (y : ObjType) (i : Nat) : (s.objAbort y i).clk = s.clk :=
  State.objAbort_touches (ps := Part.others .clk) s y i rfl .clk rfl

theorem State.objGone_index (s : State) (y : ObjType) (i : Nat) : (s.objGone y i).index = s.index :=
  State.objGone_touches (ps := Part.others .index) s y i rfl .index rfl

theorem State.objGone_hif (s : State) (y : ObjType) (i : Nat) : (s.objGone y i).hif = s.hif :=
  State.objGone_touches (ps := Part.others .hif) s y i rfl .hif rfl

theorem State.objResume_objs (s : State) (y : ObjType) (i : Nat) : (s.objResume y i).objs = s.objs :=
  State.objResume_touches (ps := Part.others .objs) s y i rfl .objs rfl

/-- The acceptance of a drain takes no time. -/
theorem State.objAccept_now (s : State) (y : ObjType) (i : Nat) : (s.objAccept y i).clk.now = s.clk.now := by
  cases y
  case tchan =>
    have hstop : Steady s (if (s.tchan i).role = 0 then s.setTchan i { s.tchan i with asks := [] } else s.chanStop i) :=
      Steady.ite (Steady.of_eq rfl rfl) (s.chanStop_steady i)
    exact (hstop.trans (Steady.of_touches (State.chansChanged_touches _ _ rfl))).now
  case mirror => exact congrArg Clock.now (State.bumpVersion_touches (ps := Part.others .clk) s _ rfl .clk rfl)
  all_goals rfl

/-! ### The end of a drain -/

theorem State.dropObj_obj? (s : State) (y : ObjType) (i : Nat) : (s.dropObj y i).obj? y i = none := Tab.find_erase_self _ _

theorem State.dropObj_gen (s : State) (y : ObjType) (i : Nat) : (s.dropObj y i).gen y i = (s.gen y i + 1) % 256 := by
  simp [State.dropObj, State.gen, State.indexTab]

theorem State.drainDone_index (s : State) (y : ObjType) (i : Nat) (x : Drain) (a : Nat) : (s.drainDone y i x a).index = s.index :=
  State.drainDone_touches (ps := Part.others .index) s y i x a rfl .index rfl

theorem State.drainDone_completes (s : State) (y : ObjType) (i : Nat) (x : Drain) (a : Nat) :
    Completed x.desc (y.op (if x.destroy then 4 else 6)) (if a = 0 then .ok else .drainedAbort) 0 (s.drainBytes x a) (s.drainDone y i x a) := rfl

section End

variable {s : State} {y : ObjType} {i a : Nat} {x : Drain} (hy : y ≠ .flow)
include hy

theorem State.objEnd_eq : s.objEnd y i x a =
    if x.destroy then ((s.drainDone y i x a).objGone y i).dropObj y i
    else (s.drainDone y i x a).setObj y i { s.obj y i with phase := .suspended, drain := none, waiting := [] } := by
  cases y
  case flow => exact absurd rfl hy
  all_goals rfl

theorem State.objEnd_hif : (s.objEnd y i x a).hif = (s.drainDone y i x a).hif := by
  rw [State.objEnd_eq hy]
  split
  · exact State.objGone_hif _ y i
  · rfl

theorem State.objEnd_completes : Completed x.desc (y.op (if x.destroy then 4 else 6)) (if a = 0 then .ok else .drainedAbort) 0
    (s.drainBytes x a) (s.objEnd y i x a) :=
  (congrArg HifState.lastCpl (State.objEnd_hif hy)).trans (s.drainDone_completes y i x a)

/-- A drain that ends a DESTROY frees the index (R88). -/
theorem State.objEnd_destroyed (hx : x.destroy = true) :
    (s.objEnd y i x a).obj? y i = none ∧ (s.objEnd y i x a).gen y i = (s.gen y i + 1) % 256 := by
  rw [State.objEnd_eq hy, if_pos hx]
  refine ⟨State.dropObj_obj? _ y i, ?_⟩
  rw [State.dropObj_gen]
  simp only [State.gen, State.indexTab, State.objGone_index, State.drainDone_index]

/-- A drain that ends a DISABLE suspends the object (R91). -/
theorem State.objEnd_disabled (hx : x.destroy = false) :
    (s.objEnd y i x a).obj? y i = some { s.obj y i with phase := .suspended, drain := none, waiting := [] } := by
  rw [State.objEnd_eq hy, hx]
  exact Tab.find_set_self _ _ _

end End

theorem State.obj_of_obj? {s : State} {y : ObjType} {i : Nat} {o : Obj} (h : s.obj? y i = some o) : s.obj y i = o := by
  unfold State.obj? at h
  unfold State.obj
  generalize s.objs = t at h ⊢
  induction t with
  | nil => cases h
  | cons e t ih =>
    obtain ⟨k, v⟩ := e
    simp only [Tab.find, Tab.get] at h ⊢
    split at h
    · next hk => rw [if_pos hk]; exact Option.some.inj h
    · next hk => rw [if_neg hk]; exact ih h

/-! ### What a drain finds when it begins -/

theorem State.objFlight_startCmd (s : State) (d : CmdDesc) (y : ObjType) (i : Nat) : (s.startCmd d).objFlight y i = s.objFlight y i := by
  rw [State.startCmd_eq]
  cases y <;> rfl

theorem State.objBusy_startCmd (s : State) (d : CmdDesc) (y : ObjType) (i : Nat) : (s.startCmd d).objBusy y i = s.objBusy y i := by
  rw [State.startCmd_eq]
  cases y <;> rfl

theorem State.drainMax_startCmd (s : State) (d : CmdDesc) (y : ObjType) (i : Nat) : (s.startCmd d).drainMax y i = s.drainMax y i := by
  rw [State.startCmd_eq]
  cases y <;> rfl

theorem State.objVerBusy_startCmd (s : State) (d : CmdDesc) (y : ObjType) (i : Nat) : (s.startCmd d).objVerBusy y i = s.objVerBusy y i := by
  rw [State.startCmd_eq]
  cases y <;> rfl

theorem State.gen_startCmd (s : State) (d : CmdDesc) (y : ObjType) (i : Nat) : (s.startCmd d).gen y i = s.gen y i := by
  simp [State.gen, State.indexTab]

/-- A calibration job whose precondition holds is not lost (R327). -/
theorem State.calCheckLost_of_holds {s : State} {y : ObjType} {i : Nat} (h : y = .cal → s.calHolds (s.calTarget i) (s.calInst i) = true)
    (hy : y = .cal) : s.calCheckLost i = s := by
  simp [State.calCheckLost, h hy]

/-- The drain that a command begins on an object. -/
def State.drainOf (s : State) (y : ObjType) (d : CmdDesc) (destroy : Bool) (n : Nat) : Drain :=
  { desc := d, destroy := destroy, limitUs := d.drainLimit (s.drainMax y (hIndex d.handle)).1 (s.drainMax y (hIndex d.handle)).2
    start := s.clk.now, items := n }

/-- The object as its drain begins: its unit has stopped its contribution (R94). -/
def State.drainBegun (s : State) (y : ObjType) (d : CmdDesc) (x : Drain) : State :=
  ((s.startCmd d).setObj y (hIndex d.handle) { s.obj y (hIndex d.handle) with phase := .draining, drain := some x }).objAccept y
    (hIndex d.handle)

theorem State.drainingObj_none {s : State} {y : ObjType} {h : Word} (hphase : (s.obj y (hIndex h)).phase ≠ .draining) :
    s.drainingObj y h = none := by
  simp [State.drainingObj, hphase]

/-- The outcome of a DESTROY or DISABLE that is accepted on an object that does not drain. -/
theorem State.objDrain_takes {s : State} {y : ObjType} {d : CmdDesc} {destroy : Bool} {n : Nat} (hy : y ≠ .flow)
    (hacc : s.Accepts d (y.op (if destroy then 4 else 6)) (s.targetChecks y d true false false (drainReserved d) false))
    (hver : s.objVerBusy y (hIndex d.handle) = false) (hphase : (s.obj y (hIndex d.handle)).phase ≠ .draining)
    (hact : (s.obj y (hIndex d.handle)).phase = .suspended → destroy = true)
    (hcal : y = .cal → s.calHolds (s.calTarget (hIndex d.handle)) (s.calInst (hIndex d.handle)) = true)
    (hn : n = if (s.obj y (hIndex d.handle)).phase = .suspended then 0 else s.objFlight y (hIndex d.handle)) :
    s.objDrain false y d destroy =
      if n = 0 then (s.drainBegun y d (s.drainOf y d destroy n)).objEnd y (hIndex d.handle) (s.drainOf y d destroy n) 0
      else if d.drainNow || !(decide ((s.obj y (hIndex d.handle)).phase ≠ .suspended) && s.objBusy y (hIndex d.handle)) then
        ((s.drainBegun y d (s.drainOf y d destroy n)).objAbort y (hIndex d.handle)).objEnd y (hIndex d.handle) (s.drainOf y d destroy n) n
      else s.drainBegun y d (s.drainOf y d destroy n) := by
  have hhold : y = .cal → (s.startCmd d).calCheckLost (hIndex d.handle) = s.startCmd d := State.calCheckLost_of_holds (by
    rw [State.startCmd_eq]
    exact hcal)
  have hgo : ¬ ((s.obj y (hIndex d.handle)).phase = .suspended ∧ (!destroy) = true) := by
    rintro ⟨hs, hd⟩
    simp [hact hs] at hd
  subst hn
  cases y
  case flow => exact absurd rfl hy
  all_goals
    simp only [State.objDrain]
    rw [State.runNamed_started hacc.1 (State.drainingObj_none hphase), State.runCmd_accepted_free hacc rfl]
    simp only [State.obj_startCmd, hgo, if_false, State.objVerBusy_startCmd, hver, Bool.false_eq_true, reduceCtorEq, if_true, hhold,
      State.objFlight_startCmd, State.objBusy_startCmd, State.drainMax_startCmd, State.startCmd_clk]
    rfl

/-! ### An object whose drain has begun -/

section Begun

variable (s : State) (y : ObjType) (d : CmdDesc) (x : Drain)

theorem State.drainBegun_obj? : (s.drainBegun y d x).obj? y (hIndex d.handle) =
    some { s.obj y (hIndex d.handle) with phase := .draining, drain := some x } := by
  unfold State.drainBegun State.obj?
  rw [State.objAccept_objs]
  exact Tab.find_set_self _ _ _

theorem State.drainBegun_obj : (s.drainBegun y d x).obj y (hIndex d.handle) =
    { s.obj y (hIndex d.handle) with phase := .draining, drain := some x } :=
  State.obj_of_obj? (s.drainBegun_obj? y d x)

theorem State.drainBegun_gen : (s.drainBegun y d x).gen y (hIndex d.handle) = s.gen y (hIndex d.handle) := by
  unfold State.drainBegun State.gen State.indexTab
  rw [State.objAccept_index]
  simp

theorem State.drainBegun_now : (s.drainBegun y d x).clk.now = s.clk.now := by
  unfold State.drainBegun
  rw [State.objAccept_now]
  simp

end Begun

/-- RESULT of a drain that ends in the step in which it began. -/
theorem State.drainBytes_atOnce {s : State} {x : Drain} {n : Nat} (hstart : x.start = s.clk.now) (hitems : x.items = n)
    (hin : x.timedOut = false) : s.drainBytes x n = leBytes 0 4 ++ leBytes n 4 ++ leBytes 0 4 := by
  simp [State.drainBytes, hstart, hitems, hin]

theorem State.obj_objAbort (s : State) (y z : ObjType) (i j : Nat) : (s.objAbort y i).obj z j = s.obj z j := by
  simp only [State.obj, State.objAbort_objs]

theorem State.gen_objAbort (s : State) (y z : ObjType) (i j : Nat) : (s.objAbort y i).gen z j = s.gen z j := by
  simp only [State.gen, State.indexTab, State.objAbort_index]

/-- An object that `u` holds in its drain has been brought to the end of it, with `a` items aborted, in the step that began it. -/
theorem State.objEnd_atOnce {s u : State} {y : ObjType} {d : CmdDesc} {destroy : Bool} {n a : Nat} (hy : y ≠ .flow)
    (hobj : u.obj y (hIndex d.handle) = (s.drainBegun y d (s.drainOf y d destroy n)).obj y (hIndex d.handle))
    (hgen : u.gen y (hIndex d.handle) = s.gen y (hIndex d.handle)) (hnow : u.clk.now = s.clk.now) (ha : a = n) :
    (destroy = true → (u.objEnd y (hIndex d.handle) (s.drainOf y d destroy n) a).obj? y (hIndex d.handle) = none ∧
      (u.objEnd y (hIndex d.handle) (s.drainOf y d destroy n) a).gen y (hIndex d.handle) = (s.gen y (hIndex d.handle) + 1) % 256) ∧
    (destroy = false → (u.objEnd y (hIndex d.handle) (s.drainOf y d destroy n) a).obj? y (hIndex d.handle) =
      some { s.obj y (hIndex d.handle) with phase := .suspended, drain := none, waiting := [] }) ∧
    Completed d (y.op (if destroy then 4 else 6)) (if n = 0 then .ok else .drainedAbort) 0 (leBytes 0 4 ++ leBytes n 4 ++ leBytes 0 4)
      (u.objEnd y (hIndex d.handle) (s.drainOf y d destroy n) a) := by
  subst ha
  refine ⟨fun hd => ?_, fun hd => ?_, ?_⟩
  · rw [← hgen]
    exact State.objEnd_destroyed hy hd
  · rw [State.objEnd_disabled hy hd, hobj, State.drainBegun_obj]
  · have hbytes : u.drainBytes (s.drainOf y d destroy a) a = leBytes 0 4 ++ leBytes a 4 ++ leBytes 0 4 :=
      State.drainBytes_atOnce hnow.symm rfl rfl
    rw [← hbytes]
    exact State.objEnd_completes hy

theorem exec_disable (y : ObjType) (d : CmdDesc) (s : State) :
    exec (disableCmd y d) s = effect d.wf s (s.objDrain false y d false) := by
  cases y <;> rfl

theorem exec_enable (y : ObjType) (d : CmdDesc) (s : State) :
    exec (enableCmd y d) s = effect d.wf s (s.objEnable false y d) := by
  cases y <;> rfl

theorem State.objDrain_objParts (s : State) (y : ObjType) (d : CmdDesc) (destroy : Bool) :
    Touches objParts s ((s.objDrain false y d destroy).carry s) :=
  (State.objDrain_touches s false y d destroy rfl).carry

/-- A DESTROY or DISABLE whose drain ends at once: nothing is in flight, or what is in flight is aborted. -/
theorem State.objDrain_ends {s : State} {y : ObjType} {d : CmdDesc} {destroy : Bool} {n : Nat} (hy : y ≠ .flow)
    (hacc : s.Accepts d (y.op (if destroy then 4 else 6)) (s.targetChecks y d true false false (drainReserved d) false))
    (hver : s.objVerBusy y (hIndex d.handle) = false) (hphase : (s.obj y (hIndex d.handle)).phase ≠ .draining)
    (hact : (s.obj y (hIndex d.handle)).phase = .suspended → destroy = true)
    (hcal : y = .cal → s.calHolds (s.calTarget (hIndex d.handle)) (s.calInst (hIndex d.handle)) = true)
    (hn : n = if (s.obj y (hIndex d.handle)).phase = .suspended then 0 else s.objFlight y (hIndex d.handle))
    (hend : n = 0 ∨ d.drainNow = true ∨ s.objBusy y (hIndex d.handle) = false) :
    (destroy = true → (s.objDrain false y d destroy).obj? y (hIndex d.handle) = none ∧
      (s.objDrain false y d destroy).gen y (hIndex d.handle) = (s.gen y (hIndex d.handle) + 1) % 256) ∧
    (destroy = false → (s.objDrain false y d destroy).obj? y (hIndex d.handle) =
      some { s.obj y (hIndex d.handle) with phase := .suspended, drain := none, waiting := [] }) ∧
    Completed d (y.op (if destroy then 4 else 6)) (if n = 0 then .ok else .drainedAbort) 0 (leBytes 0 4 ++ leBytes n 4 ++ leBytes 0 4)
      (s.objDrain false y d destroy) := by
  rw [State.objDrain_takes hy hacc hver hphase hact hcal hn]
  by_cases hzero : n = 0
  · rw [if_pos hzero]
    exact State.objEnd_atOnce hy rfl (State.drainBegun_gen _ _ _ _) (State.drainBegun_now _ _ _ _) hzero.symm
  · have hstop : (d.drainNow || !(decide ((s.obj y (hIndex d.handle)).phase ≠ .suspended) && s.objBusy y (hIndex d.handle))) = true := by
      obtain h | h | h := hend
      · exact absurd h hzero
      · simp [h]
      · simp [h]
    rw [if_neg hzero, if_pos hstop]
    refine State.objEnd_atOnce hy (State.obj_objAbort _ _ _ _ _) ?_ ?_ rfl
    · rw [State.gen_objAbort, State.drainBegun_gen]
    · rw [State.objAbort_clk, State.drainBegun_now]

/-- One whose drain goes on: the object drains, and the command waits. -/
theorem State.objDrain_waits {s : State} {y : ObjType} {d : CmdDesc} {destroy : Bool} {n : Nat} (hy : y ≠ .flow)
    (hacc : s.Accepts d (y.op (if destroy then 4 else 6)) (s.targetChecks y d true false false (drainReserved d) false))
    (hver : s.objVerBusy y (hIndex d.handle) = false) (hphase : (s.obj y (hIndex d.handle)).phase = .active)
    (hcal : y = .cal → s.calHolds (s.calTarget (hIndex d.handle)) (s.calInst (hIndex d.handle)) = true)
    (hn : n = s.objFlight y (hIndex d.handle)) (hflight : n ≠ 0) (hnow : d.drainNow = false)
    (hbusy : s.objBusy y (hIndex d.handle) = true) :
    (s.objDrain false y d destroy).obj? y (hIndex d.handle) =
      some { s.obj y (hIndex d.handle) with phase := .draining, drain := some (s.drainOf y d destroy n) } := by
  rw [State.objDrain_takes hy hacc hver (by simp [hphase]) (by simp [hphase]) hcal (n := n) (by simpa [hphase] using hn), if_neg hflight,
    if_neg (by simp [hnow, hbusy, hphase])]
  exact State.drainBegun_obj? _ _ _ _

/-- ENABLE of a suspended object (R95). -/
theorem State.objEnable_resumes {s : State} {y : ObjType} {d : CmdDesc} (hy : y ≠ .flow)
    (hacc : s.Accepts d (y.op 7) (s.targetChecks y d true false false (!(d.zero 12 32)) false))
    (hphase : (s.obj y (hIndex d.handle)).phase = .suspended) (hver : s.objVerBusy y (hIndex d.handle) = false) :
    s.objEnable false y d = (((s.startCmd d).setObj y (hIndex d.handle) { s.obj y (hIndex d.handle) with phase := .active }).objResume y
      (hIndex d.handle)).complete d (y.op 7) .ok := by
  cases y
  case flow => exact absurd rfl hy
  all_goals
    simp only [State.objEnable]
    rw [State.runNamed_started hacc.1 (State.drainingObj_none (by simp [hphase])), State.runCmd_accepted_free hacc rfl]
    simp only [State.obj_startCmd, hphase, ne_eq, not_true, if_false, State.objVerBusy_startCmd, hver, Bool.false_eq_true]

/-- The end of a drain, or its limit: what is left is aborted, and the command completes (R94). -/
theorem State.drainEnd_ends {s : State} {h : Word} {y : ObjType} {x : Drain} {limit : Bool} (htype : hObjType h = some y)
    (hstale : s.stale y h = false) (hdrain : (s.obj y (hIndex h)).drain = some x) (hwait : (s.obj y (hIndex h)).waiting = [])
    (hend : limit = true ∨ s.objBusy y (hIndex h) = false) :
    s.drainEnd h limit = (if s.objFlight y (hIndex h) = 0 then s else s.objAbort y (hIndex h)).objEnd y (hIndex h)
      { x with timedOut := limit } (s.objFlight y (hIndex h)) := by
  have hgo : ¬ ((!limit) = true ∧ s.objBusy y (hIndex h) = true) := by
    rintro ⟨hl, hb⟩
    obtain rfl | hb' := hend
    · cases hl
    · rw [hb'] at hb; cases hb
  simp only [State.drainEnd, htype, hstale, hdrain, hwait, Bool.false_eq_true, if_false, hgo, List.foldl_nil]

/-- The object and its command after the end of a drain. -/
theorem State.drainEnd_settles {s : State} {h : Word} {y : ObjType} {x : Drain} {limit : Bool} (hy : y ≠ .flow) (htype : hObjType h = some y)
    (hstale : s.stale y h = false) (hdrain : (s.obj y (hIndex h)).drain = some x) (hwait : (s.obj y (hIndex h)).waiting = [])
    (hend : limit = true ∨ s.objBusy y (hIndex h) = false) :
    (x.destroy = false → ((s.drainEnd h limit).obj y (hIndex h)).phase = .suspended ∧ ((s.drainEnd h limit).obj y (hIndex h)).drain = none) ∧
    (x.destroy = true → (s.drainEnd h limit).obj? y (hIndex h) = none ∧
      (s.drainEnd h limit).gen y (hIndex h) = (s.gen y (hIndex h) + 1) % 256) ∧
    Completed x.desc (y.op (if x.destroy then 4 else 6)) (if s.objFlight y (hIndex h) = 0 then .ok else .drainedAbort) 0
      (s.drainBytes { x with timedOut := limit } (s.objFlight y (hIndex h))) (s.drainEnd h limit) := by
  rw [State.drainEnd_ends htype hstale hdrain hwait hend]
  generalize hn : s.objFlight y (hIndex h) = n
  have hgen : (if n = 0 then s else s.objAbort y (hIndex h)).gen y (hIndex h) = s.gen y (hIndex h) := by
    split
    · rfl
    · exact State.gen_objAbort _ _ _ _ _
  have hclk : (if n = 0 then s else s.objAbort y (hIndex h)).clk = s.clk := by
    split
    · rfl
    · exact State.objAbort_clk _ _ _
  refine ⟨fun hd => ?_, fun hd => ?_, ?_⟩
  · have hobj := State.obj_of_obj? (State.objEnd_disabled (s := if n = 0 then s else s.objAbort y (hIndex h)) (y := y) (i := hIndex h)
      (a := n) (x := { x with timedOut := limit }) hy hd)
    rw [hobj]
    exact ⟨rfl, rfl⟩
  · rw [← hgen]
    exact State.objEnd_destroyed hy hd
  · have hbytes : s.drainBytes { x with timedOut := limit } n =
        (if n = 0 then s else s.objAbort y (hIndex h)).drainBytes { x with timedOut := limit } n := by
      simp only [State.drainBytes, hclk]
    rw [hbytes]
    exact State.objEnd_completes hy

/-! ### The statement -/

/-- Settles O17. -/
theorem objectDrainAndEnable : Obligations.ObjectDrainAndEnable := by
  refine ⟨?destroy, ?disable, ?enable, ?drained, ?limit⟩
  case destroy =>
    intro s y d i n hup hwf hy hi hn hacc hver hwait hcal
    subst hi
    refine ⟨fun hphase => ?_, fun hphase hflight hstop => ?_, fun hphase hflight hnow hbusy => ?_⟩
    · have hends := State.objDrain_ends (destroy := true) (n := 0) hy hacc hver (by rcases hphase with h | ⟨h, -⟩ <;> simp [h])
        (fun _ => rfl) hcal (by rcases hphase with h | ⟨h, h0⟩ <;> simp [h, ← hn]; exact h0.symm) (.inl rfl)
      obtain ⟨hgone, -, hcpl⟩ := hends
      exact gives_effect (exec_destroy y d s) hup hwf ⟨(hgone rfl).1, (hgone rfl).2, hcpl, State.objDrain_objParts _ _ _ _⟩
    · obtain ⟨hgone, -, hcpl⟩ := State.objDrain_ends (destroy := true) (n := n) hy hacc hver (by simp [hphase]) (fun _ => rfl) hcal
        (by simpa [hphase] using hn) (.inr hstop)
      rw [if_neg hflight] at hcpl
      exact gives_effect (exec_destroy y d s) hup hwf ⟨(hgone rfl).1, (hgone rfl).2, hcpl, State.objDrain_objParts _ _ _ _⟩
    · have hdrains := State.objDrain_waits (destroy := true) hy hacc hver hphase hcal hn hflight hnow hbusy
      exact gives_effect (exec_destroy y d s) hup hwf ⟨hdrains, State.objDrain_objParts _ _ _ _⟩
  case disable =>
    intro s y d i n hup hwf hy hi hn hacc hver hphase hwait hcal
    subst hi
    refine ⟨fun hstop => ?_, fun hflight hnow hbusy => ?_⟩
    · obtain ⟨-, hkept, hcpl⟩ := State.objDrain_ends (destroy := false) (n := n) hy hacc hver (by simp [hphase]) (by simp [hphase]) hcal
        (by simpa [hphase] using hn) hstop
      exact gives_effect (exec_disable y d s) hup hwf ⟨hkept rfl, hcpl, State.objDrain_objParts _ _ _ _⟩
    · have hdrains := State.objDrain_waits (destroy := false) hy hacc hver hphase hcal hn hflight hnow hbusy
      exact gives_effect (exec_disable y d s) hup hwf ⟨hdrains, State.objDrain_objParts _ _ _ _⟩
  case enable =>
    intro s y d hup hwf hy hacc hphase hver
    have hrun := State.objEnable_resumes hy hacc hphase hver
    have hobj : (s.objEnable false y d).obj y (hIndex d.handle) = { s.obj y (hIndex d.handle) with phase := .active } := by
      rw [hrun]
      simp only [State.obj, State.complete_objs, State.objResume_objs]
      exact Tab.get_set_self _ _ _ _
    refine gives_effect (exec_enable y d s) hup hwf ⟨?_, ?_, ?_,
      (State.objEnable_touches s false y d rfl).carry⟩
    · exact congrArg Obj.phase hobj
    · exact (congrArg Obj.args hobj).trans rfl
    · exact (congrArg (fun t : State => t.hif.lastCpl) hrun).trans (State.complete_lastCpl _ _ _ _ _ _ _)
  case drained =>
    intro s h y x i n hup hwf hy htype hi hn hstale hdrain hidle hwait
    subst hi hn
    obtain ⟨hkept, hgone, hcpl⟩ := State.drainEnd_settles (limit := false) hy htype hstale hdrain hwait (.inr hidle)
    exact gives_effect rfl hup rfl ⟨hkept, hgone, hcpl, (State.drainEnd_touches s h false rfl).carry⟩
  case limit =>
    intro s h y x i n hup hwf hy htype hi hn hstale hdrain hwait
    subst hi hn
    obtain ⟨hkept, hgone, hcpl⟩ := State.drainEnd_settles (limit := true) hy htype hstale hdrain hwait (.inl rfl)
    exact gives_effect rfl hup rfl ⟨hkept, hgone, hcpl, (State.drainEnd_touches s h true rfl).carry⟩

end Sys2Proof.Machine
end

section
/-! ## CREATE and MODIFY of objects (R86, R88, R91, R196, R220, R293, R322, R326) -/

set_option Elab.async false

namespace Sys2Proof.Machine

/-! ### What a CREATE reads is nothing that its start changes -/

section Started

variable (s : State) (d e : CmdDesc)

theorem State.obj?_startCmd (y : ObjType) (i : Nat) : (s.startCmd d).obj? y i = s.obj? y i := by simp [State.obj?]

theorem State.nextIndex_startCmd (y : ObjType) : (s.startCmd d).nextIndex y = s.nextIndex y := by simp [State.nextIndex, State.indexTab]

theorem State.mchanNotReady_startCmd : (s.startCmd d).mchanNotReady e = s.mchanNotReady e := by
  rw [State.startCmd_eq]
  rfl

theorem State.verBusy_startCmd (l : List EntryKey) : (s.startCmd d).verBusy l = s.verBusy l := by
  rw [State.startCmd_eq]
  rfl

theorem State.version_startCmd (k : EntryKey) : (s.startCmd d).fdb.version k = s.fdb.version k := by simp

theorem State.taskHeld_startCmd (n : Nat) : (s.startCmd d).taskHeld n = s.taskHeld n := by
  rw [State.startCmd_eq]
  rfl

theorem State.taskMoving_startCmd (n : Nat) : (s.startCmd d).taskMoving n = s.taskMoving n := by
  rw [State.startCmd_eq]
  rfl

theorem State.forcedRole_startCmd (p r : Nat) : (s.startCmd d).forcedRole p r = s.forcedRole p r := by
  rw [State.startCmd_eq]
  rfl

theorem State.tchanTwin_startCmd (o : Obj) : (s.startCmd d).tchanTwin o = s.tchanTwin o := by
  rw [State.startCmd_eq]
  rfl

theorem State.portLoad_startCmd (p : Nat) (b : Option Nat) : (s.startCmd d).portLoad p b = s.portLoad p b := by
  rw [State.startCmd_eq]
  rfl

theorem State.placeFor_startCmd (i load : Nat) : (s.startCmd d).placeFor i load = s.placeFor i load := by
  rw [State.startCmd_eq]
  rfl

theorem State.calJobOn_startCmd (t i : Nat) : (s.startCmd d).calJobOn t i = s.calJobOn t i := by
  rw [State.startCmd_eq]
  rfl

theorem State.calPre_startCmd (t i : Nat) : (s.startCmd d).calPre t i = s.calPre t i := by
  rw [State.startCmd_eq]
  rfl

end Started

/-! ### An object that appears -/

theorem State.addObj_obj? (s : State) (y : ObjType) (i : Nat) (o : Obj) : (s.addObj y i o).obj? y i = some o := Tab.find_set_self _ _ _

theorem IndexTab.take_gens (x : IndexTab) (n : Nat) : (x.take n).gens = x.gens := by
  unfold IndexTab.take
  split
  · rfl
  · split <;> rfl

/-- A CREATE leaves the generations (R88). -/
theorem State.handleOf_addObj (s : State) (y : ObjType) (i j : Nat) (o : Obj) : (s.addObj y i o).handleOf y j = s.handleOf y j := by
  have hgens : ((s.addObj y i o).indexTab y).gens = (s.indexTab y).gens := by
    cases y <;> simp [State.addObj, State.indexTab, IndexTab.take_gens]
  simp only [State.handleOf, State.gen, hgens]

theorem State.handleOf_of_index {s t : State} (h : t.index = s.index) (y : ObjType) (j : Nat) : t.handleOf y j = s.handleOf y j := by
  simp only [State.handleOf, State.gen, State.indexTab, h]

/-! ### The version of an entry (R190) -/

theorem State.verFullSeen_version (s : State) (k : EntryKey) : s.verFullSeen.fdb.version k = s.fdb.version k := by
  unfold State.verFullSeen
  split <;> rfl

theorem State.bumpVersion_version (s : State) (k : EntryKey) : (s.bumpVersion k).fdb.version k = (s.fdb.version k + 1) % 65536 := by
  unfold State.bumpVersion
  rw [State.verFullSeen_version]
  exact Tab.get_set_self _ _ _ _

/-! ### LNK looks at a port again: the channels and the objects stay -/

theorem State.chansChanged_tchan (s : State) (p i : Nat) : (s.chansChanged p).tchan i = s.tchan i := by
  have hsame : (s.chansChanged p).tchans = s.tchans := State.chansChanged_touches (ps := Part.others .tchans) s p rfl .tchans rfl
  simp only [State.tchan, hsame]

theorem State.chansChanged_objs (s : State) (p : Nat) : (s.chansChanged p).objs = s.objs :=
  State.chansChanged_touches (ps := Part.others .objs) s p rfl .objs rfl

theorem State.chansChanged_index (s : State) (p : Nat) : (s.chansChanged p).index = s.index :=
  State.chansChanged_touches (ps := Part.others .index) s p rfl .index rfl

/-! ### What each CREATE leaves -/

section Create

variable {s : State} {d : CmdDesc}

theorem State.mchanCreate_eq
    (hacc : s.Accepts d 0x0301 (createChecks .mchan d false (s.mchanAbsent d) (mchanReserved d) (mchanBad d)))
    (hfree : s.obj? .mchan (d.arg 12 1) = none) (hready : s.mchanNotReady d = false) :
    s.mchanCreate d = ((s.startCmd d).addObj .mchan (d.arg 12 1) { args := d.objArgs }).complete d 0x0301 .ok
      (s.handleOf .mchan (d.arg 12 1)) := by
  rw [State.mchanCreate, State.runCmd_accepted_free hacc rfl]
  simp only [State.obj?_startCmd, hfree, State.mchanNotReady_startCmd, hready, State.handleOf_addObj, State.handleOf_startCmd,
    Option.isSome_none, Bool.false_eq_true, if_false]

theorem State.mirrorCreate_eq
    (hacc : s.Accepts d 0x0401 { createChecks .mirror d false (s.mirAbsent d) (mirReserved d) (s.mirBad d) with stale := s.mirStale d })
    (hfree : s.obj? .mirror (d.arg 13 1) = none) (hver : s.verBusy [.mir (d.arg 13 1)] = false) :
    s.mirrorCreate d = (((s.startCmd d).bumpVersion (.mir (d.arg 13 1))).addObj .mirror (d.arg 13 1) { args := d.objArgs }).complete d
      0x0401 .ok (s.handleOf .mirror (d.arg 13 1)) := by
  have hindex : ((s.startCmd d).bumpVersion (.mir (d.arg 13 1))).index = s.index :=
    (State.bumpVersion_touches (ps := Part.others .index) _ _ rfl .index rfl).trans (State.startCmd_index s d)
  rw [State.mirrorCreate, State.runCmd_accepted_free hacc rfl]
  simp only [State.obj?_startCmd, hfree, State.verBusy_startCmd, hver, State.handleOf_addObj, State.handleOf_of_index hindex,
    Option.isSome_none, Bool.false_eq_true, if_false]

theorem State.searchCreate_eq {j : Nat}
    (hacc : s.Accepts d 0x0501 (createChecks .search d false (!s.variant.gnss) (searchReserved d) (searchArgsOf d.objArgs).bad))
    (hnext : s.nextIndex .search = some j) :
    s.searchCreate d = ((s.startCmd d).searchMake j d.objArgs).complete d 0x0501 .ok (s.handleOf .search j)
      (leBytes (((s.startCmd d).searchMake j d.objArgs).searchJob j).cells 4) := by
  have hhandle : ((s.startCmd d).searchMake j d.objArgs).handleOf .search j = s.handleOf .search j :=
    (State.handleOf_addObj (s.startCmd d) .search j j { args := d.objArgs }).trans (State.handleOf_startCmd s d _ _)
  rw [State.searchCreate, State.runCmd_accepted_free hacc rfl]
  simp only [State.nextIndex_startCmd, hnext, hhandle]

/-- A timing channel that has been placed, before LNK looks at its port again. -/
def State.tchanPlaced (s : State) (d : CmdDesc) (i e role : Nat) : State :=
  ((s.startCmd d).addObj .tchan i d.asObj).setTchan i { state := if role = 0 then .sending else .listening, role := role, engine := some e }

theorem State.tchanCreate_eq {i e role : Nat}
    (hacc : s.Accepts d 0x0201 (createChecks .tchan d (tchanExt d) (s.tchanAbsent d) (tchanReserved d) (s.tchanBad d)))
    (htwin : s.tchanTwin d.asObj = false)
    (hrole : role = (if s.taskHeld 4 then s.forcedRole d.asObj.chanPort d.asObj.chanRole else d.asObj.chanRole))
    (hnext : s.nextIndex .tchan = some i) (hload : s.portLoad d.asObj.chanPort none + d.asObj.chanLoad role ≤ 131072)
    (hplace : s.placeFor i (d.asObj.chanLoad role) = some e) :
    s.tchanCreate d = ((s.tchanPlaced d i e role).chansChanged d.asObj.chanPort).complete d 0x0201 .ok (s.handleOf .tchan i) (leBytes e 4) := by
  have hhandle : ((s.tchanPlaced d i e role).chansChanged d.asObj.chanPort).handleOf .tchan i = s.handleOf .tchan i :=
    (State.handleOf_of_index (State.chansChanged_index _ _) _ _).trans
      ((State.handleOf_addObj (s.startCmd d) .tchan i i d.asObj).trans (State.handleOf_startCmd _ _ _ _))
  rw [State.tchanCreate, State.runCmd_accepted_free hacc rfl]
  simp only [State.tchanTwin_startCmd, htwin, Bool.false_eq_true, if_false, State.tchanMake, State.taskHeld_startCmd,
    State.forcedRole_startCmd, ← hrole, State.nextIndex_startCmd, hnext, State.portLoad_startCmd, Nat.not_lt.mpr hload,
    State.placeFor_startCmd, hplace]
  rw [← hhandle]
  rfl

/-- A calibration job that has begun under index `j`. -/
def State.calBegun (s : State) (d : CmdDesc) (j : Nat) : State := ((s.startCmd d).addObj .cal j { args := d.objArgs }).calBegin j

theorem State.calCreate_eq {j : Nat}
    (hacc : s.Accepts d 0x0601 (createChecks .cal d false (s.calAbsent d) (calReserved d) (s.calBad d))) (hmoving : s.taskMoving 9 = false)
    (hnext : s.nextIndex .cal = some j) (hother : s.calJobOn (d.arg 12 1) (d.arg 14 2) = false) (hheld : s.taskHeld 9 = true)
    (hpre : s.calPre (d.arg 12 1) (d.arg 14 2) = true) :
    s.calCreate d = ({ s.calBegun d j with free := (s.calBegun d j).free + 1 } : State).complete d 0x0601 .ok (s.handleOf .cal j)
      (s.calBegun d j).calExpected := by
  have hindex : (s.calBegun d j).index = ((s.startCmd d).addObj .cal j { args := d.objArgs }).index :=
    State.calBegin_touches (ps := Part.others .index) _ _ rfl .index rfl
  have hhandle : (s.calBegun d j).handleOf .cal j = s.handleOf .cal j :=
    (State.handleOf_of_index hindex _ _).trans
      ((State.handleOf_addObj (s.startCmd d) .cal j j { args := d.objArgs }).trans (State.handleOf_startCmd _ _ _ _))
  rw [State.calCreate, State.runCmd_accepted_free hacc rfl]
  simp only [State.calMake, State.taskMoving_startCmd, hmoving, Bool.false_eq_true, if_false, State.nextIndex_startCmd, hnext,
    State.calJobOn_startCmd, hother, State.taskHeld_startCmd, hheld, State.calPre_startCmd, hpre, Bool.not_true, Bool.or_self]
  rw [← hhandle]
  rfl

end Create

/-- Settles O18. -/
theorem objectCreate : Obligations.ObjectCreate := by
  refine ⟨?mchan, ?mirror, ?search, ?tchan, ?cal⟩
  case mchan =>
    intro s d hup hwf hacc hfree hready
    refine gives_effect (congrArg (effect d.wf s) (State.mchanCreate_eq hacc hfree hready)) hup hwf
      ⟨State.addObj_obj? _ _ _ _, rfl, ?_⟩
    exact (((State.startCmd_touches s d rfl).step (State.addObj_touches _ _ _ _ rfl)).step
      (State.complete_touches _ _ _ _ _ _ _ rfl)).carry
  case mirror =>
    intro s d hup hwf hacc hfree hver
    refine gives_effect (congrArg (effect d.wf s) (State.mirrorCreate_eq hacc hfree hver)) hup hwf
      ⟨State.addObj_obj? _ _ _ _, ?_, rfl, ?_⟩
    · exact (State.bumpVersion_version _ _).trans (by rw [State.version_startCmd])
    · exact ((((State.startCmd_touches s d rfl).step (State.bumpVersion_touches _ _ rfl)).step (State.addObj_touches _ _ _ _ rfl)).step
        (State.complete_touches _ _ _ _ _ _ _ rfl)).carry
  case search =>
    intro s d j hup hwf hacc hnext
    have hobj : ((s.startCmd d).searchMake j d.objArgs).obj? .search j = some { args := d.objArgs } := State.addObj_obj? _ _ _ _
    refine gives_effect (congrArg (effect d.wf s) (State.searchCreate_eq hacc hnext)) hup hwf
      ⟨congrArg Option.isSome hobj, ⟨_, rfl⟩, ?_⟩
    exact (((State.startCmd_touches s d rfl).step (State.searchMake_touches _ _ _ rfl)).step
      (State.complete_touches _ _ _ _ _ _ _ rfl)).carry
  case tchan =>
    intro s d i e role hup hwf hacc htwin hrole hnext hload hplace
    have hchan := (s.tchanPlaced d i e role).chansChanged_tchan d.asObj.chanPort i
    have hplaced : (s.tchanPlaced d i e role).tchan i =
      { state := if role = 0 then .sending else .listening, role := role, engine := some e } := Tab.get_set_self _ _ _ _
    refine gives_effect (congrArg (effect d.wf s) (State.tchanCreate_eq hacc htwin hrole hnext hload hplace)) hup hwf
      ⟨?_, ?_, ?_, rfl, ?_⟩
    · have hobjs := (s.tchanPlaced d i e role).chansChanged_objs d.asObj.chanPort
      exact (congrArg (fun x => Tab.find x (ObjType.tchan, i)) hobjs).trans (State.addObj_obj? _ _ _ _)
    · exact congrArg TChan.role (hchan.trans hplaced)
    · exact congrArg TChan.engine (hchan.trans hplaced)
    · exact (((((State.startCmd_touches s d rfl).step (State.addObj_touches _ _ _ _ rfl)).step (State.setTchan_touches _ _ _ rfl)).step
        (State.chansChanged_touches _ _ rfl)).step (State.complete_touches _ _ _ _ _ _ _ rfl)).carry
  case cal =>
    intro s d j hup hwf hacc hmoving hnext hother hheld hpre
    have hobj : (s.calBegun d j).obj? .cal j = some { args := d.objArgs } :=
      (congrArg (fun x => Tab.find x (ObjType.cal, j)) (State.calBegin_touches (ps := Part.others .objs) _ _ rfl .objs rfl)).trans
        (State.addObj_obj? _ _ _ _)
    refine gives_effect (congrArg (effect d.wf s) (State.calCreate_eq hacc hmoving hnext hother hheld hpre)) hup hwf
      ⟨congrArg Option.isSome hobj, ⟨_, rfl⟩, ?_⟩
    exact ((((State.startCmd_touches s d rfl).step (State.addObj_touches _ _ _ _ rfl)).step
      ((State.calBegin_touches _ _ rfl).set_free rfl)).step (State.complete_touches _ _ _ _ _ _ _ rfl)).carry

/-! ### MODIFY -/

theorem exec_modify {y : ObjType} (hy : y ≠ .flow) (d : CmdDesc) (s : State) :
    exec (modifyCmd y d) s = effect d.wf s (s.objModify false y d) := by
  cases y
  case flow => exact absurd rfl hy
  all_goals rfl

section Modify

variable {s : State} {d : CmdDesc}

/-- What a MODIFY that is accepted runs, on an object that does not drain. -/
def State.modifyGo (s : State) (y : ObjType) (d : CmdDesc) : State :=
  match y with
  | .flow => s
  | .tchan => s.tchanModify d
  | .mchan => s.mchanModify d
  | .mirror => s.mirrorModify d
  | .search => s.searchModify d
  | .cal => s.calModify d

theorem State.modifyChecks_free {y : ObjType} (hy : y ≠ .flow) : (s.modifyChecks y d).guarded = false := by
  cases y
  case flow => exact absurd rfl hy
  all_goals rfl

theorem State.objModify_eq {y : ObjType} (hy : y ≠ .flow) (hacc : s.Accepts d (y.op 2) (s.modifyChecks y d))
    (hphase : (s.obj y (hIndex d.handle)).phase ≠ .draining) : s.objModify false y d = (s.startCmd d).modifyGo y d := by
  cases y
  case flow => exact absurd rfl hy
  all_goals
    rw [State.objModify, State.runNamed_started hacc.1 (State.drainingObj_none hphase),
      State.runCmd_accepted_free hacc (State.modifyChecks_free (by decide))]
    rfl
    intro h
    cases h

theorem State.mchanModify_eq (hready : s.mchanNotReady d = false) :
    (s.startCmd d).mchanModify d = ((s.startCmd d).setObj .mchan (hIndex d.handle)
      { s.obj .mchan (hIndex d.handle) with args := d.objArgs }).complete d 0x0302 .ok := by
  simp only [State.mchanModify, State.mchanNotReady_startCmd, hready, Bool.false_eq_true, if_false, State.obj_startCmd]

theorem State.mirrorModify_eq (hver : s.verBusy [.mir (hIndex d.handle)] = false) :
    (s.startCmd d).mirrorModify d = (((s.startCmd d).bumpVersion (.mir (hIndex d.handle))).setObj .mirror (hIndex d.handle)
      { s.obj .mirror (hIndex d.handle) with args := d.objArgs }).complete d 0x0402 .ok := by
  simp only [State.mirrorModify, State.verBusy_startCmd, hver, Bool.false_eq_true, if_false, State.obj_startCmd]

/-- A channel with its new arguments, in its role. -/
def State.tchanArgued (s : State) (d : CmdDesc) (role : Nat) : State :=
  (((s.startCmd d).setObj .tchan (hIndex d.handle) { s.obj .tchan (hIndex d.handle) with args := d.asObj.args, extra := d.asObj.extra }).setRole
    (hIndex d.handle) role).chansChanged (s.obj .tchan (hIndex d.handle)).chanPort

theorem State.tchanModify_eq {role : Nat}
    (hrole : role = (if s.taskHeld 4 then s.forcedRole d.asObj.chanPort d.asObj.chanRole else d.asObj.chanRole))
    (hload : s.portLoad (s.obj .tchan (hIndex d.handle)).chanPort (some (hIndex d.handle)) + d.asObj.chanLoad role ≤ 131072) :
    (s.startCmd d).tchanModify d = (s.tchanArgued d role).complete d 0x0202 .ok 0
      (leBytes (((s.tchanArgued d role).tchan (hIndex d.handle)).engine.getD 0) 4) := by
  simp only [State.tchanModify, State.obj_startCmd, State.taskHeld_startCmd, State.forcedRole_startCmd, ← hrole,
    State.portLoad_startCmd, Nat.not_lt.mpr hload, if_false, State.tchanArgued]

end Modify

/-- A channel that is put in a role has it (R220). -/
theorem State.setRole_role (s : State) (i r : Nat) : ((s.setRole i r).tchan i).role = r := by
  unfold State.setRole
  extract_lets x s1 _ s2 s3
  split
  · assumption
  · have hs2 : (s2.tchan i).role = r := congrArg TChan.role (Tab.get_set_self _ _ _ _)
    have hset : ∀ st, ((s2.setChanSt i st).tchan i).role = (s2.tchan i).role := by
      intro st
      simp only [State.setChanSt, State.tchan, Tab.get_set_self]
      split <;> rfl
    have hs3 : (s3.tchan i).role = r := by
      unfold s3
      split
      · exact hs2
      · exact (hset _).trans hs2
    rw [State.chansChanged_tchan]
    exact hs3

theorem State.setRole_objs (s : State) (i r : Nat) : (s.setRole i r).objs = s.objs :=
  State.setRole_touches (ps := Part.others .objs) s i r rfl .objs rfl

theorem State.tchanArgued_obj (s : State) (d : CmdDesc) (role : Nat) : (s.tchanArgued d role).obj .tchan (hIndex d.handle) =
    { s.obj .tchan (hIndex d.handle) with args := d.asObj.args, extra := d.asObj.extra } := by
  simp only [State.obj, State.tchanArgued, State.chansChanged_objs, State.setRole_objs]
  exact Tab.get_set_self _ _ _ _

theorem State.tchanArgued_role (s : State) (d : CmdDesc) (role : Nat) : ((s.tchanArgued d role).tchan (hIndex d.handle)).role = role := by
  rw [State.tchanArgued, State.chansChanged_tchan, State.setRole_role]

/-- Settles O19. -/
theorem objectModify : Obligations.ObjectModify := by
  refine ⟨?mchan, ?mirror, ?search, ?tchan, ?cal⟩
  case mchan =>
    intro s d hup hwf hacc hphase hready
    have hrun := (State.objModify_eq (y := .mchan) (by decide) hacc hphase).trans (State.mchanModify_eq hready)
    refine gives_effect ((exec_modify (y := .mchan) (by decide) d s).trans (congrArg (effect d.wf s) hrun)) hup hwf
      ⟨Tab.get_set_self _ _ _ _, rfl, ?_⟩
    exact (((State.startCmd_touches s d rfl).step (State.setObj_touches _ _ _ _ rfl)).step
      (State.complete_touches _ _ _ _ _ _ _ rfl)).carry
  case mirror =>
    intro s d hup hwf hacc hphase hver
    have hrun := (State.objModify_eq (y := .mirror) (by decide) hacc hphase).trans (State.mirrorModify_eq hver)
    refine gives_effect ((exec_modify (y := .mirror) (by decide) d s).trans (congrArg (effect d.wf s) hrun)) hup hwf
      ⟨Tab.get_set_self _ _ _ _, ?_, rfl, ?_⟩
    · exact (State.bumpVersion_version _ _).trans (by rw [State.version_startCmd])
    · exact ((((State.startCmd_touches s d rfl).step (State.bumpVersion_touches _ _ rfl)).step (State.setObj_touches _ _ _ _ rfl)).step
        (State.complete_touches _ _ _ _ _ _ _ rfl)).carry
  case search =>
    intro s d hup hwf hacc hphase
    have hrun := State.objModify_eq (y := .search) (by decide) hacc hphase
    refine gives_effect ((exec_modify (y := .search) (by decide) d s).trans (congrArg (effect d.wf s) hrun)) hup hwf
      ⟨?_, ⟨_, rfl⟩, ?_⟩
    · exact (Tab.get_set_self _ _ _ _).trans (by rw [State.obj_startCmd])
    · exact ((State.startCmd_touches s d rfl).step (State.searchModify_touches _ _ rfl)).carry
  case tchan =>
    intro s d role hup hwf hacc hphase hrole hload
    have hrun := (State.objModify_eq (y := .tchan) (by decide) hacc hphase).trans (State.tchanModify_eq hrole hload)
    have hframe : Touches objParts s (s.tchanArgued d role) :=
      (((State.startCmd_touches s d rfl).step (State.setObj_touches _ _ _ _ rfl)).step (State.setRole_touches _ _ _ rfl)).step
        (State.chansChanged_touches _ _ rfl)
    refine gives_effect ((exec_modify (y := .tchan) (by decide) d s).trans (congrArg (effect d.wf s) hrun)) hup hwf
      ⟨?_, ?_, ⟨_, rfl⟩, (hframe.step (State.complete_touches _ _ _ _ _ _ _ rfl)).carry⟩
    · exact s.tchanArgued_obj d role
    · exact s.tchanArgued_role d role
  case cal =>
    intro s d hup hwf hacc hphase
    have hrun := State.objModify_eq (y := .cal) (by decide) hacc hphase
    refine gives_effect ((exec_modify (y := .cal) (by decide) d s).trans (congrArg (effect d.wf s) hrun)) hup hwf
      ⟨?_, ?_, ⟨_, rfl⟩, ?_⟩
    · exact (Tab.get_set_self _ _ _ _).trans (by rw [State.obj_startCmd])
    · exact congrArg (· + 1) (State.startCmd_free s d)
    · exact ((State.startCmd_touches s d rfl).step (State.calModify_touches _ _ rfl)).carry

end Sys2Proof.Machine
end

section
/-! ## LOCK, the phase output, the join of a port, and full retrains (R100, R104, R114 to R118, R344) -/

set_option Elab.async false

namespace Sys2Proof.Machine

theorem State.blockLock_others {s : State} {n w h : Nat} (hon : s.laneOn n = true) (hsig : (s.lane n).sig = true)
    (hlock : (s.lane n).lock = false) (htrain : (s.lane n).train ≠ .down) : OtherLanes n s (s.blockLock n w h) :=
  fun m hm => (s.blockLock_lane n w h m hon hsig hlock htrain).trans (if_neg hm)

theorem Lane.unlocked_of_lock {l : Lane} (h : l.lock = true) : l.unlocked =
    { l with lock := false, fecLock := false, hiBer := false, hiBerAt := none, phase := false, offered := false } := if_pos h

@[simp] theorem Lane.unlocked_cur (l : Lane) : l.unlocked.cur = l.cur := by
  unfold Lane.unlocked
  split <;> rfl

/-- The phase output of a locked lane becomes valid (R115). -/
theorem State.lanePhaseValid_lanes {s : State} {n : Nat} (hlock : (s.lane n).lock = true) (hphase : (s.lane n).phase = false) :
    (s.lanePhaseValid n).lanes = (s.setLane n { s.lane n with phase := true }).lanes := by
  simp only [State.lanePhaseValid, hlock, hphase, Bool.not_true, Bool.or_self, Bool.false_eq_true, if_false, State.lnkPhiValid_lanes]

theorem State.lanePhaseValid_lane {s : State} {n : Nat} (hlock : (s.lane n).lock = true) :
    (s.lanePhaseValid n).lane n = { s.lane n with phase := true } ∧ OtherLanes n s (s.lanePhaseValid n) := by
  cases hphase : (s.lane n).phase
  case false =>
    have hlanes := State.lane_of_lanes (State.lanePhaseValid_lanes hlock hphase)
    exact ⟨(hlanes n).trans (State.lane_setLane _ _ _), fun m hm => (hlanes m).trans (State.lane_setLane_ne _ _ _ _ hm)⟩
  case true =>
    have hsame : s.lanePhaseValid n = s := by simp [State.lanePhaseValid, hphase]
    rw [hsame]
    refine ⟨?_, fun m _ => rfl⟩
    rw [← hphase]

/-- A port whose lanes work, have LOCK and are not squelched joins (R117). -/
theorem State.portJoin_eq {s : State} {p : Nat} (hactive : s.portInactive p = false)
    (hon : (s.portLanes p).all (fun n => s.laneOn n) = true) (hlock : s.portLocked p = true)
    (hsq : (s.portLanes p).any (fun n => (s.lane n).txSq) = false) (hgrp : (s.grp (p / 8)).st ≠ .draining) :
    s.portJoin p = (s.portUp p).grpCheck (p / 8) := by
  simp [State.portJoin, hactive, hon, hlock, hsq, hgrp]

/-- Settles O21. -/
theorem laneLock : Obligations.LaneLock := by
  refine ⟨?gain, ?loss, ?phase, ?join⟩
  case gain =>
    intro s n w h hup hn hon hsig hlock htrain
    exact gives_effect rfl hup (decide_eq_true hn) ⟨(s.blockLock_lane n w h n hon hsig hlock htrain).trans (if_pos rfl),
      State.blockLock_others hon hsig hlock htrain, (State.blockLock_touches s n w h rfl).carry⟩
  case loss =>
    intro s n hup hn hlock
    have hlane : (s.laneUnlock n).lane n = _ := ((s.laneUnlock_lane n n).trans (if_pos rfl)).trans (Lane.unlocked_of_lock hlock)
    exact gives_effect rfl hup (decide_eq_true hn) ⟨hlane, OtherLanes.laneUnlock s n, (State.laneUnlock_touches s n rfl).carry⟩
  case phase =>
    intro s n hup hn hlock
    obtain ⟨hlane, hothers⟩ := State.lanePhaseValid_lane hlock
    exact gives_effect rfl hup (decide_eq_true hn) ⟨hlane, hothers, (State.lanePhaseValid_touches s n rfl).carry⟩
  case join =>
    intro s p hup hp hactive hon hlock hsq hgrp
    have hup' : ((s.portJoin p).port p).up = true := by
      rw [State.portJoin_eq hactive hon hlock hsq hgrp, State.port_of_fab (State.grpCheck_fab _ _)]
      exact s.portUp_up p
    exact gives_effect rfl hup (decide_eq_true hp) ⟨hup', (State.portJoin_touches s p rfl).carry⟩

/-! ### Full retrains -/

/-- A retrain that finds the lane's signal starts at once (R111). -/
theorem State.laneRetrain_of_sig {s : State} {n : Nat} (hsig : (s.lane n).sig = true) : s.laneRetrain n = s.retrain n := by
  simp [State.laneRetrain, hsig]

theorem State.hiberRetrain_eq {s : State} {n : Nat} (hsig : (s.lane n).sig = true) (hber : (s.lane n).hiBer = true)
    (hpol : bitAt (s.polEntry 4 n) 0 = true) (htask : s.taskHeld 8 = true) : s.hiberRetrain n = s.retrain n := by
  simp [State.hiberRetrain, hber, hpol, htask, State.laneRetrain_of_sig hsig]

theorem State.scheduledRetrain_eq {s : State} {n : Nat} (hsig : (s.lane n).sig = true) (hperiod : bitsOf (s.polEntry 4 n) 16 16 ≠ 0)
    (hskip : bitAt (s.polEntry 4 n) 1 = false) (htask : s.taskHeld 8 = true) : s.scheduledRetrain n = s.retrain n := by
  simp [State.scheduledRetrain, hperiod, hskip, htask, State.laneRetrain_of_sig hsig]

theorem State.lockLossRetrain_eq {s : State} {n : Nat} (hsig : (s.lane n).sig = true) (hlock : (s.lane n).lock = false)
    (htrain : (s.lane n).train = .running) : s.lockLossRetrain n = s.retrain n := by
  simp [State.lockLossRetrain, hsig, hlock, htrain]

/-- Settles O23. -/
theorem laneRetrain : Obligations.LaneRetrain := by
  refine ⟨?done, ?loss, ?hiber, ?scheduled, ?silent, ?drained⟩
  case done =>
    intro s n code w h temp hup hn hcode hon htrain
    have hlane : s.retrainDone n code w h temp = (s.bump Fld.laneExitCnt_RETRAINS n).setLane n { s.lane n with
        sig := true, cdr := true, base := code, cur := code, limitRaised := false, temp := temp
        trainW := w, trainH := h, trainSec := secOf s.tod % 2 ^ 32, retrains := (s.lane n).retrains + 1 } := by
      simp [State.retrainDone, hon, htrain, Nat.mod_eq_of_lt hcode]
    refine gives_effect (congrArg (effect (lanePort n) s) hlane) hup (decide_eq_true hn) ⟨State.lane_setLane _ _ _, ?_, ?_, ?_⟩
    · exact s.count_bump Fld.laneExitCnt_RETRAINS n 1 (by decide)
    · exact fun m hm => State.lane_setLane_ne _ _ _ _ hm
    · exact ((State.bump_touches s _ _ _ rfl).step (State.setLane_touches _ _ _ rfl)).carry
  case loss =>
    intro s n hup hn hon hsig hlock htrain
    have hrun := State.lockLossRetrain_eq hsig hlock htrain
    have hlane := State.retrain_lane_self hon
    refine gives_effect (congrArg (effect (lanePort n) s) hrun) hup (decide_eq_true hn)
      ⟨congrArg Lane.train hlane, congrArg Lane.cdr hlane, ?_, OtherLanes.retrain hon, (State.retrain_touches s n rfl).carry⟩
    exact (congrArg Lane.cur hlane).trans (Lane.unlocked_cur _)
  case hiber =>
    intro s n hup hn hon hsig hber hpol htask
    have hlane := State.retrain_lane_self hon
    exact gives_effect (congrArg (effect (lanePort n) s) (State.hiberRetrain_eq hsig hber hpol htask)) hup (decide_eq_true hn)
      ⟨congrArg Lane.train hlane, (congrArg Lane.lock hlane).trans (Lane.unlocked_lock _), OtherLanes.retrain hon,
        (State.retrain_touches s n rfl).carry⟩
  case scheduled =>
    intro s n hup hn hon hsig hperiod hskip htask
    have hlane := State.retrain_lane_self hon
    exact gives_effect (congrArg (effect (lanePort n) s) (State.scheduledRetrain_eq hsig hperiod hskip htask)) hup (decide_eq_true hn)
      ⟨congrArg Lane.train hlane, (congrArg Lane.lock hlane).trans (Lane.unlocked_lock _), OtherLanes.retrain hon,
        (State.retrain_touches s n rfl).carry⟩
  case silent =>
    intro s n hup hn hon hsq hsig
    have hlanes : (s.laneNoSignalTimeout n).lanes = (s.setLane n { s.lane n with txSq := false, noSignal := true }).lanes := by
      simp [State.laneNoSignalTimeout, hon, hsq, hsig]
    have hlane := State.lane_of_lanes hlanes
    exact gives_effect rfl hup (decide_eq_true hn) ⟨(hlane n).trans (State.lane_setLane _ _ _),
      fun m hm => (hlane m).trans (State.lane_setLane_ne _ _ _ _ hm), (State.laneNoSignalTimeout_touches s n rfl).carry⟩
  case drained =>
    intro s g hup hg hst
    have hrun : s.laneGrpDrainEnd g = s.grpRemoved g true := if_pos hst
    have hgrp : ∀ k, ((s.grpRemoved g true).carry s).grp k = (s.grpRemoved g true).grp k := State.grp_of_grps (State.carry_grps _ _)
    refine gives_effect (congrArg (effect (group g) s) hrun) hup (decide_eq_true hg) ⟨?_, fun k hk => ?_,
      (State.grpRemoved_touches s g true rfl).carry⟩
    · rw [hgrp]
      exact (s.grpRemoved_grp g g true).1
    · rw [hgrp]
      exact (s.grpRemoved_grp g k true).2 hk

end Sys2Proof.Machine
end

section
/-! ## The return of a group, and a pending store that is over its limit (R33, R34, R117)

A write of LANE_CTRL held for the domain of a removed group runs when the group returns.  It then needs a place in the pending store
for TX_SQUELCH, which waits for the frame in transfer at the transmitter.  Among 1,024 other words there is none, and the write is
discarded with SYS_APPLY_STAT.OVF, a register that the statement's frame leaves out.  The state has one pending word more than R34
lets in, so it stands outside every run; the statement speaks of every state. -/

set_option Elab.async false

namespace Sys2Proof.Machine

/-- Group 0 is removed and its domain in retention, with a write of LANE_CTRL of lane 0 held for it; a frame stands at the transmitter of
port 0, and the pending store holds 1,025 other words. -/
def crowdedStore : State :=
  { State.reset with
    keys := [(.pcie, { unlocked := true })]
    grps := [(0, { st := .removed })]
    pwr := { dom := [(0, .retention)] }
    fab := { ports := [(0, { tx := some 0 })] }
    regs := { pend := { key := ⟨.laneCtrl, 0, 0⟩, points := [.frm], dom := true } ::
      List.replicate 1025 { key := ⟨.portSchedCap, 0, 0⟩, points := [.cmt] } } }

theorem crowdedStore_writable : crowdedStore.Writable ⟨.laneGrpCtrl, 0, 0⟩ := by
  unfold State.Writable
  decide +kernel

set_option maxRecDepth 10000 in
/-- LANE_GRP_RETURN discards the held write for want of a place. -/
theorem crowdedStore_return_overflows :
    Gives (.laneGrpReturn .pcie 0) crowdedStore (fun t => t.rcWord ⟨.sysApplyStat, 0, 0⟩ ≠ crowdedStore.rcWord ⟨.sysApplyStat, 0, 0⟩) :=
  gives_effect rfl rfl rfl (by decide +kernel)

/-- Refutes O25: in its clause on the return of a removed group SYS_APPLY_STAT stays, but a held write that finds the pending store full
sets its OVF. -/
theorem not_laneAndGroupControl : ¬ Obligations.LaneAndGroupControl := by
  unfold Obligations.LaneAndGroupControl
  rintro ⟨-, -, groups⟩
  obtain ⟨-, -, -, returns, -⟩ := groups crowdedStore .pcie 0 0 false rfl rfl (by decide) (by decide) crowdedStore_writable
  obtain ⟨t, ⟨-, -, -, -, hframe⟩, hover⟩ := (returns rfl rfl).both crowdedStore_return_overflows
  exact hover (hframe (.rc .sysApplyStat) rfl 0 0)

end Sys2Proof.Machine
end

section
/-! ## The completion that the part shows last stays when an event is raised or a record is mirrored -/

set_option Elab.async false

namespace Sys2Proof.Machine

theorem HifState.sendVec_lastCpl (h : HifState) (v : Nat) : (h.sendVec v).lastCpl = h.lastCpl := by
  unfold HifState.sendVec
  split <;> rfl

theorem State.writeSlot_lastCpl (s : State) (n : Nat) (b : CplBody) (y : Bool) (h : HifState) : (s.writeSlot n b y h).lastCpl = h.lastCpl := by
  unfold State.writeSlot
  dsimp only
  split
  · exact HifState.sendVec_lastCpl _ _
  · rfl

theorem State.evtHif_lastCpl (s : State) (e : Evt) (a0 a1 a2 : Nat) : (s.evtHif e a0 a1 a2).lastCpl = s.hif.lastCpl := by
  unfold State.evtHif
  dsimp only
  split
  · rfl
  · split
    · exact State.writeSlot_lastCpl _ _ _ _ _
    · split
      · exact HifState.sendVec_lastCpl _ _
      · rfl

/-- An event completes no command. -/
theorem State.raise_lastCpl (s : State) (e : Evt) (a0 a1 a2 : Nat) : (s.raise e a0 a1 a2).hif.lastCpl = s.hif.lastCpl := by
  unfold State.raise
  dsimp only
  split
  · rfl
  · exact State.evtHif_lastCpl _ _ _ _ _

theorem State.raiseIf_lastCpl (s : State) (c : Bool) (e : Evt) (a0 a1 a2 : Nat) : (s.raiseIf c e a0 a1 a2).hif.lastCpl = s.hif.lastCpl := by
  unfold State.raiseIf
  dsimp only
  split
  · exact State.raise_lastCpl _ _ _ _ _
  · rfl

/-- A delta that is mirrored, or lost, completes no command. -/
theorem State.pairDelta_lastCpl (s : State) (p : OmdPayload) : (s.pairDelta p).hif.lastCpl = s.hif.lastCpl := by
  unfold State.pairDelta
  split
  · rfl
  · split
    · rfl
    · split
      · rfl
      · exact State.raiseIf_lastCpl _ _ _ _ _ _

end Sys2Proof.Machine
end

section
/-! ## Guaranteed flows (R16, R94, R95, R135, R137, R138, R158) -/

set_option Elab.async false

namespace Sys2Proof.Machine

/-! ### What admission reads is nothing that the start of a command changes -/

section Started

variable (s : State) (d : CmdDesc)

theorem State.flowAbsent_startCmd : (s.startCmd d).flowAbsent d = s.flowAbsent d := by
  rw [State.startCmd_eq]
  rfl

theorem State.flowBad_startCmd (o : Option Nat) : (s.startCmd d).flowBad d o = s.flowBad d o := by
  rw [State.startCmd_eq]
  rfl

theorem State.flowArgs_startCmd (i : Nat) : (s.startCmd d).flowArgs i = s.flowArgs i := by
  rw [State.startCmd_eq]
  rfl

theorem State.flowNotReady_startCmd : (s.startCmd d).flowNotReady d = s.flowNotReady d := by
  rw [State.startCmd_eq]
  rfl

theorem State.standbyHost_startCmd : (s.startCmd d).standbyHost d = s.standbyHost d := by
  rw [State.startCmd_eq]
  rfl

theorem State.admission_startCmd (a : FlowArgs) (o : Option Nat) : (s.startCmd d).admission a o = s.admission a o := by
  rw [State.startCmd_eq]
  rfl

theorem State.classRefuses_startCmd (a : FlowArgs) (o : Option Nat) : (s.startCmd d).classRefuses a o = s.classRefuses a o := by
  rw [State.startCmd_eq]
  rfl

theorem State.resMaxMs_startCmd : (s.startCmd d).resMaxMs = s.resMaxMs := by
  rw [State.startCmd_eq]
  rfl

theorem State.fAdm_startCmd (o : Option Nat) : (s.startCmd d).fAdm o = s.fAdm o := by
  rw [State.startCmd_eq]
  rfl

theorem State.syncedPrimary_startCmd : (s.startCmd d).syncedPrimary = s.syncedPrimary := by
  rw [State.startCmd_eq]
  rfl

theorem State.admBusy_startCmd : (s.startCmd d).admBusy = s.admBusy := by
  rw [State.startCmd_eq]
  rfl

theorem State.flow_startCmd (i : Nat) : (s.startCmd d).flow i = s.flow i := by
  simp [State.flow]

theorem State.flowCopies_startCmd (i : Nat) : (s.startCmd d).flowCopies i = s.flowCopies i := by
  simp [State.flowCopies]

end Started

/-- A started command whose checks pass takes its outcome. -/
theorem State.checked_started {s : State} {d : CmdDesc} {op : Nat} {c : Checks} {body : State → State} (hpass : s.check d c = none)
    (hfree : c.guarded = false) : (s.startCmd d).checked d op c body = body (s.startCmd d) := by
  simp [State.checked, hpass, hfree]

/-- The checks of a command that names an object read nothing that its start changes. -/
theorem State.targetChecks_startCmd (s : State) (d : CmdDesc) (y : ObjType) (a b x r z : Bool) :
    (s.startCmd d).targetChecks y d a b x r z = s.targetChecks y d a b x r z := by
  rw [State.startCmd_eq]
  rfl

/-! ### Admission -/

/-- Condition 5 of R137 holds when none fails. -/
theorem State.admission_noRes {s : State} {a : FlowArgs} {o : Option Nat} (h : (s.admission a o).fault = 0) :
    (s.admission a o).noRes = false := by
  unfold State.admission at h ⊢
  dsimp only at h ⊢
  split at h
  · split <;> rfl
  · next f hf =>
    dsimp only
    by_cases hcap : s.capFault a (s.flowsTo a.out o) ≠ 0
    · rw [if_pos hcap] at h
      exact absurd h hcap
    · rw [if_neg hcap] at h
      split at h
      · cases h
      · next hno => exact Bool.eq_false_iff.mpr hno

/-- The command that admission grants, as it takes effect. -/
def State.grantOf (s : State) (d : CmdDesc) (modify : Bool) (i : Nat) : FlowWait :=
  let r := s.admission (flowArgsOf d.objArgs) (if modify then some i else none)
  { desc := d, modify := modify, stage := 0, mirror := false, index := i, f := r.f, bound := r.b.getD 0, nf := r.nf, pool := r.pool }

/-- The command that admission waits with. -/
def State.withWait (s : State) (w : Option FlowWait) : State := { s with sw := { s.sw with wait := w } }

theorem State.withWait_withWait (s : State) (v w : Option FlowWait) : (s.withWait v).withWait w = s.withWait w := rfl

/-- A part that is no SYNCED primary grants what it can keep (R377). -/
theorem State.flowLocal_alone {s : State} {w : FlowWait} (h : s.syncedPrimary = false) : s.flowLocal w = s.flowGrant w := by
  simp [State.flowLocal, h]

/-- A CREATE or MODIFY that admission accepts at once takes effect (R137). -/
theorem State.flowDecide_grants {s : State} {d : CmdDesc} {modify : Bool} {i b : Nat}
    (hclass : s.classRefuses (flowArgsOf d.objArgs) (if modify then some i else none) = false)
    (hfault : (s.admission (flowArgsOf d.objArgs) (if modify then some i else none)).fault = 0)
    (hb : (s.admission (flowArgsOf d.objArgs) (if modify then some i else none)).b = some b) (hmax : b ≤ s.resMaxMs * 1000000)
    (hrate : (s.admission (flowArgsOf d.objArgs) (if modify then some i else none)).f ≤ s.fAdm (if modify then some i else none))
    (hpair : s.syncedPrimary = false) :
    s.flowDecide d modify i = (s.withWait (some (s.grantOf d modify i))).flowGrant (s.grantOf d modify i) := by
  have hno := State.admission_noRes hfault
  have hlocal : (s.withWait (some (s.grantOf d modify i))).syncedPrimary = false := hpair
  have hwait : ¬ (s.fAdm (if modify then some i else none) < (s.grantOf d modify i).f ∧
      (!(s.withWait (some (s.grantOf d modify i))).waitMet (s.grantOf d modify i)) = true) := fun h => Nat.not_lt.mpr hrate h.1
  have hgo : s.flowDecide d modify i = s.flowRate (s.grantOf d modify i) := by
    simp only [State.flowDecide, hno, hclass, hfault, hb, Nat.not_lt.mpr hmax, Bool.false_eq_true, if_false, ne_eq, not_true,
      OfNat.zero_ne_ofNat, State.grantOf, Option.getD_some]
  rw [hgo, ← State.flowLocal_alone hlocal]
  exact if_neg hwait

/-! ### A CREATE and a MODIFY that take effect -/

/-- The flow that a granted CREATE makes. -/
def State.madeFlow (s : State) (w : FlowWait) : Flow :=
  { bound := w.bound, rate := w.f, nf := w.nf, pool := w.pool, maxFrame := (flowArgsOf w.desc.objArgs).maxFrame
    kbps := (flowArgsOf w.desc.objArgs).kbps, tokens := bucketFull (flowArgsOf w.desc.objArgs).maxFrame, tokAt := s.clk.now
    preempt := (s.addObj .flow w.index { args := w.desc.objArgs, extra := [] }).portPreempt (flowArgsOf w.desc.objArgs).out }

section Make

variable {s : State} {w : FlowWait}

theorem State.addRsv_sw (s : State) (p : Nat) (d : Int) : (s.addRsv p d).sw = s.sw := by
  unfold State.addRsv
  split <;> rfl

theorem State.addRsv_objs (s : State) (p : Nat) (d : Int) : (s.addRsv p d).objs = s.objs := by
  unfold State.addRsv
  split <;> rfl

theorem State.addRsv_index (s : State) (p : Nat) (d : Int) : (s.addRsv p d).index = s.index := by
  unfold State.addRsv
  split <;> rfl

theorem State.rsvChanged_objs (s : State) : s.rsvChanged.objs = s.objs := State.rsvChanged_touches (ps := Part.others .objs) s rfl .objs rfl

theorem State.rsvChanged_sw (s : State) : s.rsvChanged.sw = s.sw := State.rsvChanged_touches (ps := Part.others .sw) s rfl .sw rfl

theorem State.rsvChanged_index (s : State) : s.rsvChanged.index = s.index :=
  State.rsvChanged_touches (ps := Part.others .index) s rfl .index rfl

theorem State.rsvChanged_fdb (s : State) : s.rsvChanged.fdb = s.fdb := State.rsvChanged_touches (ps := Part.others .fdb) s rfl .fdb rfl

theorem State.flowMake_bound : Tab.find (s.flowMake w).fdb.bound (flowArgsOf w.desc.objArgs).entry = some w.index := by
  unfold State.flowMake
  simp only [State.rsvChanged_fdb]
  exact Tab.find_set_self _ _ _

variable (hown : w.mirror = false)
include hown

theorem State.flowMake_obj? : (s.flowMake w).obj? .flow w.index = some { args := w.desc.objArgs, extra := [] } := by
  unfold State.flowMake
  simp only [hown, Bool.false_eq_true, if_false, State.obj?, State.rsvChanged_objs, State.addRsv_objs, State.setFlow_objs]
  exact State.addObj_obj? _ _ _ _

theorem State.flowMake_sw : (s.flowMake w).sw = { s.sw with flows := Tab.set s.sw.flows w.index (s.madeFlow w) } := by
  unfold State.flowMake
  simp only [hown, Bool.false_eq_true, if_false, State.rsvChanged_sw, State.addRsv_sw]
  rfl

theorem State.flowMake_flow : (s.flowMake w).flow w.index = s.madeFlow w := by
  rw [State.flow, State.flowMake_sw hown]
  exact Tab.get_set_self _ _ _ _

theorem State.flowMake_handleOf : (s.flowMake w).handleOf .flow w.index = s.handleOf .flow w.index := by
  have hindex : (s.flowMake w).index = (s.addObj .flow w.index { args := w.desc.objArgs, extra := [] }).index := by
    unfold State.flowMake
    simp only [hown, Bool.false_eq_true, if_false, State.rsvChanged_index, State.addRsv_index]
    rfl
  exact (State.handleOf_of_index hindex _ _).trans (State.handleOf_addObj _ _ _ _ _)

/-- A granted CREATE completes with the handle and the bound (R137). -/
theorem State.flowGrant_create (hcreate : w.modify = false) : s.flowGrant w =
    ((s.withWait none).flowMake w).complete w.desc 0x0101 .ok (s.handleOf .flow w.index) (boundBytes (some w.bound)) := by
  have hhandle : ((s.withWait none).flowMake w).handleOf .flow w.index = s.handleOf .flow w.index :=
    (State.flowMake_handleOf hown).trans (State.handleOf_of_index rfl _ _)
  simp only [State.flowGrant, hcreate, hown, Bool.false_eq_true, if_false, flowOp, ← hhandle]
  rfl

end Make

/-- The flow that a granted MODIFY leaves. -/
def State.changedFlow (s : State) (w : FlowWait) : Flow :=
  { s.flow w.index with
    bound := w.bound, rate := w.f, nf := w.nf, pool := w.pool
    newPolicer := some ((flowArgsOf w.desc.objArgs).maxFrame, (flowArgsOf w.desc.objArgs).kbps)
    preempt := s.portPreempt (flowArgsOf w.desc.objArgs).out }

theorem State.flowChange_obj (s : State) (w : FlowWait) :
    (s.flowChange w).obj .flow w.index = { s.obj .flow w.index with args := w.desc.objArgs } := by
  unfold State.flowChange
  simp only [State.obj, State.rsvChanged_objs, State.setFlow_objs]
  exact Tab.get_set_self _ _ _ _

theorem State.flowChange_sw (s : State) (w : FlowWait) :
    (s.flowChange w).sw = { s.sw with flows := Tab.set s.sw.flows w.index (s.changedFlow w) } := by
  unfold State.flowChange
  simp only [State.rsvChanged_sw, State.setFlow, State.setObj, State.addRsv_sw]
  rfl

theorem State.flowChange_flow (s : State) (w : FlowWait) : (s.flowChange w).flow w.index = s.changedFlow w := by
  rw [State.flow, State.flowChange_sw]
  exact Tab.get_set_self _ _ _ _

theorem State.complete_flow (s : State) (d : CmdDesc) (op : Nat) (st : Status) (h : Word) (r e : List Byte) (i : Nat) :
    (s.complete d op st h r e).flow i = s.flow i := by
  rw [State.flow, State.complete_sw, State.flow]

theorem State.complete_obj? (s : State) (d : CmdDesc) (op : Nat) (st : Status) (h : Word) (r e : List Byte) (y : ObjType) (i : Nat) :
    (s.complete d op st h r e).obj? y i = s.obj? y i := by
  rw [State.obj?, State.complete_objs, State.obj?]

theorem State.complete_obj (s : State) (d : CmdDesc) (op : Nat) (st : Status) (h : Word) (r e : List Byte) (y : ObjType) (i : Nat) :
    (s.complete d op st h r e).obj y i = s.obj y i := by
  rw [State.obj, State.complete_objs, State.obj]

/-- A granted MODIFY completes with the bound (R137). -/
theorem State.flowGrant_modify {s : State} {w : FlowWait} (hown : w.mirror = false) (hmodify : w.modify = true) : s.flowGrant w =
    ((s.withWait none).flowChange w).complete w.desc 0x0102 .ok 0 (boundBytes (some w.bound)) := by
  simp only [State.flowGrant, hmodify, hown, Bool.false_eq_true, if_false, if_true, flowOp]
  rfl

/-! ### CREATE and MODIFY in their turn (R139) -/

theorem State.admTake_free {s : State} {d : CmdDesc} {kind op : Nat} (h : s.AdmFree d op) :
    s.admTake kind op d = (s.startCmd d).admRun ⟨kind, d, none⟩ := by
  obtain ⟨hstart, hidle⟩ := h
  simp [State.admTake, hstart, State.admNext, State.admBusy_startCmd, hidle]

theorem State.namedGo_free {s : State} {y : ObjType} {verb op : Nat} {d : CmdDesc} {c : Checks} {body : State → State}
    (hdrain : s.drainingObj y d.handle = none) : (s.startCmd d).namedGo y verb d op c body = (s.startCmd d).checked d op c body := by
  simp [State.namedGo, hdrain]

section Decide

variable {s : State} {d : CmdDesc} {b : Nat}

theorem State.grantOf_startCmd (m : Bool) (i : Nat) : (s.startCmd d).grantOf d m i = s.grantOf d m i := by
  simp only [State.grantOf, State.admission_startCmd]

/-- FLOW_CREATE that admission grants. -/
theorem State.flowCreate_grants {i : Nat} (hfree : s.AdmFree d 0x0101)
    (hacc : s.Accepts d 0x0101 (createChecks .flow d false (s.flowAbsent d) (flowReserved d) (s.flowBad d none)))
    (hnext : s.nextIndex .flow = some i) (hready : s.flowNotReady d = false)
    (hclass : s.classRefuses (flowArgsOf d.objArgs) none = false) (hfault : (s.admission (flowArgsOf d.objArgs) none).fault = 0)
    (hb : (s.admission (flowArgsOf d.objArgs) none).b = some b) (hmax : b ≤ s.resMaxMs * 1000000)
    (hrate : (s.admission (flowArgsOf d.objArgs) none).f ≤ s.fAdm) (hpair : s.syncedPrimary = false) :
    s.admTake 0 0x0101 d = (((s.startCmd d).withWait none).flowMake (s.grantOf d false i)).complete d 0x0101 .ok (s.handleOf .flow i)
      (boundBytes (some b)) := by
  have hgrant := State.flowDecide_grants (s := s.startCmd d) (d := d) (modify := false) (i := i) (b := b)
    (by simpa [State.classRefuses_startCmd] using hclass) (by simpa [State.admission_startCmd] using hfault)
    (by simpa [State.admission_startCmd] using hb) (by simpa [State.resMaxMs_startCmd] using hmax)
    (by simpa [State.admission_startCmd, State.fAdm_startCmd] using hrate) (by simpa [State.syncedPrimary_startCmd] using hpair)
  rw [State.admTake_free hfree]
  simp only [State.admRun, State.flowCreateNow, State.flowAbsent_startCmd, State.flowBad_startCmd]
  rw [State.checked_started hacc.2 rfl]
  simp only [State.nextIndex_startCmd, hnext, State.flowNotReady_startCmd, hready, Bool.false_eq_true, if_false]
  rw [hgrant, State.grantOf_startCmd, State.flowGrant_create rfl rfl, State.withWait_withWait]
  have hhandle : ((s.startCmd d).withWait (some (s.grantOf d false i))).handleOf .flow i = s.handleOf .flow i :=
    (State.handleOf_of_index rfl _ _).trans (State.handleOf_startCmd s d _ _)
  have hbound : (s.grantOf d false i).bound = b := by
    simp [State.grantOf, hb]
  rw [hbound]
  exact congrArg (fun h => State.complete _ d 0x0101 .ok h (boundBytes (some b))) hhandle

/-- FLOW_MODIFY that admission grants. -/
theorem State.flowModify_grants (hfree : s.AdmFree d 0x0102)
    (hacc : s.Accepts d 0x0102 (s.targetChecks .flow d true false (s.flowAbsent d) (flowReserved d)
      (s.flowBad d (some (hIndex d.handle)) || decide ((flowArgsOf d.objArgs).inp ≠ (s.flowArgs (hIndex d.handle)).inp) ||
        decide ((flowArgsOf d.objArgs).out ≠ (s.flowArgs (hIndex d.handle)).out) ||
        decide ((flowArgsOf d.objArgs).entry ≠ (s.flowArgs (hIndex d.handle)).entry))))
    (hphase : (s.obj .flow (hIndex d.handle)).phase ≠ .draining) (hready : s.flowNotReady d = false)
    (hclass : s.classRefuses (flowArgsOf d.objArgs) (some (hIndex d.handle)) = false)
    (hfault : (s.admission (flowArgsOf d.objArgs) (some (hIndex d.handle))).fault = 0)
    (hb : (s.admission (flowArgsOf d.objArgs) (some (hIndex d.handle))).b = some b) (hmax : b ≤ s.resMaxMs * 1000000)
    (hrate : (s.admission (flowArgsOf d.objArgs) (some (hIndex d.handle))).f ≤ s.fAdm (some (hIndex d.handle)))
    (hpair : s.syncedPrimary = false) :
    s.admTake 1 0x0102 d = (((s.startCmd d).withWait none).flowChange (s.grantOf d true (hIndex d.handle))).complete d 0x0102 .ok 0
      (boundBytes (some b)) := by
  have hgrant := State.flowDecide_grants (s := s.startCmd d) (d := d) (modify := true) (i := hIndex d.handle) (b := b)
    (by simpa [State.classRefuses_startCmd] using hclass) (by simpa [State.admission_startCmd] using hfault)
    (by simpa [State.admission_startCmd] using hb) (by simpa [State.resMaxMs_startCmd] using hmax)
    (by simpa [State.admission_startCmd, State.fAdm_startCmd] using hrate) (by simpa [State.syncedPrimary_startCmd] using hpair)
  rw [State.admTake_free hfree]
  simp only [State.admRun, State.flowModifyNow, State.flowAbsent_startCmd, State.flowBad_startCmd, State.flowArgs_startCmd,
    State.targetChecks_startCmd]
  rw [State.namedGo_free (State.drainingObj_none hphase), State.checked_started hacc.2 rfl]
  simp only [State.flowNotReady_startCmd, hready, Bool.false_eq_true, if_false]
  rw [hgrant, State.grantOf_startCmd, State.flowGrant_modify rfl rfl, State.withWait_withWait]
  have hbound : (s.grantOf d true (hIndex d.handle)).bound = b := by
    simp [State.grantOf, hb]
  rw [hbound]
  rfl

end Decide

/-! ### DESTROY, DISABLE and ENABLE -/

/-- With no admission in progress and none waiting, a command that names a flow runs at once (R92, R139). -/
theorem State.flowTake_free {s : State} {d : CmdDesc} {kind op : Nat} (hstart : s.startBlocked d op = false) (hwait : s.sw.wait = none)
    (hq : s.sw.admQ = []) : s.flowTake kind op d = (s.startCmd d).admRun ⟨kind, d, none⟩ := by
  simp [State.flowTake, hstart, State.flowNext, hwait, hq]

/-- The drain that a command begins on a flow. -/
def State.flowDrainOf (s : State) (d : CmdDesc) (destroy : Bool) (n : Nat) : Drain :=
  { desc := d, destroy := destroy, limitUs := d.drainLimit ((s.flow (hIndex d.handle)).bound / 1000) 500000, start := s.clk.now, items := n }

/-- The flow as its drain begins. -/
def State.flowBegun (s : State) (d : CmdDesc) (x : Drain) : State :=
  (s.startCmd d).setObj .flow (hIndex d.handle) { s.obj .flow (hIndex d.handle) with phase := .draining, drain := some x }

theorem State.flowDrain_takes {s : State} {d : CmdDesc} {destroy : Bool} {n : Nat}
    (hwait : s.sw.wait = none) (hq : s.sw.admQ = []) (hn : n = (s.flowCopies (hIndex d.handle)).length) (hhost : s.standbyHost d = false)
    (hphase : (s.obj .flow (hIndex d.handle)).phase = .active)
    (hacc : s.Accepts d (if destroy then 0x0104 else 0x0106) (s.targetChecks .flow d true false false (drainReserved d) false)) :
    s.flowTake (if destroy then 5 else 6) (if destroy then 0x0104 else 0x0106) d =
      if n = 0 then (s.flowBegun d (s.flowDrainOf d destroy n)).flowEnd (hIndex d.handle) (s.flowDrainOf d destroy n) 0
      else if d.drainNow then ((s.flowBegun d (s.flowDrainOf d destroy n)).flowAbort (hIndex d.handle)).flowEnd (hIndex d.handle)
        (s.flowDrainOf d destroy n) n
      else s.flowBegun d (s.flowDrainOf d destroy n) := by
  have hkind : (s.startCmd d).admRun ⟨if destroy then 5 else 6, d, none⟩ = (s.startCmd d).flowDrainNow d destroy := by
    cases destroy <;> rfl
  rw [State.flowTake_free hacc.1 hwait hq, hkind]
  simp only [State.flowDrainNow, State.targetChecks_startCmd]
  rw [State.namedGo_free (State.drainingObj_none (by simp [hphase])), State.checked_started hacc.2 rfl]
  simp only [State.standbyHost_startCmd, hhost, Bool.false_eq_true, if_false, State.obj_startCmd, hphase, reduceCtorEq, false_and,
    State.flowCopies_startCmd, ← hn, State.flow_startCmd, State.startCmd_clk]
  rfl

/-! ### The end of a flow's drain -/

theorem State.pairDelta_objs (s : State) (p : OmdPayload) : (s.pairDelta p).objs = s.objs :=
  State.pairDelta_touches (ps := Part.others .objs) s p rfl .objs rfl

theorem State.pairDelta_index (s : State) (p : OmdPayload) : (s.pairDelta p).index = s.index :=
  State.pairDelta_touches (ps := Part.others .index) s p rfl .index rfl

theorem State.pairDelta_sw (s : State) (p : OmdPayload) : (s.pairDelta p).sw = s.sw :=
  State.pairDelta_touches (ps := Part.others .sw) s p rfl .sw rfl

theorem State.flowDrop_index (s : State) (i : Nat) : (s.flowDrop i).index = s.index :=
  State.flowDrop_touches (ps := Part.others .index) s i rfl .index rfl

theorem State.flowDrop_hif (s : State) (i : Nat) : (s.flowDrop i).hif = s.hif :=
  State.flowDrop_touches (ps := Part.others .hif) s i rfl .hif rfl

theorem State.dropObj_hif (s : State) (y : ObjType) (i : Nat) : (s.dropObj y i).hif = s.hif := rfl

theorem State.flowAbort_clk (s : State) (i : Nat) : (s.flowAbort i).clk = s.clk :=
  State.flowAbort_touches (ps := Part.others .clk) s i rfl .clk rfl

section End

variable {s : State} {i a : Nat} {x : Drain}

theorem State.flowEnd_eq : s.flowEnd i x a = if x.destroy then
    ((((s.drainDone .flow i x a).flowDrop i).dropObj .flow i).pairDelta (.flow [(s.drainDone .flow i x a).flowRec i 1]))
    else ((s.drainDone .flow i x a).setObj .flow i { s.obj .flow i with phase := .suspended, drain := none, waiting := [] }).pairDelta
      (.flow [(s.drainDone .flow i x a).flowRec i 2]) := rfl

theorem State.flowEnd_lastCpl : (s.flowEnd i x a).hif.lastCpl = (s.drainDone .flow i x a).hif.lastCpl := by
  rw [State.flowEnd_eq]
  split
  · rw [State.pairDelta_lastCpl, State.dropObj_hif, State.flowDrop_hif]
  · rw [State.pairDelta_lastCpl, State.setObj_hif]

theorem State.flowEnd_completes : Completed x.desc (ObjType.flow.op (if x.destroy then 4 else 6)) (if a = 0 then .ok else .drainedAbort) 0
    (s.drainBytes x a) (s.flowEnd i x a) :=
  State.flowEnd_lastCpl.trans (s.drainDone_completes .flow i x a)

/-- A drain that ends a FLOW_DESTROY frees the index (R88). -/
theorem State.flowEnd_destroyed (hx : x.destroy = true) :
    (s.flowEnd i x a).obj? .flow i = none ∧ (s.flowEnd i x a).gen .flow i = (s.gen .flow i + 1) % 256 := by
  rw [State.flowEnd_eq, if_pos hx]
  constructor
  · have hgone := State.dropObj_obj? ((s.drainDone .flow i x a).flowDrop i) .flow i
    simp only [State.obj?, State.pairDelta_objs] at hgone ⊢
    exact hgone
  · have hgen := State.dropObj_gen ((s.drainDone .flow i x a).flowDrop i) .flow i
    simp only [State.gen, State.indexTab, State.pairDelta_index, State.flowDrop_index, State.drainDone_index] at hgen ⊢
    exact hgen

/-- A drain that ends a FLOW_DISABLE suspends the flow (R91). -/
theorem State.flowEnd_disabled (hx : x.destroy = false) :
    (s.flowEnd i x a).obj .flow i = { s.obj .flow i with phase := .suspended, drain := none, waiting := [] } := by
  simp only [State.flowEnd, hx, Bool.false_eq_true, if_false, State.obj, State.pairDelta_objs]
  exact Tab.get_set_self _ _ _ _

/-- The end of a DISABLE keeps the flow's resources. -/
theorem State.flowEnd_disable_touches {ps : List Part} (hx : x.destroy = false)
    (hw : Part.within (evtParts ++ [.objs, .pair, .boot, .rc .hifRingAborted, .rc .pairMirOvf]) ps = true) : Touches ps s (s.flowEnd i x a) := by
  simp only [State.flowEnd, hx, Bool.false_eq_true, if_false]
  exact ((State.drainDone_touches _ _ _ _ _ (Part.within_trans rfl hw)).step (State.setObj_touches _ _ _ _ (Part.within_trans rfl hw))).step
    (State.pairDelta_touches _ _ (Part.within_trans rfl hw))

end End

/-! ### A flow whose drain has begun -/

section Begun

variable (s : State) (d : CmdDesc) (x : Drain)

theorem State.flowBegun_obj : (s.flowBegun d x).obj .flow (hIndex d.handle) =
    { s.obj .flow (hIndex d.handle) with phase := .draining, drain := some x } := Tab.get_set_self _ _ _ _

theorem State.flowBegun_gen : (s.flowBegun d x).gen .flow (hIndex d.handle) = s.gen .flow (hIndex d.handle) := State.gen_startCmd s d _ _

theorem State.flowBegun_clk : (s.flowBegun d x).clk = s.clk := State.startCmd_clk s d

theorem State.flowBegun_touches {ps : List Part} (hw : Part.within [.hif, .objs, .rc .hifRingAborted] ps = true) :
    Touches ps s (s.flowBegun d x) :=
  (State.startCmd_touches s d (Part.within_trans rfl hw)).step (State.setObj_touches _ _ _ _ (Part.within_trans rfl hw))

end Begun

/-- A FLOW_DESTROY with nothing in flight (R88, R94). -/
theorem State.flowDestroy_ends {s : State} {d : CmdDesc} (hwait : s.sw.wait = none) (hq : s.sw.admQ = [])
    (hn : 0 = (s.flowCopies (hIndex d.handle)).length) (hhost : s.standbyHost d = false)
    (hphase : (s.obj .flow (hIndex d.handle)).phase = .active)
    (hacc : s.Accepts d 0x0104 (s.targetChecks .flow d true false false (drainReserved d) false)) :
    (s.flowTake 5 0x0104 d).obj? .flow (hIndex d.handle) = none ∧
      (s.flowTake 5 0x0104 d).gen .flow (hIndex d.handle) = (s.gen .flow (hIndex d.handle) + 1) % 256 ∧
      Completed d 0x0104 .ok 0 (leBytes 0 4 ++ leBytes 0 4 ++ leBytes 0 4) (s.flowTake 5 0x0104 d) ∧
      Touches (evtParts ++ cplParts ++ [Part.index, .objs, .sw, .fab, .bpm, .fdb, .pair, .rc .pairMirOvf]) s (s.flowTake 5 0x0104 d) := by
  have hrun := State.flowDrain_takes (destroy := true) (n := 0) hwait hq hn hhost hphase hacc
  simp only [if_true] at hrun
  obtain ⟨hgone, hgen⟩ := State.flowEnd_destroyed (s := s.flowBegun d (s.flowDrainOf d true 0)) (i := hIndex d.handle) (a := 0)
    (x := s.flowDrainOf d true 0) rfl
  have hcpl := State.flowEnd_completes (s := s.flowBegun d (s.flowDrainOf d true 0)) (i := hIndex d.handle) (a := 0)
    (x := s.flowDrainOf d true 0)
  rw [State.drainBytes_atOnce (n := 0) (congrArg Clock.now (State.flowBegun_clk _ _ _).symm) rfl rfl] at hcpl
  rw [State.flowBegun_gen] at hgen
  rw [hrun]
  exact ⟨hgone, hgen, hcpl, (State.flowBegun_touches _ _ _ rfl).step (State.flowEnd_touches _ _ _ _ rfl)⟩

/-- A FLOW_DISABLE whose drain ends at once: nothing is in flight, or what is in flight is aborted (R91, R94). -/
theorem State.flowDisable_ends {s : State} {d : CmdDesc} {n : Nat} (hwait : s.sw.wait = none) (hq : s.sw.admQ = [])
    (hn : n = (s.flowCopies (hIndex d.handle)).length) (hhost : s.standbyHost d = false)
    (hphase : (s.obj .flow (hIndex d.handle)).phase = .active)
    (hacc : s.Accepts d 0x0106 (s.targetChecks .flow d true false false (drainReserved d) false)) (hend : n = 0 ∨ d.drainNow = true) :
    ((s.flowTake 6 0x0106 d).obj .flow (hIndex d.handle)).phase = .suspended ∧
      ((s.flowTake 6 0x0106 d).obj .flow (hIndex d.handle)).drain = none ∧
      Completed d 0x0106 (if n = 0 then .ok else .drainedAbort) 0 (leBytes 0 4 ++ leBytes n 4 ++ leBytes 0 4) (s.flowTake 6 0x0106 d) ∧
      Touches ((if n = 0 then evtParts else copyParts) ++ cplParts ++ [Part.objs, .pair, .rc .pairMirOvf]) s (s.flowTake 6 0x0106 d) := by
  have hrun := State.flowDrain_takes (destroy := false) hwait hq hn hhost hphase hacc
  generalize hu : s.flowBegun d (s.flowDrainOf d false n) = u at hrun
  have hclk : u.clk = s.clk := hu ▸ State.flowBegun_clk _ _ _
  have hbegun : Touches [.hif, .objs, .rc .hifRingAborted] s u := hu ▸ State.flowBegun_touches _ _ _ rfl
  simp only [Bool.false_eq_true, if_false] at hrun
  have hafter : ∀ v : State, v.clk = s.clk →
      ((v.flowEnd (hIndex d.handle) (s.flowDrainOf d false n) n).obj .flow (hIndex d.handle)).phase = .suspended ∧
      ((v.flowEnd (hIndex d.handle) (s.flowDrainOf d false n) n).obj .flow (hIndex d.handle)).drain = none ∧
      Completed d 0x0106 (if n = 0 then .ok else .drainedAbort) 0 (leBytes 0 4 ++ leBytes n 4 ++ leBytes 0 4)
        (v.flowEnd (hIndex d.handle) (s.flowDrainOf d false n) n) := by
    intro v hv
    have hobj := State.flowEnd_disabled (s := v) (i := hIndex d.handle) (a := n) (x := s.flowDrainOf d false n) rfl
    have hcpl := State.flowEnd_completes (s := v) (i := hIndex d.handle) (a := n) (x := s.flowDrainOf d false n)
    rw [State.drainBytes_atOnce (n := n) (congrArg Clock.now hv.symm) rfl rfl] at hcpl
    exact ⟨congrArg Obj.phase hobj, congrArg Obj.drain hobj, hcpl⟩
  by_cases hzero : n = 0
  · rw [if_pos hzero] at hrun
    obtain ⟨hphase, hdrain, hcpl⟩ := hafter u hclk
    subst hzero
    rw [hrun]
    exact ⟨hphase, hdrain, hcpl, (hbegun.mono rfl).step (State.flowEnd_disable_touches rfl rfl)⟩
  · rw [if_neg hzero, if_pos (hend.resolve_left hzero)] at hrun
    obtain ⟨hphase, hdrain, hcpl⟩ := hafter (u.flowAbort (hIndex d.handle)) ((State.flowAbort_clk _ _).trans hclk)
    rw [hrun]
    refine ⟨hphase, hdrain, hcpl, ?_⟩
    rw [if_neg hzero]
    exact ((hbegun.mono rfl).step (State.flowAbort_touches _ _ rfl)).step (State.flowEnd_disable_touches rfl rfl)

/-- A FLOW_DESTROY that waits for what is in flight (R94). -/
theorem State.flowDestroy_waits {s : State} {d : CmdDesc} {n : Nat} (hwait : s.sw.wait = none) (hq : s.sw.admQ = [])
    (hn : n = (s.flowCopies (hIndex d.handle)).length) (hhost : s.standbyHost d = false)
    (hphase : (s.obj .flow (hIndex d.handle)).phase = .active)
    (hacc : s.Accepts d 0x0104 (s.targetChecks .flow d true false false (drainReserved d) false)) (hflight : n ≠ 0) (hnow : d.drainNow = false) :
    s.flowTake 5 0x0104 d = s.flowBegun d (s.flowDrainOf d true n) := by
  have hrun := State.flowDrain_takes (destroy := true) hwait hq hn hhost hphase hacc
  rw [if_neg hflight, hnow] at hrun
  exact hrun

/-! ### ENABLE -/

theorem State.flowResume_flow (s : State) (i : Nat) : (s.flowResume i).flow i =
    { s.flow i with tokens := bucketFull (s.flow i).maxFrame, tokAt := s.clk.now, rejoin := true } := Tab.get_set_self _ _ _ _

theorem State.flowEnable_resumes {s : State} {d : CmdDesc} (hwait : s.sw.wait = none) (hq : s.sw.admQ = [])
    (hacc : s.Accepts d 0x0107 (s.targetChecks .flow d true false false (!(d.zero 12 32)) false)) (hhost : s.standbyHost d = false)
    (hphase : (s.obj .flow (hIndex d.handle)).phase = .suspended) :
    ∃ r, s.flowTake 7 0x0107 d = (((((s.startCmd d).setObj .flow (hIndex d.handle)
      { s.obj .flow (hIndex d.handle) with phase := .active }).flowResume (hIndex d.handle)).pairDelta (.flow [r])).complete d 0x0107 .ok) := by
  refine ⟨(((s.startCmd d).setObj .flow (hIndex d.handle) { s.obj .flow (hIndex d.handle) with phase := .active }).flowResume
    (hIndex d.handle)).flowRec (hIndex d.handle) 3, ?_⟩
  rw [State.flowTake_free hacc.1 hwait hq]
  simp only [State.admRun, State.flowEnableNow, State.targetChecks_startCmd]
  rw [State.namedGo_free (State.drainingObj_none (by simp [hphase])), State.checked_started hacc.2 rfl]
  simp only [State.standbyHost_startCmd, hhost, Bool.false_eq_true, if_false, State.obj_startCmd, hphase]

/-! ### The confirmation of a command that waits -/

theorem State.admGo_of_empty {s : State} (h : s.sw.admQ = []) : s.admGo = s := by
  simp [State.admGo, h, State.admDrain]

theorem State.flowGrant_create_sw {s : State} {w : FlowWait} (hown : w.mirror = false) (hcreate : w.modify = false) :
    (s.flowGrant w).sw = { (s.withWait none).sw with flows := Tab.set s.sw.flows w.index ((s.withWait none).madeFlow w) } := by
  rw [State.flowGrant_create hown hcreate, State.complete_sw, State.flowMake_sw hown]
  rfl

theorem State.flowBoundConfirm_grants {s : State} {i : Nat} {w : FlowWait} (hw : s.sw.wait = some w) (hi : w.index = i) (hst : w.stage = 0)
    (hown : w.mirror = false) (hcreate : w.modify = false) (hq : s.sw.admQ = []) (hmet : s.waitMet w = true)
    (hpair : s.syncedPrimary = false) : s.flowBoundConfirm i = s.flowGrant w := by
  simp only [State.flowBoundConfirm, hw, hi, hst, hmet, ne_eq, not_true, or_self, if_false, if_true, State.flowLocal_alone hpair]
  refine State.admGo_of_empty ?_
  rw [State.flowGrant_create_sw hown hcreate]
  exact hq

theorem State.flowRefuse_create {s : State} {w : FlowWait} (b : Option Nat) (hown : w.mirror = false) (hcreate : w.modify = false) :
    s.flowRefuse w b = (s.withWait none).complete w.desc 0x0101 .boundRefused 0 (boundBytes b) := by
  simp only [State.flowRefuse, hown, hcreate, Bool.false_eq_true, if_false, flowOp]
  rfl

theorem State.flowBoundConfirm_refuses {s : State} {i : Nat} {w : FlowWait} (hw : s.sw.wait = some w) (hi : w.index = i) (hst : w.stage = 0)
    (hown : w.mirror = false) (hcreate : w.modify = false) (hq : s.sw.admQ = []) (hmet : s.waitMet w = false)
    (hvset : s.sw.vset = 880) (hset : s.vddSettled = true) :
    ∃ b, s.flowBoundConfirm i = (s.withWait none).complete w.desc 0x0101 .boundRefused 0 (boundBytes b) := by
  refine ⟨s.boundOf (flowArgsOf w.desc.objArgs) (s.flowsTo (flowArgsOf w.desc.objArgs).out (some i)) 5715, ?_⟩
  simp only [State.flowBoundConfirm, hw, hi, hst, hmet, hvset, hset, ne_eq, not_true, or_self, if_false, and_self, if_true,
    Bool.false_eq_true]
  rw [State.flowRefuse_create _ hown hcreate]
  have hidle : ((s.withWait none).complete w.desc 0x0101 .boundRefused 0
      (boundBytes (s.boundOf (flowArgsOf w.desc.objArgs) (s.flowsTo (flowArgsOf w.desc.objArgs).out (some i)) 5715))).sw.admQ = [] := by
    rw [State.complete_sw]
    exact hq
  exact State.admGo_of_empty hidle

/-! ### The statement -/

/-- Settles O20. -/
theorem guaranteedFlows : Obligations.GuaranteedFlows := by
  refine ⟨?create, ?modify, ?drain, ?enable, ?confirm⟩
  case create =>
    intro s d i b hup hwf hfree hacc hnext hready hclass hfault hb hmax hrate hpair
    have hrun := State.flowCreate_grants hfree hacc hnext hready hclass hfault hb hmax hrate hpair
    have hget : (s.admTake 0 0x0101 d).flow i = ((s.startCmd d).withWait none).madeFlow (s.grantOf d false i) := by
      rw [hrun, State.complete_flow]
      exact State.flowMake_flow rfl
    have hobj : (s.admTake 0 0x0101 d).obj? .flow i = some { args := d.objArgs, extra := [] } := by
      rw [hrun, State.complete_obj?]
      exact State.flowMake_obj? (s := (s.startCmd d).withWait none) (w := s.grantOf d false i) rfl
    have hbound : Tab.find (s.admTake 0 0x0101 d).fdb.bound (flowArgsOf d.objArgs).entry = some i := by
      rw [hrun, State.complete_fdb]
      exact State.flowMake_bound (s := (s.startCmd d).withWait none) (w := s.grantOf d false i)
    refine gives_effect rfl hup hwf ⟨hobj, ?_, ?_, hbound, ?_, ?_⟩
    · exact (congrArg Flow.bound hget).trans (by simp [State.madeFlow, State.grantOf, hb])
    · exact congrArg Flow.tokens hget
    · exact congrArg (fun u : State => u.hif.lastCpl) hrun
    · rw [hrun]
      exact (((State.startCmd_touches s d rfl).step ((Touches.refl _ _).set_sw rfl)).step (State.flowMake_touches _ _ rfl)).step
        (State.complete_touches _ _ _ _ _ _ _ rfl) |>.carry
  case modify =>
    intro s d b hup hwf hfree hacc hphase hready hclass hfault hb hmax hrate hpair
    have hrun := State.flowModify_grants hfree hacc hphase hready hclass hfault hb hmax hrate hpair
    have hget : (s.admTake 1 0x0102 d).flow (hIndex d.handle) =
        ((s.startCmd d).withWait none).changedFlow (s.grantOf d true (hIndex d.handle)) := by
      rw [hrun, State.complete_flow]
      exact State.flowChange_flow _ _
    have hobj : (s.admTake 1 0x0102 d).obj .flow (hIndex d.handle) = { s.obj .flow (hIndex d.handle) with args := d.objArgs } := by
      rw [hrun, State.complete_obj, ← State.obj_startCmd s d .flow (hIndex d.handle)]
      exact State.flowChange_obj ((s.startCmd d).withWait none) (s.grantOf d true (hIndex d.handle))
    refine gives_effect rfl hup hwf ⟨hobj, ?_, ?_, ?_, ?_⟩
    · exact (congrArg Flow.bound hget).trans (by simp [State.changedFlow, State.grantOf, hb])
    · exact congrArg Flow.newPolicer hget
    · exact congrArg (fun u : State => u.hif.lastCpl) hrun
    · rw [hrun]
      exact (((State.startCmd_touches s d rfl).step ((Touches.refl _ _).set_sw rfl)).step (State.flowChange_touches _ _ rfl)).step
        (State.complete_touches _ _ _ _ _ _ _ rfl) |>.carry
  case drain =>
    intro s d i n hup hwf hwait hq hi hn hhost hphase hidle
    subst hi
    refine ⟨fun hacc => ⟨fun hzero => ?_, fun hflight hnow => ?_⟩, fun hacc => ⟨fun hzero => ?_, fun hflight hnow => ?_⟩⟩
    · obtain ⟨hgone, hgen, hcpl, hframe⟩ := State.flowDestroy_ends hwait hq (hzero.symm.trans hn) hhost hphase hacc
      exact gives_effect rfl hup hwf ⟨hgone, hgen, hcpl, hframe.carry⟩
    · have hrun := State.flowDestroy_waits hwait hq hn hhost hphase hacc hflight hnow
      have hobj : (s.flowTake 5 0x0104 d).obj .flow (hIndex d.handle) =
          { s.obj .flow (hIndex d.handle) with phase := .draining, drain := some (s.flowDrainOf d true n) } := by
        rw [hrun]
        exact State.flowBegun_obj _ _ _
      have hframe : Touches (cplParts ++ [Part.objs]) s (s.flowTake 5 0x0104 d) := by
        rw [hrun]
        exact State.flowBegun_touches _ _ _ rfl
      exact gives_effect rfl hup hwf ⟨congrArg Obj.phase hobj, congrArg Obj.drain hobj, hframe.carry⟩
    · obtain ⟨hsusp, hdrain, hcpl, hframe⟩ := State.flowDisable_ends hwait hq hn hhost hphase hacc (.inl hzero)
      subst hzero
      exact gives_effect rfl hup hwf ⟨hsusp, hdrain, hcpl, hframe.carry⟩
    · obtain ⟨hsusp, hdrain, hcpl, hframe⟩ := State.flowDisable_ends hwait hq hn hhost hphase hacc (.inr hnow)
      rw [if_neg hflight] at hcpl hframe
      exact gives_effect rfl hup hwf ⟨hsusp, hdrain, hcpl, hframe.carry⟩
  case enable =>
    intro s d hup hwf hwait hq hacc hhost hphase
    obtain ⟨r, hrun⟩ := State.flowEnable_resumes hwait hq hacc hhost hphase
    have hobjs : (s.flowTake 7 0x0107 d).obj .flow (hIndex d.handle) = { s.obj .flow (hIndex d.handle) with phase := .active } := by
      rw [hrun, State.obj, State.complete_objs, State.pairDelta_objs]
      exact Tab.get_set_self _ _ _ _
    have hflow : (s.flowTake 7 0x0107 d).flow (hIndex d.handle) =
        { s.flow (hIndex d.handle) with tokens := bucketFull (s.flow (hIndex d.handle)).maxFrame, tokAt := s.clk.now, rejoin := true } := by
      rw [hrun, State.complete_flow, State.flow, State.pairDelta_sw]
      refine (State.flowResume_flow _ _).trans ?_
      simp only [State.flow, State.setObj_sw, State.setObj_clk, State.startCmd_sw, State.startCmd_clk]
    refine gives_effect rfl hup hwf ⟨congrArg Obj.phase hobjs, congrArg Flow.tokens hflow, congrArg Flow.rejoin hflow, ?_, ?_⟩
    · exact congrArg (fun u : State => u.hif.lastCpl) hrun
    · rw [hrun]
      exact (((((State.startCmd_touches s d rfl).step (State.setObj_touches _ _ _ _ rfl)).step (State.flowResume_touches _ _ rfl)).step
        (State.pairDelta_touches _ _ rfl)).step (State.complete_touches _ _ _ _ _ _ _ rfl)).carry
  case confirm =>
    intro s i w hup hi hw hindex hst hown hcreate hq
    have hok : flowIndex i = true := decide_eq_true hi
    refine ⟨fun hmet hpair => ?_, fun hmet hvset hset => ?_⟩
    · have hrun := (State.flowBoundConfirm_grants hw hindex hst hown hcreate hq hmet hpair).trans (State.flowGrant_create hown hcreate)
      subst hindex
      have hsw : (s.flowBoundConfirm w.index).sw =
          { (s.withWait none).sw with flows := Tab.set s.sw.flows w.index ((s.withWait none).madeFlow w) } := by
        rw [hrun, State.complete_sw, State.flowMake_sw hown]
        rfl
      have hobj : (s.flowBoundConfirm w.index).obj? .flow w.index = some { args := w.desc.objArgs, extra := [] } := by
        rw [hrun, State.complete_obj?]
        exact State.flowMake_obj? hown
      have hflow : (s.flowBoundConfirm w.index).flow w.index = (s.withWait none).madeFlow w := by
        rw [hrun, State.complete_flow]
        exact State.flowMake_flow hown
      have hframe : Touches (cplParts ++ [Part.index, .objs, .sw, .fab, .bpm, .fdb]) s (s.flowBoundConfirm w.index) := by
        rw [hrun]
        exact (((Touches.refl _ _).set_sw rfl).step (State.flowMake_touches _ _ rfl)).step (State.complete_touches _ _ _ _ _ _ _ rfl)
      exact gives_effect rfl hup hok ⟨congrArg SwState.wait hsw, hobj, congrArg Flow.bound hflow,
        congrArg (fun u : State => u.hif.lastCpl) hrun, hframe.carry⟩
    · obtain ⟨b, hrun⟩ := State.flowBoundConfirm_refuses hw hindex hst hown hcreate hq hmet hvset hset
      exact gives_effect (congrArg (effect _ s) hrun) hup hok ⟨rfl, ⟨b, rfl⟩,
        (((Touches.refl _ _).set_sw rfl).step (State.complete_touches _ _ _ _ _ _ _ rfl)).carry⟩

end Sys2Proof.Machine
end

section
/-! ## The commands that set a table of FDB (R185, R187, R193, R199 to R201) -/

set_option Elab.async false

namespace Sys2Proof.Machine

theorem Tab.find_erase_ne {κ α : Type} [DecidableEq κ] (t : Tab κ α) {k j : κ} (h : j ≠ k) : Tab.find (Tab.erase t k) j = Tab.find t j := by
  simp [Tab.erase, Tab.find_filter_ne t k j h]

theorem State.verFullSeen_fdb (s : State) : ∃ w, s.verFullSeen.fdb = { s.fdb with verRaised := w } := by
  unfold State.verFullSeen
  split
  · exact ⟨true, rfl⟩
  · exact ⟨s.fdb.verRaised, rfl⟩

/-- A new version of an entry changes nothing of FDB but what counts versions (R190). -/
theorem State.bumpVersion_fdb (s : State) (k : EntryKey) : ∃ v r o w, (s.bumpVersion k).fdb =
    { s.fdb with versions := v, retired := r, oldCb := o, verRaised := w } := by
  unfold State.bumpVersion
  extract_lets users v
  obtain ⟨w, hw⟩ := State.verFullSeen_fdb ({ s with fdb := { s.fdb with
    versions := Tab.set s.fdb.versions k ((v + 1) % 65536)
    retired := if users = [] then s.fdb.retired else (k, v, users) :: s.fdb.retired
    oldCb := if users = [] then s.fdb.oldCb else s.fdb.keepCb k } } : State)
  exact ⟨_, _, _, w, hw⟩

/-- The part after a command that takes an entry of FDB as it is and advances its version. -/
def State.tableSet (s : State) (d : CmdDesc) (op : Nat) (k : EntryKey) (f : FdbState → FdbState) : State :=
  ({ (s.startCmd d).bumpVersion k with fdb := f ((s.startCmd d).bumpVersion k).fdb } : State).complete d op .ok 0
    (leBytes (((s.startCmd d).bumpVersion k).fdb.version k) 2)

section Set

variable (s : State) (d : CmdDesc) (op : Nat) (k : EntryKey) (f : FdbState → FdbState)

theorem State.tableSet_completes :
    Completed d op .ok 0 (leBytes ((s.fdb.version k + 1) % 65536) 2) (s.tableSet d op k f) := by
  have hversion : ((s.startCmd d).bumpVersion k).fdb.version k = (s.fdb.version k + 1) % 65536 :=
    (State.bumpVersion_version _ k).trans (by rw [State.startCmd_fdb])
  rw [← hversion]
  exact State.complete_lastCpl _ _ _ _ _ _ _

theorem State.tableSet_touches : Touches (evtParts ++ cplParts ++ [Part.fdb]) s (s.tableSet d op k f) :=
  (((State.startCmd_touches s d rfl).step (State.bumpVersion_touches _ k rfl)).set_fdb rfl).step (State.complete_touches _ _ _ _ _ _ _ rfl)

theorem State.tableSet_fdb : ∃ v r o w, (s.tableSet d op k f).fdb =
    f { s.fdb with versions := v, retired := r, oldCb := o, verRaised := w } := by
  obtain ⟨v, r, o, w, h⟩ := (s.startCmd d).bumpVersion_fdb k
  rw [State.startCmd_fdb] at h
  refine ⟨v, r, o, w, ?_⟩
  rw [← h]
  exact State.complete_fdb _ _ _ _ _ _ _

end Set

/-! ### The statement -/

theorem Tab.find_set_of_ne {κ α : Type} [DecidableEq κ] {t u : Tab κ α} {k : κ} {v : α} (h : u = Tab.set t k v) :
    Tab.find u k = some v ∧ ∀ j, j ≠ k → Tab.find u j = Tab.find t j := by
  subst h
  exact ⟨Tab.find_set_self _ _ _, fun j hj => Tab.find_set_ne _ _ _ _ hj⟩

theorem Tab.find_of_erase {κ α : Type} [DecidableEq κ] {t u : Tab κ α} {k : κ} (h : u = Tab.erase t k) :
    Tab.find u k = none ∧ ∀ j, j ≠ k → Tab.find u j = Tab.find t j := by
  subst h
  exact ⟨Tab.find_erase_self _ _, fun j hj => Tab.find_erase_ne _ hj⟩

theorem Tab.get_of_set {κ α : Type} [DecidableEq κ] {t u : Tab κ α} {k : κ} {v : α} (h : u = Tab.set t k v) (d : κ → α) :
    Tab.get (d k) u k = v ∧ ∀ j, j ≠ k → Tab.get (d j) u j = Tab.get (d j) t j := by
  subst h
  exact ⟨Tab.get_set_self _ _ _ _, fun j hj => Tab.get_set_ne _ _ _ _ _ hj⟩

/-- The 802.1CB function that FDB_CB_SET leaves under a type other than 3 (R199). -/
def State.cbSetFn (s : State) (d : CmdDesc) : CbFn :=
  let old := (s.cbFn? (d.arg 12 2)).getD { type := 3, hist := 0, resetMs := 0, pop := false, ports := 0 }
  { old with type := d.arg 14 1, hist := d.arg 15 1, resetMs := d.arg 16 2, pop := d.arg 18 1 == 1, ports := d.arg 20 10
             nextSeq := 0, recov := none, history := 0, histLen := 0, wrap := 0, lastId := 0
             resets := if d.arg 14 1 = 0 then old.resets else satAdd 32 old.resets 1 }

theorem State.vlan_carry (t s : State) (v : Nat) : (t.carry s).vlan v = Tab.get (s.vlanReset v) t.fdb.vlans v := rfl

/-- Settles O34. -/
theorem fdbTables : Obligations.FdbTables := by
  refine ⟨?vlan, ?mcg, ?cls, ?del, ?cb, ?recovery⟩
  case vlan =>
    intro s d hup hwf hacc hver
    have hrun : s.fdbVlanSet d = s.tableSet d 0xA805 (.vlan (d.buf 0 2))
        (fun x => { x with vlans := Tab.set x.vlans (d.buf 0 2) (d.buf 2 13, d.buf 15 13) }) := by
      rw [State.fdbVlanSet, State.runCmd_accepted_free hacc rfl]
      simp only [State.verBusy_startCmd, hver, Bool.false_eq_true, if_false]
      rfl
    obtain ⟨v, r, o, w, hfdb⟩ := s.tableSet_fdb d 0xA805 (.vlan (d.buf 0 2))
      (fun x => { x with vlans := Tab.set x.vlans (d.buf 0 2) (d.buf 2 13, d.buf 15 13) })
    have hframe := s.tableSet_touches d 0xA805 (.vlan (d.buf 0 2))
      (fun x => { x with vlans := Tab.set x.vlans (d.buf 0 2) (d.buf 2 13, d.buf 15 13) })
    have hcpl := s.tableSet_completes d 0xA805 (.vlan (d.buf 0 2))
      (fun x => { x with vlans := Tab.set x.vlans (d.buf 0 2) (d.buf 2 13, d.buf 15 13) })
    rw [← hrun] at hfdb hframe hcpl
    obtain ⟨hset, hkept⟩ := Tab.get_of_set (congrArg FdbState.vlans hfdb) s.vlanReset
    exact gives_effect rfl hup hwf ⟨(State.vlan_carry _ _ _).trans hset, fun i hi => (State.vlan_carry _ _ _).trans (hkept i hi), hcpl,
      hframe.carry⟩
  case mcg =>
    intro s d hup hwf hacc hver
    have hrun : s.fdbMcgSet d = s.tableSet d 0xA806 (.mcg (d.buf 0 2))
        (fun x => { x with groups := Tab.set x.groups (d.buf 0 2) (d.buf 2 13) }) := by
      rw [State.fdbMcgSet, State.runCmd_accepted_free hacc rfl]
      simp only [State.verBusy_startCmd, hver, Bool.false_eq_true, if_false]
      rfl
    obtain ⟨v, r, o, w, hfdb⟩ := s.tableSet_fdb d 0xA806 (.mcg (d.buf 0 2))
      (fun x => { x with groups := Tab.set x.groups (d.buf 0 2) (d.buf 2 13) })
    have hframe := s.tableSet_touches d 0xA806 (.mcg (d.buf 0 2))
      (fun x => { x with groups := Tab.set x.groups (d.buf 0 2) (d.buf 2 13) })
    have hcpl := s.tableSet_completes d 0xA806 (.mcg (d.buf 0 2))
      (fun x => { x with groups := Tab.set x.groups (d.buf 0 2) (d.buf 2 13) })
    rw [← hrun] at hfdb hframe hcpl
    obtain ⟨hset, hkept⟩ := Tab.get_of_set (congrArg FdbState.groups hfdb) (fun _ => 0)
    exact gives_effect rfl hup hwf ⟨hset, hkept, hcpl, hframe.carry⟩
  case cls =>
    intro s d hup hwf hacc hver
    have hrun : s.fdbClsSet d = if (Tab.find s.fdb.bound (d.buf 0 2)).isSome then (s.startCmd d).complete d 0xA807 .busy
        else s.tableSet d 0xA807 (.cls (d.buf 0 2)) (fun x => { x with cls := Tab.set x.cls (d.buf 0 2) d.clsEntry }) := by
      rw [State.fdbClsSet, State.runCmd_accepted_free hacc rfl]
      simp only [State.startCmd_fdb, State.verBusy_startCmd, hver, Bool.false_eq_true, if_false]
      rfl
    obtain ⟨v, r, o, w, hfdb⟩ := s.tableSet_fdb d 0xA807 (.cls (d.buf 0 2))
      (fun x => { x with cls := Tab.set x.cls (d.buf 0 2) d.clsEntry })
    have hframe := s.tableSet_touches d 0xA807 (.cls (d.buf 0 2)) (fun x => { x with cls := Tab.set x.cls (d.buf 0 2) d.clsEntry })
    have hcpl := s.tableSet_completes d 0xA807 (.cls (d.buf 0 2)) (fun x => { x with cls := Tab.set x.cls (d.buf 0 2) d.clsEntry })
    cases hbound : Tab.find s.fdb.bound (d.buf 0 2) with
    | none =>
      rw [hbound, if_neg (by decide)] at hrun
      rw [← hrun] at hfdb hframe hcpl
      obtain ⟨hset, hkept⟩ := Tab.find_set_of_ne (congrArg FdbState.cls hfdb)
      exact gives_effect rfl hup hwf ⟨fun _ => ⟨hset, hkept, hcpl⟩, fun h => absurd rfl h, hframe.carry⟩
    | some i =>
      rw [hbound, if_pos Option.isSome_some] at hrun
      have hfree : ((s.startCmd d).complete d 0xA807 .busy).fdb = s.fdb := by
        rw [State.complete_fdb, State.startCmd_fdb]
      have hbusy := State.startComplete_touches (ps := evtParts ++ cplParts ++ [Part.fdb]) s d 0xA807 .busy 0 [] [] rfl
      rw [← hrun] at hfree hbusy
      exact gives_effect rfl hup hwf ⟨fun h => absurd h (by simp), fun _ => ⟨hfree, congrArg (fun u : State => u.hif.lastCpl) hrun⟩, hbusy.carry⟩
  case del =>
    intro s d hup hwf hacc hbound hver
    have hrun : s.fdbClsDel d = s.tableSet d 0xA808 (.cls (d.arg 12 2)) (fun x => { x with cls := Tab.erase x.cls (d.arg 12 2) }) := by
      rw [State.fdbClsDel, State.runCmd_accepted_free hacc rfl]
      simp only [State.startCmd_fdb, hbound, Option.isSome_none, State.verBusy_startCmd, hver, Bool.false_eq_true, if_false]
      rfl
    obtain ⟨v, r, o, w, hfdb⟩ := s.tableSet_fdb d 0xA808 (.cls (d.arg 12 2)) (fun x => { x with cls := Tab.erase x.cls (d.arg 12 2) })
    have hframe := s.tableSet_touches d 0xA808 (.cls (d.arg 12 2)) (fun x => { x with cls := Tab.erase x.cls (d.arg 12 2) })
    have hcpl := s.tableSet_completes d 0xA808 (.cls (d.arg 12 2)) (fun x => { x with cls := Tab.erase x.cls (d.arg 12 2) })
    rw [← hrun] at hfdb hframe hcpl
    obtain ⟨hgone, hkept⟩ := Tab.find_of_erase (congrArg FdbState.cls hfdb)
    exact gives_effect rfl hup hwf ⟨hgone, hkept, hcpl, hframe.carry⟩
  case cb =>
    intro s d hup hwf hacc hver
    have hrun : s.fdbCbSet d = s.tableSet d 0xA809 (.cb (d.arg 12 2)) (fun x => if d.arg 14 1 = 3 then
        { x with cb := Tab.erase x.cb (d.arg 12 2) } else { x with cb := Tab.set x.cb (d.arg 12 2) (s.cbSetFn d) }) := by
      rw [State.fdbCbSet, State.runCmd_accepted_free hacc rfl]
      simp only [State.verBusy_startCmd, hver, Bool.false_eq_true, if_false, State.cbFn?, State.startCmd_fdb]
      split
      · simp only [State.tableSet]
      · simp only [State.tableSet]; rfl
    obtain ⟨v, r, o, w, hfdb⟩ := s.tableSet_fdb d 0xA809 (.cb (d.arg 12 2)) (fun x => if d.arg 14 1 = 3 then
        { x with cb := Tab.erase x.cb (d.arg 12 2) } else { x with cb := Tab.set x.cb (d.arg 12 2) (s.cbSetFn d) })
    have hframe := s.tableSet_touches d 0xA809 (.cb (d.arg 12 2)) (fun x => if d.arg 14 1 = 3 then
        { x with cb := Tab.erase x.cb (d.arg 12 2) } else { x with cb := Tab.set x.cb (d.arg 12 2) (s.cbSetFn d) })
    have hcpl := s.tableSet_completes d 0xA809 (.cb (d.arg 12 2)) (fun x => if d.arg 14 1 = 3 then
        { x with cb := Tab.erase x.cb (d.arg 12 2) } else { x with cb := Tab.set x.cb (d.arg 12 2) (s.cbSetFn d) })
    rw [← hrun] at hfdb hframe hcpl
    by_cases hnone : d.arg 14 1 = 3
    · rw [if_pos hnone] at hfdb
      obtain ⟨hgone, hkept⟩ := Tab.find_of_erase (congrArg FdbState.cb hfdb)
      exact gives_effect rfl hup hwf ⟨fun _ => hgone, fun h => absurd hnone h, hkept, hcpl, hframe.carry⟩
    · rw [if_neg hnone] at hfdb
      obtain ⟨hset, hkept⟩ := Tab.find_set_of_ne (congrArg FdbState.cb hfdb)
      exact gives_effect rfl hup hwf ⟨fun h => absurd h hnone, fun _ => ⟨s.cbSetFn d, hset, rfl, rfl, rfl, rfl, rfl, rfl, rfl, rfl, rfl⟩,
        hkept, hcpl, hframe.carry⟩
  case recovery =>
    intro s f x hup hwf hx hkind
    have hrun : s.cbRecoveryReset f = s.setCb f { x with recov := none, history := 0, histLen := 0, resets := satAdd 32 x.resets 1 } := by
      simp only [State.cbRecoveryReset, hx, hkind, if_false]
    exact gives_effect (congrArg (effect _ s) hrun) hup hwf
      ⟨Tab.find_set_self _ _ _, fun g hg => Tab.find_set_ne _ _ _ _ hg, ((Touches.refl _ _).set_fdb rfl).carry⟩

end Sys2Proof.Machine
end

section
/-! ## Writes of registers on which a unit acts by itself, and folds of which one step counts -/

set_option Elab.async false

namespace Sys2Proof.Machine

/-! ### Folds -/

/-- A fold of steps that keep `g` keeps it. -/
theorem foldl_kept {α β γ : Type} {f : α → β → α} {g : α → γ} (l : List β) (hf : ∀ s x, x ∈ l → g (f s x) = g s) (s : α) :
    g (l.foldl f s) = g s := by
  induction l generalizing s with
  | nil => rfl
  | cons x l ih =>
    exact (ih (fun s y hy => hf s y (List.mem_cons_of_mem x hy)) (f s x)).trans (hf s x List.mem_cons_self)

/-- In a fold whose steps all keep `I`, and but for that of `j` keep `g`, the step of `j` is the one that decides `g`. -/
theorem foldl_once {α β γ : Type} {f : α → β → α} {g : α → γ} {I : α → Prop} {j : β} (hI : ∀ s x, I s → I (f s x))
    (hne : ∀ s x, x ≠ j → g (f s x) = g s) (l : List β) (hl : l.Nodup) (hj : j ∈ l) (s : α) (hs : I s) :
    ∃ u, I u ∧ g u = g s ∧ g (l.foldl f s) = g (f u j) := by
  induction l generalizing s with
  | nil => cases hj
  | cons x l ih =>
    obtain ⟨hx, hl⟩ := List.nodup_cons.mp hl
    by_cases hxj : x = j
    · subst hxj
      exact ⟨s, hs, rfl, foldl_kept l (fun s y hy => hne s y (fun h => hx (h ▸ hy))) (f s x)⟩
    · obtain ⟨u, hu, hsame, hfold⟩ := ih hl (List.mem_of_ne_of_mem (Ne.symm hxj) hj) (f s x) (hI s x hs)
      exact ⟨u, hu, hsame.trans (hne s x hxj), hfold⟩

/-! ### Registers with a write of their own -/

/-- The registers of which the unit's own write is all that a write does. -/
def RegName.owns (n : RegName) : Bool :=
  [.sysCommit, .persWord, .pwrReq, .pwrPadRel, .pwrForce, .evtCtrl, .hifRingCtrl, .hifRingBaseLo, .hifRingBaseHi,
   .hifRingSize, .laneGrpCtrl, .portHold, .swResCfg, .bpmQuota, .tcoreSwap, .refPrefT, .refPrefF, .refTempExt, .gnssPosCfg,
   .gnssChCfg, .engSpadPwr, .perfSel, .perfCtl, .pairRole].contains n

theorem State.regAfter_of_owns {k : RegKey} (h : k.name.owns = true) {old : State} (hrun : old.regs.stopped.contains k = false) (s : State) :
    s.regAfter old k = s := by
  have hnot : k ∉ old.regs.stopped := by simpa using hrun
  have hacts : s.regActs old k = s := by
    unfold State.regActs
    split <;> simp_all [RegName.owns]
  have hport : s.frmPort k = none := by
    unfold State.frmPort
    split <;> simp_all [RegName.owns]
  simp [State.regAfter, hacts, hport, hnot]

theorem State.regSet_of_owns {s t : State} {p : Path} {k : RegKey} {v m : Word} (h : k.name.owns = true) (hwritable : s.Writable k)
    (hown : s.regOwn p k v m = some t) : s.regSet p k v m = t.heldGo s := by
  obtain ⟨hpresent, himplemented, hup, hrun⟩ := hwritable
  simp only [State.regSet, hpresent, himplemented, hup, hown, Bool.not_true, Bool.or_self, Bool.false_eq_true, if_false,
    State.regAfter_of_owns h hrun]

/-- A unit's own write that switches no domain is all that a write does. -/
theorem State.regSet_owned {s t : State} {p : Path} {k : RegKey} {v m : Word} (h : k.name.owns = true) (hwritable : s.Writable k)
    (hown : s.regOwn p k v m = some t) (hdown : ∀ k, t.regDown k = s.regDown k) : s.regSet p k v m = t :=
  (State.regSet_of_owns h hwritable hown).trans (State.heldGo_of_same hdown)

/-- What touches no power domain leaves every register where it was, on or off. -/
theorem Touches.regDown {s t : State} {ps : List Part} (h : Touches ps s t) (hv : ps.any (fun q => q.covers .variant) = false)
    (hf : ps.any (fun q => q.covers .fused) = false) (hp : ps.any (fun q => q.covers .pwr) = false) (k : RegKey) :
    t.regDown k = s.regDown k :=
  State.regDown_congr (h .variant hv) (h .fused hf) (congrArg PwrState.dom (h .pwr hp)) k

end Sys2Proof.Machine
end

section
/-! ## The performance counters and the samples (R357 to R361) -/

set_option Elab.async false

namespace Sys2Proof.Machine

/-! ### A word that stands in both copies -/

/-- A register whose two copies hold a word. -/
def State.bothCopies (s : State) (k : RegKey) (w : Word) : State :=
  { s with regs := { s.regs with written := Tab.set s.regs.written k w, applied := Tab.set s.regs.applied k w } }

section BothCopies

variable (s : State) (k : RegKey) (w : Word)

theorem State.bothCopies_stored : (s.bothCopies k w).stored k = w := Tab.get_set_self _ _ _ _

theorem State.bothCopies_others (hk : k.name ≠ .laneGrpMode) : OtherRegs k s (s.bothCopies k w) := by
  have hdflt : ∀ k', (s.bothCopies k w).dflt k' = s.dflt k' := by
    refine State.dflt_congr fun g => ?_
    simp only [State.stored, State.dflt_laneGrpMode]
    exact Tab.get_set_ne _ _ _ _ _ (fun h => hk (h ▸ rfl))
  intro k' hne
  constructor
  · simp only [State.written, hdflt]
    exact Tab.get_set_ne _ _ _ _ _ hne
  · simp only [State.stored, hdflt]
    exact Tab.get_set_ne _ _ _ _ _ hne

end BothCopies

theorem OtherRegs.trans {k : RegKey} {s t u : State} (h : OtherRegs k s t) (g : OtherRegs k t u) : OtherRegs k s u := fun k' hk =>
  ⟨(g k' hk).1.trans (h k' hk).1, (g k' hk).2.trans (h k' hk).2⟩

theorem OtherRegs.of_regs {k : RegKey} {s t u : State} (h : OtherRegs k s t) (hu : u.regs = t.regs) : OtherRegs k s u := by
  intro k' hk
  obtain ⟨hwritten, hstored⟩ := h k' hk
  simp only [State.written, State.stored, State.dflt, State.quadMode, hu] at hwritten hstored ⊢
  exact ⟨hwritten, hstored⟩

theorem and_allBits (v : Word) : v &&& allBits = v := by
  rw [BitVec.and_comm, allBits_and]

/-! ### Clearing and wrapping -/

theorem State.setPc_pcKnown_self (s : State) (e k : Nat) (v : Option Nat) : (s.setPc e k v).pcKnown e k = v := Tab.get_set_self _ _ _ _

theorem State.setPc_pcKnown_ne (s : State) {e k e' k' : Nat} (v : Option Nat) (h : e' = e → k' ≠ k) :
    (s.setPc e k v).pcKnown e' k' = s.pcKnown e' k' :=
  Tab.get_set_ne _ _ _ _ _ (fun hk => h (Prod.mk.inj hk).1 (Prod.mk.inj hk).2)

/-- What CLR leaves of a counter. -/
def State.clearedPc (s : State) (e k : Nat) : Option Nat := if s.perfEvent e k = 0 then some 0 else none

/-- One counter cleared. -/
def State.clearPc (e : Nat) (s : State) (k : Nat) : State := s.setPc e k (s.clearedPc e k)

theorem State.stored_of_regs {s t : State} (h : t.regs = s.regs) (k : RegKey) : t.stored k = s.stored k := by
  simp only [State.stored, State.dflt, State.quadMode, h]
  rfl

theorem State.perfEvent_of_regs {s t : State} (h : t.regs = s.regs) (e k : Nat) : t.perfEvent e k = s.perfEvent e k := by
  simp only [State.perfEvent, State.applied, State.stored, State.dflt, State.quadMode, h]
  rfl

theorem State.perfClr_eq (s : State) (e bits : Nat) :
    s.perfClr e bits = ((List.range 8).filter (fun k => bitAt bits k)).foldl (State.clearPc e) s := rfl

theorem State.perfClr_known (s : State) {e bits k : Nat} (hk : k < 8) (hbit : bitAt bits k = true) :
    (s.perfClr e bits).pcKnown e k = s.clearedPc e k := by
  rw [State.perfClr_eq]
  obtain ⟨u, hu, -, hfold⟩ := foldl_once (f := State.clearPc e) (g := fun t => t.pcKnown e k) (I := fun t => t.regs = s.regs) (j := k)
    (fun t x ht => ht) (fun t x hx => State.setPc_pcKnown_ne t _ (fun _ h => hx h.symm)) ((List.range 8).filter (fun k => bitAt bits k))
    (List.nodup_range.filter _) (by simp [hk, hbit]) s rfl
  refine hfold.trans ((State.setPc_pcKnown_self _ _ _ _).trans ?_)
  simp only [State.clearedPc, State.perfEvent_of_regs hu]

theorem State.perfClr_kept (s : State) {e bits x k : Nat} (h : x = e → (k < 8 → bitAt bits k = false)) :
    (s.perfClr e bits).pcKnown x k = s.pcKnown x k := by
  rw [State.perfClr_eq]
  refine foldl_kept (g := fun t => t.pcKnown x k) _ (fun t y hy => State.setPc_pcKnown_ne t _ fun hx hky => ?_) s
  obtain ⟨hy8, hyb⟩ := List.mem_filter.mp hy
  subst hky
  rw [h hx (List.mem_range.mp hy8)] at hyb
  cases hyb

theorem bitAt_fieldOf_low {v : Word} {k w : Nat} (hk : k < w) : bitAt (fieldOf v 0 w) k = bitAt v.toNat k := by
  simp only [bitAt, fieldOf, bitsOf, pow_zero, Nat.div_one]
  rw [← Nat.toNat_testBit, ← Nat.toNat_testBit, Nat.testBit_mod_two_pow]
  simp [hk]

/-! ### The choice of what is counted -/

section Select

variable {s : State} {e : Nat} {hi : Bool} {v : Word}

theorem perfSel_storedMask (hk : (⟨.perfSel, e, b2n hi⟩ : RegKey).implemented = true) :
    (⟨.perfSel, e, b2n hi⟩ : RegKey).storedMask = allBits := by
  simp only [RegKey.storedMask, RegKey.mask, RegKey.fields, hk, if_true]
  decide

theorem perfSel_waitPoints (hup : s.regDown ⟨.perfSel, e, b2n hi⟩ = false) (hk : (⟨.perfSel, e, b2n hi⟩ : RegKey).implemented = true)
    (m : Word) : s.waitPoints ⟨.perfSel, e, b2n hi⟩ m = [] := by
  have himm : ∀ f, f ∈ (⟨.perfSel, e, b2n hi⟩ : RegKey).touched m → f.apply = .imm := by
    intro f hf
    have hf := List.mem_of_mem_filter hf
    simp only [RegKey.fields, hk, if_true] at hf
    rw [List.mem_singleton.mp hf]
  simp only [State.waitPoints, hup, Bool.false_or]
  rw [List.filter_eq_nil_iff.mpr]
  · rfl
  · intro p hp
    obtain ⟨f, hf, rfl⟩ := List.mem_map.mp hp
    simp [himm f hf]

/-- The choice of one counter takes effect. -/
def State.selectPc (e : Nat) (hi : Bool) (s : State) (j : Nat) : State :=
  let c := 4 * b2n hi + j
  if s.perfEvent e c ≠ 0 then s.setPc e c none
  else if (s.pcKnown e c).isSome then s
  else { s with free := s.free + 1 }.setPc e c (some ((Config.freeWord s.free).toNat))

theorem State.selectPc_regs (s : State) (j : Nat) : (s.selectPc e hi j).regs = s.regs := by
  unfold State.selectPc
  dsimp only
  split
  · rfl
  · split <;> rfl

theorem State.selectPc_touches (s : State) (j : Nat) : Touches [.regs, .free, .eng] s (s.selectPc e hi j) := by
  unfold State.selectPc
  exact Touches.ite ((Touches.refl _ _).setEng rfl rfl) (Touches.ite (Touches.refl _ _)
    (((Touches.refl _ _).set_free rfl).step ((Touches.refl _ _).setEng rfl rfl)))

theorem State.selectPc_pcKnown_ne (s : State) {j k : Nat} (h : j ≠ k) :
    (s.selectPc e hi j).pcKnown e (4 * b2n hi + k) = s.pcKnown e (4 * b2n hi + k) := by
  have hne : 4 * b2n hi + k ≠ 4 * b2n hi + j := by omega
  unfold State.selectPc
  dsimp only
  split
  · exact State.setPc_pcKnown_ne s _ (fun _ => hne)
  · split
    · rfl
    · exact State.setPc_pcKnown_ne _ _ (fun _ => hne)

theorem State.selectPc_counts (s : State) {j : Nat} (h : s.perfEvent e (4 * b2n hi + j) ≠ 0) :
    (s.selectPc e hi j).pcKnown e (4 * b2n hi + j) = none := by
  simp only [State.selectPc, h, ne_eq, not_false_eq_true, if_true]
  exact State.setPc_pcKnown_self _ _ _ _

theorem State.selectPc_stands (s : State) {j : Nat} (h : s.perfEvent e (4 * b2n hi + j) = 0) :
    ((s.selectPc e hi j).pcKnown e (4 * b2n hi + j)).isSome = true ∧ ((s.pcKnown e (4 * b2n hi + j)).isSome = true →
      (s.selectPc e hi j).pcKnown e (4 * b2n hi + j) = s.pcKnown e (4 * b2n hi + j)) := by
  simp only [State.selectPc, h, ne_eq, not_true, if_false]
  split
  · next hk => exact ⟨hk, fun _ => rfl⟩
  · next hk =>
    rw [State.setPc_pcKnown_self]
    exact ⟨rfl, fun h => absurd h hk⟩

/-- PERF_SEL after a write whose codes are all defined. -/
theorem State.perfSel_defined (hw : s.Writable ⟨.perfSel, e, b2n hi⟩) (hcodes : ∀ j, j < 4 → fieldOf v (8 * j) 8 < 0x0C) :
    s.perfSel e hi v allBits = (List.range 4).foldl (State.selectPc e hi)
      (({ s with regs := s.regsAfterWrite ⟨.perfSel, e, b2n hi⟩ v allBits } : State).bothCopies ⟨.perfSel, e, b2n hi⟩ v) := by
  obtain ⟨-, himplemented, hup, -⟩ := hw
  have hstore : s.storeReg ⟨.perfSel, e, b2n hi⟩ v allBits = { s with regs := s.regsAfterWrite ⟨.perfSel, e, b2n hi⟩ v allBits } := by
    simp [State.storeReg, State.pendOverflow, perfSel_waitPoints hup himplemented]
  obtain ⟨hwritten, -⟩ := State.stored_regsAfterWrite (s := s) (k := ⟨.perfSel, e, b2n hi⟩) (v := v) (m := allBits) (w := v) hup (by
    rw [perfSel_storedMask himplemented, allBits_and, and_allBits]
    simp [allBits])
  have hgood : (List.range 4).filter (fun j => decide (0x0C ≤ fieldOf v (8 * j) 8)) = [] := by
    refine List.filter_eq_nil_iff.mpr fun j hj => ?_
    simpa using hcodes j (List.mem_range.mp hj)
  have hword : (v &&& ~~~(0 : Word)) ||| (s.stored ⟨.perfSel, e, b2n hi⟩ &&& 0) = v := merge_zero _ _
  simp only [State.perfSel, hstore, hwritten, hgood, List.foldl_nil, hword, ne_eq, not_true, decide_false, State.raiseIf, Bool.false_eq_true,
    if_false]
  rfl

theorem State.bothCopies_perfEvent (s : State) {j : Nat} (hj : j < 4) :
    (s.bothCopies ⟨.perfSel, e, b2n hi⟩ v).perfEvent e (4 * b2n hi + j) = fieldOf v (8 * j) 8 := by
  have hdiv : (4 * b2n hi + j) / 4 = b2n hi := by omega
  have hmod : (4 * b2n hi + j) % 4 = j := by omega
  have hblock : (⟨.perfSel, e, b2n hi⟩ : RegKey).name.row.block = .perf := rfl
  simp only [State.perfEvent, hdiv, hmod, State.applied, hblock, reduceCtorEq, or_self, and_false, if_false, State.bothCopies_stored]

end Select

/-! ### Wraps and samples -/

/-- A bit of an RC field that is set reads 1. -/
theorem State.bitAt_count_rcSet (s : State) (f : FieldRef) {i k : Nat} (hk : k < f.width) (hfits : f.lo + f.width ≤ 32) :
    bitAt ((s.rcSet f (2 ^ k) i).count f i) k = true := by
  have hlt : 2 ^ k < 2 ^ f.width := Nat.pow_lt_pow_right (by decide) hk
  have hbit : (2 ^ k * 2 ^ f.lo) % 2 ^ 32 = 2 ^ (f.lo + k) := by
    rw [← Nat.pow_add, Nat.add_comm, Nat.mod_eq_of_lt (Nat.pow_lt_pow_right (by decide) (by omega))]
  simp only [State.rcSet, State.count, State.rcWord, Tab.get_set_self, fieldOf, bitsOf, bitAt, Nat.mod_eq_of_lt hlt]
  rw [← Nat.toNat_testBit, Nat.testBit_mod_two_pow, Nat.testBit_div_two_pow, BitVec.toNat_or, Nat.testBit_or, BitVec.toNat_ofNat, hbit]
  simp [hk, Nat.add_comm]

/-- The samples of the engines replaced. -/
def State.withSamples (s : State) (l : List (Nat × Nat × Nat × Nat)) : State := { s with eng := { s.eng with samples := l } }

/-! ### The statement -/

/-- Settles O53. -/
theorem performanceCounters : Obligations.PerformanceCounters := by
  refine ⟨?clear, ?select, ?wrap, ?sample⟩
  case clear =>
    intro s e v hup he hw
    have hrun : s.regSet .pcie ⟨.perfCtl, e, 0⟩ v allBits = s.perfClr e (fieldOf v 0 8) :=
      State.regSet_owned rfl hw (by simp only [State.regOwn, and_allBits]) (State.perfClr_touches (ps := [.eng]) s e _ rfl |>.regDown rfl rfl rfl)
    refine gives_effect (congrArg (effect _ s) hrun) hup (decide_eq_true he) ⟨?_, ?_, ?_, (State.perfClr_touches s e _ rfl).carry⟩
    · intro k hk hbit
      exact s.perfClr_known hk ((bitAt_fieldOf_low hk).trans hbit)
    · intro k hbit
      refine s.perfClr_kept fun _ hk => ?_
      rw [bitAt_fieldOf_low hk]
      exact hbit.resolve_right (by omega)
    · intro x k hx
      exact s.perfClr_kept fun h => absurd h hx
  case select =>
    intro s p e hi v hup hp he hw hcodes
    have hrun : s.regSet p ⟨.perfSel, e, b2n hi⟩ v allBits = s.perfSel e hi v allBits :=
      State.regSet_owned rfl hw (by cases hi <;> rfl) (State.perfSel_touches (ps := evtParts ++ [.regs, .free, .eng, .rc .sysApplyStat]) s e hi v
        allBits rfl |>.regDown rfl rfl rfl)
    have hdown := hw.2.2.1
    have hfold := State.perfSel_defined hw hcodes
    generalize hu : ({ s with regs := s.regsAfterWrite ⟨.perfSel, e, b2n hi⟩ v allBits } : State) = u at hfold
    have hstored : OtherRegs ⟨.perfSel, e, b2n hi⟩ s u ∧ u.eng = s.eng := by
      obtain ⟨-, -, -, hothers, -⟩ := State.stored_regsAfterWrite (s := s) (k := ⟨.perfSel, e, b2n hi⟩) (v := v) (m := allBits) hdown rfl
      exact hu ▸ ⟨hothers, rfl⟩
    have hregs : (s.perfSel e hi v allBits).regs = (u.bothCopies ⟨.perfSel, e, b2n hi⟩ v).regs := by
      rw [hfold]
      exact foldl_kept (g := State.regs) _ (fun t j _ => State.selectPc_regs t j) _
    have hone : ∀ j, j < 4 → ∃ x : State, x.perfEvent e (4 * b2n hi + j) = fieldOf v (8 * j) 8 ∧
        x.pcKnown e (4 * b2n hi + j) = s.pcKnown e (4 * b2n hi + j) ∧
        (s.perfSel e hi v allBits).pcKnown e (4 * b2n hi + j) = (x.selectPc e hi j).pcKnown e (4 * b2n hi + j) := by
      intro j hj
      obtain ⟨x, hx, hsame, hlast⟩ := foldl_once (f := State.selectPc e hi) (g := fun t => t.pcKnown e (4 * b2n hi + j))
        (I := fun t => t.regs = (u.bothCopies ⟨.perfSel, e, b2n hi⟩ v).regs) (j := j) (fun t i ht => (State.selectPc_regs t i).trans ht)
        (fun t i hi => State.selectPc_pcKnown_ne t hi) (List.range 4) List.nodup_range (List.mem_range.mpr hj)
        (u.bothCopies ⟨.perfSel, e, b2n hi⟩ v) rfl
      refine ⟨x, (State.perfEvent_of_regs hx _ _).trans (u.bothCopies_perfEvent hj), hsame.trans ?_, ?_⟩
      · exact congrArg (fun y => Tab.get (some 0) y.pcs (e, 4 * b2n hi + j)) hstored.2
      · rw [hfold]
        exact hlast
    refine gives_effect (congrArg (effect _ s) hrun) hup (by simp [hp, engineNo, he]) ⟨?_, ?_, ?_, ?_, ?_⟩
    · exact (State.stored_of_regs hregs _).trans (u.bothCopies_stored _ _)
    · intro j hj hcode
      obtain ⟨x, hevent, -, hlast⟩ := hone j hj
      exact hlast.trans (x.selectPc_counts (hevent ▸ hcode))
    · intro j hj hcode
      obtain ⟨x, hevent, hsame, hlast⟩ := hone j hj
      obtain ⟨hsome, hkept⟩ := x.selectPc_stands (hevent.trans hcode)
      rw [← hlast] at hsome hkept
      rw [hsame] at hkept
      exact ⟨hsome, hkept⟩
    · exact (hstored.1.trans (u.bothCopies_others _ _ (by simp))).of_regs hregs
    · have hframe : Touches [.regs, .free, .eng] s (s.perfSel e hi v allBits) := by
        have hword : Touches [.regs, .free, .eng] s (u.bothCopies ⟨.perfSel, e, b2n hi⟩ v) := by
          rw [← hu]
          exact (Touches.refl _ _).set_regs rfl
        rw [hfold]
        exact Touches.foldl (fun t j => State.selectPc_touches t j) _ hword
      exact hframe.carry
  case wrap =>
    intro s e k hup he hk hevent
    have hrun : s.perfPcWrap e k = s.rcSet Fld.perfCtl_OVF (2 ^ k) e := by
      simp only [State.perfPcWrap, hevent, if_false]
      rfl
    refine gives_effect (congrArg (effect _ s) hrun) hup (by simp [engineNo, perfCtr, he, hk]) ⟨?_, (State.rcSet_touches s _ _ _ rfl).carry⟩
    exact s.bitAt_count_rcSet Fld.perfCtl_OVF hk (by decide)
  case sample =>
    intro s e a l n c hup he hn hc hen heng hruns
    have hrun : s.perfSampled e a l n = if (joinRecord s.eng.samples (e, a, l, c) (s.apB Fld.perfSampCfg_STOP_FULL)).2
        then (s.withSamples (joinRecord s.eng.samples (e, a, l, c) (s.apB Fld.perfSampCfg_STOP_FULL)).1).bump Fld.perfSampDrop_VAL
        else s.withSamples (joinRecord s.eng.samples (e, a, l, c) (s.apB Fld.perfSampCfg_STOP_FULL)).1 := by
      simp only [State.perfSampled, hn, if_true, State.perfSample, hen, heng, hruns, hc, Bool.not_true, Bool.or_self, Bool.false_eq_true,
        if_false]
      rfl
    have hbump : ∀ r, ((s.withSamples r).bump Fld.perfSampDrop_VAL).count Fld.perfSampDrop_VAL = s.counted Fld.perfSampDrop_VAL :=
      fun r => (s.withSamples r).count_bump Fld.perfSampDrop_VAL 0 1 (by decide)
    refine gives_effect rfl hup (decide_eq_true he) ⟨fun hroom => ?_, fun hfull hstop => ?_, fun hfull hstop => ?_,
      (State.perfSampled_touches s e a l n rfl).carry⟩
    · rw [joinRecord, if_pos hroom] at hrun
      exact congrArg State.eng hrun
    · simp only [joinRecord, Nat.not_lt.mpr hfull, hstop, if_false, if_true] at hrun
      exact ⟨(congrArg State.eng hrun :), (congrArg (fun t : State => t.count Fld.perfSampDrop_VAL) hrun).trans (hbump _)⟩
    · simp only [joinRecord, Nat.not_lt.mpr hfull, hstop, if_false, if_true, Bool.false_eq_true] at hrun
      exact ⟨congrArg State.eng hrun, (congrArg (fun t : State => t.count Fld.perfSampDrop_VAL) hrun).trans (hbump _)⟩

end Sys2Proof.Machine
end

section
/-! ## Timing solutions and the position survey (R304 to R306, R312) -/

set_option Elab.async false

namespace Sys2Proof.Machine

/-! ### What the reference selection leaves of GNSS -/

theorem State.candCheck_gnss (s : State) (id c : Nat) : (s.candCheck id c).gnss = s.gnss :=
  State.candCheck_touches (ps := Part.others .gnss) s id c rfl .gnss rfl

theorem State.timeSample_gnss (s : State) (id : Nat) (o : Int) : (s.timeSample id o).gnss = s.gnss :=
  State.timeSample_touches (ps := Part.others .gnss) s id o rfl .gnss rfl

theorem State.candFail_gnss (s : State) (id c : Nat) : (s.candFail id c).gnss = s.gnss :=
  State.candFail_touches (ps := Part.others .gnss) s id c rfl .gnss rfl

/-- Without a survey a solution adds nothing to one. -/
theorem State.surveyAdd_idle {s : State} (h : s.gnss.survey.run = false) (x : GnssSol) : s.surveyAdd x = s := by
  simp [State.surveyAdd, h]

/-! ### A valid solution -/

/-- GNSS with the solution of its epoch. -/
def State.solvedGnss (s : State) (x : GnssSol) : GnssState :=
  { s.gnss with sol := { x with o := s.solOffset x }, used := (s.solUse x.sky).1, paired := (s.solUse x.sky).2, solEpoch := s.gnss.epochs
                valid := true, validRun := s.gnss.validRun + 1, everValid := true, posSec := some (secOf s.tod) }

/-- The part when a valid solution has been told to GNSS and to the host, and not yet to REF. -/
def State.gnssSolved (s : State) (x : GnssSol) : State :=
  (({ s with gnss := s.solvedGnss x } : State).raiseIf (!s.gnss.valid) Ev.gnssSolution 1 (s.solUse x.sky).1).raiseIf
    (!s.gnss.valid && s.gnss.everValid) Ev.gnssReacq ((s.clk.now - s.gnss.invalidAt) / 10 ^ 9)

/-- The candidates replaced. -/
def State.withCands (s : State) (c : Tab Nat Cand) : State := { s with ref := { s.ref with cands := c } }

/-- A check that passes changes nothing of a qualifying candidate but that none fails (R256). -/
theorem State.candCheck_qualifying {s : State} {id : Nat} (hen : s.candEn id = true) (havail : s.candAvail id = true)
    (hst : (s.cand id).st = .qualifying) :
    s.candCheck id 0 = s.withCands (Tab.set s.ref.cands id { s.cand id with failing := false }) := by
  have hpass : s.candCheck id 0 = s.candPass id := by
    simp only [State.candCheck, hen, havail, Bool.not_true, Bool.false_eq_true, if_false, if_true]
  rw [hpass]
  unfold State.candPass
  dsimp only
  split
  · next h => rw [hst] at h; cases h
  · next h => rw [hst] at h; cases h
  · next h => rw [hst] at h; cases h
  · rfl

/-- A candidate that qualifies and is not selected takes the offset of a sample, which steps nothing. -/
theorem State.timeSample_qualifying {s : State} {id : Nat} {off : Int} (hst : (s.cand id).st = .qualifying) (hsel : s.ref.tsel ≠ some id)
    (hstep : s.ref.stepPend = none) : s.timeSample id off = s.withCands (Tab.set s.ref.cands id ((s.cand id).measured off)) := by
  have hreturn : ∀ c, (s.withCands c).returnCheck id off = s.withCands c := fun c =>
    if_neg (fun h => absurd (hstep.symm.trans h.1) (by simp))
  unfold State.timeSample
  rw [if_pos (.inl hst)]
  have hmeasured := hreturn (Tab.set s.ref.cands id ((s.cand id).measured off))
  refine (if_neg ?_).trans hmeasured
  rintro ⟨h, -⟩
  exact hsel ((congrArg (fun t : State => t.ref.tsel) hmeasured).symm.trans h)

/-- GNSS with the solution of an epoch that is not valid. -/
def State.unsolvedGnss (s : State) (x : GnssSol) : GnssState :=
  { s.gnss with sol := { x with o := s.solOffset x }, used := (s.solUse x.sky).1, paired := (s.solUse x.sky).2, solEpoch := s.gnss.epochs
                valid := false, validRun := 0, invalidAt := if s.gnss.valid then s.clk.now else s.gnss.invalidAt
                survey := { s.gnss.survey with pauseAt := some (s.gnss.survey.pauseAt.getD s.clk.now) } }

section Valid

variable {s : State} {x : GnssSol}

theorem State.gnssSolved_gnss : (s.gnssSolved x).gnss = s.solvedGnss x := rfl

theorem State.gnssSolved_touches : Touches (evtParts ++ [Part.gnss]) s (s.gnssSolved x) :=
  (((Touches.refl _ _).set_gnss rfl).step (State.raiseIf_touches _ _ _ _ _ _ rfl)).step (State.raiseIf_touches _ _ _ _ _ _ rfl)

variable (hon : s.gnssOn = true) (hrun : s.gnss.survey.run = false)
include hon hrun

theorem State.gnssSolutionDone_valid (hvalid : s.solValid x = true) :
    s.gnssSolutionDone x = ((s.gnssSolved x).candCheck 102 (s.standingCause 102)).timeSample 102 (s.solOffset x) := by
  have hsurvey : (s.gnssSolved x).surveyAdd x = s.gnssSolved x := State.surveyAdd_idle (by rw [State.gnssSolved_gnss]; exact hrun) x
  have hcause : (s.gnssSolved x).standingCause 102 = s.standingCause 102 := rfl
  rw [← hcause]
  simp only [State.gnssSolutionDone, hon, hvalid, Bool.not_true, Bool.false_eq_true, if_false]
  exact congrArg (fun t : State => (t.candCheck 102 (t.standingCause 102)).timeSample 102 (s.solOffset x)) hsurvey

omit hrun in
theorem State.gnssSolutionDone_invalid (hvalid : s.solValid x = false) : s.gnssSolutionDone x =
    (({ s with gnss := { s.gnss with sol := { x with o := s.solOffset x }, used := (s.solUse x.sky).1, paired := (s.solUse x.sky).2
                                     solEpoch := s.gnss.epochs } } : State).gnssInvalid).candCheck 102 6 := by
  simp only [State.gnssSolutionDone, hon, hvalid, Bool.not_true, Bool.not_false, Bool.false_eq_true, if_false, if_true]

theorem State.solution_gnss (hvalid : s.solValid x = true) : (s.gnssSolutionDone x).gnss = s.solvedGnss x := by
  rw [State.gnssSolutionDone_valid hon hrun hvalid, State.timeSample_gnss, State.candCheck_gnss, State.gnssSolved_gnss]

/-- A disabled candidate takes nothing from a solution. -/
theorem State.solution_disabled (hvalid : s.solValid x = true) (hst : (s.cand 102).st = .disabled) (hen : s.candEn 102 = false) :
    s.gnssSolutionDone x = s.gnssSolved x := by
  have hst' : ((s.gnssSolved x).cand 102).st = .disabled := hst
  have hen' : (s.gnssSolved x).candEn 102 = false := hen
  have hcheck : (s.gnssSolved x).candCheck 102 (s.standingCause 102) = s.gnssSolved x := by
    simp [State.candCheck, State.candEnable, hen', hst']
  rw [State.gnssSolutionDone_valid hon hrun hvalid, hcheck]
  simp [State.timeSample, hst']

/-- A qualifying candidate that is not awaited takes the offset of a solution. -/
theorem State.solution_qualifying (hvalid : s.solValid x = true) (hst : (s.cand 102).st = .qualifying) (hen : s.candEn 102 = true)
    (havail : s.candAvail 102 = true) (hcause : s.standingCause 102 = 0) (hsel : s.ref.tsel ≠ some 102) (hstep : s.ref.stepPend = none) :
    s.gnssSolutionDone x = (s.gnssSolved x).withCands (Tab.set (Tab.set s.ref.cands 102 { s.cand 102 with failing := false }) 102
      (({ s.cand 102 with failing := false } : Cand).measured (s.solOffset x))) := by
  have hst' : ((s.gnssSolved x).cand 102).st = .qualifying := hst
  have hen' : (s.gnssSolved x).candEn 102 = true := hen
  have havail' : (s.gnssSolved x).candAvail 102 = true := havail
  have hpass : (s.gnssSolved x).candCheck 102 0 = (s.gnssSolved x).withCands (Tab.set s.ref.cands 102 { s.cand 102 with failing := false }) :=
    State.candCheck_qualifying hen' havail' hst'
  have hcand : ((s.gnssSolved x).withCands (Tab.set s.ref.cands 102 { s.cand 102 with failing := false })).cand 102 =
      { s.cand 102 with failing := false } := Tab.get_set_self _ _ _ _
  have href : ((s.gnssSolved x).withCands (Tab.set s.ref.cands 102 { s.cand 102 with failing := false })).ref =
    { s.ref with cands := Tab.set s.ref.cands 102 { s.cand 102 with failing := false } } := rfl
  have hagain : ∀ c c', ((s.gnssSolved x).withCands c).withCands c' = (s.gnssSolved x).withCands c' := fun _ _ => rfl
  rw [State.gnssSolutionDone_valid hon hrun hvalid, hcause, hpass]
  have hgo := State.timeSample_qualifying (s := (s.gnssSolved x).withCands (Tab.set s.ref.cands 102 { s.cand 102 with failing := false }))
    (id := 102) (off := s.solOffset x) (by rw [hcand]; exact hst) (by rw [href]; exact hsel) (by rw [href]; exact hstep)
  rw [hcand, hagain, href] at hgo
  exact hgo

end Valid

/-! ### The survey -/

section PutBoth

variable (s : State) (f : FieldRef) (x i j : Nat)

theorem State.putBoth_stored : (s.putBoth f x i j).stored ⟨f.reg, i, j⟩ = putField (s.stored ⟨f.reg, i, j⟩) f.lo f.width x :=
  Tab.get_set_self _ _ _ _

theorem State.putBoth_others (hf : f.reg ≠ .laneGrpMode) : OtherRegs ⟨f.reg, i, j⟩ s (s.putBoth f x i j) := by
  have hdflt : ∀ k', (s.putBoth f x i j).dflt k' = s.dflt k' := by
    refine State.dflt_congr fun g => ?_
    simp only [State.stored, State.dflt_laneGrpMode]
    exact Tab.get_set_ne _ _ _ _ _ (fun h => hf (congrArg RegKey.name h).symm)
  intro k' hne
  constructor
  · simp only [State.written, hdflt]
    exact Tab.get_set_ne _ _ _ _ _ hne
  · simp only [State.stored, hdflt]
    exact Tab.get_set_ne _ _ _ _ _ hne

/-- The field reads what was put. -/
theorem State.ap_putBoth (hfits : f.lo + f.width ≤ 32) (href : f.reg.row.block ≠ .ref) (htcore : f.reg.row.block ≠ .tcore)
    (hpll : f.reg.row.block ≠ .pll) : (s.putBoth f x i j).ap f i j = x % 2 ^ f.width := by
  rw [State.ap, State.applied_eq_stored href htcore hpll, State.putBoth_stored, fieldOf_putField_self _ _ _ _ hfits]

end PutBoth

/-- A field of a register that stands as it stood reads as it read. -/
theorem State.ap_of_others {s t : State} {k : RegKey} {f : FieldRef} {i j : Nat} (h : OtherRegs k s t) (hk : (⟨f.reg, i, j⟩ : RegKey) ≠ k)
    (href : f.reg.row.block ≠ .ref) (htcore : f.reg.row.block ≠ .tcore) (hpll : f.reg.row.block ≠ .pll) : t.ap f i j = s.ap f i j := by
  rw [State.ap, State.ap, State.applied_eq_stored href htcore hpll, State.applied_eq_stored href htcore hpll, (h _ hk).2]

theorem State.ap_of_regs {s t : State} (h : t.regs = s.regs) (f : FieldRef) (i j : Nat) : t.ap f i j = s.ap f i j := by
  simp only [State.ap, State.applied, State.stored_of_regs h, h]

theorem unsigned_lt (w : Nat) (x : Int) : unsigned w x < 2 ^ w := by
  unfold unsigned
  have hpos : (0 : Int) < (2 ^ w : Nat) := by positivity
  have hlt := Int.emod_lt_of_pos x hpos
  have hnonneg := Int.emod_nonneg x (ne_of_gt hpos)
  omega

/-- The mean of a survey that ends is held as the position (R306). -/
theorem State.surveyHold_holds (s : State) :
    s.surveyHold.ap Fld.gnssPosX_VAL = unsigned 32 s.gnss.survey.mean.1 ∧ s.surveyHold.ap Fld.gnssPosY_VAL = unsigned 32 s.gnss.survey.mean.2.1 ∧
    s.surveyHold.ap Fld.gnssPosZ_VAL = unsigned 32 s.gnss.survey.mean.2.2 ∧ s.surveyHold.ap Fld.gnssPosCfg_POS_MODE = 2 ∧
    s.surveyHold.gnss = { s.gnss with survey := { s.gnss.survey with run := false } } := by
  have hput : ∀ (u : State) (f : FieldRef) (x : Nat), f.reg.row.block = .gnss → f.lo + f.width ≤ 32 → (u.putBoth f x).ap f = x % 2 ^ f.width :=
    fun u f x hb hw => State.ap_putBoth u f x 0 0 hw (by simp [hb]) (by simp [hb]) (by simp [hb])
  have hkeep : ∀ (u : State) (f g : FieldRef) (x : Nat), g.reg.row.block = .gnss → f.reg ≠ .laneGrpMode → g.reg ≠ f.reg →
      (u.putBoth f x).ap g = u.ap g :=
    fun u f g x hb hf hne => State.ap_of_others (State.putBoth_others u f x 0 0 hf) (fun h => hne (congrArg RegKey.name h)) (by simp [hb])
      (by simp [hb]) (by simp [hb])
  have hmod : ∀ y : Int, unsigned 32 y % 2 ^ 32 = unsigned 32 y := fun y => Nat.mod_eq_of_lt (unsigned_lt 32 y)
  have hap : ∀ f : FieldRef, s.surveyHold.ap f = ((((s.putBoth Fld.gnssPosX_VAL (unsigned 32 s.gnss.survey.mean.1)).putBoth
      Fld.gnssPosY_VAL (unsigned 32 s.gnss.survey.mean.2.1)).putBoth Fld.gnssPosZ_VAL (unsigned 32 s.gnss.survey.mean.2.2)).putBoth
      Fld.gnssPosCfg_POS_MODE 2).ap f := fun f => State.ap_of_regs rfl f 0 0
  simp only [hap]
  refine ⟨?_, ?_, ?_, ?_, rfl⟩
  · rw [hkeep _ _ _ _ rfl (by decide) (by decide), hkeep _ _ _ _ rfl (by decide) (by decide), hkeep _ _ _ _ rfl (by decide) (by decide),
      hput _ _ _ rfl (by decide)]
    exact hmod _
  · rw [hkeep _ _ _ _ rfl (by decide) (by decide), hkeep _ _ _ _ rfl (by decide) (by decide), hput _ _ _ rfl (by decide)]
    exact hmod _
  · rw [hkeep _ _ _ _ rfl (by decide) (by decide), hput _ _ _ rfl (by decide)]
    exact hmod _
  · exact hput _ _ _ rfl (by decide)

/-- Settles O47. -/
theorem solutionAndSurvey : Obligations.SolutionAndSurvey := by
  refine ⟨?solution, ?restart, ?finish⟩
  case solution =>
    intro s x y n hup hon hrun hy hn
    subst hy hn
    refine gives_effect rfl hup rfl ⟨fun hvalid => State.solution_gnss hon hrun hvalid, fun hvalid => ?_, fun hst hen hvalid => ?_,
      fun hst hen havail hcause hvalid hsel hstep => ?_, (State.gnssSolutionDone_touches s x rfl).carry⟩
    · have hgnss : (s.gnssSolutionDone x).gnss = s.unsolvedGnss x := by
        rw [State.gnssSolutionDone_invalid hon hvalid, State.candCheck_gnss]
        exact State.candFail_gnss _ _ _
      exact ⟨congrArg GnssState.sol hgnss, congrArg GnssState.used hgnss, congrArg GnssState.paired hgnss, congrArg GnssState.solEpoch hgnss,
        congrArg GnssState.valid hgnss, congrArg GnssState.validRun hgnss, (congrArg GnssState.everValid hgnss :), (congrArg GnssState.chans hgnss :)⟩
    · have hframe : Touches (evtParts ++ [Part.gnss]) s (s.gnssSolutionDone x) := by
        rw [State.solution_disabled hon hrun hvalid hst hen]
        exact State.gnssSolved_touches
      exact hframe.carry
    · have hgo := State.solution_qualifying hon hrun hvalid hst hen havail hcause hsel hstep
      have hframe : Touches (evtParts ++ [Part.gnss, .ref]) s (s.gnssSolutionDone x) := by
        rw [hgo]
        exact (State.gnssSolved_touches.mono rfl).set_ref rfl
      have hcand : (s.gnssSolutionDone x).cand 102 = ({ s.cand 102 with failing := false } : Cand).measured (s.solOffset x) := by
        rw [hgo]
        exact Tab.get_set_self _ _ _ _
      exact ⟨hcand, hframe.carry⟩
  case restart =>
    intro s d hup hwf hact hacc
    have hrun : s.gnssSurvey d = (((s.startCmd d).putBoth Fld.gnssPosCfg_POS_MODE 1).surveyStart).complete d 0xC002 .ok 0
        (((s.startCmd d).putBoth Fld.gnssPosCfg_POS_MODE 1).surveyStart).gnss.survey.bytes := by
      rw [State.gnssSurvey, State.runCmd_accepted_free hacc rfl]
      simp only [hact, if_true]
    have hregs : (s.gnssSurvey d).regs = (s.putBoth Fld.gnssPosCfg_POS_MODE 1).regs := by
      rw [hrun, State.complete_regs, State.startCmd_eq]
      rfl
    have hgnss : (s.gnssSurvey d).gnss = { s.gnss with survey := { run := true, since := s.clk.now } } := by
      rw [hrun, State.complete_gnss, State.startCmd_eq]
      rfl
    have hframe : Touches (cplParts ++ [Part.regs, .gnss]) s (s.gnssSurvey d) := by
      rw [hrun]
      exact (((State.startCmd_touches s d rfl).step (State.putBoth_touches _ _ _ _ _ rfl)).step ((Touches.refl _ _).set_gnss rfl)).step
        (State.complete_touches _ _ _ _ _ _ _ rfl)
    have hmode : (s.gnssSurvey d).ap Fld.gnssPosCfg_POS_MODE = 1 :=
      (State.ap_of_regs hregs _ _ _).trans (State.ap_putBoth s _ 1 0 0 (by decide) (by decide) (by decide) (by decide))
    refine gives_effect rfl hup hwf ⟨hmode, hgnss, ?_, (State.putBoth_others s _ 1 0 0 (by decide)).of_regs hregs, hframe.carry⟩
    rw [State.carry_gnss, hgnss]
    refine (congrArg (fun t : State => t.hif.lastCpl) hrun).trans (State.complete_lastCpl _ _ _ _ _ _ _)
  case finish =>
    intro s d hup hwf hact hacc
    have hrun : s.gnssSurvey d = if s.gnss.survey.n = 0 then (s.startCmd d).complete d 0xC002 .notReady
        else ((s.startCmd d).surveyHold).complete d 0xC002 .ok 0 s.gnss.survey.bytes := by
      rw [State.gnssSurvey, State.runCmd_accepted_free hacc rfl]
      simp only [hact, one_ne_zero, if_false, State.startCmd_gnss]
    by_cases hn : s.gnss.survey.n = 0
    · rw [if_pos hn] at hrun
      have hframe : Touches (cplParts ++ [Part.regs, .gnss]) s (s.gnssSurvey d) := by
        rw [hrun]
        exact State.startComplete_touches s d _ _ _ _ _ rfl
      have hgnss : (s.gnssSurvey d).gnss = s.gnss := by rw [hrun, State.complete_gnss, State.startCmd_gnss]
      have hregs : (s.gnssSurvey d).regs = s.regs := by rw [hrun, State.complete_regs, State.startCmd_regs]
      exact gives_effect rfl hup hwf ⟨fun _ => ⟨hgnss, hregs, (congrArg (fun t : State => t.hif.lastCpl) hrun).trans
        (State.complete_lastCpl _ _ _ _ _ _ _)⟩, fun h => absurd hn h, hframe.carry⟩
    · rw [if_neg hn] at hrun
      have hframe : Touches (cplParts ++ [Part.regs, .gnss]) s (s.gnssSurvey d) := by
        rw [hrun]
        exact ((State.startCmd_touches s d rfl).step (State.surveyHold_touches _ rfl)).step (State.complete_touches _ _ _ _ _ _ _ rfl)
      have hregs : (s.gnssSurvey d).regs = (s.startCmd d).surveyHold.regs := by rw [hrun, State.complete_regs]
      obtain ⟨hx, hy, hz, hmode, hgnss⟩ := (s.startCmd d).surveyHold_holds
      rw [State.startCmd_gnss] at hx hy hz hgnss
      have hap := fun f => State.ap_of_regs hregs f 0 0
      refine gives_effect rfl hup hwf ⟨fun h => absurd h hn, fun _ => ⟨(hap _).trans hx, (hap _).trans hy, (hap _).trans hz,
        (hap _).trans hmode, ?_, (congrArg (fun t : State => t.hif.lastCpl) hrun).trans (State.complete_lastCpl _ _ _ _ _ _ _)⟩, hframe.carry⟩
      rw [State.carry_gnss, hrun, State.complete_gnss, hgnss]

end Sys2Proof.Machine
end

section
/-! ## Carves and rebuilds of the pools (R172 to R175) -/

set_option Elab.async false

namespace Sys2Proof.Machine

/-! ### After a free -/

theorem State.causesClear_bpm (s : State) : ∃ r, s.causesClear.bpm = { s.bpm with reqs := r } := by
  unfold State.causesClear
  generalize (s.bpm.reqs.map (fun e => e.1)).filter (fun r => decide (r ≠ 96)) = l
  suffices h : ∀ u : State, (∃ r, u.bpm = { s.bpm with reqs := r }) → ∃ r, (l.foldl _ u).bpm = { s.bpm with reqs := r } from
    h s ⟨s.bpm.reqs, rfl⟩
  intro u hu
  induction l generalizing u with
  | nil => exact hu
  | cons x l ih =>
    obtain ⟨r, hr⟩ := hu
    refine ih _ ⟨?_, ?_⟩
    rotate_left
    · simp only [State.setReq, hr]
      rfl

theorem State.engRetry_none {s : State} (h : s.bpm.engWait = []) : s.engRetry = s := by
  unfold State.engRetry
  rw [h, List.foldl_nil, ← h]

theorem State.xoffUpdate_bpm (s : State) : s.xoffUpdate.bpm = s.bpm := State.xoffUpdate_touches (ps := Part.others .bpm) s rfl .bpm rfl

section AfterFree

variable {s : State} (h : s.bpm.engWait = [])
include h

theorem State.causesClear_engWait : s.causesClear.bpm.engWait = [] := by
  obtain ⟨r, hr⟩ := s.causesClear_bpm
  rw [hr]
  exact h

/-- While no engine message waits for a buffer, a free clears causes and XOFF states and nothing else. -/
theorem State.afterFree_eq : s.afterFree = s.causesClear.xoffUpdate := by
  rw [State.afterFree, State.engRetry_none (State.causesClear_engWait h)]

theorem State.afterFree_bpm : ∃ r, s.afterFree.bpm = { s.bpm with reqs := r } := by
  rw [State.afterFree_eq h, State.xoffUpdate_bpm]
  exact s.causesClear_bpm

theorem State.afterFree_pools : s.afterFree.bpm.pools = s.bpm.pools := by
  obtain ⟨r, hr⟩ := State.afterFree_bpm h
  rw [hr]

theorem State.afterFree_bufs : s.afterFree.bpm.bufs = s.bpm.bufs := by
  obtain ⟨r, hr⟩ := State.afterFree_bpm h
  rw [hr]

theorem State.afterFree_carve : s.afterFree.bpm.carve = s.bpm.carve := by
  obtain ⟨r, hr⟩ := State.afterFree_bpm h
  rw [hr]

theorem State.afterFree_frame {ps : List Part} (hw : Part.within [.fab, .bpm] ps = true) : Touches ps s s.afterFree := by
  rw [State.afterFree_eq h]
  exact (State.causesClear_touches s (Part.within_trans rfl hw)).step (State.xoffUpdate_touches _ (Part.within_trans rfl hw))

end AfterFree

theorem State.afterFree_hif (s : State) : s.afterFree.hif = s.hif := State.afterFree_touches (ps := Part.others .hif) s rfl .hif rfl

/-! ### Pools -/

theorem State.pool_of_rebuild {s : State} {p : Nat} (h : (s.pool p).rebuild = true) : p < s.bpm.pools.length := by
  by_contra hlen
  rw [State.pool, List.getD_eq_default _ _ (Nat.not_lt.mp hlen)] at h
  cases h

theorem State.setPool_pool_self {s : State} {p : Nat} (h : p < s.bpm.pools.length) (x : Pool) : (s.setPool p x).pool p = x := by
  simp [State.setPool, State.pool, h]

theorem State.setPool_pool_ne (s : State) {p q : Nat} (h : q ≠ p) (x : Pool) : (s.setPool p x).pool q = s.pool q := by
  simp only [State.setPool, State.pool, List.getD_eq_getElem?_getD, List.getElem?_set_ne (Ne.symm h)]

/-- A pool put back as it is. -/
theorem State.setPool_pool (s : State) (p : Nat) : s.setPool p (s.pool p) = s := by
  have hset : s.bpm.pools.set p (s.pool p) = s.bpm.pools := by
    by_cases hp : p < s.bpm.pools.length
    · rw [State.pool, List.getD_eq_getElem _ _ hp, List.set_getElem_self]
    · exact List.set_eq_of_length_le (Nat.not_lt.mp hp)
  rw [State.setPool, hset]

theorem State.queuedFrees_none {s : State} {p : Nat} (h : (s.pool p).waiting = []) : s.queuedFrees p = s := by
  unfold State.queuedFrees
  simp only [h, List.foldl_nil]
  rw [← h]
  exact s.setPool_pool p

/-- The five pools as a carve or a command lists them. -/
theorem pool_map_range {s : State} {f : Nat → Pool} {n : Nat} (h : s.bpm.pools = (List.range 5).map f) (hn : n < 5) : s.pool n = f n := by
  rw [State.pool, h, List.getD_eq_getElem?_getD, List.getElem?_map, List.getElem?_range hn]
  rfl

/-! ### A carve that takes effect -/

/-- The part with the pools of a carve. -/
def State.carvedPools (s : State) (c : Carve) : State :=
  { s with bpm := { s.bpm with carve := none, pools := (List.range 5).map (fun n => (s.pool n).carved (c.pools.getD n (0, 0))) } }

section Effect

variable {s : State} {c : Carve} (hcarve : s.bpm.carve = some c) (heng : s.bpm.engWait = []) (hwait : ∀ n, n < 5 → (s.pool n).waiting = [])

theorem State.carvedPools_pool {n : Nat} (hn : n < 5) : (s.carvedPools c).pool n = (s.pool n).carved (c.pools.getD n (0, 0)) :=
  pool_map_range (s := s.carvedPools c) (f := fun n => (s.pool n).carved (c.pools.getD n (0, 0))) rfl hn

include hcarve hwait

theorem State.carveEffect_eq : s.carveEffect = (((s.carvedPools c).raise Ev.bpmCarveDone).complete c.desc 0xA401 .ok 0
    (leBytes c.initial 4 ++ leBytes 0 4 ++ leBytes ((s.clk.now - c.start) / 1000000) 4)).afterFree := by
  have hfrees : ∀ l : List Nat, (∀ n, n ∈ l → n < 5) → l.foldl (fun s n => s.queuedFrees n) (s.carvedPools c) = s.carvedPools c := by
    intro l
    induction l with
    | nil => exact fun _ => rfl
    | cons n l ih =>
      intro hl
      have hn := hl n List.mem_cons_self
      have hidle : ((s.carvedPools c).pool n).waiting = [] := by
        rw [State.carvedPools_pool hn]
        exact hwait n hn
      rw [List.foldl_cons, State.queuedFrees_none hidle]
      exact ih (fun m hm => hl m (List.mem_cons_of_mem n hm))
  have hgo := hfrees ((List.range 5).filter (fun n => !(((s.carvedPools c).pool n).rebuild)))
    (fun n hn => List.mem_range.mp (List.mem_of_mem_filter hn))
  unfold State.carveEffect
  rw [hcarve]
  exact congrArg (fun t : State => ((t.raise Ev.bpmCarveDone).complete c.desc 0xA401 .ok 0
    (leBytes c.initial 4 ++ leBytes 0 4 ++ leBytes ((s.clk.now - c.start) / 1000000) 4)).afterFree) hgo

include heng

/-- A carve that takes effect: the new pools, and the command completes (R174). -/
theorem State.carveEffect_takes :
    (∀ n, n < 5 → s.carveEffect.pool n = (s.pool n).carved (c.pools.getD n (0, 0))) ∧ s.carveEffect.bpm.carve = none ∧
    Completed c.desc 0xA401 .ok 0 (leBytes c.initial 4 ++ leBytes 0 4 ++ leBytes ((s.clk.now - c.start) / 1000000) 4) s.carveEffect ∧
    Touches (evtParts ++ cplParts ++ [Part.fab, .bpm]) s s.carveEffect := by
  rw [State.carveEffect_eq hcarve hwait]
  generalize leBytes c.initial 4 ++ leBytes 0 4 ++ leBytes ((s.clk.now - c.start) / 1000000) 4 = r
  have hbpm : (((s.carvedPools c).raise Ev.bpmCarveDone).complete c.desc 0xA401 .ok 0 r).bpm = (s.carvedPools c).bpm := by
    rw [State.complete_bpm, State.raise_bpm]
  have hidle : (((s.carvedPools c).raise Ev.bpmCarveDone).complete c.desc 0xA401 .ok 0 r).bpm.engWait = [] := by
    rw [hbpm]
    exact heng
  refine ⟨fun n hn => ?_, ?_, ?_, ?_⟩
  · rw [State.pool, State.afterFree_pools hidle, hbpm]
    exact State.carvedPools_pool hn
  · rw [State.afterFree_carve hidle, hbpm]
    rfl
  · exact (congrArg HifState.lastCpl (State.afterFree_hif _)).trans (State.complete_lastCpl _ _ _ _ _ _ _)
  · have hpools : Touches (evtParts ++ cplParts ++ [Part.fab, .bpm]) s (s.carvedPools c) := (Touches.refl _ _).set_bpm rfl
    exact ((hpools.step (State.raise_touches _ _ _ _ _ rfl)).step (State.complete_touches _ _ _ _ _ _ _ rfl)).step
      (State.afterFree_frame hidle rfl)

end Effect

/-! ### A carve that is asked for -/

/-- The part with a carve to come. -/
def State.carveAsked (s : State) (d : CmdDesc) : State :=
  { s with bpm := { s.bpm with carve := some ⟨d, d.carvePools, s.clk.now, 0, []⟩ } }

/-- A pool that keeps free only what the carve to come leaves it. -/
def State.keptPool (s : State) (p : Nat) : Pool := { s.pool p with freed := (s.pool p).freed.filter (fun i => decide (i < s.keepLimit p)) }

/-- The part with a carve that waits for the buffers in use that it takes away. -/
def State.carveBegun (s : State) (d : CmdDesc) : State :=
  { s.carveAsked d with bpm := { (s.carveAsked d).bpm with
    carve := some ⟨d, d.carvePools, s.clk.now, (s.carveAsked d).retiring, []⟩, pools := (List.range 5).map (s.carveAsked d).keptPool } }

theorem State.carveBegun_pool (s : State) (d : CmdDesc) {n : Nat} (hn : n < 5) : (s.carveBegun d).pool n = (s.carveAsked d).keptPool n :=
  pool_map_range (s := s.carveBegun d) rfl hn

theorem State.retiring_empty {s : State} (h : s.bpm.bufs = []) : s.retiring = 0 := by
  simp [State.retiring, h]

/-! ### A carve that is rolled back -/

/-- A pool of a carve that is rolled back: a buffer withheld is free again, and one that was never taken is taken from the list. -/
def State.restoredPool (s : State) (c : Carve) (p : Nat) : Pool :=
  if (s.pool p).bitmap then s.pool p
  else { s.pool p with fresh := 0, freed := (s.pool p).freed ++ (c.withheld.filter (fun b => bufPool b == p)).map bufIn }

/-- The part with the pools of a carve that is rolled back. -/
def State.rolledBack (s : State) (c : Carve) : State :=
  { s with bpm := { s.bpm with carve := none, pools := (List.range 5).map (s.restoredPool c) } }

theorem State.rolledBack_pool (s : State) (c : Carve) {n : Nat} (hn : n < 5) :
    ((s.rolledBack c).pool n).base = (s.pool n).base ∧ ((s.rolledBack c).pool n).count = (s.pool n).count := by
  rw [pool_map_range (s := s.rolledBack c) (f := s.restoredPool c) rfl hn, State.restoredPool]
  split <;> exact ⟨rfl, rfl⟩

theorem State.carveRollback_eq {s : State} {c : Carve} (hcarve : s.bpm.carve = some c) (hret : s.retiring ≠ 0) :
    s.carveRollback = ((s.rolledBack c).complete c.desc 0xA401 .drainedAbort 0
      (leBytes c.initial 4 ++ leBytes s.retiring 4 ++ leBytes ((s.clk.now - c.start) / 1000000) 4)).afterFree := by
  simp only [State.carveRollback, hcarve, hret, if_false]
  rfl

/-! ### The statement -/

/-- Settles O32. -/
theorem carveAndRebuild : Obligations.CarveAndRebuild := by
  refine ⟨?rebuild, ?carve, ?effect, ?late, ?back⟩
  case rebuild =>
    intro s p hup hp hbuild hwait heng hsent
    have hlen := State.pool_of_rebuild hbuild
    generalize hx : ({ s.pool p with rebuild := false, fresh := 0, freed := [], waiting := [] } : Pool) = x
    have hrun : s.storeRebuildDone p = (s.setPool p x).afterFree := by
      have hfrees : (s.setPool p x).queuedFrees p = s.setPool p x :=
        State.queuedFrees_none (by rw [State.setPool_pool_self hlen, ← hx])
      rw [← hfrees, ← hx, ← hwait]
      simp only [State.storeRebuildDone, hbuild, Bool.not_true, Bool.false_eq_true, if_false]
    have hidle : (s.setPool p x).bpm.engWait = [] := heng
    have hpools : (s.storeRebuildDone p).bpm.pools = (s.setPool p x).bpm.pools := by rw [hrun, State.afterFree_pools hidle]
    have hbufs : (s.storeRebuildDone p).bpm.bufs = s.bpm.bufs := by rw [hrun, State.afterFree_bufs hidle]; rfl
    have hpool : ∀ q, (s.storeRebuildDone p).pool q = (s.setPool p x).pool q := fun q => congrArg (fun l => l.getD q { base := 0, count := 0 }) hpools
    have hframe : Touches [.fab, .bpm] s (s.storeRebuildDone p) := by
      rw [hrun]
      exact ((Touches.refl _ _).set_bpm rfl).step (State.afterFree_frame hidle rfl)
    exact gives_effect rfl hup (decide_eq_true hp) ⟨(hpool p).trans (State.setPool_pool_self hlen x),
      fun q hq => (hpool q).trans (State.setPool_pool_ne s hq x), fun b => congrArg (fun l => Tab.find l b) hbufs, hframe.carry⟩
  case carve =>
    intro s d hup hwf hacc hroom hrsv hnone hbufs heng hwait
    have hrun : s.bpmCarve d = ((s.startCmd d).carveBegun d).carveEffect := by
      have hbpm : (s.startCmd d).bpm = s.bpm := State.startCmd_bpm s d
      have hhr : (s.startCmd d).hrTotal = s.hrTotal := by rw [State.startCmd_eq]; rfl
      have hpct : (s.startCmd d).rsvPct = s.rsvPct := by rw [State.startCmd_eq]; rfl
      rw [State.bpmCarve, State.runCmd_accepted_free hacc rfl]
      generalize s.startCmd d = u at hbpm hhr hpct ⊢
      have hfits : ¬ ((d.carvePools.getD 3 (0, 0)).2 < u.hrTotal + 256 ∨
          (List.range 5).any (fun n => decide ((d.carvePools.getD n (0, 0)).2 * u.rsvPct < (u.pool n).rsv * 100)) = true) := by
        simp only [hhr, hpct, State.pool, hbpm, List.any_eq_true, List.mem_range, decide_eq_true_eq, not_or, not_lt, not_exists, not_and]
        exact ⟨hroom, hrsv⟩
      have hfree : ¬ (u.bpm.carve.isSome = true) := by simp [hbpm, hnone]
      have hret : (u.carveAsked d).retiring = 0 := State.retiring_empty ((congrArg BpmState.bufs hbpm).trans hbufs)
      exact (if_neg hfits).trans ((if_neg hfree).trans (if_pos hret))
    have hpool : ∀ n, n < 5 → ((s.startCmd d).carveBegun d).pool n = ((s.startCmd d).carveAsked d).keptPool n :=
      fun n hn => State.carveBegun_pool _ d hn
    have hsame : ∀ n, (((s.startCmd d).carveAsked d).keptPool n).rsv = (s.pool n).rsv ∧
        (((s.startCmd d).carveAsked d).keptPool n).waiting = (s.pool n).waiting := fun n => by
      simp only [State.keptPool, State.carveAsked, State.pool, State.startCmd_bpm, and_self]
    have hbegun : Touches (evtParts ++ cplParts ++ [Part.fab, .bpm]) s ((s.startCmd d).carveBegun d) :=
      (State.startCmd_touches s d rfl).set_bpm rfl
    have hidle : ((s.startCmd d).carveBegun d).bpm.engWait = [] := (congrArg BpmState.engWait (State.startCmd_bpm s d)).trans heng
    obtain ⟨hpools, hdone, hcpl, hframe⟩ := State.carveEffect_takes (s := (s.startCmd d).carveBegun d)
      (c := ⟨d, d.carvePools, (s.startCmd d).clk.now, ((s.startCmd d).carveAsked d).retiring, []⟩) rfl hidle (fun n hn => by rw [hpool n hn, (hsame n).2, hwait n hn])
    have hbytes : (((s.startCmd d).carveBegun d).clk.now - (s.startCmd d).clk.now) / 1000000 = 0 := by
      rw [show ((s.startCmd d).carveBegun d).clk.now = (s.startCmd d).clk.now from rfl, Nat.sub_self]
    have hret : ((s.startCmd d).carveAsked d).retiring = 0 :=
      State.retiring_empty ((congrArg BpmState.bufs (State.startCmd_bpm s d)).trans hbufs)
    rw [hbytes, hret] at hcpl
    rw [← hrun] at hpools hdone hcpl hframe
    have hcarved : ∀ n, n < 5 → (s.bpmCarve d).pool n =
        (((s.startCmd d).carveAsked d).keptPool n).carved (d.carvePools.getD n (0, 0)) := fun n hn => by rw [hpools n hn, hpool n hn]
    refine gives_effect rfl hup hwf ⟨fun n hn => ⟨congrArg Pool.base (hcarved n hn), congrArg Pool.count (hcarved n hn), ?_, ?_⟩, hdone, hcpl,
      (hbegun.step hframe).carry⟩
    · exact (congrArg Pool.rsv (hcarved n hn)).trans (hsame n).1
    · have hpoolN : ((s.bpmCarve d).carry s).pool n = (((s.startCmd d).carveAsked d).keptPool n).carved (d.carvePools.getD n (0, 0)) := hcarved n hn
      rw [hpoolN]
      rfl
  case effect =>
    intro s c hup hcarve hret heng hwait
    obtain ⟨hpools, hdone, hcpl, hframe⟩ := State.carveEffect_takes hcarve heng hwait
    have hrun : s.carveTakeEffect = s.carveEffect := by simp [State.carveTakeEffect, hcarve, hret]
    rw [← hrun] at hpools hdone hcpl hframe
    exact gives_effect rfl hup rfl ⟨fun n hn => ⟨congrArg Pool.base (hpools n hn), congrArg Pool.count (hpools n hn)⟩, hdone, ⟨_, hcpl⟩,
      hframe.carry⟩
  case late =>
    intro s c hup hcarve hret heng hwait
    obtain ⟨hpools, hdone, hcpl, hframe⟩ := State.carveEffect_takes hcarve heng hwait
    have hrun : s.carveRollback = s.carveEffect := by simp [State.carveRollback, hcarve, hret]
    rw [← hrun] at hpools hdone hcpl hframe
    exact gives_effect rfl hup rfl ⟨fun n hn => ⟨congrArg Pool.base (hpools n hn), congrArg Pool.count (hpools n hn)⟩, hdone, ⟨_, hcpl⟩,
      hframe.carry⟩
  case back =>
    intro s c hup hcarve hret heng
    have hrun := State.carveRollback_eq hcarve hret
    generalize leBytes c.initial 4 ++ leBytes s.retiring 4 ++ leBytes ((s.clk.now - c.start) / 1000000) 4 = r at hrun
    have hbpm : ((s.rolledBack c).complete c.desc 0xA401 .drainedAbort 0 r).bpm = (s.rolledBack c).bpm := State.complete_bpm _ _ _ _ _ _ _
    have hidle : ((s.rolledBack c).complete c.desc 0xA401 .drainedAbort 0 r).bpm.engWait = [] := by
      rw [hbpm]
      exact heng
    have hpools : ∀ n, s.carveRollback.pool n = (s.rolledBack c).pool n := fun n => by
      rw [hrun, State.pool, State.afterFree_pools hidle, hbpm, State.pool]
    have hdone : s.carveRollback.bpm.carve = none := by
      rw [hrun, State.afterFree_carve hidle, hbpm]
      rfl
    have hcpl : Completed c.desc 0xA401 .drainedAbort 0 r s.carveRollback := by
      rw [hrun]
      exact (congrArg HifState.lastCpl (State.afterFree_hif _)).trans (State.complete_lastCpl _ _ _ _ _ _ _)
    have hframe : Touches (cplParts ++ [Part.fab, .bpm]) s s.carveRollback := by
      have hback : Touches (cplParts ++ [Part.fab, .bpm]) s (s.rolledBack c) := (Touches.refl _ _).set_bpm rfl
      rw [hrun]
      exact (hback.step (State.complete_touches _ _ _ _ _ _ _ rfl)).step (State.afterFree_frame hidle rfl)
    refine gives_effect rfl hup rfl ⟨fun n hn => ?_, hdone, ⟨r, hcpl⟩, hframe.carry⟩
    obtain ⟨hbase, hcount⟩ := s.rolledBack_pool c hn
    exact ⟨(congrArg Pool.base (hpools n)).trans hbase, (congrArg Pool.count (hpools n)).trans hcount⟩

end Sys2Proof.Machine
end

section
/-! ## FDB entries: learning, ageing and the entry commands (R181 to R183, R192, R201) -/

set_option Elab.async false

namespace Sys2Proof.Machine

/-! ### Counters -/

/-- A counter that is bumped on the way from `s` to `t`, and touched by nothing else there, has counted once. -/
theorem State.count_bumped {s u t : State} {ps qs : List Part} {f : FieldRef} (hu : Touches ps s u) (ht : Touches qs (u.bump f) t)
    (hps : ps.any (fun q => q.covers (.rc f.reg)) = false) (hqs : qs.any (fun q => q.covers (.rc f.reg)) = false)
    (hfits : f.lo + f.width ≤ 32) : t.count f = s.counted f := by
  have hcount : u.count f = s.count f := State.count_of_rc (hu _ hps)
  rw [State.count_of_rc (ht _ hqs), State.count_bump u f 0 1 hfits, State.counted, State.counted, hcount]

/-! ### Changes of the table -/

/-- The table of entries replaced, and the version of one of them advanced. -/
def State.entriesSet (s : State) (k : EntryKey) (es : Tab (Nat × Nat) FdbEntry) : State :=
  { s.bumpVersion k with fdb := { (s.bumpVersion k).fdb with entries := es } }

section Set

variable (s : State) (k : EntryKey) (es : Tab (Nat × Nat) FdbEntry)

theorem State.entriesSet_entries : (s.entriesSet k es).fdb.entries = es := rfl

theorem State.entriesSet_version : (s.entriesSet k es).fdb.version k = (s.fdb.version k + 1) % 65536 := s.bumpVersion_version k

theorem State.bumpVersion_entries : (s.bumpVersion k).fdb.entries = s.fdb.entries := by
  obtain ⟨v, r, o, w, h⟩ := s.bumpVersion_fdb k
  rw [h]

theorem State.entriesSet_learnQ : (s.entriesSet k es).fdb.learnQ = s.fdb.learnQ := by
  obtain ⟨v, r, o, w, h⟩ := s.bumpVersion_fdb k
  have hq : (s.bumpVersion k).fdb.learnQ = s.fdb.learnQ := by rw [h]
  exact hq

theorem State.entriesSet_touches {ps : List Part} (hw : Part.within (evtParts ++ [.fdb]) ps = true) : Touches ps s (s.entriesSet k es) :=
  (State.bumpVersion_touches s k (Part.within_trans rfl hw)).step
    (((Touches.refl (evtParts ++ [.fdb]) _).set_fdb rfl).mono hw)

theorem State.fdbPut_eq (m v : Nat) (e : FdbEntry) : s.fdbPut m v e = s.entriesSet (.fdb m v) (Tab.set s.fdb.entries (m, v) e) := by
  rw [← s.bumpVersion_entries (.fdb m v)]
  rfl

theorem State.fdbRemove_eq (m v : Nat) : s.fdbRemove m v = s.entriesSet (.fdb m v) (Tab.erase s.fdb.entries (m, v)) := by
  rw [← s.bumpVersion_entries (.fdb m v)]
  rfl

theorem State.fdbInsert_eq (m v : Nat) (e : FdbEntry) :
    s.fdbInsert m v e = (fdbPlace s.fdb.entries (m, v) e 64).map (s.entriesSet (.fdb m v)) := rfl

end Set

/-- A new entry whose buckets are not all taken goes to the first that is empty (R181). -/
theorem fdbPlace_empty {es : Tab (Nat × Nat) FdbEntry} {k : Nat × Nat} {e : FdbEntry} {n a : Nat}
    (h : (fdbBuckets k).find? (fun l => (fdbAt es l).isNone) = some a) :
    fdbPlace es k e n = some (Tab.set es k { e with loc := BitVec.ofNat 32 a }) := by
  cases n <;> simp [fdbPlace, h]

theorem State.fdbMirror_fdb (s : State) (m v p : Nat) (r : Bool) : (s.fdbMirror m v p r).fdb = s.fdb :=
  State.fdbMirror_touches (ps := Part.others .fdb) s m v p r rfl .fdb rfl

theorem State.fdbFull_counts (s : State) : s.fdbFull.count Fld.fdbLearnFail_VAL = s.counted Fld.fdbLearnFail_VAL := by
  have hrest : Touches (evtParts ++ [.fdb]) (s.bump Fld.fdbLearnFail_VAL) s.fdbFull := by
    unfold State.fdbFull
    exact (State.raiseIf_touches _ _ _ _ _ _ rfl).set_fdb rfl
  exact State.count_bumped (Touches.refl [] s) hrest rfl rfl (by decide)

/-! ### Learning (R182) -/

/-- The entries replaced, and no version advanced. -/
def State.entriesKept (s : State) (es : Tab (Nat × Nat) FdbEntry) : State := { s with fdb := { s.fdb with entries := es } }

section Learn

variable {s : State} {l : Learn}

/-- A learn changes at most the entry that it names, but for the moves that a new one brings. -/
theorem State.learn_new {es : Tab (Nat × Nat) FdbEntry} (hnone : s.fdbEntry? l.mac l.vid = none) (hfull : s.fdb.verFull = false)
    (hplace : fdbPlace s.fdb.entries (l.mac, l.vid) { dest := l.port } 64 = some es) :
    s.learn l = ((s.entriesSet (.fdb l.mac l.vid) es).bump Fld.fdbLearnCnt_VAL).fdbMirror l.mac l.vid l.port false := by
  simp only [State.learn, hnone, hfull, Bool.false_eq_true, if_false, State.fdbInsert_eq, hplace, Option.map_some]

theorem State.learn_fails (hnone : s.fdbEntry? l.mac l.vid = none) (hfull : s.fdb.verFull = false)
    (hplace : fdbPlace s.fdb.entries (l.mac, l.vid) { dest := l.port } 64 = none) : s.learn l = s.fdbFull := by
  simp only [State.learn, hnone, hfull, Bool.false_eq_true, if_false, State.fdbInsert_eq, hplace, Option.map_none]

variable {e : FdbEntry} (he : s.fdbEntry? l.mac l.vid = some e)
include he

theorem State.learn_known (hport : e.dest = l.port) (hdyn : e.static = false) : s.learn l =
    if e.mirrored then (s.entriesKept (Tab.set s.fdb.entries (l.mac, l.vid) { e with hit := true, mirrored := false })).fdbMirror l.mac l.vid
      l.port false else s.entriesKept (Tab.set s.fdb.entries (l.mac, l.vid) { e with hit := true, mirrored := false }) := by
  simp only [State.learn, he, hdyn, hport, Bool.false_eq_true, if_false, if_true]
  rfl

theorem State.learn_static (hport : e.dest ≠ l.port) (hstatic : e.static = true) : s.learn l = s.bump Fld.fdbStaticViol_VAL := by
  simp only [State.learn, he, hstatic, hport, if_false, if_true]

theorem State.learn_moves (hport : e.dest ≠ l.port) (hdyn : e.static = false) (hmove : s.apB Fld.fdbCfg_MOVE_EN = true)
    (hfull : s.fdb.verFull = false) : s.learn l = ((s.entriesSet (.fdb l.mac l.vid) (Tab.set s.fdb.entries (l.mac, l.vid)
      { e with dest := l.port, hit := true, mirrored := false })).bump Fld.fdbMoveCnt_VAL).fdbMirror l.mac l.vid l.port false := by
  simp only [State.learn, he, hdyn, hport, hmove, hfull, Bool.not_true, Bool.false_eq_true, if_false, State.fdbPut_eq]

/-- A learn of a source that is known leaves the other entries alone. -/
theorem State.learn_entries : (s.learn l).fdb.entries = s.fdb.entries ∨
    ∃ x, (s.learn l).fdb.entries = Tab.set s.fdb.entries (l.mac, l.vid) x := by
  unfold State.learn
  rw [he]
  dsimp only
  split
  · split
    · exact .inr ⟨_, rfl⟩
    · exact .inl rfl
  · split
    · split
      · exact .inr ⟨_, by rw [State.fdbMirror_fdb]⟩
      · exact .inr ⟨_, rfl⟩
    · split
      · exact .inl rfl
      · split
        · exact .inl rfl
        · refine .inr ⟨{ e with dest := l.port, hit := true, mirrored := false }, ?_⟩
          rw [State.fdbMirror_fdb, State.fdbPut_eq]
          rfl

end Learn

/-- A learn takes nothing from the queues. -/
theorem State.learn_learnQ (s : State) (l : Learn) : (s.learn l).fdb.learnQ = s.fdb.learnQ := by
  unfold State.learn
  split
  · split
    · rfl
    · split
      · next t ht =>
        obtain ⟨es, -, rfl⟩ := Option.map_eq_some_iff.mp ht
        rw [State.fdbMirror_fdb]
        exact State.entriesSet_learnQ s _ es
      · rfl
  · split
    · split <;> rfl
    · split
      · dsimp only
        split
        · rw [State.fdbMirror_fdb]
        · rfl
      · split
        · rfl
        · split
          · rfl
          · rw [State.fdbMirror_fdb, State.fdbPut_eq]
            exact State.entriesSet_learnQ s _ _

/-- The part with the head of a pipeline's queue taken. -/
def State.learnTaken (s : State) (pipe : Nat) (q : List Learn) : State :=
  { s with fdb := { s.fdb with learnQ := Tab.set s.fdb.learnQ pipe q } }

theorem State.fdbLearn_eq {s : State} {pipe : Nat} {l : Learn} {q : List Learn} (h : Tab.get [] s.fdb.learnQ pipe = l :: q) :
    s.fdbLearn pipe = (s.learnTaken pipe q).learn l := by
  simp only [State.fdbLearn, h]
  rfl

/-! ### Ageing (R183) -/

section Age

variable {s : State} {mac vid : Nat} {e : FdbEntry} (he : s.fdbEntry? mac vid = some e) (hage : s.ap Fld.fdbAge_AGE_S ≠ 0)
  (hown : e.mirrored = false)
include he hage hown

theorem State.fdbAgeVisit_eq : s.fdbAgeVisit mac vid =
    if e.hit then s.entriesKept (Tab.set s.fdb.entries (mac, vid) { e with hit := false })
    else if e.static then s
    else if s.fdb.verFull then s.bump Fld.fdbLearnSkip_VAL
    else ((s.entriesSet (.fdb mac vid) (Tab.erase s.fdb.entries (mac, vid))).bump Fld.fdbAgedCnt_VAL).fdbMirror mac vid e.dest true := by
  simp only [State.fdbAgeVisit, he, hage, hown, Bool.false_eq_true, or_self, if_false, State.fdbRemove_eq]
  rfl

theorem State.fdbAgeVisit_others {m v : Nat} (hne : (m, v) ≠ (mac, vid)) : (s.fdbAgeVisit mac vid).fdbEntry? m v = s.fdbEntry? m v := by
  rw [State.fdbAgeVisit_eq he hage hown]
  split
  · exact Tab.find_set_ne _ _ _ _ hne
  · split
    · rfl
    · split
      · rfl
      · rw [State.fdbEntry?, State.fdbMirror_fdb]
        exact Tab.find_erase_ne _ hne

end Age

/-! ### Flushing (R201) -/

/-- The entries of a list removed. -/
def State.entriesRemoved (s : State) (ks : List (Nat × Nat)) : State := ks.foldl (fun s k => s.fdbRemove k.1 k.2) s

theorem State.fdbRemove_entry (s : State) (k : Nat × Nat) (m v : Nat) :
    (s.fdbRemove k.1 k.2).fdbEntry? m v = if (m, v) = k then none else s.fdbEntry? m v := by
  rw [State.fdbRemove_eq]
  split
  · next h =>
    subst h
    exact Tab.find_erase_self _ _
  · next h => exact Tab.find_erase_ne _ h

theorem State.entriesRemoved_entry (s : State) (ks : List (Nat × Nat)) (m v : Nat) :
    (s.entriesRemoved ks).fdbEntry? m v = if (m, v) ∈ ks then none else s.fdbEntry? m v := by
  induction ks generalizing s with
  | nil => rfl
  | cons k ks ih =>
    refine (ih (s.fdbRemove k.1 k.2)).trans ?_
    rw [State.fdbRemove_entry]
    by_cases hk : (m, v) = k
    · simp [hk]
    · simp [hk]

theorem State.entriesRemoved_touches (s : State) (ks : List (Nat × Nat)) : Touches (evtParts ++ [.fdb]) s (s.entriesRemoved ks) := by
  have hone : ∀ (u : State) (k : Nat × Nat), Touches (evtParts ++ [.fdb]) u (u.fdbRemove k.1 k.2) := fun u k =>
    State.fdbRemove_touches u k.1 k.2 rfl
  unfold State.entriesRemoved
  exact Touches.foldl hone ks (Touches.refl _ s)

/-! ### FDB_ADD (R201) -/

/-- FDB_ADD of an entry that has a place: where it stands, and the outcome. -/
theorem State.fdbAdd_places {u : State} {m v : Nat} {e : FdbEntry} (hplace : (u.fdbEntry? m v).isSome = true ∨
      (fdbBuckets (m, v)).any (fun b => (fdbAt u.fdb.entries b).isNone) = true) :
    ∃ a : Word, (∀ old, u.fdbEntry? m v = some old → a = old.loc) ∧
      (match u.fdbEntry? m v with
        | some old => some (u.fdbPut m v { e with loc := old.loc })
        | none => u.fdbInsert m v e) = some (u.entriesSet (.fdb m v) (Tab.set u.fdb.entries (m, v) { e with loc := a })) := by
  cases hold : u.fdbEntry? m v with
  | some old =>
    refine ⟨old.loc, fun x hx => by rw [Option.some.inj hx], ?_⟩
    dsimp only
    rw [State.fdbPut_eq]
  | none =>
    have hany : ((fdbBuckets (m, v)).find? (fun b => (fdbAt u.fdb.entries b).isNone)).isSome = true := by
      rw [List.find?_isSome]
      simpa [hold] using hplace
    obtain ⟨a, ha⟩ := Option.isSome_iff_exists.mp hany
    refine ⟨BitVec.ofNat 32 a, fun x hx => absurd hx (by simp), ?_⟩
    rw [State.fdbInsert_eq, fdbPlace_empty ha]
    rfl

/-! ### The statement -/

theorem State.fdbEntry?_startCmd (s : State) (d : CmdDesc) (m v : Nat) : (s.startCmd d).fdbEntry? m v = s.fdbEntry? m v := by
  simp only [State.fdbEntry?, State.startCmd_fdb]

/-- Settles O33. -/
theorem fdbEntries : Obligations.FdbEntries := by
  refine ⟨?learn, ?age, ?add, ?del, ?lookup, ?flush⟩
  case learn =>
    intro s pipe l q hup hwf hq
    have hrun := State.fdbLearn_eq hq
    have htaken : Touches [.fdb] s (s.learnTaken pipe q) := (Touches.refl _ _).set_fdb rfl
    have hset : ∀ es, Touches (evtParts ++ [.fdb]) s ((s.learnTaken pipe q).entriesSet (.fdb l.mac l.vid) es) := fun es =>
      (htaken.mono rfl).step (State.entriesSet_touches _ _ _ rfl)
    have hmirror : ∀ u : State, Touches (evtParts ++ [.pair, .rc .pairMirOvf]) u (u.fdbMirror l.mac l.vid l.port false) :=
      fun u => State.fdbMirror_touches _ _ _ _ _ rfl
    refine gives_effect rfl hup hwf ⟨?_, ?_, ?_, ?_, ?_, ?_, ?_, ?_, (State.fdbLearn_touches s pipe rfl).carry⟩
    · intro a hnone hfull ha
      have hgo := hrun.trans (State.learn_new (s := s.learnTaken pipe q) hnone hfull (fdbPlace_empty ha))
      have hentries : (s.fdbLearn pipe).fdb.entries = Tab.set s.fdb.entries (l.mac, l.vid) { dest := l.port, loc := BitVec.ofNat 32 a } := by
        rw [hgo, State.fdbMirror_fdb]
        rfl
      have hversion : (s.fdbLearn pipe).fdb.version (.fdb l.mac l.vid) = (s.fdb.version (.fdb l.mac l.vid) + 1) % 65536 := by
        rw [hgo, State.fdbMirror_fdb]
        exact State.entriesSet_version (s.learnTaken pipe q) _ _
      have hcount : (s.fdbLearn pipe).count Fld.fdbLearnCnt_VAL = s.counted Fld.fdbLearnCnt_VAL := by
        rw [hgo]
        exact State.count_bumped (hset _) (hmirror _) rfl rfl (by decide)
      obtain ⟨hthis, hothers⟩ := Tab.find_set_of_ne hentries
      exact ⟨hthis, hversion, hcount, fun m v hne => hothers (m, v) hne⟩
    · intro es hnone hfull hes
      have hgo := hrun.trans (State.learn_new (s := s.learnTaken pipe q) hnone hfull hes)
      have hentries : (s.fdbLearn pipe).fdb.entries = es := by
        rw [hgo, State.fdbMirror_fdb]
        rfl
      have hcount : (s.fdbLearn pipe).count Fld.fdbLearnCnt_VAL = s.counted Fld.fdbLearnCnt_VAL := by
        rw [hgo]
        exact State.count_bumped (hset _) (hmirror _) rfl rfl (by decide)
      exact ⟨hentries, hcount⟩
    · intro hnone hfull hes
      have hgo := hrun.trans (State.learn_fails (s := s.learnTaken pipe q) hnone hfull hes)
      have hentries : (s.fdbLearn pipe).fdb.entries = s.fdb.entries := by rw [hgo]; rfl
      have hcount : (s.fdbLearn pipe).count Fld.fdbLearnFail_VAL = s.counted Fld.fdbLearnFail_VAL := by
        rw [hgo]
        exact State.fdbFull_counts _
      exact ⟨hentries, hcount⟩
    · intro e he hport hdyn
      have hgo := hrun.trans (State.learn_known (s := s.learnTaken pipe q) he hport hdyn)
      have hentries : (s.fdbLearn pipe).fdb.entries = Tab.set s.fdb.entries (l.mac, l.vid) { e with hit := true, mirrored := false } := by
        rw [hgo]
        split
        · rw [State.fdbMirror_fdb]
          rfl
        · rfl
      exact (Tab.find_set_of_ne hentries).1
    · intro e he hport hstatic
      have hgo := hrun.trans (State.learn_static (s := s.learnTaken pipe q) he hport hstatic)
      have hentry : (s.fdbLearn pipe).fdbEntry? l.mac l.vid = some e := by rw [hgo]; exact he
      have hcount : (s.fdbLearn pipe).count Fld.fdbStaticViol_VAL = s.counted Fld.fdbStaticViol_VAL := by
        rw [hgo]
        exact State.count_bumped htaken (Touches.refl [] _) rfl rfl (by decide)
      exact ⟨hentry, hcount⟩
    · intro e he hport hdyn hmove hfull
      have hgo := hrun.trans (State.learn_moves (s := s.learnTaken pipe q) he hport hdyn hmove hfull)
      have hentries : (s.fdbLearn pipe).fdb.entries =
          Tab.set s.fdb.entries (l.mac, l.vid) { e with dest := l.port, hit := true, mirrored := false } := by
        rw [hgo, State.fdbMirror_fdb]
        rfl
      have hcount : (s.fdbLearn pipe).count Fld.fdbMoveCnt_VAL = s.counted Fld.fdbMoveCnt_VAL := by
        rw [hgo]
        exact State.count_bumped (hset _) (hmirror _) rfl rfl (by decide)
      exact ⟨(Tab.find_set_of_ne hentries).1, hcount⟩
    · have hqueue : (s.fdbLearn pipe).fdb.learnQ = Tab.set s.fdb.learnQ pipe q := by
        rw [hrun, State.learn_learnQ]
        rfl
      exact (congrArg (fun x => Tab.get [] x pipe) hqueue).trans (Tab.get_set_self _ _ _ _)
    · intro hknown m v hne
      obtain ⟨e, he⟩ := Option.ne_none_iff_exists'.mp hknown
      have hentry : (s.fdbLearn pipe).fdbEntry? m v = s.fdbEntry? m v := by
        rw [hrun]
        obtain h | ⟨x, h⟩ := State.learn_entries (s := s.learnTaken pipe q) he
        · exact congrArg (fun t => Tab.find t (m, v)) h
        · exact (Tab.find_set_of_ne h).2 (m, v) hne
      exact hentry
  case age =>
    intro s mac vid e hup he hage hown
    have hrun := State.fdbAgeVisit_eq he hage hown
    refine gives_effect rfl hup rfl ⟨fun hhit => ?_, fun hhit hstatic => ?_, fun hhit hdyn hfull => ?_,
      fun m v hne => State.fdbAgeVisit_others he hage hown hne, (State.fdbAgeVisit_touches s mac vid rfl).carry⟩
    · rw [if_pos hhit] at hrun
      exact (Tab.find_set_of_ne (congrArg (fun t : State => t.fdb.entries) hrun)).1
    · simp only [hhit, hstatic, Bool.false_eq_true, if_false, if_true] at hrun
      exact (congrArg (fun t : State => t.fdbEntry? mac vid) hrun).trans he
    · simp only [hhit, hdyn, hfull, Bool.false_eq_true, if_false] at hrun
      have hentries : (s.fdbAgeVisit mac vid).fdb.entries = Tab.erase s.fdb.entries (mac, vid) := by
        rw [hrun, State.fdbMirror_fdb]
        rfl
      have hcount : (s.fdbAgeVisit mac vid).count Fld.fdbAgedCnt_VAL = s.counted Fld.fdbAgedCnt_VAL := by
        rw [hrun]
        exact State.count_bumped (State.entriesSet_touches (ps := evtParts ++ [.fdb]) s _ _ rfl)
          (State.fdbMirror_touches (ps := evtParts ++ [.pair, .rc .pairMirOvf]) _ _ _ _ _ rfl) rfl rfl (by decide)
      exact ⟨(Tab.find_of_erase hentries).1, hcount⟩
  case add =>
    intro s d hup hwf hacc hver hplace
    obtain ⟨a, hloc, hgo⟩ := State.fdbAdd_places (u := s.startCmd d) (m := d.mac 12) (v := d.arg 18 2)
      (e := { dest := d.arg 20 2, static := d.arg 22 1 == 1 })
      (by simpa only [State.fdbEntry?_startCmd, State.startCmd_fdb] using hplace)
    generalize ht : (s.startCmd d).entriesSet (.fdb (d.mac 12) (d.arg 18 2))
      (Tab.set (s.startCmd d).fdb.entries (d.mac 12, d.arg 18 2) { dest := d.arg 20 2, static := d.arg 22 1 == 1, loc := a }) = t at hgo
    have hentries : t.fdb.entries = Tab.set s.fdb.entries (d.mac 12, d.arg 18 2)
        { dest := d.arg 20 2, static := d.arg 22 1 == 1, loc := a } := by
      rw [← ht, State.entriesSet_entries, State.startCmd_fdb]
    obtain ⟨hthis, hothers⟩ := Tab.find_set_of_ne hentries
    have hversion : t.fdb.version (.fdb (d.mac 12) (d.arg 18 2)) = (s.fdb.version (.fdb (d.mac 12) (d.arg 18 2)) + 1) % 65536 := by
      rw [← ht, State.entriesSet_version, State.startCmd_fdb]
    have hrun : s.fdbAdd d = t.complete d 0xA801 .ok 0
        (leBytes a.toNat 4 ++ leBytes ((s.fdb.version (.fdb (d.mac 12) (d.arg 18 2)) + 1) % 65536) 2) := by
      have hbytes : (t.fdbEntry? (d.mac 12) (d.arg 18 2)).elim 0 (fun x => x.loc.toNat) = a.toNat := by
        rw [State.fdbEntry?, hthis]
        rfl
      rw [← hversion, ← hbytes, State.fdbAdd, State.runCmd_accepted_free hacc rfl]
      simp only [State.verBusy_startCmd, hver, Bool.false_eq_true, if_false]
      cases hold : (s.startCmd d).fdbEntry? (d.mac 12) (d.arg 18 2) with
      | some old =>
        rw [hold] at hgo
        dsimp only at hgo ⊢
        exact congrArg (fun u : State => u.complete d 0xA801 .ok 0 (leBytes ((u.fdbEntry? (d.mac 12) (d.arg 18 2)).elim 0
          (fun x => x.loc.toNat)) 4 ++ leBytes (u.fdb.version (.fdb (d.mac 12) (d.arg 18 2))) 2)) (Option.some.inj hgo)
      | none =>
        rw [hold] at hgo
        dsimp only at hgo ⊢
        rw [hgo]
    have hfdb : (s.fdbAdd d).fdb = t.fdb := by rw [hrun, State.complete_fdb]
    have hframe : Touches (evtParts ++ cplParts ++ [Part.fdb]) s (s.fdbAdd d) := by
      rw [hrun, ← ht]
      exact ((State.startCmd_touches s d rfl).step (State.entriesSet_touches _ _ _ rfl)).step (State.complete_touches _ _ _ _ _ _ _ rfl)
    refine gives_effect rfl hup hwf ⟨⟨a, ?_, fun old hold => hloc old (by rw [State.fdbEntry?_startCmd]; exact hold),
      (congrArg (fun u : State => u.hif.lastCpl) hrun).trans (State.complete_lastCpl _ _ _ _ _ _ _)⟩, fun m v hne => ?_, hframe.carry⟩
    · exact (congrArg (fun x : FdbState => Tab.find x.entries (d.mac 12, d.arg 18 2)) hfdb).trans hthis
    · exact (congrArg (fun x : FdbState => Tab.find x.entries (m, v)) hfdb).trans (hothers (m, v) hne)
  case del =>
    intro s d hup hwf hacc hver
    have hrun : s.fdbDel d = ((s.startCmd d).fdbRemove (d.mac 12) (d.arg 18 2)).complete d 0xA802 .ok 0
        (leBytes (((s.startCmd d).fdbRemove (d.mac 12) (d.arg 18 2)).fdb.version (.fdb (d.mac 12) (d.arg 18 2))) 2) := by
      rw [State.fdbDel, State.runCmd_accepted_free hacc rfl]
      simp only [State.verBusy_startCmd, hver, Bool.false_eq_true, if_false]
    have hversion : ((s.startCmd d).fdbRemove (d.mac 12) (d.arg 18 2)).fdb.version (.fdb (d.mac 12) (d.arg 18 2)) =
        (s.fdb.version (.fdb (d.mac 12) (d.arg 18 2)) + 1) % 65536 := by
      rw [State.fdbRemove_eq]
      exact (State.entriesSet_version _ _ _).trans (by rw [State.startCmd_fdb])
    have hentry : ∀ m v, (s.fdbDel d).fdbEntry? m v = if (m, v) = (d.mac 12, d.arg 18 2) then none else s.fdbEntry? m v := fun m v => by
      rw [hrun, State.fdbEntry?, State.complete_fdb]
      exact (State.fdbRemove_entry _ (d.mac 12, d.arg 18 2) m v).trans (by rw [State.fdbEntry?_startCmd])
    have hcpl : Completed d 0xA802 .ok 0 (leBytes ((s.fdb.version (.fdb (d.mac 12) (d.arg 18 2)) + 1) % 65536) 2) (s.fdbDel d) := by
      rw [hrun, hversion]
      exact State.complete_lastCpl _ _ _ _ _ _ _
    have hframe : Touches (evtParts ++ cplParts ++ [Part.fdb]) s (s.fdbDel d) := by
      rw [hrun]
      exact ((State.startCmd_touches s d rfl).step (State.fdbRemove_touches _ _ _ rfl)).step (State.complete_touches _ _ _ _ _ _ _ rfl)
    exact gives_effect rfl hup hwf ⟨(hentry _ _).trans (if_pos rfl), hcpl, fun m v hne => (hentry m v).trans (if_neg hne), hframe.carry⟩
  case lookup =>
    intro s d hup hwf hacc
    have hcompletes : ∀ r, s.fdbLookup d = (s.startCmd d).complete d 0xA803 .ok 0 r →
        Completed d 0xA803 .ok 0 r (s.fdbLookup d) ∧ Touches cplParts s (s.fdbLookup d) := fun r hrun => by
      rw [hrun]
      exact ⟨State.complete_lastCpl _ _ _ _ _ _ _, State.startComplete_touches s d _ _ _ _ _ rfl⟩
    cases hfound : s.fdbEntry? (d.mac 12) (d.arg 18 2) with
    | some e =>
      obtain ⟨hcpl, hframe⟩ := hcompletes (leBytes e.dest 2 ++ leBytes (b2n e.static + 2 * b2n e.hit) 2 ++
          leBytes (s.fdb.version (.fdb (d.mac 12) (d.arg 18 2))) 2) (by
        rw [State.fdbLookup, State.runCmd_accepted_free hacc rfl]
        simp only [State.fdbEntry?_startCmd, State.startCmd_fdb, hfound])
      exact gives_effect rfl hup hwf ⟨fun x hx => Option.some.inj hx ▸ hcpl, fun h => absurd h (by simp), hframe.carry⟩
    | none =>
      obtain ⟨hcpl, hframe⟩ := hcompletes (leBytes 0xFFFFFFFF 4) (by
        rw [State.fdbLookup, State.runCmd_accepted_free hacc rfl]
        simp only [State.fdbEntry?_startCmd, hfound])
      exact gives_effect rfl hup hwf ⟨fun x hx => absurd hx (by simp), fun _ => hcpl, hframe.carry⟩
  case flush =>
    intro s d hup hwf hacc hret hlen hfull
    generalize hks : (s.fdb.entries.filter (fdbFlushTakes d)).map (fun e => e.1) = ks
    have hbusy : s.verBusy (ks.map (fun k => .fdb k.1 k.2)) = false := by
      have hfew : ((ks.map (fun k : Nat × Nat => EntryKey.fdb k.1 k.2)).filter (fun k => decide (s.usersOf k ≠ []))).length ≤ 4096 := by
        refine (List.length_filter_le _ _).trans ?_
        rw [List.length_map, ← hks, List.length_map]
        exact (List.length_filter_le _ _).trans hlen
      simp only [State.verBusy, hfull, hret, List.length_nil, Nat.zero_add, Bool.false_or, decide_eq_false_iff_not, Nat.not_lt]
      exact hfew
    have hrun : s.fdbFlush d = ((s.startCmd d).entriesRemoved ks).complete d 0xA804 .ok 0 (leBytes ks.length 4) := by
      have htakes : (fun e : (Nat × Nat) × FdbEntry => (d.arg 12 2 == 0xFFFF || e.2.dest == d.arg 12 2) &&
          (d.arg 14 2 == 0xFFFF || e.1.2 == d.arg 14 2) && (d.arg 16 1 == 1 || !e.2.static)) = fdbFlushTakes d := rfl
      rw [State.fdbFlush, State.runCmd_accepted_free hacc rfl]
      simp only [State.startCmd_fdb, htakes, hks, State.verBusy_startCmd, hbusy, Bool.false_eq_true, if_false]
      rfl
    have hentry : ∀ m v, (s.fdbFlush d).fdbEntry? m v = if (m, v) ∈ ks then none else s.fdbEntry? m v := fun m v => by
      rw [hrun, State.fdbEntry?, State.complete_fdb]
      exact ((s.startCmd d).entriesRemoved_entry ks m v).trans (by rw [State.fdbEntry?_startCmd])
    have hframe : Touches (evtParts ++ cplParts ++ [Part.fdb]) s (s.fdbFlush d) := by
      rw [hrun]
      exact ((State.startCmd_touches s d rfl).step ((State.entriesRemoved_touches _ ks).mono rfl)).step
        (State.complete_touches _ _ _ _ _ _ _ rfl)
    refine gives_effect rfl hup hwf ⟨fun x hx htake => ?_, fun m v hnot => ?_,
      ⟨_, (congrArg (fun u : State => u.hif.lastCpl) hrun).trans (State.complete_lastCpl _ _ _ _ _ _ _)⟩, hframe.carry⟩
    · refine (hentry _ _).trans (if_pos ?_)
      rw [← hks]
      exact List.mem_map.mpr ⟨x, List.mem_filter.mpr ⟨hx, htake⟩, rfl⟩
    · refine (hentry m v).trans (if_neg fun hmem => ?_)
      rw [← hks] at hmem
      obtain ⟨x, hx, hkey⟩ := List.mem_map.mp hmem
      obtain ⟨hmem, htake⟩ := List.mem_filter.mp hx
      rw [hnot x hmem hkey] at htake
      cases htake

end Sys2Proof.Machine
end

section
/-! ## Words of bytes and memories that are written -/

set_option Elab.async false

namespace Sys2Proof.Machine

theorem leAt_cons (b : Byte) (l : List Byte) (n k : Nat) : leAt (b :: l) (n + 1) k = leAt l n k := by
  induction k generalizing n with
  | zero => rfl
  | succ k ih =>
    simp only [leAt, ih]
    rfl

theorem leAt_drop (l : List Byte) (n i k : Nat) : leAt (l.drop n) i k = leAt l (n + i) k := by
  induction k generalizing i with
  | zero => rfl
  | succ k ih =>
    simp only [leAt, ih, byteAt, List.getD_eq_getElem?_getD, List.getElem?_drop, Nat.add_assoc]

theorem Tab.get_eq_find {κ α : Type} [DecidableEq κ] (d : α) (t : Tab κ α) (k : κ) : Tab.get d t k = (Tab.find t k).getD d := by
  induction t with
  | nil => rfl
  | cons e t ih =>
    obtain ⟨a, b⟩ := e
    by_cases ha : a = k
    · simp [Tab.get, Tab.find, ha]
    · simp [Tab.get, Tab.find, ha, ih]

/-- A number written in little-endian bytes reads back, as far as they hold it. -/
theorem leAt_leBytes (v k : Nat) : leAt (leBytes v k) 0 k = v % 256 ^ k := by
  induction k generalizing v with
  | zero => simp [leAt, Nat.mod_one]
  | succ k ih =>
    simp only [leBytes, leAt]
    rw [leAt_cons, ih, Nat.pow_succ', Nat.mod_mul]
    rfl

theorem leAt_lt (l : List Byte) (n k : Nat) : leAt l n k < 256 ^ k := by
  induction k generalizing n with
  | zero => exact Nat.one_pos
  | succ k ih =>
    have hbyte : byteAt l n < 256 := (l.getD n 0).isLt
    have hrest := ih (n + 1)
    simp only [leAt, Nat.pow_succ']
    omega

theorem leBytes_length (v k : Nat) : (leBytes v k).length = k := by
  induction k generalizing v with
  | zero => rfl
  | succ k ih => simp [leBytes, ih]

/-- Bytes that are written read back. -/
theorem Memory.reads_writes {d : Byte} {m : List Host.Cell} (hm : Memory.wf d m = true) (a : Nat) (l : List Byte) :
    Memory.reads d (Memory.writes d m a l) a l.length = l := by
  induction l generalizing m a with
  | nil => rfl
  | cons b l ih =>
    have hhead : Memory.read d (Memory.writes d (Memory.write d m a b) (a + 1) l) a = b := by
      rw [Memory.read_writes_out _ _ _ _ _ (.inl (Nat.lt_succ_self a)), Memory.read_write_self d m a b hm]
    simp only [Memory.writes, List.length_cons, Memory.reads, hhead, ih (Memory.write_wf d m a b hm)]

/-- Bytes read are what stands at their addresses. -/
theorem Memory.reads_congr {d : Byte} {m m' : List Host.Cell} {a n : Nat}
    (h : ∀ x, a ≤ x → x < a + n → Memory.read d m x = Memory.read d m' x) : Memory.reads d m a n = Memory.reads d m' a n := by
  induction n generalizing a with
  | zero => rfl
  | succ n ih =>
    simp only [Memory.reads]
    rw [h a (Nat.le_refl a) (by omega), ih fun x hx hx' => h x (by omega) (by omega)]

theorem Memory.reads_add (d : Byte) (m : List Host.Cell) (a i j : Nat) :
    Memory.reads d m a (i + j) = Memory.reads d m a i ++ Memory.reads d m (a + i) j := by
  induction i generalizing a with
  | zero => simp [Memory.reads]
  | succ i ih =>
    rw [Nat.succ_add]
    simp only [Memory.reads, ih, List.cons_append]
    rw [show a + 1 + i = a + (i + 1) by omega]

theorem Memory.read_clear (m : List Host.Cell) (lo hi x : Nat) :
    Memory.read 0 (Memory.clear m lo hi) x = if x < lo ∨ hi ≤ x then Memory.read 0 m x else 0 := by
  unfold Memory.read Memory.clear
  induction m with
  | nil => simp [Tab.get]
  | cons c m ih =>
    obtain ⟨a, b⟩ := c
    by_cases hkeep : a < lo ∨ hi ≤ a
    · rw [List.filter_cons_of_pos (by simpa using hkeep)]
      by_cases ha : a = x
      · subst ha
        simp [Tab.get, hkeep]
      · simpa [Tab.get, ha] using ih
    · rw [List.filter_cons_of_neg (by simpa using hkeep), ih]
      by_cases ha : a = x
      · subst ha
        simp [hkeep]
      · simp [Tab.get, ha]

end Sys2Proof.Machine
end

section
/-! ## SPAD (R21, R352 to R356) -/

set_option Elab.async false

namespace Sys2Proof.Machine

/-! ### Frames -/

/-- What leaves the engines as they are, but for SPAD, touches SPAD alone of them. -/
theorem Touches.without_eng {ps : List Part} {s t : State} (h : Touches (.eng :: ps) s t) (he : Part.eng.same s t) : Touches ps s t := by
  intro p hp
  by_cases hpe : p = .eng
  · exact hpe ▸ he
  · refine h p ?_
    rw [List.any_cons, hp]
    simp [Part.covers, Ne.symm hpe]

/-- What leaves EVT, the registers and the clocks leaves what an event makes of EVT. -/
theorem Touches.sameEvt {ps : List Part} {s t : State} (h : Touches ps s t)
    (hps : ([Part.evt, .clk, .tcore, .regs].all fun p => !(ps.any fun q => q.covers p)) = true) : SameEvt s t := by
  simp only [List.all_cons, List.all_nil, Bool.and_true, Bool.and_eq_true, Bool.not_eq_true'] at hps
  obtain ⟨hevt, hclk, htcore, hregs⟩ := hps
  have hstored := State.stored_of_regs (h .regs hregs)
  exact ⟨h .evt hevt, h .clk hclk, h .tcore htcore, hstored _, fun b => hstored _⟩

/-! ### A word that is put -/

section Put

variable (s : State) (o v : Nat)

theorem State.putSpad_spad_only : Touches [.spad] s (s.putSpad o v) :=
  (State.putSpad_touches s o v rfl).without_eng rfl

theorem State.putSpad_word_self (h : s.memWf) : (s.putSpad o v).spadWord o = v % 2 ^ 32 := by
  have hread := Memory.reads_writes h.1 o (leBytes v 4)
  rw [leBytes_length] at hread
  exact (congrArg (fun l => leAt l 0 4) hread).trans (leAt_leBytes v 4)

theorem State.putSpad_read_out {a : Nat} (h : a < o ∨ o + 4 ≤ a) :
    Memory.read 0 (s.putSpad o v).eng.spad a = Memory.read 0 s.eng.spad a :=
  Memory.read_writes_out _ _ _ _ _ (by rwa [leBytes_length])

theorem State.putSpad_memWf (h : s.memWf) : (s.putSpad o v).memWf := ⟨Memory.writes_wf _ _ _ _ h.1, h.2⟩

theorem State.putSpad_bankOn (b : Nat) : (s.putSpad o v).bankOn b = s.bankOn b := rfl

end Put

/-- A word of SPAD reads as its four bytes do. -/
theorem State.spadWord_congr {s t : State} {o : Nat}
    (h : ∀ a, o ≤ a → a < o + 4 → Memory.read 0 t.eng.spad a = Memory.read 0 s.eng.spad a) : t.spadWord o = s.spadWord o :=
  congrArg (fun l => leAt l 0 4) (Memory.reads_congr h)

/-! ### The host's writes -/

/-- The time of the last ENG_SPAD_BANK_OFF. -/
def State.noteBankOff (s : State) : State := { s with eng := { s.eng with bankOffAt := some s.clk.now } }

theorem State.noteBankOff_touches (s : State) : Touches [.eng] s s.noteBankOff := (Touches.refl _ s).setEng rfl rfl

section Write

variable {s : State} {o : Nat}

theorem State.portA_idle : s.portA o .idle = s := by simp [State.portA]

theorem State.portA_on {a : PortA} (hon : s.bankOn (o / 262144) = true) (ha : a ≠ .idle) :
    s.portA o a = s.putSpad o (a.apply (s.spadWord o)) := by
  simp [State.portA, hon, ha]

variable (hfw : s.bankFw (o / 262144) = false) (hon : s.bankOn (o / 262144) = true)
include hfw hon

theorem State.spadWrite_alone (b : PortA) : s.spadWrite o .idle b = s.putSpad o (b.apply (s.spadWord o)) := by
  simp only [State.spadWrite, hfw, hon, Bool.not_true, Bool.false_eq_true, if_false, State.portA_idle]

theorem State.spadWrite_lost (w : Word) (b : PortA) : s.spadWrite o (.write w) b =
    ((s.putSpad o w.toNat).bump Fld.engSpadLost_VAL).raise Ev.engSpadWriteLost o := by
  simp only [State.spadWrite, hfw, hon, Bool.not_true, Bool.false_eq_true, if_false, State.portA_on hon (a := .write w) (by simp), PortA.apply]

/-- A write alone in its cycle leaves the word that it makes, and nothing else of SPAD changes. -/
theorem State.spadWrite_gives (hm : s.memWf) (b : PortA) {x : Nat} (hx : b.apply (s.spadWord o) = x) (hlt : x < 2 ^ 32) :
    (s.spadWrite o .idle b).spadWord o = x ∧
    (∀ a, (a < o ∨ o + 4 ≤ a) → Memory.read 0 (s.spadWrite o .idle b).eng.spad a = Memory.read 0 s.eng.spad a) ∧
    Touches [.spad] s (s.spadWrite o .idle b) := by
  rw [State.spadWrite_alone hfw hon, hx]
  exact ⟨(s.putSpad_word_self o x hm).trans (Nat.mod_eq_of_lt hlt), fun a ha => s.putSpad_read_out o x ha, s.putSpad_spad_only o x⟩

end Write

/-! ### Copies (R356) -/

/-- The words of some bytes, put in ascending order. -/
def State.putWords (s : State) (o : Nat) (data : List Byte) : Nat → State
  | 0 => s
  | n + 1 => (s.putSpad o (leAt data 0 4)).putWords (o + 4) (data.drop 4) n

theorem State.dmaIn_on {s : State} {o : Nat} {data : List Byte} {n : Nat} (h : ∀ i, i < n → s.bankOn ((o + 4 * i) / 262144) = true)
    (x : Nat × Option Nat × Nat) : State.dmaIn (s, x) o data [] n = (s.putWords o data n, x) := by
  induction n generalizing s o data with
  | zero => rfl
  | succ n ih =>
    have hfirst : s.bankOn (o / 262144) = true := h 0 (Nat.succ_pos n)
    have hword : State.dmaWord (s, x) o (leAt data 0 4) (Tab.find [] o) = (s.putSpad o (leAt data 0 4), x) := by
      simp only [State.dmaWord, hfirst, Tab.find, Bool.not_true, Bool.false_eq_true, if_false]
    simp only [State.dmaIn, hword, State.putWords]
    refine ih fun i hi => ?_
    rw [State.putSpad_bankOn, show o + 4 + 4 * i = o + 4 * (i + 1) by omega]
    exact h (i + 1) (by omega)

theorem State.putWords_read_out (s : State) (o : Nat) (data : List Byte) (n a : Nat) (h : a < o ∨ o + 4 * n ≤ a) :
    Memory.read 0 (s.putWords o data n).eng.spad a = Memory.read 0 s.eng.spad a := by
  induction n generalizing s o data with
  | zero => rfl
  | succ n ih =>
    rw [State.putWords, ih _ _ _ (by omega)]
    exact State.putSpad_read_out _ _ _ (by omega)

theorem State.putWords_word (s : State) (hm : s.memWf) (o : Nat) (data : List Byte) (n i : Nat) (hi : i < n) :
    (s.putWords o data n).spadWord (o + 4 * i) = leAt data (4 * i) 4 := by
  induction n generalizing s o data i with
  | zero => cases hi
  | succ n ih =>
    cases i with
    | zero =>
      rw [State.putWords]
      refine (State.spadWord_congr fun a ha ha' => State.putWords_read_out _ _ _ _ a (.inl (by omega))).trans ?_
      exact (s.putSpad_word_self o _ hm).trans (Nat.mod_eq_of_lt (leAt_lt data 0 4))
    | succ i =>
      have hnext := ih (s.putSpad o (leAt data 0 4)) (State.putSpad_memWf _ _ _ hm) (o + 4) (data.drop 4) i (by omega)
      rw [leAt_drop, show o + 4 + 4 * i = o + 4 * (i + 1) by omega, show 4 + 4 * i = 4 * (i + 1) by omega] at hnext
      exact hnext

theorem State.putWords_touches (s : State) (o : Nat) (data : List Byte) (n : Nat) : Touches [.spad] s (s.putWords o data n) := by
  induction n generalizing s o data with
  | zero => exact Touches.refl _ _
  | succ n ih => exact (s.putSpad_spad_only o _).step (ih _ _ _)

theorem State.dmaRead_on {s : State} {o n : Nat} (h : ∀ i, i < n → s.bankOn ((o + 64 * i) / 262144) = true) :
    s.dmaRead o n = s.spadBytes o (64 * n) := by
  induction n generalizing o with
  | zero => rfl
  | succ n ih =>
    have hfirst : s.bankOn (o / 262144) = true := h 0 (Nat.succ_pos n)
    have hrest := ih (o := o + 64) fun i hi => by
      rw [show o + 64 + 64 * i = o + 64 * (i + 1) by omega]
      exact h (i + 1) (by omega)
    rw [State.dmaRead, if_pos hfirst, hrest, Nat.mul_succ, Nat.add_comm (64 * n)]
    exact (Memory.reads_add _ _ _ _ _).symm

theorem State.dmaOff_on {s : State} {o n : Nat} (h : ∀ i, i < n → s.bankOn ((o + 4 * i) / 262144) = true) : s.dmaOff o n = s := by
  induction n generalizing o with
  | zero => rfl
  | succ n ih =>
    have hfirst : s.bankOn (o / 262144) = true := h 0 (Nat.succ_pos n)
    rw [State.dmaOff, if_pos hfirst]
    refine ih fun i hi => ?_
    rw [show o + 4 + 4 * i = o + 4 * (i + 1) by omega]
    exact h (i + 1) (by omega)

/-! ### Bank power (R355) -/

/-- A register that is one IMM field of 32 bits. -/
def RegKey.whole (k : RegKey) : Prop := k.fields = [⟨0, 32, .rw, 0, .imm⟩]

section Whole

variable {k : RegKey} (h : k.whole)
include h

theorem RegKey.whole_storedMask : k.storedMask = allBits := by
  simp only [RegKey.storedMask, RegKey.mask, show k.fields = _ from h]
  decide

theorem State.whole_waitPoints {s : State} (hup : s.regDown k = false) (m : Word) : s.waitPoints k m = [] := by
  have himm : ∀ f, f ∈ k.touched m → f.apply = .imm := by
    intro f hf
    have hf := List.mem_of_mem_filter hf
    rw [show k.fields = _ from h, List.mem_singleton] at hf
    rw [hf]
  simp only [State.waitPoints, hup, Bool.false_or]
  rw [List.filter_eq_nil_iff.mpr]
  · rfl
  · intro p hp
    obtain ⟨f, hf, rfl⟩ := List.mem_map.mp hp
    simp [himm f hf]

/-- A write of the whole register is stored in both copies at once. -/
theorem State.whole_storeReg {s : State} (hup : s.regDown k = false) (v : Word) :
    s.storeReg k v allBits = { s with regs := s.regsAfterWrite k v allBits } ∧
    Stored k allBits v s { s with regs := s.regsAfterWrite k v allBits } := by
  constructor
  · simp [State.storeReg, State.pendOverflow, State.whole_waitPoints h hup]
  · refine State.stored_regsAfterWrite hup ?_
    rw [RegKey.whole_storedMask h, allBits_and, and_allBits]
    simp [allBits]

end Whole

/-- The bits that two-bit fields cover. -/
theorem getLsbD_foldl_pairs (l : List Nat) (m : Word) (j c : Nat) (hc : c < 2) (hl : ∀ b, b ∈ l → b < 16) :
    (l.foldl (fun x b => x ||| maskOf (2 * b) 2) m).getLsbD (2 * j + c) = (m.getLsbD (2 * j + c) || decide (j ∈ l)) := by
  induction l generalizing m with
  | nil => simp
  | cons b l ih =>
    have hb : b < 16 := hl b List.mem_cons_self
    rw [List.foldl_cons, ih _ (fun x hx => hl x (List.mem_cons_of_mem b hx)), BitVec.getLsbD_or, maskOf_getLsbD _ _ _ (by omega)]
    have hcover : (decide (2 * b ≤ 2 * j + c) && decide (2 * j + c < 2 * b + 2)) = decide (j = b) := by
      rw [← Bool.decide_and]
      exact decide_eq_decide.mpr (by omega)
    rw [hcover, Bool.or_assoc]
    simp [List.mem_cons]

/-- What is left of a two-bit field when some of them are cleared. -/
theorem fieldOf_clear_pairs (w : Word) (l : List Nat) (j : Nat) (hj : j < 16) (hl : ∀ b, b ∈ l → b < 16) :
    fieldOf (w &&& ~~~ l.foldl (fun x b => x ||| maskOf (2 * b) 2) 0) (2 * j) 2 = if j ∈ l then 0 else fieldOf w (2 * j) 2 := by
  refine Nat.eq_of_testBit_eq fun c => ?_
  by_cases hc : c < 2
  · have hbit := getLsbD_foldl_pairs l 0 j c hc hl
    have hlt : 2 * j + c < 32 := by omega
    simp only [fieldOf, bitsOf, Nat.testBit_mod_two_pow, Nat.testBit_div_two_pow, hc, decide_true, Bool.true_and]
    rw [Nat.add_comm c, ← BitVec.getLsbD, BitVec.getLsbD_and, BitVec.getLsbD_not, hbit]
    by_cases hmem : j ∈ l
    · simp [hmem, hlt]
    · have hfield : (w.toNat / 2 ^ (2 * j) % 2 ^ 2).testBit c = w.toNat.testBit (2 * j + c) := by
        rw [Nat.testBit_mod_two_pow, Nat.testBit_div_two_pow, Nat.add_comm c]
        simp [hc]
      simpa [hmem, hlt, BitVec.getLsbD] using hfield.symm
  · have hhigh : ∀ x, x < 4 → Nat.testBit x c = false := fun x hx =>
      Nat.testBit_lt_two_pow (Nat.lt_of_lt_of_le hx (Nat.pow_le_pow_right (n := 2) (i := 2) (by decide) (by omega)))
    have hfield : ∀ x : Word, fieldOf x (2 * j) 2 < 4 := fun x => Nat.mod_lt _ (by decide)
    rw [hhigh _ (hfield _)]
    split
    · exact (Nat.zero_testBit c).symm
    · exact (hhigh _ (hfield _)).symm

section Bank

variable (s : State) (b m : Nat)

theorem State.bankGo_bank_self : ((s.bankGo b m).bank b).target.getD ((s.bankGo b m).bank b).mode = m ∧
    ((s.bank b).target.getD (s.bank b).mode = m → (s.bankGo b m).bank b = s.bank b) := by
  unfold State.bankGo
  dsimp only
  split
  · next h => exact ⟨h, fun _ => rfl⟩
  · next h =>
    refine ⟨?_, fun h' => absurd h' h⟩
    simp only [State.bank, Tab.get_set_self]
    rfl

theorem State.bankGo_bank_ne {k : Nat} (h : k ≠ b) : (s.bankGo b m).bank k = s.bank k := by
  unfold State.bankGo
  dsimp only
  split
  · rfl
  · exact Tab.get_set_ne _ _ _ _ _ h

theorem State.bankGo_regs : (s.bankGo b m).regs = s.regs := State.bankGo_touches (ps := Part.others .regs) s b m rfl .regs rfl

end Bank

/-- The banks whose word ENG_SPAD_PWR may not change, and asks to. -/
def State.banksKept (s : State) (hi : Bool) (w : Word) : List Nat :=
  (List.range 16).filter (fun j => s.bankFw (16 * b2n hi + j) && bankMode w j != 0)

/-- The word that a write of ENG_SPAD_PWR leaves. -/
def State.bankWord (s : State) (hi : Bool) (w : Word) : Word :=
  w &&& ~~~ (s.banksKept hi w).foldl (fun x j => x ||| maskOf (2 * j) 2) 0

section BankWord

variable {s : State} {hi : Bool} {w : Word} {j : Nat} (hj : j < 16)

theorem State.mem_banksKept : j ∈ s.banksKept hi w ↔ j < 16 ∧ s.bankFw (16 * b2n hi + j) = true ∧ bankMode w j ≠ 0 := by
  simp [State.banksKept]

include hj

theorem State.bankMode_bankWord : bankMode (s.bankWord hi w) j = if j ∈ s.banksKept hi w then 0 else bankMode w j := by
  have hfield := fieldOf_clear_pairs w (s.banksKept hi w) j hj (fun b hb => (State.mem_banksKept.mp hb).1)
  unfold bankMode State.bankWord
  rw [hfield]
  split
  · rfl
  · rfl

theorem State.bankMode_bankWord_free (h : s.bankFw (16 * b2n hi + j) = false) : bankMode (s.bankWord hi w) j = bankMode w j := by
  rw [State.bankMode_bankWord hj, if_neg]
  intro hmem
  rw [(State.mem_banksKept.mp hmem).2.1] at h
  cases h

theorem State.bankMode_bankWord_firmware (h : s.bankFw (16 * b2n hi + j) = true) : bankMode (s.bankWord hi w) j = 0 := by
  rw [State.bankMode_bankWord hj]
  split
  · rfl
  · next hnot =>
    by_contra hmode
    exact hnot (State.mem_banksKept.mpr ⟨hj, h, hmode⟩)

end BankWord

/-- The banks of a word of ENG_SPAD_PWR asked into their modes. -/
def State.banksGo (s : State) (hi : Bool) (w : Word) : State :=
  (List.range 16).foldl (fun s j => s.bankGo (16 * b2n hi + j) (bankMode w j)) s

section BanksGo

variable (s : State) (hi : Bool) (w : Word)

theorem State.banksGo_bank {j : Nat} (hj : j < 16) :
    ((s.banksGo hi w).bank (16 * b2n hi + j)).target.getD ((s.banksGo hi w).bank (16 * b2n hi + j)).mode = bankMode w j ∧
    ((s.bank (16 * b2n hi + j)).target.getD (s.bank (16 * b2n hi + j)).mode = bankMode w j →
      (s.banksGo hi w).bank (16 * b2n hi + j) = s.bank (16 * b2n hi + j)) := by
  obtain ⟨u, -, hsame, hlast⟩ := foldl_once (f := fun (s : State) j => s.bankGo (16 * b2n hi + j) (bankMode w j))
    (g := fun t => t.bank (16 * b2n hi + j)) (I := fun _ => True) (j := j) (fun _ _ _ => trivial)
    (fun t x hx => State.bankGo_bank_ne t _ _ (by omega)) (List.range 16) List.nodup_range (List.mem_range.mpr hj) s trivial
  obtain ⟨hgoes, hstays⟩ := u.bankGo_bank_self (16 * b2n hi + j) (bankMode w j)
  have hlast : (s.banksGo hi w).bank (16 * b2n hi + j) = (u.bankGo (16 * b2n hi + j) (bankMode w j)).bank (16 * b2n hi + j) := hlast
  have hsame : u.bank (16 * b2n hi + j) = s.bank (16 * b2n hi + j) := hsame
  rw [hlast]
  rw [hsame] at hstays
  exact ⟨hgoes, hstays⟩

theorem State.banksGo_regs : (s.banksGo hi w).regs = s.regs :=
  foldl_kept (g := State.regs) _ (fun t _ _ => State.bankGo_regs t _ _) s

theorem State.banksGo_touches : Touches [.eng] s (s.banksGo hi w) := by
  have hone : ∀ (t : State) (j : Nat), Touches [.eng] t (t.bankGo (16 * b2n hi + j) (bankMode w j)) := fun t j =>
    State.bankGo_touches t _ _ rfl
  unfold State.banksGo
  exact Touches.foldl hone _ (Touches.refl _ s)

end BanksGo

theorem engSpadPwr_whole {i : Nat} (h : (⟨.engSpadPwr, i, 0⟩ : RegKey).implemented = true) : (⟨.engSpadPwr, i, 0⟩ : RegKey).whole := by
  simp only [RegKey.whole, RegKey.fields, h, if_true]
  rfl

theorem State.spadPwrWrite_eq {s : State} {hi : Bool} {v : Word} (hw : s.Writable ⟨.engSpadPwr, b2n hi, 0⟩) :
    s.spadPwrWrite hi v allBits =
      (((s.storeReg ⟨.engSpadPwr, b2n hi, 0⟩ v allBits).bothCopies ⟨.engSpadPwr, b2n hi, 0⟩ (s.bankWord hi v)).banksGo hi
        (s.bankWord hi v)).raiseIf (decide (s.banksKept hi v ≠ [])) Ev.engCfgBad := by
  obtain ⟨-, himplemented, hup, -⟩ := hw
  obtain ⟨hstore, hwritten, -⟩ := State.whole_storeReg (engSpadPwr_whole himplemented) hup v
  have hfw : ∀ b, (s.storeReg ⟨.engSpadPwr, b2n hi, 0⟩ v allBits).bankFw b = s.bankFw b := fun b => by rw [hstore]; rfl
  rw [← hstore] at hwritten
  have hkept : (List.range 16).filter (fun j => s.bankFw (16 * b2n hi + j) && bankMode v j != 0) = s.banksKept hi v := rfl
  have hword : v &&& ~~~ (s.banksKept hi v).foldl (fun x j => x ||| maskOf (2 * j) 2) 0 = s.bankWord hi v := rfl
  unfold State.spadPwrWrite
  simp only [hfw, hwritten, hkept, hword]
  rfl

theorem State.bank_of_banks {s t : State} (h : t.eng.banks = s.eng.banks) (b : Nat) : t.bank b = s.bank b := by
  simp only [State.bank, h]

/-- What a write of ENG_SPAD_PWR brings (R355). -/
theorem State.spadPwrWrite_gives {s : State} {hi : Bool} {v : Word} (hw : s.Writable ⟨.engSpadPwr, b2n hi, 0⟩) :
    (∀ j, j < 16 → ((s.spadPwrWrite hi v allBits).bank (16 * b2n hi + j)).target.getD ((s.spadPwrWrite hi v allBits).bank (16 * b2n hi + j)).mode =
        bankMode (s.bankWord hi v) j ∧
      ((s.bank (16 * b2n hi + j)).target.getD (s.bank (16 * b2n hi + j)).mode = bankMode (s.bankWord hi v) j →
        (s.spadPwrWrite hi v allBits).bank (16 * b2n hi + j) = s.bank (16 * b2n hi + j))) ∧
    (s.spadPwrWrite hi v allBits).stored ⟨.engSpadPwr, b2n hi, 0⟩ = s.bankWord hi v ∧
    (s.banksKept hi v = [] → (s.spadPwrWrite hi v allBits).evt = s.evt) ∧
    (s.banksKept hi v ≠ [] → (s.spadPwrWrite hi v allBits).evt = (s.raise Ev.engCfgBad).evt) ∧
    OtherRegs ⟨.engSpadPwr, b2n hi, 0⟩ s (s.spadPwrWrite hi v allBits) ∧
    Touches (evtParts ++ [Part.regs, .eng]) s (s.spadPwrWrite hi v allBits) := by
  obtain ⟨-, himplemented, hup, -⟩ := id hw
  obtain ⟨hstore, -, -, -, hothers, hframe⟩ := State.whole_storeReg (engSpadPwr_whole himplemented) hup v
  rw [← hstore] at hothers hframe
  have hbank0 : ∀ b, (s.storeReg ⟨.engSpadPwr, b2n hi, 0⟩ v allBits).bank b = s.bank b := fun b => by
    rw [hstore]
    rfl
  rw [State.spadPwrWrite_eq hw]
  generalize hu : s.storeReg ⟨.engSpadPwr, b2n hi, 0⟩ v allBits = u at *
  generalize ht : (u.bothCopies ⟨.engSpadPwr, b2n hi, 0⟩ (s.bankWord hi v)).banksGo hi (s.bankWord hi v) = t
  have hregs : t.regs = (u.bothCopies ⟨.engSpadPwr, b2n hi, 0⟩ (s.bankWord hi v)).regs := ht ▸ State.banksGo_regs _ _ _
  have hstored : t.stored ⟨.engSpadPwr, b2n hi, 0⟩ = s.bankWord hi v :=
    (stored_of_regs hregs _).trans (State.bothCopies_stored u _ _)
  have hrest : OtherRegs ⟨.engSpadPwr, b2n hi, 0⟩ s t :=
    (hothers.trans (State.bothCopies_others u _ _ (by simp))).of_regs hregs
  have hparts : Touches [.regs, .eng] s t :=
    (hframe.mono rfl).step (((Touches.refl [.regs, .eng] u).set_regs rfl).step (ht ▸ (State.banksGo_touches _ _ _).mono rfl))
  have hsame : SameEvt s t := ⟨hparts .evt rfl, hparts .clk rfl, hparts .tcore rfl, (hrest _ (by simp)).2, fun b => (hrest _ (by simp)).2⟩
  have hbanks : ∀ j, j < 16 → (t.bank (16 * b2n hi + j)).target.getD (t.bank (16 * b2n hi + j)).mode = bankMode (s.bankWord hi v) j ∧
      ((s.bank (16 * b2n hi + j)).target.getD (s.bank (16 * b2n hi + j)).mode = bankMode (s.bankWord hi v) j →
        t.bank (16 * b2n hi + j) = s.bank (16 * b2n hi + j)) := by
    intro j hj
    have hgo := (u.bothCopies ⟨.engSpadPwr, b2n hi, 0⟩ (s.bankWord hi v)).banksGo_bank hi (s.bankWord hi v) hj
    rw [ht, show (u.bothCopies ⟨.engSpadPwr, b2n hi, 0⟩ (s.bankWord hi v)).bank (16 * b2n hi + j) = s.bank (16 * b2n hi + j) from hbank0 _] at hgo
    exact hgo
  have hraised : ∀ c, (t.raiseIf c Ev.engCfgBad).regs = t.regs ∧ (t.raiseIf c Ev.engCfgBad).eng.banks = t.eng.banks := fun c =>
    ⟨State.raiseIf_touches (ps := Part.others .regs) t c _ 0 0 0 rfl .regs rfl, (congrArg EngState.banks <| State.raiseIf_touches (ps := Part.others .eng) t c Ev.engCfgBad 0 0 0 rfl .eng rfl :)⟩
  have hwhole : Touches (evtParts ++ [Part.regs, .eng]) s (t.raiseIf (decide (s.banksKept hi v ≠ [])) Ev.engCfgBad) :=
    (hparts.mono rfl).step (State.raiseIf_touches t _ _ 0 0 0 rfl)
  generalize hx : t.raiseIf (decide (s.banksKept hi v ≠ [])) Ev.engCfgBad = x at hwhole ⊢
  obtain ⟨hxregs, hxeng⟩ : x.regs = t.regs ∧ x.eng.banks = t.eng.banks := hx ▸ hraised _
  have hxbank : ∀ b, x.bank b = t.bank b := fun b => State.bank_of_banks hxeng b
  simp only [hxbank]
  refine ⟨hbanks, (stored_of_regs hxregs _).trans hstored, fun hnone => ?_, fun hsome => ?_, hrest.of_regs hxregs, hwhole⟩
  · rw [← hx, hnone]
    exact hparts .evt rfl
  · rw [← hx, State.raiseIf, if_pos (decide_eq_true hsome)]
    exact hsame.raise_evt _ _ _ _

/-! ### SPAD_BANK_TRANSITION_DONE -/

section Transition

variable {s : State} {b m : Nat} (htarget : (s.bank b).target = some m)
include htarget

theorem State.spadBankTransitionDone_banks :
    (s.spadBankTransitionDone b).eng.banks = if m = 0 then Tab.erase s.eng.banks b else Tab.set s.eng.banks b { mode := m } := by
  simp only [State.spadBankTransitionDone, htarget]

theorem State.spadBankTransitionDone_bank :
    (s.spadBankTransitionDone b).bank b = { mode := m } ∧ ∀ k, k ≠ b → (s.spadBankTransitionDone b).bank k = s.bank k := by
  simp only [State.bank, State.spadBankTransitionDone_banks htarget]
  by_cases hm : m = 0
  · simp only [hm, if_true, Tab.get_eq_find, Tab.find_erase_self]
    exact ⟨rfl, fun k hk => by rw [Tab.find_erase_ne _ hk]⟩
  · simp only [hm, if_false]
    exact ⟨Tab.get_set_self _ _ _ _, fun k hk => Tab.get_set_ne _ _ _ _ _ hk⟩

theorem State.spadBankTransitionDone_read (a : Nat) :
    Memory.read 0 (s.spadBankTransitionDone b).eng.spad a =
      if (m = 2 ∨ (s.bank b).mode = 2) ∧ b * 262144 ≤ a ∧ a < (b + 1) * 262144 then 0 else Memory.read 0 s.eng.spad a := by
  have hspad : (s.spadBankTransitionDone b).eng.spad =
      if m = 2 ∨ (s.bank b).mode = 2 then Memory.clear s.eng.spad (b * 262144) ((b + 1) * 262144) else s.eng.spad := by
    simp only [State.spadBankTransitionDone, htarget]
  rw [hspad]
  by_cases hoff : m = 2 ∨ (s.bank b).mode = 2
  · simp only [hoff, if_true, true_and, Memory.read_clear]
    by_cases hin : a < b * 262144 ∨ (b + 1) * 262144 ≤ a
    · rw [if_pos hin, if_neg (by omega)]
    · rw [if_neg hin, if_pos (by omega)]
  · simp only [hoff, if_false, false_and]

end Transition

/-! ### SPAD_DMA -/

/-- A command whose checks pass has its arguments in range. -/
theorem State.Accepts.goodArg {s : State} {d : CmdDesc} {op : Nat} {c : Checks} (h : s.Accepts d op c) : c.badArg = false := by
  by_contra hbad
  have hcheck := h.2
  simp [State.check, eq_true_of_ne_false hbad, ite_eq_iff] at hcheck

/-- Where a copy lies in SPAD: whole units of 64 bytes, below the end. -/
structure DmaRange (o n : Nat) : Prop where
  units : n % 64 = 0
  below : o + n ≤ 8388608

section Dma

variable {s : State} {d : CmdDesc} {o n : Nat} (hrange : DmaRange o n) (hon : ∀ b, b < 32 → s.bankOn b = true)
include hrange hon

theorem State.dma_word_on {i : Nat} (hi : i < n / 4) : s.bankOn ((o + 4 * i) / 262144) = true := by
  obtain ⟨-, hbelow⟩ := hrange
  exact hon _ (by omega)

theorem State.dma_unit_on {i : Nat} (hi : i < n / 64) : s.bankOn ((o + 64 * i) / 262144) = true := by
  obtain ⟨-, hbelow⟩ := hrange
  exact hon _ (by omega)

theorem State.dmaRead_range : s.dmaRead o (n / 64) = s.spadBytes o n := by
  rw [State.dmaRead_on fun i hi => State.dma_unit_on hrange hon hi, Nat.mul_div_cancel' (Nat.dvd_of_mod_eq_zero hrange.units)]

end Dma

/-- What a copy leaves of SPAD and of the bytes read out of it. -/
def State.dmaCopy (s : State) (out : Bool) (o n : Nat) (data : List Byte) : State :=
  if out then { s with eng := { s.eng with dmaOut := s.spadBytes o n } } else s.putWords o data (n / 4)

theorem State.dmaCopy_touches (s : State) (out : Bool) (o n : Nat) (data : List Byte) : Touches [.eng, .spad] s (s.dmaCopy out o n data) := by
  unfold State.dmaCopy
  exact Touches.ite ((Touches.refl _ _).setEng rfl rfl) ((s.putWords_touches _ _ _).mono rfl)

/-- The checks of SPAD_DMA. -/
def State.dmaChecks (s : State) (d : CmdDesc) : Checks :=
  let o := d.arg 16 4
  let n := d.arg 28 4
  let c := unitChecks d false .eng true []
  { c with
    badForm := c.badForm || decide (2 ≤ d.arg 12 1) || !(d.zero 13 16)
    badArg := decide (o % 64 ≠ 0) || decide (d.arg 20 8 % 64 ≠ 0) || decide (n % 64 ≠ 0) || decide (n < 64) || decide (8388608 < n) ||
      decide (8388608 < o + n) ||
      (!(bitAt (d.arg 12 1) 0) && (List.range 32).any (fun b => s.bankFw b && decide (b * 262144 < o + n) && decide (o < (b + 1) * 262144))) }

theorem State.spadDma_copies {s : State} {d : CmdDesc} {data : List Byte} (hacc : s.Accepts d 0xC808 (s.dmaChecks d))
    (hrange : DmaRange (d.arg 16 4) (d.arg 28 4)) (hon : ∀ b, b < 32 → s.bankOn b = true) :
    s.spadDma d data [] = ((s.startCmd d).dmaCopy (bitAt (d.arg 12 1) 0) (d.arg 16 4) (d.arg 28 4) data).complete d 0xC808 .ok 0
      (leBytes 0 4 ++ leBytes 0xFFFFFFFF 4 ++ leBytes 0 4) := by
  have hon' : ∀ b, b < 32 → (s.startCmd d).bankOn b = true := fun b hb => by
    rw [State.startCmd_eq]
    exact hon b hb
  refine (State.runCmd_accepted_free hacc rfl).trans ?_
  rw [State.dmaOff_on fun i hi => State.dma_word_on hrange hon' hi, State.dmaRead_range hrange hon',
    State.dmaIn_on (fun i hi => State.dma_word_on hrange hon' hi), State.dmaCopy]
  split <;> rfl

end Sys2Proof.Machine
end

section
/-! ## O52 -/

set_option Elab.async false

namespace Sys2Proof.Machine

/-- Settles O52: a write alone leaves the word that it makes and no other byte; two plain writes leave port A's; a copy is its words in
ascending order, none of them lost while every bank is on. -/
theorem scratchpad : Obligations.Scratchpad := by
  unfold Obligations.Scratchpad
  refine ⟨?alone, ?both, ?partial_, ?firmware, ?off, ?toggle, ?dma, ?transition, ?power⟩
  case alone =>
    intro s o v hup hm hwf hon hfw
    refine ⟨?_, ?_, ?_⟩
    · obtain ⟨hword, hrest, hframe⟩ := State.spadWrite_gives hfw hon hm (.write v) rfl v.isLt
      exact gives_effect rfl hup hwf ⟨hword, hrest, hframe.carry⟩
    · obtain ⟨hword, hrest, hframe⟩ := State.spadWrite_gives hfw hon hm (.set v) rfl (BitVec.isLt _)
      exact gives_effect rfl hup hwf ⟨hword, hrest, hframe.carry⟩
    · obtain ⟨hword, hrest, hframe⟩ := State.spadWrite_gives hfw hon hm (.clear v) rfl (BitVec.isLt _)
      exact gives_effect rfl hup hwf ⟨hword, hrest, hframe.carry⟩
  case both =>
    intro s o v w hup hm hwf hon hfw
    constructor
    · have hput := s.putSpad_spad_only o w.toNat
      have hraise := State.raise_touches (ps := evtParts) ((s.putSpad o w.toNat).bump Fld.engSpadLost_VAL) Ev.engSpadWriteLost o 0 0 rfl
      have hrun : s.spadPlain o 15 v (.write w) = ((s.putSpad o w.toNat).bump Fld.engSpadLost_VAL).raise Ev.engSpadWriteLost o :=
        State.spadWrite_lost hfw hon w (.write v)
      have hword : (s.spadPlain o 15 v (.write w)).spadWord o = w.toNat := by
        rw [hrun]
        refine (State.spadWord_congr fun a _ _ => ?_).trans ((s.putSpad_word_self o _ hm).trans (Nat.mod_eq_of_lt w.isLt))
        exact hraise .spad rfl a
      have hcount : (s.spadPlain o 15 v (.write w)).count Fld.engSpadLost_VAL = s.counted Fld.engSpadLost_VAL :=
        hrun ▸ State.count_bumped hput hraise rfl rfl (by decide)
      have hevt : (s.spadPlain o 15 v (.write w)).evt = (s.raise Ev.engSpadWriteLost o).evt := by
        rw [hrun]
        exact ((hput.mono rfl).step (State.bump_touches _ _ _ _ rfl) : Touches [.spad, .rc .engSpadLost] s _).sameEvt rfl |>.raise_evt _ _ _ _
      have hframe : Touches (evtParts ++ [Part.spad, .rc .engSpadLost]) s (s.spadPlain o 15 v (.write w)) :=
        hrun ▸ (hput.mono rfl).step ((State.bump_touches _ _ _ _ rfl).step (hraise.mono rfl))
      exact gives_effect rfl hup hwf ⟨hword, hcount, hevt, hframe.carry⟩
    · have hrun : s.spadWrite o (.clear w) (.set v) =
          (s.putSpad o ((BitVec.ofNat 32 (s.spadWord o) &&& ~~~ w).toNat)).putSpad o
            ((BitVec.ofNat 32 (s.spadWord o) &&& ~~~ w) ||| v).toNat := by
        have hfirst := (s.putSpad_word_self o (BitVec.ofNat 32 (s.spadWord o) &&& ~~~ w).toNat hm).trans (Nat.mod_eq_of_lt (BitVec.isLt _))
        simp only [State.spadWrite, hfw, hon, Bool.not_true, Bool.false_eq_true, if_false,
          State.portA_on hon (a := .clear w) (by simp), PortA.apply, hfirst, BitVec.ofNat_toNat, BitVec.setWidth_eq]
      have hword := ((s.putSpad o ((BitVec.ofNat 32 (s.spadWord o) &&& ~~~ w).toNat)).putSpad_word_self o
        ((BitVec.ofNat 32 (s.spadWord o) &&& ~~~ w) ||| v).toNat (State.putSpad_memWf _ _ _ hm)).trans (Nat.mod_eq_of_lt (BitVec.isLt _))
      rw [← hrun] at hword
      have hframe : Touches [.spad] s (s.spadWrite o (.clear w) (.set v)) :=
        hrun ▸ (State.putSpad_spad_only _ _ _).step (State.putSpad_spad_only _ _ _)
      exact gives_effect rfl hup hwf ⟨hword, hframe.carry⟩
  case partial_ =>
    intro s o be v hup hwf hbe
    have hrun : s.spadPlain o be v .idle = s.bump Fld.sysBadAccess_VAL := by rw [State.spadPlain, if_pos hbe, State.portA_idle]
    have hcount : (s.spadPlain o be v .idle).count Fld.sysBadAccess_VAL = s.counted Fld.sysBadAccess_VAL :=
      hrun ▸ State.count_bump s _ 0 1 (by decide)
    have hframe : Touches [.rc .sysBadAccess] s (s.spadPlain o be v .idle) := hrun ▸ State.bump_touches _ _ _ _ rfl
    exact gives_effect rfl hup hwf ⟨hcount, hframe.carry⟩
  case firmware =>
    intro s o v hup hwf hfw
    have hrun : s.spadPlain o 15 v .idle = (s.bump Fld.engSpadBankErr_VAL).raise Ev.engSpadFwWrite o := by
      simp [State.spadPlain, State.spadWrite, hfw, State.portA_idle]
    have hraise := State.raise_touches (ps := evtParts) (s.bump Fld.engSpadBankErr_VAL) Ev.engSpadFwWrite o 0 0 rfl
    have hcount : (s.spadPlain o 15 v .idle).count Fld.engSpadBankErr_VAL = s.counted Fld.engSpadBankErr_VAL :=
      hrun ▸ State.count_bumped (Touches.refl [] s) hraise rfl rfl (by decide)
    have hevt : (s.spadPlain o 15 v .idle).evt = (s.raise Ev.engSpadFwWrite o).evt := by
      rw [hrun]
      exact (State.bump_touches s _ _ _ rfl : Touches [.rc .engSpadBankErr] s _).sameEvt rfl |>.raise_evt _ _ _ _
    have hframe : Touches (evtParts ++ [Part.rc .engSpadBankErr]) s (s.spadPlain o 15 v .idle) :=
      hrun ▸ (State.bump_touches _ _ _ _ rfl).step (hraise.mono rfl)
    exact gives_effect rfl hup hwf ⟨hcount, hevt, hframe.carry⟩
  case off =>
    intro s o v hup hwf hfw hon hnever
    have hrun : s.spadPlain o 15 v .idle = s.bankOffAccess o := by
      simp [State.spadPlain, State.spadWrite, hfw, hon]
    have hoff : s.bankOffAccess o = (s.bump Fld.engSpadBankErr_VAL).noteBankOff.raise Ev.engSpadBankOff o := by
      simp only [State.bankOffAccess, hnever, Option.any_none, Bool.false_eq_true, if_false]
      rfl
    have hnote : Touches [.eng] (s.bump Fld.engSpadBankErr_VAL) (s.bump Fld.engSpadBankErr_VAL).noteBankOff := State.noteBankOff_touches _
    have hraise := State.raise_touches (ps := evtParts) (s.bump Fld.engSpadBankErr_VAL).noteBankOff Ev.engSpadBankOff o 0 0 rfl
    rw [← hoff, ← hrun] at hraise
    have hcount : (s.spadPlain o 15 v .idle).count Fld.engSpadBankErr_VAL = s.counted Fld.engSpadBankErr_VAL :=
      State.count_bumped (qs := evtParts ++ [.eng]) (Touches.refl [] s) ((hnote.mono rfl).step (hraise.mono rfl)) rfl rfl (by decide)
    have hevt : (s.spadPlain o 15 v .idle).evt = (s.raise Ev.engSpadBankOff o).evt := by
      rw [hrun, hoff]
      exact ((State.bump_touches s _ _ _ rfl).step (hnote.mono rfl) : Touches [.eng, .rc .engSpadBankErr] s _).sameEvt rfl |>.raise_evt _ _ _ _
    have heng : (s.spadPlain o 15 v .idle).eng = { s.eng with bankOffAt := some s.clk.now } := by
      rw [hrun, hoff, State.raise_eng]
      rfl
    have hframe : Touches (evtParts ++ [Part.eng, .rc .engSpadBankErr]) s (s.spadPlain o 15 v .idle) :=
      (State.bump_touches _ _ _ _ rfl).step ((hnote.mono rfl).step (hraise.mono rfl))
    exact gives_effect rfl hup hwf ⟨hcount, hevt, heng, hframe.carry⟩
  case toggle =>
    intro s o v hup hwf
    exact gives_effect rfl hup hwf ⟨State.count_bump s _ 0 1 (by decide),
      (State.bump_touches (ps := [.rc .engSpadBankErr]) s Fld.engSpadBankErr_VAL 0 1 rfl).carry⟩
  case dma =>
    intro s d data o n hup hm hwf ho hn hacc hon
    subst ho hn
    have hrange : DmaRange (d.arg 16 4) (d.arg 28 4) := by
      have hgood := hacc.goodArg
      simp only [Bool.or_eq_false_iff, decide_eq_false_iff_not] at hgood
      constructor <;> omega
    have hrun := State.spadDma_copies (data := data) hacc hrange hon
    have hmem : (s.startCmd d).memWf := by
      simpa only [State.memWf, State.startCmd_eng, State.startCmd_flash] using hm
    have hreads : ∀ a, Memory.read 0 (s.startCmd d).eng.spad a = Memory.read 0 s.eng.spad a := fun a => by rw [State.startCmd_eng]
    have hin : bitAt (d.arg 12 1) 0 = false → (∀ i, i < d.arg 28 4 / 4 →
        (s.spadDma d data []).spadWord (d.arg 16 4 + 4 * i) = leAt data (4 * i) 4) ∧
        ∀ a, (a < d.arg 16 4 ∨ d.arg 16 4 + d.arg 28 4 ≤ a) →
          Memory.read 0 (s.spadDma d data []).eng.spad a = Memory.read 0 s.eng.spad a := by
      intro hbit
      rw [hrun, hbit]
      refine ⟨fun i hi => State.putWords_word _ hmem _ _ _ i hi, fun a ha => ?_⟩
      obtain ⟨hunits, -⟩ := hrange
      exact (State.putWords_read_out _ _ _ _ a (by omega)).trans (hreads a)
    have hout : bitAt (d.arg 12 1) 0 = true → (s.spadDma d data []).eng.dmaOut = s.spadBytes (d.arg 16 4) (d.arg 28 4) ∧
        ∀ a, Memory.read 0 (s.spadDma d data []).eng.spad a = Memory.read 0 s.eng.spad a := by
      intro hbit
      rw [hrun, hbit]
      refine ⟨?_, hreads⟩
      simp [State.dmaCopy, State.spadBytes]
    have hcpl : Completed d 0xC808 .ok 0 (leBytes 0 4 ++ leBytes 0xFFFFFFFF 4 ++ leBytes 0 4) (s.spadDma d data []) := by
      rw [hrun]
      exact State.complete_lastCpl _ _ _ _ _ _ _
    have hframe : Touches (cplParts ++ [Part.eng, .spad]) s (s.spadDma d data []) := by
      rw [hrun]
      exact (State.startCmd_touches s d rfl).step (((State.dmaCopy_touches _ _ _ _ _).mono rfl).step (State.complete_touches _ _ _ _ _ _ _ rfl))
    exact gives_effect rfl hup hwf ⟨hin, hout, hcpl, hframe.carry⟩
  case transition =>
    intro s b m hup hm hwf htarget
    obtain ⟨hself, hothers⟩ := State.spadBankTransitionDone_bank htarget
    have hread := State.spadBankTransitionDone_read htarget
    have hframe : Touches [.eng, .spad] s (s.spadBankTransitionDone b) := State.spadBankTransitionDone_touches s b rfl
    refine gives_effect rfl hup hwf ⟨hself, hothers, fun hoff a hlo hhi => ?_, fun hnow hthen a => ?_, fun a ha => ?_, hframe.carry⟩
    · exact (hread a).trans (if_pos ⟨hoff, hlo, hhi⟩)
    · exact (hread a).trans (if_neg fun h => h.1.elim hnow hthen)
    · exact (hread a).trans (if_neg (by omega))
  case power =>
    intro s p hi v hup hwf hw
    obtain ⟨hbanks, hstored, hquiet, hraised, hothers, hframe⟩ := State.spadPwrWrite_gives (v := v) hw
    have hrun : s.regSet p ⟨.engSpadPwr, b2n hi, 0⟩ v allBits = s.spadPwrWrite hi v allBits := by
      refine State.regSet_owned rfl hw ?_ (hframe.regDown rfl rfl rfl)
      cases hi <;> rfl
    rw [← hrun] at hbanks hstored hquiet hraised hothers hframe
    refine gives_effect rfl hup hwf ⟨fun j hj hfree => ?_, fun j hj hfw hon => ?_, fun hfree => ?_, fun hsome => ?_, ?_, hframe.carry⟩
    · exact (hbanks j hj).1.trans (State.bankMode_bankWord_free hj hfree)
    · refine (hbanks j hj).2 ?_
      rw [State.bankMode_bankWord_firmware hj hfw]
      simp only [State.bankOn, Bool.and_eq_true, decide_eq_true_eq, Option.isNone_iff_eq_none] at hon
      simp [hon]
    · have hnone : s.banksKept hi v = [] := by
        refine List.eq_nil_iff_forall_not_mem.mpr fun j hj => ?_
        obtain ⟨hlt, hfw, -⟩ := State.mem_banksKept.mp hj
        rw [hfree j hlt] at hfw
        cases hfw
      refine ⟨?_, hquiet hnone⟩
      refine Eq.trans hstored ?_
      rw [State.bankWord, hnone]
      exact and_allBits v
    · obtain ⟨j, hj⟩ := hsome
      exact hraised (List.ne_nil_of_mem (State.mem_banksKept.mpr hj))
    · exact hothers

end Sys2Proof.Machine
end

section
/-! ## Buffers: requests, frees, the auditor and quotas (R159 to R172, R176) -/

set_option Elab.async false

namespace Sys2Proof.Machine

/-! ### XOFF -/

/-- The part with other port states. -/
def State.withPorts (s : State) (l : Tab Nat PortSt) : State := { s with fab := { s.fab with ports := l } }

theorem foldl_withPorts {α : Type} {f : State → α → State} (hf : ∀ s x, ∃ l, f s x = s.withPorts l) (xs : List α) (s : State) :
    ∃ l, xs.foldl f s = s.withPorts l := by
  induction xs generalizing s with
  | nil => exact ⟨s.fab.ports, rfl⟩
  | cons x xs ih =>
    obtain ⟨l, hl⟩ := hf s x
    obtain ⟨l', hl'⟩ := ih (f s x)
    exact ⟨l', by rw [List.foldl_cons, hl', hl]; rfl⟩

/-- XOFF is state of the ports. -/
theorem State.xoffUpdate_ports (s : State) : ∃ l, s.xoffUpdate = s.withPorts l := by
  have hset : ∀ (s : State) (c : Prop) [Decidable c] (e : Nat) (x : PortSt), ∃ l, (if c then s else s.setPort e x) = s.withPorts l := by
    intro s c _ e x
    split
    · exact ⟨s.fab.ports, rfl⟩
    · exact ⟨_, rfl⟩
  unfold State.xoffUpdate
  extract_lets s1
  obtain ⟨l1, h1⟩ : ∃ l, s1 = s.withPorts l := foldl_withPorts (fun s e => hset s _ _ _) _ s
  obtain ⟨l2, h2⟩ := foldl_withPorts (f := fun s p =>
    if 96 ≤ p then s
    else
      let x := s.port p
      let n := s.xoffOf p
      if n = x.xoff then s else s.setPort p { x with xoff := n, fc := x.fc ++ fcFrames (s.fcMode p) x.xoff n }) (fun s p => by
    split
    · exact ⟨s.fab.ports, rfl⟩
    · exact hset s _ _ _) s1.activePorts s1
  exact ⟨l2, by rw [h2, h1]; rfl⟩

theorem State.xoffUpdate_copy? (s : State) (c : Nat) : s.xoffUpdate.copy? c = s.copy? c := by
  obtain ⟨l, hl⟩ := s.xoffUpdate_ports
  rw [hl]
  rfl

theorem State.buf?_of_bufs {s t : State} (h : t.bpm.bufs = s.bpm.bufs) (b : Nat) : t.buf? b = s.buf? b := by
  simp only [State.buf?, h]

theorem State.req_of_reqs {s t : State} (h : t.bpm.reqs = s.bpm.reqs) (r : Nat) : t.req r = s.req r := by
  simp only [State.req, h]

theorem State.written_of_regs {s t : State} (h : t.regs = s.regs) (k : RegKey) : t.written k = s.written k := by
  have hdflt : t.dflt k = s.dflt k := State.dflt_congr (fun g => State.stored_of_regs h _) k
  rw [State.written, State.written, hdflt, h]

/-! ### A buffer that is taken -/

/-- A shared buffer that requester `r` takes. -/
structure Taken (s : State) (p i r : Nat) (t : State) : Prop where
  taken : t.buf? (bufIndex p i) = some { owner := r }
  others : ∀ b, b ≠ bufIndex p i → t.buf? b = s.buf? b
  charge : (t.req r).used = (s.req r).used + bufUnits p
  frame : Touches [.bpm] s t

theorem Taken.of_bpm {s u t v : State} {p i r : Nat} (h : Taken u p i r t) (hu : u.bpm = s.bpm) (hv : v.bpm = t.bpm) :
    v.buf? (bufIndex p i) = some { owner := r } ∧ (v.req r).used = (s.req r).used + bufUnits p ∧
    ∀ b, b ≠ bufIndex p i → v.buf? b = s.buf? b := by
  obtain ⟨htaken, hothers, hcharge, -⟩ := h
  have hbuf : ∀ b, v.buf? b = t.buf? b := State.buf?_of_bufs (congrArg BpmState.bufs hv)
  have hsbuf : ∀ b, u.buf? b = s.buf? b := State.buf?_of_bufs (congrArg BpmState.bufs hu)
  have hreq : v.req r = t.req r := State.req_of_reqs (congrArg BpmState.reqs hv) r
  have hsreq : u.req r = s.req r := State.req_of_reqs (congrArg BpmState.reqs hu) r
  exact ⟨(hbuf _).trans htaken, by rw [hreq, hcharge, hsreq], fun b hb => ((hbuf b).trans (hothers b hb)).trans (hsbuf b)⟩

theorem State.takeBuf_shared {s : State} {p i r : Nat} (hnext : s.nextBuf p = some i) :
    ∃ t, s.takeBuf p r false none = some (bufIndex p i, t) ∧ Taken s p i r t := by
  unfold State.takeBuf
  split
  · next hnone => rw [hnext] at hnone; cases hnone
  next j hj =>
  obtain rfl : i = j := Option.some.inj (hnext.symm.trans hj)
  extract_lets x b q s1
  have hbufs : s1.bpm.bufs = s.bpm.bufs := by
    simp only [s1]
    split
    · rfl
    · split <;> rfl
  have hframe : Touches [.bpm] s s1 := by
    simp only [s1]
    split
    · exact Touches.refl _ s
    · split <;> exact (Touches.refl _ s).set_bpm rfl
  clear_value s1
  refine ⟨_, rfl, Tab.find_set_self _ _ _, fun k hk => ?_, ?_, hframe.set_bpm rfl⟩
  · exact (Tab.find_set_ne _ _ _ _ hk).trans (State.buf?_of_bufs hbufs k)
  · exact congrArg ReqSt.used (Tab.get_set_self _ _ _ _)

/-- The count of an answer that grants: a promotion at most (R159). -/
theorem State.countAnswer_ok {s : State} {p : Nat} {a : Status × Nat} (h : a.1 = .ok) : Touches [.rc .bpmPromoteCnt] s (s.countAnswer p a) := by
  unfold State.countAnswer
  rw [if_neg (by rw [h]; decide)]
  exact Touches.ite (State.bump_touches _ _ _ _ rfl) (Touches.refl _ _)

/-! ### What an engine message and a frame ask for -/

theorem State.firstFree_of_bufs {s t : State} (h : ∀ b, t.buf? b = s.buf? b) (p : Nat) (skip : List Nat) (i n : Nat) :
    t.firstFree p skip i n = s.firstFree p skip i n := by
  induction n generalizing i with
  | zero => rfl
  | succ n ih => simp only [State.firstFree, h, ih]

theorem State.nextBuf_of_bpm {s t : State} (h : t.bpm = s.bpm) (p : Nat) : t.nextBuf p = s.nextBuf p := by
  have hpool : t.pool p = s.pool p := by rw [State.pool, h, State.pool]
  have hlimit : t.keepLimit p = s.keepLimit p := by rw [State.keepLimit, hpool, h, State.keepLimit]
  have hfree := State.firstFree_of_bufs (State.buf?_of_bufs (congrArg BpmState.bufs h))
  simp only [State.nextBuf, hpool, hlimit, hfree]

theorem State.countAnswer_bpm (s : State) (p : Nat) (a : Status × Nat) : (s.countAnswer p a).bpm = s.bpm := by
  unfold State.countAnswer
  split
  · rfl
  · split <;> rfl

theorem State.countAnswer_copy? (s : State) (p : Nat) (a : Status × Nat) (c : Nat) : (s.countAnswer p a).copy? c = s.copy? c := by
  unfold State.countAnswer
  split
  · rfl
  · split <;> rfl

theorem State.countAnswer_nextBuf (s : State) (p : Nat) (a : Status × Nat) (q : Nat) : (s.countAnswer p a).nextBuf q = s.nextBuf q :=
  State.nextBuf_of_bpm (s.countAnswer_bpm p a) q

/-- A message of one buffer whose request is granted takes it. -/
theorem State.bpmEngine_one {s : State} {len p i : Nat} (hlen : len ≤ 2048) (ha : s.bpmAnswer 97 3 1 = (.ok, p)) (hnext : s.nextBuf p = some i) :
    Taken (s.countAnswer 3 (.ok, p)) p i 97 (s.bpmEngine len) := by
  have hone : max 1 ((len + 2047) / 2048) = 1 := by omega
  obtain ⟨t, htake, htaken⟩ := State.takeBuf_shared (r := 97) ((s.countAnswer_nextBuf 3 (.ok, p) p).trans hnext)
  have hrun : s.bpmEngine len = t := by
    simp only [State.bpmEngine, State.engRequest, hone, ha, List.range_one, List.foldl_cons, List.foldl_nil, htake, if_true]
  rw [hrun]
  exact htaken

theorem State.copy?_of_fab {s t : State} (h : t.fab = s.fab) (c : Nat) : t.copy? c = s.copy? c := by
  simp only [State.copy?, h]

/-- A copy of a frame that takes a first buffer by the answer to its request. -/
theorem State.requestFor_one {s : State} {r q c p i : Nat} {hint : Bool} {x : Copy} (hx : s.copy? c = some x)
    (ha : s.bpmAnswer r q 1 = (.ok, p)) (hnext : s.nextBuf p = some i) :
    ∃ t, Taken (s.countAnswer q (.ok, p)) p i r t ∧ s.requestFor r q hint [c] =
      (t.setCopy c { x with bufs := x.bufs ++ [bufIndex p i] }).setCopy c { x with bufs := x.bufs ++ [bufIndex p i], hinted := hint } := by
  obtain ⟨t, htake, htaken⟩ := State.takeBuf_shared (r := r) ((s.countAnswer_nextBuf q (.ok, p) p).trans hnext)
  refine ⟨t, htaken, ?_⟩
  have hgive : (s.countAnswer q (.ok, p)).giveBuf p r false none c = t.setCopy c { x with bufs := x.bufs ++ [bufIndex p i] } := by
    simp only [State.giveBuf, htake, State.countAnswer_copy?, hx]
  have hcopy : ∀ y, (t.setCopy c y).copy? c = some y := fun y => Tab.find_set_self _ _ _
  simp only [State.requestFor, List.length_singleton, ha, if_true, List.foldl_cons, List.foldl_nil, hgive, hcopy]

/-- A frame of one copy without a buffer, of no flow and no mirror session, asks for that copy. -/
theorem State.bpmFrame_first {s : State} {f c : Nat} {fr : Frame} {x : Copy} (hfr : s.frame? f = some fr) (hcopies : s.copiesOf f = [c])
    (hx : s.copy? c = some x) (hf : x.frame = f) (hflow : x.flow = none) (hmir : x.mirror = none) (hst : x.st ≠ .sent) (hbufs : x.bufs = [])
    (hturn : s.bpmTurn (some f) = true) : s.bpmFrame f c = s.requestFor fr.port (s.firstPool fr.h) (s.hinted fr.h) [c] := by
  have hfirsts : (s.copiesOf f).filter (fun d => match s.copy? d with
      | some y => y.mirror.isNone && decide (y.bufs = []) && decide (y.st ≠ .sent)
      | none => false) = [c] := by
    rw [hcopies]
    simp [hx, hmir, hbufs, hst]
  have hnoflow : ((s.copy? c).bind (fun y => y.flow)).isSome = false := by simp [hx, hflow]
  have hshare : ((s.copy? c).bind (fun y => y.flow)).isNone = true := by simp [hx, hflow]
  have hfirst : s.firstBufs fr [c] = s.requestFor fr.port (s.firstPool fr.h) (s.hinted fr.h) [c] := by
    simp [State.firstBufs, hnoflow, hshare]
  rw [← hfirst]
  have hnow : ¬ (x.frame ≠ f ∨ (!(s.bpmTurn (some f))) = true) := by simp [hf, hturn]
  unfold State.bpmFrame
  rw [hfr, hx]
  dsimp only
  rw [if_neg hnow, hmir]
  exact (if_pos fun h => List.cons_ne_nil c [] (hfirsts.symm.trans h)).trans (congrArg (s.firstBufs fr) hfirsts)

/-! ### Frees -/

theorem State.hostResume_bpm (s : State) : ∃ r, s.hostResume.bpm = { s.bpm with reqs := r } := by
  unfold State.hostResume
  dsimp only
  split <;> exact ⟨_, rfl⟩

/-- A buffer that returns is in use no longer; its charge, its pool's store and the carve follow. -/
theorem State.returnBuf_bpm (s : State) (b : Nat) (x : Buf) : ∃ r l c, (s.returnBuf b x).bpm =
    { s.bpm with bufs := Tab.erase s.bpm.bufs b, reqs := r, pools := l, carve := c } := by
  unfold State.returnBuf
  extract_lets p i q _ s1 _ s2
  obtain ⟨r1, h1⟩ : ∃ r, s1.bpm = { s.bpm with reqs := r } := by
    simp only [s1]
    split <;> exact ⟨_, rfl⟩
  obtain ⟨r2, h2⟩ := State.hostResume_bpm { s1 with bpm := { s1.bpm with bufs := Tab.erase s1.bpm.bufs b } }
  have hs2 : s2.bpm = { s.bpm with bufs := Tab.erase s.bpm.bufs b, reqs := r2 } := h2.trans (by rw [h1])
  clear_value s2
  have hpool : ∀ y, ∃ r l c, (s2.setPool p y).bpm = { s.bpm with bufs := Tab.erase s.bpm.bufs b, reqs := r, pools := l, carve := c } :=
    fun y => ⟨_, _, _, congrArg (fun m => { m with pools := s2.bpm.pools.set p y }) hs2⟩
  have hsame : ∃ r l c, s2.bpm = { s.bpm with bufs := Tab.erase s.bpm.bufs b, reqs := r, pools := l, carve := c } := ⟨_, _, _, hs2⟩
  split
  · split
    · split
      · exact hsame
      · exact hpool _
    · next c _ _ => exact ⟨_, _, _, congrArg (fun m => { m with carve := some { c with withheld := c.withheld ++ [b] } }) hs2⟩
  · split
    · exact hsame
    · exact hpool _

theorem State.sweepSent_none {s : State} (h : ∀ e, e ∈ s.fab.copies → e.2.st ≠ .sent) : s.sweepSent = s := by
  have hnone : s.fab.copies.filter (fun e => decide (e.2.st = .sent) && decide (e.2.bufs = [])) = [] :=
    List.filter_eq_nil_iff.mpr fun e he => by simp [h e he]
  simp only [State.sweepSent, hnone, List.map_nil, List.foldl_nil]

theorem Tab.find_map {κ α β : Type} [DecidableEq κ] (t : Tab κ α) (f : α → β) (k : κ) :
    Tab.find (t.map (fun e => (e.1, f e.2)) : Tab κ β) k = (Tab.find t k).map f := by
  induction t with
  | nil => rfl
  | cons e t ih =>
    obtain ⟨a, b⟩ := e
    by_cases ha : a = k
    · simp [Tab.find, ha]
    · simpa [Tab.find, ha] using ih

/-- A copy without a buffer. -/
def Copy.without (b : Nat) (x : Copy) : Copy := { x with bufs := x.bufs.filter (fun y => y != b) }

theorem State.unlinkBuf_copy? (s : State) (b c : Nat) : (s.unlinkBuf b).copy? c = (s.copy? c).map (Copy.without b) :=
  Tab.find_map s.fab.copies (Copy.without b) c

theorem Copy.not_mem_without (b : Nat) (x : Copy) : b ∉ (x.without b).bufs := by
  simp [Copy.without]

theorem State.unlinkBuf_unsent {s : State} (b : Nat) (h : ∀ e, e ∈ s.fab.copies → e.2.st ≠ .sent) :
    ∀ e, e ∈ (s.unlinkBuf b).fab.copies → e.2.st ≠ .sent := by
  intro e he
  obtain ⟨e', he', rfl⟩ := List.mem_map.mp he
  exact h e' he'

theorem State.causesClear_fab (s : State) : s.causesClear.fab = s.fab := State.causesClear_touches (ps := Part.others .fab) s rfl .fab rfl

/-- A free by the owner of a buffer whose pool is not rebuilt (R167). -/
theorem State.bpmFree_owned {s : State} {b : Nat} {x : Buf} (hb : s.buf? b = some x) (hbuild : (s.pool (bufPool b)).rebuild = false)
    (hsent : ∀ e, e ∈ s.fab.copies → e.2.st ≠ .sent) : s.bpmFree b x.owner = ((s.returnBuf b x).unlinkBuf b).afterFree := by
  have hfree : s.freeBuf b x.owner = (s.returnBuf b x, true) := by
    simp only [State.freeBuf, hb, hbuild, ne_eq, not_true, Bool.false_eq_true, if_false]
  have hfab : (s.returnBuf b x).fab = s.fab := State.returnBuf_touches (ps := Part.others .fab) s b x rfl .fab rfl
  have hsweep : ((s.returnBuf b x).unlinkBuf b).sweepSent = (s.returnBuf b x).unlinkBuf b :=
    State.sweepSent_none (State.unlinkBuf_unsent b (by rw [hfab]; exact hsent))
  simp only [State.bpmFree, hfree, if_true, hsweep]

/-! ### The auditor -/

/-- A buffer that was visited. -/
def State.visitedOne (s : State) : State := { s with bpm := { s.bpm with visited := s.bpm.visited + 1 } }

/-- A visit of one buffer by an auditor that is on. -/
theorem State.auditVisit_one {s : State} (hen : s.apB Fld.bpmAuditCfg_EN = true) (b : Nat) :
    s.auditVisit ⟨[], [b], false⟩ = (s.auditBuf b).afterFree := by
  simp [State.auditVisit, hen]

theorem State.auditVisit_end {s : State} (hen : s.apB Fld.bpmAuditCfg_EN = true) :
    s.auditVisit ⟨[], [], true⟩ = s.afterFree.auditPassEnd.afterFree := by
  simp [State.auditVisit, hen]

/-- A buffer in use with this in it. -/
def State.setBuf (s : State) (b : Nat) (x : Buf) : State := { s with bpm := { s.bpm with bufs := Tab.set s.bpm.bufs b x } }

theorem State.setBuf_buf? (s : State) (b : Nat) (x : Buf) : (s.setBuf b x).buf? b = some x := Tab.find_set_self _ _ _

/-- A visit of a buffer in use whose pool's store agrees with the STATE bits. -/
theorem State.auditBuf_used {s : State} {b : Nat} {x : Buf} (hb : s.buf? b = some x) (hgood : (s.pool (bufPool b)).bad = false) :
    s.auditBuf b = if x.ref then s.visitedOne.setBuf b { x with seen := none } else s.visitedOne.auditLeak b x := by
  have hpool : ¬ (s.visitedOne.pool (bufPool b)).bad = true := by
    rw [show s.visitedOne.pool (bufPool b) = s.pool (bufPool b) from rfl, hgood]
    decide
  have hbuf : s.visitedOne.buf? b = some x := hb
  unfold State.auditBuf
  extract_lets _ s1 s2
  have hs2 : s2 = s.visitedOne := if_neg hpool
  clear_value s2
  subst hs2
  rw [hbuf]
  rfl

/-- A leak that was found: counted, raised, and one more of this pass (R171). -/
def State.leakFound (s : State) (b : Nat) (x : Buf) : State :=
  let u := (s.bump Fld.bpmLeakCnt_VAL).raise Ev.bpmLeak b x.owner
  { u with bpm := { u.bpm with leaks := u.bpm.leaks + 1 } }

/-- The part with one more buffer that the auditor took back. -/
def State.reclaimedOne (s : State) : State := { s with bpm := { s.bpm with reclaimed := s.bpm.reclaimed + 1 } }

section Leak

variable (s : State) (b : Nat) (x : Buf)

theorem State.leakFound_bpm : (s.leakFound b x).bpm = { s.bpm with leaks := s.bpm.leaks + 1 } := by
  simp only [State.leakFound, State.raise_bpm]
  rfl

theorem State.leakFound_raised : Touches (.bpm :: evtParts) (s.bump Fld.bpmLeakCnt_VAL) (s.leakFound b x) := by
  have hraise := State.raise_touches (ps := .bpm :: evtParts) (s.bump Fld.bpmLeakCnt_VAL) Ev.bpmLeak b x.owner 0 rfl
  exact hraise.set_bpm rfl

theorem State.leakFound_regs : (s.leakFound b x).regs = s.regs := State.leakFound_raised s b x .regs rfl

variable {s} {x}

theorem State.auditLeak_seen (h : x.seen = some (Tab.get 0 s.bpm.allocs b)) : s.auditLeak b x =
    if s.apB Fld.bpmAuditCfg_RECLAIM then ((s.leakFound b x).returnBuf b x).reclaimedOne else s.leakFound b x := by
  have hap : (s.leakFound b x).apB Fld.bpmAuditCfg_RECLAIM = s.apB Fld.bpmAuditCfg_RECLAIM := by
    simp only [State.apB, State.ap_of_regs (State.leakFound_regs s b x)]
  rw [← hap]
  exact if_pos h

/-- A leak found for the second time: counted, and taken back when RECLAIM says so. -/
theorem State.auditLeak_gives (h : x.seen = some (Tab.get 0 s.bpm.allocs b)) (hb : s.buf? b = some x) :
    (s.auditLeak b x).count Fld.bpmLeakCnt_VAL = s.counted Fld.bpmLeakCnt_VAL ∧ (s.auditLeak b x).bpm.leaks = s.bpm.leaks + 1 ∧
    (s.auditLeak b x).buf? b = (if s.apB Fld.bpmAuditCfg_RECLAIM then none else some x) ∧
    (s.auditLeak b x).bpm.engWait = s.bpm.engWait ∧
    Touches (evtParts ++ [Part.sw, .bpm, .rc .bpmLeakCnt]) s (s.auditLeak b x) := by
  have hfound := State.leakFound_raised s b x
  have hbpm := State.leakFound_bpm s b x
  obtain ⟨r, l, c, hreturn⟩ := (s.leakFound b x).returnBuf_bpm b x
  have hback : Touches [.sw, .bpm] (s.leakFound b x) ((s.leakFound b x).returnBuf b x).reclaimedOne :=
    (State.returnBuf_touches (ps := [.sw, .bpm]) _ b x rfl).set_bpm rfl
  have hframe : Touches (.sw :: .bpm :: evtParts) (s.bump Fld.bpmLeakCnt_VAL) (s.auditLeak b x) := by
    rw [State.auditLeak_seen b h]
    exact Touches.ite ((hfound.mono rfl).step (hback.mono rfl)) (hfound.mono rfl)
  refine ⟨State.count_bumped (Touches.refl [] s) hframe rfl rfl (by decide), ?_, ?_, ?_, (State.bump_touches _ _ _ _ rfl).step (hframe.mono rfl)⟩
  all_goals rw [State.auditLeak_seen b h]; split
  · exact (congrArg BpmState.leaks hreturn :).trans (congrArg BpmState.leaks hbpm :)
  · exact (congrArg BpmState.leaks hbpm :)
  · exact (congrArg (fun m => Tab.find (BpmState.bufs m) b) hreturn :).trans (Tab.find_erase_self _ _)
  · exact (State.buf?_of_bufs (s := s) (congrArg BpmState.bufs hbpm :) b).trans hb
  · exact (congrArg BpmState.engWait hreturn :).trans (congrArg BpmState.engWait hbpm :)
  · exact (congrArg BpmState.engWait hbpm :)

end Leak

theorem State.pool_of_bad {s : State} {p : Nat} (h : (s.pool p).bad = true) : p < s.bpm.pools.length := by
  by_contra hlen
  rw [State.pool, List.getD_eq_default _ _ (Nat.not_lt.mp hlen)] at h
  cases h

/-- A pool whose store has been found to disagree with the STATE bits (R172). -/
def Pool.faulted (x : Pool) : Pool := { x with bad := false, rebuild := x.rebuild || !x.bitmap }

/-- The part with one more fault of a store. -/
def State.faultCounted (s : State) : State := { s with bpm := { s.bpm with faults := s.bpm.faults + 1 } }

theorem State.storeFault_bpm {s : State} {p : Nat} (h : (s.pool p).bad = true) :
    (s.storeFault p).bpm = { s.bpm with pools := s.bpm.pools.set p (s.pool p).faulted, faults := s.bpm.faults + 1 } := by
  have hlen := State.pool_of_bad h
  generalize hu : ((s.setPool p { s.pool p with bad := false }).raise Ev.bpmStoreFault p).faultCounted = u
  have hbpm : u.bpm = { s.bpm with pools := s.bpm.pools.set p { s.pool p with bad := false }, faults := s.bpm.faults + 1 } := by
    rw [← hu, State.faultCounted, State.raise_bpm]
    rfl
  have hpool : u.pool p = { s.pool p with bad := false } := by
    rw [State.pool, hbpm]
    simp [hlen]
  have hbitmap : (u.pool p).bitmap = (s.pool p).bitmap := by rw [hpool]; rfl
  have hrun : s.storeFault p = if (u.pool p).bitmap then u else u.setPool p { u.pool p with rebuild := true } := by
    subst hu
    rfl
  rw [hrun, hbitmap]
  cases hbit : (s.pool p).bitmap
  · simp only [Bool.false_eq_true, if_false, State.setPool, hbpm, hpool, List.set_set]
    simp [Pool.faulted, hbit]
  · simp only [if_true, hbpm]
    simp [Pool.faulted, hbit]

/-- A visit of a free buffer whose pool's store disagrees with the STATE bits (R172). -/
theorem State.auditBuf_free {s : State} {b : Nat} (hb : s.buf? b = none) (hbad : (s.pool (bufPool b)).bad = true) :
    s.auditBuf b = s.visitedOne.storeFault (bufPool b) := by
  have hpool : (s.visitedOne.pool (bufPool b)).bad = true := hbad
  have hbpm := State.storeFault_bpm hpool
  have hbuf : (s.visitedOne.storeFault (bufPool b)).buf? b = none :=
    (State.buf?_of_bufs (s := s) (by rw [hbpm]; rfl) b).trans hb
  unfold State.auditBuf
  extract_lets _ s1 s2
  have hs2 : s2 = s.visitedOne.storeFault (bufPool b) := if_pos hpool
  clear_value s2
  subst hs2
  rw [hbuf]

/-- Clearing causes leaves every charge. -/
theorem State.causesClear_charge (s : State) (r : Nat) :
    (s.causesClear.req r).used = (s.req r).used ∧ (s.causesClear.req r).hrUsed = (s.req r).hrUsed := by
  have hone : ∀ (s : State) (q : Nat) (e h x : Bool), (((s.setReq q { s.req q with empty := e, quota := h, exhausted := x }).req r).used,
      ((s.setReq q { s.req q with empty := e, quota := h, exhausted := x }).req r).hrUsed) = ((s.req r).used, (s.req r).hrUsed) := by
    intro s q e h x
    by_cases hq : r = q
    · subst hq
      simp only [State.setReq, State.req, Tab.get_set_self]
    · simp only [State.setReq, State.req, Tab.get_set_ne _ _ _ _ _ hq]
  have hall : ((s.causesClear.req r).used, (s.causesClear.req r).hrUsed) = ((s.req r).used, (s.req r).hrUsed) := by
    unfold State.causesClear
    exact foldl_kept (g := fun s : State => ((s.req r).used, (s.req r).hrUsed)) _ (fun s q _ => hone s q _ _ _) s
  exact ⟨congrArg Prod.fst hall, congrArg Prod.snd hall⟩

theorem State.auditSum_even {s : State} {r : Nat} (h : s.chargeOf r = s.auditUsed r + s.auditHr r * 16) : s.auditSum r = s := by
  simp [State.auditSum, h]

/-- The part at the start of a new pass, with the results of the last (R170). -/
def State.passDone (s : State) : State :=
  { s with bpm := { s.bpm.newPass s.clk.now with
    lastPass := [s.bpm.pass, s.bpm.visited, s.bpm.leaks, s.bpm.reclaimed, s.bpm.faults, (s.clk.now - s.bpm.passStart) / 1000000], auditRun := [] } }

/-- A pass ends on sums that agree: its results are published and the commands that waited complete. -/
theorem State.auditPassEnd_even {s : State} (h : ∀ r, r < 106 → s.chargeOf r = s.auditUsed r + s.auditHr r * 16) :
    s.auditPassEnd = s.bpm.auditRun.foldl (fun t d => t.complete d 0xA402 .ok 0
      (leBytes s.bpm.visited 4 ++ leBytes s.bpm.leaks 4 ++ leBytes s.bpm.faults 4)) s.passDone := by
  have hsums : ∀ l : List Nat, (∀ r, r ∈ l → r < 106) → l.foldl (fun s r => s.auditSum r) s = s := by
    intro l
    induction l with
    | nil => exact fun _ => rfl
    | cons r l ih =>
      intro hl
      rw [List.foldl_cons, State.auditSum_even (h r (hl r List.mem_cons_self))]
      exact ih fun q hq => hl q (List.mem_cons_of_mem r hq)
  unfold State.auditPassEnd
  rw [hsums _ fun r hr => List.mem_range.mp hr]
  rfl

theorem State.auditPassEnd_gives {s : State} (h : ∀ r, r < 106 → s.chargeOf r = s.auditUsed r + s.auditHr r * 16) :
    s.auditPassEnd.bpm = s.passDone.bpm ∧
    (∀ d, s.bpm.auditRun = [d] → Completed d 0xA402 .ok 0 (leBytes s.bpm.visited 4 ++ leBytes s.bpm.leaks 4 ++ leBytes s.bpm.faults 4)
      s.auditPassEnd) ∧
    Touches [.bpm, .hif, .boot, .rc .hifRingAborted] s s.auditPassEnd := by
  rw [State.auditPassEnd_even h]
  refine ⟨foldl_kept (g := State.bpm) _ (fun t d _ => State.complete_bpm t d _ _ _ _ _) s.passDone, fun d hd => ?_, ?_⟩
  · rw [hd]
    exact State.complete_lastCpl _ _ _ _ _ _ _
  · have hone : ∀ (t : State) (d : CmdDesc), Touches [.bpm, .hif, .boot, .rc .hifRingAborted] t (t.complete d 0xA402 .ok 0
        (leBytes s.bpm.visited 4 ++ leBytes s.bpm.leaks 4 ++ leBytes s.bpm.faults 4)) := fun t d => State.complete_touches _ _ _ _ _ _ _ rfl
    exact Touches.foldl hone _ ((Touches.refl _ s).set_bpm rfl)

theorem State.charge_afterFree {s : State} (h : s.bpm.engWait = []) (r : Nat) : s.afterFree.chargeOf r = s.chargeOf r ∧
    s.afterFree.auditUsed r = s.auditUsed r ∧ s.afterFree.auditHr r = s.auditHr r := by
  obtain ⟨hused, hhr⟩ : (s.afterFree.req r).used = (s.req r).used ∧ (s.afterFree.req r).hrUsed = (s.req r).hrUsed := by
    rw [State.afterFree_eq h, State.req_of_reqs (s := s.causesClear) (congrArg BpmState.reqs (State.xoffUpdate_bpm _))]
    exact s.causesClear_charge r
  have hbufs := State.afterFree_bufs h
  exact ⟨by rw [State.chargeOf, hused, hhr, State.chargeOf], by simp only [State.auditUsed, State.charged, hbufs],
    by simp only [State.auditHr, State.charged, hbufs]⟩

theorem State.passDone_kept (s : State) : s.passDone.bpm.bufs = s.bpm.bufs ∧ s.passDone.bpm.engWait = s.bpm.engWait := ⟨rfl, rfl⟩

/-- A visit that ends a pass. -/
theorem State.auditVisit_pass {s : State} (hsums : ∀ r, r < 106 → s.chargeOf r = s.auditUsed r + s.auditHr r * 16)
    (hen : s.apB Fld.bpmAuditCfg_EN = true) (heng : s.bpm.engWait = []) :
    (s.auditVisit ⟨[], [], true⟩).bpm.lastPass =
      [s.bpm.pass, s.bpm.visited, s.bpm.leaks, s.bpm.reclaimed, s.bpm.faults, (s.clk.now - s.bpm.passStart) / 1000000] ∧
    (s.auditVisit ⟨[], [], true⟩).bpm.pass = s.bpm.pass + 1 ∧ (s.auditVisit ⟨[], [], true⟩).bpm.visited = 0 ∧
    (s.auditVisit ⟨[], [], true⟩).bpm.auditRun = [] ∧
    (∀ d, s.bpm.auditRun = [d] → Completed d 0xA402 .ok 0
      (leBytes s.bpm.visited 4 ++ leBytes s.bpm.leaks 4 ++ leBytes s.bpm.faults 4) (s.auditVisit ⟨[], [], true⟩)) ∧
    (s.auditVisit ⟨[], [], true⟩).bpm.bufs = s.bpm.bufs ∧
    Touches [.fab, .bpm, .hif, .boot, .rc .hifRingAborted] s (s.auditVisit ⟨[], [], true⟩) := by
  rw [State.auditVisit_end hen]
  obtain ⟨q, hq⟩ := State.afterFree_bpm heng
  have hnow : s.afterFree.clk.now = s.clk.now := congrArg Clock.now (State.afterFree_frame (ps := [.fab, .bpm]) heng rfl .clk rfl)
  have hstart := State.afterFree_frame (ps := [.fab, .bpm]) heng rfl
  have heven : ∀ r, r < 106 → s.afterFree.chargeOf r = s.afterFree.auditUsed r + s.afterFree.auditHr r * 16 := fun r hr => by
    obtain ⟨hcharge, hused, hhr⟩ := State.charge_afterFree heng r
    rw [hcharge, hused, hhr]
    exact hsums r hr
  generalize s.afterFree = u at hq hnow hstart heven ⊢
  obtain ⟨hbpm, hcpl, hframe⟩ := State.auditPassEnd_gives heven
  obtain ⟨hbufs, hwait⟩ := u.passDone_kept
  generalize u.auditPassEnd = v at hbpm hcpl hframe ⊢
  have hidle : v.bpm.engWait = [] := by rw [hbpm, hwait, hq, heng]
  obtain ⟨q', hq'⟩ := State.afterFree_bpm hidle
  have hlast := State.afterFree_hif v
  have hend := State.afterFree_frame (ps := [.fab, .bpm]) hidle rfl
  generalize v.afterFree = t at hq' hlast hend ⊢
  rw [hbpm] at hq'
  have hresult : u.passDone.bpm.lastPass =
      [s.bpm.pass, s.bpm.visited, s.bpm.leaks, s.bpm.reclaimed, s.bpm.faults, (s.clk.now - s.bpm.passStart) / 1000000] := by
    simp only [State.passDone, hq, hnow]
  have hnext : u.passDone.bpm.pass = s.bpm.pass + 1 := by simp only [State.passDone, BpmState.newPass, hq]
  rw [hq']
  refine ⟨hresult, hnext, rfl, rfl, fun d hd => ?_, ?_, (hstart.mono rfl).step ((hframe.mono rfl).step (hend.mono rfl))⟩
  · have hdone := hcpl d (by rw [hq]; exact hd)
    rw [hq] at hdone
    exact (congrArg HifState.lastCpl hlast).trans hdone
  · exact hbufs.trans (by rw [hq])

/-! ### Quotas -/

theorem State.bpmQuotaWrite_kept {s u : State} {r : Nat} {v : Word} (hstore : s.storeReg ⟨.bpmQuota, r, 0⟩ v allBits = u) :
    (s.bpmQuotaWrite r v).regs = u.regs ∧ (s.bpmQuotaWrite r v).bpm.bufs = u.bpm.bufs ∧ Touches [.fab, .bpm] u (s.bpmQuotaWrite r v) := by
  have hclear : u.causesClear.bpm.bufs = u.bpm.bufs := by
    obtain ⟨q, hq⟩ := u.causesClear_bpm
    rw [hq]
  have hrun : s.bpmQuotaWrite r v = (if u.quotaLimit r < (u.req r).used then u.assertCause r .quota else u.causesClear).xoffUpdate := by
    rw [← hstore]
    rfl
  have hframe : Touches [.fab, .bpm] u (s.bpmQuotaWrite r v) := by
    rw [hrun]
    exact (Touches.ite (State.assertCause_touches _ _ _ rfl) (State.causesClear_touches _ rfl)).step (State.xoffUpdate_touches _ rfl)
  refine ⟨hframe .regs rfl, ?_, hframe⟩
  rw [hrun, State.xoffUpdate_bpm]
  split
  · rfl
  · exact hclear

/-! ### The statement -/

/-- Settles O31: a request in its turn takes the next buffer and charges it; a free returns it; the auditor finds what the STATE bits say. -/
theorem buffers : Obligations.Buffers := by
  unfold Obligations.Buffers
  refine ⟨?engine, ?frame, ?notTurn, ?owner, ?double, ?foreign, ?visit, ?store, ?pass, ?run, ?quota⟩
  case engine =>
    intro s len p i hup hlen hturn ha hnext
    have htaken := State.bpmEngine_one hlen ha hnext
    have hrun : s.bpmAlloc (.engine len) = (s.bpmEngine len).xoffUpdate := by simp only [State.bpmAlloc, hturn, if_true]
    have hbpm : (s.bpmAlloc (.engine len)).bpm = (s.bpmEngine len).bpm := by rw [hrun, State.xoffUpdate_bpm]
    obtain ⟨hbuf, hcharge, hothers⟩ := htaken.of_bpm (s.countAnswer_bpm 3 (.ok, p)) hbpm
    have hframe : Touches [.fab, .bpm, .rc .bpmPoolEmptyCnt, .rc .bpmPromoteCnt] s (s.bpmAlloc (.engine len)) := by
      rw [hrun]
      exact ((State.countAnswer_ok rfl).mono rfl).step ((htaken.frame.mono rfl).step (State.xoffUpdate_touches _ rfl))
    exact gives_effect rfl hup rfl ⟨hbuf, hcharge, hothers, hframe.carry⟩
  case frame =>
    intro s f c p i fr x hup hfr hcopies hx hf hflow hmir hst hbufs hturn ha hnext
    have hexec : exec (.bpmAlloc (.frame f c)) s = effect true s (s.bpmAlloc (.frame f c)) := rfl
    obtain ⟨t, htaken, hreq⟩ := State.requestFor_one (hint := s.hinted fr.h) hx ha hnext
    generalize hy : ({ x with bufs := x.bufs ++ [bufIndex p i], hinted := s.hinted fr.h } : Copy) = y at hreq
    generalize ({ x with bufs := x.bufs ++ [bufIndex p i] } : Copy) = z at hreq
    have hrun : s.bpmAlloc (.frame f c) = (((t.setCopy c z).setCopy c y).tagStage f 2).xoffUpdate := by
      rw [State.bpmAlloc, State.bpmFrame_first hfr hcopies hx hf hflow hmir hst hbufs hturn, hreq]
    have htag := State.tagStage_touches (ps := [.eng]) ((t.setCopy c z).setCopy c y) f 2 rfl
    have hbpm : (s.bpmAlloc (.frame f c)).bpm = t.bpm := by
      rw [hrun, State.xoffUpdate_bpm, htag .bpm rfl]
      rfl
    obtain ⟨hbuf, hcharge, hothers⟩ := htaken.of_bpm (s.countAnswer_bpm _ _) hbpm
    have hcopy : (s.bpmAlloc (.frame f c)).copy? c = some { x with bufs := [bufIndex p i], hinted := s.hinted fr.h } := by
      rw [hrun, State.xoffUpdate_copy?, State.copy?_of_fab (htag .fab rfl), State.setCopy, State.copy?, Tab.find_set_self, ← hy, hbufs]
      rfl
    have hframe : Touches [.fab, .bpm, .eng, .rc .bpmPromoteCnt] s (s.bpmAlloc (.frame f c)) := by
      rw [hrun]
      exact ((State.countAnswer_ok rfl).mono rfl).step ((htaken.frame.mono rfl).step ((State.setCopy_touches _ _ _ rfl).step
        ((State.setCopy_touches _ _ _ rfl).step ((htag.mono rfl).step (State.xoffUpdate_touches _ rfl)))))
    generalize s.bpmAlloc (.frame f c) = u at *
    exact gives_effect hexec hup rfl ⟨hcopy, hbuf, hcharge, hothers, hframe.carry⟩
  case notTurn =>
    intro s f c hup hturn
    have hexec : exec (.bpmAlloc (.frame f c)) s = effect true s (s.bpmAlloc (.frame f c)) := rfl
    have hidle : s.bpmFrame f c = s := by
      unfold State.bpmFrame
      split
      · exact if_pos (.inr (by rw [hturn]; rfl))
      · rfl
    have hrun : s.bpmAlloc (.frame f c) = (s.tagStage f 2).xoffUpdate := by rw [State.bpmAlloc, hidle]
    have htag := State.tagStage_touches (ps := [.eng]) s f 2 rfl
    have hbuf : ∀ b, (s.bpmAlloc (.frame f c)).buf? b = s.buf? b :=
      State.buf?_of_bufs (by rw [hrun, State.xoffUpdate_bpm, htag .bpm rfl])
    have hcopy : ∀ d, (s.bpmAlloc (.frame f c)).copy? d = s.copy? d := fun d => by
      rw [hrun, State.xoffUpdate_copy?, State.copy?_of_fab (htag .fab rfl)]
    have hframe : Touches [.fab, .eng] s (s.bpmAlloc (.frame f c)) := by
      rw [hrun]
      exact (htag.mono rfl).step (State.xoffUpdate_touches _ rfl)
    generalize s.bpmAlloc (.frame f c) = t at *
    exact gives_effect hexec hup rfl ⟨hbuf, hcopy, hframe.carry⟩
  case owner =>
    intro s b r x hup hr hb howner hbuild heng hsent
    have hexec : exec (.bpmFree b r) s = effect (requesterNo r) s (s.bpmFree b r) := rfl
    have hrun : s.bpmFree b r = ((s.returnBuf b x).unlinkBuf b).afterFree := howner ▸ State.bpmFree_owned hb hbuild hsent
    obtain ⟨q, l, c, hbpm⟩ := s.returnBuf_bpm b x
    have hidle : ((s.returnBuf b x).unlinkBuf b).bpm.engWait = [] := (congrArg BpmState.engWait hbpm :).trans heng
    have hbufs : (s.bpmFree b r).bpm.bufs = Tab.erase s.bpm.bufs b := by
      rw [hrun, State.afterFree_bufs hidle]
      exact (congrArg BpmState.bufs hbpm :)
    have hcopy : ∀ c, (s.bpmFree b r).copy? c = ((s.returnBuf b x).copy? c).map (Copy.without b) := fun c => by
      rw [hrun, State.afterFree_eq hidle, State.xoffUpdate_copy?, State.copy?_of_fab (State.causesClear_fab _), State.unlinkBuf_copy?]
    have hframe : Touches [.sw, .fab, .bpm] s (s.bpmFree b r) := by
      rw [hrun]
      exact (State.returnBuf_touches _ _ _ rfl).step ((State.unlinkBuf_touches _ _ rfl).step (State.afterFree_frame hidle rfl))
    have hgone : (s.bpmFree b r).buf? b = none := by rw [State.buf?, hbufs, Tab.find_erase_self]
    have hrest : ∀ b', b' ≠ b → (s.bpmFree b r).buf? b' = s.buf? b' := fun b' hb' => by
      rw [State.buf?, hbufs, Tab.find_erase_ne _ hb', State.buf?]
    have hfree : ∀ c y, (s.bpmFree b r).copy? c = some y → b ∉ y.bufs := by
      intro c y hy
      rw [hcopy] at hy
      obtain ⟨z, -, rfl⟩ := Option.map_eq_some_iff.mp hy
      exact z.not_mem_without b
    generalize s.bpmFree b r = t at *
    exact gives_effect hexec hup (decide_eq_true hr) ⟨hgone, hrest, hfree, hframe.carry⟩
  case double =>
    intro s b r hup hr hb
    have hexec : exec (.bpmFree b r) s = effect (requesterNo r) s (s.bpmFree b r) := rfl
    have hrun : s.bpmFree b r = (s.bump Fld.bpmDoubleFreeCnt_VAL).raise Ev.bpmDoubleFree b r := by
      simp only [State.bpmFree, State.freeBuf, hb, Bool.false_eq_true, if_false]
    have hraise := State.raise_touches (ps := evtParts) (s.bump Fld.bpmDoubleFreeCnt_VAL) Ev.bpmDoubleFree b r 0 rfl
    rw [← hrun] at hraise
    have hframe : Touches (.rc .bpmDoubleFreeCnt :: evtParts) s (s.bpmFree b r) := (State.bump_touches _ _ _ _ rfl).step (hraise.mono rfl)
    have hcount : (s.bpmFree b r).count Fld.bpmDoubleFreeCnt_VAL = s.counted Fld.bpmDoubleFreeCnt_VAL :=
      State.count_bumped (Touches.refl [] s) hraise rfl rfl (by decide)
    generalize s.bpmFree b r = t at *
    exact gives_effect hexec hup (decide_eq_true hr) ⟨hcount, hframe.carry⟩
  case foreign =>
    intro s b r x hup hr hb howner
    have hexec : exec (.bpmFree b r) s = effect (requesterNo r) s (s.bpmFree b r) := rfl
    have hrun : s.bpmFree b r = (s.bump Fld.bpmForeignFreeCnt_VAL).raise Ev.bpmForeignFree b r x.owner := by
      simp only [State.bpmFree, State.freeBuf, hb, howner, ne_eq, not_false_eq_true, if_true, Bool.false_eq_true, if_false]
    have hraise := State.raise_touches (ps := evtParts) (s.bump Fld.bpmForeignFreeCnt_VAL) Ev.bpmForeignFree b r x.owner rfl
    rw [← hrun] at hraise
    have hbuf : (s.bpmFree b r).buf? b = some x := (State.buf?_of_bufs (s := s) (congrArg BpmState.bufs (hraise .bpm rfl)) b).trans hb
    have hframe : Touches (.rc .bpmForeignFreeCnt :: evtParts) s (s.bpmFree b r) := (State.bump_touches _ _ _ _ rfl).step (hraise.mono rfl)
    have hcount : (s.bpmFree b r).count Fld.bpmForeignFreeCnt_VAL = s.counted Fld.bpmForeignFreeCnt_VAL :=
      State.count_bumped (Touches.refl [] s) hraise rfl rfl (by decide)
    generalize s.bpmFree b r = t at *
    exact gives_effect hexec hup (decide_eq_true hr) ⟨hcount, hbuf, hframe.carry⟩
  case visit =>
    intro s b x hup hen heng hb hgood
    have hrun := State.auditVisit_one hen b
    rw [State.auditBuf_used hb hgood] at hrun
    have hseen : ∀ y, s.auditVisit ⟨[], [b], false⟩ = (s.visitedOne.setBuf b y).afterFree →
        (s.auditVisit ⟨[], [b], false⟩).buf? b = some y ∧ (s.auditVisit ⟨[], [b], false⟩).bpm.visited = s.bpm.visited + 1 ∧
        (s.auditVisit ⟨[], [b], false⟩).bpm.leaks = s.bpm.leaks ∧ Touches [.fab, .bpm] s (s.auditVisit ⟨[], [b], false⟩) := by
      intro y hy
      have hidle : (s.visitedOne.setBuf b y).bpm.engWait = [] := heng
      obtain ⟨q, hq⟩ := State.afterFree_bpm hidle
      rw [hy]
      refine ⟨?_, ?_, ?_, ?_⟩
      · exact (State.buf?_of_bufs (State.afterFree_bufs hidle) b).trans (State.setBuf_buf? _ b y)
      · rw [hq]; rfl
      · rw [hq]; rfl
      · exact ((Touches.refl _ s).set_bpm rfl).step (State.afterFree_frame hidle rfl)
    refine ⟨fun href => ?_, fun href hnew => ?_, fun href hold => ?_⟩
    · obtain ⟨hbuf, hvisited, hleaks, hframe⟩ := hseen { x with seen := none } (hrun.trans (by rw [if_pos href]))
      exact gives_effect rfl hup rfl ⟨hbuf, hvisited, hleaks, hframe.carry⟩
    · have hleak : s.visitedOne.auditLeak b x = s.visitedOne.setBuf b { x with seen := some (Tab.get 0 s.bpm.allocs b) } := if_neg hnew
      obtain ⟨hbuf, -, hleaks, hframe⟩ := hseen _ (hrun.trans (by rw [href, if_neg Bool.false_ne_true, hleak]))
      exact gives_effect rfl hup rfl ⟨hbuf, hleaks, hframe.carry⟩
    · obtain ⟨hcount, hleaks, hbuf, hwait, hframe⟩ := State.auditLeak_gives (s := s.visitedOne) b hold hb
      have hrun : s.auditVisit ⟨[], [b], false⟩ = (s.visitedOne.auditLeak b x).afterFree := hrun.trans (by rw [href, if_neg Bool.false_ne_true])
      have hidle : (s.visitedOne.auditLeak b x).bpm.engWait = [] := hwait.trans heng
      obtain ⟨q, hq⟩ := State.afterFree_bpm hidle
      have hafter := State.afterFree_frame (ps := [.fab, .bpm]) hidle rfl
      have hcount' : (s.auditVisit ⟨[], [b], false⟩).count Fld.bpmLeakCnt_VAL = s.counted Fld.bpmLeakCnt_VAL := by
        rw [hrun]
        exact (State.count_of_rc (hafter _ rfl)).trans hcount
      have hleaks' : (s.auditVisit ⟨[], [b], false⟩).bpm.leaks = s.bpm.leaks + 1 := by
        rw [hrun, hq]
        exact hleaks
      have hbuf' : (s.auditVisit ⟨[], [b], false⟩).buf? b = if s.apB Fld.bpmAuditCfg_RECLAIM then none else some x := by
        rw [hrun]
        exact (State.buf?_of_bufs (State.afterFree_bufs hidle) b).trans hbuf
      have hframe' : Touches (evtParts ++ [Part.sw, .fab, .bpm, .rc .bpmLeakCnt]) s (s.auditVisit ⟨[], [b], false⟩) := by
        have hvisit : Touches (evtParts ++ [Part.sw, .fab, .bpm, .rc .bpmLeakCnt]) s s.visitedOne := (Touches.refl _ _).set_bpm rfl
        rw [hrun]
        exact hvisit.step ((hframe.mono rfl).step (hafter.mono rfl))
      exact gives_effect rfl hup rfl ⟨hcount', hleaks', hbuf', hframe'.carry⟩
  case store =>
    intro s b p hup hen heng hb hp hlt hbad
    subst hp
    have hrun := State.auditVisit_one hen b
    rw [State.auditBuf_free hb hbad] at hrun
    have hbpm := State.storeFault_bpm (s := s.visitedOne) hbad
    have hidle : (s.visitedOne.storeFault (bufPool b)).bpm.engWait = [] := (congrArg BpmState.engWait hbpm :).trans heng
    obtain ⟨q, hq⟩ := State.afterFree_bpm hidle
    have hlen := State.pool_of_bad hbad
    have hpool : (s.auditVisit ⟨[], [b], false⟩).pool (bufPool b) = (s.pool (bufPool b)).faulted := by
      rw [hrun, State.pool, State.afterFree_pools hidle, hbpm]
      exact State.setPool_pool_self hlen _
    have hfaults : (s.auditVisit ⟨[], [b], false⟩).bpm.faults = s.bpm.faults + 1 := by
      rw [hrun, hq]
      exact (congrArg BpmState.faults hbpm :)
    have hframe : Touches (evtParts ++ [Part.fab, .bpm]) s (s.auditVisit ⟨[], [b], false⟩) := by
      have hvisit : Touches (evtParts ++ [Part.fab, .bpm]) s s.visitedOne := (Touches.refl _ _).set_bpm rfl
      rw [hrun]
      exact hvisit.step ((State.storeFault_touches _ _ rfl).step (State.afterFree_frame hidle rfl))
    exact gives_effect rfl hup rfl ⟨hpool, hfaults, hframe.carry⟩
  case pass =>
    intro s hup hsums hen heng
    obtain ⟨hlast, hpass, hvisited, hwait, hcpl, hbufs, hframe⟩ := State.auditVisit_pass hsums hen heng
    exact gives_effect rfl hup rfl ⟨hlast, hpass, hvisited, hwait, hcpl, State.buf?_of_bufs hbufs, hframe.carry⟩
  case run =>
    intro s d hup hwf hacc
    have hrun : s.bpmAuditRun d = { (s.startCmd d) with bpm := { (s.startCmd d).bpm.newPass (s.startCmd d).clk.now with
        auditRun := (s.startCmd d).bpm.auditRun ++ [d] } } := State.runCmd_accepted_free hacc rfl
    have hbpm : (s.bpmAuditRun d).bpm = { s.bpm with
        auditRun := s.bpm.auditRun ++ [d], pass := s.bpm.pass + 1, visited := 0, leaks := 0, reclaimed := 0, faults := 0, passStart := s.clk.now } := by
      rw [hrun, State.startCmd_bpm, State.startCmd_clk]
      rfl
    have hframe : Touches (.bpm :: cplParts) s (s.bpmAuditRun d) := State.bpmAuditRun_touches s d rfl
    exact gives_effect rfl hup hwf ⟨hbpm, hframe.carry⟩
  case quota =>
    intro s p r v hup hp hr hw hfits
    obtain ⟨-, -, hdown, -⟩ := id hw
    have hstore : s.storeReg ⟨.bpmQuota, r, 0⟩ v allBits = { s with regs := s.regsAfterWrite ⟨.bpmQuota, r, 0⟩ v allBits } := by
      simp [State.storeReg, hfits]
    obtain ⟨hregs, hbufs, hframe⟩ := State.bpmQuotaWrite_kept hstore
    obtain ⟨hwritten, -, -, hothers, hfirst⟩ := State.stored_regsAfterWrite (v := v) (m := allBits) hdown rfl
    have hall : Touches (evtParts ++ [Part.regs, .fab, .bpm]) s (s.bpmQuotaWrite r v) := (hfirst.mono rfl).step (hframe.mono rfl)
    have hrun : s.regSet p ⟨.bpmQuota, r, 0⟩ v allBits = s.bpmQuotaWrite r v := by
      refine State.regSet_owned rfl hw ?_ (hall.regDown rfl rfl rfl)
      have hmerged : (s.written ⟨.bpmQuota, r, 0⟩ &&& ~~~ allBits) ||| (v &&& allBits) = v := by
        rw [and_allBits]
        simp [allBits]
      exact congrArg (fun w => some (s.bpmQuotaWrite r w)) hmerged
    rw [← hrun] at hregs hbufs hall
    have hsame : (s.regSet p ⟨.bpmQuota, r, 0⟩ v allBits).regs = s.regsAfterWrite ⟨.bpmQuota, r, 0⟩ v allBits := hregs
    have hothers' : OtherRegs ⟨.bpmQuota, r, 0⟩ s (s.regSet p ⟨.bpmQuota, r, 0⟩ v allBits) := hothers.of_regs hregs
    have hword : (s.regSet p ⟨.bpmQuota, r, 0⟩ v allBits).written ⟨.bpmQuota, r, 0⟩ =
        ((s.written ⟨.bpmQuota, r, 0⟩ &&& ~~~ RegKey.storedMask ⟨.bpmQuota, r, 0⟩) ||| (v &&& RegKey.storedMask ⟨.bpmQuota, r, 0⟩)) := by
      rw [State.written_of_regs hregs, hwritten, allBits_and]
    have hok : (p.wf && requesterNo r) = true := by simp [hp, requesterNo, hr]
    exact gives_effect rfl hup hok ⟨hword, hothers', State.buf?_of_bufs hbufs, hall.carry⟩

end Sys2Proof.Machine
end

section
/-! ## Flow control, holds and limits of ports (R142 to R148) -/

set_option Elab.async false

namespace Sys2Proof.Machine

/-! ### What stands of a port -/

/-- Two states of a port that differ in XOFF, its causes and the frames that it asks for alone. -/
def PortSt.sameButXoff (x y : PortSt) : Prop := ∃ h n f, y = { x with holders := h, xoff := n, fc := f }

theorem PortSt.sameButXoff_refl (x : PortSt) : x.sameButXoff x := ⟨x.holders, x.xoff, x.fc, rfl⟩

theorem PortSt.sameButXoff.trans {x y z : PortSt} (h : x.sameButXoff y) (g : y.sameButXoff z) : x.sameButXoff z := by
  obtain ⟨a, b, c, rfl⟩ := h
  obtain ⟨d, e, f, rfl⟩ := g
  exact ⟨d, e, f, rfl⟩

section SetPort

variable (s : State) (p : Nat) (x : PortSt)

theorem State.setPort_port_self : (s.setPort p x).port p = x := Tab.get_set_self _ _ _ _

variable {p}

theorem State.setPort_port_ne {q : Nat} (h : q ≠ p) : (s.setPort p x).port q = s.port q := Tab.get_set_ne _ _ _ _ _ h

theorem State.setPort_sameButXoff {q : Nat} (h : (s.port p).sameButXoff x) : (s.port q).sameButXoff ((s.setPort p x).port q) := by
  by_cases hq : q = p
  · subst hq
    rwa [State.setPort_port_self]
  · rw [State.setPort_port_ne s x hq]
    exact PortSt.sameButXoff_refl _

end SetPort

theorem foldl_sameButXoff {α : Type} {f : State → α → State} {p : Nat} (hf : ∀ (s : State) x, (s.port p).sameButXoff ((f s x).port p)) (l : List α)
    (s : State) : (s.port p).sameButXoff ((l.foldl f s).port p) := by
  induction l generalizing s with
  | nil => exact PortSt.sameButXoff_refl _
  | cons x l ih => exact (hf s x).trans (ih (f s x))

theorem State.xoffUpdate_port (s : State) (p : Nat) : (s.port p).sameButXoff (s.xoffUpdate.port p) := by
  unfold State.xoffUpdate
  extract_lets s1
  have h1 : (s.port p).sameButXoff (s1.port p) := by
    refine foldl_sameButXoff (fun s e => ?_) _ s
    split
    · exact PortSt.sameButXoff_refl _
    · exact State.setPort_sameButXoff _ _ ⟨_, _, _, rfl⟩
  refine h1.trans (foldl_sameButXoff (fun s q => ?_) _ s1)
  split
  · exact PortSt.sameButXoff_refl _
  · dsimp only
    split
    · exact PortSt.sameButXoff_refl _
    · exact State.setPort_sameButXoff _ _ ⟨_, _, _, rfl⟩

/-- What a free leaves of the fabric before XOFF follows. -/
theorem State.engRetry_fab (s : State) : s.causesClear.engRetry.fab = s.fab :=
  (State.engRetry_touches (ps := Part.others .fab) _ rfl .fab rfl).trans s.causesClear_fab

theorem State.afterFree_port (s : State) (p : Nat) : (s.port p).sameButXoff (s.afterFree.port p) := by
  rw [← State.port_of_fab s.engRetry_fab p]
  exact State.xoffUpdate_port _ p

theorem State.afterFree_copy? (s : State) (c : Nat) : s.afterFree.copy? c = s.copy? c := by
  rw [State.afterFree, State.xoffUpdate_copy?, State.copy?_of_fab s.engRetry_fab]

/-! ### Copies that leave -/

theorem State.frameGone_copies (s : State) (f : Nat) : (s.frameGone f).fab.copies = s.fab.copies := by
  unfold State.frameGone
  split
  · rfl
  · split <;> rfl

theorem State.removeCopy_copy? (s : State) (c : Nat) : (s.removeCopy c).copy? c = none := by
  unfold State.removeCopy
  split
  · next h => exact h
  · rw [State.copy?, State.frameGone_copies]
    exact Tab.find_erase_self _ _

/-! ### Flow control -/

theorem State.deadlineEpisode_port (s : State) (p : Nat) :
    (∃ b, (s.deadlineEpisode p).port p = { s.port p with deadlineRaised := b }) ∧ ∀ q, q ≠ p → (s.deadlineEpisode p).port q = s.port q := by
  unfold State.deadlineEpisode
  split
  · exact ⟨⟨false, State.setPort_port_self _ _ _⟩, fun q hq => State.setPort_port_ne _ _ hq⟩
  · exact ⟨⟨_, rfl⟩, fun q _ => rfl⟩

/-- A port that has received flow control (R143). -/
def PortSt.flowTaken (x : PortSt) (pfc : Bool) (e : Nat) (l : List Nat) : PortSt :=
  if pfc then { x with pfcHeld := bitMap (fun t => if bitAt e t then decide (0 < l.getD t 0) else bitAt x.pfcHeld t) 8 }
  else { x with paused := decide (0 < l.getD 0 0) }

/-- A change of what flow control holds on a port. -/
theorem State.flowHeld_gives (s : State) (p : Nat) (x : PortSt) :
    (∃ b, ((s.setPort p x).deadlineEpisode p).port p = { x with deadlineRaised := b }) ∧
    (∀ q, q ≠ p → ((s.setPort p x).deadlineEpisode p).port q = s.port q) ∧ Touches [.fab] s ((s.setPort p x).deadlineEpisode p) := by
  obtain ⟨⟨b, hself⟩, hothers⟩ := (s.setPort p x).deadlineEpisode_port p
  rw [State.setPort_port_self] at hself
  exact ⟨⟨b, hself⟩, fun q hq => (hothers q hq).trans (State.setPort_port_ne s x hq),
    ((Touches.refl _ s).set_fab rfl).step (State.deadlineEpisode_touches _ p rfl)⟩

/-! ### Holds and limits -/

/-- What a step has counted once, before what counts nothing more in the same register. -/
theorem State.count_bumped_at {s u t : State} {ps qs : List Part} {f : FieldRef} (i n : Nat) (hu : Touches ps s u) (ht : Touches qs (u.bump f i n) t)
    (hps : ps.any (fun q => q.covers (.rc f.reg)) = false) (hqs : qs.any (fun q => q.covers (.rc f.reg)) = false)
    (hfits : f.lo + f.width ≤ 32) : t.count f i = s.counted f i n := by
  have hcount : u.count f i = s.count f i := State.count_of_rc (hu _ hps)
  rw [State.count_of_rc (ht _ hqs), State.count_bump u f i n hfits, State.counted, State.counted, hcount]

/-- A hold that ends. -/
theorem State.portFlush_gives (s : State) (p : Nat) :
    ((s.portFlush p).port p).holding = false ∧ ((s.portFlush p).port p).flushed = true ∧
    (s.portFlush p).count Fld.portHoldFlush_VAL p = s.counted Fld.portHoldFlush_VAL p (s.beQueued p).length ∧
    Touches (copyParts ++ [Part.rc .portHoldFlush]) s (s.portFlush p) := by
  have hflush := State.flushCopies_touches (ps := copyParts) s (s.beQueued p) 1 rfl
  have hcounted := State.bump_touches (ps := [.rc .portHoldFlush]) (s.flushCopies (s.beQueued p) 1) Fld.portHoldFlush_VAL p (s.beQueued p).length rfl
  generalize hu : (s.flushCopies (s.beQueued p) 1).bump Fld.portHoldFlush_VAL p (s.beQueued p).length = u at hcounted
  generalize hv : (u.setPort p { u.port p with holding := false, flushed := true }).raise Ev.portHoldEnd p 1 (s.beQueued p).length = v
  have hport : v.port p = { u.port p with holding := false, flushed := true } := by
    rw [← hv, State.port_of_fab (State.raise_fab _ _ _ _ _)]
    exact State.setPort_port_self _ _ _
  have hrun : s.portFlush p = v.afterFree := by
    subst hv hu
    rfl
  have hrest : Touches copyParts u v.afterFree := by
    have hset : Touches copyParts u (u.setPort p { u.port p with holding := false, flushed := true }) := (Touches.refl _ u).set_fab rfl
    rw [← hv]
    exact (hset.step (State.raise_touches _ _ _ _ _ rfl)).step (State.afterFree_touches _ rfl)
  obtain ⟨h, n, f, hafter⟩ := v.afterFree_port p
  rw [hport] at hafter
  rw [hrun]
  refine ⟨by rw [hafter], by rw [hafter], ?_, (hflush.mono rfl).step ((hcounted.mono rfl).step (hrest.mono rfl))⟩
  rw [← hu] at hrest
  exact State.count_bumped_at p _ hflush hrest rfl rfl (by decide)

theorem State.pauseReceive_gives {s : State} {p : Nat} (pfc : Bool) (e : Nat) (l : List Nat) (hmode : s.fcMode p ≠ 0) :
    (∃ b, (s.pauseReceive p pfc e l).port p = { (s.port p).flowTaken pfc e l with deadlineRaised := b }) ∧
    (s.pauseReceive p pfc e l).count Fld.portPauseRx_VAL p = s.counted Fld.portPauseRx_VAL p ∧
    (∀ q, q ≠ p → (s.pauseReceive p pfc e l).port q = s.port q) ∧ Touches [.fab, .rc .portPauseRx] s (s.pauseReceive p pfc e l) := by
  obtain ⟨hself, hothers, hframe⟩ := (s.bump Fld.portPauseRx_VAL p).flowHeld_gives p ((s.port p).flowTaken pfc e l)
  have hrun : s.pauseReceive p pfc e l = ((s.bump Fld.portPauseRx_VAL p).setPort p ((s.port p).flowTaken pfc e l)).deadlineEpisode p := if_neg hmode
  rw [← hrun] at hself hothers hframe
  exact ⟨hself, State.count_bumped_at p 1 (Touches.refl [] s) hframe rfl rfl (by decide), hothers,
    (State.bump_touches _ _ _ _ rfl).step (hframe.mono rfl)⟩

/-- A queued copy that is discarded at its limit: a counter of its port, and what the port notes. -/
def State.limitDrop (s : State) (c : Nat) (x : Copy) (o : Nat) (f : FieldRef) : State := ((s.tsLost x o).bump f x.port).removeCopy c

section LimitDrop

variable {s t : State} {c o : Nat} {x : Copy} {f : FieldRef} {y : PortSt} {b : Bool} {e : Evt} {a0 a1 : Nat}
  (ht : t = (((s.limitDrop c x o f).setPort x.port y).raiseIf b e a0 a1).afterFree)
include ht

theorem State.limitDrop_copy? : t.copy? c = none := by
  rw [ht, State.afterFree_copy?, State.copy?_of_fab (State.raiseIf_fab _ _ _ _ _ _)]
  exact State.removeCopy_copy? _ _

theorem State.limitDrop_port : y.sameButXoff (t.port x.port) := by
  have hport : (((s.limitDrop c x o f).setPort x.port y).raiseIf b e a0 a1).port x.port = y := by
    rw [State.port_of_fab (State.raiseIf_fab _ _ _ _ _ _)]
    exact State.setPort_port_self _ _ _
  have hafter := State.afterFree_port (((s.limitDrop c x o f).setPort x.port y).raiseIf b e a0 a1) x.port
  rwa [hport, ← ht] at hafter

theorem State.limitDrop_rest : Touches copyParts ((s.tsLost x o).bump f x.port) t := by
  have hdrop := State.removeCopy_touches (ps := copyParts) ((s.tsLost x o).bump f x.port) c rfl
  have hset : Touches copyParts (s.limitDrop c x o f) ((s.limitDrop c x o f).setPort x.port y) := (Touches.refl _ _).set_fab rfl
  rw [ht]
  exact hdrop.step ((hset.step (State.raiseIf_touches _ _ _ _ _ _ rfl)).step (State.afterFree_touches _ rfl))

theorem State.limitDrop_count (hcounts : copyParts.any (fun q => q.covers (.rc f.reg)) = false) (hfits : f.lo + f.width ≤ 32) :
    t.count f x.port = s.counted f x.port :=
  State.count_bumped_at x.port 1 (State.tsLost_touches (ps := copyParts) s x o rfl) (State.limitDrop_rest ht) hcounts hcounts hfits

theorem State.limitDrop_touches {ps : List Part} (hw : Part.within copyParts ps = true) (hrc : Part.within [.rc f.reg] ps = true) : Touches ps s t :=
  ((State.tsLost_touches s x o (Part.within_trans rfl hw)).step (State.bump_touches _ _ _ _ hrc)).step ((State.limitDrop_rest ht).mono hw)

end LimitDrop

/-- PORT_RES_LIMIT is raised at most once in a second (R148). -/
def PortSt.resDue (y : PortSt) (now : Nat) : Bool :=
  match y.resRaised with
  | none => true
  | some t => decide (t + 10 ^ 12 ≤ now)

/-- A port that has seen one more copy reach its residence limit. -/
def PortSt.expiryNoted (y : PortSt) (now : Nat) : PortSt :=
  { y with resTimes := now :: y.resTimes.filter (fun t => decide (now < t + 10 ^ 12))
           resRaised := if y.resDue now then some now else y.resRaised }

theorem State.residenceExpire_eq {s : State} {c : Nat} {x : Copy} (hx : s.copy? c = some x) (hst : x.st = .queued) (hearly : x.deadline = none) :
    s.residenceExpire c = (((s.limitDrop c x 3 Fld.portResExpired_VAL).setPort x.port
      (((s.limitDrop c x 3 Fld.portResExpired_VAL).port x.port).expiryNoted s.clk.now)).raiseIf
        (((s.limitDrop c x 3 Fld.portResExpired_VAL).port x.port).resDue s.clk.now) Ev.portResLimit x.port
        (((s.limitDrop c x 3 Fld.portResExpired_VAL).port x.port).expiryNoted s.clk.now).resTimes.length).afterFree := by
  have hdue : ¬ (x.st = .tx ∨ x.st = .sent ∨ (x.st = .wait ∧ (!((s.frame? x.frame).any (fun f => f.port == 96))) = true) ∨ false = true) := by
    simp [hst]
  unfold State.residenceExpire
  rw [hx]
  dsimp only
  rw [hearly]
  exact if_neg hdue

/-! ### The statement -/

/-- Settles O29. -/
theorem pauseHoldAndLimits : Obligations.PauseHoldAndLimits := by
  unfold Obligations.PauseHoldAndLimits
  refine ⟨?pfc, ?pause, ?quanta, ?refresh, ?hold, ?deadline, ?residence, ?holdWrite, ?limitWrite⟩
  case pfc =>
    intro s p e l hup hwf hmode
    obtain ⟨⟨b, hself⟩, hcount, hothers, hframe⟩ := State.pauseReceive_gives true e l hmode
    exact gives_effect rfl hup hwf ⟨(congrArg PortSt.pfcHeld hself :), (congrArg PortSt.paused hself :), hcount, hothers, hframe.carry⟩
  case pause =>
    intro s p e l hup hwf hmode
    obtain ⟨⟨b, hself⟩, hcount, hothers, hframe⟩ := State.pauseReceive_gives false e l hmode
    exact gives_effect rfl hup hwf ⟨(congrArg PortSt.paused hself :), (congrArg PortSt.pfcHeld hself :), hcount, hothers, hframe.carry⟩
  case quanta =>
    intro s p m hup hwf
    obtain ⟨⟨b, hself⟩, hothers, hframe⟩ := s.flowHeld_gives p { s.port p with
      pfcHeld := bitMap (fun t => bitAt (s.port p).pfcHeld t && !(bitAt m t)) 8, paused := (s.port p).paused && !(bitAt m 8) }
    exact gives_effect rfl hup hwf ⟨(congrArg PortSt.pfcHeld hself :), (congrArg PortSt.paused hself :), hothers, hframe.carry⟩
  case refresh =>
    intro s p hup hp hxoff hmode
    generalize hx : ({ s.port p with fc := (s.port p).fc ++ [⟨if s.fcMode p = 2 then (s.port p).xoff else 0xFF, true⟩] } : PortSt) = x
    have hrun : s.pfcRefresh p = s.setPort p x := by
      rw [← hx]
      exact if_neg (by simp [hxoff, hmode])
    have hself : (s.pfcRefresh p).port p = x := hrun ▸ State.setPort_port_self s p x
    have hothers : ∀ q, q ≠ p → (s.pfcRefresh p).port q = s.port q := fun q hq => hrun ▸ State.setPort_port_ne s x hq
    have hframe : Touches [.fab] s (s.pfcRefresh p) := hrun ▸ (Touches.refl _ s).set_fab rfl
    exact gives_effect rfl hup (decide_eq_true hp) ⟨hself, hothers, hframe.carry⟩
  case hold =>
    intro s p hup hp hhold
    obtain ⟨hholding, hflushed, hcount, hframe⟩ := s.portFlush_gives p
    have hrun : s.portHoldExpire p = s.portFlush p := if_pos hhold
    rw [← hrun] at hholding hflushed hcount hframe
    exact gives_effect rfl hup (decide_eq_true hp) ⟨hholding, hflushed, hcount, hframe.carry⟩
  case deadline =>
    intro s c x hup hx hst hq hheld
    have hdue : ¬ (x.st ≠ .queued ∨ x.q ≠ 8 ∨ ((s.port x.port).up = true ∧ (!(s.queueHeld x.port 8)) = true)) := by
      rcases hheld with h | h <;> simp [hst, hq, h]
    have hrun : s.sqDeadlineExpire c = (((s.limitDrop c x 2 Fld.portDeadlineExpired_VAL).setPort x.port
        { (s.limitDrop c x 2 Fld.portDeadlineExpired_VAL).port x.port with deadlineRaised := true }).raiseIf
          (!((s.limitDrop c x 2 Fld.portDeadlineExpired_VAL).port x.port).deadlineRaised) Ev.portDeadline).afterFree := by
      unfold State.sqDeadlineExpire
      rw [hx]
      exact if_neg hdue
    have hraised : ((s.sqDeadlineExpire c).port x.port).deadlineRaised = true := by
      obtain ⟨h, n, f, hport⟩ := State.limitDrop_port hrun
      rw [hport]
    have hframe : Touches (copyParts ++ [Part.rc .portDeadlineExpired]) s (s.sqDeadlineExpire c) := State.limitDrop_touches hrun rfl rfl
    have hgone := State.limitDrop_copy? hrun
    have hcount := State.limitDrop_count hrun rfl (by decide)
    exact gives_effect rfl hup rfl ⟨hgone, hraised, hcount, hframe.carry⟩
  case residence =>
    intro s c x hup hx hst hearly
    have hrun := State.residenceExpire_eq hx hst hearly
    have htimes : ((s.residenceExpire c).port x.port).resTimes.head? = some s.clk.now := by
      obtain ⟨h, k, f, hport⟩ := State.limitDrop_port hrun
      rw [hport]
      rfl
    have hgone := State.limitDrop_copy? hrun
    have hcount := State.limitDrop_count hrun rfl (by decide)
    have hframe : Touches (copyParts ++ [Part.rc .portResExpired]) s (s.residenceExpire c) := State.limitDrop_touches hrun rfl rfl
    exact gives_effect rfl hup rfl ⟨hgone, hcount, htimes, hframe.carry⟩
  case holdWrite =>
    intro s q p v hup hq hp hw hfits hhold
    obtain ⟨-, -, hdown, -⟩ := id hw
    have hstore : s.storeReg ⟨.portHold, p, 0⟩ v allBits = { s with regs := s.regsAfterWrite ⟨.portHold, p, 0⟩ v allBits } := by
      simp [State.storeReg, hfits]
    have hown : s.portHoldWrite p v allBits = { s with regs := s.regsAfterWrite ⟨.portHold, p, 0⟩ v allBits } := by
      unfold State.portHoldWrite
      rw [hstore]
      exact if_neg (by simp [show (({ s with regs := s.regsAfterWrite ⟨.portHold, p, 0⟩ v allBits } : State).port p).holding = false from hhold])
    have hrun : s.regSet q ⟨.portHold, p, 0⟩ v allBits = { s with regs := s.regsAfterWrite ⟨.portHold, p, 0⟩ v allBits } :=
      State.regSet_owned rfl hw (congrArg some hown) (State.regDown_congr rfl rfl rfl)
    have hstored := State.stored_regsAfterWrite (s := s) (k := ⟨.portHold, p, 0⟩) (v := v) (m := allBits) hdown rfl
    rw [← hrun, allBits_and] at hstored
    have hok : (q.wf && lanePort p) = true := by simp [hq, lanePort, hp]
    exact gives_effect rfl hup hok hstored.carry
  case limitWrite =>
    intro s q v hup hq hw hfits hbound
    obtain ⟨-, -, hdown, -⟩ := id hw
    have hown : s.resCfgWrite v allBits = { s with regs := s.regsAfterWrite ⟨.swResCfg, 0, 0⟩ v allBits } := by
      simp [State.resCfgWrite, State.storeReg, hfits, hbound]
    have hrun : s.regSet q ⟨.swResCfg, 0, 0⟩ v allBits = { s with regs := s.regsAfterWrite ⟨.swResCfg, 0, 0⟩ v allBits } :=
      State.regSet_owned rfl hw (congrArg some hown) (State.regDown_congr rfl rfl rfl)
    have hstored := State.stored_regsAfterWrite (s := s) (k := ⟨.swResCfg, 0, 0⟩) (v := v) (m := allBits) hdown rfl
    rw [← hrun, allBits_and] at hstored
    exact gives_effect rfl hup hq hstored.carry

end Sys2Proof.Machine
end

section
/-! ## Frames that queue, are picked and leave (R128 to R135, R164, R215) -/

set_option Elab.async false

namespace Sys2Proof.Machine

/-! ### Copies -/

theorem State.setCopy_copy?_self (s : State) (c : Nat) (x : Copy) : (s.setCopy c x).copy? c = some x := Tab.find_set_self _ _ _

theorem insertAsc_ne_nil (x : Nat) (l : List Nat) : insertAsc x l ≠ [] := by
  cases l with
  | nil => simp [insertAsc]
  | cons y l =>
    unfold insertAsc
    split
    · simp
    · split <;> simp

/-- A frame that has a copy lists one. -/
theorem State.copiesOf_ne_nil {s : State} {f c : Nat} {x : Copy} (h : s.copy? c = some x) (hf : x.frame = f) : s.copiesOf f ≠ [] := by
  have hmem : ∀ l : List (Nat × Copy), Tab.find l c = some x → (c, x) ∈ l := by
    intro l
    induction l with
    | nil => intro h; cases h
    | cons e l ih =>
      obtain ⟨a, b⟩ := e
      intro h
      by_cases ha : a = c
      · simp only [Tab.find, ha, if_true, Option.some.injEq] at h
        simp [ha, h]
      · simp only [Tab.find, ha, if_false] at h
        exact List.mem_cons_of_mem _ (ih h)
  have hlist : (c, x) ∈ s.fab.copies.filter (fun e => e.2.frame == f) := List.mem_filter.mpr ⟨hmem _ h, by simp [hf]⟩
  have hfold : ∀ (l : List (Nat × Copy)) (acc : List Nat), acc ≠ [] → l.foldl (fun l e => insertAsc e.1 l) acc ≠ [] := by
    intro l
    induction l with
    | nil => exact fun _ h => h
    | cons e l ih => exact fun acc _ => ih _ (insertAsc_ne_nil e.1 acc)
  unfold State.copiesOf
  cases hl : s.fab.copies.filter (fun e => e.2.frame == f) with
  | nil => rw [hl] at hlist; cases hlist
  | cons e l => exact hfold l _ (insertAsc_ne_nil e.1 [])

theorem State.copiesOf_of_copies {s t : State} (h : t.fab.copies = s.fab.copies) (f : Nat) : t.copiesOf f = s.copiesOf f := by
  simp only [State.copiesOf, h]

/-- A frame that has a copy has not left. -/
theorem State.frameGone_stays {s : State} {f : Nat} (h : s.copiesOf f ≠ []) : s.frameGone f = s := by
  unfold State.frameGone
  split
  · rfl
  · rw [if_neg]
    simp [h]

theorem State.frame?_of_fab {s t : State} (h : t.fab = s.fab) (f : Nat) : t.frame? f = s.frame? f := by
  simp only [State.frame?, h]

theorem State.afterFree_frame? (s : State) (f : Nat) : s.afterFree.frame? f = s.frame? f := by
  obtain ⟨l, hl⟩ := s.causesClear.engRetry.xoffUpdate_ports
  rw [State.afterFree, hl]
  exact State.frame?_of_fab s.engRetry_fab f

/-! ### A frame that fails its check sequence -/

/-- A port that has discarded one more frame at its input. -/
def PortSt.discarded (x : PortSt) : PortSt := { x with ingDisc := satAdd 32 x.ingDisc 1 }

theorem State.fcsFail_gives {s : State} {f : Nat} {fr : Frame} (hfr : s.frame? f = some fr) (hcopies : s.copiesOf f = []) :
    (s.fcsFail f fr).frame? f = none ∧ ((s.fcsFail f fr).port fr.port).ingDisc = satAdd 32 (s.port fr.port).ingDisc 1 := by
  unfold State.fcsFail
  extract_lets _ s1 s2
  have hfab : s2.fab = (s.setPort fr.port (s.port fr.port).discarded).fab := by
    simp only [s2]
    split
    · rfl
    · exact (foldl_kept (g := State.fab) (List.range 24) (fun _ _ _ => rfl) s1).trans rfl
  clear_value s2
  have hs2 : s2.frame? f = some fr := (State.frame?_of_fab hfab f).trans hfr
  have hnone : (s2.setFrame f { fr with drop := true }).copiesOf f = [] := by
    refine (State.copiesOf_of_copies (s := s) ?_ f).trans hcopies
    show s2.fab.copies = s.fab.copies
    rw [hfab]
    rfl
  have hset : (s2.setFrame f { fr with drop := true }).frame? f = some { fr with drop := true } := Tab.find_set_self _ _ _
  have hsnone : s2.copiesOf f = [] := hnone
  have hdrop : s2.dropFrame f = (s2.setFrame f { fr with drop := true }).frameGone f := by
    simp only [State.dropFrame, hs2, hsnone, List.foldl_nil]
  have hgone : ((s2.setFrame f { fr with drop := true }).frameGone f).frame? f = none ∧
      ((s2.setFrame f { fr with drop := true }).frameGone f).port fr.port = s2.port fr.port := by
    simp only [State.frameGone, hset, hnone, List.isEmpty_nil, Bool.true_or, Bool.and_self, if_true]
    exact ⟨Tab.find_erase_self _ _, rfl⟩
  obtain ⟨hframe, hport⟩ := hgone
  rw [← hdrop] at hframe hport
  have hself : s2.port fr.port = (s.port fr.port).discarded := (State.port_of_fab hfab _).trans (State.setPort_port_self s _ _)
  refine ⟨(State.afterFree_frame? _ f).trans hframe, ?_⟩
  obtain ⟨h, n, l, hafter⟩ := (s2.dropFrame f).afterFree_port fr.port
  rw [hafter, hport, hself]
  rfl

/-! ### A frame that becomes eligible -/

section Eligible

variable {s : State} {f c : Nat} {fr : Frame} {x : Copy}

/-- A copy within the MTU of a lane port enters its queue. -/
theorem State.enqueue_gives (hx : s.copy? c = some x) (hport : x.port < 96) (hfr : fr.port ≠ 96) (pop : Bool)
    (hmtu : (if x.len ≠ 0 then x.len else fr.h.outLen x.tag x.rtag.isSome pop) ≤ s.mtu x.port) :
    (∃ y, (s.enqueue fr c pop).copy? c = some y ∧ y.st = .queued ∧ y.elig = s.clk.now ∧ y.frame = x.frame ∧ y.port = x.port ∧ y.q = x.q) ∧
    (s.enqueue fr c pop).queue x.port x.q = s.queue x.port x.q ++ [c] ∧ (s.enqueue fr c pop).fab.frames = s.fab.frames := by
  have hne : x.port ≠ 96 := Nat.ne_of_lt hport
  unfold State.enqueue
  split
  · next hnone => rw [hx] at hnone; cases hnone
  next z hz =>
  obtain rfl : x = z := Option.some.inj (hx.symm.trans hz)
  extract_lets len dl y s1
  have hlen : ¬ s.mtu x.port < len := Nat.not_lt.mpr hmtu
  have hs1 : s1 = s.setCopy c y := rfl
  have hy : y.st = .queued ∧ y.elig = s.clk.now ∧ y.frame = x.frame ∧ y.port = x.port ∧ y.q = x.q := by
    simp only [y, hne, hfr, if_false]
    exact ⟨trivial, trivial, trivial, trivial, trivial⟩
  clear_value y
  rw [if_neg hlen, if_neg hne, hs1]
  refine ⟨⟨y, State.setCopy_copy?_self s c y, hy⟩, ?_, rfl⟩
  rw [State.setQueue, State.queue, State.setPort_port_self]
  exact Tab.get_set_self _ _ _ _

theorem State.cbRecover_none (h : fr.cbFn = none) : s.cbRecover fr = (s, true, false) := by
  unfold State.cbRecover
  rw [h]
  rfl

theorem State.cbGenerate_none (h : fr.genFn = none) (cs : List Nat) : s.cbGenerate fr cs = s := by
  unfold State.cbGenerate
  rw [h]
  rfl

/-- A frame that has become eligible. -/
def Frame.passed (fr : Frame) : Frame := { fr with eligible := true }

/-- The part with an eligible frame whose copies have not moved yet. -/
def State.passing (s : State) (f : Nat) (fr : Frame) : State := (s.setFrame f fr.passed).tagStage f 4

theorem State.passing_fab : (s.passing f fr).fab = (s.setFrame f fr.passed).fab :=
  State.tagStage_touches (ps := Part.others .fab) (s.setFrame f fr.passed) f 4 rfl .fab rfl

theorem State.passing_frame? : (s.passing f fr).frame? f = some fr.passed :=
  (State.frame?_of_fab State.passing_fab f).trans (Tab.find_set_self _ _ _)

theorem State.passing_copies : (s.passing f fr).fab.copies = s.fab.copies :=
  (congrArg FabState.copies State.passing_fab :)

theorem State.passing_port (p : Nat) : (s.passing f fr).port p = s.port p := State.port_of_fab (s := s.setFrame f fr.passed) State.passing_fab p

/-- The part with the frame in its queue, and its source to be learned. -/
def State.passedOn (s : State) (f c : Nat) (fr : Frame) : State :=
  if fr.learn && true then ((s.passing f fr).enqueue fr.passed c false).queueLearn ⟨fr.h.src, fr.vid, fr.port⟩
  else (s.passing f fr).enqueue fr.passed c false

theorem State.passedOn_fab : (s.passedOn f c fr).fab = ((s.passing f fr).enqueue fr.passed c false).fab := by
  unfold State.passedOn
  split
  · exact State.queueLearn_touches (ps := Part.others .fab) _ _ rfl .fab rfl
  · rfl

/-- What a frame of a lane port with one copy and no 802.1CB function does when it becomes eligible. -/
theorem State.frameEligible_one (hf : s.frame? f = some fr) (hdec : fr.decided = true) (hel : fr.eligible = false) (hport : fr.port ≠ 96)
    (hcb : fr.cbFn = none) (hgen : fr.genFn = none) (hcopies : s.copiesOf f = [c]) (hcov : s.covered f = true) :
    s.frameEligible f true = ((s.passedOn f c fr).frameGone f).afterFree := by
  have hlist : (s.passing f fr).copiesOf f = [c] := (State.copiesOf_of_copies State.passing_copies f).trans hcopies
  have hnow : ¬ (fr.eligible = true) := by simp [hel]
  have hready : ¬ ((!fr.decided || !(s.covered f)) = true) := by simp [hdec, hcov]
  unfold State.frameEligible
  split
  · next hnone => rw [hf] at hnone; cases hnone
  next z hz =>
  obtain rfl : fr = z := Option.some.inj (hf.symm.trans hz)
  rw [if_neg hnow, if_neg (by simp), if_neg hready]
  extract_lets fr1 r cs s3 s4 s5 s6
  have hfr1 : fr1 = fr.passed := by
    simp only [fr1, hport, if_false]
    rfl
  have hr : r = (s.passing f fr, true, false) := by
    simp only [r, hfr1]
    exact State.cbRecover_none hcb
  have hcs : cs = [c] := by
    simp only [cs, hr]
    exact hlist
  have hs3 : s3 = s.passing f fr := by
    simp only [s3, hr, if_true]
    exact State.cbGenerate_none hgen cs
  have hs4 : s4 = s.passing f fr := by
    simp only [s4, hport, if_false]
    exact hs3
  have hs5 : s5 = (s.passing f fr).enqueue fr.passed c false := by
    simp only [s5, hs4, hcs, hfr1, hr, List.foldl_cons, List.foldl_nil]
  have hs6 : s6 = s.passedOn f c fr := by
    simp only [s6, hs5, hr]
    rfl
  rw [hs6]

end Eligible

/-! ### Transmission -/

theorem State.headOf_copy? {s : State} {p q c : Nat} {x : Copy} (h : s.headOf p q = some (c, x)) : s.copy? c = some x := by
  unfold State.headOf at h
  split at h
  · cases h
  · obtain ⟨d, -, hd⟩ := Option.bind_eq_some_iff.mp h
    obtain ⟨y, hy, hyx⟩ := Option.bind_eq_some_iff.mp hd
    have hpair : (d, y) = (c, x) := by
      split at hyx
      · split at hyx
        · exact Option.some.inj hyx
        · cases hyx
      · exact Option.some.inj hyx
    obtain ⟨rfl, rfl⟩ := Prod.mk.inj hpair
    exact hy

theorem State.unqueue_copies (s : State) (c : Nat) : (s.unqueue c).fab.copies = s.fab.copies := by
  unfold State.unqueue
  split <;> rfl

/-- A copy that starts its transfer. -/
def Copy.started (x : Copy) (now : Nat) : Copy := { x with st := .tx, selAt := some now, txAt := now, txDone := 0 }

theorem State.startTx_gives {s : State} {p c : Nat} {x : Copy} (hx : s.copy? c = some x) :
    ((s.startTx p c).port p).tx = some c ∧ (s.startTx p c).copy? c = some (x.started s.clk.now) := by
  have hrun : s.startTx p c = ((((s.setCopy c (x.started s.clk.now)).unqueue c).setPort p
      { ((s.setCopy c (x.started s.clk.now)).unqueue c).port p with tx := some c }).xoffUpdate) := by
    unfold State.startTx
    rw [hx]
    rfl
  rw [hrun]
  constructor
  · obtain ⟨h, n, l, hafter⟩ := (((s.setCopy c (x.started s.clk.now)).unqueue c).setPort p
      { ((s.setCopy c (x.started s.clk.now)).unqueue c).port p with tx := some c }).xoffUpdate_port p
    rw [hafter, State.setPort_port_self]
  · rw [State.xoffUpdate_copy?]
    exact (congrArg (fun l => Tab.find l c) (State.unqueue_copies _ c)).trans (State.setCopy_copy?_self s c _)

/-- At a frame boundary of a port that is up and not quiet the next frame is picked. -/
theorem State.schedSelect_pick {s : State} {p : Nat} (hp : p < 96) (hup : (s.port p).up = true) (hmid : s.midTx p = none)
    (hquiet : (s.setPort p { s.port p with tx := none }).txQuiet p = false) :
    s.schedSelect p = (s.setPort p { s.port p with tx := none }).pickTx p := by
  have hstays : s.preempt p (s.expressReady p) = s := by
    unfold State.preempt
    rw [hmid]
  have hgo : ¬ ((!((s.port p).up) || decide (p = 96)) = true) := by simp [hup, Nat.ne_of_lt hp]
  unfold State.schedSelect
  rw [if_neg hgo, hstays]
  dsimp only
  rw [hmid, hquiet]
  rfl

/-- A copy in transfer that keeps its place. -/
theorem State.schedSelect_stays {s : State} {p c : Nat} {x : Copy} (hmid : s.midTx p = some (c, x))
    (hgive : s.expressReady p = false ∨ s.preemptPoint p x = false) (hhold : (s.port p).hold = false) (hgate : bitAt (s.port p).gates x.q = true) :
    s.schedSelect p = s := by
  have hstays : s.preempt p (s.expressReady p) = s := by
    unfold State.preempt
    rw [hmid]
    refine if_neg ?_
    rcases hgive with h | h <;> simp [h, hhold, hgate]
  unfold State.schedSelect
  rw [hstays]
  split
  · rfl
  · simp [hmid]

/-! ### The timestamp point -/

/-- A copy that has been sent. -/
def Copy.gone (x : Copy) : Copy := { x with st := .sent, tsReq := none }

/-- The timestamp point of a frame in transfer: the copy is sent, and its port notes the latch (R215). -/
theorem State.egressSfd_gives {s : State} {p c : Nat} {marker : Int} {x : Copy} {fr : Frame} (htx : (s.port p).tx = some c)
    (hx : s.copy? c = some x) (hfr : s.frame? x.frame = some fr) (hst : x.st = .tx) :
    (s.egressSfd p marker).copy? c = some x.gone ∧ ((s.egressSfd p marker).port p).lastTx = s.tsAt (s.latchAt p false marker).2.1 ∧
    Tab.get 0 ((s.egressSfd p marker).port p).sent x.q = Tab.get 0 (s.port p).sent x.q + 1 := by
  have hcopy : ((s.port p).tx).bind (fun c => (s.copy? c).map (fun x => (c, x))) = some (c, x) := by simp [htx, hx]
  unfold State.egressSfd
  split
  · next hnone => rw [hcopy] at hnone; cases hnone
  next d z hz =>
  obtain ⟨rfl, rfl⟩ := Prod.mk.inj (Option.some.inj (hcopy.symm.trans hz))
  split
  · next hnone => rw [hfr] at hnone; cases hnone
  next g hg =>
  obtain rfl : fr = g := Option.some.inj (hfr.symm.trans hg)
  rw [if_neg (by simp [hst])]
  extract_lets l s1 ts kind event oneStep s2 tc _ s3 y s4 s5
  have hs1 : s1.fab = s.fab := State.latchAt_touches (ps := Part.others .fab) s p false marker rfl .fab rfl
  have hs2 : s2.fab = s.fab := by
    simp only [s2]
    split
    · exact hs1
    · exact hs1
  have hs3 : s3.fab = s.fab := by
    simp only [s3]
    split
    · exact hs2
    · exact hs2
  have hport : s3.port p = s.port p := State.port_of_fab hs3 p
  have hs5 : s5.port p = s4.port p := by
    simp only [s5]
    split
    · exact State.port_of_fab (State.tsRecord_touches (ps := Part.others .fab) _ _ _ _ _ rfl .fab rfl) p
    · rfl
  have hcopies : s5.fab.copies = s.fab.copies := by
    have hs4 : s4.fab.copies = s.fab.copies := (congrArg FabState.copies hs3 :)
    simp only [s5]
    split
    · exact (congrArg FabState.copies (State.tsRecord_touches (ps := Part.others .fab) s4 _ _ _ _ rfl .fab rfl) :).trans hs4
    · exact hs4
  have hs4 : (s4.port p).lastTx = ts ∧ (s4.port p).sent = Tab.set (s.port p).sent x.q (Tab.get 0 (s.port p).sent x.q + 1) := by
    have hself : s4.port p = _ := State.setPort_port_self s3 p _
    rw [hself]
    exact ⟨rfl, by rw [← hport]⟩
  obtain ⟨hlast, hsent⟩ := hs4
  rw [← hs5] at hlast hsent
  have hdone : ∀ u : State, u.fab = s5.fab → (u.setCopy c x.gone).copy? c = some x.gone ∧ ((u.setCopy c x.gone).port p).lastTx = ts ∧
      Tab.get 0 ((u.setCopy c x.gone).port p).sent x.q = Tab.get 0 (s.port p).sent x.q + 1 := by
    intro u hu
    have hsame : (u.setCopy c x.gone).port p = s5.port p := State.port_of_fab hu p
    rw [hsame, hsent]
    exact ⟨State.setCopy_copy?_self u c _, hlast, Tab.get_set_self _ _ _ _⟩
  refine hdone (if x.mirror.isSome then s5 else s5.tagCopy x true) ?_
  split
  · rfl
  · exact State.tagCopy_touches (ps := Part.others .fab) s5 x true rfl .fab rfl

/-! ### The statement -/

/-- Settles O28. -/
theorem queueAndSend : Obligations.QueueAndSend := by
  unfold Obligations.QueueAndSend
  refine ⟨?eligible, ?damaged, ?select, ?goesOn, ?flow, ?sent⟩
  case eligible =>
    intro s f c fr x hup hfr hdec hel hport hcb hgen hcopies hx hf hcap hlane hmir hmtu
    have hcov : s.covered f = true := by simp [State.covered, hcopies, hx, hcap]
    have hrun := State.frameEligible_one hfr hdec hel hport hcb hgen hcopies hcov
    have hcopy : (s.passing f fr).copy? c = some x := (congrArg (fun l => Tab.find l c) State.passing_copies).trans hx
    have hregs : (s.passing f fr).regs = s.regs := State.tagStage_touches (ps := Part.others .regs) (s.setFrame f fr.passed) f 4 rfl .regs rfl
    have hmtu' : (s.passing f fr).mtu x.port = s.mtu x.port := by
      simp only [State.mtu, State.ap_of_regs hregs]
    obtain ⟨⟨y, hy, hst, helig, hyf, hyp, hyq⟩, hqueue, hframes⟩ := State.enqueue_gives (fr := fr.passed) hcopy hlane hport false (hmtu'.symm ▸ hmtu)
    have hbefore : (s.frameEligible f true).copy? c = some y ∧ (s.passedOn f c fr).frame? f = some fr.passed ∧
        (s.frameEligible f true).frame? f = (s.passedOn f c fr).frame? f ∧
        (s.frameEligible f true).queue x.port x.q = (s.passedOn f c fr).queue x.port x.q := by
      have hthere : (s.passedOn f c fr).copy? c = some y := (State.copy?_of_fab State.passedOn_fab c).trans hy
      have hstays : (s.passedOn f c fr).frameGone f = s.passedOn f c fr :=
        State.frameGone_stays (State.copiesOf_ne_nil hthere (hyf.trans hf))
      rw [hrun, hstays]
      refine ⟨(State.afterFree_copy? _ c).trans hthere, ?_, State.afterFree_frame? _ f, ?_⟩
      · rw [State.frame?_of_fab State.passedOn_fab, State.frame?, hframes]
        exact State.passing_frame?
      · obtain ⟨h, n, l, hafter⟩ := (s.passedOn f c fr).afterFree_port x.port
        rw [State.queue, hafter]
        rfl
    obtain ⟨hcopy', hframe', hsame, hqueue'⟩ := hbefore
    have hlast : (s.frameEligible f true).queue x.port x.q = s.queue x.port x.q ++ [c] := by
      rw [hqueue', State.queue, State.port_of_fab State.passedOn_fab, ← State.queue, hqueue, State.queue, State.passing_port, State.queue]
    have htouch : Touches [.fab, .fdb, .eng, .free, .bpm, .sw, .evt, .hif, .counters] s (s.frameEligible f true) :=
      State.frameEligible_touches s f true rfl
    have hnow : (s.passing f fr).clk.now = s.clk.now :=
      congrArg Clock.now (State.tagStage_touches (ps := Part.others .clk) (s.setFrame f fr.passed) f 4 rfl .clk rfl)
    exact gives_effect rfl hup rfl ⟨⟨y, hcopy', hst, helig.trans hnow, hyf, hyp, hyq⟩, hlast,
      ⟨fr.passed, hsame.trans hframe', rfl, rfl⟩, htouch.carry⟩
  case damaged =>
    intro s f fr hup hfr hel hins hcopies
    have hrun : s.frameEligible f false = s.fcsFail f fr := by
      unfold State.frameEligible
      rw [hfr]
      dsimp only
      rw [if_neg (by simp [hel]), if_pos (by simp [hins])]
    obtain ⟨hgone, hcount⟩ := State.fcsFail_gives hfr hcopies
    have hframe : Touches copyParts s (s.fcsFail f fr) := State.fcsFail_touches s f fr rfl
    rw [← hrun] at hgone hcount hframe
    exact gives_effect rfl hup rfl ⟨hgone, hcount, hframe.carry⟩
  case select =>
    intro s p c x hup hp hport hmid hquiet hhead
    have hrun := State.schedSelect_pick hp hport hmid hquiet
    obtain ⟨htx, hcopy⟩ := State.startTx_gives (p := p) (State.headOf_copy? hhead)
    have hpick : (s.setPort p { s.port p with tx := none }).pickTx p = (s.setPort p { s.port p with tx := none }).startTx p c := by
      unfold State.pickTx
      rw [hhead]
    rw [← hpick, ← hrun] at htx hcopy
    have hframe : Touches [.fab] s (s.schedSelect p) := by
      rw [hrun, hpick]
      exact ((Touches.refl _ s).set_fab rfl).step (State.startTx_touches _ p c rfl)
    exact gives_effect rfl hup (decide_eq_true hp) ⟨htx, hcopy, hframe.carry⟩
  case goesOn =>
    intro s p c x hup hp hport hmid hgive hhold hgate
    exact gives_effect (congrArg (effect (lanePort p) s) (State.schedSelect_stays hmid hgive hhold hgate)) hup (decide_eq_true hp) (Touches.refl _ s).carry
  case flow =>
    intro s p a l hup hp hport hmid hquiet hhead hfc
    have hrun := State.schedSelect_pick hp hport hmid hquiet
    have hpick : (s.setPort p { s.port p with tx := none }).pickTx p =
        ((s.setPort p { s.port p with tx := none }).bump Fld.portPauseTx_VAL p).setPort p { s.port p with tx := none, fc := l } := by
      have hself : (s.setPort p { s.port p with tx := none }).port p = { s.port p with tx := none } := State.setPort_port_self _ _ _
      unfold State.pickTx
      rw [hhead]
      dsimp only
      rw [hself, hfc]
    rw [← hrun] at hpick
    have hself : (s.schedSelect p).port p = { s.port p with tx := none, fc := l } := by
      rw [hpick]
      exact State.setPort_port_self _ _ _
    have hothers : ∀ q, q ≠ p → (s.schedSelect p).port q = s.port q := fun q hq => by
      rw [hpick, State.setPort_port_ne _ _ hq]
      exact State.setPort_port_ne _ _ hq
    have hcount : (s.schedSelect p).count Fld.portPauseTx_VAL p = s.counted Fld.portPauseTx_VAL p := by
      have hlast : Touches [.fab] ((s.setPort p { s.port p with tx := none }).bump Fld.portPauseTx_VAL p) (s.schedSelect p) :=
        hpick ▸ (Touches.refl _ _).set_fab rfl
      have hfirst : Touches [.fab] s (s.setPort p { s.port p with tx := none }) := (Touches.refl _ s).set_fab rfl
      exact State.count_bumped_at p 1 hfirst hlast rfl rfl (by decide)
    have hframe : Touches [.fab, .rc .portPauseTx] s (s.schedSelect p) := State.schedSelect_touches s p rfl
    exact gives_effect rfl hup (decide_eq_true hp) ⟨hself, hcount, hothers, hframe.carry⟩
  case sent =>
    intro s p c marker x fr hup hp hwf htx hx hfr hst
    obtain ⟨hcopy, hlast, hsent⟩ := State.egressSfd_gives (marker := marker) htx hx hfr hst
    have hframe : Touches (evtParts ++ [Part.fab, .tcore, .lnk, .tic, .cal, .free, .eng, .rc .calAbortCnt, .rc .hifRingAborted, .rc .lnkSnapErr,
        .rc .perfTagDrop, .rc .tcoreOnestepSkip]) s (s.egressSfd p marker) := State.egressSfd_touches s p marker rfl
    exact gives_effect rfl hup hwf ⟨hcopy, hlast, hsent, hframe.carry⟩

end Sys2Proof.Machine
end

section
/-! ## Frames received and looked up (R120, R135, R178, R195 to R197, R215) -/

set_option Elab.async false

namespace Sys2Proof.Machine

/-! ### Copies that are made -/

/-- From `s` to `t` copies that satisfy `Q` have been made, and nothing else of frames, copies and ports has changed. -/
structure CopiesMade (Q : Copy → Prop) (s t : State) : Prop where
  frames : t.fab.frames = s.fab.frames
  next : s.fab.nextCopy ≤ t.fab.nextCopy
  kept : ∀ c, c < s.fab.nextCopy → t.copy? c = s.copy? c
  new : ∀ c y, t.copy? c = some y → s.copy? c = some y ∨ Q y
  down : ∀ e, t.lookupDown e = s.lookupDown e

section Made

variable {Q : Copy → Prop} {s t u : State}

theorem CopiesMade.refl (s : State) : CopiesMade Q s s := ⟨rfl, Nat.le_refl _, fun _ _ => rfl, fun _ _ h => .inl h, fun _ => rfl⟩

theorem CopiesMade.trans (h : CopiesMade Q s t) (g : CopiesMade Q t u) : CopiesMade Q s u where
  frames := g.frames.trans h.frames
  next := Nat.le_trans h.next g.next
  kept := fun c hc => (g.kept c (Nat.lt_of_lt_of_le hc h.next)).trans (h.kept c hc)
  new := fun c y hy => (g.new c y hy).elim (h.new c y) .inr
  down := fun e => (g.down e).trans (h.down e)

theorem CopiesMade.foldl {α : Type} {f : State → α → State} (hf : ∀ s x, CopiesMade Q s (f s x)) (l : List α) (s : State) :
    CopiesMade Q s (l.foldl f s) := by
  induction l generalizing s with
  | nil => exact CopiesMade.refl s
  | cons x l ih => exact (hf s x).trans (ih (f s x))

theorem CopiesMade.bump (s : State) (r : FieldRef) (i n : Nat) : CopiesMade Q s (s.bump r i n) :=
  ⟨rfl, Nat.le_refl _, fun _ _ => rfl, fun _ _ h => .inl h, fun _ => rfl⟩

theorem State.addCopy_copy? (s : State) (x : Copy) (c : Nat) :
    (s.addCopy x).copy? c = if c = s.fab.nextCopy then some x else s.copy? c := by
  by_cases hc : c = s.fab.nextCopy
  · rw [if_pos hc, hc]
    exact Tab.find_set_self _ _ _
  · rw [if_neg hc]
    exact Tab.find_set_ne _ _ _ _ hc

theorem CopiesMade.addCopy (s : State) {x : Copy} (hx : Q x) : CopiesMade Q s (s.addCopy x) where
  frames := rfl
  next := Nat.le_succ _
  kept := fun c hc => by rw [State.addCopy_copy?, if_neg (Nat.ne_of_lt hc)]
  new := fun c y hy => by
    rw [State.addCopy_copy?] at hy
    split at hy
    · obtain rfl := Option.some.inj hy
      exact .inr hx
    · exact .inl hy
  down := fun _ => rfl

end Made

/-! ### Mirror copies -/

/-- A copy of frame `f` that a mirror session made. -/
def Copy.mirrors (f : Nat) (y : Copy) : Prop := y.frame = f ∧ y.mirror.isSome = true

theorem State.mirrorCopy_made (s : State) (f m q tc len : Nat) (tag : Option Nat) (b : Bool) :
    CopiesMade (Copy.mirrors f) s (s.mirrorCopy f m q tc len tag b) := by
  unfold State.mirrorCopy
  dsimp only
  split
  · exact CopiesMade.refl s
  · split
    · exact CopiesMade.bump s _ _ _
    · exact CopiesMade.addCopy s ⟨rfl, rfl⟩

theorem State.mirrorFrame_made (s : State) (f tc : Nat) (hit : Option Nat) : CopiesMade (Copy.mirrors f) s (s.mirrorFrame f tc hit) := by
  unfold State.mirrorFrame
  split
  · exact CopiesMade.refl s
  · refine CopiesMade.foldl (fun s m => ?_) _ s
    extract_lets o k flow t
    have ht : CopiesMade (Copy.mirrors f) s t := by
      simp only [t]
      split
      · exact State.mirrorCopy_made _ _ _ _ _ _ _ _
      · exact CopiesMade.refl s
    clear_value t
    split
    · exact ht.trans (CopiesMade.foldl (fun s x => State.mirrorCopy_made _ _ _ _ _ _ _ _) _ t)
    · exact ht

/-! ### The copies of a decision -/

section Decision

variable (f : Nat) (fr : Frame) (d : Decision)

theorem State.makeCopy_made (s : State) (x : Dest) : CopiesMade (fun _ => True) s (s.makeCopy f fr d x) := by
  unfold State.makeCopy
  split
  · exact CopiesMade.bump s _ _ _
  · exact CopiesMade.addCopy s trivial

/-- A copy for this destination. -/
def Copy.isFor (x : Dest) (y : Copy) : Prop := y.frame = f ∧ y.port = x.port ∧ y.q = x.q ∧ y.flow = x.flow

theorem State.makeCopy_copy? {s : State} {x : Dest} (hup : s.lookupDown x.port = false) :
    s.fab.nextCopy < (s.makeCopy f fr d x).fab.nextCopy ∧ ∃ y, (s.makeCopy f fr d x).copy? s.fab.nextCopy = some y ∧ y.isFor f x := by
  have hadd : ∀ y : Copy, y.isFor f x →
      s.fab.nextCopy < (s.addCopy y).fab.nextCopy ∧ ∃ y', (s.addCopy y).copy? s.fab.nextCopy = some y' ∧ y'.isFor f x := fun y hy =>
    ⟨Nat.lt_succ_self _, y, by rw [State.addCopy_copy?, if_pos rfl], hy⟩
  simp only [State.makeCopy, hup, Bool.false_and, Bool.false_eq_true, if_false]
  exact hadd _ ⟨rfl, rfl, rfl, rfl⟩

/-- Every destination that is not down has its copy. -/
theorem State.makeCopies_copy? (l : List Dest) (s : State) {x : Dest} (hx : x ∈ l) (hup : s.lookupDown x.port = false) :
    ∃ c y, c < (l.foldl (fun s x => s.makeCopy f fr d x) s).fab.nextCopy ∧
      (l.foldl (fun s x => s.makeCopy f fr d x) s).copy? c = some y ∧ y.isFor f x := by
  induction l generalizing s with
  | nil => cases hx
  | cons z l ih =>
    rw [List.foldl_cons]
    rcases List.mem_cons.mp hx with rfl | hl
    · obtain ⟨hlt, y, hy, hfor⟩ := State.makeCopy_copy? f fr d hup
      have hrest := CopiesMade.foldl (State.makeCopy_made f fr d) l (s.makeCopy f fr d x)
      exact ⟨s.fab.nextCopy, y, Nat.lt_of_lt_of_le hlt hrest.next, (hrest.kept _ hlt).trans hy, hfor⟩
    · exact ih (s.makeCopy f fr d z) hl (((State.makeCopy_made f fr d s z).down _).trans hup)

end Decision

theorem State.setFrame_frame?_self (s : State) (f : Nat) (x : Frame) : (s.setFrame f x).frame? f = some x := Tab.find_set_self _ _ _

/-- A frame whose lookup is made. -/
structure Frame.Decided (fr : Frame) (d : Decision) (x : Frame) : Prop where
  decided : x.decided = true
  vid : x.vid = d.vid
  tc : x.tc = d.tc
  learn : x.learn = d.learn
  header : x.h = fr.h

theorem State.lookupDown_of {s t : State} (hready : t.ready = s.ready) (hgrps : t.grps = s.grps) (hports : t.fab.ports = s.fab.ports) (e : Nat) :
    t.lookupDown e = s.lookupDown e := by
  simp only [State.lookupDown, State.isReady, State.grp, State.port, hready, hgrps, hports]
  rfl

/-- A lookup that is made: the frame is decided, and every destination that is not down has its copy. -/
theorem State.lookupDone_gives (s : State) (f : Nat) (fr : Frame) (d : Decision) :
    (∃ x, (s.lookupDone f fr d).frame? f = some x ∧ fr.Decided d x) ∧
    ∀ x, x ∈ d.dests → s.lookupDown x.port = false →
      ∃ c y, c < (s.lookupDone f fr d).fab.nextCopy ∧ (s.lookupDone f fr d).copy? c = some y ∧ y.isFor f x := by
  generalize ht : s.lookupDone f fr d = t
  unfold State.lookupDone at ht
  extract_lets -underBinder s1 s2 s3 at ht
  subst ht
  have hs1 : Touches [.eng, .counters] s s1 := by
    have htag : ∀ u : State, Touches [.eng, .counters] u (u.tagStage f 3) := fun u => State.tagStage_touches u f 3 rfl
    simp only [s1]
    split
    · exact (State.bump_touches _ _ _ _ rfl).step (htag _)
    · exact htag s
  have hs2 : Touches [.fdb, .eng, .counters] s s2 := by
    simp only [s2]
    split
    · exact (hs1.mono rfl).set_fdb rfl
    · exact hs1.mono rfl
  have hdown : ∀ e, s3.lookupDown e = s.lookupDown e := fun e =>
    State.lookupDown_of (hs2 .ready rfl) (hs2 .grps rfl) (congrArg FabState.ports (hs2 .fab rfl)) e
  have hframe : ∃ x, s3.frame? f = some x ∧ fr.Decided d x :=
    ⟨_, State.setFrame_frame?_self s2 f _, ⟨rfl, rfl, rfl, rfl, rfl⟩⟩
  clear_value s3
  constructor
  · obtain ⟨x, hx, hdec⟩ := hframe
    have hmade := CopiesMade.foldl (State.makeCopy_made f fr d) d.dests s3
    exact ⟨x, (congrArg (fun l => Tab.find l f) hmade.frames).trans hx, hdec⟩
  · exact fun x hx hup => State.makeCopies_copy? f fr d d.dests s3 hx ((hdown _).trans hup)

/-- The part with a frame of the engine side whose lookup is made. -/
def State.claimedDone (s : State) (f : Nat) (fr : Frame) : State :=
  s.setFrame f { fr with decided := true, uses := s.withVersions (s.mirrors.map EntryKey.mir) }

theorem State.claimedDone_frame? (s : State) (f : Nat) (fr : Frame) :
    ∃ x, (s.claimedDone f fr).frame? f = some x ∧ x.decided = true ∧ x.h = fr.h :=
  ⟨_, State.setFrame_frame?_self s f _, rfl, rfl⟩

/-! ### A frame that is received -/

/-- A frame of a port that is up and takes frames in (R135, R215). -/
theorem State.ingressFrame_gives {s : State} {p : Nat} {h : FrameHdr} (hport : (s.port p).up = true) (hstop : s.intakeStopped p = false) :
    (∃ fr, (s.ingressFrame p h).frame? s.fab.nextFrame = some fr ∧ fr.port = p ∧ fr.h = h ∧ fr.decided = false ∧
      fr.tod = (s.latchAt p true h.marker).2.1 ∧ fr.ts = s.tsAt fr.tod) ∧
    (s.ingressFrame p h).fab.nextFrame = s.fab.nextFrame + 1 ∧
    ∀ f, f ≠ s.fab.nextFrame → (s.ingressFrame p h).frame? f = s.frame? f := by
  unfold State.ingressFrame
  rw [if_neg (by simp [hport]), if_neg (by simp [hstop])]
  extract_lets -underBinder l s1 ts k _ s2 fl r s3 n f tag
  have hs1 : s1.fab = s.fab := State.latchAt_touches (ps := Part.others .fab) s p true h.marker rfl .fab rfl
  have hs2 : s2.fab = s.fab := by
    simp only [s2]
    split
    · exact hs1
    · exact hs1
  have hs3 : s3.fab = s.fab := by
    unfold s3 r
    clear_value fl
    split
    · exact (State.police_touches (ps := Part.others .fab) s2 _ p h rfl .fab rfl).trans hs2
    · exact hs2
  have hn : n = s.fab.nextFrame := congrArg FabState.nextFrame hs3
  have hframes : s3.fab.frames = s.fab.frames := congrArg FabState.frames hs3
  refine ⟨⟨f, ?_, rfl, rfl, rfl, rfl, rfl⟩, congrArg (· + 1) hn, fun g hg => ?_⟩
  · rw [← hn]
    exact Tab.find_set_self _ _ _
  · rw [← hn] at hg
    exact (Tab.find_set_ne _ _ _ _ hg).trans (congrArg (fun l => Tab.find l g) hframes)

/-! ### The statement -/

/-- Settles O30. -/
theorem frameReceivedAndForwarded : Obligations.FrameReceivedAndForwarded := by
  unfold Obligations.FrameReceivedAndForwarded
  refine ⟨?taken, ?stopped, ?lookup, ?claimed, ?waits⟩
  case taken =>
    intro s p h hup hp hport hstop
    obtain ⟨hframe, hnext, hothers⟩ := State.ingressFrame_gives (h := h) hport hstop
    have htouch : Touches (evtParts ++ [Part.sw, .fab, .tcore, .lnk, .tic, .cal, .free, .eng, .rc .calAbortCnt, .rc .lnkSnapErr,
        .rc .portFlowNonconf]) s (s.ingressFrame p h) := State.ingressFrame_touches s p h rfl
    exact gives_effect rfl hup (decide_eq_true hp) ⟨hframe, hnext, hothers, htouch.carry⟩
  case stopped =>
    intro s p h hup hp hport hstop
    have hrun : s.ingressFrame p h = s.setPort p (s.port p).discarded := by
      unfold State.ingressFrame
      rw [if_neg (by simp [hport]), if_pos hstop]
      rfl
    have hself : (s.ingressFrame p h).port p = (s.port p).discarded := hrun ▸ State.setPort_port_self s p _
    have hnext : (s.ingressFrame p h).fab.nextFrame = s.fab.nextFrame := by rw [hrun]; rfl
    have hframe : Touches [.fab] s (s.ingressFrame p h) := hrun ▸ (Touches.refl _ s).set_fab rfl
    exact gives_effect rfl hup (decide_eq_true hp) ⟨hself, hnext, hframe.carry⟩
  case lookup =>
    intro s f fr hup hfr hdec hdrop heng hturn
    have hrun : s.forwardLookup f = (s.lookupDone f fr (s.decide' fr)).mirrorFrame f (s.decide' fr).tc
        ((s.decide' fr).hit.bind (fun i => Tab.find s.fdb.bound i)) := by
      unfold State.forwardLookup
      rw [hfr]
      exact (if_neg (by simp [hdec, hdrop, hturn])).trans (if_neg (by simp [heng]))
    obtain ⟨⟨x, hx, hdone⟩, hcopies⟩ := s.lookupDone_gives f fr (s.decide' fr)
    have hmade := (s.lookupDone f fr (s.decide' fr)).mirrorFrame_made f (s.decide' fr).tc
      ((s.decide' fr).hit.bind (fun i => Tab.find s.fdb.bound i))
    rw [← hrun] at hmade
    obtain ⟨hdecided, hvid, htc, hlearn, hh⟩ := hdone
    have hframe : (s.forwardLookup f).frame? f = some x := (congrArg (fun l => Tab.find l f) hmade.frames).trans hx
    have hall : ∀ x, x ∈ (s.decide' fr).dests → s.lookupDown x.port = false →
        ∃ c y, (s.forwardLookup f).copy? c = some y ∧ y.frame = f ∧ y.port = x.port ∧ y.q = x.q ∧ y.flow = x.flow := by
      intro x hx hup
      obtain ⟨c, y, hlt, hy, hfor⟩ := hcopies x hx hup
      exact ⟨c, y, (hmade.kept c hlt).trans hy, hfor⟩
    have htouch : Touches [.fab, .fdb, .eng, .counters] s (s.forwardLookup f) := State.forwardLookup_touches s f rfl
    exact gives_effect rfl hup rfl ⟨⟨x, hframe, hdecided, hvid, htc, hlearn, hh⟩, hall, htouch.carry⟩
  case claimed =>
    intro s f fr hup hfr hdec hdrop heng hturn
    have hrun : s.forwardLookup f = (s.claimedDone f fr).mirrorFrame f fr.h.pcp
        ((s.clsHit fr.port (s.frameKind fr.port fr.h) (s.frameVid fr.port fr.h) fr.h).bind (fun e => Tab.find s.fdb.bound e.1)) := by
      unfold State.forwardLookup
      rw [hfr]
      exact (if_neg (by simp [hdec, hdrop, hturn])).trans (if_pos heng)
    generalize (s.clsHit fr.port (s.frameKind fr.port fr.h) (s.frameVid fr.port fr.h) fr.h).bind (fun e => Tab.find s.fdb.bound e.1) = k at hrun
    have hmade := (s.claimedDone f fr).mirrorFrame_made f fr.h.pcp k
    have htouch : Touches [.fab, .counters] s (s.forwardLookup f) := by
      have hset : Touches [.fab, .counters] s (s.claimedDone f fr) := (Touches.refl _ s).set_fab rfl
      rw [hrun]
      exact hset.step (State.mirrorFrame_touches _ _ _ _ rfl)
    rw [← hrun] at hmade
    have hframe : ∃ x, (s.forwardLookup f).frame? f = some x ∧ x.decided = true ∧ x.h = fr.h := by
      obtain ⟨x, hx, hdone⟩ := s.claimedDone_frame? f fr
      exact ⟨x, (congrArg (fun l => Tab.find l f) hmade.frames).trans hx, hdone⟩
    exact gives_effect rfl hup rfl ⟨hframe, fun c y hy => hmade.new c y hy, htouch.carry⟩
  case waits =>
    intro s f fr hup hfr hturn
    have hrun : s.forwardLookup f = s := by
      unfold State.forwardLookup
      rw [hfr]
      exact if_pos (by simp [hturn])
    exact gives_effect (congrArg (effect true s) hrun) hup rfl (Touches.refl _ s).carry

end Sys2Proof.Machine
end

section
/-! ## What an event leaves of the host interface (R66, R76, R417) -/

set_option Elab.async false

namespace Sys2Proof.Machine

/-- From `r` to `r'` completions have been written into a ring in RUN and its message has been sent; nothing else has changed. -/
structure Ring.Written (r r' : Ring) : Prop where
  only : r' = { r with
    pidx := r'.pidx, phase := r'.phase, slots := r'.slots, sinceMsg := r'.sinceMsg, timer := r'.timer, armed := r'.armed }
  run : r.state ≠ .run → r' = r

section Written

variable {r r' r'' : Ring}

theorem Ring.Written.refl (r : Ring) : Ring.Written r r := ⟨rfl, fun _ => rfl⟩

theorem Ring.Written.state (h : Ring.Written r r') : r'.state = r.state := by rw [h.only]

theorem Ring.Written.errCause (h : Ring.Written r r') : r'.errCause = r.errCause := by rw [h.only]

theorem Ring.Written.trans (h : Ring.Written r r') (g : Ring.Written r' r'') : Ring.Written r r'' where
  only := by rw [g.only, h.only]
  run := fun hr => (g.run (by rwa [h.state])).trans (h.run hr)

end Written

/-- From `h` to `h'` completions have been written and messages sent; nothing else of the host interface has changed. -/
structure HifKept (h h' : HifState) : Prop where
  only : h' = { h with rings := h'.rings, msgs := h'.msgs, lastVec := h'.lastVec, pba := h'.pba }
  rings : ∀ n, Ring.Written (h.ring n) (h'.ring n)

section Kept

variable {h h' h'' : HifState}

theorem HifKept.refl (h : HifState) : HifKept h h := ⟨rfl, fun _ => Ring.Written.refl _⟩

theorem HifKept.of_eq (e : h' = h) : HifKept h h' := e ▸ HifKept.refl h

theorem HifKept.trans (k : HifKept h h') (g : HifKept h' h'') : HifKept h h'' where
  only := by rw [g.only, k.only]
  rings := fun n => (k.rings n).trans (g.rings n)

theorem HifKept.linkUp (k : HifKept h h') : h'.linkUp = h.linkUp := by rw [k.only]

theorem HifState.setRing_ring_self (h : HifState) (n : Nat) (r : Ring) : (h.setRing n r).ring n = r := Tab.get_set_self _ _ _ _

theorem HifState.setRing_ring_ne (h : HifState) {n m : Nat} (hne : m ≠ n) (r : Ring) : (h.setRing n r).ring m = h.ring m :=
  Tab.get_set_ne _ _ _ _ _ hne

theorem HifKept.setRing (h : HifState) {n : Nat} {r : Ring} (hr : Ring.Written (h.ring n) r) : HifKept h (h.setRing n r) where
  only := rfl
  rings := fun m => by
    by_cases hm : m = n
    · rw [hm, HifState.setRing_ring_self]
      exact hr
    · rw [HifState.setRing_ring_ne _ hm]
      exact Ring.Written.refl _

theorem HifState.sendVec_kept (h : HifState) (v : Nat) : HifKept h (h.sendVec v) := by
  unfold HifState.sendVec
  split <;> exact ⟨rfl, fun _ => Ring.Written.refl _⟩

theorem State.ringMessage_kept (s : State) (n : Nat) (h : HifState) (hrun : (h.ring n).state = .run) : HifKept h (s.ringMessage n h) :=
  (HifKept.setRing h ⟨rfl, fun hne => absurd hrun hne⟩).trans (HifState.sendVec_kept _ _)

theorem State.writeSlot_kept (s : State) (n : Nat) (b : CplBody) (bypass : Bool) (h : HifState) (hrun : (h.ring n).state = .run) :
    HifKept h (s.writeSlot n b bypass h) := by
  unfold State.writeSlot
  extract_lets r p r' h'
  have hset : HifKept h h' := HifKept.setRing h ⟨rfl, fun hne => absurd hrun hne⟩
  split
  · exact hset.trans (s.ringMessage_kept n h' ((hset.rings n).state.trans hrun))
  · exact hset

theorem State.evtHif_kept (s : State) (e : Evt) (a0 a1 a2 : Nat) : HifKept s.hif (s.evtHif e a0 a1 a2) := by
  unfold State.evtHif
  extract_lets n
  split
  · exact HifKept.refl _
  split
  · next hput =>
    refine s.writeSlot_kept n _ _ _ ?_
    simp only [State.evtDeliverable, Bool.and_eq_true, decide_eq_true_eq] at hput
    exact hput.1.2
  split
  · exact HifState.sendVec_kept _ _
  · exact HifKept.refl _

end Kept

theorem State.raise_hif (s : State) (e : Evt) (a0 a1 a2 : Nat) : HifKept s.hif (s.raise e a0 a1 a2).hif := by
  unfold State.raise
  extract_lets a0' r counted t
  suffices h : HifKept s.hif t.hif from h
  unfold t
  split
  · exact HifKept.refl _
  · exact counted.evtHif_kept _ _ _ _

theorem State.raiseIf_hif (s : State) (c : Bool) (e : Evt) (a0 a1 a2 : Nat) : HifKept s.hif (s.raiseIf c e a0 a1 a2).hif := by
  cases c
  · exact HifKept.refl _
  · exact s.raise_hif e a0 a1 a2

theorem State.setReady_hif (s : State) (b : Nat) (v : Bool) : HifKept s.hif (s.setReady b v).hif :=
  State.raiseIf_hif { s with ready := putField s.ready b 1 (b2n v) } _ _ _ _ _

theorem State.setReady_ready (s : State) (b : Nat) (v : Bool) : (s.setReady b v).ready = putField s.ready b 1 (b2n v) := rfl

theorem State.setReady_isReady (s : State) {b : Nat} (hb : b < 32) (v : Bool) : (s.setReady b v).isReady b = v := by
  have hfield : fieldOf (putField s.ready b 1 (b2n v)) b 1 = b2n v % 2 ^ 1 := fieldOf_putField_self _ _ _ _ (by omega)
  have hbit : (s.setReady b v).isReady b = decide (fieldOf (putField s.ready b 1 (b2n v)) b 1 = 1) := by
    simp only [State.isReady, State.setReady_ready, bitAt, fieldOf, bitsOf, pow_one]
    rfl
  rw [hbit, hfield]
  cases v <;> rfl

/-! ### Frames that are discarded -/

theorem State.freeBuf_hif (s : State) (b r : Nat) : HifKept s.hif (s.freeBuf b r).1.hif := by
  unfold State.freeBuf
  split
  · exact State.raise_hif (s.bump Fld.bpmDoubleFreeCnt_VAL) _ _ _ _
  split
  · exact State.raise_hif (s.bump Fld.bpmForeignFreeCnt_VAL) _ _ _ _
  split
  · exact HifKept.refl _
  · exact HifKept.of_eq (State.returnBuf_touches (ps := Part.others .hif) s _ _ rfl .hif rfl)

theorem State.foldl_hif {α : Type} {f : State → α → State} (hf : ∀ s x, HifKept s.hif (f s x).hif) (l : List α) (s : State) :
    HifKept s.hif (l.foldl f s).hif := by
  induction l generalizing s with
  | nil => exact HifKept.refl _
  | cons x l ih => exact (hf s x).trans (ih (f s x))

theorem State.frameGone_hif (s : State) (f : Nat) : (s.frameGone f).hif = s.hif :=
  State.frameGone_touches (ps := Part.others .hif) s f rfl .hif rfl

theorem State.removeCopy_hif (s : State) (c : Nat) : HifKept s.hif (s.removeCopy c).hif := by
  unfold State.removeCopy
  split
  · exact HifKept.refl _
  next x hx =>
    extract_lets -merge -underBinder s0 s1
    have hleft : (s0.unqueue c).hif = s.hif :=
      (State.unqueue_touches (ps := Part.others .hif) s0 c rfl .hif rfl).trans <| by
        unfold s0
        split
        · rfl
        · exact State.tagCopy_touches (ps := Part.others .hif) s x false rfl .hif rfl
    have hfree : HifKept (s0.unqueue c).hif s1.hif := State.foldl_hif (fun u b => u.freeBuf_hif b _) x.bufs _
    rw [State.frameGone_hif]
    exact (HifKept.of_eq hleft).trans hfree

theorem State.dropFrame_hif (s : State) (f : Nat) : HifKept s.hif (s.dropFrame f).hif := by
  unfold State.dropFrame
  split
  · exact HifKept.refl _
  next x hx =>
    rw [State.frameGone_hif]
    exact State.foldl_hif (fun u c => u.removeCopy_hif c) _ (s.setFrame f { x with drop := true })

end Sys2Proof.Machine
end

section
/-! ## The PCIe link, errors of a ring and the resets of the function (R51, R73, R80, R82, R83) -/

set_option Elab.async false

namespace Sys2Proof.Machine

/-! ### A ring enters ERROR -/

/-- The part with ring `n` in ERROR, before the event. -/
def State.ringFailed (s : State) (n cause : Nat) : State :=
  (s.putBoth Fld.hifRingCtrl_EN 1 n).setRing n { s.ring n with state := .error, errCause := cause }

theorem State.ringFailed_ring_self (s : State) (n cause : Nat) :
    (s.ringFailed n cause).hif.ring n = { s.ring n with state := .error, errCause := cause } := HifState.setRing_ring_self _ _ _

theorem State.ringErr_hif (s : State) (n cause : Nat) : HifKept (s.ringFailed n cause).hif (s.ringErr n cause).hif :=
  (s.ringFailed n cause).raise_hif Ev.hifRingErr n cause 0

theorem State.ringErr_ring_self (s : State) (n cause : Nat) : (s.ringErr n cause).ring n = { s.ring n with state := .error, errCause := cause } := by
  have hset := s.ringFailed_ring_self n cause
  exact ((s.ringErr_hif n cause).rings n |>.run (by rw [hset]; exact RingState.noConfusion)).trans hset

theorem State.ringErr_state_ne (s : State) {n m : Nat} (h : m ≠ n) (cause : Nat) : ((s.ringErr n cause).ring m).state = (s.ring m).state := by
  have hset : (s.ringFailed n cause).ring m = s.ring m := HifState.setRing_ring_ne _ h _
  exact ((s.ringErr_hif n cause).rings m).state.trans (congrArg Ring.state hset)

theorem State.ringErr_busMaster (s : State) (n cause : Nat) : (s.ringErr n cause).hif.busMaster = s.hif.busMaster :=
  (congrArg HifState.busMaster (s.ringErr_hif n cause).only :)

theorem State.ringsErr_states (l : List Nat) (s : State) (cause : Nat) (n : Nat) :
    ((l.foldl (fun s n => s.ringErr n cause) s).ring n).state = if n ∈ l then .error else (s.ring n).state := by
  induction l generalizing s with
  | nil => simp
  | cons m l ih =>
    rw [List.foldl_cons, ih]
    by_cases hn : n = m
    · subst hn
      simp [State.ringErr_ring_self]
    · simp [hn, State.ringErr_state_ne _ hn]

theorem State.ringsErr_busMaster (l : List Nat) (s : State) (cause : Nat) :
    (l.foldl (fun s n => s.ringErr n cause) s).hif.busMaster = s.hif.busMaster := by
  induction l generalizing s with
  | nil => rfl
  | cons n l ih => exact (ih _).trans (s.ringErr_busMaster n cause)

/-! ### The reset of the function -/

theorem State.ringsKill_linkUp (s : State) : s.ringsKill.hif.linkUp = s.hif.linkUp := by
  unfold State.ringsKill
  extract_lets s1 s2
  rw [State.afterFree_hif]
  exact (State.foldl_hif (fun u f => u.dropFrame_hif f) s.partFrames s).linkUp

/-- The host's copies removed and the pending writes of HIF dropped. -/
def State.hostEmptied (s : State) : State := (s.ringsKill.hostCopies.foldl (fun s c => s.removeCopy c) s.ringsKill).dropPending isHif

theorem State.dropPending_hif (s : State) (sel : RegKey → Bool) : (s.dropPending sel).hif = s.hif := rfl

theorem State.hostEmptied_linkUp (s : State) : s.hostEmptied.hif.linkUp = s.hif.linkUp := by
  have hcopies : HifKept s.ringsKill.hif (s.ringsKill.hostCopies.foldl (fun s c => s.removeCopy c) s.ringsKill).hif :=
    State.foldl_hif (fun u c => u.removeCopy_hif c) _ _
  have hlink := hcopies.linkUp
  rw [s.ringsKill_linkUp] at hlink
  rw [State.hostEmptied, State.dropPending_hif]
  exact hlink

theorem State.dropPending_regs {s u : State} (h : u.regs = s.regs) (sel : RegKey → Bool) :
    (u.dropPending sel).regs = { s.regs with pend := s.regs.pend.filter (fun x => !(sel x.key)) } := by
  rw [← h]
  rfl

theorem State.hostEmptied_regs (s : State) : s.hostEmptied.regs = { s.regs with pend := s.regs.pend.filter (fun x => !(isHif x.key)) } := by
  have hkill : s.ringsKill.regs = s.regs := State.ringsKill_touches (ps := Part.others .regs) s rfl .regs rfl
  have hcopies : Touches (Part.others .regs) s.ringsKill (s.ringsKill.hostCopies.foldl (fun s c => s.removeCopy c) s.ringsKill) :=
    Touches.foldl (fun u c => State.removeCopy_touches u c rfl) _ (Touches.refl _ _)
  exact State.dropPending_regs ((hcopies .regs rfl).trans hkill) isHif

/-- The register files of `s` without the words of HIF. -/
def State.hifRegsReset (s : State) : State :=
  { s with regs := { s.regs with
      written := s.regs.written.filter (fun e => !(isHif e.1)), applied := s.regs.applied.filter (fun e => !(isHif e.1)) } }

section Filter

variable {κ α : Type} [DecidableEq κ] (d : α) (t : Tab κ α) {q : κ → Bool} {k : κ}

theorem Tab.get_filter_of_keep (h : q k = true) : Tab.get d (t.filter (fun e => q e.1)) k = Tab.get d t k := by
  induction t with
  | nil => rfl
  | cons e t ih => grind [Tab.get]

theorem Tab.get_filter_of_drop (h : q k = false) : Tab.get d (t.filter (fun e => q e.1)) k = d := by
  induction t with
  | nil => rfl
  | cons e t ih => grind [Tab.get]

end Filter

/-- The host interface after a reset of the function. -/
def HifState.reset (h : HifState) : HifState :=
  { h with rings := [], vecs := [], unmasked := [], pba := [], busMaster := false, txTurn := 0, cmdTurn := 0 }

theorem HifState.reset_linkUp (h : HifState) : h.reset.linkUp = h.linkUp := rfl

theorem State.functionReset_hif (s : State) : s.functionReset.hif = s.hostEmptied.hif.reset := State.afterFree_hif _

theorem State.functionReset_regs (s : State) : s.functionReset.regs = s.hostEmptied.hifRegsReset.regs :=
  State.afterFree_touches (ps := Part.others .regs) _ rfl .regs rfl

/-- The register files without the words of HIF. -/
theorem State.functionReset_lists (s : State) :
    s.functionReset.regs.written = s.regs.written.filter (fun e => !(isHif e.1)) ∧
    s.functionReset.regs.applied = s.regs.applied.filter (fun e => !(isHif e.1)) := by
  rw [s.functionReset_regs, State.hifRegsReset, s.hostEmptied_regs]
  exact ⟨rfl, rfl⟩

theorem State.functionReset_dflt (s : State) (k : RegKey) : s.functionReset.dflt k = s.dflt k := by
  refine State.dflt_congr (fun g => ?_) k
  have hkeep : (!(isHif (⟨.laneGrpMode, g, 0⟩ : RegKey))) = true := rfl
  rw [State.stored, State.stored, State.dflt_laneGrpMode, State.dflt_laneGrpMode, s.functionReset_lists.2,
    Tab.get_filter_of_keep (q := fun k => !(isHif k)) _ _ hkeep]

theorem State.functionReset_hifRegs (s : State) {k : RegKey} (h : isHif k = true) :
    s.functionReset.written k = s.functionReset.dflt k ∧ s.functionReset.stored k = s.functionReset.dflt k := by
  have hdrop : (!(isHif k)) = false := by rw [h]; rfl
  rw [State.written, State.stored, s.functionReset_lists.1, s.functionReset_lists.2]
  exact ⟨Tab.get_filter_of_drop (q := fun k => !(isHif k)) _ _ hdrop, Tab.get_filter_of_drop (q := fun k => !(isHif k)) _ _ hdrop⟩

theorem State.functionReset_otherRegs (s : State) {k : RegKey} (h : isHif k = false) :
    s.functionReset.written k = s.written k ∧ s.functionReset.stored k = s.stored k := by
  have hkeep : (!(isHif k)) = true := by rw [h]; rfl
  rw [State.written, State.stored, s.functionReset_lists.1, s.functionReset_lists.2, s.functionReset_dflt]
  exact ⟨Tab.get_filter_of_keep (q := fun k => !(isHif k)) _ _ hkeep, Tab.get_filter_of_keep (q := fun k => !(isHif k)) _ _ hkeep⟩

theorem State.functionReset_gives {c : Instr} {s : State} (hexec : exec c s = effect true s s.functionReset) (hup : s.Up) :
    Gives c s (fun t =>
      (∀ n, t.ring n = {}) ∧ t.hif.vecs = [] ∧ t.hif.unmasked = [] ∧ t.hif.pba = [] ∧ t.hif.busMaster = false ∧
      t.hif.linkUp = s.hif.linkUp ∧
      (∀ k, isHif k = true → t.written k = t.dflt k ∧ t.stored k = t.dflt k) ∧
      (∀ k, isHif k = false → t.written k = s.written k ∧ t.stored k = s.stored k) ∧
      Touches [.regs, .evt, .hif, .sw, .fab, .bpm, .fdb, .free, .eng, .counters] s t) := by
  have hhif := s.functionReset_hif
  have hlink : s.functionReset.hif.linkUp = s.hif.linkUp := by
    rw [hhif, HifState.reset_linkUp, s.hostEmptied_linkUp]
  have hframe : Touches [.regs, .evt, .hif, .sw, .fab, .bpm, .fdb, .free, .eng, .counters] s s.functionReset :=
    State.functionReset_touches s rfl
  have hregs := fun k => s.functionReset_hifRegs (k := k)
  have hothers := fun k => s.functionReset_otherRegs (k := k)
  have hrings : ∀ n, s.functionReset.ring n = {} := fun n => by
    rw [State.ring, hhif]
    rfl
  generalize s.functionReset = t at *
  exact gives_effect hexec hup rfl ⟨hrings, congrArg HifState.vecs hhif, congrArg HifState.unmasked hhif, congrArg HifState.pba hhif,
    congrArg HifState.busMaster hhif, hlink, hregs, hothers, hframe.carry⟩

/-! ### The link and the errors -/

theorem State.pcieLinkUp_eq {s : State} (h : s.domOn 18 = true) (gen width mps mrrs : Nat) (tag10 bme : Bool) :
    s.pcieLinkUp gen width mps mrrs tag10 bme =
      ({ s with hif := { s.hif with
          linkUp := true, gen := gen, width := width, mps := mps, mrrs := mrrs, tag10 := tag10, busMaster := bme } } : State).setReady
        Rdy.hif true := by
  simp [State.pcieLinkUp, h]

theorem State.dmaError_gives {s : State} {n : Nat} (w : Bool) (hup : s.Up) (hn : n < 64)
    (hring : (s.ring n).state = .run ∨ (s.ring n).state = .draining) :
    Gives (.dmaError n w) s (fun t =>
      (t.ring n).state = .error ∧ (t.ring n).errCause = (if w then 3 else 2) ∧ t.ap Fld.hifRingCtrl_EN n = 1 ∧
      OtherRegs ⟨.hifRingCtrl, n, 0⟩ s t ∧ Touches (.regs :: evtParts) s t) := by
  have herr : s.dmaError n w = s.ringErr n (if w then 3 else 2) := if_pos hring
  have hself := s.ringErr_ring_self n (if w then 3 else 2)
  have hen : (s.ringErr n (if w then 3 else 2)).ap Fld.hifRingCtrl_EN n = 1 :=
    (State.ap_of_regs rfl _ _ _).trans (State.ap_putBoth s Fld.hifRingCtrl_EN 1 n 0 (by decide) (by decide) (by decide) (by decide))
  have hothers : OtherRegs ⟨.hifRingCtrl, n, 0⟩ s (s.ringErr n (if w then 3 else 2)) :=
    (State.putBoth_others s Fld.hifRingCtrl_EN 1 n 0 (by decide)).of_regs rfl
  have hframe : Touches (.regs :: evtParts) s (s.ringErr n (if w then 3 else 2)) := State.ringErr_touches _ _ _ rfl
  exact gives_effect (congrArg (effect (ringNo n) s) herr) hup (decide_eq_true hn)
    ⟨congrArg Ring.state hself, congrArg Ring.errCause hself, hen, hothers, hframe.carry⟩

/-- The part that is no bus master. -/
def State.noBusMaster (s : State) : State := { s with hif := { s.hif with busMaster := false } }

theorem State.busMasterClear_rings (s : State) {n : Nat} (hn : n < 64) :
    (s.busMasterClear.ring n).state = if (s.ring n).state = .disabled then .disabled else .error := by
  have herr := State.ringsErr_states ((List.range 64).filter (fun n => decide ((s.ring n).state ≠ .disabled))) s.noBusMaster 6 n
  refine herr.trans ?_
  by_cases hdown : (s.ring n).state = .disabled
  · rw [if_pos hdown, if_neg (by simp [hdown])]
    exact hdown
  · rw [if_neg hdown, if_pos (by simp [hdown, hn])]

/-- Settles O15: every event of the function leaves the link and the state of the rings that are not in RUN as they are, and an error
or a reset sets them outright. -/
theorem hostFunction : Obligations.HostFunction := by
  unfold Obligations.HostFunction
  refine ⟨?up, ?down, fun s n w hup hn hring => State.dmaError_gives w hup hn hring, ?master, ?reset⟩
  case up =>
    intro s gen width mps h hup hwf hdom
    have hrun := State.pcieLinkUp_eq hdom gen width mps h.mrrs h.tag10 h.bme
    have hkept := State.setReady_hif { s with hif := { s.hif with
      linkUp := true, gen := gen, width := width, mps := mps, mrrs := h.mrrs, tag10 := h.tag10, busMaster := h.bme } } Rdy.hif true
    have hready := State.setReady_isReady { s with hif := { s.hif with
      linkUp := true, gen := gen, width := width, mps := mps, mrrs := h.mrrs, tag10 := h.tag10, busMaster := h.bme } } (b := Rdy.hif)
      (by decide) true
    have hframe : Touches (evtParts ++ [Part.ready]) s (s.pcieLinkUp gen width mps h.mrrs h.tag10 h.bme) := by
      rw [hrun]
      exact ((Touches.refl _ _).set_hif rfl).step (State.setReady_touches _ _ _ rfl)
    rw [← hrun] at hkept hready
    generalize hu : s.pcieLinkUp gen width mps h.mrrs h.tag10 h.bme = u at *
    have hexec : exec (.pcieLinkUp gen width mps h) s = effect (pcieLink gen width mps h.mrrs) s u := hu ▸ rfl
    exact gives_effect hexec hup hwf ⟨hkept.linkUp, (congrArg HifState.gen hkept.only :), (congrArg HifState.width hkept.only :),
      (congrArg HifState.mps hkept.only :), (congrArg HifState.mrrs hkept.only :), (congrArg HifState.tag10 hkept.only :),
      (congrArg HifState.busMaster hkept.only :), hready, hframe.carry⟩
  case down =>
    intro s hup
    have hkept : HifKept { s.hif with linkUp := false, gen := 0, width := 0 } s.pcieLinkDown.hif :=
      State.setReady_hif { s with hif := { s.hif with linkUp := false, gen := 0, width := 0 } } Rdy.hif false
    have hready : s.pcieLinkDown.isReady Rdy.hif = false :=
      State.setReady_isReady { s with hif := { s.hif with linkUp := false, gen := 0, width := 0 } } (b := Rdy.hif) (by decide) false
    have hframe : Touches (evtParts ++ [Part.ready]) s s.pcieLinkDown :=
      ((Touches.refl _ _).set_hif rfl).step (State.setReady_touches _ _ _ rfl)
    have hexec : exec .pcieLinkDown s = effect true s s.pcieLinkDown := rfl
    generalize s.pcieLinkDown = u at *
    exact gives_effect hexec hup rfl ⟨hkept.linkUp, hready, (congrArg HifState.busMaster hkept.only :), hframe.carry⟩
  case master =>
    intro s hup
    have hmaster : s.busMasterClear.hif.busMaster = false := State.ringsErr_busMaster _ s.noBusMaster 6
    have hframe : Touches (.regs :: evtParts) s s.busMasterClear := State.busMasterClear_touches s rfl
    have hrings := fun n => s.busMasterClear_rings (n := n)
    have hexec : exec .busMasterClear s = effect true s s.busMasterClear := rfl
    generalize s.busMasterClear = u at *
    exact gives_effect hexec hup rfl ⟨hmaster, hrings, hframe.carry⟩
  case reset =>
    rintro s c hup (rfl | rfl)
    · exact State.functionReset_gives rfl hup
    · exact State.functionReset_gives rfl hup

end Sys2Proof.Machine
end

section
/-! ## Doorbells, descriptors, frames and messages of rings (R58 to R76) -/

set_option Elab.async false

namespace Sys2Proof.Machine

/-! ### Rings -/

theorem State.setRing_ring_self (s : State) (n : Nat) (r : Ring) : (s.setRing n r).ring n = r := HifState.setRing_ring_self _ _ _

theorem State.setRing_ring_ne (s : State) {n m : Nat} (h : m ≠ n) (r : Ring) : (s.setRing n r).ring m = s.ring m :=
  HifState.setRing_ring_ne _ h _

theorem State.setRing_fab (s : State) (n : Nat) (r : Ring) : (s.setRing n r).fab = s.fab := rfl

theorem State.cplRing_bounds (s : State) (n : Nat) : 48 ≤ s.cplRing n ∧ s.cplRing n < 56 := by
  have hlt : s.ap Fld.hifRingCtrl_CPL n < 2 ^ 3 := Nat.mod_lt _ (by decide)
  unfold State.cplRing
  omega

/-! ### Doorbells -/

/-- The doorbell write of ring `n` by its window. -/
def doorbellOf (n off : Nat) (be : BitVec 4) (v : Word) : Instr := if cplRingNo n then .cplDoorbell n off be v else .doorbell n off be v

theorem gives_doorbell {s : State} {n off : Nat} {be : BitVec 4} {v : Word} {P : State → Prop} (hup : s.Up) (hn : n < 64)
    (hp : P ((s.doorbell n off be v).carry s)) : Gives (doorbellOf n off be v) s P := by
  unfold doorbellOf
  by_cases hcpl : cplRingNo n = true
  · rw [if_pos hcpl]
    simp only [cplRingNo, Bool.and_eq_true, decide_eq_true_eq] at hcpl
    exact gives_effect rfl hup (by simp [ringNo, hn, hcpl.1, hcpl.2]) hp
  · rw [if_neg hcpl]
    simp only [cplRingNo, Bool.and_eq_true, decide_eq_true_eq, not_and] at hcpl
    exact gives_effect rfl hup (by simp [ringNo, hn]; omega) hp

theorem State.doorbell_taken {s : State} {n : Nat} (hring : (s.ring n).state = .run ∨ (s.ring n).state = .draining) (v : Word) :
    s.doorbell n 0 0xF v = s.takeIndex n (fieldOf v 0 16) (bitAt v.toNat 31) := by
  unfold State.doorbell
  rcases hring with h | h <;> simp [h]

theorem State.takeIndex_source {s : State} {n : Nat} (hn : cplRingNo n = false) {i : Nat} (hok : s.indexOk n i = true) (arm : Bool) :
    s.takeIndex n i arm = s.setRing n { s.ring n with pidx := i } := by
  simp [State.takeIndex, hok, hn]

theorem State.takeIndex_bad {s : State} {n i : Nat} (hok : s.indexOk n i = false) (arm : Bool) : s.takeIndex n i arm = s.ringErr n 1 := by
  simp [State.takeIndex, hok]

/-! ### The host releases completions -/

/-- The source rings of `l` wait for no slot. -/
def State.waitEnd (s : State) (l : List Nat) : State := l.foldl (fun s k => s.setRing k { s.ring k with cplWait := false }) s

theorem State.waitEnd_ring (l : List Nat) (s : State) {n : Nat} (hn : n ∉ l) : (s.waitEnd l).ring n = s.ring n := by
  unfold State.waitEnd
  induction l generalizing s with
  | nil => rfl
  | cons k l ih =>
    rw [List.mem_cons, not_or] at hn
    exact (ih _ hn.2).trans (State.setRing_ring_ne s hn.1 _)

/-- A completion ring whose slots up to `i` the host has read. -/
def Ring.released (r : Ring) (i : Nat) : Ring := { r with cidx := i, slots := r.slots.drop ((i + 65536 - r.cidx) % 65536) }

theorem State.releaseTo_ring (s : State) {n : Nat} (hn : cplRingNo n = true) (i : Nat) : (s.releaseTo n i).ring n = (s.ring n).released i := by
  unfold State.releaseTo
  extract_lets r s1
  have hself : s1.ring n = (s.ring n).released i := State.setRing_ring_self _ _ _
  split
  · refine (State.waitEnd_ring _ s1 ?_).trans hself
    simp [hn]
  · exact hself

/-- A completion ring that may send a message. -/
def Ring.arm (r : Ring) : Ring := { r with armed := true }

/-- A completion ring whose message has been sent. -/
def Ring.told (r : Ring) : Ring := { r with armed := false, sinceMsg := 0, timer := false }

theorem HifState.sendVec_rings (h : HifState) (v : Nat) : (h.sendVec v).rings = h.rings := by
  unfold HifState.sendVec
  split <;> rfl

theorem HifState.sendVec_ring (h : HifState) (v n : Nat) : (h.sendVec v).ring n = h.ring n := by
  rw [HifState.ring, HifState.ring, h.sendVec_rings]

theorem State.ringMessage_ring_self (s : State) (n : Nat) (h : HifState) : (s.ringMessage n h).ring n = (h.ring n).told :=
  (HifState.sendVec_ring _ _ _).trans (HifState.setRing_ring_self _ _ _)

theorem State.ringMessage_ring_ne (s : State) {n m : Nat} (hm : m ≠ n) (h : HifState) : (s.ringMessage n h).ring m = h.ring m :=
  (HifState.sendVec_ring _ _ _).trans (HifState.setRing_ring_ne _ hm _)

theorem State.takeIndex_completion {s : State} {n : Nat} (hn : cplRingNo n = true) {i : Nat} (hok : s.indexOk n i = true) (arm : Bool) :
    (s.takeIndex n i arm).ring n =
      if arm then (if (s.ring n).pidx = i then ((s.ring n).released i).arm else ((s.ring n).released i).arm.told)
      else (s.ring n).released i := by
  unfold State.takeIndex
  have hbad : (!(s.indexOk n i)) = false := by rw [hok]; rfl
  extract_lets s1 _ s2
  rw [if_neg (by simp [hok]), if_pos hn]
  have hs1 : s1.ring n = (s.ring n).released i := s.releaseTo_ring hn i
  cases arm
  · exact hs1
  · have hs2 : s2.ring n = ((s.ring n).released i).arm := (State.setRing_ring_self _ _ _).trans (congrArg Ring.arm hs1)
    rw [hs2, if_neg (by decide), if_pos rfl]
    by_cases hread : (s.ring n).pidx = i
    · rw [if_pos hread, if_neg (c := ((s.ring n).released i).arm.pidx ≠ ((s.ring n).released i).arm.cidx) (not_not.mpr hread)]
      exact hs2
    · rw [if_neg hread, if_pos (c := ((s.ring n).released i).arm.pidx ≠ ((s.ring n).released i).arm.cidx) hread]
      exact (s2.ringMessage_ring_self n s2.hif).trans (congrArg Ring.told hs2)

theorem State.takeIndex_completion_touches {s : State} {n : Nat} (hn : cplRingNo n = true) {i : Nat} (hok : s.indexOk n i = true) (arm : Bool) :
    Touches [.hif] s (s.takeIndex n i arm) := by
  unfold State.takeIndex
  extract_lets s1 _ s2
  rw [if_neg (by simp [hok]), if_pos hn]
  have h1 : Touches [.hif] s s1 := State.releaseTo_touches s n i rfl
  have h2 : Touches [.hif] s s2 := h1.step (State.setRing_touches _ _ _ rfl)
  exact Touches.ite h1 (Touches.ite (h2.set_hif rfl) h2)

/-! ### Completions in their slots -/

/-- From `s` to `t` every ring keeps its state, its descriptors and their bounds. -/
def RingsHeld (s t : State) : Prop :=
  ∀ n, (t.ring n).state = (s.ring n).state ∧ (t.ring n).fetched = (s.ring n).fetched ∧ (t.ring n).cidx = (s.ring n).cidx ∧
    (t.ring n).deficit = (s.ring n).deficit

section Held

variable {s t u : State}

theorem RingsHeld.refl (s : State) : RingsHeld s s := fun _ => ⟨rfl, rfl, rfl, rfl⟩

theorem RingsHeld.trans (h : RingsHeld s t) (g : RingsHeld t u) : RingsHeld s u := fun n => by
  obtain ⟨hstate, hfetched, hcidx, hdeficit⟩ := h n
  obtain ⟨gstate, gfetched, gcidx, gdeficit⟩ := g n
  exact ⟨gstate.trans hstate, gfetched.trans hfetched, gcidx.trans hcidx, gdeficit.trans hdeficit⟩

theorem RingsHeld.of_hif (h : t.hif = s.hif) : RingsHeld s t := fun n => by
  have hring : t.ring n = s.ring n := congrArg (fun x => HifState.ring x n) h
  rw [hring]
  exact ⟨rfl, rfl, rfl, rfl⟩

theorem RingsHeld.of_kept (h : HifKept s.hif t.hif) : RingsHeld s t := fun n => by
  have hring : t.ring n = { s.ring n with
    pidx := (t.ring n).pidx, phase := (t.ring n).phase, slots := (t.ring n).slots, sinceMsg := (t.ring n).sinceMsg,
    timer := (t.ring n).timer, armed := (t.ring n).armed } := (h.rings n).only
  rw [hring]
  exact ⟨rfl, rfl, rfl, rfl⟩

theorem RingsHeld.setReserved (s : State) (m k : Nat) : RingsHeld s (s.setRing m { s.ring m with reserved := k }) := fun n => by
  by_cases hn : n = m
  · subst hn
    rw [State.setRing_ring_self]
    exact ⟨rfl, rfl, rfl, rfl⟩
  · rw [State.setRing_ring_ne _ hn]
    exact ⟨rfl, rfl, rfl, rfl⟩

theorem State.slotUse_held (s : State) (n m : Nat) (b : CplBody) : RingsHeld s (s.slotUse n m b) := by
  unfold State.slotUse
  extract_lets _ s1
  have hres : RingsHeld s s1 := RingsHeld.setReserved s m _
  split
  · next hrun =>
    exact hres.trans (RingsHeld.of_kept (s1.writeSlot_kept m b false s1.hif ((hres m).1.trans hrun)))
  · exact hres

theorem State.tsLost_held (s : State) (x : Copy) (o : Nat) : RingsHeld s (s.tsLost x o) := by
  unfold State.tsLost
  cases x.tsReq with
  | none => exact RingsHeld.refl s
  | some q => exact s.slotUse_held _ _ _

end Held

/-- A completion written into a ring in RUN takes its next slot. -/
theorem State.writeSlot_pidx (s : State) (n : Nat) (b : CplBody) (bypass : Bool) (h : HifState) :
    ((s.writeSlot n b bypass h).ring n).pidx = ((h.ring n).pidx + 1) % 65536 := by
  unfold State.writeSlot
  extract_lets r p r' h'
  have hset : (h'.ring n).pidx = p := congrArg Ring.pidx (HifState.setRing_ring_self h n r')
  split
  · exact (congrArg Ring.pidx (s.ringMessage_ring_self n h')).trans hset
  · exact hset

theorem State.slotUse_pidx {s : State} {m : Nat} (hrun : (s.ring m).state = .run) (n : Nat) (b : CplBody) :
    ((s.slotUse n m b).ring m).pidx = ((s.ring m).pidx + 1) % 65536 := by
  unfold State.slotUse
  extract_lets _ s1
  have hpidx : (s1.ring m).pidx = (s.ring m).pidx := (congrArg Ring.pidx (State.setRing_ring_self s m _) :)
  rw [if_pos hrun, ← hpidx]
  exact s1.writeSlot_pidx m b false s1.hif

theorem State.advance_ring_self (s : State) (n k : Nat) : (s.advance n k).ring n = { s.ring n with cidx := ((s.ring n).cidx + k) % 65536 } :=
  State.setRing_ring_self _ _ _

/-! ### Descriptors that are fetched -/

/-- A descriptor joins its ring, and its slots are reserved. -/
def State.fetchDesc (s : State) (n : Nat) (f : Fetched) : State :=
  let s1 := s.setRing n { s.ring n with fetched := (s.ring n).fetched ++ [f] }
  s1.setRing f.cpl { s1.ring f.cpl with reserved := (s1.ring f.cpl).reserved + f.slots }

theorem State.fetchDesc_ring_self (s : State) {n : Nat} {f : Fetched} (h : f.cpl ≠ n) :
    (s.fetchDesc n f).ring n = { s.ring n with fetched := (s.ring n).fetched ++ [f] } :=
  (State.setRing_ring_ne _ h.symm _).trans (State.setRing_ring_self _ _ _)

theorem State.fetchDesc_ring_cpl (s : State) {n : Nat} {f : Fetched} (h : f.cpl ≠ n) :
    (s.fetchDesc n f).ring f.cpl = { s.ring f.cpl with reserved := (s.ring f.cpl).reserved + f.slots } := by
  unfold State.fetchDesc
  extract_lets _ s1
  have hkeep : s1.ring f.cpl = s.ring f.cpl := State.setRing_ring_ne s h _
  exact (State.setRing_ring_self _ _ _).trans (congrArg (fun r : Ring => { r with reserved := r.reserved + f.slots }) hkeep)

/-- Ring `n` waits for no slot. -/
def State.noWait (s : State) (n : Nat) : State := s.setRing n { s.ring n with cplWait := false }

theorem State.noWait_ring_self (s : State) (n : Nat) : (s.noWait n).ring n = { s.ring n with cplWait := false } := State.setRing_ring_self _ _ _

/-- What is fetched, with its place for the completion. -/
def State.fetched (s : State) (n k : Nat) (raw ext : List Byte) : Fetched := { raw := raw, ext := ext, slots := k, cpl := s.cplRing n }

section Take

variable {s : State} {n k : Nat} {raw ext : List Byte}

/-- Ring `n` fetches: it runs, has a descriptor that is not fetched, and `k` slots are free for its completion. -/
structure State.Fetches (s : State) (n k : Nat) : Prop where
  run : (s.ring n).state = .run
  count : (s.ring n).fetched.length < (s.ring n).count
  few : (s.ring n).fetched.length < 16
  cplRun : (s.ring (s.cplRing n)).state = .run
  free : k ≤ s.freeSlots (s.cplRing n)

theorem State.descTake_eq {u : State} (h : s.Fetches n k) (hneed : (s.ring n).need n { raw := raw, ext := ext } = k)
    (hstop : ¬(n < 24 ∧ s.txStopped = true)) (hturn : (s.noWait n).takeTurn n (s.fetched n k raw ext) = (u, true))
    (hu : (u.ring n).fetched = (s.ring n).fetched) :
    s.descTake n raw ext =
      if n < 24 then (u.fetchDesc n (s.fetched n k raw ext)).txTaken n (s.fetched n k raw ext)
      else if n < 48 then (u.fetchDesc n (s.fetched n k raw ext)).rxTaken n (s.fetched n k raw ext)
      else (u.fetchDesc n (s.fetched n k raw ext)).unlistedGo n 16 := by
  obtain ⟨hrun, hcount, hfew, hcpl, hfree⟩ := h
  have hrefuse : ¬((s.ring n).state ≠ .run ∨ (s.ring n).count ≤ (s.ring n).fetched.length ∨ 16 ≤ (s.ring n).fetched.length ∨
      (n < 24 ∧ s.txStopped = true)) := by
    rintro (h | h | h | h)
    · exact h hrun
    · omega
    · omega
    · exact hstop h
  have hwait : ¬(0 < k ∧ ((s.ring (s.cplRing n)).state ≠ .run ∨ s.freeSlots (s.cplRing n) < k)) := by
    rintro ⟨-, h | h⟩
    · exact h hcpl
    · omega
  have hturn' : (s.setRing n { s.ring n with cplWait := false }).takeTurn n
      { raw := raw, ext := ext, slots := k, cpl := s.cplRing n } = (u, true) := hturn
  unfold State.descTake
  dsimp only
  rw [if_neg hrefuse, hneed, if_neg hwait, hturn', ← hu]
  rfl

/-- Rings that do not transmit take their turn at once. -/
theorem State.takeTurn_other (h : 24 ≤ n) (f : Fetched) : s.takeTurn n f = (s, true) := if_neg (Nat.not_lt.mpr h)

theorem Ring.need_other (r : Ring) (h : 24 ≤ n) (f : Fetched) : r.need n f = 1 := if_neg (Nat.not_lt.mpr h)

/-- What a ring that does not transmit holds once it has fetched a descriptor. -/
def State.took (s : State) (n : Nat) (raw ext : List Byte) : State := (s.noWait n).fetchDesc n (s.fetched n 1 raw ext)

theorem State.took_ring_self (hn : n < 48 ∨ 56 ≤ n) :
    ((s.took n raw ext).ring n).fetched = (s.ring n).fetched ++ [s.fetched n 1 raw ext] ∧
    ((s.took n raw ext).ring n).cidx = (s.ring n).cidx := by
  have hne : (s.fetched n 1 raw ext).cpl ≠ n := by
    have hbounds := s.cplRing_bounds n
    show s.cplRing n ≠ n
    omega
  rw [State.took, State.fetchDesc_ring_self _ hne, s.noWait_ring_self n]
  exact ⟨rfl, rfl⟩

theorem State.took_ring_cpl (hn : n < 48 ∨ 56 ≤ n) :
    (s.took n raw ext).ring (s.cplRing n) = { s.ring (s.cplRing n) with reserved := (s.ring (s.cplRing n)).reserved + 1 } := by
  have hne : (s.fetched n 1 raw ext).cpl ≠ n := by
    have hbounds := s.cplRing_bounds n
    show s.cplRing n ≠ n
    omega
  have hkeep : (s.noWait n).ring (s.cplRing n) = s.ring (s.cplRing n) := State.setRing_ring_ne s hne _
  have hset := (s.noWait n).fetchDesc_ring_cpl hne
  rw [show (s.fetched n 1 raw ext).cpl = s.cplRing n from rfl, hkeep] at hset
  exact hset

theorem State.took_touches : Touches [.hif] s (s.took n raw ext) :=
  ((Touches.refl _ _).set_hif rfl).set_hif rfl |>.set_hif rfl

theorem State.descTake_other (hn : 24 ≤ n) (h : s.Fetches n 1) :
    s.descTake n raw ext =
      if n < 48 then (s.took n raw ext).rxTaken n (s.fetched n 1 raw ext) else (s.took n raw ext).unlistedGo n 16 := by
  have heq := State.descTake_eq (raw := raw) (ext := ext) (u := s.noWait n) h (Ring.need_other _ hn _) (fun hlow => by omega)
    (State.takeTurn_other hn _) (congrArg Ring.fetched (s.noWait_ring_self n) :)
  rw [if_neg (Nat.not_lt.mpr hn)] at heq
  exact heq

/-! ### Commands that are not listed -/

theorem Ring.nextCmd_mem {r : Ring} {f : Fetched} (h : r.nextCmd = some f) : f ∈ r.fetched := by
  simp only [Ring.nextCmd, Option.bind_eq_some_iff] at h
  obtain ⟨g, hg, hgf⟩ := h
  split at hgf
  · cases hgf
  · obtain rfl := Option.some.inj hgf
    exact List.mem_of_find?_eq_some hg

theorem State.unlistedGo_listed (h : (s.ring n).fetched.all (fun x => opcodes.contains x.opcode) = true) (k : Nat) : s.unlistedGo n k = s := by
  cases k with
  | zero => rfl
  | succ k =>
    unfold State.unlistedGo
    split
    · rfl
    · next f hf => rw [if_pos (List.all_eq_true.mp h f (Ring.nextCmd_mem hf))]

/-- A single command that is not listed completes at once. -/
theorem State.unlistedGo_one {f : Fetched} (h : (s.ring n).fetched = [f]) (hnew : f.started = false)
    (hbad : opcodes.contains f.opcode = false) (k : Nat) :
    s.unlistedGo n (k + 1) = (s.cplPut n f (f.plainCpl n (if s.familyAbsent f.opcode then .unsupported else .badArg))).unlistedGo n k := by
  have hnext : (s.ring n).nextCmd = some f := by simp [Ring.nextCmd, h, hnew]
  rw [State.unlistedGo, hnext]
  exact if_neg (by rw [hbad]; exact Bool.false_ne_true)

theorem State.cplPut_ring_self (f : Fetched) (c : Cpl) :
    ((s.cplPut n f c).ring n).fetched = (s.ring n).fetched.erase f ∧ ((s.cplPut n f c).ring n).cidx = ((s.ring n).cidx + 1) % 65536 := by
  unfold State.cplPut
  extract_lets i _ s1
  have hset : s1.ring n = { s.ring n with fetched := (s.ring n).fetched.erase f, cidx := i } := State.setRing_ring_self _ _ _
  obtain ⟨-, hfetched, hcidx, -⟩ := s1.slotUse_held n f.cpl (.cmd n c.status c.tag c.handle c.opcode i c.result) n
  exact ⟨hfetched.trans (congrArg Ring.fetched hset), hcidx.trans (congrArg Ring.cidx hset)⟩

theorem State.cplPut_ring_cpl {f : Fetched} (c : Cpl) (hne : f.cpl ≠ n) (hrun : (s.ring f.cpl).state = .run) :
    ((s.cplPut n f c).ring f.cpl).pidx = ((s.ring f.cpl).pidx + 1) % 65536 := by
  unfold State.cplPut
  extract_lets i _ s1
  have hkeep : s1.ring f.cpl = s.ring f.cpl := State.setRing_ring_ne s hne _
  rw [State.slotUse_pidx (by rw [hkeep]; exact hrun), hkeep]

end Take

/-! ### Frames that the host sends -/

theorem State.mirrorCopy_nextFrame (s : State) (f m q tc len : Nat) (tag : Option Nat) (b : Bool) :
    (s.mirrorCopy f m q tc len tag b).fab.nextFrame = s.fab.nextFrame := by
  unfold State.mirrorCopy
  dsimp only
  split
  · rfl
  · split <;> rfl

theorem State.foldl_nextFrame {α : Type} {f : State → α → State} (hf : ∀ s x, (f s x).fab.nextFrame = s.fab.nextFrame) (l : List α) (s : State) :
    (l.foldl f s).fab.nextFrame = s.fab.nextFrame := by
  induction l generalizing s with
  | nil => rfl
  | cons x l ih => exact (ih _).trans (hf s x)

theorem State.mirrorFrame_nextFrame (s : State) (f tc : Nat) (hit : Option Nat) : (s.mirrorFrame f tc hit).fab.nextFrame = s.fab.nextFrame := by
  unfold State.mirrorFrame
  split
  · rfl
  · refine State.foldl_nextFrame (fun s m => ?_) _ s
    extract_lets o k flow t
    have ht : t.fab.nextFrame = s.fab.nextFrame := by
      simp only [t]
      split
      · exact State.mirrorCopy_nextFrame _ _ _ _ _ _ _ _
      · rfl
    clear_value t
    split
    · exact (State.foldl_nextFrame (fun s x => State.mirrorCopy_nextFrame _ _ _ _ _ _ _ _) _ t).trans ht
    · exact ht

theorem State.mirrorFrame_hif (s : State) (f tc : Nat) (hit : Option Nat) : (s.mirrorFrame f tc hit).hif = s.hif :=
  State.mirrorFrame_touches (ps := Part.others .hif) s f tc hit rfl .hif rfl

theorem State.txFrame_gives (s : State) (n : Nat) (g : List Fetched) :
    RingsHeld s (s.txFrame n g).1 ∧ (s.txFrame n g).1.fab.nextFrame = s.fab.nextFrame + 1 := by
  unfold State.txFrame
  extract_lets -underBinder f fl port q h bytes hdr k lookup flow fr _ s1 ts c
  have hheld : RingsHeld s s1 := RingsHeld.of_hif rfl
  have hnext : s1.fab.nextFrame = s.fab.nextFrame + 1 := rfl
  clear_value s1
  split
  · exact ⟨hheld, hnext⟩
  split
  · have hlost : RingsHeld s1 ((s1.bump Fld.portDownDisc_VAL port).tsLost c 1) :=
      (RingsHeld.of_hif (s := s1) (t := s1.bump Fld.portDownDisc_VAL port) rfl).trans (State.tsLost_held _ c 1)
    have hfab : ((s1.bump Fld.portDownDisc_VAL port).tsLost c 1).fab = s1.fab :=
      State.tsLost_touches (ps := Part.others .fab) _ c 1 rfl .fab rfl
    refine ⟨(hheld.trans hlost).trans (RingsHeld.of_hif (State.mirrorFrame_hif _ _ _ _)), (State.mirrorFrame_nextFrame _ _ _ _).trans ?_⟩
    rw [hfab]
    exact hnext
  · refine ⟨hheld.trans ((RingsHeld.of_hif (t := s1.addCopy c) rfl).trans (RingsHeld.of_hif (State.mirrorFrame_hif _ _ _ _))),
      (State.mirrorFrame_nextFrame _ _ _ _).trans hnext⟩

/-- A frame of one descriptor is taken. -/
theorem State.txTaken_gives {s : State} {n : Nat} {f : Fetched} (h : (s.ring n).fetched = [f]) :
    ((s.txTaken n f).ring n).fetched.map (fun x => x.raw) = [f.raw] ∧ ((s.txTaken n f).ring n).deficit = (s.ring n).deficit ∧
    (bitAt f.txFlags 1 = true → s.txStatus [f] = .ok → (s.txTaken n f).fab.nextFrame = s.fab.nextFrame + 1) ∧
    (bitAt f.txFlags 1 = false → s.txTaken n f = s) := by
  unfold State.txTaken
  extract_lets l g t
  have hl : l = [f] := h
  have hg : g = [f] := by simp [g, hl]
  by_cases hend : (!(bitAt f.txFlags 1)) = true ∨ s.txStatus g ≠ .ok
  · rw [if_pos hend]
    refine ⟨by rw [h]; rfl, rfl, fun heof hok => ?_, fun _ => rfl⟩
    rw [hg, heof] at hend
    exact absurd hok (hend.resolve_left Bool.false_ne_true)
  · rw [if_neg hend]
    have heof : bitAt f.txFlags 1 = true := by
      cases hbit : bitAt f.txFlags 1
      · exact absurd (.inl (by rw [hbit]; rfl)) hend
      · rfl
    obtain ⟨hheld, hnext⟩ := s.txFrame_gives n g
    rw [State.setRing_ring_self, hl]
    exact ⟨rfl, (hheld n).2.2.2, fun _ _ => hnext, fun hno => absurd (heof.symm.trans hno) (by decide)⟩

/-- The ring whose turn it is takes what its deficit covers. -/
theorem State.txTurnGo_at {s : State} {n len : Nat} (hturn : s.hif.txTurn = n) (hlen : len ≤ (s.ring n).deficit) (k : Nat) :
    s.txTurnGo n len (k + 1) = (s.setRing n { s.ring n with deficit := (s.ring n).deficit - len }, true) := by
  unfold State.txTurnGo
  exact if_pos ⟨hturn, hlen⟩

section Transmit

variable {s : State} {n : Nat} {raw ext : List Byte}

/-- Ring `n` in its turn, with what its deficit loses. -/
def State.turnTaken (s : State) (n len : Nat) : State :=
  (s.noWait n).setRing n { (s.noWait n).ring n with deficit := ((s.noWait n).ring n).deficit - len }

/-- What a transmit ring holds once it has fetched a descriptor. -/
def State.txTook (s : State) (n k : Nat) (raw ext : List Byte) : State :=
  (s.turnTaken n (min 10240 (leAt raw 8 2))).fetchDesc n (s.fetched n k raw ext)

theorem State.txTook_ring (hn : n < 24) (hempty : (s.ring n).fetched = []) (k : Nat) :
    ((s.txTook n k raw ext).ring n).fetched = [s.fetched n k raw ext] ∧
    ((s.txTook n k raw ext).ring n).deficit = (s.ring n).deficit - min 10240 (leAt raw 8 2) := by
  have hne : (s.fetched n k raw ext).cpl ≠ n := by
    have hbounds := s.cplRing_bounds n
    show s.cplRing n ≠ n
    omega
  have hwait := s.noWait_ring_self n
  have hturn : (s.turnTaken n (min 10240 (leAt raw 8 2))).ring n = { (s.noWait n).ring n with
      deficit := ((s.noWait n).ring n).deficit - min 10240 (leAt raw 8 2) } := State.setRing_ring_self _ _ _
  rw [State.txTook, State.fetchDesc_ring_self _ hne, hturn, hwait]
  refine ⟨?_, rfl⟩
  show (s.ring n).fetched ++ [s.fetched n k raw ext] = [s.fetched n k raw ext]
  rw [hempty]
  rfl

theorem State.txTook_touches (k : Nat) : Touches [.hif] s (s.txTook n k raw ext) :=
  (((Touches.refl _ _).set_hif rfl).set_hif rfl).set_hif rfl |>.set_hif rfl

theorem State.descTake_transmit (hn : n < 24) (hrun : (s.ring n).state = .run) (hempty : (s.ring n).fetched = []) (hcount : 0 < (s.ring n).count)
    (hcpl : (s.ring (s.cplRing n)).state = .run) (hfree : 2 ≤ s.freeSlots (s.cplRing n)) (hstop : s.txStopped = false)
    (hturn : s.hif.txTurn = n) (hlen : min 10240 (leAt raw 8 2) ≤ (s.ring n).deficit) :
    ∃ k, s.descTake n raw ext = (s.txTook n k raw ext).txTaken n (s.fetched n k raw ext) := by
  have hneed : (s.ring n).need n { raw := raw, ext := ext } ≤ 2 := by
    have hbit : ∀ b, b2n b ≤ 1 := by decide
    have h5 := hbit (bitAt (Fetched.txFlags { raw := raw, ext := ext }) 5)
    have h3 := hbit (bitAt (Fetched.txFlags { raw := raw, ext := ext }) 3)
    simp only [Ring.need, hn, if_true]
    split <;> omega
  have hwait := s.noWait_ring_self n
  obtain ⟨k, hk⟩ : ∃ k, (s.ring n).need n { raw := raw, ext := ext } = k := ⟨_, rfl⟩
  rw [hk] at hneed
  have htook : (s.noWait n).takeTurn n (s.fetched n k raw ext) = (s.turnTaken n (min 10240 (leAt raw 8 2)), true) :=
    (if_pos hn).trans (State.txTurnGo_at (s := s.noWait n) hturn (by rw [hwait]; exact hlen) 299)
  have hkeep : ((s.turnTaken n (min 10240 (leAt raw 8 2))).ring n).fetched = (s.ring n).fetched := by
    rw [State.turnTaken, State.setRing_ring_self, hwait]
  have hfetches : s.Fetches n k := ⟨hrun, by rw [hempty]; exact hcount, by rw [hempty]; decide, hcpl, Nat.le_trans hneed hfree⟩
  have heq := State.descTake_eq (raw := raw) (ext := ext) hfetches hk (by simp [hstop]) htook hkeep
  rw [if_pos hn] at heq
  exact ⟨k, heq⟩

end Transmit

/-! ### Frames that are sent or delivered -/

theorem State.txEnd_gives (s : State) (n : Nat) (g : List Fetched) (st : Status) :
    ((s.txEnd n g st).ring n).fetched = (s.ring n).fetched.drop g.length ∧
    ((s.txEnd n g st).ring n).cidx = ((s.ring n).cidx + g.length) % 65536 := by
  unfold State.txEnd
  extract_lets -underBinder f e s1 r s2 _ s3
  have h1 : RingsHeld s s1 := by
    unfold s1
    split
    · exact RingsHeld.refl s
    · split
      · refine RingsHeld.of_kept ?_
        rw [State.afterFree_hif]
        refine (State.foldl_hif (fun u c => ?_) _ s).trans (State.dropFrame_hif _ _)
        split <;> exact HifKept.of_eq rfl
      · exact RingsHeld.refl s
  clear_value s1
  have h2 : (s2.ring n).fetched = r.fetched.drop g.length ∧ (s2.ring n).cidx = (r.cidx + g.length) % 65536 := by
    unfold s2
    rw [State.advance_ring_self, State.setRing_ring_self]
    exact ⟨rfl, rfl⟩
  have h3 : RingsHeld s2 s3 := by
    unfold s3
    split
    · exact RingsHeld.setReserved _ _ _
    · exact RingsHeld.refl _
  clear_value s3
  have h4 : ∀ t, RingsHeld s3 t → (t.ring n).fetched = (s.ring n).fetched.drop g.length ∧ (t.ring n).cidx = ((s.ring n).cidx + g.length) % 65536 := by
    intro t ht
    obtain ⟨-, hfetched, hcidx, -⟩ := h1 n
    obtain ⟨-, hfetched', hcidx', -⟩ := (h3.trans ht) n
    rw [hfetched', hcidx', h2.1, h2.2, show r = s1.ring n from rfl, hfetched, hcidx]
    exact ⟨rfl, rfl⟩
  split
  · exact h4 _ (State.slotUse_held _ _ _ _)
  · exact h4 _ (RingsHeld.refl _)

theorem State.txEnd_ok_touches (s : State) (n : Nat) (g : List Fetched) : Touches [.hif, .rc .hifRingAborted] s (s.txEnd n g .ok) := by
  unfold State.txEnd
  extract_lets -underBinder f e s1 r s2 _ s3
  have h2 : Touches [.hif, .rc .hifRingAborted] s s2 := ((Touches.refl _ _).set_hif rfl).set_hif rfl
  have h3 : Touches [.hif, .rc .hifRingAborted] s s3 := by
    unfold s3
    split
    · exact h2.set_hif rfl
    · exact h2
  clear_value s3
  split
  · exact h3.step (State.slotUse_touches _ _ _ _ rfl)
  · exact h3

theorem State.advance_fetched (s : State) (n k m : Nat) : ((s.advance n k).ring m).fetched = (s.ring m).fetched := by
  by_cases hm : m = n
  · rw [hm, State.advance_ring_self]
  · exact congrArg Ring.fetched (State.setRing_ring_ne s hm _)

theorem State.rxCpl_fetched (s : State) (n : Nat) (f : Fetched) (st : Status) (ts : Ts48) (reason port len tci cls flags flow m : Nat) :
    ((s.rxCpl n f st ts reason port len tci cls flags flow).ring m).fetched = (s.ring m).fetched :=
  (State.slotUse_held _ _ _ _ m).2.1.trans (s.advance_fetched n 1 m)

theorem State.foldl_fetched {α : Type} {f : State → α → State} {m : Nat} (hf : ∀ s x, ((f s x).ring m).fetched = (s.ring m).fetched)
    (l : List α) (s : State) : ((l.foldl f s).ring m).fetched = (s.ring m).fetched := by
  induction l generalizing s with
  | nil => rfl
  | cons x l ih => exact (ih _).trans (hf s x)

theorem State.rxWrite_fetched (s : State) (n : Nat) (fr : Frame) (x : Copy) (l : List (Fetched × Nat)) (m : Nat) :
    ((s.rxWrite n fr x l).ring m).fetched = (s.ring m).fetched := by
  unfold State.rxWrite
  extract_lets last kind flow
  exact State.foldl_fetched (fun u e => u.rxCpl_fetched n _ _ _ _ _ _ _ _ _ _ m) _ s

section Deliver

variable {s : State} {f c n : Nat} {fr : Frame} {x : Copy}

theorem State.rxHostCopy_eq (hfr : s.frame? f = some fr) (hc : s.hostCopy f = some c) (hx : s.copy? c = some x) (hlink : s.hif.linkUp = true)
    (hn : n = s.rxRing x.reason (min 7 (if x.q = 8 then fr.tc else x.q)) (Config.rxHash fr.h.hashed).toNat)
    (hring : (s.ring n).state = .run ∨ s.apB Fld.hifGlbCtrl_RX_FB_EN = false) :
    s.rxHostCopy f c =
      if (s.ring n).state ≠ .run then ((s.bump Fld.hifRxDisc_VAL).removeCopy c).afterFree
      else if ((rxFill (s.ring n).fetched x.len).map (fun e => e.2)).sum < x.len then s
      else ((s.setRing n { s.ring n with fetched := (s.ring n).fetched.drop (rxFill (s.ring n).fetched x.len).length }).rxWrite n fr x
        (rxFill (s.ring n).fetched x.len)).setCopy c { x with st := .sent, tsReq := none } := by
  have hfind : (s.copiesOf f).find? (fun c => (s.copy? c).any (fun x => decide (x.st = .host))) = some c := hc
  have hstay : ∀ m, ¬((s.ring n).state ≠ .run ∧ s.apB Fld.hifGlbCtrl_RX_FB_EN = true ∧ (s.ring m).state = .run) := by
    rintro m ⟨hdown, hfb, -⟩
    rcases hring with h | h
    · exact hdown h
    · rw [h] at hfb
      cases hfb
  rw [State.rxHostCopy, if_pos hc, State.rxHostDeliver, hfr, hfind]
  simp only [hx, hlink, Bool.not_true, Bool.false_eq_true, if_false]
  rw [← hn, if_neg (hstay _)]

theorem State.rxHostCopy_gives (hup : s.Up) (hfr : s.frame? f = some fr) (hc : s.hostCopy f = some c) (hx : s.copy? c = some x)
    (hlink : s.hif.linkUp = true) (hn : n = s.rxRing x.reason (min 7 (if x.q = 8 then fr.tc else x.q)) (Config.rxHash fr.h.hashed).toNat) :
    ((s.ring n).state = .run → x.len ≤ ((rxFill (s.ring n).fetched x.len).map (fun e => e.2)).sum → Gives (.rxHostDeliver f c) s (fun t =>
      t.copy? c = some { x with st := .sent, tsReq := none } ∧
      (t.ring n).fetched = (s.ring n).fetched.drop (rxFill (s.ring n).fetched x.len).length ∧
      Touches [.hif, .fab, .rc .hifRingAborted] s t)) ∧
    ((s.ring n).state ≠ .run → s.apB Fld.hifGlbCtrl_RX_FB_EN = false → Gives (.rxHostDeliver f c) s (fun t =>
      t.copy? c = none ∧ t.count Fld.hifRxDisc_VAL = s.counted Fld.hifRxDisc_VAL ∧ Touches (.rc .hifRxDisc :: copyParts) s t)) := by
  constructor
  · intro hrun hroom
    have heq := State.rxHostCopy_eq hfr hc hx hlink hn (.inl hrun)
    rw [if_neg (not_not.mpr hrun), if_neg (Nat.not_lt.mpr hroom)] at heq
    have hframe : Touches [.hif, .fab, .rc .hifRingAborted] s (s.rxHostCopy f c) := by
      rw [heq]
      exact (((Touches.refl _ _).set_hif rfl).step (State.rxWrite_touches _ _ _ _ _ rfl)).step (State.setCopy_touches _ _ _ rfl)
    have hfetched : ((s.rxHostCopy f c).ring n).fetched = (s.ring n).fetched.drop (rxFill (s.ring n).fetched x.len).length := by
      rw [heq]
      exact (State.rxWrite_fetched _ n fr x _ n).trans (congrArg Ring.fetched (State.setRing_ring_self s n _))
    have hcopy : (s.rxHostCopy f c).copy? c = some { x with st := .sent, tsReq := none } := by
      rw [heq]
      exact State.setCopy_copy?_self _ _ _
    exact gives_effect rfl hup rfl ⟨hcopy, hfetched, hframe.carry⟩
  · intro hdown hfb
    have heq := State.rxHostCopy_eq hfr hc hx hlink hn (.inr hfb)
    rw [if_pos hdown] at heq
    have hframe : Touches copyParts (s.bump Fld.hifRxDisc_VAL) (s.rxHostCopy f c) := by
      rw [heq]
      exact (State.removeCopy_touches _ _ rfl).step (State.afterFree_touches _ rfl)
    have hcount : (s.rxHostCopy f c).count Fld.hifRxDisc_VAL = s.counted Fld.hifRxDisc_VAL :=
      State.count_bumped (Touches.refl copyParts s) hframe rfl rfl (by decide)
    have hcopy : (s.rxHostCopy f c).copy? c = none := by
      rw [heq, State.afterFree_copy?]
      exact State.removeCopy_copy? _ _
    have hall : Touches (.rc .hifRxDisc :: copyParts) s (s.rxHostCopy f c) := (State.bump_touches _ _ _ _ rfl).step (hframe.mono rfl)
    exact gives_effect rfl hup rfl ⟨hcopy, hcount, hall.carry⟩

end Deliver

/-! ### Messages -/

theorem State.msixUnmask_gives (s : State) (v : Nat) :
    v ∈ (s.msixUnmask v).hif.unmasked ∧ (s.msixUnmask v).hif.pba.contains v = false ∧
    (s.msixUnmask v).hif.msgs = s.hif.msgs + (if s.hif.pba.contains v then 1 else 0) ∧ (∀ n, (s.msixUnmask v).ring n = s.ring n) := by
  unfold State.msixUnmask
  extract_lets _ h
  have hmem : v ∈ h.unmasked := mem_insertAsc_self v s.hif.unmasked
  have hpba : h.pba.contains v = false := by simp [h]
  by_cases hset : s.hif.pba.contains v = true
  · have hsend : h.sendVec v = { h with msgs := h.msgs + 1, lastVec := some v } := if_pos (List.contains_iff_mem.mpr hmem)
    simp only [if_pos hset, hsend]
    exact ⟨hmem, hpba, rfl, fun _ => rfl⟩
  · simp only [if_neg hset]
    exact ⟨hmem, hpba, rfl, fun _ => rfl⟩

theorem HifState.sendVec_gives (h : HifState) (v : Nat) :
    (h.unmasked.contains v = true → (h.sendVec v).msgs = h.msgs + 1 ∧ (h.sendVec v).lastVec = some v) ∧
    (h.unmasked.contains v = false → (h.sendVec v).msgs = h.msgs ∧ (h.sendVec v).pba = insertAsc v h.pba) := by
  unfold HifState.sendVec
  constructor
  · intro hopen
    rw [if_pos hopen]
    exact ⟨rfl, rfl⟩
  · intro hmasked
    rw [if_neg (by rw [hmasked]; exact Bool.false_ne_true)]
    exact ⟨rfl, rfl⟩

section Taken

variable {s : State} {n : Nat} {raw ext : List Byte}

theorem State.descTake_listed (hn : 56 ≤ n) (h : s.Fetches n 1)
    (hlisted : (s.ring n).fetched.all (fun x => opcodes.contains x.opcode) = true) (hop : opcodes.contains (leAt raw 0 2) = true) :
    ((s.descTake n raw ext).ring n).fetched = (s.ring n).fetched ++ [s.fetched n 1 raw ext] ∧
    ((s.descTake n raw ext).ring (s.cplRing n)).reserved = (s.ring (s.cplRing n)).reserved + 1 ∧ Touches [.hif] s (s.descTake n raw ext) := by
  have htake := State.descTake_other (raw := raw) (ext := ext) (by omega) h
  obtain ⟨hfetched, -⟩ := State.took_ring_self (s := s) (n := n) (raw := raw) (ext := ext) (.inr hn)
  have hall : ((s.took n raw ext).ring n).fetched.all (fun x => opcodes.contains x.opcode) = true := by
    rw [hfetched, List.all_append, hlisted]
    simpa [State.fetched, Fetched.opcode] using hop
  rw [if_neg (by omega), State.unlistedGo_listed hall] at htake
  rw [htake]
  exact ⟨hfetched, (congrArg Ring.reserved (State.took_ring_cpl (.inr hn)) :), State.took_touches⟩

theorem State.descTake_unlisted (hn : 56 ≤ n) (h : s.Fetches n 1) (hop : opcodes.contains (leAt raw 0 2) = false)
    (hempty : (s.ring n).fetched = []) :
    ((s.descTake n raw ext).ring n).fetched = [] ∧ ((s.descTake n raw ext).ring n).cidx = ((s.ring n).cidx + 1) % 65536 ∧
    ((s.descTake n raw ext).ring (s.cplRing n)).pidx = ((s.ring (s.cplRing n)).pidx + 1) % 65536 ∧
    Touches [.hif, .rc .hifRingAborted] s (s.descTake n raw ext) := by
  have htake := State.descTake_other (raw := raw) (ext := ext) (by omega) h
  rw [if_neg (by omega)] at htake
  obtain ⟨hfetched, hcidx⟩ := State.took_ring_self (s := s) (n := n) (raw := raw) (ext := ext) (.inr hn)
  rw [hempty, List.nil_append] at hfetched
  have hres := State.took_ring_cpl (s := s) (n := n) (raw := raw) (ext := ext) (.inr hn)
  have hne : (s.fetched n 1 raw ext).cpl ≠ n := by
    have hbounds := s.cplRing_bounds n
    show s.cplRing n ≠ n
    omega
  have hframe := State.took_touches (s := s) (n := n) (raw := raw) (ext := ext)
  have hone := State.unlistedGo_one hfetched rfl hop 15
  generalize s.took n raw ext = u at *
  generalize (s.fetched n 1 raw ext).plainCpl n (if u.familyAbsent (s.fetched n 1 raw ext).opcode then .unsupported else .badArg) = c at hone
  obtain ⟨hleft, hnext⟩ := State.cplPut_ring_self (s := u) (n := n) (s.fetched n 1 raw ext) c
  have hslot : ((u.cplPut n (s.fetched n 1 raw ext) c).ring (s.cplRing n)).pidx = ((u.ring (s.cplRing n)).pidx + 1) % 65536 :=
    State.cplPut_ring_cpl c hne ((congrArg Ring.state hres).trans h.cplRun)
  have hput : Touches [.hif, .rc .hifRingAborted] s (u.cplPut n (s.fetched n 1 raw ext) c) :=
    (hframe.mono rfl).step (State.cplPut_touches _ _ _ _ rfl)
  rw [hfetched, List.erase_cons_head] at hleft
  rw [hcidx] at hnext
  rw [show (u.ring (s.cplRing n)).pidx = (s.ring (s.cplRing n)).pidx from (congrArg Ring.pidx hres :)] at hslot
  generalize u.cplPut n (s.fetched n 1 raw ext) c = w at *
  rw [htake, show 16 = 15 + 1 from rfl, hone, State.unlistedGo_listed (by rw [hleft]; rfl)]
  exact ⟨hleft, hnext, hslot, hput⟩

theorem State.descTake_receive (hlow : 24 ≤ n) (hhigh : n < 48) (h : s.Fetches n 1) (hgood : rxBad raw = false) :
    ((s.descTake n raw ext).ring n).fetched = (s.ring n).fetched ++ [s.fetched n 1 raw ext] ∧
    ((s.descTake n raw ext).ring (s.cplRing n)).reserved = (s.ring (s.cplRing n)).reserved + 1 ∧ Touches [.hif] s (s.descTake n raw ext) := by
  have htake := State.descTake_other (raw := raw) (ext := ext) hlow h
  have hkeep : (s.took n raw ext).rxTaken n (s.fetched n 1 raw ext) = s.took n raw ext := if_neg (by
    rw [show (s.fetched n 1 raw ext).raw = raw from rfl, hgood]
    exact Bool.false_ne_true)
  rw [if_pos hhigh, hkeep] at htake
  rw [htake]
  exact ⟨(State.took_ring_self (.inl hhigh)).1, (congrArg Ring.reserved (State.took_ring_cpl (.inl hhigh)) :), State.took_touches⟩

theorem State.txStatus_setRing (s : State) (n : Nat) (r : Ring) (g : List Fetched) : (s.setRing n r).txStatus g = s.txStatus g := rfl

theorem State.txStatus_raw (s : State) (f : Fetched) : s.txStatus [f] = s.txStatus [{ raw := f.raw, ext := f.ext }] := rfl

theorem State.txTook_txStatus (s : State) (n k : Nat) (raw ext : List Byte) (g : List Fetched) :
    (s.txTook n k raw ext).txStatus g = s.txStatus g := by
  rw [State.txTook, State.fetchDesc, State.txStatus_setRing, State.txStatus_setRing, State.turnTaken, State.txStatus_setRing, State.noWait,
    State.txStatus_setRing]

theorem State.txTook_fab (s : State) (n k : Nat) (raw ext : List Byte) : (s.txTook n k raw ext).fab = s.fab := by
  rw [State.txTook, State.fetchDesc, State.setRing_fab, State.setRing_fab, State.turnTaken, State.setRing_fab, State.noWait, State.setRing_fab]

theorem State.txTook_taken (hn : n < 24) (hempty : (s.ring n).fetched = []) (k : Nat) :
    (((s.txTook n k raw ext).txTaken n (s.fetched n k raw ext)).ring n).fetched.map (fun x => x.raw) = [raw] ∧
    (((s.txTook n k raw ext).txTaken n (s.fetched n k raw ext)).ring n).deficit = (s.ring n).deficit - min 10240 (leAt raw 8 2) ∧
    (bitAt (leAt raw 10 2) 1 = true → s.txStatus [{ raw := raw, ext := ext }] = .ok →
      ((s.txTook n k raw ext).txTaken n (s.fetched n k raw ext)).fab.nextFrame = s.fab.nextFrame + 1) ∧
    (bitAt (leAt raw 10 2) 1 = false → Touches [.hif] s ((s.txTook n k raw ext).txTaken n (s.fetched n k raw ext))) ∧
    Touches [.hif, .fab, .rc .hifRingAborted, .rc .portDownDisc] s ((s.txTook n k raw ext).txTaken n (s.fetched n k raw ext)) := by
  obtain ⟨hone, hdef⟩ := State.txTook_ring (raw := raw) (ext := ext) hn hempty k
  obtain ⟨hraw, hdef', hnext, hpart⟩ := State.txTaken_gives hone
  have hframe := State.txTook_touches (s := s) (n := n) (raw := raw) (ext := ext) k
  rw [State.txTook_txStatus, State.txStatus_raw, State.txTook_fab] at hnext
  exact ⟨hraw, hdef'.trans hdef, hnext, fun hmore => (hpart hmore).symm ▸ hframe, (hframe.mono rfl).step (State.txTaken_touches _ _ _ rfl)⟩

end Taken

/-- DESC_TAKE with a descriptor of its length. -/
theorem gives_descTake {s : State} {n : Nat} {raw ext : List Byte} {P : State → Prop} (hup : s.Up) (hn : n < 48 ∨ 56 ≤ n ∧ n < 64)
    (hlen : raw.length = 32) (hp : P ((s.descTake n raw ext).carry s)) : Gives (.descTake n raw ext) s P :=
  gives_effect rfl hup (by simp [ringNo, hlen]; omega) hp

/-- Settles O14: a ring that takes or finishes a descriptor keeps what it holds besides, and a completion ring is another ring. -/
theorem ringTraffic : Obligations.RingTraffic := by
  unfold Obligations.RingTraffic
  refine ⟨?source, ?stored, ?bad, ?release, ?command, ?receive, ?transmit, ?sent, ?deliver, ?timer, ?unmask⟩
  case source =>
    intro s n v hup hn hcpl hring
    have hof : doorbellOf n 0 0xF v = .doorbell n 0 0xF v := if_neg (by simp [hcpl])
    have htake := State.doorbell_taken hring v
    constructor
    · intro hok
      rw [State.takeIndex_source hcpl hok] at htake
      refine hof ▸ gives_doorbell hup hn ?_
      rw [htake]
      exact ⟨State.setRing_ring_self _ _ _, fun m hm => State.setRing_ring_ne s hm _, (State.setRing_touches s n _ rfl).carry⟩
    · intro hbad
      rw [State.takeIndex_bad hbad] at htake
      refine hof ▸ gives_doorbell hup hn ?_
      rw [htake]
      have hself := s.ringErr_ring_self n 1
      exact ⟨congrArg Ring.state hself, congrArg Ring.errCause hself, (congrArg Ring.pidx hself :), (State.ringErr_touches s n 1 rfl).carry⟩
  case stored =>
    rintro s n v hup hn hdown c rfl
    have hrun : s.doorbell n 0 0xF v = s.setRing n { s.ring n with dbStored := some (fieldOf v 0 16, bitAt v.toNat 31) } := by
      simp [State.doorbell, hdown]
    refine gives_doorbell hup hn ?_
    rw [hrun]
    exact ⟨State.setRing_ring_self _ _ _, fun m hm => State.setRing_ring_ne s hm _, (State.setRing_touches s n _ rfl).carry⟩
  case bad =>
    rintro s n off be v hup hn hbad c rfl
    have hrun : s.doorbell n off be v = s.bump Fld.hifDbBad_VAL := if_pos hbad
    refine gives_doorbell hup hn ?_
    rw [hrun]
    exact ⟨State.count_bump s Fld.hifDbBad_VAL 0 1 (by decide), (State.bump_touches s _ _ _ rfl).carry⟩
  case release =>
    intro s n v hup hlow hhigh hring hok
    have hcpl : cplRingNo n = true := by simp [cplRingNo, hlow, hhigh]
    have hof : doorbellOf n 0 0xF v = .cplDoorbell n 0 0xF v := if_pos hcpl
    have htake := State.doorbell_taken hring v
    have hself := State.takeIndex_completion hcpl hok (bitAt v.toNat 31)
    have hframe := State.takeIndex_completion_touches hcpl hok (bitAt v.toNat 31)
    refine hof ▸ gives_doorbell hup (by omega) ?_
    rw [htake]
    rw [show ((s.takeIndex n (fieldOf v 0 16) (bitAt v.toNat 31)).carry s).ring n = _ from hself]
    refine ⟨?_, ?_, ?_, ?_, ?_, hframe.carry⟩
    all_goals
      split
      · split
        · simp_all [Ring.arm, Ring.released]
        · simp_all [Ring.arm, Ring.told, Ring.released]
      · simp_all [Ring.released]
  case command =>
    intro s n raw ext hup hlow hhigh hlen hrun hcount hfew hcpl hfree hlisted
    have hfetches : s.Fetches n 1 := ⟨hrun, hcount, hfew, hcpl, hfree⟩
    constructor
    · intro hop
      obtain ⟨hfetched, hres, hframe⟩ := State.descTake_listed (ext := ext) hlow hfetches hlisted hop
      exact gives_descTake hup (.inr ⟨hlow, hhigh⟩) hlen ⟨hfetched, hres, hframe.carry⟩
    · intro hop hempty
      obtain ⟨hfetched, hcidx, hpidx, hframe⟩ := State.descTake_unlisted (ext := ext) hlow hfetches hop hempty
      exact gives_descTake hup (.inr ⟨hlow, hhigh⟩) hlen ⟨hfetched, hcidx, hpidx, hframe.carry⟩
  case receive =>
    intro s n raw ext hup hlow hhigh hlen hrun hcount hfew hcpl hfree hgood
    obtain ⟨hfetched, hres, hframe⟩ := State.descTake_receive (ext := ext) hlow hhigh ⟨hrun, hcount, hfew, hcpl, hfree⟩ hgood
    exact gives_descTake hup (.inl hhigh) hlen ⟨hfetched, hres, hframe.carry⟩
  case transmit =>
    intro s n raw ext hup hn hlen hrun hempty hcount hcpl hfree hstop hturn hdeficit
    obtain ⟨k, htake⟩ := State.descTake_transmit (raw := raw) (ext := ext) hn hrun hempty hcount hcpl hfree hstop hturn hdeficit
    obtain ⟨hraw, hdef, hnext, hpart, hall⟩ := State.txTook_taken (raw := raw) (ext := ext) hn hempty k
    rw [← htake] at hraw hdef hnext hpart hall
    exact gives_descTake hup (.inl (by omega)) hlen ⟨hraw, hdef, hnext, fun hmore => (hpart hmore).carry, hall.carry⟩
  case sent =>
    intro s n g st hup hn hg hst
    have hrun : s.txFrameDone n g.length = s.txEnd n g st := by
      simp [State.txFrameDone, State.txCompletion, hg, hst]
    have hends := s.txEnd_gives n g st
    have hok : st = .ok → Touches [.hif, .rc .hifRingAborted] s (s.txEnd n g st) := fun h => h ▸ s.txEnd_ok_touches n g
    have hframe : Touches copyParts s (s.txEnd n g st) := State.txEnd_touches s n g st rfl
    generalize s.txEnd n g st = u at *
    exact gives_effect (congrArg (effect (ringNo n && decide (n < 24)) s) hrun) hup (by simp [ringNo, hn]; omega)
      ⟨hends.1, hends.2, fun h => (hok h).carry, hframe.carry⟩
  case deliver =>
    intro s f c n fr x hup hfr hc hx hlink hn
    exact State.rxHostCopy_gives hup hfr hc hx hlink hn
  case timer =>
    intro s n hup hlow hhigh harmed htimer
    have hrun : s.intTimerExpire n = { s with hif := s.ringMessage n s.hif } := by simp [State.intTimerExpire, harmed, htimer]
    obtain ⟨hopen, hmasked⟩ := HifState.sendVec_gives (s.hif.setRing n { s.hif.ring n with armed := false, sinceMsg := 0, timer := false })
      (s.ap Fld.hifRingCtrl_VEC n)
    exact gives_effect (congrArg (effect (ringNo n && decide (48 ≤ n) && decide (n < 56)) s) hrun) hup (by simp [ringNo, hlow, hhigh]; omega)
      ⟨s.ringMessage_ring_self n s.hif, fun m hm => s.ringMessage_ring_ne hm s.hif, hopen, hmasked, ((Touches.refl _ _).set_hif rfl).carry⟩
  case unmask =>
    intro s v hup hv
    have hgives := s.msixUnmask_gives v
    have hframe : Touches [.hif] s (s.msixUnmask v) := State.msixUnmask_touches s v rfl
    have hexec : exec (.msixUnmask v) s = effect (msixVec v) s (s.msixUnmask v) := rfl
    generalize s.msixUnmask v = u at *
    exact gives_effect hexec hup (decide_eq_true hv) ⟨hgives.1, hgives.2.1, hgives.2.2.1, hgives.2.2.2, hframe.carry⟩


end Sys2Proof.Machine
end

section
/-! ## Persistent words and the clears of EVT_CTRL (R36, R37, R46 to R50, R417 to R420) -/

set_option Elab.async false

namespace Sys2Proof.Machine

/-! ### Persistent words -/

section Pers

variable {s : State} {p : Path} {w : Nat} {v : Word}

/-- From `s` to `t` no persistent word, wear count or store has changed. -/
def PersKept (s t : State) : Prop := ∀ x, t.pers! x = s.pers! x ∧ t.wear x = s.wear x ∧ t.persBusy x = s.persBusy x

theorem PersKept.of_pers {s t : State} (h : t.pers.words = s.pers.words) (hwear : t.pers.wear = s.pers.wear) (hbusy : t.pers.busy = s.pers.busy) :
    PersKept s t := fun x => by
  simp only [State.pers!, State.wear, State.persBusy, h, hwear, hbusy, and_self]

/-- What a store leaves of the words, by its outcome. -/
theorem State.persStore_gives (s : State) (w : Nat) (v : Word) :
    (s.persStatus w v = .ok → (s.persStore w v).pers! w = v ∧
      (s.pers! w ≠ v → (s.persStore w v).wear w = s.wear w + 1 ∧ (s.persStore w v).persBusy w = true) ∧
      (s.pers! w = v → (s.persStore w v).wear w = s.wear w ∧ (s.persStore w v).persBusy w = s.persBusy w)) ∧
    (s.persStatus w v ≠ .ok → PersKept s (s.persStore w v)) ∧
    (∀ x, x ≠ w → (s.persStore w v).pers! x = s.pers! x ∧ (s.persStore w v).wear x = s.wear x ∧ (s.persStore w v).persBusy x = s.persBusy x) := by
  have hraise : ∀ e a b, PersKept s (s.raise e a b) := fun e a b => PersKept.of_pers rfl rfl rfl
  unfold State.persStore
  split
  · next hok =>
    refine ⟨fun _ => ?_, fun h => absurd hok h, fun x hx => ?_⟩
    · split
      · next heq => exact ⟨heq, fun hne => absurd heq hne, fun _ => ⟨rfl, rfl⟩⟩
      · next hne =>
        refine ⟨Tab.get_set_self _ _ _ _, fun _ => ⟨Tab.get_set_self _ _ _ _, ?_⟩, fun heq => absurd heq hne⟩
        simp [State.persBusy]
    · split
      · exact ⟨rfl, rfl, rfl⟩
      · refine ⟨Tab.get_set_ne _ _ _ _ _ hx, Tab.get_set_ne _ _ _ _ _ hx, ?_⟩
        simp [State.persBusy, Ne.symm hx]
  · next hworn => exact ⟨fun h => absurd (hworn.symm.trans h) (by decide), fun _ => hraise _ _ _, fun x _ => hraise _ _ _ x⟩
  · next hne _ => exact ⟨fun h => absurd h hne, fun _ => hraise _ _ _, fun x _ => hraise _ _ _ x⟩

theorem State.persStore_evt (s : State) (w : Nat) (v : Word) :
    (s.persStatus w v = .wearOut → (s.persStore w v).evt = (s.raise Ev.persWearLimit (persAddr w) (s.wear w)).evt) ∧
    (s.persStatus w v = .busy → (s.persStore w v).evt = (s.raise Ev.persWriteRefused (persAddr w) Status.busy.code).evt) := by
  constructor <;> (intro h; rw [State.persStore, h])

/-- The outcome of the last write of path `p`. -/
def State.withLast (t : State) (p : Path) (w : Nat) (st : Status) : State :=
  { t with pers := { t.pers with last := Tab.set t.pers.last p (w, st) } }

theorem State.persWrite_unlocked (h : s.unlocked p = true) :
    s.persWrite p w v = ((s.consumeKey p).persStore w v).withLast p w (s.persStatus w v) := by
  simp only [State.persWrite, State.keyed, h, if_true]
  rfl

theorem State.persWrite_locked (h : s.unlocked p = false) :
    s.persWrite p w v = (s.raise Ev.sysKeyReject (persAddr w)).withLast p w .locked := by
  simp only [State.persWrite, State.keyed, h, Bool.false_eq_true, if_false]
  rfl

end Pers

/-! ### Clears -/

theorem State.evtCtrl_write {s : State} (p : Path) {v : Nat} (hw : s.Writable ⟨.evtCtrl, 0, 0⟩) :
    s.regSet p ⟨.evtCtrl, 0, 0⟩ (BitVec.ofNat 32 v) allBits = s.evtCtrlWrite (BitVec.ofNat 32 v).toNat :=
  State.regSet_owned rfl hw (by simp only [State.regOwn, and_allBits])
    (State.evtCtrlWrite_touches (ps := [.evt]) s _ rfl |>.regDown rfl rfl rfl)

/-- Settles O37: a persistent word keeps what a refused write would have changed, and a clear of EVT_CTRL is the unit's own write. -/
theorem persistentWordsAndEventControl : Obligations.PersistentWordsAndEventControl := by
  unfold Obligations.PersistentWordsAndEventControl
  refine ⟨?unlocked, ?locked, ?i2c, ?stored, ?window, ?fault, ?first, ?log⟩
  case unlocked =>
    intro s p w v hup hp hw hi2c hopen
    have hrun : (if p = .i2c then s else s.persWrite p w v) = ((s.consumeKey p).persStore w v).withLast p w (s.persStatus w v) :=
      (if_neg hi2c).trans (State.persWrite_unlocked hopen)
    obtain ⟨hok, hkept, hothers⟩ := (s.consumeKey p).persStore_gives w v
    obtain ⟨hworn, hbusy⟩ := (s.consumeKey p).persStore_evt w v
    have hsame : SameEvt s (s.consumeKey p) := ⟨rfl, rfl, rfl, rfl, fun _ => rfl⟩
    have hframe : Touches (evtParts ++ [Part.keys, .pers]) s (((s.consumeKey p).persStore w v).withLast p w (s.persStatus w v)) :=
      ((State.consumeKey_touches s p rfl).step (State.persStore_touches _ _ _ rfl)).set_pers rfl
    have hkey : ((s.consumeKey p).persStore w v).key p = { s.key p with unlocked := false } := by
      rw [State.key, State.persStore_touches (ps := Part.others .keys) (s.consumeKey p) w v rfl .keys rfl]
      exact Tab.get_set_self _ _ _ _
    exact gives_effect (congrArg (effect (p.wf && persNo w) s) hrun) hup (by simp [hp, persNo, hw])
      ⟨hok, fun hno => ⟨(hkept hno w).1, (hkept hno w).2.1⟩, fun h => (hworn h).trans (hsame.raise_evt _ _ _ _),
        fun h => (hbusy h).trans (hsame.raise_evt _ _ _ _), hothers, Tab.find_set_self _ _ _, congrArg KeySt.unlocked hkey, hframe.carry⟩
  case locked =>
    intro s p w v hup hp hw hi2c hopen
    have hrun : (if p = .i2c then s else s.persWrite p w v) = (s.raise Ev.sysKeyReject (persAddr w)).withLast p w .locked :=
      (if_neg hi2c).trans (State.persWrite_locked hopen)
    have hframe : Touches (.pers :: evtParts) s ((s.raise Ev.sysKeyReject (persAddr w)).withLast p w .locked) :=
      (State.raise_touches s _ _ _ _ rfl).set_pers rfl
    exact gives_effect (congrArg (effect (p.wf && persNo w) s) hrun) hup (by simp [hp, persNo, hw])
      ⟨rfl, fun _ => ⟨rfl, rfl, rfl⟩, Tab.find_set_self _ _ _, hframe.carry⟩
  case i2c =>
    intro s w v hup hw
    exact gives_effect rfl hup (by simp [persNo, hw, Path.wf]) (Touches.refl _ _).carry
  case stored =>
    intro s w hup hw
    refine gives_effect rfl hup (decide_eq_true hw) ⟨?_, fun _ => ⟨rfl, rfl⟩, fun x hx => ?_, ((Touches.refl _ _).set_pers rfl).carry⟩
    · simp [State.persBusy]
    · simp only [State.persBusy, State.carry_pers, List.any_filter]
      congr 1
      funext b
      by_cases hb : b.1 = x
      · simp [hb, hx]
      · simp [hb]
  case window =>
    intro s code arg0 hup hwf
    have hframe : Touches evtParts s (s.evtSuppressWindow code arg0) := by
      unfold State.evtSuppressWindow
      split
      · exact Touches.refl _ _
      · have hdrop : Touches evtParts s { s with evt := { s.evt with sup := s.evt.sup.filter (fun x => !(x.code == code && x.arg0 == arg0)) } } :=
          (Touches.refl _ _).set_evt rfl
        exact Touches.ite (hdrop.step (State.emit_touches _ _ _ _ _ rfl)) hdrop
    refine gives_effect rfl hup rfl ⟨fun hnone => ?_, fun r hr => ?_, hframe.carry⟩
    · rw [State.carry_evt, State.evtSuppressWindow, hnone]
    · rw [State.carry_evt, State.evtSuppressWindow, hr]
      dsimp only
      cases hact : r.active
      · exact ⟨rfl, fun _ => rfl, fun h => absurd h (by decide)⟩
      · exact ⟨rfl, fun h => absurd h (by decide), fun _ => rfl⟩
  case fault =>
    intro s p hup hp hw
    have hrun : s.regSet p ⟨.evtCtrl, 0, 0⟩ 1 allBits = s.evtCtrlWrite 1 := State.evtCtrl_write p (v := 1) hw
    refine gives_effect (congrArg (effect p.wf s) hrun) hup hp ⟨?_, (State.evtCtrlWrite_touches s 1 rfl).carry⟩
    simp [State.evtCtrlWrite, bitAt]
  case first =>
    intro s p hup hp hw
    have hrun : s.regSet p ⟨.evtCtrl, 0, 0⟩ 2 allBits = s.evtCtrlWrite 2 := State.evtCtrl_write p (v := 2) hw
    refine gives_effect (congrArg (effect p.wf s) hrun) hup hp ⟨?_, (State.evtCtrlWrite_touches s 2 rfl).carry⟩
    simp [State.evtCtrlWrite, bitAt]
  case log =>
    intro s p hup hp hw
    have hrun : s.regSet p ⟨.evtCtrl, 0, 0⟩ 4 allBits = s.evtCtrlWrite 4 := State.evtCtrl_write p (v := 4) hw
    refine gives_effect (congrArg (effect p.wf s) hrun) hup hp ⟨?_, (State.evtCtrlWrite_touches s 4 rfl).carry⟩
    simp [State.evtCtrlWrite, bitAt]

end Sys2Proof.Machine
end

section
/-! ## Ramps of the PLLs (R282, R283, R285, R289) -/

set_option Elab.async false

namespace Sys2Proof.Machine

theorem State.pllOf_of_pll {s t : State} (h : t.pll = s.pll) (x : Nat) : t.pllOf x = s.pllOf x := by
  rw [State.pllOf, State.pllOf, h]

theorem State.setPll_pllOf_self (s : State) (x : Nat) (p : Pll) : (s.setPll x p).pllOf x = p := Tab.get_set_self _ _ _ _

theorem State.setPll_pllOf_ne (s : State) {x y : Nat} (h : y ≠ x) (p : Pll) : (s.setPll x p).pllOf y = s.pllOf y := Tab.get_set_ne _ _ _ _ _ h

theorem State.rampEffects_pll (s : State) (x : Nat) : (s.rampEffects x).pll = s.pll :=
  State.rampEffects_touches (ps := Part.others .pll) s x rfl .pll rfl

/-- A ramp that is replaced leaves the rest of its PLL, and the other PLLs. -/
theorem State.setRamp_gives (s : State) (x : Nat) (r : Ramp) :
    (s.setRamp x r).pllOf x = { s.pllOf x with ramp := r } ∧ (∀ y, y ≠ x → (s.setRamp x r).pllOf y = s.pllOf y) ∧
    (s.setRamp x r).clk = s.clk := by
  unfold State.setRamp
  extract_lets u
  have hu : u.pll.plls = s.pll.plls ∧ u.clk = s.clk := by
    unfold u
    split
    · exact ⟨rfl, rfl⟩
    · split <;> exact ⟨rfl, rfl⟩
  obtain ⟨hplls, hclk⟩ := hu
  have hof : ∀ y, u.pllOf y = s.pllOf y := fun y => by rw [State.pllOf, State.pllOf, hplls]
  clear_value u
  refine ⟨?_, fun y hy => ?_, hclk⟩
  · exact (State.setPll_pllOf_self _ _ _).trans (congrArg (fun p : Pll => { p with ramp := r }) (hof x))
  · rw [← hof y]
    exact State.setPll_pllOf_ne _ hy _

/-- A ramp that is replaced, with what follows it. -/
theorem State.setRampEffects_gives (s : State) (x : Nat) (r : Ramp) :
    ((s.setRamp x r).rampEffects x).pllOf x = { s.pllOf x with ramp := r } ∧
    (∀ y, y ≠ x → ((s.setRamp x r).rampEffects x).pllOf y = s.pllOf y) := by
  obtain ⟨hself, hothers, -⟩ := s.setRamp_gives x r
  have hpll := State.pllOf_of_pll ((s.setRamp x r).rampEffects_pll x)
  exact ⟨(hpll x).trans hself, fun y hy => (hpll y).trans (hothers y hy)⟩

theorem State.rampX_of {s t : State} (hclk : t.clk = s.clk) {x : Nat} (h : (t.pllOf x).ramp = (s.pllOf x).ramp) : t.rampX x = s.rampX x := by
  rw [State.rampX, State.rampX, hclk, h]

/-! ### Segments -/

section Segment

variable {s : State} {x : Nat} {r : Ramp} {g : RampSeg}

/-- Where a segment ends. -/
def Ramp.segEnd (r : Ramp) (x : Nat) (g : RampSeg) : Int :=
  clampInt (rampRange x).1 (rampRange x).2 (if g.hold || r.held then r.x else r.x + g.slope * ((g.durMs - r.doneMs : Nat) : Int))

theorem State.rampSegmentEnd_gives (hr : r = (s.pllOf x).ramp) (hg : r.now? = some g) :
    (r.seg + 1 < r.segs.length → (s.rampSegmentEnd x).pllOf x = { s.pllOf x with
      ramp := { r with x := r.segEnd x g, doneMs := 0, since := s.clk.now, held := false, seg := r.seg + 1 } }) ∧
    (r.segs.length ≤ r.seg + 1 → r.endAct = 1 → (s.rampSegmentEnd x).pllOf x = { s.pllOf x with
      ramp := { r with x := r.segEnd x g, doneMs := 0, since := s.clk.now, held := false, seg := 0 } }) ∧
    (r.segs.length ≤ r.seg + 1 → r.endAct ≠ 1 → (s.rampSegmentEnd x).pllOf x = { s.pllOf x with
      ramp := { r with x := if r.endAct = 2 then 0 else r.segEnd x g, doneMs := 0, since := s.clk.now, held := false, run := false } }) ∧
    (∀ y, y ≠ x → (s.rampSegmentEnd x).pllOf y = s.pllOf y) := by
  subst hr
  unfold State.rampSegmentEnd
  dsimp only
  rw [hg]
  dsimp only
  by_cases hmore : (s.pllOf x).ramp.seg + 1 < (s.pllOf x).ramp.segs.length
  · rw [if_pos hmore]
    obtain ⟨hself, hothers⟩ := s.setRampEffects_gives x { (s.pllOf x).ramp with
      x := (s.pllOf x).ramp.segEnd x g, doneMs := 0, since := s.clk.now, held := false, seg := (s.pllOf x).ramp.seg + 1 }
    exact ⟨fun _ => hself, fun h => absurd hmore (Nat.not_lt.mpr h), fun h => absurd hmore (Nat.not_lt.mpr h), hothers⟩
  rw [if_neg hmore]
  by_cases hloop : (s.pllOf x).ramp.endAct = 1
  · rw [if_pos hloop]
    obtain ⟨hself, hothers⟩ := s.setRampEffects_gives x { (s.pllOf x).ramp with
      x := (s.pllOf x).ramp.segEnd x g, doneMs := 0, since := s.clk.now, held := false, seg := 0 }
    exact ⟨fun h => absurd h hmore, fun _ _ => hself, fun _ h => absurd hloop h, hothers⟩
  · rw [if_neg hloop]
    obtain ⟨hself, hothers⟩ := s.setRampEffects_gives x { (s.pllOf x).ramp with
      x := if (s.pllOf x).ramp.endAct = 2 then 0 else (s.pllOf x).ramp.segEnd x g
      doneMs := 0, since := s.clk.now, held := false, run := false }
    exact ⟨fun h => absurd h hmore, fun _ h => absurd h hloop, fun _ _ => hself, hothers⟩

theorem State.rampClampReached_gives (hr : r = (s.pllOf x).ramp) (hg : r.now? = some g) (hhold : g.hold = false) (hslope : g.slope ≠ 0)
    (hheld : r.held = false) :
    (s.rampClampReached x).pllOf x = { s.pllOf x with ramp := { r with
      x := if g.slope < 0 then (rampRange x).1 else (rampRange x).2, held := true, clamped := true
      doneMs := min g.durMs (r.doneMs + (s.clk.now - r.since) / 10 ^ 9), since := s.clk.now } } ∧
    (∀ y, y ≠ x → (s.rampClampReached x).pllOf y = s.pllOf y) := by
  subst hr
  unfold State.rampClampReached
  dsimp only
  rw [hg]
  dsimp only
  rw [if_neg (by simp [hhold, hslope, hheld])]
  obtain ⟨hself, hothers, -⟩ := s.setRamp_gives x { (s.pllOf x).ramp with
    x := if g.slope < 0 then (rampRange x).1 else (rampRange x).2, held := true, clamped := true
    doneMs := min g.durMs ((s.pllOf x).ramp.doneMs + (s.clk.now - (s.pllOf x).ramp.since) / 10 ^ 9), since := s.clk.now }
  exact ⟨hself, hothers⟩

end Segment

/-! ### Commands -/

/-- The ramp that PLL_RAMP_CTRL leaves of `r`, by its ACTION; `v` is where it stands at `now`. -/
def Ramp.ctrl (r : Ramp) (act : Nat) (v : Int) (now : Nat) : Ramp :=
  if act = 0 then { r with run := true, suspended := false, seg := 0, x := 0, doneMs := 0, since := now, held := false, clamped := false }
  else { r with run := false, suspended := false, x := if act = 1 then v else 0 }

/-- A PLL after PLL_RAMP_CTRL. -/
def Pll.ctrl (p : Pll) (x act : Nat) (v : Int) (now : Nat) : Pll :=
  { p with aligned := p.aligned && act != 0, alignDue := p.alignDue && (act != 0 || x == 0), ramp := p.ramp.ctrl act v now }

section Action

variable (p : Pll) (x : Nat) (v : Int) (now : Nat)

theorem Pll.ctrl_start : p.ctrl x 0 v now = { p with
    aligned := false, alignDue := p.alignDue && x == 0
    ramp := { p.ramp with run := true, suspended := false, seg := 0, x := 0, doneMs := 0, since := now, held := false, clamped := false } } := by
  simp [Pll.ctrl, Ramp.ctrl]

theorem Pll.ctrl_hold : p.ctrl x 1 v now = { p with ramp := { p.ramp with run := false, suspended := false, x := v } } := by
  simp [Pll.ctrl, Ramp.ctrl]

theorem Pll.ctrl_zero : p.ctrl x 2 v now = { p with ramp := { p.ramp with run := false, suspended := false, x := 0 } } := by
  simp [Pll.ctrl, Ramp.ctrl]

end Action

/-- A ramp that was stopped at zero stands at zero. -/
theorem State.rampX_zero {s : State} {x : Nat} (hrun : (s.pllOf x).ramp.run = false) (hx : (s.pllOf x).ramp.x = 0) : s.rampX x = 0 := by
  have hat : (s.pllOf x).ramp.at' s.clk.now = 0 := by simp [Ramp.at', Ramp.now?, hrun, hx]
  rw [State.rampX, hat, rampRange]
  split
  · rfl
  · split <;> rfl

section Control

variable {s : State} {d : CmdDesc}

theorem State.rampCtrl_gives (hacc : s.Accepts d 0xBA02 { unitChecks d false .pll true [Rdy.pll] with
      badForm := d.badForm false || decide (d.handle ≠ 0) || !(d.zero 14 32)
      badArg := decide (3 < d.arg 12 1) || decide (2 < d.arg 13 1) ||
        (d.arg 13 1 == 0 && (s.pllOf (d.arg 12 1)).ramp.segs.isEmpty) })
    (hlocked : d.arg 13 1 = 0 → (s.pllOf (d.arg 12 1)).st = .locked) :
    (s.rampCtrl d).pllOf (d.arg 12 1) = (s.pllOf (d.arg 12 1)).ctrl (d.arg 12 1) (d.arg 13 1) (s.rampX (d.arg 12 1)) s.clk.now ∧
    (d.arg 13 1 = 0 → (s.rampCtrl d).pll.rampPll = d.arg 12 1) ∧
    Completed d 0xBA02 .ok 0 (leBytes (unsigned 64 ((s.rampCtrl d).rampX (d.arg 12 1))) 8) (s.rampCtrl d) ∧
    (∀ y, y ≠ d.arg 12 1 → (s.rampCtrl d).pllOf y = s.pllOf y) := by
  unfold State.rampCtrl
  extract_lets x act
  rw [State.runCmd_accepted_free hacc rfl]
  extract_lets r v r' s0 _ s1 _ s2 s3
  have hstart := State.pllOf_of_pll (s.startCmd_pll d)
  have hv : v = s.rampX x := State.rampX_of (s.startCmd_clk d) (congrArg Pll.ramp (hstart x))
  have hr' : r' = (s.pllOf x).ramp.ctrl act (s.rampX x) s.clk.now := by
    unfold r' r
    rw [hv, hstart, State.startCmd_clk]
    rfl
  obtain ⟨hself0, hothers0, -⟩ := (s.startCmd d).setRamp_gives x r'
  have hself1 : s1.pllOf x = (s.pllOf x).ctrl x act (s.rampX x) s.clk.now := by
    have h0 : s0.pllOf x = { s.pllOf x with ramp := (s.pllOf x).ramp.ctrl act (s.rampX x) s.clk.now } := by
      rw [← hr', ← hstart]
      exact hself0
    exact (State.setPll_pllOf_self _ _ _).trans
      (congrArg₂ (fun p q : Pll => { p with aligned := q.aligned && act != 0, alignDue := q.alignDue && (act != 0 || x == 0) }) h0 (hstart x))
  have hothers1 : ∀ y, y ≠ x → s1.pllOf y = s.pllOf y := fun y hy =>
    (State.setPll_pllOf_ne _ hy _).trans ((hothers0 y hy).trans (hstart y))
  have h2 : ∀ y, s2.pllOf y = s1.pllOf y := fun y => by
    unfold s2
    split <;> rfl
  have h3 : ∀ y, s3.pllOf y = s1.pllOf y := fun y => (State.pllOf_of_pll (s2.rampEffects_pll x) y).trans (h2 y)
  have hlast : act = 0 → s3.pll.rampPll = x := fun hact => by
    unfold s3
    rw [State.rampEffects_pll]
    unfold s2
    rw [if_pos hact]
  clear_value s3
  have hgo : ¬(act = 0 ∧ ((s.startCmd d).pllOf x).st ≠ .locked) := by
    rintro ⟨hact, hst⟩
    rw [hstart] at hst
    exact hst (hlocked hact)
  rw [if_neg hgo]
  exact ⟨(h3 x).trans hself1, hlast, State.complete_lastCpl _ _ _ _ _ _ _, fun y hy => (h3 y).trans (hothers1 y hy)⟩

end Control

/-- The ramp that a PLL_RAMP_LOAD brings, standing at `x`. -/
def CmdDesc.rampLoaded (d : CmdDesc) (x : Int) : Ramp :=
  { segs := (List.range (d.buf 1 1)).map d.rampSeg, endAct := d.buf 2 1, groups := d.buf 4 2, x := x }

theorem State.pllRampLoad_eq {s : State} {d : CmdDesc} (hacc : s.Accepts d 0xBA01 { unitChecks d true .pll true [Rdy.pll] with
      absent := d.buf 0 1 == 0 && (List.range 12).any (fun g => bitAt (d.buf 4 2) g && decide (s.variant.groups ≤ g))
      badForm := d.badForm true || decide (d.handle ≠ 0) || d.rampReserved
      badArg := decide (3 < d.buf 0 1) || d.buf 1 1 == 0 || decide (16 < d.buf 1 1) || decide (2 < d.buf 2 1) ||
        decide (d.extLen < 8 + 8 * d.buf 1 1) || (d.buf 0 1 != 0 && d.buf 4 2 != 0) ||
        ((List.range (d.buf 1 1)).map d.rampSeg).any (fun g => g.durMs == 0) }) :
    s.pllRampLoad d =
      if (s.pllOf (d.buf 0 1)).ramp.run then (s.startCmd d).complete d 0xBA01 .busy
      else (((s.startCmd d).setRamp (d.buf 0 1) (d.rampLoaded (s.pllOf (d.buf 0 1)).ramp.x)).rampEffects (d.buf 0 1)).complete d 0xBA01 .ok 0
        (leBytes (rampPeak ((List.range (d.buf 1 1)).map d.rampSeg) 0) 8) := by
  have hstart := State.pllOf_of_pll (s.startCmd_pll d)
  unfold State.pllRampLoad
  extract_lets x n gs segs
  rw [State.runCmd_accepted_free hacc rfl]
  dsimp only
  rw [hstart x]
  rfl

/-- Settles O43: a ramp that is replaced leaves the rest of its PLL, and what follows it leaves every PLL. -/
theorem ramps : Obligations.Ramps := by
  unfold Obligations.Ramps
  refine ⟨?load, ?control, ?segment, ?clamp, ?align⟩
  case load =>
    intro s d hup hwf hacc
    have hrun := State.pllRampLoad_eq hacc
    have hframe : Touches (bypParts ++ cplParts ++ [Part.free, .eng]) s (s.pllRampLoad d) := State.pllRampLoad_touches s d rfl
    have hstart := State.pllOf_of_pll (s.startCmd_pll d)
    by_cases hbusy : (s.pllOf (d.buf 0 1)).ramp.run = true
    · rw [if_pos hbusy] at hrun
      have hpll : (s.pllRampLoad d).pll = s.pll := by rw [hrun, State.complete_pll, State.startCmd_pll]
      have hcpl : Completed d 0xBA01 .busy 0 [] (s.pllRampLoad d) := hrun ▸ State.complete_lastCpl _ _ _ _ _ _ _
      exact gives_effect rfl hup hwf ⟨fun h => absurd (hbusy.symm.trans h) (by decide), fun _ => ⟨hpll, hcpl⟩,
        fun y _ => State.pllOf_of_pll hpll y, hframe.carry⟩
    · rw [if_neg hbusy] at hrun
      obtain ⟨hself, hothers⟩ := (s.startCmd d).setRampEffects_gives (d.buf 0 1) (d.rampLoaded (s.pllOf (d.buf 0 1)).ramp.x)
      have hpll := State.pllOf_of_pll ((congrArg State.pll hrun).trans (State.complete_pll _ _ _ _ _ _ _))
      have hcpl : Completed d 0xBA01 .ok 0 (leBytes (rampPeak ((List.range (d.buf 1 1)).map d.rampSeg) 0) 8) (s.pllRampLoad d) :=
        hrun ▸ State.complete_lastCpl _ _ _ _ _ _ _
      have hself' := (hpll _).trans hself
      rw [hstart] at hself'
      have hothers' := fun y hy => (hpll y).trans ((hothers y hy).trans (hstart y))
      have hexec : exec (.pllRampLoad d) s = effect d.wf s (s.pllRampLoad d) := rfl
      generalize s.pllRampLoad d = t at *
      exact gives_effect hexec hup hwf ⟨fun _ => ⟨hself', hcpl⟩, fun h => absurd h hbusy, hothers', hframe.carry⟩
  case control =>
    intro s d hup hacc
    have hframe : Touches (bypParts ++ cplParts ++ [Part.free, .eng]) s (s.rampCtrl d) := State.rampCtrl_touches s d rfl
    refine ⟨fun hwf hact hlocked => ?_, fun hwf hact => ?_, fun hwf hact => ?_⟩
    · obtain ⟨hself, hlast, hcpl, hothers⟩ := State.rampCtrl_gives hacc (fun _ => hlocked)
      rw [hact, Pll.ctrl_start] at hself
      exact gives_effect rfl hup hwf ⟨hself, hlast hact, hcpl, hothers, hframe.carry⟩
    · obtain ⟨hself, -, hcpl, hothers⟩ := State.rampCtrl_gives hacc (fun h => absurd (hact.symm.trans h) (by decide))
      rw [hact, Pll.ctrl_hold] at hself
      exact gives_effect rfl hup hwf ⟨hself, hcpl, hothers, hframe.carry⟩
    · obtain ⟨hself, -, hcpl, hothers⟩ := State.rampCtrl_gives hacc (fun h => absurd (hact.symm.trans h) (by decide))
      rw [hact, Pll.ctrl_zero] at hself
      have hzero : (s.rampCtrl d).rampX (d.arg 12 1) = 0 := State.rampX_zero (by rw [hself]) (by rw [hself])
      rw [hzero] at hcpl
      exact gives_effect rfl hup hwf ⟨hself, hcpl, hothers, hframe.carry⟩
  case segment =>
    intro s x r g e hup hx hr hg he
    subst he
    obtain ⟨hnext, hloop, hend, hothers⟩ := State.rampSegmentEnd_gives hr hg
    exact gives_effect rfl hup (decide_eq_true hx) ⟨hnext, hloop, hend, hothers, (State.rampSegmentEnd_touches s x rfl).carry⟩
  case clamp =>
    intro s x r g hup hx hr hg hhold hslope hheld
    obtain ⟨hself, hothers⟩ := State.rampClampReached_gives hr hg hhold hslope hheld
    exact gives_effect rfl hup (decide_eq_true hx) ⟨hself, hothers, (State.rampClampReached_touches s x rfl).carry⟩
  case align =>
    intro s d hup hwf hacc
    have hrun : s.pllAlign d = { s.startCmd d with pll := { (s.startCmd d).pll with aligns := (s.startCmd d).pll.aligns ++ [d] } } :=
      State.runCmd_accepted_free hacc rfl
    have hpll : (s.pllAlign d).pll = { s.pll with aligns := s.pll.aligns ++ [d] } := by rw [hrun, State.startCmd_pll]
    exact gives_effect rfl hup hwf ⟨hpll, (State.pllAlign_touches s d rfl).carry⟩

end Sys2Proof.Machine
end

section
/-! ## The phases of the ports end with the bypass of PLL-T (R235, R251), and the bypass of a PLL (R280, R281) -/

set_option Elab.async false

namespace Sys2Proof.Machine

/-! ### Phases -/

/-- From `s` to `t` no port has gained a phase. -/
def PhiKept (s t : State) : Prop := ∀ q, (s.lnkPort q).phi = none → (t.lnkPort q).phi = none

section Phi

variable {s t u : State}

theorem PhiKept.refl (s : State) : PhiKept s s := fun _ h => h

theorem PhiKept.trans (h : PhiKept s t) (g : PhiKept t u) : PhiKept s u := fun q hq => g q (h q hq)

theorem PhiKept.of_ports (h : t.lnk.ports = s.lnk.ports) : PhiKept s t := fun q hq => by
  rw [State.lnkPort, h]
  exact hq

theorem State.setLnk_lnkPort_self (s : State) (p : Nat) (x : LnkPort) : (s.setLnk p x).lnkPort p = x := Tab.get_set_self _ _ _ _

theorem State.setLnk_lnkPort_ne (s : State) {p q : Nat} (h : q ≠ p) (x : LnkPort) : (s.setLnk p x).lnkPort q = s.lnkPort q :=
  Tab.get_set_ne _ _ _ _ _ h

theorem PhiKept.setLnk (s : State) {p : Nat} {x : LnkPort} (h : (s.lnkPort p).phi = none → x.phi = none) : PhiKept s (s.setLnk p x) := by
  intro q hq
  by_cases hp : q = p
  · subst hp
    rw [State.setLnk_lnkPort_self]
    exact h hq
  · rwa [State.setLnk_lnkPort_ne _ hp]

theorem State.pairHold_ports (s : State) (a : Nat) : (s.pairHold a).lnk.ports = s.lnk.ports := by
  unfold State.pairHold
  extract_lets x s0
  have h0 : s0.lnk = s.lnk := State.calLose_touches (ps := Part.others .lnk) s _ rfl .lnk rfl
  split
  · rfl
  · split <;> exact (congrArg LnkState.ports h0 :)

theorem State.lnkGo_phi (s : State) (p : Nat) (st : LnkSt) (cause : Nat) : PhiKept s (s.lnkGo p st cause) := by
  unfold State.lnkGo
  extract_lets x y s1
  have h1 : PhiKept s s1 := by
    refine PhiKept.setLnk s (fun h => ?_)
    unfold y
    split <;> exact h
  clear_value s1
  split
  · split
    · exact h1.trans (PhiKept.of_ports (State.pairHold_ports _ _))
    · exact h1
  · exact h1

theorem State.lnkEval_phi (s : State) (p : Nat) : PhiKept s (s.lnkEval p) := by
  unfold State.lnkEval
  extract_lets x c
  split
  · split
    · exact PhiKept.setLnk s (fun h => h)
    · exact (PhiKept.setLnk s (fun _ => rfl)).trans (State.lnkGo_phi _ _ _ _)
  split
  · exact State.lnkGo_phi _ _ _ _
  split
  · exact State.lnkGo_phi _ _ _ _
  · exact PhiKept.refl s

/-- A port whose phase is lost has none, and no other port gains one. -/
theorem State.lnkPhiLost_phi (s : State) (p : Nat) : PhiKept s (s.lnkPhiLost p) ∧ ((s.lnkPhiLost p).lnkPort p).phi = none := by
  unfold State.lnkPhiLost
  extract_lets x y
  split
  · next hnone => exact ⟨PhiKept.refl s, Option.isNone_iff_eq_none.mp hnone⟩
  · have hset : PhiKept s (s.setLnk p y) := PhiKept.setLnk s (fun _ => rfl)
    have hself : ((s.setLnk p y).lnkPort p).phi = none := congrArg LnkPort.phi (s.setLnk_lnkPort_self p y)
    have hrest : PhiKept (s.setLnk p y) (((s.setLnk p y).phiForget p).lnkEval p) :=
      (PhiKept.of_ports (t := (s.setLnk p y).phiForget p) rfl).trans (State.lnkEval_phi _ _)
    exact ⟨hset.trans hrest, hrest p hself⟩

theorem State.phisLost (l : List Nat) (s : State) :
    PhiKept s (l.foldl (fun s p => s.lnkPhiLost p) s) ∧ ∀ p ∈ l, ((l.foldl (fun s p => s.lnkPhiLost p) s).lnkPort p).phi = none := by
  induction l generalizing s with
  | nil => exact ⟨PhiKept.refl s, fun _ h => absurd h List.not_mem_nil⟩
  | cons p l ih =>
    obtain ⟨hone, hself⟩ := s.lnkPhiLost_phi p
    obtain ⟨hkept, hall⟩ := ih (s.lnkPhiLost p)
    refine ⟨hone.trans hkept, fun q hq => ?_⟩
    rcases List.mem_cons.mp hq with rfl | hq
    · exact hkept q hself
    · exact hall q hq

end Phi

theorem State.lnkBypass_phi (s : State) {p : Nat} (hp : p < 96) : ((s.lnkBypass).lnkPort p).phi = none :=
  (State.phisLost (List.range 96) s).2 p (List.mem_range.mpr hp)

theorem State.lnkBypass_pll (s : State) : s.lnkBypass.pll = s.pll := State.lnkBypass_touches (ps := Part.others .pll) s rfl .pll rfl

theorem State.lnkBypassEnd_pll (s : State) : s.lnkBypassEnd.pll = s.pll := State.lnkBypassEnd_touches (ps := Part.others .pll) s rfl .pll rfl

/-! ### A PLL in a new state -/

theorem State.goPll_pllOf_self (s : State) (x : Nat) (st : PllSt) : (s.goPll x st).pllOf x = { s.pllOf x with st := st } :=
  State.setPll_pllOf_self _ _ _

theorem State.goPll_pllOf_ne (s : State) {x y : Nat} (h : y ≠ x) (st : PllSt) : (s.goPll x st).pllOf y = s.pllOf y :=
  State.setPll_pllOf_ne _ h _

/-- PLL `x` in BYPASS, as `s` enters it (R280). -/
def State.bypassed (s : State) (x cause : Nat) (e : Int) : Pll :=
  { s.pllOf x with
    st := .bypass, cause := cause, phErr := e, bg := .acq, bypOsc := !s.pll.refclkOk || cause == 3, bypAt := s.clk.now
    alignDue := false, ramp := (s.pllOf x).ramp.suspend s.clk.now (s.rampX x) }

/-- From `s` to `t` PLL `x` has entered BYPASS, and no other PLL has changed. -/
structure Bypassed (x cause : Nat) (e : Int) (s t : State) : Prop where
  self : t.pllOf x = s.bypassed x cause e
  others : ∀ y, y ≠ x → t.pllOf y = s.pllOf y
  refclk : t.pll.refclkOk = s.pll.refclkOk
  byp : t.count Fld.pllCnt_BYP x = s.counted Fld.pllCnt_BYP x
  unlock : t.count Fld.pllCnt_UNLOCK x = s.counted Fld.pllCnt_UNLOCK x (b2n (cause == 2))

/-- PLL `x` with what BYPASS brings it, before its state is raised. -/
def State.bypassPrep (s : State) (x cause : Nat) (e : Int) : State :=
  s.setPll x { s.pllOf x with
    cause := cause, phErr := e, bg := .acq, bypOsc := !s.pll.refclkOk || cause == 3, bypAt := s.clk.now, alignDue := false
    ramp := (s.pllOf x).ramp.suspend s.clk.now (s.rampX x) }

section ToBypass

variable {s : State} {x cause : Nat} {e : Int}

theorem State.pllToBypass_eq (s : State) (x cause : Nat) (e : Int) :
    s.pllToBypass x cause e = ((((if x = 3 then s.cycFold else s).bypassPrep x cause e |>.bump Fld.pllCnt_BYP x).bump Fld.pllCnt_UNLOCK x
      (b2n (cause == 2))).goPll x .bypass).raise Ev.pllBypass x cause := rfl

theorem State.pllToBypass_gives (s : State) (x cause : Nat) (e : Int) : Bypassed x cause e s (s.pllToBypass x cause e) := by
  rw [State.pllToBypass_eq]
  obtain ⟨u, hu⟩ : ∃ u, (if x = 3 then s.cycFold else s) = u := ⟨_, rfl⟩
  have hpll : u.pll = s.pll := by rw [← hu]; split <;> rfl
  have hclk : u.clk = s.clk := by rw [← hu]; split <;> rfl
  have hrc : u.rc = s.rc := by rw [← hu]; split <;> rfl
  rw [hu]
  have hof := State.pllOf_of_pll hpll
  have hramp : u.rampX x = s.rampX x := State.rampX_of hclk (congrArg Pll.ramp (hof x))
  have hcount : ∀ f i, u.count f i = s.count f i := fun f i => by rw [State.count, State.count, State.rcWord, State.rcWord, hrc]
  generalize hv : ((u.bypassPrep x cause e).bump Fld.pllCnt_BYP x).bump Fld.pllCnt_UNLOCK x (b2n (cause == 2)) = v
  have hvpll : v.pll = (u.bypassPrep x cause e).pll := hv ▸ rfl
  have hlast : Touches (Part.pll :: evtParts) v ((v.goPll x .bypass).raise Ev.pllBypass x cause) :=
    (State.goPll_touches _ _ _ rfl).step (State.raise_touches _ _ _ _ _ rfl)
  have hrest : ∀ f : FieldRef, f.reg = .pllCnt → ((v.goPll x .bypass).raise Ev.pllBypass x cause).count f x = v.count f x := fun f hf =>
    State.count_of_rc (hlast _ (by rw [hf]; rfl))
  refine ⟨?_, fun y hy => ?_, ?_, ?_, ?_⟩
  · have hself : v.pllOf x = (u.bypassPrep x cause e).pllOf x := State.pllOf_of_pll hvpll x
    have hprep : (u.bypassPrep x cause e).pllOf x = _ := State.setPll_pllOf_self _ _ _
    refine (v.goPll_pllOf_self x .bypass).trans ?_
    rw [hself, hprep, hof, hpll, hclk, hramp]
    rfl
  · exact (v.goPll_pllOf_ne hy .bypass).trans ((State.pllOf_of_pll hvpll y).trans ((State.setPll_pllOf_ne _ hy _).trans (hof y)))
  · exact (congrArg PllState.refclkOk hvpll).trans (congrArg PllState.refclkOk hpll :)
  · rw [hrest _ rfl, ← hv, State.count_bump_ne _ Fld.pllCnt_UNLOCK Fld.pllCnt_BYP _ _ (by decide) (.inr (by decide)) rfl, State.count_bump _ _ _ _ (by decide),
      State.counted, State.counted]
    exact congrArg (fun n => satAdd 16 n 1) (hcount Fld.pllCnt_BYP x)
  · rw [hrest _ rfl, ← hv, State.count_bump _ _ _ _ (by decide), State.counted, State.counted,
      State.count_bump_ne _ Fld.pllCnt_BYP Fld.pllCnt_UNLOCK _ _ (by decide) (.inl (by decide)) rfl]
    exact congrArg (fun n => satAdd 16 n (b2n (cause == 2))) (hcount Fld.pllCnt_UNLOCK x)

theorem State.pllBypass_gives (s : State) (x cause : Nat) (e : Int) :
    Bypassed x cause e s (s.pllBypass x cause e) ∧ (x = 0 → ∀ p, p < 96 → ((s.pllBypass x cause e).lnkPort p).phi = none) := by
  unfold State.pllBypass
  split
  · obtain ⟨hself, hothers, hrefclk, hbyp, hunlock⟩ := s.ltxFold.pllToBypass_gives x cause e
    have hrest : ∀ f : FieldRef, f.reg = .pllCnt →
        (s.ltxFold.pllToBypass x cause e).lnkBypass.count f x = (s.ltxFold.pllToBypass x cause e).count f x := fun f hf =>
      State.count_of_rc (State.lnkBypass_touches (ps := bypParts) _ rfl _ (by rw [hf]; rfl))
    have hpll := State.pllOf_of_pll (s.ltxFold.pllToBypass x cause e).lnkBypass_pll
    refine ⟨⟨(hpll x).trans hself, fun y hy => (hpll y).trans (hothers y hy), ?_, (hrest _ rfl).trans hbyp, (hrest _ rfl).trans hunlock⟩,
      fun _ p hp => State.lnkBypass_phi _ hp⟩
    rw [State.lnkBypass_pll]
    exact hrefclk
  · next hx => exact ⟨s.pllToBypass_gives x cause e, fun h => absurd h hx⟩

end ToBypass

end Sys2Proof.Machine
end

section
/-! ## The states of the PLLs and the PPS outputs (R266, R278 to R281, R286, R287, R404) -/

set_option Elab.async false

namespace Sys2Proof.Machine

/-! ### What a change of the candidates leaves of PLL-T -/

/-- From `s` to `t` PLL-T and the LTX edges stand as they stood. -/
def PllTKept (s t : State) : Prop := t.pllOf 0 = s.pllOf 0 ∧ t.pll.ltx = s.pll.ltx

section PllT

variable {s t u : State}

theorem PllTKept.refl (s : State) : PllTKept s s := ⟨rfl, rfl⟩

theorem PllTKept.trans (h : PllTKept s t) (g : PllTKept t u) : PllTKept s u := ⟨g.1.trans h.1, g.2.trans h.2⟩

theorem PllTKept.of_pll (h : t.pll = s.pll) : PllTKept s t := ⟨State.pllOf_of_pll h 0, congrArg PllState.ltx h⟩

/-- A step that touches no PLL keeps PLL-T. -/
theorem PllTKept.step (h : PllTKept s t) {ps : List Part} (g : Touches ps t u) (hp : ps.any (fun q => q.covers .pll) = false) : PllTKept s u :=
  h.trans (PllTKept.of_pll (g .pll hp))

theorem PllTKept.setPll (s : State) {x : Nat} (h : x ≠ 0) (p : Pll) : PllTKept s (s.setPll x p) :=
  ⟨State.setPll_pllOf_ne s (Ne.symm h) p, rfl⟩

theorem State.pllToBypass_ltx (s : State) (x cause : Nat) (e : Int) : (s.pllToBypass x cause e).pll.ltx = s.pll.ltx := by
  rw [State.pllToBypass_eq]
  split <;> rfl

theorem State.pllInputLost_pllT (s : State) (id : Nat) : PllTKept s (s.pllInputLost id) := by
  have hone : ∀ (u : State) (x : Nat), x ≠ 0 → PllTKept u
      (if u.pllSrc x ≠ 1 ∨ u.ap Fld.pllSrcCand_VAL x ≠ id then u
       else if (u.pllOf x).st = .locked then u.pllToBypass x 1 (u.pllOf x).phErr
       else if (u.pllOf x).st = .bypass then u.setPll x { u.pllOf x with bg := .acq } else u) := by
    intro u x hx
    split
    · exact PllTKept.refl u
    split
    · exact ⟨(u.pllToBypass_gives x 1 _).others 0 (Ne.symm hx), u.pllToBypass_ltx _ _ _⟩
    split
    · exact PllTKept.setPll u hx _
    · exact PllTKept.refl u
  exact (hone s 1 (by decide)).trans (hone _ 2 (by decide))

theorem State.setCandSt_pllT (s : State) (id : Nat) (st : CandSt) (cause : Nat) : PllTKept s (s.setCandSt id st cause) := by
  unfold State.setCandSt
  extract_lets c c' t _ u
  have hu : PllTKept s u := PllTKept.refl s
  clear_value u
  split
  · exact hu.trans (u.pllInputLost_pllT id)
  · exact hu

theorem State.markSel_pllT (s : State) (c : Option Nat) (on : Bool) : PllTKept s (s.markSel c on) := by
  have hchan : ∀ (u : State) (i : Nat) (st : ChanState), PllTKept u (u.setChanSt i st) := fun u i st =>
    (PllTKept.refl u).step (State.setChanSt_touches (ps := evtParts ++ [.tchans]) u i st rfl) rfl
  unfold State.markSel
  split
  · exact PllTKept.refl s
  next id =>
  extract_lets st s1 s2
  split
  · have h1 : PllTKept s s1 := s.setCandSt_pllT id .selected 0
    split
    · exact h1.trans (hchan _ _ _)
    · exact h1
  · have h2 : PllTKept s s2 := by
      unfold s2
      split
      · exact s.setCandSt_pllT _ _ _
      split
      · exact s.setCandSt_pllT _ _ _
      · exact PllTKept.refl s
    clear_value s2
    split
    · exact h2.trans (hchan _ _ _)
    · exact h2

theorem State.selectT_pllT (s : State) (c : Option Nat) : PllTKept s (s.selectT c) := by
  unfold State.selectT
  extract_lets old s1 _ s2 s3
  have h2 : PllTKept s s2 := s.markSel_pllT old false
  have h3 : PllTKept s s3 := h2.trans (s2.markSel_pllT c true)
  exact h3.step ((State.raise_touches (ps := .tcore :: .pair :: .rc .pairMirOvf :: evtParts) _ _ _ _ _ rfl).step
    (State.updateClass_touches _ rfl)) rfl

theorem State.selectF_pllT (s : State) (c : Option Nat) : PllTKept s (s.selectF c) := by
  unfold State.selectF
  extract_lets old s1 _ s2 s3
  have h2 : PllTKept s s2 := s.markSel_pllT old false
  have h3 : PllTKept s s3 := h2.trans (s2.markSel_pllT c true)
  exact h3.step (((State.raise_touches (ps := .clk :: .tcore :: .pair :: .rc .pairMirOvf :: evtParts) _ _ _ _ _ rfl).step
    (State.updateClass_touches _ rfl)).step (State.freerunRate_touches _ rfl)) rfl

theorem State.setTstate_pllT (s : State) (st : TState) (b : Bool) : PllTKept s (s.setTstate st b) :=
  (PllTKept.refl s).step (State.setTstate_touches (ps := refParts.filter (fun p => !(p.covers .pll))) s st b rfl) rfl

theorem State.timeStateOut_pllT (s : State) : PllTKept s s.timeStateOut :=
  (PllTKept.refl s).step (State.timeStateOut_touches (ps := .pair :: .rc .pairMirOvf :: evtParts) s rfl) rfl

theorem State.setStepPending_pllT (s : State) (id : Nat) (o : Int) : PllTKept s (s.setStepPending id o) :=
  (PllTKept.refl s).step (State.setStepPending_touches (ps := .ref :: .pair :: .rc .pairMirOvf :: evtParts) s id o rfl) rfl

theorem State.selectBias_pllT (s : State) (id : Nat) (b : Int) : PllTKept s (s.selectBias id b) := by
  unfold State.selectBias
  extract_lets s1
  have h1 : PllTKept s s1 := s.selectT_pllT (some id)
  exact h1.trans (State.timeStateOut_pllT _)

theorem State.takeT_pllT (s : State) (id : Nat) : PllTKept s (s.takeT id) := by
  unfold State.takeT
  split
  · exact s.selectT_pllT _
  split
  · exact (s.selectBias_pllT id 0).trans (State.setTstate_pllT _ _ _)
  · exact s.selectT_pllT _
  · extract_lets o s1
    have h1 : PllTKept s s1 := s.selectBias_pllT id 0
    split
    · exact h1.trans (State.setTstate_pllT _ _ _)
    · exact h1.trans (State.setStepPending_pllT _ _ _)
  · extract_lets o s1
    have h1 : PllTKept s s1 := s.selectBias_pllT id 0
    split
    · split
      · exact h1.trans (State.timeStateOut_pllT _)
      split
      · exact PllTKept.refl s
      · exact State.setStepPending_pllT _ _ _
    · exact s.selectBias_pllT id _

theorem State.loseT_pllT (s : State) : PllTKept s s.loseT := by
  unfold State.loseT
  extract_lets _ _ s1
  have h1 : PllTKept s s1 := (s.selectT_pllT none).trans (State.timeStateOut_pllT _)
  split
  · exact h1
  · exact h1
  · split <;> exact h1.trans (State.setTstate_pllT _ _ _)
  · exact h1.trans (State.setTstate_pllT _ _ _)

theorem State.reselect_pllT (s : State) : PllTKept s s.reselect := by
  unfold State.reselect
  extract_lets _ s0 wf s1 wt
  have h0 : PllTKept s s0 := by
    unfold s0
    split
    · split
      · exact PllTKept.refl s
      · exact State.timeStateOut_pllT _
    · exact PllTKept.refl s
  have h1 : PllTKept s s1 := by
    unfold s1
    split
    · exact h0
    · exact h0.trans (State.selectF_pllT _ _)
  clear_value s1 wt
  split
  · exact h1
  split
  · exact h1.trans (State.takeT_pllT _ _)
  · exact h1.trans (State.loseT_pllT _)

theorem State.candEnable_pllT (s : State) (id : Nat) : PllTKept s (s.candEnable id) := by
  unfold State.candEnable
  extract_lets c
  split
  · exact PllTKept.refl s
  split
  · split
    · exact PllTKept.refl s
    · exact (s.setCandSt_pllT _ _ _).trans (State.reselect_pllT _)
  split
  · exact s.setCandSt_pllT _ _ _
  · exact PllTKept.refl s

theorem State.isReady_eq (s : State) (b : Nat) : s.isReady b = decide (fieldOf s.ready b 1 = 1) := by
  simp only [State.isReady, bitAt, fieldOf, bitsOf, pow_one]

theorem State.setReady_isReady_ne (s : State) {b c : Nat} (hb : b < 32) (hne : c ≠ b) (v : Bool) : (s.setReady b v).isReady c = s.isReady c := by
  have hfield : fieldOf (putField s.ready b 1 (b2n v)) c 1 = fieldOf s.ready c 1 := fieldOf_putField_ne _ _ _ _ _ _ (by omega) (by omega)
  rw [State.isReady_eq, State.isReady_eq, State.setReady_ready, hfield]

theorem State.setReady_pllT (s : State) (b : Nat) (v : Bool) : PllTKept s (s.setReady b v) :=
  (PllTKept.refl s).step (State.setReady_touches (ps := .ready :: evtParts) s b v rfl) rfl

theorem State.candsEnable_gives (l : List Nat) (s : State) :
    PllTKept s (l.foldl (fun s k => s.candEnable (96 + k)) s) ∧ (l.foldl (fun s k => s.candEnable (96 + k)) s).ready = s.ready := by
  induction l generalizing s with
  | nil => exact ⟨PllTKept.refl s, rfl⟩
  | cons k l ih =>
    obtain ⟨hkept, hready⟩ := ih (s.candEnable (96 + k))
    exact ⟨(s.candEnable_pllT _).trans hkept, hready.trans (State.candEnable_touches (ps := Part.others .ready) s _ rfl .ready rfl)⟩

/-- What becomes usable with PLL-T leaves it as it is, and the time core is READY. -/
theorem State.pllTReady_gives (s : State) : PllTKept s s.pllTReady ∧ s.pllTReady.isReady Rdy.tcore = true := by
  unfold State.pllTReady
  extract_lets s1 s2 _
  have h1 : PllTKept s s1 ∧ s1.isReady Rdy.tcore = true := by
    refine ⟨((State.setReady_pllT _ _ _).trans (State.setReady_pllT _ _ _)).trans (State.setReady_pllT _ _ _), ?_⟩
    rw [State.setReady_isReady_ne _ (by decide) (by decide), State.setReady_isReady_ne _ (by decide) (by decide),
      State.setReady_isReady _ (by decide)]
  have h2 : PllTKept s s2 ∧ s2.isReady Rdy.tcore = true := by
    obtain ⟨hkept, hready⟩ := State.candsEnable_gives (List.range 6) ((s1.setReady Rdy.lnk true).setReady Rdy.tic true)
    refine ⟨((h1.1.trans (State.setReady_pllT _ _ _)).trans (State.setReady_pllT _ _ _)).trans hkept, ?_⟩
    rw [State.isReady_eq, hready, ← State.isReady_eq, State.setReady_isReady_ne _ (by decide) (by decide),
      State.setReady_isReady_ne _ (by decide) (by decide), h1.2]
  clear_value s2
  split
  · exact ⟨h2.1.trans (State.setReady_pllT { s2 with gnss := _ } _ _),
      (State.setReady_isReady_ne { s2 with gnss := _ } (by decide) (by decide) true).trans h2.2⟩
  · exact h2

end PllT

/-! ### Locks and returns -/

section Lock

variable {s : State} {x : Nat} {e : Int}

/-- PLL `x` that has locked from PHASE, with the event. -/
def State.pllLocked (s : State) (x : Nat) (e : Int) : State :=
  (s.setPll x { s.pllOf x with phErr := e, alignDue := true }).goPll x .locked

theorem State.pllLocked_pllOf_self (s : State) (x : Nat) (e : Int) :
    (s.pllLocked x e).pllOf x = { s.pllOf x with st := .locked, phErr := e, alignDue := true } := by
  have hset : (s.setPll x { s.pllOf x with phErr := e, alignDue := true }).pllOf x = _ := State.setPll_pllOf_self _ _ _
  rw [State.pllLocked, State.goPll_pllOf_self, hset]

theorem State.pllLocked_pllOf_ne (s : State) {y : Nat} (h : y ≠ x) (e : Int) : (s.pllLocked x e).pllOf y = s.pllOf y :=
  (State.goPll_pllOf_ne _ h _).trans (State.setPll_pllOf_ne _ h _)

theorem State.pllLock_phase (h : (s.pllOf x).st = .phase) (e : Int) :
    s.pllLock x e = if x = 0 ∧ !(s.isReady Rdy.tcore) then (s.pllLocked x e).ltxLoad.pllTReady
      else if x = 0 then (s.pllLocked x e).ltxLoad else s.pllLocked x e := by
  unfold State.pllLock
  extract_lets p s0 s1
  rw [if_pos h]
  by_cases hx : x = 0
  · have h1 : s1 = (s.pllLocked x e).ltxLoad := if_pos hx
    rw [h1]
    by_cases hready : x = 0 ∧ !(s.isReady Rdy.tcore)
    · rw [if_pos hready, if_pos hready]
    · rw [if_neg hready, if_neg hready, if_pos hx]
  · have h1 : s1 = s.pllLocked x e := if_neg hx
    rw [h1, if_neg (fun h => hx h.1), if_neg (fun h => hx h.1), if_neg hx]

theorem State.pllLock_background (h : (s.pllOf x).st = .bypass) (hbg : (s.pllOf x).bg = .phase) (e : Int) :
    s.pllLock x e = s.setPll x { s.pllOf x with bg := .locked, phErr := e } := by
  simp [State.pllLock, h, hbg]

theorem State.pllLock_else (h : (s.pllOf x).st ≠ .phase) (hbg : ¬((s.pllOf x).st = .bypass ∧ (s.pllOf x).bg = .phase)) (e : Int) :
    s.pllLock x e = s := by
  simp only [State.pllLock, h, hbg, if_false]

/-- What PLL_LOCK leaves. -/
theorem State.pllLock_gives (s : State) (x : Nat) (e : Int) :
    ((s.pllOf x).st = .phase → (s.pllLock x e).pllOf x = { s.pllOf x with st := .locked, phErr := e, alignDue := true } ∧
      (x = 0 → (s.pllLock x e).isReady Rdy.tcore = true ∧ (s.pllLock x e).pll.ltx = [])) ∧
    ((s.pllOf x).st = .bypass → (s.pllOf x).bg = .phase → (s.pllLock x e).pllOf x = { s.pllOf x with bg := .locked, phErr := e }) ∧
    ((s.pllOf x).st ≠ .phase ∨ x ≠ 0 ∨ s.isReady Rdy.tcore = true →
      (∀ y, y ≠ x → (s.pllLock x e).pllOf y = s.pllOf y) ∧ Touches (evtParts ++ [Part.pll]) s (s.pllLock x e)) := by
  by_cases hphase : (s.pllOf x).st = .phase
  · rw [State.pllLock_phase hphase]
    have hself := s.pllLocked_pllOf_self x e
    have hframe : Touches (evtParts ++ [Part.pll]) s (s.pllLocked x e) := (State.setPll_touches s _ _ rfl).step (State.goPll_touches _ _ _ rfl)
    have hready : (s.pllLocked x e).ready = s.ready := State.goPll_touches (ps := Part.others .ready) _ _ _ rfl .ready rfl
    by_cases hfirst : x = 0 ∧ !(s.isReady Rdy.tcore)
    · rw [if_pos hfirst]
      obtain ⟨hx, hboot⟩ := hfirst
      obtain ⟨hkept, htcore⟩ := (s.pllLocked x e).ltxLoad.pllTReady_gives
      subst hx
      refine ⟨fun _ => ⟨hkept.1.trans hself, fun _ => ⟨htcore, hkept.2⟩⟩, fun h => absurd (hphase.symm.trans h) (by decide), ?_⟩
      rintro (h | h | h)
      · exact absurd hphase h
      · exact absurd rfl h
      · rw [h] at hboot
        exact absurd hboot (by decide)
    rw [if_neg hfirst]
    by_cases hx : x = 0
    · rw [if_pos hx]
      subst hx
      have hup : s.isReady Rdy.tcore = true := by
        cases h : s.isReady Rdy.tcore
        · exact absurd ⟨rfl, by rw [h]; rfl⟩ hfirst
        · rfl
      refine ⟨fun _ => ⟨hself, fun _ => ⟨?_, rfl⟩⟩, fun h => absurd (hphase.symm.trans h) (by decide),
        fun _ => ⟨fun y hy => s.pllLocked_pllOf_ne hy e, hframe.set_pll rfl⟩⟩
      rw [← hup, State.isReady_eq, State.isReady_eq, ← hready]
      rfl
    · rw [if_neg hx]
      exact ⟨fun _ => ⟨hself, fun h => absurd h hx⟩, fun h => absurd (hphase.symm.trans h) (by decide),
        fun _ => ⟨fun y hy => s.pllLocked_pllOf_ne hy e, hframe⟩⟩
  · by_cases hback : (s.pllOf x).st = .bypass ∧ (s.pllOf x).bg = .phase
    · rw [State.pllLock_background hback.1 hback.2]
      exact ⟨fun h => absurd h hphase, fun _ _ => State.setPll_pllOf_self _ _ _,
        fun _ => ⟨fun y hy => State.setPll_pllOf_ne _ hy _, State.setPll_touches _ _ _ rfl⟩⟩
    · rw [State.pllLock_else hphase hback]
      exact ⟨fun h => absurd h hphase, fun h h' => absurd ⟨h, h'⟩ hback, fun _ => ⟨fun _ _ => rfl, Touches.refl _ _⟩⟩

/-- What PLL_FREQ_ACQUIRED leaves. -/
theorem State.pllFreqAcquired_gives (s : State) (x : Nat) :
    ((s.pllOf x).st = .acq → (s.pllFreqAcquired x).pllOf x = { s.pllOf x with st := .phase }) ∧
    ((s.pllOf x).st = .bypass → (s.pllOf x).bg = .acq → (s.pllFreqAcquired x).pllOf x = { s.pllOf x with bg := .phase }) ∧
    ((s.pllOf x).st ≠ .acq → (s.pllOf x).st ≠ .bypass → (s.pllFreqAcquired x).pllOf x = s.pllOf x) ∧
    (∀ y, y ≠ x → (s.pllFreqAcquired x).pllOf y = s.pllOf y) := by
  unfold State.pllFreqAcquired
  dsimp only
  by_cases hacq : (s.pllOf x).st = .acq
  · rw [if_pos hacq]
    exact ⟨fun _ => s.goPll_pllOf_self x .phase, fun h => absurd (hacq.symm.trans h) (by decide), fun h => absurd hacq h,
      fun y hy => s.goPll_pllOf_ne hy .phase⟩
  rw [if_neg hacq]
  by_cases hback : (s.pllOf x).st = .bypass ∧ (s.pllOf x).bg = .acq
  · rw [if_pos hback]
    exact ⟨fun h => absurd h hacq, fun _ _ => State.setPll_pllOf_self _ _ _, fun _ h => absurd hback.1 h,
      fun y hy => State.setPll_pllOf_ne _ hy _⟩
  · rw [if_neg hback]
    exact ⟨fun h => absurd h hacq, fun h h' => absurd ⟨h, h'⟩ hback, fun _ _ => rfl, fun _ _ => rfl⟩

/-- PLL `x` as it returns from BYPASS (R281). -/
def State.returned (s : State) (x : Nat) : Pll :=
  { s.pllOf x with
    st := .locked, bg := .off, bypOsc := false, bypPs := (s.pllOf x).bypPs + (s.clk.now - (s.pllOf x).bypAt), aligned := false
    ramp := (s.pllOf x).ramp.resume s.clk.now }

theorem State.pllReturn_gives (s : State) (x : Nat) :
    (s.pllReturn' x).pllOf x = s.returned x ∧ ∀ y, y ≠ x → (s.pllReturn' x).pllOf y = s.pllOf y := by
  unfold State.pllReturn'
  extract_lets u p d s1 s2
  have hu : u.pll = s.pll ∧ u.clk = s.clk := by
    unfold u
    split <;> exact ⟨rfl, rfl⟩
  have hof := State.pllOf_of_pll hu.1
  have hset : s1.pllOf x = _ := State.setPll_pllOf_self _ _ _
  have hself : s2.pllOf x = s.returned x := by
    refine (s1.goPll_pllOf_self x .locked).trans ?_
    rw [hset]
    unfold d p
    rw [hu.2, hof]
    rfl
  have hothers : ∀ y, y ≠ x → s2.pllOf y = s.pllOf y := fun y hy =>
    (s1.goPll_pllOf_ne hy .locked).trans ((State.setPll_pllOf_ne _ hy _).trans (hof y))
  clear_value s2
  split
  · have hload : ∀ y, s2.ltxLoad.lnkBypassEnd.pllOf y = s2.pllOf y := fun y => State.pllOf_of_pll (State.lnkBypassEnd_pll _) y
    exact ⟨(hload x).trans hself, fun y hy => (hload y).trans (hothers y hy)⟩
  · exact ⟨hself, hothers⟩

/-- What PLL_BYPASS_ENTRY leaves. -/
theorem State.pllBypassEntry_gives (s : State) (x cause : Nat) (e : Int) :
    ((s.pllOf x).st = .locked → Bypassed x cause e s (s.pllBypassEntry x cause e) ∧
      (x = 0 → ∀ p, p < 96 → ((s.pllBypassEntry x cause e).lnkPort p).phi = none)) ∧
    ((s.pllOf x).st = .bypass →
      (s.pllBypassEntry x cause e).pllOf x = { s.pllOf x with bg := .acq, phErr := e, bypOsc := (s.pllOf x).bypOsc || cause == 3 }) ∧
    (∀ y, y ≠ x → (s.pllBypassEntry x cause e).pllOf y = s.pllOf y) := by
  unfold State.pllBypassEntry
  dsimp only
  split
  · next h =>
    obtain ⟨hbyp, hphi⟩ := s.pllBypass_gives x cause e
    exact ⟨fun _ => ⟨hbyp, hphi⟩, fun h' => absurd (h.symm.trans h') (by decide), hbyp.others⟩
  · next h =>
    exact ⟨fun h' => absurd (h.symm.trans h') (by decide), fun _ => State.setPll_pllOf_self _ _ _, fun y hy => State.setPll_pllOf_ne _ hy _⟩
  · next h h' => exact ⟨fun hl => absurd hl h, fun hb => absurd hb h', fun _ _ => rfl⟩

/-! ### The loss of REF_CLK -/

/-- What the loss of REF_CLK brings PLL `x`. -/
def State.refclkLost (s : State) (x : Nat) : State :=
  if (s.pllOf x).st = .locked then s.pllBypass x 3 (s.pllOf x).phErr
  else if (s.pllOf x).st = .bypass then s.setPll x { s.pllOf x with bypOsc := true, bg := .acq }
  else s

theorem State.refclkLoss_eq (h : s.pll.refclkOk = true) :
    s.refclkLoss = (List.range 4).foldl (fun s x => s.refclkLost x) (({ s with pll := { s.pll with refclkOk := false } } : State).raise Ev.pllRefclkLost) := by
  rw [State.refclkLoss, if_neg (by rw [h]; decide)]
  rfl

theorem State.refclkLost_ne (s : State) {y : Nat} (h : y ≠ x) : (s.refclkLost x).pllOf y = s.pllOf y := by
  unfold State.refclkLost
  split
  · exact (s.pllBypass_gives x 3 _).1.others y h
  split
  · exact State.setPll_pllOf_ne _ h _
  · rfl

theorem State.refclkLost_refclk (s : State) (x : Nat) : (s.refclkLost x).pll.refclkOk = s.pll.refclkOk := by
  unfold State.refclkLost
  split
  · exact (s.pllBypass_gives x 3 _).1.refclk
  split <;> rfl

theorem State.refclkLost_else (h : (s.pllOf x).st ≠ .locked) (h' : (s.pllOf x).st ≠ .bypass) : s.refclkLost x = s := by
  rw [State.refclkLost, if_neg h, if_neg h']

end Lock

theorem State.refclkLosts_else {s : State} {x : Nat} (h : (s.pllOf x).st ≠ .locked) (h' : (s.pllOf x).st ≠ .bypass) (l : List Nat) :
    (l.foldl (fun s x => s.refclkLost x) s).pllOf x = s.pllOf x := by
  induction l generalizing s with
  | nil => rfl
  | cons y l ih =>
    have hstep : (s.refclkLost y).pllOf x = s.pllOf x := by
      by_cases hy : x = y
      · subst hy
        rw [State.refclkLost_else h h']
      · exact s.refclkLost_ne hy
    exact (ih (by rwa [hstep]) (by rwa [hstep])).trans hstep

theorem State.refclkLosts_refclk (l : List Nat) (s : State) : (l.foldl (fun s x => s.refclkLost x) s).pll.refclkOk = s.pll.refclkOk := by
  induction l generalizing s with
  | nil => rfl
  | cons y l ih => exact (ih _).trans (s.refclkLost_refclk y)

/-- The step of PLL `x` decides what the loss of REF_CLK leaves of it. -/
theorem State.refclkLosts_step (s : State) {x : Nat} (hx : x < 4) :
    ∃ u : State, u.pllOf x = s.pllOf x ∧ ((List.range 4).foldl (fun s x => s.refclkLost x) s).pllOf x = (u.refclkLost x).pllOf x := by
  obtain ⟨u, -, hu, hfold⟩ := foldl_once (f := fun (s : State) x => s.refclkLost x) (g := fun s : State => s.pllOf x) (I := fun _ => True)
    (fun _ _ _ => trivial) (fun s y hy => s.refclkLost_ne (Ne.symm hy)) (List.range 4) List.nodup_range (List.mem_range.mpr hx) s trivial
  exact ⟨u, hu, hfold⟩

/-- The part without REF_CLK, with the event. -/
def State.noRefclk (s : State) : State := ({ s with pll := { s.pll with refclkOk := false } } : State).raise Ev.pllRefclkLost

/-- What the loss of REF_CLK leaves of the PLLs. -/
theorem State.refclkLoss_gives {s : State} (h : s.pll.refclkOk = true) :
    s.refclkLoss.pll.refclkOk = false ∧
    (∀ x, x < 4 → (s.pllOf x).st = .locked →
      (s.refclkLoss.pllOf x).st = .bypass ∧ (s.refclkLoss.pllOf x).cause = 3 ∧ (s.refclkLoss.pllOf x).bypOsc = true) ∧
    (∀ x, x < 4 → (s.pllOf x).st = .bypass → s.refclkLoss.pllOf x = { s.pllOf x with bypOsc := true, bg := .acq }) ∧
    (∀ x, (s.pllOf x).st ≠ .locked → (s.pllOf x).st ≠ .bypass → s.refclkLoss.pllOf x = s.pllOf x) := by
  have heq : s.refclkLoss = (List.range 4).foldl (fun s x => s.refclkLost x) s.noRefclk := State.refclkLoss_eq h
  have hof : ∀ x, s.noRefclk.pllOf x = s.pllOf x := fun _ => rfl
  have hoff : s.noRefclk.pll.refclkOk = false := rfl
  rw [heq]
  generalize s.noRefclk = s1 at *
  refine ⟨?_, fun x hx hlock => ?_, fun x hx hbyp => ?_, fun x hlock hbyp => ?_⟩
  · rw [State.refclkLosts_refclk, hoff]
  · obtain ⟨u, hu, hfold⟩ := s1.refclkLosts_step hx
    have hself := (u.pllBypass_gives x 3 (u.pllOf x).phErr).1.self
    rw [hfold, State.refclkLost, if_pos (by rw [hu, hof]; exact hlock), hself]
    exact ⟨rfl, rfl, Bool.or_true _⟩
  · obtain ⟨u, hu, hfold⟩ := s1.refclkLosts_step hx
    rw [hof] at hu
    rw [hfold, State.refclkLost, if_neg (by rw [hu, hbyp]; decide), if_pos (by rw [hu]; exact hbyp), State.setPll_pllOf_self, hu]
  · rw [State.refclkLosts_else (by rw [hof]; exact hlock) (by rw [hof]; exact hbyp), hof]

end Sys2Proof.Machine
end

section
/-! ## The PPS outputs (R266, R286, R287, R404), and the states of the PLLs -/

set_option Elab.async false

namespace Sys2Proof.Machine

section Pps

variable {s : State} {j : Nat}

theorem State.setPps_ppsOut_self (s : State) (j : Nat) (x : PpsOut) : (s.setPps j x).ppsOut j = x := Tab.get_set_self _ _ _ _

theorem State.setPps_ppsOut_ne (s : State) {i j : Nat} (h : i ≠ j) (x : PpsOut) : (s.setPps j x).ppsOut i = s.ppsOut i :=
  Tab.get_set_ne _ _ _ _ _ h

/-- PPS output `j` with a pulse whose edge is at `e`. -/
def State.pulse (s : State) (j : Nat) (e : Int) : PpsOut := { s.ppsOut j with high := true, due := false, edge := e, widthUs := s.ppsWidth j }

/-- What a pulse that comes due leaves of output `j`, by what keeps it: nothing, its squelch, the pulse that stands, or the dead time. -/
theorem State.ppsOutPulse_cases (s : State) (j : Nat) (hrun : s.ppsRun = true) :
    s.ppsOutPulse j =
      if s.apB Fld.pllPpsCfg_EN j = false then s
      else if (s.ppsOut j).squelched || s.squelchCond j then s.setPps j { s.ppsOut j with squelched := true }
      else if (s.ppsOut j).high then (s.bump Fld.pllPpsLate_VAL j).setPps j { s.ppsOut j with due := true }
      else match (s.ppsOut j).ended with
        | some t =>
          if s.clk.now < t + 10 ^ 6 then
            (s.bump Fld.pllPpsLate_VAL j).setPps j (s.pulse j ((s.tod : Int) + ((t + 10 ^ 6 - s.clk.now) * unitsPerPs : Nat)))
          else s.setPps j (s.pulse j (s.ppsDue j))
        | none => s.setPps j (s.pulse j (s.ppsDue j)) := by
  have hsame : ∀ e, (s.bump Fld.pllPpsLate_VAL j).ppsRise j e = (s.bump Fld.pllPpsLate_VAL j).setPps j (s.pulse j e) := fun _ => rfl
  unfold State.ppsOutPulse
  cases hen : s.apB Fld.pllPpsCfg_EN j
  · simp [hrun]
  · simp only [hrun, Bool.not_true, Bool.or_self, Bool.false_eq_true, if_false, hsame]
    rfl

theorem State.ppsOutPulse_off (hen : s.apB Fld.pllPpsCfg_EN j = false) : s.ppsOutPulse j = s := by
  simp [State.ppsOutPulse, hen]

variable (hrun : s.ppsRun = true) (hen : s.apB Fld.pllPpsCfg_EN j = true)

include hrun hen

theorem State.ppsOutPulse_squelched (h : ((s.ppsOut j).squelched || s.squelchCond j) = true) :
    s.ppsOutPulse j = s.setPps j { s.ppsOut j with squelched := true } := by
  rw [s.ppsOutPulse_cases j hrun, if_neg (by simp [hen]), if_pos h]

variable (hsq : (s.ppsOut j).squelched = false) (hcond : s.squelchCond j = false)

include hsq hcond

theorem State.ppsOutPulse_standing (h : (s.ppsOut j).high = true) :
    s.ppsOutPulse j = (s.bump Fld.pllPpsLate_VAL j).setPps j { s.ppsOut j with due := true } := by
  rw [s.ppsOutPulse_cases j hrun, if_neg (by simp [hen]), if_neg (by simp [hsq, hcond]), if_pos h]

theorem State.ppsOutPulse_late (h : (s.ppsOut j).high = false) {e : Nat} (he : (s.ppsOut j).ended = some e) (hlate : s.clk.now < e + 10 ^ 6) :
    s.ppsOutPulse j = (s.bump Fld.pllPpsLate_VAL j).setPps j (s.pulse j ((s.tod : Int) + ((e + 10 ^ 6 - s.clk.now) * unitsPerPs : Nat))) := by
  rw [s.ppsOutPulse_cases j hrun, if_neg (by simp [hen]), if_neg (by simp [hsq, hcond]), if_neg (by simp [h]), he]
  exact if_pos hlate

theorem State.ppsOutPulse_due (h : (s.ppsOut j).high = false) (hend : ∀ e, (s.ppsOut j).ended = some e → e + 10 ^ 6 ≤ s.clk.now) :
    s.ppsOutPulse j = s.setPps j (s.pulse j (s.ppsDue j)) := by
  rw [s.ppsOutPulse_cases j hrun, if_neg (by simp [hen]), if_neg (by simp [hsq, hcond]), if_neg (by simp [h])]
  cases he : (s.ppsOut j).ended with
  | none => rfl
  | some e => exact if_neg (Nat.not_lt.mpr (hend e he))

end Pps

/-- No other PPS output changes with a pulse. -/
theorem State.ppsOutPulse_ne (s : State) {i j : Nat} (h : i ≠ j) : (s.ppsOutPulse j).ppsOut i = s.ppsOut i := by
  cases hrun : s.ppsRun
  · simp [State.ppsOutPulse, hrun]
  rw [s.ppsOutPulse_cases j hrun]
  split
  · rfl
  split
  · exact State.setPps_ppsOut_ne s h _
  split
  · exact State.setPps_ppsOut_ne (s.bump Fld.pllPpsLate_VAL j) h _
  split
  · split
    · exact State.setPps_ppsOut_ne (s.bump Fld.pllPpsLate_VAL j) h _
    · exact State.setPps_ppsOut_ne s h _
  · exact State.setPps_ppsOut_ne s h _

theorem State.ppsPulseEnd_eq {s : State} {j : Nat} (hrun : s.ppsRun = true) (h : (s.ppsOut j).high = true) :
    s.ppsPulseEnd j =
      let t := s.setPps j { s.ppsOut j with high := false, due := false, ended := some s.clk.now }
      if (s.ppsOut j).due then t.ppsRise j ((s.tod : Int) + (10 ^ 6 * unitsPerPs : Nat)) else t := by
  simp [State.ppsPulseEnd, hrun, h]

/-- What the end of a pulse leaves: one that became due meanwhile follows. -/
theorem State.ppsPulseEnd_gives {s : State} {j : Nat} (hrun : s.ppsRun = true) (h : (s.ppsOut j).high = true) :
    ((s.ppsOut j).due = false → (s.ppsPulseEnd j).ppsOut j = { s.ppsOut j with high := false, ended := some s.clk.now }) ∧
    ((s.ppsOut j).due = true → (s.ppsPulseEnd j).ppsOut j = { s.ppsOut j with
      high := true, due := false, ended := some s.clk.now, edge := (s.tod : Int) + (10 ^ 6 * unitsPerPs : Nat)
      widthUs := s.ppsWidth j }) ∧
    (∀ i, i ≠ j → (s.ppsPulseEnd j).ppsOut i = s.ppsOut i) := by
  rw [State.ppsPulseEnd_eq hrun h]
  extract_lets _ t
  have hself : t.ppsOut j = { s.ppsOut j with high := false, due := false, ended := some s.clk.now } := State.setPps_ppsOut_self _ _ _
  have hothers : ∀ i, i ≠ j → t.ppsOut i = s.ppsOut i := fun i hi => State.setPps_ppsOut_ne s hi _
  cases hdue : (s.ppsOut j).due
  · refine ⟨fun _ => hself.trans ?_, fun h => absurd h (by decide), hothers⟩
    rw [← hdue]
  · refine ⟨fun h => absurd h (by decide), fun _ => ?_, fun i hi => (State.setPps_ppsOut_ne t hi _).trans (hothers i hi)⟩
    refine (State.setPps_ppsOut_self t j _).trans ?_
    rw [hself]
    rfl

theorem State.ppsRun_up {s : State} (h : s.Up) : s.ppsRun = true := by
  have hup : s.pwr.inReset = false := h
  simp [State.ppsRun, hup]

/-- The bypass of PLL-A and PLL-B touches nothing but them. -/
theorem State.pllBypassEntry_touches_two (s : State) {x : Nat} (cause : Nat) (e : Int) (hx : x = 1 ∨ x = 2) :
    Touches (evtParts ++ [Part.pll, .rc .pllCnt]) s (s.pllBypassEntry x cause e) := by
  unfold State.pllBypassEntry
  dsimp only
  split
  · rw [State.pllBypass, if_neg (by omega), State.pllToBypass_eq, if_neg (by omega)]
    exact ((((State.setPll_touches s x _ rfl).step (State.bump_touches _ _ _ _ rfl)).step (State.bump_touches _ _ _ _ rfl)).step
      (State.goPll_touches _ _ _ rfl)).step (State.raise_touches _ _ _ _ _ rfl)
  · exact State.setPll_touches _ _ _ rfl
  · exact Touches.refl _ _

theorem State.refclkReturn_gives (s : State) :
    s.refclkReturn.pll.refclkOk = true ∧ ∀ x, x < 4 → s.refclkReturn.pllOf x = { s.pllOf x with bypOsc := false } := by
  have hnext : ∀ (u : State) (x : Nat), (u.setPll x { u.pllOf x with bypOsc := false }).pll.refclkOk = u.pll.refclkOk := fun _ _ => rfl
  unfold State.refclkReturn
  constructor
  · exact foldl_kept (g := fun s : State => s.pll.refclkOk) _ (fun u x _ => hnext u x) _
  · intro x hx
    obtain ⟨u, -, hu, hfold⟩ := foldl_once (f := fun (s : State) x => s.setPll x { s.pllOf x with bypOsc := false })
      (g := fun s : State => s.pllOf x) (I := fun _ => True) (fun _ _ _ => trivial)
      (fun s y hy => State.setPll_pllOf_ne s (Ne.symm hy) _) (List.range 4) List.nodup_range (List.mem_range.mpr hx)
      { s with pll := { s.pll with refclkOk := true } } trivial
    rw [hfold, State.setPll_pllOf_self, hu]
    rfl

section Return

variable {s : State} {d : CmdDesc} (hacc : s.Accepts d 0xBA04 { unitChecks d false .pll true [Rdy.pll] with
    badForm := d.badForm false || decide (d.handle ≠ 0) || !(d.zero 13 32), badArg := decide (3 < d.arg 12 1) })

include hacc

theorem State.pllReturnCmd_eq :
    s.pllReturnCmd d =
      if (s.pllOf (d.arg 12 1)).st = .bypass ∧ (s.pllOf (d.arg 12 1)).bg = .locked then
        ((s.startCmd d).pllReturn' (d.arg 12 1)).complete d 0xBA04 .ok
      else (s.startCmd d).complete d 0xBA04 .notReady := by
  have hstart := State.pllOf_of_pll (s.startCmd_pll d)
  unfold State.pllReturnCmd
  extract_lets x
  rw [State.runCmd_accepted_free hacc rfl]
  dsimp only
  rw [hstart]

end Return

/-- Settles O42: each event of a PLL leaves the other PLLs, and BYPASS of PLL-T takes the phase of every port. -/
theorem pllStatesAndPpsOutputs : Obligations.PllStatesAndPpsOutputs := by
  unfold Obligations.PllStatesAndPpsOutputs
  refine ⟨?acquired, ?lock, ?bypass, ?loss, ?back, ?return', ?refused, ?pulse, ?pulseEnd, ?keepTime⟩
  case acquired =>
    intro s x hup hx
    obtain ⟨hacq, hback, helse, hothers⟩ := s.pllFreqAcquired_gives x
    exact gives_effect rfl hup (decide_eq_true hx) ⟨hacq, hback, helse, hothers, (State.pllFreqAcquired_touches s x rfl).carry⟩
  case lock =>
    intro s x e hup hx
    obtain ⟨hphase, hback, hothers⟩ := s.pllLock_gives x e
    exact gives_effect rfl hup (decide_eq_true hx) ⟨hphase, hback, fun h => ⟨(hothers h).1, (hothers h).2.carry⟩,
      (State.pllLock_touches s x e rfl).carry⟩
  case bypass =>
    intro s x cause e hup hwf
    obtain ⟨hlock, hbyp, hothers⟩ := s.pllBypassEntry_gives x cause e
    have hframe : Touches (bypParts ++ [Part.eng, .rc .pllCnt]) s (s.pllBypassEntry x cause e) := State.pllBypassEntry_touches s x cause e rfl
    have hother : x = 1 ∨ x = 2 → Touches (evtParts ++ [Part.pll, .rc .pllCnt]) s (s.pllBypassEntry x cause e) := State.pllBypassEntry_touches_two s cause e
    exact gives_effect rfl hup hwf ⟨fun h => ⟨(hlock h).1.self, (hlock h).1.byp, (hlock h).1.unlock, (hlock h).2⟩, hbyp, hothers,
      fun h => (hother h).carry, hframe.carry⟩
  case loss =>
    intro s hup hok
    obtain ⟨hoff, hlock, hbyp, helse⟩ := State.refclkLoss_gives hok
    exact gives_effect rfl hup rfl ⟨hoff, hlock, hbyp, helse, (State.refclkLoss_touches s rfl).carry⟩
  case back =>
    intro s hup
    obtain ⟨hok, hall⟩ := s.refclkReturn_gives
    have hframe : Touches [.pll] s s.refclkReturn := State.refclkReturn_touches s rfl
    have hexec : exec .refclkReturn s = effect true s s.refclkReturn := rfl
    generalize s.refclkReturn = t at *
    exact gives_effect hexec hup rfl ⟨hok, hall, hframe.carry⟩
  case return' =>
    intro s x d hup hx hwf hbyp hbg
    obtain ⟨hself, hothers⟩ := s.pllReturn_gives x
    constructor
    · intro hauto hinput
      have hrun : s.pllAutoReturn x = s.pllReturn' x := by simp [State.pllAutoReturn, hbyp, hbg, hauto, hinput]
      exact gives_effect (congrArg (effect (pllNo x) s) hrun) hup (decide_eq_true hx) ⟨hself, hothers, (State.pllReturn'_touches s x rfl).carry⟩
    · rintro rfl hacc
      have hrun := State.pllReturnCmd_eq hacc
      rw [if_pos ⟨hbyp, hbg⟩] at hrun
      obtain ⟨hself, hothers⟩ := (s.startCmd d).pllReturn_gives (d.arg 12 1)
      have hpll := State.pllOf_of_pll ((congrArg State.pll hrun).trans (State.complete_pll _ _ _ _ _ _ _))
      have hstart := State.pllOf_of_pll (s.startCmd_pll d)
      have hcpl : Completed d 0xBA04 .ok 0 [] (s.pllReturnCmd d) := hrun ▸ State.complete_lastCpl _ _ _ _ _ _ _
      have hself' := (hpll _).trans hself
      have hothers' := fun y hy => (hpll y).trans ((hothers y hy).trans (hstart y))
      have hframe : Touches (bypParts ++ cplParts ++ [Part.free, .eng]) s (s.pllReturnCmd d) := State.pllReturnCmd_touches s d rfl
      have hexec : exec (.pllReturn d) s = effect d.wf s (s.pllReturnCmd d) := rfl
      generalize s.pllReturnCmd d = t at *
      exact gives_effect hexec hup hwf ⟨congrArg Pll.st hself', congrArg Pll.bg hself', congrArg Pll.aligned hself', hcpl, hothers',
        hframe.carry⟩
  case refused =>
    intro s d hup hwf hacc hnot
    have hrun := State.pllReturnCmd_eq hacc
    rw [if_neg hnot] at hrun
    have hframe : Touches cplParts s (s.pllReturnCmd d) := hrun ▸ State.startComplete_touches _ _ _ _ _ _ _ rfl
    exact gives_effect rfl hup hwf ⟨hrun ▸ State.complete_lastCpl _ _ _ _ _ _ _, hframe.carry⟩
  case pulse =>
    intro s j hup hj
    have hrun := State.ppsRun_up hup
    have hexec : exec (.ppsOutPulse j) s = effectInReset (ppsOut j) s (s.ppsOutPulse j) := rfl
    have hframe : Touches [.pll, .rc .pllPpsLate] s (s.ppsOutPulse j) := State.ppsOutPulse_touches s j rfl
    have hothers := fun i hi => s.ppsOutPulse_ne (i := i) (j := j) hi
    have hoff := State.ppsOutPulse_off (s := s) (j := j)
    have hsquelched := State.ppsOutPulse_squelched (s := s) (j := j) hrun
    have hstanding := State.ppsOutPulse_standing (s := s) (j := j) hrun
    have hlate := State.ppsOutPulse_late (s := s) (j := j) hrun
    have hdue := State.ppsOutPulse_due (s := s) (j := j) hrun
    generalize s.ppsOutPulse j = t at *
    refine gives_effectInReset hexec (decide_eq_true hj) ⟨?_, ?_, ?_, ?_, ?_, hothers, hframe.carry⟩
    · intro hen
      rw [hoff hen]
      rfl
    · intro hen hsq
      rw [hsquelched hen (by simpa using hsq)]
      exact State.setPps_ppsOut_self _ _ _
    · intro hen hcond hsq hhigh
      rw [hstanding hen hsq hcond hhigh]
      exact ⟨State.setPps_ppsOut_self _ _ _, State.count_bump s Fld.pllPpsLate_VAL j 1 (by decide)⟩
    · intro hen hcond hsq hhigh hend
      rw [hdue hen hsq hcond hhigh hend]
      exact ⟨State.setPps_ppsOut_self _ _ _, rfl⟩
    · intro e hen hcond hsq hhigh he hearly
      rw [hlate hen hsq hcond hhigh he hearly]
      exact ⟨State.setPps_ppsOut_self _ _ _, State.count_bump s Fld.pllPpsLate_VAL j 1 (by decide)⟩
  case pulseEnd =>
    intro s j hup hj hhigh
    obtain ⟨hlast, hnext, hothers⟩ := State.ppsPulseEnd_gives (State.ppsRun_up hup) hhigh
    exact gives_effectInReset rfl (decide_eq_true hj) ⟨hlast, hnext, hothers, (State.ppsPulseEnd_touches s j rfl).carry⟩
  case keepTime =>
    intro s j hj hreset hkeep hen hcond hsq hhigh hend
    have hrun : s.ppsRun = true := by simp [State.ppsRun, hkeep]
    have heq := State.ppsOutPulse_due hrun hen hsq hcond hhigh (fun e he => by rw [hend] at he; cases he)
    refine gives_effectInReset (congrArg (effectInReset (ppsOut j) s) heq) (decide_eq_true hj) ⟨State.setPps_ppsOut_self _ _ _, ?_⟩
    exact (State.setPps_touches s j _ rfl).carry

end Sys2Proof.Machine
end

section
/-! ## Tracking channels of the satellite baseband (R296, R298, R299) -/

set_option Elab.async false

namespace Sys2Proof.Machine

/-! ### Registers of IMM fields -/

/-- All fields of a register take effect at once. -/
def RegKey.immediate (k : RegKey) : Prop := ∀ f, f ∈ k.fields → f.apply = .imm

section Immediate

variable {s : State} {k : RegKey} (h : k.immediate) (hup : s.regDown k = false)
include h

theorem RegKey.immediate_mask : k.mask (fun f => decide (f.apply = .imm)) &&& k.storedMask = k.storedMask := by
  have hall : k.mask (fun f => decide (f.apply = .imm)) = k.mask (fun _ => true) := by
    refine List.foldl_ext _ _ _ fun m f hf => ?_
    simp [h f hf]
  rw [hall, BitVec.and_comm]
  exact k.mask_and_mask fun _ _ => rfl

include hup

theorem State.immediate_waitPoints (m : Word) : s.waitPoints k m = [] := by
  simp only [State.waitPoints, hup, Bool.false_or]
  rw [List.filter_eq_nil_iff.mpr]
  · rfl
  · intro p hp
    obtain ⟨f, hf, rfl⟩ := List.mem_map.mp hp
    simp [h f (List.mem_of_mem_filter hf)]

/-- A write of a register of IMM fields is stored at once. -/
theorem State.immediate_storeReg (v m : Word) : s.storeReg k v m = { s with regs := s.regsAfterWrite k v m } := by
  simp [State.storeReg, State.pendOverflow, State.immediate_waitPoints h hup]

end Immediate

/-- A field that a merge's mask covers is the new word's. -/
theorem fieldOf_merge {a v m : Word} {lo w : Nat} (hm : ∀ i, i < w → m.getLsbD (lo + i) = true) :
    fieldOf ((a &&& ~~~m) ||| (v &&& m)) lo w = fieldOf v lo w := by
  refine Nat.eq_of_testBit_eq fun i => ?_
  simp only [fieldOf, bitsOf, Nat.testBit_mod_two_pow, Nat.testBit_div_two_pow]
  by_cases hi : i < w
  · rw [Nat.add_comm i, ← BitVec.getLsbD, ← BitVec.getLsbD, BitVec.getLsbD_or, BitVec.getLsbD_and, BitVec.getLsbD_and, BitVec.getLsbD_not,
      hm i hi]
    simp
  · simp [hi]

/-! ### A channel in a new state -/

theorem State.setGnssCh_gnssCh_self (s : State) (c : Nat) (x : GnssCh) : (s.setGnssCh c x).gnssCh c = x := Tab.get_set_self _ _ _ _

theorem State.setGnssCh_gnssCh_ne (s : State) {k c : Nat} (h : k ≠ c) (x : GnssCh) : (s.setGnssCh c x).gnssCh k = s.gnssCh k :=
  Tab.get_set_ne _ _ _ _ _ h

/-- A channel as it enters a state. -/
def GnssCh.entered (x : GnssCh) (st : GnssChSt) : GnssCh :=
  if st = .track ∨ st = .data then { x with st := st } else { x with st := st, txValid := false, slip := false, meas := none, cn0 := 0 }

section Go

variable {s : State} {c : Nat} {st : GnssChSt}

theorem State.goGnssCh_stays (h : (s.gnssCh c).st = st) : s.goGnssCh c st = s := if_pos h

theorem State.goGnssCh_eq (h : (s.gnssCh c).st ≠ st) : s.goGnssCh c st =
    let t := (s.setGnssCh c ((s.gnssCh c).entered st)).raise Ev.gnssChState c st.code
    if st = .lost then t.bump Fld.gnssLossCnt_VAL else t := by
  unfold State.goGnssCh
  rw [if_neg h]
  cases st <;> rfl

theorem State.goGnssCh_self (h : (s.gnssCh c).st ≠ st) : (s.goGnssCh c st).gnssCh c = (s.gnssCh c).entered st := by
  rw [State.goGnssCh_eq h]
  have hset := s.setGnssCh_gnssCh_self c ((s.gnssCh c).entered st)
  dsimp only
  split <;> exact hset

theorem State.goGnssCh_ne {k : Nat} (hk : k ≠ c) : (s.goGnssCh c st).gnssCh k = s.gnssCh k := by
  by_cases h : (s.gnssCh c).st = st
  · rw [State.goGnssCh_stays h]
  · rw [State.goGnssCh_eq h]
    have hset := s.setGnssCh_gnssCh_ne hk ((s.gnssCh c).entered st)
    dsimp only
    split <;> exact hset

theorem State.goGnssCh_st : ((s.goGnssCh c st).gnssCh c).st = st := by
  by_cases h : (s.gnssCh c).st = st
  · rw [State.goGnssCh_stays h, h]
  · rw [State.goGnssCh_self h, GnssCh.entered]
    split <;> rfl

/-- Nothing but LOST is counted. -/
theorem State.goGnssCh_touches_quiet (h : st ≠ .lost) : Touches (evtParts ++ [Part.gnss]) s (s.goGnssCh c st) := by
  by_cases hst : (s.gnssCh c).st = st
  · rw [State.goGnssCh_stays hst]
    exact Touches.refl _ _
  · rw [State.goGnssCh_eq hst]
    simp only [h, if_false]
    exact (State.setGnssCh_touches s _ _ rfl).step (State.raise_touches _ _ _ _ _ rfl)

/-- What the loss of a channel leaves (R299). -/
theorem State.goGnssCh_lost (h : (s.gnssCh c).st ≠ .lost) :
    (s.goGnssCh c .lost).gnssCh c = { s.gnssCh c with st := .lost, txValid := false, slip := false, meas := none, cn0 := 0 } ∧
    (s.goGnssCh c .lost).count Fld.gnssLossCnt_VAL = s.counted Fld.gnssLossCnt_VAL ∧
    (∀ k, k ≠ c → (s.goGnssCh c .lost).gnssCh k = s.gnssCh k) ∧
    Touches (evtParts ++ [Part.gnss, .rc .gnssLossCnt]) s (s.goGnssCh c .lost) := by
  refine ⟨State.goGnssCh_self h, ?_, fun _ hk => State.goGnssCh_ne hk, State.goGnssCh_touches _ _ _ rfl⟩
  rw [State.goGnssCh_eq h]
  exact State.count_bumped (ps := evtParts ++ [.gnss]) ((State.setGnssCh_touches s _ _ rfl).step (State.raise_touches _ _ _ _ _ rfl))
    (Touches.refl [] _) rfl rfl (by decide)

/-- What an event on a channel leaves that first changes it and then leads it to TRACK or DATA. -/
theorem State.setGnssCh_go {x : GnssCh} (hst : st = .track ∨ st = .data) (hx : x.st ≠ st) :
    ((s.setGnssCh c x).goGnssCh c st).gnssCh c = { x with st := st } ∧
    (∀ k, k ≠ c → ((s.setGnssCh c x).goGnssCh c st).gnssCh k = s.gnssCh k) ∧
    Touches (evtParts ++ [Part.gnss]) s ((s.setGnssCh c x).goGnssCh c st) := by
  have hself := s.setGnssCh_gnssCh_self c x
  have hlost : st ≠ .lost := by rcases hst with rfl | rfl <;> decide
  refine ⟨?_, fun k hk => (State.goGnssCh_ne hk).trans (s.setGnssCh_gnssCh_ne hk x),
    (State.setGnssCh_touches s _ _ rfl).step (State.goGnssCh_touches_quiet hlost)⟩
  rw [State.goGnssCh_self (by rw [hself]; exact hx), hself, GnssCh.entered, if_pos hst]

end Go

theorem State.gnssSat_of_regs {s t : State} (h : t.regs = s.regs) (c : Nat) : t.gnssSat c = s.gnssSat c := by
  have hap := fun f => State.ap_of_regs h f c 0
  simp only [State.gnssSat, State.apB, hap, State.halted, h]
  rfl

theorem State.gnssSat_bounds {s : State} {c x y : Nat} (h : s.gnssSat c = some (y, x)) : 1 ≤ x ∧ x ≤ svMax y := by
  simp only [State.gnssSat, Option.ite_none_right_eq_some, Option.some.injEq, Prod.mk.injEq, Bool.and_eq_true, decide_eq_true_eq] at h
  obtain ⟨⟨⟨⟨-, hlow⟩, hhigh⟩, -⟩, rfl, rfl⟩ := h
  exact ⟨hlow, hhigh⟩

/-! ### Binding -/

section Bind

variable {s : State} {c : Nat}

theorem gnssChCfg_immediate (hk : (⟨.gnssChCfg, c, 0⟩ : RegKey).implemented = true) : (⟨.gnssChCfg, c, 0⟩ : RegKey).immediate := by
  have hfields : (⟨.gnssChCfg, c, 0⟩ : RegKey).fields = RegName.gnssChCfg.row.fields := by simp only [RegKey.fields, hk, if_true]
  rw [RegKey.immediate, hfields]
  decide

theorem gnssChCfg_storedMask (hk : (⟨.gnssChCfg, c, 0⟩ : RegKey).implemented = true) :
    (⟨.gnssChCfg, c, 0⟩ : RegKey).storedMask = 0xFFFF07FF := by
  simp only [RegKey.storedMask, RegKey.mask, RegKey.fields, hk, if_true]
  decide

/-- GNSS_CH_CFG with the bits of a write stored. -/
def State.chWritten (s : State) (c : Nat) (v : Word) : State := { s with regs := s.regsAfterWrite ⟨.gnssChCfg, c, 0⟩ v allBits }

variable (hw : s.Writable ⟨.gnssChCfg, c, 0⟩) (v : Word)
include hw

theorem State.storeReg_chWritten : s.storeReg ⟨.gnssChCfg, c, 0⟩ v allBits = s.chWritten c v := by
  obtain ⟨-, himplemented, hup, -⟩ := hw
  exact State.immediate_storeReg (gnssChCfg_immediate himplemented) hup v allBits

theorem State.chWritten_stored : Stored ⟨.gnssChCfg, c, 0⟩ allBits
    ((s.written ⟨.gnssChCfg, c, 0⟩ &&& ~~~ RegKey.storedMask ⟨.gnssChCfg, c, 0⟩) ||| (v &&& RegKey.storedMask ⟨.gnssChCfg, c, 0⟩)) s
    (s.chWritten c v) := by
  obtain ⟨-, -, hup, -⟩ := hw
  exact State.stored_regsAfterWrite hup (by rw [allBits_and])

theorem State.chWritten_stopped : (s.chWritten c v).regs.stopped = s.regs.stopped := by
  obtain ⟨-, -, -, hrun⟩ := hw
  refine List.filter_eq_self.mpr fun x hx => decide_eq_true fun hkey => ?_
  rw [List.contains_eq_mem, decide_eq_false_iff_not] at hrun
  exact hrun (hkey ▸ hx)

theorem State.chWritten_gnssOn : (s.chWritten c v).gnssOn = s.gnssOn := by
  simp only [State.gnssOn, State.halted, State.chWritten_stopped hw v]
  rfl

theorem State.chWritten_field (f : FieldRef) (hreg : f.reg = .gnssChCfg)
    (hf : ∀ i, i < f.width → (0xFFFF07FF : Word).getLsbD (f.lo + i) = true) : (s.chWritten c v).ap f c = fieldOf v f.lo f.width := by
  obtain ⟨-, hstored, -⟩ := State.chWritten_stored hw v
  obtain ⟨-, himplemented, -, -⟩ := hw
  rw [RegKey.immediate_mask (gnssChCfg_immediate himplemented), gnssChCfg_storedMask himplemented] at hstored
  have hblock : RegName.gnssChCfg.row.block = .gnss := rfl
  rw [State.ap, State.applied_eq_stored (by simp [hreg, hblock]) (by simp [hreg, hblock]) (by simp [hreg, hblock]), hreg, hstored,
    fieldOf_merge hf, fieldOf_merge hf]

/-- A satellite that the word names is the one that the channel is bound to. -/
theorem State.chWritten_gnssSat (hstopped : s.regs.stopped = []) (hen : fieldOf v 10 1 = 1)
    (hsv : 1 ≤ fieldOf v 0 8 ∧ fieldOf v 0 8 ≤ svMax (fieldOf v 8 1)) :
    (s.chWritten c v).gnssSat c = some (fieldOf v 8 1, fieldOf v 0 8) := by
  obtain ⟨hlow, hhigh⟩ := hsv
  have hfield : ∀ f : FieldRef, f.reg = .gnssChCfg → f.lo + f.width ≤ 11 → (s.chWritten c v).ap f c = fieldOf v f.lo f.width := by
    intro f hreg hf
    refine State.chWritten_field hw v f hreg fun i hi => ?_
    have hi : f.lo + i < 11 := by omega
    have hall : ∀ j, j < 11 → (0xFFFF07FF : Word).getLsbD j = true := by decide
    exact hall _ hi
  rw [State.gnssSat, State.apB, hfield Fld.gnssChCfg_EN rfl (by decide), hfield Fld.gnssChCfg_SVID rfl (by decide),
    hfield Fld.gnssChCfg_SYSTEM rfl (by decide)]
  simp [State.halted, State.chWritten_stopped hw v, hstopped, hen, hlow, hhigh]

/-- A binding that no other channel of the band holds is followed. -/
theorem State.gnssChBind_free {p : Path} (hp : ∀ e, p ≠ .eng e) (hfree : ∀ k, k ∈ bandChans (c / 32) → k ≠ c → s.gnssSat k = none) :
    s.gnssChWrite p c v allBits = (s.chWritten c v).gnssRebind s c := by
  have hstore := State.storeReg_chWritten hw v
  have hheld : ∀ x, s.gnssHeld (c / 32) x (some c) = false := by
    intro x
    refine List.any_eq_false.mpr fun k hk => ?_
    by_cases hkc : k = c
    · simp [hkc]
    · simp [hfree k hk hkc]
  unfold State.gnssChWrite
  rw [hstore]
  cases p with
  | eng e => exact absurd rfl (hp e)
  | _ => simp [hheld]

end Bind

/-- What the choice of a channel's satellite leaves (R298). -/
theorem State.gnssRebind_gives {s t : State} {c : Nat} (hon : t.gnssOn = true) (hgnss : t.gnss = s.gnss) :
    (t.gnssRebind s c).regs = t.regs ∧
    (t.gnssSat c = s.gnssSat c → (t.gnssRebind s c).gnssCh c = s.gnssCh c) ∧
    (t.gnssSat c ≠ s.gnssSat c → t.gnssSat c = none → ((t.gnssRebind s c).gnssCh c).st = .idle) ∧
    (t.gnssSat c ≠ s.gnssSat c → t.gnssSat c ≠ none → (t.gnssRebind s c).gnssCh c =
      { s.gnssCh c with st := .pullIn, txValid := false, slip := false, meas := none, cn0 := 0 }) ∧
    (∀ k, k ≠ c → (t.gnssRebind s c).gnssCh k = s.gnssCh k) ∧
    Touches (evtParts ++ [Part.gnss]) t (t.gnssRebind s c) := by
  have hch : ∀ k, t.gnssCh k = s.gnssCh k := fun k => congrArg (fun g : GnssState => Tab.get ({} : GnssCh) g.chans k) hgnss
  by_cases hsame : t.gnssSat c = s.gnssSat c
  · have hrun : t.gnssRebind s c = t := by simp [State.gnssRebind, hon, hsame]
    rw [hrun]
    exact ⟨rfl, fun _ => hch c, fun h => absurd hsame h, fun h => absurd hsame h, fun k _ => hch k, Touches.refl _ _⟩
  by_cases hnone : t.gnssSat c = none
  · have hrun : t.gnssRebind s c = t.goGnssCh c .idle := by
      simp only [State.gnssRebind, hon, hsame, Bool.not_true, Bool.false_eq_true, if_false]
      rw [if_pos (by simp [hnone])]
    rw [hrun]
    have hframe : Touches (evtParts ++ [Part.gnss]) t (t.goGnssCh c .idle) := State.goGnssCh_touches_quiet (by decide)
    exact ⟨hframe .regs rfl, fun h => absurd h hsame, fun _ _ => State.goGnssCh_st, fun _ h => absurd hnone h,
      fun k hk => (State.goGnssCh_ne hk).trans (hch k), hframe⟩
  · have hrun : t.gnssRebind s c =
        (t.setGnssCh c { t.gnssCh c with st := .idle, txValid := false, slip := false, meas := none, cn0 := 0 }).goGnssCh c .pullIn := by
      simp only [State.gnssRebind, hon, hsame, Bool.not_true, Bool.false_eq_true, if_false]
      rw [if_neg (by simpa using hnone)]
    rw [hrun]
    generalize hx : ({ t.gnssCh c with st := .idle, txValid := false, slip := false, meas := none, cn0 := 0 } : GnssCh) = x
    have hself := t.setGnssCh_gnssCh_self c x
    have hframe : Touches (evtParts ++ [Part.gnss]) t ((t.setGnssCh c x).goGnssCh c .pullIn) :=
      (State.setGnssCh_touches t _ _ rfl).step (State.goGnssCh_touches_quiet (by decide))
    refine ⟨hframe .regs rfl, fun h => absurd h hsame, fun _ h => absurd h hnone, fun _ _ => ?_,
      fun k hk => ((State.goGnssCh_ne hk).trans (t.setGnssCh_gnssCh_ne hk x)).trans (hch k), hframe⟩
    rw [State.goGnssCh_self (by rw [hself, ← hx]; exact GnssChSt.noConfusion), hself, ← hx, ← hch c]
    rfl

/-! ### The statement -/

theorem gnssChan_lt {c : Nat} (h : c < 64) : gnssChan c = true := by simpa [gnssChan] using h

/-- Settles O44: a channel's event leads it from one state to the next and leaves the other channels. -/
theorem satelliteChannels : Obligations.SatelliteChannels := by
  refine ⟨?pullIn, ?dataSync, ?loss, ?lost, ?bind, ?held, ?manual⟩
  case pullIn =>
    intro s c a hup hc hst
    constructor
    · intro hsig
      have hrun : s.gnssChLock c a = (s.setGnssCh c { s.gnssCh c with txValid := a }).goGnssCh c .track := if_pos ⟨hst, hsig⟩
      obtain ⟨hself, hothers, hframe⟩ := State.setGnssCh_go (s := s) (c := c) (x := { s.gnssCh c with txValid := a }) (st := .track) (.inl rfl)
        (by simp [hst])
      rw [← hrun] at hself hothers hframe
      exact gives_effect rfl hup (gnssChan_lt hc) ⟨hself, hothers, hframe.carry⟩
    · have hrun : s.gnssChPullinTimeout c = s.goGnssCh c .lost := if_pos hst
      obtain ⟨hself, hcount, hothers, hframe⟩ := State.goGnssCh_lost (s := s) (c := c) (by simp [hst])
      rw [← hrun] at hself hcount hothers hframe
      exact gives_effect rfl hup (gnssChan_lt hc) ⟨hself, hcount, hothers, hframe.carry⟩
  case dataSync =>
    intro s c hup hc hst
    have hrun : s.gnssChDataSync c = (s.setGnssCh c { s.gnssCh c with txValid := true }).goGnssCh c .data := if_pos hst
    obtain ⟨hself, hothers, hframe⟩ := State.setGnssCh_go (s := s) (c := c) (x := { s.gnssCh c with txValid := true }) (st := .data) (.inr rfl)
      (by simp [hst])
    rw [← hrun] at hself hothers hframe
    exact gives_effect rfl hup (gnssChan_lt hc) ⟨hself, hothers, hframe.carry⟩
  case loss =>
    intro s c hup hc htrack
    have hrun : s.gnssChLoss c = s.goGnssCh c .lost := if_pos htrack
    obtain ⟨hself, hcount, hothers, hframe⟩ := State.goGnssCh_lost (s := s) (c := c) (fun h => by simp [GnssCh.tracking, h] at htrack)
    rw [← hrun] at hself hcount hothers hframe
    exact gives_effect rfl hup (gnssChan_lt hc) ⟨hself, hcount, hothers, hframe.carry⟩
  case lost =>
    intro s c hup hc hst
    constructor
    · cases hman : s.apB Fld.gnssChCfg_MANUAL c
      · have hrun : s.gnssChRelease c = (s.putBoth Fld.gnssChCfg_EN 0 c).goGnssCh c .idle := by
          rw [State.gnssChRelease, if_neg (by simp [hst, hman])]
        have hgo : Touches (evtParts ++ [Part.gnss]) (s.putBoth Fld.gnssChCfg_EN 0 c) (s.gnssChRelease c) :=
          hrun ▸ State.goGnssCh_touches_quiet (by decide)
        have hregs : (s.gnssChRelease c).regs = (s.putBoth Fld.gnssChCfg_EN 0 c).regs := hgo .regs rfl
        have hen : (s.gnssChRelease c).ap Fld.gnssChCfg_EN c = 0 :=
          (State.ap_of_regs hregs _ _ _).trans (State.ap_putBoth s _ 0 c 0 (by decide) (by decide) (by decide) (by decide))
        refine gives_effect rfl hup (gnssChan_lt hc) ⟨fun _ => ⟨?_, ?_⟩, fun h => absurd h (by simp), ?_,
          (State.putBoth_others s _ 0 c 0 (by decide)).of_regs hregs,
          ((State.putBoth_touches (ps := evtParts ++ [.regs, .gnss]) s _ _ _ _ rfl).step (hgo.mono rfl)).carry⟩
        · exact (congrArg (fun t : State => (t.gnssCh c).st) hrun).trans State.goGnssCh_st
        · exact decide_eq_false (fun h => Nat.zero_ne_one (hen.symm.trans h))
        · intro k hk
          exact (congrArg (fun t : State => t.gnssCh k) hrun).trans (State.goGnssCh_ne hk)
      · have hrun : s.gnssChRelease c = s := if_pos (.inr hman)
        refine gives_effect (congrArg (effect _ s) hrun) hup (gnssChan_lt hc) ⟨fun h => absurd h (by simp), fun _ => ⟨rfl, rfl⟩, fun _ _ => rfl,
          fun _ _ => ⟨rfl, rfl⟩, (Touches.refl _ _).carry⟩
    · intro hsig
      have hrun : s.gnssChRegain c = s.goGnssCh c .pullIn := if_pos ⟨hst, hsig⟩
      refine gives_effect (congrArg (effect _ s) hrun) hup (gnssChan_lt hc) ⟨State.goGnssCh_st, fun k hk => State.goGnssCh_ne hk,
        (State.goGnssCh_touches_quiet (by decide)).carry⟩
  case bind =>
    intro s c v hup hc hw hon hfree
    have hrun := State.gnssChBind_free hw v (p := .pcie) (by simp) hfree
    obtain ⟨hwritten, -, -, hothers, hstore⟩ := State.chWritten_stored hw v
    have hon' : (s.chWritten c v).gnssOn = true := (State.chWritten_gnssOn hw v).trans hon
    obtain ⟨hregs, hsame, hidle, hpull, hrest, hframe⟩ := State.gnssRebind_gives (c := c) hon' (hstore .gnss rfl)
    rw [← hrun] at hregs hsame hidle hpull hrest hframe
    have hsat := State.gnssSat_of_regs hregs c
    rw [← hsat] at hsame hidle hpull
    have hall : Touches (evtParts ++ [Part.regs, .gnss]) s (s.gnssChWrite .pcie c v allBits) := (hstore.mono rfl).step (hframe.mono rfl)
    have hset : s.regSet .pcie ⟨.gnssChCfg, c, 0⟩ v allBits = s.gnssChWrite .pcie c v allBits :=
      State.regSet_owned rfl hw rfl (hall.regDown rfl rfl rfl)
    refine gives_effect (congrArg (effect _ s) hset) hup (by simp [Path.wf, gnssChan_lt hc]) ⟨?_, hothers.of_regs hregs, hsame, hidle, hpull,
      hrest, hall.carry⟩
    refine Eq.trans ?_ hwritten
    exact State.written_of_regs hregs _
  case held =>
    intro s c k v hup hc hk hkc hw hsat hstopped hen
    have hstore := State.storeReg_chWritten hw v
    have hdup : ((s.chWritten c v).gnssSat c).any (fun x => s.gnssHeld (c / 32) x (some c)) = true := by
      rw [State.chWritten_gnssSat hw v hstopped hen (State.gnssSat_bounds hsat)]
      exact List.any_eq_true.mpr ⟨k, hk, by simp [hkc, hsat]⟩
    have hwrite : s.gnssChWrite .pcie c v allBits = s.raise Ev.gnssCfgBad := by
      simp [State.gnssChWrite, hstore, hdup]
    have hframe : Touches evtParts s (s.raise Ev.gnssCfgBad) := State.raise_touches _ _ _ _ _ rfl
    have hset : s.regSet .pcie ⟨.gnssChCfg, c, 0⟩ v allBits = s.raise Ev.gnssCfgBad :=
      State.regSet_owned rfl hw (congrArg some hwrite) (hframe.regDown rfl rfl rfl)
    exact gives_effect (congrArg (effect _ s) hset) hup (by simp [Path.wf, gnssChan_lt hc]) ⟨rfl, hframe .gnss rfl, hframe .regs rfl, hframe.carry⟩
  case manual =>
    intro s e c v hup hwf hw hman
    have hwrite : s.gnssChWrite (.eng e) c v allBits = s := by simp [State.gnssChWrite, hman]
    have hset : s.regSet (.eng e) ⟨.gnssChCfg, c, 0⟩ v allBits = s := by
      have hown : s.regOwn (.eng e) ⟨.gnssChCfg, c, 0⟩ v allBits = some s := congrArg some hwrite
      exact State.regSet_owned rfl hw hown (fun _ => rfl)
    exact gives_effect (congrArg (effect _ s) hset) hup hwf (Touches.refl [] s).carry

end Sys2Proof.Machine
end

section
/-! ## What waits after an apply point (R32) -/

set_option Elab.async false

namespace Sys2Proof.Machine

theorem mem_dropPoint {l : List Pend} {p : ApplyPoint} {sel : RegKey → Bool} {y : Pend} :
    y ∈ dropPoint l p sel ↔ y.points ≠ [] ∧ ∃ x, x ∈ l ∧
      (if x.waits p && sel x.key then { x with points := x.points.filter (fun q => decide (q ≠ p)) } else x) = y := by
  simp only [dropPoint, List.mem_filter, List.mem_map, decide_eq_true_eq, and_comm]

theorem State.mem_waitingAt {s : State} {p : ApplyPoint} {sel : RegKey → Bool} {k : RegKey} :
    k ∈ s.waitingAt p sel ↔ sel k = true ∧ ∃ x, x ∈ s.regs.pend ∧ x.waits p = true ∧ x.key = k := by
  simp only [State.waitingAt, List.mem_map, List.mem_filter, Bool.and_eq_true]
  constructor
  · rintro ⟨x, ⟨hx, hw, hsel⟩, rfl⟩
    exact ⟨hsel, x, hx, hw, rfl⟩
  · rintro ⟨hsel, x, hx, hw, rfl⟩
    exact ⟨x, ⟨hx, hw, hsel⟩, rfl⟩

/-- The points that an entry of the pending store still waits for when `p` has been taken for the selected words. -/
theorem Pend.waits_dropped {x : Pend} {p q : ApplyPoint} {sel : RegKey → Bool} :
    (if x.waits p && sel x.key then { x with points := x.points.filter (fun q => decide (q ≠ p)) } else x : Pend).waits q = true ↔
      x.waits q = true ∧ (q = p → sel x.key = false) := by
  by_cases h : (x.waits p && sel x.key) = true
  · obtain ⟨-, hsel⟩ := Bool.and_eq_true_iff.mp h
    rw [if_pos h]
    simp [Pend.waits, hsel, and_assoc]
  · rw [if_neg h]
    refine (and_iff_left_of_imp fun hw hqp => ?_).symm
    subst hqp
    simpa [hw] using h

theorem Pend.points_ne_nil {x : Pend} {p : ApplyPoint} (h : x.waits p = true) : x.points ≠ [] := fun hnil => by
  simp [Pend.waits, hnil] at h

/-- What waits in a pending store from which a point has been dropped. -/
theorem State.mem_waitingAt_dropped {s t : State} {p q : ApplyPoint} {sel sel' : RegKey → Bool} {k : RegKey}
    (h : t.regs.pend = dropPoint s.regs.pend p sel) :
    k ∈ t.waitingAt q sel' ↔ k ∈ s.waitingAt q sel' ∧ (q = p → sel k = false) := by
  simp only [State.mem_waitingAt, h, mem_dropPoint]
  constructor
  · rintro ⟨hsel, y, ⟨-, x, hx, rfl⟩, hw, hkey⟩
    obtain ⟨hw, hdrop⟩ := Pend.waits_dropped.mp hw
    have hxk : x.key = k := hkey ▸ by split <;> rfl
    exact ⟨⟨hsel, x, hx, hw, hxk⟩, fun hq => hxk ▸ hdrop hq⟩
  · rintro ⟨⟨hsel, x, hx, hw, rfl⟩, hdrop⟩
    have hy := Pend.waits_dropped (sel := sel) (p := p) |>.mpr ⟨hw, hdrop⟩
    exact ⟨hsel, _, ⟨Pend.points_ne_nil hy, x, hx, rfl⟩, hy, by split <;> rfl⟩

theorem State.applyAt_pend (s : State) (p : ApplyPoint) (sel : RegKey → Bool) : (s.applyAt p sel).regs.pend = dropPoint s.regs.pend p sel := rfl

/-- A point that is taken leaves no selected word to wait for it. -/
theorem State.waitingAt_dropped {s t : State} {p : ApplyPoint} {sel : RegKey → Bool} (h : t.regs.pend = dropPoint s.regs.pend p sel) :
    t.waitingAt p sel = [] := by
  refine List.eq_nil_iff_forall_not_mem.mpr fun k hk => ?_
  obtain ⟨hk, hdrop⟩ := (State.mem_waitingAt_dropped h).mp hk
  obtain ⟨hsel, -⟩ := State.mem_waitingAt.mp hk
  simp [hdrop rfl] at hsel

theorem State.calBoundary_pend (s : State) (a i : Nat) : (s.calBoundary a i).regs.pend = s.regs.pend := by
  unfold State.calBoundary
  split
  · rfl
  · unfold State.calApply
    dsimp only
    split
    · rfl
    · split <;> rfl

end Sys2Proof.Machine
end

section
/-! ## Sample checks, epochs and bursts of the satellite baseband (R31, R292, R300, R301, R308) -/

set_option Elab.async false

namespace Sys2Proof.Machine

/-! ### Channels that are lost together -/

/-- From `s` to `t` nothing of the baseband has changed but its channels. -/
def ChansOnly (s t : State) : Prop := t.gnss = { s.gnss with chans := t.gnss.chans }

theorem ChansOnly.refl (s : State) : ChansOnly s s := rfl

theorem ChansOnly.trans {s t u : State} (h : ChansOnly s t) (g : ChansOnly t u) : ChansOnly s u := by
  unfold ChansOnly at *
  rw [g, h]

theorem ChansOnly.foldl {α : Type} {f : State → α → State} (hf : ∀ s x, ChansOnly s (f s x)) (l : List α) (s : State) :
    ChansOnly s (l.foldl f s) := by
  induction l generalizing s with
  | nil => exact ChansOnly.refl s
  | cons x l ih => exact (hf s x).trans (ih _)

section Lose

variable {s : State} {c k : Nat}

theorem State.gnssLose_chansOnly (s : State) (c : Nat) : ChansOnly s (s.gnssLose c) := by
  by_cases h : (s.gnssCh c).st = .idle
  · rw [State.gnssLose, if_pos h]
    exact ChansOnly.refl s
  rw [State.gnssLose, if_neg h]
  by_cases hlost : (s.gnssCh c).st = .lost
  · rw [State.goGnssCh_stays hlost]
    exact ChansOnly.refl s
  · rw [State.goGnssCh_eq hlost]
    rfl

theorem State.gnssLose_idle (h : (s.gnssCh c).st = .idle) : s.gnssLose c = s := if_pos h

theorem State.gnssLose_st (h : (s.gnssCh c).st ≠ .idle) : ((s.gnssLose c).gnssCh c).st = .lost := by
  rw [State.gnssLose, if_neg h]
  exact State.goGnssCh_st

theorem State.gnssLose_ne (h : k ≠ c) : (s.gnssLose c).gnssCh k = s.gnssCh k := by
  unfold State.gnssLose
  split
  · rfl
  · exact State.goGnssCh_ne h

/-- A loss of many channels decides one among them as its own loss does. -/
theorem State.chansLose_self {l : List Nat} (hl : l.Nodup) (hc : c ∈ l) :
    ((s.gnssCh c).st ≠ .idle → ((l.foldl (fun s c => s.gnssLose c) s).gnssCh c).st = .lost) ∧
    ((s.gnssCh c).st = .idle → (l.foldl (fun s c => s.gnssLose c) s).gnssCh c = s.gnssCh c) := by
  obtain ⟨u, -, hu, hfold⟩ := foldl_once (f := fun (s : State) c => s.gnssLose c) (g := fun s : State => s.gnssCh c) (I := fun _ => True)
    (fun _ _ _ => trivial) (fun s x hx => State.gnssLose_ne (Ne.symm hx)) l hl hc s trivial
  refine ⟨fun h => ?_, fun h => ?_⟩
  · rw [hfold]
    exact State.gnssLose_st (hu ▸ h)
  · rw [hfold, State.gnssLose_idle (hu ▸ h), hu]

theorem State.chansLose_ne {l : List Nat} (hc : c ∉ l) : (l.foldl (fun s c => s.gnssLose c) s).gnssCh c = s.gnssCh c :=
  foldl_kept (g := fun s : State => s.gnssCh c) l (fun _ _ hx => State.gnssLose_ne (fun h => hc (h ▸ hx))) s

theorem State.chansLose_chansOnly (s : State) (l : List Nat) : ChansOnly s (l.foldl (fun s c => s.gnssLose c) s) :=
  ChansOnly.foldl State.gnssLose_chansOnly l s

end Lose

theorem State.gnssCh_of_chans {s t : State} (h : t.gnss.chans = s.gnss.chans) (c : Nat) : t.gnssCh c = s.gnssCh c := by
  rw [State.gnssCh, h]
  rfl

/-! ### The sample clock -/

/-- GNSS with a solution that is no longer valid. -/
def State.invalidGnss (s : State) : GnssState :=
  { s.gnss with valid := false, validRun := 0, invalidAt := if s.gnss.valid then s.clk.now else s.gnss.invalidAt
                survey := { s.gnss.survey with pauseAt := some (s.gnss.survey.pauseAt.getD s.clk.now) } }

theorem State.gnssInvalid_gnss (s : State) : s.gnssInvalid.gnss = s.invalidGnss := by
  unfold State.gnssInvalid
  extract_lets g _ s1
  have hraise : (s1.raiseIf g.valid Ev.gnssSolution 0 g.used).gnss = s1.gnss :=
    State.raiseIf_touches (ps := Part.others .gnss) _ _ _ _ _ _ rfl .gnss rfl
  exact (State.candFail_gnss _ _ _).trans hraise

/-- The part with the sample clock out of limits, before its channels are lost. -/
def State.clockLost (s : State) (ppm : Int) : State :=
  ({ s with gnss := { s.gnss with clkOk := false, clkPpm := ppm } } : State).raiseIf s.gnss.clkOk Ev.gnssNoclk

theorem State.clockLost_gnss (s : State) (ppm : Int) : (s.clockLost ppm).gnss = { s.gnss with clkOk := false, clkPpm := ppm } :=
  State.raiseIf_touches (ps := Part.others .gnss) _ _ _ _ _ _ rfl .gnss rfl

theorem State.gnssClockFault_eq {s : State} (hon : s.gnssOn = true) (ppm : Int) :
    s.gnssClockFault ppm = ((List.range 64).foldl (fun s c => s.gnssLose c) (s.clockLost ppm)).gnssInvalid := by
  simp only [State.gnssClockFault, hon, Bool.not_true, Bool.false_eq_true, if_false]
  rfl

theorem State.gnssClockFault_gives {s : State} (hon : s.gnssOn = true) (ppm : Int) :
    (s.gnssClockFault ppm).gnss.clkOk = false ∧ (s.gnssClockFault ppm).gnss.clkPpm = ppm ∧ (s.gnssClockFault ppm).gnss.valid = false ∧
    (∀ c, c < 64 → (s.gnssCh c).st ≠ .idle → ((s.gnssClockFault ppm).gnssCh c).st = .lost) ∧
    (∀ c, (s.gnssCh c).st = .idle → (s.gnssClockFault ppm).gnssCh c = s.gnssCh c) := by
  rw [State.gnssClockFault_eq hon]
  have hchans : ∀ c, (s.clockLost ppm).gnssCh c = s.gnssCh c := fun c =>
    State.gnssCh_of_chans (by rw [State.clockLost_gnss]) c
  have hlost := State.clockLost_gnss s ppm
  generalize s.clockLost ppm = u at *
  have honly := State.chansLose_chansOnly u (List.range 64)
  have hself : ∀ c, c < 64 → _ := fun c hc => State.chansLose_self (s := u) List.nodup_range (List.mem_range.mpr hc)
  have hne : ∀ c, ¬ c < 64 → _ := fun c hc => State.chansLose_ne (s := u) (fun h => hc (List.mem_range.mp h))
  generalize (List.range 64).foldl (fun s c => s.gnssLose c) u = t at *
  have hgnss := t.gnssInvalid_gnss
  have hch : ∀ c, t.gnssInvalid.gnssCh c = t.gnssCh c := fun c => State.gnssCh_of_chans (by rw [hgnss]; rfl) c
  have hclk : t.gnss.clkOk = false ∧ t.gnss.clkPpm = ppm := by
    rw [honly, hlost]
    exact ⟨rfl, rfl⟩
  refine ⟨?_, ?_, ?_, fun c hc h => ?_, fun c h => ?_⟩
  · rw [hgnss]
    exact hclk.1
  · rw [hgnss]
    exact hclk.2
  · rw [hgnss]
    rfl
  · rw [hch]
    exact (hself c hc).1 (by rwa [hchans])
  · rw [hch, ← hchans]
    by_cases hc : c < 64
    · exact (hself c hc).2 (by rwa [hchans])
    · exact hne c hc

/-! ### The samples of a second -/

theorem mem_bandChans {b c : Nat} : c ∈ bandChans b ↔ 32 * b ≤ c ∧ c < 32 * b + 32 := by
  simp only [bandChans, List.mem_map, List.mem_range]
  constructor
  · rintro ⟨k, hk, rfl⟩
    omega
  · intro h
    exact ⟨c - 32 * b, by omega, by omega⟩

theorem nodup_bandChans (b : Nat) : (bandChans b).Nodup := List.nodup_range.map fun x y h => by simpa using h

/-- What a band's faulty second leaves. -/
theorem State.gnssBandFault_gives (s : State) (b : Nat) (fault was : Bool) :
    ChansOnly s (s.gnssBandFault b fault was) ∧
    (s.gnssBandFault b fault was).count Fld.gnssSampleErr_VAL = s.counted Fld.gnssSampleErr_VAL 0 (b2n fault) ∧
    (∀ c, c ∈ bandChans b → fault = true → (s.gnssCh c).st ≠ .idle → ((s.gnssBandFault b fault was).gnssCh c).st = .lost) ∧
    (∀ c, c ∉ bandChans b ∨ fault = false → (s.gnssBandFault b fault was).gnssCh c = s.gnssCh c) := by
  cases fault with
  | false =>
    refine ⟨ChansOnly.refl s, ?_, fun _ _ h => (by cases h), fun _ _ => rfl⟩
    have hlt : s.count Fld.gnssSampleErr_VAL < 2 ^ Fld.gnssSampleErr_VAL.width := Nat.mod_lt _ (by decide)
    exact (Nat.min_eq_left (Nat.le_pred_of_lt hlt)).symm
  | true =>
    have hrun : s.gnssBandFault b true was =
      (bandChans b).foldl (fun s c => s.gnssLose c) ((s.bump Fld.gnssSampleErr_VAL).raiseIf (!was) Ev.gnssSampleFault b) := rfl
    have hraise : Touches evtParts (s.bump Fld.gnssSampleErr_VAL) ((s.bump Fld.gnssSampleErr_VAL).raiseIf (!was) Ev.gnssSampleFault b) :=
      State.raiseIf_touches _ _ _ _ _ _ rfl
    rw [hrun]
    generalize (s.bump Fld.gnssSampleErr_VAL).raiseIf (!was) Ev.gnssSampleFault b = u at *
    have hu : u.gnss = s.gnss := hraise .gnss rfl
    have hch : ∀ c, u.gnssCh c = s.gnssCh c := State.gnssCh_of_chans (congrArg GnssState.chans hu)
    have hlose : Touches (evtParts ++ [Part.gnss, .rc .gnssLossCnt]) u ((bandChans b).foldl (fun s c => s.gnssLose c) u) :=
      Touches.foldl (fun t c => State.gnssLose_touches t c rfl) _ (Touches.refl _ _)
    refine ⟨?_, ?_, fun c hc _ h => ?_, fun c hc => ?_⟩
    · have honly := State.chansLose_chansOnly u (bandChans b)
      unfold ChansOnly at honly ⊢
      rw [honly, hu]
    · exact State.count_bumped (Touches.refl [] s) ((hraise.mono rfl).step hlose) rfl rfl (by decide)
    · exact (State.chansLose_self (nodup_bandChans b) hc).1 (by rwa [hch])
    · exact (State.chansLose_ne (hc.resolve_right (by decide))).trans (hch c)

theorem satAdd_satAdd (w a x y : Nat) : satAdd w (satAdd w a x) y = satAdd w a (x + y) := by
  unfold satAdd
  omega

/-- The part with the measures of a second's samples. -/
def State.measured (s : State) (m1 m5 : Nat) (f1 f5 : Bool) : State :=
  { s with gnss := { s.gnss with mag1 := m1, mag5 := m5, fault1 := f1, fault5 := f5 } }

theorem State.gnssSampleCheck_eq {s : State} (hon : s.gnssOn = true) (hpad : s.padIn 12 = true) {l1 l5 : List Nat} {k1 k5 : Bool} {m1 m5 : Nat}
    (h1 : m1 = sampleMag (s.ap Fld.gnssFeCfg_L1_FMT) l1) (h5 : m5 = sampleMag (s.ap Fld.gnssFeCfg_L5_FMT) l5) :
    s.gnssSampleCheck l1 l5 k1 k5 = ((s.measured m1 m5 (bandFaulty m1 k1) (bandFaulty m5 k5)).gnssBandFault 0 (bandFaulty m1 k1)
      s.gnss.fault1).gnssBandFault 1 (bandFaulty m5 k5) s.gnss.fault5 := by
  subst h1 h5
  simp only [State.gnssSampleCheck, hon, hpad, Bool.not_true, Bool.or_self, Bool.false_eq_true, if_false]
  rfl

theorem State.gnssSampleCheck_gives (s : State) (m1 m5 : Nat) (f1 f5 w1 w5 : Bool) {t : State}
    (ht : t = ((s.measured m1 m5 f1 f5).gnssBandFault 0 f1 w1).gnssBandFault 1 f5 w5) :
    t.gnss.mag1 = m1 ∧ t.gnss.mag5 = m5 ∧ t.gnss.fault1 = f1 ∧ t.gnss.fault5 = f5 ∧
    t.count Fld.gnssSampleErr_VAL = s.counted Fld.gnssSampleErr_VAL 0 (b2n f1 + b2n f5) ∧
    (∀ c, c < 32 → f1 = true → (s.gnssCh c).st ≠ .idle → (t.gnssCh c).st = .lost) ∧
    (∀ c, 32 ≤ c → c < 64 → f5 = true → (s.gnssCh c).st ≠ .idle → (t.gnssCh c).st = .lost) ∧
    (∀ c, c < 32 → f1 = false → t.gnssCh c = s.gnssCh c) ∧ (∀ c, 32 ≤ c → f5 = false → t.gnssCh c = s.gnssCh c) := by
  have hfirst := (s.measured m1 m5 f1 f5).gnssBandFault_gives 0 f1 w1
  have hstart : (s.measured m1 m5 f1 f5).gnss = { s.gnss with mag1 := m1, mag5 := m5, fault1 := f1, fault5 := f5 } := rfl
  have hch : ∀ c, (s.measured m1 m5 f1 f5).gnssCh c = s.gnssCh c := fun _ => rfl
  have hcount : (s.measured m1 m5 f1 f5).count Fld.gnssSampleErr_VAL = s.count Fld.gnssSampleErr_VAL := rfl
  generalize s.measured m1 m5 f1 f5 = v at *
  have hsecond := (v.gnssBandFault 0 f1 w1).gnssBandFault_gives 1 f5 w5
  rw [← ht] at hsecond
  generalize v.gnssBandFault 0 f1 w1 = u at *
  obtain ⟨honly1, hcount1, hlost1, hkept1⟩ := hfirst
  obtain ⟨honly5, hcount5, hlost5, hkept5⟩ := hsecond
  have hgnss : t.gnss = { s.gnss with mag1 := m1, mag5 := m5, fault1 := f1, fault5 := f5, chans := t.gnss.chans } := by
    rw [honly1.trans honly5, hstart]
  have hlow : ∀ c, c < 32 → c ∈ bandChans 0 ∧ c ∉ bandChans 1 := fun c hc => by simp only [mem_bandChans]; omega
  have hhigh : ∀ c, 32 ≤ c → c ∉ bandChans 0 := fun c hc => by simp only [mem_bandChans]; omega
  refine ⟨by rw [hgnss], by rw [hgnss], by rw [hgnss], by rw [hgnss], ?_, ?_, ?_, ?_, ?_⟩
  · rw [hcount5, State.counted, hcount1, State.counted, hcount, satAdd_satAdd]
    rfl
  · intro c hc hf hst
    obtain ⟨hin, hout⟩ := hlow c hc
    rw [hkept5 c (.inl hout)]
    exact hlost1 c hin hf (by rwa [hch])
  · intro c hc hc64 hf hst
    refine hlost5 c (mem_bandChans.mpr (by omega)) hf ?_
    rwa [hkept1 c (.inl (hhigh c hc)), hch]
  · intro c hc hf
    rw [hkept5 c (.inl (hlow c hc).2), hkept1 c (.inr hf), hch]
  · intro c hc hf
    rw [hkept5 c (.inr hf), hkept1 c (.inl (hhigh c hc)), hch]

/-! ### Epochs -/

/-- The measurement of a channel that tracks is forgotten, before the epoch's are latched. -/
def State.measForgotten (s : State) (c : Nat) : State :=
  if (s.gnssCh c).tracking then s.setGnssCh c { s.gnssCh c with meas := none } else s

section Epoch

variable {s : State} {c k : Nat}

theorem State.measForgotten_ne (h : k ≠ c) : (s.measForgotten c).gnssCh k = s.gnssCh k := by
  unfold State.measForgotten
  split
  · exact State.setGnssCh_gnssCh_ne s h _
  · rfl

theorem State.measForgotten_self :
    (s.measForgotten c).gnssCh c = if (s.gnssCh c).tracking then { s.gnssCh c with meas := none } else s.gnssCh c := by
  unfold State.measForgotten
  split
  · exact State.setGnssCh_gnssCh_self s _ _
  · rfl

theorem State.measForgotten_chansOnly (s : State) (c : Nat) : ChansOnly s (s.measForgotten c) := by
  unfold State.measForgotten
  split <;> rfl

theorem State.measForgotten_touches (s : State) (c : Nat) : Touches [.gnss] s (s.measForgotten c) := by
  unfold State.measForgotten
  exact Touches.ite (State.setGnssCh_touches s _ _ rfl) (Touches.refl _ _)

/-- The channels before the measurements of an epoch. -/
def State.allForgotten (s : State) : State := (List.range 64).foldl State.measForgotten s

theorem State.allForgotten_gives (s : State) :
    (∀ c, c < 64 → (s.gnssCh c).tracking = true → s.allForgotten.gnssCh c = { s.gnssCh c with meas := none }) ∧
    (∀ c, (s.gnssCh c).tracking = false → s.allForgotten.gnssCh c = s.gnssCh c) ∧
    (∀ c, ¬ c < 64 → s.allForgotten.gnssCh c = s.gnssCh c) ∧ ChansOnly s s.allForgotten ∧ Touches [.gnss] s s.allForgotten := by
  have hone : ∀ c, c < 64 → s.allForgotten.gnssCh c = if (s.gnssCh c).tracking then { s.gnssCh c with meas := none } else s.gnssCh c := by
    intro c hc
    obtain ⟨u, -, hu, hfold⟩ := foldl_once (f := State.measForgotten) (g := fun s : State => s.gnssCh c) (I := fun _ => True)
      (fun _ _ _ => trivial) (fun s x hx => State.measForgotten_ne (Ne.symm hx)) (List.range 64) List.nodup_range (List.mem_range.mpr hc) s trivial
    rw [State.allForgotten, hfold, State.measForgotten_self, hu]
  have hout : ∀ c, ¬ c < 64 → s.allForgotten.gnssCh c = s.gnssCh c := fun c hc =>
    foldl_kept (g := fun s : State => s.gnssCh c) _ (fun _ x hx => State.measForgotten_ne fun h => hc (h ▸ List.mem_range.mp hx)) s
  refine ⟨fun c hc h => ?_, fun c h => ?_, hout, ChansOnly.foldl State.measForgotten_chansOnly _ s,
    Touches.foldl State.measForgotten_touches _ (Touches.refl _ _)⟩
  · rw [hone c hc, if_pos h]
  · by_cases hc : c < 64
    · rw [hone c hc, if_neg (by simp [h])]
    · exact hout c hc

theorem GnssCh.tracking_of_st {x y : GnssCh} (h : x.st = y.st) : x.tracking = y.tracking := by simp only [GnssCh.tracking, h]

/-- Word 0 of an epoch record says the channel's state, its satellite and the channels that track. -/
theorem State.gnssWord0_congr {s t : State} {c : Nat} (hregs : t.regs = s.regs) (hst : ∀ k, (t.gnssCh k).st = (s.gnssCh k).st)
    (htx : (t.gnssCh c).txValid = (s.gnssCh c).txValid) (hcn0 : (t.gnssCh c).cn0 = (s.gnssCh c).cn0) (b : Bool) :
    t.gnssWord0 c b = s.gnssWord0 c b := by
  have hsat := State.gnssSat_of_regs hregs
  have htrack : ∀ k, (t.gnssCh k).tracking = (s.gnssCh k).tracking := fun k => GnssCh.tracking_of_st (hst k)
  have hpaired : t.gnssPaired c = s.gnssPaired c := by simp only [State.gnssPaired, hsat, htrack]
  simp only [State.gnssWord0, hsat, hst, htx, hcn0, hpaired]

/-- The state in which word 0 of a latched measurement is read. -/
def State.latchedAt (s : State) (m : GnssMeas) (x : GnssCh) : State :=
  (s.bump Fld.gnssSlipCnt_VAL 0 m.slips).setGnssCh m.chan { x with meas := some m, slip := false, cn0 := m.cn0 }

theorem State.gnssLatch_eq {m : GnssMeas} (h : (s.gnssCh m.chan).tracking = true) :
    s.gnssLatch m = (s.latchedAt m (s.gnssCh m.chan)).setGnssCh m.chan { s.gnssCh m.chan with
      meas := some m, slip := false, cn0 := m.cn0
      word0 := (s.latchedAt m (s.gnssCh m.chan)).gnssWord0 m.chan ((s.gnssCh m.chan).slip || decide (0 < m.slips)) } := by
  simp only [State.gnssLatch, h, Bool.not_true, Bool.false_eq_true, if_false]
  rfl

/-- The channels of an epoch with one measurement, latched. -/
def State.oneLatched (s : State) (m : GnssMeas) : State := s.allForgotten.gnssLatch m

/-- What an epoch with one measurement leaves of the channels. -/
theorem State.oneLatched_gives {m : GnssMeas} (hc : m.chan < 64) (h : (s.gnssCh m.chan).tracking = true) :
    (s.oneLatched m).gnssCh m.chan = { s.gnssCh m.chan with
      meas := some m, slip := false, cn0 := m.cn0
      word0 := (s.setGnssCh m.chan { s.gnssCh m.chan with cn0 := m.cn0 }).gnssWord0 m.chan
        ((s.gnssCh m.chan).slip || decide (0 < m.slips)) } ∧
    (∀ k, k ≠ m.chan → (s.oneLatched m).gnssCh k = s.allForgotten.gnssCh k) ∧
    ChansOnly s (s.oneLatched m) ∧ (s.oneLatched m).count Fld.gnssSlipCnt_VAL = s.counted Fld.gnssSlipCnt_VAL 0 m.slips ∧
    Touches [.gnss, .rc .gnssSlipCnt] s (s.oneLatched m) := by
  obtain ⟨htrack, hidle, hout, honly, hframe⟩ := s.allForgotten_gives
  have hst : ∀ k, (s.allForgotten.gnssCh k).st = (s.gnssCh k).st := by
    intro k
    by_cases hk : k < 64
    · cases hkt : (s.gnssCh k).tracking
      · rw [hidle k hkt]
      · rw [htrack k hk hkt]
    · rw [hout k hk]
  have hself := htrack m.chan hc h
  have hforgotten : s.allForgotten.regs = s.regs := hframe .regs rfl
  unfold State.oneLatched
  generalize s.allForgotten = u at *
  have hu : (u.gnssCh m.chan).tracking = true := (GnssCh.tracking_of_st (hst m.chan)).trans h
  have hlatch : (u.latchedAt m (u.gnssCh m.chan)).gnssCh m.chan = { u.gnssCh m.chan with meas := some m, slip := false, cn0 := m.cn0 } :=
    State.setGnssCh_gnssCh_self _ _ _
  have hother : ∀ k, k ≠ m.chan → (u.latchedAt m (u.gnssCh m.chan)).gnssCh k = u.gnssCh k := fun k hk =>
    State.setGnssCh_gnssCh_ne (u.bump Fld.gnssSlipCnt_VAL 0 m.slips) hk _
  have hat := s.setGnssCh_gnssCh_self m.chan { s.gnssCh m.chan with cn0 := m.cn0 }
  have hword : ∀ b, (u.latchedAt m (u.gnssCh m.chan)).gnssWord0 m.chan b =
      (s.setGnssCh m.chan { s.gnssCh m.chan with cn0 := m.cn0 }).gnssWord0 m.chan b := by
    refine State.gnssWord0_congr hforgotten (fun k => ?_) ?_ ?_
    · by_cases hk : k = m.chan
      · subst hk
        rw [hlatch, hat, hself]
      · rw [hother k hk, State.setGnssCh_gnssCh_ne s hk, hst]
    · rw [hlatch, hat, hself]
    · rw [hlatch, hat]
  have hlatched := State.gnssLatch_eq hu
  have hlast := (u.latchedAt m (u.gnssCh m.chan)).setGnssCh_gnssCh_self m.chan
  refine ⟨?_, fun k hk => ?_, honly.trans ?_, ?_, (hframe.mono rfl).step (State.gnssLatch_touches u m rfl)⟩
  · rw [hlatched, hlast, hword, hself]
  · rw [hlatched, State.setGnssCh_gnssCh_ne _ hk, hother k hk]
  · rw [hlatched]
    rfl
  · rw [hlatched]
    exact State.count_bumped_at 0 m.slips (hframe.mono (ps := [.gnss]) rfl)
      ((State.setGnssCh_touches (ps := [.gnss]) _ _ _ rfl).step (State.setGnssCh_touches _ _ _ rfl)) rfl rfl (by decide)

/-- What the active core and the antenna say of an epoch of `n` channels. -/
def State.epochInfo (s : State) (n ps : Nat) : GnssEpochRec :=
  { ts := s.epochInstant, latched := n, core := s.clk.active, unlocked := s.unlockedTime, delayPs := ps
    ant := s.apI Fld.gnssAntDly_VAL, ifb := s.apI Fld.gnssIfb_VAL }

/-- The number of the channels that track. -/
def State.trackers (s : State) : Nat := ((List.range 64).filter (fun c => (s.gnssCh c).tracking)).length

/-- The baseband after an epoch whose channels have latched. -/
def State.epochDone (u s : State) (ps : Nat) : State :=
  { u with gnss := { u.gnss with epochs := (u.gnss.epochs + 1) % 2 ^ 32, burstEpoch := u.gnss.inBurst, epoch := s.epochInfo s.trackers ps } }

theorem State.gnssEpoch_eq {m : GnssMeas} {ps : Nat} (hon : s.gnssOn = true)
    (hburst : s.gnss.bursting = true → s.gnss.inBurst = true ∧ s.gnss.burstEpoch = false) :
    s.gnssEpoch [m] ps =
      (((s.oneLatched m).epochDone s ps).applyAt .epo (fun k => decide (k.name.row.block = .gnss))).calBoundary 4 0 := by
  have hgo : (!s.gnssOn || (s.gnss.bursting && (!s.gnss.inBurst || s.gnss.burstEpoch))) = false := by
    cases hb : s.gnss.bursting
    · simp [hon]
    · simp [hon, hburst hb]
  have hforget : (fun (s : State) c => if (s.gnssCh c).tracking then s.setGnssCh c { s.gnssCh c with meas := none } else s) =
    State.measForgotten := rfl
  rw [State.gnssEpoch, if_neg (by simp [hgo]), hforget]
  unfold State.oneLatched State.allForgotten
  generalize (List.range 64).foldl State.measForgotten s = u
  rfl

end Epoch

/-! ### Bursts -/

/-- A channel that tracks has slipped. -/
def State.slipSet (s : State) (c : Nat) : State :=
  if (s.gnssCh c).tracking then s.setGnssCh c { s.gnssCh c with slip := true } else s

section Burst

variable {s : State} {c k : Nat}

theorem State.slipSet_ne (h : k ≠ c) : (s.slipSet c).gnssCh k = s.gnssCh k := by
  unfold State.slipSet
  split
  · exact State.setGnssCh_gnssCh_ne s h _
  · rfl

theorem State.slipSet_self (h : (s.gnssCh c).tracking = true) : (s.slipSet c).gnssCh c = { s.gnssCh c with slip := true } := by
  rw [State.slipSet, if_pos h, State.setGnssCh_gnssCh_self]

theorem State.slipAll_ne {l : List Nat} (hc : c ∉ l) : (l.foldl State.slipSet s).gnssCh c = s.gnssCh c :=
  foldl_kept (g := fun s : State => s.gnssCh c) l (fun _ _ hx => State.slipSet_ne fun h => hc (h ▸ hx)) s

theorem State.slipAll_self {l : List Nat} (hc : c ∈ l) (h : (s.gnssCh c).tracking = true) :
    (l.foldl State.slipSet s).gnssCh c = { s.gnssCh c with slip := true } := by
  induction l generalizing s with
  | nil => cases hc
  | cons x l ih =>
    rw [List.foldl_cons]
    by_cases hxc : c = x
    · subst hxc
      have hset := State.slipSet_self h
      by_cases hl : c ∈ l
      · rw [ih hl ((GnssCh.tracking_of_st (by rw [hset])).trans h), hset]
      · rw [State.slipAll_ne hl, hset]
    · have hne := State.slipSet_ne (s := s) hxc
      rw [ih (List.mem_of_ne_of_mem hxc hc) (by rw [hne]; exact h), hne]

theorem State.gnssBurstStart_eq (hon : s.gnssOn = true) (hburst : s.gnss.bursting = true) (l : List Nat) :
    s.gnssBurstStart l = { l.foldl State.slipSet s with
      gnss := { (l.foldl State.slipSet s).gnss with inBurst := true, burstEpoch := false, rfEn := true } } := by
  simp only [State.gnssBurstStart, hon, hburst, Bool.not_true, Bool.or_self, Bool.false_eq_true, if_false]
  rfl

end Burst

/-! ### The statement -/

/-- Settles O45. -/
theorem satelliteReception : Obligations.SatelliteReception := by
  refine ⟨?clock, ?samples, ?epoch, ?noEpoch, ?burst, ?burstEnd, ?lead⟩
  case clock =>
    intro s ppm hup hon
    constructor
    · obtain ⟨hclk, hppm, hvalid, hlost, hidle⟩ := State.gnssClockFault_gives hon ppm
      exact gives_effect rfl hup rfl ⟨hclk, hppm, hvalid, hlost, hidle, (State.gnssClockFault_touches s ppm rfl).carry⟩
    · intro hpad hsmall
      have hrun : s.gnssClockOk ppm = { s with gnss := { s.gnss with clkOk := true, clkPpm := ppm } } := by
        rw [State.gnssClockOk, if_neg]
        simp [hon, hpad, hsmall]
      exact gives_effect (congrArg (effect true s) hrun) hup rfl ⟨rfl, ((Touches.refl _ _).set_gnss rfl).carry⟩
  case samples =>
    intro s l1 l5 k1 k5 m1 m5 hup hon hpad hl1 hl5 h1 h5
    obtain ⟨hm1, hm5, hf1, hf5, hcount, hlost1, hlost5, hkept1, hkept5⟩ :=
      State.gnssSampleCheck_gives s _ _ _ _ _ _ (State.gnssSampleCheck_eq (k1 := k1) (k5 := k5) hon hpad h1 h5)
    exact gives_effect rfl hup (by simp [hl1, hl5]) ⟨hm1, hm5, hf1, hf5, hcount, hlost1, hlost5, hkept1, hkept5,
      (State.gnssSampleCheck_touches s _ _ _ _ rfl).carry⟩
  case epoch =>
    intro s m ps x hup hc hps hon hburst hx htrack
    subst hx
    obtain ⟨hself, hothers, honly, hcount, hlatched⟩ := State.oneLatched_gives hc htrack
    obtain ⟨hforget, hidle, -, -, -⟩ := s.allForgotten_gives
    have hrun := State.gnssEpoch_eq (m := m) (ps := ps) hon hburst
    have happly : Touches [.regs, .cal] ((s.oneLatched m).epochDone s ps) (s.gnssEpoch [m] ps) := hrun ▸
      (State.applyAt_touches _ _ _ rfl).step (State.calBoundary_touches _ _ _ rfl)
    have hwaits : (s.gnssEpoch [m] ps).waitingAt .epo (fun k => decide (k.name.row.block = .gnss)) = [] := by
      refine State.waitingAt_dropped (s := (s.oneLatched m).epochDone s ps) ?_
      rw [hrun, State.calBoundary_pend, State.applyAt_pend]
    have hgnss : (s.gnssEpoch [m] ps).gnss = ((s.oneLatched m).epochDone s ps).gnss := happly .gnss rfl
    have hslips : (s.gnssEpoch [m] ps).count Fld.gnssSlipCnt_VAL = ((s.oneLatched m).epochDone s ps).count Fld.gnssSlipCnt_VAL :=
      State.count_of_rc (happly (.rc .gnssSlipCnt) rfl)
    have hframe := State.gnssEpoch_touches (ps := [.regs, .gnss, .cal, .rc .gnssSlipCnt]) s [m] ps rfl
    generalize s.oneLatched m = u at *
    have hexec : exec (.gnssEpoch [m] ps) s = effect ([m].all (fun x => gnssChan x.chan) && decide (ps ≤ 15274)) s (s.gnssEpoch [m] ps) := rfl
    generalize s.gnssEpoch [m] ps = t at *
    have hch : ∀ k, t.gnssCh k = u.gnssCh k := State.gnssCh_of_chans (congrArg GnssState.chans hgnss :)
    have hepochs : u.gnss.epochs = s.gnss.epochs := by rw [honly]
    have hin : u.gnss.inBurst = s.gnss.inBurst := by rw [honly]
    refine gives_effect hexec hup (by simp [gnssChan_lt hc, hps]) ⟨(hch _).trans hself, fun k hk h => ?_, fun k hk64 hk h => ?_, ?_, ?_, ?_, ?_,
      ?_, ?_, ?_, ?_, hslips.trans hcount, hwaits, hframe.carry⟩
    · exact (hch k).trans ((hothers k hk).trans (hidle k h))
    · exact (hch k).trans ((hothers k hk).trans (hforget k hk64 h))
    · exact (congrArg GnssState.epochs hgnss).trans (congrArg (fun n => (n + 1) % 2 ^ 32) hepochs)
    · exact (congrArg GnssState.burstEpoch hgnss).trans hin
    all_goals
      rw [State.carry_gnss, hgnss]
      rfl
  case noEpoch =>
    intro s ms ps hup hwf hburst hno
    have hrun : s.gnssEpoch ms ps = s := by
      rw [State.gnssEpoch, if_pos]
      rcases hno with hno | hno <;> simp [hburst, hno]
    exact gives_effect (congrArg (effect _ s) hrun) hup hwf (Touches.refl [] s).carry
  case burst =>
    intro s l hup hon hburst
    have hrun := State.gnssBurstStart_eq hon hburst l
    have hch : ∀ c, (s.gnssBurstStart l).gnssCh c = (l.foldl State.slipSet s).gnssCh c := fun c => by
      rw [hrun]
      rfl
    refine gives_effect rfl hup rfl ⟨?_, ?_, ?_, fun c hc h => (hch c).trans (State.slipAll_self hc h),
      fun c hc => (hch c).trans (State.slipAll_ne hc), (State.gnssBurstStart_touches s l rfl).carry⟩
    all_goals rw [State.carry_gnss, hrun]
  case burstEnd =>
    intro s hup hin
    have hrun : s.gnssBurstEnd = { s with gnss := { s.gnss with inBurst := false, rfEn := s.gnss.rfEn && !(s.apB Fld.gnssBurst_RF_GATE) } } := by
      rw [State.gnssBurstEnd, if_neg (by simp [hin])]
    exact gives_effect (congrArg (effect true s) hrun) hup rfl ⟨rfl, ((Touches.refl _ _).set_gnss rfl).carry⟩
  case lead =>
    intro s hup
    have hrun : s.gnssRfEnLead =
        { s with gnss := { s.gnss with rfEn := s.gnss.rfEn || (s.gnssOn && s.gnss.bursting && s.apB Fld.gnssBurst_RF_GATE) } } := by
      unfold State.gnssRfEnLead
      cases h : s.gnssOn && s.gnss.bursting && s.apB Fld.gnssBurst_RF_GATE
      · simp
      · simp
    exact gives_effect (congrArg (effect true s) hrun) hup rfl ⟨rfl, ((Touches.refl _ _).set_gnss rfl).carry⟩

end Sys2Proof.Machine
end

section
/-! ## A section's self-test asked for by a host ring (R92, R297)

GNSS_SECT completes when its test ends.  A command of a host ring is then marked as started in its ring, and the turn has passed to the
next ring: the host interface has changed, though the command has not completed. -/

set_option Elab.async false

namespace Sys2Proof.Machine

/-- A descriptor of GNSS_SECT: test section 5. -/
def sectTestFetched : Fetched := { raw := [0x01, 0xC0, 0, 0, 0, 0, 0, 0, 0, 0, 0, 0, 5, 2] ++ List.replicate 18 0, ext := [] }

/-- Section 5 is OUT, and the command to test it is the next of ring 57. -/
def sectTestAsked : State :=
  { State.reset with
    ready := 0xFFFFFFFF
    gnss := { State.reset.gnss with out := [5] }
    hif := { State.reset.hif with rings := [(57, { state := .run, fetched := [sectTestFetched] })] } }

theorem sectTestAsked_accepts : sectTestAsked.Accepts (sectTestFetched.cmd 57) 0xC001 (sectTestAsked.gnssChecks (sectTestFetched.cmd 57) 14
    (decide (23 < (sectTestFetched.cmd 57).arg 12 1) || decide (2 < (sectTestFetched.cmd 57).arg 13 1))) := by
  unfold State.Accepts
  decide +kernel

/-- The turn passes on although the command waits for the end of its test. -/
theorem sectTestAsked_turn : Gives (.gnssSectTest (sectTestFetched.cmd 57)) sectTestAsked
    (fun t => t.hif.cmdTurn ≠ sectTestAsked.hif.cmdTurn) := gives_effect rfl rfl rfl (by decide +kernel)

/-- Refutes O46: its clause on the self-test of a section says that the host interface stays as it is, but the start of a command of a
host ring marks it there and passes the turn to the next ring (R92). -/
theorem not_searchAndSections : ¬ Obligations.SearchAndSections := by
  unfold Obligations.SearchAndSections
  rintro ⟨-, -, -, -, -, test, -⟩
  have hgives := test sectTestAsked (sectTestFetched.cmd 57) rfl (by decide +kernel) (by decide +kernel) sectTestAsked_accepts
  obtain ⟨t, ⟨hwaits, -, -⟩, hturn⟩ := hgives.both sectTestAsked_turn
  exact hturn (congrArg HifState.cmdTurn (hwaits (by decide +kernel)).2)

end Sys2Proof.Machine
end

section
/-! ## What samples, blocks and edges leave of the channels of the interval counter (R317 to R322) -/

set_option Elab.async false

namespace Sys2Proof.Machine

/-! ### A channel in use -/

section Channel

variable {s : State} {c k : Nat}

theorem State.setTicCh_ticCh_self (s : State) (c : Nat) (x : TicCh) : (s.setTicCh c x).ticCh c = x := Tab.get_set_self _ _ _ _

theorem State.setTicCh_ticCh_ne (s : State) {k c : Nat} (h : k ≠ c) (x : TicCh) : (s.setTicCh c x).ticCh k = s.ticCh k :=
  Tab.get_set_ne _ _ _ _ _ h

theorem State.ticCh_of_tic {s t : State} (h : t.tic = s.tic) (c : Nat) : t.ticCh c = s.ticCh c := by rw [State.ticCh, h]; rfl

/-- A channel whose sample begins. -/
def State.sampling (s : State) (c : Nat) (x : TicCh) : TicCh :=
  { x with live := true, startAt := none, stopAt := none, pair := s.apB Fld.ticChCfg_PAIR c, ofs := s.apI Fld.ticChOfs_VAL c }

theorem State.ticSample_go (h : s.ticMay c = true) (hlive : (s.ticCh c).live = false) :
    s.ticSample c = s.setTicCh c (s.sampling c (s.ticCh c)) := if_pos (by simp [h, hlive])

theorem State.ticSample_not (h : s.ticMay c = false ∨ (s.ticCh c).live = true) : s.ticSample c = s :=
  if_neg (by rcases h with h | h <;> simp [h])

/-- What a channel is after it may have begun a sample. -/
theorem State.ticSample_self (s : State) (c : Nat) :
    (s.ticSample c).ticCh c = s.ticCh c ∨ (s.ticSample c).ticCh c = s.sampling c (s.ticCh c) := by
  by_cases h : s.ticMay c = false ∨ (s.ticCh c).live = true
  · exact .inl (by rw [State.ticSample_not h])
  · simp only [not_or, Bool.not_eq_false, Bool.not_eq_true] at h
    exact .inr (by rw [State.ticSample_go h.1 h.2, State.setTicCh_ticCh_self])

theorem State.ticSample_ne (h : k ≠ c) : (s.ticSample c).ticCh k = s.ticCh k := by
  unfold State.ticSample
  split
  · exact State.setTicCh_ticCh_ne s h _
  · rfl

/-- What a sample's beginning leaves of a channel. -/
theorem State.ticSample_keeps {α : Type} (s : State) (c : Nat) (g : TicCh → α) (h : ∀ x, g (s.sampling c x) = g x) :
    g ((s.ticSample c).ticCh c) = g (s.ticCh c) := by
  rcases s.ticSample_self c with hself | hself <;> rw [hself]
  exact h _

/-- Nothing but the channels of the interval counter changes with a sample's beginning. -/
theorem State.ticSample_tic (s : State) (c : Nat) : (s.ticSample c).tic = { s.tic with chans := (s.ticSample c).tic.chans } := by
  unfold State.ticSample
  split <;> rfl

theorem State.ticAbandon_self (h : (s.ticCh c).live = true) :
    (s.ticAbandon c).ticCh c = { s.ticCh c with live := false, timeout := (s.ticCh c).timeout + 1 } := by
  rw [State.ticAbandon, if_pos h]
  exact State.setTicCh_ticCh_self (s.bump Fld.ticTmoCnt_VAL c) c _

theorem State.ticAbandon_idle (h : (s.ticCh c).live = false) : s.ticAbandon c = s := if_neg (by simp [h])

theorem State.ticAbandon_ne (h : k ≠ c) : (s.ticAbandon c).ticCh k = s.ticCh k := by
  unfold State.ticAbandon
  dsimp only
  split
  · exact State.setTicCh_ticCh_ne (s.bump Fld.ticTmoCnt_VAL c) h _
  · rfl

/-- Whether sampling may start does not hang on the sample that is abandoned. -/
theorem State.ticMay_ticAbandon (h : (s.ticCh c).live = true) : (s.ticAbandon c).ticMay c = s.ticMay c := by
  have hself := State.ticAbandon_self h
  have hrun : s.ticAbandon c = (s.bump Fld.ticTmoCnt_VAL c).setTicCh c { s.ticCh c with live := false, timeout := (s.ticCh c).timeout + 1 } :=
    if_pos h
  simp only [State.ticMay, hself]
  rw [hrun]
  rfl

/-! ### The end of a block -/

/-- A channel whose block ends with a result. -/
def State.blockEnded (s : State) (x : TicCh) (part : Bool) : TicCh :=
  { x with armed := false, live := false, waitBase := false, result := some (s.ticResultOf x part) }

theorem State.ticCalGo_tic (s : State) (c : Nat) : (s.ticCalGo c).tic = s.tic := rfl

/-- The end of a block that is not armed anew. -/
theorem State.ticEnd_gives {part : Bool} (h : ((s.ticCh c).rep && !part) = false) :
    (s.ticEnd c part).ticCh c = s.blockEnded (s.ticCh c) part ∧ (∀ k, k ≠ c → (s.ticEnd c part).ticCh k = s.ticCh k) := by
  have hset := s.setTicCh_ticCh_self c (s.blockEnded (s.ticCh c) part)
  have hne : ∀ k, k ≠ c → (s.setTicCh c (s.blockEnded (s.ticCh c) part)).ticCh k = s.ticCh k := fun k hk => s.setTicCh_ticCh_ne hk _
  unfold State.ticEnd
  extract_lets x s1 s2 s3
  have h1 : s1.tic = (s.setTicCh c (s.blockEnded (s.ticCh c) part)).tic :=
    State.calBoundary_touches (ps := Part.others .tic) _ 2 c rfl .tic rfl
  have h2 : s2.tic = s1.tic := State.raise_touches (ps := Part.others .tic) s1 _ _ _ _ rfl .tic rfl
  have h3 : s3.tic = (s.setTicCh c (s.blockEnded (s.ticCh c) part)).tic := (State.ticCalGo_tic s2 c).trans (h2.trans h1)
  rw [if_neg (by simp [x, h])]
  exact ⟨(State.ticCh_of_tic h3 c).trans hset, fun k hk => (State.ticCh_of_tic h3 k).trans (hne k hk)⟩

end Channel

end Sys2Proof.Machine
end

section
/-! ## The interval counter (R314 to R322, R325) -/

set_option Elab.async false

namespace Sys2Proof.Machine

/-! ### A complete sample (R318) -/

/-- The interval lies in the dead zone. -/
def ticIsNear (d : Int) : Bool := decide (-ticNear < d) && decide (d < ticNear)

/-- The edges came in the wrong order. -/
def ticIsOrder (d : Int) : Bool := decide (d ≤ -ticNear)

/-- The value of a sample. -/
def TicCh.value (x : TicCh) (d : Int) : Int := (if ticIsNear d then ticNear else d) + x.ofs * 2 ^ 45

/-- The sample enters the statistics. -/
def TicCh.keeps (x : TicCh) (d : Int) : Bool := !ticIsOrder d && (!ticIsNear d || x.args.nearKeep)

/-- A channel that has taken a sample. -/
def TicCh.taken (x : TicCh) (d : Int) : TicCh :=
  { x with
    live := false, dead := true, near := x.near + b2n (ticIsNear d), order := x.order + b2n (ticIsOrder d)
    lastVal := x.value d, lastNear := ticIsNear d, lastOrder := ticIsOrder d, lastIndex := x.kept + x.order + x.near
    kept := x.kept + b2n (x.keeps d)
    sum := if x.keeps d then x.sum + x.value d else x.sum
    sumSq := if x.keeps d then x.sumSq + x.value d * x.value d else x.sumSq
    lo := if x.keeps d then (if x.kept = 0 then x.value d else min x.lo (x.value d)) else x.lo
    hi := if x.keeps d then (if x.kept = 0 then x.value d else max x.hi (x.value d)) else x.hi }

/-- A sample in the dead zone or out of order is counted. -/
def State.ticCounted (s : State) (c : Nat) (d : Int) : State :=
  if ticIsNear d then s.bump Fld.ticNearCnt_VAL c else if ticIsOrder d then s.bump Fld.ticOrderCnt_VAL c else s

section Take

variable {s : State} {c : Nat} {d : Int} {x : TicCh}

theorem State.ticTake_eq (hx : s.ticCh c = x) : s.ticTake c d =
    if (x.taken d).kept = x.args.n then ((s.ticCounted c d).setTicCh c (x.taken d)).ticEnd c false
    else (s.ticCounted c d).setTicCh c (x.taken d) := by
  subst hx
  rfl

theorem ticNear_pos : 0 < ticNear := by decide

theorem ticIsNear_far (h : ticNear ≤ d) : ticIsNear d = false := by simp [ticIsNear, h]

theorem ticIsOrder_far (h : ticNear ≤ d) : ticIsOrder d = false := decide_eq_false (by have := ticNear_pos; omega)

theorem ticIsNear_order (h : d ≤ -ticNear) : ticIsNear d = false := by simp [ticIsNear, h]

theorem ticIsNear_near (h : -ticNear < d) (h' : d < ticNear) : ticIsNear d = true := by simp [ticIsNear, h, h']

theorem State.ticCounted_far (h : ticNear ≤ d) : s.ticCounted c d = s := by
  simp [State.ticCounted, ticIsNear_far h, ticIsOrder_far h]

theorem TicCh.keeps_far (h : ticNear ≤ d) : x.keeps d = true := by simp [TicCh.keeps, ticIsNear_far h, ticIsOrder_far h]

end Take

/-- The edges of one sample: the second one at the stop. -/
theorem State.ticEdge_completes {s : State} {c n code : Nat} {a : Nat × Int} (hlive : (s.ticCh c).live = true)
    (hstart : (s.ticCh c).startAt = some a) (hstop : (s.ticCh c).stopAt = none) (hsrc : s.ticSourceOn (s.ticCh c).args.stop = true) :
    s.ticEdge c true n code =
      (s.setTicCh c { s.ticCh c with stopAt := some (n, s.ticFine c code) }).ticTake c (s.ticInterval c a (n, s.ticFine c code)) := by
  simp [State.ticEdge, hlive, hstart, hstop, hsrc]

/-! ### Arming and stopping (R320) -/

theorem State.check_passes {s : State} {d : CmdDesc} {c : Checks} (h : s.check d c = none) : c.badForm = false ∧ c.stale = false := by
  cases hform : c.badForm
  · cases hstale : c.stale
    · exact ⟨rfl, rfl⟩
    · simp [State.check, hform, hstale] at h
      split_ifs at h
  · simp [State.check, hform] at h
    split_ifs at h

section Commands

variable {s : State} {d : CmdDesc}

theorem State.ticCh_startCmd (s : State) (d : CmdDesc) (c : Nat) : (s.startCmd d).ticCh c = s.ticCh c := State.ticCh_of_tic (s.startCmd_tic d) c

theorem State.ticArm_eq (hphase : (s.obj .mchan (hIndex d.handle)).phase ≠ .draining)
    (hacc : s.Accepts d 0xC401 (s.ticChecks d (decide (2 ≤ d.arg 12 1) || !(d.zero 13 32)))) :
    s.ticArm false d =
      if (s.obj .mchan (hIndex d.handle)).phase = .suspended then (s.startCmd d).complete d 0xC401 .notReady
      else if (s.ticCh (hIndex d.handle)).armed then (s.startCmd d).complete d 0xC401 .busy
      else
        let t := (s.startCmd d).ticArmBlock (hIndex d.handle) (bitAt (d.arg 12 1) 0)
        t.complete d 0xC401 .ok 0 (leBytes (t.ticCh (hIndex d.handle)).block 4) := by
  rw [State.ticArm, State.runNamed_started hacc.1 (State.drainingObj_none hphase), State.runCmd_accepted_free hacc rfl]
  simp only [State.obj_startCmd, State.ticCh_startCmd]

/-- A channel with a block armed, before its first sample. -/
def State.blockArmed (s : State) (c : Nat) (rep : Bool) : TicCh :=
  { s.ticCh c with
    armed := true, rep := rep, args := (s.obj .mchan c).ticArgs, begun := false, live := false
    waitBase := decide ((s.obj .mchan c).ticArgs.base = 1) && !s.tic.tbOk, calWait := s.calJobOn 2 c
    kept := 0, sum := 0, sumSq := 0, lo := 0, hi := 0, order := 0, near := 0, timeout := 0
    block := (s.ticCh c).nextBlock, nextBlock := (s.ticCh c).nextBlock + 1 }

theorem State.ticArmBlock_eq (s : State) (c : Nat) (rep : Bool) :
    s.ticArmBlock c rep = (s.setTicCh c (s.blockArmed c rep)).ticSample c := rfl

/-- What a sample's beginning keeps of an armed block. -/
theorem State.ticArmBlock_keeps {α : Type} (s : State) (c : Nat) (rep : Bool) (g : TicCh → α) (h : ∀ u x, g (State.sampling u c x) = g x) :
    g ((s.ticArmBlock c rep).ticCh c) = g (s.blockArmed c rep) := by
  rw [State.ticArmBlock_eq, State.ticSample_keeps _ c g (h _), State.setTicCh_ticCh_self]

theorem State.ticArmBlock_ne (s : State) {k c : Nat} (rep : Bool) (h : k ≠ c) : (s.ticArmBlock c rep).ticCh k = s.ticCh k := by
  rw [State.ticArmBlock_eq, State.ticSample_ne h, State.setTicCh_ticCh_ne s h]

/-- A block that nothing holds up begins with a sample. -/
theorem State.ticArmBlock_begins {c : Nat} {rep : Bool} (hphase : (s.obj .mchan c).phase = .active) (hdead : (s.ticCh c).dead = false)
    (hgate : (s.obj .mchan c).ticArgs.gate = false) (hbase : (s.obj .mchan c).ticArgs.base = 0) (hcal : s.calJobOn 2 c = false)
    (hon : s.domOn 15 = true) (hstopped : s.regs.stopped = []) :
    ((s.ticArmBlock c rep).ticCh c).live = true ∧ ((s.ticArmBlock c rep).ticCh c).startAt = none ∧
    ((s.ticArmBlock c rep).ticCh c).stopAt = none := by
  have hself := s.setTicCh_ticCh_self c (s.blockArmed c rep)
  have hmay : (s.setTicCh c (s.blockArmed c rep)).ticMay c = true := by
    have hdom : (s.setTicCh c (s.blockArmed c rep)).domOn 15 = true := hon
    have hobj : ((s.setTicCh c (s.blockArmed c rep)).obj .mchan c).phase = .active := hphase
    have hhalt : ∀ u, (s.setTicCh c (s.blockArmed c rep)).halted u = false := fun u => by
      have hnone : (s.setTicCh c (s.blockArmed c rep)).halted u = s.halted u := rfl
      exact hnone.trans (by simp [State.halted, hstopped])
    simp only [State.ticMay, hself, hdom, hobj, hhalt]
    simp [State.blockArmed, hdead, hgate, hbase, hcal]
  rw [State.ticArmBlock_eq, State.ticSample_go hmay (by rw [hself]; rfl), State.setTicCh_ticCh_self]
  exact ⟨rfl, rfl, rfl⟩

theorem State.ticArm_waits (hphase : (s.obj .mchan (hIndex d.handle)).phase = .draining)
    (hacc : s.Accepts d 0xC401 (s.ticChecks d (decide (2 ≤ d.arg 12 1) || !(d.zero 13 32)))) :
    s.ticArm false d = (s.startCmd d).waitDrain .mchan (hIndex d.handle) 0x10 d := by
  obtain ⟨hstart, hcheck⟩ := hacc
  obtain ⟨hform, hstale⟩ := State.check_passes hcheck
  have htype : hType d.handle = 3 := by
    simp only [State.ticChecks, Bool.or_eq_false_iff, decide_eq_false_iff_not, not_not] at hform
    exact hform.1.2
  have hdrain : (s.startCmd d).drainingObj .mchan d.handle = some (hIndex d.handle) := by
    rw [State.drainingObj, State.stale_startCmd, State.obj_startCmd]
    exact if_pos ⟨htype, by rw [show s.stale .mchan d.handle = false from hstale]; rfl, hphase⟩
  simp only [State.ticArm, State.runNamed, hstart, Bool.false_eq_true, if_false, State.namedGo, hdrain]

theorem State.ticStop_eq (hphase : (s.obj .mchan (hIndex d.handle)).phase ≠ .draining)
    (hacc : s.Accepts d 0xC402 (s.ticChecks d (!(d.zero 12 32)))) :
    s.ticStop false d =
      if (s.ticCh (hIndex d.handle)).armed = false then (s.startCmd d).complete d 0xC402 .ok 0 (leBytes 0 4)
      else
        let t := if (s.ticCh (hIndex d.handle)).kept = 0 then
            (((s.startCmd d).setTicCh (hIndex d.handle) { s.ticCh (hIndex d.handle) with
              armed := false, live := false, waitBase := false }).calBoundary 2 (hIndex d.handle)).ticCalGo (hIndex d.handle)
          else (s.startCmd d).ticEnd (hIndex d.handle) true
        t.complete d 0xC402 .ok 0 (leBytes (s.ticCh (hIndex d.handle)).kept 4) := by
  rw [State.ticStop, State.runNamed_started hacc.1 (State.drainingObj_none hphase), State.runCmd_accepted_free hacc rfl]
  simp only [State.ticCh_startCmd]
  cases (s.ticCh (hIndex d.handle)).armed <;> rfl

/-- What TIC_ARM leaves. -/
theorem State.ticArm_gives {c : Nat} (hc : c = hIndex d.handle)
    (hacc : s.Accepts d 0xC401 (s.ticChecks d (decide (2 ≤ d.arg 12 1) || !(d.zero 13 32)))) {t : State} (ht : t = s.ticArm false d) :
    ((s.obj .mchan c).phase = .active → (s.ticCh c).armed = false →
      (t.ticCh c).armed = true ∧ (t.ticCh c).rep = bitAt (d.arg 12 1) 0 ∧ (t.ticCh c).args = (s.obj .mchan c).ticArgs ∧
      (t.ticCh c).kept = 0 ∧ (t.ticCh c).sum = 0 ∧ (t.ticCh c).order = 0 ∧ (t.ticCh c).near = 0 ∧ (t.ticCh c).timeout = 0 ∧
      (t.ticCh c).block = (s.ticCh c).nextBlock ∧ (t.ticCh c).nextBlock = (s.ticCh c).nextBlock + 1 ∧
      ((s.ticCh c).dead = false → (s.obj .mchan c).ticArgs.gate = false → (s.obj .mchan c).ticArgs.base = 0 →
        s.calJobOn 2 c = false → s.domOn 15 = true → s.regs.stopped = [] →
        (t.ticCh c).live = true ∧ (t.ticCh c).startAt = none ∧ (t.ticCh c).stopAt = none) ∧
      Completed d 0xC401 .ok 0 (leBytes (s.ticCh c).nextBlock 4) t) ∧
    ((s.obj .mchan c).phase = .active → (s.ticCh c).armed = true → t.tic = s.tic ∧ Completed d 0xC401 .busy 0 [] t) ∧
    ((s.obj .mchan c).phase = .suspended → t.tic = s.tic ∧ Completed d 0xC401 .notReady 0 [] t) ∧
    ((s.obj .mchan c).phase = .draining → t.tic = s.tic ∧ (t.obj .mchan c).waiting = (s.obj .mchan c).waiting ++ [⟨0x10, d⟩]) ∧
    (∀ k, k ≠ c → t.ticCh k = s.ticCh k) := by
  subst hc
  have hsame : ∀ {u : State}, u.tic = s.tic → ∀ k, k ≠ hIndex d.handle → u.ticCh k = s.ticCh k := fun h k _ => State.ticCh_of_tic h k
  have hdone : ∀ st, ((s.startCmd d).complete d 0xC401 st).tic = s.tic := fun st => by simp
  by_cases hdrain : (s.obj .mchan (hIndex d.handle)).phase = .draining
  · have hwait := State.ticArm_waits hdrain hacc
    have htic : t.tic = s.tic := by
      rw [ht, hwait]
      exact s.startCmd_tic d
    refine ⟨fun h => absurd (hdrain.symm.trans h) (by decide), fun h => absurd (hdrain.symm.trans h) (by decide),
      fun h => absurd (hdrain.symm.trans h) (by decide), fun _ => ⟨htic, ?_⟩, hsame htic⟩
    rw [ht, hwait, State.waitDrain, State.obj_startCmd]
    exact congrArg Obj.waiting (Tab.get_set_self _ _ _ _)
  rw [State.ticArm_eq hdrain hacc] at ht
  by_cases hsusp : (s.obj .mchan (hIndex d.handle)).phase = .suspended
  · rw [if_pos hsusp] at ht
    have htic : t.tic = s.tic := ht ▸ hdone _
    exact ⟨fun h => absurd (hsusp.symm.trans h) (by decide), fun h => absurd (hsusp.symm.trans h) (by decide),
      fun _ => ⟨htic, by rw [ht]; exact State.complete_lastCpl _ _ _ _ _ _ _⟩, fun h => absurd h hdrain, hsame htic⟩
  rw [if_neg hsusp] at ht
  cases harm : (s.ticCh (hIndex d.handle)).armed
  · rw [if_neg (by simp [harm])] at ht
    have hstart : ∀ {α : Type} (g : TicCh → α), (∀ u x, g (State.sampling u (hIndex d.handle) x) = g x) → _ := fun g =>
      (s.startCmd d).ticArmBlock_keeps (hIndex d.handle) (bitAt (d.arg 12 1) 0) g
    have hch : ∀ k, t.ticCh k = ((s.startCmd d).ticArmBlock (hIndex d.handle) (bitAt (d.arg 12 1) 0)).ticCh k := fun k =>
      State.ticCh_of_tic (ht ▸ State.complete_tic _ _ _ _ _ _ _) k
    have hobj : (s.startCmd d).obj .mchan (hIndex d.handle) = s.obj .mchan (hIndex d.handle) := s.obj_startCmd d _ _
    have hblock := hstart TicCh.block fun _ _ => rfl
    refine ⟨fun hact _ => ⟨?_, ?_, ?_, ?_, ?_, ?_, ?_, ?_, ?_, ?_, ?_, ?_⟩, fun _ h => absurd h (by simp), fun h => absurd h hsusp, fun h => absurd h hdrain, ?_⟩
    · exact (congrArg TicCh.armed (hch _)).trans (hstart TicCh.armed fun _ _ => rfl)
    · exact (congrArg TicCh.rep (hch _)).trans (hstart TicCh.rep fun _ _ => rfl)
    · exact (congrArg TicCh.args (hch _)).trans ((hstart TicCh.args fun _ _ => rfl).trans (congrArg Obj.ticArgs hobj))
    · exact (congrArg TicCh.kept (hch _)).trans (hstart TicCh.kept fun _ _ => rfl)
    · exact (congrArg TicCh.sum (hch _)).trans (hstart TicCh.sum fun _ _ => rfl)
    · exact (congrArg TicCh.order (hch _)).trans (hstart TicCh.order fun _ _ => rfl)
    · exact (congrArg TicCh.near (hch _)).trans (hstart TicCh.near fun _ _ => rfl)
    · exact (congrArg TicCh.timeout (hch _)).trans (hstart TicCh.timeout fun _ _ => rfl)
    · exact (congrArg TicCh.block (hch _)).trans (hblock.trans (congrArg TicCh.nextBlock (s.ticCh_startCmd d _)))
    · exact (congrArg TicCh.nextBlock (hch _)).trans ((hstart TicCh.nextBlock fun _ _ => rfl).trans
        (congrArg (fun x : TicCh => x.nextBlock + 1) (s.ticCh_startCmd d _)))
    · intro hdead hgate hbase hcal hon hstopped
      rw [hch]
      refine State.ticArmBlock_begins ?_ ?_ ?_ ?_ ?_ ?_ ?_
      · rw [hobj, hact]
      · rw [State.ticCh_startCmd, hdead]
      · rw [hobj, hgate]
      · rw [hobj, hbase]
      · rw [State.startCmd_eq]
        exact hcal
      · rw [State.startCmd_eq]
        exact hon
      · rw [State.startCmd_regs, hstopped]
    · rw [ht]
      refine (State.complete_lastCpl _ _ _ _ _ _ _).trans ?_
      rw [hblock]
      simp only [State.blockArmed, State.ticCh_startCmd]
    · intro k hk
      rw [hch, State.ticArmBlock_ne _ _ hk, State.ticCh_startCmd]
  · rw [if_pos harm] at ht
    have htic : t.tic = s.tic := ht ▸ hdone _
    exact ⟨fun _ h => absurd h (by simp), fun _ _ => ⟨htic, by rw [ht]; exact State.complete_lastCpl _ _ _ _ _ _ _⟩,
      fun h => absurd h hsusp, fun h => absurd h hdrain, hsame htic⟩

/-- What TIC_STOP leaves. -/
theorem State.ticStop_gives {c : Nat} (hc : c = hIndex d.handle) (hphase : (s.obj .mchan c).phase ≠ .draining)
    (hacc : s.Accepts d 0xC402 (s.ticChecks d (!(d.zero 12 32)))) {t : State} (ht : t = s.ticStop false d) :
    ((s.ticCh c).armed = true → (s.ticCh c).kept ≠ 0 → t.ticCh c = s.blockEnded (s.ticCh c) true) ∧
    ((s.ticCh c).armed = true → (s.ticCh c).kept = 0 → t.ticCh c = { s.ticCh c with armed := false, live := false, waitBase := false }) ∧
    ((s.ticCh c).armed = true → Completed d 0xC402 .ok 0 (leBytes (s.ticCh c).kept 4) t) ∧
    ((s.ticCh c).armed = false → t.ticCh c = s.ticCh c ∧ Completed d 0xC402 .ok 0 (leBytes 0 4) t) ∧
    (∀ k, k ≠ c → t.ticCh k = s.ticCh k) ∧ Touches (evtParts ++ cplParts ++ [Part.regs, .tic, .cal]) s t := by
  subst hc
  rw [State.ticStop_eq hphase hacc] at ht
  have hstart : Touches (evtParts ++ cplParts ++ [Part.regs, .tic, .cal]) s (s.startCmd d) := State.startCmd_touches s d rfl
  cases harm : (s.ticCh (hIndex d.handle)).armed
  · rw [if_pos harm] at ht
    have hch : ∀ k, t.ticCh k = s.ticCh k := fun k => State.ticCh_of_tic (by rw [ht]; simp) k
    exact ⟨fun h => absurd h (by simp), fun h => absurd h (by simp), fun h => absurd h (by simp),
      fun _ => ⟨hch _, by rw [ht]; exact State.complete_lastCpl _ _ _ _ _ _ _⟩, fun k _ => hch k,
      ht ▸ State.startComplete_touches _ _ _ _ _ _ _ rfl⟩
  · rw [if_neg (by simp [harm])] at ht
    by_cases hkept : (s.ticCh (hIndex d.handle)).kept = 0
    · rw [if_pos hkept] at ht
      generalize hu : (s.startCmd d).setTicCh (hIndex d.handle) { s.ticCh (hIndex d.handle) with
        armed := false, live := false, waitBase := false } = u at ht
      have hset : Touches (evtParts ++ cplParts ++ [Part.regs, .tic, .cal]) (s.startCmd d) u := hu ▸ State.setTicCh_touches _ _ _ rfl
      have htic : t.tic = u.tic := by
        rw [ht]
        exact State.calBoundary_touches (ps := Part.others .tic) u 2 (hIndex d.handle) rfl .tic rfl
      refine ⟨fun _ h => absurd hkept h, fun _ _ => ?_, fun _ => ?_, fun h => absurd h (by simp), fun k hk => ?_, ?_⟩
      · rw [State.ticCh_of_tic htic, ← hu, State.setTicCh_ticCh_self]
      · rw [ht]
        exact State.complete_lastCpl _ _ _ _ _ _ _
      · rw [State.ticCh_of_tic htic, ← hu, State.setTicCh_ticCh_ne _ hk, State.ticCh_startCmd]
      · rw [ht]
        exact (((hstart.step hset).step (State.calBoundary_touches _ _ _ rfl)).step (State.ticCalGo_touches _ _ rfl)).step
          (State.complete_touches _ _ _ _ _ _ _ rfl)
    · rw [if_neg hkept] at ht
      obtain ⟨hself, hothers⟩ := State.ticEnd_gives (s := s.startCmd d) (c := hIndex d.handle) (part := true) (by simp)
      have hframe : Touches (evtParts ++ cplParts ++ [Part.regs, .tic, .cal]) (s.startCmd d) ((s.startCmd d).ticEnd (hIndex d.handle) true) :=
        State.ticEnd_touches _ _ _ rfl
      generalize (s.startCmd d).ticEnd (hIndex d.handle) true = u at *
      have hch : ∀ k, t.ticCh k = u.ticCh k := fun k => State.ticCh_of_tic (ht ▸ State.complete_tic _ _ _ _ _ _ _) k
      refine ⟨fun _ _ => ?_, fun _ h => absurd h hkept, fun _ => ?_, fun h => absurd h (by simp), fun k hk => ?_, ?_⟩
      · rw [hch, hself, State.ticCh_startCmd, State.startCmd_eq]
        rfl
      · rw [ht]
        exact State.complete_lastCpl _ _ _ _ _ _ _
      · rw [hch, hothers k hk, State.ticCh_startCmd]
      · rw [ht]
        exact (hstart.step hframe).step (State.complete_touches _ _ _ _ _ _ _ rfl)

end Commands

end Sys2Proof.Machine
end

section
/-! ## Samples, the gate and the time base of the interval counter, and what they leave (R315, R317 to R320) -/

set_option Elab.async false

namespace Sys2Proof.Machine

/-! ### A second edge at the stop -/

section Edge

variable {s : State} {c n code : Nat} {a : Nat × Int} {x : TicCh} {d : Int}

/-- A channel with both edges of a sample. -/
def State.edged (s : State) (c n code : Nat) (x : TicCh) : TicCh := { x with stopAt := some (n, s.ticFine c code) }

/-- The part when a sample has been taken, before its block may end. -/
def State.edgeTaken (s : State) (c n code : Nat) (x : TicCh) (d : Int) : State :=
  ((s.setTicCh c (s.edged c n code x)).ticCounted c d).setTicCh c ((s.edged c n code x).taken d)

variable (hx : x = s.ticCh c) (hlive : x.live = true) (hstart : x.startAt = some a) (hstop : x.stopAt = none)
  (hsrc : s.ticSourceOn x.args.stop = true) (hd : d = s.ticInterval c a (n, s.ticFine c code))
include hx hlive hstart hstop hsrc hd

theorem State.ticEdge_taken : s.ticEdge c true n code =
    if ((s.edged c n code x).taken d).kept = x.args.n then (s.edgeTaken c n code x d).ticEnd c false else s.edgeTaken c n code x d := by
  subst hx hd
  rw [State.ticEdge_completes hlive hstart hstop hsrc]
  exact State.ticTake_eq (s.setTicCh_ticCh_self c (s.edged c n code (s.ticCh c)))

omit hx hlive hstart hstop hsrc hd

theorem State.edgeTaken_self : (s.edgeTaken c n code x d).ticCh c = (s.edged c n code x).taken d := State.setTicCh_ticCh_self _ _ _

theorem State.ticCounted_touches (s : State) (c : Nat) (d : Int) : Touches [.rc .ticNearCnt, .rc .ticOrderCnt] s (s.ticCounted c d) := by
  unfold State.ticCounted
  exact Touches.ite (State.bump_touches _ _ _ _ rfl) (Touches.ite (State.bump_touches _ _ _ _ rfl) (Touches.refl _ _))

theorem State.edgeTaken_ne {k : Nat} (h : k ≠ c) : (s.edgeTaken c n code x d).ticCh k = s.ticCh k := by
  have hcounted := State.ticCounted_touches (s.setTicCh c (s.edged c n code x)) c d
  rw [State.edgeTaken, State.setTicCh_ticCh_ne _ h, State.ticCh_of_tic (hcounted .tic rfl), State.setTicCh_ticCh_ne s h]

/-- The frame of a sample that is counted in `f`, or in nothing. -/
theorem State.edgeTaken_touches {ps : List Part} (htic : Part.within [.tic] ps = true)
    (h : Touches ps (s.setTicCh c (s.edged c n code x)) ((s.setTicCh c (s.edged c n code x)).ticCounted c d)) :
    Touches ps s (s.edgeTaken c n code x d) :=
  ((State.setTicCh_touches s _ _ htic).step h).step (State.setTicCh_touches _ _ _ htic)

/-- A sample in its order beyond the dead zone, in the middle of a block. -/
theorem State.edgeTaken_far (hfar : ticNear ≤ d) (hkept : 0 < x.kept) : (s.edgeTaken c n code x d).ticCh c = { x with
    stopAt := some (n, s.ticFine c code), live := false, dead := true
    lastVal := d + x.ofs * 2 ^ 45, lastNear := false, lastOrder := false, lastIndex := x.kept + x.order + x.near
    kept := x.kept + 1, sum := x.sum + (d + x.ofs * 2 ^ 45), sumSq := x.sumSq + (d + x.ofs * 2 ^ 45) * (d + x.ofs * 2 ^ 45)
    lo := min x.lo (d + x.ofs * 2 ^ 45), hi := max x.hi (d + x.ofs * 2 ^ 45) } := by
  have hkeeps : (s.edged c n code x).keeps d = true := TicCh.keeps_far hfar
  have hvalue : (s.edged c n code x).value d = d + x.ofs * 2 ^ 45 := by
    rw [TicCh.value, ticIsNear_far hfar]
    rfl
  have hne : (s.edged c n code x).kept ≠ 0 := Nat.pos_iff_ne_zero.mp hkept
  rw [State.edgeTaken_self, TicCh.taken, hkeeps, hvalue, ticIsNear_far hfar, ticIsOrder_far hfar, if_neg hne, if_neg hne]
  rfl

theorem State.ticCounted_order (h : d ≤ -ticNear) : s.ticCounted c d = s.bump Fld.ticOrderCnt_VAL c := by
  have horder : ticIsOrder d = true := decide_eq_true h
  simp [State.ticCounted, ticIsNear_order h, horder]

theorem State.ticCounted_near (h : ticIsNear d = true) : s.ticCounted c d = s.bump Fld.ticNearCnt_VAL c := if_pos h

end Edge

/-! ### Every channel, one after the other -/

/-- What a fold over the channels makes of one of them. -/
theorem State.forTic_self {s : State} {f : State → Nat → State} (hne : ∀ u k c, c ≠ k → (f u k).ticCh c = u.ticCh c) (I : State → Prop)
    (hI : ∀ u k, I u → I (f u k)) (hs : I s) {c : Nat} (hc : c < 16) :
    ∃ u, I u ∧ u.ticCh c = s.ticCh c ∧ (s.forTic f).ticCh c = (f u c).ticCh c :=
  foldl_once (f := f) (g := fun s : State => s.ticCh c) hI (fun u k hk => hne u k c (Ne.symm hk)) (List.range 16) List.nodup_range
    (List.mem_range.mpr hc) s hs

/-- From `s` to `t` nothing has changed but channels of the interval counter and a count. -/
structure TicChans (s t : State) : Prop where
  tic : t.tic = { s.tic with chans := t.tic.chans }
  frame : Touches [.tic, .rc .ticTmoCnt] s t

namespace TicChans

variable {s t u : State}

theorem refl (s : State) : TicChans s s := ⟨rfl, Touches.refl _ _⟩

theorem trans (h : TicChans s t) (g : TicChans t u) : TicChans s u := by
  obtain ⟨hst, hframe⟩ := h
  obtain ⟨htu, gframe⟩ := g
  exact ⟨by rw [htu, hst], hframe.step gframe⟩

theorem setTicCh (s : State) (c : Nat) (x : TicCh) : TicChans s (s.setTicCh c x) := ⟨rfl, State.setTicCh_touches s _ _ rfl⟩

theorem ticSample (s : State) (c : Nat) : TicChans s (s.ticSample c) := ⟨s.ticSample_tic c, State.ticSample_touches s _ rfl⟩

theorem ticAbandon (s : State) (c : Nat) : TicChans s (s.ticAbandon c) := by
  refine ⟨?_, State.ticAbandon_touches s _ rfl⟩
  unfold State.ticAbandon
  dsimp only
  split <;> rfl

theorem foldl {f : State → Nat → State} (h : ∀ u k, TicChans u (f u k)) (l : List Nat) (s : State) : TicChans s (l.foldl f s) := by
  induction l generalizing s with
  | nil => exact refl s
  | cons x l ih => exact (h s x).trans (ih _)

theorem forTic {f : State → Nat → State} (h : ∀ u k, TicChans u (f u k)) (s : State) : TicChans s (s.forTic f) := foldl h _ s

end TicChans

/-! ### The gate (R320) -/

/-- What a gate edge does with one channel. -/
def State.gateCh (g : Nat) (high : Bool) (s : State) (c : Nat) : State :=
  let x := s.ticCh c
  if !s.padIn 13 || !x.armed || !x.args.gate || s.ap Fld.ticChCfg_GATE_SEL c != g then s
  else if high then (s.setTicCh c { x with begun := true }).ticSample c
  else if x.live && x.startAt.isNone && x.stopAt.isNone then s.setTicCh c { x with live := false }
  else s

/-- The gate balls after an edge. -/
def State.gateMoved (s : State) (g : Nat) (high : Bool) : State :=
  { s with tic := if g = 0 then { s.tic with gate0 := high } else { s.tic with gate1 := high } }

theorem State.ticGateEdge_eq (s : State) (g : Nat) (high : Bool) : s.ticGateEdge g high = (s.gateMoved g high).forTic (State.gateCh g high) := rfl

section Gate

variable {s : State} {g : Nat} {high : Bool} {c : Nat}

theorem State.gateCh_ne (u : State) (k c : Nat) (h : c ≠ k) : (u.gateCh g high k).ticCh c = u.ticCh c := by
  unfold State.gateCh
  dsimp only
  split
  · rfl
  split
  · rw [State.ticSample_ne h, State.setTicCh_ticCh_ne u h]
  split
  · exact State.setTicCh_ticCh_ne u h _
  · rfl

theorem State.gateCh_chans (u : State) (k : Nat) : TicChans u (u.gateCh g high k) := by
  unfold State.gateCh
  dsimp only
  split
  · exact TicChans.refl u
  split
  · exact (TicChans.setTicCh u k _).trans (TicChans.ticSample _ k)
  split
  · exact TicChans.setTicCh u k _
  · exact TicChans.refl u

/-- What of the part decides whether a gate edge concerns a channel. -/
structure SameGate (s u : State) : Prop where
  pad : u.padIn 13 = s.padIn 13
  sel : ∀ c, u.ap Fld.ticChCfg_GATE_SEL c = s.ap Fld.ticChCfg_GATE_SEL c

theorem TicChans.sameGate {s t : State} (h : TicChans s t) : SameGate s t := by
  refine ⟨?_, fun c => State.ap_of_regs (h.frame .regs rfl) _ c 0⟩
  have hpwr : t.pwr = s.pwr := h.frame .pwr rfl
  simp only [State.padIn, hpwr]

theorem SameGate.trans {s t u : State} (h : SameGate s t) (g : SameGate t u) : SameGate s u :=
  ⟨g.pad.trans h.pad, fun c => (g.sel c).trans (h.sel c)⟩

theorem State.gateCh_off {u : State} (h : u.padIn 13 = false ∨ (u.ticCh c).armed = false ∨ (u.ticCh c).args.gate = false ∨
    u.ap Fld.ticChCfg_GATE_SEL c ≠ g) : u.gateCh g high c = u := by
  refine if_pos ?_
  rcases h with h | h | h | h <;> simp [h]

variable {u : State} (hpad : u.padIn 13 = true) (harmed : (u.ticCh c).armed = true) (hgate : (u.ticCh c).args.gate = true)
  (hsel : u.ap Fld.ticChCfg_GATE_SEL c = g)
include hpad harmed hgate hsel

theorem State.gateCh_high : ((u.gateCh g true c).ticCh c).begun = true := by
  have hrun : u.gateCh g true c = (u.setTicCh c { u.ticCh c with begun := true }).ticSample c := by
    simp [State.gateCh, hpad, harmed, hgate, hsel]
  rw [hrun, State.ticSample_keeps _ c TicCh.begun (fun _ => rfl), State.setTicCh_ticCh_self]

theorem State.gateCh_low (hstart : (u.ticCh c).startAt = none) (hstop : (u.ticCh c).stopAt = none) :
    (u.gateCh g false c).ticCh c = { u.ticCh c with live := false } := by
  cases hlive : (u.ticCh c).live
  · have hrun : u.gateCh g false c = u := by simp [State.gateCh, hpad, harmed, hgate, hsel, hlive]
    rw [hrun, ← hlive]
  · have hrun : u.gateCh g false c = u.setTicCh c { u.ticCh c with live := false } := by
      simp [State.gateCh, hpad, harmed, hgate, hsel, hlive, hstart, hstop]
    rw [hrun, State.setTicCh_ticCh_self]

end Gate

/-- What a gate edge leaves. -/
theorem State.ticGateEdge_gives (s : State) (g : Nat) (high : Bool) {t : State} (ht : t = s.ticGateEdge g high) :
    (g = 0 → t.tic.gate0 = high ∧ t.tic.gate1 = s.tic.gate1) ∧ (g = 1 → t.tic.gate1 = high ∧ t.tic.gate0 = s.tic.gate0) ∧
    (∀ c, c < 16 → s.padIn 13 = true → high = true → (s.ticCh c).armed = true → (s.ticCh c).args.gate = true →
      s.ap Fld.ticChCfg_GATE_SEL c = g → (t.ticCh c).begun = true) ∧
    (∀ c, c < 16 → s.padIn 13 = true → high = false → (s.ticCh c).armed = true → (s.ticCh c).args.gate = true →
      s.ap Fld.ticChCfg_GATE_SEL c = g → (s.ticCh c).startAt = none → (s.ticCh c).stopAt = none → t.ticCh c = { s.ticCh c with live := false }) ∧
    (∀ c, c < 16 → (s.padIn 13 = false ∨ (s.ticCh c).armed = false ∨ (s.ticCh c).args.gate = false ∨ s.ap Fld.ticChCfg_GATE_SEL c ≠ g) →
      t.ticCh c = s.ticCh c) := by
  rw [State.ticGateEdge_eq] at ht
  have hmoved : (s.gateMoved g high).tic = if g = 0 then { s.tic with gate0 := high } else { s.tic with gate1 := high } := rfl
  have hstart : ∀ c, (s.gateMoved g high).ticCh c = s.ticCh c := by
    intro c
    rw [State.ticCh, hmoved]
    split <;> rfl
  have hsame : SameGate s (s.gateMoved g high) := ⟨rfl, fun _ => rfl⟩
  generalize s.gateMoved g high = u at *
  have htic : t.tic = { u.tic with chans := t.tic.chans } := ht ▸ (TicChans.forTic State.gateCh_chans u).tic
  have hone : ∀ c, c < 16 → ∃ v, SameGate s v ∧ v.ticCh c = s.ticCh c ∧ t.ticCh c = (v.gateCh g high c).ticCh c := by
    intro c hc
    obtain ⟨v, hv, hvc, htc⟩ := State.forTic_self (s := u) State.gateCh_ne (SameGate s)
      (fun w k hw => hw.trans (State.gateCh_chans w k).sameGate) hsame hc
    exact ⟨v, hv, hvc.trans (hstart c), ht ▸ htc⟩
  refine ⟨fun h => ?_, fun h => ?_, fun c hc hpad hhigh harmed hgate hsel => ?_,
    fun c hc hpad hlow harmed hgate hsel hs hp => ?_, fun c hc hoff => ?_⟩
  · rw [htic, hmoved, if_pos h]
    exact ⟨rfl, rfl⟩
  · rw [htic, hmoved, if_neg (by omega)]
    exact ⟨rfl, rfl⟩
  · obtain ⟨v, ⟨hvpad, hvsel⟩, hvc, htc⟩ := hone c hc
    subst hhigh
    rw [htc]
    exact State.gateCh_high (hvpad.trans hpad) (by rw [hvc, harmed]) (by rw [hvc, hgate]) ((hvsel c).trans hsel)
  · obtain ⟨v, ⟨hvpad, hvsel⟩, hvc, htc⟩ := hone c hc
    subst hlow
    rw [htc, State.gateCh_low (hvpad.trans hpad) (by rw [hvc, harmed]) (by rw [hvc, hgate]) ((hvsel c).trans hsel) (by rw [hvc, hs])
      (by rw [hvc, hp]), hvc]
  · obtain ⟨v, ⟨hvpad, hvsel⟩, hvc, htc⟩ := hone c hc
    rw [htc, State.gateCh_off (by rw [hvc, hvpad, hvsel]; exact hoff), hvc]

/-! ### The time base (R315) -/

/-- What the loss of the time base does with one channel. -/
def State.tbLossCh (s : State) (c : Nat) : State :=
  if (s.ticCh c).armed && decide ((s.ticCh c).args.base = 1) then
    (s.ticAbandon c).setTicCh c { (s.ticAbandon c).ticCh c with waitBase := true }
  else s

/-- What the return of the time base does with one channel. -/
def State.tbOkCh (s : State) (c : Nat) : State := (s.setTicCh c { s.ticCh c with waitBase := false }).ticSample c

section Base

variable {s : State} {c : Nat}

theorem State.tbLossCh_ne (u : State) (k c : Nat) (h : c ≠ k) : (u.tbLossCh k).ticCh c = u.ticCh c := by
  unfold State.tbLossCh
  split
  · rw [State.setTicCh_ticCh_ne _ h, State.ticAbandon_ne h]
  · rfl

theorem State.tbLossCh_chans (u : State) (k : Nat) : TicChans u (u.tbLossCh k) := by
  unfold State.tbLossCh
  split
  · exact (TicChans.ticAbandon u k).trans (TicChans.setTicCh _ k _)
  · exact TicChans.refl u

theorem State.tbLossCh_paused (h : (s.ticCh c).armed = true) (hbase : (s.ticCh c).args.base = 1) :
    ((s.tbLossCh c).ticCh c).waitBase = true ∧ ((s.tbLossCh c).ticCh c).live = false := by
  rw [State.tbLossCh, if_pos (by simp [h, hbase]), State.setTicCh_ticCh_self]
  refine ⟨rfl, ?_⟩
  cases hlive : (s.ticCh c).live
  · rw [State.ticAbandon_idle hlive]
    exact hlive
  · rw [State.ticAbandon_self hlive]

theorem State.tbLossCh_off (h : (s.ticCh c).armed = false ∨ (s.ticCh c).args.base ≠ 1) : s.tbLossCh c = s :=
  if_neg (by rcases h with h | h <;> simp [h])

/-- The counter with its time base lost, or back. -/
def State.tbSet (s : State) (event ok locked : Bool) : State :=
  { s.raiseIf event Ev.ticTbState (b2n ok) with tic := { s.tic with tbOk := ok, tbLock := locked } }

theorem State.ticTbLoss_eq (s : State) (locked : Bool) : s.ticTbLoss locked = (s.tbSet s.tic.tbOk false locked).forTic State.tbLossCh := rfl

theorem State.ticTbOk_eq (hen : s.apB Fld.ticCfg_TB_EN = true) (hpad : s.padIn 13 = true) :
    s.ticTbOk = (s.tbSet (!s.tic.tbOk) true true).forTic State.tbOkCh := by
  rw [State.ticTbOk, if_neg (by simp [hen, hpad])]
  rfl

theorem State.tbOkCh_ne (u : State) (k c : Nat) (h : c ≠ k) : (u.tbOkCh k).ticCh c = u.ticCh c := by
  rw [State.tbOkCh, State.ticSample_ne h, State.setTicCh_ticCh_ne u h]

theorem State.tbOkCh_chans (u : State) (k : Nat) : TicChans u (u.tbOkCh k) := (TicChans.setTicCh u k _).trans (TicChans.ticSample _ k)

theorem State.tbOkCh_waitBase : ((s.tbOkCh c).ticCh c).waitBase = false := by
  rw [State.tbOkCh, State.ticSample_keeps _ c TicCh.waitBase (fun _ => rfl), State.setTicCh_ticCh_self]

end Base

/-! ### The statement -/

theorem State.ticSample_touches_tic (s : State) (c : Nat) (x : TicCh) : Touches [.tic] s ((s.setTicCh c x).ticSample c) :=
  (State.setTicCh_touches s _ _ rfl).step (State.ticSample_touches _ _ rfl)

/-- Settles O48: what an event does with a channel, and that it leaves the others. -/
theorem intervalCounter : Obligations.IntervalCounter := by
  refine ⟨?arm, ?stop, ?start, ?first, ?second, ?rearm, ?timeout, ?gate, ?loss, ?back⟩
  case arm =>
    intro s d c hup hwf hc hacc
    obtain ⟨hact, hbusy, hsusp, hdrain, hothers⟩ := State.ticArm_gives hc hacc rfl
    have hframe : Touches (cplParts ++ [Part.tic, .objs]) s (s.ticArm false d) := State.ticArm_touches s _ _ rfl
    exact gives_effect rfl hup hwf ⟨hact, hbusy, hsusp, hdrain, hothers, hframe.carry⟩
  case stop =>
    intro s d c hup hwf hc hphase hacc
    obtain ⟨hres, hempty, hcpl, hidle, hothers, hframe⟩ := State.ticStop_gives hc hphase hacc rfl
    exact gives_effect rfl hup hwf ⟨hres, hempty, hcpl, hidle, hothers, hframe.carry⟩
  case start =>
    intro s c n code x hup hwf hx hlive hstart hstop hsrc
    subst hx
    have hrun : s.ticEdge c false n code = s.setTicCh c { s.ticCh c with startAt := some (n, s.ticFine c code) } := by
      simp [State.ticEdge, hlive, hsrc, hstart, hstop]
    exact gives_effect (congrArg (effect _ s) hrun) hup hwf ⟨State.setTicCh_ticCh_self _ _ _, fun k hk => State.setTicCh_ticCh_ne s hk _,
      (State.setTicCh_touches s _ _ rfl).carry⟩
  case first =>
    intro s c n code x hup hwf hx hlive hstart hstop hsrc
    subst hx
    by_cases hpair : (s.ticCh c).pair = true
    · have hrun : s.ticEdge c true n code = s := by simp [State.ticEdge, hlive, hsrc, hstart, hstop, hpair]
      exact gives_effect (congrArg (effect _ s) hrun) hup hwf ⟨fun _ => rfl, fun h => absurd (hpair.symm.trans h) (by decide), fun _ _ => rfl,
        (Touches.refl _ _).carry⟩
    · have hrun : s.ticEdge c true n code = s.setTicCh c { s.ticCh c with stopAt := some (n, s.ticFine c code) } := by
        simp [State.ticEdge, hlive, hsrc, hstart, hstop, hpair]
      exact gives_effect (congrArg (effect _ s) hrun) hup hwf ⟨fun h => absurd h hpair, fun _ => State.setTicCh_ticCh_self _ _ _,
        fun k hk => State.setTicCh_ticCh_ne s hk _, (State.setTicCh_touches s _ _ rfl).carry⟩
  case second =>
    intro s c n code a x d v hup hwf hx hlive hstart hstop hsrc hd
    have hrun := State.ticEdge_taken hx hlive hstart hstop hsrc hd
    have hself : (s.edgeTaken c n code x d).ticCh c = (s.edged c n code x).taken d := State.edgeTaken_self
    have hothers : ∀ k, k ≠ c → (s.edgeTaken c n code x d).ticCh k = s.ticCh k := fun _ hk => State.edgeTaken_ne hk
    have hkept : ((s.edged c n code x).taken d).kept = x.kept + b2n ((s.edged c n code x).keeps d) := rfl
    refine ⟨fun hfar hv hn hpos => ?_, fun horder hn => ?_, fun hlo hhi hkeep hn => ?_, fun hfar hn hrep => ?_⟩
    · have hkeeps : (s.edged c n code x).keeps d = true := TicCh.keeps_far hfar
      rw [hkept, hkeeps, if_neg (show ¬ x.kept + b2n true = x.args.n from hn)] at hrun
      subst hv
      refine gives_effect (congrArg (effect _ s) hrun) hup hwf ⟨State.edgeTaken_far hfar hpos, hothers, Touches.carry ?_⟩
      refine State.edgeTaken_touches rfl ?_
      rw [State.ticCounted_far hfar]
      exact Touches.refl _ _
    · have hisOrder : ticIsOrder d = true := decide_eq_true horder
      have hkeeps : (s.edged c n code x).keeps d = false := by simp [TicCh.keeps, hisOrder]
      rw [hkept, hkeeps, if_neg (show ¬ x.kept + b2n false = x.args.n from hn.ne)] at hrun
      have hcounted := State.ticCounted_order (s := s.setTicCh c (s.edged c n code x)) (c := c) horder
      have hcount : (s.edgeTaken c n code x d).count Fld.ticOrderCnt_VAL c = s.counted Fld.ticOrderCnt_VAL c := by
        rw [State.edgeTaken, hcounted]
        exact State.count_bumped_at c 1 (State.setTicCh_touches (ps := [.tic]) s _ _ rfl) (State.setTicCh_touches (ps := [.tic]) _ _ _ rfl) rfl rfl
          (by decide)
      have hframe : Touches [.tic, .rc .ticOrderCnt] s (s.edgeTaken c n code x d) := by
        refine State.edgeTaken_touches rfl ?_
        rw [hcounted]
        exact State.bump_touches _ _ _ _ rfl
      refine gives_effect (congrArg (effect _ s) hrun) hup hwf ⟨(congrArg TicCh.order hself).trans ?_, (congrArg TicCh.kept hself).trans ?_,
        (congrArg TicCh.sum hself).trans ?_, (congrArg TicCh.dead hself).trans rfl, hcount, hothers, hframe.carry⟩
      · exact congrArg (fun b => x.order + b2n b) hisOrder
      · exact hkept.trans (congrArg (fun b => x.kept + b2n b) hkeeps)
      · exact if_neg (by simp [hkeeps])
    · have hnear : ticIsNear d = true := ticIsNear_near hlo hhi
      have hkeeps : (s.edged c n code x).keeps d = false := by simp [TicCh.keeps, hnear, State.edged, hkeep]
      rw [hkept, hkeeps, if_neg (show ¬ x.kept + b2n false = x.args.n from hn.ne)] at hrun
      have hcounted := State.ticCounted_near (s := s.setTicCh c (s.edged c n code x)) (c := c) hnear
      have hcount : (s.edgeTaken c n code x d).count Fld.ticNearCnt_VAL c = s.counted Fld.ticNearCnt_VAL c := by
        rw [State.edgeTaken, hcounted]
        exact State.count_bumped_at c 1 (State.setTicCh_touches (ps := [.tic]) s _ _ rfl) (State.setTicCh_touches (ps := [.tic]) _ _ _ rfl) rfl rfl
          (by decide)
      have hframe : Touches [.tic, .rc .ticNearCnt] s (s.edgeTaken c n code x d) := by
        refine State.edgeTaken_touches rfl ?_
        rw [hcounted]
        exact State.bump_touches _ _ _ _ rfl
      refine gives_effect (congrArg (effect _ s) hrun) hup hwf ⟨(congrArg TicCh.near hself).trans ?_, (congrArg TicCh.kept hself).trans ?_,
        (congrArg TicCh.lastVal hself).trans ?_, hcount, hothers, hframe.carry⟩
      · exact congrArg (fun b => x.near + b2n b) hnear
      · exact hkept.trans (congrArg (fun b => x.kept + b2n b) hkeeps)
      · exact congrArg (fun b => (if b = true then ticNear else d) + x.ofs * 2 ^ 45) hnear
    · have hkeeps : (s.edged c n code x).keeps d = true := TicCh.keeps_far hfar
      have hfull : ((s.edged c n code x).taken d).kept = x.args.n := by
        rw [hkept, hkeeps, ← hn]
        rfl
      rw [if_pos hfull] at hrun
      obtain ⟨hend, hrest⟩ := State.ticEnd_gives (s := s.edgeTaken c n code x d) (c := c) (part := false) (by
        rw [hself]
        exact (Bool.and_true _).trans hrep)
      rw [hself] at hend
      have hfirst : Touches (evtParts ++ [Part.regs, .tic, .cal]) s (s.edgeTaken c n code x d) := by
        refine State.edgeTaken_touches rfl ?_
        rw [State.ticCounted_far hfar]
        exact Touches.refl _ _
      have hframe : Touches (evtParts ++ [Part.regs, .tic, .cal]) s ((s.edgeTaken c n code x d).ticEnd c false) :=
        hfirst.step (State.ticEnd_touches _ _ _ rfl)
      refine gives_effect (congrArg (effect _ s) hrun) hup hwf ⟨congrArg TicCh.armed hend, congrArg TicCh.live hend,
        (congrArg TicCh.kept hend).trans hfull, (congrArg TicCh.result hend).trans ?_, fun k hk => (hrest k hk).trans (hothers k hk), hframe.carry⟩
      rw [State.carry_ticCh, hend]
      have hcounted := State.ticCounted_far (s := s.setTicCh c (s.edged c n code x)) (c := c) hfar
      rw [State.edgeTaken, hcounted]
      rfl
  case rearm =>
    intro s c hup hc
    have hself := s.setTicCh_ticCh_self c { s.ticCh c with dead := false }
    have hkeeps : ∀ {α : Type} (g : TicCh → α), (∀ u x, g (State.sampling u c x) = g x) →
        g (((s.setTicCh c { s.ticCh c with dead := false }).ticSample c).ticCh c) = g { s.ticCh c with dead := false } := fun g hg =>
      (State.ticSample_keeps _ c g (hg _)).trans (congrArg g hself)
    refine gives_effect rfl hup (decide_eq_true hc) ⟨hkeeps TicCh.dead fun _ _ => rfl, hkeeps TicCh.kept fun _ _ => rfl,
      hkeeps TicCh.armed fun _ _ => rfl, fun h => ?_, fun k hk => (State.ticSample_ne hk).trans (State.setTicCh_ticCh_ne s hk _),
      (s.ticSample_touches_tic c _).carry⟩
    have hnot : (s.setTicCh c { s.ticCh c with dead := false }).ticMay c = false := by
      rw [State.ticMay, hself]
      simp [h]
    rw [State.carry_ticCh, State.ticSample_not (.inl hnot), hself]
  case timeout =>
    intro s c hup hc hlive
    have hrun : (if (s.ticCh c).live then (s.ticAbandon c).ticSample c else s) = (s.ticAbandon c).ticSample c := if_pos hlive
    have hself := State.ticAbandon_self hlive
    have hmay := State.ticMay_ticAbandon hlive
    have hcount : ((s.ticAbandon c).ticSample c).count Fld.ticTmoCnt_VAL c = s.counted Fld.ticTmoCnt_VAL c := by
      rw [State.ticAbandon, if_pos hlive]
      exact State.count_bumped_at c 1 (Touches.refl [] s) ((State.setTicCh_touches (ps := [.tic]) _ _ _ rfl).step (State.ticSample_touches _ _ rfl)) rfl rfl
        (by decide)
    have hframe : Touches [.tic, .rc .ticTmoCnt] s ((s.ticAbandon c).ticSample c) :=
      (State.ticAbandon_touches s c rfl).step (State.ticSample_touches _ _ rfl)
    refine gives_effect (congrArg (effect _ s) hrun) hup (decide_eq_true hc) ⟨?_, hcount, fun h => ?_, fun h => ?_, ?_,
      fun k hk => (State.ticSample_ne hk).trans (State.ticAbandon_ne hk), hframe.carry⟩
    · exact (State.ticSample_keeps _ c TicCh.timeout fun _ => rfl).trans (congrArg TicCh.timeout hself :)
    · rw [State.carry_ticCh, State.ticSample_go (hmay.trans h) (by rw [hself]), State.setTicCh_ticCh_self]
      exact ⟨rfl, rfl, rfl⟩
    · rw [State.carry_ticCh, State.ticSample_not (.inl (hmay.trans h)), hself]
    · exact (State.ticSample_keeps _ c TicCh.kept fun _ => rfl).trans (congrArg TicCh.kept hself :)
  case gate =>
    intro s g high hup hg
    obtain ⟨h0, h1, hhigh, hlow, hoff⟩ := State.ticGateEdge_gives s g high rfl
    exact gives_effect rfl hup (decide_eq_true hg) ⟨h0, h1, hhigh, hlow, hoff, (State.ticGateEdge_touches s g high rfl).carry⟩
  case loss =>
    intro s locked hup
    have hset : (s.tbSet s.tic.tbOk false locked).tic = { s.tic with tbOk := false, tbLock := locked } := rfl
    have hch : ∀ c, (s.tbSet s.tic.tbOk false locked).ticCh c = s.ticCh c := fun _ => rfl
    have hrun := s.ticTbLoss_eq locked
    have htic := (TicChans.forTic State.tbLossCh_chans (s.tbSet s.tic.tbOk false locked)).tic
    have hone := fun c hc => State.forTic_self (s := s.tbSet s.tic.tbOk false locked) (c := c) State.tbLossCh_ne (fun _ => True)
      (fun _ _ _ => trivial) trivial hc
    have hframe : Touches (evtParts ++ [Part.tic, .rc .ticTmoCnt]) s (s.ticTbLoss locked) := State.ticTbLoss_touches s locked rfl
    generalize s.tbSet s.tic.tbOk false locked = u at *
    have hexec : exec (.ticTbLoss locked) s = effect true s (s.ticTbLoss locked) := rfl
    generalize s.ticTbLoss locked = t at *
    rw [← hrun] at htic hone
    have hok : t.tic.tbOk = false ∧ t.tic.tbLock = locked := by
      rw [htic, hset]
      exact ⟨rfl, rfl⟩
    refine gives_effect hexec hup rfl ⟨hok.1, hok.2, fun c hc harm hbase => ?_, fun c hc hoff => ?_, hframe.carry⟩
    · obtain ⟨v, -, hv, htc⟩ := hone c hc
      rw [State.carry_ticCh, htc]
      exact State.tbLossCh_paused (by rw [hv, hch, harm]) (by rw [hv, hch, hbase])
    · obtain ⟨v, -, hv, htc⟩ := hone c hc
      rw [State.carry_ticCh, htc, State.tbLossCh_off (by rw [hv, hch]; exact hoff), hv, hch]
  case back =>
    intro s hup hen hpad
    have hset : (s.tbSet (!s.tic.tbOk) true true).tic = { s.tic with tbOk := true, tbLock := true } := rfl
    have hrun := State.ticTbOk_eq hen hpad
    have htic := (TicChans.forTic State.tbOkCh_chans (s.tbSet (!s.tic.tbOk) true true)).tic
    have hone := fun c hc => State.forTic_self (s := s.tbSet (!s.tic.tbOk) true true) (c := c) State.tbOkCh_ne (fun _ => True)
      (fun _ _ _ => trivial) trivial hc
    have hframe : Touches (evtParts ++ [Part.tic]) s s.ticTbOk := State.ticTbOk_touches s rfl
    generalize s.tbSet (!s.tic.tbOk) true true = u at *
    have hexec : exec .ticTbOk s = effect true s s.ticTbOk := rfl
    generalize s.ticTbOk = t at *
    rw [← hrun] at htic hone
    have hok : t.tic.tbOk = true ∧ t.tic.tbLock = true := by
      rw [htic, hset]
      exact ⟨rfl, rfl⟩
    refine gives_effect hexec hup rfl ⟨hok.1, hok.2, fun c hc => ?_, hframe.carry⟩
    obtain ⟨v, -, -, htc⟩ := hone c hc
    rw [State.carry_ticCh, htc]
    exact State.tbOkCh_waitBase

end Sys2Proof.Machine
end

section
/-! ## Gate control lists, preemption and bound queries (R130, R131, R133, R134, R152) -/

set_option Elab.async false

namespace Sys2Proof.Machine

/-! ### Preemption -/

/-- From `x` to `y` a port may have lost its copy in transfer to a preemption, and nothing else. -/
def PortSt.sameButTx (x y : PortSt) : Prop := ∃ t f, y = { x with tx := t, frag := f }

section Preempt

variable (s : State) (p : Nat) (express : Bool)

theorem State.preempt_port_self : ((s.port p)).sameButTx ((s.preempt p express).port p) := by
  have hrefl : (s.port p).sameButTx (s.port p) := ⟨_, _, rfl⟩
  unfold State.preempt
  split
  · exact hrefl
  split
  · exact ⟨_, _, State.setPort_port_self _ _ _⟩
  · exact hrefl

theorem State.preempt_port_ne {q : Nat} (h : q ≠ p) : (s.preempt p express).port q = s.port q := by
  unfold State.preempt
  split
  · rfl
  split
  · exact State.setPort_port_ne (s.setCopy _ _) _ h
  · rfl

/-- What a preemption leaves. -/
theorem State.preempt_gives {s : State} {p c : Nat} {x : Copy} (hmid : s.midTx p = some (c, x)) (hpoint : s.preemptPoint p x = true)
    (hgate : bitAt (s.port p).gates x.q = false) :
    (s.preempt p false).copy? c = some { x with txDone := s.txBytes p x } ∧ ((s.preempt p false).port p).tx = none ∧
    ((s.preempt p false).port p).frag = some c := by
  have hrun : s.preempt p false = (s.setCopy c { x with txDone := s.txBytes p x }).setPort p { s.port p with tx := none, frag := some c } := by
    unfold State.preempt
    rw [hmid]
    simp only [hgate, hpoint, Bool.not_false, Bool.or_true, Bool.and_self, if_true]
    rfl
  rw [hrun]
  refine ⟨State.setCopy_copy?_self s c _, ?_, ?_⟩ <;> rw [State.setPort_port_self]

end Preempt

/-! ### A change of the gates (R130) -/

/-- The next entry of the operational list. -/
def PortSt.nextEntry (x : PortSt) (g : Gcl) : Nat := if x.gateIx + 1 < g.entries.length then x.gateIx + 1 else 0

/-- A port at its next entry. -/
def PortSt.entered (x : PortSt) (g : Gcl) : PortSt := { x.enterEntry (x.nextEntry g) with sqOpen := x.sqOpen && decide (x.nextEntry g ≠ 0) }

section Gates

variable {s : State} {p : Nat} {g : Gcl} (hlive : Gcl.live (s.port p).gcl = some g) (hext : (s.port p).gateExt = false)
include hlive hext

theorem State.gateChange_next (h : (s.port p).gateIx + 1 < g.entries.length ∨
    (s.port p).gclPend.any (fun y => decide (s.gclLeft y ≤ g.cycExt)) = false) :
    s.gateChange p = (s.setPort p ((s.port p).entered g)).preempt p false := by
  have hstay : ¬ ((s.port p).nextEntry g = 0 ∧ (s.port p).gclPend.any (fun y => decide (s.gclLeft y ≤ g.cycExt)) = true) := by
    rintro ⟨hzero, hpend⟩
    rcases h with h | h
    · simp [PortSt.nextEntry, h] at hzero
    · simp [h] at hpend
  unfold State.gateChange
  dsimp only
  rw [hlive]
  simp only [hext, Bool.false_eq_true, if_false]
  exact if_neg hstay

theorem State.gateChange_extends {y : Gcl} (hlast : g.entries.length ≤ (s.port p).gateIx + 1) (hpend : (s.port p).gclPend = some y)
    (hleft : s.gclLeft y ≤ g.cycExt) : s.gateChange p = s.setPort p { s.port p with gateExt := true, sqOpen := false } := by
  unfold State.gateChange
  dsimp only
  rw [hlive]
  simp only [hext, Bool.false_eq_true, if_false]
  refine if_pos ⟨if_neg (by omega), ?_⟩
  simp [hpend, hleft]

omit hext in
/-- A port at its next entry: what the list says of it. -/
theorem PortSt.entered_gives : ((s.port p).entered g).gates = (s.port p).entryGates ((s.port p).nextEntry g) ∧
    ((s.port p).entered g).hold = holdAfter (s.port p).hold ((g.entries.getD ((s.port p).nextEntry g) ⟨0, 0, 0⟩).op) := by
  refine ⟨rfl, ?_⟩
  simp [PortSt.entered, PortSt.enterEntry, hlive]

end Gates

/-- A copy in transfer is not changed by the gates. -/
theorem State.midTx_setPort {s : State} {p : Nat} {y : PortSt} (htx : y.tx = (s.port p).tx) (hver : y.verified = (s.port p).verified) :
    (s.setPort p y).midTx p = s.midTx p := by
  have hself := s.setPort_port_self p y
  have hpreempt : (s.setPort p y).portPreempt p = s.portPreempt p := by
    simp only [State.portPreempt, hself, hver]
    rfl
  simp only [State.midTx, hself, htx, State.preemptable, hpreempt]
  rfl

/-! ### A list that takes force, and the commands of lists (R131, R152) -/

/-- A port with its pending list in force. -/
def PortSt.activated (x : PortSt) (g : Gcl) : PortSt :=
  ({ x with gcl := Gcl.live (some g), gclPend := none, sqOpen := false, gateExt := false
            hold := x.hold && decide (g.entries ≠ []) } : PortSt).enterEntry 0

theorem State.gclActivate_eq {s : State} {p : Nat} {g : Gcl} (h : (s.port p).gclPend = some g) :
    s.gclActivate p = ((s.setPort p ((s.port p).activated g)).preempt p false).raise Ev.portGclActive := by
  unfold State.gclActivate
  dsimp only
  rw [h]
  rfl

section Commands

variable {s : State} {d : CmdDesc}

theorem State.port_startCmd (s : State) (d : CmdDesc) (p : Nat) : (s.startCmd d).port p = s.port p := by
  rw [State.startCmd_eq]
  rfl

/-- The buffer of GCL_GET for a list. -/
def gclBuffer (p : Nat) (g : Gcl) : List Byte :=
  leBytes p 2 ++ leBytes g.entries.length 2 ++ leBytes g.cycle 4 ++ leBytes g.baseS 6 ++ leBytes g.baseNs 4 ++ leBytes g.cycExt 2 ++
    leBytes 0 12 ++ (g.entries.map (fun e => leBytes (e.gates + e.op * 512) 2 ++ leBytes 0 2 ++ leBytes e.interval 4)).flatten

theorem gclBuffer_head (p : Nat) (g : Gcl) : (gclBuffer p g).take 8 = leBytes p 2 ++ leBytes g.entries.length 2 ++ leBytes g.cycle 4 := by
  have hlen : (leBytes p 2 ++ leBytes g.entries.length 2 ++ leBytes g.cycle 4).length = 8 := by simp [leBytes]
  simp only [gclBuffer, List.append_assoc] at hlen ⊢
  rw [← List.append_assoc, ← List.append_assoc, List.append_assoc (leBytes p 2)]
  exact List.take_left' hlen

theorem State.gclGet_eq {c : Checks} {g : Gcl} (hacc : s.Accepts d 0x9802 c) (hc : c = { unitChecks d true .port false [Rdy.fabric] with
      absent := !(d.badForm true) && decide (d.buf 0 2 < 96) && !(s.portExists (d.buf 0 2))
      badForm := (unitChecks d true .port false [Rdy.fabric]).badForm || decide (2 ≤ d.buf 2 1) ||
        !(((d.ext.take d.extLen).drop 3).take 29 |>.all (fun b => decide (b = 0)))
      badArg := decide (95 < d.buf 0 2) || s.portInactive (d.buf 0 2) || decide (d.extLen < 2080) })
    (hnow : bitAt (d.buf 2 1) 0 = false) (hg : (s.port (d.buf 0 2)).gcl = some g) :
    s.gclGet d = (s.startCmd d).complete d 0x9802 .ok 0 (leBytes g.entries.length 2) (gclBuffer (d.buf 0 2) g) := by
  subst hc
  unfold State.gclGet
  dsimp only
  rw [State.runCmd_accepted_free hacc rfl, State.port_startCmd, hg, hnow]
  rfl

theorem State.boundQuery_eq {b : Nat} (hfree : s.AdmFree d 0xA001)
    (hacc : s.Accepts d 0xA001 { unitChecks d true .sw false [Rdy.fabric, Rdy.admission] with
      absent := s.flowAbsent d, badForm := (unitChecks d true .sw false [Rdy.fabric, Rdy.admission]).badForm || flowReserved d
      badArg := s.flowBad d none }) (hb : (s.admission (flowArgsOf d.objArgs) none).b = some b) :
    s.admTake 2 0xA001 d = (s.startCmd d).complete d 0xA001 .ok 0 (leBytes b 4 ++
      leBytes (s.admission (flowArgsOf d.objArgs) none).f 4 ++ leBytes (s.admission (flowArgsOf d.objArgs) none).fault 1) := by
  rw [State.admTake_free hfree]
  simp only [State.admRun, State.boundQueryNow, State.flowAbsent_startCmd, State.flowBad_startCmd]
  rw [State.checked_started hacc.2 rfl]
  simp only [State.admission_startCmd, hb]

/-- The list that GCL_SET brings. -/
def State.gclSent (s : State) (d : CmdDesc) : Gcl :=
  { cycle := d.buf 4 4, baseS := d.buf 8 6, baseNs := d.buf 14 4, cycExt := d.buf 18 2
    entries := (List.range (min (d.buf 2 2) 256)).map (fun k => d.gclEntry k)
    start := s.gclChange (d.buf 4 4) (d.buf 8 6 * 1000000000 + d.buf 14 4) }

/-- The port of GCL_SET with that list. -/
def State.gclWaits (s : State) (d : CmdDesc) : State := s.setPort (d.buf 0 2) { s.port (d.buf 0 2) with gclPend := some (s.gclSent d) }

/-- The checks of GCL_SET. -/
def State.gclChecks (s : State) (d : CmdDesc) : Checks :=
  { unitChecks d true .port true [Rdy.fabric] with
    absent := !(d.badForm true) && decide (d.buf 0 2 < 96) && !(s.portExists (d.buf 0 2))
    badForm := (unitChecks d true .port true [Rdy.fabric]).badForm ||
      !(((d.ext.take d.extLen).drop 20).take 12 |>.all (fun b => decide (b = 0))) ||
      (List.range (min (d.buf 2 2) 256)).any (fun k => decide (d.buf (32 + 8 * k) 2 / 2048 ≠ 0) || decide (d.buf (34 + 8 * k) 2 ≠ 0))
    badArg := decide (95 < d.buf 0 2) || s.portInactive (d.buf 0 2) || decide (256 < d.buf 2 2) ||
      decide (d.extLen < 32 + 8 * d.buf 2 2) || decide (d.buf 4 4 < 1000) || decide (4000000000 < d.buf 4 4) ||
      decide (1000000000 ≤ d.buf 14 4) ||
      ((List.range (min (d.buf 2 2) 256)).map (fun k => d.gclEntry k)).any
        (fun e => decide (e.interval < 64) || decide (1000000000 < e.interval) || decide (2 < e.op)) ||
      (decide (d.buf 2 2 ≠ 0) &&
        decide ((((List.range (min (d.buf 2 2) 256)).map (fun k => d.gclEntry k)).map (fun e => e.interval)).sum ≠ d.buf 4 4)) }

theorem State.gclChecks_startCmd (s : State) (d : CmdDesc) : (s.startCmd d).gclChecks d = s.gclChecks d := by
  rw [State.startCmd_eq]
  rfl

theorem State.gclSetNow_eq (s : State) (d : CmdDesc) : s.gclSetNow d = s.checked d 0x9801 (s.gclChecks d) (fun s =>
    match (s.gclWaits d).firstBroken (d.buf 0 2) with
    | some i => s.complete d 0x9801 .boundRefused 0 (leBytes (s.handleOf .flow i).toNat 4)
    | none => (s.gclWaits d).complete d 0x9801 .ok 0
        (leBytes 0 4 ++ leBytes ((s.gclSent d).start / 1000000000) 6 ++ leBytes ((s.gclSent d).start % 1000000000) 4)) := rfl

theorem State.gclSent_startCmd (s : State) (d : CmdDesc) : (s.startCmd d).gclSent d = s.gclSent d := by
  rw [State.startCmd_eq]
  rfl

theorem State.firstBroken_startCmd (s : State) (d : CmdDesc) (p : Nat) : ((s.startCmd d).gclWaits d).firstBroken p = (s.gclWaits d).firstBroken p := by
  rw [State.startCmd_eq]
  rfl

theorem State.gclSet_eq (hfree : s.AdmFree d 0x9801) (hacc : s.Accepts d 0x9801 (s.gclChecks d))
    (hbroken : (s.gclWaits d).firstBroken (d.buf 0 2) = none) :
    s.admTake 3 0x9801 d = ((s.startCmd d).gclWaits d).complete d 0x9801 .ok 0
      (leBytes 0 4 ++ leBytes ((s.gclSent d).start / 1000000000) 6 ++ leBytes ((s.gclSent d).start % 1000000000) 4) := by
  rw [State.admTake_free hfree]
  simp only [State.admRun, State.gclSetNow_eq, State.gclChecks_startCmd]
  rw [State.checked_started hacc.2 rfl]
  simp only [State.firstBroken_startCmd, hbroken, State.gclSent_startCmd]

theorem State.gclWaits_port (s : State) (d : CmdDesc) :
    ((s.startCmd d).gclWaits d).port (d.buf 0 2) = { s.port (d.buf 0 2) with gclPend := some (s.gclSent d) } ∧
    ∀ q, q ≠ d.buf 0 2 → ((s.startCmd d).gclWaits d).port q = s.port q := by
  refine ⟨?_, fun q hq => ?_⟩
  · rw [State.gclWaits, State.setPort_port_self, State.port_startCmd, State.gclSent_startCmd]
  · rw [State.gclWaits, State.setPort_port_ne _ _ hq, State.port_startCmd]

end Commands

/-! ### The statement -/

/-- Settles O27: a port takes the entry that its list says, and a preemption takes nothing from it but the copy in transfer. -/
theorem gatesAndBounds : Obligations.GatesAndBounds := by
  refine ⟨?next, ?extends', ?preempts, ?activate, ?verify, ?get, ?query, ?set⟩
  case next =>
    intro s p g hup hp hlive hext h
    have hrun := State.gateChange_next hlive hext h
    obtain ⟨hgates, hhold⟩ := PortSt.entered_gives hlive
    have hix : ((s.port p).entered g).gateIx = (s.port p).nextEntry g := rfl
    have hself := s.setPort_port_self p ((s.port p).entered g)
    have hothers : ∀ q, q ≠ p → (s.gateChange p).port q = s.port q := fun q hq => by
      rw [hrun, State.preempt_port_ne _ _ _ hq, State.setPort_port_ne s _ hq]
    have hport : ((s.port p).entered g).sameButTx ((s.gateChange p).port p) := by
      have hpre := State.preempt_port_self (s.setPort p ((s.port p).entered g)) p false
      rwa [hself, ← hrun] at hpre
    obtain ⟨tx, frag, hport⟩ := hport
    refine gives_effect rfl hup (decide_eq_true hp) ⟨?_, ?_, ?_, hothers, (State.gateChange_touches s p rfl).carry⟩
    all_goals
      rw [State.carry_port, hport]
    · exact hix
    · exact hgates.trans (congrArg _ hix.symm)
    · exact hhold.trans (congrArg (fun k => holdAfter (s.port p).hold ((g.entries.getD k ⟨0, 0, 0⟩).op)) hix.symm)
  case extends' =>
    intro s p g y hup hp hlive hext hlast hpend hleft
    have hrun := State.gateChange_extends hlive hext hlast hpend hleft
    exact gives_effect (congrArg (effect _ s) hrun) hup (decide_eq_true hp) ⟨State.setPort_port_self _ _ _,
      fun q hq => State.setPort_port_ne s _ hq, (hrun ▸ State.gateChange_touches (ps := [.fab]) s p rfl).carry⟩
  case preempts =>
    intro s p c x g hup hp hlive hext hmore hmid hpoint hgate
    have hrun := State.gateChange_next hlive hext (.inl hmore)
    have hself := s.setPort_port_self p ((s.port p).entered g)
    have hix : (s.port p).nextEntry g = (s.port p).gateIx + 1 := if_pos hmore
    obtain ⟨hcopy, htx, hfrag⟩ := State.preempt_gives (s := s.setPort p ((s.port p).entered g)) (p := p) (c := c) (x := x)
      ((State.midTx_setPort (y := (s.port p).entered g) rfl rfl).trans hmid) hpoint (by
        rw [hself, (PortSt.entered_gives hlive).1, hix]
        exact hgate)
    rw [← hrun] at hcopy htx hfrag
    exact gives_effect rfl hup (decide_eq_true hp) ⟨hcopy, htx, hfrag, (State.gateChange_touches s p rfl).carry⟩
  case activate =>
    intro s p g hup hp hpend
    have hrun := State.gclActivate_eq hpend
    have hself := s.setPort_port_self p ((s.port p).activated g)
    have hport : ((s.port p).activated g).sameButTx ((s.gclActivate p).port p) := by
      have hpre := State.preempt_port_self (s.setPort p ((s.port p).activated g)) p false
      rw [hself] at hpre
      rw [hrun]
      exact hpre
    have hothers : ∀ q, q ≠ p → (s.gclActivate p).port q = s.port q := fun q hq => by
      rw [hrun]
      exact (State.preempt_port_ne (s.setPort p ((s.port p).activated g)) p false hq).trans (State.setPort_port_ne s _ hq)
    have hframe : Touches (.fab :: evtParts) s (s.gclActivate p) := State.gclActivate_touches s p rfl
    obtain ⟨tx, frag, hport⟩ := hport
    refine gives_effect rfl hup (decide_eq_true hp) ⟨?_, ?_, ?_, ?_, hothers, hframe.carry⟩
    all_goals
      rw [State.carry_port, hport]
      rfl
  case verify =>
    intro s p ok hup hp
    have hport : ∀ q, (s.preemptVerify p ok).port q = (s.setPort p { s.port p with verified := ok, verifyFailed := !ok }).port q := by
      intro q
      have hraise : ∀ (u : State) c e, (u.raiseIf c e).fab = u.fab := fun u c e => State.raiseIf_touches (ps := Part.others .fab) u c e 0 0 0 rfl .fab rfl
      exact congrArg (fun f : FabState => Tab.get ({} : PortSt) f.ports q) (hraise _ _ _)
    refine gives_effect rfl hup (decide_eq_true hp) ⟨(hport p).trans (State.setPort_port_self _ _ _),
      fun q hq => (hport q).trans (State.setPort_port_ne s _ hq), (State.preemptVerify_touches s p ok rfl).carry⟩
  case get =>
    intro s d g hup hwf hacc hnow hg
    have hrun := State.gclGet_eq hacc rfl hnow hg
    refine gives_effect (congrArg (effect _ s) hrun) hup hwf ⟨⟨_, State.complete_lastCpl _ _ _ _ _ _ _, gclBuffer_head _ _⟩,
      (State.startComplete_touches _ _ _ _ _ _ _ rfl).carry⟩
  case query =>
    intro s d b hup hwf hfree hacc hb
    have hrun := State.boundQuery_eq hfree hacc hb
    exact gives_effect (congrArg (effect _ s) hrun) hup hwf ⟨State.complete_lastCpl _ _ _ _ _ _ _, (State.startComplete_touches _ _ _ _ _ _ _ rfl).carry⟩
  case set =>
    intro s d g hup hwf hfree hacc hg hbroken
    have hg : g = s.gclSent d := hg
    subst hg
    have hrun := State.gclSet_eq hfree hacc hbroken
    obtain ⟨hself, hothers⟩ := s.gclWaits_port d
    have hframe : Touches (.fab :: cplParts) s ((s.startCmd d).gclWaits d) :=
      (State.startCmd_touches s d rfl).step (State.setPort_touches _ _ _ rfl)
    refine gives_effect (congrArg (effect _ s) hrun) hup hwf ⟨hself, hothers, State.complete_lastCpl _ _ _ _ _ _ _,
      (hframe.step (State.complete_touches _ _ _ _ _ _ _ rfl)).carry⟩

end Sys2Proof.Machine
end

section
/-! ## The standby core: what it tracks, and the swaps that TCORE_SWAP asks for (R209 to R214) -/

set_option Elab.async false

namespace Sys2Proof.Machine

/-! ### Writes of TCORE_SWAP -/

/-- The state in which the bits of a TCORE_SWAP write take effect: the unlock is used up, and the register lists no error. -/
def State.swapOpen (s : State) (p : Path) : State :=
  { s.consumeKey p with regs := { s.regs with cfgErr := s.regs.cfgErr.filter (fun a => decide (a ≠ RegKey.addr ⟨.tcoreSwap, 0, 0⟩)) } }

section SwapOpen

variable {s : State} {p : Path}

@[simp] theorem State.swapOpen_tcore : (s.swapOpen p).tcore = s.tcore := rfl

@[simp] theorem State.swapOpen_clk : (s.swapOpen p).clk = s.clk := rfl

theorem State.swapOpen_unlocked : ((s.swapOpen p).key p).unlocked = false :=
  congrArg KeySt.unlocked (Tab.get_set_self _ _ _ _ : (s.swapOpen p).key p = { s.key p with unlocked := false })

theorem State.swapOpen_touches : Touches [.keys, .regs] s (s.swapOpen p) :=
  (State.consumeKey_touches s p rfl).set_regs rfl

theorem State.swapOpen_sameEvt : SameEvt s (s.swapOpen p) := .of_applied rfl rfl rfl fun _ _ => rfl

/-- TCORE is no part that a write of TCORE_SWAP switches. -/
theorem State.tcoreSwap_write (v : Nat) (hw : s.Writable ⟨.tcoreSwap, 0, 0⟩) :
    s.regSet p ⟨.tcoreSwap, 0, 0⟩ (BitVec.ofNat 32 v) allBits = s.swapWrite p (BitVec.ofNat 32 v).toNat :=
  State.regSet_owned rfl hw (by simp only [State.regOwn, and_allBits])
    (State.swapWrite_touches (ps := evtParts ++ [.clk, .keys, .regs, .tcore]) s p _ rfl |>.regDown rfl rfl rfl)

theorem State.swapWrite_locked {v : Nat} (h : s.unlocked p = false) :
    s.swapWrite p v = s.raise Ev.sysKeyReject (RegKey.addr ⟨.tcoreSwap, 0, 0⟩) := by
  simp only [State.swapWrite, State.keyed, h, Bool.false_eq_true, if_false]

theorem State.swapWrite_req (h : s.unlocked p = true) : s.swapWrite p 1 = (s.swapOpen p).swapReq := by
  simp only [State.swapWrite, State.keyed, h, if_true]
  rfl

theorem State.swapWrite_cancel (h : s.unlocked p = true) : s.swapWrite p 2 = (s.swapOpen p).swapCancel := by
  simp only [State.swapWrite, State.keyed, h, if_true]
  rfl

theorem State.swapWrite_out (h : s.unlocked p = true) : s.swapWrite p 4 = (s.swapOpen p).stbyOut := by
  simp only [State.swapWrite, State.keyed, h, if_true]
  rfl

theorem State.swapWrite_in (h : s.unlocked p = true) : s.swapWrite p 8 = (s.swapOpen p).stbyIn := by
  simp only [State.swapWrite, State.keyed, h, if_true]
  rfl

end SwapOpen

/-! ### Requests -/

theorem State.swapReq_taken {s : State} (hin : s.tcore.stbyIn = true) (hnone : s.tcore.swapPend = none) (hlong : 60 ≤ s.tcore.trackS) :
    s.swapReq = { s with tcore := { s.tcore with swapPend := some (s.tod + msUnits) } } := by
  simp [State.swapReq, State.eligible, hin, hnone, hlong]

/-- The cause with which a swap that is asked for is refused. -/
theorem State.swapReq_refused {s : State} (h : s.tcore.stbyIn = false ∨ s.tcore.swapPend ≠ none ∨ s.tcore.trackS < 60) :
    s.swapReq = s.raise Ev.tcoreSwapRefused (if s.tcore.stbyIn = false then 2 else if s.tcore.swapPend ≠ none then 3 else 1) := by
  unfold State.swapReq
  by_cases hin : s.tcore.stbyIn = true
  · by_cases hpend : s.tcore.swapPend = none
    · have hshort : s.tcore.trackS < 60 := by
        rcases h with h | h | h
        · exact absurd hin (by simp [h])
        · exact absurd hpend h
        · exact h
      simp [hin, hpend, State.eligible, Nat.not_le.mpr hshort]
    · simp [hin, hpend, Option.isSome_iff_ne_none]
  · simp [Bool.eq_false_iff.mpr hin]

/-- The state with the standby core out of service. -/
def State.stbyGone (s : State) : State :=
  { s with tcore := { s.tcore with stbyIn := false, track := false, trackErr := none, trackS := 0, trackWhole := false } }

theorem State.stbyOut_eq (s : State) : s.stbyOut = s.stbyGone.swapDrop 1 := rfl

theorem State.swapDrop_tcore (s : State) (cause : Nat) : (s.swapDrop cause).tcore = { s.tcore with swapPend := none } := by
  unfold State.swapDrop
  cases hpend : s.tcore.swapPend
  · rw [Option.isNone_none, if_pos rfl, ← hpend]
  · rfl

/-- An event carries the time of the active core and whether that time is unlocked: of TCORE nothing else. -/
theorem State.raise_evt_of_tstate {s t : State} (hsame : SameEvt s { t with tcore := s.tcore }) (hst : t.tcore.tstate = s.tcore.tstate)
    (hfree : t.tcore.acqFromFree = s.tcore.acqFromFree) (e : Evt) (a0 a1 a2 : Nat) : (t.raise e a0 a1 a2).evt = (s.raise e a0 a1 a2).evt := by
  rw [← hsame.raise_evt]
  rw [t.raise_evt, State.raise_evt { t with tcore := s.tcore }]
  simp only [State.evtLogged, State.evtEntry, State.evtForHost, State.ts48, State.tod, State.unlockedTime, State.withEvt,
    State.ap_evtCfg (f := Fld.evtCfg_FAULT_SEV) _ rfl, State.ap_evtCfg (f := Fld.evtCfg_RATE) _ rfl,
    State.ap_evtRoute (f := Fld.evtRoute_MIN_SEV) _ rfl, hst, hfree]
  rfl

/-- A swap that waits is dropped with its cause. -/
theorem State.swapDrop_evt {s t : State} (hsame : SameEvt s { t with tcore := s.tcore }) (hst : t.tcore.tstate = s.tcore.tstate)
    (hfree : t.tcore.acqFromFree = s.tcore.acqFromFree) {cause : Nat} (hpend : t.tcore.swapPend ≠ none) :
    (t.swapDrop cause).evt = (s.raise Ev.tcoreSwapRefused cause).evt := by
  rw [State.swapDrop, if_neg (by simpa using hpend)]
  exact State.raise_evt_of_tstate (t := { t with tcore := { t.tcore with swapPend := none } }) hsame hst hfree _ _ _ _

/-! ### What the standby core holds -/

theorem State.putStandby_tod (s : State) (err : Int) :
    (s.putStandby err).tod = s.tod ∧ (s.putStandby err).standbyTod = ((s.tod : Int) + err * (unitsPerPs : Int)).toNat := by
  cases h : s.clk.active <;> simp [State.putStandby, State.tod, State.standbyTod, h]

/-- A hand-over: the other core is active, and both counts stand. -/
theorem State.swapCores_gives (s : State) :
    s.swapCores.clk = { s.clk with active := !s.clk.active } ∧
    s.swapCores.tcore = { s.tcore with swapPend := none, trackS := 0, trackWhole := s.tcore.track, trackErr := some (-(s.tcore.trackErr.getD 0)) } := by
  refine ⟨?_, ?_⟩
  · unfold State.swapCores
    refine (State.raise_touches (ps := Part.others .clk) _ _ _ _ _ rfl .clk rfl).trans ?_
    exact (State.gatesResync_touches (ps := Part.others .clk) _ rfl .clk rfl)
  · unfold State.swapCores
    refine (State.raise_touches (ps := Part.others .tcore) _ _ _ _ _ rfl .tcore rfl).trans ?_
    exact (State.gatesResync_touches (ps := Part.others .tcore) _ rfl .tcore rfl)

/-- Settles O36: a write of TCORE_SWAP on an unlocked path is the unit's own write, and the rest is what the standby core holds. -/
theorem standbyAndSwap : Obligations.StandbyAndSwap := by
  unfold Obligations.StandbyAndSwap
  refine ⟨?acquired, ?tracks, ?lost, ?fault, ?faultAlone, ?req, ?refused, ?cancel, ?out, ?into, ?locked⟩
  case acquired =>
    intro s err hup hin herr htrack
    have hrun : s.standbyTrackAcquired err =
        { s.compared err with tcore := { (s.compared err).tcore with track := true, trackS := 0, trackWhole := false } } := by
      simp [State.standbyTrackAcquired, hin, Nat.not_lt.mpr herr, htrack]
    obtain ⟨htod, hstandby⟩ := s.putStandby_tod err
    exact gives_effect (congrArg (effect true s) hrun) hup rfl ⟨rfl, htod, hstandby, ((s.compared_touches err rfl).set_tcore rfl).carry⟩
  case tracks =>
    intro s err hup hin herr htrack
    have hrun : s.standbyTrackAcquired err = s.compared err := by
      simp [State.standbyTrackAcquired, hin, Nat.not_lt.mpr herr, htrack]
    obtain ⟨htod, hstandby⟩ := s.putStandby_tod err
    exact gives_effect (congrArg (effect true s) hrun) hup rfl ⟨rfl, htod, hstandby, (s.compared_touches err rfl).carry⟩
  case lost =>
    intro s err hup hin herr
    let u : State := { s.compared err with tcore := { (s.compared err).tcore with track := false, trackS := 0, trackWhole := false } }
    have hrun : s.standbyTrackLoss err =
        (u.raiseIf s.tcore.track Ev.tcoreTrackLost (b2n (!s.clk.active)) (satSigned 32 err)).swapDrop 1 := by
      simp only [State.standbyTrackLoss, hin, Nat.not_le.mpr herr, decide_false, Bool.not_true, Bool.or_self, Bool.false_eq_true, if_false]
      rfl
    have hu : Touches [.clk, .tcore, .cal] s u := (s.compared_touches err rfl).set_tcore rfl
    have hraised : Touches evtParts u (u.raiseIf s.tcore.track Ev.tcoreTrackLost (b2n (!s.clk.active)) (satSigned 32 err)) :=
      State.raiseIf_touches _ _ _ _ _ _ rfl
    have hdropped := State.swapDrop_touches (ps := evtParts ++ [.tcore]) (u.raiseIf s.tcore.track Ev.tcoreTrackLost (b2n (!s.clk.active)) (satSigned 32 err)) 1 rfl
    refine gives_effect (congrArg (effect true s) hrun) hup rfl ⟨?_, ?_, (((hu.mono rfl).step (hraised.mono rfl)).step (hdropped.mono rfl)).carry⟩
    · rw [State.carry_tcore, State.swapDrop_tcore, hraised .tcore rfl]
      rfl
    · have hclk : ((u.raiseIf s.tcore.track Ev.tcoreTrackLost (b2n (!s.clk.active)) (satSigned 32 err)).swapDrop 1).clk = (s.putStandby err).clk :=
        (hdropped .clk rfl).trans (hraised .clk rfl)
      exact (by simp only [State.tod, State.carry_clk, hclk] : _ = (s.putStandby err).tod).trans (s.putStandby_tod err).1
  case fault =>
    intro s hup hin htrack
    have hrun : s.coreFault = ({ (s.swapDrop 1).swapCores with
        tcore := { (s.swapDrop 1).swapCores.tcore with stbyIn := false, track := false, trackErr := none, trackWhole := false } } : State).raise
          Ev.tcoreFault (b2n s.clk.active) 1 := by
      simp [State.coreFault, hin, htrack]
    obtain ⟨hclk, htcore⟩ := (s.swapDrop 1).swapCores_gives
    rw [State.swapDrop_touches (ps := Part.others .clk) s 1 rfl .clk rfl] at hclk
    have hswap : (s.swapDrop 1).swapCores.tcore.swapPend = none := by rw [htcore]
    have hframe := State.coreFault_touches (ps := evtParts ++ [.clk, .fab, .tcore, .pll]) s rfl
    have hexec : exec .coreFault s = effect true s s.coreFault := rfl
    refine gives_effect hexec hup rfl ⟨?_, ?_, ?_, ?_, ?_, ?_, hframe.carry⟩
    · rw [State.carry_clk, hrun]; exact congrArg Clock.active hclk
    · rw [State.carry_clk, hrun]; exact (congrArg Clock.tcA hclk :)
    · rw [State.carry_clk, hrun]; exact (congrArg Clock.tcB hclk :)
    · rw [State.carry_tcore, hrun]; rfl
    · rw [State.carry_tcore, hrun]; rfl
    · rw [State.carry_tcore, hrun]; exact hswap
  case faultAlone =>
    intro s hup hno
    have hrun : s.coreFault = s.raise Ev.tcoreFault (b2n s.clk.active) 0 := by
      simp only [State.coreFault, hno, Bool.false_eq_true, if_false]
    exact gives_effect (congrArg (effect true s) hrun) hup rfl ⟨rfl, (State.raise_touches s _ _ _ _ rfl).carry⟩
  case req =>
    intro s p hup hp hw hopen hin hnone hlong
    have hrun : s.regSet p ⟨.tcoreSwap, 0, 0⟩ 1 allBits =
        { s.swapOpen p with tcore := { s.tcore with swapPend := some (s.tod + msUnits) } } :=
      (State.tcoreSwap_write 1 hw).trans ((State.swapWrite_req hopen).trans (State.swapReq_taken hin hnone hlong))
    exact gives_effect (congrArg (effect p.wf s) hrun) hup hp
      ⟨rfl, State.swapOpen_unlocked, ((State.swapOpen_touches.mono rfl).set_tcore rfl).carry⟩
  case refused =>
    intro s p hup hp hw hopen hno
    have hrun := (State.tcoreSwap_write (p := p) 1 hw).trans ((State.swapWrite_req hopen).trans (State.swapReq_refused (s := s.swapOpen p) hno))
    have hraised : Touches evtParts (s.swapOpen p) _ := State.raise_touches (s.swapOpen p) Ev.tcoreSwapRefused
      (if s.tcore.stbyIn = false then 2 else if s.tcore.swapPend ≠ none then 3 else 1) 0 0 rfl
    refine gives_effect (congrArg (effect p.wf s) hrun) hup hp ⟨State.swapOpen_sameEvt.raise_evt _ _ _ _, rfl, ?_,
      ((State.swapOpen_touches.mono rfl).step (hraised.mono rfl)).carry⟩
    exact State.swapOpen_unlocked
  case cancel =>
    intro s p hup hp hw hopen hpend
    have hcancel : (s.swapOpen p).swapCancel = { s.swapOpen p with tcore := { s.tcore with swapPend := none } } :=
      if_pos (Option.isSome_iff_ne_none.mpr hpend)
    have hrun := (State.tcoreSwap_write (p := p) 2 hw).trans ((State.swapWrite_cancel hopen).trans hcancel)
    exact gives_effect (congrArg (effect p.wf s) hrun) hup hp
      ⟨rfl, State.swapOpen_unlocked, ((State.swapOpen_touches.mono rfl).set_tcore rfl).carry⟩
  case out =>
    intro s p hup hp hw hopen
    have hrun := (State.tcoreSwap_write (p := p) 4 hw).trans (State.swapWrite_out hopen)
    have hframe := (State.swapOpen_touches (s := s) (p := p)).mono rfl |>.step (State.stbyOut_touches (ps := evtParts ++ [.keys, .regs, .tcore]) (s.swapOpen p) rfl)
    have hkey : (s.swapOpen p).stbyOut.keys = (s.swapOpen p).keys := State.stbyOut_touches (ps := Part.others .keys) _ rfl .keys rfl
    refine gives_effect (congrArg (effect p.wf s) hrun) hup hp ⟨?_, fun hpend => ?_, ?_, hframe.carry⟩
    · rw [State.carry_tcore, State.stbyOut_eq, State.swapDrop_tcore]
      rfl
    · rw [State.carry_evt, State.stbyOut_eq]
      exact State.swapDrop_evt (s := s) (t := (s.swapOpen p).stbyGone) (.of_applied rfl rfl rfl fun _ _ => rfl) rfl rfl hpend
    · rw [State.key, State.carry_keys, hkey]
      exact State.swapOpen_unlocked
  case into =>
    intro s p hup hp hw hopen hout
    have hin : (s.swapOpen p).stbyIn =
        { (s.swapOpen p).putStandby 0 with tcore := { s.tcore with stbyIn := true, track := false, trackErr := some 0, trackS := 0, trackWhole := false } } := by
      simp [State.stbyIn, hout, State.putStandby]
    have hrun := (State.tcoreSwap_write (p := p) 8 hw).trans ((State.swapWrite_in hopen).trans hin)
    obtain ⟨htod, hstandby⟩ := (s.swapOpen p).putStandby_tod 0
    have hnow : (((s.swapOpen p).tod : Int) + 0 * (unitsPerPs : Int)).toNat = s.tod := by
      rw [Int.zero_mul, Int.add_zero, Int.toNat_natCast]
      rfl
    exact gives_effect (congrArg (effect p.wf s) hrun) hup hp
      ⟨rfl, htod, hstandby.trans hnow, State.swapOpen_unlocked,
        (((State.swapOpen_touches.mono rfl).step ((s.swapOpen p).putStandby_touches 0 rfl)).set_tcore rfl).carry⟩
  case locked =>
    intro s p c hup hp hw hlocked hc
    have hrun : ∀ v : Nat, s.regSet p ⟨.tcoreSwap, 0, 0⟩ (BitVec.ofNat 32 v) allBits = s.raise Ev.sysKeyReject (RegKey.addr ⟨.tcoreSwap, 0, 0⟩) :=
      fun v => (State.tcoreSwap_write v hw).trans (State.swapWrite_locked hlocked)
    have hgives : ∀ v : Nat, exec c s = effect p.wf s (s.regSet p ⟨.tcoreSwap, 0, 0⟩ (BitVec.ofNat 32 v) allBits) →
        Gives c s (fun t => t.evt = (s.raise Ev.sysKeyReject (RegKey.addr ⟨.tcoreSwap, 0, 0⟩)).evt ∧ Touches evtParts s t) := fun v hexec =>
      gives_effect (hexec.trans (congrArg (effect p.wf s) (hrun v))) hup hp ⟨rfl, (State.raise_touches s _ _ _ _ rfl).carry⟩
    rcases hc with rfl | rfl | rfl | rfl
    · exact hgives 1 rfl
    · exact hgives 2 rfl
    · exact hgives 4 rfl
    · exact hgives 8 rfl

end Sys2Proof.Machine
end

section
/-! ## What a change of the candidates and selections leaves alone (R224, R225, R255 to R258) -/

set_option Elab.async false

namespace Sys2Proof.Machine

/-- The parts in which a change of REF shows, beside the time cores and the timing channels. -/
abbrev refQuiet : List Part := evtParts ++ [.pll, .pair, .pwr, .lnk, .rc .pllCnt, .rc .pairMirOvf, .rc .pwrWakeSrc, .rc .refHoldoffCnt]

/-- `R` holds from `s` to `t` whenever REF changes between them: it says nothing of REF, nor of what one of these steps alone changes. -/
structure RefClosed (R : State → State → Prop) : Prop where
  refl : ∀ s, R s s
  trans : ∀ {s t u}, R s t → R t u → R s u
  quiet : ∀ {s t}, Touches refQuiet s t → R s t
  ref : ∀ (s : State) (x : RefState), x.sets = s.ref.sets → R s { s with ref := x }
  chan : ∀ s i st, R s (s.setChanSt i st)
  quality : ∀ s q, R s (s.setQuality q)
  tstate : ∀ (s : State) (x : TcoreState), x.steps = s.tcore.steps → x.stbyIn = s.tcore.stbyIn → x.track = s.tcore.track →
    x.swapPend = s.tcore.swapPend → x.trackS = s.tcore.trackS → x.ports = s.tcore.ports → R s { s with tcore := x }
  rate : ∀ s r, R s (s.setRate r)

namespace RefClosed

variable {R : State → State → Prop} (h : RefClosed R)
include h

omit h in
protected theorem ite {s t u : State} {c : Prop} [Decidable c] (ht : R s t) (hu : R s u) : R s (if c then t else u) := by
  split
  · exact ht
  · exact hu

protected theorem foldl {α : Type} {f : State → α → State} (hf : ∀ s x, R s (f s x)) (l : List α) (s : State) : R s (l.foldl f s) := by
  induction l generalizing s with
  | nil => exact h.refl s
  | cons x l ih => exact h.trans (hf s x) (ih (f s x))

/-! ### Announced quality, and the rate in FREERUN -/

theorem timeStateOut (s : State) : R s s.timeStateOut := h.quiet (State.timeStateOut_touches s rfl)

theorem updateClass (s : State) : R s s.updateClass :=
  RefClosed.ite (h.refl s) (h.trans (h.quality s _) (h.timeStateOut _))

theorem freerunRate (s : State) : R s s.freerunRate := RefClosed.ite (h.rate s 0) (h.refl s)

theorem raise (s : State) (e : Evt) (a b c : Nat) : R s (s.raise e a b c) := h.quiet (State.raise_touches s e a b c rfl)

theorem setStepPending (s : State) (id : Nat) (o : Int) : R s (s.setStepPending id o) := by
  unfold State.setStepPending
  extract_lets t
  have ht : R s t := h.raise s _ _ _ _
  have href : t.ref = s.ref := State.raise_touches (ps := Part.others .ref) s _ _ _ _ rfl .ref rfl
  clear_value t
  have hset : ∀ x : RefState, x.sets = s.ref.sets → R s ({ t with ref := x } : State).timeStateOut := fun x hx =>
    h.trans ht (h.trans (h.ref t x (hx.trans (congrArg RefState.sets href.symm))) (h.timeStateOut _))
  exact hset _ rfl

theorem setTstate (s : State) (st : TState) (b : Bool) : R s (s.setTstate st b) := by
  unfold State.setTstate
  split
  · exact h.refl s
  extract_lets s1 _ _ s2 s3
  have h1 : R s s1 := h.raise s _ _ _ _
  have h2 : R s1 s2 := by
    let v : State := { s1 with tcore := s2.tcore }
    have hv : R s1 v := h.tstate s1 s2.tcore rfl rfl rfl rfl rfl rfl
    exact h.trans hv (h.ref v _ (by rfl))
  clear_value s2
  have h3 : R s s3 := h.trans (h.trans h1 h2) (h.trans (h.updateClass s2) (h.freerunRate _))
  exact RefClosed.ite (h.trans h3 (h.trans (h.raise _ _ _ _ _) (h.quiet (State.wakeEvent_touches _ _ rfl)))) h3

/-! ### Candidates -/

/-- A candidate that is lost takes the input of PLL-A and PLL-B away, not that of PLL-E. -/
theorem pllInputLost (s : State) (id : Nat) : R s (s.pllInputLost id) := by
  have hone : ∀ (u : State) (x : Nat), x ≠ 3 → R u
      (if u.pllSrc x ≠ 1 ∨ u.ap Fld.pllSrcCand_VAL x ≠ id then u
       else if (u.pllOf x).st = .locked then u.pllToBypass x 1 (u.pllOf x).phErr
       else if (u.pllOf x).st = .bypass then u.setPll x { u.pllOf x with bg := .acq } else u) := by
    intro u x hx
    refine RefClosed.ite (h.refl u) (RefClosed.ite (h.quiet ?_) (RefClosed.ite (h.quiet ((Touches.refl _ u).set_pll rfl)) (h.refl u)))
    rw [State.pllToBypass_eq, if_neg hx]
    have hprep : Touches refQuiet u (u.bypassPrep x 1 (u.pllOf x).phErr) := (Touches.refl _ u).set_pll rfl
    exact (((hprep.step (State.bump_touches _ _ _ _ rfl)).step (State.bump_touches _ _ _ _ rfl)).step (State.goPll_touches _ _ _ rfl)).step
      (State.raise_touches _ _ _ _ _ rfl)
  exact h.trans (hone s 1 (by decide)) (hone _ 2 (by decide))

theorem setCandSt (s : State) (id : Nat) (st : CandSt) (cause : Nat) : R s (s.setCandSt id st cause) := by
  unfold State.setCandSt
  extract_lets c c' t _ u
  have ht : R s t := h.quiet (State.raiseIf_touches s _ _ _ _ _ rfl)
  have href : t.ref = s.ref := State.raiseIf_touches (ps := Part.others .ref) s _ _ _ _ _ rfl .ref rfl
  have hu : R s u := h.trans ht (h.ref t _ (congrArg RefState.sets href.symm :))
  clear_value u
  exact RefClosed.ite (h.trans hu (h.pllInputLost u id)) hu

theorem markSel (s : State) (c : Option Nat) (on : Bool) : R s (s.markSel c on) := by
  unfold State.markSel
  split
  · exact h.refl s
  next id =>
  extract_lets st s1 s2
  have h1 : R s s1 := h.setCandSt s id .selected 0
  have h2 : R s s2 := RefClosed.ite (h.setCandSt s _ _ _) (RefClosed.ite (h.setCandSt s _ _ _) (h.refl s))
  clear_value s2
  exact RefClosed.ite (RefClosed.ite (h.trans h1 (h.chan _ _ _)) h1) (RefClosed.ite (h.trans h2 (h.chan _ _ _)) h2)

/-! ### Selections -/

theorem selectT (s : State) (c : Option Nat) : R s (s.selectT c) := by
  unfold State.selectT
  extract_lets old s1 _ s2 s3
  have h2 : R s s2 := h.trans (h.markSel s old false) (h.ref s1 _ (by rfl))
  clear_value s2
  exact h.trans (h.trans (h.trans h2 (h.markSel s2 c true)) (h.raise _ _ _ _ _)) (h.updateClass _)

theorem selectF (s : State) (c : Option Nat) : R s (s.selectF c) := by
  unfold State.selectF
  extract_lets old s1 _ s2 s3
  have h2 : R s s2 := h.trans (h.markSel s old false) (h.ref s1 _ (by rfl))
  clear_value s2
  exact h.trans (h.trans (h.trans (h.trans h2 (h.markSel s2 c true)) (h.raise _ _ _ _ _)) (h.updateClass _)) (h.freerunRate _)

theorem selectBias (s : State) (id : Nat) (b : Int) : R s (s.selectBias id b) := by
  unfold State.selectBias
  extract_lets s1
  have h1 : R s s1 := h.selectT s (some id)
  exact h.trans h1 (h.trans (h.ref s1 _ (by rfl)) (h.timeStateOut _))

theorem startThaw (s : State) : R s s.startThaw := h.tstate s _ rfl rfl rfl rfl rfl rfl

theorem takeT (s : State) (id : Nat) : R s (s.takeT id) := by
  unfold State.takeT
  refine RefClosed.ite (h.selectT s _) ?_
  split
  · exact h.trans (h.selectBias s id 0) (h.setTstate _ _ _)
  · exact h.selectT s _
  · exact RefClosed.ite (h.trans (h.selectBias s id 0) (h.setTstate _ _ _)) (h.trans (h.selectBias s id 0) (h.setStepPending _ _ _))
  · refine RefClosed.ite (RefClosed.ite ?_ (RefClosed.ite (h.refl s) (h.setStepPending s _ _))) (h.selectBias s id _)
    have hbias : R s (s.selectBias id 0).startThaw := h.trans (h.selectBias s id 0) (h.startThaw _)
    exact h.trans hbias (h.trans (h.ref (s.selectBias id 0).startThaw _ (by rfl)) (h.timeStateOut _))

theorem loseT (s : State) : R s s.loseT := by
  unfold State.loseT
  extract_lets _ _ s1
  have h1 : R s s1 := h.trans (h.selectT s none) (h.trans (h.ref (s.selectT none) _ (by rfl)) (h.timeStateOut _))
  clear_value s1
  split
  · exact h1
  · exact h1
  · exact RefClosed.ite (h.trans h1 (h.setTstate _ _ _)) (h.trans h1 (h.setTstate _ _ _))
  · exact h.trans h1 (h.setTstate _ _ _)

theorem reselect (s : State) : R s s.reselect := by
  unfold State.reselect
  extract_lets _ s0 wf s1 wt
  have h0 : R s s0 := by
    unfold s0
    split
    · exact RefClosed.ite (h.refl s) (h.trans (h.ref s _ (by rfl)) (h.timeStateOut _))
    · exact h.refl s
  have h1 : R s s1 := RefClosed.ite h0 (h.trans h0 (h.selectF _ _))
  clear_value s1 wt
  refine RefClosed.ite h1 ?_
  split
  · exact h.trans h1 (h.takeT _ _)
  · exact h.trans h1 (h.loseT _)

/-! ### Candidates and channels that stop -/

theorem candFail (s : State) (id cause : Nat) : R s (s.candFail id cause) := by
  have hdrop : ∀ t : State, R t (t.setCandSt id .failed cause).reselect := fun t =>
    h.trans (h.setCandSt t id .failed cause) (h.reselect _)
  unfold State.candFail
  extract_lets c _ t _ u
  have ht : R s t := h.ref s _ rfl
  clear_value c
  split
  · exact h.trans ht (hdrop t)
  · exact h.trans ht (hdrop t)
  · have hu : R s u := RefClosed.ite (h.trans ht (h.ref t _ (by rfl))) ht
    clear_value u
    exact h.trans hu (RefClosed.ite (hdrop u) (h.setCandSt u _ _ _))
  · exact ht

theorem chanLost (s : State) (i : Nat) : R s (s.chanLost i) := h.trans (h.chan s i .lost) (h.candFail _ _ _)

theorem chanStop (s : State) (i : Nat) : R s (s.chanStop i) :=
  h.trans (RefClosed.ite (h.chan s i .qualified) (h.refl s)) (h.candFail _ _ _)

end RefClosed

/-- A change of REF leaves the engines alone. -/
theorem refClosed_eng : RefClosed Part.eng.same where
  refl _ := rfl
  trans h g := Eq.trans g h
  quiet h := h .eng rfl
  ref _ _ _ := rfl
  chan s i st := State.setChanSt_touches (ps := Part.others .eng) s i st rfl .eng rfl
  quality _ _ := rfl
  tstate _ _ _ _ _ _ _ _ := rfl
  rate _ _ := rfl

end Sys2Proof.Machine
end

section
/-! ## Engines: their states, their tasks, and the channels that leave them (R339 to R343, R347, R349) -/

set_option Elab.async false

namespace Sys2Proof.Machine

/-! ### What EngState says of an engine and of a task -/

section EngSame

variable {s t : State} (h : Part.eng.same s t)
include h

theorem State.engOf_of_eng (e : Nat) : t.engOf e = s.engOf e := (congrArg (fun x : EngState => Tab.get ({} : Eng) x.engs e) h :)

theorem State.task_of_eng (k : Nat) : t.task k = s.task k := (congrArg (fun x : EngState => Tab.get ({} : EngTask) x.tasks k) h :)

theorem State.engRuns_of_eng (e : Nat) : t.engRuns e = s.engRuns e := congrArg (fun x : Eng => decide (x.st = .run)) (State.engOf_of_eng h e)

theorem State.runners_of_eng : t.runners = s.runners := by
  simp only [State.runners, State.engRuns_of_eng h]

end EngSame

theorem State.mem_runners {s : State} {e : Nat} : e ∈ s.runners ↔ e < 16 ∧ s.engRuns e = true := by simp [State.runners]

theorem State.chansOfEng_of {s t : State} (hobjs : t.objs = s.objs) (htchans : t.tchans = s.tchans) (e : Nat) :
    t.chansOfEng e = s.chansOfEng e := by
  simp only [State.chansOfEng, State.inUse, State.tchan, hobjs, htchans]
  rfl

section SetEng

variable (s : State) (e : Nat) (x : Eng) (k : Nat) (y : EngTask)

@[simp] theorem State.setEng_engOf_self : (s.setEng e x).engOf e = x := Tab.get_set_self _ _ _ _

theorem State.setEng_engOf_ne {j : Nat} (h : j ≠ e) : (s.setEng e x).engOf j = s.engOf j := Tab.get_set_ne _ _ _ _ _ h

@[simp] theorem State.setEng_task (j : Nat) : (s.setEng e x).task j = s.task j := rfl

@[simp] theorem State.setTask_task_self : (s.setTask k y).task k = y := Tab.get_set_self _ _ _ _

theorem State.setTask_task_ne {j : Nat} (h : j ≠ k) : (s.setTask k y).task j = s.task j := Tab.get_set_ne _ _ _ _ _ h

end SetEng

/-! ### An engine in a new state -/

section GoEng

variable (s : State) (e : Nat) (st : EngSt)

/-- The engines after one has changed its state; the cycle counts aside, EngState is as it was. -/
theorem State.goEng_eng :
    (s.goEng e st).eng.engs = Tab.set s.eng.engs e { s.engOf e with st := st } ∧ (s.goEng e st).eng.tasks = s.eng.tasks ∧
    (s.goEng e st).eng.copy = s.eng.copy ∧ (s.goEng e st).eng.fwBanks = s.eng.fwBanks := by
  have hraised : ∀ (u : State) (c c' : Bool) (a b : Nat), Part.eng.same u ((u.raiseIf c Ev.engState a b).raiseIf c' Ev.engJfmtChg) :=
    fun u c c' a b => ((State.raiseIf_touches (ps := Part.others .eng) u _ _ _ _ _ rfl).step (State.raiseIf_touches _ _ _ _ _ _ rfl)) .eng rfl
  unfold State.goEng
  extract_lets x u s1
  have hu : u.eng.engs = s.eng.engs ∧ u.eng.tasks = s.eng.tasks ∧ u.eng.copy = s.eng.copy ∧ u.eng.fwBanks = s.eng.fwBanks := by
    unfold u
    split <;> exact ⟨rfl, rfl, rfl, rfl⟩
  clear_value u
  have h1 := hraised (u.setEng e { x with st := st }) (decide (x.st ≠ st)) (decide (0 < u.jfmt) && decide (u.jfmt < s1.jfmt)) e st.code
  refine ⟨(congrArg EngState.engs h1 :).trans ?_, (congrArg EngState.tasks h1 :).trans hu.2.1, (congrArg EngState.copy h1 :).trans hu.2.2.1,
    (congrArg EngState.fwBanks h1 :).trans hu.2.2.2⟩
  exact congrArg (fun l => Tab.set l e { x with st := st }) hu.1

@[simp] theorem State.goEng_engOf_self : (s.goEng e st).engOf e = { s.engOf e with st := st } := by
  rw [State.engOf, (s.goEng_eng e st).1]
  exact Tab.get_set_self _ _ _ _

theorem State.goEng_engOf_ne {j : Nat} (h : j ≠ e) : (s.goEng e st).engOf j = s.engOf j := by
  rw [State.engOf, (s.goEng_eng e st).1]
  exact Tab.get_set_ne _ _ _ _ _ h

@[simp] theorem State.goEng_task (k : Nat) : (s.goEng e st).task k = s.task k := by
  rw [State.task, (s.goEng_eng e st).2.1]
  rfl

theorem State.goEng_engRuns_ne {j : Nat} (h : j ≠ e) : (s.goEng e st).engRuns j = s.engRuns j :=
  congrArg (fun x : Eng => decide (x.st = .run)) (s.goEng_engOf_ne e st h)

theorem State.engReady_eng : Part.eng.same s s.engReady :=
  State.engReady_touches (ps := Part.others .eng) s rfl .eng rfl

/-- SYS_READY.ENG is that an engine runs. -/
theorem State.engReady_isReady : s.engReady.isReady Rdy.eng = decide (s.runners ≠ []) := by
  rw [State.engReady, State.setReady_isReady_ne _ (by decide) (by decide), State.setReady_isReady _ (by decide)]

end GoEng

/-! ### The channels of an engine -/

/-- A channel that moves, or finds no room, leaves the engines alone. -/
theorem State.tchanMove_eng (s : State) (i : Nat) : Part.eng.same s (s.tchanMove i) := by
  unfold State.tchanMove
  extract_lets o x s0
  split
  · split <;> rfl
  · next s1 _ _ =>
    have h1 : Part.eng.same s s1 := rfl
    exact refClosed_eng.trans h1 (refClosed_eng.trans (refClosed_eng.chanLost s1 i) (refClosed_eng.raise _ _ _ _ _))

theorem State.tchanMoves_eng (l : List Nat) (s : State) : Part.eng.same s (l.foldl (fun s i => s.tchanMove i) s) :=
  refClosed_eng.foldl (fun s i => s.tchanMove_eng i) l s

theorem State.tchansLeave_eng (s : State) (e : Nat) : Part.eng.same s (s.tchansLeave e) := s.tchanMoves_eng _

theorem State.tchansLeave_of_none {s : State} {e : Nat} (h : s.chansOfEng e = []) : s.tchansLeave e = s := by
  simp [State.tchansLeave, h]

/-! ### Tasks -/

/-- From `s` to `t` nothing but the tasks has changed in the engines. -/
def TasksOnly (s t : State) : Prop := t.eng = { s.eng with tasks := t.eng.tasks }

section Tasks

variable {s t u : State}

theorem TasksOnly.refl (s : State) : TasksOnly s s := rfl

theorem TasksOnly.trans (h : TasksOnly s t) (g : TasksOnly t u) : TasksOnly s u := by
  unfold TasksOnly at h g ⊢
  rw [g, h]

theorem TasksOnly.engOf (h : TasksOnly s t) (e : Nat) : t.engOf e = s.engOf e := (congrArg (fun x : EngState => Tab.get ({} : Eng) x.engs e) h :)

theorem TasksOnly.copy (h : TasksOnly s t) : t.eng.copy = s.eng.copy := (congrArg EngState.copy h :)

theorem TasksOnly.engRuns (h : TasksOnly s t) (e : Nat) : t.engRuns e = s.engRuns e := congrArg (fun x : Eng => decide (x.st = .run)) (h.engOf e)

theorem TasksOnly.runners (h : TasksOnly s t) : t.runners = s.runners := by
  simp only [State.runners, h.engRuns]

theorem State.taskMove_task_ne (s : State) {k j : Nat} (h : j ≠ k) (old new : Nat) : (s.taskMove k old new).task j = s.task j :=
  s.setTask_task_ne k _ h

@[simp] theorem State.taskMove_task_self (s : State) (k old new : Nat) :
    (s.taskMove k old new).task k = { s.task k with holder := none, standby := some new, moving := some old } :=
  s.setTask_task_self k _

/-- The standby of a task is named in that task alone; its holder, what moves it and its pins stay. -/
theorem State.nameStandby_gives (s : State) (k : Nat) :
    TasksOnly s (s.nameStandby k) ∧ (∀ j, j ≠ k → (s.nameStandby k).task j = s.task j) ∧
    ((s.nameStandby k).task k).holder = (s.task k).holder ∧ ((s.nameStandby k).task k).moving = (s.task k).moving ∧
    ((s.nameStandby k).task k).pin = (s.task k).pin := by
  unfold State.nameStandby
  extract_lets x
  split
  next hd hholder =>
    split
    · exact ⟨rfl, fun _ _ => rfl, rfl, rfl, rfl⟩
    · refine ⟨rfl, fun j hj => ?_, ?_, ?_, ?_⟩
      · exact State.setTask_task_ne _ _ _ hj
      all_goals rw [State.setTask_task_self]
  · exact ⟨rfl, fun _ _ => rfl, rfl, rfl, rfl⟩

/-- While an engine runs, a task that loses one goes to another; no other task and no engine changes. -/
theorem State.taskLeave_gives (hrun : s.runners ≠ []) (e k : Nat) :
    TasksOnly s (s.taskLeave e k) ∧ ∀ j, j ≠ k → (s.taskLeave e k).task j = s.task j := by
  obtain ⟨b, hb⟩ : ∃ b, s.runners.head? = some b := by
    cases hl : s.runners with
    | nil => exact absurd hl hrun
    | cons b _ => exact ⟨b, rfl⟩
  have hmove : ∀ old new, TasksOnly s (s.taskMove k old new) ∧ ∀ j, j ≠ k → (s.taskMove k old new).task j = s.task j :=
    fun old new => ⟨rfl, fun j hj => s.taskMove_task_ne hj _ _⟩
  unfold State.taskLeave
  extract_lets x next
  have hnext : ∃ b, next = some b := by
    unfold next
    split
    · split
      · exact ⟨_, rfl⟩
      · exact ⟨b, hb⟩
    · exact ⟨b, hb⟩
  obtain ⟨n, hn⟩ := hnext
  rw [hn, hb]
  split
  · exact hmove e n
  split
  · split
    · exact hmove _ b
    · obtain ⟨honly, hne, -⟩ := (s.setTask k { x with standby := none }).nameStandby_gives k
      exact ⟨TasksOnly.trans (t := s.setTask k { x with standby := none }) rfl honly,
        fun j hj => (hne j hj).trans (s.setTask_task_ne k _ hj)⟩
  · exact ⟨rfl, fun _ _ => rfl⟩

/-- A task whose standby runs goes to it. -/
theorem State.taskLeave_held {e k b : Nat} (hholder : (s.task k).holder = some e) (hstandby : (s.task k).standby = some b)
    (hruns : s.engRuns b = true) : s.taskLeave e k = s.taskMove k e b := by
  simp only [State.taskLeave, hholder, hstandby, hruns, if_true]

theorem State.taskLeave_else {e k : Nat} (hholder : (s.task k).holder ≠ some e) (hstandby : (s.task k).standby ≠ some e) :
    s.taskLeave e k = s := by
  unfold State.taskLeave
  exact (if_neg hholder).trans (if_neg hstandby)

theorem State.singleTasks_nodup (s : State) : s.singleTasks.Nodup := by
  unfold State.singleTasks
  cases s.variant.gnss <;> cases s.variant.pair <;> decide

/-- The tasks of an engine that leaves, while another runs: each goes its own way, and no engine changes. -/
theorem State.taskLeaves_gives {e k b : Nat} {l : List Nat} (hl : l.Nodup) (hk : k ∈ l) (hholder : (s.task k).holder = some e)
    (hstandby : (s.task k).standby = some b) (hb : b < 16) (hruns : s.engRuns b = true) :
    TasksOnly s (l.foldl (fun s k => s.taskLeave e k) s) ∧
    (l.foldl (fun s k => s.taskLeave e k) s).task k = { s.task k with holder := none, standby := some b, moving := some e } := by
  have hrun : ∀ u : State, TasksOnly s u → u.runners ≠ [] := fun u hu => by
    rw [hu.runners]
    exact List.ne_nil_of_mem (State.mem_runners.mpr ⟨hb, hruns⟩)
  have hothers : ∀ (l : List Nat) (u : State), TasksOnly s u → k ∉ l →
      TasksOnly s (l.foldl (fun s k => s.taskLeave e k) u) ∧ (l.foldl (fun s k => s.taskLeave e k) u).task k = u.task k := by
    intro l
    induction l with
    | nil => exact fun u hu _ => ⟨hu, rfl⟩
    | cons x l ih =>
      intro u hu hx
      obtain ⟨honly, hne⟩ := State.taskLeave_gives (hrun u hu) e x
      obtain ⟨hall, htask⟩ := ih (u.taskLeave e x) (hu.trans honly) (fun h => hx (List.mem_cons_of_mem x h))
      exact ⟨hall, htask.trans (hne k (fun h => hx (h ▸ List.mem_cons_self)))⟩
  obtain ⟨l1, l2, rfl⟩ := List.append_of_mem hk
  obtain ⟨-, hnot, hdisj⟩ := List.nodup_append.mp hl
  obtain ⟨hk2, -⟩ := List.nodup_cons.mp hnot
  have hk1 : k ∉ l1 := fun h => hdisj k h k List.mem_cons_self rfl
  obtain ⟨honly, htask⟩ := hothers l1 s rfl hk1
  rw [List.foldl_append, List.foldl_cons]
  generalize l1.foldl (fun s k => s.taskLeave e k) s = u at honly htask ⊢
  have hheld : u.taskLeave e k = u.taskMove k e b :=
    State.taskLeave_held (by rw [htask]; exact hholder) (by rw [htask]; exact hstandby) ((honly.engRuns b).trans hruns)
  obtain ⟨hall, hlast⟩ := hothers l2 (u.taskLeave e k) (honly.trans (State.taskLeave_gives (hrun u honly) e k).1) hk2
  refine ⟨hall, hlast.trans ?_⟩
  rw [hheld, State.taskMove_task_self, htask]

theorem State.taskLeaves_else {e : Nat} {l : List Nat} (h : ∀ k, k ∈ l → (s.task k).holder ≠ some e ∧ (s.task k).standby ≠ some e) :
    l.foldl (fun s k => s.taskLeave e k) s = s := by
  induction l with
  | nil => rfl
  | cons x l ih =>
    obtain ⟨hholder, hstandby⟩ := h x List.mem_cons_self
    rw [List.foldl_cons, State.taskLeave_else hholder hstandby]
    exact ih fun k hk => h k (List.mem_cons_of_mem x hk)

end Tasks

end Sys2Proof.Machine
end

section
/-! ## Engines that fault, drain, replay and run (R340, R342, R343, R347, R349) -/

set_option Elab.async false

namespace Sys2Proof.Machine

/-! ### Counts -/

theorem putField_whole (v : Word) : putField v 0 32 v.toNat = v := by
  have hlt : v.toNat % 4294967296 = v.toNat := Nat.mod_eq_of_lt v.isLt
  simp [putField, maskOf, hlt]

/-- Nothing aborted is nothing counted. -/
theorem State.bump_none_touches (s : State) {f : FieldRef} (hf : f.lo = 0 ∧ f.width = 32) (i : Nat) : Touches [] s (s.bump f i 0) := by
  intro p _
  cases p
  case rc n _ =>
    intro i' j'
    by_cases hk : (⟨n, i', j'⟩ : RegKey) = ⟨f.reg, i, 0⟩
    · have hfield : fieldOf (s.rcWord ⟨f.reg, i, 0⟩) 0 32 = (s.rcWord ⟨f.reg, i, 0⟩).toNat := by
        simp [fieldOf, bitsOf, Nat.mod_eq_of_lt (s.rcWord ⟨f.reg, i, 0⟩).isLt]
      have hle : (s.rcWord ⟨f.reg, i, 0⟩).toNat ≤ 2 ^ 32 - 1 := Nat.le_sub_one_of_lt (s.rcWord ⟨f.reg, i, 0⟩).isLt
      rw [hk, State.rcWord, State.bump]
      refine (Tab.get_set_self _ _ _ _).trans ?_
      rw [hf.1, hf.2, hfield, satAdd, Nat.add_zero, Nat.min_eq_left hle, putField_whole]
    · exact Tab.get_set_ne _ _ _ _ _ hk
  case rd => exact ⟨rfl, rfl⟩
  case counters => trivial
  case spad => exact fun _ => rfl
  case flash => exact fun _ => rfl
  all_goals rfl

/-! ### An engine that enters RUN -/

/-- What a task waits for while an engine enters RUN: nothing, as it is held and has its standby, or that engine. -/
def State.taskReady (s : State) (e k : Nat) : Prop :=
  ((s.task k).holder.isSome = true ∧ (s.task k).standby.isSome = true ∧ (s.task k).pin ≠ some e) ∨
    (k ∈ [2, 6, 7, 8] ∧ (s.task k).holder = none ∧ (s.task k).moving = none)

/-- One task, as an engine enters RUN. -/
def State.taskEnter (e : Nat) (s : State) (t : Nat) : State :=
  let x := s.task t
  match x.holder, x.moving with
  | none, none => (s.setTask t { x with holder := some e, standby := none }).taskGained t
  | some h, _ =>
    if x.pin = some e ∧ h ≠ e then s.taskMove t h e
    else if x.standby.isNone then s.setTask t { x with standby := some e } else s
  | none, some _ => s

theorem State.engEnters_eq (s : State) (e : Nat) : s.engEnters e = (s.singleTasks.foldl (State.taskEnter e) s).engReady := rfl

section Enter

variable {s : State} {e k : Nat}

theorem State.taskEnter_held (hholder : (s.task k).holder.isSome = true) (hstandby : (s.task k).standby.isSome = true)
    (hpin : (s.task k).pin ≠ some e) : s.taskEnter e k = s := by
  obtain ⟨h, hh⟩ := Option.isSome_iff_exists.mp hholder
  simp [State.taskEnter, hh, hpin, Option.isSome_iff_ne_none.mp hstandby]

theorem State.taskEnter_free (hk : k ∈ [2, 6, 7, 8]) (hholder : (s.task k).holder = none) (hmoving : (s.task k).moving = none) :
    s.taskEnter e k = s.setTask k { s.task k with holder := some e, standby := none } := by
  have hgained : ∀ u : State, u.taskGained k = u := by
    simp only [List.mem_cons, List.not_mem_nil, or_false] at hk
    rcases hk with rfl | rfl | rfl | rfl <;> exact fun _ => rfl
  simp only [State.taskEnter, hholder, hmoving, hgained]

/-- The tasks that are free go to the engine; the others stay. -/
theorem State.tasksEnter_gives {l : List Nat} (hl : l.Nodup) (h : ∀ k, k ∈ l → s.taskReady e k) :
    TasksOnly s (l.foldl (State.taskEnter e) s) ∧ Touches [.eng] s (l.foldl (State.taskEnter e) s) ∧
    (∀ k, k ∈ l → (s.task k).holder = none →
      (l.foldl (State.taskEnter e) s).task k = { s.task k with holder := some e, standby := none }) ∧
    (∀ k, (k ∉ l ∨ (s.task k).holder.isSome = true) → (l.foldl (State.taskEnter e) s).task k = s.task k) := by
  induction l generalizing s with
  | nil => exact ⟨rfl, Touches.refl _ _, fun _ hk => absurd hk List.not_mem_nil, fun _ _ => rfl⟩
  | cons x l ih =>
    obtain ⟨hx, hl⟩ := List.nodup_cons.mp hl
    have hstep : ∃ y, s.taskEnter e x = s.setTask x y ∧ ((s.task x).holder = none → y = { s.task x with holder := some e, standby := none }) ∧
        ((s.task x).holder.isSome = true → y = s.task x) ∨ (s.taskEnter e x = s ∧ (s.task x).holder.isSome = true) := by
      rcases h x List.mem_cons_self with ⟨hholder, hstandby, hpin⟩ | ⟨hmem, hholder, hmoving⟩
      · exact ⟨s.task x, .inr ⟨State.taskEnter_held hholder hstandby hpin, hholder⟩⟩
      · exact ⟨_, .inl ⟨State.taskEnter_free hmem hholder hmoving, fun _ => rfl, fun hno => absurd hno (by simp [hholder])⟩⟩
    obtain ⟨y, ⟨hrun, hfree, hkept⟩ | ⟨hrun, hheld⟩⟩ := hstep
    · have hne : ∀ k, k ≠ x → (s.setTask x y).task k = s.task k := fun k hk => s.setTask_task_ne x y hk
      have hready : ∀ k, k ∈ l → (s.setTask x y).taskReady e k := fun k hk => by
        rw [State.taskReady, hne k (fun heq => hx (heq ▸ hk))]
        exact h k (List.mem_cons_of_mem x hk)
      obtain ⟨honly, hframe, hin, hout⟩ := ih hl hready
      rw [List.foldl_cons, hrun]
      have hself := (hout x (.inl hx)).trans (s.setTask_task_self x y)
      refine ⟨TasksOnly.trans (t := s.setTask x y) rfl honly, (State.setTask_touches s x y rfl).step hframe, fun k hk hholder => ?_, fun k hk => ?_⟩
      · rcases List.mem_cons.mp hk with rfl | hmem
        · exact hself.trans (hfree hholder)
        · have hkx : k ≠ x := fun heq => hx (heq ▸ hmem)
          rw [hin k hmem (by rw [hne k hkx]; exact hholder), hne k hkx]
      · by_cases hkx : k = x
        · subst hkx
          exact hself.trans (hkept (hk.resolve_left (fun hno => hno List.mem_cons_self)))
        · rw [hout k (by rw [hne k hkx]; exact hk.imp_left (fun hno hmem => hno (List.mem_cons_of_mem x hmem))), hne k hkx]
    · obtain ⟨honly, hframe, hin, hout⟩ := ih (s := s) hl (fun k hk => h k (List.mem_cons_of_mem x hk))
      rw [List.foldl_cons, hrun]
      refine ⟨honly, hframe, fun k hk hholder => ?_, fun k hk => ?_⟩
      · rcases List.mem_cons.mp hk with rfl | hmem
        · exact absurd hheld (by simp [hholder])
        · exact hin k hmem hholder
      · by_cases hkx : k = x
        · exact hout k (.inr (hkx ▸ hheld))
        · exact hout k (hk.imp_left (fun hno hmem => hno (List.mem_cons_of_mem x hmem)))

end Enter

/-! ### An engine that leaves RUN -/

/-- An engine in RUN that faults: its task goes to the standby that runs (R342, R343). -/
theorem State.engFault_gives {s : State} {e k b : Nat} (hcopy : s.eng.copy = none) (hst : (s.engOf e).st = .run) (hk : k ∈ s.singleTasks)
    (hholder : (s.task k).holder = some e) (hstandby : (s.task k).standby = some b) (hbe : b ≠ e) (hb : b < 16) (hruns : s.engRuns b = true)
    (cause : Nat) :
    ((s.engFault e cause).engOf e).st = .fault ∧ ((s.engFault e cause).engOf e).cause = cause ∧
    (s.engFault e cause).task k = { s.task k with holder := none, standby := some b, moving := some e } ∧
    (s.engFault e cause).isReady Rdy.eng = true := by
  let u := ((s.raise Ev.engFault e cause).setEng e { s.engOf e with cause := cause }).goEng e .fault
  have hu : u = ((s.raise Ev.engFault e cause).setEng e { s.engOf e with cause := cause }).goEng e .fault := rfl
  have hengs : u.engOf e = { s.engOf e with cause := cause, st := .fault } := by
    rw [hu, State.goEng_engOf_self, State.setEng_engOf_self]
  have htasks : ∀ j, u.task j = s.task j := fun j => by
    rw [hu, State.goEng_task]
    rfl
  have hcopyu : u.eng.copy = none := by
    rw [hu, (State.goEng_eng _ e .fault).2.2.1]
    exact hcopy
  have hrunsu : u.engRuns b = true := by
    rw [hu, State.goEng_engRuns_ne _ e .fault hbe]
    exact (congrArg (fun x : Eng => decide (x.st = .run)) (State.setEng_engOf_ne _ e _ hbe)).trans hruns
  have hsingle : u.singleTasks = s.singleTasks := by
    have hvariant : u.variant = s.variant := State.goEng_touches (ps := Part.others .variant) _ e .fault rfl .variant rfl
    rw [State.singleTasks, State.singleTasks, hvariant]
  have hrun : s.engFault e cause = (u.engLeaves e true).autoReload e := by
    simp [State.engFault, hst, hu]
  clear_value u
  obtain ⟨honly, htask⟩ := State.taskLeaves_gives (s := u) (e := e) u.singleTasks_nodup (hsingle ▸ hk)
    (by rw [htasks]; exact hholder) (by rw [htasks]; exact hstandby) hb hrunsu
  have hleaves : u.engLeaves e true = ((u.singleTasks.foldl (fun s t => s.taskLeave e t) u).tchansLeave e).engReady := rfl
  generalize u.singleTasks.foldl (fun s t => s.taskLeave e t) u = v at honly htask hleaves
  have hsame : Part.eng.same v (u.engLeaves e true) :=
    hleaves ▸ refClosed_eng.trans (v.tchansLeave_eng e) (State.engReady_eng _)
  have hnoreload : (u.engLeaves e true).autoReload e = u.engLeaves e true := by
    have hnone : (u.engLeaves e true).eng.copy = none := (congrArg EngState.copy hsame :).trans (honly.copy.trans hcopyu)
    simp [State.autoReload, hnone]
  rw [hrun, hnoreload]
  have hself : (u.engLeaves e true).engOf e = { s.engOf e with cause := cause, st := .fault } :=
    (State.engOf_of_eng hsame e).trans ((honly.engOf e).trans hengs)
  refine ⟨congrArg Eng.st hself, congrArg Eng.cause hself, ?_, ?_⟩
  · rw [State.task_of_eng hsame, htask, htasks]
  · have hmem : b ∈ (v.tchansLeave e).runners := by
      rw [State.runners_of_eng (v.tchansLeave_eng e), honly.runners]
      exact State.mem_runners.mpr ⟨hb, hrunsu⟩
    rw [hleaves, State.engReady_isReady]
    exact decide_eq_true (List.ne_nil_of_mem hmem)

/-- A task whose standby takes over (R340). -/
theorem State.engTakeover_gives {s : State} {k old b : Nat} (hk : k ∈ [2, 6, 7, 8]) (hmoving : (s.task k).moving = some old)
    (hstandby : (s.task k).standby = some b) (hruns : s.engRuns b = true) (n : Nat) :
    ((s.engTakeover k n).task k).holder = some b ∧ ((s.engTakeover k n).task k).moving = none ∧
    ((s.engTakeover k n).task k).pin = (s.task k).pin ∧
    (s.engTakeover k n).count Fld.engEAborted_VAL old = s.counted Fld.engEAborted_VAL old n ∧
    (∀ j, j ≠ k → (s.engTakeover k n).task j = s.task j) ∧
    Touches (evtParts ++ [.ready, .free, .eng, .rc .engEAborted]) s (s.engTakeover k n) := by
  have hgained : ∀ u : State, u.taskGained k = u := by
    simp only [List.mem_cons, List.not_mem_nil, or_false] at hk
    rcases hk with rfl | rfl | rfl | rfl <;> exact fun _ => rfl
  let u := s.setTask k { s.task k with holder := some b, standby := none, moving := none }
  have hu : u.task k = { s.task k with holder := some b, standby := none, moving := none } := s.setTask_task_self k _
  have hune : ∀ j, j ≠ k → u.task j = s.task j := fun j hj => s.setTask_task_ne k _ hj
  have hutouch : Touches [.free, .eng] s u := State.setTask_touches s k _ rfl
  have hrun : s.engTakeover k n =
      (((u.nameStandby k).bump Fld.engEAborted_VAL old n).raise Ev.engTaskMove k (old * 256 + b) n).engReady := by
    simp [State.engTakeover, hmoving, hstandby, hruns, hgained, u]
  clear_value u
  obtain ⟨-, hne, hholder, hmov, hpin⟩ := u.nameStandby_gives k
  have hname : Touches [.free, .eng] s (u.nameStandby k) := hutouch.step (State.nameStandby_touches u k rfl)
  generalize u.nameStandby k = v at *
  have hlast : Touches (.ready :: evtParts) (v.bump Fld.engEAborted_VAL old n) (s.engTakeover k n) := by
    rw [hrun]
    exact (State.raise_touches _ _ _ _ _ rfl).step (State.engReady_touches _ rfl)
  have htask : ∀ j, (s.engTakeover k n).task j = v.task j := fun j => State.task_of_eng (hlast .eng rfl) j
  refine ⟨?_, ?_, ?_, State.count_bumped_at old n hname hlast rfl rfl (by decide), fun j hj => ?_,
    ((hname.mono rfl).step (State.bump_touches _ _ _ _ rfl)).step (hlast.mono rfl)⟩
  · rw [htask, hholder, hu]
  · rw [htask, hmov, hu]
  · rw [htask, hpin, hu]
  · rw [htask, hne j hj, hune j hj]

/-! ### An engine that is taken out, and comes back -/

/-- An engine without channels, whose tasks others hold, may always be taken out. -/
theorem State.outRefused_none {s : State} {e : Nat} (hchans : s.chansOfEng e = [])
    (hfree : ∀ k, k ∈ s.singleTasks → (s.task k).holder ≠ some e ∧ (s.task k).standby ≠ some e) : s.outRefused e = false := by
  have hnone : s.singleTasks.any (fun k => (s.task k).holder == some e) = false :=
    List.any_eq_false.mpr fun k hk => by simpa using (hfree k hk).1
  simp [State.outRefused, hchans, hnone]

/-- An engine that begins to drain while other engines hold its tasks. -/
theorem State.outBegin_gives {s : State} {e : Nat} (hfree : ∀ k, k ∈ s.singleTasks → (s.task k).holder ≠ some e ∧ (s.task k).standby ≠ some e)
    (d : Option CmdDesc) :
    (s.outBegin e d).engOf e = { s.engOf e with out := d, outAt := s.clk.now, drained := s.openExchanges e, st := .draining } ∧
    ∀ j, j ≠ e → (s.outBegin e d).engOf j = s.engOf j := by
  unfold State.outBegin
  extract_lets x s1 s2
  have h1 : s1.engOf e = { s.engOf e with out := d, outAt := s.clk.now, drained := s.openExchanges e, st := .draining } := by
    unfold s1
    rw [State.goEng_engOf_self, State.setEng_engOf_self]
  have hne : ∀ j, j ≠ e → s1.engOf j = s.engOf j := fun j hj => (State.goEng_engOf_ne _ _ _ hj).trans (State.setEng_engOf_ne _ _ _ hj)
  have htasks : ∀ k, s1.task k = s.task k := fun k => State.goEng_task _ _ _ _
  have hsingle : s1.singleTasks = s.singleTasks := by
    have hvariant : s1.variant = s.variant := State.goEng_touches (ps := Part.others .variant) _ e .draining rfl .variant rfl
    rw [State.singleTasks, State.singleTasks, hvariant]
  have h2 : s2 = s1.engReady := by
    have hnone := State.taskLeaves_else (s := s1) (e := e) (l := s1.singleTasks) (fun k hk => by
      rw [htasks]
      exact hfree k (hsingle ▸ hk))
    unfold s2 State.engLeaves
    rw [hnone]
    rfl
  clear_value s1
  have hlast := refClosed_eng.trans s1.engReady_eng (h2 ▸ State.tchanMoves_eng
    ((s2.chansOfEng e).mergeSort.filter (fun i => !((s2.tchan i).outstanding))) s2 : Part.eng.same s1.engReady _)
  rw [h2]
  exact ⟨(State.engOf_of_eng hlast e).trans h1, fun j hj => (State.engOf_of_eng hlast j).trans (hne j hj)⟩

/-- An engine without channels that has drained. -/
def State.outEnded (s : State) (e : Nat) : State := ((s.setEng e { s.engOf e with out := none, drained := 0 }).goEng e .loaded).bump Fld.engEAborted_VAL e 0

theorem State.outEnded_touches (s : State) (e : Nat) : Touches (evtParts ++ [.eng]) s (s.outEnded e) :=
  ((State.setEng_touches _ _ _ rfl).step (State.goEng_touches _ _ _ rfl)).step ((State.bump_none_touches _ ⟨rfl, rfl⟩ e).mono rfl)

theorem State.outEnded_engOf (s : State) (e : Nat) :
    (s.outEnded e).engOf e = { s.engOf e with out := none, drained := 0, st := .loaded } ∧ ∀ j, j ≠ e → (s.outEnded e).engOf j = s.engOf j := by
  have hcount := State.engOf_of_eng (State.bump_none_touches ((s.setEng e { s.engOf e with out := none, drained := 0 }).goEng e .loaded)
    (f := Fld.engEAborted_VAL) ⟨rfl, rfl⟩ e .eng rfl)
  refine ⟨(hcount e).trans ?_, fun j hj => (hcount j).trans ?_⟩
  · rw [State.goEng_engOf_self, State.setEng_engOf_self]
  · rw [State.goEng_engOf_ne _ _ _ hj, State.setEng_engOf_ne _ _ _ hj]

theorem State.outDone_none {s : State} {e : Nat} (hchans : s.chansOfEng e = []) :
    s.outDone e .loaded = match (s.engOf e).out with
      | some d => (s.outEnded e).complete d 0xC801 .ok 0
          (leBytes (s.engOf e).drained 4 ++ leBytes 0 4 ++ leBytes ((s.clk.now - (s.engOf e).outAt) / 1000000) 4)
      | none => s.outEnded e := by
  have hopen : s.openExchanges e = 0 := by simp [State.openExchanges, hchans]
  have hleave : (s.outEnded e).tchansLeave e = s.outEnded e := by
    refine State.tchansLeave_of_none ((State.chansOfEng_of ?_ ?_ e).trans hchans)
    · exact s.outEnded_touches e .objs rfl
    · exact s.outEnded_touches e .tchans rfl
  unfold State.outDone
  rw [hopen, hchans]
  extract_lets x n s1 s2 s3
  have h3 : s3 = s.outEnded e := hleave
  rw [h3]
  rfl

/-- With the power idle in RUN an engine that has drained starts nothing. -/
theorem State.pwr_rests {s : State} (hseq : s.pwr.seq = .idle) (hstate : s.pwr.state = 0) (hpend : s.pwr.pend = none) :
    ((s.entryE3).abandonEnd).pwrSettle = s := by
  have hentry : s.entryE3 = s := by simp [State.entryE3, hseq]
  have habandon : s.abandonEnd = s := by simp [State.abandonEnd, hseq]
  rw [hentry, habandon]
  simp [State.pwrSettle, hseq, hstate, hpend]

end Sys2Proof.Machine
end

section
/-! ## The states of the engines, together (R339, R340, R342, R343, R347, R349) -/

set_option Elab.async false

namespace Sys2Proof.Machine

/-- What ENG_OUT leaves of the engines it does not name, and of the one it names. -/
theorem State.engOut_gives {s : State} {d : CmdDesc} {e : Nat} (he : e = d.arg 12 1)
    (hacc : s.Accepts d 0xC801 (s.engChecks d (decide (2 ≤ d.arg 13 1) || !(d.zero 14 16) || !(d.zero 20 32))
      (decide ((s.engOf e).st ≠ .run) && decide ((s.engOf e).st ≠ .replay) && decide ((s.engOf e).st ≠ .draining))))
    (hfree : ∀ k, k ∈ s.singleTasks → (s.task k).holder ≠ some e ∧ (s.task k).standby ≠ some e) :
    ((s.engOf e).st = .run → s.chansOfEng e = [] → ((s.engOut d).engOf e).st = .draining ∧ ((s.engOut d).engOf e).out = some d ∧
      ((s.engOut d).engOf e).drained = 0 ∧ ((s.engOut d).engOf e).outAt = s.clk.now) ∧
    ((s.engOf e).st = .replay → ((s.engOut d).engOf e).st = .loaded ∧ Completed d 0xC801 .ok 0 (leBytes 0 12) (s.engOut d)) ∧
    ((s.engOf e).st = .draining → (s.engOut d).eng = s.eng ∧ Completed d 0xC801 .busy 0 [] (s.engOut d)) ∧
    (∀ j, j ≠ e → (s.engOut d).engOf j = s.engOf j) := by
  subst he
  have hrun := State.runCmd_accepted_free (body := fun s => match (s.engOf (d.arg 12 1)).st with
    | .draining => s.complete d 0xC801 .busy
    | .replay => ((s.inDropped (d.arg 12 1)).goEng (d.arg 12 1) .loaded).complete d 0xC801 .ok 0 (leBytes 0 12)
    | _ => if !(bitAt (d.arg 13 1) 0) && s.outRefused (d.arg 12 1) then s.complete d 0xC801 .noResource else s.outBegin (d.arg 12 1) (some d))
    hacc rfl
  have heng : (s.startCmd d).eng = s.eng := s.startCmd_eng d
  have hclk : (s.startCmd d).clk = s.clk := s.startCmd_clk d
  have htasks : ∀ k, (s.startCmd d).task k = s.task k := fun k => congrArg (fun x : EngState => Tab.get ({} : EngTask) x.tasks k) heng
  have hengs : ∀ j, (s.startCmd d).engOf j = s.engOf j := fun j => congrArg (fun x : EngState => Tab.get ({} : Eng) x.engs j) heng
  have hsingle : (s.startCmd d).singleTasks = s.singleTasks := by rw [State.singleTasks, State.singleTasks, State.startCmd_variant]
  have hchans := State.chansOfEng_of (s.startCmd_objs d) (s.startCmd_tchans d) (d.arg 12 1)
  have hbody : s.engOut d = _ := hrun
  rw [hbody]
  generalize s.startCmd d = u at *
  have hfreeu : ∀ k, k ∈ u.singleTasks → (u.task k).holder ≠ some (d.arg 12 1) ∧ (u.task k).standby ≠ some (d.arg 12 1) := fun k hk => by
    rw [htasks]
    exact hfree k (hsingle ▸ hk)
  obtain ⟨hself, hne⟩ := State.outBegin_gives hfreeu (some d)
  have hdropped : ∀ j, j ≠ d.arg 12 1 → (u.inDropped (d.arg 12 1)).engOf j = u.engOf j := fun j hj => by
    unfold State.inDropped
    split
    · exact State.setEng_engOf_ne _ _ _ hj
    · rfl
  have hcpl : ∀ (v : State) st r j, (v.complete d 0xC801 st 0 r).engOf j = v.engOf j := fun _ _ _ _ => rfl
  refine ⟨fun hst hnone => ?_, fun hst => ?_, fun hst => ?_, fun j hj => ?_⟩
  · have hrefused : u.outRefused (d.arg 12 1) = false := State.outRefused_none (hchans.trans hnone) hfreeu
    have hopen : u.openExchanges (d.arg 12 1) = 0 := by simp [State.openExchanges, hchans.trans hnone]
    simp only [hengs, hst, hrefused, Bool.and_false, Bool.false_eq_true, if_false]
    rw [hself, hopen, hclk]
    exact ⟨rfl, rfl, rfl, rfl⟩
  · simp only [hengs, hst]
    rw [hcpl, State.goEng_engOf_self]
    exact ⟨rfl, State.complete_lastCpl _ _ _ _ _ _ _⟩
  · simp only [hengs, hst]
    exact ⟨heng, rfl⟩
  · rw [← hengs j]
    split
    · exact hcpl u .busy [] j
    · rw [hcpl]
      exact (State.goEng_engOf_ne _ _ _ hj).trans (hdropped j hj)
    · split
      · exact hcpl u .noResource [] j
      · exact hne j hj

/-- What ENG_REPLAY_DONE leaves, with nothing that an entry waits for. -/
theorem State.engReplayed_gives {s : State} {e : Nat} (he : e < 16) (hst : (s.engOf e).st = .replay) (hseq : s.pwr.seq ≠ .entry 9)
    (hready : ∀ k, k ∈ s.singleTasks → s.taskReady e k) (us : Nat) :
    (s.engReplayed e us).engOf e = { s.engOf e with st := .run, inCmd := none } ∧ (s.engReplayed e us).isReady Rdy.eng = true ∧
    (∀ k, k ∈ s.singleTasks → (s.task k).holder = none →
      (s.engReplayed e us).task k = { s.task k with holder := some e, standby := none }) ∧
    (∀ k, k ∈ s.singleTasks → (s.task k).holder.isSome = true → (s.engReplayed e us).task k = s.task k) ∧
    (∀ d, (s.engOf e).inCmd = some d → Completed d 0xC803 .ok 0 (leBytes us 4) (s.engReplayed e us)) ∧
    Touches (evtParts ++ cplParts ++ [.ready, .eng]) s (s.engReplayed e us) := by
  let u := (s.setEng e { s.engOf e with inCmd := none }).goEng e .run
  have hu : u.engOf e = { s.engOf e with st := .run, inCmd := none } := by
    refine (State.goEng_engOf_self _ _ _).trans ?_
    rw [State.setEng_engOf_self]
  have htasks : ∀ k, u.task k = s.task k := fun k => State.goEng_task _ _ _ _
  have hframe : Touches (evtParts ++ [.eng]) s u := (State.setEng_touches _ _ _ rfl).step (State.goEng_touches _ _ _ rfl)
  have hdone : s.engReplayDone e us = match (s.engOf e).inCmd with
      | some d => (u.engEnters e).complete d 0xC803 .ok 0 (leBytes us 4)
      | none => u.engEnters e := by
    unfold State.engReplayDone
    exact if_neg (by simp [hst])
  clear_value u
  have hsingle : u.singleTasks = s.singleTasks := by
    have hvariant : u.variant = s.variant := hframe .variant rfl
    rw [State.singleTasks, State.singleTasks, hvariant]
  have hreadyu : ∀ k, k ∈ u.singleTasks → u.taskReady e k := fun k hk => by
    rw [State.taskReady, htasks]
    exact hready k (hsingle ▸ hk)
  obtain ⟨honly, htouch, hin, hout⟩ := State.tasksEnter_gives u.singleTasks_nodup hreadyu
  have henters := u.engEnters_eq e
  generalize u.singleTasks.foldl (State.taskEnter e) u = v at *
  have hruns : v.runners ≠ [] := by
    refine List.ne_nil_of_mem (State.mem_runners.mpr ⟨he, ?_⟩ : e ∈ v.runners)
    rw [honly.engRuns]
    exact decide_eq_true (congrArg Eng.st hu)
  have hrdy : (u.engEnters e).isReady Rdy.eng = true := by
    rw [henters, State.engReady_isReady]
    exact decide_eq_true hruns
  have heng : Part.eng.same v (u.engEnters e) := henters ▸ v.engReady_eng
  have hall : Touches (evtParts ++ [.ready, .eng]) s (u.engEnters e) :=
    ((hframe.mono rfl).step (htouch.mono rfl)).step (henters ▸ State.engReady_touches v rfl)
  generalize u.engEnters e = w at *
  have hw : (s.engReplayDone e us).eng = w.eng ∧ (s.engReplayDone e us).ready = w.ready ∧ Touches cplParts w (s.engReplayDone e us) := by
    rw [hdone]
    split
    · exact ⟨rfl, rfl, State.complete_touches _ _ _ _ _ _ _ rfl⟩
    · exact ⟨rfl, rfl, Touches.refl _ _⟩
  have hpwr : (s.engReplayDone e us).pwr = s.pwr := (hw.2.2 .pwr rfl).trans (hall .pwr rfl)
  have hrun : s.engReplayed e us = s.engReplayDone e us := by
    rw [State.engReplayed, State.abandonEnd, hpwr]
    exact if_pos (.inl hseq)
  rw [hrun]
  obtain ⟨hweng, hwready, hwtouch⟩ := hw
  have hsame : Part.eng.same v (s.engReplayDone e us) := by
    refine refClosed_eng.trans heng ?_
    exact congrArg (fun x : EngState => { x with spad := [] }) hweng
  refine ⟨(State.engOf_of_eng hsame e).trans ((honly.engOf e).trans hu), ?_, fun k hk hnone => ?_, fun k hk hsome => ?_, fun d hd => ?_,
    (hall.mono rfl).step (hwtouch.mono rfl)⟩
  · rw [State.isReady, hwready]
    exact hrdy
  · rw [State.task_of_eng hsame, hin k (hsingle ▸ hk) (by rw [htasks]; exact hnone), htasks]
  · rw [State.task_of_eng hsame, hout k (.inr (by rw [htasks]; exact hsome)), htasks]
  · rw [hdone, hd]
    rfl

/-- Settles O50: tasks go one by one to the engines that run, and channels and references leave the engines as they are. -/
theorem engineStates : Obligations.EngineStates := by
  unfold Obligations.EngineStates
  refine ⟨?faults, ?idle, ?takeover, ?out, ?drained, ?into, ?replayed⟩
  case faults =>
    intro s e cause k b hup hcopy hst hk hholder hstandby hbe hb hruns
    refine ⟨fun hwf => ?_, fun he => ?_⟩
    · obtain ⟨hfault, hcause, htask, hready⟩ := State.engFault_gives hcopy hst hk hholder hstandby hbe hb hruns cause
      have hexec : exec (.engFaultDetect e cause) s = effect (Instr.wf (.engFaultDetect e cause)) s (s.engFault e cause) := rfl
      generalize s.engFault e cause = t at *
      exact gives_effect hexec hup hwf ⟨hfault, hcause, htask, hready⟩
    · obtain ⟨hfault, hcause, htask, -⟩ := State.engFault_gives hcopy hst hk hholder hstandby hbe hb hruns 1
      have hexec : exec (.engWdogExpire e) s = effect (engineNo e) s (s.engFault e 1) := rfl
      generalize s.engFault e 1 = t at *
      exact gives_effect hexec hup (decide_eq_true he) ⟨hfault, hcause, htask⟩
  case idle =>
    intro s e hup he hrun hdraining
    have hnone : s.engFault e 1 = s := by simp [State.engFault, hrun, hdraining]
    exact gives_effect (congrArg (effect (engineNo e) s) hnone) hup (decide_eq_true he) (Touches.refl _ _).carry
  case takeover =>
    intro s k old b n hup hk hmoving hstandby hruns
    have hno : taskNo k = true := by
      simp only [List.mem_cons, List.not_mem_nil, or_false] at hk
      rcases hk with rfl | rfl | rfl | rfl <;> rfl
    obtain ⟨hholder, hmoved, hpin, hcount, hothers, hframe⟩ := State.engTakeover_gives hk hmoving hstandby hruns n
    have hexec : exec (.engTakeover k n) s = effect (taskNo k) s (s.engTakeover k n) := rfl
    generalize s.engTakeover k n = t at *
    exact gives_effect hexec hup hno ⟨hholder, hmoved, hpin, hcount, hothers, hframe.carry⟩
  case out =>
    intro s d e hup hwf he hacc _ hfree
    obtain ⟨hrun, hreplay, hdraining, hothers⟩ := State.engOut_gives he hacc hfree
    have hexec : exec (.engOut d) s = effect d.wf s (s.engOut d) := rfl
    generalize s.engOut d = t at *
    exact gives_effect hexec hup hwf ⟨hrun, hreplay, hdraining, hothers⟩
  case drained =>
    intro s e hup he hst hchans hseq hstate hpend
    have hdone : s.engDrainEnd e = s.outDone e .loaded := if_pos hst
    obtain ⟨hself, hne⟩ := s.outEnded_engOf e
    have hended : Touches (evtParts ++ [.eng]) s (s.outEnded e) := s.outEnded_touches e
    have hbody : s.engDrainEnd e = _ := hdone.trans (State.outDone_none hchans)
    generalize s.outEnded e = u at *
    have hw : (s.engDrainEnd e).eng = u.eng ∧ Touches cplParts u (s.engDrainEnd e) := by
      rw [hbody]
      split
      · exact ⟨rfl, State.complete_touches _ _ _ _ _ _ _ rfl⟩
      · exact ⟨rfl, Touches.refl _ _⟩
    have hcpl : ∀ d, (s.engOf e).out = some d → Completed d 0xC801 .ok 0
        (leBytes (s.engOf e).drained 4 ++ leBytes 0 4 ++ leBytes ((s.clk.now - (s.engOf e).outAt) / 1000000) 4) (s.engDrainEnd e) := fun d hd => by
      rw [hbody, hd]
      rfl
    obtain ⟨hweng, hwtouch⟩ := hw
    have hframe : Touches (evtParts ++ cplParts ++ [Part.eng]) s (s.engDrainEnd e) := (hended.mono rfl).step (hwtouch.mono rfl)
    have hpwr : (s.engDrainEnd e).pwr = s.pwr := hframe .pwr rfl
    have hrests : s.engDrained e = s.engDrainEnd e :=
      State.pwr_rests (by rw [hpwr]; exact hseq) (by rw [hpwr]; exact hstate) (by rw [hpwr]; exact hpend)
    have hheld : (s.engDrained e).heldGo s = s.engDrainEnd e := by
      rw [hrests]
      exact State.heldGo_of_same (hframe.regDown rfl rfl rfl)
    have hexec : exec (.engDrainEnd e) s = effect (engineNo e) s ((s.engDrained e).heldGo s) := rfl
    rw [hheld] at hexec
    have hengs : ∀ j, (s.engDrainEnd e).engOf j = u.engOf j := fun j => congrArg (fun x : EngState => Tab.get ({} : Eng) x.engs j) hweng
    have hselft := (hengs e).trans hself
    have hnet : ∀ j, j ≠ e → (s.engDrainEnd e).engOf j = s.engOf j := fun j hj => (hengs j).trans (hne j hj)
    generalize s.engDrainEnd e = t at *
    exact gives_effect hexec hup (decide_eq_true he)
      ⟨congrArg Eng.st hselft, congrArg Eng.out hselft, congrArg Eng.drained hselft, hcpl, hnet, hframe.carry⟩
  case into =>
    intro s d e hup hwf he hacc
    subst he
    have hrun : s.engIn d = ((s.startCmd d).setEng (d.arg 12 1) { (s.startCmd d).engOf (d.arg 12 1) with inCmd := some d }).goEng (d.arg 12 1) .replay :=
      State.runCmd_accepted_free hacc rfl
    have heng : (s.startCmd d).engOf = s.engOf := by
      funext j
      exact congrArg (fun x : EngState => Tab.get ({} : Eng) x.engs j) (s.startCmd_eng d)
    have hstart := State.startCmd_touches (ps := evtParts ++ cplParts ++ [.eng]) s d rfl
    generalize s.startCmd d = u at *
    have hframe := hstart.step ((State.setEng_touches u (d.arg 12 1) { u.engOf (d.arg 12 1) with inCmd := some d } rfl).step
      (State.goEng_touches _ (d.arg 12 1) .replay rfl))
    have hself : (s.engIn d).engOf (d.arg 12 1) = { s.engOf (d.arg 12 1) with st := .replay, inCmd := some d } := by
      rw [hrun, State.goEng_engOf_self, State.setEng_engOf_self, heng]
    have hne : ∀ j, j ≠ d.arg 12 1 → (s.engIn d).engOf j = s.engOf j := fun j hj => by
      rw [hrun, State.goEng_engOf_ne _ _ _ hj, State.setEng_engOf_ne _ _ _ hj, heng]
    have hexec : exec (.engIn d) s = effect d.wf s (s.engIn d) := rfl
    rw [← hrun] at hframe
    generalize s.engIn d = t at *
    exact gives_effect hexec hup hwf ⟨hself, hne, hframe.carry⟩
  case replayed =>
    intro s e us hup he hst hseq hready
    obtain ⟨hself, hrdy, hfree, hheld, hcpl, hframe⟩ := State.engReplayed_gives he hst hseq hready us
    have hexec : exec (.engReplayDone e us) s = effect (engineNo e) s (s.engReplayed e us) := rfl
    generalize s.engReplayed e us = t at *
    exact gives_effect hexec hup (decide_eq_true he) ⟨hself, hrdy, hfree, hheld, hcpl, hframe.carry⟩

end Sys2Proof.Machine
end

section
/-! ## Commands on engines, images and policy tables (R344, R345, R348, R349, R351, R364) -/

set_option Elab.async false

namespace Sys2Proof.Machine

/-! ### Policy entries -/

theorem State.polEntry_of_eng {s t : State} (h : Part.eng.same s t) (p i : Nat) : t.polEntry p i = s.polEntry p i :=
  (congrArg (fun x : EngState => Tab.get (polReset p i) x.pol (p, i)) h :)

/-- An entry reads what was last set, its reset value where none is listed. -/
theorem State.setPol_polEntry_self (s : State) (p i v : Nat) : (s.setPol p i v).polEntry p i = v := by
  have hpol : (s.setPol p i v).eng.pol = if v = polReset p i then Tab.erase s.eng.pol (p, i) else Tab.set s.eng.pol (p, i) v := rfl
  rw [State.polEntry, hpol, Tab.get_eq_find]
  split
  · next h => rw [Tab.find_erase_self, Option.getD_none, h]
  · rw [Tab.find_set_self, Option.getD_some]

theorem State.setPol_polEntry_ne (s : State) {p i q j : Nat} (v : Nat) (h : (q, j) ≠ (p, i)) : (s.setPol p i v).polEntry q j = s.polEntry q j := by
  have hpol : (s.setPol p i v).eng.pol = if v = polReset p i then Tab.erase s.eng.pol (p, i) else Tab.set s.eng.pol (p, i) v := rfl
  rw [State.polEntry, State.polEntry, hpol, Tab.get_eq_find, Tab.get_eq_find]
  split
  · rw [Tab.find_erase_ne _ h]
  · rw [Tab.find_set_ne _ _ _ _ h]

/-- The entries of a table, set one after the other. -/
def State.setPols (s : State) (p first n : Nat) (v : Nat → Nat) : State :=
  (List.range n).foldl (fun s k => s.setPol p (first + k) (v k)) s

theorem State.setPols_polEntry (s : State) (p first n : Nat) (v : Nat → Nat) :
    (∀ k, k < n → (s.setPols p first n v).polEntry p (first + k) = v k) ∧
    (∀ q i, (q ≠ p ∨ i < first ∨ first + n ≤ i) → (s.setPols p first n v).polEntry q i = s.polEntry q i) := by
  induction n with
  | zero => exact ⟨fun k hk => absurd hk (Nat.not_lt_zero k), fun _ _ _ => rfl⟩
  | succ n ih =>
    obtain ⟨hin, hout⟩ := ih
    have hrun : s.setPols p first (n + 1) v = (s.setPols p first n v).setPol p (first + n) (v n) := by
      simp [State.setPols, List.range_succ]
    rw [hrun]
    refine ⟨fun k hk => ?_, fun q i hqi => ?_⟩
    · rcases Nat.lt_succ_iff_lt_or_eq.mp hk with hlt | rfl
      · rw [State.setPol_polEntry_ne _ _ (by simp; omega)]
        exact hin k hlt
      · exact State.setPol_polEntry_self _ _ _ _
    · have hne : (q, i) ≠ (p, first + n) := fun h => by
        obtain ⟨rfl, rfl⟩ := Prod.mk.inj h
        omega
      rw [State.setPol_polEntry_ne _ _ hne]
      exact hout q i (by omega)

theorem State.setPols_touches (s : State) (p first n : Nat) (v : Nat → Nat) : Touches [.eng] s (s.setPols p first n v) :=
  Touches.foldl (fun s k => State.setPol_touches s p (first + k) (v k) rfl) _ (Touches.refl _ _)

/-- The roles that the policy gives the channels leave the engines alone. -/
theorem State.rolesEval_eng (s : State) : Part.eng.same s s.rolesEval := by
  have hrole : ∀ (u : State) (i r : Nat), Part.eng.same u (u.setRole i r) := by
    intro u i r
    unfold State.setRole
    extract_lets x s1 _ s2 s3
    split
    · rfl
    · have h1 : Part.eng.same u s1 := RefClosed.ite rfl (refClosed_eng.chanStop u i)
      have h2 : Part.eng.same u s2 := refClosed_eng.trans h1 rfl
      clear_value s2
      have h3 : Part.eng.same u s3 := RefClosed.ite h2 (refClosed_eng.trans h2 (refClosed_eng.chan _ _ _))
      exact refClosed_eng.trans h3 (State.chansChanged_touches (ps := Part.others .eng) s3 _ rfl .eng rfl)
  unfold State.rolesEval
  split
  · rfl
  · exact refClosed_eng.foldl (fun u i => hrole u i _) _ s

/-! ### The words of POL_SAVE -/

/-- A word of POL_SAVE is stored, and its store has ended. -/
theorem State.polStore_gives {s : State} {w : Nat} {v : Word} (hok : s.persStatus w v = .ok) :
    (s.polStore w v).pers! w = v ∧ (s.polStore w v).pers.busy = s.pers.busy ∧
    (∀ x, x ≠ w → (s.polStore w v).pers! x = s.pers! x ∧ (s.polStore w v).wear x = s.wear x) ∧ Touches [.pers] s (s.polStore w v) := by
  obtain ⟨hstored, -, hothers⟩ := s.persStore_gives w v
  have hrun : s.polStore w v = { s.persStore w v with pers := { (s.persStore w v).pers with busy := s.pers.busy } } := if_pos hok
  have hframe : Touches [.pers] s (s.persStore w v) := by
    unfold State.persStore
    rw [hok]
    exact Touches.ite (Touches.refl _ _) ((Touches.refl _ _).set_pers rfl)
  rw [hrun]
  exact ⟨(hstored hok).1, rfl, fun x hx => ⟨(hothers x hx).1, (hothers x hx).2.1⟩, hframe.set_pers rfl⟩

/-- The store has room for the word: it is not worn out, not busy, and eight stores do not run. -/
def State.persFree (s : State) (w : Nat) : Prop := s.wear w < 200000 ∧ s.persBusy w = false ∧ s.pers.busy.length < 8

theorem State.persFree_ok {s : State} {w : Nat} (h : s.persFree w) (v : Word) : s.persStatus w v = .ok := by
  obtain ⟨hwear, hbusy, hroom⟩ := h
  simp [State.persStatus, Nat.not_le.mpr hwear, hbusy, Nat.not_le.mpr hroom]

/-- Words of which none comes twice are all stored where there is room for each. -/
theorem State.polStoreAll_gives {l : List (Nat × Word)} (s : State) (n : Nat) (hl : (l.map (fun e => e.1)).Nodup)
    (hfree : ∀ e, e ∈ l → s.persFree e.1) :
    (∀ e, e ∈ l → (s.polStoreAll n l).1.pers! e.1 = e.2) ∧ (∀ w, w ∉ l.map (fun e => e.1) → (s.polStoreAll n l).1.pers! w = s.pers! w) ∧
    (s.polStoreAll n l).2.2 = .ok ∧ Touches [.pers] s (s.polStoreAll n l).1 := by
  induction l generalizing s n with
  | nil => exact ⟨fun _ h => absurd h List.not_mem_nil, fun _ _ => rfl, rfl, Touches.refl _ _⟩
  | cons x l ih =>
    obtain ⟨w, v⟩ := x
    obtain ⟨hw, hl⟩ := List.nodup_cons.mp hl
    have hok := State.persFree_ok (hfree (w, v) List.mem_cons_self) v
    obtain ⟨hself, hbusy, hothers, hframe⟩ := State.polStore_gives hok
    have hfree' : ∀ e, e ∈ l → (s.polStore w v).persFree e.1 := fun e he => by
      have hne : e.1 ≠ w := fun h => hw (h ▸ List.mem_map_of_mem (f := fun e => e.1) he)
      rw [State.persFree, State.persBusy, hbusy, (hothers e.1 hne).2]
      exact hfree e (List.mem_cons_of_mem _ he)
    obtain ⟨hin, hout, hst, htouch⟩ := ih (s.polStore w v) (n + (if s.pers! w = v then 0 else 1)) hl hfree'
    have hrun : s.polStoreAll n ((w, v) :: l) = (s.polStore w v).polStoreAll (n + (if s.pers! w = v then 0 else 1)) l := by
      rw [State.polStoreAll]
      exact if_neg (by simp [hok])
    rw [hrun]
    refine ⟨fun e he => ?_, fun y hy => ?_, hst, hframe.step htouch⟩
    · rcases List.mem_cons.mp he with rfl | hmem
      · exact (hout w hw).trans hself
      · exact hin e hmem
    · simp only [List.map_cons, List.mem_cons, not_or] at hy
      exact (hout y hy.2).trans (hothers y hy.1).1

theorem State.polWords_keys (s : State) : s.polWords.map (fun e => e.1) = (List.range 68).map (fun k => 289 + k) := by
  have hsplit : (List.range 68).map (fun k => 289 + k) =
      (List.range 48).map (fun k => 289 + k) ++ (List.range 16).map (fun k => 337 + k) ++ (List.range 4).map (fun k => 353 + k) := by decide
  rw [hsplit]
  simp [State.polWords, Function.comp_def]

/-- All the words that POL_SAVE stores, the last with them. -/
def State.polAll (s : State) : List (Nat × Word) := s.polWords ++ [(357, polCrcWord (s.polWords.map (fun e => e.2)))]

theorem State.polAll_keys (s : State) : s.polAll.map (fun e => e.1) = (List.range 69).map (fun k => 289 + k) := by
  rw [State.polAll, List.map_append, State.polWords_keys, List.range_succ (n := 68), List.map_append]
  rfl

theorem State.mem_polAll_keys {s : State} {w : Nat} : w ∈ s.polAll.map (fun e => e.1) ↔ 289 ≤ w ∧ w ≤ 357 := by
  rw [State.polAll_keys]
  simp only [List.mem_map, List.mem_range]
  exact ⟨fun ⟨k, hk, h⟩ => by omega, fun ⟨h, h'⟩ => ⟨w - 289, by omega, by omega⟩⟩

theorem State.polAll_nodup (s : State) : (s.polAll.map (fun e => e.1)).Nodup := by
  rw [State.polAll_keys]
  decide

/-! ### Images -/

theorem State.imageLoad_gives (s : State) (e : Nat) (x : EngImage) :
    ((s.imageLoad e x).engOf e).st = .loaded ∧ ((s.imageLoad e x).engOf e).image = some x ∧ (s.imageLoad e x).eng.copy = some x ∧
    (s.imageLoad e x).eng.fwBanks = x.banks % 2 ^ 32 ∧ (∀ j, j ≠ e → (s.imageLoad e x).engOf j = s.engOf j) := by
  let u : State := { s with eng := { s.eng with copy := some x, fwBanks := x.banks % 2 ^ 32 } }
  let v := (u.setEng e { u.engOf e with image := some x }).goEng e .loaded
  have hrun : s.imageLoad e x = v.cycClear e := rfl
  obtain ⟨-, -, hcopy, hbanks⟩ := State.goEng_eng (u.setEng e { u.engOf e with image := some x }) e .loaded
  have hself : v.engOf e = { u.engOf e with image := some x, st := .loaded } := by
    refine (State.goEng_engOf_self _ _ _).trans ?_
    rw [State.setEng_engOf_self]
  have hne : ∀ j, j ≠ e → v.engOf j = s.engOf j := fun j hj =>
    (State.goEng_engOf_ne _ _ _ hj).trans (State.setEng_engOf_ne u e _ hj)
  have hcopyv : v.eng.copy = some x := hcopy
  have hbanksv : v.eng.fwBanks = x.banks % 2 ^ 32 := hbanks
  have hclear : ∀ w : State, (w.cycClear e).engOf = w.engOf ∧ (w.cycClear e).eng.copy = w.eng.copy ∧
      (w.cycClear e).eng.fwBanks = w.eng.fwBanks := fun _ => ⟨rfl, rfl, rfl⟩
  obtain ⟨hof, hcop, hban⟩ := hclear v
  rw [hrun, hof, hcop, hban]
  exact ⟨congrArg Eng.st hself, congrArg Eng.image hself, hcopyv, hbanksv, hne⟩

/-- Settles O51: an image loads into one engine, entries and words are each set for themselves. -/
theorem engineCommands : Obligations.EngineCommands := by
  unfold Obligations.EngineCommands
  refine ⟨?load, ?commit, ?pin, ?set, ?get, ?save⟩
  case load =>
    intro s d e o hup hwf he ho hacc
    subst he ho
    have hrun : s.engLoad d = _ := State.runCmd_accepted_free hacc rfl
    have heng : (s.startCmd d).eng = s.eng := s.startCmd_eng d
    have hengs : ∀ j, (s.startCmd d).engOf j = s.engOf j := fun j => congrArg (fun x : EngState => Tab.get ({} : Eng) x.engs j) heng
    have hbytes : ∀ a n, (s.startCmd d).spadBytes a n = s.spadBytes a n := fun a n => by rw [State.spadBytes, State.spadBytes, heng]
    have hcheck : ∀ h b, (s.startCmd d).imageCheck h b = s.imageCheck h b := fun h b => by rw [State.startCmd_eq]; rfl
    have hstart := State.startCmd_touches (ps := evtParts ++ cplParts ++ [.eng]) s d rfl
    have hof : ∀ {v w : State}, v.eng = w.eng → ∀ j, v.engOf j = w.engOf j := fun h j => congrArg (fun x : EngState => Tab.get ({} : Eng) x.engs j) h
    simp only [hengs, hbytes, hcheck] at hrun
    generalize s.startCmd d = u at *
    have hcpl : ∀ (v : State) (st : Status) (r : List Byte), Touches (evtParts ++ cplParts ++ [.eng]) v (v.complete d 0xC802 st 0 r) :=
      fun v st r => State.complete_touches _ _ _ _ _ _ _ rfl
    by_cases hbusy : (s.engOf (d.arg 12 1)).st = .run ∨ (s.engOf (d.arg 12 1)).st = .replay ∨ (s.engOf (d.arg 12 1)).st = .draining
    · rw [if_pos hbusy] at hrun
      refine gives_effect (congrArg (effect d.wf s) hrun) hup hwf ⟨fun _ => ⟨heng, rfl⟩, fun h c hidle => ?_, fun j _ => hof heng j,
        (hstart.step (hcpl u _ _)).carry⟩
      rcases hbusy with h | h | h <;> rw [h] at hidle <;> simp at hidle
    rw [if_neg hbusy] at hrun
    generalize hh : s.spadBytes (d.arg 16 4) 256 = h at *
    generalize hc : s.imageCheck h (s.spadBytes (d.arg 16 4 + 256) (min 196608 (leAt h 32 4))) = c at *
    by_cases hbad : c ≠ 0
    · rw [if_pos hbad] at hrun
      refine gives_effect (congrArg (effect d.wf s) hrun) hup hwf ⟨fun hno => absurd hno hbusy, fun h' c' _ hh' hc' => ?_, fun j _ => hof heng j,
        (hstart.step (hcpl u _ _)).carry⟩
      subst hh'
      rw [hc] at hc'
      subst hc'
      exact ⟨fun _ => ⟨heng, rfl⟩, fun hno => absurd hno hbad⟩
    · rw [if_neg hbad] at hrun
      obtain ⟨hst, himage, hcopy, hbanks, hne⟩ := u.imageLoad_gives (d.arg 12 1) (imageOf h)
      have hload := u.imageLoad_touches (ps := evtParts ++ cplParts ++ [.eng]) (d.arg 12 1) (imageOf h) rfl
      generalize u.imageLoad (d.arg 12 1) (imageOf h) = v at *
      refine gives_effect (congrArg (effect d.wf s) hrun) hup hwf ⟨fun hno => absurd hno hbusy, fun h' c' _ hh' hc' => ?_, fun j hj => ?_,
        ((hstart.step hload).step (hcpl v _ _)).carry⟩
      · subst hh'
        rw [hc] at hc'
        subst hc'
        exact ⟨fun hno => absurd hno hbad, fun _ => ⟨hst, himage, hcopy, hbanks, rfl⟩⟩
      · exact (hne j hj).trans (hof heng j)
  case commit =>
    intro s d hup hwf hacc
    have hrun : s.engImgCommit d = _ := State.runCmd_accepted hacc
    have heng : ((s.startCmd d).consumeKey d.src.path).eng = s.eng := s.startCmd_eng d
    have hpers : ((s.startCmd d).consumeKey d.src.path).pers = s.pers := s.startCmd_pers d
    have hkey : (((s.startCmd d).consumeKey d.src.path).key d.src.path).unlocked = false :=
      congrArg KeySt.unlocked (Tab.get_set_self _ _ _ _ : ((s.startCmd d).consumeKey d.src.path).key d.src.path =
        { (s.startCmd d).key d.src.path with unlocked := false })
    have hstart := (State.startCmd_touches (ps := evtParts ++ cplParts ++ [.pers]) s d rfl).step (State.consumeKey_touches _ d.src.path rfl)
    simp only [if_true] at hrun
    generalize (s.startCmd d).consumeKey d.src.path = u at *
    have hruns : ∀ e, u.engRuns e = s.engRuns e := fun e => congrArg (fun x : EngState => decide ((Tab.get ({} : Eng) x.engs e).st = .run)) heng
    have hrunners : u.runners = s.runners := by simp only [State.runners, hruns]
    have hver : u.secVerRun = s.secVerRun := by
      simp only [State.secVerRun, hrunners, State.engOf, heng]
    have hstatus : ∀ v, u.persStatus 288 v = s.persStatus 288 v := fun v => by
      simp only [State.persStatus, State.pers!, State.wear, State.persBusy, hpers]
      rfl
    simp only [hrunners, hver, hstatus] at hrun
    have hcpl : ∀ (v : State) (st : Status) (r : List Byte), Touches (evtParts ++ cplParts ++ [.pers]) v (v.complete d 0xC809 st 0 r) :=
      fun v st r => State.complete_touches _ _ _ _ _ _ _ rfl
    by_cases hnone : s.runners = []
    · rw [if_pos hnone] at hrun
      exact gives_effect (congrArg (effect d.wf s) hrun) hup hwf ⟨fun _ => ⟨hpers, rfl⟩, fun h => absurd hnone h, hkey,
        (hstart.step (hcpl u _ _)).carry⟩
    · rw [if_neg hnone] at hrun
      obtain ⟨hstored, -, hothers⟩ := u.persStore_gives 288 (BitVec.ofNat 32 s.secVerRun)
      have hstore := State.persStore_touches (ps := evtParts ++ cplParts ++ [.pers]) u 288 (BitVec.ofNat 32 s.secVerRun) rfl
      have hkeys : (u.persStore 288 (BitVec.ofNat 32 s.secVerRun)).keys = u.keys :=
        State.persStore_touches (ps := Part.others .keys) u 288 _ rfl .keys rfl
      have hpersof : ∀ x, u.pers! x = s.pers! x := fun x => by rw [State.pers!, hpers]; rfl
      generalize u.persStore 288 (BitVec.ofNat 32 s.secVerRun) = v at *
      refine gives_effect (congrArg (effect d.wf s) hrun) hup hwf ⟨fun h => absurd h hnone, fun _ hok => ⟨?_, fun x hx => ?_, ?_⟩, ?_,
        ((hstart.step hstore).step (hcpl v _ _)).carry⟩
      · exact (hstored ((hstatus _).trans hok)).1
      · exact ((hothers x hx).1).trans (hpersof x)
      · rw [hok, if_pos rfl]
        rfl
      · have hof : (v.complete d 0xC809 (s.persStatus 288 (BitVec.ofNat 32 s.secVerRun)) 0
            (if s.persStatus 288 (BitVec.ofNat 32 s.secVerRun) = .ok then leBytes s.secVerRun 2 else [])).key d.src.path = u.key d.src.path :=
          congrArg (fun k : Tab Path KeySt => Tab.get ({} : KeySt) k d.src.path) hkeys
        rw [State.key, State.carry_keys]
        exact (congrArg KeySt.unlocked hof).trans hkey
  case pin =>
    intro s d k h b hup hwf hk hh hb hacc
    subst hk hh hb
    have hrun : s.engTaskPin d = _ := State.runCmd_accepted_free hacc rfl
    have heng : (s.startCmd d).eng = s.eng := s.startCmd_eng d
    generalize s.startCmd d = u at *
    have htask : ∀ k, u.task k = s.task k := fun k => congrArg (fun x : EngState => Tab.get ({} : EngTask) x.tasks k) heng
    have hruns : ∀ e, u.engRuns e = s.engRuns e := fun e => congrArg (fun x : EngState => decide ((Tab.get ({} : Eng) x.engs e).st = .run)) heng
    have hcpl : ∀ (v : State) (st : Status) (k : Nat), (v.complete d 0xC804 st).task k = v.task k := fun _ _ _ => rfl
    have hexec : exec (.engTaskPin d) s = effect d.wf s (s.engTaskPin d) := rfl
    refine gives_effect hexec hup hwf ⟨fun hfree => ?_, fun hset hstop => ?_, fun old hset hgo hold hne => ?_⟩
    · rw [hrun, if_pos hfree]
      refine ⟨?_, rfl⟩
      rw [State.task, State.carry_eng]
      exact (hcpl _ .ok _).trans ((State.setTask_task_self _ _ _).trans (by rw [htask]))
    · rw [hrun, if_neg hset, hruns, hstop]
      exact ⟨heng, rfl⟩
    · rw [hrun, if_neg hset, hruns, hgo]
      simp only [Bool.not_true, Bool.false_eq_true, if_false, htask, hold, hne]
      refine ⟨?_, rfl⟩
      rw [State.task, State.carry_eng]
      refine (hcpl _ .ok _).trans ((State.taskMove_task_self _ _ _ _).trans ?_)
      rw [State.setTask_task_self]
  case set =>
    intro s d hup hwf hacc
    have hrun : s.polSet d = _ := State.runCmd_accepted_free hacc rfl
    have hstart := State.startCmd_touches (ps := cplParts ++ [.eng]) s d rfl
    have heng : (s.startCmd d).eng = s.eng := s.startCmd_eng d
    have hentry : ∀ p i, (s.startCmd d).polEntry p i = s.polEntry p i := fun p i =>
      congrArg (fun x : EngState => Tab.get (polReset p i) x.pol (p, i)) heng
    generalize s.startCmd d = u at *
    obtain ⟨hin, hout⟩ := u.setPols_polEntry d.polTable d.polFirst d.polCount (fun k => d.buf (8 + 8 * k) 8)
    have hset := (u.setPols_touches d.polTable d.polFirst d.polCount (fun k => d.buf (8 + 8 * k) 8))
    have hfold : s.polSet d = (if d.polTable = 1 then (u.setPols d.polTable d.polFirst d.polCount (fun k => d.buf (8 + 8 * k) 8)).rolesEval
      else u.setPols d.polTable d.polFirst d.polCount (fun k => d.buf (8 + 8 * k) 8)).complete d 0xC805 .ok := hrun
    generalize u.setPols d.polTable d.polFirst d.polCount (fun k => d.buf (8 + 8 * k) 8) = v at *
    have hsame : Part.eng.same v (s.polSet d) := by
      rw [hfold]
      split
      · exact refClosed_eng.trans v.rolesEval_eng rfl
      · rfl
    have hcpl : Completed d 0xC805 .ok 0 [] (s.polSet d) := by
      rw [hfold]
      exact State.complete_lastCpl _ _ _ _ _ _ _
    have hframe : d.polTable ≠ 1 → Touches (cplParts ++ [Part.eng]) s (s.polSet d) := fun hne => by
      rw [hfold, if_neg hne]
      exact (hstart.step (hset.mono rfl)).step (State.complete_touches _ _ _ _ _ _ _ rfl)
    have hexec : exec (.polSet d) s = effect d.wf s (s.polSet d) := rfl
    generalize s.polSet d = t at *
    refine gives_effect hexec hup hwf ⟨fun k hk => ?_, fun p i hpi => ?_, hcpl, fun hne => (hframe hne).carry⟩
    · exact (State.polEntry_of_eng hsame _ _).trans (hin k hk)
    · exact (State.polEntry_of_eng hsame _ _).trans ((hout p i hpi).trans (hentry p i))
  case get =>
    intro s d hup hwf hacc
    have hrun : s.polGet d = _ := State.runCmd_accepted_free hacc rfl
    have hentry : ∀ p i, (s.startCmd d).polEntry p i = s.polEntry p i := fun p i =>
      congrArg (fun x : EngState => Tab.get (polReset p i) x.pol (p, i)) (s.startCmd_eng d)
    simp only [hentry] at hrun
    exact gives_effect (congrArg (effect d.wf s) hrun) hup hwf ⟨rfl, (State.startComplete_touches s d _ _ _ _ _ rfl).carry⟩
  case save =>
    intro s d hup hwf hacc hwear hroom
    have hrun : s.polSave d = _ := State.runCmd_accepted_free hacc rfl
    have hwords : (s.startCmd d).polWords = s.polWords := by rw [State.startCmd_eq]; rfl
    have hpers : (s.startCmd d).pers = s.pers := s.startCmd_pers d
    have hstart := State.startCmd_touches (ps := cplParts ++ [.pers]) s d rfl
    simp only [hwords] at hrun
    generalize s.startCmd d = u at *
    have hfree : ∀ e, e ∈ s.polAll → u.persFree e.1 := fun e he => by
      obtain ⟨hlo, hhi⟩ := State.mem_polAll_keys.mp (List.mem_map_of_mem (f := fun e : Nat × Word => e.1) he)
      obtain ⟨hw, hb⟩ := hwear e.1 hlo hhi
      exact ⟨by rw [State.wear, hpers]; exact hw, by rw [State.persBusy, hpers]; exact hb, by rw [hpers]; exact hroom⟩
    obtain ⟨hin, hout, hst, hframe⟩ := State.polStoreAll_gives u 0 s.polAll_nodup hfree
    have hall : s.polWords ++ [(357, polCrcWord (s.polWords.map (fun e => e.2)))] = s.polAll := rfl
    rw [hall] at hrun
    generalize u.polStoreAll 0 s.polAll = r at *
    simp only [hst, if_true] at hrun
    refine gives_effect (congrArg (effect d.wf s) hrun) hup hwf ⟨fun e he => ?_, ?_, fun w hw => ?_, ⟨r.2.1, rfl⟩,
      ((hstart.step (hframe.mono rfl)).step (State.complete_touches _ _ _ _ _ _ _ rfl)).carry⟩
    · exact hin e (List.mem_append_left _ he)
    · exact hin (357, _) (List.mem_append_right _ List.mem_cons_self)
    · refine (hout w (fun hmem => ?_)).trans (by rw [State.pers!, hpers]; rfl)
      have hrange := State.mem_polAll_keys.mp hmem
      omega

end Sys2Proof.Machine
end

section
/-! ## Candidates and selections: what one candidate's change leaves (R255 to R258) -/

set_option Elab.async false

namespace Sys2Proof.Machine

/-! ### One candidate -/

/-- A candidate in a new state: entering QUALIFYING restarts its qualification. -/
def Cand.become (c : Cand) (st : CandSt) (cause : Nat) : Cand :=
  if st = .qualifying then { c with st := st, cause := cause, pulses := 0, qsum := 0, qn := 0 } else { c with st := st, cause := cause }

@[simp] theorem Cand.become_st (c : Cand) (st : CandSt) (cause : Nat) : (c.become st cause).st = st := by
  unfold Cand.become
  split <;> rfl

@[simp] theorem Cand.become_cause (c : Cand) (st : CandSt) (cause : Nat) : (c.become st cause).cause = cause := by
  unfold Cand.become
  split <;> rfl

@[simp] theorem Cand.become_failing (c : Cand) (st : CandSt) (cause : Nat) : (c.become st cause).failing = c.failing := by
  unfold Cand.become
  split <;> rfl

@[simp] theorem Cand.become_ppb (c : Cand) (st : CandSt) (cause : Nat) : (c.become st cause).ppb = c.ppb := by
  unfold Cand.become
  split <;> rfl

/-- One candidate replaced. -/
def State.putCand (s : State) (id : Nat) (c : Cand) : State := s.withCands (Tab.set s.ref.cands id c)

section PutCand

variable (s : State) (id : Nat) (c d : Cand)

@[simp] theorem State.putCand_cand_self : (s.putCand id c).cand id = c := Tab.get_set_self _ _ _ _

theorem State.putCand_cand_ne {j : Nat} (h : j ≠ id) : (s.putCand id c).cand j = s.cand j := Tab.get_set_ne _ _ _ _ _ h

theorem State.putCand_touches : Touches [.ref] s (s.putCand id c) := (Touches.refl _ _).set_ref rfl

end PutCand

section SetCandSt

variable (s : State) (id : Nat) (st : CandSt) (cause : Nat)

theorem State.setCandSt_ref : (s.setCandSt id st cause).ref = { s.ref with cands := Tab.set s.ref.cands id ((s.cand id).become st cause) } := by
  unfold State.setCandSt
  extract_lets c c' t _ u
  have hu : u.ref = { s.ref with cands := Tab.set s.ref.cands id ((s.cand id).become st cause) } := rfl
  clear_value u
  split
  · exact (State.pllInputLost_touches (ps := Part.others .ref) u id rfl .ref rfl).trans hu
  · exact hu

@[simp] theorem State.setCandSt_cand_self : (s.setCandSt id st cause).cand id = (s.cand id).become st cause := by
  rw [State.cand, State.setCandSt_ref]
  exact Tab.get_set_self _ _ _ _

theorem State.setCandSt_cand_ne {j : Nat} (h : j ≠ id) : (s.setCandSt id st cause).cand j = s.cand j := by
  rw [State.cand, State.setCandSt_ref]
  exact Tab.get_set_ne _ _ _ _ _ h

/-- A candidate that stays in use, or was not, takes no input from a PLL. -/
theorem State.setCandSt_frame (h : (s.cand id).st ≠ .qualified ∧ (s.cand id).st ≠ .selected ∨ st = .qualified ∨ st = .selected) :
    Touches (evtParts ++ [.ref]) s (s.setCandSt id st cause) := by
  unfold State.setCandSt
  extract_lets c c' t _ u
  have hu : Touches (evtParts ++ [.ref]) s u := (State.raiseIf_touches s _ _ _ _ _ rfl).set_ref rfl
  clear_value u
  rw [if_neg]
  · exact hu
  · rintro ⟨huse, hq, hs⟩
    rcases h with ⟨h1, h2⟩ | h | h
    · exact huse.elim h1 h2
    · exact hq h
    · exact hs h

/-- A candidate that goes out of use may take the input of PLL-A and PLL-B away. -/
theorem State.setCandSt_lost : Touches (evtParts ++ [.ref, .pll, .rc .pllCnt]) s (s.setCandSt id st cause) :=
  Touches.without_eng (State.setCandSt_touches s id st cause rfl) (refClosed_eng.setCandSt s id st cause)

end SetCandSt

/-! ### Which candidates may be selected -/

theorem Tab.find_unlisted {κ α : Type} [DecidableEq κ] {t : Tab κ α} {k : κ} (h : k ∉ t.map (fun e => e.1)) : Tab.find t k = none := by
  induction t with
  | nil => rfl
  | cons e t ih =>
    simp only [List.map_cons, List.mem_cons, not_or] at h
    rw [Tab.find, if_neg (Ne.symm h.1)]
    exact ih h.2

/-- A candidate is usable by its state and its priority. -/
theorem State.candUsable_of {s t : State} (hregs : t.regs = s.regs) (hsets : t.ref.sets = s.ref.sets) {j : Nat} (hst : (t.cand j).st = (s.cand j).st) :
    t.candUsable j = s.candUsable j := by
  have hprio : t.candPrio j = s.candPrio j := by
    simp only [State.candPrio, State.candSet, State.ap_of_regs hregs, hsets]
  rw [State.candUsable, State.candUsable, hst, hprio]

theorem State.candUsable_else {s : State} {j : Nat} (h : (s.cand j).st ≠ .qualified) (h' : (s.cand j).st ≠ .selected) :
    s.candUsable j = false := by
  simp [State.candUsable, h, h']

theorem State.candUsable_listed {s : State} {j : Nat} (h : s.candUsable j = true) : j ∈ s.ref.cands.map (fun e => e.1) := by
  by_contra hno
  have hnone : Tab.find s.ref.cands j = none := Tab.find_unlisted hno
  have hdefault : s.cand j = {} := by
    rw [State.cand, Tab.get_eq_find, hnone]
    rfl
  rw [State.candUsable, hdefault] at h
  simp at h

section Wanted

variable {s : State} {id : Nat}

theorem State.bestCand_none (h : ∀ j, s.candUsable j = false) (time : Bool) : s.bestCand time = none := by
  simp [State.bestCand, h]

/-- Of candidates that are all one, that one is taken. -/
theorem State.bestCand_fold {k : Nat → Nat} {l : List Nat} (hl : ∀ j, j ∈ l → j = id) (hne : l ≠ []) :
    l.foldl (fun b id => match b with
      | none => some id
      | some x => if k id < k x then some id else some x) none = some id := by
  have hkeep : ∀ l : List Nat, (∀ j, j ∈ l → j = id) → l.foldl (fun b id => match b with
      | none => some id
      | some x => if k id < k x then some id else some x) (some id) = some id := by
    intro l
    induction l with
    | nil => exact fun _ => rfl
    | cons x l ih =>
      intro hl
      obtain rfl := hl x List.mem_cons_self
      rw [List.foldl_cons]
      simp only [lt_irrefl, if_false]
      exact ih fun j hj => hl j (List.mem_cons_of_mem _ hj)
  cases l with
  | nil => exact absurd rfl hne
  | cons x l =>
    obtain rfl := hl x List.mem_cons_self
    exact hkeep l fun j hj => hl j (List.mem_cons_of_mem _ hj)

theorem State.bestCand_only (hid : s.candUsable id = true) (hothers : ∀ j, j ≠ id → s.candUsable j = false) (time : Bool) :
    s.bestCand time = if candIsTime id = time then some id else none := by
  have hmem : ∀ j, s.candUsable j = true → j = id := fun j hj => by
    by_contra hne
    exact absurd hj (by simp [hothers j hne])
  unfold State.bestCand
  split
  · next htime =>
    refine State.bestCand_fold (fun j hj => ?_) (List.ne_nil_of_mem (a := id) ?_)
    · exact hmem j (by simp only [List.mem_filter, Bool.and_eq_true] at hj; exact hj.2.2)
    · exact List.mem_filter.mpr ⟨State.candUsable_listed hid, by simp [htime, hid]⟩
  · next htime =>
    have hnil : (s.ref.cands.map (fun e => e.1)).filter (fun id => candIsTime id == time && s.candUsable id) = [] := by
      refine List.filter_eq_nil_iff.mpr fun j _ hj => ?_
      simp only [Bool.and_eq_true, beq_iff_eq] at hj
      exact htime (hmem j hj.2 ▸ hj.1)
    rw [hnil]
    rfl

/-- The selection of a class now. -/
def State.curSel (s : State) (time : Bool) : Option Nat := if time then s.ref.tsel else s.ref.fsel

/-- With no candidate to select, and a selection that is not kept, none is wanted. -/
theorem State.wantedSel_none (h : ∀ j, s.candUsable j = false) {time : Bool} (hkept : s.selKept (s.curSel time) = false) :
    s.wantedSel time = none := by
  have hcur : (if time then s.ref.tsel else s.ref.fsel) = s.curSel time := rfl
  unfold State.wantedSel
  rw [hcur]
  extract_lets cur pref
  have hcurkept : s.selKept cur = false := hkept
  rw [hcurkept, h pref, Bool.and_false, Bool.false_and, if_neg Bool.false_ne_true, if_neg Bool.false_ne_true]
  exact State.bestCand_none h time

/-- The one candidate that may be selected is wanted, in its class, where none is selected. -/
theorem State.wantedSel_only (hid : s.candUsable id = true) (hothers : ∀ j, j ≠ id → s.candUsable j = false) {time : Bool}
    (hcur : s.curSel time = none) : s.wantedSel time = if candIsTime id = time then some id else none := by
  have hsel : (if time then s.ref.tsel else s.ref.fsel) = none := hcur
  unfold State.wantedSel
  rw [hsel]
  extract_lets cur pref
  clear_value pref
  generalize (if time then s.ref.armT else s.ref.armF) = arm
  split
  · next hpref =>
    simp only [Bool.and_eq_true, beq_iff_eq] at hpref
    obtain ⟨⟨htime, husable⟩, -⟩ := hpref
    have heq : pref = id := by
      by_contra hne
      exact absurd husable (by simp [hothers _ hne])
    rw [← heq, if_pos htime]
  · exact State.bestCand_only hid hothers time

/-- The selections stay where they are those that are wanted. -/
theorem State.reselect_settled (hstep : s.ref.stepPend = none) (hf : s.wantedSel false = s.ref.fsel) (ht : s.wantedSel true = s.ref.tsel) :
    s.reselect = s := by
  simp [State.reselect, hstep, hf, ht]

/-- Without a selection, and without a candidate for one, there is nothing to select. -/
theorem State.reselect_none (h : ∀ j, s.candUsable j = false) (ht : s.ref.tsel = none) (hf : s.ref.fsel = none) (hstep : s.ref.stepPend = none) :
    s.reselect = s := by
  refine State.reselect_settled hstep ?_ ?_
  · rw [hf]
    exact State.wantedSel_none h (by rw [State.curSel, if_neg (by decide), hf]; rfl)
  · rw [ht]
    exact State.wantedSel_none h (by rw [State.curSel, if_pos rfl, ht]; rfl)

end Wanted

end Sys2Proof.Machine
end

section
/-! ## Reference candidates: samples, timers, ESMC and PPS inputs (R253 to R258, R271) -/

set_option Elab.async false

namespace Sys2Proof.Machine

/-! ### A candidate that fails alone -/

section Fails

variable {s : State} {id : Nat}

/-- With no other candidate to select, one that goes out leaves nothing to select. -/
theorem State.reselect_alone (halone : s.Alone id) {t : State} (hregs : t.regs = s.regs) (href : ∃ c, t.ref = { s.ref with cands := Tab.set s.ref.cands id c })
    (hq : (t.cand id).st ≠ .qualified) (hs : (t.cand id).st ≠ .selected) : t.reselect = t := by
  obtain ⟨ht, hf, hstep, hothers⟩ := halone
  obtain ⟨c, href⟩ := href
  refine State.reselect_none (fun j => ?_) (by rw [href]; exact ht) (by rw [href]; exact hf) (by rw [href]; exact hstep)
  by_cases hj : j = id
  · subst hj
    exact State.candUsable_else hq hs
  · refine (State.candUsable_of hregs (by rw [href]) ?_).trans (hothers j hj)
    rw [State.cand, href]
    exact congrArg Cand.st (Tab.get_set_ne _ _ _ _ _ hj)

/-- A candidate whose check fails, before the selections are made again. -/
def State.failedCand (s : State) (id cause : Nat) : State := (s.putCand id { s.cand id with failing := true }).setCandSt id .failed cause

theorem State.failedCand_ref (s : State) (id cause : Nat) :
    (s.failedCand id cause).ref = { s.ref with cands := Tab.set s.ref.cands id ({ s.cand id with failing := true, st := .failed, cause := cause }) } := by
  rw [State.failedCand, State.setCandSt_ref, State.putCand_cand_self]
  have hset : ∀ c d : Cand, Tab.set (Tab.set s.ref.cands id c) id d = Tab.set s.ref.cands id d := fun c d => by
    simp [Tab.set]
  exact congrArg (fun l => { s.ref with cands := l }) (hset _ _)

theorem State.failedCand_cand_self (s : State) (id cause : Nat) :
    (s.failedCand id cause).cand id = { s.cand id with failing := true, st := .failed, cause := cause } := by
  rw [State.cand, State.failedCand_ref]
  exact Tab.get_set_self _ _ _ _

theorem State.failedCand_cand_ne (s : State) (id cause : Nat) {j : Nat} (h : j ≠ id) : (s.failedCand id cause).cand j = s.cand j := by
  rw [State.cand, State.failedCand_ref]
  exact Tab.get_set_ne _ _ _ _ _ h

theorem State.failedCand_regs (s : State) (id cause : Nat) : (s.failedCand id cause).regs = s.regs :=
  State.setCandSt_touches (ps := Part.others .regs) (s.putCand id _) id .failed cause rfl .regs rfl

theorem State.failedCand_touches (s : State) (id cause : Nat) : Touches (evtParts ++ [.ref, .pll, .rc .pllCnt]) s (s.failedCand id cause) :=
  ((State.putCand_touches s id _).mono rfl).step (State.setCandSt_lost _ id .failed cause)

/-- A candidate that only qualifies gives no PLL its input. -/
theorem State.failedCand_frame {s : State} {id : Nat} (h : (s.cand id).st = .qualifying) (cause : Nat) :
    Touches (evtParts ++ [.ref]) s (s.failedCand id cause) := by
  refine ((State.putCand_touches s id _).mono rfl).step (State.setCandSt_frame _ id .failed cause (.inl ?_))
  rw [State.putCand_cand_self]
  exact ⟨by simp [h], by simp [h]⟩

theorem State.candFail_alone (hst : (s.cand id).st = .qualifying ∨ (s.cand id).st = .qualified) (halone : s.Alone id) (cause : Nat) :
    s.candFail id cause = s.failedCand id cause := by
  have hrun : s.candFail id cause = (s.failedCand id cause).reselect := by
    unfold State.candFail
    extract_lets c _ t _ u
    rcases hst with h | h <;> (have hc : c.st = _ := h; rw [hc]; rfl)
  rw [hrun]
  exact State.reselect_alone halone (s.failedCand_regs id cause) ⟨_, s.failedCand_ref id cause⟩ (by rw [State.failedCand_cand_self]; simp)
    (by rw [State.failedCand_cand_self]; simp)

/-- A check that fails for a candidate that is enabled, there, and neither absent nor failed. -/
theorem State.candCheck_fails {cause : Nat} (hen : s.candEn id = true) (havail : s.candAvail id = true) (hcause : cause ≠ 0)
    (habsent : (s.cand id).st ≠ .absent) (hfailed : (s.cand id).st ≠ .failed) : s.candCheck id cause = s.candFail id cause := by
  unfold State.candCheck
  extract_lets c
  rw [hen, havail, if_neg (by simp), if_neg (by simp), if_neg hcause]
  split
  · next h => exact absurd h habsent
  · next h => exact absurd h hfailed
  · rfl

theorem State.candCheck_passes (hen : s.candEn id = true) (havail : s.candAvail id = true) : s.candCheck id 0 = s.candPass id := by
  simp only [State.candCheck, hen, havail, Bool.not_true, Bool.false_eq_true, if_false, if_true]

end Fails

/-! ### Selections of FSEL -/

section SelectF

variable {s : State} {id : Nat}

/-- What the selection of a frequency reference leaves where none was selected. -/
theorem State.selectF_some (hnone : s.ref.fsel = none) (hchan : candIsChan id = false) :
    (∃ b, (s.selectF (some id)).ref = { s.ref with
      fsel := some id, armF := b, cands := Tab.set s.ref.cands id ((s.cand id).become .selected 0) }) ∧
    Touches (evtParts ++ [.ref, .tcore, .pair, .rc .pairMirOvf]) s (s.selectF (some id)) := by
  let u : State := { s with ref := { s.ref with fsel := some id, armF := s.ref.armF && none != some (s.ap Fld.refPrefF_VAL) } }
  let v := ((u.setCandSt id .selected 0).raise Ev.refSelChg 1 (candWord none) (candWord (some id))).updateClass
  have hrun : s.selectF (some id) = v.freerunRate := by
    unfold State.selectF
    extract_lets old s1 r s2 s3
    have hold : old = none := hnone
    have h1 : s1 = s := by unfold s1; rw [hold]; rfl
    have h2 : s2 = u := by unfold s2 r; rw [h1, hold]
    have h3 : s3 = u.setCandSt id .selected 0 := by
      unfold s3 State.markSel
      rw [h2]
      simp only [hchan, if_true, Bool.false_eq_true, if_false]
    rw [h3, hold]
  have huv : Touches (evtParts ++ [.tcore, .pair, .rc .pairMirOvf]) (u.setCandSt id .selected 0) v :=
    (State.raise_touches _ _ _ _ _ rfl).step (State.updateClass_touches _ rfl)
  have href : v.ref = { s.ref with
      fsel := some id, armF := s.ref.armF && none != some (s.ap Fld.refPrefF_VAL), cands := Tab.set s.ref.cands id ((s.cand id).become .selected 0) } :=
    (huv .ref rfl).trans (State.setCandSt_ref u id .selected 0)
  have hframe : Touches (evtParts ++ [.ref, .tcore, .pair, .rc .pairMirOvf]) s v :=
    (((Touches.refl _ s).set_ref rfl : Touches _ s u).step ((State.setCandSt_frame u id .selected 0 (.inr (.inr rfl))).mono rfl)).step (huv.mono rfl)
  clear_value v
  have hrate : v.freerunRate = v := by simp [State.freerunRate, href]
  rw [hrun, hrate]
  exact ⟨⟨_, href⟩, hframe⟩

/-- What is left when a selected frequency reference that has failed goes. -/
theorem State.selectF_none (hsel : s.ref.fsel = some id) (hst : (s.cand id).st = .failed) (hchan : candIsChan id = false) :
    (∃ b, (s.selectF none).ref = { s.ref with fsel := none, armF := b }) ∧
    Touches (evtParts ++ [.clk, .ref, .tcore, .pair, .rc .pairMirOvf]) s (s.selectF none) := by
  let u : State := { s with ref := { s.ref with fsel := none, armF := s.ref.armF && some id != some (s.ap Fld.refPrefF_VAL) } }
  have hrun : s.selectF none = ((u.raise Ev.refSelChg 1 (candWord (some id)) (candWord none)).updateClass).freerunRate := by
    unfold State.selectF
    extract_lets old s1 r s2 s3
    have hold : old = some id := hsel
    have h1 : s1 = s := by
      unfold s1 State.markSel
      rw [hold]
      simp only [hst, hchan, Bool.false_and, Bool.false_eq_true, if_false, reduceCtorEq]
    have h2 : s2 = u := by unfold s2 r; rw [h1, hold]
    have h3 : s3 = u := by unfold s3; rw [h2]; rfl
    rw [h3, hold]
  have hlast : Touches (evtParts ++ [.clk, .tcore, .pair, .rc .pairMirOvf]) u (s.selectF none) := by
    rw [hrun]
    exact ((State.raise_touches _ _ _ _ _ rfl).step (State.updateClass_touches _ rfl)).step (State.freerunRate_touches _ rfl)
  exact ⟨⟨_, hlast .ref rfl⟩, ((Touches.refl _ s).set_ref rfl : Touches _ s u).step (hlast.mono rfl)⟩

end SelectF

end Sys2Proof.Machine
end

section
/-! ## Reference candidates qualify, fail and are selected (O40: R253 to R258, R271) -/

set_option Elab.async false

namespace Sys2Proof.Machine

section Samples

variable {s : State} {id : Nat}

/-- A change of one candidate leaves it alone. -/
theorem State.Alone.putCand (h : s.Alone id) (c : Cand) : (s.putCand id c).Alone id := by
  obtain ⟨ht, hf, hstep, hothers⟩ := h
  exact ⟨ht, hf, hstep, fun j hj =>
    (State.candUsable_of (s := s) (t := s.putCand id c) rfl rfl (congrArg Cand.st (s.putCand_cand_ne id c hj))).trans (hothers j hj)⟩

/-- A frequency candidate with its sample noted. -/
def State.sampledCand (s : State) (id : Nat) (ppb off : Int) : Cand :=
  { s.cand id with ppb := ppb, samples := (s.cand id).samples + 1, off := off }

@[simp] theorem State.sampledCand_st (s : State) (id : Nat) (ppb off : Int) : (s.sampledCand id ppb off).st = (s.cand id).st := rfl

theorem State.refCandSample_freq (hid : id < 100) (sig : Bool) (ppb off : Int) : s.refCandSample id sig ppb off =
    (if sig then ((s.putCand id (s.sampledCand id ppb off)).candCheck id (s.sampleCause id sig ppb)).freqSample id
     else (s.putCand id (s.sampledCand id ppb off)).candCheck id (s.sampleCause id sig ppb)) := by
  have htime : candIsTime id = false := by simp [candIsTime, hid]
  have hput : ({ s with ref := { s.ref with cands := Tab.set s.ref.cands id { s.cand id with
      ppb := ppb, samples := if candIsTime id then (s.cand id).samples else (s.cand id).samples + 1
      off := if candIsTime id then (s.cand id).off else off } } } : State) = s.putCand id (s.sampledCand id ppb off) := by
    rw [htime]
    rfl
  unfold State.refCandSample
  extract_lets c _ s1 s2
  have h1 : s1 = s.putCand id (s.sampledCand id ppb off) := hput
  have h2 : s2 = (s.putCand id (s.sampledCand id ppb off)).candCheck id (s.sampleCause id sig ppb) := by unfold s2; rw [h1]
  rw [h2, htime]
  cases sig <;> rfl

theorem State.freqSample_unselected (h : (s.cand id).st ≠ .selected) : s.freqSample id = s := if_neg fun hsel => h hsel.2.1

theorem candIsChan_false (hid : id < 103) : candIsChan id = false := by
  simp [candIsChan, show ¬ (103 ≤ id) from by omega]

/-- The sample of a selected frequency candidate without signal: it is held off. -/
theorem State.candFail_holdoff (hst : (s.cand id).st = .selected) (ht : s.ref.tsel ≠ some id) (hid : id < 103)
    (hms : s.ap Fld.refCfg_HOLDOFF_MS ≠ 0) (cause : Nat) :
    s.candFail id cause = (s.putCand id { s.cand id with failing := true }).setCandSt id .holdoff cause := by
  have hap : (s.putCand id { s.cand id with failing := true }).ap Fld.refCfg_HOLDOFF_MS = s.ap Fld.refCfg_HOLDOFF_MS := rfl
  unfold State.candFail
  extract_lets c _ u _ v
  have hc : c.st = .selected := hst
  have hu : u = s.putCand id { s.cand id with failing := true } := rfl
  have htsel : u.ref.tsel ≠ some id := ht
  have hv : v = u := if_neg htsel
  split
  · next h => exact absurd (hc.symm.trans h) (by simp)
  · next h => exact absurd (hc.symm.trans h) (by simp)
  · rw [hv, hu, hap, candIsChan_false hid, if_neg (by simp [hms])]
  · next h => exact absurd hc h

/-- A candidate that passes its checks begins to qualify. -/
theorem State.candPass_absent (hst : (s.cand id).st = .absent) :
    s.candPass id = (s.putCand id { s.cand id with failing := false }).setCandSt id .qualifying 0 := by
  unfold State.candPass
  extract_lets c _ u
  have hc : c.st = .absent := hst
  split
  · rfl
  · next h => exact absurd (hc.symm.trans h) (by simp)
  · next h => exact absurd (hc.symm.trans h) (by simp)
  · next h _ _ => exact absurd hc h

end Samples

/-! ### The end of a qualification and of a hold-off -/

section Timers

variable {s : State} {id : Nat}

/-- With no return pending, and the time reference as it is wanted, only the frequency reference changes. -/
theorem State.reselect_freq {c : Option Nat} (hstep : s.ref.stepPend = none) (hwf : s.wantedSel false = c) (hne : c ≠ s.ref.fsel)
    (hwt : (s.selectF c).wantedSel true = (s.selectF c).ref.tsel) : s.reselect = s.selectF c := by
  unfold State.reselect
  rw [hstep]
  dsimp only
  rw [hwf, if_neg hne, hwt, if_pos (.inl rfl)]

/-- The one frequency candidate that qualifies is selected. -/
theorem State.candQualify_alone (hid : id < 100) (hprio : s.candPrio id ≠ 15) (halone : s.Alone id) :
    ((s.candQualify id).cand id).st = .selected ∧ (s.candQualify id).ref.fsel = some id ∧ (s.candQualify id).ref.tsel = none ∧
      (∀ j, j ≠ id → (s.candQualify id).cand j = s.cand j) ∧
      Touches (evtParts ++ [Part.ref, .tcore, .pair, .rc .pairMirOvf]) s (s.candQualify id) := by
  obtain ⟨ht, hf, hstep, hothers⟩ := halone
  have htime : candIsTime id = false := by simp [candIsTime, hid]
  have hframe1 := s.setCandSt_frame id .qualified 0 (.inr (.inl rfl))
  have href := s.setCandSt_ref id .qualified 0
  have hself := s.setCandSt_cand_self id .qualified 0
  have hne : ∀ j, j ≠ id → (s.setCandSt id .qualified 0).cand j = s.cand j := fun j hj => s.setCandSt_cand_ne id _ _ hj
  have hrun : s.candQualify id = (s.setCandSt id .qualified 0).reselect := by
    rw [State.candQualify, State.qualified, htime, if_neg (by simp)]
  generalize s.setCandSt id .qualified 0 = u at *
  have hregs : u.regs = s.regs := hframe1 .regs rfl
  have husable : u.candUsable id = true := by
    have hp : u.candPrio id = s.candPrio id := by
      simp only [State.candPrio, State.candSet, State.ap_of_regs hregs, href]
    simp [State.candUsable, hself, hp, hprio]
  have hrest : ∀ j, j ≠ id → u.candUsable j = false := fun j hj =>
    (State.candUsable_of hregs (by rw [href]) (by rw [hne j hj])).trans (hothers j hj)
  have huf : u.ref.fsel = none := by rw [href]; exact hf
  have hut : u.ref.tsel = none := by rw [href]; exact ht
  have hustep : u.ref.stepPend = none := by rw [href]; exact hstep
  obtain ⟨⟨b, href2⟩, hframe2⟩ := State.selectF_some huf (candIsChan_false (by omega : id < 103))
  have hself2 : ((u.selectF (some id)).cand id) = (u.cand id).become .selected 0 := by
    rw [State.cand, href2]
    exact Tab.get_set_self _ _ _ _
  have hne2 : ∀ j, j ≠ id → (u.selectF (some id)).cand j = u.cand j := fun j hj => by
    rw [State.cand, href2]
    exact Tab.get_set_ne _ _ _ _ _ hj
  have hregs2 : (u.selectF (some id)).regs = u.regs := hframe2 .regs rfl
  have husable2 : (u.selectF (some id)).candUsable id = true := by
    have hp : (u.selectF (some id)).candPrio id = s.candPrio id := by
      simp only [State.candPrio, State.candSet, State.ap_of_regs hregs2, State.ap_of_regs hregs, href2, href]
    simp [State.candUsable, hself2, hp, hprio]
  have hwf : u.wantedSel false = some id := by
    rw [State.wantedSel_only husable hrest (by rw [State.curSel, if_neg (by decide), huf]), htime, if_pos rfl]
  have hwt : (u.selectF (some id)).wantedSel true = none := by
    rw [State.wantedSel_only husable2 (fun j hj => (State.candUsable_of hregs2 (by rw [href2]) (by rw [hne2 j hj])).trans (hrest j hj))
      (by rw [State.curSel, if_pos rfl, href2]; exact hut), htime, if_neg (by decide)]
  have hselect : u.reselect = u.selectF (some id) := State.reselect_freq hustep hwf (by rw [huf]; simp) (hwt.trans (by rw [href2]; exact hut.symm))
  rw [hrun, hselect]
  refine ⟨by rw [hself2, Cand.become_st], by rw [href2], by rw [href2]; exact hut, fun j hj => (hne2 j hj).trans (hne j hj),
    (hframe1.mono rfl).step hframe2⟩

/-- The end of a hold-off, with nothing else to select. -/
theorem State.refHoldoffExpire_alone (hid : id < 100) (hst : (s.cand id).st = .holdoff) (hf : s.ref.fsel = some id) (ht : s.ref.tsel = none)
    (hstep : s.ref.stepPend = none) (hothers : ∀ j, j ≠ id → s.candUsable j = false) :
    ((s.refHoldoffExpire id).cand id).st = .failed ∧ ((s.refHoldoffExpire id).cand id).cause = (s.cand id).cause ∧
      (s.refHoldoffExpire id).ref.fsel = none ∧ (s.refHoldoffExpire id).ref.tsel = none ∧
      (∀ j, j ≠ id → (s.refHoldoffExpire id).cand j = s.cand j) ∧
      Touches (evtParts ++ [Part.clk, .ref, .tcore, .pair, .rc .pairMirOvf]) s (s.refHoldoffExpire id) := by
  have hrun : s.refHoldoffExpire id = (s.setCandSt id .failed (s.cand id).cause).reselect := if_pos hst
  have hframe1 := s.setCandSt_frame id .failed (s.cand id).cause (.inl (by simp [hst]))
  have href := s.setCandSt_ref id .failed (s.cand id).cause
  have hself := s.setCandSt_cand_self id .failed (s.cand id).cause
  have hne : ∀ j, j ≠ id → (s.setCandSt id .failed (s.cand id).cause).cand j = s.cand j := fun j hj => s.setCandSt_cand_ne id _ _ hj
  generalize s.setCandSt id .failed (s.cand id).cause = u at *
  have hst1 : (u.cand id).st = .failed := by rw [hself, Cand.become_st]
  have hnone : ∀ j, u.candUsable j = false := fun j => by
    by_cases hj : j = id
    · exact hj ▸ State.candUsable_else (by simp [hst1]) (by simp [hst1])
    · exact (State.candUsable_of (hframe1 .regs rfl) (by rw [href]) (by rw [hne j hj])).trans (hothers j hj)
  have huf : u.ref.fsel = some id := by rw [href]; exact hf
  have hut : u.ref.tsel = none := by rw [href]; exact ht
  have hustep : u.ref.stepPend = none := by rw [href]; exact hstep
  obtain ⟨⟨b, href2⟩, hframe2⟩ := State.selectF_none huf hst1 (candIsChan_false (by omega : id < 103))
  have hcand : ∀ j, (u.selectF none).cand j = u.cand j := fun j => by
    rw [State.cand, href2]
    rfl
  have hnone2 : ∀ j, (u.selectF none).candUsable j = false := fun j =>
    (State.candUsable_of (hframe2 .regs rfl) (by rw [href2]) (by rw [hcand j])).trans (hnone j)
  have hkept : u.selKept (some id) = false := by simp [State.selKept, hst1, candIsChan_false (by omega : id < 103)]
  have hwf : u.wantedSel false = none := State.wantedSel_none hnone (by rw [State.curSel, if_neg (by decide), huf]; exact hkept)
  have ht2 : (u.selectF none).ref.tsel = none := by rw [href2]; exact hut
  have hwt : (u.selectF none).wantedSel true = none := State.wantedSel_none hnone2 (by rw [State.curSel, if_pos rfl, ht2]; rfl)
  have hselect : u.reselect = u.selectF none := State.reselect_freq hustep hwf (by rw [huf]; simp) (hwt.trans ht2.symm)
  rw [hrun, hselect]
  refine ⟨by rw [hcand, hst1], by rw [hcand, hself, Cand.become_cause], by rw [href2], ht2, fun j hj => (hcand j).trans (hne j hj),
    (hframe1.mono rfl).step hframe2⟩

end Timers

/-! ### ESMC -/

section Esmc

variable {s : State} {p : Nat}

/-- The rank of a port, as its lanes see it. -/
def State.withEsmc (s : State) (e : Tab Nat Nat) : State := { s with ref := { s.ref with esmc := e } }

theorem State.withEsmc_touches (s : State) (e : Tab Nat Nat) : Touches [.ref] s (s.withEsmc e) := (Touches.refl _ _).set_ref rfl

theorem State.mem_lanesOfPort {n : Nat} : n ∈ s.lanesOfPort p ↔ n < 96 ∧ s.portOfLane n = p := by
  simp [State.lanesOfPort]

/-- Nothing is looked at again for candidates that are not in use. -/
theorem State.recheck_unused {n : Nat} (h : (s.cand n).st ≠ .qualifying ∧ (s.cand n).st ≠ .qualified ∧ (s.cand n).st ≠ .selected ∧ (s.cand n).st ≠ .holdoff) :
    s.recheck n = s := by
  obtain ⟨h1, h2, h3, h4⟩ := h
  simp [State.recheck, h1, h2, h3, h4]

theorem State.recheckAll_unused {l : List Nat} (h : ∀ n ∈ l, (s.cand n).st ≠ .qualifying ∧ (s.cand n).st ≠ .qualified ∧
    (s.cand n).st ≠ .selected ∧ (s.cand n).st ≠ .holdoff) : l.foldl (fun s n => s.recheck n) s = s := by
  induction l with
  | nil => rfl
  | cons n l ih =>
    rw [List.foldl_cons, State.recheck_unused (h n List.mem_cons_self)]
    exact ih fun m hm => h m (List.mem_cons_of_mem _ hm)

theorem State.esmcReceive_locked (hlock : (s.lane p).lock = true) (ssm : Nat) (essm : Option Nat) : s.esmcReceive p ssm essm =
    ((s.lanesOfPort p).foldl (fun s n => s.recheck n) (s.withEsmc (Tab.set s.ref.esmc p (qrOfSsm ssm essm)))).updateClass := by
  rw [State.esmcReceive, hlock]
  rfl

theorem State.updateClass_ref (s : State) : s.updateClass.ref = s.ref := State.updateClass_touches (ps := Part.others .ref) s rfl .ref rfl

/-- The only lane of a port loses its ESMC. -/
theorem State.esmcTimeout_alone (hlanes : s.lanesOfPort p = [p]) (hst : (s.cand p).st = .qualified) (halone : s.Alone p) :
    s.esmcTimeout p = ((s.withEsmc (Tab.erase s.ref.esmc p)).failedCand p 4).updateClass := by
  have hmem : p < 96 ∧ s.portOfLane p = p := State.mem_lanesOfPort.mp (by rw [hlanes]; exact List.mem_singleton_self p)
  have hcause : (s.withEsmc (Tab.erase s.ref.esmc p)).standingCause p = 4 := by
    have hnone : (Tab.find (s.withEsmc (Tab.erase s.ref.esmc p)).ref.esmc ((s.withEsmc (Tab.erase s.ref.esmc p)).portOfLane p)).isNone = true := by
      have hport : (s.withEsmc (Tab.erase s.ref.esmc p)).portOfLane p = p := hmem.2
      rw [hport, State.withEsmc, Tab.find_erase_self]
      rfl
    rw [State.standingCause, if_pos ⟨hmem.1, hnone⟩]
  have hst1 : ((s.withEsmc (Tab.erase s.ref.esmc p)).cand p).st = .qualified := hst
  have hcheck : (s.withEsmc (Tab.erase s.ref.esmc p)).recheck p = (s.withEsmc (Tab.erase s.ref.esmc p)).failedCand p 4 := by
    have halone1 : (s.withEsmc (Tab.erase s.ref.esmc p)).Alone p := halone
    rw [State.recheck, hcause, if_pos ⟨by decide, .inr (.inl hst1)⟩]
    exact State.candFail_alone (.inr hst1) halone1 4
  rw [State.esmcTimeout]
  have hl : (s.withEsmc (Tab.erase s.ref.esmc p)).lanesOfPort p = [p] := hlanes
  exact congrArg State.updateClass ((congrArg (fun l => List.foldl (fun s n => State.recheck s n) (s.withEsmc (Tab.erase s.ref.esmc p)) l) hl).trans hcheck)

/-- A candidate out of use for its rank or its ESMC passes again. -/
def State.resumedCand (s : State) (n : Nat) : State :=
  let t := s.putCand n { s.cand n with failing := false }
  let u : State := if s.ref.tsel = some n then { t with ref := { t.ref with faultHist := none } } else t
  (u.bump Fld.refHoldoffCnt_VAL).setCandSt n .selected (s.cand n).cause

theorem State.candPass_holdoff {n : Nat} (hst : (s.cand n).st = .holdoff) : s.candPass n = s.resumedCand n := by
  unfold State.candPass
  extract_lets c _ u
  have hc : c.st = .holdoff := hst
  split
  · next h => exact absurd (hc.symm.trans h) (by simp)
  · next h => exact absurd (hc.symm.trans h) (by simp)
  · rfl
  · next h => exact absurd hc h

theorem State.resumedCand_gives (s : State) (n : Nat) :
    ((s.resumedCand n).cand n).st = .selected ∧ (s.resumedCand n).ref.fsel = s.ref.fsel ∧ (s.resumedCand n).ref.esmc = s.ref.esmc ∧
      (s.resumedCand n).count Fld.refHoldoffCnt_VAL = s.counted Fld.refHoldoffCnt_VAL ∧ (∀ j, j ≠ n → (s.resumedCand n).cand j = s.cand j) ∧
      Touches (evtParts ++ [Part.ref, .rc .refHoldoffCnt]) s (s.resumedCand n) := by
  unfold State.resumedCand
  extract_lets _ t _ u
  have hu : Touches [.ref] s u := by
    unfold u
    split
    · exact ((s.putCand_touches n _).set_ref rfl : Touches _ _ _)
    · exact s.putCand_touches n _
  have hcands : u.ref.cands = t.ref.cands ∧ u.ref.fsel = s.ref.fsel ∧ u.ref.esmc = s.ref.esmc := by
    unfold u
    split <;> exact ⟨rfl, rfl, rfl⟩
  have hne : ∀ j, j ≠ n → u.cand j = s.cand j := fun j hj =>
    (congrArg (fun l => Tab.get ({} : Cand) l j) hcands.1).trans (s.putCand_cand_ne n _ hj)
  clear_value u
  have hframe := (u.bump Fld.refHoldoffCnt_VAL).setCandSt_frame n .selected (s.cand n).cause (.inr (.inr rfl))
  have href := (u.bump Fld.refHoldoffCnt_VAL).setCandSt_ref n .selected (s.cand n).cause
  refine ⟨by rw [State.setCandSt_cand_self, Cand.become_st], by rw [href]; exact hcands.2.1, by rw [href]; exact hcands.2.2,
    State.count_bumped hu hframe rfl rfl (by decide), fun j hj => (State.setCandSt_cand_ne _ _ _ _ hj).trans (hne j hj), ?_⟩
  exact ((hu.mono rfl).step (State.bump_touches u _ _ _ rfl)).step (hframe.mono rfl)

/-- The rank comes back to the one lane of a port that is held off for it. -/
theorem State.esmcReceive_resumes {n : Nat} {essm : Option Nat} {ssm : Nat} (hlock : (s.lane p).lock = true) (hlanes : s.lanesOfPort p = [n])
    (hst : (s.cand n).st = .holdoff) (hcause : (s.cand n).cause = 4) (hovr : s.candOvr n = none) (hunit : s.candUnitAbsent n = false)
    (hqr : qrOfSsm ssm essm < 15) (hmin : qrOfSsm ssm essm ≤ s.ap Fld.refQlCfg_F_QL_MIN) :
    s.esmcReceive p ssm essm = ((s.withEsmc (Tab.set s.ref.esmc p (qrOfSsm ssm essm))).resumedCand n).updateClass := by
  obtain ⟨hn, hport⟩ : n < 96 ∧ s.portOfLane n = p := State.mem_lanesOfPort.mp (by rw [hlanes]; exact List.mem_singleton_self n)
  rw [State.esmcReceive_locked hlock, hlanes, List.foldl_cons, List.foldl_nil]
  have hfind : Tab.find (s.withEsmc (Tab.set s.ref.esmc p (qrOfSsm ssm essm))).ref.esmc
      ((s.withEsmc (Tab.set s.ref.esmc p (qrOfSsm ssm essm))).portOfLane n) = some (qrOfSsm ssm essm) := by
    have h : (s.withEsmc (Tab.set s.ref.esmc p (qrOfSsm ssm essm))).portOfLane n = p := hport
    rw [h]
    exact Tab.find_set_self _ _ _
  have hovr1 : (s.withEsmc (Tab.set s.ref.esmc p (qrOfSsm ssm essm))).candOvr n = none := hovr
  have hunit1 : (s.withEsmc (Tab.set s.ref.esmc p (qrOfSsm ssm essm))).candUnitAbsent n = false := hunit
  have hmin1 : qrOfSsm ssm essm ≤ (s.withEsmc (Tab.set s.ref.esmc p (qrOfSsm ssm essm))).ap Fld.refQlCfg_F_QL_MIN := hmin
  have hst1 : ((s.withEsmc (Tab.set s.ref.esmc p (qrOfSsm ssm essm))).cand n).st = .holdoff := hst
  have hcause1 : ((s.withEsmc (Tab.set s.ref.esmc p (qrOfSsm ssm essm))).cand n).cause = 4 := hcause
  generalize s.withEsmc (Tab.set s.ref.esmc p (qrOfSsm ssm essm)) = u at *
  have hrank : u.candQr n = qrOfSsm ssm essm := by
    rw [State.candQr, hovr1]
    dsimp only
    rw [hunit1, if_neg (by decide), if_pos hn, hfind]
    rfl
  have hok : u.rankOk n = true := by
    have htime : candIsTime n = false := by simp [candIsTime]; omega
    simp [State.rankOk, htime, hrank, hqr, hmin1]
  have hpass : u.standingCause n = 0 := by
    rw [State.standingCause, hfind, if_neg (by simp), if_pos hok]
  rw [State.recheck, hpass, if_neg (by simp), if_pos ⟨rfl, hst1, .inr hcause1⟩, State.candPass_holdoff hst1]

end Esmc

/-! ### PPS inputs -/

section Pps

variable {s : State} {n : Nat}

theorem State.candAvail_pps (hn : n < 2) : s.candAvail (100 + n) = true := by
  simp [State.candAvail, show ¬ 100 + n < 96 from by omega, show ¬ 100 + n = 102 from by omega]

/-- A good pulse of an input that qualifies. -/
theorem State.ppsInEdge_qualifying {i : Nat} {off x : Int} (hn : n < 2) (hx : x = modSecond (off + psToFrac (s.apI Fld.refInOfs_VAL (100 + n))))
    (hst : (s.cand (100 + n)).st = .qualifying) (hpulses : (s.cand (100 + n)).pulses < 15) (hen : s.candEn (100 + n) = true)
    (hsel : s.ref.tsel ≠ some (100 + n)) (hstep : s.ref.stepPend = none) (hi : ((i : Int) - 1000000000).natAbs ≤ 10000)
    (hcause : s.standingCause (100 + n) = 0) :
    s.ppsInEdge n i off = s.withCands (Tab.set (Tab.set (Tab.set s.ref.cands (100 + n) { s.cand (100 + n) with failing := false }) (100 + n)
      { s.cand (100 + n) with failing := false, pulses := (s.cand (100 + n)).pulses + 1 }) (100 + n)
      (({ s.cand (100 + n) with failing := false, pulses := (s.cand (100 + n)).pulses + 1 } : Cand).measured x)) := by
  unfold State.ppsInEdge
  extract_lets id cause s1 c r s2 s3
  have hcause0 : cause = 0 := by unfold cause id; rw [if_neg (by omega), hcause]
  have h1 : s1 = s.withCands (Tab.set s.ref.cands (100 + n) { s.cand (100 + n) with failing := false }) := by
    unfold s1 id
    rw [hcause0]
    exact State.candCheck_qualifying hen (State.candAvail_pps hn) hst
  have hc : c = { s.cand (100 + n) with failing := false } := by
    unfold c id
    rw [h1]
    exact Tab.get_set_self _ _ _ _
  have h2 : s2 = s.withCands (Tab.set (Tab.set s.ref.cands (100 + n) { s.cand (100 + n) with failing := false }) (100 + n)
      { s.cand (100 + n) with failing := false, pulses := (s.cand (100 + n)).pulses + 1 }) := by
    unfold s2 r id
    rw [hc, h1]
    exact if_pos ⟨hcause0, hst⟩
  have hofs : s2.apI Fld.refInOfs_VAL (100 + n) = s.apI Fld.refInOfs_VAL (100 + n) := by rw [h2]; rfl
  have hcand2 : s2.cand (100 + n) = { s.cand (100 + n) with failing := false, pulses := (s.cand (100 + n)).pulses + 1 } := by
    rw [h2]
    exact Tab.get_set_self _ _ _ _
  have h3 : s3 = s2.withCands (Tab.set s2.ref.cands (100 + n) (({ s.cand (100 + n) with failing := false, pulses := (s.cand (100 + n)).pulses + 1 } : Cand).measured x)) := by
    unfold s3 id
    rw [if_pos hcause0, hofs, ← hx, State.timeSample_qualifying (by rw [hcand2]; exact hst) (by rw [h2]; exact hsel) (by rw [h2]; exact hstep), hcand2]
  have hcand3 : (s3.cand (100 + n)).pulses = (s.cand (100 + n)).pulses + 1 := by
    rw [h3]
    exact congrArg Cand.pulses (Tab.get_set_self _ _ _ _)
  have hfew : ¬ ((s3.cand (100 + n)).st = .qualifying ∧ 16 ≤ (s3.cand (100 + n)).pulses) := fun h => by
    rw [hcand3] at h
    omega
  exact (if_neg hfew).trans (by rw [h3, h2]; rfl)

/-- A bad pulse, or none, of an input that qualifies. -/
theorem State.candCheck_pps (hn : n < 2) (hst : (s.cand (100 + n)).st = .qualifying) (hen : s.candEn (100 + n) = true)
    (halone : s.Alone (100 + n)) {cause : Nat} (hcause : cause ≠ 0) : s.candCheck (100 + n) cause = s.failedCand (100 + n) cause := by
  rw [State.candCheck_fails hen (State.candAvail_pps hn) hcause (by simp [hst]) (by simp [hst])]
  exact State.candFail_alone (.inl hst) halone cause

theorem State.ppsInEdge_bad {i : Nat} {off : Int} (hn : n < 2) (hst : (s.cand (100 + n)).st = .qualifying) (hen : s.candEn (100 + n) = true)
    (halone : s.Alone (100 + n)) (hi : 10000 < ((i : Int) - 1000000000).natAbs) : s.ppsInEdge n i off = s.failedCand (100 + n) 8 := by
  have hfail : s.candCheck (100 + n) 8 = s.failedCand (100 + n) 8 := State.candCheck_pps hn hst hen halone (by decide)
  have hst1 : ((s.failedCand (100 + n) 8).cand (100 + n)).st = .failed := by rw [State.failedCand_cand_self]
  unfold State.ppsInEdge
  simp only [hi, if_true, hfail, hst1, reduceCtorEq, false_and, and_false, if_false, OfNat.ofNat_ne_zero]

end Pps

/-- Settles O40: a sample or a pulse ends in `candCheck` on the one candidate, and with no other candidate usable the selections that follow are settled
or take the one that qualified. -/
theorem candidates : Obligations.Candidates := by
  unfold Obligations.Candidates
  refine ⟨?firstGood, ?bad, ?held, ?qualifies, ?holdoffEnds, ?waited, ?rank, ?esmcLost, ?esmcBack, ?sends, ?pulse, ?badPulse⟩
  case firstGood =>
    intro s id ppb off hup hid hen havail hcause hst
    have hpass : (s.putCand id (s.sampledCand id ppb off)).candCheck id 0 =
        ((s.putCand id (s.sampledCand id ppb off)).putCand id { s.sampledCand id ppb off with failing := false }).setCandSt id .qualifying 0 := by
      have hcand := s.putCand_cand_self id (s.sampledCand id ppb off)
      have hst1 : ((s.putCand id (s.sampledCand id ppb off)).cand id).st = .absent := by rw [hcand]; exact hst
      rw [State.candCheck_passes (s := s.putCand id (s.sampledCand id ppb off)) hen havail, State.candPass_absent hst1, hcand]
    have hrun : s.refCandSample id true ppb off =
        ((s.putCand id (s.sampledCand id ppb off)).putCand id { s.sampledCand id ppb off with failing := false }).setCandSt id .qualifying 0 := by
      rw [State.refCandSample_freq hid, if_pos rfl, hcause, hpass]
      exact State.freqSample_unselected (by rw [State.setCandSt_cand_self, Cand.become_st]; simp)
    refine gives_effect (congrArg (effect (candNo id) s) hrun) hup (by simp [candNo]; omega) ⟨?_, fun j hj => ?_, ?_⟩
    · refine (State.setCandSt_cand_self _ _ _ _).trans ?_
      rw [State.putCand_cand_self]
      rfl
    · refine (State.setCandSt_cand_ne _ _ _ _ hj).trans ?_
      rw [State.putCand_cand_ne _ _ _ hj, State.putCand_cand_ne _ _ _ hj]
    · refine Touches.carry (((s.putCand_touches id _).mono rfl).step ((State.putCand_touches _ id _).mono rfl |>.step (State.setCandSt_frame _ _ _ _ (.inl ?_))))
      rw [State.putCand_cand_self]
      simp [hst]
  case bad =>
    intro s id ppb off hup hid hen havail hst halone
    have halone1 := halone.putCand (s.sampledCand id ppb off)
    have hcand := s.putCand_cand_self id (s.sampledCand id ppb off)
    have hst1 : ((s.putCand id (s.sampledCand id ppb off)).cand id).st = .qualified := by rw [hcand]; exact hst
    have hrun : s.refCandSample id false ppb off = (s.putCand id (s.sampledCand id ppb off)).failedCand id 1 := by
      rw [State.refCandSample_freq hid, if_neg (by decide)]
      refine (State.candCheck_fails (s := s.putCand id (s.sampledCand id ppb off)) hen havail (by simp [State.sampleCause]) (by simp [hst])
        (by simp [hst])).trans ?_
      exact State.candFail_alone (.inr hst1) halone1 _
    have hself := (s.putCand id (s.sampledCand id ppb off)).failedCand_cand_self id 1
    have href := (s.putCand id (s.sampledCand id ppb off)).failedCand_ref id 1
    have hframe := ((s.putCand_touches id (s.sampledCand id ppb off)).mono rfl).step ((s.putCand id (s.sampledCand id ppb off)).failedCand_touches id 1)
    refine gives_effect (congrArg (effect (candNo id) s) hrun) hup (by simp [candNo]; omega)
      ⟨congrArg Cand.st hself, congrArg Cand.cause hself, congrArg Cand.failing hself, (congrArg Cand.ppb hself).trans (congrArg Cand.ppb hcand),
        (congrArg RefState.tsel href).trans halone.1, (congrArg RefState.fsel href).trans halone.2.1, fun j hj => ?_, hframe.carry⟩
    exact (State.failedCand_cand_ne _ id 1 hj).trans (s.putCand_cand_ne id _ hj)
  case held =>
    intro s id ppb off hup hid hen havail hst ht hms
    have hcand := s.putCand_cand_self id (s.sampledCand id ppb off)
    have hst1 : ((s.putCand id (s.sampledCand id ppb off)).cand id).st = .selected := by rw [hcand]; exact hst
    have hrun : s.refCandSample id false ppb off = ((s.putCand id (s.sampledCand id ppb off)).putCand id
        { (s.putCand id (s.sampledCand id ppb off)).cand id with failing := true }).setCandSt id .holdoff 1 := by
      rw [State.refCandSample_freq hid, if_neg (by decide)]
      refine (State.candCheck_fails (s := s.putCand id (s.sampledCand id ppb off)) hen havail (by simp [State.sampleCause]) (by simp [hst])
        (by simp [hst])).trans ?_
      exact State.candFail_holdoff hst1 ht (by omega) hms _
    rw [hcand] at hrun
    have hself := State.setCandSt_cand_self ((s.putCand id (s.sampledCand id ppb off)).putCand id { s.sampledCand id ppb off with failing := true }) id .holdoff 1
    have href := State.setCandSt_ref ((s.putCand id (s.sampledCand id ppb off)).putCand id { s.sampledCand id ppb off with failing := true }) id .holdoff 1
    have hframe := ((s.putCand_touches id (s.sampledCand id ppb off)).mono rfl).step (((State.putCand_touches _ id
      { s.sampledCand id ppb off with failing := true }).mono rfl).step (State.setCandSt_lost _ id .holdoff 1))
    refine gives_effect (congrArg (effect (candNo id) s) hrun) hup (by simp [candNo]; omega)
      ⟨(congrArg Cand.st hself).trans (Cand.become_st _ _ _), (congrArg Cand.cause hself).trans (Cand.become_cause _ _ _),
        (congrArg RefState.fsel href :), (congrArg RefState.tsel href :), fun j hj => ?_, hframe.carry⟩
    refine (State.setCandSt_cand_ne _ id _ _ hj).trans ?_
    rw [State.putCand_cand_ne _ _ _ hj, State.putCand_cand_ne _ _ _ hj]
  case qualifies =>
    intro s id hup hid hst hfailing hcause hprio halone
    have hrun : s.refQualTimer id = s.candQualify id := if_neg (by
      rw [hst, hfailing, hcause]
      simp only [ne_eq, not_true_eq_false, Bool.false_eq_true, false_or]
      omega)
    obtain ⟨h1, h2, h3, h4, h5⟩ := State.candQualify_alone hid hprio halone
    exact gives_effect (congrArg (effect (candNo id) s) hrun) hup (by simp [candNo]; omega) ⟨h1, h2, h3, h4, h5.carry⟩
  case holdoffEnds =>
    intro s id hup hid hst hf ht hstep hothers
    obtain ⟨h1, h2, h3, h4, h5, h6⟩ := State.refHoldoffExpire_alone hid hst hf ht hstep hothers
    exact gives_effect rfl hup (by simp [candNo]; omega) ⟨h1, h2, h3, h4, h5, h6.carry⟩
  case waited =>
    intro s id hup hid hst hfailing havail hcause
    have hrun : s.refWtrExpire id = s.setCandSt id .qualifying 0 := if_pos ⟨hst, by simp [hfailing], havail, hcause⟩
    have hframe := s.setCandSt_frame id .qualifying 0 (.inl (by simp [hst]))
    refine gives_effect (congrArg (effect (decide (id < 100)) s) hrun) hup (decide_eq_true hid) ⟨?_, fun j hj => ?_, hframe.carry⟩
    · exact s.setCandSt_cand_self id .qualifying 0
    · exact s.setCandSt_cand_ne id _ _ hj
  case rank =>
    intro s p ssm essm hup hp hssm hlock hunused
    have hfold : (s.lanesOfPort p).foldl (fun s n => s.recheck n) (s.withEsmc (Tab.set s.ref.esmc p (qrOfSsm ssm essm))) =
        s.withEsmc (Tab.set s.ref.esmc p (qrOfSsm ssm essm)) :=
      State.recheckAll_unused fun n hn => hunused n (State.mem_lanesOfPort.mp hn).1 (State.mem_lanesOfPort.mp hn).2
    have hrun := State.esmcReceive_locked hlock ssm essm
    rw [hfold] at hrun
    have href := (s.withEsmc (Tab.set s.ref.esmc p (qrOfSsm ssm essm))).updateClass_ref
    have hframe := ((s.withEsmc_touches (Tab.set s.ref.esmc p (qrOfSsm ssm essm))).mono rfl).step
      (State.updateClass_touches (ps := evtParts ++ [Part.ref, .tcore, .pair, .rc .pairMirOvf]) _ rfl)
    refine gives_effect (congrArg (effect (lanePort p && decide (ssm < 16)) s) hrun) hup (by simp [lanePort, hp, hssm])
      ⟨?_, fun q hq => ?_, (congrArg RefState.cands href :), hframe.carry⟩
    · exact (congrArg (fun x : RefState => Tab.find x.esmc p) href).trans (Tab.find_set_self _ _ _)
    · exact (congrArg (fun x : RefState => Tab.find x.esmc q) href).trans (Tab.find_set_ne _ _ _ _ hq)
  case esmcLost =>
    intro s p hup hp hlanes hst halone
    have hrun := State.esmcTimeout_alone hlanes hst halone
    have href := ((s.withEsmc (Tab.erase s.ref.esmc p)).failedCand p 4).updateClass_ref
    have hfailed := (s.withEsmc (Tab.erase s.ref.esmc p)).failedCand_ref p 4
    have hself : (((s.withEsmc (Tab.erase s.ref.esmc p)).failedCand p 4).updateClass).cand p =
        { s.cand p with failing := true, st := .failed, cause := 4 } :=
      (congrArg (fun x : RefState => Tab.get ({} : Cand) x.cands p) href).trans (State.failedCand_cand_self _ p 4)
    have hframe := (((s.withEsmc_touches (Tab.erase s.ref.esmc p)).mono rfl).step
      (((s.withEsmc (Tab.erase s.ref.esmc p)).failedCand_touches p 4).mono rfl)).step
      (State.updateClass_touches (ps := evtParts ++ [Part.ref, .tcore, .pll, .pair, .rc .pllCnt, .rc .pairMirOvf]) _ rfl)
    refine gives_effect (congrArg (effect (lanePort p) s) hrun) hup (by simp [lanePort, hp])
      ⟨?_, fun q hq => ?_, congrArg Cand.st hself, congrArg Cand.cause hself, fun j hj => ?_, hframe.carry⟩
    · exact (congrArg (fun x : RefState => Tab.find x.esmc p) (href.trans hfailed)).trans (Tab.find_erase_self _ _)
    · exact (congrArg (fun x : RefState => Tab.find x.esmc q) (href.trans hfailed)).trans (Tab.find_erase_ne _ hq)
    · exact (congrArg (fun x : RefState => Tab.get ({} : Cand) x.cands j) href).trans (State.failedCand_cand_ne _ p 4 hj)
  case esmcBack =>
    intro s p n ssm essm hup hp hssm hlock hlanes hfsel hst hcause hovr hunit hqr hmin
    have hrun := State.esmcReceive_resumes (p := p) hlock hlanes hst hcause hovr hunit hqr hmin
    obtain ⟨hsel, hf, -, hcount, hothers, hframe⟩ := (s.withEsmc (Tab.set s.ref.esmc p (qrOfSsm ssm essm))).resumedCand_gives n
    have href := ((s.withEsmc (Tab.set s.ref.esmc p (qrOfSsm ssm essm))).resumedCand n).updateClass_ref
    have hcand : ∀ j, ((s.withEsmc (Tab.set s.ref.esmc p (qrOfSsm ssm essm))).resumedCand n).updateClass.cand j =
        ((s.withEsmc (Tab.set s.ref.esmc p (qrOfSsm ssm essm))).resumedCand n).cand j := fun j =>
      congrArg (fun x : RefState => Tab.get ({} : Cand) x.cands j) href
    have hupd := State.updateClass_touches (ps := evtParts ++ [Part.ref, .tcore, .pair, .rc .pairMirOvf])
      ((s.withEsmc (Tab.set s.ref.esmc p (qrOfSsm ssm essm))).resumedCand n) rfl
    have hwhole : Touches (evtParts ++ [Part.ref, .tcore, .pair, .rc .refHoldoffCnt, .rc .pairMirOvf]) s _ := (((s.withEsmc_touches (Tab.set s.ref.esmc p (qrOfSsm ssm essm))).mono rfl).step (hframe.mono rfl)).step
      (hupd.mono rfl)
    refine gives_effect (congrArg (effect (lanePort p && decide (ssm < 16)) s) hrun) hup (by simp [lanePort, hp, hssm])
      ⟨(congrArg Cand.st (hcand n)).trans hsel, ((congrArg RefState.fsel href).trans hf).trans hfsel, ?_, fun j hj => (hcand j).trans (hothers j hj), hwhole.carry⟩
    exact (State.count_of_rc (hupd (.rc .refHoldoffCnt) rfl)).trans hcount
  case sends =>
    intro s p hup hp
    refine gives_effect rfl hup (by simp [lanePort, hp]) ⟨?_, Touches.carry (?_ : Touches _ s (s.esmcSend p))⟩
    · show (s.esmcSend p).ref = _
      unfold State.esmcSend
      split <;> rfl
    · exact Touches.ite ((Touches.refl _ _).set_ref rfl) (Touches.refl _ _)
  case pulse =>
    intro s n i off x hup hn hx hst hpulses hen hsel hstep hi hcause
    have hrun := State.ppsInEdge_qualifying hn hx hst hpulses hen hsel hstep hi hcause
    refine gives_effect (congrArg (effect (ppsOut n) s) hrun) hup (by simp [ppsOut, hn]) ⟨?_, fun j hj => ?_, Touches.carry ((Touches.refl _ _).set_ref rfl)⟩
    · refine (Tab.get_set_self _ _ _ _).trans ?_
      simp [Cand.measured, hst]
    · refine (Tab.get_set_ne _ _ _ _ _ hj).trans ((Tab.get_set_ne _ _ _ _ _ hj).trans (Tab.get_set_ne _ _ _ _ _ hj))
  case badPulse =>
    intro s n i off hup hn hst hen halone
    have hself : ∀ cause, (s.failedCand (100 + n) cause).cand (100 + n) = _ := s.failedCand_cand_self (100 + n)
    have htsel : ∀ cause, (s.failedCand (100 + n) cause).ref.tsel = none := fun cause =>
      (congrArg RefState.tsel (s.failedCand_ref (100 + n) cause)).trans halone.1
    have hframe : ∀ cause, Touches (evtParts ++ [Part.ref]) s (s.failedCand (100 + n) cause) := State.failedCand_frame hst
    refine ⟨?_, fun hi => ?_⟩
    · exact gives_effect (congrArg (effect (ppsOut n) s) (State.candCheck_pps hn hst hen halone (by decide))) hup (by simp [ppsOut, hn])
        ⟨congrArg Cand.st (hself 1), congrArg Cand.cause (hself 1), htsel 1, (hframe 1).carry⟩
    · exact gives_effect (congrArg (effect (ppsOut n) s) (State.ppsInEdge_bad hn hst hen halone hi)) hup (by simp [ppsOut, hn])
        ⟨congrArg Cand.st (hself 8), congrArg Cand.cause (hself 8), htsel 8, (hframe 8).carry⟩

end Sys2Proof.Machine
end

section
/-! ## The time reference: a channel's candidate, a change of TSTATE, and the first selection (R205, R224, R225, R258) -/

set_option Elab.async false

namespace Sys2Proof.Machine

/-! ### Candidates of timing channels -/

section ChanId

variable (s : State) {i : Nat}

theorem State.chanId_eq (i : Nat) : s.chanId i = 2 * 2 ^ 28 + s.gen .tchan i % 256 * 2 ^ 20 + i % 2 ^ 20 := by
  have hcode : ObjType.tchan.code = 2 := rfl
  rw [State.chanId, State.handleOf, mkHandle, hcode, BitVec.toNat_ofNat]
  exact Nat.mod_eq_of_lt (by omega)

theorem State.chanId_mod (hi : i < 4096) : s.chanId i % 2 ^ 20 = i := by
  rw [State.chanId_eq]
  omega

theorem State.chanId_isChan (hi : i < 4096) : candIsChan (s.chanId i) = true := by
  have htype : hType (BitVec.ofNat 32 (s.chanId i)) = 2 := by
    rw [State.chanId_eq]
    simp only [hType, fieldOf, bitsOf, BitVec.toNat_ofNat]
    omega
  have hlow : 103 ≤ s.chanId i := by
    rw [State.chanId_eq]
    omega
  have hindex : s.chanId i % 2 ^ 20 < 4096 := by rwa [State.chanId_mod s hi]
  rw [candIsChan, htype, decide_eq_true hlow, decide_eq_true hindex]
  rfl

theorem State.chanId_isTime : candIsTime (s.chanId i) = true := by
  rw [candIsTime, decide_eq_true_eq, State.chanId_eq]
  omega

end ChanId

/-! ### A channel in a new state -/

/-- A timing channel in state `st`: listening begins anew. -/
def TChan.become (c : TChan) (st : ChanState) : TChan :=
  if st = .listening then { c with state := st, heardAnnounce := false, heardSync := false } else { c with state := st }

section SetChanSt

variable (s : State) (i : Nat) (st : ChanState)

theorem State.setChanSt_tchan_self : (s.setChanSt i st).tchan i = (s.tchan i).become st := Tab.get_set_self _ _ _ _

theorem State.setChanSt_tchan_ne {j : Nat} (h : j ≠ i) : (s.setChanSt i st).tchan j = s.tchan j := Tab.get_set_ne _ _ _ _ _ h

end SetChanSt

/-! ### What the outputs of the time state leave -/

/-- From `s` to `t` neither the references nor the channels, the settings, the time state and the role of a follower have changed. -/
structure TimeKept (s t : State) : Prop where
  ref : t.ref = s.ref
  tchans : t.tchans = s.tchans
  regs : t.regs = s.regs
  tstate : t.tcore.tstate = s.tcore.tstate
  follow : t.pair.follow = s.pair.follow

section Kept

variable {s t u : State}

theorem TimeKept.refl (s : State) : TimeKept s s := ⟨rfl, rfl, rfl, rfl, rfl⟩

theorem TimeKept.trans (h : TimeKept s t) (g : TimeKept t u) : TimeKept s u :=
  ⟨g.ref.trans h.ref, g.tchans.trans h.tchans, g.regs.trans h.regs, g.tstate.trans h.tstate, g.follow.trans h.follow⟩

theorem TimeKept.of_touches (h : Touches (evtParts ++ [.clk, .pwr, .pll, .rc .pllCnt, .rc .pairMirOvf, .rc .pwrWakeSrc]) s t) : TimeKept s t :=
  ⟨h .ref rfl, h .tchans rfl, h .regs rfl, congrArg TcoreState.tstate (h .tcore rfl), congrArg PairState.follow (h .pair rfl)⟩

theorem TimeKept.of_pair (h : Touches (evtParts ++ [.pair, .rc .pairMirOvf]) s t) (hf : t.pair.follow = s.pair.follow) : TimeKept s t :=
  ⟨h .ref rfl, h .tchans rfl, h .regs rfl, congrArg TcoreState.tstate (h .tcore rfl), hf⟩

theorem State.pairDelta_follow (s : State) (p : OmdPayload) : (s.pairDelta p).pair.follow = s.pair.follow := by
  unfold State.pairDelta
  split
  · rfl
  split
  · rfl
  split
  · rfl
  · exact (congrArg PairState.follow ((State.raiseIf_touches (ps := Part.others .pair) _ _ _ _ _ _ rfl .pair rfl).trans rfl) :)

theorem State.timeStateOut_kept (s : State) : TimeKept s s.timeStateOut := by
  refine TimeKept.of_pair (State.timeStateOut_touches s rfl) ?_
  unfold State.timeStateOut
  extract_lets t
  split
  · rfl
  · exact State.pairDelta_follow _ _

theorem State.raise_kept (s : State) (e : Evt) (a b c : Nat) : TimeKept s (s.raise e a b c) :=
  TimeKept.of_touches (State.raise_touches s e a b c rfl)

theorem State.updateClass_kept (s : State) : TimeKept s s.updateClass := by
  unfold State.updateClass
  split
  · exact TimeKept.refl s
  · have hq : TimeKept s (s.setQuality (s.announced false)) := by
      unfold State.setQuality
      extract_lets t
      have ht : TimeKept s t := TimeKept.of_touches (State.raiseIf_touches s _ _ _ _ _ rfl)
      exact ⟨ht.ref, ht.tchans, ht.regs, rfl, ht.follow⟩
    exact hq.trans (State.timeStateOut_kept _)

end Kept

/-! ### A change of TSTATE -/

/-- What enters a time state, the servo being on and the part no follower: the candidates and the selections stay. -/
theorem State.setTstate_gives {s : State} {st : TState} (b : Bool) (hservo : s.apB Fld.tcoreCtrl_SERVO_EN = true)
    (hfollow : s.pair.follow = false) (hne : s.tcore.tstate ≠ st) :
    (s.setTstate st b).tcore.tstate = st ∧ (s.setTstate st b).tchans = s.tchans ∧
      ∃ o f e, (s.setTstate st b).ref = { s.ref with lockedS := 0, budgetOver := o, faultHist := f, ep := e } ∧ (st = .holdover → e.isSome = true) := by
  unfold State.setTstate
  rw [hservo, hfollow, if_neg (by simp [hne])]
  extract_lets s1 _ _ s2 s3
  have h1 : TimeKept s s1 := s.raise_kept _ _ _ _
  have htchans2 : s2.tchans = s.tchans := h1.tchans
  have hstate2 : s2.tcore.tstate = st := rfl
  have href2 : ∃ o f e, s2.ref = { s.ref with lockedS := 0, budgetOver := o, faultHist := f, ep := e } ∧ (st = .holdover → e.isSome = true) := by
    refine ⟨_, _, _, rfl, fun hst => ?_⟩
    subst hst
    rfl
  clear_value s2
  have h3 : TimeKept s2 s3 := (s2.updateClass_kept).trans (TimeKept.of_touches (State.freerunRate_touches _ rfl))
  clear_value s3
  have hend : ∀ t, TimeKept s3 t → t.tcore.tstate = st ∧ t.tchans = s.tchans ∧
      ∃ o f e, t.ref = { s.ref with lockedS := 0, budgetOver := o, faultHist := f, ep := e } ∧ (st = .holdover → e.isSome = true) := by
    intro t ht
    have hk := h3.trans ht
    obtain ⟨o, f, e, href, hep⟩ := href2
    exact ⟨hk.tstate.trans hstate2, hk.tchans.trans htchans2, o, f, e, hk.ref.trans href, hep⟩
  split
  · exact hend _ ((s3.raise_kept _ _ _ _).trans (TimeKept.of_touches (State.wakeEvent_touches _ _ rfl)))
  · exact hend _ (TimeKept.refl s3)

/-! ### The first time reference -/

section First

variable {s : State} {i : Nat}

/-- A channel that is selected, with its candidate. -/
theorem State.markSel_chan (hi : i < 4096) (u : State) :
    u.markSel (some (s.chanId i)) true = (u.setCandSt (s.chanId i) .selected 0).setChanSt i .selected := by
  have hchan := s.chanId_isChan hi
  have hmod := s.chanId_mod hi
  simp only [State.markSel, hchan, hmod, if_true]

/-- From `s` to `t` the channel under `i`, with its candidate `id`, became the time reference. -/
structure ChanSelected (i id : Nat) (s t : State) : Prop where
  chan : (t.tchan i).state = .selected
  others : ∀ j, j ≠ i → t.tchan j = s.tchan j
  cand : (t.cand id).st = .selected
  tsel : t.ref.tsel = some id
  fsel : t.ref.fsel = s.ref.fsel
  regs : t.regs = s.regs
  tstate : t.tcore.tstate = s.tcore.tstate
  follow : t.pair.follow = s.pair.follow

theorem ChanSelected.kept {i id : Nat} {s t u : State} (h : ChanSelected i id s t) (htchans : u.tchans = t.tchans) (hcands : u.ref.cands = t.ref.cands)
    (htsel : u.ref.tsel = t.ref.tsel) (hfsel : u.ref.fsel = t.ref.fsel) (hregs : u.regs = t.regs) (htstate : u.tcore.tstate = t.tcore.tstate)
    (hfollow : u.pair.follow = t.pair.follow) : ChanSelected i id s u := by
  have htchan : ∀ j, u.tchan j = t.tchan j := fun j => congrArg (fun l => Tab.get ({} : TChan) l j) htchans
  have hcand : u.cand id = t.cand id := congrArg (fun l => Tab.get ({} : Cand) l id) hcands
  exact ⟨htchan i ▸ h.chan, fun j hj => (htchan j).trans (h.others j hj), hcand ▸ h.cand, htsel.trans h.tsel, hfsel.trans h.fsel,
    hregs.trans h.regs, htstate.trans h.tstate, hfollow.trans h.follow⟩

theorem ChanSelected.time {i id : Nat} {s t u : State} (h : ChanSelected i id s t) (hk : TimeKept t u) : ChanSelected i id s u :=
  h.kept hk.tchans (congrArg RefState.cands hk.ref) (congrArg RefState.tsel hk.ref) (congrArg RefState.fsel hk.ref) hk.regs hk.tstate hk.follow

/-- A channel and its candidate become SELECTED under a selection that names it. -/
theorem State.chanMarked (s : State) (i id : Nat) (hsel : s.ref.tsel = some id) :
    ChanSelected i id s ((s.setCandSt id .selected 0).setChanSt i .selected) := by
  have hset := s.setCandSt_frame id .selected 0 (.inr (.inr rfl))
  have href := s.setCandSt_ref id .selected 0
  have hself := s.setCandSt_cand_self id .selected 0
  generalize s.setCandSt id .selected 0 = u at *
  have hchanset : Touches (evtParts ++ [.tchans]) u (u.setChanSt i .selected) := State.setChanSt_touches u _ _ rfl
  have hcref : (u.setChanSt i .selected).ref = u.ref := hchanset .ref rfl
  refine ⟨?_, fun j hj => ?_, ?_, ?_, ?_, (hchanset .regs rfl).trans (hset .regs rfl),
    congrArg TcoreState.tstate ((hchanset .tcore rfl).trans (hset .tcore rfl)), congrArg PairState.follow ((hchanset .pair rfl).trans (hset .pair rfl))⟩
  · rw [State.setChanSt_tchan_self]
    rfl
  · rw [State.setChanSt_tchan_ne _ _ _ hj]
    exact congrArg (fun l => Tab.get ({} : TChan) l j) (hset .tchans rfl)
  · rw [State.cand, hcref]
    exact (congrArg Cand.st hself).trans (Cand.become_st _ _ _)
  · rw [hcref, href]
    exact hsel
  · rw [hcref, href]

/-- The selection of a qualified channel, where no time reference was selected. -/
theorem State.selectT_chan (hi : i < 4096) (ht : s.ref.tsel = none) : ChanSelected i (s.chanId i) s (s.selectT (some (s.chanId i))) := by
  have hmark := State.markSel_chan (s := s) hi
  generalize s.chanId i = id at *
  unfold State.selectT
  extract_lets old s1 r s2 s3
  have h1 : s1 = s := by
    unfold s1
    rw [show old = none from ht]
    rfl
  have h3 : ChanSelected i id s2 s3 := by
    unfold s3
    rw [hmark s2]
    exact s2.chanMarked i id rfl
  have hk := (s3.raise_kept Ev.refSelChg 0 (candWord old) (candWord (some id))).trans (State.updateClass_kept _)
  have h2 : s2.tchans = s.tchans ∧ s2.ref.fsel = s.ref.fsel ∧ s2.regs = s.regs ∧ s2.tcore = s.tcore ∧ s2.pair = s.pair := by
    unfold s2 r
    rw [h1]
    exact ⟨rfl, rfl, rfl, rfl, rfl⟩
  clear_value s2 s3
  obtain ⟨htchans, hfsel, hregs, htcore, hpair⟩ := h2
  have h4 := h3.time hk
  exact ⟨h4.chan, fun j hj => (h4.others j hj).trans (congrArg (fun l => Tab.get ({} : TChan) l j) htchans), h4.cand, h4.tsel, h4.fsel.trans hfsel,
    h4.regs.trans hregs, h4.tstate.trans (congrArg TcoreState.tstate htcore), h4.follow.trans (congrArg PairState.follow hpair)⟩

/-- TSEL with a bias: its return waits no longer. -/
def State.biased (s : State) (id : Nat) (b : Int) : State :=
  { s with ref := { s.ref with bias := b, biasSlew := false, stepPend := s.ref.stepPend.filter (fun c => c != id) } }

theorem State.selectBias_eq (s : State) (id : Nat) (b : Int) : s.selectBias id b = ((s.selectT (some id)).biased id b).timeStateOut := rfl

theorem State.selectBias_bias (id : Nat) (b : Int) : (s.selectBias id b).ref.bias = b := by
  have hkept := State.timeStateOut_kept ((s.selectT (some id)).biased id b)
  exact (congrArg RefState.bias hkept.ref :)

/-- It is taken with a bias. -/
theorem ChanSelected.withBias {id : Nat} (hsel : ChanSelected i id s (s.selectT (some id))) (b : Int) : ChanSelected i id s (s.selectBias id b) := by
  have hbias : ChanSelected i id s ((s.selectT (some id)).biased id b) := hsel.kept rfl rfl rfl rfl rfl rfl rfl
  rw [State.selectBias_eq]
  exact hbias.time (State.timeStateOut_kept _)

end First

end Sys2Proof.Machine
end

section
/-! ## Timing channels that qualify, are lost and are placed (R224, R225, R341), and the phases of LNK (R234, R235, R247) -/

set_option Elab.async false

namespace Sys2Proof.Machine

/-! ### A slave channel qualifies -/

section Qualify

variable {s : State} {i : Nat}

theorem State.chanId_ge (s : State) (i : Nat) : 103 ≤ s.chanId i := by
  rw [State.chanId_eq]
  omega

theorem State.chanId_of_index {t : State} (h : t.index = s.index) (i : Nat) : t.chanId i = s.chanId i :=
  congrArg BitVec.toNat (State.handleOf_of_index h .tchan i)

/-- The settings of a channel's candidate are those of its handle. -/
theorem State.candEn_high {id : Nat} (h : 103 ≤ id) : s.candEn id = (s.candSet id).en := if_neg (by omega)
theorem State.candOvr_high {id : Nat} (h : 103 ≤ id) : s.candOvr id = (if (s.candSet id).ovrEn then some (s.candSet id).ovr else none) := if_neg (by omega)

theorem State.candUnitAbsent_high {id : Nat} (h : 103 ≤ id) : s.candUnitAbsent id = false := by
  simp [State.candUnitAbsent, show ¬ id < 96 from by omega, show ¬ id = 102 from by omega]

theorem State.candQr_high {id : Nat} (h : 103 ≤ id) : s.candQr id = (s.candOvr id).getD (s.tchan (id % 2 ^ 20)).qr := by
  rw [State.candQr, State.candUnitAbsent_high h, if_neg Bool.false_ne_true, if_neg (show ¬ id < 96 from by omega),
    if_neg (show ¬ id < 102 from by omega), if_neg (show ¬ id = 102 from by omega)]
  cases s.candOvr id with
  | none => rfl
  | some q => rfl

/-- The rank of a channel is that of its clock. -/
theorem State.timeRankOk_of {t : State} {id : Nat} (h : 103 ≤ id) (hregs : t.regs = s.regs) (hsets : t.ref.sets = s.ref.sets)
    (hqr : (t.tchan (id % 2 ^ 20)).qr = (s.tchan (id % 2 ^ 20)).qr) : t.timeRankOk id = s.timeRankOk id := by
  have hset : t.candSet id = s.candSet id := congrArg (fun l => Tab.get ({} : CandSet) l id) hsets
  rw [State.timeRankOk, State.timeRankOk, State.candQr_high h, State.candQr_high h, State.candOvr_high h, State.candOvr_high h, hset, hqr,
    State.ap_of_regs hregs]

theorem Tab.set_set {κ α : Type} [DecidableEq κ] (l : Tab κ α) (k : κ) (c d : α) : Tab.set (Tab.set l k c) k d = Tab.set l k d := by
  simp [Tab.set]

/-- A candidate in two states after one another. -/
theorem State.setCandSt_again_ref (s : State) (id : Nat) (st st' : CandSt) (cause cause' : Nat) : ∃ c : Cand, c.st = st' ∧
    ((s.setCandSt id st cause).setCandSt id st' cause').ref = { s.ref with cands := Tab.set s.ref.cands id c } := by
  refine ⟨((s.setCandSt id st cause).cand id).become st' cause', Cand.become_st _ _ _, ?_⟩
  rw [State.setCandSt_ref (s.setCandSt id st cause), State.setCandSt_ref s, Tab.set_set]

/-- The candidate of a slave channel follows it into QUALIFIED. -/
theorem State.chanCand_qualified (hrole : (s.tchan i).role = 1) (hst : (s.tchan i).state = .qualified) (hen : s.candEn (s.chanId i) = true)
    (hrank : s.timeRankOk (s.chanId i) = true) (hq : (s.cand (s.chanId i)).st ≠ .qualified) (hs : (s.cand (s.chanId i)).st ≠ .selected) :
    (∃ c : Cand, c.st = .qualified ∧ (s.chanCand i).ref = { s.ref with cands := Tab.set s.ref.cands (s.chanId i) c }) ∧
      Touches (evtParts ++ [.ref]) s (s.chanCand i) := by
  have hrun : s.chanCand i = (if (s.cand (s.chanId i)).st = .qualifying then s else s.setCandSt (s.chanId i) .qualifying 0).setCandSt (s.chanId i) .qualified 0 := by
    unfold State.chanCand
    extract_lets id st
    rw [hrole, hst, hen, hrank]
    exact if_neg (not_or.mpr ⟨hq, hs⟩)
  rw [hrun]
  split
  · exact ⟨⟨_, Cand.become_st _ _ _, State.setCandSt_ref _ _ _ _⟩, State.setCandSt_frame _ _ _ _ (.inr (.inl rfl))⟩
  · exact ⟨s.setCandSt_again_ref _ .qualifying .qualified 0 0,
      (State.setCandSt_frame s _ .qualifying 0 (.inl ⟨hq, hs⟩)).step (State.setCandSt_frame _ _ _ _ (.inr (.inl rfl)))⟩

/-- A time candidate is wanted, and taken. -/
theorem State.reselect_time {id : Nat} (hstep : s.ref.stepPend = none) (hwf : s.wantedSel false = s.ref.fsel) (hwt : s.wantedSel true = some id)
    (ht : s.ref.tsel = none) (hdue : s.ref.selDue = false) : s.reselect = s.takeT id := by
  unfold State.reselect
  rw [hstep]
  dsimp only
  rw [hwf, if_pos rfl, hwt, ht, hdue, if_neg (by simp)]

/-- In FREERUN the channel that is taken begins an acquisition. -/
theorem State.takeT_freerun {id : Nat} (hsel : ChanSelected i id s (s.selectT (some id))) (hfollow : s.pair.follow = false)
    (hst : s.tcore.tstate = .freerun) (hservo : s.apB Fld.tcoreCtrl_SERVO_EN = true) :
    ((s.takeT id).tchan i).state = .selected ∧ ((s.takeT id).cand id).st = .selected ∧
      (s.takeT id).ref.tsel = some id ∧ (s.takeT id).ref.fsel = s.ref.fsel ∧ (s.takeT id).ref.bias = 0 ∧
      (s.takeT id).tcore.tstate = .acquire ∧ (∀ j, j ≠ i → (s.takeT id).tchan j = s.tchan j) := by
  have hsel := hsel.withBias 0
  have hbias := State.selectBias_bias (s := s) id 0
  have hrun : s.takeT id = (s.selectBias id 0).setTstate .acquire true := by
    rw [State.takeT, hfollow, if_neg (by simp), hst]
  generalize s.selectBias id 0 = u at *
  have hservo1 : u.apB Fld.tcoreCtrl_SERVO_EN = true := by rwa [State.apB, State.ap_of_regs hsel.regs]
  obtain ⟨htstate, htchans, o, f, e, href, -⟩ := State.setTstate_gives true hservo1 (hsel.follow.trans hfollow)
    (show u.tcore.tstate ≠ .acquire by rw [hsel.tstate, hst]; simp)
  rw [hrun]
  have htchan : ∀ j, (u.setTstate .acquire true).tchan j = u.tchan j := fun j => congrArg (fun l => Tab.get ({} : TChan) l j) htchans
  refine ⟨(htchan i) ▸ hsel.chan, ?_, ?_, ?_, ?_, htstate, fun j hj => (htchan j).trans (hsel.others j hj)⟩
  · exact (congrArg (fun x : RefState => (Tab.get ({} : Cand) x.cands id).st) href).trans hsel.cand
  · exact (congrArg RefState.tsel href).trans hsel.tsel
  · exact (congrArg RefState.fsel href).trans hsel.fsel
  · exact (congrArg RefState.bias href).trans hbias

end Qualify

/-! ### A channel that times out -/

section Lost

variable {s : State} {i : Nat}

theorem State.tchanTimeout_lost (hobj : (s.obj? .tchan i).isSome = true) (hsend : (s.tchan i).state ≠ .sending) (hlost : (s.tchan i).state ≠ .lost) :
    s.tchanTimeout i = (s.setChanSt i .lost).candFail (s.chanId i) 5 := by
  rw [State.tchanTimeout]
  refine (if_neg ?_).trans rfl
  rintro (h | h | h)
  · rw [Option.isNone_iff_eq_none] at h
    rw [h] at hobj
    cases hobj
  · exact hsend h
  · exact hlost h

/-- The failure of a disabled candidate is noted, and no more. -/
theorem State.candFail_disabled {id cause : Nat} (h : (s.cand id).st = .disabled) : s.candFail id cause = s.putCand id { s.cand id with failing := true } := by
  unfold State.candFail
  extract_lets c _ u
  have hc : c.st = .disabled := h
  split
  · next h1 => exact absurd (hc.symm.trans h1) (by simp)
  · next h1 => exact absurd (hc.symm.trans h1) (by simp)
  · next h1 => exact absurd (hc.symm.trans h1) (by simp)
  · rfl

/-- The selected candidate begins to fail: the history before the fault is kept. -/
def State.selFault (s : State) (id : Nat) : State :=
  { s with ref := { s.ref with cands := Tab.set s.ref.cands id { s.cand id with failing := true }, faultHist := some s.ref.hist } }

/-- The selected channel candidate has failed, before the selections are made again. -/
def State.failedSel (s : State) (id cause : Nat) : State := (s.selFault id).setCandSt id .failed cause

theorem State.candFail_selectedChan {id cause : Nat} (hst : (s.cand id).st = .selected) (ht : s.ref.tsel = some id) (hchan : candIsChan id = true) :
    s.candFail id cause = (s.failedSel id cause).reselect := by
  unfold State.candFail
  extract_lets c _ u _ v
  have hc : c.st = .selected := hst
  have hv : v = { u with ref := { u.ref with faultHist := some s.ref.hist } } := if_pos ht
  split
  · next h => exact absurd (hc.symm.trans h) (by simp)
  · next h => exact absurd (hc.symm.trans h) (by simp)
  · rw [hv, hchan, Bool.true_or, if_pos rfl]
    rfl
  · next h => exact absurd hc h

theorem State.failedSel_ref (s : State) (id cause : Nat) : ∃ c : Cand, c.st = .failed ∧
    (s.failedSel id cause).ref = { s.ref with cands := Tab.set s.ref.cands id c, faultHist := some s.ref.hist } := by
  refine ⟨((s.selFault id).cand id).become .failed cause, Cand.become_st _ _ _, ?_⟩
  rw [State.failedSel, State.setCandSt_ref]
  exact congrArg (fun l => { s.ref with cands := l, faultHist := some s.ref.hist }) (Tab.set_set _ _ _ _)

theorem State.failedSel_kept (s : State) (id cause : Nat) : (s.failedSel id cause).tchans = s.tchans ∧ (s.failedSel id cause).regs = s.regs ∧
    (s.failedSel id cause).tcore = s.tcore ∧ (s.failedSel id cause).pair = s.pair := by
  have h := State.setCandSt_lost (s.selFault id) id .failed cause
  exact ⟨h .tchans rfl, h .regs rfl, h .tcore rfl, h .pair rfl⟩

/-- Without a candidate for it, the time reference that has failed is lost. -/
theorem State.reselect_lost {id : Nat} (hstep : s.ref.stepPend = none) (hf : s.ref.fsel = none) (ht : s.ref.tsel = some id)
    (hdue : s.ref.selDue = false) (hnone : ∀ j, s.candUsable j = false) (hst : (s.cand id).st = .failed) : s.reselect = s.loseT := by
  have hkept : s.selKept (some id) = false := by simp [State.selKept, hst]
  have hwf : s.wantedSel false = none := State.wantedSel_none hnone (by rw [State.curSel, if_neg (by decide), hf]; rfl)
  have hwt : s.wantedSel true = none := State.wantedSel_none hnone (by rw [State.curSel, if_pos rfl, ht]; exact hkept)
  unfold State.reselect
  rw [hstep]
  dsimp only
  rw [hwf, hf, if_pos rfl, hwt, ht, hdue, if_neg (by simp)]

/-- A channel that is lost is selected no longer. -/
theorem State.selectT_lost {id : Nat} (ht : s.ref.tsel = some id) (hst : (s.cand id).st = .failed) (hchan : (s.tchan (id % 2 ^ 20)).state ≠ .selected) :
    TimeKept { s with ref := (s.selectT none).ref } (s.selectT none) ∧ (s.selectT none).ref.cands = s.ref.cands ∧ (s.selectT none).ref.tsel = none := by
  unfold State.selectT
  extract_lets old s1 r s2 s3
  have h1 : s1 = s := by
    unfold s1 State.markSel
    rw [show old = some id from ht]
    simp only [hst, hchan, decide_false, Bool.and_false, Bool.false_eq_true, if_false, reduceCtorEq]
  have h3 : s3 = s2 := rfl
  have hk := (s3.raise_kept Ev.refSelChg 0 (candWord old) (candWord none)).trans (State.updateClass_kept _)
  have h2 : s2.tchans = s.tchans ∧ s2.regs = s.regs ∧ s2.tcore = s.tcore ∧ s2.pair = s.pair ∧ s2.ref.cands = s.ref.cands ∧ s2.ref.tsel = none := by
    unfold s2 r
    rw [h1]
    exact ⟨rfl, rfl, rfl, rfl, rfl, rfl⟩
  rw [h3] at hk ⊢
  clear_value s2
  obtain ⟨htchans, hregs, htcore, hpair, hcands, htsel⟩ := h2
  exact ⟨⟨rfl, hk.tchans.trans htchans, hk.regs.trans hregs, hk.tstate.trans (congrArg TcoreState.tstate htcore),
    hk.follow.trans (congrArg PairState.follow hpair)⟩, (congrArg RefState.cands hk.ref).trans hcands, (congrArg RefState.tsel hk.ref).trans htsel⟩

/-- A locked part that loses its only time reference holds over. -/
theorem State.loseT_locked {id : Nat} (ht : s.ref.tsel = some id) (hst : (s.cand id).st = .failed) (hchan : (s.tchan (id % 2 ^ 20)).state ≠ .selected)
    (hlocked : s.tcore.tstate = .locked) (hfollow : s.pair.follow = false) (hservo : s.apB Fld.tcoreCtrl_SERVO_EN = true) :
    s.loseT.tchans = s.tchans ∧ s.loseT.ref.cands = s.ref.cands ∧ s.loseT.ref.tsel = none ∧ s.loseT.tcore.tstate = .holdover ∧
      s.loseT.ref.ep.isSome = true := by
  obtain ⟨hk, hcands, htsel⟩ := State.selectT_lost ht hst hchan
  unfold State.loseT
  rw [hlocked]
  extract_lets _ r s1
  have hk1 := State.timeStateOut_kept ({ s.selectT none with ref := { (s.selectT none).ref with stepPend := none } } : State)
  have h1 : s1.tchans = s.tchans ∧ s1.regs = s.regs ∧ s1.tcore.tstate = s.tcore.tstate ∧ s1.pair.follow = s.pair.follow ∧
      s1.ref.cands = s.ref.cands ∧ s1.ref.tsel = none :=
    ⟨hk1.tchans.trans hk.tchans, hk1.regs.trans hk.regs, hk1.tstate.trans hk.tstate, hk1.follow.trans hk.follow,
      (congrArg RefState.cands hk1.ref).trans hcands, (congrArg RefState.tsel hk1.ref).trans htsel⟩
  clear_value s1
  obtain ⟨htchans1, hregs1, htstate1, hfollow1, hcands1, htsel1⟩ := h1
  obtain ⟨htstate, htchans, o, f, e, href, hep⟩ := State.setTstate_gives (s := s1) (st := .holdover) false
    (by rwa [State.apB, State.ap_of_regs hregs1]) (hfollow1.trans hfollow) (by rw [htstate1, hlocked]; simp)
  refine ⟨htchans.trans htchans1, ?_, ?_, htstate, ?_⟩
  · exact (congrArg RefState.cands href).trans hcands1
  · exact (congrArg RefState.tsel href).trans htsel1
  · exact (congrArg (fun x : RefState => x.ep.isSome) href).trans (hep rfl)

end Lost

/-! ### LNK ports -/

section Lnk

variable {s : State} {p q : Nat}

/-- A LNK unit as it enters a state. -/
def LnkPort.enter (x : LnkPort) (st : LnkSt) (cause : Nat) : LnkPort :=
  if x.st = st then { x with cause := cause }
  else { x with st := st, cause := cause, rs := [], masterRun := 0, snapBad := if st = .tracking then 0 else x.snapBad
                base := if st = .active then x.base else none }

theorem State.lnkGo_ports (s : State) (p : Nat) (st : LnkSt) (cause : Nat) :
    (s.lnkGo p st cause).lnk.ports = Tab.set s.lnk.ports p ((s.lnkPort p).enter st cause) := by
  unfold State.lnkGo
  extract_lets x y s1
  have h1 : s1.lnk.ports = Tab.set s.lnk.ports p ((s.lnkPort p).enter st cause) :=
    congrArg LnkState.ports ((State.raiseIf_touches (ps := Part.others .lnk) (s.setLnk p y) _ _ _ _ _ rfl .lnk rfl).trans rfl)
  clear_value s1
  split
  · split
    · exact (State.pairHold_ports _ _).trans h1
    · exact h1
  · exact h1

theorem State.lnkGo_port_self (s : State) (p : Nat) (st : LnkSt) (cause : Nat) : (s.lnkGo p st cause).lnkPort p = (s.lnkPort p).enter st cause := by
  rw [State.lnkPort, State.lnkGo_ports]
  exact Tab.get_set_self _ _ _ _

theorem State.lnkGo_port_ne (s : State) (h : q ≠ p) (st : LnkSt) (cause : Nat) : (s.lnkGo p st cause).lnkPort q = s.lnkPort q := by
  rw [State.lnkPort, State.lnkGo_ports]
  exact Tab.get_set_ne _ _ _ _ _ h

@[simp] theorem LnkPort.enter_phi (x : LnkPort) (st : LnkSt) (cause : Nat) : (x.enter st cause).phi = x.phi := by
  unfold LnkPort.enter
  split <;> rfl

@[simp] theorem LnkPort.enter_calm (x : LnkPort) (st : LnkSt) (cause : Nat) : (x.enter st cause).calm = x.calm := by
  unfold LnkPort.enter
  split <;> rfl

@[simp] theorem LnkPort.enter_st (x : LnkPort) (st : LnkSt) (cause : Nat) : (x.enter st cause).st = st := by
  unfold LnkPort.enter
  split
  · next h => exact h
  · rfl

/-- A port that is not ACTIVE enters a state without a hold. -/
theorem State.lnkGo_frame (s : State) (p : Nat) (st : LnkSt) (cause : Nat) (h : (s.lnkPort p).st ≠ .active) :
    Touches (evtParts ++ [.lnk]) s (s.lnkGo p st cause) := by
  unfold State.lnkGo
  extract_lets x y s1
  rw [if_neg fun hx => h hx.1]
  exact ((Touches.refl _ _).set_lnk rfl : Touches _ s (s.setLnk p y)).step (State.raiseIf_touches _ _ _ _ _ _ rfl)

theorem State.lnkEval_port_ne (s : State) (h : q ≠ p) : (s.lnkEval p).lnkPort q = s.lnkPort q := by
  unfold State.lnkEval
  extract_lets x c
  split
  · split
    · exact s.setLnk_lnkPort_ne h _
    · exact (State.lnkGo_port_ne _ h _ _).trans (s.setLnk_lnkPort_ne h _)
  split
  · exact s.lnkGo_port_ne h _ _
  split
  · exact s.lnkGo_port_ne h _ _
  · rfl

/-- A unit that is on, and not ACTIVE, keeps its phase and the run of its calm updates. -/
theorem State.lnkEval_calm (hoff : s.lnkOff p = false) (hst : (s.lnkPort p).st ≠ .active) :
    ((s.lnkEval p).lnkPort p).phi = (s.lnkPort p).phi ∧ ((s.lnkEval p).lnkPort p).calm = (s.lnkPort p).calm ∧
      ((s.lnkEval p).lnkPort p).st ≠ .active ∧ Touches (evtParts ++ [.lnk]) s (s.lnkEval p) := by
  have hgo : ∀ st cause, st ≠ .active → ((s.lnkGo p st cause).lnkPort p).phi = (s.lnkPort p).phi ∧
      ((s.lnkGo p st cause).lnkPort p).calm = (s.lnkPort p).calm ∧ ((s.lnkGo p st cause).lnkPort p).st ≠ .active ∧
      Touches (evtParts ++ [.lnk]) s (s.lnkGo p st cause) := fun st cause hne => by
    rw [State.lnkGo_port_self]
    exact ⟨LnkPort.enter_phi _ _ _, LnkPort.enter_calm _ _ _, by rwa [LnkPort.enter_st], s.lnkGo_frame p st cause hst⟩
  unfold State.lnkEval
  rw [hoff, if_neg Bool.false_ne_true]
  extract_lets _
  split
  · exact hgo .wait _ (by simp)
  split
  · exact hgo .tracking _ (by simp)
  · exact ⟨rfl, rfl, hst, Touches.refl _ _⟩

theorem State.lnkBetween_idle {phi : Int} (h : (s.lnkPort p).st ≠ .active) : s.lnkBetween p phi = s := by
  unfold State.lnkBetween
  extract_lets x
  split
  · exact if_neg h
  · rfl

theorem State.lnkPhiLost_port_ne (s : State) (h : q ≠ p) : (s.lnkPhiLost p).lnkPort q = s.lnkPort q := by
  unfold State.lnkPhiLost
  extract_lets x y
  split
  · rfl
  · exact (State.lnkEval_port_ne _ h).trans (s.setLnk_lnkPort_ne h y)

/-- The next phase of a unit that has one. -/
theorem State.lnkPhaseUpdate_next {phi old : Int} (hphi : (s.lnkPort p).phi = some old) (hfresh : (s.lnkPort p).fresh = false) :
    s.lnkPhaseUpdate p phi true = (if 1600 < (phi - old).natAbs then s.lnkSlip p phi
      else ((s.setLnk p { s.lnkPort p with phi := some phi, calm := if (phi - old).natAbs ≤ 20 then min 16 ((s.lnkPort p).calm + 1) else 0 }).lnkEval p).lnkBetween p phi) := by
  have hsome : (s.lnkPort p).phi.isNone = false := by rw [hphi]; rfl
  unfold State.lnkPhaseUpdate
  rw [hsome, Bool.not_true, if_neg Bool.false_ne_true, if_neg Bool.false_ne_true]
  extract_lets _ x
  split
  · next h => rw [show x.phi = some old from hphi] at h; cases h
  · next old' h =>
    obtain rfl : old = old' := Option.some.inj (hphi.symm.trans h)
    exact (if_neg (by rw [hfresh]; exact Bool.false_ne_true)).trans rfl

/-- A slip: the unwrapping restarts, and an ACTIVE port returns to TRACKING. -/
theorem State.lnkSlip_gives (s : State) (p : Nat) (phi : Int) :
    ((s.lnkSlip p phi).lnkPort p).phi = some phi ∧
      ((s.lnkSlip p phi).lnkPort p).st = (if (s.lnkPort p).st = .active then .tracking else (s.lnkPort p).st) ∧
      (∀ q, q ≠ p → (s.lnkSlip p phi).lnkPort q = s.lnkPort q) ∧
      (s.lnkSlip p phi).count Fld.lnkSlipCnt_VAL p = s.counted Fld.lnkSlipCnt_VAL p := by
  unfold State.lnkSlip
  extract_lets x s1
  have hbump : Touches (evtParts ++ [.lnk, .tchans]) (s.bump Fld.lnkSlipCnt_VAL p) s1 :=
    ((State.raise_touches _ _ _ _ _ rfl).step (State.phiForget_touches _ _ rfl)).step ((Touches.refl _ _).set_lnk rfl)
  have hlnk : ((s.bump Fld.lnkSlipCnt_VAL p).raise Ev.lnkPhaseSlip p).lnk = s.lnk :=
    (State.raise_touches (ps := Part.others .lnk) _ _ _ _ _ rfl .lnk rfl).trans
      (State.bump_touches (ps := Part.others .lnk) s _ _ _ rfl .lnk rfl)
  have hself : s1.lnkPort p = { x with phi := some phi, rs := [], calm := if x.st = .wait then 0 else x.calm } := State.setLnk_lnkPort_self _ _ _
  have hne : ∀ q, q ≠ p → s1.lnkPort q = s.lnkPort q := fun q hq =>
    (State.setLnk_lnkPort_ne _ hq _).trans ((congrArg (fun l : LnkState => Tab.get ({} : LnkPort) l.ports q) hlnk : _) :)
  clear_value s1
  have hcount : ∀ t, Touches (evtParts ++ [.lnk, .tchans, .tic, .cal, .rc .calAbortCnt]) (s.bump Fld.lnkSlipCnt_VAL p) t →
      t.count Fld.lnkSlipCnt_VAL p = s.counted Fld.lnkSlipCnt_VAL p := fun t ht =>
    State.count_bumped_at p 1 (Touches.refl [] s) ht rfl rfl (by decide)
  have hx : x = s.lnkPort p := rfl
  clear_value x
  subst hx
  split
  · refine ⟨?_, ?_, fun q hq => (s1.lnkGo_port_ne hq _ _).trans (hne q hq), hcount _ ((hbump.mono rfl).step (State.lnkGo_touches _ _ _ _ rfl))⟩
    · rw [State.lnkGo_port_self, hself, LnkPort.enter_phi]
    · rw [State.lnkGo_port_self, LnkPort.enter_st]
  · exact ⟨by rw [hself], by rw [hself], hne, hcount _ (hbump.mono rfl)⟩

end Lnk

end Sys2Proof.Machine
end

section
/-! ## States of timing channels and the phase updates of LNK (O39) -/

set_option Elab.async false

namespace Sys2Proof.Machine

section Steps

variable {s : State} {i : Nat}

/-- A slave channel that qualifies first: its candidate is QUALIFIED, and then the selections are made. -/
theorem State.tchanQualify_first {id : Nat} (hid : s.chanId i = id) (hi : i < 4096) (hobj : (s.obj? .tchan i).isSome = true)
    (hphase : (s.obj .tchan i).phase = .active) (hst : (s.tchan i).state = .listening) (hann : (s.tchan i).heardAnnounce = true)
    (hsync : (s.tchan i).heardSync = true) (hrole : (s.tchan i).role = 1) (hen : s.candEn id = true) (hrank : s.timeRankOk id = true)
    (hprio : s.candPrio id ≠ 15) (ht : s.ref.tsel = none) (hf : s.ref.fsel = none) (hstep : s.ref.stepPend = none) (hdue : s.ref.selDue = false)
    (hnone : ∀ j, s.candUsable j = false) (hfollow : s.pair.follow = false) (htstate : s.tcore.tstate = .freerun)
    (hservo : s.apB Fld.tcoreCtrl_SERVO_EN = true) :
    ∃ u : State, s.tchanQualify i = u.takeT id ∧ ChanSelected i id u (u.selectT (some id)) ∧ u.pair.follow = false ∧ u.tcore.tstate = .freerun ∧
      u.apB Fld.tcoreCtrl_SERVO_EN = true ∧ u.ref.fsel = none ∧ ∀ j, j ≠ i → u.tchan j = s.tchan j := by
  have hge : 103 ≤ id := hid ▸ s.chanId_ge i
  have hmod : id % 2 ^ 20 = i := hid ▸ s.chanId_mod hi
  have htime : candIsTime id = true := hid ▸ s.chanId_isTime
  obtain ⟨hq, hs⟩ : (s.cand id).st ≠ .qualified ∧ (s.cand id).st ≠ .selected := by
    have h := hnone id
    rw [State.candUsable, decide_eq_true hprio, Bool.and_true, Bool.or_eq_false_iff, decide_eq_false_iff_not, decide_eq_false_iff_not] at h
    exact h
  have hrun : s.tchanQualify i = (let s1 := (s.setChanSt i .qualified).chanCand i
      if s1.ref.tsel = some (s.chanId i) ∧ (s1.cand (s.chanId i)).st = .qualified then
        ((if (s1.markSel (some (s.chanId i)) true).slewOk (s.cand (s.chanId i)).returnOff then (s1.markSel (some (s.chanId i)) true).startThaw
          else (s1.markSel (some (s.chanId i)) true).setStepPending (s.chanId i) (s.cand (s.chanId i)).returnOff).reselect).updateClass
      else if (s1.cand (s.chanId i)).st = .qualified then s1.qualified (s.chanId i) else s1.reselect) := by
    have hsome : (s.obj? .tchan i).isNone = false := by simpa using hobj
    exact if_neg (by simp [hsome, hphase, hst, hann, hsync])
  have hset : Touches (evtParts ++ [.tchans]) s (s.setChanSt i .qualified) := State.setChanSt_touches s _ _ rfl
  have hself : (s.setChanSt i .qualified).tchan i = { s.tchan i with state := .qualified } := s.setChanSt_tchan_self i _
  have hne : ∀ j, j ≠ i → (s.setChanSt i .qualified).tchan j = s.tchan j := fun j hj => s.setChanSt_tchan_ne i _ hj
  generalize s.setChanSt i .qualified = v at *
  have hvref : v.ref = s.ref := hset .ref rfl
  have hvid : v.chanId i = id := (State.chanId_of_index (hset .index rfl) i).trans hid
  have hven : v.candEn id = true := by
    rw [State.candEn_high hge] at hen ⊢
    rwa [State.candSet, hvref]
  have hvrank : v.timeRankOk id = true := by
    rw [← hrank]
    refine State.timeRankOk_of hge (hset .regs rfl) (congrArg RefState.sets hvref) ?_
    rw [hmod, hself]
  have hvcand : v.cand id = s.cand id := congrArg (fun x : RefState => Tab.get ({} : Cand) x.cands id) hvref
  obtain ⟨⟨c, hc, href⟩, hframe⟩ := State.chanCand_qualified (s := v) (i := i) (by rw [hself]; exact hrole) (by rw [hself]) (hvid ▸ hven)
    (hvid ▸ hvrank) (by rw [hvid, hvcand]; exact hq) (by rw [hvid, hvcand]; exact hs)
  rw [hvid] at href
  rw [hid] at hrun
  generalize v.chanCand i = u at *
  rw [hvref] at href
  have hself : u.cand id = c := by
    rw [State.cand, href]
    exact Tab.get_set_self _ _ _ _
  have hother : ∀ j, j ≠ id → u.cand j = s.cand j := fun j hj => by
    rw [State.cand, href]
    exact Tab.get_set_ne _ _ _ _ _ hj
  have hregs : u.regs = s.regs := (hframe .regs rfl).trans (hset .regs rfl)
  have husable : u.candUsable id = true := by
    have hp : u.candPrio id = s.candPrio id := by
      simp only [State.candPrio, State.candSet, State.ap_of_regs hregs, href]
    simp [State.candUsable, hself, hc, hp, hprio]
  have hrest : ∀ j, j ≠ id → u.candUsable j = false := fun j hj =>
    (State.candUsable_of hregs (by rw [href]) (by rw [hother j hj])).trans (hnone j)
  have hut : u.ref.tsel = none := by rw [href]; exact ht
  have huf : u.ref.fsel = none := by rw [href]; exact hf
  have hutstate : u.tcore.tstate = .freerun := (congrArg TcoreState.tstate ((hframe .tcore rfl).trans (hset .tcore rfl))).trans htstate
  have hufollow : u.pair.follow = false := (congrArg PairState.follow ((hframe .pair rfl).trans (hset .pair rfl))).trans hfollow
  have hwf : u.wantedSel false = u.ref.fsel := by
    rw [State.wantedSel_only husable hrest (by rw [State.curSel, if_neg (by decide), huf]), htime, if_neg (by decide), huf]
  have hwt : u.wantedSel true = some id := by
    rw [State.wantedSel_only husable hrest (by rw [State.curSel, if_pos rfl, hut]), htime, if_pos rfl]
  have huid : u.chanId i = id := (State.chanId_of_index ((hframe .index rfl).trans (hset .index rfl)) i).trans hid
  refine ⟨u, ?_, huid ▸ State.selectT_chan hi hut, hufollow, hutstate, ?_, huf, fun j hj => ?_⟩
  · have hdue1 : u.ref.selDue = false := by rw [href]; exact hdue
    rw [hrun]
    dsimp only
    rw [hut, hself, hc, if_neg (by simp), if_pos rfl, State.qualified, hutstate, if_neg (by simp)]
    exact State.reselect_time (by rw [href]; exact hstep) hwf hwt hut hdue1
  · rwa [State.apB, State.ap_of_regs hregs]
  · exact (congrArg (fun l => Tab.get ({} : TChan) l j) (hframe .tchans rfl)).trans (hne j hj)

/-- The one time reference, a channel, times out in a locked part. -/
theorem State.tchanTimeout_holdover {id : Nat} (hid : s.chanId i = id) (hi : i < 4096) (hobj : (s.obj? .tchan i).isSome = true)
    (hst : (s.tchan i).state = .selected) (ht : s.ref.tsel = some id) (hcand : (s.cand id).st = .selected) (hf : s.ref.fsel = none)
    (hstep : s.ref.stepPend = none) (hdue : s.ref.selDue = false) (hnone : ∀ j, j ≠ id → s.candUsable j = false)
    (hfollow : s.pair.follow = false) (htstate : s.tcore.tstate = .locked) (hservo : s.apB Fld.tcoreCtrl_SERVO_EN = true) :
    (s.tchanTimeout i).tchan i = { s.tchan i with state := .lost } ∧ ((s.tchanTimeout i).cand id).st = .failed ∧ (s.tchanTimeout i).ref.tsel = none ∧
      (s.tchanTimeout i).tcore.tstate = .holdover ∧ (s.tchanTimeout i).ref.ep.isSome = true ∧ ∀ j, j ≠ i → (s.tchanTimeout i).tchan j = s.tchan j := by
  have hmod : id % 2 ^ 20 = i := hid ▸ s.chanId_mod hi
  have hchan : candIsChan id = true := hid ▸ s.chanId_isChan hi
  have hrun := State.tchanTimeout_lost hobj (by simp [hst]) (by simp [hst])
  rw [hid] at hrun
  have hset : Touches (evtParts ++ [.tchans]) s (s.setChanSt i .lost) := State.setChanSt_touches s _ _ rfl
  have hself : (s.setChanSt i .lost).tchan i = { s.tchan i with state := .lost } := s.setChanSt_tchan_self i _
  have hne : ∀ j, j ≠ i → (s.setChanSt i .lost).tchan j = s.tchan j := fun j hj => s.setChanSt_tchan_ne i _ hj
  generalize s.setChanSt i .lost = v at *
  have hvref : v.ref = s.ref := hset .ref rfl
  have hvcand : v.cand id = s.cand id := congrArg (fun x : RefState => Tab.get ({} : Cand) x.cands id) hvref
  rw [State.candFail_selectedChan (by rw [hvcand]; exact hcand) (by rw [hvref]; exact ht) hchan] at hrun
  obtain ⟨c, hc, href⟩ := v.failedSel_ref id 5
  obtain ⟨htchans, hregs, htcore, hpair⟩ := v.failedSel_kept id 5
  generalize v.failedSel id 5 = u at *
  rw [hvref] at href
  have hucand : (u.cand id).st = .failed := by
    rw [State.cand, href]
    exact (congrArg Cand.st (Tab.get_set_self _ _ _ _)).trans hc
  have huregs : u.regs = s.regs := hregs.trans (hset .regs rfl)
  have hunone : ∀ j, u.candUsable j = false := fun j => by
    by_cases hj : j = id
    · rw [hj]
      exact State.candUsable_else (by simp [hucand]) (by simp [hucand])
    · refine (State.candUsable_of huregs (by rw [href]) ?_).trans (hnone j hj)
      rw [State.cand, href]
      exact congrArg Cand.st (Tab.get_set_ne _ _ _ _ _ hj)
  have hut : u.ref.tsel = some id := by rw [href]; exact ht
  have hutchan : ∀ j, u.tchan j = v.tchan j := fun j => congrArg (fun l => Tab.get ({} : TChan) l j) htchans
  rw [State.reselect_lost (by rw [href]; exact hstep) (by rw [href]; exact hf) hut (by rw [href]; exact hdue) hunone hucand] at hrun
  obtain ⟨hltchans, hlcands, hltsel, hltstate, hlep⟩ := State.loseT_locked hut hucand (by rw [hmod, hutchan, hself]; simp)
    ((congrArg TcoreState.tstate (htcore.trans (hset .tcore rfl))).trans htstate)
    ((congrArg PairState.follow (hpair.trans (hset .pair rfl))).trans hfollow) (by rwa [State.apB, State.ap_of_regs huregs])
  have hltchan : ∀ j, u.loseT.tchan j = v.tchan j := fun j => (congrArg (fun l => Tab.get ({} : TChan) l j) hltchans).trans (hutchan j)
  rw [hrun]
  refine ⟨(hltchan i).trans hself, ?_, hltsel, hltstate, hlep, fun j hj => (hltchan j).trans (hne j hj)⟩
  rw [State.cand, hlcands]
  exact hucand

/-- The one unplaced channel is placed. -/
theorem State.tchanPlaceRetry_one {e : Nat} (hone : (s.inUse .tchan).filter (fun i => (s.tchan i).engine.isNone) = [i])
    (hplace : s.placeFor i ((s.obj .tchan i).chanLoad (s.tchan i).role) = some e) : s.tchanPlaceRetry =
    (if (s.tchan i).role = 0 then (s.setTchan i { s.tchan i with engine := some e }).setChanSt i .sending
      else s.setTchan i { s.tchan i with engine := some e }) := by
  rw [State.tchanPlaceRetry, hone, List.mergeSort_singleton, List.foldl_cons, List.foldl_nil]
  dsimp only
  rw [hplace]

end Steps

/-- Settles O39: a channel that qualifies or times out changes its candidate, and the selections then take or lose the one time reference; a phase update
changes its own LNK unit alone. -/
theorem timingChannelsAndPhases : Obligations.TimingChannelsAndPhases := by
  unfold Obligations.TimingChannelsAndPhases
  refine ⟨?qualifies, ?disabled, ?lost, ?placed, ?calm, ?slip, ?phaseLost, ?holdEnds⟩
  case qualifies =>
    intro s i hup hi hobj hphase hst hann hsync hrole hen hrank hprio ht hf hstep hdue hnone hfollow htstate hservo
    have hframe := s.tchanQualify_touches (ps := refParts ++ [Part.tchans, .eng]) i rfl
    obtain ⟨id, hid⟩ : ∃ id, s.chanId i = id := ⟨_, rfl⟩
    rw [hid] at hen hrank hprio ⊢
    obtain ⟨u, hrun, hsel, hufollow, hutstate, huservo, huf, hothers⟩ := State.tchanQualify_first hid hi hobj hphase hst hann hsync hrole hen hrank hprio
      ht hf hstep hdue hnone hfollow htstate hservo
    obtain ⟨h1, h2, h3, h4, h5, h6, h7⟩ := State.takeT_freerun hsel hufollow hutstate huservo
    rw [← hrun] at h1 h2 h3 h4 h5 h6 h7
    exact gives_effect rfl hup (decide_eq_true hi)
      ⟨h1, h2, h3, h4.trans huf, h5, h6, fun j hj => (h7 j hj).trans (hothers j hj), hframe.carry⟩
  case disabled =>
    intro s i hup hi hobj hst hcand
    obtain ⟨id, hid⟩ : ∃ id, s.chanId i = id := ⟨_, rfl⟩
    rw [hid] at hcand
    have hrun := State.tchanTimeout_lost hobj (by rcases hst with h | h <;> simp [h]) (by rcases hst with h | h <;> simp [h])
    rw [hid] at hrun
    have hset : Touches (evtParts ++ [.tchans]) s (s.setChanSt i .lost) := State.setChanSt_touches s _ _ rfl
    have hself : (s.setChanSt i .lost).tchan i = { s.tchan i with state := .lost } := s.setChanSt_tchan_self i _
    have hne : ∀ j, j ≠ i → (s.setChanSt i .lost).tchan j = s.tchan j := fun j hj => s.setChanSt_tchan_ne i _ hj
    generalize s.setChanSt i .lost = v at *
    have hvref : v.ref = s.ref := hset .ref rfl
    rw [State.candFail_disabled (by rw [State.cand, hvref]; exact hcand)] at hrun
    exact gives_effect (congrArg (effect (timingChan i) s) hrun) hup (decide_eq_true hi)
      ⟨hself, (congrArg RefState.tsel hvref :), (congrArg RefState.fsel hvref :), hne, ((hset.mono rfl).step ((v.putCand_touches id _).mono rfl)).carry⟩
  case lost =>
    intro s i hup hi hobj hst ht hcand hf hstep hdue hnone hfollow htstate hservo
    have hframe := s.tchanTimeout_touches (ps := refParts ++ [Part.tchans, .eng]) i rfl
    obtain ⟨id, hid⟩ : ∃ id, s.chanId i = id := ⟨_, rfl⟩
    rw [hid] at ht hcand hnone ⊢
    obtain ⟨h1, h2, h3, h4, h5, h6⟩ := State.tchanTimeout_holdover hid hi hobj hst ht hcand hf hstep hdue hnone hfollow htstate hservo
    exact gives_effect rfl hup (decide_eq_true hi) ⟨h1, h2, h3, h4, h5, h6, hframe.carry⟩
  case placed =>
    intro s i e hup hone hplace
    have hrun := State.tchanPlaceRetry_one hone hplace
    have hframe := s.tchanPlaceRetry_touches (ps := evtParts ++ [Part.tchans]) rfl
    have hself : (s.setTchan i { s.tchan i with engine := some e }).tchan i = { s.tchan i with engine := some e } := Tab.get_set_self _ _ _ _
    have hne : ∀ j, j ≠ i → (s.setTchan i { s.tchan i with engine := some e }).tchan j = s.tchan j := fun j hj => Tab.get_set_ne _ _ _ _ _ hj
    generalize s.setTchan i { s.tchan i with engine := some e } = u at *
    have hexec : exec .tchanPlaceRetry s = effect true s s.tchanPlaceRetry := rfl
    generalize s.tchanPlaceRetry = t at *
    have htchan : (t.tchan i = if (s.tchan i).role = 0 then (u.tchan i).become .sending else u.tchan i) ∧ ∀ j, j ≠ i → t.tchan j = u.tchan j := by
      rw [hrun]
      split
      · exact ⟨u.setChanSt_tchan_self i _, fun j hj => u.setChanSt_tchan_ne i _ hj⟩
      · exact ⟨rfl, fun _ _ => rfl⟩
    obtain ⟨hti, htne⟩ := htchan
    rw [hself] at hti
    refine gives_effect hexec hup rfl ⟨?_, fun h => ?_, fun h => ?_, fun j hj => (htne j hj).trans (hne j hj), hframe.carry⟩
    · show (t.tchan i).engine = some e
      rw [hti]
      split <;> rfl
    · show (t.tchan i).state = .sending
      rw [hti, if_pos h]
      rfl
    · show (t.tchan i).state = _
      rw [hti, if_neg h]
  case calm =>
    intro s p phi old hup hp hphi hfresh hoff hst hclose
    have hrun := State.lnkPhaseUpdate_next (phi := phi) hphi hfresh
    rw [if_neg (by omega)] at hrun
    have hset : Touches (evtParts ++ [Part.lnk]) s (s.setLnk p { s.lnkPort p with
      phi := some phi, calm := if (phi - old).natAbs ≤ 20 then min 16 ((s.lnkPort p).calm + 1) else 0 }) := (Touches.refl _ _).set_lnk rfl
    have hself := s.setLnk_lnkPort_self p { s.lnkPort p with
      phi := some phi, calm := if (phi - old).natAbs ≤ 20 then min 16 ((s.lnkPort p).calm + 1) else 0 }
    have hne := fun q hq => s.setLnk_lnkPort_ne (p := p) (q := q) hq { s.lnkPort p with
      phi := some phi, calm := if (phi - old).natAbs ≤ 20 then min 16 ((s.lnkPort p).calm + 1) else 0 }
    have hoff1 : (s.setLnk p { s.lnkPort p with
      phi := some phi, calm := if (phi - old).natAbs ≤ 20 then min 16 ((s.lnkPort p).calm + 1) else 0 }).lnkOff p = false := hoff
    generalize s.setLnk p { s.lnkPort p with
      phi := some phi, calm := if (phi - old).natAbs ≤ 20 then min 16 ((s.lnkPort p).calm + 1) else 0 } = u at *
    obtain ⟨h1, h2, h3, h4⟩ := State.lnkEval_calm hoff1 (by rw [hself]; exact hst)
    rw [State.lnkBetween_idle h3] at hrun
    exact gives_effect (congrArg (effect (lanePort p) s) hrun) hup (decide_eq_true hp)
      ⟨h1.trans (by rw [hself]), h2.trans (by rw [hself]), fun q hq => (u.lnkEval_port_ne hq).trans (hne q hq), (hset.step h4).carry⟩
  case slip =>
    intro s p phi old hup hp hphi hfresh hfar
    have hrun := State.lnkPhaseUpdate_next (phi := phi) hphi hfresh
    rw [if_pos hfar] at hrun
    obtain ⟨h1, h2, h3, h4⟩ := s.lnkSlip_gives p phi
    exact gives_effect (congrArg (effect (lanePort p) s) hrun) hup (decide_eq_true hp) ⟨h1, h4, h2, h3, (s.lnkSlip_touches p phi rfl).carry⟩
  case phaseLost =>
    intro s p phi hup hp
    exact gives_effect rfl hup (decide_eq_true hp)
      ⟨(s.lnkPhiLost_phi p).2, fun q hq => s.lnkPhiLost_port_ne hq, Touches.carry (s.lnkPhiLost_touches p rfl)⟩
  case holdEnds =>
    intro s a hup ha hhold
    have hrun : s.lnkHoldExpire a = (s.setPair a { s.lnkPair a with hold := false }).raise Ev.lnkAsymHold 1 := if_pos hhold
    have hframe := s.pairHoldEnd_touches (ps := evtParts ++ [Part.lnk]) a rfl
    have hlnk : (s.lnkHoldExpire a).lnk = { s.lnk with pairs := Tab.set s.lnk.pairs a { s.lnkPair a with hold := false } } := by
      rw [hrun]
      exact State.raise_touches (ps := Part.others .lnk) _ _ _ _ _ rfl .lnk rfl
    refine gives_effect rfl hup (decide_eq_true ha) ⟨?_, fun q hq => ?_, (congrArg LnkState.ports hlnk :), hframe.carry⟩
    · exact (congrArg (fun l : LnkState => Tab.get ({} : LnkPair) l.pairs a) hlnk).trans (Tab.get_set_self _ _ _ _)
    · exact (congrArg (fun l : LnkState => Tab.get ({} : LnkPair) l.pairs q) hlnk).trans (Tab.get_set_ne _ _ _ _ _ hq)

end Sys2Proof.Machine
end

section
/-! ## What a commit and a SEC point leave alone (R31, R101, R371, R378) -/

set_option Elab.async false

namespace Sys2Proof.Machine

/-- The parts in which a commit shows, beside the clock and the time cores. -/
abbrev secQuiet : List Part :=
  evtParts ++ [.keys, .regs, .index, .objs, .lanes, .grps, .sw, .fab, .bpm, .fdb, .tchans, .lnk, .ref, .free, .pll, .tic, .cal, .eng, .pair,
    .pwr, .boot, .counters]

/-- `R` holds across a commit: across a change of REF, and across whatever leaves the clock and the time cores alone. -/
structure SecClosed (R : State → State → Prop) : Prop extends RefClosed R where
  calm : ∀ {s t}, Touches secQuiet s t → R s t

namespace SecClosed

variable {R : State → State → Prop} (h : SecClosed R)
include h

/-! ### Lanes that lose their lock -/

theorem portChansLost (s : State) (p : Nat) : R s (s.portChansLost p) :=
  h.toRefClosed.foldl (fun t i => RefClosed.ite (h.refl t) (h.toRefClosed.chanLost t i)) _ s

theorem laneWithdraw (s : State) (n : Nat) : R s (s.laneWithdraw n) :=
  RefClosed.ite (h.trans (h.calm (State.setLane_touches s n _ rfl)) (h.toRefClosed.candFail _ n 1)) (h.refl s)

theorem laneUnlock (s : State) (n : Nat) : R s (s.laneUnlock n) := by
  unfold State.laneUnlock
  extract_lets l s1 p
  refine RefClosed.ite (h.refl s) ?_
  have h1 : R s s1 := h.calm (State.setLane_touches s n _ rfl)
  have h2 : R (s1.laneWithdraw n) (((s1.laneWithdraw n).lnkPhiLost n).portLoss p) :=
    h.calm ((State.lnkPhiLost_touches _ n rfl).step (State.portLoss_touches _ p rfl))
  exact h.trans (h.trans h1 (h.laneWithdraw s1 n)) (h.trans h2 (h.portChansLost _ p))

theorem laneStop (s : State) (n : Nat) : R s (s.laneStop n) := by
  unfold State.laneStop
  extract_lets s1
  have h1 : R s s1 := h.trans (h.laneUnlock s n) (h.calm (State.lnkPhiLost_touches _ n rfl))
  exact h.trans h1 (h.calm (State.setLane_touches s1 n _ rfl))

theorem retrain (s : State) (n : Nat) : R s (s.retrain n) := by
  unfold State.retrain
  extract_lets s1
  have h1 : R s s1 := h.trans (h.laneUnlock s n) (h.calm (State.laneIdl_touches _ n rfl))
  exact RefClosed.ite (h.refl s) (h.trans h1 (h.calm (State.setLane_touches s1 n _ rfl)))

theorem quadChange (s : State) (g q : Nat) (w : Word) : R s (s.quadChange g q w) := by
  unfold State.quadChange
  extract_lets k l s1 _ s2
  have h1 : R s s1 := h.toRefClosed.foldl (fun t n => h.laneStop t n) l s
  have h2 : R s1 s2 := h.calm ((Touches.refl _ s1).set_regs rfl)
  clear_value s2
  exact h.trans (h.trans h1 h2) (h.toRefClosed.foldl (fun t n => RefClosed.ite (h.refl t)
    (h.trans (h.calm (State.setLane_touches t n _ rfl)) (h.retrain _ n))) l s2)

/-! ### The words of a commit -/

theorem commitGrpMode (s : State) (g : Nat) : R s (s.commitGrpMode g) := by
  unfold State.commitGrpMode
  extract_lets k s1 cur new
  have h1 : R s s1 := h.calm (State.grpModeCheck_touches s g rfl)
  clear_value s1
  exact RefClosed.ite (h.trans h1 (h.calm (State.setGrp_touches s1 g _ rfl)))
    (h.trans h1 (h.toRefClosed.foldl (fun t q => RefClosed.ite (h.refl t) (h.quadChange t g q new)) _ s1))

/-- Of the words of a commit, the mode of a lane group alone reaches beyond its registers. -/
theorem commitWord (s : State) (k : RegKey) : R s (s.commitWord k) := by
  unfold State.commitWord
  extract_lets t
  have ht : R s t := h.calm (State.copyBits_touches _ _ _ rfl)
  have hk : ∀ e a b, R s (s.keepWord k e a b) := fun e a b => h.calm (State.keepWord_touches _ _ _ _ _ rfl)
  have hc : R s (s.capNext k) := h.calm (State.capNext_touches _ _ rfl)
  split
  · exact h.commitGrpMode s k.i
  · exact hc
  · exact hc
  · exact RefClosed.ite (hk _ _ _) ht
  · exact RefClosed.ite (hk _ _ _) ht
  · exact RefClosed.ite (hk _ _ _) ht
  · exact ht

/-! ### The pair -/

theorem stopFollow (s : State) : R s s.stopFollow := by
  unfold State.stopFollow
  split
  · exact h.refl s
  extract_lets _ s1 _ e s2
  have h1 : R s s1 := h.calm ((Touches.refl _ s).set_pair rfl)
  clear_value s1
  have hep : ∀ x : RefState, R s { s1 with ref := x } := fun x => h.trans h1 (h.calm ((Touches.refl _ s1).set_ref rfl))
  split
  · exact h.trans (hep _) (h.trans (h.toRefClosed.setTstate _ .locked _) (h.toRefClosed.updateClass _))
  · refine RefClosed.ite (h.trans (hep _) (h.trans (h.toRefClosed.raise _ _ _ _ _) (h.toRefClosed.updateClass _))) ?_
    have h2 : R s s2 := h.trans (hep _) (h.toRefClosed.setTstate _ .holdover _)
    clear_value s2
    exact RefClosed.ite h2 (h.trans h2 (h.calm ((Touches.refl _ s2).set_ref rfl)))

/-- The time state of the primary is shown: no core, no step and no swap changes. -/
theorem showMirror (s : State) (t : TimeStateRec) : R s (s.showMirror t) := by
  unfold State.showMirror
  extract_lets st q s1 u
  have h1 : R s s1 := h.calm (State.raiseIf_touches _ _ _ _ _ _ rfl)
  have hraise : s1.tcore = s.tcore := State.raiseIf_touches (ps := Part.others .tcore) _ _ _ _ _ _ rfl .tcore rfl
  clear_value s1
  have hcore : R s1 { s1 with tcore := { s.tcore with tstate := st, acqFromFree := decide (st = .acquire) && q.cls == 248 } } := by
    rw [← hraise]
    exact h.tstate s1 _ rfl rfl rfl rfl rfl rfl
  exact h.trans (h.trans h1 (h.trans hcore (h.calm ((Touches.refl _ _).set_ref rfl)))) (h.quality _ q)

theorem startFollow (s : State) : R s s.startFollow := by
  unfold State.startFollow
  split
  · exact h.refl s
  extract_lets s0 _ _ _ s1
  have h0 : R s s0 := RefClosed.ite (h.refl s) (h.toRefClosed.startThaw s)
  clear_value s0
  have h1 : R s0 s1 := h.trans (h.tstate s0 s1.tcore rfl rfl rfl rfl rfl rfl)
    (h.calm (((Touches.refl _ { s0 with tcore := s1.tcore }).set_pair rfl).set_ref rfl))
  clear_value s1
  split
  · exact h.trans (h.trans h0 h1) (h.showMirror s1 _)
  · exact h.trans h0 h1

theorem goPair (s : State) (st : PairSt) : R s (s.goPair st) := by
  unfold State.goPair
  split
  · exact h.refl s
  extract_lets s1 cut p s2 s3
  have h1 : R s s1 := RefClosed.ite (h.trans (h.stopFollow s) (h.calm (State.rehearseAbort_touches _ rfl))) (h.refl s)
  clear_value s1
  have h3 : R s s3 := h.trans h1 (h.calm (((Touches.refl _ s1).set_pair rfl : Touches _ s1 s2).step (State.raise_touches _ _ _ _ _ rfl)))
  clear_value s3
  exact RefClosed.ite (h.trans h3 (h.calm (State.unmirror_touches s3 rfl))) (RefClosed.ite (h.trans h3 (h.startFollow s3)) h3)

theorem pairPromote (s : State) (cause : Nat) (good : Bool) : R s (s.pairPromote cause good) := by
  unfold State.pairPromote
  extract_lets _ s1
  have h1 : R s s1 := by
    have hrest : ∀ u : State, R u ((u.stopFollow.rehearseAbort.unmirror).resyncDrop) := fun u => h.trans (h.stopFollow u)
      (h.calm (((State.rehearseAbort_touches _ rfl).step (State.unmirror_touches _ rfl)).step (State.resyncDrop_touches _ rfl)))
    exact h.trans (h.calm ((Touches.refl _ s).set_pair rfl)) (hrest _)
  clear_value s1
  exact h.trans h1 (h.calm ((State.bump_touches s1 _ _ _ rfl).step (State.raise_touches _ _ _ _ _ rfl)))

theorem pairAlone (s : State) : R s s.pairAlone := by
  unfold State.pairAlone
  extract_lets good s1
  have h1 : R s s1 := h.goPair s .alone
  exact RefClosed.ite (h.trans h1 (h.pairPromote s1 0 good)) h1

theorem resyncStart (s : State) : R s s.resyncStart := by
  unfold State.resyncStart
  extract_lets n s1 s2
  have h1 : R s s1 := h.toRefClosed.foldl (fun t k => RefClosed.ite (h.refl t) (h.calm (State.fdbRemove_touches t _ _ rfl))) _ s
  have h2 : R s s2 := h.trans (h.trans h1 (h.toRefClosed.foldl (fun t i => h.calm (State.flowKill_touches t i rfl)) _ s1)) (h.goPair _ .resync)
  clear_value s2
  have hset : ∀ (u : State) (x : PairState) (y : SwState), R u { u with pair := x, sw := y } := fun u x y =>
    h.trans (t := { u with pair := x }) (h.calm ((Touches.refl _ u).set_pair rfl)) (h.calm ((Touches.refl _ { u with pair := x }).set_sw rfl))
  exact h.trans h2 (hset s2 _ _)

theorem pairStandby (s : State) : R s s.pairStandby := h.trans (h.calm ((Touches.refl _ s).set_pair rfl)) (h.resyncStart _)

theorem pairCompare (s : State) : R s s.pairCompare :=
  RefClosed.ite (h.resyncStart s) (RefClosed.ite (h.pairStandby s) (h.goPair s .synced))

theorem pairPaths (s : State) : R s s.pairPaths := by
  have hcut : R s (if s.pair.inb.lost then s.pairAlone else s.goPair .isolated) := RefClosed.ite (h.pairAlone s) (h.goPair s .isolated)
  unfold State.pairPaths
  extract_lets cut
  split
  · exact RefClosed.ite hcut (h.refl s)
  · exact RefClosed.ite hcut (h.refl s)
  · exact RefClosed.ite (RefClosed.ite (h.resyncStart s) (h.goPair s .synced)) (RefClosed.ite (h.pairAlone s) (h.refl s))
  · exact RefClosed.ite (h.pairCompare s) (h.refl s)
  · exact h.refl s

theorem pairCommit (s : State) : R s s.pairCommit := by
  have hset : ∀ (t : State) (x : PairState), R t { t with pair := x } := fun t x => h.calm ((Touches.refl _ t).set_pair rfl)
  unfold State.pairCommit
  split
  · extract_lets _ s1 s2
    have hrest : ∀ u : State, R u ((u.goPair .off).unmirror.resyncDrop) := fun u =>
      h.trans (h.goPair u .off) (h.calm ((State.unmirror_touches _ rfl).step (State.resyncDrop_touches _ rfl)))
    have h2 : R s s2 := h.trans (hset s _) (hrest _)
    clear_value s2
    exact RefClosed.ite (h.refl s) (h.trans h2 (hset s2 _))
  · extract_lets _ s1
    have h1 : R s s1 := RefClosed.ite (h.refl s) (hset s _)
    clear_value s1
    exact RefClosed.ite (h.trans h1 (h.goPair s1 .search)) (h.trans h1 (h.pairPaths s1))

/-! ### COMMIT and the SEC point -/

theorem commit (s : State) : R s s.commit := by
  unfold State.commit
  extract_lets ks s1 _ s2
  have h1 : R s s1 := h.trans (h.calm (State.pllCommitPre_touches s ks rfl)) (h.toRefClosed.foldl (fun t k => h.commitWord t k) ks _)
  clear_value s1
  have h2 : R s s2 := h.trans h1 (h.calm ((Touches.refl _ s1).set_regs rfl))
  clear_value s2
  have h3 : R s2 (((s2.pllCommitPost s).pairsEval true).lnkEvalAll) :=
    h.calm (((State.pllCommitPost_touches s2 s rfl).step (State.pairsEval_touches _ true rfl)).step (State.lnkEvalAll_touches _ rfl))
  exact h.trans (h.trans (h.trans h2 h3) (h.pairCommit _)) (h.calm ((State.causesClear_touches _ rfl).step (State.xoffUpdate_touches _ rfl)))

theorem secPoint (s : State) : R s s.secPoint := by
  unfold State.secPoint
  extract_lets s1 s2 s3
  have h1 : R s s1 := RefClosed.ite (h.commit s) (h.refl s)
  have h2 : R s1 s2 := h.calm (State.applyAt_touches s1 .sec _ rfl)
  have h3 : R s2 s3 := h.toRefClosed.foldl (fun t p => h.calm (State.calBoundary_touches t 3 p rfl)) _ s2
  exact h.trans (h.trans (h.trans h1 h2) (h.trans h3 (h.toRefClosed.updateClass s3)))
    (h.calm ((State.pllSec_touches _ rfl).step (State.beacon_touches _ rfl)))

end SecClosed

/-! ### The cores at a SEC point -/

/-- Of the clock, the rate alone may change. -/
def RateOnly (s t : State) : Prop := ∃ r, t.clk = { s.clk with rate := r }

theorem RateOnly.of_clk {s t : State} (h : t.clk = s.clk) : RateOnly s t := ⟨s.clk.rate, h⟩

theorem refClosed_rateOnly : RefClosed RateOnly where
  refl s := RateOnly.of_clk rfl
  trans := by
    rintro s t u ⟨r, h⟩ ⟨r', h'⟩
    exact ⟨r', by rw [h', h]⟩
  quiet h := RateOnly.of_clk (h .clk rfl)
  ref _ _ _ := RateOnly.of_clk rfl
  chan s i st := RateOnly.of_clk (State.setChanSt_touches (ps := Part.others .clk) s i st rfl .clk rfl)
  quality s q := RateOnly.of_clk (State.setQuality_touches (ps := Part.others .clk) s q rfl .clk rfl)
  tstate _ _ _ _ _ _ _ _ := RateOnly.of_clk rfl
  rate s r := ⟨_, rfl⟩

theorem secClosed_rateOnly : SecClosed RateOnly where
  toRefClosed := refClosed_rateOnly
  calm h := RateOnly.of_clk (h .clk rfl)

end Sys2Proof.Machine
end

section
/-! ## The settings of candidates, and registers that a rule of REF stores (R253, R258, R263, R273) -/

set_option Elab.async false

namespace Sys2Proof.Machine

/-! ### What a change of a candidate's settings leaves -/

namespace RefClosed

variable {R : State → State → Prop} (h : RefClosed R)
include h

theorem candPass (s : State) (id : Nat) : R s (s.candPass id) := by
  unfold State.candPass
  extract_lets c _ t _ u
  have ht : R s t := h.ref s _ (by rfl)
  have hu : R s u := RefClosed.ite (h.trans ht (h.ref t _ (by rfl))) ht
  clear_value c u t
  split
  · exact h.trans ht (h.setCandSt t _ _ _)
  · exact RefClosed.ite (h.trans ht (h.setCandSt t _ _ _)) ht
  · exact h.trans hu (h.trans (h.quiet (State.bump_touches u _ _ _ rfl)) (h.setCandSt _ _ _ _))
  · exact ht

theorem recheck (s : State) (id : Nat) : R s (s.recheck id) :=
  RefClosed.ite (h.candFail s id _) (RefClosed.ite (h.candPass s id) (h.refl s))

theorem candEnable (s : State) (id : Nat) : R s (s.candEnable id) := by
  unfold State.candEnable
  extract_lets c
  exact RefClosed.ite (h.refl s) (RefClosed.ite (RefClosed.ite (h.refl s) (h.trans (h.setCandSt s _ _ _) (h.reselect _)))
    (RefClosed.ite (h.setCandSt s _ _ _) (h.refl s)))

theorem chanCand (s : State) (i : Nat) : R s (s.chanCand i) := by
  have hset : ∀ (t : State) (st : CandSt) (cause : Nat), R t (t.setCandSt (s.chanId i) st cause) := fun t st cause => h.setCandSt t _ st cause
  have hfail : R s (if (s.cand (s.chanId i)).st = .qualifying then s.candFail (s.chanId i) 3
      else if (s.cand (s.chanId i)).st = .failed then s else s.setCandSt (s.chanId i) .failed 3) :=
    RefClosed.ite (h.candFail s _ 3) (RefClosed.ite (h.refl s) (hset s _ _))
  unfold State.chanCand
  extract_lets id st
  refine RefClosed.ite (h.refl s) (RefClosed.ite (RefClosed.ite (h.refl s) (hset s _ _)) ?_)
  split
  · exact RefClosed.ite (h.refl s) (RefClosed.ite (hset s _ _) hfail)
  · exact RefClosed.ite (h.refl s) (RefClosed.ite (h.trans (RefClosed.ite (h.refl s) (hset s _ _)) (hset _ _ _)) hfail)
  · exact RefClosed.ite (hset s _ _) (h.refl s)
  · exact h.refl s

theorem candChanged (s : State) (id : Nat) : R s (s.candChanged id) := by
  unfold State.candChanged
  extract_lets s2 drop s3
  have h2 : R s s2 := h.trans (RefClosed.ite (h.chanCand s _) (h.candEnable s id)) (h.recheck _ id)
  have h3 : R s s3 := RefClosed.ite (h.trans h2 (h.setCandSt s2 _ _ _)) h2
  clear_value s3
  exact h.trans h3 (h.trans (h.reselect s3) (h.updateClass _))

end RefClosed

/-- A change of REF keeps the settings of the handles. -/
theorem refClosed_sets : RefClosed (fun s t => t.ref.sets = s.ref.sets) where
  refl _ := rfl
  trans h g := g.trans h
  quiet h := congrArg RefState.sets (h .ref rfl)
  ref _ _ h := h
  chan s i st := congrArg RefState.sets (State.setChanSt_touches (ps := Part.others .ref) s i st rfl .ref rfl)
  quality s q := congrArg RefState.sets (State.setQuality_touches (ps := Part.others .ref) s q rfl .ref rfl)
  tstate _ _ _ _ _ _ _ _ := rfl
  rate _ _ := rfl

/-! ### Registers of IMM fields whose write a rule stores -/

section Stored

variable {s : State} {k : RegKey} (hk : k.immediate) (hw : s.Writable k) (v : Word)
include hk hw

/-- What a write of a register of IMM fields leaves in its two copies. -/
theorem State.storeReg_copies : Stored k allBits ((s.written k &&& ~~~ k.storedMask) ||| (v &&& k.storedMask)) s (s.storeReg k v allBits) ∧
    (s.storeReg k v allBits).stored k = ((s.stored k &&& ~~~ k.storedMask) |||
      (((s.written k &&& ~~~ k.storedMask) ||| (v &&& k.storedMask)) &&& k.storedMask)) := by
  obtain ⟨-, -, hdown, -⟩ := hw
  rw [State.immediate_storeReg hk hdown]
  have hstored : Stored k allBits ((s.written k &&& ~~~ k.storedMask) ||| (v &&& k.storedMask)) s { s with regs := s.regsAfterWrite k v allBits } :=
    State.stored_regsAfterWrite hdown (by rw [allBits_and])
  refine ⟨hstored, ?_⟩
  obtain ⟨-, hvalue, -⟩ := hstored
  rwa [RegKey.immediate_mask hk] at hvalue

theorem State.storeReg_stopped : (s.storeReg k v allBits).regs.stopped = s.regs.stopped := by
  obtain ⟨-, -, hdown, hrun⟩ := hw
  rw [State.immediate_storeReg hk hdown]
  refine List.filter_eq_self.mpr fun x hx => decide_eq_true fun hkey => ?_
  rw [List.contains_eq_mem, decide_eq_false_iff_not] at hrun
  exact hrun (hkey ▸ hx)

end Stored

/-- A field of another register reads as it read, while the same instances are stopped. -/
theorem State.ap_of_otherRegs {s t : State} {k : RegKey} {f : FieldRef} {i j : Nat} (h : OtherRegs k s t) (hstop : t.regs.stopped = s.regs.stopped)
    (hk : (⟨f.reg, i, j⟩ : RegKey) ≠ k) : t.ap f i j = s.ap f i j := by
  rw [State.ap, State.ap, State.applied, State.applied, hstop, (h _ hk).2]

/-- A register of IMM fields that fill it holds what is written. -/
theorem merge_all (a v : Word) : (a &&& ~~~(0xFFFFFFFF : Word)) ||| (v &&& 0xFFFFFFFF) = v := by
  have hall : (0xFFFFFFFF : Word) = BitVec.allOnes 32 := rfl
  rw [hall, BitVec.and_allOnes, BitVec.not_allOnes, BitVec.and_zero, BitVec.zero_or]

end Sys2Proof.Machine
end

section
/-! ## Holdover, its model and the commands of REF (O41: R253, R258, R261 to R265, R267, R273) -/

set_option Elab.async false

namespace Sys2Proof.Machine

/-! ### A second of holdover -/

theorem State.budgetCheck_ref (s : State) (e : Episode) :
    (s.budgetCheck e).ref = { s.ref with budgetOver := s.ref.budgetOver || decide (s.ap Fld.refHoCfg_BUDGET * 172800000 < e.e) } := by
  unfold State.budgetCheck
  split
  · next h =>
    have hsame : (s.ref.budgetOver || decide (s.ap Fld.refHoCfg_BUDGET * 172800000 < e.e)) = s.ref.budgetOver := by
      rcases h with h | h
      · rw [h, Bool.true_or]
      · rw [decide_eq_false (Nat.not_lt.mpr h), Bool.or_false]
    rw [hsame]
  · next h =>
    obtain ⟨-, hover⟩ := not_or.mp h
    rw [decide_eq_true (Nat.lt_of_not_le hover), Bool.or_true, State.updateClass_ref]
    have hquiet : Touches (evtParts ++ [.pwr, .rc .pwrWakeSrc]) ({ s with ref := { s.ref with budgetOver := true } } : State)
        ((({ s with ref := { s.ref with budgetOver := true } } : State).raise Ev.refBudget e.errNs).wakeEvent 4) :=
      (State.raise_touches _ _ _ _ _ rfl).step (State.wakeEvent_touches _ _ rfl)
    exact hquiet .ref rfl

/-- The episode one second on. -/
def Episode.next (e : Episode) (s : State) : Episode := { e with e := e.e + s.hoSlope e, t := e.t + 1, stage := s.hoStage (e.t + 1) }

/-- What a second of holdover leaves: the episode one second on, its budget looked at, and the rate of its stage. -/
theorem State.holdoverTick_gives {s : State} {e : Episode} (temp : Int) (hst : s.tcore.tstate = .holdover) (hfollow : s.pair.follow = false)
    (hep : s.ref.ep = some e) :
    (s.holdoverTick temp).ref = { s.ref with
      dieTemp := temp, ep := some (e.next { s with ref := { s.ref with dieTemp := temp } })
      budgetOver := s.ref.budgetOver || decide (s.ap Fld.refHoCfg_BUDGET * 172800000 < (e.next { s with ref := { s.ref with dieTemp := temp } }).e) } ∧
    RateOnly s (s.holdoverTick temp) := by
  unfold State.holdoverTick
  extract_lets _ u
  have hu : u = { s with ref := { s.ref with dieTemp := temp } } := rfl
  rw [← hu]
  have href : u.ref = { s.ref with dieTemp := temp } := rfl
  have hclk : u.clk = s.clk := rfl
  have hap : u.ap Fld.refHoCfg_BUDGET = s.ap Fld.refHoCfg_BUDGET := rfl
  have hst1 : u.tcore.tstate = .holdover := hst
  have hfollow1 : u.pair.follow = false := hfollow
  clear_value u
  rw [if_neg (by simp [hst1, hfollow1])]
  split
  · next h => rw [href] at h; exact absurd (hep.symm.trans h) (by simp)
  · next e' h =>
    rw [href] at h
    obtain rfl : e = e' := Option.some.inj (hep.symm.trans h)
    extract_lets e1 s1 s2 s3
    have h2 : Touches evtParts s1 s2 := State.raiseIf_touches s1 _ _ _ _ _ rfl
    have h3 : s3.ref = s2.ref ∧ s3.regs = s2.regs ∧ RateOnly s2 s3 := by
      unfold s3
      split
      · exact ⟨rfl, rfl, ⟨_, rfl⟩⟩
      · exact ⟨rfl, rfl, RateOnly.of_clk rfl⟩
    have h1 : s1.ref = { u.ref with ep := some (e.next u) } := rfl
    have hclk1 : s1.clk = s.clk := hclk
    have hregs1 : s1.regs = u.regs := rfl
    have he1 : e1 = e.next u := rfl
    clear_value s3 s2 s1 e1
    obtain ⟨href3, hregs3, hrate3⟩ := h3
    have hclk2 : s2.clk = s.clk := (h2 .clk rfl).trans hclk1
    have hbudget : s3.ap Fld.refHoCfg_BUDGET = s.ap Fld.refHoCfg_BUDGET :=
      (State.ap_of_regs (hregs3.trans ((h2 .regs rfl).trans hregs1)) _ _ _).trans hap
    constructor
    · rw [(State.timeStateOut_kept _).ref, State.budgetCheck_ref, hbudget, href3, h2 .ref rfl, h1, href, he1]
    · obtain ⟨r, hr⟩ := hrate3
      refine ⟨r, ?_⟩
      have hquiet : ((s3.budgetCheck e1).timeStateOut).clk = s3.clk :=
        ((State.budgetCheck_touches s3 e1 rfl).step (State.timeStateOut_touches _ rfl) : Touches (Part.others .clk) s3 _) .clk rfl
      rw [hquiet, hr, hclk2]

/-! ### Registers of REF whose write acts -/

section Pref

variable {s : State} {v : Word}

theorem refTempExt_immediate : (⟨.refTempExt, 0, 0⟩ : RegKey).immediate := by
  unfold RegKey.immediate
  decide

theorem refTempExt_storedMask : (⟨.refTempExt, 0, 0⟩ : RegKey).storedMask = 0xFFFF := by decide

/-- The register of a preferred candidate. -/
def prefKey (freq : Bool) : RegKey := ⟨if freq then .refPrefF else .refPrefT, 0, 0⟩

theorem prefKey_immediate (freq : Bool) : (prefKey freq).immediate := by
  unfold RegKey.immediate
  cases freq <;> decide

theorem prefKey_storedMask (freq : Bool) : (prefKey freq).storedMask = 0xFFFFFFFF := by cases freq <;> decide
theorem prefKey_owns (freq : Bool) : (prefKey freq).name.owns = true := by cases freq <;> rfl

theorem State.regOwn_pref (freq : Bool) : s.regOwn .pcie (prefKey freq) v allBits = some (s.prefWrite freq v allBits) := by
  cases freq <;> rfl

variable {freq : Bool} (hw : s.Writable (prefKey freq))
include hw

/-- The preference is stored whole. -/
theorem State.storeReg_pref : (s.storeReg (prefKey freq) v allBits).written (prefKey freq) = v ∧
    (s.storeReg (prefKey freq) v allBits).stored (prefKey freq) = v ∧ OtherRegs (prefKey freq) s (s.storeReg (prefKey freq) v allBits) ∧
    (s.storeReg (prefKey freq) v allBits).regs.stopped = s.regs.stopped ∧ Touches [.regs] s (s.storeReg (prefKey freq) v allBits) := by
  obtain ⟨⟨hwritten, -, -, hothers, hframe⟩, hstored⟩ := State.storeReg_copies (prefKey_immediate freq) hw v
  rw [prefKey_storedMask, merge_all] at hwritten
  rw [prefKey_storedMask, merge_all, merge_all] at hstored
  exact ⟨hwritten, hstored, hothers, State.storeReg_stopped (prefKey_immediate freq) hw v, hframe⟩

/-- The preferred candidate of a class counts anew (R258). -/
def State.prefArmed (s : State) (freq : Bool) : State :=
  { s with ref := if freq then { s.ref with armF := true } else { s.ref with armT := true } }

omit hw in
theorem State.prefWrite_eq : s.prefWrite freq v allBits =
    (if (s.storeReg (prefKey freq) v allBits).prefBad ((s.storeReg (prefKey freq) v allBits).written (prefKey freq)).toNat then
      ((s.storeReg (prefKey freq) v allBits).bothCopies (prefKey freq) (s.stored (prefKey freq))).raise Ev.refCfgBad (prefKey freq).addr
        ((s.storeReg (prefKey freq) v allBits).written (prefKey freq)).toNat
    else ((s.storeReg (prefKey freq) v allBits).prefArmed freq).reselect) := by
  cases freq <;> rfl

omit hw in
theorem State.prefBad_of {t : State} (hobjs : t.objs = s.objs) (hindex : t.index = s.index) (n : Nat) : t.prefBad n = s.prefBad n := by
  have hstale : t.stale .tchan (BitVec.ofNat 32 n) = s.stale .tchan (BitVec.ofNat 32 n) := by
    rw [State.stale, State.stale, State.obj?, State.obj?, State.gen, State.gen, State.indexTab, State.indexTab, hobjs, hindex]
  rw [State.prefBad, State.prefBad, State.candKnown, State.candKnown, hstale]

/-- A preference that names a candidate counts anew. -/
theorem State.prefWrite_good (hgood : s.prefBad v.toNat = false) :
    s.prefWrite freq v allBits = ((s.storeReg (prefKey freq) v allBits).prefArmed freq).reselect := by
  obtain ⟨hwritten, -, -, -, hframe⟩ := State.storeReg_pref (v := v) hw
  rw [State.prefWrite_eq, hwritten, State.prefBad_of (hframe .objs rfl) (hframe .index rfl), hgood, if_neg Bool.false_ne_true]

/-- One that names none keeps what was applied. -/
theorem State.prefWrite_bad (hbad : s.prefBad v.toNat = true) :
    (s.prefWrite freq v allBits).stored (prefKey freq) = s.stored (prefKey freq) ∧ OtherRegs (prefKey freq) s (s.prefWrite freq v allBits) ∧
      Touches (evtParts ++ [Part.regs]) s (s.prefWrite freq v allBits) := by
  obtain ⟨hwritten, -, hothers, -, hframe⟩ := State.storeReg_pref (v := v) hw
  have hname : (prefKey freq).name ≠ .laneGrpMode := by cases freq <;> simp [prefKey]
  rw [State.prefWrite_eq, hwritten, State.prefBad_of (hframe .objs rfl) (hframe .index rfl), hbad, if_pos rfl]
  generalize s.storeReg (prefKey freq) v allBits = u at *
  have hraise : Touches evtParts (u.bothCopies (prefKey freq) (s.stored (prefKey freq)))
      ((u.bothCopies (prefKey freq) (s.stored (prefKey freq))).raise Ev.refCfgBad (prefKey freq).addr v.toNat) := State.raise_touches _ _ _ _ _ rfl
  refine ⟨?_, ?_, ?_⟩
  · rw [State.stored_of_regs (hraise .regs rfl)]
    exact u.bothCopies_stored _ _
  · exact (hothers.trans (u.bothCopies_others _ _ hname)).of_regs (hraise .regs rfl)
  · exact ((hframe.mono rfl).step ((Touches.refl _ _).set_regs rfl)).step (hraise.mono rfl)

end Pref

/-! ### The settings of a candidate -/

section CandSet

variable {s : State}

/-- The two copies of a candidate's settings. -/
def State.putCandCfg (s : State) (id fl ovr prio : Nat) : State :=
  (((s.putBoth Fld.refCandCfg_EN (fl % 2) id).putBoth Fld.refCandCfg_QL_OVR_EN (fl / 2) id).putBoth Fld.refCandCfg_QL_OVR ovr id).putBoth
    Fld.refCandCfg_PRIO prio id

/-- The settings of a handle. -/
def State.putCandSet (s : State) (id fl ovr prio : Nat) : State :=
  { s with ref := { s.ref with sets := Tab.set s.ref.sets id { en := bitAt fl 0, ovrEn := bitAt fl 1, ovr := ovr, prio := prio } } }

/-- The settings of a candidate, wherever they stand. -/
def State.putCandSettings (s : State) (id fl ovr prio : Nat) : State :=
  if id < 103 then s.putCandCfg id fl ovr prio else s.putCandSet id fl ovr prio

/-- The candidate reads as it is set. -/
def State.CandReads (s : State) (id fl ovr prio : Nat) : Prop :=
  s.candEn id = bitAt fl 0 ∧ s.candPrio id = prio ∧ s.candOvr id = (if bitAt fl 1 then some ovr else none)

theorem State.CandReads.of {t : State} {id fl ovr prio : Nat} (h : s.CandReads id fl ovr prio) (hregs : t.regs = s.regs)
    (hsets : t.ref.sets = s.ref.sets) : t.CandReads id fl ovr prio := by
  simp only [State.CandReads, State.candEn, State.candPrio, State.candOvr, State.candSet, State.apB, State.ap_of_regs hregs, hsets] at h ⊢
  exact h

theorem State.putCandSet_reads {id fl ovr prio : Nat} (hid : ¬ id < 103) : (s.putCandSet id fl ovr prio).CandReads id fl ovr prio := by
  have hset : (s.putCandSet id fl ovr prio).candSet id = { en := bitAt fl 0, ovrEn := bitAt fl 1, ovr := ovr, prio := prio } := Tab.get_set_self _ _ _ _
  simp only [State.CandReads, State.candEn, State.candPrio, State.candOvr, hid, if_false, hset, and_self]

theorem State.putCandCfg_stored (id fl ovr prio : Nat) : (s.putCandCfg id fl ovr prio).stored ⟨.refCandCfg, id, 0⟩ =
    putField (putField (putField (putField (s.stored ⟨.refCandCfg, id, 0⟩) Fld.refCandCfg_EN.lo Fld.refCandCfg_EN.width (fl % 2))
      Fld.refCandCfg_QL_OVR_EN.lo Fld.refCandCfg_QL_OVR_EN.width (fl / 2)) Fld.refCandCfg_QL_OVR.lo Fld.refCandCfg_QL_OVR.width ovr)
      Fld.refCandCfg_PRIO.lo Fld.refCandCfg_PRIO.width prio := by
  have hput : ∀ (u : State) (f : FieldRef) (x : Nat), f.reg = .refCandCfg →
      (u.putBoth f x id).stored ⟨.refCandCfg, id, 0⟩ = putField (u.stored ⟨.refCandCfg, id, 0⟩) f.lo f.width x := fun u f x hf =>
    hf ▸ u.putBoth_stored f x id 0
  rw [State.putCandCfg, hput _ _ _ rfl, hput _ _ _ rfl, hput _ _ _ rfl, hput _ _ _ rfl]

theorem State.putCandCfg_reads {id fl ovr prio : Nat} (hid : id < 103) (hrun : s.regs.stopped.contains ⟨.refCandCfg, id, 0⟩ = false)
    (hfl : fl < 4) (hovr : ovr ≤ 15) (hprio : prio ≤ 15) : (s.putCandCfg id fl ovr prio).CandReads id fl ovr prio := by
  have happlied : (s.putCandCfg id fl ovr prio).applied ⟨.refCandCfg, id, 0⟩ = (s.putCandCfg id fl ovr prio).stored ⟨.refCandCfg, id, 0⟩ := by
    have hstopped : (s.putCandCfg id fl ovr prio).regs.stopped = s.regs.stopped := rfl
    rw [State.applied, hstopped, hrun]
    exact if_neg (fun h => Bool.false_ne_true h.1)
  have hap : ∀ f : FieldRef, f.reg = .refCandCfg →
      (s.putCandCfg id fl ovr prio).ap f id = fieldOf ((s.putCandCfg id fl ovr prio).stored ⟨.refCandCfg, id, 0⟩) f.lo f.width := fun f hf => by
    rw [State.ap, hf, happlied]
  have hen : (s.putCandCfg id fl ovr prio).ap Fld.refCandCfg_EN id = fl % 2 := by
    rw [hap _ rfl, State.putCandCfg_stored, fieldOf_putField_ne _ _ _ _ _ _ (by decide) (by decide), fieldOf_putField_ne _ _ _ _ _ _ (by decide) (by decide),
      fieldOf_putField_ne _ _ _ _ _ _ (by decide) (by decide), fieldOf_putField_self _ _ _ _ (by decide)]
    exact Nat.mod_mod _ 2
  have hovrEn : (s.putCandCfg id fl ovr prio).ap Fld.refCandCfg_QL_OVR_EN id = fl / 2 := by
    rw [hap _ rfl, State.putCandCfg_stored, fieldOf_putField_ne _ _ _ _ _ _ (by decide) (by decide), fieldOf_putField_ne _ _ _ _ _ _ (by decide) (by decide),
      fieldOf_putField_self _ _ _ _ (by decide)]
    exact Nat.mod_eq_of_lt (show fl / 2 < 2 ^ 1 by omega)
  have hval : (s.putCandCfg id fl ovr prio).ap Fld.refCandCfg_QL_OVR id = ovr := by
    rw [hap _ rfl, State.putCandCfg_stored, fieldOf_putField_ne _ _ _ _ _ _ (by decide) (by decide), fieldOf_putField_self _ _ _ _ (by decide)]
    exact Nat.mod_eq_of_lt (show ovr < 2 ^ 4 by omega)
  have hp : (s.putCandCfg id fl ovr prio).ap Fld.refCandCfg_PRIO id = prio := by
    rw [hap _ rfl, State.putCandCfg_stored, fieldOf_putField_self _ _ _ _ (by decide)]
    exact Nat.mod_eq_of_lt (show prio < 2 ^ 4 by omega)
  refine ⟨?_, ?_, ?_⟩
  · rw [State.candEn, if_pos hid, State.apB, hen]
    simp [bitAt]
  · rw [State.candPrio, if_pos hid, hp]
  · rw [State.candOvr, if_pos hid, State.apB, hovrEn, hval]
    have hbit : bitAt fl 1 = decide (fl / 2 = 1) := decide_eq_decide.mpr (by omega)
    rw [hbit]

/-- The checks of a command that passes them all. -/
theorem State.check_none {d : CmdDesc} {c : Checks} (h : s.check d c = none) : c.badForm = false ∧ c.badArg = false := by
  cases hform : c.badForm
  · cases harg : c.badArg
    · exact ⟨rfl, rfl⟩
    · simp [State.check, hform, harg] at h
      split_ifs at h
  · simp [State.check, hform] at h
    split_ifs at h

theorem State.putCandSettings_reads {id fl ovr prio : Nat} (hrun : id < 103 → s.regs.stopped.contains ⟨.refCandCfg, id, 0⟩ = false)
    (hfl : fl < 4) (hovr : ovr ≤ 15) (hprio : prio ≤ 15) : (s.putCandSettings id fl ovr prio).CandReads id fl ovr prio := by
  unfold State.putCandSettings
  split
  · next hid => exact State.putCandCfg_reads hid (hrun hid) hfl hovr hprio
  · next hid => exact State.putCandSet_reads hid

theorem State.putCandSettings_touches (s : State) (id fl ovr prio : Nat) : Touches [.regs, .ref] s (s.putCandSettings id fl ovr prio) := by
  refine Touches.ite ?_ ((Touches.refl _ _).set_ref rfl)
  exact (((State.putBoth_touches s _ _ _ _ rfl).step (State.putBoth_touches _ _ _ _ _ rfl)).step (State.putBoth_touches _ _ _ _ _ rfl)).step
    (State.putBoth_touches _ _ _ _ _ rfl)

/-- The settings stand after all that their change brings about. -/
theorem State.candChanged_reads {id fl ovr prio : Nat} (h : s.CandReads id fl ovr prio) : (s.candChanged id).CandReads id fl ovr prio :=
  h.of (State.candChanged_touches (ps := Part.others .regs) s id rfl .regs rfl) (refClosed_sets.candChanged s id)

end CandSet

theorem State.candQr_of_kept {s t : State} (hregs : t.regs = s.regs) (href : t.ref = s.ref) (hchans : t.tchans = s.tchans)
    (hvariant : t.variant = s.variant) (id : Nat) : t.candQr id = s.candQr id := by
  have hset : t.candSet id = s.candSet id := by rw [State.candSet, href]; rfl
  have hovr : t.candOvr id = s.candOvr id := by
    rw [State.candOvr, State.candOvr, State.apB, State.apB, State.ap_of_regs hregs, State.ap_of_regs hregs, hset]
  have habsent : t.candUnitAbsent id = s.candUnitAbsent id := by rw [State.candUnitAbsent, State.candUnitAbsent, hvariant]
  have hport : t.portOfLane id = s.portOfLane id := by
    rw [State.portOfLane, State.portOfLane, State.quadMode, State.quadMode, hregs]
  have htchan : t.tchan (id % 2 ^ 20) = s.tchan (id % 2 ^ 20) := by rw [State.tchan, hchans]; rfl
  rw [State.candQr, State.candQr, hovr, habsent, hport, href, htchan]

/-! ### What moves both cores -/

/-- Both cores move by the same amount, and every second point that this brings about leaves them there. -/
theorem State.moveCores_cores (s : State) (c : Clock) (d : Int) : (s.moveCores c d).clk.tcA = c.tcA ∧ (s.moveCores c d).clk.tcB = c.tcB := by
  unfold State.moveCores
  extract_lets x ns s0 _ _ _ _ s1 s2
  have h0 : s0.clk.tcA = c.tcA ∧ s0.clk.tcB = c.tcB := ⟨rfl, rfl⟩
  have h1 : s1.clk = s0.clk := rfl
  have h2 : s2.clk = s1.clk := (State.pllStepped_touches (ps := Part.others .clk) _ rfl .clk rfl).trans
    ((State.gatesResync_touches (ps := Part.others .clk) _ rfl .clk rfl).trans rfl)
  have h3 : (s2.raise Ev.tcoreStepDone (unsigned 64 ns % 2 ^ 32) (unsigned 64 ns / 2 ^ 32)).clk = s2.clk :=
    State.raise_touches (ps := Part.others .clk) _ _ _ _ _ rfl .clk rfl
  generalize s2.raise Ev.tcoreStepDone (unsigned 64 ns % 2 ^ 32) (unsigned 64 ns / 2 ^ 32) = s3 at *
  obtain ⟨r, hsec⟩ := secClosed_rateOnly.secPoint s3
  rw [hsec, h3, h2, h1]
  exact h0

theorem State.applyStep_cores {s : State} (d : Int) :
    (s.applyStep d).clk.tcA = (s.clk.shift d).tcA ∧ (s.applyStep d).clk.tcB = (s.clk.shift d).tcB := s.moveCores_cores _ d

/-- REF without a bias (R258). -/
def State.unbiased (s : State) : State := { s with ref := { s.ref with bias := 0, biasSlew := false } }

/-- R258: what REF_REALIGN does when no return waits for a step. -/
theorem State.refRealign_gives {s : State} {d : CmdDesc} (hacc : s.Accepts d 0xB802 { unitChecks d false .ref true [Rdy.ref] with
      badForm := (unitChecks d false .ref true [Rdy.ref]).badForm || decide (2 ≤ d.arg 12 1) || !(d.zero 13 32)
      badArg := s.ref.stepPend.isNone && decide (s.ref.bias = 0) }) (hpend : s.ref.stepPend = none) :
    (bitAt (d.arg 12 1) 0 = false → (s.refRealign d).ref = { s.ref with biasSlew := true } ∧ (s.refRealign d).clk = s.clk ∧
      Completed d 0xB802 .ok 0 (leBytes (unsigned 64 s.ref.bias) 8) (s.refRealign d)) ∧
    (bitAt (d.arg 12 1) 0 = true → s.tcore.steps = [] → (s.refRealign d).ref.bias = 0 ∧ (s.refRealign d).ref.biasSlew = false ∧
      (s.refRealign d).clk.tcA = (s.clk.shift (-s.ref.bias * (unitsPerFrac : Int))).tcA ∧
      (s.refRealign d).clk.tcB = (s.clk.shift (-s.ref.bias * (unitsPerFrac : Int))).tcB ∧
      Completed d 0xB802 .ok 0 (leBytes (unsigned 64 s.ref.bias) 8) (s.refRealign d)) ∧
    (bitAt (d.arg 12 1) 0 = true → s.tcore.steps ≠ [] → (s.refRealign d).ref = s.ref ∧ (s.refRealign d).clk = s.clk ∧
      Completed d 0xB802 .busy 0 [] (s.refRealign d)) := by
  have hrun : s.refRealign d = _ := State.runCmd_accepted_free hacc rfl
  rw [← s.startCmd_ref d] at hpend
  rw [hpend] at hrun
  rw [← s.startCmd_ref d, ← s.startCmd_clk d, ← s.startCmd_tcore d]
  generalize s.refRealign d = t at *
  generalize s.startCmd d = u at *
  refine ⟨fun hbit => ?_, fun hbit hsteps => ?_, fun hbit hsteps => ?_⟩
  · rw [if_neg (fun h => absurd (hbit.symm.trans h.1) Bool.false_ne_true), hbit] at hrun
    subst hrun
    exact ⟨rfl, rfl, State.complete_lastCpl ..⟩
  · rw [if_neg (fun h => h.2 hsteps), hbit] at hrun
    have hend : t = (u.applyStep (-u.ref.bias * (unitsPerFrac : Int))).unbiased.complete d 0xB802 .ok 0 (leBytes (unsigned 64 u.ref.bias) 8) := hrun
    obtain ⟨hA, hB⟩ := State.applyStep_cores (s := u) (-u.ref.bias * (unitsPerFrac : Int))
    generalize u.applyStep (-u.ref.bias * (unitsPerFrac : Int)) = v at *
    subst hend
    exact ⟨rfl, rfl, hA, hB, State.complete_lastCpl ..⟩
  · rw [if_pos ⟨hbit, hsteps⟩] at hrun
    subst hrun
    exact ⟨rfl, rfl, State.complete_lastCpl ..⟩

/-! ### The statement -/

/-- Settles O41: a second of holdover changes the episode of REF and the rate; a write of REF is stored by its rule; the commands of REF change what they
name, and the settings of a candidate stand through the selections that follow. -/
theorem holdoverAndRefCommands : Obligations.HoldoverAndRefCommands := by
  unfold Obligations.HoldoverAndRefCommands
  refine ⟨?tick, ?idle, ?learn, ?stale, ?tempExt, ?pref, ?prefBad, ?candSet, ?realign, ?mdlReset⟩
  case tick =>
    intro s temp e s' hup hst hfollow hep hs'
    subst hs'
    obtain ⟨href, r, hclk⟩ := State.holdoverTick_gives temp hst hfollow hep
    refine gives_effect rfl hup rfl ⟨(congrArg RefState.ep href :), (congrArg RefState.budgetOver href :), (congrArg RefState.dieTemp href :),
      (congrArg Clock.tcA hclk :), (congrArg Clock.tcB hclk :), (s.holdoverTick_touches temp rfl).carry⟩
  case idle =>
    intro s temp hup hst
    have hrun : s.holdoverTick temp = { s with ref := { s.ref with dieTemp := temp } } := if_pos (.inl hst)
    exact gives_effect (congrArg (effect true s) hrun) hup rfl ⟨rfl, Touches.carry ((Touches.refl _ _).set_ref rfl)⟩
  case learn =>
    intro s s' temp hup hsrc hlearn hs'
    subst hs'
    have hrun : s.modelLearn temp = { s with ref := { s.ref with
        dieTemp := temp
        mdl := ({ s with ref := { s.ref with dieTemp := temp } } : State).learnStep
          (if s.ref.hist = [] then s.clk.rate else meanInt (s.ref.hist.map (fun x => x.1))) temp (secOf s.tod) } } := by
      have htemp : ({ s with ref := { s.ref with dieTemp := temp } } : State).modelTemp = temp := by
        have h : ({ s with ref := { s.ref with dieTemp := temp } } : State).apB Fld.refMdlCfg_TEMP_SRC = false := hsrc
        rw [State.modelTemp, h]
        rfl
      have hlearn1 : ({ s with ref := { s.ref with dieTemp := temp } } : State).learning = true := hlearn
      unfold State.modelLearn
      rw [hsrc, Bool.false_and]
      simp only [Bool.false_eq_true, if_false, Bool.false_and, hlearn1, Bool.not_true, htemp]
      rfl
    exact gives_effect (congrArg (effect true s) hrun) hup rfl ⟨rfl, Touches.carry ((Touches.refl _ _).set_ref rfl)⟩
  case stale =>
    intro s hup hsrc
    have href : s.tempExtStale.ref = { s.ref with tempStale := true } := by
      unfold State.tempExtStale
      split
      · next h =>
        have hstale : s.ref.tempStale = true := by simpa [hsrc] using h
        rw [← hstale]
      · exact State.raise_touches (ps := Part.others .ref) _ _ _ _ _ rfl .ref rfl
    exact gives_effect rfl hup rfl ⟨href, (s.tempExtStale_touches rfl).carry⟩
  case tempExt =>
    intro s v hup hw
    obtain ⟨⟨-, -, -, hothers, hframe⟩, hstored⟩ := State.storeReg_copies refTempExt_immediate hw v
    have hstopped := State.storeReg_stopped refTempExt_immediate hw v
    rw [refTempExt_storedMask] at hstored
    have hframe1 : Touches [Part.regs, .ref] s (s.tempExtWrite v allBits) :=
      (hframe.mono rfl : Touches [Part.regs, .ref] s (s.storeReg ⟨.refTempExt, 0, 0⟩ v allBits)).set_ref rfl
    have hset : s.regSet .pcie ⟨.refTempExt, 0, 0⟩ v allBits = s.tempExtWrite v allBits :=
      State.regSet_owned rfl hw rfl (hframe1.regDown rfl rfl rfl)
    obtain ⟨-, -, -, hrun⟩ := hw
    have hregs : (s.tempExtWrite v allBits).regs = (s.storeReg ⟨.refTempExt, 0, 0⟩ v allBits).regs := rfl
    have href : (s.tempExtWrite v allBits).ref = { s.ref with tempStale := false } :=
      congrArg (fun x : RefState => { x with tempStale := false }) (hframe .ref rfl)
    refine gives_effect (congrArg (effect true s) hset) hup rfl ⟨?_, href, hothers.of_regs hregs, hframe1.carry⟩
    have hvalue : (s.tempExtWrite v allBits).ap Fld.refTempExt_VAL = fieldOf v 0 16 := by
      rw [State.ap_of_regs hregs, State.ap, State.applied, hstopped, hrun, if_neg (fun h => Bool.false_ne_true h.1), hstored,
        fieldOf_merge (by decide), fieldOf_merge (by decide)]
    exact hvalue
  case pref =>
    intro s freq v k hup hk hw hgood halone hno
    obtain rfl : k = prefKey freq := hk
    obtain ⟨ht, hf, hstep, hothers⟩ := halone
    obtain ⟨hwritten, hstored, hregs, hstopped, hframe⟩ := State.storeReg_pref (v := v) hw
    have hown := State.prefWrite_good hw hgood
    have hname : (prefKey freq).name ≠ .refCandCfg := by cases freq <;> simp [prefKey]
    have harmed : ((s.storeReg (prefKey freq) v allBits).prefArmed freq).ref = (if freq then { s.ref with armF := true } else { s.ref with armT := true }) := by
      rw [← hframe .ref rfl]
      rfl
    have hregs1 : ((s.storeReg (prefKey freq) v allBits).prefArmed freq).regs = (s.storeReg (prefKey freq) v allBits).regs := rfl
    have hframe1 : Touches [Part.regs, .ref] s ((s.storeReg (prefKey freq) v allBits).prefArmed freq) :=
      (hframe.mono rfl : Touches [Part.regs, .ref] s (s.storeReg (prefKey freq) v allBits)).set_ref rfl
    generalize s.storeReg (prefKey freq) v allBits = w at *
    generalize w.prefArmed freq = u at *
    have hkept : u.ref.cands = s.ref.cands ∧ u.ref.sets = s.ref.sets ∧ u.ref.tsel = s.ref.tsel ∧ u.ref.fsel = s.ref.fsel ∧
        u.ref.stepPend = s.ref.stepPend ∧ u.ref.armF = (freq || s.ref.armF) ∧ u.ref.armT = (!freq || s.ref.armT) := by
      rw [harmed]
      cases freq <;> simp
    obtain ⟨hcands, hsets, htsel, hfsel, hstepPend, harmF, harmT⟩ := hkept
    have hnone : ∀ j, u.candUsable j = false := fun j => by
      have hsame : u.candUsable j = s.candUsable j := by
        have hap : u.ap Fld.refCandCfg_PRIO j = s.ap Fld.refCandCfg_PRIO j :=
          (State.ap_of_regs hregs1 _ _ _).trans (State.ap_of_otherRegs hregs hstopped (fun h => hname (congrArg RegKey.name h).symm))
        have hcand : u.cand j = s.cand j := by rw [State.cand, hcands]; rfl
        have hset : u.candSet j = s.candSet j := by rw [State.candSet, hsets]; rfl
        have hprio : u.candPrio j = s.candPrio j := by rw [State.candPrio, State.candPrio, hap, hset]
        rw [State.candUsable, State.candUsable, hcand, hprio]
      rw [hsame]
      by_cases hj : j = noCand
      · rw [hj]; exact hno
      · exact hothers j hj
    rw [State.reselect_none hnone (htsel.trans ht) (hfsel.trans hf) (hstepPend.trans hstep)] at hown
    have hset : s.regSet .pcie (prefKey freq) v allBits = u :=
      State.regSet_owned (prefKey_owns freq) hw ((State.regOwn_pref freq).trans (congrArg some hown)) (hframe1.regDown rfl rfl rfl)
    exact gives_effect (congrArg (effect true s) hset) hup rfl ⟨(State.written_of_regs hregs1 _).trans hwritten, (State.stored_of_regs hregs1 _).trans hstored,
      harmF, harmT, hregs.of_regs hregs1, hframe1.carry⟩
  case prefBad =>
    intro s freq v k hup hk hw hbad
    obtain rfl : k = prefKey freq := hk
    obtain ⟨hstored, hothers, hframe⟩ := State.prefWrite_bad hw hbad
    have hset : s.regSet .pcie (prefKey freq) v allBits = s.prefWrite freq v allBits :=
      State.regSet_owned (prefKey_owns freq) hw (State.regOwn_pref freq) (hframe.regDown rfl rfl rfl)
    exact gives_effect (congrArg (effect true s) hset) hup rfl ⟨hstored, hothers, hframe.carry⟩
  case candSet =>
    intro s d hup hwf hacc hrunning
    have hrun : s.refCandSet d = _ := State.runCmd_accepted_free hacc rfl
    obtain ⟨hform, harg⟩ := State.check_none hacc.2
    simp only [Bool.or_eq_false_iff, decide_eq_false_iff_not, Nat.not_le, Nat.not_lt] at hform harg
    obtain ⟨⟨-, hfl⟩, -⟩ := hform
    obtain ⟨⟨-, hprio⟩, hovr⟩ := harg
    have hset : s.refCandSet d = (((s.startCmd d).putCandSettings (d.arg 12 4) (d.arg 17 1) (d.arg 18 1) (d.arg 16 1)).candChanged (d.arg 12 4)).complete d 0xB801 .ok 0
        (leBytes ((((s.startCmd d).putCandSettings (d.arg 12 4) (d.arg 17 1) (d.arg 18 1) (d.arg 16 1)).candChanged (d.arg 12 4)).cand (d.arg 12 4)).st.code 1 ++
          leBytes ((((s.startCmd d).putCandSettings (d.arg 12 4) (d.arg 17 1) (d.arg 18 1) (d.arg 16 1)).candChanged (d.arg 12 4)).candQr (d.arg 12 4)) 1) := hrun
    have hstart := State.startCmd_touches (ps := cplParts) s d rfl
    have hregs0 : (s.startCmd d).regs = s.regs := s.startCmd_regs d
    have hexec : exec (.refCandSet d) s = effect d.wf s (s.refCandSet d) := rfl
    generalize s.refCandSet d = t at *
    generalize s.startCmd d = u0 at *
    have hreads := State.candChanged_reads (State.putCandSettings_reads (s := u0) (id := d.arg 12 4) (fun h => hregs0 ▸ hrunning h) hfl hovr hprio)
    have hput := u0.putCandSettings_touches (d.arg 12 4) (d.arg 17 1) (d.arg 18 1) (d.arg 16 1)
    generalize u0.putCandSettings (d.arg 12 4) (d.arg 17 1) (d.arg 18 1) (d.arg 16 1) = u1 at *
    have hchg := State.candChanged_touches (ps := refParts ++ cplParts ++ [Part.regs, .tchans, .eng, .rc .refHoldoffCnt]) u1 (d.arg 12 4) rfl
    generalize u1.candChanged (d.arg 12 4) = u at *
    have hcpl := State.complete_touches (ps := cplParts) u d 0xB801 .ok 0
      (leBytes (u.cand (d.arg 12 4)).st.code 1 ++ leBytes (u.candQr (d.arg 12 4)) 1) [] rfl
    have hlast := State.complete_lastCpl u d 0xB801 .ok 0 (leBytes (u.cand (d.arg 12 4)).st.code 1 ++ leBytes (u.candQr (d.arg 12 4)) 1) []
    rw [← hset] at hcpl hlast
    obtain ⟨hen, hprio, hovrd⟩ := hreads.of (hcpl .regs rfl) (congrArg RefState.sets (hcpl .ref rfl))
    have hframe := (((hstart.mono rfl).step (hput.mono rfl)).step hchg).step (hcpl.mono rfl)
    have hcand : (t.carry s).cand (d.arg 12 4) = u.cand (d.arg 12 4) := by rw [State.cand, State.carry_ref, hcpl .ref rfl]; rfl
    have hqr : (t.carry s).candQr (d.arg 12 4) = u.candQr (d.arg 12 4) :=
      State.candQr_of_kept (t := t.carry s) (hcpl .regs rfl) (hcpl .ref rfl) (hcpl .tchans rfl) ((hframe .variant rfl).symm.trans (hcpl .variant rfl)) _
    rw [← hcand, ← hqr] at hlast
    exact gives_effect hexec hup hwf ⟨hen, hprio, hovrd, hlast, hframe.carry⟩
  case realign =>
    intro s d hup hwf hacc hpend
    have hexec : exec (.refRealign d) s = effect d.wf s (s.refRealign d) := rfl
    obtain ⟨hslew, hstep, hbusy⟩ := State.refRealign_gives hacc hpend
    have hframe := s.refRealign_touches (ps := commitParts) d rfl
    generalize s.refRealign d = t at *
    exact gives_effect hexec hup hwf ⟨hslew, hstep, hbusy, hframe.carry⟩
  case mdlReset =>
    intro s d hup hwf hacc
    have hrun : s.refMdlReset d = _ := State.runCmd_accepted_free hacc rfl
    have href : (s.startCmd d).ref = s.ref := s.startCmd_ref d
    have hstart := State.startCmd_touches (ps := cplParts ++ [Part.ref]) s d rfl
    generalize s.startCmd d = u at *
    have hcpl := State.complete_touches (ps := cplParts) ({ u with ref := { u.ref with mdl := {} } } : State) d 0xB803 .ok 0 [] [] rfl
    have hlast := State.complete_lastCpl ({ u with ref := { u.ref with mdl := {} } } : State) d 0xB803 .ok 0 [] []
    refine gives_effect (congrArg (effect d.wf s) hrun) hup hwf ⟨?_, hlast, ((hstart.set_ref rfl).step (hcpl.mono rfl)).carry⟩
    rw [← href]
    exact (hcpl .ref rfl :)

end Sys2Proof.Machine
end

section
/-! ## The words of the registers through apply points (R31, R32, R35) -/

set_option Elab.async false

namespace Sys2Proof.Machine

/-! ### The bits of an apply point -/

/-- A row has a field of the apply point. -/
def RegName.hasPoint (n : RegName) (p : ApplyPoint) : Bool := n.row.fields.any (fun f => decide (f.apply = p))

theorem RegKey.mem_row_fields {k : RegKey} {f : Field} (h : f ∈ k.fields) : f ∈ k.name.row.fields := by
  unfold RegKey.fields at h
  split at h
  · split at h
    · exact List.mem_of_mem_filter h
    · exact h
  · split at h
    · cases h
    · exact h
  · split at h
    · cases h
    · exact h
  · split at h
    · cases h
    · exact h
  · split at h
    · exact h
    · cases h

theorem RegKey.mask_none {k : RegKey} {p : Field → Bool} (h : ∀ f, f ∈ k.fields → p f = false) : k.mask p = 0 := by
  rw [RegKey.mask]
  exact foldl_kept (g := id) k.fields (fun m f hf => by simp [h f hf]) 0

theorem RegKey.pointMask_none {k : RegKey} {p : ApplyPoint} (h : k.name.hasPoint p = false) : k.pointMask p = 0 := by
  have hnone : k.mask (fun f => decide (f.apply = p)) = 0 := RegKey.mask_none fun f hf => by
    simpa using List.any_eq_false.mp h f (RegKey.mem_row_fields hf)
  rw [RegKey.pointMask, hnone]
  exact BitVec.zero_and

theorem RegName.hasPoint_idl {n : RegName} : n.hasPoint .idl = true → n = .lanePeak := by
  cases n with
  | lanePeak => exact fun _ => rfl
  | _ => exact fun h => absurd h Bool.false_ne_true

theorem RegName.hasPoint_cmt_sec {n : RegName} : (n.hasPoint .cmt && n.hasPoint .sec) = true → n = .pllOutCfg ∨ n = .pairCfg := by
  cases n with
  | pllOutCfg => exact fun _ => .inl rfl
  | pairCfg => exact fun _ => .inr rfl
  | _ => exact fun h => absurd h Bool.false_ne_true

theorem RegKey.pointMask_idl {k : RegKey} (h : k.name ≠ .lanePeak) : k.pointMask .idl = 0 :=
  RegKey.pointMask_none (Bool.eq_false_iff.mpr fun hi => h (RegName.hasPoint_idl hi))

/-- The CMT and the SEC bits of a register are apart. -/
theorem RegKey.pointMask_sec_cmt (k : RegKey) : k.pointMask .sec &&& k.pointMask .cmt = 0 := by
  by_cases hc : k.name.hasPoint .cmt = true
  · by_cases hs : k.name.hasPoint .sec = true
    · obtain ⟨name, i, j⟩ := k
      rcases RegName.hasPoint_cmt_sec (n := name) (by simpa using ⟨hc, hs⟩) with rfl | rfl
      · simp only [RegKey.pointMask, RegKey.storedMask, RegKey.mask, RegKey.fields]
        split <;> decide
      · simp only [RegKey.pointMask, RegKey.storedMask, RegKey.mask, RegKey.fields]
        split <;> decide
    · rw [RegKey.pointMask_none (p := .sec) (Bool.eq_false_iff.mpr hs)]
      exact BitVec.zero_and
  · rw [RegKey.pointMask_none (p := .cmt) (Bool.eq_false_iff.mpr hc)]
    exact BitVec.and_zero

/-! ### Words of which some bits are taken -/

/-- Word `a` with the bits `m` of `b`. -/
def mergeBits (m a b : Word) : Word := (a &&& ~~~m) ||| (b &&& m)

theorem mergeBits_apart {m m' : Word} (h : m' &&& m = 0) (a b : Word) : mergeBits m a b &&& m' = a &&& m' := by
  refine BitVec.eq_of_getLsbD_eq fun i hi => ?_
  have hbit : (m' &&& m).getLsbD i = false := by rw [h]; exact BitVec.getLsbD_zero
  rw [BitVec.getLsbD_and] at hbit
  cases hm : m.getLsbD i <;> cases hm' : m'.getLsbD i <;> simp_all [mergeBits]

theorem mergeBits_within (m a b : Word) : mergeBits m a b &&& m = b &&& m := by
  refine BitVec.eq_of_getLsbD_eq fun i hi => ?_
  cases hm : m.getLsbD i <;> simp [mergeBits, hm]

theorem mergeBits_again (m a b : Word) : mergeBits m (mergeBits m a b) b = mergeBits m a b := by
  refine BitVec.eq_of_getLsbD_eq fun i hi => ?_
  cases hm : m.getLsbD i <;> simp [mergeBits, hm]

section Bits

variable {s : State} {k : RegKey}

/-- The reset value of a word stands while no lane group changes its mode. -/
theorem State.dflt_copyBits {k' : RegKey} (h : k.name ≠ .laneTxEq ∨ k'.name ≠ .laneGrpMode) (m : Word) : (s.copyBits k' m).dflt k = s.dflt k := by
  rcases h with h | h
  · rw [State.dflt_of_ne h, State.dflt_of_ne h]
  · refine State.dflt_congr (fun g => ?_) k
    simp only [State.stored, State.dflt_laneGrpMode]
    exact Tab.get_set_ne _ _ _ _ _ (fun hk => h (congrArg RegKey.name hk).symm)

theorem State.copyBits_written {k' : RegKey} (h : k.name ≠ .laneTxEq ∨ k'.name ≠ .laneGrpMode) (m : Word) :
    (s.copyBits k' m).written k = s.written k := by
  rw [State.written, State.written, State.dflt_copyBits h]
  rfl

theorem State.copyBits_stored_ne {k' : RegKey} (h : k.name ≠ .laneTxEq ∨ k'.name ≠ .laneGrpMode) (hne : k ≠ k') (m : Word) :
    (s.copyBits k' m).stored k = s.stored k := by
  rw [State.stored, State.stored, State.dflt_copyBits h]
  exact Tab.get_set_ne _ _ _ _ _ hne

theorem State.copyBits_stored_self (m : Word) : (s.copyBits k m).stored k = mergeBits m (s.stored k) (s.written k) :=
  Tab.get_set_self _ _ _ _

theorem State.revertBits_stored (k k' : RegKey) (m : Word) : (s.revertBits k' m).stored k = s.stored k := rfl

theorem State.revertBits_written_ne {k' : RegKey} (h : k ≠ k') (m : Word) : (s.revertBits k' m).written k = s.written k :=
  Tab.get_set_ne _ _ _ _ _ h

theorem State.revertBits_written_self (m : Word) : (s.revertBits k m).written k = mergeBits m (s.written k) (s.stored k) :=
  Tab.get_set_self _ _ _ _

/-- The words `ks` take their written bits of the point `p`. -/
theorem State.copyWords_word (p : ApplyPoint) (ks : List RegKey) (hk : ∀ x, x ∈ ks → k.name ≠ .laneTxEq ∨ x.name ≠ .laneGrpMode) (s : State) :
    (ks.foldl (fun s k => s.copyBits k (k.pointMask p)) s).written k = s.written k ∧
    (ks.foldl (fun s k => s.copyBits k (k.pointMask p)) s).stored k =
      (if k ∈ ks then mergeBits (k.pointMask p) (s.stored k) (s.written k) else s.stored k) := by
  induction ks generalizing s with
  | nil => exact ⟨rfl, rfl⟩
  | cons x ks ih =>
    have hxs := hk x List.mem_cons_self
    obtain ⟨hwritten, hstored⟩ := ih (fun y hy => hk y (List.mem_cons_of_mem x hy)) (s.copyBits x (x.pointMask p))
    rw [State.copyBits_written hxs] at hwritten hstored
    refine ⟨hwritten, hstored.trans ?_⟩
    by_cases hx : k = x
    · subst hx
      rw [State.copyBits_stored_self, mergeBits_again, if_pos List.mem_cons_self, ite_self]
    · rw [State.copyBits_stored_ne hxs hx]
      simp only [List.mem_cons, hx, false_or]

/-- What an apply point leaves in the two copies of a word. -/
theorem State.applyAt_word (p : ApplyPoint) (sel : RegKey → Bool) (hk : ∀ x, sel x = true → k.name ≠ .laneTxEq ∨ x.name ≠ .laneGrpMode) (s : State) :
    (s.applyAt p sel).written k = s.written k ∧
    (s.applyAt p sel).stored k =
      (if k ∈ s.waitingAt p sel then mergeBits (k.pointMask p) (s.stored k) (s.written k) else s.stored k) :=
  State.copyWords_word p (s.waitingAt p sel) (fun x hx => hk x (State.mem_waitingAt.mp hx).1) s

end Bits

/-! ### What a step leaves of the words and of what waits -/

/-- The words wait that wait for a point. -/
abbrev State.waiting (s : State) (p : ApplyPoint) : List RegKey := s.waitingAt p (fun _ => true)

/-- A step keeps the bits `P` of the words, but for points `D` every word that waits, and makes no word wait. -/
structure WordsKept (P : RegKey → Word → Prop) (D : ApplyPoint → Prop) (s t : State) : Prop where
  word : ∀ k m, k.name ≠ .laneTxEq → P k m → t.written k &&& m = s.written k &&& m ∧ t.stored k &&& m = s.stored k &&& m
  waits : ∀ p k, ¬ D p → k ∈ s.waiting p → k ∈ t.waiting p
  fewer : ∀ p k, k ∈ t.waiting p → k ∈ s.waiting p

namespace WordsKept

variable {P Q : RegKey → Word → Prop} {D E : ApplyPoint → Prop} {s t u : State}

theorem of_regs (h : t.regs = s.regs) : WordsKept P D s t where
  word k m _ _ := ⟨by rw [State.written_of_regs h], by rw [State.stored_of_regs h]⟩
  waits p k _ hk := by rw [State.waiting, State.waitingAt, h]; exact hk
  fewer p k hk := by rw [State.waiting, State.waitingAt, h] at hk; exact hk

protected theorem refl (s : State) : WordsKept P D s s := of_regs rfl

protected theorem trans (h : WordsKept P D s t) (g : WordsKept P D t u) : WordsKept P D s u where
  word k m hk hP := by
    obtain ⟨hw, hs⟩ := h.word k m hk hP
    obtain ⟨gw, gs⟩ := g.word k m hk hP
    exact ⟨gw.trans hw, gs.trans hs⟩
  waits p k hp hk := g.waits p k hp (h.waits p k hp hk)
  fewer p k hk := h.fewer p k (g.fewer p k hk)

theorem mono (h : WordsKept P D s t) (hP : ∀ k m, Q k m → P k m) (hD : ∀ p, D p → E p) : WordsKept Q E s t where
  word k m hk hQ := h.word k m hk (hP k m hQ)
  waits p k hp hk := h.waits p k (fun hd => hp (hD p hd)) hk
  fewer := h.fewer

theorem touched {ps : List Part} (h : WordsKept P D s t) (g : Touches ps t u) (hps : ps.any (fun q => q.covers .regs) = false) : WordsKept P D s u :=
  h.trans (of_regs (g .regs hps))

protected theorem ite {c : Prop} [Decidable c] (ht : WordsKept P D s t) (hu : WordsKept P D s u) : WordsKept P D s (if c then t else u) := by
  split
  · exact ht
  · exact hu

protected theorem foldl {α : Type} {f : State → α → State} (l : List α) (hf : ∀ s x, x ∈ l → WordsKept P D s (f s x)) (s : State) :
    WordsKept P D s (l.foldl f s) := by
  induction l generalizing s with
  | nil => exact .refl s
  | cons x l ih => exact (hf s x List.mem_cons_self).trans (ih (fun s y hy => hf s y (List.mem_cons_of_mem x hy)) (f s x))

theorem copyBits (s : State) (k0 : RegKey) (m0 : Word) : WordsKept (fun k m => k = k0 → m &&& m0 = 0) D s (s.copyBits k0 m0) where
  word k m hk hP := by
    refine ⟨by rw [State.copyBits_written (.inl hk)], ?_⟩
    by_cases h : k = k0
    · subst h
      rw [State.copyBits_stored_self, mergeBits_apart (hP rfl)]
    · rw [State.copyBits_stored_ne (.inl hk) h]
  waits _ _ _ hk := hk
  fewer _ _ hk := hk

theorem revertBits (s : State) (k0 : RegKey) (m0 : Word) : WordsKept (fun k m => k = k0 → m &&& m0 = 0) D s (s.revertBits k0 m0) where
  word k m hk hP := by
    refine ⟨?_, by rw [State.revertBits_stored]⟩
    by_cases h : k = k0
    · subst h
      rw [State.revertBits_written_self, mergeBits_apart (hP rfl)]
    · rw [State.revertBits_written_ne h]
  waits _ _ _ hk := hk
  fewer _ _ hk := hk

theorem dropped {p : ApplyPoint} {sel : RegKey → Bool} (ha : t.regs.applied = s.regs.applied) (hw : t.regs.written = s.regs.written)
    (h : t.regs.pend = dropPoint s.regs.pend p sel) : WordsKept P (· = p) s t where
  word k m hk _ := by
    rw [State.written, State.written, State.stored, State.stored, State.dflt_of_ne hk, State.dflt_of_ne hk, ha, hw]
    exact ⟨rfl, rfl⟩
  waits q k hq hk := (State.mem_waitingAt_dropped h).mpr ⟨hk, fun hqp => absurd hqp hq⟩
  fewer q k hk := ((State.mem_waitingAt_dropped h).mp hk).1

theorem applyAt (s : State) (p : ApplyPoint) (sel : RegKey → Bool) :
    WordsKept (fun k m => m &&& k.pointMask p = 0) (· = p) s (s.applyAt p sel) where
  word k m hk hP := by
    obtain ⟨hwritten, hstored⟩ := State.applyAt_word p sel (fun _ _ => .inl hk) s
    refine ⟨by rw [hwritten], ?_⟩
    rw [hstored]
    split
    · exact mergeBits_apart hP _ _
    · rfl
  waits q k hq hk := (State.mem_waitingAt_dropped (s.applyAt_pend p sel)).mpr ⟨hk, fun hqp => absurd hqp hq⟩
  fewer q k hk := ((State.mem_waitingAt_dropped (s.applyAt_pend p sel)).mp hk).1

end WordsKept

end Sys2Proof.Machine
end

section
/-! ## What a commit leaves of the words (R31, R32, R35, R101, R139) -/

set_option Elab.async false

namespace Sys2Proof.Machine

/-! ### The pair's part of a commit changes no register -/

theorem State.admRun_regs (s : State) (w : AdmWait) (h : w.kind ≠ 8) : (s.admRun w).regs = s.regs := by
  unfold State.admRun
  split
  · exact State.flowCreateNow_touches (ps := Part.others .regs) s _ rfl .regs rfl
  · exact State.flowModifyNow_touches (ps := Part.others .regs) s _ rfl .regs rfl
  · exact State.boundQueryNow_touches (ps := Part.others .regs) s _ rfl .regs rfl
  · exact State.flowMirrored_touches (ps := Part.others .regs) s _ rfl .regs rfl
  · exact State.flowDrainNow_touches (ps := Part.others .regs) s _ _ rfl .regs rfl
  · exact State.flowDrainNow_touches (ps := Part.others .regs) s _ _ rfl .regs rfl
  · exact State.flowEnableNow_touches (ps := Part.others .regs) s _ rfl .regs rfl
  · next heq => exact absurd heq h
  · exact State.gclSetNow_touches (ps := Part.others .regs) s _ rfl .regs rfl

theorem State.admNext_regs (s : State) {kind : Nat} (h : kind ≠ 8) (d : CmdDesc) : (s.admNext kind d).regs = s.regs := by
  unfold State.admNext
  split
  · rfl
  · exact s.admRun_regs _ h

theorem State.flowNext_regs (s : State) {kind : Nat} (h : kind ≠ 8) (d : CmdDesc) : (s.flowNext kind d).regs = s.regs := by
  unfold State.flowNext
  dsimp only
  split
  · exact s.admNext_regs h d
  · exact s.admRun_regs _ h

theorem State.flowAgain_regs (s : State) (w : WaitingCmd) : (s.flowAgain w).regs = s.regs := by
  unfold State.flowAgain
  split
  · exact s.admNext_regs (by decide) _
  · exact s.flowNext_regs (by decide) _
  · exact s.flowNext_regs (by decide) _
  · exact s.flowNext_regs (by decide) _

theorem State.flowKill_regs (s : State) (i : Nat) : (s.flowKill i).regs = s.regs := by
  unfold State.flowKill
  extract_lets o n s1 s2
  have h1 : s1.regs = s.regs := State.flowAbort_touches (ps := Part.others .regs) s i rfl .regs rfl
  have h2 : s2.regs = s1.regs := by
    unfold s2
    split
    · exact State.drainDone_touches (ps := Part.others .regs) s1 _ _ _ _ rfl .regs rfl
    · exact State.raiseIf_touches (ps := Part.others .regs) s1 _ _ _ _ _ rfl .regs rfl
  have h3 : ((s2.flowDrop i).dropObj .flow i).regs = s2.regs :=
    (State.dropObj_touches (ps := Part.others .regs) _ .flow i rfl .regs rfl).trans
      (State.flowDrop_touches (ps := Part.others .regs) s2 i rfl .regs rfl)
  exact (foldl_kept (g := State.regs) o.waiting (fun t w _ => t.flowAgain_regs w) _).trans (h3.trans (h2.trans h1))

theorem State.goPair_regs (s : State) (st : PairSt) : (s.goPair st).regs = s.regs :=
  State.goPair_touches (ps := Part.others .regs) s st rfl .regs rfl

theorem State.resyncStart_regs (s : State) : s.resyncStart.regs = s.regs := by
  unfold State.resyncStart
  extract_lets n s1 s2
  have h1 : s1.regs = s.regs := foldl_kept (g := State.regs) _ (fun t k _ => by
    split
    · rfl
    · exact State.fdbRemove_touches (ps := Part.others .regs) t k.1 k.2 rfl .regs rfl) s
  have h2 : s2.regs = s1.regs := (State.goPair_regs _ _).trans (foldl_kept (g := State.regs) _ (fun t i _ => t.flowKill_regs i) s1)
  exact h2.trans h1

theorem State.pairCompare_regs (s : State) : s.pairCompare.regs = s.regs := by
  unfold State.pairCompare
  extract_lets
  split
  · exact s.resyncStart_regs
  · split
    · exact State.resyncStart_regs _
    · exact s.goPair_regs _

theorem State.pairAlone_regs (s : State) : s.pairAlone.regs = s.regs :=
  State.pairAlone_touches (ps := Part.others .regs) s rfl .regs rfl

theorem State.pairPaths_regs (s : State) : s.pairPaths.regs = s.regs := by
  have hcut : (if s.pair.inb.lost then s.pairAlone else s.goPair .isolated).regs = s.regs := by
    split
    · exact s.pairAlone_regs
    · exact s.goPair_regs _
  unfold State.pairPaths
  extract_lets cut
  split
  · split
    · exact hcut
    · rfl
  · split
    · exact hcut
    · rfl
  · split
    · split
      · exact s.resyncStart_regs
      · exact s.goPair_regs _
    · split
      · exact s.pairAlone_regs
      · rfl
  · split
    · exact s.pairCompare_regs
    · rfl
  · rfl

theorem State.pairCommit_regs (s : State) : s.pairCommit.regs = s.regs := by
  unfold State.pairCommit
  split
  · split
    · rfl
    · extract_lets _ s1 s2
      have h2 : s2.regs = s.regs := (State.resyncDrop_touches (ps := Part.others .regs) _ rfl .regs rfl).trans
        ((State.unmirror_touches (ps := Part.others .regs) _ rfl .regs rfl).trans (State.goPair_regs _ _))
      exact h2
  · extract_lets _ s1
    have h1 : s1.regs = s.regs := by
      unfold s1
      split <;> rfl
    split
    · exact (s1.goPair_regs _).trans h1
    · exact s1.pairPaths_regs.trans h1

/-- What follows the words of a commit changes no register. -/
theorem State.commitPost_regs (s old : State) :
    ((((s.pllCommitPost old).pairsEval true).lnkEvalAll.pairCommit).causesClear.xoffUpdate).regs = s.regs := by
  have h1 : (((s.pllCommitPost old).pairsEval true).lnkEvalAll).regs = s.regs :=
    (State.lnkEvalAll_touches (ps := Part.others .regs) _ rfl .regs rfl).trans
      ((State.pairsEval_touches (ps := Part.others .regs) _ _ rfl .regs rfl).trans (State.pllCommitPost_touches (ps := Part.others .regs) s old rfl .regs rfl))
  exact (State.xoffUpdate_touches (ps := Part.others .regs) _ rfl .regs rfl).trans
    ((State.causesClear_touches (ps := Part.others .regs) _ rfl .regs rfl).trans ((State.pairCommit_regs _).trans h1))

/-! ### Lanes -/

/-- The words of a lane whose bits an IDL point takes. -/
abbrev offPeak (k : RegKey) (_ : Word) : Prop := k.name ≠ .lanePeak

theorem State.calBoundary_regs {t : Nat} (h3 : t ≠ 3) (h4 : t ≠ 4) (s : State) (i : Nat) : (s.calBoundary t i).regs = s.regs := by
  unfold State.calBoundary
  split
  · rfl
  · simp only [State.calApply, h3, h4, if_false]

theorem State.laneIdl_words (s : State) (n : Nat) : WordsKept offPeak (· = .idl) s (s.laneIdl n) := by
  refine ((WordsKept.applyAt s .idl (laneKey n)).mono (fun k m hk => ?_) fun _ h => h).trans
    (.of_regs (State.calBoundary_regs (by decide) (by decide) _ n))
  rw [RegKey.pointMask_idl hk]
  exact BitVec.and_zero

theorem State.retrain_words (s : State) (n : Nat) : WordsKept offPeak (· = .idl) s (s.retrain n) := by
  have h1 : WordsKept offPeak (· = .idl) s ((s.laneUnlock n).laneIdl n) :=
    (WordsKept.of_regs (State.laneUnlock_touches (ps := Part.others .regs) s n rfl .regs rfl)).trans (State.laneIdl_words _ n)
  exact WordsKept.ite (.refl s) (h1.trans (.of_regs rfl))

/-- The bits that the mode of a lane group leaves alone. -/
abbrev offGrpMode (g : Nat) (k : RegKey) (m : Word) : Prop := k.name ≠ .lanePeak ∧ (k = ⟨.laneGrpMode, g, 0⟩ → ∀ q, q < 2 → m &&& quadMask q = 0)

theorem State.quadChange_words (s : State) (g : Nat) {q : Nat} (hq : q < 2) (w : Word) : WordsKept (offGrpMode g) (· = .idl) s (s.quadChange g q w) := by
  unfold State.quadChange
  extract_lets k l s1 _ s2
  have h1 : WordsKept (offGrpMode g) (· = .idl) s s1 := WordsKept.foldl l
    (fun t n _ => .of_regs (State.laneStop_touches (ps := Part.others .regs) t n rfl .regs rfl)) s
  have h2 : WordsKept (offGrpMode g) (· = .idl) s1 s2 := {
    word := fun k' m hk hm => by
      have hwritten : s2.written k' = s1.written k' := by
        rw [State.written, State.written, State.dflt_of_ne hk, State.dflt_of_ne hk]
      refine ⟨by rw [hwritten], ?_⟩
      by_cases hkey : k' = k
      · have hstored : s2.stored k' = mergeBits (quadMask q) (s1.stored k) w := by
          rw [hkey]
          exact Tab.get_set_self _ _ _ _
        rw [hstored, mergeBits_apart (hm.2 hkey q hq), hkey]
      · have hstored : s2.stored k' = s1.stored k' := by
          rw [State.stored, State.stored, State.dflt_of_ne hk, State.dflt_of_ne hk]
          exact Tab.get_set_ne _ _ _ _ _ hkey
        rw [hstored]
    waits := fun _ _ _ hk => hk
    fewer := fun _ _ hk => hk }
  have h3 : ∀ t : State, ∀ n, WordsKept (offGrpMode g) (· = .idl) t ((t.setLane n { t.lane n with sig := (s.lane n).sig, noSignal := false }).retrain n) :=
    fun t n => by
      have hlane : WordsKept (offGrpMode g) (· = .idl) t (t.setLane n { t.lane n with sig := (s.lane n).sig, noSignal := false }) := .of_regs rfl
      generalize t.setLane n { t.lane n with sig := (s.lane n).sig, noSignal := false } = u at *
      exact hlane.trans ((u.retrain_words n).mono (fun k m (h : offGrpMode g k m) => h.1) fun _ h => h)
  clear_value s2
  exact (h1.trans h2).trans (WordsKept.foldl l (fun t n _ => WordsKept.ite (.refl t) (h3 t n)) s2)

theorem State.grpModeCheck_words (s : State) (g : Nat) : WordsKept (offGrpMode g) (· = .idl) s (s.grpModeCheck g) := by
  unfold State.grpModeCheck
  extract_lets k w ok
  refine WordsKept.foldl _ (fun t q hq => WordsKept.ite (.refl t) ?_) s
  have hrevert : WordsKept (offGrpMode g) (· = .idl) t (t.revertBits k (quadMask q)) :=
    (WordsKept.revertBits (D := (· = .idl)) t k (quadMask q)).mono (fun _ _ h hk => h.2 hk q (List.mem_range.mp hq)) fun _ h => h
  exact hrevert.trans (.of_regs (State.raise_touches (ps := Part.others .regs) _ _ _ _ _ rfl .regs rfl))

theorem State.commitGrpMode_words (s : State) (g : Nat) : WordsKept (offGrpMode g) (· = .idl) s (s.commitGrpMode g) := by
  unfold State.commitGrpMode
  extract_lets k s1 cur new
  have h1 : WordsKept (offGrpMode g) (· = .idl) s s1 := s.grpModeCheck_words g
  clear_value s1
  exact WordsKept.ite (h1.trans (.of_regs rfl))
    (h1.trans (WordsKept.foldl _ (fun t q hq => WordsKept.ite (.refl t) (t.quadChange_words g (List.mem_range.mp hq) new)) s1))

/-! ### The words of a commit -/

/-- The bits that the commit of the word `k0` leaves alone. -/
def offCmt (k0 k : RegKey) (m : Word) : Prop :=
  k.name ≠ .lanePeak ∧ (k.name = .laneGrpMode → ∀ q, q < 2 → m &&& quadMask q = 0) ∧ (k = k0 → m &&& k0.pointMask .cmt = 0)

/-- The points that a commit may take. -/
abbrev idlOrCmt (p : ApplyPoint) : Prop := p = .idl ∨ p = .cmt

theorem State.capCheck_words {D : ApplyPoint → Prop} (s t : State) (k : RegKey) (m : Word) (h : WordsKept (fun k' m' => k' = k → m' &&& m = 0) D s t) :
    WordsKept (fun k' m' => k' = k → m' &&& m = 0) D s (s.capCheck t k m) := by
  unfold State.capCheck
  split
  · exact (WordsKept.revertBits s k m).trans (.of_regs (State.raise_touches (ps := Part.others .regs) _ _ _ _ _ rfl .regs rfl))
  · exact h

theorem State.capWord_words (s : State) (k : RegKey) : WordsKept (offCmt k) idlOrCmt s (s.capWord k) := by
  unfold State.capWord
  extract_lets m t
  have ht : WordsKept (fun k' m' => k' = k → m' &&& m = 0) idlOrCmt s t := s.capCheck_words _ k m (.copyBits s k m)
  clear_value t
  have hdrop : WordsKept (offCmt k) (· = .cmt) t { t with regs := { t.regs with pend := dropPoint t.regs.pend .cmt (fun x => decide (x = k)) } } :=
    WordsKept.dropped (sel := fun x => decide (x = k)) rfl rfl rfl
  exact WordsKept.ite (.refl s) ((ht.mono (fun _ _ h => h.2.2) fun _ h => h).trans (hdrop.mono (fun _ _ h => h) fun _ h => .inr h))

theorem State.capNext_words (s : State) (k : RegKey) : WordsKept (offCmt k) idlOrCmt s (s.capNext k) :=
  WordsKept.ite (.of_regs rfl) (s.capWord_words k)

theorem State.keepWord_words {D : ApplyPoint → Prop} (s : State) (k : RegKey) (e : Evt) (a b : Nat) : WordsKept (offCmt k) D s (s.keepWord k e a b) :=
  ((WordsKept.revertBits s k _).mono (fun _ _ h => h.2.2) fun _ h => h).trans
    (.of_regs (State.raise_touches (ps := Part.others .regs) _ _ _ _ _ rfl .regs rfl))

theorem State.commitWord_words (s : State) (k : RegKey) : WordsKept (offCmt k) idlOrCmt s (s.commitWord k) := by
  unfold State.commitWord
  extract_lets t
  have ht : WordsKept (offCmt k) idlOrCmt s t := (WordsKept.copyBits s k _).mono (fun _ _ h => h.2.2) fun _ h => h
  split
  ·
    exact (s.commitGrpMode_words k.i).mono (fun k' m h => ⟨h.1, fun hk => h.2.1 (congrArg RegKey.name hk)⟩) fun _ h => .inl h
  · exact s.capNext_words k
  · exact s.capNext_words k
  · exact WordsKept.ite (s.keepWord_words k _ _ _) ht
  · exact WordsKept.ite (s.keepWord_words k _ _ _) ht
  · exact WordsKept.ite (s.keepWord_words k _ _ _) ht
  · exact ht

/-- The bits that the settings of the PLLs leave alone. -/
def offPll (k : RegKey) (m : Word) : Prop := ∀ x e, x ∈ [1, 2] → e ∈ pllWords x → k = e.1 → m &&& e.2 = 0

theorem State.pllCommitPre_words {D : ApplyPoint → Prop} (s : State) (ks : List RegKey) : WordsKept offPll D s (s.pllCommitPre ks) := by
  unfold State.pllCommitPre
  refine WordsKept.foldl _ (fun t x hx => WordsKept.ite ?_ (.refl t)) s
  have hrevert : WordsKept offPll D t ((pllWords x).foldl (fun s e => s.revertBits e.1 e.2) t) := WordsKept.foldl _
    (fun u e he => (WordsKept.revertBits u e.1 e.2).mono (fun _ _ h hk => h x e hx he hk) fun _ h => h) t
  exact hrevert.trans (.of_regs (State.raise_touches (ps := Part.others .regs) _ _ _ _ _ rfl .regs rfl))

/-- The bits that a commit of the words `ks` leaves alone. -/
abbrev offCommit (ks : List RegKey) (k : RegKey) (m : Word) : Prop := offPll k m ∧ ∀ k0, k0 ∈ ks → offCmt k0 k m

/-- What a commit leaves alone: the bits of other points, and the words that wait for other points. -/
theorem State.commit_words (s : State) : WordsKept (offCommit (s.waiting .cmt)) idlOrCmt s s.commit := by
  unfold State.commit
  extract_lets ks s1 _ s2
  have h1 : WordsKept (offCommit ks) idlOrCmt s s1 :=
    ((s.pllCommitPre_words ks).mono (fun _ _ h => h.1) fun _ h => h).trans (WordsKept.foldl ks
      (fun t k hk => (t.commitWord_words k).mono (fun _ _ h => h.2 k hk) fun _ h => h) _)
  clear_value s1
  have hdrop : WordsKept (offCommit ks) (· = .cmt) s1 s2 := WordsKept.dropped (sel := fun k => !(s1.capDeferred k)) rfl rfl rfl
  clear_value s2
  exact (h1.trans (hdrop.mono (fun _ _ h => h) fun _ h => .inr h)).trans (.of_regs (s2.commitPost_regs s))

theorem State.commit_atSec (s : State) : s.commit.regs.cmtAtSec = false := by
  unfold State.commit
  extract_lets ks s1 _ s2
  have h2 : s2.regs.cmtAtSec = false := rfl
  clear_value s2
  rw [s2.commitPost_regs s]
  exact h2

/-- The SEC bits of a word are left alone by a commit. -/
theorem offCommit_sec {k : RegKey} (h : k.pointMask .sec ≠ 0) (ks : List RegKey) : offCommit ks k (k.pointMask .sec) := by
  have hhas : k.name.hasPoint .sec = true := by
    by_contra hno
    exact h (RegKey.pointMask_none (Bool.eq_false_iff.mpr hno))
  refine ⟨fun x e _ he hk => ?_, fun k0 _ => ⟨fun hn => ?_, fun hn => ?_, fun hk => ?_⟩⟩
  · subst hk
    simp only [pllWords, List.mem_cons, List.not_mem_nil, or_false] at he
    rcases he with rfl | rfl | rfl | rfl | rfl <;> exact absurd hhas Bool.false_ne_true
  · rw [hn] at hhas
    exact absurd hhas Bool.false_ne_true
  · rw [hn] at hhas
    exact absurd hhas Bool.false_ne_true
  · rw [hk]
    exact k0.pointMask_sec_cmt

end Sys2Proof.Machine
end

section
/-! ## The words of the registers at a SEC point (R31, R35, R208) -/

set_option Elab.async false

namespace Sys2Proof.Machine

/-- The words that a correction of a link does not write. -/
abbrev offAsym (k : RegKey) (_ : Word) : Prop := k.name ≠ .lnkFixAsym

theorem State.putBoth_words {D : ApplyPoint → Prop} (s : State) (f : FieldRef) (x i j : Nat) (hf : f.reg ≠ .laneGrpMode) :
    WordsKept (fun k _ => k.name ≠ f.reg) D s (s.putBoth f x i j) where
  word k _ _ hne := by
    obtain ⟨hwritten, hstored⟩ := s.putBoth_others f x i j hf k (fun h => hne (congrArg RegKey.name h))
    rw [hwritten, hstored]
    exact ⟨rfl, rfl⟩
  waits _ _ _ hk := hk
  fewer _ _ hk := hk

theorem State.calBoundary_words {D : ApplyPoint → Prop} (s : State) (p : Nat) : WordsKept offAsym D s (s.calBoundary 3 p) := by
  unfold State.calBoundary
  split
  · exact .refl s
  · next c _ =>
    have hstore : WordsKept offAsym D s { s with cal := { s.cal with pend := Tab.erase s.cal.pend ⟨3, p, 0⟩, force := Tab.set s.cal.force ⟨3, p, 0⟩ c } } :=
      .of_regs rfl
    exact hstore.trans (State.putBoth_words _ Fld.lnkFixAsym_VAL _ p 0 (by decide))

/-- What comes after the words of a SEC point: corrections of links, and what no register shows. -/
def State.secTail (s : State) (l : List Nat) : State := ((l.foldl (fun s p => s.calBoundary 3 p) s).updateClass.pllSec).beacon

theorem State.secTail_regs (s : State) (l : List Nat) : (s.secTail l).regs = (l.foldl (fun s p => s.calBoundary 3 p) s).regs := by
  unfold State.secTail
  generalize l.foldl (fun s p => s.calBoundary 3 p) s = t
  exact (State.beacon_touches (ps := Part.others .regs) _ rfl .regs rfl).trans
    ((State.pllSec_touches (ps := Part.others .regs) _ rfl .regs rfl).trans (State.updateClass_touches (ps := Part.others .regs) t rfl .regs rfl))

theorem State.secTail_words {D : ApplyPoint → Prop} (s : State) (l : List Nat) : WordsKept offAsym D s (s.secTail l) :=
  (WordsKept.foldl l (fun t p _ => t.calBoundary_words p) s).trans (.of_regs (s.secTail_regs l))

theorem State.calBoundary_atSec (s : State) (a i : Nat) : (s.calBoundary a i).regs.cmtAtSec = s.regs.cmtAtSec := by
  unfold State.calBoundary
  split
  · rfl
  · unfold State.calApply
    dsimp only
    split
    · rfl
    · split <;> rfl

theorem State.secTail_atSec (s : State) (l : List Nat) : (s.secTail l).regs.cmtAtSec = s.regs.cmtAtSec := by
  rw [State.secTail_regs]
  exact foldl_kept (g := fun s : State => s.regs.cmtAtSec) l (fun t p _ => t.calBoundary_atSec 3 p) s

theorem State.applyAt_atSec (s : State) (p : ApplyPoint) (sel : RegKey → Bool) : (s.applyAt p sel).regs.cmtAtSec = s.regs.cmtAtSec :=
  foldl_kept (f := fun (s : State) (k : RegKey) => s.copyBits k (k.pointMask p)) (g := fun s : State => s.regs.cmtAtSec) (s.waitingAt p sel)
    (fun _ _ _ => rfl) s

theorem State.waiting_nil {s t : State} {P : RegKey → Word → Prop} {D : ApplyPoint → Prop} {p : ApplyPoint} (h : WordsKept P D s t)
    (hnil : s.waiting p = []) : t.waiting p = [] :=
  List.eq_nil_iff_forall_not_mem.mpr fun k hk => List.eq_nil_iff_forall_not_mem.mp hnil k (h.fewer p k hk)

/-- The commit that waits for a SEC point. -/
def State.secCommit (s : State) : State := if s.regs.cmtAtSec then s.commit else s

theorem State.secCommit_atSec (s : State) : s.secCommit.regs.cmtAtSec = false := by
  unfold State.secCommit
  split
  · exact s.commit_atSec
  · next h => exact Bool.eq_false_iff.mpr h

theorem State.secCommit_words (s : State) : WordsKept (offCommit (s.waiting .cmt)) idlOrCmt s s.secCommit :=
  WordsKept.ite s.commit_words (.refl s)

theorem State.secPoint_eq (s : State) : s.secPoint =
    (s.secCommit.applyAt .sec (fun _ => true)).secTail (List.range 96) := rfl

theorem State.secPoint_atSec (s : State) : s.secPoint.regs.cmtAtSec = false := by
  rw [State.secPoint_eq, State.secTail_atSec, State.applyAt_atSec]
  exact s.secCommit_atSec

theorem State.secPoint_waiting (s : State) : s.secPoint.waiting .sec = [] := by
  rw [State.secPoint_eq]
  exact State.waiting_nil (State.secTail_words (D := fun _ => False) _ _) (State.waitingAt_dropped (State.applyAt_pend _ .sec _))

theorem RegKey.sec_names {k : RegKey} (h : k.pointMask .sec ≠ 0) : k.name ≠ .laneTxEq := fun hn =>
  h (RegKey.pointMask_none (by rw [hn]; rfl))

/-- R31: the SEC fields of a word that waits take effect. -/
theorem State.secPoint_word {s : State} {k : RegKey} (hk : k ∈ s.waiting .sec) (hm : k.pointMask .sec ≠ 0) (hname : k.name ≠ .lnkFixAsym) :
    s.secPoint.written k &&& k.pointMask .sec = s.written k &&& k.pointMask .sec ∧
    s.secPoint.stored k &&& k.pointMask .sec = s.written k &&& k.pointMask .sec := by
  rw [State.secPoint_eq]
  have hne := RegKey.sec_names hm
  have hcommit := s.secCommit_words
  have hwait : k ∈ s.secCommit.waiting .sec := hcommit.waits .sec k (by simp) hk
  obtain ⟨hwritten, -⟩ := hcommit.word k _ hne (offCommit_sec hm _)
  obtain ⟨hw, hs⟩ := State.applyAt_word .sec (fun _ => true) (fun _ _ => .inl hne) s.secCommit
  rw [if_pos hwait] at hs
  obtain ⟨tw, ts⟩ := (State.secTail_words (D := fun _ => False) (s.secCommit.applyAt .sec (fun _ => true)) (List.range 96)).word k (k.pointMask .sec) hne hname
  rw [tw, ts, hw, hs, mergeBits_within]
  exact ⟨hwritten, hwritten⟩

/-- Nothing waits for a SEC point. -/
def State.SecTaken (s : State) : Prop := s.regs.cmtAtSec = false ∧ s.waiting .sec = []

theorem State.secPoint_taken (s : State) : s.secPoint.SecTaken := ⟨s.secPoint_atSec, s.secPoint_waiting⟩

theorem State.SecTaken.of_regs {s t : State} (h : s.SecTaken) (hregs : t.regs = s.regs) : t.SecTaken := by
  unfold State.SecTaken State.waiting State.waitingAt
  rw [hregs]
  exact h

/-- Where nothing waits for a SEC point none comes, and the words stand. -/
def SecSettled (s t : State) : Prop := s.SecTaken → t.SecTaken ∧ WordsKept offAsym (fun _ => True) s t

namespace SecSettled

variable {s t u : State}

theorem of_regs (h : t.regs = s.regs) : SecSettled s t := fun hs => ⟨hs.of_regs h, .of_regs h⟩

protected theorem refl (s : State) : SecSettled s s := of_regs rfl

protected theorem trans (h : SecSettled s t) (g : SecSettled t u) : SecSettled s u := fun hs =>
  ⟨(g (h hs).1).1, (h hs).2.trans (g (h hs).1).2⟩

protected theorem foldl {α : Type} {f : State → α → State} (hf : ∀ s x, SecSettled s (f s x)) (l : List α) (s : State) : SecSettled s (l.foldl f s) := by
  induction l generalizing s with
  | nil => exact .refl s
  | cons x l ih => exact (hf s x).trans (ih (f s x))

theorem secPoint (s : State) : SecSettled s s.secPoint := fun hs => by
  refine ⟨s.secPoint_taken, ?_⟩
  obtain ⟨hat, hnone⟩ := hs
  have hcommit : s.secCommit = s := if_neg (by rw [hat]; exact Bool.false_ne_true)
  rw [State.secPoint_eq, hcommit]
  have happly : WordsKept offAsym (fun _ => True) s (s.applyAt .sec (fun _ => true)) := {
    word := fun k m hk _ => by
      obtain ⟨hw, hstored⟩ := State.applyAt_word .sec (fun _ => true) (fun _ _ => .inl hk) s
      rw [if_neg (List.eq_nil_iff_forall_not_mem.mp hnone k)] at hstored
      rw [hw, hstored]
      exact ⟨rfl, rfl⟩
    waits := fun _ _ hp => absurd trivial hp
    fewer := fun p k hk => (WordsKept.applyAt s .sec (fun _ => true)).fewer p k hk }
  exact happly.trans (State.secTail_words _ _)

theorem moveCores (s : State) (c : Clock) (d : Int) : SecSettled s (s.moveCores c d) := by
  unfold State.moveCores
  extract_lets x ns s0 _ _ _ _ s1 s2
  have h2 : s2.regs = s.regs := (State.pllStepped_touches (ps := Part.others .regs) _ rfl .regs rfl).trans
    (State.gatesResync_touches (ps := Part.others .regs) _ rfl .regs rfl)
  have h3 : (s2.raise Ev.tcoreStepDone (unsigned 64 ns % 2 ^ 32) (unsigned 64 ns / 2 ^ 32)).regs = s2.regs :=
    State.raise_touches (ps := Part.others .regs) _ _ _ _ _ rfl .regs rfl
  generalize s2.raise Ev.tcoreStepDone (unsigned 64 ns % 2 ^ 32) (unsigned 64 ns / 2 ^ 32) = s3 at *
  exact (of_regs (h3.trans h2)).trans (secPoint s3)

theorem applyStep (s : State) (d : Int) : SecSettled s (s.applyStep d) := moveCores s _ d

theorem complete (s : State) (d : CmdDesc) (op : Nat) (st : Status) (r : List Byte) : SecSettled s (s.complete d op st 0 r) :=
  of_regs (State.complete_regs ..)

theorem stepToRef (s : State) (id : Nat) : SecSettled s (s.stepToRef id).1 := by
  unfold State.stepToRef
  dsimp only
  exact SecSettled.trans (t := s.applyStep (-(s.cand id).off * (unitsPerFrac : Int))) (applyStep s _)
    (of_regs (State.returnStepped_touches (ps := Part.others .regs) _ id rfl .regs rfl))

theorem stepInHoldover (s : State) (d : Int) : SecSettled s (s.stepInHoldover d) :=
  of_regs (State.stepInHoldover_touches (ps := Part.others .regs) _ d rfl .regs rfl)

theorem stepNow (s : State) (d : CmdDesc) : SecSettled s (s.stepNow d) := by
  unfold State.stepNow
  split
  · split
    · exact (stepToRef s _).trans (complete _ _ _ _ _)
    · exact complete s _ _ _ _
  · exact ((applyStep s _).trans (stepInHoldover _ _)).trans (complete _ _ _ _ _)

/-- The standby stands with the active core. -/
theorem trackZero (s : State) : SecSettled s { s with tcore := { s.tcore with trackErr := s.tcore.trackErr.map (fun _ => 0) } } := of_regs rfl

theorem setNow (s : State) (d : CmdDesc) : SecSettled s (s.setNow d) :=
  ((moveCores s _ _).trans (trackZero _)).trans (complete _ _ _ _ _)

theorem waitingSteps (s : State) : SecSettled s s.waitingSteps := by
  have hstep : ∀ (t : State) (w : WaitingStep), SecSettled t (if w.set then t.setNow w.desc else t.stepNow w.desc) := fun t w => by
    split
    · exact setNow t _
    · exact stepNow t _
  have hclear : SecSettled s { s with tcore := { s.tcore with steps := [] } } := of_regs rfl
  exact hclear.trans (SecSettled.foldl hstep s.tcore.steps _)

end SecSettled

end Sys2Proof.Machine
end

section
/-! ## The servo, TIME_STEP and TIME_SET, and the second boundary (R31, R206 to R208, R212, R213, R233) -/

set_option Elab.async false

namespace Sys2Proof.Machine

/-! ### Samples of the servo -/

/-- The servo's count of samples and its last offset stand. -/
def SamplesKept (s t : State) : Prop := t.tcore.samples = s.tcore.samples ∧ t.tcore.lastOff = s.tcore.lastOff

theorem SamplesKept.trans {s t u : State} (h : SamplesKept s t) (g : SamplesKept t u) : SamplesKept s u := ⟨g.1.trans h.1, g.2.trans h.2⟩

theorem SamplesKept.of_tcore {s t : State} (h : t.tcore = s.tcore) : SamplesKept s t :=
  ⟨congrArg TcoreState.samples h, congrArg TcoreState.lastOff h⟩

theorem State.updateClass_samples (s : State) : SamplesKept s s.updateClass := by
  unfold State.updateClass
  split
  · exact .of_tcore rfl
  · have hq : ∀ q, SamplesKept s (s.setQuality q) := fun q => by
      unfold State.setQuality
      exact ⟨rfl, rfl⟩
    exact (hq _).trans (.of_tcore (State.timeStateOut_touches (ps := Part.others .tcore) _ rfl .tcore rfl))

theorem State.setTstate_samples (s : State) (st : TState) (b : Bool) : SamplesKept s (s.setTstate st b) := by
  unfold State.setTstate
  split
  · exact .of_tcore rfl
  · extract_lets s1 _ _ s2 s3
    have h2 : SamplesKept s s2 := ⟨rfl, rfl⟩
    clear_value s2
    have h3 : SamplesKept s s3 := (h2.trans s2.updateClass_samples).trans
      (.of_tcore (State.freerunRate_touches (ps := Part.others .tcore) _ rfl .tcore rfl))
    clear_value s3
    split
    · exact h3.trans (.of_tcore ((State.wakeEvent_touches (ps := Part.others .tcore) _ _ rfl .tcore rfl).trans
        (State.raise_touches (ps := Part.others .tcore) _ _ _ _ _ rfl .tcore rfl)))
    · exact h3

section Servo

variable (s : State) (off : Int)

/-- The samples in a row within LOCK_NS. -/
def State.inRow : Nat := if off.natAbs ≤ s.lockNs then s.tcore.lockCnt + 1 else 0

/-- The servo has taken a sample. -/
def State.sampled : State :=
  { s with tcore := { s.tcore with samples := satAdd 32 s.tcore.samples 1, lastOff := off, acqFirst := false, lockCnt := s.inRow off } }

/-- A limited slew is over. -/
def State.slewEnd : State := { s with tcore := { s.tcore with thaw := none } }

/-- RATE has moved, and a limited slew may be over. -/
def State.rated : State :=
  if s.inRow off ≠ 0 ∧ (s.sampled off).freeRate.tcore.tstate = .locked then (s.sampled off).freeRate.slewEnd else (s.sampled off).freeRate

variable {s off}

theorem State.freeRate_eq (t : State) : ∃ r, t.freeRate = { t with clk := { t.clk with rate := r }, free := t.free + 1 } := by
  unfold State.freeRate
  split
  · exact ⟨_, rfl⟩
  · exact ⟨_, rfl⟩

theorem State.rated_gives : RateOnly s (s.rated off) ∧ (s.rated off).tcore.tstate = s.tcore.tstate ∧ (s.rated off).tcore.samples = satAdd 32 s.tcore.samples 1 ∧
    (s.rated off).tcore.lastOff = off ∧ (s.rated off).tcore.lockCnt = s.inRow off ∧ (s.rated off).regs = s.regs ∧ (s.rated off).pair = s.pair ∧
    Touches [.clk, .tcore, .free] s (s.rated off) := by
  obtain ⟨r, hfree⟩ := (s.sampled off).freeRate_eq
  have hframe : Touches [.clk, .tcore, .free] s (s.sampled off).freeRate := by
    rw [hfree]
    have h1 : Touches [.clk, .tcore, .free] s (s.sampled off) := (Touches.refl _ s).set_tcore rfl
    have h2 : Touches [.clk, .tcore, .free] s { s.sampled off with clk := { (s.sampled off).clk with rate := r } } := h1.set_clk rfl
    exact h2.set_free rfl
  have hend : ∀ t : State, t = (s.sampled off).freeRate ∨ t = (s.sampled off).freeRate.slewEnd →
      RateOnly s t ∧ t.tcore.tstate = s.tcore.tstate ∧ t.tcore.samples = satAdd 32 s.tcore.samples 1 ∧ t.tcore.lastOff = off ∧
      t.tcore.lockCnt = s.inRow off ∧ t.regs = s.regs ∧ t.pair = s.pair ∧ Touches [.clk, .tcore, .free] s t := by
    rintro t (rfl | rfl)
    · refine ⟨⟨r, by rw [hfree]; rfl⟩, ?_, ?_, ?_, ?_, ?_, ?_, hframe⟩ <;> rw [hfree] <;> rfl
    · have hslew : Touches [.clk, .tcore, .free] s (s.sampled off).freeRate.slewEnd := hframe.set_tcore rfl
      refine ⟨⟨r, by rw [State.slewEnd, hfree]; rfl⟩, ?_, ?_, ?_, ?_, ?_, ?_, hslew⟩ <;> rw [State.slewEnd, hfree] <;> rfl
  unfold State.rated
  split
  · exact hend _ (.inr rfl)
  · exact hend _ (.inl rfl)

/-- R206: a sample that steps nothing moves RATE, and the sixteenth in a row within LOCK_NS locks. -/
theorem State.servoTake_rates (hservo : s.apB Fld.tcoreCtrl_SERVO_EN = true)
    (hst : s.tcore.tstate = .acquire ∨ s.tcore.tstate = .locked) (hauto : s.autoStep off = false) :
    s.servoTake off = if (s.rated off).tcore.tstate = .acquire ∧ 16 ≤ s.inRow off then (s.rated off).setTstate .locked else s.rated off := by
  have hon : ¬ (!(s.apB Fld.tcoreCtrl_SERVO_EN)) = true := by rw [hservo]; decide
  have hact : ¬ (!s.pair.follow && decide (s.tcore.tstate ≠ .acquire) && decide (s.tcore.tstate ≠ .locked)) = true := by
    rcases hst with h | h <;> simp [h]
  unfold State.servoTake
  rw [if_neg hon, if_neg hact, if_neg (by rw [hauto]; exact Bool.false_ne_true)]
  rfl

/-- R206: the first sample after FREERUN steps both cores. -/
theorem State.servoTake_steps (hservo : s.apB Fld.tcoreCtrl_SERVO_EN = true)
    (hst : s.tcore.tstate = .acquire ∨ s.tcore.tstate = .locked) (hauto : s.autoStep off = true) :
    ∃ u : State, u.clk = s.clk ∧ s.servoTake off = u.applyStep (-off * (unitsPerFrac : Int)) := by
  have hon : ¬ (!(s.apB Fld.tcoreCtrl_SERVO_EN)) = true := by rw [hservo]; decide
  have hact : ¬ (!s.pair.follow && decide (s.tcore.tstate ≠ .acquire) && decide (s.tcore.tstate ≠ .locked)) = true := by
    rcases hst with h | h <;> simp [h]
  refine ⟨{ s.sampled off with tcore := { (s.sampled off).tcore with lockCnt := 0 } }, rfl, ?_⟩
  unfold State.servoTake
  rw [if_neg hon, if_neg hact, if_pos hauto]
  rfl

theorem State.servoTake_off (hservo : s.apB Fld.tcoreCtrl_SERVO_EN = false) : s.servoTake off = s := by
  unfold State.servoTake
  rw [hservo]
  rfl

/-- REF has measured an offset of a candidate. -/
def State.measuredCand (s : State) (id : Nat) (off : Int) : State := s.withCands (Tab.set s.ref.cands id ((s.cand id).measured off))

theorem State.servoSample_selected {id : Nat} (hsel : s.ref.tsel = some id) (hst : (s.cand id).st = .selected) (hstep : s.ref.stepPend = none) :
    s.servoSample off = if !s.pair.follow then (s.measuredCand id off).servoTake (off - s.ref.bias) else s.measuredCand id off := by
  have hcand : (s.measuredCand id off).cand id = (s.cand id).measured off := Tab.get_set_self _ _ _ _
  have hreturn : (s.measuredCand id off).returnCheck id off = s.measuredCand id off :=
    if_neg (fun h => absurd (hstep.symm.trans h.1) (by simp))
  have hrun : s.timeSample id off =
      (if ((s.measuredCand id off).returnCheck id off).ref.tsel = some id ∧ (((s.measuredCand id off).returnCheck id off).cand id).st = .selected ∧
          ((s.measuredCand id off).returnCheck id off).ref.stepPend ≠ some id ∧ !((s.measuredCand id off).returnCheck id off).pair.follow then
        ((s.measuredCand id off).returnCheck id off).servoTake (off - ((s.measuredCand id off).returnCheck id off).ref.bias)
      else (s.measuredCand id off).returnCheck id off) := if_pos (.inr (.inr hst))
  unfold State.servoSample
  rw [hsel]
  refine hrun.trans ?_
  rw [hreturn]
  have hcond : ((s.measuredCand id off).ref.tsel = some id ∧ ((s.measuredCand id off).cand id).st = .selected ∧
      (s.measuredCand id off).ref.stepPend ≠ some id ∧ !(s.measuredCand id off).pair.follow) ↔ (!s.pair.follow) = true := by
    refine ⟨fun h => h.2.2.2, fun h => ⟨hsel, by rw [hcand]; exact hst, ?_, h⟩⟩
    exact fun hp => absurd (hstep.symm.trans hp) (by simp)
  by_cases hf : (!s.pair.follow) = true
  · rw [if_pos (hcond.mpr hf), if_pos hf]
    rfl
  · rw [if_neg (fun h => hf (hcond.mp h)), if_neg hf]

end Servo

/-! ### The clock and the steps that wait -/

/-- Of the clock the rate alone may change, and the steps that wait stay. -/
def Paced (s t : State) : Prop := RateOnly s t ∧ t.tcore.steps = s.tcore.steps

theorem refClosed_paced : RefClosed Paced where
  refl s := ⟨refClosed_rateOnly.refl s, rfl⟩
  trans h g := ⟨refClosed_rateOnly.trans h.1 g.1, g.2.trans h.2⟩
  quiet h := ⟨refClosed_rateOnly.quiet h, congrArg TcoreState.steps (h .tcore rfl)⟩
  ref s x h := ⟨refClosed_rateOnly.ref s x h, rfl⟩
  chan s i st := ⟨refClosed_rateOnly.chan s i st, congrArg TcoreState.steps (State.setChanSt_touches (ps := Part.others .tcore) s i st rfl .tcore rfl)⟩
  quality s q := ⟨refClosed_rateOnly.quality s q, by rw [State.setQuality]⟩
  tstate s x hsteps hin htrack hswap hs hports := ⟨refClosed_rateOnly.tstate s x hsteps hin htrack hswap hs hports, hsteps⟩
  rate s r := ⟨refClosed_rateOnly.rate s r, rfl⟩

theorem secClosed_paced : SecClosed Paced where
  toRefClosed := refClosed_paced
  calm h := ⟨secClosed_rateOnly.calm h, congrArg TcoreState.steps (h .tcore rfl)⟩

theorem RefClosed.stepInHoldover {R : State → State → Prop} (h : RefClosed R) (s : State) (d : Int) : R s (s.stepInHoldover d) := by
  unfold State.stepInHoldover
  split
  · exact h.refl s
  · extract_lets e _ s1 s2
    have h1 : R s s1 := h.ref s _ (by rfl)
    clear_value s1
    have h2 : R s s2 := h.trans h1 (h.setTstate s1 _ _)
    clear_value s2
    exact RefClosed.ite (h.trans h2 (h.setTstate s2 _ _)) h2

theorem SecClosed.pairSwitch {R : State → State → Prop} (h : SecClosed R) (s : State) : R s s.pairSwitch := by
  have hset : ∀ (t : State) (x : PairState), R t { t with pair := x } := fun t x => h.calm ((Touches.refl _ t).set_pair rfl)
  unfold State.pairSwitch
  split
  · exact h.refl s
  · refine RefClosed.ite (h.refl s) ?_
    extract_lets good _ s1
    have h1 : R s s1 := hset s _
    clear_value s1
    exact RefClosed.ite (h.trans h1 (h.pairPromote s1 1 good)) (h.trans (h.trans h1 (hset s1 _)) (h.startFollow _))

/-- What a second brings, from the SEC point on, before the steps that waited. -/
def State.secUnits (s : State) : State := ((((((s.secPoint.pairSwitch).pairSec).refSec).gnssModeSec).ppsSec).lnkSec).selSec.calSaveEnd

theorem SecClosed.secUnits {R : State → State → Prop} (h : SecClosed R) (hcal : ∀ s : State, R s s.calSaveEnd) (hgnss : ∀ s : State, R s s.gnssModeSec) (s : State) :
    R s s.secUnits := by
  have hpair : R s ((s.secPoint.pairSwitch).pairSec) := h.trans (h.trans (h.secPoint s) (h.pairSwitch _)) (h.calm (State.pairSec_touches _ rfl))
  unfold State.secUnits
  generalize (s.secPoint.pairSwitch).pairSec = t at *
  have hsel : R t ((((t.refSec).gnssModeSec).ppsSec).lnkSec).selSec := by
    have h1 : R t ((((t.refSec).gnssModeSec).ppsSec).lnkSec) := h.trans (h.trans (h.calm (State.refSec_touches t rfl)) (hgnss _))
      (h.calm ((State.ppsSec_touches _ rfl).step (State.lnkSec_touches _ rfl)))
    generalize (((t.refSec).gnssModeSec).ppsSec).lnkSec = u at *
    exact h.trans h1 (RefClosed.ite (h.trans (h.ref u { u.ref with selDue := false } rfl) (h.toRefClosed.reselect _)) (h.refl u))
  exact h.trans (h.trans hpair hsel) (hcal _)

theorem State.secUnits_paced (s : State) : Paced s s.secUnits :=
  secClosed_paced.secUnits
    (fun s => ⟨.of_clk (State.calSaveEnd_touches (ps := Part.others .clk) s rfl .clk rfl),
      congrArg TcoreState.steps (State.calSaveEnd_touches (ps := Part.others .tcore) s rfl .tcore rfl)⟩)
    (fun s => ⟨.of_clk (State.gnssModeSec_touches (ps := Part.others .clk) s rfl .clk rfl),
      congrArg TcoreState.steps (State.gnssModeSec_touches (ps := Part.others .tcore) s rfl .tcore rfl)⟩) s

/-! ### Steps -/

theorem State.moveCores_steps (s : State) (c : Clock) (d : Int) : (s.moveCores c d).tcore.steps = s.tcore.steps := by
  unfold State.moveCores
  extract_lets x ns s0 _ _ _ _ s1 s2
  have h2 : s2.tcore = s1.swapAfterStep.tcore := (State.pllStepped_touches (ps := Part.others .tcore) _ rfl .tcore rfl).trans
    (State.gatesResync_touches (ps := Part.others .tcore) _ rfl .tcore rfl)
  have h3 : (s2.raise Ev.tcoreStepDone (unsigned 64 ns % 2 ^ 32) (unsigned 64 ns / 2 ^ 32)).tcore = s2.tcore :=
    State.raise_touches (ps := Part.others .tcore) _ _ _ _ _ rfl .tcore rfl
  generalize s2.raise Ev.tcoreStepDone (unsigned 64 ns % 2 ^ 32) (unsigned 64 ns / 2 ^ 32) = s3 at *
  exact ((secClosed_paced.secPoint s3).2.trans (congrArg TcoreState.steps (h3.trans h2))).trans
    (rfl : s1.swapAfterStep.tcore.steps = s.tcore.steps)

theorem State.applyStep_steps (s : State) (d : Int) : (s.applyStep d).tcore.steps = s.tcore.steps := s.moveCores_steps _ d

/-- A step by command, before its completion (R208, R269). -/
def State.commandedStep (s : State) (u : Int) : State := (s.applyStep u).stepInHoldover u

theorem State.commandedStep_gives (s : State) (u : Int) :
    (s.commandedStep u).clk.tcA = (s.clk.shift u).tcA ∧ (s.commandedStep u).clk.tcB = (s.clk.shift u).tcB ∧
    (s.commandedStep u).tcore.steps = s.tcore.steps := by
  unfold State.commandedStep
  obtain ⟨hA, hB⟩ := State.applyStep_cores (s := s) u
  have hsteps := s.applyStep_steps u
  generalize s.applyStep u = t at *
  obtain ⟨⟨r, hclk⟩, hkept⟩ := refClosed_paced.stepInHoldover t u
  rw [hclk]
  exact ⟨hA, hB, hkept.trans hsteps⟩

/-- TIME_STEP as its command says: both cores move, and the completion says where they stand. -/
theorem State.stepNow_plain {s : State} {d : CmdDesc} (href : d.toRef = false) :
    s.stepNow d = (s.commandedStep (d.argI 12 8 * (unitsPerFrac : Int))).complete d 0xB001 .ok 0
      ((s.commandedStep (d.argI 12 8 * (unitsPerFrac : Int))).stepBytes (d.argI 12 8)) := by
  simp only [State.stepNow, href, Bool.false_eq_true, if_false, State.commandedStep]

/-- Both cores are set to `x` (R208). -/
def State.setCores (s : State) (x : Nat) : State := s.moveCores { s.clk with tcA := x, tcB := x } ((x : Int) - (s.tod : Int))

/-- The standby stands with the active core. -/
def State.trackZero (s : State) : State := { s with tcore := { s.tcore with trackErr := s.tcore.trackErr.map (fun _ => 0) } }

theorem State.setNow_eq {s : State} {d : CmdDesc} {x : Nat} (hx : d.arg 12 6 * unitsPerS = x) :
    s.setNow d = (s.setCores x).trackZero.complete d 0xB002 .ok 0 (leBytes (secOf (s.setCores x).trackZero.tod) 6) := by
  simp only [State.setNow, hx, State.setCores, State.trackZero]

theorem State.setCores_gives (s : State) (x : Nat) :
    (s.setCores x).trackZero.clk.tcA = x ∧ (s.setCores x).trackZero.clk.tcB = x ∧ (s.setCores x).trackZero.tod = x ∧
    (s.setCores x).trackZero.tcore.steps = s.tcore.steps := by
  obtain ⟨hA, hB⟩ := s.moveCores_cores { s.clk with tcA := x, tcB := x } ((x : Int) - (s.tod : Int))
  have hsteps := s.moveCores_steps { s.clk with tcA := x, tcB := x } ((x : Int) - (s.tod : Int))
  unfold State.setCores
  generalize s.moveCores { s.clk with tcA := x, tcB := x } ((x : Int) - (s.tod : Int)) = t at *
  have hclk : t.trackZero.clk = t.clk := rfl
  refine ⟨hA, hB, ?_, hsteps⟩
  rw [State.tod, hclk, hA, hB, ite_self]

theorem State.setNow_gives {s : State} {d : CmdDesc} {x : Nat} (hx : d.arg 12 6 * unitsPerS = x) :
    (s.setNow d).clk.tcA = x ∧ (s.setNow d).clk.tcB = x ∧ (s.setNow d).tcore.steps = s.tcore.steps ∧
    Completed d 0xB002 .ok 0 (leBytes (secOf x) 6) (s.setNow d) := by
  obtain ⟨hA, hB, htod, hsteps⟩ := s.setCores_gives x
  rw [State.setNow_eq hx, htod, State.complete_clk, State.complete_tcore]
  exact ⟨hA, hB, hsteps, State.complete_lastCpl ..⟩

theorem RefClosed.returnStepped {R : State → State → Prop} (h : RefClosed R) (s : State) (id : Nat) : R s (s.returnStepped id) := by
  unfold State.returnStepped
  extract_lets _ s1
  have h1 : R s s1 := h.trans (h.ref s _ (by rfl)) (h.timeStateOut _)
  clear_value s1
  exact RefClosed.ite (h.trans h1 (h.setTstate s1 _ _)) (RefClosed.ite h1 (h.trans h1 (h.selectBias s1 id 0)))

/-- A step to the reference (R267), before its completion. -/
theorem State.stepToRef_gives (s : State) (id : Nat) :
    (s.stepToRef id).1.clk.tcA = (s.clk.shift (-(s.cand id).off * (unitsPerFrac : Int))).tcA ∧
    (s.stepToRef id).1.clk.tcB = (s.clk.shift (-(s.cand id).off * (unitsPerFrac : Int))).tcB := by
  obtain ⟨hA, hB⟩ := State.applyStep_cores (s := s) (-(s.cand id).off * (unitsPerFrac : Int))
  unfold State.stepToRef
  dsimp only
  generalize s.applyStep (-(s.cand id).off * (unitsPerFrac : Int)) = t at *
  obtain ⟨r, hclk⟩ := refClosed_rateOnly.returnStepped t id
  rw [hclk]
  exact ⟨hA, hB⟩

theorem State.stepNow_toRef {s : State} {d : CmdDesc} {id : Nat} (href : d.toRef = true) (hpend : s.ref.stepPend = some id) :
    s.stepNow d = (s.stepToRef id).1.complete d 0xB001 .ok 0 ((s.stepToRef id).1.stepBytes (-(s.cand id).off)) := by
  simp only [State.stepNow, href, if_true, hpend, State.stepToRef]

/-! ### The model clock -/

/-- The model clock stands. -/
def NowKept (s t : State) : Prop := t.clk.now = s.clk.now

theorem NowKept.trans {s t u : State} (h : NowKept s t) (g : NowKept t u) : NowKept s u := Eq.trans g h

theorem NowKept.of_rate {s t : State} (h : RateOnly s t) : NowKept s t := by
  obtain ⟨r, hclk⟩ := h
  rw [NowKept, hclk]

theorem State.moveCores_now (s : State) (c : Clock) (d : Int) (hc : c.now = s.clk.now) : NowKept s (s.moveCores c d) := by
  unfold State.moveCores
  extract_lets x ns s0 _ _ _ _ s1 s2
  have h2 : s2.clk = s1.clk := (State.pllStepped_touches (ps := Part.others .clk) _ rfl .clk rfl).trans
    (State.gatesResync_touches (ps := Part.others .clk) _ rfl .clk rfl)
  have h3 : (s2.raise Ev.tcoreStepDone (unsigned 64 ns % 2 ^ 32) (unsigned 64 ns / 2 ^ 32)).clk = s2.clk :=
    State.raise_touches (ps := Part.others .clk) _ _ _ _ _ rfl .clk rfl
  generalize s2.raise Ev.tcoreStepDone (unsigned 64 ns % 2 ^ 32) (unsigned 64 ns / 2 ^ 32) = s3 at *
  have h1 : s1.clk.now = c.now := rfl
  exact Eq.trans (NowKept.of_rate (secClosed_rateOnly.secPoint s3)) ((congrArg Clock.now (h3.trans h2)).trans (h1.trans hc))

theorem State.applyStep_now (s : State) (d : Int) : NowKept s (s.applyStep d) := s.moveCores_now _ d rfl

theorem State.stepToRef_now (s : State) (id : Nat) : NowKept s (s.stepToRef id).1 := by
  unfold State.stepToRef
  dsimp only
  exact NowKept.trans (t := s.applyStep (-(s.cand id).off * (unitsPerFrac : Int))) (s.applyStep_now _)
    (.of_rate (refClosed_rateOnly.returnStepped _ id))

theorem State.stepNow_now (s : State) (d : CmdDesc) : NowKept s (s.stepNow d) := by
  have hcpl : ∀ (u : State) st r, NowKept u (u.complete d 0xB001 st 0 r) := fun u st r => (congrArg Clock.now (State.complete_clk ..) :)
  unfold State.stepNow
  split
  · split
    · exact (s.stepToRef_now _).trans (hcpl _ _ _)
    · exact hcpl s _ _
  · exact ((s.applyStep_now _).trans (.of_rate (refClosed_rateOnly.stepInHoldover _ _))).trans (hcpl _ _ _)

theorem State.setNow_now (s : State) (d : CmdDesc) : NowKept s (s.setNow d) := by
  rw [State.setNow_eq rfl]
  have hmove : NowKept s (s.setCores (d.arg 12 6 * unitsPerS)) := s.moveCores_now _ _ rfl
  generalize s.setCores (d.arg 12 6 * unitsPerS) = t at *
  have hzero : NowKept t t.trackZero := rfl
  exact (hmove.trans hzero).trans (congrArg Clock.now (State.complete_clk ..) :)

theorem State.waitingSteps_now (s : State) : NowKept s s.waitingSteps := by
  have hstep : ∀ (t : State) (w : WaitingStep), NowKept t (if w.set then t.setNow w.desc else t.stepNow w.desc) := fun t w => by
    split
    · exact t.setNow_now _
    · exact t.stepNow_now _
  exact foldl_kept (g := fun s : State => s.clk.now) s.tcore.steps (fun t w _ => hstep t w) { s with tcore := { s.tcore with steps := [] } }

/-! ### The second boundary -/

section Boundary

variable (s : State)

/-- The second that begins at the next boundary. -/
def State.nextSec : Nat := max (s.tod / unitsPerS) s.clk.secDone + 1

/-- Both cores and the model clock stand at the next boundary of the active core. -/
def State.atBoundary : State := { s with clk := { s.clk.shift s.toBoundary with now := s.clk.now + s.toBoundary.toNat / unitsPerPs } }

/-- A swap is due at this second (R212, R213). -/
def State.swapDue : Bool := s.tcore.swapPend.any (fun t => decide (t ≤ s.tod)) && decide (s.tcore.steps = [])

/-- The start of a second: the swap that is due, or the standby's count. -/
def State.secStart : State := if s.markSecond.swapDue then s.markSecond.swapCores else s.markSecond.trackSec

theorem State.secondBoundary_eq : s.secondBoundary = s.atBoundary.secStart.secUnits.waitingSteps := rfl

theorem State.atBoundary_tod : s.atBoundary.tod = s.nextSec * unitsPerS := by
  have hshift : s.atBoundary.tod = ((s.tod : Int) + s.toBoundary).toNat := by
    have htod : s.atBoundary.tod =
      if s.clk.active then ((s.clk.tcB : Int) + s.toBoundary).toNat else ((s.clk.tcA : Int) + s.toBoundary).toNat := rfl
    rw [htod, State.tod]
    cases s.clk.active <;> rfl
  have hto : s.toBoundary = ((s.nextSec * unitsPerS : Nat) : Int) - (s.tod : Int) := rfl
  rw [hshift, hto]
  omega

theorem State.secStart_gives : s.secStart.clk = { s.clk with secDone := s.tod / unitsPerS, active := if s.swapDue then !s.clk.active else s.clk.active } ∧
    s.secStart.tcore.steps = s.tcore.steps ∧ s.secStart.regs = s.regs := by
  have hdue : s.markSecond.swapDue = s.swapDue := rfl
  have hclk : s.markSecond.clk = { s.clk with secDone := s.tod / unitsPerS } := rfl
  have htcore : s.markSecond.tcore = s.tcore := rfl
  have hregs : s.markSecond.regs = s.regs := rfl
  unfold State.secStart
  rw [hdue]
  generalize s.markSecond = t at *
  cases s.swapDue
  · simp only [Bool.false_eq_true, if_false]
    refine ⟨?_, ?_, ?_⟩
    · rw [State.trackSec_touches (ps := Part.others .clk) t rfl .clk rfl, hclk]
    · rw [← htcore]
      unfold State.trackSec
      split <;> rfl
    · rw [State.trackSec_touches (ps := Part.others .regs) t rfl .regs rfl, hregs]
  · simp only [if_true]
    obtain ⟨hswap, hcore⟩ := t.swapCores_gives
    refine ⟨?_, ?_, ?_⟩
    · rw [hswap, hclk]
    · rw [hcore, ← htcore]
    · rw [State.swapCores_touches (ps := Part.others .regs) t rfl .regs rfl, hregs]

end Boundary

/-- No step waits any more. -/
def State.stepsTaken (s : State) : State := { s with tcore := { s.tcore with steps := [] } }

theorem State.stepsTaken_clk (s : State) : s.stepsTaken.clk = s.clk := rfl

theorem State.stepsTaken_steps (s : State) : s.stepsTaken.tcore.steps = [] := rfl

theorem State.waitingSteps_none {s : State} (h : s.tcore.steps = []) : s.waitingSteps.clk = s.clk := by
  rw [State.waitingSteps, h]
  rfl

theorem State.waitingSteps_one {s : State} {d : CmdDesc} {set : Bool} (h : s.tcore.steps = [⟨d, set⟩]) :
    s.waitingSteps = if set then s.stepsTaken.setNow d else s.stepsTaken.stepNow d := by
  rw [State.waitingSteps, h]
  rfl

theorem State.secUnits_settled {s : State} : s.secUnits.SecTaken ∧ WordsKept offAsym (fun _ => True) s.secPoint s.secUnits := by
  have hregs : s.secUnits.regs = s.secPoint.regs := by
    unfold State.secUnits
    generalize s.secPoint = t
    refine (State.calSaveEnd_touches (ps := Part.others .regs) _ rfl .regs rfl).trans ((State.selSec_touches (ps := Part.others .regs) _ rfl .regs rfl).trans ?_)
    refine (State.lnkSec_touches (ps := Part.others .regs) _ rfl .regs rfl).trans ((State.ppsSec_touches (ps := Part.others .regs) _ rfl .regs rfl).trans ?_)
    refine (State.gnssModeSec_touches (ps := Part.others .regs) _ rfl .regs rfl).trans ((State.refSec_touches (ps := Part.others .regs) _ rfl .regs rfl).trans ?_)
    exact (State.pairSec_touches (ps := Part.others .regs) _ rfl .regs rfl).trans (State.pairSwitch_touches (ps := Part.others .regs) _ rfl .regs rfl)
  exact ⟨s.secPoint_taken.of_regs hregs, .of_regs hregs⟩

/-- R31: after a second boundary nothing waits for a SEC point. -/
theorem State.secondBoundary_taken (s : State) : s.secondBoundary.SecTaken := by
  rw [State.secondBoundary_eq]
  exact (SecSettled.waitingSteps _ State.secUnits_settled.1).1

theorem State.secondBoundary_now (s : State) : s.secondBoundary.clk.now = s.clk.now + s.toBoundary.toNat / unitsPerPs := by
  rw [State.secondBoundary_eq]
  have h1 : s.atBoundary.clk.now = s.clk.now + s.toBoundary.toNat / unitsPerPs := rfl
  have h2 : s.atBoundary.secStart.clk.now = s.atBoundary.clk.now := by rw [s.atBoundary.secStart_gives.1]
  exact Eq.trans (State.waitingSteps_now _) (Eq.trans (NowKept.of_rate (State.secUnits_paced _).1) (h2.trans h1))

/-- R31: the SEC fields of a word that waits have their written value after a second boundary. -/
theorem State.secondBoundary_word {s : State} {k : RegKey} (hk : k ∈ s.waiting .sec) (hm : k.pointMask .sec ≠ 0) (hname : k.name ≠ .lnkFixAsym) :
    s.secondBoundary.written k &&& k.pointMask .sec = s.written k &&& k.pointMask .sec ∧
    s.secondBoundary.stored k &&& k.pointMask .sec = s.written k &&& k.pointMask .sec := by
  rw [State.secondBoundary_eq]
  have hregs : s.atBoundary.secStart.regs = s.regs := s.atBoundary.secStart_gives.2.2
  have hwait : k ∈ s.atBoundary.secStart.waiting .sec := by rwa [State.waiting, State.waitingAt, hregs]
  have hwritten := State.written_of_regs hregs k
  generalize s.atBoundary.secStart = t at *
  obtain ⟨hw, hs⟩ := State.secPoint_word hwait hm hname
  obtain ⟨htaken, hunits⟩ := t.secUnits_settled
  obtain ⟨uw, us⟩ := hunits.word k (k.pointMask .sec) (RegKey.sec_names hm) hname
  obtain ⟨vw, vs⟩ := (SecSettled.waitingSteps t.secUnits htaken).2.word k (k.pointMask .sec) (RegKey.sec_names hm) hname
  rw [← hwritten]
  exact ⟨vw.trans (uw.trans hw), vs.trans (us.trans hs)⟩

/-- The clock after a second boundary, before the steps that waited. -/
theorem State.boundary_clk (s : State) : ∃ r, s.atBoundary.secStart.secUnits.clk =
    { s.clk.shift s.toBoundary with
      rate := r, now := s.clk.now + s.toBoundary.toNat / unitsPerPs, secDone := s.nextSec
      active := if s.atBoundary.swapDue then !s.clk.active else s.clk.active } := by
  obtain ⟨⟨r, hclk⟩, -⟩ := s.atBoundary.secStart.secUnits_paced
  have hpos : 0 < unitsPerS := by unfold unitsPerS unitsPerNs; norm_num
  have hsec : s.atBoundary.tod / unitsPerS = s.nextSec := by rw [State.atBoundary_tod, Nat.mul_div_cancel _ hpos]
  obtain ⟨hstart, -, -⟩ := s.atBoundary.secStart_gives
  rw [hsec] at hstart
  exact ⟨r, by rw [hclk, hstart]; rfl⟩

theorem State.boundary_steps (s : State) : s.atBoundary.secStart.secUnits.tcore.steps = s.tcore.steps :=
  (s.atBoundary.secStart.secUnits_paced).2.trans s.atBoundary.secStart_gives.2.1

theorem State.exec_secondBoundary {s : State} (hup : s.Up) (hready : s.isReady Rdy.tcore = true) :
    exec .secondBoundary s = effectInReset true s s.secondBoundary := by
  have hrun : s.secondEvent = s.secondBoundary := by
    unfold State.secondEvent
    rw [hup, hready]
    rfl
  rw [← hrun]
  rfl

theorem State.stepBytes_of_clk {s t : State} (h : t.clk = s.clk) (x : Int) : t.stepBytes x = s.stepBytes x := by
  rw [State.stepBytes, State.stepBytes, State.tod, State.tod, h]

/-- The completion of a step says where the cores stand. -/
theorem State.stepped_gives {s v : State} {d : CmdDesc} {A B : Nat} {x : Int} {P : State → Prop} (hA : v.clk.tcA = A) (hB : v.clk.tcB = B)
    (hP : P ((v.complete d 0xB001 .ok 0 (v.stepBytes x)).carry s)) :
    ((v.complete d 0xB001 .ok 0 (v.stepBytes x)).carry s).clk.tcA = A ∧ ((v.complete d 0xB001 .ok 0 (v.stepBytes x)).carry s).clk.tcB = B ∧
    Completed d 0xB001 .ok 0 (((v.complete d 0xB001 .ok 0 (v.stepBytes x)).carry s).stepBytes x) ((v.complete d 0xB001 .ok 0 (v.stepBytes x)).carry s) ∧
    P ((v.complete d 0xB001 .ok 0 (v.stepBytes x)).carry s) := by
  have hclk : ((v.complete d 0xB001 .ok 0 (v.stepBytes x)).carry s).clk = v.clk := (State.carry_clk _ _).trans (State.complete_clk ..)
  rw [State.stepBytes_of_clk hclk, hclk]
  exact ⟨hA, hB, State.complete_lastCpl .., hP⟩

/-- Settles O35: a sample that steps nothing moves RATE alone; a step moves both cores by one amount through the SEC point that it brings; a second boundary
takes its SEC point once, so that nothing waits for one when the steps that waited are made. -/
theorem servoAndTimeSteps : Obligations.ServoAndTimeSteps := by
  unfold Obligations.ServoAndTimeSteps
  refine ⟨?servo, ?servoOff, ?timeStep, ?timeSet, ?second, ?word, ?swap, ?steps⟩
  case servo =>
    intro s off id hup hsel hst hstep hfollow hservo htstate
    have hrun := State.servoSample_selected (off := off) hsel hst hstep
    rw [hfollow, Bool.not_false, if_pos rfl] at hrun
    have hframe : Touches [.ref] s (s.measuredCand id off) := (Touches.refl _ _).set_ref rfl
    have hclk : (s.measuredCand id off).clk = s.clk := rfl
    have htcore : (s.measuredCand id off).tcore = s.tcore := rfl
    have hregs : (s.measuredCand id off).regs = s.regs := rfl
    have hpair : (s.measuredCand id off).pair.follow = false := hfollow
    have hexec : exec (.servoSample off) s = effect true s (s.servoSample off) := rfl
    have hauto1 : (s.measuredCand id off).autoStep (off - s.ref.bias) = s.autoStep (off - s.ref.bias) := rfl
    have hlock : (s.measuredCand id off).lockNs = s.lockNs := rfl
    have hwhole := s.servoSample_touches (ps := commitParts) off rfl
    rw [hrun] at hexec hwhole
    generalize off - s.ref.bias = x at *
    generalize s.measuredCand id off = u at *
    have hservo1 : u.apB Fld.tcoreCtrl_SERVO_EN = true := by rwa [State.apB, State.ap_of_regs hregs]
    rw [← htcore] at htstate
    refine ⟨fun hauto => ?_, fun hauto => ?_⟩
    · have htake := State.servoTake_rates (off := x) hservo1 htstate (hauto1.trans hauto)
      obtain ⟨⟨r, hrate⟩, hrtstate, hrsamples, hroff, hrcnt, hrregs, hrpair, hrframe⟩ := State.rated_gives (s := u) (off := x)
      rw [htcore] at hrtstate hrsamples
      have hrowin : x.natAbs ≤ s.lockNs → u.inRow x = s.tcore.lockCnt + 1 := fun h => by rw [State.inRow, hlock, if_pos h, htcore]
      have hrowout : s.lockNs < x.natAbs → u.inRow x = 0 := fun h => by rw [State.inRow, hlock, if_neg (Nat.not_le.mpr h)]
      have hstep1 : Touches refParts s (u.rated x) := (hframe.mono rfl).step (hrframe.mono rfl)
      generalize u.rated x = v at *
      rw [htake] at hexec
      have hlocked := fun h : v.tcore.tstate ≠ .locked => State.setTstate_gives (s := v) (st := .locked) false
        (by rw [State.apB, State.ap_of_regs hrregs]; exact hservo1) (by rw [hrpair]; exact hpair) h
      obtain ⟨q, hlockedClk⟩ := refClosed_rateOnly.setTstate v .locked false
      refine gives_effect hexec hup rfl ?_
      by_cases hcond : v.tcore.tstate = .acquire ∧ 16 ≤ u.inRow x
      · obtain ⟨hsamples, hoff⟩ := v.setTstate_samples .locked false
        have hst1 := (hlocked (by rw [hcond.1]; decide)).1
        have hframe1 : Touches refParts s (v.setTstate .locked) := hstep1.step (State.setTstate_touches v _ _ rfl)
        rw [if_pos hcond]
        generalize v.setTstate .locked = w at *
        refine ⟨hsamples.trans hrsamples, hoff.trans hroff, fun _ _ _ => hst1, fun h => ?_, ?_, ?_, hframe1.carry⟩
        · have hzero := hrowout h
          omega
        · rw [State.carry_clk, hlockedClk, hrate, hclk]
        · rw [State.carry_clk, hlockedClk, hrate, hclk]
      · rw [if_neg hcond]
        refine ⟨hrsamples, hroff, fun hacq hle hcnt => ?_, fun h => ⟨hrtstate, hrcnt.trans (hrowout h)⟩, ?_, ?_, hstep1.carry⟩
        · have hin := hrowin hle
          exact absurd ⟨hrtstate.trans hacq, by omega⟩ hcond
        · rw [State.carry_clk, hrate, hclk]
        · rw [State.carry_clk, hrate, hclk]
    · obtain ⟨v, hvclk, hstepped⟩ := State.servoTake_steps (off := x) hservo1 htstate (hauto1.trans hauto)
      obtain ⟨hA, hB⟩ := State.applyStep_cores (s := v) (-x * (unitsPerFrac : Int))
      rw [hstepped] at hexec hwhole
      generalize v.applyStep (-x * (unitsPerFrac : Int)) = w at *
      rw [hvclk, hclk] at hA hB
      exact gives_effect hexec hup rfl ⟨hA, hB, hwhole.carry⟩
  case servoOff =>
    intro s off id hup hsel hst hstep hservo
    have hrun : s.servoSample off = s.measuredCand id off := by
      rw [State.servoSample_selected hsel hst hstep]
      split
      · exact State.servoTake_off hservo
      · rfl
    have hcand : (s.measuredCand id off).cand id = (s.cand id).measured off := Tab.get_set_self _ _ _ _
    refine gives_effect (congrArg (effect true s) hrun) hup rfl ⟨?_, ?_, Touches.carry ((Touches.refl _ _).set_ref rfl)⟩
    · exact (congrArg Cand.off hcand :)
    · exact (congrArg Cand.samples hcand :)
  case timeStep =>
    intro s d hup hwf hacc
    have hrun : s.timeStep d = _ := State.runCmd_accepted_free hacc rfl
    have hexec : exec (.timeStep d) s = effect d.wf s (s.timeStep d) := rfl
    have hwhole := s.timeStep_touches (ps := commitParts) d rfl
    have hstart := State.startCmd_touches (ps := cplParts) s d rfl
    rw [hrun] at hexec hwhole
    rw [← s.startCmd_tcore d, ← s.startCmd_clk d, ← s.startCmd_ref d]
    have hcand : ∀ id, (s.startCmd d).cand id = s.cand id := fun id => by rw [State.cand, State.startCmd_ref]; rfl
    generalize s.startCmd d = u at *
    refine ⟨fun hnil hnow href => ?_, fun id hnil hnow href hpend => ?_, fun hnil hsec => ?_, fun hbusy => ?_⟩
    · rw [if_neg (not_not.mpr hnil), if_neg (by rw [hnow]; exact Bool.false_ne_true), State.stepNow_plain href] at hexec hwhole
      obtain ⟨hA, hB, -⟩ := u.commandedStep_gives (d.argI 12 8 * (unitsPerFrac : Int))
      generalize u.commandedStep (d.argI 12 8 * (unitsPerFrac : Int)) = v at *
      exact gives_effect hexec hup hwf (State.stepped_gives hA hB hwhole.carry)
    · rw [if_neg (not_not.mpr hnil), if_neg (by rw [hnow]; exact Bool.false_ne_true), State.stepNow_toRef href hpend] at hexec hwhole
      obtain ⟨hA, hB⟩ := u.stepToRef_gives id
      rw [hcand] at hA hB hexec hwhole
      generalize (u.stepToRef id).1 = v at *
      exact gives_effect hexec hup hwf (State.stepped_gives hA hB hwhole.carry)
    · rw [if_neg (not_not.mpr hnil), if_pos hsec] at hexec
      exact gives_effect hexec hup hwf ⟨rfl, ((hstart.mono rfl : Touches (cplParts ++ [Part.tcore]) s u).set_tcore rfl).carry⟩
    · rw [if_pos hbusy] at hexec
      exact gives_effect hexec hup hwf ⟨State.complete_lastCpl .., (hstart.step (State.complete_touches u d 0xB001 .busy 0 [] [] rfl)).carry⟩
  case timeSet =>
    intro s d hup hwf hacc
    have hrun : s.timeSet d = _ := State.runCmd_accepted_free hacc rfl
    have hexec : exec (.timeSet d) s = effect d.wf s (s.timeSet d) := rfl
    have hstart := State.startCmd_touches (ps := cplParts) s d rfl
    rw [hrun] at hexec
    have hservo : (s.startCmd d).apB Fld.tcoreCtrl_SERVO_EN = s.apB Fld.tcoreCtrl_SERVO_EN := by
      rw [State.apB, State.apB, State.ap_of_regs (s.startCmd_regs d)]
    rw [← s.startCmd_tcore d, ← hservo]
    generalize s.startCmd d = u at *
    refine ⟨fun hfree => ?_, fun hon hst => ?_⟩
    · have hno : ¬ (u.apB Fld.tcoreCtrl_SERVO_EN = true ∧ (u.tcore.tstate = .locked ∨ u.tcore.tstate = .holdover)) := by
        rintro ⟨hon, hst⟩
        rcases hfree with h | ⟨h1, h2⟩
        · exact absurd (h.symm.trans hon) Bool.false_ne_true
        · exact hst.elim h1 h2
      rw [if_neg hno] at hexec
      exact gives_effect hexec hup hwf ⟨rfl, ((hstart.mono rfl : Touches (cplParts ++ [Part.tcore]) s u).set_tcore rfl).carry⟩
    · rw [if_pos ⟨hon, hst⟩] at hexec
      exact gives_effect hexec hup hwf ⟨State.complete_lastCpl .., (hstart.step (State.complete_touches u d 0xB002 .busy 0 [] [] rfl)).carry⟩
  case second =>
    intro s hup hready
    have hexec := State.exec_secondBoundary hup hready
    have hframe := s.secondBoundary_touches (ps := secParts) rfl
    obtain ⟨hat, hwaiting⟩ := s.secondBoundary_taken
    have hnow := s.secondBoundary_now
    generalize s.secondBoundary = t at *
    exact gives_effectInReset hexec rfl ⟨hnow, hwaiting, fun _ => hat, hframe.carry⟩
  case word =>
    intro s k hup hready hk hm hname
    obtain ⟨hwritten, hstored⟩ := State.secondBoundary_word hk hm hname
    have hexec := State.exec_secondBoundary hup hready
    generalize s.secondBoundary = t at *
    exact gives_effectInReset hexec rfl ⟨hstored, hwritten⟩
  case swap =>
    intro s hup hready hsteps
    have hexec := State.exec_secondBoundary hup hready
    obtain ⟨r, hclk⟩ := s.boundary_clk
    have hnone : s.secondBoundary.clk = s.atBoundary.secStart.secUnits.clk :=
      (congrArg State.clk s.secondBoundary_eq).trans (State.waitingSteps_none (s.boundary_steps.trans hsteps))
    have hdue : s.atBoundary.swapDue = s.tcore.swapPend.any (fun x => decide (x ≤ s.nextSec * unitsPerS)) := by
      rw [State.swapDue, State.atBoundary_tod]
      exact (congrArg (_ && ·) (decide_eq_true hsteps)).trans (Bool.and_true _)
    rw [hclk, hdue] at hnone
    generalize s.secondBoundary = t at *
    refine gives_effectInReset hexec rfl ⟨?_, ?_, ?_, ?_⟩ <;> rw [State.carry_clk, hnone] <;> rfl
  case steps =>
    intro s d set hup hready hsteps href
    have hexec := State.exec_secondBoundary hup hready
    obtain ⟨r, hclk⟩ := s.boundary_clk
    have hrun : s.secondBoundary = _ := s.secondBoundary_eq.trans (State.waitingSteps_one (s.boundary_steps.trans hsteps))
    have htaken : s.atBoundary.secStart.secUnits.stepsTaken.clk = s.atBoundary.secStart.secUnits.clk := State.stepsTaken_clk _
    have hnil : s.atBoundary.secStart.secUnits.stepsTaken.tcore.steps = [] := State.stepsTaken_steps _
    rw [hclk] at htaken
    generalize s.atBoundary.secStart.secUnits.stepsTaken = u at *
    have hshift : ∀ x, (u.clk.shift x).tcA = ((s.clk.shift s.toBoundary).shift x).tcA ∧ (u.clk.shift x).tcB = ((s.clk.shift s.toBoundary).shift x).tcB :=
      fun x => by rw [htaken]; exact ⟨rfl, rfl⟩
    generalize s.secondBoundary = t at *
    cases set with
    | true =>
      rw [if_pos rfl] at hrun
      obtain ⟨x, hx⟩ : ∃ x, d.arg 12 6 * unitsPerS = x := ⟨_, rfl⟩
      obtain ⟨hA, hB, hempty, hlast⟩ := State.setNow_gives (s := u) hx
      rw [← hrun] at hA hB hempty hlast
      rw [hx]
      exact gives_effectInReset hexec rfl ⟨hempty.trans hnil, fun _ => ⟨hA, hB, hlast⟩, fun h => absurd h Bool.noConfusion⟩
    | false =>
      rw [if_neg Bool.false_ne_true, State.stepNow_plain (href rfl)] at hrun
      obtain ⟨hA, hB, hempty⟩ := u.commandedStep_gives (d.argI 12 8 * (unitsPerFrac : Int))
      rw [(hshift _).1] at hA
      rw [(hshift _).2] at hB
      generalize u.commandedStep (d.argI 12 8 * (unitsPerFrac : Int)) = v at *
      rw [hrun] at hexec
      have hend := State.stepped_gives (s := s) (d := d) (x := d.argI 12 8) (P := fun t => t.tcore.steps = []) hA hB
        (hempty.trans hnil)
      obtain ⟨hcA, hcB, hlast, hsteps1⟩ := hend
      exact gives_effectInReset hexec rfl ⟨hsteps1, fun h => absurd h Bool.noConfusion, fun _ => ⟨hcA, hcB, hlast⟩⟩

end Sys2Proof.Machine
end

section
/-! ## The loss of a port starts and ends no admission (R139, R140) -/

set_option Elab.async false

namespace Sys2Proof.Machine

/-- No command begins or ends to wait for the admission, and no takeover of a task. -/
def AdmKept (s t : State) : Prop := t.sw.wait = s.sw.wait ∧ t.eng.tasks = s.eng.tasks

namespace AdmKept

variable {s t u : State}

protected theorem refl (s : State) : AdmKept s s := ⟨rfl, rfl⟩

protected theorem trans (h : AdmKept s t) (g : AdmKept t u) : AdmKept s u := ⟨g.1.trans h.1, g.2.trans h.2⟩

theorem of_touches {ps : List Part} (h : Touches ps s t) (hs : ps.any (fun q => q.covers .sw) = false) (he : ps.any (fun q => q.covers .eng) = false) :
    AdmKept s t := ⟨congrArg SwState.wait (h .sw hs), (congrArg EngState.tasks (h .eng he :) :)⟩

protected theorem ite {c : Prop} [Decidable c] (ht : AdmKept s t) (hu : AdmKept s u) : AdmKept s (if c then t else u) := by
  split
  · exact ht
  · exact hu

protected theorem foldl {α : Type} {f : State → α → State} (hf : ∀ s x, AdmKept s (f s x)) (l : List α) (s : State) : AdmKept s (l.foldl f s) := by
  induction l generalizing s with
  | nil => exact .refl s
  | cons x l ih => exact (hf s x).trans (ih (f s x))

theorem admBusy (h : AdmKept s t) : t.admBusy = s.admBusy := by
  rw [State.admBusy, State.admBusy, State.taskMoving, State.taskMoving, h.1, h.2]

end AdmKept

/-! ### Buffers -/

theorem State.returnBuf_adm (s : State) (b : Nat) (x : Buf) : AdmKept s (s.returnBuf b x) := by
  unfold State.returnBuf
  extract_lets p i q _ s1 _ s2
  have h1 : AdmKept s s1 := by
    unfold s1
    split
    · exact ⟨rfl, rfl⟩
    · exact .of_touches (State.setReq_touches (ps := [.bpm]) s _ _ rfl) rfl rfl
  have h2 : AdmKept s s2 := by
    have hbufs : AdmKept s1 { s1 with bpm := { s1.bpm with bufs := Tab.erase s1.bpm.bufs b } } := ⟨rfl, rfl⟩
    exact (h1.trans hbufs).trans (.of_touches (State.hostResume_touches (ps := [.bpm]) _ rfl) rfl rfl)
  clear_value s2
  have hfreed : AdmKept s (s2.setPool p { s2.pool p with freed := (s2.pool p).freed ++ [i] }) := h2.trans ⟨rfl, rfl⟩
  split
  · next c _ =>
    have hcarve : AdmKept s2 { s2 with bpm := { s2.bpm with carve := some { c with withheld := c.withheld ++ [b] } } } := ⟨rfl, rfl⟩
    exact .ite (.ite h2 hfreed) (h2.trans hcarve)
  · exact .ite h2 hfreed

theorem State.freeBuf_adm (s : State) (b r : Nat) : AdmKept s (s.freeBuf b r).1 := by
  have hbad : ∀ f e x y z, AdmKept s ((s.bump f).raise e x y z) := fun f e x y z =>
    (AdmKept.of_touches (State.bump_touches (ps := [.counters]) s f 0 1 rfl) rfl rfl).trans
      (.of_touches (State.raise_touches (ps := evtParts) _ e x y z rfl) rfl rfl)
  unfold State.freeBuf
  split
  · exact hbad _ _ _ _ _
  · split
    · exact hbad _ _ _ _ _
    · split
      · exact ⟨rfl, rfl⟩
      · exact s.returnBuf_adm b _

theorem State.takeBuf_adm {s t : State} {p r b : Nat} {hr : Bool} {flow : Option Nat} (h : s.takeBuf p r hr flow = some (b, t)) : AdmKept s t := by
  unfold State.takeBuf at h
  split at h
  · cases h
  · extract_lets x b' q s1 _ s2 at h
    have h1 : AdmKept s s1 := AdmKept.ite (.refl s) (.ite ⟨rfl, rfl⟩ ⟨rfl, rfl⟩)
    have h2 : AdmKept s1 s2 := by
      unfold s2
      split
      · exact ⟨rfl, rfl⟩
      · exact ⟨rfl, rfl⟩
    clear_value s2
    obtain ⟨-, rfl⟩ := Prod.mk.inj (Option.some.inj h)
    exact (h1.trans h2).trans ⟨rfl, rfl⟩

theorem State.engRequest_adm (s : State) (len : Nat) : AdmKept s (s.engRequest len).1 := by
  unfold State.engRequest
  extract_lets n a s1
  have h1 : AdmKept s s1 := .of_touches (State.countAnswer_touches (ps := [.counters]) s 3 a rfl) rfl rfl
  clear_value s1
  split
  · refine h1.trans (AdmKept.foldl (fun t _ => ?_) _ s1)
    split
    · next h => exact State.takeBuf_adm h
    · exact .refl t
  · exact h1

theorem State.bpmEngine_adm (s : State) (len : Nat) : AdmKept s (s.bpmEngine len) :=
  .ite (s.engRequest_adm len) ((s.engRequest_adm len).trans ⟨rfl, rfl⟩)

theorem State.afterFree_adm (s : State) : AdmKept s s.afterFree := by
  have h1 : AdmKept s s.causesClear := .of_touches (State.causesClear_touches (ps := [.bpm]) s rfl) rfl rfl
  have h2 : ∀ t : State, AdmKept t t.engRetry := fun t => by
    have hempty : AdmKept t { t with bpm := { t.bpm with engWait := [] } } := ⟨rfl, rfl⟩
    exact hempty.trans (AdmKept.foldl (fun u n => u.bpmEngine_adm n) _ _)
  exact (h1.trans (h2 _)).trans (.of_touches (State.xoffUpdate_touches (ps := [.fab]) _ rfl) rfl rfl)

/-! ### Copies and frames -/

theorem State.tagPush_adm (s : State) (r : TagRec) : AdmKept s (s.tagPush r) := by
  unfold State.tagPush
  extract_lets _ t
  have ht : AdmKept s t := .of_touches (State.bump_touches (ps := [.counters]) s _ _ _ rfl) rfl rfl
  clear_value t
  exact .ite ⟨rfl, rfl⟩ (.ite ht (ht.trans ⟨rfl, rfl⟩))

theorem State.tagCopy_adm (s : State) (x : Copy) (sent : Bool) : AdmKept s (s.tagCopy x sent) := by
  have hfree : AdmKept s { s with free := s.free + 1 } := ⟨rfl, rfl⟩
  unfold State.tagCopy
  split
  · exact hfree.trans (State.tagPush_adm _ _)
  · exact .refl s

theorem State.frameGone_adm (s : State) (f : Nat) : AdmKept s (s.frameGone f) := by
  unfold State.frameGone
  split
  · exact .refl s
  · exact .ite ⟨rfl, rfl⟩ (.refl s)

theorem State.removeCopy_adm (s : State) (c : Nat) : AdmKept s (s.removeCopy c) := by
  unfold State.removeCopy
  split
  · exact .refl s
  · next x _ =>
    extract_lets s0 s1
    have h0 : AdmKept s s0 := .ite (.refl s) (s.tagCopy_adm x false)
    clear_value s0
    have h1 : AdmKept s s1 := (h0.trans (.of_touches (State.unqueue_touches (ps := [.fab]) s0 c rfl) rfl rfl)).trans
      (AdmKept.foldl (fun t b => t.freeBuf_adm b _) _ _)
    clear_value s1
    have hgone : AdmKept s1 { s1 with fab := { s1.fab with copies := Tab.erase s1.fab.copies c } } := ⟨rfl, rfl⟩
    exact (h1.trans hgone).trans (State.frameGone_adm _ _)

theorem State.dropFrame_adm (s : State) (f : Nat) : AdmKept s (s.dropFrame f) := by
  unfold State.dropFrame
  split
  · exact .refl s
  · next x _ =>
    have h1 : AdmKept s (s.setFrame f { x with drop := true }) := ⟨rfl, rfl⟩
    exact (h1.trans (AdmKept.foldl (fun t c => t.removeCopy_adm c) _ _)).trans (State.frameGone_adm _ f)

theorem State.tsLost_adm (s : State) (x : Copy) (n : Nat) : AdmKept s (s.tsLost x n) :=
  .of_touches (State.tsLost_touches (ps := [.hif, .counters]) s x n rfl) rfl rfl

theorem State.flushCopies_adm (s : State) (l : List Nat) (n : Nat) : AdmKept s (s.flushCopies l n) := by
  refine AdmKept.foldl (fun t c => ?_) l s
  split
  · exact (t.tsLost_adm _ n).trans (State.removeCopy_adm _ c)
  · exact .refl t

theorem State.portFlush_adm (s : State) (p : Nat) : AdmKept s (s.portFlush p) := by
  unfold State.portFlush
  extract_lets l s1
  have h1 : AdmKept s s1 := (s.flushCopies_adm l 1).trans (.of_touches (State.bump_touches (ps := [.counters]) _ _ _ _ rfl) rfl rfl)
  clear_value s1
  have hport : AdmKept s1 (s1.setPort p { s1.port p with holding := false, flushed := true }) := ⟨rfl, rfl⟩
  exact ((h1.trans hport).trans (.of_touches (State.raise_touches (ps := evtParts) _ _ _ _ _ rfl) rfl rfl)).trans (State.afterFree_adm _)

theorem State.portLoss_adm (s : State) (p : Nat) : AdmKept s (s.portLoss p) := by
  unfold State.portLoss
  extract_lets x s1 part s2 y s3
  split
  · exact .refl s
  have h1 : AdmKept s s1 := AdmKept.foldl (fun t c => by
    split
    · exact ((t.tsLost_adm _ 1).trans (.of_touches (State.bump_touches (ps := [.counters]) _ _ _ _ rfl) rfl rfl)).trans (State.removeCopy_adm _ c)
    · exact .refl t) _ s
  have h2 : AdmKept s s2 := h1.trans (AdmKept.foldl (fun t f => t.dropFrame_adm f) part s1)
  clear_value s2
  have h3 : AdmKept s s3 := h2.trans ⟨rfl, rfl⟩
  clear_value s3
  exact .ite (h3.trans (s3.portFlush_adm p)) (h3.trans s3.afterFree_adm)

/-! ### Lanes -/

theorem State.laneUnlock_adm (s : State) (n : Nat) : AdmKept s (s.laneUnlock n) := by
  have heng : ∀ {t u : State}, Part.eng.same t u → u.sw = t.sw → AdmKept t u := fun he hs =>
    ⟨congrArg SwState.wait hs, (congrArg EngState.tasks (he :) :)⟩
  unfold State.laneUnlock
  extract_lets l s1 p
  split
  · exact .refl s
  have h1 : AdmKept s s1 := ⟨rfl, rfl⟩
  clear_value s1
  have h2 : AdmKept s1 (s1.laneWithdraw n) := heng
    (RefClosed.ite (refClosed_eng.trans rfl (refClosed_eng.candFail _ n 1)) rfl) (State.laneWithdraw_touches (ps := Part.others .sw) s1 n rfl .sw rfl)
  have h3 : ∀ t : State, AdmKept t (t.lnkPhiLost n) := fun t =>
    .of_touches (State.lnkPhiLost_touches (ps := evtParts ++ [.tchans, .lnk, .tic, .cal, .counters]) t n rfl) rfl rfl
  have h4 : ∀ t : State, AdmKept t (t.portChansLost p) := fun t => heng
    (refClosed_eng.foldl (fun u i => RefClosed.ite rfl (refClosed_eng.chanLost u i)) _ t) (State.portChansLost_touches (ps := Part.others .sw) t p rfl .sw rfl)
  exact (((h1.trans h2).trans (h3 _)).trans (State.portLoss_adm _ p)).trans (h4 _)

end Sys2Proof.Machine
end

section
/-! ## COMMIT, DISCARD and frame boundaries (R31, R32, R35, R101, R139, R177, R275) -/

set_option Elab.async false

namespace Sys2Proof.Machine

/-! ### A commit starts and ends no admission, and leaves the groups that it does not name -/

theorem State.laneStop_adm (s : State) (n : Nat) : AdmKept s (s.laneStop n) := by
  unfold State.laneStop
  extract_lets s1
  have h1 : AdmKept s s1 := (s.laneUnlock_adm n).trans
    (.of_touches (State.lnkPhiLost_touches (ps := evtParts ++ [.tchans, .lnk, .tic, .cal, .counters]) _ n rfl) rfl rfl)
  clear_value s1
  exact h1.trans ⟨rfl, rfl⟩

theorem State.retrain_adm (s : State) (n : Nat) : AdmKept s (s.retrain n) := by
  unfold State.retrain
  extract_lets s1
  have h1 : AdmKept s s1 := (s.laneUnlock_adm n).trans (.of_touches (State.laneIdl_touches (ps := [.regs, .cal]) _ n rfl) rfl rfl)
  clear_value s1
  exact .ite (.refl s) (h1.trans ⟨rfl, rfl⟩)

theorem State.quadChange_adm (s : State) (g q : Nat) (w : Word) : AdmKept s (s.quadChange g q w) := by
  unfold State.quadChange
  extract_lets k l s1 _ s2
  have h1 : AdmKept s s1 := AdmKept.foldl (fun t n => t.laneStop_adm n) l s
  have h2 : AdmKept s1 s2 := ⟨rfl, rfl⟩
  clear_value s2
  refine (h1.trans h2).trans (AdmKept.foldl (fun t n => .ite (.refl t) ?_) l s2)
  have hlane : AdmKept t (t.setLane n { t.lane n with sig := (s.lane n).sig, noSignal := false }) := ⟨rfl, rfl⟩
  generalize t.setLane n { t.lane n with sig := (s.lane n).sig, noSignal := false } = u at *
  exact hlane.trans (u.retrain_adm n)

theorem State.grpModeCheck_adm (s : State) (g : Nat) : AdmKept s (s.grpModeCheck g) :=
  .of_touches (State.grpModeCheck_touches (ps := evtParts ++ [.regs]) s g rfl) rfl rfl

theorem State.commitGrpMode_adm (s : State) (g : Nat) : AdmKept s (s.commitGrpMode g) := by
  unfold State.commitGrpMode
  extract_lets k s1 cur new
  have h1 : AdmKept s s1 := s.grpModeCheck_adm g
  clear_value s1
  exact .ite (h1.trans ⟨rfl, rfl⟩) (h1.trans (AdmKept.foldl (fun t q => .ite (.refl t) (t.quadChange_adm g q new)) _ s1))

theorem State.commitWord_adm (s : State) (k : RegKey) : AdmKept s (s.commitWord k) := by
  unfold State.commitWord
  extract_lets t
  have ht : AdmKept s t := ⟨rfl, rfl⟩
  have hk : ∀ e a b, AdmKept s (s.keepWord k e a b) := fun e a b =>
    .of_touches (State.keepWord_touches (ps := evtParts ++ [.regs]) s k e a b rfl) rfl rfl
  have hc : AdmKept s (s.capNext k) := .ite ⟨rfl, rfl⟩ (.of_touches (State.capWord_touches (ps := evtParts ++ [.regs]) s k rfl) rfl rfl)
  split
  · exact s.commitGrpMode_adm k.i
  · exact hc
  · exact hc
  · exact .ite (hk _ _ _) ht
  · exact .ite (hk _ _ _) ht
  · exact .ite (hk _ _ _) ht
  · exact ht

/-! ### A commit as a whole -/

/-- The words of a commit, taken one after the other. -/
def State.commitFold (s : State) : State := (s.waiting .cmt).foldl (fun s k => s.commitWord k) (s.pllCommitPre (s.waiting .cmt))

/-- What has been taken waits no more, but for the words that an admission holds back. -/
def State.commitDrop (s : State) : State :=
  { s with regs := { s.regs with pend := dropPoint s.regs.pend .cmt (fun k => !(s.capDeferred k)), cmtAtSec := false } }

theorem State.commit_regs (s : State) : s.commit.regs = s.commitFold.commitDrop.regs := s.commitFold.commitDrop.commitPost_regs s

theorem State.commit_grps (s : State) : s.commit.grps = s.commitFold.grps := by
  have hpost : ∀ u : State, ((((u.pllCommitPost s).pairsEval true).lnkEvalAll.pairCommit).causesClear.xoffUpdate).grps = u.grps := fun u => by
    have h1 : (((u.pllCommitPost s).pairsEval true).lnkEvalAll).grps = u.grps :=
      (State.lnkEvalAll_touches (ps := Part.others .grps) _ rfl .grps rfl).trans
        ((State.pairsEval_touches (ps := Part.others .grps) _ _ rfl .grps rfl).trans (State.pllCommitPost_touches (ps := Part.others .grps) u s rfl .grps rfl))
    exact (State.xoffUpdate_touches (ps := Part.others .grps) _ rfl .grps rfl).trans
      ((State.causesClear_touches (ps := Part.others .grps) _ rfl .grps rfl).trans
        ((State.pairCommit_touches (ps := Part.others .grps) _ rfl .grps rfl).trans h1))
  exact hpost s.commitFold.commitDrop

theorem State.commit_stored (s : State) (k : RegKey) : s.commit.stored k = s.commitFold.stored k := by
  rw [State.stored_of_regs s.commit_regs]
  rfl

theorem State.commit_written (s : State) (k : RegKey) : s.commit.written k = s.commitFold.written k := by
  rw [State.written_of_regs s.commit_regs]
  rfl

theorem State.commitFold_adm (s : State) : s.commitFold.admBusy = s.admBusy := by
  have h1 : AdmKept s (s.pllCommitPre (s.waiting .cmt)) := .of_touches (State.pllCommitPre_touches (ps := evtParts ++ [.regs]) s _ rfl) rfl rfl
  exact (h1.trans (AdmKept.foldl (fun t k => t.commitWord_adm k) _ _)).admBusy

/-- What waits after a commit. -/
theorem State.mem_waiting_commit {s : State} {k : RegKey} (h : k ∈ s.commit.waiting .cmt) : s.admBusy = true ∧ (k.name = .portCfg ∨ k.name = .portSchedCap) := by
  have hmem : k ∈ s.commitFold.commitDrop.waiting .cmt := by rwa [State.waiting, State.waitingAt, ← State.commit_regs]
  have hdrop : s.commitFold.commitDrop.regs.pend = dropPoint s.commitFold.regs.pend .cmt (fun k => !(s.commitFold.capDeferred k)) := rfl
  have hdeferred : s.commitFold.capDeferred k = true := by simpa using ((State.mem_waitingAt_dropped hdrop).mp hmem).2 rfl
  rw [State.capDeferred, State.commitFold_adm] at hdeferred
  simpa using hdeferred

/-! ### A word without a rule -/

section Free

variable {k : RegKey} (hk : k.name.commitRule = false) (hm : k.pointMask .cmt ≠ 0)
include hk

theorem RegKey.free_ne {n : RegName} (hn : n.commitRule = true) : k.name ≠ n := fun h => by
  rw [h, hn] at hk
  cases hk

theorem State.commitWord_free (s : State) : s.commitWord k = s.copyBits k (k.pointMask .cmt) := by
  unfold State.commitWord
  split
  · next h => exact absurd h (RegKey.free_ne hk rfl)
  · next h => exact absurd h (RegKey.free_ne hk rfl)
  · next h => exact absurd h (RegKey.free_ne hk rfl)
  · next h => exact absurd h (RegKey.free_ne hk rfl)
  · next h => exact absurd h (RegKey.free_ne hk rfl)
  · next h => exact absurd h (RegKey.free_ne hk rfl)
  · rfl

theorem offPll_free : offPll k allBits := fun x e _ he hke => by
  simp only [pllWords, List.mem_cons, List.not_mem_nil, or_false] at he
  subst hke
  rcases he with rfl | rfl | rfl | rfl | rfl <;> cases hk

include hm

omit hk in
theorem RegKey.cmt_ne {n : RegName} (hn : n.hasPoint .cmt = false) : k.name ≠ n := fun h =>
  hm (RegKey.pointMask_none (by rw [h]; exact hn))

theorem State.commitFold_free (ks : List RegKey) (s : State) : (ks.foldl (fun s k => s.commitWord k) s).written k = s.written k ∧
    (ks.foldl (fun s k => s.commitWord k) s).stored k =
      (if k ∈ ks then mergeBits (k.pointMask .cmt) (s.stored k) (s.written k) else s.stored k) := by
  have htx : k.name ≠ .laneTxEq := RegKey.cmt_ne hm rfl
  induction ks generalizing s with
  | nil => exact ⟨rfl, rfl⟩
  | cons x ks ih =>
    obtain ⟨hwritten, hstored⟩ := ih (s.commitWord x)
    by_cases hx : k = x
    · subst hx
      rw [State.commitWord_free hk, State.copyBits_written (.inl htx)] at hwritten hstored
      rw [State.copyBits_stored_self, mergeBits_again, ite_self] at hstored
      rw [List.foldl_cons, State.commitWord_free hk, if_pos List.mem_cons_self]
      exact ⟨hwritten, hstored⟩
    · have hkept := (s.commitWord_words x).word k allBits htx
        ⟨RegKey.cmt_ne hm rfl, fun h => absurd h (RegKey.free_ne hk rfl), fun h => absurd h hx⟩
      rw [and_allBits, and_allBits, and_allBits, and_allBits] at hkept
      rw [hkept.1, hkept.2] at hstored
      rw [hkept.1] at hwritten
      refine ⟨hwritten, hstored.trans ?_⟩
      simp only [List.mem_cons, hx, false_or]

/-- R35: a word that waits and has no rule takes its written value. -/
theorem State.commit_free {s : State} (hwait : k ∈ s.waiting .cmt) :
    s.commit.stored k = mergeBits (k.pointMask .cmt) (s.stored k) (s.written k) ∧ s.commit.written k = s.written k := by
  have htx : k.name ≠ .laneTxEq := RegKey.cmt_ne hm rfl
  obtain ⟨hwritten, hstored⟩ := State.commitFold_free hk hm (s.waiting .cmt) (s.pllCommitPre (s.waiting .cmt))
  have hpre := (s.pllCommitPre_words (D := fun _ => False) (s.waiting .cmt)).word k allBits htx (offPll_free hk)
  rw [and_allBits, and_allBits, and_allBits, and_allBits] at hpre
  rw [if_pos hwait, hpre.1, hpre.2] at hstored
  rw [hpre.1] at hwritten
  exact ⟨(s.commit_stored k).trans hstored, (s.commit_written k).trans hwritten⟩

end Free

/-! ### A word with a rule, alone -/

section Alone

variable {s : State} {k : RegKey} (halone : s.waiting .cmt = [k])
include halone

/-- A word that is no setting of PLL-A or PLL-B commits by its own rule alone. -/
theorem State.commitFold_one (hpll : ∀ x e, e ∈ pllWords x → e.1 ≠ k) : s.commitFold = s.commitWord k := by
  have hpre : s.pllCommitPre [k] = s := by
    have hnone : ∀ x, [k].any (fun k => (pllWords x).any (fun e => decide (e.1 = k))) = false := fun x => by
      rw [List.any_cons, List.any_nil, Bool.or_false]
      exact List.any_eq_false.mpr fun e he => by simpa using hpll x e he
    simp only [State.pllCommitPre, hnone, Bool.false_and, Bool.false_eq_true, if_false, List.foldl_cons, List.foldl_nil]
  rw [State.commitFold, halone, hpre, List.foldl_cons, List.foldl_nil]

end Alone

/-- The word keeps its applied value, or takes the written one; the bits of the point agree in both copies. -/
structure Decided (k : RegKey) (m : Word) (keep : Prop) (s t : State) : Prop where
  kept : keep → t.stored k = s.stored k
  taken : ¬ keep → t.stored k = mergeBits m (s.stored k) (s.written k)
  agree : t.written k &&& m = t.stored k &&& m

section Decide

variable {s : State} {k : RegKey} (htx : k.name ≠ .laneTxEq) (m : Word)
include htx

theorem Decided.copied {keep : Prop} (h : ¬ keep) : Decided k m keep s (s.copyBits k m) where
  kept hk := absurd hk h
  taken _ := State.copyBits_stored_self m
  agree := by rw [State.copyBits_stored_self, State.copyBits_written (.inl htx), mergeBits_within]

omit htx in
theorem Decided.reverted {keep : Prop} (h : keep) : Decided k m keep s (s.revertBits k m) where
  kept _ := rfl
  taken hk := absurd h hk
  agree := by rw [State.revertBits_written_self, State.revertBits_stored, mergeBits_within]

omit htx in
theorem Decided.of_regs {keep : Prop} {t u : State} (h : Decided k m keep s t) (hregs : u.regs = t.regs) : Decided k m keep s u where
  kept hk := (State.stored_of_regs hregs k).trans (h.kept hk)
  taken hk := (State.stored_of_regs hregs k).trans (h.taken hk)
  agree := by rw [State.written_of_regs hregs, State.stored_of_regs hregs, h.agree]

omit htx in
theorem Decided.kept_word {keep : Prop} (h : keep) (e : Evt) (a b : Nat) : Decided k (k.pointMask .cmt) keep s (s.keepWord k e a b) :=
  (Decided.reverted _ h).of_regs _ (State.raise_touches (ps := Part.others .regs) _ _ _ _ _ rfl .regs rfl)

/-- R139: a word of the admitted capacity. -/
theorem State.capCheck_decided : Decided k m ((s.copyBits k m).firstBroken k.i).isSome s (s.capCheck (s.copyBits k m) k m) := by
  unfold State.capCheck
  cases hbroken : (s.copyBits k m).firstBroken k.i with
  | some f => exact (Decided.reverted m rfl).of_regs m (State.raise_touches (ps := Part.others .regs) _ _ _ _ _ rfl .regs rfl)
  | none => exact Decided.copied htx m Bool.false_ne_true

end Decide

/-- R139: a word of the capacity, while no admission is in progress. -/
theorem State.capNext_decided {s : State} {k : RegKey} (hname : k.name = .portCfg ∨ k.name = .portSchedCap) (hwait : k ∈ s.waiting .cmt)
    (hfree : s.admBusy = false) :
    Decided k (k.pointMask .cmt) ((s.copyBits k (k.pointMask .cmt)).firstBroken k.i).isSome s (s.capNext k) := by
  have htx : k.name ≠ .laneTxEq := by rcases hname with h | h <;> rw [h] <;> decide
  have hdecided := State.capCheck_decided (s := s) htx (k.pointMask .cmt)
  have hrun : s.capNext k = s.capWord k := if_neg (by rw [hfree]; exact Bool.false_ne_true)
  have hmem : k ∈ s.waitingAt .cmt (fun x => decide (x = k)) := by
    obtain ⟨-, x, hx, hw, hkey⟩ := State.mem_waitingAt.mp hwait
    exact State.mem_waitingAt.mpr ⟨decide_eq_true rfl, x, hx, hw, hkey⟩
  rw [hrun, State.capWord, if_neg ?_]
  · exact ⟨hdecided.kept, hdecided.taken, hdecided.agree⟩
  · rintro (⟨h1, h2⟩ | hnil)
    · exact hname.elim h1 h2
    · rw [hnil] at hmem
      cases hmem

theorem State.commitWord_cap {k : RegKey} (hname : k.name = .portCfg ∨ k.name = .portSchedCap) (s : State) : s.commitWord k = s.capNext k := by
  obtain ⟨n, i, j⟩ := k
  rcases hname with h | h <;> subst h <;> rfl

/-- R177: BPM_CFG and BPM_HEADROOM keep their applied value or take the written one. -/
theorem State.commitWord_bpm {k : RegKey} (hname : k.name = .bpmCfg ∨ k.name = .bpmHeadroom) (s : State) :
    ∃ keep, Decided k (k.pointMask .cmt) keep s (s.commitWord k) := by
  have htx : k.name ≠ .laneTxEq := by rcases hname with h | h <;> rw [h] <;> decide
  have hend : ∀ (c : Prop) [Decidable c] e a b, Decided k (k.pointMask .cmt) c s (if c then s.keepWord k e a b else s.copyBits k (k.pointMask .cmt)) := by
    intro c _ e a b
    split
    · next h => exact Decided.kept_word h e a b
    · next h => exact Decided.copied htx _ h
  obtain ⟨n, i, j⟩ := k
  rcases hname with h | h
  · subst h
    exact ⟨_, hend _ _ _ _⟩
  · subst h
    exact ⟨_, hend _ _ _ _⟩

/-- Table SW-9: SW_BOUND_RATE keeps its applied value where the written one is out of range. -/
theorem State.commitWord_boundRate (s : State) :
    Decided ⟨.swBoundRate, 0, 0⟩ (RegKey.pointMask ⟨.swBoundRate, 0, 0⟩ .cmt)
      (fieldOf ((s.copyBits ⟨.swBoundRate, 0, 0⟩ (RegKey.pointMask ⟨.swBoundRate, 0, 0⟩ .cmt)).stored ⟨.swBoundRate, 0, 0⟩) 0 16 < 3072 ∨
        5715 < fieldOf ((s.copyBits ⟨.swBoundRate, 0, 0⟩ (RegKey.pointMask ⟨.swBoundRate, 0, 0⟩ .cmt)).stored ⟨.swBoundRate, 0, 0⟩) 0 16)
      s (s.commitWord ⟨.swBoundRate, 0, 0⟩) := by
  have hap : ∀ t : State, t.ap Fld.swBoundRate_RATE = fieldOf (t.stored ⟨.swBoundRate, 0, 0⟩) 0 16 := fun t => by
    have happlied : t.applied ⟨.swBoundRate, 0, 0⟩ = t.stored ⟨.swBoundRate, 0, 0⟩ := if_neg (fun h => absurd h.2 (by decide))
    exact congrArg (fieldOf · 0 16) happlied
  rw [← hap]
  unfold State.commitWord
  dsimp only
  split
  · next h => exact Decided.kept_word h _ _ _
  · next h => exact Decided.copied (by decide) _ h

/-! ### The mode of a lane group -/

theorem quadMask_apart {q q' : Nat} (hq : q < 2) (hq' : q' < 2) (hne : q ≠ q') : quadMask q &&& quadMask q' = 0 := by
  obtain rfl | rfl : q = 0 ∨ q = 1 := by omega
  · obtain rfl : q' = 1 := by omega
    decide
  · obtain rfl : q' = 0 := by omega
    decide

section GrpMode

variable (s : State) (g : Nat)

/-- The key of a group's mode. -/
abbrev grpKey : RegKey := ⟨.laneGrpMode, g, 0⟩

omit s in
theorem grpKey_tx : (grpKey g).name ≠ .laneTxEq := RegName.noConfusion

omit s in
theorem grpKey_peak : (grpKey g).name ≠ .lanePeak := RegName.noConfusion

/-- R101: an invalid quad of the written mode goes back. -/
def State.quadCheck (q : Nat) (ok : Bool) : State :=
  if ok then s else (s.revertBits (grpKey g) (quadMask q)).raise Ev.laneModeBad g q

theorem State.quadCheck_word (q : Nat) (ok : Bool) : (s.quadCheck g q ok).stored (grpKey g) = s.stored (grpKey g) ∧
    (s.quadCheck g q ok).written (grpKey g) =
      if ok then s.written (grpKey g) else mergeBits (quadMask q) (s.written (grpKey g)) (s.stored (grpKey g)) := by
  cases ok
  · have hregs : (s.quadCheck g q false).regs = (s.revertBits (grpKey g) (quadMask q)).regs :=
      State.raise_touches (ps := Part.others .regs) _ _ _ _ _ rfl .regs rfl
    rw [State.stored_of_regs hregs, State.written_of_regs hregs, State.revertBits_written_self]
    exact ⟨rfl, rfl⟩
  · exact ⟨rfl, rfl⟩

/-- A written quad of the mode is valid. -/
def State.quadOk (q : Nat) : Bool :=
  quadValid (fieldOf (s.written (grpKey g)) (8 * q) 3) (fieldOf (s.written (grpKey g)) (8 * q + 3) 2)

theorem State.grpModeCheck_word : (s.grpModeCheck g).stored (grpKey g) = s.stored (grpKey g) ∧
    ∀ q, q < 2 → (s.grpModeCheck g).written (grpKey g) &&& quadMask q =
      (if s.quadOk g q then s.written (grpKey g) else s.stored (grpKey g)) &&& quadMask q := by
  have hrun : s.grpModeCheck g = (s.quadCheck g 0 (s.quadOk g 0)).quadCheck g 1 (s.quadOk g 1) := rfl
  obtain ⟨hs0, hw0⟩ := s.quadCheck_word g 0 (s.quadOk g 0)
  obtain ⟨hs1, hw1⟩ := (s.quadCheck g 0 (s.quadOk g 0)).quadCheck_word g 1 (s.quadOk g 1)
  rw [hs0] at hw1 hs1
  rw [hrun]
  refine ⟨hs1, fun q hq => ?_⟩
  rw [hw1, hw0]
  obtain rfl | rfl : q = 0 ∨ q = 1 := by omega
  · have h10 := quadMask_apart (q := 0) (q' := 1) (by decide) (by decide) (by decide)
    cases s.quadOk g 0 <;> cases s.quadOk g 1 <;> simp [mergeBits_within, mergeBits_apart h10]
  · have h01 := quadMask_apart (q := 1) (q' := 0) (by decide) (by decide) (by decide)
    cases s.quadOk g 0 <;> cases s.quadOk g 1 <;> simp [mergeBits_within, mergeBits_apart h01]

theorem State.quadChange_word (q : Nat) (w : Word) : (s.quadChange g q w).written (grpKey g) = s.written (grpKey g) ∧
    (s.quadChange g q w).stored (grpKey g) = mergeBits (quadMask q) (s.stored (grpKey g)) w := by
  have hkept : ∀ {t u : State}, WordsKept offPeak (· = .idl) t u → u.written (grpKey g) = t.written (grpKey g) ∧ u.stored (grpKey g) = t.stored (grpKey g) := by
    intro t u h
    have hw := h.word (grpKey g) allBits (grpKey_tx g) (grpKey_peak g)
    rwa [and_allBits, and_allBits, and_allBits, and_allBits] at hw
  have hretrain : ∀ (t : State) (n : Nat), WordsKept offPeak (· = .idl) t ((t.setLane n { t.lane n with sig := (s.lane n).sig, noSignal := false }).retrain n) :=
    fun t n => by
      have hlane : WordsKept offPeak (· = .idl) t (t.setLane n { t.lane n with sig := (s.lane n).sig, noSignal := false }) := .of_regs rfl
      generalize t.setLane n { t.lane n with sig := (s.lane n).sig, noSignal := false } = u at *
      exact hlane.trans (u.retrain_words n)
  unfold State.quadChange
  extract_lets k l s1 _ s2
  obtain ⟨h1w, h1s⟩ := hkept (WordsKept.foldl l
    (fun t n _ => .of_regs (State.laneStop_touches (ps := Part.others .regs) t n rfl .regs rfl)) s : WordsKept offPeak (· = .idl) s s1)
  have h2w : s2.written (grpKey g) = s1.written (grpKey g) := by
    rw [State.written, State.written, State.dflt_of_ne (grpKey_tx g), State.dflt_of_ne (grpKey_tx g)]
  have h2s : s2.stored (grpKey g) = mergeBits (quadMask q) (s1.stored (grpKey g)) w := Tab.get_set_self _ _ _ _
  clear_value s2
  have hend : ∀ t, WordsKept offPeak (· = .idl) s2 t →
      t.written (grpKey g) = s.written (grpKey g) ∧ t.stored (grpKey g) = mergeBits (quadMask q) (s.stored (grpKey g)) w := fun t h => by
    obtain ⟨h3w, h3s⟩ := hkept h
    exact ⟨h3w.trans (h2w.trans h1w), h3s.trans (h2s.trans (by rw [h1s]))⟩
  exact hend _ (WordsKept.foldl l (fun t n _ => WordsKept.ite (.refl t) (hretrain t n)) s2)

/-- A quad of a group in service takes its written mode, where it differs. -/
def State.quadTake (cur new : Word) (q : Nat) : State := if cur &&& quadMask q = new &&& quadMask q then s else s.quadChange g q new

theorem State.quadTake_word {cur new : Word} {q : Nat} (hq : q < 2) (hw : s.written (grpKey g) = new) (hs : s.stored (grpKey g) &&& quadMask q = cur &&& quadMask q) :
    (s.quadTake g cur new q).written (grpKey g) = new ∧ (s.quadTake g cur new q).stored (grpKey g) &&& quadMask q = new &&& quadMask q ∧
    ∀ q', q' < 2 → q' ≠ q → (s.quadTake g cur new q).stored (grpKey g) &&& quadMask q' = s.stored (grpKey g) &&& quadMask q' := by
  unfold State.quadTake
  split
  · next h => exact ⟨hw, hs.trans h, fun _ _ _ => rfl⟩
  · obtain ⟨cw, cs⟩ := s.quadChange_word g q new
    refine ⟨cw.trans hw, ?_, fun q' hq' hne => ?_⟩
    · rw [cs, mergeBits_within]
    · rw [cs, mergeBits_apart (quadMask_apart hq' hq hne)]

/-- R101, R119: the mode of a group in service changes at once, that of another waits for its return. -/
theorem State.commitGrpMode_gives :
    (∀ q, q < 2 → (s.commitGrpMode g).written (grpKey g) &&& quadMask q =
      (if s.quadOk g q then s.written (grpKey g) else s.stored (grpKey g)) &&& quadMask q) ∧
    ((s.grp g).st = .inService → ∀ q, q < 2 →
      (s.commitGrpMode g).stored (grpKey g) &&& quadMask q = (s.commitGrpMode g).written (grpKey g) &&& quadMask q) ∧
    ((s.grp g).st ≠ .inService → (s.commitGrpMode g).stored (grpKey g) = s.stored (grpKey g) ∧
      ((s.commitGrpMode g).grp g).next = some ((s.commitGrpMode g).written (grpKey g))) := by
  obtain ⟨hcs, hcw⟩ := s.grpModeCheck_word g
  have hgrp : (s.grpModeCheck g).grp g = s.grp g :=
    congrArg (fun x => Tab.get _ x g) (State.grpModeCheck_touches (ps := Part.others .grps) s g rfl .grps rfl)
  unfold State.commitGrpMode
  extract_lets k s1 cur new
  have hs1 : s1 = s.grpModeCheck g := rfl
  rw [← hs1] at hcs hcw hgrp
  have hcur : cur = s1.stored (grpKey g) := rfl
  have hnew : new = s1.written (grpKey g) := rfl
  clear_value s1 cur new
  rw [hgrp]
  by_cases hin : (s.grp g).st = .inService
  · have hrun : ((List.range 2).foldl (fun s q => if cur &&& quadMask q = new &&& quadMask q then s else s.quadChange g q new) s1) =
        (s1.quadTake g cur new 0).quadTake g cur new 1 := rfl
    rw [if_neg (not_not.mpr hin), hrun]
    obtain ⟨hw0, hs0, hk0⟩ := s1.quadTake_word g (cur := cur) (q := 0) (by decide) hnew.symm (by rw [hcur])
    obtain ⟨hw1, hs1', hk1⟩ := (s1.quadTake g cur new 0).quadTake_word g (cur := cur) (q := 1) (by decide) hw0
      (by rw [hk0 1 (by decide) (by decide), hcur])
    refine ⟨fun q hq => ?_, fun _ q hq => ?_, fun h => absurd hin h⟩
    · rw [hw1, hnew]
      exact hcw q hq
    · rw [hw1]
      obtain rfl | rfl : q = 0 ∨ q = 1 := by omega
      · exact (hk1 0 (by decide) (by decide)).trans hs0
      · exact hs1'
  · rw [if_pos hin]
    refine ⟨fun q hq => hcw q hq, fun h => absurd h hin, fun _ => ⟨hcs, ?_⟩⟩
    have hself : ∀ x : Grp, (s1.setGrp g x).grp g = x := fun x => Tab.get_set_self _ _ _ _
    rw [hself]
    exact congrArg some hnew

end GrpMode

/-! ### The settings of PLL-A and PLL-B -/

theorem pllWords_pll {x y : Nat} {e f : RegKey × Word} (he : e ∈ pllWords x) (hf : f ∈ pllWords y) (h : e.1 = f.1) : x = y := by
  have hi : ∀ {z} {e : RegKey × Word}, e ∈ pllWords z → e.1.i = z := fun {z} {e} he => by
    simp only [pllWords, List.mem_cons, List.not_mem_nil, or_false] at he
    rcases he with rfl | rfl | rfl | rfl | rfl <;> rfl
  rw [← hi he, ← hi hf, h]

theorem pllWords_name {x : Nat} {e : RegKey × Word} (he : e ∈ pllWords x) :
    e.1.name ∈ [RegName.pllCfg, .pllRatioN, .pllRatioNum, .pllRatioDen, .pllSrcCand] := by
  simp only [pllWords, List.mem_cons, List.not_mem_nil, or_false] at he
  rcases he with rfl | rfl | rfl | rfl | rfl <;> simp

section Pll

variable {s : State} {k : RegKey} {x : Nat} {m : Word}

/-- The settings of a PLL go back to their applied values. -/
def State.pllRevert (s : State) (x : Nat) : State := ((pllWords x).foldl (fun s e => s.revertBits e.1 e.2) s).raise Ev.pllCfgBad

theorem State.revertWords_word (l : List (RegKey × Word)) (hl : l.Pairwise (fun e f => e.1 ≠ f.1)) (h : (k, m) ∈ l) (s : State) :
    (l.foldl (fun s e => s.revertBits e.1 e.2) s).written k = mergeBits m (s.written k) (s.stored k) := by
  induction l generalizing s with
  | nil => cases h
  | cons e l ih =>
    obtain ⟨he, hl⟩ := List.pairwise_cons.mp hl
    rcases List.mem_cons.mp h with rfl | h
    · have hrest : (l.foldl (fun s e => s.revertBits e.1 e.2) (s.revertBits k m)).written k = (s.revertBits k m).written k :=
        foldl_kept (g := fun s : State => s.written k) l (fun t f hf => State.revertBits_written_ne (he f hf) f.2) _
      exact hrest.trans (State.revertBits_written_self m)
    · rw [List.foldl_cons, ih hl h, State.revertBits_written_ne (fun hk => he (k, m) h hk.symm), State.revertBits_stored]

theorem pllWords_pairwise (x : Nat) : (pllWords x).Pairwise (fun e f => e.1 ≠ f.1) := by
  simp [pllWords]

theorem State.pllRevert_word (h : (k, m) ∈ pllWords x) (s : State) :
    (s.pllRevert x).written k = mergeBits m (s.written k) (s.stored k) ∧ (s.pllRevert x).stored k = s.stored k := by
  have hregs : (s.pllRevert x).regs = ((pllWords x).foldl (fun s e => s.revertBits e.1 e.2) s).regs :=
    State.raise_touches (ps := Part.others .regs) _ _ _ _ _ rfl .regs rfl
  rw [State.written_of_regs hregs, State.stored_of_regs hregs]
  exact ⟨State.revertWords_word _ (pllWords_pairwise x) h s,
    foldl_kept (f := fun (s : State) (e : RegKey × Word) => s.revertBits e.1 e.2) (g := fun s : State => s.stored k) (pllWords x) (fun _ _ _ => rfl) s⟩

/-- A setting that waits alone is looked at with those of its PLL. -/
theorem State.pllCommitPre_one (hx : x = 1 ∨ x = 2) (h : (k, m) ∈ pllWords x) (s : State) :
    s.pllCommitPre [k] = if s.pllCfgBad x then s.pllRevert x else s := by
  have hany : ∀ y, ([k].any (fun k => (pllWords y).any (fun e => decide (e.1 = k)))) = decide (y = x) := fun y => by
    rw [List.any_cons, List.any_nil, Bool.or_false]
    by_cases hy : y = x
    · subst hy
      rw [decide_eq_true rfl]
      exact List.any_eq_true.mpr ⟨(k, m), h, decide_eq_true rfl⟩
    · rw [decide_eq_false hy]
      exact List.any_eq_false.mpr fun e he => by simpa using fun hk => hy (pllWords_pll he h hk)
  have hstep : ∀ (t : State) (y : Nat), (if [k].any (fun k => (pllWords y).any (fun e => decide (e.1 = k))) && t.pllCfgBad y then t.pllRevert y else t) =
      if y = x ∧ t.pllCfgBad y then t.pllRevert y else t := fun t y => by
    rw [hany]
    simp only [Bool.and_eq_true, decide_eq_true_eq]
  have hrun : s.pllCommitPre [k] = [1, 2].foldl (fun t y => if y = x ∧ t.pllCfgBad y then t.pllRevert y else t) s :=
    congrArg (fun f => [1, 2].foldl f s) (funext fun t => funext fun y => hstep t y)
  rw [hrun, List.foldl_cons, List.foldl_cons, List.foldl_nil]
  rcases hx with rfl | rfl <;> simp

theorem State.commitWord_pll (h : (k, m) ∈ pllWords x) (s : State) : s.commitWord k = s.copyBits k (k.pointMask .cmt) := by
  simp only [pllWords, List.mem_cons, List.not_mem_nil, or_false, Prod.mk.injEq] at h
  rcases h with ⟨rfl, -⟩ | ⟨rfl, -⟩ | ⟨rfl, -⟩ | ⟨rfl, -⟩ | ⟨rfl, -⟩ <;> rfl

theorem and_within {a b m p : Word} (h : a &&& m = b &&& m) : a &&& (m &&& p) = b &&& (m &&& p) := by
  rw [← BitVec.and_assoc, ← BitVec.and_assoc, h]

theorem and_within_right {a b m p : Word} (h : a &&& p = b &&& p) : a &&& (m &&& p) = b &&& (m &&& p) := by
  rw [BitVec.and_comm m p]
  exact and_within h

/-- R275: the settings of a PLL that is refused keep their applied values, others take the written ones. -/
theorem State.commit_pll (hx : x = 1 ∨ x = 2) (h : (k, m) ∈ pllWords x) (halone : s.waiting .cmt = [k]) :
    s.commit.stored k &&& (m &&& k.pointMask .cmt) =
      (if s.pllCfgBad x then s.stored k else mergeBits (k.pointMask .cmt) (s.stored k) (s.written k)) &&& (m &&& k.pointMask .cmt) ∧
    s.commit.written k &&& (m &&& k.pointMask .cmt) = s.commit.stored k &&& (m &&& k.pointMask .cmt) := by
  have htx : k.name ≠ .laneTxEq := fun hn => by
    have hname := pllWords_name h
    rw [hn] at hname
    simp at hname
  have hfold : s.commitFold = (if s.pllCfgBad x then s.pllRevert x else s).copyBits k (k.pointMask .cmt) := by
    rw [State.commitFold, halone, State.pllCommitPre_one hx h, List.foldl_cons, List.foldl_nil, State.commitWord_pll h]
  rw [State.commit_stored, State.commit_written, hfold, State.copyBits_stored_self, State.copyBits_written (.inl htx)]
  refine ⟨?_, and_within_right (mergeBits_within _ _ _).symm⟩
  rw [and_within_right (mergeBits_within _ _ _)]
  split
  · rw [and_within ((congrArg (· &&& m) (State.pllRevert_word h s).1).trans (mergeBits_within _ _ _))]
  · rw [and_within_right (mergeBits_within _ _ _)]

end Pll

end Sys2Proof.Machine
end

section
/-! ## DISCARD and the frame boundaries of a port (R31, R32, R35, R139) -/

set_option Elab.async false

namespace Sys2Proof.Machine

/-! ### DISCARD -/

section Discard

variable {s : State}

/-- The words that wait for a commit, held ones too. -/
def State.cmtWords (s : State) : List RegKey := (s.regs.pend.filter (fun x => x.points.contains .cmt)).map (fun x => x.key)

theorem State.revertPoint_word (ks : List RegKey) (k : RegKey) (p : ApplyPoint) (s : State) :
    (ks.foldl (fun s k => s.revertBits k (k.pointMask p)) s).stored k = s.stored k ∧
    (ks.foldl (fun s k => s.revertBits k (k.pointMask p)) s).written k =
      (if k ∈ ks then mergeBits (k.pointMask p) (s.written k) (s.stored k) else s.written k) := by
  induction ks generalizing s with
  | nil => exact ⟨rfl, rfl⟩
  | cons x ks ih =>
    obtain ⟨hstored, hwritten⟩ := ih (s.revertBits x (x.pointMask p))
    rw [State.revertBits_stored] at hstored hwritten
    refine ⟨hstored, hwritten.trans ?_⟩
    by_cases hx : k = x
    · subst hx
      rw [State.revertBits_written_self, mergeBits_again, if_pos List.mem_cons_self, ite_self]
    · rw [State.revertBits_written_ne hx]
      simp only [List.mem_cons, hx, false_or]

theorem State.discard_applied (s : State) : s.discard.regs.applied = s.regs.applied :=
  foldl_kept (f := fun (s : State) (k : RegKey) => s.revertBits k (k.pointMask .cmt)) (g := fun s : State => s.regs.applied) s.cmtWords (fun _ _ _ => rfl) s

theorem State.mem_cmtWords {k : RegKey} : k ∈ s.cmtWords ↔ s.regs.pend.any (fun x => decide (x.key = k) && x.points.contains .cmt) = true := by
  simp only [State.cmtWords, List.mem_map, List.mem_filter, List.any_eq_true, Bool.and_eq_true, decide_eq_true_eq]
  exact ⟨fun ⟨x, ⟨hx, hp⟩, hk⟩ => ⟨x, hx, hk, hp⟩, fun ⟨x, hx, hk, hp⟩ => ⟨x, ⟨hx, hp⟩, hk⟩⟩

theorem State.discard_written (s : State) (k : RegKey) : s.discard.written k =
    if s.regs.pend.any (fun x => decide (x.key = k) && x.points.contains .cmt) then mergeBits (k.pointMask .cmt) (s.written k) (s.stored k)
    else s.written k := by
  have hrun : s.discard.written k = (s.cmtWords.foldl (fun s k => s.revertBits k (k.pointMask .cmt)) s).written k := rfl
  rw [hrun, (State.revertPoint_word s.cmtWords k .cmt s).2]
  simp only [State.mem_cmtWords]

/-- What is left of an entry of the pending store once the commit is dropped from it. -/
def Pend.discarded (x : Pend) : Pend := { x with points := x.points.filter (fun q => decide (q ≠ .cmt)) }

theorem Pend.discarded_waits {x : Pend} {p : ApplyPoint} (hp : p ≠ .cmt) : x.discarded.waits p = x.waits p := by
  simp [Pend.waits, Pend.discarded, List.contains_eq_mem, hp]

theorem State.mem_discard_pend {y : Pend} : y ∈ s.discard.regs.pend ↔
    (y.points ≠ [] ∨ (y.dom = true ∧ y.key ∉ s.cmtWords)) ∧ ∃ x, x ∈ s.regs.pend ∧ x.discarded = y := by
  have hrun : s.discard.regs.pend = (s.regs.pend.map Pend.discarded).filter (fun x => decide (x.points ≠ []) || (x.dom && !(s.cmtWords.contains x.key))) := rfl
  rw [hrun, List.mem_filter, List.mem_map, and_comm]
  simp [List.contains_eq_mem]

theorem State.discard_waiting {p : ApplyPoint} (hp : p ≠ .cmt) (k : RegKey) : k ∈ s.discard.waiting p ↔ k ∈ s.waiting p := by
  rw [State.mem_waitingAt, State.mem_waitingAt]
  refine and_congr_right fun _ => ⟨?_, ?_⟩
  · rintro ⟨y, hy, hw, rfl⟩
    obtain ⟨-, x, hx, rfl⟩ := State.mem_discard_pend.mp hy
    exact ⟨x, hx, (Pend.discarded_waits hp).symm.trans hw, rfl⟩
  · rintro ⟨x, hx, hw, rfl⟩
    have hwaits : x.discarded.waits p = true := (Pend.discarded_waits hp).trans hw
    exact ⟨x.discarded, State.mem_discard_pend.mpr ⟨.inl (Pend.points_ne_nil hwaits), x, hx, rfl⟩, hwaits, rfl⟩

theorem State.discard_cmt {x : Pend} (h : x ∈ s.discard.regs.pend) : x.points.contains .cmt = false := by
  obtain ⟨-, y, -, rfl⟩ := State.mem_discard_pend.mp h
  simp [Pend.discarded, List.contains_eq_mem]

end Discard

/-! ### PORT_EXPRESS at a frame boundary -/

section Express

variable (s : State) (p : Nat)

/-- The key of a port's PORT_EXPRESS. -/
abbrev expressKey : RegKey := ⟨.portExpress, p, 0⟩

theorem State.mem_waitingAt_one {s : State} {k : RegKey} {q : ApplyPoint} : k ∈ s.waitingAt q (fun x => decide (x = k)) ↔ k ∈ s.waiting q := by
  rw [State.mem_waitingAt, State.mem_waitingAt]
  simp

theorem State.waitingAt_one_nil {s : State} {k : RegKey} {q : ApplyPoint} (h : k ∉ s.waiting q) : s.waitingAt q (fun x => decide (x = k)) = [] := by
  refine List.eq_nil_iff_forall_not_mem.mpr fun x hx => ?_
  have hxk : x = k := by simpa using (State.mem_waitingAt.mp hx).1
  subst hxk
  exact h (State.mem_waitingAt_one.mp hx)

theorem State.expressApply_idle (h : expressKey p ∉ s.waiting .frm ∨ s.admBusy = true) : s.expressApply p = s := by
  unfold State.expressApply
  rw [if_pos (h.imp State.waitingAt_one_nil id)]

/-- PORT_EXPRESS before it waits no more. -/
def State.expressTaken : State :=
  s.capCheck (s.applyAt .frm (fun x => decide (x = expressKey p))) (expressKey p) ((expressKey p).pointMask .frm)

theorem State.expressApply_taken (h : expressKey p ∈ s.waiting .frm) (hfree : s.admBusy = false) :
    s.expressApply p = { s.expressTaken p with
      regs := { (s.expressTaken p).regs with pend := dropPoint (s.expressTaken p).regs.pend .frm (fun x => decide (x = expressKey p)) } } := by
  unfold State.expressApply
  rw [if_neg ?_]
  · rfl
  · rintro (hnil | hbusy)
    · have hmem := State.mem_waitingAt_one.mpr h
      rw [hnil] at hmem
      cases hmem
    · exact Bool.false_ne_true (hfree.symm.trans hbusy)

theorem State.expressTaken_cases : (s.expressTaken p = s.applyAt .frm (fun x => decide (x = expressKey p))) ∨
    (s.expressTaken p).regs = (s.revertBits (expressKey p) ((expressKey p).pointMask .frm)).regs := by
  unfold State.expressTaken State.capCheck
  split
  · exact .inr (State.raise_touches (ps := Part.others .regs) _ _ _ _ _ rfl .regs rfl)
  · exact .inl rfl

theorem State.applyExpress_word (k : RegKey) : (s.applyAt .frm (fun x => decide (x = expressKey p))).written k = s.written k ∧
    (s.applyAt .frm (fun x => decide (x = expressKey p))).stored k =
      (if k ∈ s.waitingAt .frm (fun x => decide (x = expressKey p)) then mergeBits (k.pointMask .frm) (s.stored k) (s.written k) else s.stored k) :=
  State.applyAt_word .frm (fun x => decide (x = expressKey p))
    (fun x hx => .inr (fun hn => by rw [of_decide_eq_true hx] at hn; cases hn)) s

/-- The other words stand, and no word begins to wait. -/
theorem State.expressApply_others : (∀ k, k ≠ expressKey p → (s.expressApply p).stored k = s.stored k ∧ (s.expressApply p).written k = s.written k) ∧
    ∀ k, k ∈ (s.expressApply p).waiting .frm → k ∈ s.waiting .frm := by
  by_cases hidle : expressKey p ∉ s.waiting .frm ∨ s.admBusy = true
  · rw [State.expressApply_idle s p hidle]
    exact ⟨fun _ _ => ⟨rfl, rfl⟩, fun _ h => h⟩
  · obtain ⟨hwait, hfree⟩ := not_or.mp hidle
    rw [State.expressApply_taken s p (not_not.mp hwait) (Bool.eq_false_iff.mpr hfree)]
    have htaken : (∀ k, k ≠ expressKey p → (s.expressTaken p).stored k = s.stored k ∧ (s.expressTaken p).written k = s.written k) ∧
        ∀ k, k ∈ (s.expressTaken p).waiting .frm → k ∈ s.waiting .frm := by
      rcases s.expressTaken_cases p with h | h
      · rw [h]
        refine ⟨fun k hk => ?_, fun k hk => ((State.mem_waitingAt_dropped (s.applyAt_pend .frm _)).mp hk).1⟩
        obtain ⟨hw, hs⟩ := s.applyExpress_word p k
        rw [if_neg (fun hmem => hk (of_decide_eq_true (State.mem_waitingAt.mp hmem).1))] at hs
        exact ⟨hs, hw⟩
      · refine ⟨fun k hk => ?_, fun k hk => ?_⟩
        · rw [State.stored_of_regs h, State.written_of_regs h, State.revertBits_written_ne hk]
          exact ⟨rfl, rfl⟩
        · rw [State.waiting, State.waitingAt, h] at hk
          exact hk
    generalize s.expressTaken p = t at *
    refine ⟨fun k hk => htaken.1 k hk, fun k hk => htaken.2 k ((State.mem_waitingAt_dropped (s := t) (p := .frm) (sel := fun x => decide (x = expressKey p)) ?_).mp hk).1⟩
    rfl

/-- R139: while no admission is in progress PORT_EXPRESS is decided at its frame boundary. -/
theorem State.expressApply_decides (h : expressKey p ∈ s.waiting .frm) (hfree : s.admBusy = false) :
    expressKey p ∉ (s.expressApply p).waiting .frm ∧
    (s.expressApply p).written (expressKey p) &&& (expressKey p).pointMask .frm = (s.expressApply p).stored (expressKey p) &&& (expressKey p).pointMask .frm := by
  rw [State.expressApply_taken s p h hfree]
  have hagree : (s.expressTaken p).written (expressKey p) &&& (expressKey p).pointMask .frm =
      (s.expressTaken p).stored (expressKey p) &&& (expressKey p).pointMask .frm := by
    rcases s.expressTaken_cases p with ht | ht
    · rw [ht]
      obtain ⟨hw, hs⟩ := s.applyExpress_word p (expressKey p)
      rw [if_pos (State.mem_waitingAt_one.mpr h)] at hs
      rw [hw, hs, mergeBits_within]
    · rw [State.stored_of_regs ht, State.written_of_regs ht, State.revertBits_written_self, State.revertBits_stored, mergeBits_within]
  generalize s.expressTaken p = t at *
  refine ⟨fun hk => ?_, hagree⟩
  have hdrop := ((State.mem_waitingAt_dropped (s := t) (p := .frm) (sel := fun x => decide (x = expressKey p)) (by rfl)).mp hk).2 rfl
  simp at hdrop

end Express

/-! ### The frame boundary of a port -/

section Boundary

variable (s : State) (p : Nat) (rx tx : Bool)

/-- The words of a port, but for PORT_EXPRESS. -/
def State.frmPlain (k : RegKey) : Bool := s.frmWord p rx tx k && decide (k.name ≠ .portExpress)

/-- The words of a port have taken effect, and PORT_EXPRESS is next. -/
def State.frmTaken : State := (s.applyAt .frm (s.frmPlain p rx tx)).leaveSquelch s p

theorem State.frmTaken_regs : (s.frmTaken p rx tx).regs = (s.applyAt .frm (s.frmPlain p rx tx)).regs :=
  State.leaveSquelch_touches (ps := Part.others .regs) _ s p rfl .regs rfl

theorem State.frmTaken_adm : (s.frmTaken p rx tx).admBusy = s.admBusy := by
  have h1 : AdmKept s (s.applyAt .frm (s.frmPlain p rx tx)) := ⟨rfl, rfl⟩
  exact (h1.trans (.of_touches (State.leaveSquelch_touches (ps := evtParts ++ [.lanes, .tic, .cal, .counters]) _ s p rfl) rfl rfl)).admBusy

theorem State.frameBoundaryApply_regs : (s.frameBoundaryApply p rx tx).regs =
    (if tx then (s.frmTaken p rx tx).expressApply p else s.frmTaken p rx tx).regs := by
  have hrun : s.frameBoundaryApply p rx tx =
      (let s2 := if tx then (s.frmTaken p rx tx).expressApply p else s.frmTaken p rx tx
       let s3 := if rx then s2.flowBoundary p else s2
       if rx && tx then s3.calBoundary 1 p else s3) := rfl
  rw [hrun]
  extract_lets s2 s3
  have h3 : s3.regs = s2.regs := by
    unfold s3
    split
    · exact State.flowBoundary_touches (ps := Part.others .regs) s2 p rfl .regs rfl
    · rfl
  split
  · exact (State.calBoundary_regs (by decide) (by decide) s3 p).trans h3
  · exact h3

theorem State.frmPlain_name {k : RegKey} (h : s.frmPlain p rx tx k = true) : k.name ≠ .laneGrpMode := fun hn => by
  have hword : s.frmWord p rx tx k = true := by
    rw [State.frmPlain, Bool.and_eq_true] at h
    exact h.1
  unfold State.frmWord at hword
  rw [hn] at hword
  cases hword

theorem State.frmTaken_word (k : RegKey) : (s.frmTaken p rx tx).written k = s.written k ∧ (s.frmTaken p rx tx).stored k =
    (if k ∈ s.waitingAt .frm (s.frmPlain p rx tx) then mergeBits (k.pointMask .frm) (s.stored k) (s.written k) else s.stored k) := by
  rw [State.stored_of_regs (s.frmTaken_regs p rx tx), State.written_of_regs (s.frmTaken_regs p rx tx)]
  exact State.applyAt_word .frm (s.frmPlain p rx tx) (fun x hx => .inr (s.frmPlain_name p rx tx hx)) s

theorem State.mem_frmTaken_waiting {k : RegKey} : k ∈ (s.frmTaken p rx tx).waiting .frm ↔ k ∈ s.waiting .frm ∧ s.frmPlain p rx tx k = false := by
  have hpend : (s.frmTaken p rx tx).regs.pend = dropPoint s.regs.pend .frm (s.frmPlain p rx tx) := by
    rw [s.frmTaken_regs]
    rfl
  exact (State.mem_waitingAt_dropped hpend).trans (and_congr_right fun _ => ⟨fun h => h rfl, fun h _ => h⟩)

theorem State.frmPlain_express : s.frmPlain p rx tx (expressKey p) = false := by simp [State.frmPlain]

theorem State.mem_waitingAt_plain {k : RegKey} (hne : k.name ≠ .portExpress) :
    k ∈ s.waitingAt .frm (s.frmPlain p rx tx) ↔ k ∈ s.waitingAt .frm (s.frmWord p rx tx) := by
  rw [State.mem_waitingAt, State.mem_waitingAt, State.frmPlain]
  simp [hne]

theorem State.not_mem_waitingAt_plain {k : RegKey} (h : k ∉ s.waitingAt .frm (s.frmWord p rx tx)) : k ∉ s.waitingAt .frm (s.frmPlain p rx tx) := fun hk => by
  obtain ⟨hsel, hx⟩ := State.mem_waitingAt.mp hk
  rw [State.frmPlain, Bool.and_eq_true] at hsel
  exact h (State.mem_waitingAt.mpr ⟨hsel.1, hx⟩)

/-- R31, R32: the FRM fields of the words of a port take effect at its frame boundary. -/
theorem State.frameBoundary_word {k : RegKey} (hwait : k ∈ s.waitingAt .frm (s.frmWord p rx tx)) (hne : k.name ≠ .portExpress) :
    (s.frameBoundaryApply p rx tx).stored k = mergeBits (k.pointMask .frm) (s.stored k) (s.written k) ∧
    k ∉ (s.frameBoundaryApply p rx tx).waiting .frm := by
  have hplain := (s.mem_waitingAt_plain p rx tx hne).mpr hwait
  have htaken := (s.frmTaken_word p rx tx k).2
  rw [if_pos hplain] at htaken
  have hgone : k ∉ (s.frmTaken p rx tx).waiting .frm := fun h => by
    have hsel := (State.mem_waitingAt.mp hplain).1
    rw [((s.mem_frmTaken_waiting p rx tx).mp h).2] at hsel
    cases hsel
  have hregs := s.frameBoundaryApply_regs p rx tx
  rw [State.stored_of_regs hregs, State.waiting, State.waitingAt, hregs]
  cases tx
  · exact ⟨htaken, hgone⟩
  · obtain ⟨hothers, hfewer⟩ := (s.frmTaken p rx true).expressApply_others p
    exact ⟨((hothers k (fun h => hne (congrArg RegKey.name h))).1).trans htaken, fun h => hgone (hfewer k h)⟩

/-- Every other word stands. -/
theorem State.frameBoundary_others {k : RegKey} (hno : k ∉ s.waitingAt .frm (s.frmWord p rx tx)) :
    (s.frameBoundaryApply p rx tx).stored k = s.stored k ∧ (s.frameBoundaryApply p rx tx).written k = s.written k := by
  obtain ⟨hw, hs⟩ := s.frmTaken_word p rx tx k
  rw [if_neg (s.not_mem_waitingAt_plain p rx tx hno)] at hs
  have hregs := s.frameBoundaryApply_regs p rx tx
  rw [State.stored_of_regs hregs, State.written_of_regs hregs]
  cases tx
  · exact ⟨hs, hw⟩
  · by_cases hk : k = expressKey p
    · subst hk
      have hidle : expressKey p ∉ (s.frmTaken p rx true).waiting .frm := fun h => by
        obtain ⟨hwait, -⟩ := (s.mem_frmTaken_waiting p rx true).mp h
        obtain ⟨-, hx⟩ := State.mem_waitingAt.mp hwait
        exact hno (State.mem_waitingAt.mpr ⟨by simp [State.frmWord], hx⟩)
      rw [if_pos rfl, State.expressApply_idle _ p (.inl hidle)]
      exact ⟨hs, hw⟩
    · obtain ⟨hothers, -⟩ := (s.frmTaken p rx true).expressApply_others p
      exact ⟨((hothers k hk).1).trans hs, ((hothers k hk).2).trans hw⟩

/-- R139: PORT_EXPRESS at its frame boundary is decided, or waits for the next one while an admission is in progress. -/
theorem State.frameBoundary_express (hwait : expressKey p ∈ s.waiting .frm) :
    (s.admBusy = false → expressKey p ∉ (s.frameBoundaryApply p rx true).waiting .frm ∧
      (s.frameBoundaryApply p rx true).written (expressKey p) &&& (expressKey p).pointMask .frm =
        (s.frameBoundaryApply p rx true).stored (expressKey p) &&& (expressKey p).pointMask .frm) ∧
    (s.admBusy = true → expressKey p ∈ (s.frameBoundaryApply p rx true).waiting .frm ∧
      (s.frameBoundaryApply p rx true).stored (expressKey p) = s.stored (expressKey p) ∧
      (s.frameBoundaryApply p rx true).written (expressKey p) = s.written (expressKey p)) := by
  have hplain := s.frmPlain_express p rx true
  obtain ⟨hw, hs⟩ := s.frmTaken_word p rx true (expressKey p)
  rw [if_neg (fun h => by rw [(State.mem_waitingAt.mp h).1] at hplain; cases hplain)] at hs
  have hmem : expressKey p ∈ (s.frmTaken p rx true).waiting .frm := (s.mem_frmTaken_waiting p rx true).mpr ⟨hwait, hplain⟩
  have hadm := s.frmTaken_adm p rx true
  have hregs := s.frameBoundaryApply_regs p rx true
  rw [if_pos rfl] at hregs
  rw [State.stored_of_regs hregs, State.written_of_regs hregs, State.waiting, State.waitingAt, hregs]
  refine ⟨fun hfree => State.expressApply_decides _ p hmem (hadm.trans hfree), fun hbusy => ?_⟩
  rw [State.expressApply_idle _ p (.inr (hadm.trans hbusy))]
  exact ⟨hmem, hs, hw⟩

end Boundary

/-! ### The statement -/

/-- Settles O11: a commit takes its words one after the other, each by its rule, and what follows them writes no register; DISCARD and a frame boundary are
folds over the words that they name. -/
theorem applyPoints : Obligations.ApplyPoints := by
  unfold Obligations.ApplyPoints
  refine ⟨?commit, ?free, ?one, ?atSec, ?discard, ?frame, ?express⟩
  case commit =>
    intro s hup
    have hframe := s.commit_touches (ps := commitParts) rfl
    have hwait := fun k => State.mem_waiting_commit (s := s) (k := k)
    have hat := s.commit_atSec
    have hexec : exec .commit s = effect true s s.commit := rfl
    generalize s.commit = t at *
    refine gives_effect hexec hup rfl ⟨fun hfree => ?_, fun k hk => (hwait k hk).2, hat, hframe.carry⟩
    exact List.eq_nil_iff_forall_not_mem.mpr fun k hk => Bool.false_ne_true (hfree.symm.trans (hwait k hk).1)
  case free =>
    intro s k hup hk hfree hm
    obtain ⟨hstored, hwritten⟩ := State.commit_free hfree hm hk
    have hexec : exec .commit s = effect true s s.commit := rfl
    generalize s.commit = t at *
    exact gives_effect hexec hup rfl ⟨hstored, hwritten⟩
  case one =>
    intro s k w hup halone hw
    have hwait : k ∈ s.waiting .cmt := by rw [State.waiting, halone]; exact List.mem_singleton_self k
    have hexec : exec .commit s = effect true s s.commit := rfl
    have hstored := s.commit_stored k
    have hwritten := s.commit_written k
    have hgrps := s.commit_grps
    have hfold : k.name ∉ [RegName.pllCfg, .pllRatioN, .pllRatioNum, .pllRatioDen, .pllSrcCand] → s.commitFold = s.commitWord k := fun hn =>
      State.commitFold_one halone (fun x e he hk => hn (hk ▸ pllWords_name he))
    refine ⟨fun hk => ?_, fun hname => ?_, fun hname hfree => ?_, fun g q hk hg hq => ?_, fun x m hx hmem => ?_⟩
    · subst hk
      have hdec := s.commitWord_boundRate
      rw [← hfold (by decide)] at hdec
      have htake : (s.copyBits ⟨.swBoundRate, 0, 0⟩ (RegKey.pointMask ⟨.swBoundRate, 0, 0⟩ .cmt)).stored ⟨.swBoundRate, 0, 0⟩ = w :=
        (State.copyBits_stored_self _).trans hw.symm
      rw [htake] at hdec
      have hagree := hdec.agree
      rw [← hstored, ← hwritten] at hagree
      have hvalue : s.commit.stored ⟨.swBoundRate, 0, 0⟩ =
          if fieldOf w 0 16 < 3072 ∨ 5715 < fieldOf w 0 16 then s.stored ⟨.swBoundRate, 0, 0⟩ else w := by
        rw [hstored]
        split
        · next h => exact hdec.kept h
        · next h => exact (hdec.taken h).trans hw.symm
      generalize s.commit = t at *
      exact gives_effect hexec hup rfl ⟨hvalue, hagree⟩
    · obtain ⟨keep, hdec⟩ := State.commitWord_bpm hname s
      rw [← hfold (by rcases hname with h | h <;> rw [h] <;> decide)] at hdec
      have hagree := hdec.agree
      have hkept := hdec.kept
      have htaken := hdec.taken
      rw [← hstored, ← hwritten] at hagree
      rw [← hstored] at hkept htaken
      generalize s.commit = t at *
      refine gives_effect hexec hup rfl ⟨?_, hagree⟩
      by_cases h : keep
      · exact .inr (hkept h)
      · exact .inl ((htaken h).trans hw.symm)
    · have hdec := State.capNext_decided hname hwait hfree
      rw [← State.commitWord_cap hname, ← hfold (by rcases hname with h | h <;> rw [h] <;> decide)] at hdec
      have hagree := hdec.agree
      rw [← hstored, ← hwritten] at hagree
      have hvalue : s.commit.stored k = if ((s.copyBits k (k.pointMask .cmt)).firstBroken k.i).isSome then s.stored k else w := by
        rw [hstored]
        split
        · next h => exact hdec.kept h
        · next h => exact (hdec.taken h).trans hw.symm
      generalize s.commit = t at *
      exact gives_effect hexec hup rfl ⟨hvalue, hagree⟩
    · subst hk
      obtain ⟨hquad, hin, hout⟩ := s.commitGrpMode_gives g
      have hrun : s.commitFold = s.commitGrpMode g := hfold (show RegName.laneGrpMode ∉ _ by decide)
      rw [← hrun, ← hstored, ← hwritten] at hin hout
      rw [← hrun, ← hwritten] at hquad
      have hgrp : s.commit.grp g = s.commitFold.grp g := by
        rw [State.grp, hgrps]
        rfl
      rw [← hgrp] at hout
      generalize s.commit = t at *
      exact gives_effect hexec hup rfl ⟨hquad q hq, fun h => hin h q hq, hout⟩
    · obtain ⟨hs, hagree⟩ := State.commit_pll hx hmem halone
      generalize s.commit = t at *
      rw [hw]
      exact gives_effect hexec hup rfl ⟨hs, hagree⟩
  case atSec =>
    intro s hup
    exact gives_effect rfl hup rfl ⟨rfl, Touches.carry ((Touches.refl _ _).set_regs rfl)⟩
  case discard =>
    intro s hup
    have hexec : exec .discard s = effect true s s.discard := rfl
    exact gives_effect hexec hup rfl ⟨s.discard_applied, fun x hx => State.discard_cmt hx, rfl, fun k => s.discard_written k,
      fun p k hp => State.discard_waiting hp k, Touches.carry ((Touches.refl _ _).set_regs rfl)⟩
  case frame =>
    intro s p rx tx hup hp
    have hframe := s.frameBoundaryApply_touches p rx tx (ps := evtParts ++ [Part.regs, .lanes, .sw, .tic, .cal, .rc .calAbortCnt]) rfl
    have hword := fun k => s.frameBoundary_word p rx tx (k := k)
    have hothers := fun k => s.frameBoundary_others p rx tx (k := k)
    have hexec : exec (.frameBoundaryApply p rx tx) s = effect (portNo p) s (s.frameBoundaryApply p rx tx) := rfl
    generalize s.frameBoundaryApply p rx tx = t at *
    exact gives_effect hexec hup (decide_eq_true (Nat.lt_succ_of_le hp)) ⟨fun k hk hne => hword k hk hne, fun k hk => hothers k hk, hframe.carry⟩
  case express =>
    intro s p rx k hup hp hk hwait
    subst hk
    obtain ⟨hfree, hbusy⟩ := s.frameBoundary_express p rx hwait
    have hexec : exec (.frameBoundaryApply p rx true) s = effect (portNo p) s (s.frameBoundaryApply p rx true) := rfl
    generalize s.frameBoundaryApply p rx true = t at *
    exact gives_effect hexec hup (decide_eq_true (Nat.lt_succ_of_le hp)) ⟨hfree, hbusy⟩

end Sys2Proof.Machine
end

section
/-! ## Messages of timing channels (R178, R218, R222 to R225, R228, R230, R238, R239) -/

set_option Elab.async false

namespace Sys2Proof.Machine

/-! ### A message that a channel takes -/

section Receive

variable {s : State} {f i e : Nat} {m : PtpMsg} {fr : Frame}

theorem State.setFrame_frame?_ne (s : State) (f : Nat) (x : Frame) {g : Nat} (h : g ≠ f) : (s.setFrame f x).frame? g = s.frame? g :=
  Tab.find_set_ne _ _ _ _ h

theorem State.setTchan_tchan_self (s : State) (i : Nat) (x : TChan) : (s.setTchan i x).tchan i = x := Tab.get_set_self _ _ _ _

theorem State.setTchan_tchan_ne (s : State) (i : Nat) (x : TChan) {j : Nat} (h : j ≠ i) : (s.setTchan i x).tchan j = s.tchan j :=
  Tab.get_set_ne _ _ _ _ _ h

theorem State.tchan_of_tchans {s t : State} (h : t.tchans = s.tchans) (j : Nat) : t.tchan j = s.tchan j := by
  rw [State.tchan, h]
  rfl

/-- A message has been counted, and its sender's address noted. -/
def TChan.received (c : TChan) (now : Nat) (m : PtpMsg) (fr : Frame) : TChan :=
  { c with
    rx := satAdd 32 c.rx 1, dst := fr.h.dst
    recent := if m.kind < 4 then (now, m.kind) :: c.recent.filter (fun e => decide (now < e.1 + 10 ^ 12)) else c.recent }

/-- The message is counted, and its TLV looked at (R238). -/
def State.chanReceived (s : State) (i : Nat) (m : PtpMsg) (fr : Frame) : State :=
  let s1 := s.setTchan i ((s.tchan i).received s.clk.now m fr)
  if m.kind = 0 ∨ m.kind = 1 ∨ m.kind = 9 ∨ m.kind = 11 then s1.lnkTlv m.port m.tlv else s1

/-- The parts in which a message of a timing channel shows. -/
abbrev msgParts : List Part := evtParts ++ [.tchans, .lnk, .tic, .cal, .rc .calAbortCnt]

theorem State.chanReceived_gives (s : State) (i : Nat) (m : PtpMsg) (fr : Frame) :
    (s.chanReceived i m fr).tchan i = (s.tchan i).received s.clk.now m fr ∧ (∀ j, j ≠ i → (s.chanReceived i m fr).tchan j = s.tchan j) ∧
    Touches msgParts s (s.chanReceived i m fr) := by
  have hset : Touches msgParts s (s.setTchan i ((s.tchan i).received s.clk.now m fr)) := (Touches.refl _ _).set_tchans rfl
  have hself := s.setTchan_tchan_self i ((s.tchan i).received s.clk.now m fr)
  have hne := fun j (h : j ≠ i) => s.setTchan_tchan_ne i ((s.tchan i).received s.clk.now m fr) h
  unfold State.chanReceived
  generalize s.setTchan i ((s.tchan i).received s.clk.now m fr) = t at *
  dsimp only
  split
  · have hkept := State.tchan_of_tchans (State.lnkTlv_touches (ps := Part.others .tchans) t m.port m.tlv rfl .tchans rfl)
    exact ⟨(hkept i).trans hself, fun j hj => (hkept j).trans (hne j hj), hset.step (State.lnkTlv_touches t _ _ rfl)⟩
  · exact ⟨hself, hne, hset⟩

theorem State.chanMessage_eq (hrate : s.overRate i m.kind = false) : s.chanMessage i m fr =
    if (s.tchan i).role = 0 then (if m.kind = 1 then (s.chanReceived i m fr).chanAsk i m fr else s.chanReceived i m fr)
    else match m.kind with
      | 0 => (s.chanReceived i m fr).chanSyncRx i m fr
      | 8 => (s.chanReceived i m fr).chanFollowUp i m fr
      | 9 => (s.chanReceived i m fr).chanResp i m fr
      | 11 => (s.chanReceived i m fr).chanAnnounce i m
      | _ => s.chanReceived i m fr := by
  unfold State.chanMessage
  rw [if_neg (by rw [hrate]; exact Bool.false_ne_true)]
  rfl

theorem State.taskHeld_of_eng {s t : State} (h : Part.eng.same s t) (n : Nat) : t.taskHeld n = s.taskHeld n := by
  have htasks : t.eng.tasks = s.eng.tasks := (congrArg EngState.tasks (h :) :)
  rw [State.taskHeld, State.taskHeld, htasks]

/-- Channel `i` is left as `c`, and the other channels as they were. -/
structure Heard (i : Nat) (c : TChan) (s t : State) : Prop where
  chan : t.tchan i = c
  others : ∀ j, j ≠ i → t.tchan j = s.tchan j
  frame : Touches msgParts s t

theorem Heard.of_set {t u : State} {c d : TChan} (h : Heard i c s t) (hu : u = t.setTchan i d) : Heard i d s u where
  chan := hu ▸ t.setTchan_tchan_self i d
  others j hj := by rw [hu, t.setTchan_tchan_ne i d hj, h.others j hj]
  frame := by
    rw [hu]
    exact h.frame.set_tchans rfl

theorem State.chanHears_listening (h : (s.tchan i).state = .listening) : s.chanHears i = s :=
  if_neg (fun hc => by rw [h] at hc; cases hc.1)

/-- A Sync heard by a channel that listens. -/
def TChan.synced (c : TChan) (m : PtpMsg) (fr : Frame) : TChan :=
  if fr.h.ptpTwoStep then { c with heardSync := true, syncSrc := some m.srcPort, syncPend := some { m.syncRx fr with t1 := fr.h.ptpCorr } }
  else { c with heardSync := true, syncSrc := some m.srcPort, sync := some (m.syncRx fr), syncPend := none }

theorem State.chanSyncRx_heard {t : State} {c : TChan} (h : Heard i c s t) (hst : c.state = .listening) :
    Heard i (c.synced m fr) s (t.chanSyncRx i m fr) := by
  have hlisten : (t.tchan i).state = .listening := h.chan ▸ hst
  have hrun : t.chanSyncRx i m fr = if (t.tchan i).syncSrc = some m.srcPort then t.setTchan i ((t.tchan i).synced m fr)
      else (t.setTchan i ((t.tchan i).synced m fr)).pairsEval false := by
    unfold State.chanSyncRx
    rw [State.chanHears_listening hlisten]
    dsimp only
    rw [if_neg (c := (t.tchan i).state = .selected ∧ _) (fun hc => by rw [hlisten] at hc; cases hc.1)]
    rfl
  rw [hrun, h.chan]
  have hset : Heard i (c.synced m fr) s (t.setTchan i (c.synced m fr)) := h.of_set rfl
  generalize t.setTchan i (c.synced m fr) = u at *
  split
  · exact hset
  · have hkept := State.tchan_of_tchans (State.pairsEval_touches (ps := Part.others .tchans) u false rfl .tchans rfl)
    exact ⟨(hkept i).trans hset.chan, fun j hj => (hkept j).trans (hset.others j hj), hset.frame.step (State.pairsEval_touches u false rfl)⟩

/-- An Announce heard by a channel. -/
def TChan.announcedBy (c : TChan) (m : PtpMsg) : TChan :=
  { c with heardAnnounce := true, cls := m.cls, acc := m.acc, var := m.var, steps := m.steps, gm := m.gm }

theorem State.chanAnnounce_heard {t : State} {c : TChan} (h : Heard i c s t) (hst : c.state = .listening) (htask : s.taskHeld 3 = false) :
    Heard i (c.announcedBy m) s (t.chanAnnounce i m) := by
  have hlisten : (t.tchan i).state = .listening := h.chan ▸ hst
  have hset : Heard i (c.announcedBy m) s (t.setTchan i ((t.tchan i).announcedBy m)) := by
    rw [h.chan]
    exact h.of_set rfl
  have hheld : (t.setTchan i ((t.tchan i).announcedBy m)).taskHeld 3 = false := (State.taskHeld_of_eng (hset.frame .eng rfl) 3).trans htask
  have hrun : t.chanAnnounce i m = t.setTchan i ((t.tchan i).announcedBy m) := by
    unfold State.chanAnnounce
    rw [State.chanHears_listening hlisten]
    dsimp only
    rw [if_neg (c := (t.tchan i).state = .selected ∧ _) (fun hc => by rw [hlisten] at hc; cases hc.1)]
    exact if_pos (by rw [Bool.not_eq_true']; exact hheld)
  rw [hrun]
  exact hset

/-- What a message makes of the channel that takes it: the rules of the role, of Sync and of Announce. -/
structure TChan.Takes (c d : TChan) (m : PtpMsg) (fr : Frame) : Prop where
  rx : d.rx = satAdd 32 c.rx 1
  dst : d.dst = fr.h.dst
  state : d.state = c.state
  tx : d.tx = c.tx
  asks : c.role = 0 → m.kind = 1 → d.asks = c.asks ++
    [{ srcPort := m.srcPort, seq := m.seq, corr := fr.h.ptpCorr, ns := totalNs fr.tod, frac := fracOf fr.tod, refined := fr.refined }]
  sync : c.role ≠ 0 → m.kind = 0 → d.heardSync = true ∧ d.syncSrc = some m.srcPort ∧ (fr.h.ptpTwoStep = false → d.sync = some (m.syncRx fr))
  announce : c.role ≠ 0 → m.kind = 11 → d.heardAnnounce = true ∧ d.cls = m.cls ∧ d.acc = m.acc ∧ d.var = m.var ∧ d.steps = m.steps ∧ d.gm = m.gm
  engine : d.engine = c.engine

/-- R222 to R225, R239: what a message leaves in the channel that takes it. -/
theorem State.chanMessage_takes (hrate : s.overRate i m.kind = false)
    (hcase : (s.tchan i).role = 0 ∨ (m.kind = 0 ∧ (s.tchan i).state = .listening) ∨
      (m.kind = 11 ∧ (s.tchan i).state = .listening ∧ s.taskHeld 3 = false)) :
    ∃ d, (s.tchan i).Takes d m fr ∧ Heard i d s (s.chanMessage i m fr) := by
  obtain ⟨hself, hothers, hframe⟩ := s.chanReceived_gives i m fr
  have hheard : Heard i ((s.tchan i).received s.clk.now m fr) s (s.chanReceived i m fr) := ⟨hself, hothers, hframe⟩
  have hbase : ∀ c : TChan, c.role = (c.received s.clk.now m fr).role := fun _ => rfl
  rw [State.chanMessage_eq hrate]
  by_cases hrole : (s.tchan i).role = 0
  · rw [if_pos hrole]
    by_cases hkind : m.kind = 1
    · rw [if_pos hkind]
      refine ⟨_, ?_, hheard.of_set rfl⟩
      rw [hself]
      exact ⟨rfl, rfl, rfl, rfl, fun _ _ => rfl, fun h => absurd hrole h, fun h => absurd hrole h, rfl⟩
    · rw [if_neg hkind]
      exact ⟨(s.tchan i).received s.clk.now m fr, ⟨rfl, rfl, rfl, rfl, fun _ h => absurd h hkind, fun h => absurd hrole h, fun h => absurd hrole h, rfl⟩,
        hheard⟩
  · rw [if_neg hrole]
    rcases hcase with h | ⟨hkind, hst⟩ | ⟨hkind, hst, htask⟩
    · exact absurd h hrole
    · rw [hkind]
      refine ⟨_, ?_, State.chanSyncRx_heard hheard hst⟩
      unfold TChan.synced
      split
      · next htwo =>
        exact ⟨rfl, rfl, rfl, rfl, fun h => absurd h hrole, fun _ _ => ⟨rfl, rfl, fun h => absurd (h.symm.trans htwo) Bool.false_ne_true⟩,
          fun _ h => absurd (hkind.symm.trans h) (by decide), rfl⟩
      · exact ⟨rfl, rfl, rfl, rfl, fun h => absurd h hrole, fun _ _ => ⟨rfl, rfl, fun _ => rfl⟩,
          fun _ h => absurd (hkind.symm.trans h) (by decide), rfl⟩
    · rw [hkind]
      exact ⟨((s.tchan i).received s.clk.now m fr).announcedBy m, ⟨rfl, rfl, rfl, rfl, fun h => absurd h hrole, fun _ h => absurd (hkind.symm.trans h) (by decide),
        fun _ _ => ⟨rfl, rfl, rfl, rfl, rfl, rfl⟩, rfl⟩, State.chanAnnounce_heard hheard hst htask⟩

theorem State.ptpMessageReceive_claimed (hframe : s.frame? f = some fr) (hdec : fr.decided = false) (heng : fr.toEngine = false) (hport : fr.port = m.port)
    (hfwd : s.fdbState m.port = 0 ∨ fr.h.linkLocal = true) (hown : m.own = false) (hclaim : s.claim m = some i) :
    s.ptpMessageReceive f m =
      match (s.obj .tchan i).phase with
      | .active => if ((s.setFrame f { fr with toEngine := true }).tchan i).engine.isSome then
          ((s.setFrame f { fr with toEngine := true }).chanMessage i m fr).chanClosed i else s.setFrame f { fr with toEngine := true }
      | .draining => if m.kind = 9 ∧ m.forUs ∧ m.seq = Tab.get 0 ((s.setFrame f { fr with toEngine := true }).tchan i).seqs 1 then
          (s.setFrame f { fr with toEngine := true }).setTchan i { (s.setFrame f { fr with toEngine := true }).tchan i with outstanding := false }
          else s.setFrame f { fr with toEngine := true }
      | .suspended => s.setFrame f { fr with toEngine := true } := by
  have hopen : ¬ (fr.decided = true ∨ fr.toEngine = true ∨ fr.port ≠ m.port ∨ (s.fdbState m.port ≠ 0 ∧ (!fr.h.linkLocal) = true)) := by
    rcases hfwd with h | h <;> simp [hdec, heng, hport, h]
  unfold State.ptpMessageReceive
  rw [hframe]
  dsimp only
  rw [if_neg hopen, hown, if_neg Bool.false_ne_true, hclaim] <;> rfl

end Receive

/-! ### A message that a channel sends -/

section Send

/-- A channel that has sent a message, latched at `l`. -/
def State.sentChan (s : State) (l : State × Nat × Bool) (i kind : Nat) : TChan :=
  let x := s.tchan i
  let m := s.chanMsg i kind l.2.1 l.2.2
  let y : TChan := { x with tx := satAdd 32 x.tx 1, seqs := Tab.set x.seqs kind m.seq, last := some (s.prio2Out m) }
  if kind = 1 then { y with outstanding := true, req := some { t3 := ((l.2.1 / unitsPerFrac : Nat) : Int), refined := l.2.2, stepN := s.tcore.stepN } }
  else if kind = 9 then { y with asks := x.asks.tail }
  else if kind = 11 then { y with announced := some m } else y

variable (s : State) (l : State × Nat × Bool) (i kind : Nat)

theorem State.sentChan_tx : (s.sentChan l i kind).tx = satAdd 32 (s.tchan i).tx 1 := by
  unfold State.sentChan
  split_ifs <;> rfl

theorem State.sentChan_state : (s.sentChan l i kind).state = (s.tchan i).state := by
  unfold State.sentChan
  split_ifs <;> rfl

theorem State.sentChan_last : (s.sentChan l i kind).last = some (s.prio2Out (s.chanMsg i kind l.2.1 l.2.2)) := by
  unfold State.sentChan
  split_ifs <;> rfl

theorem State.sentChan_outstanding : (s.sentChan l i kind).outstanding = ((s.tchan i).outstanding || kind == 1) := by
  unfold State.sentChan
  split_ifs with h
  · simp [h]
  · simp [h]
  · simp [h]
  · simp [h]

theorem State.sentChan_asks : (s.sentChan l i kind).asks = if kind = 9 then (s.tchan i).asks.tail else (s.tchan i).asks := by
  unfold State.sentChan
  split_ifs with h1 h9
  · omega
  · rfl
  · rfl
  · rfl
  · rfl

/-- The state after a send (R218). -/
def State.sent (p : Nat) : State :=
  let s1 := l.1.setTchan i (s.sentChan l i kind)
  let q := s1.portPtp p
  let s2 := s1.setPortPtp p { q with lastOut := s.tsAt l.2.1, tx := satAdd 32 q.tx (if kind < 4 then 1 else 0) }
  if kind = 0 then s2.lnkMasterSync p else s2

variable {s i kind} in
theorem State.tchanSend_sent {marker : Int} (h : s.chanSends i kind = true) :
    s.tchanSend i kind marker = s.sent (s.latchAt (s.obj .tchan i).chanPort false marker) i kind (s.obj .tchan i).chanPort :=
  if_neg (by rw [h]; exact Bool.false_ne_true)

theorem State.sent_gives (p : Nat) (hchan : ∀ j, l.1.tchan j = s.tchan j) (hport : l.1.tcore = s.tcore) :
    (s.sent l i kind p).tchan i = s.sentChan l i kind ∧ (∀ j, j ≠ i → (s.sent l i kind p).tchan j = s.tchan j) ∧
    ∃ q, Tab.find (s.sent l i kind p).tcore.ports p = some q ∧ q.lastOut = s.tsAt l.2.1 ∧
      q.tx = satAdd 32 (s.portPtp p).tx (if kind < 4 then 1 else 0) := by
  unfold State.sent
  extract_lets s1 q s2
  have hq : q = s.portPtp p := by
    have hports : s1.tcore.ports = s.tcore.ports := congrArg TcoreState.ports hport
    rw [State.portPtp, ← hports]
    rfl
  have hself : s2.tchan i = s.sentChan l i kind := l.1.setTchan_tchan_self i _
  have hne : ∀ j, j ≠ i → s2.tchan j = s.tchan j := fun j hj => (l.1.setTchan_tchan_ne i _ hj).trans (hchan j)
  have hfind : Tab.find s2.tcore.ports p = some { q with lastOut := s.tsAt l.2.1, tx := satAdd 32 q.tx (if kind < 4 then 1 else 0) } := Tab.find_set_self _ _ _
  rw [hq] at hfind
  clear_value s2
  split
  · have hkept := State.tchan_of_tchans (State.lnkMasterSync_touches (ps := Part.others .tchans) s2 p rfl .tchans rfl)
    have hcore : (s2.lnkMasterSync p).tcore = s2.tcore := State.lnkMasterSync_touches (ps := Part.others .tcore) s2 p rfl .tcore rfl
    rw [hcore]
    exact ⟨(hkept i).trans hself, fun j hj => (hkept j).trans (hne j hj), _, hfind, rfl, rfl⟩
  · exact ⟨hself, hne, _, hfind, rfl, rfl⟩

end Send

/-! ### The statement -/

/-- Settles O38: what a message leaves in its channel is a record over the channel alone; a send is one write of the channel and one of its port. -/
theorem timingMessages : Obligations.TimingMessages := by
  unfold Obligations.TimingMessages
  refine ⟨?own, ?taken, ?suspended, ?open_, ?send⟩
  case own =>
    intro s f m fr hup hwf hframe hdec heng hport hfwd hown
    have hopen : ¬ (fr.decided = true ∨ fr.toEngine = true ∨ fr.port ≠ m.port ∨ (s.fdbState m.port ≠ 0 ∧ (!fr.h.linkLocal) = true)) := by
      rcases hfwd with h | h <;> simp [hdec, heng, hport, h]
    have hrun : s.ptpMessageReceive f m = (s.bump Fld.fdbPtpDisc_VAL).setFrame f { fr with toEngine := true } := by
      unfold State.ptpMessageReceive
      rw [hframe]
      dsimp only
      rw [if_neg hopen, if_pos hown]
    have hset : Touches [.fab] (s.bump Fld.fdbPtpDisc_VAL) ((s.bump Fld.fdbPtpDisc_VAL).setFrame f { fr with toEngine := true }) :=
      (Touches.refl _ _).set_fab rfl
    have hframe1 : Touches [.fab, .rc .fdbPtpDisc] s ((s.bump Fld.fdbPtpDisc_VAL).setFrame f { fr with toEngine := true }) :=
      (State.bump_touches s _ _ _ rfl).step (hset.mono rfl)
    refine gives_effect (congrArg (effect (lanePort m.port) s) hrun) hup hwf ⟨State.count_bumped (Touches.refl [] s) hset rfl rfl (by decide),
      State.setFrame_frame?_self _ _ _, fun g hg => State.setFrame_frame?_ne _ _ _ hg, hframe1.carry⟩
  case taken =>
    intro s f i e m fr hup hwf hframe hdec heng hport hfwd hown hclaim hphase hengine hruns hrate hcase
    have hrun := State.ptpMessageReceive_claimed hframe hdec heng hport hfwd hown hclaim
    rw [hphase] at hrun
    have hexec : exec (.ptpMessageReceive f m) s = effect (lanePort m.port) s (s.ptpMessageReceive f m) := rfl
    have hself := s.setFrame_frame?_self f { fr with toEngine := true }
    have hfab : Touches [.fab] s (s.setFrame f { fr with toEngine := true }) := (Touches.refl _ _).set_fab rfl
    have hchan : ∀ j, (s.setFrame f { fr with toEngine := true }).tchan j = s.tchan j := fun _ => rfl
    have hrate1 : (s.setFrame f { fr with toEngine := true }).overRate i m.kind = false := hrate
    have htask : (s.setFrame f { fr with toEngine := true }).taskHeld 3 = s.taskHeld 3 := rfl
    have hruns1 : (s.setFrame f { fr with toEngine := true }).engRuns e = true := hruns
    generalize s.setFrame f { fr with toEngine := true } = u at *
    have hthere : (u.tchan i).engine.isSome = true := by rw [hchan, hengine]; rfl
    simp only [hthere, if_true] at hrun
    rw [← hchan, ← htask] at hcase
    obtain ⟨d, htakes, hheard⟩ := State.chanMessage_takes (fr := fr) hrate1 hcase
    have hclosed : (u.chanMessage i m fr).chanClosed i = u.chanMessage i m fr := by
      have hruns2 : (u.chanMessage i m fr).engRuns e = true := (State.engRuns_of_eng (hheard.frame .eng rfl) e).trans hruns1
      refine if_neg ?_
      rw [hheard.chan, htakes.engine, hchan, hengine]
      simp [hruns2]
    rw [hclosed] at hrun
    rw [hrun] at hexec
    generalize u.chanMessage i m fr = t at *
    obtain ⟨hrx, hdst, hst, htx, hasks, hsync, hann, -⟩ := htakes
    obtain ⟨hd, hothers, hmsg⟩ := hheard
    rw [hchan] at hrx hst htx hasks hsync hann
    rw [← hd] at hrx hdst hst htx hasks hsync hann
    refine gives_effect hexec hup hwf ⟨?_, hrx, hdst, hst, htx, hasks, hsync, hann, fun j hj => (hothers j hj).trans (hchan j),
      ((hfab.mono rfl).step (hmsg.mono rfl)).carry⟩
    exact (State.frame?_of_fab (hmsg .fab rfl) f).trans hself
  case suspended =>
    intro s f i m fr hup hwf hframe hdec heng hport hfwd hown hclaim hphase
    have hrun := State.ptpMessageReceive_claimed hframe hdec heng hport hfwd hown hclaim
    rw [hphase] at hrun
    exact gives_effect (congrArg (effect (lanePort m.port) s) hrun) hup hwf ⟨State.setFrame_frame?_self _ _ _, Touches.carry ((Touches.refl _ _).set_fab rfl)⟩
  case open_ =>
    intro s f m fr hup hwf hframe hcase
    have hrun : s.ptpMessageReceive f m = s := by
      unfold State.ptpMessageReceive
      rw [hframe]
      dsimp only
      rcases hcase with ⟨hst, hlocal⟩ | ⟨hown, hclaim⟩
      · exact if_pos (.inr (.inr (.inr ⟨hst, by rw [hlocal]; rfl⟩)))
      · split
        · rfl
        · rw [hown, if_neg Bool.false_ne_true, hclaim]
    exact gives_effect (congrArg (effect (lanePort m.port) s) hrun) hup hwf (Touches.refl _ _).carry
  case send =>
    intro s i m hup hwf hsends
    have hrun := State.tchanSend_sent (marker := m.marker) hsends
    have hexec : exec (.tchanSend i m) s = effect (timingChan i) s (s.tchanSend i m.kind m.marker) := rfl
    have hframe := s.tchanSend_touches i m.kind m.marker
      (ps := evtParts ++ [Part.tcore, .tchans, .lnk, .tic, .cal, .rc .calAbortCnt, .rc .lnkSnapErr]) rfl
    have hlatch := s.latchAt_touches (s.obj .tchan i).chanPort false m.marker
      (ps := evtParts ++ [.lnk, .tic, .cal, .rc .calAbortCnt, .rc .lnkSnapErr]) rfl
    have hchan := State.tchan_of_tchans (hlatch .tchans rfl)
    have hport : (s.latchAt (s.obj .tchan i).chanPort false m.marker).1.tcore = s.tcore := hlatch .tcore rfl
    generalize (s.obj .tchan i).chanPort = p at *
    generalize s.latchAt p false m.marker = l at *
    obtain ⟨hself, hne, q, hq, hout, htx⟩ := State.sent_gives s l i m.kind p hchan hport
    rw [hrun] at hexec hframe
    generalize s.sent l i m.kind p = t at *
    refine gives_effect hexec hup hwf ⟨?_, ?_, ?_, ?_, ?_, hne, ⟨q, hq, hout, htx⟩, hframe.carry⟩ <;> rw [State.carry_tchan, hself]
    · exact State.sentChan_tx s l i m.kind
    · exact State.sentChan_state s l i m.kind
    · exact State.sentChan_last s l i m.kind
    · exact State.sentChan_outstanding s l i m.kind
    · exact State.sentChan_asks s l i m.kind

end Sys2Proof.Machine
end

section
/-! ## Calibration: jobs, their end, and the persistent words of the sets (R327 to R333) -/

set_option Elab.async false

namespace Sys2Proof.Machine

/-! ### The sets and the jobs -/

/-- The jobs, the nodes and the junction temperature stand. -/
def SetsKept (s t : State) : Prop := t.cal.jobs = s.cal.jobs ∧ t.cal.nodes = s.cal.nodes ∧ t.cal.temp = s.cal.temp

namespace SetsKept

variable {s t u : State}

protected theorem refl (s : State) : SetsKept s s := ⟨rfl, rfl, rfl⟩

protected theorem trans (h : SetsKept s t) (g : SetsKept t u) : SetsKept s u := ⟨g.1.trans h.1, g.2.1.trans h.2.1, g.2.2.trans h.2.2⟩

theorem of_cal (h : t.cal = s.cal) : SetsKept s t := ⟨congrArg CalState.jobs h, congrArg CalState.nodes h, congrArg CalState.temp h⟩

protected theorem ite {c : Prop} [Decidable c] (ht : SetsKept s t) (hu : SetsKept s u) : SetsKept s (if c then t else u) := by
  split
  · exact ht
  · exact hu

protected theorem foldl {α : Type} {f : State → α → State} (hf : ∀ s x, SetsKept s (f s x)) (l : List α) (s : State) : SetsKept s (l.foldl f s) := by
  induction l generalizing s with
  | nil => exact .refl s
  | cons x l ih => exact (hf s x).trans (ih (f s x))

theorem calJob (h : SetsKept s t) (j : Nat) : t.calJob j = s.calJob j := by rw [State.calJob, State.calJob, h.1]

end SetsKept

theorem State.calApply_sets (s : State) (a i : Nat) (c : CalCorr) : SetsKept s (s.calApply a i c) := by
  have hforce : SetsKept s { s with cal := { s.cal with force := Tab.set s.cal.force ⟨a, i, 0⟩ c } } := ⟨rfl, rfl, rfl⟩
  exact .ite (hforce.trans (.of_cal rfl)) (.ite (hforce.trans (.of_cal rfl)) hforce)

theorem State.calBoundary_sets (s : State) (a i : Nat) : SetsKept s (s.calBoundary a i) := by
  unfold State.calBoundary
  split
  · exact .refl s
  · have hpend : SetsKept s { s with cal := { s.cal with pend := Tab.erase s.cal.pend ⟨a, i, 0⟩ } } := ⟨rfl, rfl, rfl⟩
    exact hpend.trans (State.calApply_sets _ a i _)

theorem State.calOffer_sets (s : State) (a i : Nat) (c : CalCorr) : SetsKept s (s.calOffer a i c) := by
  have hpend : SetsKept s { s with cal := { s.cal with pend := Tab.set s.cal.pend ⟨a, i, 0⟩ c } } := ⟨rfl, rfl, rfl⟩
  exact .ite (hpend.trans (State.calBoundary_sets _ 2 i)) hpend

theorem State.calRecompute_sets (s : State) (a i : Nat) : SetsKept s (s.calRecompute a i) := by
  unfold State.calRecompute
  extract_lets c
  split
  · exact .refl s
  · split
    · exact .refl s
    · exact .ite (.refl s) (s.calOffer_sets a i _)

theorem State.calTry_sets (s : State) (w : Nat) (v : Word) : SetsKept s (s.calTry w v) := by
  have hstore : SetsKept s (s.persStore w v) := .of_cal (State.persStore_touches (ps := Part.others .cal) s w v rfl .cal rfl)
  unfold State.calTry
  extract_lets st t
  have ht : SetsKept s t := hstore
  clear_value t
  refine .ite (ht.trans ⟨rfl, rfl, rfl⟩) (.ite (ht.trans (.of_cal ?_)) (ht.trans ⟨rfl, rfl, rfl⟩))
  exact (State.raise_touches (ps := Part.others .cal) _ _ _ _ _ rfl .cal rfl).trans (State.bump_touches (ps := Part.others .cal) t _ _ _ rfl .cal rfl)

theorem State.calWrite_sets (s : State) (w : Nat) (v : Word) : SetsKept s (s.calWrite w v) :=
  .ite ⟨rfl, rfl, rfl⟩ (s.calTry_sets w v)

theorem State.calStoreHalf_sets (s : State) (a base n : Nat) (x : Int) : SetsKept s (s.calStoreHalf a base n x) :=
  (s.calWrite_sets _ _).trans (State.calWrite_sets _ _ _)

theorem State.calWrites_sets (s : State) (l : List (Nat × Word)) : SetsKept s (l.foldl (fun s e => s.calWrite e.1 e.2) s) :=
  SetsKept.foldl (fun t e => t.calWrite_sets e.1 e.2) l s

theorem State.calAutoStore_sets (s : State) (a i : Nat) (k : Option Nat) : SetsKept s (s.calAutoStore a i k) := by
  unfold State.calAutoStore
  split
  · exact .refl s
  · split
    · exact s.calStoreHalf_sets ..
    · exact s.calStoreHalf_sets ..
    · exact s.calStoreHalf_sets ..
    · generalize s.calModelWords = l
      have h1 := s.calWrites_sets l
      generalize l.foldl _ s = s1 at *
      exact h1.trans (s1.calWrite_sets 37 _)
    · exact .refl s

/-! ### The end of a job -/

/-- A job as it ends. -/
def CalJob.ended (x : CalJob) (outcome : Nat) : CalJob := { x with running := false, outcome := outcome, waitBlock := false }

section Job

variable (s : State) (j o : Nat) (b : Bool)

theorem State.calFinish_cal : (s.calFinish j o b).cal = { s.cal with jobs := Tab.set s.cal.jobs j ((s.calJob j).ended o) } := by
  unfold State.calFinish
  extract_lets x _ s1 s2
  have h2 : s2.cal = s1.cal := by
    unfold s2
    split
    · exact State.bump_touches (ps := Part.others .cal) s1 _ _ _ rfl .cal rfl
    · rfl
  exact (State.calRelease_touches (ps := Part.others .cal) _ _ _ rfl .cal rfl).trans
    ((State.raise_touches (ps := Part.others .cal) s2 _ _ _ _ rfl .cal rfl).trans h2)

theorem State.calFinish_job : (s.calFinish j o b).calJob j = (s.calJob j).ended o := by
  rw [State.calJob, State.calFinish_cal]
  exact Tab.get_set_self _ _ _ _

theorem State.calFinish_otherJob {i : Nat} (h : i ≠ j) : (s.calFinish j o b).calJob i = s.calJob i := by
  rw [State.calJob, State.calFinish_cal]
  exact Tab.get_set_ne _ _ _ _ _ h

theorem State.calFinish_nodes : (s.calFinish j o b).cal.nodes = s.cal.nodes := by rw [State.calFinish_cal]

/-- R327: a job that is LOST or aborted is counted. -/
theorem State.calFinish_counted (h : 3 ≤ o) : (s.calFinish j o b).count Fld.calAbortCnt_VAL = s.counted Fld.calAbortCnt_VAL := by
  unfold State.calFinish
  extract_lets x _ s1 s2
  have hs1 : Touches [.cal] s s1 := (Touches.refl _ s).set_cal rfl
  have h2 : s2 = s1.bump Fld.calAbortCnt_VAL := if_pos h
  rw [h2]
  exact State.count_bumped hs1 ((State.raise_touches (ps := .tic :: evtParts) (s1.bump Fld.calAbortCnt_VAL) _ _ _ _ rfl).step
    (State.calRelease_touches _ _ _ rfl)) rfl rfl (by decide)

end Job

section JobEnd

variable {s : State} {j q : Nat} {a b temp : Int} {codes : List Int}

/-- The measured job, before its end. -/
def State.calMeasured (s : State) (j q : Nat) (a temp : Int) : State :=
  { s with cal := { s.cal with temp := temp, jobs := Tab.set s.cal.jobs j { s.calJob j with
    quality := q, temp := temp, result := s.calResult (s.calTarget j) (s.calInst j) a } } }

theorem State.calMeasured_job : (s.calMeasured j q a temp).calJob j =
    { s.calJob j with quality := q, temp := temp, result := s.calResult (s.calTarget j) (s.calInst j) a } := Tab.get_set_self _ _ _ _

theorem State.calMeasured_otherJob {i : Nat} (h : i ≠ j) : (s.calMeasured j q a temp).calJob i = s.calJob i := Tab.get_set_ne _ _ _ _ _ h

/-- The result that a job applies. -/
def State.calApplied (s : State) (j q : Nat) (a b : Int) (codes : List Int) : CalNode :=
  { a := s.calResult (s.calTarget j) (s.calInst j) a, b := b, quality := q
    codes := if (s.calTarget j = 0 ∧ codes.length = 32) ∨ (s.calTarget j = 2 ∧ codes.length = 1024) then codes else [] }

/-- The job as its end finds it: failed, measured or applied. -/
def State.calJudged (s : State) (j q : Nat) (a b : Int) (codes : List Int) (temp : Int) : State :=
  if !(s.calPass (s.calTarget j) q) then (s.calMeasured j q a temp).calFinish j 2
  else if !(s.calApplies j) then (s.calMeasured j q a temp).calFinish j 1
  else (s.calMeasured j q a temp).calStoreResult j (s.calApplied j q a b codes)

theorem State.calJobEnd_lost (hobj : (s.obj? .cal j).isSome = true) (hrun : (s.calJob j).running = true) (hwait : (s.calJob j).waitBlock = false)
    (hlost : s.calHolds (s.calTarget j) (s.calInst j) = false) : s.calJobEnd j q a b codes temp = s.calFinish j 4 := by
  unfold State.calJobEnd
  dsimp only
  rw [if_neg (by simp [hrun, hwait, Option.isSome_iff_ne_none.mp hobj]), if_pos (by rw [hlost]; rfl)]

theorem State.calJobEnd_judged (hobj : (s.obj? .cal j).isSome = true) (hrun : (s.calJob j).running = true) (hwait : (s.calJob j).waitBlock = false)
    (hholds : s.calHolds (s.calTarget j) (s.calInst j) = true) : s.calJobEnd j q a b codes temp =
      if s.calTarget j = 2 then (s.calJudged j q a b codes temp).ticSample (s.calInst j) else s.calJudged j q a b codes temp := by
  unfold State.calJobEnd
  dsimp only
  rw [if_neg (by simp [hrun, hwait, Option.isSome_iff_ne_none.mp hobj]), if_neg (by rw [hholds]; decide)]
  rfl

/-- The TIC channel of an ended job changes nothing of CAL. -/
theorem State.sampleAfter_cal (t : State) (c : Prop) [Decidable c] (i : Nat) : (if c then t.ticSample i else t).cal = t.cal := by
  split
  · exact State.ticSample_touches (ps := Part.others .cal) t i rfl .cal rfl
  · rfl

/-- What every applied result leaves of its job and of the others. -/
theorem State.calStoreResult_jobs (s : State) (j : Nat) (n : CalNode) :
    ((s.calStoreResult j n).calJob j).running = false ∧ ∀ i, i ≠ j → (s.calStoreResult j n).calJob i = s.calJob i := by
  have hgoal : ∀ (t : State) (b : Bool) (a i : Nat) (k : Option Nat), (∀ i, i ≠ j → t.calJob i = s.calJob i) →
      (((t.calFinish j 0 b).calAutoStore a i k).calJob j).running = false ∧
      ∀ i', i' ≠ j → ((t.calFinish j 0 b).calAutoStore a i k).calJob i' = s.calJob i' := fun t b a i k h => by
    have hsets := (t.calFinish j 0 b).calAutoStore_sets a i k
    refine ⟨?_, fun i' hi => ?_⟩
    · rw [hsets.calJob, State.calFinish_job]
      rfl
    · rw [hsets.calJob, State.calFinish_otherJob t j 0 b hi]
      exact h i' hi
  unfold State.calStoreResult
  extract_lets t i x
  split
  · exact hgoal s false 5 0 none fun _ _ => rfl
  split
  · refine hgoal _ false 3 i none fun i' _ => ?_
    exact (State.calOffer_sets _ 3 i _).calJob i'
  split
  · next k _ =>
    extract_lets s1 s2
    have h1 : ∀ i', i' ≠ j → s1.calJob i' = s.calJob i' := fun i' hi => Tab.get_set_ne _ _ _ _ _ hi
    have h2 : SetsKept s1 s2 := by
      unfold s2
      split
      · exact s1.calOffer_sets t i _
      · exact .refl s1
    exact hgoal s2 false t i (some k) fun i' hi => (h2.calJob i').trans (h1 i' hi)
  · generalize hu : s.calOffer t i _ = u
    have hsets : SetsKept s u := hu ▸ s.calOffer_sets t i _
    refine ⟨?_, fun i' hi => ?_⟩
    · rw [State.calFinish_job]
      rfl
    · rw [State.calFinish_otherJob u j 0 true hi, hsets.calJob]

/-- R330: a result near a node of a lane, a timestamp unit or a TIC channel goes to that node. -/
theorem State.calStoreResult_node {s : State} {j k : Nat} {n : CalNode} (ht : s.calTarget j ≤ 2) (hnear : calNearNode (s.calJob j).temp = some k) :
    (s.calStoreResult j n).cal.nodes = Tab.set s.cal.nodes ⟨s.calTarget j, s.calInst j, k⟩ n ∧
    (s.calStoreResult j n).calJob j = { s.calJob j with node := k, running := false, outcome := 0, waitBlock := false } := by
  unfold State.calStoreResult
  extract_lets t i x
  rw [if_neg (by omega), if_neg (by omega)]
  split
  · next k' hk' =>
    obtain rfl : k' = k := Option.some.inj (hk'.symm.trans hnear)
    extract_lets s1 s2
    have hjob : s1.calJob j = { s.calJob j with node := k' } := Tab.get_set_self _ _ _ _
    have hnodes : s1.cal.nodes = Tab.set s.cal.nodes ⟨t, i, k'⟩ n := rfl
    have h2 : SetsKept s1 s2 := by
      unfold s2
      split
      · exact s1.calOffer_sets t i _
      · exact .refl s1
    clear_value s2 s1
    have hsets := (s2.calFinish j 0).calAutoStore_sets t i (some k')
    refine ⟨?_, ?_⟩
    · rw [hsets.2.1, State.calFinish_nodes, h2.2.1, hnodes]
    · rw [hsets.calJob, State.calFinish_job, h2.calJob, hjob]
      rfl
  · next hk' => exact absurd (hk'.symm.trans hnear) (by simp)

end JobEnd

/-! ### Persistent words of the sets -/

section Store

variable (s : State) (w : Nat) (v : Word)

theorem State.calTry_pers : (s.calTry w v).pers = (s.persStore w v).pers := by
  unfold State.calTry
  extract_lets st t
  split
  · rfl
  split
  · exact (State.raise_touches (ps := Part.others .pers) _ _ _ _ _ rfl .pers rfl).trans (State.bump_touches (ps := Part.others .pers) t _ _ _ rfl .pers rfl)
  · rfl

theorem State.calTry_word (x : Nat) : (s.calTry w v).pers! x = (s.persStore w v).pers! x := by rw [State.pers!, State.calTry_pers, State.pers!]

theorem State.calTry_ne {x : Nat} (h : x ≠ w) : (s.calTry w v).pers! x = s.pers! x :=
  (s.calTry_word w v x).trans ((s.persStore_gives w v).2.2 x h).1

theorem State.persStore_cal : (s.persStore w v).cal = s.cal := State.persStore_touches (ps := Part.others .cal) s w v rfl .cal rfl

theorem State.calTry_waiting : (s.calTry w v).cal.waiting = s.cal.waiting := by
  have hcal := s.persStore_cal w v
  unfold State.calTry
  extract_lets st t
  have ht : t.cal = s.cal := hcal
  clear_value t
  split
  · exact (congrArg CalState.waiting ht :)
  split
  · exact congrArg CalState.waiting ((State.raise_touches (ps := Part.others .cal) _ _ _ _ _ rfl .cal rfl).trans
      ((State.bump_touches (ps := Part.others .cal) t _ _ _ rfl .cal rfl).trans ht))
  · exact (congrArg CalState.waiting ht :)

variable {s w v}

/-- R333: a word that is stored waits no more. -/
theorem State.calTry_ok (h : s.persStatus w v = .ok) : (s.calTry w v).pers! w = v ∧
    (s.calTry w v).cal.retry = s.cal.retry.filter (fun e => e.1 != w) := by
  have hcal := s.persStore_cal w v
  refine ⟨(s.calTry_word w v w).trans ((s.persStore_gives w v).1 h).1, ?_⟩
  unfold State.calTry
  simp only [h, reduceCtorEq, if_false, hcal]

/-- R333: a word that is busy waits for its next attempt. -/
theorem State.calTry_busy (h : s.persStatus w v = .busy) : (s.calTry w v).pers = s.pers ∧
    (s.calTry w v).cal.retry = (w, v) :: s.cal.retry.filter (fun e => e.1 != w) := by
  have hcal := s.persStore_cal w v
  refine ⟨(s.calTry_pers w v).trans ?_, ?_⟩
  · rw [State.persStore, h]
    rfl
  · unfold State.calTry
    simp only [h, if_true, hcal]

/-- R333: a worn word is given up and counted. -/
theorem State.calTry_worn (h : s.persStatus w v = .wearOut) : (s.calTry w v).pers! w = s.pers! w ∧
    (s.calTry w v).count Fld.calStoreFail_VAL = s.counted Fld.calStoreFail_VAL := by
  refine ⟨(s.calTry_word w v w).trans ((s.persStore_gives w v).2.1 (by rw [h]; decide) w).1, ?_⟩
  have hrun : s.calTry w v = ((s.persStore w v).bump Fld.calStoreFail_VAL).raise Ev.calStoreFail w := by
    unfold State.calTry
    simp only [h, reduceCtorEq, if_false, if_true]
  rw [hrun]
  exact State.count_bumped (State.persStore_touches (ps := .pers :: evtParts) s w v rfl) (State.raise_touches (ps := evtParts) _ _ _ _ _ rfl) rfl rfl (by decide)

theorem State.calWrite_ne {x : Nat} (h : x ≠ w) : (s.calWrite w v).pers! x = s.pers! x := by
  unfold State.calWrite
  split
  · rfl
  · exact s.calTry_ne w v h

/-- A word of a set lies behind the directory words. -/
theorem calWordTarget_some {w t : Nat} (h : calWordTarget w = some t) : 2 ≤ t ∧ t ≤ 5 ∧ 40 ≤ w := by
  have hmem := List.mem_of_find?_eq_some h
  have hword := List.find?_some h
  simp only [List.mem_cons, List.not_mem_nil, or_false] at hmem
  rcases hmem with rfl | rfl | rfl | rfl <;> simp [calDirWords, List.mem_range'] at hword <;> omega

theorem State.calPut_plain (h : calWordTarget w = none) : s.calPut w v = s.calTry w v := by simp only [State.calPut, h]

/-- A word that is put keeps what its store made of it, and only the directory words follow. -/
theorem State.calPut_word {x : Nat} (h : x = w ∨ x < 34 ∨ 37 < x) : (s.calPut w v).pers! x = (s.calTry w v).pers! x := by
  unfold State.calPut
  extract_lets s1
  split
  · next t ht =>
    obtain ⟨hlo, hhi, hw⟩ := calWordTarget_some ht
    exact State.calWrite_ne (by omega)
  · rfl

end Store

/-! ### Reload -/

theorem State.calLoad_nodes {a i : Nat} (s : State) (h : a ≠ 5) : (s.calLoad a i).cal.nodes =
    s.calStored a i ++ s.cal.nodes.filter (fun e => !(e.1.target == a && e.1.inst == i)) := by
  unfold State.calLoad
  rw [if_neg h]
  extract_lets _ s1
  have h1 : s1.cal.nodes = s.calStored a i ++ s.cal.nodes.filter (fun e => !(e.1.target == a && e.1.inst == i)) := rfl
  clear_value s1
  split
  · exact (s1.calOffer_sets _ _ _).2.1.trans h1
  · split
    · exact (s1.calOffer_sets _ _ _).2.1.trans h1
    · exact h1

/-! ### The start of a command completes nothing that the model shows -/

theorem State.slotUse_lastCpl (s : State) (n m : Nat) (b : CplBody) : (s.slotUse n m b).hif.lastCpl = s.hif.lastCpl := by
  unfold State.slotUse
  dsimp only
  split
  · exact State.writeSlot_lastCpl _ _ _ _ _
  · rfl

theorem State.unlistedGo_lastCpl (s : State) (n k : Nat) : (s.unlistedGo n k).hif.lastCpl = s.hif.lastCpl := by
  induction k generalizing s with
  | zero => rfl
  | succ k ih =>
    unfold State.unlistedGo
    split
    · rfl
    · split
      · rfl
      · exact (ih _).trans (State.slotUse_lastCpl _ _ _ _)

theorem State.startCmd_lastCpl (s : State) (d : CmdDesc) : (s.startCmd d).hif.lastCpl = s.hif.lastCpl := by
  unfold State.startCmd
  split
  · exact State.unlistedGo_lastCpl _ _ _
  · rfl

/-- The slot of the newest image is a matter of the persistent words, the straps and the slots. -/
theorem State.calNewSlot_of {s t : State} (hpers : t.pers = s.pers) (hstraps : t.boot.straps = s.boot.straps)
    (hA : t.cal.slotA = s.cal.slotA) (hB : t.cal.slotB = s.cal.slotB) : t.calNewSlot = s.calNewSlot := by
  have hslot : ∀ b, t.calSlot b = s.calSlot b := fun b => by rw [State.calSlot, State.calSlot, hA, hB]
  simp only [State.calNewSlot, State.pers!, hpers, hstraps, hslot]
  rfl

end Sys2Proof.Machine
end

section
/-! ## What goes down brings no domain up (R390, R394, R397)

Lanes, groups, engines and the pair that go down reach REF, and REF a wake event; none of it turns a domain on. -/

set_option Elab.async false

namespace Sys2Proof.Machine

theorem State.padHold_steady (s : State) (b : Nat) (on : Bool) : Steady s (s.padHold b on) := Steady.of_eq rfl rfl

/-- A domain that goes off or into retention. -/
theorem State.setDom_steady (s : State) (d : Nat) {m : DomMode} (h : m ≠ .on) : Steady s (s.setDom d m) where
  now := rfl
  dom d' hd := by
    have hset : (s.setDom d m).pwr.dom = Tab.set s.pwr.dom d m := if_neg h
    rw [hset, Tab.get_set] at hd
    split at hd
    · exact absurd hd h
    · exact hd

theorem State.domSleep_steady (s : State) (d : Nat) (off : Bool) : Steady s (s.domSleep d off) := by
  have hdom : Steady s (s.setDom d (if off then .off else .retention)) := s.setDom_steady d (by cases off <;> decide)
  exact hdom.trans (Steady.of_eq rfl rfl)

/-! ### Lanes and groups -/

theorem State.laneWithdraw_steady (s : State) (n : Nat) : Steady s (s.laneWithdraw n) := by
  have hlane : Steady s (s.setLane n { s.lane n with offered := false }) := .of_eq rfl rfl
  exact .ite (hlane.trans (State.candFail_steady _ _ _)) (.refl s)

theorem State.laneUnlock_steady (s : State) (n : Nat) : Steady s (s.laneUnlock n) := by
  unfold State.laneUnlock
  extract_lets l s1 p
  have h1 : Steady s s1 := .of_eq rfl rfl
  clear_value s1
  exact .ite (.refl s) (((h1.trans (s1.laneWithdraw_steady n)).trans (.of_touches ((State.lnkPhiLost_touches _ n rfl).step
    (State.portLoss_touches _ p rfl)))).trans (State.portChansLost_steady _ p))

theorem State.laneStop_steady (s : State) (n : Nat) : Steady s (s.laneStop n) := by
  unfold State.laneStop
  extract_lets s1
  have h1 : Steady s s1 := (s.laneUnlock_steady n).trans (.of_touches (State.lnkPhiLost_touches _ n rfl))
  exact h1.trans (.of_eq rfl rfl)

/-- The lanes of a group withdraw what they offer. -/
theorem State.withdrawn_steady (s : State) (n : Nat) : Steady s ((s.setLane n { s.lane n with offered := false }).candAbsent n) := by
  have hlane : Steady s (s.setLane n { s.lane n with offered := false }) := .of_eq rfl rfl
  exact hlane.trans (State.candAbsent_steady _ n)

theorem State.grpDrain_steady (s : State) (g : Nat) : Steady s (s.grpDrain g) := by
  unfold State.grpDrain
  extract_lets _ s1 s2
  have h1 : Steady s s1 := by
    have hgrp : Steady s (s.setGrp g { s.grp g with st := .draining }) := .of_eq rfl rfl
    exact hgrp.trans (.of_touches (State.setReady_touches _ _ _ rfl))
  have h2 : Steady s1 s2 := Steady.foldl (fun (t : State) n => (t.withdrawn_steady n).trans (State.portChansLost_steady _ n)) (grpLanes g) s1
  exact (h1.trans h2).trans (.of_touches ((State.calLose_touches s2 _ rfl).step (State.xoffUpdate_touches _ rfl)))

theorem State.grpRemoved_steady (s : State) (g : Nat) (count : Bool) : Steady s (s.grpRemoved g count) := by
  unfold State.grpRemoved
  extract_lets l n s1 s2 x s3 s4 s5
  have h1 : Steady s s1 := .of_touches (((State.flushCopies_touches s l 1 rfl).step (State.bump_touches _ _ _ _ rfl)).step
    (State.grpPortsDown_touches _ g rfl))
  have h2 : Steady s1 s2 := Steady.foldl (fun t n => t.laneStop_steady n) (grpLanes g) s1
  have h3 : Steady s2 s3 := .of_eq rfl rfl
  have h4 : Steady s3 s4 := .of_touches (State.calLose_touches s3 _ rfl)
  have h5 : Steady s4 s5 := .ite (.of_touches (State.grpLose_touches s4 g rfl)) (.refl s4)
  clear_value s5
  have h6 : Steady s5 ((s5.domSleep g x.pwrOff).padHold g true) := (s5.domSleep_steady g x.pwrOff).trans (State.padHold_steady _ _ _)
  exact ((((h1.trans h2).trans h3).trans h4).trans h5).trans (h6.trans (.of_touches ((State.raise_touches _ _ _ _ _ rfl).step
    (State.afterFree_touches _ rfl))))

theorem State.grpRemove_steady (s : State) (g : Nat) (off : Bool) : Steady s (s.grpRemove g off) := by
  unfold State.grpRemove
  extract_lets _ s1
  have h1 : Steady s s1 := .of_eq rfl rfl
  clear_value s1
  exact .ite (h1.trans (s1.grpDrain_steady g)) ((h1.trans (Steady.foldl (fun t n => t.withdrawn_steady n) (grpLanes g) s1)).trans
    (State.grpRemoved_steady _ g false))

theorem State.entryAbort_steady (s : State) (g : Nat) : Steady s (s.entryAbort g) :=
  .ite (.refl s) ((Steady.of_touches (State.bump_touches _ _ _ _ rfl)).trans (State.grpRemoved_steady _ g false))

/-! ### GNSS and the pair -/

theorem State.gnssInvalid_steady (s : State) : Steady s s.gnssInvalid := by
  unfold State.gnssInvalid
  extract_lets g _ s1
  have h1 : Steady s s1 := .of_eq rfl rfl
  exact h1.trans ((Steady.of_touches (State.raiseIf_touches _ _ _ _ _ _ rfl)).trans (State.candFail_steady _ _ _))

theorem State.gnssDown_steady (s : State) (off : Bool) : Steady s (s.gnssDown off) := by
  unfold State.gnssDown
  extract_lets s1 s2 s3 g
  have h1 : Steady s s1 := Steady.foldl (fun t c => .of_touches (State.goGnssCh_touches t c _ rfl)) (List.range 64) s
  have h2 : Steady s1 s2 := Steady.foldl (fun t j => .of_touches (State.searchAbort_touches t j rfl)) (s.inUse .search) s1
  have h3 : Steady s2 s3 := (s2.gnssInvalid_steady.trans (State.candAbsent_steady _ 102)).trans (.of_touches (State.setReady_touches _ _ _ rfl))
  clear_value s3
  exact ((h1.trans h2).trans h3).trans (.of_eq rfl rfl)

theorem State.stopFollow_steady (s : State) : Steady s s.stopFollow := by
  have hraise : ∀ (t : State) e a, Steady t (t.raise e a) := fun t e a => .of_touches (State.raise_touches t e a 0 0 rfl)
  have hclass : ∀ t : State, Steady t t.updateClass := fun t => .of_touches (State.updateClass_touches t rfl)
  unfold State.stopFollow
  split
  · exact .refl s
  · extract_lets _ s1 _ e s2
    have h1 : Steady s s1 := .of_eq rfl rfl
    clear_value s1
    have href : ∀ x : RefState, Steady s { s1 with ref := x } := fun x => h1.trans (.of_eq rfl rfl)
    split
    · exact ((href _).trans (State.setTstate_steady _ .locked _)).trans (hclass _)
    · have h2 : Steady s s2 := (href _).trans (State.setTstate_steady _ .holdover _)
      clear_value s2
      exact .ite ((href _).trans ((hraise _ _ _).trans (hclass _))) (.ite h2 (h2.trans (.of_eq rfl rfl)))

theorem State.goPair_steady (s : State) (st : PairSt) : Steady s (s.goPair st) := by
  unfold State.goPair
  split
  · exact .refl s
  · extract_lets s1 cut p s2 s3
    have h1 : Steady s s1 := .ite (s.stopFollow_steady.trans (.of_touches (State.rehearseAbort_touches _ rfl))) (.refl s)
    have h2 : Steady s1 s2 := .of_eq rfl rfl
    have h3 : Steady s2 s3 := .of_touches (State.raise_touches s2 _ _ _ _ rfl)
    clear_value s3
    exact ((h1.trans h2).trans h3).trans (.ite (.of_touches (State.unmirror_touches s3 rfl)) (.ite (.of_touches (State.startFollow_touches s3 rfl)) (.refl s3)))

theorem State.pairDown_steady (s : State) : Steady s s.pairDown := by
  unfold State.pairDown
  extract_lets s1
  have h1 : Steady s s1 := .ite (.refl s) (.of_touches (State.setLanes_touches s 0 rfl))
  clear_value s1
  have hlost : Steady s1 { s1 with pair := { s1.pair with omd := {}, inb := {} } } := .of_eq rfl rfl
  exact .ite h1 ((h1.trans hlost).trans (State.goPair_steady _ _))

/-! ### Engines -/

theorem State.tchanMove_steady (s : State) (i : Nat) : Steady s (s.tchanMove i) := by
  unfold State.tchanMove
  extract_lets o x s0 s1
  have h0 : Steady s s0 := .of_eq rfl rfl
  clear_value s0
  have h1 : Steady s0 s1 := .of_eq rfl rfl
  clear_value s1
  split
  · next e _ =>
    extract_lets s2
    have h2 : Steady s0 s2 := .of_eq rfl rfl
    exact h0.trans (.ite (h2.trans (.of_eq rfl rfl)) h2)
  · exact (h0.trans h1).trans ((s1.chanLost_steady i).trans (.of_touches (State.raise_touches _ _ _ _ _ rfl)))

theorem State.tchansLeave_steady (s : State) (e : Nat) : Steady s (s.tchansLeave e) := Steady.foldl (fun t i => t.tchanMove_steady i) _ s

theorem State.taskLost_steady (s : State) (k : Nat) : Steady s (s.taskLost k) := by
  unfold State.taskLost
  split
  · exact .ite s.gnssInvalid_steady (.refl s)
  · extract_lets s1
    have h1 : Steady s s1 := .of_touches (State.calLose_touches s _ rfl)
    have hempty : Steady s1 { s1 with eng := { s1.eng with calWait := [] } } := .of_eq rfl rfl
    exact (h1.trans hempty).trans (Steady.foldl (fun t d => .of_touches (State.complete_touches t _ _ _ _ _ _ rfl)) _ _)
  · exact .refl s

theorem State.taskLeave_steady (s : State) (e k : Nat) : Steady s (s.taskLeave e k) := by
  have hmove : ∀ b old, Steady s (s.taskMove k old b) := fun b old => .of_touches (State.taskMove_touches s k old b rfl)
  have hlost : ∀ x : EngTask, Steady s ((s.setTask k x).taskLost k) := fun x => by
    have hset : Steady s (s.setTask k x) := .of_eq rfl rfl
    exact hset.trans (State.taskLost_steady _ k)
  unfold State.taskLeave
  extract_lets x next
  clear_value next
  split
  · split
    · exact hmove _ _
    · exact hlost _
  split
  · split
    · split
      · exact hmove _ _
      · exact hlost _
    · have hset : ∀ y : EngTask, Steady s (s.setTask k y) := fun y => .of_eq rfl rfl
      exact (hset _).trans (.of_touches (State.nameStandby_touches _ k rfl))
  · exact .refl s

theorem State.engLeaves_steady (s : State) (e : Nat) (chans : Bool) : Steady s (s.engLeaves e chans) := by
  unfold State.engLeaves
  extract_lets s1
  have h1 : Steady s s1 := Steady.foldl (fun t k => t.taskLeave_steady e k) s.singleTasks s
  clear_value s1
  exact (h1.trans (.ite (s1.tchansLeave_steady e) (.refl s1))).trans (.of_touches (State.engReady_touches _ rfl))

theorem State.outBegin_steady (s : State) (e : Nat) (d : Option CmdDesc) : Steady s (s.outBegin e d) := by
  unfold State.outBegin
  extract_lets x s1 s2
  have h1 : Steady s s1 := by
    have hset : Steady s (s.setEng e { x with out := d, outAt := s.clk.now, drained := s.openExchanges e }) := .of_eq rfl rfl
    exact hset.trans (.of_touches (State.goEng_touches _ _ _ rfl))
  have h2 : Steady s1 s2 := s1.engLeaves_steady e false
  exact (h1.trans h2).trans (Steady.foldl (fun t i => t.tchanMove_steady i) _ s2)

theorem State.outDone_steady (s : State) (e : Nat) (st : EngSt) : Steady s (s.outDone e st) := by
  unfold State.outDone
  extract_lets x n s1 s2 s3
  have h1 : Steady s s1 := Steady.foldl (f := fun s i => s.setTchan i { s.tchan i with outstanding := false }) (fun _ _ => .of_eq rfl rfl) (s.chansOfEng e) s
  have h2 : Steady s1 s2 := by
    have hset : Steady s1 (s1.setEng e { x with out := none, drained := 0 }) := .of_eq rfl rfl
    exact hset.trans (.of_touches ((State.goEng_touches _ _ _ rfl).step (State.bump_touches _ _ _ _ rfl)))
  have h3 : Steady s2 s3 := s2.tchansLeave_steady e
  clear_value s3
  split
  · exact ((h1.trans h2).trans h3).trans (.of_touches (State.complete_touches s3 _ _ _ _ _ _ rfl))
  · exact (h1.trans h2).trans h3

theorem State.entryEngine_steady (s : State) (e : Nat) : Steady s (s.entryEngine e) := by
  have hnote : ∀ t : State, Steady t { t with pwr := { t.pwr with outEngines := insertAsc e t.pwr.outEngines } } := fun t => .of_eq rfl rfl
  unfold State.entryEngine
  extract_lets note
  split
  · split
    · have hpart : Steady s { s with pwr := { s.pwr with trimPart := true } } := .of_eq rfl rfl
      exact hpart.trans (.of_touches (State.raise_touches _ _ _ _ _ rfl))
    · exact (hnote s).trans (State.outBegin_steady _ e none)
  · exact ((Steady.of_touches (State.inDropped_touches s e rfl)).trans (hnote _)).trans (.of_touches (State.goEng_touches _ _ _ rfl))
  · exact .refl s

/-! ### Domains -/

theorem State.domDown_steady (s : State) (d : Nat) (off : Bool) : Steady s (s.domDown d off) := by
  have hready : ∀ (t : State) b, Steady t (t.setReady b false) := fun t b => .of_touches (State.setReady_touches t b false rfl)
  have hpll : ∀ (t : State) x, Steady t (t.pllOff x) := fun t x => .of_touches (State.pllOff_touches t x rfl)
  have hsleep : ∀ {t u : State} (d : Nat) (off : Bool), Steady t u → Steady t (u.domSleep d off) := fun d off h => h.trans (State.domSleep_steady _ d off)
  have hpad : ∀ {t u : State} (b : Nat), Steady t u → Steady t (u.padHold b true) := fun b h => h.trans (State.padHold_steady _ b true)
  unfold State.domDown
  split
  · exact hsleep 12 false (((hready s _).trans (hready _ _)).trans (hready _ _))
  · exact hsleep 13 false (.refl s)
  · exact hpad 12 (hsleep 14 off (s.gnssDown_steady off))
  · exact hpad 13 (hsleep 15 off ((Steady.of_touches (State.ticDown_touches s rfl)).trans (hready _ _)))
  · exact hpad 14 (hsleep 16 true ((hpll s 1).trans (hpll _ 2)))
  · exact hsleep 17 false (hpll s 3)
  · exact hpad 15 (hsleep 18 false (.of_touches (State.pcieLinkDown_touches s rfl)))
  · exact hpad 16 (hsleep 19 false s.pairDown_steady)
  · exact .ite (hsleep d off (.ite (.of_touches (State.engOff_touches s _ rfl)) (.refl s))) (.ite (.of_eq rfl rfl) (.refl s))

theorem State.entryDown_steady (s : State) : Steady s s.entryDown := by
  unfold State.entryDown
  extract_lets tgt ds s1 s2 _ s3
  have h1 : Steady s s1 := Steady.foldl (fun t d => t.domDown_steady d _) ds s
  have h2 : Steady s1 s2 := .ite (.of_touches (State.setReady_touches s1 _ _ rfl)) (.refl s1)
  have h3 : Steady s2 s3 := .of_eq rfl rfl
  clear_value s3
  exact ((h1.trans h2).trans h3).trans (.of_touches (State.raise_touches s3 _ _ _ _ rfl))

theorem State.forceDown_steady (s : State) (tgt : Nat) : Steady s (s.forceDown tgt) := by
  unfold State.forceDown
  extract_lets w l _ s0 s1 s2 s3
  have h0 : Steady s s0 := .of_eq rfl rfl
  have h1 : Steady s0 s1 := .of_touches (State.raiseIf_touches s0 _ _ _ _ _ rfl)
  have h2 : Steady s1 s2 := Steady.foldl (fun t g => (Steady.ite (.refl t) (t.grpRemove_steady g _)).trans (State.entryAbort_steady _ g)) l s1
  have h3 : Steady s2 s3 := Steady.foldl (fun t e => by
    extract_lets _ u
    have hu : Steady t u := by
      unfold u
      split
      · exact .refl t
      · have hnote : Steady t { t with pwr := { t.pwr with outEngines := insertAsc e t.pwr.outEngines } } := .of_eq rfl rfl
        exact hnote.trans (State.outBegin_steady _ e none)
      · exact t.entryEngine_steady e
    exact .ite (hu.trans (u.outDone_steady e .loaded)) hu) s2.entryEngines s2
  exact (((h0.trans h1).trans h2).trans h3).trans s3.entryDown_steady

/-- R397: a forced sequence brings no domain up before its wake. -/
theorem State.forceGo_steady (s : State) (tgt : Nat) : Steady s (s.forceGo tgt) := by
  unfold State.forceGo
  extract_lets busy _ _ s1 s2 w s3 _ s4 s5
  have h1 : Steady s s1 := .of_eq (congrArg Clock.now (State.forceRings_touches (ps := Part.others .clk) s rfl .clk rfl)) rfl
  have h2 : Steady s1 s2 := Steady.foldl (fun t g => t.entryAbort_steady g) s1.pwr.outGroups s1
  have h3 : Steady s2 s3 := .ite (s2.forceDown_steady tgt) (.refl s2)
  have h4 : Steady s3 s4 := .of_eq rfl rfl
  have h5 : Steady s4 s5 := s4.startWake_steady tgt 0
  have hall : Steady s s4 := ((h1.trans h2).trans h3).trans h4
  clear_value s5 s4
  exact .ite hall (.ite ((hall.trans h5).trans (.of_eq rfl rfl)) hall)

end Sys2Proof.Machine
end

section
/-! ## A wake that awaits an absent domain (R390, R399)

A domain that the variant does not have reads off whatever its mode says.  A wake that lists one all the same, as no run lets it, sees
its switch close and the domain stay off; the statement speaks of every state. -/

set_option Elab.async false

namespace Sys2Proof.Machine

/-- The variant without lane groups 8 to 11, in a wake that awaits groups 0 and 8. -/
def wakeOfAbsent : State := { State.reset with variant := .hd9632nx, pwr := { seq := .wake 3, wakeDoms := [8, 0] } }

/-- The domain of group 8 stays off after its switch. -/
theorem wakeOfAbsent_stays_off : Gives (.pwrSwitchGood 8) wakeOfAbsent (fun t => t.domOn 8 = false) :=
  gives_effect rfl rfl rfl (by decide +kernel)

/-- Refutes O58: in its clause on PWR_SWITCH_GOOD the domain comes on, but a domain that the variant lacks stays off. -/
theorem not_entryAndWake : ¬ Obligations.EntryAndWake := by
  unfold Obligations.EntryAndWake
  rintro ⟨-, -, -, -, -, switches, -⟩
  obtain ⟨-, good⟩ := switches wakeOfAbsent 8 0 rfl rfl rfl (by decide) (by decide) (by decide)
  obtain ⟨t, ⟨hon, -⟩, hoff⟩ := (good (by decide)).both wakeOfAbsent_stays_off
  exact absurd (hon.symm.trans hoff) (by decide)

end Sys2Proof.Machine
end

section
/-! ## Power requests, forced sequences and pad release (R392, R393, R396 to R398) -/

set_option Elab.async false

namespace Sys2Proof.Machine

/-! ### Held writes where no domain comes up -/

section Held

variable {s t : State}

/-- What brings no domain up leaves down every register that is down. -/
theorem Steady.keeps_down (h : Steady s t) (hv : t.variant = s.variant) (hf : t.fused = s.fused) {k : RegKey} (hk : s.regDown k = true) :
    t.regDown k = true := by
  have habsent : ∀ d, t.domAbsent d = s.domAbsent d := fun d => by simp only [State.domAbsent, State.engPresent, hv, hf]
  unfold State.regDown at hk ⊢
  split at hk
  · exact absurd hk (by decide)
  · next d _ =>
    rw [Bool.not_eq_true', State.domOn, decide_eq_false_iff_not] at hk ⊢
    refine fun hon => hk ?_
    unfold State.domMode at hon ⊢
    rw [habsent d] at hon
    split at hon
    · cases hon
    · next hpresent =>
      rw [if_neg hpresent]
      exact h.dom d hon

/-- No held write goes on while no domain comes up (R33). -/
theorem State.heldGo_of_steady (h : Steady s t) (hv : t.variant = s.variant) (hf : t.fused = s.fused) : t.heldGo s = t := by
  have hnone : s.regs.pend.filter (fun x => x.dom && s.regDown x.key && !(t.regDown x.key)) = [] := by
    refine List.filter_eq_nil_iff.mpr fun x _ => ?_
    cases hx : s.regDown x.key
    · simp
    · simp [h.keeps_down hv hf hx]
  simp [State.heldGo, hnone]

end Held

/-! ### The ends of a sequence that has nothing left to do -/

section Settle

variable {s : State}

theorem State.abandonEnd_other (h : s.pwr.seq ≠ .entry 9) : s.abandonEnd = s := if_pos (.inl h)

theorem State.pwrSettle_busy (h : s.pwr.seq ≠ .idle) : s.pwrSettle = s := if_pos h

theorem State.pwrSettle_done (hwake : s.pwr.state = 1 → s.pwr.wakeFail = false → s.needsWake 1 s.pwr.trim = false) (hpend : s.pwr.pend = none) :
    s.pwrSettle = s := by
  unfold State.pwrSettle
  split
  · rfl
  · rw [if_neg (fun h => by simp_all), hpend]

/-- Where no domain is held down none needs a wake. -/
theorem State.needsWake_none (h : ∀ d, s.heldDown d = false) (tgt : Nat) (w : Word × Word) : s.needsWake tgt w = false := by
  simp [State.needsWake, h]

end Settle

/-! ### A TRIM entry that takes nothing down -/

section TrimNone

variable {s : State}

theorem State.downIn_none {w : Word × Word} (h : w = (0, 0)) (s : State) (d : Nat) : s.downIn 1 w d = false := by
  subst h
  simp [State.downIn, bitAt]

theorem State.entryGroups_none {w : Word × Word} (h : w = (0, 0)) : s.entryGroups 1 w = [] := by
  simp [State.entryGroups, State.downIn_none h]

theorem State.entryEngines_none (htgt : s.pwr.target = 1) (htrim : s.pwr.trim = (0, 0)) : s.entryEngines = [] := by
  unfold State.entryEngines
  rw [htgt]
  simp [State.downIn_none htrim]

/-- The part stands in TRIM. -/
def State.inTrim (s : State) : State :=
  { s with pwr := { s.pwr with state := 1, seq := .idle, ap := 3, opposite := none, forced := false, pwrdnReqN := true } }

theorem State.entryDown_none (htgt : s.pwr.target = 1) (htrim : s.pwr.trim = (0, 0)) : s.entryDown = s.inTrim.raise Ev.pwrState 1 := by
  have hnone : s.allDoms.filter (fun d => decide (12 ≤ d) && s.downIn 1 s.pwr.trim d && !(s.heldDown d) && !(s.ownDown d) &&
      !(decide (32 ≤ d) && decide (d < 48) && s.engBusy (d - 32))) = [] := by
    simp [State.downIn_none htrim]
  unfold State.entryDown
  dsimp only
  rw [htgt, hnone]
  simp [State.inTrim]

/-- The E3 step of an entry. -/
def State.inE3 (s : State) : State := { s with pwr := { s.pwr with ap := 2, seq := .entry 3 } }

theorem State.entryE2_eq (hseq : s.pwr.seq = .entry 2) (hout : s.pwr.outGroups = []) (hopp : s.pwr.opposite = none) :
    s.entryE2 = (s.inE3.entryEngines.foldl (fun s e => s.entryEngine e) s.inE3).entryE3 := by
  have hrun : s.entryE2 = ((s.inE3.pwr.outGroups.foldl (fun s g => s.entryAbort g) s.inE3).entryEngines.foldl (fun s e => s.entryEngine e)
      (s.inE3.pwr.outGroups.foldl (fun s g => s.entryAbort g) s.inE3)).entryE3 := by
    unfold State.entryE2
    rw [hseq]
    exact if_neg (by rw [hopp]; exact Bool.false_ne_true)
  rw [hrun, show s.inE3.pwr.outGroups = [] from hout]
  rfl

theorem State.entryE3_eq (hseq : s.pwr.seq = .entry 3) (hengines : s.entryEngines = []) (hopp : s.pwr.opposite = none) : s.entryE3 = s.entryDown := by
  unfold State.entryE3
  rw [hseq]
  exact (if_neg (by rw [hengines]; exact Bool.false_ne_true)).trans (if_neg (by rw [hopp]; exact Bool.false_ne_true))

/-- A TRIM entry past its drain that takes no domain down is in TRIM at once (R394). -/
theorem State.entryE2_none (hseq : s.pwr.seq = .entry 2) (hout : s.pwr.outGroups = []) (hopp : s.pwr.opposite = none) (htgt : s.pwr.target = 1)
    (htrim : s.pwr.trim = (0, 0)) : s.entryE2 = s.inE3.inTrim.raise Ev.pwrState 1 := by
  have hengines : s.inE3.entryEngines = [] := State.entryEngines_none htgt htrim
  rw [State.entryE2_eq hseq hout hopp, hengines]
  exact (State.entryE3_eq (s := s.inE3) rfl hengines hopp).trans (State.entryDown_none (s := s.inE3) htgt htrim)

/-- The E2 step of an entry into TRIM that removes no lane group. -/
def State.inE2 (s : State) : State :=
  { s with pwr := { s.pwr with
    target := 1, seq := .entry 2, from' := s.pwr.state, ap := 1, opposite := none, trimPart := false
    prior := (s.pwr.trim, s.pwr.trimPart), trim := s.trimWords, outGroups := [] } }

/-- A request for TRIM with an empty set begins its entry and ends it (R393, R394). -/
theorem State.entryBegin_none (htrim : s.trimWords = (0, 0)) : s.entryBegin 1 = s.inE2.inE3.inTrim.raise Ev.pwrState 1 := by
  have hgroups : s.entryGroups 1 s.trimWords = [] := State.entryGroups_none htrim
  have hfw : s.inE2.trimFw 1 = false := by
    have hwords : s.inE2.trimWords = (0, 0) := htrim
    simp [State.trimFw, hwords, bitAt]
  have hrun : s.entryBegin 1 = (s.inE2.raiseIf (s.inE2.trimFw 1) Ev.engCfgBad).entryE2 := by
    unfold State.entryBegin
    dsimp only
    rw [hgroups]
    rfl
  have hquiet : s.inE2.raiseIf (s.inE2.trimFw 1) Ev.engCfgBad = s.inE2 := by
    rw [hfw]
    rfl
  rw [hrun, hquiet]
  exact State.entryE2_none (s := s.inE2) rfl rfl rfl rfl htrim

end TrimNone

end Sys2Proof.Machine
end

section
set_option Elab.async false

namespace Sys2Proof.Machine

/-! ### A request with no sequence in progress -/

section Request

variable {s : State} {p : Path} {v : Word}

theorem State.pwrRequest_forced (hpath : p = .pcie ∨ p = .i2c) (hforced : s.pwr.forced = true) : s.pwrRequest p v = s.raise Ev.pwrReqRefused 2 := by
  have hp : ¬ (p ≠ .pcie ∧ p ≠ .i2c) := by rcases hpath with rfl | rfl <;> simp
  unfold State.pwrRequest
  dsimp only
  rw [if_neg hp, if_pos hforced]

theorem State.pwrRequest_idle (hpath : p = .pcie ∨ p = .i2c) (hfree : s.pwr.forced = false) (hidle : s.pwr.seq = .idle) :
    s.pwrRequest p v = ((s.requestTake (fieldOf v 0 2)).abandonEnd).pwrSettle := by
  have hp : ¬ (p ≠ .pcie ∧ p ≠ .i2c) := by rcases hpath with rfl | rfl <;> simp
  unfold State.pwrRequest
  dsimp only
  rw [if_neg hp, if_neg (by rw [hfree]; exact Bool.false_ne_true), hidle]

theorem State.pwrRequest_entry (hpath : p = .pcie ∨ p = .i2c) (hfree : s.pwr.forced = false) {k : Nat} (hseq : s.pwr.seq = .entry k) (hk : k ≠ 9)
    (hback : fieldOf v 0 2 ≤ s.pwr.from') : s.pwrRequest p v = { s with pwr := { s.pwr with opposite := some (fieldOf v 0 2, false) } } := by
  have hp : ¬ (p ≠ .pcie ∧ p ≠ .i2c) := by rcases hpath with rfl | rfl <;> simp
  unfold State.pwrRequest
  dsimp only
  rw [if_neg hp, if_neg (by rw [hfree]; exact Bool.false_ne_true)]
  split
  · next h => exact absurd (h.symm.trans hseq) (by simp)
  · next k' h =>
    obtain rfl : k' = k := PwrSeq.entry.inj (h.symm.trans hseq)
    exact if_pos ⟨hk, hback⟩
  · next h => exact absurd (h.symm.trans hseq) (by simp)

theorem State.pwrRequest_wake (hpath : p = .pcie ∨ p = .i2c) (hfree : s.pwr.forced = false) {k : Nat} (hseq : s.pwr.seq = .wake k) :
    s.pwrRequest p v = s.pendRequest (fieldOf v 0 2) := by
  have hp : ¬ (p ≠ .pcie ∧ p ≠ .i2c) := by rcases hpath with rfl | rfl <;> simp
  unfold State.pwrRequest
  dsimp only
  rw [if_neg hp, if_neg (by rw [hfree]; exact Bool.false_ne_true), hseq]

theorem State.pwrRequest_engine (e : Nat) : s.pwrRequest (.eng e) v = s := by
  unfold State.pwrRequest
  exact if_pos ⟨Path.noConfusion, Path.noConfusion⟩

/-- R397: a lower state while a ring is up is refused. -/
theorem State.requestTake_rings (hstate : s.pwr.state = 0) {tgt : Nat} (htgt : 2 ≤ tgt) (hrings : s.ringsDown = false) :
    s.requestTake tgt = s.raise Ev.pwrReqRefused 1 := by
  unfold State.requestTake
  dsimp only
  rw [if_neg (by rw [hstate]; decide), if_pos ⟨htgt, by rw [hrings]; rfl⟩]

/-- A request for RUN in TRIM is a wake (R392). -/
theorem State.requestTake_run (hstate : s.pwr.state = 1) : s.requestTake 0 = s.startWake 0 0 := by
  unfold State.requestTake
  dsimp only
  rw [if_neg (by rw [hstate]; decide), if_neg (by simp), if_neg (by simp [hstate]), if_pos (by rw [hstate]; exact .inl (by decide))]

theorem State.requestTake_trim (hstate : s.pwr.state = 0) : s.requestTake 1 = s.entryBegin 1 := by
  unfold State.requestTake
  dsimp only
  rw [if_neg (by rw [hstate]; decide), if_neg (by simp), if_pos (by rw [hstate]; exact .inl (by decide))]

/-- What follows a request that left no sequence and nothing to wake. -/
theorem State.request_done {u : State} (hseq : u.pwr.seq = .idle) (hwake : u.pwr.state = 1 → u.pwr.wakeFail = false → u.needsWake 1 u.pwr.trim = false)
    (hpend : u.pwr.pend = none) : u.abandonEnd.pwrSettle = u := by
  rw [State.abandonEnd_other (by rw [hseq]; simp), State.pwrSettle_done hwake hpend]

/-- Every write of PWR_REQ is the unit's own. -/
theorem exec_pwrRequest (hwritable : s.Writable ⟨.pwrReq, 0, 0⟩) (p : Path) (v : Word) :
    exec (.pwrRequest p v) s = effect p.wf s ((s.pwrRequest p v).heldGo s) := by
  refine congrArg (effect p.wf s) (State.regSet_of_owns rfl hwritable ?_)
  simp only [State.regOwn, and_allBits]
  exact congrArg some (if_neg (by decide))

end Request

/-! ### Forced sequences -/

section Force

variable {s : State} {p : Path} {v : Word}

theorem pwrForce_immediate : (⟨.pwrForce, 0, 0⟩ : RegKey).immediate := by
  unfold RegKey.immediate
  decide

/-- The three bits of PWR_FORCE, and what the bits of a mask leave of a field inside it. -/
theorem pwrForce_storedMask : (⟨.pwrForce, 0, 0⟩ : RegKey).storedMask = 7 := by decide +kernel

theorem fieldOf_and_mask {x m : Word} {w : Nat} (h : ∀ i, i < w → m.getLsbD i = true) : fieldOf (x &&& m) 0 w = fieldOf x 0 w := by
  refine Nat.eq_of_testBit_eq fun i => ?_
  simp only [fieldOf, bitsOf, pow_zero, Nat.div_one, Nat.testBit_mod_two_pow]
  by_cases hi : i < w
  · have hx : (x &&& m).toNat.testBit i = x.toNat.testBit i := by
      rw [BitVec.testBit_toNat, BitVec.testBit_toNat, BitVec.getLsbD_and, h i hi, Bool.and_true]
    rw [hx]
  · simp [hi]

/-- The state after the store of PWR_FORCE, with the unlock of the path gone (R37). -/
def State.forceStored (s : State) (p : Path) (v : Word) : State := (s.consumeKey p).storeReg ⟨.pwrForce, 0, 0⟩ v allBits

theorem State.forceStored_gives (hwritable : s.Writable ⟨.pwrForce, 0, 0⟩) :
    fieldOf ((s.forceStored p v).stored ⟨.pwrForce, 0, 0⟩) 0 2 = fieldOf v 0 2 ∧
    fieldOf ((s.forceStored p v).written ⟨.pwrForce, 0, 0⟩) 0 2 = fieldOf v 0 2 ∧ OtherRegs ⟨.pwrForce, 0, 0⟩ s (s.forceStored p v) := by
  have hw : (s.consumeKey p).Writable ⟨.pwrForce, 0, 0⟩ := hwritable
  obtain ⟨⟨hwritten, -, -, hothers, -⟩, hstored⟩ := State.storeReg_copies pwrForce_immediate hw v
  rw [pwrForce_storedMask] at hwritten hstored
  have hfield : ∀ a : Word, fieldOf ((a &&& ~~~7) ||| (v &&& 7)) 0 2 = fieldOf v 0 2 := fun a => by
    have hbits : ∀ i, i < 2 → (7 : Word).getLsbD i = true := by decide
    have hmerge : ((a &&& ~~~7) ||| (v &&& 7)) &&& 7 = v &&& 7 := mergeBits_within 7 a v
    rw [← fieldOf_and_mask (x := (a &&& ~~~7) ||| (v &&& 7)) hbits, hmerge, fieldOf_and_mask hbits]
  have hwrote : fieldOf ((s.forceStored p v).written ⟨.pwrForce, 0, 0⟩) 0 2 = fieldOf v 0 2 := by
    rw [State.forceStored, hwritten, hfield]
  have hboth : (s.forceStored p v).stored ⟨.pwrForce, 0, 0⟩ &&& 7 = (s.forceStored p v).written ⟨.pwrForce, 0, 0⟩ &&& 7 := by
    rw [State.forceStored, hstored, hwritten]
    exact mergeBits_within 7 _ _
  have hbits : ∀ i, i < 2 → (7 : Word).getLsbD i = true := by decide
  refine ⟨?_, hwrote, hothers⟩
  rw [← fieldOf_and_mask (x := (s.forceStored p v).stored _) hbits, hboth, fieldOf_and_mask hbits, hwrote]

theorem State.forceStored_touches (s : State) (p : Path) (v : Word) : Touches (.keys :: .regs :: evtParts ++ [.rc .sysApplyStat]) s (s.forceStored p v) :=
  (State.consumeKey_touches s p rfl).step (State.storeReg_touches _ _ _ _ rfl)

/-- What an unlocked write of PWR_FORCE does. -/
theorem State.pwrForce_unlocked (hopen : s.unlocked p = true) : s.pwrForce p v allBits =
    if bitAt v.toNat 2 ∧ s.pwr.state ≠ 3 then (s.forceStored p v).forceGo (fieldOf ((s.forceStored p v).written ⟨.pwrForce, 0, 0⟩) 0 2)
    else s.forceStored p v := by
  have hstate : (s.forceStored p v).pwr = s.pwr := (s.forceStored_touches p v) .pwr rfl
  unfold State.pwrForce State.keyed
  dsimp only
  rw [if_pos hopen, and_allBits, ← hstate]
  rfl

/-- The groups that a forced sequence removed are held down. -/
def State.groupsDown (s : State) : State :=
  { s with pwr := { s.pwr with
    outGroups := [], downGroups := s.pwr.outGroups.foldl (fun a g => if (s.grp g).st = .removed then insertAsc g a else a) s.pwr.downGroups } }

theorem State.groupsDown_none (h : s.pwr.outGroups = []) : s.groupsDown = s := by
  have hdown : s.pwr.outGroups.foldl (fun a g => if (s.grp g).st = .removed then insertAsc g a else a) s.pwr.downGroups = s.pwr.downGroups := by
    rw [h]
    rfl
  unfold State.groupsDown
  rw [hdown, ← h]

/-- R397: a forced sequence to RUN of a part in RUN only empties the slots. -/
theorem State.forceGo_run (hstate : s.pwr.state = 0) (hseq : s.pwr.seq = .idle) (hout : s.pwr.outGroups = []) (hrings : s.ringsDown = true)
    (hdown : ∀ d, s.heldDown d = false) : s.forceGo 0 = { s with pwr := { s.pwr with pend := none, opposite := none } } := by
  have hrun : s.forceRings = s := by
    have hnone : (List.range 64).filter (fun n => decide ((s.ring n).state ≠ .disabled)) = [] := by
      refine List.filter_eq_nil_iff.mpr fun n hn => ?_
      have hring := List.all_eq_true.mp hrings n hn
      simpa using hring
    unfold State.forceRings
    dsimp only
    rw [hnone]
    rfl
  obtain ⟨u, hu⟩ : ∃ u : State, u = { s with pwr := { s.pwr with pend := none, opposite := none } } := ⟨_, rfl⟩
  have hgroups : u.pwr.outGroups = [] := by rw [hu]; exact hout
  have hwake : ∀ w, u.needsWake 0 w = false := State.needsWake_none (by rw [hu]; exact hdown) 0
  have hzero : u.pwr.state = 0 := by rw [hu]; exact hstate
  unfold State.forceGo
  rw [hrun, ← hu]
  extract_lets busy _ _ s1 s2 w s3 _ s4 s5
  have hbusy : busy = false := by simp [busy, hseq]
  have h1 : s1 = u := by
    rw [hu]
    unfold s1
    rw [← hseq]
  have h2 : s2 = u := by
    unfold s2
    rw [h1, hgroups]
    rfl
  have h3 : s3 = u := (if_neg (by simp)).trans h2
  have h4 : s4 = u := (show s4 = s3.groupsDown from rfl).trans (by rw [h3, State.groupsDown_none hgroups])
  rw [h4, if_neg (by rw [hzero]; decide), if_neg (by rw [hwake, hzero, hbusy]; simp)]

/-- Every write of PWR_FORCE is the unit's own, and brings no domain up. -/
theorem exec_pwrForceGo (hwritable : s.Writable ⟨.pwrForce, 0, 0⟩) (p : Path) (v : Word) (hdown : Steady s (s.pwrForce p v allBits)) :
    exec (.pwrForceGo p v) s = effect p.wf s (s.pwrForce p v allBits) := by
  refine congrArg (effect p.wf s) ((State.regSet_of_owns rfl hwritable rfl).trans ?_)
  exact State.heldGo_of_steady hdown (State.pwrForce_touches (ps := Part.others .variant) s p v allBits rfl .variant rfl)
    (State.pwrForce_touches (ps := Part.others .fused) s p v allBits rfl .fused rfl)

end Force

end Sys2Proof.Machine
end

section
set_option Elab.async false

namespace Sys2Proof.Machine

/-! ### Pads -/

/-- What the release of pads leaves of PWR_PAD_HELD. -/
theorem State.padsReleased (l : List Nat) (hl : ∀ b, b ∈ l → b < 32) (s : State) :
    ∃ w : Word, l.foldl (fun s b => s.padHold b false) s = { s with pwr := { s.pwr with padHeld := w } } ∧
      ∀ b, b < 32 → fieldOf w b 1 = if b ∈ l then 0 else fieldOf s.pwr.padHeld b 1 := by
  induction l generalizing s with
  | nil => exact ⟨s.pwr.padHeld, rfl, fun _ _ => (if_neg List.not_mem_nil).symm⟩
  | cons x l ih =>
    have hx : x < 32 := hl x List.mem_cons_self
    obtain ⟨w, hrun, hfield⟩ := ih (fun b hb => hl b (List.mem_cons_of_mem x hb)) (s.padHold x false)
    refine ⟨w, hrun, fun b hb => (hfield b hb).trans ?_⟩
    have hpad : (s.padHold x false).pwr.padHeld = putField s.pwr.padHeld x 1 0 := rfl
    rw [hpad]
    by_cases hbx : b = x
    · subst hbx
      rw [fieldOf_putField_self _ _ _ _ (by omega)]
      simp
    · rw [fieldOf_putField_ne _ _ _ _ _ _ (by omega) (by omega)]
      simp [hbx]

/-! ### Requests -/

/-- What holds a domain down is a matter of the power domains and of the lists of groups and banks. -/
theorem State.heldDown_of {s t : State} (hv : t.variant = s.variant) (hf : t.fused = s.fused) (hdom : t.pwr.dom = s.pwr.dom)
    (hgroups : t.pwr.downGroups = s.pwr.downGroups) (hbanks : t.pwr.downBanks = s.pwr.downBanks) (d : Nat) : t.heldDown d = s.heldDown d := by
  have habsent : t.domAbsent = s.domAbsent := by
    funext d
    simp only [State.domAbsent, State.engPresent, hv, hf]
  have hmode : t.domMode = s.domMode := by
    funext d
    simp only [State.domMode, habsent, hdom]
  unfold State.heldDown State.domOn
  rw [hgroups, hbanks, hmode]

/-- A request for TRIM that takes no domain down ends in TRIM (R393, R394). -/
theorem State.pwrRequest_trim {s : State} {p : Path} {v : Word} (hpath : p = .pcie ∨ p = .i2c) (hfree : s.pwr.forced = false) (hidle : s.pwr.seq = .idle)
    (hstate : s.pwr.state = 0) (hpend : s.pwr.pend = none) (htgt : fieldOf v 0 2 = 1) (htrim : s.trimWords = (0, 0)) (hdown : ∀ d, s.heldDown d = false) :
    s.pwrRequest p v = s.inE2.inE3.inTrim.raise Ev.pwrState 1 := by
  have hbegin : s.requestTake 1 = s.inE2.inE3.inTrim.raise Ev.pwrState 1 := (State.requestTake_trim hstate).trans (State.entryBegin_none htrim)
  have hpwr : (s.inE2.inE3.inTrim.raise Ev.pwrState 1).pwr = s.inE2.inE3.inTrim.pwr := State.raise_touches (ps := Part.others .pwr) _ _ _ _ _ rfl .pwr rfl
  have hvariant : (s.inE2.inE3.inTrim.raise Ev.pwrState 1).variant = s.variant := State.raise_touches (ps := Part.others .variant) _ _ _ _ _ rfl .variant rfl
  have hfused : (s.inE2.inE3.inTrim.raise Ev.pwrState 1).fused = s.fused := State.raise_touches (ps := Part.others .fused) _ _ _ _ _ rfl .fused rfl
  rw [State.pwrRequest_idle hpath hfree hidle, htgt, hbegin]
  generalize s.inE2.inE3.inTrim.raise Ev.pwrState 1 = t at *
  refine State.request_done (by rw [hpwr]; rfl) (fun _ _ => State.needsWake_none (fun d => ?_) _ _) (by rw [hpwr]; exact hpend)
  rw [State.heldDown_of hvariant hfused (by rw [hpwr]; rfl) (by rw [hpwr]; rfl) (by rw [hpwr]; rfl)]
  exact hdown d

/-- Settles O57: the write of each register is the unit's own, its sequences bring no domain up at once, and each case of the request is
one branch of it. -/
theorem powerRequests : Obligations.PowerRequests := by
  unfold Obligations.PowerRequests
  refine ⟨?request, ?engine, ?locked, ?force, ?pads⟩
  case request =>
    intro s p v hup hp hwritable hpath
    have hexec := exec_pwrRequest hwritable p v
    have hvariant : (s.pwrRequest p v).variant = s.variant := State.pwrRequest_touches (ps := Part.others .variant) s p v rfl .variant rfl
    have hfused : (s.pwrRequest p v).fused = s.fused := State.pwrRequest_touches (ps := Part.others .fused) s p v rfl .fused rfl
    have hheld : ∀ u : State, s.pwrRequest p v = u → u.clk.now = s.clk.now → u.pwr.dom = s.pwr.dom →
        ((s.pwrRequest p v).heldGo s).pwr = u.pwr ∧ ((s.pwrRequest p v).heldGo s).evt = u.evt := fun u hu hnow hdom => by
      rw [State.heldGo_of_steady (Steady.of_eq (hu ▸ hnow) (hu ▸ hdom)) hvariant hfused, hu]
      exact ⟨rfl, rfl⟩
    refine gives_effect hexec hup hp ⟨fun hforced => ?_, fun hfree hidle hstate hpend htgt hrings => ?_, fun hfree hidle hstate htgt => ?_,
      fun hfree hidle hstate hpend htgt htrim hdown => ?_, fun k hfree hseq hk hback => ?_, fun k hfree hseq => ?_⟩
    · obtain ⟨hpwr, hevt⟩ := hheld _ (State.pwrRequest_forced hpath hforced) (by simp) (by simp)
      exact ⟨hpwr.trans (by simp), hevt⟩
    · have htake := State.requestTake_rings hstate htgt hrings
      have hrun : s.pwrRequest p v = s.raise Ev.pwrReqRefused 1 := by
        rw [State.pwrRequest_idle hpath hfree hidle, htake]
        exact State.request_done (by simpa using hidle) (fun h => absurd (h.symm.trans (by simpa using hstate)) (by decide)) (by simpa using hpend)
      obtain ⟨hpwr, hevt⟩ := hheld _ hrun (by simp) (by simp)
      exact ⟨hpwr.trans (by simp), hevt⟩
    · have hrun : s.pwrRequest p v = s.startWake 0 0 := by
        have hseq : (s.startWake 0 0).pwr.seq = .wake 2 := by simp [State.startWake]
        rw [State.pwrRequest_idle hpath hfree hidle, htgt, State.requestTake_run hstate, State.abandonEnd_other (by rw [hseq]; simp),
          State.pwrSettle_busy (by rw [hseq]; simp)]
      have hsteady := s.startWake_steady 0 0
      exact (hheld _ hrun hsteady.now (by simp [State.startWake])).1
    · have hpwr : (s.inE2.inE3.inTrim.raise Ev.pwrState 1).pwr = s.inE2.inE3.inTrim.pwr :=
        State.raise_touches (ps := Part.others .pwr) _ _ _ _ _ rfl .pwr rfl
      have hclk : (s.inE2.inE3.inTrim.raise Ev.pwrState 1).clk = s.clk := State.raise_touches (ps := Part.others .clk) _ _ _ _ _ rfl .clk rfl
      have hrun := State.pwrRequest_trim hpath hfree hidle hstate hpend htgt htrim hdown
      generalize s.inE2.inE3.inTrim.raise Ev.pwrState 1 = u at *
      obtain ⟨hgives, -⟩ := hheld u hrun (by rw [hclk]) (by rw [hpwr]; rfl)
      rw [State.carry_pwr, hgives, hpwr]
      exact ⟨rfl, rfl, rfl, rfl⟩
    · exact (hheld _ (State.pwrRequest_entry hpath hfree hseq hk hback) rfl rfl).1
    · have hsteady := s.pendRequest_steady (fieldOf v 0 2)
      exact (hheld _ (State.pwrRequest_wake hpath hfree hseq) hsteady.now rfl).1
  case engine =>
    intro s e v hup hwf hwritable
    have hexec := exec_pwrRequest hwritable (.eng e) v
    rw [State.pwrRequest_engine, State.heldGo_of_same (fun _ => rfl)] at hexec
    exact gives_effect hexec hup hwf (Touches.refl [] s).carry
  case locked =>
    intro s p v hup hp hwritable hlocked
    have hrun : s.pwrForce p v allBits = s.raise Ev.sysKeyReject (RegKey.addr ⟨.pwrForce, 0, 0⟩) := if_neg (by rw [hlocked]; exact Bool.false_ne_true)
    have hexec := exec_pwrForceGo hwritable p v (by rw [hrun]; exact .of_touches (State.raise_touches s _ _ _ _ rfl))
    rw [hrun] at hexec
    exact gives_effect hexec hup hp ⟨by simp, by simp, rfl, (State.raise_touches s _ _ _ _ rfl).carry⟩
  case force =>
    intro s p v hup hp hwritable hopen
    have hframe := s.forceStored_touches p v
    have hstored : Steady s (s.forceStored p v) := .of_touches (hframe.mono rfl)
    obtain ⟨hvalue, hwrote, hothers⟩ := State.forceStored_gives (p := p) (v := v) hwritable
    have hpwr : (s.forceStored p v).pwr = s.pwr := hframe .pwr rfl
    have hrun := State.pwrForce_unlocked (v := v) hopen
    have hsteady : Steady s (s.pwrForce p v allBits) := by
      rw [hrun]
      exact .ite (hstored.trans (State.forceGo_steady _ _)) hstored
    have hkey : ((s.pwrForce p v allBits).key p).unlocked = false := by
      have hstore : ((s.forceStored p v).key p).unlocked = false := by
        rw [State.key, State.forceStored, State.storeReg_touches (ps := Part.others .keys) (s.consumeKey p) _ v allBits rfl .keys rfl]
        exact congrArg KeySt.unlocked (Tab.get_set_self _ _ _ _)
      have hgo : ∀ (t : State) tgt, (t.forceGo tgt).keys = t.keys := fun t tgt => State.forceGo_touches (ps := Part.others .keys) t tgt rfl .keys rfl
      rw [hrun]
      split
      · rw [State.key, hgo]
        exact hstore
      · exact hstore
    have hexec := exec_pwrForceGo hwritable p v hsteady
    refine gives_effect hexec hup hp ⟨fun hgo => ?_, fun hgo htgt hstate hseq hout hrings hdown => ?_, hkey⟩
    · rw [hrun, if_neg (by rw [hgo]; simp)]
      exact ⟨hvalue, hpwr, hothers⟩
    · have hgoes : (s.forceStored p v).forceGo 0 =
          { s.forceStored p v with pwr := { (s.forceStored p v).pwr with pend := none, opposite := none } } := by
        refine State.forceGo_run (by rw [hpwr]; exact hstate) (by rw [hpwr]; exact hseq) (by rw [hpwr]; exact hout) ?_ fun d => ?_
        · exact hrings
        · exact hdown d
      rw [hrun, if_pos ⟨hgo, by rw [hstate]; decide⟩, hwrote, htgt, hgoes, hpwr]
      rfl
  case pads =>
    intro s p v hup hp hwritable
    obtain ⟨w, hrun, hfield⟩ := State.padsReleased ((List.range 17).filter (fun b => bitAt v.toNat b && s.domOn (padDom b)))
      (fun b hb => by have := List.mem_range.mp (List.mem_of_mem_filter hb); omega) s
    have hexec : exec (.padRelease p v) s = effect p.wf s { s with pwr := { s.pwr with padHeld := w } } := by
      refine congrArg (effect p.wf s) (State.regSet_owned rfl hwritable ?_ fun k => State.regDown_congr rfl rfl rfl k)
      simp only [State.regOwn, and_allBits]
      exact congrArg some hrun
    have hmem : ∀ b, b ∈ (List.range 17).filter (fun b => bitAt v.toNat b && s.domOn (padDom b)) ↔ b < 17 ∧ bitAt v.toNat b = true ∧ s.domOn (padDom b) = true :=
      fun b => by simp [List.mem_filter]
    refine gives_effect hexec hup hp ⟨fun b hb hbit hon => ?_, fun b hb hno => ?_, rfl, ((Touches.refl [.pwr] s).set_pwr rfl).carry⟩
    · exact (hfield b (by omega)).trans (if_pos ((hmem b).mpr ⟨hb, hbit, hon⟩))
    · refine (hfield b hb).trans (if_neg fun hin => ?_)
      obtain ⟨hlt, hbit, hon⟩ := (hmem b).mp hin
      rcases hno with h | h | h
      · exact absurd (h.symm.trans hbit) (by decide)
      · omega
      · exact absurd (h.symm.trans hon) (by decide)

end Sys2Proof.Machine
end

section
/-! ## The Ommund link: lanes, frames, heartbeats and the time exchange (R366 to R371, R378, R380) -/

set_option Elab.async false

namespace Sys2Proof.Machine

/-! ### Lanes -/

theorem State.setLanes_ready (s : State) (l : Nat) : (s.setLanes l).ready = putField s.ready Rdy.pair 1 (b2n (decide (l ≠ 0))) := by
  unfold State.setLanes
  split <;> rfl

/-- The lanes of the link change its send queue no more than the time exchange does (R366). -/
theorem State.setLanes_txq (s : State) (l : Nat) : (s.setLanes l).pair.txq = s.pair.txq := by
  unfold State.setLanes
  split <;> rfl

theorem State.setLanes_restarts (s : State) {l : Nat} (h : lowestLane l ≠ lowestLane s.pair.lanes) :
    (s.setLanes l).pair.timeSent = 0 ∧ (s.setLanes l).pair.timeTx = [] ∧ (s.setLanes l).pair.timeRx = none := by
  simp only [State.setLanes, h, if_false]
  exact ⟨rfl, rfl, rfl⟩

/-- The first lane that comes up starts the time exchange anew. -/
theorem lowestLane_first {n : Nat} (h : n < 4) : lowestLane (0 ||| 2 ^ n) ≠ lowestLane 0 := by
  decide +revert

theorem two_pow_or_ne_zero (l n : Nat) : l ||| 2 ^ n ≠ 0 := by
  intro h
  have hbit : (l ||| 2 ^ n).testBit n = true := by simp [Nat.testBit_two_pow_self]
  rw [h, Nat.zero_testBit] at hbit
  exact Bool.false_ne_true hbit

theorem bitAt_sub_ne_zero {l n : Nat} (h : bitAt l n = true) : decide (l - 2 ^ n ≠ 0) = decide (l ≠ 2 ^ n) := by
  have hle : 2 ^ n ≤ l := Nat.le_of_not_lt fun hlt => by
    simp [bitAt, Nat.div_eq_of_lt hlt] at h
  exact decide_eq_decide.mpr (by omega)

/-! ### What follows a change of the paths -/

theorem HbPath.hear_not_lost (x : HbPath) : x.hear.lost = false := by simp [HbPath.lost, HbPath.hear]

theorem HbPath.lost_of_ok {x : HbPath} (h : x.ok = true) : x.lost = false := by simp [HbPath.lost, h]

/-- While the Ommund path is not lost, a part in SYNCED or RESYNC stays in its state. -/
theorem State.pairPaths_steady {s : State} (hst : s.pair.st = .synced ∨ s.pair.st = .resync) (homd : s.pair.omd.lost = false) :
    s.pairPaths = s := by
  unfold State.pairPaths
  rcases hst with h | h <;> simp only [h, homd, Bool.false_eq_true, if_false]

theorem State.pairPaths_isolates {s : State} (hst : s.pair.st = .synced) (homd : s.pair.omd.lost = true) (hinb : s.pair.inb.lost = false) :
    s.pairPaths = s.goPair .isolated := by
  simp only [State.pairPaths, hst, homd, hinb, if_true, Bool.false_eq_true, if_false]

/-- A state that nothing is mirrored in takes the queues away. -/
def PairSt.cuts (st : PairSt) : Bool := decide (st = .isolated) || decide (st = .alone) || decide (st = .off)

/-- The part enters a state of the pair with nothing to end in the one that it leaves. -/
def State.pairEnter (s : State) (st : PairSt) : State :=
  { s with pair := { s.pair with
      st := st, mirrorOk := decide (st = .synced), switchAt := none
      queue := if st.cuts then [] else s.pair.queue, txq := if st.cuts then [] else s.pair.txq
      held := if st.cuts then [] else s.pair.held, overflow := if st.cuts then false else s.pair.overflow } }

/-- No following and no rehearsal is in progress. -/
def State.pairPlain (s : State) : Prop := s.pair.follow = false ∧ s.pair.rehearsing = false

theorem State.goPair_enter {s : State} {st : PairSt} (hne : s.pair.st ≠ st) (hplain : s.pair.st = .synced → s.pairPlain) :
    s.goPair st = (if st = .isolated ∨ st = .alone then ((s.pairEnter st).raise Ev.pairState st.code s.pair.role.code).unmirror
      else if st = .synced then ((s.pairEnter st).raise Ev.pairState st.code s.pair.role.code).startFollow
      else (s.pairEnter st).raise Ev.pairState st.code s.pair.role.code) := by
  have hleave : (if s.pair.st = .synced then s.stopFollow.rehearseAbort else s) = s := by
    split
    · next h =>
      obtain ⟨hfollow, hrehearse⟩ := hplain h
      have hstop : s.stopFollow = s := by simp only [State.stopFollow, hfollow, Bool.not_false, if_true]
      simp only [hstop, State.rehearseAbort, hrehearse, Bool.not_false, if_true]
    · rfl
  simp only [State.goPair, hne, if_false, hleave]
  rfl

theorem State.pairEnter_touches (s : State) (st : PairSt) : Touches [.pair] s (s.pairEnter st) := (Touches.refl _ s).set_pair rfl

/-- Entering a state in which nothing is mirrored, with nothing to end before. -/
theorem State.goPair_cut {s : State} {st : PairSt} (hne : s.pair.st ≠ st) (hplain : s.pair.st = .synced → s.pairPlain)
    (hst : st = .isolated ∨ st = .alone) :
    s.goPair st = ((s.pairEnter st).raise Ev.pairState st.code s.pair.role.code).unmirror := by
  rw [State.goPair_enter hne hplain, if_pos hst]

theorem State.goPair_cut_touches {s : State} {st : PairSt} (hne : s.pair.st ≠ st) (hplain : s.pair.st = .synced → s.pairPlain)
    (hst : st = .isolated ∨ st = .alone) : Touches (evtParts ++ [.fdb, .pair]) s (s.goPair st) := by
  rw [State.goPair_cut hne hplain hst]
  exact (((s.pairEnter_touches st).mono rfl).step (State.raise_touches _ _ _ _ _ rfl)).step (State.unmirror_touches _ rfl)

/-! ### Entries learned from the peer leave (R376, R383) -/

/-- The entries of the database named in a list are removed while the version store has room. -/
def State.fdbCut (s : State) (ks : List (Nat × Nat)) : State := ks.foldl (fun s k => if s.fdb.verFull then s else s.fdbRemove k.1 k.2) s

theorem State.bumpVersion_retired (s : State) (k : EntryKey) : (s.bumpVersion k).fdb.retired.length ≤ s.fdb.retired.length + 1 := by
  have hver : ∀ u : State, u.verFullSeen.fdb.retired = u.fdb.retired := fun u => by
    obtain ⟨w, hw⟩ := u.verFullSeen_fdb
    rw [hw]
  unfold State.bumpVersion
  extract_lets users v
  rw [hver]
  dsimp only
  split
  · exact Nat.le_succ _
  · exact Nat.le_refl _

/-- With room for a version of each, every one of them goes. -/
theorem State.fdbCut_entries (ks : List (Nat × Nat)) (s : State) (h : s.fdb.retired.length + ks.length ≤ 4096) :
    (s.fdbCut ks).fdb.entries = s.fdb.entries.filter (fun e => decide (e.1 ∉ ks)) := by
  induction ks generalizing s with
  | nil => simp [State.fdbCut]
  | cons k ks ih =>
    rw [List.length_cons] at h
    have hroom : s.fdb.verFull = false := by
      simp only [FdbState.verFull, decide_eq_false_iff_not]
      omega
    have hstep : s.fdbCut (k :: ks) = (s.fdbRemove k.1 k.2).fdbCut ks := by
      simp only [State.fdbCut, List.foldl_cons, hroom, Bool.false_eq_true, if_false]
    have hretired : (s.fdbRemove k.1 k.2).fdb.retired.length ≤ s.fdb.retired.length + 1 := s.bumpVersion_retired (.fdb k.1 k.2)
    have hentries : (s.fdbRemove k.1 k.2).fdb.entries = Tab.erase s.fdb.entries k := by
      rw [State.fdbRemove_eq]
      rfl
    rw [hstep, ih _ (by omega), hentries, Tab.erase, List.filter_filter]
    refine List.filter_congr fun e _ => ?_
    by_cases he : e.1 = k <;> simp [he]

theorem State.fdbCut_touches (s : State) (ks : List (Nat × Nat)) : Touches (evtParts ++ [.fdb]) s (s.fdbCut ks) := by
  have hone : ∀ (u : State) (k : Nat × Nat), Touches (evtParts ++ [.fdb]) u (if u.fdb.verFull then u else u.fdbRemove k.1 k.2) := fun u k =>
    Touches.ite (Touches.refl _ u) (State.fdbRemove_touches u k.1 k.2 rfl)
  exact Touches.foldl hone ks (Touches.refl _ s)

/-- The keys of the entries learned from the peer. -/
def State.mirroredKeys (s : State) : List (Nat × Nat) := (s.fdb.entries.filter (fun e => e.2.mirrored)).map (fun e => e.1)

theorem State.fdbCut_mirrored {s : State} (h : s.MirroredFit) : (s.fdbCut s.mirroredKeys).fdb.entries = s.unmirrored := by
  rw [State.fdbCut_entries _ _ (by rw [State.mirroredKeys, List.length_map]; exact h), State.unmirrored]
  refine List.filter_congr fun e _ => ?_
  have hmem : e.1 ∈ s.mirroredKeys ↔ s.fdb.entries.any (fun x => x.2.mirrored && decide (x.1 = e.1)) = true := by
    rw [State.mirroredKeys, List.mem_map, List.any_eq_true]
    exact exists_congr fun x => by simp only [List.mem_filter, Bool.and_eq_true, decide_eq_true_eq, and_assoc]
  rw [decide_not]
  exact congrArg (!·) (Bool.eq_iff_iff.mpr (decide_eq_true_iff.trans hmem))

/-! ### A standby begins to resynchronise -/

/-- What the start of a resynchronisation leaves of the pair's records and of the admission's. -/
def State.resyncInit (s : State) (now n : Nat) : State :=
  let t : State := { s with
    pair := { s.pair with resyncAt := now, destroyed := n, records := 0, mirrorOk := false, queue := [], overflow := false } }
  { t with sw := { s.sw with wait := s.sw.wait.filter (fun w => !w.mirror), admQ := s.sw.admQ.filter (fun w => w.kind != 4) } }

theorem State.resyncInit_touches (s : State) (now n : Nat) : Touches [.sw, .pair] s (s.resyncInit now n) := by
  unfold State.resyncInit
  extract_lets _ t
  have ht : Touches [.sw, .pair] s t := (Touches.refl _ s).set_pair rfl
  exact ht.set_sw rfl

/-- With no flow, and nothing in progress that leaving SYNCED ends. -/
theorem State.resyncStart_bare {s : State} (hne : s.pair.st ≠ .resync) (hplain : s.pair.st = .synced → s.pairPlain)
    (hflows : s.inUse .flow = []) :
    s.resyncStart = (((s.fdbCut s.mirroredKeys).pairEnter .resync).raise Ev.pairState 2 s.pair.role.code).resyncInit s.clk.now
      (s.objCount .flow) := by
  have hcut : Touches (evtParts ++ [.fdb]) s (s.fdbCut s.mirroredKeys) := s.fdbCut_touches _
  have hpair : (s.fdbCut s.mirroredKeys).pair = s.pair := hcut .pair rfl
  have hnone : (s.fdbCut s.mirroredKeys).inUse .flow = [] := by
    have hobjs : (s.fdbCut s.mirroredKeys).objs = s.objs := hcut .objs rfl
    rw [State.inUse, hobjs]
    exact hflows
  have henter : (s.fdbCut s.mirroredKeys).goPair .resync =
      ((s.fdbCut s.mirroredKeys).pairEnter .resync).raise Ev.pairState 2 s.pair.role.code := by
    rw [State.goPair_enter (by rw [hpair]; exact hne) (by rw [State.pairPlain, hpair]; exact hplain), if_neg (by decide), if_neg (by decide), hpair]
    rfl
  have hstart : s.resyncStart =
      ((((s.fdbCut s.mirroredKeys).inUse .flow).foldl (fun s i => s.flowKill i) (s.fdbCut s.mirroredKeys)).goPair .resync).resyncInit s.clk.now
        (s.objCount .flow) := rfl
  rw [hstart, hnone, List.foldl_nil, henter]

section ResyncBare

variable {s : State} (hne : s.pair.st ≠ .resync) (hplain : s.pair.st = .synced → s.pairPlain) (hflows : s.inUse .flow = [])
include hne hplain hflows

theorem State.resyncStart_bare_touches : Touches (evtParts ++ [.sw, .fdb, .pair]) s s.resyncStart := by
  rw [State.resyncStart_bare hne hplain hflows]
  exact ((((s.fdbCut_touches _).mono rfl).step ((State.pairEnter_touches _ _).mono rfl)).step (State.raise_touches _ _ _ _ _ rfl)).step
    ((State.resyncInit_touches _ _ _).mono rfl)

theorem State.resyncStart_bare_entries (hfit : s.MirroredFit) : s.resyncStart.fdb.entries = s.unmirrored := by
  rw [State.resyncStart_bare hne hplain hflows]
  exact s.fdbCut_mirrored hfit

theorem State.resyncStart_bare_pair : s.resyncStart.pair = { s.pair with
    st := .resync, mirrorOk := false, switchAt := none, resyncAt := s.clk.now, destroyed := 0, records := 0, queue := [], overflow := false } := by
  have hpair : (s.fdbCut s.mirroredKeys).pair = s.pair := s.fdbCut_touches _ .pair rfl
  have hcount : s.objCount .flow = 0 := by rw [State.objCount, hflows, List.length_nil]
  rw [State.resyncStart_bare hne hplain hflows, hcount, ← hpair]
  rfl

end ResyncBare

end Sys2Proof.Machine
end

section
/-! ## Heartbeats and what they bring (R369 to R371) -/

set_option Elab.async false

namespace Sys2Proof.Machine

/-! ### A heartbeat is taken -/

/-- The part after a heartbeat of the Ommund link has acknowledged frames; with none left, the numbers go on from its ACK. -/
def State.hbAcked (s : State) (hb : HbPayload) : State :=
  if (s.omdAck hb.ack).pair.txq = [] then
    { s.omdAck hb.ack with pair := { (s.omdAck hb.ack).pair with txSeq := hb.ack % 2 ^ 32 } }
  else s.omdAck hb.ack

/-- The payload and the path of a heartbeat that counts. -/
def State.hbHeard (s : State) (inb : Bool) (hb : HbPayload) : State :=
  { s with pair := { s.pair with
      peer := some hb
      streamed := s.pair.streamed && !(s.pair.peer.any (fun h => h.state == 2) && hb.state != 2)
      omd := if inb then s.pair.omd else s.pair.omd.hear
      inb := if inb then s.pair.inb.hear else s.pair.inb } }

/-- The path of a heartbeat has come up (R369). -/
def State.hbRaised (s : State) (inb : Bool) (hb : HbPayload) : State :=
  (s.hbHeard inb hb).raiseIf (!(if inb then s.pair.inb else s.pair.omd).ok && (if inb then s.pair.inb else s.pair.omd).hear.ok) Ev.pairPathUp

section Take

variable (s : State) (inb : Bool) (hb : HbPayload)

theorem State.hbAcked_pair : (s.hbAcked hb).pair = { s.pair with
    txq := s.pair.txq.filter (fun x => !(seqBefore x.seq hb.ack))
    txSeq := if s.pair.txq.filter (fun x => !(seqBefore x.seq hb.ack)) = [] then hb.ack % 2 ^ 32 else s.pair.txSeq } := by
  unfold State.hbAcked
  split
  · next h => rw [if_pos (show s.pair.txq.filter (fun x => !(seqBefore x.seq hb.ack)) = [] from h)]; rfl
  · next h => rw [if_neg (show ¬ s.pair.txq.filter (fun x => !(seqBefore x.seq hb.ack)) = [] from h)]; rfl

theorem State.hbAcked_touches : Touches [.pair] s (s.hbAcked hb) := by
  have hack : Touches [.pair] s (s.omdAck hb.ack) := State.omdAck_touches s _ rfl
  unfold State.hbAcked
  exact Touches.ite (hack.set_pair rfl) hack

theorem State.hbRaised_touches : Touches (evtParts ++ [.pair]) s (s.hbRaised inb hb) := by
  have hheard : Touches (evtParts ++ [.pair]) s (s.hbHeard inb hb) := (Touches.refl _ s).set_pair rfl
  exact hheard.step (State.raiseIf_touches _ _ _ _ _ _ rfl)

variable {s hb}

theorem State.heartbeat_taken (hup : s.omdUp = true) (hid : hb.pairId = s.ap Fld.pairId_VAL) : s.heartbeat hb = (s.hbAcked hb).hbTake false hb := by
  simp only [State.heartbeat, hup, hid, ne_eq, not_true_eq_false, decide_false, Bool.not_true, Bool.or_self, Bool.false_eq_true, if_false]
  rfl

variable {inb}

/-- A part in SYNCED whose Ommund path is not lost stays there; a peer that is not in RESYNC wants no stream. -/
theorem State.hbTake_synced (hst : s.pair.st = .synced) (homd : (s.hbHeard inb hb).pair.omd.lost = false) (hstate : hb.state ≠ 2) :
    s.hbTake inb hb = s.hbRaised inb hb := by
  have hsearch : (s.hbRaised inb hb).pair.st ≠ .search := fun h => PairSt.noConfusion (hst.symm.trans h)
  have hsame : (s.hbRaised inb hb).pairPaths = s.hbRaised inb hb := State.pairPaths_steady (.inl hst) homd
  have htake : s.hbTake inb hb =
      let u := (if (s.hbRaised inb hb).pair.st = .search then (s.hbRaised inb hb).pairDecide hb else s.hbRaised inb hb).pairPaths
      if u.pair.role = .primary ∧ u.pair.st = .synced ∧ hb.state = 2 ∧ u.pair.streamed = false ∧ u.taskHeld 10 then u.resyncSend else u := rfl
  rw [htake, if_neg hsearch, hsame]
  exact if_neg fun h => hstate h.2.2.1

/-- In SEARCH a heartbeat of a primary makes the part its standby (R371). -/
theorem State.hbTake_joins (hst : s.pair.st = .search) (hrole : hb.role = 1) (hflows : s.inUse .flow = []) :
    s.hbTake false hb = (s.hbRaised false hb).pairStandby ∧
    Touches (evtParts ++ [.sw, .fdb, .pair]) (s.hbRaised false hb) (s.hbRaised false hb).pairStandby ∧
    (s.MirroredFit → (s.hbRaised false hb).pairStandby.fdb.entries = s.unmirrored) ∧
    (s.hbRaised false hb).pairStandby.pair = { s.pair with
      role := .standby, primaryS := 0, peer := some hb, streamed := (s.hbHeard false hb).pair.streamed, omd := s.pair.omd.hear
      st := .resync, mirrorOk := false, switchAt := none, resyncAt := s.clk.now, destroyed := 0, records := 0, queue := [],
      overflow := false } := by
  have hrole' : (s.hbRaised false hb).pair.st = .search := hst
  obtain ⟨v, hv⟩ : ∃ v : State, v = { s.hbRaised false hb with pair := { (s.hbRaised false hb).pair with role := .standby, primaryS := 0 } } :=
    ⟨_, rfl⟩
  have hstandby : (s.hbRaised false hb).pairStandby = v.resyncStart := by rw [hv]; rfl
  have hvst : v.pair.st = .search := by rw [hv]; exact hst
  have hvflows : v.inUse .flow = [] := by rw [hv]; exact hflows
  have hne : v.pair.st ≠ .resync := by rw [hvst]; decide
  have hplain : v.pair.st = .synced → v.pairPlain := fun h => PairSt.noConfusion (hvst.symm.trans h)
  have hpair := State.resyncStart_bare_pair hne hplain hvflows
  have hvtouch : Touches [.pair] (s.hbRaised false hb) v := by
    rw [hv]
    exact (Touches.refl _ _).set_pair rfl
  have htake : s.hbTake false hb =
      let u := (if (s.hbRaised false hb).pair.st = .search then (s.hbRaised false hb).pairDecide hb else s.hbRaised false hb).pairPaths
      if u.pair.role = .primary ∧ u.pair.st = .synced ∧ hb.state = 2 ∧ u.pair.streamed = false ∧ u.taskHeld 10 then u.resyncSend else u := rfl
  have hdecide : (s.hbRaised false hb).pairDecide hb = v.resyncStart := by
    rw [State.pairDecide, if_pos hrole, hstandby]
  have hlost : v.resyncStart.pair.omd.lost = false := by
    rw [hpair, hv]
    exact s.pair.omd.hear_not_lost
  have hstays : v.resyncStart.pairPaths = v.resyncStart := State.pairPaths_steady (.inr (by rw [hpair])) hlost
  have hnotprimary : v.resyncStart.pair.role ≠ .primary := by
    rw [hpair, hv]
    exact PairRole.noConfusion
  refine ⟨?_, ?_, ?_, ?_⟩
  · rw [htake, if_pos hrole', hdecide, hstays, hstandby]
    exact if_neg fun h => hnotprimary h.1
  · rw [hstandby]
    exact (hvtouch.mono rfl).step (State.resyncStart_bare_touches hne hplain hvflows)
  · intro hfit
    have hfdb : v.fdb = s.fdb := by rw [hv]; rfl
    have hvfit : v.MirroredFit := by rw [State.MirroredFit, hfdb]; exact hfit
    rw [hstandby, State.resyncStart_bare_entries hne hplain hvflows hvfit, State.unmirrored, hfdb, State.unmirrored]
  · rw [hstandby, hpair, hv]
    rfl

end Take

/-! ### An interval ends without one (R369) -/

theorem HbPath.interval_heard {x : HbPath} (h : x.heard = true) : x.interval = { x with heard := false } := if_pos h

theorem HbPath.interval_third {x : HbPath} (h : x.heard = false) (hm : x.misses = 2) :
    x.interval = { x with misses := 3, beats := 0, ok := false } := by
  rw [HbPath.interval, if_neg (by rw [h]; exact Bool.false_ne_true), hm]
  simp

/-- The paths after an interval, with nothing counted and nothing lost yet. -/
def State.hbInterval (s : State) : State :=
  { s with pair := { s.pair with
      omd := s.pair.omd.interval, inb := if s.apB Fld.pairCfg_INB_EN then s.pair.inb.interval else s.pair.inb } }

end Sys2Proof.Machine
end

section
/-! ## The statement on the Ommund link -/

set_option Elab.async false

namespace Sys2Proof.Machine

/-- The third interval without a heartbeat of the Ommund link (R369): the count, and the path lost. -/
def State.hbThird (s : State) : State :=
  let u := (s.hbInterval.bump Fld.pairHbMiss_OMD).raise Ev.pairPathLost 0
  { u with pair := { u.pair with switchAt := none } }

section Intervals

variable {s : State} (hon : s.pairOn = true) (hst : s.pair.st = .synced) (hen : s.apB Fld.pairCfg_INB_EN = true)
  (hinbHeard : s.pair.inb.heard = true) (hinbOk : s.pair.inb.ok = true)
include hon hst hen hinbHeard hinbOk

theorem State.pairHbMissCheck_heard (hheard : s.pair.omd.heard = true) (hok : s.pair.omd.ok = true) : s.pairHbMissCheck = { s with
    pair := { s.pair with omd := { s.pair.omd with heard := false }, inb := { s.pair.inb with heard := false } } } := by
  have hgo : s.pairHbMissCheck = s.hbInterval.pairPaths := by
    unfold State.pairHbMissCheck State.hbInterval
    simp only [hon, hen, hheard, hok, hinbHeard, hinbOk, HbPath.interval_heard, Bool.not_true, Bool.false_eq_true, if_false, if_true, Bool.or_self,
      Bool.and_false, Bool.and_self]
    rfl
  have hlost : s.hbInterval.pair.omd.lost = false := HbPath.lost_of_ok (by
    rw [State.hbInterval, HbPath.interval_heard hheard]
    exact hok)
  rw [hgo, State.pairPaths_steady (s := s.hbInterval) (.inl hst) hlost, State.hbInterval, if_pos hen, HbPath.interval_heard hheard, HbPath.interval_heard hinbHeard]

theorem State.pairHbMissCheck_third (hheard : s.pair.omd.heard = false) (hok : s.pair.omd.ok = true) (hmisses : s.pair.omd.misses = 2) :
    s.pairHbMissCheck = s.hbThird.goPair .isolated := by
  have hgo : s.pairHbMissCheck = s.hbThird.pairPaths := by
    unfold State.pairHbMissCheck State.hbThird State.hbInterval
    simp only [hon, hen, hheard, hok, hinbHeard, hinbOk, HbPath.interval_heard, HbPath.interval_third hheard hmisses, Bool.not_true,
      Bool.not_false, Bool.false_eq_true, if_false, if_true, Bool.or_true, Bool.and_false, Bool.and_self]
    rfl
  have hlost : s.hbThird.pair.omd.lost = true := by
    have homd : s.hbThird.pair.omd = s.pair.omd.interval := rfl
    rw [homd, HbPath.interval_third hheard hmisses]
    rfl
  have hinb : s.hbThird.pair.inb.lost = false := by
    have hpath : s.hbThird.pair.inb = if s.apB Fld.pairCfg_INB_EN then s.pair.inb.interval else s.pair.inb := rfl
    rw [hpath, if_pos hen, HbPath.interval_heard hinbHeard]
    exact HbPath.lost_of_ok hinbOk
  rw [hgo, State.pairPaths_isolates (s := s.hbThird) hst hlost hinb]

end Intervals

/-! ### The time exchange (R366, R378) -/

theorem State.pairTime_plain {s : State} {tx : Nat} {echo : Option (Nat × Nat)} (hup : s.omdUp = true)
    (h : ∀ e, echo = some e → s.pair.timeTx.contains e.1 = false) :
    s.pairTime tx echo = { s with pair := { s.pair with timeRx := some (tx, s.todFrac) } } := by
  have hnone : echo.filter (fun e => s.pair.timeTx.contains e.1) = none := by
    cases echo with
    | none => rfl
    | some e => rw [Option.filter_some, h e rfl]; rfl
  unfold State.pairTime
  rw [hup, hnone]
  rfl

theorem State.pairTime_echo {s : State} {tx : Nat} {e : Nat × Nat} (hup : s.omdUp = true) (h : s.pair.timeTx.contains e.1 = true)
    (hfollow : s.pair.follow = false) :
    s.pairTime tx (some e) = { s with pair := { s.pair with
      timeRx := some (tx, s.todFrac)
      timeOff := roundDiv ((s.todFrac : Int) - tx - ((e.2 : Int) - e.1) - psToFrac (s.apI Fld.pairOmdAsym_VAL)) 2
      timeRtt := (s.todFrac : Int) - tx + ((e.2 : Int) - e.1) } } := by
  have hsome : (some e).filter (fun e => s.pair.timeTx.contains e.1) = some e := by rw [Option.filter_some, h]; rfl
  unfold State.pairTime
  simp only [hup, hsome, hfollow, Bool.not_true, Bool.false_eq_true, if_false]

/-! ### The statement -/

/-- Settles O54. -/
theorem pairLink : Obligations.PairLink := by
  refine ⟨?lanes, ?bad, ?again, ?beat, ?join, ?inband, ?send, ?miss, ?time, ?echo, ?search⟩
  case lanes =>
    intro s n hup hwf hpow
    have hn : n < 4 := of_decide_eq_true hwf
    refine ⟨fun hpad => ?_, fun hbit => ?_⟩
    · have hexec : exec (.omdLaneUp n) s = effect (ommund n) s (s.setLanes (s.pair.lanes ||| 2 ^ n)) :=
        congrArg (effect (ommund n) s) (if_pos (by rw [hpow, hpad]; rfl))
      refine gives_effect hexec hup hwf ⟨rfl, ?_, ?_, (State.setLanes_touches s _ rfl).carry⟩
      · refine (s.setLanes_ready _).trans ?_
        rw [decide_eq_true (two_pow_or_ne_zero _ n)]
        rfl
      · intro hzero
        refine State.setLanes_restarts s ?_
        rw [hzero]
        exact lowestLane_first hn
    · have hexec : exec (.omdLaneDown n) s = effect (ommund n) s (s.setLanes (s.pair.lanes - 2 ^ n)) :=
        congrArg (effect (ommund n) s) (if_pos (by rw [hpow, hbit]; rfl))
      refine gives_effect hexec hup hwf ⟨rfl, ?_, (State.setLanes_touches s _ rfl).carry⟩
      refine (s.setLanes_ready _).trans ?_
      rw [bitAt_sub_ne_zero hbit]
  case bad =>
    intro s hup hpow
    have hexec : exec .omdFrameBad s = effect true s (s.bump Fld.pairOmdErr_CRC) := congrArg (effect true s) (if_pos hpow)
    exact gives_effect hexec hup rfl ⟨s.count_bump Fld.pairOmdErr_CRC 0 1 (by decide), (State.bump_touches s _ _ _ rfl).carry⟩
  case again =>
    intro s q x hup hon hfind
    have hgo : s.omdRetransmit q = if 8 ≤ x.sends then
        ({ s with pair := { s.pair with txq := s.pair.txq.map (fun y => { y with sends := 0 }) } } : State).setLanes 0
      else ({ s with pair := { s.pair with
          txq := s.pair.txq.map (fun y => if y.seq = q then { y with sends := y.sends + 1 } else y) } } : State).bump Fld.pairOmdErr_RETX := by
      rw [State.omdRetransmit, hfind, hon]
      rfl
    refine gives_effect (congrArg (effect true s) hgo) hup rfl ⟨fun hlt => ?_, fun hle => ?_⟩
    · rw [if_neg (Nat.not_le.mpr hlt)]
      refine ⟨rfl, State.count_bump _ Fld.pairOmdErr_RETX 0 1 (by decide), ?_⟩
      have hq : Touches [.pair, .rc .pairOmdErr] s ({ s with pair := { s.pair with
          txq := s.pair.txq.map (fun y => if y.seq = q then { y with sends := y.sends + 1 } else y) } } : State) :=
        (Touches.refl _ s).set_pair rfl
      exact (hq.step (State.bump_touches _ _ _ _ rfl)).carry
    · rw [if_pos hle]
      refine ⟨rfl, State.setLanes_txq _ _, State.setLanes_ready _ _, ?_⟩
      have hq : Touches (evtParts ++ [Part.ready, .pair]) s ({ s with pair := { s.pair with
          txq := s.pair.txq.map (fun y => { y with sends := 0 }) } } : State) := (Touches.refl _ s).set_pair rfl
      exact (hq.step (State.setLanes_touches _ _ rfl)).carry
  case beat =>
    intro s hb hup hon hid hst hstate
    have hack := s.hbAcked_pair hb
    have hgo : s.heartbeat hb = (s.hbAcked hb).hbRaised false hb := (State.heartbeat_taken hon hid).trans
      (State.hbTake_synced (by rw [hack]; exact hst) (HbPath.hear_not_lost _) hstate)
    have hpair : (s.heartbeat hb).pair = ((s.hbAcked hb).hbHeard false hb).pair := (congrArg State.pair hgo :)
    rw [State.hbHeard, hack] at hpair
    have hframe : Touches (evtParts ++ [Part.pair]) s (s.heartbeat hb) := by
      rw [hgo]
      exact ((s.hbAcked_touches hb).mono rfl).step (State.hbRaised_touches _ _ _)
    have hexec : exec (.heartbeat hb) s = effect true s (s.heartbeat hb) := rfl
    generalize s.heartbeat hb = t at *
    refine gives_effect hexec hup rfl ?_
    simp only [State.carry_pair, hpair]
    refine ⟨trivial, rfl, rfl, fun h => ?_, fun h => ?_, trivial, fun h => if_pos h, fun h => if_neg h, hst, trivial, hframe.carry⟩
    · exact (congrArg (· || _) h).trans (Bool.true_or _)
    · exact (congrArg (· || _) h).trans (Bool.false_or _)
  case join =>
    intro s hb hup hon hid hst hrole hflows
    have hack := s.hbAcked_pair hb
    have hacked := s.hbAcked_touches hb
    have hobjs : (s.hbAcked hb).objs = s.objs := hacked .objs rfl
    have hfdb : (s.hbAcked hb).fdb = s.fdb := hacked .fdb rfl
    obtain ⟨htake, htouch, hentries, hpair⟩ := State.hbTake_joins (s := s.hbAcked hb) (by rw [hack]; exact hst) hrole
      (by rw [State.inUse, hobjs]; exact hflows)
    have hgo := (State.heartbeat_taken hon hid).trans htake
    have hframe : Touches (evtParts ++ [Part.sw, .fdb, .pair]) s (s.heartbeat hb) := by
      rw [hgo]
      exact ((hacked.mono rfl).step ((State.hbRaised_touches _ _ _).mono rfl)).step htouch
    have hgone : s.MirroredFit → (s.heartbeat hb).fdb.entries = s.unmirrored := by
      intro hfit
      rw [hgo, hentries (by rw [State.MirroredFit, hfdb]; exact hfit), State.unmirrored, hfdb, State.unmirrored]
    rw [← hgo] at hpair
    have hexec : exec (.heartbeat hb) s = effect true s (s.heartbeat hb) := rfl
    generalize s.heartbeat hb = t at *
    refine gives_effect hexec hup rfl ?_
    simp only [State.carry_pair, State.carry_fdb, hpair]
    exact ⟨hgone, trivial, trivial, trivial, trivial, hframe.carry⟩
  case inband =>
    intro s p hb hup hwf hon hen hid hst hlost hstate hport
    have hgo : s.inbHeartbeatRx p hb = if hb.unitId = s.ap Fld.pairCfg_UNIT_ID then s else s.hbTake true hb := by
      simp only [State.inbHeartbeatRx, hon, hen, hport, hid, ne_eq, not_true_eq_false, decide_false, Bool.not_true, Bool.or_self, Bool.false_or,
        decide_eq_true_eq]
    refine ⟨fun hne => ?_, fun heq => ?_⟩
    · have htake := hgo.trans ((if_neg hne).trans (State.hbTake_synced (inb := true) hst hlost hstate))
      refine gives_effect (congrArg (effect _ s) htake) hup hwf ⟨rfl, rfl, rfl, rfl, (State.hbRaised_touches _ _ _).carry⟩
    · exact gives_effect (congrArg (effect _ s) (hgo.trans (if_pos heq))) hup hwf rfl
  case send =>
    intro s hup hon
    have hgo : s.pairHbSend = { s with pair := { s.pair with
        hbSent := s.pair.hbSent + 1, hbOut := some s.heartbeatOut
        inbOut := if s.apB Fld.pairCfg_INB_EN then some s.inbFrame else s.pair.inbOut } } := if_pos hon
    refine gives_effect (congrArg (effect true s) hgo) hup rfl ⟨rfl, rfl, fun hoff => ?_, fun hen => ?_, ?_⟩
    · exact if_neg (by rw [hoff]; exact Bool.false_ne_true)
    · exact ⟨s.inbFrame, if_pos hen, rfl, rfl, rfl, rfl⟩
    · have hframe : Touches [.pair] s s.pairHbSend := State.pairHbSend_touches s rfl
      rw [hgo] at hframe
      exact hframe.carry
  case miss =>
    intro s hup hon hst hrole hen hfollow hrehearse hinbHeard hinbOk
    refine ⟨fun hheard hok => ?_, fun hheard hok hmisses => ?_⟩
    · have hgo := State.pairHbMissCheck_heard hon hst hen hinbHeard hinbOk hheard hok
      refine gives_effect (congrArg (effect true s) hgo) hup rfl ⟨rfl, ?_⟩
      exact ((Touches.refl [.pair] s).set_pair rfl).carry
    · have hne : s.hbThird.pair.st ≠ .isolated := by
        show s.pair.st ≠ .isolated
        rw [hst]
        decide
      have hplain : s.hbThird.pair.st = .synced → s.hbThird.pairPlain := fun _ => ⟨hfollow, hrehearse⟩
      have hgo := State.pairHbMissCheck_third hon hst hen hinbHeard hinbOk hheard hok hmisses
      have homd : (s.hbThird.goPair .isolated).pair.omd = s.pair.omd.interval := by
        rw [State.goPair_cut hne hplain (.inl rfl)]
        rfl
      rw [HbPath.interval_third hheard hmisses] at homd
      have hbumped : Touches [.pair] s s.hbInterval := (Touches.refl _ s).set_pair rfl
      have hrest : Touches (evtParts ++ [.fdb, .pair]) (s.hbInterval.bump Fld.pairHbMiss_OMD) (s.hbThird.goPair .isolated) := by
        have hthird : Touches (evtParts ++ [.fdb, .pair]) (s.hbInterval.bump Fld.pairHbMiss_OMD) s.hbThird := by
          have hraise : Touches (evtParts ++ [.fdb, .pair]) (s.hbInterval.bump Fld.pairHbMiss_OMD)
              ((s.hbInterval.bump Fld.pairHbMiss_OMD).raise Ev.pairPathLost 0) := State.raise_touches _ _ _ _ _ rfl
          exact hraise.set_pair rfl
        exact hthird.step (State.goPair_cut_touches hne hplain (.inl rfl))
      have hcount : (s.hbThird.goPair .isolated).count Fld.pairHbMiss_OMD = s.counted Fld.pairHbMiss_OMD :=
        State.count_bumped hbumped hrest rfl rfl (by decide)
      have hframe : Touches (evtParts ++ [Part.fdb, .pair, .rc .pairHbMiss]) s (s.hbThird.goPair .isolated) :=
        ((hbumped.mono rfl).step (State.bump_touches _ _ _ _ rfl)).step (hrest.mono rfl)
      have hcut := State.goPair_cut hne hplain (.inl rfl)
      have hpair : (s.hbThird.goPair .isolated).pair = (s.hbThird.pairEnter .isolated).pair := (congrArg State.pair hcut :)
      refine gives_effect (congrArg (effect true s) hgo) hup rfl ⟨?_, ?_, ?_, ?_, ?_, ?_, hcount, hframe.carry⟩
      · exact congrArg HbPath.ok homd
      · exact congrArg HbPath.misses homd
      · exact congrArg PairState.st hpair
      · exact (congrArg PairState.role hpair).trans hrole
      · exact congrArg PairState.mirrorOk hpair
      · exact congrArg PairState.txq hpair
  case time =>
    intro s hup hon
    exact gives_effect (congrArg (effect true s) (if_pos hon)) hup rfl ⟨rfl, ((Touches.refl [.pair] s).set_pair rfl).carry⟩
  case echo =>
    intro s x hup hwf hon hfollow
    by_cases hecho : ∃ e, x.echo = some e ∧ s.pair.timeTx.contains e.1 = true
    · obtain ⟨e, he, hin⟩ := hecho
      have hgo := State.pairTime_echo (tx := x.tx) hon hin hfollow
      rw [← he] at hgo
      refine gives_effect (congrArg (effect _ s) hgo) hup hwf ⟨fun hout => ?_, fun e' he' _ => ?_, ((Touches.refl [.pair] s).set_pair rfl).carry⟩
      · exact absurd hin (by rw [hout e he]; exact Bool.false_ne_true)
      · obtain rfl : e' = e := Option.some.inj (he'.symm.trans he)
        rfl
    · have hout : ∀ e, x.echo = some e → s.pair.timeTx.contains e.1 = false := fun e he =>
        Bool.eq_false_iff.mpr fun hin => hecho ⟨e, he, hin⟩
      have hgo := State.pairTime_plain (tx := x.tx) hon hout
      refine gives_effect (congrArg (effect _ s) hgo) hup hwf ⟨fun _ => rfl, fun e he hin => ?_, ((Touches.refl [.pair] s).set_pair rfl).carry⟩
      exact absurd hin (by rw [hout e he]; exact Bool.false_ne_true)
  case search =>
    intro s hup hon hst
    obtain ⟨v, hv⟩ : ∃ v : State, v = { s with pair := { s.pair with role := .primary, primaryS := 0 } } := ⟨_, rfl⟩
    have hgo : s.pairSearchTimeout = v.goPair .alone := by
      rw [State.pairSearchTimeout, hon, hst, hv]
      rfl
    have hne : v.pair.st ≠ .alone := by rw [hv]; show s.pair.st ≠ .alone; rw [hst]; decide
    have hplain : v.pair.st = .synced → v.pairPlain := fun h => by
      rw [hv] at h
      exact PairSt.noConfusion (hst.symm.trans h)
    have hvtouch : Touches [.pair] s v := by
      rw [hv]
      exact (Touches.refl _ s).set_pair rfl
    have hcut := State.goPair_cut hne hplain (.inr rfl)
    have hpair : (v.goPair .alone).pair = (v.pairEnter .alone).pair := (congrArg State.pair hcut :)
    have hsame : SameEvt s (v.pairEnter .alone) := Touches.sameEvt (hvtouch.step (v.pairEnter_touches _)) rfl
    have hrole : v.pair.role.code = 1 := by rw [hv]; rfl
    have hevt : (v.goPair .alone).evt = (s.raise Ev.pairState 5 1).evt := by
      rw [hcut, hrole]
      exact hsame.raise_evt _ _ _ _
    refine gives_effect (congrArg (effect true s) hgo) hup rfl ⟨?_, ?_, ?_, hevt, ?_⟩
    · exact (congrArg PairState.role hpair).trans (by rw [hv]; rfl)
    · exact congrArg PairState.st hpair
    · exact (congrArg PairState.primaryS hpair).trans (by rw [hv]; rfl)
    · exact ((hvtouch.mono rfl).step (State.goPair_cut_touches hne hplain (.inr rfl))).carry

end Sys2Proof.Machine
end

section
/-! ## A rehearsal's command and the one behind it (R62, R84, R92)

When a command of a ring starts, those behind it whose opcode is not listed complete at once, and a completion whose ring is not in RUN
counts in HIF_RING_ABORTED: the frames of PAIR_REHEARSE and of PAIR_RESYNC leave that counter out. -/

set_option Elab.async false

namespace Sys2Proof.Machine

/-- The bytes of a PAIR_REHEARSE without options, and of a descriptor whose opcode is 0. -/
def rehearseRaw : List Byte := leBytes 0xCC01 2 ++ leBytes 0 30
def unlistedRaw : List Byte := leBytes 0 32

/-- A standby in SYNCED whose command ring 56 holds both; the completion ring that it is bound to is not in RUN. -/
def rehearseBehind : State := { State.reset with
  pair := { role := .standby, st := .synced }
  hif := { rings := [(56, { state := .run, fetched := [{ raw := rehearseRaw, ext := [] }, { raw := unlistedRaw, ext := [] }] })] } }

/-- The first of the two commands. -/
def rehearseFirst : CmdDesc := Fetched.cmd 56 { raw := rehearseRaw, ext := [] }

/-- The command behind the rehearsal completes into a ring that takes nothing. -/
theorem rehearseBehind_counts : Gives (.pairRehearse rehearseFirst) rehearseBehind
    (fun t => t.count Fld.hifRingAborted_VAL 56 = 1) := gives_effect rfl rfl rfl (by decide +kernel)

/-- Refutes O56: in its clause on PAIR_REHEARSE the counter of the completions that no ring took is not among what may change. -/
theorem not_pairRequests : ¬ Obligations.PairRequests := by
  unfold Obligations.PairRequests
  rintro ⟨-, rehearse, -⟩
  obtain ⟨t, ⟨-, hframe⟩, hcount⟩ := (rehearse rehearseBehind rehearseFirst rfl (by decide +kernel) rfl rfl rfl
    ⟨by decide +kernel, by decide +kernel⟩).both rehearseBehind_counts
  have hsame : t.count Fld.hifRingAborted_VAL 56 = rehearseBehind.count Fld.hifRingAborted_VAL 56 :=
    State.count_of_rc (hframe (.rc .hifRingAborted) rfl)
  have hzero : rehearseBehind.count Fld.hifRingAborted_VAL 56 = 0 := by decide +kernel
  omega

end Sys2Proof.Machine
end

section
/-! ## Sequenced frames of the link in their order, and the flows that they bring (R368, R375 to R377) -/

set_option Elab.async false

namespace Sys2Proof.Machine

/-! ### The next frame in order -/

/-- The part after the next frame in order has acknowledged and has been counted, before its payload takes effect. -/
def State.frameTaken (s : State) (h : OmdHdr) : State :=
  { s.omdAck h.ack with pair := { (s.omdAck h.ack).pair with rxSeq := (s.pair.rxSeq + 1) % 2 ^ 32 } }

section Order

variable {s : State} {h : OmdHdr}

theorem State.frameTaken_touches : Touches [.pair] s (s.frameTaken h) := by
  have hack : Touches [.pair] s (s.omdAck h.ack) := State.omdAck_touches s _ rfl
  exact hack.set_pair rfl

/-- A frame that is the next one, with none held behind a gap, takes effect (R368). -/
theorem State.omdSeq_inOrder (hord : s.InOrder h) (p : OmdPayload) : s.omdSeq h p = (s.frameTaken h).omdApply p := by
  obtain ⟨hup, hseq, hheld, -⟩ := hord
  have hgo : s.omdSeq h p = if !s.omdUp then s else if h.seq % 2 ^ 32 = s.pair.rxSeq then
      ((s.frameTaken h).omdApply p).omdHeld s.pair.held.length
    else if seqBefore s.pair.rxSeq (h.seq % 2 ^ 32) && !(s.pair.held.any (fun x => x.1 == h.seq % 2 ^ 32)) then
      { s.omdAck h.ack with pair := { (s.omdAck h.ack).pair with held := s.pair.held ++ [(h.seq % 2 ^ 32, p)] } }
    else s.omdAck h.ack := rfl
  rw [hgo, hup, if_neg (by decide), if_pos hseq, hheld]
  rfl

theorem State.frameTaken_mirroring (hord : s.InOrder h) : (s.frameTaken h).mirroring = true := hord.2.2.2

/-- What leaves the order of the frames as it is after the next one has been taken. -/
theorem State.tookFrame_of {t : State} (hord : s.InOrder h) (hrx : t.pair.rxSeq = (s.frameTaken h).pair.rxSeq)
    (hheld : t.pair.held = (s.frameTaken h).pair.held) : s.TookFrame t := ⟨hrx, hheld.trans hord.2.2.1⟩

theorem State.tookFrame_of_pair {t : State} (hord : s.InOrder h) (hpair : t.pair = (s.frameTaken h).pair) : s.TookFrame t :=
  State.tookFrame_of hord (congrArg PairState.rxSeq hpair) (congrArg PairState.held hpair)

/-- A frame that is not the next one waits behind the gap, or has been applied already. -/
theorem State.omdSeq_outOfOrder (hup : s.omdUp = true) (hseq : h.seq % 2 ^ 32 ≠ s.pair.rxSeq) (p : OmdPayload) :
    s.omdSeq h p = if seqBefore s.pair.rxSeq (h.seq % 2 ^ 32) && !(s.pair.held.any (fun x => x.1 == h.seq % 2 ^ 32)) then
      { s.omdAck h.ack with pair := { (s.omdAck h.ack).pair with held := s.pair.held ++ [(h.seq % 2 ^ 32, p)] } }
    else s.omdAck h.ack := by
  have hseq' : ¬ h.seq % 2 ^ 32 = (s.omdAck h.ack).pair.rxSeq := hseq
  simp only [State.omdSeq, hup, hseq', Bool.not_true, Bool.false_eq_true, if_false]
  rfl

end Order

/-! ### Records of entries (R376) -/

section Entry

variable {s : State} {r : FdbRec}

theorem State.fdbRec_skips (hfull : s.fdb.verFull = true) (hrole : s.pair.role ≠ .primary) : s.fdbRec r = s.bump Fld.fdbLearnSkip_VAL := by
  simp only [State.fdbRec, hrole, hfull, and_false, if_false, if_true]

variable (hcross : s.fdbCrosses r.mac r.vid = false) (hroom : s.fdb.verFull = false)
include hcross hroom

theorem State.fdbRec_new {a : Nat} (hput : r.remove = false) (hnone : s.fdbEntry? r.mac r.vid = none)
    (ha : (fdbBuckets (r.mac, r.vid)).find? (fun b => (fdbAt s.fdb.entries b).isNone) = some a) :
    s.fdbRec r = s.entriesSet (.fdb r.mac r.vid) (Tab.set s.fdb.entries (r.mac, r.vid)
      { dest := r.dest, mirrored := true, loc := BitVec.ofNat 32 a }) := by
  simp only [State.fdbRec, hcross, hroom, hput, hnone, Bool.false_eq_true, false_and, if_false, State.fdbInsert_eq, fdbPlace_empty ha,
    Option.map_some, Option.getD_some]

variable {e : FdbEntry} (he : s.fdbEntry? r.mac r.vid = some e)
include he

theorem State.fdbRec_known (hput : r.remove = false) (hdyn : e.static = false) :
    s.fdbRec r = s.entriesSet (.fdb r.mac r.vid) (Tab.set s.fdb.entries (r.mac, r.vid) { e with dest := r.dest, mirrored := true }) := by
  simp only [State.fdbRec, hcross, hroom, hput, he, hdyn, Bool.false_eq_true, false_and, if_false, State.fdbPut_eq]

theorem State.fdbRec_removes (hgone : r.remove = true) (hmirrored : e.mirrored = true) (hdyn : e.static = false) :
    s.fdbRec r = s.entriesSet (.fdb r.mac r.vid) (Tab.erase s.fdb.entries (r.mac, r.vid)) := by
  simp only [State.fdbRec, hcross, hroom, hgone, he, hdyn, hmirrored, Bool.false_eq_true, false_and, if_false, if_true, Bool.or_false,
    State.fdbRemove_eq]

theorem State.fdbRec_static (hstatic : e.static = true) : s.fdbRec r = s := by
  simp only [State.fdbRec, hcross, hroom, he, hstatic, Bool.false_eq_true, false_and, if_false, if_true]

end Entry

/-- A record changes the entries in their place, and the pair not at all. -/
theorem State.entriesSet_pair (s : State) (k : EntryKey) (es : Tab (Nat × Nat) FdbEntry) : (s.entriesSet k es).pair = s.pair :=
  State.entriesSet_touches (ps := Part.others .pair) s k es rfl .pair rfl

/-! ### Records of flows (R377) -/

theorem State.flowAbort_pair (s : State) (i : Nat) : (s.flowAbort i).pair = s.pair :=
  State.flowAbort_touches (ps := Part.others .pair) s i rfl .pair rfl

section Flow

variable {s : State} {r : FlowRec} (hrole : s.pair.role = .standby)
include hrole

theorem State.flowRecTake_standby : s.flowRecTake r = match r.op with
    | 0 => s.admNext 4 r.desc
    | 1 => if s.stale .flow r.handle then s
      else ({ s with sw := { s.sw with wait := s.sw.wait.filter (fun w => w.index != hIndex r.handle) } } : State).flowKill (hIndex r.handle)
    | 2 => s.flowMirrorPhase r.handle false
    | 3 => s.flowMirrorPhase r.handle true
    | _ => s := by
  rw [State.flowRecTake, if_neg (by rw [hrole]; exact PairRole.noConfusion), if_neg (by rw [hrole]; simp)] <;> rfl

variable (hstale : s.stale .flow r.handle = false)
include hstale

theorem State.flowRecTake_disables (hop : r.op = 2) : s.flowRecTake r = (s.flowAbort (hIndex r.handle)).setObj .flow (hIndex r.handle)
    { (s.flowAbort (hIndex r.handle)).obj .flow (hIndex r.handle) with phase := .suspended } := by
  rw [State.flowRecTake_standby hrole, hop]
  simp only [State.flowMirrorPhase, hstale, Bool.false_eq_true, if_false]

theorem State.flowRecTake_enables (hop : r.op = 3) : s.flowRecTake r = (s.flowResume (hIndex r.handle)).setObj .flow (hIndex r.handle)
    { (s.flowResume (hIndex r.handle)).obj .flow (hIndex r.handle) with phase := .active } := by
  rw [State.flowRecTake_standby hrole, hop]
  simp only [State.flowMirrorPhase, hstale, Bool.false_eq_true, if_false, if_true]

/-- A flow with nothing in flight, nothing that drains it and nothing that waits for it leaves with its record. -/
theorem State.flowRecTake_destroys (hop : r.op = 1) (hcopies : s.flowCopies (hIndex r.handle) = [])
    (hwaiting : (s.obj .flow (hIndex r.handle)).waiting = []) (hdrain : (s.obj .flow (hIndex r.handle)).drain = none) :
    s.flowRecTake r =
      ((((s.withWait (s.sw.wait.filter (fun w => w.index != hIndex r.handle))).flowAbort (hIndex r.handle)).flowDrop
        (hIndex r.handle)).dropObj .flow (hIndex r.handle)) := by
  obtain ⟨v, hv⟩ : ∃ v, v = s.withWait (s.sw.wait.filter (fun w => w.index != hIndex r.handle)) := ⟨_, rfl⟩
  have hvcopies : v.flowCopies (hIndex r.handle) = [] := by rw [hv]; exact hcopies
  have hvobj : v.obj .flow (hIndex r.handle) = s.obj .flow (hIndex r.handle) := by rw [hv]; rfl
  have hgo : s.flowRecTake r = v.flowKill (hIndex r.handle) := by
    rw [State.flowRecTake_standby hrole, hop, hv]
    exact if_neg (by rw [hstale]; exact Bool.false_ne_true)
  rw [hgo, ← hv]
  simp only [State.flowKill, hvobj, hdrain, hwaiting, hvcopies, List.length_nil, List.foldl_nil]
  rfl

end Flow

/-! ### A flow of the primary that the standby accepts -/

/-- What the standby decides of a flow that the primary creates. -/
def FlowRec.grant (r : FlowRec) (s : State) (b : Nat) : FlowWait :=
  { desc := r.desc, modify := false, stage := 0, mirror := true, index := hIndex r.handle, f := r.f % 2 ^ 32, bound := b
    nf := flowReserve (flowArgsOf r.desc.objArgs) b, pool := s.reservePool (flowArgsOf r.desc.objArgs) }

theorem State.flowMirrored_grants {s : State} {r : FlowRec} {b : Nat} (hstale : s.stale .flow r.handle = true)
    (hnone : s.obj? .flow (hIndex r.handle) = none)
    (hcap : s.capFault (flowArgsOf r.desc.objArgs) (s.flowsTo (flowArgsOf r.desc.objArgs).out none) = 0)
    (hb : s.boundOf (flowArgsOf r.desc.objArgs) (s.flowsTo (flowArgsOf r.desc.objArgs).out none) (r.f % 2 ^ 32) = some b)
    (hreq : b ≤ (flowArgsOf r.desc.objArgs).boundReq)
    (hroom : s.canReserve (s.reservePool (flowArgsOf r.desc.objArgs)) (flowReserve (flowArgsOf r.desc.objArgs) b) none = true)
    (hrate : r.f % 2 ^ 32 ≤ s.fAdm) : s.flowMirrored r.desc = (s.withWait (some (r.grant s b))).flowGrant (r.grant s b) := by
  have htag : r.desc.tag.toNat = r.f % 2 ^ 32 := BitVec.toNat_ofNat _ _
  have hhandle : r.desc.handle = r.handle := rfl
  have hmax : ¬ s.fAdm none < max (r.f % 2 ^ 32) (s.fAdm none) := by
    have h : s.fAdm none = s.fAdm := rfl
    omega
  have hgo : s.flowMirrored r.desc = s.flowRate (r.grant s b) := by
    simp only [State.flowMirrored, htag, hhandle, hstale, hnone, hcap, hb, hroom, Nat.not_lt.mpr hreq, hmax, Bool.not_true, Bool.not_false,
      Bool.false_eq_true, if_false, ne_eq, not_true, Option.isSome_none, Option.isNone_some, Option.getD_some, Bool.and_false,
      or_self, decide_false, Bool.false_and, Bool.or_self]
    rfl
  have hlow : ¬ s.fAdm none < r.f % 2 ^ 32 := Nat.not_lt.mpr hrate
  have hrated : s.flowRate (r.grant s b) = (s.withWait (some (r.grant s b))).flowLocal (r.grant s b) := if_neg fun h => hlow h.1
  rw [hgo, hrated]
  exact if_neg (by simp [FlowRec.grant])

section Grant

variable {s : State} {w : FlowWait} (hmirror : w.mirror = true) (hcreate : w.modify = false)
include hmirror

theorem State.flowMake_mirrored_obj? : (s.flowMake w).obj? .flow w.index = some { args := w.desc.objArgs, extra := [] } := by
  unfold State.flowMake
  simp only [hmirror, if_true, State.obj?, State.rsvChanged_objs, State.addRsv_objs, State.setFlow_objs]
  exact Tab.find_set_self _ _ _

theorem State.flowMake_mirrored_sw : ∃ x : Flow, x.bound = w.bound ∧
    (s.flowMake w).sw = { s.sw with flows := Tab.set s.sw.flows w.index x } := by
  unfold State.flowMake
  simp only [hmirror, if_true, State.rsvChanged_sw, State.addRsv_sw]
  exact ⟨_, rfl, rfl⟩

include hcreate

theorem State.flowGrant_mirrored : s.flowGrant w = ((s.withWait none).flowMake w).pairDelta (.flow [((s.withWait none).flowMake w).flowRec w.index 4]) := by
  simp only [State.flowGrant, hmirror, hcreate, Bool.false_eq_true, if_false, if_true]
  rfl

end Grant

end Sys2Proof.Machine
end

section
/-! ## The statement on the frames of the link (R368, R374 to R377, R382, R383) -/

set_option Elab.async false

namespace Sys2Proof.Machine

/-! ### What the payloads do -/

section Payload

variable {s : State} (hmirror : s.mirroring = true)
include hmirror

theorem State.omdApply_fdb (r : FdbRec) : s.omdApply (.fdb [r]) = s.fdbRec r := by
  simp only [State.omdApply, hmirror, Bool.not_true, Bool.false_eq_true, if_false, List.foldl_cons, List.foldl_nil]

theorem State.omdApply_flow (r : FlowRec) : s.omdApply (.flow [r]) = s.flowRecTake r := by
  simp only [State.omdApply, hmirror, Bool.not_true, Bool.false_eq_true, if_false, List.foldl_cons, List.foldl_nil]

variable (hrole : s.pair.role = .standby)
include hrole

theorem State.omdApply_cb (r : CbRec) : s.omdApply (.cb [r]) = s.cbRec r := by
  simp only [State.omdApply, hmirror, Bool.not_true, Bool.false_eq_true, if_false, State.cbTake, hrole, ne_eq, not_true, List.foldl_cons,
    List.foldl_nil]

theorem State.omdApply_time (hfollow : s.pair.follow = false) (x : TimeStateRec) :
    s.omdApply (.timeState x) = { s with pair := { s.pair with mirror := some x } } := by
  simp only [State.omdApply, hmirror, Bool.not_true, Bool.false_eq_true, if_false, State.timeStateTake, hrole, ne_eq, not_true, hfollow]

theorem State.omdApply_begin (hst : s.pair.st = .synced) (n : Nat) : s.omdApply (.begin n) = s.resyncStart := by
  simp only [State.omdApply, hmirror, Bool.not_true, Bool.false_eq_true, if_false, hrole, hst, and_self, if_true]

theorem State.omdApply_done (hst : s.pair.st = .resync) (n : Nat) : s.omdApply (.done n) = s.resyncDone := by
  simp only [State.omdApply, hmirror, Bool.not_true, Bool.false_eq_true, if_false, hrole, hst, and_self, if_true]

theorem State.omdApply_role (hst : s.pair.st = .synced) (hok : s.pair.mirrorOk = true) (sec : Nat) :
    s.omdApply (.role sec) = { s with pair := { s.pair with switchAt := some sec } } := by
  simp only [State.omdApply, hmirror, Bool.not_true, Bool.false_eq_true, if_false, hrole, hst, hok, and_self, if_true]

/-- The time state alone in the stream of a resynchronisation. -/
theorem State.omdApply_timeData (hst : s.pair.st = .resync) (hfollow : s.pair.follow = false) (x : TimeStateRec) :
    s.omdApply (.data [] [] (some x) []) = { s with pair := { s.pair with records := s.pair.records + 1, mirror := some x } } := by
  have hgo : s.omdApply (.data [] [] (some x) []) =
      ((({ s with pair := { s.pair with records := s.pair.records + 1 } } : State).timeStateTake x).cbTake []) := by
    simp only [State.omdApply, hmirror, Bool.not_true, Bool.false_eq_true, if_false, hrole, hst, and_self, if_true]
    rfl
  have htake : ({ s with pair := { s.pair with records := s.pair.records + 1 } } : State).timeStateTake x =
      { s with pair := { s.pair with records := s.pair.records + 1, mirror := some x } } := by
    unfold State.timeStateTake
    rw [if_neg fun h => h hrole]
    exact if_neg fun h => Bool.false_ne_true (hfollow.symm.trans h)
  rw [hgo, htake]
  exact ite_self _

end Payload

/-- The end of a resynchronisation that no command waits for, on a part that does not follow. -/
theorem State.resyncDone_plain {s : State} (hst : s.pair.st = .resync) (hfollow : s.apB Fld.pairCfg_FOLLOW_EN = false)
    (hcmd : s.pair.resyncCmd = none) : ∃ ms, s.resyncDone = { (((s.pairEnter .synced).raise Ev.pairState 3 s.pair.role.code).raise Ev.pairSynced
      ms s.pair.records s.pair.destroyed) with pair := { (s.pairEnter .synced).pair with resyncMs := ms, resyncCmd := none } } := by
  have henter : s.goPair .synced = (s.pairEnter .synced).raise Ev.pairState 3 s.pair.role.code := by
    rw [State.goPair_enter (by rw [hst]; decide) (fun h => PairSt.noConfusion (hst.symm.trans h)), if_neg (by decide), if_pos rfl]
    have hoff : ((s.pairEnter .synced).raise Ev.pairState 3 s.pair.role.code).apB Fld.pairCfg_FOLLOW_EN = false := hfollow
    exact if_pos (by
      simp only [Bool.or_eq_true, Bool.not_eq_true']
      exact .inl (.inl (.inr hoff)))
  refine ⟨(s.clk.now - s.pair.resyncAt) / 10 ^ 9, ?_⟩
  unfold State.resyncDone
  rw [henter]
  extract_lets ms s1 s2
  split
  · next h => exact absurd (hcmd.symm.trans h) (by simp)
  · rfl

/-! ### Records of 802.1CB functions (R374) -/

section Cb

variable {s : State} {r : CbRec} {f : CbFn} (hf : Tab.find s.fdb.cb r.fn = some f)
include hf

theorem State.cbRec_wraps (h : f.src = r.src ∨ f.type ≠ 0 ∨ s.verBusy [.cb r.fn] = true) :
    s.cbRec r = s.setCb r.fn { f with wrap := r.wrap % 256 } := by
  unfold State.cbRec
  simp only [hf]
  by_cases hkeep : f.src = r.src ∨ f.type ≠ 0
  · rw [if_pos hkeep]
  · rw [if_neg hkeep, if_pos (by tauto)]

theorem State.cbRec_changes (hsrc : f.src ≠ r.src) (htype : f.type = 0) (hfree : s.verBusy [.cb r.fn] = false) :
    s.cbRec r = (s.bumpVersion (.cb r.fn)).setCb r.fn { f with wrap := r.wrap % 256, src := r.src } := by
  unfold State.cbRec
  simp only [hf]
  rw [if_neg (by tauto), if_neg (by rw [hfree]; exact Bool.false_ne_true)]

/-- Whatever it changes, a record of CB_STATE writes the entry of its function and touches FDB only. -/
theorem State.cbRec_entry : ∃ g, (s.cbRec r).fdb.cb = Tab.set s.fdb.cb r.fn g := by
  by_cases h : f.src = r.src ∨ f.type ≠ 0 ∨ s.verBusy [.cb r.fn] = true
  · exact ⟨_, by rw [State.cbRec_wraps hf h]; rfl⟩
  · have h' : f.src ≠ r.src ∧ f.type = 0 ∧ s.verBusy [.cb r.fn] = false := by simpa using h
    obtain ⟨hsrc, htype, hfree⟩ := h'
    obtain ⟨w, x, o, z, hver⟩ := s.bumpVersion_fdb (.cb r.fn)
    refine ⟨{ f with wrap := r.wrap % 256, src := r.src }, ?_⟩
    have hset : (s.cbRec r).fdb.cb = Tab.set (s.bumpVersion (.cb r.fn)).fdb.cb r.fn { f with wrap := r.wrap % 256, src := r.src } := by
      rw [State.cbRec_changes hf hsrc htype hfree]
      rfl
    rw [hset, hver]

end Cb

/-! ### What the primary sends (R375) -/

/-- What the link has to send goes out at once while it mirrors and nothing waits. -/
theorem State.pairDelta_sends {s : State} {p : OmdPayload} (hmirror : s.mirroring = true) (htask : s.taskHeld 10 = true)
    (hqueue : s.pair.queue = []) : s.pairDelta p = s.omdSend p := by
  simp only [State.pairDelta, hmirror, htask, hqueue, Bool.not_true, Bool.false_eq_true, if_false, decide_true, Bool.and_self, if_true]

/-- The outcome of a frame: the model takes the next frame in order and applies its payload. -/
theorem gives_frame {c : Instr} {s : State} {h : OmdHdr} {p : OmdPayload} {P : State → Prop} (hup : s.Up) (hord : s.InOrder h)
    (hexec : exec c s = effect true s (s.omdSeq h p)) (hp : P (((s.frameTaken h).omdApply p).carry s)) : Gives c s P :=
  gives_effect (hexec.trans (congrArg (effect true s) (State.omdSeq_inOrder hord p))) hup rfl hp

end Sys2Proof.Machine
end

section
/-! ## A record of FLOW_DELTA as the next frame (R377) -/

set_option Elab.async false

namespace Sys2Proof.Machine

theorem State.dropObj_gone (s : State) (y : ObjType) (i : Nat) : (s.dropObj y i).obj? y i = none := Tab.find_erase_self _ _

section Frame

variable {s : State} {h : OmdHdr} (hord : s.InOrder h)
include hord

theorem State.flowFrame_touches (r : FlowRec) : Touches omdParts s ((s.frameTaken h).omdApply (.flow [r])) := by
  rw [← State.omdSeq_inOrder hord]
  exact State.omdSeq_touches s h _ rfl

theorem State.flowFrame (r : FlowRec) : (s.frameTaken h).omdApply (.flow [r]) = (s.frameTaken h).flowRecTake r :=
  State.omdApply_flow (State.frameTaken_mirroring hord) r

variable {r : FlowRec} (hrole : s.pair.role = .standby)
include hrole

section Own

variable (hstale : s.stale .flow r.handle = false)
include hstale

theorem State.flowFrame_disables (hop : r.op = 2) :
    ((s.frameTaken h).omdApply (.flow [r])).pair = (s.frameTaken h).pair ∧
    (((s.frameTaken h).omdApply (.flow [r])).obj .flow (hIndex r.handle)).phase = .suspended := by
  have hgo := (State.flowFrame hord r).trans (State.flowRecTake_disables (s := s.frameTaken h) hrole hstale hop)
  have hpair : ((s.frameTaken h).flowAbort (hIndex r.handle)).pair = (s.frameTaken h).pair := State.flowAbort_pair _ _
  rw [hgo]
  generalize (s.frameTaken h).flowAbort (hIndex r.handle) = u at *
  exact ⟨hpair, congrArg Obj.phase (State.obj_setObj _ _ _ _)⟩

theorem State.flowFrame_enables (hop : r.op = 3) :
    ((s.frameTaken h).omdApply (.flow [r])).pair = (s.frameTaken h).pair ∧
    (((s.frameTaken h).omdApply (.flow [r])).obj .flow (hIndex r.handle)).phase = .active ∧
    (((s.frameTaken h).omdApply (.flow [r])).flow (hIndex r.handle)).tokens = bucketFull (s.flow (hIndex r.handle)).maxFrame := by
  have hgo := (State.flowFrame hord r).trans (State.flowRecTake_enables (s := s.frameTaken h) hrole hstale hop)
  have hpair : ((s.frameTaken h).flowResume (hIndex r.handle)).pair = (s.frameTaken h).pair := rfl
  have hflow : ((s.frameTaken h).flowResume (hIndex r.handle)).flow (hIndex r.handle) =
      { s.flow (hIndex r.handle) with tokens := bucketFull (s.flow (hIndex r.handle)).maxFrame, tokAt := s.clk.now, rejoin := true } :=
    Tab.get_set_self _ _ _ _
  rw [hgo]
  generalize (s.frameTaken h).flowResume (hIndex r.handle) = u at *
  exact ⟨hpair, congrArg Obj.phase (State.obj_setObj _ _ _ _),
    congrArg Flow.tokens hflow⟩

theorem State.flowFrame_destroys (hop : r.op = 1) (hcopies : s.flowCopies (hIndex r.handle) = [])
    (hwaiting : (s.obj .flow (hIndex r.handle)).waiting = []) (hdrain : (s.obj .flow (hIndex r.handle)).drain = none) :
    ((s.frameTaken h).omdApply (.flow [r])).pair = (s.frameTaken h).pair ∧
    ((s.frameTaken h).omdApply (.flow [r])).obj? .flow (hIndex r.handle) = none := by
  have hgo := (State.flowFrame hord r).trans
    (State.flowRecTake_destroys (s := s.frameTaken h) hrole hstale hop hcopies hwaiting hdrain)
  have hpair : (((s.frameTaken h).withWait ((s.frameTaken h).sw.wait.filter (fun w => w.index != hIndex r.handle))).flowAbort
      (hIndex r.handle)).pair = (s.frameTaken h).pair := State.flowAbort_pair _ _
  rw [hgo]
  generalize ((s.frameTaken h).withWait ((s.frameTaken h).sw.wait.filter (fun w => w.index != hIndex r.handle))).flowAbort
    (hIndex r.handle) = u at *
  have hdrop : (u.flowDrop (hIndex r.handle)).pair = u.pair := State.flowDrop_touches (ps := Part.others .pair) u _ rfl .pair rfl
  generalize u.flowDrop (hIndex r.handle) = v at *
  exact ⟨hdrop.trans hpair, v.dropObj_gone _ _⟩

end Own

/-- A flow of the primary that breaks no condition is made, and accepted to the primary. -/
theorem State.flowFrame_creates {b : Nat} (hop : r.op = 0) (hbusy : s.admBusy = false) (hstale : s.stale .flow r.handle = true)
    (hnone : s.obj? .flow (hIndex r.handle) = none)
    (hcap : s.capFault (flowArgsOf r.desc.objArgs) (s.flowsTo (flowArgsOf r.desc.objArgs).out none) = 0)
    (hb : s.boundOf (flowArgsOf r.desc.objArgs) (s.flowsTo (flowArgsOf r.desc.objArgs).out none) (r.f % 2 ^ 32) = some b)
    (hreq : b ≤ (flowArgsOf r.desc.objArgs).boundReq)
    (hroom : s.canReserve (s.reservePool (flowArgsOf r.desc.objArgs)) (flowReserve (flowArgsOf r.desc.objArgs) b) none = true)
    (hrate : r.f % 2 ^ 32 ≤ s.fAdm) (htask : s.taskHeld 10 = true) (hqueue : s.pair.queue = []) :
    let t := (s.frameTaken h).omdApply (.flow [r])
    t.pair = { (s.frameTaken h).pair with
      txq := (s.frameTaken h).pair.txq ++ [{ seq := s.pair.txSeq, payload := .flow [t.flowRec (hIndex r.handle) 4] }]
      txSeq := (s.pair.txSeq + 1) % 2 ^ 32 } ∧
    t.obj? .flow (hIndex r.handle) = some { args := r.desc.objArgs, extra := [] } ∧ (t.flow (hIndex r.handle)).bound = b ∧ t.sw.wait = none := by
  have hu : Touches [.pair] s (s.frameTaken h) := State.frameTaken_touches
  have hmirroring := State.frameTaken_mirroring hord
  have htake : (s.frameTaken h).omdApply (.flow [r]) = (s.frameTaken h).flowMirrored r.desc := by
    have hnext : (s.frameTaken h).admNext 4 r.desc = (s.frameTaken h).flowMirrored r.desc := by
      have hfree : (s.frameTaken h).admBusy = false := hbusy
      exact (if_neg (by rw [hfree]; exact Bool.false_ne_true))
    rw [State.flowFrame hord r, State.flowRecTake_standby (s := s.frameTaken h) hrole, hop]
    exact hnext
  have hgrant := State.flowMirrored_grants (s := s.frameTaken h) hstale hnone hcap hb hreq hroom hrate
  obtain ⟨w, hw⟩ : ∃ w, w = r.grant (s.frameTaken h) b := ⟨_, rfl⟩
  obtain ⟨v, hv⟩ : ∃ v, v = (((s.frameTaken h).withWait (some w)).withWait none).flowMake w := ⟨_, rfl⟩
  have hmirror : w.mirror = true := by rw [hw]; rfl
  have hindex : w.index = hIndex r.handle := by rw [hw]; rfl
  have hmade : Touches [.index, .objs, .sw, .fab, .bpm, .fdb] (s.frameTaken h) v := by
    have hwait : Touches [.index, .objs, .sw, .fab, .bpm, .fdb] (s.frameTaken h) (((s.frameTaken h).withWait (some w)).withWait none) :=
      (Touches.refl _ _).set_sw rfl
    rw [hv]
    exact hwait.step (State.flowMake_touches _ _ rfl)
  have hvpair : v.pair = (s.frameTaken h).pair := hmade .pair rfl
  have hrun : (s.frameTaken h).omdApply (.flow [r]) = v.omdSend (.flow [v.flowRec (hIndex r.handle) 4]) := by
    rw [htake, hgrant, ← hw, State.flowGrant_mirrored hmirror (by rw [hw]; rfl), ← hv, hindex]
    refine State.pairDelta_sends ?_ ?_ ?_
    · rw [State.mirroring, hvpair]
      exact hmirroring
    · rw [State.taskHeld_of_eng (hmade .eng rfl)]
      exact htask
    · rw [hvpair]
      exact hqueue
  have hobj : v.obj? .flow (hIndex r.handle) = some { args := r.desc.objArgs, extra := [] } := by
    have hargs : w.desc = r.desc := by rw [hw]; rfl
    rw [hv, ← hindex, State.flowMake_mirrored_obj? hmirror, hargs]
  obtain ⟨x, hx, hsw⟩ := State.flowMake_mirrored_sw (s := ((s.frameTaken h).withWait (some w)).withWait none) hmirror
  rw [← hv, hindex] at hsw
  have hflow : v.flow (hIndex r.handle) = x := by
    rw [State.flow, hsw]
    exact Tab.get_set_self _ _ _ _
  have hwait : v.sw.wait = none := by
    rw [hsw]
    rfl
  have hbound : x.bound = b := hx.trans (by rw [hw]; rfl)
  intro t
  have ht : t = v.omdSend (.flow [v.flowRec (hIndex r.handle) 4]) := hrun
  have hseq : (s.frameTaken h).pair.txSeq = s.pair.txSeq := rfl
  rw [ht, ← hseq, ← hvpair]
  exact ⟨rfl, hobj, (congrArg Flow.bound hflow).trans hbound, hwait⟩

end Frame

end Sys2Proof.Machine
end

section
set_option Elab.async false

namespace Sys2Proof.Machine

/-- Settles O55. -/
theorem pairMirror : Obligations.PairMirror := by
  refine ⟨?gap, ?entry, ?full, ?flow, ?create, ?time, ?cb, ?begin, ?data, ?done, ?role, ?send, ?age, ?timeout⟩
  case gap =>
    intro s h l hup hon hseq
    have hgo := State.omdSeq_outOfOrder hon hseq (.fdb l)
    have hack : Touches [.pair] s (s.omdAck h.ack) := State.omdAck_touches s _ rfl
    have hframe : Touches [.pair] s (s.omdSeq h (.fdb l)) := by
      rw [hgo]
      exact Touches.ite (hack.set_pair rfl) hack
    have hexec : exec (.fdbDelta h l) s = effect true s (s.omdSeq h (.fdb l)) := rfl
    have hrx : (s.omdSeq h (.fdb l)).pair.rxSeq = s.pair.rxSeq := by
      rw [hgo]
      split <;> rfl
    have hheld : seqBefore s.pair.rxSeq (h.seq % 2 ^ 32) = true → s.pair.held.any (fun x => x.1 == h.seq % 2 ^ 32) = false →
        (s.omdSeq h (.fdb l)).pair.held = s.pair.held ++ [(h.seq % 2 ^ 32, OmdPayload.fdb l)] := fun hbefore hnew => by
      rw [hgo, if_pos (by rw [hbefore, hnew]; rfl)]
    have hold : seqBefore s.pair.rxSeq (h.seq % 2 ^ 32) = false → (s.omdSeq h (.fdb l)).pair.held = s.pair.held := fun hafter => by
      rw [hgo, if_neg (by rw [hafter]; exact Bool.false_ne_true)]
      rfl
    generalize s.omdSeq h (.fdb l) = t at *
    exact gives_effect hexec hup rfl ⟨hrx, hframe .fdb rfl, hheld, hold, hframe.carry⟩
  case entry =>
    intro s h r hup hord hcross hroom
    have hexec : exec (.fdbDelta h [r]) s = effect true s (s.omdSeq h (.fdb [r])) := rfl
    have happly := State.omdApply_fdb (State.frameTaken_mirroring hord) r
    have hu : Touches [.pair] s (s.frameTaken h) := State.frameTaken_touches
    have hcross' : (s.frameTaken h).fdbCrosses r.mac r.vid = false := hcross
    have hroom' : (s.frameTaken h).fdb.verFull = false := hroom
    have hset : ∀ es, (s.frameTaken h).fdbRec r = (s.frameTaken h).entriesSet (.fdb r.mac r.vid) es →
        s.TookFrame ((s.frameTaken h).omdApply (.fdb [r])) ∧ ((s.frameTaken h).omdApply (.fdb [r])).fdb.entries = es ∧
        Touches (evtParts ++ [Part.fdb, .pair]) s ((s.frameTaken h).omdApply (.fdb [r])) := fun es hes => by
      rw [happly, hes]
      exact ⟨State.tookFrame_of_pair hord (State.entriesSet_pair _ _ _), rfl, (hu.mono rfl).step (State.entriesSet_touches _ _ _ rfl)⟩
    refine ⟨fun a hput hnone ha => ?_, fun e hput he hdyn => ?_, fun e hgone he hmirrored hdyn => ?_, fun e he hstatic => ?_⟩
    · obtain ⟨htook, hentries, hframe⟩ := hset _ (State.fdbRec_new hcross' hroom' hput hnone ha)
      obtain ⟨hthis, hothers⟩ := Tab.find_set_of_ne hentries
      refine gives_frame hup hord hexec ?_
      generalize (s.frameTaken h).omdApply (.fdb [r]) = t at *
      exact ⟨htook, hthis, fun m v hne => hothers (m, v) hne, hframe.carry⟩
    · obtain ⟨htook, hentries, hframe⟩ := hset _ (State.fdbRec_known hcross' hroom' he hput hdyn)
      obtain ⟨hthis, hothers⟩ := Tab.find_set_of_ne hentries
      refine gives_frame hup hord hexec ?_
      generalize (s.frameTaken h).omdApply (.fdb [r]) = t at *
      exact ⟨htook, hthis, fun m v hne => hothers (m, v) hne, hframe.carry⟩
    · obtain ⟨htook, hentries, hframe⟩ := hset _ (State.fdbRec_removes hcross' hroom' he hgone hmirrored hdyn)
      obtain ⟨hthis, hothers⟩ := Tab.find_of_erase hentries
      refine gives_frame hup hord hexec ?_
      generalize (s.frameTaken h).omdApply (.fdb [r]) = t at *
      exact ⟨htook, hthis, fun m v hne => hothers (m, v) hne, hframe.carry⟩
    · refine gives_frame hup hord hexec ?_
      rw [happly, State.fdbRec_static hcross' hroom' he hstatic]
      exact ⟨State.tookFrame_of_pair hord rfl, rfl, hu.carry⟩
  case full =>
    intro s h r hup hord hfull hrole
    have hexec : exec (.fdbDelta h [r]) s = effect true s (s.omdSeq h (.fdb [r])) := rfl
    have hu : Touches [.pair] s (s.frameTaken h) := State.frameTaken_touches
    have hskip : (s.frameTaken h).fdbRec r = (s.frameTaken h).bump Fld.fdbLearnSkip_VAL := State.fdbRec_skips hfull hrole
    refine gives_frame hup hord hexec ?_
    rw [State.omdApply_fdb (State.frameTaken_mirroring hord), hskip]
    exact ⟨State.tookFrame_of_pair hord rfl, rfl, State.count_bumped hu (Touches.refl [] _) rfl rfl (by decide),
      ((hu.mono rfl).step (State.bump_touches _ _ _ _ rfl)).carry⟩
  case flow =>
    intro s h r hup hord hrole hstale hcopies
    have hexec : exec (.flowDelta h [r]) s = effect true s (s.omdSeq h (.flow [r])) := rfl
    have hframe := State.flowFrame_touches hord r
    refine ⟨fun hop => ?_, fun hop => ?_, fun hop hwaiting hdrain => ?_⟩
    · obtain ⟨hpair, hphase⟩ := State.flowFrame_disables hord hrole hstale hop
      refine gives_frame hup hord hexec ?_
      generalize (s.frameTaken h).omdApply (.flow [r]) = t at *
      exact ⟨State.tookFrame_of_pair hord hpair, hphase, hframe.carry⟩
    · obtain ⟨hpair, hphase, htokens⟩ := State.flowFrame_enables hord hrole hstale hop
      refine gives_frame hup hord hexec ?_
      generalize (s.frameTaken h).omdApply (.flow [r]) = t at *
      exact ⟨State.tookFrame_of_pair hord hpair, hphase, htokens, hframe.carry⟩
    · obtain ⟨hpair, hgone⟩ := State.flowFrame_destroys hord hrole hstale hop hcopies hwaiting hdrain
      refine gives_frame hup hord hexec ?_
      generalize (s.frameTaken h).omdApply (.flow [r]) = t at *
      exact ⟨State.tookFrame_of_pair hord hpair, hgone, hframe.carry⟩
  case create =>
    intro s h r b hup hord hrole hop hbusy hstale hnone hcap hb hreq hroom hrate htask hqueue
    have hexec : exec (.flowDelta h [r]) s = effect true s (s.omdSeq h (.flow [r])) := rfl
    have hframe := State.flowFrame_touches hord r
    obtain ⟨hpair, hobj, hbound, hwait⟩ := State.flowFrame_creates hord hrole hop hbusy hstale hnone hcap hb hreq hroom hrate htask hqueue
    refine gives_frame hup hord hexec ?_
    generalize (s.frameTaken h).omdApply (.flow [r]) = t at *
    exact ⟨State.tookFrame_of hord (congrArg PairState.rxSeq hpair :) (congrArg PairState.held hpair :), hobj, hbound, hwait,
      ⟨_, congrArg PairState.txq hpair, rfl, rfl⟩, hframe.carry⟩
  case time =>
    intro s h x hup hord hrole hfollow
    have hexec : exec (.timeState h x) s = effect true s (s.omdSeq h (.timeState x)) := rfl
    have hu : Touches [.pair] s (s.frameTaken h) := State.frameTaken_touches
    have happly := State.omdApply_time (s := s.frameTaken h) (State.frameTaken_mirroring hord) hrole hfollow x
    refine gives_frame hup hord hexec ?_
    rw [happly]
    exact ⟨State.tookFrame_of hord rfl rfl, rfl, (hu.set_pair rfl).carry⟩
  case cb =>
    intro s h r f hup hord hrole hf
    have hexec : exec (.cbState h [r]) s = effect true s (s.omdSeq h (.cb [r])) := rfl
    have hu : Touches [.pair] s (s.frameTaken h) := State.frameTaken_touches
    have hf' : Tab.find (s.frameTaken h).fdb.cb r.fn = some f := hf
    have happly := State.omdApply_cb (s := s.frameTaken h) (State.frameTaken_mirroring hord) hrole r
    have hrec : Touches (evtParts ++ [Part.fdb]) (s.frameTaken h) ((s.frameTaken h).cbRec r) := State.cbRec_touches _ r rfl
    obtain ⟨g, hg⟩ := State.cbRec_entry hf'
    refine gives_frame hup hord hexec ?_
    rw [happly]
    refine ⟨State.tookFrame_of_pair hord (hrec .pair rfl), fun hkeep => ?_, fun hsrc htype hfree => ?_, fun n hne => ?_,
      ((hu.mono rfl).step (hrec.mono rfl)).carry⟩
    · rw [State.cbRec_wraps hf' hkeep]
      exact ⟨Tab.find_set_self _ _ _, ((hu.mono rfl).set_fdb rfl).carry⟩
    · rw [State.cbRec_changes hf' hsrc htype hfree]
      exact ⟨Tab.find_set_self _ _ _, State.bumpVersion_version (s.frameTaken h) _⟩
    · have hother := Tab.find_set_ne s.fdb.cb r.fn n g hne
      exact (congrArg (fun t => Tab.find t n) hg).trans hother
  case begin =>
    intro s h n hup hord hrole hst hfollow hrehearse hflows hfit
    have hexec : exec (.resyncBegin h n) s = effect true s (s.omdSeq h (.begin n)) := rfl
    have happly := State.omdApply_begin (s := s.frameTaken h) (State.frameTaken_mirroring hord) hrole hst n
    have hne : (s.frameTaken h).pair.st ≠ .resync := fun h => PairSt.noConfusion (hst.symm.trans h)
    have hplain : (s.frameTaken h).pair.st = .synced → (s.frameTaken h).pairPlain := fun _ => ⟨hfollow, hrehearse⟩
    have hflows' : (s.frameTaken h).inUse .flow = [] := hflows
    have hpair := State.resyncStart_bare_pair hne hplain hflows'
    have hentries := State.resyncStart_bare_entries hne hplain hflows' hfit
    have hframe : Touches omdParts s (s.frameTaken h).resyncStart :=
      (State.frameTaken_touches.mono rfl).step ((State.resyncStart_bare_touches hne hplain hflows').mono rfl)
    refine gives_frame hup hord hexec ?_
    rw [happly]
    generalize (s.frameTaken h).resyncStart = t at *
    exact ⟨congrArg PairState.rxSeq hpair, congrArg PairState.st hpair, congrArg PairState.mirrorOk hpair, congrArg PairState.destroyed hpair,
      hentries, hframe.carry⟩
  case data =>
    intro s h x hup hord hrole hst hfollow
    have hexec : exec (.resyncData h [] [] (some x) []) s = effect true s (s.omdSeq h (.data [] [] (some x) [])) := rfl
    have hu : Touches omdParts s (s.frameTaken h) := State.frameTaken_touches.mono rfl
    have happly := State.omdApply_timeData (s := s.frameTaken h) (State.frameTaken_mirroring hord) hrole hst hfollow x
    refine gives_frame hup hord hexec ?_
    rw [happly]
    exact ⟨State.tookFrame_of hord rfl rfl, rfl, rfl, (hu.set_pair rfl).carry⟩
  case done =>
    intro s h n hup hord hrole hst hoff hcmd
    have hexec : exec (.resyncEnd h n) s = effect true s (s.omdSeq h (.done n)) := rfl
    have happly := State.omdApply_done (s := s.frameTaken h) (State.frameTaken_mirroring hord) hrole hst n
    obtain ⟨ms, hdone⟩ := State.resyncDone_plain (s := s.frameTaken h) hst hoff hcmd
    have hframe : Touches omdParts s ((s.frameTaken h).omdApply (.done n)) := by
      rw [← State.omdSeq_inOrder hord]
      exact State.omdSeq_touches s h _ rfl
    have hpair : ((s.frameTaken h).omdApply (.done n)).pair =
        { ((s.frameTaken h).pairEnter .synced).pair with resyncMs := ms, resyncCmd := none } :=
      (congrArg State.pair (happly.trans hdone) :)
    refine gives_frame hup hord hexec ?_
    generalize (s.frameTaken h).omdApply (.done n) = t at *
    exact ⟨congrArg PairState.rxSeq hpair, congrArg PairState.st hpair, congrArg PairState.mirrorOk hpair,
      (congrArg PairState.role hpair).trans hrole, hframe.carry⟩
  case role =>
    intro s h sec hup hord hrole hst hok
    have hexec : exec (.role h sec) s = effect true s (s.omdSeq h (.role sec)) := rfl
    have hu : Touches [.pair] s (s.frameTaken h) := State.frameTaken_touches
    have happly := State.omdApply_role (s := s.frameTaken h) (State.frameTaken_mirroring hord) hrole hst hok sec
    refine gives_frame hup hord hexec ?_
    rw [happly]
    exact ⟨State.tookFrame_of hord rfl rfl, rfl, (hu.set_pair rfl).carry⟩
  case send =>
    intro s hup hon hrole hst htask hqueue
    have hmirror : ∀ u : State, u.pair.st = .synced → u.mirroring = true := fun u hu => by
      simp only [State.mirroring, hu, decide_true, Bool.true_or]
    obtain ⟨u, hu⟩ : ∃ u : State, u = { s with pair := { s.pair with timeLast := some s.timeStateRec } } := ⟨_, rfl⟩
    have hrun : s.pairStateSend = (u.omdSend (.timeState s.timeStateRec)).omdSend (.cb s.cbRecs) := by
      have hgo : s.pairStateSend = (u.pairDelta (.timeState s.timeStateRec)).pairDelta (.cb s.cbRecs) := by
        rw [State.pairStateSend, hon, hrole, hu]
        rfl
      have hfirst : u.pairDelta (.timeState s.timeStateRec) = u.omdSend (.timeState s.timeStateRec) :=
        State.pairDelta_sends (hmirror u (by rw [hu]; exact hst)) (by rw [hu]; exact htask) (by rw [hu]; exact hqueue)
      rw [hgo, hfirst]
      exact State.pairDelta_sends (hmirror _ (by rw [hu]; exact hst)) (by rw [hu]; exact htask) (by rw [hu]; exact hqueue)
    have hframe : Touches [.pair] s ((u.omdSend (.timeState s.timeStateRec)).omdSend (.cb s.cbRecs)) := by
      have htouch : Touches [.pair] s u := by
        rw [hu]
        exact (Touches.refl _ s).set_pair rfl
      exact (htouch.step (State.omdSend_touches _ _ rfl)).step (State.omdSend_touches _ _ rfl)
    refine gives_effect (congrArg (effect true s) hrun) hup rfl ⟨?_, ?_, hframe.carry⟩
    · rw [hu]
      exact List.append_assoc _ _ _
    · rw [hu]
      exact Nat.mod_add_mod _ _ _
  case age =>
    intro s hup hqueue
    exact gives_effect (congrArg (effect true s) (if_pos hqueue)) hup rfl ⟨rfl, ((Touches.refl [.pair] s).set_pair rfl).carry⟩
  case timeout =>
    intro s w hup hw hstage hmirror hmodify hq
    have hgo : s.pairFlowTimeout = s.flowGrant w := by
      simp only [State.pairFlowTimeout, hw, hstage, if_true]
      refine State.admGo_of_empty ?_
      rw [State.flowGrant_create_sw hmirror hmodify]
      exact hq
    have hrun := hgo.trans (State.flowGrant_create hmirror hmodify)
    have hmade : Touches [.index, .objs, .sw, .fab, .bpm, .fdb] s ((s.withWait none).flowMake w) := by
      have hnone : Touches [.index, .objs, .sw, .fab, .bpm, .fdb] s (s.withWait none) := (Touches.refl _ s).set_sw rfl
      exact hnone.step (State.flowMake_touches _ _ rfl)
    have hframe : Touches (cplParts ++ [Part.index, .objs, .sw, .fab, .bpm, .fdb]) s s.pairFlowTimeout := by
      rw [hrun]
      exact (hmade.mono rfl).step (State.complete_touches _ _ _ _ _ _ _ rfl)
    have hwait : s.pairFlowTimeout.sw.wait = none := by
      rw [hrun, State.complete_sw, State.flowMake_sw hmirror]
      rfl
    have hobj : s.pairFlowTimeout.obj? .flow w.index = some { args := w.desc.objArgs, extra := [] } := by
      rw [hrun, State.complete_obj?]
      exact State.flowMake_obj? hmirror
    have hflow : (s.pairFlowTimeout.flow w.index).bound = w.bound := by
      rw [hrun, State.complete_flow, State.flowMake_flow hmirror]
      rfl
    have hcpl : Completed w.desc 0x0101 .ok (s.handleOf .flow w.index) (boundBytes (some w.bound)) s.pairFlowTimeout := by
      rw [hrun]
      exact State.complete_lastCpl _ _ _ _ _ _ _
    have hexec : exec .pairFlowTimeout s = effect true s s.pairFlowTimeout := rfl
    generalize s.pairFlowTimeout = t at *
    exact gives_effect hexec hup rfl ⟨hwait, hobj, hflow, hcpl, hframe.carry⟩

end Sys2Proof.Machine
end

section
/-! SUPPORT. What keeps the byte memories: `MemKept` says that a step leaves the flash, the bytes of SPAD, the saved
calibration and the straps what they are, `MemSafe` that it keeps their canonical form. Both compose as `Touches` does, and each function of
the model has the one lemma of the two that holds of it. -/

set_option Elab.async false

namespace Sys2Proof.Machine

/-- The flash, the bytes of SPAD, the calibration slots with the save under way and the straps are the same in both states. -/
structure MemKept (s t : State) : Prop where
  spad : t.eng.spad = s.eng.spad
  flash : t.flash = s.flash
  saving : t.cal.saving = s.cal.saving
  slotA : t.cal.slotA = s.cal.slotA
  slotB : t.cal.slotB = s.cal.slotB
  straps : t.boot.straps = s.boot.straps

/-- The byte memories keep their canonical form. -/
structure MemSafe (s t : State) : Prop where
  wf : s.memWf → t.memWf

theorem MemKept.refl (s : State) : MemKept s s := ⟨rfl, rfl, rfl, rfl, rfl, rfl⟩

theorem MemKept.step {s t u : State} (h : MemKept s t) (k : MemKept t u) : MemKept s u :=
  ⟨k.spad.trans h.spad, k.flash.trans h.flash, k.saving.trans h.saving, k.slotA.trans h.slotA, k.slotB.trans h.slotB,
    k.straps.trans h.straps⟩

theorem MemKept.upd {s t u : State} (h : MemKept s t) (hspad : u.eng.spad = t.eng.spad := by rfl)
    (hflash : u.flash = t.flash := by rfl) (hsaving : u.cal.saving = t.cal.saving := by rfl)
    (hslotA : u.cal.slotA = t.cal.slotA := by rfl) (hslotB : u.cal.slotB = t.cal.slotB := by rfl)
    (hstraps : u.boot.straps = t.boot.straps := by rfl) : MemKept s u :=
  h.step ⟨hspad, hflash, hsaving, hslotA, hslotB, hstraps⟩

theorem MemKept.ite {s t u : State} {c : Prop} [Decidable c] (h : MemKept s t) (k : MemKept s u) : MemKept s (if c then t else u) := by
  split <;> assumption

theorem MemKept.foldl {α : Type} {f : State → α → State} (hf : ∀ s x, MemKept s (f s x)) (l : List α) {s t : State}
    (h : MemKept s t) : MemKept s (l.foldl f t) := by
  induction l generalizing t with
  | nil => exact h
  | cons x l ih => exact ih (h.step (hf t x))

theorem MemKept.elim {α : Type} {s t : State} {o : Option α} {f : α → State} (h : MemKept s t) (k : ∀ a, MemKept s (f a)) :
    MemKept s (o.elim t f) := by
  cases o with
  | none => exact h
  | some a => exact k a

theorem MemKept.getD {s t : State} {o : Option State} (h : MemKept s t) (k : ∀ u, o = some u → MemKept s u) :
    MemKept s (o.getD t) := by
  cases o with
  | none => exact h
  | some u => exact k u rfl

theorem MemKept.haveS {s t u : State} (h : MemKept s t) (k : MemKept s t → MemKept s u) : MemKept s u := k h

theorem MemKept.safe {s t : State} (h : MemKept s t) : MemSafe s t := by
  obtain ⟨hspad, hflash, -, -, -, -⟩ := h
  refine ⟨fun hs => ?_⟩
  unfold State.memWf
  rw [hspad, hflash]
  exact hs

theorem MemSafe.refl (s : State) : MemSafe s s := ⟨fun h => h⟩

theorem MemSafe.step {s t u : State} (h : MemSafe s t) (k : MemSafe t u) : MemSafe s u := ⟨fun hs => k.wf (h.wf hs)⟩

theorem MemSafe.upd {s t u : State} (h : MemSafe s t) (hspad : u.eng.spad = t.eng.spad := by rfl)
    (hflash : u.flash = t.flash := by rfl) : MemSafe s u := by
  refine ⟨fun hs => ?_⟩
  unfold State.memWf
  rw [hspad, hflash]
  exact h.wf hs

theorem MemSafe.ite {s t u : State} {c : Prop} [Decidable c] (h : MemSafe s t) (k : MemSafe s u) : MemSafe s (if c then t else u) := by
  split <;> assumption

theorem MemSafe.foldl {α : Type} {f : State → α → State} (hf : ∀ s x, MemSafe s (f s x)) (l : List α) {s t : State}
    (h : MemSafe s t) : MemSafe s (l.foldl f t) := by
  induction l generalizing t with
  | nil => exact h
  | cons x l ih => exact ih (h.step (hf t x))

theorem MemSafe.elim {α : Type} {s t : State} {o : Option α} {f : α → State} (h : MemSafe s t) (k : ∀ a, MemSafe s (f a)) :
    MemSafe s (o.elim t f) := by
  cases o with
  | none => exact h
  | some a => exact k a

theorem MemSafe.getD {s t : State} {o : Option State} (h : MemSafe s t) (k : ∀ u, o = some u → MemSafe s u) :
    MemSafe s (o.getD t) := by
  cases o with
  | none => exact h
  | some u => exact k u rfl

theorem MemSafe.haveS {s t u : State} (h : MemSafe s t) (k : MemSafe s t → MemSafe s u) : MemSafe s u := k h

/-- A write of SPAD's bytes keeps the form when the bytes written do. -/
theorem MemSafe.spad {s t u : State} (h : MemSafe s t) (hspad : Memory.wf 0 t.eng.spad = true → Memory.wf 0 u.eng.spad = true)
    (hflash : u.flash = t.flash := by rfl) : MemSafe s u := by
  refine ⟨fun hs => ?_⟩
  obtain ⟨hw, hf⟩ := h.wf hs
  exact ⟨hspad hw, by rw [hflash]; exact hf⟩

/-- A bank that goes off loses its bytes, another keeps them: the form stays either way. -/
theorem Memory.wf_clear_if {d : Byte} {m : List Host.Cell} (c : Prop) [Decidable c] (lo hi : Nat) (h : Memory.wf d m = true) :
    Memory.wf d (if c then Memory.clear m lo hi else m) = true := by
  split
  · exact Memory.clear_wf _ _ _ _ h
  · exact h

/-- A write of the flash keeps the form when the bytes written do. -/
theorem MemSafe.flash {s t u : State} (h : MemSafe s t)
    (hflash : Memory.wf flashErased t.flash = true → Memory.wf flashErased u.flash = true)
    (hspad : u.eng.spad = t.eng.spad := by rfl) : MemSafe s u := by
  refine ⟨fun hs => ?_⟩
  obtain ⟨hw, hf⟩ := h.wf hs
  exact ⟨by rw [hspad]; exact hw, hflash hf⟩

end Sys2Proof.Machine
end

section
/-! SUPPORT. What each operation of the machine does to the byte memories, part 1 of 10: one lemma for one operation, in the
order of the lemmas that say what it may change. An operation that writes no byte keeps them (`_mem`), one that may write keeps
their form (`_memSafe`). -/

set_option Elab.async false

namespace Sys2Proof.Machine

theorem State.bump_mem (s : State) (f : FieldRef) (i n : Nat) : MemKept s (s.bump f i n) := .upd (.refl s)

theorem State.rcSet_mem (s : State) (f : FieldRef) (v i : Nat) : MemKept s (s.rcSet f v i) := .upd (.refl s)

theorem State.rcClear_mem (s : State) (k : RegKey) (m : Word) : MemKept s (s.rcClear k m) := .upd (.refl s)

theorem State.emit_mem (s : State) (e : Evt) (a0 a1 a2 : Nat) : MemKept s (s.emit e a0 a1 a2) := .upd (.refl s)

theorem State.raise_mem (s : State) (e : Evt) (a0 a1 a2 : Nat) : MemKept s (s.raise e a0 a1 a2) := .upd (.refl s)

theorem State.raiseIf_mem (s : State) (c : Bool) (e : Evt) (a0 a1 a2 : Nat) : MemKept s (s.raiseIf c e a0 a1 a2) := .upd (.refl s)

theorem State.setReady_mem (s : State) (b : Nat) (v : Bool) : MemKept s (s.setReady b v) := .upd (.refl s)

theorem State.keyed_mem (s : State) (p : Path) (a : Nat) (f : State → State) (h : ∀ t, MemKept t (f t)) :
    MemKept s (s.keyed p a f) := by
  unfold State.keyed
  exact .ite ((MemKept.upd (.refl s)).step (h _)) (State.raise_mem _ _ _ _ _)

theorem State.keyed_memSafe (s : State) (p : Path) (a : Nat) (f : State → State) (h : ∀ t, MemSafe t (f t)) :
    MemSafe s (s.keyed p a f) := by
  unfold State.keyed
  exact .ite ((MemSafe.upd (.refl s)).step (h _)) (State.raise_mem _ _ _ _ _).safe

theorem State.putBoth_mem s a1 a2 a3 a4 : MemKept s (State.putBoth s a1 a2 a3 a4) := by
  unfold State.putBoth
  extract_lets -merge -underBinder t0 t1
  clear_value t0
  exact .upd (.refl _)

theorem State.calApply_mem s a1 a2 a3 : MemKept s (State.calApply s a1 a2 a3) := by
  unfold State.calApply
  extract_lets -merge -underBinder t0 t1
  refine .haveS (t := t1) (.upd (.refl _)) fun ht1 => ?_
  clear_value t1
  exact .ite (ht1.step (State.putBoth_mem _ _ _ _ _)) (.ite (ht1.step (State.putBoth_mem _ _ _ _ _)) ht1)

theorem State.calBoundary_mem s a1 a2 : MemKept s (State.calBoundary s a1 a2) := by
  unfold State.calBoundary
  split
  · exact .refl _
  · extract_lets -merge -underBinder t0
    exact (MemKept.upd (.refl _)).step (State.calApply_mem _ _ _ _)

theorem State.calOffer_mem s a1 a2 a3 : MemKept s (State.calOffer s a1 a2 a3) := by
  unfold State.calOffer
  extract_lets -merge -underBinder t0 t1
  refine .haveS (t := t1) (.upd (.refl _)) fun ht1 => ?_
  clear_value t1
  exact .ite (ht1.step (State.calBoundary_mem _ _ _)) ht1

theorem State.calRecompute_mem s a1 a2 : MemKept s (State.calRecompute s a1 a2) := by
  unfold State.calRecompute
  extract_lets -merge -underBinder t0
  clear_value t0
  refine .ite ?_ ?_
  · exact .refl _
  · split
    · exact .refl _
    · exact .ite (.refl _) (State.calOffer_mem _ _ _ _)

theorem State.calRecomputeAll_mem s : MemKept s (State.calRecomputeAll s) := by
  unfold State.calRecomputeAll
  exact .foldl (fun _ _ => State.calRecompute_mem _ _ _) _ (.refl _)

theorem State.setRing_mem s a1 a2 : MemKept s (State.setRing s a1 a2) := by
  unfold State.setRing
  exact .upd (.refl _)

theorem State.slotUse_mem s a1 a2 a3 : MemKept s (State.slotUse s a1 a2 a3) := by
  unfold State.slotUse
  extract_lets -merge -underBinder t0 t1
  refine .haveS (t := t1) (State.setRing_mem _ _ _) fun ht1 => ?_
  clear_value t1
  exact .ite (.upd ht1) (ht1.step (State.bump_mem _ _ _ _))

theorem State.cplPut_mem s a1 a2 a3 : MemKept s (State.cplPut s a1 a2 a3) := by
  unfold State.cplPut
  extract_lets -merge -underBinder t0 t1 t2
  clear_value t0
  refine .haveS (t := t2) (State.setRing_mem _ _ _) fun ht2 => ?_
  clear_value t2
  exact ht2.step (State.slotUse_mem _ _ _ _)

theorem State.unlistedGo_mem (s : State) (n k : Nat) :
    MemKept s (s.unlistedGo n k) := by
  induction k generalizing s with
  | zero => exact .refl _
  | succ k ih =>
    unfold State.unlistedGo
    split
    · exact .refl _
    · refine .ite (.refl _) (MemKept.step ?_ (ih _))
      exact State.cplPut_mem _ _ _ _

theorem State.complete_mem (s : State) (d : CmdDesc) (o : Nat) (st : Status) (h : Word) (r e : List Byte) :
    MemKept s (s.complete d o st h r e) := .upd (.refl s) (hstraps := by
  show BootState.straps (match d.src with | .boot => _ | _ => _) = _
  split
  · split <;> rfl
  · rfl)

theorem State.consumeKey_mem s a1 : MemKept s (State.consumeKey s a1) := by
  unfold State.consumeKey
  extract_lets -merge -underBinder t0
  exact .upd (.refl _)

theorem State.checked_memSafe (s : State) (d : CmdDesc) (o : Nat) (c : Checks) (f : State → State) (h : ∀ t, MemSafe t (f t)) :
    MemSafe s (s.checked d o c f) := by
  unfold State.checked
  have hk : ∀ (c : Prop) [Decidable c], MemKept s (if c then s.consumeKey d.src.path else s) := fun c _ =>
    .ite (State.consumeKey_mem _ _) (.refl _)
  split
  · exact ((hk _).step (State.complete_mem _ _ _ _ _ _ _)).safe
  · exact (hk _).safe.step (h _)

theorem State.checked_mem (s : State) (d : CmdDesc) (o : Nat) (c : Checks) (f : State → State) (h : ∀ t, MemKept t (f t)) :
    MemKept s (s.checked d o c f) := by
  unfold State.checked
  have hk : ∀ (c : Prop) [Decidable c], MemKept s (if c then s.consumeKey d.src.path else s) := fun c _ =>
    MemKept.ite (State.consumeKey_mem _ _) (.refl _)
  split
  · exact (hk _).step (State.complete_mem _ _ _ _ _ _ _)
  · exact (hk _).step (h _)

theorem State.vddWrite_mem s a1 : MemKept s (State.vddWrite s a1) := by
  unfold State.vddWrite
  extract_lets -merge -underBinder t0
  exact .upd (.refl _)

theorem State.vddRaise_mem s : MemKept s (State.vddRaise s) := by
  unfold State.vddRaise
  exact .ite (State.vddWrite_mem _ _) (.refl _)

theorem State.omdSend_mem s a1 : MemKept s (State.omdSend s a1) := by
  unfold State.omdSend
  extract_lets -merge -underBinder t0
  exact .upd (.refl _)

theorem State.pairDelta_mem s a1 : MemKept s (State.pairDelta s a1) := by
  unfold State.pairDelta
  extract_lets -merge -underBinder t0 t1 t2
  refine .haveS (t := t1) ((State.bump_mem _ _ _ _).step (State.raiseIf_mem _ _ _ _ _ _)) fun ht1 => ?_
  clear_value t1
  exact .ite (.refl _) (.ite (State.omdSend_mem _ _) (.ite (.upd (.refl _)) (.upd ht1)))

theorem State.setPort_mem s a1 a2 : MemKept s (State.setPort s a1 a2) := by
  unfold State.setPort
  extract_lets -merge -underBinder t0
  exact .upd (.refl _)

theorem State.xoffUpdate_mem s : MemKept s (State.xoffUpdate s) := by
  unfold State.xoffUpdate
  extract_lets -merge -underBinder t0
  refine .haveS (t := t0) ?_ fun ht0 => ?_
  · unfold t0
    refine .foldl (fun _ _ => ?_) _ (.refl _)
    extract_lets -merge -underBinder t1
    exact .ite (.refl _) (State.setPort_mem _ _ _)
  clear_value t0
  refine .foldl (fun _ _ => ?_) _ ht0
  extract_lets -merge -underBinder t2 t3
  clear_value t2 t3
  exact .ite (.refl _) (.ite (.refl _) (State.setPort_mem _ _ _))

theorem State.setReq_mem s a1 a2 : MemKept s (State.setReq s a1 a2) := by
  unfold State.setReq
  extract_lets -merge -underBinder t0
  exact .upd (.refl _)

theorem State.causesClear_mem s : MemKept s (State.causesClear s) := by
  unfold State.causesClear
  refine .foldl (fun _ _ => ?_) _ (.refl _)
  extract_lets -merge -underBinder t0 t1 t2
  clear_value t0 t1 t2
  exact State.setReq_mem _ _ _

theorem State.rsvChanged_mem s : MemKept s (State.rsvChanged s) := by
  unfold State.rsvChanged
  exact (State.causesClear_mem _).step (State.xoffUpdate_mem _)

theorem State.setFlow_mem s a1 a2 : MemKept s (State.setFlow s a1 a2) := by
  unfold State.setFlow
  extract_lets -merge -underBinder t0
  exact .upd (.refl _)

theorem State.setObj_mem s a1 a2 a3 : MemKept s (State.setObj s a1 a2 a3) := by
  unfold State.setObj
  exact .upd (.refl _)

theorem State.setPool_mem s a1 a2 : MemKept s (State.setPool s a1 a2) := by
  unfold State.setPool
  extract_lets -merge -underBinder t0
  exact .upd (.refl _)

theorem State.addRsv_mem s a1 a2 : MemKept s (State.addRsv s a1 a2) := by
  unfold State.addRsv
  extract_lets -merge -underBinder t0
  exact .ite (State.setPool_mem _ _ _) (.refl _)

theorem State.flowChange_mem s a1 : MemKept s (State.flowChange s a1) := by
  unfold State.flowChange
  extract_lets -merge -underBinder t0 t1 t2
  clear_value t0 t1 t2
  exact ((((State.addRsv_mem _ _ _).step (State.addRsv_mem _ _ _)).step (State.setObj_mem _ _ _ _)).step (State.setFlow_mem _ _ _)).step
      (State.rsvChanged_mem _)

theorem State.addNamed_mem s a1 a2 a3 a4 : MemKept s (State.addNamed s a1 a2 a3 a4) := by
  unfold State.addNamed
  extract_lets -merge -underBinder t0
  clear_value t0
  exact .upd (.refl _)

theorem State.addObj_mem s a1 a2 a3 : MemKept s (State.addObj s a1 a2 a3) := by
  unfold State.addObj
  exact .upd (.refl _)

theorem State.flowMake_mem s a1 : MemKept s (State.flowMake s a1) := by
  unfold State.flowMake
  extract_lets -merge -underBinder t0 t1 t2 t3 t4 t5
  clear_value t0 t1
  refine .haveS (t := t2) (.ite (State.addNamed_mem _ _ _ _ _) (State.addObj_mem _ _ _ _)) fun ht2 => ?_
  clear_value t2
  refine .haveS (t := t3) (ht2.step (State.setFlow_mem _ _ _)) fun ht3 => ?_
  clear_value t3
  refine .haveS (t := t4) (ht3.step (State.addRsv_mem _ _ _)) fun ht4 => ?_
  clear_value t4
  exact (MemKept.upd ht4).step (State.rsvChanged_mem _)

theorem State.flowGrant_mem s a1 : MemKept s (State.flowGrant s a1) := by
  unfold State.flowGrant
  extract_lets -merge -underBinder t0 t1 t2
  refine .haveS (t := t1) (.upd (.refl _)) fun ht1 => ?_
  clear_value t1
  refine .haveS (t := t2) (.ite (ht1.step (State.flowChange_mem _ _)) (ht1.step (State.flowMake_mem _ _))) fun ht2 => ?_
  clear_value t2
  exact .ite (ht2.step (State.pairDelta_mem _ _)) (ht2.step (State.complete_mem _ _ _ _ _ _ _))

theorem State.flowLocal_mem s a1 : MemKept s (State.flowLocal s a1) := by
  unfold State.flowLocal
  extract_lets -merge -underBinder t0 t1
  refine .haveS (t := t1) (.upd (.refl _)) fun ht1 => ?_
  clear_value t1
  exact .ite (ht1.step (State.pairDelta_mem _ _)) (State.flowGrant_mem _ _)

theorem State.flowRate_mem s a1 : MemKept s (State.flowRate s a1) := by
  unfold State.flowRate
  extract_lets -merge -underBinder t0 t1
  refine .haveS (t := t1) (.upd (.refl _)) fun ht1 => ?_
  clear_value t1
  exact .ite (ht1.step (State.vddRaise_mem _)) (ht1.step (State.flowLocal_mem _ _))

theorem State.flowDecide_mem s a1 a2 a3 : MemKept s (State.flowDecide s a1 a2 a3) := by
  unfold State.flowDecide
  extract_lets -merge -underBinder t0 t1 t2 t3
  clear_value t0 t1 t2 t3
  refine .ite ?_ ?_
  · exact State.complete_mem _ _ _ _ _ _ _
  · refine .ite ?_ ?_
    · exact State.complete_mem _ _ _ _ _ _ _
    · refine .ite ?_ ?_
      · exact State.complete_mem _ _ _ _ _ _ _
      · refine .ite ?_ ?_
        · exact State.complete_mem _ _ _ _ _ _ _
        · split
          · exact State.complete_mem _ _ _ _ _ _ _
          · exact .ite (State.complete_mem _ _ _ _ _ _ _) (State.flowRate_mem _ _)

theorem State.flowCreateNow_mem s a1 : MemKept s (State.flowCreateNow s a1) := by
  unfold State.flowCreateNow
  refine State.checked_mem _ _ _ _ _ (fun _ => ?_)
  split
  · exact State.complete_mem _ _ _ _ _ _ _
  · exact .ite (State.complete_mem _ _ _ _ _ _ _) (State.flowDecide_mem _ _ _ _)

theorem State.waitDrain_mem s a1 a2 a3 a4 : MemKept s (State.waitDrain s a1 a2 a3 a4) := by
  unfold State.waitDrain
  extract_lets -merge -underBinder t0
  exact State.setObj_mem _ _ _ _

theorem State.namedGo_mem (s : State) (t : ObjType) (v : Nat) (d : CmdDesc) (o : Nat) (c : Checks) (f : State → State)
    (h : ∀ t, MemKept t (f t)) : MemKept s (s.namedGo t v d o c f) := by
  unfold State.namedGo
  split
  · exact State.waitDrain_mem _ _ _ _ _
  · exact State.checked_mem _ _ _ _ _ h

theorem State.flowModifyNow_mem s a1 : MemKept s (State.flowModifyNow s a1) := by
  unfold State.flowModifyNow
  extract_lets -merge -underBinder t0 t1 t2
  clear_value t0 t1 t2
  exact State.namedGo_mem _ _ _ _ _ _ _ (fun _ => .ite (State.complete_mem _ _ _ _ _ _ _) (State.flowDecide_mem _ _ _ _))

theorem State.tick_mem s : MemKept s (State.tick s) := by
  unfold State.tick
  exact .upd (.refl _)

theorem State.boundQueryNow_mem s a1 : MemKept s (State.boundQueryNow s a1) := by
  unfold State.boundQueryNow
  extract_lets -merge -underBinder t0
  clear_value t0
  refine State.checked_mem _ _ _ _ _ (fun _ => ?_)
  extract_lets -merge -underBinder t1
  clear_value t1
  split
  · exact State.complete_mem _ _ _ _ _ _ _
  · exact (State.tick_mem _).step (State.complete_mem _ _ _ _ _ _ _)

theorem State.flowRefuse_mem s a1 a2 : MemKept s (State.flowRefuse s a1 a2) := by
  unfold State.flowRefuse
  extract_lets -merge -underBinder t0 t1
  refine .haveS (t := t1) (.upd (.refl _)) fun ht1 => ?_
  clear_value t1
  exact .ite (ht1.step (State.pairDelta_mem _ _)) (ht1.step (State.complete_mem _ _ _ _ _ _ _))

theorem State.flowMirrored_mem s a1 : MemKept s (State.flowMirrored s a1) := by
  unfold State.flowMirrored
  extract_lets -merge -underBinder t0 t1 t2 t3 t4 t5 t6 t7 t8 t9 t10
  clear_value t0 t1 t2 t3 t4 t5 t6 t7 t8 t9 t10
  exact .ite (State.flowRefuse_mem _ _ _) (.ite (State.flowRefuse_mem _ _ _) (.ite (State.flowRefuse_mem _ _ _) (State.flowRate_mem _ _)))

theorem State.drainDone_mem s a1 a2 a3 a4 : MemKept s (State.drainDone s a1 a2 a3 a4) := by
  unfold State.drainDone
  exact (State.raiseIf_mem _ _ _ _ _ _).step (State.complete_mem _ _ _ _ _ _ _)

theorem State.dropObj_mem s a1 a2 : MemKept s (State.dropObj s a1 a2) := by
  unfold State.dropObj
  extract_lets -merge -underBinder t0
  clear_value t0
  exact .upd (.refl _)

theorem State.flowDrop_mem s a1 : MemKept s (State.flowDrop s a1) := by
  unfold State.flowDrop
  extract_lets -merge -underBinder t0 t1 t2 t3 t4
  clear_value t0
  refine .haveS (t := t1) (State.addRsv_mem _ _ _) fun ht1 => ?_
  clear_value t1
  exact (MemKept.upd ht1).step (State.rsvChanged_mem _)

theorem State.flowEnd_mem s a1 a2 a3 : MemKept s (State.flowEnd s a1 a2 a3) := by
  unfold State.flowEnd
  extract_lets -merge -underBinder t0 t1 t2
  clear_value t0
  refine .haveS (t := t1) (State.drainDone_mem _ _ _ _ _) fun ht1 => ?_
  clear_value t1 t2
  exact .ite (((ht1.step (State.flowDrop_mem _ _)).step (State.dropObj_mem _ _ _)).step (State.pairDelta_mem _ _)) ((ht1.step
      (State.setObj_mem _ _ _ _)).step (State.pairDelta_mem _ _))

theorem State.countAnswer_mem s a1 a2 : MemKept s (State.countAnswer s a1 a2) := by
  unfold State.countAnswer
  exact .ite (State.bump_mem _ _ _ _) (.ite (State.bump_mem _ _ _ _) (.refl _))

theorem State.takeBuf_mem (s : State) (p r : Nat) (hr : Bool) (flow : Option Nat) {b : Nat} {t : State}
    (h : s.takeBuf p r hr flow = some (b, t)) : MemKept s t := by
  unfold State.takeBuf at h
  split at h
  · cases h
  · extract_lets x b' q s1 _ s2 at h
    have h1 : MemKept s s1 := .ite (.refl _) (.ite (State.setPool_mem _ _ _) (State.setPool_mem _ _ _))
    have h2 : MemKept s s2 := by
      unfold s2
      split
      · exact .upd h1
      · exact h1.step (State.setReq_mem _ _ _)
    simp only [Option.some.injEq, Prod.mk.injEq] at h
    rw [← h.2]
    exact .upd h2

theorem State.engRequest_mem (s : State) (len : Nat) :
    MemKept s (s.engRequest len).1 := by
  unfold State.engRequest
  extract_lets n a s1
  have h1 : MemKept s s1 := State.countAnswer_mem _ _ _
  split
  · refine .foldl (fun u _ => ?_) _ h1
    split
    · next ht => exact State.takeBuf_mem u _ _ _ _ ht
    · exact .refl _
  · exact h1

theorem State.bpmEngine_mem (s : State) (len : Nat) :
    MemKept s (s.bpmEngine len) := by
  unfold State.bpmEngine
  extract_lets t
  have ht : MemKept s t.1 := State.engRequest_mem _ _
  exact .ite ht (.upd ht)

theorem State.engRetry_mem s : MemKept s (State.engRetry s) := by
  unfold State.engRetry
  extract_lets -merge -underBinder t0
  exact .foldl (fun _ _ => State.bpmEngine_mem _ _) _ (.upd (.refl _))

theorem State.afterFree_mem s : MemKept s (State.afterFree s) := by
  unfold State.afterFree
  exact ((State.causesClear_mem _).step (State.engRetry_mem _)).step (State.xoffUpdate_mem _)

theorem State.tagPush_mem s a1 : MemKept s (State.tagPush s a1) := by
  unfold State.tagPush
  extract_lets -merge -underBinder t0 t1 t2
  refine .haveS (t := t1) (State.bump_mem _ _ _ _) fun ht1 => ?_
  clear_value t1
  exact .ite (.upd (.refl _)) (.ite ht1 (.upd ht1))

theorem State.tagCopy_mem s a1 a2 : MemKept s (State.tagCopy s a1 a2) := by
  unfold State.tagCopy
  split
  · extract_lets -merge -underBinder t0 t1 t2
    clear_value t0 t1 t2
    exact (MemKept.upd (.refl _)).step (State.tagPush_mem _ _)
  · exact .refl _

theorem State.hostResume_mem s : MemKept s (State.hostResume s) := by
  unfold State.hostResume
  extract_lets -merge -underBinder t0
  clear_value t0
  exact .ite (State.setReq_mem _ _ _) (.refl _)

theorem State.returnBuf_mem s a1 a2 : MemKept s (State.returnBuf s a1 a2) := by
  unfold State.returnBuf
  extract_lets -merge -underBinder t0 t1 t2 t3 t4 t5
  clear_value t0 t1 t2
  refine .haveS (t := t3) ?_ fun ht3 => ?_
  · unfold t3
    split
    · extract_lets -merge -underBinder t6
      exact .upd (.refl _)
    · exact State.setReq_mem _ _ _
  clear_value t3
  refine .haveS (t := t5) ((MemKept.upd ht3).step (State.hostResume_mem _)) fun ht5 => ?_
  clear_value t5
  split
  · extract_lets -merge -underBinder t7 t8
    exact .ite (.ite ht5 (ht5.step (State.setPool_mem _ _ _))) (.upd ht5)
  · extract_lets -merge -underBinder t9
    exact .ite ht5 (ht5.step (State.setPool_mem _ _ _))

theorem State.freeBuf_mem (s : State) (b r : Nat) :
    MemKept s (s.freeBuf b r).1 := by
  unfold State.freeBuf
  split
  · exact (State.bump_mem _ _ _ _).step (State.raise_mem _ _ _ _ _)
  · split
    · exact (State.bump_mem _ _ _ _).step (State.raise_mem _ _ _ _ _)
    · split
      · extract_lets _ t
        have ht : MemKept s t := State.setPool_mem _ _ _
        exact .upd ht
      · exact State.returnBuf_mem _ _ _

theorem State.setQueue_mem s a1 a2 a3 : MemKept s (State.setQueue s a1 a2 a3) := by
  unfold State.setQueue
  extract_lets -merge -underBinder t0
  exact State.setPort_mem _ _ _

theorem State.unqueue_mem s a1 : MemKept s (State.unqueue s a1) := by
  unfold State.unqueue
  split
  · exact .refl _
  · extract_lets -merge -underBinder t0 t1 t2
    clear_value t0
    refine .haveS (t := t1) (State.setQueue_mem _ _ _ _) fun ht1 => ?_
    clear_value t1 t2
    exact ht1.step (State.setPort_mem _ _ _)

theorem State.frameGone_mem s a1 : MemKept s (State.frameGone s a1) := by
  unfold State.frameGone
  split
  · exact .refl _
  · extract_lets -merge -underBinder t0 t1
    exact .ite (.upd (.refl _)) (.refl _)

theorem State.removeCopy_mem s a1 : MemKept s (State.removeCopy s a1) := by
  unfold State.removeCopy
  split
  · exact .refl _
  · extract_lets -merge -underBinder t0 t1 t2
    refine .haveS (t := t0) (.ite (.refl _) (State.tagCopy_mem _ _ _)) fun ht0 => ?_
    clear_value t0
    refine .haveS (t := t1) (.foldl (fun _ _ => State.freeBuf_mem _ _ _) _ (ht0.step (State.unqueue_mem _ _))) fun ht1 => ?_
    clear_value t1
    exact (MemKept.upd ht1).step (State.frameGone_mem _ _)

theorem State.tsRecord_mem s a1 a2 a3 a4 : MemKept s (State.tsRecord s a1 a2 a3 a4) := by
  unfold State.tsRecord
  exact State.slotUse_mem _ _ _ _

theorem State.tsLost_mem (s : State) (x : Copy) (o : Nat) : MemKept s (s.tsLost x o) := by
  unfold State.tsLost
  exact .elim (.refl _) (fun q => State.tsRecord_mem _ _ _ _ _)

theorem State.flushCopies_mem s a1 a2 : MemKept s (State.flushCopies s a1 a2) := by
  unfold State.flushCopies
  refine .foldl (fun _ _ => ?_) _ (.refl _)
  split
  · exact (State.tsLost_mem _ _ _).step (State.removeCopy_mem _ _)
  · exact .refl _

theorem State.flowAbort_mem s a1 : MemKept s (State.flowAbort s a1) := by
  unfold State.flowAbort
  exact (MemKept.foldl (fun _ _ => State.flushCopies_mem _ _ _) _ (.refl _)).step (State.afterFree_mem _)

theorem State.flowDrainNow_mem s a1 a2 : MemKept s (State.flowDrainNow s a1 a2) := by
  unfold State.flowDrainNow
  extract_lets -merge -underBinder t0 t1
  clear_value t0 t1
  refine State.namedGo_mem _ _ _ _ _ _ _ (fun _ => ?_)
  extract_lets -merge -underBinder t2 t3 t4 t5
  clear_value t2 t3 t4
  refine .haveS (t := t5) (State.setObj_mem _ _ _ _) fun ht5 => ?_
  clear_value t5
  exact .ite (State.complete_mem _ _ _ _ _ _ _) (.ite (State.complete_mem _ _ _ _ _ _ _) (.ite (ht5.step (State.flowEnd_mem _ _ _ _)) (.ite
      ((ht5.step (State.flowAbort_mem _ _)).step (State.flowEnd_mem _ _ _ _)) ht5)))

theorem State.flowResume_mem s a1 : MemKept s (State.flowResume s a1) := by
  unfold State.flowResume
  extract_lets -merge -underBinder t0
  clear_value t0
  exact State.setFlow_mem _ _ _

theorem State.flowEnableNow_mem s a1 : MemKept s (State.flowEnableNow s a1) := by
  unfold State.flowEnableNow
  extract_lets -merge -underBinder t0
  clear_value t0
  refine State.namedGo_mem _ _ _ _ _ _ _ (fun _ => ?_)
  extract_lets -merge -underBinder t1
  clear_value t1
  refine .ite ?_ ?_
  · exact State.complete_mem _ _ _ _ _ _ _
  · split
    · extract_lets -merge -underBinder t2
      refine .haveS (t := t2) ((State.setObj_mem _ _ _ _).step (State.flowResume_mem _ _)) fun ht2 => ?_
      clear_value t2
      exact (ht2.step (State.pairDelta_mem _ _)).step (State.complete_mem _ _ _ _ _ _ _)
    · exact State.complete_mem _ _ _ _ _ _ _

theorem State.revertBits_mem s a1 a2 : MemKept s (State.revertBits s a1 a2) := by
  unfold State.revertBits
  extract_lets -merge -underBinder t0
  exact .upd (.refl _)

theorem State.capCheck_mem (r s t : State) (k : RegKey) (m : Word)
    (hs : MemKept r s) (ht : MemKept r t) : MemKept r (s.capCheck t k m) := by
  unfold State.capCheck
  split
  · exact (hs.step (State.revertBits_mem _ _ _)).step (State.raise_mem _ _ _ _ _)
  · exact ht

end Sys2Proof.Machine
end

section
/-! SUPPORT. What each operation of the machine does to the byte memories, part 2 of 10: one lemma for one operation, in the
order of the lemmas that say what it may change. An operation that writes no byte keeps them (`_mem`), one that may write keeps
their form (`_memSafe`). -/

set_option Elab.async false

namespace Sys2Proof.Machine

theorem State.copyBits_mem s a1 a2 : MemKept s (State.copyBits s a1 a2) := by
  unfold State.copyBits
  extract_lets -merge -underBinder t0
  exact .upd (.refl _)

theorem State.capWord_mem (s : State) (k : RegKey) : MemKept s (s.capWord k) := by
  unfold State.capWord
  extract_lets m t
  refine .ite (.refl _) ?_
  have ht : MemKept s t :=
    State.capCheck_mem _ _ _ _ _ (.refl _)
      (State.copyBits_mem _ _ _)
  clear_value t
  exact .upd ht

theorem State.gclSetNow_mem s a1 : MemKept s (State.gclSetNow s a1) := by
  unfold State.gclSetNow
  extract_lets -merge -underBinder t0 t1 t2 t3 t4 t5 t6
  clear_value t0 t1 t2 t3 t4 t5 t6
  refine State.checked_mem _ _ _ _ _ (fun _ => ?_)
  extract_lets -merge -underBinder t7 t8 t9 t10 t11
  clear_value t7 t8 t9
  refine .haveS (t := t11) (State.setPort_mem _ _ _) fun ht11 => ?_
  clear_value t11
  split
  · exact State.complete_mem _ _ _ _ _ _ _
  · exact ht11.step (State.complete_mem _ _ _ _ _ _ _)

theorem State.admRun_mem (s : State) (w : AdmWait) : MemKept s (s.admRun w) := by
  unfold State.admRun
  split
  · exact State.flowCreateNow_mem _ _
  · exact State.flowModifyNow_mem _ _
  · exact State.boundQueryNow_mem _ _
  · exact State.flowMirrored_mem _ _
  · exact State.flowDrainNow_mem _ _ _
  · exact State.flowDrainNow_mem _ _ _
  · exact State.flowEnableNow_mem _ _
  · exact .elim (.refl _) (fun k => State.capWord_mem _ _)
  · exact State.gclSetNow_mem _ _

theorem State.admNext_mem s a1 a2 : MemKept s (State.admNext s a1 a2) := by
  unfold State.admNext
  extract_lets -merge -underBinder t0
  exact .ite (.upd (.refl _)) (State.admRun_mem _ _)

theorem State.flowNext_mem s a1 a2 : MemKept s (State.flowNext s a1 a2) := by
  unfold State.flowNext
  extract_lets -merge -underBinder t0
  clear_value t0
  exact .ite (State.admNext_mem _ _ _) (State.admRun_mem _ _)

theorem State.startCmd_mem (s : State) (d : CmdDesc) :
    MemKept s (s.startCmd d) := by
  unfold State.startCmd
  split
  · extract_lets r i s1
    have h1 : MemKept s s1 := State.setRing_mem _ _ _
    exact (MemKept.upd h1).step (State.unlistedGo_mem _ _ _)
  · exact .refl _

theorem State.flowTake_mem s a1 a2 a3 : MemKept s (State.flowTake s a1 a2 a3) := by
  unfold State.flowTake
  exact .ite (.refl _) ((State.startCmd_mem _ _).step (State.flowNext_mem _ _ _))

theorem State.runNamed_mem (s : State) (again : Bool) (t : ObjType) (v : Nat) (d : CmdDesc) (o : Nat) (c : Checks)
    (f : State → State) (h : ∀ t, MemKept t (f t)) :
    MemKept s (s.runNamed again t v d o c f) := by
  unfold State.runNamed
  refine .ite (State.namedGo_mem _ _ _ _ _ _ _ h) (.ite (.refl _) ?_)
  exact (State.startCmd_mem _ _).step (State.namedGo_mem _ _ _ _ _ _ _ h)

theorem State.calRelease_mem s a1 a2 : MemKept s (State.calRelease s a1 a2) := by
  unfold State.calRelease
  extract_lets -merge -underBinder t0 t1
  exact .ite (.upd (.refl _)) (.refl _)

theorem State.calFinish_mem s a1 a2 a3 : MemKept s (State.calFinish s a1 a2 a3) := by
  unfold State.calFinish
  extract_lets -merge -underBinder t0 t1 t2 t3
  clear_value t0
  refine .haveS (t := t2) (.upd (.refl _)) fun ht2 => ?_
  clear_value t2
  refine .haveS (t := t3) (.ite (ht2.step (State.bump_mem _ _ _ _)) ht2) fun ht3 => ?_
  clear_value t3
  exact (ht3.step (State.raise_mem _ _ _ _ _)).step (State.calRelease_mem _ _ _)

theorem State.calCheckLost_mem s a1 : MemKept s (State.calCheckLost s a1) := by
  unfold State.calCheckLost
  exact .ite (State.calFinish_mem _ _ _ _) (.refl _)

theorem State.setPair_mem s a1 a2 : MemKept s (State.setPair s a1 a2) := by
  unfold State.setPair
  extract_lets -merge -underBinder t0
  exact .upd (.refl _)

theorem State.pairEval_mem s a1 a2 : MemKept s (State.pairEval s a1 a2) := by
  unfold State.pairEval
  extract_lets -merge -underBinder t0 t1 t2 t3 t4
  clear_value t0 t1 t2
  refine .haveS (t := t4) (.upd (.refl _)) fun ht4 => ?_
  clear_value t4
  exact .ite (.ite (.refl _) (State.setPair_mem _ _ _)) (ht4.step (State.raiseIf_mem _ _ _ _ _ _))

theorem State.planBEval_mem s a1 : MemKept s (State.planBEval s a1) := by
  unfold State.planBEval
  extract_lets -merge -underBinder t0
  clear_value t0
  exact State.raiseIf_mem _ _ _ _ _ _

theorem State.pairsEval_mem s a1 : MemKept s (State.pairsEval s a1) := by
  unfold State.pairsEval
  extract_lets -merge -underBinder t0
  refine .haveS (t := t0) (.foldl (fun _ _ => State.pairEval_mem _ _ _) _ (.refl _)) fun ht0 => ?_
  clear_value t0
  exact .ite (.foldl (fun _ _ => State.planBEval_mem _ _) _ ht0) ht0

theorem State.setLnk_mem s a1 a2 : MemKept s (State.setLnk s a1 a2) := by
  unfold State.setLnk
  extract_lets -merge -underBinder t0
  exact .upd (.refl _)

theorem State.calLose_mem s a1 : MemKept s (State.calLose s a1) := by
  unfold State.calLose
  exact .foldl (fun _ _ => State.calFinish_mem _ _ _ _) _ (.refl _)

theorem State.pairHold_mem s a1 : MemKept s (State.pairHold s a1) := by
  unfold State.pairHold
  extract_lets -merge -underBinder t0 t1 t2 t3
  clear_value t0
  refine .haveS (t := t1) (State.calLose_mem _ _) fun ht1 => ?_
  clear_value t1
  refine .haveS (t := t2) ((ht1.step (State.setPair_mem _ _ _)).step (State.raise_mem _ _ _ _ _)) fun ht2 => ?_
  clear_value t2
  exact .ite (.refl _) (.ite ((ht2.step (State.setPair_mem _ _ _)).step (State.raise_mem _ _ _ _ _)) ht2)

theorem State.lnkGo_mem s a1 a2 a3 : MemKept s (State.lnkGo s a1 a2 a3) := by
  unfold State.lnkGo
  extract_lets -merge -underBinder t0 t1 t2
  clear_value t0 t1
  refine .haveS (t := t2) ((State.setLnk_mem _ _ _).step (State.raiseIf_mem _ _ _ _ _ _)) fun ht2 => ?_
  clear_value t2
  refine .ite ?_ ?_
  · split
    · exact ht2.step (State.pairHold_mem _ _)
    · exact ht2
  · exact ht2

theorem State.lnkEval_mem s a1 : MemKept s (State.lnkEval s a1) := by
  unfold State.lnkEval
  extract_lets -merge -underBinder t0 t1
  clear_value t0 t1
  exact .ite (.ite (State.setLnk_mem _ _ _) ((State.setLnk_mem _ _ _).step (State.lnkGo_mem _ _ _ _))) (.ite (State.lnkGo_mem _ _ _ _) (.ite
      (State.lnkGo_mem _ _ _ _) (.refl _)))

theorem State.chansChanged_mem s a1 : MemKept s (State.chansChanged s a1) := by
  unfold State.chansChanged
  exact (State.lnkEval_mem _ _).step (State.pairsEval_mem _ _)

theorem State.setTchan_mem s a1 a2 : MemKept s (State.setTchan s a1 a2) := by
  unfold State.setTchan
  exact .upd (.refl _)

theorem State.timeStateOut_mem s : MemKept s (State.timeStateOut s) := by
  unfold State.timeStateOut
  extract_lets -merge -underBinder t0 t1
  clear_value t0
  exact .ite (.refl _) ((MemKept.upd (.refl _)).step (State.pairDelta_mem _ _))

theorem State.cycFold_mem s : MemKept s (State.cycFold s) := by
  unfold State.cycFold
  extract_lets -merge -underBinder t0
  exact .upd (.refl _)

theorem State.setPll_mem s a1 a2 : MemKept s (State.setPll s a1 a2) := by
  unfold State.setPll
  extract_lets -merge -underBinder t0
  exact .upd (.refl _)

theorem State.goPll_mem s a1 a2 : MemKept s (State.goPll s a1 a2) := by
  unfold State.goPll
  extract_lets -merge -underBinder t0
  clear_value t0
  exact (State.setPll_mem _ _ _).step (State.raiseIf_mem _ _ _ _ _ _)

theorem State.pllToBypass_mem s a1 a2 a3 : MemKept s (State.pllToBypass s a1 a2 a3) := by
  unfold State.pllToBypass
  extract_lets -merge -underBinder t0 t1 t2 t3
  refine .haveS (t := t0) (.ite (State.cycFold_mem _) (.refl _)) fun ht0 => ?_
  clear_value t0 t1
  refine .haveS (t := t2) (ht0.step (State.setPll_mem _ _ _)) fun ht2 => ?_
  clear_value t2
  refine .haveS (t := t3) ((ht2.step (State.bump_mem _ _ _ _)).step (State.bump_mem _ _ _ _)) fun ht3 => ?_
  clear_value t3
  exact (ht3.step (State.goPll_mem _ _ _)).step (State.raise_mem _ _ _ _ _)

theorem State.pllInputLost_mem s a1 : MemKept s (State.pllInputLost s a1) := by
  unfold State.pllInputLost
  refine .foldl (fun _ _ => ?_) _ (.refl _)
  extract_lets -merge -underBinder t0
  clear_value t0
  exact .ite (.refl _) (.ite (State.pllToBypass_mem _ _ _ _) (.ite (State.setPll_mem _ _ _) (.refl _)))

theorem State.setCandSt_mem s a1 a2 a3 : MemKept s (State.setCandSt s a1 a2 a3) := by
  unfold State.setCandSt
  extract_lets -merge -underBinder t0 t1 t2 t3 t4
  clear_value t0 t1
  refine .haveS (t := t2) (State.raiseIf_mem _ _ _ _ _ _) fun ht2 => ?_
  clear_value t2
  refine .haveS (t := t4) (.upd ht2) fun ht4 => ?_
  clear_value t4
  exact .ite (ht4.step (State.pllInputLost_mem _ _)) ht4

theorem State.setChanSt_mem s a1 a2 : MemKept s (State.setChanSt s a1 a2) := by
  unfold State.setChanSt
  extract_lets -merge -underBinder t0 t1 t2
  clear_value t0 t1
  refine .haveS (t := t2) (State.raiseIf_mem _ _ _ _ _ _) fun ht2 => ?_
  clear_value t2
  exact .upd ht2

theorem State.markSel_mem s a1 a2 : MemKept s (State.markSel s a1 a2) := by
  unfold State.markSel
  split
  · exact .refl _
  · extract_lets -merge -underBinder t0 t1 t2
    clear_value t0
    refine .haveS (t := t1) (State.setCandSt_mem _ _ _ _) fun ht1 => ?_
    clear_value t1
    refine .haveS (t := t2) (.ite (State.setCandSt_mem _ _ _ _) (.ite (State.setCandSt_mem _ _ _ _) (.refl _))) fun ht2 => ?_
    clear_value t2
    exact .ite (.ite (ht1.step (State.setChanSt_mem _ _ _)) ht1) (.ite (ht2.step (State.setChanSt_mem _ _ _)) ht2)

theorem State.setRate_mem s a1 : MemKept s (State.setRate s a1) := by
  unfold State.setRate
  extract_lets -merge -underBinder t0
  exact .upd (.refl _)

theorem State.freerunRate_mem s : MemKept s (State.freerunRate s) := by
  unfold State.freerunRate
  exact .ite (State.setRate_mem _ _) (.refl _)

theorem State.setQuality_mem s a1 : MemKept s (State.setQuality s a1) := by
  unfold State.setQuality
  extract_lets -merge -underBinder t0 t1
  refine .haveS (t := t0) (State.raiseIf_mem _ _ _ _ _ _) fun ht0 => ?_
  clear_value t0
  exact .upd ht0

theorem State.updateClass_mem s : MemKept s (State.updateClass s) := by
  unfold State.updateClass
  exact .ite (.refl _) ((State.setQuality_mem _ _).step (State.timeStateOut_mem _))

theorem State.selectF_mem s a1 : MemKept s (State.selectF s a1) := by
  unfold State.selectF
  extract_lets -merge -underBinder t0 t1 t2 t3 t4
  clear_value t0
  refine .haveS (t := t1) (State.markSel_mem _ _ _) fun ht1 => ?_
  clear_value t1
  refine .haveS (t := t3) (.upd ht1) fun ht3 => ?_
  clear_value t3
  refine .haveS (t := t4) (ht3.step (State.markSel_mem _ _ _)) fun ht4 => ?_
  clear_value t4
  exact ((ht4.step (State.raise_mem _ _ _ _ _)).step (State.updateClass_mem _)).step (State.freerunRate_mem _)

theorem State.selectT_mem s a1 : MemKept s (State.selectT s a1) := by
  unfold State.selectT
  extract_lets -merge -underBinder t0 t1 t2 t3 t4
  clear_value t0
  refine .haveS (t := t1) (State.markSel_mem _ _ _) fun ht1 => ?_
  clear_value t1
  refine .haveS (t := t3) (.upd ht1) fun ht3 => ?_
  clear_value t3
  refine .haveS (t := t4) (ht3.step (State.markSel_mem _ _ _)) fun ht4 => ?_
  clear_value t4
  exact (ht4.step (State.raise_mem _ _ _ _ _)).step (State.updateClass_mem _)

theorem State.startWake_mem s a1 a2 : MemKept s (State.startWake s a1 a2) := by
  unfold State.startWake
  extract_lets -merge -underBinder t0
  exact (MemKept.upd (.refl _)).step (State.raiseIf_mem _ _ _ _ _ _)

theorem State.pendRequest_mem s a1 : MemKept s (State.pendRequest s a1) := by
  unfold State.pendRequest
  extract_lets -merge -underBinder t0 t1
  refine .haveS (t := t0) (State.raiseIf_mem _ _ _ _ _ _) fun ht0 => ?_
  clear_value t0
  exact .upd ht0

theorem State.wakeEvent_mem s a1 : MemKept s (State.wakeEvent s a1) := by
  unfold State.wakeEvent
  extract_lets -merge -underBinder t0
  refine .haveS (t := t0) (State.rcSet_mem _ _ _ _) fun ht0 => ?_
  clear_value t0
  refine .ite ?_ ?_
  · exact .refl _
  · split
    · exact .ite (ht0.step (State.startWake_mem _ _ _)) (.ite ((ht0.step (State.pendRequest_mem _ _)).step (State.startWake_mem _ _ _)) ht0)
    · extract_lets -merge -underBinder t1 t2
      refine .haveS (t := t1) (ht0.step (State.raiseIf_mem _ _ _ _ _ _)) fun ht1 => ?_
      clear_value t1
      exact .ite (ht0.step (State.pendRequest_mem _ _)) (.upd ht1)
    · exact ht0.step (State.pendRequest_mem _ _)

theorem State.setTstate_mem s a1 a2 : MemKept s (State.setTstate s a1 a2) := by
  unfold State.setTstate
  extract_lets -merge -underBinder t0 t1 t2 t3 t4
  refine .haveS (t := t0) (State.raise_mem _ _ _ _ _) fun ht0 => ?_
  clear_value t0
  refine .haveS (t := t3) (.upd ht0) fun ht3 => ?_
  clear_value t3
  refine .haveS (t := t4) ((ht3.step (State.updateClass_mem _)).step (State.freerunRate_mem _)) fun ht4 => ?_
  clear_value t4
  exact .ite (.refl _) (.ite ((ht4.step (State.raise_mem _ _ _ _ _)).step (State.wakeEvent_mem _ _)) ht4)

theorem State.selectBias_mem s a1 a2 : MemKept s (State.selectBias s a1 a2) := by
  unfold State.selectBias
  extract_lets -merge -underBinder t0 t1
  refine .haveS (t := t0) (State.selectT_mem _ _) fun ht0 => ?_
  clear_value t0
  exact (MemKept.upd ht0).step (State.timeStateOut_mem _)

theorem State.setStepPending_mem s a1 a2 : MemKept s (State.setStepPending s a1 a2) := by
  unfold State.setStepPending
  extract_lets -merge -underBinder t0 t1
  refine .haveS (t := t0) (State.raise_mem _ _ _ _ _) fun ht0 => ?_
  clear_value t0
  exact (MemKept.upd ht0).step (State.timeStateOut_mem _)

theorem State.startThaw_mem s : MemKept s (State.startThaw s) := by
  unfold State.startThaw
  extract_lets -merge -underBinder t0
  exact .upd (.refl _)

theorem State.takeT_mem s a1 : MemKept s (State.takeT s a1) := by
  unfold State.takeT
  refine .ite ?_ ?_
  · exact State.selectT_mem _ _
  · split
    · exact (State.selectBias_mem _ _ _).step (State.setTstate_mem _ _ _)
    · exact State.selectT_mem _ _
    · extract_lets -merge -underBinder t0 t1
      clear_value t0
      refine .haveS (t := t1) (State.selectBias_mem _ _ _) fun ht1 => ?_
      clear_value t1
      exact .ite (ht1.step (State.setTstate_mem _ _ _)) (ht1.step (State.setStepPending_mem _ _ _))
    · extract_lets -merge -underBinder t2 t3 t4
      clear_value t2
      refine .haveS (t := t3) ((State.selectBias_mem _ _ _).step (State.startThaw_mem _)) fun ht3 => ?_
      clear_value t3
      exact .ite (.ite ((MemKept.upd ht3).step (State.timeStateOut_mem _)) (.ite (.refl _) (State.setStepPending_mem _ _ _)))
          (State.selectBias_mem _ _ _)

theorem State.loseT_mem s : MemKept s (State.loseT s) := by
  unfold State.loseT
  extract_lets -merge -underBinder t0 t1 t2
  refine .haveS (t := t0) (State.selectT_mem _ _) fun ht0 => ?_
  clear_value t0
  refine .haveS (t := t2) ((MemKept.upd ht0).step (State.timeStateOut_mem _)) fun ht2 => ?_
  clear_value t2
  split
  · exact ht2
  · exact ht2
  · exact .ite (ht2.step (State.setTstate_mem _ _ _)) (ht2.step (State.setTstate_mem _ _ _))
  · exact ht2.step (State.setTstate_mem _ _ _)

theorem State.reselect_mem s : MemKept s (State.reselect s) := by
  unfold State.reselect
  extract_lets -merge -underBinder t0 t1 t2 t3
  refine .haveS (t := t0) ?_ fun ht0 => ?_
  · unfold t0
    split
    · extract_lets -merge -underBinder t4
      exact .ite (.refl _) ((MemKept.upd (.refl _)).step (State.timeStateOut_mem _))
    · exact .refl _
  clear_value t0 t1
  refine .haveS (t := t2) (.ite ht0 (ht0.step (State.selectF_mem _ _))) fun ht2 => ?_
  clear_value t2 t3
  refine .ite ?_ ?_
  · exact ht2
  · split
    · exact ht2.step (State.takeT_mem _ _)
    · exact ht2.step (State.loseT_mem _)

theorem State.candFail_mem s a1 a2 : MemKept s (State.candFail s a1 a2) := by
  unfold State.candFail
  extract_lets -merge -underBinder t0 t1 t2
  clear_value t0
  refine .haveS (t := t2) (.upd (.refl _)) fun ht2 => ?_
  clear_value t2
  split
  · exact (ht2.step (State.setCandSt_mem _ _ _ _)).step (State.reselect_mem _)
  · exact (ht2.step (State.setCandSt_mem _ _ _ _)).step (State.reselect_mem _)
  · extract_lets -merge -underBinder t3 t4
    refine .haveS (t := t4) (.ite (.upd ht2) ht2) fun ht4 => ?_
    clear_value t4
    exact .ite ((ht4.step (State.setCandSt_mem _ _ _ _)).step (State.reselect_mem _)) (ht4.step (State.setCandSt_mem _ _ _ _))
  · exact ht2

theorem State.chanStop_mem s a1 : MemKept s (State.chanStop s a1) := by
  unfold State.chanStop
  extract_lets -merge -underBinder t0
  clear_value t0
  exact (MemKept.ite (State.setChanSt_mem _ _ _) (.refl _)).step (State.candFail_mem _ _ _)

theorem State.tchanAccept_mem s a1 : MemKept s (State.tchanAccept s a1) := by
  unfold State.tchanAccept
  extract_lets -merge -underBinder t0
  exact (MemKept.ite (State.setTchan_mem _ _ _) (State.chanStop_mem _ _)).step (State.chansChanged_mem _ _)

theorem State.verFullSeen_mem s : MemKept s (State.verFullSeen s) := by
  unfold State.verFullSeen
  extract_lets -merge -underBinder t0 t1
  refine .haveS (t := t0) (State.raise_mem _ _ _ _ _) fun ht0 => ?_
  clear_value t0
  exact .ite (.upd ht0) (.refl _)

theorem State.bumpVersion_mem s a1 : MemKept s (State.bumpVersion s a1) := by
  unfold State.bumpVersion
  extract_lets -merge -underBinder t0 t1 t2
  clear_value t0 t1
  exact (MemKept.upd (.refl _)).step (State.verFullSeen_mem _)

theorem State.objAccept_mem s a1 a2 : MemKept s (State.objAccept s a1 a2) := by
  unfold State.objAccept
  split
  · exact State.tchanAccept_mem _ _
  · exact State.bumpVersion_mem _ _
  · exact .refl _

theorem State.tchanDrop_mem s a1 : MemKept s (State.tchanDrop s a1) := by
  unfold State.tchanDrop
  extract_lets -merge -underBinder t0
  exact .upd (.refl _)

theorem State.setTicCh_mem s a1 a2 : MemKept s (State.setTicCh s a1 a2) := by
  unfold State.setTicCh
  extract_lets -merge -underBinder t0
  exact .upd (.refl _)

theorem State.ticAbandon_mem s a1 : MemKept s (State.ticAbandon s a1) := by
  unfold State.ticAbandon
  extract_lets -merge -underBinder t0
  clear_value t0
  exact .ite ((State.bump_mem _ _ _ _).step (State.setTicCh_mem _ _ _)) (.refl _)

theorem State.ticCalGo_mem s a1 : MemKept s (State.ticCalGo s a1) := by
  unfold State.ticCalGo
  extract_lets -merge -underBinder t0
  exact .upd (.refl _)

theorem State.mchanAbort_mem s a1 a2 : MemKept s (State.mchanAbort s a1 a2) := by
  unfold State.mchanAbort
  extract_lets -merge -underBinder t0
  refine .haveS (t := t0) (State.ticAbandon_mem _ _) fun ht0 => ?_
  clear_value t0
  exact .ite (((ht0.step (State.setTicCh_mem _ _ _)).step (State.calBoundary_mem _ _ _)).step (State.ticCalGo_mem _ _)) ht0

theorem State.searchGone_mem s a1 : MemKept s (State.searchGone s a1) := by
  unfold State.searchGone
  extract_lets -merge -underBinder t0
  exact .upd (.refl _)

theorem State.calDrop_mem s a1 : MemKept s (State.calDrop s a1) := by
  unfold State.calDrop
  extract_lets -merge -underBinder t0
  exact .upd (.refl _)

theorem State.objGone_mem s a1 a2 : MemKept s (State.objGone s a1 a2) := by
  unfold State.objGone
  split
  · exact State.flowDrop_mem _ _
  · exact State.tchanDrop_mem _ _
  · exact State.mchanAbort_mem _ _ _
  · exact .refl _
  · exact State.searchGone_mem _ _
  · exact State.calDrop_mem _ _

theorem State.objEnd_mem s a1 a2 a3 a4 : MemKept s (State.objEnd s a1 a2 a3 a4) := by
  unfold State.objEnd
  split
  · exact State.flowEnd_mem _ _ _ _
  · extract_lets -merge -underBinder t0 t1
    clear_value t0
    refine .haveS (t := t1) (State.drainDone_mem _ _ _ _ _) fun ht1 => ?_
    clear_value t1
    exact .ite ((ht1.step (State.objGone_mem _ _ _)).step (State.dropObj_mem _ _ _)) (ht1.step (State.setObj_mem _ _ _ _))

theorem State.tchanAbort_mem s a1 : MemKept s (State.tchanAbort s a1) := by
  unfold State.tchanAbort
  extract_lets -merge -underBinder t0
  exact State.setTchan_mem _ _ _

theorem State.sectOut_mem s a1 : MemKept s (State.sectOut s a1) := by
  unfold State.sectOut
  extract_lets -merge -underBinder t0
  exact .ite (.refl _) ((MemKept.upd (.refl _)).step (State.raise_mem _ _ _ _ _))

theorem State.sectsSettle_mem s a1 : MemKept s (State.sectsSettle s a1) := by
  unfold State.sectsSettle
  extract_lets -merge -underBinder t0 t1
  clear_value t0
  exact .foldl (fun _ _ => (State.sectOut_mem _ _).step (State.complete_mem _ _ _ _ _ _ _)) _ (.upd (.refl _))

theorem State.setSearchJob_mem s a1 a2 : MemKept s (State.setSearchJob s a1 a2) := by
  unfold State.setSearchJob
  extract_lets -merge -underBinder t0
  exact .upd (.refl _)

theorem State.searchAbort_mem s a1 : MemKept s (State.searchAbort s a1) := by
  unfold State.searchAbort
  extract_lets -merge -underBinder t0
  exact (State.setSearchJob_mem _ _ _).step (State.sectsSettle_mem _ _)

theorem State.calAbort_mem s a1 : MemKept s (State.calAbort s a1) := by
  unfold State.calAbort
  exact .ite (State.calFinish_mem _ _ _ _) (.refl _)

theorem State.ticSample_mem s a1 : MemKept s (State.ticSample s a1) := by
  unfold State.ticSample
  extract_lets -merge -underBinder t0
  exact .ite (State.setTicCh_mem _ _ _) (.refl _)

theorem State.calAbortJob_mem s a1 : MemKept s (State.calAbortJob s a1) := by
  unfold State.calAbortJob
  extract_lets -merge -underBinder t0
  refine .haveS (t := t0) (State.calAbort_mem _ _) fun ht0 => ?_
  clear_value t0
  exact .ite (ht0.step (State.ticSample_mem _ _)) ht0

theorem State.objAbort_mem s a1 a2 : MemKept s (State.objAbort s a1 a2) := by
  unfold State.objAbort
  split
  · exact State.flowAbort_mem _ _
  · exact State.tchanAbort_mem _ _
  · exact State.mchanAbort_mem _ _ _
  · exact (State.flushCopies_mem _ _ _).step (State.afterFree_mem _)
  · exact State.searchAbort_mem _ _
  · exact State.calAbortJob_mem _ _

theorem State.objDrain_mem s a1 a2 a3 a4 : MemKept s (State.objDrain s a1 a2 a3 a4) := by
  unfold State.objDrain
  extract_lets -merge -underBinder t0
  clear_value t0
  split
  · exact State.flowTake_mem _ _ _ _
  · extract_lets -merge -underBinder t1 t2
    clear_value t1 t2
    refine State.runNamed_mem _ _ _ _ _ _ _ _ (fun _ => ?_)
    extract_lets -merge -underBinder t3 t4 t5 t6 t7 t8 t9
    clear_value t3 t4
    refine .haveS (t := t5) (.ite (State.calCheckLost_mem _ _) (.refl _)) fun ht5 => ?_
    clear_value t5 t6 t7 t8
    refine .haveS (t := t9) ((ht5.step (State.setObj_mem _ _ _ _)).step (State.objAccept_mem _ _ _)) fun ht9 => ?_
    clear_value t9
    exact .ite (State.complete_mem _ _ _ _ _ _ _) (.ite (State.complete_mem _ _ _ _ _ _ _) (.ite (ht9.step (State.objEnd_mem _ _ _ _ _))
        (.ite ((ht9.step (State.objAbort_mem _ _ _)).step (State.objEnd_mem _ _ _ _ _)) ht9)))

theorem State.mchanResume_mem s a1 : MemKept s (State.mchanResume s a1) := by
  unfold State.mchanResume
  exact State.ticSample_mem _ _

theorem State.holdReg_mem s a1 a2 a3 a4 : MemKept s (State.holdReg s a1 a2 a3 a4) := by
  unfold State.holdReg
  extract_lets -merge -underBinder t0 t1 t2
  clear_value t0 t1 t2
  exact .ite (.refl _) (.ite ((State.rcSet_mem _ _ _ _).step (State.raise_mem _ _ _ _ _)) (.upd (.refl _)))

theorem State.discard_mem s : MemKept s (State.discard s) := by
  unfold State.discard
  extract_lets -merge -underBinder t0 t1 t2
  clear_value t0
  refine .haveS (t := t1) (.foldl (fun _ _ => State.revertBits_mem _ _ _) _ (.refl _)) fun ht1 => ?_
  clear_value t1
  exact .upd (.refl _)

theorem State.commitAtSec_mem s : MemKept s (State.commitAtSec s) := by
  unfold State.commitAtSec
  extract_lets -merge -underBinder t0
  exact .upd (.refl _)

theorem State.grpModeCheck_mem s a1 : MemKept s (State.grpModeCheck s a1) := by
  unfold State.grpModeCheck
  extract_lets -merge -underBinder t0 t1 t2
  clear_value t0 t1 t2
  exact .foldl (fun _ _ => .ite (.refl _) ((State.revertBits_mem _ _ _).step (State.raise_mem _ _ _ _ _))) _ (.refl _)

theorem State.setGrp_mem s a1 a2 : MemKept s (State.setGrp s a1 a2) := by
  unfold State.setGrp
  exact .upd (.refl _)

theorem State.phiForget_mem s a1 : MemKept s (State.phiForget s a1) := by
  unfold State.phiForget
  extract_lets -merge -underBinder t0
  exact .upd (.refl _)

end Sys2Proof.Machine
end

section
/-! SUPPORT. What each operation of the machine does to the byte memories, part 3 of 10: one lemma for one operation, in the
order of the lemmas that say what it may change. An operation that writes no byte keeps them (`_mem`), one that may write keeps
their form (`_memSafe`). -/

set_option Elab.async false

namespace Sys2Proof.Machine

theorem State.lnkPhiLost_mem s a1 : MemKept s (State.lnkPhiLost s a1) := by
  unfold State.lnkPhiLost
  extract_lets -merge -underBinder t0 t1
  clear_value t0 t1
  exact .ite (.refl _) (((State.setLnk_mem _ _ _).step (State.phiForget_mem _ _)).step (State.lnkEval_mem _ _))

theorem State.setLane_mem s a1 a2 : MemKept s (State.setLane s a1 a2) := by
  unfold State.setLane
  exact .upd (.refl _)

theorem State.chanLost_mem s a1 : MemKept s (State.chanLost s a1) := by
  unfold State.chanLost
  extract_lets -merge -underBinder t0
  clear_value t0
  exact (State.setChanSt_mem _ _ _).step (State.candFail_mem _ _ _)

theorem State.portChansLost_mem s a1 : MemKept s (State.portChansLost s a1) := by
  unfold State.portChansLost
  exact .foldl (fun _ _ => .ite (.refl _) (State.chanLost_mem _ _)) _ (.refl _)

theorem State.setFrame_mem s a1 a2 : MemKept s (State.setFrame s a1 a2) := by
  unfold State.setFrame
  extract_lets -merge -underBinder t0
  exact .upd (.refl _)

theorem State.dropFrame_mem s a1 : MemKept s (State.dropFrame s a1) := by
  unfold State.dropFrame
  split
  · exact .refl _
  · exact (MemKept.foldl (fun _ _ => State.removeCopy_mem _ _) _ (State.setFrame_mem _ _ _)).step (State.frameGone_mem _ _)

theorem State.portFlush_mem s a1 : MemKept s (State.portFlush s a1) := by
  unfold State.portFlush
  extract_lets -merge -underBinder t0 t1 t2
  clear_value t0
  refine .haveS (t := t1) ((State.flushCopies_mem _ _ _).step (State.bump_mem _ _ _ _)) fun ht1 => ?_
  clear_value t1
  exact ((ht1.step (State.setPort_mem _ _ _)).step (State.raise_mem _ _ _ _ _)).step (State.afterFree_mem _)

theorem State.portLoss_mem s a1 : MemKept s (State.portLoss s a1) := by
  unfold State.portLoss
  extract_lets -merge -underBinder t0 t1 t2 t3 t4 t5
  clear_value t0
  refine .haveS (t := t1) ?_ fun ht1 => ?_
  · unfold t1
    refine .foldl (fun _ _ => ?_) _ (.refl _)
    split
    · exact ((State.tsLost_mem _ _ _).step (State.bump_mem _ _ _ _)).step (State.removeCopy_mem _ _)
    · exact .refl _
  clear_value t1 t2
  refine .haveS (t := t3) (.foldl (fun _ _ => State.dropFrame_mem _ _) _ ht1) fun ht3 => ?_
  clear_value t3 t4
  refine .haveS (t := t5) (ht3.step (State.setPort_mem _ _ _)) fun ht5 => ?_
  clear_value t5
  exact .ite (.refl _) (.ite (ht5.step (State.portFlush_mem _ _)) (ht5.step (State.afterFree_mem _)))

theorem State.laneWithdraw_mem s a1 : MemKept s (State.laneWithdraw s a1) := by
  unfold State.laneWithdraw
  extract_lets -merge -underBinder t0
  exact .ite ((State.setLane_mem _ _ _).step (State.candFail_mem _ _ _)) (.refl _)

theorem State.laneUnlock_mem s a1 : MemKept s (State.laneUnlock s a1) := by
  unfold State.laneUnlock
  extract_lets -merge -underBinder t0 t1 t2
  clear_value t0
  refine .haveS (t := t1) (State.setLane_mem _ _ _) fun ht1 => ?_
  clear_value t1 t2
  exact .ite (.refl _) ((((ht1.step (State.laneWithdraw_mem _ _)).step (State.lnkPhiLost_mem _ _)).step (State.portLoss_mem _ _)).step
      (State.portChansLost_mem _ _))

theorem State.laneStop_mem s a1 : MemKept s (State.laneStop s a1) := by
  unfold State.laneStop
  extract_lets -merge -underBinder t0 t1
  refine .haveS (t := t0) ((State.laneUnlock_mem _ _).step (State.lnkPhiLost_mem _ _)) fun ht0 => ?_
  clear_value t0
  exact ht0.step (State.setLane_mem _ _ _)

theorem State.applyAt_mem s a1 a2 : MemKept s (State.applyAt s a1 a2) := by
  unfold State.applyAt
  extract_lets -merge -underBinder t0 t1 t2
  clear_value t0
  refine .haveS (t := t1) (.foldl (fun _ _ => State.copyBits_mem _ _ _) _ (.refl _)) fun ht1 => ?_
  clear_value t1
  exact .upd (.refl _)

theorem State.laneIdl_mem s a1 : MemKept s (State.laneIdl s a1) := by
  unfold State.laneIdl
  exact (State.applyAt_mem _ _ _).step (State.calBoundary_mem _ _ _)

theorem State.retrain_mem s a1 : MemKept s (State.retrain s a1) := by
  unfold State.retrain
  extract_lets -merge -underBinder t0 t1
  refine .haveS (t := t0) ((State.laneUnlock_mem _ _).step (State.laneIdl_mem _ _)) fun ht0 => ?_
  clear_value t0
  exact .ite (.refl _) (ht0.step (State.setLane_mem _ _ _))

theorem State.quadChange_mem s a1 a2 a3 : MemKept s (State.quadChange s a1 a2 a3) := by
  unfold State.quadChange
  extract_lets -merge -underBinder t0 t1 t2 t3 t4
  clear_value t0 t1
  refine .haveS (t := t2) (.foldl (fun _ _ => State.laneStop_mem _ _) _ (.refl _)) fun ht2 => ?_
  clear_value t2
  refine .haveS (t := t4) (.upd ht2) fun ht4 => ?_
  clear_value t4
  refine .foldl (fun _ _ => ?_) _ ht4
  extract_lets -merge -underBinder t5
  exact .ite (.refl _) ((State.setLane_mem _ _ _).step (State.retrain_mem _ _))

theorem State.commitGrpMode_mem s a1 : MemKept s (State.commitGrpMode s a1) := by
  unfold State.commitGrpMode
  extract_lets -merge -underBinder t0 t1 t2 t3 t4
  clear_value t0
  refine .haveS (t := t1) (State.grpModeCheck_mem _ _) fun ht1 => ?_
  clear_value t1 t2 t3
  exact .ite (ht1.step (State.setGrp_mem _ _ _)) (.foldl (fun _ _ => .ite (.refl _) (State.quadChange_mem _ _ _ _)) _ ht1)

theorem State.capNext_mem s a1 : MemKept s (State.capNext s a1) := by
  unfold State.capNext
  extract_lets -merge -underBinder t0
  exact .ite (.upd (.refl _)) (State.capWord_mem _ _)

theorem State.keepWord_mem s a1 a2 a3 a4 : MemKept s (State.keepWord s a1 a2 a3 a4) := by
  unfold State.keepWord
  exact (State.revertBits_mem _ _ _).step (State.raise_mem _ _ _ _ _)

theorem State.commitWord_mem (s : State) (k : RegKey) : MemKept s (s.commitWord k) := by
  unfold State.commitWord
  extract_lets t
  have ht : MemKept s t := State.copyBits_mem _ _ _
  have hk : ∀ e a b, MemKept s (s.keepWord k e a b) := fun e a b => State.keepWord_mem _ _ _ _ _
  have hc : MemKept s (s.capNext k) := State.capNext_mem _ _
  split
  · exact State.commitGrpMode_mem _ _
  · exact hc
  · exact hc
  · exact .ite (hk _ _ _) ht
  · exact .ite (hk _ _ _) ht
  · exact .ite (hk _ _ _) ht
  · exact ht

theorem State.pllCommitPre_mem s a1 : MemKept s (State.pllCommitPre s a1) := by
  unfold State.pllCommitPre
  exact .foldl (fun _ _ => .ite ((MemKept.foldl (fun _ _ => State.revertBits_mem _ _ _) _ (.refl _)).step (State.raise_mem _ _ _ _ _))
      (.refl _)) _ (.refl _)

theorem State.rehearseAbort_mem s : MemKept s (State.rehearseAbort s) := by
  unfold State.rehearseAbort
  extract_lets -merge -underBinder t0 t1 t2 t3 t4
  clear_value t0 t1
  refine .haveS (t := t3) (.upd (.refl _)) fun ht3 => ?_
  clear_value t3
  refine .haveS (t := t4) (ht3.step (State.raise_mem _ _ _ _ _)) fun ht4 => ?_
  clear_value t4
  refine .ite ?_ ?_
  · exact .refl _
  · split
    · exact ht4.step (State.complete_mem _ _ _ _ _ _ _)
    · exact ht4

theorem State.stopFollow_mem s : MemKept s (State.stopFollow s) := by
  unfold State.stopFollow
  extract_lets -merge -underBinder t0 t1
  refine .haveS (t := t1) (.upd (.refl _)) fun ht1 => ?_
  clear_value t1
  refine .ite ?_ ?_
  · exact .refl _
  · split
    · extract_lets -merge -underBinder t2 t3
      refine .haveS (t := t3) (.upd ht1) fun ht3 => ?_
      clear_value t3
      exact (ht3.step (State.setTstate_mem _ _ _)).step (State.updateClass_mem _)
    · extract_lets -merge -underBinder t4 t5 t6 t7 t8
      clear_value t4
      refine .haveS (t := t7) ((MemKept.upd ht1).step (State.setTstate_mem _ _ _)) fun ht7 => ?_
      clear_value t7
      exact .ite (((MemKept.upd ht1).step (State.raise_mem _ _ _ _ _)).step (State.updateClass_mem _)) (.ite ht7 (.upd ht7))

theorem State.unmirror_mem s : MemKept s (State.unmirror s) := by
  unfold State.unmirror
  extract_lets -merge -underBinder t0
  exact .upd (.refl _)

theorem State.showMirror_mem s a1 : MemKept s (State.showMirror s a1) := by
  unfold State.showMirror
  extract_lets -merge -underBinder t0 t1 t2 t3 t4
  clear_value t0 t1
  refine .haveS (t := t2) (State.raiseIf_mem _ _ _ _ _ _) fun ht2 => ?_
  clear_value t2
  exact (MemKept.upd ht2).step (State.setQuality_mem _ _)

theorem State.startFollow_mem s : MemKept s (State.startFollow s) := by
  unfold State.startFollow
  extract_lets -merge -underBinder t0 t1 t2 t3 t4
  refine .haveS (t := t0) (.ite (.refl _) (State.startThaw_mem _)) fun ht0 => ?_
  clear_value t0
  refine .haveS (t := t4) (.upd ht0) fun ht4 => ?_
  clear_value t4
  refine .ite ?_ ?_
  · exact .refl _
  · split
    · exact ht4.step (State.showMirror_mem _ _)
    · exact ht4

theorem State.goPair_mem s a1 : MemKept s (State.goPair s a1) := by
  unfold State.goPair
  extract_lets -merge -underBinder t0 t1 t2 t3 t4
  refine .haveS (t := t0) (.ite ((State.stopFollow_mem _).step (State.rehearseAbort_mem _)) (.refl _)) fun ht0 => ?_
  clear_value t0 t1 t2
  refine .haveS (t := t3) (.upd ht0) fun ht3 => ?_
  clear_value t3
  refine .haveS (t := t4) (ht3.step (State.raise_mem _ _ _ _ _)) fun ht4 => ?_
  clear_value t4
  exact .ite (.refl _) (.ite (ht4.step (State.unmirror_mem _)) (.ite (ht4.step (State.startFollow_mem _)) ht4))

theorem State.resyncDrop_mem s : MemKept s (State.resyncDrop s) := by
  unfold State.resyncDrop
  split
  · extract_lets -merge -underBinder t0
    exact (MemKept.upd (.refl _)).step (State.complete_mem _ _ _ _ _ _ _)
  · exact .refl _

theorem State.pairPromote_mem s a1 a2 : MemKept s (State.pairPromote s a1 a2) := by
  unfold State.pairPromote
  extract_lets -merge -underBinder t0 t1
  refine .haveS (t := t1) (((((MemKept.upd (.refl _)).step (State.stopFollow_mem _)).step (State.rehearseAbort_mem _)).step
      (State.unmirror_mem _)).step (State.resyncDrop_mem _)) fun ht1 => ?_
  clear_value t1
  exact (ht1.step (State.bump_mem _ _ _ _)).step (State.raise_mem _ _ _ _ _)

theorem State.pairAlone_mem s : MemKept s (State.pairAlone s) := by
  unfold State.pairAlone
  extract_lets -merge -underBinder t0 t1
  clear_value t0
  refine .haveS (t := t1) (State.goPair_mem _ _) fun ht1 => ?_
  clear_value t1
  exact .ite (ht1.step (State.pairPromote_mem _ _ _)) ht1

theorem State.fdbRemove_mem s a1 a2 : MemKept s (State.fdbRemove s a1 a2) := by
  unfold State.fdbRemove
  extract_lets -merge -underBinder t0 t1
  refine .haveS (t := t0) (State.bumpVersion_mem _ _) fun ht0 => ?_
  clear_value t0
  exact .upd ht0

theorem State.flowAgain_mem s a1 : MemKept s (State.flowAgain s a1) := by
  unfold State.flowAgain
  split
  · exact State.admNext_mem _ _ _
  · exact State.flowNext_mem _ _ _
  · exact State.flowNext_mem _ _ _
  · exact State.flowNext_mem _ _ _

theorem State.flowKill_mem s a1 : MemKept s (State.flowKill s a1) := by
  unfold State.flowKill
  extract_lets -merge -underBinder t0 t1 t2 t3
  clear_value t0 t1
  refine .haveS (t := t2) (State.flowAbort_mem _ _) fun ht2 => ?_
  clear_value t2
  refine .haveS (t := t3) ?_ fun ht3 => ?_
  · unfold t3
    split
    · exact ht2.step (State.drainDone_mem _ _ _ _ _)
    · exact ht2.step (State.raiseIf_mem _ _ _ _ _ _)
  clear_value t3
  exact .foldl (fun _ _ => State.flowAgain_mem _ _) _ ((ht3.step (State.flowDrop_mem _ _)).step (State.dropObj_mem _ _ _))

theorem State.resyncStart_mem s : MemKept s (State.resyncStart s) := by
  unfold State.resyncStart
  extract_lets -merge -underBinder t0 t1 t2 t3 t4
  clear_value t0
  refine .haveS (t := t1) (.foldl (fun _ _ => .ite (.refl _) (State.fdbRemove_mem _ _ _)) _ (.refl _)) fun ht1 => ?_
  clear_value t1
  refine .haveS (t := t2) ((MemKept.foldl (fun _ _ => State.flowKill_mem _ _) _ ht1).step (State.goPair_mem _ _)) fun ht2 => ?_
  clear_value t2
  exact .upd ht2

theorem State.pairStandby_mem s : MemKept s (State.pairStandby s) := by
  unfold State.pairStandby
  extract_lets -merge -underBinder t0
  exact (MemKept.upd (.refl _)).step (State.resyncStart_mem _)

theorem State.pairCompare_mem s : MemKept s (State.pairCompare s) := by
  unfold State.pairCompare
  extract_lets -merge -underBinder t0 t1
  clear_value t0 t1
  exact .ite (State.resyncStart_mem _) (.ite (State.pairStandby_mem _) (State.goPair_mem _ _))

theorem State.pairPaths_mem s : MemKept s (State.pairPaths s) := by
  unfold State.pairPaths
  extract_lets -merge -underBinder t0
  dsimp only [t0]
  split
  · exact .ite (.ite (State.pairAlone_mem _) (State.goPair_mem _ _)) (.refl _)
  · exact .ite (.ite (State.pairAlone_mem _) (State.goPair_mem _ _)) (.refl _)
  · exact .ite (.ite (State.resyncStart_mem _) (State.goPair_mem _ _)) (.ite (State.pairAlone_mem _) (.refl _))
  · exact .ite (State.pairCompare_mem _) (.refl _)
  · exact .refl _

theorem State.pairCommit_mem s : MemKept s (State.pairCommit s) := by
  unfold State.pairCommit
  extract_lets -merge -underBinder t0 t1 t2 t3 t4 t5
  refine .haveS (t := t1) ((MemKept.upd (.refl _)).step (State.goPair_mem _ _)) fun ht1 => ?_
  clear_value t1
  refine .haveS (t := t2) ((ht1.step (State.unmirror_mem _)).step (State.resyncDrop_mem _)) fun ht2 => ?_
  clear_value t2
  refine .haveS (t := t5) (.ite (.refl _) (.upd (.refl _))) fun ht5 => ?_
  clear_value t5
  exact .ite (.ite (.refl _) (.upd ht2)) (.ite (ht5.step (State.goPair_mem _ _)) (ht5.step (State.pairPaths_mem _)))

theorem State.lnkEvalAll_mem s : MemKept s (State.lnkEvalAll s) := by
  unfold State.lnkEvalAll
  exact .foldl (fun _ _ => State.lnkEval_mem _ _) _ (.refl _)

theorem State.ltxFold_mem s : MemKept s (State.ltxFold s) := by
  unfold State.ltxFold
  extract_lets -merge -underBinder t0 t1 t2
  clear_value t0 t1
  exact .upd (.refl _)

theorem State.pllClear_mem s a1 : MemKept s (State.pllClear s a1) := by
  unfold State.pllClear
  extract_lets -merge -underBinder t0 t1 t2
  refine .haveS (t := t0) (.ite (State.ltxFold_mem _) (.ite (State.cycFold_mem _) (.refl _))) fun ht0 => ?_
  clear_value t0 t1
  exact ht0.step (State.setPll_mem _ _ _)

theorem State.pllOff_mem s a1 : MemKept s (State.pllOff s a1) := by
  unfold State.pllOff
  exact (State.pllClear_mem _ _).step (State.goPll_mem _ _ _)

theorem State.pllStart_mem s a1 : MemKept s (State.pllStart s a1) := by
  unfold State.pllStart
  exact (State.pllClear_mem _ _).step (State.goPll_mem _ _ _)

theorem State.pllCommitPost_mem s a1 : MemKept s (State.pllCommitPost s a1) := by
  unfold State.pllCommitPost
  extract_lets -merge -underBinder t0 t1 t2
  refine .haveS (t := t0) (.foldl (fun _ _ => .ite (.ite (.refl _) (State.pllOff_mem _ _)) (.ite (State.pllStart_mem _ _) (.refl _))) _
      (.refl _)) fun ht0 => ?_
  clear_value t0 t1
  exact .upd ht0

theorem State.commit_mem s : MemKept s (State.commit s) := by
  unfold State.commit
  extract_lets -merge -underBinder t0 t1 t2 t3
  clear_value t0
  refine .haveS (t := t1) (.foldl (fun _ _ => State.commitWord_mem _ _) _ (State.pllCommitPre_mem _ _)) fun ht1 => ?_
  clear_value t1
  refine .haveS (t := t3) (.upd ht1) fun ht3 => ?_
  clear_value t3
  exact (((((ht3.step (State.pllCommitPost_mem _ _)).step (State.pairsEval_mem _ _)).step (State.lnkEvalAll_mem _)).step
      (State.pairCommit_mem _)).step (State.causesClear_mem _)).step (State.xoffUpdate_mem _)

theorem State.commitWrite_mem s a1 : MemKept s (State.commitWrite s a1) := by
  unfold State.commitWrite
  exact .ite (.refl _) (.ite (State.discard_mem _) (.ite (.refl _) (.ite (State.commitAtSec_mem _) (State.commit_mem _))))

theorem State.persStore_mem s a1 a2 : MemKept s (State.persStore s a1 a2) := by
  unfold State.persStore
  split
  · extract_lets -merge -underBinder t0
    exact .ite (.refl _) (.upd (.refl _))
  · exact State.raise_mem _ _ _ _ _
  · exact State.raise_mem _ _ _ _ _

theorem State.persWrite_mem s a1 a2 a3 : MemKept s (State.persWrite s a1 a2 a3) := by
  unfold State.persWrite
  extract_lets -merge -underBinder t0 t1 t2
  clear_value t0
  refine .haveS (t := t1) (State.keyed_mem _ _ _ _ (fun _ => State.persStore_mem _ _ _)) fun ht1 => ?_
  clear_value t1
  exact .upd ht1

theorem State.candAbsent_mem s a1 : MemKept s (State.candAbsent s a1) := by
  unfold State.candAbsent
  extract_lets -merge -underBinder t0 t1
  refine .haveS (t := t1) (.ite (.upd (.refl _)) (.refl _)) fun ht1 => ?_
  clear_value t1
  exact .ite (.refl _) ((ht1.step (State.setCandSt_mem _ _ _ _)).step (State.reselect_mem _))

theorem State.grpDrain_mem s a1 : MemKept s (State.grpDrain s a1) := by
  unfold State.grpDrain
  extract_lets -merge -underBinder t0 t1 t2
  refine .haveS (t := t1) ((State.setGrp_mem _ _ _).step (State.setReady_mem _ _ _)) fun ht1 => ?_
  clear_value t1
  refine .haveS (t := t2) ?_ fun ht2 => ?_
  · unfold t2
    refine .foldl (fun _ _ => ?_) _ ht1
    extract_lets -merge -underBinder t3
    exact ((State.setLane_mem _ _ _).step (State.candAbsent_mem _ _)).step (State.portChansLost_mem _ _)
  clear_value t2
  exact (ht2.step (State.calLose_mem _ _)).step (State.xoffUpdate_mem _)

theorem State.grpPortsDown_mem s a1 : MemKept s (State.grpPortsDown s a1) := by
  unfold State.grpPortsDown
  extract_lets -merge -underBinder t0 t1
  clear_value t0
  refine .haveS (t := t1) (.foldl (fun _ _ => State.dropFrame_mem _ _) _ (.refl _)) fun ht1 => ?_
  clear_value t1
  refine .foldl (fun _ _ => ?_) _ ht1
  extract_lets -merge -underBinder t2
  exact State.setPort_mem _ _ _

theorem State.grpLose_mem s a1 : MemKept s (State.grpLose s a1) := by
  unfold State.grpLose
  refine .foldl (fun _ _ => ?_) _ (.refl _)
  extract_lets -merge -underBinder t0 t1 t2
  clear_value t0
  refine .haveS (t := t1) ((State.setLane_mem _ _ _).step (State.setLnk_mem _ _ _)) fun ht1 => ?_
  clear_value t1
  exact .upd ht1

theorem State.padHold_mem s a1 a2 : MemKept s (State.padHold s a1 a2) := by
  unfold State.padHold
  extract_lets -merge -underBinder t0
  exact .upd (.refl _)

theorem State.setDom_mem s a1 a2 : MemKept s (State.setDom s a1 a2) := by
  unfold State.setDom
  extract_lets -merge -underBinder t0
  exact .upd (.refl _)

theorem State.domSleep_mem s a1 a2 : MemKept s (State.domSleep s a1 a2) := by
  unfold State.domSleep
  extract_lets -merge -underBinder t0 t1
  refine .haveS (t := t0) (State.setDom_mem _ _ _) fun ht0 => ?_
  clear_value t0
  exact .upd ht0

theorem State.grpRemoved_mem s a1 a2 : MemKept s (State.grpRemoved s a1 a2) := by
  unfold State.grpRemoved
  extract_lets -merge -underBinder t0 t1 t2 t3 t4 t5 t6 t7
  clear_value t0 t1
  refine .haveS (t := t2) (((State.flushCopies_mem _ _ _).step (State.bump_mem _ _ _ _)).step (State.grpPortsDown_mem _ _)) fun ht2 => ?_
  clear_value t2
  refine .haveS (t := t3) (.foldl (fun _ _ => State.laneStop_mem _ _) _ ht2) fun ht3 => ?_
  clear_value t3 t4
  refine .haveS (t := t5) (ht3.step (State.setGrp_mem _ _ _)) fun ht5 => ?_
  clear_value t5
  refine .haveS (t := t6) (ht5.step (State.calLose_mem _ _)) fun ht6 => ?_
  clear_value t6
  refine .haveS (t := t7) (.ite (ht6.step (State.grpLose_mem _ _)) ht6) fun ht7 => ?_
  clear_value t7
  exact (((ht7.step (State.domSleep_mem _ _ _)).step (State.padHold_mem _ _ _)).step (State.raise_mem _ _ _ _ _)).step (State.afterFree_mem
      _)

theorem State.grpRemove_mem s a1 a2 : MemKept s (State.grpRemove s a1 a2) := by
  unfold State.grpRemove
  extract_lets -merge -underBinder t0 t1
  refine .haveS (t := t1) (State.setGrp_mem _ _ _) fun ht1 => ?_
  clear_value t1
  refine .ite ?_ ?_
  · exact ht1.step (State.grpDrain_mem _ _)
  · refine .step ?_ (State.grpRemoved_mem _ _ _)
    refine .foldl (fun _ _ => ?_) _ ht1
    extract_lets -merge -underBinder t2
    exact (State.setLane_mem _ _ _).step (State.candAbsent_mem _ _)

theorem State.cycClear_mem s a1 : MemKept s (State.cycClear s a1) := by
  unfold State.cycClear
  extract_lets -merge -underBinder t0 t1
  refine .haveS (t := t0) (State.cycFold_mem _) fun ht0 => ?_
  clear_value t0
  exact .upd ht0

theorem State.setEng_mem s a1 a2 : MemKept s (State.setEng s a1 a2) := by
  unfold State.setEng
  extract_lets -merge -underBinder t0
  exact .upd (.refl _)

theorem State.goEng_mem s a1 a2 : MemKept s (State.goEng s a1 a2) := by
  unfold State.goEng
  extract_lets -merge -underBinder t0 t1 t2
  clear_value t0
  refine .haveS (t := t1) (.ite (State.cycClear_mem _ _) (.refl _)) fun ht1 => ?_
  clear_value t1
  refine .haveS (t := t2) ((ht1.step (State.setEng_mem _ _ _)).step (State.raiseIf_mem _ _ _ _ _ _)) fun ht2 => ?_
  clear_value t2
  exact ht2.step (State.raiseIf_mem _ _ _ _ _ _)

theorem State.portChansListen_mem s a1 : MemKept s (State.portChansListen s a1) := by
  unfold State.portChansListen
  exact .foldl (fun _ _ => .ite (State.setChanSt_mem _ _ _) (.refl _)) _ (.refl _)

theorem State.grpUndrain_mem s a1 : MemKept s (State.grpUndrain s a1) := by
  unfold State.grpUndrain
  extract_lets -merge -underBinder t0 t1
  refine .haveS (t := t1) ((State.setGrp_mem _ _ _).step (State.setReady_mem _ _ _)) fun ht1 => ?_
  clear_value t1
  refine .step ?_ (State.raise_mem _ _ _ _ _)
  refine .foldl (fun _ _ => ?_) _ ht1
  extract_lets -merge -underBinder t2
  exact (State.setLane_mem _ _ _).step (State.portChansListen_mem _ _)

theorem State.grpCheck_mem s a1 : MemKept s (State.grpCheck s a1) := by
  unfold State.grpCheck
  extract_lets -merge -underBinder t0 t1 t2 t3
  clear_value t0 t1
  refine .haveS (t := t2) (.foldl (fun _ _ => State.laneIdl_mem _ _) _ (.refl _)) fun ht2 => ?_
  clear_value t2
  exact .ite (((ht2.step (State.setGrp_mem _ _ _)).step (State.setReady_mem _ _ _)).step (State.raise_mem _ _ _ _ _)) (.refl _)

theorem State.grpTrain_mem s a1 : MemKept s (State.grpTrain s a1) := by
  unfold State.grpTrain
  extract_lets -merge -underBinder t0 t1 t2 t3 t4
  clear_value t0 t1
  refine .haveS (t := t2) ?_ fun ht2 => ?_
  · unfold t2
    split
    · extract_lets -merge -underBinder t5
      exact .upd (.refl _)
    · exact .refl _
  clear_value t2
  refine .haveS (t := t3) (ht2.step (State.setGrp_mem _ _ _)) fun ht3 => ?_
  clear_value t3
  refine .haveS (t := t4) ?_ fun ht4 => ?_
  · unfold t4
    refine .foldl (fun _ _ => ?_) _ ht3
    extract_lets -merge -underBinder t6
    exact (State.setLane_mem _ _ _).step (State.retrain_mem _ _)
  clear_value t4
  exact ((MemKept.foldl (fun _ _ => State.lnkEval_mem _ _) _ ht4).step (State.pairsEval_mem _ _)).step (State.grpCheck_mem _ _)

theorem State.domRestore_mem s a1 : MemKept s (State.domRestore s a1) := by
  unfold State.domRestore
  extract_lets -merge -underBinder t0 t1 t2 t3 t4
  clear_value t0 t1 t2
  refine .haveS (t := t3) (.foldl (fun _ _ => State.copyBits_mem _ _ _) _ (.refl _)) fun ht3 => ?_
  clear_value t3
  exact .upd (.refl _)

theorem State.domRelease_mem s a1 : MemKept s (State.domRelease s a1) := by
  unfold State.domRelease
  extract_lets -merge -underBinder t0 t1 t2 t3
  clear_value t0
  refine .haveS (t := t2) (.upd (.refl _)) fun ht2 => ?_
  clear_value t2
  refine .haveS (t := t3) (ht2.step (State.applyAt_mem _ _ _)) fun ht3 => ?_
  clear_value t3
  exact .upd (.refl _)

theorem State.domWake_mem s a1 : MemKept s (State.domWake s a1) := by
  unfold State.domWake
  extract_lets -merge -underBinder t0
  refine .haveS (t := t0) (State.setDom_mem _ _ _) fun ht0 => ?_
  clear_value t0
  exact .ite (ht0.step (State.domRestore_mem _ _)) (ht0.step (State.domRelease_mem _ _))

theorem State.grpWake_mem s a1 : MemKept s (State.grpWake s a1) := by
  unfold State.grpWake
  exact (MemKept.ite (State.grpModeCheck_mem _ _) (.refl _)).step (State.domWake_mem _ _)

theorem State.grpReturn_mem s a1 : MemKept s (State.grpReturn s a1) := by
  unfold State.grpReturn
  exact ((State.padHold_mem _ _ _).step (State.grpWake_mem _ _)).step (State.grpTrain_mem _ _)

theorem State.abandon_mem s a1 : MemKept s (State.abandon s a1) := by
  unfold State.abandon
  extract_lets -merge -underBinder t0 t1 t2 t3 t4
  refine .haveS (t := t1) (.upd (.refl _)) fun ht1 => ?_
  clear_value t1
  refine .haveS (t := t2) (.foldl (fun _ _ => .ite (State.goEng_mem _ _ _) (.refl _)) _ ht1) fun ht2 => ?_
  clear_value t2
  refine .haveS (t := t3) (.foldl (fun _ _ => .ite (State.grpUndrain_mem _ _) (.ite (State.grpReturn_mem _ _) (.refl _))) _ ht2) fun ht3 =>
      ?_
  clear_value t3
  exact .upd ht3

theorem State.entryAbort_mem s a1 : MemKept s (State.entryAbort s a1) := by
  unfold State.entryAbort
  exact .ite (.refl _) ((State.bump_mem _ _ _ _).step (State.grpRemoved_mem _ _ _))

theorem State.setGnssCh_mem s a1 a2 : MemKept s (State.setGnssCh s a1 a2) := by
  unfold State.setGnssCh
  extract_lets -merge -underBinder t0
  exact .upd (.refl _)

theorem State.goGnssCh_mem s a1 a2 : MemKept s (State.goGnssCh s a1 a2) := by
  unfold State.goGnssCh
  extract_lets -merge -underBinder t0 t1 t2 t3
  clear_value t0 t1 t2
  refine .haveS (t := t3) ((State.setGnssCh_mem _ _ _).step (State.raise_mem _ _ _ _ _)) fun ht3 => ?_
  clear_value t3
  exact .ite (.refl _) (.ite (ht3.step (State.bump_mem _ _ _ _)) ht3)

theorem State.gnssInvalid_mem s : MemKept s (State.gnssInvalid s) := by
  unfold State.gnssInvalid
  extract_lets -merge -underBinder t0 t1 t2
  clear_value t0
  refine .haveS (t := t2) (.upd (.refl _)) fun ht2 => ?_
  clear_value t2
  exact (ht2.step (State.raiseIf_mem _ _ _ _ _ _)).step (State.candFail_mem _ _ _)

theorem State.gnssDown_mem s a1 : MemKept s (State.gnssDown s a1) := by
  unfold State.gnssDown
  extract_lets -merge -underBinder t0 t1 t2 t3
  refine .haveS (t := t0) (.foldl (fun _ _ => State.goGnssCh_mem _ _ _) _ (.refl _)) fun ht0 => ?_
  clear_value t0
  refine .haveS (t := t1) (.foldl (fun _ _ => State.searchAbort_mem _ _) _ ht0) fun ht1 => ?_
  clear_value t1
  refine .haveS (t := t2) (((ht1.step (State.gnssInvalid_mem _)).step (State.candAbsent_mem _ _)).step (State.setReady_mem _ _ _)) fun ht2
      => ?_
  clear_value t2 t3
  exact .upd ht2

theorem State.ticDown_mem s : MemKept s (State.ticDown s) := by
  unfold State.ticDown
  unfold State.forTic
  exact .foldl (fun _ _ => State.ticAbandon_mem _ _) _ (.refl _)

theorem State.pcieLinkDown_mem s : MemKept s (State.pcieLinkDown s) := by
  unfold State.pcieLinkDown
  extract_lets -merge -underBinder t0
  exact (MemKept.upd (.refl _)).step (State.setReady_mem _ _ _)

theorem State.timeRestart_mem s : MemKept s (State.timeRestart s) := by
  unfold State.timeRestart
  extract_lets -merge -underBinder t0
  exact .upd (.refl _)

theorem State.setLanes_mem s a1 : MemKept s (State.setLanes s a1) := by
  unfold State.setLanes
  extract_lets -merge -underBinder t0 t1
  refine .haveS (t := t0) (.ite (.refl _) (State.timeRestart_mem _)) fun ht0 => ?_
  clear_value t0
  exact (MemKept.upd ht0).step (State.setReady_mem _ _ _)

theorem State.pairDown_mem s : MemKept s (State.pairDown s) := by
  unfold State.pairDown
  extract_lets -merge -underBinder t0 t1
  refine .haveS (t := t0) (.ite (.refl _) (State.setLanes_mem _ _)) fun ht0 => ?_
  clear_value t0
  exact .ite ht0 ((MemKept.upd ht0).step (State.goPair_mem _ _))

theorem State.engOff_mem s a1 : MemKept s (State.engOff s a1) := by
  unfold State.engOff
  extract_lets -merge -underBinder t0
  exact (State.setEng_mem _ _ _).step (State.goEng_mem _ _ _)

end Sys2Proof.Machine
end

section
/-! SUPPORT. What each operation of the machine does to the byte memories, part 4 of 10: one lemma for one operation, in the
order of the lemmas that say what it may change. An operation that writes no byte keeps them (`_mem`), one that may write keeps
their form (`_memSafe`). -/

set_option Elab.async false

namespace Sys2Proof.Machine

theorem State.setBankMode_memSafe s a1 a2 : MemSafe s (State.setBankMode s a1 a2) := by
  unfold State.setBankMode
  exact .spad (.refl _) fun hw => Memory.wf_clear_if _ _ _ hw

theorem State.domDown_memSafe s a1 a2 : MemSafe s (State.domDown s a1 a2) := by
  unfold State.domDown
  split
  · exact (((State.setReady_mem _ _ _).safe.step (State.setReady_mem _ _ _).safe).step (State.setReady_mem _ _ _).safe).step
        (State.domSleep_mem _ _ _).safe
  · exact (State.domSleep_mem _ _ _).safe
  · exact ((State.gnssDown_mem _ _).safe.step (State.domSleep_mem _ _ _).safe).step (State.padHold_mem _ _ _).safe
  · exact (((State.ticDown_mem _).safe.step (State.setReady_mem _ _ _).safe).step (State.domSleep_mem _ _ _).safe).step (State.padHold_mem _
        _ _).safe
  · exact (((State.pllOff_mem _ _).safe.step (State.pllOff_mem _ _).safe).step (State.domSleep_mem _ _ _).safe).step (State.padHold_mem _ _
        _).safe
  · exact (State.pllOff_mem _ _).safe.step (State.domSleep_mem _ _ _).safe
  · exact ((State.pcieLinkDown_mem _).safe.step (State.domSleep_mem _ _ _).safe).step (State.padHold_mem _ _ _).safe
  · exact ((State.pairDown_mem _).safe.step (State.domSleep_mem _ _ _).safe).step (State.padHold_mem _ _ _).safe
  · extract_lets -merge -underBinder t0 t1
    refine .haveS (t := t0) (State.setBankMode_memSafe _ _ _) fun ht0 => ?_
    clear_value t0
    exact .ite ((MemSafe.ite (State.engOff_mem _ _).safe (.refl _)).step (State.domSleep_mem _ _ _).safe) (.ite (.upd ht0) (.refl _))

theorem State.entryDown_memSafe s : MemSafe s (State.entryDown s) := by
  unfold State.entryDown
  extract_lets -merge -underBinder t0 t1 t2 t3 t4 t5
  clear_value t0 t1
  refine .haveS (t := t2) (.foldl (fun _ _ => State.domDown_memSafe _ _ _) _ (.refl _)) fun ht2 => ?_
  clear_value t2
  refine .haveS (t := t3) (.ite (ht2.step (State.setReady_mem _ _ _).safe) ht2) fun ht3 => ?_
  clear_value t3
  refine .haveS (t := t5) (.upd ht3) fun ht5 => ?_
  clear_value t5
  exact ht5.step (State.raise_mem _ _ _ _ _).safe

theorem State.entryE3_memSafe s : MemSafe s (State.entryE3 s) := by
  unfold State.entryE3
  split
  · exact .ite (.refl _) (.ite (State.abandon_mem _ _).safe (State.entryDown_memSafe _))
  · exact .refl _

theorem State.setTask_mem s a1 a2 : MemKept s (State.setTask s a1 a2) := by
  unfold State.setTask
  extract_lets -merge -underBinder t0
  exact .upd (.refl _)

theorem State.taskMove_mem s a1 a2 a3 : MemKept s (State.taskMove s a1 a2 a3) := by
  unfold State.taskMove
  extract_lets -merge -underBinder t0
  exact State.setTask_mem _ _ _

theorem State.taskLost_mem s a1 : MemKept s (State.taskLost s a1) := by
  unfold State.taskLost
  split
  · exact .ite (State.gnssInvalid_mem _) (.refl _)
  · extract_lets -merge -underBinder t0 t1
    refine .haveS (t := t0) (State.calLose_mem _ _) fun ht0 => ?_
    clear_value t0
    exact .foldl (fun _ _ => State.complete_mem _ _ _ _ _ _ _) _ (.upd ht0)
  · exact .refl _

theorem State.nameStandby_mem s a1 : MemKept s (State.nameStandby s a1) := by
  unfold State.nameStandby
  extract_lets -merge -underBinder t0
  clear_value t0
  split
  · exact .ite (.refl _) ((MemKept.upd (.refl _)).step (State.setTask_mem _ _ _))
  · exact .refl _

theorem State.taskLeave_mem s a1 a2 : MemKept s (State.taskLeave s a1 a2) := by
  unfold State.taskLeave
  extract_lets -merge -underBinder t0 t1
  clear_value t0 t1
  refine .ite ?_ ?_
  · split
    · exact State.taskMove_mem _ _ _ _
    · exact (State.setTask_mem _ _ _).step (State.taskLost_mem _ _)
  · refine .ite ?_ ?_
    · split
      · split
        · exact State.taskMove_mem _ _ _ _
        · exact (State.setTask_mem _ _ _).step (State.taskLost_mem _ _)
      · exact (State.setTask_mem _ _ _).step (State.nameStandby_mem _ _)
    · exact .refl _

theorem State.engReady_mem s : MemKept s (State.engReady s) := by
  unfold State.engReady
  exact (State.setReady_mem _ _ _).step (State.setReady_mem _ _ _)

theorem State.tchanMove_mem s a1 : MemKept s (State.tchanMove s a1) := by
  unfold State.tchanMove
  extract_lets -merge -underBinder t0 t1 t2
  clear_value t0 t1
  refine .haveS (t := t2) (State.setTchan_mem _ _ _) fun ht2 => ?_
  clear_value t2
  split
  · extract_lets -merge -underBinder t3 t4
    refine .haveS (t := t3) (ht2.step (State.setTchan_mem _ _ _)) fun ht3 => ?_
    clear_value t3
    exact .ite (ht3.step (State.setLnk_mem _ _ _)) ht3
  · extract_lets -merge -underBinder t5
    refine .haveS (t := t5) (ht2.step (State.setTchan_mem _ _ _)) fun ht5 => ?_
    clear_value t5
    exact (ht5.step (State.chanLost_mem _ _)).step (State.raise_mem _ _ _ _ _)

theorem State.tchansLeave_mem s a1 : MemKept s (State.tchansLeave s a1) := by
  unfold State.tchansLeave
  exact .foldl (fun _ _ => State.tchanMove_mem _ _) _ (.refl _)

theorem State.engLeaves_mem s a1 a2 : MemKept s (State.engLeaves s a1 a2) := by
  unfold State.engLeaves
  extract_lets -merge -underBinder t0
  refine .haveS (t := t0) (.foldl (fun _ _ => State.taskLeave_mem _ _ _) _ (.refl _)) fun ht0 => ?_
  clear_value t0
  exact (MemKept.ite (ht0.step (State.tchansLeave_mem _ _)) ht0).step (State.engReady_mem _)

theorem State.outBegin_mem s a1 a2 : MemKept s (State.outBegin s a1 a2) := by
  unfold State.outBegin
  extract_lets -merge -underBinder t0 t1 t2
  clear_value t0
  refine .haveS (t := t1) ((State.setEng_mem _ _ _).step (State.goEng_mem _ _ _)) fun ht1 => ?_
  clear_value t1
  refine .haveS (t := t2) (ht1.step (State.engLeaves_mem _ _ _)) fun ht2 => ?_
  clear_value t2
  exact .foldl (fun _ _ => State.tchanMove_mem _ _) _ ht2

theorem State.inDropped_mem s a1 : MemKept s (State.inDropped s a1) := by
  unfold State.inDropped
  split
  · extract_lets -merge -underBinder t0
    exact (State.setEng_mem _ _ _).step (State.complete_mem _ _ _ _ _ _ _)
  · exact .refl _

theorem State.entryEngine_mem s a1 : MemKept s (State.entryEngine s a1) := by
  unfold State.entryEngine
  extract_lets -merge -underBinder t0
  dsimp only [t0]
  split
  · exact .ite ((MemKept.upd (.refl _)).step (State.raise_mem _ _ _ _ _)) ((MemKept.upd (.refl _)).step (State.outBegin_mem _ _ _))
  · exact (MemKept.upd (State.inDropped_mem _ _)).step (State.goEng_mem _ _ _)
  · exact .refl _

theorem State.entryE2_memSafe s : MemSafe s (State.entryE2 s) := by
  unfold State.entryE2
  split
  · extract_lets -merge -underBinder t0 t1 t2
    refine .haveS (t := t1) (.upd (.refl _)) fun ht1 => ?_
    clear_value t1
    refine .haveS (t := t2) (.foldl (fun _ _ => (State.entryAbort_mem _ _).safe) _ ht1) fun ht2 => ?_
    clear_value t2
    exact .ite (State.abandon_mem _ _).safe ((MemSafe.foldl (fun _ _ => (State.entryEngine_mem _ _).safe) _ ht2).step (State.entryE3_memSafe
        _))
  · exact .refl _

theorem State.entryBegin_memSafe s a1 : MemSafe s (State.entryBegin s a1) := by
  unfold State.entryBegin
  extract_lets -merge -underBinder t0 t1 t2 t3 t4 t5
  clear_value t0 t1
  refine .haveS (t := t3) (.upd (.refl _)) fun ht3 => ?_
  clear_value t3
  refine .haveS (t := t4) (ht3.step (State.raiseIf_mem _ _ _ _ _ _).safe) fun ht4 => ?_
  clear_value t4
  refine .haveS (t := t5) (.foldl (fun _ _ => (State.grpRemove_mem _ _ _).safe) _ ht4) fun ht5 => ?_
  clear_value t5
  exact .ite ht5 (ht5.step (State.entryE2_memSafe _))

theorem State.requestTake_memSafe s a1 : MemSafe s (State.requestTake s a1) := by
  unfold State.requestTake
  extract_lets -merge -underBinder t0
  clear_value t0
  exact .ite (.refl _) (.ite (State.raise_mem _ _ _ _ _).safe (.ite (State.entryBegin_memSafe _ _) (.ite (State.startWake_mem _ _ _).safe
      (.refl _))))

theorem State.pwrSettle_memSafe s : MemSafe s (State.pwrSettle s) := by
  unfold State.pwrSettle
  refine .ite ?_ ?_
  · exact .refl _
  · refine .ite ?_ ?_
    · exact (State.startWake_mem _ _ _).safe
    · split
      · exact .refl _
      · extract_lets -merge -underBinder t0
        exact (MemSafe.upd (.refl _)).step (State.requestTake_memSafe _ _)

theorem State.abandonEnd_memSafe s : MemSafe s (State.abandonEnd s) := by
  unfold State.abandonEnd
  extract_lets -merge -underBinder t0 t1 t2
  clear_value t0
  refine .haveS (t := t1) ((MemSafe.upd (.refl _)).step (State.raise_mem _ _ _ _ _).safe) fun ht1 => ?_
  clear_value t1
  refine .haveS (t := t2) ?_ fun ht2 => ?_
  · unfold t2
    split
    · exact .ite (ht1.step (State.requestTake_memSafe _ _)) ht1
    · exact ht1
  clear_value t2
  exact .ite (.refl _) (ht2.step (State.pwrSettle_memSafe _))

theorem State.pwrRequest_memSafe s a1 a2 : MemSafe s (State.pwrRequest s a1 a2) := by
  unfold State.pwrRequest
  extract_lets -merge -underBinder t0
  clear_value t0
  refine .ite ?_ ?_
  · exact .refl _
  · refine .ite ?_ ?_
    · exact (State.raise_mem _ _ _ _ _).safe
    · split
      · exact ((State.requestTake_memSafe _ _).step (State.abandonEnd_memSafe _)).step (State.pwrSettle_memSafe _)
      · extract_lets -merge -underBinder t1
        exact .ite (.upd (.refl _)) (State.pendRequest_mem _ _).safe
      · exact (State.pendRequest_mem _ _).safe

theorem State.padRelease_mem s a1 : MemKept s (State.padRelease s a1) := by
  unfold State.padRelease
  exact .foldl (fun _ _ => State.padHold_mem _ _ _) _ (.refl _)

theorem State.storeReg_mem s a1 a2 a3 : MemKept s (State.storeReg s a1 a2 a3) := by
  unfold State.storeReg
  exact .ite ((State.rcSet_mem _ _ _ _).step (State.raise_mem _ _ _ _ _)) (.upd (.refl _))

theorem State.ringsKill_mem s : MemKept s (State.ringsKill s) := by
  unfold State.ringsKill
  extract_lets -merge -underBinder t0 t1 t2 t3
  refine .haveS (t := t0) (.foldl (fun _ _ => State.dropFrame_mem _ _) _ (.refl _)) fun ht0 => ?_
  clear_value t0
  refine .haveS (t := t2) (.upd ht0) fun ht2 => ?_
  clear_value t2
  exact (MemKept.upd ht2).step (State.afterFree_mem _)

theorem State.forceRings_mem s : MemKept s (State.forceRings s) := by
  unfold State.forceRings
  extract_lets -merge -underBinder t0
  clear_value t0
  exact .foldl (fun _ _ => State.putBoth_mem _ _ _ _ _) _ (.ite (.refl _) (State.ringsKill_mem _))

theorem State.outDone_mem s a1 a2 : MemKept s (State.outDone s a1 a2) := by
  unfold State.outDone
  extract_lets -merge -underBinder t0 t1 t2 t3 t4
  clear_value t0 t1
  refine .haveS (t := t2) ?_ fun ht2 => ?_
  · unfold t2
    refine .foldl (fun _ _ => ?_) _ (.refl _)
    extract_lets -merge -underBinder t5
    exact State.setTchan_mem _ _ _
  clear_value t2
  refine .haveS (t := t3) (((ht2.step (State.setEng_mem _ _ _)).step (State.goEng_mem _ _ _)).step (State.bump_mem _ _ _ _)) fun ht3 => ?_
  clear_value t3
  refine .haveS (t := t4) (ht3.step (State.tchansLeave_mem _ _)) fun ht4 => ?_
  clear_value t4
  split
  · exact ht4.step (State.complete_mem _ _ _ _ _ _ _)
  · exact ht4

theorem State.forceDown_memSafe s a1 : MemSafe s (State.forceDown s a1) := by
  unfold State.forceDown
  extract_lets -merge -underBinder t0 t1 t2 t3 t4 t5 t6
  clear_value t0 t1
  refine .haveS (t := t3) (.upd (.refl _)) fun ht3 => ?_
  clear_value t3
  refine .haveS (t := t4) (ht3.step (State.raiseIf_mem _ _ _ _ _ _).safe) fun ht4 => ?_
  clear_value t4
  refine .haveS (t := t5) (.foldl (fun _ _ => (MemSafe.ite (.refl _) (State.grpRemove_mem _ _ _).safe).step (State.entryAbort_mem _ _).safe)
      _ ht4) fun ht5 => ?_
  clear_value t5
  refine .haveS (t := t6) ?_ fun ht6 => ?_
  · unfold t6
    refine .foldl (fun _ _ => ?_) _ ht5
    extract_lets -merge -underBinder t7
    refine .haveS (t := t7) ?_ fun ht7 => ?_
    · unfold t7
      split
      · exact .refl _
      · extract_lets -merge -underBinder t8
        exact (MemSafe.upd (.refl _)).step (State.outBegin_mem _ _ _).safe
      · exact (State.entryEngine_mem _ _).safe
    exact .ite (ht7.step (State.outDone_mem _ _ _).safe) ht7
  clear_value t6
  exact ht6.step (State.entryDown_memSafe _)

theorem State.forceGo_memSafe s a1 : MemSafe s (State.forceGo s a1) := by
  unfold State.forceGo
  extract_lets -merge -underBinder t0 t1 t2 t3 t4 t5 t6 t7 t8 t9 t10
  clear_value t0
  refine .haveS (t := t1) (State.forceRings_mem _).safe fun ht1 => ?_
  clear_value t1
  refine .haveS (t := t3) (.upd ht1) fun ht3 => ?_
  clear_value t3
  refine .haveS (t := t4) (.foldl (fun _ _ => (State.entryAbort_mem _ _).safe) _ ht3) fun ht4 => ?_
  clear_value t4 t5
  refine .haveS (t := t6) (.ite (ht4.step (State.forceDown_memSafe _ _)) ht4) fun ht6 => ?_
  clear_value t6
  refine .haveS (t := t8) (.upd ht6) fun ht8 => ?_
  clear_value t8
  refine .haveS (t := t9) (ht8.step (State.startWake_mem _ _ _).safe) fun ht9 => ?_
  clear_value t9
  exact .ite ht8 (.ite (.upd ht9) ht8)

theorem State.pwrForce_memSafe s a1 a2 a3 : MemSafe s (State.pwrForce s a1 a2 a3) := by
  unfold State.pwrForce
  extract_lets -merge -underBinder t0
  clear_value t0
  refine State.keyed_memSafe _ _ _ _ fun _ => ?_
  extract_lets -merge -underBinder t1
  refine .haveS (t := t1) (State.storeReg_mem _ _ _ _).safe fun ht1 => ?_
  clear_value t1
  exact .ite (ht1.step (State.forceGo_memSafe _ _)) ht1

theorem State.evtCtrlWrite_mem s a1 : MemKept s (State.evtCtrlWrite s a1) := by
  unfold State.evtCtrlWrite
  extract_lets -merge -underBinder t0
  exact .upd (.refl _)

theorem State.ringRst_mem s a1 : MemKept s (State.ringRst s a1) := by
  unfold State.ringRst
  extract_lets -merge -underBinder t0
  exact .ite (State.setRing_mem _ _ _) (State.raise_mem _ _ _ _ _)

theorem State.ringErr_mem s a1 a2 : MemKept s (State.ringErr s a1 a2) := by
  unfold State.ringErr
  extract_lets -merge -underBinder t0
  exact ((State.putBoth_mem _ _ _ _ _).step (State.setRing_mem _ _ _)).step (State.raise_mem _ _ _ _ _)

theorem State.releaseTo_mem s a1 a2 : MemKept s (State.releaseTo s a1 a2) := by
  unfold State.releaseTo
  extract_lets -merge -underBinder t0 t1
  clear_value t0
  refine .haveS (t := t1) (State.setRing_mem _ _ _) fun ht1 => ?_
  clear_value t1
  refine .ite ?_ ?_
  · refine .foldl (fun _ _ => ?_) _ ht1
    extract_lets -merge -underBinder t2
    exact State.setRing_mem _ _ _
  · exact ht1

theorem State.takeIndex_mem s a1 a2 a3 : MemKept s (State.takeIndex s a1 a2 a3) := by
  unfold State.takeIndex
  extract_lets -merge -underBinder t0 t1 t2 t3
  refine .haveS (t := t0) (State.releaseTo_mem _ _ _) fun ht0 => ?_
  clear_value t0
  refine .haveS (t := t2) (ht0.step (State.setRing_mem _ _ _)) fun ht2 => ?_
  clear_value t2
  exact .ite (State.ringErr_mem _ _ _) (.ite (.ite ht0 (.ite (.upd ht2) ht2)) (State.setRing_mem _ _ _))

theorem State.ringStart_mem s a1 : MemKept s (State.ringStart s a1) := by
  unfold State.ringStart
  extract_lets -merge -underBinder t0 t1 t2
  clear_value t0
  refine .haveS (t := t2) (State.setRing_mem _ _ _) fun ht2 => ?_
  clear_value t2
  refine .ite ?_ ?_
  · exact State.ringErr_mem _ _ _
  · refine .ite ?_ ?_
    · exact State.ringErr_mem _ _ _
    · refine .ite ?_ ?_
      · exact State.ringErr_mem _ _ _
      · split
        · exact ht2.step (State.takeIndex_mem _ _ _ _)
        · exact ht2

theorem State.advance_mem s a1 a2 : MemKept s (State.advance s a1 a2) := by
  unfold State.advance
  extract_lets -merge -underBinder t0
  exact State.setRing_mem _ _ _

theorem State.rxCpl_mem s a1 a2 a3 a4 a5 a6 a7 a8 a9 a10 a11 : MemKept s (State.rxCpl s a1 a2 a3 a4 a5 a6 a7 a8 a9 a10 a11) := by
  unfold State.rxCpl
  extract_lets -merge -underBinder t0
  refine .haveS (t := t0) (State.advance_mem _ _ _) fun ht0 => ?_
  clear_value t0
  exact ht0.step (State.slotUse_mem _ _ _ _)

theorem State.setCopy_mem s a1 a2 : MemKept s (State.setCopy s a1 a2) := by
  unfold State.setCopy
  extract_lets -merge -underBinder t0
  exact .upd (.refl _)

theorem State.txEnd_mem s a1 a2 a3 : MemKept s (State.txEnd s a1 a2 a3) := by
  unfold State.txEnd
  extract_lets -merge -underBinder t0 t1 t2 t3 t4 t5 t6
  clear_value t0 t1
  refine .haveS (t := t2) ?_ fun ht2 => ?_
  · unfold t2
    refine .ite ?_ ?_
    · exact .refl _
    · split
      · refine .step ?_ (State.afterFree_mem _)
        refine .step ?_ (State.dropFrame_mem _ _)
        refine .foldl (fun _ _ => ?_) _ (.refl _)
        split
        · exact State.setCopy_mem _ _ _
        · exact .refl _
      · exact .refl _
  clear_value t2 t3
  refine .haveS (t := t4) ((ht2.step (State.setRing_mem _ _ _)).step (State.advance_mem _ _ _)) fun ht4 => ?_
  clear_value t4
  refine .haveS (t := t6) (.ite (ht4.step (State.setRing_mem _ _ _)) ht4) fun ht6 => ?_
  clear_value t6
  exact .ite (ht6.step (State.slotUse_mem _ _ _ _)) ht6

theorem State.txAbort_mem (s : State) (n k : Nat) :
    MemKept s (s.txAbort n k).1 := by
  induction k generalizing s with
  | zero => exact .refl _
  | succ k ih =>
    unfold State.txAbort
    extract_lets l g whole t
    split
    · exact .refl _
    · exact (State.txEnd_mem _ _ _ _).step (ih _)

theorem State.ringAbort_mem (s : State) (n : Nat) : MemKept s (s.ringAbort n) := by
  unfold State.ringAbort
  extract_lets -underBinder l u t
  have ht : MemKept s t.1 := by
    unfold t
    split
    · exact State.txAbort_mem _ _ _
    · split
      · refine .foldl (fun u f => ?_) _ (.refl _)
        exact (State.setRing_mem _ _ _).step (State.rxCpl_mem _ _ _ _ _ _ _ _ _ _ _ _)
      · exact .foldl (fun u f => State.cplPut_mem _ _ _ _) _ (.refl _)
  exact ht.step (State.setRing_mem _ _ _)

theorem State.ringDrainLimit_mem s a1 : MemKept s (State.ringDrainLimit s a1) := by
  unfold State.ringDrainLimit
  split
  · exact State.ringAbort_mem _ _
  · extract_lets -merge -underBinder t0 t1
    refine .haveS (t := t0) (State.ringAbort_mem _ _) fun ht0 => ?_
    clear_value t0
    exact (ht0.step (State.setRing_mem _ _ _)).step (State.bump_mem _ _ _ _)
  · exact .refl _

theorem State.ringStop_mem s a1 : MemKept s (State.ringStop s a1) := by
  unfold State.ringStop
  refine .ite ?_ ?_
  · exact State.raise_mem _ _ _ _ _
  · split
    · extract_lets -merge -underBinder t0
      exact (State.putBoth_mem _ _ _ _ _).step (State.setRing_mem _ _ _)
    · extract_lets -merge -underBinder t1 t2
      refine .haveS (t := t1) ((State.ringDrainLimit_mem _ _).step (State.putBoth_mem _ _ _ _ _)) fun ht1 => ?_
      clear_value t1
      exact ht1.step (State.setRing_mem _ _ _)
    · exact .refl _

theorem State.ringCtrlWrite_mem s a1 a2 a3 : MemKept s (State.ringCtrlWrite s a1 a2 a3) := by
  unfold State.ringCtrlWrite
  extract_lets -merge -underBinder t0 t1 t2 t3 t4 t5
  clear_value t0 t1 t2 t3
  refine .haveS (t := t4) (.ite (State.storeReg_mem _ _ _ _) (.ite (.upd (.refl _)) (State.raise_mem _ _ _ _ _))) fun ht4 => ?_
  clear_value t4
  refine .haveS (t := t5) (.ite (ht4.step (State.ringRst_mem _ _)) ht4) fun ht5 => ?_
  clear_value t5
  refine .ite ?_ ?_
  · exact ht5
  · refine .ite ?_ ?_
    · split
      · exact (ht5.step (State.putBoth_mem _ _ _ _ _)).step (State.ringStart_mem _ _)
      · exact ht5.step (State.raise_mem _ _ _ _ _)
      · exact ht5
    · exact ht5.step (State.ringStop_mem _ _)

theorem State.ringBaseWrite_mem s a1 a2 a3 : MemKept s (State.ringBaseWrite s a1 a2 a3) := by
  unfold State.ringBaseWrite
  exact .ite (State.storeReg_mem _ _ _ _) (State.raise_mem _ _ _ _ _)

theorem State.laneRetrain_mem s a1 : MemKept s (State.laneRetrain s a1) := by
  unfold State.laneRetrain
  extract_lets -merge -underBinder t0
  clear_value t0
  exact .ite (.ite (State.setLane_mem _ _ _) (.refl _)) (State.retrain_mem _ _)

theorem State.laneCtrlWrite_mem (s : State) (n : Nat) (v m : Word) :
    MemKept s (s.laneCtrlWrite n v m) := by
  unfold State.laneCtrlWrite
  extract_lets k t src t1
  have ht : MemKept s t := by
    unfold t State.rxPolarity
    have h0 : MemKept s (s.storeReg k v m) := State.storeReg_mem _ _ _ _
    exact .ite h0 (h0.step (State.laneUnlock_mem _ _))
  have h1 : MemKept s t1 := by
    unfold t1
    refine .ite (.ite ?_ ht) ?_
    · exact ht.step (State.setLane_mem _ _ _)
    · exact ht.step (State.laneWithdraw_mem _ _)
  exact .ite (h1.step (State.laneRetrain_mem _ _)) h1

theorem State.grpCtrlStore_mem s a1 a2 a3 : MemKept s (State.grpCtrlStore s a1 a2 a3) := by
  unfold State.grpCtrlStore
  extract_lets -merge -underBinder t0 t1 t2
  clear_value t0 t1
  exact .upd (.refl _)

theorem State.grpCtrl_mem s a1 a2 a3 : MemKept s (State.grpCtrl s a1 a2 a3) := by
  unfold State.grpCtrl
  extract_lets -merge -underBinder t0 t1 t2 t3
  clear_value t0 t1 t2
  refine .haveS (t := t3) (State.grpCtrlStore_mem _ _ _ _) fun ht3 => ?_
  clear_value t3
  exact .ite (.refl _) (.ite (State.raise_mem _ _ _ _ _) (.ite (ht3.step (State.grpRemove_mem _ _ _)) (.ite (ht3.step (State.grpReturn_mem _
      _)) ht3)))

theorem State.grpCtrlWrite_mem s a1 a2 a3 a4 : MemKept s (State.grpCtrlWrite s a1 a2 a3 a4) := by
  unfold State.grpCtrlWrite
  exact State.keyed_mem _ _ _ _ (fun _ => State.grpCtrl_mem _ _ _ _)

theorem State.portHoldWrite_mem s a1 a2 a3 : MemKept s (State.portHoldWrite s a1 a2 a3) := by
  unfold State.portHoldWrite
  extract_lets -merge -underBinder t0
  refine .haveS (t := t0) (State.storeReg_mem _ _ _ _) fun ht0 => ?_
  clear_value t0
  exact .ite (ht0.step (State.portFlush_mem _ _)) ht0

theorem State.resCfgWrite_mem s a1 a2 : MemKept s (State.resCfgWrite s a1 a2) := by
  unfold State.resCfgWrite
  extract_lets -merge -underBinder t0
  refine .haveS (t := t0) (State.storeReg_mem _ _ _ _) fun ht0 => ?_
  clear_value t0
  exact .ite (State.raise_mem _ _ _ _ _) ht0

theorem State.assertCause_mem s a1 a2 : MemKept s (State.assertCause s a1 a2) := by
  unfold State.assertCause
  extract_lets -merge -underBinder t0
  clear_value t0
  exact State.setReq_mem _ _ _

theorem State.bpmQuotaWrite_mem s a1 a2 : MemKept s (State.bpmQuotaWrite s a1 a2) := by
  unfold State.bpmQuotaWrite
  extract_lets -merge -underBinder t0
  refine .haveS (t := t0) (State.storeReg_mem _ _ _ _) fun ht0 => ?_
  clear_value t0
  exact (MemKept.ite (ht0.step (State.assertCause_mem _ _ _)) (ht0.step (State.causesClear_mem _))).step (State.xoffUpdate_mem _)

theorem State.swapReq_mem s : MemKept s (State.swapReq s) := by
  unfold State.swapReq
  extract_lets -merge -underBinder t0
  exact .ite (State.raise_mem _ _ _ _ _) (.ite (State.raise_mem _ _ _ _ _) (.ite (State.raise_mem _ _ _ _ _) (.upd (.refl _))))

theorem State.swapCancel_mem s : MemKept s (State.swapCancel s) := by
  unfold State.swapCancel
  extract_lets -merge -underBinder t0
  exact .ite (.upd (.refl _)) (State.raise_mem _ _ _ _ _)

theorem State.swapDrop_mem s a1 : MemKept s (State.swapDrop s a1) := by
  unfold State.swapDrop
  extract_lets -merge -underBinder t0
  exact .ite (.refl _) ((MemKept.upd (.refl _)).step (State.raise_mem _ _ _ _ _))

theorem State.stbyOut_mem s : MemKept s (State.stbyOut s) := by
  unfold State.stbyOut
  extract_lets -merge -underBinder t0
  exact (MemKept.upd (.refl _)).step (State.swapDrop_mem _ _)

theorem State.putStandby_mem s a1 : MemKept s (State.putStandby s a1) := by
  unfold State.putStandby
  extract_lets -merge -underBinder t0 t1 t2
  clear_value t0
  exact .upd (.refl _)

theorem State.stbyIn_mem s : MemKept s (State.stbyIn s) := by
  unfold State.stbyIn
  extract_lets -merge -underBinder t0 t1
  refine .haveS (t := t0) (State.putStandby_mem _ _) fun ht0 => ?_
  clear_value t0
  exact .ite (.refl _) (.upd ht0)

theorem State.swapAct_mem s a1 : MemKept s (State.swapAct s a1) := by
  unfold State.swapAct
  extract_lets -merge -underBinder t0 t1
  refine .haveS (t := t1) (.upd (.refl _)) fun ht1 => ?_
  clear_value t1
  split
  · exact ht1
  · exact ht1.step (State.swapReq_mem _)
  · exact ht1.step (State.swapCancel_mem _)
  · exact ht1.step (State.stbyOut_mem _)
  · exact ht1.step (State.stbyIn_mem _)
  · exact ht1.step (State.raise_mem _ _ _ _ _)

theorem State.swapWrite_mem s a1 a2 : MemKept s (State.swapWrite s a1 a2) := by
  unfold State.swapWrite
  exact State.keyed_mem _ _ _ _ (fun _ => State.swapAct_mem _ _)

theorem State.prefWrite_mem s a1 a2 a3 : MemKept s (State.prefWrite s a1 a2 a3) := by
  unfold State.prefWrite
  extract_lets -merge -underBinder t0 t1 t2 t3 t4 t5 t6 t7
  clear_value t0
  refine .haveS (t := t1) (State.storeReg_mem _ _ _ _) fun ht1 => ?_
  clear_value t1 t2 t3
  refine .haveS (t := t7) (.upd ht1) fun ht7 => ?_
  clear_value t7
  exact .ite ((MemKept.upd ht1).step (State.raise_mem _ _ _ _ _)) (ht7.step (State.reselect_mem _))

theorem State.tempExtWrite_mem s a1 a2 : MemKept s (State.tempExtWrite s a1 a2) := by
  unfold State.tempExtWrite
  extract_lets -merge -underBinder t0 t1
  refine .haveS (t := t0) (State.storeReg_mem _ _ _ _) fun ht0 => ?_
  clear_value t0
  exact .upd ht0

theorem State.surveyStart_mem s : MemKept s (State.surveyStart s) := by
  unfold State.surveyStart
  extract_lets -merge -underBinder t0
  exact .upd (.refl _)

theorem State.surveyHold_mem s : MemKept s (State.surveyHold s) := by
  unfold State.surveyHold
  extract_lets -merge -underBinder t0 t1 t2 t3 t4
  clear_value t0
  refine .haveS (t := t1) ((State.putBoth_mem _ _ _ _ _).step (State.putBoth_mem _ _ _ _ _)) fun ht1 => ?_
  clear_value t1
  refine .haveS (t := t2) ((ht1.step (State.putBoth_mem _ _ _ _ _)).step (State.putBoth_mem _ _ _ _ _)) fun ht2 => ?_
  clear_value t2
  exact .upd ht2

theorem State.surveyCheck_mem s : MemKept s (State.surveyCheck s) := by
  unfold State.surveyCheck
  extract_lets -merge -underBinder t0 t1
  clear_value t0 t1
  exact .ite ((State.surveyHold_mem _).step (State.raise_mem _ _ _ _ _)) (.refl _)

theorem State.posCfgWrite_mem s a1 a2 : MemKept s (State.posCfgWrite s a1 a2) := by
  unfold State.posCfgWrite
  extract_lets -merge -underBinder t0 t1 t2
  refine .haveS (t := t0) (State.storeReg_mem _ _ _ _) fun ht0 => ?_
  clear_value t0
  exact .ite (ht0.step (State.surveyStart_mem _)) (.ite (.upd ht0) (ht0.step (State.surveyCheck_mem _)))

theorem State.gnssRebind_mem s a1 a2 : MemKept s (State.gnssRebind s a1 a2) := by
  unfold State.gnssRebind
  extract_lets -merge -underBinder t0
  exact .ite (.refl _) (.ite (.refl _) (.ite (State.goGnssCh_mem _ _ _) ((State.setGnssCh_mem _ _ _).step (State.goGnssCh_mem _ _ _))))

theorem State.gnssChWrite_mem s a1 a2 a3 a4 : MemKept s (State.gnssChWrite s a1 a2 a3 a4) := by
  unfold State.gnssChWrite
  extract_lets -merge -underBinder t0 t1 t2
  refine .haveS (t := t0) (State.storeReg_mem _ _ _ _) fun ht0 => ?_
  clear_value t0 t2
  exact .ite (.refl _) (.ite (.ite (State.bump_mem _ _ _ _) (State.raise_mem _ _ _ _ _)) (ht0.step (State.gnssRebind_mem _ _ _)))

theorem State.bankGo_mem s a1 a2 : MemKept s (State.bankGo s a1 a2) := by
  unfold State.bankGo
  extract_lets -merge -underBinder t0 t1
  clear_value t0
  exact .ite (.refl _) (.upd (.refl _))

theorem State.spadPwrWrite_mem s a1 a2 a3 : MemKept s (State.spadPwrWrite s a1 a2 a3) := by
  unfold State.spadPwrWrite
  extract_lets -merge -underBinder t0 t1 t2 t3 t4 t5 t6 t7 t8
  clear_value t0
  refine .haveS (t := t1) (State.storeReg_mem _ _ _ _) fun ht1 => ?_
  clear_value t1 t2 t3 t4 t5
  refine .haveS (t := t7) (.upd ht1) fun ht7 => ?_
  clear_value t7
  refine .haveS (t := t8) (.foldl (fun _ _ => State.bankGo_mem _ _ _) _ ht7) fun ht8 => ?_
  clear_value t8
  exact ht8.step (State.raiseIf_mem _ _ _ _ _ _)

theorem State.setPc_mem s a1 a2 a3 : MemKept s (State.setPc s a1 a2 a3) := by
  unfold State.setPc
  extract_lets -merge -underBinder t0
  exact .upd (.refl _)

theorem State.perfSel_mem s a1 a2 a3 a4 : MemKept s (State.perfSel s a1 a2 a3 a4) := by
  unfold State.perfSel
  extract_lets -merge -underBinder t0 t1 t2 t3 t4 t5 t6 t7 t8
  clear_value t0
  refine .haveS (t := t1) (State.storeReg_mem _ _ _ _) fun ht1 => ?_
  clear_value t1 t2 t3 t4 t5
  refine .haveS (t := t7) (.upd ht1) fun ht7 => ?_
  clear_value t7
  refine .haveS (t := t8) ?_ fun ht8 => ?_
  · unfold t8
    refine .foldl (fun _ _ => ?_) _ ht7
    extract_lets -merge -underBinder t9
    exact .ite (State.setPc_mem _ _ _ _) (.ite (.refl _) ((MemKept.upd (.refl _)).step (State.setPc_mem _ _ _ _)))
  clear_value t8
  exact ht8.step (State.raiseIf_mem _ _ _ _ _ _)

theorem State.perfClr_mem s a1 a2 : MemKept s (State.perfClr s a1 a2) := by
  unfold State.perfClr
  exact .foldl (fun _ _ => State.setPc_mem _ _ _ _) _ (.refl _)

theorem State.putReq_mem s a1 : MemKept s (State.putReq s a1) := by
  unfold State.putReq
  extract_lets -merge -underBinder t0 t1 t2
  refine .haveS (t := t0) (State.putBoth_mem _ _ _ _ _) fun ht0 => ?_
  clear_value t0 t1
  exact .upd ht0

theorem State.roleReq_mem s a1 : MemKept s (State.roleReq s a1) := by
  unfold State.roleReq
  extract_lets -merge -underBinder t0 t1 t2 t3
  clear_value t0
  refine .haveS (t := t1) (State.putReq_mem _ _) fun ht1 => ?_
  clear_value t1 t2
  exact .ite (.refl _) (.ite (State.putReq_mem _ _) (.ite ((State.putReq_mem _ _).step (State.pairPromote_mem _ _ _)) (.ite
      (State.putReq_mem _ _) (.ite (.ite ht1 ((MemKept.upd ht1).step (State.omdSend_mem _ _))) (State.raise_mem _ _ _ _ _)))))

theorem State.pairRoleWrite_mem s a1 a2 : MemKept s (State.pairRoleWrite s a1 a2) := by
  unfold State.pairRoleWrite
  exact .ite (.refl _) (State.keyed_mem _ _ _ _ (fun _ => .ite (State.roleReq_mem _ _) (State.storeReg_mem _ _ _ _)))

theorem State.regOwn_memSafe (s : State) (p : Path) (k : RegKey) (v m : Word) {t : State}
    (h : s.regOwn p k v m = some t) : MemSafe s t := by
  unfold State.regOwn at h
  dsimp only at h
  split at h
  · rw [← Option.some.inj h]; exact (State.commitWrite_mem _ _).safe
  · rw [← Option.some.inj h]; exact .ite (.refl _) (State.persWrite_mem _ _ _ _).safe
  · rw [← Option.some.inj h]; exact .ite (.refl _) (State.pwrRequest_memSafe _ _ _)
  · rw [← Option.some.inj h]; exact (State.padRelease_mem _ _).safe
  · rw [← Option.some.inj h]; exact State.pwrForce_memSafe _ _ _ _
  · rw [← Option.some.inj h]; exact (State.evtCtrlWrite_mem _ _).safe
  · rw [← Option.some.inj h]; exact (State.ringCtrlWrite_mem _ _ _ _).safe
  · rw [← Option.some.inj h]; exact (State.ringBaseWrite_mem _ _ _ _).safe
  · rw [← Option.some.inj h]; exact (State.ringBaseWrite_mem _ _ _ _).safe
  · rw [← Option.some.inj h]; exact (State.ringBaseWrite_mem _ _ _ _).safe
  · rw [← Option.some.inj h]; exact (State.laneCtrlWrite_mem _ _ _ _).safe
  · rw [← Option.some.inj h]; exact (State.grpCtrlWrite_mem _ _ _ _ _).safe
  · rw [← Option.some.inj h]; exact (State.portHoldWrite_mem _ _ _ _).safe
  · rw [← Option.some.inj h]; exact (State.resCfgWrite_mem _ _ _).safe
  · rw [← Option.some.inj h]; exact (State.bpmQuotaWrite_mem _ _ _).safe
  · rw [← Option.some.inj h]; exact (State.swapWrite_mem _ _ _).safe
  · rw [← Option.some.inj h]; exact (State.prefWrite_mem _ _ _ _).safe
  · rw [← Option.some.inj h]; exact (State.prefWrite_mem _ _ _ _).safe
  · rw [← Option.some.inj h]; exact (State.tempExtWrite_mem _ _ _).safe
  · rw [← Option.some.inj h]; exact (State.posCfgWrite_mem _ _ _).safe
  · rw [← Option.some.inj h]; exact (State.gnssChWrite_mem _ _ _ _ _).safe
  · rw [← Option.some.inj h]; exact (State.spadPwrWrite_mem _ _ _ _).safe
  · rw [← Option.some.inj h]; exact (State.perfSel_mem _ _ _ _ _).safe
  · rw [← Option.some.inj h]; exact (State.perfClr_mem _ _ _).safe
  · rw [← Option.some.inj h]; exact .ite (State.keyed_mem _ _ _ _ fun _ => .refl _).safe (State.pairRoleWrite_mem _ _ _).safe
  · cases h

end Sys2Proof.Machine
end

section
/-! SUPPORT. What each operation of the machine does to the byte memories, part 5 of 10: one lemma for one operation, in the
order of the lemmas that say what it may change. An operation that writes no byte keeps them (`_mem`), one that may write keeps
their form (`_memSafe`). -/

set_option Elab.async false

namespace Sys2Proof.Machine

theorem State.dropPending_mem s a1 : MemKept s (State.dropPending s a1) := by
  unfold State.dropPending
  extract_lets -merge -underBinder t0
  exact .upd (.refl _)

theorem State.candPass_mem s a1 : MemKept s (State.candPass s a1) := by
  unfold State.candPass
  extract_lets -merge -underBinder t0 t1 t2
  clear_value t0
  refine .haveS (t := t2) (.upd (.refl _)) fun ht2 => ?_
  clear_value t2
  split
  · exact ht2.step (State.setCandSt_mem _ _ _ _)
  · exact .ite (ht2.step (State.setCandSt_mem _ _ _ _)) ht2
  · extract_lets -merge -underBinder t3 t4
    refine .haveS (t := t4) (.ite (.upd ht2) ht2) fun ht4 => ?_
    clear_value t4
    exact (ht4.step (State.bump_mem _ _ _ _)).step (State.setCandSt_mem _ _ _ _)
  · exact ht2

theorem State.recheck_mem s a1 : MemKept s (State.recheck s a1) := by
  unfold State.recheck
  extract_lets -merge -underBinder t0 t1
  clear_value t0 t1
  exact .ite (State.candFail_mem _ _ _) (.ite (State.candPass_mem _ _) (.refl _))

theorem State.chanCand_mem s a1 : MemKept s (State.chanCand s a1) := by
  unfold State.chanCand
  extract_lets -merge -underBinder t0 t1
  clear_value t0 t1
  refine .ite ?_ ?_
  · exact .refl _
  · refine .ite ?_ ?_
    · exact .ite (.refl _) (State.setCandSt_mem _ _ _ _)
    · split
      · exact .ite (.refl _) (.ite (State.setCandSt_mem _ _ _ _) (.ite (State.candFail_mem _ _ _) (.ite (.refl _) (State.setCandSt_mem _ _ _
            _))))
      · exact .ite (.refl _) (.ite ((MemKept.ite (.refl _) (State.setCandSt_mem _ _ _ _)).step (State.setCandSt_mem _ _ _ _)) (.ite
            (State.candFail_mem _ _ _) (.ite (.refl _) (State.setCandSt_mem _ _ _ _))))
      · exact .ite (State.setCandSt_mem _ _ _ _) (.refl _)
      · exact .refl _

theorem State.candEnable_mem s a1 : MemKept s (State.candEnable s a1) := by
  unfold State.candEnable
  extract_lets -merge -underBinder t0
  clear_value t0
  exact .ite (.refl _) (.ite (.ite (.refl _) ((State.setCandSt_mem _ _ _ _).step (State.reselect_mem _))) (.ite (State.setCandSt_mem _ _ _
      _) (.refl _)))

theorem State.candChanged_mem s a1 : MemKept s (State.candChanged s a1) := by
  unfold State.candChanged
  extract_lets -merge -underBinder t0 t1 t2
  refine .haveS (t := t0) ((MemKept.ite (State.chanCand_mem _ _) (State.candEnable_mem _ _)).step (State.recheck_mem _ _)) fun ht0 => ?_
  clear_value t0 t1
  refine .haveS (t := t2) (.ite (ht0.step (State.setCandSt_mem _ _ _ _)) ht0) fun ht2 => ?_
  clear_value t2
  exact (ht2.step (State.reselect_mem _)).step (State.updateClass_mem _)

theorem State.limitsChanged_mem s : MemKept s (State.limitsChanged s) := by
  unfold State.limitsChanged
  exact (MemKept.foldl (fun _ _ => State.recheck_mem _ _) _ (.refl _)).step (State.reselect_mem _)

theorem State.vddMax_mem s : MemKept s (State.vddMax s) := by
  unfold State.vddMax
  exact .ite (.refl _) (State.vddWrite_mem _ _)

theorem State.vsCtrlApplied_mem s : MemKept s (State.vsCtrlApplied s) := by
  unfold State.vsCtrlApplied
  exact .ite (.refl _) (State.vddMax_mem _)

theorem State.ticTbLoss_mem s a1 : MemKept s (State.ticTbLoss s a1) := by
  unfold State.ticTbLoss
  extract_lets -merge -underBinder t0 t1 t2
  refine .haveS (t := t0) (State.raiseIf_mem _ _ _ _ _ _) fun ht0 => ?_
  clear_value t0
  refine .haveS (t := t2) (.upd ht0) fun ht2 => ?_
  clear_value t2
  unfold State.forTic
  refine .foldl (fun _ _ => ?_) _ ht2
  extract_lets -merge -underBinder t3 t4
  refine .haveS (t := t3) (State.ticAbandon_mem _ _) fun ht3 => ?_
  clear_value t3
  exact .ite (ht3.step (State.setTicCh_mem _ _ _)) (.refl _)

theorem State.regActs_mem s a1 a2 : MemKept s (State.regActs s a1 a2) := by
  unfold State.regActs
  split
  · extract_lets -merge -underBinder t0
    exact .ite (.upd (.refl _)) (.ite (State.reselect_mem _) (.refl _))
  · extract_lets -merge -underBinder t1
    exact .ite (.upd (.refl _)) (.refl _)
  · exact State.candChanged_mem _ _
  · exact State.reselect_mem _
  · exact State.limitsChanged_mem _
  · exact State.chansChanged_mem _ _
  · exact State.vsCtrlApplied_mem _
  · exact State.xoffUpdate_mem _
  · exact State.xoffUpdate_mem _
  · exact .ite (State.ticTbLoss_mem _ _) (.refl _)
  · exact .refl _

theorem State.leaveSquelch_mem s a1 a2 : MemKept s (State.leaveSquelch s a1 a2) := by
  unfold State.leaveSquelch
  split
  · exact .refl _
  · refine .step ?_ (State.calLose_mem _ _)
    refine .foldl (fun _ _ => ?_) _ (.refl _)
    extract_lets -merge -underBinder t0
    exact State.setLane_mem _ _ _

theorem State.expressApply_mem (s : State) (p : Nat) : MemKept s (s.expressApply p) := by
  unfold State.expressApply
  extract_lets k t
  refine .ite (.refl _) ?_
  have ht : MemKept s t := State.capCheck_mem s s _ k _ (.refl _)
    (State.applyAt_mem _ _ _)
  clear_value t
  exact .upd ht

theorem State.flowBoundary_mem s a1 : MemKept s (State.flowBoundary s a1) := by
  unfold State.flowBoundary
  refine .foldl (fun _ _ => ?_) _ (.refl _)
  extract_lets -merge -underBinder t0
  clear_value t0
  exact State.setFlow_mem _ _ _

theorem State.frameBoundaryApply_mem s a1 a2 a3 : MemKept s (State.frameBoundaryApply s a1 a2 a3) := by
  unfold State.frameBoundaryApply
  extract_lets -merge -underBinder t0 t1 t2
  refine .haveS (t := t0) ((State.applyAt_mem _ _ _).step (State.leaveSquelch_mem _ _ _)) fun ht0 => ?_
  clear_value t0
  refine .haveS (t := t1) (.ite (ht0.step (State.expressApply_mem _ _)) ht0) fun ht1 => ?_
  clear_value t1
  refine .haveS (t := t2) (.ite (ht1.step (State.flowBoundary_mem _ _)) ht1) fun ht2 => ?_
  clear_value t2
  exact .ite (ht2.step (State.calBoundary_mem _ _ _)) ht2

theorem State.frmNow_mem s a1 : MemKept s (State.frmNow s a1) := by
  unfold State.frmNow
  exact .ite (State.frameBoundaryApply_mem _ _ _ _) (.refl _)

theorem State.portUp_mem s a1 : MemKept s (State.portUp s a1) := by
  unfold State.portUp
  extract_lets -merge -underBinder t0 t1
  clear_value t0
  refine .haveS (t := t1) (State.setPort_mem _ _ _) fun ht1 => ?_
  clear_value t1
  exact .ite (.refl _) (.ite ((ht1.step (State.bump_mem _ _ _ _)).step (State.raise_mem _ _ _ _ _)) ht1)

theorem State.ticUp_mem s : MemKept s (State.ticUp s) := by
  unfold State.ticUp
  unfold State.forTic
  exact .foldl (fun _ _ => State.ticSample_mem _ _) _ (.refl _)

theorem State.gnssUp_mem s : MemKept s (State.gnssUp s) := by
  unfold State.gnssUp
  extract_lets -merge -underBinder t0 t1 t2
  refine .haveS (t := t0) (((State.applyAt_mem _ _ _).step (State.calBoundary_mem _ _ _)).step (State.setReady_mem _ _ _)) fun ht0 => ?_
  clear_value t0
  refine .haveS (t := t2) (.upd ht0) fun ht2 => ?_
  clear_value t2
  exact .foldl (fun _ _ => .ite (State.goGnssCh_mem _ _ _) (.refl _)) _ ht2

theorem State.unitResume_mem s a1 : MemKept s (State.unitResume s a1) := by
  unfold State.unitResume
  refine .ite ?_ ?_
  · exact .refl _
  · split
    · exact State.laneRetrain_mem _ _
    · exact .foldl (fun _ _ => State.laneRetrain_mem _ _) _ (.refl _)
    · exact .ite (State.portUp_mem _ _) (.refl _)
    · exact State.chansChanged_mem _ _
    · exact .ite (State.goGnssCh_mem _ _ _) (.refl _)
    · exact State.ticSample_mem _ _
    · exact .ite (State.goEng_mem _ _ _) (.refl _)
    · exact (State.setReady_mem _ _ _).step (State.ticUp_mem _)
    · exact .ite (State.gnssUp_mem _) (.refl _)
    · exact (State.setReady_mem _ _ _).step (State.pairCommit_mem _)
    · exact (State.setReady_mem _ _ _).step (State.lnkEvalAll_mem _)
    · exact .foldl (fun _ _ => .ite (State.goEng_mem _ _ _) (.refl _)) _ (.refl _)
    · refine .ite ?_ ?_
      · exact .refl _
      · split
        · exact State.setReady_mem _ _ _
        · exact .refl _

theorem State.regAfter_mem s a1 a2 : MemKept s (State.regAfter s a1 a2) := by
  unfold State.regAfter
  extract_lets -merge -underBinder t0 t1
  refine .haveS (t := t0) (State.regActs_mem _ _ _) fun ht0 => ?_
  clear_value t0
  refine .haveS (t := t1) ?_ fun ht1 => ?_
  · unfold t1
    split
    · exact ht0.step (State.frmNow_mem _ _)
    · exact ht0
  clear_value t1
  exact .ite (ht1.step (State.unitResume_mem _ _)) ht1

theorem State.heldRun_memSafe (s : State) (x : Pend) : MemSafe s (s.heldRun x) := by
  unfold State.heldRun
  extract_lets v s1 t
  have h1 : MemSafe s s1 := (State.dropPending_mem s _).safe.step
    (State.revertBits_mem _ _ _).safe
  have ht : MemSafe s t := by
    unfold t
    split
    · exact h1.step (State.roleReq_mem _ _).safe
    · exact .getD h1 (fun u hu => h1.step (State.regOwn_memSafe _ _ _ _ _ hu))
  exact ht.step (State.regAfter_mem _ _ _).safe

theorem State.heldGo_memSafe s a1 : MemSafe s (State.heldGo s a1) := by
  unfold State.heldGo
  exact .foldl (fun _ _ => .ite (State.heldRun_memSafe _ _) (State.regAfter_mem _ _ _).safe) _ (.refl _)

theorem State.regSet_memSafe (s : State) (p : Path) (k : RegKey) (v m : Word) :
    MemSafe s (s.regSet p k v m) := by
  unfold State.regSet
  refine .ite (.refl _) ?_
  extract_lets t
  have hh : ∀ u : State, MemKept u (u.holdReg p k v m) := fun u => State.holdReg_mem _ _ _ _ _
  have ht : MemSafe s t := by
    unfold t
    refine .ite (.ite (State.keyed_mem _ _ _ _ hh).safe (hh s).safe) ?_
    split
    · next h => exact State.regOwn_memSafe _ _ _ _ _ h
    · exact .ite (.refl _) (State.storeReg_mem _ _ _ _).safe
  exact (ht.step (State.regAfter_mem _ _ _).safe).step (State.heldGo_memSafe _ _)

theorem State.barRead_mem s a1 a2 : MemKept s (State.barRead s a1 a2) := by
  unfold State.barRead
  extract_lets -merge -underBinder t0
  clear_value t0
  exact .ite (.upd (.refl _)) (.upd (.refl _))

theorem State.mbxTaken_mem s a1 a2 a3 : MemKept s (State.mbxTaken s a1 a2 a3) := by
  unfold State.mbxTaken
  extract_lets -merge -underBinder t0
  clear_value t0
  exact .ite (.upd (.refl _)) (.refl _)

theorem State.busRead_mem s a1 a2 a3 : MemKept s (State.busRead s a1 a2 a3) := by
  unfold State.busRead
  extract_lets -merge -underBinder t0 t1 t2
  clear_value t0 t1 t2
  refine .ite ?_ ?_
  · exact .ite (State.barRead_mem _ _ _) (.upd (.refl _))
  · split
    · extract_lets -merge -underBinder t3 t4
      refine .haveS (t := t3) (.upd (.refl _)) fun ht3 => ?_
      clear_value t3
      exact .ite ht3 (.ite (.ite (.upd ht3) ht3) (.ite ht3 (ht3.step (State.rcClear_mem _ _ _))))
    · split
      · extract_lets -merge -underBinder t5
        refine .haveS (t := t5) (.upd (.refl _)) fun ht5 => ?_
        clear_value t5
        exact .ite (ht5.step (State.mbxTaken_mem _ _ _ _)) ht5
      · exact .upd (.refl _)

theorem State.enqueue_mem s a1 a2 a3 : MemKept s (State.enqueue s a1 a2 a3) := by
  unfold State.enqueue
  split
  · exact .refl _
  · extract_lets -merge -underBinder t0 t1 t2 t3
    clear_value t0 t1 t2
    refine .haveS (t := t3) (State.setCopy_mem _ _ _) fun ht3 => ?_
    clear_value t3
    exact .ite (((State.tsLost_mem _ _ _).step (State.bump_mem _ _ _ _)).step (State.removeCopy_mem _ _)) (.ite ht3 (ht3.step
        (State.setQueue_mem _ _ _ _)))

theorem State.lnkBypass_mem s : MemKept s (State.lnkBypass s) := by
  unfold State.lnkBypass
  exact .foldl (fun _ _ => State.lnkPhiLost_mem _ _) _ (.refl _)

theorem State.pllBypass_mem s a1 a2 a3 : MemKept s (State.pllBypass s a1 a2 a3) := by
  unfold State.pllBypass
  exact .ite (((State.ltxFold_mem _).step (State.pllToBypass_mem _ _ _ _)).step (State.lnkBypass_mem _)) (State.pllToBypass_mem _ _ _ _)

theorem State.refclkLoss_mem s : MemKept s (State.refclkLoss s) := by
  unfold State.refclkLoss
  extract_lets -merge -underBinder t0 t1
  refine .haveS (t := t1) ((MemKept.upd (.refl _)).step (State.raise_mem _ _ _ _ _)) fun ht1 => ?_
  clear_value t1
  refine .ite ?_ ?_
  · exact .refl _
  · refine .foldl (fun _ _ => ?_) _ ht1
    extract_lets -merge -underBinder t2
    clear_value t2
    exact .ite (State.pllBypass_mem _ _ _ _) (.ite (State.setPll_mem _ _ _) (.refl _))

theorem State.refHoldoffExpire_mem s a1 : MemKept s (State.refHoldoffExpire s a1) := by
  unfold State.refHoldoffExpire
  exact .ite ((State.setCandSt_mem _ _ _ _).step (State.reselect_mem _)) (.refl _)

theorem State.runCmd_memSafe (s : State) (d : CmdDesc) (o : Nat) (c : Checks) (f : State → State) (h : ∀ t, MemSafe t (f t)) :
    MemSafe s (s.runCmd d o c f) := by
  unfold State.runCmd
  exact .ite (.refl _) ((State.startCmd_mem _ _).safe.step (State.checked_memSafe _ _ _ _ _ h))

theorem State.runCmd_mem (s : State) (d : CmdDesc) (o : Nat) (c : Checks) (f : State → State) (h : ∀ t, MemKept t (f t)) :
    MemKept s (s.runCmd d o c f) := by
  unfold State.runCmd
  exact .ite (.refl _) ((State.startCmd_mem s d).step
    (State.checked_mem _ _ _ _ _ h))

theorem State.fdbLookup_mem s a1 : MemKept s (State.fdbLookup s a1) := by
  unfold State.fdbLookup
  extract_lets -merge -underBinder t0 t1 t2
  clear_value t0 t1
  exact State.runCmd_mem _ _ _ _ _ (fun _ => State.complete_mem _ _ _ _ _ _ _)

theorem State.lnkTlv_mem s a1 a2 : MemKept s (State.lnkTlv s a1 a2) := by
  unfold State.lnkTlv
  extract_lets -merge -underBinder t0
  clear_value t0
  refine .ite ?_ ?_
  · exact .refl _
  · split
    · exact (State.setLnk_mem _ _ _).step (State.lnkEval_mem _ _)
    · extract_lets -merge -underBinder t1
      clear_value t1
      exact (State.setLnk_mem _ _ _).step (State.lnkEval_mem _ _)

theorem State.intTimerExpire_mem s a1 : MemKept s (State.intTimerExpire s a1) := by
  unfold State.intTimerExpire
  extract_lets -merge -underBinder t0
  clear_value t0
  exact .ite (.upd (.refl _)) (.refl _)

theorem State.lnkPhiValid_mem s a1 : MemKept s (State.lnkPhiValid s a1) := by
  unfold State.lnkPhiValid
  extract_lets -merge -underBinder t0 t1
  clear_value t0 t1
  exact .ite (.refl _) (((MemKept.upd (.refl _)).step (State.setLnk_mem _ _ _)).step (State.lnkEval_mem _ _))

theorem State.lanePhaseValid_mem s a1 : MemKept s (State.lanePhaseValid s a1) := by
  unfold State.lanePhaseValid
  extract_lets -merge -underBinder t0
  exact .ite (.refl _) ((State.setLane_mem _ _ _).step (State.lnkPhiValid_mem _ _))

theorem State.tchanTimeout_mem s a1 : MemKept s (State.tchanTimeout s a1) := by
  unfold State.tchanTimeout
  extract_lets -merge -underBinder t0
  clear_value t0
  exact .ite (.refl _) (State.chanLost_mem _ _)

theorem State.setCb_mem s a1 a2 : MemKept s (State.setCb s a1 a2) := by
  unfold State.setCb
  extract_lets -merge -underBinder t0
  exact .upd (.refl _)

theorem State.cbKeep_mem (s : State) (fr : Frame) (k : Nat) (x : CbFn) :
    MemKept s (s.cbKeep fr k x) := by
  unfold State.cbKeep
  split
  · exact .refl _
  · refine .ite (State.setCb_mem _ _ _) ?_
    extract_lets t
    have ht : MemKept s t := MemKept.elim (.refl _) (fun y => State.setCb_mem _ _ _)
    clear_value t
    exact .upd ht

theorem State.cbGenerate_mem s a1 a2 : MemKept s (State.cbGenerate s a1 a2) := by
  unfold State.cbGenerate
  split
  · extract_lets -merge -underBinder t0
    clear_value t0
    refine .foldl (fun _ _ => ?_) _ (State.cbKeep_mem _ _ _ _)
    split
    · exact .ite (.refl _) (State.setCopy_mem _ _ _)
    · exact .refl _
  · exact .refl _

theorem State.domTrimOff_memSafe s a1 : MemSafe s (State.domTrimOff s a1) := by
  unfold State.domTrimOff
  exact .ite (.ite ((State.grpLose_mem _ _).safe.step (State.domSleep_mem _ _ _).safe) (.refl _)) (.ite (State.setBankMode_memSafe _ _ _)
      (.ite (.refl _) (.ite ((State.gnssDown_mem _ _).safe.step (State.domSleep_mem _ _ _).safe) (.ite (State.domSleep_mem _ _ _).safe
      ((State.engOff_mem _ _).safe.step (State.domSleep_mem _ _ _).safe)))))

theorem State.wakeUnits_memSafe s : MemSafe s (State.wakeUnits s) := by
  unfold State.wakeUnits
  extract_lets -merge -underBinder t0 t1 t2 t3 t4 t5 t6
  clear_value t0
  refine .haveS (t := t1) (.ite (.foldl (fun _ _ => State.domTrimOff_memSafe _ _) _ (.refl _)) (.refl _)) fun ht1 => ?_
  clear_value t1 t2
  refine .haveS (t := t3) ?_ fun ht3 => ?_
  · unfold t3
    refine .foldl (fun _ _ => ?_) _ ht1
    split
    · exact (State.goEng_mem _ _ _).safe
    · split
      · extract_lets -merge -underBinder t7
        exact ((State.setEng_mem _ _ _).safe.step (State.goEng_mem _ _ _).safe).step (State.goEng_mem _ _ _).safe
      · exact .refl _
    · exact .refl _
  clear_value t3 t4
  refine .haveS (t := t5) (.foldl (fun _ _ => .ite (State.grpReturn_mem _ _).safe (.refl _)) _ ht3) fun ht5 => ?_
  clear_value t5
  exact .upd ht5

theorem State.pwrWakeSupplyOk_memSafe s : MemSafe s (State.pwrWakeSupplyOk s) := by
  unfold State.pwrWakeSupplyOk
  split
  · extract_lets -merge -underBinder t0 t1 t2 t3
    clear_value t0
    refine .haveS (t := t3) (.upd (.refl _)) fun ht3 => ?_
    clear_value t3
    exact .ite (ht3.step (State.wakeUnits_memSafe _)) ht3
  · exact .refl _

theorem State.calLoad_mem s a1 a2 : MemKept s (State.calLoad s a1 a2) := by
  unfold State.calLoad
  extract_lets -merge -underBinder t0 t1 t2
  refine .haveS (t := t2) (.upd (.refl _)) fun ht2 => ?_
  clear_value t2
  refine .ite ?_ ?_
  · exact .upd (.refl _)
  · refine .ite ?_ ?_
    · exact ht2.step (State.calOffer_mem _ _ _ _)
    · split
      · exact ht2.step (State.calOffer_mem _ _ _ _)
      · exact ht2

theorem State.calReload_mem s a1 : MemKept s (State.calReload s a1) := by
  unfold State.calReload
  extract_lets -merge -underBinder t0 t1 t2
  clear_value t0 t1 t2
  refine State.runCmd_mem _ _ _ _ _ (fun _ => ?_)
  extract_lets -merge -underBinder t3
  refine .ite ?_ ?_
  · exact .ite (State.complete_mem _ _ _ _ _ _ _) ((MemKept.upd (.refl _)).step (State.complete_mem _ _ _ _ _ _ _))
  · split
    · exact (State.raise_mem _ _ _ _ _).step (State.complete_mem _ _ _ _ _ _ _)
    · exact (State.calLoad_mem _ _ _).step (State.complete_mem _ _ _ _ _ _ _)
    · exact State.complete_mem _ _ _ _ _ _ _

theorem State.doorbell_mem s a1 a2 a3 a4 : MemKept s (State.doorbell s a1 a2 a3 a4) := by
  unfold State.doorbell
  extract_lets -merge -underBinder t0 t1
  clear_value t0 t1
  exact .ite (State.bump_mem _ _ _ _) (.ite (State.setRing_mem _ _ _) (State.takeIndex_mem _ _ _ _))

theorem State.msixUnmask_mem s a1 : MemKept s (State.msixUnmask s a1) := by
  unfold State.msixUnmask
  extract_lets -merge -underBinder t0 t1
  clear_value t1
  exact .upd (.refl _)

theorem State.bar4Write_mem s a1 a2 a3 : MemKept s (State.bar4Write s a1 a2 a3) := by
  unfold State.bar4Write
  extract_lets -merge -underBinder t0 t1 t2 t3
  clear_value t0 t1 t2
  dsimp only [t3]
  exact .ite (.refl _) (.ite (.upd (.refl _)) (.ite (.upd (.refl _)) (.ite (.upd (.refl _)) (.ite (.refl _) (.ite (State.msixUnmask_mem _ _)
      (.upd (.refl _)))))))

theorem State.barWrite_mem s a1 a2 a3 : MemKept s (State.barWrite s a1 a2 a3) := by
  unfold State.barWrite
  exact .ite (State.doorbell_mem _ _ _ _ _) (.ite (State.bar4Write_mem _ _ _ _) (.refl _))

theorem State.putSpad_memSafe (s : State) (o v : Nat) : MemSafe s (s.putSpad o v) :=
  .spad (.refl s) fun hw => Memory.writes_wf _ _ _ _ hw

theorem State.portA_memSafe s a1 a2 : MemSafe s (State.portA s a1 a2) := by
  unfold State.portA
  exact .ite (.refl _) (State.putSpad_memSafe _ _ _)

theorem State.bankOffAccess_mem s a1 : MemKept s (State.bankOffAccess s a1) := by
  unfold State.bankOffAccess
  extract_lets -merge -underBinder t0 t1
  refine .haveS (t := t0) (State.bump_mem _ _ _ _) fun ht0 => ?_
  clear_value t0
  exact .ite ht0 ((MemKept.upd ht0).step (State.raise_mem _ _ _ _ _))

theorem State.spadWrite_memSafe s a1 a2 a3 : MemSafe s (State.spadWrite s a1 a2 a3) := by
  unfold State.spadWrite
  extract_lets -merge -underBinder t0
  clear_value t0
  refine .ite ?_ ?_
  · exact ((State.portA_memSafe _ _ _).step (State.bump_mem _ _ _ _).safe).step (State.raise_mem _ _ _ _ _).safe
  · refine .ite ?_ ?_
    · exact (State.bankOffAccess_mem _ _).safe
    · split
      · exact ((State.portA_memSafe _ _ _).step (State.bump_mem _ _ _ _).safe).step (State.raise_mem _ _ _ _ _).safe
      · exact (State.portA_memSafe _ _ _).step (State.putSpad_memSafe _ _ _)

theorem State.spadPlain_memSafe s a1 a2 a3 a4 : MemSafe s (State.spadPlain s a1 a2 a3 a4) := by
  unfold State.spadPlain
  exact .ite ((State.portA_memSafe _ _ _).step (State.bump_mem _ _ _ _).safe) (State.spadWrite_memSafe _ _ _ _)

theorem State.badAccess_mem s : MemKept s (State.badAccess s) := by
  unfold State.badAccess
  exact State.bump_mem _ _ _ _

theorem State.keyWrite_mem s a1 a2 : MemKept s (State.keyWrite s a1 a2) := by
  unfold State.keyWrite
  extract_lets -merge -underBinder t0 t1 t2 t3
  clear_value t0 t1 t2 t3
  exact .ite (.refl _) (.ite (.upd (.refl _)) (.upd (.refl _)))

theorem State.mbxSys_mem (s : State) (b : Block) (sel : Nat) : MemKept s (s.mbxSys b sel).1 := by
  unfold State.mbxSys
  dsimp only
  repeat' split
  all_goals exact .upd (.refl _)

theorem State.mbxLane_mem (s : State) (b : Block) (sel : Nat) : MemKept s (s.mbxLane b sel).1 := by
  unfold State.mbxLane
  dsimp only
  repeat' split
  all_goals exact .upd (.refl _)

theorem State.mbxBpm_mem (s : State) (b : Block) (sel : Nat) : MemKept s (s.mbxBpm b sel).1 := by
  unfold State.mbxBpm
  dsimp only
  repeat' split
  all_goals exact .upd (.refl _)

theorem State.mbxTcore_mem (s : State) (b : Block) (sel : Nat) : MemKept s (s.mbxTcore b sel).1 := by
  unfold State.mbxTcore
  dsimp only
  repeat' split
  all_goals exact .upd (.refl _)

theorem State.mbxRef_mem (s : State) (b : Block) (sel : Nat) : MemKept s (s.mbxRef b sel).1 := by
  unfold State.mbxRef
  dsimp only
  repeat' split
  all_goals exact .upd (.refl _)

theorem State.mbxGnss_mem (s : State) (sel : Nat) : MemKept s (s.mbxGnss sel).1 := by
  unfold State.mbxGnss
  dsimp only
  repeat' split
  all_goals exact .upd (.refl _)

theorem State.mbxTic_mem (s : State) (b : Block) (sel : Nat) : MemKept s (s.mbxTic b sel).1 := by
  unfold State.mbxTic
  dsimp only
  repeat' split
  all_goals exact .upd (.refl _)

theorem State.mbxEng_mem (s : State) (b : Block) (sel : Nat) : MemKept s (s.mbxEng b sel).1 := by
  unfold State.mbxEng
  dsimp only
  repeat' split
  all_goals exact .upd (.refl _)

theorem State.mbxPerf_mem (s : State) (sel : Nat) : MemKept s (s.mbxPerf sel).1 := by
  unfold State.mbxPerf
  dsimp only
  repeat' split
  all_goals exact .upd (.refl _)

theorem State.mbxSnap_mem (s : State) (b : Block) (sel : Nat) : MemKept s (s.mbxSnap b sel).1 := by
  unfold State.mbxSnap
  split
  · exact .refl _
  · cases b with
    | lane | port | sw => exact State.mbxLane_mem _ _ _
    | bpm | fdb => exact State.mbxBpm_mem _ _ _
    | tcore | lnk => exact State.mbxTcore_mem _ _ _
    | ref | pll => exact State.mbxRef_mem _ _ _
    | gnss => exact State.mbxGnss_mem _ _
    | tic | cal => exact State.mbxTic_mem _ _ _
    | eng | pair => exact State.mbxEng_mem _ _ _
    | perf => exact State.mbxPerf_mem _ _
    | _ => exact State.mbxSys_mem _ _ _

theorem State.mbxAsk_mem (s : State) (p : Path) (b : Block) (v : Word) :
    MemKept s (s.mbxAsk p b v) := by
  unfold State.mbxAsk
  exact .ite (.refl _) (.upd (State.mbxSnap_mem _ _ _))

theorem State.wordWrite_memSafe s a1 a2 a3 a4 : MemSafe s (State.wordWrite s a1 a2 a3 a4) := by
  unfold State.wordWrite
  split
  · exact .ite (State.keyWrite_mem _ _ _).safe (.ite (.refl _) (State.regSet_memSafe _ _ _ _ _))
  · split
    · exact .ite (.refl _) (State.mbxAsk_mem _ _ _ _).safe
    · exact .refl _
    · exact (State.badAccess_mem _).safe

theorem State.aliasWrite_memSafe s a1 a2 a3 a4 : MemSafe s (State.aliasWrite s a1 a2 a3 a4) := by
  unfold State.aliasWrite
  split
  · extract_lets -merge -underBinder t0
    clear_value t0
    exact .ite (.refl _) (State.regSet_memSafe _ _ _ _ _)
  · exact .ite (.refl _) (State.badAccess_mem _).safe

theorem State.busWrite_memSafe s a1 a2 a3 a4 : MemSafe s (State.busWrite s a1 a2 a3 a4) := by
  unfold State.busWrite
  extract_lets -merge -underBinder t0
  clear_value t0
  refine .ite ?_ ?_
  · exact .ite (State.barWrite_mem _ _ _ _).safe (.refl _)
  · refine .ite ?_ ?_
    · refine .ite ?_ ?_
      · exact .refl _
      · split
        · exact State.spadPlain_memSafe _ _ _ _ _
        · exact State.spadWrite_memSafe _ _ _ _
        · exact State.spadWrite_memSafe _ _ _ _
        · exact (State.bump_mem _ _ _ _).safe
    · refine .ite ?_ ?_
      · exact (State.badAccess_mem _).safe
      · split
        · exact State.wordWrite_memSafe _ _ _ _ _
        · exact State.aliasWrite_memSafe _ _ _ _ _

theorem State.cfgWrite_memSafe s a1 : MemSafe s (State.cfgWrite s a1) := by
  unfold State.cfgWrite
  extract_lets -merge -underBinder t0 t1
  clear_value t0
  exact .ite (.upd (.refl _)) (State.busWrite_memSafe _ _ _ _ _)

theorem State.ltxMove_mem s a1 : MemKept s (State.ltxMove s a1) := by
  unfold State.ltxMove
  extract_lets -merge -underBinder t0
  exact .upd (.refl _)

theorem State.markSecond_mem s : MemKept s (State.markSecond s) := by
  unfold State.markSecond
  extract_lets -merge -underBinder t0
  exact .upd (.refl _)

theorem State.pllStepped_mem s : MemKept s (State.pllStepped s) := by
  unfold State.pllStepped
  refine .foldl (fun _ _ => ?_) _ (.refl _)
  extract_lets -merge -underBinder t0
  exact State.setPll_mem _ _ _

theorem State.gateResync_mem s a1 : MemKept s (State.gateResync s a1) := by
  unfold State.gateResync
  extract_lets -merge -underBinder t0
  clear_value t0
  split
  · exact .refl _
  · extract_lets -merge -underBinder t1 t2
    clear_value t1 t2
    exact State.setPort_mem _ _ _

theorem State.gatesResync_mem s : MemKept s (State.gatesResync s) := by
  unfold State.gatesResync
  exact .foldl (fun _ _ => State.gateResync_mem _ _) _ (.refl _)

theorem State.swapAfterStep_mem s : MemKept s (State.swapAfterStep s) := by
  unfold State.swapAfterStep
  extract_lets -merge -underBinder t0
  exact .upd (.refl _)

theorem State.beacon_mem s : MemKept s (State.beacon s) := by
  unfold State.beacon
  exact State.raiseIf_mem _ _ _ _ _ _

end Sys2Proof.Machine
end

section
/-! SUPPORT. What each operation of the machine does to the byte memories, part 6 of 10: one lemma for one operation, in the
order of the lemmas that say what it may change. An operation that writes no byte keeps them (`_mem`), one that may write keeps
their form (`_memSafe`). -/

set_option Elab.async false

namespace Sys2Proof.Machine

theorem State.pllAlignNow_mem (s : State) (x : Nat) : MemKept s (s.pllAlignNow x).1 := by
  unfold State.pllAlignNow
  extract_lets outs want good bad s1 s2 s3
  split
  · exact .refl _
  · refine .foldl (fun u k => State.raise_mem _ _ _ _ _) _ ?_
    exact ((MemKept.upd (.refl _)).step (State.setPll_mem _ _ _)).step
      (State.raiseIf_mem _ _ _ _ _ _)

theorem State.pllSec_mem (s : State) : MemKept s s.pllSec := by
  unfold State.pllSec
  extract_lets -underBinder s1 s2
  have h1 : MemKept s s1 := by
    refine .foldl (fun u x => MemKept.ite ?_ (.refl _)) _ (.refl _)
    exact (State.pllAlignNow_mem _ _).step (State.setPll_mem _ _ _)
  refine .foldl (fun u d => ?_) _ (.upd h1)
  exact ((State.pllAlignNow_mem _ _).step (.upd (.refl _))).step
    (State.complete_mem _ _ _ _ _ _ _)

theorem State.secPoint_mem s : MemKept s (State.secPoint s) := by
  unfold State.secPoint
  extract_lets -merge -underBinder t0 t1 t2
  refine .haveS (t := t0) (.ite (State.commit_mem _) (.refl _)) fun ht0 => ?_
  clear_value t0
  refine .haveS (t := t1) (ht0.step (State.applyAt_mem _ _ _)) fun ht1 => ?_
  clear_value t1
  refine .haveS (t := t2) (.foldl (fun _ _ => State.calBoundary_mem _ _ _) _ ht1) fun ht2 => ?_
  clear_value t2
  exact ((ht2.step (State.updateClass_mem _)).step (State.pllSec_mem _)).step (State.beacon_mem _)

theorem State.moveCores_mem s a1 a2 : MemKept s (State.moveCores s a1 a2) := by
  unfold State.moveCores
  extract_lets -merge -underBinder t0 t1 t2 t3 t4 t5 t6 t7 t8
  clear_value t0 t1
  refine .haveS (t := t2) (((MemKept.upd (.refl _)).step (State.markSecond_mem _)).step (State.ltxMove_mem _ _)) fun ht2 => ?_
  clear_value t2
  refine .haveS (t := t7) (.upd ht2) fun ht7 => ?_
  clear_value t7
  refine .haveS (t := t8) (((ht7.step (State.swapAfterStep_mem _)).step (State.gatesResync_mem _)).step (State.pllStepped_mem _)) fun ht8 =>
      ?_
  clear_value t8
  exact (ht8.step (State.raise_mem _ _ _ _ _)).step (State.secPoint_mem _)

theorem State.applyStep_mem s a1 : MemKept s (State.applyStep s a1) := by
  unfold State.applyStep
  exact State.moveCores_mem _ _ _

theorem State.freeRate_mem s : MemKept s (State.freeRate s) := by
  unfold State.freeRate
  extract_lets -merge -underBinder t0 t1 t2
  clear_value t0 t1
  refine .haveS (t := t2) (.upd (.refl _)) fun ht2 => ?_
  clear_value t2
  split
  · exact ht2.step (State.setRate_mem _ _)
  · exact ht2.step (State.setRate_mem _ _)

theorem State.servoTake_mem s a1 : MemKept s (State.servoTake s a1) := by
  unfold State.servoTake
  extract_lets -merge -underBinder t0 t1 t2 t3 t4 t5 t6
  clear_value t0
  refine .haveS (t := t2) (.upd (.refl _)) fun ht2 => ?_
  clear_value t2
  refine .haveS (t := t4) (ht2.step (State.freeRate_mem _)) fun ht4 => ?_
  clear_value t4
  refine .haveS (t := t6) (.ite (.upd ht4) ht4) fun ht6 => ?_
  clear_value t6
  exact .ite (.refl _) (.ite (.refl _) (.ite ((MemKept.upd ht2).step (State.applyStep_mem _ _)) (.ite (ht6.step (State.setTstate_mem _ _ _))
      ht6)))

theorem State.resyncDone_mem s : MemKept s (State.resyncDone s) := by
  unfold State.resyncDone
  extract_lets -merge -underBinder t0 t1 t2 t3
  clear_value t0
  refine .haveS (t := t1) ((State.goPair_mem _ _).step (State.raise_mem _ _ _ _ _)) fun ht1 => ?_
  clear_value t1
  refine .haveS (t := t3) (.upd ht1) fun ht3 => ?_
  clear_value t3
  split
  · exact ht3.step (State.complete_mem _ _ _ _ _ _ _)
  · exact ht3

theorem State.calModify_mem s a1 : MemKept s (State.calModify s a1) := by
  unfold State.calModify
  extract_lets -merge -underBinder t0 t1 t2
  clear_value t0
  refine .haveS (t := t2) (State.setObj_mem _ _ _ _) fun ht2 => ?_
  clear_value t2
  exact (MemKept.upd ht2).step (State.complete_mem _ _ _ _ _ _ _)

theorem State.calJobTimeout_mem s a1 : MemKept s (State.calJobTimeout s a1) := by
  unfold State.calJobTimeout
  exact .ite (.refl _) ((State.calCheckLost_mem _ _).step (State.calAbortJob_mem _ _))

theorem State.giveBuf_mem (s : State) (p r : Nat) (hr : Bool) (flow : Option Nat) (c : Nat) : MemKept s (s.giveBuf p r hr flow c) := by
  unfold State.giveBuf
  split
  · next b t x ht hx => exact (State.takeBuf_mem s p r hr flow ht).step (State.setCopy_mem _ _ _)
  · exact .refl _

theorem State.giveRefused_mem s a1 a2 a3 a4 : MemKept s (State.giveRefused s a1 a2 a3 a4) := by
  unfold State.giveRefused
  extract_lets -merge -underBinder t0
  refine .haveS (t := t0) (State.giveBuf_mem _ _ _ _ _ _) fun ht0 => ?_
  clear_value t0
  split
  · exact ht0.step (State.setCopy_mem _ _ _)
  · exact ht0

theorem State.refusedBuf_mem (s : State) (r c : Nat) {t : State}
    (h : s.refusedBuf r c = some t) : MemKept s t := by
  unfold State.refusedBuf at h
  split at h
  · cases h; exact State.giveRefused_mem _ _ _ _ _
  · obtain ⟨p, _, rfl⟩ := Option.map_eq_some_iff.mp h
    exact State.giveRefused_mem _ _ _ _ _

theorem State.refusedGive_mem (s : State) (r : Nat) (cs : List Nat) {t : State}
    (h : s.refusedGive r cs = some t) : MemKept s t := by
  induction cs generalizing s with
  | nil => cases h; exact .refl _
  | cons c cs ih =>
    unfold State.refusedGive at h
    obtain ⟨u, hu, ht⟩ := Option.bind_eq_some_iff.mp h
    exact (State.refusedBuf_mem _ _ _ hu).step (ih _ ht)

theorem State.refusedDrop_mem s a1 a2 : MemKept s (State.refusedDrop s a1 a2) := by
  unfold State.refusedDrop
  extract_lets -merge -underBinder t0 t1 t2 t3 t4
  clear_value t0 t1
  refine .haveS (t := t2) ((MemKept.ite (State.bump_mem _ _ _ _) (State.bump_mem _ _ _ _)).step (State.raiseIf_mem _ _ _ _ _ _)) fun ht2 =>
      ?_
  clear_value t2
  refine .haveS (t := t4) (ht2.step (State.setReq_mem _ _ _)) fun ht4 => ?_
  clear_value t4
  exact .foldl (fun _ _ => State.removeCopy_mem _ _) _ ht4

theorem State.refusedBufs_mem (s : State) (r : Nat) (cs : List Nat) :
    MemKept s (s.refusedBufs r cs) := by
  unfold State.refusedBufs
  exact .getD (State.refusedDrop_mem _ _ _)
    (fun t ht => State.refusedGive_mem _ _ _ ht)

theorem State.engDrainEnd_mem s a1 : MemKept s (State.engDrainEnd s a1) := by
  unfold State.engDrainEnd
  exact .ite (State.outDone_mem _ _ _) (.refl _)

theorem State.pwrWakeDone_memSafe s : MemSafe s (State.pwrWakeDone s) := by
  unfold State.pwrWakeDone
  split
  · extract_lets -merge -underBinder t0 t1 t2
    clear_value t0
    refine .haveS (t := t1) (.upd (.refl _)) fun ht1 => ?_
    clear_value t1
    refine .haveS (t := t2) (.ite (ht1.step (State.setReady_mem _ _ _).safe) ht1) fun ht2 => ?_
    clear_value t2
    exact (ht2.step (State.raise_mem _ _ _ _ _).safe).step (State.pwrSettle_memSafe _)
  · exact .refl _

theorem State.vscaleUnheldTimeout_mem s : MemKept s (State.vscaleUnheldTimeout s) := by
  unfold State.vscaleUnheldTimeout
  extract_lets -merge -underBinder t0
  exact .ite (.refl _) ((MemKept.upd (.refl _)).step (State.vddMax_mem _))

theorem State.returnStepped_mem s a1 : MemKept s (State.returnStepped s a1) := by
  unfold State.returnStepped
  extract_lets -merge -underBinder t0 t1
  refine .haveS (t := t1) ((MemKept.upd (.refl _)).step (State.timeStateOut_mem _)) fun ht1 => ?_
  clear_value t1
  exact .ite (ht1.step (State.setTstate_mem _ _ _)) (.ite ht1 (ht1.step (State.selectBias_mem _ _ _)))

theorem State.stepToRef_mem (s : State) (id : Nat) :
    MemKept s (s.stepToRef id).1 := by
  unfold State.stepToRef
  dsimp only
  refine .step (t := s.applyStep (-(s.cand id).off * (unitsPerFrac : Int))) ?_ ?_
  · exact State.applyStep_mem _ _
  · exact State.returnStepped_mem _ _

theorem State.stepInHoldover_mem s a1 : MemKept s (State.stepInHoldover s a1) := by
  unfold State.stepInHoldover
  extract_lets -merge -underBinder t0 t1 t2 t3
  clear_value t0
  refine .haveS (t := t2) (.upd (.refl _)) fun ht2 => ?_
  clear_value t2
  refine .haveS (t := t3) (ht2.step (State.setTstate_mem _ _ _)) fun ht3 => ?_
  clear_value t3
  exact .ite (.refl _) (.ite (ht3.step (State.setTstate_mem _ _ _)) ht3)

theorem State.stepNow_mem (s : State) (d : CmdDesc) :
    MemKept s (s.stepNow d) := by
  unfold State.stepNow
  split
  · split
    · extract_lets r
      have hr : MemKept s r.1 := State.stepToRef_mem _ _
      exact hr.step (State.complete_mem _ _ _ _ _ _ _)
    · exact State.complete_mem _ _ _ _ _ _ _
  · extract_lets x u t
    have ht : MemKept s t := by
      unfold t
      exact (State.applyStep_mem _ _).step (State.stepInHoldover_mem _ _)
    exact ht.step (State.complete_mem _ _ _ _ _ _ _)

theorem State.preempt_mem s a1 a2 : MemKept s (State.preempt s a1 a2) := by
  unfold State.preempt
  split
  · exact .refl _
  · extract_lets -merge -underBinder t0 t1
    refine .haveS (t := t0) (State.setCopy_mem _ _ _) fun ht0 => ?_
    clear_value t0
    exact .ite (ht0.step (State.setPort_mem _ _ _)) (.refl _)

theorem State.gateChange_mem s a1 : MemKept s (State.gateChange s a1) := by
  unfold State.gateChange
  extract_lets -merge -underBinder t0
  clear_value t0
  split
  · exact .refl _
  · extract_lets -merge -underBinder t1 t2
    clear_value t1
    exact .ite (.refl _) (.ite (State.setPort_mem _ _ _) ((State.setPort_mem _ _ _).step (State.preempt_mem _ _ _)))

theorem State.admDrain_mem (s : State) (n : Nat) : MemKept s (s.admDrain n) := by
  induction n generalizing s with
  | zero => exact .refl _
  | succ n ih =>
    unfold State.admDrain
    refine .ite (.refl _) ?_
    split
    · exact .refl _
    · refine .step (MemKept.step ?_ (State.admRun_mem _ _)) (ih _)
      exact .upd (.refl _)

theorem State.admGo_mem s : MemKept s (State.admGo s) := by
  unfold State.admGo
  exact State.admDrain_mem _ _

theorem State.calBegin_mem s a1 : MemKept s (State.calBegin s a1) := by
  unfold State.calBegin
  extract_lets -merge -underBinder t0 t1 t2 t3 t4
  clear_value t0 t1 t2
  refine .haveS (t := t4) (.upd (.refl _)) fun ht4 => ?_
  clear_value t4
  exact .ite (.ite (ht4.step (State.calFinish_mem _ _ _ _)) (ht4.step (State.retrain_mem _ _))) ht4

theorem State.calMake_mem s a1 : MemKept s (State.calMake s a1) := by
  unfold State.calMake
  extract_lets -merge -underBinder t0 t1 t2
  clear_value t0 t1
  refine .ite ?_ ?_
  · exact .upd (.refl _)
  · split
    · exact State.complete_mem _ _ _ _ _ _ _
    · extract_lets -merge -underBinder t3
      refine .haveS (t := t3) ((State.addObj_mem _ _ _ _).step (State.calBegin_mem _ _)) fun ht3 => ?_
      clear_value t3
      exact .ite (State.complete_mem _ _ _ _ _ _ _) (.ite (State.complete_mem _ _ _ _ _ _ _) ((MemKept.upd ht3).step (State.complete_mem _ _
          _ _ _ _ _)))

theorem State.calCreate_mem s a1 : MemKept s (State.calCreate s a1) := by
  unfold State.calCreate
  exact State.runCmd_mem _ _ _ _ _ (fun _ => State.calMake_mem _ _)

theorem State.setRole_mem s a1 a2 : MemKept s (State.setRole s a1 a2) := by
  unfold State.setRole
  extract_lets -merge -underBinder t0 t1 t2 t3 t4
  clear_value t0
  refine .haveS (t := t1) (.ite (.refl _) (State.chanStop_mem _ _)) fun ht1 => ?_
  clear_value t1
  refine .haveS (t := t3) (ht1.step (State.setTchan_mem _ _ _)) fun ht3 => ?_
  clear_value t3
  refine .haveS (t := t4) (.ite ht3 (ht3.step (State.setChanSt_mem _ _ _))) fun ht4 => ?_
  clear_value t4
  exact .ite (.refl _) (ht4.step (State.chansChanged_mem _ _))

theorem State.rolesEval_mem s : MemKept s (State.rolesEval s) := by
  unfold State.rolesEval
  refine .ite ?_ ?_
  · exact .refl _
  · refine .foldl (fun _ _ => ?_) _ (.refl _)
    extract_lets -merge -underBinder t0
    clear_value t0
    exact State.setRole_mem _ _ _

theorem State.gnssLose_mem s a1 : MemKept s (State.gnssLose s a1) := by
  unfold State.gnssLose
  exact .ite (.refl _) (State.goGnssCh_mem _ _ _)

theorem State.gnssBandFault_mem s a1 a2 a3 : MemKept s (State.gnssBandFault s a1 a2 a3) := by
  unfold State.gnssBandFault
  exact .ite (.refl _) (.foldl (fun _ _ => State.gnssLose_mem _ _) _ ((State.bump_mem _ _ _ _).step (State.raiseIf_mem _ _ _ _ _ _)))

theorem State.gnssSampleCheck_mem s a1 a2 a3 a4 : MemKept s (State.gnssSampleCheck s a1 a2 a3 a4) := by
  unfold State.gnssSampleCheck
  extract_lets -merge -underBinder t0 t1 t2 t3 t4 t5
  clear_value t0 t1 t2 t3
  refine .haveS (t := t5) (.upd (.refl _)) fun ht5 => ?_
  clear_value t5
  exact .ite (.refl _) ((ht5.step (State.gnssBandFault_mem _ _ _ _)).step (State.gnssBandFault_mem _ _ _ _))

theorem State.auditLeak_mem s a1 a2 : MemKept s (State.auditLeak s a1 a2) := by
  unfold State.auditLeak
  extract_lets -merge -underBinder t0 t1 t2 t3 t4 t5 t6
  clear_value t0
  refine .haveS (t := t1) ((State.bump_mem _ _ _ _).step (State.raise_mem _ _ _ _ _)) fun ht1 => ?_
  clear_value t1
  refine .haveS (t := t3) (.upd ht1) fun ht3 => ?_
  clear_value t3
  refine .haveS (t := t4) (ht3.step (State.returnBuf_mem _ _ _)) fun ht4 => ?_
  clear_value t4
  exact .ite (.ite (.upd ht4) ht3) (.upd (.refl _))

theorem State.ltxLoad_mem s : MemKept s (State.ltxLoad s) := by
  unfold State.ltxLoad
  extract_lets -merge -underBinder t0
  exact .upd (.refl _)

theorem State.pllTReady_mem s : MemKept s (State.pllTReady s) := by
  unfold State.pllTReady
  extract_lets -merge -underBinder t0 t1 t2
  refine .haveS (t := t0) (((State.setReady_mem _ _ _).step (State.setReady_mem _ _ _)).step (State.setReady_mem _ _ _)) fun ht0 => ?_
  clear_value t0
  refine .haveS (t := t1) (.foldl (fun _ _ => State.candEnable_mem _ _) _ ((ht0.step (State.setReady_mem _ _ _)).step (State.setReady_mem _
      _ _))) fun ht1 => ?_
  clear_value t1
  exact .ite ((MemKept.upd ht1).step (State.setReady_mem _ _ _)) ht1

theorem State.pllLock_mem s a1 a2 : MemKept s (State.pllLock s a1 a2) := by
  unfold State.pllLock
  extract_lets -merge -underBinder t0 t1 t2
  clear_value t0
  refine .haveS (t := t1) ((State.setPll_mem _ _ _).step (State.goPll_mem _ _ _)) fun ht1 => ?_
  clear_value t1
  refine .haveS (t := t2) (.ite (ht1.step (State.ltxLoad_mem _)) ht1) fun ht2 => ?_
  clear_value t2
  exact .ite (.ite (ht2.step (State.pllTReady_mem _)) ht2) (.ite (State.setPll_mem _ _ _) (.refl _))

theorem State.laneCounts_mem s a1 a2 a3 a4 a5 a6 : MemKept s (State.laneCounts s a1 a2 a3 a4 a5 a6) := by
  unfold State.laneCounts
  extract_lets -merge -underBinder t0 t1
  clear_value t0
  refine .haveS (t := t1) (((State.bump_mem _ _ _ _).step (State.bump_mem _ _ _ _)).step (State.bump_mem _ _ _ _)) fun ht1 => ?_
  clear_value t1
  exact ht1.step (State.setLane_mem _ _ _)

theorem State.laneRefuseStep_mem s a1 : MemKept s (State.laneRefuseStep s a1) := by
  unfold State.laneRefuseStep
  extract_lets -merge -underBinder t0 t1
  clear_value t0 t1
  exact ((State.rcSet_mem _ _ _ _).step (State.setLane_mem _ _ _)).step (State.raiseIf_mem _ _ _ _ _ _)

theorem State.adaptWindow_mem s a1 a2 a3 a4 a5 a6 a7 a8 a9 : MemKept s (State.adaptWindow s a1 a2 a3 a4 a5 a6 a7 a8 a9) := by
  unfold State.adaptWindow
  extract_lets -merge -underBinder t0 t1 t2 t3 t4 t5
  refine .haveS (t := t0) (.ite (State.laneCounts_mem _ _ _ _ _ _ _) (.refl _)) fun ht0 => ?_
  clear_value t0
  refine .haveS (t := t2) (ht0.step (State.setLane_mem _ _ _)) fun ht2 => ?_
  clear_value t2
  refine .haveS (t := t3) (.ite (ht2.step (State.calLose_mem _ _)) ht2) fun ht3 => ?_
  clear_value t3 t4 t5
  exact .ite (.refl _) (.ite ht3 (.ite (ht3.step (State.laneRefuseStep_mem _ _)) (.ite ht3 (ht3.step (State.setLane_mem _ _ _)))))

theorem State.qualified_mem s a1 : MemKept s (State.qualified s a1) := by
  unfold State.qualified
  extract_lets -merge -underBinder t0
  exact .ite (.upd (.refl _)) (State.reselect_mem _)

theorem State.tchanQualify_mem s a1 : MemKept s (State.tchanQualify s a1) := by
  unfold State.tchanQualify
  extract_lets -merge -underBinder t0 t1 t2 t3 t4 t5
  clear_value t0 t1 t2
  refine .haveS (t := t3) ((State.setChanSt_mem _ _ _).step (State.chanCand_mem _ _)) fun ht3 => ?_
  clear_value t3
  refine .haveS (t := t4) (ht3.step (State.markSel_mem _ _ _)) fun ht4 => ?_
  clear_value t4
  refine .haveS (t := t5) (.ite (ht4.step (State.startThaw_mem _)) (ht4.step (State.setStepPending_mem _ _ _))) fun ht5 => ?_
  clear_value t5
  exact .ite (.refl _) (.ite ((ht5.step (State.reselect_mem _)).step (State.updateClass_mem _)) (.ite (ht3.step (State.qualified_mem _ _))
      (ht3.step (State.reselect_mem _))))

theorem State.rxWrite_mem s a1 a2 a3 a4 : MemKept s (State.rxWrite s a1 a2 a3 a4) := by
  unfold State.rxWrite
  extract_lets -merge -underBinder t0 t1 t2
  clear_value t0 t1 t2
  refine .foldl (fun _ _ => ?_) _ (.refl _)
  extract_lets -merge -underBinder t3 t4
  clear_value t3 t4
  exact State.rxCpl_mem _ _ _ _ _ _ _ _ _ _ _ _

theorem State.vscaleTaken_mem s : MemKept s (State.vscaleTaken s) := by
  unfold State.vscaleTaken
  extract_lets -merge -underBinder t0
  exact .upd (.refl _)

theorem State.chanRank_mem s a1 : MemKept s (State.chanRank s a1) := by
  unfold State.chanRank
  extract_lets -merge -underBinder t0 t1 t2 t3 t4
  clear_value t0
  refine .haveS (t := t2) (State.setTchan_mem _ _ _) fun ht2 => ?_
  clear_value t2 t3
  refine .haveS (t := t4) (ht2.step (State.chanCand_mem _ _)) fun ht4 => ?_
  clear_value t4
  exact .ite (.refl _) (.ite (.ite ((ht2.step (State.reselect_mem _)).step (State.updateClass_mem _)) (ht2.step (State.candFail_mem _ _ _)))
      (.ite (ht4.step (State.qualified_mem _ _)) ht4))

theorem State.pairDrainQueue_mem s : MemKept s (State.pairDrainQueue s) := by
  unfold State.pairDrainQueue
  extract_lets -merge -underBinder t0
  exact .foldl (fun _ _ => State.omdSend_mem _ _) _ (.upd (.refl _))

theorem State.resyncSend_mem s : MemKept s (State.resyncSend s) := by
  unfold State.resyncSend
  extract_lets -merge -underBinder t0 t1 t2 t3
  clear_value t0 t1 t2
  exact (((MemKept.upd (.refl _)).step (State.omdSend_mem _ _)).step (State.omdSend_mem _ _)).step (State.omdSend_mem _ _)

theorem State.taskGained_mem s a1 : MemKept s (State.taskGained s a1) := by
  unfold State.taskGained
  split
  · exact State.admGo_mem _
  · exact State.vscaleTaken_mem _
  · exact .foldl (fun _ _ => State.chanRank_mem _ _) _ (.refl _)
  · exact State.rolesEval_mem _
  · extract_lets -merge -underBinder t0
    exact .foldl (fun _ _ => State.calMake_mem _ _) _ (.upd (.refl _))
  · exact .ite (State.pairDrainQueue_mem _) (.ite (State.resyncSend_mem _) (.ite (State.resyncStart_mem _) (.refl _)))
  · exact .refl _

theorem State.engEnters_mem s a1 : MemKept s (State.engEnters s a1) := by
  unfold State.engEnters
  refine .step ?_ (State.engReady_mem _)
  refine .foldl (fun _ _ => ?_) _ (.refl _)
  extract_lets -merge -underBinder t0
  clear_value t0
  split
  · exact (State.setTask_mem _ _ _).step (State.taskGained_mem _ _)
  · exact .ite (State.taskMove_mem _ _ _ _) (.ite (State.setTask_mem _ _ _) (.refl _))
  · exact .refl _

theorem State.engReplayDone_mem s a1 a2 : MemKept s (State.engReplayDone s a1 a2) := by
  unfold State.engReplayDone
  extract_lets -merge -underBinder t0 t1
  clear_value t0
  refine .haveS (t := t1) (((State.setEng_mem _ _ _).step (State.goEng_mem _ _ _)).step (State.engEnters_mem _ _)) fun ht1 => ?_
  clear_value t1
  refine .ite ?_ ?_
  · exact .refl _
  · split
    · exact ht1.step (State.complete_mem _ _ _ _ _ _ _)
    · exact ht1

theorem State.tchanResume_mem s a1 : MemKept s (State.tchanResume s a1) := by
  unfold State.tchanResume
  extract_lets -merge -underBinder t0
  refine .haveS (t := t0) (.ite (.refl _) (State.setChanSt_mem _ _ _)) fun ht0 => ?_
  clear_value t0
  exact ht0.step (State.chansChanged_mem _ _)

theorem State.searchBegin_mem s a1 a2 : MemKept s (State.searchBegin s a1 a2) := by
  unfold State.searchBegin
  extract_lets -merge -underBinder t0
  clear_value t0
  exact State.setSearchJob_mem _ _ _

theorem State.searchResume_mem s a1 : MemKept s (State.searchResume s a1) := by
  unfold State.searchResume
  exact State.searchBegin_mem _ _ _

theorem State.calResume_mem s a1 : MemKept s (State.calResume s a1) := by
  unfold State.calResume
  extract_lets -merge -underBinder t0
  refine .haveS (t := t0) (State.calBegin_mem _ _) fun ht0 => ?_
  clear_value t0
  exact .ite (ht0.step (State.calFinish_mem _ _ _ _)) ht0

theorem State.objResume_mem s a1 a2 : MemKept s (State.objResume s a1 a2) := by
  unfold State.objResume
  split
  · exact State.flowResume_mem _ _
  · exact State.tchanResume_mem _ _
  · exact State.mchanResume_mem _ _
  · exact State.bumpVersion_mem _ _
  · exact State.searchResume_mem _ _
  · exact State.calResume_mem _ _

theorem State.objEnable_mem s a1 a2 a3 : MemKept s (State.objEnable s a1 a2 a3) := by
  unfold State.objEnable
  split
  · exact State.flowTake_mem _ _ _ _
  · extract_lets -merge -underBinder t0
    clear_value t0
    refine State.runNamed_mem _ _ _ _ _ _ _ _ (fun _ => ?_)
    extract_lets -merge -underBinder t1
    clear_value t1
    exact .ite (State.complete_mem _ _ _ _ _ _ _) (.ite (State.complete_mem _ _ _ _ _ _ _) (((State.setObj_mem _ _ _ _).step
        (State.objResume_mem _ _ _)).step (State.complete_mem _ _ _ _ _ _ _)))

theorem State.phiMove_mem s a1 a2 : MemKept s (State.phiMove s a1 a2) := by
  unfold State.phiMove
  extract_lets -merge -underBinder t0 t1 t2 t3
  clear_value t0
  refine .haveS (t := t1) (State.setLnk_mem _ _ _) fun ht1 => ?_
  clear_value t1 t2
  exact .upd ht1

theorem State.lanePublish_mem s a1 a2 a3 : MemKept s (State.lanePublish s a1 a2 a3) := by
  unfold State.lanePublish
  extract_lets -merge -underBinder t0
  clear_value t0
  exact (State.setLane_mem _ _ _).step (State.raiseIf_mem _ _ _ _ _ _)

theorem State.laneSetCode_mem s a1 a2 : MemKept s (State.laneSetCode s a1 a2) := by
  unfold State.laneSetCode
  extract_lets -merge -underBinder t0 t1 t2 t3 t4
  clear_value t0 t1
  refine .haveS (t := t2) (State.setLane_mem _ _ _) fun ht2 => ?_
  clear_value t2
  refine .haveS (t := t3) (ht2.step (State.phiMove_mem _ _ _)) fun ht3 => ?_
  clear_value t3 t4
  exact (MemKept.upd ht3).step (State.lanePublish_mem _ _ _ _)

theorem State.laneStep_mem s a1 a2 : MemKept s (State.laneStep s a1 a2) := by
  unfold State.laneStep
  extract_lets -merge -underBinder t0 t1 t2
  clear_value t0
  refine .haveS (t := t1) ((State.bump_mem _ _ _ _).step (State.laneSetCode_mem _ _ _)) fun ht1 => ?_
  clear_value t1
  exact .ite (State.laneRefuseStep_mem _ _) (.ite (.refl _) (ht1.step (State.setLane_mem _ _ _)))

theorem State.swCondClear_mem s a1 : MemKept s (State.swCondClear s a1) := by
  unfold State.swCondClear
  extract_lets -merge -underBinder t0
  exact .ite (.upd (.refl _)) (.refl _)

theorem State.hardReset_memSafe (s : State) : MemSafe s s.hardReset := ⟨fun hs => ⟨rfl, hs.2⟩⟩

theorem State.refWtrExpire_mem s a1 : MemKept s (State.refWtrExpire s a1) := by
  unfold State.refWtrExpire
  extract_lets -merge -underBinder t0
  clear_value t0
  exact .ite (State.setCandSt_mem _ _ _ _) (.refl _)

theorem State.compared_mem s a1 : MemKept s (State.compared s a1) := by
  unfold State.compared
  extract_lets -merge -underBinder t0 t1 t2
  refine .haveS (t := t0) (State.putStandby_mem _ _) fun ht0 => ?_
  clear_value t0
  exact .upd ht0

theorem State.standbyTrackAcquired_mem s a1 : MemKept s (State.standbyTrackAcquired s a1) := by
  unfold State.standbyTrackAcquired
  extract_lets -merge -underBinder t0 t1
  refine .haveS (t := t0) (State.compared_mem _ _) fun ht0 => ?_
  clear_value t0
  exact .ite (.refl _) (.ite ht0 (.upd ht0))

theorem State.functionReset_mem s : MemKept s (State.functionReset s) := by
  unfold State.functionReset
  extract_lets -merge -underBinder t0 t1 t2 t3 t4 t5
  refine .haveS (t := t0) (State.ringsKill_mem _) fun ht0 => ?_
  clear_value t0 t1
  refine .haveS (t := t2) ((MemKept.foldl (fun _ _ => State.removeCopy_mem _ _) _ ht0).step (State.dropPending_mem _ _)) fun ht2 => ?_
  clear_value t2
  refine .haveS (t := t5) (.upd ht2) fun ht5 => ?_
  clear_value t5
  exact (ht5.step (State.bump_mem _ _ _ _)).step (State.afterFree_mem _)

theorem State.setPps_mem s a1 a2 : MemKept s (State.setPps s a1 a2) := by
  unfold State.setPps
  extract_lets -merge -underBinder t0
  exact .upd (.refl _)

theorem State.ppsSec_mem s : MemKept s (State.ppsSec s) := by
  unfold State.ppsSec
  refine .foldl (fun _ _ => ?_) _ (.refl _)
  extract_lets -merge -underBinder t0
  exact State.setPps_mem _ _ _

theorem State.heldSecond_mem s : MemKept s (State.heldSecond s) := by
  unfold State.heldSecond
  extract_lets -merge -underBinder t0 t1
  clear_value t0
  exact .ite (.refl _) (((MemKept.upd (.refl _)).step (State.markSecond_mem _)).step (State.ppsSec_mem _))

theorem State.admTake_mem s a1 a2 a3 : MemKept s (State.admTake s a1 a2 a3) := by
  unfold State.admTake
  exact .ite (.refl _) ((State.startCmd_mem _ _).step (State.admNext_mem _ _ _))

theorem State.ticArmBlock_mem s a1 a2 : MemKept s (State.ticArmBlock s a1 a2) := by
  unfold State.ticArmBlock
  extract_lets -merge -underBinder t0 t1
  clear_value t0 t1
  exact (State.setTicCh_mem _ _ _).step (State.ticSample_mem _ _)

theorem State.ticArm_mem s a1 a2 : MemKept s (State.ticArm s a1 a2) := by
  unfold State.ticArm
  refine State.runNamed_mem _ _ _ _ _ _ _ _ (fun _ => ?_)
  extract_lets -merge -underBinder t0 t1
  clear_value t0
  refine .haveS (t := t1) (State.ticArmBlock_mem _ _ _) fun ht1 => ?_
  clear_value t1
  exact .ite (State.complete_mem _ _ _ _ _ _ _) (.ite (State.complete_mem _ _ _ _ _ _ _) (ht1.step (State.complete_mem _ _ _ _ _ _ _)))

theorem State.calTempStep_mem s a1 : MemKept s (State.calTempStep s a1) := by
  unfold State.calTempStep
  extract_lets -merge -underBinder t0
  exact (MemKept.upd (.refl _)).step (State.calRecomputeAll_mem _)

theorem State.calTry_mem s a1 a2 : MemKept s (State.calTry s a1 a2) := by
  unfold State.calTry
  extract_lets -merge -underBinder t0 t1 t2 t3
  clear_value t0
  refine .haveS (t := t1) (State.persStore_mem _ _ _) fun ht1 => ?_
  clear_value t1
  exact .ite (.upd ht1) (.ite ((ht1.step (State.bump_mem _ _ _ _)).step (State.raise_mem _ _ _ _ _)) (.upd ht1))

theorem State.calWrite_mem s a1 a2 : MemKept s (State.calWrite s a1 a2) := by
  unfold State.calWrite
  extract_lets -merge -underBinder t0
  exact .ite (.upd (.refl _)) (State.calTry_mem _ _ _)

theorem State.calPut_mem s a1 a2 : MemKept s (State.calPut s a1 a2) := by
  unfold State.calPut
  extract_lets -merge -underBinder t0
  refine .haveS (t := t0) (State.calTry_mem _ _ _) fun ht0 => ?_
  clear_value t0
  split
  · exact ht0.step (State.calWrite_mem _ _ _)
  · exact ht0

theorem State.bootConfig_memSafe s a1 a2 : MemSafe s (State.bootConfig s a1 a2) := by
  unfold State.bootConfig
  extract_lets -merge -underBinder t0 t1
  refine .haveS (t := t1) (.upd (.refl _)) fun ht1 => ?_
  clear_value t1
  refine .ite ?_ ?_
  · exact ht1
  · split
    · exact ht1
    · split
      · exact ht1.step (State.raise_mem _ _ _ _ _).safe
      · extract_lets -merge -underBinder t2 t3 t4
        clear_value t2
        refine .haveS (t := t3) (.foldl (fun _ _ => State.cfgWrite_memSafe _ _) _ (.refl _)) fun ht3 => ?_
        clear_value t3
        exact .ite (ht1.step (State.raise_mem _ _ _ _ _).safe) (.upd ht3)

theorem State.imageLoad_mem s a1 a2 : MemKept s (State.imageLoad s a1 a2) := by
  unfold State.imageLoad
  extract_lets -merge -underBinder t0 t1 t2
  refine .haveS (t := t1) (.upd (.refl _)) fun ht1 => ?_
  clear_value t1
  exact ((ht1.step (State.setEng_mem _ _ _)).step (State.goEng_mem _ _ _)).step (State.cycClear_mem _ _)

end Sys2Proof.Machine
end

section
/-! SUPPORT. What each operation of the machine does to the byte memories, part 7 of 10: one lemma for one operation, in the
order of the lemmas that say what it may change. An operation that writes no byte keeps them (`_mem`), one that may write keeps
their form (`_memSafe`). -/

set_option Elab.async false

namespace Sys2Proof.Machine

theorem State.bootEngines_mem s a1 a2 : MemKept s (State.bootEngines s a1 a2) := by
  unfold State.bootEngines
  refine .ite ?_ ?_
  · exact .refl _
  · split
    · exact State.raise_mem _ _ _ _ _
    · extract_lets -merge -underBinder t0 t1
      refine .haveS (t := t0) (.foldl (fun _ _ => (State.imageLoad_mem _ _ _).step (State.goEng_mem _ _ _)) _ (.refl _)) fun ht0 => ?_
      clear_value t0
      exact .upd ht0

theorem State.setPol_mem s a1 a2 a3 : MemKept s (State.setPol s a1 a2 a3) := by
  unfold State.setPol
  extract_lets -merge -underBinder t0
  exact .upd (.refl _)

theorem State.polRestore_mem s : MemKept s (State.polRestore s) := by
  unfold State.polRestore
  extract_lets -merge -underBinder t0 t1 t2 t3
  clear_value t0 t1
  refine .haveS (t := t2) (.foldl (fun _ _ => State.setPol_mem _ _ _ _) _ (.refl _)) fun ht2 => ?_
  clear_value t2
  refine .haveS (t := t3) (.foldl (fun _ _ => State.setPol_mem _ _ _ _) _ ht2) fun ht3 => ?_
  clear_value t3
  exact .ite (.refl _) (.ite (State.raise_mem _ _ _ _ _) (.foldl (fun _ _ => State.setPol_mem _ _ _ _) _ ht3))

theorem State.calRestore_mem s : MemKept s (State.calRestore s) := by
  unfold State.calRestore
  extract_lets -merge -underBinder t0 t1
  refine .haveS (t := t0) ?_ fun ht0 => ?_
  · unfold t0
    refine .foldl (fun _ _ => ?_) _ (.refl _)
    split
    · exact .refl _
    · exact .foldl (fun _ _ => State.calLoad_mem _ _ _) _ (.refl _)
    · exact State.raise_mem _ _ _ _ _
  clear_value t0
  exact .ite (.refl _) (.upd ht0)

theorem State.boot!_memSafe s a1 : MemSafe s (State.boot! s a1) := by
  unfold State.boot!
  extract_lets -merge -underBinder t0 t1 t2 t3 t4 t5 t6 t7 t8 t9 t10 t11 t12 t13
  clear_value t0
  refine .haveS (t := t4) (.upd (.refl _)) fun ht4 => ?_
  clear_value t4
  refine .haveS (t := t5) (ht4.step (State.setReady_mem _ _ _).safe) fun ht5 => ?_
  clear_value t5
  refine .haveS (t := t6) (.ite (ht5.step (State.pllStart_mem _ _).safe) (.ite (ht5.step (State.pllTReady_mem _).safe) ht5)) fun ht6 => ?_
  clear_value t6
  refine .haveS (t := t7) (ht6.step (State.pllStart_mem _ _).safe) fun ht7 => ?_
  clear_value t7 t8
  refine .haveS (t := t10) (.upd ht7) fun ht10 => ?_
  clear_value t10
  refine .haveS (t := t11) ((ht10.step (State.bootConfig_memSafe _ _ _)).step (State.setReady_mem _ _ _).safe) fun ht11 => ?_
  clear_value t11
  refine .haveS (t := t12) (.foldl (fun _ _ => (State.grpTrain_mem _ _).safe) _ ht11) fun ht12 => ?_
  clear_value t12
  refine .haveS (t := t13) (ht12.step (State.bootEngines_mem _ _ _).safe) fun ht13 => ?_
  clear_value t13
  exact ((ht13.step (State.calRestore_mem _).safe).step (State.setReady_mem _ _ _).safe).step (State.polRestore_mem _).safe

theorem State.keepTimeOver_mem s a1 : MemKept s (State.keepTimeOver s a1) := by
  unfold State.keepTimeOver
  extract_lets -merge -underBinder t0 t1 t2 t3 t4 t5
  clear_value t0
  refine .haveS (t := t5) (.upd (.refl _)) fun ht5 => ?_
  clear_value t5
  exact .upd ht5

theorem State.partResetHold_memSafe s a1 : MemSafe s (State.partResetHold s a1) := by
  unfold State.partResetHold
  extract_lets -merge -underBinder t0 t1
  refine .haveS (t := t0) (.ite ((State.hardReset_memSafe _).step (State.keepTimeOver_mem _ _).safe) (State.hardReset_memSafe _)) fun ht0 =>
      ?_
  clear_value t0
  exact .upd ht0

theorem State.sysRst_memSafe s a1 a2 a3 : MemSafe s (State.sysRst s a1 a2 a3) := by
  unfold State.sysRst
  extract_lets -merge -underBinder t0
  clear_value t0
  refine State.keyed_memSafe _ _ _ _ (fun _ => ?_)
  extract_lets -merge -underBinder t1
  refine .haveS (t := t1) (State.storeReg_mem _ _ _ _).safe fun ht1 => ?_
  clear_value t1
  exact .ite ((ht1.step (State.partResetHold_memSafe _ _)).step (State.boot!_memSafe _ _)) ht1

theorem State.anyWrite_memSafe s a1 a2 a3 a4 : MemSafe s (State.anyWrite s a1 a2 a3 a4) := by
  unfold State.anyWrite
  exact .ite (State.sysRst_memSafe _ _ _ _) (State.busWrite_memSafe _ _ _ _ _)

theorem State.dmaOff_mem (s : State) (o n : Nat) : MemKept s (s.dmaOff o n) := by
  induction n generalizing s o with
  | zero => exact .refl _
  | succ n ih =>
    unfold State.dmaOff
    exact (MemKept.ite (.refl _) (State.bankOffAccess_mem _ _)).step (ih _ _)

theorem State.setCalSlot_memSafe s a1 a2 : MemSafe s (State.setCalSlot s a1 a2) := by
  unfold State.setCalSlot
  extract_lets -merge -underBinder t0 t1
  exact .upd (.refl _)

theorem State.flashWriteCmd_memSafe s a1 a2 a3 : MemSafe s (State.flashWriteCmd s a1 a2 a3) := by
  unfold State.flashWriteCmd
  extract_lets -merge -underBinder t0 t1 t2 t3
  clear_value t0 t1 t2 t3
  refine State.runCmd_memSafe _ _ _ _ _ (fun _ => ?_)
  extract_lets -merge -underBinder t4 t5 t6 t7
  clear_value t4
  refine .haveS (t := t5) (State.dmaOff_mem _ _ _).safe fun ht5 => ?_
  clear_value t5
  refine .haveS (t := t6) (.flash ht5 fun hw => Memory.writes_wf _ _ _ _ hw) fun ht6 => ?_
  clear_value t6
  refine .haveS (t := t7) (.foldl (fun _ _ => .ite (State.setCalSlot_memSafe _ _ _) (.refl _)) _ ht6) fun ht7 => ?_
  clear_value t7
  exact .ite (State.complete_mem _ _ _ _ _ _ _).safe (.ite (State.complete_mem _ _ _ _ _ _ _).safe (ht7.step (State.complete_mem _ _ _ _ _ _
      _).safe))

theorem State.fdbInsert_mem (s : State) (m v : Nat) (e : FdbEntry) {t : State}
    (h : s.fdbInsert m v e = some t) : MemKept s t := by
  unfold State.fdbInsert at h
  obtain ⟨es, _, rfl⟩ := Option.map_eq_some_iff.mp h
  extract_lets s1
  have h1 : MemKept s s1 := State.bumpVersion_mem _ _
  exact .upd h1

theorem State.fdbMirror_mem s a1 a2 a3 a4 : MemKept s (State.fdbMirror s a1 a2 a3 a4) := by
  unfold State.fdbMirror
  exact State.pairDelta_mem _ _

theorem State.fdbFull_mem s : MemKept s (State.fdbFull s) := by
  unfold State.fdbFull
  extract_lets -merge -underBinder t0 t1 t2 t3
  refine .haveS (t := t0) (State.bump_mem _ _ _ _) fun ht0 => ?_
  clear_value t0
  refine .haveS (t := t2) (ht0.step (State.raiseIf_mem _ _ _ _ _ _)) fun ht2 => ?_
  clear_value t2
  exact .upd ht2

theorem State.fdbPut_mem s a1 a2 a3 : MemKept s (State.fdbPut s a1 a2 a3) := by
  unfold State.fdbPut
  extract_lets -merge -underBinder t0 t1
  refine .haveS (t := t0) (State.bumpVersion_mem _ _) fun ht0 => ?_
  clear_value t0
  exact .upd ht0

theorem State.learn_mem (s : State) (l : Learn) : MemKept s (s.learn l) := by
  unfold State.learn
  split
  · refine .ite (State.bump_mem _ _ _ _) ?_
    split
    · next t ht =>
      exact ((State.fdbInsert_mem _ _ _ _ ht).step (State.bump_mem _ _ _ _)).step (State.fdbMirror_mem _ _ _ _ _)
    · exact State.fdbFull_mem _
  · refine .ite (.ite (.upd (.refl _)) (State.bump_mem _ _ _ _)) ?_
    refine .ite ?_ (.ite (State.bump_mem _ _ _ _) (.ite (State.bump_mem _ _ _ _) ?_))
    · extract_lets src s1
      have h1 : MemKept s s1 := .upd (.refl _)
      exact .ite (h1.step (State.fdbMirror_mem _ _ _ _ _)) h1
    · exact ((State.fdbPut_mem _ _ _ _).step (State.bump_mem _ _ _ _)).step (State.fdbMirror_mem _ _ _ _ _)

theorem State.fdbLearn_mem s a1 : MemKept s (State.fdbLearn s a1) := by
  unfold State.fdbLearn
  split
  · exact .refl _
  · extract_lets -merge -underBinder t0
    exact (MemKept.upd (.refl _)).step (State.learn_mem _ _)

theorem State.queueLearn_mem s a1 : MemKept s (State.queueLearn s a1) := by
  unfold State.queueLearn
  extract_lets -merge -underBinder t0 t1
  clear_value t0
  exact .ite (.upd (.refl _)) (State.bump_mem _ _ _ _)

theorem State.mchanCreate_mem s a1 : MemKept s (State.mchanCreate s a1) := by
  unfold State.mchanCreate
  refine State.runCmd_mem _ _ _ _ _ (fun _ => ?_)
  extract_lets -merge -underBinder t0 t1
  clear_value t0
  refine .haveS (t := t1) (State.addObj_mem _ _ _ _) fun ht1 => ?_
  clear_value t1
  exact .ite (State.complete_mem _ _ _ _ _ _ _) (.ite (State.complete_mem _ _ _ _ _ _ _) (ht1.step (State.complete_mem _ _ _ _ _ _ _)))

theorem State.lnkMasterSync_mem s a1 : MemKept s (State.lnkMasterSync s a1) := by
  unfold State.lnkMasterSync
  extract_lets -merge -underBinder t0
  clear_value t0
  exact .ite (.ite (State.lnkGo_mem _ _ _ _) (State.setLnk_mem _ _ _)) (.refl _)

theorem State.addCopy_mem s a1 : MemKept s (State.addCopy s a1) := by
  unfold State.addCopy
  extract_lets -merge -underBinder t0
  exact .upd (.refl _)

theorem State.mirrorCopy_mem s a1 a2 a3 a4 a5 a6 a7 : MemKept s (State.mirrorCopy s a1 a2 a3 a4 a5 a6 a7) := by
  unfold State.mirrorCopy
  extract_lets -merge -underBinder t0 t1 t2
  clear_value t0 t1 t2
  exact .ite (.refl _) (.ite (State.bump_mem _ _ _ _) (State.addCopy_mem _ _))

theorem State.mirrorFrame_mem s a1 a2 a3 : MemKept s (State.mirrorFrame s a1 a2 a3) := by
  unfold State.mirrorFrame
  split
  · exact .refl _
  · extract_lets -merge -underBinder t0
    clear_value t0
    refine .foldl (fun _ _ => ?_) _ (.refl _)
    extract_lets -merge -underBinder t1 t2 t3 t4
    clear_value t1 t2 t3
    refine .haveS (t := t4) (.ite (State.mirrorCopy_mem _ _ _ _ _ _ _ _) (.refl _)) fun ht4 => ?_
    clear_value t4
    exact .ite (.foldl (fun _ _ => State.mirrorCopy_mem _ _ _ _ _ _ _ _) _ ht4) ht4

theorem State.lnkSnapBad_mem s a1 : MemKept s (State.lnkSnapBad s a1) := by
  unfold State.lnkSnapBad
  extract_lets -merge -underBinder t0 t1 t2
  clear_value t0
  refine .haveS (t := t1) ((State.bump_mem _ _ _ _).step (State.setLnk_mem _ _ _)) fun ht1 => ?_
  clear_value t1
  refine .haveS (t := t2) (ht1.step (State.raise_mem _ _ _ _ _)) fun ht2 => ?_
  clear_value t2
  exact .ite (.ite (ht2.step (State.lnkGo_mem _ _ _ _)) ht2) ht1

theorem State.latchAt_mem (s : State) (p : Nat) (rx : Bool) (m : Int) :
    MemKept s (s.latchAt p rx m).1 := by
  unfold State.latchAt
  extract_lets -underBinder x t d mark
  have hm : ∀ u b, MemKept u (mark u b) := fun u b => State.setLnk_mem _ _ _
  split
  · exact hm _ _
  · split
    · exact (State.setLnk_mem _ _ _).step (hm _ _)
    · exact (State.lnkSnapBad_mem _ _).step (hm _ _)

theorem State.polGet_mem s a1 : MemKept s (State.polGet s a1) := by
  unfold State.polGet
  exact State.runCmd_mem _ _ _ _ _ (fun _ => State.complete_mem _ _ _ _ _ _ _)

theorem State.timeStateTake_mem s a1 : MemKept s (State.timeStateTake s a1) := by
  unfold State.timeStateTake
  extract_lets -merge -underBinder t0 t1
  refine .haveS (t := t1) (.upd (.refl _)) fun ht1 => ?_
  clear_value t1
  exact .ite (.refl _) (.ite (ht1.step (State.showMirror_mem _ _)) ht1)

theorem State.queuedFrees_mem s a1 : MemKept s (State.queuedFrees s a1) := by
  unfold State.queuedFrees
  extract_lets -merge -underBinder t0
  clear_value t0
  exact .foldl (fun _ _ => State.freeBuf_mem _ _ _) _ (State.setPool_mem _ _ _)

theorem State.carveEffect_mem s : MemKept s (State.carveEffect s) := by
  unfold State.carveEffect
  split
  · exact .refl _
  · extract_lets -merge -underBinder t0 t1 t2
    refine .haveS (t := t1) (.upd (.refl _)) fun ht1 => ?_
    clear_value t1
    refine .haveS (t := t2) (.foldl (fun _ _ => State.queuedFrees_mem _ _) _ ht1) fun ht2 => ?_
    clear_value t2
    exact ((ht2.step (State.raise_mem _ _ _ _ _)).step (State.complete_mem _ _ _ _ _ _ _)).step (State.afterFree_mem _)

theorem State.carveRollback_mem s : MemKept s (State.carveRollback s) := by
  unfold State.carveRollback
  split
  · exact .refl _
  · extract_lets -merge -underBinder t0 t1 t2 t3 t4 t5
    clear_value t0
    refine .haveS (t := t2) (.upd (.refl _)) fun ht2 => ?_
    clear_value t2 t3
    refine .haveS (t := t5) (.upd ht2) fun ht5 => ?_
    clear_value t5
    exact .ite (State.carveEffect_mem _) ((ht5.step (State.complete_mem _ _ _ _ _ _ _)).step (State.afterFree_mem _))

theorem State.chanHears_mem s a1 : MemKept s (State.chanHears s a1) := by
  unfold State.chanHears
  exact .ite (State.setChanSt_mem _ _ _) (.refl _)

theorem State.masterChange_mem (s : State) (i : Nat) : MemKept s (s.masterChange i) := by
  unfold State.masterChange
  extract_lets id s1 s2
  have h1 : MemKept s s1 := (State.setChanSt_mem _ _ _).step (State.raise_mem _ _ _ _ _)
  have h2 : MemKept s s2 := h1.step (State.setCandSt_mem _ _ _ _)
  clear_value s1 s2
  exact .upd h2

theorem State.chanAnnounce_mem s a1 a2 : MemKept s (State.chanAnnounce s a1 a2) := by
  unfold State.chanAnnounce
  extract_lets -merge -underBinder t0 t1 t2 t3
  refine .haveS (t := t0) (State.chanHears_mem _ _) fun ht0 => ?_
  clear_value t0 t1
  refine .haveS (t := t2) (.ite (ht0.step (State.masterChange_mem _ _)) ht0) fun ht2 => ?_
  clear_value t2
  exact (ht2.step (State.setTchan_mem _ _ _)).step (State.chanRank_mem _ _)

theorem State.gnssChRelease_mem s a1 : MemKept s (State.gnssChRelease s a1) := by
  unfold State.gnssChRelease
  exact .ite (.refl _) ((State.putBoth_mem _ _ _ _ _).step (State.goGnssCh_mem _ _ _))

theorem State.objList_mem s a1 a2 : MemKept s (State.objList s a1 a2) := by
  unfold State.objList
  refine State.runCmd_mem _ _ _ _ _ (fun _ => ?_)
  extract_lets -merge -underBinder t0 t1 t2
  clear_value t0 t1 t2
  exact State.complete_mem _ _ _ _ _ _ _

theorem State.evtSuppressWindow_mem s a1 a2 : MemKept s (State.evtSuppressWindow s a1 a2) := by
  unfold State.evtSuppressWindow
  split
  · exact .refl _
  · extract_lets -merge -underBinder t0 t1
    refine .haveS (t := t1) (.upd (.refl _)) fun ht1 => ?_
    clear_value t1
    exact .ite (ht1.step (State.emit_mem _ _ _ _ _)) ht1

theorem State.sweepSent_mem s : MemKept s (State.sweepSent s) := by
  unfold State.sweepSent
  exact .foldl (fun _ _ => State.removeCopy_mem _ _) _ (.refl _)

theorem State.unlinkBuf_mem s a1 : MemKept s (State.unlinkBuf s a1) := by
  unfold State.unlinkBuf
  extract_lets -merge -underBinder t0
  exact .upd (.refl _)

theorem State.bpmFree_mem (s : State) (b r : Nat) : MemKept s (s.bpmFree b r) := by
  unfold State.bpmFree
  extract_lets x
  have hx : MemKept s x.1 := State.freeBuf_mem _ _ _
  refine .ite ?_ hx
  exact ((hx.step (State.unlinkBuf_mem _ _)).step (State.sweepSent_mem _)).step
    (State.afterFree_mem _)

theorem State.gnssChDataSync_mem s a1 : MemKept s (State.gnssChDataSync s a1) := by
  unfold State.gnssChDataSync
  extract_lets -merge -underBinder t0
  exact .ite ((State.setGnssCh_mem _ _ _).step (State.goGnssCh_mem _ _ _)) (.refl _)

theorem State.rampEffects_mem s a1 : MemKept s (State.rampEffects s a1) := by
  unfold State.rampEffects
  exact .ite (.refl _) (.foldl (fun _ _ => .ite (State.lnkPhiLost_mem _ _) (State.lnkPhiValid_mem _ _)) _ (.refl _))

theorem State.setRamp_mem s a1 a2 : MemKept s (State.setRamp s a1 a2) := by
  unfold State.setRamp
  extract_lets -merge -underBinder t0 t1
  refine .haveS (t := t0) (.ite (State.ltxFold_mem _) (.ite (State.cycFold_mem _) (.refl _))) fun ht0 => ?_
  clear_value t0
  exact ht0.step (State.setPll_mem _ _ _)

theorem State.rampSegmentEnd_mem s a1 : MemKept s (State.rampSegmentEnd s a1) := by
  unfold State.rampSegmentEnd
  extract_lets -merge -underBinder t0
  clear_value t0
  split
  · exact .refl _
  · extract_lets -merge -underBinder t1 t2 t3
    clear_value t1 t2 t3
    exact .ite ((State.setRamp_mem _ _ _).step (State.rampEffects_mem _ _)) (.ite ((State.setRamp_mem _ _ _).step (State.rampEffects_mem _
        _)) (((State.setRamp_mem _ _ _).step (State.rampEffects_mem _ _)).step (State.raise_mem _ _ _ _ _)))

theorem State.txCompletion_mem s a1 : MemKept s (State.txCompletion s a1) := by
  unfold State.txCompletion
  split
  · exact .refl _
  · split
    · exact .refl _
    · exact State.txEnd_mem _ _ _ _

theorem State.deadlineEpisode_mem s a1 : MemKept s (State.deadlineEpisode s a1) := by
  unfold State.deadlineEpisode
  extract_lets -merge -underBinder t0
  exact .ite (State.setPort_mem _ _ _) (.refl _)

theorem State.pauseReceive_mem s a1 a2 a3 a4 : MemKept s (State.pauseReceive s a1 a2 a3 a4) := by
  unfold State.pauseReceive
  extract_lets -merge -underBinder t0 t1
  refine .haveS (t := t0) (State.bump_mem _ _ _ _) fun ht0 => ?_
  clear_value t0 t1
  exact .ite (.refl _) ((ht0.step (State.setPort_mem _ _ _)).step (State.deadlineEpisode_mem _ _))

theorem State.portJoin_mem s a1 : MemKept s (State.portJoin s a1) := by
  unfold State.portJoin
  exact .ite (.refl _) ((State.portUp_mem _ _).step (State.grpCheck_mem _ _))

theorem State.swapCores_mem s : MemKept s (State.swapCores s) := by
  unfold State.swapCores
  extract_lets -merge -underBinder t0 t1 t2 t3
  clear_value t0
  refine .haveS (t := t3) (.upd (.refl _)) fun ht3 => ?_
  clear_value t3
  exact ((ht3.step (State.ltxMove_mem _ _)).step (State.gatesResync_mem _)).step (State.raise_mem _ _ _ _ _)

theorem State.trackSec_mem s : MemKept s (State.trackSec s) := by
  unfold State.trackSec
  extract_lets -merge -underBinder t0
  exact .ite (.upd (.refl _)) (.refl _)

theorem State.refSec_mem s : MemKept s (State.refSec s) := by
  unfold State.refSec
  extract_lets -merge -underBinder t0 t1 t2 t3
  clear_value t0 t1 t2
  exact .upd (.refl _)

theorem State.pairSec_mem s : MemKept s (State.pairSec s) := by
  unfold State.pairSec
  extract_lets -merge -underBinder t0
  exact .ite (.upd (.refl _)) (.refl _)

theorem State.pairSwitch_mem s : MemKept s (State.pairSwitch s) := by
  unfold State.pairSwitch
  split
  · exact .refl _
  · extract_lets -merge -underBinder t0 t1 t2 t3
    clear_value t0
    refine .haveS (t := t2) (.upd (.refl _)) fun ht2 => ?_
    clear_value t2
    exact .ite (.refl _) (.ite (ht2.step (State.pairPromote_mem _ _ _)) ((MemKept.upd ht2).step (State.startFollow_mem _)))

theorem State.setNow_mem s a1 : MemKept s (State.setNow s a1) := by
  unfold State.setNow
  extract_lets -merge -underBinder t0 t1 t2 t3 t4
  clear_value t0
  refine .haveS (t := t2) (State.moveCores_mem _ _ _) fun ht2 => ?_
  clear_value t2
  refine .haveS (t := t4) (.upd ht2) fun ht4 => ?_
  clear_value t4
  exact ht4.step (State.complete_mem _ _ _ _ _ _ _)

theorem State.waitingSteps_mem s : MemKept s (State.waitingSteps s) := by
  unfold State.waitingSteps
  extract_lets -merge -underBinder t0
  exact .foldl (fun _ _ => .ite (State.setNow_mem _ _) (State.stepNow_mem _ _)) _ (.upd (.refl _))

theorem State.calSaveEnd_memSafe s : MemSafe s (State.calSaveEnd s) := by
  unfold State.calSaveEnd
  split
  · exact .refl _
  · extract_lets -merge -underBinder t0 t1 t2 t3 t4 t5
    clear_value t0 t1
    refine .haveS (t := t2) (State.setCalSlot_memSafe _ _ _) fun ht2 => ?_
    clear_value t2
    refine .haveS (t := t3) (.foldl (fun _ _ => (State.calTry_mem _ _ _).safe) _ ht2) fun ht3 => ?_
    clear_value t3
    refine .haveS (t := t4) (ht3.step (State.calTry_mem _ _ _).safe) fun ht4 => ?_
    clear_value t4
    exact (MemSafe.upd ht4).step (State.complete_mem _ _ _ _ _ _ _).safe

theorem State.selSec_mem s : MemKept s (State.selSec s) := by
  unfold State.selSec
  extract_lets -merge -underBinder t0
  exact .ite ((MemKept.upd (.refl _)).step (State.reselect_mem _)) (.refl _)

theorem State.lnkSec_mem s : MemKept s (State.lnkSec s) := by
  unfold State.lnkSec
  extract_lets -merge -underBinder t0
  exact .upd (.refl _)

theorem State.gnssModeSec_mem s : MemKept s (State.gnssModeSec s) := by
  unfold State.gnssModeSec
  extract_lets -merge -underBinder t0 t1
  clear_value t0
  exact .ite (.refl _) ((MemKept.upd (.refl _)).step (State.raise_mem _ _ _ _ _))

theorem State.atSecond_memSafe s : MemSafe s (State.atSecond s) := by
  unfold State.atSecond
  extract_lets -merge -underBinder t0 t1 t2 t3
  refine .haveS (t := t0) (State.markSecond_mem _).safe fun ht0 => ?_
  clear_value t0 t1
  refine .haveS (t := t2) (.ite (ht0.step (State.swapCores_mem _).safe) (ht0.step (State.trackSec_mem _).safe)) fun ht2 => ?_
  clear_value t2
  refine .haveS (t := t3) ((((ht2.step (State.secPoint_mem _).safe).step (State.pairSwitch_mem _).safe).step (State.pairSec_mem
      _).safe).step (State.refSec_mem _).safe) fun ht3 => ?_
  clear_value t3
  exact (((((ht3.step (State.gnssModeSec_mem _).safe).step (State.ppsSec_mem _).safe).step (State.lnkSec_mem _).safe).step (State.selSec_mem
      _).safe).step (State.calSaveEnd_memSafe _)).step (State.waitingSteps_mem _).safe

theorem State.secondBoundary_memSafe s : MemSafe s (State.secondBoundary s) := by
  unfold State.secondBoundary
  extract_lets -merge -underBinder t0 t1
  clear_value t0
  exact (MemSafe.upd (.refl _)).step (State.atSecond_memSafe _)

theorem State.secondEvent_memSafe s : MemSafe s (State.secondEvent s) := by
  unfold State.secondEvent
  exact .ite (State.heldSecond_mem _).safe (.ite (State.secondBoundary_memSafe _) (.refl _))

theorem State.fdbRec_mem (s : State) (r : FdbRec) : MemKept s (s.fdbRec r) := by
  unfold State.fdbRec
  extract_lets cross
  refine .ite (.refl _) (.ite (State.bump_mem _ _ _ _) ?_)
  split
  · exact .ite (.refl _) (.ite
      (.ite (State.fdbRemove_mem _ _ _) (.refl _))
      (State.fdbPut_mem _ _ _ _))
  · exact .ite (.refl _) (.getD (State.fdbFull_mem _)
      (fun t ht => State.fdbInsert_mem _ _ _ _ ht))

theorem State.flowAnswer_mem s a1 : MemKept s (State.flowAnswer s a1) := by
  unfold State.flowAnswer
  extract_lets -merge -underBinder t0
  clear_value t0
  split
  · exact .ite ((State.flowGrant_mem _ _).step (State.admGo_mem _)) ((State.flowRefuse_mem _ _ _).step (State.admGo_mem _))
  · exact State.raiseIf_mem _ _ _ _ _ _

theorem State.flowMirrorPhase_mem s a1 a2 : MemKept s (State.flowMirrorPhase s a1 a2) := by
  unfold State.flowMirrorPhase
  extract_lets -merge -underBinder t0 t1 t2
  clear_value t0
  refine .haveS (t := t1) (.ite (State.flowResume_mem _ _) (State.flowAbort_mem _ _)) fun ht1 => ?_
  clear_value t1
  exact .ite (.refl _) (ht1.step (State.setObj_mem _ _ _ _))

theorem State.flowRecTake_mem s a1 : MemKept s (State.flowRecTake s a1) := by
  unfold State.flowRecTake
  refine .ite ?_ ?_
  · exact .ite (State.flowAnswer_mem _ _) (.refl _)
  · refine .ite ?_ ?_
    · exact .refl _
    · split
      · exact State.admNext_mem _ _ _
      · extract_lets -merge -underBinder t0
        exact .ite (.refl _) ((MemKept.upd (.refl _)).step (State.flowKill_mem _ _))
      · exact State.flowMirrorPhase_mem _ _ _
      · exact State.flowMirrorPhase_mem _ _ _
      · exact .refl _

theorem State.cbRec_mem s a1 : MemKept s (State.cbRec s a1) := by
  unfold State.cbRec
  split
  · exact .refl _
  · extract_lets -merge -underBinder t0
    clear_value t0
    exact .ite (State.setCb_mem _ _ _) (.ite (State.setCb_mem _ _ _) ((State.bumpVersion_mem _ _).step (State.setCb_mem _ _ _)))

theorem State.cbTake_mem s a1 : MemKept s (State.cbTake s a1) := by
  unfold State.cbTake
  exact .ite (.refl _) (.foldl (fun _ _ => State.cbRec_mem _ _) _ (.refl _))

theorem State.omdApply_mem s a1 : MemKept s (State.omdApply s a1) := by
  unfold State.omdApply
  refine .ite ?_ ?_
  · exact .refl _
  · split
    · exact .foldl (fun _ _ => State.fdbRec_mem _ _) _ (.refl _)
    · exact .foldl (fun _ _ => State.flowRecTake_mem _ _) _ (.refl _)
    · exact State.timeStateTake_mem _ _
    · exact State.cbTake_mem _ _
    · exact .ite (State.resyncStart_mem _) (.refl _)
    · extract_lets -merge -underBinder t0 t1 t2 t3
      clear_value t0
      refine .haveS (t := t2) (.upd (.refl _)) fun ht2 => ?_
      clear_value t2
      refine .haveS (t := t3) (.foldl (fun _ _ => State.flowRecTake_mem _ _) _ (.foldl (fun _ _ => State.fdbRec_mem _ _) _ ht2)) fun ht3 =>
          ?_
      clear_value t3
      refine .ite ?_ ?_
      · refine .step ?_ (State.cbTake_mem _ _)
        split
        · exact ht3.step (State.timeStateTake_mem _ _)
        · exact ht3
      · exact .refl _
    · exact .ite (State.resyncDone_mem _) (.refl _)
    · extract_lets -merge -underBinder t4
      exact .ite (.upd (.refl _)) (.refl _)

theorem State.storeFault_mem s a1 : MemKept s (State.storeFault s a1) := by
  unfold State.storeFault
  extract_lets -merge -underBinder t0 t1 t2 t3 t4
  refine .haveS (t := t1) ((State.setPool_mem _ _ _).step (State.raise_mem _ _ _ _ _)) fun ht1 => ?_
  clear_value t1
  refine .haveS (t := t3) (.upd ht1) fun ht3 => ?_
  clear_value t3
  exact .ite ht3 (ht3.step (State.setPool_mem _ _ _))

theorem State.auditBuf_mem s a1 : MemKept s (State.auditBuf s a1) := by
  unfold State.auditBuf
  extract_lets -merge -underBinder t0 t1 t2
  refine .haveS (t := t1) (.upd (.refl _)) fun ht1 => ?_
  clear_value t1
  refine .haveS (t := t2) (.ite (ht1.step (State.storeFault_mem _ _)) ht1) fun ht2 => ?_
  clear_value t2
  split
  · exact ht2
  · extract_lets -merge -underBinder t3
    exact .ite (.upd ht2) (ht2.step (State.auditLeak_mem _ _ _))

theorem State.setPortPtp_mem s a1 a2 : MemKept s (State.setPortPtp s a1 a2) := by
  unfold State.setPortPtp
  extract_lets -merge -underBinder t0
  exact .upd (.refl _)

theorem State.police_mem (s : State) (i p : Nat) (h : FrameHdr) : MemKept s (s.police i p h).1 := by
  unfold State.police
  extract_lets x t need
  split
  · exact State.setFlow_mem _ _ _
  · exact State.bump_mem _ _ _ _

theorem State.ingressFrame_mem (s : State) (p : Nat) (h : FrameHdr) :
    MemKept s (s.ingressFrame p h) := by
  unfold State.ingressFrame
  refine .ite (.refl _) (.ite (State.setPort_mem _ _ _) ?_)
  extract_lets -underBinder l s1 ts k src s2 fl r s3 n f tag
  have h1 : MemKept s s1 := State.latchAt_mem _ _ _ _
  have h2 : MemKept s s2 := MemKept.ite (h1.step (State.setPortPtp_mem _ _ _)) h1
  have h3 : MemKept s s3 := by
    unfold s3 r
    cases fl with
    | some i => exact h2.step (State.police_mem _ _ _ _)
    | none => exact h2
  clear_value s3
  refine .upd h3 (hspad := ?_)
  split <;> rfl

theorem State.pairCbSet_mem s a1 : MemKept s (State.pairCbSet s a1) := by
  unfold State.pairCbSet
  extract_lets -merge -underBinder t0 t1
  clear_value t0 t1
  refine State.runCmd_mem _ _ _ _ _ (fun _ => ?_)
  refine .ite ?_ ?_
  · exact State.complete_mem _ _ _ _ _ _ _
  · refine .ite ?_ ?_
    · exact State.complete_mem _ _ _ _ _ _ _
    · split
      · exact (((State.bumpVersion_mem _ _).step (State.setCb_mem _ _ _)).step (State.pairDelta_mem _ _)).step (State.complete_mem _ _ _ _ _
            _ _)
      · exact State.complete_mem _ _ _ _ _ _ _

theorem State.pairTimeSend_mem s : MemKept s (State.pairTimeSend s) := by
  unfold State.pairTimeSend
  extract_lets -merge -underBinder t0
  exact .ite (.upd (.refl _)) (.refl _)

theorem State.txFrame_mem (s : State) (n : Nat) (g : List Fetched) :
    MemKept s (s.txFrame n g).1 := by
  unfold State.txFrame
  extract_lets -underBinder f fl port q h bytes hdr k lookup flow fr src s1 ts c
  have h1 : MemKept s s1 := MemKept.upd (.refl _)
  clear_value s1
  split
  · exact h1
  · split
    · exact ((h1.step (State.bump_mem _ _ _ _)).step (State.tsLost_mem _ _ _)).step
        (State.mirrorFrame_mem _ _ _ _)
    · exact (h1.step (State.addCopy_mem _ _)).step (State.mirrorFrame_mem _ _ _ _)

theorem State.txTaken_mem (s : State) (n : Nat) (f : Fetched) :
    MemKept s (s.txTaken n f) := by
  unfold State.txTaken
  extract_lets l g
  refine .ite (.refl _) ?_
  exact (State.txFrame_mem s n g).step (State.setRing_mem _ _ _)

theorem State.pllFreqAcquired_mem s a1 : MemKept s (State.pllFreqAcquired s a1) := by
  unfold State.pllFreqAcquired
  extract_lets -merge -underBinder t0
  clear_value t0
  exact .ite (State.goPll_mem _ _ _) (.ite (State.setPll_mem _ _ _) (.refl _))

theorem State.gnssChLoss_mem s a1 : MemKept s (State.gnssChLoss s a1) := by
  unfold State.gnssChLoss
  exact .ite (State.goGnssCh_mem _ _ _) (.refl _)

end Sys2Proof.Machine
end

section
/-! SUPPORT. What each operation of the machine does to the byte memories, part 8 of 10: one lemma for one operation, in the
order of the lemmas that say what it may change. An operation that writes no byte keeps them (`_mem`), one that may write keeps
their form (`_memSafe`). -/

set_option Elab.async false

namespace Sys2Proof.Machine

theorem State.lockLossRetrain_mem s a1 : MemKept s (State.lockLossRetrain s a1) := by
  unfold State.lockLossRetrain
  extract_lets -merge -underBinder t0
  clear_value t0
  exact .ite (State.retrain_mem _ _) (.refl _)

theorem State.gnssChRegain_mem s a1 : MemKept s (State.gnssChRegain s a1) := by
  unfold State.gnssChRegain
  exact .ite (State.goGnssCh_mem _ _ _) (.refl _)

theorem State.omdAck_mem s a1 : MemKept s (State.omdAck s a1) := by
  unfold State.omdAck
  extract_lets -merge -underBinder t0
  exact .upd (.refl _)

theorem State.omdHeld_mem (s : State) (n : Nat) : MemKept s (s.omdHeld n) := by
  induction n generalizing s with
  | zero => exact .refl _
  | succ n ih =>
    unfold State.omdHeld
    split
    · exact .refl _
    · refine .step (MemKept.step ?_ (State.omdApply_mem _ _)) (ih _)
      exact .upd (.refl _)

theorem State.omdSeq_mem s a1 a2 : MemKept s (State.omdSeq s a1 a2) := by
  unfold State.omdSeq
  extract_lets -merge -underBinder t0 t1 t2 t3
  refine .haveS (t := t0) (State.omdAck_mem _ _) fun ht0 => ?_
  clear_value t0 t1
  exact .ite (.refl _) (.ite (((MemKept.upd ht0).step (State.omdApply_mem _ _)).step (State.omdHeld_mem _ _)) (.ite (.upd ht0) ht0))

theorem State.autoDrop_mem s a1 : MemKept s (State.autoDrop s a1) := by
  unfold State.autoDrop
  extract_lets -merge -underBinder t0 t1
  refine .haveS (t := t0) (State.dropObj_mem _ _ _) fun ht0 => ?_
  clear_value t0
  exact .ite (.upd ht0) (.refl _)

theorem State.flowBuf_mem s a1 a2 a3 : MemKept s (State.flowBuf s a1 a2 a3) := by
  unfold State.flowBuf
  extract_lets -merge -underBinder t0 t1 t2
  clear_value t0 t1 t2
  refine .ite ?_ ?_
  · exact State.giveBuf_mem _ _ _ _ _ _
  · split
    · exact State.giveBuf_mem _ _ _ _ _ _
    · refine .step ?_ (State.removeCopy_mem _ _)
      refine .step ?_ (State.bump_mem _ _ _ _)
      split
      · exact State.tsLost_mem _ _ _
      · exact .refl _

theorem State.ingressRefused_mem s a1 a2 a3 : MemKept s (State.ingressRefused s a1 a2 a3) := by
  unfold State.ingressRefused
  exact (State.assertCause_mem _ _ _).step (State.refusedBufs_mem _ _ _)

theorem State.requestFor_mem s a1 a2 a3 a4 : MemKept s (State.requestFor s a1 a2 a3 a4) := by
  unfold State.requestFor
  extract_lets -merge -underBinder t0 t1
  clear_value t0
  refine .haveS (t := t1) (State.countAnswer_mem _ _ _) fun ht1 => ?_
  clear_value t1
  refine .ite ?_ ?_
  · refine .foldl (fun _ _ => ?_) _ ht1
    extract_lets -merge -underBinder t2
    refine .haveS (t := t2) (State.giveBuf_mem _ _ _ _ _ _) fun ht2 => ?_
    clear_value t2
    split
    · exact ht2.step (State.setCopy_mem _ _ _)
    · exact ht2
  · exact .ite (ht1.step (State.ingressRefused_mem _ _ _ _)) (ht1.step (State.assertCause_mem _ _ _))

theorem State.firstBufs_mem s a1 a2 : MemKept s (State.firstBufs s a1 a2) := by
  unfold State.firstBufs
  extract_lets -merge -underBinder t0 t1 t2
  clear_value t0 t1
  refine .haveS (t := t2) (.foldl (fun _ _ => State.flowBuf_mem _ _ _ _) _ (.refl _)) fun ht2 => ?_
  clear_value t2
  exact .ite ht2 (ht2.step (State.requestFor_mem _ _ _ _ _))

theorem State.candCheck_mem s a1 a2 : MemKept s (State.candCheck s a1 a2) := by
  unfold State.candCheck
  extract_lets -merge -underBinder t0
  clear_value t0
  refine .ite ?_ ?_
  · exact State.candEnable_mem _ _
  · refine .ite ?_ ?_
    · exact State.candAbsent_mem _ _
    · refine .ite ?_ ?_
      · exact State.candPass_mem _ _
      · split
        · exact State.setCandSt_mem _ _ _ _
        · extract_lets -merge -underBinder t1
          exact .upd (.refl _)
        · exact State.candFail_mem _ _ _

theorem State.ppsInTimeout_mem s a1 : MemKept s (State.ppsInTimeout s a1) := by
  unfold State.ppsInTimeout
  exact State.candCheck_mem _ _ _

theorem State.surveyAdd_mem s a1 : MemKept s (State.surveyAdd s a1) := by
  unfold State.surveyAdd
  extract_lets -merge -underBinder t0 t1 t2
  clear_value t0 t1
  exact .ite (.refl _) ((MemKept.upd (.refl _)).step (State.surveyCheck_mem _))

theorem State.lnkBypassEnd_mem s : MemKept s (State.lnkBypassEnd s) := by
  unfold State.lnkBypassEnd
  exact .foldl (fun _ _ => State.lnkPhiValid_mem _ _) _ (.refl _)

theorem State.pllReturn'_mem s a1 : MemKept s (State.pllReturn' s a1) := by
  unfold State.pllReturn'
  extract_lets -merge -underBinder t0 t1 t2 t3 t4
  refine .haveS (t := t0) (.ite (State.cycFold_mem _) (.refl _)) fun ht0 => ?_
  clear_value t0 t1 t2
  refine .haveS (t := t3) (ht0.step (State.setPll_mem _ _ _)) fun ht3 => ?_
  clear_value t3
  refine .haveS (t := t4) ((ht3.step (State.goPll_mem _ _ _)).step (State.raise_mem _ _ _ _ _)) fun ht4 => ?_
  clear_value t4
  exact .ite ((ht4.step (State.ltxLoad_mem _)).step (State.lnkBypassEnd_mem _)) ht4

theorem State.pllReturnCmd_mem s a1 : MemKept s (State.pllReturnCmd s a1) := by
  unfold State.pllReturnCmd
  extract_lets -merge -underBinder t0 t1
  clear_value t0
  refine State.runCmd_mem _ _ _ _ _ (fun _ => ?_)
  extract_lets -merge -underBinder t2
  clear_value t2
  exact .ite ((State.pllReturn'_mem _ _).step (State.complete_mem _ _ _ _ _ _ _)) (State.complete_mem _ _ _ _ _ _ _)

theorem State.pairStateSend_mem s : MemKept s (State.pairStateSend s) := by
  unfold State.pairStateSend
  extract_lets -merge -underBinder t0
  exact .ite (((MemKept.upd (.refl _)).step (State.pairDelta_mem _ _)).step (State.pairDelta_mem _ _)) (.refl _)

theorem State.keyBlockExpire_mem s a1 : MemKept s (State.keyBlockExpire s a1) := by
  unfold State.keyBlockExpire
  extract_lets -merge -underBinder t0
  exact .upd (.refl _)

theorem State.ticEnd_mem s a1 a2 : MemKept s (State.ticEnd s a1 a2) := by
  unfold State.ticEnd
  extract_lets -merge -underBinder t0 t1 t2 t3
  clear_value t0
  refine .haveS (t := t1) ((State.setTicCh_mem _ _ _).step (State.calBoundary_mem _ _ _)) fun ht1 => ?_
  clear_value t1
  refine .haveS (t := t2) (ht1.step (State.raise_mem _ _ _ _ _)) fun ht2 => ?_
  clear_value t2
  refine .haveS (t := t3) (ht2.step (State.ticCalGo_mem _ _)) fun ht3 => ?_
  clear_value t3
  exact .ite (ht3.step (State.ticArmBlock_mem _ _ _)) ht3

theorem State.ticTake_mem s a1 a2 : MemKept s (State.ticTake s a1 a2) := by
  unfold State.ticTake
  extract_lets -merge -underBinder t0 t1 t2 t3 t4 t5 t6 t7
  clear_value t0 t1 t2 t3 t4
  refine .haveS (t := t5) (.ite (State.bump_mem _ _ _ _) (.ite (State.bump_mem _ _ _ _) (.refl _))) fun ht5 => ?_
  clear_value t5 t6
  refine .haveS (t := t7) (ht5.step (State.setTicCh_mem _ _ _)) fun ht7 => ?_
  clear_value t7
  exact .ite (ht7.step (State.ticEnd_mem _ _ _)) ht7

theorem State.ticEdge_mem s a1 a2 a3 a4 : MemKept s (State.ticEdge s a1 a2 a3 a4) := by
  unfold State.ticEdge
  extract_lets -merge -underBinder t0 t1
  clear_value t0 t1
  refine .ite ?_ ?_
  · exact .refl _
  · refine .ite ?_ ?_
    · refine .ite ?_ ?_
      · exact .refl _
      · split
        · exact (State.setTicCh_mem _ _ _).step (State.ticTake_mem _ _ _)
        · exact State.setTicCh_mem _ _ _
    · refine .ite ?_ ?_
      · exact .refl _
      · split
        · exact (State.setTicCh_mem _ _ _).step (State.ticTake_mem _ _ _)
        · exact State.setTicCh_mem _ _ _

theorem State.carveTakeEffect_mem s : MemKept s (State.carveTakeEffect s) := by
  unfold State.carveTakeEffect
  exact .ite (State.carveEffect_mem _) (.refl _)

theorem State.flowBoundConfirm_mem s a1 : MemKept s (State.flowBoundConfirm s a1) := by
  unfold State.flowBoundConfirm
  split
  · exact .refl _
  · extract_lets -merge -underBinder t0
    clear_value t0
    exact .ite (.refl _) (.ite ((State.flowLocal_mem _ _).step (State.admGo_mem _)) (.ite ((State.flowRefuse_mem _ _ _).step
        (State.admGo_mem _)) (.refl _)))

theorem State.tchanModify_mem s a1 : MemKept s (State.tchanModify s a1) := by
  unfold State.tchanModify
  extract_lets -merge -underBinder t0 t1 t2 t3 t4 t5
  clear_value t0 t1 t2 t3
  refine .haveS (t := t4) ((State.setObj_mem _ _ _ _).step (State.setRole_mem _ _ _)) fun ht4 => ?_
  clear_value t4
  refine .haveS (t := t5) (ht4.step (State.chansChanged_mem _ _)) fun ht5 => ?_
  clear_value t5
  exact .ite (State.complete_mem _ _ _ _ _ _ _) (ht5.step (State.complete_mem _ _ _ _ _ _ _))

theorem State.mchanModify_mem s a1 : MemKept s (State.mchanModify s a1) := by
  unfold State.mchanModify
  extract_lets -merge -underBinder t0 t1
  clear_value t0
  exact .ite (State.complete_mem _ _ _ _ _ _ _) ((State.setObj_mem _ _ _ _).step (State.complete_mem _ _ _ _ _ _ _))

theorem State.mirrorModify_mem s a1 : MemKept s (State.mirrorModify s a1) := by
  unfold State.mirrorModify
  extract_lets -merge -underBinder t0 t1
  clear_value t0
  exact .ite (State.complete_mem _ _ _ _ _ _ _) (((State.bumpVersion_mem _ _).step (State.setObj_mem _ _ _ _)).step (State.complete_mem _ _
      _ _ _ _ _))

theorem State.searchModify_mem s a1 : MemKept s (State.searchModify s a1) := by
  unfold State.searchModify
  extract_lets -merge -underBinder t0 t1 t2
  clear_value t0
  refine .haveS (t := t2) ((State.setObj_mem _ _ _ _).step (State.searchBegin_mem _ _ _)) fun ht2 => ?_
  clear_value t2
  exact ht2.step (State.complete_mem _ _ _ _ _ _ _)

theorem State.objModify_mem s a1 a2 a3 : MemKept s (State.objModify s a1 a2 a3) := by
  unfold State.objModify
  split
  · exact State.admTake_mem _ _ _ _
  · refine State.runNamed_mem _ _ _ _ _ _ _ _ (fun _ => ?_)
    split
    · exact .refl _
    · exact State.tchanModify_mem _ _
    · exact State.mchanModify_mem _ _
    · exact State.mirrorModify_mem _ _
    · exact State.searchModify_mem _ _
    · exact State.calModify_mem _ _

theorem State.rampClampReached_mem s a1 : MemKept s (State.rampClampReached s a1) := by
  unfold State.rampClampReached
  extract_lets -merge -underBinder t0
  clear_value t0
  split
  · exact .refl _
  · extract_lets -merge -underBinder t1 t2
    clear_value t1 t2
    exact .ite (.refl _) ((State.setRamp_mem _ _ _).step (State.raiseIf_mem _ _ _ _ _ _))

theorem State.pllRampLoad_mem s a1 : MemKept s (State.pllRampLoad s a1) := by
  unfold State.pllRampLoad
  extract_lets -merge -underBinder t0 t1 t2 t3 t4
  clear_value t0 t1 t2 t3
  refine State.runCmd_mem _ _ _ _ _ (fun _ => ?_)
  extract_lets -merge -underBinder t5 t6
  clear_value t5 t6
  exact .ite (State.complete_mem _ _ _ _ _ _ _) (((State.setRamp_mem _ _ _).step (State.rampEffects_mem _ _)).step (State.complete_mem _ _ _
      _ _ _ _))

theorem State.gnssRfEnLead_mem s : MemKept s (State.gnssRfEnLead s) := by
  unfold State.gnssRfEnLead
  extract_lets -merge -underBinder t0
  exact .ite (.upd (.refl _)) (.refl _)

theorem State.forceStepBack_mem s a1 : MemKept s (State.forceStepBack s a1) := by
  unfold State.forceStepBack
  extract_lets -merge -underBinder t0
  clear_value t0
  exact .ite (State.setLane_mem _ _ _) (.refl _)

theorem State.searchDeal_mem s a1 : MemKept s (State.searchDeal s a1) := by
  unfold State.searchDeal
  extract_lets -merge -underBinder t0
  clear_value t0
  exact .ite (.refl _) (State.setSearchJob_mem _ _ _)

theorem State.gnssDwellStart_mem s : MemKept s (State.gnssDwellStart s) := by
  unfold State.gnssDwellStart
  exact .ite (.refl _) (.foldl (fun _ _ => State.searchDeal_mem _ _) _ (.refl _))

theorem State.refclkReturn_mem s : MemKept s (State.refclkReturn s) := by
  unfold State.refclkReturn
  extract_lets -merge -underBinder t0
  refine .foldl (fun _ _ => ?_) _ (.upd (.refl _))
  extract_lets -merge -underBinder t1
  exact State.setPll_mem _ _ _

theorem State.searchMake_mem s a1 a2 : MemKept s (State.searchMake s a1 a2) := by
  unfold State.searchMake
  extract_lets -merge -underBinder t0 t1 t2
  clear_value t0
  refine .haveS (t := t1) (State.addObj_mem _ _ _ _) fun ht1 => ?_
  clear_value t1
  exact (MemKept.upd ht1).step (State.searchBegin_mem _ _ _)

theorem State.autoJob_mem s a1 a2 : MemKept s (State.autoJob s a1 a2) := by
  unfold State.autoJob
  extract_lets -merge -underBinder t0 t1 t2 t3 t4 t5
  clear_value t0 t1 t2 t3 t4 t5
  refine .ite ?_ ?_
  · exact .refl _
  · split
    · exact .refl _
    · extract_lets -merge -underBinder t6 t7 t8 t9
      refine .haveS (t := t6) (State.searchMake_mem _ _ _) fun ht6 => ?_
      clear_value t6
      refine .haveS (t := t8) (.ite (ht6.step (State.setSearchJob_mem _ _ _)) ht6) fun ht8 => ?_
      clear_value t8
      exact .upd ht8

theorem State.gnssAutoAcqRound_mem s : MemKept s (State.gnssAutoAcqRound s) := by
  unfold State.gnssAutoAcqRound
  extract_lets -merge -underBinder t0
  refine .haveS (t := t0) (.foldl (fun _ _ => State.autoDrop_mem _ _) _ (.refl _)) fun ht0 => ?_
  clear_value t0
  exact .ite (.refl _) (.foldl (fun _ _ => State.autoJob_mem _ _ _) _ ht0)

theorem State.polSet_mem s a1 : MemKept s (State.polSet s a1) := by
  unfold State.polSet
  extract_lets -merge -underBinder t0
  clear_value t0
  refine State.runCmd_mem _ _ _ _ _ (fun _ => ?_)
  extract_lets -merge -underBinder t1 t2
  refine .haveS (t := t1) (.foldl (fun _ _ => State.setPol_mem _ _ _ _) _ (.refl _)) fun ht1 => ?_
  clear_value t1
  refine .haveS (t := t2) (.ite (ht1.step (State.rolesEval_mem _)) ht1) fun ht2 => ?_
  clear_value t2
  exact ht2.step (State.complete_mem _ _ _ _ _ _ _)

theorem State.esmcTimeout_mem s a1 : MemKept s (State.esmcTimeout s a1) := by
  unfold State.esmcTimeout
  extract_lets -merge -underBinder t0 t1
  refine .haveS (t := t1) (.upd (.refl _)) fun ht1 => ?_
  clear_value t1
  exact (MemKept.foldl (fun _ _ => State.recheck_mem _ _) _ ht1).step (State.updateClass_mem _)

theorem State.rehearsalEnd_mem s a1 a2 a3 a4 a5 : MemKept s (State.rehearsalEnd s a1 a2 a3 a4 a5) := by
  unfold State.rehearsalEnd
  extract_lets -merge -underBinder t0 t1 t2 t3 t4 t5 t6 t7 t8
  clear_value t0 t1 t2 t3 t4
  refine .haveS (t := t6) (.upd (.refl _)) fun ht6 => ?_
  clear_value t6
  refine .haveS (t := t8) (ht6.step (State.raise_mem _ _ _ _ _)) fun ht8 => ?_
  clear_value t8
  refine .ite ?_ ?_
  · exact .refl _
  · split
    · exact ht8.step (State.complete_mem _ _ _ _ _ _ _)
    · exact ht8

theorem State.dmaWord_memSafe (s : State) (x : Nat × Option Nat × Nat) (o v : Nat) (c : Option Word) :
    MemSafe s (State.dmaWord (s, x) o v c).1 := by
  unfold State.dmaWord
  extract_lets s0
  split
  · exact (State.bankOffAccess_mem _ _).safe
  · split
    · exact (State.putSpad_memSafe _ _ _).step ((State.bump_mem _ _ _ _).step (State.raise_mem _ _ _ _ _)).safe
    · exact State.putSpad_memSafe _ _ _

theorem State.pairHoldEnd_mem s a1 : MemKept s (State.pairHoldEnd s a1) := by
  unfold State.pairHoldEnd
  extract_lets -merge -underBinder t0
  exact .ite ((State.setPair_mem _ _ _).step (State.raise_mem _ _ _ _ _)) (.refl _)

theorem State.lnkHoldExpire_mem s a1 : MemKept s (State.lnkHoldExpire s a1) := by
  unfold State.lnkHoldExpire
  exact State.pairHoldEnd_mem _ _

theorem State.pairPrimary_mem s a1 : MemKept s (State.pairPrimary s a1) := by
  unfold State.pairPrimary
  extract_lets -merge -underBinder t0
  exact (MemKept.upd (.refl _)).step (State.goPair_mem _ _)

theorem State.pairSearchTimeout_mem s : MemKept s (State.pairSearchTimeout s) := by
  unfold State.pairSearchTimeout
  exact .ite (State.pairPrimary_mem _ _) (.refl _)

theorem State.returnCheck_mem s a1 a2 : MemKept s (State.returnCheck s a1 a2) := by
  unfold State.returnCheck
  exact .ite (State.returnStepped_mem _ _) (.refl _)

theorem State.ppsRise_mem s a1 a2 : MemKept s (State.ppsRise s a1 a2) := by
  unfold State.ppsRise
  extract_lets -merge -underBinder t0
  exact State.setPps_mem _ _ _

theorem State.ppsOutPulse_mem s a1 : MemKept s (State.ppsOutPulse s a1) := by
  unfold State.ppsOutPulse
  extract_lets -merge -underBinder t0
  clear_value t0
  refine .ite ?_ ?_
  · exact .refl _
  · refine .ite ?_ ?_
    · exact State.setPps_mem _ _ _
    · refine .ite ?_ ?_
      · exact (State.bump_mem _ _ _ _).step (State.setPps_mem _ _ _)
      · split
        · exact .ite ((State.bump_mem _ _ _ _).step (State.ppsRise_mem _ _ _)) (State.ppsRise_mem _ _ _)
        · exact State.ppsRise_mem _ _ _

theorem State.bootStart_memSafe s a1 : MemSafe s (State.bootStart s a1) := by
  unfold State.bootStart
  extract_lets -merge -underBinder t0 t1
  exact .ite (.refl _) (.ite (.upd (.refl _)) (State.boot!_memSafe _ _))

theorem State.fdbClsSet_mem s a1 : MemKept s (State.fdbClsSet s a1) := by
  unfold State.fdbClsSet
  extract_lets -merge -underBinder t0 t1 t2
  clear_value t0 t1 t2
  refine State.runCmd_mem _ _ _ _ _ (fun _ => ?_)
  extract_lets -merge -underBinder t3 t4
  refine .haveS (t := t3) (State.bumpVersion_mem _ _) fun ht3 => ?_
  clear_value t3
  exact .ite (State.complete_mem _ _ _ _ _ _ _) (.ite (State.complete_mem _ _ _ _ _ _ _) ((MemKept.upd ht3).step (State.complete_mem _ _ _ _
      _ _ _)))

theorem State.esmcSend_mem s a1 : MemKept s (State.esmcSend s a1) := by
  unfold State.esmcSend
  extract_lets -merge -underBinder t0
  exact .ite (.upd (.refl _)) (.refl _)

theorem State.pairHbMissCheck_mem s : MemKept s (State.pairHbMissCheck s) := by
  unfold State.pairHbMissCheck
  extract_lets -merge -underBinder t0 t1 t2 t3 t4 t5 t6 t7 t8 t9 t10
  clear_value t0 t1 t2
  refine .haveS (t := t4) (.upd (.refl _)) fun ht4 => ?_
  clear_value t4
  refine .haveS (t := t5) (.ite ht4 (ht4.step (State.bump_mem _ _ _ _))) fun ht5 => ?_
  clear_value t5
  refine .haveS (t := t6) (.ite ht5 (ht5.step (State.bump_mem _ _ _ _))) fun ht6 => ?_
  clear_value t6
  refine .haveS (t := t7) (ht6.step (State.raiseIf_mem _ _ _ _ _ _)) fun ht7 => ?_
  clear_value t7
  refine .haveS (t := t8) (ht7.step (State.raiseIf_mem _ _ _ _ _ _)) fun ht8 => ?_
  clear_value t8 t9
  exact .ite (.refl _) ((MemKept.ite (.upd ht8) ht8).step (State.pairPaths_mem _))

theorem State.mirrorBuf_mem s a1 a2 a3 : MemKept s (State.mirrorBuf s a1 a2 a3) := by
  unfold State.mirrorBuf
  extract_lets -merge -underBinder t0 t1 t2
  clear_value t0 t1
  refine .haveS (t := t2) (State.countAnswer_mem _ _ _) fun ht2 => ?_
  clear_value t2
  exact .ite (ht2.step (State.giveBuf_mem _ _ _ _ _ _)) ((ht2.step (State.bump_mem _ _ _ _)).step (State.removeCopy_mem _ _))

theorem State.mirrorMore_mem (s : State) (m c n k : Nat) :
    MemKept s (s.mirrorMore m c n k) := by
  induction k generalizing s with
  | zero => exact .refl _
  | succ k ih =>
    unfold State.mirrorMore
    split
    · exact .refl _
    · exact .ite (State.bump_mem _ _ _ _)
        ((State.mirrorBuf_mem _ _ _ _).step (ih _))

theorem State.mirrorBufs_mem s a1 a2 a3 a4 : MemKept s (State.mirrorBufs s a1 a2 a3 a4) := by
  unfold State.mirrorBufs
  exact (State.mirrorBuf_mem _ _ _ _).step (State.mirrorMore_mem _ _ _ _ _)

theorem State.moreBuf_mem s a1 a2 a3 a4 : MemKept s (State.moreBuf s a1 a2 a3 a4) := by
  unfold State.moreBuf
  extract_lets -merge -underBinder t0
  refine .haveS (t := t0) ?_ fun ht0 => ?_
  · unfold t0
    refine .ite ?_ ?_
    · refine .foldl (fun _ _ => ?_) _ (State.bump_mem _ _ _ _)
      split
      · exact State.setCopy_mem _ _ _
      · exact .refl _
    · exact .refl _
  clear_value t0
  split
  · exact ht0.step (State.flowBuf_mem _ _ _ _)
  · exact .ite (ht0.step (State.refusedBufs_mem _ _ _)) (ht0.step (State.requestFor_mem _ _ _ _ _))

theorem State.bpmFrame_mem s a1 a2 : MemKept s (State.bpmFrame s a1 a2) := by
  unfold State.bpmFrame
  split
  · refine .ite ?_ ?_
    · exact .refl _
    · split
      · exact .ite (State.mirrorBufs_mem _ _ _ _ _) (.refl _)
      · extract_lets -merge -underBinder t0
        clear_value t0
        exact .ite (State.firstBufs_mem _ _ _) (.ite (.refl _) (State.moreBuf_mem _ _ _ _ _))
  · exact .refl _

theorem State.omdLaneDown_mem s a1 : MemKept s (State.omdLaneDown s a1) := by
  unfold State.omdLaneDown
  exact .ite (State.setLanes_mem _ _) (.refl _)

theorem State.spadBankTransitionDone_memSafe s a1 : MemSafe s (State.spadBankTransitionDone s a1) := by
  unfold State.spadBankTransitionDone
  extract_lets -merge -underBinder t0
  clear_value t0
  split
  · exact .refl _
  · extract_lets -merge -underBinder t1
    exact .spad (.refl _) fun hw => Memory.wf_clear_if _ _ _ hw

theorem State.pairFlowTimeout_mem s : MemKept s (State.pairFlowTimeout s) := by
  unfold State.pairFlowTimeout
  split
  · exact .ite ((State.flowGrant_mem _ _).step (State.admGo_mem _)) (.refl _)
  · exact .refl _

theorem State.ticStop_mem s a1 a2 : MemKept s (State.ticStop s a1 a2) := by
  unfold State.ticStop
  refine State.runNamed_mem _ _ _ _ _ _ _ _ (fun _ => ?_)
  extract_lets -merge -underBinder t0 t1 t2
  clear_value t0 t1
  refine .haveS (t := t2) (.ite (((State.setTicCh_mem _ _ _).step (State.calBoundary_mem _ _ _)).step (State.ticCalGo_mem _ _))
      (State.ticEnd_mem _ _ _)) fun ht2 => ?_
  clear_value t2
  exact .ite (State.complete_mem _ _ _ _ _ _ _) (ht2.step (State.complete_mem _ _ _ _ _ _ _))

theorem State.objVerb_mem s a1 a2 : MemKept s (State.objVerb s a1 a2) := by
  unfold State.objVerb
  refine .ite ?_ ?_
  · exact State.flowAgain_mem _ _
  · split
    · exact State.objModify_mem _ _ _ _
    · exact State.objDrain_mem _ _ _ _ _
    · exact State.objDrain_mem _ _ _ _ _
    · exact State.objEnable_mem _ _ _ _
    · exact State.ticArm_mem _ _ _
    · exact State.ticStop_mem _ _ _

theorem State.drainEnd_mem s a1 a2 : MemKept s (State.drainEnd s a1 a2) := by
  unfold State.drainEnd
  split
  · exact .refl _
  · extract_lets -merge -underBinder t0
    clear_value t0
    refine .ite ?_ ?_
    · exact .refl _
    · split
      · exact .refl _
      · extract_lets -merge -underBinder t1 t2 t3 t4
        clear_value t1 t2
        refine .haveS (t := t3) (.ite (.refl _) (State.objAbort_mem _ _ _)) fun ht3 => ?_
        clear_value t3
        refine .haveS (t := t4) (ht3.step (State.objEnd_mem _ _ _ _ _)) fun ht4 => ?_
        clear_value t4
        exact .ite (.refl _) (.foldl (fun _ _ => State.objVerb_mem _ _ _) _ ht4)

theorem State.upset_mem s a1 : MemKept s (State.upset s a1) := by
  unfold State.upset
  split
  · split
    · extract_lets -merge -underBinder t0
      exact (MemKept.upd (.refl _)).step (State.unlinkBuf_mem _ _)
    · exact .refl _
  · extract_lets -merge -underBinder t1
    exact State.setPool_mem _ _ _
  · extract_lets -merge -underBinder t2
    exact State.setReq_mem _ _ _

theorem State.tagStage_mem s a1 a2 : MemKept s (State.tagStage s a1 a2) := by
  unfold State.tagStage
  split
  · exact .refl _
  · extract_lets -merge -underBinder t0
    exact .ite (.refl _) (.upd (.refl _))

theorem State.bpmAlloc_mem s a1 : MemKept s (State.bpmAlloc s a1) := by
  unfold State.bpmAlloc
  split
  · exact ((State.bpmFrame_mem _ _ _).step (State.tagStage_mem _ _ _)).step (State.xoffUpdate_mem _)
  · exact .ite ((State.bpmEngine_mem _ _).step (State.xoffUpdate_mem _)) (.refl _)

theorem State.esmcReceive_mem s a1 a2 a3 : MemKept s (State.esmcReceive s a1 a2 a3) := by
  unfold State.esmcReceive
  extract_lets -merge -underBinder t0 t1
  refine .haveS (t := t1) (.upd (.refl _)) fun ht1 => ?_
  clear_value t1
  exact .ite (.refl _) ((MemKept.foldl (fun _ _ => State.recheck_mem _ _) _ ht1).step (State.updateClass_mem _))

theorem State.bpmAuditRun_mem s a1 : MemKept s (State.bpmAuditRun s a1) := by
  unfold State.bpmAuditRun
  extract_lets -merge -underBinder t0
  clear_value t0
  refine State.runCmd_mem _ _ _ _ _ (fun _ => ?_)
  extract_lets -merge -underBinder t1
  exact .upd (.refl _)

theorem State.startTx_mem s a1 a2 : MemKept s (State.startTx s a1 a2) := by
  unfold State.startTx
  split
  · exact .refl _
  · extract_lets -merge -underBinder t0 t1
    refine .haveS (t := t0) ((State.setCopy_mem _ _ _).step (State.unqueue_mem _ _)) fun ht0 => ?_
    clear_value t0
    exact (ht0.step (State.setPort_mem _ _ _)).step (State.xoffUpdate_mem _)

theorem State.pllBypassEntry_mem s a1 a2 a3 : MemKept s (State.pllBypassEntry s a1 a2 a3) := by
  unfold State.pllBypassEntry
  extract_lets -merge -underBinder t0
  clear_value t0
  split
  · exact State.pllBypass_mem _ _ _ _
  · exact State.setPll_mem _ _ _
  · exact .refl _

theorem State.gnssSurvey_mem s a1 : MemKept s (State.gnssSurvey s a1) := by
  unfold State.gnssSurvey
  extract_lets -merge -underBinder t0
  clear_value t0
  refine State.runCmd_mem _ _ _ _ _ (fun _ => ?_)
  extract_lets -merge -underBinder t1
  refine .haveS (t := t1) ((State.putBoth_mem _ _ _ _ _).step (State.surveyStart_mem _)) fun ht1 => ?_
  clear_value t1
  exact .ite (ht1.step (State.complete_mem _ _ _ _ _ _ _)) (.ite (State.complete_mem _ _ _ _ _ _ _) ((State.surveyHold_mem _).step
      (State.complete_mem _ _ _ _ _ _ _)))

theorem State.calStoreRetry_mem s a1 : MemKept s (State.calStoreRetry s a1) := by
  unfold State.calStoreRetry
  split
  · exact State.calPut_mem _ _ _
  · exact .refl _

theorem State.objQuery_mem s a1 a2 : MemKept s (State.objQuery s a1 a2) := by
  unfold State.objQuery
  extract_lets -merge -underBinder t0
  clear_value t0
  refine State.runCmd_mem _ _ _ _ _ (fun _ => ?_)
  extract_lets -merge -underBinder t1 t2 t3
  clear_value t1
  refine .haveS (t := t2) (.ite (State.calCheckLost_mem _ _) (.refl _)) fun ht2 => ?_
  clear_value t2 t3
  exact ht2.step (State.complete_mem _ _ _ _ _ _ _)

theorem State.verbRun_mem s a1 a2 a3 : MemKept s (State.verbRun s a1 a2 a3) := by
  unfold State.verbRun
  split
  · exact State.objModify_mem _ _ _ _
  · exact State.objQuery_mem _ _ _
  · exact State.objDrain_mem _ _ _ _ _
  · exact State.objList_mem _ _ _
  · exact State.objDrain_mem _ _ _ _ _
  · exact State.objEnable_mem _ _ _ _

theorem State.avsRetry_mem s : MemKept s (State.avsRetry s) := by
  unfold State.avsRetry
  extract_lets -merge -underBinder t0
  exact .ite (.upd (.refl _)) (.refl _)

theorem State.fdbFlush_mem s a1 : MemKept s (State.fdbFlush s a1) := by
  unfold State.fdbFlush
  extract_lets -merge -underBinder t0 t1 t2
  clear_value t0 t1 t2
  refine State.runCmd_mem _ _ _ _ _ (fun _ => ?_)
  extract_lets -merge -underBinder t3
  clear_value t3
  exact .ite (State.complete_mem _ _ _ _ _ _ _) ((MemKept.foldl (fun _ _ => State.fdbRemove_mem _ _ _) _ (.refl _)).step (State.complete_mem
      _ _ _ _ _ _ _))

theorem State.retrainDone_mem s a1 a2 a3 a4 a5 : MemKept s (State.retrainDone s a1 a2 a3 a4 a5) := by
  unfold State.retrainDone
  extract_lets -merge -underBinder t0
  clear_value t0
  exact .ite (.refl _) ((State.bump_mem _ _ _ _).step (State.setLane_mem _ _ _))

theorem State.rehearseStart_mem s a1 : MemKept s (State.rehearseStart s a1) := by
  unfold State.rehearseStart
  extract_lets -merge -underBinder t0
  exact .upd (.refl _)

theorem State.pairRehearse_mem s a1 : MemKept s (State.pairRehearse s a1) := by
  unfold State.pairRehearse
  exact State.runCmd_mem _ _ _ _ _ (fun _ => .ite (State.complete_mem _ _ _ _ _ _ _) (.ite (State.complete_mem _ _ _ _ _ _ _)
      (State.rehearseStart_mem _ _)))

end Sys2Proof.Machine
end

section
/-! SUPPORT. What each operation of the machine does to the byte memories, part 9 of 10: one lemma for one operation, in the
order of the lemmas that say what it may change. An operation that writes no byte keeps them (`_mem`), one that may write keeps
their form (`_memSafe`). -/

set_option Elab.async false

namespace Sys2Proof.Machine

theorem State.pllAutoReturn_mem s a1 : MemKept s (State.pllAutoReturn s a1) := by
  unfold State.pllAutoReturn
  extract_lets -merge -underBinder t0
  clear_value t0
  exact .ite (State.pllReturn'_mem _ _) (.refl _)

theorem State.ppsPulseEnd_mem s a1 : MemKept s (State.ppsPulseEnd s a1) := by
  unfold State.ppsPulseEnd
  extract_lets -merge -underBinder t0 t1
  clear_value t0
  refine .haveS (t := t1) (State.setPps_mem _ _ _) fun ht1 => ?_
  clear_value t1
  exact .ite (.refl _) (.ite (ht1.step (State.ppsRise_mem _ _ _)) ht1)

theorem State.switchDone_memSafe s a1 : MemSafe s (State.switchDone s a1) := by
  unfold State.switchDone
  extract_lets -merge -underBinder t0 t1
  refine .haveS (t := t1) (.upd (.refl _)) fun ht1 => ?_
  clear_value t1
  exact .ite (ht1.step (State.wakeUnits_memSafe _)) ht1

theorem State.gnssLatch_mem s a1 : MemKept s (State.gnssLatch s a1) := by
  unfold State.gnssLatch
  extract_lets -merge -underBinder t0 t1 t2
  clear_value t0 t1
  refine .haveS (t := t2) ((State.bump_mem _ _ _ _).step (State.setGnssCh_mem _ _ _)) fun ht2 => ?_
  clear_value t2
  exact .ite (.refl _) (ht2.step (State.setGnssCh_mem _ _ _))

theorem State.gnssEpoch_mem s a1 a2 : MemKept s (State.gnssEpoch s a1 a2) := by
  unfold State.gnssEpoch
  extract_lets -merge -underBinder t0 t1 t2 t3
  refine .haveS (t := t0) ?_ fun ht0 => ?_
  · unfold t0
    refine .foldl (fun _ _ => ?_) _ (.refl _)
    extract_lets -merge -underBinder t4
    exact .ite (State.setGnssCh_mem _ _ _) (.refl _)
  clear_value t0
  refine .haveS (t := t1) (.foldl (fun _ _ => State.gnssLatch_mem _ _) _ ht0) fun ht1 => ?_
  clear_value t1
  refine .haveS (t := t3) (.upd ht1) fun ht3 => ?_
  clear_value t3
  exact .ite (.refl _) ((ht3.step (State.applyAt_mem _ _ _)).step (State.calBoundary_mem _ _ _))

theorem State.ringDrainEnd_mem s a1 : MemKept s (State.ringDrainEnd s a1) := by
  unfold State.ringDrainEnd
  extract_lets -merge -underBinder t0 t1
  clear_value t0 t1
  exact .ite (.refl _) (((State.setRing_mem _ _ _).step (State.bump_mem _ _ _ _)).step (State.raise_mem _ _ _ _ _))

theorem State.polStore_mem s a1 a2 : MemKept s (State.polStore s a1 a2) := by
  unfold State.polStore
  extract_lets -merge -underBinder t0 t1
  refine .haveS (t := t0) (State.persStore_mem _ _ _) fun ht0 => ?_
  clear_value t0
  exact .ite (.upd ht0) ht0

theorem State.polStoreAll_mem (s : State) (n : Nat) (l : List (Nat × Word)) :
    MemKept s (s.polStoreAll n l).1 := by
  induction l generalizing s n with
  | nil => exact .refl _
  | cons e l ih =>
    unfold State.polStoreAll
    split
    · exact State.polStore_mem _ _ _
    · exact (State.polStore_mem _ _ _).step (ih _ _)

theorem State.resumeTx_mem s a1 : MemKept s (State.resumeTx s a1) := by
  unfold State.resumeTx
  split
  · exact .refl _
  · extract_lets -merge -underBinder t0 t1
    refine .haveS (t := t0) (State.setCopy_mem _ _ _) fun ht0 => ?_
    clear_value t0
    exact .ite (.refl _) (ht0.step (State.setPort_mem _ _ _))

theorem State.pickTx_mem s a1 : MemKept s (State.pickTx s a1) := by
  unfold State.pickTx
  split
  · exact State.startTx_mem _ _ _
  · split
    · extract_lets -merge -underBinder t0
      exact (State.bump_mem _ _ _ _).step (State.setPort_mem _ _ _)
    · split
      · exact State.startTx_mem _ _ _
      · split
        · exact (State.setPort_mem _ _ _).step (State.startTx_mem _ _ _)
        · exact State.resumeTx_mem _ _

theorem State.schedSelect_mem s a1 : MemKept s (State.schedSelect s a1) := by
  unfold State.schedSelect
  extract_lets -merge -underBinder t0 t1 t2
  refine .haveS (t := t0) (State.preempt_mem _ _ _) fun ht0 => ?_
  clear_value t0
  refine .haveS (t := t2) (ht0.step (State.setPort_mem _ _ _)) fun ht2 => ?_
  clear_value t2
  exact .ite (.refl _) (.ite ht0 (.ite ht2 (ht2.step (State.pickTx_mem _ _))))

theorem State.auditSum_mem s a1 : MemKept s (State.auditSum s a1) := by
  unfold State.auditSum
  extract_lets -merge -underBinder t0 t1 t2
  clear_value t0
  refine .haveS (t := t1) (State.raise_mem _ _ _ _ _) fun ht1 => ?_
  clear_value t1
  exact .ite (.refl _) (.ite (ht1.step (State.setReq_mem _ _ _)) ht1)

theorem State.auditPassEnd_mem s : MemKept s (State.auditPassEnd s) := by
  unfold State.auditPassEnd
  extract_lets -merge -underBinder t0 t1 t2 t3
  refine .haveS (t := t0) (.foldl (fun _ _ => State.auditSum_mem _ _) _ (.refl _)) fun ht0 => ?_
  clear_value t0 t1
  refine .haveS (t := t3) (.upd ht0) fun ht3 => ?_
  clear_value t3
  exact .foldl (fun _ _ => State.complete_mem _ _ _ _ _ _ _) _ ht3

theorem State.auditVisit_mem s a1 : MemKept s (State.auditVisit s a1) := by
  unfold State.auditVisit
  extract_lets -merge -underBinder t0 t1
  refine .haveS (t := t0) (.foldl (fun _ _ => State.upset_mem _ _) _ (.refl _)) fun ht0 => ?_
  clear_value t0
  refine .haveS (t := t1) ((MemKept.foldl (fun _ _ => State.auditBuf_mem _ _) _ ht0).step (State.afterFree_mem _)) fun ht1 => ?_
  clear_value t1
  exact .ite ht0 (.ite ((ht1.step (State.auditPassEnd_mem _)).step (State.afterFree_mem _)) ht1)

theorem State.dmaError_mem s a1 a2 : MemKept s (State.dmaError s a1 a2) := by
  unfold State.dmaError
  exact .ite (State.ringErr_mem _ _ _) (.refl _)

theorem State.omdLaneUp_mem s a1 : MemKept s (State.omdLaneUp s a1) := by
  unfold State.omdLaneUp
  exact .ite (State.setLanes_mem _ _) (.refl _)

theorem State.rampCtrl_mem s a1 : MemKept s (State.rampCtrl s a1) := by
  unfold State.rampCtrl
  extract_lets -merge -underBinder t0 t1 t2
  clear_value t0 t1
  refine State.runCmd_mem _ _ _ _ _ (fun _ => ?_)
  extract_lets -merge -underBinder t3 t4 t5 t6 t7 t8 t9 t10 t11
  clear_value t3 t4 t5
  refine .haveS (t := t6) (State.setRamp_mem _ _ _) fun ht6 => ?_
  clear_value t6
  refine .haveS (t := t8) (ht6.step (State.setPll_mem _ _ _)) fun ht8 => ?_
  clear_value t8
  refine .haveS (t := t10) (.ite (.upd ht8) ht8) fun ht10 => ?_
  clear_value t10
  refine .haveS (t := t11) (ht10.step (State.rampEffects_mem _ _)) fun ht11 => ?_
  clear_value t11
  exact .ite (State.complete_mem _ _ _ _ _ _ _) (ht11.step (State.complete_mem _ _ _ _ _ _ _))

theorem State.timeSet_mem s a1 : MemKept s (State.timeSet s a1) := by
  unfold State.timeSet
  extract_lets -merge -underBinder t0
  clear_value t0
  refine State.runCmd_mem _ _ _ _ _ (fun _ => ?_)
  extract_lets -merge -underBinder t1
  exact .ite (State.complete_mem _ _ _ _ _ _ _) (.upd (.refl _))

theorem State.calStoreHalf_mem s a1 a2 a3 a4 : MemKept s (State.calStoreHalf s a1 a2 a3 a4) := by
  unfold State.calStoreHalf
  extract_lets -merge -underBinder t0 t1
  clear_value t0
  refine .haveS (t := t1) (State.calWrite_mem _ _ _) fun ht1 => ?_
  clear_value t1
  exact ht1.step (State.calWrite_mem _ _ _)

theorem State.calAutoStore_mem s a1 a2 a3 : MemKept s (State.calAutoStore s a1 a2 a3) := by
  unfold State.calAutoStore
  refine .ite ?_ ?_
  · exact .refl _
  · split
    · exact State.calStoreHalf_mem _ _ _ _ _
    · exact State.calStoreHalf_mem _ _ _ _ _
    · exact State.calStoreHalf_mem _ _ _ _ _
    · extract_lets -merge -underBinder t0
      refine .haveS (t := t0) (.foldl (fun _ _ => State.calWrite_mem _ _ _) _ (.refl _)) fun ht0 => ?_
      clear_value t0
      exact ht0.step (State.calWrite_mem _ _ _)
    · exact .refl _

theorem State.calStoreResult_mem s a1 a2 : MemKept s (State.calStoreResult s a1 a2) := by
  unfold State.calStoreResult
  extract_lets -merge -underBinder t0 t1 t2 t3 t4
  clear_value t0 t1 t2
  refine .haveS (t := t4) ((MemKept.upd (.refl _)).step (State.calOffer_mem _ _ _ _)) fun ht4 => ?_
  clear_value t4
  refine .ite ?_ ?_
  · exact (State.calFinish_mem _ _ _ _).step (State.calAutoStore_mem _ _ _ _)
  · refine .ite ?_ ?_
    · exact (ht4.step (State.calFinish_mem _ _ _ _)).step (State.calAutoStore_mem _ _ _ _)
    · split
      · extract_lets -merge -underBinder t5 t6 t7
        refine .haveS (t := t6) (.upd (.refl _)) fun ht6 => ?_
        clear_value t6
        refine .haveS (t := t7) ?_ fun ht7 => ?_
        · unfold t7
          split
          · exact ht6.step (State.calOffer_mem _ _ _ _)
          · exact ht6
        clear_value t7
        exact (ht7.step (State.calFinish_mem _ _ _ _)).step (State.calAutoStore_mem _ _ _ _)
      · exact (State.calOffer_mem _ _ _ _).step (State.calFinish_mem _ _ _ _)

theorem State.calJobEnd_mem s a1 a2 a3 a4 a5 a6 : MemKept s (State.calJobEnd s a1 a2 a3 a4 a5 a6) := by
  unfold State.calJobEnd
  extract_lets -merge -underBinder t0 t1 t2 t3 t4 t5 t6
  clear_value t0 t1 t2 t3
  refine .haveS (t := t5) (.upd (.refl _)) fun ht5 => ?_
  clear_value t5
  refine .haveS (t := t6) (.ite (ht5.step (State.calFinish_mem _ _ _ _)) (.ite (ht5.step (State.calFinish_mem _ _ _ _)) (ht5.step
      (State.calStoreResult_mem _ _ _)))) fun ht6 => ?_
  clear_value t6
  exact .ite (.refl _) (.ite (State.calFinish_mem _ _ _ _) (.ite (ht6.step (State.ticSample_mem _ _)) ht6))

theorem State.preemptVerify_mem s a1 a2 : MemKept s (State.preemptVerify s a1 a2) := by
  unfold State.preemptVerify
  extract_lets -merge -underBinder t0 t1
  clear_value t0 t1
  exact (State.setPort_mem _ _ _).step (State.raiseIf_mem _ _ _ _ _ _)

theorem State.condSet_mem s a1 : MemKept s (State.condSet s a1) := by
  unfold State.condSet
  extract_lets -merge -underBinder t0 t1
  clear_value t0
  exact .ite (.refl _) ((MemKept.upd (.refl _)).step (State.raise_mem _ _ _ _ _))

theorem State.vddRead_mem s a1 : MemKept s (State.vddRead s a1) := by
  unfold State.vddRead
  exact .ite (State.condSet_mem _ _) (.refl _)

theorem State.floorCheck_mem s : MemKept s (State.floorCheck s) := by
  unfold State.floorCheck
  extract_lets -merge -underBinder t0 t1 t2 t3
  clear_value t0 t1
  refine .haveS (t := t3) (.upd (.refl _)) fun ht3 => ?_
  clear_value t3
  exact .ite ((ht3.step (State.raise_mem _ _ _ _ _)).step (State.condSet_mem _ _)) ht3

theorem State.avsWriteDone_mem s a1 a2 : MemKept s (State.avsWriteDone s a1 a2) := by
  unfold State.avsWriteDone
  extract_lets -merge -underBinder t0 t1 t2 t3 t4
  refine .haveS (t := t0) (.ite (State.vddRead_mem _ _) (.refl _)) fun ht0 => ?_
  clear_value t0
  refine .haveS (t := t4) ((MemKept.upd ht0).step (State.raise_mem _ _ _ _ _)) fun ht4 => ?_
  clear_value t4
  refine .ite ?_ ?_
  · exact .refl _
  · refine .ite ?_ ?_
    · exact (MemKept.upd ht0).step (State.floorCheck_mem _)
    · refine .ite ?_ ?_
      · exact .upd ht0
      · refine .step ?_ (State.floorCheck_mem _)
        split
        · exact .ite ((ht4.step (State.flowRefuse_mem _ _ _)).step (State.admGo_mem _)) ht4
        · exact ht4

theorem State.perfSample_mem s a1 a2 a3 : MemKept s (State.perfSample s a1 a2 a3) := by
  unfold State.perfSample
  extract_lets -merge -underBinder t0 t1 t2
  clear_value t0
  refine .haveS (t := t2) (.upd (.refl _)) fun ht2 => ?_
  clear_value t2
  exact .ite (.refl _) (.ite (ht2.step (State.bump_mem _ _ _ _)) ht2)

theorem State.fastExitFail_mem s a1 : MemKept s (State.fastExitFail s a1) := by
  unfold State.fastExitFail
  exact .ite ((State.bump_mem _ _ _ _).step (State.retrain_mem _ _)) (.refl _)

theorem State.pairResync_mem s a1 : MemKept s (State.pairResync s a1) := by
  unfold State.pairResync
  refine State.runCmd_mem _ _ _ _ _ (fun _ => ?_)
  extract_lets -merge -underBinder t0 t1
  refine .haveS (t := t1) (.upd (.refl _)) fun ht1 => ?_
  clear_value t1
  exact .ite (State.complete_mem _ _ _ _ _ _ _) (.ite (State.complete_mem _ _ _ _ _ _ _) (.ite (ht1.step (State.resyncStart_mem _)) ht1))

theorem State.fdbVlanSet_mem s a1 : MemKept s (State.fdbVlanSet s a1) := by
  unfold State.fdbVlanSet
  extract_lets -merge -underBinder t0 t1 t2 t3
  clear_value t0 t1 t2 t3
  refine State.runCmd_mem _ _ _ _ _ (fun _ => ?_)
  extract_lets -merge -underBinder t4 t5
  refine .haveS (t := t4) (State.bumpVersion_mem _ _) fun ht4 => ?_
  clear_value t4
  exact .ite (State.complete_mem _ _ _ _ _ _ _) ((MemKept.upd ht4).step (State.complete_mem _ _ _ _ _ _ _))

theorem State.timePeriod_memSafe s : MemSafe s (State.timePeriod s) := by
  unfold State.timePeriod
  extract_lets -merge -underBinder t0 t1
  clear_value t0
  refine .haveS (t := t1) (.upd (.refl _)) fun ht1 => ?_
  clear_value t1
  exact .ite (ht1.step (State.atSecond_memSafe _)) ht1

theorem State.idleTick_memSafe s : MemSafe s (State.idleTick s) := by
  unfold State.idleTick
  extract_lets -merge -underBinder t0 t1 t2
  exact .ite (.ite (.upd (.refl _)) (.upd (.refl _))) (.ite (State.timePeriod_memSafe _) (.upd (.refl _)))

theorem State.engTaskPin_mem s a1 : MemKept s (State.engTaskPin s a1) := by
  unfold State.engTaskPin
  extract_lets -merge -underBinder t0 t1 t2 t3 t4
  clear_value t0 t1 t2 t3 t4
  refine State.runCmd_mem _ _ _ _ _ (fun _ => ?_)
  extract_lets -merge -underBinder t5 t6 t7
  clear_value t5
  refine .haveS (t := t6) (State.setTask_mem _ _ _) fun ht6 => ?_
  clear_value t6
  refine .haveS (t := t7) ?_ fun ht7 => ?_
  · unfold t7
    split
    · extract_lets -merge -underBinder t8
      exact .ite ((ht6.step (State.setTask_mem _ _ _)).step (State.nameStandby_mem _ _)) (ht6.step (State.taskMove_mem _ _ _ _))
    · split
      · exact ht6.step (State.taskMove_mem _ _ _ _)
      · extract_lets -merge -underBinder t9
        exact (((ht6.step (State.setTask_mem _ _ _)).step (State.nameStandby_mem _ _)).step (State.taskGained_mem _ _)).step
            (State.engReady_mem _)
  clear_value t7
  exact .ite ((State.setTask_mem _ _ _).step (State.complete_mem _ _ _ _ _ _ _)) (.ite (State.complete_mem _ _ _ _ _ _ _) (ht7.step
      (State.complete_mem _ _ _ _ _ _ _)))

theorem State.gnssSectTestDone_mem s a1 a2 : MemKept s (State.gnssSectTestDone s a1 a2) := by
  unfold State.gnssSectTestDone
  split
  · exact .refl _
  · extract_lets -merge -underBinder t0
    exact (MemKept.upd (.refl _)).step (State.complete_mem _ _ _ _ _ _ _)

theorem State.timeSample_mem s a1 a2 : MemKept s (State.timeSample s a1 a2) := by
  unfold State.timeSample
  extract_lets -merge -underBinder t0 t1 t2 t3
  clear_value t0
  refine .haveS (t := t2) (.upd (.refl _)) fun ht2 => ?_
  clear_value t2
  refine .haveS (t := t3) (ht2.step (State.returnCheck_mem _ _ _)) fun ht3 => ?_
  clear_value t3
  exact .ite (.ite (ht3.step (State.servoTake_mem _ _)) ht3) (.refl _)

theorem State.freeFreq_mem s : MemKept s (State.freeFreq s) := by
  unfold State.freeFreq
  extract_lets -merge -underBinder t0 t1
  clear_value t0
  refine .haveS (t := t1) (.upd (.refl _)) fun ht1 => ?_
  clear_value t1
  split
  · exact ht1.step (State.setRate_mem _ _)
  · extract_lets -merge -underBinder t2
    exact (MemKept.upd ht1).step (State.setRate_mem _ _)

theorem State.freqSample_mem s a1 : MemKept s (State.freqSample s a1) := by
  unfold State.freqSample
  exact .ite (State.freeFreq_mem _) (.refl _)

theorem State.refCandSample_mem s a1 a2 a3 a4 : MemKept s (State.refCandSample s a1 a2 a3 a4) := by
  unfold State.refCandSample
  extract_lets -merge -underBinder t0 t1 t2 t3
  clear_value t0
  refine .haveS (t := t2) (.upd (.refl _)) fun ht2 => ?_
  clear_value t2
  refine .haveS (t := t3) (ht2.step (State.candCheck_mem _ _ _)) fun ht3 => ?_
  clear_value t3
  exact .ite ht3 (.ite (ht3.step (State.timeSample_mem _ _ _)) (ht3.step (State.freqSample_mem _ _)))

theorem State.lnkSlip_mem s a1 a2 : MemKept s (State.lnkSlip s a1 a2) := by
  unfold State.lnkSlip
  extract_lets -merge -underBinder t0 t1
  clear_value t0
  refine .haveS (t := t1) ((((State.bump_mem _ _ _ _).step (State.raise_mem _ _ _ _ _)).step (State.phiForget_mem _ _)).step
      (State.setLnk_mem _ _ _)) fun ht1 => ?_
  clear_value t1
  exact .ite (ht1.step (State.lnkGo_mem _ _ _ _)) ht1

theorem State.lnkBetween_mem s a1 a2 : MemKept s (State.lnkBetween s a1 a2) := by
  unfold State.lnkBetween
  extract_lets -merge -underBinder t0
  clear_value t0
  split
  · exact .ite (State.timeSample_mem _ _ _) (.refl _)
  · exact .refl _

theorem State.lnkPhaseUpdate_mem s a1 a2 a3 : MemKept s (State.lnkPhaseUpdate s a1 a2 a3) := by
  unfold State.lnkPhaseUpdate
  extract_lets -merge -underBinder t0 t1
  refine .haveS (t := t0) (.ite (State.lnkPhiValid_mem _ _) (.refl _)) fun ht0 => ?_
  clear_value t0 t1
  refine .ite ?_ ?_
  · exact State.lnkPhiLost_mem _ _
  · split
    · exact ht0
    · extract_lets -merge -underBinder t2
      clear_value t2
      exact .ite ((ht0.step (State.setLnk_mem _ _ _)).step (State.lnkEval_mem _ _)) (.ite (ht0.step (State.lnkSlip_mem _ _ _)) (((ht0.step
          (State.setLnk_mem _ _ _)).step (State.lnkEval_mem _ _)).step (State.lnkBetween_mem _ _ _)))

theorem State.polSave_mem (s : State) (d : CmdDesc) :
    MemKept s (s.polSave d) := by
  unfold State.polSave
  extract_lets c
  refine State.runCmd_mem _ _ _ _ _ (fun u => ?_)
  exact (State.polStoreAll_mem _ _ _).step (State.complete_mem _ _ _ _ _ _ _)

theorem State.candQualify_mem s a1 : MemKept s (State.candQualify s a1) := by
  unfold State.candQualify
  exact (State.setCandSt_mem _ _ _ _).step (State.qualified_mem _ _)

theorem State.mirrorCreate_mem s a1 : MemKept s (State.mirrorCreate s a1) := by
  unfold State.mirrorCreate
  extract_lets -merge -underBinder t0
  refine State.runCmd_mem _ _ _ _ _ (fun _ => ?_)
  extract_lets -merge -underBinder t1 t2
  clear_value t1
  refine .haveS (t := t2) ((State.bumpVersion_mem _ _).step (State.addObj_mem _ _ _ _)) fun ht2 => ?_
  clear_value t2
  exact .ite (State.complete_mem _ _ _ _ _ _ _) (.ite (State.complete_mem _ _ _ _ _ _ _) (ht2.step (State.complete_mem _ _ _ _ _ _ _)))

theorem State.jtagUpdateIr_mem s a1 : MemKept s (State.jtagUpdateIr s a1) := by
  unfold State.jtagUpdateIr
  extract_lets -merge -underBinder t0 t1
  refine .haveS (t := t1) (.upd (.refl _)) fun ht1 => ?_
  clear_value t1
  exact .ite ht1 (.ite (.foldl (fun _ _ => State.laneUnlock_mem _ _) _ ht1) (.foldl (fun _ _ => State.lockLossRetrain_mem _ _) _ ht1))

theorem State.pairDecide_mem s a1 : MemKept s (State.pairDecide s a1) := by
  unfold State.pairDecide
  extract_lets -merge -underBinder t0 t1 t2
  clear_value t0 t1
  refine .haveS (t := t2) (.upd (.refl _)) fun ht2 => ?_
  clear_value t2
  exact .ite (State.pairStandby_mem _) (.ite (.refl _) (.ite (ht2.step (State.pairPrimary_mem _ _)) (ht2.step (State.pairStandby_mem _))))

theorem State.hbTake_mem s a1 a2 : MemKept s (State.hbTake s a1 a2) := by
  unfold State.hbTake
  extract_lets -merge -underBinder t0 t1 t2 t3 t4 t5 t6
  clear_value t0 t1
  refine .haveS (t := t3) (.upd (.refl _)) fun ht3 => ?_
  clear_value t3
  refine .haveS (t := t4) (ht3.step (State.raiseIf_mem _ _ _ _ _ _)) fun ht4 => ?_
  clear_value t4
  refine .haveS (t := t5) (.ite (ht4.step (State.pairDecide_mem _ _)) ht4) fun ht5 => ?_
  clear_value t5
  refine .haveS (t := t6) (ht5.step (State.pairPaths_mem _)) fun ht6 => ?_
  clear_value t6
  exact .ite (ht6.step (State.resyncSend_mem _)) ht6

theorem State.rxHostDeliver_mem s a1 : MemKept s (State.rxHostDeliver s a1) := by
  unfold State.rxHostDeliver
  split
  · split
    · exact .refl _
    · extract_lets -merge -underBinder t0 t1 t2 t3 t4 t5
      clear_value t0 t1 t2 t3 t4
      refine .haveS (t := t5) ((State.setRing_mem _ _ _).step (State.rxWrite_mem _ _ _ _ _)) fun ht5 => ?_
      clear_value t5
      exact .ite (.refl _) (.ite (((State.bump_mem _ _ _ _).step (State.removeCopy_mem _ _)).step (State.afterFree_mem _)) (.ite (.refl _)
          (ht5.step (State.setCopy_mem _ _ _))))
  · exact .refl _

theorem State.residenceExpire_mem s a1 : MemKept s (State.residenceExpire s a1) := by
  unfold State.residenceExpire
  split
  · exact .refl _
  · extract_lets -merge -underBinder t0 t1 t2 t3 t4 t5
    clear_value t0 t1
    refine .haveS (t := t2) (((State.tsLost_mem _ _ _).step (State.bump_mem _ _ _ _)).step (State.removeCopy_mem _ _)) fun ht2 => ?_
    clear_value t2 t3 t4 t5
    exact .ite (.refl _) (((ht2.step (State.setPort_mem _ _ _)).step (State.raiseIf_mem _ _ _ _ _ _)).step (State.afterFree_mem _))

theorem State.portHoldExpire_mem s a1 : MemKept s (State.portHoldExpire s a1) := by
  unfold State.portHoldExpire
  exact .ite (State.portFlush_mem _ _) (.refl _)

theorem State.qualMeasure_mem s a1 a2 a3 : MemKept s (State.qualMeasure s a1 a2 a3) := by
  unfold State.qualMeasure
  extract_lets -merge -underBinder t0
  clear_value t0
  exact .ite (State.lanePublish_mem _ _ _ _) (.refl _)

theorem State.tchanPlaceRetry_mem s : MemKept s (State.tchanPlaceRetry s) := by
  unfold State.tchanPlaceRetry
  refine .foldl (fun _ _ => ?_) _ (.refl _)
  extract_lets -merge -underBinder t0
  clear_value t0
  split
  · extract_lets -merge -underBinder t1
    refine .haveS (t := t1) (State.setTchan_mem _ _ _) fun ht1 => ?_
    clear_value t1
    exact .ite (ht1.step (State.setChanSt_mem _ _ _)) ht1
  · exact .refl _

theorem State.busMasterClear_mem s : MemKept s (State.busMasterClear s) := by
  unfold State.busMasterClear
  extract_lets -merge -underBinder t0 t1
  refine .haveS (t := t1) (.upd (.refl _)) fun ht1 => ?_
  clear_value t1
  exact .foldl (fun _ _ => State.ringErr_mem _ _ _) _ ht1

theorem State.makeCopy_mem s a1 a2 a3 a4 : MemKept s (State.makeCopy s a1 a2 a3 a4) := by
  unfold State.makeCopy
  exact .ite (State.bump_mem _ _ _ _) (State.addCopy_mem _ _)

theorem State.i2cWrite_memSafe s a1 a2 : MemSafe s (State.i2cWrite s a1 a2) := by
  unfold State.i2cWrite
  extract_lets -merge -underBinder t0 t1 t2
  clear_value t0 t1 t2
  refine .ite ?_ ?_
  · exact .refl _
  · split
    · exact .ite (State.keyWrite_mem _ _ _).safe (.ite (State.sysRst_memSafe _ _ _ _) (State.wordWrite_memSafe _ _ _ _ _))
    · exact State.wordWrite_memSafe _ _ _ _ _

theorem State.i2cWrites_memSafe (s : State) (a : Nat) (l : List I2cGroup) :
    MemSafe s (s.i2cWrites a l) := by
  induction l generalizing s a with
  | nil => exact .refl _
  | cons g l ih =>
    unfold State.i2cWrites
    exact .ite (.refl _) ((State.i2cWrite_memSafe _ _ _).step (ih _ _))

theorem State.i2cReads_mem (s : State) (a n : Nat) : MemKept s (s.i2cReads a n).1 := by
  induction n using Nat.strong_induction_on generalizing s a with
  | _ n ih =>
    match n, ih with
    | 0, _ => exact .refl _
    | 1, _ => exact State.busRead_mem _ _ _ _
    | n + 2, ih =>
      unfold State.i2cReads
      split
      · exact (State.busRead_mem _ _ _ _).step (ih (n + 1) (by omega) _ _)
      · exact (State.busRead_mem _ _ _ _).step (ih n (by omega) _ _)

theorem State.i2cRead_mem (s : State) (a n : Nat) : MemKept s (s.i2cRead a n) := by
  unfold State.i2cRead
  extract_lets b m r
  have hr : MemKept s r.1 := State.i2cReads_mem _ _ _
  clear_value r
  exact .ite (.refl _) (.upd hr)

theorem State.keyUnlockExpire_mem s a1 : MemKept s (State.keyUnlockExpire s a1) := by
  unfold State.keyUnlockExpire
  extract_lets -merge -underBinder t0
  exact .upd (.refl _)

theorem State.idleApply_mem s a1 : MemKept s (State.idleApply s a1) := by
  unfold State.idleApply
  extract_lets -merge -underBinder t0 t1
  refine .haveS (t := t0) (State.laneIdl_mem _ _) fun ht0 => ?_
  clear_value t0 t1
  refine .ite ?_ ?_
  · exact .refl _
  · refine .ite ?_ ?_
    · exact ht0
    · refine .ite ?_ ?_
      · exact .ite (ht0.step (State.setLane_mem _ _ _)) (ht0.step (State.laneSetCode_mem _ _ _))
      · split
        · exact ht0.step (State.laneStep_mem _ _ _)
        · exact ht0

theorem State.scrubWord_mem s a1 : MemKept s (State.scrubWord s a1) := by
  unfold State.scrubWord
  split
  · exact .refl _
  · extract_lets -merge -underBinder t0 t1
    refine .haveS (t := t1) (.ite (.refl _) ((MemKept.upd (.refl _)).step (State.raise_mem _ _ _ _ _))) fun ht1 => ?_
    clear_value t1
    exact .ite (.refl _) (ht1.step (State.dropPending_mem _ _))

theorem State.cfgScrubPass_mem s a1 : MemKept s (State.cfgScrubPass s a1) := by
  unfold State.cfgScrubPass
  exact .foldl (fun _ _ => State.scrubWord_mem _ _) _ (.refl _)

theorem State.unitStop_mem s a1 : MemKept s (State.unitStop s a1) := by
  unfold State.unitStop
  extract_lets -merge -underBinder t0 t1 t2
  refine .haveS (t := t1) (.upd (.refl _)) fun ht1 => ?_
  clear_value t1
  dsimp only [t2]
  split
  · exact ht1.step (State.laneStop_mem _ _)
  · exact .foldl (fun _ _ => State.laneStop_mem _ _) _ ht1
  · exact ht1.step (State.portLoss_mem _ _)
  · exact ht1.step (State.chansChanged_mem _ _)
  · exact ht1.step (State.gnssRebind_mem _ _ _)
  · exact ht1.step (State.ticAbandon_mem _ _)
  · exact (MemKept.ite ((ht1.step (State.goEng_mem _ _ _)).step (State.engLeaves_mem _ _ _)) ht1).step (State.engReady_mem _)
  · exact (ht1.step (State.lnkEvalAll_mem _)).step (State.setReady_mem _ _ _)
  · exact (ht1.step (State.ticDown_mem _)).step (State.setReady_mem _ _ _)
  · exact ht1.step (State.gnssDown_mem _ _)
  · exact (ht1.step (State.pairCommit_mem _)).step (State.setReady_mem _ _ _)
  · exact (MemKept.foldl (fun _ _ => .ite ((State.goEng_mem _ _ _).step (State.engLeaves_mem _ _ _)) (.refl _)) _ ht1).step
        (State.setReady_mem _ _ _)
  · exact ht1
  · refine .ite ?_ ?_
    · exact ht1
    · split
      · exact ht1.step (State.setReady_mem _ _ _)
      · exact ht1

theorem State.appliedCopyError_mem s a1 a2 : MemKept s (State.appliedCopyError s a1 a2) := by
  unfold State.appliedCopyError
  split
  · exact .refl _
  · exact .ite (.refl _) (.ite (((State.copyBits_mem _ _ _).step (State.regActs_mem _ _ _)).step (State.raise_mem _ _ _ _ _))
        (((State.unitStop_mem _ _).step (State.regActs_mem _ _ _)).step (State.raise_mem _ _ _ _ _)))

theorem State.pcieLinkUp_mem s a1 a2 a3 a4 a5 a6 : MemKept s (State.pcieLinkUp s a1 a2 a3 a4 a5 a6) := by
  unfold State.pcieLinkUp
  extract_lets -merge -underBinder t0 t1
  refine .haveS (t := t1) (.upd (.refl _)) fun ht1 => ?_
  clear_value t1
  exact .ite (.refl _) (ht1.step (State.setReady_mem _ _ _))

theorem State.txPass_mem s : MemKept s (State.txPass s) := by
  unfold State.txPass
  extract_lets -merge -underBinder t0 t1 t2 t3 t4 t5 t6
  clear_value t0 t1
  refine .haveS (t := t3) (.ite (.refl _) (State.setRing_mem _ _ _)) fun ht3 => ?_
  clear_value t3
  refine .haveS (t := t5) (ht3.step (State.setRing_mem _ _ _)) fun ht5 => ?_
  clear_value t5
  exact .upd ht5

theorem State.txTurnGo_mem (s : State) (n l k : Nat) :
    MemKept s (s.txTurnGo n l k).1 := by
  induction k generalizing s with
  | zero => exact .refl _
  | succ k ih =>
    unfold State.txTurnGo
    extract_lets t
    split
    · exact State.setRing_mem _ _ _
    · split
      · exact .refl _
      · exact (State.txPass_mem _).step (ih _)

theorem State.takeTurn_mem (s : State) (n : Nat) (f : Fetched) :
    MemKept s (s.takeTurn n f).1 := by
  unfold State.takeTurn
  split
  · exact State.txTurnGo_mem _ _ _ _
  · exact .refl _

theorem State.rxTaken_mem s a1 a2 : MemKept s (State.rxTaken s a1 a2) := by
  unfold State.rxTaken
  extract_lets -merge -underBinder t0
  exact .ite ((State.setRing_mem _ _ _).step (State.rxCpl_mem _ _ _ _ _ _ _ _ _ _ _ _)) (.refl _)

theorem State.descTake_mem (s : State) (n : Nat) (raw ext : List Byte) :
    MemKept s (s.descTake n raw ext) := by
  unfold State.descTake
  extract_lets r m k f u src s1 src2 s2
  refine .ite (.refl _) (.ite (State.setRing_mem _ _ _) ?_)
  have hu : MemKept s u.1 := (State.setRing_mem _ _ _).step
    (State.takeTurn_mem _ n f)
  clear_value u
  refine .ite hu ?_
  have h2 : MemKept s s2 := (hu.step (State.setRing_mem _ _ _)).step
    (State.setRing_mem _ _ _)
  clear_value s2
  exact .ite (h2.step (State.txTaken_mem _ _ _))
    (.ite (h2.step (State.rxTaken_mem _ _ _)) (h2.step (State.unlistedGo_mem _ _ _)))

theorem State.tchanMake_mem s a1 : MemKept s (State.tchanMake s a1) := by
  unfold State.tchanMake
  extract_lets -merge -underBinder t0 t1 t2
  clear_value t0 t1 t2
  split
  · exact State.complete_mem _ _ _ _ _ _ _
  · refine .ite ?_ ?_
    · exact State.complete_mem _ _ _ _ _ _ _
    · split
      · exact State.complete_mem _ _ _ _ _ _ _
      · extract_lets -merge -underBinder t3 t4
        refine .haveS (t := t3) ((State.addObj_mem _ _ _ _).step (State.setTchan_mem _ _ _)) fun ht3 => ?_
        clear_value t3
        refine .haveS (t := t4) (ht3.step (State.chansChanged_mem _ _)) fun ht4 => ?_
        clear_value t4
        exact ht4.step (State.complete_mem _ _ _ _ _ _ _)

theorem State.tchanCreate_mem s a1 : MemKept s (State.tchanCreate s a1) := by
  unfold State.tchanCreate
  exact State.runCmd_mem _ _ _ _ _ (fun _ => .ite (State.complete_mem _ _ _ _ _ _ _) (State.tchanMake_mem _ _))

theorem State.searchCreate_mem s a1 : MemKept s (State.searchCreate s a1) := by
  unfold State.searchCreate
  refine State.runCmd_mem _ _ _ _ _ (fun _ => ?_)
  split
  · exact State.complete_mem _ _ _ _ _ _ _
  · extract_lets -merge -underBinder t0
    refine .haveS (t := t0) (State.searchMake_mem _ _ _) fun ht0 => ?_
    clear_value t0
    exact ht0.step (State.complete_mem _ _ _ _ _ _ _)

theorem State.elecIdleEntry_mem s a1 a2 : MemKept s (State.elecIdleEntry s a1 a2) := by
  unfold State.elecIdleEntry
  extract_lets -merge -underBinder t0 t1 t2
  refine .haveS (t := t0) (State.laneUnlock_mem _ _) fun ht0 => ?_
  clear_value t0 t1
  refine .haveS (t := t2) (ht0.step (State.setLane_mem _ _ _)) fun ht2 => ?_
  clear_value t2
  exact .ite (.refl _) ((ht2.step (State.calLose_mem _ _)).step (State.idleApply_mem _ _))

theorem State.elecIdleExit_mem s a1 a2 a3 : MemKept s (State.elecIdleExit s a1 a2 a3) := by
  unfold State.elecIdleExit
  extract_lets -merge -underBinder t0 t1 t2
  clear_value t0
  refine .haveS (t := t1) (State.setLane_mem _ _ _) fun ht1 => ?_
  clear_value t1
  exact .ite (.refl _) (.ite ht1 (.ite (ht1.step (State.setLane_mem _ _ _)) (ht1.step (State.retrain_mem _ _))))

theorem State.blockLock_mem s a1 a2 a3 : MemKept s (State.blockLock s a1 a2 a3) := by
  unfold State.blockLock
  extract_lets -merge -underBinder t0 t1 t2 t3 t4 t5 t6 t7 t8 t9
  clear_value t0 t1
  refine .haveS (t := t2) (.ite (State.bump_mem _ _ _ _) (.refl _)) fun ht2 => ?_
  clear_value t2
  refine .haveS (t := t3) (ht2.step (State.setLane_mem _ _ _)) fun ht3 => ?_
  clear_value t3
  refine .haveS (t := t4) (ht3.step (State.lanePublish_mem _ _ _ _)) fun ht4 => ?_
  clear_value t4
  refine .haveS (t := t6) (.ite (ht4.step (State.setGrp_mem _ _ _)) ht4) fun ht6 => ?_
  clear_value t6 t7
  refine .haveS (t := t8) (.ite ht6 (ht6.step (State.calLose_mem _ _))) fun ht8 => ?_
  clear_value t8
  refine .haveS (t := t9) (ht8.step (State.portChansListen_mem _ _)) fun ht9 => ?_
  clear_value t9
  exact .ite (.refl _) (.ite ht8 (.ite ht9 ((ht9.step (State.portUp_mem _ _)).step (State.grpCheck_mem _ _))))

theorem State.laneGrpDrainEnd_mem s a1 : MemKept s (State.laneGrpDrainEnd s a1) := by
  unfold State.laneGrpDrainEnd
  exact .ite (State.grpRemoved_mem _ _ _) (.refl _)

theorem State.laneNoSignalTimeout_mem s a1 : MemKept s (State.laneNoSignalTimeout s a1) := by
  unfold State.laneNoSignalTimeout
  extract_lets -merge -underBinder t0
  clear_value t0
  exact .ite (.refl _) ((State.setLane_mem _ _ _).step (State.grpCheck_mem _ _))

theorem State.canaryWindow_mem s a1 a2 : MemKept s (State.canaryWindow s a1 a2) := by
  unfold State.canaryWindow
  extract_lets -merge -underBinder t0 t1 t2 t3 t4 t5 t6 t7 t8 t9 t10 t11
  clear_value t0 t1 t2 t3 t4 t5 t6 t7
  refine .haveS (t := t9) (.upd (.refl _)) fun ht9 => ?_
  clear_value t9
  refine .haveS (t := t10) (.foldl (fun _ _ => State.raise_mem _ _ _ _ _) _ ht9) fun ht10 => ?_
  clear_value t10
  refine .haveS (t := t11) (.ite (ht10.step (State.vddMax_mem _)) (((ht10.step (State.setReady_mem _ _ _)).step (State.setReady_mem _ _
      _)).step (State.setReady_mem _ _ _))) fun ht11 => ?_
  clear_value t11
  exact (ht11.step (State.vddRaise_mem _)).step (State.floorCheck_mem _)

end Sys2Proof.Machine
end

section
/-! SUPPORT. What each operation of the machine does to the byte memories, part 10 of 10: one lemma for one operation, in the
order of the lemmas that say what it may change. An operation that writes no byte keeps them (`_mem`), one that may write keeps
their form (`_memSafe`). -/

set_option Elab.async false

namespace Sys2Proof.Machine

theorem State.vddLowerTick_mem s : MemKept s (State.vddLowerTick s) := by
  unfold State.vddLowerTick
  exact .ite (State.vddWrite_mem _ _) (.refl _)

theorem State.avsStatus_mem s a1 a2 : MemKept s (State.avsStatus s a1 a2) := by
  unfold State.avsStatus
  extract_lets -merge -underBinder t0
  exact (MemKept.upd (.refl _)).step (State.vddRead_mem _ _)

theorem State.lookupDone_mem (s : State) (f : Nat) (fr : Frame) (d : Decision) :
    MemKept s (s.lookupDone f fr d) := by
  unfold State.lookupDone
  extract_lets -underBinder s1 s2 s3
  have h1 : MemKept s s1 := by
    unfold s1
    refine .step ?_ (State.tagStage_mem _ _ _)
    split
    · exact State.bump_mem _ _ _ _
    · exact .refl _
  have h2 : MemKept s s2 := by
    unfold s2
    split
    · exact .upd h1
    · exact h1
  exact .foldl (fun _ _ => State.makeCopy_mem _ _ _ _ _) _
    (h2.step (State.setFrame_mem _ _ _))

theorem State.forwardLookup_mem (s : State) (f : Nat) : MemKept s (s.forwardLookup f) := by
  unfold State.forwardLookup
  split
  · exact .refl _
  · refine .ite (.refl _) (.ite ?_ ?_)
    · exact (State.setFrame_mem _ _ _).step (State.mirrorFrame_mem _ _ _ _)
    · exact (State.lookupDone_mem _ _ _ _).step (State.mirrorFrame_mem _ _ _ _)

theorem State.fcsFail_mem s a1 a2 : MemKept s (State.fcsFail s a1 a2) := by
  unfold State.fcsFail
  extract_lets -merge -underBinder t0 t1 t2
  refine .haveS (t := t1) (State.setPort_mem _ _ _) fun ht1 => ?_
  clear_value t1
  refine .haveS (t := t2) ?_ fun ht2 => ?_
  · unfold t2
    refine .ite ?_ ?_
    · exact ht1
    · refine .foldl (fun _ _ => ?_) _ ht1
      extract_lets -merge -underBinder t3
      exact State.setRing_mem _ _ _
  clear_value t2
  exact (ht2.step (State.dropFrame_mem _ _)).step (State.afterFree_mem _)

theorem State.cbRecover_mem (s : State) (fr : Frame) : MemKept s (s.cbRecover fr).1 := by
  unfold State.cbRecover
  split
  · split
    · exact .refl _
    · exact State.cbKeep_mem _ _ _ _
  · exact .refl _

theorem State.policeHost_mem (s : State) (fr : Frame) (c : Nat) : MemKept s (s.policeHost fr c) := by
  unfold State.policeHost
  split
  · exact .refl _
  · extract_lets r
    have hr : MemKept s r.1 := by
      unfold r; split
      · exact State.police_mem _ _ _ _
      · exact .refl _
    refine .ite hr ?_
    split
    · exact hr.step (State.setCopy_mem _ _ _)
    · exact hr

theorem State.frameEligible_mem (s : State) (f : Nat) (ok : Bool) :
    MemKept s (s.frameEligible f ok) := by
  unfold State.frameEligible
  split
  · exact .refl _
  · refine .ite (.refl _) (.ite (State.fcsFail_mem _ _ _) (.ite (.refl _) ?_))
    extract_lets -underBinder fr1 r cs s3 s4 s5 s6
    have h2 : MemKept s r.1 := ((State.setFrame_mem _ _ _).step
      (State.tagStage_mem _ _ _)).step (State.cbRecover_mem _ _)
    clear_value r
    have h3 : MemKept s s3 := by
      unfold s3
      refine .ite (h2.step (State.cbGenerate_mem _ _ _)) (.foldl (fun u c => ?_) _ h2)
      split
      · exact .ite (.refl _) (State.removeCopy_mem _ _)
      · exact .refl _
    clear_value s3
    have h4 : MemKept s s4 := MemKept.ite (.foldl (fun _ _ => State.policeHost_mem _ _ _) _ h3) h3
    have h5 : MemKept s s5 := MemKept.foldl (fun _ _ => State.enqueue_mem _ _ _ _) _ h4
    have h6 : MemKept s s6 := MemKept.ite (h5.step (State.queueLearn_mem _ _)) h5
    clear_value s6
    exact (h6.step (State.frameGone_mem _ _)).step (State.afterFree_mem _)

theorem State.cbRecoveryReset_mem s a1 : MemKept s (State.cbRecoveryReset s a1) := by
  unfold State.cbRecoveryReset
  split
  · exact .refl _
  · exact .ite (.refl _) (State.setCb_mem _ _ _)

theorem State.egressSfd_mem (s : State) (p : Nat) (m : Int) :
    MemKept s (s.egressSfd p m) := by
  unfold State.egressSfd
  split
  · exact .refl _
  · split
    · exact .refl _
    · refine .ite (.refl _) ?_
      extract_lets -underBinder l s1 ts kind event oneStep s2 tc src s3 y s4 s5
      have h1 : MemKept s s1 := State.latchAt_mem _ _ _ _
      have h2 : MemKept s s2 := MemKept.ite (h1.step (State.bump_mem _ _ _ _)) h1
      have h3 : MemKept s s3 := MemKept.ite (h2.step (State.setPortPtp_mem _ _ _)) h2
      have h4 : MemKept s s4 := h3.step (State.setPort_mem _ _ _)
      have h5 : MemKept s s5 := by
        unfold s5
        split
        · exact h4.step (State.tsRecord_mem _ _ _ _ _)
        · exact h4
      clear_value s5
      exact (MemKept.ite h5 (h5.step (State.tagCopy_mem _ _ _))).step
        (State.setCopy_mem _ _ _)

theorem State.pfcRefresh_mem s a1 : MemKept s (State.pfcRefresh s a1) := by
  unfold State.pfcRefresh
  extract_lets -merge -underBinder t0
  clear_value t0
  exact .ite (.refl _) (State.setPort_mem _ _ _)

theorem State.sqDeadlineExpire_mem s a1 : MemKept s (State.sqDeadlineExpire s a1) := by
  unfold State.sqDeadlineExpire
  split
  · exact .refl _
  · extract_lets -merge -underBinder t0 t1
    refine .haveS (t := t0) (((State.tsLost_mem _ _ _).step (State.bump_mem _ _ _ _)).step (State.removeCopy_mem _ _)) fun ht0 => ?_
    clear_value t0 t1
    exact .ite (.refl _) (((ht0.step (State.setPort_mem _ _ _)).step (State.raiseIf_mem _ _ _ _ _ _)).step (State.afterFree_mem _))

theorem State.gclActivate_mem s a1 : MemKept s (State.gclActivate s a1) := by
  unfold State.gclActivate
  extract_lets -merge -underBinder t0
  clear_value t0
  split
  · exact .refl _
  · extract_lets -merge -underBinder t1
    clear_value t1
    exact ((State.setPort_mem _ _ _).step (State.preempt_mem _ _ _)).step (State.raise_mem _ _ _ _ _)

theorem State.gclGet_mem s a1 : MemKept s (State.gclGet s a1) := by
  unfold State.gclGet
  extract_lets -merge -underBinder t0 t1 t2
  clear_value t0 t1 t2
  refine State.runCmd_mem _ _ _ _ _ (fun _ => ?_)
  split
  · exact State.complete_mem _ _ _ _ _ _ _
  · exact State.complete_mem _ _ _ _ _ _ _

theorem State.storeRebuildDone_mem s a1 : MemKept s (State.storeRebuildDone s a1) := by
  unfold State.storeRebuildDone
  extract_lets -merge -underBinder t0
  clear_value t0
  exact .ite (.refl _) (((State.setPool_mem _ _ _).step (State.queuedFrees_mem _ _)).step (State.afterFree_mem _))

theorem State.bpmCarve_mem s a1 : MemKept s (State.bpmCarve s a1) := by
  unfold State.bpmCarve
  extract_lets -merge -underBinder t0 t1 t2
  clear_value t0 t2
  refine State.runCmd_mem _ _ _ _ _ (fun _ => ?_)
  extract_lets -merge -underBinder t3 t4 t5 t6 t7
  refine .haveS (t := t4) (.upd (.refl _)) fun ht4 => ?_
  clear_value t4 t5
  refine .haveS (t := t7) (.upd ht4) fun ht7 => ?_
  clear_value t7
  exact .ite (State.complete_mem _ _ _ _ _ _ _) (.ite (State.complete_mem _ _ _ _ _ _ _) (.ite (ht7.step (State.carveEffect_mem _))
      (ht7.step (State.xoffUpdate_mem _))))

theorem State.fdbAgeVisit_mem s a1 a2 : MemKept s (State.fdbAgeVisit s a1 a2) := by
  unfold State.fdbAgeVisit
  split
  · exact .refl _
  · extract_lets -merge -underBinder t0
    exact .ite (.refl _) (.ite (.upd (.refl _)) (.ite (.refl _) (.ite (State.bump_mem _ _ _ _) (((State.fdbRemove_mem _ _ _).step
        (State.bump_mem _ _ _ _)).step (State.fdbMirror_mem _ _ _ _ _)))))

theorem State.fdbAdd_mem (s : State) (d : CmdDesc) : MemKept s (s.fdbAdd d) := by
  unfold State.fdbAdd
  extract_lets -underBinder mac vid dest grp p c
  refine State.runCmd_mem _ _ _ _ _ (fun u => ?_)
  extract_lets -underBinder e k done
  have hd : ∀ t, MemKept t (done t) := fun t => State.complete_mem _ _ _ _ _ _ _
  refine .ite (State.complete_mem _ _ _ _ _ _ _) ?_
  split
  · exact (State.fdbPut_mem _ _ _ _).step (hd _)
  · split
    · next t ht => exact (State.fdbInsert_mem _ _ _ _ ht).step (hd _)
    · exact (State.fdbFull_mem _).step (State.complete_mem _ _ _ _ _ _ _)

theorem State.fdbDel_mem s a1 : MemKept s (State.fdbDel s a1) := by
  unfold State.fdbDel
  extract_lets -merge -underBinder t0 t1 t2
  clear_value t0 t1
  refine State.runCmd_mem _ _ _ _ _ (fun _ => ?_)
  extract_lets -merge -underBinder t3
  refine .haveS (t := t3) (State.fdbRemove_mem _ _ _) fun ht3 => ?_
  clear_value t3
  exact .ite (State.complete_mem _ _ _ _ _ _ _) (ht3.step (State.complete_mem _ _ _ _ _ _ _))

theorem State.fdbMcgSet_mem s a1 : MemKept s (State.fdbMcgSet s a1) := by
  unfold State.fdbMcgSet
  extract_lets -merge -underBinder t0 t1 t2
  clear_value t0 t1 t2
  refine State.runCmd_mem _ _ _ _ _ (fun _ => ?_)
  extract_lets -merge -underBinder t3 t4
  refine .haveS (t := t3) (State.bumpVersion_mem _ _) fun ht3 => ?_
  clear_value t3
  exact .ite (State.complete_mem _ _ _ _ _ _ _) ((MemKept.upd ht3).step (State.complete_mem _ _ _ _ _ _ _))

theorem State.fdbClsDel_mem s a1 : MemKept s (State.fdbClsDel s a1) := by
  unfold State.fdbClsDel
  extract_lets -merge -underBinder t0 t1
  clear_value t0
  refine State.runCmd_mem _ _ _ _ _ (fun _ => ?_)
  extract_lets -merge -underBinder t2 t3
  refine .haveS (t := t2) (State.bumpVersion_mem _ _) fun ht2 => ?_
  clear_value t2
  exact .ite (State.complete_mem _ _ _ _ _ _ _) (.ite (State.complete_mem _ _ _ _ _ _ _) ((MemKept.upd ht2).step (State.complete_mem _ _ _ _
      _ _ _)))

theorem State.fdbCbSet_mem s a1 : MemKept s (State.fdbCbSet s a1) := by
  unfold State.fdbCbSet
  extract_lets -merge -underBinder t0 t1 t2 t3
  clear_value t0 t1 t2 t3
  refine State.runCmd_mem _ _ _ _ _ (fun _ => ?_)
  extract_lets -merge -underBinder t4 t5 t6 t7
  clear_value t4
  refine .haveS (t := t5) (State.bumpVersion_mem _ _) fun ht5 => ?_
  clear_value t5
  refine .haveS (t := t7) (.ite (.upd ht5) (ht5.step (State.setCb_mem _ _ _))) fun ht7 => ?_
  clear_value t7
  exact .ite (State.complete_mem _ _ _ _ _ _ _) (ht7.step (State.complete_mem _ _ _ _ _ _ _))

theorem State.coreFault_mem s : MemKept s (State.coreFault s) := by
  unfold State.coreFault
  extract_lets -merge -underBinder t0 t1 t2
  clear_value t0
  refine .haveS (t := t1) ((State.swapDrop_mem _ _).step (State.swapCores_mem _)) fun ht1 => ?_
  clear_value t1
  exact .ite ((MemKept.upd ht1).step (State.raise_mem _ _ _ _ _)) (State.raise_mem _ _ _ _ _)

theorem State.standbyTrackLoss_mem s a1 : MemKept s (State.standbyTrackLoss s a1) := by
  unfold State.standbyTrackLoss
  extract_lets -merge -underBinder t0 t1 t2
  refine .haveS (t := t0) (State.compared_mem _ _) fun ht0 => ?_
  clear_value t0
  refine .haveS (t := t2) (.upd ht0) fun ht2 => ?_
  clear_value t2
  exact .ite (.refl _) ((ht2.step (State.raiseIf_mem _ _ _ _ _ _)).step (State.swapDrop_mem _ _))

theorem State.servoSample_mem s a1 : MemKept s (State.servoSample s a1) := by
  unfold State.servoSample
  split
  · exact State.timeSample_mem _ _ _
  · exact .refl _

theorem State.timeStep_mem s a1 : MemKept s (State.timeStep s a1) := by
  unfold State.timeStep
  extract_lets -merge -underBinder t0
  clear_value t0
  refine State.runCmd_mem _ _ _ _ _ (fun _ => ?_)
  extract_lets -merge -underBinder t1
  exact .ite (State.complete_mem _ _ _ _ _ _ _) (.ite (.upd (.refl _)) (State.stepNow_mem _ _))

theorem State.chanClosed_mem s a1 : MemKept s (State.chanClosed s a1) := by
  unfold State.chanClosed
  extract_lets -merge -underBinder t0
  clear_value t0
  exact .ite (State.tchanMove_mem _ _) (.refl _)

theorem State.chanAsk_mem s a1 a2 a3 : MemKept s (State.chanAsk s a1 a2 a3) := by
  unfold State.chanAsk
  extract_lets -merge -underBinder t0
  clear_value t0
  exact State.setTchan_mem _ _ _

theorem State.chanSyncRx_mem s a1 a2 a3 : MemKept s (State.chanSyncRx s a1 a2 a3) := by
  unfold State.chanSyncRx
  extract_lets -merge -underBinder t0 t1 t2 t3 t4 t5
  refine .haveS (t := t0) (State.chanHears_mem _ _) fun ht0 => ?_
  clear_value t0 t1
  refine .haveS (t := t2) (.ite (ht0.step (State.masterChange_mem _ _)) ht0) fun ht2 => ?_
  clear_value t2 t3 t4
  refine .haveS (t := t5) (ht2.step (State.setTchan_mem _ _ _)) fun ht5 => ?_
  clear_value t5
  exact .ite ht5 (ht5.step (State.pairsEval_mem _ _))

theorem State.chanFollowUp_mem s a1 a2 a3 : MemKept s (State.chanFollowUp s a1 a2 a3) := by
  unfold State.chanFollowUp
  extract_lets -merge -underBinder t0
  clear_value t0
  split
  · exact .ite (State.setTchan_mem _ _ _) (.refl _)
  · exact .refl _

theorem State.pairSuspend_mem s a1 : MemKept s (State.pairSuspend s a1) := by
  unfold State.pairSuspend
  extract_lets -merge -underBinder t0 t1
  clear_value t0 t1
  exact .ite (State.setPair_mem _ _ _) (((State.setPair_mem _ _ _).step (State.raise_mem _ _ _ _ _)).step (State.pairHold_mem _ _))

theorem State.pairGood_mem s a1 a2 : MemKept s (State.pairGood s a1 a2) := by
  unfold State.pairGood
  extract_lets -merge -underBinder t0 t1 t2 t3 t4 t5
  clear_value t0 t1 t2 t3 t4 t5
  exact .ite (State.setPair_mem _ _ _) (State.setPair_mem _ _ _)

theorem State.pairExchange_mem s a1 a2 a3 a4 a5 : MemKept s (State.pairExchange s a1 a2 a3 a4 a5) := by
  unfold State.pairExchange
  split
  · exact .refl _
  · extract_lets -merge -underBinder t0 t1 t2 t3 t4 t5
    clear_value t0 t1 t2 t3
    refine .haveS (t := t4) (State.setPair_mem _ _ _) fun ht4 => ?_
    clear_value t4 t5
    split
    · extract_lets -merge -underBinder t6 t7
      clear_value t6 t7
      exact .ite (.ite (ht4.step (State.pairSuspend_mem _ _)) (ht4.step (State.pairGood_mem _ _ _))) ht4
    · exact ht4

theorem State.lnkTrack_mem s a1 a2 a3 : MemKept s (State.lnkTrack s a1 a2 a3) := by
  unfold State.lnkTrack
  extract_lets -merge -underBinder t0 t1 t2 t3
  clear_value t0 t1 t2
  refine .haveS (t := t3) (State.setLnk_mem _ _ _) fun ht3 => ?_
  clear_value t3
  exact .ite (.refl _) (.ite (ht3.step (State.lnkGo_mem _ _ _ _)) ht3)

theorem State.chanExchange_mem s a1 a2 a3 a4 a5 : MemKept s (State.chanExchange s a1 a2 a3 a4 a5) := by
  unfold State.chanExchange
  extract_lets -merge -underBinder t0 t1 t2 t3 t4 t5 t6 t7 t8 t9 t10 t11 t12 t13 t14 t15 t16
  clear_value t0 t1 t2 t3 t4 t5 t6 t7 t8
  refine .haveS (t := t9) (.ite (State.pairExchange_mem _ _ _ _ _ _) (State.setLnk_mem _ _ _)) fun ht9 => ?_
  clear_value t9 t10 t11
  refine .haveS (t := t13) (ht9.step (State.setLnk_mem _ _ _)) fun ht13 => ?_
  clear_value t13
  refine .haveS (t := t14) (.ite (ht13.step (State.lnkTrack_mem _ _ _ _)) ht13) fun ht14 => ?_
  clear_value t14 t15
  refine .haveS (t := t16) (.upd ht14) fun ht16 => ?_
  clear_value t16
  exact .ite (State.bump_mem _ _ _ _) (ht16.step (State.timeSample_mem _ _ _))

theorem State.chanResp_mem s a1 a2 a3 : MemKept s (State.chanResp s a1 a2 a3) := by
  unfold State.chanResp
  extract_lets -merge -underBinder t0 t1
  clear_value t0
  refine .haveS (t := t1) (State.setTchan_mem _ _ _) fun ht1 => ?_
  clear_value t1
  refine .ite ?_ ?_
  · exact .refl _
  · split
    · exact ht1.step (State.chanExchange_mem _ _ _ _ _ _)
    · exact ht1

theorem State.chanMessage_mem s a1 a2 a3 : MemKept s (State.chanMessage s a1 a2 a3) := by
  unfold State.chanMessage
  extract_lets -merge -underBinder t0 t1 t2 t3
  clear_value t0 t1
  refine .haveS (t := t2) (State.setTchan_mem _ _ _) fun ht2 => ?_
  clear_value t2
  refine .haveS (t := t3) (.ite (ht2.step (State.lnkTlv_mem _ _ _)) ht2) fun ht3 => ?_
  clear_value t3
  refine .ite ?_ ?_
  · exact State.bump_mem _ _ _ _
  · refine .ite ?_ ?_
    · exact .ite (ht3.step (State.chanAsk_mem _ _ _ _)) ht3
    · split
      · exact ht3.step (State.chanSyncRx_mem _ _ _ _)
      · exact ht3.step (State.chanFollowUp_mem _ _ _ _)
      · exact ht3.step (State.chanResp_mem _ _ _ _)
      · exact ht3.step (State.chanAnnounce_mem _ _ _)
      · exact ht3

theorem State.ptpMessageReceive_mem s a1 a2 : MemKept s (State.ptpMessageReceive s a1 a2) := by
  unfold State.ptpMessageReceive
  split
  · exact .refl _
  · refine .ite ?_ ?_
    · exact .refl _
    · refine .ite ?_ ?_
      · exact (State.bump_mem _ _ _ _).step (State.setFrame_mem _ _ _)
      · split
        · exact .refl _
        · extract_lets -merge -underBinder t0
          refine .haveS (t := t0) (State.setFrame_mem _ _ _) fun ht0 => ?_
          clear_value t0
          split
          · exact .ite ((ht0.step (State.chanMessage_mem _ _ _ _)).step (State.chanClosed_mem _ _)) ht0
          · extract_lets -merge -underBinder t1
            exact .ite (ht0.step (State.setTchan_mem _ _ _)) ht0
          · exact ht0

theorem State.tchanSend_mem (s : State) (i k : Nat) (m : Int) :
    MemKept s (s.tchanSend i k m) := by
  unfold State.tchanSend
  refine .ite (.refl _) ?_
  extract_lets -underBinder p l x msg y s1 q s2
  have h2 : MemKept s s2 := ((State.latchAt_mem _ _ _ _).step
    (State.setTchan_mem _ _ _)).step (State.setPortPtp_mem _ _ _)
  clear_value s2
  exact .ite (h2.step (State.lnkMasterSync_mem _ _)) h2

theorem State.refQualTimer_mem s a1 : MemKept s (State.refQualTimer s a1) := by
  unfold State.refQualTimer
  extract_lets -merge -underBinder t0
  clear_value t0
  exact .ite (.refl _) (State.candQualify_mem _ _)

theorem State.ppsInEdge_mem s a1 a2 a3 : MemKept s (State.ppsInEdge s a1 a2 a3) := by
  unfold State.ppsInEdge
  extract_lets -merge -underBinder t0 t1 t2 t3 t4 t5 t6
  clear_value t0 t1
  refine .haveS (t := t2) (State.candCheck_mem _ _ _) fun ht2 => ?_
  clear_value t2 t3
  refine .haveS (t := t5) (.ite (.upd ht2) ht2) fun ht5 => ?_
  clear_value t5
  refine .haveS (t := t6) (.ite (ht5.step (State.timeSample_mem _ _ _)) ht5) fun ht6 => ?_
  clear_value t6
  exact .ite (ht6.step (State.candQualify_mem _ _)) ht6

theorem State.budgetCheck_mem s a1 : MemKept s (State.budgetCheck s a1) := by
  unfold State.budgetCheck
  extract_lets -merge -underBinder t0
  exact .ite (.refl _) ((((MemKept.upd (.refl _)).step (State.raise_mem _ _ _ _ _)).step (State.wakeEvent_mem _ _)).step
      (State.updateClass_mem _))

theorem State.holdoverTick_mem s a1 : MemKept s (State.holdoverTick s a1) := by
  unfold State.holdoverTick
  extract_lets -merge -underBinder t0 t1
  refine .haveS (t := t1) (.upd (.refl _)) fun ht1 => ?_
  clear_value t1
  refine .ite ?_ ?_
  · exact ht1
  · split
    · exact ht1
    · extract_lets -merge -underBinder t2 t3 t4 t5 t6
      clear_value t2
      refine .haveS (t := t4) (.upd ht1) fun ht4 => ?_
      clear_value t4
      refine .haveS (t := t5) (ht4.step (State.raiseIf_mem _ _ _ _ _ _)) fun ht5 => ?_
      clear_value t5
      refine .haveS (t := t6) ?_ fun ht6 => ?_
      · unfold t6
        split
        · exact ht5.step (State.setRate_mem _ _)
        · exact ht5
      clear_value t6
      exact (ht6.step (State.budgetCheck_mem _ _)).step (State.timeStateOut_mem _)

theorem State.modelLearn_mem s a1 : MemKept s (State.modelLearn s a1) := by
  unfold State.modelLearn
  extract_lets -merge -underBinder t0 t1 t2 t3 t4 t5 t6
  clear_value t0
  refine .haveS (t := t2) (.ite (.refl _) (.upd (.refl _))) fun ht2 => ?_
  clear_value t2 t3 t4 t5
  exact .ite ht2 (.upd ht2)

theorem State.tempExtStale_mem s : MemKept s (State.tempExtStale s) := by
  unfold State.tempExtStale
  extract_lets -merge -underBinder t0
  exact .ite (.refl _) ((MemKept.upd (.refl _)).step (State.raise_mem _ _ _ _ _))

theorem State.refCandSet_mem s a1 : MemKept s (State.refCandSet s a1) := by
  unfold State.refCandSet
  extract_lets -merge -underBinder t0 t1 t2 t3 t4
  clear_value t0 t1 t2 t3 t4
  refine State.runCmd_mem _ _ _ _ _ (fun _ => ?_)
  extract_lets -merge -underBinder t5 t6 t7
  refine .haveS (t := t6) (.ite ((((State.putBoth_mem _ _ _ _ _).step (State.putBoth_mem _ _ _ _ _)).step (State.putBoth_mem _ _ _ _
      _)).step (State.putBoth_mem _ _ _ _ _)) (.upd (.refl _))) fun ht6 => ?_
  clear_value t6
  refine .haveS (t := t7) (ht6.step (State.candChanged_mem _ _)) fun ht7 => ?_
  clear_value t7
  exact ht7.step (State.complete_mem _ _ _ _ _ _ _)

theorem State.refRealign_mem s a1 : MemKept s (State.refRealign s a1) := by
  unfold State.refRealign
  extract_lets -merge -underBinder t0 t1
  clear_value t0 t1
  refine State.runCmd_mem _ _ _ _ _ (fun _ => ?_)
  refine .ite ?_ ?_
  · exact State.complete_mem _ _ _ _ _ _ _
  · split
    · extract_lets -merge -underBinder t2 t3
      clear_value t2
      refine .haveS (t := t3) (.ite (State.stepToRef_mem _ _) (State.returnStepped_mem _ _)) fun ht3 => ?_
      clear_value t3
      exact ht3.step (State.complete_mem _ _ _ _ _ _ _)
    · extract_lets -merge -underBinder t4 t5 t6 t7 t8
      clear_value t4
      refine .haveS (t := t5) (State.applyStep_mem _ _) fun ht5 => ?_
      clear_value t5
      refine .haveS (t := t8) (.ite (.upd ht5) (.upd (.refl _))) fun ht8 => ?_
      clear_value t8
      exact ht8.step (State.complete_mem _ _ _ _ _ _ _)

theorem State.refMdlReset_mem s a1 : MemKept s (State.refMdlReset s a1) := by
  unfold State.refMdlReset
  extract_lets -merge -underBinder t0
  clear_value t0
  refine State.runCmd_mem _ _ _ _ _ (fun _ => ?_)
  extract_lets -merge -underBinder t1
  exact (MemKept.upd (.refl _)).step (State.complete_mem _ _ _ _ _ _ _)

theorem State.pllAlign_mem s a1 : MemKept s (State.pllAlign s a1) := by
  unfold State.pllAlign
  extract_lets -merge -underBinder t0 t1
  clear_value t0
  refine State.runCmd_mem _ _ _ _ _ (fun _ => ?_)
  extract_lets -merge -underBinder t2
  exact .upd (.refl _)

theorem State.gnssClockFault_mem s a1 : MemKept s (State.gnssClockFault s a1) := by
  unfold State.gnssClockFault
  extract_lets -merge -underBinder t0 t1 t2
  refine .haveS (t := t1) (.upd (.refl _)) fun ht1 => ?_
  clear_value t1
  refine .haveS (t := t2) (ht1.step (State.raiseIf_mem _ _ _ _ _ _)) fun ht2 => ?_
  clear_value t2
  exact .ite (.refl _) ((MemKept.foldl (fun _ _ => State.gnssLose_mem _ _) _ ht2).step (State.gnssInvalid_mem _))

theorem State.gnssClockOk_mem s a1 : MemKept s (State.gnssClockOk s a1) := by
  unfold State.gnssClockOk
  extract_lets -merge -underBinder t0
  exact .ite (.refl _) (.upd (.refl _))

theorem State.gnssBind_mem s a1 a2 a3 : MemKept s (State.gnssBind s a1 a2 a3) := by
  unfold State.gnssBind
  extract_lets -merge -underBinder t0
  refine .haveS (t := t0) (((State.putBoth_mem _ _ _ _ _).step (State.putBoth_mem _ _ _ _ _)).step (State.putBoth_mem _ _ _ _ _)) fun ht0 =>
      ?_
  clear_value t0
  exact ht0.step (State.gnssRebind_mem _ _ _)

theorem State.gnssHand_mem s a1 : MemKept s (State.gnssHand s a1) := by
  unfold State.gnssHand
  extract_lets -merge -underBinder t0
  clear_value t0
  refine .ite ?_ ?_
  · exact .refl _
  · refine .ite ?_ ?_
    · exact State.bump_mem _ _ _ _
    · split
      · exact State.gnssBind_mem _ _ _ _
      · exact State.bump_mem _ _ _ _

theorem State.gnssDetect_mem s a1 : MemKept s (State.gnssDetect s a1) := by
  unfold State.gnssDetect
  extract_lets -merge -underBinder t0
  clear_value t0
  exact .ite (.refl _) ((State.setSearchJob_mem _ _ _).step (State.gnssHand_mem _ _))

theorem State.dwellEndJob_mem s a1 : MemKept s (State.dwellEndJob s a1) := by
  unfold State.dwellEndJob
  extract_lets -merge -underBinder t0 t1 t2
  clear_value t0 t1 t2
  exact .ite (.refl _) ((State.setSearchJob_mem _ _ _).step (State.raiseIf_mem _ _ _ _ _ _))

theorem State.gnssDwellEnd_mem s a1 a2 : MemKept s (State.gnssDwellEnd s a1 a2) := by
  unfold State.gnssDwellEnd
  extract_lets -merge -underBinder t0 t1 t2
  clear_value t0 t1
  refine .haveS (t := t2) (.foldl (fun _ _ => State.gnssDetect_mem _ _) _ (.refl _)) fun ht2 => ?_
  clear_value t2
  exact .ite (.refl _) ((MemKept.foldl (fun _ _ => State.dwellEndJob_mem _ _) _ ht2).step (State.sectsSettle_mem _ _))

theorem State.gnssChLock_mem s a1 a2 : MemKept s (State.gnssChLock s a1 a2) := by
  unfold State.gnssChLock
  extract_lets -merge -underBinder t0
  exact .ite ((State.setGnssCh_mem _ _ _).step (State.goGnssCh_mem _ _ _)) (.refl _)

theorem State.gnssChPullinTimeout_mem s a1 : MemKept s (State.gnssChPullinTimeout s a1) := by
  unfold State.gnssChPullinTimeout
  exact .ite (State.goGnssCh_mem _ _ _) (.refl _)

theorem State.gnssSolutionDone_mem s a1 : MemKept s (State.gnssSolutionDone s a1) := by
  unfold State.gnssSolutionDone
  extract_lets -merge -underBinder t0 t1 t2 t3 t4 t5 t6 t7
  clear_value t0 t1 t3
  refine .haveS (t := t4) (.upd (.refl _)) fun ht4 => ?_
  clear_value t4
  refine .haveS (t := t5) (ht4.step (State.raiseIf_mem _ _ _ _ _ _)) fun ht5 => ?_
  clear_value t5
  refine .haveS (t := t6) (ht5.step (State.raiseIf_mem _ _ _ _ _ _)) fun ht6 => ?_
  clear_value t6
  refine .haveS (t := t7) (ht6.step (State.surveyAdd_mem _ _)) fun ht7 => ?_
  clear_value t7
  exact .ite (.refl _) (.ite (((MemKept.upd (.refl _)).step (State.gnssInvalid_mem _)).step (State.candCheck_mem _ _ _)) ((ht7.step
      (State.candCheck_mem _ _ _)).step (State.timeSample_mem _ _ _)))

theorem State.gnssBurstStart_mem s a1 : MemKept s (State.gnssBurstStart s a1) := by
  unfold State.gnssBurstStart
  extract_lets -merge -underBinder t0 t1
  refine .haveS (t := t0) ?_ fun ht0 => ?_
  · unfold t0
    refine .foldl (fun _ _ => ?_) _ (.refl _)
    extract_lets -merge -underBinder t2
    exact .ite (State.setGnssCh_mem _ _ _) (.refl _)
  clear_value t0
  exact .ite (.refl _) (.upd ht0)

theorem State.gnssBurstEnd_mem s : MemKept s (State.gnssBurstEnd s) := by
  unfold State.gnssBurstEnd
  extract_lets -merge -underBinder t0
  exact .ite (.refl _) (.upd (.refl _))

theorem State.gnssSect_mem s a1 : MemKept s (State.gnssSect s a1) := by
  unfold State.gnssSect
  extract_lets -merge -underBinder t0 t1
  clear_value t0 t1
  refine State.runCmd_mem _ _ _ _ _ (fun _ => ?_)
  extract_lets -merge -underBinder t2 t3 t4 t5
  clear_value t2
  exact .ite (.ite (State.complete_mem _ _ _ _ _ _ _) (.ite (.upd (.refl _)) ((State.sectOut_mem _ _).step (State.complete_mem _ _ _ _ _ _
      _)))) (.ite ((MemKept.upd (.refl _)).step (State.complete_mem _ _ _ _ _ _ _)) (.ite (.upd (.refl _)) (State.complete_mem _ _ _ _ _ _
      _)))

theorem State.ticGateEdge_mem s a1 a2 : MemKept s (State.ticGateEdge s a1 a2) := by
  unfold State.ticGateEdge
  extract_lets -merge -underBinder t0 t1 t2
  refine .haveS (t := t2) (.upd (.refl _)) fun ht2 => ?_
  clear_value t2
  unfold State.forTic
  refine .foldl (fun _ _ => ?_) _ ht2
  extract_lets -merge -underBinder t3
  clear_value t3
  exact .ite (.refl _) (.ite ((State.setTicCh_mem _ _ _).step (State.ticSample_mem _ _)) (.ite (State.setTicCh_mem _ _ _) (.refl _)))

theorem State.ticTbOk_mem s : MemKept s (State.ticTbOk s) := by
  unfold State.ticTbOk
  extract_lets -merge -underBinder t0 t1 t2
  refine .haveS (t := t0) (State.raiseIf_mem _ _ _ _ _ _) fun ht0 => ?_
  clear_value t0
  refine .haveS (t := t2) (.upd ht0) fun ht2 => ?_
  clear_value t2
  refine .ite ?_ ?_
  · exact .refl _
  · unfold State.forTic
    refine .foldl (fun _ _ => ?_) _ ht2
    extract_lets -merge -underBinder t3
    exact (State.setTicCh_mem _ _ _).step (State.ticSample_mem _ _)

theorem State.calStore_mem s a1 : MemKept s (State.calStore s a1) := by
  unfold State.calStore
  extract_lets -merge -underBinder t0 t1
  refine .haveS (t := t1) (.upd (.refl _)) fun ht1 => ?_
  clear_value t1
  split
  · extract_lets -merge -underBinder t2
    exact (MemKept.upd ht1).step (State.calPut_mem _ _ _)
  · exact ht1

theorem State.calSave_memSafe s a1 : MemSafe s (State.calSave s a1) := by
  unfold State.calSave
  extract_lets -merge -underBinder t0
  clear_value t0
  refine State.runCmd_memSafe _ _ _ _ _ (fun _ => ?_)
  extract_lets -merge -underBinder t1 t2
  refine .haveS (t := t1) (State.setCalSlot_memSafe _ _ _) fun ht1 => ?_
  clear_value t1
  exact .ite (State.complete_mem _ _ _ _ _ _ _).safe (.ite (State.complete_mem _ _ _ _ _ _ _).safe (.upd ht1))

theorem State.autoReload_mem s a1 : MemKept s (State.autoReload s a1) := by
  unfold State.autoReload
  extract_lets -merge -underBinder t0 t1
  clear_value t0 t1
  split
  · extract_lets -merge -underBinder t2
    refine .haveS (t := t2) ((State.setEng_mem _ _ _).step (State.goEng_mem _ _ _)) fun ht2 => ?_
    clear_value t2
    exact .ite (ht2.step (State.goEng_mem _ _ _)) (.refl _)
  · exact .refl _

theorem State.engFault_mem s a1 a2 : MemKept s (State.engFault s a1 a2) := by
  unfold State.engFault
  extract_lets -merge -underBinder t0 t1 t2
  clear_value t0
  refine .haveS (t := t1) ((State.raise_mem _ _ _ _ _).step (State.setEng_mem _ _ _)) fun ht1 => ?_
  clear_value t1
  refine .haveS (t := t2) (.ite (ht1.step (State.outDone_mem _ _ _)) ((ht1.step (State.goEng_mem _ _ _)).step (State.engLeaves_mem _ _ _)))
      fun ht2 => ?_
  clear_value t2
  exact .ite (.refl _) (ht2.step (State.autoReload_mem _ _))

theorem State.engTakeover_mem s a1 a2 : MemKept s (State.engTakeover s a1 a2) := by
  unfold State.engTakeover
  extract_lets -merge -underBinder t0
  clear_value t0
  split
  · extract_lets -merge -underBinder t1
    refine .haveS (t := t1) (((State.setTask_mem _ _ _).step (State.nameStandby_mem _ _)).step (State.bump_mem _ _ _ _)) fun ht1 => ?_
    clear_value t1
    exact .ite (.refl _) (((ht1.step (State.raise_mem _ _ _ _ _)).step (State.taskGained_mem _ _)).step (State.engReady_mem _))
  · exact .refl _

theorem State.engOut_mem s a1 : MemKept s (State.engOut s a1) := by
  unfold State.engOut
  extract_lets -merge -underBinder t0 t1
  clear_value t0 t1
  refine State.runCmd_mem _ _ _ _ _ (fun _ => ?_)
  split
  · exact State.complete_mem _ _ _ _ _ _ _
  · exact ((State.inDropped_mem _ _).step (State.goEng_mem _ _ _)).step (State.complete_mem _ _ _ _ _ _ _)
  · exact .ite (State.complete_mem _ _ _ _ _ _ _) (State.outBegin_mem _ _ _)

theorem State.engDrained_memSafe s a1 : MemSafe s (State.engDrained s a1) := by
  unfold State.engDrained
  exact (((State.engDrainEnd_mem _ _).safe.step (State.entryE3_memSafe _)).step (State.abandonEnd_memSafe _)).step (State.pwrSettle_memSafe
      _)

theorem State.engLoad_mem s a1 : MemKept s (State.engLoad s a1) := by
  unfold State.engLoad
  extract_lets -merge -underBinder t0 t1
  clear_value t0 t1
  refine State.runCmd_mem _ _ _ _ _ (fun _ => ?_)
  extract_lets -merge -underBinder t2 t3
  clear_value t2 t3
  exact .ite (State.complete_mem _ _ _ _ _ _ _) (.ite (State.complete_mem _ _ _ _ _ _ _) ((State.imageLoad_mem _ _ _).step
      (State.complete_mem _ _ _ _ _ _ _)))

theorem State.engIn_mem s a1 : MemKept s (State.engIn s a1) := by
  unfold State.engIn
  extract_lets -merge -underBinder t0
  clear_value t0
  refine State.runCmd_mem _ _ _ _ _ (fun _ => ?_)
  extract_lets -merge -underBinder t1
  exact (State.setEng_mem _ _ _).step (State.goEng_mem _ _ _)

theorem State.engReplayed_memSafe s a1 a2 : MemSafe s (State.engReplayed s a1 a2) := by
  unfold State.engReplayed
  exact (State.engReplayDone_mem _ _ _).safe.step (State.abandonEnd_memSafe _)

theorem State.dmaIn_memSafe (s : State) (x : Nat × Option Nat × Nat) (o : Nat) (data : List Byte) (clash : List (Nat × Word)) (n : Nat) :
    MemSafe s (State.dmaIn (s, x) o data clash n).1 := by
  induction n generalizing s x o data with
  | zero => exact .refl _
  | succ n ih =>
    unfold State.dmaIn
    exact (State.dmaWord_memSafe s x o _ _).step (ih _ _ _ _)

theorem State.spadDma_memSafe (s : State) (d : CmdDesc) (data : List Byte) (clash : List (Nat × Word)) :
    MemSafe s (s.spadDma d data clash) := by
  unfold State.spadDma
  extract_lets -underBinder out o n c
  refine State.runCmd_memSafe _ _ _ _ _ (fun u => ?_)
  split
  · extract_lets x y t
    have ht : MemSafe u t := (State.dmaOff_mem u o (n / 4)).safe.step
      (.upd (.refl _))
    exact ht.step (State.complete_mem _ _ _ _ _ _ _).safe
  · exact (State.dmaIn_memSafe u _ _ _ _ _).step (State.complete_mem _ _ _ _ _ _ _).safe

theorem State.engImgCommit_mem s a1 : MemKept s (State.engImgCommit s a1) := by
  unfold State.engImgCommit
  extract_lets -merge -underBinder t0
  clear_value t0
  refine State.runCmd_mem _ _ _ _ _ (fun _ => ?_)
  extract_lets -merge -underBinder t1 t2 t3
  clear_value t1 t2 t3
  exact .ite (State.complete_mem _ _ _ _ _ _ _) ((State.persStore_mem _ _ _).step (State.complete_mem _ _ _ _ _ _ _))

theorem State.perfPcWrap_mem s a1 a2 : MemKept s (State.perfPcWrap s a1 a2) := by
  unfold State.perfPcWrap
  exact .ite (.refl _) (.upd (.refl _))

theorem State.omdFrameBad_mem s : MemKept s (State.omdFrameBad s) := by
  unfold State.omdFrameBad
  exact .ite (State.bump_mem _ _ _ _) (.refl _)

theorem State.heartbeat_mem s a1 : MemKept s (State.heartbeat s a1) := by
  unfold State.heartbeat
  extract_lets -merge -underBinder t0 t1
  refine .haveS (t := t0) (State.omdAck_mem _ _) fun ht0 => ?_
  clear_value t0
  exact .ite (.refl _) ((MemKept.ite (.upd ht0) ht0).step (State.hbTake_mem _ _ _))

theorem State.pairTime_mem s a1 a2 : MemKept s (State.pairTime s a1 a2) := by
  unfold State.pairTime
  extract_lets -merge -underBinder t0 t1
  refine .haveS (t := t1) (.upd (.refl _)) fun ht1 => ?_
  clear_value t1
  refine .ite ?_ ?_
  · exact .refl _
  · split
    · exact ht1
    · extract_lets -merge -underBinder t2 t3 t4 t5 t6
      clear_value t2 t3 t4
      refine .haveS (t := t6) (.upd ht1) fun ht6 => ?_
      clear_value t6
      exact .ite (ht6.step (State.servoTake_mem _ _)) ht6

theorem State.omdRetransmit_mem s a1 : MemKept s (State.omdRetransmit s a1) := by
  unfold State.omdRetransmit
  split
  · exact .refl _
  · extract_lets -merge -underBinder t0 t1
    exact .ite (.refl _) (.ite ((MemKept.upd (.refl _)).step (State.setLanes_mem _ _)) ((MemKept.upd (.refl _)).step (State.bump_mem _ _ _
        _)))

theorem State.pairHbSend_mem s : MemKept s (State.pairHbSend s) := by
  unfold State.pairHbSend
  extract_lets -merge -underBinder t0
  exact .ite (.upd (.refl _)) (.refl _)

theorem State.inbHeartbeatRx_mem s a1 a2 : MemKept s (State.inbHeartbeatRx s a1 a2) := by
  unfold State.inbHeartbeatRx
  exact .ite (.refl _) (State.hbTake_mem _ _ _)

theorem State.mirrorDeltaAge_mem s : MemKept s (State.mirrorDeltaAge s) := by
  unfold State.mirrorDeltaAge
  extract_lets -merge -underBinder t0
  exact .ite (.upd (.refl _)) (.refl _)

theorem State.pairRehearseTimer_mem s : MemKept s (State.pairRehearseTimer s) := by
  unfold State.pairRehearseTimer
  exact .ite (State.rehearseStart_mem _ _) (.refl _)

theorem State.pwrEntryDrainEnd_memSafe s : MemSafe s (State.pwrEntryDrainEnd s) := by
  unfold State.pwrEntryDrainEnd
  exact ((State.entryE2_memSafe _).step (State.abandonEnd_memSafe _)).step (State.pwrSettle_memSafe _)

theorem State.pwrWakeTimerMatch_mem s : MemKept s (State.pwrWakeTimerMatch s) := by
  unfold State.pwrWakeTimerMatch
  exact .ite (.refl _) (State.wakeEvent_mem _ _)

theorem State.wakeFailed_mem s a1 a2 : MemKept s (State.wakeFailed s a1 a2) := by
  unfold State.wakeFailed
  extract_lets -merge -underBinder t0 t1
  refine .haveS (t := t1) (.upd (.refl _)) fun ht1 => ?_
  clear_value t1
  exact (ht1.step (State.bump_mem _ _ _ _)).step (State.raise_mem _ _ _ _ _)

theorem State.pwrWakeSupplyTimeout_memSafe s a1 : MemSafe s (State.pwrWakeSupplyTimeout s a1) := by
  unfold State.pwrWakeSupplyTimeout
  split
  · extract_lets -merge -underBinder t0 t1
    refine .haveS (t := t0) (State.wakeFailed_mem _ _ _).safe fun ht0 => ?_
    clear_value t0
    exact (MemSafe.upd ht0).step (State.pwrSettle_memSafe _)
  · exact .refl _

theorem State.domUp_memSafe s a1 : MemSafe s (State.domUp s a1) := by
  unfold State.domUp
  split
  · exact (State.domWake_mem _ _).safe
  · exact (State.domWake_mem _ _).safe
  · exact (State.domWake_mem _ _).safe.step (State.gnssUp_mem _).safe
  · exact ((State.domWake_mem _ _).safe.step (State.setReady_mem _ _ _).safe).step (State.ticUp_mem _).safe
  · extract_lets -merge -underBinder t0
    refine .haveS (t := t0) (State.domWake_mem _ _).safe fun ht0 => ?_
    clear_value t0
    exact .foldl (fun _ _ => .ite (State.pllStart_mem _ _).safe (.refl _)) _ ht0
  · exact (State.domWake_mem _ _).safe.step (State.pllStart_mem _ _).safe
  · extract_lets -merge -underBinder t1
    refine .haveS (t := t1) ((State.domWake_mem _ _).safe.step (State.padHold_mem _ _ _).safe) fun ht1 => ?_
    clear_value t1
    exact .foldl (fun _ _ => (State.ringStart_mem _ _).safe) _ ht1
  · exact (State.domWake_mem _ _).safe
  · extract_lets -merge -underBinder t2 t3 t4
    refine .haveS (t := t2) (State.domWake_mem _ _).safe fun ht2 => ?_
    clear_value t2
    refine .haveS (t := t3) (State.setBankMode_memSafe _ _ _) fun ht3 => ?_
    clear_value t3
    exact .ite (State.grpWake_mem _ _).safe (.ite (.ite (ht2.step (State.goEng_mem _ _ _).safe) ht2) (.upd ht3))

theorem State.pwrSwitchGood_memSafe s a1 : MemSafe s (State.pwrSwitchGood s a1) := by
  unfold State.pwrSwitchGood
  exact .ite ((State.domUp_memSafe _ _).step (State.switchDone_memSafe _ _)) (.refl _)

theorem State.pwrSwitchTimeout_memSafe s a1 : MemSafe s (State.pwrSwitchTimeout s a1) := by
  unfold State.pwrSwitchTimeout
  extract_lets -merge -underBinder t0 t1
  refine .haveS (t := t0) (State.wakeFailed_mem _ _ _).safe fun ht0 => ?_
  clear_value t0
  exact .ite ((MemSafe.upd ht0).step (State.switchDone_memSafe _ _)) (.refl _)

theorem State.persLoss_mem s : MemKept s (State.persLoss s) := by
  unfold State.persLoss
  refine .foldl (fun _ _ => ?_) _ (.refl _)
  extract_lets -merge -underBinder t0 t1
  clear_value t0
  exact .upd (.refl _)

theorem State.powerOnReset_memSafe s : MemSafe s (State.powerOnReset s) := by
  unfold State.powerOnReset
  extract_lets -merge -underBinder t0 t1
  refine .haveS (t := t0) ((State.persLoss_mem _).safe.step (State.hardReset_memSafe _)) fun ht0 => ?_
  clear_value t0
  exact .upd ht0

theorem State.partReset_memSafe s a1 : MemSafe s (State.partReset s a1) := by
  unfold State.partReset
  extract_lets -merge -underBinder t0 t1
  clear_value t0
  refine .haveS (t := t1) (.upd (.refl _)) fun ht1 => ?_
  clear_value t1
  exact .ite (.refl _) (.ite (State.partResetHold_memSafe _ _) (.ite (ht1.step (State.partResetHold_memSafe _ _)) ht1))

theorem State.flashReadCmd_memSafe (s : State) (d : CmdDesc) (us : Nat) :
    MemSafe s (s.flashReadCmd d us) := by
  unfold State.flashReadCmd
  extract_lets a o n c fw
  refine State.runCmd_memSafe _ _ _ _ _ (fun u => ?_)
  refine .ite (State.complete_mem _ _ _ _ _ _ _).safe ?_
  have h0 : MemSafe u { u with free := u.free + n } := MemSafe.upd (.refl _)
  exact (h0.step (State.dmaIn_memSafe _ _ _ _ _ _)).step (State.complete_mem _ _ _ _ _ _ _).safe

theorem State.unitRun_memSafe s a1 a2 : MemSafe s (State.unitRun s a1 a2) := by
  unfold State.unitRun
  extract_lets -merge -underBinder t0 t1
  clear_value t0
  refine .haveS (t := t1) (.upd (.refl _)) fun ht1 => ?_
  clear_value t1
  split
  · exact ht1.step (State.flashReadCmd_memSafe _ _ _)
  · exact ht1.step (State.flashWriteCmd_memSafe _ _ _ _)
  · exact (State.admTake_mem _ _ _ _).safe
  · exact (State.gclGet_mem _ _).safe
  · exact (State.admTake_mem _ _ _ _).safe
  · exact (State.bpmCarve_mem _ _).safe
  · exact (State.bpmAuditRun_mem _ _).safe
  · exact (State.fdbAdd_mem _ _).safe
  · exact (State.fdbDel_mem _ _).safe
  · exact (State.fdbLookup_mem _ _).safe
  · exact (State.fdbFlush_mem _ _).safe
  · exact (State.fdbVlanSet_mem _ _).safe
  · exact (State.fdbMcgSet_mem _ _).safe
  · exact (State.fdbClsSet_mem _ _).safe
  · exact (State.fdbClsDel_mem _ _).safe
  · exact (State.fdbCbSet_mem _ _).safe
  · exact (State.timeStep_mem _ _).safe
  · exact (State.timeSet_mem _ _).safe
  · exact (State.refCandSet_mem _ _).safe
  · exact (State.refRealign_mem _ _).safe
  · exact (State.refMdlReset_mem _ _).safe
  · exact (State.pllRampLoad_mem _ _).safe
  · exact (State.rampCtrl_mem _ _).safe
  · exact (State.pllAlign_mem _ _).safe
  · exact (State.pllReturnCmd_mem _ _).safe
  · exact (State.gnssSect_mem _ _).safe
  · exact (State.gnssSurvey_mem _ _).safe
  · exact (State.ticArm_mem _ _ _).safe
  · exact (State.ticStop_mem _ _ _).safe
  · exact State.calSave_memSafe _ _
  · exact (State.calReload_mem _ _).safe
  · exact (State.engOut_mem _ _).safe
  · exact (State.engLoad_mem _ _).safe
  · exact (State.engIn_mem _ _).safe
  · exact (State.engTaskPin_mem _ _).safe
  · exact (State.polSet_mem _ _).safe
  · exact (State.polGet_mem _ _).safe
  · exact (State.polSave_mem _ _).safe
  · extract_lets -merge -underBinder t2
    clear_value t2
    exact (MemSafe.upd (.refl _)).step (State.spadDma_memSafe _ _ _ _)
  · exact (State.engImgCommit_mem _ _).safe
  · exact (State.pairRehearse_mem _ _).safe
  · exact (State.pairResync_mem _ _).safe
  · exact (State.pairCbSet_mem _ _).safe
  · exact (State.complete_mem _ _ _ _ _ _ _).safe

theorem State.cmdRun_memSafe s a1 a2 : MemSafe s (State.cmdRun s a1 a2) := by
  unfold State.cmdRun
  refine .ite ?_ ?_
  · exact (State.complete_mem _ _ _ _ _ _ _).safe
  · split
    · exact (State.admTake_mem _ _ _ _).safe
    · exact (State.admTake_mem _ _ _ _).safe
    · exact (State.objQuery_mem _ _ _).safe
    · exact (State.flowTake_mem _ _ _ _).safe
    · exact (State.objList_mem _ _ _).safe
    · exact (State.flowTake_mem _ _ _ _).safe
    · exact (State.flowTake_mem _ _ _ _).safe
    · exact (State.tchanCreate_mem _ _).safe
    · exact (State.verbRun_mem _ _ _ _).safe
    · exact (State.mchanCreate_mem _ _).safe
    · exact (State.verbRun_mem _ _ _ _).safe
    · exact (State.mirrorCreate_mem _ _).safe
    · exact (State.verbRun_mem _ _ _ _).safe
    · exact (State.searchCreate_mem _ _).safe
    · exact (State.verbRun_mem _ _ _ _).safe
    · exact (State.calCreate_mem _ _).safe
    · exact (State.verbRun_mem _ _ _ _).safe
    · exact State.unitRun_memSafe _ _ _

theorem State.bootCommandRecord_memSafe s a1 : MemSafe s (State.bootCommandRecord s a1) := by
  unfold State.bootCommandRecord
  split
  · exact .refl _
  · extract_lets -merge -underBinder t0 t1 t2 t3
    clear_value t0 t1
    refine .haveS (t := t3) (.upd (.refl _)) fun ht3 => ?_
    clear_value t3
    exact .ite (.refl _) (.ite (ht3.step (State.complete_mem _ _ _ _ _ _ _).safe) (ht3.step (State.cmdRun_memSafe _ _ _)))

theorem State.pauseQuantaExpire_mem s a1 a2 : MemKept s (State.pauseQuantaExpire s a1 a2) := by
  unfold State.pauseQuantaExpire
  extract_lets -merge -underBinder t0
  clear_value t0
  exact (State.setPort_mem _ _ _).step (State.deadlineEpisode_mem _ _)

theorem State.hiberRetrain_mem s a1 : MemKept s (State.hiberRetrain s a1) := by
  unfold State.hiberRetrain
  exact .ite (State.laneRetrain_mem _ _) (.refl _)

theorem State.scheduledRetrain_mem s a1 : MemKept s (State.scheduledRetrain s a1) := by
  unfold State.scheduledRetrain
  extract_lets -merge -underBinder t0 t1 t2
  clear_value t0 t1 t2
  exact .ite (.refl _) (State.laneRetrain_mem _ _)

theorem State.txFrameDone_mem (s : State) (n k : Nat) :
    MemKept s (s.txFrameDone n k) := by
  unfold State.txFrameDone
  split
  · exact State.txCompletion_mem _ _
  · exact .refl _

theorem State.rxHostCopy_mem (s : State) (f c : Nat) :
    MemKept s (s.rxHostCopy f c) := by
  unfold State.rxHostCopy
  split
  · exact State.rxHostDeliver_mem _ _
  · exact .refl _

theorem State.perfSampled_mem (s : State) (e addr latency n : Nat) :
    MemKept s (s.perfSampled e addr latency n) := by
  unfold State.perfSampled
  split
  · exact State.perfSample_mem _ _ _ _
  · exact .refl _

end Sys2Proof.Machine
end

section
/-! ## Every step keeps the canonical form of the byte memories -/

set_option Elab.async false

namespace Sys2Proof.Machine

theorem State.carry_memSafe {s t : State} (h : MemSafe s t) : MemSafe s (t.carry s) := .upd h

/-- The answer of a command keeps the form when its effect does. -/
theorem effect_memSafe {c : Instr} {s t u : State} (hu : MemSafe s u) (he : exec c s = effect c.wf s u) (h : exec c s = .next t) :
    MemSafe s t := by
  rw [he] at h
  unfold effect at h
  split at h
  · split at h
    · cases h
      exact .refl s
    · cases h
      exact State.carry_memSafe hu
  · cases h

theorem effectInReset_memSafe {c : Instr} {s t u : State} (hu : MemSafe s u) (he : exec c s = effectInReset c.wf s u)
    (h : exec c s = .next t) : MemSafe s t := by
  rw [he] at h
  unfold effectInReset at h
  split at h <;> cases h
  exact State.carry_memSafe hu

/-- Every command keeps the form: its effect is a function of the model that does. -/
theorem exec_memSafe {c : Instr} {s t : State} (h : exec c s = .next t) : MemSafe s t := by
  cases c with
  | registerWrite | mbxRequest => exact effect_memSafe (State.anyWrite_memSafe ..) rfl h
  | rcRead | mbxLastWordRead => exact effect_memSafe (State.busRead_mem ..).safe rfl h
  | setAliasWrite | clearAliasWrite | toggleAliasWrite => exact effect_memSafe (State.aliasWrite_memSafe ..) rfl h
  | i2cWriteTransfer => exact effect_memSafe (State.i2cWrites_memSafe ..) rfl h
  | i2cReadTransfer => exact effect_memSafe (State.i2cRead_mem ..).safe rfl h
  | sysKeyWrite => exact effect_memSafe (State.keyWrite_mem ..).safe rfl h
  | keyUnlockExpire => exact effect_memSafe (State.keyUnlockExpire_mem ..).safe rfl h
  | keyBlockExpire => exact effect_memSafe (State.keyBlockExpire_mem ..).safe rfl h
  | commit | commitAtSec | discard => exact effect_memSafe (State.commitWrite_mem ..).safe rfl h
  | frameBoundaryApply => exact effect_memSafe (State.frameBoundaryApply_mem ..).safe rfl h
  | idleApply => exact effect_memSafe (State.idleApply_mem ..).safe rfl h
  | secondBoundary => exact effectInReset_memSafe (State.secondEvent_memSafe ..) rfl h
  | persWordWrite => exact effect_memSafe (.ite (.refl s) (State.persWrite_mem ..).safe) rfl h
  | persStoreDone => exact effect_memSafe (.upd (.refl s)) rfl h
  | cfgScrubPass => exact effect_memSafe (State.cfgScrubPass_mem ..).safe rfl h
  | appliedCopyError => exact effect_memSafe (State.appliedCopyError_mem ..).safe rfl h
  | pcieLinkUp => exact effect_memSafe (State.pcieLinkUp_mem ..).safe rfl h
  | ringCfgWrite | ringEnable | ringDisable | ringReset | laneRetrain | rxPolarityChange | laneGrpRemove | laneGrpReturn | portHoldWrite |
    resCfgWrite | bpmQuotaWrite | swapReq | swapCancel | stbyOut | stbyIn | refTempExtWrite | refPrefWrite | gnssChBind |
    engSpadPwrWrite | perfCtlClear | perfSelWrite | pairRoleWrite | pwrRequest | pwrForceGo | padRelease | faultClr | firstClr | logClr =>
    exact effect_memSafe (State.regSet_memSafe ..) rfl h
  | ringDrainLimit => exact effect_memSafe (State.ringDrainLimit_mem ..).safe rfl h
  | ringDrainEnd => exact effect_memSafe (State.ringDrainEnd_mem ..).safe rfl h
  | doorbell | cplDoorbell => exact effect_memSafe (State.doorbell_mem ..).safe rfl h
  | descTake => exact effect_memSafe (State.descTake_mem ..).safe rfl h
  | txCompletion => exact effect_memSafe (State.txFrameDone_mem ..).safe rfl h
  | rxHostDeliver => exact effect_memSafe (State.rxHostCopy_mem ..).safe rfl h
  | intTimerExpire => exact effect_memSafe (State.intTimerExpire_mem ..).safe rfl h
  | msixUnmask => exact effect_memSafe (State.msixUnmask_mem ..).safe rfl h
  | dmaError => exact effect_memSafe (State.dmaError_mem ..).safe rfl h
  | functionLevelReset | d3hotEntry => exact effect_memSafe (State.functionReset_mem ..).safe rfl h
  | busMasterClear => exact effect_memSafe (State.busMasterClear_mem ..).safe rfl h
  | flowCreate | flowModify | gclSet | boundQuery => exact effect_memSafe (State.admTake_mem ..).safe rfl h
  | flowBoundConfirm => exact effect_memSafe (State.flowBoundConfirm_mem ..).safe rfl h
  | flowQuery | tchanQuery | mchanQuery | mirrorQuery | searchJobQuery | calJobQuery =>
    exact effect_memSafe (State.objQuery_mem ..).safe rfl h
  | flowDestroy | flowDisable | flowEnable => exact effect_memSafe (State.flowTake_mem ..).safe rfl h
  | flowList | tchanList | mchanList | mirrorList | searchJobList | calJobList => exact effect_memSafe (State.objList_mem ..).safe rfl h
  | tchanCreate => exact effect_memSafe (State.tchanCreate_mem ..).safe rfl h
  | tchanModify | mchanModify | mirrorModify | searchJobModify | calJobModify => exact effect_memSafe (State.objModify_mem ..).safe rfl h
  | tchanDestroy | tchanDisable | mchanDestroy | mchanDisable | mirrorDestroy | mirrorDisable | searchJobDestroy | searchJobDisable |
    calJobDestroy | calJobDisable =>
    exact effect_memSafe (State.objDrain_mem ..).safe rfl h
  | tchanEnable | mchanEnable | mirrorEnable | searchJobEnable | calJobEnable => exact effect_memSafe (State.objEnable_mem ..).safe rfl h
  | mchanCreate => exact effect_memSafe (State.mchanCreate_mem ..).safe rfl h
  | mirrorCreate => exact effect_memSafe (State.mirrorCreate_mem ..).safe rfl h
  | searchJobCreate => exact effect_memSafe (State.searchCreate_mem ..).safe rfl h
  | calJobCreate => exact effect_memSafe (State.calCreate_mem ..).safe rfl h
  | objDrainEnd | objDrainLimit => exact effect_memSafe (State.drainEnd_mem ..).safe rfl h
  | retrainDone => exact effect_memSafe (State.retrainDone_mem ..).safe rfl h
  | adaptWindow => exact effect_memSafe (State.adaptWindow_mem ..).safe rfl h
  | qualMeasure => exact effect_memSafe (State.qualMeasure_mem ..).safe rfl h
  | forceStepBack => exact effect_memSafe (State.forceStepBack_mem ..).safe rfl h
  | elecIdleEntry => exact effect_memSafe (State.elecIdleEntry_mem ..).safe rfl h
  | elecIdleExit => exact effect_memSafe (State.elecIdleExit_mem ..).safe rfl h
  | fastExitFail => exact effect_memSafe (State.fastExitFail_mem ..).safe rfl h
  | blockLock => exact effect_memSafe (State.blockLock_mem ..).safe rfl h
  | lockLoss => exact effect_memSafe (State.laneUnlock_mem ..).safe rfl h
  | lockLossRetrain => exact effect_memSafe (State.lockLossRetrain_mem ..).safe rfl h
  | lanePhaseValid => exact effect_memSafe (State.lanePhaseValid_mem ..).safe rfl h
  | laneGrpDrainEnd => exact effect_memSafe (State.laneGrpDrainEnd_mem ..).safe rfl h
  | laneNoSignalTimeout => exact effect_memSafe (State.laneNoSignalTimeout_mem ..).safe rfl h
  | portJoin => exact effect_memSafe (State.portJoin_mem ..).safe rfl h
  | canaryWindow => exact effect_memSafe (State.canaryWindow_mem ..).safe rfl h
  | vddLowerTick => exact effect_memSafe (State.vddLowerTick_mem ..).safe rfl h
  | vscaleUnheldTimeout => exact effect_memSafe (State.vscaleUnheldTimeout_mem ..).safe rfl h
  | avsWriteDone => exact effect_memSafe (State.avsWriteDone_mem ..).safe rfl h
  | avsRetry => exact effect_memSafe (State.avsRetry_mem ..).safe rfl h
  | avsStatusRead | avsAlert => exact effect_memSafe (State.avsStatus_mem ..).safe rfl h
  | swCondChange => exact effect_memSafe (State.condSet_mem ..).safe rfl h
  | swCondClear => exact effect_memSafe (State.swCondClear_mem ..).safe rfl h
  | ingressFrame => exact effect_memSafe (State.ingressFrame_mem ..).safe rfl h
  | bpmAlloc => exact effect_memSafe (State.bpmAlloc_mem ..).safe rfl h
  | forwardLookup => exact effect_memSafe (State.forwardLookup_mem ..).safe rfl h
  | frameEligible => exact effect_memSafe (State.frameEligible_mem ..).safe rfl h
  | cbRecoveryReset => exact effect_memSafe (State.cbRecoveryReset_mem ..).safe rfl h
  | schedSelect => exact effect_memSafe (State.schedSelect_mem ..).safe rfl h
  | egressSfd => exact effect_memSafe (State.egressSfd_mem ..).safe rfl h
  | bpmFree => exact effect_memSafe (State.bpmFree_mem ..).safe rfl h
  | pauseReceive => exact effect_memSafe (State.pauseReceive_mem ..).safe rfl h
  | pfcRefresh => exact effect_memSafe (State.pfcRefresh_mem ..).safe rfl h
  | portHoldExpire => exact effect_memSafe (State.portHoldExpire_mem ..).safe rfl h
  | sqDeadlineExpire => exact effect_memSafe (State.sqDeadlineExpire_mem ..).safe rfl h
  | residenceExpire => exact effect_memSafe (State.residenceExpire_mem ..).safe rfl h
  | gateChange => exact effect_memSafe (State.gateChange_mem ..).safe rfl h
  | gclActivate => exact effect_memSafe (State.gclActivate_mem ..).safe rfl h
  | gclGet => exact effect_memSafe (State.gclGet_mem ..).safe rfl h
  | preemptVerify => exact effect_memSafe (State.preemptVerify_mem ..).safe rfl h
  | auditVisit => exact effect_memSafe (State.auditVisit_mem ..).safe rfl h
  | storeRebuildDone => exact effect_memSafe (State.storeRebuildDone_mem ..).safe rfl h
  | bpmCarve => exact effect_memSafe (State.bpmCarve_mem ..).safe rfl h
  | carveTakeEffect => exact effect_memSafe (State.carveTakeEffect_mem ..).safe rfl h
  | carveRollback => exact effect_memSafe (State.carveRollback_mem ..).safe rfl h
  | bpmAuditRun => exact effect_memSafe (State.bpmAuditRun_mem ..).safe rfl h
  | fdbLearn => exact effect_memSafe (State.fdbLearn_mem ..).safe rfl h
  | fdbAgeVisit => exact effect_memSafe (State.fdbAgeVisit_mem ..).safe rfl h
  | fdbAdd => exact effect_memSafe (State.fdbAdd_mem ..).safe rfl h
  | fdbDel => exact effect_memSafe (State.fdbDel_mem ..).safe rfl h
  | fdbLookup => exact effect_memSafe (State.fdbLookup_mem ..).safe rfl h
  | fdbFlush => exact effect_memSafe (State.fdbFlush_mem ..).safe rfl h
  | fdbVlanSet => exact effect_memSafe (State.fdbVlanSet_mem ..).safe rfl h
  | fdbMcgSet => exact effect_memSafe (State.fdbMcgSet_mem ..).safe rfl h
  | fdbClsSet => exact effect_memSafe (State.fdbClsSet_mem ..).safe rfl h
  | fdbClsDel => exact effect_memSafe (State.fdbClsDel_mem ..).safe rfl h
  | fdbCbSet => exact effect_memSafe (State.fdbCbSet_mem ..).safe rfl h
  | coreFault => exact effect_memSafe (State.coreFault_mem ..).safe rfl h
  | standbyTrackLoss => exact effect_memSafe (State.standbyTrackLoss_mem ..).safe rfl h
  | servoSample => exact effect_memSafe (State.servoSample_mem ..).safe rfl h
  | timeStep => exact effect_memSafe (State.timeStep_mem ..).safe rfl h
  | timeSet => exact effect_memSafe (State.timeSet_mem ..).safe rfl h
  | ptpMessageReceive => exact effect_memSafe (State.ptpMessageReceive_mem ..).safe rfl h
  | tchanSend => exact effect_memSafe (State.tchanSend_mem ..).safe rfl h
  | tchanQualify => exact effect_memSafe (State.tchanQualify_mem ..).safe rfl h
  | tchanTimeout => exact effect_memSafe (State.tchanTimeout_mem ..).safe rfl h
  | lnkPhaseUpdate => exact effect_memSafe (State.lnkPhaseUpdate_mem ..).safe rfl h
  | lnkHoldExpire => exact effect_memSafe (State.lnkHoldExpire_mem ..).safe rfl h
  | refCandSample => exact effect_memSafe (State.refCandSample_mem ..).safe rfl h
  | refQualTimer => exact effect_memSafe (State.refQualTimer_mem ..).safe rfl h
  | refHoldoffExpire => exact effect_memSafe (State.refHoldoffExpire_mem ..).safe rfl h
  | refWtrExpire => exact effect_memSafe (State.refWtrExpire_mem ..).safe rfl h
  | esmcReceive => exact effect_memSafe (State.esmcReceive_mem ..).safe rfl h
  | esmcTimeout => exact effect_memSafe (State.esmcTimeout_mem ..).safe rfl h
  | esmcSend => exact effect_memSafe (State.esmcSend_mem ..).safe rfl h
  | ppsInEdge => exact effect_memSafe (State.ppsInEdge_mem ..).safe rfl h
  | ppsInTimeout => exact effect_memSafe (State.ppsInTimeout_mem ..).safe rfl h
  | holdoverTick => exact effect_memSafe (State.holdoverTick_mem ..).safe rfl h
  | modelLearn => exact effect_memSafe (State.modelLearn_mem ..).safe rfl h
  | tempExtStale => exact effect_memSafe (State.tempExtStale_mem ..).safe rfl h
  | refCandSet => exact effect_memSafe (State.refCandSet_mem ..).safe rfl h
  | refRealign => exact effect_memSafe (State.refRealign_mem ..).safe rfl h
  | refMdlReset => exact effect_memSafe (State.refMdlReset_mem ..).safe rfl h
  | pllFreqAcquired => exact effect_memSafe (State.pllFreqAcquired_mem ..).safe rfl h
  | pllLock => exact effect_memSafe (State.pllLock_mem ..).safe rfl h
  | pllBypassEntry => exact effect_memSafe (State.pllBypassEntry_mem ..).safe rfl h
  | refclkLoss => exact effect_memSafe (State.refclkLoss_mem ..).safe rfl h
  | pllAutoReturn => exact effect_memSafe (State.pllAutoReturn_mem ..).safe rfl h
  | pllReturn => exact effect_memSafe (State.pllReturnCmd_mem ..).safe rfl h
  | pllRampLoad => exact effect_memSafe (State.pllRampLoad_mem ..).safe rfl h
  | rampStart | rampStopHold | rampStopZero => exact effect_memSafe (State.rampCtrl_mem ..).safe rfl h
  | rampSegmentEnd => exact effect_memSafe (State.rampSegmentEnd_mem ..).safe rfl h
  | pllAlign => exact effect_memSafe (State.pllAlign_mem ..).safe rfl h
  | ppsOutPulse => exact effectInReset_memSafe (State.ppsOutPulse_mem ..).safe rfl h
  | ppsPulseEnd => exact effectInReset_memSafe (State.ppsPulseEnd_mem ..).safe rfl h
  | gnssClockFault => exact effect_memSafe (State.gnssClockFault_mem ..).safe rfl h
  | gnssClockOk => exact effect_memSafe (State.gnssClockOk_mem ..).safe rfl h
  | gnssSampleCheck => exact effect_memSafe (State.gnssSampleCheck_mem ..).safe rfl h
  | gnssDwellStart => exact effect_memSafe (State.gnssDwellStart_mem ..).safe rfl h
  | gnssDwellEnd => exact effect_memSafe (State.gnssDwellEnd_mem ..).safe rfl h
  | gnssChLock => exact effect_memSafe (State.gnssChLock_mem ..).safe rfl h
  | gnssChPullinTimeout => exact effect_memSafe (State.gnssChPullinTimeout_mem ..).safe rfl h
  | gnssChDataSync => exact effect_memSafe (State.gnssChDataSync_mem ..).safe rfl h
  | gnssChLoss => exact effect_memSafe (State.gnssChLoss_mem ..).safe rfl h
  | gnssChRelease => exact effect_memSafe (State.gnssChRelease_mem ..).safe rfl h
  | gnssEpoch => exact effect_memSafe (State.gnssEpoch_mem ..).safe rfl h
  | gnssSolutionDone => exact effect_memSafe (State.gnssSolutionDone_mem ..).safe rfl h
  | gnssBurstStart => exact effect_memSafe (State.gnssBurstStart_mem ..).safe rfl h
  | gnssBurstEnd => exact effect_memSafe (State.gnssBurstEnd_mem ..).safe rfl h
  | gnssAutoAcqRound => exact effect_memSafe (State.gnssAutoAcqRound_mem ..).safe rfl h
  | gnssSectOut | gnssSectIn | gnssSectTest => exact effect_memSafe (State.gnssSect_mem ..).safe rfl h
  | gnssSectTestDone => exact effect_memSafe (State.gnssSectTestDone_mem ..).safe rfl h
  | gnssSurveyRestart | gnssSurveyEnd => exact effect_memSafe (State.gnssSurvey_mem ..).safe rfl h
  | ticArm => exact effect_memSafe (State.ticArm_mem ..).safe rfl h
  | ticStop => exact effect_memSafe (State.ticStop_mem ..).safe rfl h
  | ticEdge => exact effect_memSafe (State.ticEdge_mem ..).safe rfl h
  | ticRearm => exact effect_memSafe (((State.setTicCh_mem ..).step (State.ticSample_mem ..)).safe) rfl h
  | ticSampleTimeout => exact effect_memSafe (.ite ((State.ticAbandon_mem ..).step (State.ticSample_mem ..)).safe (.refl s)) rfl h
  | ticGateEdge => exact effect_memSafe (State.ticGateEdge_mem ..).safe rfl h
  | ticTbLoss => exact effect_memSafe (State.ticTbLoss_mem ..).safe rfl h
  | ticTbOk => exact effect_memSafe (State.ticTbOk_mem ..).safe rfl h
  | calJobEnd => exact effect_memSafe (State.calJobEnd_mem ..).safe rfl h
  | calJobTimeout => exact effect_memSafe (State.calJobTimeout_mem ..).safe rfl h
  | calTempStep => exact effect_memSafe (State.calTempStep_mem ..).safe rfl h
  | calStore => exact effect_memSafe (State.calStore_mem ..).safe rfl h
  | calStoreRetry => exact effect_memSafe (State.calStoreRetry_mem ..).safe rfl h
  | calSave => exact effect_memSafe (State.calSave_memSafe ..) rfl h
  | calReload => exact effect_memSafe (State.calReload_mem ..).safe rfl h
  | engWdogExpire | engFaultDetect => exact effect_memSafe (State.engFault_mem ..).safe rfl h
  | engTakeover => exact effect_memSafe (State.engTakeover_mem ..).safe rfl h
  | tchanPlaceRetry => exact effect_memSafe (State.tchanPlaceRetry_mem ..).safe rfl h
  | engOut => exact effect_memSafe (State.engOut_mem ..).safe rfl h
  | engDrainEnd => exact effect_memSafe ((State.engDrained_memSafe ..).step (State.heldGo_memSafe ..)) rfl h
  | engLoad => exact effect_memSafe (State.engLoad_mem ..).safe rfl h
  | engIn => exact effect_memSafe (State.engIn_mem ..).safe rfl h
  | engReplayDone => exact effect_memSafe (State.engReplayed_memSafe ..) rfl h
  | engTaskPin => exact effect_memSafe (State.engTaskPin_mem ..).safe rfl h
  | polSet => exact effect_memSafe (State.polSet_mem ..).safe rfl h
  | polGet => exact effect_memSafe (State.polGet_mem ..).safe rfl h
  | polSave => exact effect_memSafe (State.polSave_mem ..).safe rfl h
  | spadDma => exact effect_memSafe (State.spadDma_memSafe ..) rfl h
  | engImgCommit => exact effect_memSafe (State.engImgCommit_mem ..).safe rfl h
  | spadWindowWrite => exact effect_memSafe (State.spadPlain_memSafe ..) rfl h
  | spadSetAliasWrite | spadClearAliasWrite => exact effect_memSafe (State.spadWrite_memSafe ..) rfl h
  | spadToggleWrite => exact effect_memSafe (State.bump_mem ..).safe rfl h
  | spadBankTransitionDone => exact effect_memSafe (State.spadBankTransitionDone_memSafe ..) rfl h
  | perfPcWrap => exact effect_memSafe (State.perfPcWrap_mem ..).safe rfl h
  | perfSample => exact effect_memSafe (State.perfSampled_mem ..).safe rfl h
  | omdLaneUp => exact effect_memSafe (State.omdLaneUp_mem ..).safe rfl h
  | omdFrameBad => exact effect_memSafe (State.omdFrameBad_mem ..).safe rfl h
  | heartbeat => exact effect_memSafe (State.heartbeat_mem ..).safe rfl h
  | time => exact effect_memSafe (State.pairTime_mem ..).safe rfl h
  | fdbDelta | flowDelta | timeState | cbState | resyncBegin | resyncData | resyncEnd | role =>
    exact effect_memSafe (State.omdSeq_mem ..).safe rfl h
  | omdRetransmit => exact effect_memSafe (State.omdRetransmit_mem ..).safe rfl h
  | pairHbSend => exact effect_memSafe (State.pairHbSend_mem ..).safe rfl h
  | pairHbMissCheck => exact effect_memSafe (State.pairHbMissCheck_mem ..).safe rfl h
  | inbHeartbeatRx => exact effect_memSafe (State.inbHeartbeatRx_mem ..).safe rfl h
  | pairTimeSend => exact effect_memSafe (State.pairTimeSend_mem ..).safe rfl h
  | pairStateSend => exact effect_memSafe (State.pairStateSend_mem ..).safe rfl h
  | pairSearchTimeout => exact effect_memSafe (State.pairSearchTimeout_mem ..).safe rfl h
  | pairFlowTimeout => exact effect_memSafe (State.pairFlowTimeout_mem ..).safe rfl h
  | mirrorDeltaAge => exact effect_memSafe (State.mirrorDeltaAge_mem ..).safe rfl h
  | pairRehearse => exact effect_memSafe (State.pairRehearse_mem ..).safe rfl h
  | rehearsalEnd => exact effect_memSafe (State.rehearsalEnd_mem ..).safe rfl h
  | pairRehearseTimer => exact effect_memSafe (State.pairRehearseTimer_mem ..).safe rfl h
  | pairResync => exact effect_memSafe (State.pairResync_mem ..).safe rfl h
  | pairCbSet => exact effect_memSafe (State.pairCbSet_mem ..).safe rfl h
  | pwrEntryDrainEnd => exact effect_memSafe ((State.pwrEntryDrainEnd_memSafe ..).step (State.heldGo_memSafe ..)) rfl h
  | wakeNEvent | perstDeassert => exact effect_memSafe (State.wakeEvent_mem ..).safe rfl h
  | pwrWakeTimerMatch => exact effect_memSafe (State.pwrWakeTimerMatch_mem ..).safe rfl h
  | pwrWakeSupplyOk => exact effect_memSafe ((State.pwrWakeSupplyOk_memSafe ..).step (State.heldGo_memSafe ..)) rfl h
  | pwrWakeSupplyTimeout => exact effect_memSafe (State.pwrWakeSupplyTimeout_memSafe ..) rfl h
  | pwrSwitchGood => exact effect_memSafe ((State.pwrSwitchGood_memSafe ..).step (State.heldGo_memSafe ..)) rfl h
  | pwrSwitchTimeout => exact effect_memSafe ((State.pwrSwitchTimeout_memSafe ..).step (State.heldGo_memSafe ..)) rfl h
  | pwrWakeDone => exact effect_memSafe (State.pwrWakeDone_memSafe ..) rfl h
  | powerOnReset => exact effectInReset_memSafe (State.powerOnReset_memSafe ..) rfl h
  | bootStart => exact effectInReset_memSafe (State.bootStart_memSafe ..) rfl h
  | partReset => exact effect_memSafe (State.partReset_memSafe ..) rfl h
  | sysRstPart => exact effect_memSafe (State.sysRst_memSafe ..) rfl h
  | bootCommandRecord => exact effect_memSafe (State.bootCommandRecord_memSafe ..) rfl h
  | flashRead => exact effect_memSafe (State.flashReadCmd_memSafe ..) rfl h
  | flashWrite => exact effect_memSafe (State.flashWriteCmd_memSafe ..) rfl h
  | evtSuppressWindow => exact effect_memSafe (State.evtSuppressWindow_mem ..).safe rfl h
  | jtagUpdateIr => exact effectInReset_memSafe (State.jtagUpdateIr_mem ..).safe rfl h
  | pcieLinkDown => exact effect_memSafe (State.pcieLinkDown_mem ..).safe rfl h
  | refclkReturn => exact effect_memSafe (State.refclkReturn_mem ..).safe rfl h
  | omdLaneDown => exact effect_memSafe (State.omdLaneDown_mem ..).safe rfl h
  | gnssChRegain => exact effect_memSafe (State.gnssChRegain_mem ..).safe rfl h
  | standbyTrackAcquired => exact effect_memSafe (State.standbyTrackAcquired_mem ..).safe rfl h
  | pauseQuantaExpire => exact effect_memSafe (State.pauseQuantaExpire_mem ..).safe rfl h
  | rampClampReached => exact effect_memSafe (State.rampClampReached_mem ..).safe rfl h
  | gnssRfEnLead => exact effect_memSafe (State.gnssRfEnLead_mem ..).safe rfl h
  | hiberRetrain => exact effect_memSafe (State.hiberRetrain_mem ..).safe rfl h
  | scheduledRetrain => exact effect_memSafe (State.scheduledRetrain_mem ..).safe rfl h

/-- Settles O4: the queue and the identity by the shape of every answer, the byte memories by their lemma of every function. -/
theorem stepKeepsMemoryForm : Obligations.StepKeepsMemoryForm := by
  intro s t h
  unfold step at h
  split at h
  · next hq =>
    cases h
    have hvariant : s.idleTick.variant = s.variant := State.idleTick_touches (ps := Part.others .variant) s rfl .variant rfl
    have hfused : s.idleTick.fused = s.fused := State.idleTick_touches (ps := Part.others .fused) s rfl .fused rfl
    have hpending : s.idleTick.pending = s.pending := State.idleTick_touches (ps := Part.others .pending) s rfl .pending rfl
    exact ⟨⟨hvariant, hfused⟩, by rw [hpending, hq]; rfl, (State.idleTick_memSafe s).wf⟩
  · next c l hq =>
    obtain ⟨hid, hpend⟩ := exec_next h
    refine ⟨hid, ?_, (exec_memSafe h).wf⟩
    rw [hpend, hq]
    rfl

end Sys2Proof.Machine
end

section
/-! ## The end of CAL_SAVE at a second boundary (R333) -/

set_option Elab.async false

namespace Sys2Proof.Machine

/-- The SEC point and the units of a second before the save under way ends. -/
def State.beforeSave (s : State) : State :=
  ((s.secPoint.pairSwitch.pairSec.refSec.gnssModeSec).ppsSec.lnkSec).selSec

theorem State.beforeSave_mem (s : State) : MemKept s s.beforeSave :=
  (((((((State.secPoint_mem s).step (State.pairSwitch_mem _)).step (State.pairSec_mem _)).step (State.refSec_mem _)).step
    (State.gnssModeSec_mem _)).step (State.ppsSec_mem _)).step (State.lnkSec_mem _)).step (State.selSec_mem _)

theorem State.beforeSave_pers (s : State) : s.beforeSave.pers = s.pers := by
  have h : Touches (Part.others .pers) s s.beforeSave :=
    (((((((State.secPoint_touches s rfl).step (State.pairSwitch_touches _ rfl)).step (State.pairSec_touches _ rfl)).step
      (State.refSec_touches _ rfl)).step (State.gnssModeSec_touches _ rfl)).step (State.ppsSec_touches _ rfl)).step
      (State.lnkSec_touches _ rfl)).step (State.selSec_touches _ rfl)
  exact h .pers rfl

/-- The start of a second saves nothing. -/
theorem State.secStart_mem (s : State) : MemKept s s.secStart := by
  have hmark : MemKept s s.markSecond := State.markSecond_mem s
  exact .ite (hmark.step (State.swapCores_mem _)) (hmark.step (State.trackSec_mem _))

theorem State.secStart_pers (s : State) : s.secStart.pers = s.pers := by
  have hmark : Touches (Part.others .pers) s s.markSecond := State.markSecond_touches s rfl
  have h : Touches (Part.others .pers) s s.secStart :=
    Touches.ite (hmark.step (State.swapCores_touches _ rfl)) (hmark.step (State.trackSec_touches _ rfl))
  exact h .pers rfl

theorem State.calSaveSlot_of {s t : State} (hkept : MemKept s t) (hpers : t.pers = s.pers) : t.calSaveSlot = s.calSaveSlot := by
  rw [State.calSaveSlot, State.calSaveSlot, State.calNewSlot_of hpers hkept.straps hkept.slotA hkept.slotB]

theorem State.setCalSlot_slot (s : State) (b : Bool) (x : CalSlot) : (s.setCalSlot b x).calSlot b = x := by
  cases b <;> rfl

/-- The save ends: its slot holds a valid image and its command completes. -/
theorem State.calSaveEnd_gives {s : State} {d : CmdDesc} (hsave : s.cal.saving = some d) :
    s.calSaveEnd.cal.saving = none ∧ (s.calSaveEnd.calSlot s.calSaveSlot).valid = true ∧ ∃ r, Completed d 0xC601 .ok 0 r s.calSaveEnd := by
  unfold State.calSaveEnd
  rw [hsave]
  extract_lets b n s1 s2 s3
  have hslot : s1.calSlot b = { nodes := s.cal.nodes.filter (fun e => decide (e.1.target ≤ 2)), valid := true } := s.setCalSlot_slot b _
  have hkept : MemKept s1 s3 :=
    (MemKept.foldl (fun (u : State) t => State.calTry_mem u (32 + t) (u.calDirWord t)) [0, 1, 2] (.refl s1)).step (State.calTry_mem _ _ _)
  have hsame : s3.calSlot b = s1.calSlot b := by rw [State.calSlot, State.calSlot, hkept.slotA, hkept.slotB]
  clear_value s3
  refine ⟨rfl, ?_, _, rfl⟩
  show (s3.calSlot b).valid = true
  rw [hsame, hslot]

theorem State.waitingSteps_idle {s : State} (h : s.tcore.steps = []) : s.waitingSteps = s.stepsTaken := by
  rw [State.waitingSteps, h]
  rfl

/-- R333: the second boundary ends the save under way. -/
theorem State.secondBoundary_saves {s : State} {d : CmdDesc} (hsteps : s.tcore.steps = []) (hsave : s.cal.saving = some d) :
    s.secondBoundary.cal.saving = none ∧ (s.secondBoundary.calSlot s.calSaveSlot).valid = true ∧
      ∃ r, Completed d 0xC601 .ok 0 r s.secondBoundary := by
  have hat : MemKept s s.atBoundary := .upd (.refl s)
  have hpersAt : s.atBoundary.pers = s.pers := rfl
  have hkept : MemKept s s.atBoundary.secStart.beforeSave := (hat.step (State.secStart_mem _)).step (State.beforeSave_mem _)
  have hpers : s.atBoundary.secStart.beforeSave.pers = s.pers :=
    (State.beforeSave_pers _).trans ((State.secStart_pers _).trans hpersAt)
  have hrun : s.secondBoundary = s.atBoundary.secStart.beforeSave.calSaveEnd.stepsTaken :=
    s.secondBoundary_eq.trans (State.waitingSteps_idle (s.boundary_steps.trans hsteps))
  generalize s.atBoundary.secStart.beforeSave = u at *
  have hgives := State.calSaveEnd_gives (hkept.saving.trans hsave)
  rw [State.calSaveSlot_of hkept hpers] at hgives
  rw [hrun]
  exact hgives

end Sys2Proof.Machine
end

section
/-! ## Calibration jobs, what they store, and the commands of CAL (R327 to R337) -/

set_option Elab.async false

namespace Sys2Proof.Machine

/-- A job ends as LOST, FAILED, MEASURED or APPLIED (R327, R330). -/
theorem State.calJobEnd_gives {s : State} {j q : Nat} {a b temp : Int} {codes : List Int} (hobj : (s.obj? .cal j).isSome = true)
    (hrun : (s.calJob j).running = true) (hwait : (s.calJob j).waitBlock = false) {t : State} (ht : s.calJobEnd j q a b codes temp = t) :
      (s.calHolds (s.calTarget j) (s.calInst j) = false →
        (t.calJob j).outcome = 4 ∧ (t.calJob j).quality = (s.calJob j).quality ∧ t.cal.nodes = s.cal.nodes ∧
        t.count Fld.calAbortCnt_VAL = s.counted Fld.calAbortCnt_VAL) ∧
      (s.calHolds (s.calTarget j) (s.calInst j) = true → s.calPass (s.calTarget j) q = false →
        (t.calJob j).outcome = 2 ∧ (t.calJob j).quality = q ∧ (t.calJob j).temp = temp ∧ t.cal.nodes = s.cal.nodes) ∧
      (s.calHolds (s.calTarget j) (s.calInst j) = true → s.calPass (s.calTarget j) q = true → s.calApplies j = false →
        (t.calJob j).outcome = 1 ∧ (t.calJob j).quality = q ∧ (t.calJob j).temp = temp ∧ t.cal.nodes = s.cal.nodes ∧
        (t.calJob j).result = s.calResult (s.calTarget j) (s.calInst j) a) ∧
      (∀ k, s.calHolds (s.calTarget j) (s.calInst j) = true → s.calPass (s.calTarget j) q = true → s.calApplies j = true →
        s.calTarget j ≤ 2 → calNearNode temp = some k →
        (t.calJob j).outcome = 0 ∧ (t.calJob j).quality = q ∧ (t.calJob j).node = k ∧
        t.cal.nodes = Tab.set s.cal.nodes ⟨s.calTarget j, s.calInst j, k⟩ (s.calApplied j q a b codes)) ∧
      (t.calJob j).running = false ∧ (∀ i, i ≠ j → t.calJob i = s.calJob i) := by
  subst ht
  cases hholds : s.calHolds (s.calTarget j) (s.calInst j)
  case false =>
    rw [State.calJobEnd_lost hobj hrun hwait hholds]
    have hjob := s.calFinish_job j 4 false
    refine ⟨fun _ => ⟨by rw [hjob]; rfl, by rw [hjob]; rfl, s.calFinish_nodes j 4 false, s.calFinish_counted j 4 false (by decide)⟩,
      fun h => absurd h (by decide), fun h => absurd h (by decide), fun _ h => absurd h (by decide), by rw [hjob]; rfl,
      fun i hi => s.calFinish_otherJob j 4 false hi⟩
  case true =>
    rw [State.calJobEnd_judged hobj hrun hwait hholds]
    have hcal := (s.calJudged j q a b codes temp).sampleAfter_cal (s.calTarget j = 2) (s.calInst j)
    generalize (if s.calTarget j = 2 then _ else _) = t at hcal ⊢
    have hjobs : ∀ i, t.calJob i = (s.calJudged j q a b codes temp).calJob i := fun i => by rw [State.calJob, State.calJob, hcal]
    have hm : (s.calMeasured j q a temp).calJob j = _ := State.calMeasured_job
    have hother : ∀ i, i ≠ j → (s.calMeasured j q a temp).calJob i = s.calJob i := fun i hi => State.calMeasured_otherJob hi
    have hnodes : (s.calMeasured j q a temp).cal.nodes = s.cal.nodes := rfl
    refine ⟨fun h => absurd h (by decide), fun _ hfail => ?_, fun _ hpass hdry => ?_, fun k _ hpass happly htgt hnear => ?_, ?_⟩
    · have hrun : s.calJudged j q a b codes temp = (s.calMeasured j q a temp).calFinish j 2 := if_pos (by rw [hfail]; rfl)
      rw [hjobs, hcal, hrun, State.calFinish_job, State.calFinish_nodes, hm]
      exact ⟨rfl, rfl, rfl, hnodes⟩
    · have hrun : s.calJudged j q a b codes temp = (s.calMeasured j q a temp).calFinish j 1 :=
        (if_neg (by rw [hpass]; decide)).trans (if_pos (by rw [hdry]; rfl))
      rw [hjobs, hcal, hrun, State.calFinish_job, State.calFinish_nodes, hm]
      exact ⟨rfl, rfl, rfl, hnodes, rfl⟩
    · have hrun : s.calJudged j q a b codes temp = (s.calMeasured j q a temp).calStoreResult j (s.calApplied j q a b codes) :=
        (if_neg (by rw [hpass]; decide)).trans (if_neg (by rw [happly]; decide))
      obtain ⟨hset, hjob⟩ := State.calStoreResult_node (s := s.calMeasured j q a temp) (j := j) (k := k) (n := s.calApplied j q a b codes) htgt
        (by rw [hm]; exact hnear)
      rw [hjobs, hcal, hrun, hset, hjob, hm]
      exact ⟨rfl, rfl, rfl, rfl⟩
    · have hends : ((s.calJudged j q a b codes temp).calJob j).running = false ∧
          ∀ i, i ≠ j → (s.calJudged j q a b codes temp).calJob i = (s.calMeasured j q a temp).calJob i := by
        have hfinish : ∀ o, (((s.calMeasured j q a temp).calFinish j o).calJob j).running = false ∧
            ∀ i, i ≠ j → ((s.calMeasured j q a temp).calFinish j o).calJob i = (s.calMeasured j q a temp).calJob i := fun o =>
          ⟨by rw [State.calFinish_job]; rfl, fun i hi => State.calFinish_otherJob _ j o false hi⟩
        unfold State.calJudged
        split
        · exact hfinish 2
        split
        · exact hfinish 1
        · exact (s.calMeasured j q a temp).calStoreResult_jobs j _
      exact ⟨by rw [hjobs, hends.1], fun i hi => by rw [hjobs, hends.2 i hi, hother i hi]⟩

/-- TIME_LIMIT has passed (R327). -/
theorem State.calJobTimeout_gives {s : State} {j : Nat} (hobj : (s.obj? .cal j).isSome = true) (hrun : (s.calJob j).running = true) :
    (s.calJobTimeout j).calJob j = (s.calJob j).ended (if s.calHolds (s.calTarget j) (s.calInst j) then 3 else 4) ∧
    (s.calJobTimeout j).count Fld.calAbortCnt_VAL = s.counted Fld.calAbortCnt_VAL ∧
    (∀ i, i ≠ j → (s.calJobTimeout j).calJob i = s.calJob i) := by
  have hfinal : ∀ o, 3 ≤ o → s.calJobTimeout j = (if s.calTarget j = 2 then (s.calFinish j o).ticSample (s.calInst j) else s.calFinish j o) →
      (s.calJobTimeout j).calJob j = (s.calJob j).ended o ∧
      (s.calJobTimeout j).count Fld.calAbortCnt_VAL = s.counted Fld.calAbortCnt_VAL ∧
      (∀ i, i ≠ j → (s.calJobTimeout j).calJob i = s.calJob i) := fun o ho hrun => by
    have hcal := (s.calFinish j o).sampleAfter_cal (s.calTarget j = 2) (s.calInst j)
    have htic : Touches [.tic] (s.calFinish j o) (if s.calTarget j = 2 then (s.calFinish j o).ticSample (s.calInst j) else s.calFinish j o) :=
      Touches.ite (State.ticSample_touches _ _ rfl) (Touches.refl _ _)
    rw [hrun]
    generalize (if s.calTarget j = 2 then _ else _) = t at hcal htic ⊢
    have hjobs : ∀ i, t.calJob i = (s.calFinish j o).calJob i := fun i => by rw [State.calJob, State.calJob, hcal]
    refine ⟨by rw [hjobs, State.calFinish_job], ?_, fun i hi => by rw [hjobs, State.calFinish_otherJob s j o false hi]⟩
    rw [State.count_of_rc (htic (.rc .calAbortCnt) rfl)]
    exact s.calFinish_counted j o false ho
  have hsome : ¬ (s.obj? .cal j).isNone = true := by simpa using Option.isSome_iff_ne_none.mp hobj
  cases hholds : s.calHolds (s.calTarget j) (s.calInst j)
  case true =>
    refine hfinal 3 (by decide) ?_
    have hcheck : s.calCheckLost j = s := if_neg (by rw [hrun, hholds]; decide)
    have habort : s.calAbort j = s.calFinish j 3 := if_pos hrun
    rw [State.calJobTimeout, if_neg hsome, hcheck, State.calAbortJob, habort]
  case false =>
    refine hfinal 4 (by decide) ?_
    have hcheck : s.calCheckLost j = s.calFinish j 4 := if_pos (by rw [hrun, hholds]; decide)
    have habort : (s.calFinish j 4).calAbort j = s.calFinish j 4 := if_neg (by rw [State.calFinish_job]; exact Bool.false_ne_true)
    have hobjs : (s.calFinish j 4).objs = s.objs := State.calFinish_touches (ps := Part.others .objs) s j 4 _ rfl .objs rfl
    have hobj' : (s.calFinish j 4).obj .cal j = s.obj .cal j := by rw [State.obj, State.obj, hobjs]
    rw [State.calJobTimeout, if_neg hsome, hcheck, State.calAbortJob, habort, State.calTarget, State.calInst, hobj']
    rfl

/-- Settles O49: a job's end by its four outcomes, the stores by the one word they try, CAL_SAVE's end by what the second keeps before it. -/
theorem calibration : Obligations.Calibration := by
  unfold Obligations.Calibration
  refine ⟨?jobEnd, ?timeout, ?temp, ?store, ?retry, ?save, ?second, ?reload⟩
  case jobEnd =>
    intro s j q a b temp codes hup hwf hobj hrun hwait
    obtain ⟨hlost, hfail, hdry, happly, hdone, hother⟩ :=
      State.calJobEnd_gives (q := q) (a := a) (b := b) (temp := temp) (codes := codes) hobj hrun hwait rfl
    have hframe : Touches (evtParts ++ [Part.regs, .pers, .tic, .cal, .rc .calAbortCnt, .rc .calStoreFail]) s (s.calJobEnd j q a b codes temp) :=
      State.calJobEnd_touches s j q a b codes temp rfl
    have hexec : exec (.calJobEnd j q a b codes temp) s = effect (calJob j && decide (codes = [] ∨ codes.length = 32 ∨ codes.length = 1024)) s
      (s.calJobEnd j q a b codes temp) := rfl
    generalize s.calJobEnd j q a b codes temp = t at *
    refine gives_effect hexec hup hwf ⟨hlost, hfail, hdry, fun k h1 h2 h3 h4 h5 _ => ?_, hdone, hother, hframe.carry⟩
    obtain ⟨hout, hq, hk, hnodes⟩ := happly k h1 h2 h3 h4 h5
    have hres : s.calResult (s.calTarget j) (s.calInst j) a = a := by
      rw [State.calResult, if_neg (by omega), if_neg (by omega)]
    have hnodes' : (t.carry s).cal.nodes = Tab.set s.cal.nodes ⟨s.calTarget j, s.calInst j, k⟩ (s.calApplied j q a b codes) := hnodes
    refine ⟨hout, hq, hk, ?_, fun x hx => ?_⟩
    · rw [hnodes', Tab.find_set_self, State.calApplied, hres]
    · rw [hnodes']
      exact Tab.find_set_ne _ _ _ _ hx
  case timeout =>
    intro s j hup hwf hobj hrun
    obtain ⟨hjob, hcount, hother⟩ := State.calJobTimeout_gives hobj hrun
    exact gives_effect rfl hup hwf ⟨hjob, hcount, hother, (State.calJobTimeout_touches s j rfl).carry⟩
  case temp =>
    intro s temp hup
    have hset : SetsKept { s with cal := { s.cal with temp := temp } } (s.calTempStep temp) :=
      SetsKept.foldl (fun (t : State) (x : Nat × Nat) => t.calRecompute_sets x.1 x.2) _ _
    exact gives_effect rfl hup rfl ⟨hset.2.2, hset.2.1, hset.1, (State.calTempStep_touches s temp rfl).carry⟩
  case store =>
    intro s w v hup hw hwait hok
    let u : State := { s with cal := { s.cal with recent := s.cal.recent.filter (fun x => x != w), waiting := [] } }
    have hrun : s.calStore w = u.calPut w v := by
      simp only [State.calStore, hwait, List.find?_cons, beq_self_eq_true, List.filter_cons, bne_self_eq_false, List.filter_nil, Bool.false_eq_true,
        if_false]
      rfl
    have hframe : Touches (evtParts ++ [Part.pers, .cal, .rc .calStoreFail]) s (s.calStore w) := State.calStore_touches s w rfl
    obtain ⟨hself, -⟩ := State.calTry_ok (s := u) (w := w) (v := v) hok
    have hwords : ∀ x, x ≠ w → (x < 34 ∨ 37 < x) → (u.calPut w v).pers! x = s.pers! x := fun x hne hx =>
      (State.calPut_word (.inr hx)).trans (State.calTry_ne u w v hne)
    have hself' : (u.calPut w v).pers! w = v := (State.calPut_word (.inl rfl)).trans hself
    have hwaits : calWordTarget w = none → (u.calPut w v).cal.waiting = [] := fun h => by
      rw [State.calPut_plain h]
      exact u.calTry_waiting w v
    have hexec : exec (.calStore w) s = effect (persNo w) s (s.calStore w) := rfl
    rw [hrun] at hexec hframe
    generalize u.calPut w v = t at *
    exact gives_effect hexec hup (by simp [persNo, hw]) ⟨hself', hwaits, hwords, hframe.carry⟩
  case retry =>
    intro s w v hup hw hretry
    have hrun : s.calStoreRetry w = s.calPut w v := by
      simp only [State.calStoreRetry, hretry, List.find?_cons, beq_self_eq_true]
    have hframe : Touches (evtParts ++ [Part.pers, .cal, .rc .calStoreFail]) s (s.calStoreRetry w) := State.calStoreRetry_touches s w rfl
    have hfilter : s.cal.retry.filter (fun e => e.1 != w) = [] := by rw [hretry]; simp
    refine gives_effect rfl hup (by simp [persNo, hw]) ⟨fun hok => ?_, fun hbusy hno => ?_, fun hworn hno => ?_, hframe.carry⟩
    · obtain ⟨hself, hgone⟩ := State.calTry_ok hok
      refine ⟨?_, fun hno => ?_⟩
      · show (s.calStoreRetry w).pers! w = v
        rw [hrun, State.calPut_word (.inl rfl), hself]
      · show (s.calStoreRetry w).cal.retry = []
        rw [hrun, State.calPut_plain hno, hgone, hfilter]
    · obtain ⟨hpers, hagain⟩ := State.calTry_busy hbusy
      rw [hfilter] at hagain
      rw [hrun, State.calPut_plain hno]
      exact ⟨hpers, hagain⟩
    · rw [hrun, State.calPut_plain hno]
      exact State.calTry_worn hworn
  case save =>
    intro s d hup hwf hacc
    have hrun : s.calSave d = _ := State.runCmd_accepted_free hacc rfl
    have hframe : Touches (cplParts ++ [Part.cal]) s (s.calSave d) := State.calSave_touches s d rfl
    have hcal : (s.startCmd d).cal = s.cal := s.startCmd_cal d
    have hboot : (s.startCmd d).boot = s.boot := s.startCmd_boot d
    have hlast := s.startCmd_lastCpl d
    have hnew : (s.startCmd d).calNewSlot = s.calNewSlot := State.calNewSlot_of (s.startCmd_pers d) (congrArg BootState.straps hboot)
      (congrArg CalState.slotA hcal) (congrArg CalState.slotB hcal)
    generalize s.startCmd d = u at *
    rw [hboot, hcal] at hrun
    have hexec : exec (.calSave d) s = effect d.wf s (s.calSave d) := rfl
    refine gives_effect hexec hup hwf ⟨fun hno => ?_, fun hflash hbusy => ?_, fun b hflash hidle hb => ?_, hframe.carry⟩
    · rw [hrun, if_pos hno]
      exact ⟨hcal, rfl⟩
    · rw [hrun, if_neg (by rw [hflash]; exact Bool.false_ne_true), if_pos (Option.isSome_iff_ne_none.mpr hbusy)]
      exact ⟨hcal, rfl⟩
    · rw [hrun, if_neg (by rw [hflash]; exact Bool.false_ne_true), if_neg (by rw [hidle]; exact Bool.false_ne_true), State.calSaveSlot, hnew, ← hb]
      cases b
      · exact ⟨rfl, rfl, (congrArg CalState.slotB hcal :), (congrArg CalState.nodes hcal :), hlast⟩
      · exact ⟨rfl, rfl, (congrArg CalState.slotA hcal :), (congrArg CalState.nodes hcal :), hlast⟩
  case second =>
    intro s d hup hready hsteps hsave
    have hgives := State.secondBoundary_saves hsteps hsave
    have hframe := s.secondBoundary_touches (ps := secParts) rfl
    have hexec := State.exec_secondBoundary hup hready
    generalize s.secondBoundary = t at *
    obtain ⟨hdone, hslot, hlast⟩ := hgives
    exact gives_effectInReset hexec rfl ⟨hdone, hslot, hlast, hframe.carry⟩
  case reload =>
    intro s d hup hwf hacc
    have hrun : s.calReload d = _ := State.runCmd_accepted_free hacc rfl
    have hframe : Touches (evtParts ++ cplParts ++ [Part.regs, .ref, .cal]) s (s.calReload d) := State.calReload_touches s d rfl
    have hcal : (s.startCmd d).cal = s.cal := s.startCmd_cal d
    have hpers : (s.startCmd d).pers = s.pers := s.startCmd_pers d
    have href : (s.startCmd d).ref = s.ref := s.startCmd_ref d
    have hclk : (s.startCmd d).clk = s.clk := s.startCmd_clk d
    have htcore : (s.startCmd d).tcore = s.tcore := s.startCmd_tcore d
    have hset : ∀ a, (s.startCmd d).calSetState a = s.calSetState a := fun a => by rw [State.startCmd_eq]; rfl
    have hstored : ∀ a i, (s.startCmd d).calStored a i = s.calStored a i := fun a i => by rw [State.startCmd_eq]; rfl
    have hmodel : (s.startCmd d).calStoredModel = s.calStoredModel := by rw [State.startCmd_eq]; rfl
    have hraise : ((s.startCmd d).raise Ev.calSetBad (d.arg 12 1)).evt = (s.raise Ev.calSetBad (d.arg 12 1)).evt :=
      (Touches.sameEvt (State.startCmd_touches (ps := cplParts) s d rfl) rfl).raise_evt _ _ _ _
    generalize s.startCmd d = u at *
    rw [hset, htcore, hclk] at hrun
    have hexec : exec (.calReload d) s = effect d.wf s (s.calReload d) := rfl
    refine gives_effect hexec hup hwf ⟨fun h6 hout hact => ?_, fun h6 hbusy => ?_, fun h6 hnone => ?_, fun h6 hbad => ?_, fun h5 hgood => ?_,
      fun h5 hgood => ?_, hframe.carry⟩
    · rw [hrun, if_pos h6, if_neg (by rw [hout, hact]; cases (d.arg 14 2 == 1) <;> decide), hcal]
      exact ⟨rfl, rfl⟩
    · rw [hrun, if_pos h6, if_pos (by rcases hbusy with h | h <;> simp [h])]
      exact ⟨hcal, rfl⟩
    · rw [hrun, if_neg h6, hnone]
      exact ⟨hcal, href, rfl⟩
    · rw [hrun, if_neg h6, hbad]
      have hkept : (u.raise Ev.calSetBad (d.arg 12 1)).cal = u.cal := State.raise_touches (ps := Part.others .cal) u _ _ _ _ rfl .cal rfl
      exact ⟨hkept.trans hcal, hraise, rfl⟩
    · rw [hrun, if_neg (by omega), h5, hgood]
      refine ⟨?_, hcal, rfl⟩
      rw [← hmodel, ← href]
      rfl
    · rw [hrun, if_neg (by omega), hgood, ← hstored, ← hcal]
      exact ⟨u.calLoad_nodes (by omega), rfl⟩

end Sys2Proof.Machine
end

section
/-! SUPPORT. What the boot chain leaves of PLL-E and of the interval counter: the references that go and the lanes that retrain reach
PLL-A and PLL-B alone, and a lane that is lost ends calibration jobs only where one runs. -/

set_option Elab.async false

namespace Sys2Proof.Machine

/-! ### PLL-E and the presence of REF_CLK -/

/-- The state of PLL-E and the presence of REF_CLK are the same in both states. -/
structure PllEKept (s t : State) : Prop where
  st : (t.pllOf 3).st = (s.pllOf 3).st
  refclk : t.pll.refclkOk = s.pll.refclkOk

theorem PllEKept.refl (s : State) : PllEKept s s := ⟨rfl, rfl⟩

theorem PllEKept.step {s t u : State} (h : PllEKept s t) (k : PllEKept t u) : PllEKept s u :=
  ⟨k.st.trans h.st, k.refclk.trans h.refclk⟩

theorem PllEKept.upd {s t u : State} (h : PllEKept s t) (hpll : u.pll = t.pll := by rfl) : PllEKept s u :=
  h.step ⟨by rw [State.pllOf_of_pll hpll], congrArg PllState.refclkOk hpll⟩

theorem PllEKept.quiet {s t : State} (h : Touches (Part.others .pll) s t) : PllEKept s t := .upd (.refl s) (h .pll rfl)

theorem PllEKept.ite {s t u : State} {c : Prop} [Decidable c] (h : PllEKept s t) (k : PllEKept s u) : PllEKept s (if c then t else u) := by
  split <;> assumption

theorem PllEKept.foldl {α : Type} {f : State → α → State} (hf : ∀ s x, PllEKept s (f s x)) (l : List α) {s t : State}
    (h : PllEKept s t) : PllEKept s (l.foldl f t) := by
  induction l generalizing t with
  | nil => exact h
  | cons x l ih => exact ih (h.step (hf t x))

theorem PllEKept.haveS {s t u : State} (h : PllEKept s t) (k : PllEKept s t → PllEKept s u) : PllEKept s u := k h

theorem PllEKept.setPll (s : State) {x : Nat} (hx : x ≠ 3) (p : Pll) : PllEKept s (s.setPll x p) :=
  ⟨by rw [State.setPll_pllOf_ne s (Ne.symm hx)], rfl⟩

theorem PllEKept.goPll (s : State) {x : Nat} (hx : x ≠ 3) (st : PllSt) : PllEKept s (s.goPll x st) :=
  (PllEKept.setPll s hx _).step (.quiet (State.raiseIf_touches _ _ _ _ _ _ rfl))

theorem State.pllToBypass_pllE (s : State) {x : Nat} (hx : x ≠ 3) (cause : Nat) (e : Int) : PllEKept s (s.pllToBypass x cause e) := by
  rw [State.pllToBypass_eq, if_neg hx]
  have hset : PllEKept s (s.bypassPrep x cause e) := .setPll s hx _
  have hcounted := (hset.step (.quiet (State.bump_touches _ Fld.pllCnt_BYP x 1 rfl))).step
    (.quiet (State.bump_touches _ Fld.pllCnt_UNLOCK x (b2n (cause == 2)) rfl))
  exact (hcounted.step (.goPll _ hx _)).step (.quiet (State.raise_touches _ _ _ _ _ rfl))

theorem State.pllInputLost_pllE (s : State) (id : Nat) : PllEKept s (s.pllInputLost id) := by
  have hone : ∀ (u : State) (x : Nat), x ≠ 3 → PllEKept u
      (if u.pllSrc x ≠ 1 ∨ u.ap Fld.pllSrcCand_VAL x ≠ id then u
       else if (u.pllOf x).st = .locked then u.pllToBypass x 1 (u.pllOf x).phErr
       else if (u.pllOf x).st = .bypass then u.setPll x { u.pllOf x with bg := .acq } else u) := fun u x hx =>
    .ite (.refl u) (.ite (u.pllToBypass_pllE hx 1 _) (.ite (.setPll u hx _) (.refl u)))
  exact (hone s 1 (by decide)).step (hone _ 2 (by decide))

theorem State.setCandSt_pllE s a1 a2 a3 : PllEKept s (State.setCandSt s a1 a2 a3) := by
  unfold State.setCandSt
  extract_lets -merge -underBinder t0 t1 t2 t3 t4
  clear_value t0 t1
  refine .haveS (t := t2) (.quiet (State.raiseIf_touches _ _ _ _ _ _ rfl)) fun ht2 => ?_
  clear_value t2
  refine .haveS (t := t4) (.upd ht2) fun ht4 => ?_
  clear_value t4
  exact .ite (ht4.step (State.pllInputLost_pllE _ _)) ht4

theorem State.markSel_pllE s a1 a2 : PllEKept s (State.markSel s a1 a2) := by
  unfold State.markSel
  split
  · exact .refl _
  · extract_lets -merge -underBinder t0 t1 t2
    clear_value t0
    refine .haveS (t := t1) (State.setCandSt_pllE _ _ _ _) fun ht1 => ?_
    clear_value t1
    refine .haveS (t := t2) (.ite (State.setCandSt_pllE _ _ _ _) (.ite (State.setCandSt_pllE _ _ _ _) (.refl _))) fun ht2 => ?_
    clear_value t2
    exact .ite (.ite (ht1.step (.quiet (State.setChanSt_touches _ _ _ rfl))) ht1) (.ite (ht2.step (.quiet (State.setChanSt_touches _ _ _
        rfl))) ht2)

theorem State.selectF_pllE s a1 : PllEKept s (State.selectF s a1) := by
  unfold State.selectF
  extract_lets -merge -underBinder t0 t1 t2 t3 t4
  clear_value t0
  refine .haveS (t := t1) (State.markSel_pllE _ _ _) fun ht1 => ?_
  clear_value t1
  refine .haveS (t := t3) (.upd ht1) fun ht3 => ?_
  clear_value t3
  refine .haveS (t := t4) (ht3.step (State.markSel_pllE _ _ _)) fun ht4 => ?_
  clear_value t4
  exact ((ht4.step (.quiet (State.raise_touches _ _ _ _ _ rfl))).step (.quiet (State.updateClass_touches _ rfl))).step (.quiet
      (State.freerunRate_touches _ rfl))

theorem State.selectT_pllE s a1 : PllEKept s (State.selectT s a1) := by
  unfold State.selectT
  extract_lets -merge -underBinder t0 t1 t2 t3 t4
  clear_value t0
  refine .haveS (t := t1) (State.markSel_pllE _ _ _) fun ht1 => ?_
  clear_value t1
  refine .haveS (t := t3) (.upd ht1) fun ht3 => ?_
  clear_value t3
  refine .haveS (t := t4) (ht3.step (State.markSel_pllE _ _ _)) fun ht4 => ?_
  clear_value t4
  exact (ht4.step (.quiet (State.raise_touches _ _ _ _ _ rfl))).step (.quiet (State.updateClass_touches _ rfl))

theorem State.selectBias_pllE s a1 a2 : PllEKept s (State.selectBias s a1 a2) := by
  unfold State.selectBias
  extract_lets -merge -underBinder t0 t1
  refine .haveS (t := t0) (State.selectT_pllE _ _) fun ht0 => ?_
  clear_value t0
  exact (PllEKept.upd ht0).step (.quiet (State.timeStateOut_touches _ rfl))

theorem State.takeT_pllE s a1 : PllEKept s (State.takeT s a1) := by
  unfold State.takeT
  refine .ite ?_ ?_
  · exact State.selectT_pllE _ _
  · split
    · exact (State.selectBias_pllE _ _ _).step (.quiet (State.setTstate_touches _ _ _ rfl))
    · exact State.selectT_pllE _ _
    · extract_lets -merge -underBinder t0 t1
      clear_value t0
      refine .haveS (t := t1) (State.selectBias_pllE _ _ _) fun ht1 => ?_
      clear_value t1
      exact .ite (ht1.step (.quiet (State.setTstate_touches _ _ _ rfl))) (ht1.step (.quiet (State.setStepPending_touches _ _ _ rfl)))
    · extract_lets -merge -underBinder t2 t3 t4
      clear_value t2
      refine .haveS (t := t3) ((State.selectBias_pllE _ _ _).step (.quiet (State.startThaw_touches _ rfl))) fun ht3 => ?_
      clear_value t3
      exact .ite (.ite ((PllEKept.upd ht3).step (.quiet (State.timeStateOut_touches _ rfl))) (.ite (.refl _) (.quiet
          (State.setStepPending_touches _ _ _ rfl)))) (State.selectBias_pllE _ _ _)

theorem State.loseT_pllE s : PllEKept s (State.loseT s) := by
  unfold State.loseT
  extract_lets -merge -underBinder t0 t1 t2
  refine .haveS (t := t0) (State.selectT_pllE _ _) fun ht0 => ?_
  clear_value t0
  refine .haveS (t := t2) ((PllEKept.upd ht0).step (.quiet (State.timeStateOut_touches _ rfl))) fun ht2 => ?_
  clear_value t2
  split
  · exact ht2
  · exact ht2
  · exact .ite (ht2.step (.quiet (State.setTstate_touches _ _ _ rfl))) (ht2.step (.quiet (State.setTstate_touches _ _ _ rfl)))
  · exact ht2.step (.quiet (State.setTstate_touches _ _ _ rfl))

theorem State.reselect_pllE s : PllEKept s (State.reselect s) := by
  unfold State.reselect
  extract_lets -merge -underBinder t0 t1 t2 t3
  refine .haveS (t := t0) ?_ fun ht0 => ?_
  · unfold t0
    split
    · extract_lets -merge -underBinder t4
      exact .ite (.refl _) ((PllEKept.upd (.refl _)).step (.quiet (State.timeStateOut_touches _ rfl)))
    · exact .refl _
  clear_value t0 t1
  refine .haveS (t := t2) (.ite ht0 (ht0.step (State.selectF_pllE _ _))) fun ht2 => ?_
  clear_value t2 t3
  refine .ite ?_ ?_
  · exact ht2
  · split
    · exact ht2.step (State.takeT_pllE _ _)
    · exact ht2.step (State.loseT_pllE _)

theorem State.candFail_pllE s a1 a2 : PllEKept s (State.candFail s a1 a2) := by
  unfold State.candFail
  extract_lets -merge -underBinder t0 t1 t2
  clear_value t0
  refine .haveS (t := t2) (.upd (.refl _)) fun ht2 => ?_
  clear_value t2
  split
  · exact (ht2.step (State.setCandSt_pllE _ _ _ _)).step (State.reselect_pllE _)
  · exact (ht2.step (State.setCandSt_pllE _ _ _ _)).step (State.reselect_pllE _)
  · extract_lets -merge -underBinder t3 t4
    refine .haveS (t := t4) (.ite (.upd ht2) ht2) fun ht4 => ?_
    clear_value t4
    exact .ite ((ht4.step (State.setCandSt_pllE _ _ _ _)).step (State.reselect_pllE _)) (ht4.step (State.setCandSt_pllE _ _ _ _))
  · exact ht2

theorem State.chanLost_pllE s a1 : PllEKept s (State.chanLost s a1) := by
  unfold State.chanLost
  extract_lets -merge -underBinder t0
  clear_value t0
  exact (PllEKept.quiet (State.setChanSt_touches _ _ _ rfl)).step (State.candFail_pllE _ _ _)

theorem State.portChansLost_pllE s a1 : PllEKept s (State.portChansLost s a1) := by
  unfold State.portChansLost
  exact .foldl (fun _ _ => .ite (.refl _) (State.chanLost_pllE _ _)) _ (.refl _)

theorem State.laneWithdraw_pllE s a1 : PllEKept s (State.laneWithdraw s a1) := by
  unfold State.laneWithdraw
  extract_lets -merge -underBinder t0
  exact .ite ((PllEKept.quiet (State.setLane_touches _ _ _ rfl)).step (State.candFail_pllE _ _ _)) (.refl _)

theorem State.laneUnlock_pllE s a1 : PllEKept s (State.laneUnlock s a1) := by
  unfold State.laneUnlock
  extract_lets -merge -underBinder t0 t1 t2
  clear_value t0
  refine .haveS (t := t1) (.quiet (State.setLane_touches _ _ _ rfl)) fun ht1 => ?_
  clear_value t1 t2
  exact .ite (.refl _) ((((ht1.step (State.laneWithdraw_pllE _ _)).step (.quiet (State.lnkPhiLost_touches _ _ rfl))).step (.quiet
      (State.portLoss_touches _ _ rfl))).step (State.portChansLost_pllE _ _))

theorem State.retrain_pllE s a1 : PllEKept s (State.retrain s a1) := by
  unfold State.retrain
  extract_lets -merge -underBinder t0 t1
  refine .haveS (t := t0) ((State.laneUnlock_pllE _ _).step (.quiet (State.laneIdl_touches _ _ rfl))) fun ht0 => ?_
  clear_value t0
  exact .ite (.refl _) (ht0.step (.quiet (State.setLane_touches _ _ _ rfl)))

theorem State.grpTrain_pllE s a1 : PllEKept s (State.grpTrain s a1) := by
  unfold State.grpTrain
  extract_lets -merge -underBinder t0 t1 t2 t3 t4
  clear_value t0 t1
  refine .haveS (t := t2) ?_ fun ht2 => ?_
  · unfold t2
    split
    · extract_lets -merge -underBinder t5
      exact .upd (.refl _)
    · exact .refl _
  clear_value t2
  refine .haveS (t := t3) (ht2.step (.quiet (State.setGrp_touches _ _ _ rfl))) fun ht3 => ?_
  clear_value t3
  refine .haveS (t := t4) ?_ fun ht4 => ?_
  · unfold t4
    refine .foldl (fun _ _ => ?_) _ ht3
    extract_lets -merge -underBinder t6
    exact (PllEKept.quiet (State.setLane_touches _ _ _ rfl)).step (State.retrain_pllE _ _)
  clear_value t4
  exact ((PllEKept.foldl (fun _ _ => .quiet (State.lnkEval_touches _ _ rfl)) _ ht4).step (.quiet (State.pairsEval_touches _ _ rfl))).step
      (.quiet (State.grpCheck_touches _ _ rfl))

theorem State.candEnable_pllE s a1 : PllEKept s (State.candEnable s a1) := by
  unfold State.candEnable
  extract_lets -merge -underBinder t0
  clear_value t0
  exact .ite (.refl _) (.ite (.ite (.refl _) ((State.setCandSt_pllE _ _ _ _).step (State.reselect_pllE _))) (.ite (State.setCandSt_pllE _ _
      _ _) (.refl _)))

theorem State.pllTReady_pllE s : PllEKept s (State.pllTReady s) := by
  unfold State.pllTReady
  extract_lets -merge -underBinder t0 t1 t2
  refine .haveS (t := t0) (((PllEKept.quiet (State.setReady_touches _ _ _ rfl)).step (.quiet (State.setReady_touches _ _ _ rfl))).step
      (.quiet (State.setReady_touches _ _ _ rfl))) fun ht0 => ?_
  clear_value t0
  refine .haveS (t := t1) (.foldl (fun _ _ => State.candEnable_pllE _ _) _ ((ht0.step (.quiet (State.setReady_touches _ _ _ rfl))).step
      (.quiet (State.setReady_touches _ _ _ rfl)))) fun ht1 => ?_
  clear_value t1
  exact .ite ((PllEKept.upd ht1).step (.quiet (State.setReady_touches _ _ _ rfl))) ht1

/-! ### The interval counter -/

/-- Every part but the interval counter and the calibration. -/
abbrev ticQuiet : List Part := (Part.others .tic).filter (fun q => decide (q ≠ .cal))

/-- Where no calibration job exists, none comes and the interval counter stays as it is. -/
structure TicKept (s t : State) : Prop where
  idle : s.cal.jobs = [] → t.cal.jobs = [] ∧ t.tic = s.tic

theorem TicKept.refl (s : State) : TicKept s s := ⟨fun h => ⟨h, rfl⟩⟩

theorem TicKept.step {s t u : State} (h : TicKept s t) (k : TicKept t u) : TicKept s u :=
  ⟨fun hs => ⟨(k.idle (h.idle hs).1).1, (k.idle (h.idle hs).1).2.trans (h.idle hs).2⟩⟩

theorem TicKept.upd {s t u : State} (h : TicKept s t) (hjobs : u.cal.jobs = t.cal.jobs := by rfl) (htic : u.tic = t.tic := by rfl) :
    TicKept s u := h.step ⟨fun ht => ⟨hjobs.trans ht, htic⟩⟩

theorem TicKept.quiet {s t : State} (h : Touches ticQuiet s t) : TicKept s t :=
  .upd (.refl s) (congrArg CalState.jobs (h .cal rfl)) (h .tic rfl)

theorem TicKept.ite {s t u : State} {c : Prop} [Decidable c] (h : TicKept s t) (k : TicKept s u) : TicKept s (if c then t else u) := by
  split <;> assumption

theorem TicKept.foldl {α : Type} {f : State → α → State} (hf : ∀ s x, TicKept s (f s x)) (l : List α) {s t : State}
    (h : TicKept s t) : TicKept s (l.foldl f t) := by
  induction l generalizing t with
  | nil => exact h
  | cons x l ih => exact ih (h.step (hf t x))

theorem TicKept.haveS {s t u : State} (h : TicKept s t) (k : TicKept s t → TicKept s u) : TicKept s u := k h

theorem State.calApply_idle s a1 a2 a3 : TicKept s (State.calApply s a1 a2 a3) := by
  unfold State.calApply
  extract_lets -merge -underBinder t0 t1
  refine .haveS (t := t1) (.upd (.refl _)) fun ht1 => ?_
  clear_value t1
  exact .ite (ht1.step (.quiet (State.putBoth_touches _ _ _ _ _ rfl))) (.ite (ht1.step (.quiet (State.putBoth_touches _ _ _ _ _ rfl))) ht1)

theorem State.calBoundary_idle s a1 a2 : TicKept s (State.calBoundary s a1 a2) := by
  unfold State.calBoundary
  split
  · exact .refl _
  · extract_lets -merge -underBinder t0
    exact (TicKept.upd (.refl _)).step (State.calApply_idle _ _ _ _)

theorem State.calLose_idle (s : State) (p : Nat → Nat → Bool) : TicKept s (s.calLose p) := by
  refine ⟨fun hjobs => ?_⟩
  have hrun : s.calLose p = s := by
    rw [State.calLose, hjobs]
    rfl
  rw [hrun]
  exact ⟨hjobs, rfl⟩

theorem State.pairHold_idle s a1 : TicKept s (State.pairHold s a1) := by
  unfold State.pairHold
  extract_lets -merge -underBinder t0 t1 t2 t3
  clear_value t0
  refine .haveS (t := t1) (State.calLose_idle _ _) fun ht1 => ?_
  clear_value t1
  refine .haveS (t := t2) ((ht1.step (.quiet (State.setPair_touches _ _ _ rfl))).step (.quiet (State.raise_touches _ _ _ _ _ rfl))) fun ht2
      => ?_
  clear_value t2
  exact .ite (.refl _) (.ite ((ht2.step (.quiet (State.setPair_touches _ _ _ rfl))).step (.quiet (State.raise_touches _ _ _ _ _ rfl))) ht2)

theorem State.lnkGo_idle s a1 a2 a3 : TicKept s (State.lnkGo s a1 a2 a3) := by
  unfold State.lnkGo
  extract_lets -merge -underBinder t0 t1 t2
  clear_value t0 t1
  refine .haveS (t := t2) ((TicKept.quiet (State.setLnk_touches _ _ _ rfl)).step (.quiet (State.raiseIf_touches _ _ _ _ _ _ rfl))) fun ht2
      => ?_
  clear_value t2
  refine .ite ?_ ?_
  · split
    · exact ht2.step (State.pairHold_idle _ _)
    · exact ht2
  · exact ht2

theorem State.lnkEval_idle s a1 : TicKept s (State.lnkEval s a1) := by
  unfold State.lnkEval
  extract_lets -merge -underBinder t0 t1
  clear_value t0 t1
  exact .ite (.ite (.quiet (State.setLnk_touches _ _ _ rfl)) ((TicKept.quiet (State.setLnk_touches _ _ _ rfl)).step (State.lnkGo_idle _ _ _
      _))) (.ite (State.lnkGo_idle _ _ _ _) (.ite (State.lnkGo_idle _ _ _ _) (.refl _)))

theorem State.lnkPhiLost_idle s a1 : TicKept s (State.lnkPhiLost s a1) := by
  unfold State.lnkPhiLost
  extract_lets -merge -underBinder t0 t1
  clear_value t0 t1
  exact .ite (.refl _) (((TicKept.quiet (State.setLnk_touches _ _ _ rfl)).step (.quiet (State.phiForget_touches _ _ rfl))).step
      (State.lnkEval_idle _ _))

theorem State.laneUnlock_idle s a1 : TicKept s (State.laneUnlock s a1) := by
  unfold State.laneUnlock
  extract_lets -merge -underBinder t0 t1 t2
  clear_value t0
  refine .haveS (t := t1) (.quiet (State.setLane_touches _ _ _ rfl)) fun ht1 => ?_
  clear_value t1 t2
  exact .ite (.refl _) ((((ht1.step (.quiet (State.laneWithdraw_touches _ _ rfl))).step (State.lnkPhiLost_idle _ _)).step (.quiet
      (State.portLoss_touches _ _ rfl))).step (.quiet (State.portChansLost_touches _ _ rfl)))

theorem State.laneIdl_idle s a1 : TicKept s (State.laneIdl s a1) := by
  unfold State.laneIdl
  exact (TicKept.quiet (State.applyAt_touches _ _ _ rfl)).step (State.calBoundary_idle _ _ _)

theorem State.retrain_idle s a1 : TicKept s (State.retrain s a1) := by
  unfold State.retrain
  extract_lets -merge -underBinder t0 t1
  refine .haveS (t := t0) ((State.laneUnlock_idle _ _).step (State.laneIdl_idle _ _)) fun ht0 => ?_
  clear_value t0
  exact .ite (.refl _) (ht0.step (.quiet (State.setLane_touches _ _ _ rfl)))

theorem State.grpCheck_idle s a1 : TicKept s (State.grpCheck s a1) := by
  unfold State.grpCheck
  extract_lets -merge -underBinder t0 t1 t2 t3
  clear_value t0 t1
  refine .haveS (t := t2) (.foldl (fun _ _ => State.laneIdl_idle _ _) _ (.refl _)) fun ht2 => ?_
  clear_value t2
  exact .ite (((ht2.step (.quiet (State.setGrp_touches _ _ _ rfl))).step (.quiet (State.setReady_touches _ _ _ rfl))).step (.quiet
      (State.raise_touches _ _ _ _ _ rfl))) (.refl _)

theorem State.grpTrain_idle s a1 : TicKept s (State.grpTrain s a1) := by
  unfold State.grpTrain
  extract_lets -merge -underBinder t0 t1 t2 t3 t4
  clear_value t0 t1
  refine .haveS (t := t2) ?_ fun ht2 => ?_
  · unfold t2
    split
    · extract_lets -merge -underBinder t5
      exact .upd (.refl _)
    · exact .refl _
  clear_value t2
  refine .haveS (t := t3) (ht2.step (.quiet (State.setGrp_touches _ _ _ rfl))) fun ht3 => ?_
  clear_value t3
  refine .haveS (t := t4) ?_ fun ht4 => ?_
  · unfold t4
    refine .foldl (fun _ _ => ?_) _ ht3
    extract_lets -merge -underBinder t6
    exact (TicKept.quiet (State.setLane_touches _ _ _ rfl)).step (State.retrain_idle _ _)
  clear_value t4
  exact ((TicKept.foldl (fun _ _ => State.lnkEval_idle _ _) _ ht4).step (.quiet (State.pairsEval_touches _ _ rfl))).step
      (State.grpCheck_idle _ _)

end Sys2Proof.Machine
end

section
/-! ## The boot without a flash (R405, R435) -/

set_option Elab.async false

namespace Sys2Proof.Machine

/-- Every part but the boot record, the persistent words and the objects, which the units that start leave as they are. -/
abbrev startQuiet : List Part :=
  (Part.others .boot).filter (fun q => decide (q ≠ .pers) && decide (q ≠ .objs) && decide (q ≠ .index))

/-- The part leaves reset: its straps are taken, REF_CLK is present and the ring's set point moves. -/
def State.leaveReset (s : State) (x : Straps) : State :=
  { s with boot := { straps := x }, pwr := { s.pwr with inReset := false, keepTime := false }
           pll := { s.pll with refclkOk := true }, sw := { s.sw with transRate := some s.avsSlew } }

/-- PLL-T starts when it is off, and its units become ready when it runs already. -/
def State.startT (s : State) : State :=
  if (s.pllOf 0).st = .off then s.pllStart 0
  else if (s.pllOf 0).st = .locked ∨ (s.pllOf 0).st = .bypass then s.pllTReady else s

/-- A boot without a flash has no directory, no configuration and no record to run. -/
def State.noConfig (s : State) : State := { s with boot := { s.boot with dirOk := false, cmdDone := true } }

/-- The lane groups train. -/
def State.trainAll (s : State) : State := (List.range s.variant.groups).foldl (fun s g => s.grpTrain g) s

/-- The part starts its PLLs. -/
def State.startPlls (s : State) : State := ((s.setReady Rdy.sys true).startT).pllStart 3

/-- The configuration is done: the lane groups train, and what CAL and the policy tables saved comes back. -/
def State.startUnits (s : State) : State := ((((s.setReady Rdy.cfg true).trainAll).calRestore).setReady Rdy.cal true).polRestore

theorem State.boot!_noFlash (s : State) {x : Straps} (h : x.noFlash = true) : s.boot! x = (s.leaveReset x).startPlls.noConfig.startUnits := by
  simp only [State.boot!, h, if_true, Bool.true_or, State.bootConfig, State.bootEngines]
  rfl

/-- Every part but those that the start of the PLLs leaves as they are: beside `startQuiet` the interval counter and the calibration. -/
abbrev pllQuiet : List Part := startQuiet.filter (fun q => decide (q ≠ .tic) && decide (q ≠ .cal))

section

variable (s : State)

theorem State.startT_touches : Touches pllQuiet s s.startT :=
  Touches.ite (State.pllStart_touches s 0 rfl) (Touches.ite (State.pllTReady_touches s rfl) (Touches.refl _ _))

theorem State.startPlls_touches : Touches pllQuiet s s.startPlls :=
  ((State.setReady_touches s _ _ rfl).step (State.startT_touches _)).step (State.pllStart_touches _ _ rfl)

theorem State.startT_mem : MemKept s s.startT :=
  .ite (State.pllStart_mem _ _) (.ite (State.pllTReady_mem _) (.refl _))

theorem State.startPlls_mem : MemKept s s.startPlls :=
  ((State.setReady_mem s _ _).step (State.startT_mem _)).step (State.pllStart_mem _ _)

/-- A PLL that starts acquires. -/
theorem State.pllStart_st (x : Nat) : ((s.pllStart x).pllOf x).st = .acq := by
  rw [State.pllStart, State.goPll_pllOf_self]

theorem State.pllStart_refclk (x : Nat) : (s.pllStart x).pll.refclkOk = s.pll.refclkOk := by
  have hclear : (s.pllClear x).pll.refclkOk = s.pll.refclkOk := by
    unfold State.pllClear
    extract_lets u p
    have hu : u.pll.refclkOk = s.pll.refclkOk := by
      unfold u
      split
      · rfl
      · split <;> rfl
    exact hu
  exact hclear

theorem State.startPlls_refclk : s.startPlls.pll.refclkOk = s.pll.refclkOk := by
  have hready : (s.setReady Rdy.sys true).pll = s.pll := rfl
  refine (State.pllStart_refclk _ 3).trans ?_
  rw [← hready]
  generalize s.setReady Rdy.sys true = u
  unfold State.startT
  split
  · exact u.pllStart_refclk 0
  · split
    · exact u.pllTReady_pllE.refclk
    · rfl

theorem State.trainAll_touches : Touches startQuiet s s.trainAll :=
  Touches.foldl (fun u g => State.grpTrain_touches u g rfl) _ (Touches.refl _ _)

theorem State.startUnits_touches : Touches startQuiet s s.startUnits :=
  ((((State.setReady_touches s _ _ rfl).step (State.trainAll_touches _)).step (State.calRestore_touches _ rfl)).step
    (State.setReady_touches _ _ _ rfl)).step (State.polRestore_touches _ rfl)

theorem State.startUnits_mem : MemKept s s.startUnits :=
  ((((State.setReady_mem s _ _).step (.foldl (fun u g => State.grpTrain_mem u g) _ (.refl _))).step (State.calRestore_mem _)).step
    (State.setReady_mem _ _ _)).step (State.polRestore_mem _)

theorem State.startUnits_pllE : PllEKept s s.startUnits :=
  ((((PllEKept.quiet (State.setReady_touches s _ _ rfl)).step (.foldl (fun u g => State.grpTrain_pllE u g) _ (.refl _))).step
    (.quiet (State.calRestore_touches _ rfl))).step (.quiet (State.setReady_touches _ _ _ rfl))).step
    (.quiet (State.polRestore_touches _ rfl))

theorem State.startUnits_tic (h : s.cal.jobs = []) : s.startUnits.tic = s.tic := by
  have htrain : TicKept s (s.setReady Rdy.cfg true).trainAll :=
    (TicKept.quiet (State.setReady_touches s _ _ rfl)).step (.foldl (fun u g => State.grpTrain_idle u g) _ (.refl _))
  have hrest : Touches (Part.others .tic) (s.setReady Rdy.cfg true).trainAll s.startUnits :=
    ((State.calRestore_touches _ rfl).step (State.setReady_touches _ _ _ rfl)).step (State.polRestore_touches _ rfl)
  exact (hrest .tic rfl).trans (htrain.idle h).2

end

/-- What the boot without a flash leaves. -/
structure BootedBare (x : Straps) (s t : State) : Prop where
  boot : t.boot = { straps := x, cmdDone := true }
  pllE : (t.pllOf 3).st = .acq
  refclk : t.pll.refclkOk = true
  flash : t.flash = s.flash
  pers : t.pers = s.pers
  objs : t.objs = s.objs
  index : t.index = s.index
  tic : s.cal.jobs = [] → t.tic = s.tic

theorem State.boot!_bare (s : State) {x : Straps} (h : x.noFlash = true) : BootedBare x s (s.boot! x) := by
  rw [s.boot!_noFlash h]
  have hplls := (s.leaveReset x).startPlls_touches
  have hmem := (s.leaveReset x).startPlls_mem
  have hst : ((s.leaveReset x).startPlls.pllOf 3).st = .acq := State.pllStart_st _ 3
  have hrefclk : (s.leaveReset x).startPlls.pll.refclkOk = true := (s.leaveReset x).startPlls_refclk
  have hboot : (s.leaveReset x).startPlls.boot = { straps := x } := hplls .boot rfl
  generalize (s.leaveReset x).startPlls = u at *
  have hunits := u.noConfig.startUnits_touches
  have hpll := u.noConfig.startUnits_pllE
  have hnone : u.noConfig.boot = { straps := x, cmdDone := true } := by
    rw [State.noConfig, hboot]
  exact
    { boot := (hunits .boot rfl).trans hnone
      pllE := hpll.st.trans hst
      refclk := hpll.refclk.trans hrefclk
      flash := u.noConfig.startUnits_mem.flash.trans hmem.flash
      pers := (hunits .pers rfl).trans (hplls .pers rfl)
      objs := (hunits .objs rfl).trans (hplls .objs rfl)
      index := (hunits .index rfl).trans (hplls .index rfl)
      tic := fun hjobs =>
        (u.noConfig.startUnits_tic ((congrArg CalState.jobs (hplls .cal rfl)).trans hjobs)).trans (hplls .tic rfl) }

end Sys2Proof.Machine
end

section
/-! ## Resets: the power-on reset, RST_N and SYS_RST (R403, R404, R437) -/

set_option Elab.async false

namespace Sys2Proof.Machine

/-- What a reset may leave other than the reset state does. -/
abbrev resetParts : List Part := [.variant, .fused, .clk, .free, .pending, .flash, .pers, .cal, .pwr]

theorem State.hardReset_touches_reset (s : State) : Touches resetParts State.reset s.hardReset := by
  let u : State := { State.reset with variant := s.variant }
  have hw : Part.within resetParts resetParts = true := rfl
  have hu : Touches resetParts State.reset u := by
    intro p hp
    cases p with
    | variant => exact absurd hp (by decide)
    | rc n => exact fun _ _ => rfl
    | _ => simp [Part.same, u]
  exact Touches.mk (t := u) hw hu

/-- Nothing is lost where no persistent word is being stored. -/
theorem State.persLoss_idle {s : State} (h : s.pers.busy = []) : s.persLoss = s := by
  rw [State.persLoss, h]
  rfl

section

variable (s : State)

/-- The class of the cores' time says nothing of their state. -/
theorem State.updateClass_tstate : s.updateClass.tcore.tstate = s.tcore.tstate := by
  unfold State.updateClass
  split
  · rfl
  · have htcore : (s.setQuality (s.announced false)).timeStateOut.tcore = (s.setQuality (s.announced false)).tcore :=
      State.timeStateOut_touches (ps := Part.others .tcore) _ rfl .tcore rfl
    rw [htcore]
    rfl

/-- What KEEP_TIME leaves running: the cores and PLL-T, in the time state that the reset brings (R404). -/
theorem State.keepTimeOver_gives (t : State) :
    (t.keepTimeOver s).clk = s.clk ∧ (t.keepTimeOver s).pllOf 0 = s.pllOf 0 ∧ (t.keepTimeOver s).tcore.tstate = s.keptTime.1 := by
  refine ⟨rfl, ?_, ?_⟩
  · exact Tab.get_set_self _ t.pll.plls 0 (s.pllOf 0)
  · exact State.updateClass_tstate _

theorem State.keptTime_held (h : s.tcore.tstate = .locked ∨ s.tcore.tstate = .holdover) : s.keptTime.1 = .holdover := by
  unfold State.keptTime
  rcases h with h | h <;> rw [h]

theorem State.keptTime_free (h : s.tcore.tstate = .freerun) : s.keptTime.1 = .freerun := by
  unfold State.keptTime
  rw [h]

end

/-- What a reset of the part leaves: the words, the flash and all that `resetParts` does not name as the reset state has it. -/
structure HeldReset (s t : State) : Prop where
  inReset : t.pwr.inReset = true
  words : t.pers.words = s.pers.words
  flash : t.flash = s.flash
  frame : Touches resetParts State.reset t

theorem State.partResetHold_plain (s : State) :
    HeldReset s (s.partResetHold false) ∧ (s.partResetHold false).pwr.jtagIr = s.pwr.jtagIr := by
  have hset : Touches resetParts State.reset (s.partResetHold false) := Touches.set_pwr s.hardReset_touches_reset rfl
  exact ⟨⟨rfl, rfl, rfl, hset⟩, rfl⟩

/-- What KEEP_TIME may keep beside it. -/
abbrev keptParts : List Part := resetParts ++ [.regs, .pll, .tcore, .ref]

theorem State.partResetHold_kept (s : State) {t : State} (ht : s.partResetHold true = t) :
    t.pwr.inReset = true ∧ t.pwr.keepTime = true ∧ t.clk = s.clk ∧ t.pllOf 0 = s.pllOf 0 ∧ t.tcore.tstate = s.keptTime.1 ∧
    t.pers.words = s.pers.words ∧ Touches keptParts State.reset t := by
  obtain ⟨hclk, hpll, hstate⟩ := s.keepTimeOver_gives s.hardReset
  have hframe : Touches keptParts State.reset (s.hardReset.keepTimeOver s) :=
    (s.hardReset_touches_reset.mono rfl).step (State.keepTimeOver_touches _ _ rfl)
  have hrun : s.partResetHold true = { s.hardReset.keepTimeOver s with pwr := { (s.hardReset.keepTimeOver s).pwr with
    inReset := true, keepTime := true, jtagIr := s.pwr.jtagIr, scan := s.pwr.scan } } := rfl
  have hwords : (s.hardReset.keepTimeOver s).pers.words = s.pers.words := rfl
  rw [hrun] at ht
  subst ht
  generalize s.hardReset.keepTimeOver s = u at *
  exact ⟨rfl, rfl, hclk, hpll, hstate, hwords, Touches.set_pwr hframe rfl⟩

/-- Whether or not KEEP_TIME holds, no object and no calibration job is left, and the interval counter is as after reset. -/
theorem State.partResetHold_gives (s : State) (keep : Bool) :
    (s.partResetHold keep).pers.words = s.pers.words ∧ (s.partResetHold keep).flash = s.flash ∧
    (s.partResetHold keep).objs = State.reset.objs ∧ (s.partResetHold keep).index = State.reset.index ∧
    (s.partResetHold keep).tic = State.reset.tic ∧ (s.partResetHold keep).cal.jobs = [] := by
  cases keep <;> exact ⟨rfl, rfl, rfl, rfl, rfl, rfl⟩

theorem State.unlocked_keyed {s : State} {p : Path} (h : s.unlocked p = true) (a : Nat) (f : State → State) :
    s.keyed p a f = f (s.consumeKey p) := if_pos h

theorem State.locked_keyed {s : State} {p : Path} (h : s.unlocked p = false) (a : Nat) (f : State → State) :
    s.keyed p a f = s.raise Ev.sysKeyReject a := if_neg (by rw [h]; decide)

/-- SYS_RST.PART on an unlocked path (R403): the part is reset and boots anew under its straps. -/
theorem State.sysRst_boots {s : State} {p : Path} {v : Word} (hun : s.unlocked p = true) (hbit : bitAt v.toNat 0 = true) :
    ∃ (u : State) (keep : Bool), u.pers = s.pers ∧ u.flash = s.flash ∧
      s.sysRst p v allBits = (u.partResetHold keep).boot! s.boot.straps := by
  have hrun : s.sysRst p v allBits = (if bitAt (v &&& allBits).toNat 0 then
      (((s.consumeKey p).storeReg ⟨.sysRst, 0, 0⟩ v allBits).partResetHold
        (bitAt (((s.consumeKey p).storeReg ⟨.sysRst, 0, 0⟩ v allBits).written ⟨.sysRst, 0, 0⟩).toNat 1)).boot! s.boot.straps
      else (s.consumeKey p).storeReg ⟨.sysRst, 0, 0⟩ v allBits) := by
    unfold State.sysRst
    exact State.unlocked_keyed hun _ _
  rw [and_allBits, if_pos hbit] at hrun
  refine ⟨_, _, ?_, ?_, hrun⟩
  · exact State.storeReg_touches (ps := Part.others .pers) _ _ _ _ rfl .pers rfl
  · exact (State.storeReg_mem _ _ _ _).flash

/-- The outcome brings the identity and the queue of the state before, and nothing else. -/
theorem Touches.reset_carry {ps : List Part} {t : State} (h : Touches ps State.reset t) (s : State)
    (hw : Part.within [.variant, .fused, .pending] ps = true) : Touches ps State.reset (t.carry s) := by
  have hcarry : Touches ps t (t.carry s) := by
    intro p hp
    cases p with
    | variant => exact absurd hp (by rw [Part.within_mem (p := .variant) rfl hw]; decide)
    | fused => exact absurd hp (by rw [Part.within_mem (p := .fused) rfl hw]; decide)
    | pending => exact absurd hp (by rw [Part.within_mem (p := .pending) rfl hw]; decide)
    | rc n => exact fun _ _ => rfl
    | _ => simp [Part.same]
  exact h.step hcarry

/-- Settles O59: RST_N and SYS_RST by what the hard reset keeps of the state, SYS_RST's boot by `BootedBare`. -/
theorem resets : Obligations.Resets := by
  unfold Obligations.Resets
  refine ⟨?power, ?pulse, ?soft⟩
  case power =>
    intro s hbusy
    have hrun : s.powerOnReset = { s.hardReset with pwr := { s.hardReset.pwr with inReset := true } } := by
      rw [State.powerOnReset, State.persLoss_idle hbusy]
    have hframe : Touches resetParts State.reset s.powerOnReset := by
      rw [hrun]
      exact Touches.set_pwr s.hardReset_touches_reset rfl
    have hexec : exec .powerOnReset s = effectInReset true s s.powerOnReset := rfl
    have hpwr : s.powerOnReset.pwr = { State.reset.pwr with inReset := true } := by rw [hrun]; rfl
    have hwords : s.powerOnReset.pers.words = s.pers.words := by rw [hrun]; rfl
    have hflash : s.powerOnReset.flash = s.flash := by rw [hrun]; rfl
    generalize s.powerOnReset = t at *
    exact gives_effectInReset hexec rfl ⟨hpwr, hwords, hflash, ⟨rfl, rfl⟩, rfl, hframe.reset_carry s rfl⟩
  case pulse =>
    intro s ns hup
    have hexec : exec (.partReset ns) s = effect true s (s.partReset ns) := rfl
    refine ⟨fun hshort => ?_, fun hlong hkeep => ?_, fun hlong hkeep => ?_⟩
    · have hrun : s.partReset ns = s := if_pos hshort
      rw [hrun] at hexec
      exact gives_effect hexec hup rfl rfl
    · have hrun : s.partReset ns = s.partResetHold (bitAt (s.pers! 0).toNat 2) := (if_neg (by omega)).trans (if_pos hlong)
      obtain ⟨⟨hreset, hwords, hflash, hframe⟩, hir⟩ := s.partResetHold_plain
      rw [hrun, hkeep] at hexec
      generalize s.partResetHold false = t at *
      exact gives_effect hexec hup rfl ⟨hreset, hir, hwords, hflash, ⟨rfl, rfl⟩, rfl, hframe.reset_carry s rfl⟩
    · have hrun : s.partReset ns = s.partResetHold (bitAt (s.pers! 0).toNat 2) := (if_neg (by omega)).trans (if_pos hlong)
      obtain ⟨hreset, hkept, hclk, hpll, hstate, hwords, hframe⟩ := s.partResetHold_kept rfl
      rw [hrun, hkeep] at hexec
      generalize s.partResetHold true = t at *
      exact gives_effect hexec hup rfl ⟨hreset, hkept, hclk, hpll, fun h => hstate.trans (s.keptTime_held h),
        fun h => hstate.trans (s.keptTime_free h), hframe.reset_carry s rfl⟩
  case soft =>
    intro s p v hup hwf
    have hexec : exec (.sysRstPart p v) s = effect p.wf s (s.sysRst p v allBits) := rfl
    refine ⟨fun hlocked => ?_, fun hun hbit hno => ?_⟩
    · have hrun : s.sysRst p v allBits = s.raise Ev.sysKeyReject (RegKey.addr ⟨.sysRst, 0, 0⟩) := by
        unfold State.sysRst
        exact State.locked_keyed hlocked _ _
      rw [hrun] at hexec
      exact gives_effect hexec hup hwf ⟨rfl, (State.raise_touches s _ _ _ _ rfl).carry⟩
    · obtain ⟨u, keep, hpers, hflash, hrun⟩ := State.sysRst_boots hun hbit
      obtain ⟨hwords, hheld, hobjs, hindex, htic, hjobs⟩ := u.partResetHold_gives keep
      have hbare := (u.partResetHold keep).boot!_bare hno
      rw [← hrun] at hbare
      generalize u.partResetHold keep = w at *
      generalize s.sysRst p v allBits = t at *
      refine gives_effect hexec hup hwf ⟨hbare.boot, hbare.flash.trans (hheld.trans hflash), hbare.objs.trans hobjs, hbare.index.trans hindex,
        hbare.pllE, ?_, (hbare.tic hjobs).trans htic, ⟨rfl, rfl⟩, rfl⟩
      exact (congrArg PersState.words hbare.pers).trans (hwords.trans (congrArg PersState.words hpers))

end Sys2Proof.Machine
end

section
/-! ## FLASH_READ and FLASH_WRITE byte by byte (R406, R413) -/

set_option Elab.async false

namespace Sys2Proof.Machine

/-! ### Bytes -/

/-- Bytes read as a number are written back as they were. -/
theorem leBytes_leAt {l : List Byte} {k : Nat} (h : k ≤ l.length) : leBytes (leAt l 0 k) k = l.take k := by
  induction k generalizing l with
  | zero => simp [leBytes]
  | succ k ih =>
    cases l with
    | nil => simp at h
    | cons b l =>
      have hrest : leAt (b :: l) (0 + 1) k = leAt l 0 k := leAt_cons b l 0 k
      have hhead : leAt (b :: l) 0 (k + 1) = b.toNat + 256 * leAt l 0 k := by rw [leAt, hrest]; rfl
      have hb : b.toNat < 256 := b.isLt
      have hbyte : BitVec.ofNat 8 (b.toNat + 256 * leAt l 0 k) = b := by
        apply BitVec.eq_of_toNat_eq
        rw [BitVec.toNat_ofNat]
        omega
      have hnext : (b.toNat + 256 * leAt l 0 k) / 256 = leAt l 0 k := by omega
      rw [hhead, leBytes, hbyte, hnext, ih (Nat.le_of_succ_le_succ h), List.take_succ_cons]

theorem Memory.reads_length (d : Byte) (m : List Host.Cell) (a n : Nat) : (Memory.reads d m a n).length = n := by
  induction n generalizing a with
  | zero => rfl
  | succ n ih => simp [Memory.reads, ih]

theorem Memory.reads_getElem (d : Byte) (m : List Host.Cell) (a n i : Nat) (h : i < n) :
    (Memory.reads d m a n)[i]? = some (Memory.read d m (a + i)) := by
  induction n generalizing a i with
  | zero => cases h
  | succ n ih =>
    cases i with
    | zero => rfl
    | succ i =>
      rw [Memory.reads, List.getElem?_cons_succ, ih (a + 1) i (by omega), show a + 1 + i = a + (i + 1) by omega]

/-- Where two memories read the same bytes from their addresses, each byte is the same. -/
theorem Memory.read_of_reads {d d' : Byte} {m m' : List Host.Cell} {a a' n : Nat} (h : Memory.reads d m a n = Memory.reads d' m' a' n)
    {i : Nat} (hi : i < n) : Memory.read d m (a + i) = Memory.read d' m' (a' + i) := by
  have hget := Memory.reads_getElem d m a n i hi
  rw [h, Memory.reads_getElem d' m' a' n i hi] at hget
  exact (Option.some.inj hget).symm

theorem Memory.reads_eq_map (d : Byte) (m : List Host.Cell) (a n : Nat) :
    (List.range n).map (fun i => Memory.read d m (a + i)) = Memory.reads d m a n := by
  apply List.ext_getElem?
  intro i
  by_cases hi : i < n
  · rw [Memory.reads_getElem d m a n i hi]
    simp [hi]
  · rw [List.getElem?_eq_none (by simpa using hi), List.getElem?_eq_none (by rw [Memory.reads_length]; omega)]

/-! ### A copy into SPAD -/

/-- The words of some bytes, put one after the other, are those bytes. -/
theorem State.putWords_reads (s : State) (hm : s.memWf) (o : Nat) (data : List Byte) (n : Nat) (h : data.length = 4 * n) :
    Memory.reads 0 (s.putWords o data n).eng.spad o (4 * n) = data := by
  induction n generalizing s o data with
  | zero => exact (List.length_eq_zero_iff.mp h).symm
  | succ n ih =>
    obtain ⟨u, hu⟩ : ∃ u, s.putSpad o (leAt data 0 4) = u := ⟨_, rfl⟩
    have hmu : u.memWf := hu ▸ State.putSpad_memWf _ _ _ hm
    have htail := ih u hmu (o + 4) (data.drop 4) (by rw [List.length_drop]; omega)
    have hword : Memory.reads 0 u.eng.spad o 4 = data.take 4 := by
      have hbytes : u.eng.spad = Memory.writes 0 s.eng.spad o (leBytes (leAt data 0 4) 4) := by rw [← hu]; rfl
      have hback := Memory.reads_writes hm.1 o (leBytes (leAt data 0 4) 4)
      rw [leBytes_length, leBytes_leAt (by omega)] at hback
      rw [hbytes, leBytes_leAt (by omega)]
      exact hback
    have hhead : Memory.reads 0 (u.putWords (o + 4) (data.drop 4) n).eng.spad o 4 = data.take 4 := by
      rw [← hword]
      exact Memory.reads_congr fun x _ hx => State.putWords_read_out _ _ _ _ x (.inl hx)
    rw [State.putWords, hu, show 4 * (n + 1) = 4 + 4 * n by omega, Memory.reads_add, hhead, htail, List.take_append_drop]

theorem State.putWords_flash (s : State) (o : Nat) (data : List Byte) (n : Nat) : (s.putWords o data n).flash = s.flash := by
  induction n generalizing s o data with
  | zero => rfl
  | succ n ih => exact ih _ _ _

end Sys2Proof.Machine
end

section
/-! ## The flash commands (R406, R413) -/

set_option Elab.async false

namespace Sys2Proof.Machine

/-- The copy meets a bank that the firmware holds. -/
def State.meetsFw (s : State) (o n : Nat) : Bool := (List.range 32).any (fun b => s.bankFw b && rangesMeet o n (b * 262144) 262144)

section Flash

variable {s : State} {d : CmdDesc}

/-- Operands that FLASH_READ and FLASH_WRITE take are whole units within SPAD. -/
theorem State.flashChecks_range {al : Nat} (hal : al % 64 = 0) (h : (s.flashChecks d true al).badArg = false) :
    DmaRange (d.arg 16 4) (d.arg 20 4) := by
  simp only [State.flashChecks, Bool.or_eq_false_iff, decide_eq_false_iff_not, not_not, Nat.not_lt] at h
  obtain ⟨⟨⟨⟨⟨-, -⟩, hn⟩, -⟩, hbelow⟩, -⟩ := h
  exact ⟨Nat.mod_eq_zero_of_dvd ((Nat.dvd_of_mod_eq_zero hal).trans (Nat.dvd_of_mod_eq_zero hn)), hbelow⟩

theorem State.startCmd_bankOn (b : Nat) : (s.startCmd d).bankOn b = s.bankOn b := by
  rw [State.startCmd_eq]
  rfl

/-- Outside a saved calibration the flash gives its bytes. -/
theorem State.flashByte_plain (hA : (s.calSlot false).valid = false) (hB : (s.calSlot true).valid = false) (a n : Nat) :
    s.flashByte a n = Memory.read flashErased s.flash a := by
  simp only [State.flashByte, hA, hB, Bool.false_and, Bool.or_self, Bool.false_eq_true, if_false]

/-- What FLASH_READ copies: the bytes of the flash, put into SPAD word by word. -/
def State.flashCopied (s : State) (d : CmdDesc) : State :=
  ({ s.startCmd d with free := (s.startCmd d).free + d.arg 20 4 } : State).putWords (d.arg 16 4)
    (Memory.reads flashErased s.flash (d.arg 12 4) (d.arg 20 4)) (d.arg 20 4 / 4)

theorem State.flashReadCmd_copies (us : Nat) (hacc : s.Accepts d 0x8001 (s.flashChecks d true 64)) (hno : s.boot.straps.noFlash = false)
    (hA : (s.calSlot false).valid = false) (hB : (s.calSlot true).valid = false) (hon : ∀ b, b < 32 → s.bankOn b = true)
    (hfw : ∀ b, b < 32 → s.bankFw b = true → rangesMeet (d.arg 16 4) (d.arg 20 4) (b * 262144) 262144 = false) :
    s.flashReadCmd d us = (s.flashCopied d).complete d 0x8001 .ok 0 (leBytes us 4) := by
  have hrange := State.flashChecks_range (by decide) hacc.goodArg
  have hnone : s.meetsFw (d.arg 16 4) (d.arg 20 4) = false := by
    rw [State.meetsFw, List.any_eq_false]
    intro b hb
    cases hw : s.bankFw b
    · simp
    · simp [hfw b (List.mem_range.mp hb) hw]
  have hchecks : s.Accepts d 0x8001 { s.flashChecks d true 64 with
      badArg := (s.flashChecks d true 64).badArg || s.meetsFw (d.arg 16 4) (d.arg 20 4) } := by
    rw [hnone, Bool.or_false]
    exact hacc
  have hslot : ∀ b, (s.startCmd d).calSlot b = s.calSlot b := fun b => by
    rw [State.startCmd_eq]
    rfl
  have hflash : (s.startCmd d).flash = s.flash := s.startCmd_flash d
  have hstraps : (s.startCmd d).boot.straps.noFlash = false := by rw [s.startCmd_boot d, hno]
  refine (State.runCmd_accepted_free hchecks rfl).trans ?_
  have hdata : (List.range (d.arg 20 4)).map (fun i => (s.startCmd d).flashByte (d.arg 12 4 + i) ((s.startCmd d).free + i)) =
      Memory.reads flashErased s.flash (d.arg 12 4) (d.arg 20 4) := by
    rw [← Memory.reads_eq_map]
    refine List.map_congr_left fun i _ => ?_
    rw [State.flashByte_plain (by rw [hslot, hA]) (by rw [hslot, hB]), hflash]
  dsimp only
  rw [hstraps, if_neg Bool.false_ne_true, hdata]
  obtain ⟨u, hu⟩ : ∃ u : State, { s.startCmd d with free := (s.startCmd d).free + d.arg 20 4 } = u := ⟨_, rfl⟩
  have hon' : ∀ b, b < 32 → u.bankOn b = true := fun b hb => by
    rw [← hu]
    exact (State.startCmd_bankOn b).trans (hon b hb)
  rw [State.flashCopied, hu, State.dmaIn_on fun i hi => State.dma_word_on hrange hon' hi]

theorem State.flashCopied_gives (hm : s.memWf) (hrange : DmaRange (d.arg 16 4) (d.arg 20 4)) :
    (∀ i, i < d.arg 20 4 →
      Memory.read 0 (s.flashCopied d).eng.spad (d.arg 16 4 + i) = Memory.read flashErased s.flash (d.arg 12 4 + i)) ∧
    (∀ a, (a < d.arg 16 4 ∨ d.arg 16 4 + d.arg 20 4 ≤ a) → Memory.read 0 (s.flashCopied d).eng.spad a = Memory.read 0 s.eng.spad a) ∧
    (s.flashCopied d).flash = s.flash := by
  obtain ⟨u, hu⟩ : ∃ u : State, { s.startCmd d with free := (s.startCmd d).free + d.arg 20 4 } = u := ⟨_, rfl⟩
  have heng : u.eng = s.eng := by rw [← hu]; exact s.startCmd_eng d
  have hflash : u.flash = s.flash := by rw [← hu]; exact s.startCmd_flash d
  have hmu : u.memWf := by rw [State.memWf, heng, hflash]; exact hm
  have hn : 4 * (d.arg 20 4 / 4) = d.arg 20 4 := by
    have := hrange.units
    omega
  rw [State.flashCopied, hu]
  refine ⟨fun i hi => ?_, fun a ha => ?_, (u.putWords_flash _ _ _).trans hflash⟩
  · refine Memory.read_of_reads (n := d.arg 20 4) ?_ hi
    have hreads := u.putWords_reads hmu (d.arg 16 4) (Memory.reads flashErased s.flash (d.arg 12 4) (d.arg 20 4)) (d.arg 20 4 / 4)
      (by rw [Memory.reads_length, hn])
    rw [hn] at hreads
    exact hreads
  · rw [State.putWords_read_out _ _ _ _ _ (by rw [hn]; exact ha), heng]

/-- The flash takes the bytes that FLASH_WRITE brings. -/
def State.flashTakes (s : State) (d : CmdDesc) : State :=
  { s with flash := Memory.writes flashErased s.flash (d.arg 12 4) (s.spadBytes (d.arg 16 4) (d.arg 20 4)), free := s.free }

/-- The flash with the bytes that FLASH_WRITE brings, and no calibration image where they lie. -/
def State.flashWritten (s : State) (d : CmdDesc) : State :=
  [false, true].foldl (fun u b => if rangesMeet (d.arg 12 4) (d.arg 20 4) (u.slotAt b) 262144 then u.setCalSlot b {} else u) (s.flashTakes d)

/-- A calibration image that is forgotten touches neither the flash nor the engines nor the unlocks. -/
theorem State.setCalSlot_ite_keeps (u : State) (b : Bool) (c : Prop) [Decidable c] :
    (if c then u.setCalSlot b {} else u).flash = u.flash ∧ (if c then u.setCalSlot b {} else u).eng = u.eng ∧
    (if c then u.setCalSlot b {} else u).keys = u.keys := by
  split
  · exact ⟨rfl, rfl, rfl⟩
  · exact ⟨rfl, rfl, rfl⟩

theorem State.forgetSlots_keeps (f : State → Bool → Bool) (l : List Bool) (u : State) :
    (l.foldl (fun u b => if f u b then u.setCalSlot b {} else u) u).flash = u.flash ∧
    (l.foldl (fun u b => if f u b then u.setCalSlot b {} else u) u).eng = u.eng ∧
    (l.foldl (fun u b => if f u b then u.setCalSlot b {} else u) u).keys = u.keys := by
  induction l generalizing u with
  | nil => exact ⟨rfl, rfl, rfl⟩
  | cons b l ih =>
    obtain ⟨hflash, heng, hkeys⟩ := ih (if f u b then u.setCalSlot b {} else u)
    obtain ⟨hflash', heng', hkeys'⟩ := u.setCalSlot_ite_keeps b (f u b = true)
    exact ⟨hflash.trans hflash', heng.trans heng', hkeys.trans hkeys'⟩

theorem State.flashWritten_gives (s : State) (d : CmdDesc) :
    (s.flashWritten d).flash = Memory.writes flashErased s.flash (d.arg 12 4) (s.spadBytes (d.arg 16 4) (d.arg 20 4)) ∧
    (s.flashWritten d).eng = s.eng ∧ (s.flashWritten d).keys = s.keys := by
  obtain ⟨hflash, heng, hkeys⟩ :=
    State.forgetSlots_keeps (fun u b => rangesMeet (d.arg 12 4) (d.arg 20 4) (u.slotAt b) 262144) [false, true] (s.flashTakes d)
  unfold State.flashWritten
  rw [hflash, heng, hkeys]
  exact ⟨rfl, rfl, rfl⟩

/-- The command that starts takes its path's unlock with it. -/
def State.startKeyed (s : State) (d : CmdDesc) : State := (s.startCmd d).consumeKey d.src.path

theorem State.flashWriteCmd_writes (ms : Nat) (hacc : s.Accepts d 0x8002 { s.flashChecks d true 4096 with guarded := true })
    (hno : s.boot.straps.noFlash = false) (hidle : s.cal.saving = none) (hon : ∀ b, b < 32 → s.bankOn b = true) :
    s.flashWriteCmd d true ms = ((s.startKeyed d).flashWritten d).complete d 0x8002 .ok 0 (leBytes (d.arg 20 4 / 4096) 4 ++ leBytes ms 4) := by
  have hrange : DmaRange (d.arg 16 4) (d.arg 20 4) := State.flashChecks_range (al := 4096) (by decide) hacc.goodArg
  have hstraps : (s.startKeyed d).boot.straps.noFlash = false := (congrArg (fun b : BootState => b.straps.noFlash) (s.startCmd_boot d)).trans hno
  have hsaving : (s.startKeyed d).cal.saving.isSome = false :=
    congrArg Option.isSome ((congrArg CalState.saving (s.startCmd_cal d)).trans hidle)
  have hon' : ∀ b, b < 32 → (s.startKeyed d).bankOn b = true := fun b hb => (State.startCmd_bankOn b).trans (hon b hb)
  have hrun : s.flashWriteCmd d true ms = _ := State.runCmd_accepted hacc
  have hkeyed : (s.startCmd d).consumeKey d.src.path = s.startKeyed d := rfl
  rw [hrun]
  dsimp only
  rw [if_pos rfl, hkeyed]
  generalize s.startKeyed d = u at *
  rw [hstraps, if_neg Bool.false_ne_true, hsaving, if_neg Bool.false_ne_true]
  simp only [if_true]
  rw [State.dmaOff_on fun i hi => State.dma_word_on hrange hon' hi, State.dmaRead_range hrange hon']
  rfl

end Flash

end Sys2Proof.Machine
end

section
/-! ## Command records of the configuration, the test access port, and O60 (R407, R408, R443) -/

set_option Elab.async false

namespace Sys2Proof.Machine

/-! ### Command records -/

/-- A record of this opcode runs as this command does. -/
def RunsAs (op : Nat) (c : CmdDesc → Instr) : Prop := ∀ (s : State) (d : CmdDesc), exec (c d) s = effect d.wf s (s.cmdRun op d)

/-- The opcodes of the statement and the commands that they name. -/
theorem recordCommands_run : ∀ x ∈ [(0x0101, Instr.flowCreate), (0x0102, .flowModify), (0x0104, .flowDestroy), (0x0201, .tchanCreate),
      (0x0202, .tchanModify), (0x0204, .tchanDestroy), (0x0301, .mchanCreate), (0x0401, .mirrorCreate), (0x0501, .searchJobCreate),
      (0x0601, .calJobCreate), (0x9802, .gclGet), (0xA001, .boundQuery), (0xA401, .bpmCarve), (0xA801, .fdbAdd), (0xA802, .fdbDel),
      (0xA804, .fdbFlush), (0xA807, .fdbClsSet), (0xA809, .fdbCbSet), (0xB001, .timeStep), (0xB002, .timeSet), (0xB801, .refCandSet),
      (0xC401, .ticArm), (0xC402, .ticStop), (0xC804, .engTaskPin), (0xC805, .polSet), (0xCC03, .pairCbSet)], RunsAs x.1 x.2 := by
  simp only [List.forall_mem_cons]
  refine ⟨?_, ?_, ?_, ?_, ?_, ?_, ?_, ?_, ?_, ?_, ?_, ?_, ?_, ?_, ?_, ?_, ?_, ?_, ?_, ?_, ?_, ?_, ?_, ?_, ?_, ?_, fun _ h => nomatch h⟩
  all_goals exact fun _ _ => rfl

/-- The command that a record spells. -/
def recordCmd (raw : List Byte) : CmdDesc :=
  { src := .boot, flags := raw.getD 2 0, rsvd := raw.getD 3 0, tag := BitVec.ofNat 32 (leAt raw 4 4)
    handle := BitVec.ofNat 32 (leAt raw 8 4), args := raw.drop 12 }

section Records

variable {s : State}

/-- With no record left, or one running, nothing runs. -/
theorem State.bootCommandRecord_idle (late : Bool) (h : s.boot.cmds = [] ∨ s.boot.running = true) : s.bootCommandRecord late = s := by
  unfold State.bootCommandRecord
  split
  · rfl
  · next raw l hcmds =>
    rcases h with hnone | hrun
    · rw [hnone] at hcmds
      cases hcmds
    · exact if_pos (by rw [hrun]; rfl)

/-- A record whose units are not ready waits. -/
theorem State.bootCommandRecord_waits {raw : List Byte} {l : List (List Byte)} (hcmds : s.boot.cmds = raw :: l)
    (hbusy : (opReady (leAt raw 0 2)).any (fun b => !(s.isReady b)) = true) : s.bootCommandRecord false = s := by
  unfold State.bootCommandRecord
  rw [hcmds]
  exact if_pos (by rw [hbusy]; simp)

/-- The state with the first record taken out and running. -/
def State.recordTaken (s : State) (l : List (List Byte)) : State := { s with boot := { s.boot with cmds := l, running := true } }

theorem State.bootCommandRecord_runs {late : Bool} {raw : List Byte} {l : List (List Byte)} (hcmds : s.boot.cmds = raw :: l)
    (hidle : s.boot.running = false) (hready : late = true ∨ (opReady (leAt raw 0 2)).all (fun b => s.isReady b) = true)
    (hext : (recordCmd raw).hasExt = false) :
    s.bootCommandRecord late = (s.recordTaken l).cmdRun (leAt raw 0 2) (recordCmd raw) := by
  have hgo : ¬ (s.boot.running || (!late && (opReady (leAt raw 0 2)).any (fun b => !(s.isReady b)))) = true := by
    rw [hidle]
    rcases hready with h | h
    · simp [h]
    · simp only [List.all_eq_true] at h
      simp only [Bool.false_or, Bool.and_eq_true, List.any_eq_true, Bool.not_eq_true', not_and, not_exists]
      exact fun _ b hb => by simp [h b hb]
  have hplain : ¬ (recordCmd raw).hasExt = true := by rw [hext]; decide
  unfold State.bootCommandRecord
  rw [hcmds]
  exact (if_neg hgo).trans (if_neg hplain)

end Records

/-! ### The test access port -/

/-- The loss of LOCK of several lanes leaves each of them without it. -/
theorem State.laneUnlock_all (l : List Nat) (s : State) (m : Nat) (h : m ∈ l ∨ (s.lane m).lock = false) :
    ((l.foldl (fun s n => s.laneUnlock n) s).lane m).lock = false := by
  induction l generalizing s with
  | nil =>
    rcases h with h | h
    · cases h
    · exact h
  | cons n l ih =>
    have hself : ((s.lane n).unlocked).lock = false := by
      unfold Lane.unlocked
      split
      · rfl
      · next hoff => exact eq_false_of_ne_true hoff
    refine ih (s.laneUnlock n) ?_
    rw [State.laneUnlock_lane]
    by_cases hmn : m = n
    · exact .inr (by rw [if_pos hmn, hself])
    · rw [if_neg hmn]
      rcases h with h | h
      · exact .inl ((List.mem_cons.mp h).resolve_left hmn)
      · exact .inr h

/-! ### The statement -/

/-- Settles O60: the boot by `BootedBare`, a record by the command it runs as, the flash commands byte by byte. -/
theorem bootAndFlash : Obligations.BootAndFlash := by
  unfold Obligations.BootAndFlash
  refine ⟨?start, ?idle, ?waits, ?runs, ?read, ?write, ?jtag⟩
  case start =>
    intro s x
    have hexec : exec (.bootStart x) s = effectInReset true s (s.bootStart x) := rfl
    refine ⟨fun hup hready => ?_, fun hreset htest => ?_, fun hreset htest hno => ?_⟩
    · have hrun : s.bootStart x = s := if_pos (by rw [hup, hready]; rfl)
      rw [hrun] at hexec
      exact gives_effectInReset hexec rfl rfl
    · have hrun : s.bootStart x = { s with boot := { s.boot with straps := x }, pwr := { s.pwr with inReset := true } } :=
        (if_neg (by rw [hreset]; exact Bool.false_ne_true)).trans (if_pos htest)
      let t : State := { s with boot := { s.boot with straps := x } }
      have ht : Touches [.boot, .pwr] s t := Touches.set_boot (Touches.refl _ s) rfl
      have hframe : Touches [.boot, .pwr] s { t with pwr := { t.pwr with inReset := true } } := Touches.set_pwr ht rfl
      rw [hrun] at hexec
      exact gives_effectInReset hexec rfl ⟨rfl, rfl, hframe.carry⟩
    · have hrun : s.bootStart x = s.boot! x :=
        (if_neg (by rw [hreset]; exact Bool.false_ne_true)).trans (if_neg (by rw [htest]; exact Bool.false_ne_true))
      obtain ⟨hboot, hpll, hrefclk, hflash, hpers, -, -, -⟩ := s.boot!_bare hno
      rw [hrun] at hexec
      generalize s.boot! x = t at *
      exact gives_effectInReset hexec rfl ⟨hboot, hpll, hrefclk, hflash, hpers⟩
  case idle =>
    intro s late hup h
    have hexec : exec (.bootCommandRecord late) s = effect true s (s.bootCommandRecord late) := rfl
    rw [State.bootCommandRecord_idle late h] at hexec
    exact gives_effect hexec hup rfl rfl
  case waits =>
    intro s raw l hup hcmds hidle hbusy
    have hexec : exec (.bootCommandRecord false) s = effect true s (s.bootCommandRecord false) := rfl
    rw [State.bootCommandRecord_waits hcmds hbusy] at hexec
    exact gives_effect hexec hup rfl rfl
  case runs =>
    intro s late raw l d c hup hcmds hidle hready hd hwf hext hmem
    subst hd
    have hruns : exec (c (recordCmd raw)) (s.recordTaken l) =
        effect (recordCmd raw).wf (s.recordTaken l) ((s.recordTaken l).cmdRun (leAt raw 0 2) (recordCmd raw)) :=
      recordCommands_run _ hmem _ _
    have hexec : exec (.bootCommandRecord late) s = effect true s (s.bootCommandRecord late) := rfl
    rw [State.bootCommandRecord_runs hcmds hidle hready hext] at hexec
    generalize (s.recordTaken l).cmdRun (leAt raw 0 2) (recordCmd raw) = u at *
    refine gives_effect hexec hup rfl ?_
    exact hruns.trans (effect_next hup hwf)
  case read =>
    intro s d us hup hm hwf hno hA hB hon hfw hacc
    have hexec : exec (.flashRead d us) s = effect d.wf s (s.flashReadCmd d us) := rfl
    obtain ⟨hin, hout, hflash⟩ := State.flashCopied_gives hm (State.flashChecks_range (by decide) hacc.goodArg)
    rw [State.flashReadCmd_copies us hacc hno hA hB hon hfw] at hexec
    generalize s.flashCopied d = u at *
    exact gives_effect hexec hup hwf ⟨hin, hout, rfl, hflash⟩
  case write =>
    intro s d ms hup hm hwf hno hidle hon hacc
    have hexec : exec (.flashWrite d true ms) s = effect d.wf s (s.flashWriteCmd d true ms) := rfl
    have heng : (s.startKeyed d).eng = s.eng := s.startCmd_eng d
    have hflash : (s.startKeyed d).flash = s.flash := s.startCmd_flash d
    have hkey : ((s.startKeyed d).key d.src.path).unlocked = false := congrArg KeySt.unlocked
      (Tab.get_set_self _ _ _ _ : (s.startKeyed d).key d.src.path = { (s.startCmd d).key d.src.path with unlocked := false })
    rw [State.flashWriteCmd_writes ms hacc hno hidle hon] at hexec
    generalize s.startKeyed d = u at *
    obtain ⟨hbytes, heng', hkeys⟩ := u.flashWritten_gives d
    generalize u.flashWritten d = t at *
    have hlen : (u.spadBytes (d.arg 16 4) (d.arg 20 4)).length = d.arg 20 4 := Memory.reads_length _ _ _ _
    have hback := Memory.reads_writes (hflash ▸ hm.2) (d.arg 12 4) (u.spadBytes (d.arg 16 4) (d.arg 20 4))
    rw [← hbytes, hlen] at hback
    refine gives_effect hexec hup hwf ⟨fun i hi => ?_, fun a ha => ?_, rfl, ?_, heng'.trans heng⟩
    · refine (Memory.read_of_reads hback hi).trans ?_
      rw [heng]
    · refine (congrArg (fun m => Memory.read flashErased m a) hbytes).trans ?_
      rw [Memory.read_writes_out _ _ _ _ _ (by rw [hlen]; exact ha), hflash]
    · show t.unlocked d.src.path = false
      rw [State.unlocked, State.key, hkeys]
      exact (congrArg (_ && ·) hkey).trans (Bool.and_false _)
  case jtag =>
    intro s c hc
    have hexec : exec (.jtagUpdateIr c) s = effectInReset (decide (c < 256)) s (s.jtagUpdateIr c) := rfl
    refine ⟨fun hstay => ?_, fun hup hscan hwas => ?_⟩
    · have hrun : s.jtagUpdateIr c = { s with pwr := { s.pwr with scan := scanCode c, jtagIr := c } } := if_pos hstay
      have hframe : Touches [.pwr] s { s with pwr := { s.pwr with scan := scanCode c, jtagIr := c } } :=
        Touches.set_pwr (Touches.refl _ s) rfl
      rw [hrun] at hexec
      exact gives_effectInReset hexec (decide_eq_true hc) ⟨rfl, hframe.carry⟩
    · have hrun : s.jtagUpdateIr c = (List.range s.variant.ports).foldl (fun s n => s.laneUnlock n)
          { s with pwr := { s.pwr with scan := scanCode c, jtagIr := c } } :=
        (if_neg (by rw [hup, hscan, hwas]; simp)).trans (if_pos hscan)
      have hall := fun n (hn : n < s.variant.ports) => State.laneUnlock_all (List.range s.variant.ports)
        { s with pwr := { s.pwr with scan := scanCode c, jtagIr := c } } n (.inl (List.mem_range.mpr hn))
      rw [← hrun] at hall
      generalize s.jtagUpdateIr c = t at *
      exact gives_effectInReset hexec (decide_eq_true hc) hall

end Sys2Proof.Machine
end
